-- ==== Sys2Proof/Word.lean ====
section
/-! DEFINITION. The plain word types of the bay (R8): 32-bit registers, bytes, and the plainest arithmetic on them. -/

namespace Sys2Proof

/-- A 32-bit register or program word (R8). -/
abbrev Word := BitVec 32

/-- One byte of memory (R8: multi-byte values are little-endian). -/
abbrev Byte := BitVec 8

/-- A 64-bit quantity as the two words of a LO and HI register pair (R134). -/
def loWord (v : Int) : Nat := (v % 4294967296).toNat

/-- The upper word of a 64-bit quantity (R134). -/
def hiWord (v : Int) : Nat := ((v / 4294967296) % 4294967296).toNat

end Sys2Proof
end

