-- ==== Sys2Proof/Syntax.lean ====
section
/-! DEFINITION. The commands of the bay: one constructor for each row of spec/opcode_table.json, and what comes with them from the world outside the bay's logic: readings, frames and messages. -/

namespace Sys2Proof

/-- A reading of one channel as its decimator gives it: voltage in 0.1 µV, current in 0.1 µA, before correction (R107, R116). -/
structure Reading where
  chan : Fin 64
  v : Int
  i : Int
  deriving DecidableEq, Repr

/-- The voltage across the path of a channel and its current, as its stage reads them at an update (R77): the sense pair and the node in µV, the current in µA. -/
structure PathReading where
  v : Int
  node : Int
  i : Int
  deriving DecidableEq, Repr

/-- The current in µA of a phase at its peak limit (R75). -/
structure PeakIn where
  chan : Fin 64
  phase : Fin 4
  i : Int
  deriving DecidableEq, Repr

/-- The node of a channel in µV, now and 2 µs ago (R81). -/
structure NodeDip where
  chan : Fin 64
  node : Int
  before : Int
  deriving DecidableEq, Repr

/-- The gate driver that sends a status word, and its fault bits (R93). -/
structure DriverStatus where
  driver : Fin 70
  faults : BitVec 8
  deriving DecidableEq, Repr

/-- The end of a group without a message, or the break of another stake (R202): its generation, its timestamp and whether it came of a count mismatch. -/
structure BreakIn where
  grp : Fin 16
  msg : Option (BitVec 16 × Nat × Bool)
  deriving DecidableEq, Repr

/-- The current in mA of an axis leg that has tripped its comparator (R283). -/
structure LegTrip where
  axis : Fin 6
  i : Int
  deriving DecidableEq, Repr

/-- The payload of a WRITE (R9, R426): its whole words, and how many bytes of a further word it holds. -/
structure WriteData where
  words : List (BitVec 32)
  part : Fin 4
  deriving DecidableEq, Repr

/-- What a sample frame brings of one channel (R24, R107): the control-path reading, the node in µV, the phase currents in µA. -/
structure ChanSample where
  chan : Fin 64
  v : Int
  i : Int
  node : Int
  ph : List Int
  deriving DecidableEq, Repr

/-- What a sample frame brings of one wale: the section bus in mV, the converter's node-side power and the wale's loss in W, the converter's junction estimate in 0.01 °C. -/
structure SecSample where
  sec : Fin 4
  busV : Int
  convP : Int
  loss : Int
  convTj : Int
  deriving DecidableEq, Repr

/-- What a sample frame brings of one axis: phase currents in mA, the injection and observer angles in 2^-32 turn, the speed in 0.1 rpm, the force in N, the hottest leg in 0.01 °C. -/
structure AxisSample where
  axis : Fin 6
  iu : Int
  iv : Int
  iw : Int
  thInj : Int
  thObs : Int
  w : Int
  force : Int
  legTj : Int
  deriving DecidableEq, Repr

/-- A word of a memory that has failed by itself (R369): cartridge, memory (0 DRAM, 1 SRAM, 2 MRAM), word number, and whether two bits are in error. -/
structure Upset where
  cart : Fin 2
  memory : Fin 3
  word : Nat
  double : Bool
  syn : BitVec 8
  deriving DecidableEq, Repr

/-- What the bay sees of its surroundings at a frame edge (R24): the samples that close there, the plant entry in mV and mA, the node and the axis bus in mV, the axis converter's node-side power in W, the EHM-1 oven with its temperature and whether it is in its band, and memory words that have failed. -/
structure FrameIn where
  chans : List ChanSample
  secs : List SecSample
  axes : List AxisSample
  x1V : Int
  x1I : Int
  nodeV : Int
  axV : Int
  axNodeP : Int
  oven : Option (Int × Bool)
  upsets : List Upset
  deriving DecidableEq, Repr

/-- What the two upsett channels meet at X40 and on their drives in one safety cycle (R307 to R312): the inputs as CA's and CB's channel sampled them (bits 0 to 15 SI0A to SI7B, 16 SRESET), the inputs whose samples changed within the cycle, contact inputs that show the other supply's pulses or none, FBj closed, outputs that read on, targets whose drive commands differ, the safety link. -/
structure SafeIn where
  a : BitVec 17
  b : BitVec 17
  ua : BitVec 17
  ub : BitVec 17
  shorts : BitVec 16
  fb : BitVec 4
  outOn : BitVec 4
  drive : BitVec 12
  link : Bool
  deriving DecidableEq, Repr

/-- A test pulse and what was read back (R311, R319, R322): of the contact supplies with the inputs found shorted, of the STO lines, of an output. -/
inductive PulseTest where
  | supply (shorts : BitVec 16)
  | sto (pass : Bool)
  | output (j : Fin 4) (pass : Bool)
  deriving DecidableEq, Repr

/-- The temperature and flow sensors (R356, R357): cell sensors, phase and cell switches, the eight switches of a converter (0 to 3 the wales, 4 slot X), axis legs, coolant plates (0 to 3 S0 to S3, 4 X, 5 M), the manifold's three, the control dies, and those of the oscillator (0) and the wale references (1 to 4). -/
inductive Sensor where
  | cell (c : Fin 64) (w : Fin 2)
  | phase (c : Fin 64) (p : Fin 4)
  | cellSwitch (c : Fin 64)
  | conv (n : Fin 5) (k : Fin 8)
  | leg (a : Fin 6) (k : Fin 3)
  | plate (n : Fin 6)
  | inlet
  | outlet
  | flow
  | die (x : Fin 2)
  | comp (k : Fin 5)
  deriving DecidableEq, Repr

/-- What an output stage receives of one command frame (R341, R342): whether its CRC is good, ROLE, SEQ, SUSPECT, NEW and INDEX. -/
structure CmdIn where
  crc : Bool
  role : BitVec 2
  seq : BitVec 6
  suspect : Bool
  fresh : Bool
  index : Fin 4
  deriving DecidableEq, Repr

/-- What the compute deadline finds (R244, R339): the loops that are not complete (object, and 0 a channel or current loop, 1 a speed loop, 2 a position or force loop), the completion offsets of the four lanes, the slots whose command CRCs differ, whether the state digests differ, and the cartridge whose self-diagnostics name it. -/
structure FrameEnd where
  missed : List (Fin 70 × Fin 3)
  ends : List Nat
  crcDiffer : BitVec 5
  digestDiffer : Bool
  blame : Option (Fin 2)
  deriving DecidableEq, Repr

/-- A TIME message as a port receives it (R421): the plane, the master's address, T_ORIGIN and the correction in ns, whether the master is on the PTP timescale, and TAI−UTC. -/
structure TimeIn where
  plane : Fin 2
  port : Fin 3
  master : Fin 64
  origin : Int
  corr : Int
  ptp : Bool
  utc : BitVec 8
  deriving DecidableEq, Repr

/-- What a link handshake brings of the peer (R409): its plane, serial number, whether its chain and signature verify, and its authority digest. -/
structure PeerIn where
  plane : Fin 2
  serial : BitVec 64
  chainOk : Bool
  digest : List Byte
  deriving DecidableEq, Repr

/-- A frame as a Weave port receives it (R410, R412): whether its tag verifies, key slot, CTR and, decrypted, its class, TYPE, DST, SRC, TTL, SEQ and payload length. -/
structure WFrame where
  tagOk : Bool
  slot : Fin 2
  ctr : BitVec 64
  cls : Fin 3
  type : BitVec 8
  dst : BitVec 8
  src : BitVec 8
  ttl : BitVec 8
  seq : BitVec 32
  len : BitVec 16
  deriving DecidableEq, Repr

/-- A repair table as the rim sends it (R417): plane, the link or stake left out, 64 entries. -/
structure RepairIn where
  plane : Fin 2
  a : Fin 64
  b : Option (Fin 64)
  entries : List (BitVec 16)
  deriving DecidableEq, Repr

/-- What a port of a stake sees (R415): plane, port, serial number of the peer. -/
structure PortPeer where
  plane : Fin 2
  port : Fin 3
  peer : BitVec 64
  deriving DecidableEq, Repr

/-- A CAN frame without error on the bus (R435, R441): identifier, remote frame, format bits, DLC, data, the ticks since its start of frame, and whether the controller that drives the bus and the standby's received it. -/
structure CanFrame where
  ide : Bool
  id : BitVec 29
  remote : Bool
  fdf : Bool
  brs : Bool
  esi : Bool
  dlc : BitVec 4
  data : List Byte
  ago : BitVec 24
  active : Bool
  standby : Bool
  deriving DecidableEq, Repr

/-- The types of bus error (R444). -/
inductive CanErrType where
  | bit | stuff | crc | form | ack
  deriving DecidableEq, Repr

/-- A bus error (R444, R445): its type, whether the controller was transmitting, whether ISO 11898-1 exempts it from counting, how many times the dominant bits after its error flag count again, and the send object whose own frame met a bit error after the arbitration field. -/
structure CanError where
  type : CanErrType
  tx : Bool
  exempt : Bool
  more : BitVec 4
  clash : Option (Fin 128)
  deriving DecidableEq, Repr

/-- How an attempt to send ended (R437, R443). -/
inductive CanOutcome where
  | success | error | noAck | arbLost | truncated
  deriving DecidableEq, Repr

/-- A cartridge put into a slot (R2, R481, R513). A blank; an EHC-2 with whether its MRAM names this chassis, whether its secure element works, the SVN_MIN and the preferred bank it keeps; an EHS-16, S or A, with what its FRAM records next; an EHX-6; an EHM-1 with its certificate and serial number. -/
inductive Cartridge where
  | blank
  | ehc (ours se : Bool) (svnMin : BitVec 16) (pref : Fin 2)
  | ehs (s : Bool) (next : BitVec 16) (seq : BitVec 32)
  | ehx
  | ehm (cert : List Byte) (serial : BitVec 64)
  deriving DecidableEq, Repr

/-- The commands of the bay, one for each row of the opcode table. -/
inductive Instr where
  /-- REGISTER_WRITE (R12): A host write to a register field that has no row of its own takes effect, is shadowed or is refused according to its access code. -/
  | registerWrite (a : BitVec 32) (v : BitVec 32)
  /-- FRAME_EDGE (R24): At every bay time that is a multiple of 5,000 ticks a control frame opens: decimators close, RWS fields commit, Skein setpoints latch and the loops compute. -/
  | frameEdge (j : FrameIn)
  /-- SAMPLE_FRAME_SEND (R24): At t0 + 2.0 µs each wale, slot X and slot M send their sample frame to both cartridges. -/
  | sampleFrameSend
  /-- SAMPLE_FRAME_EXCHANGE (R338): At t0 + 3.0 µs the cartridges exchange sample frame CRCs, supply missing copies and treat unequal frames as missing. -/
  | sampleFrameExchange (ca : BitVec 6) (cb : BitVec 6) (differ : BitVec 6)
  /-- COMMAND_FRAME_SEND (R25): At its fixed offset each cartridge sends command frame 0, 1, 2 or 3 with its claim and CRC. -/
  | commandFrameSend (j : Fin 4)
  /-- COMMAND_FRAME_RECEIVE (R343): An output stage classifies a received command frame and accepts its targets if it comes good from the holder. -/
  | commandFrameReceive (n : Fin 5) (x : Fin 2) (f : CmdIn)
  /-- HOLDER_MISS (R343): No good frame from the holder within 12 µs counts a miss, and the second miss moves the holder. -/
  | holderMiss (n : Fin 5)
  /-- COMPUTE_DEADLINE (R244): At t0 + 30.0 µs incomplete loops miss their deadline, the command CRCs are compared and background work begins. -/
  | computeDeadline (e : FrameEnd)
  /-- COMMAND_FRAME_TIMEOUT (R30): A stage without an accepted command frame for 100 µs ramps to zero, puts axes in STO and takes the bay to SAFE-STOP. -/
  | commandFrameTimeout (n : Fin 5)
  /-- MS_TICK (R149): At every bay time multiple of 125,000 ticks the step end conditions, timers and waits are evaluated. -/
  | msTick (x60 : List (Fin 6 × Int))
  /-- TERMINATION (R150): The termination qualification count reaches T_QUAL and sets TRM, ending the step with cause 9. -/
  | termination (c : Fin 64)
  /-- SAFETY_TIMER_EXPIRE (R152): SFT reaches T_SAFE and the step ends with cause 6 into HOLD. -/
  | safetyTimerExpire (c : Fin 64)
  /-- STEP_TIME_EXPIRE (R149): The step timer reaches T_STEP, sets TO and ends the step with cause 10. -/
  | stepTimeExpire (c : Fin 64)
  /-- PULSE_LEVEL_CHANGE (R138): A PULSE step changes level at the frame edge after T1 or T2 has run. -/
  | pulseLevelChange (c : Fin 64)
  /-- ZONE_CHANGE (R148): A new zone takes effect at the frame edge, its entry is tested, qualification restarts and ZCH is raised. -/
  | zoneChange (c : Fin 64)
  /-- TOPOFF_END (R157): T_TOP elapses in a legacy step, which ends with cause 9 and enters the legacy watch in REST. -/
  | topoffEnd (c : Fin 64)
  /-- LEGACY_RECHARGE (R158): Cell voltage below V_RECHG for T_RQUAL restarts the same step as an automatic recharge. -/
  | legacyRecharge (c : Fin 64)
  /-- INTERVAL_CLOSE (R162): At every multiple of 125,000,000 ticks a started cell writes an interval entry. -/
  | intervalClose
  /-- SEAL_TRIGGER (R160): 1,014 slots since the last seal, or a cell end, reserves 10 slots for a seal. -/
  | sealTrigger (c : Fin 64)
  /-- SEAL_WRITTEN (R466): The seal is signed with the record key, chained and written, or written unsigned with QUARANTINE. -/
  | sealWritten (c : Fin 64) (fail : BitVec 2)
  /-- RING_NEAR_FULL (R165): Ring fill at 130,048 slots puts the channel in HOLD with cause 11. -/
  | ringNearFull (c : Fin 64)
  /-- RING_FULL (R165): A full ring soft-stops the channel, stops intervals and counts dropped entries. -/
  | ringFull (c : Fin 64)
  /-- RING_SPACE_RETURN (R165): When released space returns a record-gap event is written first and held cell-end entries follow. -/
  | ringSpaceReturn (c : Fin 64)
  /-- CELL_END (R160): A write of CHNcc.REG_CTL.CELL_END with the switch open ends the cell with a cell-end entry and seal. -/
  | cellEnd (c : Fin 64)
  /-- HOLD_CLR (R154): A write of HOLD_CLR after an arming read clears HOLD causes 5–8. -/
  | holdClr (c : Fin 64)
  /-- REG_STAT_READ (R154): A read of CHNcc.REG_STAT with the cause gone sets CLR_ARMED. -/
  | regStatRead (c : Fin 64)
  /-- TEMPERATURE_SAMPLE (R356): A sensor is sampled at its rate and its reading updates estimates, zones and rate selection. -/
  | temperatureSample (x : Sensor) (v : Int) (fault : Bool)
  /-- SENSOR_RATE_SLOW (R356): A sensor more than 12 K below its limit for 1 s returns to 10 Hz. -/
  | sensorRateSlow (x : Sensor)
  /-- FLOW_LOSS (R360): Flow below 2.0 L/min for 5 s is a thermal shutdown with cause 3. -/
  | flowLoss
  /-- COMPENSATION_UPDATE (R357): Every 100 ms the oscillator and references are compensated, or compensation freezes on an invalid sensor. -/
  | compensationUpdate
  /-- TSD_READ (R364): A read of THM.TSD during shutdown sets CLR_ARMED. -/
  | tsdRead
  /-- TSD_CLR (R364): A write of TSD_CLR after the read with every trip quantity clear ends the shutdown with event 188. -/
  | tsdClr
  /-- X1_LOW (R45): X1 at 600–650 V for 10 ms raises a power event while the current cap limits power. -/
  | x1Low (v : Int)
  /-- PLANT_BUS_LOSS (R45): X1 below 600 V for 50 µs opens the entry switch and starts ride-through or SAFE-STOP. -/
  | plantBusLoss (v : Int)
  /-- X1_OVERVOLTAGE (R45): X1 above 920 V for 10 ms or above 960 V for 50 µs is handled as plant-bus loss and opens the contactor. -/
  | x1Overvoltage (v : Int)
  /-- X1_OVERCURRENT (R45): X1 current above 150 A opens the entry switch within 5 µs as plant-bus loss. -/
  | x1Overcurrent (j : Int)
  /-- CONTACTOR_MISMATCH (R45): An auxiliary contact disagreeing 30 ms after its command sets STATE = FAULT. -/
  | contactorMismatch
  /-- CONNECT (R48): A write of PWR.ENTRY_CTL.CONNECT checks its conditions and starts pre-charge. -/
  | connect
  /-- LOCKOUT_EXPIRE (R49): The 300 s pre-charge lockout ends. -/
  | lockoutExpire
  /-- PRECHARGE_DONE (R48): The node within 20 V of X1 closes the main contactor. -/
  | prechargeDone (vNode : Int)
  /-- CONTACTOR_CONFIRMED (R48): The auxiliary contact confirms, the pre-charge relay opens and STATE becomes CLOSED. -/
  | contactorConfirmed
  /-- PRECHARGE_TIMEOUT (R48): The node not within 20 V by t0 + 2.0 s opens the relay with cause pre-charge timeout. -/
  | prechargeTimeout
  /-- OPEN (R46): A write of PWR.ENTRY_CTL.OPEN ramps every channel to zero and opens the entry for a planned disconnect. -/
  | openEntry
  /-- PLANNED_DISCONNECT_DONE (R46): The entry switch and contactor have opened and the bay goes to STANDBY. -/
  | plannedDisconnectDone
  /-- NODE_OVERVOLTAGE (R50): Node above 980 V stops every converter feeding the node until it falls below 950 V. -/
  | nodeOvervoltage (v : Int)
  /-- SECTION_BUS_OVERVOLTAGE (R50): Section bus above 26.5 V for 10 µs stops the converter and puts the wale in FAULT. -/
  | sectionBusOvervoltage (n : Fin 4) (v : Int)
  /-- OVERLOAD_BUDGET_EMPTY (R51): An overload budget reaching 0 drops its cap to the continuous rating in the same frame. -/
  | overloadBudgetEmpty (h : Fin 6)
  /-- OVERLOAD_BUDGET_REFILLED (R51): A refilled overload budget restores the short-term cap and raises event 246. -/
  | overloadBudgetRefilled (h : Fin 6)
  /-- DRAIN (R52): A write of SECn.CTL.DRAIN withdraws the wale, ramps its channels, stops its converter and opens its disconnect. -/
  | drain (n : Fin 4)
  /-- DRAIN_COMPLETE (R52): The wale's node-side capacitance below 60 V sets STATE = DRAINED. -/
  | drainComplete (n : Fin 4)
  /-- RUN (R52): A write of SECn.CTL.RUN returns a drained wale to service through pre-charge. -/
  | run (n : Fin 4)
  /-- AXIS_BUS_RETURN (R53): Axis bus above 50.0 V reverses the axis converter into the node. -/
  | axisBusReturn (v : Int)
  /-- BRAKE_CHOPPER_SWITCH (R53): Axis bus above 54.0 V switches the chopper on, and below 52.0 V off. -/
  | brakeChopperSwitch (v : Int)
  /-- AXIS_BUS_OVERVOLTAGE (R53): Axis bus above 58.0 V puts all axes in STO with press brakes engaged. -/
  | axisBusOvervoltage (v : Int)
  /-- AXIS_BUS_UNDERVOLTAGE (R285): Axis bus below 40.0 V for 10 ms puts all axes in STO, cause 0x0A. -/
  | axisBusUndervoltage (v : Int)
  /-- CHOPPER_FAULT (R54): Chopper read-back mismatch sets CHOP_FLT and acts by the kind of failure. -/
  | chopperFault (conducts : Bool)
  /-- CHOPPER_TEST_START (R56): At entry to ENERGIZED, the first edge with the axis bus at 46–50 V starts the chopper test. -/
  | chopperTestStart
  /-- CHOPPER_TEST_PHASE (R56): After each 2 ms interval the chopper test commands the chopper on or off for the next interval. -/
  | chopperTestPhase (j : Int)
  /-- CHOPPER_TEST_RESULT (R56): At t0 + 6 ms the test passes and clears CHOP_FLT or fails and sets it. -/
  | chopperTestResult (j : Int)
  /-- DONOR_LOST (R65): A donor below RT_VMIN or with an absent cell leaves the donor set. -/
  | donorLost (c : Fin 64)
  /-- RIDE_THROUGH_TIMEOUT (R66): TMAX elapses in ride-through without the plant bus and the bay enters SAFE-STOP. -/
  | rideThroughTimeout
  /-- RIDE_THROUGH_NODE_LOW (R66): The node below 500 V for 10 ms ends ride-through in SAFE-STOP. -/
  | rideThroughNodeLow (v : Int)
  /-- PLANT_BUS_RETURN (R67): X1 in range for 2 s during ride-through reconnects without pre-charge and resumes or holds. -/
  | plantBusReturn (vNode : Int)
  /-- PEAK_LIMIT (R75): A phase current reaching its peak limit ends or starts an on-time at once and sets PEAK. -/
  | peakLimit (c : PeakIn)
  /-- PEAK_LIMIT_PERSISTENT (R75): A peak limit acting every period for 100 µs raises cause 0x09. -/
  | peakLimitPersistent (c : Fin 64) (p : Fin 4)
  /-- RPATH_UPDATE (R77): The path resistance estimate is updated over 100 ms, with an event at a bound. -/
  | rpathUpdate (c : Fin 64) (x : PathReading)
  /-- CHANNEL_SHED (R79): Current below 20 A for 1 ms sheds the channel to its coolest healthy phase. -/
  | channelShed (c : Fin 64)
  /-- PHASE_REINSTATE (R80): Current reaching 24 A reinstates all healthy phases of a shed channel. -/
  | phaseReinstate (c : Fin 64) (j : Int)
  /-- ALL_PHASE_FIRE (R81): An undershoot fires one on-time on every idle healthy phase and aborts shedding. -/
  | allPhaseFire (c : NodeDip)
  /-- CELL_SWITCH_CLOSED (R84): Pre-bias met for 20 µs plus gate charge closes the cell switch and starts the soft-start ramp. -/
  | cellSwitchClosed (c : Fin 64) (vNode : Int)
  /-- PREBIAS_TIMEOUT (R84): Pre-bias not met by 2 ms leaves the switch open, stage OFF, cause 0x0E. -/
  | prebiasTimeout (c : Fin 64)
  /-- SOFT_STOP_COMPLETE (R85): Current below 1 A for 100 µs opens the cell switch and the stage goes OFF. -/
  | softStopComplete (c : Fin 64)
  /-- OVERVOLTAGE_LATCH (R87): Node or sense above V_ov for 200 ns sets the latch, crowbars the node and opens the switch. -/
  | overvoltageLatch (c : Fin 64) (vNode : Int) (vSense : Int)
  /-- FLT_READ (R105): A read of CHNcc.FLT while a latch or fault is set sets CLR_ARMED. -/
  | fltRead (c : Fin 64)
  /-- OV_CLR (R88): A write of OV_CLR after the armed read releases the overvoltage latch to OFF. -/
  | ovClr (c : Fin 64)
  /-- CELL_ABSENT (R89): A slew or force/sense disagreement opens the switch, crowbars the node and puts the channel in HOLD. -/
  | cellAbsent (c : Fin 64) (slew : Bool)
  /-- CROWBAR_END (R89): After 1 ms of crowbar on a cell-absent channel all switches turn off. -/
  | crowbarEnd (c : Fin 64)
  /-- ABS_CLR (R89): A write of ABS_CLR after the armed read clears cell absent to OFF. -/
  | absClr (c : Fin 64)
  /-- PHASE_OUT_OF_SERVICE (R90): A phase open or in sense disagreement for eight periods is taken out and the channel limit lowered. -/
  | phaseOutOfService (c : Fin 64) (p : Fin 4) (isOpen : Bool)
  /-- PH_CLR (R92): A write of PH_CLR after the armed read returns out-of-service phases to the rotation. -/
  | phClr (c : Fin 64)
  /-- FLT_CLR (R92): A write of CHNcc.STG_CTL.FLT_CLR after the armed read clears STAGE = FAULT to OFF. -/
  | fltClr (c : Fin 64)
  /-- STROKE_WORD (R94): A gate driver acts on a valid stroke word or discards and counts a bad one. -/
  | strokeWord (d : Fin 70) (w : BitVec 16)
  /-- STROKE_KEEPALIVE (R94): The modulator sends a keep-alive when no word has gone for 400 ns. -/
  | strokeKeepalive (d : Fin 70)
  /-- STATUS_WORD (R93): A gate driver returns its charge-pump voltages and fault bits every 1 µs. -/
  | statusWord (d : DriverStatus) (good : Bool) (p0 : Nat) (p1 : Nat) (p2 : Nat) (p3 : Nat) (sw : Nat)
  /-- STROKE_LINK_LOST (R96): A driver without a valid word for 800 ns turns every switch off and the channel faults with 0x08. -/
  | strokeLinkLost (d : Fin 70)
  /-- PHASE_PUMP_TRIP (R97): A phase high-side charge pump below 8.0 V turns the switch off and takes the phase out with 0x06. -/
  | phasePumpTrip (c : Fin 64) (p : Fin 4)
  /-- CELL_SWITCH_PUMP_LOW (R97): The cell-switch pump at its warning or trip level opens the switch with cause 0x07. -/
  | cellSwitchPumpLow (c : Fin 64) (trip : Bool)
  /-- CHANNEL_SAFE_OFF_DROP (R98): A dropped safe-off line turns every switch of the wale off within 5 µs and holds its channels with cause 12. -/
  | channelSafeOffDrop (n : Fin 4)
  /-- CHANNEL_SAFE_OFF_RELEASE (R98): Both safe-off lines energised again take SAFE_OFF channels to OFF at the next frame edge. -/
  | channelSafeOffRelease (n : Fin 4)
  /-- FRAM_RECORD_WRITTEN (R103): The section modulator completes a queued fault record in the history ring and last-fault slot. -/
  | framRecordWritten (n : Fin 4)
  /-- RANGE_UP (R110): A reading above 105 % or an anticipated target moves the current range up with a bridge. -/
  | rangeUp (c : Fin 64) (reading : Int)
  /-- RANGE_DOWN (R111): Reading and target below 8 % for 10 ms move the range down by one step. -/
  | rangeDown (c : Fin 64)
  /-- RANGE_BRIDGE_END (R112): After eight modulator clocks the decimators take modulator codes in the new range. -/
  | rangeBridgeEnd (c : Fin 64)
  /-- SPECTRAL_BOUNDARY (R115): At each multiple of 25,000 ticks the spectral path closes a sample. -/
  | spectralBoundary (rs : List Reading)
  /-- PRECISION_WINDOW_CLOSE (R115): At each precision window boundary the precision path posts voltage and current. -/
  | precisionWindowClose (rs : List Reading)
  /-- MAINS_WRITE (R115): An accepted MAINS write discards the window in progress and reopens precision windows at the new length. -/
  | mainsWrite (v : BitVec 1)
  /-- REF_CTL_WRITE (R117): A write of MEAS.REF_CTL enables or disables a wale's reference buffers. -/
  | refCtlWrite (v : BitVec 4)
  /-- REF_READY (R117): 50 ms after enable REF_RDY sets, NREF clears and held closures start pre-bias. -/
  | refReady (n : Fin 4)
  /-- SCAL_CTL_WRITE (R118): A write of MEAS.SCAL_CTL starts self-calibration of the named wales. -/
  | scalCtlWrite (m : BitVec 4)
  /-- SELF_CAL_SLOT (R118): Each 40 ms self-calibration slot applies its source and integrates. -/
  | selfCalSlot (n : Fin 4) (k : Fin 7) (rs : List (Int × Int))
  /-- SELF_CAL_COMPLETE (R119): Factors are checked and written, inputs reconnected, BUSY cleared and event 233 raised. -/
  | selfCalComplete (n : Fin 4)
  /-- OVEN_READY (R123): The oven within ±0.05 K for 30 min sets OVEN_RDY. -/
  | ovenReady
  /-- METER_ENTRY (R124): At a precision window boundary the meter moves to the next valid entry and integrates its zero. -/
  | meterEntry
  /-- METER_RESULT (R124): The meter posts an entry's result with its outcome code. -/
  | meterResult (m : Int)
  /-- LOW_WORD_READ (R134): A read of the low word of a 64-bit pair latches the high word. -/
  | lowWordRead (a : BitVec 32)
  /-- HCMD_GO (R176): A write of EIS.HCMD.GO requests a sweep on the masked channels at a sweep edge. -/
  | hcmdGo
  /-- HCMD_ABORT (R181): A write of EIS.HCMD.ABORT ends host-started sweeps on the masked channels with END = 4. -/
  | hcmdAbort
  /-- SWEEP_EDGE (R176): At a 100 ms sweep edge requested sweeps start or are refused and donor offers end. -/
  | sweepEdge
  /-- POINT_START (R178): At the spectral boundary opening a point the generator starts at its frequency with its start amplitude. -/
  | pointStart (c : Fin 64)
  /-- SETTLE_PERIOD_END (R168): At the end of a settle period the amplitude loop updates A_v. -/
  | settlePeriodEnd (c : Fin 64)
  /-- MEASURE_WINDOW_CLOSE (R178): A measure window closes and the generator moves to the next point. -/
  | measureWindowClose (c : Fin 64)
  /-- POINT_RESULT (R179): After the group delay the point's Z is solved and posted. -/
  | pointResult (c : Fin 64)
  /-- GRADING_VECTOR (R184): 100 ms after the last point the vector is fitted, entries are written and event 235 raised. -/
  | gradingVector (c : Fin 64)
  /-- ENGINE_START (R193): A START in ENGcc_CTL checks R194 and puts the engine in STARTING. -/
  | engineStart (c : Fin 64)
  /-- ENGINE_STOP (R193): A STOP ends the step, soft-stops the channel and makes the engine STOPPED. -/
  | engineStop (c : Fin 64)
  /-- ENGINE_PAUSE (R193): A PAUSE makes the engine PAUSED and the channel hold with cause 2. -/
  | enginePause (c : Fin 64)
  /-- ENGINE_RESUME (R193): A RESUME returns the engine to the state held before the pause. -/
  | engineResume (c : Fin 64)
  /-- ENGINE_RELEASE (R206): A RELEASE after the armed FRZ read makes a frozen engine STOPPED. -/
  | engineRelease (c : Fin 64)
  /-- HSIG (R198): A write of ENGcc_CTL.HSIG sets event word bit 7. -/
  | hsig (c : Fin 64)
  /-- SCMD_START (R193): A masked START starts every masked engine at the edge named in SKN.T_AT. -/
  | scmdStart
  /-- SCMD_STOP (R193): A masked STOP stops every masked engine. -/
  | scmdStop
  /-- SCMD_PAUSE (R193): A masked PAUSE pauses every masked engine. -/
  | scmdPause
  /-- SCMD_RESUME (R193): A masked RESUME resumes every masked engine. -/
  | scmdResume
  /-- ENGINE_START_EDGE (R191): At its start edge a STARTING engine initialises its state, ends host targets and becomes RUNNING. -/
  | engineStartEdge (c : Fin 64)
  /-- FRZ_READ (R206): A read of ENGcc_FRZ while frozen sets CLR_ARMED. -/
  | frzRead (c : Fin 64)
  /-- NOP (R222): The instruction does nothing. -/
  | skNop (c : Fin 64)
  /-- HALT (R222): The engine enters HALTED. -/
  | skHalt (c : Fin 64)
  /-- END (R222): The engine stops as by a host STOP with END = 1. -/
  | skEnd (c : Fin 64)
  /-- TRAP (R222): The engine freezes with cause 10. -/
  | skTrap (c : Fin 64)
  /-- LDI (R222): A k register is loaded with a scaled immediate. -/
  | skLdi (c : Fin 64)
  /-- LDW (R222): A k register is loaded with the following code word over two turns. -/
  | skLdw (c : Fin 64)
  /-- MOV (R223): A value is moved between registers, scratch or constants. -/
  | skMov (c : Fin 64)
  /-- ADD (R222): B is added to k_D modulo 2³² with flags. -/
  | skAdd (c : Fin 64)
  /-- SUB (R222): B is subtracted from k_D modulo 2³² with flags. -/
  | skSub (c : Fin 64)
  /-- MUL (R222): k_D times k_S is scaled by a power of ten, exactly and saturated. -/
  | skMul (c : Fin 64)
  /-- DIV (R222): k_D scaled by a power of ten is divided by k_S over three turns. -/
  | skDiv (c : Fin 64)
  /-- MIN (R222): k_D takes the lesser of itself and B. -/
  | skMin (c : Fin 64)
  /-- MAX (R222): k_D takes the greater of itself and B. -/
  | skMax (c : Fin 64)
  /-- ABS (R222): k_D takes the saturated magnitude of k_S. -/
  | skAbs (c : Fin 64)
  /-- CMP (R222): k_D is compared with B and the flags are set. -/
  | skCmp (c : Fin 64)
  /-- CMPI (R222): k_D is compared exactly with a scaled immediate. -/
  | skCmpi (c : Fin 64)
  /-- BR (R224): PC moves by the offset when the condition holds. -/
  | skBr (c : Fin 64)
  /-- CALL (R224): The return PC is pushed and PC moves to the target. -/
  | skCall (c : Fin 64)
  /-- RET (R224): PC is popped from the call stack. -/
  | skRet (c : Fin 64)
  /-- LOOP (R224): k_D is decremented and PC branches while it is non-zero. -/
  | skLoop (c : Fin 64)
  /-- SETI (R225): k_D is written into I_SET, I_LIM or AUX after a border test. -/
  | skSeti (c : Fin 64)
  /-- SETV (R225): k_D is written into V_LIM after a border test. -/
  | skSetv (c : Fin 64)
  /-- SETP (R225): k_D is written into P_SET. -/
  | skSetp (c : Fin 64)
  /-- MODE (R225): A direct step in the given mode starts at the next edge after testing the whole step. -/
  | skMode (c : Fin 64)
  /-- RAMP (R226): The regulated set value moves linearly to k_D over k_S ms. -/
  | skRamp (c : Fin 64)
  /-- PULSE (R225): AUX and the PULSE level times are set. -/
  | skPulse (c : Fin 64)
  /-- PRESS (R228): A press force request stands for the wale's axis after border tests. -/
  | skPress (c : Fin 64)
  /-- WAIT (R229): The engine enters WAITING on a condition. -/
  | skWait (c : Fin 64)
  /-- WAITT (R229): The engine waits on a condition or a number of 1 ms ticks. -/
  | skWaitt (c : Fin 64)
  /-- WAITT_TIMEOUT (R229): The k_S-th tick after a WAITT ends the wait by time with Z = 1. -/
  | waittTimeout (c : Fin 64)
  /-- GET (R230): k_D is loaded with a selected channel value, clearing event bits where selected. -/
  | skGet (c : Fin 64)
  /-- GETA (R231): k_D is loaded with an accumulator value, saturated. -/
  | skGeta (c : Fin 64)
  /-- CLRA (R231): An accumulator takes a new base and quantity from its latch edge. -/
  | skClra (c : Fin 64)
  /-- ZONE (R232): A zoned step table is bound for later STEP instructions. -/
  | skZone (c : Fin 64)
  /-- STEP (R232): A step of the bound table starts at the next edge in the zone in force. -/
  | skStep (c : Fin 64)
  /-- CURVE (R232): k_D takes the interpolated Y of a curve table at X = k_S. -/
  | skCurve (c : Fin 64)
  /-- TERM (R232): TERM_DIV and T_QUAL are set for direct CV and CC-CV steps. -/
  | skTerm (c : Fin 64)
  /-- SAFET (R232): T_SAFE is set from k_D. -/
  | skSafet (c : Fin 64)
  /-- SWEEP (R233): A sweep with the referenced table is requested. -/
  | skSweep (c : Fin 64)
  /-- SWEEP_STOP (R233): The channel's sweep ends with END = 4. -/
  | skSweepStop (c : Fin 64)
  /-- GRADE (R233): k_D takes a value of the cell's last grading vector. -/
  | skGrade (c : Fin 64)
  /-- MARK (R234): A mark entry with TAG and VALUE is written, at most one per frame. -/
  | skMark (c : Fin 64)
  /-- LOG (R234): A mark entry is written and engine event 64 + c is raised. -/
  | skLog (c : Fin 64)
  /-- JOIN (R235): The engine arrives at a group and waits. -/
  | skJoin (c : Fin 64)
  /-- SIGNAL (R235): The engine arrives at a group and continues. -/
  | skSignal (c : Fin 64)
  /-- DONATE (R235): The DONATE budget is set or withdrawn. -/
  | skDonate (c : Fin 64)
  /-- LEGACY (R235): The legacy profile is armed for the next MODE from a table header. -/
  | skLegacy (c : Fin 64)
  /-- RESERVED_OPCODE (R204): An opcode 0x2D–0x3F freezes the engine with cause 1. -/
  | reservedOpcode (c : Fin 64)
  /-- GROUP_ARRIVAL_MESSAGE (R200): An arrival from another stake is counted for its group and generation, or a count mismatch breaks it. -/
  | groupArrivalMessage (g : Fin 16) (gen : BitVec 16) (stake : Nat) (chan : Nat) (ts : Nat) (cnt : BitVec 13)
  /-- GROUP_RELEASE (R201): At the computed release edge waiting members run, bit 5 sets and the generation advances. -/
  | groupRelease (g : Fin 16)
  /-- GROUP_TIMEOUT (R202): GRPg_TMO elapsing before the count breaks the group. -/
  | groupTimeout (g : Fin 16)
  /-- GROUP_ABORT (R202): A write of SKN.GRPg_CTL.ABORT breaks the group fabric-wide. -/
  | groupAbort (g : Fin 16)
  /-- GROUP_BREAK (R202): At the break edge waiting members continue with TO set and the generation advances. -/
  | groupBreak (g : BreakIn)
  /-- LOAD_GO (R212): A write of SKN.LOAD_CTL.GO starts verification of the staged envelope. -/
  | loadGo
  /-- LOAD_COMPLETE (R212): Verification ends with a RESULT, storing the image only on 0. -/
  | loadComplete
  /-- DELETE (R213): A write of SKN.LOAD_CTL.DELETE removes the named ID unless in use. -/
  | delete
  /-- DL_CLR (R264): A write of LOOP.CTL.DL_CLR clears DL and DL_LAST. -/
  | dlClr
  /-- ARM (R262): A write of TRn_CTL.ARM starts a trace capture. -/
  | arm (n : Fin 4)
  /-- FORCE (R262): A write of TRn_CTL.FORCE triggers now or ends a ring capture. -/
  | force (n : Fin 4)
  /-- TRACE_CAPTURE_END (R262): 8,192 − PRE samples after the trigger the capture ends and its copy begins. -/
  | traceCaptureEnd (n : Fin 4)
  /-- TRACE_COPY_DONE (R263): The capture is copied into the trace region and DONE sets. -/
  | traceCopyDone (n : Fin 4)
  /-- AXIS_START (R272): A write of AXSa.CTL.START begins the start sequence with the catch window. -/
  | axisStart (a : Fin 6)
  /-- AXIS_STOP (R268): A write of AXSa.CTL.STOP enters STOPPING. -/
  | axisStop (a : Fin 6)
  /-- AXIS_STOP_COMPLETE (R268): A stopping axis reaches its end and enters DISABLED. -/
  | axisStopComplete (a : Fin 6)
  /-- AXS_FLT_READ (R269): A read of AXSa.FLT with a local cause sets CLR_ARMED. -/
  | axsFltRead (a : Fin 6)
  /-- AXS_FLT_CLR (R269): A write of AXSa.CTL.FLT_CLR after the read clears a local cause to DISABLED. -/
  | axsFltClr (a : Fin 6)
  /-- STO_LINE_DROP (R269): An STO line low for 1.0 ms puts every axis in STO with cause 0x01 and engages the brakes. -/
  | stoLineDrop
  /-- CATCH_WINDOW_END (R272): At t0 + 5 ms the axis does a flying start or starts injection. -/
  | catchWindowEnd (a : Fin 6)
  /-- POLARITY_TEST (R272): At t0 + 25 ms d-axis pulses fix the north pole. -/
  | polarityTest (a : Fin 6) (plus : Int) (minus : Int)
  /-- TORQUE_ENABLE (R272): At t0 + 29 ms torque is enabled with the preset current. -/
  | torqueEnable (a : Fin 6)
  /-- BRAKE_RELEASE (R272): At t0 + 30 ms the press brake release is commanded. -/
  | brakeRelease (a : Fin 6)
  /-- AXIS_RUN (R272): At t0 + 55 ms the axis enters RUN. -/
  | axisRun (a : Fin 6)
  /-- START_TIMEOUT (R272): An angle not settled by t0 + 100 ms puts the axis in STO with cause 0x08. -/
  | startTimeout (a : Fin 6)
  /-- FEEDBACK_DISAGREE (R271): Fused angle and observer apart more than 30° for 10 ms drops the feedback. -/
  | feedbackDisagree (a : Fin 6)
  /-- I2T_EMPTY (R275): An empty i²t budget drops the current limit to continuous and sets I2T_LIM. -/
  | i2tEmpty (a : Fin 6)
  /-- I2T_RECOVER (R275): The i²t budget refilled to 10 % clears I2T_LIM. -/
  | i2tRecover (a : Fin 6)
  /-- LOAD_CELL_RANGE (R276): A load-cell reading out of range for 10 ms puts the axis in STO with cause 0x10. -/
  | loadCellRange (a : Fin 4)
  /-- PRESS_HOLD_ENTRY (R278): Force in band for 200 ms stores i_q and engages the brake. -/
  | pressHoldEntry (a : Fin 4)
  /-- PRESS_HOLD_RAMP (R278): 25 ms after brake engagement i_q ramps to 0 over 20 ms and the press enters HOLD. -/
  | pressHoldRamp (a : Fin 4)
  /-- PRESS_RETRIM (R278): Force out of the wide band for 500 ms or a changed target re-establishes torque and releases the brake. -/
  | pressRetrim (a : Fin 4)
  /-- RETRIM_FORCE (R278): 25 ms after brake release the re-trimming press enters FORCE. -/
  | retrimForce (a : Fin 4)
  /-- PRESS_RELEASED (R279): A releasing press reaches REL_POS, engages its brake and becomes RELEASED. -/
  | pressReleased (a : Fin 4)
  /-- X60_LOSS (R282): An invalid X60 signal sets X60_LOSS and runs the axis at X60_FB. -/
  | x60Loss (a : Fin 6)
  /-- X60_RESTORE (R282): 100 ms of valid X60 signal returns the axis to the input. -/
  | x60Restore (a : Fin 6)
  /-- DESATURATION (R283): Desaturation after blanking turns the axis's legs off with STO cause 0x02. -/
  | desaturation (a : Fin 6)
  /-- FAST_OVERCURRENT (R283): A fast overcurrent crossing turns the axis's legs off with STO cause 0x03. -/
  | fastOvercurrent (a : LegTrip)
  /-- TWO_LEG_SHORT (R284): Trips on two legs within 1 µs turn all inverters off and request STO from both upsett channels. -/
  | twoLegShort (a1 : Fin 6) (a2 : Fin 6)
  /-- PHASE_OPEN (R285): A phase below 1 A for 2 ms while more than 5 A is expected puts the axis in STO, 0x05. -/
  | phaseOpen (a : Fin 6)
  /-- CURRENT_SENSE_LOST (R285): A current sum above 3 A for 200 µs or a silent modulator puts the axis in STO, 0x06. -/
  | currentSenseLost (a : Fin 6)
  /-- TOOTH_EDGE (R291): An accepted A or B edge moves the counter and updates speed and compare. -/
  | toothEdge (p : Fin 4) (fwd : Bool) (onA : Bool) (lead : Bool) (t4 : Nat) (force : Int)
  /-- ILLEGAL_TRANSITION (R291): A sample where A and B both change is counted, and the third in a window is a sync fault. -/
  | illegalTransition (p : Fin 4) (t4 : Nat)
  /-- LINE_FAULT (R290): Differential below 200 mV for 2 µs freezes the line and stops a running axis. -/
  | lineFault (p : Fin 4) (mask : Fin 4)
  /-- SPEED_TIMEOUT (R296): 100 ms without an edge sets the speed to 0. -/
  | speedTimeout (p : Fin 4)
  /-- SSI_WORD (R300): A received SSI word updates the position or is discarded as bad. -/
  | ssiWord (p : Fin 4) (w : BitVec 64) (timedOut : Bool) (t : Nat) (force : Int)
  /-- REF_CLR (R306): A write of POSp.CTL.REF_CLR forgets the reference. -/
  | refClr (p : Fin 4)
  /-- CMP_ARM (R302): A write of CMP_ARM arms compare at spacing. -/
  | cmpArm (p : Fin 4)
  /-- CMP_STOP (R302): A write of CMP_STOP disarms the compare at once. -/
  | cmpStop (p : Fin 4)
  /-- FIFO_CLR (R306): A write of FIFO_CLR empties the FIFO and clears LOST and SKIP. -/
  | fifoClr (p : Fin 4)
  /-- HIT_THI_READ (R303): A read of POSp.HIT_THI removes the oldest FIFO entry. -/
  | hitThiRead (p : Fin 4)
  /-- PASSTHROUGH_RESUME (R304): 100 µs after a committed X34 change the new input is repeated. -/
  | passthroughResume
  /-- SAFETY_CYCLE (R307): Each 0.5 ms cycle the upsett channels exchange states, evaluate pairs and drive lines and outputs. -/
  | safetyCycle (j : SafeIn)
  /-- DISCREPANCY_FAULT (R314): Pair inputs disagreeing longer than T_DISC raise a discrepancy fault. -/
  | discrepancyFault (j : Fin 8)
  /-- CAT1_STOP (R318): T_STOP1 after a CAT 1 decision every target of the pair is de-energised. -/
  | cat1Stop (j : Fin 8)
  /-- TEST_PULSE (R322): Once per T_PULSE contact supplies, STO lines and outputs are pulsed and read back. -/
  | testPulse (t : PulseTest)
  /-- LINE_TEST (R319): A static line is dropped for 2 ms and read back, recording cause 6 on failure. -/
  | lineTest (k : Fin 6) (pass : Bool)
  /-- LINE_TEST_DUE (R319): A line untested for 30 days sets LTEST_DUE and raises event 173. -/
  | lineTestDue
  /-- FEEDBACK_TIMEOUT (R321): FBj not opening or closing within T_FB records cause 5. -/
  | feedbackTimeout (j : Fin 4)
  /-- RESET_PRESS (R325): The release of an SRESET press is judged and accepted or refused. -/
  | resetPress (ms : Nat) (skew : Nat)
  /-- RESET_STUCK (R325): SRESET closed for 5 s is declared stuck with cause 12. -/
  | resetStuck
  /-- SAFETY_SUPPLY_LOST (R336): Loss of the safety 24 V puts every pair in demand with cause 10. -/
  | safetySupplyLost
  /-- HO_CA (R327): A write of SAFE.CTL.HO_CA requests CA's channel to hand over to CB's. -/
  | hoCa
  /-- HO_CB (R327): A write of SAFE.CTL.HO_CB requests CB's channel to hand over to CA's. -/
  | hoCb
  /-- UPSETT_SILENT (R328): A channel that stops or faults without handover de-energises everything into SAFE-STOP. -/
  | upsettSilent (x : Fin 2) (selfFault : Bool)
  /-- DEGRADED_WARN (R329): 60 min of degraded time left sets DEGR_WARN and raises event 174. -/
  | degradedWarn
  /-- DEGRADED_TIME_EXPIRE (R329): T_DEGR expiry stops the bay under CAT 1 rules into SAFE-STOP, cause 11. -/
  | degradedTimeExpire
  /-- UPSETT_SELF_TEST_DONE (R330): A returning channel finishes its self-test and takes and verifies the partner's set. -/
  | upsettSelfTestDone (x : Fin 2) (pass : Bool) (verified : Bool) (resetClosed : Bool)
  /-- UPSETT_REJOIN (R330): After 100 clean cycles the returning channel takes over its drive and 1oo2 resumes. -/
  | upsettRejoin (x : Fin 2)
  /-- ACTIVATE (R333): A write of SAFE.CTL.ACTIVATE switches both channels to the pending set with every pair waiting for reset. -/
  | activate
  /-- PAIRING_LANE_LOST (R349): Loss or return of a pairing lane raises event 179. -/
  | pairingLaneLost (lane : Fin 2) (up : Bool)
  /-- PAIRING_LINK_LOST (R349): Both lanes lost for 3 frames lower the standby to 0b00 and leave the active unpaired. -/
  | pairingLinkLost (silent : Option (Fin 2))
  /-- JOIN_BOOT_DONE (R351): A joining cartridge finishes measured boot and checks its firmware digest against the partner's. -/
  | joinBootDone (x : Fin 2) (equal : Bool)
  /-- BULK_COPY_DONE (R351): The partner's image store, tables, versions and record rings have been copied. -/
  | bulkCopyDone
  /-- STATE_COPY_DONE (R351): At edge t_j the lockstep state is copied and the joiner computes and sends ROLE 0b01. -/
  | stateCopyDone
  /-- PROVING_DONE (R351): 10,000 ms of clean lockstep give the joiner ROLE 0b10 or return it home. -/
  | provingDone
  /-- RESYNC (R351): A write of RED.CTL.RESYNC restarts the joining cartridge at step 4. -/
  | resync
  /-- SWAP (R353): A write of RED.CTL.SWAP exchanges the claims at the next frame edge. -/
  | swap
  /-- RED_FLT_READ (R387): A read of RED.FLT after a pairing-group stop satisfies the leave condition of cause 7. -/
  | redFltRead
  /-- FW_ALIGN_DONE (R515): The partner's release is written into the joiner's idle bank, verified and the join restarts. -/
  | fwAlignDone
  /-- STROBE_MISSING (R38): The holder's strobe missing for two edges moves the slot to the other strobe. -/
  | strobeMissing (n : Fin 6)
  /-- STROBE_DISAGREE (R38): Strobe lines more than 10 ns apart raise a redundancy event. -/
  | strobeDisagree (n : Fin 6)
  /-- OSCILLATOR_FAIL (R35): A failed backplane oscillator puts every root PLL into holdover. -/
  | oscillatorFail
  /-- PARTNER_REPAIR (R373): A bad word in a partner-held region is rewritten from the partner's copy with event 199. -/
  | partnerRepair (x : Fin 2) (w : Nat)
  /-- SCR_GO (R376): A write of MEM.CTL.SCR_GO starts a scrub pass over the range. -/
  | scrGo (x : Fin 2)
  /-- SCR_STOP (R376): A write of SCR_STOP ends the pass and posts a partial summary. -/
  | scrStop (x : Fin 2)
  /-- SCRUB_COMPLETE (R376): The scrub pass ends, posts its summary and raises event 196. -/
  | scrubComplete (x : Fin 2)
  /-- INJ_GO (R379): A write of INJ_GO stores an injected word with supplied check bits. -/
  | injGo (x : Fin 2)
  /-- CNT_CLR (R381): A write of MEM.CTL.CNT_CLR clears the error counters. -/
  | cntClr (x : Fin 2)
  /-- DMA_RST (R380): A write of MEM.DMA_RST restarts a halted DMA channel. -/
  | dmaRst (x : Fin 2) (mask : BitVec 16)
  /-- MEMORY_INIT_DONE (R378): BOOT has written every DRAM and SRAM word and scrubbed MRAM, setting INIT_DONE. -/
  | memoryInitDone (x : Fin 2) (record : Fin 3)
  /-- POWER_UP (R384): X2A or X2B above 20 V for 100 ms takes the bay from OFF to BOOT. -/
  | powerUp
  /-- POWER_DOWN (R384): Both control supplies below 20 V for 20 ms take the bay to OFF. -/
  | powerDown
  /-- CONTROL_SUPPLY_CHANGE (R520): A control supply input lost, restored or disconnected by its protection raises event 250. -/
  | controlSupplyChange (j : Fin 2) (what : Fin 3)
  /-- BOOT_COMPLETE (R384): Measured boot, memory initialisation and safety self-test complete take the bay to ATTEST or QUARANTINE. -/
  | bootComplete (se : BitVec 2) (upsett : BitVec 2)
  /-- ATT_OK (R384): BAY.CMD.ATT_OK takes ATTEST to CALIBRATE. -/
  | attOk
  /-- ATT_REJ (R384): BAY.CMD.ATT_REJ takes the bay to QUARANTINE. -/
  | attRej
  /-- CAL_DONE (R384): BAY.CMD.CAL_DONE takes CALIBRATE to STANDBY. -/
  | calDone
  /-- CALIBRATE (R384): BAY.CMD.CALIBRATE takes STANDBY to CALIBRATE. -/
  | calibrate
  /-- HOLD (R195): BAY.CMD.HOLD pauses running engines and holds every channel with cause 2. -/
  | hold
  /-- RESUME (R195): BAY.CMD.RESUME resumes the engines the mode paused and leaves HOLD. -/
  | resume
  /-- SERVICE (R390): BAY.CMD.SERVICE enters SERVICE while every engine is STOPPED. -/
  | service
  /-- EXIT_SVC (R390): BAY.CMD.EXIT_SVC leaves SERVICE for SAFE-STOP, ENERGIZED or STANDBY. -/
  | exitSvc
  /-- STOP (R387): BAY.CMD.STOP enters SAFE-STOP with cause 8. -/
  | stop
  /-- RECOVER (R389): BAY.CMD.RECOVER leaves SAFE-STOP once every cause is left. -/
  | recover
  /-- STOP_CAUSE_READ (R389): A read of BAY.STOP_CAUSE in SAFE-STOP sets CLR_ARMED. -/
  | stopCauseRead
  /-- EVENT_RELEASE (R394): 80 µs after its TIME an entry is released to readers and notified. -/
  | eventRelease
  /-- TIME_MARK (R397): After 10 ms without sending a stake sends a time mark. -/
  | timeMark
  /-- RD_VAL_READ (R405): A read of EVT.RD_VAL removes the oldest released entry. -/
  | rdValRead
  /-- LOST_CLR (R405): A write of EVT.CTL.LOST_CLR clears EVT.STAT.LOST. -/
  | lostClr
  /-- TIME_MESSAGE (R421): A TIME message gives the stake's offset, which steers bay time, sets LOCK or steps time once. -/
  | timeMessage (m : TimeIn)
  /-- LOCK_TIMEOUT (R401): No time message for 2 ms clears LOCK. -/
  | lockTimeout
  /-- FREE_RUN (R401): No time message for 1 s holds the last steering value and sets FREE_RUN. -/
  | freeRun
  /-- PTP_LOSS (R422): No PTP message for 10 s makes the rim hold its steering and set FREE_RUN. -/
  | ptpLoss
  /-- LINK_HANDSHAKE (R409): A PCS link starts the authenticated ECDH handshake that brings the link up or refuses it. -/
  | linkHandshake (p : Fin 6) (x : Option PeerIn)
  /-- WEAVE_FRAME_RECEIVE (R411): A link frame is authenticated, deduplicated and delivered or forwarded. -/
  | weaveFrameReceive (p : Fin 6) (f : WFrame)
  /-- LINK_KEEPALIVE (R411): An idle link sends a keep-alive every 50 µs. -/
  | linkKeepalive (p : Fin 6)
  /-- LINK_TIMEOUT (R411): 200 µs without an accepted frame, or PCS loss, declares the link down and starts repair. -/
  | linkTimeout (p : Fin 6) (pcs : Bool)
  /-- REKEY (R411): After 2³¹ frames or 24 h a sender runs a new ECDH exchange and changes key slot. -/
  | rekey (p : Fin 6)
  /-- ACK_SEND (R414): Every 200 µs or 16 frames management and data frames are acknowledged cumulatively. -/
  | ackSend
  /-- RETRANSMIT (R414): An unacknowledged frame is resent after 2 ms, and after 50 the destination is unreachable. -/
  | retransmit (acked : List (Fin 64 × Fin 3 × BitVec 32))
  /-- DISCOVER (R415): A write of WVE.CTL.DISCOVER, or a listed occasion, makes the active rim flood PROBE. -/
  | discover
  /-- PROBE (R415): A stake receiving PROBE answers with ANNOUNCE. -/
  | probe
  /-- ANNOUNCE (R416): The rim binds an address to the announcing serial number and sends BIND. -/
  | announce (ser : BitVec 64) (stored : Option (Fin 64)) (peers : List PortPeer)
  /-- BIND (R415): A stake stores its bound address and answers BIND_ACK. -/
  | bind (a : Fin 64)
  /-- BIND_ACK (R415): The rim records the binding and computes and sends the routing tables. -/
  | bindAck (a : Fin 64)
  /-- ROUTING_TABLES (R417): A stake receives its tables, acknowledges them and switches at a frame edge. -/
  | routingTables (ta : List (BitVec 16)) (tb : List (BitVec 16)) (rep : List RepairIn)
  /-- UNBIND (R416): A write of WVE.BIND_CTL.UNBIND removes a binding at the rim. -/
  | unbind (a : Fin 64)
  /-- LINK_DOWN (R418): A LINK_DOWN flood switches each stake to the link's or stake's repair table. -/
  | linkDown (plane : Fin 2) (x : Fin 64) (y : Option (Fin 64))
  /-- REMOTE_EVENT (R420): A received EVENT frame sets bit 6 of the named engines' event words. -/
  | remoteEvent (t : Nat) (eng : Fin 65)
  /-- HEARTBEAT (R423): A rim heartbeat is received, and two active rims resolve which one keeps the role. -/
  | heartbeat (node : Fin 64) (ser : BitVec 64) (primary : Bool)
  /-- HEARTBEAT_TIMEOUT (R423): 50 ms without a heartbeat makes the backup take the rim and time master roles. -/
  | heartbeatTimeout
  /-- RIM_TAKE (R423): A write of WVE.CTL.RIM_TAKE at the standing-backup primary takes the rim role back. -/
  | rimTake
  /-- SESSION_OPEN (R424): A TLS 1.3 connection with a valid client certificate opens a Rim session. -/
  | sessionOpen (cart : Fin 2) (key : List Byte) (chains : Option (Fin 4)) (selfSigned : Bool)
  /-- SESSION_CLOSE (R432): A session closed or lost unholds its streams and RD falls back to MARK. -/
  | sessionClose (j : Fin 4)
  /-- SESSION_IDLE_TIMEOUT (R424): A session silent for 10 s is closed. -/
  | sessionIdleTimeout (j : Fin 4)
  /-- READ (R426): A Rim READ reads 1–256 register words at ascending addresses. -/
  | read (j : Fin 4) (tag : BitVec 32) (stake : Fin 64) (a : BitVec 32) (n : BitVec 32)
  /-- WRITE (R426): A Rim WRITE writes 1–256 words at ascending addresses until the first failure. -/
  | write (j : Fin 4) (tag : BitVec 32) (stake : Fin 64) (a : BitVec 32) (ws : WriteData)
  /-- BULK_READ (R426): A Rim BULK_READ reads up to 64 KiB from the DRAM window. -/
  | bulkRead (j : Fin 4) (tag : BitVec 32) (stake : Fin 64) (a : BitVec 32) (n : BitVec 32)
  /-- BULK_WRITE (R426): A Rim BULK_WRITE writes up to 64 KiB into the DRAM window. -/
  | bulkWrite (j : Fin 4) (tag : BitVec 32) (stake : Fin 64) (a : BitVec 32) (l : List Byte)
  /-- STREAM_READ (R430): A STREAM_READ claims the stream and answers whole items from RD, or an underrun item. -/
  | streamRead (j : Fin 4) (tag : BitVec 32) (stake : Fin 64) (n : BitVec 16) (max_ : BitVec 32)
  /-- RIM_MARK (R431): A Rim MARK sets a stream's MARK within its bounds. -/
  | rimMark (j : Fin 4) (tag : BitVec 32) (stake : Fin 64) (n : BitVec 16) (p : BitVec 64)
  /-- REWIND (R431): A Rim REWIND sets RD to MARK. -/
  | rewind (j : Fin 4) (tag : BitVec 32) (stake : Fin 64) (n : BitVec 16)
  /-- RELEASE (R431): A Rim RELEASE sets REL and frees the source's space. -/
  | release (j : Fin 4) (tag : BitVec 32) (stake : Fin 64) (n : BitVec 16) (p : BitVec 64)
  /-- PING (R426): A Rim PING is answered with PING. -/
  | ping (j : Fin 4) (tag : BitVec 32)
  /-- RESERVED_RIM_TYPE (R427): A malformed message or reserved TYPE is answered with error 8. -/
  | reservedRimType (j : Fin 4) (tag : BitVec 32)
  /-- CAN_FRAME_RECEIVE (R441): A correct CAN frame is acknowledged and stored in its matching receive object. -/
  | canFrameReceive (k : Fin 2) (f : CanFrame)
  /-- CAN_TX_DONE (R443): A transmission of a send object succeeds or fails according to its class. -/
  | canTxDone (k : Fin 2) (o : Fin 128) (ago : BitVec 24) (what : CanOutcome)
  /-- CAN_BUS_ERROR (R444): A bus error updates the counters and may change the error state or drive bus-off. -/
  | canBusError (k : Fin 2) (e : CanError)
  /-- CAN_RECOVERY_READY (R446): 128 counts of 11 recessive bits set REC_RDY and recover by the REC setting. -/
  | canRecoveryReady (k : Fin 2)
  /-- CAN_RECOVERY_DELAY (R446): REC_DLY after REC_RDY the firmware writes the recovery request itself. -/
  | canRecoveryDelay (k : Fin 2)
  /-- REQ (R442): A write of OBJo_CTL.REQ commits a send request at the next frame edge. -/
  | req (k : Fin 2) (o : Fin 128)
  /-- ABORT (R442): A write of OBJo_CTL.ABORT withdraws a pending object not in transmission. -/
  | abort (k : Fin 2) (o : Fin 128) (inTx : Bool)
  /-- OBJ_TIMEOUT (R443): OBJo_TMO elapsing since REQ fails a timely object with FCAUSE 4. -/
  | objTimeout (k : Fin 2) (o : Fin 128) (inTx : Bool)
  /-- CLASH_CLR (R445): A write of CLASH_CLR clears the clash and every suspension. -/
  | clashClr (k : Fin 2)
  /-- REC_REQ (R446): A write of REC_REQ requests bus-off recovery, held until REC_RDY. -/
  | recReq (k : Fin 2)
  /-- CAN_MODE (R439): A write of CFDk.CTL.MODE turns the controller off, normal, monitoring or rate detection. -/
  | canMode (k : Fin 2) (m : Fin 4)
  /-- RATE_CANDIDATE_TIMEOUT (R439): 200 ms without a frame moves rate detection to the next candidate. -/
  | rateCandidateTimeout (k : Fin 2)
  /-- ATT_GO (R455): A write of TRU.CTL.ATT_GO makes each present cartridge issue a quote. -/
  | attGo
  /-- QUOTE_READY (R455): Quotes are placed in their windows and event 225 is raised. -/
  | quoteReady
  /-- QUOTE_READ (R455): A read of the last word of a quote window sets that cartridge's READ bit. -/
  | quoteRead (x : Fin 2)
  /-- ENR_GO (R459): A write of TRU.CTL.ENR_GO checks the staged enrolment statement. -/
  | enrGo (differ : Bool)
  /-- ENROLMENT_APPLY (R461): At T_EFFECT the statement changes its slot, revokes images where needed and raises event 228. -/
  | enrolmentApply
  /-- COMMISSIONING_BUTTON (R460): A press of the commissioning button opens or closes the commissioning window. -/
  | commissioningButton (ms : Nat)
  /-- COMMISSIONING_TIMEOUT (R460): The commissioning window closes after 15 min. -/
  | commissioningTimeout
  /-- RKEY_NEW (R470): A write of TRU.CTL.RKEY_NEW creates a new record key. -/
  | rkeyNew
  /-- VER_REBUILD (R470): A write of VER_REBUILD rebuilds the VERSION record from stored images. -/
  | verRebuild
  /-- FW_PREF_A (R453): A write of FW_PREF_A prefers bank A for the next boot. -/
  | fwPrefA
  /-- FW_PREF_B (R453): A write of FW_PREF_B prefers bank B for the next boot. -/
  | fwPrefB
  /-- Q_RESTART (R472): A write of Q_RESTART with causes remedied restarts both cartridges into BOOT. -/
  | qRestart (discard : Bool)
  /-- QCAUSE_READ (R472): A read of TRU.QCAUSE in QUARANTINE sets CLR_ARMED. -/
  | qcauseRead
  /-- FWL_LAST_READ (R469): A read of TRU.FWL_LAST sets REL_ARMED. -/
  | fwlLastRead
  /-- REL (R469): A write of TRU.REL after the arming read releases a frozen DMA channel, port or pairing link. -/
  | rel (m : BitVec 8)
  /-- CHUNK (R517): A write of FWU_CTL.CHUNK copies the staged MiB into the idle bank of both cartridges. -/
  | chunk
  /-- CHUNK_DONE (R517): Both cartridges finish copying a firmware part. -/
  | chunkDone
  /-- VERIFY (R517): A write of FWU_CTL.VERIFY starts checking the idle bank in both cartridges. -/
  | verify
  /-- VERIFY_DONE (R517): Bank verification ends with a RESULT and sets the bank's verified bit. -/
  | verifyDone
  /-- RESTART (R517): A write of FWU_CTL.RESTART restarts both cartridges into the idle bank. -/
  | restart
  /-- LATCH_RELEASE (R477): Moving a latch to RELEASE starts the actions that make the slot safe to empty. -/
  | latchRelease (n : Fin 8)
  /-- EXTRACTION_LOCK_OPEN (R477): The release actions complete and the extraction lock opens. -/
  | extractionLockOpen (n : Fin 8)
  /-- LATCH_LOCKED (R497): Returning a latch to LOCKED withdraws a pending release request. -/
  | latchLocked (n : Fin 8)
  /-- LOCK_RECLOSE (R478): An opened lock closes again after 60 s if the cartridge was not withdrawn. -/
  | lockReclose (n : Fin 8)
  /-- SERVICE_KEY_OPEN (R480): The service key opens a lock mechanically and the cartridge is treated as failed when its pins break. -/
  | serviceKeyOpen (n : Fin 8)
  /-- CARTRIDGE_REMOVED (R17): A cartridge's pins break and the bay continues as the empty-slot row states. -/
  | cartridgeRemoved (n : Fin 8)
  /-- CARTRIDGE_INSERTED (R481): An inserted cartridge is brought in by its type's rule. -/
  | cartridgeInserted (n : Fin 8) (c : Cartridge)
  /-- NODE_VOLTAGE_RECOVERED (R50): The node falling below 950 V after an excursion above 980 V lets the converters send energy into the node again. -/
  | nodeVoltageRecovered (v : Int)
  /-- CARTRIDGE_PRECHARGE_DONE (R50): An inserted or returning wale or slot X finishes charging its own capacitance from the node through its 1 kΩ path and joins the node. -/
  | cartridgePrechargeDone (n : Fin 5)
  /-- OVEN_LOST (R123): The EHM-1 oven leaves its ±0.05 K band, OVEN_RDY clears and event 237 reports the loss. -/
  | ovenLost
  /-- CERT_DUE_REACHED (R127): The verified EHM-1 certificate passes its due date, CERT_DUE sets, event 238 is raised and records gain the calibration-overdue mark. -/
  | certDueReached
  /-- LINE_FAULT_CLEARED (R290): An RS-422 position line regains a differential above 200 mV, LINE_FLT clears and the line state is no longer frozen. -/
  | lineFaultCleared (p : Fin 4) (mask : Fin 4)
  /-- SAFETY_SUPPLY_RESTORED (R336): The safety 24 V at X40 returns within range, SUPPLY_OK sets and the inputs can read energised again. -/
  | safetySupplyRestored
  /-- LINK_DELAY_MEASUREMENT (R421): Every 100 ms each link measures its delay by a delay request and response timestamped at the PCS and updates the mean of the last 16. -/
  | linkDelayMeasurement (p : Fin 6) (ns : Nat)
  /-- RIM_TIME_SEND (R421): Every 1 ms the active rim sends a TIME message with T_ORIGIN in control class on both planes. -/
  | rimTimeSend
  /-- RIM_HEARTBEAT_SEND (R423): Every 1 ms the active rim sends its heartbeat in control class on both planes. -/
  | rimHeartbeatSend
  /-- PTP_MESSAGE (R422): An IEEE 1588 message from the grandmaster reaches the rim's H port and steers the rim's bay time within the limits of R34. -/
  | ptpMessage (off : Int) (utc : BitVec 8)
  /-- DATA_RATE_TIMEOUT (R439): In rate detection, 2 s without a frame with BRS after the nominal rate is found leaves the data phase unset and completes detection. -/
  | dataRateTimeout (k : Fin 2)
  deriving DecidableEq, Repr

end Sys2Proof
end

