-- ==== Sys2Proof/Config.lean ====
section
/-! DEFINITION. What the spec leaves to an implementation, and the free values: constants without a body, so that nothing can be proved of their values. -/

namespace Sys2Proof.Config

/-- A value the spec does not state (log entry 1). The argument is the model's own counter, so each use is another value. -/
opaque freeValue : Nat → Int

/-- By how much the loop engine's fixed polynomial misses the cosine of a phase in turns (R258; log entry 2). -/
opaque cosPoly : Rat → Rat

/-- By how much it misses the sine (R258; log entry 2). -/
opaque sinPoly : Rat → Rat

/-- A positive number to a power in binary64, as the fit of R184 takes it (log entry 3). -/
opaque power : Rat → Rat → Rat

/-- One step of the Levenberg-Marquardt method of R184 on points (f in Hz, Re Z, Im Z) from given parameters, with `n` steps left: the spec does not give its damping (log entry 3). -/
opaque lmStep : (n : Nat) → List (Rat × Rat × Rat) → List Rat → List Rat

/-- SHA-384 (R208, R465; log entry 4). -/
opaque sha384 : List Byte → List Byte

/-- ECDSA P-384 verification under a public key (R208, R459; log entry 4). -/
opaque ecdsaOk : (key msg sig : List Byte) → Bool

/-- ECDSA P-384 signature under a key held in a secure element, named by a number (R450, R464; log entry 4). -/
opaque ecdsaSign : (key : Nat) → (msg : List Byte) → List Byte

/-- Where in its region the payload of a stored image is placed (R207 fixes the region, not the place in it; log entry 5). -/
opaque imageAddr : Int → Nat

/-- The stage loss in µW of a donor channel at its offered current in µA, as the governor estimates it (R58 names loss_don, no chapter gives it; log entry 30). -/
opaque donorLoss : (chan : Nat) → (offer : Int) → Int

/-- What the SECDED code finds in a word stored with supplied check bits (R367, R379; the code's matrix is not in the spec, log entry 35): 0 no error, 1 one bit in error, 2 the poison pattern, anything else two bits. The arguments are the memory, the data and the check bits. -/
opaque eccClass : (memory : Nat) → (data chk : Nat) → Nat

/-- The data that the code corrects such a word to (log entry 35). -/
opaque eccData : (memory : Nat) → (data chk : Nat) → Nat

/-- The syndrome of the bit in error (log entry 35). -/
opaque eccSyn : (memory : Nat) → (data chk : Nat) → Nat

/-- The four factory coefficients of the compensation polynomial of part 0 (the oscillator) or 1 + n (the reference of wale n), which the cartridge holds (R357 gives none; log entry 87). -/
opaque compPoly : (part : Nat) → List Rat

/-- How far the factory value of a shunt lies from its nominal value, in 1e-9, by slot, cartridge of that slot, local channel and range (R126; no chapter gives the values, log entry 91). -/
opaque shuntDev : (slot n local_ range : Nat) → Int

/-- The certificate of an EHM-1 that was in its slot from the start, and its serial number (R463; log entry 91). -/
opaque fittedCert : List Byte
opaque fittedSerial : Nat

/-- The number of a sensor within its slot (R363 names it, no chapter gives the numbering; log entry 38). -/
opaque sensorNumber : (sensor : Nat) → Int

/-- What the boot chain finds in the parts of a flash bank (R452; the bank header has no stated layout, log entry 42): 0 the bank verifies, 2 the signature fails, 4 a component digest fails. -/
opaque bankCheck : List (Nat × List (Nat × BitVec 8)) → Nat

/-- The security version of a bank (R452; log entry 42). -/
opaque bankSvn : List (Nat × List (Nat × BitVec 8)) → Nat

/-- The FW_VERSION of a bank (R452; log entry 42). -/
opaque bankVersion : List (Nat × List (Nat × BitVec 8)) → Nat

/-- M0 to M4 of a cartridge that runs a bank (R454; log entry 42): 48 bytes each. -/
opaque bootMeasure : (cart k : Nat) → List (Nat × List (Nat × BitVec 8)) → List Byte

/-- The serial number of the n-th EHC-2 a slot has had (R456; log entry 43). -/
opaque cartSerial : (slot n : Nat) → Int

/-- The IDevID certificate chain of the n-th EHC-2 of a slot (R449, R474; log entry 43). -/
opaque idevChain : (slot n : Nat) → List Byte

/-- The certificate of the n-th record key, which cartridge `by_` issued for the chassis (R450; log entry 43). -/
opaque recordCert : (serial : Int) → (n by_ : Nat) → List Byte

/-- The Aedcor root verifies an EHM-1 certificate (R463; log entry 4). -/
opaque aedcorOk : List Byte → Bool

/-- How far the CRC of a fault record whose write loss of power interrupted is from the right one, by its time (R103 says that it fails, not by how much; log entry 87). -/
opaque tornCrc : (time : Nat) → Nat

/-- What the FRAM of a section cartridge held before it came, by slot, cartridge of that slot and FRAM offset (R100; log entry 53). -/
opaque framOld : (slot n off : Nat) → Byte

end Sys2Proof.Config
end

