-- ==== Sys2Proof/Machine/Store.lean ====
section
/-! DEFINITION. The two containers every piece of state stands in: the register file, keyed by register field, and a table of the members of a unit, keyed by number. -/

namespace Sys2Proof.Machine

/-- The register groups of the address map: one per block of the manual, and one per repeated group of registers inside a block. -/
inductive Grp where
  | bay | evt | src | time | sec | pwr | chn | meas | measSeq | measRes | eis | eisCh
  | skn | grp | img | eng | engScr | loop | loopCh | loopAx | loopTr | fric | cog
  | axs | pos | safe | safePair | safeOut | red | thm | tsdLog | mem | wve | xev | sq | rta | rtb | bind
  | cfd | cfdObj | tru | auth | enrBuf | fwl | quoteCA | quoteCB | cert
  deriving DecidableEq, Repr

/-- One register field: its group, the member of the group, the byte offset of its register inside the member, and its low bit. -/
structure Key where
  grp : Grp
  i : Nat
  off : Nat
  lo : Nat
  deriving DecidableEq, Repr

/-- The field of its register table a key names, whichever member of the group it belongs to. -/
def Key.loc (k : Key) : Grp × Nat × Nat := (k.grp, k.off, k.lo)

/-- The access codes of R12. -/
inductive Acc where
  | ro | rw | rws | rwl | w1c | wo | sig
  deriving DecidableEq, Repr

/-- One row of a register table: where the field stands, its width (64 for a LO and HI pair), its access code, the reset value the table states, the stated range and whether it is signed. -/
structure FieldRow where
  off : Nat
  lo : Nat
  width : Nat
  acc : Acc
  reset : Int
  range : Option (Int × Int)
  signed : Bool
  deriving DecidableEq, Repr

/-- The register file: the fields that have been written, each once. -/
abbrev Store := List (Key × Int)

/-- The value of a field that has been written, or `d`. -/
def Store.get (d : Int) : Store → Key → Int
  | [], _ => d
  | (k', v) :: r, k => if k' = k then v else Store.get d r k

/-- Write one field; every other field keeps its place and value. -/
def Store.put : Store → Key → Int → Store
  | [], k, v => [(k, v)]
  | (k', v') :: r, k, v => if k' = k then (k, v) :: r else (k', v') :: Store.put r k v

/-- A table of the members of a unit: the members that differ from the one after reset. -/
abbrev Tab (α : Type) := List (Nat × α)

/-- Member `n` of a table, or `d`. -/
def Tab.get {α : Type} (d : α) : Tab α → Nat → α
  | [], _ => d
  | (m, x) :: r, n => if m = n then x else Tab.get d r n

/-- Replace member `n`. -/
def Tab.put {α : Type} : Tab α → Nat → α → Tab α
  | [], n, x => [(n, x)]
  | (m, y) :: r, n, x => if m = n then (n, x) :: r else (m, y) :: Tab.put r n x

end Sys2Proof.Machine
end

