-- ==== Sys2Proof/Machine/Units.lean ====
section
/-! DEFINITION. What the bay holds beside its registers: the internal state of each unit the manual describes, as plain data. -/

namespace Sys2Proof.Machine

/-! ## Events (R391 to R397) -/

/-- One event entry (R392). `released` says that readers may see it (R394). -/
structure EvEntry where
  time : Nat
  src : Nat
  sub : Nat
  prio : Int
  detail : Int
  value : Int
  released : Bool
  deriving DecidableEq, Repr

/-- A set bit of an engine's event word on its way: visible at the first frame edge at or after `at_` (R198). -/
structure EvBit where
  at_ : Nat
  eng : Nat
  bit : Nat
  deriving DecidableEq, Repr

/-- A write held in the shadow of an RWS field, and the frame edge at which it commits (R12, R13). -/
structure Shadow where
  key : Key
  val : Int
  edge : Nat
  deriving DecidableEq, Repr

/-! ## Channel stage (spec chapter 03) -/

/-- State of one leg or switch behind a stroke link (R94, R95). -/
inductive Leg where
  | off | high | low | latchedLow
  deriving DecidableEq, Repr

/-- A gate driver as its stroke link sees it (R93 to R96). `lost` and `rearmed` are the two steps out of a lost link; `faults` and `pumps` are the fault bits and the charge-pump voltages (0.1 V) of its last good status word. -/
structure Driver where
  legs : List Leg := [.off, .off, .off, .off]
  csw : Bool := false
  seq : Nat := 0
  lastWord : Nat := 0
  lost : Bool := false
  rearmed : Bool := false
  faults : Nat := 0
  pumps : List Nat := []
  deriving DecidableEq, Repr

/-- The ramp limit of a stage (R84, R85, R30, R46): from `fromI` µA at tick `t0`, rating per `ms`; `dir` 1 rises, -1 falls, 0 holds. -/
structure RampLim where
  dir : Int := 0
  fromI : Int := 0
  t0 : Nat := 0
  ms : Int := 0
  deriving DecidableEq, Repr

/-- The perturbation generator of one channel in the section modulator (R167): A_v in µV, M and L of the point, the phase offset of R169 in turns, and the spectral boundary at which the point opened. -/
structure Gen where
  on : Bool := false
  av : Rat := 0
  m : Nat := 0
  l : Nat := 1
  off : Rat := 0
  t0 : Nat := 0
  deriving DecidableEq, Repr

/-- The constant-on-time modulator of one channel (R73, R74). `emu` are the emulated inductor currents of the four phases in µA, `sums` their sums over the last 2.5 µs, newest first; `onEnd` is when each phase's on-time ends and `blank` until when the comparator is blanked, both in 250 ps of bay time; `lastOn` is the last untrimmed on-time in 250 ps. -/
structure Cot where
  emu : List Rat := [0, 0, 0, 0]
  sums : List Rat := []
  onEnd : List Nat := [0, 0, 0, 0]
  blank : Nat := 0
  lastOn : Nat := 0
  deriving DecidableEq, Repr

/-- What the section modulator holds of one channel (R86). Currents in µA, voltages in µV, times as ticks of bay time. `iTgt` and `vRefIn` are the targets of the last accepted command frame; `stopReq` and `rampReq` are the open request and the ramp request (ms for the rating) that wait for command frame 3 (R72); `iPh` are the phase currents as last measured; `peakNow` says that a peak limit has acted in this frame; `rpSum`, `rpN` and `rpFrom` form the average of R77. -/
structure Stage where
  ov : Bool := false
  absent : Bool := false
  faulted : Bool := false
  cswReq : Bool := false
  iTgt : Int := 0
  vRefIn : Int := 0
  ramp : RampLim := {}
  softStop : Bool := false
  prebiasT0 : Nat := 0
  closeBlocked : Bool := false
  lowSince : Option Nat := none
  kept : Nat := 0
  rotation : Nat := 0
  fireAt : Nat := 0
  crowbarEnd : Nat := 0
  rpathBound : Nat := 0
  trims : List Rat := [0, 0, 0, 0]
  balanceAt : Nat := 0
  iHist : List Int := []
  vHist : List Int := []
  stopReq : Bool := false
  rampReq : Option Int := none
  cot : Cot := {}
  gen : Gen := {}
  iPh : List Int := [0, 0, 0, 0]
  peakNow : Bool := false
  rpSum : Rat := 0
  rpN : Nat := 0
  rpFrom : Nat := 0
  deriving DecidableEq, Repr

/-- One FRAM fault record (R101). `torn` says that loss of power interrupted its write, so that its CRC fails (R103). -/
structure FramRec where
  cause : Nat
  seq : Nat
  time : Nat
  local_ : Nat
  stage : Int
  phases : Int
  flags : Int
  iCh : Int
  vNode : Int
  vSense : Int
  vRef : Int
  vBus : Int
  iPh : List Int
  tPh : List Int
  tCell : List Int
  trim : List Int
  vcp : List Int
  vcpSw : Int
  detail : Nat
  onT : Int
  iHist : List Int
  vHist : List Int
  torn : Bool := false
  deriving DecidableEq, Repr

/-- The fault memory of one wale (R100, R103): the records waiting, the last-fault slots and the history ring. `lostHdr` is the LOST count of the header, `fit` numbers the cartridges the slot has had. -/
structure Fram where
  queue : List FramRec := []
  last : List (Nat × FramRec) := []
  ring : List (Nat × FramRec) := []
  seqNext : Nat := 0
  next : Nat := 0
  lostHdr : Nat := 0
  fit : Nat := 0
  deriving DecidableEq, Repr

/-! ## Channel regulation (spec chapter 05) -/

/-- The parameters of a step (R145), in the units of R136 and R145; `tqual` in 100 ms, `t1` and `t2` in ms. -/
structure Params where
  mode : Int := 0
  legacy : Bool := false
  termDiv : Int := 0
  set : Int := 0
  vlim : Int := 0
  aux : Int := 0
  tqual : Int := 0
  tstep : Int := 0
  tsafe : Int := 0
  qlim : Int := 0
  t1 : Int := 0
  t2 : Int := 0
  deriving DecidableEq, Repr

/-- Where the step in force came from (R163, R225, R232, R166). -/
inductive StepSrc where
  | none
  | table (id : Int) (step : Int)
  | direct (legacyTable : Int)
  | host
  deriving DecidableEq, Repr

/-- The header values of a legacy profile (R144, R157, R158, R235). -/
structure LegHdr where
  tTop : Int := 0
  vRechg : Int := 0
  tRqual : Int := 0
  nRechg : Int := 0
  deriving DecidableEq, Repr

/-- A RAMP in progress on the regulated value (R226). -/
structure SetRamp where
  from_ : Int
  to_ : Int
  t0 : Nat
  ms : Int
  deriving DecidableEq, Repr

/-- What the regulation of one channel holds beside its registers (R136 to R158). `live` says a step is in force and has not ended; `stored` that it was set while a fault held the channel, and acts after it (R154); `needNewCell` that no mode has been set since a cell was declared absent; `hostCeased` that host targets were in force when the mode ceased to accept them, so that they wait for a commit of TGT_MODE (R166). -/
structure Chan where
  par : Params := {}
  src : StepSrc := .none
  live : Bool := false
  holds : List Nat := []
  zonePend : Option Int := none
  secondLevel : Bool := false
  levelT0 : Nat := 0
  ramp : Option SetRamp := none
  leg : LegHdr := {}
  topMs : Int := 0
  watchMs : Int := 0
  watchSpent : Bool := false
  watchPar : Params := {}
  stepT0 : Nat := 0
  stepQ0 : Int := 0
  stepE0 : Int := 0
  cellQ0 : Int := 0
  hostCeased : Bool := false
  needNewCell : Bool := false
  closureHeld : Bool := false
  toRest : Bool := false
  clampEv : Bool := false
  lowEv : Bool := false
  envCleared : Bool := false
  stored : Bool := false
  deriving DecidableEq, Repr

/-- The measured means a channel builds up between two evaluations (R150, R158) and what limits it from outside (R150, R164). `donCall` and `offer` are the called and the offered donor current in µA (R61), `donRem` the donated charge not yet a whole µAh, in nC. -/
structure Means where
  iSum : Int := 0
  vSum : Int := 0
  n : Nat := 0
  iMean : Int := 0
  vMean : Int := 0
  ext : Bool := false
  curtailed : Bool := false
  otherLimit : Bool := false
  donCall : Int := 0
  offer : Int := 0
  donRem : Int := 0
  deriving DecidableEq, Repr

/-- One entry of a cell record (R161 to R164, R186, R464), with the slots it takes. -/
inductive RecEntry where
  | interval (marks tCell v i dq : Int)
  | stepStart (step zone mode tableId : Int) (time : Nat)
  | stepEnd (cause also tmr : Int) (time : Nat) (charge energy sft sftExt : Int)
  | event (kind detail value : Int) (time : Nat)
  | mark (tag value : Int) (time : Nat)
  | cellStart (time : Nat) (cellId border image : Int)
  | cellEnd (cause : Int) (time : Nat)
  | grading (bytes : List Byte)
  | spectrum (bytes : List Byte)
  | seal (bytes : List Byte)
  deriving DecidableEq, Repr

/-- A seal whose ten slots are reserved and not yet written (R464 to R466): its ring position, the slots it covers and their bytes, the bay time of its trigger and its FLAGS. -/
structure SealDue where
  pos : Nat
  nslot : Nat
  time : Nat
  flags : Nat
  cov : List Byte
  deriving DecidableEq, Repr

/-- The record ring of one channel (R159 to R165). `sealKey` numbers the record key of the last signed seal. `slots` holds the unreleased slots oldest first, 16 bytes each; `pos` is the ring position of the first of them since power-up. -/
structure Ring where
  slots : List (List Byte) := []
  pos : Nat := 0
  sinceSeal : Nat := 0
  sealDue : List SealDue := []
  held : List RecEntry := []
  full : Bool := false
  gapLost : Nat := 0
  gapDropped : Nat := 0
  gapInSeal : Bool := false
  sealSeq : Nat := 0
  block : List Byte := []
  chain : List Byte := []
  ivT0 : Nat := 0
  ivQ0 : Int := 0
  ivV : Int := 0
  ivI : Int := 0
  ivN : Nat := 0
  ivMarks : Nat := 0
  dqRem : Int := 0
  sealKey : Nat := 0
  deriving DecidableEq, Repr

/-! ## Skein engines (spec chapters 07 and 08) -/

/-- The direct targets of an engine (R225). -/
structure Direct where
  iSet : Int := 0
  pSet : Int := 0
  vLim : Int := 0
  iLim : Int := 0
  aux : Int := 0
  t1 : Int := 0
  t2 : Int := 0
  tSafe : Int := 0
  termDiv : Int := 0
  tQual : Int := 0
  deriving DecidableEq, Repr

/-- A command an engine has written in the present frame; it is latched at the next frame edge (R197). -/
inductive EngCmd where
  /-- A MODE, with the table of an armed legacy profile (R235). -/
  | mode (m : Int) (leg : Option Int)
  | step (table : Int) (s : Int)
  /-- A RAMP: its end and its ms (R226). -/
  | ramp (v ms : Int)
  | press (n : Int)
  | sweep (table : Int)
  | sweepStop
  | clra (a : Nat) (q : Nat)
  | donate (v : Int)
  /-- A write of a direct target: 0 I_SET, 1 V_LIM, 2 P_SET, which a ramp may move (R226), 3 any other. -/
  | wrote (t : Nat)
  | end_
  deriving DecidableEq, Repr

/-- What a WAITING engine waits for (R229, R235): the condition code, the ticks left of a WAITT, or a group. -/
inductive EngWait where
  | none
  | cond (cc : Nat)
  | timed (cc : Nat) (ticks : Int)
  | group (g : Nat) (gen : Int)
  deriving DecidableEq, Repr

/-- An accumulator's quantity and base (R231). -/
structure AccBase where
  q : Nat := 0
  base : Int := 0
  deriving DecidableEq, Repr

/-- A host command to an engine that waits for its frame edge (R193). -/
inductive HostEng where
  | start | stop | pause | resume | release
  deriving DecidableEq, Repr

/-- What an engine holds beside its window registers (R189, R193, R197). `targets` are the direct targets as latched, `overlay` with the writes of the frame; `evt` is the event word as the engine sees it; `hostCmds` are the host commands of the frame in order; `runs` says whether it ran at the last frame edge (R399); `slots` counts its turns in the frame of number `slotFrame`, `part` those of an instruction in progress (R196). -/
structure Eng where
  pausedFrom : Int := 0
  pausedByMode : Bool := false
  wait : EngWait := .none
  targets : Direct := {}
  overlay : Direct := {}
  cmds : List EngCmd := []
  bound : Option Int := none
  legacyArm : Option Int := none
  press : Option Int := none
  acc : List AccBase := [{}, {}, {}, {}]
  evt : Nat := 0
  markEdge : Option Nat := none
  hostCmds : List HostEng := []
  startAt : Nat := 0
  image : Int := 0
  frzNew : Bool := false
  runs : Bool := false
  slotFrame : Nat := 0
  slots : Nat := 0
  part : Nat := 0
  deriving DecidableEq, Repr

/-- A border table (R141). -/
structure Border where
  flags : Int := 0
  vMax : Int := 0
  vMin : Int := 0
  iChg : Int := 0
  iDis : Int := 0
  pMax : Int := 0
  tMax : Int := 0
  tChgMin : Int := 0
  tChgMax : Int := 0
  sftMax : Int := 0
  qCellMax : Int := 0
  fMin : Int := 0
  fMax : Int := 0
  donQMax : Int := 0
  deriving DecidableEq, Repr

/-- A zoned step table (R144, R145): entry (z, s) is `steps[z * nstep + s]`. -/
structure Zoned where
  nzone : Nat := 1
  nstep : Nat := 1
  bound : List Int := []
  hyst : Int := 0
  leg : LegHdr := {}
  steps : List Params := []
  deriving DecidableEq, Repr

/-- One point of a sweep table (R172). -/
structure SweepPt where
  freq : Int := 0
  amp : Int := 0
  settle : Int := 0
  measure : Int := 0
  deriving DecidableEq, Repr

/-- The payload of a stored image (R209). A safety set is kept as its bytes, which the safety controller reads (R331). -/
inductive Payload where
  | program (entries : List Int) (code : List Nat) (consts : List Nat) (refs : List Int)
  | zoned (t : Zoned)
  | border (t : Border)
  | curve (pts : List (Int × Int))
  | sweep (flags split residMax : Int) (pts : List SweepPt)
  | safety (bytes : List Byte)
  deriving DecidableEq, Repr

/-- One stored image (R207 to R213). -/
structure Image where
  id : Int
  kind : Nat
  ver : Int
  auth : Int
  scope : Int
  size : Nat
  payload : Payload
  deriving DecidableEq, Repr

/-- A channel group (R200 to R203): the stakes and channels that have arrived in the present generation, the first and the latest timestamp of their arrivals, and the release or break edge once it is fixed. -/
structure Group where
  arrived : List (Nat × Nat) := []
  firstAt : Nat := 0
  lastTs : Nat := 0
  releaseAt : Option Nat := none
  breakAt : Option (Nat × Bool) := none
  deriving DecidableEq, Repr

/-! ## Impedance sweeps (spec chapter 06) and loop engine (spec chapter 09) -/

/-- A sweep asked for and waiting for its sweep edge (R176). -/
structure SweepReq where
  table : Int
  edge : Nat
  host : Bool
  deriving DecidableEq, Repr

/-- One posted point of a sweep (R178, R187). -/
structure PointRes where
  f : Int
  zre : Int
  zim : Int
  amp : Int
  idx : Nat
  flags : Nat
  deriving DecidableEq, Repr

/-- The grading vector of a channel (R184 to R186), in the units of R186. -/
structure GradeVec where
  sweepId : Int
  flags : Nat
  rOhm : Int
  rA : Int
  rB : Int
  fA : Int
  fB : Int
  d : Int
  resid : Int
  drift : Int
  deriving DecidableEq, Repr

/-- A closed measure window whose point waits for its solve: when it closed, its L, M and frequency in Hz, its AMP of the table in µA rms, its flags and the spectral samples of R179 in order. -/
structure Window where
  closeT : Nat
  idx : Nat
  l : Nat
  m : Nat
  f : Rat
  amp : Rat
  flags : Nat
  v : List Int
  i : List Int
  deriving DecidableEq, Repr

/-- A completed sweep whose grading vector is due 100 ms after `post` (R178). -/
structure VecDue where
  post : Nat
  table : Int
  edge : Nat
  tzEdge : Int
  iSum : Int
  iN : Nat
  outside : Bool
  results : List PointRes
  deriving DecidableEq, Repr

/-- Where the point in progress stands (R178): waiting for its spectral boundary, in settle, or in its measure window. -/
inductive PointPhase where
  | waiting | settle | window
  deriving DecidableEq, Repr

/-- The sweep of one channel (R167 to R185). `av` is A_v in µV, `ampReq` the amplitude of the table and `ampIn` the one in force in µA rms; `k` counts spectral samples since the point opened, `settleN`, `l` and `m` are the settle samples, L and M of R174, `freq` is in Hz; `fund` are c and s of voltage and current of the last settle period. Samples are in 0.1 µV and 0.1 µA. -/
structure Sweep where
  req : Option SweepReq := none
  table : Int := 0
  host : Bool := false
  edge : Nat := 0
  phase : PointPhase := .waiting
  av : Rat := 0
  ampReq : Rat := 0
  ampIn : Rat := 0
  k : Nat := 0
  settleN : Nat := 0
  l : Nat := 1
  m : Nat := 1
  settlePer : Nat := 0
  openAt : Nat := 0
  freq : Rat := 0
  restarted : Bool := false
  flags : Nat := 0
  tzOpen : Int := 0
  smpV : List Int := []
  smpI : List Int := []
  closed : List Window := []
  fund : Option (Rat × Rat × Rat × Rat) := none
  results : List PointRes := []
  vecDue : List VecDue := []
  outside : Bool := false
  iSum : Int := 0
  iN : Nat := 0
  tzEdge : Int := 0
  deriving DecidableEq, Repr

/-- What one channel outer loop holds between frames (R246 to R250): integrators and outputs in µV and µA, with the copies a missed deadline returns to (R244). -/
structure LoopCh where
  xi : Rat := 0
  xv : Rat := 0
  xi0 : Rat := 0
  xv0 : Rat := 0
  vRef : Int := 0
  vRef0 : Int := 0
  iTgt : Int := 0
  iTgt0 : Int := 0
  iCmd : Rat := 0
  lim : Bool := false
  held : Bool := false
  clampLow : Bool := false
  clampHigh : Bool := false
  presetV : Bool := false
  preset0 : Bool := false
  man0 : Bool := false
  gains0 : List Int := []
  iCmd0 : Rat := 0
  lim0 : Bool := false
  held0 : Bool := false
  ranAt : Option Nat := none
  missAt : Option Nat := none
  flag0 : Bool := false
  ext0 : Bool := false
  other0 : Bool := false
  misses : Nat := 0
  man : Bool := false
  gains : List Int := []
  deriving DecidableEq, Repr

/-- What the loops of an axis held at the start of the frame of edge `ranAt`, which a missed deadline brings back (R244). -/
structure AxBefore where
  ranAt : Option Nat := none
  xd : Rat := 0
  xq : Rat := 0
  xs : Rat := 0
  xf : Rat := 0
  iqRef : Rat := 0
  iqSum : Rat := 0
  idRef : Rat := 0
  wRef : Rat := 0
  pRef : Rat := 0
  pRefPrev : Rat := 0
  vd : Rat := 0
  vq : Rat := 0
  valpha : Rat := 0
  vbeta : Rat := 0
  vlimited : Bool := false
  fric : Rat := 0
  cog : Rat := 0
  man : Bool := false
  gains : List Int := []
  kps : Option Int := none
  kpf : Option Int := none
  wRamp : Rat := 0
  fr : Rat := 0
  prSeq : Nat := 0
  stopT : Option Nat := none
  zeroTorque : Bool := false
  revHeld : Bool := false
  brkOn : Bool := false
  deriving DecidableEq, Repr

/-- What one axis's loops hold (R251, R252, R277): voltages in mV, currents in mA, speeds in rpm. `missI`, `missW` and `missP` count the misses in a row of the current, speed and position loop, `atI`, `atW` and `atP` are the frame edges of the last of each (R245). -/
structure LoopAx where
  xd : Rat := 0
  xq : Rat := 0
  xs : Rat := 0
  saved : AxBefore := {}
  iqRef : Rat := 0
  iqSum : Rat := 0
  idRef : Rat := 0
  wRef : Rat := 0
  pRef : Rat := 0
  pRefPrev : Rat := 0
  vd : Rat := 0
  vq : Rat := 0
  valpha : Rat := 0
  vbeta : Rat := 0
  vlimited : Bool := false
  fric : Rat := 0
  cog : Rat := 0
  missI : Nat := 0
  missW : Nat := 0
  missP : Nat := 0
  atI : Option Nat := none
  atW : Option Nat := none
  atP : Option Nat := none
  xf : Rat := 0
  man : Bool := false
  gains : List Int := []
  kps : Option Int := none
  kpf : Option Int := none
  deriving DecidableEq, Repr

/-- The trace of one lane (R261 to R263). `recs` are the records taken, oldest first; `region` the captures in the trace region, oldest first, as DRAM offset and length; `runs` is whether the lane was armed at the last frame edge (R399). -/
structure Trace where
  recs : List (List Int) := []
  trigAt : Option Nat := none
  postLeft : Nat := 0
  forced : Bool := false
  thinned : Bool := false
  missed : Bool := false
  tFirst : Nat := 0
  pre : Nat := 0
  divCnt : Nat := 0
  seq : Nat := 0
  lastProbe : Option Int := none
  lastRec : List Int := []
  recAt : Nat := 0
  header : List Byte := []
  waitCopy : Bool := false
  evSeen : Bool := false
  runs : Bool := false
  region : List (Nat × Nat) := []
  deriving DecidableEq, Repr

/-! ## Measurement (spec chapter 04) -/

/-- What the measurement of one channel holds beside its registers: the sums of R120 held exactly in the wale, so that rounding never accumulates (log entry 26), in 0.04 nC and 4e-8 nJ, the range logic (R110 to R112) with the bridge that lasts from `bridgeFrom` to `bridgeEnd`, the times of the last range and switch changes, the applied updates of the four gains (R131), and whether the last sample carried the not-ready mark (R117). -/
structure MeasCh where
  qIn : Int := 0
  qOut : Int := 0
  eIn : Int := 0
  eOut : Int := 0
  bridgeTo : Option Nat := none
  bridgeFrom : Nat := 0
  bridgeEnd : Nat := 0
  bridged : Bool := false
  pendRange : Option Nat := none
  downSince : Option Nat := none
  openSince : Option Nat := some 0
  rangeT : Nat := 0
  switchT : Nat := 0
  zeroRange : Nat := 0
  upd : List Nat := [0, 0, 0, 0]
  notReady : Bool := false
  deriving DecidableEq, Repr

/-- An entry of the sequence table as the meter runs it (R124, R125): its index, its quantity (0 voltage, 1 current, 3 internal), its input, its start and the sweep; and as its input window closed, the range in force, whether it changed within the window, and whether the switch changed or self-calibration ran within it (R126). -/
structure MeterEntry where
  i : Nat
  kind : Nat
  input : Nat
  t0 : Nat
  sweep : Int
  range : Nat := 0
  moved : Bool := false
  broken : Bool := false
  deriving DecidableEq, Repr

/-- What the EHM-1 and the wale references hold (R115 to R131). `running` is whether the block runs as of the last frame edge (R399), `refAt` is when a reference becomes ready, `scalT0` the start of a running self-calibration, `scalSlots` the readings of its slots so far, `scalEnd` the end of the last one; `precFrom` is where the first precision window of the present length opens; `checks` are the internal inputs the sweep `checkSweep` has passed, with 255 for one of the four that failed; `certValue` the values of inputs 65 and 70 in 0.1 µV; `post` is a result whose outcome is due, with its value and the end of its window, and `zeros` are zeros on their way: when due, channel, range and reading (R124, R129); `cert` is the certificate of the EHM-1 and its serial number, none for one that was there from the start. -/
structure MeasSt where
  running : Bool := true
  refAt : List (Option Nat) := [none, none, none, none]
  refKept : List Bool := [false, false, false, false]
  scalT0 : List (Option Nat) := [none, none, none, none]
  scalSlots : List (List (List (Int × Int))) := [[], [], [], []]
  scalEnd : List Nat := [0, 0, 0, 0]
  precFrom : Nat := 0
  mainsPend : Option Int := none
  cur : Option MeterEntry := none
  done : Option MeterEntry := none
  checks : List Nat := []
  ovenSince : Option Nat := none
  certValue : List Int := [50000000, 10000000]
  checkSweep : Int := 0
  post : Option (MeterEntry × Int × Nat) := none
  zeros : List (Nat × Nat × Nat × Int) := []
  cert : Option (List Byte × Nat) := none
  deriving DecidableEq, Repr

/-! ## What the bay sends -/

/-- A message the bay has handed to the Weave or to a host session, oldest first. -/
inductive OutMsg where
  /-- A group arrival (R200): group, generation, channel, timestamp, expected count. -/
  | arrival (g : Nat) (gen : Int) (chan ts : Nat) (cnt : Int)
  /-- A group break (R202). -/
  | groupBreak (g : Nat) (gen : Int) (ts : Nat) (mismatch : Bool)
  /-- A Weave message of another kind, by its name and words (R410 to R423). -/
  | weave (kind : String) (words : List Int)
  /-- A Rim response to a session (R426, R427): session, TAG, STATUS, words. -/
  | rim (session : Nat) (tag status : Int) (words : List Int)
  /-- The acknowledgment of a frame on CFk (R441). -/
  | canAck (k : Nat)
  /-- The data of a frame that an object of CFk has sent (R442). -/
  | canFrame (k o : Nat) (data : List Byte)
  /-- Stream bytes to a session (R430): session, TAG, position, flags, bytes. -/
  | stream (session : Nat) (tag pos flags : Int) (bytes : List Byte)
  deriving DecidableEq, Repr

/-! ## Claims and holders (spec chapter 13) -/

/-- What one output stage keeps of the command frames (R342, R343): slots 0 to 3 are S0 to S3, 4 is X. Cartridges are 1 for CA and 2 for CB, 0 for none. `cand` is the last good frame of the other cartridge: bay time, ROLE, SEQ. `strobeMark` says that the next sample frame is to carry the mark of a strobe change, `markSent` that the last one did (R38); `miss` counts the sample frames in a row that have reached no cartridge, `owed` are the local channels whose sums the cartridges take only from a full-value frame (R121). -/
structure SlotView where
  holder : Nat := 0
  lastSeq : Nat := 0
  lastRole : Nat := 0
  lastAcc : Nat := 0
  misses : Nat := 0
  cand : Option (Nat × Nat × Nat) := none
  reported : Nat := 0
  conflict : Bool := false
  stopped : Bool := false
  strobe : Nat := 0
  strobeMark : Bool := false
  markSent : Bool := false
  miss : Nat := 0
  owed : List Nat := []
  unequal : List Nat := []
  deriving DecidableEq, Repr

/-- A command frame as a cartridge sends it to a receiver (R341), its targets apart: CLAIM, FLAGS, INDEX, SLOT and FRAME. `cart` is 0 for CA, 1 for CB. -/
structure CmdFrame where
  cart : Nat
  slot : Nat
  role : Nat
  seq : Nat
  suspect : Bool
  fresh : Bool
  index : Nat
  frame : Nat
  deriving DecidableEq, Repr

/-- A recovery window of R350: 1 switch-over, 2 cartridge swap, 3 resynchronisation; the cartridge whose fault opened it (2 for none), and when. -/
structure RedWin where
  kind : Nat
  side : Nat
  t0 : Nat
  deriving DecidableEq, Repr

/-- What the pairing holds beside the RED registers (R338 to R353). `up` says that claims have been given since power-up, `out` names cartridges that found themselves faulty or were lowered to 0b00, `silent` those that send nothing, `soEdge` is the frame in which a holder change was last counted, `lower` a standby that lowers itself at the next edge, `lift` one that raises itself there because its partner sends nothing, `divs` the bay times of unattributed divergences. -/
structure Red where
  up : Bool := false
  out : List Nat := []
  silent : List Nat := []
  wins : List RedWin := []
  joiner : Option Nat := none
  cleanT0 : Nat := 0
  swap : Bool := false
  lower : Option Nat := none
  lift : Option Nat := none
  divs : List Nat := []
  sent : List CmdFrame := []
  soEdge : Option Nat := none
  deriving DecidableEq, Repr

/-! ## Modes (spec chapter 16) -/

/-- What the mode logic holds between frame edges (R383 to R390, R402, R404): the accepted BAY.CMD bit that waits, the causes of R387 not yet taken, whether HOLD was entered by command, and the other triggers of R384 that wait for the edge. `svcFromStop` says that SERVICE was entered from SAFE-STOP; `mramBad` pairs a cartridge with the cause of R470 (2 or 3) that its own MRAM gives. -/
structure ModeSt where
  cmd : Option Nat := none
  stops : List Nat := []
  quarantine : Bool := false
  powerDown : Bool := false
  bootDone : Bool := false
  svcFromStop : Bool := false
  holdCmd : Bool := false
  rtBegin : Bool := false
  rtResume : Bool := false
  plannedDone : Bool := false
  restart : Bool := false
  openFrame : Bool := false
  chopDue : Bool := false
  engineLeft : Bool := false
  redRead : Bool := false
  mramBad : List (Nat × Nat) := []
  deriving DecidableEq, Repr

/-! ## Plant entry, node and converters (spec chapter 02) -/

/-- The plant entry, the node and the axis bus (R44 to R67). Budgets are in microjoules; `okSince` is since when X1 has been within 650 to 920 V, `limit17` the current limit of R17 after slot X was empty (R513), `discharge` the axis-bus discharge of R317, `faultRead` that a contactor fault has been read (R45), `rtZero` that the channels have shown zero current in this ride-through (R64). -/
structure Plant where
  entryOn : Bool := false
  relayOn : Bool := false
  contOn : Bool := false
  okSince : Option Nat := none
  t0 : Nat := 0
  starts : List Nat := []
  lockEnd : Nat := 0
  contactorDue : Bool := false
  planned : Bool := false
  x1Budget : Int := 270000000000
  nodeHigh : Bool := false
  x1Cont : Bool := false
  rtT0 : Nat := 0
  rtOn : Bool := false
  rtDonors : List Nat := []
  axConvOn : Bool := false
  axBudget : Int := 30000000000
  axCont : Bool := false
  axNodeP : Int := 0
  chopPhase : Nat := 0
  chopT0 : Nat := 0
  chopBad : Bool := false
  chopLeak : Bool := false
  chopUnused : Bool := false
  chopConducts : Bool := false
  feedBinding : Bool := false
  auxSupply : Bool := false
  limit17 : Bool := false
  discharge : Bool := false
  faultRead : Bool := false
  rtZero : Bool := false
  deriving DecidableEq, Repr

/-- What the section modulator and converter of a wale hold (R30, R50 to R52): whether it has joined the node, the start of its pre-charge, the budget in microjoules, the stop of R30, whether the stage sees its safe-off pair dropped (R98), and the class factors and the fraction of donor offers that the bay allocation and its own governor set. -/
structure Wale where
  joined : Bool := true
  prechT0 : Option Nat := none
  convOn : Bool := true
  draining : Bool := false
  budget : Int := 60000000000
  stoppedAlone : Bool := false
  dropped : Bool := false
  bayF : List Int := [200, 200, 200, 200]
  bayD : List Int := [200, 200, 200, 200]
  bayCall : Rat := 0
  ownF : List Int := [200, 200, 200, 200]
  ownD : List Int := [200, 200, 200, 200]
  deriving DecidableEq, Repr

/-! ## Axes (spec chapter 10) -/

/-- One record of the EHX-6's fault record (R269). -/
structure AxRec where
  axis : Nat
  cause : Nat
  iu : Int
  iv : Int
  iw : Int
  omegaE : Rat
  vbus : Int
  time : Nat
  deriving DecidableEq, Repr

/-- What an axis holds beside its registers (R268 to R282). `seq` is the step of the start sequence: 0 none, 1 catch window, 2 injection, 3 polarity found, 4 torque, 5 brake released. `prSeq` is that of a press in RUN: 0 none, 1 brake engaging for HOLD or RELEASED, 2 current ramping to 0 for it, 3 brake releasing for a re-trim, 4 moving to REL_POS. Speeds in 0.1 rpm, currents in mA, forces in N. `fbOfs` is the feedback offset in 2⁻¹⁶ turn, `fbApart` since when the fused angle and the observer have been more than 30° apart (R271); `flip` is the half-turn that injection leaves open, `weak` that the two responses of the polarity test differ too little (R270, R272); `cellBad` is since when the load cell reads outside its range (R276), `x60Bad` and `x60Ok` since when the X60 signal has been beyond its loss level or within it (R281, R282). `modD`, `modQ`, `modAngle` and `modOmega` are what the axis modulator applies: the dq vector in mV, its electrical angle in turns and ω_e in turns a second (R24, R267). -/
structure Axis where
  startPend : Bool := false
  t0 : Nat := 0
  seq : Nat := 0
  stopT : Option Nat := none
  prSeq : Nat := 0
  prT : Nat := 0
  iqHeld : Int := 0
  fHeld : Int := 0
  fr : Rat := 0
  inBand : Option Nat := none
  outBand : Option Nat := none
  brakeAt : Option (Nat × Bool) := none
  wRamp : Rat := 0
  zeroTorque : Bool := false
  budget : Int := 0
  budgetSet : Bool := false
  w : Int := 0
  iu : Int := 0
  iv : Int := 0
  iw : Int := 0
  theta : Rat := 0
  omegaE : Rat := 0
  id : Rat := 0
  iq : Rat := 0
  x60 : List Int := []
  fbExcl : Bool := false
  fbTrimmed : Bool := false
  fbOfs : Rat := 0
  fbApart : Option Nat := none
  flip : Bool := false
  weak : Bool := false
  cellBad : Option Nat := none
  x60Bad : Option Nat := none
  x60Ok : Option Nat := none
  modD : Rat := 0
  modQ : Rat := 0
  modAngle : Rat := 0
  modOmega : Rat := 0
  deriving DecidableEq, Repr

/-! ## Position interfaces (spec chapter 11) -/

/-- One entry of the compare FIFO (R302, R303). -/
structure Hit where
  pos : Int
  time : Nat
  force : Int
  multi : Bool
  oos : Bool
  deriving DecidableEq, Repr

/-- What a position interface holds beside its registers (R291 to R304). Edge times are in 4 ns, word times in ticks; `abs` is the running count, `speed` in counts (or 2^-16 rev) a second, `frac` the position at the frame edge in revolutions, `cmpRuns` whether the compare was armed at the last frame edge (R399). `levA` and `levB` are the filtered states of the two lines (R290); of interface 0, `ptEn` and `ptSel` are the pass-through in force, `ptHold` until when it holds its pairs high, and `outA` and `outB` the two pairs of X34, `none` at zero differential (R304). -/
structure Enc where
  dir : Int := 0
  abs : Int := 0
  span : List (Nat × Int) := []
  lastEdge : Option Nat := none
  speed : Rat := 0
  leadT : Option Nat := none
  leadInt : Option Nat := none
  pastExp : Option Int := none
  winTravel : Nat := 0
  lineMask : Nat := 0
  ssiPos : Option (Int × Nat) := none
  ssiHist : List (Nat × Int) := []
  frac : Rat := 0
  fifo : List Hit := []
  ptEn : Int := 0
  ptSel : Int := 0
  ptHold : Option Nat := none
  levA : Bool := false
  levB : Bool := false
  outA : Option Bool := none
  outB : Option Bool := none
  cmpRuns : Bool := false
  deriving DecidableEq, Repr

/-! ## Temperatures (spec chapter 14) -/

/-- The junction estimates of one channel (R358): the two lags and the estimate (0.01 °C) of phases 0 to 3 and the cell switch, the cell-switch sensor, and the factor of R359 in 0.5 % steps. -/
structure ThermCh where
  h2 : List Rat := [0, 0, 0, 0, 0]
  h60 : List Rat := [0, 0, 0, 0, 0]
  tj : List Int := [0, 0, 0, 0, 0]
  tsw : Int := 0
  f : Int := 200
  deriving DecidableEq, Repr

/-- What the bay holds of temperatures beside the registers (R356 to R364). Slots 0 to 3 are S0 to S3, 4 X, 5 M. Objects in derating: channel c, 64 + n converter, 70 + a axis. `fast`, `slowSince` and `invalid` hold sensor numbers; `coolSeen` has bit 0 once an inlet reading has come, bit 1 once a flow reading has; `flowLow` is since when the flow has been below 2.0 L/min; `plateOk` holds the last valid plate readings; `compT` are the last valid temperatures of the parts that R357 compensates and `comp` the compensations in force; `tripped` holds the quantities that stand beyond their trip; `log` is the MRAM ring by slot. -/
structure Therm where
  convTj : List Int := [0, 0, 0, 0, 0]
  legTj : List Int := [0, 0, 0, 0, 0, 0]
  convF : List Int := [200, 200, 200, 200, 200]
  axisF : List Int := [200, 200, 200, 200, 200, 200]
  kcool : Rat := 1
  coolSeen : Nat := 0
  flowLow : Option Nat := none
  derated : List Nat := []
  fast : List Nat := []
  slowSince : List (Nat × Nat) := []
  invalid : List Nat := []
  plateOk : List Int := [0, 0, 0, 0, 0, 0]
  compFrozen : List Nat := []
  compT : List (Option Int) := [none, none, none, none, none]
  comp : List Rat := [0, 0, 0, 0, 0]
  tripped : List Nat := []
  log : Tab (List Byte) := []
  seq : Nat := 0
  deriving DecidableEq, Repr

/-! ## What reads see (R337, R355, R366, R434) -/

/-- Blocks RED, THM and WVE as at the last frame edge, with WR, REL, RD, MARK and HELD of each stream, the open Rim sessions and the record ring; `seen` and `cellT` are what engines read of their channels (R197); block SAFE as at the last safety cycle. -/
structure EdgeView where
  regs : Store := []
  streams : List (List Nat) := []
  sessions : Nat := 0
  tsdLog : Tab (List Byte) := []
  safe : Store := []
  seen : Store := []
  cellT : Tab (Int × Int) := []
  deriving DecidableEq, Repr

/-! ## Safety controller (spec chapter 12) -/

/-- A latched safety fault (R311 to R330): its cause, DETAIL, the channel it is attributed to and the targets it holds off, as bits of ACT (R317). -/
structure SafeFault where
  cause : Nat
  detail : Nat
  ch : Nat
  act : Nat
  deriving DecidableEq, Repr

/-- A safety pair (R313 to R318). `discSeen` is 1 once both inputs have shown demand together after a discrepancy fault, 2 once they then permitted together; `stopAt` is the safety cycle of a CAT 1 de-energisation. -/
structure SafePairSt where
  dem : Bool := true
  wait : Bool := true
  disc : Bool := false
  discCnt : Nat := 0
  discSeen : Nat := 0
  stopAt : Option Nat := none
  deriving DecidableEq, Repr

/-- A two-hand control on pairs i and i + 1 (R315): the cycles at which the hands were actuated, whether both have been seen released, whether it permits. -/
structure TwoHand where
  left : Option Nat := none
  right : Option Nat := none
  armed : Bool := false
  given : Bool := false
  deriving DecidableEq, Repr

/-- A handover in progress (R327, R328): the leaving channel (0 CA, 1 CB), its first cycle, what asked for it. -/
structure Handover where
  from_ : Nat
  t0 : Nat
  latch : Bool
  faulted : Bool
  accepted : Bool
  deriving DecidableEq, Repr

/-- The filter of one upsett channel (R312): the state each input last showed through a cycle, for how many cycles, and the accepted states. Bits 0 to 15 are SI0A to SI7B, 16 is SRESET. -/
structure SafeFilter where
  cand : Nat := 0
  cnt : List Nat := List.replicate 17 0
  acc : Nat := 0
  deriving DecidableEq, Repr

/-- A verified safety parameter set that is pending (R332): its bytes, its authority and the digest of its envelope. -/
structure SafeSet where
  bytes : List Byte
  auth : Int
  digest : List Byte
  deriving DecidableEq, Repr

/-- The safety controller (R307 to R336). `cycle` counts safety cycles of 0.5 ms; `taken` is the input word both channels use; `shorts` the pairs with a latched input short and `shortNow` those with one present; `stopped` says that a channel has fallen silent; `degr` is the degraded time left in cycles; `lineT` the bay times of the static line tests (lines 1 to 6); `passed` the lines and outputs whose last test passed; `rejoin` the channel that rejoins and its clean cycles; `stopLines` the lines whose demand took the bay to SAFE-STOP; `lineDue` the static lines whose test of the last entry to ENERGIZED is due (R319); `second` that the channel that drives alone has found a fault (R329). -/
structure Safe where
  cycle : Nat := 0
  fa : SafeFilter := {}
  fb : SafeFilter := {}
  differ : List Nat := List.replicate 16 0
  taken : Nat := 0
  pairs : List SafePairSt := List.replicate 8 {}
  hands : List TwoHand := List.replicate 4 {}
  faults : List SafeFault := []
  shorts : Nat := 0
  shortNow : Nat := 0
  driveCnt : Nat := 0
  driveNow : Nat := 0
  linkCnt : Nat := 0
  linkDown : Bool := false
  shortLeg : Bool := false
  resetDue : Bool := false
  openCnt : Nat := 0
  heldCnt : Nat := 0
  handover : Option Handover := none
  stopped : Option Nat := none
  expired : Bool := false
  degr : Nat := 0
  outT : List Nat := [0, 0, 0, 0]
  outBad : Nat := 0
  lineT : List Nat := [0, 0, 0, 0, 0, 0, 0]
  passed : Nat := 4095
  rejoin : Option (Nat × Nat) := none
  pend : Option SafeSet := none
  active : Option SafeSet := none
  stopLines : Nat := 0
  resetSince : Bool := false
  lineDue : Nat := 0
  second : Bool := false
  deriving DecidableEq, Repr

/-! ## Trust (spec chapter 19) -/

/-- An accepted enrolment statement that waits for its bay time (R458, R473). -/
structure Enrol where
  op : Nat
  slot : Nat
  rights : Int
  effect : Nat
  seq : Int
  key : List Byte
  deriving DecidableEq, Repr

/-- One flash bank (R452, R517): the MiB parts written since manufacture, each with the bytes that are not 0. -/
structure Bank where
  parts : Tab (List (Nat × Byte)) := []
  deriving DecidableEq, Repr

/-- What the bay holds of trust beside the registers (R449 to R473, R517). `keys` are the 97-byte public keys of the enrolled slots, `winEnd` ends the commissioning window; `rkey` counts the record keys created and so numbers the last, `rkeyIn` says which cartridges hold it, `rkeyBy` which one issued its certificate; `se` are the working secure elements, `banks` the flash banks (2 x + bank), `svnMin` and `pref` what each cartridge keeps through power-off; `quotes` are the quote windows; `causes` are causes of QUARANTINE not yet entered, `fixed` those whose remedy is in place; `load` is the length of the envelope being verified, `fwuOp` the firmware operation in progress (1 CHUNK, 2 VERIFY), `fits` how many EHC-2 each slot has had, `refuseUntil` the client keys refused after a violation. -/
structure Trust where
  keys : Tab (List Byte) := []
  pend : List Enrol := []
  winEnd : Option Nat := none
  rkey : Nat := 0
  rkeyIn : List Bool := [false, false]
  rkeyBy : Nat := 0
  se : List Bool := [true, true]
  banks : Tab Bank := []
  svnMin : List Int := [0, 0]
  pref : List Int := [0, 0]
  quotes : List (List Byte) := [[], []]
  causes : List Nat := []
  fixed : List Nat := []
  load : Nat := 0
  fwuOp : Nat := 0
  fits : List Nat := [0, 0]
  refuseUntil : List (List Byte × Nat) := []
  deriving DecidableEq, Repr

/-! ## The Weave and the rim (spec chapter 17) -/

/-- A Weave port (R409 to R411, R421): the frame counters of its two directions, when a frame last came and went, the key slot received under and the one sent under with the time and the frame of its key, the frame at which the peer last changed slots and until when its old one is accepted, the tag failures of the last second, the peer's serial number and the last 16 delays in ns. -/
structure Port where
  rxCtr : Nat := 0
  txCtr : Nat := 0
  lastRx : Nat := 0
  lastTx : Nat := 0
  slot : Nat := 0
  txSlot : Nat := 0
  keyAt : Nat := 0
  keyCtr : Nat := 0
  rxKeyCtr : Nat := 0
  oldUntil : Option Nat := none
  tagT : List Nat := []
  peer : Int := 0
  delays : List Int := []
  deriving DecidableEq, Repr

/-- A management or data frame that waits for its acknowledgement (R414): destination, class, SEQ, when it was last sent, the retransmissions, and the Rim request it carries (session, TAG). -/
structure Unacked where
  dst : Nat
  cls : Nat
  seq : Nat
  sentAt : Nat
  tries : Nat
  rim : Option (Nat × Int)
  deriving DecidableEq, Repr

/-- One link end as ANNOUNCE gives it (R415): the stake's serial number, plane, port and the peer's serial number. -/
structure LinkEnd where
  serial : Int
  plane : Nat
  port : Nat
  peer : Int
  deriving DecidableEq, Repr

/-- A repair table (R417): its plane, the link it leaves out, by its two stakes, or one stake, and its 64 entries. -/
structure Repair where
  plane : Nat
  a : Nat
  b : Option Nat
  entries : List Nat
  deriving DecidableEq, Repr

/-- The positions of a stream and the session that holds it (R428, R430); WR and REL of streams 0 to 63 stand in their rings; `last` is the item that ends at REL. -/
structure Stream where
  wr : Nat := 0
  rel : Nat := 0
  mark : Nat := 0
  rd : Nat := 0
  holder : Option Nat := none
  last : List Byte := []
  deriving DecidableEq, Repr

/-- An open Rim session (R424): the cartridge that serves it, its level (R457), its client key and when it last sent. -/
structure Session where
  cart : Nat
  level : Int
  key : List Byte
  last : Nat
  deriving DecidableEq, Repr

/-- What the bay holds of the Weave and the rim beside the WVE registers. `addr` is the address in MRAM, `newAddr` and `newTables` what takes effect at the next frame edge; `seen` holds, by 64 class + source, the SEQs accepted, `acks` by the same number how many frames wait for an acknowledgement and since when; `down` names the links and stakes lost since the tables were computed; `discT0` is the start of a discovery, `discDone` that one has run since BOOT, `discAgain` that one falls due (R415, R433); `hbAt` when a heartbeat last came; `timeIn` the last offset of each plane in ns with its time; `lockFrom` since when the offset has stayed within 60 ns; `steer` the steering in 0.001 ppm; `waitAck` the addresses that have not answered BIND; `notifyAt` when an entry or mark was last sent; `q68` are the unreleased items of stream 68; `asked` the Rim requests on their way to other stakes: stake, session, tag and when (R427). -/
structure Weave where
  ports : Tab Port := []
  addr : Option Nat := none
  newAddr : Option Nat := none
  txSeq : List Nat := [0, 0, 0]
  seen : Tab (List Nat) := []
  acks : Tab (Nat × Nat) := []
  unacked : List Unacked := []
  links : List LinkEnd := []
  repair : List Repair := []
  newTables : Option (List Nat × List Nat × List Repair) := none
  down : List (Nat × Nat × Option Nat) := []
  discT0 : Option Nat := none
  discDone : Bool := false
  discAgain : Bool := false
  hbAt : Option Nat := none
  timeIn : List (Option (Int × Nat)) := [none, none]
  lockFrom : Option Nat := none
  timeAt : Option Nat := none
  ptpAt : Option Nat := none
  steer : Rat := 0
  waitAck : List Nat := []
  notifyAt : Nat := 0
  streams : Tab Stream := []
  q68 : List (List Byte) := []
  sessions : List (Option Session) := [none, none, none, none]
  asked : List (Nat × Nat × Int × Nat) := []
  deriving DecidableEq, Repr

/-! ## Field bus (spec chapter 18) -/

/-- A send that has committed and is not over (R442, R443): its object, when it committed, the 64 data bytes as of then, and an ABORT or an elapsed OBJo_TMO that waits for the attempt's end. -/
structure CanSend where
  obj : Nat
  at_ : Nat
  data : List Byte
  abort : Bool := false
  late : Bool := false
  deriving DecidableEq, Repr

/-- A result of the controller that drives the bus, on its way into the message memories (R436). -/
inductive CanRes where
  /-- A frame for a receive object: RDLC, RFDF, RBRS, RESI, its start and its bytes. -/
  | store (o : Nat) (dlc : Int) (fdf brs esi : Bool) (t : Nat) (data : List Byte)
  | unmatched
  | diff
  | done (o t : Nat)
  | fail (o : Nat) (cause : Int)
  | count (f : Key) (top : Int)
  | counters (tec rec_ state : Int)
  | ready
  | clash (ide : Bool) (id : Nat)
  deriving DecidableEq, Repr

/-- Three bit errors of one identifier in the making (R445): IDE, identifier, when the first came, how many. -/
structure CanHit where
  ide : Bool
  id : Nat
  t0 : Nat
  n : Nat
  deriving DecidableEq, Repr

/-- A CAN controller (R435 to R447): the mode in force, the counters and the state of the controller that drives the bus, the objects enabled at the last edge, REQs that wait for the next one, the sends in progress, the results on their way with their edges, the objects suspended, the bit errors of R445, a REC_REQ held, when REC_RDY came, and rate detection: the correct frames in a row, whether a frame with BRS has come, when the candidate on trial began or its last frame came, when the data candidates began; `owner` is the cartridge that drove the bus at the last edge (2 for none). -/
structure Can where
  mode : Int := 0
  tec : Int := 0
  rec_ : Int := 0
  state : Int := 0
  enabled : List Nat := []
  reqs : List Nat := []
  aborts : List Nat := []
  sends : List CanSend := []
  due : List (Nat × CanRes) := []
  susp : List Nat := []
  hits : List CanHit := []
  recReq : Bool := false
  rdyAt : Option Nat := none
  good : Nat := 0
  brsSeen : Bool := false
  heardAt : Nat := 0
  dataAt : Nat := 0
  owner : Nat := 2
  deriving DecidableEq, Repr

/-! ## Latches (spec chapter 20) -/

/-- The latch and the extraction lock of a slot (R477 to R480): the latch stands at RELEASE, its request is in progress or was refused, a SWAP has been asked for, a handover has been asked for, the lock is open, since when, and by key. -/
structure Latch where
  released : Bool := false
  req : Bool := false
  refused : Bool := false
  swapAsked : Bool := false
  hoAsked : Bool := false
  isOpen : Bool := false
  openAt : Nat := 0
  byKey : Bool := false
  deriving DecidableEq, Repr

/-! ## Memories (spec chapter 15) -/

/-- What is wrong with a stored word (R369 to R374): one bit in error with its syndrome, two bits in error, or the poison pattern. -/
inductive WordErr where
  | single (syn : Nat)
  | double
  | poison
  deriving DecidableEq, Repr

/-- A scrub pass in progress (R376): the memory, REPAIR, when it started, its start, end and the next offset to read. -/
structure Scrub where
  memsel : Nat
  repair : Bool
  t0 : Nat
  start : Nat
  last : Nat
  pos : Nat
  deriving DecidableEq, Repr

/-- What the memory controllers hold beside the MEM registers: for each cartridge and memory (number 3 x + m) the bay times of the corrections of the last 60 min and the last event 192 (R371), and the scrub pass of each cartridge. -/
structure MemHid where
  ceT : Tab (List Nat) := []
  ceEv : Tab (Option Nat) := []
  scrub : List (Option Scrub) := [none, none]
  deriving DecidableEq, Repr

end Sys2Proof.Machine
end

