-- ==== Sys2Proof/Machine/State.lean ====
section
/-! DEFINITION. The state of the bay as plain data, the ways a step can stop, and the state after reset. -/

namespace Sys2Proof.Machine

/-- Everything the bay holds but its memory. -/
structure Bay where
  /-- Every register field (R403 and the register tables of every chapter). -/
  regs : Store := []
  /-- Bay time in ticks of 8 ns (R400). -/
  now : Nat := 0
  /-- RWS writes that wait for their frame edge (R13). -/
  shadows : List Shadow := []
  /-- High words latched by reads of low words (R134). -/
  hiLatch : Store := []
  /-- When an event last set each bit that software clears by writing 1: one more than the bay time, 0 for never (R14). -/
  setT : Store := []
  /-- What reads of blocks RED, THM, WVE and SAFE see (R337, R355, R366, R434). -/
  edge : EdgeView := {}
  /-- The event log in the order of R396. -/
  log : List EvEntry := []
  /-- An overflow episode is open (R395). -/
  episode : Bool := false
  /-- Event-word bits on their way to engines (R198). -/
  evBits : List EvBit := []
  stage : Tab Stage := []
  driver : Tab Driver := []
  fram : Tab Fram := []
  /-- The border table in force on each channel (R140, R141). -/
  border : Tab Border := []
  chan : Tab Chan := []
  means : Tab Means := []
  ring : Tab Ring := []
  /-- The two cell temperatures of each channel as last sampled, 0.01 °C (R147, R356). -/
  cellT : Tab (Int × Int) := []
  slotv : Tab SlotView := []
  measCh : Tab MeasCh := []
  measSt : MeasSt := {}
  eng : Tab Eng := []
  images : List Image := []
  /-- Highest accepted version of each image (R212), kept in MRAM. -/
  verMax : List (Int × Int) := []
  /-- IDs of images and tables revoked with their authority (R461). -/
  revoked : List Int := []
  groups : Tab Group := []
  sweep : Tab Sweep := []
  loopCh : Tab LoopCh := []
  loopAx : Tab LoopAx := []
  trace : Tab Trace := []
  /-- The last grading vector of the cell on a channel (R185, R233). -/
  grade : Tab (Option GradeVec) := []
  modeSt : ModeSt := {}
  plant : Plant := {}
  wale : Tab Wale := []
  axis : Tab Axis := []
  /-- The EHX-6's fault record (R269), oldest first. -/
  axRec : List AxRec := []
  enc : Tab Enc := []
  thermCh : Tab ThermCh := []
  therm : Therm := {}
  safe : Safe := {}
  red : Red := {}
  memHid : MemHid := {}
  trust : Trust := {}
  weave : Weave := {}
  can : Tab Can := []
  /-- The latches by slot: 0 CA, 1 CB, 2 to 5 S0 to S3, 6 X, 7 M. -/
  latch : Tab Latch := []
  /-- A two-leg short asks both upsett channels for STO (R284, R310). -/
  shortReq : Bool := false
  /-- What the bay has sent, oldest first. -/
  out : List OutMsg := []
  /-- How many free values have been used (log entry 1): the model's own field. -/
  fresh : Nat := 0
  deriving DecidableEq, Repr

/-- The byte cells of a memory: addresses strictly rising, and no cell equal to 0, which an unlisted address reads as (R378 initialises every word; the value is log entry 33). -/
abbrev Cells := List Host.Cell

/-- The byte at an address. -/
def Cells.get : Cells → Nat → Byte
  | [], _ => 0
  | (a, v) :: r, k => if a = k then v else if k < a then 0 else Cells.get r k

/-- Store one byte; a stored 0 is listed nowhere. -/
def Cells.put : Cells → Nat → Byte → Cells
  | [], k, x => if x = 0 then [] else [(k, x)]
  | (a, v) :: r, k, x =>
    if a = k then (if x = 0 then r else (k, x) :: r)
    else if k < a then (if x = 0 then (a, v) :: r else (k, x) :: (a, v) :: r)
    else (a, v) :: Cells.put r k x

/-- Cells above address `lo` in the canonical form. -/
def Cells.wfFrom : Nat → Cells → Bool
  | _, [] => true
  | lo, (a, v) :: r => decide (lo ≤ a) && v != 0 && Cells.wfFrom (a + 1) r

/-- The canonical form. -/
def Cells.wf (l : Cells) : Bool := Cells.wfFrom 0 l

/-- Words in error by word number, numbers strictly rising. -/
abbrev Errs := List (Nat × WordErr)

/-- What is wrong with a word, if anything. -/
def Errs.get : Errs → Nat → Option WordErr
  | [], _ => none
  | (a, v) :: r, k => if a = k then some v else if k < a then none else Errs.get r k

/-- Mark or clear a word. -/
def Errs.put : Errs → Nat → Option WordErr → Errs
  | [], k, x => match x with
    | none => []
    | some e => [(k, e)]
  | (a, v) :: r, k, x =>
    if a = k then (match x with
      | none => r
      | some e => (k, e) :: r)
    else if k < a then (match x with
      | none => (a, v) :: r
      | some e => (k, e) :: (a, v) :: r)
    else (a, v) :: Errs.put r k x

/-- Marks from word `lo` on in rising order. -/
def Errs.wfFrom : Nat → Errs → Bool
  | _, [] => true
  | lo, (a, _) :: r => decide (lo ≤ a) && Errs.wfFrom (a + 1) r

/-- Marks in rising order. -/
def Errs.wf (l : Errs) : Bool := Errs.wfFrom 0 l

/-- One memory: its bytes, and its words in error. -/
structure Ram where
  cells : Cells := []
  errs : Errs := []
  deriving DecidableEq, Repr

/-- The three memories of one control cartridge that a SECDED controller serves (R367, R369). -/
structure CartMem where
  dram : Ram := {}
  sram : Ram := {}
  mram : Ram := {}
  deriving DecidableEq, Repr

/-- The memories of the two control cartridges (spec chapter 15). -/
structure MemSys where
  ca : CartMem := {}
  cb : CartMem := {}
  deriving DecidableEq, Repr

/-- A memory in canonical form. -/
def Ram.wf (m : Ram) : Bool := m.cells.wf && m.errs.wf

/-- The memories of a cartridge in canonical form. -/
def CartMem.wf (m : CartMem) : Bool := m.dram.wf && m.sram.wf && m.mram.wf

/-- Every memory in canonical form. -/
def MemSys.wf (m : MemSys) : Bool := m.ca.wf && m.cb.wf

/-- The whole state: the memories, the rest of the bay, and the commands that wait. -/
structure State where
  mem : MemSys := {}
  bay : Bay := {}
  /-- Commands waiting, first in, first out. -/
  pending : List Instr := []
  deriving DecidableEq, Repr

/-- Why a step stops with a fault. -/
inductive Fault where
  /-- Raised by no meaning: the spec lets every command of the bay go on. Safe. -/
  | none
  deriving DecidableEq, Repr

/-- Why a step is refused. -/
inductive Refusal where
  /-- Raised by an arm of exec whose command has no meaning yet. Safe. -/
  | notModelled (mnemonic : String)
  deriving DecidableEq, Repr

/-- What a meaning answers. -/
abbrev Result := Host.Outcome State Fault Refusal

/-- The bay right after reset: BOOT (R384, R404), every register field at the value its table gives or log entry 10 names, nothing stored, nothing waiting. -/
def State.reset : State := {}

end Sys2Proof.Machine
end

