-- ==== Sys2Proof/Machine/Fields.lean ====
section
/-! DEFINITION. The name of every register field of the manual, as the key under which the register file holds it. A parameter is the member of the group: channel c, wale n, engine c, axis a, interface p, source s and so on. -/

namespace Sys2Proof.Machine.F

abbrev PWR_ENTRY_CTL_CONNECT : Key := ⟨.pwr, 0, 0, 0⟩
abbrev PWR_ENTRY_CTL_OPEN : Key := ⟨.pwr, 0, 0, 1⟩
abbrev PWR_ENTRY_STAT_STATE : Key := ⟨.pwr, 0, 4, 0⟩
abbrev PWR_ENTRY_STAT_X1_LOW : Key := ⟨.pwr, 0, 4, 3⟩
abbrev PWR_ENTRY_STAT_CAUSE : Key := ⟨.pwr, 0, 4, 4⟩
abbrev PWR_X1_V : Key := ⟨.pwr, 0, 8, 0⟩
abbrev PWR_X1_I : Key := ⟨.pwr, 0, 12, 0⟩
abbrev PWR_NODE_V : Key := ⟨.pwr, 0, 16, 0⟩
abbrev PWR_X1_OVL : Key := ⟨.pwr, 0, 20, 0⟩
abbrev PWR_AXBUS_AXV : Key := ⟨.pwr, 0, 24, 0⟩
abbrev PWR_AXBUS_RETURN : Key := ⟨.pwr, 0, 24, 29⟩
abbrev PWR_AXBUS_CHOP_ON : Key := ⟨.pwr, 0, 24, 30⟩
abbrev PWR_AXBUS_CHOP_FLT : Key := ⟨.pwr, 0, 24, 31⟩
abbrev PWR_RT_CTL_VSET : Key := ⟨.pwr, 0, 28, 0⟩
abbrev PWR_RT_CTL_TMAX : Key := ⟨.pwr, 0, 28, 16⟩
abbrev PWR_RT_CTL_AUTORES : Key := ⟨.pwr, 0, 28, 30⟩
abbrev PWR_RT_CTL_ENABLE : Key := ⟨.pwr, 0, 28, 31⟩
abbrev PWR_RT_TIME : Key := ⟨.pwr, 0, 32, 0⟩
abbrev SEC_CTL_DRAIN (n : Nat) : Key := ⟨.sec, n, 0, 0⟩
abbrev SEC_CTL_RUN (n : Nat) : Key := ⟨.sec, n, 0, 1⟩
abbrev SEC_STAT_STATE (n : Nat) : Key := ⟨.sec, n, 4, 0⟩
abbrev SEC_STAT_DIR (n : Nat) : Key := ⟨.sec, n, 4, 2⟩
abbrev SEC_STAT_DONATING (n : Nat) : Key := ⟨.sec, n, 4, 4⟩
abbrev SEC_STAT_CURT (n : Nat) : Key := ⟨.sec, n, 4, 5⟩
abbrev SEC_STAT_CAP_CONT (n : Nat) : Key := ⟨.sec, n, 4, 6⟩
abbrev SEC_CONV_P (n : Nat) : Key := ⟨.sec, n, 8, 0⟩
abbrev SEC_BUS_V (n : Nat) : Key := ⟨.sec, n, 12, 0⟩
abbrev SEC_ETA (n : Nat) : Key := ⟨.sec, n, 16, 0⟩
abbrev SEC_LOSS (n : Nat) : Key := ⟨.sec, n, 20, 0⟩
abbrev SEC_OVL (n : Nat) : Key := ⟨.sec, n, 24, 0⟩
abbrev SEC_PRIO (n : Nat) : Key := ⟨.sec, n, 28, 0⟩
abbrev SEC_DON_IMAX (n : Nat) : Key := ⟨.sec, n, 32, 0⟩
abbrev SEC_RT_DONORS_MASK (n : Nat) : Key := ⟨.sec, n, 36, 0⟩
abbrev SEC_RT_VMIN (n : Nat) : Key := ⟨.sec, n, 40, 0⟩
abbrev SEC_GOV_F0 (n : Nat) : Key := ⟨.sec, n, 44, 0⟩
abbrev SEC_GOV_F1 (n : Nat) : Key := ⟨.sec, n, 44, 8⟩
abbrev SEC_GOV_F2 (n : Nat) : Key := ⟨.sec, n, 44, 16⟩
abbrev SEC_GOV_F3 (n : Nat) : Key := ⟨.sec, n, 44, 24⟩
abbrev SEC_DON_P (n : Nat) : Key := ⟨.sec, n, 48, 0⟩
abbrev SEC_MOD_CFG_RSYN (n : Nat) : Key := ⟨.sec, n, 4096, 0⟩
abbrev SEC_MOD_CFG_RDC (n : Nat) : Key := ⟨.sec, n, 4096, 12⟩
abbrev SEC_MOD_CFG_KBAL (n : Nat) : Key := ⟨.sec, n, 4096, 24⟩
abbrev SEC_LINK_UP_MASK (n : Nat) : Key := ⟨.sec, n, 4100, 0⟩
abbrev SEC_LINK_ERR (n : Nat) : Key := ⟨.sec, n, 4104, 0⟩
abbrev SEC_FRAM_PAGE_VAL (n : Nat) : Key := ⟨.sec, n, 4112, 0⟩
abbrev SEC_FRAM_STAT_BUSY (n : Nat) : Key := ⟨.sec, n, 4116, 0⟩
abbrev SEC_FRAM_STAT_QUEUED (n : Nat) : Key := ⟨.sec, n, 4116, 3⟩
abbrev SEC_FRAM_STAT_LOST (n : Nat) : Key := ⟨.sec, n, 4116, 8⟩
abbrev SEC_FRAM_STAT_NEXT (n : Nat) : Key := ⟨.sec, n, 4116, 16⟩
abbrev SEC_FRAM_SEQ (n : Nat) : Key := ⟨.sec, n, 4120, 0⟩
abbrev CHN_STG_CTL_OV_CLR (c : Nat) : Key := ⟨.chn, c, 0, 0⟩
abbrev CHN_STG_CTL_ABS_CLR (c : Nat) : Key := ⟨.chn, c, 0, 1⟩
abbrev CHN_STG_CTL_PH_CLR (c : Nat) : Key := ⟨.chn, c, 0, 2⟩
abbrev CHN_STG_CTL_FLT_CLR (c : Nat) : Key := ⟨.chn, c, 0, 3⟩
abbrev CHN_STG_STAT_STAGE (c : Nat) : Key := ⟨.chn, c, 4, 0⟩
abbrev CHN_STG_STAT_CSW (c : Nat) : Key := ⟨.chn, c, 4, 4⟩
abbrev CHN_STG_STAT_SHED (c : Nat) : Key := ⟨.chn, c, 4, 5⟩
abbrev CHN_STG_STAT_LIM (c : Nat) : Key := ⟨.chn, c, 4, 6⟩
abbrev CHN_STG_STAT_PEAK (c : Nat) : Key := ⟨.chn, c, 4, 7⟩
abbrev CHN_STG_STAT_PH_OK (c : Nat) : Key := ⟨.chn, c, 4, 8⟩
abbrev CHN_STG_STAT_PH_ACT (c : Nat) : Key := ⟨.chn, c, 4, 12⟩
abbrev CHN_STG_STAT_CLR_ARMED (c : Nat) : Key := ⟨.chn, c, 4, 16⟩
abbrev CHN_FLT_CAUSE (c : Nat) : Key := ⟨.chn, c, 8, 0⟩
abbrev CHN_FLT_SECOND (c : Nat) : Key := ⟨.chn, c, 8, 8⟩
abbrev CHN_FLT_DETAIL (c : Nat) : Key := ⟨.chn, c, 8, 16⟩
abbrev CHN_FLT_COUNT (c : Nat) : Key := ⟨.chn, c, 8, 24⟩
abbrev CHN_STG_CFG_T_RAMP (c : Nat) : Key := ⟨.chn, c, 12, 0⟩
abbrev CHN_STG_CFG_OV_MARGIN (c : Nat) : Key := ⟨.chn, c, 12, 8⟩
abbrev CHN_STG_CFG_SHED_EN (c : Nat) : Key := ⟨.chn, c, 12, 16⟩
abbrev CHN_STG_CFG_BAL_EN (c : Nat) : Key := ⟨.chn, c, 12, 17⟩
abbrev CHN_STG_CFG_PH_EN (c : Nat) : Key := ⟨.chn, c, 12, 20⟩
abbrev CHN_NODE_REF (c : Nat) : Key := ⟨.chn, c, 16, 0⟩
abbrev CHN_NODE_V (c : Nat) : Key := ⟨.chn, c, 20, 0⟩
abbrev CHN_ON_T_VAL (c : Nat) : Key := ⟨.chn, c, 24, 0⟩
abbrev CHN_TRIM_P0 (c : Nat) : Key := ⟨.chn, c, 28, 0⟩
abbrev CHN_TRIM_P1 (c : Nat) : Key := ⟨.chn, c, 28, 8⟩
abbrev CHN_TRIM_P2 (c : Nat) : Key := ⟨.chn, c, 28, 16⟩
abbrev CHN_TRIM_P3 (c : Nat) : Key := ⟨.chn, c, 28, 24⟩
abbrev CHN_PH_I01_P0 (c : Nat) : Key := ⟨.chn, c, 32, 0⟩
abbrev CHN_PH_I01_P1 (c : Nat) : Key := ⟨.chn, c, 32, 16⟩
abbrev CHN_PH_I23_P2 (c : Nat) : Key := ⟨.chn, c, 36, 0⟩
abbrev CHN_PH_I23_P3 (c : Nat) : Key := ⟨.chn, c, 36, 16⟩
abbrev CHN_PH_T01_P0 (c : Nat) : Key := ⟨.chn, c, 40, 0⟩
abbrev CHN_PH_T01_P1 (c : Nat) : Key := ⟨.chn, c, 40, 16⟩
abbrev CHN_PH_T23_P2 (c : Nat) : Key := ⟨.chn, c, 44, 0⟩
abbrev CHN_PH_T23_P3 (c : Nat) : Key := ⟨.chn, c, 44, 16⟩
abbrev CHN_ILIM (c : Nat) : Key := ⟨.chn, c, 48, 0⟩
abbrev CHN_AFIRE_CNT (c : Nat) : Key := ⟨.chn, c, 52, 0⟩
abbrev CHN_CP_V_P0 (c : Nat) : Key := ⟨.chn, c, 56, 0⟩
abbrev CHN_CP_V_P1 (c : Nat) : Key := ⟨.chn, c, 56, 8⟩
abbrev CHN_CP_V_P2 (c : Nat) : Key := ⟨.chn, c, 56, 16⟩
abbrev CHN_CP_V_P3 (c : Nat) : Key := ⟨.chn, c, 56, 24⟩
abbrev CHN_CP_SW_VAL (c : Nat) : Key := ⟨.chn, c, 60, 0⟩
abbrev CHN_RPATH (c : Nat) : Key := ⟨.chn, c, 64, 0⟩
abbrev CHN_MEAS_CFG_RFLOOR (c : Nat) : Key := ⟨.chn, c, 256, 0⟩
abbrev CHN_MEAS_CFG_ANTIC (c : Nat) : Key := ⟨.chn, c, 256, 2⟩
abbrev CHN_MEAS_STAT_RANGE (c : Nat) : Key := ⟨.chn, c, 260, 0⟩
abbrev CHN_MEAS_STAT_CONV (c : Nat) : Key := ⟨.chn, c, 260, 2⟩
abbrev CHN_MEAS_STAT_BRIDGE (c : Nat) : Key := ⟨.chn, c, 260, 3⟩
abbrev CHN_MEAS_STAT_OVR_V (c : Nat) : Key := ⟨.chn, c, 260, 4⟩
abbrev CHN_MEAS_STAT_OVR_I (c : Nat) : Key := ⟨.chn, c, 260, 5⟩
abbrev CHN_MEAS_STAT_NREF (c : Nat) : Key := ⟨.chn, c, 260, 6⟩
abbrev CHN_MEAS_STAT_CAL_VALID (c : Nat) : Key := ⟨.chn, c, 260, 7⟩
abbrev CHN_MEAS_STAT_CAL_FAIL (c : Nat) : Key := ⟨.chn, c, 260, 8⟩
abbrev CHN_MEAS_STAT_DRIFT_LIM (c : Nat) : Key := ⟨.chn, c, 260, 9⟩
abbrev CHN_V (c : Nat) : Key := ⟨.chn, c, 264, 0⟩
abbrev CHN_I (c : Nat) : Key := ⟨.chn, c, 268, 0⟩
abbrev CHN_V_PREC (c : Nat) : Key := ⟨.chn, c, 272, 0⟩
abbrev CHN_I_PREC (c : Nat) : Key := ⟨.chn, c, 276, 0⟩
abbrev CHN_PREC_T (c : Nat) : Key := ⟨.chn, c, 280, 0⟩
abbrev CHN_Q_IN (c : Nat) : Key := ⟨.chn, c, 288, 0⟩
abbrev CHN_Q_OUT (c : Nat) : Key := ⟨.chn, c, 296, 0⟩
abbrev CHN_E_IN (c : Nat) : Key := ⟨.chn, c, 304, 0⟩
abbrev CHN_E_OUT (c : Nat) : Key := ⟨.chn, c, 312, 0⟩
abbrev CHN_CAL_VG (c : Nat) : Key := ⟨.chn, c, 320, 0⟩
abbrev CHN_CAL_VO (c : Nat) : Key := ⟨.chn, c, 324, 0⟩
abbrev CHN_CAL_IG0 (c : Nat) : Key := ⟨.chn, c, 328, 0⟩
abbrev CHN_CAL_IO0 (c : Nat) : Key := ⟨.chn, c, 332, 0⟩
abbrev CHN_CAL_IG1 (c : Nat) : Key := ⟨.chn, c, 336, 0⟩
abbrev CHN_CAL_IO1 (c : Nat) : Key := ⟨.chn, c, 340, 0⟩
abbrev CHN_CAL_IG2 (c : Nat) : Key := ⟨.chn, c, 344, 0⟩
abbrev CHN_CAL_IO2 (c : Nat) : Key := ⟨.chn, c, 348, 0⟩
abbrev CHN_COR_VG (c : Nat) : Key := ⟨.chn, c, 352, 0⟩
abbrev CHN_COR_IG0 (c : Nat) : Key := ⟨.chn, c, 356, 0⟩
abbrev CHN_COR_IG1 (c : Nat) : Key := ⟨.chn, c, 360, 0⟩
abbrev CHN_COR_IG2 (c : Nat) : Key := ⟨.chn, c, 364, 0⟩
abbrev CHN_COR_IO0 (c : Nat) : Key := ⟨.chn, c, 368, 0⟩
abbrev CHN_COR_IO1 (c : Nat) : Key := ⟨.chn, c, 372, 0⟩
abbrev CHN_COR_IO2 (c : Nat) : Key := ⟨.chn, c, 376, 0⟩
abbrev CHN_RNG_CNT (c : Nat) : Key := ⟨.chn, c, 380, 0⟩
abbrev CHN_REG_CTL_HOLD_CLR (c : Nat) : Key := ⟨.chn, c, 512, 0⟩
abbrev CHN_REG_CTL_CELL_END (c : Nat) : Key := ⟨.chn, c, 512, 1⟩
abbrev CHN_REG_STAT_CELL (c : Nat) : Key := ⟨.chn, c, 516, 4⟩
abbrev CHN_REG_STAT_TEMP0_BAD (c : Nat) : Key := ⟨.chn, c, 516, 5⟩
abbrev CHN_REG_STAT_TEMP1_BAD (c : Nat) : Key := ⟨.chn, c, 516, 6⟩
abbrev CHN_REG_STAT_EXTLIM (c : Nat) : Key := ⟨.chn, c, 516, 7⟩
abbrev CHN_REG_STAT_QUALIFYING (c : Nat) : Key := ⟨.chn, c, 516, 8⟩
abbrev CHN_REG_STAT_TO (c : Nat) : Key := ⟨.chn, c, 516, 9⟩
abbrev CHN_REG_STAT_LIM (c : Nat) : Key := ⟨.chn, c, 516, 10⟩
abbrev CHN_REG_STAT_TRM (c : Nat) : Key := ⟨.chn, c, 516, 11⟩
abbrev CHN_REG_STAT_TOPOFF (c : Nat) : Key := ⟨.chn, c, 516, 12⟩
abbrev CHN_REG_STAT_WATCH (c : Nat) : Key := ⟨.chn, c, 516, 13⟩
abbrev CHN_REG_STAT_DIRECT (c : Nat) : Key := ⟨.chn, c, 516, 14⟩
abbrev CHN_REG_STAT_BORDER_OK (c : Nat) : Key := ⟨.chn, c, 516, 15⟩
abbrev CHN_REG_STAT_CLR_ARMED (c : Nat) : Key := ⟨.chn, c, 516, 16⟩
abbrev CHN_REG_STAT_ZONE (c : Nat) : Key := ⟨.chn, c, 516, 17⟩
abbrev CHN_REG_STAT_STEP (c : Nat) : Key := ⟨.chn, c, 516, 20⟩
abbrev CHN_REG_STAT_MODE (c : Nat) : Key := ⟨.chn, c, 516, 24⟩
abbrev CHN_REG_STAT_HOLD_CAUSE (c : Nat) : Key := ⟨.chn, c, 516, 28⟩
abbrev CHN_STEP_END_CAUSE (c : Nat) : Key := ⟨.chn, c, 520, 0⟩
abbrev CHN_STEP_END_ALSO (c : Nat) : Key := ⟨.chn, c, 520, 16⟩
abbrev CHN_TMR (c : Nat) : Key := ⟨.chn, c, 524, 0⟩
abbrev CHN_SFT (c : Nat) : Key := ⟨.chn, c, 528, 0⟩
abbrev CHN_SFT_EXT (c : Nat) : Key := ⟨.chn, c, 532, 0⟩
abbrev CHN_QUAL (c : Nat) : Key := ⟨.chn, c, 536, 0⟩
abbrev CHN_T_ZONE (c : Nat) : Key := ⟨.chn, c, 540, 0⟩
abbrev CHN_TGT_MODE_VAL (c : Nat) : Key := ⟨.chn, c, 544, 0⟩
abbrev CHN_TGT_SET (c : Nat) : Key := ⟨.chn, c, 548, 0⟩
abbrev CHN_TGT_VLIM (c : Nat) : Key := ⟨.chn, c, 552, 0⟩
abbrev CHN_TGT_ILIM (c : Nat) : Key := ⟨.chn, c, 556, 0⟩
abbrev CHN_TGT_SAFE (c : Nat) : Key := ⟨.chn, c, 560, 0⟩
abbrev CHN_BORDER (c : Nat) : Key := ⟨.chn, c, 564, 0⟩
abbrev CHN_CELL_ID (c : Nat) : Key := ⟨.chn, c, 568, 0⟩
abbrev CHN_REC_FILL (c : Nat) : Key := ⟨.chn, c, 576, 0⟩
abbrev CHN_REC_STAT_WARN (c : Nat) : Key := ⟨.chn, c, 580, 0⟩
abbrev CHN_REC_STAT_FULL (c : Nat) : Key := ⟨.chn, c, 580, 1⟩
abbrev CHN_REC_STAT_DROPPED (c : Nat) : Key := ⟨.chn, c, 580, 8⟩
abbrev CHN_REC_STAT_LOST (c : Nat) : Key := ⟨.chn, c, 580, 16⟩
abbrev CHN_LEG_CNT (c : Nat) : Key := ⟨.chn, c, 584, 0⟩
abbrev CHN_TGT_AUX (c : Nat) : Key := ⟨.chn, c, 588, 0⟩
abbrev CHN_TGT_T12_T2 (c : Nat) : Key := ⟨.chn, c, 592, 0⟩
abbrev CHN_TGT_T12_T1 (c : Nat) : Key := ⟨.chn, c, 592, 16⟩
abbrev MEAS_CTL_RUN : Key := ⟨.meas, 0, 0, 0⟩
abbrev MEAS_CTL_CORR_EN : Key := ⟨.meas, 0, 0, 1⟩
abbrev MEAS_CTL_MAINS : Key := ⟨.meas, 0, 0, 2⟩
abbrev MEAS_STAT_PRESENT : Key := ⟨.meas, 0, 4, 0⟩
abbrev MEAS_STAT_OVEN_RDY : Key := ⟨.meas, 0, 4, 1⟩
abbrev MEAS_STAT_CERT_OK : Key := ⟨.meas, 0, 4, 2⟩
abbrev MEAS_STAT_CERT_DUE : Key := ⟨.meas, 0, 4, 3⟩
abbrev MEAS_STAT_CHECK_FAIL : Key := ⟨.meas, 0, 4, 4⟩
abbrev MEAS_STAT_ENTRY : Key := ⟨.meas, 0, 4, 9⟩
abbrev MEAS_STAT_SWEEP : Key := ⟨.meas, 0, 4, 16⟩
abbrev MEAS_OVEN_T : Key := ⟨.meas, 0, 8, 0⟩
abbrev MEAS_WARM : Key := ⟨.meas, 0, 12, 0⟩
abbrev MEAS_REF_CTL_EN0 : Key := ⟨.meas, 0, 16, 0⟩
abbrev MEAS_REF_CTL_EN1 : Key := ⟨.meas, 0, 16, 1⟩
abbrev MEAS_REF_CTL_EN2 : Key := ⟨.meas, 0, 16, 2⟩
abbrev MEAS_REF_CTL_EN3 : Key := ⟨.meas, 0, 16, 3⟩
abbrev MEAS_REF_RDY_RDY0 : Key := ⟨.meas, 0, 20, 0⟩
abbrev MEAS_REF_RDY_RDY1 : Key := ⟨.meas, 0, 20, 1⟩
abbrev MEAS_REF_RDY_RDY2 : Key := ⟨.meas, 0, 20, 2⟩
abbrev MEAS_REF_RDY_RDY3 : Key := ⟨.meas, 0, 20, 3⟩
abbrev MEAS_SCAL_CTL_GO : Key := ⟨.meas, 0, 24, 0⟩
abbrev MEAS_SCAL_STAT_BUSY0 : Key := ⟨.meas, 0, 28, 0⟩
abbrev MEAS_SCAL_STAT_BUSY1 : Key := ⟨.meas, 0, 28, 1⟩
abbrev MEAS_SCAL_STAT_BUSY2 : Key := ⟨.meas, 0, 28, 2⟩
abbrev MEAS_SCAL_STAT_BUSY3 : Key := ⟨.meas, 0, 28, 3⟩
abbrev MEAS_SCAL_STAT_FAIL0 : Key := ⟨.meas, 0, 28, 16⟩
abbrev MEAS_SCAL_STAT_FAIL1 : Key := ⟨.meas, 0, 28, 17⟩
abbrev MEAS_SCAL_STAT_FAIL2 : Key := ⟨.meas, 0, 28, 18⟩
abbrev MEAS_SCAL_STAT_FAIL3 : Key := ⟨.meas, 0, 28, 19⟩
abbrev MEAS_CERT_DUE : Key := ⟨.meas, 0, 32, 0⟩
abbrev MEAS_CERT_ID : Key := ⟨.meas, 0, 36, 0⟩
abbrev SEQ_INPUT (i : Nat) : Key := ⟨.measSeq, i, 0, 16⟩
abbrev SEQ_KIND (i : Nat) : Key := ⟨.measSeq, i, 0, 29⟩
abbrev SEQ_VALID (i : Nat) : Key := ⟨.measSeq, i, 0, 31⟩
abbrev RES_VAL (i : Nat) : Key := ⟨.measRes, i, 0, 0⟩
abbrev RES_STAT_SWEEP (i : Nat) : Key := ⟨.measRes, i, 4, 0⟩
abbrev RES_STAT_INPUT (i : Nat) : Key := ⟨.measRes, i, 4, 16⟩
abbrev RES_STAT_RANGE (i : Nat) : Key := ⟨.measRes, i, 4, 24⟩
abbrev RES_STAT_KIND (i : Nat) : Key := ⟨.measRes, i, 4, 26⟩
abbrev RES_STAT_CODE (i : Nat) : Key := ⟨.measRes, i, 4, 28⟩
abbrev RES_STAT_NEW (i : Nat) : Key := ⟨.measRes, i, 4, 31⟩
abbrev RES_T (i : Nat) : Key := ⟨.measRes, i, 8, 0⟩
abbrev EIS_CTL_EN : Key := ⟨.eis, 0, 0, 0⟩
abbrev EIS_CTL_STAGGER : Key := ⟨.eis, 0, 0, 1⟩
abbrev EIS_STAT_SWEEPING : Key := ⟨.eis, 0, 4, 0⟩
abbrev EIS_HMASK : Key := ⟨.eis, 0, 8, 0⟩
abbrev EIS_HTABLE : Key := ⟨.eis, 0, 16, 0⟩
abbrev EIS_HCMD_GO : Key := ⟨.eis, 0, 20, 0⟩
abbrev EIS_HCMD_ABORT : Key := ⟨.eis, 0, 20, 1⟩
abbrev EIS_T_AT : Key := ⟨.eis, 0, 24, 0⟩
abbrev EISCH_STAT_RUN (c : Nat) : Key := ⟨.eisCh, c, 0, 0⟩
abbrev EISCH_STAT_SETTLE (c : Nat) : Key := ⟨.eisCh, c, 0, 1⟩
abbrev EISCH_STAT_END (c : Nat) : Key := ⟨.eisCh, c, 0, 12⟩
abbrev EISCH_STAT_POINT (c : Nat) : Key := ⟨.eisCh, c, 0, 16⟩
abbrev EISCH_STAT_PFLAGS (c : Nat) : Key := ⟨.eisCh, c, 0, 24⟩
abbrev EISCH_F (c : Nat) : Key := ⟨.eisCh, c, 4, 0⟩
abbrev EISCH_ZRE (c : Nat) : Key := ⟨.eisCh, c, 8, 0⟩
abbrev EISCH_ZIM (c : Nat) : Key := ⟨.eisCh, c, 12, 0⟩
abbrev SKN_CTL_EN : Key := ⟨.skn, 0, 0, 0⟩
abbrev SKN_STAT_ACTIVE : Key := ⟨.skn, 0, 4, 0⟩
abbrev SKN_STAT_THR : Key := ⟨.skn, 0, 4, 8⟩
abbrev SKN_MASK : Key := ⟨.skn, 0, 8, 0⟩
abbrev SKN_SCMD_START : Key := ⟨.skn, 0, 16, 0⟩
abbrev SKN_SCMD_STOP : Key := ⟨.skn, 0, 16, 1⟩
abbrev SKN_SCMD_PAUSE : Key := ⟨.skn, 0, 16, 2⟩
abbrev SKN_SCMD_RESUME : Key := ⟨.skn, 0, 16, 3⟩
abbrev SKN_T_AT : Key := ⟨.skn, 0, 20, 0⟩
abbrev SKN_LOAD_CTL_GO : Key := ⟨.skn, 0, 32, 0⟩
abbrev SKN_LOAD_CTL_DELETE : Key := ⟨.skn, 0, 32, 1⟩
abbrev SKN_LOAD_LEN : Key := ⟨.skn, 0, 36, 0⟩
abbrev SKN_LOAD_STAT_COUNT : Key := ⟨.skn, 0, 40, 0⟩
abbrev SKN_LOAD_STAT_KIND : Key := ⟨.skn, 0, 40, 16⟩
abbrev SKN_LOAD_STAT_RESULT : Key := ⟨.skn, 0, 40, 24⟩
abbrev SKN_LOAD_STAT_BUSY : Key := ⟨.skn, 0, 40, 31⟩
abbrev SKN_LOAD_ID : Key := ⟨.skn, 0, 44, 0⟩
abbrev SKN_DEL_ID : Key := ⟨.skn, 0, 48, 0⟩
abbrev SKN_TQ_ID : Key := ⟨.skn, 0, 52, 0⟩
abbrev SKN_TQ_STAT_VERSION : Key := ⟨.skn, 0, 56, 0⟩
abbrev SKN_TQ_STAT_KIND : Key := ⟨.skn, 0, 56, 24⟩
abbrev SKN_TQ_STAT_STORED : Key := ⟨.skn, 0, 56, 31⟩
abbrev SKN_TBL_FREE : Key := ⟨.skn, 0, 60, 0⟩
abbrev GRP_CNT (g : Nat) : Key := ⟨.grp, g, 0, 0⟩
abbrev GRP_TMO (g : Nat) : Key := ⟨.grp, g, 4, 0⟩
abbrev GRP_STAT_GEN (g : Nat) : Key := ⟨.grp, g, 8, 0⟩
abbrev GRP_STAT_ARRIVED (g : Nat) : Key := ⟨.grp, g, 8, 16⟩
abbrev GRP_STAT_LAST (g : Nat) : Key := ⟨.grp, g, 8, 30⟩
abbrev GRP_CTL_ABORT (g : Nat) : Key := ⟨.grp, g, 12, 0⟩
abbrev ENG_CTL_START (c : Nat) : Key := ⟨.eng, c, 0, 0⟩
abbrev ENG_CTL_STOP (c : Nat) : Key := ⟨.eng, c, 0, 1⟩
abbrev ENG_CTL_PAUSE (c : Nat) : Key := ⟨.eng, c, 0, 2⟩
abbrev ENG_CTL_RESUME (c : Nat) : Key := ⟨.eng, c, 0, 3⟩
abbrev ENG_CTL_RELEASE (c : Nat) : Key := ⟨.eng, c, 0, 4⟩
abbrev ENG_CTL_HSIG (c : Nat) : Key := ⟨.eng, c, 0, 5⟩
abbrev ENG_STAT_STATE (c : Nat) : Key := ⟨.eng, c, 4, 0⟩
abbrev ENG_STAT_JOINED (c : Nat) : Key := ⟨.eng, c, 4, 7⟩
abbrev ENG_STAT_Z (c : Nat) : Key := ⟨.eng, c, 4, 8⟩
abbrev ENG_STAT_N (c : Nat) : Key := ⟨.eng, c, 4, 9⟩
abbrev ENG_STAT_C (c : Nat) : Key := ⟨.eng, c, 4, 10⟩
abbrev ENG_STAT_CLR_ARMED (c : Nat) : Key := ⟨.eng, c, 4, 15⟩
abbrev ENG_STAT_DEPTH (c : Nat) : Key := ⟨.eng, c, 4, 16⟩
abbrev ENG_STAT_REFUSE (c : Nat) : Key := ⟨.eng, c, 4, 24⟩
abbrev ENG_STAT_END (c : Nat) : Key := ⟨.eng, c, 4, 28⟩
abbrev ENG_IMAGE (c : Nat) : Key := ⟨.eng, c, 8, 0⟩
abbrev ENG_ENTRY_VAL (c : Nat) : Key := ⟨.eng, c, 12, 0⟩
abbrev ENG_PC (c : Nat) : Key := ⟨.eng, c, 16, 0⟩
abbrev ENG_FRZ_DETAIL (c : Nat) : Key := ⟨.eng, c, 20, 0⟩
abbrev ENG_FRZ_CAUSE (c : Nat) : Key := ⟨.eng, c, 20, 24⟩
abbrev ENG_FRZ_T (c : Nat) : Key := ⟨.eng, c, 24, 0⟩
abbrev ENG_EVT_VAL (c : Nat) : Key := ⟨.eng, c, 32, 0⟩
abbrev ENG_EVMASK_VAL (c : Nat) : Key := ⟨.eng, c, 36, 0⟩
abbrev ENG_GRP_GEN (c : Nat) : Key := ⟨.eng, c, 40, 0⟩
abbrev ENG_GRP_G (c : Nat) : Key := ⟨.eng, c, 40, 16⟩
abbrev ENG_DON (c : Nat) : Key := ⟨.eng, c, 44, 0⟩
abbrev ENG_RET0 (c : Nat) : Key := ⟨.eng, c, 48, 0⟩
abbrev ENG_RET1 (c : Nat) : Key := ⟨.eng, c, 52, 0⟩
abbrev ENG_RET2 (c : Nat) : Key := ⟨.eng, c, 56, 0⟩
abbrev ENG_RET3 (c : Nat) : Key := ⟨.eng, c, 60, 0⟩
abbrev ENG_K0 (c : Nat) : Key := ⟨.eng, c, 64, 0⟩
abbrev ENG_K1 (c : Nat) : Key := ⟨.eng, c, 68, 0⟩
abbrev ENG_K2 (c : Nat) : Key := ⟨.eng, c, 72, 0⟩
abbrev ENG_K3 (c : Nat) : Key := ⟨.eng, c, 76, 0⟩
abbrev ENG_K4 (c : Nat) : Key := ⟨.eng, c, 80, 0⟩
abbrev ENG_K5 (c : Nat) : Key := ⟨.eng, c, 84, 0⟩
abbrev ENG_K6 (c : Nat) : Key := ⟨.eng, c, 88, 0⟩
abbrev ENG_K7 (c : Nat) : Key := ⟨.eng, c, 92, 0⟩
abbrev ENG_K8 (c : Nat) : Key := ⟨.eng, c, 96, 0⟩
abbrev ENG_K9 (c : Nat) : Key := ⟨.eng, c, 100, 0⟩
abbrev ENG_K10 (c : Nat) : Key := ⟨.eng, c, 104, 0⟩
abbrev ENG_K11 (c : Nat) : Key := ⟨.eng, c, 108, 0⟩
abbrev ENG_K12 (c : Nat) : Key := ⟨.eng, c, 112, 0⟩
abbrev ENG_K13 (c : Nat) : Key := ⟨.eng, c, 116, 0⟩
abbrev ENG_K14 (c : Nat) : Key := ⟨.eng, c, 120, 0⟩
abbrev ENG_K15 (c : Nat) : Key := ⟨.eng, c, 124, 0⟩
abbrev ENG_A0 (c : Nat) : Key := ⟨.eng, c, 128, 0⟩
abbrev ENG_A1 (c : Nat) : Key := ⟨.eng, c, 136, 0⟩
abbrev ENG_A2 (c : Nat) : Key := ⟨.eng, c, 144, 0⟩
abbrev ENG_A3 (c : Nat) : Key := ⟨.eng, c, 152, 0⟩
abbrev ENG_TURNS (c : Nat) : Key := ⟨.eng, c, 160, 0⟩
abbrev LOOP_CTL_DL_CLR : Key := ⟨.loop, 0, 0, 0⟩
abbrev LOOP_STAT_DL : Key := ⟨.loop, 0, 4, 0⟩
abbrev LOOP_STAT_LANE_OK : Key := ⟨.loop, 0, 4, 4⟩
abbrev LOOP_STAT_THR : Key := ⟨.loop, 0, 4, 8⟩
abbrev LOOP_DL_CNT : Key := ⟨.loop, 0, 8, 0⟩
abbrev LOOP_DL_LAST_OBJ : Key := ⟨.loop, 0, 12, 16⟩
abbrev LOOP_DL_LAST_LANE : Key := ⟨.loop, 0, 12, 24⟩
abbrev LOOP_LANE0_END : Key := ⟨.loop, 0, 16, 0⟩
abbrev LOOP_LANE1_END : Key := ⟨.loop, 0, 20, 0⟩
abbrev LOOP_LANE2_END : Key := ⟨.loop, 0, 24, 0⟩
abbrev LOOP_LANE3_END : Key := ⟨.loop, 0, 28, 0⟩
abbrev LPC_CFG_XMAX (c : Nat) : Key := ⟨.loopCh, c, 0, 0⟩
abbrev LPC_CFG_MAN (c : Nat) : Key := ⟨.loopCh, c, 0, 16⟩
abbrev LPC_KPI (c : Nat) : Key := ⟨.loopCh, c, 4, 0⟩
abbrev LPC_KII (c : Nat) : Key := ⟨.loopCh, c, 8, 0⟩
abbrev LPC_KPV (c : Nat) : Key := ⟨.loopCh, c, 12, 0⟩
abbrev LPC_KIV (c : Nat) : Key := ⟨.loopCh, c, 16, 0⟩
abbrev LPC_MAN_OUT (c : Nat) : Key := ⟨.loopCh, c, 20, 0⟩
abbrev LPC_XI (c : Nat) : Key := ⟨.loopCh, c, 24, 0⟩
abbrev LPC_XV (c : Nat) : Key := ⟨.loopCh, c, 28, 0⟩
abbrev LPA_CFG_WMAX (a : Nat) : Key := ⟨.loopAx, a, 0, 0⟩
abbrev LPA_CFG_FRIC_EN (a : Nat) : Key := ⟨.loopAx, a, 0, 16⟩
abbrev LPA_CFG_COG_EN (a : Nat) : Key := ⟨.loopAx, a, 0, 17⟩
abbrev LPA_CFG_MAN (a : Nat) : Key := ⟨.loopAx, a, 0, 18⟩
abbrev LPA_KPC (a : Nat) : Key := ⟨.loopAx, a, 4, 0⟩
abbrev LPA_KIC (a : Nat) : Key := ⟨.loopAx, a, 8, 0⟩
abbrev LPA_KPS (a : Nat) : Key := ⟨.loopAx, a, 12, 0⟩
abbrev LPA_KIS (a : Nat) : Key := ⟨.loopAx, a, 16, 0⟩
abbrev LPA_KPP (a : Nat) : Key := ⟨.loopAx, a, 20, 0⟩
abbrev LPA_FRIC_SPD (a : Nat) : Key := ⟨.loopAx, a, 24, 0⟩
abbrev LPA_MAN_OUT (a : Nat) : Key := ⟨.loopAx, a, 28, 0⟩
abbrev LPA_XD (a : Nat) : Key := ⟨.loopAx, a, 32, 0⟩
abbrev LPA_XQ (a : Nat) : Key := ⟨.loopAx, a, 36, 0⟩
abbrev LPA_XS (a : Nat) : Key := ⟨.loopAx, a, 40, 0⟩
abbrev TR_CTL_ESRC (n : Nat) : Key := ⟨.loopTr, n, 0, 0⟩
abbrev TR_CTL_TPRB (n : Nat) : Key := ⟨.loopTr, n, 0, 20⟩
abbrev TR_CTL_KIND (n : Nat) : Key := ⟨.loopTr, n, 0, 24⟩
abbrev TR_CTL_RING (n : Nat) : Key := ⟨.loopTr, n, 0, 29⟩
abbrev TR_CTL_FORCE (n : Nat) : Key := ⟨.loopTr, n, 0, 30⟩
abbrev TR_CTL_ARM (n : Nat) : Key := ⟨.loopTr, n, 0, 31⟩
abbrev TR_STAT_FILL (n : Nat) : Key := ⟨.loopTr, n, 4, 0⟩
abbrev TR_STAT_THIN (n : Nat) : Key := ⟨.loopTr, n, 4, 28⟩
abbrev TR_STAT_TRIG (n : Nat) : Key := ⟨.loopTr, n, 4, 29⟩
abbrev TR_STAT_ARMED (n : Nat) : Key := ⟨.loopTr, n, 4, 30⟩
abbrev TR_STAT_DONE (n : Nat) : Key := ⟨.loopTr, n, 4, 31⟩
abbrev TR_DIV_VAL (n : Nat) : Key := ⟨.loopTr, n, 8, 0⟩
abbrev TR_PRE_VAL (n : Nat) : Key := ⟨.loopTr, n, 12, 0⟩
abbrev TR_LEVEL (n : Nat) : Key := ⟨.loopTr, n, 16, 0⟩
abbrev TR_PRB0_OBJ (n : Nat) : Key := ⟨.loopTr, n, 64, 16⟩
abbrev TR_PRB0_SIG (n : Nat) : Key := ⟨.loopTr, n, 64, 24⟩
abbrev TR_PRB0_EN (n : Nat) : Key := ⟨.loopTr, n, 64, 31⟩
abbrev TR_PRB1_OBJ (n : Nat) : Key := ⟨.loopTr, n, 68, 16⟩
abbrev TR_PRB1_SIG (n : Nat) : Key := ⟨.loopTr, n, 68, 24⟩
abbrev TR_PRB1_EN (n : Nat) : Key := ⟨.loopTr, n, 68, 31⟩
abbrev TR_PRB2_OBJ (n : Nat) : Key := ⟨.loopTr, n, 72, 16⟩
abbrev TR_PRB2_SIG (n : Nat) : Key := ⟨.loopTr, n, 72, 24⟩
abbrev TR_PRB2_EN (n : Nat) : Key := ⟨.loopTr, n, 72, 31⟩
abbrev TR_PRB3_OBJ (n : Nat) : Key := ⟨.loopTr, n, 76, 16⟩
abbrev TR_PRB3_SIG (n : Nat) : Key := ⟨.loopTr, n, 76, 24⟩
abbrev TR_PRB3_EN (n : Nat) : Key := ⟨.loopTr, n, 76, 31⟩
abbrev TR_PRB4_OBJ (n : Nat) : Key := ⟨.loopTr, n, 80, 16⟩
abbrev TR_PRB4_SIG (n : Nat) : Key := ⟨.loopTr, n, 80, 24⟩
abbrev TR_PRB4_EN (n : Nat) : Key := ⟨.loopTr, n, 80, 31⟩
abbrev TR_PRB5_OBJ (n : Nat) : Key := ⟨.loopTr, n, 84, 16⟩
abbrev TR_PRB5_SIG (n : Nat) : Key := ⟨.loopTr, n, 84, 24⟩
abbrev TR_PRB5_EN (n : Nat) : Key := ⟨.loopTr, n, 84, 31⟩
abbrev TR_PRB6_OBJ (n : Nat) : Key := ⟨.loopTr, n, 88, 16⟩
abbrev TR_PRB6_SIG (n : Nat) : Key := ⟨.loopTr, n, 88, 24⟩
abbrev TR_PRB6_EN (n : Nat) : Key := ⟨.loopTr, n, 88, 31⟩
abbrev TR_PRB7_OBJ (n : Nat) : Key := ⟨.loopTr, n, 92, 16⟩
abbrev TR_PRB7_SIG (n : Nat) : Key := ⟨.loopTr, n, 92, 24⟩
abbrev TR_PRB7_EN (n : Nat) : Key := ⟨.loopTr, n, 92, 31⟩
abbrev TR_PRB8_OBJ (n : Nat) : Key := ⟨.loopTr, n, 96, 16⟩
abbrev TR_PRB8_SIG (n : Nat) : Key := ⟨.loopTr, n, 96, 24⟩
abbrev TR_PRB8_EN (n : Nat) : Key := ⟨.loopTr, n, 96, 31⟩
abbrev TR_PRB9_OBJ (n : Nat) : Key := ⟨.loopTr, n, 100, 16⟩
abbrev TR_PRB9_SIG (n : Nat) : Key := ⟨.loopTr, n, 100, 24⟩
abbrev TR_PRB9_EN (n : Nat) : Key := ⟨.loopTr, n, 100, 31⟩
abbrev TR_PRB10_OBJ (n : Nat) : Key := ⟨.loopTr, n, 104, 16⟩
abbrev TR_PRB10_SIG (n : Nat) : Key := ⟨.loopTr, n, 104, 24⟩
abbrev TR_PRB10_EN (n : Nat) : Key := ⟨.loopTr, n, 104, 31⟩
abbrev TR_PRB11_OBJ (n : Nat) : Key := ⟨.loopTr, n, 108, 16⟩
abbrev TR_PRB11_SIG (n : Nat) : Key := ⟨.loopTr, n, 108, 24⟩
abbrev TR_PRB11_EN (n : Nat) : Key := ⟨.loopTr, n, 108, 31⟩
abbrev TR_PRB12_OBJ (n : Nat) : Key := ⟨.loopTr, n, 112, 16⟩
abbrev TR_PRB12_SIG (n : Nat) : Key := ⟨.loopTr, n, 112, 24⟩
abbrev TR_PRB12_EN (n : Nat) : Key := ⟨.loopTr, n, 112, 31⟩
abbrev TR_PRB13_OBJ (n : Nat) : Key := ⟨.loopTr, n, 116, 16⟩
abbrev TR_PRB13_SIG (n : Nat) : Key := ⟨.loopTr, n, 116, 24⟩
abbrev TR_PRB13_EN (n : Nat) : Key := ⟨.loopTr, n, 116, 31⟩
abbrev TR_PRB14_OBJ (n : Nat) : Key := ⟨.loopTr, n, 120, 16⟩
abbrev TR_PRB14_SIG (n : Nat) : Key := ⟨.loopTr, n, 120, 24⟩
abbrev TR_PRB14_EN (n : Nat) : Key := ⟨.loopTr, n, 120, 31⟩
abbrev TR_PRB15_OBJ (n : Nat) : Key := ⟨.loopTr, n, 124, 16⟩
abbrev TR_PRB15_SIG (n : Nat) : Key := ⟨.loopTr, n, 124, 24⟩
abbrev TR_PRB15_EN (n : Nat) : Key := ⟨.loopTr, n, 124, 31⟩
abbrev AXS_CTL_START (a : Nat) : Key := ⟨.axs, a, 0, 0⟩
abbrev AXS_CTL_STOP (a : Nat) : Key := ⟨.axs, a, 0, 1⟩
abbrev AXS_CTL_FLT_CLR (a : Nat) : Key := ⟨.axs, a, 0, 2⟩
abbrev AXS_STAT_STATE (a : Nat) : Key := ⟨.axs, a, 4, 0⟩
abbrev AXS_STAT_PRS (a : Nat) : Key := ⟨.axs, a, 4, 16⟩
abbrev AXS_STAT_ASRC (a : Nat) : Key := ⟨.axs, a, 4, 24⟩
abbrev AXS_STAT_CLR_ARMED (a : Nat) : Key := ⟨.axs, a, 4, 26⟩
abbrev AXS_STAT_FB_USED (a : Nat) : Key := ⟨.axs, a, 4, 27⟩
abbrev AXS_STAT_X60_LOSS (a : Nat) : Key := ⟨.axs, a, 4, 28⟩
abbrev AXS_STAT_I2T_LIM (a : Nat) : Key := ⟨.axs, a, 4, 29⟩
abbrev AXS_STAT_BRK_ON (a : Nat) : Key := ⟨.axs, a, 4, 30⟩
abbrev AXS_STAT_REV_HELD (a : Nat) : Key := ⟨.axs, a, 4, 31⟩
abbrev AXS_FLT_CAUSE (a : Nat) : Key := ⟨.axs, a, 8, 0⟩
abbrev AXS_FLT_SECOND (a : Nat) : Key := ⟨.axs, a, 8, 8⟩
abbrev AXS_FLT_COUNT (a : Nat) : Key := ⟨.axs, a, 8, 24⟩
abbrev AXS_CFG_INJ_V (a : Nat) : Key := ⟨.axs, a, 12, 0⟩
abbrev AXS_CFG_POLES (a : Nat) : Key := ⟨.axs, a, 12, 8⟩
abbrev AXS_CFG_REV_THR (a : Nat) : Key := ⟨.axs, a, 12, 16⟩
abbrev AXS_CFG_X60_FORM (a : Nat) : Key := ⟨.axs, a, 12, 26⟩
abbrev AXS_CFG_MODE (a : Nat) : Key := ⟨.axs, a, 12, 28⟩
abbrev AXS_CFG_RUNDOWN (a : Nat) : Key := ⟨.axs, a, 12, 30⟩
abbrev AXS_CFG_FB_EN (a : Nat) : Key := ⟨.axs, a, 12, 31⟩
abbrev AXS_N_RATED (a : Nat) : Key := ⟨.axs, a, 16, 0⟩
abbrev AXS_LD (a : Nat) : Key := ⟨.axs, a, 20, 0⟩
abbrev AXS_LQ (a : Nat) : Key := ⟨.axs, a, 24, 0⟩
abbrev AXS_PSI (a : Nat) : Key := ⟨.axs, a, 28, 0⟩
abbrev AXS_RS (a : Nat) : Key := ⟨.axs, a, 32, 0⟩
abbrev AXS_I_CONT (a : Nat) : Key := ⟨.axs, a, 36, 0⟩
abbrev AXS_I_PEAK (a : Nat) : Key := ⟨.axs, a, 40, 0⟩
abbrev AXS_T_PK (a : Nat) : Key := ⟨.axs, a, 44, 0⟩
abbrev AXS_ACC (a : Nat) : Key := ⟨.axs, a, 48, 0⟩
abbrev AXS_DEC (a : Nat) : Key := ⟨.axs, a, 52, 0⟩
abbrev AXS_SPD_REF (a : Nat) : Key := ⟨.axs, a, 56, 0⟩
abbrev AXS_SPD (a : Nat) : Key := ⟨.axs, a, 60, 0⟩
abbrev AXS_I2T (a : Nat) : Key := ⟨.axs, a, 64, 0⟩
abbrev AXS_FORCE (a : Nat) : Key := ⟨.axs, a, 68, 0⟩
abbrev AXS_F_TGT (a : Nat) : Key := ⟨.axs, a, 72, 0⟩
abbrev AXS_F_RATE (a : Nat) : Key := ⟨.axs, a, 76, 0⟩
abbrev AXS_F_BAND (a : Nat) : Key := ⟨.axs, a, 80, 0⟩
abbrev AXS_V_APP (a : Nat) : Key := ⟨.axs, a, 84, 0⟩
abbrev AXS_REL_POS (a : Nat) : Key := ⟨.axs, a, 88, 0⟩
abbrev AXS_F_FS (a : Nat) : Key := ⟨.axs, a, 92, 0⟩
abbrev AXS_KPF (a : Nat) : Key := ⟨.axs, a, 96, 0⟩
abbrev AXS_KIF (a : Nat) : Key := ⟨.axs, a, 100, 0⟩
abbrev AXS_F_HOST (a : Nat) : Key := ⟨.axs, a, 104, 0⟩
abbrev AXS_X60_IN (a : Nat) : Key := ⟨.axs, a, 108, 0⟩
abbrev AXS_X60_SMAX (a : Nat) : Key := ⟨.axs, a, 112, 0⟩
abbrev AXS_X60_FB (a : Nat) : Key := ⟨.axs, a, 116, 0⟩
abbrev AXS_FB_OFS (a : Nat) : Key := ⟨.axs, a, 120, 0⟩
abbrev POS_CTL_REF_CLR (p : Nat) : Key := ⟨.pos, p, 0, 0⟩
abbrev POS_CTL_CMP_ARM (p : Nat) : Key := ⟨.pos, p, 0, 1⟩
abbrev POS_CTL_CMP_STOP (p : Nat) : Key := ⟨.pos, p, 0, 2⟩
abbrev POS_CTL_FIFO_CLR (p : Nat) : Key := ⟨.pos, p, 0, 3⟩
abbrev POS_STAT_SSI_BADRUN (p : Nat) : Key := ⟨.pos, p, 4, 16⟩
abbrev POS_STAT_ILL_WIN (p : Nat) : Key := ⟨.pos, p, 4, 24⟩
abbrev POS_STAT_DIR (p : Nat) : Key := ⟨.pos, p, 4, 26⟩
abbrev POS_STAT_SSI_BAD (p : Nat) : Key := ⟨.pos, p, 4, 27⟩
abbrev POS_STAT_LINE_FLT (p : Nat) : Key := ⟨.pos, p, 4, 28⟩
abbrev POS_STAT_CMP_ARMED (p : Nat) : Key := ⟨.pos, p, 4, 29⟩
abbrev POS_STAT_IDX_CORR (p : Nat) : Key := ⟨.pos, p, 4, 30⟩
abbrev POS_STAT_REF_FOUND (p : Nat) : Key := ⟨.pos, p, 4, 31⟩
abbrev POS_FLT_CODE (p : Nat) : Key := ⟨.pos, p, 8, 0⟩
abbrev POS_FLT_DETAIL (p : Nat) : Key := ⟨.pos, p, 8, 16⟩
abbrev POS_CFG_GAP_TMAX (p : Nat) : Key := ⟨.pos, p, 12, 16⟩
abbrev POS_CFG_FILT (p : Nat) : Key := ⟨.pos, p, 12, 24⟩
abbrev POS_CFG_MISS (p : Nat) : Key := ⟨.pos, p, 12, 28⟩
abbrev POS_CFG_SRC (p : Nat) : Key := ⟨.pos, p, 12, 30⟩
abbrev POS_WRAP (p : Nat) : Key := ⟨.pos, p, 16, 0⟩
abbrev POS_COUNT (p : Nat) : Key := ⟨.pos, p, 20, 0⟩
abbrev POS_TURNS (p : Nat) : Key := ⟨.pos, p, 24, 0⟩
abbrev POS_POS (p : Nat) : Key := ⟨.pos, p, 28, 0⟩
abbrev POS_SPD (p : Nat) : Key := ⟨.pos, p, 32, 0⟩
abbrev POS_ILL_CNT (p : Nat) : Key := ⟨.pos, p, 36, 0⟩
abbrev POS_IDX_ERR (p : Nat) : Key := ⟨.pos, p, 40, 0⟩
abbrev POS_IDX_CNT (p : Nat) : Key := ⟨.pos, p, 44, 0⟩
abbrev POS_SSI_CFG_ERR_LIM (p : Nat) : Key := ⟨.pos, p, 48, 5⟩
abbrev POS_SSI_CFG_ST (p : Nat) : Key := ⟨.pos, p, 48, 10⟩
abbrev POS_SSI_CFG_MT (p : Nat) : Key := ⟨.pos, p, 48, 15⟩
abbrev POS_SSI_CFG_CRC_LEN (p : Nat) : Key := ⟨.pos, p, 48, 20⟩
abbrev POS_SSI_CFG_CLK (p : Nat) : Key := ⟨.pos, p, 48, 24⟩
abbrev POS_SSI_CFG_PER (p : Nat) : Key := ⟨.pos, p, 48, 27⟩
abbrev POS_SSI_CFG_CRC_INV (p : Nat) : Key := ⟨.pos, p, 48, 28⟩
abbrev POS_SSI_CFG_ERR_POL (p : Nat) : Key := ⟨.pos, p, 48, 29⟩
abbrev POS_SSI_CFG_ERR_EN (p : Nat) : Key := ⟨.pos, p, 48, 30⟩
abbrev POS_SSI_CFG_GRAY (p : Nat) : Key := ⟨.pos, p, 48, 31⟩
abbrev POS_SSI_TMO_VAL (p : Nat) : Key := ⟨.pos, p, 52, 0⟩
abbrev POS_SSI_CRC_VAL (p : Nat) : Key := ⟨.pos, p, 56, 0⟩
abbrev POS_SSI_JUMP (p : Nat) : Key := ⟨.pos, p, 60, 0⟩
abbrev POS_SSI_ERR_JUMP (p : Nat) : Key := ⟨.pos, p, 64, 0⟩
abbrev POS_SSI_ERR_TMO (p : Nat) : Key := ⟨.pos, p, 64, 8⟩
abbrev POS_SSI_ERR_ERR (p : Nat) : Key := ⟨.pos, p, 64, 16⟩
abbrev POS_SSI_ERR_CRC (p : Nat) : Key := ⟨.pos, p, 64, 24⟩
abbrev POS_SSI_RAW (p : Nat) : Key := ⟨.pos, p, 68, 0⟩
abbrev POS_CMP_POS (p : Nat) : Key := ⟨.pos, p, 72, 0⟩
abbrev POS_CMP_SPC (p : Nat) : Key := ⟨.pos, p, 76, 0⟩
abbrev POS_CMP_N (p : Nat) : Key := ⟨.pos, p, 80, 0⟩
abbrev POS_CMP_LEFT (p : Nat) : Key := ⟨.pos, p, 84, 0⟩
abbrev POS_FIFO_STAT_FILL (p : Nat) : Key := ⟨.pos, p, 88, 0⟩
abbrev POS_FIFO_STAT_SKIP (p : Nat) : Key := ⟨.pos, p, 88, 8⟩
abbrev POS_FIFO_STAT_LOST (p : Nat) : Key := ⟨.pos, p, 88, 16⟩
abbrev POS_HIT_POS (p : Nat) : Key := ⟨.pos, p, 96, 0⟩
abbrev POS_HIT_FRC_FORCE (p : Nat) : Key := ⟨.pos, p, 100, 0⟩
abbrev POS_HIT_FRC_MULTI (p : Nat) : Key := ⟨.pos, p, 100, 24⟩
abbrev POS_HIT_FRC_OOS (p : Nat) : Key := ⟨.pos, p, 100, 25⟩
abbrev POS_HIT_T (p : Nat) : Key := ⟨.pos, p, 104, 0⟩
abbrev POS_PT_CTL_SEL (p : Nat) : Key := ⟨.pos, p, 112, 0⟩
abbrev POS_PT_CTL_EN (p : Nat) : Key := ⟨.pos, p, 112, 3⟩
abbrev SAFE_CTL_ACTIVATE : Key := ⟨.safe, 0, 0, 0⟩
abbrev SAFE_CTL_HO_CA : Key := ⟨.safe, 0, 0, 1⟩
abbrev SAFE_CTL_HO_CB : Key := ⟨.safe, 0, 0, 2⟩
abbrev SAFE_STAT_HANDOVER : Key := ⟨.safe, 0, 4, 22⟩
abbrev SAFE_STAT_DEGR_WARN : Key := ⟨.safe, 0, 4, 23⟩
abbrev SAFE_STAT_SUPPLY_OK : Key := ⟨.safe, 0, 4, 24⟩
abbrev SAFE_STAT_CHA_OK : Key := ⟨.safe, 0, 4, 25⟩
abbrev SAFE_STAT_CHB_OK : Key := ⟨.safe, 0, 4, 26⟩
abbrev SAFE_STAT_XLINK_OK : Key := ⟨.safe, 0, 4, 27⟩
abbrev SAFE_STAT_LTEST_DUE : Key := ⟨.safe, 0, 4, 28⟩
abbrev SAFE_STAT_PEND_OK : Key := ⟨.safe, 0, 4, 29⟩
abbrev SAFE_STAT_MODE : Key := ⟨.safe, 0, 4, 30⟩
abbrev SAFE_IN_SI : Key := ⟨.safe, 0, 8, 0⟩
abbrev SAFE_IN_SRESET : Key := ⟨.safe, 0, 8, 16⟩
abbrev SAFE_DEMAND_DEM : Key := ⟨.safe, 0, 12, 0⟩
abbrev SAFE_DEMAND_WAIT : Key := ⟨.safe, 0, 12, 8⟩
abbrev SAFE_DEMAND_DISC : Key := ⟨.safe, 0, 12, 16⟩
abbrev SAFE_LINES_ON : Key := ⟨.safe, 0, 16, 0⟩
abbrev SAFE_LINES_TAKE : Key := ⟨.safe, 0, 16, 8⟩
abbrev SAFE_OUT_ON : Key := ⟨.safe, 0, 20, 0⟩
abbrev SAFE_OUT_FLT : Key := ⟨.safe, 0, 20, 8⟩
abbrev SAFE_OUT_FB : Key := ⟨.safe, 0, 20, 16⟩
abbrev SAFE_FLT_CAUSE : Key := ⟨.safe, 0, 24, 0⟩
abbrev SAFE_FLT_DETAIL : Key := ⟨.safe, 0, 24, 16⟩
abbrev SAFE_FLT_CH : Key := ⟨.safe, 0, 24, 30⟩
abbrev SAFE_DEGR_LEFT : Key := ⟨.safe, 0, 28, 0⟩
abbrev SAFE_PAR_ID : Key := ⟨.safe, 0, 32, 0⟩
abbrev SAFE_PAR_CRC : Key := ⟨.safe, 0, 36, 0⟩
abbrev SAFE_PEND_ID : Key := ⟨.safe, 0, 40, 0⟩
abbrev SAFE_PEND_CRC : Key := ⟨.safe, 0, 44, 0⟩
abbrev SAFE_RST_BLOCKED : Key := ⟨.safe, 0, 48, 0⟩
abbrev SAFE_RST_STUCK : Key := ⟨.safe, 0, 48, 1⟩
abbrev SAFE_RST_HELD : Key := ⟨.safe, 0, 48, 2⟩
abbrev SAFE_RST_COUNT : Key := ⟨.safe, 0, 48, 16⟩
abbrev SAFE_LTEST_AGE : Key := ⟨.safe, 0, 52, 0⟩
abbrev SAFE_GLB_CFG0_T_STOP1 : Key := ⟨.safe, 0, 576, 0⟩
abbrev SAFE_GLB_CFG0_T_PULSE : Key := ⟨.safe, 0, 576, 16⟩
abbrev SAFE_GLB_CFG0_T_DEGR : Key := ⟨.safe, 0, 576, 24⟩
abbrev SAFE_GLB_CFG1_T_OFFP : Key := ⟨.safe, 0, 580, 0⟩
abbrev RED_CTL_REVERT_EN : Key := ⟨.red, 0, 0, 0⟩
abbrev RED_CTL_SWAP : Key := ⟨.red, 0, 0, 1⟩
abbrev RED_CTL_RESYNC : Key := ⟨.red, 0, 0, 2⟩
abbrev RED_STAT_WINDOW : Key := ⟨.red, 0, 4, 19⟩
abbrev RED_STAT_SYNC : Key := ⟨.red, 0, 4, 21⟩
abbrev RED_STAT_LANE0 : Key := ⟨.red, 0, 4, 24⟩
abbrev RED_STAT_LANE1 : Key := ⟨.red, 0, 4, 25⟩
abbrev RED_STAT_SPLIT : Key := ⟨.red, 0, 4, 26⟩
abbrev RED_STAT_PAIRED : Key := ⟨.red, 0, 4, 27⟩
abbrev RED_STAT_ROLE_CB : Key := ⟨.red, 0, 4, 28⟩
abbrev RED_STAT_ROLE_CA : Key := ⟨.red, 0, 4, 30⟩
abbrev RED_FLT_CAUSE : Key := ⟨.red, 0, 8, 0⟩
abbrev RED_FLT_SIDE : Key := ⟨.red, 0, 8, 8⟩
abbrev RED_FLT_DETAIL : Key := ⟨.red, 0, 8, 16⟩
abbrev RED_FLT_COUNT : Key := ⟨.red, 0, 8, 24⟩
abbrev RED_VIEW_HOLDER : Key := ⟨.red, 0, 12, 0⟩
abbrev RED_VIEW_RX_CA : Key := ⟨.red, 0, 12, 8⟩
abbrev RED_VIEW_RX_CB : Key := ⟨.red, 0, 12, 16⟩
abbrev RED_SO_CNT : Key := ⟨.red, 0, 16, 0⟩
abbrev RED_SO_T : Key := ⟨.red, 0, 20, 0⟩
abbrev RED_CLEAN : Key := ⟨.red, 0, 28, 0⟩
abbrev RED_DIV_CNT : Key := ⟨.red, 0, 32, 0⟩
abbrev RED_DIV_HOUR : Key := ⟨.red, 0, 36, 0⟩
abbrev RED_SMIS_CNT : Key := ⟨.red, 0, 40, 0⟩
abbrev THM_CTL_TSD_CLR : Key := ⟨.thm, 0, 0, 0⟩
abbrev THM_STAT_NEXT : Key := ⟨.thm, 0, 4, 4⟩
abbrev THM_STAT_FAST : Key := ⟨.thm, 0, 4, 8⟩
abbrev THM_STAT_THR : Key := ⟨.thm, 0, 4, 25⟩
abbrev THM_STAT_COMP_FRZ : Key := ⟨.thm, 0, 4, 27⟩
abbrev THM_STAT_DERATE : Key := ⟨.thm, 0, 4, 28⟩
abbrev THM_STAT_COOL_LIM : Key := ⟨.thm, 0, 4, 29⟩
abbrev THM_STAT_CLR_ARMED : Key := ⟨.thm, 0, 4, 30⟩
abbrev THM_STAT_TSD : Key := ⟨.thm, 0, 4, 31⟩
abbrev THM_TSD_SENSOR : Key := ⟨.thm, 0, 8, 0⟩
abbrev THM_TSD_SLOT : Key := ⟨.thm, 0, 8, 16⟩
abbrev THM_TSD_CAUSE : Key := ⟨.thm, 0, 8, 24⟩
abbrev THM_INLET_T : Key := ⟨.thm, 0, 12, 0⟩
abbrev THM_OUTLET_T : Key := ⟨.thm, 0, 16, 0⟩
abbrev THM_FLOW : Key := ⟨.thm, 0, 20, 0⟩
abbrev THM_COOL_F_VAL : Key := ⟨.thm, 0, 24, 0⟩
abbrev THM_PUMP_MIN_VAL : Key := ⟨.thm, 0, 28, 0⟩
abbrev THM_FAN_MIN_VAL : Key := ⟨.thm, 0, 32, 0⟩
abbrev THM_DIE_T_CA : Key := ⟨.thm, 0, 36, 0⟩
abbrev THM_DIE_T_CB : Key := ⟨.thm, 0, 36, 16⟩
abbrev THM_PLATE0_T : Key := ⟨.thm, 0, 40, 0⟩
abbrev THM_PLATE1_T : Key := ⟨.thm, 0, 44, 0⟩
abbrev THM_PLATE2_T : Key := ⟨.thm, 0, 48, 0⟩
abbrev THM_PLATE3_T : Key := ⟨.thm, 0, 52, 0⟩
abbrev THM_PLATE4_T : Key := ⟨.thm, 0, 56, 0⟩
abbrev THM_PLATE5_T : Key := ⟨.thm, 0, 60, 0⟩
abbrev THM_TJMAX0 : Key := ⟨.thm, 0, 64, 0⟩
abbrev THM_TJMAX1 : Key := ⟨.thm, 0, 68, 0⟩
abbrev THM_TJMAX2 : Key := ⟨.thm, 0, 72, 0⟩
abbrev THM_TJMAX3 : Key := ⟨.thm, 0, 76, 0⟩
abbrev THM_TJMAX4 : Key := ⟨.thm, 0, 80, 0⟩
abbrev MEM_CTL_CNT_CLR (h : Nat) : Key := ⟨.mem, h, 0, 0⟩
abbrev MEM_CTL_SCR_GO (h : Nat) : Key := ⟨.mem, h, 0, 1⟩
abbrev MEM_CTL_SCR_STOP (h : Nat) : Key := ⟨.mem, h, 0, 2⟩
abbrev MEM_CTL_INJ_GO (h : Nat) : Key := ⟨.mem, h, 0, 3⟩
abbrev MEM_STAT_POISON (h : Nat) : Key := ⟨.mem, h, 4, 0⟩
abbrev MEM_STAT_INJ_OK (h : Nat) : Key := ⟨.mem, h, 4, 28⟩
abbrev MEM_STAT_SCR_PART (h : Nat) : Key := ⟨.mem, h, 4, 29⟩
abbrev MEM_STAT_SCR_BUSY (h : Nat) : Key := ⟨.mem, h, 4, 30⟩
abbrev MEM_STAT_INIT_DONE (h : Nat) : Key := ⟨.mem, h, 4, 31⟩
abbrev MEM_CE_THR (h : Nat) : Key := ⟨.mem, h, 8, 0⟩
abbrev MEM_CE0_CNT (h : Nat) : Key := ⟨.mem, h, 16, 0⟩
abbrev MEM_CE0_ADDR (h : Nat) : Key := ⟨.mem, h, 20, 0⟩
abbrev MEM_CE0_SYN_VAL (h : Nat) : Key := ⟨.mem, h, 24, 0⟩
abbrev MEM_UE0_CNT (h : Nat) : Key := ⟨.mem, h, 28, 0⟩
abbrev MEM_CE1_CNT (h : Nat) : Key := ⟨.mem, h, 32, 0⟩
abbrev MEM_CE1_ADDR (h : Nat) : Key := ⟨.mem, h, 36, 0⟩
abbrev MEM_CE1_SYN_VAL (h : Nat) : Key := ⟨.mem, h, 40, 0⟩
abbrev MEM_UE1_CNT (h : Nat) : Key := ⟨.mem, h, 44, 0⟩
abbrev MEM_CE2_CNT (h : Nat) : Key := ⟨.mem, h, 48, 0⟩
abbrev MEM_CE2_ADDR (h : Nat) : Key := ⟨.mem, h, 52, 0⟩
abbrev MEM_CE2_SYN_VAL (h : Nat) : Key := ⟨.mem, h, 56, 0⟩
abbrev MEM_UE2_CNT (h : Nat) : Key := ⟨.mem, h, 60, 0⟩
abbrev MEM_UE_ADDR (h : Nat) : Key := ⟨.mem, h, 64, 0⟩
abbrev MEM_UE_INFO_ACC (h : Nat) : Key := ⟨.mem, h, 68, 0⟩
abbrev MEM_UE_INFO_MASTER (h : Nat) : Key := ⟨.mem, h, 68, 16⟩
abbrev MEM_UE_INFO_MEM (h : Nat) : Key := ⟨.mem, h, 68, 28⟩
abbrev MEM_SCR_CFG_MEMSEL (h : Nat) : Key := ⟨.mem, h, 80, 0⟩
abbrev MEM_SCR_CFG_REPAIR (h : Nat) : Key := ⟨.mem, h, 80, 31⟩
abbrev MEM_SCR_START (h : Nat) : Key := ⟨.mem, h, 84, 0⟩
abbrev MEM_SCR_END (h : Nat) : Key := ⟨.mem, h, 88, 0⟩
abbrev MEM_SCR_CE (h : Nat) : Key := ⟨.mem, h, 92, 0⟩
abbrev MEM_SCR_UE (h : Nat) : Key := ⟨.mem, h, 96, 0⟩
abbrev MEM_SCR_REP (h : Nat) : Key := ⟨.mem, h, 100, 0⟩
abbrev MEM_SCR_FIRST (h : Nat) : Key := ⟨.mem, h, 104, 0⟩
abbrev MEM_SCR_LAST (h : Nat) : Key := ⟨.mem, h, 108, 0⟩
abbrev MEM_DMA_HALT_MASK (h : Nat) : Key := ⟨.mem, h, 112, 0⟩
abbrev MEM_DMA_RST_MASK (h : Nat) : Key := ⟨.mem, h, 116, 0⟩
abbrev MEM_INJ_CFG_MEMSEL (h : Nat) : Key := ⟨.mem, h, 128, 0⟩
abbrev MEM_INJ_ADDR (h : Nat) : Key := ⟨.mem, h, 132, 0⟩
abbrev MEM_INJ_DLO (h : Nat) : Key := ⟨.mem, h, 136, 0⟩
abbrev MEM_INJ_DHI (h : Nat) : Key := ⟨.mem, h, 140, 0⟩
abbrev MEM_INJ_CHK_VAL (h : Nat) : Key := ⟨.mem, h, 144, 0⟩
abbrev BAY_ID_ISSUE : Key := ⟨.bay, 0, 0, 0⟩
abbrev BAY_ID_ORDER : Key := ⟨.bay, 0, 0, 16⟩
abbrev BAY_SERIAL : Key := ⟨.bay, 0, 4, 0⟩
abbrev BAY_SLOTS_CA : Key := ⟨.bay, 0, 12, 0⟩
abbrev BAY_SLOTS_CB : Key := ⟨.bay, 0, 12, 4⟩
abbrev BAY_SLOTS_S0 : Key := ⟨.bay, 0, 12, 8⟩
abbrev BAY_SLOTS_S1 : Key := ⟨.bay, 0, 12, 12⟩
abbrev BAY_SLOTS_S2 : Key := ⟨.bay, 0, 12, 16⟩
abbrev BAY_SLOTS_S3 : Key := ⟨.bay, 0, 12, 20⟩
abbrev BAY_SLOTS_X : Key := ⟨.bay, 0, 12, 24⟩
abbrev BAY_SLOTS_M : Key := ⟨.bay, 0, 12, 28⟩
abbrev BAY_CMD_ATT_OK : Key := ⟨.bay, 0, 16, 0⟩
abbrev BAY_CMD_CAL_DONE : Key := ⟨.bay, 0, 16, 1⟩
abbrev BAY_CMD_CALIBRATE : Key := ⟨.bay, 0, 16, 2⟩
abbrev BAY_CMD_HOLD : Key := ⟨.bay, 0, 16, 3⟩
abbrev BAY_CMD_RESUME : Key := ⟨.bay, 0, 16, 4⟩
abbrev BAY_CMD_SERVICE : Key := ⟨.bay, 0, 16, 5⟩
abbrev BAY_CMD_EXIT_SVC : Key := ⟨.bay, 0, 16, 6⟩
abbrev BAY_CMD_RECOVER : Key := ⟨.bay, 0, 16, 7⟩
abbrev BAY_CMD_STOP : Key := ⟨.bay, 0, 16, 8⟩
abbrev BAY_CMD_ATT_REJ : Key := ⟨.bay, 0, 16, 9⟩
abbrev BAY_STAT_SVC_STOP : Key := ⟨.bay, 0, 20, 13⟩
abbrev BAY_STAT_HOLD_RT : Key := ⟨.bay, 0, 20, 14⟩
abbrev BAY_STAT_CLR_ARMED : Key := ⟨.bay, 0, 20, 15⟩
abbrev BAY_STAT_DEG : Key := ⟨.bay, 0, 20, 16⟩
abbrev BAY_STAT_PREV : Key := ⟨.bay, 0, 20, 24⟩
abbrev BAY_STAT_MODE : Key := ⟨.bay, 0, 20, 28⟩
abbrev BAY_STOP_CAUSE_MASK : Key := ⟨.bay, 0, 24, 0⟩
abbrev BAY_STOP_CAUSE_FIRST : Key := ⟨.bay, 0, 24, 24⟩
abbrev BAY_FEED_IMP : Key := ⟨.bay, 0, 28, 0⟩
abbrev BAY_FEED_EXP : Key := ⟨.bay, 0, 32, 0⟩
abbrev BAY_MODE_T : Key := ⟨.bay, 0, 36, 0⟩
abbrev BAY_NODE_ADDR : Key := ⟨.bay, 0, 44, 0⟩
abbrev BAY_NODE_PRIMARY : Key := ⟨.bay, 0, 44, 8⟩
abbrev BAY_NODE_BACKUP : Key := ⟨.bay, 0, 44, 9⟩
abbrev SRC_CFG_ENG (s : Nat) : Key := ⟨.src, s, 0, 16⟩
abbrev SRC_CFG_PRIO (s : Nat) : Key := ⟨.src, s, 0, 24⟩
abbrev SRC_CFG_ENG_EN (s : Nat) : Key := ⟨.src, s, 0, 28⟩
abbrev SRC_CFG_NOTE (s : Nat) : Key := ⟨.src, s, 0, 29⟩
abbrev SRC_CFG_CORE (s : Nat) : Key := ⟨.src, s, 0, 30⟩
abbrev SRC_CFG_EN (s : Nat) : Key := ⟨.src, s, 0, 31⟩
abbrev TIME_CTL_FREE : Key := ⟨.time, 0, 0, 0⟩
abbrev TIME_STAT_MASTER : Key := ⟨.time, 0, 4, 0⟩
abbrev TIME_STAT_EPOCH_TAI : Key := ⟨.time, 0, 4, 25⟩
abbrev TIME_STAT_SRC : Key := ⟨.time, 0, 4, 26⟩
abbrev TIME_STAT_STEPPED : Key := ⟨.time, 0, 4, 28⟩
abbrev TIME_STAT_HOLDOVER : Key := ⟨.time, 0, 4, 29⟩
abbrev TIME_STAT_FREE_RUN : Key := ⟨.time, 0, 4, 30⟩
abbrev TIME_STAT_LOCK : Key := ⟨.time, 0, 4, 31⟩
abbrev TIME_NOW : Key := ⟨.time, 0, 8, 0⟩
abbrev TIME_OFFSET : Key := ⟨.time, 0, 16, 0⟩
abbrev TIME_STEER : Key := ⟨.time, 0, 20, 0⟩
abbrev TIME_FRAME : Key := ⟨.time, 0, 24, 0⟩
abbrev TIME_UTC_OFS : Key := ⟨.time, 0, 28, 0⟩
abbrev TIME_STEP_LAST : Key := ⟨.time, 0, 32, 0⟩
abbrev WVE_CTL_DISCOVER : Key := ⟨.wve, 0, 0, 0⟩
abbrev WVE_CTL_RIM_TAKE : Key := ⟨.wve, 0, 0, 1⟩
abbrev WVE_STAT_NODE : Key := ⟨.wve, 0, 4, 0⟩
abbrev WVE_STAT_RIM_NODE : Key := ⟨.wve, 0, 4, 8⟩
abbrev WVE_STAT_DISC_BUSY : Key := ⟨.wve, 0, 4, 22⟩
abbrev WVE_STAT_SESSIONS : Key := ⟨.wve, 0, 4, 23⟩
abbrev WVE_STAT_RIM : Key := ⟨.wve, 0, 4, 26⟩
abbrev WVE_STAT_B_OK : Key := ⟨.wve, 0, 4, 28⟩
abbrev WVE_STAT_A_OK : Key := ⟨.wve, 0, 4, 29⟩
abbrev WVE_STAT_DIAM_OVER : Key := ⟨.wve, 0, 4, 30⟩
abbrev WVE_STAT_BOUND : Key := ⟨.wve, 0, 4, 31⟩
abbrev WVE_RIM_CFG_ROLE : Key := ⟨.wve, 0, 8, 0⟩
abbrev WVE_PORT_P0 : Key := ⟨.wve, 0, 12, 0⟩
abbrev WVE_PORT_P1 : Key := ⟨.wve, 0, 12, 4⟩
abbrev WVE_PORT_P2 : Key := ⟨.wve, 0, 12, 8⟩
abbrev WVE_PORT_P3 : Key := ⟨.wve, 0, 12, 12⟩
abbrev WVE_PORT_P4 : Key := ⟨.wve, 0, 12, 16⟩
abbrev WVE_PORT_P5 : Key := ⟨.wve, 0, 12, 20⟩
abbrev WVE_DIAM_A : Key := ⟨.wve, 0, 16, 0⟩
abbrev WVE_DIAM_B : Key := ⟨.wve, 0, 16, 8⟩
abbrev WVE_TAG_ERR : Key := ⟨.wve, 0, 20, 0⟩
abbrev WVE_REPLAY : Key := ⟨.wve, 0, 24, 0⟩
abbrev WVE_REPAIR : Key := ⟨.wve, 0, 28, 0⟩
abbrev WVE_RETX : Key := ⟨.wve, 0, 32, 0⟩
abbrev WVE_BIND_CTL_ADDR : Key := ⟨.wve, 0, 36, 0⟩
abbrev WVE_BIND_CTL_UNBIND : Key := ⟨.wve, 0, 36, 31⟩
abbrev WVE_H_IP_CA : Key := ⟨.wve, 0, 48, 0⟩
abbrev WVE_H_IP_CB : Key := ⟨.wve, 0, 52, 0⟩
abbrev WVE_H_MASK : Key := ⟨.wve, 0, 56, 0⟩
abbrev WVE_H_GW : Key := ⟨.wve, 0, 60, 0⟩
abbrev WVE_RIM_PORT_VAL : Key := ⟨.wve, 0, 64, 0⟩
abbrev WVE_PTP_CFG_DOMAIN : Key := ⟨.wve, 0, 68, 0⟩
abbrev WVE_PTP_CFG_EN : Key := ⟨.wve, 0, 68, 31⟩
abbrev WVE_RIM_CREDIT : Key := ⟨.wve, 0, 72, 0⟩
abbrev SQ_STAT_DROP (s : Nat) : Key := ⟨.sq, s, 0, 0⟩
abbrev SQ_STAT_AT_CAP (s : Nat) : Key := ⟨.sq, s, 0, 28⟩
abbrev SQ_STAT_HELD (s : Nat) : Key := ⟨.sq, s, 0, 29⟩
abbrev SQ_STAT_UNDERRUN (s : Nat) : Key := ⟨.sq, s, 0, 30⟩
abbrev SQ_STAT_EMPTY (s : Nat) : Key := ⟨.sq, s, 0, 31⟩
abbrev SQ_WR (s : Nat) : Key := ⟨.sq, s, 8, 0⟩
abbrev SQ_RD (s : Nat) : Key := ⟨.sq, s, 16, 0⟩
abbrev SQ_MARK (s : Nat) : Key := ⟨.sq, s, 24, 0⟩
abbrev SQ_REL (s : Nat) : Key := ⟨.sq, s, 32, 0⟩
abbrev CFD_CTL_MODE (k : Nat) : Key := ⟨.cfd, k, 0, 0⟩
abbrev CFD_CTL_TERM (k : Nat) : Key := ⟨.cfd, k, 0, 3⟩
abbrev CFD_CTL_REC (k : Nat) : Key := ⟨.cfd, k, 0, 4⟩
abbrev CFD_CTL_REC_REQ (k : Nat) : Key := ⟨.cfd, k, 0, 6⟩
abbrev CFD_CTL_CLASH_CLR (k : Nat) : Key := ⟨.cfd, k, 0, 7⟩
abbrev CFD_STAT_PENDING (k : Nat) : Key := ⟨.cfd, k, 4, 0⟩
abbrev CFD_STAT_DRIVER (k : Nat) : Key := ⟨.cfd, k, 4, 26⟩
abbrev CFD_STAT_CLASH (k : Nat) : Key := ⟨.cfd, k, 4, 27⟩
abbrev CFD_STAT_REC_RDY (k : Nat) : Key := ⟨.cfd, k, 4, 28⟩
abbrev CFD_STAT_EWARN (k : Nat) : Key := ⟨.cfd, k, 4, 29⟩
abbrev CFD_STAT_STATE (k : Nat) : Key := ⟨.cfd, k, 4, 30⟩
abbrev CFD_NBT_NBRP (k : Nat) : Key := ⟨.cfd, k, 8, 0⟩
abbrev CFD_NBT_NSJW (k : Nat) : Key := ⟨.cfd, k, 8, 9⟩
abbrev CFD_NBT_NTSEG2 (k : Nat) : Key := ⟨.cfd, k, 8, 16⟩
abbrev CFD_NBT_NTSEG1 (k : Nat) : Key := ⟨.cfd, k, 8, 23⟩
abbrev CFD_DBT_DBRP (k : Nat) : Key := ⟨.cfd, k, 12, 0⟩
abbrev CFD_DBT_DSJW (k : Nat) : Key := ⟨.cfd, k, 12, 8⟩
abbrev CFD_DBT_DTSEG2 (k : Nat) : Key := ⟨.cfd, k, 12, 16⟩
abbrev CFD_DBT_DTSEG1 (k : Nat) : Key := ⟨.cfd, k, 12, 24⟩
abbrev CFD_TDC_TDCO (k : Nat) : Key := ⟨.cfd, k, 16, 0⟩
abbrev CFD_TDC_TDC_EN (k : Nat) : Key := ⟨.cfd, k, 16, 31⟩
abbrev CFD_ERR_TEC (k : Nat) : Key := ⟨.cfd, k, 20, 0⟩
abbrev CFD_ERR_REC (k : Nat) : Key := ⟨.cfd, k, 20, 16⟩
abbrev CFD_ERR_CNT_ACK (k : Nat) : Key := ⟨.cfd, k, 24, 0⟩
abbrev CFD_ERR_CNT_FORM (k : Nat) : Key := ⟨.cfd, k, 24, 4⟩
abbrev CFD_ERR_CNT_CRC (k : Nat) : Key := ⟨.cfd, k, 24, 8⟩
abbrev CFD_ERR_CNT_STUFF (k : Nat) : Key := ⟨.cfd, k, 24, 16⟩
abbrev CFD_ERR_CNT_BIT (k : Nat) : Key := ⟨.cfd, k, 24, 24⟩
abbrev CFD_RX_UNM (k : Nat) : Key := ⟨.cfd, k, 28, 0⟩
abbrev CFD_RX_DIFF (k : Nat) : Key := ⟨.cfd, k, 32, 0⟩
abbrev CFD_CLASH_ID_ID (k : Nat) : Key := ⟨.cfd, k, 36, 0⟩
abbrev CFD_CLASH_ID_IDE (k : Nat) : Key := ⟨.cfd, k, 36, 31⟩
abbrev CFD_REC_DLY (k : Nat) : Key := ⟨.cfd, k, 40, 0⟩
abbrev CFD_AUTO_STAT_CAND (k : Nat) : Key := ⟨.cfd, k, 44, 0⟩
abbrev CFD_AUTO_STAT_CYCLES (k : Nat) : Key := ⟨.cfd, k, 44, 16⟩
abbrev CFD_AUTO_STAT_DFOUND (k : Nat) : Key := ⟨.cfd, k, 44, 30⟩
abbrev CFD_AUTO_STAT_DONE (k : Nat) : Key := ⟨.cfd, k, 44, 31⟩
abbrev OBJ_CFG_DLC (o : Nat) : Key := ⟨.cfdObj, o, 0, 16⟩
abbrev OBJ_CFG_BRS (o : Nat) : Key := ⟨.cfdObj, o, 0, 26⟩
abbrev OBJ_CFG_FDF (o : Nat) : Key := ⟨.cfdObj, o, 0, 27⟩
abbrev OBJ_CFG_IDE (o : Nat) : Key := ⟨.cfdObj, o, 0, 28⟩
abbrev OBJ_CFG_CLASS (o : Nat) : Key := ⟨.cfdObj, o, 0, 29⟩
abbrev OBJ_CFG_DIR (o : Nat) : Key := ⟨.cfdObj, o, 0, 30⟩
abbrev OBJ_CFG_EN (o : Nat) : Key := ⟨.cfdObj, o, 0, 31⟩
abbrev OBJ_ID_VAL (o : Nat) : Key := ⟨.cfdObj, o, 4, 0⟩
abbrev OBJ_CTL_REQ (o : Nat) : Key := ⟨.cfdObj, o, 8, 0⟩
abbrev OBJ_CTL_ABORT (o : Nat) : Key := ⟨.cfdObj, o, 8, 1⟩
abbrev OBJ_STAT_SEQ (o : Nat) : Key := ⟨.cfdObj, o, 12, 0⟩
abbrev OBJ_STAT_RDLC (o : Nat) : Key := ⟨.cfdObj, o, 12, 16⟩
abbrev OBJ_STAT_RESI (o : Nat) : Key := ⟨.cfdObj, o, 12, 20⟩
abbrev OBJ_STAT_RBRS (o : Nat) : Key := ⟨.cfdObj, o, 12, 21⟩
abbrev OBJ_STAT_RFDF (o : Nat) : Key := ⟨.cfdObj, o, 12, 22⟩
abbrev OBJ_STAT_SUSP (o : Nat) : Key := ⟨.cfdObj, o, 12, 23⟩
abbrev OBJ_STAT_FCAUSE (o : Nat) : Key := ⟨.cfdObj, o, 12, 24⟩
abbrev OBJ_STAT_FAIL (o : Nat) : Key := ⟨.cfdObj, o, 12, 27⟩
abbrev OBJ_STAT_DONE (o : Nat) : Key := ⟨.cfdObj, o, 12, 28⟩
abbrev OBJ_STAT_PEND (o : Nat) : Key := ⟨.cfdObj, o, 12, 29⟩
abbrev OBJ_STAT_LOST (o : Nat) : Key := ⟨.cfdObj, o, 12, 30⟩
abbrev OBJ_STAT_NEW (o : Nat) : Key := ⟨.cfdObj, o, 12, 31⟩
abbrev OBJ_T (o : Nat) : Key := ⟨.cfdObj, o, 16, 0⟩
abbrev OBJ_TMO_VAL (o : Nat) : Key := ⟨.cfdObj, o, 24, 0⟩
abbrev OBJ_D0 (o : Nat) : Key := ⟨.cfdObj, o, 64, 0⟩
abbrev OBJ_D1 (o : Nat) : Key := ⟨.cfdObj, o, 68, 0⟩
abbrev OBJ_D2 (o : Nat) : Key := ⟨.cfdObj, o, 72, 0⟩
abbrev OBJ_D3 (o : Nat) : Key := ⟨.cfdObj, o, 76, 0⟩
abbrev OBJ_D4 (o : Nat) : Key := ⟨.cfdObj, o, 80, 0⟩
abbrev OBJ_D5 (o : Nat) : Key := ⟨.cfdObj, o, 84, 0⟩
abbrev OBJ_D6 (o : Nat) : Key := ⟨.cfdObj, o, 88, 0⟩
abbrev OBJ_D7 (o : Nat) : Key := ⟨.cfdObj, o, 92, 0⟩
abbrev OBJ_D8 (o : Nat) : Key := ⟨.cfdObj, o, 96, 0⟩
abbrev OBJ_D9 (o : Nat) : Key := ⟨.cfdObj, o, 100, 0⟩
abbrev OBJ_D10 (o : Nat) : Key := ⟨.cfdObj, o, 104, 0⟩
abbrev OBJ_D11 (o : Nat) : Key := ⟨.cfdObj, o, 108, 0⟩
abbrev OBJ_D12 (o : Nat) : Key := ⟨.cfdObj, o, 112, 0⟩
abbrev OBJ_D13 (o : Nat) : Key := ⟨.cfdObj, o, 116, 0⟩
abbrev OBJ_D14 (o : Nat) : Key := ⟨.cfdObj, o, 120, 0⟩
abbrev OBJ_D15 (o : Nat) : Key := ⟨.cfdObj, o, 124, 0⟩
abbrev TRU_CTL_ATT_GO : Key := ⟨.tru, 0, 0, 0⟩
abbrev TRU_CTL_ENR_GO : Key := ⟨.tru, 0, 0, 1⟩
abbrev TRU_CTL_FW_PREF_A : Key := ⟨.tru, 0, 0, 2⟩
abbrev TRU_CTL_FW_PREF_B : Key := ⟨.tru, 0, 0, 3⟩
abbrev TRU_CTL_VER_REBUILD : Key := ⟨.tru, 0, 0, 4⟩
abbrev TRU_CTL_RKEY_NEW : Key := ⟨.tru, 0, 0, 5⟩
abbrev TRU_CTL_Q_RESTART : Key := ⟨.tru, 0, 0, 6⟩
abbrev TRU_CTL_DISCARD : Key := ⟨.tru, 0, 0, 7⟩
abbrev TRU_STAT_HOST_N : Key := ⟨.tru, 0, 4, 16⟩
abbrev TRU_STAT_PLANT_N : Key := ⟨.tru, 0, 4, 20⟩
abbrev TRU_STAT_ATT_ACC : Key := ⟨.tru, 0, 4, 25⟩
abbrev TRU_STAT_SE_CA_OK : Key := ⟨.tru, 0, 4, 26⟩
abbrev TRU_STAT_SE_CB_OK : Key := ⟨.tru, 0, 4, 27⟩
abbrev TRU_STAT_RKEY_OK : Key := ⟨.tru, 0, 4, 28⟩
abbrev TRU_STAT_REL_ARMED : Key := ⟨.tru, 0, 4, 29⟩
abbrev TRU_STAT_CLR_ARMED : Key := ⟨.tru, 0, 4, 30⟩
abbrev TRU_STAT_QUAR : Key := ⟨.tru, 0, 4, 31⟩
abbrev TRU_QCAUSE_MASK : Key := ⟨.tru, 0, 8, 0⟩
abbrev TRU_QCAUSE_FIRST : Key := ⟨.tru, 0, 8, 24⟩
abbrev TRU_FW_CA_RUN : Key := ⟨.tru, 0, 12, 0⟩
abbrev TRU_FW_CA_PREF : Key := ⟨.tru, 0, 12, 1⟩
abbrev TRU_FW_CA_A_OK : Key := ⟨.tru, 0, 12, 2⟩
abbrev TRU_FW_CA_B_OK : Key := ⟨.tru, 0, 12, 3⟩
abbrev TRU_FW_CA_FALLBACK : Key := ⟨.tru, 0, 12, 4⟩
abbrev TRU_FW_CA_SVN : Key := ⟨.tru, 0, 12, 16⟩
abbrev TRU_FW_CA_SVN_MIN : Key := ⟨.tru, 0, 12, 24⟩
abbrev TRU_FW_CB_RUN : Key := ⟨.tru, 0, 16, 0⟩
abbrev TRU_FW_CB_PREF : Key := ⟨.tru, 0, 16, 1⟩
abbrev TRU_FW_CB_A_OK : Key := ⟨.tru, 0, 16, 2⟩
abbrev TRU_FW_CB_B_OK : Key := ⟨.tru, 0, 16, 3⟩
abbrev TRU_FW_CB_FALLBACK : Key := ⟨.tru, 0, 16, 4⟩
abbrev TRU_FW_CB_SVN : Key := ⟨.tru, 0, 16, 16⟩
abbrev TRU_FW_CB_SVN_MIN : Key := ⟨.tru, 0, 16, 24⟩
abbrev TRU_FW_VER_CA : Key := ⟨.tru, 0, 20, 0⟩
abbrev TRU_FW_VER_CB : Key := ⟨.tru, 0, 24, 0⟩
abbrev TRU_ATT_NONCE0 : Key := ⟨.tru, 0, 32, 0⟩
abbrev TRU_ATT_NONCE1 : Key := ⟨.tru, 0, 36, 0⟩
abbrev TRU_ATT_NONCE2 : Key := ⟨.tru, 0, 40, 0⟩
abbrev TRU_ATT_NONCE3 : Key := ⟨.tru, 0, 44, 0⟩
abbrev TRU_ATT_NONCE4 : Key := ⟨.tru, 0, 48, 0⟩
abbrev TRU_ATT_NONCE5 : Key := ⟨.tru, 0, 52, 0⟩
abbrev TRU_ATT_NONCE6 : Key := ⟨.tru, 0, 56, 0⟩
abbrev TRU_ATT_NONCE7 : Key := ⟨.tru, 0, 60, 0⟩
abbrev TRU_ATT_STAT_READY : Key := ⟨.tru, 0, 64, 0⟩
abbrev TRU_ATT_STAT_READ_CA : Key := ⟨.tru, 0, 64, 1⟩
abbrev TRU_ATT_STAT_READ_CB : Key := ⟨.tru, 0, 64, 2⟩
abbrev TRU_ATT_STAT_BUSY : Key := ⟨.tru, 0, 64, 31⟩
abbrev TRU_ENR_LEN : Key := ⟨.tru, 0, 68, 0⟩
abbrev TRU_ENR_STAT_MIN_LEFT : Key := ⟨.tru, 0, 72, 16⟩
abbrev TRU_ENR_STAT_RESULT : Key := ⟨.tru, 0, 72, 24⟩
abbrev TRU_ENR_STAT_WINDOW : Key := ⟨.tru, 0, 72, 30⟩
abbrev TRU_ENR_STAT_BUSY : Key := ⟨.tru, 0, 72, 31⟩
abbrev TRU_ENR_SEQ : Key := ⟨.tru, 0, 76, 0⟩
abbrev TRU_CERT_SEL_VAL : Key := ⟨.tru, 0, 80, 0⟩
abbrev TRU_CERT_LEN : Key := ⟨.tru, 0, 84, 0⟩
abbrev TRU_FWL_CNT : Key := ⟨.tru, 0, 88, 0⟩
abbrev TRU_FRZ_INGRESS : Key := ⟨.tru, 0, 92, 8⟩
abbrev TRU_FRZ_PAIR : Key := ⟨.tru, 0, 92, 11⟩
abbrev TRU_FRZ_DMA : Key := ⟨.tru, 0, 92, 16⟩
abbrev TRU_REL_ID : Key := ⟨.tru, 0, 96, 0⟩
abbrev TRU_FWL_LAST_ACC : Key := ⟨.tru, 0, 100, 8⟩
abbrev TRU_FWL_LAST_REGION : Key := ⟨.tru, 0, 100, 16⟩
abbrev TRU_FWL_LAST_MASTER : Key := ⟨.tru, 0, 100, 24⟩
abbrev TRU_FWU_CTL_CHUNK : Key := ⟨.tru, 0, 12288, 0⟩
abbrev TRU_FWU_CTL_VERIFY : Key := ⟨.tru, 0, 12288, 1⟩
abbrev TRU_FWU_CTL_RESTART : Key := ⟨.tru, 0, 12288, 2⟩
abbrev TRU_FWU_OFS_VAL : Key := ⟨.tru, 0, 12292, 0⟩
abbrev TRU_FWU_STAT_PARTS : Key := ⟨.tru, 0, 12296, 16⟩
abbrev TRU_FWU_STAT_RESULT : Key := ⟨.tru, 0, 12296, 24⟩
abbrev TRU_FWU_STAT_VERIFIED : Key := ⟨.tru, 0, 12296, 30⟩
abbrev TRU_FWU_STAT_BUSY : Key := ⟨.tru, 0, 12296, 31⟩
abbrev IMG_ID (i : Nat) : Key := ⟨.img, i, 0, 0⟩
abbrev IMG_VER (i : Nat) : Key := ⟨.img, i, 4, 0⟩
abbrev IMG_STAT_USERS (i : Nat) : Key := ⟨.img, i, 8, 0⟩
abbrev IMG_STAT_AUTH (i : Nat) : Key := ⟨.img, i, 8, 24⟩
abbrev IMG_STAT_STORED (i : Nat) : Key := ⟨.img, i, 8, 31⟩
abbrev IMG_SIZE (i : Nat) : Key := ⟨.img, i, 12, 0⟩
abbrev PAIR_CFG0_T_DISC (i : Nat) : Key := ⟨.safePair, i, 0, 0⟩
abbrev PAIR_CFG0_FILT (i : Nat) : Key := ⟨.safePair, i, 0, 16⟩
abbrev PAIR_CFG0_EVAL (i : Nat) : Key := ⟨.safePair, i, 0, 24⟩
abbrev PAIR_CFG1_CAT (i : Nat) : Key := ⟨.safePair, i, 4, 0⟩
abbrev PAIR_CFG1_RESET (i : Nat) : Key := ⟨.safePair, i, 4, 8⟩
abbrev PAIR_CFG1_TYPE (i : Nat) : Key := ⟨.safePair, i, 4, 9⟩
abbrev PAIR_CFG1_ACT (i : Nat) : Key := ⟨.safePair, i, 4, 16⟩
abbrev OUT_CFG_T_FB (j : Nat) : Key := ⟨.safeOut, j, 0, 0⟩
abbrev OUT_CFG_CHECK (j : Nat) : Key := ⟨.safeOut, j, 0, 24⟩
abbrev EVT_CTL_LOST_CLR : Key := ⟨.evt, 0, 0, 0⟩
abbrev EVT_STAT_LOST : Key := ⟨.evt, 0, 4, 0⟩
abbrev EVT_STAT_FILL : Key := ⟨.evt, 0, 4, 16⟩
abbrev EVT_RD_T : Key := ⟨.evt, 0, 8, 0⟩
abbrev EVT_RD_SRC_SOURCE : Key := ⟨.evt, 0, 16, 0⟩
abbrev EVT_RD_SRC_SUB : Key := ⟨.evt, 0, 16, 8⟩
abbrev EVT_RD_SRC_PRIO : Key := ⟨.evt, 0, 16, 13⟩
abbrev EVT_RD_SRC_DETAIL : Key := ⟨.evt, 0, 16, 16⟩
abbrev EVT_RD_VAL : Key := ⟨.evt, 0, 20, 0⟩
abbrev SCR (w : Nat) : Key := ⟨.engScr, w, 0, 0⟩
abbrev FRIC_E0 (w : Nat) : Key := ⟨.fric, w, 0, 0⟩
abbrev FRIC_E1 (w : Nat) : Key := ⟨.fric, w, 0, 16⟩
abbrev COG_E0 (w : Nat) : Key := ⟨.cog, w, 0, 0⟩
abbrev COG_E1 (w : Nat) : Key := ⟨.cog, w, 0, 16⟩
abbrev TSDLOG (w : Nat) : Key := ⟨.tsdLog, w, 0, 0⟩
abbrev XEV_SOURCE (i : Nat) : Key := ⟨.xev, i, 0, 0⟩
abbrev XEV_ENG (i : Nat) : Key := ⟨.xev, i, 0, 16⟩
abbrev XEV_STAKE (i : Nat) : Key := ⟨.xev, i, 0, 24⟩
abbrev XEV_ALL (i : Nat) : Key := ⟨.xev, i, 0, 30⟩
abbrev XEV_EN (i : Nat) : Key := ⟨.xev, i, 0, 31⟩
abbrev RTA (w : Nat) : Key := ⟨.rta, w, 0, 0⟩
abbrev RTB (w : Nat) : Key := ⟨.rtb, w, 0, 0⟩
abbrev BIND_SER (a : Nat) : Key := ⟨.bind, a, 0, 0⟩
abbrev BIND_REACH_B (a : Nat) : Key := ⟨.bind, a, 8, 29⟩
abbrev BIND_REACH_A (a : Nat) : Key := ⟨.bind, a, 8, 30⟩
abbrev BIND_BOUND (a : Nat) : Key := ⟨.bind, a, 8, 31⟩
abbrev AUTH_ID (s : Nat) : Key := ⟨.auth, s, 0, 0⟩
abbrev AUTH_RIGHTS (s : Nat) : Key := ⟨.auth, s, 8, 16⟩
abbrev AUTH_PENDING (s : Nat) : Key := ⟨.auth, s, 8, 30⟩
abbrev AUTH_ENROLLED (s : Nat) : Key := ⟨.auth, s, 8, 31⟩
abbrev ENRBUF (w : Nat) : Key := ⟨.enrBuf, w, 0, 0⟩
abbrev FWL_T (e : Nat) : Key := ⟨.fwl, e, 0, 0⟩
abbrev FWL_ACC (e : Nat) : Key := ⟨.fwl, e, 8, 8⟩
abbrev FWL_REGION (e : Nat) : Key := ⟨.fwl, e, 8, 16⟩
abbrev FWL_MASTER (e : Nat) : Key := ⟨.fwl, e, 8, 24⟩
abbrev FWL_ADDR (e : Nat) : Key := ⟨.fwl, e, 12, 0⟩
abbrev QUOTECA (w : Nat) : Key := ⟨.quoteCA, w, 0, 0⟩
abbrev QUOTECB (w : Nat) : Key := ⟨.quoteCB, w, 0, 0⟩
abbrev CERT (w : Nat) : Key := ⟨.cert, w, 0, 0⟩

end Sys2Proof.Machine.F
end

