-- ==== Sys2Proof/Machine/RegTable.lean ====
section
/-! DEFINITION. The register tables of the manual: one row per field (R12 and the register tables of every chapter), and the reset value of every field. -/

namespace Sys2Proof.Machine

/-- Fields of the registers of group `pwr` (part 1), from the tables of spec chapter 02. -/
def rows_pwr1 : List FieldRow := [
  ⟨0, 0, 1, .wo, 0, none, false⟩,
  ⟨0, 1, 1, .wo, 0, none, false⟩,
  ⟨4, 0, 3, .ro, 0, none, false⟩,
  ⟨4, 3, 1, .ro, 0, none, false⟩,
  ⟨4, 4, 3, .ro, 0, none, false⟩,
  ⟨8, 0, 32, .ro, 0, none, false⟩,
  ⟨12, 0, 32, .ro, 0, none, true⟩,
  ⟨16, 0, 32, .ro, 0, none, false⟩,
  ⟨20, 0, 32, .ro, 0, none, false⟩,
  ⟨24, 0, 16, .ro, 0, none, false⟩,
  ⟨24, 29, 1, .ro, 0, none, false⟩,
  ⟨24, 30, 1, .ro, 0, none, false⟩,
  ⟨24, 31, 1, .ro, 0, none, false⟩,
  ⟨28, 0, 10, .rws, 760, (some (700, 800)), false⟩,
  ⟨28, 16, 5, .rws, 30, (some (1, 30)), false⟩,
  ⟨28, 30, 1, .rws, 1, none, false⟩,
  ⟨28, 31, 1, .rws, 0, none, false⟩,
  ⟨32, 0, 32, .ro, 0, none, false⟩]

/-- Fields of the registers of group `sec` (part 1), from the tables of spec chapter 02, 03. -/
def rows_sec1 : List FieldRow := [
  ⟨0, 0, 1, .wo, 0, none, false⟩,
  ⟨0, 1, 1, .wo, 0, none, false⟩,
  ⟨4, 0, 2, .ro, 0, none, false⟩,
  ⟨4, 2, 2, .ro, 0, none, false⟩,
  ⟨4, 4, 1, .ro, 0, none, false⟩,
  ⟨4, 5, 1, .ro, 0, none, false⟩,
  ⟨4, 6, 1, .ro, 0, none, false⟩,
  ⟨8, 0, 32, .ro, 0, none, true⟩,
  ⟨12, 0, 32, .ro, 0, none, false⟩,
  ⟨16, 0, 32, .ro, 9750, none, false⟩,
  ⟨20, 0, 32, .ro, 0, none, false⟩,
  ⟨24, 0, 32, .ro, 0, none, false⟩,
  ⟨28, 0, 32, .rws, 1431655765, none, false⟩,
  ⟨32, 0, 32, .rws, 50000, (some (0, 150000)), false⟩,
  ⟨36, 0, 16, .rws, 0, none, false⟩,
  ⟨40, 0, 32, .rws, 3000000, none, false⟩,
  ⟨44, 0, 8, .ro, 200, none, false⟩,
  ⟨44, 8, 8, .ro, 200, none, false⟩,
  ⟨44, 16, 8, .ro, 200, none, false⟩,
  ⟨44, 24, 8, .ro, 200, none, false⟩,
  ⟨48, 0, 32, .ro, 0, none, false⟩,
  ⟨4096, 0, 12, .rwl, 200, (some (50, 800)), false⟩,
  ⟨4096, 12, 12, .rwl, 400, (some (0, 1000)), false⟩,
  ⟨4096, 24, 8, .rwl, 20, (some (0, 100)), false⟩,
  ⟨4100, 0, 16, .ro, 0, none, false⟩,
  ⟨4104, 0, 32, .ro, 0, none, false⟩,
  ⟨4112, 0, 4, .rw, 0, none, false⟩,
  ⟨4116, 0, 1, .ro, 0, none, false⟩,
  ⟨4116, 3, 5, .ro, 0, none, false⟩,
  ⟨4116, 8, 8, .ro, 0, none, false⟩,
  ⟨4116, 16, 11, .ro, 0, none, false⟩,
  ⟨4120, 0, 32, .ro, 0, none, false⟩]

/-- Fields of the registers of group `chn` (part 1), from the tables of spec chapter 03. -/
def rows_chn1 : List FieldRow := [
  ⟨0, 0, 1, .wo, 0, none, false⟩,
  ⟨0, 1, 1, .wo, 0, none, false⟩,
  ⟨0, 2, 1, .wo, 0, none, false⟩,
  ⟨0, 3, 1, .wo, 0, none, false⟩,
  ⟨4, 0, 3, .ro, 0, none, false⟩,
  ⟨4, 4, 1, .ro, 0, none, false⟩,
  ⟨4, 5, 1, .ro, 0, none, false⟩,
  ⟨4, 6, 1, .ro, 0, none, false⟩,
  ⟨4, 7, 1, .ro, 0, none, false⟩,
  ⟨4, 8, 4, .ro, 15, none, false⟩,
  ⟨4, 12, 4, .ro, 0, none, false⟩,
  ⟨4, 16, 1, .ro, 0, none, false⟩,
  ⟨8, 0, 8, .ro, 0, none, false⟩,
  ⟨8, 8, 8, .ro, 0, none, false⟩,
  ⟨8, 16, 4, .ro, 0, none, false⟩,
  ⟨8, 24, 8, .ro, 0, none, false⟩,
  ⟨12, 0, 8, .rwl, 20, (some (2, 200)), false⟩,
  ⟨12, 8, 8, .rwl, 10, (some (5, 30)), false⟩,
  ⟨12, 16, 1, .rwl, 1, none, false⟩,
  ⟨12, 17, 1, .rwl, 1, none, false⟩,
  ⟨12, 20, 4, .rwl, 15, none, false⟩,
  ⟨16, 0, 32, .ro, 0, none, false⟩,
  ⟨20, 0, 32, .ro, 0, none, false⟩,
  ⟨24, 0, 16, .ro, 0, none, false⟩,
  ⟨28, 0, 8, .ro, 0, none, true⟩,
  ⟨28, 8, 8, .ro, 0, none, true⟩,
  ⟨28, 16, 8, .ro, 0, none, true⟩,
  ⟨28, 24, 8, .ro, 0, none, true⟩,
  ⟨32, 0, 16, .ro, 0, none, true⟩,
  ⟨32, 16, 16, .ro, 0, none, true⟩,
  ⟨36, 0, 16, .ro, 0, none, true⟩,
  ⟨36, 16, 16, .ro, 0, none, true⟩,
  ⟨40, 0, 16, .ro, 0, none, true⟩,
  ⟨40, 16, 16, .ro, 0, none, true⟩,
  ⟨44, 0, 16, .ro, 0, none, true⟩,
  ⟨44, 16, 16, .ro, 0, none, true⟩,
  ⟨48, 0, 32, .ro, 0, none, false⟩,
  ⟨52, 0, 32, .ro, 0, none, false⟩,
  ⟨56, 0, 8, .ro, 0, none, false⟩,
  ⟨56, 8, 8, .ro, 0, none, false⟩]

/-- Fields of the registers of group `chn` (part 2), from the tables of spec chapter 03, 04. -/
def rows_chn2 : List FieldRow := [
  ⟨56, 16, 8, .ro, 0, none, false⟩,
  ⟨56, 24, 8, .ro, 0, none, false⟩,
  ⟨60, 0, 8, .ro, 0, none, false⟩,
  ⟨64, 0, 32, .ro, 1000, none, false⟩,
  ⟨256, 0, 2, .rws, 2, (some (0, 2)), false⟩,
  ⟨256, 2, 1, .rws, 1, none, false⟩,
  ⟨260, 0, 2, .ro, 0, none, false⟩,
  ⟨260, 2, 1, .ro, 0, none, false⟩,
  ⟨260, 3, 1, .ro, 0, none, false⟩,
  ⟨260, 4, 1, .ro, 0, none, false⟩,
  ⟨260, 5, 1, .ro, 0, none, false⟩,
  ⟨260, 6, 1, .ro, 1, none, false⟩,
  ⟨260, 7, 1, .ro, 0, none, false⟩,
  ⟨260, 8, 1, .ro, 0, none, false⟩,
  ⟨260, 9, 1, .ro, 0, none, false⟩,
  ⟨264, 0, 32, .ro, 0, none, true⟩,
  ⟨268, 0, 32, .ro, 0, none, true⟩,
  ⟨272, 0, 32, .ro, 0, none, true⟩,
  ⟨276, 0, 32, .ro, 0, none, true⟩,
  ⟨280, 0, 64, .ro, 0, none, false⟩,
  ⟨288, 0, 64, .ro, 0, none, true⟩,
  ⟨296, 0, 64, .ro, 0, none, true⟩,
  ⟨304, 0, 64, .ro, 0, none, true⟩,
  ⟨312, 0, 64, .ro, 0, none, true⟩,
  ⟨320, 0, 32, .ro, 0, none, true⟩,
  ⟨324, 0, 32, .ro, 0, none, true⟩,
  ⟨328, 0, 32, .ro, 0, none, true⟩,
  ⟨332, 0, 32, .ro, 0, none, true⟩,
  ⟨336, 0, 32, .ro, 0, none, true⟩,
  ⟨340, 0, 32, .ro, 0, none, true⟩,
  ⟨344, 0, 32, .ro, 0, none, true⟩,
  ⟨348, 0, 32, .ro, 0, none, true⟩,
  ⟨352, 0, 32, .ro, 0, none, true⟩,
  ⟨356, 0, 32, .ro, 0, none, true⟩,
  ⟨360, 0, 32, .ro, 0, none, true⟩,
  ⟨364, 0, 32, .ro, 0, none, true⟩,
  ⟨368, 0, 32, .ro, 0, none, true⟩,
  ⟨372, 0, 32, .ro, 0, none, true⟩,
  ⟨376, 0, 32, .ro, 0, none, true⟩,
  ⟨380, 0, 32, .ro, 0, none, false⟩]

/-- Fields of the registers of group `chn` (part 3), from the tables of spec chapter 05. -/
def rows_chn3 : List FieldRow := [
  ⟨512, 0, 1, .wo, 0, none, false⟩,
  ⟨512, 1, 1, .wo, 0, none, false⟩,
  ⟨516, 4, 1, .ro, 0, none, false⟩,
  ⟨516, 5, 1, .ro, 0, none, false⟩,
  ⟨516, 6, 1, .ro, 0, none, false⟩,
  ⟨516, 7, 1, .ro, 0, none, false⟩,
  ⟨516, 8, 1, .ro, 0, none, false⟩,
  ⟨516, 9, 1, .ro, 0, none, false⟩,
  ⟨516, 10, 1, .ro, 0, none, false⟩,
  ⟨516, 11, 1, .ro, 0, none, false⟩,
  ⟨516, 12, 1, .ro, 0, none, false⟩,
  ⟨516, 13, 1, .ro, 0, none, false⟩,
  ⟨516, 14, 1, .ro, 0, none, false⟩,
  ⟨516, 15, 1, .ro, 0, none, false⟩,
  ⟨516, 16, 1, .ro, 0, none, false⟩,
  ⟨516, 17, 3, .ro, 0, none, false⟩,
  ⟨516, 20, 4, .ro, 0, none, false⟩,
  ⟨516, 24, 4, .ro, 0, none, false⟩,
  ⟨516, 28, 4, .ro, 0, none, false⟩,
  ⟨520, 0, 4, .ro, 0, none, false⟩,
  ⟨520, 16, 11, .ro, 0, none, false⟩,
  ⟨524, 0, 32, .ro, 0, none, false⟩,
  ⟨528, 0, 32, .ro, 0, none, false⟩,
  ⟨532, 0, 32, .ro, 0, none, false⟩,
  ⟨536, 0, 32, .ro, 0, none, false⟩,
  ⟨540, 0, 32, .ro, 0, none, true⟩,
  ⟨544, 0, 4, .rws, 0, none, false⟩,
  ⟨548, 0, 32, .rws, 0, none, true⟩,
  ⟨552, 0, 32, .rws, 0, none, false⟩,
  ⟨556, 0, 32, .rws, 0, none, false⟩,
  ⟨560, 0, 32, .rws, 0, none, false⟩,
  ⟨564, 0, 32, .rwl, 0, none, false⟩,
  ⟨568, 0, 64, .rwl, 0, none, false⟩,
  ⟨576, 0, 32, .ro, 0, none, false⟩,
  ⟨580, 0, 1, .ro, 0, none, false⟩,
  ⟨580, 1, 1, .ro, 0, none, false⟩,
  ⟨580, 8, 8, .ro, 0, none, false⟩,
  ⟨580, 16, 16, .ro, 0, none, false⟩,
  ⟨584, 0, 32, .ro, 0, none, false⟩,
  ⟨588, 0, 32, .rws, 0, none, true⟩]

/-- Fields of the registers of group `chn` (part 4), from the tables of spec chapter 05. -/
def rows_chn4 : List FieldRow := [
  ⟨592, 0, 16, .rws, 0, none, false⟩,
  ⟨592, 16, 16, .rws, 0, none, false⟩]

/-- Fields of the registers of group `meas` (part 1), from the tables of spec chapter 04. -/
def rows_meas1 : List FieldRow := [
  ⟨0, 0, 1, .rw, 1, none, false⟩,
  ⟨0, 1, 1, .rw, 1, none, false⟩,
  ⟨0, 2, 1, .rwl, 0, none, false⟩,
  ⟨4, 0, 1, .ro, 0, none, false⟩,
  ⟨4, 1, 1, .ro, 0, none, false⟩,
  ⟨4, 2, 1, .ro, 0, none, false⟩,
  ⟨4, 3, 1, .ro, 0, none, false⟩,
  ⟨4, 4, 1, .ro, 0, none, false⟩,
  ⟨4, 9, 7, .ro, 0, none, false⟩,
  ⟨4, 16, 16, .ro, 0, none, false⟩,
  ⟨8, 0, 32, .ro, 0, none, false⟩,
  ⟨12, 0, 32, .ro, 0, none, false⟩,
  ⟨16, 0, 1, .rw, 0, none, false⟩,
  ⟨16, 1, 1, .rw, 0, none, false⟩,
  ⟨16, 2, 1, .rw, 0, none, false⟩,
  ⟨16, 3, 1, .rw, 0, none, false⟩,
  ⟨20, 0, 1, .ro, 0, none, false⟩,
  ⟨20, 1, 1, .ro, 0, none, false⟩,
  ⟨20, 2, 1, .ro, 0, none, false⟩,
  ⟨20, 3, 1, .ro, 0, none, false⟩,
  ⟨24, 0, 4, .wo, 0, none, false⟩,
  ⟨28, 0, 1, .ro, 0, none, false⟩,
  ⟨28, 1, 1, .ro, 0, none, false⟩,
  ⟨28, 2, 1, .ro, 0, none, false⟩,
  ⟨28, 3, 1, .ro, 0, none, false⟩,
  ⟨28, 16, 1, .ro, 0, none, false⟩,
  ⟨28, 17, 1, .ro, 0, none, false⟩,
  ⟨28, 18, 1, .ro, 0, none, false⟩,
  ⟨28, 19, 1, .ro, 0, none, false⟩,
  ⟨32, 0, 32, .ro, 0, none, false⟩,
  ⟨36, 0, 32, .ro, 0, none, false⟩]

/-- Fields of the registers of group `measSeq` (part 1), from the tables of spec chapter 04. -/
def rows_measSeq1 : List FieldRow := [
  ⟨0, 16, 7, .rwl, 0, (some (0, 71)), false⟩,
  ⟨0, 29, 2, .rwl, 0, none, false⟩,
  ⟨0, 31, 1, .rwl, 1, none, false⟩]

/-- Fields of the registers of group `measRes` (part 1), from the tables of spec chapter 04. -/
def rows_measRes1 : List FieldRow := [
  ⟨0, 0, 32, .ro, 0, none, true⟩,
  ⟨4, 0, 16, .ro, 0, none, false⟩,
  ⟨4, 16, 7, .ro, 0, none, false⟩,
  ⟨4, 24, 2, .ro, 0, none, false⟩,
  ⟨4, 26, 2, .ro, 0, none, false⟩,
  ⟨4, 28, 3, .ro, 0, none, false⟩,
  ⟨4, 31, 1, .w1c, 0, none, false⟩,
  ⟨8, 0, 64, .ro, 0, none, false⟩]

/-- Fields of the registers of group `eis` (part 1), from the tables of spec chapter 06. -/
def rows_eis1 : List FieldRow := [
  ⟨0, 0, 1, .rw, 1, none, false⟩,
  ⟨0, 1, 1, .rwl, 1, none, false⟩,
  ⟨4, 0, 7, .ro, 0, none, false⟩,
  ⟨8, 0, 64, .rw, 0, none, false⟩,
  ⟨16, 0, 32, .rw, 0, none, false⟩,
  ⟨20, 0, 1, .wo, 0, none, false⟩,
  ⟨20, 1, 1, .wo, 0, none, false⟩,
  ⟨24, 0, 64, .rw, 0, none, false⟩]

/-- Fields of the registers of group `eisCh` (part 1), from the tables of spec chapter 06. -/
def rows_eisCh1 : List FieldRow := [
  ⟨0, 0, 1, .ro, 0, none, false⟩,
  ⟨0, 1, 1, .ro, 0, none, false⟩,
  ⟨0, 12, 4, .ro, 0, none, false⟩,
  ⟨0, 16, 6, .ro, 0, none, false⟩,
  ⟨0, 24, 8, .ro, 0, none, false⟩,
  ⟨4, 0, 32, .ro, 0, none, false⟩,
  ⟨8, 0, 32, .ro, 0, none, true⟩,
  ⟨12, 0, 32, .ro, 0, none, true⟩]

/-- Fields of the registers of group `skn` (part 1), from the tables of spec chapter 07. -/
def rows_skn1 : List FieldRow := [
  ⟨0, 0, 1, .rw, 1, none, false⟩,
  ⟨4, 0, 7, .ro, 0, none, false⟩,
  ⟨4, 8, 2, .ro, 0, none, false⟩,
  ⟨8, 0, 64, .rw, 0, none, false⟩,
  ⟨16, 0, 1, .wo, 0, none, false⟩,
  ⟨16, 1, 1, .wo, 0, none, false⟩,
  ⟨16, 2, 1, .wo, 0, none, false⟩,
  ⟨16, 3, 1, .wo, 0, none, false⟩,
  ⟨20, 0, 64, .rw, 0, none, false⟩,
  ⟨32, 0, 1, .wo, 0, none, false⟩,
  ⟨32, 1, 1, .wo, 0, none, false⟩,
  ⟨36, 0, 32, .rw, 0, (some (0, 1048576)), false⟩,
  ⟨40, 0, 16, .ro, 0, none, false⟩,
  ⟨40, 16, 3, .ro, 0, none, false⟩,
  ⟨40, 24, 4, .ro, 0, none, false⟩,
  ⟨40, 31, 1, .ro, 0, none, false⟩,
  ⟨44, 0, 32, .ro, 0, none, false⟩,
  ⟨48, 0, 32, .rw, 0, none, false⟩,
  ⟨52, 0, 32, .rw, 0, none, false⟩,
  ⟨56, 0, 24, .ro, 0, none, false⟩,
  ⟨56, 24, 3, .ro, 0, none, false⟩,
  ⟨56, 31, 1, .ro, 0, none, false⟩,
  ⟨60, 0, 32, .ro, 16777216, none, false⟩]

/-- Fields of the registers of group `grp` (part 1), from the tables of spec chapter 07. -/
def rows_grp1 : List FieldRow := [
  ⟨0, 0, 32, .rw, 1, (some (1, 4096)), false⟩,
  ⟨4, 0, 32, .rw, 0, none, false⟩,
  ⟨8, 0, 16, .ro, 0, none, false⟩,
  ⟨8, 16, 13, .ro, 0, none, false⟩,
  ⟨8, 30, 2, .ro, 0, none, false⟩,
  ⟨12, 0, 1, .wo, 0, none, false⟩]

/-- Fields of the registers of group `eng` (part 1), from the tables of spec chapter 07. -/
def rows_eng1 : List FieldRow := [
  ⟨0, 0, 1, .wo, 0, none, false⟩,
  ⟨0, 1, 1, .wo, 0, none, false⟩,
  ⟨0, 2, 1, .wo, 0, none, false⟩,
  ⟨0, 3, 1, .wo, 0, none, false⟩,
  ⟨0, 4, 1, .wo, 0, none, false⟩,
  ⟨0, 5, 1, .wo, 0, none, false⟩,
  ⟨4, 0, 3, .ro, 0, none, false⟩,
  ⟨4, 7, 1, .ro, 0, none, false⟩,
  ⟨4, 8, 1, .ro, 0, none, false⟩,
  ⟨4, 9, 1, .ro, 0, none, false⟩,
  ⟨4, 10, 1, .ro, 0, none, false⟩,
  ⟨4, 15, 1, .ro, 0, none, false⟩,
  ⟨4, 16, 3, .ro, 0, none, false⟩,
  ⟨4, 24, 4, .ro, 0, none, false⟩,
  ⟨4, 28, 4, .ro, 0, none, false⟩,
  ⟨8, 0, 32, .rwl, 0, none, false⟩,
  ⟨12, 0, 3, .rwl, 0, none, false⟩,
  ⟨16, 0, 32, .ro, 0, none, false⟩,
  ⟨20, 0, 16, .ro, 0, none, false⟩,
  ⟨20, 24, 8, .ro, 0, none, false⟩,
  ⟨24, 0, 64, .ro, 0, none, false⟩,
  ⟨32, 0, 8, .ro, 0, none, false⟩,
  ⟨36, 0, 8, .rwl, 255, none, false⟩,
  ⟨40, 0, 16, .ro, 0, none, false⟩,
  ⟨40, 16, 4, .ro, 0, none, false⟩,
  ⟨44, 0, 32, .ro, 0, none, true⟩,
  ⟨48, 0, 32, .ro, 0, none, false⟩,
  ⟨52, 0, 32, .ro, 0, none, false⟩,
  ⟨56, 0, 32, .ro, 0, none, false⟩,
  ⟨60, 0, 32, .ro, 0, none, false⟩,
  ⟨64, 0, 32, .rwl, 0, none, true⟩,
  ⟨68, 0, 32, .rwl, 0, none, true⟩,
  ⟨72, 0, 32, .rwl, 0, none, true⟩,
  ⟨76, 0, 32, .rwl, 0, none, true⟩,
  ⟨80, 0, 32, .rwl, 0, none, true⟩,
  ⟨84, 0, 32, .rwl, 0, none, true⟩,
  ⟨88, 0, 32, .rwl, 0, none, true⟩,
  ⟨92, 0, 32, .rwl, 0, none, true⟩,
  ⟨96, 0, 32, .rwl, 0, none, true⟩,
  ⟨100, 0, 32, .rwl, 0, none, true⟩]

/-- Fields of the registers of group `eng` (part 2), from the tables of spec chapter 07. -/
def rows_eng2 : List FieldRow := [
  ⟨104, 0, 32, .rwl, 0, none, true⟩,
  ⟨108, 0, 32, .rwl, 0, none, true⟩,
  ⟨112, 0, 32, .rwl, 0, none, true⟩,
  ⟨116, 0, 32, .rwl, 0, none, true⟩,
  ⟨120, 0, 32, .rwl, 0, none, true⟩,
  ⟨124, 0, 32, .rwl, 0, none, true⟩,
  ⟨128, 0, 64, .ro, 0, none, true⟩,
  ⟨136, 0, 64, .ro, 0, none, true⟩,
  ⟨144, 0, 64, .ro, 0, none, true⟩,
  ⟨152, 0, 64, .ro, 0, none, true⟩,
  ⟨160, 0, 32, .ro, 0, none, false⟩]

/-- Fields of the registers of group `loop` (part 1), from the tables of spec chapter 09. -/
def rows_loop1 : List FieldRow := [
  ⟨0, 0, 1, .wo, 0, none, false⟩,
  ⟨4, 0, 1, .ro, 0, none, false⟩,
  ⟨4, 4, 4, .ro, 15, none, false⟩,
  ⟨4, 8, 2, .ro, 0, none, false⟩,
  ⟨8, 0, 32, .ro, 0, none, false⟩,
  ⟨12, 16, 7, .ro, 0, none, false⟩,
  ⟨12, 24, 2, .ro, 0, none, false⟩,
  ⟨16, 0, 32, .ro, 0, none, false⟩,
  ⟨20, 0, 32, .ro, 0, none, false⟩,
  ⟨24, 0, 32, .ro, 0, none, false⟩,
  ⟨28, 0, 32, .ro, 0, none, false⟩]

/-- Fields of the registers of group `loopCh` (part 1), from the tables of spec chapter 09. -/
def rows_loopCh1 : List FieldRow := [
  ⟨0, 0, 16, .rws, 50, (some (1, 500)), false⟩,
  ⟨0, 16, 1, .rws, 0, none, false⟩,
  ⟨4, 0, 32, .rws, 500000, (some (0, 10000000)), false⟩,
  ⟨8, 0, 32, .rws, 2500, (some (0, 100000)), false⟩,
  ⟨12, 0, 32, .rws, 200, (some (0, 10000)), false⟩,
  ⟨16, 0, 32, .rws, 20000, (some (0, 1000000)), false⟩,
  ⟨20, 0, 32, .rws, 0, none, false⟩,
  ⟨24, 0, 32, .ro, 0, none, true⟩,
  ⟨28, 0, 32, .ro, 0, none, true⟩]

/-- Fields of the registers of group `loopAx` (part 1), from the tables of spec chapter 09. -/
def rows_loopAx1 : List FieldRow := [
  ⟨0, 0, 16, .rws, 3000, (some (1, 10000)), false⟩,
  ⟨0, 16, 1, .rws, 0, none, false⟩,
  ⟨0, 17, 1, .rws, 0, none, false⟩,
  ⟨0, 18, 1, .rws, 0, none, false⟩,
  ⟨4, 0, 32, .rws, 50, (some (0, 5000)), false⟩,
  ⟨8, 0, 32, .rws, 100, (some (0, 10000)), false⟩,
  ⟨12, 0, 32, .rws, 20, (some (0, 10000)), false⟩,
  ⟨16, 0, 32, .rws, 400, (some (0, 1000000)), false⟩,
  ⟨20, 0, 32, .rws, 10000, (some (0, 1000000)), false⟩,
  ⟨24, 0, 32, .rwl, 30000, (some (10, 60000)), false⟩,
  ⟨28, 0, 32, .rws, 0, none, true⟩,
  ⟨32, 0, 32, .ro, 0, none, true⟩,
  ⟨36, 0, 32, .ro, 0, none, true⟩,
  ⟨40, 0, 32, .ro, 0, none, true⟩]

/-- Fields of the registers of group `loopTr` (part 1), from the tables of spec chapter 09. -/
def rows_loopTr1 : List FieldRow := [
  ⟨0, 0, 8, .rwl, 0, none, false⟩,
  ⟨0, 20, 4, .rwl, 0, none, false⟩,
  ⟨0, 24, 3, .rwl, 0, (some (0, 4)), false⟩,
  ⟨0, 29, 1, .rwl, 0, none, false⟩,
  ⟨0, 30, 1, .wo, 0, none, false⟩,
  ⟨0, 31, 1, .wo, 0, none, false⟩,
  ⟨4, 0, 13, .ro, 0, none, false⟩,
  ⟨4, 28, 1, .ro, 0, none, false⟩,
  ⟨4, 29, 1, .ro, 0, none, false⟩,
  ⟨4, 30, 1, .ro, 0, none, false⟩,
  ⟨4, 31, 1, .ro, 0, none, false⟩,
  ⟨8, 0, 16, .rwl, 1, (some (1, 65535)), false⟩,
  ⟨12, 0, 13, .rwl, 0, none, false⟩,
  ⟨16, 0, 32, .rwl, 0, none, true⟩,
  ⟨64, 16, 7, .rwl, 0, none, false⟩,
  ⟨64, 24, 6, .rwl, 0, none, false⟩,
  ⟨64, 31, 1, .rwl, 0, none, false⟩,
  ⟨68, 16, 7, .rwl, 0, none, false⟩,
  ⟨68, 24, 6, .rwl, 0, none, false⟩,
  ⟨68, 31, 1, .rwl, 0, none, false⟩,
  ⟨72, 16, 7, .rwl, 0, none, false⟩,
  ⟨72, 24, 6, .rwl, 0, none, false⟩,
  ⟨72, 31, 1, .rwl, 0, none, false⟩,
  ⟨76, 16, 7, .rwl, 0, none, false⟩,
  ⟨76, 24, 6, .rwl, 0, none, false⟩,
  ⟨76, 31, 1, .rwl, 0, none, false⟩,
  ⟨80, 16, 7, .rwl, 0, none, false⟩,
  ⟨80, 24, 6, .rwl, 0, none, false⟩,
  ⟨80, 31, 1, .rwl, 0, none, false⟩,
  ⟨84, 16, 7, .rwl, 0, none, false⟩,
  ⟨84, 24, 6, .rwl, 0, none, false⟩,
  ⟨84, 31, 1, .rwl, 0, none, false⟩,
  ⟨88, 16, 7, .rwl, 0, none, false⟩,
  ⟨88, 24, 6, .rwl, 0, none, false⟩,
  ⟨88, 31, 1, .rwl, 0, none, false⟩,
  ⟨92, 16, 7, .rwl, 0, none, false⟩,
  ⟨92, 24, 6, .rwl, 0, none, false⟩,
  ⟨92, 31, 1, .rwl, 0, none, false⟩,
  ⟨96, 16, 7, .rwl, 0, none, false⟩,
  ⟨96, 24, 6, .rwl, 0, none, false⟩]

/-- Fields of the registers of group `loopTr` (part 2), from the tables of spec chapter 09. -/
def rows_loopTr2 : List FieldRow := [
  ⟨96, 31, 1, .rwl, 0, none, false⟩,
  ⟨100, 16, 7, .rwl, 0, none, false⟩,
  ⟨100, 24, 6, .rwl, 0, none, false⟩,
  ⟨100, 31, 1, .rwl, 0, none, false⟩,
  ⟨104, 16, 7, .rwl, 0, none, false⟩,
  ⟨104, 24, 6, .rwl, 0, none, false⟩,
  ⟨104, 31, 1, .rwl, 0, none, false⟩,
  ⟨108, 16, 7, .rwl, 0, none, false⟩,
  ⟨108, 24, 6, .rwl, 0, none, false⟩,
  ⟨108, 31, 1, .rwl, 0, none, false⟩,
  ⟨112, 16, 7, .rwl, 0, none, false⟩,
  ⟨112, 24, 6, .rwl, 0, none, false⟩,
  ⟨112, 31, 1, .rwl, 0, none, false⟩,
  ⟨116, 16, 7, .rwl, 0, none, false⟩,
  ⟨116, 24, 6, .rwl, 0, none, false⟩,
  ⟨116, 31, 1, .rwl, 0, none, false⟩,
  ⟨120, 16, 7, .rwl, 0, none, false⟩,
  ⟨120, 24, 6, .rwl, 0, none, false⟩,
  ⟨120, 31, 1, .rwl, 0, none, false⟩,
  ⟨124, 16, 7, .rwl, 0, none, false⟩,
  ⟨124, 24, 6, .rwl, 0, none, false⟩,
  ⟨124, 31, 1, .rwl, 0, none, false⟩]

/-- Fields of the registers of group `axs` (part 1), from the tables of spec chapter 10. -/
def rows_axs1 : List FieldRow := [
  ⟨0, 0, 1, .wo, 0, none, false⟩,
  ⟨0, 1, 1, .wo, 0, none, false⟩,
  ⟨0, 2, 1, .wo, 0, none, false⟩,
  ⟨4, 0, 3, .ro, 0, none, false⟩,
  ⟨4, 16, 3, .ro, 0, none, false⟩,
  ⟨4, 24, 2, .ro, 0, none, false⟩,
  ⟨4, 26, 1, .ro, 0, none, false⟩,
  ⟨4, 27, 1, .ro, 0, none, false⟩,
  ⟨4, 28, 1, .ro, 0, none, false⟩,
  ⟨4, 29, 1, .ro, 0, none, false⟩,
  ⟨4, 30, 1, .ro, 1, none, false⟩,
  ⟨4, 31, 1, .ro, 0, none, false⟩,
  ⟨8, 0, 8, .ro, 0, none, false⟩,
  ⟨8, 8, 8, .ro, 0, none, false⟩,
  ⟨8, 24, 8, .ro, 0, none, false⟩,
  ⟨12, 0, 8, .rwl, 100, (some (20, 200)), false⟩,
  ⟨12, 8, 8, .rwl, 4, (some (1, 50)), false⟩,
  ⟨12, 16, 10, .rwl, 20, (some (5, 200)), false⟩,
  ⟨12, 26, 2, .rwl, 0, (some (0, 2)), false⟩,
  ⟨12, 28, 2, .rwl, 0, none, false⟩,
  ⟨12, 30, 1, .rwl, 0, none, false⟩,
  ⟨12, 31, 1, .rwl, 0, none, false⟩,
  ⟨16, 0, 32, .rwl, 3000, (some (100, 20000)), false⟩,
  ⟨20, 0, 32, .rwl, 10000, (some (100, 1000000)), false⟩,
  ⟨24, 0, 32, .rwl, 13000, (some (100, 1000000)), false⟩,
  ⟨28, 0, 32, .rwl, 10000, (some (100, 1000000)), false⟩,
  ⟨32, 0, 32, .rwl, 500, (some (1, 100000)), false⟩,
  ⟨36, 0, 32, .rwl, 25000, (some (0, 25000)), false⟩,
  ⟨40, 0, 32, .rwl, 60000, (some (0, 60000)), false⟩,
  ⟨44, 0, 32, .rwl, 2000, (some (100, 10000)), false⟩,
  ⟨48, 0, 32, .rws, 1000, (some (1, 100000)), false⟩,
  ⟨52, 0, 32, .rws, 1000, (some (1, 100000)), false⟩,
  ⟨56, 0, 32, .rws, 0, none, true⟩,
  ⟨60, 0, 32, .ro, 0, none, true⟩,
  ⟨64, 0, 32, .ro, 0, none, false⟩,
  ⟨68, 0, 32, .ro, 0, none, true⟩,
  ⟨72, 0, 32, .ro, 0, none, false⟩,
  ⟨76, 0, 32, .rws, 5000, (some (10, 100000)), false⟩,
  ⟨80, 0, 32, .rws, 30, (some (1, 5000)), false⟩,
  ⟨84, 0, 32, .rws, 300, (some (1, 3000)), false⟩]

/-- Fields of the registers of group `axs` (part 2), from the tables of spec chapter 10. -/
def rows_axs2 : List FieldRow := [
  ⟨88, 0, 32, .rwl, 0, none, true⟩,
  ⟨92, 0, 32, .rwl, 20000, (some (1000, 60000)), false⟩,
  ⟨96, 0, 32, .rws, 500, (some (0, 100000)), false⟩,
  ⟨100, 0, 32, .rws, 0, (some (0, 100000)), false⟩,
  ⟨104, 0, 32, .rws, 0, none, false⟩,
  ⟨108, 0, 32, .ro, 0, none, false⟩,
  ⟨112, 0, 32, .rws, 3000, (some (1, 20000)), false⟩,
  ⟨116, 0, 32, .rws, 3000, (some (0, 20000)), false⟩,
  ⟨120, 0, 32, .ro, 0, none, false⟩]

/-- Fields of the registers of group `pos` (part 1), from the tables of spec chapter 11. -/
def rows_pos1 : List FieldRow := [
  ⟨0, 0, 1, .wo, 0, none, false⟩,
  ⟨0, 1, 1, .wo, 0, none, false⟩,
  ⟨0, 2, 1, .wo, 0, none, false⟩,
  ⟨0, 3, 1, .wo, 0, none, false⟩,
  ⟨4, 16, 8, .ro, 0, none, false⟩,
  ⟨4, 24, 2, .ro, 0, none, false⟩,
  ⟨4, 26, 1, .ro, 0, none, false⟩,
  ⟨4, 27, 1, .ro, 0, none, false⟩,
  ⟨4, 28, 1, .ro, 0, none, false⟩,
  ⟨4, 29, 1, .ro, 0, none, false⟩,
  ⟨4, 30, 1, .ro, 0, none, false⟩,
  ⟨4, 31, 1, .ro, 0, none, false⟩,
  ⟨8, 0, 4, .ro, 0, none, false⟩,
  ⟨8, 16, 16, .ro, 0, none, true⟩,
  ⟨12, 16, 8, .rwl, 100, (some (1, 255)), false⟩,
  ⟨12, 24, 4, .rwl, 4, (some (1, 15)), false⟩,
  ⟨12, 28, 2, .rwl, 2, (some (1, 2)), false⟩,
  ⟨12, 30, 2, .rwl, 1, (some (0, 2)), false⟩,
  ⟨16, 0, 32, .rwl, 240, (some (32, 512)), false⟩,
  ⟨20, 0, 32, .ro, 0, none, false⟩,
  ⟨24, 0, 32, .ro, 0, none, true⟩,
  ⟨28, 0, 32, .ro, 0, none, false⟩,
  ⟨32, 0, 32, .ro, 0, none, true⟩,
  ⟨36, 0, 32, .ro, 0, none, false⟩,
  ⟨40, 0, 32, .ro, 0, none, true⟩,
  ⟨44, 0, 32, .ro, 0, none, false⟩,
  ⟨48, 5, 5, .rwl, 3, (some (1, 25)), false⟩,
  ⟨48, 10, 5, .rwl, 13, (some (8, 24)), false⟩,
  ⟨48, 15, 5, .rwl, 12, (some (0, 16)), false⟩,
  ⟨48, 20, 4, .rwl, 0, (some (0, 8)), false⟩,
  ⟨48, 24, 3, .rwl, 0, (some (0, 4)), false⟩,
  ⟨48, 27, 1, .rwl, 0, none, false⟩,
  ⟨48, 28, 1, .rwl, 0, none, false⟩,
  ⟨48, 29, 1, .rwl, 0, none, false⟩,
  ⟨48, 30, 1, .rwl, 0, none, false⟩,
  ⟨48, 31, 1, .rwl, 0, none, false⟩,
  ⟨52, 0, 7, .rwl, 25, (some (1, 100)), false⟩,
  ⟨56, 0, 8, .rwl, 3, none, false⟩,
  ⟨60, 0, 32, .rwl, 1024, (some (1, 32768)), false⟩,
  ⟨64, 0, 8, .ro, 0, none, false⟩]

/-- Fields of the registers of group `pos` (part 2), from the tables of spec chapter 11. -/
def rows_pos2 : List FieldRow := [
  ⟨64, 8, 8, .ro, 0, none, false⟩,
  ⟨64, 16, 8, .ro, 0, none, false⟩,
  ⟨64, 24, 8, .ro, 0, none, false⟩,
  ⟨68, 0, 32, .ro, 0, none, false⟩,
  ⟨72, 0, 32, .rwl, 0, none, true⟩,
  ⟨76, 0, 32, .rwl, 0, (some ((-16777216), 16777216)), true⟩,
  ⟨80, 0, 32, .rwl, 0, (some (0, 65535)), false⟩,
  ⟨84, 0, 32, .ro, 0, none, false⟩,
  ⟨88, 0, 7, .ro, 0, none, false⟩,
  ⟨88, 8, 8, .ro, 0, none, false⟩,
  ⟨88, 16, 16, .ro, 0, none, false⟩,
  ⟨96, 0, 32, .ro, 0, none, true⟩,
  ⟨100, 0, 24, .ro, 0, none, true⟩,
  ⟨100, 24, 1, .ro, 0, none, false⟩,
  ⟨100, 25, 1, .ro, 0, none, false⟩,
  ⟨104, 0, 64, .ro, 0, none, false⟩,
  ⟨112, 0, 2, .rws, 0, none, false⟩,
  ⟨112, 3, 1, .rws, 0, none, false⟩]

/-- Fields of the registers of group `safe` (part 1), from the tables of spec chapter 12. -/
def rows_safe1 : List FieldRow := [
  ⟨0, 0, 1, .wo, 0, none, false⟩,
  ⟨0, 1, 1, .wo, 0, none, false⟩,
  ⟨0, 2, 1, .wo, 0, none, false⟩,
  ⟨4, 22, 1, .ro, 0, none, false⟩,
  ⟨4, 23, 1, .ro, 0, none, false⟩,
  ⟨4, 24, 1, .ro, 0, none, false⟩,
  ⟨4, 25, 1, .ro, 0, none, false⟩,
  ⟨4, 26, 1, .ro, 0, none, false⟩,
  ⟨4, 27, 1, .ro, 0, none, false⟩,
  ⟨4, 28, 1, .ro, 0, none, false⟩,
  ⟨4, 29, 1, .ro, 0, none, false⟩,
  ⟨4, 30, 2, .ro, 0, none, false⟩,
  ⟨8, 0, 16, .ro, 0, none, false⟩,
  ⟨8, 16, 1, .ro, 0, none, false⟩,
  ⟨12, 0, 8, .ro, 255, none, false⟩,
  ⟨12, 8, 8, .ro, 255, none, false⟩,
  ⟨12, 16, 8, .ro, 0, none, false⟩,
  ⟨16, 0, 7, .ro, 0, none, false⟩,
  ⟨16, 8, 7, .ro, 0, none, false⟩,
  ⟨20, 0, 4, .ro, 0, none, false⟩,
  ⟨20, 8, 4, .ro, 0, none, false⟩,
  ⟨20, 16, 4, .ro, 0, none, false⟩,
  ⟨24, 0, 8, .ro, 0, none, false⟩,
  ⟨24, 16, 8, .ro, 0, none, false⟩,
  ⟨24, 30, 2, .ro, 0, none, false⟩,
  ⟨28, 0, 32, .ro, 0, none, false⟩,
  ⟨32, 0, 32, .ro, 0, none, false⟩,
  ⟨36, 0, 32, .ro, 0, none, false⟩,
  ⟨40, 0, 32, .ro, 0, none, false⟩,
  ⟨44, 0, 32, .ro, 0, none, false⟩,
  ⟨48, 0, 1, .ro, 0, none, false⟩,
  ⟨48, 1, 1, .ro, 0, none, false⟩,
  ⟨48, 2, 1, .ro, 0, none, false⟩,
  ⟨48, 16, 16, .ro, 0, none, false⟩,
  ⟨52, 0, 32, .ro, 0, none, false⟩,
  ⟨576, 0, 16, .sig, 0, none, false⟩,
  ⟨576, 16, 8, .sig, 0, none, false⟩,
  ⟨576, 24, 8, .sig, 0, none, false⟩,
  ⟨580, 0, 16, .sig, 0, none, false⟩]

/-- Fields of the registers of group `red` (part 1), from the tables of spec chapter 13. -/
def rows_red1 : List FieldRow := [
  ⟨0, 0, 1, .rw, 1, none, false⟩,
  ⟨0, 1, 1, .wo, 0, none, false⟩,
  ⟨0, 2, 1, .wo, 0, none, false⟩,
  ⟨4, 19, 2, .ro, 0, none, false⟩,
  ⟨4, 21, 3, .ro, 0, none, false⟩,
  ⟨4, 24, 1, .ro, 0, none, false⟩,
  ⟨4, 25, 1, .ro, 0, none, false⟩,
  ⟨4, 26, 1, .ro, 0, none, false⟩,
  ⟨4, 27, 1, .ro, 0, none, false⟩,
  ⟨4, 28, 2, .ro, 0, none, false⟩,
  ⟨4, 30, 2, .ro, 0, none, false⟩,
  ⟨8, 0, 8, .ro, 0, none, false⟩,
  ⟨8, 8, 2, .ro, 0, none, false⟩,
  ⟨8, 16, 8, .ro, 0, none, false⟩,
  ⟨8, 24, 8, .ro, 0, none, false⟩,
  ⟨12, 0, 5, .ro, 0, none, false⟩,
  ⟨12, 8, 5, .ro, 0, none, false⟩,
  ⟨12, 16, 5, .ro, 0, none, false⟩,
  ⟨16, 0, 32, .ro, 0, none, false⟩,
  ⟨20, 0, 64, .ro, 0, none, false⟩,
  ⟨28, 0, 32, .ro, 0, none, false⟩,
  ⟨32, 0, 32, .ro, 0, none, false⟩,
  ⟨36, 0, 32, .ro, 0, none, false⟩,
  ⟨40, 0, 32, .ro, 0, none, false⟩]

/-- Fields of the registers of group `thm` (part 1), from the tables of spec chapter 14. -/
def rows_thm1 : List FieldRow := [
  ⟨0, 0, 1, .wo, 0, none, false⟩,
  ⟨4, 4, 4, .ro, 0, none, false⟩,
  ⟨4, 8, 8, .ro, 0, none, false⟩,
  ⟨4, 25, 2, .ro, 0, none, false⟩,
  ⟨4, 27, 1, .ro, 0, none, false⟩,
  ⟨4, 28, 1, .ro, 0, none, false⟩,
  ⟨4, 29, 1, .ro, 0, none, false⟩,
  ⟨4, 30, 1, .ro, 0, none, false⟩,
  ⟨4, 31, 1, .ro, 0, none, false⟩,
  ⟨8, 0, 16, .ro, 0, none, false⟩,
  ⟨8, 16, 8, .ro, 0, none, false⟩,
  ⟨8, 24, 8, .ro, 0, none, false⟩,
  ⟨12, 0, 32, .ro, 0, none, true⟩,
  ⟨16, 0, 32, .ro, 0, none, true⟩,
  ⟨20, 0, 32, .ro, 0, none, false⟩,
  ⟨24, 0, 8, .ro, 200, none, false⟩,
  ⟨28, 0, 7, .rw, 30, (some (10, 100)), false⟩,
  ⟨32, 0, 7, .rw, 20, (some (0, 100)), false⟩,
  ⟨36, 0, 16, .ro, 0, none, true⟩,
  ⟨36, 16, 16, .ro, 0, none, true⟩,
  ⟨40, 0, 32, .ro, 0, none, true⟩,
  ⟨44, 0, 32, .ro, 0, none, true⟩,
  ⟨48, 0, 32, .ro, 0, none, true⟩,
  ⟨52, 0, 32, .ro, 0, none, true⟩,
  ⟨56, 0, 32, .ro, 0, none, true⟩,
  ⟨60, 0, 32, .ro, 0, none, true⟩,
  ⟨64, 0, 32, .ro, 0, none, true⟩,
  ⟨68, 0, 32, .ro, 0, none, true⟩,
  ⟨72, 0, 32, .ro, 0, none, true⟩,
  ⟨76, 0, 32, .ro, 0, none, true⟩,
  ⟨80, 0, 32, .ro, 0, none, true⟩]

/-- Fields of the registers of group `mem` (part 1), from the tables of spec chapter 15. -/
def rows_mem1 : List FieldRow := [
  ⟨0, 0, 1, .wo, 0, none, false⟩,
  ⟨0, 1, 1, .wo, 0, none, false⟩,
  ⟨0, 2, 1, .wo, 0, none, false⟩,
  ⟨0, 3, 1, .wo, 0, none, false⟩,
  ⟨4, 0, 16, .ro, 0, none, false⟩,
  ⟨4, 28, 1, .ro, 0, none, false⟩,
  ⟨4, 29, 1, .ro, 0, none, false⟩,
  ⟨4, 30, 1, .ro, 0, none, false⟩,
  ⟨4, 31, 1, .ro, 0, none, false⟩,
  ⟨8, 0, 32, .rw, 64, (some (1, 65535)), false⟩,
  ⟨16, 0, 32, .ro, 0, none, false⟩,
  ⟨20, 0, 32, .ro, 0, none, false⟩,
  ⟨24, 0, 8, .ro, 0, none, false⟩,
  ⟨28, 0, 32, .ro, 0, none, false⟩,
  ⟨32, 0, 32, .ro, 0, none, false⟩,
  ⟨36, 0, 32, .ro, 0, none, false⟩,
  ⟨40, 0, 8, .ro, 0, none, false⟩,
  ⟨44, 0, 32, .ro, 0, none, false⟩,
  ⟨48, 0, 32, .ro, 0, none, false⟩,
  ⟨52, 0, 32, .ro, 0, none, false⟩,
  ⟨56, 0, 8, .ro, 0, none, false⟩,
  ⟨60, 0, 32, .ro, 0, none, false⟩,
  ⟨64, 0, 32, .ro, 0, none, false⟩,
  ⟨68, 0, 4, .ro, 0, none, false⟩,
  ⟨68, 16, 8, .ro, 0, none, false⟩,
  ⟨68, 28, 2, .ro, 0, none, false⟩,
  ⟨80, 0, 2, .rw, 0, (some (0, 2)), false⟩,
  ⟨80, 31, 1, .rw, 0, none, false⟩,
  ⟨84, 0, 32, .rw, 0, none, false⟩,
  ⟨88, 0, 32, .rw, 0, none, false⟩,
  ⟨92, 0, 32, .ro, 0, none, false⟩,
  ⟨96, 0, 32, .ro, 0, none, false⟩,
  ⟨100, 0, 32, .ro, 0, none, false⟩,
  ⟨104, 0, 32, .ro, 4294967295, none, false⟩,
  ⟨108, 0, 32, .ro, 4294967295, none, false⟩,
  ⟨112, 0, 16, .ro, 0, none, false⟩,
  ⟨116, 0, 16, .wo, 0, none, false⟩,
  ⟨128, 0, 2, .rw, 0, (some (0, 2)), false⟩,
  ⟨132, 0, 32, .rw, 0, none, false⟩,
  ⟨136, 0, 32, .rw, 0, none, false⟩]

/-- Fields of the registers of group `mem` (part 2), from the tables of spec chapter 15. -/
def rows_mem2 : List FieldRow := [
  ⟨140, 0, 32, .rw, 0, none, false⟩,
  ⟨144, 0, 8, .rw, 0, none, false⟩]

/-- Fields of the registers of group `bay` (part 1), from the tables of spec chapter 16. -/
def rows_bay1 : List FieldRow := [
  ⟨0, 0, 16, .ro, 1, none, false⟩,
  ⟨0, 16, 16, .ro, 1, none, false⟩,
  ⟨4, 0, 64, .ro, 0, none, false⟩,
  ⟨12, 0, 4, .ro, 2, none, false⟩,
  ⟨12, 4, 4, .ro, 2, none, false⟩,
  ⟨12, 8, 4, .ro, 3, none, false⟩,
  ⟨12, 12, 4, .ro, 3, none, false⟩,
  ⟨12, 16, 4, .ro, 3, none, false⟩,
  ⟨12, 20, 4, .ro, 3, none, false⟩,
  ⟨12, 24, 4, .ro, 5, none, false⟩,
  ⟨12, 28, 4, .ro, 6, none, false⟩,
  ⟨16, 0, 1, .wo, 0, none, false⟩,
  ⟨16, 1, 1, .wo, 0, none, false⟩,
  ⟨16, 2, 1, .wo, 0, none, false⟩,
  ⟨16, 3, 1, .wo, 0, none, false⟩,
  ⟨16, 4, 1, .wo, 0, none, false⟩,
  ⟨16, 5, 1, .wo, 0, none, false⟩,
  ⟨16, 6, 1, .wo, 0, none, false⟩,
  ⟨16, 7, 1, .wo, 0, none, false⟩,
  ⟨16, 8, 1, .wo, 0, none, false⟩,
  ⟨16, 9, 1, .wo, 0, none, false⟩,
  ⟨20, 13, 1, .ro, 0, none, false⟩,
  ⟨20, 14, 1, .ro, 0, none, false⟩,
  ⟨20, 15, 1, .ro, 0, none, false⟩,
  ⟨20, 16, 4, .ro, 0, none, false⟩,
  ⟨20, 24, 4, .ro, 0, none, false⟩,
  ⟨20, 28, 4, .ro, 1, none, false⟩,
  ⟨24, 0, 8, .ro, 0, none, false⟩,
  ⟨24, 24, 8, .ro, 0, none, false⟩,
  ⟨28, 0, 32, .rws, 54000, (some (0, 54000)), false⟩,
  ⟨32, 0, 32, .rws, 54000, (some (0, 54000)), false⟩,
  ⟨36, 0, 64, .ro, 0, none, false⟩,
  ⟨44, 0, 6, .ro, 0, none, false⟩,
  ⟨44, 8, 1, .ro, 0, none, false⟩,
  ⟨44, 9, 1, .ro, 0, none, false⟩]

/-- Fields of the registers of group `src` (part 1), from the tables of spec chapter 16. -/
def rows_src1 : List FieldRow := [
  ⟨0, 16, 7, .rws, 0, (some (0, 64)), false⟩,
  ⟨0, 24, 3, .rws, 0, none, false⟩,
  ⟨0, 28, 1, .rws, 0, none, false⟩,
  ⟨0, 29, 1, .rws, 1, none, false⟩,
  ⟨0, 30, 1, .rws, 1, none, false⟩,
  ⟨0, 31, 1, .rws, 1, none, false⟩]

/-- Fields of the registers of group `time` (part 1), from the tables of spec chapter 16. -/
def rows_time1 : List FieldRow := [
  ⟨0, 0, 1, .rws, 0, none, false⟩,
  ⟨4, 0, 6, .ro, 0, none, false⟩,
  ⟨4, 25, 1, .ro, 0, none, false⟩,
  ⟨4, 26, 2, .ro, 0, none, false⟩,
  ⟨4, 28, 1, .ro, 0, none, false⟩,
  ⟨4, 29, 1, .ro, 0, none, false⟩,
  ⟨4, 30, 1, .ro, 1, none, false⟩,
  ⟨4, 31, 1, .ro, 0, none, false⟩,
  ⟨8, 0, 64, .ro, 0, none, false⟩,
  ⟨16, 0, 32, .ro, 0, none, true⟩,
  ⟨20, 0, 32, .ro, 0, none, true⟩,
  ⟨24, 0, 32, .ro, 0, none, false⟩,
  ⟨28, 0, 32, .ro, 0, none, false⟩,
  ⟨32, 0, 32, .ro, 0, none, true⟩]

/-- Fields of the registers of group `wve` (part 1), from the tables of spec chapter 17. -/
def rows_wve1 : List FieldRow := [
  ⟨0, 0, 1, .wo, 0, none, false⟩,
  ⟨0, 1, 1, .wo, 0, none, false⟩,
  ⟨4, 0, 6, .ro, 0, none, false⟩,
  ⟨4, 8, 6, .ro, 0, none, false⟩,
  ⟨4, 22, 1, .ro, 0, none, false⟩,
  ⟨4, 23, 3, .ro, 0, none, false⟩,
  ⟨4, 26, 2, .ro, 0, none, false⟩,
  ⟨4, 28, 1, .ro, 0, none, false⟩,
  ⟨4, 29, 1, .ro, 0, none, false⟩,
  ⟨4, 30, 1, .ro, 0, none, false⟩,
  ⟨4, 31, 1, .ro, 0, none, false⟩,
  ⟨8, 0, 2, .rwl, 0, (some (0, 2)), false⟩,
  ⟨12, 0, 4, .ro, 0, none, false⟩,
  ⟨12, 4, 4, .ro, 0, none, false⟩,
  ⟨12, 8, 4, .ro, 0, none, false⟩,
  ⟨12, 12, 4, .ro, 0, none, false⟩,
  ⟨12, 16, 4, .ro, 0, none, false⟩,
  ⟨12, 20, 4, .ro, 0, none, false⟩,
  ⟨16, 0, 6, .ro, 0, none, false⟩,
  ⟨16, 8, 6, .ro, 0, none, false⟩,
  ⟨20, 0, 32, .ro, 0, none, false⟩,
  ⟨24, 0, 32, .ro, 0, none, false⟩,
  ⟨28, 0, 32, .ro, 0, none, false⟩,
  ⟨32, 0, 32, .ro, 0, none, false⟩,
  ⟨36, 0, 6, .wo, 0, none, false⟩,
  ⟨36, 31, 1, .wo, 0, none, false⟩,
  ⟨48, 0, 32, .rwl, 0, none, false⟩,
  ⟨52, 0, 32, .rwl, 0, none, false⟩,
  ⟨56, 0, 32, .rwl, 0, none, false⟩,
  ⟨60, 0, 32, .rwl, 0, none, false⟩,
  ⟨64, 0, 16, .rwl, 7741, (some (1024, 65535)), false⟩,
  ⟨68, 0, 8, .rwl, 0, (some (0, 127)), false⟩,
  ⟨68, 31, 1, .rwl, 0, none, false⟩,
  ⟨72, 0, 32, .rwl, 256, (some (16, 512)), false⟩]

/-- Fields of the registers of group `sq` (part 1), from the tables of spec chapter 17. -/
def rows_sq1 : List FieldRow := [
  ⟨0, 0, 16, .ro, 0, none, false⟩,
  ⟨0, 28, 1, .ro, 0, none, false⟩,
  ⟨0, 29, 1, .ro, 0, none, false⟩,
  ⟨0, 30, 1, .w1c, 0, none, false⟩,
  ⟨0, 31, 1, .ro, 1, none, false⟩,
  ⟨8, 0, 64, .ro, 0, none, false⟩,
  ⟨16, 0, 64, .ro, 0, none, false⟩,
  ⟨24, 0, 64, .ro, 0, none, false⟩,
  ⟨32, 0, 64, .ro, 0, none, false⟩]

/-- Fields of the registers of group `cfd` (part 1), from the tables of spec chapter 18. -/
def rows_cfd1 : List FieldRow := [
  ⟨0, 0, 2, .rw, 0, none, false⟩,
  ⟨0, 3, 1, .rwl, 0, none, false⟩,
  ⟨0, 4, 2, .rwl, 0, (some (0, 2)), false⟩,
  ⟨0, 6, 1, .wo, 0, none, false⟩,
  ⟨0, 7, 1, .wo, 0, none, false⟩,
  ⟨4, 0, 8, .ro, 0, none, false⟩,
  ⟨4, 26, 1, .ro, 0, none, false⟩,
  ⟨4, 27, 1, .ro, 0, none, false⟩,
  ⟨4, 28, 1, .ro, 0, none, false⟩,
  ⟨4, 29, 1, .ro, 0, none, false⟩,
  ⟨4, 30, 2, .ro, 0, none, false⟩,
  ⟨8, 0, 9, .rwl, 1, (some (1, 511)), false⟩,
  ⟨8, 9, 7, .rwl, 40, (some (1, 127)), false⟩,
  ⟨8, 16, 7, .rwl, 40, (some (1, 127)), false⟩,
  ⟨8, 23, 9, .rwl, 159, (some (1, 256)), false⟩,
  ⟨12, 0, 5, .rwl, 1, (some (1, 31)), false⟩,
  ⟨12, 8, 8, .rwl, 10, (some (1, 32)), false⟩,
  ⟨12, 16, 8, .rwl, 10, (some (1, 32)), false⟩,
  ⟨12, 24, 8, .rwl, 39, (some (1, 64)), false⟩,
  ⟨16, 0, 7, .rwl, 0, none, false⟩,
  ⟨16, 31, 1, .rwl, 0, none, false⟩,
  ⟨20, 0, 9, .ro, 0, none, false⟩,
  ⟨20, 16, 9, .ro, 0, none, false⟩,
  ⟨24, 0, 4, .ro, 0, none, false⟩,
  ⟨24, 4, 4, .ro, 0, none, false⟩,
  ⟨24, 8, 8, .ro, 0, none, false⟩,
  ⟨24, 16, 8, .ro, 0, none, false⟩,
  ⟨24, 24, 8, .ro, 0, none, false⟩,
  ⟨28, 0, 32, .ro, 0, none, false⟩,
  ⟨32, 0, 32, .ro, 0, none, false⟩,
  ⟨36, 0, 29, .ro, 0, none, false⟩,
  ⟨36, 31, 1, .ro, 0, none, false⟩,
  ⟨40, 0, 32, .rwl, 1000, (some (0, 60000)), false⟩,
  ⟨44, 0, 3, .ro, 0, none, false⟩,
  ⟨44, 16, 8, .ro, 0, none, false⟩,
  ⟨44, 30, 1, .ro, 0, none, false⟩,
  ⟨44, 31, 1, .ro, 0, none, false⟩]

/-- Fields of the registers of group `cfdObj` (part 1), from the tables of spec chapter 18. -/
def rows_cfdObj1 : List FieldRow := [
  ⟨0, 16, 4, .rwl, 8, none, false⟩,
  ⟨0, 26, 1, .rwl, 0, none, false⟩,
  ⟨0, 27, 1, .rwl, 0, none, false⟩,
  ⟨0, 28, 1, .rwl, 0, none, false⟩,
  ⟨0, 29, 1, .rwl, 0, none, false⟩,
  ⟨0, 30, 1, .rwl, 0, none, false⟩,
  ⟨0, 31, 1, .rw, 0, none, false⟩,
  ⟨4, 0, 29, .rwl, 0, none, false⟩,
  ⟨8, 0, 1, .wo, 0, none, false⟩,
  ⟨8, 1, 1, .wo, 0, none, false⟩,
  ⟨12, 0, 16, .ro, 0, none, false⟩,
  ⟨12, 16, 4, .ro, 0, none, false⟩,
  ⟨12, 20, 1, .ro, 0, none, false⟩,
  ⟨12, 21, 1, .ro, 0, none, false⟩,
  ⟨12, 22, 1, .ro, 0, none, false⟩,
  ⟨12, 23, 1, .ro, 0, none, false⟩,
  ⟨12, 24, 3, .ro, 0, none, false⟩,
  ⟨12, 27, 1, .w1c, 0, none, false⟩,
  ⟨12, 28, 1, .w1c, 0, none, false⟩,
  ⟨12, 29, 1, .ro, 0, none, false⟩,
  ⟨12, 30, 1, .w1c, 0, none, false⟩,
  ⟨12, 31, 1, .w1c, 0, none, false⟩,
  ⟨16, 0, 64, .ro, 0, none, false⟩,
  ⟨24, 0, 16, .rwl, 10, (some (1, 1000)), false⟩,
  ⟨64, 0, 32, .rw, 0, none, false⟩,
  ⟨68, 0, 32, .rw, 0, none, false⟩,
  ⟨72, 0, 32, .rw, 0, none, false⟩,
  ⟨76, 0, 32, .rw, 0, none, false⟩,
  ⟨80, 0, 32, .rw, 0, none, false⟩,
  ⟨84, 0, 32, .rw, 0, none, false⟩,
  ⟨88, 0, 32, .rw, 0, none, false⟩,
  ⟨92, 0, 32, .rw, 0, none, false⟩,
  ⟨96, 0, 32, .rw, 0, none, false⟩,
  ⟨100, 0, 32, .rw, 0, none, false⟩,
  ⟨104, 0, 32, .rw, 0, none, false⟩,
  ⟨108, 0, 32, .rw, 0, none, false⟩,
  ⟨112, 0, 32, .rw, 0, none, false⟩,
  ⟨116, 0, 32, .rw, 0, none, false⟩,
  ⟨120, 0, 32, .rw, 0, none, false⟩,
  ⟨124, 0, 32, .rw, 0, none, false⟩]

/-- Fields of the registers of group `tru` (part 1), from the tables of spec chapter 19. -/
def rows_tru1 : List FieldRow := [
  ⟨0, 0, 1, .wo, 0, none, false⟩,
  ⟨0, 1, 1, .wo, 0, none, false⟩,
  ⟨0, 2, 1, .wo, 0, none, false⟩,
  ⟨0, 3, 1, .wo, 0, none, false⟩,
  ⟨0, 4, 1, .wo, 0, none, false⟩,
  ⟨0, 5, 1, .wo, 0, none, false⟩,
  ⟨0, 6, 1, .wo, 0, none, false⟩,
  ⟨0, 7, 1, .wo, 0, none, false⟩,
  ⟨4, 16, 4, .ro, 0, none, false⟩,
  ⟨4, 20, 4, .ro, 0, none, false⟩,
  ⟨4, 25, 1, .ro, 0, none, false⟩,
  ⟨4, 26, 1, .ro, 0, none, false⟩,
  ⟨4, 27, 1, .ro, 0, none, false⟩,
  ⟨4, 28, 1, .ro, 0, none, false⟩,
  ⟨4, 29, 1, .ro, 0, none, false⟩,
  ⟨4, 30, 1, .ro, 0, none, false⟩,
  ⟨4, 31, 1, .ro, 0, none, false⟩,
  ⟨8, 0, 5, .ro, 0, none, false⟩,
  ⟨8, 24, 8, .ro, 0, none, false⟩,
  ⟨12, 0, 1, .ro, 0, none, false⟩,
  ⟨12, 1, 1, .ro, 0, none, false⟩,
  ⟨12, 2, 1, .ro, 0, none, false⟩,
  ⟨12, 3, 1, .ro, 0, none, false⟩,
  ⟨12, 4, 1, .ro, 0, none, false⟩,
  ⟨12, 16, 8, .ro, 0, none, false⟩,
  ⟨12, 24, 8, .ro, 0, none, false⟩,
  ⟨16, 0, 1, .ro, 0, none, false⟩,
  ⟨16, 1, 1, .ro, 0, none, false⟩,
  ⟨16, 2, 1, .ro, 0, none, false⟩,
  ⟨16, 3, 1, .ro, 0, none, false⟩,
  ⟨16, 4, 1, .ro, 0, none, false⟩,
  ⟨16, 16, 8, .ro, 0, none, false⟩,
  ⟨16, 24, 8, .ro, 0, none, false⟩,
  ⟨20, 0, 32, .ro, 0, none, false⟩,
  ⟨24, 0, 32, .ro, 0, none, false⟩,
  ⟨32, 0, 32, .rw, 0, none, false⟩,
  ⟨36, 0, 32, .rw, 0, none, false⟩,
  ⟨40, 0, 32, .rw, 0, none, false⟩,
  ⟨44, 0, 32, .rw, 0, none, false⟩,
  ⟨48, 0, 32, .rw, 0, none, false⟩]

/-- Fields of the registers of group `tru` (part 2), from the tables of spec chapter 19, 22. -/
def rows_tru2 : List FieldRow := [
  ⟨52, 0, 32, .rw, 0, none, false⟩,
  ⟨56, 0, 32, .rw, 0, none, false⟩,
  ⟨60, 0, 32, .rw, 0, none, false⟩,
  ⟨64, 0, 1, .ro, 0, none, false⟩,
  ⟨64, 1, 1, .ro, 0, none, false⟩,
  ⟨64, 2, 1, .ro, 0, none, false⟩,
  ⟨64, 31, 1, .ro, 0, none, false⟩,
  ⟨68, 0, 32, .rw, 0, none, false⟩,
  ⟨72, 16, 8, .ro, 0, none, false⟩,
  ⟨72, 24, 4, .ro, 0, none, false⟩,
  ⟨72, 30, 1, .ro, 0, none, false⟩,
  ⟨72, 31, 1, .ro, 0, none, false⟩,
  ⟨76, 0, 32, .ro, 0, none, false⟩,
  ⟨80, 0, 2, .rw, 0, (some (0, 2)), false⟩,
  ⟨84, 0, 32, .ro, 0, none, false⟩,
  ⟨88, 0, 32, .ro, 0, none, false⟩,
  ⟨92, 8, 3, .ro, 0, none, false⟩,
  ⟨92, 11, 1, .ro, 0, none, false⟩,
  ⟨92, 16, 16, .ro, 0, none, false⟩,
  ⟨96, 0, 8, .wo, 0, none, false⟩,
  ⟨100, 8, 2, .ro, 0, none, false⟩,
  ⟨100, 16, 4, .ro, 0, none, false⟩,
  ⟨100, 24, 8, .ro, 0, none, false⟩,
  ⟨12288, 0, 1, .wo, 0, none, false⟩,
  ⟨12288, 1, 1, .wo, 0, none, false⟩,
  ⟨12288, 2, 1, .wo, 0, none, false⟩,
  ⟨12292, 0, 5, .rw, 0, none, false⟩,
  ⟨12296, 16, 6, .ro, 0, none, false⟩,
  ⟨12296, 24, 4, .ro, 0, none, false⟩,
  ⟨12296, 30, 1, .ro, 0, none, false⟩,
  ⟨12296, 31, 1, .ro, 0, none, false⟩]

/-- Fields of the registers of group `img` (part 1), from the tables of spec chapter 07. -/
def rows_img1 : List FieldRow := [
  ⟨0, 0, 32, .ro, 0, none, false⟩,
  ⟨4, 0, 32, .ro, 0, none, false⟩,
  ⟨8, 0, 7, .ro, 0, none, false⟩,
  ⟨8, 24, 2, .ro, 0, none, false⟩,
  ⟨8, 31, 1, .ro, 0, none, false⟩,
  ⟨12, 0, 32, .ro, 0, none, false⟩]

/-- Fields of the registers of group `safePair` (part 1), from the tables of spec chapter 12. -/
def rows_safePair1 : List FieldRow := [
  ⟨0, 0, 16, .sig, 0, none, false⟩,
  ⟨0, 16, 8, .sig, 0, none, false⟩,
  ⟨0, 24, 8, .sig, 0, none, false⟩,
  ⟨4, 0, 1, .sig, 0, none, false⟩,
  ⟨4, 8, 1, .sig, 0, none, false⟩,
  ⟨4, 9, 1, .sig, 0, none, false⟩,
  ⟨4, 16, 16, .sig, 0, none, false⟩]

/-- Fields of the registers of group `safeOut` (part 1), from the tables of spec chapter 12. -/
def rows_safeOut1 : List FieldRow := [
  ⟨0, 0, 16, .sig, 0, none, false⟩,
  ⟨0, 24, 8, .sig, 0, none, false⟩]

/-- Fields of the registers of group `evt` (part 1), from the tables of spec chapter 16. -/
def rows_evt1 : List FieldRow := [
  ⟨0, 0, 1, .wo, 0, none, false⟩,
  ⟨4, 0, 16, .ro, 0, none, false⟩,
  ⟨4, 16, 13, .ro, 0, none, false⟩,
  ⟨8, 0, 64, .ro, 0, none, false⟩,
  ⟨16, 0, 8, .ro, 0, none, false⟩,
  ⟨16, 8, 5, .ro, 0, none, false⟩,
  ⟨16, 13, 3, .ro, 0, none, false⟩,
  ⟨16, 16, 16, .ro, 0, none, false⟩,
  ⟨20, 0, 32, .ro, 0, none, false⟩]

/-- Fields of the registers of group `engScr` (part 1), from the tables of spec chapter 07. -/
def rows_engScr1 : List FieldRow := [
  ⟨0, 0, 32, .rwl, 0, none, true⟩]

/-- Fields of the registers of group `fric` (part 1), from the tables of spec chapter 09. -/
def rows_fric1 : List FieldRow := [
  ⟨0, 0, 16, .rwl, 0, none, true⟩,
  ⟨0, 16, 16, .rwl, 0, none, true⟩]

/-- Fields of the registers of group `cog` (part 1), from the tables of spec chapter 09. -/
def rows_cog1 : List FieldRow := [
  ⟨0, 0, 16, .rwl, 0, none, true⟩,
  ⟨0, 16, 16, .rwl, 0, none, true⟩]

/-- Fields of the registers of group `tsdLog` (part 1), from the tables of spec chapter 14. -/
def rows_tsdLog1 : List FieldRow := [
  ⟨0, 0, 32, .ro, 0, none, false⟩]

/-- Fields of the registers of group `xev` (part 1), from the tables of spec chapter 17. -/
def rows_xev1 : List FieldRow := [
  ⟨0, 0, 8, .rwl, 0, none, false⟩,
  ⟨0, 16, 7, .rwl, 0, none, false⟩,
  ⟨0, 24, 6, .rwl, 0, none, false⟩,
  ⟨0, 30, 1, .rwl, 0, none, false⟩,
  ⟨0, 31, 1, .rwl, 0, none, false⟩]

/-- Fields of the registers of group `rta` (part 1), from the tables of spec chapter 17. -/
def rows_rta1 : List FieldRow := [
  ⟨0, 0, 32, .ro, 0, none, false⟩]

/-- Fields of the registers of group `rtb` (part 1), from the tables of spec chapter 17. -/
def rows_rtb1 : List FieldRow := [
  ⟨0, 0, 32, .ro, 0, none, false⟩]

/-- Fields of the registers of group `bind` (part 1), from the tables of spec chapter 17. -/
def rows_bind1 : List FieldRow := [
  ⟨0, 0, 64, .ro, 0, none, false⟩,
  ⟨8, 29, 1, .ro, 0, none, false⟩,
  ⟨8, 30, 1, .ro, 0, none, false⟩,
  ⟨8, 31, 1, .ro, 0, none, false⟩]

/-- Fields of the registers of group `auth` (part 1), from the tables of spec chapter 19. -/
def rows_auth1 : List FieldRow := [
  ⟨0, 0, 64, .ro, 0, none, false⟩,
  ⟨8, 16, 8, .ro, 0, none, false⟩,
  ⟨8, 30, 1, .ro, 0, none, false⟩,
  ⟨8, 31, 1, .ro, 0, none, false⟩]

/-- Fields of the registers of group `enrBuf` (part 1), from the tables of spec chapter 19. -/
def rows_enrBuf1 : List FieldRow := [
  ⟨0, 0, 32, .rw, 0, none, false⟩]

/-- Fields of the registers of group `fwl` (part 1), from the tables of spec chapter 19. -/
def rows_fwl1 : List FieldRow := [
  ⟨0, 0, 64, .ro, 0, none, false⟩,
  ⟨8, 8, 2, .ro, 0, none, false⟩,
  ⟨8, 16, 4, .ro, 0, none, false⟩,
  ⟨8, 24, 8, .ro, 0, none, false⟩,
  ⟨12, 0, 32, .ro, 0, none, false⟩]

/-- Fields of the registers of group `quoteCA` (part 1), from the tables of spec chapter 19. -/
def rows_quoteCA1 : List FieldRow := [
  ⟨0, 0, 32, .ro, 0, none, false⟩]

/-- Fields of the registers of group `quoteCB` (part 1), from the tables of spec chapter 19. -/
def rows_quoteCB1 : List FieldRow := [
  ⟨0, 0, 32, .ro, 0, none, false⟩]

/-- Fields of the registers of group `cert` (part 1), from the tables of spec chapter 19. -/
def rows_cert1 : List FieldRow := [
  ⟨0, 0, 32, .ro, 0, none, false⟩]

/-- All fields of one group, with their offsets inside one member of the group. -/
def groupRows : Grp → List FieldRow
  | .pwr => rows_pwr1
  | .sec => rows_sec1
  | .chn => rows_chn1 ++ rows_chn2 ++ rows_chn3 ++ rows_chn4
  | .meas => rows_meas1
  | .measSeq => rows_measSeq1
  | .measRes => rows_measRes1
  | .eis => rows_eis1
  | .eisCh => rows_eisCh1
  | .skn => rows_skn1
  | .grp => rows_grp1
  | .eng => rows_eng1 ++ rows_eng2
  | .loop => rows_loop1
  | .loopCh => rows_loopCh1
  | .loopAx => rows_loopAx1
  | .loopTr => rows_loopTr1 ++ rows_loopTr2
  | .axs => rows_axs1 ++ rows_axs2
  | .pos => rows_pos1 ++ rows_pos2
  | .safe => rows_safe1
  | .red => rows_red1
  | .thm => rows_thm1
  | .mem => rows_mem1 ++ rows_mem2
  | .bay => rows_bay1
  | .src => rows_src1
  | .time => rows_time1
  | .wve => rows_wve1
  | .sq => rows_sq1
  | .cfd => rows_cfd1
  | .cfdObj => rows_cfdObj1
  | .tru => rows_tru1 ++ rows_tru2
  | .img => rows_img1
  | .safePair => rows_safePair1
  | .safeOut => rows_safeOut1
  | .evt => rows_evt1
  | .engScr => rows_engScr1
  | .fric => rows_fric1
  | .cog => rows_cog1
  | .tsdLog => rows_tsdLog1
  | .xev => rows_xev1
  | .rta => rows_rta1
  | .rtb => rows_rtb1
  | .bind => rows_bind1
  | .auth => rows_auth1
  | .enrBuf => rows_enrBuf1
  | .fwl => rows_fwl1
  | .quoteCA => rows_quoteCA1
  | .quoteCB => rows_quoteCB1
  | .cert => rows_cert1

/-- Where a group stands in the address space: base address, distance of its members, how many members (R403, R405, R406 and the base addresses each chapter gives). -/
structure GroupSpan where
  base : Nat
  stride : Nat
  count : Nat
  deriving DecidableEq, Repr

/-- The span of each group. The objects of one CAN controller stand 0x80 apart, those of the two controllers 0x8000 apart: `keyAddr` treats them apart. -/
def groupSpan : Grp → GroupSpan
  | .pwr => ⟨0x80000, 0x0, 1⟩
  | .sec => ⟨0x40000, 0x10000, 4⟩
  | .chn => ⟨0x100000, 0x1000, 64⟩
  | .meas => ⟨0x140000, 0x0, 1⟩
  | .measSeq => ⟨0x140100, 0x4, 72⟩
  | .measRes => ⟨0x140400, 0x10, 72⟩
  | .eis => ⟨0x150000, 0x0, 1⟩
  | .eisCh => ⟨0x150100, 0x10, 64⟩
  | .skn => ⟨0x180000, 0x0, 1⟩
  | .grp => ⟨0x180100, 0x10, 16⟩
  | .eng => ⟨0x181000, 0x100, 64⟩
  | .loop => ⟨0x200000, 0x0, 1⟩
  | .loopCh => ⟨0x201000, 0x20, 64⟩
  | .loopAx => ⟨0x201800, 0x40, 6⟩
  | .loopTr => ⟨0x202000, 0x100, 4⟩
  | .axs => ⟨0x240000, 0x1000, 6⟩
  | .pos => ⟨0x250000, 0x1000, 4⟩
  | .safe => ⟨0x280000, 0x0, 1⟩
  | .red => ⟨0x290000, 0x0, 1⟩
  | .thm => ⟨0x2A0000, 0x0, 1⟩
  | .mem => ⟨0x2B0000, 0x8000, 2⟩
  | .bay => ⟨0x0, 0x0, 1⟩
  | .src => ⟨0x10100, 0x4, 256⟩
  | .time => ⟨0x20000, 0x0, 1⟩
  | .wve => ⟨0x2C0000, 0x0, 1⟩
  | .sq => ⟨0x2C1000, 0x40, 69⟩
  | .cfd => ⟨0x2D0000, 0x8000, 2⟩
  | .cfdObj => ⟨0x2D1000, 0x0, 256⟩
  | .tru => ⟨0x2E0000, 0x0, 1⟩
  | .img => ⟨0x180400, 0x10, 32⟩
  | .safePair => ⟨0x280100, 0x8, 8⟩
  | .safeOut => ⟨0x280200, 0x4, 4⟩
  | .evt => ⟨0x10000, 0x0, 1⟩
  | .engScr => ⟨0x188000, 0x4, 16384⟩
  | .fric => ⟨0x204000, 0x4, 512⟩
  | .cog => ⟨0x208000, 0x4, 2048⟩
  | .tsdLog => ⟨0x2A0100, 0x4, 256⟩
  | .xev => ⟨0x2C0100, 0x4, 16⟩
  | .rta => ⟨0x2C4000, 0x4, 32⟩
  | .rtb => ⟨0x2C4080, 0x4, 32⟩
  | .bind => ⟨0x2C5000, 0x10, 64⟩
  | .auth => ⟨0x2E0100, 0x10, 8⟩
  | .enrBuf => ⟨0x2E0400, 0x4, 64⟩
  | .fwl => ⟨0x2E0800, 0x10, 16⟩
  | .quoteCA => ⟨0x2E1000, 0x4, 140⟩
  | .quoteCB => ⟨0x2E1400, 0x4, 140⟩
  | .cert => ⟨0x2E2000, 0x4, 512⟩

end Sys2Proof.Machine
end

