-- ==== Sys2Proof/Machine/Ops.lean ====
section
/-! DEFINITION. The operations every family shares: reading and writing register fields, bay time and frame edges, raising events and configuration errors, and holding RWS writes until their edge. -/

namespace Sys2Proof.Machine

/-- The next state of a command that acts on the bay outside its memories. -/
def State.onBay (s : State) (f : Bay → Bay) : Result := .next { s with bay := f s.bay }

/-! ## Time (R24, R400) -/

/-- Ticks of one control frame (R24). -/
abbrev frameTicks : Nat := 5000
/-- Ticks of 1 ms. -/
abbrev msTicks : Nat := 125000
/-- Ticks of 1 s. -/
abbrev secTicks : Nat := 125000000
/-- Ticks of 1 µs. -/
abbrev usTicks : Nat := 125

/-- The first frame edge after bay time `t` (R24). -/
def nextEdge (t : Nat) : Nat := (t / frameTicks + 1) * frameTicks

/-- The frame edge that opened the frame of bay time `t`. -/
def frameStart (t : Nat) : Nat := t / frameTicks * frameTicks

/-- The least multiple of `m` at or above `t`. -/
def ceilTo (m t : Nat) : Nat := (t + (m - 1)) / m * m

/-! ## Numbers -/

/-- `v` held within `lo` and `hi`. -/
def clampI (lo hi v : Int) : Int := max lo (min hi v)

/-- `v` read as a signed number of `n` bits. -/
def asSigned (n : Nat) (v : Int) : Int :=
  let u := v % (2 ^ n)
  if u < 2 ^ (n - 1) then u else u - 2 ^ n

/-- Bit `n` of a register value. -/
def bitOf (v : Int) (n : Nat) : Bool := v.toNat.testBit n

/-- Bits [lo + w - 1 : lo] of a number. -/
def field (v : Nat) (lo w : Nat) : Nat := v / 2 ^ lo % 2 ^ w

/-- A number with bit `n` set. -/
def setBitN (v n : Nat) : Nat := v ||| 2 ^ n

/-- A number with bit `n` clear. -/
def clearBitN (v n : Nat) : Nat := if v.testBit n then v - 2 ^ n else v

/-- How many of the low `n` bits of `v` are set. -/
def countBits (v n : Nat) : Nat := ((List.range n).filter (fun i => v.testBit i)).length

/-- `x` rounded toward zero. -/
def truncR (x : Rat) : Int := if x < 0 then -((-x).floor) else x.floor

/-- `n` bytes of a number, least significant first (R8). -/
def leBytes : Nat → Int → List Byte
  | 0, _ => []
  | n + 1, v => BitVec.ofInt 8 v :: leBytes n (v / 256)

/-- The number of a little-endian byte string (R8). -/
def leNum : List Byte → Nat
  | [] => 0
  | x :: r => x.toNat + 256 * leNum r

/-- Byte `o` of a byte string. -/
def byteAt (l : List Byte) (o : Nat) : Nat := (l.getD o 0).toNat
/-- The 16-bit number at offset `o`. -/
def u16At (l : List Byte) (o : Nat) : Nat := leNum ((l.drop o).take 2)
/-- The 32-bit number at offset `o`. -/
def u32At (l : List Byte) (o : Nat) : Nat := leNum ((l.drop o).take 4)
/-- The 64-bit number at offset `o`. -/
def u64At (l : List Byte) (o : Nat) : Nat := leNum ((l.drop o).take 8)
/-- The signed 16-bit number at offset `o`. -/
def i16At (l : List Byte) (o : Nat) : Int := asSigned 16 (u16At l o)
/-- The signed 32-bit number at offset `o`. -/
def i32At (l : List Byte) (o : Nat) : Int := asSigned 32 (u32At l o)
/-- `n` bytes from offset `o` are all 0. -/
def zeroAt (l : List Byte) (o n : Nat) : Bool := ((l.drop o).take n).all (· == 0)

/-- `n` numbers of 4 bytes from the front of a byte string. -/
def words32 : Nat → List Byte → List Nat
  | 0, _ => []
  | n + 1, l => leNum (l.take 4) :: words32 n (l.drop 4)

/-- One bit of the CRC-32 register, least significant bit first. -/
def crcShift (x : Nat) : Nat := if x % 2 = 1 then (x / 2) ^^^ 0xEDB88320 else x / 2

/-- CRC-32 (R101, R331, R363). The spec names it without its polynomial: the one of IEEE 802.3 is PRESUMED (log entry 37). -/
def crc32 (l : List Byte) : Nat :=
  (l.foldl (fun x v => (List.range 8).foldl (fun y _ => crcShift y) (x ^^^ v.toNat)) 0xFFFFFFFF) ^^^ 0xFFFFFFFF

/-- Member `i` of a list of numbers, 0 where it has none. -/
def nth (l : List Int) (i : Nat) : Int := l.getD i 0

/-- The sum of a list. -/
def sumI (l : List Int) : Int := l.foldl (· + ·) 0

/-! ## Reset values -/

/-- The default priority of an event source (R391). -/
def defaultPrio (s : Nat) : Int :=
  if s < 128 then 3
  else if s < 133 then 5
  else if s < 144 then 0
  else if s < 150 then 5
  else if s < 160 then 0
  else if s < 172 then 7
  else if s < 174 then 6
  else if s < 175 then 7
  else if s < 192 then 6
  else if s < 210 then 4
  else if s < 212 then 2
  else if s = 212 then 5
  else if s = 213 then 3
  else if s = 214 then 7
  else if s = 215 then 4
  else if s < 218 then 2
  else if s < 224 then 3
  else if s = 224 then 7
  else if s = 225 then 5
  else if s < 229 then 7
  else if s < 231 then 6
  else if s = 231 then 7
  else if s < 237 then 4
  else if s = 237 then 3
  else if s = 238 then 4
  else if s = 239 then 2
  else if s = 240 then 6
  else if s = 241 then 1
  else if s < 245 then 6
  else if s = 245 then 3
  else if s = 246 then 4
  else if s < 251 then 5
  else if s = 251 then 6
  else 0

/-- A reserved event source (R391): its SRC register reads 0 (R405). -/
def reservedSource (s : Nat) : Bool :=
  (133 ≤ s && s ≤ 143) || (150 ≤ s && s ≤ 159) || (252 ≤ s)

/-- A source whose EN bit reads 1 and cannot be cleared (R391). -/
def fixedSource (s : Nat) : Bool :=
  (160 ≤ s && s ≤ 175) || s = 214 || (224 ≤ s && s ≤ 231) || s = 240 || s = 241 || s = 251

/-- Reset values that differ from one member of a group to the next, or that the tables give in words (log entry 10). -/
def resetSpecial (k : Key) : Option Int :=
  match k.grp with
  | .src =>
    if reservedSource k.i then some 0
    else if k = F.SRC_CFG_PRIO k.i then some (defaultPrio k.i) else none
  | .measSeq =>
    if k = F.SEQ_INPUT k.i then some k.i
    else if k = F.SEQ_KIND k.i then some (if k.i < 64 then 2 else 3) else none
  | .axs =>
    if k = F.AXS_I_CONT k.i then some (if k.i < 4 then 25000 else 8000)
    else if k = F.AXS_I_PEAK k.i then some (if k.i < 4 then 60000 else 20000)
    else if k = F.AXS_I2T k.i then some (if k.i < 4 then 235000 else 27200)
    else if k = F.AXS_CFG_FB_EN k.i then some (if k.i < 4 then 1 else 0)
    else if k = F.AXS_CFG_MODE k.i then some (if k.i < 4 then 2 else 0)
    else if k = F.AXS_STAT_BRK_ON k.i then some (if k.i < 4 then 1 else 0)
    else none
  | .sec => if k = F.SEC_OVL k.i then some 60000 else none
  | .pwr => if k = F.PWR_X1_OVL then some 270000 else none
  | _ => none

/-- The register-table row of a field, if the tables have it. -/
def rowOf (k : Key) : Option FieldRow :=
  (groupRows k.grp).find? (fun r => r.off == k.off && r.lo == k.lo)

/-- The value a field holds after reset. -/
def resetOf (k : Key) : Int :=
  match resetSpecial k with
  | some v => v
  | none => ((rowOf k).map (·.reset)).getD 0

/-! ## Register fields -/

/-- The value a register field holds. -/
def Bay.rd (b : Bay) (k : Key) : Int := b.regs.get (resetOf k) k

/-- The bay with one register field set. -/
def Bay.wr (b : Bay) (k : Key) (v : Int) : Bay := { b with regs := b.regs.put k v }

/-- A one-bit field as a truth value. -/
def Bay.flag (b : Bay) (k : Key) : Bool := b.rd k != 0

/-- Set a one-bit field. -/
def Bay.setFlag (b : Bay) (k : Key) (v : Bool) : Bay := b.wr k (if v then 1 else 0)

/-- A register field as a natural number. -/
def Bay.rdN (b : Bay) (k : Key) : Nat := (b.rd k).toNat

/-- An event sets a bit that software clears by writing 1, and the bus cycle in which it did is kept (R14). -/
def Bay.setSticky (b : Bay) (k : Key) : Bay := { b.wr k 1 with setT := b.setT.put k ((b.now : Int) + 1) }

/-- A write of 1 clears such a bit, but not in the bus cycle of the event that set it (R14). -/
def Bay.clearSticky (b : Bay) (k : Key) : Bay := if b.setT.get 0 k = (b.now : Int) + 1 then b else b.wr k 0

/-- Add to a counter that wraps at 2^32. -/
def Bay.bump32 (b : Bay) (k : Key) : Bay := b.wr k ((b.rd k + 1) % 4294967296)

/-- Add `n` to a counter that saturates at `m`. -/
def Bay.bumpSat (b : Bay) (k : Key) (n m : Int) : Bay := b.wr k (min m (b.rd k + n))

/-- Apply `f` when `c` holds. -/
def Bay.onlyIf (b : Bay) (c : Bool) (f : Bay → Bay) : Bay := if c then f b else b

/-- Apply `f` to each number of a list in turn. -/
def Bay.each (b : Bay) (l : List Nat) (f : Bay → Nat → Bay) : Bay := l.foldl f b

/-- A value the spec does not state: the next free value (log entry 1). -/
def Bay.free (b : Bay) : Int × Bay := (Config.freeValue b.fresh, { b with fresh := b.fresh + 1 })

/-- The members of a unit. -/
def Bay.stageOf (b : Bay) (c : Nat) : Stage := b.stage.get {} c
def Bay.setStage (b : Bay) (c : Nat) (x : Stage) : Bay := { b with stage := b.stage.put c x }
def Bay.driverOf (b : Bay) (d : Nat) : Driver := b.driver.get {} d
def Bay.setDriver (b : Bay) (d : Nat) (x : Driver) : Bay := { b with driver := b.driver.put d x }
def Bay.framOf (b : Bay) (n : Nat) : Fram := b.fram.get {} n
def Bay.setFram (b : Bay) (n : Nat) (x : Fram) : Bay := { b with fram := b.fram.put n x }
def Bay.borderOf (b : Bay) (c : Nat) : Border := b.border.get {} c
def Bay.setBorder (b : Bay) (c : Nat) (x : Border) : Bay := { b with border := b.border.put c x }
def Bay.cellTOf (b : Bay) (c : Nat) : Int × Int := b.cellT.get (0, 0) c
def Bay.setCellT (b : Bay) (c : Nat) (x : Int × Int) : Bay := { b with cellT := b.cellT.put c x }
def Bay.slotOf (b : Bay) (n : Nat) : SlotView := b.slotv.get {} n
def Bay.setSlot (b : Bay) (n : Nat) (x : SlotView) : Bay := { b with slotv := b.slotv.put n x }
def Bay.chanOf (b : Bay) (c : Nat) : Chan := b.chan.get {} c
def Bay.setChan (b : Bay) (c : Nat) (x : Chan) : Bay := { b with chan := b.chan.put c x }
def Bay.meansOf (b : Bay) (c : Nat) : Means := b.means.get {} c
def Bay.setMeans (b : Bay) (c : Nat) (x : Means) : Bay := { b with means := b.means.put c x }
def Bay.ringOf (b : Bay) (c : Nat) : Ring := b.ring.get {} c
def Bay.setRing (b : Bay) (c : Nat) (x : Ring) : Bay := { b with ring := b.ring.put c x }
def Bay.measChOf (b : Bay) (c : Nat) : MeasCh := b.measCh.get {} c
def Bay.setMeasCh (b : Bay) (c : Nat) (x : MeasCh) : Bay := { b with measCh := b.measCh.put c x }
def Bay.engOf (b : Bay) (c : Nat) : Eng := b.eng.get {} c
def Bay.setEng (b : Bay) (c : Nat) (x : Eng) : Bay := { b with eng := b.eng.put c x }
def Bay.groupOf (b : Bay) (g : Nat) : Group := b.groups.get {} g
def Bay.setGroup (b : Bay) (g : Nat) (x : Group) : Bay := { b with groups := b.groups.put g x }
def Bay.sweepOf (b : Bay) (c : Nat) : Sweep := b.sweep.get {} c
def Bay.setSweep (b : Bay) (c : Nat) (x : Sweep) : Bay := { b with sweep := b.sweep.put c x }
def Bay.loopChOf (b : Bay) (c : Nat) : LoopCh := b.loopCh.get {} c
def Bay.setLoopCh (b : Bay) (c : Nat) (x : LoopCh) : Bay := { b with loopCh := b.loopCh.put c x }
def Bay.loopAxOf (b : Bay) (a : Nat) : LoopAx := b.loopAx.get {} a
def Bay.setLoopAx (b : Bay) (a : Nat) (x : LoopAx) : Bay := { b with loopAx := b.loopAx.put a x }
def Bay.gradeOf (b : Bay) (c : Nat) : Option GradeVec := b.grade.get none c
def Bay.setGrade (b : Bay) (c : Nat) (x : Option GradeVec) : Bay := { b with grade := b.grade.put c x }
def Bay.send (b : Bay) (m : OutMsg) : Bay := { b with out := b.out ++ [m] }
def Bay.traceOf (b : Bay) (n : Nat) : Trace := b.trace.get {} n
def Bay.setTrace (b : Bay) (n : Nat) (x : Trace) : Bay := { b with trace := b.trace.put n x }
def Bay.waleSt (b : Bay) (n : Nat) : Wale := b.wale.get {} n
def Bay.setWale (b : Bay) (n : Nat) (x : Wale) : Bay := { b with wale := b.wale.put n x }
def Bay.axisOf (b : Bay) (a : Nat) : Axis := b.axis.get {} a
def Bay.setAxis (b : Bay) (a : Nat) (x : Axis) : Bay := { b with axis := b.axis.put a x }
def Bay.encOf (b : Bay) (p : Nat) : Enc := b.enc.get {} p
def Bay.setEnc (b : Bay) (p : Nat) (x : Enc) : Bay := { b with enc := b.enc.put p x }
def Bay.thermChOf (b : Bay) (c : Nat) : ThermCh := b.thermCh.get {} c
def Bay.setThermCh (b : Bay) (c : Nat) (x : ThermCh) : Bay := { b with thermCh := b.thermCh.put c x }

/-! ## Addresses -/

/-- The byte address of the register that holds a field, from the block bases and the tables of each chapter. -/
def keyAddr (k : Key) : Nat :=
  match k.grp with
  | .cfdObj => 0x2D1000 + k.i / 128 * 0x8000 + k.i % 128 * 0x80 + k.off
  | g => (groupSpan g).base + k.i * (groupSpan g).stride + k.off

/-! ## Presence (R3, R403) -/

/-- The BAY.SLOTS code of wale n. -/
def Bay.waleSlot (b : Bay) (n : Nat) : Int :=
  match n with
  | 0 => b.rd F.BAY_SLOTS_S0
  | 1 => b.rd F.BAY_SLOTS_S1
  | 2 => b.rd F.BAY_SLOTS_S2
  | _ => b.rd F.BAY_SLOTS_S3

/-- A section cartridge is fitted in slot Sn: EHS-16A or EHS-16S (R3, R403). -/
def Bay.walePresent (b : Bay) (n : Nat) : Bool := b.waleSlot n == 3 || b.waleSlot n == 4

/-- The cartridge of wale n is an EHS-16S (R2). -/
def Bay.waleIsS (b : Bay) (n : Nat) : Bool := b.waleSlot n == 4

/-- Slot X holds an EHX-6. -/
def Bay.xPresent (b : Bay) : Bool := b.rd F.BAY_SLOTS_X == 5

/-- Slot M holds an EHM-1. -/
def Bay.mPresent (b : Bay) : Bool := b.rd F.BAY_SLOTS_M == 6

/-- Continuous and short-term rating of X1 in W, by the order code (R2, R40, R51). -/
def Bay.x1Rating (b : Bay) : Int × Int :=
  if b.rd F.BAY_ID_ORDER = 2 then (33000, 39600) else if b.rd F.BAY_ID_ORDER = 3 then (25000, 30000) else (45000, 54000)

/-- Continuous and short-term rating of a section converter in W, by the cartridge fitted (R2, R51). -/
def Bay.convRating (b : Bay) (n : Nat) : Int × Int := if b.waleIsS n then (7000, 8400) else (10000, 12000)

/-- Continuous and short-term rating of the axis converter in W (R51). -/
abbrev axRating : Int × Int := (5000, 6000)

/-- The axis converter's cap in W (R51). -/
def Bay.axCap (b : Bay) : Int := if b.plant.axCont then axRating.1 else axRating.2

/-- A full overload budget in µJ: 30 s of the short-term over the continuous rating (R51). -/
def fullBudget (r : Int × Int) : Int := (r.2 - r.1) * 30000000

/-- A control cartridge is fitted: 0 is CA, 1 is CB. -/
def Bay.cPresent (b : Bay) (x : Nat) : Bool :=
  if x = 0 then b.rd F.BAY_SLOTS_CA == 2 else b.rd F.BAY_SLOTS_CB == 2

/-- The frames in a row after which a slot that reaches neither cartridge counts as silent (R17 gives no number; the 25 frames, 1 ms, of R245: DESIGN CHOICE, log entry 89). -/
abbrev silentAfter : Nat := 25

/-- Slot n has fallen silent (R17): none of its sample frames reaches a cartridge. -/
def Bay.slotSilent (b : Bay) (n : Nat) : Bool := decide (silentAfter ≤ (b.slotOf n).miss)

/-- Slot X holds an EHX-6 that has not fallen silent (R17). -/
def Bay.xServes (b : Bay) : Bool := b.xPresent && !b.slotSilent 4

/-- The wale of channel c (R16). -/
def waleOf (c : Nat) : Nat := c / 16

/-- The channels of wale n (R16). -/
def waleChans (n : Nat) : List Nat := (List.range 16).map (fun i => 16 * n + i)

/-- All channels of the bay. -/
def allChans : List Nat := List.range 64

/-! ## Modes (R382) -/

abbrev Mode.boot : Int := 1
abbrev Mode.attest : Int := 2
abbrev Mode.calibrate : Int := 3
abbrev Mode.standby : Int := 4
abbrev Mode.energized : Int := 5
abbrev Mode.forming : Int := 6
abbrev Mode.hold : Int := 7
abbrev Mode.degraded : Int := 8
abbrev Mode.safeStop : Int := 9
abbrev Mode.service : Int := 10
abbrev Mode.quarantine : Int := 11

/-- The mode in force (BAY.STAT.MODE; 0 while the bay is OFF). -/
def Bay.mode (b : Bay) : Int := b.rd F.BAY_STAT_MODE

/-! ## Events (R391 to R396) -/

/-- Set a bit of an engine's event word, visible at the second frame edge after `t` (R198). -/
def Bay.sendEvBit (b : Bay) (t eng bit : Nat) : Bay :=
  { b with evBits := b.evBits ++ [⟨(t / frameTicks + 2) * frameTicks, eng, bit⟩] }

/-- The order of R396 within one bay: time, then source, then sub. -/
def evBefore (x y : EvEntry) : Bool :=
  x.time < y.time || (x.time == y.time && (x.src < y.src || (x.src == y.src && x.sub < y.sub)))

/-- Insert an entry in the order of R396. -/
def insertEv (e : EvEntry) : List EvEntry → List EvEntry
  | [] => [e]
  | x :: r => if evBefore e x then e :: x :: r else x :: insertEv e r

/-- The entries with one time and source. -/
def sameTimeSrc (l : List EvEntry) (t s : Nat) : Nat :=
  (l.filter (fun e => e.time == t && e.src == s)).length

/-- The last entry, in the order of R396, of the lowest priority present, the oldest released entry left out (R395). -/
def victimOf (l : List EvEntry) : Option EvEntry :=
  let pool := match l with
    | e :: r => if e.released then r else l
    | [] => []
  pool.foldl (fun acc e =>
    match acc with
    | none => some e
    | some v => if e.prio ≤ v.prio then some e else some v) none

/-- Remove the first entry equal to `e`. -/
def removeEv (e : EvEntry) : List EvEntry → List EvEntry
  | [] => []
  | x :: r => if x = e then r else x :: removeEv e r

/-- The log holds this many entries, of which one place is kept for event 251 (R395). -/
abbrev logSize : Nat := 4096

/-- Count one lost entry and open an overflow episode with its event 251 (R395). -/
def Bay.loseEvent (b : Bay) : Bay :=
  let b := b.bumpSat F.EVT_STAT_LOST 1 65535
  if b.episode then b
  else { b with episode := true,
                log := insertEv ⟨b.now, 251, sameTimeSrc b.log b.now 251, b.rd (F.SRC_CFG_PRIO 251), 0, 0, false⟩ b.log }

/-- Enter an entry into the log in order; a full log replaces or drops (R394, R395). More than 32 entries of one time and source are lost (R392). -/
def Bay.logEvent (b : Bay) (t src : Nat) (prio detail value : Int) : Bay :=
  let sub := sameTimeSrc b.log t src
  if 32 ≤ sub then b.bumpSat F.EVT_STAT_LOST 1 65535
  else
    let e : EvEntry := ⟨t, src, sub, prio, detail, value, false⟩
    if b.log.length < logSize - 1 then { b with log := insertEv e b.log }
    else
      match victimOf b.log with
      | some v =>
        if v.prio < prio then ({ b with log := insertEv e (removeEv v b.log) }).loseEvent else b.loseEvent
      | none => b.loseEvent

/-- Deliver an entry to engine event words by EVT.SRCs_CFG (R393). -/
def Bay.routeEngine (b : Bay) (t src : Nat) : Bay :=
  if b.rd (F.SRC_CFG_ENG_EN src) = 0 then b
  else
    let e := b.rdN (F.SRC_CFG_ENG src)
    if e < 64 then b.sendEvBit t e 6
    else if e = 64 then
      b.each (allChans.filter (fun c => b.rd (F.ENG_STAT_STATE c) != 0)) (fun b c => b.sendEvBit t c 6)
    else b

/-- The capture of a lane that waits for this event source sees it (R262, KIND 4). -/
def Bay.traceEvent (b : Bay) (src : Nat) : Bay :=
  b.each (List.range 4) (fun b n =>
    if b.flag (F.TR_STAT_ARMED n) && b.rd (F.TR_CTL_KIND n) == 4 && b.rd (F.TR_CTL_ESRC n) == (src : Int) then
      b.setTrace n { b.traceOf n with evSeen := true }
    else b)

/-- A source detects an event at bay time `t` (R391 to R394). A channel source always sets bit 0 of its engine's event word (R198, R393). -/
def Bay.raiseAt (b : Bay) (t src : Nat) (detail value : Int) : Bay :=
  let b := if src < 64 then b.sendEvBit t src 0 else b
  if b.rd (F.SRC_CFG_EN src) = 0 then b
  else
    let was := b.episode
    let b := (((b.logEvent t src (b.rd (F.SRC_CFG_PRIO src)) detail value)).routeEngine t src).traceEvent src
    b.onlyIf (b.episode && !was) (fun b => (b.routeEngine b.now 251).traceEvent 251)

/-- A source detects an event now. -/
def Bay.raise (b : Bay) (src : Nat) (detail value : Int) : Bay := b.raiseAt b.now src detail value

/-- The configuration-error event of a refused write or command (R398): the address in VALUE, the reason in DETAIL. -/
def Bay.cfgErr (b : Bay) (addr : Nat) (reason : Int) : Bay := b.raise 241 reason addr

/-- The configuration-error event for a refused write of one field's register. -/
def Bay.refuse (b : Bay) (k : Key) (reason : Int) : Bay := b.cfgErr (keyAddr k) reason

/-- An event whose VALUE the spec does not state: a free value (log entry 1). -/
def Bay.raiseD (b : Bay) (src : Nat) (detail : Int) : Bay := (b.free.2).raise src detail b.free.1

/-- An event whose DETAIL and VALUE the spec does not state: free values (log entry 1). -/
def Bay.note (b : Bay) (src : Nat) : Bay := (b.free.2.free.2).raise src b.free.1 b.free.2.free.1

/-! ## What a write meets first (R3, R398, R399) -/

/-- The event source belongs to a slot that is empty or blank (R3, R391): channels and engines, wales, axes with the axis converter. -/
def Bay.absentSource (b : Bay) (s : Nat) : Bool :=
  if s < 128 then !b.walePresent (waleOf (s % 64))
  else if s < 132 then !b.walePresent (s - 128)
  else if s = 132 || (144 ≤ s && s < 150) then !b.xPresent
  else false

/-- The block of a field belongs to a slot that is empty or blank (R3). -/
def Bay.absentBlock (b : Bay) (k : Key) : Bool :=
  match k.grp with
  | .chn => !b.walePresent (waleOf k.i)
  | .loopCh => !b.walePresent (waleOf k.i)
  | .eng => !b.walePresent (waleOf k.i)
  | .engScr => !b.walePresent (waleOf (k.i / 256))
  | .eisCh => !b.walePresent (waleOf k.i)
  | .sec => !b.walePresent k.i
  | .src => b.absentSource k.i
  | .axs => !b.xPresent
  | .pos => !b.xPresent
  | .loopAx => !b.xPresent
  | .fric => !b.xPresent
  | .cog => !b.xPresent
  | _ => false

/-- The blocks that still take writes in QUARANTINE (R399): TRU and EVT, and CHNcc.REG_CTL.CELL_END. -/
def openInQuarantine (k : Key) : Bool :=
  match k.grp with
  | .tru => true
  | .auth => true
  | .enrBuf => true
  | .fwl => true
  | .quoteCA => true
  | .quoteCB => true
  | .cert => true
  | .evt => true
  | .src => true
  | _ => k = F.CHN_REG_CTL_CELL_END k.i

/-- Why a write of this field is not taken whatever it carries: an absent section (reason 7), BOOT or QUARANTINE (reason 6), in the order of R398. In OFF no write is taken either (R382). -/
def Bay.gate (b : Bay) (k : Key) : Option Int :=
  if b.absentBlock k then some 7
  else if b.mode = 0 || b.mode = Mode.boot then some 6
  else if b.mode = Mode.quarantine && !openInQuarantine k then some 6
  else none

/-- Do `f` for a command written to field `k`, unless the write is refused (R3, R399); a bay in OFF is unpowered and does not answer it (R382). -/
def Bay.gated (b : Bay) (k : Key) (f : Bay → Bay) : Bay :=
  if b.mode = 0 then b
  else
    match b.gate k with
    | some r => b.refuse k r
    | none => f b

/-! ## RWS shadows (R12, R13) -/

/-- The frame edge at which an RWS write that completes at `t` commits: the next one, or the one after it for a write in the last 1 µs (R13). -/
def commitEdge (t : Nat) : Nat :=
  if nextEdge t - t < usTicks then nextEdge t + frameTicks else nextEdge t

/-- Hold an RWS write until its edge; a second write before the commit replaces the first (R13). -/
def Bay.shadowWrite (b : Bay) (k : Key) (v : Int) : Bay :=
  { b with shadows := b.shadows.filter (fun s => !(s.key = k)) ++ [⟨k, v, commitEdge b.now⟩] }

/-- The value a read of an RWS field gives: the last value written (R12). -/
def Bay.rdShadow (b : Bay) (k : Key) : Int :=
  match b.shadows.find? (fun s => s.key = k) with
  | some s => s.val
  | none => b.rd k

/-- The held RWS writes that commit at bay time `t` (R13). -/
def Bay.dueKeys (b : Bay) (t : Nat) : List Shadow := b.shadows.filter (fun s => s.edge ≤ t)

end Sys2Proof.Machine
end

