-- ==== Sys2Proof/Machine/Records.lean ====
section
/-! DEFINITION. The cell record of a channel: the ring, its entries and their bytes, intervals and seals (R159 to R165, R464 to R466). -/

namespace Sys2Proof.Machine

/-- Slots of one channel's ring (R159). -/
abbrev ringSlots : Nat := 131072
/-- Fill at which WARN sets (R165). -/
abbrev ringWarn : Nat := 98304
/-- Fill at which the channel holds with cause 11 (R165). -/
abbrev ringNearFull : Nat := 130048
/-- Slots after which a seal falls due (R160). -/
abbrev sealBlock : Nat := 1014
/-- Slots of a seal (R160). -/
abbrev sealSlots : Nat := 10

/-- The bytes of a record entry, a whole number of 16-byte slots (R161 to R163). -/
def RecEntry.bytes : RecEntry → List Byte
  | .interval marks t v i dq => leBytes 1 1 ++ leBytes 1 marks ++ leBytes 2 t ++ leBytes 4 v ++ leBytes 4 i ++ leBytes 4 dq
  | .stepStart step zone mode tid time => leBytes 1 2 ++ leBytes 1 step ++ leBytes 1 zone ++ leBytes 1 mode ++ leBytes 4 tid ++ leBytes 8 time
  | .stepEnd cause also tmr time q e sft ext =>
    leBytes 1 3 ++ leBytes 1 cause ++ leBytes 2 also ++ leBytes 4 tmr ++ leBytes 8 time ++ leBytes 4 q ++ leBytes 4 e ++ leBytes 4 sft ++ leBytes 4 ext
  | .event kind detail value time => leBytes 1 4 ++ leBytes 1 kind ++ leBytes 2 detail ++ leBytes 4 value ++ leBytes 8 time
  | .mark tag value time => leBytes 1 5 ++ leBytes 1 0 ++ leBytes 2 tag ++ leBytes 4 value ++ leBytes 8 time
  | .cellStart time cid border image => leBytes 1 6 ++ leBytes 7 0 ++ leBytes 8 time ++ leBytes 8 cid ++ leBytes 4 border ++ leBytes 4 image
  | .cellEnd cause time => leBytes 1 7 ++ leBytes 1 cause ++ leBytes 6 0 ++ leBytes 8 time
  | .grading bytes => bytes
  | .spectrum bytes => bytes
  | .seal bytes => bytes

/-- Cut a byte string into 16-byte slots; `n` bounds how many. -/
def cutSlots : Nat → List Byte → List (List Byte)
  | 0, _ => []
  | n + 1, l => if l.isEmpty then [] else l.take 16 :: cutSlots n (l.drop 16)

/-- The slots of an entry. -/
def RecEntry.slots (e : RecEntry) : List (List Byte) := cutSlots 300 e.bytes

/-- Whether a full ring holds an entry back rather than dropping it (R165). A held cell-end seal stands as a seal without bytes: it is formed when its slots are reserved. -/
def RecEntry.kept : RecEntry → Bool
  | .cellEnd _ _ => true
  | .seal _ => true
  | _ => false

/-- The fill of a ring: written slots not yet released (R165). -/
def Ring.fill (r : Ring) : Nat := r.slots.length

/-- A cell is started on channel c (R160). -/
def Bay.cellOpen (b : Bay) (c : Nat) : Bool := b.flag (F.CHN_REG_STAT_CELL c)

/-- Bring the fill registers and their warnings up to date (R165). The channel event of the 75 % mark is raised when WARN sets. -/
def Bay.ringStat (b : Bay) (c : Nat) : Bay :=
  let n := (b.ringOf c).fill
  let was := b.flag (F.CHN_REC_STAT_WARN c)
  let b := ((b.wr (F.CHN_REC_FILL c) n).setFlag (F.CHN_REC_STAT_WARN c) (ringWarn ≤ n)).setFlag (F.CHN_REC_STAT_FULL c) (ringNearFull ≤ n)
  if ringWarn ≤ n && !was then b.note c else b

/-- Append slots to a ring. -/
def Ring.push (r : Ring) (ss : List (List Byte)) : Ring :=
  { r with slots := r.slots ++ ss, sinceSeal := r.sinceSeal + ss.length, block := r.block ++ ss.flatten }

/-- Reserve the ten slots of a seal that covers every slot since the previous one (R160, R466). -/
def Ring.reserveSeal (r : Ring) (now : Nat) (cellEnd : Bool) : Ring :=
  if r.sinceSeal = 0 then r
  else
    let flags := (if cellEnd then 1 else 0) + (if r.gapInSeal then 8 else 0)
    { r with
      sealDue := r.sealDue ++ [⟨r.pos + r.slots.length, r.sinceSeal, now, flags, r.block⟩]
      slots := r.slots ++ List.replicate sealSlots (List.replicate 16 0)
      sinceSeal := 0, block := [], gapInSeal := false }

/-- The slots an entry needs, with the seal it may bring just before it (R160). -/
def Ring.need (r : Ring) (e : RecEntry) : Nat :=
  e.slots.length + (if sealBlock < r.sinceSeal + e.slots.length then sealSlots else 0)

/-- A ring takes no entry now: full, entries held before it, or without room for this one (R159, R165). -/
def Ring.refuses (r : Ring) (e : RecEntry) : Bool := r.full || !r.held.isEmpty || decide (ringSlots < r.fill + r.need e)

/-- Write an entry for which there is room, with the seal it may bring just before it (R160). -/
def Ring.put (r : Ring) (now : Nat) (e : RecEntry) : Ring :=
  (if sealBlock < r.sinceSeal + e.slots.length then r.reserveSeal now false else r).push e.slots

/-- Count a dropped entry (R165). -/
def Bay.dropEntry (b : Bay) (c : Nat) : Bay :=
  let r := b.ringOf c
  (b.setRing c { r with full := true, gapDropped := min 65535 (r.gapDropped + 1) }).bumpSat (F.CHN_REC_STAT_DROPPED c) 1 255

/-- Write an entry to the ring of channel c; outside a started cell nothing is written (R160). No entry straddles a seal. A full ring drops the entry, or holds a cell-end entry back (R165). -/
def Bay.putEntry (b : Bay) (c : Nat) (e : RecEntry) : Bay :=
  if !b.cellOpen c then b
  else
    let r := b.ringOf c
    if r.refuses e then
      if e.kept then b.setRing c { r with full := true, held := r.held ++ [e] }
      else b.dropEntry c
    else (b.setRing c (r.put b.now e)).ringStat c

/-- The net charge of channel c, Q_IN + Q_OUT in nC (R120, R231). -/
def Bay.netQ (b : Bay) (c : Nat) : Int := b.rd (F.CHN_Q_IN c) + b.rd (F.CHN_Q_OUT c)

/-- The net energy of channel c in nJ. -/
def Bay.netE (b : Bay) (c : Nat) : Int := b.rd (F.CHN_E_IN c) + b.rd (F.CHN_E_OUT c)

/-- Start a new interval at bay time `t` (R162). -/
def Bay.openInterval (b : Bay) (c t : Nat) : Bay :=
  let r := b.ringOf c
  b.setRing c { r with ivT0 := t, ivQ0 := b.netQ c, ivV := 0, ivI := 0, ivN := 0, ivMarks := 0 }

/-- Time without a record (R165): `ticks` more of the gap, of which whole seconds count in LOST. -/
def Bay.loseTime (b : Bay) (c ticks : Nat) : Bay :=
  let r := b.ringOf c
  (b.setRing c { r with full := true, gapLost := r.gapLost + ticks }).bumpSat (F.CHN_REC_STAT_LOST c)
    (((r.gapLost + ticks) / secTicks - r.gapLost / secTicks : Nat) : Int) 65535

/-- Close the interval in progress and write its entry (R162, R164); in a ring without room its time is lost (R165). The rounding remainder of DQ carries. An interval that began at this very time has no length and no entry (log entry 88). -/
def Bay.closeInterval (b : Bay) (c : Nat) : Bay :=
  let r := b.ringOf c
  if !b.cellOpen c || r.ivT0 = b.now then b
  else
    let total := b.netQ c - r.ivQ0 + r.dqRem
    let dq := total.tdiv 1000
    let n : Int := if r.ivN = 0 then 1 else r.ivN
    let e : RecEntry := .interval r.ivMarks (b.rd (F.CHN_T_ZONE c)) (r.ivV.tdiv n) (r.ivI.tdiv n) dq
    let b :=
      if r.refuses e then b.loseTime c (b.now - r.ivT0)
      else (b.setRing c { r with dqRem := total - dq * 1000 }).putEntry c e
    b.openInterval c b.now

/-- Set a mark of the interval in progress (R164). -/
def Bay.markInterval (b : Bay) (c bit : Nat) : Bay :=
  let r := b.ringOf c
  b.setRing c { r with ivMarks := setBitN r.ivMarks bit }

/-- Write an event entry of a channel (R163). -/
def Bay.recEvent (b : Bay) (c : Nat) (kind detail value : Int) : Bay :=
  b.putEntry c (.event kind detail value b.now)

/-- Reserve a seal on the ring of channel c (R160, R466). Without room a cell-end seal is held; any other stays due and comes before the next entry (R159, R165). -/
def Bay.sealTrigger (b : Bay) (c : Nat) (cellEnd : Bool) : Bay :=
  let r := b.ringOf c
  if r.full || !r.held.isEmpty || ringSlots < r.fill + sealSlots then
    if cellEnd then b.setRing c { r with full := true, held := r.held ++ [.seal []] } else b
  else (b.setRing c (r.reserveSeal b.now cellEnd)).ringStat c

/-- End the cell of channel c: the interval in progress, a cell-end entry and a seal; the identifier then reads 0 (R156, R160). -/
def Bay.endCell (b : Bay) (c : Nat) (cause : Int) : Bay :=
  if !b.cellOpen c then b
  else
    let b := ((b.closeInterval c).putEntry c (.cellEnd cause b.now)).sealTrigger c true
    (b.setFlag (F.CHN_REG_STAT_CELL c) false).wr (F.CHN_CELL_ID c) 0

/-- Write what a ring held back, in order, as far as its room goes (R165). -/
def Ring.drain (r : Ring) (now : Nat) : List RecEntry → Ring
  | [] => { r with held := [] }
  | .seal s :: l => if ringSlots < r.fill + sealSlots then { r with held := .seal s :: l } else (r.reserveSeal now true).drain now l
  | e :: l => if ringSlots < r.fill + r.need e then { r with held := e :: l } else (r.put now e).drain now l

/-- The record-gap event of a gap that ends now (R163 KIND 8, R165). -/
def Ring.gapEvent (r : Ring) (now : Nat) : RecEntry := .event 8 r.gapDropped (r.gapLost / secTicks : Nat) now

/-- When space has returned to a full ring: at once the record-gap event, then what was held, as far as the room goes (R165). The seal that covers the gap event carries FLAGS [3] (R464). -/
def Bay.ringSpace (b : Bay) (c : Nat) : Bay :=
  let r := b.ringOf c
  let e := r.gapEvent b.now
  if r.full then
    if ringSlots < r.fill + r.need e then b
    else
      let r := { r.put b.now e with full := false, gapDropped := 0, gapLost := 0, gapInSeal := true }
      (b.setRing c (r.drain b.now r.held)).ringStat c
  else if r.held.isEmpty then b
  else (b.setRing c (r.drain b.now r.held)).ringStat c

/-- Release the first `n` slots of a ring (R22, R431). -/
def Bay.releaseSlots (b : Bay) (c n : Nat) : Bay :=
  let r := b.ringOf c
  let n := min n r.slots.length
  (b.setRing c { r with slots := r.slots.drop n, pos := r.pos + n }).ringStat c

end Sys2Proof.Machine
end

