-- ==== Sys2Proof/Machine/ChanOps.lean ====
section
/-! DEFINITION. What the families share about a channel: ratings and limits (R2, R71, R77, R91), the cell switch and its ramps (R84, R85), faults and their records (R99 to R103), HOLD (R153 to R155) and the steps of a channel (R139, R149, R225). -/

namespace Sys2Proof.Machine

/-! ## Stage codes and ratings -/

abbrev Stg.off : Int := 0
abbrev Stg.prebias : Int := 1
abbrev Stg.run : Int := 2
abbrev Stg.latchedOv : Int := 3
abbrev Stg.cellAbsent : Int := 4
abbrev Stg.safeOff : Int := 5
abbrev Stg.fault : Int := 6

/-- The channel rating in µA (R71; the cartridge in the slot decides, R2). -/
def Bay.chanRating (b : Bay) (c : Nat) : Int := if b.waleIsS (waleOf c) then 100000000 else 150000000

/-- The share of one phase in the channel limit, µA (R71). -/
def Bay.phaseShare (b : Bay) (c : Nat) : Int := if b.waleIsS (waleOf c) then 25000000 else 37500000

/-- The cycle-by-cycle peak limit of a phase, µA (R71). -/
def Bay.phasePeak (b : Bay) (c : Nat) : Int := if b.waleIsS (waleOf c) then 37000000 else 55000000

/-- The rating of one phase, µA (R71). -/
def Bay.phaseRating (b : Bay) (c : Nat) : Int := if b.waleIsS (waleOf c) then 27000000 else 40000000

/-- The healthy phases of a channel as a mask: not out of service and permitted (R91, R105 PH_EN). -/
def Bay.healthy (b : Bay) (c : Nat) : Nat := (b.rdN (F.CHN_STG_STAT_PH_OK c)) &&& (b.rdN (F.CHN_STG_CFG_PH_EN c))

/-- The channel limit from the healthy phases (R91). -/
def Bay.phaseLimit (b : Bay) (c : Nat) : Int := b.phaseShare c * countBits (b.healthy c) 4

/-- The ramp limit in force at bay time `t` (R84, R85). Without a ramp it is the channel rating. -/
def Bay.rampLimit (b : Bay) (c t : Nat) : Int :=
  let r := (b.stageOf c).ramp
  let rating := b.chanRating c
  let moved := rating * (t - r.t0 : Nat) / (max 1 r.ms * msTicks)
  if r.dir = 1 then min rating (r.fromI + moved)
  else if r.dir = -1 then max 0 (r.fromI - moved)
  else if r.dir = 2 then r.fromI
  else rating

/-- The low-voltage discharge limit (R77). -/
def dischargeLimit (rating v : Int) : Int :=
  if 1500000 ≤ v then rating
  else if 500000 ≤ v then rating / 10 + (rating * 9 * (v - 500000)) / 10000000
  else 0

/-- I_pos of R77. -/
def Bay.iPos (b : Bay) (c : Nat) : Int := min (b.rampLimit c b.now) (min (b.phaseLimit c) (b.chanRating c))

/-- I_neg of R77. -/
def Bay.iNeg (b : Bay) (c : Nat) : Int := min (b.iPos c) (dischargeLimit (b.chanRating c) (b.rd (F.CHN_V c)))

/-- The overvoltage threshold in µV (R87). -/
def Bay.vOv (b : Bay) (c : Nat) : Int :=
  if b.flag (F.CHN_REG_STAT_BORDER_OK c) then
    min 5500000 ((b.borderOf c).vMax + b.rd (F.CHN_STG_CFG_OV_MARGIN c) * 10000)
  else 5500000

/-- The cell switch is closed. -/
def Bay.switchClosed (b : Bay) (c : Nat) : Bool := b.flag (F.CHN_STG_STAT_CSW c)

/-- Some cell switch of wale n is closed. -/
def Bay.waleSwitchClosed (b : Bay) (n : Nat) : Bool := (waleChans n).any (fun c => b.switchClosed c)

/-- The clamp of R77 on the node reference: the reference after the clamp, whether it was lowered or raised, and the binding limit. -/
def Bay.clampRef (b : Bay) (c : Nat) : Bay :=
  let s := b.stageOf c
  let v := b.rd (F.CHN_V c)
  let rp := b.rd (F.CHN_RPATH c)
  let top := v + b.iPos c * rp / 1000000
  let ceil := b.vOv c - 50000
  let hi := min top ceil
  let lo := v - b.iNeg c * rp / 1000000
  let out := max lo (min hi s.vRefIn)
  let lowered := out < s.vRefIn
  let raised := s.vRefIn < out
  let lim := if raised then b.iNeg c
             else if lowered && ceil < top then max 0 ((ceil - v) * 1000000 / max 1 rp)
             else if 0 ≤ s.iTgt then b.iPos c else b.iNeg c
  let l := b.loopChOf c
  (((b.wr (F.CHN_NODE_REF c) out).setFlag (F.CHN_STG_STAT_LIM c) (lowered || raised)).wr (F.CHN_ILIM c) lim).setLoopCh c
    { l with clampLow := lowered, clampHigh := raised }

/-! ## Phases and shedding (R79, R80, R84, R91) -/

/-- The phase switch temperature of phase p, 0.01 °C. -/
def Bay.phaseT (b : Bay) (c p : Nat) : Int :=
  b.rd (match p with
    | 0 => F.CHN_PH_T01_P0 c
    | 1 => F.CHN_PH_T01_P1 c
    | 2 => F.CHN_PH_T23_P2 c
    | _ => F.CHN_PH_T23_P3 c)

/-- The phases of a mask. -/
def phasesOf (m : Nat) : List Nat := (List.range 4).filter (fun p => m.testBit p)

/-- The coolest healthy phase, the lowest-numbered among equals (R79). -/
def Bay.coolest (b : Bay) (c : Nat) : Nat :=
  ((phasesOf (b.healthy c)).foldl (fun (best : Option Nat) p =>
    match best with
    | none => some p
    | some q => if b.phaseT c p < b.phaseT c q then some p else some q) none).getD 0

/-- The qualification of shedding (R79): since when, without interruption, target and measured current of a running channel have been below 20 A. -/
def Bay.shedWatch (b : Bay) (c : Nat) : Bay :=
  let s := b.stageOf c
  let low := b.switchClosed c && !b.flag (F.CHN_STG_STAT_SHED c) && s.iTgt.natAbs < 20000000 && (b.rd (F.CHN_I c)).natAbs < 20000000
  b.setStage c { s with lowSince := if low then some (s.lowSince.getD b.now) else none }

/-- One phase alone in the rotation, the coolest healthy one; the others have both switches off (R79, R84; log entry 81). -/
def Bay.onePhase (b : Bay) (c : Nat) : Bay :=
  let k := b.coolest c
  let d := b.driverOf c
  let b := (b.wr (F.CHN_STG_STAT_PH_ACT c) (if b.healthy c = 0 then 0 else (2 ^ k : Nat))).setStage c { b.stageOf c with kept := k }
  b.setDriver c { d with legs := (List.range 4).map (fun p => if p = k then d.legs.getD p .off else .off) }

/-- All healthy phases join the rotation; a new shed needs a fresh 1 ms (R80). -/
def Bay.reinstate (b : Bay) (c : Nat) : Bay :=
  let b := (b.setFlag (F.CHN_STG_STAT_SHED c) false).wr (F.CHN_STG_STAT_PH_ACT c) (b.healthy c)
  b.setStage c { b.stageOf c with lowSince := none }

/-- The trim register of phase `p` (TRIM_P0 to TRIM_P3). -/
def trimKey (c p : Nat) : Key :=
  match p with
  | 0 => F.CHN_TRIM_P0 c
  | 1 => F.CHN_TRIM_P1 c
  | 2 => F.CHN_TRIM_P2 c
  | _ => F.CHN_TRIM_P3 c

/-- The trim of phase p becomes 0 (R78, R90). -/
def Bay.zeroTrim (b : Bay) (c p : Nat) : Bay :=
  let s := b.stageOf c
  (b.setStage c { s with trims := s.trims.set p 0 }).wr (trimKey c p) 0

/-! ## Faults and fault records (R99 to R105) -/

/-- The ramp limit moves or holds below the rating (R84, R101 FLAGS [2]): a rise ends when it reaches the channel rating. -/
def Bay.rampActive (b : Bay) (c : Nat) : Bool :=
  (b.stageOf c).ramp.dir != 0 && !((b.stageOf c).ramp.dir == 1 && decide (b.chanRating c ≤ b.rampLimit c b.now))

/-- The FRAM record of a channel fault (R101). The values are those the stage last measured. -/
def Bay.faultRecord (b : Bay) (c : Nat) (cause detail : Nat) : FramRec :=
  let s := b.stageOf c
  let n := waleOf c
  { cause := cause, seq := 0, time := b.now, local_ := c % 16, stage := b.rd (F.CHN_STG_STAT_STAGE c)
    phases := b.rd (F.CHN_STG_STAT_PH_ACT c) * 16 + b.healthy c
    flags := (b.rd (F.CHN_STG_STAT_SHED c)) + (if s.fireAt ≠ 0 ∧ b.now ≤ s.fireAt + 10 * usTicks then 2 else 0)
      + (if b.rampActive c then 4 else 0) + (if (b.slotOf n).holder = 2 then 8 else 0) + (if b.flag F.BAY_STAT_HOLD_RT then 16 else 0)
    iCh := b.rd (F.CHN_I c), vNode := b.rd (F.CHN_NODE_V c), vSense := b.rd (F.CHN_V c), vRef := b.rd (F.CHN_NODE_REF c)
    vBus := b.rd (F.SEC_BUS_V n)
    iPh := [b.rd (F.CHN_PH_I01_P0 c), b.rd (F.CHN_PH_I01_P1 c), b.rd (F.CHN_PH_I23_P2 c), b.rd (F.CHN_PH_I23_P3 c)]
    tPh := [b.rd (F.CHN_PH_T01_P0 c), b.rd (F.CHN_PH_T01_P1 c), b.rd (F.CHN_PH_T23_P2 c), b.rd (F.CHN_PH_T23_P3 c)]
    tCell := [(b.cellTOf c).1, (b.cellTOf c).2]
    trim := [b.rd (F.CHN_TRIM_P0 c), b.rd (F.CHN_TRIM_P1 c), b.rd (F.CHN_TRIM_P2 c), b.rd (F.CHN_TRIM_P3 c)]
    vcp := [b.rd (F.CHN_CP_V_P0 c), b.rd (F.CHN_CP_V_P1 c), b.rd (F.CHN_CP_V_P2 c), b.rd (F.CHN_CP_V_P3 c)]
    vcpSw := b.rd (F.CHN_CP_SW_VAL c), detail := detail, onT := b.rd (F.CHN_ON_T_VAL c), iHist := s.iHist, vHist := s.vHist }

/-- Queue a record in the section modulator; the 25th waiting record is dropped and counted (R103). -/
def Bay.queueRecord (b : Bay) (n : Nat) (r : FramRec) : Bay :=
  let m := b.framOf n
  if 24 ≤ m.queue.length then
    (b.setFram n { m with lostHdr := min 65535 (m.lostHdr + 1) }).bumpSat (F.SEC_FRAM_STAT_LOST n) 1 255
  else
    let q := m.queue ++ [r]
    ((b.setFram n { m with queue := q }).wr (F.SEC_FRAM_STAT_QUEUED n) q.length).setFlag (F.SEC_FRAM_STAT_BUSY n) true

/-- A wale record: the channel fields are 0 (R101). -/
def Bay.waleRecord (b : Bay) (n cause : Nat) : Bay :=
  b.queueRecord n
    { cause := cause, seq := 0, time := b.now, local_ := 255, stage := 0, phases := 0
      flags := (if (b.slotOf n).holder = 2 then 8 else 0) + (if b.flag F.BAY_STAT_HOLD_RT then 16 else 0)
      iCh := 0, vNode := 0, vSense := 0, vRef := 0, vBus := b.rd (F.SEC_BUS_V n), iPh := [], tPh := [], tCell := [], trim := []
      vcp := [], vcpSw := 0, detail := 255, onT := 0, iHist := [], vHist := [] }

/-- A latch, a fault or an out-of-service mark is set on channel c (R105). -/
def Bay.faultStands (b : Bay) (c : Nat) : Bool :=
  let s := b.stageOf c
  s.ov || s.absent || s.faulted || b.rd (F.CHN_STG_STAT_PH_OK c) != 15

/-- A cause of R102 on a channel: CHNcc.FLT, one FRAM record, the channel event, the event entry of the record (R163 KIND 6). A second cause beside a standing one goes to SECOND (R99); DETAIL is that of CAUSE. `detail` is the phase, 255 for none. -/
def Bay.chanFault (b : Bay) (c : Nat) (cause detail : Nat) : Bay :=
  let second := b.faultStands c
  let r := b.faultRecord c cause detail
  let b := b.bumpSat (F.CHN_FLT_COUNT c) 1 255
  let b := if second then b.wr (F.CHN_FLT_SECOND c) cause
           else ((b.wr (F.CHN_FLT_CAUSE c) cause).wr (F.CHN_FLT_SECOND c) 0).wr (F.CHN_FLT_DETAIL c) (if detail = 255 then 0 else detail)
  let b := b.setFlag (F.CHN_STG_STAT_CLR_ARMED c) false
  ((b.queueRecord (waleOf c) r).raiseD c cause).recEvent c 6 cause 0

/-! ## Cell switch (R84, R85) -/

/-- Bring BORDER_OK and the border in force up to date: the stored border table CHNcc.BORDER names. While the switch is closed the table in force stays (R140, R213). -/
def Bay.refreshBorder (b : Bay) (c : Nat) : Bay :=
  if b.switchClosed c then b
  else
    match b.images.find? (fun m => m.id == b.rd (F.CHN_BORDER c) && m.kind == 3 && !b.revoked.contains m.id) with
    | some ⟨_, _, _, _, _, _, .border t⟩ => (b.setBorder c t).setFlag (F.CHN_REG_STAT_BORDER_OK c) true
    | _ => b.setFlag (F.CHN_REG_STAT_BORDER_OK c) false

/-- Open the cell switch and leave the given stage state; no phase stays in rotation, and both switches of every leg are off (R84, R85, R87). -/
def Bay.openSwitch (b : Bay) (c : Nat) (stage : Int) : Bay :=
  let s := b.stageOf c
  let m := b.measChOf c
  let d := b.driverOf c
  let b := (((b.setFlag (F.CHN_STG_STAT_CSW c) false).wr (F.CHN_STG_STAT_STAGE c) stage).wr (F.CHN_STG_STAT_PH_ACT c) 0).setFlag (F.CHN_STG_STAT_SHED c) false
  let b := b.setStage c { s with softStop := false, ramp := {}, lowSince := none, stopReq := false, rampReq := none, cot := { s.cot with emu := [0, 0, 0, 0], sums := [], onEnd := [0, 0, 0, 0] } }
  let b := (b.setMeasCh c { m with openSince := some b.now, switchT := b.now }).setDriver c { d with csw := false, legs := [.off, .off, .off, .off] }
  b.refreshBorder c

/-- The safe-off pair of wale n is dropped as its stage sees it (R20, R98). -/
def Bay.safeOffNow (b : Bay) (n : Nat) : Bool := (b.waleSt n).dropped

/-- Drive every leg of a channel's driver to one state (R87, R89, R96, R98). Under a dropped safe-off pair and behind a lost link every switch stays off (R29, R96, R98). -/
def Bay.allLegs (b : Bay) (c : Nat) (x : Leg) : Bay :=
  let x := if b.safeOffNow (waleOf c) || (b.driverOf c).lost then .off else x
  b.setDriver c { b.driverOf c with legs := [x, x, x, x] }

/-- The stage ramps the channel to zero current within `ms`, counted for the rating, from the present current (R30, R46, R85, R388). -/
def Bay.stageRamp (b : Bay) (c : Nat) (ms : Int) : Bay :=
  if !b.switchClosed c then b
  else
    let s := b.stageOf c
    b.setStage c { s with ramp := ⟨-1, Int.natAbs (b.rd (F.CHN_I c)), b.now, ms⟩ }

/-- The stage acts on a request to open (R84, R85): in PREBIAS the pre-bias ends at once; a closed switch soft-stops, the ramp limit falling at rating / T_RAMP, or within `ms` where the ramp request says so. -/
def Bay.stageStop (b : Bay) (c : Nat) (ms : Option Int) : Bay :=
  let s := b.stageOf c
  if b.rd (F.CHN_STG_STAT_STAGE c) = Stg.prebias then b.openSwitch c Stg.off
  else if b.switchClosed c && (!s.softStop || ms.isSome) then
    (b.setStage c { s with softStop := true }).stageRamp c (ms.getD (b.rd (F.CHN_STG_CFG_T_RAMP c)))
  else b

/-- The open request and the ramp request of command frame 3 act in the stage (R72). -/
def Bay.actRequests (b : Bay) (c : Nat) : Bay :=
  let s := b.stageOf c
  let b := if s.stopReq || s.rampReq.isSome then b.setStage c { s with stopReq := false, rampReq := none } else b
  if s.stopReq then b.stageStop c s.rampReq
  else
    match s.rampReq with
    | some ms => b.stageRamp c ms
    | none => b

/-- Ask the stage to ramp to zero current within `ms`, counted for the rating; command frame 3 carries it (R46, R72, R388). -/
def Bay.rampDown (b : Bay) (c : Nat) (ms : Int) : Bay := b.setStage c { b.stageOf c with rampReq := some ms }

/-- Ask the stage for a soft stop; command frame 3 carries it (R72, R85). -/
def Bay.softStop (b : Bay) (c : Nat) : Bay := b.setStage c { b.stageOf c with stopReq := true, cswReq := false }

/-- Ask the stage to ramp to zero within 2 ms and to open by soft stop (R166, R388). -/
def Bay.quickStop (b : Bay) (c : Nat) : Bay := (b.softStop c).rampDown c 2

/-! ## HOLD (R153 to R155) -/

/-- The mode a channel shows: HOLD while a cause holds it, else its step's mode (R136). -/
def Bay.syncMode (b : Bay) (c : Nat) : Bay :=
  let x := b.chanOf c
  (b.wr (F.CHN_REG_STAT_MODE c) (if x.holds.isEmpty then x.par.mode else 0)).wr (F.CHN_REG_STAT_HOLD_CAUSE c)
    ((x.holds.foldl (fun m k => if m = 0 || k < m then k else m) 0 : Nat) : Int)

/-- End a legacy top-off or watch (R156, R158). -/
def Bay.endWatch (b : Bay) (c : Nat) : Bay :=
  (b.setFlag (F.CHN_REG_STAT_WATCH c) false).setFlag (F.CHN_REG_STAT_TOPOFF c) false

/-- End the sweep of a channel early with an END code (R181, R182): the remaining points are void, the spectrum is written where the table asks for it, and event 236 names the channel and the END cause. -/
def Bay.endSweepEarly (b : Bay) (c : Nat) (code : Int) : Bay :=
  if !b.flag (F.EISCH_STAT_RUN c) then b
  else
    let w := b.sweepOf c
    let b := ((b.setFlag (F.EISCH_STAT_RUN c) false).setFlag (F.EISCH_STAT_SETTLE c) false).wr (F.EISCH_STAT_END c) code
    let b := b.wr (F.EISCH_STAT_PFLAGS c) 128
    let b := b.wr F.EIS_STAT_SWEEPING (b.rd F.EIS_STAT_SWEEPING - 1)
    let tbl := b.images.find? (fun m => m.id == w.table && m.kind == 5)
    let b := match tbl with
      | some ⟨_, _, _, _, _, _, .sweep fl _ _ pts⟩ =>
        if bitOf fl 0 then
          let done := w.results
          let voids := ((List.range pts.length).drop done.length).map (fun i => (⟨0, 0, 0, 0, i, 128⟩ : PointRes))
          let all := done ++ voids
          let head := leBytes 1 9 ++ leBytes 1 all.length ++ leBytes 1 all.length ++ leBytes 1 0 ++ leBytes 4 w.table ++ leBytes 8 w.edge
          b.putEntry c (.spectrum (head ++ (all.map (fun (p : PointRes) =>
            leBytes 4 p.f ++ leBytes 4 p.zre ++ leBytes 4 p.zim ++ leBytes 2 p.amp ++ leBytes 1 p.idx ++ leBytes 1 p.flags)).flatten))
        else b
      | _ => b
    let b := b.setSweep c { req := w.req, table := w.table, host := w.host, edge := w.edge, vecDue := w.vecDue }
    (b.raise 236 c code).sendEvBit b.now c 4

/-- Why a HOLD cause ends a sweep: cell absence 3, a safe action or SAFE-STOP 6, every other HOLD 2 (R181, R188). -/
def sweepEndOf (cause : Nat) : Int := if cause = 4 then 3 else if cause = 10 || cause = 12 then 6 else 2

/-- Withdraw the DONATE call and offer of a channel (R61, R156). -/
def Bay.endDonation (b : Bay) (c : Nat) : Bay :=
  b.setMeans c { b.meansOf c with donCall := 0, offer := 0 }

/-- Put a channel in HOLD with one more cause (R153 to R155): the record's event, the engine's event-word bit 3, the end of a watch and of a sweep. -/
def Bay.hold (b : Bay) (c cause : Nat) : Bay :=
  let x := b.chanOf c
  if x.holds.contains cause then b
  else
    let b := b.setChan c { x with holds := x.holds ++ [cause] }
    let b := if x.holds.isEmpty then b.sendEvBit b.now c 3 else b
    let b := (b.setFlag (F.CHN_REG_STAT_WATCH c) false).setFlag (F.CHN_REG_STAT_CLR_ARMED c) false
    let b := b.endSweepEarly c (sweepEndOf cause)
    let b := if 3 ≤ cause && cause ≤ 8 then b.endDonation c else b
    ((b.recEvent c 2 cause 0).markInterval c 7).syncMode c

/-- A channel without a step in force rests while its engine serves it, and holds as programmed otherwise (R139, R154). -/
def Bay.settle (b : Bay) (c : Nat) : Bay :=
  let x := b.chanOf c
  if x.live || !x.holds.isEmpty then b
  else if b.rd (F.ENG_STAT_STATE c) != 0 || x.src = .host then
    (b.setChan c { x with par := { mode := 1 } }).syncMode c
  else b.hold c 1

/-- Leave one HOLD cause; the channel leaves HOLD when none is left (R155), and the mode that takes effect presets the voltage integrator (R257). After cause 12 a channel without new targets holds with cause 1 (R154). -/
def Bay.leave (b : Bay) (c cause : Nat) : Bay :=
  let x := b.chanOf c
  if !x.holds.contains cause then b
  else
    let b := b.setChan c { x with holds := x.holds.filter (fun k => k != cause) }
    let b := (b.recEvent c 3 cause 0).syncMode c
    let b := b.onlyIf (b.chanOf c).holds.isEmpty (fun b => b.setLoopCh c { b.loopChOf c with presetV := true })
    if cause = 12 && !x.live && (b.chanOf c).holds.isEmpty then b.hold c 1 else b.settle c

/-! ## Steps (R139, R149, R151, R225) -/

/-- The HOLD cause that a step-end code of 1 to 6 brings: those without a cause of their own hold as programmed (R149, R154; log entry 21). -/
def holdOfEnd (code : Nat) : Nat :=
  if code = 1 then 4 else if code = 4 then 3 else if code = 6 then 8 else 1

/-- End the step in force (R149): CHNcc.STEP_END, the step-end entry, bit 2 of the event word; codes 1 to 6 hold the channel and raise its event. Border and safe-action ends hold by the cause that brought them. -/
def Bay.endStep (b : Bay) (c code : Nat) (also : Int) : Bay :=
  let x := b.chanOf c
  if !x.live then b
  else
    let b := (b.wr (F.CHN_STEP_END_CAUSE c) code).wr (F.CHN_STEP_END_ALSO c) also
    let q := (b.netQ c - x.stepQ0).tdiv 3600000
    let e := (b.netE c - x.stepE0).tdiv 3600000
    let b := b.putEntry c (.stepEnd code also (b.rd (F.CHN_TMR c)) b.now q e (b.rd (F.CHN_SFT c)) (b.rd (F.CHN_SFT_EXT c)))
    let b := b.setChan c { x with live := false, ramp := none, toRest := true }
    let b := (b.setFlag (F.CHN_REG_STAT_QUALIFYING c) false).setFlag (F.CHN_REG_STAT_TOPOFF c) false
    let b := b.sendEvBit b.now c 2
    if 6 < code then b
    else
      let b := b.note c
      if code = 3 || code = 5 then b else b.hold c (holdOfEnd code)

/-- The TABLE_ID and STEP a step-start entry carries (R163). -/
def StepSrc.ids : StepSrc → Int × Int
  | .none => (0, 255)
  | .table id s => (id, s)
  | .direct t => (t, 255)
  | .host => (0, 255)

/-- The step-start entry of the step in force (R160, R163). -/
def Bay.recStepStart (b : Bay) (c : Nat) : Bay :=
  let x := b.chanOf c
  let b := b.closeInterval c
  b.putEntry c (.stepStart x.src.ids.2 (b.rd (F.CHN_REG_STAT_ZONE c)) x.par.mode x.src.ids.1 x.stepT0)

/-- Set the counters of a step to their start (R151, R158, R225, R232). -/
def Bay.zeroTimers (b : Bay) (c : Nat) : Bay :=
  let b := (((b.wr (F.CHN_TMR c) 0).wr (F.CHN_SFT c) 0).wr (F.CHN_SFT_EXT c) 0).wr (F.CHN_QUAL c) 0
  ((b.setFlag (F.CHN_REG_STAT_TRM c) false).setFlag (F.CHN_REG_STAT_LIM c) false).setFlag (F.CHN_REG_STAT_TO c) false

/-- A step takes effect on a channel (R139, R151, R225, R232): the step in force ends with cause 11, the timers start from 0, the step-start entry is written, the voltage integrator is preset (R257). A call for donation ends with REST and HOLD (R62). Every mode but HOLD requests the switch closed. -/
def Bay.takeStep (b : Bay) (c : Nat) (p : Params) (src : StepSrc) (leg : LegHdr) : Bay :=
  let b := (b.endStep c 11 1024).endWatch c
  let b := b.zeroTimers c
  let x := b.chanOf c
  let st := b.stageOf c
  let b := b.setChan c { x with par := p, src := src, live := true, leg := leg, secondLevel := false, levelT0 := b.now, ramp := none,
                                 topMs := 0, watchMs := 0, watchSpent := false, stepT0 := b.now, stepQ0 := b.netQ c, stepE0 := b.netE c,
                                 toRest := false, needNewCell := false, stored := st.ov || st.absent || st.faulted || x.holds.any (fun k => 3 ≤ k) }
  let b := (b.wr (F.CHN_REG_STAT_STEP c) (match src with | .table _ s => s | _ => 0)).wr (F.CHN_LEG_CNT c) 0
  let b := b.setFlag (F.CHN_REG_STAT_DIRECT c) (src = .host)
  let b := (b.recStepStart c).setLoopCh c { b.loopChOf c with presetV := true }
  let b := if p.mode ≤ 1 then b else b.endDonation c
  if p.mode = 0 then (b.hold c 1).syncMode c
  else
    let b := b.setStage c { b.stageOf c with cswReq := true, stopReq := false }
    (b.leave c 1).syncMode c

end Sys2Proof.Machine
end

