-- ==== Sys2Proof/Machine/EngOps.lean ====
section
/-! DEFINITION. What the families share about engines, images and border tests: engine states (R192 to R195), freezing (R205), stored images (R207 to R213) and the test of a step against the border table (R142). -/

namespace Sys2Proof.Machine

abbrev Es.stopped : Int := 0
abbrev Es.running : Int := 1
abbrev Es.waiting : Int := 2
abbrev Es.paused : Int := 3
abbrev Es.halted : Int := 4
abbrev Es.frozen : Int := 5
abbrev Es.starting : Int := 6

/-- The state of engine c (R192). -/
def Bay.engState (b : Bay) (c : Nat) : Int := b.rd (F.ENG_STAT_STATE c)

/-- An engine runs on the channel, in the sense of R23, R105 and R166: its state is not STOPPED (log entry 22). -/
def Bay.engRuns (b : Bay) (c : Nat) : Bool := b.engState c != Es.stopped

/-- Set the state of engine c and the count of engines not STOPPED (SKN.STAT.ACTIVE). -/
def Bay.setEngState (b : Bay) (c : Nat) (st : Int) : Bay :=
  let was := b.engState c
  let n := b.rd F.SKN_STAT_ACTIVE
  let n := if was = Es.stopped && st ≠ Es.stopped then n + 1 else if was ≠ Es.stopped && st = Es.stopped then n - 1 else n
  (b.wr F.SKN_STAT_ACTIVE n).wr (F.ENG_STAT_STATE c) st

/-! ## Images (R207, R213) -/

/-- The stored image of an ID and KIND. -/
def Bay.findImage (b : Bay) (id : Int) (kind : Nat) : Option Image :=
  b.images.find? (fun m => m.id == id && m.kind == kind)

/-- The stored image of an ID, of any kind. -/
def Bay.imageOf (b : Bay) (id : Int) : Option Image := b.images.find? (fun m => m.id == id)

/-- The stored and verified image of an ID and KIND: a revoked one no longer counts (R461). -/
def Bay.verifiedImage (b : Bay) (id : Int) (kind : Nat) : Option Image :=
  if b.revoked.contains id then none else b.findImage id kind

/-- The zoned table of an ID. -/
def Bay.zonedOf (b : Bay) (id : Int) : Option Zoned :=
  match b.findImage id 2 with
  | some ⟨_, _, _, _, _, _, .zoned t⟩ => some t
  | _ => none

/-- The program of engine c's image: entry points, code, constants, references (R210). -/
def Bay.programOf (b : Bay) (id : Int) : Option (List Int × List Nat × List Nat × List Int) :=
  match b.findImage id 1 with
  | some ⟨_, _, _, _, _, _, .program e code k r⟩ => some (e, code, k, r)
  | _ => none

/-- The references of an image. -/
def Image.refs (m : Image) : List Int :=
  match m.payload with
  | .program _ _ _ r => r
  | _ => []

/-- An ID is in use (R213): the image of an engine that is not STOPPED, referenced by one, the border of a closed switch, or the table of a sweep in progress. -/
def Bay.idInUse (b : Bay) (id : Int) : Bool :=
  allChans.any (fun c =>
    (b.engRuns c && ((b.engOf c).image == id ||
      match b.findImage (b.engOf c).image 1 with
      | some m => m.refs.contains id
      | none => false)) ||
    (b.switchClosed c && b.rd (F.CHN_BORDER c) == id) ||
    (b.flag (F.EISCH_STAT_RUN c) && (b.sweepOf c).table == id))

/-! ## Border tests (R142, R227) -/

/-- Charging is permitted (R141 FLAGS [0]). -/
def Border.mayCharge (t : Border) : Bool := bitOf t.flags 0
/-- Discharging is permitted (R141 FLAGS [1]). -/
def Border.mayDischarge (t : Border) : Bool := bitOf t.flags 1

/-- The offset of the border field a current fails, if it fails (R142, R227). -/
def Border.failCurrent (t : Border) (i : Int) : Option Nat :=
  if 0 < i then
    if !t.mayCharge then some 0x02 else if t.iChg < i then some 0x0C else none
  else if i < 0 then
    if !t.mayDischarge then some 0x02 else if t.iDis < -i then some 0x10 else none
  else none

/-- The larger permitted current limit (R227). -/
def Border.largerLimit (t : Border) : Int :=
  max (if t.mayCharge then t.iChg else 0) (if t.mayDischarge then t.iDis else 0)

/-- A magnitude within the larger permitted current limit (R227). -/
def Border.failMagnitude (t : Border) (i : Int) : Option Nat :=
  if t.largerLimit < i.natAbs then some (if t.mayCharge && (t.iDis ≤ t.iChg || !t.mayDischarge) then 0x0C else 0x10) else none

/-- A voltage limit within V_MIN and V_MAX (R227). -/
def Border.failVolt (t : Border) (v : Int) : Option Nat :=
  if t.vMax < v then some 0x04 else if v < t.vMin then some 0x08 else none

/-- A charging step (R142). -/
def Border.charging (t : Border) (p : Params) : Bool :=
  match p.mode with
  | 2 => 0 < p.set
  | 3 => t.mayCharge
  | 4 => 0 < p.set
  | 5 => 0 < p.set
  | 7 => 0 < p.set || 0 < p.aux
  | _ => false

/-- The safety timer of a charging step (R142). -/
def Border.failSafe (t : Border) (p : Params) : Option Nat :=
  if t.charging p && (p.tsafe ≤ 0 || t.sftMax < p.tsafe) then some 0x20 else none

/-- The limits of a step by its mode (R142, R227); 0xFFFF names no single field. -/
def Border.failMode (t : Border) (p : Params) : Option Nat :=
  match p.mode with
  | 2 => t.failCurrent p.set <|> t.failVolt p.vlim
  | 3 => t.failVolt p.vlim <|> t.failMagnitude p.aux
  | 4 => t.failCurrent p.set <|> t.failVolt p.vlim
  | 5 => (if t.pMax < p.set.natAbs then some 0x14 else none)
      <|> (if (0 < p.set && !t.mayCharge) || (p.set < 0 && !t.mayDischarge) then some 0x02 else none)
      <|> t.failVolt p.vlim <|> t.failMagnitude p.aux
  | 6 => (if p.set ≤ 0 then some 0xFFFF else none)
      <|> (if !t.mayDischarge then some 0x02 else none)
      <|> (if t.iDis < p.aux.natAbs then some 0x10 else none) <|> t.failVolt p.vlim
  | 7 => t.failCurrent p.set <|> t.failCurrent p.aux <|> t.failVolt p.vlim
  | _ => none

/-- The whole test of a step against a border table (R142). -/
def Border.failStep (t : Border) (p : Params) : Option Nat := t.failMode p <|> t.failSafe p

/-- Test a step on channel c; without a border in force every step but HOLD and REST fails. -/
def Bay.failStep (b : Bay) (c : Nat) (p : Params) : Option Nat :=
  if p.mode ≤ 1 then none
  else if b.flag (F.CHN_REG_STAT_BORDER_OK c) then (b.borderOf c).failStep p else some 0xFFFF

/-! ## Zones (R147, R232) -/

/-- The zone of a temperature without hysteresis (R232). -/
def Zoned.zoneOf (t : Zoned) (tz : Int) : Int :=
  ((t.bound.take (t.nzone - 1)).filter (fun x => x ≤ tz)).length

/-- The entry of a zone and step (R144). -/
def Zoned.entry (t : Zoned) (z s : Int) : Params := t.steps.getD (z.toNat * t.nstep + s.toNat) {}

/-- The zone after an update of T_Z from zone z (R147): up while T_Z is at or above the boundary, down while it is below the boundary less the hysteresis. -/
def Zoned.moveZone (t : Zoned) (tz : Int) : Nat → Int → Int
  | 0, z => z
  | n + 1, z =>
    if z.toNat + 1 < t.nzone ∧ t.bound.getD z.toNat 32767 ≤ tz then t.moveZone tz n (z + 1)
    else if 0 < z ∧ tz < t.bound.getD (z.toNat - 1) 32767 - t.hyst then t.moveZone tz n (z - 1)
    else z

/-! ## What engines see of their channels (R197) -/

/-- The registers of a channel that engines read as at the last frame edge: its samples, the state of its step, its zone and timers, the press of its wale, its sweep's END (R221, R230). Precision values are those of the last closed window. -/
def engReads (k : Key) : Bool :=
  match k.grp with
  | .chn => (0x104 ≤ k.off && k.off < 0x110) || (0x204 ≤ k.off && k.off ≤ 0x21C) || k.off == 0x248
  | .axs => k.off == 0x44
  | .eisCh => k.off == 0
  | _ => false

/-- What engines see from this frame edge on (R197). -/
def Bay.seeEdge (b : Bay) : Bay := { b with edge := { b.edge with seen := b.regs.filter (fun p => engReads p.1), cellT := b.cellT } }

/-- A register field as engines see it (R197). -/
def Bay.sees (b : Bay) (k : Key) : Int := b.edge.seen.get (resetOf k) k

/-- The state of engine c at the last frame edge, in the sense of RWL (R399): an engine started since then does not run yet. -/
def Bay.engRan (b : Bay) (c : Nat) : Bool := (b.engOf c).runs

/-- The engines that run from this edge on, in the sense of RWL (R399). -/
def Bay.runsEdge (b : Bay) : Bay :=
  b.each (allChans.filter (fun c => (b.engOf c).runs != b.engRuns c)) (fun b c => b.setEng c { b.engOf c with runs := b.engRuns c })

/-! ## Engine transitions (R193, R195, R205) -/

/-- What an engine loses at once when it becomes STOPPED or FROZEN: its frame's commands, its press request (R197, R228). -/
def Bay.engDrops (b : Bay) (c : Nat) : Bay :=
  let e := b.engOf c
  b.setEng c { e with cmds := [], overlay := e.targets, press := none, legacyArm := none }

/-- The DONATE allowance of an engine's run ends with it, and the offer and call in force (R61). -/
def Bay.engAllowanceEnds (b : Bay) (c : Nat) : Bay := (b.wr (F.ENG_DON c) 0).endDonation c

/-- What an engine loses at the edge at which it becomes STOPPED. -/
def Bay.engLoses (b : Bay) (c : Nat) : Bay := (b.engDrops c).engAllowanceEnds c

/-- Engine c becomes STOPPED with an END code (R193, R195). -/
def Bay.engStopped (b : Bay) (c : Nat) (endCode : Int) : Bay :=
  let b := (b.engLoses c).setEngState c Es.stopped
  let b := (b.wr (F.ENG_STAT_END c) endCode).setFlag (F.ENG_STAT_JOINED c) false
  b.setEng c { b.engOf c with wait := .none, hostCmds := [], pausedByMode := false, frzNew := false }

/-- A pause that ends with its engine (R154, R155, R195): cause 2 stands in mode HOLD by command, cause 9 in any mode HOLD (log entry 82). -/
def Bay.leavePause (b : Bay) (c : Nat) : Bay :=
  let b := if b.modeSt.holdCmd then b else b.leave c 2
  if b.mode = Mode.hold then b else b.leave c 9

/-- The channel of a stopped engine (R193): the step ends with cause 11, soft stop, HOLD cause 1 until host software sets targets; the causes of its pause are left. -/
def Bay.chanAfterStop (b : Bay) (c : Nat) : Bay :=
  let b := ((b.endStep c 11 1024).endWatch c).softStop c
  (b.hold c 1).leavePause c

/-- A host STOP, or END, takes effect (R193, R236): the commands of the frame are discarded. -/
def Bay.engHostStop (b : Bay) (c : Nat) (endCode : Int) : Bay := (b.engStopped c endCode).chanAfterStop c

/-- PAUSE takes effect (R193): the state held is kept, the channel holds. -/
def Bay.engPause (b : Bay) (c cause : Nat) (byMode : Bool) : Bay :=
  let b := b.setEng c { b.engOf c with pausedFrom := b.engState c, pausedByMode := byMode }
  (b.setEngState c Es.paused).hold c cause

/-- The group an engine waits on has left the generation it waits for (R203). -/
def Bay.groupGone (b : Bay) (c : Nat) : Bool :=
  match (b.engOf c).wait with
  | .group g gen => b.rd (F.GRP_STAT_GEN g) != gen
  | _ => false

/-- A waiting or halted engine runs on at the instruction after the one it stands on (R193, R217). -/
def Bay.wake (b : Bay) (c : Nat) : Bay :=
  let b := (b.setEngState c Es.running).wr (F.ENG_PC c) (b.rd (F.ENG_PC c) + 1)
  (b.setFlag (F.ENG_STAT_JOINED c) false).setEng c { b.engOf c with wait := .none }

/-- RESUME takes effect (R193, R203): PAUSED returns to the state before the pause, HALTED runs on; a member whose group was released meanwhile continues at once with bit 5 set. -/
def Bay.engResume (b : Bay) (c cause : Nat) : Bay :=
  if b.engState c = Es.halted then b.wake c
  else
    let e := b.engOf c
    let b := b.setEng c { e with pausedByMode := false }
    let b :=
      if e.pausedFrom = Es.waiting && b.groupGone c then
        let b := b.wake c
        let b := b.setEng c { b.engOf c with evt := setBitN e.evt 5 }
        b.wr (F.ENG_EVT_VAL c) (setBitN (b.rdN (F.ENG_EVT_VAL c)) 5)
      else b.setEngState c e.pausedFrom
    b.leave c cause

/-- An engine freezes (R204, R205): FROZEN with its cause and DETAIL; the instruction has no effect and the frame's commands are discarded. The channel follows at the next frame edge. -/
def Bay.freeze (b : Bay) (c cause : Nat) (detail : Int) : Bay :=
  let b := (b.engDrops c).setEngState c Es.frozen
  let b := ((b.wr (F.ENG_FRZ_CAUSE c) cause).wr (F.ENG_FRZ_DETAIL c) (detail % 65536)).setFlag (F.ENG_STAT_CLR_ARMED c) false
  b.setEng c { b.engOf c with frzNew := true, hostCmds := [], part := 0, wait := .none, pausedByMode := false }

/-- The frame edge at which a freeze takes effect (R205): its time, the DONATE allowance ends (R61), HOLD cause 3 beside the cause of a pause (R195), the step's end, engine event 64 + c, the record's entry. -/
def Bay.freezeEdge (b : Bay) (c : Nat) : Bay :=
  let e := b.engOf c
  if !e.frzNew then b
  else
    let b := ((b.setEng c { e with frzNew := false }).engAllowanceEnds c).wr (F.ENG_FRZ_T c) b.now
    let b := b.endStep c 4 8
    let b := b.hold c 3
    (b.note (64 + c)).recEvent c 7 (b.rd (F.ENG_FRZ_CAUSE c)) 0

/-- Every engine that is not STOPPED or FROZEN becomes STOPPED, END = `endCode` (R195). -/
def Bay.stopAllEngines (b : Bay) (endCode : Int) : Bay :=
  b.each allChans (fun b c =>
    if b.engState c = Es.stopped || b.engState c = Es.frozen then b else b.engStopped c endCode)

end Sys2Proof.Machine
end

