-- ==== Sys2Proof/Machine/ModeOps.lean ====
section
/-! DEFINITION. What every family shares of the bay's modes: a cause of SAFE-STOP arising (R387, R389) and the safety lines as the stages see them (R20). -/

namespace Sys2Proof.Machine

/-- Record a cause in BAY.STOP_CAUSE (R387): the first in FIRST, every one in the mask. -/
def Bay.recordStop (b : Bay) (code : Nat) : Bay :=
  let b := if b.rd F.BAY_STOP_CAUSE_MASK = 0 then b.wr F.BAY_STOP_CAUSE_FIRST code else b
  b.wr F.BAY_STOP_CAUSE_MASK (setBitN (b.rdN F.BAY_STOP_CAUSE_MASK) (code - 1))

/-- A cause of R387 arises. In SAFE-STOP it is recorded at once and clears CLR_ARMED (R389); in BOOT to HOLD, DEGRADED and SERVICE it acts at the next frame edge (R383). -/
def Bay.stopFor (b : Bay) (code : Nat) : Bay :=
  if b.mode = Mode.safeStop then (b.recordStop code).setFlag F.BAY_STAT_CLR_ARMED false
  else if b.mode = Mode.quarantine then b
  else
    let m := b.modeSt
    { b with modeSt := { m with stops := if m.stops.contains code then m.stops else m.stops ++ [code] } }

/-- A line pair of R20 is energised: 0 STO, 1 to 4 safe-off S0 to S3, 5 discharge, 6 contactor. -/
def Bay.lineOn (b : Bay) (k : Nat) : Bool := bitOf (b.rd F.SAFE_LINES_ON) k

/-- Ask for the cell switch of a channel to close or open (R84, R140). -/
def Bay.requestSwitch (b : Bay) (c : Nat) (close : Bool) : Bay :=
  b.setStage c { b.stageOf c with cswReq := close }

end Sys2Proof.Machine
end

