-- ==== Sys2Proof/Machine/Num.lean ====
section
/-! DEFINITION. IEEE 754 binary64 arithmetic with round-to-nearest-even on rational numbers (R242). -/

namespace Sys2Proof.Machine

/-- 2^k. -/
def pow2 (k : Int) : Rat := if 0 ≤ k then ((2 ^ k.toNat : Nat) : Rat) else mkRat 1 (2 ^ (-k).toNat)

/-- Magnitude of a rational number. -/
def absR (x : Rat) : Rat := if x < 0 then -x else x

/-- Half-even rounding of a non-negative rational to an integer. -/
def roundHalfEven (x : Rat) : Int :=
  let f := x.floor
  let r := x - (f : Rat)
  if r < mkRat 1 2 then f else if mkRat 1 2 < r then f + 1 else if f % 2 = 0 then f else f + 1

/-- The exponent of the leading bit of a positive rational. -/
def leadExp (a : Rat) : Int :=
  let e : Int := (Nat.log2 a.num.toNat : Int) - (Nat.log2 a.den : Int)
  if pow2 e ≤ a then e else e - 1

/-- The nearest binary64 number, ties to even (R242). -/
def rnd (x : Rat) : Rat :=
  if x = 0 then 0
  else
    let a := absR x
    let u := max (leadExp a - 52) (-1074)
    let y := (roundHalfEven (a * pow2 (-u)) : Rat) * pow2 u
    if x < 0 then -y else y

/-- Binary64 sum. -/
def fadd (x y : Rat) : Rat := rnd (x + y)
/-- Binary64 difference. -/
def fsub (x y : Rat) : Rat := rnd (x - y)
/-- Binary64 product. -/
def fmul (x y : Rat) : Rat := rnd (x * y)
/-- Binary64 quotient; a divisor of 0 has no quotient and gives 0. -/
def fdiv (x y : Rat) : Rat := if y = 0 then 0 else rnd (x / y)

/-- Integer square root by its bits: `n` bits are tried from the highest. -/
def isqrtBits (v : Nat) : Nat → Nat → Nat
  | 0, r => r
  | n + 1, r => let c := r + 2 ^ n; isqrtBits v n (if c * c ≤ v then c else r)

/-- Integer square root. -/
def isqrt (v : Nat) : Nat := isqrtBits v (Nat.log2 v / 2 + 1) 0

/-- Correctly rounded square root of a non-negative rational; 0 below 0. -/
def fsqrt (x : Rat) : Rat :=
  if x ≤ 0 then 0
  else
    let s : Int := 60 - leadExp x / 2
    let y := x * pow2 (2 * s)
    let n := y.floor.toNat
    let r := isqrt n
    let exact := r * r = n ∧ (n : Rat) = y
    rnd ((if exact then (r : Rat) else (r : Rat) + mkRat 1 2) * pow2 (-s))

/-- The sign of a rational. -/
def sgnR (x : Rat) : Int := if x < 0 then -1 else if x = 0 then 0 else 1

/-- A rational within bounds. -/
def clampR (lo hi x : Rat) : Rat := max lo (min hi x)

/-- The circle constant as binary64. -/
def piR : Rat := mkRat 884279719003555 281474976710656

/-- A decimal constant of the pseudocode as binary64. -/
def dec (n : Int) (d : Nat) : Rat := rnd (mkRat n d)

/-! ## Cosine and sine (R179, R258; log entry 2) -/

/-- π to 36 digits. -/
def piFine : Rat := mkRat 314159265358979323846264338327950288 100000000000000000000000000000000000

/-- The alternating power series of cosine (`k` = 0) and sine (`k` = 1) from its term `t` of degree `k` on, for `n` terms at the square `y2` of the angle. -/
def trigSeries (y2 : Rat) : Nat → Nat → Rat → Rat
  | 0, _, _ => 0
  | n + 1, k, t => t + trigSeries y2 n (k + 2) (-(t * y2) / (((k + 1) * (k + 2) : Nat) : Rat))

/-- A phase in turns as an angle within ±π. -/
def angleOf (x : Rat) : Rat := 2 * piFine * (x - (x + mkRat 1 2).floor)

/-- The most the polynomial is taken to miss by (log entry 2). -/
def polyBound : Rat := mkRat 1 1125899906842624

/-- Cosine of a phase in turns as the loop engine yields it (R258): within `polyBound` of the true one, how near is free (log entry 2). -/
def cosTurn (x : Rat) : Rat :=
  let y := angleOf x
  rnd (trigSeries (y * y) 20 0 1 + clampR (-polyBound) polyBound (Config.cosPoly x))

/-- Sine of a phase in turns as the loop engine yields it (R258; log entry 2). -/
def sinTurn (x : Rat) : Rat :=
  let y := angleOf x
  rnd (trigSeries (y * y) 20 1 y + clampR (-polyBound) polyBound (Config.sinPoly x))

end Sys2Proof.Machine
end

