-- ==== Sys2Proof/Machine/AxisOps.lean ====
section
/-! DEFINITION. What the families share about an axis: its states, its brake, STO with its causes and record, and the stop (R268, R269). -/

namespace Sys2Proof.Machine

abbrev Ax.disabled : Int := 0
abbrev Ax.sto : Int := 1
abbrev Ax.starting : Int := 2
abbrev Ax.run : Int := 3
abbrev Ax.stopping : Int := 4

/-- The six axes. -/
def allAxes : List Nat := List.range 6

/-- The state of axis a (R268). -/
def Bay.axState (b : Bay) (a : Nat) : Int := b.rd (F.AXS_STAT_STATE a)

/-- AX0 to AX3 are presses (R265). -/
def isPress (a : Nat) : Bool := a < 4

/-- The brake of a press stands engaged or released; AX4 and AX5 have none. -/
def Bay.brakeNow (b : Bay) (a : Nat) (on : Bool) : Bay :=
  if isPress a then (b.setFlag (F.AXS_STAT_BRK_ON a) on).setAxis a { b.axisOf a with brakeAt := none } else b

/-- A brake command: the brake follows 25 ms later (R265, R272, R278). -/
def Bay.brakeCmd (b : Bay) (a : Nat) (on : Bool) : Bay :=
  if isPress a then b.setAxis a { b.axisOf a with brakeAt := some (b.now + 25 * msTicks, on) } else b

/-- A cause of AXSa.FLT that is a local one (R269). -/
def localCause (c : Int) : Bool := c != 0 && c != 1

/-- A local cause stands on axis a. -/
def Bay.hasLocal (b : Bay) (a : Nat) : Bool :=
  b.axState a == Ax.sto && (localCause (b.rd (F.AXS_FLT_CAUSE a)) || localCause (b.rd (F.AXS_FLT_SECOND a)))

/-- Axis a enters STO (R268, R269): all legs off, brake engaged, the cause, the fault record and the axis event; the stored current of a press is kept (R287). A cause that comes while the axis is in STO goes to SECOND. -/
def Bay.stoAxis (b : Bay) (a cause : Nat) : Bay :=
  if b.axState a = Ax.sto then
    if b.rd (F.AXS_FLT_CAUSE a) = cause || b.rd (F.AXS_FLT_SECOND a) ≠ 0 then b
    else (b.wr (F.AXS_FLT_SECOND a) cause).setFlag (F.AXS_STAT_CLR_ARMED a) false
  else
    let x := b.axisOf a
    let r : AxRec := { axis := a, cause := cause, iu := x.iu, iv := x.iv, iw := x.iw, omegaE := x.omegaE, vbus := b.rd F.PWR_AXBUS_AXV * 10, time := b.now }
    let b := { b with axRec := b.axRec ++ [r] }
    let b := (((b.wr (F.AXS_STAT_STATE a) Ax.sto).wr (F.AXS_FLT_CAUSE a) cause).wr (F.AXS_FLT_SECOND a) 0).bumpSat (F.AXS_FLT_COUNT a) 1 255
    let b := (((b.setFlag (F.AXS_STAT_CLR_ARMED a) false).wr (F.AXS_STAT_ASRC a) 0).setFlag (F.AXS_STAT_FB_USED a) false).setFlag (F.AXS_STAT_REV_HELD a) false
    let b := b.setAxis a { x with startPend := false, seq := 0, stopT := none, prSeq := 0, inBand := none, outBand := none, zeroTorque := false, wRamp := 0 }
    ((b.brakeNow a true).setDriver (64 + a) { b.driverOf (64 + a) with legs := [.off, .off, .off, .off] }).note (144 + a)

/-- All six axes enter STO with one cause. -/
def Bay.stoAll (b : Bay) (cause : Nat) : Bay := b.each allAxes (fun b a => b.stoAxis a cause)

/-- A stop of axis a under R268: deceleration at DEC; it acts in RUN and STARTING. A press whose brake is engaged already goes on to the ramp of its current. -/
def Bay.stopAxis (b : Bay) (a : Nat) : Bay :=
  let x := b.axisOf a
  let st := b.axState a
  if st = Ax.run || st = Ax.starting then
    let braked := isPress a && b.flag (F.AXS_STAT_BRK_ON a)
    let b := if braked && st = Ax.run then b.setLoopAx a { b.loopAxOf a with iqRef := if x.prSeq = 0 then 0 else (x.iqHeld : Rat) } else b
    (b.wr (F.AXS_STAT_STATE a) Ax.stopping).setAxis a
      { x with startPend := false, seq := 0, stopT := if braked then some b.now else none, brakeAt := if braked then none else x.brakeAt, prSeq := 0 }
  else b.setAxis a { x with startPend := false }

/-- The presses stop under R268 with their brakes engaged, unless STO is in force (R388). -/
def Bay.stopPresses (b : Bay) : Bay := b.each (List.range 4) (fun b a => b.stopAxis a)

/-- The full i²t budget of axis a in 0.01 A²s (R275). -/
def Bay.i2tFull (b : Bay) (a : Nat) : Int :=
  let ip := b.rd (F.AXS_I_PEAK a)
  let ic := b.rd (F.AXS_I_CONT a)
  ((ip * ip - 2 * ic * ic) * b.rd (F.AXS_T_PK a)) / 20000000

/-- The fine units of the budget in 0.01 A²s: one mA² over a frame is ten of them. -/
abbrev i2tUnit : Int := 2500000000

/-- The budget left to axis a, in fine units. -/
def Bay.i2tLeft (b : Bay) (a : Nat) : Int := if (b.axisOf a).budgetSet then (b.axisOf a).budget else b.i2tFull a * i2tUnit

/-- The inverter of axis a drives: its start, run and stop (R268). -/
def Bay.axisDrives (b : Bay) (a : Nat) : Bool := b.axState a == Ax.starting || b.axState a == Ax.run || b.axState a == Ax.stopping

/-- All legs of axis a are off. -/
def Bay.legsOff (b : Bay) (a : Nat) : Bay := b.setDriver (64 + a) { b.driverOf (64 + a) with legs := [.off, .off, .off, .off] }

/-- The limit of R275 follows the budget: set at 0, cleared once 10 % is back. -/
def Bay.i2tLimit (b : Bay) (a : Nat) : Bay :=
  let x := b.i2tLeft a
  if x ≤ 0 then b.setFlag (F.AXS_STAT_I2T_LIM a) true
  else if b.i2tFull a * i2tUnit ≤ 10 * x then b.setFlag (F.AXS_STAT_I2T_LIM a) false
  else b

end Sys2Proof.Machine
end

