-- ==== Sys2Proof/Machine/Cot.lean ====
section
/-! DEFINITION. Constant on-time modulation (R73, R74, R81, R83): the on-time law, the comparator with its synthesized ripple, and what the section modulators do in one tick of bay time (log entries 57 and 78). Times of the modulator are in 250 ps of bay time, 32 to a tick. -/

namespace Sys2Proof.Machine

/-- Bay time in 250 ps. -/
def Bay.fine (b : Bay) : Nat := b.now * 32

/-- The on-time of R73 in 250 ps: T_sw × (V_ref + I_p × R_dc) / V_bus × (1 + b_p), with V_ref in µV, I_p in µA, R_dc in 0.01 mΩ and V_bus in mV; rounded to the nearest (a tie to the even one: DESIGN CHOICE, log entry 78) and held within 40 ns to 2.400 µs. -/
def onTimeLaw (vRef iP rdc vBus : Int) (trim : Rat) : Nat :=
  (clampI 160 9600 (roundHalfEven (10000 * ((vRef : Rat) + mkRat (iP * rdc) 100000) / (vBus * 1000 : Int) * (1 + trim)))).toNat

/-- The on-time of phase p at a trigger now, with trim `trim` (R73). -/
def Bay.onTime (b : Bay) (c p : Nat) (trim : Rat) : Nat :=
  let n := waleOf c
  onTimeLaw (b.rd (F.CHN_NODE_REF c)) (nth (b.stageOf c).iPh p) (b.rd (F.SEC_MOD_CFG_RDC n)) (b.rd (F.SEC_BUS_V n)) trim

/-- The modulator switches: pre-bias or RUN, with no latch, line or lost link above it (R29, R84, R96, R98). -/
def Bay.switches (b : Bay) (c : Nat) : Bool :=
  let s := b.stageOf c
  let st := b.rd (F.CHN_STG_STAT_STAGE c)
  (st == Stg.prebias || st == Stg.run) && !s.ov && !s.absent && !(b.driverOf c).lost && !b.safeOffNow (waleOf c)

/-- The phases in the rotation. -/
def Bay.active (b : Bay) (c : Nat) : List Nat := phasesOf (b.rdN (F.CHN_STG_STAT_PH_ACT c))

/-- The next phase in the rotation (R73): the first active one at or after the rotation's place. -/
def Bay.nextPhase (b : Bay) (c : Nat) : Option Nat :=
  let r := (b.stageOf c).rotation
  ((List.range 4).map (fun i => (r + i) % 4)).find? (fun p => (b.active c).contains p)

/-- A phase is in an on-time. -/
def Cot.isOn (x : Cot) (p t : Nat) : Bool := decide (t < x.onEnd.getD p 0)

/-- Phase p starts an on-time of its R73 length. -/
def Bay.startOn (b : Bay) (c p : Nat) : Bay :=
  let s := b.stageOf c
  let x := s.cot
  let d := b.driverOf c
  let b' := b.setStage c { s with cot := { x with onEnd := x.onEnd.set p (b.fine + b.onTime c p (s.trims.getD p 0)), lastOn := b.onTime c p 0 } }
  b'.setDriver c { d with legs := d.legs.set p .high }

/-- Phase p ends its on-time at once; its low side conducts for the rest of the period (R73, R75). -/
def Bay.endOn (b : Bay) (c p : Nat) : Bay :=
  let s := b.stageOf c
  let d := b.driverOf c
  let b' := b.setStage c { s with cot := { s.cot with onEnd := s.cot.onEnd.set p b.fine } }
  b'.setDriver c { d with legs := d.legs.set p .low }

/-- v_syn in µV (R74): R_SYN times the sum of the emulated currents less its average over the last 2.5 µs. -/
def Bay.vSyn (b : Bay) (c : Nat) : Rat :=
  let x := (b.stageOf c).cot
  let now := (b.active c).foldl (fun a p => a + x.emu.getD p 0) 0
  let avg : Rat := if x.sums.isEmpty then 0 else x.sums.foldl (· + ·) 0 / (x.sums.length : Nat)
  (now - avg) * mkRat (b.rd (F.SEC_MOD_CFG_RSYN (waleOf c))) 100000

/-- The phase of a generator in turns (R167): it advances by M / (1,250 L) in each modulator clock of 160 ns. -/
def Gen.phase (g : Gen) (t : Nat) : Rat := mkRat (((t - g.t0) / 20 * g.m : Nat) : Int) (1250 * g.l) + g.off

/-- v_pert in µV (R74, R167): zero unless a sweep runs. -/
def Gen.volt (g : Gen) (t : Nat) : Rat := if g.on then g.av * cosTurn (g.phase t) else 0

/-- The phase offset of channel c in turns (R169). -/
def Bay.genOffset (b : Bay) (c : Nat) : Rat := if b.flag F.EIS_CTL_STAGGER then mkRat (c % 16 : Nat) 16 else 0

/-- Command frame 3 brings the A_v of the point in progress to the generator (R167, R259), which runs on between two points and stands still without a sweep. -/
def Bay.takeGen (b : Bay) (c : Nat) : Bay :=
  let w := b.sweepOf c
  let was := (b.stageOf c).gen
  let g : Gen := if !b.flag (F.EISCH_STAT_RUN c) then {} else if w.phase = .waiting then was else { was with av := w.av }
  if was = g then b else b.setStage c { b.stageOf c with gen := g }

/-- The comparator of R74, V_node + v_syn ≤ V_ref + v_pert, outside its blanking of 100 ns. -/
def Bay.comparator (b : Bay) (c : Nat) : Bool :=
  decide ((b.stageOf c).cot.blank ≤ b.fine) &&
    decide ((b.rd (F.CHN_NODE_V c) : Rat) + b.vSyn c ≤ (b.rd (F.CHN_NODE_REF c) : Rat) + (b.stageOf c).gen.volt b.now)

/-- A trigger (R73, R74): the next phase in rotation starts its on-time, the comparator is blanked for 100 ns. A phase in an on-time, or off for less than 100 ns, starts none. -/
def Bay.trigger (b : Bay) (c : Nat) : Bay :=
  match b.nextPhase c with
  | none => b
  | some p =>
    if b.fine < (b.stageOf c).cot.onEnd.getD p 0 + 400 && (b.stageOf c).cot.onEnd.getD p 0 ≠ 0 then b
    else
      let b := b.startOn c p
      let s := b.stageOf c
      b.setStage c { s with rotation := (p + 1) % 4, cot := { s.cot with blank := b.fine + 400 } }

/-- The emulated current of a phase after one tick of which it was on for `u` parts of 32 (R74): up by (V_bus − V_node) / 1.00 µH, down by V_node / 1.00 µH. -/
def emulate (i vBus vNode : Rat) (u : Nat) : Rat := i + (u * (vBus - vNode) - (32 - u : Nat) * vNode) / 4000

/-- The emulated currents after one tick; a phase outside the rotation has none (R74). -/
def Bay.emulated (b : Bay) (c : Nat) : List Rat :=
  let x := (b.stageOf c).cot
  let vBus : Rat := b.rd (F.SEC_BUS_V (waleOf c)) * 1000
  let vNode : Rat := b.rd (F.CHN_NODE_V c)
  (List.range 4).map (fun p =>
    if (b.active c).contains p then emulate (x.emu.getD p 0) vBus vNode (min 32 (x.onEnd.getD p 0 - b.fine)) else 0)

/-- One tick of the modulator of a channel that switches: the comparator may trigger, the emulated currents move on, and a phase whose on-time ends within the tick has its low side on. -/
def Bay.cotTick (b : Bay) (c : Nat) : Bay :=
  let b := if b.comparator c then b.trigger c else b
  let emu := b.emulated c
  let s := b.stageOf c
  let d := b.driverOf c
  let over_ := fun p => (b.active c).contains p && s.cot.isOn p b.fine && !s.cot.isOn p (b.fine + 32)
  let legs := (List.range 4).map (fun p => if over_ p then .low else d.legs.getD p .off)
  (b.setStage c { s with cot := { s.cot with emu := emu, sums := (emu.foldl (· + ·) 0 :: s.cot.sums).take 312 } }).setDriver c { d with legs := legs }

/-- Every section modulator runs for one tick. -/
def Bay.runCot (b : Bay) : Bay := b.each (allChans.filter b.switches) Bay.cotTick

/-- No command waits: bay time runs on by one tick, in which the section modulators run, up to the last tick before a frame edge, which only FRAME_EDGE crosses (DESIGN CHOICE, log entry 57). -/
def State.idle (s : State) : Result :=
  s.onBay (fun b => if (b.now + 1) % frameTicks = 0 then b else let c := b.runCot; { c with now := b.now + 1 })

end Sys2Proof.Machine
end

