-- ==== Sys2Proof/Machine/MemOps.lean ====
section
/-! DEFINITION. The operations on the memories of the control cartridges (spec chapter 15): bytes and words, the marks of words in error, and what a read that meets one does (R370 to R375). Memory 0 is DRAM, 1 SRAM, 2 MRAM; cartridge 0 is CA, 1 CB. -/

namespace Sys2Proof.Machine

/-- The memories of one cartridge. -/
def MemSys.cart (m : MemSys) (x : Nat) : CartMem := if x = 0 then m.ca else m.cb

/-- Replace the memories of one cartridge. -/
def MemSys.setCart (m : MemSys) (x : Nat) (c : CartMem) : MemSys := if x = 0 then { m with ca := c } else { m with cb := c }

/-- One memory of a cartridge. -/
def CartMem.ram (c : CartMem) (k : Nat) : Ram := if k = 0 then c.dram else if k = 1 then c.sram else c.mram

/-- Replace one memory of a cartridge. -/
def CartMem.setRam (c : CartMem) (k : Nat) (r : Ram) : CartMem :=
  if k = 0 then { c with dram := r } else if k = 1 then { c with sram := r } else { c with mram := r }

/-- One memory. -/
def MemSys.ram (m : MemSys) (x k : Nat) : Ram := (m.cart x).ram k

/-- Replace one memory. -/
def MemSys.setRam (m : MemSys) (x k : Nat) (r : Ram) : MemSys := m.setCart x ((m.cart x).setRam k r)

/-- Bytes of a memory word (R367). -/
def wordBytes (k : Nat) : Nat := if k = 0 then 8 else 4

/-- Bytes of a memory (R367). -/
def memSize (k : Nat) : Nat := if k = 0 then 268435456 else if k = 1 then 4194304 else 8388608

/-- `n` bytes from an address. -/
def Ram.bytes (r : Ram) (a n : Nat) : List Byte := (List.range n).map (fun i => r.cells.get (a + i))

/-- Store bytes from an address on, without touching the marks. -/
def Ram.store (r : Ram) : Nat → List Byte → Ram
  | _, [] => r
  | a, x :: l => ({ r with cells := r.cells.put a x }).store (a + 1) l

/-- Mark or clear the words from `w` to `w + n - 1`. -/
def Ram.mark (r : Ram) (w : Nat) (e : Option WordErr) : Nat → Ram
  | 0 => r
  | n + 1 => ({ r with errs := r.errs.put w e }).mark (w + 1) e n

/-- What is wrong with a word. -/
def MemSys.errAt (m : MemSys) (x k w : Nat) : Option WordErr := (m.ram x k).errs.get w

/-- The error cannot be corrected. -/
def WordErr.bad : WordErr → Bool
  | .single _ => false
  | _ => true

/-- A word cannot be read (R372). -/
def MemSys.badAt (m : MemSys) (x k w : Nat) : Bool := ((m.errAt x k w).map WordErr.bad).getD false

/-! ## Regions of DRAM (R368) -/

/-- The staging area, program image, table, trace, record and stream regions: their first offsets; `dramEnd` ends the memory. -/
abbrev stagingAt : Nat := 0x02000000
abbrev programAt : Nat := 0x02100000
abbrev tablesAt : Nat := 0x03000000
abbrev traceAt : Nat := 0x04000000
abbrev recordsAt : Nat := 0x06000000
abbrev streamsAt : Nat := 0x0E000000
abbrev dramEnd : Nat := 0x10000000

/-- The DRAM offset at which the payload of an image starts: in the program region for a program, else in the table region (R207). Where in the region is the implementation's, with room for the largest payload that the staging area of 1 MiB brings (log entry 5). -/
def imageStart (program : Bool) (id : Int) : Nat :=
  if program then programAt + Config.imageAddr id % (tablesAt - programAt - 0x100000)
  else tablesAt + Config.imageAddr id % (traceAt - tablesAt - 0x100000)

/-- The firewall region of a DRAM offset (R468). -/
def dramRegion (a : Nat) : Nat :=
  if a < stagingAt then 0 else if a < programAt then 1 else if a < tablesAt then 2 else if a < traceAt then 3
  else if a < recordsAt then 4 else if a < streamsAt then 5 else 6

/-- The regions both cartridges hold alike: program images, tables and records (R368). -/
def partnerHeld (a : Nat) : Bool := (stagingAt ≤ a && a < traceAt) || (recordsAt ≤ a && a < streamsAt)

/-! ## Counting errors (R370 to R372) -/

/-- The counter registers of one memory: corrections, address and syndrome of the last, uncorrectable reads. -/
def ceKeys (k x : Nat) : Key × Key × Key × Key :=
  match k with
  | 0 => (F.MEM_CE0_CNT x, F.MEM_CE0_ADDR x, F.MEM_CE0_SYN_VAL x, F.MEM_UE0_CNT x)
  | 1 => (F.MEM_CE1_CNT x, F.MEM_CE1_ADDR x, F.MEM_CE1_SYN_VAL x, F.MEM_UE1_CNT x)
  | _ => (F.MEM_CE2_CNT x, F.MEM_CE2_ADDR x, F.MEM_CE2_SYN_VAL x, F.MEM_UE2_CNT x)

/-- One correction (R370, R371): counted with its address and syndrome; event 192 once in 60 min when the corrections of that time exceed MEM.CE_THR. -/
def Bay.correction (b : Bay) (x k w syn : Nat) : Bay :=
  let ks := ceKeys k x
  let b := ((b.bump32 ks.1).wr ks.2.1 (w * wordBytes k : Nat)).wr ks.2.2.1 (syn : Nat)
  let i := 3 * x + k
  let hour := 3600 * secTicks
  let l := (b.memHid.ceT.get [] i).filter (fun t => b.now - t < hour) ++ [b.now]
  let b := { b with memHid := { b.memHid with ceT := b.memHid.ceT.put i l } }
  let said := match b.memHid.ceEv.get none i with
    | some t => decide (b.now - t < hour)
    | none => false
  if b.rd (F.MEM_CE_THR x) < (l.length : Int) && !said then
    ({ b with memHid := { b.memHid with ceEv := b.memHid.ceEv.put i (some b.now) } }).note 192
  else b

/-- One uncorrectable read (R372): counted, its address, memory, master and access kept, event 193 to 195. -/
def Bay.uncorrectable (b : Bay) (x k w master acc : Nat) : Bay :=
  let b := (b.bump32 (ceKeys k x).2.2.2).wr (F.MEM_UE_ADDR x) (w * wordBytes k : Nat)
  let b := ((b.wr (F.MEM_UE_INFO_MEM x) k).wr (F.MEM_UE_INFO_MASTER x) master).wr (F.MEM_UE_INFO_ACC x) acc
  b.note (193 + k)

/-- What a read of a word with this mark counts. -/
def Bay.seeErr (b : Bay) (x k w master acc : Nat) : Option WordErr → Bay
  | none => b
  | some (.single syn) => b.correction x k w syn
  | some _ => b.uncorrectable x k w master acc

/-- A master reads a word: what the controller counts, and whether data comes back (R370, R372). -/
def State.readWord (s : State) (x k w master acc : Nat) : State × Bool :=
  let e := s.mem.errAt x k w
  ({ s with bay := s.bay.seeErr x k w master acc e }, !((e.map WordErr.bad).getD false))

/-- Read the words that hold `n` bytes from offset `a`, one after the other. -/
def State.readWords (s : State) (x k master acc w : Nat) : Nat → State × Bool
  | 0 => (s, true)
  | n + 1 =>
    let r := s.readWord x k w master acc
    if r.2 then r.1.readWords x k master acc (w + 1) n else (r.1, false)

/-- The cartridges that compute: fitted. -/
def Bay.carts (b : Bay) : List Nat := [0, 1].filter b.cPresent

/-- The same word read in lockstep by every cartridge, each from its own copy: whether all of them got data (R373). -/
def State.lockstepRead (s : State) (k w master acc : Nat) : State × Bool :=
  s.bay.carts.foldl (fun st x =>
    let r := st.1.readWord x k w master acc
    (r.1, st.2 && r.2)) (s, true)

/-- Poisoned words present in the memories of a cartridge, shown in MEM.STAT.POISON (R374). -/
def State.poisonCount (s : State) (x : Nat) : State :=
  let n := fun k => ((s.mem.ram x k).errs.filter (fun e => e.2 = WordErr.poison)).length
  { s with bay := s.bay.wr (F.MEM_STAT_POISON x) (min 65535 (n 0 + n 1 + n 2) : Nat) }

/-- A write of whole words (R374): new data with valid check bits, no mark left. -/
def State.writeWords (s : State) (x k a : Nat) (l : List Byte) : State :=
  let r := ((s.mem.ram x k).store a l).mark (a / wordBytes k) none (l.length / wordBytes k)
  let t := { s with mem := s.mem.setRam x k r }
  if (s.mem.ram x k).errs.isEmpty then t else t.poisonCount x

/-- Store bytes that need not fill their words (R375): a word covered in part is read, merged and written; where that read is uncorrectable the word stays as it is and the write fails. -/
def State.mergeWrite (s : State) (x k a master acc : Nat) (l : List Byte) : State × Bool :=
  let wb := wordBytes k
  let w0 := a / wb
  let n := (a + l.length + wb - 1) / wb - w0
  (List.range n).foldl (fun st i =>
    let w := w0 + i
    let lo := max a (w * wb)
    let hi := min (a + l.length) ((w + 1) * wb)
    let part := (l.drop (lo - a)).take (hi - lo)
    if hi - lo = wb then (st.1.writeWords x k lo part, st.2)
    else
      let r := st.1.readWord x k w master acc
      if r.2 then
        let m := (r.1.mem.ram x k).store lo part
        (({ r.1 with mem := r.1.mem.setRam x k (m.mark w none 1) }), st.2)
      else (r.1, false)) (s, true)

/-- A memory word fails by itself (R369): one bit, or a second one beside it. A poisoned word stays poisoned. -/
def State.upset (s : State) (u : Upset) : State :=
  let x := u.cart.val
  let k := u.memory.val
  if !s.bay.cPresent x || memSize k / wordBytes k ≤ u.word then s
  else
    let e := match s.mem.errAt x k u.word with
      | some .poison => WordErr.poison
      | some _ => .double
      | none => if u.double then .double else .single u.syn.toNat
    { s with mem := s.mem.setRam x k ((s.mem.ram x k).mark u.word (some e) 1) }

/-- Cartridge x can copy a word from its partner (R373): a partner-held word that the partner can read. -/
def State.partnerHas (s : State) (x w : Nat) : Bool :=
  partnerHeld (w * 8) && s.bay.cPresent (1 - x) && !s.mem.badAt (1 - x) 0 w

/-- A DRAM word is rewritten from the partner's copy (R373); the read of that copy counts what it corrects (R370). -/
def State.copyFromPartner (s : State) (x w : Nat) : State :=
  let s := (s.readWord (1 - x) 0 w 0 5).1
  s.writeWords x 0 (w * 8) ((s.mem.ram (1 - x) 0).bytes (w * 8) 8)

end Sys2Proof.Machine
end

