-- ==== Sys2Proof/Machine/Loop.lean ====
section
/-! DEFINITION. The loop engine: channel outer loops, axis current, speed, position and force loops, presets, deadlines and trace (spec chapter 09, R239 to R264). Channel quantities are µV and µA, axis quantities mV, mA and rpm, in binary64 (R242; log entry 25). -/

namespace Sys2Proof.Machine

/-! ## Channel outer loops (R246 to R250) -/

/-- The current request of a step and its sign as regulated at bay time `t`: SET or the ramp that replaces it (R226, R246). -/
def Chan.setNow (x : Chan) (t : Nat) : Int :=
  match x.ramp with
  | some r => if t < r.t0 + r.ms.toNat * msTicks ∧ 0 < r.ms then r.from_ + ((r.to_ - r.from_) * ((t - r.t0 : Nat) : Int)).tdiv (r.ms * msTicks) else r.to_
  | none => if x.par.mode = 3 then x.par.vlim else x.par.set

/-- The voltage limit in force: a ramp in CV moves it (R226, R246). -/
def Chan.vLimNow (x : Chan) (t : Nat) : Int := if x.par.mode = 3 then x.setNow t else x.par.vlim

/-- A quotient held within ±`lim`; a divisor of 0 gives the bound of the dividend's sign, as binary64 does (R242, R246). -/
def divLim (n d lim : Rat) : Rat :=
  if d = 0 then (if 0 < n then lim else if n < 0 then -lim else 0) else clampR (-lim) lim (fdiv n d)

/-- The converter cap of wale n in W: its rating under R51 times its thermal factor (R51, R359). -/
def Bay.convCap (b : Bay) (n : Nat) : Rat :=
  let r := b.convRating n
  (if b.flag (F.SEC_STAT_CAP_CONT n) then (r.1 : Rat) else r.2) * mkRat (nth b.therm.convF n) 200

/-- SECn.ETA as a fraction. -/
def Bay.etaOf (b : Bay) (n : Nat) : Rat := mkRat (b.rd (F.SEC_ETA n)) 10000

/-- Channel c is a designated donor that serves in ride-through (R64, R65). -/
def Bay.rtServes (b : Bay) (c : Nat) : Bool := b.plant.rtOn && b.plant.rtDonors.contains c

/-- What wale n asks of its donors in ride-through, W at its section bus (R65): its share of the node's load by the caps of the converters that have a donor, and its own loss. The node carries the axis converter, in either direction, and the 60 W control supply where the node feeds it. -/
def Bay.rtDemand (b : Bay) (n : Nat) : Rat :=
  let serving := (List.range 4).filter (fun m => b.plant.rtDonors.any (fun c => waleOf c == m))
  let caps := serving.foldl (fun (a : Rat) m => a + b.convCap m) 0
  let node : Rat := b.plant.axNodeP + (if b.plant.auxSupply then 60 else 0)
  let share := if caps = 0 then 0 else node * b.convCap n / caps
  (if 0 ≤ share then share / b.etaOf n else share * b.etaOf n) + b.rd (F.SEC_LOSS n)

/-- The current of a designated donor in µA, negative while it discharges (R65): an equal share of its wale's demand, within SECn.DON_IMAX in either direction. -/
def Bay.rtCurrent (b : Bay) (c : Nat) (v : Rat) : Rat :=
  let n := waleOf c
  let k : Rat := ((b.plant.rtDonors.filter (fun d => waleOf d == n)).length : Nat)
  let most : Rat := (b.rd (F.SEC_DON_IMAX n) * 1000 : Int)
  if v ≤ 0 || k = 0 then 0 else clampR (-most) most (-(b.rtDemand n / k * 1000000000000) / v)

/-- i_req of R246 in µA; HOLD gives 0. A called donor discharges at the called current (R61), a designated one in ride-through at its share of the demand (R65). -/
def Bay.iReq (b : Bay) (c : Nat) (v : Rat) : Rat :=
  let x := b.chanOf c
  let s : Rat := x.setNow b.now
  let lim : Rat := x.par.aux.natAbs
  let don := (b.meansOf c).donCall
  if b.rtServes c then b.rtCurrent c v
  else if don ≠ 0 then -(don : Rat)
  else if !x.holds.isEmpty then 0
  else match x.par.mode with
    | 2 => s
    | 4 => s
    | 5 => divLim (fmul s 1000000000) v lim
    | 6 => divLim (fmul (-v) 1000000) s lim
    | 7 => if x.secondLevel then x.par.aux else s
    | _ => 0

/-- What the step in force asks for, in µA with its sign (R150): the request in CC, CC-CV and PULSE, AUX in CV, CP and CR, where the direction of CV follows the cell: that of the target `iTgt` the loop last gave, and at zero that of `ev`, V_LIM less the cell voltage (R137). A donor is asked for its discharge. -/
def Bay.asks (b : Bay) (c : Nat) (v ev : Rat) (iTgt : Int) : Rat :=
  let x := b.chanOf c
  let aux : Rat := x.par.aux.natAbs
  let don := (b.meansOf c).donCall
  if b.rtServes c then b.rtCurrent c v
  else if don ≠ 0 then -(don : Rat)
  else if !x.holds.isEmpty then 0
  else match x.par.mode with
    | 2 => x.setNow b.now
    | 3 => if 0 < iTgt || (iTgt = 0 && 0 ≤ ev) then aux else -aux
    | 4 => x.setNow b.now
    | 5 => if 0 ≤ x.setNow b.now then aux else -aux
    | 6 => -aux
    | 7 => if x.secondLevel then x.par.aux else x.setNow b.now
    | _ => 0

/-- A class factor in 0.5 % steps: the lower of the bay's and the wale's own (R60, R247). -/
def Bay.classFactor (b : Bay) (c : Nat) (charge : Bool) : Int :=
  let w := b.waleSt (waleOf c)
  let k := ((b.rd (F.SEC_PRIO (waleOf c))) / 4 ^ (c % 16) % 4).toNat
  if charge then min (w.bayF.getD k 200) (w.ownF.getD k 200) else min (w.bayD.getD k 200) (w.ownD.getD k 200)

/-- Slot X empty or silent limits every channel to 25 % of its programmed current (R17). -/
def Bay.scale17 (b : Bay) : Rat := if b.xServes && !b.plant.limit17 then 1 else mkRat 1 4

/-- Charging is clamped to 0 A by R143: T_Z outside the charging range, or the charge envelope reached. -/
def Bay.chargeClamped (b : Bay) (c : Nat) : Bool :=
  let t := b.borderOf c
  let tz := b.rd (F.CHN_T_ZONE c)
  b.flag (F.CHN_REG_STAT_BORDER_OK c) &&
    (tz < t.tChgMin || t.tChgMax < tz || (b.cellOpen c && t.qCellMax * 3600000 ≤ b.netQ c - (b.chanOf c).cellQ0))

/-- Discharging is clamped to 0 A by R143: the cell at or below V_MIN. -/
def Bay.dischargeClamped (b : Bay) (c : Nat) (v : Rat) : Bool :=
  b.flag (F.CHN_REG_STAT_BORDER_OK c) && decide (v ≤ ((b.borderOf c).vMin : Rat))

/-- Steps 1 to 4 of R247 on a current. -/
def Bay.shaped (b : Bay) (c : Nat) (v i : Rat) : Rat :=
  let f : Rat := if (b.meansOf c).donCall ≠ 0 || b.rtServes c then 1 else mkRat (b.classFactor c (0 < i)) 200
  let i := fmul (fmul (fmul i f) b.scale17) (mkRat (b.thermChOf c).f 200)
  if 0 < i && b.chargeClamped c then 0 else if i < 0 && b.dischargeClamped c v then 0 else i

/-- Steps 5 and 6 of R247: the border's currents and the channel limit of R91. -/
def Bay.bounded (b : Bay) (c : Nat) (i : Rat) : Rat :=
  let t := b.borderOf c
  let ok := b.flag (F.CHN_REG_STAT_BORDER_OK c)
  let hi : Int := min (b.phaseLimit c) (if ok then (if t.mayCharge then t.iChg else 0) else 0)
  let lo : Int := min (b.phaseLimit c) (if ok then (if t.mayDischarge then t.iDis else 0) else 0)
  clampR (-(lo : Rat)) hi i

/-- The gains of a channel loop as they stand: KPI, KII, KPV, KIV. -/
def Bay.chGains (b : Bay) (c : Nat) : List Int := [b.rd (F.LPC_KPI c), b.rd (F.LPC_KII c), b.rd (F.LPC_KPV c), b.rd (F.LPC_KIV c)]

/-- kp_i in Ω (register in nΩ). -/
def kpI (g : List Int) : Rat := dec (nth g 0) 1000000000
/-- ki_i in Ω/s (register in mΩ/s). -/
def kiI (g : List Int) : Rat := dec (nth g 1) 1000
/-- kp_v in A/V. -/
def kpV (g : List Int) : Rat := nth g 2
/-- ki_v in A/(V·s). -/
def kiV (g : List Int) : Rat := nth g 3

/-- T of the channel and current loops: 40 µs. -/
def frameT : Rat := dec 40 1000000

/-- Reconstruct the fundamental of a sweep at this frame edge (R170, R260): voltage and current. -/
def Bay.fundAt (b : Bay) (c : Nat) : Rat × Rat :=
  let w := b.sweepOf c
  if !b.flag (F.EISCH_STAT_RUN c) then (0, 0)
  else match w.fund with
    | none => (0, 0)
    | some (vc, vs, ic, is_) =>
      let f : Rat := w.freq
      let off := b.genOffset c
      let th := fadd (fmul f (dec (((b.now - w.openAt : Nat) : Int) * 8000 - 59760000) 1000000000000)) off
      let x := fmul f (dec 1 12500000)
      let s1 := sinTurn (fmul x 250)
      let s2 := fmul 250 (sinTurn x)
      let r := fdiv s1 s2
      let g := if w.freq = 0 then 1 else fmul (fmul r r) r
      let co := cosTurn th
      let si := sinTurn th
      (fmul g (fadd (fmul vc co) (fmul vs si)), fmul g (fadd (fmul ic co) (fmul is_ si)))

/-- The cell voltage and current of the last sample without a sweep's fundamental (R170), µV and µA. -/
def Bay.loopV (b : Bay) (c : Nat) : Int := b.rd (F.CHN_V c) - truncR (b.fundAt c).1
def Bay.loopI (b : Bay) (c : Nat) : Int := b.rd (F.CHN_I c) - truncR (b.fundAt c).2

/-- A step regulates through the voltage limiter of R248: not HOLD and REST, which regulate zero current without a limit (R136, R153), and no donor, whose current its call sets (R61, R65; log entry 11). -/
def Bay.regulates (b : Bay) (c : Nat) : Bool :=
  let x := b.chanOf c
  decide (1 < x.par.mode) && x.holds.isEmpty && decide ((b.meansOf c).donCall = 0) && !b.rtServes c

/-- The voltage limiter of R248 with the presets of R257: x_v, the current target and its report `lim`. `g` are the gains in force, `l` what the loop held before. -/
def Bay.limiter (b : Bay) (c : Nat) (l : LoopCh) (g : List Int) (v iCmd : Rat) : Rat × Rat × Bool :=
  if !b.regulates c then (l.xv, iCmd, false)
  else
    let x := b.chanOf c
    let old := if l.gains.isEmpty then g else l.gains
    let ev := fsub (x.vLimNow b.now : Rat) v
    let pe := fmul (kpV g) ev
    let xv := if kpV old = kpV g then l.xv else fadd l.xv (fmul (fsub (kpV old) (kpV g)) ev)
    let up := if l.presetV then fsub iCmd pe else fadd xv (fmul (fmul (kiV g) frameT) ev)
    if x.par.mode = 3 then
      let hi := fsub (b.bounded c (b.shaped c v x.par.aux.natAbs)) pe
      let lo := fsub (b.bounded c (b.shaped c v (-(x.par.aux.natAbs : Int)))) pe
      let xv := min hi (max lo up)
      (xv, fadd pe xv, decide (xv = hi ∨ xv = lo))
    else if 0 ≤ iCmd then
      let xv := min (fsub iCmd pe) up
      let i := min iCmd (fadd pe xv)
      (xv, i, decide (i < iCmd))
    else
      let xv := max (fsub iCmd pe) up
      let i := max iCmd (fadd pe xv)
      (xv, i, decide (iCmd < i))

/-- x_i of R248 with its holds (R249) and presets (R257): `ff` is what the output is without it, `e` the current error. -/
def Bay.currentInt (b : Bay) (c : Nat) (l : LoopCh) (g : List Int) (man held : Bool) (e ff : Rat) : Rat :=
  let old := if l.gains.isEmpty then g else l.gains
  let xmax : Rat := (b.rd (F.LPC_CFG_XMAX c) * 1000 : Int)
  let xi := if kpI old = kpI g then l.xi else fadd l.xi (fmul (fsub (kpI old) (kpI g)) e)
  if l.man && !man then clampR (-xmax) xmax (fsub (b.rd (F.LPC_MAN_OUT c)) ff)
  else if held then clampR (-xmax) xmax xi
  else min xmax (max (-xmax) (fadd xi (fmul (fmul (kiI g) frameT) e)))

/-- A clamp of R143 acts on what the step asks for. -/
def Bay.clampActs (b : Bay) (c : Nat) (v asks : Rat) : Bool :=
  (decide (0 < asks) && b.chargeClamped c) || (decide (asks < 0) && b.dischargeClamped c v)

/-- What the loop reports to the regulation logic (R247, R150, R164): whether steps 1 to 4 hold the current below 50 % of what the step asks for, and whether the scaling, derating or a clamp holds it below that. -/
def Bay.reportLimits (b : Bay) (c : Nat) (v asks : Rat) : Bay :=
  let ext := decide (2 * absR (b.shaped c v asks) < absR asks)
  let other := decide (asks ≠ 0) && (decide (b.scale17 < 1) || decide ((b.thermChOf c).f < 200) || b.clampActs c v asks)
  let b := b.setMeans c { b.meansOf c with ext := ext, otherLimit := other }
  b.setFlag (F.CHN_REG_STAT_EXTLIM c) ext

/-- REG_STAT.LIM from the loop's report (R137): set while I_LIM binds in CV, set by reaching V_LIM in the other modes. -/
def Bay.showLim (b : Bay) (c : Nat) (lim : Bool) : Bay :=
  if !b.regulates c then b
  else if (b.chanOf c).par.mode = 3 then b.setFlag (F.CHN_REG_STAT_LIM c) lim
  else b.onlyIf lim (fun b => b.setFlag (F.CHN_REG_STAT_LIM c) true)

/-- The values a loop starts a frame from, which a missed deadline brings back (R244). -/
def Bay.loopBefore (b : Bay) (c : Nat) : LoopCh :=
  let l := b.loopChOf c
  let m := b.meansOf c
  { l with xi0 := l.xi, xv0 := l.xv, vRef0 := l.vRef, iTgt0 := l.iTgt, preset0 := l.presetV, man0 := l.man, gains0 := l.gains,
           ranAt := some b.now, iCmd0 := l.iCmd, lim0 := l.lim, held0 := l.held, flag0 := b.flag (F.CHN_REG_STAT_LIM c), ext0 := m.ext, other0 := m.otherLimit }

/-- A channel loop with its cell switch open sends the cell voltage as its reference and holds x_i at 0 (R250). -/
def Bay.chanLoopOpen (b : Bay) (c : Nat) (l : LoopCh) (man : Bool) (v0 : Int) : Bay :=
  (b.setLoopCh c { l with vRef := v0, iTgt := 0, xi := 0, man := man, gains := b.chGains c, lim := false, held := false, iCmd := 0 }).wr (F.LPC_XI c) 0

/-- A channel loop with its cell switch closed (R247 to R249): `v` and `i` without the fundamental of a sweep, µV and µA. -/
def Bay.chanLoopClosed (b : Bay) (c : Nat) (l : LoopCh) (man : Bool) (v i : Rat) : Bay :=
  let g := b.chGains c
  let iCmd := b.bounded c (b.shaped c v (b.iReq c v))
  let r := b.limiter c l g v iCmd
  let xv := r.1
  let iTgt := r.2.1
  let lim := r.2.2
  let e := fsub iTgt i
  let held := (l.clampLow && decide (0 < e)) || (l.clampHigh && decide (e < 0))
  let ff := fadd (fadd v (fmul iTgt (dec (b.rd (F.CHN_RPATH c)) 1000000))) (fmul (kpI g) e)
  let xi := b.currentInt c l g man held e ff
  let out : Int := if man then b.rd (F.LPC_MAN_OUT c) else truncR (fadd ff xi)
  let b := (b.showLim c lim).reportLimits c v (b.asks c v (fsub ((b.chanOf c).vLimNow b.now : Rat) v) (truncR iTgt))
  let b := b.setLoopCh c { l with xi := xi, xv := xv, vRef := out, iTgt := truncR iTgt, iCmd := iCmd, lim := lim, held := held, presetV := false, man := man, gains := g }
  (b.wr (F.LPC_XI c) (truncR xi)).wr (F.LPC_XV c) (truncR xv)

/-- One evaluation of a channel loop (R248 to R250, R257) on a sample in µV and µA. The output in manual starts from the reference in force. -/
def Bay.chanLoop (b : Bay) (c : Nat) (v0 i0 : Int) : Bay :=
  let l := b.loopBefore c
  let man := b.flag (F.LPC_CFG_MAN c)
  let b := if man && !l.man then b.wr (F.LPC_MAN_OUT c) (if b.switchClosed c then l.vRef else v0) else b
  if !b.switchClosed c then b.chanLoopOpen c l man v0
  else
    let fu := b.fundAt c
    b.chanLoopClosed c l man (fsub v0 fu.1) (fsub i0 fu.2)

/-! ## Axis loops (R251 to R254, R274 to R280, R286) -/

/-- The current limit of axis a in mA (R252, R275, R359). -/
def Bay.iMax (b : Bay) (a : Nat) : Rat :=
  let base : Rat := if b.flag (F.AXS_STAT_I2T_LIM a) then fmul (fsqrt 2) (b.rd (F.AXS_I_CONT a)) else b.rd (F.AXS_I_PEAK a)
  fmul base (fdiv (b.therm.axisF.getD a 200) 200)

/-- Entry k of a press axis's friction table (R253). -/
def Bay.fricEntry (b : Bay) (a k : Nat) : Int := b.rd ⟨.fric, 128 * a + k / 2, 0, 16 * (k % 2)⟩

/-- Entry j of a press axis's cogging table (R254). -/
def Bay.cogEntry (b : Bay) (a j : Nat) : Int := b.rd ⟨.cog, 512 * a + j / 2, 0, 16 * (j % 2)⟩

/-- The friction term at a speed reference in rpm, mA (R253). -/
def Bay.fricAt (b : Bay) (a : Nat) (w : Rat) : Rat :=
  if !(isPress a && b.flag (F.LPA_CFG_FRIC_EN a)) then 0
  else
    let sp := fdiv (b.rd (F.LPA_FRIC_SPD a)) 10
    let u := clampR 0 255 (fdiv (fmul (fadd w sp) 255) (fmul 2 sp))
    let k := u.floor.toNat
    let y0 : Rat := b.fricEntry a k * 10
    let y1 : Rat := b.fricEntry a (min 255 (k + 1)) * 10
    fadd y0 (fmul (fsub y1 y0) (fsub u (k : Rat)))

/-- The cogging term at the frame edge advanced by 56 µs, mA; 0 until the revolution reference is found (R254). -/
def Bay.cogAt (b : Bay) (a : Nat) (w : Rat) : Rat :=
  if !(isPress a && b.flag (F.LPA_CFG_COG_EN a) && b.flag (F.POS_STAT_REF_FOUND a)) then 0
  else
    let p := fadd (b.encOf a).frac (fmul (fdiv w 60) (dec 56 1000000))
    let u := fmul (p - (p.floor : Rat)) 1024
    let j := u.floor.toNat % 1024
    let y0 : Rat := b.cogEntry a j * 10
    let y1 : Rat := b.cogEntry a ((j + 1) % 1024) * 10
    fadd y0 (fmul (fsub y1 y0) (u - (u.floor : Rat)))

/-- The source of the angle at a speed in 0.1 rpm (R270): injection below 8 % of N_RATED, a blend to 10 %, the observer above. -/
def Bay.angleSrc (b : Bay) (a : Nat) (w : Int) : Int :=
  let n := b.rd (F.AXS_N_RATED a)
  let p : Int := 10 * w.natAbs
  if p < 8 * n then 1 else if p < 10 * n then 2 else 3

/-- The difference of two angles in turns, within half a turn. -/
def turnDiff (x y : Rat) : Rat := let d := x - y; d - ((d + mkRat 1 2).floor : Rat)

/-- The feedback angle is in use or ready for it (R271). -/
def Bay.fbReady (b : Bay) (a : Nat) : Bool :=
  isPress a && b.flag (F.AXS_CFG_FB_EN a) && b.flag (F.POS_STAT_REF_FOUND a) && !(b.axisOf a).fbExcl

/-- The electrical angle by position feedback, without its offset, in turns (R271). -/
def Bay.fbTurns (b : Bay) (a : Nat) : Rat := fmul (b.encOf a).frac (b.rd (F.AXS_CFG_POLES a))

/-- The fused feedback angle (R271). -/
def Bay.fusedAngle (b : Bay) (a : Nat) : Rat := fadd (b.fbTurns a) (fdiv (b.axisOf a).fbOfs 65536)

/-- The injection angle with the half-turn it leaves open (R270, R272); the pulses of the polarity test act along the angle as it stands. -/
def Bay.injAngle (b : Bay) (a : Nat) (thInj : Rat) : Rat :=
  let x := b.axisOf a
  if x.flip && !(b.axState a == Ax.starting && x.seq ≤ 3) then fadd thInj (dec 1 2) else thInj

/-- The angle and its source (R270, R271): injection, a blend whose injection weight falls from 1 to 0, the observer or the feedback angle fused with it. Angles in turns. -/
def Bay.axisAngle (b : Bay) (a : Nat) (thInj thObs : Rat) (w : Int) : Rat × Int × Bool :=
  let inj := b.injAngle a thInj
  match b.angleSrc a w with
  | 1 => (inj, 1, false)
  | 2 =>
    let n : Rat := b.rd (F.AXS_N_RATED a)
    let k := fdiv (fsub 10 (fdiv (10 * (w.natAbs : Int)) n)) 2
    (fadd thObs (fmul k (turnDiff inj thObs)), 2, false)
  | _ => if b.fbReady a then (b.fusedAngle a, 3, true) else (thObs, 3, false)

/-- The observer trims the feedback offset at 1 Hz bandwidth; the first trim after a START takes it directly (R271). -/
def Bay.trimOfs (b : Bay) (a : Nat) (thObs : Rat) : Bay :=
  let x := b.axisOf a
  let ofs := if x.fbTrimmed then fadd x.fbOfs (fmul (fmul (turnDiff thObs (b.fusedAngle a)) 65536) (fmul (fmul 2 piR) frameT))
    else fmul (fsub thObs (b.fbTurns a)) 65536
  let ofs := ofs - 65536 * ((ofs / 65536).floor : Rat)
  (b.wr (F.AXS_FB_OFS a) (truncR ofs)).setAxis a { x with fbOfs := ofs, fbTrimmed := true }

/-- What the observer decides beside the angle (R270, R271): since when the fused angle is more than 30° away from it, and from 8 % on the half-turn of the injection angle. -/
def Bay.watchAngle (b : Bay) (a : Nat) (thInj thObs : Rat) (w : Int) : Bay :=
  let x := b.axisOf a
  let apart := b.fbReady a && x.fbTrimmed && decide (mkRat 1 12 < absR (turnDiff (b.fusedAngle a) thObs))
  let flip := if b.angleSrc a w = 1 then x.flip else decide (mkRat 1 4 < absR (turnDiff thInj thObs))
  b.setAxis a { x with fbApart := if apart then some (x.fbApart.getD b.now) else none, flip := flip }

/-- i_q for this frame: what the start, hold and stop sequences impose, or the speed loop's reference (R272, R278, R268). -/
def Bay.iqWanted (b : Bay) (a : Nat) : Rat :=
  let x := b.axisOf a
  let l := b.loopAxOf a
  let st := b.axState a
  let fade := fun (i : Rat) (t : Nat) => fmul i (max 0 (1 - mkRat (b.now - t : Nat) (20 * msTicks)))
  if st = Ax.starting then (if 4 ≤ x.seq then l.iqRef else 0)
  else if st = Ax.stopping then
    match x.stopT with
    | some t => fade l.iqRef t
    | none => l.iqRef
  else if st = Ax.run then
    if x.prSeq = 1 || x.prSeq = 3 then x.iqHeld
    else if x.prSeq = 2 then fade x.iqHeld x.prT
    else if isPress a && b.rd (F.AXS_CFG_MODE a) == 2 && (b.rd (F.AXS_STAT_PRS a) == 3 || b.rd (F.AXS_STAT_PRS a) == 0) then 0
    else if x.zeroTorque then 0
    else l.iqRef
  else 0

/-- The spec has no current in the axis: the catch window and the tests of a start, a press released or in HOLD, a coast at zero torque (R272, R274, R277; log entry 83). -/
def Bay.zeroCurrent (b : Bay) (a : Nat) : Bool :=
  let x := b.axisOf a
  let st := b.axState a
  (st == Ax.starting && decide (x.seq < 4)) ||
    (st == Ax.run && x.prSeq == 0 && ((isPress a && b.rd (F.AXS_CFG_MODE a) == 2 && (b.rd (F.AXS_STAT_PRS a) == 3 || b.rd (F.AXS_STAT_PRS a) == 0)) || x.zeroTorque))

/-- i_d_ref of axis a, mA (R252, R272): the two d-axis pulses of the polarity test, 2 ms each, of 50 % of √2 × I_CONT. -/
def Bay.idWanted (b : Bay) (a : Nat) : Rat :=
  let x := b.axisOf a
  let p := fmul (dec 1 2) (fmul (fsqrt 2) (b.rd (F.AXS_I_CONT a)))
  if b.axState a = Ax.starting && x.seq = 3 then
    (if b.now < x.t0 + 27 * msTicks then p else if b.now < x.t0 + 29 * msTicks then -p else 0)
  else 0

/-- The loops of axis a at the start of a frame, with what a miss brings back (R244). -/
def Bay.axisBefore (b : Bay) (a : Nat) : LoopAx :=
  let l := b.loopAxOf a
  let x := b.axisOf a
  { l with saved :=
      { ranAt := some b.now, xd := l.xd, xq := l.xq, xs := l.xs, xf := l.xf, iqRef := l.iqRef, iqSum := l.iqSum, idRef := l.idRef, wRef := l.wRef,
        pRef := l.pRef, pRefPrev := l.pRefPrev, vd := l.vd, vq := l.vq, valpha := l.valpha, vbeta := l.vbeta, vlimited := l.vlimited, fric := l.fric,
        cog := l.cog, man := l.man, gains := l.gains, kps := l.kps, kpf := l.kpf, wRamp := x.wRamp, fr := x.fr, prSeq := x.prSeq, stopT := x.stopT,
        zeroTorque := x.zeroTorque, revHeld := b.flag (F.AXS_STAT_REV_HELD a), brkOn := b.flag (F.AXS_STAT_BRK_ON a) } }

/-- What the samples of an axis give before its current loop (R251, R270): angle and its source, speed, phase currents and their dq vector. Currents in mA. -/
def Bay.axisMeasure (b : Bay) (a : Nat) (iu iv iw : Int) (thInj thObs : Rat) (w : Int) : Bay :=
  let b := b.watchAngle a thInj thObs w
  let (th, src, fb) := b.axisAngle a thInj thObs w
  let we := fmul (fmul (fdiv w 10) (fdiv (fmul 2 piR) 60)) (b.rd (F.AXS_CFG_POLES a))
  let runs := b.axState a = Ax.run || b.axState a = Ax.stopping
  let b := if runs then (b.wr (F.AXS_STAT_ASRC a) src).setFlag (F.AXS_STAT_FB_USED a) fb else b
  let b := if fb && runs then b.trimOfs a thObs else b
  let co := cosTurn th
  let si := sinTurn th
  let ia := fmul (fdiv 2 3) (fsub (iu : Rat) (fdiv ((iv + iw : Int) : Rat) 2))
  let ib := fdiv ((iv - iw : Int) : Rat) (fsqrt 3)
  let id := fadd (fmul ia co) (fmul ib si)
  let iq := fsub (fmul ib co) (fmul ia si)
  (b.setAxis a { b.axisOf a with w := w, iu := iu, iv := iv, iw := iw, theta := th, omegaE := we, id := id, iq := iq }).wr (F.AXS_SPD a) w

/-- The i²t budget over one frame (R275). -/
def Bay.i2tStep (b : Bay) (a : Nat) : Bay :=
  let x := b.axisOf a
  let p := truncR ((x.id * x.id + x.iq * x.iq) / 2)
  let ic := b.rd (F.AXS_I_CONT a)
  let d := p - ic * ic
  let nxt := clampI 0 (b.i2tFull a * i2tUnit) (b.i2tLeft a - (if 0 < d then 10 * d else d))
  ((b.setAxis a { x with budget := nxt, budgetSet := true }).wr (F.AXS_I2T a) (nxt / i2tUnit)).i2tLimit a

/-- The current loop of axis a on what `axisMeasure` gave (R251). Currents in mA, the bus in mV. -/
def Bay.currentLoop (b : Bay) (a : Nat) (vbus : Int) : Bay :=
  let x := b.axisOf a
  let l := b.axisBefore a
  let we := x.omegaE
  if !b.axisDrives a then b.setLoopAx a { l with vd := 0, vq := 0, valpha := 0, vbeta := 0, iqSum := 0 }
  else
    let g := [b.rd (F.LPA_KPC a), b.rd (F.LPA_KIC a), b.rd (F.LPA_KPS a), b.rd (F.LPA_KIS a)]
    let kp : Rat := dec (nth g 0) 1000
    let kpOld : Rat := dec (nth l.gains 0) 1000
    let ki : Rat := nth g 1
    let im := b.iMax a
    let cog := if b.zeroCurrent a then 0 else b.cogAt a (fdiv x.w 10)
    let ref := clampR (-im) im (fadd (b.iqWanted a) cog)
    let l := { l with idRef := b.idWanted a }
    let ed := fsub l.idRef x.id
    let eq := fsub ref x.iq
    let ld : Rat := dec (b.rd (F.AXS_LD a)) 100000000
    let lq : Rat := dec (b.rd (F.AXS_LQ a)) 100000000
    let psi : Rat := dec (b.rd (F.AXS_PSI a)) 1000
    let regain := !l.gains.isEmpty && kpOld ≠ kp
    let xd := if regain then fadd l.xd (fmul (fsub kpOld kp) ed) else l.xd
    let xq := if regain then fadd l.xq (fmul (fsub kpOld kp) eq) else l.xq
    let ud := fsub (fadd (fmul kp ed) xd) (fmul (fmul we lq) x.iq)
    let uq := fadd (fadd (fmul kp eq) xq) (fmul we (fadd (fmul ld x.id) psi))
    let vm := fdiv (fmul (dec 95 100) vbus) (fsqrt 3)
    let vd := clampR (-vm) vm ud
    let vr := fsqrt (fsub (fmul vm vm) (fmul vd vd))
    let vq := clampR (-vr) vr uq
    let xd := if vd = ud ∨ sgnR ed ≠ sgnR ud then fadd xd (fmul (fmul ki frameT) ed) else xd
    let xq := if vq = uq ∨ sgnR eq ≠ sgnR uq then fadd xq (fmul (fmul ki frameT) eq) else xq
    let th2 := fadd x.theta (fmul (fdiv we (fmul 2 piR)) (dec 56 1000000))
    let c2 := cosTurn th2
    let s2 := sinTurn th2
    let va := fsub (fmul vd c2) (fmul vq s2)
    let vb := fadd (fmul vd s2) (fmul vq c2)
    let b := b.setLoopAx a { l with xd := xd, xq := xq, vd := (truncR vd : Int), vq := (truncR vq : Int), valpha := (truncR va : Int), vbeta := (truncR vb : Int),
                                     vlimited := decide (vd ≠ ud ∨ vq ≠ uq), iqSum := ref, cog := cog, gains := g }
    (b.wr (F.LPA_XD a) (truncR xd)).wr (F.LPA_XQ a) (truncR xq)

/-- The minimum coolant speed of the pump or fan in rpm (R280, R360, R362). -/
def Bay.coolMin (b : Bay) (a : Nat) : Rat :=
  let n : Rat := b.rd (F.AXS_N_RATED a)
  if isPress a then 0
  else if b.flag F.THM_STAT_TSD then n
  else
    let m : Rat := if a = 4 then b.rd F.THM_PUMP_MIN_VAL else b.rd F.THM_FAN_MIN_VAL
    let hot := [b.rd F.THM_PLATE0_T, b.rd F.THM_PLATE1_T, b.rd F.THM_PLATE2_T, b.rd F.THM_PLATE3_T, b.rd F.THM_PLATE4_T, b.rd F.THM_PLATE5_T].foldl max (-4000)
    if b.rd F.PWR_ENTRY_STAT_STATE = 0 ∧ hot ≤ 4000 then 0
    else
      let pc : Rat := if hot ≤ 4000 then m else m + (100 - m) * min 1 (mkRat (hot - 4000) 3000)
      n * pc / 100

/-- The X60 speed as a fraction of full scale (R281); `v` in mV, 0.01 % or 0.1 Hz. -/
def x60Fraction (form v : Int) : Rat :=
  match form with
  | 0 => if v < 500 then 0 else min 1 (mkRat (v - 500) 9500)
  | 1 => if v < 500 then 0 else min 1 (mkRat (v - 500) 9000)
  | _ => if v < 10 then 0 else mkRat v 20000

/-- The speed the host, X60 or the position and force loops ask for, rpm (R274, R277, R280). -/
def Bay.speedAsked (b : Bay) (a : Nat) : Rat :=
  if b.axState a = Ax.stopping then 0
  else if isPress a then
    match b.rd (F.AXS_CFG_MODE a) with
    | 0 => b.rd (F.AXS_SPD_REF a)
    | _ => (b.loopAxOf a).wRef
  else
    let asked : Rat :=
      if b.rd (F.AXS_CFG_MODE a) = 1 then
        if b.flag (F.AXS_STAT_X60_LOSS a) then b.rd (F.AXS_X60_FB a)
        else x60Fraction (b.rd (F.AXS_CFG_X60_FORM a)) (b.rd (F.AXS_X60_IN a)) * (b.rd (F.AXS_X60_SMAX a) : Rat)
      else b.rd (F.AXS_SPD_REF a)
    max asked (b.coolMin a)

/-- The reversal threshold in 0.1 rpm (R274). -/
def Bay.revThr (b : Bay) (a : Nat) : Int := b.rd (F.AXS_CFG_REV_THR a) * b.rd (F.AXS_N_RATED a) / 100

/-- A speed reference against the measured speed (R274): held while it is a reversal above the threshold; otherwise it applies. The answer is the reference to follow. -/
def Bay.reversal (b : Bay) (a : Nat) (w : Int) (ref : Rat) : Rat × Bay :=
  let x := b.axisOf a
  let rev := (0 < w && decide (ref < 0)) || (w < 0 && decide (0 < ref))
  if rev && b.revThr a < w.natAbs then
    let coast := b.flag (F.AXS_CFG_RUNDOWN a)
    (0, (b.setFlag (F.AXS_STAT_REV_HELD a) true).setAxis a { x with zeroTorque := coast, wRamp := if coast then mkRat w 10 else x.wRamp })
  else (ref, (b.setFlag (F.AXS_STAT_REV_HELD a) false).setAxis a { x with zeroTorque := false })

/-- A reference ramped over 200 µs at ACC away from zero and DEC towards it (R274). -/
def rampSpeed (cur tgt : Rat) (acc dec_ : Int) : Rat :=
  let away := decide (absR cur ≤ absR tgt)
  let step := fmul (if away then acc else dec_) (dec 2 10000)
  if cur < tgt then min tgt (fadd cur step) else max tgt (fsub cur step)

/-- A braking q-current held so that all axes return at most 4 kW while the chopper fails to conduct (R286); mA. -/
def Bay.regenLimit (b : Bay) (a : Nat) (iq : Rat) : Rat :=
  let x := b.axisOf a
  if !(b.flag F.PWR_AXBUS_CHOP_FLT && b.plant.chopUnused) || 0 ≤ iq * x.omegaE then iq
  else
    let n := (allAxes.filter (fun k => decide ((b.loopAxOf k).iqRef * (b.axisOf k).omegaE < 0))).length
    let psi : Rat := dec (b.rd (F.AXS_PSI a)) 1000000
    let pw := absR (fmul (fmul (dec 3 2) x.omegaE) psi)
    if pw = 0 then iq
    else
      let lim := fdiv (fdiv 4000000 ((max 1 n : Nat) : Rat)) pw
      clampR (-lim) lim iq

/-- The speed loop of axis a, every 200 µs (R252, R256, R257); its output is a current reference in whole mA (R242). -/
def Bay.speedLoop (b : Bay) (a : Nat) : Bay :=
  let st := b.axState a
  if !(st = Ax.run || st = Ax.stopping) || (b.axisOf a).stopT.isSome then b
  else
    let w := (b.axisOf a).w
    let (tgt, b) := b.reversal a w (b.speedAsked a)
    let x := b.axisOf a
    let l := b.loopAxOf a
    let ref := rampSpeed x.wRamp tgt (b.rd (F.AXS_ACC a)) (b.rd (F.AXS_DEC a))
    let man := b.flag (F.LPA_CFG_MAN a)
    let b := if man && !l.man then b.wr (F.LPA_MAN_OUT a) (truncR l.iqRef) else b
    let im := b.iMax a
    let kp : Rat := b.rd (F.LPA_KPS a)
    let ki : Rat := b.rd (F.LPA_KIS a)
    let ew := fsub ref (fdiv w 10)
    let pe := fmul kp ew
    let fr := b.fricAt a ref
    let was : Rat := l.kps.getD (b.rd (F.LPA_KPS a))
    let xs0 := if was = kp then l.xs else fadd l.xs (fmul (fsub was kp) ew)
    let xs := if l.man && !man then clampR (fsub (-im) pe) (fsub im pe) (fsub (fsub (b.rd (F.LPA_MAN_OUT a)) pe) fr)
              else min (fsub im pe) (max (fsub (-im) pe) (fadd xs0 (fmul (fmul ki (dec 2 10000)) ew)))
    let out := b.regenLimit a (clampR (-im) im (fadd (fadd pe xs) fr))
    let out : Rat := if man then b.rd (F.LPA_MAN_OUT a) else (truncR out : Int)
    let b := b.setLoopAx a { l with xs := xs, iqRef := out, fric := fr, man := man, kps := some (b.rd (F.LPA_KPS a)) }
    let b := (b.setAxis a { x with wRamp := ref }).wr (F.LPA_XS a) (truncR xs)
    if st = Ax.stopping && isPress a && ref = 0 then
      (b.brakeNow a true).setAxis a { (b.brakeNow a true).axisOf a with stopT := some b.now, iqHeld := truncR out }
    else b

/-- The position loop (R252): w_ref in rpm, limited. -/
def Bay.posLoop (b : Bay) (a : Nat) (pref lim : Rat) : Bay :=
  let l := b.loopAxOf a
  let wff := fmul (fsub pref l.pRefPrev) 60000
  let w := fadd (fmul (fdiv (fmul 60 (b.rd (F.LPA_KPP a))) 1000) (fsub pref (b.encOf a).frac)) wff
  b.setLoopAx a { l with wRef := clampR (-lim) lim w, pRef := pref, pRefPrev := pref }

/-- The force target of a press (R228, R277): F_HOST in SERVICE, else the highest standing PRESS request of its wale; with none it keeps its last target. -/
def Bay.forceTarget (b : Bay) (a : Nat) : Int :=
  if b.mode = Mode.service then b.rd (F.AXS_F_HOST a)
  else
    match (waleChans a).filterMap (fun c => (b.engOf c).press) with
    | [] => b.rd (F.AXS_F_TGT a)
    | x :: l => l.foldl max x

/-- The brake of a press engages and its current goes (R278, R279): 25 ms after the command i_q ramps to 0 over 20 ms, then the press is in HOLD, or RELEASED where it was releasing. -/
def Bay.pressRamp (b : Bay) (a : Nat) : Bay :=
  let x := b.axisOf a
  if x.prSeq = 1 && x.prT + 25 * msTicks ≤ b.now then (b.brakeNow a true).setAxis a { b.axisOf a with prSeq := 2, prT := b.now, brakeAt := none }
  else if x.prSeq = 2 && x.prT + 20 * msTicks ≤ b.now then
    let released := b.rd (F.AXS_STAT_PRS a) = 4
    let b := (b.wr (F.AXS_STAT_PRS a) (if released then 0 else 3)).setLoopAx a { b.loopAxOf a with iqRef := 0 }
    b.setAxis a { x with prSeq := 0, fHeld := b.rd (F.AXS_FORCE a), outBand := none, inBand := none }
  else b

/-- The press sequence at a frame edge (R277 to R279): targets, bands and the states that need no row of their own. -/
def Bay.pressEdge (b : Bay) (a : Nat) : Bay :=
  let b := b.wr (F.AXS_F_TGT a) (b.forceTarget a)
  if !(b.axState a == Ax.run && b.rd (F.AXS_CFG_MODE a) == 2) then b
  else
    let x := b.axisOf a
    let f := b.rd (F.AXS_FORCE a)
    let tgt := b.rd (F.AXS_F_TGT a)
    let band := b.rd (F.AXS_F_BAND a)
    let keep := fun (o : Option Nat) => match o with
      | some t => some t
      | none => some b.now
    let x := { x with inBand := if (f - tgt).natAbs ≤ band then keep x.inBand else none
                      outBand := if 2 * band < (f - tgt).natAbs then keep x.outBand else none }
    let b := b.setAxis a x
    if b.rd (F.AXS_STAT_PRS a) = 4 && (x.prSeq = 1 || x.prSeq = 2) || x.prSeq = 2 then b.pressRamp a
    else if x.prSeq = 1 || x.prSeq = 2 || x.prSeq = 3 then b
    else match b.rd (F.AXS_STAT_PRS a) with
      | 0 => if tgt = 0 then b else (b.setAxis a { x with prSeq := 3, prT := b.now }).brakeCmd a false
      | 1 => if tgt = 0 then (b.wr (F.AXS_STAT_PRS a) 4).setAxis a { x with prSeq := 0 }
             else if b.rd (F.AXS_F_FS a) ≤ 20 * f then (b.wr (F.AXS_STAT_PRS a) 2).setLoopAx a { b.loopAxOf a with xf := 0 } else b
      | 2 => if tgt = 0 then (b.wr (F.AXS_STAT_PRS a) 4).setAxis a { x with prSeq := 0 } else b
      | 4 => if tgt = 0 then b
             else ((b.wr (F.AXS_STAT_PRS a) (if 20 * f < b.rd (F.AXS_F_FS a) then 1 else 2)).setLoopAx a { b.loopAxOf a with xf := 0 }).setAxis a { x with prSeq := 0, fr := f }
      | _ => b

/-- The force loop, every 1 ms (R277, R279). -/
def Bay.forceLoop (b : Bay) (a : Nat) : Bay :=
  let x := b.axisOf a
  let prs := b.rd (F.AXS_STAT_PRS a)
  let vapp : Rat := b.rd (F.AXS_V_APP a)
  if prs = 4 && x.prSeq = 4 then b.posLoop a (mkRat (b.rd (F.AXS_REL_POS a)) 65536) vapp
  else if prs = 1 || prs = 2 || prs = 4 then
    let rate := fmul (b.rd (F.AXS_F_RATE a)) (dec 1 1000)
    let tgt : Rat := if prs = 4 then 0 else b.rd (F.AXS_F_TGT a)
    let fr := if x.fr < tgt then min tgt (fadd x.fr rate) else max tgt (fsub x.fr rate)
    let lim := if prs = 2 then (b.rd (F.LPA_CFG_WMAX a) : Rat) else vapp
    let kp := dec (b.rd (F.AXS_KPF a)) 1000
    let ki := dec (b.rd (F.AXS_KIF a)) 1000
    let e := fsub fr (b.rd (F.AXS_FORCE a))
    let l := b.loopAxOf a
    let was := dec (l.kpf.getD (b.rd (F.AXS_KPF a))) 1000
    let xf0 := if was = kp then l.xf else fadd l.xf (fmul (fsub was kp) e)
    let xf := min lim (max (-lim) (fadd xf0 (fmul (fmul ki (dec 1 1000)) e)))
    let w := min lim (max (-lim) (fadd (fmul kp e) xf))
    let b := (b.setLoopAx a { l with xf := xf, wRef := w, kpf := some (b.rd (F.AXS_KPF a)) }).setAxis a { x with fr := fr }
    if prs = 4 && fr = 0 then (b.setAxis a { b.axisOf a with prSeq := 4 }).setLoopAx a { b.loopAxOf a with pRefPrev := mkRat (b.rd (F.AXS_REL_POS a)) 65536 } else b
  else b.setLoopAx a { b.loopAxOf a with wRef := 0 }

/-- The position slot of a press in RUN (R240 item 4). -/
def Bay.slotLoop (b : Bay) (a : Nat) : Bay :=
  if !(isPress a && b.axState a == Ax.run) then b
  else match b.rd (F.AXS_CFG_MODE a) with
    | 2 => b.forceLoop a
    | 3 => b.posLoop a (mkRat (b.rd (F.AXS_REL_POS a)) 65536) (b.rd (F.LPA_CFG_WMAX a))
    | _ => b

/-! ## Deadlines (R244, R245) -/

/-- The lane of an object: channels by wale, AX0 and AX4 in lane 0, AX1 and AX5 in lane 1 (R239). -/
def laneOf (obj : Nat) : Nat := if obj < 64 then obj / 16 else (obj - 64) % 4

/-- DL_CLR (R264). -/
def Bay.dlClear (b : Bay) : Bay := ((b.setFlag F.LOOP_STAT_DL false).wr F.LOOP_DL_LAST_OBJ 0).wr F.LOOP_DL_LAST_LANE 0

/-- DL_CLR (R264). -/
def execDlClr (s : State) : Result := s.onBay (fun b => b.gated F.LOOP_CTL_DL_CLR Bay.dlClear)

/-! ## Trace (R261 to R263) -/

/-- Samples a lane's buffer holds per probe (R261). -/
abbrev traceLen : Nat := 8192
/-- Captures the 32 MiB trace region holds (R263, R368). -/
abbrev traceRoom : Nat := 63

/-- The probe key of probe p of lane n, and its fields. -/
def Bay.probe (b : Bay) (n p : Nat) : Bool × Nat × Nat :=
  (b.rd ⟨.loopTr, n, 0x40 + 4 * p, 31⟩ != 0, (b.rd ⟨.loopTr, n, 0x40 + 4 * p, 24⟩).toNat, (b.rd ⟨.loopTr, n, 0x40 + 4 * p, 16⟩).toNat)

/-- A probe names an object of its lane and a signal of that object's kind (R261). -/
def probeOk (n sig obj : Nat) : Bool :=
  obj < 70 && laneOf obj == n && (if obj < 64 then sig ≤ 9 else 16 ≤ sig && sig ≤ 29)

/-- Flags as a number, lowest first. -/
def flagsOf (l : List Bool) : Int := l.foldr (fun x r => (if x then 1 else 0) + 2 * r) 0

/-- The value of a probe's signal (R261). -/
def Bay.signal (b : Bay) (sig obj : Nat) : Int :=
  if obj < 64 then
    let l := b.loopChOf obj
    match sig with
    | 0 => b.rd (F.CHN_I obj)
    | 1 => l.iTgt
    | 2 => truncR l.iCmd
    | 3 => b.rd (F.CHN_V obj)
    | 4 => l.vRef
    | 5 => truncR l.xi
    | 6 => truncR l.xv
    | 7 => flagsOf [l.lim, l.held, l.misses != 0, l.man, b.flag (F.EISCH_STAT_RUN obj)]
    | 8 => truncR (b.sweepOf obj).av
    | _ => truncR ((b.sweepOf obj).ampIn * 10)
  else
    let a := obj - 64
    let l := b.loopAxOf a
    let x := b.axisOf a
    asSigned 32 (match sig with
    | 16 => truncR x.id
    | 17 => truncR x.iq
    | 18 => truncR l.idRef
    | 19 => truncR l.iqSum
    | 20 => truncR l.vd
    | 21 => truncR l.vq
    | 22 => ((x.theta - (x.theta.floor : Rat)) * 4294967296).floor
    | 23 => x.w
    | 24 => truncR (x.wRamp * 10)
    | 25 => ((b.encOf a).frac * 65536).floor
    | 26 => (l.pRef * 65536).floor
    | 27 => truncR l.fric
    | 28 => truncR l.cog
    | _ => flagsOf [l.vlimited, l.missI != 0 || l.missW != 0 || l.missP != 0, l.man])

/-- The divider in force with throttling (R243, R261). -/
def Bay.divEff (b : Bay) (n : Nat) : Nat :=
  let d := max 1 (b.rdN (F.TR_DIV_VAL n))
  match b.rd F.LOOP_STAT_THR with
  | 1 => 2 * d
  | 2 => 4 * d
  | _ => d

/-- The trigger probe crosses LEVEL between two samples (R262). -/
def crossing (kind : Int) (lev x y : Int) : Bool :=
  let up := x < lev && lev ≤ y
  let down := lev < x && y ≤ lev
  if kind = 1 then up else if kind = 2 then down else if kind = 3 then up || down else false

/-- Take one record of lane n at this frame (R261, R262). -/
def Bay.traceFrame (b : Bay) (n : Nat) : Bay :=
  if !b.flag (F.TR_STAT_ARMED n) then b
  else
    let t := b.traceOf n
    let d := b.divEff n
    let t := { t with divCnt := t.divCnt + 1, thinned := t.thinned || b.rd F.LOOP_STAT_THR != 0 }
    let b := if b.rd F.LOOP_STAT_THR = 0 then b else b.setFlag (F.TR_STAT_THIN n) true
    if t.divCnt < d then b.setTrace n t
    else
      let r := (List.range 16).map (fun p =>
        let (en, sig, obj) := b.probe n p
        if en && probeOk n sig obj then b.signal sig obj else 0)
      let kind := b.rd (F.TR_CTL_KIND n)
      let y := nth r (b.rdN (F.TR_CTL_TPRB n))
      let fired := !b.flag (F.TR_CTL_RING n) && t.trigAt.isNone &&
        ((match t.lastProbe with
          | some x => crossing kind (b.rd (F.TR_LEVEL n)) x y
          | none => false) || (kind == 4 && t.evSeen))
      let b := if fired then b.setFlag (F.TR_STAT_TRIG n) true else b
      let pre := b.rdN (F.TR_PRE_VAL n)
      let recs := t.recs ++ [r]
      let keep := if t.trigAt.isSome then recs.length else if fired then pre + 1 else if b.flag (F.TR_CTL_RING n) then traceLen else max 1 pre
      let recs := recs.drop (recs.length - keep)
      let t := { t with recs := recs, divCnt := 0, lastProbe := some y, lastRec := t.recs.getLastD [], recAt := b.now, evSeen := false,
                        trigAt := if fired then some b.now else t.trigAt
                        pre := if fired then min pre t.recs.length else t.pre
                        tFirst := if t.recs.isEmpty then b.now else t.tFirst + (t.recs.length + 1 - recs.length) * d * frameTicks
                        postLeft := if fired then traceLen - pre - 1 else t.postLeft - 1 }
      (b.setTrace n t).wr (F.TR_STAT_FILL n) (min 8191 recs.length : Nat)

/-- The captures in the trace region, over all lanes. -/
def Bay.traceUsed (b : Bay) : Nat := (List.range 4).foldl (fun k n => k + (b.traceOf n).region.length) 0

/-- A write of TRn_CTL.ARM (R262, R263): ignored while a capture runs or while the region has no room. -/
def Bay.traceArm (b : Bay) (n : Nat) : Bay :=
  let t := b.traceOf n
  if b.flag (F.TR_STAT_ARMED n) || t.waitCopy || traceRoom ≤ b.traceUsed then b.refuse (F.TR_CTL_ARM n) 4
  else
    let b := (((b.setFlag (F.TR_STAT_ARMED n) true).setFlag (F.TR_STAT_DONE n) false).setFlag (F.TR_STAT_TRIG n) false).setFlag (F.TR_STAT_THIN n) false
    (b.wr (F.TR_STAT_FILL n) 0).setTrace n { seq := t.seq, region := t.region }

/-- ARM (R262). -/
def execArm (n : Fin 4) (s : State) : Result := s.onBay (fun b => b.gated (F.TR_CTL_ARM n) (fun b => b.traceArm n))

/-- The 128-byte header of a capture (R263). -/
def Bay.traceHeader (b : Bay) (n : Nat) : List Byte :=
  let t := b.traceOf n
  leBytes 2 0x0901 ++ leBytes 1 n ++ leBytes 1 (flagsOf [t.forced, t.thinned, t.missed]) ++ leBytes 4 (b.divEff n)
    ++ leBytes 8 (t.trigAt.getD 0) ++ leBytes 8 t.tFirst ++ leBytes 2 t.pre ++ leBytes 2 0 ++ leBytes 4 t.seq
    ++ ((List.range 16).map (fun p =>
        let (en, sig, obj) := b.probe n p
        leBytes 4 ((if en then 2147483648 else 0) + (sig : Int) * 16777216 + (obj : Int) * 65536))).flatten
    ++ leBytes 32 0

/-- The capture of lane n ends and waits for its copy (R262). -/
def Bay.traceEnd (b : Bay) (n : Nat) : Bay :=
  (b.setFlag (F.TR_STAT_ARMED n) false).setTrace n { b.traceOf n with waitCopy := true, header := b.traceHeader n }

/-- A write of TRn_CTL.FORCE (R262): triggers a capture that waits, ends a ring capture. -/
def Bay.traceForce (b : Bay) (n : Nat) : Bay :=
  let t := b.traceOf n
  if !b.flag (F.TR_STAT_ARMED n) then b.refuse (F.TR_CTL_FORCE n) 4
  else if b.flag (F.TR_CTL_RING n) then
    (b.setTrace n { t with forced := true, trigAt := some (frameStart b.now), pre := t.recs.length }).traceEnd n
  else if t.trigAt.isNone then
    let pre := b.rdN (F.TR_PRE_VAL n)
    (b.setFlag (F.TR_STAT_TRIG n) true).setTrace n
      { t with forced := true, trigAt := some (frameStart b.now), pre := min pre t.recs.length, postLeft := traceLen - pre
               recs := t.recs.drop (t.recs.length - pre), tFirst := t.tFirst + (t.recs.length - pre) * b.divEff n * frameTicks }
  else b

/-- FORCE (R262). -/
def execForce (n : Fin 4) (s : State) : Result := s.onBay (fun b => b.gated (F.TR_CTL_FORCE n) (fun b => b.traceForce n))

/-- TRACE_CAPTURE_END (R262): 8,192 − PRE samples follow the trigger. -/
def execTraceCaptureEnd (n : Fin 4) (s : State) : Result :=
  s.onBay (fun b =>
    let t := b.traceOf n
    if b.flag (F.TR_STAT_ARMED n) && t.trigAt.isSome && t.postLeft = 0 then b.traceEnd n else b)

/-- Bytes a capture takes: its header, 8,192 records of 64 bytes (R263). -/
abbrev captureSize : Nat := 524416

/-- The first place of the trace region that holds no capture. -/
def Bay.tracePlace (b : Bay) : Option Nat :=
  let used := (List.range 4).flatMap (fun n => (b.traceOf n).region.map (·.1))
  ((List.range traceRoom).map (fun i => traceAt + i * captureSize)).find? (fun a => !used.contains a)

/-- The bytes of a finished capture of lane n (R263): the header and 8,192 records; where fewer were taken the rest are zeros (log entry 88). -/
def Bay.captureBytes (b : Bay) (n : Nat) : List Byte :=
  let recs := (b.traceOf n).recs
  (b.traceOf n).header ++ ((recs.map (fun r => ((List.range 16).map (fun p => leBytes 4 (nth r p))).flatten)).flatten)
    ++ List.replicate (64 * (traceLen - recs.length)) 0

/-- The stream of lane n has credit for `len` bytes more (R428, R429). -/
def Bay.traceCredit (b : Bay) (n len : Nat) : Bool :=
  let x := b.weave.streams.get {} (64 + n)
  x.wr - x.rel + len ≤ 8388608

/-- The capture of lane n stands at offset `a` of the trace region: DONE sets and the lane's stream grows (R263, R428). -/
def Bay.traceCopied (b : Bay) (n a len : Nat) : Bay :=
  let t := b.traceOf n
  let x := b.weave.streams.get {} (64 + n)
  let b := { b with weave := { b.weave with streams := b.weave.streams.put (64 + n) { x with wr := x.wr + len } } }
  (b.setFlag (F.TR_STAT_DONE n) true).setTrace n
    { t with waitCopy := false, recs := [], header := [], seq := t.seq + 1, region := t.region ++ [(a, len)] }

/-- TRACE_COPY_DONE (R263): the capture stands in the trace region of every cartridge; without room or credit it stays in the lane buffer. -/
def execTraceCopyDone (n : Fin 4) (s : State) : Result :=
  let bytes := s.bay.captureBytes n
  match (if (s.bay.traceOf n).waitCopy && s.bay.traceCredit n captureSize then s.bay.tracePlace else none) with
  | none => .next s
  | some a =>
    let s := s.bay.carts.foldl (fun s x => s.writeWords x 0 a bytes) s
    s.onBay (fun b => b.traceCopied n a captureSize)

/-! ## Missed deadlines (R244, R245, R261) -/

/-- Which loop of an object missed its deadline (R240, R244): `place` is the position loop, or the force loop in its slot. -/
inductive MissKind where
  | chan | current | speed | place
  deriving DecidableEq, Repr

/-- Whether a probe's signal comes from the loop that missed (R261): of an axis `w`, `w_ref` and `fric` belong to the speed loop, `p` and `p_ref` to the position loop, the rest to the current loop. -/
def sigOfLoop (sig : Nat) : MissKind → Bool
  | .chan => true
  | .current => sig ≤ 22 || 28 ≤ sig
  | .speed => [23, 24, 27, 29].contains sig
  | .place => [25, 26, 29].contains sig

/-- The record of this frame after a missed loop (R261): its samples repeat the previous values, the flag word records the miss. -/
def Bay.traceMiss (b : Bay) (n obj : Nat) (k : MissKind) : Bay :=
  let t := { b.traceOf n with missed := true }
  if !(b.flag (F.TR_STAT_ARMED n) && t.recAt = frameStart b.now) then b.setTrace n t
  else
    match t.recs.getLast? with
    | none => b.setTrace n t
    | some r =>
      let fix := (List.range 16).map (fun p =>
        let (en, sig, o) := b.probe n p
        if !(en && o = obj && sigOfLoop sig k) then nth r p
        else if sig = 7 then ((nth r p).toNat ||| 4 : Nat)
        else if sig = 29 then ((nth r p).toNat ||| 2 : Nat)
        else nth t.lastRec p)
      b.setTrace n { t with recs := t.recs.dropLast ++ [fix] }

/-- Channel c's loop goes back to the start of the frame (R244). -/
def Bay.undoChan (b : Bay) (c : Nat) : Bay :=
  let l := b.loopChOf c
  let b := b.setLoopCh c { l with xi := l.xi0, xv := l.xv0, vRef := l.vRef0, iTgt := l.iTgt0, presetV := l.preset0, man := l.man0, gains := l.gains0, iCmd := l.iCmd0, lim := l.lim0, held := l.held0 }
  let b := (b.wr (F.LPC_XI c) (truncR l.xi0)).wr (F.LPC_XV c) (truncR l.xv0)
  let b := (b.setMeans c { b.meansOf c with ext := l.ext0, otherLimit := l.other0 }).setFlag (F.CHN_REG_STAT_EXTLIM c) l.ext0
  b.setFlag (F.CHN_REG_STAT_LIM c) l.flag0

/-- The current loop of axis a goes back to the start of the frame (R244). -/
def Bay.undoCurrent (b : Bay) (a : Nat) : Bay :=
  let l := b.loopAxOf a
  let s := l.saved
  let b := b.setLoopAx a { l with xd := s.xd, xq := s.xq, vd := s.vd, vq := s.vq, valpha := s.valpha, vbeta := s.vbeta, vlimited := s.vlimited, idRef := s.idRef, iqSum := s.iqSum, cog := s.cog, gains := s.gains }
  (b.wr (F.LPA_XD a) (truncR s.xd)).wr (F.LPA_XQ a) (truncR s.xq)

/-- The speed loop of axis a goes back to the start of the frame (R244), with the reversal it held and the brake it engaged. -/
def Bay.undoSpeed (b : Bay) (a : Nat) : Bay :=
  let l := b.loopAxOf a
  let s := l.saved
  let b := (b.setLoopAx a { l with xs := s.xs, iqRef := s.iqRef, fric := s.fric, man := s.man, kps := s.kps }).wr (F.LPA_XS a) (truncR s.xs)
  let b := (b.setAxis a { b.axisOf a with wRamp := s.wRamp, zeroTorque := s.zeroTorque }).setFlag (F.AXS_STAT_REV_HELD a) s.revHeld
  b.onlyIf ((b.axisOf a).stopT == s.ranAt && s.stopT.isNone) (fun b =>
    (b.setAxis a { b.axisOf a with stopT := none }).setFlag (F.AXS_STAT_BRK_ON a) s.brkOn)

/-- The position or force loop of axis a goes back to the start of the frame (R244). -/
def Bay.undoPlace (b : Bay) (a : Nat) : Bay :=
  let l := b.loopAxOf a
  let s := l.saved
  (b.setLoopAx a { l with wRef := s.wRef, xf := s.xf, pRef := s.pRef, pRefPrev := s.pRefPrev, kpf := s.kpf }).setAxis a { b.axisOf a with fr := s.fr, prSeq := s.prSeq }

/-- Whether a loop has already missed in the frame that opened at `t`. -/
def Bay.missedAt (b : Bay) (obj : Nat) (k : MissKind) (t : Nat) : Bool :=
  match k with
  | .chan => (b.loopChOf obj).missAt == some t
  | .current => (b.loopAxOf (obj - 64)).atI == some t
  | .speed => (b.loopAxOf (obj - 64)).atW == some t
  | .place => (b.loopAxOf (obj - 64)).atP == some t

/-- A loop's result is discarded (R244): what it changed in this frame goes back, if it ran. -/
def Bay.undoLoop (b : Bay) (obj : Nat) (k : MissKind) (t : Nat) : Bay :=
  if obj < 64 then b.onlyIf ((b.loopChOf obj).ranAt == some t) (fun b => b.undoChan obj)
  else
    let a := obj - 64
    b.onlyIf ((b.loopAxOf a).saved.ranAt == some t) (fun b =>
      match k with
      | .chan | .current => b.undoCurrent a
      | .speed => b.undoSpeed a
      | .place => b.undoPlace a)

/-- The count of misses in a row and its response (R245). -/
def Bay.countMisses (b : Bay) (obj : Nat) (k : MissKind) (t : Nat) : Bay :=
  let a := obj - 64
  match k with
  | .chan =>
    let l := b.loopChOf obj
    (b.setLoopCh obj { l with misses := l.misses + 1, missAt := some t }).onlyIf (l.misses + 1 == 25) (fun b => b.note obj)
  | .current =>
    let l := b.loopAxOf a
    (b.setLoopAx a { l with missI := l.missI + 1, atI := some t }).onlyIf (l.missI + 1 == 3) (fun b => b.stoAxis a 11)
  | .speed =>
    let l := b.loopAxOf a
    (b.setLoopAx a { l with missW := l.missW + 1, atW := some t }).onlyIf (l.missW + 1 == 2) (fun b => b.note (144 + a))
  | .place =>
    let l := b.loopAxOf a
    (b.setLoopAx a { l with missP := l.missP + 1, atP := some t }).onlyIf (l.missP + 1 == 2) (fun b => b.note (144 + a))

/-- A loop misses its deadline (R244, R245): its output and state return to those of the frame's start; the miss is counted once a frame and escalates. -/
def Bay.missLoop (b : Bay) (obj : Nat) (k : MissKind) : Bay :=
  let t := frameStart b.now
  if b.missedAt obj k t then b
  else
    let b := ((b.setFlag F.LOOP_STAT_DL true).bump32 F.LOOP_DL_CNT).wr F.LOOP_DL_LAST_OBJ obj
    let b := b.wr F.LOOP_DL_LAST_LANE (laneOf obj)
    let b := b.wr F.LOOP_STAT_LANE_OK (clearBitN (b.rdN F.LOOP_STAT_LANE_OK) (laneOf obj))
    ((b.traceMiss (laneOf obj) obj k).undoLoop obj k t).countMisses obj k t

end Sys2Proof.Machine
end

