-- ==== Sys2Proof/Machine/Stage.lean ====
section
/-! DEFINITION. The channel power stage: peak limits, path resistance, shedding and fires, the cell switch, latches and their clears, phases out of service, stroke links, safe-off and the fault memory (spec chapter 03, R71 to R106). -/

namespace Sys2Proof.Machine

/-! ## Phases (R75 to R82, R90 to R92) -/

/-- A phase current has reached its peak limit: PEAK shows it from the next frame edge on (R75, R104). -/
def Bay.peakLimit (b : Bay) (c : Nat) : Bay := b.setStage c { b.stageOf c with peakNow := true }

/-- PEAK_LIMIT (R71, R75): the current of a phase. At the positive limit its on-time ends at once, at the negative one it starts one at once; a leg that a higher authority holds off stays so (R29). -/
def execPeakLimit (c : PeakIn) (s : State) : Result :=
  s.onBay (fun b =>
    if c.i.natAbs < b.phasePeak c.chan then b
    else
      let b := b.peakLimit c.chan
      if !b.switches c.chan then b else if 0 < c.i then b.endOn c.chan c.phase else b.startOn c.chan c.phase)

/-- PEAK_LIMIT_PERSISTENT (R75): a limit that acts in every period for 100 µs is cause 0x09. -/
def execPeakLimitPersistent (c : Fin 64) (p : Fin 4) (s : State) : Result :=
  s.onBay (fun b => (b.peakLimit c).chanFault c 9 p)

/-- A new estimate of the path resistance, held within 200 to 5,000 µΩ; reaching a bound from inside the band is cause 0x0F (R77). -/
def Bay.rpathUpdate (b : Bay) (c : Nat) (est : Int) : Bay :=
  let s := b.stageOf c
  let v := clampI 200 5000 est
  let bound : Nat := if est ≤ 200 then 1 else if 5000 ≤ est then 2 else 0
  let b := (b.wr (F.CHN_RPATH c) v).setStage c { s with rpathBound := bound }
  if bound ≠ 0 && s.rpathBound = 0 then b.chanFault c 15 255 else b

/-- A sample enters the average of R77 while |I| is at least 20 A with the switch closed: (V_node − V_sense) / I in µΩ. -/
def Bay.rpathSample (b : Bay) (c : Nat) (v node i : Int) : Bay :=
  let s := b.stageOf c
  if b.switchClosed c && 20000000 ≤ i.natAbs then
    b.setStage c { s with rpSum := s.rpSum + mkRat ((node - v) * 1000000) 1 / (i : Rat), rpN := s.rpN + 1, rpFrom := if s.rpN = 0 then b.now else s.rpFrom }
  else b

/-- RPATH_UPDATE (R77): the average of the samples since the last update and of the reading `r` that ends them, 100 ms after the first of them; its last place is rounded toward zero (DESIGN CHOICE, log entry 78). -/
def execRpathUpdate (c : Fin 64) (r : PathReading) (s : State) : Result :=
  s.onBay (fun b =>
    let b := b.rpathSample c r.v r.node r.i
    let x := b.stageOf c
    if x.rpN = 0 || b.now < x.rpFrom + 100 * msTicks then b
    else (b.setStage c { x with rpSum := 0, rpN := 0 }).rpathUpdate c (truncR (x.rpSum / (x.rpN : Nat))))

/-- CHANNEL_SHED (R79): target and measured current below 20 A for 1 ms, SHED_EN set, the channel running. -/
def execChannelShed (c : Fin 64) (s : State) : Result :=
  s.onBay (fun b =>
    let st := b.stageOf c
    let since := match st.lowSince with
      | some t => t + msTicks ≤ b.now
      | none => false
    if since && b.flag (F.CHN_STG_CFG_SHED_EN c) && b.switchClosed c && !b.flag (F.CHN_STG_STAT_SHED c)
        && st.iTgt.natAbs < 20000000 && (b.rd (F.CHN_I c)).natAbs < 20000000 then
      (b.setFlag (F.CHN_STG_STAT_SHED c) true).onePhase c
    else b)

/-- PHASE_REINSTATE (R80): the target or the current sensed reaches 24 A. -/
def execPhaseReinstate (c : Fin 64) (i : Int) (s : State) : Result :=
  s.onBay (fun b =>
    if b.flag (F.CHN_STG_STAT_SHED c) && (24000000 ≤ i.natAbs || 24000000 ≤ (b.stageOf c).iTgt.natAbs) then b.reinstate c else b)

/-- An undershoot (R81): the node more than 3 % below V_ref, and fallen by more than 3 % of V_ref since 2 µs ago. -/
def Bay.undershoot (b : Bay) (c : Nat) (vNode before : Int) : Bool :=
  let r := b.rd (F.CHN_NODE_REF c)
  decide (100 * vNode < 97 * r) && decide (3 * r < 100 * (before - vNode))

/-- ALL_PHASE_FIRE (R81, R82): on an undershoot, from the node voltage now and 2 µs ago, the fire is counted, shedding aborts, every healthy phase that is not in an on-time starts one, and the rotation restarts at phase 0; the detector is held off for 2.5 µs after each fire. -/
def execAllPhaseFire (x : NodeDip) (s : State) : Result :=
  s.onBay (fun b =>
    let c := x.chan.val
    let st := b.stageOf c
    if !b.switches c || !b.undershoot c x.node x.before then b
    else if st.fireAt ≠ 0 && b.now < st.fireAt + 313 then b
    else
      let b := (b.wr (F.CHN_NODE_V c) x.node).bump32 (F.CHN_AFIRE_CNT c)
      let b := if b.flag (F.CHN_STG_STAT_SHED c) then b.reinstate c else b
      let b := b.each (phasesOf (b.healthy c)) (fun b p => if (b.stageOf c).cot.isOn p b.fine then b else b.startOn c p)
      b.setStage c { b.stageOf c with fireAt := b.now, rotation := 0 })

/-- The rotation after the healthy phases have become fewer (R80, R84, R91): a lost kept phase reinstates the others, a pre-bias goes on with another phase; without a healthy phase the switch opens, STAGE is FAULT and the cause 0x0D. -/
def Bay.fewerPhases (b : Bay) (c : Nat) : Bay :=
  let k := (b.stageOf c).kept
  let pre := b.rd (F.CHN_STG_STAT_STAGE c) = Stg.prebias
  let b :=
    if pre then (if (b.healthy c).testBit k then b else b.onePhase c)
    else if b.flag (F.CHN_STG_STAT_SHED c) then (if (b.healthy c).testBit k then b else b.reinstate c)
    else b.wr (F.CHN_STG_STAT_PH_ACT c) (b.rdN (F.CHN_STG_STAT_PH_ACT c) &&& b.healthy c : Nat)
  let st := b.rd (F.CHN_STG_STAT_STAGE c)
  if b.healthy c = 0 && (st = Stg.off || st = Stg.prebias || st = Stg.run) then
    let b := (b.chanFault c 13 255).openSwitch c Stg.fault
    (b.setStage c { b.stageOf c with faulted := true }).endSweepEarly c 3
  else b.clampRef c

/-- A phase goes out of service (R90, R91): cleared from PH_OK, trim 0, both switches off. -/
def Bay.phaseOut (b : Bay) (c p cause : Nat) : Bay :=
  if !(b.rdN (F.CHN_STG_STAT_PH_OK c)).testBit p then b
  else
    let b := b.chanFault c cause p
    let b := (b.wr (F.CHN_STG_STAT_PH_OK c) (clearBitN (b.rdN (F.CHN_STG_STAT_PH_OK c)) p)).zeroTrim c p
    let d := b.driverOf c
    (b.setDriver c { d with legs := d.legs.set p .off }).fewerPhases c

/-- CHNcc.STG_CFG.PH_EN has been written: a cleared phase is out of service without cause, a permitted one rejoins (R91, R92, R105). -/
def Bay.phaseEnable (b : Bay) (c : Nat) : Bay :=
  let b := b.each ((List.range 4).filter (fun p => !(b.healthy c).testBit p)) (fun b p => b.zeroTrim c p)
  let b := if b.switchClosed c && !b.flag (F.CHN_STG_STAT_SHED c) then b.wr (F.CHN_STG_STAT_PH_ACT c) (b.healthy c) else b
  b.fewerPhases c

/-- PHASE_OUT_OF_SERVICE (R90): open (cause 0x04) or sense disagreement (cause 0x05) of an active phase. -/
def execPhaseOutOfService (c : Fin 64) (p : Fin 4) (isOpen : Bool) (s : State) : Result :=
  s.onBay (fun b => if (b.rdN (F.CHN_STG_STAT_PH_ACT c)).testBit p then b.phaseOut c p (if isOpen then 4 else 5) else b)

/-- PHASE_PUMP_TRIP (R97): a phase high-side pump below its trip level, cause 0x06. -/
def execPhasePumpTrip (c : Fin 64) (p : Fin 4) (s : State) : Result := s.onBay (fun b => b.phaseOut c p 6)

/-! ## Cell switch (R84, R85) -/

/-- Pre-bias begins: one phase regulates the node, the ramp limit is 0 A (R84); a zero cycle of the open switch ends (R129). -/
def Bay.prebiasStart (b : Bay) (c : Nat) : Bay :=
  let s := b.stageOf c
  let b := b.setMeasCh c { b.measChOf c with zeroRange := 0 }
  ((b.wr (F.CHN_STG_STAT_STAGE c) Stg.prebias).setStage c { s with prebiasT0 := b.now, ramp := ⟨2, 0, b.now, 0⟩, softStop := false }).onePhase c

/-- The first closure after a cell identifier was written starts the cell (R160): cell-start entry, the step in force behind it, the first interval. -/
def Bay.cellStart (b : Bay) (c : Nat) : Bay :=
  if b.cellOpen c || b.rd (F.CHN_CELL_ID c) = 0 then b
  else
    let b := b.setFlag (F.CHN_REG_STAT_CELL c) true
    let b := b.setChan c { b.chanOf c with cellQ0 := b.netQ c }
    let b := b.setGrade c none
    let b := b.putEntry c (.cellStart b.now (b.rd (F.CHN_CELL_ID c)) (b.rd (F.CHN_BORDER c))
      (if b.rd (F.ENG_STAT_STATE c) = 0 then 0 else (b.engOf c).image))
    let x := b.chanOf c
    let b := if x.live then
        b.putEntry c (.stepStart x.src.ids.2 (b.rd (F.CHN_REG_STAT_ZONE c)) x.par.mode x.src.ids.1 x.stepT0)
      else b
    b.openInterval c b.now

/-- CELL_SWITCH_CLOSED (R84): the node has met the sense voltage within 20 mV; the switch closes and the soft-start ramp begins, on the phase of the pre-bias until 24 A (log entry 81). A wale stopped under R30 keeps its ramp limit at 0 A. -/
def execCellSwitchClosed (c : Fin 64) (vNode : Int) (s : State) : Result :=
  s.onBay (fun b =>
    if b.rd (F.CHN_STG_STAT_STAGE c) = Stg.prebias && (vNode - b.rd (F.CHN_V c)).natAbs ≤ 20000 then
      let b := ((b.wr (F.CHN_NODE_V c) vNode).setFlag (F.CHN_STG_STAT_CSW c) true).wr (F.CHN_STG_STAT_STAGE c) Stg.run
      let b := b.setFlag (F.CHN_STG_STAT_SHED c) true
      let b := b.setStage c { b.stageOf c with ramp :=
        if (b.waleSt (waleOf c)).stoppedAlone then ⟨2, 0, b.now, 0⟩ else ⟨1, 0, b.now, b.rd (F.CHN_STG_CFG_T_RAMP c)⟩ }
      let b := b.setMeasCh c { b.measChOf c with openSince := none, switchT := b.now }
      let b := b.setDriver c { b.driverOf c with csw := true }
      let b := b.setLoopCh c { b.loopChOf c with xi := 0, presetV := true }
      b.cellStart c
    else b)

/-- PREBIAS_TIMEOUT (R84): not met within 2 ms; the stage goes to OFF with cause 0x0E and acts on no closure request until one to open has come. -/
def execPrebiasTimeout (c : Fin 64) (s : State) : Result :=
  s.onBay (fun b =>
    let st := b.stageOf c
    if b.rd (F.CHN_STG_STAT_STAGE c) = Stg.prebias && st.prebiasT0 + 2 * msTicks ≤ b.now then
      let b := b.chanFault c 14 255
      let b := b.openSwitch c Stg.off
      b.setStage c { b.stageOf c with closeBlocked := true, cswReq := false }
    else b)

/-- SOFT_STOP_COMPLETE (R85): |I| below 1 A for 100 µs at a ramp limit of 0 A opens the switch; a soft stop of a pump warning ends in FAULT (R97). -/
def execSoftStopComplete (c : Fin 64) (s : State) : Result :=
  s.onBay (fun b =>
    if b.switchClosed c && (b.stageOf c).softStop && (b.rd (F.CHN_I c)).natAbs < 1000000 then
      b.openSwitch c (if (b.stageOf c).faulted then Stg.fault else Stg.off)
    else b)

/-! ## Latches and their clears (R87 to R89, R92, R105) -/

/-- Set the overvoltage latch (R87, R99): crowbar, switch open, LATCHED_OV. Under a dropped safe-off line every switch stays off (R98). -/
def Bay.ovLatch (b : Bay) (c : Nat) : Bay :=
  let b := b.chanFault c 1 255
  let b := b.openSwitch c Stg.latchedOv
  let b := b.allLegs c .latchedLow
  b.setStage c { b.stageOf c with ov := true, cswReq := (b.stageOf c).cswReq }

/-- OVERVOLTAGE_LATCH (R87): node or sense voltage above V_ov for 200 ns, or the node above 5.60 V. The channel's sweep ends (R181). -/
def execOvervoltageLatch (c : Fin 64) (vNode vSense : Int) (s : State) : Result :=
  s.onBay (fun b =>
    if (b.vOv c < vNode || b.vOv c < vSense || 5600000 < vNode) && !(b.stageOf c).ov then
      (((b.wr (F.CHN_NODE_V c) vNode).ovLatch c)).endSweepEarly c 3
    else b)

/-- The condition of R89 counts: with the switch closed, or, together with an overvoltage latch, within the 10 µs in which the stage declares it after that latch opened the switch (R99). -/
def Bay.absentCounts (b : Bay) (c : Nat) : Bool :=
  b.switchClosed c || ((b.stageOf c).ov && !(b.stageOf c).absent && decide (b.now ≤ (b.measChOf c).switchT + 10 * usTicks))

/-- CELL_ABSENT (R89, R156): slew (cause 0x02) or force/sense disagreement (cause 0x03); the switch opens, the node is crowbarred for 1 ms. Beside an overvoltage latch the stage shows LATCHED_OV (R99). -/
def execCellAbsent (c : Fin 64) (slew : Bool) (s : State) : Result :=
  s.onBay (fun b =>
    if b.absentCounts c then
      let b := b.chanFault c (if slew then 2 else 3) 255
      let b := b.openSwitch c (if (b.stageOf c).ov then Stg.latchedOv else Stg.cellAbsent)
      let b := b.allLegs c .latchedLow
      let b := b.setStage c { b.stageOf c with absent := true, crowbarEnd := b.now + msTicks }
      ((b.endDonation c).endWatch c).endSweepEarly c 3
    else b)

/-- CROWBAR_END (R89): after 1 ms all switches are off; an overvoltage latch keeps its low sides on, and a clear has released them already. -/
def execCrowbarEnd (c : Fin 64) (s : State) : Result :=
  s.onBay (fun b =>
    let st := b.stageOf c
    if st.absent && st.crowbarEnd ≤ b.now && !st.ov then b.allLegs c .off else b)

/-- A read of CHNcc.FLT arms the clears while a latch, fault or mark is set (R105). -/
def Bay.fltRead (b : Bay) (c : Nat) : Bay :=
  if b.faultStands c then b.setFlag (F.CHN_STG_STAT_CLR_ARMED c) true else b

/-- FLT_READ (R105). -/
def execFltRead (c : Fin 64) (s : State) : Result := s.onBay (fun b => b.fltRead c)

/-- The stage after a clear: the state the remaining latches ask for, else OFF (R88, R89, R92, R99). -/
def Bay.stageAfterClear (b : Bay) (c : Nat) : Bay :=
  let s := b.stageOf c
  if s.ov then b.wr (F.CHN_STG_STAT_STAGE c) Stg.latchedOv
  else if s.absent then b.wr (F.CHN_STG_STAT_STAGE c) Stg.cellAbsent
  else if s.faulted then b.wr (F.CHN_STG_STAT_STAGE c) Stg.fault
  else b.wr (F.CHN_STG_STAT_STAGE c) Stg.off

/-- One write of CHNcc.STG_CTL with the bits of `m` (R105): with CLR_ARMED each bit acts on its own condition and the arming is used up; without it the write is refused with reason 5. Clearing the overvoltage or the cell-absent state releases the low sides that no other latch holds; the overvoltage latch sets again at once while its cause is present (R88, R89). -/
def Bay.stgClear (b : Bay) (c m : Nat) : Bay :=
  if m % 16 = 0 then b
  else if !b.flag (F.CHN_STG_STAT_CLR_ARMED c) then b.refuse (F.CHN_STG_CTL_OV_CLR c) 5
  else
    let b := b.setFlag (F.CHN_STG_STAT_CLR_ARMED c) false
    let s := b.stageOf c
    let again := b.vOv c < b.rd (F.CHN_V c) || b.vOv c < b.rd (F.CHN_NODE_V c) || 5600000 < b.rd (F.CHN_NODE_V c)
    let ovClr := m.testBit 0 && s.ov
    let b := if ovClr then (b.allLegs c .off).setStage c { s with ov := false } else b
    let absClr := m.testBit 1 && s.absent
    let b := if absClr then (b.onlyIf (!(b.stageOf c).ov) (fun b => b.allLegs c .off)).setStage c { b.stageOf c with absent := false } else b
    let b := if m.testBit 2 then
        let b := b.wr (F.CHN_STG_STAT_PH_OK c) 15
        if b.switchClosed c && !b.flag (F.CHN_STG_STAT_SHED c) then b.wr (F.CHN_STG_STAT_PH_ACT c) (b.healthy c) else b
      else b
    let b := if m.testBit 3 then b.setStage c { b.stageOf c with faulted := false } else b
    let st := b.rd (F.CHN_STG_STAT_STAGE c)
    let b := if st = Stg.latchedOv || st = Stg.cellAbsent || st = Stg.fault then b.stageAfterClear c else b
    if ovClr && again then b.ovLatch c else b

/-- A write of CHNcc.STG_CTL (R105). -/
def execStgCtl (c : Fin 64) (m : Nat) (s : State) : Result := s.onBay (fun b => b.gated (F.CHN_STG_CTL_OV_CLR c) (fun b => b.stgClear c m))

/-- OV_CLR (R88). -/
def execOvClr (c : Fin 64) (s : State) : Result := execStgCtl c 1 s
/-- ABS_CLR (R89). -/
def execAbsClr (c : Fin 64) (s : State) : Result := execStgCtl c 2 s
/-- PH_CLR (R92). -/
def execPhClr (c : Fin 64) (s : State) : Result := execStgCtl c 4 s
/-- FLT_CLR (R92). -/
def execFltClr (c : Fin 64) (s : State) : Result := execStgCtl c 8 s

/-! ## Stroke links (R93 to R97). Drivers 0 to 63 serve the channels, 64 to 69 the axes. -/

/-- The CRC-4 of a stroke word over its bits [15:4], polynomial x^4 + x + 1 (R94). The rule gives neither the start value nor the order of the bits: the model starts from 0 and takes bit 15 first (DESIGN CHOICE, log entry 88). -/
def crc4 (w : Nat) : Nat :=
  let step := fun (r : Nat) (i : Nat) =>
    let inb := (w / 2 ^ (15 - i)) % 2
    let fb := (r / 8 + inb) % 2
    (r * 2 % 16) ^^^ (if fb = 1 then 3 else 0)
  (List.range 12).foldl step 0

/-- A command applies to a leg (R94, R95). The rule does not list which: in the model a phase leg takes 0 to 5, the cell switch 5 to 7, all legs 0 and 5, so a keep-alive applies to any leg (DESIGN CHOICE, log entry 88). -/
def strokeApplies (leg cmd : Nat) : Bool :=
  if leg ≤ 3 then cmd ≤ 5
  else if leg = 4 then 5 ≤ cmd
  else cmd = 0 || cmd = 5

/-- One leg after a command (R95): a latched low side heeds only its release and all legs off. -/
def legAfter (x : Leg) (cmd : Nat) (all : Bool) : Leg :=
  if x = .latchedLow && !(cmd = 4 || (all && cmd = 0)) then x
  else match cmd with
    | 0 => .off
    | 1 => .high
    | 2 => .low
    | 3 => .latchedLow
    | 4 => if x = .latchedLow then .off else x
    | _ => x

/-- A driver after a good word (R94 to R96). A lost link comes back by all legs off followed by a keep-alive. Where a higher authority of R29 holds the driver off (`held`), no word turns a leg or the cell switch on. -/
def Driver.word (d : Driver) (now leg cmd seq : Nat) (held : Bool) : Driver :=
  let d := { d with seq := (seq + 1) % 64, lastWord := now }
  if d.lost then
    if leg = 7 && cmd = 0 then { d with rearmed := true }
    else if cmd = 5 && d.rearmed then { d with lost := false, rearmed := false }
    else { d with rearmed := false }
  else if held && (cmd = 1 || cmd = 2 || cmd = 3 || cmd = 6) then d
  else if leg ≤ 3 then { d with legs := d.legs.set leg (legAfter (d.legs.getD leg .off) cmd false) }
  else if leg = 4 then (if cmd = 6 then { d with csw := true } else if cmd = 7 then { d with csw := false } else d)
  else { d with legs := d.legs.map (fun x => legAfter x cmd true) }

/-- A higher authority than a command holds driver d off (R29): for a channel a dropped safe-off pair or a latch of its stage, for an axis STO. -/
def Bay.heldOff (b : Bay) (d : Nat) : Bool :=
  if d < 64 then b.safeOffNow (waleOf d) || (b.stageOf d).ov || (b.stageOf d).absent || b.rd (F.CHN_STG_STAT_STAGE d) == Stg.fault
  else !bitOf (b.rd F.SAFE_LINES_ON) 0 || b.rd (F.AXS_STAT_STATE (d - 64)) == 1

/-- Count a discarded word of a channel's link (R94). -/
def Bay.linkErr (b : Bay) (d : Nat) : Bay :=
  if d < 64 then b.bump32 (F.SEC_LINK_ERR (waleOf d)) else b

/-- A word reaches a driver (R94): a bad CRC, a reserved leg, a command that does not apply or a sequence out of order discards it. The rule does not say what SEQ the driver expects after a discarded word: the model keeps the one it expected (DESIGN CHOICE, log entry 88). -/
def Bay.strokeWord (b : Bay) (d w : Nat) : Bay :=
  let leg := field w 13 3
  let cmd := field w 10 3
  let seq := field w 4 6
  let x := b.driverOf d
  if field w 0 4 = crc4 w && leg ≠ 5 && leg ≠ 6 && strokeApplies leg cmd && seq = x.seq then
    b.setDriver d (x.word b.now leg cmd seq (b.heldOff d))
  else b.linkErr d

/-- STROKE_WORD (R94). -/
def execStrokeWord (d : Fin 70) (w : BitVec 16) (s : State) : Result := s.onBay (fun b => b.strokeWord d w.toNat)

/-- STROKE_KEEPALIVE (R94): the modulator's keep-alive to all legs with the next sequence number. -/
def execStrokeKeepalive (d : Fin 70) (s : State) : Result :=
  s.onBay (fun b =>
    let x := b.driverOf d
    b.setDriver d (x.word b.now 7 5 x.seq (b.heldOff d)))

/-- STATUS_WORD (R93, R97): charge-pump voltages (0.1 V) and fault bits of a driver; of a channel's the four phases and the cell switch. A bad word is discarded and counted. How many fault bits there are is log entry 88. -/
def execStatusWord (x : DriverStatus) (good : Bool) (p0 p1 p2 p3 sw : Nat) (s : State) : Result :=
  s.onBay (fun b =>
    let d := x.driver.val
    if !good then b.linkErr d
    else
      let b := b.setDriver d { b.driverOf d with faults := x.faults.toNat, pumps := [p0, p1, p2, p3, sw] }
      if 64 ≤ d then b
      else
      let c := d
      let b := (((b.wr (F.CHN_CP_V_P0 c) (p0 % 256 : Nat)).wr (F.CHN_CP_V_P1 c) (p1 % 256 : Nat)).wr (F.CHN_CP_V_P2 c) (p2 % 256 : Nat)).wr (F.CHN_CP_V_P3 c) (p3 % 256 : Nat)
      let b := b.wr (F.CHN_CP_SW_VAL c) (sw % 256 : Nat)
      if (b.driverOf c).lost then b
      else b.wr (F.SEC_LINK_UP_MASK (waleOf c)) (setBitN (b.rdN (F.SEC_LINK_UP_MASK (waleOf c))) (c % 16)))

/-- A channel's stroke link is lost (R96): every switch off, the cell switch open, STAGE = FAULT with cause 0x08; an overvoltage latch keeps its flag and LATCHED_OV (R99). -/
def Bay.strokeLost (b : Bay) (c : Nat) : Bay :=
  let b := b.chanFault c 8 255
  let ov := (b.stageOf c).ov
  let b := b.openSwitch c (if ov then Stg.latchedOv else Stg.fault)
  let b := b.allLegs c .off
  let b := b.setStage c { b.stageOf c with faulted := true }
  let d := b.driverOf c
  let b := b.setDriver c { d with lost := true, rearmed := false, csw := false }
  let n := waleOf c
  (b.wr (F.SEC_LINK_UP_MASK n) (clearBitN (b.rdN (F.SEC_LINK_UP_MASK n)) (c % 16))).endSweepEarly c 3

/-- An axis driver's stroke link is lost (R96, R269): its legs are off, the axis is in STO with cause 7. -/
def Bay.axisLinkLost (b : Bay) (d : Nat) : Bay :=
  b.setDriver d { b.driverOf d with legs := [.off, .off, .off, .off], lost := true, rearmed := false }

/-- CELL_SWITCH_PUMP_LOW (R97): at the warning level a soft stop in 2 ms, at the trip level the switch opens at once; cause 0x07 and STAGE = FAULT. A sweep on the channel ends (R99). -/
def execCellSwitchPumpLow (c : Fin 64) (trip : Bool) (s : State) : Result :=
  s.onBay (fun b =>
    let b := (b.chanFault c 7 255).endSweepEarly c 3
    let b := b.setStage c { b.stageOf c with faulted := true }
    if trip || !b.switchClosed c then
      let st := b.rd (F.CHN_STG_STAT_STAGE c)
      if b.switchClosed c || st = Stg.prebias || st = Stg.off || st = Stg.safeOff then b.openSwitch c Stg.fault else b
    else b.stageStop c (some 2))

/-! ## Safe-off (R98) -/

/-- One channel under a dropped safe-off pair: OFF, PREBIAS and RUN go to SAFE_OFF, a latched state stays; a closed switch writes a record with cause 0x0C; the channel holds with cause 12 (R98, R154). -/
def Bay.safeOffChan (b : Bay) (c : Nat) : Bay :=
  let st := b.rd (F.CHN_STG_STAT_STAGE c)
  let b := b.allLegs c .off
  if st = Stg.off || st = Stg.prebias || st = Stg.run then
    let closed := b.switchClosed c
    let b := if closed then b.chanFault c 12 255 else b
    let b := (b.setStage c { b.stageOf c with cswReq := false }).openSwitch c Stg.safeOff
    (b.endSweepEarly c 6).hold c 12
  else b

/-- The safe-off pair of wale n drops (R20, R98, R102): every channel, and one wale record with the wale event. -/
def Bay.safeOffDrop (b : Bay) (n : Nat) : Bay :=
  if b.safeOffNow n then b
  else
    let b := b.setWale n { b.waleSt n with dropped := true }
    let b := (b.waleRecord n 12).raiseD (128 + n) 12
    b.each (waleChans n) (fun b c => b.safeOffChan c)

/-- CHANNEL_SAFE_OFF_DROP (R98): a line of the pair drops at the stage, whether the safety controller dropped it or its wire broke. -/
def execChannelSafeOffDrop (n : Fin 4) (s : State) : Result := s.onBay (fun b => b.safeOffDrop n)

/-- Both lines of the pair are energised again: SAFE_OFF channels go to OFF at the next frame edge and raise their event, cause 12 is left (R98, R154). One with a fault standing shows FAULT (R97; log entry 81). -/
def Bay.safeOffRelease (b : Bay) (n : Nat) : Bay :=
  b.each (waleChans n) (fun b c =>
    (if b.rd (F.CHN_STG_STAT_STAGE c) = Stg.safeOff then (b.stageAfterClear c).note c else b).leave c 12)

/-- CHANNEL_SAFE_OFF_RELEASE (R98): delivered at the frame edge after both lines of the pair are energised; with the pair still dropped nothing is released (R20). -/
def execChannelSafeOffRelease (n : Fin 4) (s : State) : Result :=
  s.onBay (fun b => if bitOf (b.rd F.SAFE_LINES_ON) (1 + n) then (b.setWale n { b.waleSt n with dropped := false }).safeOffRelease n else b)

/-! ## Fault memory (R100 to R103) -/

/-- Replace the record kept under a slot number. -/
def putRec (l : List (Nat × FramRec)) (k : Nat) (r : FramRec) : List (Nat × FramRec) :=
  (l.filter (fun x => x.1 != k)) ++ [(k, r)]

/-- The oldest waiting record is written: history slot NEXT, then the last-fault slot (16 for the wale), then NEXT and SEQ_NEXT advance (R103). -/
def Bay.framWrite (b : Bay) (n : Nat) : Bay :=
  let m := b.framOf n
  match m.queue with
  | [] => b
  | r :: rest =>
    let r := { r with seq := m.seqNext }
    let slot := if r.local_ = 255 then 16 else r.local_
    let next := (m.next + 1) % 2016
    let b := b.setFram n { m with queue := rest, ring := putRec m.ring m.next r, last := putRec m.last slot r, next := next, seqNext := (m.seqNext + 1) % 4294967296 }
    ((((b.wr (F.SEC_FRAM_SEQ n) r.seq).wr (F.SEC_FRAM_STAT_NEXT n) next).wr (F.SEC_FRAM_STAT_QUEUED n) rest.length).setFlag (F.SEC_FRAM_STAT_BUSY n) (!rest.isEmpty))

/-- Power goes: the records waiting are lost, and of the one being written a record stays whose CRC fails (R103). -/
def Fram.powerLost (m : Fram) : Fram :=
  match m.queue with
  | [] => m
  | r :: _ => { m with queue := [], ring := putRec m.ring m.next { r with seq := m.seqNext, torn := true } }

/-- FRAM_RECORD_WRITTEN (R103). -/
def execFramRecordWritten (n : Fin 4) (s : State) : Result := s.onBay (fun b => b.framWrite n)

/-! ## Balancing (R78) -/

/-- The trims of a channel after a new set of phase temperatures; `dt` in units of 100 ms (R78). The registers show them in 0.1 %, rounded toward zero (DESIGN CHOICE, log entry 88). -/
def Bay.balance (b : Bay) (c : Nat) (dt : Rat) : Bay :=
  let s := b.stageOf c
  if !b.flag (F.CHN_STG_CFG_BAL_EN c) then
    (((((b.setStage c { s with trims := [0, 0, 0, 0] }).wr (F.CHN_TRIM_P0 c) 0).wr (F.CHN_TRIM_P1 c) 0).wr (F.CHN_TRIM_P2 c) 0).wr (F.CHN_TRIM_P3 c) 0)
  else if b.flag (F.CHN_STG_STAT_SHED c) then b
  else
    let act := phasesOf (b.healthy c &&& b.rdN (F.CHN_STG_STAT_PH_ACT c))
    let n : Rat := (max 1 act.length : Nat)
    let kbal : Rat := mkRat (b.rd (F.SEC_MOD_CFG_KBAL (waleOf c))) 10000
    let temp := fun p => mkRat (b.phaseT c p) 100
    let mean := (act.map temp).foldl (· + ·) 0 / n
    let moved := (List.range 4).map (fun p => if act.contains p then s.trims.getD p 0 - kbal * (temp p - mean) * dt else 0)
    let m := (act.map (fun p => moved.getD p 0)).foldl (· + ·) 0 / n
    let tr := (List.range 4).map (fun p => if act.contains p then min (mkRat 1 10) (max (mkRat (-1) 10) (moved.getD p 0 - m)) else 0)
    let reg := fun p => truncR (tr.getD p 0 * 1000)
    ((((b.setStage c { s with trims := tr, balanceAt := b.now }).wr (F.CHN_TRIM_P0 c) (reg 0)).wr (F.CHN_TRIM_P1 c) (reg 1)).wr (F.CHN_TRIM_P2 c) (reg 2)).wr (F.CHN_TRIM_P3 c) (reg 3)

end Sys2Proof.Machine
end

