-- ==== Sys2Proof/Machine/Axes.lean ====
section
/-! DEFINITION. Press and auxiliary axes: start, stop, faults, the press force sequence and X60 (spec chapter 10, R265 to R288). -/

namespace Sys2Proof.Machine

/-! ## Start and stop (R268, R272) -/

/-- START is accepted by the state and the lines (R268, R287) and by the mode (R382, R388): ATTEST and CALIBRATE keep the axes disabled, SAFE-STOP takes pump and fan only; a chopper that conducts holds every axis in STO (R54). -/
def Bay.startOk (b : Bay) (a : Nat) : Bool :=
  let st := b.axState a
  let m := b.mode
  b.lineOn 0 && (st = Ax.disabled || (st = Ax.sto && !b.hasLocal a)) &&
    !(m = Mode.attest || m = Mode.calibrate || (m = Mode.safeStop && isPress a)) && !b.plant.chopConducts

/-- AXIS_START (R268, R272): takes effect at the next frame edge. -/
def execAxisStart (a : Fin 6) (s : State) : Result :=
  s.onBay (fun b => b.gated (F.AXS_CTL_START a) (fun b =>
    if b.startOk a then b.setAxis a { b.axisOf a with startPend := true } else b.refuse (F.AXS_CTL_START a) 4))

/-- The frame edge at which a START takes effect: the catch window opens (R272). -/
def Bay.startEdge (b : Bay) (a : Nat) : Bay :=
  let x := b.axisOf a
  if !x.startPend then b
  else if !b.startOk a then (b.setAxis a { x with startPend := false }).refuse (F.AXS_CTL_START a) 4
  else
    let b := ((b.wr (F.AXS_STAT_STATE a) Ax.starting).wr (F.AXS_FLT_CAUSE a) 0).wr (F.AXS_FLT_SECOND a) 0
    let b := b.setAxis a { x with startPend := false, t0 := b.now, seq := 1, stopT := none, prSeq := 0, fbExcl := false, fbTrimmed := false, fbApart := none, flip := false, weak := false, zeroTorque := false }
    b.setLoopAx a { b.loopAxOf a with xd := 0, xq := 0, xs := 0, iqRef := 0, idRef := 0, gains := [], kps := none, kpf := none }

/-- AXIS_STOP (R268): in RUN and STARTING; otherwise refused with reason 4. -/
def execAxisStop (a : Fin 6) (s : State) : Result :=
  s.onBay (fun b => b.gated (F.AXS_CTL_STOP a) (fun b =>
    if b.axState a = Ax.run || b.axState a = Ax.starting then b.stopAxis a else b.refuse (F.AXS_CTL_STOP a) 4))

/-- A stopping axis reaches its end (R268): a pump or fan at 1 % of rated speed, a press 20 ms after its brake engaged. -/
def Bay.stopDone (b : Bay) (a : Nat) : Bay :=
  if b.axState a ≠ Ax.stopping then b
  else if isPress a then
    match (b.axisOf a).stopT with
    | some t =>
      if t + 20 * msTicks ≤ b.now then
        let b := (b.wr (F.AXS_STAT_STATE a) Ax.disabled).wr (F.AXS_STAT_ASRC a) 0
        (((b.brakeNow a true).legsOff a).setLoopAx a { b.loopAxOf a with iqRef := 0 }).setAxis a { b.axisOf a with stopT := none, brakeAt := none }
      else b
    | none => b
  else if 10 * (b.axisOf a).w.natAbs ≤ b.rd (F.AXS_N_RATED a) then
    (((b.wr (F.AXS_STAT_STATE a) Ax.disabled).wr (F.AXS_STAT_ASRC a) 0).legsOff a).setLoopAx a { b.loopAxOf a with iqRef := 0 }
  else b

/-- AXIS_STOP_COMPLETE (R268). -/
def execAxisStopComplete (a : Fin 6) (s : State) : Result := s.onBay (fun b => b.stopDone a)

/-- AXS_FLT_READ (R269): arms the clear while a local cause is set. -/
def Bay.axsFltRead (b : Bay) (a : Nat) : Bay :=
  if b.hasLocal a then b.setFlag (F.AXS_STAT_CLR_ARMED a) true else b

/-- AXS_FLT_READ (R269). -/
def execAxsFltRead (a : Fin 6) (s : State) : Result := s.onBay (fun b => b.axsFltRead a)

/-- A clear of a local cause (R269, R301): DISABLED, or STO with cause 0x01 where a line of its pair is down, and the fault of the axis's position interface goes with it. Cause 0x11 stays. -/
def Bay.axsFltClr (b : Bay) (a : Nat) : Bay :=
  if !b.flag (F.AXS_STAT_CLR_ARMED a) then b.refuse (F.AXS_CTL_FLT_CLR a) 5
  else
    let b := b.setFlag (F.AXS_STAT_CLR_ARMED a) false
    if b.rd (F.AXS_FLT_CAUSE a) = 17 || b.rd (F.AXS_FLT_SECOND a) = 17 then b
    else
      let b := if b.lineOn 0 then (b.wr (F.AXS_STAT_STATE a) Ax.disabled).wr (F.AXS_FLT_CAUSE a) 0 else b.wr (F.AXS_FLT_CAUSE a) 1
      let b := b.wr (F.AXS_FLT_SECOND a) 0
      if isPress a then (b.wr (F.POS_FLT_CODE a) 0).wr (F.POS_FLT_DETAIL a) 0 else b

/-- AXS_FLT_CLR (R269). -/
def execAxsFltClr (a : Fin 6) (s : State) : Result := s.onBay (fun b => b.gated (F.AXS_CTL_FLT_CLR a) (fun b => b.axsFltClr a))

/-- STO_LINE_DROP (R269): either line of the STO pair low for 1.0 ms. -/
def execStoLineDrop (s : State) : Result := s.onBay (fun b => b.stoAll 1)

/-- A press enters RUN with a force target, or releases without one (R277, R279). -/
def Bay.pressEnter (b : Bay) (a : Nat) : Bay :=
  let f := b.rd (F.AXS_FORCE a)
  let b := b.setLoopAx a { b.loopAxOf a with xf := 0 }
  let b := b.setAxis a { b.axisOf a with prSeq := 0, fr := f, inBand := none, outBand := none }
  if b.rd (F.AXS_F_TGT a) = 0 then b.wr (F.AXS_STAT_PRS a) 4
  else b.wr (F.AXS_STAT_PRS a) (if 20 * f < b.rd (F.AXS_F_FS a) then 1 else 2)

/-- Axis a enters RUN (R272): brake released, the speed reference starts from the measured speed. -/
def Bay.enterRun (b : Bay) (a : Nat) : Bay :=
  let x := b.axisOf a
  let b := (b.wr (F.AXS_STAT_STATE a) Ax.run).setAxis a { x with seq := 0, wRamp := fdiv x.w 10 }
  let b := b.brakeNow a false
  if isPress a && b.rd (F.AXS_CFG_MODE a) == 2 then b.pressEnter a else b

/-- The electrical speed for a speed in 0.1 rpm (R270). -/
def elecSpeed (w poles : Int) : Rat := fmul (fmul (fdiv w 10) (fdiv (fmul 2 piR) 60)) (poles : Rat)

/-- CATCH_WINDOW_END (R272, R273): at t0 + 5 ms a turning motor is caught at its signed speed, another starts injection. -/
def execCatchWindowEnd (a : Fin 6) (s : State) : Result :=
  s.onBay (fun b =>
    let x := b.axisOf a
    if b.axState a = Ax.starting && x.seq = 1 && x.t0 + 5 * msTicks ≤ b.now then
      if 4 * b.rd (F.AXS_N_RATED a) ≤ 10 * x.w.natAbs then
        let l := b.loopAxOf a
        let b := b.setLoopAx a { l with xd := 0, xq := fmul x.omegaE (dec (b.rd (F.AXS_PSI a)) 1000), xs := -(b.fricAt a (fdiv x.w 10)), iqRef := 0 }
        (b.wr (F.AXS_STAT_ASRC a) (b.angleSrc a x.w)).enterRun a
      else (b.wr (F.AXS_STAT_ASRC a) 1).setAxis a { x with seq := 2 }
    else b)

/-- POLARITY_TEST (R272): the injection angle has settled and the d-axis pulses begin; `plus` and `minus` are the responses they will meet. The larger marks the north pole; less than 5 % apart fails the start once the pulses are over. -/
def execPolarityTest (a : Fin 6) (plus minus : Int) (s : State) : Result :=
  s.onBay (fun b =>
    let x := b.axisOf a
    if b.axState a = Ax.starting && x.seq = 2 && x.t0 + 25 * msTicks ≤ b.now then
      b.setAxis a { x with seq := 3, t0 := b.now - 25 * msTicks, flip := plus.natAbs < minus.natAbs, weak := 100 * (plus - minus).natAbs < 5 * max plus.natAbs minus.natAbs }
    else b)

/-- TORQUE_ENABLE (R272): a press takes the current that held it at its last brake engagement. A polarity test without a clear answer ends in STO with cause 0x08. -/
def execTorqueEnable (a : Fin 6) (s : State) : Result :=
  s.onBay (fun b =>
    let x := b.axisOf a
    if b.axState a = Ax.starting && x.seq = 3 && x.t0 + 29 * msTicks ≤ b.now then
      if x.weak then b.stoAxis a 8
      else (b.setAxis a { x with seq := 4 }).setLoopAx a { b.loopAxOf a with iqRef := if isPress a then x.iqHeld else 0 }
    else b)

/-- BRAKE_RELEASE (R272): commanded at t0 + 30 ms. -/
def execBrakeRelease (a : Fin 6) (s : State) : Result :=
  s.onBay (fun b =>
    let x := b.axisOf a
    if b.axState a = Ax.starting && x.seq = 4 && x.t0 + 30 * msTicks ≤ b.now then
      (b.setAxis a { x with seq := 5 }).brakeCmd a false
    else b)

/-- AXIS_RUN (R272): at t0 + 55 ms. -/
def execAxisRun (a : Fin 6) (s : State) : Result :=
  s.onBay (fun b =>
    let x := b.axisOf a
    if b.axState a = Ax.starting && x.seq = 5 && x.t0 + 55 * msTicks ≤ b.now then b.enterRun a else b)

/-- START_TIMEOUT (R272): an angle not settled by t0 + 100 ms is cause 0x08. -/
def execStartTimeout (a : Fin 6) (s : State) : Result :=
  s.onBay (fun b =>
    let x := b.axisOf a
    if b.axState a = Ax.starting && x.seq = 2 && x.t0 + 100 * msTicks ≤ b.now then b.stoAxis a 8 else b)

/-- Since `t` for at least `n` ticks. -/
def heldFor (t : Option Nat) (n now : Nat) : Bool :=
  match t with
  | some t => t + n ≤ now
  | none => false

/-- FEEDBACK_DISAGREE (R271): apart for 10 ms, the axis goes on with the observer alone until its next START. -/
def execFeedbackDisagree (a : Fin 6) (s : State) : Result :=
  s.onBay (fun b =>
    if b.fbReady a && heldFor (b.axisOf a).fbApart (10 * msTicks) b.now then
      ((b.setFlag (F.AXS_STAT_FB_USED a) false).setAxis a { b.axisOf a with fbExcl := true }).note (144 + a)
    else b)

/-! ## Current limits and press force (R275 to R279) -/

/-- I2T_EMPTY (R275): at B = 0 the current limit is the continuous one. -/
def execI2tEmpty (a : Fin 6) (s : State) : Result := s.onBay (fun b => if b.i2tLeft a ≤ 0 then b.i2tLimit a else b)

/-- I2T_RECOVER (R275): 10 % of the budget is back. -/
def execI2tRecover (a : Fin 6) (s : State) : Result := s.onBay (fun b => if 0 < b.i2tLeft a then b.i2tLimit a else b)

/-- LOAD_CELL_RANGE (R276): outside -5 % to +110 % of F_FS for 10 ms. -/
def execLoadCellRange (a : Fin 4) (s : State) : Result :=
  s.onBay (fun b => if heldFor (b.axisOf a).cellBad (10 * msTicks) b.now then b.stoAxis a 16 else b)

/-- The press runs under force control. -/
def Bay.pressRuns (b : Bay) (a : Nat) : Bool := b.axState a == Ax.run && b.rd (F.AXS_CFG_MODE a) == 2

/-- PRESS_HOLD_ENTRY (R278): in band for 200 ms in FORCE; i_q is stored and the brake commanded. -/
def execPressHoldEntry (a : Fin 4) (s : State) : Result :=
  s.onBay (fun b =>
    let x := b.axisOf a
    if b.pressRuns a && b.rd (F.AXS_STAT_PRS a) == 2 && x.prSeq = 0 && heldFor x.inBand (200 * msTicks) b.now then
      (b.setAxis a { x with iqHeld := truncR (b.loopAxOf a).iqRef, prSeq := 1, prT := b.now }).brakeCmd a true
    else b)

/-- PRESS_HOLD_RAMP (R278). -/
def execPressHoldRamp (a : Fin 4) (s : State) : Result := s.onBay (fun b => if b.pressRuns a then b.pressRamp a else b)

/-- PRESS_RETRIM (R278, R279): out of twice the band for 500 ms, or a target that moved; torque at the stored i_q, brake released. -/
def execPressRetrim (a : Fin 4) (s : State) : Result :=
  s.onBay (fun b =>
    let x := b.axisOf a
    let tgt := b.rd (F.AXS_F_TGT a)
    if b.pressRuns a && b.rd (F.AXS_STAT_PRS a) == 3 && x.prSeq = 0 &&
        (heldFor x.outBand (500 * msTicks) b.now || b.rd (F.AXS_F_BAND a) < (tgt - x.fHeld).natAbs || tgt = 0) then
      ((b.setAxis a { x with prSeq := 3, prT := b.now }).brakeCmd a false).setLoopAx a { b.loopAxOf a with iqRef := x.iqHeld }
    else b)

/-- RETRIM_FORCE (R278): 25 ms after the brake release. From HOLD the press enters FORCE, or releases at a target of 0. -/
def execRetrimForce (a : Fin 4) (s : State) : Result :=
  s.onBay (fun b =>
    let x := b.axisOf a
    if b.pressRuns a && x.prSeq = 3 && x.prT + 25 * msTicks ≤ b.now then
      let was := b.rd (F.AXS_STAT_PRS a)
      let b := (b.brakeNow a false).pressEnter a
      if was = 3 && b.rd (F.AXS_F_TGT a) ≠ 0 then b.wr (F.AXS_STAT_PRS a) 2 else b
    else b)

/-- PRESS_RELEASED (R279): at REL_POS the brake is commanded; the press is RELEASED once the current has ramped to 0. -/
def execPressReleased (a : Fin 4) (s : State) : Result :=
  s.onBay (fun b =>
    let x := b.axisOf a
    if b.pressRuns a && b.rd (F.AXS_STAT_PRS a) == 4 && x.prSeq = 4 then
      (b.setAxis a { x with prSeq := 1, prT := b.now, iqHeld := truncR (b.loopAxOf a).iqRef }).brakeCmd a true
    else b)

/-! ## X60 (R281, R282) -/

/-- X60_LOSS (R281, R282): beyond the loss level for 30 ms, or a duty signal without its carrier; the axis runs at X60_FB. -/
def execX60Loss (a : Fin 6) (s : State) : Result :=
  s.onBay (fun b =>
    let lost := b.rd (F.AXS_CFG_X60_FORM a) == 1 || heldFor (b.axisOf a).x60Bad (30 * msTicks) b.now
    if !isPress a && b.rd (F.AXS_CFG_MODE a) == 1 && !b.flag (F.AXS_STAT_X60_LOSS a) && lost then
      (b.setFlag (F.AXS_STAT_X60_LOSS a) true).note (144 + a)
    else b)

/-- X60_RESTORE (R282): after 100 ms of valid signal. -/
def execX60Restore (a : Fin 6) (s : State) : Result :=
  s.onBay (fun b =>
    if b.rd (F.AXS_CFG_X60_FORM a) == 1 || heldFor (b.axisOf a).x60Ok (100 * msTicks) b.now then b.setFlag (F.AXS_STAT_X60_LOSS a) false else b)

/-! ## Protection (R283 to R285) -/

/-- Desaturation on a leg: cause 0x02; together with a fast overcurrent it stands in SECOND (R287). -/
def Bay.desat (b : Bay) (a : Nat) : Bay := b.stoAxis a 2

/-- The threshold of the fast overcurrent comparators in mA (R265). -/
def fastLimit (a : Nat) : Int := if isPress a then 90000 else 30000

/-- A fast overcurrent on a leg: cause 0x03, before a desaturation at the same time (R283, R287). -/
def Bay.fastOver (b : Bay) (a : Nat) : Bay :=
  if b.axState a = Ax.sto && b.rd (F.AXS_FLT_CAUSE a) = 2 && b.rd (F.AXS_FLT_SECOND a) = 0 && (b.axRec.getLast?).map (fun r => r.time) == some b.now then
    (b.wr (F.AXS_FLT_CAUSE a) 3).wr (F.AXS_FLT_SECOND a) 2
  else b.stoAxis a 3

/-- DESATURATION (R283). -/
def execDesaturation (a : Fin 6) (s : State) : Result := s.onBay (fun b => b.desat a)
/-- FAST_OVERCURRENT (R283): a leg's current has crossed the threshold. -/
def execFastOvercurrent (x : LegTrip) (s : State) : Result :=
  s.onBay (fun b => if fastLimit x.axis ≤ x.i.natAbs then b.fastOver x.axis else b)

/-- Axis a has a leg in a two-leg short (R284): cause 0x04, also where the trip of that leg stands recorded from within 1 µs before. -/
def Bay.shortAxis (b : Bay) (a : Nat) : Bay :=
  let c := b.rd (F.AXS_FLT_CAUSE a)
  if b.axState a = Ax.sto && (c = 2 || c = 3) && ((b.axRec.filter (fun r => r.axis == a)).getLast?).any (fun r => decide (b.now ≤ r.time + usTicks)) then
    b.wr (F.AXS_FLT_CAUSE a) 4
  else b.stoAxis a 4

/-- TWO_LEG_SHORT (R284): the axes of the two legs record cause 0x04, the others 0x0F, and both upsett channels are asked for STO. -/
def execTwoLegShort (a1 a2 : Fin 6) (s : State) : Result :=
  s.onBay (fun b =>
    let b := b.each allAxes (fun b a => if a = a1 ∨ a = a2 then b.shortAxis a else b.stoAxis a 15)
    { b with shortReq := true })

/-- The current loop asks for more than 5 A (R285). -/
def Bay.expectsCurrent (b : Bay) (a : Nat) : Bool :=
  let l := b.loopAxOf a
  b.axisDrives a && decide (25000000 < l.idRef * l.idRef + l.iqSum * l.iqSum)

/-- PHASE_OPEN (R285). -/
def execPhaseOpen (a : Fin 6) (s : State) : Result := s.onBay (fun b => if b.expectsCurrent a then b.stoAxis a 5 else b)
/-- CURRENT_SENSE_LOST (R285). -/
def execCurrentSenseLost (a : Fin 6) (s : State) : Result := s.onBay (fun b => b.stoAxis a 6)

/-- STROKE_LINK_LOST (R96, R285): drivers 0 to 63 serve the channels, 64 to 69 the axes. -/
def execStrokeLinkLost (d : Fin 70) (s : State) : Result :=
  s.onBay (fun b => if d.val < 64 then b.strokeLost d else (b.stoAxis (d - 64) 7).axisLinkLost d)

end Sys2Proof.Machine
end

