-- ==== Sys2Proof/Machine/Grade.lean ====
section
/-! DEFINITION. The fit of the grading vector (R184, R185): the model of a cell's impedance, its cost, bounds and start values, and the iteration. Impedances in nΩ, frequencies in Hz, L_s in nΩ·s. -/

namespace Sys2Proof.Machine

/-- The parameters of Z_m (R184). -/
structure FitPar where
  rOhm : Rat
  ls : Rat
  rA : Rat
  fA : Rat
  alA : Rat
  rB : Rat
  fB : Rat
  alB : Rat
  deriving DecidableEq, Repr

/-- The parameters as a list, in the order of their names. -/
def FitPar.toList (p : FitPar) : List Rat := [p.rOhm, p.ls, p.rA, p.fA, p.alA, p.rB, p.fB, p.alB]

/-- The parameters from such a list. -/
def FitPar.ofList (l : List Rat) : FitPar :=
  ⟨l.getD 0 0, l.getD 1 0, l.getD 2 0, l.getD 3 0, l.getD 4 0, l.getD 5 0, l.getD 6 0, l.getD 7 0⟩

/-- A point of the fit: f in Hz, Re Z and Im Z in nΩ. -/
def PointRes.fitPt (p : PointRes) : Rat × Rat × Rat := (mkRat p.f 1000, p.zre, p.zim)

/-- One arc R / (1 + (jf / f0)^α), real and imaginary part (R184): (jf / f0)^α has the magnitude (f / f0)^α and the angle α quarter turns. -/
def arc (r f0 al f : Rat) : Rat × Rat :=
  let m := Config.power (fdiv f f0) al
  let a := fadd 1 (fmul m (cosTurn (fdiv al 4)))
  let c := fmul m (sinTurn (fdiv al 4))
  let d := fadd (fmul a a) (fmul c c)
  (fdiv (fmul r a) d, -(fdiv (fmul r c) d))

/-- Z_m at a frequency (R184). -/
def FitPar.model (p : FitPar) (f : Rat) : Rat × Rat :=
  let a := arc p.rA p.fA p.alA f
  let c := arc p.rB p.fB p.alB f
  (fadd (fadd p.rOhm a.1) c.1, fadd (fadd (fmul (fmul (fmul 2 piR) f) p.ls) a.2) c.2)

/-- |Z − Z_m|² / |Z|² at a point (R184, R185). -/
def FitPar.misfit (p : FitPar) (x : Rat × Rat × Rat) : Rat :=
  let z := p.model x.1
  let u := fsub x.2.1 z.1
  let v := fsub x.2.2 z.2
  fdiv (fadd (fmul u u) (fmul v v)) (fadd (fmul x.2.1 x.2.1) (fmul x.2.2 x.2.2))

/-- The cost of R184 over the fitted points. -/
def FitPar.cost (p : FitPar) (pts : List (Rat × Rat × Rat)) : Rat := pts.foldl (fun a x => fadd a (p.misfit x)) 0

/-- RESID as a fraction (R185): the root mean square of |Z − Z_m| / |Z|. -/
def FitPar.resid (p : FitPar) (pts : List (Rat × Rat × Rat)) : Rat := fsqrt (fdiv (p.cost pts) (pts.length : Nat))

/-- The bounds of R184. -/
def FitPar.inBounds (p : FitPar) : Bool :=
  decide (p.fB < p.fA) && decide (mkRat 1 2 ≤ p.alA ∧ p.alA ≤ 1) && decide (mkRat 1 2 ≤ p.alB ∧ p.alB ≤ 1)

/-- The points in ascending frequency. -/
def byFreq (pts : List (Rat × Rat × Rat)) : List (Rat × Rat × Rat) :=
  pts.foldl (fun l x => l.filter (fun y => y.1 ≤ x.1) ++ x :: l.filter (fun y => x.1 < y.1)) []

/-- The local maxima of −Im Z over points in ascending frequency; an end of the range counts with its one neighbour (log entry 3). -/
def localMaxima (l : List (Rat × Rat × Rat)) : List (Rat × Rat × Rat) :=
  ((List.range l.length).filter (fun i =>
    let y := fun (k : Nat) => -(l.getD k (0, 0, 0)).2.2
    (i = 0 || y (i - 1) < y i) && (i + 1 = l.length || y (i + 1) < y i))).map (fun i => l.getD i (0, 0, 0))

/-- The start values of R184: f_a is the higher of the two frequencies, as its bound asks. -/
def fitStart (pts : List (Rat × Rat × Rat)) : FitPar :=
  let res := pts.map (fun x => x.2.1)
  let lo := res.foldl min (res.headD 0)
  let hi := res.foldl max (res.headD 0)
  let tops := localMaxima (byFreq pts)
  let best := fun (l : List (Rat × Rat × Rat)) => l.foldl (fun a x => if -x.2.2 > -a.2.2 then x else a) (l.headD (0, 0, 0))
  let one := best tops
  let rest := tops.filter (fun x => x.1 != one.1)
  let two : Rat := if rest.isEmpty then fdiv one.1 10 else (best rest).1
  let half := fdiv (fsub hi lo) 2
  ⟨lo, 0, half, max one.1 two, dec 9 10, half, min one.1 two, dec 9 10⟩

/-- Every parameter changes by less than 1e-6 of itself (R184). -/
def fitSettled (p q : FitPar) : Bool :=
  (List.zip p.toList q.toList).all (fun x => decide (absR (x.2 - x.1) < absR x.1 * mkRat 1 1000000 ∨ x.1 = x.2))

/-- Levenberg-Marquardt iterations (R184), at most `n` of them. The spec does not give the damping: the step from given parameters is Config.lmStep, and one that raises the cost or leaves the bounds is not taken (log entry 3). -/
def fitIter (pts : List (Rat × Rat × Rat)) : Nat → FitPar → FitPar
  | 0, p => p
  | n + 1, p =>
    let q := FitPar.ofList (Config.lmStep n pts p.toList)
    if q.inBounds && decide (q.cost pts ≤ p.cost pts) then
      if fitSettled p q then q else fitIter pts n q
    else fitIter pts n p

/-- The fit of R184. -/
def gradingFit (pts : List (Rat × Rat × Rat)) : FitPar := fitIter pts 40 (fitStart pts)

end Sys2Proof.Machine
end

