-- ==== Sys2Proof/Machine/MeasOps.lean ====
section
/-! DEFINITION. What the families share of measurement: corrected values (R116), the current ranges (R109), and when a closure request is acted on (R84, R117, R119, R140). -/

namespace Sys2Proof.Machine

/-! ## Corrected values (R107, R109, R116) -/

/-- The range in force of channel c: 0 150 A, 1 15 A, 2 1.5 A. -/
def Bay.range (b : Bay) (c : Nat) : Nat := b.rdN (F.CHN_MEAS_STAT_RANGE c)

/-- Full scale of a range in µA (R107). -/
def rangeFs (r : Nat) : Int := if r = 0 then 150000000 else if r = 1 then 15000000 else 1500000

/-- The current gain of the last self-calibration in a range. -/
def calIG (c r : Nat) : Key := if r = 0 then F.CHN_CAL_IG0 c else if r = 1 then F.CHN_CAL_IG1 c else F.CHN_CAL_IG2 c
/-- The current offset of the last self-calibration in a range. -/
def calIO (c r : Nat) : Key := if r = 0 then F.CHN_CAL_IO0 c else if r = 1 then F.CHN_CAL_IO1 c else F.CHN_CAL_IO2 c
/-- The current gain correction of a range. -/
def corIG (c r : Nat) : Key := if r = 0 then F.CHN_COR_IG0 c else if r = 1 then F.CHN_COR_IG1 c else F.CHN_COR_IG2 c
/-- The current offset correction of a range. -/
def corIO (c r : Nat) : Key := if r = 0 then F.CHN_COR_IO0 c else if r = 1 then F.CHN_COR_IO1 c else F.CHN_COR_IO2 c

/-- raw × (1 + CAL_G) × (1 + COR_G) − CAL_O − COR_O (R116), the gains in 0.01 ppm; the last place is rounded toward zero (log entry 26). -/
def correct (raw calG corG calO corO : Int) : Int :=
  truncR ((raw : Rat) * (1 + mkRat calG 100000000) * (1 + mkRat corG 100000000) - calO - corO)

/-- A voltage reading in 0.1 µV, clipped to the measured span and corrected (R107, R116). -/
def Bay.corrV (b : Bay) (c : Nat) (raw : Int) : Int :=
  correct (clampI (-5000000) 60000000 raw) (b.rd (F.CHN_CAL_VG c)) (b.rd (F.CHN_COR_VG c)) (b.rd (F.CHN_CAL_VO c)) 0

/-- The measured span of a range in 0.1 µA: 120 % of full scale (R107). -/
def rangeSpan (r : Nat) : Int := rangeFs r * 12

/-- A current reading in 0.1 µA in the range in force, clipped and corrected (R107, R116). -/
def Bay.corrI (b : Bay) (c : Nat) (raw : Int) : Int :=
  let r := b.range c
  correct (clampI (-rangeSpan r) (rangeSpan r) raw) (b.rd (calIG c r)) (b.rd (corIG c r)) (b.rd (calIO c r)) (b.rd (corIO c r))

/-- Nominal shunt of a range in µΩ (R109): 150 A, 15 A, 1.5 A. -/
def shuntNominal (r : Nat) : Nat := if r = 0 then 200 else if r = 1 then 2000 else 20000

/-- The range for which a part of the current path stands, `lag` ticks behind the decision of a change (R112). -/
def Bay.rangeWired (b : Bay) (c lag : Nat) : Nat :=
  let m := b.measChOf c
  match m.bridgeTo with
  | some r => if m.bridgeEnd - 160 + lag ≤ b.now then r else b.range c
  | none => b.range c

/-- The bypass of the 15 A (`k` = 1) or the 1.5 A shunt (`k` = 2) is closed (R109): while the range is larger than that shunt's own, commanded 0.16 µs after the decision (R112). -/
def Bay.bypassClosed (b : Bay) (c k : Nat) : Bool := decide (b.rangeWired c 20 < k)

/-- The range of the amplifier gain and the modulator feedback: settled 0.80 µs after the decision (R109, R112). -/
def Bay.gainRange (b : Bay) (c : Nat) : Nat := b.rangeWired c 100

/-- The modulator clocks of the frame now closing in which a bridge took the place of the codes (R112). -/
def Bay.bridgedClocks (b : Bay) (c : Nat) : Nat :=
  let m := b.measChOf c
  if m.bridged then (min b.now m.bridgeEnd - max (b.now - frameTicks) m.bridgeFrom) / 20 else 0

/-- A control-path current in 0.1 µA with the sum of the phase currents (µA) in the place of the bridged clocks (R112); each of the frame's 250 clocks weighs alike (log entry 91). -/
def bridgedCurrent (k : Nat) (i ph : Int) : Int := if k = 0 then i else (i * (250 - k) + ph * 10 * k).tdiv 250

/-! ## Closing the cell switch (R84, R117 to R119, R140) -/

/-- Bit n of MEAS.REF_RDY. -/
def Bay.refReady (b : Bay) (n : Nat) : Bool :=
  b.flag (if n = 0 then F.MEAS_REF_RDY_RDY0 else if n = 1 then F.MEAS_REF_RDY_RDY1 else if n = 2 then F.MEAS_REF_RDY_RDY2 else F.MEAS_REF_RDY_RDY3)

/-- A self-calibration runs on wale n, or waits for its frame edge (R118). -/
def Bay.calibrating (b : Bay) (n : Nat) : Bool := (b.measSt.scalT0.getD n none).isSome

/-- The inputs of wale n are disconnected by a self-calibration (R118): from its t0 until its factors are written at t0 + 300 ms. -/
def Bay.inputsOff (b : Bay) (n : Nat) : Bool :=
  match b.measSt.scalT0.getD n none with
  | some t => decide (t ≤ b.now) && decide ((b.measSt.scalSlots.getD n []).length < 7)
  | none => false

/-- The wale of a channel delivers its decimators' outputs: it is fitted and not in self-calibration (R108, R118). -/
def Bay.sampled (b : Bay) (c : Nat) : Bool := b.walePresent (waleOf c) && !b.inputsOff (waleOf c)

/-- The mode lets channels close their switches (R382, R390): STANDBY and the modes before it hold the request. -/
def Bay.modeCloses (b : Bay) : Bool :=
  let m := b.mode
  m = Mode.energized || m = Mode.forming || m = Mode.degraded || m = Mode.hold || (m = Mode.service && b.plant.contOn)

/-- The stage, the mode and the plant let a closure request be acted on: STAGE off, no block of R84, a healthy phase, the section running (R52). -/
def Bay.mayPrebias (b : Bay) (c : Nat) : Bool :=
  let s := b.stageOf c
  b.rd (F.CHN_STG_STAT_STAGE c) = Stg.off && !b.switchClosed c && !s.closeBlocked && b.healthy c != 0 &&
    b.lineOn (1 + waleOf c) && !b.slotSilent (waleOf c) && b.modeCloses && b.rd (F.SEC_STAT_STATE (waleOf c)) = 0

/-- Something holds a closure request, to the event of R117 and R140: no border table or cell, a reference that is not ready, a self-calibration or its missing pass. -/
def Bay.closureWaits (b : Bay) (c : Nat) : Bool :=
  !b.flag (F.CHN_REG_STAT_BORDER_OK c) || !(b.rd (F.CHN_CELL_ID c) != 0 || b.cellOpen c) || (b.chanOf c).needNewCell ||
    !b.refReady (waleOf c) || b.calibrating (waleOf c) || !b.flag (F.CHN_MEAS_STAT_CAL_VALID c)

/-- Act on a closure request (R84): pre-bias starts, or the request is held and the channel event raised once. The first frame after a pre-bias timeout requests the switch open, which ends the block. -/
def Bay.tryClose (b : Bay) (c : Nat) : Bay :=
  let x := b.chanOf c
  if (b.stageOf c).closeBlocked then b.setStage c { b.stageOf c with closeBlocked := false }
  else if !(b.stageOf c).cswReq then (if x.closureHeld then b.setChan c { x with closureHeld := false } else b)
  else if b.switchClosed c || b.rd (F.CHN_STG_STAT_STAGE c) = Stg.prebias then b
  else if b.closureWaits c then
    if x.closureHeld then b else (b.setChan c { x with closureHeld := true }).note c
  else if !x.holds.isEmpty || !b.mayPrebias c then b
  else (b.setChan c { x with closureHeld := false }).prebiasStart c

end Sys2Proof.Machine
end

