-- ==== Sys2Proof/Machine/Eis.lean ====
section
/-! DEFINITION. Impedance sweeps (spec chapter 06, R167 to R188): requests and sweep edges, points, the amplitude loop, demodulation, posted points and the grading vector. Samples are in 0.1 µV and 0.1 µA, amplitudes in µA rms. -/

namespace Sys2Proof.Machine

/-! ## Sweep tables and points (R172 to R175) -/

/-- The ticks between two sweep edges (R176). -/
abbrev sweepEdgeTicks : Nat := 12500000
/-- The ticks of a spectral sample (R39). -/
abbrev specTicks : Nat := 25000

/-- The sweep table of an ID: FLAGS, F_SPLIT, RESID_MAX and the points. -/
def Bay.sweepTable (b : Bay) (id : Int) : Option (Int × Int × Int × List SweepPt) :=
  match b.findImage id 5 with
  | some ⟨_, _, _, _, _, _, .sweep fl sp rm pts⟩ => some (fl, sp, rm, pts)
  | _ => none

/-- The harmonic of the mains within 1 % of a requested frequency in mHz, 0 for none (R175). -/
def nearHarmonic (fm freq : Int) : Int :=
  let h := freq / fm
  let near (h : Int) : Bool := 1 ≤ h && (freq - h * fm).natAbs * 100 ≤ (h * fm).natAbs
  if near h then h else if near (h + 1) then h + 1 else 0

/-- The frequency asked of a point in mHz after mains avoidance, and whether it moved (R175). -/
def Bay.askedFreq (b : Bay) (fl : Int) (p : SweepPt) : Rat × Bool :=
  let fm : Int := if b.rd F.MEAS_CTL_MAINS = 0 then 50000 else 60000
  let h := nearHarmonic fm p.freq
  if bitOf fl 2 && h ≠ 0 then
    (if p.freq < h * fm then mkRat (985 * h * fm) 1000 else mkRat (1015 * h * fm) 1000, true)
  else (p.freq, false)

/-- The measure window L of a point in spectral samples (R174). -/
def windowLen (m : Int) (freq : Rat) : Nat := max 3 ((5000000 * (m : Rat)) / freq + 1 / 2).floor.toNat

/-- The smallest whole number at or above a / b. -/
def ceilDiv (a b : Nat) : Nat := (a + b - 1) / max 1 b

/-- The largest rms amplitude in µA whose peak over the channel's present current stays within the channel limit and the border's currents in each direction (R171; log entry 27). -/
def Bay.ampRoom (b : Bay) (c : Nat) : Rat :=
  let i : Int := (b.loopChOf c).iTgt
  let t := b.borderOf c
  let chg := if t.mayCharge then t.iChg else 0
  let dis := if t.mayDischarge then t.iDis else 0
  let room := min (b.phaseLimit c - i.natAbs) (min (chg - i) (dis + i))
  fdiv (max 0 room : Int) (fsqrt 2)

/-- Open point `idx` of the sweep on channel c at a spectral boundary (R168, R171, R174, R175, R178); its values, brought by the command frame before, take effect in the generator at this boundary (R167; log entry 27). -/
def Bay.openPoint (b : Bay) (c : Nat) (fl : Int) (idx : Nat) (p : SweepPt) : Bay :=
  let w := b.sweepOf c
  let asked := b.askedFreq fl p
  let m := p.measure.toNat
  let l := windowLen p.measure asked.1
  let f : Rat := mkRat (5000 * p.measure) l
  let req : Rat := (p.amp * 10000 : Int)
  let amp := min req (b.ampRoom c)
  let av := min 200000 (fdiv (fmul (fmul (fsqrt 2) amp) (b.rd (F.CHN_RPATH c))) 1000000)
  let flags := (if amp * 20 < req * 19 then 1 else 0) + (if asked.2 then 8 else 0) + (if w.restarted then w.flags &&& 70 else 0)
  let sn := ceilDiv (p.settle.toNat * l) m
  let b := ((b.setFlag (F.EISCH_STAT_SETTLE c) (0 < sn)).wr (F.EISCH_STAT_POINT c) idx).wr (F.EISCH_F c) (f * 1000 + 1 / 2).floor
  let b := b.setSweep c { w with
    phase := if 0 < sn then .settle else .window, av := av, ampReq := req, ampIn := amp, k := 0, settleN := sn, l := l, m := m, settlePer := 0
    openAt := b.now, freq := f, flags := flags, tzOpen := b.rd (F.CHN_T_ZONE c), smpV := [], smpI := [] }
  b.setStage c { b.stageOf c with gen := ⟨true, av, m, l, b.genOffset c, b.now⟩ }

/-- The measure window of point `idx` has closed already. -/
def Sweep.measured (w : Sweep) (idx : Nat) : Bool :=
  w.results.any (fun p => p.idx == idx) || w.closed.any (fun win => win.idx == idx)

/-- POINT_START (R178): at the spectral boundary that opens the point in progress. -/
def execPointStart (c : Fin 64) (s : State) : Result :=
  s.onBay (fun b =>
    let w := b.sweepOf c
    if b.flag (F.EISCH_STAT_RUN c) && w.phase = .waiting && !w.measured (b.rdN (F.EISCH_STAT_POINT c)) && b.now % specTicks = 0 then
      match b.sweepTable w.table with
      | some (fl, _, _, pts) =>
        match pts[b.rdN (F.EISCH_STAT_POINT c)]? with
        | some p => b.openPoint c fl (b.rdN (F.EISCH_STAT_POINT c)) p
        | none => b
      | none => b
    else b)

/-! ## Requests and sweep edges (R176, R177) -/

/-- The sweep edge for a request at bay time `t`: at least one control frame later (R176). -/
def sweepEdgeFor (t : Nat) : Nat := ceilTo sweepEdgeTicks (t + frameTicks)

/-- Ask for a sweep on channel c (R176). -/
def Bay.askSweep (b : Bay) (c : Nat) (table : Int) (edge : Nat) (host : Bool) : Bay :=
  b.setSweep c { b.sweepOf c with req := some ⟨table, edge, host⟩ }

/-- The channels of EIS.HMASK. -/
def Bay.hmasked (b : Bay) : List Nat := allChans.filter (fun c => bitOf (b.rd F.EIS_HMASK) c)

/-- A host request for a sweep (R176): channels with a running engine are left out with a configuration error. -/
def Bay.hcmdGo (b : Bay) : Bay :=
  b.gated F.EIS_HCMD_GO (fun b =>
    let at_ := b.rdN F.EIS_T_AT
    let edge := max (sweepEdgeFor b.now) (ceilTo sweepEdgeTicks at_)
    let free := b.hmasked.filter (fun c => !b.engRuns c && b.walePresent (waleOf c))
    let b' := b.each free (fun x c => x.askSweep c (b.rd F.EIS_HTABLE) edge true)
    if b.hmasked.any (fun c => !b.walePresent (waleOf c)) then b'.refuse F.EIS_HCMD_GO 7
    else if b.hmasked.any (fun c => b.engRuns c) then b'.refuse F.EIS_HCMD_GO 4 else b')

/-- HCMD_GO (R176). -/
def execHcmdGo (s : State) : Result := s.onBay (fun b => b.hcmdGo)

/-- A host abort on one channel (R181): a host-started sweep ends with END = 4, and a host request that waits is dropped. -/
def Bay.abortSweep (b : Bay) (c : Nat) : Bay :=
  let w := b.sweepOf c
  let b := b.onlyIf (b.flag (F.EISCH_STAT_RUN c) && w.host) (fun b => b.endSweepEarly c 4)
  let w := b.sweepOf c
  match w.req with
  | some r => if r.host then b.setSweep c { w with req := none } else b
  | none => b

/-- A host abort of the masked channels (R181); a channel of an absent section is refused (R3). -/
def Bay.hcmdAbort (b : Bay) : Bay :=
  b.gated F.EIS_HCMD_ABORT (fun b =>
    let b' := b.each (b.hmasked.filter (fun c => b.walePresent (waleOf c))) Bay.abortSweep
    if b.hmasked.any (fun c => !b.walePresent (waleOf c)) then b'.refuse F.EIS_HCMD_ABORT 7 else b')

/-- HCMD_ABORT (R181). -/
def execHcmdAbort (s : State) : Result := s.onBay (fun b => b.hcmdAbort)

/-- Why a sweep is refused at its edge, as its END code (R171, R177, R188); a table that an engine references counts as verified for that engine (R461). -/
def Bay.sweepRefused (b : Bay) (c : Nat) (r : SweepReq) : Option Int :=
  if !b.flag F.EIS_CTL_EN then some 4
  else if !(b.chanOf c).holds.isEmpty then some 2
  else if (b.sweepTable r.table).isNone || (r.host && b.revoked.contains r.table) then some 7
  else if !((b.borderOf c).mayCharge && (b.borderOf c).mayDischarge && b.flag (F.CHN_REG_STAT_BORDER_OK c)) && (b.loopChOf c).iTgt = 0 then some 5
  else none

/-- The sweep edge on one channel (R176, R177): donor calls and offers end, the sweep starts or is refused; beside a running sweep the request is refused and the sweep goes on. A refusal sets bit 4 of the event word (R233). -/
def Bay.sweepEdge (b : Bay) (c : Nat) : Bay :=
  let w := b.sweepOf c
  match w.req with
  | none => b
  | some r =>
    if b.now < r.edge then b
    else if b.flag (F.EISCH_STAT_RUN c) then (b.setSweep c { w with req := none }).sendEvBit b.now c 4
    else
      match b.sweepRefused c r with
      | some e => ((b.setSweep c { w with req := none }).wr (F.EISCH_STAT_END c) e).sendEvBit b.now c 4
      | none =>
        let b := (b.endDonation c).wr F.EIS_STAT_SWEEPING (b.rd F.EIS_STAT_SWEEPING + 1)
        let b := ((b.setFlag (F.EISCH_STAT_RUN c) true).wr (F.EISCH_STAT_POINT c) 0).wr (F.EISCH_STAT_END c) 0
        b.setSweep c { table := r.table, host := r.host, edge := b.now, tzEdge := b.rd (F.CHN_T_ZONE c), vecDue := w.vecDue }

/-- SWEEP_EDGE (R176): at a bay time that is a multiple of 100 ms. -/
def execSweepEdge (s : State) : Result :=
  s.onBay (fun b => if b.now % sweepEdgeTicks = 0 then b.each allChans (fun b c => b.sweepEdge c) else b)

/-! ## Samples, settle periods and windows (R168, R170, R179, R258, R259) -/

/-- Add a corrected spectral sample of channel c that closes now (R179). -/
def Bay.specSample (b : Bay) (c : Nat) (v i : Int) : Bay :=
  let w := b.sweepOf c
  if b.flag (F.EISCH_STAT_RUN c) && w.phase ≠ .waiting && w.openAt < b.now then
    let k := w.k + 1
    let b := b.setSweep c { w with k := k, smpV := w.smpV ++ [v], smpI := w.smpI ++ [i], phase := if w.settleN ≤ k then .window else w.phase, tzOpen := if w.phase = .settle && w.settleN ≤ k then b.rd (F.CHN_T_ZONE c) else w.tzOpen }
    b.onlyIf (w.settleN ≤ k) (fun b => b.setFlag (F.EISCH_STAT_SETTLE c) false)
  else b

/-- θ_k in turns: ((M × k) mod L) / L and the phase offset (R179, R258). -/
def thetaK (m l : Nat) (off : Rat) (k : Nat) : Rat := fadd (mkRat ((m * k) % max 1 l : Nat) (max 1 l)) off

/-- Σ x, Σ k·x, Σ x·cos θ_k and Σ x·sin θ_k over samples from index `k` on, added in order (R258). -/
def demodSums (m l : Nat) (off : Rat) : Nat → List Int → Rat × Rat × Rat × Rat → Rat × Rat × Rat × Rat
  | _, [], acc => acc
  | k, x :: r, (s0, s1, sc, ss) =>
    let th := thetaK m l off k
    demodSums m l off (k + 1) r
      (fadd s0 x, fadd s1 (fmul (k : Rat) x), fadd sc (fmul x (cosTurn th)), fadd ss (fmul x (sinTurn th)))

/-- The phasor of a settle period that starts at sample k0 (R259): (2/n) Σ x·cos θ_k and (2/n) Σ x·sin θ_k. -/
def settlePhasor (m l : Nat) (off : Rat) (k0 : Nat) (xs : List Int) : Rat × Rat :=
  let s := demodSums m l off k0 xs (0, 0, 0, 0)
  let g := fdiv 2 (xs.length : Rat)
  (fmul g s.2.2.1, fmul g s.2.2.2)

/-- The magnitude of a phasor. -/
def magn (x y : Rat) : Rat := fsqrt (fadd (fmul x x) (fmul y y))

/-- The factor of the amplitude loop (R168): AMP over the demodulated amplitude, within 0.5 and 2. -/
def ampFactor (want got : Rat) : Rat := if got = 0 then 2 else clampR (mkRat 1 2) 2 (fdiv want got)

/-- SETTLE_PERIOD_END (R168, R259): settle period j has all its samples; A_v follows the demodulated amplitude, and the reconstruction takes its phasors (R260). -/
def execSettlePeriodEnd (c : Fin 64) (s : State) : Result :=
  s.onBay (fun b =>
    let w := b.sweepOf c
    let j := w.settlePer
    let k0 := ceilDiv (j * w.l) w.m
    let k1 := ceilDiv ((j + 1) * w.l) w.m
    if b.flag (F.EISCH_STAT_RUN c) && w.phase ≠ .waiting && k1 ≤ w.k && k1 ≤ w.settleN then
      let off := b.genOffset c
      let pv := settlePhasor w.m w.l off k0 ((w.smpV.drop k0).take (k1 - k0))
      let pi := settlePhasor w.m w.l off k0 ((w.smpI.drop k0).take (k1 - k0))
      let amp := fdiv (fdiv (magn pi.1 pi.2) (fsqrt 2)) 10
      let av := if k1 ≤ w.settleN then min 200000 (fmul w.av (ampFactor w.ampIn amp)) else w.av
      b.setSweep c { w with settlePer := j + 1, av := av, fund := some (fdiv pv.1 10, fdiv pv.2 10, fdiv pi.1 10, fdiv pi.2 10) }
    else b)

/-- A window of channel c has its L samples. -/
def Sweep.full (w : Sweep) : Bool := w.phase = .window && w.settleN + w.l ≤ w.k

/-- MEASURE_WINDOW_CLOSE (R178): the window closes, its point waits for its solve, and the generator moves on to the next point, which opens at the same boundary. -/
def execMeasureWindowClose (c : Fin 64) (s : State) : Result :=
  s.onBay (fun b =>
    let w := b.sweepOf c
    if b.flag (F.EISCH_STAT_RUN c) && w.full && b.now % specTicks = 0 then
      let idx := b.rdN (F.EISCH_STAT_POINT c)
      let flags := w.flags ||| (if 50 < (b.rd (F.CHN_T_ZONE c) - w.tzOpen).natAbs then 32 else 0)
      let win : Window := ⟨b.now, idx, w.l, w.m, w.freq, w.ampReq, flags, (w.smpV.drop w.settleN).take w.l, (w.smpI.drop w.settleN).take w.l⟩
      let last : Bool := match b.sweepTable w.table with
        | some (_, _, _, pts) => decide (pts.length ≤ idx + 1)
        | none => true
      let b := b.setSweep c { w with closed := w.closed ++ [win], phase := .waiting, restarted := false, flags := 0, smpV := [], smpI := [], k := 0, fund := none }
      if last then b else b.wr (F.EISCH_STAT_POINT c) (idx + 1 : Nat)
    else b)

/-! ## Disturbances (R181) -/

/-- A range change upwards, a step change or a zone change meets a running sweep (R181): in a measure window the point is restarted from settle once, then flagged DIST. -/
def Bay.disturbSweep (b : Bay) (c : Nat) : Bay :=
  let w := b.sweepOf c
  if b.flag (F.EISCH_STAT_RUN c) && w.phase = .window then
    if w.restarted then b.setSweep c { w with flags := w.flags ||| 2 }
    else b.setSweep c { w with restarted := true, phase := .waiting, k := 0, smpV := [], smpI := [], fund := none }
  else b

/-- A PULSE level change in a measure window sets the PULSE flag, a limit of R181 the LIMIT flag. -/
def Bay.flagSweep (b : Bay) (c flag : Nat) : Bay :=
  let w := b.sweepOf c
  if b.flag (F.EISCH_STAT_RUN c) && w.phase ≠ .waiting && (flag ≠ 4 || w.phase = .window) then b.setSweep c { w with flags := w.flags ||| flag } else b

/-! ## Points and vectors (R179, R182 to R187) -/

/-- The functions 1, k, cos θ_k and sin θ_k of R258. -/
def gramBase (m l : Nat) (off : Rat) (k : Nat) : List Rat := [1, k, cosTurn (thetaK m l off k), sinTurn (thetaK m l off k)]

/-- The Gram matrix of R258 over k = 0 … L − 1, with the unit matrix beside it; sums in ascending k. -/
def gramRows (m l : Nat) (off : Rat) : List (List Rat) :=
  let base := (List.range l).map (gramBase m l off)
  (List.range 4).map (fun r =>
    (List.range 4).map (fun q => base.foldl (fun a x => fadd a (fmul (x.getD r 0) (x.getD q 0))) 0)
      ++ (List.range 4).map (fun q => if q = r then 1 else 0))

/-- A row less `f` times the pivot row, in binary64. -/
def elimRow (pivot row : List Rat) (f : Rat) : List Rat := List.zipWith (fun x y => fsub x (fmul f y)) row pivot

/-- Gauss-Jordan elimination over `n` columns from column `p` on: `out` holds the pivot rows so far. The first row left with a non-zero entry is the pivot (log entry 2). -/
def elim : Nat → Nat → List (List Rat) → List (List Rat) → List (List Rat)
  | 0, _, out, _ => out
  | n + 1, p, out, rows =>
    match rows.partition (fun r => r.getD p 0 != 0) with
    | (piv :: rest, zero) =>
      let one := piv.map (fun x => fdiv x (piv.getD p 0))
      let clear := fun (l : List (List Rat)) => l.map (fun r => elimRow one r (r.getD p 0))
      elim n (p + 1) (clear out ++ [one]) (clear (rest ++ zero))
    | ([], _) => out

/-- The inverse Gram matrix of R258. -/
def invGram (m l : Nat) (off : Rat) : List (List Rat) := (elim 4 0 [] (gramRows m l off)).map (·.drop 4)

/-- The least-squares c and s of R179 over a window (R258): the sums multiplied by the inverse Gram matrix, in binary64. -/
def fitPhasor (m l : Nat) (off : Rat) (xs : List Int) : Rat × Rat :=
  let s := demodSums m l off 0 xs (0, 0, 0, 0)
  let rhs := [s.1, s.2.1, s.2.2.1, s.2.2.2]
  let inv := invGram m l off
  let dot := fun (r : Nat) => (List.zip (inv.getD r []) rhs).foldl (fun a x => fadd a (fmul x.1 x.2)) 0
  (dot 2, dot 3)

/-- A window posts its point (R179, R183): Z = V / I with V = c − j·s, the flags AMP and LOWSIG. Without current Z is a value the spec does not state (log entry 1). -/
def Bay.postPoint (b : Bay) (c : Nat) (win : Window) : Bay :=
  let w := b.sweepOf c
  let off := b.genOffset c
  let v := fitPhasor win.m win.l off win.v
  let i := fitPhasor win.m win.l off win.i
  let mag := fadd (fmul i.1 i.1) (fmul i.2 i.2)
  let re := fdiv (fadd (fmul v.1 i.1) (fmul v.2 i.2)) mag
  let im := fdiv (fsub (fmul v.1 i.2) (fmul v.2 i.1)) mag
  let f1 := b.free
  let f2 := f1.2.free
  let zre := if mag = 0 then f1.1 else truncR (fmul re 1000000000)
  let zim := if mag = 0 then f2.1 else truncR (fmul im 1000000000)
  let b := if mag = 0 then f2.2 else b
  let amp := fdiv (fdiv (fsqrt mag) (fsqrt 2)) 10
  let bad := amp * 20 < win.amp * 19 || win.amp * 21 < amp * 20
  let low := magn v.1 v.2 < fmul (fsqrt 2) 10000
  let flags := win.flags ||| (if bad then 1 else 0) ||| (if low then 16 else 0)
  let out := !(win.l * specTicks ≥ 12500000 && win.f ≥ mkRat 1 20 && win.f ≤ 2000 && 100000 * 100000 ≤ zre * zre + zim * zim &&
    b.flag (F.CHN_MEAS_STAT_CAL_VALID c)) || flags &&& 247 != 0
  let pt : PointRes := ⟨(win.f * 1000 + 1 / 2).floor, zre, zim, truncR (fdiv amp 10000), win.idx, flags⟩
  let b := ((b.wr (F.EISCH_ZRE c) zre).wr (F.EISCH_ZIM c) zim).wr (F.EISCH_STAT_PFLAGS c) flags
  b.setSweep c { w with closed := w.closed.drop 1, results := w.results ++ [pt], outside := w.outside || out }

/-- POINT_RESULT (R178, R179): 1,949.6 µs and 40 µs after the window closed. The last point completes the sweep, END = 1. -/
def execPointResult (c : Fin 64) (s : State) : Result :=
  s.onBay (fun b =>
    match (b.sweepOf c).closed with
    | [] => b
    | win :: _ =>
      if b.now < win.closeT + 248700 then b
      else
        let n := match b.sweepTable (b.sweepOf c).table with
          | some (_, _, _, pts) => pts.length
          | none => 0
        let b := b.postPoint c win
        if n ≤ win.idx + 1 && b.flag (F.EISCH_STAT_RUN c) then
          let b := ((b.setFlag (F.EISCH_STAT_RUN c) false).wr (F.EISCH_STAT_END c) 1).wr F.EIS_STAT_SWEEPING (b.rd F.EIS_STAT_SWEEPING - 1)
          let w := b.sweepOf c
          b.setSweep c { w with vecDue := w.vecDue ++ [⟨b.now, w.table, w.edge, w.tzEdge, w.iSum, w.iN, w.outside, w.results⟩], results := [] }
        else b)

/-- The slope of the least-squares line of −Im Z against Re Z in 0.001 (R185), `none` where all Re Z are equal. -/
def diffSlope (pts : List PointRes) : Option Int :=
  let n : Int := pts.length
  let sx := sumI (pts.map (fun p => p.zre))
  let sy := sumI (pts.map (fun p => -p.zim))
  let sxx := sumI (pts.map (fun p => p.zre * p.zre))
  let sxy := sumI (pts.map (fun p => p.zre * -p.zim))
  let den := n * sxx - sx * sx
  if den = 0 then none else some ((1000 * (n * sxy - sx * sy)).tdiv den)

/-- A number a 16-bit signed field holds, else a value the spec does not state (log entry 1). -/
def Bay.fit16 (b : Bay) (v : Option Int) : Int × Bay :=
  match v with
  | some x => if -32768 ≤ x ∧ x ≤ 32767 then (x, b) else b.free
  | none => b.free

/-- The sum R_ohm + R_a + R_b of a vector (R185). -/
def GradeVec.rSum (g : GradeVec) : Int := g.rOhm + g.rA + g.rB

/-- The grading vector of a completed sweep (R184, R185), rounded toward zero to the units of R186 (log entry 3). -/
def Bay.vector (b : Bay) (c : Nat) (w : VecDue) (split residMax : Int) : GradeVec × Bay :=
  let above := w.results.filter (fun p => split ≤ p.f && p.flags < 128)
  let below := w.results.filter (fun p => p.f < split)
  let noFit := above.length < 6
  let pts := above.map PointRes.fitPt
  let fit := gradingFit pts
  let z (i : Nat) : Int := if noFit then 0 else truncR (([fit.rOhm, fit.rA, fit.rB, fit.fA * 1000, fit.fB * 1000, fit.resid pts * 10000] : List Rat).getD i 0)
  let noDiff := below.length < 3
  let d := if noDiff then ((32767 : Int), b) else b.fit16 (diffSlope below)
  let prev := match b.gradeOf c with
    | some g => if g.sweepId = w.table then some g else none
    | none => none
  let sum := z 0 + z 1 + z 2
  let drift := match prev with
    | none => ((32767 : Int), d.2)
    | some g => d.2.fit16 (if g.rSum = 0 then none else some ((10000 * (sum - g.rSum)).tdiv g.rSum))
  let flags := (if noFit then 1 else 0) + (if noDiff then 2 else 0) + (if residMax < z 5 then 4 else 0)
    + (if w.results.any (fun p => p.flags != 0) then 8 else 0) + (if w.outside then 16 else 0) + (if prev.isNone then 32 else 0)
  (⟨w.table, flags, z 0, z 1, z 2, z 3, z 4, d.1, z 5, drift.1⟩, drift.2)

/-- The bytes of a grading vector entry (R186). -/
def GradeVec.bytes (g : GradeVec) (npts : Nat) (edge : Nat) (tCell iDc : Int) : List Byte :=
  leBytes 1 8 ++ leBytes 1 g.flags ++ leBytes 2 npts ++ leBytes 4 g.sweepId ++ leBytes 8 edge ++ leBytes 4 g.rOhm ++ leBytes 4 g.rA ++ leBytes 4 g.rB
    ++ leBytes 4 g.fA ++ leBytes 4 g.fB ++ leBytes 2 g.d ++ leBytes 2 g.resid ++ leBytes 2 g.drift ++ leBytes 2 tCell ++ leBytes 4 iDc

/-- The bytes of a spectrum entry (R187). -/
def spectrumBytes (table : Int) (edge : Nat) (pts : List PointRes) : List Byte :=
  leBytes 1 9 ++ leBytes 1 pts.length ++ leBytes 1 pts.length ++ leBytes 1 0 ++ leBytes 4 table ++ leBytes 8 edge ++
    (pts.map (fun (p : PointRes) => leBytes 4 p.f ++ leBytes 4 p.zre ++ leBytes 4 p.zim ++ leBytes 2 p.amp ++ leBytes 1 p.idx ++ leBytes 1 p.flags)).flatten

/-- GRADING_VECTOR (R178, R184 to R187): 100 ms after the last point; the spectrum entry, then the vector entry, event 235, bit 4 of the event word. -/
def execGradingVector (c : Fin 64) (s : State) : Result :=
  s.onBay (fun b =>
    match (b.sweepOf c).vecDue with
    | [] => b
    | w :: later =>
      if b.now < w.post + 100 * msTicks then b
      else
        let b := b.setSweep c { b.sweepOf c with vecDue := later }
        match b.sweepTable w.table with
        | none => b
        | some (fl, split, rm, _) =>
          let b := b.onlyIf (bitOf fl 0) (fun b => b.putEntry c (.spectrum (spectrumBytes w.table w.edge w.results)))
          let b := b.onlyIf (bitOf fl 1) (fun b =>
            let g := b.vector c w split rm
            let iDc := if w.iN = 0 then 0 else w.iSum.tdiv w.iN
            (g.2.setGrade c (some g.1)).putEntry c (.grading (g.1.bytes w.results.length w.edge w.tzEdge iDc)))
          (b.note 235).sendEvBit b.now c 4)

end Sys2Proof.Machine
end

