-- ==== Sys2Proof/Machine/Measure.lean ====
section
/-! DEFINITION. Measurement (spec chapter 04, R107 to R135): current ranges, spectral and precision closings, references, self-calibration and the EHM-1 meter. Readings are in 0.1 µV and 0.1 µA unless a name says otherwise. -/

namespace Sys2Proof.Machine

/-! ## Current ranges (R109 to R112) -/

/-- The corrections of the range in force have converged (R131). -/
def Bay.syncConv (b : Bay) (c : Nat) : Bay :=
  let u := (b.measChOf c).upd
  b.setFlag (F.CHN_MEAS_STAT_CONV c) (14 ≤ u.getD 0 0 && 14 ≤ u.getD (1 + b.range c) 0)

/-- Decide a range change (R112): the modulator is bridged for eight clocks (160 ticks); a decision inside a bridge waits for its end. -/
def Bay.changeRange (b : Bay) (c to_ : Nat) : Bay :=
  let m := b.measChOf c
  if m.bridgeTo.isSome then b.setMeasCh c { m with pendRange := some to_ }
  else if to_ = b.range c then b
  else b.setMeasCh c { m with bridgeTo := some to_, bridgeFrom := if m.bridged && m.bridgeEnd = b.now then m.bridgeFrom else b.now, bridgeEnd := b.now + 160, bridged := true, downSince := none }

/-- The smallest range whose 90 % exceeds a magnitude in µA, no smaller than the floor `lo` (R110, R111). -/
def rangeFor (mag : Int) (lo : Nat) : Nat :=
  if mag * 10 < rangeFs 2 * 9 && 2 ≤ lo then 2
  else if mag * 10 < rangeFs 1 * 9 && 1 ≤ lo then 1 else 0

/-- RANGE_UP (R110): a current reading in µA above 105 % of the range for two modulator clocks, or with ANTIC a target above 90 %. A clipped reading selects 150 A. -/
def execRangeUp (c : Fin 64) (reading : Int) (s : State) : Result :=
  s.onBay (fun b =>
    let fs := rangeFs (b.range c)
    let i : Int := reading.natAbs
    let t : Int := (b.stageOf c).iTgt.natAbs
    let over_ := fs * 105 < i * 100
    let antic := b.flag (F.CHN_MEAS_CFG_ANTIC c) && fs * 9 < t * 10
    if 0 < b.range c && (over_ || antic) then
      let to_ := if fs * 12 ≤ i * 10 then 0 else rangeFor (max i t) (b.range c)
      (b.changeRange c to_).disturbSweep c
    else b)

/-- RANGE_DOWN (R111): 10 ms of reading and target below 8 % of the range, down by one step; suspended during a sweep, never below RFLOOR. -/
def execRangeDown (c : Fin 64) (s : State) : Result :=
  s.onBay (fun b =>
    match (b.measChOf c).downSince with
    | none => b
    | some t =>
      let r := b.range c
      if t + 10 * msTicks ≤ b.now && !b.flag (F.EISCH_STAT_RUN c) && (r : Int) < b.rd (F.CHN_MEAS_CFG_RFLOOR c) then b.changeRange c (r + 1)
      else b)

/-- RANGE_BRIDGE_END (R112): the new range is in force and counted; a decision that waited starts its own bridge. -/
def execRangeBridgeEnd (c : Fin 64) (s : State) : Result :=
  s.onBay (fun b =>
    let m := b.measChOf c
    match m.bridgeTo with
    | none => b
    | some r =>
      if b.now < m.bridgeEnd then b
      else
        let b := (b.wr (F.CHN_MEAS_STAT_RANGE c) r).bump32 (F.CHN_RNG_CNT c)
        let b := (b.setMeasCh c { m with bridgeTo := none, pendRange := none, rangeT := b.now }).syncConv c
        match m.pendRange with
        | some q => b.changeRange c q
        | none => b)

/-- The range logic at a frame edge: the time below 8 % (R111), the BRIDGE flag, and a committed RFLOOR that forbids the range in force. R111 and R129 do not say whether the zero cycle of an open switch heeds RFLOOR: the model lets it pass (DESIGN CHOICE, log entry 88). -/
def Bay.rangeEdge (b : Bay) (c : Nat) : Bay :=
  let m := b.measChOf c
  let fs := rangeFs (b.range c)
  let low := (b.rd (F.CHN_I c)).natAbs * 100 < fs * 8 && (b.stageOf c).iTgt.natAbs * 100 < fs * 8
  let since := if low then (match m.downSince with | some t => some t | none => some b.now) else none
  let b := b.setFlag (F.CHN_MEAS_STAT_BRIDGE c) m.bridged
  let b := b.setMeasCh c { m with bridged := m.bridgeTo.isSome, downSince := since }
  let floor := b.rdN (F.CHN_MEAS_CFG_RFLOOR c)
  if floor < b.range c && (b.measChOf c).zeroRange = 0 then (b.changeRange c floor).disturbSweep c else b

/-! ## Spectral and precision paths (R113, R115, R116) -/

/-- SPECTRAL_BOUNDARY (R39, R115, R179): at a multiple of 25,000 ticks the spectral path closes a sample of each channel. -/
def execSpectralBoundary (rs : List Reading) (s : State) : Result :=
  s.onBay (fun b =>
    if b.now % specTicks = 0 then
      (rs.filter (fun r => b.sampled r.chan)).foldl (fun b r => b.specSample r.chan (b.corrV r.chan r.v) (b.corrI r.chan r.i)) b
    else b)

/-- The ticks of a precision window (R113, R115). -/
def Bay.precTicks (b : Bay) : Nat := if b.rd F.MEAS_CTL_MAINS = 0 then 2500000 else 2083340

/-- The gain step of R128: (m / p − 1) / 8 within ±20 ppm, and whether the limit bound. -/
def gainStep (m p : Int) : Rat × Bool :=
  let s := ((m : Rat) / p - 1) / 8
  let c := clampR (mkRat (-20) 1000000) (mkRat 20 1000000) s
  (c, decide (c ≠ s))

/-- The nearest whole number, halves away from zero. -/
def nearest (x : Rat) : Int := if x < 0 then -((-x + 1 / 2).floor) else (x + 1 / 2).floor

/-- A gain in 0.01 ppm after a step (R128). -/
def steppedGain (g : Int) (step : Rat) : Int := nearest (((1 + mkRat g 100000000) * (1 + step) - 1) * 100000000)

/-- Every correction of channel c stands within 400 ppm and 0.04 % of its range (R130). -/
def Bay.driftBack (b : Bay) (c : Nat) : Bool :=
  (b.rd (F.CHN_COR_VG c)).natAbs ≤ 40000 &&
    (List.range 3).all (fun r => (b.rd (corIG c r)).natAbs ≤ 40000 && (b.rd (corIO c r)).natAbs ≤ rangeFs r * 4 / 1000)

/-- A correction that would pass its limit is not applied (R130): DRIFT_LIM, the channel event, event 234. -/
def Bay.driftLimit (b : Bay) (c : Nat) : Bay := ((b.setFlag (F.CHN_MEAS_STAT_DRIFT_LIM c) true).note c).note 234

/-- A channel's corrections have come back from their limit (R130). -/
def Bay.driftClear (b : Bay) (c : Nat) : Bay :=
  b.onlyIf (b.flag (F.CHN_MEAS_STAT_DRIFT_LIM c) && b.driftBack c) (fun b => b.setFlag (F.CHN_MEAS_STAT_DRIFT_LIM c) false)

/-- An offset update of R128 for a range: p − m over 8 within 1e-5 of full scale; the outcome code of R126. It runs at the frame edge at which it takes effect (R116, R124). -/
def Bay.offsetUpdate (b : Bay) (c r : Nat) (m p : Int) : Int × Bay :=
  let lim : Rat := mkRat (rangeFs r * 10) 100000
  let d0 : Rat := mkRat (p - m) 8
  let d := clampR (-lim) lim d0
  let v := nearest ((b.rd (corIO c r) : Rat) + d)
  if rangeFs r * 5 / 1000 < v.natAbs then (6, b.driftLimit c)
  else (if d = d0 then 0 else 1, (b.wr (corIO c r) v).driftClear c)

/-- The step of a gain update; with a precision value of 0 the ratio is a value the spec does not state (log entry 1). -/
def Bay.gainStepOf (b : Bay) (m p : Int) : (Rat × Bool) × Bay :=
  if p = 0 then ((clampR (mkRat (-20) 1000000) (mkRat 20 1000000) (b.free.1 : Rat), false), b.free.2) else (gainStep m p, b)

/-- A gain update of R128 on factor `k`, counted in place `slot` of R131. -/
def Bay.gainUpdate (b : Bay) (c : Nat) (k : Key) (slot : Nat) (m p : Int) : Int × Bay :=
  let st := b.gainStepOf m p
  let b := st.2
  let v := steppedGain (b.rd k) st.1.1
  if 50000 < v.natAbs then (6, b.driftLimit c)
  else
    let x := b.measChOf c
    let b := ((b.wr k v).setMeasCh c { x with upd := x.upd.set slot (min 14 (x.upd.getD slot 0 + 1)) }).driftClear c
    (if st.1.2 then 1 else 0, b.syncConv c)

/-- A whole precision window with the switch open (R129): a zero of the range in force with m = 0 A on its way, as for a meter result (R124), then the next range. A pre-bias has ended the cycle. -/
def Bay.openZero (b : Bay) (c : Nat) : Bay :=
  let x := b.measChOf c
  match x.openSince with
  | none => b
  | some t =>
    if b.now < t + b.precTicks || b.calibrating (waleOf c) || b.rd (F.CHN_STG_STAT_STAGE c) = Stg.prebias then b
    else
      let r := b.range c
      let zeros := b.measSt.zeros ++ [(b.now + 25000, c, r, b.rd (F.CHN_I_PREC c))]
      let b := if x.zeroRange = 0 then b else { b with measSt := { b.measSt with zeros := zeros } }
      let to_ := if x.zeroRange = 0 then 0 else (r + 1) % 3
      (b.setMeasCh c { b.measChOf c with zeroRange := 1 }).changeRange c to_

/-- The precision window of one channel closes, unless its wale delivers none (R108, R115, R116). -/
def Bay.precClose (b : Bay) (r : Reading) : Bay :=
  let c := (r.chan : Nat)
  if !b.sampled c then b
  else
  let b := ((b.wr (F.CHN_V_PREC c) (b.corrV c r.v)).wr (F.CHN_I_PREC c) (b.corrI c r.i)).wr (F.CHN_PREC_T c) b.now
  b.openZero c

/-- PRECISION_WINDOW_CLOSE (R115): at a window boundary, for a window that opened at the present length. -/
def execPrecisionWindowClose (rs : List Reading) (s : State) : Result :=
  s.onBay (fun b =>
    if b.now % b.precTicks = 0 && b.measSt.precFrom + b.precTicks ≤ b.now then rs.foldl (fun b r => b.precClose r) b else b)

/-- A write of MEAS.CTL.MAINS (R115): refused while the block runs, as of the last frame edge (R399); accepted, it takes effect at the next frame edge. -/
def Bay.mainsWrite (b : Bay) (v : Int) : Bay :=
  b.gated F.MEAS_CTL_MAINS (fun b =>
    if b.measSt.running then b.refuse F.MEAS_CTL_MAINS 1
    else { b with measSt := { b.measSt with mainsPend := some v } })

/-- MAINS_WRITE (R115). -/
def execMainsWrite (v : BitVec 1) (s : State) : Result := s.onBay (fun b => b.mainsWrite v.toNat)

/-- The frame edge at which a MAINS write takes effect: the window in progress is discarded, the first new one opens at the next multiple of its length (R115). The block counts as running from edge to edge (R399). -/
def Bay.mainsEdge (b : Bay) : Bay :=
  let b := { b with measSt := { b.measSt with running := b.flag F.MEAS_CTL_RUN } }
  match b.measSt.mainsPend with
  | none => b
  | some v =>
    let b := b.wr F.MEAS_CTL_MAINS v
    { b with measSt := { b.measSt with mainsPend := none, precFrom := ceilTo b.precTicks b.now } }

/-! ## References (R117) -/

/-- The REF_CTL bit of wale n. -/
def refCtl (n : Nat) : Key := if n = 0 then F.MEAS_REF_CTL_EN0 else if n = 1 then F.MEAS_REF_CTL_EN1 else if n = 2 then F.MEAS_REF_CTL_EN2 else F.MEAS_REF_CTL_EN3
/-- The REF_RDY bit of wale n. -/
def refRdy (n : Nat) : Key := if n = 0 then F.MEAS_REF_RDY_RDY0 else if n = 1 then F.MEAS_REF_RDY_RDY1 else if n = 2 then F.MEAS_REF_RDY_RDY2 else F.MEAS_REF_RDY_RDY3
/-- The BUSY bit of wale n's self-calibration. -/
def scalBusy (n : Nat) : Key := if n = 0 then F.MEAS_SCAL_STAT_BUSY0 else if n = 1 then F.MEAS_SCAL_STAT_BUSY1 else if n = 2 then F.MEAS_SCAL_STAT_BUSY2 else F.MEAS_SCAL_STAT_BUSY3
/-- The FAIL bit of wale n's self-calibration. -/
def scalFail (n : Nat) : Key := if n = 0 then F.MEAS_SCAL_STAT_FAIL0 else if n = 1 then F.MEAS_SCAL_STAT_FAIL1 else if n = 2 then F.MEAS_SCAL_STAT_FAIL2 else F.MEAS_SCAL_STAT_FAIL3

/-- The reference buffers of wale n go off. -/
def Bay.refOff (b : Bay) (n : Nat) : Bay :=
  let b := ((b.wr (refCtl n) 0).wr (refRdy n) 0).each (waleChans n) (fun b c => b.setFlag (F.CHN_MEAS_STAT_NREF c) true)
  { b with measSt := { b.measSt with refAt := b.measSt.refAt.set n none, refKept := b.measSt.refKept.set n false } }

/-- A write of bit n of MEAS.REF_CTL (R117): 1 starts the 50 ms, or readiness at the next frame edge where the buffers kept running; 0 is refused beside a closed switch or a self-calibration. -/
def Bay.refWrite (b : Bay) (n : Nat) (on : Bool) : Bay :=
  if on = b.flag (refCtl n) then b
  else if !b.walePresent n then b.refuse (refCtl n) 7
  else if on then
    let at_ := if b.measSt.refKept.getD n false then nextEdge b.now else b.now + 50 * msTicks
    { b.setFlag (refCtl n) true with measSt := { b.measSt with refAt := b.measSt.refAt.set n (some at_) } }
  else if b.waleSwitchClosed n || b.calibrating n then b.refuse (refCtl n) 4
  else b.refOff n

/-- A write of MEAS.REF_CTL (R117). -/
def Bay.refCtlWrite (b : Bay) (v : Nat) : Bay :=
  b.gated F.MEAS_REF_CTL_EN0 (fun b => b.each (List.range 4) (fun b n => b.refWrite n (v.testBit n)))

/-- REF_CTL_WRITE (R117). -/
def execRefCtlWrite (v : BitVec 4) (s : State) : Result := s.onBay (fun b => b.refCtlWrite v.toNat)

/-- REF_READY (R117): REF_RDY sets, NREF clears, event 239, and held closures start pre-bias. -/
def execRefReady (n : Fin 4) (s : State) : Result :=
  s.onBay (fun b =>
    match b.measSt.refAt.getD n none with
    | none => b
    | some t =>
      if b.now < t || b.flag (refRdy n) then b
      else
        let b := { b.setFlag (refRdy n) true with measSt := { b.measSt with refAt := b.measSt.refAt.set n none } }
        let b := b.each (waleChans n) (fun b c => b.setFlag (F.CHN_MEAS_STAT_NREF c) false)
        (b.raise 239 (n : Nat) 0).each (waleChans n) (fun b c => b.tryClose c))

/-! ## Self-calibration (R118, R119) -/

/-- Start self-calibration of wale n, or refuse it (R118). -/
def Bay.scalWrite (b : Bay) (n : Nat) : Bay :=
  if !b.walePresent n then b.refuse F.MEAS_SCAL_CTL_GO 7
  else if b.refReady n && !b.calibrating n && (waleChans n).all (fun c => b.rd (F.CHN_STG_STAT_STAGE c) == Stg.off) then
    { b with measSt := { b.measSt with scalT0 := b.measSt.scalT0.set n (some (nextEdge b.now)), scalSlots := b.measSt.scalSlots.set n [] } }
  else b.refuse F.MEAS_SCAL_CTL_GO 4

/-- A write of MEAS.SCAL_CTL (R118). -/
def Bay.scalCtlWrite (b : Bay) (m : Nat) : Bay :=
  b.gated F.MEAS_SCAL_CTL_GO (fun b => b.each ((List.range 4).filter (fun n => m.testBit n)) (fun b n => b.scalWrite n))

/-- SCAL_CTL_WRITE (R118). -/
def execScalCtlWrite (m : BitVec 4) (s : State) : Result := s.onBay (fun b => b.scalCtlWrite m.toNat)

/-- The frame edge t0 of a self-calibration: BUSY shows it (R118). -/
def Bay.scalEdge (b : Bay) : Bay :=
  b.each (List.range 4) (fun b n =>
    match b.measSt.scalT0.getD n none with
    | some t => b.onlyIf (t ≤ b.now) (fun b => b.setFlag (scalBusy n) true)
    | none => b)

/-- The reading of local channel `l` in slot `k`: (voltage, current). -/
def slotRead (slots : List (List (Int × Int))) (k l : Nat) : Int × Int := (slots.getD k []).getD l (0, 0)

/-- A gain check of R119: the measured span within ±0.5 % of nominal. -/
def gainOk (span nominal : Int) : Bool := (span - nominal).natAbs * 200 ≤ nominal.natAbs

/-- The current checks of one range (R119): zero `z`, reading `g` at 80 % of range. -/
def rangeOk (r : Nat) (z g : Int) : Bool := gainOk (g - z) (rangeFs r * 8) && z.natAbs * 500 ≤ (rangeFs r * 10).natAbs

/-- All checks of R119 on the seven slots of a local channel. -/
def calPasses (x : Nat → Int × Int) : Bool :=
  gainOk ((x 1).1 - (x 0).1) 50000000 && (x 0).1.natAbs ≤ 20000 && (2 * (x 2).1 - (x 0).1 - (x 1).1).natAbs ≤ 400
    && rangeOk 0 (x 0).2 (x 3).2 && rangeOk 1 (x 1).2 (x 4).2 && rangeOk 2 (x 2).2 (x 5).2
    && ((x 6).1 - (x 0).1).natAbs ≤ 50 && ((x 6).2 - (x 0).2).natAbs * 200000 ≤ (rangeFs 0 * 10).natAbs

/-- The gain in 0.01 ppm that makes a span its nominal value, and the offset it leaves of a zero (R116; log entry 28). -/
def calFactors (zero span nominal : Int) : Int × Int :=
  let g := nearest ((nominal : Rat) / span * 100000000) - 100000000
  (g, nearest ((zero : Rat) * (1 + mkRat g 100000000)))

/-- A channel passes or fails its self-calibration (R119). -/
def Bay.calChannel (b : Bay) (slots : List (List (Int × Int))) (n : Nat) (l : Nat) : Bay :=
  let c := 16 * n + l
  let x := fun k => slotRead slots k l
  if calPasses x then
    let v := calFactors (x 0).1 ((x 1).1 - (x 0).1) 50000000
    let i (r : Nat) : Int × Int := calFactors (x r).2 ((x (3 + r)).2 - (x r).2) (rangeFs r * 8)
    let b := (b.wr (F.CHN_CAL_VG c) v.1).wr (F.CHN_CAL_VO c) v.2
    let b := b.each (List.range 3) (fun b r => (b.wr (calIG c r) (i r).1).wr (calIO c r) (i r).2)
    let b := b.onlyIf (!b.flag (F.CHN_MEAS_STAT_CAL_VALID c)) (fun b => b.setMeasCh c { b.measChOf c with upd := [0, 0, 0, 0] })
    ((b.setFlag (F.CHN_MEAS_STAT_CAL_VALID c) true).setFlag (F.CHN_MEAS_STAT_CAL_FAIL c) false).syncConv c
  else ((b.setFlag (F.CHN_MEAS_STAT_CAL_VALID c) false).setFlag (F.CHN_MEAS_STAT_CAL_FAIL c) true).note c

/-- The mask of the local channels that fail. -/
def failMask (slots : List (List (Int × Int))) : Nat :=
  ((List.range 16).filter (fun l => !calPasses (fun k => slotRead slots k l))).foldl (fun m l => setBitN m l) 0

/-- SELF_CAL_SLOT (R118, R119): slot `k` + 1 of the seven has integrated its two windows; the readings of the 16 channels, voltage in 0.1 µV and current in 0.1 µA. With the last of them, 300 ms after t0, the factors are checked, those of passing channels are written and the inputs are reconnected. -/
def execSelfCalSlot (n : Fin 4) (k : Fin 7) (rs : List (Int × Int)) (s : State) : Result :=
  s.onBay (fun b =>
    let m := b.measSt
    match m.scalT0.getD n none with
    | none => b
    | some t =>
      let have_ := m.scalSlots.getD n []
      if have_.length = k && t + (60 + 40 * (k : Nat)) * msTicks ≤ b.now then
        let slots := have_ ++ [rs]
        let b := { b with measSt := { m with scalSlots := m.scalSlots.set n slots } }
        b.onlyIf (k.val == 6) (fun b => b.each (List.range 16) (fun b l => b.calChannel slots n l))
      else b)

/-- SELF_CAL_COMPLETE (R118): 320 ms after t0 BUSY clears, event 233; held closures are acted on where CAL_VALID is 1. -/
def execSelfCalComplete (n : Fin 4) (s : State) : Result :=
  s.onBay (fun b =>
    let m := b.measSt
    match m.scalT0.getD n none with
    | none => b
    | some t =>
      let slots := m.scalSlots.getD n []
      if b.now < t + 320 * msTicks || slots.length < 7 then b
      else
        let b := (b.setFlag (scalBusy n) false).setFlag (scalFail n) (failMask slots != 0)
        let m := b.measSt
        let b := { b with measSt := { m with scalT0 := m.scalT0.set n none, scalSlots := m.scalSlots.set n [], scalEnd := m.scalEnd.set n b.now } }
        (b.raise 233 (n : Nat) (failMask slots)).each (waleChans n) (fun b c => b.tryClose c))

/-! ## The EHM-1 (R123 to R131) -/

/-- The oven's reading at a frame edge (R123): WARM counts the seconds in its band. -/
def Bay.ovenEdge (b : Bay) (t : Int) (inBand : Bool) : Bay :=
  let b := b.wr F.MEAS_OVEN_T t
  if inBand then
    let since := b.measSt.ovenSince.getD b.now
    { b.wr F.MEAS_WARM (min 4294967295 ((b.now - since) / secTicks) : Nat) with measSt := { b.measSt with ovenSince := some since } }
  else { b.wr F.MEAS_WARM 0 with measSt := { b.measSt with ovenSince := none } }

/-- OVEN_READY (R123): 30 min within ±0.05 K; event 237. -/
def execOvenReady (s : State) : Result :=
  s.onBay (fun b =>
    match b.measSt.ovenSince with
    | none => b
    | some t =>
      if b.mPresent && !b.flag F.MEAS_STAT_OVEN_RDY && t + 1800 * secTicks ≤ b.now then (b.setFlag F.MEAS_STAT_OVEN_RDY true).note 237 else b)

/-- OVEN_LOST (R123): the oven leaves its band; event 237. -/
def execOvenLost (s : State) : Result :=
  s.onBay (fun b =>
    let b := { b.wr F.MEAS_WARM 0 with measSt := { b.measSt with ovenSince := none } }
    if b.flag F.MEAS_STAT_OVEN_RDY then (b.setFlag F.MEAS_STAT_OVEN_RDY false).note 237 else b)

/-- CERT_DUE_REACHED (R127): the verified certificate is past its due date; event 238. -/
def execCertDueReached (s : State) : Result :=
  s.onBay (fun b =>
    if b.flag F.MEAS_STAT_CERT_OK && !b.flag F.MEAS_STAT_CERT_DUE then (b.setFlag F.MEAS_STAT_CERT_DUE true).note 238 else b)

/-- Entry i is run: VALID, and its channel's section is present (R125). -/
def Bay.seqRuns (b : Bay) (i : Nat) : Bool :=
  b.flag (F.SEQ_VALID i) && (64 ≤ b.rd (F.SEQ_INPUT i) || b.walePresent (waleOf (b.rdN (F.SEQ_INPUT i))))

/-- The next entry after `i`, if one stands before the end of the table. -/
def Bay.seqNext (b : Bay) (i : Nat) : Option Nat := ((List.range 72).filter (fun j => i ≤ j && b.seqRuns j)).head?

/-- A sweep of the table ends: it is counted (R125). -/
def Bay.endMeterSweep (b : Bay) : Bay := b.wr F.MEAS_STAT_SWEEP ((b.rd F.MEAS_STAT_SWEEP + 1) % 65536)

/-- The result of the last entry of a complete sweep has come (R127): one that has passed inputs 64, 65, 70 and 71 clears CHECK_FAIL. -/
def Bay.checkSweepEnd (b : Bay) (sweep : Int) : Bay :=
  let m := b.measSt
  if sweep ≠ m.checkSweep || sweep = b.rd F.MEAS_STAT_SWEEP then b
  else
    let ok := [64, 65, 70, 71].all (fun k => m.checks.contains k) && !m.checks.contains 255
    { b.onlyIf ok (fun b => b.setFlag F.MEAS_STAT_CHECK_FAIL false) with measSt := { m with checks := [] } }

/-- The quantity entry i measures in a sweep: alternate takes voltage in even sweeps (R125). -/
def Bay.seqKind (b : Bay) (i : Nat) : Nat :=
  let k := b.rdN (F.SEQ_KIND i)
  if k = 2 then b.rdN F.MEAS_STAT_SWEEP % 2 else k

/-- Begin entry i at bay time now (R124). -/
def Bay.beginEntry (b : Bay) (i : Nat) : Bay :=
  { b.wr F.MEAS_STAT_ENTRY i with
    measSt := { b.measSt with cur := some { i := i, kind := b.seqKind i, input := b.rdN (F.SEQ_INPUT i), t0 := b.now, sweep := b.rd F.MEAS_STAT_SWEEP } } }

/-- An entry as its input window closes (R126): the range in force, whether the range has changed within the window, and whether the cell switch has changed state or self-calibration run within it. -/
def Bay.endEntry (b : Bay) (e : MeterEntry) : MeterEntry :=
  if 64 ≤ e.input then e
  else
    let c := e.input
    let n := waleOf c
    let x := b.measChOf c
    let win := b.now - b.precTicks
    { e with range := b.range c, moved := decide (win < x.rangeT) || x.bridgeTo.isSome,
             broken := decide (win < x.switchT) || b.inputsOff n || b.flag (scalBusy n) || decide (win < b.measSt.scalEnd.getD n 0) }

/-- METER_ENTRY (R124, R125): at a precision window boundary, two windows after the last entry began, the meter moves to the next valid entry; with RUN = 0 it begins none. R125 does not say where the sequence goes on once RUN is 1 again, nor what SWEEP counts while no entry can run: the model restarts at entry 0, and counts a sweep at every boundary (DESIGN CHOICE, log entry 88). -/
def execMeterEntry (s : State) : Result :=
  s.onBay (fun b =>
    let ready := match b.measSt.cur with
      | some e => decide (e.t0 + 2 * b.precTicks ≤ b.now)
      | none => true
    if b.mPresent && b.now % b.precTicks = 0 && ready then
      let from_ := match b.measSt.cur with
        | some e => e.i + 1
        | none => 0
      let b := match b.measSt.cur with
        | some e => { b with measSt := { b.measSt with done := some (b.endEntry e), cur := none } }
        | none => b
      if !b.flag F.MEAS_CTL_RUN then b
      else match b.seqNext from_ with
      | some i => b.beginEntry i
      | none =>
        let b := b.endMeterSweep
        match b.seqNext 0 with
        | some i => b.beginEntry i
        | none => b
    else b)

/-- The limit of an internal input holds (R127). -/
def Bay.internalOk (b : Bay) (input : Nat) (m : Int) : Bool :=
  match input with
  | 64 => m.natAbs ≤ 20
  | 65 => (m - nth b.measSt.certValue 0).natAbs ≤ 200
  | 70 => (m - nth b.measSt.certValue 1).natAbs ≤ 50
  | 71 => m.natAbs ≤ 50
  | _ => (m - 50000000).natAbs ≤ 20000

/-- Note an internal input that its sweep has passed, or 255 for a failure. -/
def Bay.noteCheck (b : Bay) (sweep : Int) (k : Nat) : Bay :=
  let m := b.measSt
  { b with measSt := { m with checkSweep := sweep, checks := (if m.checkSweep = sweep then m.checks else []) ++ [k] } }

/-- An internal result (R127): a failure of 64, 65, 70 or 71 sets CHECK_FAIL, each failure raises event 232. -/
def Bay.internalResult (b : Bay) (input : Nat) (sweep m : Int) : Bay :=
  if b.internalOk input m then b.noteCheck sweep input
  else if 66 ≤ input && input ≤ 69 then b.raiseD 232 (input - 66 : Nat)
  else ((b.noteCheck sweep 255).setFlag F.MEAS_STAT_CHECK_FAIL true).note 232

/-- A shunt-chain reading as a current in 0.1 µA (R126): `m` is the reading by the nominal shunt of the range, converted to the factory value of the wale's own (log entry 91). -/
def Bay.meterCurrent (b : Bay) (c r : Nat) (m : Int) : Int :=
  let n := waleOf c
  nearest (mkRat (m * 1000000000) 1 / (1000000000 + Config.shuntDev (2 + n) (b.framOf n).fit (c % 16) r : Int))

/-- What becomes of a channel result (R126, R128): the outcome code, and the correction where it is applied. A result whose channel has no precision value of the same window has no code of its own: the model gives 4 (DESIGN CHOICE, log entry 88). -/
def Bay.channelResult (b : Bay) (e : MeterEntry) (m : Int) (tEnd : Nat) : Int × Bay :=
  let c := e.input
  if !b.flag F.MEAS_STAT_OVEN_RDY || !b.flag F.MEAS_STAT_CERT_OK || b.flag F.MEAS_STAT_CHECK_FAIL || !b.flag F.MEAS_CTL_CORR_EN then (2, b)
  else if e.kind = 1 && e.moved then (3, b)
  else if e.broken || b.rdN (F.CHN_PREC_T c) ≠ tEnd then (4, b)
  else if e.kind = 0 then
    let p := b.rd (F.CHN_V_PREC c)
    if 10000000 ≤ p then b.gainUpdate c (F.CHN_COR_VG c) 0 m p else (5, b)
  else
    let r := e.range
    let p := b.rd (F.CHN_I_PREC c)
    let fs := rangeFs r * 10
    if fs ≤ m.natAbs * 5 then b.gainUpdate c (corIG c r) (1 + r) m p
    else if m.natAbs * 200 < fs then b.offsetUpdate c r m p
    else (5, b)

/-- The corrections that take effect at this frame edge (R116, R124, R129): that of the result posted 0.2 ms after its window, with its CODE, and the zeros of open channels. -/
def Bay.meterEdge (b : Bay) : Bay :=
  let m := b.measSt
  let b := match m.post.filter (fun p => p.2.2 + 25000 ≤ b.now) with
    | some (e, v, tEnd) =>
      let b := { b with measSt := { m with post := none } }
      let out := if e.kind = 3 then ((7 : Int), b) else b.channelResult e v tEnd
      out.2.wr (F.RES_STAT_CODE e.i) out.1
    | none => b
  let due := b.measSt.zeros.filter (fun z => decide (z.1 ≤ b.now))
  let b := { b with measSt := { b.measSt with zeros := b.measSt.zeros.filter (fun z => !decide (z.1 ≤ b.now)) } }
  due.foldl (fun b z => (b.offsetUpdate z.2.1 z.2.2.1 0 z.2.2.2).2) b

/-- METER_RESULT (R124, R126): 0.1 ms after the input window, the result (input less zero) of the entry that ended; its CODE follows at +0.2 ms. -/
def execMeterResult (m : Int) (s : State) : Result :=
  s.onBay (fun b =>
    match b.measSt.done with
    | none => b
    | some e =>
      let tEnd := e.t0 + 2 * b.precTicks
      if b.now < tEnd + 12500 then b
      else
        let i := e.i
        let m := if e.kind = 1 then b.meterCurrent e.input e.range m else m
        let b := { b with measSt := { b.measSt with done := none, post := some (e, m, tEnd) } }
        let b := (if e.kind = 3 then b.internalResult e.input e.sweep m else b).checkSweepEnd e.sweep
        let b := (b.wr (F.RES_VAL i) m).wr (F.RES_T i) tEnd
        let b := (b.wr (F.RES_STAT_KIND i) e.kind).wr (F.RES_STAT_INPUT i) e.input
        let b := (b.wr (F.RES_STAT_RANGE i) e.range).wr (F.RES_STAT_SWEEP i) e.sweep
        b.setSticky (F.RES_STAT_NEW i))

end Sys2Proof.Machine
end

