-- ==== Sys2Proof/Machine/Power.lean ====
section
/-! DEFINITION. Plant-bus entry, node, converters, axis bus and ride-through (spec chapter 02, R44 to R67). -/

namespace Sys2Proof.Machine

abbrev Ent.open_ : Int := 0
abbrev Ent.precharging : Int := 1
abbrev Ent.closed : Int := 2
abbrev Ent.rideThrough : Int := 3
abbrev Ent.reconnecting : Int := 4
abbrev Ent.lockout : Int := 5
abbrev Ent.fault : Int := 6

/-- PWR.ENTRY_STAT.STATE (R68). -/
def Bay.entState (b : Bay) : Int := b.rd F.PWR_ENTRY_STAT_STATE

/-- Set the entry state. -/
def Bay.setEnt (b : Bay) (st : Int) : Bay := b.wr F.PWR_ENTRY_STAT_STATE st

/-- Replace the plant's hidden state. -/
def Bay.setPlant (b : Bay) (p : Plant) : Bay := { b with plant := p }

/-- Contactor, pre-charge relay and entry switch open together (R44): STATE = OPEN with a cause, power event 242. A contactor fault stands (R45). -/
def Bay.entryOpens (b : Bay) (cause : Int) : Bay :=
  let b := b.setPlant { b.plant with entryOn := false, relayOn := false, contOn := false, contactorDue := true, planned := false, axConvOn := false }
  ((b.setEnt (if b.entState = Ent.fault then Ent.fault else Ent.open_)).wr F.PWR_ENTRY_STAT_CAUSE cause).note 242

/-- The channels that are no designated donor have reached zero current 300 µs after the loss: their channel events (R64). -/
def Bay.rtEdge (b : Bay) : Bay :=
  if b.plant.rtOn && !b.plant.rtZero && b.plant.rtT0 + 300 * usTicks ≤ b.now then
    (b.setPlant { b.plant with rtZero := true }).each (allChans.filter (fun c => b.walePresent (waleOf c) && b.switchClosed c && !b.plant.rtDonors.contains c)) (fun b c => b.note c)
  else b

/-- The wales fitted. -/
def Bay.wales (b : Bay) : List Nat := (List.range 4).filter (fun n => b.walePresent n)

/-- The direction bits of every present wale (R64, R70). -/
def Bay.setDirs (b : Bay) (v : Int) : Bay := b.each b.wales (fun b n => b.wr (F.SEC_STAT_DIR n) v)

/-! ## Ride-through (R64 to R67) -/

/-- The designated donors that can serve: set in SECn.RT_DONORS, the switch closed (R64, R65). -/
def Bay.rtCandidates (b : Bay) : List Nat :=
  allChans.filter (fun c => b.walePresent (waleOf c) && bitOf (b.rd (F.SEC_RT_DONORS_MASK (waleOf c))) (c % 16) && b.switchClosed c)

/-- Ride-through ends in SAFE-STOP, cause 5 (R66). -/
def Bay.rtStop (b : Bay) : Bay :=
  if !b.plant.rtOn then b
  else
    let b := b.wr F.PWR_RT_TIME ((b.now - b.plant.rtT0) / msTicks : Nat)
    let b := b.setPlant { b.plant with rtOn := false, rtDonors := [] }
    let b := (b.setFlag F.BAY_STAT_HOLD_RT false).setDirs 0
    let b := (b.entryOpens (b.rd F.PWR_ENTRY_STAT_CAUSE)).note 244
    let b := b.each allChans (fun b c => b.leave c 9)
    b.stopFor 5

/-- Ride-through begins (R64, R195): the node is isolated, every channel holds with cause 9, every engine that is not STOPPED or FROZEN pauses, the converters regulate the node. -/
def Bay.rtStart (b : Bay) : Bay :=
  let don := b.rtCandidates
  let b := b.setPlant { b.plant with entryOn := false, contOn := false, contactorDue := true, rtOn := true, rtT0 := b.now, rtDonors := don, rtZero := false }
  let b := (((b.setEnt Ent.rideThrough).wr F.PWR_X1_I 0).wr F.PWR_RT_TIME 0).setFlag F.BAY_STAT_HOLD_RT true
  let b := b.setDirs 3
  let b := b.each allChans (fun b c =>
    if !b.walePresent (waleOf c) then b
    else
      let st := b.engState c
      let b := if st = Es.stopped || st = Es.frozen || st = Es.paused then b.hold c 9 else b.engPause c 9 true
      b.markInterval c 1)
  let b := { b with modeSt := { b.modeSt with rtBegin := true, rtResume := false } }
  let b := b.note 244
  if don.isEmpty then b.rtStop else b

/-- Plant-bus loss (R45, R64): the entry switch opens; ride-through from CLOSED with ENABLE and slot X serving, else SAFE-STOP with cause 4. With the entry OPEN or in LOCKOUT or FAULT nothing more opens; in ride-through it is the loss already met. -/
def Bay.plantLoss (b : Bay) (cause : Int) : Bay :=
  let st := b.entState
  if b.plant.rtOn then b
  else if st = Ent.open_ || st = Ent.lockout || st = Ent.fault then (b.note 242).stopFor 4
  else if st = Ent.closed && b.flag F.PWR_RT_CTL_ENABLE && b.xServes &&
      (b.mode = Mode.energized || b.mode = Mode.forming || b.mode = Mode.hold || b.mode = Mode.degraded) then
    ((b.wr F.PWR_ENTRY_STAT_CAUSE cause).note 242).rtStart
  else (b.entryOpens cause).stopFor 4

/-- X1_LOW (R45): 600 to 650 V for more than 10 ms. -/
def execX1Low (v : Int) (s : State) : Result :=
  s.onBay (fun b => if 600000 ≤ v && v < 650000 then ((b.wr F.PWR_X1_V v).setFlag F.PWR_ENTRY_STAT_X1_LOW true).note 242 else b)

/-- PLANT_BUS_LOSS (R45): X1 below 600 V for 50 µs; voltage in mV. -/
def execPlantBusLoss (v : Int) (s : State) : Result :=
  s.onBay (fun b => if v < 600000 then ((b.wr F.PWR_X1_V v).setFlag F.PWR_ENTRY_STAT_X1_LOW false).plantLoss 3 else b)

/-- X1_OVERVOLTAGE (R45): above 920 V for 10 ms or above 960 V for 50 µs; the contactor opens too. -/
def execX1Overvoltage (v : Int) (s : State) : Result :=
  s.onBay (fun b =>
    if 920000 < v then
      let b := (b.wr F.PWR_X1_V v).plantLoss 4
      b.setPlant { b.plant with contOn := false }
    else b)

/-- X1_OVERCURRENT (R45): above 150 A in either direction; current in mA. -/
def execX1Overcurrent (i : Int) (s : State) : Result :=
  s.onBay (fun b => if 150000 < i.natAbs then (b.wr F.PWR_X1_I i).plantLoss 5 else b)

/-- CONTACTOR_MISMATCH (R45): the auxiliary contact disagrees 30 ms after the command. -/
def execContactorMismatch (s : State) : Result :=
  s.onBay (fun b =>
    let b := b.setPlant { b.plant with entryOn := false, relayOn := false, contOn := false, contactorDue := false, planned := false, faultRead := false }
    ((b.setEnt Ent.fault).wr F.PWR_ENTRY_STAT_CAUSE 7).note 242)

/-! ## Connecting and disconnecting (R46, R48, R49) -/

/-- The pre-charge starts within the last 60 s (R49). -/
def Plant.recentStarts (p : Plant) (now : Nat) : List Nat := p.starts.filter (fun t => now - t < 60 * secTicks)

/-- A read of PWR.ENTRY_STAT in FAULT: the fault has been read (R45). -/
def Bay.readEntry (b : Bay) : Bay := if b.entState = Ent.fault then b.setPlant { b.plant with faultRead := true } else b

/-- The first condition of R48 step 1 that fails, numbered as listed: 1 the voltage, 2 the safety lines, 3 the state, 4 the lockout; 0 for none. The power event names it by this number in DETAIL (log entry 90). -/
def Bay.connectFails (b : Bay) : Int :=
  let good := match b.plant.okSince with
    | some t => decide (t + secTicks ≤ b.now)
    | none => false
  if !good then 1 else if !b.lineOn 6 then 2 else if b.entState = Ent.lockout then 4 else if b.entState ≠ Ent.open_ then 3 else 0

/-- Every condition of R48 step 1 holds. -/
def Bay.connectOk (b : Bay) : Bool := b.connectFails == 0

/-- A write of PWR.ENTRY_CTL.CONNECT (R48, R49): the fourth start within 60 s brings the lockout of 300 s. The modes up to CALIBRATE keep the entry open (R382). -/
def Bay.connect (b : Bay) : Bay :=
  if b.mode = Mode.attest || b.mode = Mode.calibrate then b.refuse F.PWR_ENTRY_CTL_CONNECT 4
  else if !b.connectOk then b.raiseD 242 b.connectFails
  else
    let st := b.plant.recentStarts b.now ++ [b.now]
    if 3 < st.length then
      ((b.setPlant { b.plant with starts := st, lockEnd := b.now + 300 * secTicks }).setEnt Ent.lockout).note 242
    else (b.setPlant { b.plant with starts := st, t0 := b.now, relayOn := true, entryOn := true }).setEnt Ent.precharging

/-- CONNECT (R48). -/
def execConnect (s : State) : Result := s.onBay (fun b => b.gated F.PWR_ENTRY_CTL_CONNECT Bay.connect)

/-- LOCKOUT_EXPIRE (R49). -/
def execLockoutExpire (s : State) : Result :=
  s.onBay (fun b => if b.entState = Ent.lockout && b.plant.lockEnd ≤ b.now then b.setEnt Ent.open_ else b)

/-- PRECHARGE_DONE (R48): the node within 20 V of X1 closes the main contactor. -/
def execPrechargeDone (vNode : Int) (s : State) : Result :=
  s.onBay (fun b =>
    if b.entState = Ent.precharging && (vNode - b.rd F.PWR_X1_V).natAbs ≤ 20000 then
      (b.wr F.PWR_NODE_V vNode).setPlant { b.plant with contOn := true }
    else b)

/-- The axis converter starts on the closed node, unless a chopper conducts or the discharge pair is dropped (R54, R317). -/
def Bay.axConvStart (b : Bay) : Bay :=
  b.setPlant { b.plant with axConvOn := b.xServes && !b.plant.chopConducts && b.lineOn 5 }

/-- CONTACTOR_CONFIRMED (R48): STATE = CLOSED. -/
def execContactorConfirmed (s : State) : Result :=
  s.onBay (fun b =>
    if b.entState = Ent.precharging && b.plant.contOn then
      ((b.setPlant { b.plant with relayOn := false, contactorDue := false }).setEnt Ent.closed).axConvStart
    else b)

/-- PRECHARGE_TIMEOUT (R48): not within 20 V by t0 + 2.0 s. -/
def execPrechargeTimeout (s : State) : Result :=
  s.onBay (fun b =>
    if b.entState = Ent.precharging && !b.plant.contOn && b.plant.t0 + 2 * secTicks ≤ b.now then b.entryOpens 6 else b)

/-- A write of PWR.ENTRY_CTL.OPEN (R46, R66, R384): in FORMING, DEGRADED and HOLD the engines stop first, as by a host STOP with END = 2; every channel ramps to zero within 2 ms. In ride-through it ends in SAFE-STOP; during pre-charge the entry opens at once. -/
def Bay.openEntry (b : Bay) : Bay :=
  let st := b.entState
  if b.plant.rtOn then b.rtStop
  else if st = Ent.precharging then b.entryOpens 1
  else if st = Ent.closed && !b.plant.planned then
    let b :=
      if b.mode = Mode.forming || b.mode = Mode.degraded || b.mode = Mode.hold then
        b.each allChans (fun b c => if b.engState c = Es.stopped || b.engState c = Es.frozen then b else b.engHostStop c 2)
      else b
    let b := b.each allChans (fun b c => b.rampDown c 2)
    b.setPlant { b.plant with planned := true, t0 := b.now }
  else b.refuse F.PWR_ENTRY_CTL_OPEN 4

/-- OPEN (R46). -/
def execOpen (s : State) : Result := s.onBay (fun b => b.gated F.PWR_ENTRY_CTL_OPEN Bay.openEntry)

/-- The modes that a planned disconnect leaves for STANDBY (R384). -/
def Bay.energisedMode (b : Bay) : Bool := b.mode == Mode.energized || b.mode == Mode.forming || b.mode == Mode.hold || b.mode == Mode.degraded

/-- PLANNED_DISCONNECT_DONE (R46): entry switch, then contactor; the bay goes to STANDBY at the next edge. -/
def execPlannedDisconnectDone (s : State) : Result :=
  s.onBay (fun b =>
    if b.plant.planned then
      let b := b.entryOpens 1
      { b with modeSt := { b.modeSt with plannedDone := b.energisedMode } }
    else b)

/-- The contactor line pair drops (R46, R20): zero current within 2 ms, the entry opens with cause 2, no ride-through follows. A pre-charge in progress counts as a start. -/
def Bay.contactorDrop (b : Bay) : Bay :=
  let st := b.entState
  let b := b.rtStop
  if st = Ent.precharging || st = Ent.closed || st = Ent.reconnecting then
    (b.each allChans (fun b c => b.rampDown c 2)).entryOpens 2
  else b

/-! ## Node and section buses (R50 to R52) -/

/-- NODE_OVERVOLTAGE (R50): above 980 V every converter stops sending energy into the node (log entry 80). -/
def execNodeOvervoltage (v : Int) (s : State) : Result :=
  s.onBay (fun b =>
    if 980000 < v then
      let b := (((b.wr F.PWR_NODE_V v).setFlag F.PWR_AXBUS_RETURN false).setPlant { b.plant with nodeHigh := true }).note 243
      b.each (b.wales.filter (fun n => b.rd (F.SEC_STAT_DIR n) == 2)) (fun b n => b.wr (F.SEC_STAT_DIR n) 0)
    else b)

/-- NODE_VOLTAGE_RECOVERED (R50): below 950 V. -/
def execNodeVoltageRecovered (v : Int) (s : State) : Result :=
  s.onBay (fun b =>
    if v < 950000 then (b.wr F.PWR_NODE_V v).setPlant { b.plant with nodeHigh := false } else b)

/-- SECTION_BUS_OVERVOLTAGE (R50, R102): above 26.5 V for 10 µs; the converter stops, the channels go to zero current, wale record 0x0A. -/
def execSectionBusOvervoltage (n : Fin 4) (v : Int) (s : State) : Result :=
  s.onBay (fun b =>
    if 26500 < v then
      let b := ((b.wr (F.SEC_BUS_V n) v).wr (F.SEC_STAT_STATE n) 3).setWale n { b.waleSt n with convOn := false }
      let b := b.each (waleChans n) (fun b c => b.stageRamp c 2)
      (b.waleRecord n 10).raiseD (128 + n) 10
    else b)

/-- The overload budget of a holder in microjoules: 0 to 3 the section converters, 4 the axis converter, 5 X1 (R51). -/
def Bay.budgetOf (b : Bay) (h : Nat) : Int :=
  if h < 4 then (b.waleSt h).budget else if h = 4 then b.plant.axBudget else b.plant.x1Budget

/-- A holder's cap is the continuous rating. -/
def Bay.capCont (b : Bay) (h : Nat) : Bool :=
  if h < 4 then b.flag (F.SEC_STAT_CAP_CONT h) else if h = 4 then b.plant.axCont else b.plant.x1Cont

/-- Note that a holder's cap is, or is no longer, the continuous rating. -/
def Bay.setCapCont (b : Bay) (h : Nat) (v : Bool) : Bay :=
  if h < 4 then b.setFlag (F.SEC_STAT_CAP_CONT h) v
  else if h = 4 then b.setPlant { b.plant with axCont := v } else b.setPlant { b.plant with x1Cont := v }

/-- OVERLOAD_BUDGET_EMPTY (R51). -/
def execOverloadBudgetEmpty (h : Fin 6) (s : State) : Result :=
  s.onBay (fun b => if b.budgetOf h ≤ 0 && !b.capCont h then (b.setCapCont h true).note 246 else b)

/-- OVERLOAD_BUDGET_REFILLED (R51). -/
def execOverloadBudgetRefilled (h : Fin 6) (s : State) : Result :=
  s.onBay (fun b => if 0 < b.budgetOf h && b.capCont h then (b.setCapCont h false).note 246 else b)

/-- A Skein engine of wale n runs (R52). -/
def Bay.waleEngines (b : Bay) (n : Nat) : Bool := (waleChans n).any (fun c => b.engRuns c)

/-- A write of SECn.CTL.DRAIN (R52), refused only while an engine of the wale runs: withdrawn from the governor, every channel soft-stops at its programmed ramp. A wale that drains or has drained goes on so, and its pre-charge ends (log entry 80). -/
def Bay.drain (b : Bay) (n : Nat) : Bay :=
  if b.waleEngines n then b.refuse (F.SEC_CTL_DRAIN n) 4
  else if b.rd (F.SEC_STAT_STATE n) = 1 then b
  else if b.rd (F.SEC_STAT_STATE n) = 2 then b.setWale n { b.waleSt n with prechT0 := none }
  else
    let b := (b.wr (F.SEC_STAT_STATE n) 1).setWale n { b.waleSt n with draining := true, prechT0 := none }
    (b.each (waleChans n) (fun b c => (b.endDonation c).softStop c)).note (128 + n)

/-- DRAIN (R52). -/
def execDrain (n : Fin 4) (s : State) : Result := s.onBay (fun b => b.gated (F.SEC_CTL_DRAIN n) (fun b => b.drain n))

/-- DRAIN_COMPLETE (R52): converter stopped, disconnect open, node-side capacitance below 60 V. -/
def execDrainComplete (n : Fin 4) (s : State) : Result :=
  s.onBay (fun b =>
    if b.rd (F.SEC_STAT_STATE n) = 1 && !b.waleSwitchClosed n then
      ((b.wr (F.SEC_STAT_STATE n) 2).setWale n { b.waleSt n with draining := false, convOn := false, joined := false }).note (128 + n)
    else b)

/-- A write of SECn.CTL.RUN (R52): the pre-charge of R50 from DRAINED. -/
def Bay.runWale (b : Bay) (n : Nat) : Bay :=
  if b.rd (F.SEC_STAT_STATE n) = 2 && (b.waleSt n).prechT0.isNone then b.setWale n { b.waleSt n with prechT0 := some b.now }
  else b.refuse (F.SEC_CTL_RUN n) 4

/-- RUN (R52). -/
def execRun (n : Fin 4) (s : State) : Result := s.onBay (fun b => b.gated (F.SEC_CTL_RUN n) (fun b => b.runWale n))

/-- CARTRIDGE_PRECHARGE_DONE (R50): after 2.5 s a wale (0 to 3) or slot X (4) joins the node. -/
def execCartridgePrechargeDone (n : Fin 5) (s : State) : Result :=
  s.onBay (fun b =>
    let w := b.waleSt n
    match w.prechT0 with
    | some t =>
      if t + 25 * secTicks / 10 ≤ b.now then
        let b := b.setWale n { w with prechT0 := none, joined := true, convOn := true }
        if n.val < 4 then (b.wr (F.SEC_STAT_STATE n) 0).note (128 + n) else b.axConvStart
      else b
    | none => b)

/-! ## Axis bus and brake chopper (R53 to R56); voltages in mV -/

/-- AXIS_BUS_RETURN (R53): above 50.0 V the axis converter returns energy to the node. -/
def execAxisBusReturn (v : Int) (s : State) : Result :=
  s.onBay (fun b =>
    let b := b.wr F.PWR_AXBUS_AXV (v / 10)
    b.setFlag F.PWR_AXBUS_RETURN (50000 < v && b.plant.axConvOn && !b.plant.nodeHigh))

/-- BRAKE_CHOPPER_SWITCH (R53): on above 54.0 V, off below 52.0 V; above 54.0 V a chopper test in progress ends (R56). -/
def execBrakeChopperSwitch (v : Int) (s : State) : Result :=
  s.onBay (fun b =>
    let b := b.wr F.PWR_AXBUS_AXV (v / 10)
    if 54000 < v then
      let b := b.setPlant { b.plant with chopPhase := 0 }
      if b.plant.chopUnused then b else b.setFlag F.PWR_AXBUS_CHOP_ON true
    else if v < 52000 && b.plant.chopPhase = 0 then b.setFlag F.PWR_AXBUS_CHOP_ON false
    else b)

/-- AXIS_BUS_OVERVOLTAGE (R53): above 58.0 V. -/
def execAxisBusOvervoltage (v : Int) (s : State) : Result :=
  s.onBay (fun b => if 58000 < v then ((b.wr F.PWR_AXBUS_AXV (v / 10)).stoAll 9).note 243 else b)

/-- AXIS_BUS_UNDERVOLTAGE (R285): below 40.0 V for 10 ms. -/
def execAxisBusUndervoltage (v : Int) (s : State) : Result :=
  s.onBay (fun b => if v < 40000 then (b.wr F.PWR_AXBUS_AXV (v / 10)).stoAll 10 else b)

/-- A chopper fault by its kind (R54, R56): one that conducts while off stops the axes and the axis converter and leaves formation under the limit of R17; one that fails to conduct is not used. -/
def Bay.chopFault (b : Bay) (conducts : Bool) : Bay :=
  let b := (b.setFlag F.PWR_AXBUS_CHOP_FLT true).note 243
  if conducts then (b.setPlant { b.plant with chopConducts := true, axConvOn := false, chopPhase := 0, limit17 := true }).stoAll 13
  else (b.setPlant { b.plant with chopUnused := true, chopPhase := 0 }).setFlag F.PWR_AXBUS_CHOP_ON false

/-- CHOPPER_FAULT (R54). -/
def execChopperFault (conducts : Bool) (s : State) : Result := s.onBay (fun b => b.chopFault conducts)

/-- CHOPPER_TEST_START (R56): due since the entry to ENERGIZED, at a frame edge with the axis bus at 46 to 50 V and no axis in STOPPING. -/
def execChopperTestStart (s : State) : Result :=
  s.onBay (fun b =>
    let v := b.rd F.PWR_AXBUS_AXV
    if b.modeSt.chopDue && b.xServes && b.now % frameTicks = 0 && 4600 ≤ v && v ≤ 5000 &&
        allAxes.all (fun a => b.axState a != Ax.stopping) then
      let b := { b with modeSt := { b.modeSt with chopDue := false } }
      (b.setPlant { b.plant with chopPhase := 1, chopT0 := b.now, chopBad := false, chopLeak := false }).setFlag F.PWR_AXBUS_CHOP_ON false
    else b)

/-- The chopper current in mA is in the band of R56 for the bus voltage: 0.8 × AXV / 6.0 Ω to 1.2 × AXV / 3.0 Ω. -/
def chopInBand (axv i : Int) : Bool := 8 * axv * 10 ≤ i * 60 && i * 30 ≤ 12 * axv * 10

/-- CHOPPER_TEST_PHASE (R56): the current read back in the interval that ends. -/
def execChopperTestPhase (i : Int) (s : State) : Result :=
  s.onBay (fun b =>
    let p := b.plant
    if p.chopPhase = 1 && p.chopT0 + 2 * msTicks ≤ b.now then
      (b.setPlant { p with chopPhase := 2, chopLeak := p.chopLeak || 100 ≤ i }).setFlag F.PWR_AXBUS_CHOP_ON true
    else if p.chopPhase = 2 && p.chopT0 + 4 * msTicks ≤ b.now then
      (b.setPlant { p with chopPhase := 3, chopBad := p.chopBad || !chopInBand (b.rd F.PWR_AXBUS_AXV) i }).setFlag F.PWR_AXBUS_CHOP_ON false
    else b)

/-- CHOPPER_TEST_RESULT (R56): at t0 + 6 ms, with the current of the last interval. -/
def execChopperTestResult (i : Int) (s : State) : Result :=
  s.onBay (fun b =>
    let p := b.plant
    if p.chopPhase = 3 && p.chopT0 + 6 * msTicks ≤ b.now then
      if p.chopLeak || 100 ≤ i then b.chopFault true
      else if p.chopBad then b.chopFault false
      else ((b.setPlant { p with chopPhase := 0, chopUnused := false, chopConducts := false }).setFlag F.PWR_AXBUS_CHOP_FLT false)
    else b)

/-! ## Ride-through rows (R65 to R67) -/

/-- A donor can no longer serve (R65, R153): its cell below RT_VMIN, absent, or at T_MAX. -/
def Bay.donorGone (b : Bay) (c : Nat) : Bool :=
  b.rd (F.CHN_V c) < b.rd (F.SEC_RT_VMIN (waleOf c)) || (b.stageOf c).absent ||
    (b.flag (F.CHN_REG_STAT_BORDER_OK c) && (b.borderOf c).tMax ≤ b.rd (F.CHN_T_ZONE c))

/-- DONOR_LOST (R65, R66): without a donor left, ride-through ends. -/
def execDonorLost (c : Fin 64) (s : State) : Result :=
  s.onBay (fun b =>
    let p := b.plant
    if p.rtOn && p.rtDonors.contains c.val && b.donorGone c then
      let b := b.setPlant { p with rtDonors := p.rtDonors.filter (fun x => x != c.val) }
      if b.plant.rtDonors.isEmpty then b.rtStop else b
    else b)

/-- RIDE_THROUGH_TIMEOUT (R66): TMAX minutes have run. -/
def execRideThroughTimeout (s : State) : Result :=
  s.onBay (fun b =>
    if b.plant.rtOn && b.plant.rtT0 + b.rdN F.PWR_RT_CTL_TMAX * 60 * secTicks ≤ b.now then b.rtStop else b)

/-- RIDE_THROUGH_NODE_LOW (R66): the node below 500 V for 10 ms. -/
def execRideThroughNodeLow (v : Int) (s : State) : Result :=
  s.onBay (fun b => if b.plant.rtOn && v < 500000 then (b.wr F.PWR_NODE_V v).rtStop else b)

/-- PLANT_BUS_RETURN (R67): X1 in range for 2 s; with the node steered to within 20 V the entry closes without pre-charge, the donors stop, and with AUTORES the paused engines resume and the bay leaves HOLD. -/
def execPlantBusReturn (vNode : Int) (s : State) : Result :=
  s.onBay (fun b =>
    let ok := match b.plant.okSince with
      | some t => t + 2 * secTicks ≤ b.now
      | none => false
    if !(b.plant.rtOn && ok) || b.entState = Ent.fault then b
    else
      let b := b.wr F.PWR_NODE_V vNode
      if 20000 < (vNode - b.rd F.PWR_X1_V).natAbs then b.setEnt Ent.reconnecting
      else
        let b := b.wr F.PWR_RT_TIME ((b.now - b.plant.rtT0) / msTicks : Nat)
        let b := b.setPlant { b.plant with rtOn := false, rtDonors := [], entryOn := true, contOn := true }
        let b := (((b.setEnt Ent.closed).setDirs 0).setFlag F.BAY_STAT_HOLD_RT false).note 244
        if b.flag F.PWR_RT_CTL_AUTORES && !b.modeSt.holdCmd then
          let b := b.each allChans (fun b c =>
            if b.engState c = Es.paused && (b.engOf c).pausedByMode then b.engResume c 9 else b.leave c 9)
          { b with modeSt := { b.modeSt with rtResume := true, rtBegin := false } }
        else b)

end Sys2Proof.Machine
end

