-- ==== Sys2Proof/Machine/SafetyCtl.lean ====
section
/-! DEFINITION. The safety controller (spec chapter 12, R307 to R337): inputs and pairs, lines and outputs, stops, resets, handover and rejoin, parameter sets. -/

namespace Sys2Proof.Machine

/-- Change the safety controller. -/
def Bay.setSafe (b : Bay) (x : Safe) : Bay := { b with safe := x }

/-- A safety pair, and a fault bit, as masks. -/
def maskOf (l : List Bool) : Nat := ((List.range l.length).filter (fun i => l.getD i false)).foldl (fun m i => setBitN m i) 0

/-- The state of pair i. -/
def Safe.pair (x : Safe) (i : Nat) : SafePairSt := x.pairs.getD i {}

/-- Replace pair i. -/
def Safe.setPair (x : Safe) (i : Nat) (p : SafePairSt) : Safe := { x with pairs := x.pairs.set i p }

/-- The targets pair i names, as bits of ACT (R317). -/
def Bay.act (b : Bay) (i : Nat) : Nat := b.rdN (F.PAIR_CFG1_ACT i)

/-- A parameter set is active (R333). -/
def Bay.setActive (b : Bay) : Bool := b.rd F.SAFE_STAT_MODE != 0

/-- The evaluation of pair i. -/
def Bay.eval (b : Bay) (i : Nat) : Nat := b.rdN (F.PAIR_CFG0_EVAL i)

/-- All targets: the seven line pairs and the four outputs, as bits of ACT. -/
abbrev allTargets : Nat := 0xF7F

/-! ## Latched faults (R311 to R330) -/

/-- SAFE.FLT shows the first latched fault. -/
def Bay.showFault (b : Bay) : Bay :=
  match b.safe.faults with
  | [] => ((b.wr F.SAFE_FLT_CAUSE 0).wr F.SAFE_FLT_DETAIL 0).wr F.SAFE_FLT_CH 0
  | f :: _ => ((b.wr F.SAFE_FLT_CAUSE f.cause).wr F.SAFE_FLT_DETAIL f.detail).wr F.SAFE_FLT_CH f.ch

/-- One channel drives alone (R329). -/
def Bay.oneChannel (b : Bay) : Bool := b.rd F.SAFE_STAT_MODE = 2 || b.rd F.SAFE_STAT_MODE = 3

/-- A cause that is a fault found by a channel: an input short or disagreement, a discrepancy, an output, feedback or line that failed, a self-test (R329; log entry 18). -/
def foundFault (cause : Nat) : Bool := (1 ≤ cause && cause ≤ 6) || cause == 8

/-- Latch a safety fault with event 170; one of the same cause and DETAIL stands already. The channel that drives alone notes that it has found one (R329). -/
def Bay.latchFault (b : Bay) (cause detail ch act : Nat) : Bay :=
  if b.safe.faults.any (fun f => f.cause == cause && f.detail == detail) then b
  else
    let b := b.setSafe { b.safe with faults := b.safe.faults ++ [⟨cause, detail, ch, act⟩], second := b.safe.second || (b.oneChannel && foundFault cause) }
    (b.showFault).note 170

/-- The targets that latched faults hold off. -/
def Bay.faultMask (b : Bay) : Nat := b.safe.faults.foldl (fun m f => m ||| f.act) 0

/-! ## Lines and outputs (R308, R316, R317, R321) -/

/-- The targets energised now, as bits of ACT. -/
def Bay.targetsOn (b : Bay) : Nat := b.rdN F.SAFE_LINES_ON ||| b.rdN F.SAFE_OUT_ON * 256

/-- The receiving stages act when line pairs drop (R20, R44, R46, R98, R269, R317): the axes enter STO, the wales of a dropped safe-off pair switch off, the axis converter stops and the axis bus is discharged, the entry opens. Event 169 for each change. The delays of the receivers, such as the 1.0 ms of R319, are timing (log entry 59). -/
def Bay.linesChanged (b : Bay) (was on : Nat) : Bay :=
  let fell := fun k => was.testBit k && !on.testBit k
  let b := b.each ((List.range 7).filter (fun k => was.testBit k != on.testBit k)) (fun b _ => b.note 169)
  let b := b.onlyIf (fell 0 && b.xPresent) (fun b => b.stoAll 1)
  let b := b.each ((List.range 4).filter (fun n => fell (1 + n) && b.walePresent n)) (fun b n => b.safeOffDrop n)
  let b := b.onlyIf (fell 6) (fun b => b.contactorDrop)
  let b := b.onlyIf (fell 5) (fun b => b.setPlant { b.plant with axConvOn := false })
  b.setPlant { b.plant with discharge := !on.testBit 5 && (b.plant.discharge || was.testBit 5) }

/-- Drive the targets to a new word; in 1oo1D the remaining channel holds what its partner owned through its takeover drive (R308, R329). -/
def Bay.drive (b : Bay) (t : Nat) : Bay :=
  let was := b.targetsOn
  let lines := t &&& 127
  let outs := (t / 256) &&& 15
  let b := b.setSafe { b.safe with outT := (List.range 4).map (fun j => if outs.testBit j != (was / 256).testBit j then b.safe.cycle else b.safe.outT.getD j 0) }
  let take := if b.rd F.SAFE_STAT_MODE = 2 || b.rd F.SAFE_STAT_MODE = 3 then lines else 0
  (((b.wr F.SAFE_LINES_ON lines).wr F.SAFE_LINES_TAKE take).wr F.SAFE_OUT_ON outs).linesChanged was lines

/-- De-energise the targets of a mask at once. -/
def Bay.dropTargets (b : Bay) (m : Nat) : Bay := b.drive (b.targetsOn - (b.targetsOn &&& m))

/-- A pair lets its targets be energised: it permits and does not wait for reset (R316). -/
def SafePairSt.ok (p : SafePairSt) : Bool := !p.dem && !p.wait

/-- Target k may be energised (R316): a set is active, every pair that names it permits, no fault holds it. A pair in its CAT 1 delay keeps what is energised (R318), and after the degraded time nothing is energised beyond that delay (R329). -/
def Bay.mayEnergise (b : Bay) (k : Nat) : Bool :=
  let was := b.targetsOn.testBit k
  b.setActive && b.safe.stopped.isNone && !b.safe.linkDown && !b.safe.second && !b.faultMask.testBit k &&
    (!b.safe.expired || (was && b.safe.pairs.any (fun p => p.stopAt.isSome))) &&
    (List.range 8).all (fun i => !(b.act i).testBit k || (b.safe.pair i).ok || ((b.safe.pair i).stopAt.isSome && was))

/-- An output is switched on only with its set-up and, for CHECK = 1, with FBj closed (R321). -/
def Bay.outputOk (b : Bay) (j : Nat) : Bool :=
  let on := b.targetsOn.testBit (8 + j)
  match b.rdN (F.OUT_CFG_CHECK j) with
  | 0 => false
  | 1 => on || bitOf (b.rd F.SAFE_OUT_FB) j
  | _ => true

/-- The targets to be driven in this cycle (R316). -/
def Bay.wanted (b : Bay) : Nat :=
  let lines := (List.range 7).filter (fun k => b.mayEnergise k)
  let outs := (List.range 4).filter (fun j => b.mayEnergise (8 + j) && b.outputOk j && b.flag F.SAFE_STAT_SUPPLY_OK && !b.safe.outBad.testBit j)
  (lines ++ outs.map (fun j => 8 + j)).foldl (fun m k => setBitN m k) 0

/-! ## Demands (R313, R317, R318) -/

/-- The wales that are present, as safe-off bits of ACT. -/
def Bay.presentOff (b : Bay) : Nat := ((List.range 4).filter (fun n => b.walePresent n)).foldl (fun m n => setBitN m (1 + n)) 0

/-- A demand that takes the bay to SAFE-STOP (R317): STO, the main contactor, or the safe-off of every present wale. -/
def Bay.stopsBay (b : Bay) (act : Nat) : Bool :=
  act.testBit 0 || act.testBit 6 || (b.presentOff != 0 && act &&& b.presentOff == b.presentOff)

/-- SAFE-STOP for a demand with these targets (R317, R387 cause 1), and the end of ride-through (R66). -/
def Bay.demandStop (b : Bay) (act : Nat) : Bay :=
  let b := b.rtStop
  if b.stopsBay act then (b.setSafe { b.safe with stopLines := b.safe.stopLines ||| (act &&& 127), resetSince := false }).stopFor 1 else b

/-- The safety controller stops the bay (R387 cause 2): a reset must be accepted after it. -/
def Bay.safetyStop (b : Bay) : Bay := (b.setSafe { b.safe with resetSince := false }).stopFor 2

/-- The control side of a CAT 1 stop (R318): the affected channels ramp to zero within 2 ms, the affected axes stop at DEC; event 171. -/
def Bay.stopRequest (b : Bay) (act : Nat) : Bay :=
  let b := b.note 171
  let b := b.each (allChans.filter (fun c => act.testBit (1 + waleOf c) || act.testBit 6)) (fun b c => b.rampDown c 2)
  b.onlyIf (act.testBit 0 || act.testBit 5) (fun b => b.each allAxes (fun b a => b.stopAxis a))

/-- Pair i goes into demand (R313, R316, R318): CAT 0 drops its targets in this cycle, CAT 1 after T_STOP1. -/
def Bay.demand (b : Bay) (i : Nat) : Bay :=
  let x := b.safe
  let p := x.pair i
  if p.dem then b
  else
    let cat1 := b.flag (F.PAIR_CFG1_CAT i)
    let p := { p with
      dem := true, wait := p.wait || (b.rd (F.PAIR_CFG1_RESET i) = 0 && b.eval i ≠ 4)
      stopAt := if cat1 then some (x.cycle + 2 * b.rdN F.SAFE_GLB_CFG0_T_STOP1) else none }
    let b := ((b.setSafe (x.setPair i p)).note (160 + i)).demandStop (b.act i)
    if cat1 then b.stopRequest (b.act i) else b.dropTargets (b.act i)

/-- Pair i permits again (R313). A two-hand control needs no reset: its permit ends its waiting (R315, R316; DEDUCED, log entry 16). -/
def Bay.permit (b : Bay) (i : Nat) : Bay :=
  let p := b.safe.pair i
  if p.dem && !p.disc then (b.setSafe (b.safe.setPair i { p with dem := false, wait := p.wait && b.eval i != 4 })).note (160 + i) else b

/-- The demand, reset and fault words of SAFE.DEMAND. -/
def Bay.showPairs (b : Bay) : Bay :=
  let ps := b.safe.pairs
  ((b.wr F.SAFE_DEMAND_DEM (maskOf (ps.map (·.dem)))).wr F.SAFE_DEMAND_WAIT (maskOf (ps.map (·.wait)))).wr F.SAFE_DEMAND_DISC (maskOf (ps.map (·.disc)))

/-! ## Inputs (R309 to R313, R315) -/

/-- One input of one channel through a cycle (R312): `need` cycles of one state accept it. -/
def SafeFilter.input (f : SafeFilter) (k need : Nat) (v unsteady : Bool) : SafeFilter :=
  if unsteady then { f with cnt := f.cnt.set k 0 }
  else
    let n := if f.cand.testBit k = v then f.cnt.getD k 0 + 1 else 1
    let cand := if v then setBitN f.cand k else clearBitN f.cand k
    { f with cand := cand, cnt := f.cnt.set k (min n 65535), acc := if need ≤ n then (if v then setBitN f.acc k else clearBitN f.acc k) else f.acc }

/-- The cycles an input must hold (R312, R325): F of its pair, 10 ms for SRESET. -/
def Bay.filterNeed (b : Bay) (k : Nat) : Nat := if k = 16 then 20 else max 1 (2 * b.rdN (F.PAIR_CFG0_FILT (k / 2)))

/-- All inputs of one channel through a cycle. -/
def Bay.runFilter (b : Bay) (f : SafeFilter) (v u : Nat) : SafeFilter :=
  (List.range 17).foldl (fun f k => f.input k (b.filterNeed k) (v.testBit k) (u.testBit k)) f

/-- Which channels read: both in 1oo2 and before a set is active, the remaining one in 1oo1D. -/
def Bay.reads (b : Bay) (x : Nat) : Bool :=
  let m := b.rd F.SAFE_STAT_MODE
  !(m = 2 && x = 1) && !(m = 3 && x = 0)

/-- One input as the channels take it (R309): a difference for 2 consecutive cycles is taken as de-energised, cause 2. -/
def Bay.takeInput (b : Bay) (k : Nat) : Bay :=
  let x := b.safe
  let va := x.fa.acc.testBit k
  let vb := x.fb.acc.testBit k
  let put (v : Bool) (x : Safe) : Safe := { x with taken := if v then setBitN x.taken k else clearBitN x.taken k }
  if !b.reads 1 then b.setSafe (put va x)
  else if !b.reads 0 then b.setSafe (put vb x)
  else if va = vb then b.setSafe (put va { x with differ := x.differ.set k 0 })
  else
    let n := x.differ.getD k 0 + 1
    if n < 2 then b.setSafe { x with differ := x.differ.set k n }
    else (b.setSafe (put false { x with differ := x.differ.set k (min n 65535) })).latchFault 2 k 3 (b.act (k / 2))

/-- The pairs a mask of inputs belongs to, curtains and unused pairs left out (R311). -/
def Bay.shortPairs (b : Bay) (m : Nat) : Nat :=
  ((List.range 8).filter (fun i => (m.testBit (2 * i) || m.testBit (2 * i + 1)) && b.eval i != 3 && b.eval i != 0)).foldl (fun r i => setBitN r i) 0

/-- Input shorts found now (R311): latched with cause 1, both inputs of the pair taken as de-energised. -/
def Bay.findShorts (b : Bay) (m : Nat) : Bay :=
  let p := b.shortPairs m
  let b := b.setSafe { b.safe with shorts := b.safe.shorts ||| p, shortNow := p }
  b.each ((List.range 16).filter (fun k => m.testBit k && p.testBit (k / 2))) (fun b k => b.latchFault 1 k 3 0)

/-- Input `k` as the evaluation sees it: off with the safety 24 V lost or a latched short (R311, R336). -/
def Bay.inputOn (b : Bay) (k : Nat) : Bool :=
  b.safe.taken.testBit k && !b.safe.shorts.testBit (k / 2) && b.flag F.SAFE_STAT_SUPPLY_OK

/-- The hand of pair i is actuated (A closed, B open) or released (R313). -/
def Bay.handActs (b : Bay) (i : Nat) : Bool := b.inputOn (2 * i) && !b.inputOn (2 * i + 1)
def Bay.handFree (b : Bay) (i : Nat) : Bool := !b.inputOn (2 * i) && b.inputOn (2 * i + 1)

/-- A two-hand control over one cycle (R315): both actuated within 500 ms of each other, both released since the last permit. -/
def Bay.handCycle (b : Bay) (i : Nat) : Bay :=
  let x := b.safe
  let h := x.hands.getD (i / 2) {}
  let l := b.handActs i
  let r := b.handActs (i + 1)
  let left := if l then some (h.left.getD x.cycle) else none
  let right := if r then some (h.right.getD x.cycle) else none
  let near := match left, right with
    | some p, some q => decide (p ≤ q + 1000 ∧ q ≤ p + 1000)
    | _, _ => false
  let given := l && r && ((h.given) || (h.armed && near))
  let armed := (b.handFree i && b.handFree (i + 1)) || (h.armed && !(l && r) && !h.given && (!(l || r) || h.armed))
  b.setSafe { x with hands := x.hands.set (i / 2) ⟨left, right, armed, given⟩ }

/-- Pair i shows its permit state (R313). -/
def Bay.pairPermits (b : Bay) (i : Nat) : Bool :=
  let a := b.inputOn (2 * i)
  let c := b.inputOn (2 * i + 1)
  match b.eval i with
  | 0 => true
  | 2 => if b.rd (F.PAIR_CFG1_TYPE i) = 1 then a && !c else a && c
  | 4 => (b.safe.hands.getD (i / 2) {}).given
  | _ => a && c

/-- The inputs of pair i disagree in the sense of R313. -/
def Bay.pairDiffers (b : Bay) (i : Nat) : Bool :=
  let a := b.inputOn (2 * i)
  let c := b.inputOn (2 * i + 1)
  match b.eval i with
  | 0 => false
  | 2 => if b.rd (F.PAIR_CFG1_TYPE i) = 1 then a = c else a != c
  | 4 => a = c
  | _ => a != c

/-- Both inputs of pair i show demand together. -/
def Bay.bothDemand (b : Bay) (i : Nat) : Bool := !b.pairDiffers i && !(if b.eval i = 4 then b.handActs i else b.pairPermits i)

/-- Both inputs of pair i show permit together (R314). -/
def Bay.bothPermit (b : Bay) (i : Nat) : Bool := if b.eval i = 4 then b.handActs i else b.pairPermits i

/-- Everything is forced into demand: a lost link, a silent channel, an expired degraded time (R309, R328, R329). -/
def Bay.forced (b : Bay) : Bool := b.safe.linkDown || b.safe.stopped.isSome || b.safe.expired

/-- Pair i over one cycle (R313, R314). -/
def Bay.pairCycle (b : Bay) (i : Nat) : Bay :=
  let b := b.onlyIf (b.eval i = 4 && i % 2 = 0) (fun b => b.handCycle i)
  let p := b.safe.pair i
  let seen := if !p.disc then 0 else if p.discSeen = 0 then (if b.bothDemand i then 1 else 0)
              else if p.discSeen = 1 then (if b.bothPermit i then 2 else 1) else p.discSeen
  let b := b.setSafe (b.safe.setPair i { p with discCnt := if b.pairDiffers i then p.discCnt + 1 else 0, discSeen := seen })
  if b.pairPermits i && !b.forced && (b.setActive || b.eval i = 0) then b.permit i else b.demand i

/-! ## The safety cycle (R307, R309, R326, R327) -/

/-- The cause of a latched fault has gone, so that a reset clears it (R311, R314, R319, R321, R322, R326). -/
def Bay.faultGone (b : Bay) (f : SafeFault) : Bool :=
  let x := b.safe
  match f.cause with
  | 1 => !x.shortNow.testBit (f.detail / 2)
  | 2 => x.differ.getD f.detail 0 = 0
  | 3 => (x.pair f.detail).discSeen = 2
  | 4 => x.passed.testBit (8 + f.detail)
  | 5 => bitOf (b.rd F.SAFE_OUT_FB) f.detail
  | 6 => x.passed.testBit f.detail
  | 7 => x.driveNow = 0
  | 8 => x.stopped.isNone && b.flag (if f.ch = 1 then F.SAFE_STAT_CHA_OK else F.SAFE_STAT_CHB_OK)
  | 9 => x.linkCnt = 0
  | 10 => b.flag F.SAFE_STAT_SUPPLY_OK
  | 11 => b.rd F.SAFE_STAT_MODE = 1
  | 12 => 200 ≤ x.openCnt
  | 13 => 200 ≤ x.openCnt
  | 14 => b.rd F.SAFE_STAT_MODE = 1
  | _ => !x.shortLeg

/-- An accepted reset acts in the next cycle (R326): faults whose cause has gone clear, waiting pairs that permit are released. -/
def Bay.applyReset (b : Bay) : Bay :=
  if !b.safe.resetDue then b
  else
    let gone := b.safe.faults.filter (fun f => b.faultGone f)
    let left := b.safe.faults.filter (fun f => !b.faultGone f)
    let x := b.safe
    let b := b.each (List.range 8) (fun b i =>
      let p := b.safe.pair i
      let p1 := if p.disc && p.discSeen = 2 then { p with disc := false, discSeen := 0, dem := !b.pairPermits i } else p
      let p2 := if p1.wait && !p1.dem && !b.forced then { p1 with wait := false } else p1
      b.onlyIf (p2 != p) (fun b => (b.setSafe (b.safe.setPair i p2)).note (160 + i)))
    let shorts := (List.range 8).foldl (fun m i => if x.shortNow.testBit i then m else clearBitN m i) x.shorts
    let outs := (List.range 4).filter (fun j => gone.any (fun f => (f.cause == 4 || f.cause == 5) && f.detail == j))
    let b := b.setSafe { b.safe with resetDue := false, faults := left, second := x.second && !left.isEmpty, shorts := shorts, outBad := outs.foldl (fun m j => clearBitN m j) x.outBad,
                                      linkDown := x.linkDown && x.linkCnt != 0, expired := x.expired && b.rd F.SAFE_STAT_MODE != 1, resetSince := true }
    let b := (b.wr F.SAFE_OUT_FLT b.safe.outBad).showFault
    b.onlyIf (!gone.isEmpty) (fun b => b.note 170)

/-- The partner can take the drive over (R327, R328): it passed its self-tests, no unattributed disagreement stands. -/
def Bay.partnerTakes (b : Bay) (from_ : Nat) : Bool :=
  b.flag (if from_ = 0 then F.SAFE_STAT_CHB_OK else F.SAFE_STAT_CHA_OK) && b.safe.faults.all (fun f => !(f.ch == 3 && (f.cause == 2 || f.cause == 7 || f.cause == 9)))

/-- Everything is de-energised and the bay stops (R328, R329; R387 cause 2). -/
def Bay.safeAllOff (b : Bay) : Bay := ((b.dropTargets allTargets).rtStop).safetyStop

/-- A fault found by the channel that drives alone de-energises everything at once, and the bay goes to SAFE-STOP (R329). -/
def Bay.secondFault (b : Bay) : Bay := b.onlyIf (b.safe.second && b.targetsOn != 0) Bay.safeAllOff

/-- A handover over one cycle (R327, R328): accepted after one cycle, in force after four; refused after three. A faulted channel that is refused de-energises everything. -/
def Bay.handoverCycle (b : Bay) : Bay :=
  match b.safe.handover with
  | none => b
  | some h =>
    let n := b.safe.cycle - h.t0
    let b := b.onlyIf (!h.accepted && b.partnerTakes h.from_ && n ≤ 3) (fun b => (b.setSafe { b.safe with handover := some { h with accepted := true } }).note 174)
    let acc := match b.safe.handover with
      | some h => h.accepted
      | none => false
    if !acc && 3 ≤ n then
      let b := ((b.setSafe { b.safe with handover := none }).setFlag F.SAFE_STAT_HANDOVER false).note 174
      b.onlyIf h.faulted (fun b => (b.setSafe { b.safe with stopped := some h.from_ }).safeAllOff)
    else if acc && 4 ≤ n then
      let b := (b.setSafe { b.safe with handover := none, degr := b.rdN F.SAFE_GLB_CFG0_T_DEGR * 7200000 }).setFlag F.SAFE_STAT_HANDOVER false
      let b := b.wr F.SAFE_STAT_MODE (if h.from_ = 0 then 3 else 2)
      (b.wr F.SAFE_LINES_TAKE (b.rd F.SAFE_LINES_ON)).note 174
    else b

/-- The degraded time counts down in 1oo1D (R329); DEGR_LEFT reads minutes, rounded up. -/
def Bay.degrCycle (b : Bay) : Bay :=
  let m := b.rd F.SAFE_STAT_MODE
  if m = 2 || m = 3 then
    let d := b.safe.degr - 1
    (b.setSafe { b.safe with degr := d }).wr F.SAFE_DEGR_LEFT (ceilTo 120000 d / 120000 : Nat)
  else if m = 1 then b.wr F.SAFE_DEGR_LEFT (b.rd F.SAFE_GLB_CFG0_T_DEGR * 60)
  else b

/-- The safety link and the drive commands over one cycle (R309): a link lost for 3 cycles puts every pair in demand, cause 9; drives that differ for 2 cycles go off, cause 7. -/
def Bay.linkCycle (b : Bay) (i : SafeIn) : Bay :=
  let x := b.safe
  let both := b.rd F.SAFE_STAT_MODE = 1
  let n := if i.link || !both then 0 else x.linkCnt + 1
  let d := if i.drive.toNat = 0 || !both then 0 else x.driveCnt + 1
  let b := b.setSafe { x with linkCnt := n, driveCnt := d, driveNow := if both then i.drive.toNat else 0, linkDown := x.linkDown || decide (3 ≤ n) }
  let b := b.setFlag F.SAFE_STAT_XLINK_OK i.link
  let b := b.onlyIf (2 ≤ d) (fun b => b.latchFault 7 0 3 (i.drive.toNat &&& allTargets))
  b.onlyIf (3 ≤ n) (fun b => b.latchFault 9 0 3 0)

/-- SRESET over one cycle (R325): how long it has been closed and open; 0.1 s open ends STUCK and BLOCKED. -/
def Bay.sresetCycle (b : Bay) : Bay :=
  let x := b.safe
  let closed := (b.reads 0 && x.fa.acc.testBit 16) || (b.reads 1 && x.fb.acc.testBit 16)
  let b := b.setSafe { x with heldCnt := if closed then x.heldCnt + 1 else 0, openCnt := if closed then 0 else min 65535 (x.openCnt + 1) }
  let b := (b.setFlag F.SAFE_RST_HELD closed).setFlag F.SAFE_IN_SRESET closed
  b.onlyIf (200 ≤ b.safe.openCnt) (fun b => (b.setFlag F.SAFE_RST_STUCK false).setFlag F.SAFE_RST_BLOCKED false)

/-- A two-leg short request drops every STO line and records cause 15 (R310). -/
def Bay.shortCycle (b : Bay) : Bay :=
  let b := b.setSafe { b.safe with shortLeg := b.shortReq }
  if b.shortReq then ({ b with shortReq := false }.latchFault 15 0 3 1).dropTargets 1 else b

/-- An output that reads on while commanded off is a fault in every cycle for CHECK = 1 (R321, cause 4). -/
def Bay.outputCycle (b : Bay) (i : SafeIn) : Bay :=
  let b := b.wr F.SAFE_OUT_FB i.fb.toNat
  b.each ((List.range 4).filter (fun j => i.outOn.toNat.testBit j && !(b.rdN F.SAFE_OUT_ON).testBit j && b.rd (F.OUT_CFG_CHECK j) == 1)) (fun b j =>
    let b := b.setSafe { b.safe with outBad := setBitN b.safe.outBad j, passed := clearBitN b.safe.passed (8 + j) }
    ((b.wr F.SAFE_OUT_FLT b.safe.outBad).latchFault 4 j 3 (2 ^ (8 + j))).note 168)

/-- A channel that rejoins counts the cycles without disagreement (R330 step 3). -/
def Bay.rejoinCycle (b : Bay) (i : SafeIn) : Bay :=
  match b.safe.rejoin with
  | some (x, n) => b.setSafe { b.safe with rejoin := some (x, if i.a = i.b && i.link then n + 1 else 0) }
  | none => b

/-- Outputs that a passing read-back shows off again can clear cause 4 (R322). -/
def Bay.outputsPass (b : Bay) (i : SafeIn) : Bay :=
  b.each ((List.range 4).filter (fun j => b.rd (F.OUT_CFG_CHECK j) == 1 && !i.outOn.toNat.testBit j)) (fun b j =>
    b.setSafe { b.safe with passed := setBitN b.safe.passed (8 + j) })

/-- The age of the oldest static line test in hours (R337); only the lines of present wales count. -/
def Bay.oldestLine (b : Bay) : Nat :=
  (((List.range 7).filter (fun k => 1 ≤ k && (5 ≤ k || b.walePresent (k - 1)))).map (fun k => b.now - b.safe.lineT.getD k 0)).foldl max 0

/-- The age of the line tests as SAFE.LTEST_AGE and LTEST_DUE show it. -/
def Bay.showLineAge (b : Bay) : Bay :=
  let b := b.wr F.SAFE_LTEST_AGE (min 4294967295 (b.oldestLine / (3600 * secTicks)) : Nat)
  b.onlyIf (b.oldestLine < 2592000 * secTicks) (fun b => b.setFlag F.SAFE_STAT_LTEST_DUE false)

/-- What reads of block SAFE see from this cycle on (R337). -/
def Bay.showSafe (b : Bay) : Bay :=
  { b with edge := { b.edge with safe := b.regs.filter (fun p => [Grp.safe, .safePair, .safeOut].contains p.1.grp) } }

/-- One safety cycle (R307). -/
def Bay.safetyCycle (b : Bay) (i : SafeIn) : Bay :=
  let x := b.safe
  let b := b.setSafe { x with cycle := x.cycle + 1, fa := b.runFilter x.fa i.a.toNat i.ua.toNat, fb := b.runFilter x.fb i.b.toNat i.ub.toNat }
  let b := (b.linkCycle i).each (List.range 16) (fun b k => b.takeInput k)
  let b := ((b.findShorts i.shorts.toNat).sresetCycle).shortCycle
  let b := ((b.outputsPass i).outputCycle i).rejoinCycle i
  let b := b.wr F.SAFE_IN_SI (b.safe.taken : Nat)
  let b := b.each (List.range 8) (fun b k => b.pairCycle k)
  let b := ((b.applyReset).handoverCycle).degrCycle
  let b := b.secondFault
  (((b.drive b.wanted).showPairs).showLineAge).showSafe

/-- SAFETY_CYCLE (R307): one cycle of 0.5 ms. -/
def execSafetyCycle (i : SafeIn) (s : State) : Result := s.onBay (fun b => b.safetyCycle i)

/-! ## Faults found by time or test (R314, R318, R319, R321, R322) -/

/-- DISCREPANCY_FAULT (R314): the inputs of pair i have disagreed for longer than T_DISC. -/
def execDiscrepancyFault (i : Fin 8) (s : State) : Result :=
  s.onBay (fun b =>
    let p := b.safe.pair i
    if 2 * b.rdN (F.PAIR_CFG0_T_DISC i) < p.discCnt && !p.disc then
      let b := (b.setSafe (b.safe.setPair i { p with disc := true, discSeen := 0 })).note (160 + i)
      (((b.demand i).latchFault 3 i 3 (b.act i)).secondFault).showPairs
    else b)

/-- T_STOP1 after a CAT 1 decision every target of pair i is de-energised (R318). -/
def Bay.cat1Stop (b : Bay) (i : Nat) : Bay :=
  let p := b.safe.pair i
  match p.stopAt with
  | none => b
  | some t =>
    if b.safe.cycle < t then b else (b.setSafe (b.safe.setPair i { p with stopAt := none })).dropTargets (b.act i)

/-- CAT1_STOP (R318). -/
def execCat1Stop (i : Fin 8) (s : State) : Result := s.onBay (fun b => b.cat1Stop i)

/-- TEST_PULSE (R311, R319, R322): the contact supplies, the STO lines or an output pulsed and read back. -/
def Bay.testPulse (b : Bay) (t : PulseTest) : Bay :=
  match t with
  | .supply m => (b.findShorts m.toNat).secondFault
  | .sto ok =>
    if ok then b.setSafe { b.safe with passed := setBitN b.safe.passed 0 }
    else (((b.setSafe { b.safe with passed := clearBitN b.safe.passed 0 }).latchFault 6 0 3 1).dropTargets 1).secondFault
  | .output j ok =>
    if b.rd (F.OUT_CFG_CHECK j) ≠ 2 then b
    else if ok then b.setSafe { b.safe with passed := setBitN b.safe.passed (8 + j) }
    else
      let b := b.setSafe { b.safe with passed := clearBitN b.safe.passed (8 + j), outBad := setBitN b.safe.outBad j }
      ((((b.wr F.SAFE_OUT_FLT b.safe.outBad).latchFault 4 j 3 (2 ^ (8 + (j : Nat)))).note 168).dropTargets (2 ^ (8 + (j : Nat)))).secondFault

/-- TEST_PULSE (R322). -/
def execTestPulse (t : PulseTest) (s : State) : Result := s.onBay (fun b => b.testPulse t)

/-- A static line may be tested: its action has no effect (R319). -/
def Bay.lineTestable (b : Bay) (k : Nat) : Bool :=
  if k ≤ 4 then (waleChans (k - 1)).all (fun c => match (b.measChOf c).openSince with | some t => decide (t + secTicks ≤ b.now) | none => !b.switchClosed c)
  else if k = 5 then allAxes.all (fun a => b.axState a == Ax.disabled || b.axState a == Ax.sto)
  else b.rd F.PWR_ENTRY_STAT_STATE == 0

/-- The hours between two tests of a static line: 24, halved while one channel drives alone (R319, R329). -/
def Bay.lineHours (b : Bay) : Nat := if b.oneChannel then 12 else 24

/-- A static line is tested after an entry to ENERGIZED and otherwise at most once in 24 h (R319). -/
def Bay.lineTestDue (b : Bay) (k : Nat) : Bool :=
  b.safe.lineDue.testBit k || decide (b.safe.lineT.getD k 0 + b.lineHours * 3600 * secTicks ≤ b.now)

/-- LINE_TEST (R319): static line k = 1 to 6 dropped for 2 ms and read back; a failure records cause 6 and keeps the pair de-energised. -/
def execLineTest (k : Fin 6) (pass : Bool) (s : State) : Result :=
  s.onBay (fun b =>
    let l : Nat := k + 1
    if !(b.lineTestable l && b.lineTestDue l) then b
    else
      let x := b.safe
      let b := (b.setSafe { x with lineT := x.lineT.set l b.now, lineDue := clearBitN x.lineDue l, passed := if pass then setBitN x.passed l else clearBitN x.passed l }).showLineAge
      if pass then b else ((b.latchFault 6 l 3 (2 ^ l)).dropTargets (2 ^ l)).secondFault)

/-- LINE_TEST_DUE (R319): a line untested for 30 days; event 173. -/
def execLineTestDue (s : State) : Result :=
  s.onBay (fun b =>
    if 2592000 * secTicks ≤ b.oldestLine && !b.flag F.SAFE_STAT_LTEST_DUE then ((b.showLineAge).setFlag F.SAFE_STAT_LTEST_DUE true).note 173 else b)

/-- FEEDBACK_TIMEOUT (R321): FBj has not opened after switch-on, or closed after switch-off, within T_FB; cause 5. -/
def execFeedbackTimeout (j : Fin 4) (s : State) : Result :=
  s.onBay (fun b =>
    let on := (b.rdN F.SAFE_OUT_ON).testBit j
    let closed := bitOf (b.rd F.SAFE_OUT_FB) j
    if b.rd (F.OUT_CFG_CHECK j) = 1 && b.safe.outT.getD j 0 + 2 * b.rdN (F.OUT_CFG_T_FB j) ≤ b.safe.cycle && on = closed then
      let b := b.setSafe { b.safe with outBad := setBitN b.safe.outBad j }
      ((((b.wr F.SAFE_OUT_FLT b.safe.outBad).latchFault 5 j 3 (2 ^ (8 + (j : Nat)))).note 168).dropTargets (2 ^ (8 + (j : Nat)))).secondFault
    else b)

/-! ## Reset (R325, R326) -/

/-- RESET_PRESS (R325): the release of a press, with its length and the two channels' difference in ms. -/
def Bay.resetPress (b : Bay) (ms skew : Nat) : Bay :=
  if b.rd F.SAFE_STAT_MODE = 1 && 20 < skew then (b.latchFault 2 16 3 0).note 172
  else if ms < 100 || 5000 < ms || b.flag F.SAFE_RST_STUCK || b.flag F.SAFE_RST_BLOCKED || b.safe.handover.isSome then b.note 172
  else ((b.wr F.SAFE_RST_COUNT ((b.rd F.SAFE_RST_COUNT + 1) % 65536)).setSafe { b.safe with resetDue := true }).note 172

/-- RESET_PRESS (R325). -/
def execResetPress (ms skew : Nat) (s : State) : Result := s.onBay (fun b => b.resetPress ms skew)

/-- RESET_STUCK (R325): SRESET closed for 5 s, cause 12. -/
def execResetStuck (s : State) : Result :=
  s.onBay (fun b => if 10000 ≤ b.safe.heldCnt && !b.flag F.SAFE_RST_STUCK then (b.setFlag F.SAFE_RST_STUCK true).latchFault 12 0 3 0 else b)

/-! ## Supply, handover and degraded operation (R327 to R330, R336) -/

/-- SAFETY_SUPPLY_LOST (R336): all inputs off, so every pair is in demand; outputs off; cause 10. -/
def execSafetySupplyLost (s : State) : Result :=
  s.onBay (fun b =>
    let b := (b.setFlag F.SAFE_STAT_SUPPLY_OK false).latchFault 10 0 3 0
    let b := b.each ((List.range 8).filter (fun i => b.eval i != 0)) (fun b i => b.demand i)
    (b.dropTargets 0xF00).showPairs)

/-- SAFETY_SUPPLY_RESTORED (R336). -/
def execSafetySupplyRestored (s : State) : Result := s.onBay (fun b => b.setFlag F.SAFE_STAT_SUPPLY_OK true)

/-- A handover begins at the next cycle (R327). -/
def Bay.beginHandover (b : Bay) (from_ : Nat) (latch faulted : Bool) : Bay :=
  (b.setSafe { b.safe with handover := some ⟨from_, b.safe.cycle, latch, faulted, false⟩ }).setFlag F.SAFE_STAT_HANDOVER true

/-- A host request for a handover (R327): in 1oo2 only, with none in progress. -/
def Bay.hostHandover (b : Bay) (k : Key) (from_ : Nat) : Bay :=
  b.gated k (fun b =>
    if b.rd F.SAFE_STAT_MODE = 1 && b.safe.handover.isNone then b.beginHandover from_ false false else b.refuse k 4)

/-- HO_CA (R327). -/
def execHoCa (s : State) : Result := s.onBay (fun b => b.hostHandover F.SAFE_CTL_HO_CA 0)
/-- HO_CB (R327). -/
def execHoCb (s : State) : Result := s.onBay (fun b => b.hostHandover F.SAFE_CTL_HO_CB 1)

/-- The OK bit of an upsett channel. -/
def chOk (x : Nat) : Key := if x = 0 then F.SAFE_STAT_CHA_OK else F.SAFE_STAT_CHB_OK

/-- A channel in drive stops (R328): its drive goes off and with it every safe action; the bay stops. -/
def Bay.upsettStops (b : Bay) (x : Nat) : Bay :=
  let b := b.setFlag (chOk x) false
  if !b.reads x || !b.setActive then b
  else
    let b := (b.setSafe { b.safe with stopped := some x, handover := none }).setFlag F.SAFE_STAT_HANDOVER false
    let b := b.latchFault 8 0 (x + 1) 0
    let b := b.each ((List.range 8).filter (fun i => b.eval i != 0)) (fun b i => b.demand i)
    (b.safeAllOff).showPairs

/-- Channel x attributes a fault to itself (R309, R327): it asks for a handover, or stops where it cannot. -/
def Bay.upsettFault (b : Bay) (x : Nat) : Bay :=
  if b.rd F.SAFE_STAT_MODE = 1 && b.safe.handover.isNone then
    ((b.setFlag (chOk x) false).latchFault 8 0 (x + 1) 0).beginHandover x false true
  else b.upsettStops x

/-- UPSETT_SILENT (R328): channel x stops without a handover; one that attributes a fault to itself first asks for one (R327). -/
def execUpsettSilent (x : Fin 2) (selfFault : Bool) (s : State) : Result :=
  s.onBay (fun b => if selfFault then b.upsettFault x else b.upsettStops x)

/-- DEGRADED_WARN (R329): 60 min left; event 174. -/
def execDegradedWarn (s : State) : Result :=
  s.onBay (fun b =>
    if (b.rd F.SAFE_STAT_MODE = 2 || b.rd F.SAFE_STAT_MODE = 3) && b.safe.degr ≤ 7200000 && !b.flag F.SAFE_STAT_DEGR_WARN then
      (b.setFlag F.SAFE_STAT_DEGR_WARN true).note 174
    else b)

/-- DEGRADED_TIME_EXPIRE (R329): cause 11; every pair goes to demand under CAT 1 rules, and the bay stops. -/
def execDegradedTimeExpire (s : State) : Result :=
  s.onBay (fun b =>
    if (b.rd F.SAFE_STAT_MODE = 2 || b.rd F.SAFE_STAT_MODE = 3) && b.safe.degr = 0 && !b.safe.expired then
      let at_ := b.safe.cycle + 2 * b.rdN F.SAFE_GLB_CFG0_T_STOP1
      let b := (b.setSafe { b.safe with expired := true }).latchFault 11 0 0 0
      let b := b.each ((List.range 8).filter (fun i => b.eval i != 0)) (fun b i =>
        let p := b.safe.pair i
        (b.setSafe (b.safe.setPair i { p with dem := true, wait := true, stopAt := if p.dem then p.stopAt else some at_ })).note (160 + i))
      (((b.stopRequest allTargets).rtStop).safetyStop).showPairs
    else b)

/-- A cartridge is fitted in the other slot. -/
def Bay.partnerFitted (b : Bay) (x : Nat) : Bool := b.cPresent (1 - x)

/-- UPSETT_SELF_TEST_DONE (R325, R330): channel x has run its self-test. At power-up both passing channels put the active set in force; a returning channel takes the partner's set and verifies it, cause 14 where that fails. -/
def execUpsettSelfTestDone (x : Fin 2) (pass verified resetClosed : Bool) (s : State) : Result :=
  s.onBay (fun b =>
    let m := b.rd F.SAFE_STAT_MODE
    if !pass then (if b.setActive && b.reads x then b.upsettFault x else (b.setFlag (chOk x) false).latchFault 8 0 ((x : Nat) + 1) 0)
    else
      let b := b.setFlag (chOk x) true
      let b := b.onlyIf (resetClosed && b.rd F.SAFE_RST_COUNT = 0 && m = 0) (fun b => (b.setFlag F.SAFE_RST_BLOCKED true).latchFault 13 0 3 0)
      if (m = 2 && (x : Nat) = 1) || (m = 3 && (x : Nat) = 0) || b.safe.stopped = some (x : Nat) then
        if verified then b.setSafe { b.safe with rejoin := some (x, 0) } else b.latchFault 14 0 ((x : Nat) + 1) 0
      else if m = 0 && b.safe.active.isSome then
        if b.flag F.SAFE_STAT_CHA_OK && b.flag F.SAFE_STAT_CHB_OK then (b.wr F.SAFE_STAT_MODE 1).wr F.SAFE_DEGR_LEFT (b.rd F.SAFE_GLB_CFG0_T_DEGR * 60)
        else if !b.partnerFitted x then
          (b.wr F.SAFE_STAT_MODE (if (x : Nat) = 0 then 2 else 3)).setSafe { b.safe with degr := b.rdN F.SAFE_GLB_CFG0_T_DEGR * 7200000 }
        else b
      else b)

/-- UPSETT_REJOIN (R330): after 100 clean cycles 1oo2 is in force again, the takeover drives are released, the degraded time stops; event 174. -/
def execUpsettRejoin (x : Fin 2) (s : State) : Result :=
  s.onBay (fun b =>
    match b.safe.rejoin with
    | some (y, n) =>
      if y = (x : Nat) && 100 ≤ n && b.flag (chOk x) then
        let b := b.setSafe { b.safe with rejoin := none, stopped := none, degr := 0 }
        let b := ((b.wr F.SAFE_STAT_MODE 1).wr F.SAFE_LINES_TAKE 0).setFlag F.SAFE_STAT_DEGR_WARN false
        (b.wr F.SAFE_DEGR_LEFT (b.rd F.SAFE_GLB_CFG0_T_DEGR * 60)).note 174
      else b
    | none => b)

/-! ## Parameter sets (R331 to R333) -/

/-- The fields of an active set as the SIG registers of R337 show them. -/
def Bay.showSet (b : Bay) (l : List Byte) : Bay :=
  let b := ((b.wr F.SAFE_GLB_CFG0_T_DEGR (byteAt l 8)).wr F.SAFE_GLB_CFG0_T_PULSE (byteAt l 9)).wr F.SAFE_GLB_CFG0_T_STOP1 (u16At l 12)
  let b := b.wr F.SAFE_GLB_CFG1_T_OFFP (u16At l 10)
  let b := b.each (List.range 8) (fun b i =>
    let o := 0x10 + 16 * i
    let b := ((b.wr (F.PAIR_CFG0_EVAL i) (byteAt l o)).wr (F.PAIR_CFG0_FILT i) (byteAt l (o + 1))).wr (F.PAIR_CFG0_T_DISC i) (u16At l (o + 2))
    let b := (b.wr (F.PAIR_CFG1_CAT i) (byteAt l (o + 4))).wr (F.PAIR_CFG1_RESET i) (byteAt l (o + 5))
    (b.wr (F.PAIR_CFG1_ACT i) (u16At l (o + 6))).wr (F.PAIR_CFG1_TYPE i) (byteAt l (o + 8)))
  let b := b.each (List.range 4) (fun b j => (b.wr (F.OUT_CFG_CHECK j) (byteAt l (0x90 + 8 * j))).wr (F.OUT_CFG_T_FB j) (u16At l (0x92 + 8 * j)))
  (b.wr F.SAFE_PAR_ID (u32At l 4)).wr F.SAFE_PAR_CRC (u32At l 0xB0)

/-- ACTIVATE may act (R333). -/
def Bay.mayActivate (b : Bay) : Bool :=
  let m := b.rd F.SAFE_STAT_MODE
  b.mode = Mode.service && b.safe.handover.isNone && b.flag F.SAFE_STAT_PEND_OK && b.safe.pend.isSome &&
    b.flag F.SAFE_STAT_CHA_OK && b.flag F.SAFE_STAT_CHB_OK && b.flag F.SAFE_STAT_XLINK_OK && (m = 0 || m = 1)

/-- A write of SAFE.CTL.ACTIVATE (R333): everything drops, the pending set is in force, every pair waits for reset, event 175. -/
def Bay.activate (b : Bay) : Bay :=
  b.gated F.SAFE_CTL_ACTIVATE (fun b =>
    if b.mode ≠ Mode.service then b.refuse F.SAFE_CTL_ACTIVATE 6
    else if !b.mayActivate then b.refuse F.SAFE_CTL_ACTIVATE 4
    else
      match b.safe.pend with
      | none => b
      | some p =>
        let b := (b.dropTargets allTargets).showSet p.bytes
        let b := b.setSafe { b.safe with pend := none, active := some p, pairs := List.replicate 8 { dem := true, wait := true }, hands := List.replicate 4 {} }
        let b := ((b.setFlag F.SAFE_STAT_PEND_OK false).wr F.SAFE_PEND_ID 0).wr F.SAFE_PEND_CRC 0
        let b := (b.wr F.SAFE_STAT_MODE 1).wr F.SAFE_DEGR_LEFT (b.rd F.SAFE_GLB_CFG0_T_DEGR * 60)
        (b.showPairs).note 175)

/-- ACTIVATE (R333). -/
def execActivate (s : State) : Result := s.onBay Bay.activate

end Sys2Proof.Machine
end

