-- ==== Sys2Proof/Machine/Images.lean ====
section
/-! DEFINITION. Signed images: envelopes, the checks of their payloads, loading and deleting (R141 to R146, R172, R173, R207 to R213, R331, R332, R462). -/

namespace Sys2Proof.Machine

/-! ## Payloads -/

/-- A list of numbers that rises strictly. -/
def rising : List Int → Bool
  | a :: c :: r => decide (a < c) && rising (c :: r)
  | _ => true

/-- The FORMAT of a KIND (R209). -/
def kindFormat : Nat → Nat
  | 1 => 0x0701
  | 2 => 0x0502
  | 3 => 0x0501
  | 4 => 0x0702
  | 5 => 0x0601
  | _ => 0x0C01

/-- A program image (R210): its limits, and entry points inside the code. -/
def parseProgram (id : Nat) (l : List Byte) : Option Payload :=
  let nent := u16At l 2
  let ncode := u32At l 8
  let nconst := u32At l 12
  let nref := u16At l 0x30
  let ents := words32 8 (l.drop 0x10)
  let used := ents.take nent
  if 1 ≤ nent && nent ≤ 8 && u32At l 4 == id && 1 ≤ ncode && ncode ≤ 65536 && nconst ≤ 16384 && nref ≤ 64 && zeroAt l 0x32 14 &&
      l.length == 64 + 4 * (ncode + nconst + nref) && used.all (· < ncode) && (ents.drop nent).all (· == 0xFFFFFFFF) then
    some (.program (used.map Int.ofNat) (words32 ncode (l.drop 64)) (words32 nconst (l.drop (64 + 4 * ncode)))
      ((words32 nref (l.drop (64 + 4 * (ncode + nconst)))).map Int.ofNat))
  else none

/-- A step entry (R145). -/
def parseStep (l : List Byte) : Params :=
  { mode := byteAt l 0, legacy := byteAt l 1 % 2 == 1, termDiv := byteAt l 3, set := i32At l 4, vlim := u32At l 8, aux := i32At l 12,
    tqual := u16At l 16, tstep := u32At l 20, tsafe := u32At l 24, qlim := if byteAt l 0 = 7 then 0 else (u32At l 28 : Int),
    t1 := if byteAt l 0 = 7 then (u16At l 30 : Int) else 0, t2 := if byteAt l 0 = 7 then (u16At l 28 : Int) else 0 }

/-- What R146 asks of a step entry, with its reserved bits. -/
def stepOk (l : List Byte) : Bool :=
  let m := byteAt l 0
  let td := byteAt l 3
  m ≤ 7 && byteAt l 1 < 2 && byteAt l 2 == 0 && u16At l 0x12 == 0 && (td == 0 || (4 ≤ td && td ≤ 64 && (m == 3 || m == 4))) &&
    (m != 7 || (u16At l 30 != 0 && u16At l 28 != 0)) && (byteAt l 1 == 0 || m == 4)

/-- A zoned step table (R144, R146). -/
def parseZoned (id : Nat) (l : List Byte) : Option Payload :=
  let nz := byteAt l 2
  let ns := byteAt l 3
  let bounds := (List.range 7).map (fun i => i16At l (8 + 2 * i))
  let used := bounds.take (nz - 1)
  let ents := (List.range (nz * ns)).map (fun k => (l.drop (0x40 + 32 * k)).take 32)
  if 1 ≤ nz && nz ≤ 8 && 1 ≤ ns && ns ≤ 16 && u32At l 4 == id && rising used && (bounds.drop (nz - 1)).all (· == 0x7FFF) && u16At l 0x16 ≤ 1000 &&
      zeroAt l 0x25 27 && l.length == 0x40 + 32 * (nz * ns) && ents.all stepOk then
    some (.zoned {
      nzone := nz, nstep := ns, bound := used, hyst := u16At l 0x16,
      leg := { tTop := u32At l 0x18, vRechg := u32At l 0x1C, tRqual := u32At l 0x20, nRechg := byteAt l 0x24 }, steps := ents.map parseStep })
  else none

/-- A border table (R141). -/
def parseBorder (l : List Byte) : Option Payload :=
  let vmax := u32At l 4
  if l.length == 64 && u16At l 2 < 8 && 1000000 ≤ vmax && vmax ≤ 5000000 && u32At l 8 ≤ vmax && u32At l 12 ≤ 150000000 && u32At l 16 ≤ 150000000 &&
      zeroAt l 0x1E 2 && zeroAt l 0x30 16 then
    some (.border {
      flags := u16At l 2, vMax := vmax, vMin := u32At l 8, iChg := u32At l 12, iDis := u32At l 16, pMax := u32At l 0x14,
      tMax := i16At l 0x18, tChgMin := i16At l 0x1A, tChgMax := i16At l 0x1C, sftMax := u32At l 0x20, qCellMax := u32At l 0x24,
      fMin := u16At l 0x28, fMax := u16At l 0x2A, donQMax := u32At l 0x2C })
  else none

/-- A curve table (R211). -/
def parseCurve (id : Nat) (l : List Byte) : Option Payload :=
  let n := byteAt l 2
  let ax := byteAt l 3
  let pts := (List.range n).map (fun p => (i32At l (16 + 8 * p), i32At l (20 + 8 * p)))
  if 2 ≤ n && n ≤ 64 && ax % 16 ≤ 5 && ax / 16 ≤ 5 && u32At l 4 == id && zeroAt l 8 8 && l.length == 16 + 8 * n && rising (pts.map Prod.fst) then
    some (.curve pts)
  else none

/-- A sweep table (R172, R173): a point's (S + M) / F_REQ is at most 600 s. -/
def parseSweep (id : Nat) (l : List Byte) : Option Payload :=
  let n := byteAt l 2
  let ok := fun p =>
    let f := u32At l (0x20 + 8 * p)
    let a := u16At l (0x24 + 8 * p)
    let s := byteAt l (0x26 + 8 * p)
    let m := byteAt l (0x27 + 8 * p)
    decide (50 ≤ f ∧ f ≤ 2000000 ∧ 50 ≤ a ∧ a ≤ 1000 ∧ s ≤ 16 ∧ 1 ≤ m ∧ (s + m) * 1000 ≤ 600 * f)
  if 1 ≤ n && n ≤ 64 && byteAt l 3 < 8 && u32At l 4 == id && zeroAt l 0xE 18 && l.length == 0x20 + 8 * n && (List.range n).all ok then
    some (.sweep (byteAt l 3) (u32At l 8) (u16At l 12) ((List.range n).map (fun p =>
      { freq := u32At l (0x20 + 8 * p), amp := u16At l (0x24 + 8 * p), settle := byteAt l (0x26 + 8 * p), measure := byteAt l (0x27 + 8 * p) })))
  else none

/-- The pairs of a safety set (R331, R332): ranges, an emergency stop that resets by hand, two-hand controls on an even pair and its successor with one ACT, bit [5] only with bit [0]. The fields of an unused pair are not judged (DEDUCED, log entry 40). -/
def safePairOk (l : List Byte) (i : Nat) : Bool :=
  let o := 0x10 + 16 * i
  let ev := byteAt l o
  let act := u16At l (o + 6)
  let two := if i % 2 = 0 then i + 1 else i - 1
  zeroAt l (o + 9) 7 && (ev == 0 ||
    (ev ≤ 4 && byteAt l (o + 4) ≤ 1 && byteAt l (o + 5) ≤ 1 && byteAt l (o + 8) ≤ 1 && act &&& 0xF080 == 0 &&
    1 ≤ byteAt l (o + 1) && byteAt l (o + 1) ≤ 10 && 10 ≤ u16At l (o + 2) && u16At l (o + 2) ≤ 2000 &&
    (ev != 1 || byteAt l (o + 5) == 0) &&
    (ev != 4 || (byteAt l (0x10 + 16 * two) == 4 && u16At l (0x16 + 16 * two) == act)) &&
    (!act.testBit 5 || act.testBit 0)))

/-- The ACT masks of the used pairs, joined. -/
def safeActs (l : List Byte) : Nat :=
  (List.range 8).foldl (fun m i => if byteAt l (0x10 + 16 * i) = 0 then m else m ||| u16At l (0x16 + 16 * i)) 0

/-- A safety parameter set (R331, R332). -/
def parseSafety (id : Nat) (l : List Byte) : Option Payload :=
  let acts := safeActs l
  let outOk := fun j =>
    let c := byteAt l (0x90 + 8 * j)
    c ≤ 2 && byteAt l (0x91 + 8 * j) == 0 && u32At l (0x94 + 8 * j) == 0 && ((c != 0) == acts.testBit (8 + j)) &&
      (c != 1 || (50 ≤ u16At l (0x92 + 8 * j) && u16At l (0x92 + 8 * j) ≤ 1000))
  if l.length == 180 && u32At l 4 == id && u16At l 2 == 0 && 1 ≤ byteAt l 8 && byteAt l 8 ≤ 72 && 5 ≤ byteAt l 9 && byteAt l 9 ≤ 50 &&
      100 ≤ u16At l 10 && u16At l 10 ≤ 400 && 10 ≤ u16At l 12 && u16At l 12 ≤ 1000 && u16At l 14 == 0 &&
      (List.range 8).all (safePairOk l) && (List.range 4).all outOk && acts.testBit 0 && acts.testBit 6 &&
      u32At l 0xB0 == crc32 (l.take 0xB0) then some (.safety l)
  else none

/-- The payload of an envelope, when its checks pass (RESULT 6 of R212). -/
def parsePayload (kind id : Nat) (l : List Byte) : Option Payload :=
  if u16At l 0 ≠ kindFormat kind then none
  else
    match kind with
    | 1 => parseProgram id l
    | 2 => parseZoned id l
    | 3 => parseBorder l
    | 4 => parseCurve id l
    | 5 => parseSweep id l
    | 6 => parseSafety id l
    | _ => none

/-! ## Envelopes (R208, R212, R462) -/

/-- `n` rounded up to a multiple of 8. -/
def pad8 (n : Nat) : Nat := (n + 7) / 8 * 8

/-- The slot of a plant authority, 0 to 3, with a right (R457, R462). -/
def Bay.plantRight (b : Bay) (s bit : Nat) : Bool := decide (s < 4) && b.flag (F.AUTH_ENROLLED s) && bitOf (b.rd (F.AUTH_RIGHTS s)) bit

/-- The highest VERSION accepted for an ID (R212). -/
def Bay.maxVersion (b : Bay) (id : Int) : Int := ((b.verMax.find? (fun p => p.1 == id)).map Prod.snd).getD 0

/-- The stored payload bytes of one region, the image of `id` left out. -/
def Bay.storedBytes (b : Bay) (prog : Bool) (id : Int) : Nat :=
  ((b.images.filter (fun m => (m.kind == 1) == prog && m.id != id)).map (fun m => pad8 m.size)).foldl (· + ·) 0

/-- How many images or tables are stored, the one of `id` left out. -/
def Bay.storedCount (b : Bay) (prog : Bool) (id : Int) : Nat :=
  (b.images.filter (fun m => (m.kind == 1) == prog && m.id != id)).length

/-- Room for an image (R207): 32 programs in 15 MiB, 1,024 tables in 16 MiB. -/
def Bay.roomFor (b : Bay) (kind size : Nat) (id : Int) : Bool :=
  if kind = 1 then b.storedCount true id < 32 && b.storedBytes true id + pad8 size ≤ 15728640
  else b.storedCount false id < 1024 && b.storedBytes false id + pad8 size ≤ 16777216

/-- Verify an envelope of `len` staged bytes (R212): the first RESULT that applies, with the image it holds. -/
def Bay.verify (b : Bay) (len : Nat) (l : List Byte) : Nat × Option Image :=
  let kind := byteAt l 2
  let auth := byteAt l 3
  let id := u32At l 4
  let n := u32At l 12
  let body := (l.drop 0x50).take n
  let signed := l.take (80 + pad8 n)
  if u16At l 0 ≠ 0x0700 || kind = 0 || 6 < kind || !zeroAt l 0x48 8 || len ≠ 80 + pad8 n + 96 || !zeroAt l (80 + n) (pad8 n - n) then (1, none)
  else if !b.plantRight auth (if kind = 6 then 1 else 0) then (2, none)
  else if (l.drop 0x18).take 48 ≠ Config.sha384 body || !Config.ecdsaOk (b.trust.keys.get [] auth) signed ((l.drop (80 + pad8 n)).take 96) then (3, none)
  else if (u32At l 8 : Int) < b.maxVersion id then (4, none)
  else if u64At l 0x10 ≠ 0 && (u64At l 0x10 : Int) ≠ b.rd F.BAY_SERIAL then (5, none)
  else
    match parsePayload kind id body with
    | none => (6, none)
    | some p =>
      if kind ≠ 6 && !b.roomFor kind n id then (7, none)
      else if kind ≠ 6 && b.idInUse id then (8, none)
      else (0, some { id := id, kind := kind, ver := u32At l 8, auth := auth, scope := u64At l 0x10, size := n, payload := p })

/-- The bytes of the code, constant and reference words, or of the table, as they stand in the store: the payload as loaded. -/
def envPayload (l : List Byte) : List Byte := (l.drop 0x50).take (u32At l 12)

/-! ## The store and its directory -/

/-- The directory slot of a program, if it is stored. -/
def Bay.imgSlot (b : Bay) (id : Int) : Option Nat :=
  (List.range 32).find? (fun i => b.flag (F.IMG_STAT_STORED i) && b.rd (F.IMG_ID i) == id)

/-- Free bytes and the count of what is stored (R214). -/
def Bay.storeRegs (b : Bay) : Bay :=
  (b.wr F.SKN_TBL_FREE (16777216 - (b.storedBytes false (-1) : Int))).wr F.SKN_LOAD_STAT_COUNT b.images.length

/-- Take an image out of the store. -/
def Bay.dropImage (b : Bay) (id : Int) : Bay :=
  let b := match b.imgSlot id with
    | some i => (((b.wr (F.IMG_ID i) 0).wr (F.IMG_VER i) 0).setFlag (F.IMG_STAT_STORED i) false).wr (F.IMG_STAT_AUTH i) 0 |>.wr (F.IMG_SIZE i) 0
    | none => b
  ({ b with images := b.images.filter (fun m => m.id != id), revoked := b.revoked.filter (· != id) }).storeRegs

/-- The highest accepted VERSION of an ID (R212). -/
def Bay.keepVersion (b : Bay) (id ver : Int) : Bay :=
  { b with verMax := b.verMax.filter (fun p => p.1 != id) ++ [(id, max ver (b.maxVersion id))] }

/-- Store an image (R207, R213); a program keeps its directory slot or takes the first free one (DESIGN CHOICE, log entry 39). -/
def Bay.storeImage (b : Bay) (m : Image) : Bay :=
  let old := b.imgSlot m.id
  let b := (b.dropImage m.id).keepVersion m.id m.ver
  let b := { b with images := b.images ++ [m] }
  let b :=
    if m.kind ≠ 1 then b
    else
      match old.orElse (fun _ => (List.range 32).find? (fun i => !b.flag (F.IMG_STAT_STORED i))) with
      | some i => (((b.wr (F.IMG_ID i) m.id).wr (F.IMG_VER i) m.ver).setFlag (F.IMG_STAT_STORED i) true).wr (F.IMG_STAT_AUTH i) m.auth |>.wr (F.IMG_SIZE i) m.size
      | none => b
  b.storeRegs

/-- A verified safety set is pending in both upsett channels (R332). -/
def Bay.pendSafety (b : Bay) (m : Image) (digest : List Byte) : Bay :=
  match m.payload with
  | .safety l =>
    let b := (b.keepVersion m.id m.ver)
    let b := { b with safe := { b.safe with pend := some { bytes := l, auth := m.auth, digest := digest } } }
    (((b.setFlag F.SAFE_STAT_PEND_OK true).wr F.SAFE_PEND_ID m.id).wr F.SAFE_PEND_CRC (u32At l 0xB0)).note 175
  | _ => b

/-- The RESULT of a load or deletion (R212, R520): shown, and raised as an event or a configuration error. -/
def Bay.loadResult (b : Bay) (k : Key) (r : Nat) (id : Int) : Bay :=
  let b := b.wr F.SKN_LOAD_STAT_RESULT r
  if r = 0 then b
  else if r = 7 || r = 8 || r = 10 then b.refuse k 4
  else b.raise 224 (256 + r) id

/-! ## LOAD_GO, LOAD_COMPLETE, DELETE -/

/-- A write of SKN.LOAD_CTL.GO (R212, R518): refused while a load or a firmware operation is busy. -/
def Bay.loadGo (b : Bay) : Bay :=
  b.gated F.SKN_LOAD_CTL_GO (fun b =>
    if b.flag F.SKN_LOAD_STAT_BUSY || b.flag F.TRU_FWU_STAT_BUSY then b.refuse F.SKN_LOAD_CTL_GO 4
    else { b.setFlag F.SKN_LOAD_STAT_BUSY true with trust := { b.trust with load := b.rdN F.SKN_LOAD_LEN } })

/-- LOAD_GO (R212). -/
def execLoadGo (s : State) : Result := s.onBay Bay.loadGo

/-- The staged envelope of a cartridge as its verification reads it (R212, R372): `none` where a word cannot be read. -/
def State.staged (s : State) (x len : Nat) : State × Option (List Byte) :=
  let r := s.readWords x 0 0 1 (stagingAt / 8) ((len + 7) / 8)
  (r.1, if r.2 then some ((r.1.mem.ram x 0).bytes stagingAt len) else none)

/-- What the cartridges make of the envelope: the RESULT, the image, and the bytes; different results are RESULT 9. A word that cannot be read fails the signature. -/
def State.verifyAll (s : State) (len : Nat) : State × Nat × Option Image × List Byte :=
  s.bay.carts.foldl (fun (st : State × Nat × Option Image × List Byte) x =>
    let r := st.1.staged x len
    let v := match r.2 with
      | none => (3, none)
      | some l => s.bay.verify len l
    let first := st.2.2.2.isEmpty && st.2.1 == 99
    if first then (r.1, v.1, v.2, r.2.getD [])
    else if st.2.1 = v.1 && st.2.2.1 = v.2 then (r.1, st.2)
    else (r.1, 9, none, st.2.2.2)) (s, 99, none, [])

/-- The payload stands in the store of every cartridge (R207; log entry 5). -/
def State.placeImage (s : State) (m : Image) (l : List Byte) : State :=
  s.bay.carts.foldl (fun s x => (s.mergeWrite x 0 (imageStart (m.kind == 1) m.id) 0 2 l).1) s

/-- LOAD_COMPLETE (R212): verification ends. -/
def execLoadComplete (s : State) : Result :=
  if !s.bay.flag F.SKN_LOAD_STAT_BUSY then .next s
  else
    let r := s.verifyAll s.bay.trust.load
    let res := if r.2.1 = 99 then 1 else r.2.1
    let l := r.2.2.2
    let id : Int := u32At l 4
    let s := r.1
    let b := ((s.bay.setFlag F.SKN_LOAD_STAT_BUSY false).wr F.SKN_LOAD_ID id).wr F.SKN_LOAD_STAT_KIND (byteAt l 2 % 8 : Nat)
    match r.2.2.1 with
    | some m =>
      if m.kind = 6 then .next { s with bay := (b.pendSafety m ((l.drop 0x18).take 48)).loadResult F.SKN_LOAD_CTL_GO res id }
      else .next (({ s with bay := (b.storeImage m).loadResult F.SKN_LOAD_CTL_GO res id }).placeImage m (envPayload l))
    | none => .next { s with bay := b.loadResult F.SKN_LOAD_CTL_GO res id }

/-- A write of SKN.LOAD_CTL.DELETE (R213). -/
def Bay.deleteImage (b : Bay) : Bay :=
  b.gated F.SKN_LOAD_CTL_DELETE (fun b =>
    let id := b.rd F.SKN_DEL_ID
    if b.flag F.SKN_LOAD_STAT_BUSY then b.refuse F.SKN_LOAD_CTL_DELETE 4
    else if (b.imageOf id).isNone then b.loadResult F.SKN_LOAD_CTL_DELETE 10 id
    else if b.idInUse id then b.loadResult F.SKN_LOAD_CTL_DELETE 8 id
    else (b.dropImage id).loadResult F.SKN_LOAD_CTL_DELETE 0 id)

/-- DELETE (R213). -/
def execDelete (s : State) : Result := s.onBay Bay.deleteImage

/-- Revoked images and tables that nothing uses any more are deleted (R461). -/
def Bay.dropRevoked (b : Bay) : Bay :=
  b.revoked.foldl (fun b id => if b.idInUse id then b else b.dropImage id) b

end Sys2Proof.Machine
end

