-- ==== Sys2Proof/Machine/RedOps.lean ====
section
/-! DEFINITION. The pairing of the two control cartridges (spec chapter 13): claims, holders, the recovery windows of R350, self-attributed faults and the joining sequence. Cartridge 0 is CA, 1 is CB. -/

namespace Sys2Proof.Machine

/-- The field of a cartridge's ROLE (R355). -/
def roleKey (x : Nat) : Key := if x = 0 then F.RED_STAT_ROLE_CA else F.RED_STAT_ROLE_CB

/-- A cartridge's ROLE: 3 active, 2 standby, 1 synchronising, 0 none (R341). -/
def Bay.role (b : Bay) (x : Nat) : Int := b.rd (roleKey x)

/-- Set a ROLE. -/
def Bay.setRole (b : Bay) (x : Nat) (r : Int) : Bay := b.wr (roleKey x) r

/-- Replace the pairing's hidden state. -/
def Bay.setRed (b : Bay) (r : Red) : Bay := { b with red := r }

/-- The cartridge that is not x. -/
def other (x : Nat) : Nat := 1 - x

/-- A slot that receives command frames is fitted: 0 to 3 S0 to S3, 4 X. -/
def Bay.slotFitted (b : Bay) (n : Nat) : Bool := if n < 4 then b.walePresent n else if n = 4 then b.xPresent else b.mPresent

/-- The fitted slots that receive command frames. -/
def Bay.cmdSlots (b : Bay) : List Nat := (List.range 5).filter b.slotFitted

/-- One pairing lane is up (R349). -/
def Bay.anyLane (b : Bay) : Bool := b.flag F.RED_STAT_LANE0 || b.flag F.RED_STAT_LANE1

/-- Lockstep with ROLE 0b11 and 0b10 (R346, R355). -/
def Bay.lockstep (b : Bay) : Bool :=
  (b.role 0 == 3 && b.role 1 == 2 || b.role 0 == 2 && b.role 1 == 3) && b.anyLane

/-- Record a pairing fault in RED.FLT (R355). -/
def Bay.redRecord (b : Bay) (cause side detail : Int) : Bay :=
  (((b.bumpSat F.RED_FLT_COUNT 1 255).wr F.RED_FLT_CAUSE cause).wr F.RED_FLT_SIDE side).wr F.RED_FLT_DETAIL detail

/-- The pairing group ends (R348, R350): SAFE-STOP with cause 7, RED.FLT read anew since the stop. -/
def Bay.endGroup (b : Bay) (cause side : Int) : Bay :=
  let b := (b.redRecord cause side 0).stopFor 7
  { b with modeSt := { b.modeSt with redRead := false } }

/-- A window of a kind is open. -/
def Bay.winOpen (b : Bay) (k : Nat) : Bool := b.red.wins.any (fun w => w.kind == k)

/-- Close the windows of a kind. -/
def Bay.closeWin (b : Bay) (k : Nat) : Bay := b.setRed { b.red with wins := b.red.wins.filter (fun w => w.kind != k) }

/-- Open a window (R350). -/
def Bay.openWin (b : Bay) (k side : Nat) : Bay :=
  if b.winOpen k then b else b.setRed { b.red with wins := b.red.wins ++ [⟨k, side, b.now⟩] }

/-- A fault of the pairing group by cartridge `side` (2 for none): inside a window that another fault opened, it ends the group (R350). -/
def Bay.pairFault (b : Bay) (side : Nat) : Bay :=
  if b.red.wins.any (fun w => w.side != side) then b.endGroup 10 (if side < 2 then side + 1 else 3) else b

/-- A cartridge is joining (R351): SYNC 1 to 5. -/
def Bay.joining (b : Bay) (x : Nat) : Bool :=
  b.red.joiner == some x && 1 ≤ b.rd F.RED_STAT_SYNC && b.rd F.RED_STAT_SYNC ≤ 5

/-- A cartridge is joining. -/
def Bay.anyJoining (b : Bay) : Bool := b.joining 0 || b.joining 1

/-- Joining stops (R351): SYNC 7, event 180. The resynchronisation window stays open (R350). -/
def Bay.stopJoin (b : Bay) (cause x step : Nat) : Bay :=
  ((b.redRecord cause (x + 1) step).wr F.RED_STAT_SYNC 7).note 180

/-- Clean lockstep starts to count anew (R351). -/
def Bay.uncleanLockstep (b : Bay) : Bay :=
  if b.anyJoining && b.rd F.RED_STAT_SYNC = 5 then (b.wr F.RED_CLEAN 0).setRed { b.red with cleanT0 := nextEdge b.now } else b

/-- A cartridge attributes a fault to itself (R347): SUSPECT and ROLE 0b00, the swap window opens, a joining it was in stops. -/
def Bay.selfFault (b : Bay) (x cause : Nat) (detail : Nat := 0) : Bay :=
  if b.red.out.contains x || b.red.silent.contains x then b
  else
    let b := if b.red.joiner = some x && b.winOpen 3 then (b.onlyIf (b.joining x) (fun b => b.stopJoin 9 x (b.rdN F.RED_STAT_SYNC))).closeWin 3 else b
    let b := ((b.redRecord cause (x + 1) detail).pairFault x).setRole x 0
    (b.setRed { b.red with out := b.red.out ++ [x], lower := if b.red.lower = some x then none else b.red.lower }).openWin 2 x

/-- A cartridge falls silent altogether (R17, R350, R480). -/
def Bay.goSilent (b : Bay) (x : Nat) : Bay :=
  if b.red.silent.contains x then b
  else
    let b := if b.red.joiner = some x && b.winOpen 3 then (b.onlyIf (b.joining x) (fun b => b.stopJoin 9 x (b.rdN F.RED_STAT_SYNC))).closeWin 3 else b
    let b := ((b.redRecord 1 (x + 1) 0).pairFault x).setRole x 0
    (b.setRed { b.red with silent := b.red.silent ++ [x], out := b.red.out.filter (· != x) }).openWin 2 x

/-- A cartridge enters the joining sequence at step 1 (R351): the swap window closes, the resynchronisation window opens. Without an active partner there is nothing to join. -/
def Bay.joinStart (b : Bay) (x : Nat) : Bay :=
  let r := b.red
  let b := (b.setRole x 0).setRed { r with out := r.out.filter (· != x), silent := r.silent.filter (· != x) }
  if b.role (other x) != 3 then b
  else
    let b := ((b.closeWin 2).openWin 3 x).wr F.RED_STAT_SYNC 1
    (b.setRed { b.red with joiner := some x }).wr F.RED_CLEAN 0

/-- The joining sequence starts again at step 4 (R351). -/
def Bay.joinStep4 (b : Bay) : Bay := (b.wr F.RED_STAT_SYNC 4).wr F.RED_CLEAN 0

/-- An unattributed divergence (R347, R348, R351): counted; the third within 60 min ends the group; a joining cartridge restarts at step 4; else the standby lowers itself at the next edge. -/
def Bay.unattributed (b : Bay) (cause detail : Nat) : Bay :=
  let divs := b.red.divs.filter (fun t => b.now - t < 3600 * secTicks) ++ [b.now]
  let b := ((b.setRed { b.red with divs := divs }).wr F.RED_DIV_HOUR divs.length).redRecord cause 3 detail
  if 3 ≤ divs.length then b.endGroup 11 3
  else if b.anyJoining && 4 ≤ b.rd F.RED_STAT_SYNC then b.joinStep4
  else
    let b := b.pairFault 2
    let sb := if b.role 0 = 2 then some 0 else if b.role 1 = 2 then some 1 else none
    b.setRed { b.red with lower := sb }

/-- A divergence (R347): counted, event 177; attributed to `blame` or not. `detail` is the first slot whose command frames differ (R355). -/
def Bay.diverge (b : Bay) (blame : Option Nat) (cause detail : Nat) : Bay :=
  let b := (b.bump32 F.RED_DIV_CNT).note 177
  match blame with
  | some x => b.selfFault x cause detail
  | none => b.unattributed cause detail

/-! ## Holders (R343, R344) -/

/-- Replace the view of a slot. -/
def Bay.onSlot (b : Bay) (n : Nat) (f : SlotView → SlotView) : Bay := b.setSlot n (f (b.slotOf n))

/-- A stage changes its holder (R343): event 176, the strobe follows (R36), the change counted once per frame over all slots (R355). -/
def Bay.setHolder (b : Bay) (n new : Nat) : Bay :=
  let b := (b.onSlot n (fun s => { s with holder := new, misses := 0, strobe := new })).note 176
  let e := frameStart b.now
  let b := if b.red.soEdge = some e then b else (b.setRed { b.red with soEdge := some e }).bump32 F.RED_SO_CNT
  b.wr F.RED_SO_T b.now

/-- The claims change places at one frame edge (R352, R353); event 181. -/
def Bay.exchangeRoles (b : Bay) : Bay :=
  let a := b.role 0
  (((b.setRole 0 (b.role 1)).setRole 1 a).note 181)

/-- The registers of RED that read as at the last frame edge (R355). -/
def Bay.redRegs (b : Bay) : Bay :=
  let hold := (List.range 5).filter (fun n => (b.slotOf n).holder = 2)
  let held := b.cmdSlots.map (fun n => (b.slotOf n).holder)
  let split := held.any (fun h => held.any (fun g => h != g))
  let win := b.red.wins.foldl (fun m w => if m = 0 || w.kind < m then w.kind else m) 0
  let divs := b.red.divs.filter (fun t => b.now - t < 3600 * secTicks)
  let b := b.setRed { b.red with divs := divs }
  let b := ((b.setFlag F.RED_STAT_PAIRED b.lockstep).setFlag F.RED_STAT_SPLIT split).wr F.RED_STAT_WINDOW win
  let b := (b.wr F.RED_VIEW_HOLDER (hold.foldl (fun m n => setBitN m n) 0 : Nat)).wr F.RED_DIV_HOUR divs.length
  if b.anyJoining && b.rd F.RED_STAT_SYNC = 5 then b.wr F.RED_CLEAN (min 10000 ((b.now - b.red.cleanT0) / msTicks : Nat)) else b

/-- Slot M has no holder: it follows the strobe of the cartridge that alone states ROLE 0b11 (R36), which its view holds as `holder`. -/
def Bay.strobeM (b : Bay) : Bay :=
  match [0, 1].filter (fun x => b.cPresent x && !b.red.silent.contains x && b.role x == 3) with
  | [x] => if b.mPresent && (b.slotOf 5).holder ≠ x + 1 then b.onSlot 5 (fun v => { v with holder := x + 1, strobe := x + 1 }) else b
  | _ => b

/-- Claims at the frame edge (R345, R347, R353): the first claims after power-up, a standby that lowers itself, a standby that raises itself once every slot reports it and still holds it or once its partner sends nothing, a waiting exchange, the end of a switch-over window (R350), and slot M's strobe (R36). -/
def Bay.roleEdge (b : Bay) : Bay :=
  let slots := b.cmdSlots
  let b :=
    if b.red.up || (!b.cPresent 0 && !b.cPresent 1) then b
    else
      let b := b.setRed { b.red with up := true }
      if b.cPresent 0 && b.cPresent 1 then
        ((((b.setRole 0 3).setRole 1 2).setFlag F.RED_STAT_LANE0 true).setFlag F.RED_STAT_LANE1 true)
      else b.setRole (if b.cPresent 0 then 0 else 1) 3
  let b := match b.red.lower with
    | some x =>
      let b := b.setRed { b.red with lower := none }
      if b.role x = 2 then (b.joinStart x).setRole x 1 else b
    | none => b
  let b := match b.red.lift with
    | some x => (b.setRed { b.red with lift := none }).onlyIf (b.role x == 2) (fun b => b.setRole x 3)
    | none => b
  let b := b.each [0, 1] (fun b x =>
    if b.role x = 2 && !slots.isEmpty && slots.all (fun n => (b.slotOf n).reported == x + 1 && (b.slotOf n).holder == x + 1) then
      let b := b.setRole x 3
      if b.role (other x) = 3 then b.setRole (other x) 0 else b
    else b)
  let b :=
    if b.red.swap then
      let b := b.setRed { b.red with swap := false }
      b.onlyIf (b.lockstep && b.red.wins.isEmpty) Bay.exchangeRoles
    else b
  let done := b.red.wins.any (fun w => w.kind == 1 &&
    (w.t0 + 100 * usTicks ≤ b.now || (b.role (other w.side) == 3 && slots.all (fun n => (b.slotOf n).reported == other w.side + 1))))
  (b.onlyIf done (fun b => b.closeWin 1)).strobeM

end Sys2Proof.Machine
end

