-- ==== Sys2Proof/Machine/Trust.lean ====
section
/-! DEFINITION. Trust: attestation, enrolment, the record key and seals, quarantine causes, the firewall, firmware update (R449 to R474, R517, R518). -/

namespace Sys2Proof.Machine

/-- Replace the hidden state of trust. -/
def Bay.setTrust (b : Bay) (t : Trust) : Bay := { b with trust := t }

/-- The fields of TRU.FW_CA or FW_CB. -/
def fwRun (x : Nat) : Key := if x = 0 then F.TRU_FW_CA_RUN else F.TRU_FW_CB_RUN
def fwPref (x : Nat) : Key := if x = 0 then F.TRU_FW_CA_PREF else F.TRU_FW_CB_PREF
def fwSvn (x : Nat) : Key := if x = 0 then F.TRU_FW_CA_SVN else F.TRU_FW_CB_SVN
def fwSvnMin (x : Nat) : Key := if x = 0 then F.TRU_FW_CA_SVN_MIN else F.TRU_FW_CB_SVN_MIN
def fwFallback (x : Nat) : Key := if x = 0 then F.TRU_FW_CA_FALLBACK else F.TRU_FW_CB_FALLBACK
def fwVer (x : Nat) : Key := if x = 0 then F.TRU_FW_VER_CA else F.TRU_FW_VER_CB
def fwOk (x bank : Nat) : Key :=
  if x = 0 then (if bank = 0 then F.TRU_FW_CA_A_OK else F.TRU_FW_CA_B_OK) else (if bank = 0 then F.TRU_FW_CB_A_OK else F.TRU_FW_CB_B_OK)
def seOk (x : Nat) : Key := if x = 0 then F.TRU_STAT_SE_CA_OK else F.TRU_STAT_SE_CB_OK

/-! ## Causes of QUARANTINE (R470) -/

/-- A cause of QUARANTINE arises (R470, R472): in QUARANTINE it is recorded at once and clears CLR_ARMED, elsewhere the bay enters QUARANTINE at the next frame edge. -/
def Bay.quarantineFor (b : Bay) (code : Nat) : Bay :=
  let b := b.setTrust { b.trust with fixed := b.trust.fixed.filter (· != code) }
  if b.mode = Mode.quarantine then
    (b.wr F.TRU_QCAUSE_MASK (setBitN (b.rdN F.TRU_QCAUSE_MASK) (code - 1))).setFlag F.TRU_STAT_CLR_ARMED false
  else
    { b with trust := { b.trust with causes := if b.trust.causes.contains code then b.trust.causes else b.trust.causes ++ [code] },
             modeSt := { b.modeSt with quarantine := true } }

/-- At the edge of entry (R470): the first cause, a bit for each, event 227. -/
def Bay.enterCauses (b : Bay) : Bay :=
  let l := b.trust.causes
  let first := l.headD 0
  let mask := l.foldl (fun m c => setBitN m (c - 1)) 0
  let b := ((b.wr F.TRU_QCAUSE_FIRST first).wr F.TRU_QCAUSE_MASK (mask : Nat)).setFlag F.TRU_STAT_CLR_ARMED false
  (b.setTrust { b.trust with causes := [] }).raise 227 first (mask : Nat)

/-- A remedy is in place (R470). -/
def Bay.remedied (b : Bay) (code : Nat) : Bay :=
  b.setTrust { b.trust with fixed := if b.trust.fixed.contains code then b.trust.fixed else b.trust.fixed ++ [code] }

/-- Every recorded cause has its remedy (R470, R472); cause 4 needs none. -/
def Bay.allRemedied (b : Bay) : Bool :=
  (List.range 5).all (fun i => !bitOf (b.rd F.TRU_QCAUSE_MASK) i || i == 3 || b.trust.fixed.contains (i + 1))

/-! ## Record key (R450, R465, R470) -/

/-- The chassis serial number as 8 bytes. -/
def Bay.serialBytes (b : Bay) : List Byte := leBytes 8 (b.rd F.BAY_SERIAL)

/-- RKEY_OK (R474): every present cartridge holds the record key. -/
def Bay.showKey (b : Bay) : Bay :=
  b.setFlag F.TRU_STAT_RKEY_OK (!b.carts.isEmpty && b.carts.all (fun x => b.trust.rkeyIn.getD x false))

/-- Create a record key (R450, R464, R465): seal numbers begin at 0 anew, the chains begin with the first key of all and run on afterwards. -/
def Bay.newRecordKey (b : Bay) : Bay :=
  let first := b.trust.rkey = 0
  let by_ := if b.cPresent 0 then 0 else 1
  let b := b.setTrust { b.trust with rkey := b.trust.rkey + 1, rkeyIn := [b.cPresent 0, b.cPresent 1], rkeyBy := by_ }
  let b := b.each allChans (fun b c =>
    let r := b.ringOf c
    b.setRing c { r with sealSeq := 0, chain := if first then Config.sha384 (b.serialBytes ++ leBytes 1 (c : Int)) else r.chain })
  (b.remedied 5).showKey

/-- A cell is started anywhere. -/
def Bay.anyCell (b : Bay) : Bool := allChans.any b.cellOpen

/-- A write of RKEY_NEW (R470, R473, R474). -/
def Bay.rkeyNew (b : Bay) : Bay :=
  b.gated F.TRU_CTL_RKEY_NEW (fun b =>
    if b.mode ≠ Mode.service && b.mode ≠ Mode.quarantine then b.refuse F.TRU_CTL_RKEY_NEW 6
    else if b.anyCell then b.refuse F.TRU_CTL_RKEY_NEW 4
    else b.newRecordKey)

/-- RKEY_NEW (R470). -/
def execRkeyNew (s : State) : Result := s.onBay Bay.rkeyNew

/-! ## Seals (R464 to R466) -/

/-- The 160 bytes of a seal and its chain value: `sig` signs SERIAL, channel and bytes 0x00 to 0x3F. -/
def sealBytes (flags n seq time : Nat) (chain cov : List Byte) (serial : List Byte) (c : Nat) (sig : List Byte → List Byte) : List Byte × List Byte :=
  let head := leBytes 1 15 ++ leBytes 1 (flags : Int) ++ leBytes 2 (n : Int) ++ leBytes 4 (seq : Int) ++ leBytes 8 (time : Int)
  let ck := Config.sha384 (chain ++ cov ++ head)
  (head ++ ck ++ sig (serial ++ leBytes 1 (c : Int) ++ head ++ ck), ck)

/-- Replace slots from index `i` on. -/
def putSlots (l : List (List Byte)) (i : Nat) (x : List (List Byte)) : List (List Byte) :=
  l.take i ++ x ++ l.drop (i + x.length)

/-- Write the oldest reserved seal of channel c (R464 to R466); unsigned with event 231 and QUARANTINE cause 5 where no cartridge can sign. -/
def Bay.sealWrite (b : Bay) (c : Nat) : Bay :=
  let r := b.ringOf c
  match r.sealDue with
  | [] => b
  | d :: rest =>
    let can := b.carts.any (fun x => b.trust.rkeyIn.getD x false && b.trust.se.getD x false)
    let first := can && r.sealKey != b.trust.rkey
    let flags := (d.flags + (if can then 0 else 2)) + (if first then 4 else 0)
    let z := sealBytes flags d.nslot r.sealSeq d.time r.chain d.cov b.serialBytes c
      (fun m => if can then Config.ecdsaSign (16 + b.trust.rkey) m else List.replicate 96 0)
    let slots := putSlots r.slots (d.pos - r.pos) (cutSlots sealSlots z.1)
    let b := b.setRing c { r with slots := slots, sealDue := rest, sealSeq := r.sealSeq + 1, chain := z.2,
                                  sealKey := if can then b.trust.rkey else r.sealKey }
    if can then b else (b.raise 231 c r.sealSeq).quarantineFor 5

/-- A secure element fails (R451, R466): the cartridge attributes the fault to itself while its partner goes on. -/
def Bay.seFail (b : Bay) (x : Nat) : Bay :=
  if !b.cPresent x || !b.trust.se.getD x false then b
  else
    let b := (b.setTrust { b.trust with se := b.trust.se.set x false }).setFlag (seOk x) false
    if b.trust.se.getD (other x) false && b.cPresent (other x) then b.selfFault x 2 else b

/-- SEAL_WRITTEN (R466): the seal due on channel c; `fail` names secure elements that cannot sign. With the last one of them QUARANTINE also has cause 1 (R470). -/
def execSealWritten (c : Fin 64) (fail : BitVec 2) (s : State) : Result :=
  s.onBay (fun b =>
    let b := (b.each ([0, 1].filter (fun x => fail.toNat.testBit x)) Bay.seFail).sealWrite c
    b.onlyIf (fail != 0 && b.carts.all (fun x => !b.trust.se.getD x false)) (fun b => b.quarantineFor 1))

/-! ## Attestation (R454 to R456) -/

/-- A write of ATT_GO (R455). -/
def Bay.attGo (b : Bay) : Bay :=
  b.gated F.TRU_CTL_ATT_GO (fun b =>
    let b := ((b.setFlag F.TRU_ATT_STAT_BUSY true).setFlag F.TRU_ATT_STAT_READY false)
    ((b.setFlag F.TRU_ATT_STAT_READ_CA false).setFlag F.TRU_ATT_STAT_READ_CB false).setTrust { b.trust with quotes := [[], []] })

/-- ATT_GO (R455). -/
def execAttGo (s : State) : Result := s.onBay Bay.attGo

/-- The nonce as written (R456). -/
def Bay.nonce (b : Bay) : List Byte :=
  ([F.TRU_ATT_NONCE0, F.TRU_ATT_NONCE1, F.TRU_ATT_NONCE2, F.TRU_ATT_NONCE3, F.TRU_ATT_NONCE4, F.TRU_ATT_NONCE5, F.TRU_ATT_NONCE6, F.TRU_ATT_NONCE7].map
    (fun k => leBytes 4 (b.rd k))).flatten

/-- The authority slots as M5 takes them (R454): each 97 bytes, zero when empty; `n` slots. -/
def Bay.authBytes (b : Bay) (n : Nat) : List Byte :=
  ((List.range n).map (fun s => if b.flag (F.AUTH_ENROLLED s) then b.trust.keys.get [] s else List.replicate 97 0)).flatten

/-- The record key certificate, empty without one (R450). -/
def Bay.recordCertificate (b : Bay) : List Byte :=
  if b.trust.rkey = 0 then [] else Config.recordCert (b.rd F.BAY_SERIAL) b.trust.rkey b.trust.rkeyBy

/-- The quote of cartridge x (R456). -/
def Bay.quote (b : Bay) (x : Nat) : List Byte :=
  let bank := b.rdN (fwRun x)
  let parts := (b.trust.banks.get {} (2 * x + bank)).parts
  let fit := b.trust.fits.getD x 0
  let m5 := Config.sha384 (b.authBytes 8)
  let m6 := match b.safe.active with
    | some p => p.digest
    | none => List.replicate 48 0
  let held := b.trust.rkeyIn.getD x false
  let m7 := if b.recordCertificate.isEmpty then List.replicate 48 0 else Config.sha384 b.recordCertificate
  let flags : Int := (if b.flag (fwFallback x) then 1 else 0) + (if held then 2 else 0)
  let body := leBytes 2 0x1301 ++ leBytes 1 (x : Int) ++ leBytes 1 (bank : Int) ++ leBytes 4 (b.rd (fwVer x)) ++ b.serialBytes ++
    leBytes 8 (Config.cartSerial x fit) ++ leBytes 8 (b.now : Int) ++ b.nonce ++
    ((List.range 5).map (fun k => Config.bootMeasure x k parts)).flatten ++ m5 ++ m6 ++ m7 ++
    leBytes 1 (b.rd (fwSvn x)) ++ leBytes 1 (b.rd (fwSvnMin x)) ++ leBytes 1 b.mode ++ leBytes 1 flags ++ leBytes 12 0
  body ++ Config.ecdsaSign (2 * fit + x) body

/-- Place the quotes (R455, R473): a joining cartridge that has not completed step 1 quotes later, its window reads 0 until then. -/
def Bay.quoteReady (b : Bay) : Bay :=
  if !b.flag F.TRU_ATT_STAT_BUSY then b
  else
    let late := b.carts.filter (fun x => b.joining x && b.rd F.RED_STAT_SYNC == 1)
    let put := (b.carts.filter (fun x => !late.contains x)).foldl (fun q x => if (q.getD x []).isEmpty then q.set x (b.quote x) else q) b.trust.quotes
    (((b.setTrust { b.trust with quotes := put }).setFlag F.TRU_ATT_STAT_READY true).setFlag F.TRU_ATT_STAT_BUSY (!late.isEmpty)).note 225

/-- QUOTE_READY (R455). -/
def execQuoteReady (s : State) : Result := s.onBay Bay.quoteReady

/-- QUOTE_READ (R455): the last word of a window has been read. -/
def execQuoteRead (x : Fin 2) (s : State) : Result :=
  s.onBay (fun b => b.setFlag (if (x : Nat) = 0 then F.TRU_ATT_STAT_READ_CA else F.TRU_ATT_STAT_READ_CB) true)

/-! ## Enrolment (R457 to R461) -/

/-- The staged statement. -/
def Bay.enrBytes (b : Bay) : List Byte := ((List.range 58).map (fun w => leBytes 4 (b.rd (F.ENRBUF w)))).flatten

/-- The slots as they stand once every accepted statement has applied (log entry 41). -/
def Bay.slotFilled (b : Bay) (s : Nat) : Bool :=
  b.trust.pend.foldl (fun v e => if e.slot = s then e.op != 2 else v) (b.flag (F.AUTH_ENROLLED s))

/-- The commissioning window is open (R460). -/
def Bay.windowOpen (b : Bay) : Bool := b.flag F.TRU_ENR_STAT_WINDOW

/-- The RESULT of a statement, in the order of R459; `differ` says that the cartridges reached different results. -/
def Bay.judgeEnrol (b : Bay) (l : List Byte) (differ : Bool) : Nat :=
  let op := byteAt l 2
  let slot := byteAt l 3
  let rights := byteAt l 4
  let signer := byteAt l 5
  let okForm := b.rd F.TRU_ENR_LEN == 232 && u16At l 0 == 0x1303 && zeroAt l 6 2 && zeroAt l 0x1C 4 && zeroAt l 0x81 7 && 1 ≤ op && op ≤ 3 && slot ≤ 7 &&
    rights ≤ (if slot < 4 then 7 else 2) && (op != 2 || (rights == 0 && zeroAt l 0x20 97)) && (signer != 0xFF || zeroAt l 0x88 96)
  let filled := b.slotFilled slot
  let plants := ((List.range 4).filter b.slotFilled).length
  if !okForm then 1
  else if (if signer = 0xFF then !b.windowOpen else !(signer < 4 && b.flag (F.AUTH_ENROLLED signer))) then 2
  else if signer ≠ 0xFF && !Config.ecdsaOk (b.trust.keys.get [] signer) (l.take 0x88) ((l.drop 0x88).take 96) then 3
  else if (u32At l 0x18 : Int) ≤ b.rd F.TRU_ENR_SEQ then 4
  else if u64At l 8 ≠ 0 && (u64At l 8 : Int) ≠ b.rd F.BAY_SERIAL then 5
  else if b.mode ≠ Mode.attest && b.mode ≠ Mode.service && b.mode ≠ Mode.quarantine then 6
  else if (op = 1 && filled) || (op ≠ 1 && !filled) || (op = 2 && slot < 4 && plants = 1) || (signer = 0xFF && filled) then 7
  else if differ then 8
  else 0

/-- What a slot shows of its authority (R474). -/
def Bay.showAuth (b : Bay) (s : Nat) (key : List Byte) (rights : Int) : Bay :=
  let on := !key.isEmpty
  let b := ((b.wr (F.AUTH_ID s) (if on then leNum ((Config.sha384 key).take 8) else 0)).wr (F.AUTH_RIGHTS s) rights).setFlag (F.AUTH_ENROLLED s) on
  let count := fun lo => ((List.range 4).filter (fun i => b.flag (F.AUTH_ENROLLED (lo + i)))).length
  (b.wr F.TRU_STAT_PLANT_N (count 0)).wr F.TRU_STAT_HOST_N (count 4)

/-- A plant authority is removed or replaced (R461): its images are revoked, those that nothing uses are deleted, a pending safety set of its is discarded. -/
def Bay.revokeAuth (b : Bay) (s : Nat) : Bay :=
  let ids := (b.images.filter (fun m => m.auth == (s : Int) && !b.revoked.contains m.id)).map (·.id)
  let b := ({ b with revoked := b.revoked ++ ids }).dropRevoked
  match b.safe.pend with
  | some p =>
    if p.auth = (s : Int) then
      ((({ b with safe := { b.safe with pend := none } }).setFlag F.SAFE_STAT_PEND_OK false).wr F.SAFE_PEND_ID 0).wr F.SAFE_PEND_CRC 0
    else b
  | none => b

/-- A statement applies (R460, R461): event 228; the first plant authority creates a record key where none exists. -/
def Bay.applyEnrol (b : Bay) (e : Enrol) : Bay :=
  let first := b.rd F.TRU_STAT_PLANT_N = 0
  let b := b.onlyIf (e.op != 1 && e.slot < 4) (fun b => b.revokeAuth e.slot)
  let key := if e.op = 2 then [] else e.key
  let b := (b.setTrust { b.trust with keys := b.trust.keys.put e.slot key, pend := b.trust.pend.filter (fun p => p != e) }).showAuth e.slot key e.rights
  let b := b.setFlag (F.AUTH_PENDING e.slot) (b.trust.pend.any (fun p => p.slot == e.slot))
  let b := (b.raise 228 (e.slot * 256 + e.op) e.seq).remedied 2
  b.onlyIf (first && e.slot < 4 && e.op != 2 && !(b.trust.rkeyIn.any id)) Bay.newRecordKey

/-- A write of ENR_GO (R458, R459, R520). -/
def Bay.enrGo (b : Bay) (differ : Bool) : Bay :=
  b.gated F.TRU_CTL_ENR_GO (fun b =>
    let l := b.enrBytes
    let r := b.judgeEnrol l differ
    let seq : Int := u32At l 0x18
    let b := b.wr F.TRU_ENR_STAT_RESULT r
    if r ≠ 0 then b.raise 224 (512 + r) seq
    else
      let e : Enrol := { op := byteAt l 2, slot := byteAt l 3, rights := byteAt l 4, effect := u64At l 0x10, seq := seq, key := (l.drop 0x20).take 97 }
      let b := b.wr F.TRU_ENR_SEQ seq
      if e.effect ≤ b.now then b.applyEnrol e
      else (b.setTrust { b.trust with pend := b.trust.pend ++ [e] }).setFlag (F.AUTH_PENDING e.slot) true)

/-- ENR_GO (R459). -/
def execEnrGo (differ : Bool) (s : State) : Result := s.onBay (fun b => b.enrGo differ)

/-- The statements whose time has come, in ENR_SEQ order, which is the order of their acceptance (R473). -/
def Bay.enrolDue (b : Bay) : Bay :=
  (b.trust.pend.filter (fun e => e.effect ≤ b.now)).foldl Bay.applyEnrol b

/-- ENROLMENT_APPLY (R461): at T_EFFECT. -/
def execEnrolmentApply (s : State) : Result := s.onBay Bay.enrolDue

/-- The commissioning window opens or closes (R460). -/
def Bay.setWindow (b : Bay) (until_ : Option Nat) : Bay :=
  (b.setTrust { b.trust with winEnd := until_ }).setFlag F.TRU_ENR_STAT_WINDOW until_.isSome

/-- A press of the commissioning button, held `ms` (R460). -/
def Bay.commButton (b : Bay) (ms : Nat) : Bay :=
  if b.mode ≠ Mode.attest && b.mode ≠ Mode.quarantine then b
  else if b.windowOpen then (if 100 ≤ ms then b.setWindow none else b)
  else if 3000 ≤ ms then b.setWindow (some (b.now + 900 * secTicks))
  else b

/-- COMMISSIONING_BUTTON (R460). -/
def execCommissioningButton (ms : Nat) (s : State) : Result := s.onBay (fun b => b.commButton ms)

/-- COMMISSIONING_TIMEOUT (R460): the window ends 15 min after it opened. -/
def Bay.commTimeout (b : Bay) : Bay :=
  match b.trust.winEnd with
  | some t => if t ≤ b.now then b.setWindow none else b
  | none => b

/-- COMMISSIONING_TIMEOUT (R460). -/
def execCommissioningTimeout (s : State) : Result := s.onBay Bay.commTimeout

/-! ## Leaving QUARANTINE (R470, R472) -/

/-- A write of VER_REBUILD (R470): each highest VERSION is the stored image's. -/
def Bay.verRebuild (b : Bay) : Bay :=
  b.gated F.TRU_CTL_VER_REBUILD (fun b =>
    if b.mode ≠ Mode.quarantine then b.refuse F.TRU_CTL_VER_REBUILD 6
    else if !bitOf (b.rd F.TRU_QCAUSE_MASK) 2 then b.refuse F.TRU_CTL_VER_REBUILD 4
    else ({ b with verMax := b.images.map (fun (m : Image) => (m.id, m.ver)) }).remedied 3)

/-- VER_REBUILD (R470). -/
def execVerRebuild (s : State) : Result := s.onBay Bay.verRebuild

/-- A write of Q_RESTART (R472). -/
def Bay.qRestart (b : Bay) (discard : Bool) : Bay :=
  b.gated F.TRU_CTL_Q_RESTART (fun b =>
    let kept := allChans.any (fun c => b.rd (F.CHN_REC_FILL c) != 0)
    if b.mode = Mode.quarantine && b.flag F.TRU_STAT_CLR_ARMED && b.allRemedied && (discard || !kept) then
      { b with modeSt := { b.modeSt with restart := true } }
    else b.refuse F.TRU_CTL_Q_RESTART 4)

/-- Q_RESTART (R472). -/
def execQRestart (discard : Bool) (s : State) : Result := s.onBay (fun b => b.qRestart discard)

/-- QCAUSE_READ (R472). -/
def execQcauseRead (s : State) : Result :=
  s.onBay (fun b => b.onlyIf (b.mode == Mode.quarantine) (fun b => b.setFlag F.TRU_STAT_CLR_ARMED true))

/-! ## The firewall (R467 to R469) -/

/-- Write one log entry. -/
def Bay.fwlPut (b : Bay) (e : Nat) (t master region acc addr : Int) : Bay :=
  ((((b.wr (F.FWL_T e) t).wr (F.FWL_MASTER e) master).wr (F.FWL_REGION e) region).wr (F.FWL_ACC e) acc).wr (F.FWL_ADDR e) addr

/-- The log moves one entry on (R474). -/
def Bay.fwlShift (b : Bay) : Bay :=
  b.each [14, 13, 12, 11, 10, 9, 8, 7, 6, 5, 4, 3, 2, 1, 0] (fun b e =>
    b.fwlPut (e + 1) (b.rd (F.FWL_T e)) (b.rd (F.FWL_MASTER e)) (b.rd (F.FWL_REGION e)) (b.rd (F.FWL_ACC e)) (b.rd (F.FWL_ADDR e)))

/-- A violation (R469): counted, logged, event 226 with the master in DETAIL and the region in VALUE; a Skein engine freezes with cause 9 (R204). `acc` is 1 read, 2 write, 3 fetch. -/
def Bay.violation (b : Bay) (master region acc addr : Nat) : Bay :=
  let b := (b.fwlShift).fwlPut 0 b.now master region acc addr
  let b := ((b.wr F.TRU_FWL_LAST_MASTER master).wr F.TRU_FWL_LAST_REGION region).wr F.TRU_FWL_LAST_ACC acc
  let b := (b.bump32 F.TRU_FWL_CNT).raise 226 master region
  b.onlyIf (64 ≤ master && master < 128) (fun b => b.freeze (master - 64) 9 region)

/-- FWL_LAST_READ (R469). -/
def execFwlLastRead (s : State) : Result := s.onBay (fun b => b.setFlag F.TRU_STAT_REL_ARMED true)

/-- Release a master (R469). -/
def Bay.releaseMaster (b : Bay) (m : Nat) : Bay :=
  let b := b.setFlag F.TRU_STAT_REL_ARMED false
  if 8 ≤ m && m ≤ 23 then b.wr F.TRU_FRZ_DMA (clearBitN (b.rdN F.TRU_FRZ_DMA) (m - 8))
  else if 32 ≤ m && m ≤ 34 then b.wr F.TRU_FRZ_INGRESS (clearBitN (b.rdN F.TRU_FRZ_INGRESS) (m - 32))
  else if m = 35 then b.setFlag F.TRU_FRZ_PAIR false
  else b

/-- A write of TRU.REL (R398, R469): only after the arming read, for a master that such a write releases. -/
def Bay.relWrite (b : Bay) (m : Nat) : Bay :=
  b.gated F.TRU_REL_ID (fun b =>
    if !b.flag F.TRU_STAT_REL_ARMED then b.refuse F.TRU_REL_ID 5
    else if !((8 ≤ m && m ≤ 23) || (32 ≤ m && m ≤ 35)) then b.refuse F.TRU_REL_ID 3
    else b.releaseMaster m)

/-- REL (R469). -/
def execRel (m : BitVec 8) (s : State) : Result := s.onBay (fun b => b.relWrite m.toNat)

/-! ## Firmware banks (R452, R453, R517, R518) -/

/-- A flash bank of a cartridge. -/
def Bay.bankOf (b : Bay) (x bank : Nat) : Bank := b.trust.banks.get {} (2 * x + bank)

/-- The outcome of R452 steps 2 to 4 for a bank: 0, 2 signature, 3 SVN, 4 component digest. -/
def Bay.bankResult (b : Bay) (x bank : Nat) : Nat :=
  let p := (b.bankOf x bank).parts
  let r := Config.bankCheck p
  if r = 2 then 2 else if (Config.bankSvn p : Int) < nth b.trust.svnMin x then 3 else if r = 0 then 0 else 4

/-- The registers of the bank that a cartridge runs. -/
def Bay.runBank (b : Bay) (x bank : Nat) (fallback : Bool) : Bay :=
  let p := (b.bankOf x bank).parts
  let b := ((b.wr (fwRun x) bank).wr (fwPref x) (nth b.trust.pref x)).setFlag (fwOk x bank) true
  let b := ((b.wr (fwSvn x) (Config.bankSvn p % 256 : Nat)).wr (fwSvnMin x) (nth b.trust.svnMin x)).setFlag (fwFallback x) fallback
  b.wr (fwVer x) (Config.bankVersion p % 4294967296 : Nat)

/-- Measured boot of a cartridge (R452, R453): its preferred bank, else the other with FALLBACK and event 229, else it stays silent. -/
def Bay.bootCart (b : Bay) (x : Nat) : Bay :=
  let p := (nth b.trust.pref x).toNat % 2
  if b.bankResult x p = 0 then b.runBank x p false
  else if b.bankResult x (1 - p) = 0 then (b.runBank x (1 - p) true).note 229
  else b.goSilent x

/-- The SVN minimum of a cartridge advances to its running bank (R453). -/
def Bay.svnKeep (b : Bay) (x : Nat) : Bay :=
  let v := max (b.rd (fwSvnMin x)) (b.rd (fwSvn x))
  (b.setTrust { b.trust with svnMin := b.trust.svnMin.set x v }).wr (fwSvnMin x) v

/-- A joiner takes enrolment, VERSION record and record key from its partner (R351 step 3, R450, R516). -/
def Bay.takeKey (b : Bay) (x : Nat) : Bay :=
  (b.setTrust { b.trust with rkeyIn := b.trust.rkeyIn.set x (b.trust.rkeyIn.getD (other x) false) }).showKey

/-- The joiner's idle bank takes the partner's running release, and is the one it prefers and boots (R515). -/
def Bay.alignBank (b : Bay) (x : Nat) : Bay :=
  let idle := 1 - b.rdN (fwRun x)
  let src := b.bankOf (other x) (b.rdN (fwRun (other x)))
  let b := b.setTrust { b.trust with banks := b.trust.banks.put (2 * x + idle) src, pref := b.trust.pref.set x (idle : Int) }
  b.runBank x idle false

/-- Write the preferred bank (R453): only in SERVICE, only a bank that every present cartridge has verified. -/
def Bay.preferBank (b : Bay) (k : Key) (bank : Nat) : Bay :=
  b.gated k (fun b =>
    if b.mode = Mode.service && b.carts.all (fun x => b.flag (fwOk x bank)) then
      b.each b.carts (fun b x => (b.setTrust { b.trust with pref := b.trust.pref.set x (bank : Int) }).wr (fwPref x) bank)
    else b.refuse k 4)

/-- FW_PREF_A (R453). -/
def execFwPrefA (s : State) : Result := s.onBay (fun b => b.preferBank F.TRU_CTL_FW_PREF_A 0)

/-- FW_PREF_B (R453). -/
def execFwPrefB (s : State) : Result := s.onBay (fun b => b.preferBank F.TRU_CTL_FW_PREF_B 1)

/-- What refuses a firmware command (R517, R518): the mode, a busy unit, an open window. -/
def Bay.fwuRefused (b : Bay) : Option Int :=
  if !(4 ≤ b.mode && b.mode ≤ 10) then some 6
  else if b.flag F.TRU_FWU_STAT_BUSY || b.flag F.SKN_LOAD_STAT_BUSY || !b.red.wins.isEmpty then some 4
  else none

/-- A firmware command that may begin. -/
def Bay.fwuStart (b : Bay) (k : Key) (f : Bay → Bay) : Bay :=
  b.gated k (fun b =>
    match b.fwuRefused with
    | some r => b.refuse k r
    | none => f b)

/-- CHUNK (R517). -/
def execChunk (s : State) : Result :=
  s.onBay (fun b => b.fwuStart F.TRU_FWU_CTL_CHUNK (fun b =>
    ((b.setTrust { b.trust with fwuOp := 1 }).setFlag F.TRU_FWU_STAT_BUSY true).setFlag F.TRU_FWU_STAT_VERIFIED false))

/-- VERIFY (R517). -/
def execVerify (s : State) : Result :=
  s.onBay (fun b => b.fwuStart F.TRU_FWU_CTL_VERIFY (fun b =>
    (b.setTrust { b.trust with fwuOp := 2 }).setFlag F.TRU_FWU_STAT_BUSY true))

/-- The staged MiB as the bytes that are not 0. -/
def Ram.stagedPart (r : Ram) : List (Nat × Byte) :=
  (r.cells.filter (fun c => stagingAt ≤ c.1 && c.1 < programAt)).map (fun c => (c.1 - stagingAt, c.2))

/-- A part goes into the idle bank of cartridge x (R517); the bank has to be verified anew. -/
def Bay.writePart (b : Bay) (x ofs : Nat) (l : List (Nat × Byte)) : Bay :=
  let idle := 1 - b.rdN (fwRun x)
  let k := b.bankOf x idle
  (b.setTrust { b.trust with banks := b.trust.banks.put (2 * x + idle) { k with parts := k.parts.put ofs l } }).setFlag (fwOk x idle) false

/-- CHUNK_DONE (R517). -/
def execChunkDone (s : State) : Result :=
  s.onBay (fun b =>
    if b.trust.fwuOp ≠ 1 then b
    else
      let ofs := b.rdN F.TRU_FWU_OFS_VAL
      let b := b.each b.carts (fun b x => b.writePart x ofs (s.mem.ram x 0).stagedPart)
      let b := ((b.setTrust { b.trust with fwuOp := 0 }).setFlag F.TRU_FWU_STAT_BUSY false).wr F.TRU_FWU_STAT_RESULT 0
      b.bumpSat F.TRU_FWU_STAT_PARTS 1 63)

/-- The idle bank of every present cartridge has been checked (R517, R518). -/
def Bay.verifyDone (b : Bay) : Bay :=
  if b.trust.fwuOp ≠ 2 then b
  else
    let rs := b.carts.map (fun x => b.bankResult x (1 - b.rdN (fwRun x)))
    let r := match rs with
      | [] => 1
      | a :: l => if l.all (· == a) then a else 5
    let b := b.each b.carts (fun b x =>
      let idle := 1 - b.rdN (fwRun x)
      b.setFlag (fwOk x idle) (b.bankResult x idle == 0))
    let b := ((b.setTrust { b.trust with fwuOp := 0 }).setFlag F.TRU_FWU_STAT_BUSY false).wr F.TRU_FWU_STAT_RESULT r
    ((b.setFlag F.TRU_FWU_STAT_VERIFIED (r == 0)).wr F.TRU_FWU_STAT_PARTS 0).note 229

/-- VERIFY_DONE (R517). -/
def execVerifyDone (s : State) : Result := s.onBay Bay.verifyDone

/-- RESTART (R517, R518): both cartridges restart into the idle bank. -/
def execRestart (s : State) : Result :=
  s.onBay (fun b => b.fwuStart F.TRU_FWU_CTL_RESTART (fun b =>
    if b.mode ≠ Mode.service || b.rd F.PWR_ENTRY_STAT_STATE ≠ 0 || !b.flag F.TRU_FWU_STAT_VERIFIED then b.refuse F.TRU_FWU_CTL_RESTART 4
    else
      let b := b.each b.carts (fun b x => b.setTrust { b.trust with pref := b.trust.pref.set x (1 - b.rd (fwRun x)) })
      { b with modeSt := { b.modeSt with restart := true } }))

end Sys2Proof.Machine
end

