-- ==== Sys2Proof/Machine/ModeCtl.lean ====
section
/-! DEFINITION. Operating modes: power-up and boot, BAY.CMD, the mode change at the frame edge and what each entry does (spec chapter 16, R382 to R390, R404, R471). -/

namespace Sys2Proof.Machine

/-- Replace what the mode logic holds. -/
def Bay.setModeSt (b : Bay) (m : ModeSt) : Bay := { b with modeSt := m }

/-! ## Degrade conditions (R386) -/

/-- The degrade conditions as BAY.STAT.DEG: 1oo1D, no lockstep, slot X empty or its axes held under R54, slot M empty. -/
def Bay.degrade (b : Bay) : Nat :=
  (if b.rd F.SAFE_STAT_MODE = 2 || b.rd F.SAFE_STAT_MODE = 3 then 1 else 0) + (if b.lockstep then 0 else 2) +
    (if !b.xServes || b.plant.chopConducts then 4 else 0) + (if b.mPresent && !b.slotSilent 5 then 0 else 8)

/-- An engine has left STOPPED or a cell switch is closed (R384). -/
def Bay.forming (b : Bay) : Bool := allChans.any (fun c => b.engRuns c || b.switchClosed c)

/-- The mode in which an energised bay runs (R384). -/
def Bay.runMode (b : Bay) : Int :=
  if b.degrade ≠ 0 then Mode.degraded else if b.forming then Mode.forming else Mode.energized

/-! ## BAY.CMD (R383, R384, R389, R390, R404) -/

/-- The bits of BAY.CMD. -/
def cmdKey (n : Nat) : Key :=
  match n with
  | 0 => F.BAY_CMD_ATT_OK
  | 1 => F.BAY_CMD_CAL_DONE
  | 2 => F.BAY_CMD_CALIBRATE
  | 3 => F.BAY_CMD_HOLD
  | 4 => F.BAY_CMD_RESUME
  | 5 => F.BAY_CMD_SERVICE
  | 6 => F.BAY_CMD_EXIT_SVC
  | 7 => F.BAY_CMD_RECOVER
  | 8 => F.BAY_CMD_STOP
  | _ => F.BAY_CMD_ATT_REJ

/-- A cause of R387 has been left by its rule. -/
def Bay.causeLeft (b : Bay) (code : Nat) : Bool :=
  match code with
  | 1 => b.safe.resetSince && (List.range 7).all (fun k => !b.safe.stopLines.testBit k || b.lineOn k)
  | 2 => b.rd F.SAFE_STAT_MODE == 1 && b.safe.resetSince
  | 3 => b.cmdSlots.all (fun n => !(b.slotOf n).stopped && (b.slotOf n).lastRole == 3)
  | 4 => b.rd F.PWR_ENTRY_STAT_STATE == 0
  | 5 => b.rd F.PWR_ENTRY_STAT_STATE == 0
  | 6 => !b.flag F.THM_STAT_TSD
  | 7 => (b.role 0 == 3 || b.role 1 == 3) && b.modeSt.redRead
  | _ => true

/-- Every recorded cause has been left. -/
def Bay.causesLeft (b : Bay) : Bool :=
  (List.range 8).all (fun i => !bitOf (b.rd F.BAY_STOP_CAUSE_MASK) i || b.causeLeft (i + 1))

/-- Every present wale's reference is ready and no self-calibration runs (R384). -/
def Bay.calReady (b : Bay) : Bool :=
  (List.range 4).all (fun n => !b.walePresent n || (b.flag (refRdy n) && !b.calibrating n))

/-- Every present cartridge's quote has been read (R455). -/
def Bay.quotesRead (b : Bay) : Bool :=
  b.carts.all (fun x => b.flag (if x = 0 then F.TRU_ATT_STAT_READ_CA else F.TRU_ATT_STAT_READ_CB))

/-- Why the mode in force does not accept a command, if it does not. -/
def Bay.cmdRefusal (b : Bay) (n : Nat) : Option Int :=
  let m := b.mode
  let need := fun (ok : Bool) => if ok then none else some (4 : Int)
  match n with
  | 0 => need (m == Mode.attest && b.quotesRead && 1 ≤ b.rd F.TRU_STAT_PLANT_N)
  | 1 => need (m == Mode.calibrate && b.calReady)
  | 2 => need (m == Mode.standby)
  | 3 => need (m == Mode.energized || m == Mode.forming || m == Mode.degraded)
  | 4 => need (m == Mode.hold && !b.flag F.BAY_STAT_HOLD_RT)
  | 5 => need ((m == Mode.standby || m == Mode.energized || m == Mode.safeStop) && allChans.all (fun c => !b.engRuns c))
  | 6 => need (m == Mode.service)
  | 7 =>
    if m ≠ Mode.safeStop then some 4
    else if !b.flag F.BAY_STAT_CLR_ARMED then some 5
    else need b.causesLeft
  | 8 => none
  | _ => need (m == Mode.attest)

/-- A write of one bit of BAY.CMD (R383, R404): one command waits per frame; STOP and ATT_REJ replace it. -/
def Bay.bayCmd (b : Bay) (n : Nat) : Bay :=
  b.gated (cmdKey n) (fun b =>
    match b.cmdRefusal n with
    | some r => b.refuse (cmdKey n) r
    | none =>
      if b.modeSt.cmd.isSome && n < 8 then b.refuse (cmdKey n) 4
      else b.setModeSt { b.modeSt with cmd := some n })

/-- ATT_OK (R384). -/
def execAttOk (s : State) : Result := s.onBay (fun b => b.bayCmd 0)
/-- CAL_DONE (R384). -/
def execCalDone (s : State) : Result := s.onBay (fun b => b.bayCmd 1)
/-- CALIBRATE (R384). -/
def execCalibrate (s : State) : Result := s.onBay (fun b => b.bayCmd 2)
/-- HOLD (R195). -/
def execHold (s : State) : Result := s.onBay (fun b => b.bayCmd 3)
/-- RESUME (R195). -/
def execResume (s : State) : Result := s.onBay (fun b => b.bayCmd 4)
/-- SERVICE (R390). -/
def execService (s : State) : Result := s.onBay (fun b => b.bayCmd 5)
/-- EXIT_SVC (R390). -/
def execExitSvc (s : State) : Result := s.onBay (fun b => b.bayCmd 6)
/-- RECOVER (R389). -/
def execRecover (s : State) : Result := s.onBay (fun b => b.bayCmd 7)
/-- STOP (R387). -/
def execStop (s : State) : Result := s.onBay (fun b => b.bayCmd 8)
/-- ATT_REJ (R384). -/
def execAttRej (s : State) : Result := s.onBay (fun b => b.bayCmd 9)

/-- STOP_CAUSE_READ (R389). -/
def execStopCauseRead (s : State) : Result :=
  s.onBay (fun b => b.onlyIf (b.mode == Mode.safeStop) (fun b => b.setFlag F.BAY_STAT_CLR_ARMED true))

/-! ## What the entries do -/

/-- The mode changes at this edge (R383): event 240, PREV and the time of the change. -/
def Bay.setMode (b : Bay) (m : Int) : Bay :=
  let old := b.mode
  (((b.wr F.BAY_STAT_PREV old).wr F.BAY_STAT_MODE m).wr F.BAY_MODE_T b.now).raise 240 (old * 256 + m) 0

/-- Every channel ramps to zero within 2 ms, holds with cause 10 and opens by soft stop; a wale that stopped by itself keeps its switches until its first accepted frame (R388). -/
def Bay.stopChannels (b : Bay) : Bay :=
  b.each (allChans.filter (fun c => b.walePresent (waleOf c))) (fun b c =>
    let b := b.endSweepEarly c 6
    let b := if (b.waleSt (waleOf c)).stoppedAlone then b else b.quickStop c
    b.hold c 10)

/-- What a cause of R387 does (R388). -/
def Bay.stopEffects (b : Bay) : Bay := ((b.stopAllEngines 4).stopChannels).stopPresses.rtStop

/-- The causes that wait are recorded (R387). -/
def Bay.recordStops (b : Bay) : Bay :=
  let l := b.modeSt.stops
  l.foldl (fun b code => b.recordStop code) (b.setModeSt { b.modeSt with stops := [] })

/-- Entry to SAFE-STOP (R388, R389). From SERVICE the causes recorded there stay. -/
def Bay.enterSafeStop (b : Bay) : Bay :=
  let keep := b.mode = Mode.service
  let b := b.onlyIf (!keep) (fun b => (b.wr F.BAY_STOP_CAUSE_MASK 0).wr F.BAY_STOP_CAUSE_FIRST 0)
  let b := (b.setMode Mode.safeStop).setFlag F.BAY_STAT_CLR_ARMED false
  let b := b.recordStops.stopEffects
  b.setModeSt { b.modeSt with cmd := none, stops := [], rtBegin := false, rtResume := false, plannedDone := false, holdCmd := false }

/-- A cause of R387 in SERVICE (R390): its effects, recorded, SVC_STOP. -/
def Bay.serviceStop (b : Bay) : Bay :=
  let fresh := !b.flag F.BAY_STAT_SVC_STOP && !b.modeSt.svcFromStop
  let b := b.onlyIf fresh (fun b => (b.wr F.BAY_STOP_CAUSE_MASK 0).wr F.BAY_STOP_CAUSE_FIRST 0)
  (b.stopEffects).recordStops.setFlag F.BAY_STAT_SVC_STOP true

/-- Entry to QUARANTINE (R470, R471): engines, sweeps, channels, presses, the axis converter and the entry stop; the axes enter STO once the presses stand (`quarantineEdge`). -/
def Bay.enterQuarantine (b : Bay) : Bay :=
  let b := (b.setMode Mode.quarantine).enterCauses
  let b := ((b.stopAllEngines 4).stopChannels).stopPresses.rtStop
  let b := b.setPlant { b.plant with axConvOn := false }
  let st := b.entState
  let b := if st = Ent.precharging then b.entryOpens 1 else if st = Ent.closed then b.setPlant { b.plant with planned := true, t0 := b.now } else b
  b.setModeSt { b.modeSt with quarantine := false, cmd := none, stops := [], rtBegin := false, rtResume := false, plannedDone := false, holdCmd := false }

/-- In QUARANTINE all axes enter STO with cause 0x11 once the presses have stopped (R471). -/
def Bay.quarantineEdge (b : Bay) : Bay :=
  if b.mode = Mode.quarantine && (List.range 4).all (fun a => b.axState a != Ax.stopping) then
    b.each allAxes (fun b a => if b.axState a = Ax.sto then b else b.stoAxis a 17)
  else b

/-- Mode HOLD by command (R195): running engines pause, every channel holds with cause 2. -/
def Bay.holdByCommand (b : Bay) : Bay :=
  let b := b.each (allChans.filter (fun c => b.walePresent (waleOf c))) (fun b c =>
    let st := b.engState c
    if st = Es.running || st = Es.waiting || st = Es.halted then b.engPause c 2 true else b.hold c 2)
  b.setModeSt { b.modeSt with holdCmd := true }

/-- RESUME (R195): what the mode paused resumes, host targets act again. After a ride-through without AUTORES the channels leave cause 9 with it (R67). -/
def Bay.resumeByCommand (b : Bay) : Bay :=
  let b := b.each allChans (fun b c =>
    let b := if b.engState c = Es.paused then (if (b.engOf c).pausedByMode then b.engResume c 2 else b) else b.leave c 2
    b.leave c 9)
  b.setModeSt { b.modeSt with holdCmd := false }

/-- Leaving SAFE-STOP (R154, R389): cause 10 is left, the channels hold as programmed. -/
def Bay.leaveStop (b : Bay) : Bay :=
  b.each (allChans.filter (fun c => b.walePresent (waleOf c))) (fun b c => (b.leave c 10).hold c 1)

/-- What the exit from SERVICE ends (R257, R390): manual loops, axes in MODE 3, TIME.CTL.FREE. -/
def Bay.leaveService (b : Bay) : Bay :=
  let b := b.each allChans (fun b c => if b.flag (F.LPC_CFG_MAN c) then b.setFlag (F.LPC_CFG_MAN c) false else b)
  let b := b.each allAxes (fun b a =>
    let b := if b.flag (F.LPA_CFG_MAN a) then b.setFlag (F.LPA_CFG_MAN a) false else b
    if b.rd (F.AXS_CFG_MODE a) = 3 then b.stopAxis a else b)
  let b := b.setFlag F.TIME_CTL_FREE false
  (b.setFlag F.BAY_STAT_SVC_STOP false).setModeSt { b.modeSt with svcFromStop := false }

/-- Entry to ENERGIZED (R384, R319): the chopper test and those of the static lines fall due. -/
def Bay.enterEnergized (b : Bay) : Bay :=
  ((b.setMode Mode.energized).setModeSt { b.modeSt with chopDue := true, openFrame := false }).setSafe { b.safe with lineDue := 126 }

/-- Entry to STANDBY after a planned disconnect (R46, R382): the cell switches open. -/
def Bay.enterStandby (b : Bay) : Bay :=
  let b := b.each (allChans.filter b.switchClosed) (fun b c => b.softStop c)
  (b.setMode Mode.standby).setModeSt { b.modeSt with plannedDone := false, holdCmd := false }

/-- Go to the mode in which an energised bay runs. -/
def Bay.enterRunMode (b : Bay) (m : Int) : Bay := if m = Mode.energized then b.enterEnergized else b.setMode m

/-- ENERGIZED where the entry is CLOSED, else STANDBY (R389, R390); no line waits any more. -/
def Bay.enterIdle (b : Bay) : Bay :=
  let b := b.setSafe { b.safe with stopLines := 0 }
  if b.entState = Ent.closed then b.enterEnergized else b.setMode Mode.standby

/-! ## Power and boot (R384, R449, R452, R517) -/

/-- The register fields whose content lives in memory that keeps it without power: identity and slots, authorities, ENR_SEQ, bindings, the state of the FRAM rings. -/
def keptField (k : Key) : Bool :=
  match k.grp with
  | .bay => k.off = 0 || k.off = 4 || k.off = 12
  | .auth => true
  | .bind => true
  | .tru => k = F.TRU_STAT_PLANT_N || k = F.TRU_STAT_HOST_N || k = F.TRU_ENR_SEQ
  | .sec => (k.off = 4116 && k.lo = 16) || k.off = 4120
  | .thm => k = F.THM_STAT_NEXT
  | _ => false

/-- What the wales and slot M keep while only the control cartridges restart (R108, R117, R119, R120, R517): the stages, the range, the sums, factors and corrections with their marks, the section modulators, the EHM-1's state, the certificate. -/
def keptByWales (k : Key) : Bool :=
  match k.grp with
  | .chn => k.off = 4 || k.off = 8 || (0x10 ≤ k.off && k.off < 0x50) || (0x104 ≤ k.off && k.off < 0x180 && k != F.CHN_MEAS_STAT_NREF k.i)
  | .meas => k.off = 4 || k.off = 0x20 || k.off = 0x24
  | .pwr => k = F.PWR_X1_V || k = F.PWR_NODE_V || k = F.PWR_AXBUS_AXV
  | .sec => k = F.SEC_STAT_STATE k.i || k = F.SEC_BUS_V k.i || 4096 ≤ k.off
  | _ => false

/-- What stands at the figures of the order code and of the cartridges fitted (R2): the feeder budgets, and the overload budgets, full unless the wales have kept power. -/
def Bay.ownDefaults (b : Bay) (carts : Bool) : Bay :=
  let x := b.x1Rating
  let b := ((b.wr F.BAY_FEED_IMP x.2).wr F.BAY_FEED_EXP x.2).wr F.PWR_X1_OVL (fullBudget x / 1000000)
  let b := b.setPlant { b.plant with x1Budget := fullBudget x }
  b.each b.wales (fun b n =>
    let b := if carts then b else b.setWale n { b.waleSt n with budget := fullBudget (b.convRating n) }
    b.wr (F.SEC_OVL n) ((b.waleSt n).budget / 1000000))

/-- A contactor fault outlives a restart; one that has been read ends with the power, in which the contactor is replaced (R45; log entry 90). -/
def Bay.contactorFault (z b : Bay) (carts : Bool) : Bay :=
  if b.entState = Ent.fault && (carts || !b.plant.faultRead) then
    ((z.setEnt Ent.fault).wr F.PWR_ENTRY_STAT_CAUSE (b.rd F.PWR_ENTRY_STAT_CAUSE)).setPlant { z.plant with faultRead := b.plant.faultRead }
  else z

/-- The safety sets that the upsett channels keep show in their registers (R332, R333). -/
def Bay.showSets (b : Bay) : Bay :=
  let b := match b.safe.active with
    | some p => b.showSet p.bytes
    | none => b
  match b.safe.pend with
  | some p => ((b.setFlag F.SAFE_STAT_PEND_OK true).wr F.SAFE_PEND_ID (u32At p.bytes 4)).wr F.SAFE_PEND_CRC (u32At p.bytes 0xB0)
  | none => b

/-- The bay as BOOT finds it: everything at reset but what non-volatile memory keeps, and with `carts` only the control cartridges restarting, what the wales keep. Bay time goes on (DESIGN CHOICE, log entry 44). -/
def Bay.rebooted (b : Bay) (carts : Bool) : Bay :=
  let regs := b.regs.filter (fun p => keptField p.1 || (carts && keptByWales p.1))
  let t := b.trust
  let ready := (List.range 4).map (fun n => carts && (b.flag (refCtl n) || b.measSt.refKept.getD n false))
  let fresh : Bay := {}
  let safe : Safe := { pend := b.safe.pend, active := b.safe.active }
  let z : Bay :=
    { fresh with
      regs := regs, now := b.now, fram := if carts then b.fram else b.fram.map (fun p => (p.1, p.2.powerLost)), verMax := b.verMax, fresh := b.fresh, out := b.out,
      cellT := b.cellT, driver := if carts then b.driver else [], stage := if carts then b.stage else [],
      measCh := if carts then b.measCh else b.measCh.map (fun p => (p.1, { ({} : MeasCh) with openSince := some b.now })),
      measSt := { fresh.measSt with refKept := ready, certValue := b.measSt.certValue, cert := b.measSt.cert, precFrom := ceilTo 2500000 b.now, ovenSince := if carts then b.measSt.ovenSince else none },
      therm := { fresh.therm with log := b.therm.log, seq := b.therm.seq },
      safe := safe,
      plant := if carts then { fresh.plant with okSince := b.plant.okSince, nodeHigh := b.plant.nodeHigh, limit17 := b.plant.limit17 } else fresh.plant,
      wale := b.wale,
      weave := { fresh.weave with addr := b.weave.addr }, latch := b.latch,
      trust := { keys := t.keys, pend := t.pend, rkey := t.rkey, rkeyIn := t.rkeyIn, rkeyBy := t.rkeyBy, banks := t.banks, svnMin := t.svnMin, pref := t.pref, fits := t.fits } }
  let z := z.showSets.ownDefaults carts
  let z := z.contactorFault b carts
  { z with
    edge := { regs := z.regs, tsdLog := z.therm.log, safe := z.regs },
    ring := b.ring.map (fun p => (p.1, { ({} : Ring) with sealSeq := p.2.sealSeq, chain := p.2.chain, sealKey := p.2.sealKey })) }

/-- OFF (R384): nothing answers, nothing runs. -/
def Bay.powerOff (b : Bay) : Bay := (b.rebooted false).wr F.BAY_STAT_MODE 0

/-- The bay starts in BOOT (R384). While the control cartridges restart no safety line is energised, and wales that kept power see their safe-off pairs drop (R20, R98). -/
def Bay.startBoot (b : Bay) (carts : Bool) : Bay :=
  let old := b.mode
  let b := ((((b.rebooted carts).wr F.BAY_STAT_PREV old).wr F.BAY_STAT_MODE Mode.boot).wr F.BAY_MODE_T b.now).raise 240 (old * 256 + 1) 0
  b.onlyIf carts (fun b => b.each b.wales (fun b n => b.safeOffDrop n))

/-- POWER_UP (R384): OFF to BOOT once a control supply has been above 20 V for 100 ms. -/
def execPowerUp (s : State) : Result := s.onBay (fun b => b.onlyIf (b.mode == 0) (fun b => b.startBoot false))

/-- POWER_DOWN (R65, R384): both control supplies below 20 V for 20 ms; in ride-through the node auxiliary supply takes over. -/
def execPowerDown (s : State) : Result :=
  s.onBay (fun b =>
    if b.mode = 0 then b
    else if b.plant.rtOn then b.setPlant { b.plant with auxSupply := true }
    else b.setModeSt { b.modeSt with powerDown := true })

/-- CONTROL_SUPPLY_CHANGE (R520): input 0 X2A, 1 X2B; 0 restored, 1 outside its range, 2 disconnected. -/
def execControlSupplyChange (i : Fin 2) (what : Fin 3) (s : State) : Result :=
  s.onBay (fun b => if b.mode = 0 then b else (b.onlyIf (what.val == 0) (fun b => b.setPlant { b.plant with auxSupply := false })).raise 250 i.val what.val)

/-- Trust at boot (R451, R452, R470): secure elements, the records in MRAM, a record key that no present cartridge holds any more. A failure of one cartridge is its own; one in every cartridge is a cause of QUARANTINE. -/
def Bay.bootTrust (b : Bay) (se : Nat) : Bay :=
  let b := b.setTrust { b.trust with se := [se.testBit 0 && b.cPresent 0, se.testBit 1 && b.cPresent 1] }
  let b := (b.setFlag F.TRU_STAT_SE_CA_OK (b.trust.se.getD 0 false)).setFlag F.TRU_STAT_SE_CB_OK (b.trust.se.getD 1 false)
  let none_ := b.carts.all (fun x => !b.trust.se.getD x false)
  let bad := fun code => !b.carts.isEmpty && b.carts.all (fun x => b.modeSt.mramBad.contains (x, code))
  let b := if none_ then b.quarantineFor 1 else b.each (b.carts.filter (fun x => !b.trust.se.getD x false)) (fun b x => b.selfFault x 2)
  let b := if bad 2 then
      (b.each (List.range 8) (fun b s => (b.setTrust { b.trust with keys := b.trust.keys.put s [] }).showAuth s [] 0)).quarantineFor 2
    else b
  let b := b.onlyIf (b.trust.rkey != 0 && b.carts.all (fun x => !b.trust.rkeyIn.getD x false)) (fun b => b.quarantineFor 5)
  let b := if bad 3 then ({ b with verMax := [] }).quarantineFor 3 else b
  let b := b.each (b.carts.filter (fun x => (b.modeSt.mramBad.any (fun p => p.1 == x)) && !bad 2 && !bad 3)) (fun b x => b.selfFault x 2)
  b.showKey

/-- The certificate of an EHM-1 verifies (R463). -/
def Bay.certVerifies (b : Bay) (l : List Byte) (serial : Nat) : Bool :=
  let by_ := byteAt l 2
  l.length == 160 && u16At l 0 == 0x1302 && u64At l 8 == serial &&
    (if by_ = 0xFF then Config.aedcorOk l
     else by_ < 4 && b.flag (F.AUTH_ENROLLED by_) && bitOf (b.rd (F.AUTH_RIGHTS by_)) 2 &&
       Config.ecdsaOk (b.trust.keys.get [] by_) (l.take 0x40) ((l.drop 0x40).take 96))

/-- An EHM-1 is found in slot M, at its insertion or at boot (R127, R135, R463; log entry 91): its certificate is verified, event 230 where that fails; the sequence starts at entry 0. -/
def Bay.meterComes (b : Bay) (l : List Byte) (serial : Nat) : Bay :=
  let ok := b.certVerifies l serial
  let b := ((b.setFlag F.MEAS_STAT_PRESENT true).setFlag F.MEAS_STAT_CERT_OK ok).setFlag F.MEAS_STAT_CERT_DUE false
  let b := ((b.wr F.MEAS_CERT_ID (u32At l 4)).wr F.MEAS_CERT_DUE (u32At l 0x14)).wr F.MEAS_STAT_ENTRY 0
  let b := { b with measSt := { b.measSt with cur := none, done := none, post := none, cert := some (l, serial), certValue := [(u32At l 0x18 : Int), (u32At l 0x1C : Int)] } }
  b.onlyIf (!ok) (fun b => b.note 230)

/-- BOOT_COMPLETE (R330, R384, R452): measured boot, memory initialisation and the safety self-test are complete in every present EHC-2; an EHM-1 found in slot M is taken in. `se` names working secure elements, `upsett` the channels that passed. -/
def Bay.bootComplete (b : Bay) (se upsett : Nat) : Bay :=
  if b.mode ≠ Mode.boot || b.carts.isEmpty || b.modeSt.bootDone || !b.carts.all (fun x => b.flag (F.MEM_STAT_INIT_DONE x)) then b
  else
    let b := (b.each b.carts Bay.bootCart).bootTrust se
    let ok := fun x => b.cPresent x && upsett.testBit x
    let b := (b.setFlag F.SAFE_STAT_CHA_OK (ok 0)).setFlag F.SAFE_STAT_CHB_OK (ok 1)
    let b := b.setFlag F.SAFE_STAT_XLINK_OK (ok 0 && ok 1)
    let m : Int := if b.safe.active.isNone then 0 else if ok 0 && ok 1 then 1 else if ok 0 then 2 else if ok 1 then 3 else 0
    let b := b.wr F.SAFE_STAT_MODE m
    let b := b.onlyIf (b.mPresent && !b.flag F.MEAS_STAT_PRESENT) (fun b =>
      let c := b.measSt.cert.getD (Config.fittedCert, Config.fittedSerial)
      b.meterComes c.1 c.2)
    b.setModeSt { b.modeSt with bootDone := true, mramBad := [] }

/-- BOOT_COMPLETE (R384). -/
def execBootComplete (se upsett : BitVec 2) (s : State) : Result := s.onBay (fun b => b.bootComplete se.toNat upsett.toNat)

/-! ## The mode change at a frame edge (R383 to R385) -/

/-- The waiting command, judged again (R383): what it draws now if it no longer applies, else its number. -/
def Bay.takeCmd (b : Bay) : Bay × Option Nat :=
  match b.modeSt.cmd with
  | none => (b, none)
  | some n =>
    let b := b.setModeSt { b.modeSt with cmd := none }
    match b.cmdRefusal n with
    | some r => (b.refuse (cmdKey n) r, none)
    | none => if n = 8 then (b.stopFor 8, none) else if n = 9 then (b.quarantineFor 4, none) else (b, some n)

/-- Modes that a cause of R387 leaves for SAFE-STOP. -/
def stopsMode (m : Int) : Bool := 1 ≤ m && m ≤ 8

/-- What an energised bay does at an edge: ride-through or HOLD first, then DEGRADED, FORMING, ENERGIZED (R384, R385). -/
def Bay.runEdge (b : Bay) (cmd : Option Nat) : Bay :=
  let m := b.mode
  if b.modeSt.plannedDone then b.enterStandby
  else if b.modeSt.rtBegin || cmd = some 3 then
    let b := ((b.onlyIf (cmd == some 3) Bay.holdByCommand).setMode Mode.hold)
    b.setModeSt { b.modeSt with rtBegin := false }
  else if m = Mode.energized && cmd = some 5 then b.setMode Mode.service
  else
    let n := b.runMode
    if m = Mode.forming && n = Mode.energized && !b.modeSt.openFrame then b.setModeSt { b.modeSt with openFrame := true }
    else
      let b := b.setModeSt { b.modeSt with openFrame := false }
      if n = m then b else b.enterRunMode n

/-- HOLD at an edge (R384, R385): a ride-through that begins in it leaves the mode, one that ended with AUTORES or RESUME leaves it. -/
def Bay.holdEdge (b : Bay) (cmd : Option Nat) : Bay :=
  if b.modeSt.plannedDone then b.enterStandby
  else if b.modeSt.rtBegin then b.setModeSt { b.modeSt with rtBegin := false }
  else if b.modeSt.rtResume && !b.modeSt.holdCmd then
    let b := b.setModeSt { b.modeSt with rtResume := false }
    b.enterRunMode b.runMode
  else if cmd = some 4 then
    let b := b.resumeByCommand
    b.enterRunMode b.runMode
  else b

/-- The axis bus lets the bay energise (R384). -/
def Bay.axBusReady (b : Bay) : Bool := !b.xPresent || (4600 ≤ b.rd F.PWR_AXBUS_AXV && b.rd F.PWR_AXBUS_AXV ≤ 5000)

/-- The change that the mode in force makes at this edge when nothing more urgent does. -/
def Bay.modeStep (b : Bay) (cmd : Option Nat) : Bay :=
  match b.mode with
  | 1 => if b.modeSt.bootDone then (b.setMode Mode.attest).setModeSt { b.modeSt with bootDone := false } else b
  | 2 =>
    if cmd = some 0 then
      let b := (b.setMode Mode.calibrate).setFlag F.TRU_STAT_ATT_ACC true
      let b := b.setWindow none
      match b.carts with
      | [x] => b.svnKeep x
      | _ => b
    else b
  | 3 => if cmd = some 1 then b.setMode Mode.standby else b
  | 4 =>
    if cmd = some 5 then b.setMode Mode.service
    else if cmd = some 2 then b.setMode Mode.calibrate
    else if b.entState = Ent.closed && b.axBusReady then b.enterEnergized
    else b
  | 7 => b.holdEdge cmd
  | 9 =>
    if cmd = some 7 then (b.leaveStop.enterIdle).setFlag F.BAY_STAT_CLR_ARMED false
    else if cmd = some 5 then (b.leaveStop.setMode Mode.service).setModeSt { b.modeSt with svcFromStop := true }
    else b
  | 10 =>
    if b.modeSt.restart then b.leaveService.startBoot true
    else if cmd = some 6 then
      let stopped := (b.modeSt.svcFromStop || b.flag F.BAY_STAT_SVC_STOP) &&
        (List.range 7).any (fun i => bitOf (b.rd F.BAY_STOP_CAUSE_MASK) i && !b.causeLeft (i + 1))
      let b := b.leaveService
      if stopped then b.enterSafeStop else b.leaveStop.enterIdle
    else b
  | 11 => if b.modeSt.restart then b.startBoot true else b
  | 0 => b
  | _ => b.runEdge cmd

/-- The mode at a frame edge (R383 to R385). The node auxiliary supply serves as long as the node is held (R65; log entry 84). -/
def Bay.modeEdge (b : Bay) : Bay :=
  let b := b.wr F.BAY_STAT_DEG b.degrade
  let r := b.takeCmd
  let b := r.1
  if b.modeSt.powerDown || (b.plant.auxSupply && !b.plant.rtOn && b.entState != Ent.closed) then b.powerOff
  else if b.modeSt.quarantine && b.mode ≠ Mode.quarantine then
    (b.onlyIf (b.mode == Mode.service) Bay.leaveService).enterQuarantine
  else if !b.modeSt.stops.isEmpty && stopsMode b.mode then b.enterSafeStop
  else if !b.modeSt.stops.isEmpty && b.mode = Mode.service then (b.serviceStop).modeStep r.2
  else b.modeStep r.2

end Sys2Proof.Machine
end

