-- ==== Sys2Proof/Machine/TimeEv.lean ====
section
/-! DEFINITION. The event log as readers see it, time marks, and the discipline of bay time (R394 to R397, R400 to R402, R405, R421, R422). -/

namespace Sys2Proof.Machine

/-- Replace what the Weave holds. -/
def Bay.setWeave (b : Bay) (w : Weave) : Bay := { b with weave := w }

/-- This stake is the active rim. -/
def Bay.activeRim (b : Bay) : Bool := b.rd F.WVE_STAT_RIM == 1

/-- This stake serves Rim sessions: as the active rim (R424), or as a fabric of one stake while it has no address and no rim role (R510; log entry 77). -/
def Bay.servesRim (b : Bay) : Bool := b.activeRim || (b.rd F.WVE_RIM_CFG_ROLE == 0 && !b.flag F.WVE_STAT_BOUND)

/-! ## Ports and routes (R412, R417) -/

/-- A port's hidden state. -/
def Bay.portOf (b : Bay) (p : Nat) : Port := b.weave.ports.get {} p
def Bay.setPort (b : Bay) (p : Nat) (x : Port) : Bay := b.setWeave { b.weave with ports := b.weave.ports.put p x }

/-- The state field of a port (R434): 0 down, 1 handshake, 2 up, 3 to 5 refused. -/
def portKey (p : Nat) : Key :=
  match p with
  | 0 => F.WVE_PORT_P0
  | 1 => F.WVE_PORT_P1
  | 2 => F.WVE_PORT_P2
  | 3 => F.WVE_PORT_P3
  | 4 => F.WVE_PORT_P4
  | _ => F.WVE_PORT_P5

/-- The plane of a port. -/
def portPlane (p : Nat) : Nat := p / 3

/-- The cartridge of a port is fitted and the bay powered. -/
def Bay.portFitted (b : Bay) (p : Nat) : Bool := b.mode != 0 && b.cPresent (portPlane p)

/-- A link is up. -/
def Bay.linkUp (b : Bay) (p : Nat) : Bool := b.rd (portKey p) == 2

/-- Change a port's state; its event 200 to 205 (R407, R409, R418). -/
def Bay.setLink (b : Bay) (p : Nat) (st : Int) : Bay := if b.rd (portKey p) = st then b else (b.wr (portKey p) st).note (200 + p)

/-- The ports that are up. -/
def Bay.upPorts (b : Bay) : List Nat := (List.range 6).filter b.linkUp

/-- This stake's address. -/
def Bay.node (b : Bay) : Nat := b.rdN F.WVE_STAT_NODE

/-- This stake has an address. -/
def Bay.bound (b : Bay) : Bool := b.flag F.WVE_STAT_BOUND

/-- The routing register words of a plane. -/
def rtKey (plane w : Nat) : Key := if plane = 0 then F.RTA w else ⟨.rtb, w, 0, 0⟩

/-- The routing entry for a destination on a plane. -/
def Bay.route (b : Bay) (plane d : Nat) : Nat := b.rdN (rtKey plane (d / 2)) / 65536 ^ (d % 2) % 65536

/-- A stake can be reached on a plane. -/
def Bay.reach (b : Bay) (plane d : Nat) : Bool := (b.route plane d).testBit 15

/-- The ports by which a frame for `dst` leaves, `skip` the one it arrived on: every link that is up for a flood, else on each plane the port that the routing table names (R412, R417). -/
def Bay.txPorts (b : Bay) (dst : Nat) (skip : Option Nat) : List Nat :=
  b.upPorts.filter (fun p => skip != some p && (dst == 0xFF || (b.reach (portPlane p) dst && b.route (portPlane p) dst % 4 == p % 3)))

/-- A frame goes out of these ports: their counters advance and their links are not idle (R410, R411). -/
def Bay.countTx (b : Bay) (ps : List Nat) : Bay :=
  b.setWeave { b.weave with ports := ps.foldl (fun t p =>
    let x : Port := t.get {} p
    t.put p { x with txCtr := x.txCtr + 1, lastTx := b.now }) b.weave.ports }

/-- A frame of this stake goes out on both planes. -/
def Bay.sendWeave (b : Bay) (dst : Nat) (kind : String) (words : List Int) : Bay := (b.countTx (b.txPorts dst none)).send (.weave kind words)

/-! ## The event log (R392 to R397) -/

/-- The 16 bytes of an entry (R392). -/
def EvEntry.bytes (e : EvEntry) : List Byte :=
  leBytes 8 e.time ++ leBytes 1 e.src ++ leBytes 1 (e.prio * 32 + e.sub) ++ leBytes 2 e.detail ++ leBytes 4 e.value

/-- A stream's hidden positions. -/
def Bay.streamOf (b : Bay) (n : Nat) : Stream := b.weave.streams.get {} n
def Bay.setStream (b : Bay) (n : Nat) (x : Stream) : Bay := b.setWeave { b.weave with streams := b.weave.streams.put n x }

/-- One item enters stream 68 and goes to every Rim session of a stake that serves them; without credit it is counted and not notified (R397, R426, R429). In QUARANTINE a stake originates no data class (R471). -/
def Bay.notify (b : Bay) (item : List Byte) : Bay :=
  let x := b.streamOf 68
  if 1048576 < x.wr - x.rel + 16 then b.bumpSat (F.SQ_STAT_DROP 68) 1 65535
  else
    let b := b.setWeave { b.weave with
      streams := b.weave.streams.put 68 { x with wr := x.wr + 16 }, q68 := b.weave.q68 ++ [item], notifyAt := b.now }
    let ws := (words32 4 item).map Int.ofNat
    if b.servesRim then
      b.each ((List.range 4).filter (fun i => (b.weave.sessions.getD i none).isSome)) (fun b i => b.send (.rim i 0 0 ws))
    else if b.mode = Mode.quarantine then b
    else b.sendWeave (b.rdN F.WVE_STAT_RIM_NODE) "EVENT" ws

/-- EVENT_RELEASE (R394): entries whose TIME lies 80 µs back are released, and those routed to the notification go out in order (R393). -/
def Bay.releaseEvents (b : Bay) : Bay :=
  let due := b.log.filter (fun e => !e.released && e.time + 80 * usTicks ≤ b.now)
  let b := { b with log := b.log.map (fun e => if e.time + 80 * usTicks ≤ b.now then { e with released := true } else e) }
  (due.filter (fun e => b.rd (F.SRC_CFG_NOTE e.src) != 0)).foldl (fun b e => b.notify e.bytes) b

/-- TIME_MARK (R397): nothing sent for 10 ms, and every entry that is due has been released, so that none sent later has an earlier TIME. -/
def Bay.timeMark (b : Bay) : Bay :=
  if b.now - b.weave.notifyAt < 10 * msTicks || b.log.any (fun e => !e.released && e.time + 80 * usTicks ≤ b.now) then b
  else b.notify ((⟨b.now - 80 * usTicks, 255, 0, 0, 0, 0, true⟩ : EvEntry).bytes)

/-- TIME_MARK (R397). -/
def execTimeMark (s : State) : Result := s.onBay Bay.timeMark

/-- The released entries in order. -/
def Bay.released (b : Bay) : List EvEntry := b.log.filter (·.released)

/-- A read of EVT.RD_VAL removes the oldest released entry (R405); an overflow episode ends with a free place (R395). -/
def Bay.readEvent (b : Bay) : Bay :=
  match b.released with
  | [] => b
  | e :: _ =>
    let l := removeEv e b.log
    { b with log := l, episode := b.episode && !decide (l.length < logSize - 1) }

/-- RD_VAL_READ (R405). -/
def execRdValRead (s : State) : Result := s.onBay Bay.readEvent

/-- LOST_CLR (R405). -/
def execLostClr (s : State) : Result := s.onBay (fun b => b.gated F.EVT_CTL_LOST_CLR (fun b => b.wr F.EVT_STAT_LOST 0))

/-! ## Time discipline (R34, R400 to R402, R421, R422) -/

/-- Set LOCK; each change raises event 247 (R401). -/
def Bay.setLock (b : Bay) (v : Bool) : Bay := if b.flag F.TIME_STAT_LOCK = v then b else (b.setFlag F.TIME_STAT_LOCK v).note 247

/-- Set FREE_RUN; each change raises event 247 (R34, R402). -/
def Bay.setFree (b : Bay) (v : Bool) : Bay := if b.flag F.TIME_STAT_FREE_RUN = v then b else (b.setFlag F.TIME_STAT_FREE_RUN v).note 247

/-- LOCK from a measured offset in ns (R401). -/
def Bay.lockBy (b : Bay) (off : Int) : Bay :=
  let w := b.weave
  if 75 < off.natAbs then (b.setWeave { w with lockFrom := none }).setLock false
  else if 60 < off.natAbs then b.setWeave { w with lockFrom := none }
  else
    let t := w.lockFrom.getD b.now
    let b := b.setWeave { w with lockFrom := some t }
    b.onlyIf (10 * secTicks ≤ b.now - t) (fun b => b.setLock true)

/-- Steering after an offset (R34, R401, R402): the PI law is not stated beyond its time constant, so its output is a free value (log entry 45); above 10 ms the bay heads for the ±20 ppm limit. The slew stays within 0.1 ppm/s. -/
def Bay.steerBy (b : Bay) (off : Int) (full : Bool) : Bay :=
  let r := b.free
  let b := r.2
  let want : Rat := if full then (if 0 < off then -20000 else 20000) else ((clampI (-20000) 20000 r.1 : Int) : Rat)
  let dt : Rat := mkRat ((b.now - b.weave.timeAt.getD b.now : Nat) : Int) secTicks
  let lim : Rat := 100 * dt
  let v := max (b.weave.steer - lim) (min (b.weave.steer + lim) want)
  (b.setWeave { b.weave with steer := v }).wr F.TIME_STEER v.floor

/-- The one step of bay time (R402): before any engine has left STOPPED; event 248 with the step in µs, precision windows restart. -/
def Bay.stepTime (b : Bay) (off : Int) : Bay :=
  let us := -(off.tdiv 1000)
  let now := ((b.now : Int) - off.tdiv 8).toNat
  let b := ({ b with now := now, measSt := { b.measSt with precFrom := ceilTo b.precTicks now } })
  (((b.setFlag F.TIME_STAT_STEPPED true).wr F.TIME_STEP_LAST us).wr F.TIME_OFFSET 0).raise 248 0 us

/-- A cell has started since BOOT: some ring has taken an entry (R160, R402). -/
def Bay.cellHasStarted (b : Bay) : Bool := b.ring.any (fun p => p.2.pos != 0 || !p.2.slots.isEmpty)

/-- What the bay does with an offset from its master, in ns (R401, R402). -/
def Bay.discipline (b : Bay) (off : Int) : Bay :=
  let b := b.wr F.TIME_OFFSET (clampI (-2147483648) 2147483647 off)
  if 1000000 < off.natAbs && !b.modeSt.engineLeft && !b.cellHasStarted && !b.flag F.TIME_STAT_STEPPED && Mode.attest ≤ b.mode then
    (b.stepTime off).setWeave { b.weave with timeAt := some ((b.now : Int) - off.tdiv 8).toNat, lockFrom := none }
  else
    let far := 10000000 < off.natAbs
    let b := (b.lockBy off).steerBy off (far || (b.flag F.TIME_STAT_FREE_RUN && 1000000 ≤ off.natAbs))
    let b := if far then b.setFree true else if off.natAbs < 1000000 then b.setFree false else b
    b.setWeave { b.weave with timeAt := some b.now }

/-- TIME.CTL.FREE holds the bay apart from its master (R402). -/
def Bay.ignoresMaster (b : Bay) : Bool := b.flag F.TIME_CTL_FREE && b.mode == Mode.service

/-- The delay of the link on a port in ns, the mean of the last 16 measurements, rounded down; without one nothing is added (R421; log entry 45). -/
def Bay.linkDelay (b : Bay) (p : Nat) : Int :=
  let l := (b.portOf p).delays
  if l.isEmpty then 0 else l.foldl (· + ·) 0 / l.length

/-- A TIME message (R421): the offset of its plane, its correction with the delay of the link it arrived on; plane A's counts while one has come within 10 ms, else plane B's. -/
def Bay.timeMessage (b : Bay) (m : TimeIn) : Bay :=
  if b.mode = 0 || b.activeRim || b.ignoresMaster then b
  else
    let off := (b.now : Int) * 8 - m.origin - (m.corr + b.linkDelay (3 * m.plane.val + m.port.val))
    let b := b.setWeave { b.weave with timeIn := b.weave.timeIn.set m.plane.val (some (off, b.now)) }
    let b := ((b.wr F.TIME_STAT_MASTER m.master.val).wr F.TIME_STAT_SRC (if m.ptp then 2 else 1)).setFlag F.TIME_STAT_EPOCH_TAI m.ptp
    let b := b.wr F.TIME_UTC_OFS (if m.ptp then (m.utc.toNat : Int) else 0)
    match b.weave.timeIn.getD 0 none with
    | some (a, t) => if m.plane.val = 1 && b.now - t ≤ 10 * msTicks then b.setWeave { b.weave with timeAt := some b.now } else b.discipline (if m.plane.val = 0 then a else off)
    | none => b.discipline off

/-- TIME_MESSAGE (R421). -/
def execTimeMessage (m : TimeIn) (s : State) : Result := s.onBay (fun b => b.timeMessage m)

/-- LOCK_TIMEOUT (R401): no time message for 2 ms. -/
def execLockTimeout (s : State) : Result :=
  s.onBay (fun b =>
    match b.weave.timeAt with
    | some t => b.onlyIf (2 * msTicks ≤ b.now - t && !b.activeRim) (fun b => (b.setWeave { b.weave with lockFrom := none }).setLock false)
    | none => b)

/-- FREE_RUN (R401): no time message for 1 s; the last steering value is held. -/
def execFreeRun (s : State) : Result :=
  s.onBay (fun b =>
    match b.weave.timeAt with
    | some t => b.onlyIf (secTicks ≤ b.now - t && !b.activeRim) (fun b => b.setFree true)
    | none => b)

/-- PTP_MESSAGE (R400, R422): the active rim follows the grandmaster; `off` in ns. -/
def execPtpMessage (off : Int) (utc : BitVec 8) (s : State) : Result :=
  s.onBay (fun b =>
    if b.activeRim && b.flag F.WVE_PTP_CFG_EN && !b.ignoresMaster then
      let b := ((b.wr F.TIME_STAT_SRC 2).setFlag F.TIME_STAT_EPOCH_TAI true).wr F.TIME_UTC_OFS utc.toNat
      let b := b.discipline off
      b.setWeave { b.weave with ptpAt := some b.now }
    else b)

/-- PTP_LOSS (R422): 10 s without a PTP message; the rim holds its steering and stays time master. -/
def execPtpLoss (s : State) : Result :=
  s.onBay (fun b =>
    match b.weave.ptpAt with
    | some t => b.onlyIf (b.activeRim && b.flag F.WVE_PTP_CFG_EN && 10 * secTicks ≤ b.now - t) (fun b => b.setFree true)
    | none => b)

end Sys2Proof.Machine
end

