-- ==== Sys2Proof/Machine/Can.lean ====
section
/-! DEFINITION. The two CAN FD controllers (spec chapter 18): reception, sending by class, error counting and bus-off, identifier clashes and rate detection. Object o of controller k is number 128 k + o. -/

namespace Sys2Proof.Machine

def Bay.canOf (b : Bay) (k : Nat) : Can := b.can.get {} k
def Bay.setCan (b : Bay) (k : Nat) (x : Can) : Bay := { b with can := b.can.put k x }

/-- The number of object o of controller k. -/
def objNo (k o : Nat) : Nat := 128 * k + o

/-- The cartridge that drives the buses, 2 for none (R436). -/
def Bay.canOwner (b : Bay) : Nat := if b.role 0 == 3 then 0 else if b.role 1 == 3 then 1 else 2

/-- The edge at which a result stamped now enters the message memories (R436). -/
def canEdgeOf (t : Nat) : Nat := (t / frameTicks + 2) * frameTicks

/-- A result on its way. -/
def Bay.canPost (b : Bay) (k : Nat) (r : CanRes) : Bay :=
  let x := b.canOf k
  b.setCan k { x with due := x.due ++ [(canEdgeOf b.now, r)] }

/-- Bytes that a DLC stands for (R435). -/
def dlcLen (fdf : Bool) (dlc : Nat) : Nat :=
  if dlc ≤ 8 then dlc else if fdf then [12, 16, 20, 24, 32, 48, 64].getD (dlc - 9) 64 else 8

/-- The identifier bits that count: 29, or 11 of a base identifier (R448). -/
def idBits (ide : Bool) (v : Nat) : Nat := if ide then v % 536870912 else v % 2048

/-- The identifier of an object, with IDE. -/
def Bay.objId (b : Bay) (k o : Nat) : Bool × Nat :=
  let ide := b.flag (F.OBJ_CFG_IDE (objNo k o))
  (ide, idBits ide (b.rdN (F.OBJ_ID_VAL (objNo k o))))

/-- The key of data word w of an object. -/
def objWord (n w : Nat) : Key := ⟨.cfdObj, n, 64 + 4 * w, 0⟩

/-- The 64 data bytes of an object. -/
def Bay.objData (b : Bay) (n : Nat) : List Byte :=
  (List.range 16).foldl (fun l w => l ++ leBytes 4 (b.rd (objWord n w))) []

/-- Set the data words of an object. -/
def Bay.setObjData (b : Bay) (n : Nat) (d : List Byte) : Bay :=
  b.each (List.range 16) (fun b w => b.wr (objWord n w) (u32At d (4 * w)))

/-- An object is pending in the controller (R442). -/
def Can.sendOf (x : Can) (o : Nat) : Option CanSend := x.sends.find? (fun s => s.obj == o)

/-- Take an object out of the sends. -/
def Can.drop (x : Can) (o : Nat) : Can := { x with sends := x.sends.filter (fun s => s.obj != o) }

/-- Change the sends of one object. -/
def Can.onSend (x : Can) (o : Nat) (f : CanSend → CanSend) : Can :=
  { x with sends := x.sends.map (fun s => if s.obj = o then f s else s) }

/-! ## Errors (R444 to R446) -/

/-- A state of the counters (R444): 0 error-active, 1 error-passive, 2 bus-off. -/
def canStateOf (old tec rec_ : Int) : Int := if old = 2 then 2 else if 255 < tec then 2 else if 127 < tec || 127 < rec_ then 1 else 0

/-- A pending object fails: timely ones raise event 222 + k (R443). -/
def Bay.canFail (b : Bay) (k o : Nat) (cause : Int) : Bay :=
  let b := (b.setCan k ((b.canOf k).drop o)).canPost k (.fail o cause)
  if b.flag (F.OBJ_CFG_CLASS (objNo k o)) then b.note (222 + k) else b

/-- Bus-off (R446): timely objects fail at once, record objects stay pending; event 218 + k. -/
def Bay.canBusOff (b : Bay) (k : Nat) : Bay :=
  let b := b.note (218 + k)
  let b := b.setCan k { b.canOf k with rdyAt := none }
  b.each ((b.canOf k).sends.map (·.obj)) (fun b o => if b.flag (F.OBJ_CFG_CLASS (objNo k o)) then b.canFail k o 3 else b)

/-- New counter values of the controller (R444): a change of state raises event 216 + k with the new STATE. -/
def Bay.canCount (b : Bay) (k : Nat) (tec rec_ : Int) : Bay :=
  let x := b.canOf k
  let st := canStateOf x.state tec rec_
  let b := (b.setCan k { x with tec := min 511 tec, rec_ := min 511 rec_, state := st }).canPost k (.counters (min 511 tec) (min 511 rec_) st)
  if st = x.state then b
  else
    let b := b.raiseD (216 + k) st
    if st = 2 then b.canBusOff k else b

/-- The counter of an error type, with its top (R448). -/
def canErrKey (k : Nat) : CanErrType → Key × Int
  | .bit => (F.CFD_ERR_CNT_BIT k, 255)
  | .stuff => (F.CFD_ERR_CNT_STUFF k, 255)
  | .crc => (F.CFD_ERR_CNT_CRC k, 255)
  | .form => (F.CFD_ERR_CNT_FORM k, 15)
  | .ack => (F.CFD_ERR_CNT_ACK k, 15)

/-- An identifier clash (R445): every send object with the identifier is suspended; event 220 + k. -/
def Bay.canClash (b : Bay) (k : Nat) (ide : Bool) (id : Nat) : Bay :=
  let objs := (List.range 128).filter (fun o => b.flag (F.OBJ_CFG_DIR (objNo k o)) && b.flag (F.OBJ_CFG_EN (objNo k o)) && b.objId k o == (ide, id))
  let x := b.canOf k
  let b := (b.setCan k { x with susp := x.susp ++ objs.filter (fun o => !x.susp.contains o) }).canPost k (.clash ide id)
  let d := b.free
  d.2.raise (220 + k) d.1 id

/-- A bit error of the controller's own frame after the arbitration field counts against its identifier: three within 1 s of the first are a clash (R445). -/
def Bay.canHit (b : Bay) (k o : Nat) : Bay :=
  let i := b.objId k o
  let x := b.canOf k
  let rest := x.hits.filter (fun h => !(h.ide == i.1 && h.id == i.2))
  let old := match x.hits.find? (fun h => h.ide == i.1 && h.id == i.2) with
    | some h => if b.now ≤ h.t0 + secTicks then h else { ide := i.1, id := i.2, t0 := b.now, n := 0 }
    | none => { ide := i.1, id := i.2, t0 := b.now, n := 0 }
  if 3 ≤ old.n + 1 then (b.setCan k { x with hits := rest }).canClash k i.1 i.2
  else b.setCan k { x with hits := rest ++ [{ old with n := old.n + 1 }] }

/-! ## Rate detection (R439) -/

/-- Nominal bit times of the candidates, in 10 ns. -/
def nomPeriods : List Nat := [100, 200, 400, 800]
/-- Data bit times of the candidates, in 10 ns. -/
def dataPeriods : List Nat := [20, 25, 50, 100]

/-- Time quanta a bit time of `p` can have with an 80 % sample point in the ranges of NBT. -/
def nomQuanta (p : Nat) : List Nat := (List.range 321).filter (fun q => 1 ≤ q && p % q == 0 && q % 5 == 0 && p / q ≤ 511)

/-- Time quanta a data bit time of `p` can have with a 75 % sample point in the ranges of DBT; where none divides it, all of 10 ns (log entry 48). -/
def dataQuanta (p : Nat) : List Nat :=
  match (List.range 87).filter (fun q => 4 ≤ q && p % q == 0 && q % 4 == 0 && p / q ≤ 31) with
  | [] => [p]
  | l => l

/-- Write NBT for a candidate: the rate and the sample point are R439's, how they are made up and NSJW are free (log entry 48). -/
def Bay.writeNom (b : Bay) (k cand : Nat) : Bay :=
  let p := nomPeriods.getD cand 100
  let l := nomQuanta p
  let f := b.free
  let g := f.2.free
  let q := l.getD (f.1 % (l.length : Int)).toNat 100
  let seg2 := q / 5
  let b := g.2.wr (F.CFD_NBT_NBRP k) ((p / q : Nat) : Int)
  let b := b.wr (F.CFD_NBT_NTSEG2 k) seg2
  let b := b.wr (F.CFD_NBT_NTSEG1 k) ((q - 1 - seg2 : Nat) : Int)
  b.wr (F.CFD_NBT_NSJW k) (1 + g.1 % (seg2 : Int))

/-- Write DBT for a candidate: as `writeNom`. -/
def Bay.writeData (b : Bay) (k cand : Nat) : Bay :=
  let p := dataPeriods.getD cand 20
  let l := dataQuanta p
  let f := b.free
  let g := f.2.free
  let h := g.2.free
  let q := l.getD (f.1 % (l.length : Int)).toNat 20
  let seg2 := if q % 4 = 0 then q / 4 else q / 4 + (g.1 % 2).toNat
  let b := h.2.wr (F.CFD_DBT_DBRP k) ((p / q : Nat) : Int)
  let b := b.wr (F.CFD_DBT_DTSEG2 k) seg2
  let b := b.wr (F.CFD_DBT_DTSEG1 k) ((q - 1 - seg2 : Nat) : Int)
  b.wr (F.CFD_DBT_DSJW k) (1 + h.1 % (seg2 : Int))

/-- Rate detection begins at the first nominal candidate. -/
def Bay.detectStart (b : Bay) (k : Nat) : Bay :=
  let b := b.setCan k { b.canOf k with good := 0, brsSeen := false, heardAt := b.now }
  let b := (b.wr (F.CFD_AUTO_STAT_CAND k) 0).wr (F.CFD_AUTO_STAT_CYCLES k) 0
  (b.wr (F.CFD_AUTO_STAT_DFOUND k) 0).wr (F.CFD_AUTO_STAT_DONE k) 0

/-- Detection runs: mode 3 in force and not DONE. -/
def Bay.detecting (b : Bay) (k : Nat) : Bool := (b.canOf k).mode == 3 && !b.flag (F.CFD_AUTO_STAT_DONE k)

/-- The data candidates are on trial: candidates 4 to 7 (log entry 48). -/
def Bay.dataPhase (b : Bay) (k : Nat) : Bool := 4 ≤ b.rd (F.CFD_AUTO_STAT_CAND k)

/-- The next candidate of the phase; a pass that ends is counted. -/
def Bay.nextCand (b : Bay) (k : Nat) : Bay :=
  let c := b.rd (F.CFD_AUTO_STAT_CAND k)
  let b := b.setCan k { b.canOf k with good := 0, heardAt := b.now }
  if c % 4 = 3 then (b.wr (F.CFD_AUTO_STAT_CAND k) (c - 3)).bumpSat (F.CFD_AUTO_STAT_CYCLES k) 1 255
  else b.wr (F.CFD_AUTO_STAT_CAND k) (c + 1)

/-- Detection ends: DONE and event 216 + k with DETAIL 0x0100. -/
def Bay.detectDone (b : Bay) (k : Nat) : Bay := (b.wr (F.CFD_AUTO_STAT_DONE k) 1).raiseD (216 + k) 0x0100

/-- A correct frame at the candidate on trial: four in a row accept it. In the data phase only frames with BRS count. -/
def Bay.detectFrame (b : Bay) (k : Nat) (brs : Bool) : Bay :=
  let x := { b.canOf k with heardAt := b.now }
  let cand := b.rdN (F.CFD_AUTO_STAT_CAND k)
  if b.dataPhase k then
    if !brs then b
    else if x.good + 1 < 4 then b.setCan k { x with good := x.good + 1, brsSeen := true }
    else ((b.writeData k (cand - 4)).wr (F.CFD_AUTO_STAT_DFOUND k) 1).detectDone k
  else if x.good + 1 < 4 then b.setCan k { x with good := x.good + 1 }
  else ((b.setCan k { x with good := 0, brsSeen := false, dataAt := b.now }).writeNom k cand).wr (F.CFD_AUTO_STAT_CAND k) 4

/-! ## Frames (R441 to R443) -/

/-- REC after a reception without error, as ISO 11898-1 has it (PRESUMED, log entry 47). -/
def recGood (r : Int) : Int := if r = 0 then 0 else if r ≤ 127 then r - 1 else 127

/-- The enabled receive object a frame matches (R441). -/
def Bay.matching (b : Bay) (k : Nat) (f : CanFrame) : Option Nat :=
  (b.canOf k).enabled.find? (fun o => !b.flag (F.OBJ_CFG_DIR (objNo k o)) && b.objId k o == (f.ide, idBits f.ide f.id.toNat))

/-- A frame as the controller that drives the bus receives it. -/
def Bay.canStore (b : Bay) (k : Nat) (f : CanFrame) : Bay :=
  let b := if (b.canOf k).mode = 1 then b.send (.canAck k) else b
  let b := b.canCount k (b.canOf k).tec (recGood (b.canOf k).rec_)
  if f.remote then b.canPost k .unmatched
  else match b.matching k f with
    | none => b.canPost k .unmatched
    | some o =>
      let d := f.data.take (dlcLen f.fdf f.dlc.toNat)
      b.canPost k (.store o f.dlc.toNat f.fdf f.brs f.esi (b.now - f.ago.toNat) (d ++ List.replicate (64 - d.length) 0))

/-- CAN_FRAME_RECEIVE (R436, R439, R441): stored, discarded and counted, or judged by rate detection. A frame that one controller alone received is counted. -/
def execCanFrameReceive (k : Fin 2) (f : CanFrame) (s : State) : Result :=
  s.onBay (fun b =>
    let x := b.canOf k
    if x.mode = 0 || x.state = 2 then b
    else if b.detecting k then b.onlyIf f.active (fun b => b.detectFrame k f.brs)
    else
      let b := b.onlyIf (f.active != f.standby && b.cPresent 0 && b.cPresent 1) (fun b => b.canPost k .diff)
      b.onlyIf f.active (fun b => b.canStore k f))

/-- The place of an object in the order of arbitration (R442): the 11 most significant bits, base before extended, the rest of the identifier, the number. -/
def Bay.arbKey (b : Bay) (k o : Nat) : Nat :=
  let i := b.objId k o
  let top := if i.1 then i.2 / 262144 else i.2
  let low := if i.1 then i.2 % 262144 else 0
  ((top * 2 + (if i.1 then 1 else 0)) * 262144 + low) * 128 + o

/-- An object takes part in arbitration: pending since `t`, enabled and not suspended (R440, R442, R445). -/
def Can.contends (x : Can) (t : Nat) (s : CanSend) : Bool := s.at_ ≤ t && x.enabled.contains s.obj && !x.susp.contains s.obj

/-- The object whose frame starts at bay time `t` (R442). -/
def Bay.arbFirst (b : Bay) (k t : Nat) : Option Nat :=
  let x := b.canOf k
  (x.sends.filter (x.contends t)).foldl (fun m s =>
    match m with
    | none => some s.obj
    | some o => if b.arbKey k s.obj < b.arbKey k o then some s.obj else some o) none

/-- An attempt that was not won or not completed (R437, R443): timely objects fail for an error, no acknowledgment or a truncated frame; one whose ABORT or OBJo_TMO waited ends now. -/
def Bay.canMissed (b : Bay) (k : Nat) (s : CanSend) (what : CanOutcome) : Bay :=
  let cause : Int := match what with
    | .error => 1
    | .noAck => 2
    | .truncated => 5
    | _ => 0
  let timely := b.flag (F.OBJ_CFG_CLASS (objNo k s.obj))
  if s.late then b.canFail k s.obj 4
  else if timely && cause != 0 then b.canFail k s.obj cause
  else if s.abort then b.canFail k s.obj 6
  else b

/-- CAN_TX_DONE (R443): the attempt of object o, whose frame started `ago` ticks back, has ended. Only the object first in arbitration then can have been sent (R442). -/
def execCanTxDone (k : Fin 2) (o : Fin 128) (ago : BitVec 24) (what : CanOutcome) (s : State) : Result :=
  s.onBay (fun b =>
    let x := b.canOf k
    let t := b.now - ago.toNat
    match x.sendOf o with
    | none => b
    | some sd =>
      if x.mode ≠ 1 || x.state = 2 || (x.owner = 2 && what != .truncated) || b.arbFirst k t != some o.val then b
      else if what = .success then
        (((b.setCan k (x.drop o)).canCount k (max 0 (x.tec - 1)) x.rec_).canPost k (.done o t)).send (.canFrame k o (sd.data.take (dlcLen (b.flag (F.OBJ_CFG_FDF (objNo k o))) (b.rdN (F.OBJ_CFG_DLC (objNo k o))))))
      else b.canMissed k sd what)

/-- CAN_BUS_ERROR (R444 to R446): counted by its type; TEC and REC follow ISO 11898-1 (PRESUMED, log entry 47); a bit error of an own frame after arbitration counts against its identifier. In rate detection it moves to the next candidate (R439). -/
def execCanBusError (k : Fin 2) (e : CanError) (s : State) : Result :=
  s.onBay (fun b =>
    let x := b.canOf k
    if x.mode = 0 || x.state = 2 then b
    else if x.mode = 3 then b.onlyIf (b.detecting k) (fun b => b.nextCand k)
    else
      let c := canErrKey k e.type
      let b := b.canPost k (.count c.1 c.2)
      let tx := e.tx && x.mode == 1
      let b := match e.clash with
        | some o => b.onlyIf (tx && e.type == CanErrType.bit && (x.sendOf o).isSome) (fun b => b.canHit k o)
        | none => b
      let add : Int := 8 * (e.more.toNat : Int)
      if tx then b.canCount k (x.tec + (if e.exempt then 0 else 8) + add) x.rec_
      else b.canCount k x.tec (x.rec_ + (if e.exempt then 0 else 1) + add))

/-- CAN_RECOVERY_READY (R446): 128 times 11 recessive bits have been counted at bus-off. -/
def execCanRecoveryReady (k : Fin 2) (s : State) : Result :=
  s.onBay (fun b =>
    let x := b.canOf k
    b.onlyIf (x.mode != 0 && x.state == 2 && x.rdyAt.isNone) (fun b => (b.setCan k { x with rdyAt := some b.now }).canPost k .ready))

/-- CAN_RECOVERY_DELAY (R446): with REC = 1 the firmware writes the request REC_DLY ms after REC_RDY. -/
def execCanRecoveryDelay (k : Fin 2) (s : State) : Result :=
  s.onBay (fun b =>
    let x := b.canOf k
    match x.rdyAt with
    | none => b
    | some t => b.onlyIf (x.state == 2 && b.rd (F.CFD_CTL_REC k) == 1 && t + b.rdN (F.CFD_REC_DLY k) * msTicks ≤ b.now)
        (fun b => b.setCan k { x with recReq := true }))

/-! ## Host commands (R442, R445, R446) -/

/-- REQ (R442): the send commits at the next frame edge; refused with reason 4 while PEND is 1 and on a receive or disabled object. -/
def execReq (k : Fin 2) (o : Fin 128) (s : State) : Result :=
  let n := objNo k o
  s.onBay (fun b => b.gated (F.OBJ_CTL_REQ n) (fun b =>
    if !b.flag (F.OBJ_CFG_EN n) || !b.flag (F.OBJ_CFG_DIR n) || b.flag (F.OBJ_STAT_PEND n) then b.refuse (F.OBJ_CTL_REQ n) 4
    else
      let x := b.canOf k
      b.setCan k { x with reqs := x.reqs.filter (· != o.val) ++ [o.val] }))

/-- ABORT (R442, R447): a pending object is withdrawn at the next edge, or, `inTx`, its frame being on the bus, at the end of the attempt. -/
def execAbort (k : Fin 2) (o : Fin 128) (inTx : Bool) (s : State) : Result :=
  s.onBay (fun b => b.gated (F.OBJ_CTL_ABORT (objNo k o)) (fun b =>
    let x := b.canOf k
    if (x.sendOf o).isNone then b
    else if inTx then b.setCan k (x.onSend o (fun s => { s with abort := true }))
    else b.setCan k { x with aborts := x.aborts ++ [o.val] }))

/-- OBJ_TIMEOUT (R443, R447): OBJo_TMO ms after its REQ committed a timely object fails with FCAUSE 4, `inTx` at the end of its attempt. -/
def execObjTimeout (k : Fin 2) (o : Fin 128) (inTx : Bool) (s : State) : Result :=
  s.onBay (fun b =>
    let n := objNo k o
    let x := b.canOf k
    match x.sendOf o with
    | none => b
    | some sd =>
      if !b.flag (F.OBJ_CFG_CLASS n) || b.now < sd.at_ + b.rdN (F.OBJ_TMO_VAL n) * msTicks then b
      else if inTx then b.setCan k (x.onSend o (fun s => { s with late := true }))
      else b.canFail k o 4)

/-- CLASH_CLR (R445): CLASH, CLASH_ID and every SUSP are cleared, and the clash window starts afresh. -/
def execClashClr (k : Fin 2) (s : State) : Result :=
  s.onBay (fun b => b.gated (F.CFD_CTL_CLASH_CLR k) (fun b =>
    let x := b.canOf k
    let due := x.due.filter (fun d => match d.2 with
      | .clash _ _ => false
      | _ => true)
    let b := b.setCan k { x with susp := [], hits := [], due := due }
    let b := (b.setFlag (F.CFD_STAT_CLASH k) false).wr (F.CFD_CLASH_ID_ID k) 0
    (b.wr (F.CFD_CLASH_ID_IDE k) 0).each (List.range 128) (fun b o =>
      b.onlyIf (b.flag (F.OBJ_STAT_SUSP (objNo k o))) (fun b => b.setFlag (F.OBJ_STAT_SUSP (objNo k o)) false))))

/-- REC_REQ (R446): held until REC_RDY. -/
def execRecReq (k : Fin 2) (s : State) : Result :=
  s.onBay (fun b => b.gated (F.CFD_CTL_REC_REQ k) (fun b => b.setCan k { b.canOf k with recReq := true }))

/-- CAN_MODE (R439, R399): a write of CFDk.CTL.MODE; the controller follows at the next frame edge. -/
def execCanMode (k : Fin 2) (m : Fin 4) (s : State) : Result :=
  s.onBay (fun b => b.gated (F.CFD_CTL_MODE k) (fun b => b.wr (F.CFD_CTL_MODE k) m.val))

/-- RATE_CANDIDATE_TIMEOUT (R439): 200 ms without a frame. -/
def execRateCandidateTimeout (k : Fin 2) (s : State) : Result :=
  s.onBay (fun b => b.onlyIf (b.detecting k && (b.canOf k).heardAt + 200 * msTicks ≤ b.now) (fun b => b.nextCand k))

/-- DATA_RATE_TIMEOUT (R439): 2 s without a frame with BRS leave the data phase unset. -/
def execDataRateTimeout (k : Fin 2) (s : State) : Result :=
  s.onBay (fun b => b.onlyIf (b.detecting k && b.dataPhase k && !(b.canOf k).brsSeen && (b.canOf k).dataAt + 2 * secTicks ≤ b.now) (fun b => b.detectDone k))

/-! ## The frame edge (R436, R437, R442, R446) -/

/-- One result enters the message memory. -/
def Bay.canEnter (b : Bay) (k : Nat) (r : CanRes) : Bay :=
  match r with
  | .store o dlc fdf brs esi t d =>
    let n := objNo k o
    let b := b.onlyIf (b.flag (F.OBJ_STAT_NEW n)) (fun b => b.setSticky (F.OBJ_STAT_LOST n))
    let b := ((b.setSticky (F.OBJ_STAT_NEW n)).wr (F.OBJ_STAT_RDLC n) dlc).setFlag (F.OBJ_STAT_RFDF n) fdf
    let b := (b.setFlag (F.OBJ_STAT_RBRS n) brs).setFlag (F.OBJ_STAT_RESI n) esi
    let b := (b.wr (F.OBJ_STAT_SEQ n) ((b.rd (F.OBJ_STAT_SEQ n) + 1) % 65536)).wr (F.OBJ_T n) t
    b.setObjData n d
  | .unmatched => b.bump32 (F.CFD_RX_UNM k)
  | .diff => b.bump32 (F.CFD_RX_DIFF k)
  | .done o t =>
    let n := objNo k o
    let b := (b.setFlag (F.OBJ_STAT_PEND n) false).setSticky (F.OBJ_STAT_DONE n)
    (b.wr (F.OBJ_STAT_SEQ n) ((b.rd (F.OBJ_STAT_SEQ n) + 1) % 65536)).wr (F.OBJ_T n) t
  | .fail o cause =>
    let n := objNo k o
    ((b.setFlag (F.OBJ_STAT_PEND n) false).setSticky (F.OBJ_STAT_FAIL n)).wr (F.OBJ_STAT_FCAUSE n) cause
  | .count f top => b.bumpSat f 1 top
  | .counters tec rc st =>
    let b := ((b.wr (F.CFD_ERR_TEC k) tec).wr (F.CFD_ERR_REC k) rc).wr (F.CFD_STAT_STATE k) st
    b.setFlag (F.CFD_STAT_EWARN k) (96 ≤ tec || 96 ≤ rc)
  | .ready => b.setFlag (F.CFD_STAT_REC_RDY k) true
  | .clash ide id =>
    let b := ((b.setFlag (F.CFD_STAT_CLASH k) true).wr (F.CFD_CLASH_ID_ID k) id).setFlag (F.CFD_CLASH_ID_IDE k) ide
    b.each (b.canOf k).susp (fun b o => b.setFlag (F.OBJ_STAT_SUSP (objNo k o)) true)

/-- The results due at an edge enter (R436). -/
def Bay.canResults (b : Bay) (k : Nat) : Bay :=
  let x := b.canOf k
  let now := x.due.filter (fun d => d.1 ≤ b.now)
  now.foldl (fun b d => b.canEnter k d.2) (b.setCan k { x with due := x.due.filter (fun d => !(d.1 ≤ b.now)) })

/-- Counters and state as the registers show them, in the controller and in the registers. -/
def Bay.canClear (b : Bay) (k : Nat) : Bay :=
  let x := b.canOf k
  let due := x.due.filter (fun d => match d.2 with
    | .counters _ _ _ => false
    | .ready => false
    | _ => true)
  let b := b.setCan k { x with tec := 0, rec_ := 0, state := 0, rdyAt := none, recReq := false, due := due }
  (b.canEnter k (.counters 0 0 0)).setFlag (F.CFD_STAT_REC_RDY k) false

/-- Recovery from bus-off (R446): error-active with both counters 0, events 216 + k and 218 + k. -/
def Bay.canRecover (b : Bay) (k : Nat) : Bay := ((b.canClear k).raiseD (216 + k) 0).note (218 + k)

/-- Another cartridge drives the bus (R437, R447): it takes the mirrored counters; rate detection restarts. -/
def Bay.canOwnerEdge (b : Bay) (k : Nat) : Bay :=
  let x := b.canOf k
  let w := b.canOwner
  if w = x.owner then b
  else
    let b := b.setCan k { x with owner := w }
    if w = 2 then b
    else
      let b := b.setCan k { b.canOf k with tec := b.rd (F.CFD_ERR_TEC k), rec_ := b.rd (F.CFD_ERR_REC k), state := b.rd (F.CFD_STAT_STATE k) }
      b.onlyIf (b.detecting k) (fun b => b.detectStart k)

/-- CTL.MODE comes into force (R439, R446): 0 ends a bus-off, 3 starts rate detection. -/
def Bay.canModeEdge (b : Bay) (k : Nat) : Bay :=
  let x := b.canOf k
  let m := b.rd (F.CFD_CTL_MODE k)
  if m = x.mode then b
  else
    let b := b.setCan k { x with mode := m }
    let b := if m = 0 && x.state = 2 then (b.canClear k).raiseD (216 + k) 0 else b
    if m = 3 then b.detectStart k else b

/-- REQs and ABORTs of the frame commit (R442). -/
def Bay.canCommit (b : Bay) (k : Nat) : Bay :=
  let x := b.canOf k
  let b := b.setCan k { x with reqs := [], aborts := [] }
  let b := b.each x.aborts (fun b o =>
    b.onlyIf ((b.canOf k).sendOf o).isSome (fun b =>
      let b := b.setCan k ((b.canOf k).drop o)
      let b := b.canEnter k (.fail o 6)
      b.onlyIf (b.flag (F.OBJ_CFG_CLASS (objNo k o))) (fun b => b.note (222 + k))))
  b.each x.reqs (fun b o =>
    let y := b.canOf k
    (b.setCan k { y with sends := y.sends ++ [{ obj := o, at_ := b.now, data := b.objData (objNo k o) }] }).setFlag (F.OBJ_STAT_PEND (objNo k o)) true)

/-- A controller at a frame edge. -/
def Bay.canEdge1 (b : Bay) (k : Nat) : Bay :=
  let b := (((b.canResults k).canOwnerEdge k).canModeEdge k).canCommit k
  let x := b.canOf k
  let b := b.onlyIf (x.state == 2 && b.flag (F.CFD_STAT_REC_RDY k) && (x.recReq || b.rd (F.CFD_CTL_REC k) == 2)) (fun b => b.canRecover k)
  let on := (List.range 128).filter (fun o => b.flag (F.OBJ_CFG_EN (objNo k o)))
  let b := b.setCan k { b.canOf k with enabled := on }
  b.wr (F.CFD_STAT_PENDING k) (((List.range 128).filter (fun o => b.flag (F.OBJ_STAT_PEND (objNo k o)))).length : Nat)

/-- FRAME_EDGE for the field bus. -/
def Bay.canEdge (b : Bay) : Bay := (b.canEdge1 0).canEdge1 1

end Sys2Proof.Machine
end

