-- ==== Sys2Proof/Machine/Red.lean ====
section
/-! DEFINITION. Pairing links, the joining sequence, exchange of claims, strobes and the partner's repair of a word (R35, R38, R349 to R353, R373, R515). -/

namespace Sys2Proof.Machine

/-- A pairing lane is lost or comes back (R349, R351): event 179. -/
def Bay.laneChange (b : Bay) (lane : Nat) (up : Bool) : Bay :=
  let k := if lane = 0 then F.RED_STAT_LANE0 else F.RED_STAT_LANE1
  if b.flag k = up then b else ((b.setFlag k up).note 179).onlyIf (!up) Bay.uncleanLockstep

/-- PAIRING_LANE_LOST (R349). -/
def execPairingLaneLost (lane : Fin 2) (up : Bool) (s : State) : Result := s.onBay (fun b => b.laneChange lane up)

/-- Nothing has come over the pairing link for 3 frames (R345, R349). A partner that has fallen silent leaves the other cartridge to claim 0b11 at the next edge; with both alive the standby lowers itself to 0b00 and the active one goes on unpaired. -/
def Bay.linkLost (b : Bay) (silent : Option Nat) : Bay :=
  match silent with
  | some x =>
    let b := b.goSilent x
    if b.role (other x) = 2 then b.setRed { b.red with lift := some (other x) } else b
  | none =>
    if b.anyLane then b
    else
      let b := if b.role 0 = 3 && b.joining 1 then b.selfFault 1 9 else if b.role 1 = 3 && b.joining 0 then b.selfFault 0 9 else b
      let sb := if b.role 0 = 2 then some 0 else if b.role 1 = 2 then some 1 else none
      match sb with
      | none => b
      | some x =>
        let b := (((b.redRecord 5 3 2).pairFault x).setRole x 0).note 179
        (b.setRed { b.red with out := b.red.out ++ [x] }).openWin 2 x

/-- PAIRING_LINK_LOST (R349): `silent` names a cartridge that sends nothing at all. -/
def execPairingLinkLost (silent : Option (Fin 2)) (s : State) : Result := s.onBay (fun b => b.linkLost (silent.map (·.val)))

/-! ## Joining (R351, R352, R515) -/

/-- A cartridge that has booted initialises its DRAM and SRAM (R378). -/
def State.initMemory (s : State) (x : Nat) : State :=
  let c := s.mem.cart x
  { s with mem := s.mem.setCart x { c with dram := {}, sram := {} }, bay := s.bay.setFlag (F.MEM_STAT_INIT_DONE x) true }

/-- Steps 1 and 2 (R351): boot done, the firmware digests compared. A cartridge at ROLE 0b00 that has restarted begins the sequence with it. -/
def Bay.joinBooted (b : Bay) (x : Nat) (equal : Bool) : Bay :=
  let b := (b.note 180)
  if equal then (b.wr F.RED_STAT_SYNC 3).note 180 else b.stopJoin 7 x 2

/-- The cartridge may have booted to join: it is at step 1, or fitted, at ROLE 0b00 beside an active partner with no other joining. -/
def Bay.mayBoot (b : Bay) (x : Nat) : Bool :=
  (b.joining x && b.rd F.RED_STAT_SYNC == 1) ||
    (b.cPresent x && b.role x == 0 && b.role (other x) == 3 && !b.anyJoining && b.anyLane)

/-- JOIN_BOOT_DONE (R351): `equal` says that the firmware digests agree. -/
def execJoinBootDone (x : Fin 2) (equal : Bool) (s : State) : Result :=
  if !s.bay.mayBoot x then .next s
  else
    let s := { s with bay := if s.bay.joining x then s.bay else s.bay.joinStart x }
    (s.initMemory x).onBay (fun b => b.joinBooted x equal)

/-- The cells of a memory in the regions both cartridges hold, from another's (R351 step 3). -/
def Ram.takeHeld (r src : Ram) : Ram :=
  let own : Ram := { cells := r.cells.filter (fun c => !partnerHeld c.1), errs := r.errs.filter (fun e => !partnerHeld (e.1 * 8)) }
  let m := (src.cells.filter (fun c => partnerHeld c.1)).foldl (fun (m : Ram) c => { m with cells := m.cells.put c.1 c.2 }) own
  (src.errs.filter (fun e => partnerHeld (e.1 * 8) && e.2.bad)).foldl (fun (m : Ram) e => { m with errs := m.errs.put e.1 (some .poison) }) m

/-- The bulk copy (R351 step 3, R372): the partner-held regions; a word the partner cannot read arrives poisoned, and its read counts like any other. -/
def State.bulkCopy (s : State) (x : Nat) : State :=
  let p := other x
  let src := s.mem.ram p 0
  let bay := (src.errs.filter (fun e => partnerHeld (e.1 * 8))).foldl (fun (b : Bay) e => b.seeErr p 0 e.1 35 4 (some e.2)) s.bay
  ({ s with mem := s.mem.setRam x 0 ((s.mem.ram x 0).takeHeld src), bay := bay }).poisonCount x

/-- BULK_COPY_DONE (R351 step 3). -/
def execBulkCopyDone (s : State) : Result :=
  match s.bay.red.joiner with
  | some x =>
    if s.bay.joining x && s.bay.rd F.RED_STAT_SYNC = 3 then (s.bulkCopy x).onBay (fun b => ((b.takeKey x).wr F.RED_STAT_SYNC 4).note 180) else .next s
  | none => .next s

/-- STATE_COPY_DONE (R351 step 4): at t_j the joiner computes and sends ROLE 0b01. -/
def execStateCopyDone (s : State) : Result :=
  s.onBay (fun b =>
    match b.red.joiner with
    | some x =>
      if b.joining x && b.rd F.RED_STAT_SYNC = 4 then
        (((b.setRole x 1).wr F.RED_STAT_SYNC 5).setRed { b.red with cleanT0 := b.now }).note 180
      else b
    | none => b)

/-- Step 6 (R351, R352, R453): after 10 s of clean lockstep the joiner becomes the standby, or returns home. -/
def Bay.joined (b : Bay) (x : Nat) : Bay :=
  let b := (((b.wr F.RED_CLEAN 10000).wr F.RED_STAT_SYNC 6).closeWin 3).setRole x 2
  let b := ((b.setRed { b.red with joiner := none }).note 180)
  let b := (b.svnKeep 0).svnKeep 1
  if x = 0 && b.role 1 = 3 && b.flag F.RED_CTL_REVERT_EN then b.exchangeRoles else b

/-- PROVING_DONE (R351). -/
def execProvingDone (s : State) : Result :=
  s.onBay (fun b =>
    match b.red.joiner with
    | some x => if b.joining x && b.rd F.RED_STAT_SYNC = 5 && 10000 ≤ (b.now - b.red.cleanT0) / msTicks then b.joined x else b
    | none => b)

/-- A write of RED.CTL.RESYNC (R351, R398): a joiner past the bulk copy restarts at step 4; one before it goes on (log entry 34). -/
def Bay.resync (b : Bay) : Bay :=
  if !b.anyJoining then b.refuse F.RED_CTL_RESYNC 4
  else if 4 ≤ b.rd F.RED_STAT_SYNC then b.joinStep4 else b

/-- RESYNC (R351). -/
def execResync (s : State) : Result := s.onBay (fun b => b.gated F.RED_CTL_RESYNC Bay.resync)

/-- A write of RED.CTL.SWAP (R353). -/
def Bay.swap (b : Bay) : Bay :=
  if b.lockstep && b.red.wins.isEmpty then b.setRed { b.red with swap := true } else b.refuse F.RED_CTL_SWAP 4

/-- SWAP (R353). -/
def execSwap (s : State) : Result := s.onBay (fun b => b.gated F.RED_CTL_SWAP Bay.swap)

/-- RED_FLT_READ (R387): the read that cause 7 waits for. -/
def execRedFltRead (s : State) : Result := s.onBay (fun b => { b with modeSt := { b.modeSt with redRead := true } })

/-- The joiner takes the partner's release into its idle bank and restarts from it (R515); a partner's SVN below the joiner's minimum refuses. -/
def Bay.fwAlign (b : Bay) (x : Nat) : Bay :=
  if b.rd (fwSvn (other x)) < b.rd (fwSvnMin x) then b else ((b.alignBank x).note 229).joinStart x

/-- FW_ALIGN_DONE (R515). -/
def execFwAlignDone (s : State) : Result :=
  s.onBay (fun b =>
    match b.red.joiner with
    | some x => if b.rd F.RED_STAT_SYNC = 7 && b.rd F.RED_FLT_CAUSE = 7 then b.fwAlign x else b
    | none => b)

/-! ## Strobes and the oscillator (R35, R36, R38) -/

/-- The strobe a slot samples on: 1 CA, 2 CB. Which one it takes before it has any holder the spec does not say: the model takes CA's (DESIGN CHOICE, log entry 88). -/
def SlotView.strobeNow (v : SlotView) : Nat := if v.strobe = 0 then max 1 v.holder else v.strobe

/-- STROBE_MISSING (R38): the holder's strobe, which the slot uses, is missing; the slot changes to the other strobe, and the sample is marked. -/
def execStrobeMissing (n : Fin 6) (s : State) : Result :=
  s.onBay (fun b =>
    let v := b.slotOf n
    if b.slotFitted n && v.strobeNow = max 1 v.holder then b.setSlot n { v with strobe := 3 - v.strobeNow, strobeMark := true } else b)

/-- STROBE_DISAGREE (R38): the holder's strobe stays, event 183. -/
def execStrobeDisagree (n : Fin 6) (s : State) : Result := s.onBay (fun b => if b.slotFitted n then b.note 183 else b)

/-- OSCILLATOR_FAIL (R35): every root PLL in holdover, event 189; without fabric discipline bay time runs free. -/
def Bay.oscFail (b : Bay) : Bay :=
  if b.flag F.TIME_STAT_HOLDOVER then b
  else
    let b := (b.setFlag F.TIME_STAT_HOLDOVER true).note 189
    if b.rd F.TIME_STAT_SRC = 0 && !b.flag F.TIME_STAT_FREE_RUN then (b.setFlag F.TIME_STAT_FREE_RUN true).note 247 else b

/-- OSCILLATOR_FAIL (R35). -/
def execOscillatorFail (s : State) : Result := s.onBay Bay.oscFail

/-! ## Repair from the partner (R373) -/

/-- PARTNER_REPAIR (R373): a bad word of a partner-held region of cartridge x is rewritten from the partner's copy, event 199. -/
def execPartnerRepair (x : Fin 2) (w : Nat) (s : State) : Result :=
  if s.mem.badAt x 0 w && s.partnerHas x w && s.bay.anyLane then (s.copyFromPartner x w).onBay (fun b => b.note 199) else .next s

end Sys2Proof.Machine
end

