-- ==== Sys2Proof/Machine/Skein.lean ====
section
/-! DEFINITION. The Skein instructions (spec chapter 08, R216 to R236): one engine turn is one command, delivered with the engine's number. The engine executes the word its image holds at its PC. -/

namespace Sys2Proof.Machine

/-! ## The instruction word and the engine's registers -/

/-- The opcode of a word (R216). -/
def opOf (w : Nat) : Nat := field w 26 6
/-- Field D (R216). -/
def dOf (w : Nat) : Nat := field w 22 4
/-- Field S (R216). -/
def sOf (w : Nat) : Nat := field w 18 4
/-- Field IMM, unsigned (R216). -/
def immOf (w : Nat) : Nat := field w 0 18
/-- Field IMM as a signed number (R216). -/
def sextOf (w : Nat) : Int := asSigned 18 (immOf w)

/-- Register k_i of engine c. -/
abbrev kKey (c i : Nat) : Key := ⟨.eng, c, 0x40 + 4 * i, 0⟩
/-- Word i of the call stack of engine c. -/
abbrev retKey (c i : Nat) : Key := ⟨.eng, c, 0x30 + 4 * i, 0⟩
/-- Accumulator a_i of engine c. -/
abbrev aKey (c i : Nat) : Key := ⟨.eng, c, 0x80 + 8 * i, 0⟩
/-- Scratch word x of engine c. -/
abbrev scrKey (c x : Nat) : Key := ⟨.engScr, 256 * c + x, 0, 0⟩

/-- The value of k_i as a signed number. -/
def Bay.k (b : Bay) (c i : Nat) : Int := b.rd (kKey c i)

/-- A value saturated to 32 bits (R219). -/
def sat32 (v : Int) : Int := clampI (-2147483648) 2147483647 v

/-- A value saturated to 32 bits did not fit. -/
def satDiffers (v : Int) : Bool := sat32 v != v

/-- Set Z and N from a 32-bit result (R220). -/
def Bay.setZN (b : Bay) (c : Nat) (v : Int) : Bay :=
  (b.setFlag (F.ENG_STAT_Z c) (v == 0)).setFlag (F.ENG_STAT_N c) (v < 0)

/-- Set C (R220). -/
def Bay.setC (b : Bay) (c : Nat) (v : Bool) : Bay := b.setFlag (F.ENG_STAT_C c) v

/-- Write k_D. -/
def Bay.setK (b : Bay) (c i : Nat) (v : Int) : Bay := b.wr (kKey c i) v

/-- The code of engine c's image. -/
def Bay.codeOf (b : Bay) (c : Nat) : List Nat :=
  match b.programOf (b.engOf c).image with
  | some (_, code, _, _) => code
  | none => []

/-- The constants of engine c's image. -/
def Bay.constsOf (b : Bay) (c : Nat) : List Nat :=
  match b.programOf (b.engOf c).image with
  | some (_, _, k, _) => k
  | none => []

/-- The table an image reference names, of the KIND asked for; `none` freezes with cause 11 (R232). -/
def Bay.refOf (b : Bay) (c ref kind : Nat) : Option Image :=
  match b.programOf (b.engOf c).image with
  | some (_, _, _, refs) =>
    match refs[ref]? with
    | some id => b.findImage id kind
    | none => none
  | none => none

/-- The word at the PC of engine c. -/
def Bay.fetch (b : Bay) (c : Nat) : Option Nat := (b.codeOf c)[b.rdN (F.ENG_PC c)]?

/-! ## Turns (R196) -/

/-- The turns an instruction needs (R222, R232). -/
def turnsOf (op : Nat) : Nat := if op = 0x0A then 3 else if op = 0x05 || op = 0x21 || op = 0x22 then 2 else 1

/-- Engine c takes turns: RUNNING, and no END of this frame has been executed. -/
def Bay.takesTurns (b : Bay) (c : Nat) : Bool := b.engState c == Es.running && !(b.engOf c).cmds.contains .end_

/-- The turns engine c has had in the present frame. -/
def Bay.turnsHad (b : Bay) (c : Nat) : Nat := if (b.engOf c).slotFrame = b.now / frameTicks then (b.engOf c).slots else 0

/-- Engine c has the next turn (R196): fewer than five in this frame, and in its slot every running engine of a lower channel has had its own. -/
def Bay.turnDue (b : Bay) (c : Nat) : Bool :=
  let n := b.turnsHad c
  b.takesTurns c && decide (n < 5) &&
    allChans.all (fun d => !b.takesTurns d || decide (n < b.turnsHad d) || (n == b.turnsHad d && decide (c ≤ d)))

/-- The turn of engine c begins: bay time goes to the opening of its slot, 8 µs after the one before (R196), and the turn is counted. -/
def Bay.openTurn (b : Bay) (c : Nat) : Bay :=
  let n := b.turnsHad c
  let b := { b with now := max b.now (frameStart b.now + 8 * usTicks * n) }
  b.setEng c { b.engOf c with slotFrame := b.now / frameTicks, slots := n + 1 }

/-- The turn of engine c in which its instruction acts: its slot opens, and the instruction has no turn left. -/
def Bay.lastTurn (b : Bay) (c : Nat) : Bay := (b.openTurn c).setEng c { (b.openTurn c).engOf c with part := 0 }

/-- A turn of engine c that an instruction of several only takes (R196). -/
def Bay.partTurn (b : Bay) (c : Nat) : Bay := (b.openTurn c).setEng c { (b.openTurn c).engOf c with part := (b.engOf c).part + 1 }

/-- How an instruction ends: a freeze with cause and DETAIL, the engine kept on its instruction, the bay after it with the next PC, or, where the word is another row's instruction, nothing. -/
inductive TurnEnd where
  | freeze (cause : Nat) (detail : Int)
  | stay
  | done (b : Bay) (pc : Int)
  | other

/-- The turn of engine c with the instruction of one opcode (R196, R217). Nothing happens unless the engine has the next turn and stands on that opcode; a PC outside the code section freezes it with cause 3, an uncorrectable word with cause 8 (R204). An instruction of several turns acts in its last. -/
def Bay.turn (b : Bay) (badWord : Bool) (c : Nat) (isOp : Nat → Bool) (f : Bay → Nat → TurnEnd) : Bay :=
  if !b.turnDue c then b
  else
    match b.fetch c with
    | none => (b.openTurn c).freeze c 3 (b.rd (F.ENG_PC c))
    | some w =>
      if !isOp (opOf w) then b
      else if badWord then (b.openTurn c).freeze c 8 0
      else if (b.engOf c).part + 1 < turnsOf (opOf w) then b.partTurn c
      else
        match f (b.lastTurn c) w with
        | .freeze cause d => (b.lastTurn c).freeze c cause d
        | .stay => b.lastTurn c
        | .done b' pc => (b'.wr (F.ENG_PC c) pc).bump32 (F.ENG_TURNS c)
        | .other => b

/-- The DRAM word that holds word `i` of an engine's image, code first, then constants, behind the header of 64 bytes (R207, R210). -/
def State.imageWord (s : State) (c i : Nat) : Nat := (imageStart true (s.bay.engOf c).image + 64 + 4 * i) / 8

/-- Engine c reads a word of its image, in both cartridges alike (R372, R373): the read of an engine in its turn is counted; the answer says whether some cartridge could not read it. -/
def State.engRead (s : State) (c i acc : Nat) : State × Bool :=
  if !s.bay.turnDue c then (s, false)
  else
    let r := s.lockstepRead 0 (s.imageWord c i) (64 + c) acc
    (r.1, !r.2)

/-- The read of the instruction engine c stands on, in the first of its turns. -/
def State.fetchRead (s : State) (c : Nat) : State × Bool :=
  if (s.bay.engOf c).part = 0 then s.engRead c (s.bay.rdN (F.ENG_PC c)) 2 else (s, false)

/-- Answer the turn of engine c with one opcode. -/
def State.onTurn (s : State) (c op : Nat) (f : Bay → Nat → TurnEnd) : Result :=
  let r := s.fetchRead c
  r.1.onBay (fun b => b.turn r.2 c (fun o => o == op) f)

/-- Answer a turn whose instruction reads a second word of the image: a bad one freezes the engine with cause 8 (R372). -/
def State.onTurn2 (s : State) (c op : Nat) (i : Option Nat) (acc : Nat) (f : Bay → Nat → TurnEnd) : Result :=
  let r := s.fetchRead c
  let q := match i with
    | some i => if r.2 then (r.1, false) else r.1.engRead c i acc
    | none => (r.1, false)
  q.1.onBay (fun b => b.turn r.2 c (fun o => o == op) (fun b w => if q.2 then .freeze 8 0 else f b w))

/-- The turn ends one word on. -/
def Bay.step1 (b : Bay) (c : Nat) : TurnEnd := .done b (b.rd (F.ENG_PC c) + 1)

/-- A branch target (R217): outside the code section it freezes with cause 3. -/
def Bay.branchTo (b : Bay) (c : Nat) (w : Nat) (b' : Bay) : TurnEnd :=
  let t := b.rd (F.ENG_PC c) + sextOf w
  if 0 ≤ t ∧ t < (b.codeOf c).length then .done b' t else .freeze 3 t

/-- The second operand B (R218). -/
def Bay.sumB (b : Bay) (c w : Nat) : Int := if sOf w = dOf w then sextOf w else b.k c (sOf w) + sextOf w

/-- B as the 32-bit number that flags, MIN, MAX and CMP take: a sum outside 32 bits is a value the spec does not state (log entry 23). -/
def Bay.operandB (b : Bay) (c w : Nat) : Int × Bay :=
  if -2147483648 ≤ b.sumB c w ∧ b.sumB c w ≤ 2147483647 then (b.sumB c w, b) else (asSigned 32 b.free.1, b.free.2)

/-- A condition code of R221; `none` for the reserved ones. The channel's flags are those of the last frame edge. -/
def Bay.condition (b : Bay) (c cc : Nat) : Option Bool :=
  let z := b.flag (F.ENG_STAT_Z c)
  let n := b.flag (F.ENG_STAT_N c)
  let e := b.engOf c
  match cc with
  | 0 => some z
  | 1 => some (!z)
  | 2 => some n
  | 3 => some (!n)
  | 4 => some (n || z)
  | 5 => some (!n && !z)
  | 6 => some (b.sees (F.CHN_REG_STAT_TO c) != 0)
  | 7 => some (b.sees (F.CHN_REG_STAT_TO c) == 0)
  | 8 => some (b.sees (F.CHN_REG_STAT_LIM c) != 0)
  | 9 => some (b.sees (F.CHN_REG_STAT_TRM c) != 0)
  | 10 => some (e.evt.testBit 1)
  | 11 => some (e.evt &&& b.rdN (F.ENG_EVMASK_VAL c) != 0)
  | 12 => some true
  | _ => none

/-! ## Control, data and arithmetic (R222, R223) -/

/-- NOP (0x00). -/
def execSkNop (c : Fin 64) (s : State) : Result := s.onTurn c 0x00 (fun b _ => b.step1 c)

/-- HALT (0x01): HALTED; PC stays on it until RESUME. -/
def execSkHalt (c : Fin 64) (s : State) : Result :=
  s.onTurn c 0x01 (fun b _ => .done (b.setEngState c Es.halted) (b.rd (F.ENG_PC c)))

/-- Add a command to the frame's (R197). -/
def Bay.command (b : Bay) (c : Nat) (x : EngCmd) : Bay := b.setEng c { b.engOf c with cmds := (b.engOf c).cmds ++ [x] }

/-- END (0x02): as a host STOP at the next frame edge, END = 1. -/
def execSkEnd (c : Fin 64) (s : State) : Result :=
  s.onTurn c 0x02 (fun b _ => .done (b.command c .end_) (b.rd (F.ENG_PC c)))

/-- TRAP (0x03): freeze, cause 10. -/
def execSkTrap (c : Fin 64) (s : State) : Result := s.onTurn c 0x03 (fun _ w => .freeze 10 (immOf w % 65536 : Nat))

/-- LDI (0x04). -/
def execSkLdi (c : Fin 64) (s : State) : Result :=
  s.onTurn c 0x04 (fun b w =>
    if 9 < sOf w then .freeze 1 4 else (b.setK c (dOf w) (sat32 (sextOf w * 10 ^ sOf w))).step1 c)

/-- LDW (0x05): the following code word, read in its second turn. -/
def execSkLdw (c : Fin 64) (s : State) : Result :=
  s.onTurn2 c 0x05 (if (s.bay.fetch c).map opOf = some 0x05 ∧ (s.bay.engOf c).part = 1 then some (s.bay.rdN (F.ENG_PC c) + 1) else none) 2 (fun b w =>
    match (b.codeOf c)[b.rdN (F.ENG_PC c) + 1]? with
    | none => .freeze 3 (b.rd (F.ENG_PC c) + 1)
    | some v => .done (b.setK c (dOf w) (asSigned 32 v)) (b.rd (F.ENG_PC c) + 2))

/-- The index of a MOV (R223), formed without wrap. -/
def Bay.movIndex (b : Bay) (c w : Nat) : Nat :=
  field w 0 12 + (if (immOf w).testBit 12 then (b.k c (sOf w) % 4294967296).toNat else 0)

/-- The word of the image that a MOV from the constants reads. -/
def Bay.movWord (b : Bay) (c : Nat) : Option Nat :=
  (b.fetch c).bind (fun w =>
    if opOf w = 0x06 && field w 16 2 = 3 && b.movIndex c w < (b.constsOf c).length then some ((b.codeOf c).length + b.movIndex c w) else none)

/-- MOV (0x06; R223). -/
def execSkMov (c : Fin 64) (s : State) : Result :=
  s.onTurn2 c 0x06 (s.bay.movWord c) 3 (fun b w =>
    let x := b.movIndex c w
    match field w 16 2 with
    | 0 => (b.setK c (dOf w) (b.k c (sOf w))).step1 c
    | 1 => if 255 < x then .freeze 4 x else (b.setK c (dOf w) (b.rd (scrKey c x))).step1 c
    | 2 => if 255 < x then .freeze 4 x else (b.wr (scrKey c x) (b.k c (dOf w))).step1 c
    | _ =>
      match (b.constsOf c)[x]? with
      | none => .freeze 4 x
      | some v => (b.setK c (dOf w) (asSigned 32 v)).step1 c)

/-- A result into k_D with Z, N and C (R220). -/
def Bay.result (b : Bay) (c w : Nat) (v : Int) (carry : Bool) : TurnEnd :=
  (((b.setK c (dOf w) v).setZN c v).setC c carry).step1 c

/-- A result into k_D with Z and N; C stays (R220). -/
def Bay.resultZN (b : Bay) (c w : Nat) (v : Int) : TurnEnd := ((b.setK c (dOf w) v).setZN c v).step1 c

/-- ADD (0x07): C is the unsigned carry out. -/
def execSkAdd (c : Fin 64) (s : State) : Result :=
  s.onTurn c 0x07 (fun b w =>
    let x := b.k c (dOf w)
    let y := b.operandB c w
    y.2.result c w (asSigned 32 (x + b.sumB c w)) (4294967296 ≤ x % 4294967296 + y.1 % 4294967296))

/-- SUB (0x08): C is the unsigned borrow. -/
def execSkSub (c : Fin 64) (s : State) : Result :=
  s.onTurn c 0x08 (fun b w =>
    let x := b.k c (dOf w)
    let y := b.operandB c w
    y.2.result c w (asSigned 32 (x - b.sumB c w)) (x % 4294967296 < y.1 % 4294967296))

/-- MUL (0x09): the exact product over 10^e, rounded toward zero, saturated. -/
def execSkMul (c : Fin 64) (s : State) : Result :=
  s.onTurn c 0x09 (fun b w =>
    let e := field w 0 4
    if 9 < e then .freeze 1 9
    else
      let v := (b.k c (dOf w) * b.k c (sOf w)).tdiv (10 ^ e)
      b.result c w (sat32 v) (satDiffers v))

/-- DIV (0x0A): the exact quotient of k_D × 10^e, rounded toward zero, saturated; by 0 the result follows the sign of k_D and C is set. -/
def execSkDiv (c : Fin 64) (s : State) : Result :=
  s.onTurn c 0x0A (fun b w =>
    let e := field w 0 4
    let x := b.k c (dOf w)
    let y := b.k c (sOf w)
    if 9 < e then .freeze 1 10
    else if y = 0 then
      b.result c w (if 0 < x then 2147483647 else if x < 0 then -2147483648 else 0) true
    else
      let v := (x * 10 ^ e).tdiv y
      b.result c w (sat32 v) (satDiffers v))

/-- MIN (0x0B). -/
def execSkMin (c : Fin 64) (s : State) : Result :=
  s.onTurn c 0x0B (fun b w => (b.operandB c w).2.resultZN c w (min (b.k c (dOf w)) (b.operandB c w).1))

/-- MAX (0x0C). -/
def execSkMax (c : Fin 64) (s : State) : Result :=
  s.onTurn c 0x0C (fun b w => (b.operandB c w).2.resultZN c w (max (b.k c (dOf w)) (b.operandB c w).1))

/-- ABS (0x0D). -/
def execSkAbs (c : Fin 64) (s : State) : Result :=
  s.onTurn c 0x0D (fun b w =>
    let v : Int := (b.k c (sOf w)).natAbs
    b.result c w (sat32 v) (satDiffers v))

/-- The flags of a compare (R220): Z equal, N signed less. -/
def Bay.compare (b : Bay) (c : Nat) (x y : Int) (carry : Bool) : TurnEnd :=
  (((b.setFlag (F.ENG_STAT_Z c) (x == y)).setFlag (F.ENG_STAT_N c) (x < y)).setC c carry).step1 c

/-- CMP (0x0E): C is k_D below B unsigned. -/
def execSkCmp (c : Fin 64) (s : State) : Result :=
  s.onTurn c 0x0E (fun b w =>
    let x := b.k c (dOf w)
    let y := b.operandB c w
    y.2.compare c x y.1 (x % 4294967296 < y.1 % 4294967296))

/-- CMPI (0x0F): compared exactly and without saturation; C := 0. -/
def execSkCmpi (c : Fin 64) (s : State) : Result :=
  s.onTurn c 0x0F (fun b w =>
    if 9 < sOf w then .freeze 1 15 else b.compare c (b.k c (dOf w)) (sextOf w * 10 ^ sOf w) false)

/-! ## Moving PC (R224) -/

/-- BR (R224, 0x10). -/
def execSkBr (c : Fin 64) (s : State) : Result :=
  s.onTurn c 0x10 (fun b w =>
    match b.condition c (dOf w) with
    | none => .freeze 2 (dOf w)
    | some true => b.branchTo c w b
    | some false => b.step1 c)

/-- CALL (R224, 0x11). -/
def execSkCall (c : Fin 64) (s : State) : Result :=
  s.onTurn c 0x11 (fun b w =>
    let d := b.rdN (F.ENG_STAT_DEPTH c)
    if 4 ≤ d then .freeze 5 0
    else b.branchTo c w ((b.wr (retKey c d) (b.rd (F.ENG_PC c) + 1)).wr (F.ENG_STAT_DEPTH c) (d + 1)))

/-- RET (R224, 0x12). -/
def execSkRet (c : Fin 64) (s : State) : Result :=
  s.onTurn c 0x12 (fun b _ =>
    let d := b.rdN (F.ENG_STAT_DEPTH c)
    if d = 0 then .freeze 6 0
    else
      let t := b.rd (retKey c (d - 1))
      if 0 ≤ t ∧ t < (b.codeOf c).length then .done ((b.wr (retKey c (d - 1)) 0).wr (F.ENG_STAT_DEPTH c) (d - 1 : Nat)) t
      else .freeze 3 t)

/-- LOOP (R224, 0x13). -/
def execSkLoop (c : Fin 64) (s : State) : Result :=
  s.onTurn c 0x13 (fun b w =>
    let v := asSigned 32 (b.k c (dOf w) - 1)
    let b' := b.setK c (dOf w) v
    if v ≠ 0 then b.branchTo c w b' else b'.step1 c)

/-! ## Commanding the channel (R225 to R228) -/

/-- The step a MODE builds from direct targets (R225). -/
def Direct.params (t : Direct) (m : Int) (legacy : Bool) : Params :=
  { mode := m, legacy := legacy && m == 4
    termDiv := if m = 3 || m = 4 then t.termDiv else 0
    set := if m = 5 || m = 6 then t.pSet else if m = 2 || m = 4 || m = 7 then t.iSet else 0
    vlim := t.vLim
    aux := if m = 7 then t.aux else t.iLim
    tqual := t.tQual, tsafe := t.tSafe, t1 := t.t1, t2 := t.t2 }

/-- A direct step runs on the channel. -/
def Bay.directRuns (b : Bay) (c : Nat) : Bool :=
  match (b.chanOf c).src with
  | .direct _ => (b.chanOf c).live
  | _ => false

/-- The border table of channel c as a test: with no table in force every value fails, naming no field. -/
def Bay.tested (b : Bay) (c : Nat) (f : Border → Option Nat) : Option Nat :=
  if b.flag (F.CHN_REG_STAT_BORDER_OK c) then f (b.borderOf c) else some 0xFFFF

/-- The zone in which a step of a table is entered (R232): that in force for the table of the step in force, else from T_Z alone. -/
def Bay.zoneFor (b : Bay) (c : Nat) (id : Int) (t : Zoned) : Int :=
  match (b.chanOf c).src with
  | .table i _ => if i = id then b.rd (F.CHN_REG_STAT_ZONE c) else t.zoneOf (b.rd (F.CHN_T_ZONE c))
  | _ => t.zoneOf (b.rd (F.CHN_T_ZONE c))

/-- The direct target a ramp of a mode moves: 0 I_SET, 1 V_LIM, 2 P_SET (R226). -/
def rampTarget (m : Int) : Nat := if m = 3 then 1 else if m = 5 || m = 6 then 2 else 0

/-- A direct target that a ramp may move. -/
def Direct.target (t : Direct) (k : Nat) : Int := if k = 1 then t.vLim else if k = 2 then t.pSet else t.iSet

/-- Replace a direct target that a ramp may move. -/
def Direct.setTarget (t : Direct) (k : Nat) (v : Int) : Direct :=
  if k = 1 then { t with vLim := v } else if k = 2 then { t with pSet := v } else { t with iSet := v }

/-- The mode that a RAMP of this frame will act on: the last MODE or STEP written in the frame, else the step in force (R226, R227). `true` for a direct step. -/
def Bay.rampMode (b : Bay) (c : Nat) : Int × Bool :=
  let x := b.chanOf c
  (b.engOf c).cmds.foldl (fun acc y =>
    match y with
    | .mode m _ => (m, true)
    | .step id i =>
      match b.zonedOf id with
      | some t => ((t.entry (b.zoneFor c id t) i).mode, false)
      | none => acc
    | _ => acc) (if x.live then (x.par.mode, b.directRuns c) else (0, false))

/-- The direct steps that targets of this frame act on: the one that runs (R227), and one that a MODE of the frame starts (log entry 82). -/
def Bay.directModes (b : Bay) (c : Nat) : List Int :=
  (if b.directRuns c then [(b.chanOf c).par.mode] else []) ++ (if (b.rampMode c).2 then [(b.rampMode c).1] else [])

/-- The test of those steps with given targets (R227). -/
def Bay.testAgain (b : Bay) (c : Nat) (t : Direct) : Option Nat :=
  (b.directModes c).foldl (fun acc m => acc <|> b.failStep c (t.params m false)) none

/-- Add a write of direct targets to the frame's commands (R197): `k` as in EngCmd.wrote. -/
def Bay.wrote (b : Bay) (c k : Nat) (t : Direct) : Bay := (b.setEng c { b.engOf c with overlay := t }).command c (.wrote k)

/-- Write direct targets after their test and that of the direct steps they act on (R227). A write of a target that a ramp moves ends the ramp (R226). -/
def Bay.setTargets (b : Bay) (c k : Nat) (t : Direct) (fail : Option Nat) : TurnEnd :=
  match fail <|> b.testAgain c t with
  | some off => .freeze 7 off
  | none => (b.wrote c k t).step1 c

/-- SETI (0x14). -/
def execSkSeti (c : Fin 64) (s : State) : Result :=
  s.onTurn c 0x14 (fun b w =>
    let v := b.k c (dOf w)
    let t := (b.engOf c).overlay
    match field w 0 2 with
    | 0 => b.setTargets c 0 { t with iSet := v } (b.tested c (fun d => d.failCurrent v))
    | 1 => b.setTargets c 3 { t with iLim := v } (b.tested c (fun d => d.failMagnitude v))
    | 2 => b.setTargets c 3 { t with aux := v } (b.tested c (fun d => d.failMagnitude v))
    | _ => .freeze 1 0x14)

/-- SETV (0x15). -/
def execSkSetv (c : Fin 64) (s : State) : Result :=
  s.onTurn c 0x15 (fun b w =>
    let v := b.k c (dOf w)
    b.setTargets c 1 { (b.engOf c).overlay with vLim := v } (b.tested c (fun d => d.failVolt v)))

/-- SETP (0x16): tested at the MODE that uses it. -/
def execSkSetp (c : Fin 64) (s : State) : Result :=
  s.onTurn c 0x16 (fun b w => b.setTargets c 2 { (b.engOf c).overlay with pSet := b.k c (dOf w) } none)

/-- The RAMP of this frame that a MODE now takes over (R226): its end, where no later write of the target it then moves ends it. -/
def rampEnd (k : Nat) (l : List EngCmd) : Option Int :=
  l.foldl (fun acc x =>
    match x with
    | .ramp v _ => some v
    | .wrote j => if j = k then none else acc
    | .step _ _ => none
    | _ => acc) none

/-- MODE (0x17): tests the whole direct step, and with the end of a RAMP of the frame that it takes over (R226, R227). -/
def execSkMode (c : Fin 64) (s : State) : Result :=
  s.onTurn c 0x17 (fun b w =>
    let m := field w 0 4
    let e := b.engOf c
    if 8 ≤ m then .freeze 1 0x17
    else
      let ramped := (rampEnd (rampTarget m) e.cmds).bind (fun v => b.failStep c ((e.overlay.setTarget (rampTarget m) v).params m e.legacyArm.isSome))
      match b.failStep c (e.overlay.params m e.legacyArm.isSome) <|> ramped with
      | some off => .freeze 7 off
      | none => (b.setEng c { e with legacyArm := none, cmds := e.cmds ++ [.mode m (if m = 4 then e.legacyArm else none)] }).step1 c)

/-- The test of a RAMP's end as of the target it ramps (R227). -/
def Bay.rampTest (b : Bay) (c : Nat) (m v : Int) : Option Nat :=
  match rampTarget m with
  | 1 => b.tested c (fun d => d.failVolt v)
  | 2 => none
  | _ => b.tested c (fun d => d.failCurrent v)

/-- RAMP (0x18): the end value is tested as the target it ramps, and with the direct steps it acts on (R226, R227). On HOLD and REST it waits for a MODE of the same frame. -/
def execSkRamp (c : Fin 64) (s : State) : Result :=
  s.onTurn c 0x18 (fun b w =>
    let v := b.k c (dOf w)
    let m := b.rampMode c
    let b' := b.command c (.ramp v (b.k c (sOf w)))
    if m.1 ≤ 1 then b'.step1 c
    else
      match b.rampTest c m.1 v <|> (if m.2 then b.testAgain c ((b.engOf c).overlay.setTarget (rampTarget m.1) v) else none) with
      | some off => .freeze 7 off
      | none => b'.step1 c)

/-- PULSE (0x19): a time of 0 is taken as 1 ms. -/
def execSkPulse (c : Fin 64) (s : State) : Result :=
  s.onTurn c 0x19 (fun b w =>
    let v := b.k c (dOf w)
    let ts := (b.k c (sOf w) % 4294967296).toNat
    let t := { (b.engOf c).overlay with aux := v, t1 := max 1 (field ts 16 16 : Nat), t2 := max 1 (field ts 0 16 : Nat) }
    match b.tested c (fun d => d.failMagnitude v) with
    | some off => .freeze 7 off
    | none => (b.wrote c 3 t).step1 c)

/-- A press force against F_MIN and F_MAX of one border (R142, R228). -/
def Border.failForce (t : Border) (f : Int) : Option Nat :=
  if f = 0 then none else if f < t.fMin then some 0x28 else if t.fMax < f then some 0x2A else none

/-- PRESS (0x1A): tested against the requesting channel's border and that of every channel of the wale whose cell is started (R228). -/
def execSkPress (c : Fin 64) (s : State) : Result :=
  s.onTurn c 0x1A (fun b w =>
    let v := b.k c (dOf w)
    let others := (waleChans (waleOf c)).filter (fun x => b.cellOpen x || x == c)
    let fail := others.foldl (fun (acc : Option Nat) x => acc <|> (if v = 0 then none else b.tested x (fun d => d.failForce v))) none
    match fail with
    | some off => .freeze 7 off
    | none => (b.command c (.press v)).step1 c)

/-! ## Waiting (R229) -/

/-- WAIT (0x1B). -/
def execSkWait (c : Fin 64) (s : State) : Result :=
  s.onTurn c 0x1B (fun b w =>
    match b.condition c (dOf w) with
    | none => .freeze 2 (dOf w)
    | some _ => .done ((b.setEngState c Es.waiting).setEng c { b.engOf c with wait := .cond (dOf w) }) (b.rd (F.ENG_PC c)))

/-- WAITT (0x1C): at most k_S ticks of 1 ms, at least one. -/
def execSkWaitt (c : Fin 64) (s : State) : Result :=
  s.onTurn c 0x1C (fun b w =>
    match b.condition c (dOf w) with
    | none => .freeze 2 (dOf w)
    | some _ => .done ((b.setEngState c Es.waiting).setEng c { b.engOf c with wait := .timed (dOf w) (max 1 (b.k c (sOf w))) }) (b.rd (F.ENG_PC c)))

/-- The end of a timed wait (R229): Z is 1 by time and 0 by condition; AL never ends it early. -/
def Bay.waittTick (b : Bay) (c : Nat) : Bay :=
  match b.engState c, (b.engOf c).wait with
  | 2, .timed cc n =>
    let holds := cc ≠ 12 && (b.condition c cc).getD false
    if holds then (b.wake c).setFlag (F.ENG_STAT_Z c) false
    else if n ≤ 1 then (b.wake c).setFlag (F.ENG_STAT_Z c) true
    else b.setEng c { b.engOf c with wait := .timed cc (n - 1) }
  | _, _ => b

/-- The wait of engine c at an edge at which a bit of its event word becomes visible (R199): a condition that holds ends it; the ticks of a timed wait are not counted here. -/
def Bay.waitSeen (b : Bay) (c : Nat) : Bay :=
  if b.engState c ≠ Es.waiting then b
  else
    match (b.engOf c).wait with
    | .cond cc => if (b.condition c cc).getD false then b.wake c else b
    | .timed cc _ => if cc ≠ 12 && (b.condition c cc).getD false then (b.wake c).setFlag (F.ENG_STAT_Z c) false else b
    | _ => b

/-- WAITT_TIMEOUT (R229): the last tick of a timed wait; delivered at a multiple of 125,000 ticks. -/
def execWaittTimeout (c : Fin 64) (s : State) : Result :=
  s.onBay (fun b =>
    match b.engState c, (b.engOf c).wait with
    | 2, .timed _ n => if n ≤ 1 && b.now % msTicks = 0 then b.waittTick c else b
    | _, _ => b)

/-! ## Reading the channel (R230, R231) -/

/-- The value of a GET selector that reads without effect, as at the last frame edge; precision values are those of the last closed window (R197, R230). -/
def Bay.getSel (b : Bay) (c sel : Nat) : Int :=
  let tempOr := fun (bad : Int) (v : Int) => if bad != 0 then -2147483648 else v
  let t := b.edge.cellT.get (0, 0) c
  match sel with
  | 0 => b.sees (F.CHN_V c)
  | 1 => b.sees (F.CHN_I c)
  | 2 => (b.rd (F.CHN_V_PREC c)).tdiv 10
  | 3 => (b.rd (F.CHN_I_PREC c)).tdiv 10
  | 4 => b.sees (F.CHN_T_ZONE c)
  | 5 => tempOr (b.sees (F.CHN_REG_STAT_TEMP0_BAD c)) t.1
  | 6 => tempOr (b.sees (F.CHN_REG_STAT_TEMP1_BAD c)) t.2
  | 7 => sat32 ((b.sees (F.CHN_V c) * b.sees (F.CHN_I c)).tdiv 1000000000)
  | 8 => b.sees (F.CHN_TMR c)
  | 9 => b.sees (F.CHN_SFT c)
  | 10 => b.sees (F.CHN_QUAL c)
  | 11 => b.sees (F.CHN_STEP_END_CAUSE c)
  | 12 => b.sees (F.CHN_REG_STAT_HOLD_CAUSE c)
  | 13 => b.sees (F.CHN_REG_STAT_MODE c)
  | 14 => b.sees (F.CHN_REG_STAT_STEP c)
  | 15 => b.sees (F.CHN_REG_STAT_ZONE c)
  | 25 => b.sees (F.AXS_FORCE (waleOf c))
  | 26 => b.rd (F.ENG_DON c)
  | 27 => b.sees (F.CHN_LEG_CNT c)
  | 28 => b.sees (F.EISCH_STAT_END c)
  | 29 => b.sees (F.CHN_MEAS_STAT_RANGE c)
  | 30 => asSigned 32 (frameStart b.now / msTicks : Nat)
  | _ => 0

/-- GET (0x1D): selectors 16 to 24 read the event word and clear what they return; 31 and above are reserved. -/
def execSkGet (c : Fin 64) (s : State) : Result :=
  s.onTurn c 0x1D (fun b w =>
    let sel := field w 0 8
    let e := b.engOf c
    if 31 ≤ sel then .freeze 1 0x1D
    else if 16 ≤ sel ∧ sel ≤ 23 then
      let v : Int := if e.evt.testBit (sel - 16) then 1 else 0
      (b.setEng c { e with evt := clearBitN e.evt (sel - 16) }).resultZN c w v
    else if sel = 24 then (b.setEng c { e with evt := 0 }).resultZN c w e.evt
    else b.resultZN c w (asSigned 32 (b.getSel c sel)))

/-- GETA (0x1E): a_S saturated; C when it saturated. -/
def execSkGeta (c : Fin 64) (s : State) : Result :=
  s.onTurn c 0x1E (fun b w =>
    let v := b.rd (aKey c (sOf w % 4))
    let r := sat32 v
    let b := (b.setK c (dOf w) r).setZN c r
    (if satDiffers v then b.setC c true else b.setC c false).step1 c)

/-- CLRA (0x1F). -/
def execSkClra (c : Fin 64) (s : State) : Result :=
  s.onTurn c 0x1F (fun b w =>
    let q := field w 0 3
    if 6 ≤ q then .freeze 1 0x1F else (b.command c (.clra (dOf w % 4) q)).step1 c)

/-! ## Tables and steps (R232) -/

/-- ZONE (0x20): binds a zoned table. -/
def execSkZone (c : Fin 64) (s : State) : Result :=
  s.onTurn c 0x20 (fun b w =>
    let r := field w 0 6
    match b.refOf c r 2 with
    | none => .freeze 11 r
    | some m => (b.setEng c { b.engOf c with bound := some m.id }).step1 c)

/-- STEP (0x21): starts a step of the bound table at the next edge, tested with the entry of the zone in force. -/
def execSkStep (c : Fin 64) (s : State) : Result :=
  s.onTurn c 0x21 (fun b w =>
    let i := if (immOf w).testBit 4 then ((b.k c (sOf w)) % 16).toNat else field w 0 4
    match (b.engOf c).bound with
    | none => .freeze 11 0xFFFF
    | some id =>
      match b.zonedOf id with
      | none => .freeze 11 0xFFFF
      | some t =>
        if t.nstep ≤ i then .freeze 1 0x21
        else
          match b.failStep c (t.entry (b.zoneFor c id t) i) with
          | some off => .freeze 7 off
          | none => ((b.command c (.step id i)).setEng c { (b.command c (.step id i)).engOf c with legacyArm := none }).step1 c)

/-- Linear interpolation in a curve (R211, R232), rounded toward zero; the end values hold outside. -/
def curveAt (x : Int) : List (Int × Int) → Int
  | [] => 0
  | [(_, y)] => y
  | (x0, y0) :: (x1, y1) :: r =>
    if x ≤ x0 then y0
    else if x ≤ x1 then (y0 * (x1 - x0) + (y1 - y0) * (x - x0)).tdiv (x1 - x0)
    else curveAt x ((x1, y1) :: r)

/-- CURVE (0x22). -/
def execSkCurve (c : Fin 64) (s : State) : Result :=
  s.onTurn c 0x22 (fun b w =>
    let r := field w 0 6
    match b.refOf c r 4 with
    | some ⟨_, _, _, _, _, _, .curve pts⟩ => (b.setK c (dOf w) (curveAt (b.k c (sOf w)) pts)).step1 c
    | _ => .freeze 11 r)

/-- TERM (0x23): TERM_DIV and T_QUAL of direct steps. -/
def execSkTerm (c : Fin 64) (s : State) : Result :=
  s.onTurn c 0x23 (fun b w =>
    let div := field w 0 7
    if div ≠ 0 ∧ (div < 4 ∨ 64 < div) then .freeze 1 0x23
    else (b.wrote c 3 { (b.engOf c).overlay with termDiv := div, tQual := clampI 0 6553500 (b.k c (dOf w)) / 100 }).step1 c)

/-- SAFET (0x24): T_SAFE, negative as 0. -/
def execSkSafet (c : Fin 64) (s : State) : Result :=
  s.onTurn c 0x24 (fun b w => b.setTargets c 3 { (b.engOf c).overlay with tSafe := max 0 (b.k c (dOf w)) } none)

/-! ## Sweeps, grades and marks (R233, R234) -/

/-- SWEEP (0x25, D = 0): asks for a sweep with a sweep table. -/
def execSkSweep (c : Fin 64) (s : State) : Result :=
  s.onTurn c 0x25 (fun b w =>
    if dOf w = 0 then
      match b.refOf c (field w 0 6) 5 with
      | none => .freeze 11 (field w 0 6)
      | some m => (b.command c (.sweep m.id)).step1 c
    else if dOf w = 1 then .other
    else .freeze 1 0x25)

/-- SWEEP.STOP (0x25, D = 1): ends the channel's sweep, END = 4. -/
def execSkSweepStop (c : Fin 64) (s : State) : Result :=
  s.onTurn c 0x25 (fun b w =>
    if dOf w = 1 then (b.command c .sweepStop).step1 c
    else if dOf w = 0 then .other
    else .freeze 1 0x25)

/-- The value of a GRADE selector (R233, R186). -/
def GradeVec.sel (v : GradeVec) (n : Nat) : Int :=
  match n with
  | 0 => v.rOhm
  | 1 => v.rA
  | 2 => v.rB
  | 3 => v.fA
  | 4 => v.fB
  | 5 => v.d
  | 6 => v.resid
  | 7 => v.drift
  | _ => v.flags

/-- GRADE (0x26): a value of the cell's last grading vector; without one Z := 1 and k_D := 0. -/
def execSkGrade (c : Fin 64) (s : State) : Result :=
  s.onTurn c 0x26 (fun b w =>
    let n := field w 0 4
    if 9 ≤ n then .freeze 1 0x26
    else
      match b.gradeOf c with
      | none => ((b.setK c (dOf w) 0).setFlag (F.ENG_STAT_Z c) true).step1 c
      | some v => (b.setK c (dOf w) (v.sel n)).step1 c)

/-- Write one mark entry in a frame; a second stays on its instruction (R234). -/
def Bay.markOnce (b : Bay) (c w : Nat) (tag : Int) (log : Bool) : TurnEnd :=
  let e := b.engOf c
  let edge := frameStart b.now
  if e.markEdge = some edge then .stay
  else
    let v := b.k c (dOf w)
    let b := (b.setEng c { e with markEdge := some edge }).putEntry c (.mark tag v edge)
    (if log then b.raise (64 + c) tag v else b).step1 c

/-- MARK (0x27). -/
def execSkMark (c : Fin 64) (s : State) : Result :=
  s.onTurn c 0x27 (fun b w => b.markOnce c w (field w 0 15 : Nat) false)

/-- LOG (0x28): the same entry with bit 15 of TAG, and engine event 64 + c with the tag and value. -/
def execSkLog (c : Fin 64) (s : State) : Result :=
  s.onTurn c 0x28 (fun b w => b.markOnce c w (0x8000 + field w 0 15 : Nat) true)

/-! ## Groups, DONATE and the legacy profile (R200, R235) -/

/-- The bay has a Weave connection to another stake: a port of either cartridge is up. -/
def Bay.weaveLinked (b : Bay) : Bool :=
  (List.range 6).any (fun p => b.rd ⟨.wve, 0, 12, 4 * p⟩ == 2)

/-- The arrivals this bay alone can give: 16 for each present wale (R204 cause 12; log entry 24). -/
def Bay.localArrivals (b : Bay) : Int := 16 * (((List.range 4).filter (fun n => b.walePresent n)).length : Int)

/-- An arrival at a group with its timestamp; one channel counts once in a generation. The count reached fixes the release edge from the latest timestamp, so that every stake finds the same whatever order the arrivals come in (R200, R201). -/
def Bay.arrive (b : Bay) (g stake chan ts : Nat) : Bay :=
  let x := b.groupOf g
  if x.arrived.contains (stake, chan) then b
  else
    let arr := x.arrived ++ [(stake, chan)]
    let last := max x.lastTs ts
    let rel := if (arr.length : Int) = b.rd (F.GRP_CNT g) ∧ x.releaseAt = none then some (ceilTo msTicks (last + 50000)) else x.releaseAt
    (b.setGroup g { x with arrived := arr, firstAt := (if x.arrived.isEmpty then ts else min ts x.firstAt), lastTs := last, releaseAt := rel }).wr (F.GRP_STAT_ARRIVED g) arr.length

/-- The arrival of engine c at group g (R200): counted here and sent to the other stakes. -/
def Bay.arriveHere (b : Bay) (c g : Nat) : Bay :=
  let ts := frameStart b.now
  (b.arrive g (b.rdN F.BAY_NODE_ADDR) c ts).send (.arrival g (b.rd (F.GRP_STAT_GEN g)) c ts (b.rd (F.GRP_CNT g)))

/-- JOIN and SIGNAL freeze with cause 12 when the group can never fill (R204). -/
def Bay.groupHopeless (b : Bay) (g : Nat) : Bool := !b.weaveLinked && b.localArrivals < b.rd (F.GRP_CNT g)

/-- JOIN (0x29): arrives and waits. -/
def execSkJoin (c : Fin 64) (s : State) : Result :=
  s.onTurn c 0x29 (fun b w =>
    let g := field w 0 4
    if b.groupHopeless g then .freeze 12 g
    else
      let gen := b.rd (F.GRP_STAT_GEN g)
      let b := b.arriveHere c g
      let b := (b.setEngState c Es.waiting).setEng c { b.engOf c with wait := .group g gen }
      .done (((b.setFlag (F.ENG_STAT_JOINED c) true).wr (F.ENG_GRP_G c) g).wr (F.ENG_GRP_GEN c) gen) (b.rd (F.ENG_PC c)))

/-- SIGNAL (0x2A): arrives and continues. -/
def execSkSignal (c : Fin 64) (s : State) : Result :=
  s.onTurn c 0x2A (fun b w =>
    let g := field w 0 4
    if b.groupHopeless g then .freeze 12 g else (b.arriveHere c g).step1 c)

/-- DONATE (0x2B): the budget, tested against FLAGS [2] and DON_Q_MAX. -/
def execSkDonate (c : Fin 64) (s : State) : Result :=
  s.onTurn c 0x2B (fun b w =>
    let v := b.k c (dOf w)
    match b.tested c (fun t => if !bitOf t.flags 2 then some 0x02 else if t.donQMax < v then some 0x2C else none) with
    | some off => .freeze 7 off
    | none => (b.command c (.donate v)).step1 c)

/-- LEGACY (0x2C): arms the legacy profile for the next MODE. -/
def execSkLegacy (c : Fin 64) (s : State) : Result :=
  s.onTurn c 0x2C (fun b w =>
    let r := field w 0 6
    match b.refOf c r 2 with
    | none => .freeze 11 r
    | some m => (b.setEng c { b.engOf c with legacyArm := some m.id }).step1 c)

/-- RESERVED_OPCODE (R204): 0x2D to 0x3F freezes with cause 1. -/
def execReservedOpcode (c : Fin 64) (s : State) : Result :=
  let r := s.fetchRead c
  r.1.onBay (fun b => b.turn r.2 c (fun o => 0x2D ≤ o) (fun _ w => .freeze 1 (opOf w)))

end Sys2Proof.Machine
end

