-- ==== Sys2Proof/Machine/Regulate.lean ====
section
/-! DEFINITION. Channel regulation (spec chapter 05, R136 to R166): the 1 ms evaluation, step ends and timers, zones, the legacy profile, HOLD clears and the cell record. -/

namespace Sys2Proof.Machine

/-! ## End conditions (R149 to R152) -/

/-- i_fast of R150: SET in CC-CV, AUX in CV. -/
def Chan.iFast (x : Chan) : Int := if x.par.mode = 3 then x.par.aux else x.par.set

/-- Conditions 1 to 4 of R149 for channel c. A step set while a fault held the channel is stored and is not ended by it (R154). -/
def Bay.fastConds (b : Bay) (c : Nat) : List Nat :=
  let s := b.stageOf c
  if (b.chanOf c).stored then []
  else
    (if s.absent then [1] else [])
      ++ (if s.ov || b.rd (F.CHN_STG_STAT_STAGE c) = Stg.fault || b.healthy c = 0 then [2] else [])
      ++ (if !b.lineOn (1 + waleOf c) || b.mode = Mode.safeStop then [3] else [])
      ++ (if b.engState c = Es.frozen then [4] else [])

/-- The step charge limit (R149 condition 8): the magnitude of the net charge since step start reaches Q_LIM. -/
def Bay.chargeLimit (b : Bay) (c : Nat) : Bool :=
  let x := b.chanOf c
  x.par.mode ≠ 7 && 0 < x.par.qlim && x.par.qlim * 3600000 ≤ (b.netQ c - x.stepQ0).natAbs

/-- The limit has ended a mode that ends there (R137, R149 condition 7). -/
def Bay.voltEnds (b : Bay) (c : Nat) : Bool :=
  let m := (b.chanOf c).par.mode
  (m = 2 || m = 5 || m = 6 || m = 7) && (b.loopChOf c).lim

/-- The termination count has reached T_QUAL (R150, condition 9); TERM_DIV stands only in CV and CC-CV (R146). -/
def Bay.qualified (b : Bay) (c : Nat) : Bool :=
  let x := b.chanOf c
  0 < x.par.termDiv && (x.par.mode = 3 || x.par.mode = 4) && x.par.tqual * 100 ≤ b.rd (F.CHN_QUAL c)

/-- Conditions 5 to 10 of R149. A T_SAFE of 0, which only steps that do not charge may have (R142), sets no limit: the rest of example program 2 in chapter 08 runs 30 min with it (log entry 15). A legacy step does not end by termination, and in its top-off conditions 1 to 8 alone end it (R157); its safety timer stops with TRM. -/
def Bay.slowConds (b : Bay) (c : Nat) : List Nat :=
  let x := b.chanOf c
  (if !x.stored && x.holds.any (fun k => 5 ≤ k && k ≤ 7) then [5] else [])
    ++ (if 0 < x.par.tsafe && x.par.tsafe ≤ b.rd (F.CHN_SFT c) then [6] else [])
    ++ (if b.voltEnds c then [7] else [])
    ++ (if b.chargeLimit c then [8] else [])
    ++ (if b.qualified c && !x.par.legacy then [9] else [])
    ++ (if 0 < x.par.tstep && x.par.tstep ≤ b.rd (F.CHN_TMR c) && !b.flag (F.CHN_REG_STAT_TOPOFF c) then [10] else [])

/-- The ALSO mask of a list of conditions (R149). -/
def alsoMask (l : List Nat) : Int := ((l.foldl (fun m k => setBitN m (k - 1)) 0 : Nat) : Int)

/-- End the step by the lowest of the conditions that hold; TRM and TO are set by theirs (R149, R155). -/
def Bay.endBy (b : Bay) (c : Nat) (l : List Nat) : Bay :=
  match l with
  | [] => b
  | k :: _ =>
    if !(b.chanOf c).live then b
    else
      let b := b.onlyIf (l.contains 9) (fun b => b.setFlag (F.CHN_REG_STAT_TRM c) true)
      let b := b.onlyIf (l.contains 10) (fun b => b.setFlag (F.CHN_REG_STAT_TO c) true)
      (b.endStep c k (alsoMask l)).endWatch c

/-- The whole evaluation of R149 on channel c. -/
def Bay.evalStep (b : Bay) (c : Nat) : Bay := b.endBy c (b.fastConds c ++ b.slowConds c)

/-- The evaluation of conditions 1 to 4 at a frame edge (R149). -/
def Bay.evalFast (b : Bay) (c : Nat) : Bay := b.endBy c (b.fastConds c)

/-! ## The 1 ms tick (R149 to R152, R157, R158, R199, R281) -/

/-- Qualification over 1 ms (R150). -/
def Bay.qualTick (b : Bay) (c : Nat) : Bay :=
  let x := b.chanOf c
  let m := b.meansOf c
  let can := 0 < x.par.termDiv && (x.par.mode = 3 || (x.par.mode = 4 && b.flag (F.CHN_REG_STAT_LIM c))) && !m.ext
    && !b.flag (F.EISCH_STAT_RUN c) && x.holds.isEmpty && !b.flag (F.CHN_REG_STAT_TOPOFF c)
  if can then
    let low := (m.iMean.natAbs : Int) * x.par.termDiv < x.iFast.natAbs
    (b.wr (F.CHN_QUAL c) (if low then b.rd (F.CHN_QUAL c) + 1 else 0)).setFlag (F.CHN_REG_STAT_QUALIFYING c) true
  else b.setFlag (F.CHN_REG_STAT_QUALIFYING c) false

/-- The safety timer over 1 ms (R152): extended under an external limit by at most one T_SAFE; stopped in a top-off (R157). -/
def Bay.safeTick (b : Bay) (c : Nat) : Bay :=
  let x := b.chanOf c
  if b.flag (F.CHN_REG_STAT_TOPOFF c) then b
  else if (b.meansOf c).ext && b.rd (F.CHN_SFT_EXT c) < x.par.tsafe then b.wr (F.CHN_SFT_EXT c) (b.rd (F.CHN_SFT_EXT c) + 1)
  else b.wr (F.CHN_SFT c) (b.rd (F.CHN_SFT c) + 1)

/-- A legacy step that has met its termination: TRM, and the top-off begins (R157). -/
def Bay.topoffStart (b : Bay) (c : Nat) : Bay :=
  let x := b.chanOf c
  if x.live && x.par.legacy && b.qualified c && !b.flag (F.CHN_REG_STAT_TOPOFF c) then
    let b := (b.setFlag (F.CHN_REG_STAT_TRM c) true).setFlag (F.CHN_REG_STAT_TOPOFF c) true
    (b.setChan c { x with topMs := 0 }).recEvent c 4 0 0
  else b

/-- The end of a top-off (R157): cause 9, and the legacy watch in REST. -/
def Bay.topoffEnd (b : Bay) (c : Nat) : Bay :=
  let x := b.chanOf c
  if b.flag (F.CHN_REG_STAT_TOPOFF c) && x.live && x.leg.tTop ≤ x.topMs then
    let b := b.endStep c 9 256
    let b := b.setFlag (F.CHN_REG_STAT_WATCH c) true
    b.setChan c { b.chanOf c with watchMs := 0, watchPar := x.par }
  else b

/-- TOPOFF_END (R157). -/
def execTopoffEnd (c : Fin 64) (s : State) : Result := s.onBay (fun b => b.topoffEnd c)

/-- The recharges of the step are used up (R158). -/
def Bay.rechargeSpent (b : Bay) (c : Nat) : Bool :=
  let n := (b.chanOf c).leg.nRechg
  n ≠ 0 && n ≤ b.rd (F.CHN_LEG_CNT c)

/-- An automatic recharge (R158): the same step again with its timers at 0, a recharge entry and a step-start entry; without a recharge left the channel event once, when the next would have been due (DESIGN CHOICE, log entry 88). -/
def Bay.recharge (b : Bay) (c : Nat) : Bay :=
  let x := b.chanOf c
  if !b.flag (F.CHN_REG_STAT_WATCH c) || x.watchMs < max 1 x.leg.tRqual then b
  else if b.rechargeSpent c then
    if x.watchSpent then b else (b.setChan c { x with watchSpent := true }).note c
  else
    let b := (b.setFlag (F.CHN_REG_STAT_WATCH c) false).bump32 (F.CHN_LEG_CNT c)
    let b := b.recEvent c 5 (b.rd (F.CHN_LEG_CNT c)) (b.rd (F.CHN_V c))
    let b := b.zeroTimers c
    let b := b.setChan c { b.chanOf c with live := true, stepT0 := b.now, stepQ0 := b.netQ c, stepE0 := b.netE c, watchMs := 0, topMs := 0, toRest := false,
                                            par := x.watchPar }
    (((b.recStepStart c).setLoopCh c { b.loopChOf c with presetV := true }).syncMode c).disturbSweep c

/-- LEGACY_RECHARGE (R158). -/
def execLegacyRecharge (c : Fin 64) (s : State) : Result := s.onBay (fun b => b.recharge c)

/-- The watch compares a 1 ms mean of the cell voltage with V_RECHG (R158). -/
def Bay.watchTick (b : Bay) (c : Nat) : Bay :=
  let x := b.chanOf c
  if !b.flag (F.CHN_REG_STAT_WATCH c) then b
  else
    let b := b.setChan c { x with watchMs := if (b.meansOf c).vMean < x.leg.vRechg then x.watchMs + 1 else 0 }
    b.recharge c

/-- The means of the 25 samples of the last 1 ms (R150, R158). -/
def Bay.takeMeans (b : Bay) (c : Nat) : Bay :=
  let m := b.meansOf c
  let n : Int := if m.n = 0 then 1 else m.n
  b.setMeans c { m with iMean := if m.n = 0 then m.iMean else m.iSum.tdiv n, vMean := if m.n = 0 then m.vMean else m.vSum.tdiv n, iSum := 0, vSum := 0, n := 0 }

/-- The timers of channel c over 1 ms (R150 to R153, R157). Nothing counts in HOLD, nor at the time a step takes effect (R151). -/
def Bay.timers (b : Bay) (c : Nat) : Bay :=
  let x := b.chanOf c
  if !x.live then b.watchTick c
  else if x.stepT0 = b.now then b
  else if !x.holds.isEmpty then b.setFlag (F.CHN_REG_STAT_QUALIFYING c) false
  else
    let b := ((b.wr (F.CHN_TMR c) (b.rd (F.CHN_TMR c) + 1)).safeTick c).qualTick c
    if b.flag (F.CHN_REG_STAT_TOPOFF c) then b.setChan c { x with topMs := x.topMs + 1 } else b

/-- The 1 ms evaluation of one channel: means, timers, then the step ends (R149). -/
def Bay.chanTick (b : Bay) (c : Nat) : Bay :=
  let b := ((b.takeMeans c).timers c).evalStep c
  (b.topoffStart c).topoffEnd c

/-- The 1 ms evaluation of one engine's wait (R193, R199, R229), after that of its channel. -/
def Bay.waitTick (b : Bay) (c : Nat) : Bay :=
  if b.engState c ≠ Es.waiting then b
  else match (b.engOf c).wait with
    | .cond cc => if (b.condition c cc).getD false then b.wake c else b
    | .timed _ _ => b.waittTick c
    | .group _ _ => b.onlyIf (b.groupGone c) (fun b => b.wake c)
    | .none => b

/-- The X60 input of the pump or the fan (R281): the mean of the readings of the last 10 ms, and since when the signal has been beyond its loss level or within it (R282). -/
def Bay.x60Tick (b : Bay) (a : Nat) (v : Int) : Bay :=
  if isPress a || !b.xPresent then b
  else
    let x := b.axisOf a
    let l := (x.x60 ++ [v]).drop (x.x60.length - 9)
    let bad := match b.rd (F.AXS_CFG_X60_FORM a) with
      | 0 => decide (10500 < v)
      | 2 => decide (22000 < v)
      | _ => false
    let b := b.setAxis a { x with x60 := l, x60Bad := if bad then some (x.x60Bad.getD b.now) else none, x60Ok := if bad then none else some (x.x60Ok.getD b.now) }
    b.wr (F.AXS_X60_IN a) ((sumI l).tdiv l.length)

/-- MS_TICK (R149, R199, R281): at a multiple of 125,000 ticks; the operand brings the X60 readings of the axes that have one. -/
def execMsTick (x60 : List (Fin 6 × Int)) (s : State) : Result :=
  s.onBay (fun b =>
    if b.now % msTicks ≠ 0 then b
    else
      let b := (b.each allChans (fun b c => b.chanTick c)).seeEdge
      let b := b.each allChans (fun b c => b.waitTick c)
      x60.foldl (fun b p => b.x60Tick p.1 p.2) b)

/-- TERMINATION (R150): the count has reached T_QUAL; a legacy step goes into its top-off instead (R157). -/
def execTermination (c : Fin 64) (s : State) : Result :=
  s.onBay (fun b => if b.qualified c then (b.evalStep c).topoffStart c else b)

/-- SAFETY_TIMER_EXPIRE (R152). -/
def execSafetyTimerExpire (c : Fin 64) (s : State) : Result :=
  s.onBay (fun b => if (b.slowConds c).contains 6 then b.evalStep c else b)

/-- STEP_TIME_EXPIRE (R149 condition 10). -/
def execStepTimeExpire (c : Fin 64) (s : State) : Result :=
  s.onBay (fun b => if (b.slowConds c).contains 10 then b.evalStep c else b)

/-- The level of a PULSE step changes at the frame edge after T1 or T2 has run (R138). -/
def Bay.pulseEdge (b : Bay) (c : Nat) : Bay :=
  let x := b.chanOf c
  let t := (max 1 (if x.secondLevel then x.par.t2 else x.par.t1)).toNat
  if x.live && x.par.mode = 7 && x.holds.isEmpty && x.levelT0 + t * msTicks ≤ b.now && b.now % frameTicks = 0 then
    (b.setChan c { x with secondLevel := !x.secondLevel, levelT0 := b.now }).flagSweep c 4
  else b

/-- PULSE_LEVEL_CHANGE (R138): the frame edge brings the change by itself (log entry 88). -/
def execPulseLevelChange (c : Fin 64) (s : State) : Result := s.onBay (fun b => b.pulseEdge c)

/-! ## Zones (R147, R148) -/

/-- The new zone's entry `p` becomes the step's parameters (R148): the step goes on with its timers, a PULSE from its first level (DESIGN CHOICE, log entry 88); out of HOLD it asks for its cell switch, and a mode other than REST ends a call for donation (R62). -/
def Bay.enterZone (b : Bay) (c : Nat) (p : Params) : Bay :=
  let x := b.chanOf c
  let b := b.setChan c { x with par := p, ramp := none, secondLevel := false, levelT0 := b.now }
  let b := b.onlyIf (p.mode != x.par.mode) (fun b => b.setLoopCh c { b.loopChOf c with presetV := true })
  if p.mode = 0 then (b.hold c 1).syncMode c
  else
    let b := b.setStage c { b.stageOf c with cswReq := true, stopReq := false }
    ((b.onlyIf (1 < p.mode) (fun b => b.endDonation c)).leave c 1).syncMode c

/-- The entry of a new zone is tested (R142, R148): outside the border it freezes the engine with cause 7; a safety count that has passed its T_SAFE expires at once. -/
def Bay.testZone (b : Bay) (c : Nat) (p : Params) : Bay :=
  match b.failStep c p with
  | some off => b.freeze c 7 off
  | none => if p.mode = 0 then b else b.endBy c ((b.slowConds c).filter (· == 6))

/-- A new zone takes effect (R148): its entry becomes the step's parameters and is tested, qualification restarts, ZCH is raised and an event entry written. -/
def Bay.zoneChange (b : Bay) (c : Nat) : Bay :=
  let x := b.chanOf c
  match x.zonePend, x.src with
  | some z, .table id i =>
    let b := b.setChan c { x with zonePend := none }
    match b.zonedOf id with
    | none => b
    | some t =>
      let old := b.rd (F.CHN_REG_STAT_ZONE c)
      if z = old then b
      else
        let p := t.entry z i
        let b := (b.wr (F.CHN_REG_STAT_ZONE c) z).wr (F.CHN_QUAL c) 0
        let b := ((b.recEvent c 1 (old * 256 + z) (b.rd (F.CHN_T_ZONE c))).sendEvBit b.now c 1).disturbSweep c
        (b.enterZone c p).testZone c p
  | some _, _ => b.setChan c { x with zonePend := none }
  | none, _ => b

/-- A zone that is due at this frame edge (R148). -/
def Bay.zoneEdge (b : Bay) (c : Nat) : Bay := b.onlyIf (b.now % frameTicks == 0 && (b.chanOf c).live) (fun b => b.zoneChange c)

/-- ZONE_CHANGE (R148): at a frame edge; the frame edge brings the change by itself (log entry 88). -/
def execZoneChange (c : Fin 64) (s : State) : Result := s.onBay (fun b => b.zoneEdge c)

/-- T_Z of channel c from its two cell temperatures and their validity (R147); `none` when both are invalid. -/
def zoneTemp (t : Int × Int) (bad0 bad1 : Bool) : Option Int :=
  match bad0, bad1 with
  | false, false => some (max t.1 t.2)
  | false, true => some t.1
  | true, false => some t.2
  | true, true => none

/-- T_Z after a cell temperature update (R143, R147): the zone moves, over-temperature and no valid reading hold the channel, charging outside the range raises the channel event once. -/
def Bay.cellTempUpdate (b : Bay) (c : Nat) : Bay :=
  match zoneTemp (b.cellTOf c) (b.flag (F.CHN_REG_STAT_TEMP0_BAD c)) (b.flag (F.CHN_REG_STAT_TEMP1_BAD c)) with
  | none => b.hold c 6
  | some tz =>
    let b := b.wr (F.CHN_T_ZONE c) tz
    let x := b.chanOf c
    let b := match x.src with
      | .table id _ =>
        match b.zonedOf id with
        | some t => b.setChan c { x with zonePend := some (t.moveZone tz 16 (x.zonePend.getD (b.rd (F.CHN_REG_STAT_ZONE c)))) }
        | none => b
      | _ => b
    if b.flag (F.CHN_REG_STAT_BORDER_OK c) && (b.borderOf c).tMax ≤ tz then b.hold c 5 else b

/-! ## Measured values against the border (R143) -/

/-- The net charge since cell start has reached Q_CELL_MAX (R143). -/
def Bay.envelopeFull (b : Bay) (c : Nat) : Bool :=
  b.flag (F.CHN_REG_STAT_BORDER_OK c) && b.cellOpen c && (b.borderOf c).qCellMax * 3600000 ≤ b.netQ c - (b.chanOf c).cellQ0

/-- The charge envelope at a frame edge (R143): HOLD cause 7 when it is first reached; after a clear the charge current stays clamped. -/
def Bay.envelopeEdge (b : Bay) (c : Nat) : Bay :=
  let x := b.chanOf c
  if b.envelopeFull c then
    if x.envCleared then b else b.hold c 7
  else if x.envCleared then b.setChan c { x with envCleared := false } else b

/-- A clamp of R143 that holds charging raises the channel event once, and either clamp sets LIM. A discharging cell below 0.50 V raises it once too (R77). The tests use values without a sweep's fundamental (R170). -/
def Bay.clampEdge (b : Bay) (c : Nat) : Bay :=
  let x := b.chanOf c
  let t := b.borderOf c
  let tz := b.rd (F.CHN_T_ZONE c)
  let v := b.loopV c
  let asks := b.asks c v ((x.vLimNow b.now - v : Int) : Rat) (b.loopChOf c).iTgt
  let asks := if x.live || asks < 0 then asks else 0
  let ok := b.flag (F.CHN_REG_STAT_BORDER_OK c)
  let hot := ok && 0 < asks && (tz < t.tChgMin || t.tChgMax < tz)
  let lowV := ok && asks < 0 && v ≤ t.vMin
  let b := if hot && !x.clampEv then b.note c else b
  let low := b.switchClosed c && (asks < 0 || (b.stageOf c).iTgt < 0) && b.rd (F.CHN_V c) < 500000
  let b := if low && !x.lowEv then b.note c else b
  let b := b.setChan c { x with clampEv := hot, lowEv := low }
  b.onlyIf (hot || lowV) (fun b => b.setFlag (F.CHN_REG_STAT_LIM c) true)

/-! ## HOLD clears (R154) -/

/-- The condition of a HOLD cause of 5 to 8 is gone (R154). -/
def Bay.causeGone (b : Bay) (c k : Nat) : Bool :=
  match k with
  | 5 => b.rd (F.CHN_T_ZONE c) < (b.borderOf c).tMax - 200
  | 6 => !(b.flag (F.CHN_REG_STAT_TEMP0_BAD c) && b.flag (F.CHN_REG_STAT_TEMP1_BAD c))
  | _ => true

/-- The causes of 5 to 8 that hold channel c. -/
def Bay.clearable (b : Bay) (c : Nat) : List Nat := (b.chanOf c).holds.filter (fun k => 5 ≤ k && k ≤ 8)

/-- A read of CHNcc.REG_STAT (R154): with a cause of 5 to 8 present and gone, HOLD_CLR is armed. -/
def Bay.regStatRead (b : Bay) (c : Nat) : Bay :=
  b.onlyIf ((b.clearable c).any (fun k => b.causeGone c k)) (fun b => b.setFlag (F.CHN_REG_STAT_CLR_ARMED c) true)

/-- REG_STAT_READ (R154). -/
def execRegStatRead (c : Fin 64) (s : State) : Result := s.onBay (fun b => b.regStatRead c)

/-- A write of HOLD_CLR (R154): refused without its read; the causes that are gone are left. -/
def Bay.holdClr (b : Bay) (c : Nat) : Bay :=
  b.gated (F.CHN_REG_CTL_HOLD_CLR c) (fun b =>
    if !b.flag (F.CHN_REG_STAT_CLR_ARMED c) then b.refuse (F.CHN_REG_CTL_HOLD_CLR c) 5
    else
      let gone := (b.clearable c).filter (fun k => b.causeGone c k)
      let b := b.setFlag (F.CHN_REG_STAT_CLR_ARMED c) false
      let b := b.onlyIf (gone.contains 7) (fun b => b.setChan c { b.chanOf c with envCleared := true })
      b.each gone (fun b k => b.leave c k))

/-- HOLD_CLR (R154). -/
def execHoldClr (c : Fin 64) (s : State) : Result := s.onBay (fun b => b.holdClr c)

/-! ## The cell record (R160 to R165) -/

/-- INTERVAL_CLOSE (R162): at a multiple of 125,000,000 ticks every started cell writes its interval. -/
def execIntervalClose (s : State) : Result :=
  s.onBay (fun b => if b.now % secTicks = 0 then b.each allChans (fun b c => b.closeInterval c) else b)

/-- SEAL_TRIGGER (R160): 1,014 slots since the last seal reserve ten for a seal. -/
def execSealTrigger (c : Fin 64) (s : State) : Result :=
  s.onBay (fun b => if sealBlock ≤ (b.ringOf c).sinceSeal && b.cellOpen c then b.sealTrigger c false else b)

/-- RING_NEAR_FULL (R165): HOLD cause 11 from 130,048 slots on. -/
def execRingNearFull (c : Fin 64) (s : State) : Result :=
  s.onBay (fun b => if ringNearFull ≤ (b.ringOf c).fill then b.hold c 11 else b)

/-- RING_FULL (R165): the ring has no free slot; the channel soft-stops and entries are dropped and counted. -/
def execRingFull (c : Fin 64) (s : State) : Result :=
  s.onBay (fun b =>
    let r := b.ringOf c
    if ringSlots ≤ r.fill || r.full then (b.setRing c { r with full := true }).softStop c else b)

/-- Space has returned (R165): the gap entry and what was held; below 98,304 slots cause 11 is left. A release brings it at once. -/
def Bay.spaceReturn (b : Bay) (c : Nat) : Bay :=
  let b := b.ringSpace c
  b.onlyIf ((b.ringOf c).fill < ringWarn) (fun b => b.leave c 11)

/-- RING_SPACE_RETURN (R165). -/
def execRingSpaceReturn (c : Fin 64) (s : State) : Result := s.onBay (fun b => b.spaceReturn c)

/-- A write of CHNcc.REG_CTL.CELL_END (R160, R399): accepted while the switch is open and a cell is started. -/
def Bay.cellEndCmd (b : Bay) (c : Nat) : Bay :=
  b.gated (F.CHN_REG_CTL_CELL_END c) (fun b =>
    if b.switchClosed c || !b.cellOpen c then b.refuse (F.CHN_REG_CTL_CELL_END c) 4 else b.endCell c 0)

/-- CELL_END (R160). -/
def execCellEnd (c : Fin 64) (s : State) : Result := s.onBay (fun b => b.cellEndCmd c)

/-- A stored step acts once no fault is left; cause 4 is left when the latch is cleared, a new cell identifier stands and a mode has been set (R154, R156). -/
def Bay.storedEdge (b : Bay) (c : Nat) : Bay :=
  let x := b.chanOf c
  let s := b.stageOf c
  let b := b.onlyIf (x.holds.contains 4 && !s.absent && !x.needNewCell && x.live && b.rd (F.CHN_CELL_ID c) != 0) (fun b => b.leave c 4)
  let x := b.chanOf c
  if x.stored && x.holds.all (fun k => k < 3) && !(s.ov || s.absent || s.faulted) then b.setChan c { x with stored := false } else b

/-- The frame edge after a cell-absent declaration (R156): the step ends with cause 1, HOLD cause 4, and the record closes with the stage's cause. -/
def Bay.absentEdge (b : Bay) (c : Nat) : Bay :=
  if !(b.stageOf c).absent || !b.cellOpen c then b
  else
    let b := b.evalFast c
    let b := ((b.hold c 4).endDonation c).endWatch c
    let b := (b.setChan c { b.chanOf c with needNewCell := true }).markInterval c 7
    b.endCell c 1

end Sys2Proof.Machine
end

