-- ==== Sys2Proof/Machine/Therm.lean ====
section
/-! DEFINITION. Temperatures, derating, throttling and thermal shutdown (spec chapter 14). Temperatures in 0.01 °C, flow in 0.01 L/min. -/

namespace Sys2Proof.Machine

/-! ## Sensors (R356) -/

/-- The model's number of a sensor. -/
def sensorId : Sensor → Nat
  | .cell c w => 2 * c.val + w.val
  | .phase c p => 128 + 4 * c.val + p.val
  | .cellSwitch c => 384 + c.val
  | .conv n k => 448 + 8 * n.val + k.val
  | .leg a k => 488 + 3 * a.val + k.val
  | .plate n => 506 + n.val
  | .inlet => 512
  | .outlet => 513
  | .flow => 514
  | .die x => 515 + x.val
  | .comp k => 517 + k.val

/-- The coolant plate of a slot. -/
def plateKey (n : Nat) : Key :=
  match n with
  | 0 => F.THM_PLATE0_T
  | 1 => F.THM_PLATE1_T
  | 2 => F.THM_PLATE2_T
  | 3 => F.THM_PLATE3_T
  | 4 => F.THM_PLATE4_T
  | _ => F.THM_PLATE5_T

/-- The highest junction estimate of a slot. -/
def tjmaxKey (n : Nat) : Key :=
  match n with
  | 0 => F.THM_TJMAX0
  | 1 => F.THM_TJMAX1
  | 2 => F.THM_TJMAX2
  | 3 => F.THM_TJMAX3
  | _ => F.THM_TJMAX4

/-- The plate whose cartridge a sensor sits in, if it sits in one with a plate. -/
def sensorPlate : Sensor → Option Nat
  | .phase c _ => some (waleOf c)
  | .cellSwitch c => some (waleOf c)
  | .conv n _ => some n
  | .leg _ _ => some 4
  | .plate n => some n
  | _ => none

/-- The limit of R356 that governs a sensor's rate; the manifold sensors and those of R357 have none. -/
def Bay.sensorLimit (b : Bay) : Sensor → Option Int
  | .cell c _ => if b.flag (F.CHN_REG_STAT_BORDER_OK c) then some (b.borderOf c).tMax else none
  | .phase _ _ => some 11000
  | .cellSwitch _ => some 11000
  | .conv _ _ => some 11000
  | .leg _ _ => some 11000
  | .plate _ => some 9500
  | .die _ => some 10000
  | _ => none

/-- Replace the hidden thermal state. -/
def Bay.setTherm (b : Bay) (t : Therm) : Bay := { b with therm := t }

/-- The value that the rate of a sensor is judged by: the junction estimate of a power switch, the reading of any other (R356, R358). -/
def Bay.rateValue (b : Bay) (x : Sensor) (v : Int) : Int :=
  match x with
  | .phase c p => nth (b.thermChOf c).tj p
  | .cellSwitch c => nth (b.thermChOf c).tj 4
  | .conv n _ => nth b.therm.convTj n
  | .leg a _ => nth b.therm.legTj a
  | _ => v

/-- Rate selection (R356): 500 Hz within 10 K of the limit; the time since which readings have stayed more than 12 K below it. -/
def Bay.rateSelect (b : Bay) (x : Sensor) (v : Int) : Bay :=
  match b.sensorLimit x with
  | none => b
  | some lim =>
    let id := sensorId x
    let t := b.therm
    let fast := if lim - 1000 ≤ v && !t.fast.contains id then t.fast ++ [id] else t.fast
    let rest := t.slowSince.filter (fun p => p.1 != id)
    let slow := if v < lim - 1200 then (if t.slowSince.any (fun p => p.1 == id) then t.slowSince else rest ++ [(id, b.now)]) else rest
    (b.setTherm { t with fast := fast, slowSince := slow }).wr F.THM_STAT_FAST (min 255 fast.length : Nat)

/-- SENSOR_RATE_SLOW (R356): after 1 s more than 12 K below its limit a sensor returns to 10 Hz. -/
def Bay.rateSlow (b : Bay) (x : Sensor) : Bay :=
  let id := sensorId x
  let t := b.therm
  match t.slowSince.find? (fun p => p.1 == id) with
  | some p =>
    if t.fast.contains id && secTicks ≤ b.now - p.2 then
      let fast := t.fast.filter (· != id)
      (b.setTherm { t with fast := fast }).wr F.THM_STAT_FAST (min 255 fast.length : Nat)
    else b
  | none => b

/-- SENSOR_RATE_SLOW (R356). -/
def execSensorRateSlow (x : Sensor) (s : State) : Result := s.onBay (fun b => b.rateSlow x)

/-! ## Thermal shutdown (R362 to R365) -/

/-- The 64-byte record of a trip (R363). -/
def Bay.tripRecord (b : Bay) (cause slot : Nat) (sensor value : Int) : List Byte :=
  let p := fun n => leBytes 2 (b.rd (plateKey n))
  let body := leBytes 2 0x0E01 ++ leBytes 1 cause ++ leBytes 1 slot ++ leBytes 2 sensor ++ leBytes 2 value ++ leBytes 8 b.now
    ++ p 0 ++ p 1 ++ p 2 ++ p 3 ++ p 4 ++ p 5 ++ leBytes 2 (b.rd F.THM_INLET_T) ++ leBytes 2 (b.rd F.THM_OUTLET_T)
    ++ leBytes 2 (b.rd F.THM_FLOW) ++ leBytes 1 (b.rd F.THM_COOL_F_VAL) ++ leBytes 1 (b.rd F.THM_STAT_THR)
    ++ leBytes 4 ((b.rd F.PWR_X1_V * b.rd F.PWR_X1_I) / 1000000) ++ leBytes 4 b.therm.seq ++ leBytes 16 0
  body ++ leBytes 4 (crc32 body : Nat)

/-- The record goes to the ring of 16 (R363). -/
def Bay.logTrip (b : Bay) (r : List Byte) : Bay :=
  let t := b.therm
  (b.setTherm { t with log := t.log.put (t.seq % 16) r, seq := t.seq + 1 }).wr F.THM_STAT_NEXT ((t.seq + 1) % 16 : Nat)

/-- A trip in the pump's or the fan's own legs stops that axis (R268, R362). -/
def Bay.tripAxis (b : Bay) (axis : Option Nat) : Bay :=
  match axis with
  | some a => b.stopAxis a
  | none => b

/-- What stops within 2 ms of a trip (R362, R365): sweeps, every channel, the section converters, the presses, a ride-through; an axis whose own legs tripped stops. -/
def Bay.tripStops (b : Bay) (axis : Option Nat) : Bay :=
  let b := b.each allChans (fun b c => ((b.endSweepEarly c 6).quickStop c).hold c 10)
  let b := b.each b.wales (fun b n => b.setWale n { b.waleSt n with convOn := false })
  b.stopPresses.rtStop.tripAxis axis

/-- A trip (R362 to R365): the first sets THM.TSD and stops the bay, event 187; a later one before the clear is recorded, and in a pump's or fan's own legs still stops that axis (R268). `q` numbers the quantity, which trips anew only once it has stood clear. -/
def Bay.trip (b : Bay) (q cause slot : Nat) (sensor value : Int) (axis : Option Nat) : Bay :=
  if b.therm.tripped.contains q then b
  else
    let b := b.setTherm { b.therm with tripped := b.therm.tripped ++ [q] }
    let b := b.logTrip (b.tripRecord cause slot sensor value)
    if b.flag F.THM_STAT_TSD then b.tripAxis axis
    else
      let b := ((b.setFlag F.THM_STAT_TSD true).setFlag F.THM_STAT_CLR_ARMED false).wr F.THM_TSD_CAUSE cause
      let b := (b.wr F.THM_TSD_SLOT slot).wr F.THM_TSD_SENSOR sensor
      ((b.tripStops axis).note 187).stopFor 6

/-- A quantity stands clear of its trip (R364). -/
def Bay.untrip (b : Bay) (q : Nat) : Bay :=
  if b.therm.tripped.contains q then b.setTherm { b.therm with tripped := b.therm.tripped.filter (· != q) } else b

/-- A quantity against its trip and clear levels. -/
def Bay.tripLevel (b : Bay) (q cause slot : Nat) (sensor value trip clear : Int) (axis : Option Nat) : Bay :=
  if trip ≤ value then b.trip q cause slot sensor value axis else if value ≤ clear then b.untrip q else b

/-- Every tripping quantity stands clear (R364). -/
def Bay.tripsClear (b : Bay) : Bool :=
  allChans.all (fun c => (b.thermChOf c).tj.all (· ≤ 12000)) && b.therm.convTj.all (· ≤ 12000) && b.therm.legTj.all (· ≤ 12000)
    && (List.range 6).all (fun n => b.rd (plateKey n) ≤ 8000) && 600 ≤ b.rd F.THM_FLOW

/-- TSD_READ (R364). -/
def execTsdRead (s : State) : Result :=
  s.onBay (fun b => if b.flag F.THM_STAT_TSD then b.setFlag F.THM_STAT_CLR_ARMED true else b)

/-- A write of TSD_CLR (R364): reason 5 without the read, 4 while a quantity is not clear. -/
def Bay.tsdClear (b : Bay) : Bay :=
  if !b.flag F.THM_STAT_CLR_ARMED then b.refuse F.THM_CTL_TSD_CLR 5
  else if !b.tripsClear then b.refuse F.THM_CTL_TSD_CLR 4
  else
    let b := ((b.setFlag F.THM_STAT_TSD false).setFlag F.THM_STAT_CLR_ARMED false).setTherm { b.therm with tripped := [] }
    (b.each b.wales (fun b n => b.setWale n { b.waleSt n with convOn := b.rd (F.SEC_STAT_STATE n) == 0 })).note 188

/-- TSD_CLR (R364). -/
def execTsdClr (s : State) : Result := s.onBay (fun b => b.gated F.THM_CTL_TSD_CLR Bay.tsdClear)

/-- FLOW_LOSS (R360, R362): below 2.0 L/min for 5 s. -/
def Bay.flowLoss (b : Bay) : Bay :=
  match b.therm.flowLow with
  | some t => if 5 * secTicks ≤ b.now - t then b.trip 350 3 6 (Config.sensorNumber 514) (b.rd F.THM_FLOW) none else b
  | none => b

/-- FLOW_LOSS (R360). -/
def execFlowLoss (s : State) : Result := s.onBay Bay.flowLoss

/-! ## Coolant (R359, R360) -/

/-- k_cool (R359). -/
def coolFactor (flow tIn : Int) : Rat := max 0 (min 1 (min (mkRat flow 1200) (mkRat (4500 - tIn) 1000)))

/-- k_cool follows flow and inlet once both have been read; event 186 as it falls below 1 and as it returns (R360). -/
def Bay.coolUpdate (b : Bay) : Bay :=
  let t := b.therm
  if t.coolSeen ≠ 3 then b
  else
    let k := coolFactor (b.rd F.THM_FLOW) (b.rd F.THM_INLET_T)
    let was := b.flag F.THM_STAT_COOL_LIM
    let b := ((b.setTherm { t with kcool := k }).wr F.THM_COOL_F_VAL (k * 200).floor).setFlag F.THM_STAT_COOL_LIM (k < 1)
    if was = decide (k < 1) then b else b.note 186

/-! ## Junction estimates and derating (R358, R359) -/

/-- A first-order lag over one frame: `T / τ` is 1 / n (R358). -/
def lagStep (x p : Rat) (n : Nat) : Rat := fadd x (fmul (fsub p x) (mkRat 1 n))

/-- The losses of the five power switches of a channel in W (R358): the phases in order, the cell switch. -/
def Bay.switchLoss (b : Bay) (c : Nat) : List Rat :=
  let n := waleOf c
  let rdc : Rat := mkRat (b.rd (F.SEC_MOD_CFG_RDC n)) 100000
  let vb : Rat := mkRat (b.rd (F.SEC_BUS_V n)) 1000
  let phase := fun (k : Key) =>
    let i : Rat := mkRat (b.rd k) 100
    fadd (fmul (fmul i i) rdc) (fmul (fmul vb (absR i)) (mkRat 4 1000))
  let i : Rat := mkRat (b.rd (F.CHN_I c)) 1000000
  [phase (F.CHN_PH_I01_P0 c), phase (F.CHN_PH_I01_P1 c), phase (F.CHN_PH_I23_P2 c), phase (F.CHN_PH_I23_P3 c),
   if b.switchClosed c then fmul (fmul i i) (mkRat 25 100000) else 0]

/-- One frame of the junction estimates of channel c (R358). -/
def Bay.junctionFrame (b : Bay) (c : Nat) : Bay :=
  let x := b.thermChOf c
  let p := b.switchLoss c
  let at_ := fun (l : List Rat) (k : Nat) => l.getD k 0
  let h2 := (List.range 5).map (fun k => lagStep (at_ x.h2 k) (at_ p k) 50)
  let h60 := (List.range 5).map (fun k => lagStep (at_ x.h60 k) (at_ p k) 1500)
  let ts := fun k => if k < 4 then b.phaseT c k else x.tsw
  let tj := (List.range 5).map (fun k => ts k + truncR (fadd (fmul 15 (at_ h2 k)) (fmul 35 (at_ h60 k))))
  b.setThermCh c { x with h2 := h2, h60 := h60, tj := tj }

/-- f_j (R359). -/
def fjOf (tj : Int) : Rat := max 0 (min 1 (mkRat (12500 - tj) 1500))

/-- A derating factor in 0.5 % steps, rounded down (R359). -/
def derateSteps (f : Rat) : Int := (f * 200).floor

/-- An object enters or leaves derating, event 184 (R359). -/
def Bay.derateMark (b : Bay) (o : Nat) (f : Int) : Bay :=
  let t := b.therm
  if f < 200 && !t.derated.contains o then (b.setTherm { t with derated := t.derated ++ [o] }).note 184
  else if 200 ≤ f && t.derated.contains o then (b.setTherm { t with derated := t.derated.filter (· != o) }).note 184
  else b

/-- The hottest junction of a channel that counts for its factor: its active healthy phases and its cell switch (R359). -/
def Bay.hotOf (b : Bay) (c : Nat) : Int :=
  let tj := (b.thermChOf c).tj
  let act := phasesOf (b.healthy c &&& b.rdN (F.CHN_STG_STAT_PH_ACT c))
  act.foldl (fun m p => max m (nth tj p)) (nth tj 4)

/-- Junction estimates, trips, derating and TJMAX of the whole bay at a frame edge (R358, R359, R362). -/
def Bay.thermalFrame (b : Bay) : Bay :=
  let k := b.therm.kcool
  let b := b.each b.wales (fun b n =>
    let b := b.each (waleChans n) (fun b c =>
      let b := b.junctionFrame c
      let b := b.each [0, 1, 2, 3, 4] (fun b p =>
        b.tripLevel (5 * c + p) 1 n (Config.sensorNumber (if p < 4 then 128 + 4 * c + p else 384 + c)) (nth (b.thermChOf c).tj p) 13500 12000 none)
      let f := derateSteps (fjOf (b.hotOf c) * k)
      (b.setThermCh c { b.thermChOf c with f := f }).derateMark c f)
    let tj := nth b.therm.convTj n
    let f := derateSteps (fjOf tj * k)
    let b := (b.setTherm { b.therm with convF := b.therm.convF.set n f }).derateMark (64 + n) f
    let b := b.tripLevel (320 + n) 1 n (Config.sensorNumber (448 + 8 * n)) tj 13500 12000 none
    b.wr (tjmaxKey n) ((waleChans n).foldl (fun m c => (b.thermChOf c).tj.foldl max m) tj))
  let b := if !b.xPresent then b else
    let tj := nth b.therm.convTj 4
    let b := b.each [0, 1, 2, 3, 4, 5] (fun b a =>
      let f := derateSteps (fjOf (nth b.therm.legTj a))
      let b := (b.setTherm { b.therm with axisF := b.therm.axisF.set a f }).derateMark (70 + a) f
      b.tripLevel (330 + a) 1 4 (Config.sensorNumber (488 + 3 * a)) (nth b.therm.legTj a) 13500 12000 (if a < 4 then none else some a))
    let b := b.tripLevel 324 1 4 (Config.sensorNumber 480) tj 13500 12000 none
    b.wr F.THM_TJMAX4 (b.therm.legTj.foldl max tj)
  b.setFlag F.THM_STAT_DERATE (!b.therm.derated.isEmpty)

/-! ## Throttling (R361) -/

/-- The throttle level of a die temperature, from the level in force (R361). -/
def throttleOf (t cur : Int) : Int :=
  if 11000 ≤ t || (cur = 2 && 10500 ≤ t) then 2
  else if 10000 ≤ t || (1 ≤ cur && 9500 ≤ t) then 1
  else 0

/-- The higher of the die temperatures of the fitted cartridges (R361). -/
def Bay.dieMax (b : Bay) : Int :=
  let ca := b.rd F.THM_DIE_T_CA
  let cb := b.rd F.THM_DIE_T_CB
  if !b.cPresent 1 then ca else if !b.cPresent 0 then cb else max ca cb

/-- The level follows the higher of the two dies, at one frame edge in both cartridges; event 185 (R361). -/
def Bay.throttleEdge (b : Bay) : Bay :=
  let cur := b.rd F.THM_STAT_THR
  let l := throttleOf b.dieMax cur
  if l = cur then b else ((((b.wr F.THM_STAT_THR l).wr F.LOOP_STAT_THR l).wr F.SKN_STAT_THR l).note 185)

/-! ## A sample (R356) -/

/-- A reading is valid (R147, R356): in range, and the front end reports no open or shorted sensor. The range is one of temperatures; the flow has none. -/
def sensorValid (x : Sensor) (v : Int) (fault : Bool) : Bool :=
  !fault && match x with
    | .cell _ _ => -4000 ≤ v && v ≤ 15000
    | .flow => true
    | _ => -4000 ≤ v && v ≤ 20000

/-- Note whether a sensor is valid; event 190 when another than a cell sensor or one of R357 becomes invalid (R356). -/
def Bay.sensorMark (b : Bay) (x : Sensor) (ok : Bool) : Bay :=
  let id := sensorId x
  let t := b.therm
  let quiet := match x with
    | .cell _ _ => true
    | .comp _ => true
    | _ => false
  if ok then (if t.invalid.contains id then b.setTherm { t with invalid := t.invalid.filter (· != id) } else b)
  else if t.invalid.contains id then b
  else
    let b := b.setTherm { t with invalid := t.invalid ++ [id] }
    if quiet then b else b.note 190

/-- The reading in use (R356): an invalid one is replaced by the plate of its cartridge plus 30 K, the plate itself by its last valid reading plus 30 K; where no plate belongs to the sensor the spec states no value, which is free (log entry 1). -/
def Bay.readingUsed (b : Bay) (x : Sensor) (v : Int) (ok : Bool) : Int × Bay :=
  if ok then (v, b)
  else match sensorPlate x with
    | some n => (match x with
      | .plate _ => nth b.therm.plateOk n
      | _ => b.rd (plateKey n)) + 3000 |> (·, b)
    | none => b.free

/-- A valid or replaced reading takes effect where its sensor belongs. -/
def Bay.applyReading (b : Bay) (x : Sensor) (v : Int) : Bay :=
  match x with
  | .phase c p =>
    let b := b.wr (match p.val with
      | 0 => F.CHN_PH_T01_P0 c
      | 1 => F.CHN_PH_T01_P1 c
      | 2 => F.CHN_PH_T23_P2 c
      | _ => F.CHN_PH_T23_P3 c) v
    if p.val = 3 then b.balance c (mkRat ((b.now - (b.stageOf c).balanceAt : Nat) : Int) (100 * msTicks)) else b
  | .cellSwitch c => b.setThermCh c { b.thermChOf c with tsw := v }
  | .plate n => ((b.wr (plateKey n) v)).tripLevel (340 + n) 2 n (Config.sensorNumber (506 + n)) v 9500 8000 none
  | .inlet => ((b.wr F.THM_INLET_T v).setTherm { b.therm with coolSeen := b.therm.coolSeen ||| 1 }).coolUpdate
  | .outlet => b.wr F.THM_OUTLET_T v
  | .flow =>
    let low := if 200 ≤ v then none else some (b.therm.flowLow.getD b.now)
    let b := ((b.wr F.THM_FLOW v).setTherm { b.therm with coolSeen := b.therm.coolSeen ||| 2, flowLow := low }).coolUpdate
    if 600 ≤ v then b.untrip 350 else b
  | .die x =>
    let b := b.wr (if x.val = 0 then F.THM_DIE_T_CA else F.THM_DIE_T_CB) v
    if 12000 ≤ v then (if b.red.out.contains x.val || b.red.silent.contains x.val then b else (b.note 191).selfFault x 2) else b
  | _ => b

/-- A cell sensor's reading (R147): an invalid one raises the channel event; T_Z follows. -/
def Bay.cellReading (b : Bay) (c w : Nat) (v : Int) (ok : Bool) : Bay :=
  let k := if w = 0 then F.CHN_REG_STAT_TEMP0_BAD c else F.CHN_REG_STAT_TEMP1_BAD c
  let b := if !ok && !b.flag k then b.note c else b
  let b := b.setFlag k (!ok)
  let t := b.cellTOf c
  let b := if ok then b.setCellT c (if w = 0 then (v, t.2) else (t.1, v)) else b
  b.cellTempUpdate c

/-- A sensor is sampled (R356). `v` in 0.01 °C, or 0.01 L/min of the flow; `fault` an open or shorted sensor. -/
def Bay.tempSample (b : Bay) (x : Sensor) (v : Int) (fault : Bool) : Bay :=
  let ok := sensorValid x v fault
  let b := b.sensorMark x ok
  match x with
  | .cell c w => (b.cellReading c w v ok).onlyIf ok (fun b => b.rateSelect x v)
  | .comp k => b.onlyIf ok (fun b => b.setTherm { b.therm with compT := b.therm.compT.set k (some v) })
  | _ =>
    let b := match x with
      | .plate n => b.onlyIf ok (fun b => b.setTherm { b.therm with plateOk := b.therm.plateOk.set n v })
      | _ => b
    let r := b.readingUsed x v ok
    let b := r.2.applyReading x r.1
    b.rateSelect x (b.rateValue x r.1)

/-- The slot a sensor sits in is fitted. -/
def Bay.sensorFitted (b : Bay) : Sensor → Bool
  | .cell c _ => b.walePresent (waleOf c)
  | .phase c _ => b.walePresent (waleOf c)
  | .cellSwitch c => b.walePresent (waleOf c)
  | .conv n _ => if n.val < 4 then b.walePresent n else b.xPresent
  | .leg _ _ => b.xPresent
  | .plate n => if n.val < 4 then b.walePresent n else if n.val = 4 then b.xPresent else b.mPresent
  | .die x => b.cPresent x
  | .comp k => k.val = 0 || b.walePresent (k.val - 1)
  | _ => true

/-- TEMPERATURE_SAMPLE (R356). -/
def execTemperatureSample (x : Sensor) (v : Int) (fault : Bool) (s : State) : Result :=
  s.onBay (fun b => if b.sensorFitted x then b.tempSample x v fault else b)

/-- A third-order polynomial, lowest coefficient first, at a temperature in 0.01 °C (R357). -/
def polyAt (k : List Rat) (t : Int) : Rat :=
  let x : Rat := mkRat t 100
  k.getD 0 0 + x * (k.getD 1 0 + x * (k.getD 2 0 + x * k.getD 3 0))

/-- Compensation every 100 ms (R33, R357): each part, the oscillator and the four wale references, takes the value of its third-order polynomial at its sensor's temperature. It freezes for a part whose sensor is invalid, event 189, and runs on once the sensor is valid. -/
def Bay.compensate (b : Bay) : Bay :=
  let b := b.each (List.range 5) (fun b k =>
    let t := b.therm
    let bad := t.invalid.contains (517 + k)
    if bad && !t.compFrozen.contains k then (b.setTherm { t with compFrozen := t.compFrozen ++ [k] }).note 189
    else if bad then b
    else
      let x := match t.compT.getD k none with
        | some v => polyAt (Config.compPoly k) v
        | none => t.comp.getD k 0
      b.setTherm { t with compFrozen := t.compFrozen.filter (· != k), comp := t.comp.set k x })
  b.setFlag F.THM_STAT_COMP_FRZ (!b.therm.compFrozen.isEmpty)

/-- COMPENSATION_UPDATE (R357). -/
def execCompensationUpdate (s : State) : Result := s.onBay Bay.compensate

end Sys2Proof.Machine
end

