-- ==== Sys2Proof/Machine/Weave.lean ====
section
/-! DEFINITION. The Weave: links, frames, acknowledgement, discovery, routing and repair, remote events, the rim role (spec chapter 17, R407 to R423). Ports 0 to 2 are W0 to W2 of CA on plane 0 (A), 3 to 5 those of CB on plane 1 (B). -/

namespace Sys2Proof.Machine

/-- Originate a frame on both planes (R412, R414): the next SEQ of its class; management and data wait for an acknowledgement. An unbound stake originates only ANNOUNCE (R416), one in QUARANTINE no remote events, heartbeats or time (R471; log entry 85). -/
def Bay.originate (b : Bay) (kind : String) (cls dst : Nat) (words : List Int) (rim : Option (Nat × Int)) : Bay :=
  if (!b.bound && kind != "ANNOUNCE") || (b.mode == Mode.quarantine && (kind == "EVENT" || kind == "HEARTBEAT" || kind == "TIME")) then b
  else
    let w := b.weave
    let q := w.txSeq.getD cls 0
    let w := { w with txSeq := w.txSeq.set cls ((q + 1) % 4294967296) }
    let w := if cls = 0 then w else { w with unacked := w.unacked ++ [⟨dst, cls, q, b.now, 0, rim⟩] }
    (b.setWeave w).sendWeave dst kind ([(cls : Int), (dst : Int), (q : Int)] ++ words)

/-! ## Links (R407 to R411) -/

/-- The authority digest a handshake compares (R409, R454). -/
def Bay.plantDigest (b : Bay) : List Byte := Config.sha384 (b.authBytes 4)

/-- A handshake ends (R407, R409): refused for the chain, the enrolment or the plane, else the link is up with fresh counters and keys. -/
def Bay.handshake (b : Bay) (p : Nat) (x : PeerIn) : Bay :=
  if !x.chainOk then b.setLink p 4
  else if x.digest ≠ b.plantDigest then b.setLink p 5
  else if x.plane.val ≠ portPlane p then b.setLink p 3
  else
    let b := (b.setPort p { lastRx := b.now, lastTx := b.now, keyAt := b.now, peer := x.serial.toNat }).setLink p 2
    let known := (List.range 64).any (fun a => b.flag (F.BIND_BOUND a) && b.rd (F.BIND_SER a) == (x.serial.toNat : Int))
    if b.activeRim && !known then b.setWeave { b.weave with discAgain := true } else b

/-- LINK_HANDSHAKE (R409): the PCS reports a link (`none`), or the handshake that follows ends. -/
def execLinkHandshake (p : Fin 6) (x : Option PeerIn) (s : State) : Result :=
  s.onBay (fun b =>
    if !b.portFitted p then b
    else
      match x with
      | none => if b.rd (portKey p) = 0 && !bitOf (b.rd F.TRU_FRZ_INGRESS) (p % 3) then b.setLink p 1 else b
      | some x => if b.rd (portKey p) = 1 then b.handshake p x else b)

/-- A frame reaches this stake. -/
def Bay.forMe (b : Bay) (dst : Nat) : Bool := dst == 0xFE || dst == 0xFF || (b.bound && dst == b.node)

/-- A frame has been accepted before (R414): by source, class and SEQ, within the last 4,096 SEQs. -/
def Weave.dup (w : Weave) (k seq : Nat) : Bool :=
  let l := w.seen.get [] k
  let top := l.foldl max 0
  l.contains seq || seq + 4096 ≤ top

/-- Keep an accepted SEQ. -/
def Weave.keep (w : Weave) (k seq : Nat) : Weave :=
  let l := w.seen.get [] k
  let top := max seq (l.foldl max 0)
  { w with seen := w.seen.put k (l.filter (fun q => top < q + 4096) ++ [seq]) }

/-- A management or data frame falls due for acknowledgement (R414). -/
def Weave.owe (w : Weave) (k now : Nat) : Weave :=
  let a := w.acks.get (0, now) k
  { w with acks := w.acks.put k (if a.1 = 0 then (1, now) else (a.1 + 1, a.2)) }

/-- A management frame of a stake brings the response to the oldest request it was asked: the session gets it, its words those of the frame (R426; DESIGN CHOICE, log entry 93). -/
def Bay.response (b : Bay) (src : Nat) : Bay :=
  match b.weave.asked.find? (fun q => q.1 == src) with
  | some q => (b.setWeave { b.weave with asked := b.weave.asked.erase q }).send (.rim q.2.1 q.2.2.1 0 [])
  | none => b

/-- A request that has had no response for 100 ms ends with error 7 (R427). -/
def Bay.askedEdge (b : Bay) : Bay :=
  let old := fun (q : Nat × Nat × Int × Nat) => decide (100 * msTicks ≤ b.now - q.2.2.2)
  let late := b.weave.asked.filter old
  if late.isEmpty then b
  else late.foldl (fun b q => b.send (.rim q.2.1 q.2.2.1 7 [])) (b.setWeave { b.weave with asked := b.weave.asked.filter (fun q => !old q) })

/-- Deliver or forward an accepted frame (R412, R414): duplicates are dropped, a flood goes out on every other port of the plane, a frame for another stake by the routing table; TTL falls by one and 0 drops it. -/
def Bay.passFrame (b : Bay) (p : Nat) (f : WFrame) : Bay :=
  let src := f.src.toNat
  let k := 64 * f.cls.val + src % 64
  let bound := decide (src < 64)
  if bound && b.weave.dup k f.seq.toNat then b
  else
    let w := if bound then b.weave.keep k f.seq.toNat else b.weave
    let mine := b.forMe f.dst.toNat
    let w := if mine && f.cls.val ≠ 0 && bound then w.owe k b.now else w
    let b := b.setWeave w
    let b := b.onlyIf (mine && f.cls.val == 1) (fun b => b.response src)
    let b := b.onlyIf mine (fun b => b.send (.weave "DELIVERED" [(f.cls.val : Int), (f.type.toNat : Int), (src : Int), (f.seq.toNat : Int)]))
    let onward := f.dst.toNat != 0xFE && !(b.bound && f.dst.toNat == b.node) && 1 < f.ttl.toNat
    let ports := if onward then (b.txPorts f.dst.toNat (some p)).filter (fun q => portPlane q == portPlane p) else []
    ports.foldl (fun (b : Bay) (q : Nat) => b.send (.weave "FORWARD" [(q : Int), (f.cls.val : Int), (f.type.toNat : Int), (f.dst.toNat : Int), (src : Int), ((f.ttl.toNat - 1 : Nat) : Int), (f.seq.toNat : Int)])) (b.countTx ports)

/-- One frame goes out of a port. -/
def Bay.portSend (b : Bay) (p : Nat) (kind : String) (words : List Int) : Bay :=
  let x := b.portOf p
  (b.setPort p { x with txCtr := x.txCtr + 1, lastTx := b.now }).send (.weave kind ((p : Int) :: words))

/-- LINK_KEEPALIVE (R411): an idle link sends every 50 µs. -/
def execLinkKeepalive (p : Fin 6) (s : State) : Result :=
  s.onBay (fun b => if b.linkUp p && 50 * usTicks ≤ b.now - (b.portOf p).lastTx then b.portSend p "KEEPALIVE" [] else b)

/-- REKEY (R411): after 2³¹ frames or 24 h, an ECDH exchange in management class; the sender goes on under the other slot of its direction. -/
def execRekey (p : Fin 6) (s : State) : Result :=
  s.onBay (fun b =>
    let x := b.portOf p
    if b.linkUp p && (2147483648 ≤ x.txCtr - x.keyCtr || 86400 * secTicks ≤ b.now - x.keyAt) then
      (b.setPort p { x with keyAt := b.now, keyCtr := x.txCtr, txSlot := 1 - x.txSlot }).portSend p "REKEY" [(1 - x.txSlot : Nat)]
    else b)

/-- LINK_DELAY_MEASUREMENT (R421): the mean of the last 16 measurements. -/
def execLinkDelayMeasurement (p : Fin 6) (ns : Nat) (s : State) : Result :=
  s.onBay (fun b =>
    if b.linkUp p then
      let x := b.portOf p
      let l := x.delays ++ [(ns : Int)]
      (b.setPort p { x with delays := l.drop (l.length - 16) }).portSend p "DELAY" []
    else b)

/-! ## Repair (R417 to R419) -/

/-- Put 64 entries in force on a plane (R417, R434). -/
def Bay.putRoutes (b : Bay) (plane : Nat) (t : List Nat) : Bay :=
  b.each (List.range 32) (fun b w => b.wr (rtKey plane w) (t.getD (2 * w) 0 + 65536 * t.getD (2 * w + 1) 0 : Nat))

/-- The repair table for a lost link or stake. -/
def Bay.repairOf (b : Bay) (plane x : Nat) (y : Option Nat) : Option Repair :=
  b.weave.repair.find? (fun r => r.plane == plane && ((r.a == x && r.b == y) || (r.b == some x && y == some r.a)))

/-- A link (or, with `none`, a stake) of a plane is lost (R418, R419): its repair table comes into force, the repair is counted, event 206; a second failure on links of one stake takes that stake's table; a second independent one stays unreachable until the recomputation. -/
def Bay.failLink (b : Bay) (plane x : Nat) (y : Option Nat) : Bay :=
  let w := b.weave
  if w.down.contains (plane, x, y) then b
  else
    let others := w.down.filter (fun d => d.1 == plane)
    let b := b.setWeave { w with down := w.down ++ [(plane, x, y)] }
    let sharesOf := fun (d : Nat × Nat × Option Nat) => if d.2.1 = x || d.2.2 = some x then some x else match y with
      | some z => if d.2.1 = z || d.2.2 = some z then some z else none
      | none => none
    let tab := match others with
      | [] => b.repairOf plane x y
      | d :: _ => match sharesOf d with
        | some z => b.repairOf plane z none
        | none => none
    match tab with
    | some r => ((b.putRoutes plane r.entries).bump32 F.WVE_REPAIR).note 206
    | none => if others.isEmpty then (b.bump32 F.WVE_REPAIR).note 206 else b.note 206

/-- The address at the other end of a port, if its serial number is bound. -/
def Bay.peerAddr (b : Bay) (p : Nat) : Option Nat :=
  let z := (b.portOf p).peer
  (List.range 64).find? (fun a => b.flag (F.BIND_BOUND a) && b.rd (F.BIND_SER a) == z)

/-- A link of this stake goes down (R411, R418): LINK_DOWN is flooded and the repair applied. -/
def Bay.linkLoss (b : Bay) (p : Nat) (st : Int) : Bay :=
  let pa := b.peerAddr p
  let peer := (b.portOf p).peer
  let b := (b.setLink p st).setPort p { peer := peer }
  let b := b.originate "LINK_DOWN" 0 0xFF [(portPlane p : Int), (b.node : Int), peer] none
  b.failLink (portPlane p) b.node (pa.orElse (fun _ => some 64))

/-- A frame under the other key slot is the first under a new key: none has been changed yet, or half of a key's life of 2³¹ frames or 24 h has passed since (R411; log entry 85). -/
def Port.newSlot (x : Port) (ctr now : Nat) : Bool :=
  match x.oldUntil with
  | none => true
  | some t => decide (1073741824 ≤ ctr - x.rxKeyCtr) || decide (t + 43200 * secTicks ≤ now)

/-- A frame arrives on a port (R411). Sixteen tag failures within 1 s take the link down, which its plane repairs (R418). -/
def Bay.weaveReceive (b : Bay) (p : Nat) (f : WFrame) : Bay :=
  if !b.linkUp p then b
  else
    let x := b.portOf p
    let other := f.slot.val != x.slot
    let old := other && (match x.oldUntil with | some t => decide (b.now ≤ t) | none => false)
    let moved := other && x.newSlot f.ctr.toNat b.now
    if !f.tagOk || (other && !old && !moved) then
      let l := x.tagT.filter (fun t => b.now - t < secTicks) ++ [b.now]
      let b := (b.bump32 F.WVE_TAG_ERR).setPort p { x with tagT := l }
      if 16 ≤ l.length then (b.note 214).linkLoss p 1 else b
    else if f.ctr.toNat ≤ x.rxCtr then b.bump32 F.WVE_REPLAY
    else
      let x := { x with rxCtr := f.ctr.toNat, lastRx := b.now }
      let x := if moved then { x with slot := f.slot.val, rxKeyCtr := f.ctr.toNat, oldUntil := some (b.now + 10 * msTicks) } else x
      (b.setPort p x).passFrame p f

/-- WEAVE_FRAME_RECEIVE (R411). What the message of a delivered frame does is the row of that message. -/
def execWeaveFrameReceive (p : Fin 6) (f : WFrame) (s : State) : Result := s.onBay (fun b => b.weaveReceive p f)

/-- LINK_TIMEOUT (R411): PCS loss, or 200 µs without an accepted frame. -/
def execLinkTimeout (p : Fin 6) (pcs : Bool) (s : State) : Result :=
  s.onBay (fun b =>
    if b.linkUp p then (if pcs || 200 * usTicks ≤ b.now - (b.portOf p).lastRx then b.linkLoss p 0 else b)
    else if pcs then b.setLink p 0 else b)

/-- LINK_DOWN (R418, R419): a flood names a lost link, or with no second stake one that leaves. -/
def execLinkDown (plane : Fin 2) (x : Fin 64) (y : Option (Fin 64)) (s : State) : Result :=
  s.onBay (fun b => if b.mode = 0 then b else b.failLink plane x (y.map (·.val)))

/-! ## Acknowledgement (R414) -/

/-- ACK_SEND (R414): sources with 16 frames waiting, or one that has waited 200 µs. -/
def execAckSend (s : State) : Result :=
  s.onBay (fun b =>
    let due := b.weave.acks.filter (fun a => a.2.1 != 0 && (16 ≤ a.2.1 || 200 * usTicks ≤ b.now - a.2.2))
    let b := b.setWeave { b.weave with acks := b.weave.acks.map (fun a => if a.2.1 != 0 && (16 ≤ a.2.1 || 200 * usTicks ≤ b.now - a.2.2) then (a.1, 0, b.now) else a) }
    due.foldl (fun b a =>
      b.sendWeave (a.1 % 64) "ACK" [((a.1 / 64 : Nat) : Int), ((a.1 % 64 : Nat) : Int), (((b.weave.seen.get [] a.1).foldl max 0 : Nat) : Int)]) b)

/-- RETRANSMIT (R414): frames unacknowledged for 2 ms go out again on both planes; after 50 the destination is unreachable and its Rim requests end with error 6. `acked` are the (destination, class, SEQ) up to which acknowledgements have come. -/
def Bay.retransmit (b : Bay) (acked : List (Nat × Nat × Nat)) : Bay :=
  let open_ := b.weave.unacked.filter (fun u => !acked.any (fun a => a.1 == u.dst && a.2.1 == u.cls && u.seq ≤ a.2.2))
  let due := fun (u : Unacked) => decide (2 * msTicks ≤ b.now - u.sentAt)
  let dead := open_.filter (fun u => due u && 50 ≤ u.tries)
  let again := open_.filter (fun u => due u && u.tries < 50)
  let b := b.setWeave { b.weave with unacked := (open_.filter (fun u => !(due u && 50 ≤ u.tries))).map (fun u => if due u then { u with sentAt := b.now, tries := u.tries + 1 } else u) }
  let b := again.foldl (fun b u => (b.bump32 F.WVE_RETX).sendWeave u.dst "AGAIN" [(u.cls : Int), (u.dst : Int), (u.seq : Int)]) b
  dead.foldl (fun b u =>
    match u.rim with
    | some (i, tag) =>
      if b.weave.asked.any (fun q => q.2.1 == i && q.2.2.1 == tag) then
        (b.setWeave { b.weave with asked := b.weave.asked.filter (fun q => !(q.2.1 == i && q.2.2.1 == tag)) }).send (.rim i tag 6 [])
      else b
    | none => b) b

/-- RETRANSMIT (R414). -/
def execRetransmit (acked : List (Fin 64 × Fin 3 × BitVec 32)) (s : State) : Result :=
  s.onBay (fun b => b.retransmit (acked.map (fun a => (a.1.val, a.2.1.val, a.2.2.toNat))))

/-! ## Discovery and binding (R415 to R417) -/

/-- Only a stake configured as rim has a binding table (R434). -/
def Bay.rimConfigured (b : Bay) : Bool := b.rd F.WVE_RIM_CFG_ROLE != 0

/-- The address bound to a serial number. -/
def Bay.boundTo (b : Bay) (ser : Int) : Option Nat :=
  (List.range 64).find? (fun a => b.flag (F.BIND_BOUND a) && b.rd (F.BIND_SER a) == ser)

/-- Bind an address (R416): the table's, the stored one where it is free, else the lowest free with event 207; a full table binds none, event 207. -/
def Bay.bindSerial (b : Bay) (ser : Int) (stored : Option Nat) : Bay × Option Nat :=
  let put := fun (b : Bay) (a : Nat) => (b.wr (F.BIND_SER a) ser).setFlag (F.BIND_BOUND a) true
  match b.boundTo ser with
  | some a => (b, some a)
  | none =>
    match stored.filter (fun a => !b.flag (F.BIND_BOUND a)) with
    | some a => (put b a, some a)
    | none =>
      match (List.range 64).find? (fun a => !b.flag (F.BIND_BOUND a)) with
      | some a => ((put b a).note 207, some a)
      | none => (b.note 207, none)

/-- Start discovery (R415): PROBE is flooded; the rim binds itself. -/
def Bay.discover (b : Bay) : Bay :=
  let r := b.bindSerial (b.rd F.BAY_SERIAL) b.weave.addr
  let b := r.1
  let own := (List.range 6).filter b.linkUp |>.map (fun p => (⟨b.rd F.BAY_SERIAL, portPlane p, p % 3, (b.portOf p).peer⟩ : LinkEnd))
  let b := b.setWeave { b.weave with discT0 := some b.now, discDone := true, discAgain := false, links := own, waitAck := [], newAddr := r.2, addr := r.2.orElse (fun _ => b.weave.addr) }
  (b.setFlag F.WVE_STAT_DISC_BUSY true).sendWeave 0xFF "PROBE" [b.rd F.BAY_SERIAL]

/-- DISCOVER (R415): the active rim. -/
def execDiscover (s : State) : Result :=
  s.onBay (fun b => b.gated F.WVE_CTL_DISCOVER (fun b =>
    if b.activeRim && !b.flag F.WVE_STAT_DISC_BUSY then b.discover else b.refuse F.WVE_CTL_DISCOVER 4))

/-- PROBE (R415): the stake answers with its serial number, stored address and peers. -/
def execProbe (s : State) : Result :=
  s.onBay (fun b =>
    if b.mode = 0 then b
    else
      let peers := (List.range 6).map (fun p => if b.linkUp p then (b.portOf p).peer else 0)
      b.originate "ANNOUNCE" 0 0xFF ([b.rd F.BAY_SERIAL, (b.weave.addr.getD 0xFF : Nat)] ++ peers) none)

/-- ANNOUNCE (R416): the rim binds the serial number and sends BIND. -/
def Bay.announce (b : Bay) (ser : Int) (stored : Option Nat) (peers : List PortPeer) : Bay :=
  if !b.activeRim || !b.flag F.WVE_STAT_DISC_BUSY then b
  else
    let ends := peers.map (fun p => (⟨ser, p.plane.val, p.port.val, (p.peer.toNat : Int)⟩ : LinkEnd))
    let b := b.setWeave { b.weave with links := b.weave.links.filter (fun l => l.serial != ser) ++ ends }
    let r := b.bindSerial ser stored
    match r.2 with
    | some a => ((r.1).setWeave { r.1.weave with waitAck := r.1.weave.waitAck.filter (· != a) ++ [a] }).originate "BIND" 0 0xFF [ser, (a : Int)] none
    | none => r.1

/-- ANNOUNCE (R415, R416). -/
def execAnnounce (ser : BitVec 64) (stored : Option (Fin 64)) (peers : List PortPeer) (s : State) : Result :=
  s.onBay (fun b => b.announce ser.toNat (stored.map (·.val)) peers)

/-- BIND (R415, R416): the stake stores its address in MRAM; it takes effect at the next frame edge. -/
def execBind (a : Fin 64) (s : State) : Result :=
  s.onBay (fun b =>
    if b.mode = 0 then b
    else (b.setWeave { b.weave with addr := some a.val, newAddr := some a.val }).sendWeave (b.rdN F.WVE_STAT_RIM_NODE) "BIND_ACK" [b.rd F.BAY_SERIAL, (a.val : Int)])

/-! ### Routing tables (R408, R417) -/

/-- Two stakes of a plane as a link leaves them joined: the ports by which `x` reaches each neighbour, without the links and stakes left out. -/
def neighbours (links : List (Nat × Nat × Nat)) (x : Nat) : List (Nat × Nat) :=
  (links.filter (fun l => l.1 == x)).map (fun l => (l.2.1, l.2.2))

/-- Hop counts from a set of stakes already reached; `n` bounds the hops. -/
def spread (links : List (Nat × Nat × Nat)) : Nat → Nat → List Nat → List (Nat × Nat) → List (Nat × Nat)
  | 0, _, _, seen => seen
  | n + 1, h, edge, seen =>
    let next := ((edge.map (fun x => (neighbours links x).map (·.2))).flatten.eraseDups).filter (fun y => !seen.any (fun z => z.1 == y))
    if next.isEmpty then seen else spread links n (h + 1) next (seen ++ next.map (fun y => (y, h + 1)))

/-- Hop counts from `d`. -/
def hopsFrom (links : List (Nat × Nat × Nat)) (d : Nat) : List (Nat × Nat) := spread links 64 0 [d] [(d, 0)]

/-- Hops between two stakes. -/
def hopsOf (t : List (Nat × Nat)) (x : Nat) : Option Nat := (t.find? (fun p => p.1 == x)).map (·.2)

/-- The routing table of stake `x` (R417): shortest paths, the lowest port among equals. -/
def routeTable (links : List (Nat × Nat × Nat)) (x : Nat) : List Nat :=
  (List.range 64).map (fun d =>
    if d = x then 0xC000
    else
      let t := hopsFrom links d
      match hopsOf t x with
      | none => 0
      | some h =>
        let ports := ((neighbours links x).filter (fun n => hopsOf t n.2 == some (h - 1))).map (·.1)
        0x8000 + 256 * h + ports.foldl min 3)

/-- The links of a plane by addresses: stake, port, peer. -/
def Bay.planeLinks (b : Bay) (plane : Nat) : List (Nat × Nat × Nat) :=
  (b.weave.links.filter (fun l => l.plane == plane)).filterMap (fun l =>
    match b.boundTo l.serial, b.boundTo l.peer with
    | some x, some y => some (x, l.port, y)
    | _, _ => none)

/-- Leave out a link or a stake. -/
def without (links : List (Nat × Nat × Nat)) (x : Nat) (y : Option Nat) : List (Nat × Nat × Nat) :=
  links.filter (fun l =>
    match y with
    | some z => !((l.1 == x && l.2.2 == z) || (l.1 == z && l.2.2 == x))
    | none => l.1 != x && l.2.2 != x)

/-- The pairs of stakes that a link joins, each once. -/
def linkPairs (links : List (Nat × Nat × Nat)) : List (Nat × Nat) :=
  ((links.map (fun l => (min l.1 l.2.2, max l.1 l.2.2))).eraseDups)

/-- The stakes of a plane that are no spurs: reached by more than one link (R408). -/
def nonSpurs (links : List (Nat × Nat × Nat)) : List Nat :=
  ((links.map (·.1)).eraseDups).filter (fun x => 2 ≤ (links.filter (fun l => l.1 == x)).length)

/-- The worst hop count among non-spur stakes with any one link between them out of service (R408). -/
def diameter (links : List (Nat × Nat × Nat)) : Nat :=
  let ns := nonSpurs links
  let cuts := (linkPairs links).filter (fun p => ns.contains p.1 && ns.contains p.2)
  let maps := links :: cuts.map (fun p => without links p.1 (some p.2))
  maps.foldl (fun m l => ns.foldl (fun m x =>
    let t := hopsFrom l x
    ns.foldl (fun m y => max m ((hopsOf t y).getD 0)) m) m) 0

/-- Every repair table of stake `x` on a plane (R417). -/
def repairTables (links : List (Nat × Nat × Nat)) (plane x : Nat) : List Repair :=
  (linkPairs links).map (fun p => ⟨plane, p.1, some p.2, routeTable (without links p.1 (some p.2)) x⟩) ++
    ((links.map (·.1)).eraseDups.filter (· != x)).map (fun z => ⟨plane, z, none, routeTable (without links z none) x⟩)

/-- The rim computes and sends the tables and, to the backup rim, its bindings (R415, R417); its own tables take effect at the next frame edge. -/
def Bay.sendTables (b : Bay) : Bay :=
  let la := b.planeLinks 0
  let lb := b.planeLinks 1
  let stakes := (List.range 64).filter (fun a => b.flag (F.BIND_BOUND a))
  let b := stakes.foldl (fun b a =>
    if b.bound && a = b.node then b
    else b.originate "TABLES" 1 a ((routeTable la a ++ routeTable lb a ++ ((repairTables la 0 a ++ repairTables lb 1 a).map (·.entries)).flatten).map Int.ofNat) none) b
  let me := match b.weave.newAddr with
    | some a => a
    | none => b.node
  let b := b.sendWeave 0xFF "BINDINGS" (stakes.flatMap (fun (a : Nat) => [(a : Int), b.rd (F.BIND_SER a)]))
  b.setWeave { b.weave with newTables := some (routeTable la me, routeTable lb me, repairTables la 0 me ++ repairTables lb 1 me) }

/-- The active rim takes what has been lost out of its map and distributes the tables of the new one (R418); during a discovery it waits for the next (R433). -/
def Bay.remap (b : Bay) : Bay :=
  let w := b.weave
  if !b.activeRim || b.flag F.WVE_STAT_DISC_BUSY || w.down.isEmpty || w.newTables.isSome then b
  else
    let lost := fun (l : LinkEnd) => w.down.any (fun d => d.1 == l.plane &&
      (match b.boundTo l.serial, b.boundTo l.peer with
        | some x, some y => (match d.2.2 with
          | some z => (x == d.2.1 && y == z) || (x == z && y == d.2.1)
          | none => x == d.2.1 || y == d.2.1)
        | _, _ => false))
    (b.setWeave { w with links := w.links.filter (fun l => !lost l) }).sendTables

/-- BIND_ACK (R415): the rim records it; with the last one outstanding it computes and sends the tables. -/
def execBindAck (a : Fin 64) (s : State) : Result :=
  s.onBay (fun b =>
    if b.activeRim && b.weave.waitAck.contains a.val then
      let b := b.setWeave { b.weave with waitAck := b.weave.waitAck.filter (· != a.val) }
      b.onlyIf b.weave.waitAck.isEmpty Bay.sendTables
    else b)

/-- ROUTING_TABLES (R415, R417): received, acknowledged, in force from the next frame edge. -/
def execRoutingTables (ta tb : List (BitVec 16)) (rep : List RepairIn) (s : State) : Result :=
  s.onBay (fun b =>
    if b.mode = 0 then b
    else
      let r := rep.map (fun x => (⟨x.plane.val, x.a.val, x.b.map (·.val), x.entries.map (·.toNat)⟩ : Repair))
      (b.setWeave { b.weave with newTables := some (ta.map (·.toNat), tb.map (·.toNat), r) }).originate "TABLES_ACK" 1 (b.rdN F.WVE_STAT_RIM_NODE) [] none)

/-- The end of a discovery (R408, R415): WVE.DIAM and event 207; one that a link failed in is repeated (R433). -/
def Bay.discoveryEnd (b : Bay) : Bay :=
  let da := diameter (b.planeLinks 0)
  let db := diameter (b.planeLinks 1)
  let over_ := decide (24 < da) || decide (24 < db)
  let b := ((b.wr F.WVE_DIAM_A (min da 63 : Nat)).wr F.WVE_DIAM_B (min db 63 : Nat)).setFlag F.WVE_STAT_DIAM_OVER over_
  let b := ((b.setFlag F.WVE_STAT_DISC_BUSY false).setWeave { b.weave with discT0 := none, discAgain := b.weave.discAgain || !b.weave.down.isEmpty, down := [] }).note 207
  b.onlyIf over_ (fun b => b.note 207)

/-- A write of WVE.BIND_CTL.UNBIND (R416, R434): it acts only in a stake configured as rim. -/
def Bay.unbind (b : Bay) (a : Nat) : Bay :=
  b.gated F.WVE_BIND_CTL_UNBIND (fun b =>
    if b.rimConfigured then (b.wr (F.BIND_SER a) 0).setFlag (F.BIND_BOUND a) false else b)

/-- UNBIND (R416). -/
def execUnbind (a : Fin 64) (s : State) : Result := s.onBay (fun b => b.unbind a)

/-! ## Remote events (R198, R420) -/

/-- A remote event becomes visible at the first frame edge at or after its TIME plus 400 µs; later than that at the next edge, with event 208 (R198). -/
def Bay.remoteEvent (b : Bay) (t eng : Nat) : Bay :=
  let due := ceilTo frameTicks (t + 400 * usTicks)
  let at_ := if due ≤ b.now then nextEdge b.now else due
  let b := b.onlyIf (due ≤ b.now) (fun b => b.note 208)
  let engs := if eng < 64 then [eng] else allChans.filter b.engRuns
  { b with evBits := b.evBits ++ engs.map (fun e => ⟨at_, e, 6⟩) }

/-- REMOTE_EVENT (R420): `eng` 64 tells every engine that is not STOPPED. -/
def execRemoteEvent (t : Nat) (eng : Fin 65) (s : State) : Result := s.onBay (fun b => if b.mode = 0 then b else b.remoteEvent t eng.val)

/-- The WVE.XEV entries that name a source send it (R420). -/
def Bay.sendRemote (b : Bay) (e : EvEntry) : Bay :=
  b.each ((List.range 16).filter (fun i => b.flag (F.XEV_EN i) && b.rd (F.XEV_SOURCE i) == (e.src : Int))) (fun b i =>
    b.originate "EVENT" 0 (if b.flag (F.XEV_ALL i) then 0xFF else b.rdN (F.XEV_STAKE i)) [(e.time : Int), b.rd (F.XEV_ENG i)] none)

/-- EVENT_RELEASE (R394): the release also sends what WVE.XEV names to other stakes (R420; log entry 46). -/
def execEventRelease (s : State) : Result :=
  s.onBay (fun b =>
    let due := b.log.filter (fun e => !e.released && e.time + 80 * usTicks ≤ b.now)
    due.foldl (fun b e => b.sendRemote e) b.releaseEvents)

/-! ## The rim role (R423) -/

/-- Every stream becomes unheld and RD falls back to MARK (R432). -/
def Bay.unholdAll (b : Bay) : Bay :=
  b.setWeave { b.weave with streams := b.weave.streams.map (fun p => (p.1, { p.2 with holder := none, rd := p.2.mark })) }

/-- A session ends (R424, R432): its streams become unheld, RD falls back to MARK; event 213. -/
def Bay.closeSession (b : Bay) (i : Nat) : Bay :=
  if (b.weave.sessions.getD i none).isNone then b
  else
    (b.setWeave { b.weave with
      sessions := b.weave.sessions.set i none
      asked := b.weave.asked.filter (fun q => q.2.1 != i)
      streams := b.weave.streams.map (fun p => if p.2.holder = some i then (p.1, { p.2 with holder := none, rd := p.2.mark }) else p) }).note 213

/-- The sessions whose cartridge is lost end (R424). -/
def Bay.dropLostSessions (b : Bay) : Bay :=
  b.each [0, 1, 2, 3] (fun b i =>
    match b.weave.sessions.getD i none with
    | some x => if b.cPresent x.cart && !b.red.silent.contains x.cart then b else b.closeSession i
    | none => b)

/-- Take the rim and time master roles (R423, R415): events 212 and 215, discovery. -/
def Bay.takeRim (b : Bay) : Bay :=
  let b := (b.wr F.WVE_STAT_RIM 1).wr F.WVE_STAT_RIM_NODE b.node
  let b := (b.note 212).note 215
  (b.wr F.TIME_STAT_MASTER b.node).discover

/-- Give the rim role up (R423, R432): the sessions end, streams become unheld, a discovery is the new rim's (R433). -/
def Bay.dropRim (b : Bay) : Bay :=
  let was := b.activeRim
  let b := ((b.wr F.WVE_STAT_RIM 2).setFlag F.WVE_STAT_DISC_BUSY false).unholdAll
  let n := (b.weave.sessions.filter (·.isSome)).length
  let b := b.setWeave { b.weave with sessions := [none, none, none, none], asked := [], discT0 := none, discAgain := false, waitAck := [] }
  ((b.each (List.range n) (fun b _ => b.note 213)).note 212).onlyIf was (fun b => b.note 215)

/-- HEARTBEAT (R423): the active rim's node; two active rims settle it: the configured primary keeps the role, of two primaries the lower serial number. -/
def Bay.heartbeat (b : Bay) (node : Nat) (ser : Int) (primary : Bool) : Bay :=
  let b := b.setWeave { b.weave with hbAt := some b.now }
  if !b.activeRim then b.wr F.WVE_STAT_RIM_NODE node
  else
    let mine := b.rd F.WVE_RIM_CFG_ROLE == 1
    if mine && primary then
      if ser < b.rd F.BAY_SERIAL then (b.dropRim).wr F.WVE_STAT_RIM_NODE node else b.note 212
    else if primary then (b.dropRim).wr F.WVE_STAT_RIM_NODE node
    else b

/-- HEARTBEAT (R423). -/
def execHeartbeat (node : Fin 64) (ser : BitVec 64) (primary : Bool) (s : State) : Result :=
  s.onBay (fun b => if b.mode = 0 then b else b.heartbeat node ser.toNat primary)

/-- HEARTBEAT_TIMEOUT (R423): 50 ms without one on either plane. -/
def execHeartbeatTimeout (s : State) : Result :=
  s.onBay (fun b =>
    if b.rd F.WVE_STAT_RIM = 2 && b.rd F.WVE_RIM_CFG_ROLE = 2 && 50 * msTicks ≤ b.now - b.weave.hbAt.getD 0 then b.takeRim else b)

/-- RIM_TAKE (R423): the configured primary while it is the standing backup. -/
def execRimTake (s : State) : Result :=
  s.onBay (fun b => b.gated F.WVE_CTL_RIM_TAKE (fun b =>
    if b.rd F.WVE_RIM_CFG_ROLE = 1 && b.rd F.WVE_STAT_RIM = 2 then b.takeRim else b.refuse F.WVE_CTL_RIM_TAKE 4))

/-- RIM_HEARTBEAT_SEND (R423). -/
def execRimHeartbeatSend (s : State) : Result :=
  s.onBay (fun b => if b.activeRim then b.originate "HEARTBEAT" 0 0xFF [b.rd F.BAY_SERIAL, b.rd F.WVE_RIM_CFG_ROLE] none else b)

/-- RIM_TIME_SEND (R421): T_ORIGIN, on both planes. -/
def execRimTimeSend (s : State) : Result :=
  s.onBay (fun b => if b.activeRim then b.originate "TIME" 0 0xFF [(b.now : Int), b.rd F.TIME_UTC_OFS, b.rd F.TIME_STAT_EPOCH_TAI] none else b)

/-! ## The Weave at a frame edge -/

/-- A new address takes effect at a frame edge, event 207 (R416). -/
def Bay.takeAddr (b : Bay) : Bay :=
  match b.weave.newAddr with
  | some a =>
    let was := b.bound && b.node = a
    let b := ((b.wr F.WVE_STAT_NODE a).setFlag F.WVE_STAT_BOUND true).wr F.BAY_NODE_ADDR a
    let b := b.setWeave { b.weave with newAddr := none }
    if was then b else b.note 207
  | none => b

/-- New tables take effect at a frame edge (R415, R417). -/
def Bay.takeTables (b : Bay) : Bay :=
  match b.weave.newTables with
  | some (ta, tb, r) =>
    let b := (b.putRoutes 0 ta).putRoutes 1 tb
    b.setWeave { b.weave with newTables := none, repair := r, down := [] }
  | none => b

/-- A heartbeat has come within the last 50 ms (R423). -/
def Bay.heardRim (b : Bay) : Bool :=
  match b.weave.hbAt with
  | some t => decide (b.now - t < 50 * msTicks)
  | none => false

/-- The configured rim role takes effect (R423): a primary is the active rim unless it hears one, a backup stands by. -/
def Bay.rimRole (b : Bay) : Bay :=
  let role := b.rd F.WVE_RIM_CFG_ROLE
  let b := (b.setFlag F.BAY_NODE_PRIMARY (role == 1)).setFlag F.BAY_NODE_BACKUP (role == 2)
  if role = 0 && b.rd F.WVE_STAT_RIM ≠ 0 then (b.dropRim).wr F.WVE_STAT_RIM 0
  else if role = 1 && b.rd F.WVE_STAT_RIM = 0 then (if b.heardRim then b.wr F.WVE_STAT_RIM 2 else ((b.wr F.WVE_STAT_RIM 1).note 212).note 215)
  else if role = 2 && b.rd F.WVE_STAT_RIM = 0 then b.wr F.WVE_STAT_RIM 2
  else b

/-- A discovery that falls due begins, and one that has run for 2 s ends (R415). -/
def Bay.discoverEdge (b : Bay) : Bay :=
  let b :=
    if b.activeRim && !b.flag F.WVE_STAT_DISC_BUSY && (b.weave.discAgain ||
        (!b.weave.discDone && (b.mode = Mode.standby || b.mode = Mode.energized || b.mode = Mode.service))) then b.discover
    else b
  match b.weave.discT0 with
  | some t => b.onlyIf (2 * secTicks ≤ b.now - t) (fun b => (b.onlyIf (b.weave.newTables.isNone) Bay.sendTables).discoveryEnd)
  | none => b

/-- What the stake shows of the rim and of the stakes it reaches (R434). The active rim is the rim and the time master itself (R421, R423). -/
def Bay.reachEdge (b : Bay) : Bay :=
  let b := if b.activeRim then (b.wr F.WVE_STAT_RIM_NODE b.node).wr F.TIME_STAT_MASTER b.node else b
  let rn := b.rdN F.WVE_STAT_RIM_NODE
  let ok := fun plane => b.activeRim || (b.bound && b.reach plane rn)
  let b := (b.setFlag F.WVE_STAT_A_OK (ok 0)).setFlag F.WVE_STAT_B_OK (ok 1)
  if b.rimConfigured then
    b.each ((List.range 64).filter (fun a => b.flag (F.BIND_BOUND a))) (fun b a => (b.setFlag (F.BIND_REACH_A a) (b.reach 0 a)).setFlag (F.BIND_REACH_B a) (b.reach 1 a))
  else b

/-- What takes effect at a frame edge (R415 to R417, R423, R424). -/
def Bay.weaveEdge (b : Bay) : Bay := (((b.dropLostSessions.askedEdge.takeAddr).takeTables.remap).rimRole.discoverEdge).reachEdge

end Sys2Proof.Machine
end

