-- ==== Sys2Proof/Machine/Chassis.lean ====
section
/-! DEFINITION. Latches, extraction locks and the exchange of cartridges (R17, R477 to R481, R497, R513, R516, R463). Slots: 0 CA, 1 CB, 2 to 5 S0 to S3, 6 X, 7 M. -/

namespace Sys2Proof.Machine

def Bay.latchOf (b : Bay) (n : Nat) : Latch := b.latch.get {} n
def Bay.setLatch (b : Bay) (n : Nat) (x : Latch) : Bay := { b with latch := b.latch.put n x }

/-- The BAY.SLOTS field of a slot (R403). -/
def slotKey (n : Nat) : Key :=
  match n with
  | 0 => F.BAY_SLOTS_CA
  | 1 => F.BAY_SLOTS_CB
  | 2 => F.BAY_SLOTS_S0
  | 3 => F.BAY_SLOTS_S1
  | 4 => F.BAY_SLOTS_S2
  | 5 => F.BAY_SLOTS_S3
  | 6 => F.BAY_SLOTS_X
  | _ => F.BAY_SLOTS_M

/-- A slot holds a cartridge that is not blank. -/
def Bay.slotFilledBy (b : Bay) (n : Nat) : Bool := 2 ≤ b.rd (slotKey n)

/-- Event 249 (R477): the slot in DETAIL [15:8], the happening in [7:0]. -/
def Bay.slotEvent (b : Bay) (n : Nat) (what : Int) : Bay := b.raiseD 249 (256 * (n : Int) + what)

/-! ## The latch (R477, R478, R497) -/

/-- The partner of an EHC-2 can take over (R328, R477, R497): it is fitted and not joining, no window of R350 is open; where the leaving one is active the pair is in lockstep; where its upsett channel drives, the other one is in drive beside it. -/
def Bay.mayLeave (b : Bay) (x : Nat) : Bool :=
  b.cPresent (other x) && b.red.wins.isEmpty && !b.joining (other x) &&
    (b.role x != 3 || b.lockstep) && (!b.reads x || !b.setActive || (b.rd F.SAFE_STAT_MODE == 1 && b.safe.handover.isNone))

/-- A release request is refused: the lock stays shut until the latch is back at LOCKED; happening 5. -/
def Bay.refuseRelease (b : Bay) (n : Nat) : Bay := (b.setLatch n { b.latchOf n with req := false, refused := true }).slotEvent n 5

/-- The leaving cartridge asks its upsett channel to hand over and floods LINK_DOWN for its plane (R327, R419). -/
def Bay.askHandover (b : Bay) (x : Nat) : Bay :=
  let b := b.setLatch x { b.latchOf x with hoAsked := true }
  let b := b.onlyIf (b.reads x && b.setActive) (fun b => b.beginHandover x true false)
  b.originate "LINK_DOWN" 0 0xFF [(x : Int), (b.node : Int)] none

/-- The meter's entry in progress is discarded (R127). -/
def Bay.dropMeterEntry (b : Bay) : Bay := { b with measSt := { b.measSt with cur := none, done := none, post := none } }

/-- The actions a latch at RELEASE starts (R477). -/
def Bay.startRelease (b : Bay) (n : Nat) : Bay :=
  if n < 2 then
    if !b.mayLeave n then b.refuseRelease n
    else if b.role n = 3 then (b.setLatch n { b.latchOf n with swapAsked := true }).setRed { b.red with swap := true }
    else b.askHandover n
  else if n < 6 then
    let st := b.rd (F.SEC_STAT_STATE (n - 2))
    if st = 1 || st = 2 then b else b.refuseRelease n
  else if n = 6 then b.each allAxes (fun b a => b.stopAxis a)
  else b.dropMeterEntry

/-- LATCH_RELEASE (R477): happening 3. -/
def execLatchRelease (n : Fin 8) (s : State) : Result :=
  s.onBay (fun b =>
    if !b.slotFilledBy n || (b.latchOf n).released then b
    else
      let b := b.slotEvent n 3
      let l := b.latchOf n
      let b := b.setLatch n { l with released := true, req := !l.isOpen, refused := false, swapAsked := false, hoAsked := false }
      b.onlyIf (!l.isOpen) (fun b => b.startRelease n))

/-- A release request at the frame edge (R353, R477): after its SWAP an EHC-2 asks for the handover; a handover that ended without success refuses the release; the axis converter stops behind the last axis. -/
def Bay.releaseEdge (b : Bay) (n : Nat) : Bay :=
  let l := b.latchOf n
  if !l.req then b
  else if n < 2 then
    if l.swapAsked && !l.hoAsked then
      if b.role n ≠ 3 then b.askHandover n
      else if !b.red.swap then b.refuseRelease n else b
    else if l.hoAsked && b.safe.handover.isNone && b.reads n && b.setActive then b.refuseRelease n
    else b
  else if n = 6 && allAxes.all (fun a => b.axState a == Ax.disabled || b.axState a == Ax.sto) then b.setPlant { b.plant with axConvOn := false }
  else b

/-- The actions of a release are complete (R477). -/
def Bay.releaseDone (b : Bay) (n : Nat) : Bool :=
  (b.latchOf n).req &&
    (if n < 2 then (b.latchOf n).hoAsked && b.role n != 3 && b.safe.handover.isNone && (!b.reads n || !b.setActive)
    else if n < 6 then b.rd (F.SEC_STAT_STATE (n - 2)) == 2
    else if n = 6 then
      allAxes.all (fun a => b.axState a == Ax.disabled || b.axState a == Ax.sto) && !b.plant.axConvOn && b.rd F.PWR_AXBUS_AXV < 500
    else true)

/-- EXTRACTION_LOCK_OPEN (R477): happening 4. -/
def execExtractionLockOpen (n : Fin 8) (s : State) : Result :=
  s.onBay (fun b =>
    if b.slotFilledBy n && b.releaseDone n then (b.setLatch n { b.latchOf n with req := false, isOpen := true, openAt := b.now }).slotEvent n 4 else b)

/-- What stopped for a release that no longer stands runs again: the axis converter on a closed node (log entry 49). -/
def Bay.afterRelease (b : Bay) (n : Nat) : Bay := b.onlyIf (n == 6 && b.entState == Ent.closed) (fun b => b.axConvStart)

/-- LATCH_LOCKED (R477, R497): the latch is back; a pending request is withdrawn, a completed SWAP or handover stands. Every latch movement raises event 249; this one has no stated happening (log entry 49). -/
def execLatchLocked (n : Fin 8) (s : State) : Result :=
  s.onBay (fun b =>
    let l := b.latchOf n
    if !l.released then b
    else
      let d := b.free
      let b := d.2.slotEvent n (d.1 % 256)
      let b := b.setLatch n { l with released := false, req := false, refused := false, swapAsked := false, hoAsked := false }
      let b := b.onlyIf (l.req && l.swapAsked && !l.hoAsked) (fun b => b.setRed { b.red with swap := false })
      let b := match b.safe.handover with
        | some h => b.onlyIf (l.req && h.latch && !h.accepted) (fun b => (b.setSafe { b.safe with handover := none }).setFlag F.SAFE_STAT_HANDOVER false)
        | none => b
      b.onlyIf l.req (fun b => b.afterRelease n))

/-- LOCK_RECLOSE (R478): 60 s after it opened under R477. -/
def execLockReclose (n : Fin 8) (s : State) : Result :=
  s.onBay (fun b =>
    let l := b.latchOf n
    if l.isOpen && !l.byKey && b.slotFilledBy n && l.openAt + 60 * secTicks ≤ b.now then (b.setLatch n { l with isOpen := false }).afterRelease n else b)

/-- SERVICE_KEY_OPEN (R480): whatever the bay's state; happening 6 while it has power. -/
def execServiceKeyOpen (n : Fin 8) (s : State) : Result :=
  s.onBay (fun b =>
    let b := b.setLatch n { b.latchOf n with isOpen := true, openAt := b.now, byKey := true }
    b.onlyIf (b.mode != 0) (fun b => b.slotEvent n 6))

/-- The status light of a cartridge (R479). -/
inductive Light where
  | off | green | amberFlash | greenFlash | amber | red
  deriving DecidableEq, Repr

/-- What the status light of slot n shows (R479). -/
def Bay.light (b : Bay) (n : Nat) : Light :=
  let l := b.latchOf n
  let faulted := if n < 2 then b.red.out.contains n || b.red.silent.contains n else b.slotSilent (n - 2) || (n < 6 && b.rd (F.SEC_STAT_STATE (n - 2)) == 3)
  if b.mode = 0 || !b.slotFilledBy n then .off
  else if l.isOpen then .greenFlash
  else if l.refused then .amber
  else if l.req then .amberFlash
  else if faulted then .red
  else .green

/-! ## Removal (R17, R478, R480) -/

/-- An EHC-2 leaves (R17, R350, R480): the swap window opens; one that had not handed over takes the bay to SAFE-STOP (R328). -/
def Bay.removeEhc (b : Bay) (x : Nat) (key : Bool) : Bay :=
  let b := if key then b.goSilent x
    else (((b.setRole x 0).setRed { b.red with silent := b.red.silent.filter (· != x) ++ [x], out := b.red.out.filter (· != x) }).openWin 2 x)
  let b := b.upsettStops x
  let b := b.each ((List.range 6).filter (fun p => portPlane p == x)) (fun b p => (b.setLink p 0).setPort p {})
  let b := (b.setTrust { b.trust with rkeyIn := b.trust.rkeyIn.set x false, se := b.trust.se.set x false }).setFlag (if x = 0 then F.TRU_STAT_SE_CA_OK else F.TRU_STAT_SE_CB_OK) false
  b.setFlag (F.MEM_STAT_INIT_DONE x) false

/-- The registers of a wale that live in the cartridge: stage and measurement values, the sums, calibration and corrections, the wale's own status and fault memory. -/
def waleField (n : Nat) (k : Key) : Bool :=
  match k.grp with
  | .chn => k.i / 16 == n && (k.off == 4 || k.off == 8 || (0x10 ≤ k.off && k.off < 0x50) || (0x104 ≤ k.off && k.off < 0x180))
  | .sec => k.i == n && (k = F.SEC_STAT_STATE n || k = F.SEC_BUS_V n || 4096 ≤ k.off)
  | _ => false

/-- The objects of derating and the trip quantities that go with the cartridge of slot n, a wale or the EHX-6 (R358, R359, R362). -/
def thermOf (n : Nat) : List Nat × List Nat :=
  if n < 4 then ((64 + n) :: waleChans n, (320 + n) :: (340 + n) :: (waleChans n).flatMap (fun c => (List.range 5).map (fun p => 5 * c + p)))
  else (allAxes.map (fun a => 70 + a), 324 :: 344 :: allAxes.map (fun a => 330 + a))

/-- The estimates of a cartridge end with it: nothing of an empty slot derates, trips or keeps a shutdown from being cleared (R359, R364; DEDUCED, log entry 92). -/
def Bay.thermGone (b : Bay) (n : Nat) : Bay :=
  let o := thermOf n
  let b := b.each (if n < 4 then waleChans n else []) (fun b c => b.setThermCh c {})
  let t := b.therm
  let b := { b with therm := { t with
    convTj := t.convTj.set n 0, legTj := if n < 4 then t.legTj else [0, 0, 0, 0, 0, 0]
    derated := t.derated.filter (fun q => !o.1.contains q), tripped := t.tripped.filter (fun q => !o.2.contains q) } }
  (b.wr (tjmaxKey n) 0).wr (plateKey n) 0

/-- Wale n is as one that comes without charge: channels off, references off, sums at zero, factors at reset; a self-calibration in progress ends with the cartridge (R118, R120). -/
def Bay.freshWale (b : Bay) (n : Nat) : Bay :=
  let b := { b.refOff n with regs := b.regs.filter (fun p => !waleField n p.1) }
  let b := b.each (waleChans n) (fun b c => ((b.setStage c {}).setDriver c {}).setMeasCh c { openSince := some b.now, switchT := b.now })
  let m := b.measSt
  let b := { b with measSt := { m with scalT0 := m.scalT0.set n none, scalSlots := m.scalSlots.set n [], zeros := m.zeros.filter (fun z => waleOf z.2.1 != n) } }
  (((b.setFlag (scalBusy n) false).setFlag (scalFail n) false).refOff n).setFram n { fit := (b.framOf n).fit }

/-- A wale leaves (R17): its engines and channels stop, the wale is out of the governor. -/
def Bay.removeWale (b : Bay) (n : Nat) : Bay :=
  let b := b.each (waleChans n) (fun b c => b.onlyIf (b.engRuns c) (fun b => b.engHostStop c 4))
  let b := b.each (waleChans n) (fun b c => b.endDonation c)
  let b := ((b.freshWale n).thermGone n).setWale n { joined := false, convOn := false }
  b.setSlot n {}

/-- What the axis and position blocks report, as against what they are told: lost with the cartridge (R305). -/
def ehxField (k : Key) : Bool :=
  (k.grp == Grp.axs || k.grp == Grp.pos) && (match rowOf k with
    | some r => r.acc == .ro || r.acc == .w1c
    | none => false)

/-- The position interfaces and axes as a fresh EHX-6 has them (R305, R513): every axis in STO or DISABLED, brakes engaged. -/
def Bay.freshAxes (b : Bay) (st : Int) : Bay :=
  b.each allAxes (fun b a =>
    let b := { b with regs := b.regs.filter (fun p => !(ehxField p.1 && p.1.i == a)) }
    let b := (((b.setAxis a {}).setEnc a {}).setDriver (64 + a) {}).setLoopAx a { b.loopAxOf a with xd := 0, xq := 0, xs := 0, xf := 0, iqRef := 0, idRef := 0, iqSum := 0 }
    (b.wr (F.AXS_STAT_STATE a) st).brakeNow a true)

/-- The EHX-6 leaves (R17): axes held in STO, ride-through unavailable, channels limited to 25 %. -/
def Bay.removeEhx (b : Bay) : Bay :=
  let b := (b.rtStop).setPlant { b.plant with axConvOn := false, limit17 := true }
  (({ b with axRec := [] }.freshAxes Ax.sto).thermGone 4).setSlot 4 {}

/-- The EHM-1 leaves (R17, R127): the entry in progress is discarded, corrections hold. -/
def Bay.removeEhm (b : Bay) : Bay :=
  let b := ((b.dropMeterEntry).setFlag F.MEAS_STAT_PRESENT false).setFlag F.MEAS_STAT_OVEN_RDY false
  let b := ((b.setFlag F.MEAS_STAT_CERT_OK false).setFlag F.MEAS_STAT_CERT_DUE false).wr F.MEAS_WARM 0
  { b with measSt := { b.measSt with checks := [], ovenSince := none, cert := none } }

/-- The backplane pins of a cartridge whose lock is open break (R17, R478): happening 2. -/
def Bay.removeFrom (b : Bay) (n : Nat) : Bay :=
  let key := (b.latchOf n).byKey
  let was := b.rd (slotKey n)
  let b := ((b.setLatch n {}).wr (slotKey n) 0).onlyIf (b.mode != 0) (fun b => b.slotEvent n 2)
  if was < 2 then b
  else if n < 2 then b.removeEhc n key
  else if n < 6 then b.removeWale (n - 2)
  else if n = 6 then b.removeEhx
  else b.removeEhm

/-- CARTRIDGE_REMOVED (R17): the memories of an EHC-2 go with it. -/
def execCartridgeRemoved (n : Fin 8) (s : State) : Result :=
  if s.bay.rd (slotKey n) = 0 || !(s.bay.latchOf n).isOpen then .next s
  else
    let s := if n.val < 2 then { s with mem := s.mem.setCart n {} } else s
    s.onBay (fun b => b.removeFrom n)

/-! ## Insertion (R481, R513) -/

/-- The code of a cartridge in BAY.SLOTS, if it fits slot n (R403). -/
def cartCode (c : Cartridge) (n : Nat) : Option Int :=
  match c with
  | .blank => some 1
  | .ehc _ _ _ _ => if n < 2 then some 2 else none
  | .ehs s _ _ => if 2 ≤ n && n < 6 then some (if s then 4 else 3) else none
  | .ehx => if n = 6 then some 5 else none
  | .ehm _ _ => if n = 7 then some 6 else none

/-- An EHC-2 comes (R351, R513, R516): with an active partner it joins; with none it starts the bay, unenrolled where its MRAM names another chassis. -/
def Bay.insertEhc (b : Bay) (x : Nat) (ours se : Bool) (svnMin pref : Nat) : Bay :=
  let t := b.trust
  let b := b.setTrust { t with fits := t.fits.set x (t.fits.getD x 0 + 1), banks := (t.banks.put (2 * x) {}).put (2 * x + 1) {},
                               svnMin := t.svnMin.set x (svnMin : Int), pref := t.pref.set x (pref : Int), se := t.se.set x se }
  let b := b.setFlag (if x = 0 then F.TRU_STAT_SE_CA_OK else F.TRU_STAT_SE_CB_OK) se
  if b.cPresent (other x) then
    let b := ((b.bootCart x).joinStart x)
    b.onlyIf (!se) (fun b => b.selfFault x 2)
  else
    let b := if ours then b
      else { (b.each (List.range 8) (fun b s => (b.setTrust { b.trust with keys := b.trust.keys.put s [] }).showAuth s [] 0)) with verMax := [] }
    let b := b.onlyIf (!ours) (fun b => b.setTrust { b.trust with rkey := 0, pend := [] })
    b.onlyIf (b.mode != 0) (fun b => b.startBoot true)

/-- An EHM-1 comes (R127, R463, R513). -/
def Bay.insertEhm (b : Bay) (l : List Byte) (serial : Nat) : Bay := b.meterComes l serial

/-- A wale comes (R50, R98, R513, R519): without charge, its pre-charge begun, its fault memory as it brings it; it is DRAINED until it joins. -/
def Bay.insertEhs (b : Bay) (w next seq : Nat) : Bay :=
  let full := fullBudget (b.convRating w)
  let b := (b.freshWale w).setWale w { joined := false, convOn := false, prechT0 := some b.now, budget := full }
  let b := (b.setFram w { seqNext := seq, next := next, fit := (b.framOf w).fit + 1 }).wr (F.SEC_OVL w) (full / 1000000)
  let b := b.onlyIf (b.mode != 0 && !b.lineOn (1 + w)) (fun b => b.safeOffDrop w)
  ((b.wr (F.SEC_STAT_STATE w) 2).wr (F.SEC_FRAM_STAT_NEXT w) next).wr (F.SEC_FRAM_SEQ w) seq

/-- An EHX-6 comes (R513): every axis DISABLED, the axis converter's pre-charge begun. -/
def Bay.insertEhx (b : Bay) : Bay := (b.freshAxes Ax.disabled).setWale 4 { joined := false, convOn := false, prechT0 := some b.now }

/-- A cartridge takes its place (R481): happening 1; each type is brought in by its rule. -/
def Bay.insertInto (b : Bay) (n : Nat) (c : Cartridge) (code : Int) : Bay :=
  let b := ((b.setLatch n {}).wr (slotKey n) code).onlyIf (b.mode != 0) (fun b => b.slotEvent n 1)
  match c with
  | .blank => b
  | .ehc ours se svn pref => b.insertEhc n ours se svn.toNat pref
  | .ehs _ next seq => b.insertEhs (n - 2) next.toNat seq.toNat
  | .ehx => b.insertEhx
  | .ehm cert serial => b.insertEhm cert serial.toNat

/-- CARTRIDGE_INSERTED (R481): a cartridge that fits an empty slot. -/
def execCartridgeInserted (n : Fin 8) (c : Cartridge) (s : State) : Result :=
  s.onBay (fun b =>
    if b.rd (slotKey n) ≠ 0 then b
    else match cartCode c n with
      | some code => b.insertInto n c code
      | none => b)

/-- The limit of R17 at the frame edge (R513): it lifts once a fitted EHX-6 has AX4 in RUN and no chopper conducts while off (R54), and not before. -/
def Bay.limitEdge (b : Bay) : Bay :=
  if b.plant.limit17 && b.xServes && !b.plant.chopConducts && b.axState 4 == Ax.run then b.setPlant { b.plant with limit17 := false } else b

/-- FRAME_EDGE for the latches. -/
def Bay.chassisEdge (b : Bay) : Bay := (b.each (List.range 8) (fun b n => b.releaseEdge n)).limitEdge

end Sys2Proof.Machine
end

