-- ==== Sys2Proof/Machine/Governor.lean ====
section
/-! DEFINITION. The power governor (R41, R42, R47, R51, R57 to R63): bay allocation at the frame edge, the wale governor at the command frame, donor calls and the overload budgets. Powers in watts as exact rationals (log entry 29). -/

namespace Sys2Proof.Machine

/-- The power cap of X1 without the feeder budget: its rating under R51 and 100 A at the present voltage (R47). -/
def Bay.x1Cap (b : Bay) : Rat :=
  let r := b.x1Rating
  min (if b.plant.x1Cont then (r.1 : Rat) else r.2) (mkRat (b.rd F.PWR_X1_V) 10)

/-- Wale n takes part in the governor: fitted and not silent (R17), in RUN and joined (R52). -/
def Bay.govWale (b : Bay) (n : Nat) : Bool :=
  b.walePresent n && !b.slotSilent n && b.rd (F.SEC_STAT_STATE n) == 0 && (b.waleSt n).joined

/-- A wale's share of the axis bus in W: the axis converter's node-side power over the wales present, negative while the axes regenerate (R57). -/
def Bay.axisShare (b : Bay) : Rat := mkRat b.plant.axNodeP (max 1 b.wales.length)

/-- The current a channel asks for before the governor, µA: its request scaled by R17 and its thermal factor; the measured current under voltage regulation (R57, R63; log entry 29). -/
def Bay.demandOf (b : Bay) (c : Nat) : Int :=
  let x := b.chanOf c
  if !b.switchClosed c || !x.holds.isEmpty then 0
  else
    let v := b.loopV c
    let i : Rat := if x.par.mode = 3 then b.loopI c else
      match x.par.mode with
      | 2 => x.setNow b.now
      | 4 => x.setNow b.now
      | 5 => if v = 0 then 0 else clampR (-(x.par.aux.natAbs : Int)) x.par.aux.natAbs (mkRat (x.setNow b.now * 1000000000) 1 / v)
      | 6 => if x.setNow b.now = 0 then 0 else clampR (-(x.par.aux.natAbs : Int)) x.par.aux.natAbs (-(v * 1000000 : Int) / (x.setNow b.now : Rat))
      | 7 => if x.secondLevel then x.par.aux else x.par.set
      | _ => 0
    if x.par.mode = 3 then i.floor else truncR (i * b.scale17 * mkRat (b.thermChOf c).f 200)

/-- Cell power in W of a current in µA at the present cell voltage, without a sweep's fundamental (R57, R170). -/
def Bay.cellPower (b : Bay) (c : Nat) (i : Int) : Rat := mkRat (b.loopV c * i) 1000000000000

/-- The priority class of channel c (R63). -/
def Bay.classOf (b : Bay) (c : Nat) : Nat := (b.rd (F.SEC_PRIO (waleOf c)) / 4 ^ (c % 16) % 4).toNat

/-- The DONATE offer of channel c in µA (R61, R153): an allowance left, REST or HOLD without a cause of 3 to 8, no sweep, a present cell above V_MIN. -/
def Bay.offerOf (b : Bay) (c : Nat) : Int :=
  let x := b.chanOf c
  let t := b.borderOf c
  let ok := 0 < b.rd (F.ENG_DON c) && b.govWale (waleOf c) && b.switchClosed c
    && (b.rd (F.CHN_REG_STAT_MODE c) == 0 || b.rd (F.CHN_REG_STAT_MODE c) == 1)
    && !(x.holds.any (fun k => 3 ≤ k && k ≤ 8)) && !b.flag (F.EISCH_STAT_RUN c)
    && !(b.stageOf c).absent && b.flag (F.CHN_REG_STAT_BORDER_OK c) && t.vMin < b.rd (F.CHN_V c)
  if ok then min (b.rd (F.SEC_DON_IMAX (waleOf c)) * 1000) (if t.mayDischarge then t.iDis else 0) else 0

/-- The class loop of R58: each class in turn, `cut` its credit in W; what is left to cut, and the factors in 0.5 % steps, class 0 first. -/
def classLoop (cut : Nat → Rat) (short : Rat) : Rat × List Int :=
  (List.range 4).foldl (fun (st : Rat × List Int) k =>
    let p := cut k
    if 0 < st.1 && 0 < p then
      let g := min 1 (st.1 / p)
      let f := ((1 - g) * 200).floor
      (st.1 - (1 - mkRat f 200) * p, st.2 ++ [f])
    else (st.1, st.2 ++ [200])) (short, [])

/-- Sum of a quantity over a list of channels. -/
def sumR (l : List Nat) (f : Nat → Rat) : Rat := l.foldl (fun a c => a + f c) 0

/-- The fraction of their offers at which donors are called for a shortage, and what is left of it (R58). -/
def donorCall (credit short : Rat) : Rat × Rat :=
  if 0 < short && 0 < credit then
    let f := min 1 (short / credit)
    (f, short - f * credit)
  else (0, short)

/-- Charging and discharging demand and loss of a wale, net at its bus in W, donors and the axis share apart (R57, R58). -/
def Bay.waleNet (b : Bay) (n : Nat) : Rat :=
  sumR (waleChans n) (fun c => b.cellPower c (b.demandOf c)) + (b.rd (F.SEC_LOSS n) : Rat)

/-- What a donor brings at its bus in W (R58). -/
def Bay.donorPower (b : Bay) (c : Nat) : Rat :=
  let o := (b.meansOf c).offer
  if o = 0 then 0 else b.cellPower c o - mkRat (Config.donorLoss c o) 1000000

/-- The demand of one sign in a class among given channels, each weighted (R58). -/
def Bay.classCut (b : Bay) (chans : List Nat) (sign : Int) (w : Nat → Rat) (k : Nat) : Rat :=
  sumR (chans.filter (fun c => b.classOf c == k && 0 < sign * b.demandOf c)) (fun c => b.cellPower c (sign * b.demandOf c) * w c)

/-- The feeder budget binds, or is released (event 245). -/
def Bay.feedEvent (b : Bay) (binding : Bool) : Bay :=
  if binding = b.plant.feedBinding then b
  else ({ b with plant := { b.plant with feedBinding := binding } }).note 245

/-- Bay allocation at the frame edge (R58): donors are called and each wale's bay factors set. The fraction of the call rests in `Wale.bayCall`. -/
def Bay.allocate (b : Bay) : Bay :=
  let b := b.each allChans (fun b c => let m := b.meansOf c; let o := b.offerOf c; if m.offer = o then b else b.setMeans c { m with offer := o })
  let ws := (List.range 4).filter b.govWale
  let chans := ws.flatMap waleChans
  let axis : Rat := b.plant.axNodeP
  let draw := ws.foldl (fun a n => let x := b.waleNet n; a + (if 0 ≤ x then x / b.etaOf n else x * b.etaOf n)) axis
  let feedImp : Rat := b.rd F.BAY_FEED_IMP
  let feedExp : Rat := b.rd F.BAY_FEED_EXP
  let short := draw - min b.x1Cap feedImp
  let surplus := -draw - min b.x1Cap feedExp
  let b := b.feedEvent ((0 < short && feedImp ≤ b.x1Cap) || (0 < surplus && feedExp ≤ b.x1Cap))
  let eta := fun c => b.etaOf (waleOf c)
  let call := donorCall (sumR chans (fun c => b.donorPower c * eta c)) short
  let ff := if 0 < short then (classLoop (b.classCut chans 1 eta) call.2).2 else [200, 200, 200, 200]
  let fd := if 0 < surplus then (classLoop (b.classCut chans (-1) eta) surplus).2 else [200, 200, 200, 200]
  ws.foldl (fun b n => b.setWale n { b.waleSt n with bayF := ff, bayD := fd, bayCall := call.1 }) b

/-- The wale governor (R60): the same order within the wale when its net demand, the axis share and the donors called by the bay with it (R57), exceeds the converter cap, which is 0 toward a node above its limit (R50; log entry 80); the lower factor applies, donors are called at the higher fraction (R60, R61). What the classes leave of an export beyond the cap, the donors give up (log entry 80). SECn.GOV shows the lower of a class's charge and discharge factors (log entry 29). -/
def Bay.waleGovern (b : Bay) (n : Nat) : Bay :=
  let w := b.waleSt n
  if !b.govWale n then
    let b := b.setWale n { w with ownF := [200, 200, 200, 200], ownD := [200, 200, 200, 200], bayCall := 0 }
    b.each (waleChans n) (fun b c =>
      let b := if (b.meansOf c).donCall = 0 then b else b.endDonation c
      if (b.meansOf c).curtailed then (b.setMeans c { b.meansOf c with curtailed := false }).note c else b)
  else
    let net := b.waleNet n + b.axisShare
    let cap := b.convCap n
    let eta := b.etaOf n
    let chans := waleChans n
    let credit := sumR chans b.donorPower
    let over_ := net - cap * eta
    let under := -(net - w.bayCall * credit) - (if b.plant.nodeHigh then 0 else cap / eta)
    let one := fun _ => (1 : Rat)
    let call := donorCall credit over_
    let ownF := if 0 < over_ then (classLoop (b.classCut chans 1 one) call.2).2 else [200, 200, 200, 200]
    let cut := if 0 < under then classLoop (b.classCut chans (-1) one) under else (0, [200, 200, 200, 200])
    let ownD := cut.2
    let b := b.setWale n { w with ownF := ownF, ownD := ownD }
    let fr := max call.1 (if 0 < cut.1 && 0 < credit then max 0 (w.bayCall - cut.1 / credit) else w.bayCall)
    let b := b.each chans (fun b c =>
      let m := b.meansOf c
      let call := (fr * (m.offer : Rat)).floor
      let b := if call = m.donCall then b else b.setMeans c { m with donCall := call }
      let d := b.demandOf c
      let curt := d ≠ 0 && call = 0 && b.classFactor c (0 < d) < 200
      if curt = m.curtailed then b else (b.setMeans c { b.meansOf c with curtailed := curt }).note c)
    let g := fun k => min (min (nth w.bayF k) (nth ownF k)) (min (nth w.bayD k) (nth ownD k))
    let b := (((b.wr (F.SEC_GOV_F0 n) (g 0)).wr (F.SEC_GOV_F1 n) (g 1)).wr (F.SEC_GOV_F2 n) (g 2)).wr (F.SEC_GOV_F3 n) (g 3)
    let b := b.setFlag (F.SEC_STAT_CURT n) (chans.any (fun c => (b.meansOf c).curtailed))
    let don := chans.filter (fun c => (b.meansOf c).donCall != 0)
    let b := b.setFlag (F.SEC_STAT_DONATING n) (!don.isEmpty)
    b.wr (F.SEC_DON_P n) (truncR (sumR don (fun c => b.cellPower c (b.loopI c))))

/-- Charge donated by channel c, in nC, falls from its budget in whole µAh; the interval is marked (R61, R164, R235). -/
def Bay.spendDonation (b : Bay) (c : Nat) (nC : Int) : Bay :=
  let m := b.meansOf c
  if m.donCall = 0 then b
  else
    let q := m.donRem + nC
    let k := q / 3600000
    let b := b.setMeans c { m with donRem := q - k * 3600000 }
    (b.wr (F.ENG_DON c) (max 0 (b.rd (F.ENG_DON c) - k))).markInterval c 0

/-! ## Overload budgets (R51) -/

/-- One frame of a budget in µJ at power `p` W: drained above the continuous rating, refilled at a tenth below it, within 0 and full. -/
def budgetFrame (bud full p cont : Int) : Int :=
  let d := (Int.natAbs p : Int) - cont
  let x := if 0 < d then bud - d * 40 else bud + (-d) * 4
  clampI 0 full x

/-- The cap follows the budget in the same frame (R51): the continuous rating at 0, the short-term rating above; each change raises event 246. -/
def Bay.capFollows (b : Bay) (h : Nat) (bud : Int) : Bay :=
  if decide (bud = 0) = b.capCont h then b else (b.setCapCont h (bud = 0)).note 246

/-- One frame of every overload budget (R51): the section converters, the axis converter, X1. -/
def Bay.budgets (b : Bay) : Bay :=
  let b := b.each b.wales (fun b n =>
    let r := b.convRating n
    let full := fullBudget r
    let w := b.waleSt n
    let x := budgetFrame w.budget full (b.rd (F.SEC_CONV_P n)) r.1
    ((b.setWale n { w with budget := x }).wr (F.SEC_OVL n) (x / 1000000)).capFollows n x)
  let p := b.plant
  let ax := budgetFrame p.axBudget (fullBudget axRating) p.axNodeP axRating.1
  let r := b.x1Rating
  let full := fullBudget r
  let x1 := budgetFrame p.x1Budget full (b.rd F.PWR_X1_V * b.rd F.PWR_X1_I / 1000000) r.1
  let b := { b with plant := { p with axBudget := ax, x1Budget := x1 } }
  (((b.wr F.PWR_X1_OVL (x1 / 1000000)).capFollows 4 ax)).capFollows 5 x1

end Sys2Proof.Machine
end

