-- ==== Sys2Proof/Machine/Frames.lean ====
section
/-! DEFINITION. Sample frames, command frames and the compute deadline (spec chapters 01 and 13): rows 2 to 8 of the table. -/

namespace Sys2Proof.Machine

/-- Bay time advances to a fixed offset of the present frame (R24); it never goes back. -/
def Bay.atOffset (b : Bay) (off : Nat) : Bay := { b with now := max b.now (frameStart b.now + off) }

/-! ## Sample frames (R24, R338) -/

/-- The sample frames of the fitted slots (R24, R343): each reports its holder and a claim conflict it met, event 182; the strobe mark travels with it (R38). -/
def Bay.sampleSend (b : Bay) : Bay :=
  let b := b.atOffset 250
  b.each ((List.range 6).filter b.slotFitted) (fun b n =>
    let s := b.slotOf n
    let b := b.setSlot n { s with reported := s.holder, conflict := false, strobeMark := false, markSent := s.strobeMark }
    if s.conflict then (b.redRecord 8 3 n).note 182 else b)

/-- SAMPLE_FRAME_SEND (R24). -/
def execSampleFrameSend (s : State) : Result := s.onBay Bay.sampleSend

/-- The objects whose loops a slot's samples feed: the channels of a wale, the axes of slot X (R244). -/
def slotObjects (n : Nat) : List Nat := if n < 4 then waleChans n else if n = 4 then (List.range 6).map (· + 64) else []

/-- The loops of an object that are due in the frame that opened at `t` (R240): each is a loop of its own. -/
def loopsDue (obj t : Nat) : List MissKind :=
  if obj < 64 then [.chan]
  else .current :: ((if t % 25000 = 0 then [.speed] else []) ++ (if t % msTicks = 0 && isPress (obj - 64) then [.place] else []))

/-- The sample frame of slot n counts as missing at both cartridges (R338): its loops miss, event 178; the third unequal frame within 1 s is a fault that names the slot. -/
def Bay.sampleLost (b : Bay) (n : Nat) (unequal : Bool) : Bay :=
  let b := (b.each (slotObjects n) (fun b o => (loopsDue o (frameStart b.now)).foldl (fun b k => b.missLoop o k) b)).note 178
  if !unequal then b
  else
    let l := (b.slotOf n).unequal.filter (fun t => b.now - t < secTicks) ++ [b.now]
    if 3 ≤ l.length then ((b.onSlot n (fun s => { s with unequal := [] })).redRecord 6 3 n).raiseD 178 n
    else b.onSlot n (fun s => { s with unequal := l })

/-- A slot falls silent and from now on counts as empty (R17): a wale's engines and channels stop; slot X leaves the axes in STO, the channels at 25 % and ride-through unavailable; slot M ends the sweep of the meter. -/
def Bay.fallSilent (b : Bay) (n : Nat) : Bay :=
  if n < 4 then
    b.each (waleChans n) (fun b c => (b.onlyIf (b.engRuns c) (fun b => b.engHostStop c 4)).endDonation c)
  else if n = 4 then ((b.rtStop).setPlant { b.rtStop.plant with axConvOn := false, limit17 := true }).stoAll 14
  else { b with measSt := { b.measSt with cur := none, done := none } }

/-- A sample frame of slot n has reached a cartridge, or none; after more than 64 in a row the sums of a wale wait for their full values (R121). -/
def Bay.countMiss (b : Bay) (n : Nat) (missed : Bool) : Bay :=
  let v := b.slotOf n
  if missed then
    (b.setSlot n { v with miss := v.miss + 1, owed := if 64 ≤ v.miss then List.range 16 else v.owed }).onlyIf (v.miss + 1 == silentAfter) (fun b => b.fallSilent n)
  else if v.miss = 0 then b else b.setSlot n { v with miss := 0 }

/-- The exchange of R338: `ca` and `cb` are the slots whose sample frame has reached each cartridge, `differ` those whose two copies are unequal. -/
def Bay.sampleExchange (b : Bay) (ca cb differ : Nat) : Bay :=
  let b := b.atOffset 375
  let b := (b.wr F.RED_VIEW_RX_CA (ca % 32 : Nat)).wr F.RED_VIEW_RX_CB (cb % 32 : Nat)
  b.each ((List.range 6).filter b.slotFitted) (fun b n =>
    let a := ca.testBit n
    let c := cb.testBit n
    let b := b.countMiss n (!a && !c)
    if a && c && !differ.testBit n then b
    else
      let b := b.bump32 F.RED_SMIS_CNT
      if a && c then b.sampleLost n true
      else if !a && !c then b.sampleLost n false
      else if b.joining (if a then 1 else 0) then b.uncleanLockstep
      else b)

/-- SAMPLE_FRAME_EXCHANGE (R338). -/
def execSampleFrameExchange (ca cb differ : BitVec 6) (s : State) : Result :=
  s.onBay (fun b => b.sampleExchange ca.toNat cb.toNat differ.toNat)

/-! ## Command frames (R25, R341 to R344) -/

/-- The SEQ of a command frame (R341). -/
def seqOf (t index : Nat) : Nat := (t / frameTicks * 4 + index) % 64

/-- Both cartridges send command frame `j` at its offset to every receiver (R24, R341); a silent or empty one sends none. -/
def Bay.commandSend (b : Bay) (j : Nat) : Bay :=
  let b := b.atOffset (if j = 3 then 4250 else 500 + 1250 * j)
  let frame := fun (x n : Nat) =>
    (⟨x, n, (b.role x).toNat, seqOf b.now j, b.red.out.contains x, j == 3, j, b.now / frameTicks % 4294967296⟩ : CmdFrame)
  b.setRed { b.red with sent := ([0, 1].filter (fun x => b.cPresent x && !b.red.silent.contains x)).flatMap (fun x => b.cmdSlots.map (frame x)) }

/-- COMMAND_FRAME_SEND (R25). -/
def execCommandFrameSend (j : Fin 4) (s : State) : Result := s.onBay (fun b => b.commandSend j)

/-- SEQ values that have passed since the last accepted frame of a stage: one each 10 µs (R24, R341; log entry 32). -/
def SlotView.seqAhead (v : SlotView) (now : Nat) : Nat := (now - v.lastAcc + 625) / 1250

/-- A frame of the holder is good (R342): its CRC, its SEQ, no SUSPECT, ROLE 0b10 or 0b11. A stage without a holder, or one that has stopped, takes any SEQ (log entry 32). -/
def SlotView.good (v : SlotView) (f : CmdIn) (now : Nat) : Bool :=
  f.crc && !f.suspect && 2 ≤ f.role.toNat &&
    (v.holder == 0 || v.stopped || f.seq.toNat == (v.lastSeq + v.seqAhead now) % 64)

/-- The new targets of command frame 3 act in the section modulator of wale n (R24, R30, R60, R72, R77, R84): the governor's calls and factors, the references, the requests to close, open and ramp, the perturbation (R167). After a stop of R30 every cell switch opens instead (R30, R388). -/
def Bay.applyWale (b : Bay) (n : Nat) : Bay :=
  let w := b.waleSt n
  let b := b.waleGovern n
  if w.stoppedAlone then
    (b.setWale n { b.waleSt n with stoppedAlone := false }).each (waleChans n) (fun b c => (b.softStop c).actRequests c)
  else
    b.each (waleChans n) (fun b c =>
      let l := b.loopChOf c
      let b := b.setStage c { b.stageOf c with vRefIn := l.vRef, iTgt := l.iTgt }
      ((((b.actRequests c).tryClose c).shedWatch c).clampRef c).takeGen c)

/-- Command frames 0 to 2 repeat the target set of the frame before (R24, R25): the outputs to which a missed deadline returns too. A stopped stage takes none of them (R30). -/
def Bay.repeatWale (b : Bay) (n : Nat) : Bay :=
  if (b.waleSt n).stoppedAlone then b
  else
    b.each (waleChans n) (fun b c =>
      let l := b.loopChOf c
      (b.setStage c { b.stageOf c with vRefIn := l.vRef0, iTgt := l.iTgt0 }).clampRef c)

/-- The injection that the modulator superimposes on the estimated d axis below 10 % of rated speed (R270), in mV: 2.5 kHz of amplitude INJ_V, ten vectors a period, from a frame number that is a multiple of ten on (log entry 88). -/
def Bay.injection (b : Bay) (a : Nat) : Rat :=
  let x := b.axisOf a
  if b.axisDrives a && b.angleSrc a x.w ≠ 3 && !(b.axState a == Ax.starting && x.seq ≤ 1) then
    fmul (b.rd (F.AXS_CFG_INJ_V a) * 10 : Int) (sinTurn (dec ((b.now / frameTicks % 10 : Nat) : Int) 10))
  else 0

/-- The new targets of command frame 3 act in the axis modulator (R24, R267): each axis's dq vector, its angle at t0 + 36 µs and ω_e. -/
def Bay.applyAxes (b : Bay) : Bay :=
  b.each allAxes (fun b a =>
    let l := b.loopAxOf a
    let x := b.axisOf a
    let w := fdiv x.omegaE (fmul 2 piR)
    b.setAxis a { x with modD := fadd l.vd (b.injection a), modQ := l.vq, modAngle := fadd x.theta (fmul w (dec 36 1000000)), modOmega := w })

/-- A stage accepts command frame `j` received at `t` (R25, R343): claim and SEQ are kept, the targets it carries act. -/
def Bay.acceptFrame (b : Bay) (n role seq t j : Nat) : Bay :=
  let b := b.onSlot n (fun v => { v with lastRole := role, lastSeq := seq, lastAcc := t, misses := 0, stopped := false })
  if n < 4 then (if j = 3 then b.applyWale n else b.repeatWale n) else if n = 4 && j = 3 then b.applyAxes else b

/-- A frame comes good from the holder; the targets of command frame 3 apply at t0 + 36 µs (R24). -/
def Bay.takeFrame (b : Bay) (n role seq j : Nat) : Bay :=
  let t := b.now
  (if j = 3 then b.atOffset 4500 else b).acceptFrame n role seq t j

/-- The second miss of a stage (R343): the other cartridge becomes holder if its latest good frame, of the last 10 µs, claims 0b11 or 0b10, and that frame, whose INDEX its SEQ gives (R341), is accepted. Otherwise the stage keeps its targets and R30 applies. -/
def Bay.secondMiss (b : Bay) (n : Nat) (suspect : Bool) : Bay :=
  let v := b.slotOf n
  let old := v.holder - 1
  let qualifies := fun (q : Nat × Nat × Nat) => 2 ≤ q.2.1 && b.now - q.1 ≤ 10 * usTicks
  match v.cand.filter qualifies with
  | some q =>
    let first := b.red.soEdge != some (frameStart b.now)
    let b := if first then b.redRecord (if suspect then 2 else 1) v.holder n else b
    (b.setHolder n (other old + 1)).acceptFrame n q.2.1 q.2.2 q.1 (q.2.2 % 4)
  | none => b

/-- A frame of the holder is missed or flagged (R343, R350): the first opens the switch-over window, the second moves the holder. -/
def Bay.holderMissed (b : Bay) (n count : Nat) (suspect : Bool) : Bay :=
  let v := b.slotOf n
  if v.holder = 0 || count ≤ v.misses then b
  else
    let side := v.holder - 1
    let b := if v.misses = 0 && b.lockstep then (b.pairFault side).openWin 1 side else b
    let b := b.onSlot n (fun v => { v with misses := count })
    if 2 ≤ count then b.secondMiss n suspect else b

/-- The other cartridge's frame of the same SEQ came first (R343): with a strictly higher ROLE than the holder's it takes the slot, with both active it is a conflict. -/
def Bay.candRules (b : Bay) (n role seq : Nat) : Bay :=
  let v := b.slotOf n
  match v.cand with
  | some q =>
    if q.2.2 ≠ seq || b.now < q.1 || 10 * usTicks < b.now - q.1 then b
    else if role < q.2.1 then (b.setHolder n (other (v.holder - 1) + 1)).acceptFrame n q.2.1 seq q.1 (seq % 4)
    else if role = 3 && q.2.1 = 3 then b.onSlot n (fun v => { v with conflict := true })
    else b
  | none => b

/-- COMMAND_FRAME_RECEIVE (R342, R343): stage n receives a frame of cartridge x. Frames 0, 1, 2 and 3 arrive at t0 + 5, 15, 25 and 35 µs. -/
def Bay.commandReceive (b : Bay) (n x : Nat) (f : CmdIn) : Bay :=
  let j := f.index.val
  let b := b.atOffset (if j = 3 then 4375 else 625 + 1250 * j)
  let v := b.slotOf n
  let good := v.good f b.now
  let role := f.role.toNat
  let seq := f.seq.toNat
  let b := if b.joining x && b.role x = 1 && (!f.crc || f.suspect || seq ≠ seqOf b.now j) then b.uncleanLockstep else b
  if v.holder = x + 1 then
    if good then (b.takeFrame n role seq j).candRules n role seq else b.holderMissed n (v.misses + 1) f.suspect
  else if !good then b
  else if v.holder = 0 then (b.setHolder n (x + 1)).takeFrame n role seq j
  else
    let same := v.misses = 0 && v.lastSeq = seq
    let b := b.onSlot n (fun v => { v with cand := some (b.now, role, seq) })
    if same && v.lastRole < role then (b.setHolder n (x + 1)).takeFrame n role seq j
    else if same && v.lastRole = 3 && role = 3 then b.onSlot n (fun v => { v with conflict := true })
    else if 2 ≤ v.misses then b.secondMiss n false
    else b

/-- COMMAND_FRAME_RECEIVE (R343). -/
def execCommandFrameReceive (n : Fin 5) (x : Fin 2) (f : CmdIn) (s : State) : Result :=
  s.onBay (fun b => if b.slotFitted n then b.commandReceive n x f else b)

/-- HOLDER_MISS (R343): 12 µs, or 24 µs, without a good frame of the holder. The row carries bay time to that moment within the frame. -/
def Bay.holderMiss (b : Bay) (n : Nat) : Bay :=
  let v := b.slotOf n
  let t := v.lastAcc + 12 * usTicks * (v.misses + 1)
  let now := if b.now < t && t < nextEdge b.now then t else b.now
  if v.holder = 0 || now < t then b
  else ({ b with now := now }).holderMissed n (min 2 ((now - v.lastAcc) / (12 * usTicks))) false

/-- HOLDER_MISS (R343). -/
def execHolderMiss (n : Fin 5) (s : State) : Result := s.onBay (fun b => if b.slotFitted n then b.holderMiss n else b)

/-- A stage stops on its own (R30): a wale ramps every channel to zero current within 2 ms and holds them with their switches closed, with cause 0x0B for each closed switch and one wale record (R102); slot X puts all six axes in STO with cause 0x0E. The bay goes to SAFE-STOP, cause 3. -/
def Bay.stageStops (b : Bay) (n : Nat) : Bay :=
  let b := b.onSlot n (fun v => { v with stopped := true })
  let b :=
    if n < 4 then
      let b := b.setWale n { b.waleSt n with stoppedAlone := true }
      let b := b.each (waleChans n) (fun b c => ((if b.switchClosed c then b.chanFault c 11 255 else b).stageRamp c 2).hold c 10)
      (b.waleRecord n 11).raiseD (128 + n) 11
    else b.stoAll 14
  b.stopFor 3

/-- COMMAND_FRAME_TIMEOUT (R30): 100 µs without an accepted frame. -/
def execCommandFrameTimeout (n : Fin 5) (s : State) : Result :=
  s.onBay (fun b =>
    let v := b.slotOf n
    let t := v.lastAcc + 100 * usTicks
    let now := if b.now < t && t < nextEdge b.now then t else b.now
    if b.slotFitted n && !v.stopped && t ≤ now then ({ b with now := now }).stageStops n else b)

/-! ## Compute deadline (R26, R244, R245, R338, R347) -/

/-- A loop that completed in this frame ends its count of misses (R245). -/
def Bay.loopDone (b : Bay) (o : Nat) (k : MissKind) : Bay :=
  let a := o - 64
  match k with
  | .chan => let l := b.loopChOf o; if l.misses = 0 then b else b.setLoopCh o { l with misses := 0 }
  | .current => let l := b.loopAxOf a; if l.missI = 0 then b else b.setLoopAx a { l with missI := 0 }
  | .speed => let l := b.loopAxOf a; if l.missW = 0 then b else b.setLoopAx a { l with missW := 0 }
  | .place => let l := b.loopAxOf a; if l.missP = 0 then b else b.setLoopAx a { l with missP := 0 }

/-- The loop that a pair of an object and an item number names (R240): 0 a channel's or the current loop, 1 the speed loop, 2 the position loop. -/
def itemKind (o : Nat) (k : Nat) : MissKind := if o < 64 then .chan else match k with
  | 0 => .current
  | 1 => .speed
  | _ => .place

/-- The loops due in this frame at the deadline (R244, R245): those of `missed` miss, the others end their counts unless their samples were missing. -/
def Bay.closeLoops (b : Bay) (missed : List (Nat × MissKind)) : Bay :=
  let t := frameStart b.now
  b.each ((List.range 70).filter (fun o => b.slotFitted (if o < 64 then o / 16 else 4))) (fun b o => (loopsDue o t).foldl (fun b k =>
    if missed.contains (o, k) then b.missLoop o k else if b.missedAt o k t then b else b.loopDone o k) b)

/-- The deadline register of a lane (R264). -/
def laneEndKey (n : Nat) : Key :=
  match n with
  | 0 => F.LOOP_LANE0_END
  | 1 => F.LOOP_LANE1_END
  | 2 => F.LOOP_LANE2_END
  | _ => F.LOOP_LANE3_END

/-- t0 + 30.0 µs (R26, R244, R339): loops that are not complete miss, the others end their counts, the lanes' completion times are kept (log entry 31), and the command CRCs and, every 25th frame, the state digests are compared. -/
def Bay.computeDeadline (b : Bay) (e : FrameEnd) : Bay :=
  let b := b.atOffset 3750
  let t0 := frameStart b.now
  let missed := e.missed.map (fun m => (m.1.val, itemKind m.1.val m.2.val))
  let b := b.wr F.LOOP_STAT_LANE_OK 15
  let b := b.closeLoops missed
  let b := b.each (List.range 4) (fun b n =>
    let v : Int := (e.ends.getD n 0 : Nat)
    b.wr (laneEndKey n) (if t0 % secTicks = 0 then v else max v (b.rd (laneEndKey n))))
  let computes := fun x => 2 ≤ b.role x || (b.joining x && b.rd F.RED_STAT_SYNC == 5)
  let both := computes 0 && computes 1 && b.anyLane
  let blame := e.blame.map (fun x => x.val)
  if both && e.crcDiffer ≠ 0 then b.diverge blame 3 (((List.range 5).find? (fun n => e.crcDiffer.toNat.testBit n)).getD 0)
  else if both && e.digestDiffer && t0 % msTicks = 0 then b.diverge blame 4 0
  else b

/-- COMPUTE_DEADLINE (R244). -/
def execComputeDeadline (e : FrameEnd) (s : State) : Result := s.onBay (fun b => b.computeDeadline e)

end Sys2Proof.Machine
end

