-- ==== Sys2Proof/Machine/SkeinCtl.lean ====
section
/-! DEFINITION. Control of the Skein engines from outside: engine commands, masked commands, the start edge and the groups (spec chapter 07, R191 to R206). -/

namespace Sys2Proof.Machine

/-! ## Engine commands (R193, R194, R206) -/

/-- The HOLD causes that refuse a START (R194 row 5). -/
def Bay.holdBarsStart (b : Bay) (c : Nat) : Bool :=
  (b.chanOf c).holds.any (fun k => (4 ≤ k && k ≤ 8) || k == 11 || k == 12)

/-- The first condition of R194 that fails for a START of engine c, 0 for none. -/
def Bay.startRefusal (b : Bay) (c : Nat) : Int :=
  match b.verifiedImage (b.rd (F.ENG_IMAGE c)) 1 with
  | some ⟨_, _, _, _, _, _, .program entries _ _ refs⟩ =>
    if entries.length ≤ b.rdN (F.ENG_ENTRY_VAL c) then 1
    else if refs.any (fun id => (b.imageOf id).isNone || b.revoked.contains id) then 2
    else if !b.flag (F.CHN_REG_STAT_BORDER_OK c) then 3
    else if !(b.mode = Mode.energized || b.mode = Mode.forming || b.mode = Mode.degraded) then 4
    else if !b.walePresent (waleOf c) || b.holdBarsStart c then 5
    else if !b.flag F.SKN_CTL_EN then 6
    else 0
  | _ => 1

/-- START of a stopped engine: STARTING until the edge `at_`, or REFUSE (R193, R194). -/
def Bay.engStart (b : Bay) (c at_ : Nat) : Bay :=
  match b.startRefusal c with
  | 0 => (b.setEngState c Es.starting).setEng c { b.engOf c with startAt := at_, image := b.rd (F.ENG_IMAGE c) }
  | r => b.wr (F.ENG_STAT_REFUSE c) r

/-- The states in which an engine command applies (R193). -/
def Bay.cmdApplies (b : Bay) (c : Nat) : HostEng → Bool
  | .start => b.engState c == Es.stopped
  | .stop => b.engState c != Es.stopped && b.engState c != Es.frozen
  | .pause => b.engState c == Es.running || b.engState c == Es.waiting || b.engState c == Es.halted
  | .resume => b.engState c == Es.paused || b.engState c == Es.halted
  | .release => b.engState c == Es.frozen

/-- The reason a command to engine c draws at its write: an absent section 7 (R3), PAUSE and RESUME in mode HOLD 6 (R195), a state it does not apply to 4, a RELEASE without its read 5 (R206). -/
def Bay.cmdReason (b : Bay) (c : Nat) (x : HostEng) : Option Int :=
  if !b.walePresent (waleOf c) then some 7
  else if b.mode = Mode.hold ∧ (x = .pause ∨ x = .resume) then some 6
  else if !b.cmdApplies c x then some 4
  else if x = .release ∧ !b.flag (F.ENG_STAT_CLR_ARMED c) then some 5
  else none

/-- Give engine c an accepted command: START is judged now, the others take effect at the next frame edge in the order in which they came (R193). -/
def Bay.giveCommand (b : Bay) (c at_ : Nat) : HostEng → Bay
  | .start => b.engStart c at_
  | x => b.setEng c { b.engOf c with hostCmds := (b.engOf c).hostCmds ++ [x] }

/-- A command in ENGcc_CTL. -/
def Bay.engCtl (b : Bay) (c : Nat) (k : Key) (x : HostEng) : Bay :=
  b.gated k (fun b =>
    match b.cmdReason c x with
    | some r => b.refuse k r
    | none => b.giveCommand c (nextEdge b.now) x)

/-- ENGINE_START (R193, R194). -/
def execEngineStart (c : Fin 64) (s : State) : Result := s.onBay (fun b => b.engCtl c (F.ENG_CTL_START c) .start)
/-- ENGINE_STOP (R193). -/
def execEngineStop (c : Fin 64) (s : State) : Result := s.onBay (fun b => b.engCtl c (F.ENG_CTL_STOP c) .stop)
/-- ENGINE_PAUSE (R193). -/
def execEnginePause (c : Fin 64) (s : State) : Result := s.onBay (fun b => b.engCtl c (F.ENG_CTL_PAUSE c) .pause)
/-- ENGINE_RESUME (R193). -/
def execEngineResume (c : Fin 64) (s : State) : Result := s.onBay (fun b => b.engCtl c (F.ENG_CTL_RESUME c) .resume)
/-- ENGINE_RELEASE (R193, R206). -/
def execEngineRelease (c : Fin 64) (s : State) : Result := s.onBay (fun b => b.engCtl c (F.ENG_CTL_RELEASE c) .release)

/-- HSIG (R198): event word bit 7. -/
def Bay.hsig (b : Bay) (c : Nat) : Bay := b.gated (F.ENG_CTL_HSIG c) (fun b => b.sendEvBit b.now c 7)

/-- HSIG (R198). -/
def execHsig (c : Fin 64) (s : State) : Result := s.onBay (fun b => b.hsig c)

/-- FRZ_READ (R206): a read of ENGcc_FRZ while frozen arms RELEASE. -/
def Bay.frzRead (b : Bay) (c : Nat) : Bay :=
  if b.engState c = Es.frozen then b.setFlag (F.ENG_STAT_CLR_ARMED c) true else b

/-- FRZ_READ (R206). -/
def execFrzRead (c : Fin 64) (s : State) : Result := s.onBay (fun b => b.frzRead c)

/-- The engines of SKN.MASK_LO and MASK_HI (R214). -/
def Bay.maskedEngines (b : Bay) : List Nat := allChans.filter (fun c => bitOf (b.rd F.SKN_MASK) c)

/-- The edge of a masked START: that of SKN.T_AT, the next one when T_AT is 0 or past (R193). -/
def Bay.maskedEdge (b : Bay) : Nat := max (nextEdge b.now) (ceilTo frameTicks (b.rdN F.SKN_T_AT))

/-- A command in SKN.SCMD (R193): given to every masked engine it applies to; one configuration error when some engine refuses it. -/
def Bay.scmd (b : Bay) (k : Key) (x : HostEng) : Bay :=
  b.gated k (fun b =>
    let at_ := b.maskedEdge
    let bad := (b.maskedEngines.filterMap (fun c => b.cmdReason c x)).head?
    let b := b.each b.maskedEngines (fun b c => if (b.cmdReason c x).isSome then b else b.giveCommand c at_ x)
    match bad with
    | some r => b.refuse k r
    | none => b)

/-- SCMD_START (R193). -/
def execScmdStart (s : State) : Result := s.onBay (fun b => b.scmd F.SKN_SCMD_START .start)
/-- SCMD_STOP (R193). -/
def execScmdStop (s : State) : Result := s.onBay (fun b => b.scmd F.SKN_SCMD_STOP .stop)
/-- SCMD_PAUSE (R193). -/
def execScmdPause (s : State) : Result := s.onBay (fun b => b.scmd F.SKN_SCMD_PAUSE .pause)
/-- SCMD_RESUME (R193). -/
def execScmdResume (s : State) : Result := s.onBay (fun b => b.scmd F.SKN_SCMD_RESUME .resume)

/-- A command to engine c takes effect, if it applies to the state the engine then has (R193). -/
def Bay.hostCommand (b : Bay) (c : Nat) (x : HostEng) : Bay :=
  if !b.cmdApplies c x then b
  else
    match x with
    | .start => b
    | .stop => b.engHostStop c 2
    | .pause => b.engPause c 2 false
    | .resume => b.engResume c 2
    | .release => (((b.engStopped c 3).hold c 1).leave c 3).leavePause c

/-- The frame edge at which the commands to engine c take effect, each judged against the state it then finds; a freeze of the same frame goes first (R193, R205, R236). -/
def Bay.hostEngEdge (b : Bay) (c : Nat) : Bay :=
  let l := (b.engOf c).hostCmds
  if l.isEmpty then b
  else l.foldl (fun b x => b.hostCommand c x) (b.setEng c { b.engOf c with hostCmds := [] })

/-! ## The start edge (R191, R193) -/

/-- Engine c as its start leaves it (R191): k0 to k15 keep what host software wrote; the accumulators count net charge from here (R231). -/
def Bay.clearEngine (b : Bay) (c : Nat) : Bay :=
  let entry := match b.programOf (b.engOf c).image with
    | some (e, _, _, _) => nth e (b.rdN (F.ENG_ENTRY_VAL c))
    | none => 0
  let b := (((b.wr (F.ENG_PC c) entry).setFlag (F.ENG_STAT_Z c) false).setFlag (F.ENG_STAT_N c) false).setFlag (F.ENG_STAT_C c) false
  let b := b.each (List.range 256) (fun b x => b.wr (scrKey c x) 0)
  let b := b.each (List.range 4) (fun b i => (b.wr (retKey c i) 0).wr (aKey c i) 0)
  let b := (((b.wr (F.ENG_STAT_DEPTH c) 0).wr (F.ENG_EVT_VAL c) 0).wr (F.ENG_DON c) 0).wr (F.ENG_TURNS c) 0
  let e := b.engOf c
  b.setEng c { startAt := e.startAt, image := e.image, hostCmds := e.hostCmds, runs := e.runs, acc := List.replicate 4 ⟨0, b.netQ c⟩ }

/-- ENGINE_START_EDGE (R191, R193): the engine runs; host targets cease, the step in force ends with cause 11, the channel holds with cause 1 and its switch stays as it is. Event bits still on their way become visible at their own edges (R198). -/
def execEngineStartEdge (c : Fin 64) (s : State) : Result :=
  s.onBay (fun b =>
    if b.engState c = Es.starting && (b.engOf c).startAt ≤ b.now then
      let b := (b.clearEngine c).setEngState c Es.running
      let b := (b.endStep c 11 1024).endWatch c
      let b := b.setChan c { b.chanOf c with src := .none, toRest := false }
      ((b.setFlag (F.CHN_REG_STAT_DIRECT c) false).hold c 1).seeEdge
    else b)

/-! ## Groups (R200 to R203) -/

/-- The local engines that arrived at a group in its present generation. -/
def Bay.localMembers (b : Bay) (g : Nat) : List Nat :=
  ((b.groupOf g).arrived.filter (fun a => a.1 == b.rdN F.BAY_NODE_ADDR && a.2 < 64)).map (·.2)

/-- An engine waits on the present generation of group g (R200). -/
def Bay.waitsOn (b : Bay) (c g : Nat) : Bool :=
  b.engState c == Es.waiting &&
    match (b.engOf c).wait with
    | .group g' gen => g' == g && gen == b.rd (F.GRP_STAT_GEN g)
    | _ => false

/-- Set bit 5 of the event word of engine c at once (R201). -/
def Bay.groupBit (b : Bay) (c : Nat) : Bay :=
  if b.engState c = Es.frozen then b
  else
    let e := b.engOf c
    (b.setEng c { e with evt := setBitN e.evt 5 }).wr (F.ENG_EVT_VAL c) (setBitN (b.rdN (F.ENG_EVT_VAL c)) 5 : Nat)

/-- A generation ends: waiting members run on, with TO set after a break; bit 5 of every member is set, and a member in another wait is evaluated, as at every edge at which a bit becomes visible (R199); the generation advances (R201, R202). -/
def Bay.endGeneration (b : Bay) (g : Nat) (last : Int) : Bay :=
  let members := b.localMembers g
  let b := b.each members (fun b c =>
    let w := b.waitsOn c g
    let b := b.groupBit c
    let b := if w then b.wake c else b.waitSeen c
    b.onlyIf (w && last != 1) (fun b => b.setFlag (F.CHN_REG_STAT_TO c) true))
  let b := b.seeEdge.setGroup g {}
  ((b.wr (F.GRP_STAT_GEN g) ((b.rd (F.GRP_STAT_GEN g) + 1) % 65536)).wr (F.GRP_STAT_ARRIVED g) 0).wr (F.GRP_STAT_LAST g) last

/-- GROUP_RELEASE (R201): at the release edge, a frame edge. -/
def execGroupRelease (g : Fin 16) (s : State) : Result :=
  s.onBay (fun b =>
    match (b.groupOf g).releaseAt with
    | some t => if t ≤ b.now && b.now % frameTicks = 0 then b.endGeneration g 1 else b
    | none => b)

/-- A group is to break with the timestamp `ts` of its break; a release already fixed stands, and of several breaks the earliest ends the generation (R202). -/
def Bay.breakGroup (b : Bay) (g ts : Nat) (mismatch : Bool) : Bay :=
  let x := b.groupOf g
  let t := ceilTo msTicks (ts + 50000)
  if x.releaseAt.isSome || (x.breakAt.map (fun y => decide (y.1 ≤ t))).getD false then b
  else b.setGroup g { x with breakAt := some (t, mismatch) }

/-- A break that starts in this bay is sent to the other stakes (R202). -/
def Bay.breakHere (b : Bay) (g : Nat) (mismatch : Bool) : Bay :=
  let ts := frameStart b.now
  (b.breakGroup g ts mismatch).send (.groupBreak g (b.rd (F.GRP_STAT_GEN g)) ts mismatch)

/-- GROUP_TIMEOUT (R202): GRPg_TMO ms after the first arrival, before the count is reached. -/
def execGroupTimeout (g : Fin 16) (s : State) : Result :=
  s.onBay (fun b =>
    let x := b.groupOf g
    let tmo := b.rdN (F.GRP_TMO g)
    if 0 < tmo && !x.arrived.isEmpty && x.releaseAt.isNone && x.breakAt.isNone && x.firstAt + tmo * msTicks ≤ b.now then b.breakHere g false
    else b)

/-- GRPg_CTL.ABORT (R202). -/
def Bay.groupAbort (b : Bay) (g : Nat) : Bay :=
  b.gated (F.GRP_CTL_ABORT g) (fun b => b.breakHere g false)

/-- GROUP_ABORT (R202). -/
def execGroupAbort (g : Fin 16) (s : State) : Result := s.onBay (fun b => b.groupAbort g)

/-- The break edge of a group, a frame edge: the generation ends with LAST 2, or 3 after a mismatch (R202). -/
def Bay.breakEdge (b : Bay) (g : Nat) : Bay :=
  match (b.groupOf g).breakAt with
  | some (t, mismatch) => if t ≤ b.now && b.now % frameTicks = 0 then b.endGeneration g (if mismatch then 3 else 2) else b
  | none => b

/-- GROUP_BREAK (R202): without a message the break edge; with one, a break of another stake for a generation, with its timestamp and whether it came of a count mismatch: it breaks the present generation at the edge of that timestamp. -/
def execGroupBreak (x : BreakIn) (s : State) : Result :=
  s.onBay (fun b =>
    match x.msg with
    | none => b.breakEdge x.grp
    | some (gen, ts, mismatch) => if (gen.toNat : Int) = b.rd (F.GRP_STAT_GEN x.grp) then b.breakGroup x.grp ts mismatch else b)

/-- An arrival of another stake (R200 to R202): of the present generation only; an expected count that differs breaks the group with event 209 and sends the break on, and a completing arrival after the release edge releases it at the next frame edge with event 209. -/
def Bay.remoteArrival (b : Bay) (g : Nat) (gen : Int) (stake chan ts : Nat) (cnt : Int) : Bay :=
  if gen ≠ b.rd (F.GRP_STAT_GEN g) then b
  else if cnt ≠ b.rd (F.GRP_CNT g) then
    let b' := b.note 209
    if (b.groupOf g).releaseAt.isSome || (b.groupOf g).breakAt.isSome then b' else (b'.breakGroup g ts true).send (.groupBreak g gen ts true)
  else
    let had := (b.groupOf g).releaseAt.isSome
    let b := b.arrive g stake chan ts
    match (b.groupOf g).releaseAt with
    | some t => b.onlyIf (!had && t < b.now) (fun b => (b.setGroup g { b.groupOf g with releaseAt := some (nextEdge b.now) }).note 209)
    | none => b

/-- GROUP_ARRIVAL_MESSAGE (R200). -/
def execGroupArrivalMessage (g : Fin 16) (gen : BitVec 16) (stake chan ts : Nat) (cnt : BitVec 13) (s : State) : Result :=
  s.onBay (fun b => b.remoteArrival g gen.toNat stake chan ts cnt.toNat)

end Sys2Proof.Machine
end

