-- ==== Sys2Proof/Machine/Latch.lean ====
section
/-! DEFINITION. What takes effect on channels and engines at a frame edge: host targets (R166), the commands engines wrote (R197, R225 to R236), accumulators and event words (R198, R231). -/

namespace Sys2Proof.Machine

/-! ## Host targets (R13, R166) -/

/-- A TGT register of a channel. -/
def isTgt (k : Key) : Bool := k.grp == .chn && ((0x220 ≤ k.off && k.off ≤ 0x230) || k.off == 0x24C || k.off == 0x250)

/-- The value a TGT field of channel c has after the commit of `due`. -/
def Bay.tgtAfter (b : Bay) (due : List Shadow) (k : Key) : Int :=
  match due.find? (fun s => s.key = k) with
  | some s => s.val
  | none => b.rd k

/-- The step the combined set of targets asks for (R166). -/
def Bay.tgtParams (b : Bay) (c : Nat) (due : List Shadow) : Params :=
  let m := b.tgtAfter due (F.CHN_TGT_MODE_VAL c)
  { mode := m
    set := if m ≤ 1 || m = 3 then 0 else b.tgtAfter due (F.CHN_TGT_SET c)
    vlim := b.tgtAfter due (F.CHN_TGT_VLIM c)
    aux := if m = 7 then b.tgtAfter due (F.CHN_TGT_AUX c) else b.tgtAfter due (F.CHN_TGT_ILIM c)
    tsafe := b.tgtAfter due (F.CHN_TGT_SAFE c)
    t1 := max 1 (b.tgtAfter due (F.CHN_TGT_T12_T1 c)), t2 := max 1 (b.tgtAfter due (F.CHN_TGT_T12_T2 c)) }

/-- Host targets act in this mode (R166, R382, R390); in HOLD they are stored behind the channel's hold (R195). -/
def Bay.hostActs (b : Bay) : Bool :=
  let m := b.mode
  m = Mode.energized || m = Mode.forming || m = Mode.degraded || m = Mode.hold || (m = Mode.service && b.entState = Ent.closed)

/-- The lowest address among TGT writes (R166). -/
def lowestTgt (due : List Shadow) : Option Key :=
  due.foldl (fun acc s =>
    match acc with
    | none => some s.key
    | some k => if s.key.off < k.off then some s.key else some k) none

/-- Host targets act on channel c after a commit: a new host step, or a change of the one in force (R166). Where the last host step has ended, none is in force. -/
def Bay.hostStep (b : Bay) (c : Nat) (p : Params) (modeWritten modeChanged : Bool) : Bay :=
  let x := b.chanOf c
  if x.src ≠ .host && x.hostCeased && !modeWritten then b
  else if modeChanged || x.src ≠ .host || !x.live then
    let b := b.setChan c { x with hostCeased := false }
    (b.takeStep c p .host {}).disturbSweep c
  else b.setChan c { x with par := p }

/-- The TGT registers of channel c commit together (R13, R166): a set outside the border is discarded whole, reason 9. -/
def Bay.tgtCommit (b : Bay) (due : List Shadow) (c : Nat) : Bay :=
  let mine := due.filter (fun s => isTgt s.key && s.key.i == c)
  match lowestTgt mine with
  | none => b
  | some low =>
    let p := b.tgtParams c mine
    match b.failStep c p with
    | some _ => b.refuse low 9
    | none =>
      let was := b.rd (F.CHN_TGT_MODE_VAL c)
      let b := mine.foldl (fun b s => b.wr s.key s.val) b
      if b.engRuns c || !b.hostActs then b
      else b.hostStep c p (mine.any (fun s => s.key = F.CHN_TGT_MODE_VAL c)) (b.rd (F.CHN_TGT_MODE_VAL c) != was)

/-- The commit of every RWS write that is due (R12, R13). -/
def Bay.commitEdgeAll (b : Bay) : Bay :=
  let due := b.dueKeys b.now
  let b := { b with shadows := b.shadows.filter (fun s => !(s.edge ≤ b.now)) }
  let b := (due.filter (fun s => !isTgt s.key)).foldl (fun b s => b.wr s.key s.val) b
  b.each (allChans.filter (fun c => due.any (fun s => isTgt s.key && s.key.i == c))) (fun b c => b.tgtCommit due c)

/-- Host targets in force cease to be accepted for a reason other than SAFE-STOP, QUARANTINE and HOLD (R166): zero current within 2 ms, soft stop, HOLD cause 1. -/
def Bay.hostCeases (b : Bay) (c : Nat) : Bay :=
  let x := b.chanOf c
  if x.src ≠ .host || b.hostActs || b.mode = Mode.safeStop || b.mode = Mode.quarantine then b
  else
    let b := ((b.setChan c { x with src := .none, hostCeased := true }).setFlag (F.CHN_REG_STAT_DIRECT c) false).quickStop c
    b.hold c 1

/-! ## Commands of engines (R197, R225 to R236) -/

/-- The last MODE or STEP of the frame (R197). -/
def lastStep (l : List EngCmd) : Option EngCmd :=
  l.foldl (fun acc x =>
    match x with
    | .mode _ _ => some x
    | .step _ _ => some x
    | _ => acc) none

/-- The last RAMP of the frame that no later write of its target and no later STEP ends, with its end, its ms and whether a write of that target stands before it (R226). `k` is the target of the step it acts on, `direct` says that it is a direct step: on a table step no write counts. -/
def lastRamp (k : Nat) (direct : Bool) (l : List EngCmd) : Option (Int × Int × Bool) :=
  (l.foldl (fun (acc : Option (Int × Int × Bool) × Bool) x =>
    match x with
    | .ramp v ms => (some (v, ms, acc.2), acc.2)
    | .wrote j => if direct && j = k then (none, true) else acc
    | .step _ _ => (none, false)
    | _ => acc) (none, false)).1

/-- The header of the zoned table of a legacy profile (R144, R235). -/
def Bay.legHeader (b : Bay) (id : Option Int) : LegHdr :=
  match id with
  | some id => ((b.zonedOf id).map (·.leg)).getD {}
  | none => {}

/-- A MODE takes effect (R225, R235). -/
def Bay.latchMode (b : Bay) (c : Nat) (m : Int) (leg : Option Int) : Bay :=
  let p := (b.engOf c).targets.params m leg.isSome
  (b.takeStep c p (.direct (leg.getD 0)) (b.legHeader leg)).disturbSweep c

/-- A STEP takes effect in the zone in force (R232, R148): an entry outside the border freezes the engine. -/
def Bay.latchStep (b : Bay) (c : Nat) (id i : Int) : Bay :=
  match b.zonedOf id with
  | none => b
  | some t =>
    let z := b.zoneFor c id t
    let p := t.entry z i
    let b := b.setChan c { b.chanOf c with zonePend := none }
    let b := ((b.wr (F.CHN_REG_STAT_ZONE c) z).takeStep c p (.table id i) t.leg).disturbSweep c
    match b.failStep c p with
    | some off => b.freeze c 7 off
    | none => b

/-- Direct targets written in the frame act on a direct step that runs; a write of the ramped target ends its ramp (R225, R226). -/
def Bay.latchTargets (b : Bay) (c : Nat) (cmds : List EngCmd) : Bay :=
  if !b.directRuns c then b
  else
    let x := b.chanOf c
    let p := (b.engOf c).targets.params x.par.mode x.par.legacy
    let ended := cmds.any (fun y => match y with
      | .wrote t => t == rampTarget x.par.mode
      | _ => false)
    b.setChan c { x with par := p, ramp := if ended then none else x.ramp }

/-- A RAMP takes effect on the step in force (R226): in HOLD and REST it has none; 0 ms or less sets the value at once. It starts at the regulated value, which is `was` unless a step has just started (`fresh`) or a write of the frame before it has changed it; a direct target it moves takes its end. -/
def Bay.latchRamp (b : Bay) (c : Nat) (cmds : List EngCmd) (was : Int) (fresh : Bool) : Bay :=
  let x := b.chanOf c
  let k := rampTarget x.par.mode
  let direct := b.directRuns c
  if !x.live || x.par.mode ≤ 1 then b
  else
    match lastRamp k direct cmds with
    | none => b
    | some (v, ms, written) =>
      let start := if fresh || written then x.setNow b.now else was
      let b := b.setChan c { x with ramp := some ⟨start, v, b.now, ms⟩ }
      if !direct then b
      else
        let e := b.engOf c
        let t := e.targets.setTarget k v
        b.setEng c { e with targets := t, overlay := t }

/-- A quantity an accumulator counts (R231), in nC or nJ. -/
def Bay.accQty (b : Bay) (c q : Nat) : Int :=
  match q with
  | 0 => b.netQ c
  | 1 => b.rd (F.CHN_Q_IN c)
  | 2 => b.rd (F.CHN_Q_OUT c)
  | 3 => b.netE c
  | 4 => b.rd (F.CHN_E_IN c)
  | _ => b.rd (F.CHN_E_OUT c)

/-- The commands beside the step (R228, R231, R233, R235). -/
def Bay.latchOther (b : Bay) (c : Nat) : EngCmd → Bay
  | .press n => b.setEng c { b.engOf c with press := some n }
  | .sweep t => b.askSweep c t (sweepEdgeFor b.now) false
  | .sweepStop =>
    let b := b.endSweepEarly c 4
    let w := b.sweepOf c
    match w.req with
    | some r => if r.host then b else b.setSweep c { w with req := none }
    | none => b
  | .clra a q =>
    let e := b.engOf c
    b.setEng c { e with acc := e.acc.set a ⟨q, b.accQty c q⟩ }
  | .donate v => (b.onlyIf (v ≤ 0) (fun b => b.endDonation c)).wr (F.ENG_DON c) (max 0 v)
  | _ => b

/-- A command to the channel, which ends a legacy watch (R158, R225 to R228, R232, R235). -/
def EngCmd.commands : EngCmd → Bool
  | .mode _ _ => true
  | .step _ _ => true
  | .ramp _ _ => true
  | .press _ => true
  | .wrote _ => true
  | _ => false

/-- All commands of engine c's frame take effect together (R197): targets, the last MODE or STEP, a RAMP, the others in order. END acts as a host STOP with END = 1 (R222). -/
def Bay.latchEngine (b : Bay) (c : Nat) : Bay :=
  let e := b.engOf c
  if e.cmds.isEmpty && e.overlay = e.targets then b
  else if e.cmds.contains .end_ then b.engHostStop c 1
  else
    let cmds := e.cmds
    let was := (b.chanOf c).setNow b.now
    let b := b.onlyIf (cmds.any EngCmd.commands) (fun b => b.endWatch c)
    let b := b.setEng c { e with targets := e.overlay, cmds := [] }
    let st := lastStep cmds
    let b := match st with
      | some (.mode m leg) => b.latchMode c m leg
      | some (.step id i) => b.latchStep c id i
      | _ => b.latchTargets c cmds
    if b.engState c = Es.frozen then b
    else cmds.foldl (fun b x => b.latchOther c x) (b.latchRamp c cmds was st.isSome)

/-! ## What engines see (R198, R231) -/

/-- The accumulators of engine c at an edge (R231): the difference from the base, rounded toward zero. Those of an engine that is STOPPED, STARTING or FROZEN stand (R195, R205; log entry 82). -/
def Bay.accEdge (b : Bay) (c : Nat) : Bay :=
  if b.engState c = Es.stopped || b.engState c = Es.starting || b.engState c = Es.frozen then b
  else b.each (List.range 4) (fun b i =>
    let x := (b.engOf c).acc.getD i {}
    let v := (asSigned 64 (b.accQty c x.q - x.base)).tdiv 3600000
    if b.rd (aKey c i) = v then b else b.wr (aKey c i) v)

/-- The bits of event words that are due at this edge become visible, and the waits of their engines are evaluated (R198, R199). The word of a FROZEN engine stands (R205). -/
def Bay.evBitsEdge (b : Bay) : Bay :=
  let due := b.evBits.filter (fun x => x.at_ ≤ b.now)
  let b := { b with evBits := b.evBits.filter (fun x => !(x.at_ ≤ b.now)) }
  let b := due.foldl (fun b x =>
    if b.engState x.eng = Es.frozen then b
    else b.setEng x.eng { b.engOf x.eng with evt := setBitN (b.engOf x.eng).evt x.bit }) b
  b.each (allChans.filter (fun c => due.any (fun x => x.eng == c))) (fun b c => b.waitSeen c)

/-- The event word of engine c as host software reads it (R198, R230). -/
def Bay.evtReg (b : Bay) (c : Nat) : Bay :=
  let v : Int := (b.engOf c).evt
  if b.rd (F.ENG_EVT_VAL c) = v then b else b.wr (F.ENG_EVT_VAL c) v

/-- A host command that takes an engine's commands of the frame with it (R236). -/
def discards : HostEng → Bool
  | .stop => true
  | .release => true
  | _ => false

/-- One engine at a frame edge (R193, R197, R205, R231, R236): a freeze, a STOP or RELEASE before the latch, a PAUSE or RESUME after it. -/
def Bay.engineEdge (b : Bay) (c : Nat) : Bay :=
  let b := b.freezeEdge c
  let b := b.onlyIf ((b.engOf c).hostCmds.any discards) (fun b => b.hostEngEdge c)
  let b := b.latchEngine c
  b.hostEngEdge c

end Sys2Proof.Machine
end

