-- ==== Sys2Proof/Machine/MemEcc.lean ====
section
/-! DEFINITION. The memory commands: the scrubber, error injection, counters, DMA restart, initialisation (R374 to R381). -/

namespace Sys2Proof.Machine

/-- The scrub pass of cartridge x, if one runs. -/
def Bay.scrubOf (b : Bay) (x : Nat) : Option Scrub := b.memHid.scrub.getD x none

/-- Replace the scrub pass of cartridge x. -/
def Bay.setScrub (b : Bay) (x : Nat) (p : Option Scrub) : Bay := { b with memHid := { b.memHid with scrub := b.memHid.scrub.set x p } }

/-- Bytes the scrubber reads in a second (R376). -/
def scrubRate (k : Nat) : Nat := if k = 2 then 16777216 else 134217728

/-- The offsets of the lowest and highest word in error (R376). -/
def Bay.scrubSeen (b : Bay) (x a : Nat) : Bay :=
  let f := b.rd (F.MEM_SCR_FIRST x)
  let b := if f = 4294967295 then b.wr (F.MEM_SCR_FIRST x) a else b
  b.wr (F.MEM_SCR_LAST x) a

/-- Count one rewritten word (R376). -/
def Bay.scrubRep (b : Bay) (x : Nat) : Bay := b.bump32 (F.MEM_SCR_REP x)

/-- Clear the mark of a word whose corrected data is written back with valid check bits. -/
def State.clearMark (s : State) (x k w : Nat) (e : Option WordErr) : State :=
  { s with mem := s.mem.setRam x k ((s.mem.ram x k).mark w e 1) }

/-- The scrubber finds a word in error (R374, R376, R377): counted; with REPAIR a corrected word is written back, an uncorrectable one is taken from the partner where both hold it, event 199, and poisoned otherwise, event 197. Without REPAIR it is only counted (log entry 36). -/
def State.scrubWord (s : State) (x k w : Nat) (repair : Bool) (e : WordErr) : State :=
  let a := w * wordBytes k
  let s := { s with bay := (s.bay.seeErr x k w 0 7 (some e)).scrubSeen x a }
  if !e.bad then
    let s := { s with bay := s.bay.bump32 (F.MEM_SCR_CE x) }
    if repair then { s.clearMark x k w none with bay := s.bay.scrubRep x } else s
  else
    let s := { s with bay := s.bay.bump32 (F.MEM_SCR_UE x) }
    if !repair then s
    else if k = 0 && s.partnerHas x w && s.bay.anyLane then
      let s := s.copyFromPartner x w
      { s with bay := (s.bay.scrubRep x).note 199 }
    else (({ s.clearMark x k w (some .poison) with bay := s.bay.note 197 }).poisonCount x)

/-- The pass reads every word below offset `a` that it has not read (R376). -/
def State.scrubTo (s : State) (x a : Nat) : State :=
  match s.bay.scrubOf x with
  | none => s
  | some p =>
    let wb := wordBytes p.memsel
    let due := (s.mem.ram x p.memsel).errs.filter (fun e => p.pos ≤ e.1 * wb && e.1 * wb < a && e.1 * wb ≤ p.last)
    let s := due.foldl (fun s e => s.scrubWord x p.memsel e.1 p.repair e.2) s
    { s with bay := s.bay.setScrub x (some { p with pos := max p.pos a }) }

/-- How far a pass has come at bay time (R376). -/
def Scrub.reached (p : Scrub) (now : Nat) : Nat := p.start + (now - p.t0) * scrubRate p.memsel / secTicks

/-- The pass ends and its summary stands (R376); `part` says that it ended early. -/
def State.scrubEnd (s : State) (x : Nat) (part : Bool) : State :=
  let b := (s.bay.setScrub x none).setFlag (F.MEM_STAT_SCR_BUSY x) false
  { s with bay := (b.setFlag (F.MEM_STAT_SCR_PART x) part).note 196 }

/-- The passes in progress advance to bay time; a cartridge that has left the pairing stops its pass (R376, R380). -/
def State.scrubEdge (s : State) : State :=
  [0, 1].foldl (fun s x =>
    match s.bay.scrubOf x with
    | none => s
    | some p =>
      let s := s.scrubTo x (p.reached s.bay.now)
      if s.bay.role x = 0 then s.scrubEnd x true else s) s

/-- The registers of MEM are those of a fitted cartridge; a write to the half of an empty slot is refused (R3, R381). -/
def Bay.memHalf (b : Bay) (x : Nat) : Bool := b.cPresent x

/-- A memory command: judged as any write, then by the half it names (R3, R381, R398). -/
def State.onMemory (s : State) (x : Nat) (k : Key) (f : State → State) : Result :=
  if s.bay.mode = 0 then .next s
  else
    match s.bay.gate k with
    | some r => s.onBay (fun b => b.refuse k r)
    | none => if s.bay.memHalf x then .next (f s) else s.onBay (fun b => b.refuse k 7)

/-- A write of SCR_GO (R376). -/
def State.scrubGo (s : State) (x : Nat) : State :=
  let b := s.bay
  let k := b.rdN (F.MEM_SCR_CFG_MEMSEL x)
  let st := b.rdN (F.MEM_SCR_START x)
  let en := b.rdN (F.MEM_SCR_END x)
  if b.flag (F.MEM_STAT_SCR_BUSY x) || en < st then { s with bay := b.refuse (F.MEM_CTL_SCR_GO x) 4 }
  else
    let b := (((b.wr (F.MEM_SCR_CE x) 0).wr (F.MEM_SCR_UE x) 0).wr (F.MEM_SCR_REP x) 0)
    let b := (b.wr (F.MEM_SCR_FIRST x) 4294967295).wr (F.MEM_SCR_LAST x) 4294967295
    let b := (b.setFlag (F.MEM_STAT_SCR_BUSY x) true).setFlag (F.MEM_STAT_SCR_PART x) false
    { s with bay := b.setScrub x (some ⟨k, b.flag (F.MEM_SCR_CFG_REPAIR x), b.now, st, en, st⟩) }

/-- SCR_GO (R376). -/
def execScrGo (x : Fin 2) (s : State) : Result := s.onMemory x (F.MEM_CTL_SCR_GO x) (fun s => s.scrubGo x)

/-- A write of SCR_STOP (R376): the pass ends at the word it has reached; without a pass nothing happens. -/
def State.scrubStop (s : State) (x : Nat) : State :=
  match s.bay.scrubOf x with
  | none => s
  | some p => (s.scrubTo x (p.reached s.bay.now)).scrubEnd x true

/-- SCR_STOP (R376). -/
def execScrStop (x : Fin 2) (s : State) : Result := s.onMemory x (F.MEM_CTL_SCR_STOP x) (fun s => s.scrubStop x)

/-- SCRUB_COMPLETE (R376): every word of the range has been read. -/
def execScrubComplete (x : Fin 2) (s : State) : Result :=
  match s.bay.scrubOf x with
  | none => .next s
  | some p => .next ((s.scrubTo x (p.last + 1)).scrubEnd x false)

/-! ## Injection (R379) -/

/-- Where injection is accepted: the DRAM trace region, the last 4 KiB of SRAM and of MRAM, a whole word (R379). -/
def injTarget (k a : Nat) : Bool :=
  a % wordBytes k = 0 &&
    (if k = 0 then traceAt ≤ a && a < recordsAt else if k ≤ 2 then memSize k - 4096 ≤ a && a < memSize k else false)

/-- A write of INJ_GO (R379): the word is stored with the supplied check bits and then behaves as one that failed by itself. -/
def State.inject (s : State) (x : Nat) : State :=
  let b := s.bay
  let k := b.rdN (F.MEM_INJ_CFG_MEMSEL x)
  let a := b.rdN (F.MEM_INJ_ADDR x)
  if b.mode ≠ Mode.service then { s with bay := b.refuse (F.MEM_CTL_INJ_GO x) 6 }
  else if !injTarget k a then { s with bay := b.refuse (F.MEM_CTL_INJ_GO x) 4 }
  else
    let lo := b.rdN (F.MEM_INJ_DLO x) % 4294967296
    let d := if k = 0 then lo + 4294967296 * (b.rdN (F.MEM_INJ_DHI x) % 4294967296) else lo
    let chk := b.rdN (F.MEM_INJ_CHK_VAL x) % (if k = 0 then 256 else 128)
    let w := a / wordBytes k
    let e := match Config.eccClass k d chk with
      | 0 => none
      | 1 => some (WordErr.single (Config.eccSyn k d chk))
      | 2 => some .poison
      | _ => some .double
    let v := match e with
      | some (.single _) => Config.eccData k d chk
      | _ => d
    let s := s.writeWords x k a (leBytes (wordBytes k) v)
    (s.clearMark x k w e).poisonCount x

/-- INJ_GO (R379). -/
def execInjGo (x : Fin 2) (s : State) : Result := s.onMemory x (F.MEM_CTL_INJ_GO x) (fun s => s.inject x)

/-! ## Counters, DMA, initialisation -/

/-- A write of CNT_CLR (R381). -/
def Bay.cntClear (b : Bay) (x : Nat) : Bay :=
  b.each [0, 1, 2] (fun b k => (b.wr (ceKeys k x).1 0).wr (ceKeys k x).2.2.2 0)

/-- CNT_CLR (R381). -/
def execCntClr (x : Fin 2) (s : State) : Result :=
  s.onMemory x (F.MEM_CTL_CNT_CLR x) (fun s => { s with bay := s.bay.cntClear x })

/-- A write of MEM.DMA_RST (R380): the named channels run again from their descriptors. -/
def Bay.dmaRestart (b : Bay) (x mask : Nat) : Bay :=
  let h := b.rdN (F.MEM_DMA_HALT_MASK x)
  b.wr (F.MEM_DMA_HALT_MASK x) ((List.range 16).foldl (fun m d => if mask.testBit d then clearBitN m d else m) h : Nat)

/-- DMA_RST (R380). -/
def execDmaRst (x : Fin 2) (mask : BitVec 16) (s : State) : Result :=
  s.onMemory x (F.MEM_DMA_RST_MASK x) (fun s => { s with bay := s.bay.dmaRestart x mask.toNat })

/-- BOOT has written every word of DRAM and SRAM and scrubbed MRAM with REPAIR (R378): corrected words are counted and rewritten, uncorrectable ones poisoned, since no partner holds MRAM. An MRAM word found poisoned that holds an enrolment (cause 2) or a VERSION (cause 3) counts under R470; which words those are is the firmware's, so `record` says it (0 neither). -/
def State.initDone (s : State) (x : Nat) (record : Nat) : State :=
  let c := s.mem.cart x
  let s := { s with mem := s.mem.setCart x { c with dram := {}, sram := {} } }
  let bad := (s.mem.ram x 2).errs.any (fun e => e.2.bad)
  let s := (s.mem.ram x 2).errs.foldl (fun s e => s.scrubWord x 2 e.1 true e.2) s
  let b := s.bay.setFlag (F.MEM_STAT_INIT_DONE x) true
  { s with bay := if bad && record != 0 then { b with modeSt := { b.modeSt with mramBad := b.modeSt.mramBad ++ [(x, record + 1)] } } else b }

/-- MEMORY_INIT_DONE (R378). -/
def execMemoryInitDone (x : Fin 2) (record : Fin 3) (s : State) : Result :=
  if s.bay.mode = Mode.boot && s.bay.cPresent x && !s.bay.flag (F.MEM_STAT_INIT_DONE x) then .next (s.initDone x record) else .next s

end Sys2Proof.Machine
end

