-- ==== Sys2Proof/Machine/Pos.lean ====
section
/-! DEFINITION. Tooth-wheel and serial position feedback: counting, the gap, speed, SSI words, faults, compare at spacing and pass-through (spec chapter 11, R289 to R306). -/

namespace Sys2Proof.Machine

/-- Bay time in the 4 ns units of edge timestamps (R296). -/
def t4Of (t : Nat) : Nat := 2 * t

/-- The source of an interface (R289). -/
def Bay.posSrc (b : Bay) (p : Nat) : Int := b.rd (F.POS_CFG_SRC p)

/-- Counts the missing teeth would give: 4 × MISS (R294). -/
def Bay.gapCounts (b : Bay) (p : Nat) : Int := 4 * b.rd (F.POS_CFG_MISS p)

/-- The position of an interface in 2^-16 rev (R292, R298), unbounded. -/
def Bay.posNow (b : Bay) (p : Nat) : Int :=
  let n : Int := if b.posSrc p = 2 then 2 ^ (b.rdN (F.POS_SSI_CFG_ST p)) else b.rd (F.POS_WRAP p)
  b.rd (F.POS_TURNS p) * 65536 + b.rd (F.POS_COUNT p) * 65536 / max 1 n

/-- The low 32 bits of the position in POSp.POS (R292). -/
def Bay.posReg (b : Bay) (p : Nat) : Bay := b.wr (F.POS_POS p) (b.posNow p % 4294967296)

/-! ## Faults (R301) -/

/-- A feedback fault: POSp.FLT, REF_FOUND cleared with what the reference rests on, the compare disarmed (R305), the axis in STO with cause 0x0C. -/
def Bay.posFault (b : Bay) (p code : Nat) (detail : Int) : Bay :=
  let b := if b.rd (F.POS_FLT_CODE p) = 0 then (b.wr (F.POS_FLT_CODE p) code).wr (F.POS_FLT_DETAIL p) (detail % 65536) else b
  let b := b.setEnc p { b.encOf p with pastExp := none, ssiPos := none, ssiHist := [] }
  ((b.setFlag (F.POS_STAT_REF_FOUND p) false).setFlag (F.POS_STAT_CMP_ARMED p) false).stoAxis p 12

/-! ## Compare at spacing (R302, R303) -/

/-- Show the oldest FIFO entry and the fill (R306). -/
def Bay.fifoRegs (b : Bay) (p : Nat) : Bay :=
  let f := (b.encOf p).fifo
  let b := b.wr (F.POS_FIFO_STAT_FILL p) f.length
  match f with
  | [] => ((((b.wr (F.POS_HIT_POS p) 0).wr (F.POS_HIT_FRC_FORCE p) 0).wr (F.POS_HIT_FRC_MULTI p) 0).wr (F.POS_HIT_FRC_OOS p) 0).wr (F.POS_HIT_T p) 0
  | h :: _ =>
    ((((b.wr (F.POS_HIT_POS p) h.pos).wr (F.POS_HIT_FRC_FORCE p) h.force).setFlag (F.POS_HIT_FRC_MULTI p) h.multi).setFlag (F.POS_HIT_FRC_OOS p) h.oos).wr (F.POS_HIT_T p) h.time

/-- The next compare point lies between two positions in the armed direction. -/
def crosses (old new pt spc : Int) : Bool :=
  if 0 < spc then old < pt && pt ≤ new else if spc < 0 then new ≤ pt && pt < old else false

/-- Take the hits of one movement: an entry each, the point advanced, the count down; at 0 the compare disarms (R302). `n` bounds the points passed. -/
def Bay.takeHits (b : Bay) (p : Nat) (old new : Int) (t : Nat) (force : Int) (multi : Bool) : Nat → Bay
  | 0 => b
  | n + 1 =>
    let pt := b.rd (F.POS_CMP_POS p)
    let spc := b.rd (F.POS_CMP_SPC p)
    if b.flag (F.POS_STAT_CMP_ARMED p) && crosses old new pt spc then
      let x := b.encOf p
      let h : Hit := { pos := pt, time := t, force := force, multi := multi, oos := force < 0 || b.rd (F.AXS_F_FS p) < force }
      let b := if 64 ≤ x.fifo.length then b.bumpSat (F.POS_FIFO_STAT_LOST p) 1 65535
               else b.setEnc p { x with fifo := x.fifo ++ [h] }
      let b := b.wr (F.POS_CMP_POS p) (asSigned 32 (pt + spc))
      let left := b.rd (F.POS_CMP_LEFT p)
      let b := if b.rd (F.POS_CMP_N p) = 0 then b
               else
                 let b := b.wr (F.POS_CMP_LEFT p) (left - 1)
                 if left ≤ 1 then (b.setFlag (F.POS_STAT_CMP_ARMED p) false).note (144 + p) else b
      b.takeHits p old new t force multi n
    else b

/-- The points that lie in one movement. -/
def Bay.pointsIn (b : Bay) (p : Nat) (old new : Int) : Nat :=
  let spc := b.rd (F.POS_CMP_SPC p)
  let pt := b.rd (F.POS_CMP_POS p)
  if spc = 0 || !crosses old new pt spc then 0 else ((new - pt).natAbs / spc.natAbs) + 1

/-- Test a movement against the compare (R302, R303). -/
def Bay.compareMove (b : Bay) (p : Nat) (old new : Int) (t : Nat) (force : Int) : Bay :=
  if !b.flag (F.POS_STAT_CMP_ARMED p) then b
  else
    let n := b.pointsIn p old new
    (b.takeHits p old new t force (1 < n) n).fifoRegs p

/-- A count correction passes points without hits: they are advanced over and counted in SKIP (R303). -/
def Bay.skipMove (b : Bay) (p : Nat) (old new : Int) : Bay :=
  if !b.flag (F.POS_STAT_CMP_ARMED p) then b
  else
    let n := b.pointsIn p old new
    (b.wr (F.POS_CMP_POS p) (asSigned 32 (b.rd (F.POS_CMP_POS p) + n * b.rd (F.POS_CMP_SPC p)))).bumpSat (F.POS_FIFO_STAT_SKIP p) n 255

/-! ## The tooth counter (R291 to R296) -/

/-- Move the counter by `k` counts with its wrap (R292). -/
def Bay.moveCount (b : Bay) (p : Nat) (k : Int) : Bay :=
  let w := max 1 (b.rd (F.POS_WRAP p))
  let c := b.rd (F.POS_COUNT p) + k
  let b := (b.wr (F.POS_COUNT p) (c % w)).wr (F.POS_TURNS p) (asSigned 32 (b.rd (F.POS_TURNS p) + c / w))
  b.setEnc p { b.encOf p with abs := (b.encOf p).abs + k }

/-- Start the window of R295 anew. -/
def Bay.clearWin (b : Bay) (p : Nat) : Bay :=
  (b.wr (F.POS_STAT_ILL_WIN p) 0).setEnc p { b.encOf p with winTravel := 0 }

/-- Count one edge with direction `d`, adding the gap's counts where they fall due (R291, R294). -/
def Bay.countEdge (b : Bay) (p : Nat) (d : Int) : Bay :=
  let w := b.rd (F.POS_WRAP p)
  let g := b.gapCounts p
  let c := b.rd (F.POS_COUNT p)
  let ref := b.flag (F.POS_STAT_REF_FOUND p)
  let x := b.encOf p
  let past := if x.dir = d then x.pastExp.map (· + 1) else none
  let ins := ref && ((0 < d && c + 1 + g = w) || (d < 0 && c = 0))
  let b := b.setEnc p { x with pastExp := if ins then some 0 else past, winTravel := x.winTravel + 1 }
  let b := b.moveCount p (if ins then d * (1 + g) else d)
  let b := b.setFlag (F.POS_STAT_DIR p) (d < 0)
  if (ref && ins) || (!ref && w ≤ (b.encOf p).winTravel) then b.clearWin p else b

/-- The count expected at a passage in direction `d` (R293). -/
def Bay.expectCount (b : Bay) (p : Nat) (d : Int) : Int :=
  if 0 < d then 0 else b.rd (F.POS_WRAP p) - b.gapCounts p - 4

/-- A difference taken into -w/2 to w/2. -/
def centred (w d : Int) : Int :=
  let m := d % w
  if w < 2 * m then m - w else m

/-- A recognised gap passage at the edge just counted (R293, R294). -/
def Bay.gapPassage (b : Bay) (p : Nat) (d : Int) : Bay :=
  let w := max 1 (b.rd (F.POS_WRAP p))
  let g := b.gapCounts p
  let c := b.rd (F.POS_COUNT p)
  let e := b.expectCount p d
  let x := b.encOf p
  if !b.flag (F.POS_STAT_REF_FOUND p) then
    let b := (b.wr (F.POS_COUNT p) e).setFlag (F.POS_STAT_REF_FOUND p) true
    (b.clearWin p).setEnc p { (b.clearWin p).encOf p with pastExp := none }
  else
    let would := if x.pastExp.isSome then c else c + d * g
    let dif := centred w (would - e)
    let b := b.setEnc p { x with pastExp := none }
    if dif = 0 then (if x.pastExp.isSome then b else b.moveCount p (d * g)).setFlag (F.POS_STAT_IDX_CORR p) false
    else if dif.natAbs ≤ 8 then
      let old := b.posNow p
      let b := b.moveCount p ((if x.pastExp.isSome then 0 else d * g) - dif)
      let x := b.encOf p
      let b := b.setEnc p { x with span := x.span.map (fun s => (s.1, s.2 - dif)) }
      let b := b.skipMove p old (b.posNow p)
      let b := ((b.wr (F.POS_IDX_ERR p) dif).bump32 (F.POS_IDX_CNT p)).setFlag (F.POS_STAT_IDX_CORR p) true
      (b.clearWin p).note (144 + p)
    else b.posFault p 1 dif

/-- A leading edge of A: its interval against the previous one marks a gap passage (R293). A lead with no earlier one in its direction starts anew. -/
def Bay.leadEdge (b : Bay) (p t4 : Nat) (d : Int) (turned : Bool) : Bay :=
  let x := b.encOf p
  match (if turned then none else x.leadT) with
  | none => b.setEnc p { x with leadT := some t4, leadInt := none }
  | some t0 =>
    let iv := t4 - t0
    let m : Nat := (b.rd (F.POS_CFG_MISS p)).toNat + 1
    let gap := match x.leadInt with
      | some pv => pv < b.rdN (F.POS_CFG_GAP_TMAX p) * 250000 && 6 * m * pv ≤ 10 * iv && 10 * iv ≤ 15 * m * pv
      | none => false
    let b := b.setEnc p { x with leadT := some t4, leadInt := if gap then x.leadInt else some iv }
    if gap then b.gapPassage p d else b

/-- The speed register from the internal speed, 0.1 rpm (R296). -/
def Bay.spdReg (b : Bay) (p : Nat) : Bay :=
  let u : Int := if b.posSrc p = 2 then 65536 else max 1 (b.rd (F.POS_WRAP p))
  b.wr (F.POS_SPD p) (truncR ((b.encOf p).speed * 600 / (u : Rat)))

/-- The speed at a counted edge: over up to four earlier edges of the same direction (R296). -/
def Bay.edgeSpeed (b : Bay) (p t4 : Nat) (turned : Bool) : Bay :=
  let x := b.encOf p
  if turned then b.setEnc p { x with span := [(t4, x.abs)] }
  else
    match x.span with
    | [] => b.setEnc p { x with span := [(t4, x.abs)] }
    | (t0, a0) :: r =>
      let v : Rat := if t4 = t0 then x.speed else mkRat ((x.abs - a0) * 250000000) (t4 - t0)
      let sp := x.span ++ [(t4, x.abs)]
      (b.setEnc p { x with speed := v, span := if 4 ≤ r.length + 1 then sp.drop 1 else sp }).spdReg p

/-- The two pairs of X34 (R304): the lines of the input selected, high while a change is held, at zero differential for a pair in line fault or without pass-through. The words of an SSI source pass between two commands, and its pairs stand high between words. -/
def Bay.showX34 (b : Bay) : Bay :=
  let x := b.encOf 0
  let y := b.encOf x.ptSel.toNat
  let ssi := b.posSrc x.ptSel.toNat == 2
  let pair := fun (k : Nat) (lev : Bool) =>
    if x.ptEn = 0 then none
    else if x.ptHold.isSome then some true
    else if y.lineMask.testBit k then none
    else some (ssi || lev)
  let a := pair 0 y.levA
  let c := pair 1 y.levB
  if x.outA = a && x.outB = c then b else b.setEnc 0 { x with outA := a, outB := c }

/-- The filtered states of the lines of an interface change where they are not frozen (R290), and X34 follows (R304). -/
def Bay.lineMove (b : Bay) (p : Nat) (onA onB : Bool) : Bay :=
  let x := b.encOf p
  let a := onA && !x.lineMask.testBit 0
  let c := onB && !x.lineMask.testBit 1
  (b.setEnc p { x with levA := xor x.levA a, levB := xor x.levB c }).showX34

/-- An accepted edge of A or B (R291). `lead` says it is a leading-side edge of A; `force` is the load-cell conversion that follows it. -/
def Bay.toothEdge (b : Bay) (p : Nat) (fwd onA lead : Bool) (t4 : Nat) (force : Int) : Bay :=
  let x := b.encOf p
  if b.posSrc p ≠ 1 || x.lineMask.testBit (if onA then 0 else 1) then b
  else
    let d : Int := if fwd then 1 else -1
    let turned := x.dir ≠ d
    let old := b.posNow p
    let b := b.countEdge p d
    let new := b.posNow p
    let b := b.setEnc p { b.encOf p with dir := d, lastEdge := some t4 }
    let b := if turned then b.setEnc p { b.encOf p with leadT := none, leadInt := none } else b
    let b := b.compareMove p old new (t4 / 2) force
    let b := if onA && lead then b.leadEdge p t4 d turned else b
    let b := b.edgeSpeed p t4 turned
    let y := b.encOf p
    let possible : Bool := match y.leadInt with
      | some pv => pv < b.rdN (F.POS_CFG_GAP_TMAX p) * 250000
      | none => false
    let lim : Int := if fwd then 8 else 11
    let b := match y.pastExp with
      | some k =>
        if lim ≤ k then
          if possible then (b.setEnc p { y with pastExp := none }).posFault p 2 (if fwd then k else k - 3)
          else b.setEnc p { y with pastExp := none }
        else b
      | none => b
    b.posReg p

/-- TOOTH_EDGE (R291). -/
def execToothEdge (p : Fin 4) (fwd onA lead : Bool) (t4 : Nat) (force : Int) (s : State) : Result :=
  s.onBay (fun b => (b.lineMove p onA (!onA)).toothEdge p fwd onA lead t4 force)

/-- ILLEGAL_TRANSITION (R291, R295, R296): the counter stays; the third in a window is a sync fault; the speed span starts anew. A line fault comes first (R305). -/
def execIllegalTransition (p : Fin 4) (t4 : Nat) (s : State) : Result :=
  s.onBay (fun b =>
    let b := b.lineMove p true true
    let x := b.encOf p
    if b.posSrc p ≠ 1 || x.lineMask ≠ 0 then b
    else
      let b := b.bump32 (F.POS_ILL_CNT p)
      let n := b.rd (F.POS_STAT_ILL_WIN p) + 1
      let b := (b.wr (F.POS_STAT_ILL_WIN p) (min 3 n)).setEnc p { x with span := [(t4, x.abs)] }
      if 3 ≤ n then b.posFault p 3 (b.rd (F.POS_ILL_CNT p)) else b)

/-- LINE_FAULT (R290, R301): lines by mask, bit 0 A or clock, bit 1 B or data. -/
def execLineFault (p : Fin 4) (mask : Fin 4) (s : State) : Result :=
  s.onBay (fun b =>
    let x := b.encOf p
    let m := x.lineMask ||| mask.val
    if m = x.lineMask then b
    else
      let b := ((b.setEnc p { x with lineMask := m }).setFlag (F.POS_STAT_LINE_FLT p) true).showX34
      if b.posSrc p = 0 then b else b.posFault p 4 m)

/-- LINE_FAULT_CLEARED (R290). -/
def execLineFaultCleared (p : Fin 4) (mask : Fin 4) (s : State) : Result :=
  s.onBay (fun b =>
    let x := b.encOf p
    let m := x.lineMask - (x.lineMask &&& mask.val)
    ((b.setEnc p { x with lineMask := m }).setFlag (F.POS_STAT_LINE_FLT p) (m ≠ 0)).showX34)

/-- SPEED_TIMEOUT (R296): 100 ms without an edge. -/
def execSpeedTimeout (p : Fin 4) (s : State) : Result :=
  s.onBay (fun b =>
    let x := b.encOf p
    let due := match x.lastEdge with
      | some t => t + 25000000 ≤ t4Of b.now
      | none => true
    if b.posSrc p = 1 && due then (b.setEnc p { x with speed := 0, span := [] }).spdReg p else b)

/-! ## SSI (R298 to R300) -/

/-- The CRC of `n` bits of `v`, MSB first, seed 0, for a polynomial of `len` bits without its top term (R298). -/
def ssiCrc (len poly v n : Nat) : Nat :=
  (List.range n).foldl (fun r i =>
    let inb := (v / 2 ^ (n - 1 - i)) % 2
    let top := (r / 2 ^ (len - 1) + inb) % 2
    (r * 2 % 2 ^ len) ^^^ (if top = 1 then poly % 2 ^ len else 0)) 0

/-- Gray decoding of an n-bit number. -/
def grayDecode (v : Nat) : Nat → Nat
  | 0 => v
  | n + 1 => v ^^^ grayDecode (v / 2) n

/-- What a received word says: its data bits, and the type of the fault it shows (1 CRC, 2 error bit, 3 timeout), 0 for none. -/
def Bay.ssiCheck (b : Bay) (p w : Nat) (timedOut : Bool) : Nat × Nat :=
  let n := b.rdN (F.POS_SSI_CFG_MT p) + b.rdN (F.POS_SSI_CFG_ST p)
  let e := b.rdN (F.POS_SSI_CFG_ERR_EN p)
  let cl := b.rdN (F.POS_SSI_CFG_CRC_LEN p)
  let body := w / 2 ^ cl
  let data := field body e n
  let crc := w % 2 ^ cl
  let want := ssiCrc cl (b.rdN (F.POS_SSI_CRC_VAL p)) (body % 2 ^ (n + e)) (n + e)
  let want := if b.flag (F.POS_SSI_CFG_CRC_INV p) then 2 ^ cl - 1 - want else want
  let bad := if timedOut then 3
             else if 0 < cl && crc ≠ want then 1
             else if e = 1 && (body % 2 = 1) ≠ b.flag (F.POS_SSI_CFG_ERR_POL p) then 2
             else 0
  (data, bad)

/-- A bad word (R300): discarded and counted; at the limit a sync fault, code 5. -/
def Bay.ssiBad (b : Bay) (p ty : Nat) : Bay :=
  let k := match ty with
    | 1 => F.POS_SSI_ERR_CRC p
    | 2 => F.POS_SSI_ERR_ERR p
    | 3 => F.POS_SSI_ERR_TMO p
    | _ => F.POS_SSI_ERR_JUMP p
  let n := b.rd (F.POS_STAT_SSI_BADRUN p) + 1
  let b := ((b.bumpSat k 1 255).setFlag (F.POS_STAT_SSI_BAD p) true).wr (F.POS_STAT_SSI_BADRUN p) (min 255 n)
  if n = b.rd (F.POS_SSI_CFG_ERR_LIM p) then b.posFault p 5 ty else b

/-- A good word (R298, R299, R302): count, turns, position, speed over the last eight good words, the compare from the last good position. -/
def Bay.ssiGood (b : Bay) (p : Nat) (turns st : Int) (t : Nat) (force : Int) : Bay :=
  let x := b.encOf p
  let old := b.posNow p
  let first := x.ssiPos.isNone
  let b := ((b.setFlag (F.POS_STAT_SSI_BAD p) false).wr (F.POS_STAT_SSI_BADRUN p) 0).setFlag (F.POS_STAT_REF_FOUND p) true
  let b := (b.wr (F.POS_COUNT p) st).wr (F.POS_TURNS p) turns
  let new := b.posNow p
  let hist := (x.ssiHist ++ [(t, new)]).drop (x.ssiHist.length + 1 - 8)
  let v : Rat := match hist with
    | (t0, p0) :: _ => if t0 < t then mkRat ((new - p0) * 125000000) (t - t0) else x.speed
    | [] => x.speed
  let b := (b.setEnc p { x with ssiPos := some (new, t), ssiHist := hist, speed := v }).spdReg p
  let b := b.setFlag (F.POS_STAT_DIR p) (new < old)
  (if first then b else b.compareMove p old new t force).posReg p

/-- A received SSI word latched at bay time `t` (R298 to R300). -/
def Bay.ssiWord (b : Bay) (p w : Nat) (timedOut : Bool) (t : Nat) (force : Int) : Bay :=
  if b.posSrc p ≠ 2 then b
  else
    let x := b.encOf p
    let mt := b.rdN (F.POS_SSI_CFG_MT p)
    let st := b.rdN (F.POS_SSI_CFG_ST p)
    let (raw, bad) := b.ssiCheck p w timedOut
    let b := if timedOut then b else b.wr (F.POS_SSI_RAW p) raw
    if bad ≠ 0 then b.ssiBad p bad
    else
      let v := if b.flag (F.POS_SSI_CFG_GRAY p) then grayDecode raw (mt + st) else raw
      let sv : Int := (v % 2 ^ st : Nat)
      let mv : Int := (v / 2 ^ st : Nat)
      let turns : Int :=
        match x.ssiPos with
        | none => if 0 < mt then mv else b.rd (F.POS_TURNS p)
        | some _ =>
          if 0 < mt then b.rd (F.POS_TURNS p) + centred (2 ^ mt) (mv - b.rd (F.POS_TURNS p))
          else
            let dc := sv - b.rd (F.POS_COUNT p)
            let half : Int := 2 ^ (st - 1)
            if half < dc then b.rd (F.POS_TURNS p) - 1 else if dc < -half then b.rd (F.POS_TURNS p) + 1 else b.rd (F.POS_TURNS p)
      let pos := turns * 65536 + sv * 65536 / 2 ^ st
      let jump : Bool := match x.ssiPos with
        | some (p0, t0) => decide ((b.rd (F.POS_SSI_JUMP p) : Rat) < absR ((pos : Rat) - ((p0 : Rat) + x.speed * mkRat (t - t0 : Nat) 125000000)))
        | none => false
      if jump then b.ssiBad p 4 else b.ssiGood p turns sv t force

/-- SSI_WORD (R300): a transfer's word, its latch time and the load-cell conversion that follows it. -/
def execSsiWord (p : Fin 4) (w : BitVec 64) (timedOut : Bool) (t : Nat) (force : Int) (s : State) : Result :=
  s.onBay (fun b => b.ssiWord p w.toNat timedOut t force)

/-! ## Commands (R302 to R306) -/

/-- REF_CLR (R306). -/
def execRefClr (p : Fin 4) (s : State) : Result :=
  s.onBay (fun b => b.gated (F.POS_CTL_REF_CLR p) (fun b =>
    (b.setFlag (F.POS_STAT_REF_FOUND p) false).setEnc p { b.encOf p with pastExp := none, ssiPos := none, ssiHist := [], leadT := none, leadInt := none }))

/-- The spacing serves the source (R302): at least one count of a tooth wheel, and not 0. -/
def Bay.spacingOk (b : Bay) (p : Nat) : Bool :=
  let spc := b.rd (F.POS_CMP_SPC p)
  let w := max 1 (b.rd (F.POS_WRAP p))
  spc ≠ 0 && (b.posSrc p = 2 || (65536 + w - 1) / w ≤ spc.natAbs)

/-- CMP_ARM (R302). -/
def execCmpArm (p : Fin 4) (s : State) : Result :=
  s.onBay (fun b => b.gated (F.POS_CTL_CMP_ARM p) (fun b =>
    if b.spacingOk p then (b.setFlag (F.POS_STAT_CMP_ARMED p) true).wr (F.POS_CMP_LEFT p) (b.rd (F.POS_CMP_N p))
    else b.refuse (F.POS_CTL_CMP_ARM p) 4))

/-- CMP_STOP (R302). -/
def execCmpStop (p : Fin 4) (s : State) : Result :=
  s.onBay (fun b => b.gated (F.POS_CTL_CMP_STOP p) (fun b => b.setFlag (F.POS_STAT_CMP_ARMED p) false))

/-- FIFO_CLR (R306). -/
def execFifoClr (p : Fin 4) (s : State) : Result :=
  s.onBay (fun b => b.gated (F.POS_CTL_FIFO_CLR p) (fun b =>
    (((b.setEnc p { b.encOf p with fifo := [] }).wr (F.POS_FIFO_STAT_LOST p) 0).wr (F.POS_FIFO_STAT_SKIP p) 0).fifoRegs p))

/-- A read of POSp.HIT_THI removes the oldest entry (R303). -/
def Bay.hitRead (b : Bay) (p : Nat) : Bay :=
  (b.setEnc p { b.encOf p with fifo := (b.encOf p).fifo.drop 1 }).fifoRegs p

/-- HIT_THI_READ (R303). -/
def execHitThiRead (p : Fin 4) (s : State) : Result := s.onBay (fun b => b.hitRead p)

/-- A committed change of PT_CTL holds both pairs of X34 high for 100 µs (R304). -/
def Bay.ptEdge (b : Bay) : Bay :=
  let x := b.encOf 0
  let en := b.rd (F.POS_PT_CTL_EN 0)
  let sel := b.rd (F.POS_PT_CTL_SEL 0)
  if en = x.ptEn && sel = x.ptSel then b
  else (b.setEnc 0 { x with ptEn := en, ptSel := sel, ptHold := some (b.now + 100 * usTicks) }).showX34

/-- PASSTHROUGH_RESUME (R304): the new input is repeated. -/
def execPassthroughResume (s : State) : Result :=
  s.onBay (fun b =>
    let x := b.encOf 0
    match x.ptHold with
    | some t => if t ≤ b.now then (b.setEnc 0 { x with ptHold := none }).showX34 else b
    | none => b)

/-! ## The frame edge (R296, R297) -/

/-- Inside the expected gap (R294, R296): the count that the closing edge leaves or enters. -/
def Bay.inGap (b : Bay) (p : Nat) : Bool :=
  b.flag (F.POS_STAT_REF_FOUND p) && b.rd (F.POS_COUNT p) == b.rd (F.POS_WRAP p) - b.gapCounts p - 1

/-- The position an interface reports for the frame edge, in revolutions, its count moved on in the direction of travel, and the speed limit while no edge arrives (R296, R297); SSI positions advance by the speed; without a source there is no reference (R289). -/
def Bay.posReport (b : Bay) (p : Nat) : Bay :=
  let x := b.encOf p
  if b.posSrc p = 1 then
    match x.lastEdge with
    | none => b
    | some t =>
      let dt := t4Of b.now - t
      let lim : Rat := if b.inGap p then (b.gapCounts p : Rat) + 1 else 1
      let cap : Rat := if dt = 0 then absR x.speed else lim * 250000000 / (dt : Rat)
      let v := if cap < absR x.speed then (if x.speed < 0 then -cap else cap) else x.speed
      let f := (x.dir : Rat) * min (lim - mkRat 1 100) (absR v * (dt : Rat) / 250000000)
      let w : Rat := (max 1 (b.rd (F.POS_WRAP p)) : Int)
      let b := (b.setEnc p { x with speed := v }).spdReg p
      let b := b.setEnc p { b.encOf p with frac := (b.rd (F.POS_TURNS p) : Rat) + ((b.rd (F.POS_COUNT p) : Rat) + f) / w }
      b.setEnc p { b.encOf p with speed := x.speed }
  else if b.posSrc p = 2 then
    match x.ssiPos with
    | none => b
    | some (p0, t0) => b.setEnc p { x with frac := ((p0 : Rat) + x.speed * mkRat (b.now - t0 : Nat) 125000000) / 65536 }
  else b.setFlag (F.POS_STAT_REF_FOUND p) false

end Sys2Proof.Machine
end

