-- ==== Sys2Proof/Machine/Samples.lean ====
section
/-! DEFINITION. What a frame edge brings of the plant, the sections, the channels and the axes (R24, R107, R116, R120), and what of it the cell record marks (R162, R164). -/

namespace Sys2Proof.Machine

/-! ## Channels -/

/-- A reading beyond the measured span (R107): the voltage in 0.1 µV, the current in 0.1 µA in the range in force. -/
def Bay.overSpan (b : Bay) (c : Nat) (v i : Int) : Bay :=
  let span := rangeSpan (b.range c)
  (b.setFlag (F.CHN_MEAS_STAT_OVR_V c) (v < -5000000 || 60000000 < v)).setFlag (F.CHN_MEAS_STAT_OVR_I c) (i < -span || span < i)

/-- The current of a phase in 10 mA, from µA; rounded toward zero, as the spec does not say (DESIGN CHOICE, log entry 88). -/
def phase10mA (l : List Int) (p : Nat) : Int := (nth l p).tdiv 10000

/-- The last untrimmed on-time of a channel that switches, with the values of this edge (R73, R104): that of the phase next in rotation (log entry 78). -/
def Bay.showOnTime (b : Bay) (c : Nat) : Bay :=
  match (b.nextPhase c).filter (fun _ => b.switches c) with
  | some p =>
    let s := b.stageOf c
    let t := b.onTime c p 0
    (b.setStage c { s with cot := { s.cot with lastOn := t } }).wr (F.CHN_ON_T_VAL c) t
  | none => b

/-- The registers of one channel's control-path sample (R105, R133): voltage and node in µV, current in µA, the phase currents. -/
def Bay.sampleRegs (b : Bay) (c : Nat) (x : ChanSample) (v i : Int) : Bay :=
  let b := ((b.wr (F.CHN_V c) v).wr (F.CHN_I c) i).wr (F.CHN_NODE_V c) x.node
  let b := (b.setStage c { b.stageOf c with iPh := x.ph }).showOnTime c
  let b := (b.wr (F.CHN_PH_I01_P0 c) (phase10mA x.ph 0)).wr (F.CHN_PH_I01_P1 c) (phase10mA x.ph 1)
  (b.wr (F.CHN_PH_I23_P2 c) (phase10mA x.ph 2)).wr (F.CHN_PH_I23_P3 c) (phase10mA x.ph 3)

/-- The last six control-path samples, as a fault record keeps them (R101): µA and 100 µV. -/
def Bay.keepHistory (b : Bay) (c : Nat) (v i : Int) : Bay :=
  let s := b.stageOf c
  let last := fun (l : List Int) (x : Int) => (l ++ [x]).drop (l.length - 5)
  b.setStage c { s with iHist := last s.iHist i, vHist := last s.vHist (v.tdiv 100) }

/-- Whether the sample that closes now is accumulated (R120): the switch is closed, or has opened since the last edge. -/
def Bay.accumulates (b : Bay) (c : Nat) : Bool :=
  b.switchClosed c || (match (b.measChOf c).openSince with
    | some t => decide (b.now < t + frameTicks)
    | none => false)

/-- The cartridges take the sums of channel c as its wale holds them (R121): whole nC and nJ (log entry 26). What a donor has given is spent (R61). -/
def Bay.takeSums (b : Bay) (c : Nat) : Bay :=
  let m := b.measChOf c
  let was := b.rd (F.CHN_Q_OUT c)
  let b := (b.wr (F.CHN_Q_IN c) (asSigned 64 (m.qIn / 25))).wr (F.CHN_E_IN c) (asSigned 64 (m.eIn / 25000000))
  let b := (b.wr (F.CHN_Q_OUT c) (asSigned 64 (m.qOut / 25))).wr (F.CHN_E_OUT c) (asSigned 64 (m.eOut / 25000000))
  b.spendDonation c (asSigned 64 (was - b.rd (F.CHN_Q_OUT c)))

/-- The sums that a sample frame brings of channel c (R121): the low words extend what the cartridges hold while its frames come; after more than 64 missed frames they wait for the channel's full value, whose turn is the frame number modulo 16 (log entry 91). -/
def Bay.sumsArrive (b : Bay) (c : Nat) : Bay :=
  let n := waleOf c
  let s := b.slotOf n
  if s.miss ≠ 0 then b
  else if !s.owed.contains (c % 16) then b.takeSums c
  else if b.now / frameTicks % 16 = c % 16 then (b.setSlot n { s with owed := s.owed.filter (· != c % 16) }).takeSums c
  else b

/-- Charge and energy of one sample (R120): exact sums, in 0.04 nC and 4e-8 nJ. -/
def Bay.accumulate (b : Bay) (c : Nat) (v i : Int) : Bay :=
  let m := b.measChOf c
  let b :=
    if !b.accumulates c || i = 0 then b
    else if 0 < i then b.setMeasCh c { m with qIn := m.qIn + i, eIn := m.eIn + v * i }
    else b.setMeasCh c { m with qOut := m.qOut + i, eOut := m.eOut + v * i }
  b.sumsArrive c

/-- The sums behind the 1 ms means (R150; the current without a sweep's fundamental, R170), the interval means (R162) and the mean current of a sweep (R186). -/
def Bay.addMeans (b : Bay) (c : Nat) (v i : Int) : Bay :=
  let m := b.meansOf c
  let b := b.setMeans c { m with iSum := m.iSum + (i - truncR (b.fundAt c).2), vSum := m.vSum + v, n := m.n + 1 }
  let r := b.ringOf c
  let b := b.onlyIf (b.cellOpen c) (fun b => b.setRing c { r with ivV := r.ivV + v, ivI := r.ivI + i, ivN := r.ivN + 1 })
  let w := b.sweepOf c
  b.onlyIf (b.flag (F.EISCH_STAT_RUN c)) (fun b => b.setSweep c { w with iSum := w.iSum + i, iN := w.iN + 1 })

/-- The control-path sample of one channel (R24, R107, R112, R116, R117, R120). -/
def Bay.takeSample (b : Bay) (x : ChanSample) : Bay :=
  let c := (x.chan : Nat)
  if !b.sampled c then b
  else
    let xi := bridgedCurrent (b.bridgedClocks c) x.i (sumI x.ph)
    let b := (b.overSpan c x.v xi).setMeasCh c { b.measChOf c with notReady := b.flag (F.CHN_MEAS_STAT_NREF c) }
    let v := (b.corrV c x.v).tdiv 10
    let i := (b.corrI c xi).tdiv 10
    let b := (b.sampleRegs c x v i).keepHistory c v i
    (((b.accumulate c v i).addMeans c v i).shedWatch c).rpathSample c v x.node i

/-! ## Sections, axes, plant -/

/-- What a wale reports of itself (R24, R64, R70): section bus, converter power and its direction, loss, converter junction. -/
def Bay.takeSection (b : Bay) (x : SecSample) : Bay :=
  let n := (x.sec : Nat)
  if !b.walePresent n then b
  else
    let b := ((b.wr (F.SEC_BUS_V n) x.busV).wr (F.SEC_CONV_P n) x.convP).wr (F.SEC_LOSS n) x.loss
    let b := b.wr (F.SEC_STAT_DIR n) (if b.plant.rtOn then 3 else if 0 < x.convP then 1 else if x.convP < 0 then 2 else 0)
    { b with therm := { b.therm with convTj := b.therm.convTj.set n x.convTj } }

/-- The frame mean of a press's load cell (R276), and since when it reads outside -5 % to +110 % of F_FS. -/
def Bay.takeForce (b : Bay) (a : Nat) (f : Int) : Bay :=
  let x := b.axisOf a
  let fs := b.rd (F.AXS_F_FS a)
  let bad := decide (20 * f < -fs ∨ 11 * fs < 10 * f)
  let was := if bad then some (x.cellBad.getD b.now) else none
  (b.wr (F.AXS_FORCE a) f).onlyIf (was != x.cellBad) (fun b => b.setAxis a { x with cellBad := was })

/-- What slot X reports of an axis (R24, R276): the load cell of a press, the hottest leg. -/
def Bay.takeAxis (b : Bay) (x : AxisSample) : Bay :=
  let a := (x.axis : Nat)
  if !b.xPresent then b
  else
    let b := b.onlyIf (a < 4) (fun b => b.takeForce a x.force)
    { b with therm := { b.therm with legTj := b.therm.legTj.set a x.legTj } }

/-- The plant entry, the node and the axis bus (R45, R48, R53, R68): X1 has been good since, X1_LOW ends outside 600 to 650 V, the return of energy ends at 50.0 V; the axis converter stays within its cap in both directions (R51, R53). -/
def Bay.takePlant (b : Bay) (i : FrameIn) : Bay :=
  let good := 650000 ≤ i.x1V && i.x1V ≤ 920000
  let b := ((b.wr F.PWR_X1_V i.x1V).wr F.PWR_X1_I i.x1I).wr F.PWR_NODE_V i.nodeV
  let b := b.wr F.PWR_AXBUS_AXV (i.axV / 10)
  let b := b.onlyIf (650000 ≤ i.x1V || i.x1V < 600000) (fun b => b.setFlag F.PWR_ENTRY_STAT_X1_LOW false)
  let b := b.onlyIf (i.axV ≤ 50000) (fun b => b.setFlag F.PWR_AXBUS_RETURN false)
  { b with plant := { b.plant with axNodeP := clampI (-b.axCap) b.axCap i.axNodeP, okSince := if good then some (b.plant.okSince.getD b.now) else none } }

/-- The oven of the EHM-1 (R123). -/
def Bay.takeOven (b : Bay) (o : Option (Int × Bool)) : Bay :=
  match o with
  | some (t, ok) => b.onlyIf b.mPresent (fun b => b.ovenEdge t ok)
  | none => b

/-- Everything the samples of a frame edge bring. -/
def Bay.takeSamples (b : Bay) (i : FrameIn) : Bay :=
  let b := (b.takePlant i).takeOven i.oven
  let b := i.secs.foldl Bay.takeSection b
  let b := i.axes.foldl Bay.takeAxis b
  i.chans.foldl Bay.takeSample b

/-! ## Marks of the interval (R164) -/

/-- A condition of R132 does not hold for channel c, or the compensation of the oscillator or of its wale's reference is frozen (R357). -/
def Bay.suspect (b : Bay) (c : Nat) : Bool :=
  !(b.flag F.MEAS_STAT_OVEN_RDY && b.flag F.MEAS_STAT_CERT_OK && b.flag (F.CHN_MEAS_STAT_CONV c) && b.flag (F.CHN_MEAS_STAT_CAL_VALID c)) ||
    b.flag F.MEAS_STAT_CHECK_FAIL || b.flag F.MEAS_STAT_CERT_DUE || b.flag (F.CHN_MEAS_STAT_DRIFT_LIM c) ||
    b.therm.compFrozen.contains 0 || b.therm.compFrozen.contains (1 + waleOf c)

/-- The conditions of the MARKS bits as they hold at this edge (R164), in the order of the bits. -/
def Bay.markConds (b : Bay) (c : Nat) : List Bool :=
  let m := b.meansOf c
  [m.donCall != 0, b.plant.rtOn, m.curtailed, m.otherLimit, b.flag F.MEAS_STAT_CERT_DUE, b.suspect c,
   b.flag (F.EISCH_STAT_RUN c), !(b.chanOf c).holds.isEmpty || (b.stageOf c).absent]

/-- The marks of the interval in progress of a started cell (R164). -/
def Bay.marksEdge (b : Bay) (c : Nat) : Bay :=
  if !b.cellOpen c then b
  else
    let l := b.markConds c
    b.each ((List.range 8).filter (fun i => l.getD i false)) (fun b i => b.markInterval c i)

/-- What limits a sweep from outside sets its LIMIT flag (R181): curtailment, derating, a clamp, a phase out of service; the scaling of R17 is not among them. -/
def Bay.sweepLimits (b : Bay) (c : Nat) : Bay :=
  let v : Rat := b.loopV c
  let asks := b.asks c v (((b.chanOf c).vLimNow b.now : Rat) - v) (b.loopChOf c).iTgt
  b.onlyIf ((b.meansOf c).curtailed || decide ((b.thermChOf c).f < 200) || b.clampActs c v asks || b.healthy c != 15) (fun b => b.flagSweep c 64)

end Sys2Proof.Machine
end

