-- ==== Sys2Proof/Machine/FrameEdge.lean ====
section
/-! DEFINITION. The frame edge (R24): commits, samples, latches, modes, governor, temperatures, axes and loops in their order. -/

namespace Sys2Proof.Machine

/-- Which trace lanes and compares run from this edge on, in the sense of RWL (R399). -/
def Bay.rwlEdge (b : Bay) : Bay :=
  let b := b.each (List.range 4) (fun b n => b.setTrace n { b.traceOf n with runs := b.flag (F.TR_STAT_ARMED n) })
  b.each (List.range 4) (fun b p => b.setEnc p { b.encOf p with cmpRuns := b.flag (F.POS_STAT_CMP_ARMED p) })

/-- What holds at the edge before anything else: RWS commits and the changes that wait for an edge (R12, R13, R115, R118). -/
def Bay.commitPhase (b : Bay) : Bay := (((b.meterEdge).commitEdgeAll.mainsEdge).scalEdge).rwlEdge

/-- Fast step ends, cell absence, new zones and PULSE levels, then the commands of engines (R149, R156, R148, R138, R197). -/
def Bay.latchPhase (b : Bay) : Bay :=
  let b := b.roleEdge
  let b := b.each allChans (fun b c => (((b.evalFast c).absentEdge c).zoneEdge c).pulseEdge c)
  let b := b.each allChans (fun b c => b.engineEdge c)
  b.seeEdge.evBitsEdge

/-- The mode, bay time kept apart from the master (R402), and host targets that cease with the mode (R166, R383, R471). -/
def Bay.modePhase (b : Bay) : Bay :=
  let b := b.modeEdge.quarantineEdge
  let b := b.onlyIf b.ignoresMaster (fun b => b.setFree true)
  let b := b.each allChans (fun b c => b.hostCeases c)
  (b.onlyIf (allChans.any b.engRuns) (fun b => b.setModeSt { b.modeSt with engineLeft := true })).runsEdge

/-- A step that ended leaves its channel resting or holding (R139, R154), which is a step change for a sweep (R181). -/
def Bay.restEdge (b : Bay) (c : Nat) : Bay :=
  if (b.chanOf c).toRest then ((b.setChan c { b.chanOf c with toRest := false }).settle c).disturbSweep c else b

/-- STG_STAT.PEAK shows whether a peak limit has acted in the frame that ends (R104). -/
def Bay.peakEdge (b : Bay) (c : Nat) : Bay :=
  let s := b.stageOf c
  let b := b.setFlag (F.CHN_STG_STAT_PEAK c) s.peakNow
  if s.peakNow then b.setStage c { s with peakNow := false } else b

/-- What every channel does at an edge: envelope, clamps, stored steps, border, marks, range, accumulators, event word (R140, R143, R154, R164, R111, R231, R198). -/
def Bay.chanEdge (b : Bay) (c : Nat) : Bay :=
  let b := ((b.envelopeEdge c).clampEdge c).storedEdge c
  let b := (b.restEdge c).refreshBorder c
  let b := ((b.marksEdge c).sweepLimits c).rangeEdge c
  ((b.peakEdge c).accEdge c).evtReg c

/-- A brake that was commanded 25 ms ago moves (R265). -/
def Bay.brakeEdge (b : Bay) (a : Nat) : Bay :=
  match (b.axisOf a).brakeAt with
  | some (t, on) => if t ≤ b.now then b.brakeNow a on else b
  | none => b

/-- The axis modulator goes on over one switching period (R267): the angle of the dq vector it applies advances by ω_e × 40 µs; a command frame 3 then brings a new one. -/
def Bay.modulate (b : Bay) (a : Nat) : Bay :=
  let x := b.axisOf a
  if x.modOmega = 0 then b else b.setAxis a { x with modAngle := fadd x.modAngle (fmul x.modOmega frameT) }

/-- The axes at an edge (R267, R268, R272, R277, R304): modulators, brakes, starts, position interfaces, press sequences. -/
def Bay.axisPhase (b : Bay) : Bay :=
  if !b.xServes then b
  else
    let b := b.each allAxes (fun b a => ((b.modulate a).brakeEdge a).startEdge a)
    let b := (b.each (List.range 4) (fun b p => b.posReport p)).ptEdge
    b.each (List.range 4) (fun b a => b.pressEdge a)

/-- The current loop of an axis on its sample, within the limit its budget leaves in this frame (R251, R275). -/
def Bay.axisLoop (b : Bay) (vbus : Int) (x : AxisSample) : Bay :=
  let a := (x.axis : Nat)
  if !b.xPresent then b
  else ((b.axisMeasure a x.iu x.iv x.iw (mkRat x.thInj 4294967296) (mkRat x.thObs 4294967296) x.w).i2tStep a).currentLoop a vbus

/-- The loops of the frame in the order of R240: current loops, channel loops, speed loops every 200 µs, position and force loops every 1 ms, then the trace. -/
def Bay.loopPhase (b : Bay) (i : FrameIn) : Bay :=
  let b := i.axes.foldl (fun b x => b.axisLoop i.axV x) b
  let b := (i.chans.filter (fun x => b.sampled x.chan)).foldl (fun b x => b.chanLoop x.chan (b.rd (F.CHN_V x.chan)) (b.rd (F.CHN_I x.chan))) b
  let axes := if b.xPresent then i.axes.map (fun x => (x.axis : Nat)) else []
  let b := b.onlyIf (b.now % specTicks == 0) (fun b => b.each axes (fun b a => b.speedLoop a))
  let b := b.onlyIf (b.now % msTicks == 0) (fun b => b.each axes (fun b a => b.slotLoop a))
  b.each (List.range 4) (fun b n => b.traceFrame n)

/-- What the surroundings of the bay bring to the edge (R355, R415, R417, R436, R477). -/
def Bay.outerPhase (b : Bay) : Bay :=
  let b := ((b.redRegs.chassisEdge).canEdge).weaveEdge
  (b.dropRevoked).wr F.TIME_FRAME (b.now / frameTicks % 4294967296 : Nat)

/-- The ends of a stream's producer and release (R428): streams 0 to 63 have theirs in the rings. A seal that is not written yet ends what the producer has written. -/
def Bay.streamWr (b : Bay) (n : Nat) : Nat :=
  if n < 64 then
    let r := b.ringOf n
    16 * ((r.sealDue.head?.map (·.pos)).getD (r.pos + r.slots.length))
  else (b.streamOf n).wr
def Bay.streamRel (b : Bay) (n : Nat) : Nat := if n < 64 then 16 * (b.ringOf n).pos else (b.streamOf n).rel

/-- The fields that read as at the last frame edge: those of RED, THM, WVE and the blocks beside it (R355, R366, R434), what position interfaces report but for the hit in front (R306), and the measurement registers of channels but for the precision values, which read as at their last window (R133). -/
def edgeRead (k : Key) : Bool :=
  [Grp.red, .thm, .wve, .xev, .sq, .rta, .rtb, .bind].contains k.grp ||
    (k.grp == .pos && (k.off == 4 || k.off == 8 || (0x14 ≤ k.off && k.off < 0x30) || k.off == 0x40 || k.off == 0x44 || k.off == 0x54)) ||
    (k.grp == .chn && 0x104 ≤ k.off && k.off < 0x180 && !(0x110 ≤ k.off && k.off < 0x120))

/-- What reads of those blocks see from this edge on. -/
def Bay.showEdge (b : Bay) : Bay :=
  let streams := (List.range 69).map (fun n =>
    let x := b.streamOf n
    [b.streamWr n, b.streamRel n, x.rd, x.mark, if x.holder.isSome then 1 else 0])
  { b with edge := { b.edge with regs := b.regs.filter (fun p => edgeRead p.1), streams := streams, sessions := (b.weave.sessions.filter (·.isSome)).length, tsdLog := b.therm.log } }

/-- The whole edge on everything but the memories. -/
def Bay.frameEdge (b : Bay) (i : FrameIn) : Bay :=
  let b := (b.commitPhase.takeSamples i).latchPhase.modePhase
  if b.mode = 0 then b
  else
    let b := b.each allChans (fun b c => b.chanEdge c)
    let b := (((b.budgets.allocate).rtEdge).thermalFrame).throttleEdge
    ((b.axisPhase.loopPhase i).outerPhase).showEdge.seeEdge

/-- FRAME_EDGE (R24): bay time goes to the next multiple of 5,000 ticks. In OFF nothing runs. -/
def execFrameEdge (i : FrameIn) (s : State) : Result :=
  if s.bay.mode = 0 then .next s
  else
    let s := { s with bay := { s.bay with now := nextEdge s.bay.now } }
    let s := (i.upsets.foldl State.upset s).scrubEdge
    s.onBay (fun b => b.frameEdge i)

end Sys2Proof.Machine
end

