-- ==== Sys2Proof/Machine/Host.lean ====
section
/-! DEFINITION. The host's access to registers and to the DRAM window: the address map, what a read gives and does, how a write is judged and what it does (R3, R8 to R14, R23, R106, R134, R368, R372, R375, R398, R399, R468). Rows 0 and 104 of the table. -/

namespace Sys2Proof.Machine

/-- The state a command leaves, for a command that another one carries (log entry 52). -/
def State.run (s : State) (f : State → Result) : State :=
  match f s with
  | .next t => t
  | _ => s

/-! ## The address map (R8, R11) -/

/-- Every register group. -/
def allGroups : List Grp :=
  [.bay, .evt, .src, .time, .sec, .pwr, .chn, .meas, .measSeq, .measRes, .eis, .eisCh, .skn, .grp, .img, .eng, .engScr,
   .loop, .loopCh, .loopAx, .loopTr, .fric, .cog, .axs, .pos, .safe, .safePair, .safeOut, .red, .thm, .tsdLog, .mem,
   .wve, .xev, .sq, .rta, .rtb, .bind, .cfd, .cfdObj, .tru, .auth, .enrBuf, .fwl, .quoteCA, .quoteCB, .cert]

/-- The member of a group and the offset in it at which an address stands. -/
def Grp.spot (g : Grp) (a : Nat) : Option (Nat × Nat) :=
  match g with
  | .cfdObj =>
    let r := (a - 0x2D0000) % 0x8000
    if 0x2D0000 ≤ a && a < 0x2E0000 && 0x1000 ≤ r && r < 0x5000 then
      some ((a - 0x2D0000) / 0x8000 * 128 + (r - 0x1000) / 0x80, r % 0x80)
    else none
  | _ =>
    let s := groupSpan g
    if a < s.base then none
    else if s.stride = 0 then some (0, a - s.base)
    else if (a - s.base) / s.stride < s.count then some ((a - s.base) / s.stride, (a - s.base) % s.stride)
    else none

/-- A register as an access meets it: its group, member and offset, and the fields it holds. -/
structure RegAt where
  grp : Grp
  i : Nat
  off : Nat
  rows : List FieldRow
  deriving DecidableEq, Repr

/-- A field of a group does not exist in this member: POS1 to POS3 have no PT_CTL (R306), AX4 and AX5 no FRIC_EN and COG_EN (R264), a reserved source no SRC register (R405). -/
def reservedIn (g : Grp) (i off lo : Nat) : Bool :=
  match g with
  | .pos => i != 0 && off == 0x70
  | .loopAx => 4 ≤ i && off == 0 && (lo == 16 || lo == 17)
  | .src => reservedSource i
  | _ => false

/-- The fields of a group that stand in the register at an offset; a 64-bit pair has a register at its low and one at its high word. -/
def rowsAt (g : Grp) (i off : Nat) : List FieldRow :=
  (groupRows g).filter (fun f => (f.off == off || (f.width == 64 && f.off + 4 == off)) && !reservedIn g i f.off f.lo)

/-- The register at an address, if there is one. -/
def regAt (a : Nat) : Option RegAt :=
  allGroups.findSome? (fun g =>
    match g.spot a with
    | some (i, off) => if (rowsAt g i off).isEmpty then none else some ⟨g, i, off, rowsAt g i off⟩
    | none => none)

/-- The address lies inside a block (R11): the 64 KiB units that hold registers (log entry 50). -/
def inBlock (a : Nat) : Bool :=
  let u := a / 0x10000
  u ≤ 2 || (4 ≤ u && u ≤ 8) || (0x10 ≤ u && u ≤ 0x15) || (0x18 ≤ u && u ≤ 0x19) || u == 0x20 ||
    (0x24 ≤ u && u ≤ 0x25) || (0x28 ≤ u && u ≤ 0x2E)

/-- The DRAM window of the host (R368). -/
def inWindow (a : Nat) : Bool := 0x10000000 ≤ a && a < 0x20000000

/-- The key of a field of a register. -/
def RegAt.key (r : RegAt) (f : FieldRow) : Key := ⟨r.grp, r.i, f.off, f.lo⟩

/-- The access is to the high word of a pair. -/
def RegAt.high (r : RegAt) (f : FieldRow) : Bool := f.width == 64 && f.off + 4 == r.off

/-! ## Fault memory as it is read (R100, R101, R106) -/

/-- The 128 bytes of a fault record (R101); the CRC of one whose write was interrupted fails (R103). -/
def FramRec.bytes (r : FramRec) : List Byte :=
  let l := fun (n k : Nat) (x : List Int) => ((List.range n).map (fun i => leBytes k (nth x i))).flatten
  let body := leBytes 2 0x0301 ++ leBytes 2 r.cause ++ leBytes 4 r.seq ++ leBytes 8 r.time ++ leBytes 1 r.local_ ++ leBytes 1 r.stage
    ++ leBytes 1 r.phases ++ leBytes 1 r.flags ++ leBytes 4 r.iCh ++ leBytes 4 r.vNode ++ leBytes 4 r.vSense ++ leBytes 4 r.vRef
    ++ leBytes 2 r.vBus ++ leBytes 2 0 ++ l 4 2 r.iPh ++ l 4 2 r.tPh ++ l 2 2 r.tCell ++ l 4 1 r.trim ++ l 4 1 r.vcp
    ++ leBytes 1 r.vcpSw ++ leBytes 1 r.detail ++ leBytes 2 r.onT ++ l 6 4 r.iHist ++ l 6 2 r.vHist ++ leBytes 16 0
  let crc := crc32 body
  body ++ leBytes 4 ((if r.torn then (crc + 1 + Config.tornCrc r.time % 4294967295) % 4294967296 else crc) : Nat)

/-- The 256 bytes of the header (R100). -/
def Bay.framHeader (b : Bay) (n : Nat) : List Byte :=
  let m := b.framOf n
  let body := leBytes 2 0x0301 ++ leBytes 2 0 ++ leBytes 4 m.seqNext ++ leBytes 8 (Config.cartSerial (2 + n) m.fit)
    ++ leBytes 2 m.next ++ leBytes 2 m.lostHdr ++ List.replicate 232 0
  body ++ leBytes 4 (crc32 body : Nat)

/-- The record at a FRAM offset of its slot, if this bay has written it. -/
def recByte (l : List (Nat × FramRec)) (k o : Nat) : Option Byte :=
  (l.find? (fun x => x.1 == k)).map (fun x => x.2.bytes.getD o 0)

/-- A byte of the FRAM of wale n; what the cartridge brought with it is its own (log entry 53). -/
def Bay.framByte (b : Bay) (n a : Nat) : Byte :=
  let m := b.framOf n
  if a < 0x100 then (b.framHeader n).getD a 0
  else if a < 0x980 then (recByte m.last ((a - 0x100) / 128) ((a - 0x100) % 128)).getD (Config.framOld n m.fit a)
  else if a < 0x1000 then 0
  else (recByte m.ring ((a - 0x1000) / 128) ((a - 0x1000) % 128)).getD (Config.framOld n m.fit a)

/-- A word of the FRAM window of wale n, if the address is in one (R106). -/
def Bay.framWord (b : Bay) (a : Nat) : Option Nat :=
  let n := (a - 0x40000) / 0x10000
  if 0x40000 ≤ a && a < 0x80000 && 0xC000 ≤ a % 0x10000 then
    if b.walePresent n then
      let o := b.rdN (F.SEC_FRAM_PAGE_VAL n) * 0x4000 + (a % 0x10000 - 0xC000)
      some (leNum ((List.range 4).map (fun i => b.framByte n (o + i))))
    else some 0
  else none

/-! ## Registers that read what the state holds elsewhere -/

/-- The capacity of a stream (R428). -/
def streamCap (n : Nat) : Nat := if n < 64 then 2097152 else if n < 68 then 8388608 else 1048576

/-- The oldest released entry, zeros when there is none (R405). -/
def Bay.headEvent (b : Bay) : EvEntry := b.released.headD ⟨0, 0, 0, 0, 0, 0, true⟩

/-- The certificate that CERT_SEL selects (R474). -/
def Bay.selectedCert (b : Bay) : List Byte :=
  match b.rd F.TRU_CERT_SEL_VAL with
  | 0 => if b.cPresent 0 then Config.idevChain 0 (b.trust.fits.getD 0 0) else []
  | 1 => if b.cPresent 1 then Config.idevChain 1 (b.trust.fits.getD 1 0) else []
  | _ => b.recordCertificate

/-- Engines not STOPPED that run an image (R214). -/
def Bay.imageUsers (b : Bay) (id : Int) : Nat :=
  (allChans.filter (fun c => b.rd (F.ENG_STAT_STATE c) != 0 && (b.engOf c).image == id)).length

/-- A field of block RED, THM or WVE, a position register or a measurement register of a channel reads as at the last frame edge (R133, R306, R355, R366, R434). -/
def Bay.edgeVal (b : Bay) (k : Key) : Option Int := some (b.edge.regs.get (resetOf k) k)

/-- The value of a field that the register file does not hold, or not as reads see it; `cart` is the cartridge that answers. -/
def Bay.liveVal (b : Bay) (cart : Nat) (k : Key) : Option Int :=
  match k.grp with
  | .time => if k = F.TIME_NOW then some b.now else none
  | .chn => if k = F.CHN_STG_STAT_PH_OK k.i then some (b.healthy k.i) else if edgeRead k then b.edgeVal k else none
  | .evt =>
    let e := b.headEvent
    if k = F.EVT_STAT_FILL then some b.released.length
    else if k = F.EVT_RD_T then some e.time
    else if k = F.EVT_RD_SRC_SOURCE then some e.src
    else if k = F.EVT_RD_SRC_SUB then some e.sub
    else if k = F.EVT_RD_SRC_PRIO then some e.prio
    else if k = F.EVT_RD_SRC_DETAIL then some e.detail
    else if k = F.EVT_RD_VAL then some e.value else none
  | .sq =>
    let x := fun j => (b.edge.streams.getD k.i []).getD j 0
    if k = F.SQ_WR k.i then some (x 0 : Nat)
    else if k = F.SQ_REL k.i then some (x 1 : Nat)
    else if k = F.SQ_RD k.i then some (x 2 : Nat)
    else if k = F.SQ_MARK k.i then some (x 3 : Nat)
    else if k = F.SQ_STAT_EMPTY k.i then some (if x 2 = x 0 then 1 else 0)
    else if k = F.SQ_STAT_HELD k.i then some (x 4 : Nat)
    else if k = F.SQ_STAT_AT_CAP k.i then some (if x 0 - x 1 = streamCap k.i then 1 else 0)
    else b.edgeVal k
  | .pos => if edgeRead k then b.edgeVal k else none
  | .wve => if k = F.WVE_STAT_SESSIONS then some b.edge.sessions else b.edgeVal k
  | .bind => if b.rimConfigured then b.edgeVal k else some 0
  | .red => b.edgeVal k
  | .thm => b.edgeVal k
  | .xev => b.edgeVal k
  | .rta => b.edgeVal k
  | .rtb => b.edgeVal k
  | .safe => some (b.edge.safe.get (resetOf k) k)
  | .safePair => some (b.edge.safe.get (resetOf k) k)
  | .safeOut => some (b.edge.safe.get (resetOf k) k)
  | .cfd => if k = F.CFD_STAT_DRIVER k.i then some (if b.role cart = 3 then 1 else 0) else none
  | .mem => if k = F.MEM_STAT_INJ_OK k.i then some (if b.mode = Mode.service then 1 else 0) else none
  | .img => if k = F.IMG_STAT_USERS k.i then some (if b.flag (F.IMG_STAT_STORED k.i) then b.imageUsers (b.rd (F.IMG_ID k.i)) else 0) else none
  | .skn =>
    let m := b.imageOf (b.rd F.SKN_TQ_ID)
    if k = F.SKN_TQ_STAT_STORED then some (if m.isSome then 1 else 0)
    else if k = F.SKN_TQ_STAT_KIND then some ((m.map (fun m => (m.kind : Int))).getD 0)
    else if k = F.SKN_TQ_STAT_VERSION then some ((m.map (fun m => m.ver % 16777216)).getD 0) else none
  | .tsdLog => some (leNum (((b.edge.tsdLog.get [] (k.i / 16)).drop (4 * (k.i % 16))).take 4))
  | .quoteCA => some (leNum (((b.trust.quotes.getD 0 []).drop (4 * k.i)).take 4))
  | .quoteCB => some (leNum (((b.trust.quotes.getD 1 []).drop (4 * k.i)).take 4))
  | .cert => some (leNum ((b.selectedCert.drop (4 * k.i)).take 4))
  | .tru =>
    if k = F.TRU_STAT_QUAR then some (if b.mode = Mode.quarantine then 1 else 0)
    else if k = F.TRU_ENR_STAT_MIN_LEFT then
      some (match b.trust.winEnd with
        | some t => (((t - b.now) + (60 * secTicks - 1)) / (60 * secTicks) : Nat)
        | none => 0)
    else if k = F.TRU_CERT_LEN then some b.selectedCert.length else none
  | _ => none

/-! ## Reading a register (R12, R134) -/

/-- The value of a field as a read sees it (R12). -/
def Bay.seen (b : Bay) (cart : Nat) (k : Key) (acc : Acc) : Int :=
  match acc with
  | .wo => 0
  | .rws => b.rdShadow k
  | _ => (b.liveVal cart k).getD (b.rd k)

/-- The word of a register: each field in its place, a pair's word by R134. -/
def Bay.regWord (b : Bay) (cart : Nat) (r : RegAt) : Nat :=
  sumI (r.rows.map (fun f =>
    let v := b.seen cart (r.key f) f.acc
    if f.width = 64 then
      (if r.high f then (b.hiLatch.get (hiWord v : Nat) (r.key f)) else (loWord v : Int))
    else (v % (2 ^ f.width)) * (2 ^ f.lo))) |>.toNat

/-- A read of the low word of a pair latches the high word (R134). -/
def Bay.latchHigh (b : Bay) (cart : Nat) (r : RegAt) : Bay :=
  match r.rows.find? (fun f => f.width == 64 && f.off == r.off) with
  | some f => { b with hiLatch := b.hiLatch.put (r.key f) (hiWord (b.seen cart (r.key f) f.acc) : Nat) }
  | none => b

/-- A member number within its range. -/
def fin (n : Nat) (h : 0 < n) (i : Nat) : Fin n := ⟨i % n, Nat.mod_lt i h⟩

/-- What a read of a register does beside giving its value: the rows of the table that a read stands for. -/
def State.readEffect (s : State) (r : RegAt) : State :=
  match r.grp with
  | .chn =>
    if r.off = 8 then s.run (execFltRead (fin 64 (by decide) r.i))
    else if r.off = 0x204 then s.run (execRegStatRead (fin 64 (by decide) r.i)) else s
  | .eng => if r.off = 0x14 then s.run (execFrzRead (fin 64 (by decide) r.i)) else s
  | .axs => if r.off = 8 then s.run (execAxsFltRead (fin 6 (by decide) r.i)) else s
  | .pos => if r.off = 0x6C then s.run (execHitThiRead (fin 4 (by decide) r.i)) else s
  | .pwr => if r.off = 4 then { s with bay := s.bay.readEntry } else s
  | .thm => if r.off = 8 then s.run execTsdRead else s
  | .red => if r.off = 8 then s.run execRedFltRead else s
  | .bay => if r.off = 0x18 then s.run execStopCauseRead else s
  | .evt => if r.off = 0x14 then s.run execRdValRead else s
  | .tru => if r.off = 8 then s.run execQcauseRead else if r.off = 0x64 then s.run execFwlLastRead else s
  | .quoteCA => if r.i = 139 then s.run (execQuoteRead 0) else s
  | .quoteCB => if r.i = 139 then s.run (execQuoteRead 1) else s
  | _ => s

/-- Read a register; one of an absent section reads 0 and does nothing (R3; log entry 54). -/
def State.regRead (s : State) (cart : Nat) (r : RegAt) : State × Nat :=
  if s.bay.absentBlock ⟨r.grp, r.i, r.off, 0⟩ then (s, 0)
  else (({ s with bay := s.bay.latchHigh cart r }).readEffect r, s.bay.regWord cart r)

/-- An axis stands in DISABLED or STO (R255, R288, R306). -/
def Bay.axisIdle (b : Bay) (a : Nat) : Bool := b.axState a == Ax.disabled || b.axState a == Ax.sto

/-! ## How a write is judged (R12, R23, R398, R399) -/

/-- The block that owns an RWL field runs (R12), as of the last frame edge (R399). Of a channel, STG_CFG is locked by its engine (R105), BORDER by its engine and its cell switch (R140), the cell identifier by a started cell (R160). -/
def Bay.rwlRuns (b : Bay) (k : Key) : Bool :=
  match k.grp with
  | .chn =>
    if k.off == 0xC then b.engRan k.i
    else if k.off == 0x234 then b.switchClosed k.i || b.engRan k.i
    else b.cellOpen k.i
  | .sec => b.waleSwitchClosed k.i
  | .meas => b.measSt.running
  | .measSeq => b.measSt.running
  | .eis => allChans.any (fun c => b.flag (F.EISCH_STAT_RUN c))
  | .eng => b.engRan k.i
  | .engScr => b.engRan (k.i / 256)
  | .loopAx => !b.axisIdle k.i
  | .fric => !b.axisIdle (k.i / 128)
  | .cog => !b.axisIdle (k.i / 512)
  | .loopTr => (b.traceOf k.i).runs
  | .axs => !b.axisIdle k.i
  | .pos => if 0x48 ≤ k.off && k.off ≤ 0x50 then (b.encOf k.i).cmpRuns else !b.axisIdle k.i
  | .wve => b.mode != Mode.service
  | .xev => b.mode != Mode.service
  | .cfd => (b.canOf k.i).mode != 0
  | .cfdObj => (b.canOf (k.i / 128)).enabled.contains (k.i % 128)
  | _ => false

/-- The value lies in the field's stated range. Beside the ranges of the tables: the reserved mode codes of R136, the feeder budgets of the variant (R403), the donor limit of an EHS-16S, the currents of R265 and the modes of R280 for the pump and the fan, MODE of a press, WRAP a multiple of 4, CRC_LEN 0 or 3 to 8, XEV.ENG to 64. -/
def Bay.inRange (b : Bay) (f : FieldRow) (k : Key) (v : Int) : Bool :=
  (match f.range with
    | some (lo, hi) => decide (lo ≤ v) && decide (v ≤ hi)
    | none => true) &&
  (match k.grp with
    | .chn => if k.off = 0x220 then decide (v ≤ 7) else true
    | .bay => decide (v ≤ b.x1Rating.2)
    | .sec => if k.off = 0x20 then decide (v ≤ (if b.waleIsS k.i then 100000 else 150000)) else true
    | .axs => if k.off = 0xC && k.lo = 28 then (if 4 ≤ k.i then decide (v ≤ 1) else v != 1) else if 4 ≤ k.i && k.off = 0x24 then decide (v ≤ 8000) else if 4 ≤ k.i && k.off = 0x28 then decide (v ≤ 20000) else true
    | .pos => if k.off = 0x10 then v % 4 == 0 else if k.off = 0x30 && k.lo = 20 then v == 0 || decide (3 ≤ v) else true
    | .xev => if k.lo = 16 then decide (v ≤ 64) else true
    | _ => true)

/-- A field that only SERVICE accepts (R256, R390, R402): MAN set, F_HOST, axis MODE 3, TIME.CTL.FREE. -/
def serviceOnly (k : Key) (v : Int) : Bool :=
  match k.grp with
  | .loopCh => k.off == 0 && k.lo == 16 && v == 1
  | .loopAx => k.off == 0 && k.lo == 18 && v == 1
  | .axs => k.off == 0x68 || (k.off == 0xC && k.lo == 28 && v == 3)
  | .time => k.off == 0
  | _ => false

/-- Why the value written to one field is refused, in the order of R398; `multi` says that the register has other fields, where a repeated value is no change (log entry 51); an RWL field of a running block is refused whatever it carries. Read-only fields are ignored and commands judge themselves. -/
def Bay.judge (b : Bay) (multi : Bool) (f : FieldRow) (k : Key) (v : Int) : Option Int :=
  match f.acc with
  | .ro => none
  | .w1c => none
  | .wo => none
  | .sig => some 2
  | a =>
    if a == .rwl && b.rwlRuns k then some 1
    else if multi && v == b.rdShadow k then none
    else if isTgt k && b.engRuns k.i then some 8
    else if !b.inRange f k v then some 3
    else if serviceOnly k v && b.mode != Mode.service then some 6
    else if k.grp == .grp && k.off == 0 && b.rd (F.GRP_STAT_ARRIVED k.i) != 0 then some 4
    else none

/-- The value a word gives a field. -/
def RegAt.given (r : RegAt) (b : Bay) (f : FieldRow) (w : Nat) : Int :=
  let k := r.key f
  if f.width = 64 then
    let v := b.rd k
    if r.high f then (w : Int) * 4294967296 + loWord v else (hiWord v : Int) * 4294967296 + w
  else
    let u : Int := field w f.lo f.width
    if f.signed then asSigned f.width u else u

/-- A field of a register after the word `w`, as a check over several fields needs it. -/
def RegAt.after (r : RegAt) (b : Bay) (w : Nat) (k : Key) : Int :=
  match r.rows.find? (fun f => r.key f = k) with
  | some f => r.given b f w
  | none => b.rd k

/-- The timing of a CAN controller holds what R438 asks (log entry 55). -/
def canTiming (get : Key → Int) (k : Nat) : Bool :=
  let n := get (F.CFD_NBT_NBRP k) * (1 + get (F.CFD_NBT_NTSEG1 k) + get (F.CFD_NBT_NTSEG2 k))
  let d := get (F.CFD_DBT_DBRP k) * (1 + get (F.CFD_DBT_DTSEG1 k) + get (F.CFD_DBT_DTSEG2 k))
  decide (100 ≤ n) && decide (n ≤ 800) && decide (20 ≤ d) && decide (d ≤ n) &&
    decide (get (F.CFD_NBT_NSJW k) ≤ get (F.CFD_NBT_NTSEG2 k)) && decide (get (F.CFD_DBT_DSJW k) ≤ get (F.CFD_DBT_DTSEG2 k)) &&
    (decide (100 ≤ d) || get (F.CFD_TDC_TDC_EN k) == 1)

/-- The configuration of a message object holds what R440 asks: no second enabled object of the controller with its identifier, DLC and BRS that fit FDF. -/
def Bay.objectOk (b : Bay) (get : Key → Int) (i : Nat) : Bool :=
  let k := i / 128
  let id := get (F.OBJ_ID_VAL i)
  let ide := get (F.OBJ_CFG_IDE i)
  let twin := (List.range 128).any (fun o =>
    let j := 128 * k + o
    j != i && b.flag (F.OBJ_CFG_EN j) && b.rd (F.OBJ_ID_VAL j) == id && b.rd (F.OBJ_CFG_IDE j) == ide)
  !(get (F.OBJ_CFG_EN i) == 1 && twin) &&
    (get (F.OBJ_CFG_FDF i) == 1 || (decide (get (F.OBJ_CFG_DLC i) ≤ 8) && get (F.OBJ_CFG_BRS i) == 0))

/-- A word is refused for what its fields give together, reason 3: the sequence table (R125), SSI frames (R299), probes (R261), CAN timing and objects (R438, R440). -/
def Bay.wordBad (b : Bay) (r : RegAt) (w : Nat) : Bool :=
  let get := r.after b w
  match r.grp with
  | .measSeq =>
    let i := get (F.SEQ_INPUT r.i)
    if get (F.SEQ_KIND r.i) = 3 then decide (i < 64) || decide (71 < i) else decide (63 < i)
  | .pos =>
    if r.off = 0x30 then
      let n := get (F.POS_SSI_CFG_MT r.i) + get (F.POS_SSI_CFG_ST r.i)
      decide (n < 13) || decide (32 < n)
    else false
  | .loopTr =>
    if 0x40 ≤ r.off then
      let u := fun lo => get ⟨.loopTr, r.i, r.off, lo⟩
      u 31 == 1 && !probeOk r.i (u 24).toNat (u 16).toNat
    else false
  | .cfd => (8 ≤ r.off && r.off ≤ 0x10) && !canTiming get r.i
  | .cfdObj => (r.off == 0 || r.off == 4) && !b.objectOk get r.i
  | _ => false

/-! ## What a write does -/

/-- The WO bits of a word as the commands they are (R12; log entry 52): `v` is the field's value, `w` the word. The bits of STG_CTL act together, with the lowest of them (R105). -/
def State.command (s : State) (k : Key) (v w : Nat) : State :=
  let c := fin 64 (by decide) k.i
  let n := fin 4 (by decide) k.i
  let x := fin 2 (by decide) k.i
  let a := fin 6 (by decide) k.i
  match k.grp with
  | .pwr => if k.lo = 0 then s.run execConnect else s.run execOpen
  | .sec => if k.lo = 0 then s.run (execDrain n) else s.run (execRun n)
  | .chn =>
    if k.off = 0 then (if w % 2 ^ k.lo = 0 then s.run (execStgCtl c (w % 16)) else s)
    else if k.lo = 0 then s.run (execHoldClr c) else s.run (execCellEnd c)
  | .meas => s.run (execScalCtlWrite (BitVec.ofNat 4 v))
  | .eis => if k.lo = 0 then s.run execHcmdGo else s.run execHcmdAbort
  | .skn =>
    if k.off = 0x10 then
      (match k.lo with
        | 0 => s.run execScmdStart
        | 1 => s.run execScmdStop
        | 2 => s.run execScmdPause
        | _ => s.run execScmdResume)
    else if k.lo = 0 then s.run execLoadGo else s.run execDelete
  | .grp => s.run (execGroupAbort (fin 16 (by decide) k.i))
  | .eng =>
    (match k.lo with
      | 0 => s.run (execEngineStart c)
      | 1 => s.run (execEngineStop c)
      | 2 => s.run (execEnginePause c)
      | 3 => s.run (execEngineResume c)
      | 4 => s.run (execEngineRelease c)
      | _ => s.run (execHsig c))
  | .loop => s.run execDlClr
  | .loopTr => if k.lo = 31 then s.run (execArm n) else s.run (execForce n)
  | .axs =>
    (match k.lo with
      | 0 => s.run (execAxisStart a)
      | 1 => s.run (execAxisStop a)
      | _ => s.run (execAxsFltClr a))
  | .pos =>
    (match k.lo with
      | 0 => s.run (execRefClr n)
      | 1 => s.run (execCmpArm n)
      | 2 => s.run (execCmpStop n)
      | _ => s.run (execFifoClr n))
  | .safe =>
    (match k.lo with
      | 0 => s.run execActivate
      | 1 => s.run execHoCa
      | _ => s.run execHoCb)
  | .red => if k.lo = 1 then s.run execSwap else s.run execResync
  | .thm => s.run execTsdClr
  | .mem =>
    if k.off = 0 then
      (match k.lo with
        | 0 => s.run (execCntClr x)
        | 1 => s.run (execScrGo x)
        | 2 => s.run (execScrStop x)
        | _ => s.run (execInjGo x))
    else s.run (execDmaRst x (BitVec.ofNat 16 v))
  | .bay =>
    (match k.lo with
      | 0 => s.run execAttOk
      | 1 => s.run execCalDone
      | 2 => s.run execCalibrate
      | 3 => s.run execHold
      | 4 => s.run execResume
      | 5 => s.run execService
      | 6 => s.run execExitSvc
      | 7 => s.run execRecover
      | 8 => s.run execStop
      | _ => s.run execAttRej)
  | .evt => s.run execLostClr
  | .wve =>
    if k.off = 0 then (if k.lo = 0 then s.run execDiscover else s.run execRimTake)
    else if k.lo = 31 then s.run (execUnbind (fin 64 (by decide) (w % 64))) else s
  | .cfd => if k.lo = 6 then s.run (execRecReq x) else s.run (execClashClr x)
  | .cfdObj =>
    let o := fin 128 (by decide) (k.i % 128)
    let j := fin 2 (by decide) (k.i / 128)
    if k.lo = 0 then s.run (execReq j o) else s.run (execAbort j o false)
  | .tru =>
    if k.off = 0 then
      (match k.lo with
        | 0 => s.run execAttGo
        | 1 => s.run (execEnrGo false)
        | 2 => s.run execFwPrefA
        | 3 => s.run execFwPrefB
        | 4 => s.run execVerRebuild
        | 5 => s.run execRkeyNew
        | 6 => s.run (execQRestart (w.testBit 7))
        | _ => s)
    else if k.off = 0x60 then s.run (execRel (BitVec.ofNat 8 v))
    else
      (match k.lo with
        | 0 => s.run execChunk
        | 1 => s.run execVerify
        | _ => s.run execRestart)
  | _ => s

/-- A data word of a message object: read-only on a receive object (R448). -/
def Bay.objDataLocked (b : Bay) (k : Key) : Bool := k.grp == .cfdObj && 0x40 ≤ k.off && !b.flag (F.OBJ_CFG_DIR k.i)

/-- Store an accepted value in a field: RWS behind its shadow, MAINS and REF_CTL by their rules, the rest at once (R12, R13, R115, R117, R391, R448). -/
def Bay.fieldWrite (b : Bay) (f : FieldRow) (k : Key) (v : Int) : Bay :=
  match f.acc with
  | .rws => b.shadowWrite k (if k.grp == .src && k.lo == 31 && fixedSource k.i then 1 else v)
  | .rw =>
    if k.grp == .meas && k.off == 0x10 then b.refWrite k.lo (v != 0)
    else if b.objDataLocked k then b
    else b.wr k v
  | .rwl =>
    if k = F.MEAS_CTL_MAINS then
      (if v = b.rd k && b.measSt.mainsPend.isNone then b else { b with measSt := { b.measSt with mainsPend := some v } })
    else if k = F.CHN_STG_CFG_PH_EN k.i then (b.wr k v).phaseEnable k.i
    else b.wr k v
  | _ => b

/-- A write of the high word of a pair ends what a read of its low word latched (R12, R134; log entry 88). -/
def Bay.dropLatch (b : Bay) (f : FieldRow) (k : Key) : Bay := if f.width = 64 then { b with hiLatch := b.hiLatch.filter (fun p => p.1 != k) } else b

/-- One field of a written word takes its effect, unless the state `b0` in which the word arrived refuses it (R399). -/
def State.fieldEffect (b0 : Bay) (r : RegAt) (w : Nat) (s : State) (f : FieldRow) : State :=
  let k := r.key f
  let v := r.given b0 f w
  match f.acc with
  | .wo => if v = 0 then s else s.command k v.toNat w
  | .w1c => if v = 0 then s else { s with bay := s.bay.clearSticky k }
  | _ => if (b0.judge (1 < r.rows.length) f k v).isSome then s else { s with bay := (s.bay.dropLatch f k).fieldWrite f k v }

/-- BAY.CMD with more than one bit set (R404), or SKN.LOAD_CTL with GO and DELETE together (R212). -/
def RegAt.manyBits (r : RegAt) (w : Nat) : Bool :=
  (r.grp == .bay && r.off == 0x10 && 1 < countBits w 10) || (r.grp == .skn && r.off == 0x20 && w % 4 == 3)

/-- The first reason, in the order of R398, for which a field of the word is refused. -/
def Bay.firstReason (b : Bay) (r : RegAt) (w : Nat) : Option Int :=
  let l := r.rows.filterMap (fun f => b.judge (1 < r.rows.length) f (r.key f) (r.given b f w))
  [2, 1, 8, 3, 6, 4].find? (fun x => l.contains x)

/-- A host write of a word to a register: refused whole by the section, the mode or the fields together, else each field by its access code, with at most one configuration error for the fields refused (R3, R12, R398, R399; log entry 51). -/
def State.regWrite (s : State) (r : RegAt) (w : Nat) : State :=
  let b := s.bay
  let at_ : Key := ⟨r.grp, r.i, r.off, if r.grp == .chn && r.off == 0x200 then 1 else 0⟩
  match (if r.grp == .mem && !b.memHalf r.i then some 7 else b.gate at_) with
  | some reason => { s with bay := b.refuse at_ reason }
  | none =>
    if r.manyBits w then { s with bay := b.refuse at_ 4 }
    else
      match (b.firstReason r w).filter (fun x => !(x == 3 && b.wordBad r w)) with
      | some reason =>
        let t := r.rows.foldl (fun t f => t.fieldEffect b r w f) s
        { t with bay := t.bay.refuse at_ reason }
      | none =>
        if b.wordBad r w then { s with bay := b.refuse at_ 3 }
        else r.rows.foldl (fun t f => t.fieldEffect b r w f) s

/-! ## The DRAM window (R368, R372, R375, R378, R468) -/

/-- The DRAM offset of an address of the window, 0x1000_0000 to 0x1FFF_FFFF: its low 28 bits (R368). -/
def windowOff (a : Nat) : Nat := a % 0x10000000

/-- A byte of the DRAM of cartridge x: the record region shows the rings, everything else the cells. -/
def State.dramByte (s : State) (x off : Nat) : Byte :=
  if recordsAt ≤ off && off < streamsAt then
    let r := s.bay.ringOf ((off - recordsAt) / 2097152)
    let slot := (off - recordsAt) % 2097152 / 16
    (r.slots.getD ((slot + ringSlots - r.pos % ringSlots) % ringSlots) []).getD (off % 16) 0
  else (s.mem.ram x 0).cells.get off

/-- `n` bytes of the DRAM of cartridge x. -/
def State.dramBytes (s : State) (x off n : Nat) : List Byte := (List.range n).map (fun i => s.dramByte x (off + i))

/-- A session reads `n` bytes of the window of its cartridge (R372): `none` where a word cannot be read. -/
def State.windowRead (s : State) (x master a n : Nat) : State × Option (List Byte) :=
  let off := windowOff a
  let r := s.readWords x 0 master 1 (off / 8) ((off % 8 + n + 7) / 8)
  (r.1, if r.2 then some (r.1.dramBytes x off n) else none)

/-- A host write into the window goes to every fitted cartridge (R368, R375); where the read of a merge fails, the word stays, and the write fails for a session of that cartridge. -/
def State.windowWrite (s : State) (cart master a : Nat) (l : List Byte) : State × Bool :=
  s.bay.carts.foldl (fun st x =>
    let r := st.1.mergeWrite x 0 (windowOff a) master 2 l
    (r.1, st.2 && (r.2 || x != cart))) (s, true)

/-- A host session may read this place of the window (R468). -/
def windowReadable (a : Nat) : Bool := dramRegion (windowOff a) != 0

/-- A host session may write this place of the window at level 1 (R468): the staging area. -/
def windowWritable (a : Nat) : Bool := dramRegion (windowOff a) == 1

/-! ## One host word (R9, R11) -/

/-- A host read of a word outside the window: its value (R11). -/
def State.hostRead (s : State) (cart a : Nat) : State × Nat :=
  match s.bay.framWord a with
  | some w => (s, w)
  | none =>
    match regAt a with
    | some r => s.regRead cart r
    | none => (s, 0)

/-- A host write of a word outside the window (R11): without a register it is ignored. -/
def State.hostWrite (s : State) (a w : Nat) : State :=
  match regAt a with
  | some r => if s.bay.mode = 0 then s else s.regWrite r w
  | none => s

/-- REGISTER_WRITE (R12): a host write of one word; nothing narrower or misaligned is accepted (R9). -/
def execRegisterWrite (a v : BitVec 32) (s : State) : Result :=
  if a.toNat % 4 = 0 then .next (s.hostWrite a.toNat v.toNat) else .next s

/-- LOW_WORD_READ (R134): a read of the low word of a pair. -/
def execLowWordRead (a : BitVec 32) (s : State) : Result :=
  match regAt a.toNat with
  | some r => if s.bay.mode = 0 || s.bay.absentBlock ⟨r.grp, r.i, r.off, 0⟩ then .next s else s.onBay (fun b => b.latchHigh 0 r)
  | none => .next s

end Sys2Proof.Machine
end

