-- ==== Sys2Proof/Machine/Rim.lean ====
section
/-! DEFINITION. Rim sessions and their messages, and the stream queues (R424 to R432, R457, R460, R468, R469). Rows 306 to 318 of the table. -/

namespace Sys2Proof.Machine

/-! ## Sessions (R424, R457, R460) -/

/-- An open session. -/
def Bay.session (b : Bay) (i : Nat) : Option Session := b.weave.sessions.getD i none

/-- A violation has shut this client key out for the moment (R469). -/
def Bay.keyRefused (b : Bay) (key : List Byte) : Bool := b.trust.refuseUntil.any (fun r => r.1 == key && b.now < r.2)

/-- The level a client certificate gets (R457, R460): that of the host slot 4 + h it is or chains to, or level 2 of the first self-signed one in the commissioning window. -/
def Bay.clientLevel (b : Bay) (chains : Option Nat) (selfSigned : Bool) : Option Int :=
  match chains with
  | some h => if b.flag (F.AUTH_ENROLLED (4 + h)) then some (b.rd (F.AUTH_RIGHTS (4 + h))) else none
  | none => if selfSigned && b.windowOpen && b.rd F.TRU_STAT_HOST_N = 0 then some 2 else none

/-- A session opens in place `i`; the self-signed key of the commissioning window is enrolled in slot 4 with level 2 (R460). -/
def Bay.openSession (b : Bay) (i cart : Nat) (key : List Byte) (chained : Bool) (level : Int) : Bay :=
  let b := b.onlyIf (!chained) (fun b =>
    (((b.setTrust { b.trust with keys := b.trust.keys.put 4 key }).showAuth 4 key 2).raiseD 228 (4 * 256 + 1)).remedied 2)
  (b.setWeave { b.weave with sessions := b.weave.sessions.set i (some ⟨cart, level, key, b.now⟩) }).note 213

/-- SESSION_OPEN (R424, R510): on the H port of a cartridge of a stake that serves sessions, while fewer than four are open. -/
def execSessionOpen (cart : Fin 2) (key : List Byte) (chains : Option (Fin 4)) (selfSigned : Bool) (s : State) : Result :=
  s.onBay (fun b =>
    if b.mode = 0 || !b.servesRim || !b.cPresent cart || b.keyRefused key then b
    else
      match (List.range 4).find? (fun i => (b.session i).isNone), b.clientLevel (chains.map (·.val)) selfSigned with
      | some i, some level => b.openSession i cart key chains.isSome level
      | _, _ => b)

/-- SESSION_CLOSE (R424, R432). -/
def execSessionClose (i : Fin 4) (s : State) : Result := s.onBay (fun b => b.closeSession i)

/-- SESSION_IDLE_TIMEOUT (R424): no message for 10 s. -/
def execSessionIdleTimeout (i : Fin 4) (s : State) : Result :=
  s.onBay (fun b =>
    match b.session i with
    | some x => if 10 * secTicks ≤ b.now - x.last then b.closeSession i else b
    | none => b)

/-- What the H port of cartridge x uses (R424, R510): its address, mask and gateway; while the address reads 0, 192.168.64.10 on CA and 192.168.64.11 on CB with mask 255.255.255.0 and no gateway. -/
def Bay.hPort (b : Bay) (x : Nat) : Int × Int × Int :=
  let ip := b.rd (if x = 0 then F.WVE_H_IP_CA else F.WVE_H_IP_CB)
  if ip = 0 then (if x = 0 then 0xC0A8400A else 0xC0A8400B, 0xFFFFFF00, 0) else (ip, b.rd F.WVE_H_MASK, b.rd F.WVE_H_GW)

/-! ## Requests and answers (R425, R427) -/

/-- A session has sent a message. -/
def Bay.heardSession (b : Bay) (i : Nat) (x : Session) : Bay :=
  b.setWeave { b.weave with sessions := b.weave.sessions.set i (some { x with last := b.now }) }

/-- The answer to a request. -/
def State.answer (s : State) (i : Nat) (tag : Nat) (status : Int) (words : List Int) : State :=
  { s with bay := s.bay.send (.rim i tag status words) }

/-- A message of session `i`; nothing answers where the session is not open. -/
def State.onSession (s : State) (i : Nat) (f : Session → State → State) : Result :=
  if s.bay.mode = 0 then .next s
  else
    match s.bay.session i with
    | some x => .next (f x { s with bay := s.bay.heardSession i x })
    | none => .next s

/-- The management frames of a write (R426): each holds its address, the TAG, the count and at most 96 words; `part` bytes of a word that is not whole stand behind the last ones (log entry 93). -/
def writeFrames (a tag : Nat) (words : List Int) (part : Nat) : List (List Int) :=
  let n := max 1 ((words.length + 95) / 96)
  (List.range n).map (fun k =>
    let l := (words.drop (96 * k)).take 96
    [((a + 384 * k : Nat) : Int), (tag : Int), (l.length : Int)] ++ l ++ (if part = 0 || k + 1 ≠ n then [] else [(part : Int)]))

/-- A request for another stake goes there in its management frames, or ends with error 6 (R414, R426, R427); one for this stake is done by `f`. -/
def State.forStake (s : State) (kind : String) (i tag stake : Nat) (frames : List (List Int)) (f : State → State) : State :=
  let b := s.bay
  if stake = b.node then f s
  else if !b.flag (F.BIND_BOUND stake) || !(b.reach 0 stake || b.reach 1 stake) then s.answer i tag 6 []
  else
    let b := b.setWeave { b.weave with asked := b.weave.asked ++ [(stake, i, (tag : Int), b.now)] }
    { s with bay := frames.foldl (fun b l => b.originate kind 1 stake l (some (i, (tag : Int)))) b }

/-- A session oversteps its rights (R469): error 5, the session closes, its key is refused for 60 s. -/
def State.sessionViolation (s : State) (i tag region acc a : Nat) (key : List Byte) : State :=
  let s := s.answer i tag 5 []
  let b := s.bay.violation (40 + i) region acc a
  let b := b.setTrust { b.trust with refuseUntil := b.trust.refuseUntil ++ [(key, b.now + 60 * secTicks)] }
  { s with bay := b.closeSession i }

/-! ## READ and WRITE (R426, R468) -/

/-- The firewall region of an address (R468): 12 the TRU block, 11 the other blocks. -/
def hostRegion (a : Nat) : Nat := if inWindow a then dramRegion (windowOff a) else if a / 0x10000 = 0x2E then 12 else 11

/-- What stops an access before the firewall: a misaligned address, one outside everything, a window not initialised (R9, R11, R378). -/
def Bay.hostError (b : Bay) (cart a : Nat) : Int :=
  if a % 4 ≠ 0 then 1
  else if inWindow a then (if b.flag (F.MEM_STAT_INIT_DONE cart) then 0 else 3)
  else if inBlock a then 0 else 2

/-- A session of this level may write here (R468). -/
def mayWrite (level : Int) (a : Nat) : Bool :=
  if inWindow a then decide (1 ≤ level) && windowWritable a
  else if hostRegion a = 12 then decide (2 ≤ level) else decide (1 ≤ level)

/-- A session may read here (R468). -/
def mayRead (a : Nat) : Bool := !inWindow a || windowReadable a

/-- READ word by word (R426): the words so far, and the error that ends it (0 none). -/
def State.readLoop (cart master : Nat) : Nat → Nat → State → State × Int × List Int
  | 0, _, s => (s, 0, [])
  | n + 1, a, s =>
    let e := s.bay.hostError cart a
    if e ≠ 0 then (s, e, [])
    else if !mayRead a then (s, 5, [])
    else if inWindow a then
      let r := s.windowRead cart master a 4
      match r.2 with
      | none => (r.1, 4, [])
      | some l =>
        let t := State.readLoop cart master n (a + 4) r.1
        (t.1, t.2.1, (leNum l : Int) :: t.2.2)
    else
      let r := s.hostRead cart a
      let t := State.readLoop cart master n (a + 4) r.1
      (t.1, t.2.1, (r.2 : Int) :: t.2.2)

/-- WRITE word by word (R426): the words done, and the error that ends it. `part` bytes of a word that is not whole stand last: an access narrower than a word fails with error 1 and changes nothing (R9, R427). -/
def State.writeLoop (cart master : Nat) (level : Int) (part : Nat) : List (BitVec 32) → Nat → State → State × Int × Nat
  | [], _, s => (s, if part = 0 then 0 else 1, 0)
  | w :: l, a, s =>
    let e := s.bay.hostError cart a
    if e ≠ 0 then (s, e, 0)
    else if !mayWrite level a then (s, 5, 0)
    else if inWindow a then
      let r := s.windowWrite cart master a (leBytes 4 w.toNat)
      if !r.2 then (r.1, 4, 0)
      else
        let t := State.writeLoop cart master level part l (a + 4) r.1
        (t.1, t.2.1, t.2.2 + 1)
    else
      let t := State.writeLoop cart master level part l (a + 4) (s.hostWrite a w.toNat)
      (t.1, t.2.1, t.2.2 + 1)

/-- A READ of this stake. -/
def State.doRead (s : State) (i tag a n : Nat) (x : Session) : State :=
  let r := State.readLoop x.cart (40 + i) n a s
  if r.2.1 = 5 then
    let at_ := a + 4 * r.2.2.length
    r.1.sessionViolation i tag (hostRegion at_) 1 at_ x.key
  else r.1.answer i tag r.2.1 (if r.2.1 = 0 then r.2.2 else [])

/-- A WRITE to this stake. -/
def State.doWrite (s : State) (i tag a : Nat) (l : List (BitVec 32)) (part : Nat) (x : Session) : State :=
  let r := State.writeLoop x.cart (40 + i) x.level part l a s
  if r.2.1 = 5 then
    let at_ := a + 4 * r.2.2
    r.1.sessionViolation i tag (hostRegion at_) 2 at_ x.key
  else r.1.answer i tag r.2.1 [(r.2.2 : Int)]

/-- READ (R426): 1 to 256 words. -/
def execRead (i : Fin 4) (tag : BitVec 32) (stake : Fin 64) (a n : BitVec 32) (s : State) : Result :=
  s.onSession i (fun x s =>
    if n.toNat = 0 || 256 < n.toNat then s.answer i tag.toNat 8 []
    else s.forStake "READ" i tag.toNat stake [[(a.toNat : Int), (n.toNat : Int)]] (fun s => s.doRead i tag.toNat a.toNat n.toNat x))

/-- WRITE (R426): 1 to 256 words, and bytes of a further word that are not a whole one (R9); to another stake of more than 96 words in several frames. -/
def execWrite (i : Fin 4) (tag : BitVec 32) (stake : Fin 64) (a : BitVec 32) (l : WriteData) (s : State) : Result :=
  s.onSession i (fun x s =>
    if (l.words.isEmpty && l.part.val = 0) || 256 < l.words.length then s.answer i tag.toNat 8 []
    else
      s.forStake "WRITE" i tag.toNat stake (writeFrames a.toNat tag.toNat (l.words.map (fun w => (w.toNat : Int))) l.part.val)
        (fun s => s.doWrite i tag.toNat a.toNat l.words l.part x))

/-! ## BULK_READ and BULK_WRITE (R426, R468) -/

/-- What stops a bulk access of `n` bytes before the firewall. -/
def Bay.bulkError (b : Bay) (cart a n : Nat) : Int :=
  if n % 8 ≠ 0 || 65536 < n then 8
  else if a % 8 ≠ 0 then 1
  else if !inWindow a || 0x20000000 < a + n then 2
  else if b.flag (F.MEM_STAT_INIT_DONE cart) then 0 else 3

/-- The answer to a BULK_READ: its bytes as words. -/
def State.doBulkRead (s : State) (i tag a n : Nat) (x : Session) : State :=
  let e := s.bay.bulkError x.cart a n
  if e ≠ 0 then s.answer i tag e []
  else if !windowReadable a then s.sessionViolation i tag (hostRegion a) 1 a x.key
  else
    let r := s.windowRead x.cart (40 + i) a n
    match r.2 with
    | none => r.1.answer i tag 4 []
    | some l => r.1.answer i tag 0 ((words32 (n / 4) l).map Int.ofNat)

/-- BULK_READ (R426). -/
def execBulkRead (i : Fin 4) (tag : BitVec 32) (stake : Fin 64) (a n : BitVec 32) (s : State) : Result :=
  s.onSession i (fun x s =>
    s.forStake "BULK_READ" i tag.toNat stake [[(a.toNat : Int), (n.toNat : Int)]] (fun s => s.doBulkRead i tag.toNat a.toNat n.toNat x))

/-- A BULK_WRITE to this stake. -/
def State.doBulkWrite (s : State) (i tag a : Nat) (l : List Byte) (x : Session) : State :=
  let e := s.bay.bulkError x.cart a l.length
  if e ≠ 0 then s.answer i tag e []
  else if !mayWrite x.level a then s.sessionViolation i tag (hostRegion a) 2 a x.key
  else if l.length != 0 && !mayWrite x.level (a + l.length - 8) then
    s.sessionViolation i tag (hostRegion (a + l.length - 8)) 2 (a + l.length - 8) x.key
  else (s.windowWrite x.cart (40 + i) a l).1.answer i tag 0 []

/-- BULK_WRITE (R426). -/
def execBulkWrite (i : Fin 4) (tag : BitVec 32) (stake : Fin 64) (a : BitVec 32) (l : List Byte) (s : State) : Result :=
  s.onSession i (fun x s =>
    s.forStake "BULK_WRITE" i tag.toNat stake (writeFrames a.toNat tag.toNat ((words32 (l.length / 4) l).map Int.ofNat) (l.length % 4)) (fun s => s.doBulkWrite i tag.toNat a.toNat l x))

/-! ## Streams (R428 to R432) -/

/-- Bytes of an item (R428). -/
def itemSize (n : Nat) : Nat := if 64 ≤ n && n < 68 then 64 else 16

/-- The DRAM offset of the byte at position `p` of lane n's stream: the captures stand one after the other up to `wr`. -/
def placeIn : List (Nat × Nat) → Nat → Option Nat
  | [], _ => none
  | (a, len) :: r, o => if o < len then some (a + o) else placeIn r (o - len)

/-- Bytes of the captures of a lane. -/
def regionBytes (l : List (Nat × Nat)) : Nat := l.foldl (fun k c => k + c.2) 0

/-- The item at position `p` of stream n as the cartridge reads it. -/
def State.streamItem (s : State) (cart n p : Nat) : List Byte :=
  let b := s.bay
  if n < 64 then (b.ringOf n).slots.getD (p / 16 - (b.ringOf n).pos) []
  else if n < 68 then
    let l := (b.traceOf (n - 64)).region
    match placeIn l (p + regionBytes l - b.streamWr n) with
    | some a => (s.mem.ram cart 0).bytes a 64
    | none => []
  else b.weave.q68.getD ((p - b.streamRel 68) / 16) []

/-- `k` items from position `p`. -/
def State.streamBytes (s : State) (cart n p k : Nat) : List Byte :=
  ((List.range k).map (fun j => s.streamItem cart n (p + j * itemSize n))).flatten

/-- The answer of an empty stream (R430): the item that ends at RD, flagged; event 210 once until UNDERRUN is cleared. -/
def State.underrun (s : State) (i tag n : Nat) (x : Session) : State :=
  let b := s.bay
  let st := b.streamOf n
  let z := itemSize n
  let item := if st.rd = 0 then List.replicate z 0 else if b.streamRel n < st.rd then s.streamItem x.cart n (st.rd - z) else st.last
  let b := if b.flag (F.SQ_STAT_UNDERRUN n) then b else (b.setSticky (F.SQ_STAT_UNDERRUN n)).note 210
  { s with bay := b.send (.stream i tag (st.rd - z : Nat) 1 item) }

/-- Whole items from RD, or the underrun item. -/
def State.streamFrom (s : State) (i tag n max_ : Nat) (x : Session) : State :=
  let st := s.bay.streamOf n
  let z := itemSize n
  let wr := s.bay.streamWr n
  if wr ≤ st.rd then s.underrun i tag n x
  else
    let k := min (max_ / z) ((wr - st.rd) / z)
    { s with bay := (s.bay.setStream n { st with rd := st.rd + k * z }).send (.stream i tag st.rd 0 (s.streamBytes x.cart n st.rd k)) }

/-- STREAM_READ of this stake (R430, R432): the session takes the stream and reads from MARK, or goes on from RD. -/
def State.doStreamRead (s : State) (i tag n max_ : Nat) (x : Session) : State :=
  if 68 < n then s.answer i tag 9 []
  else
    let st := s.bay.streamOf n
    match st.holder with
    | some j => if j = i then s.streamFrom i tag n max_ x else s.answer i tag 11 []
    | none => ({ s with bay := s.bay.setStream n { st with holder := some i, rd := st.mark } }).streamFrom i tag n max_ x

/-- STREAM_READ (R430). -/
def execStreamRead (i : Fin 4) (tag : BitVec 32) (stake : Fin 64) (n : BitVec 16) (max_ : BitVec 32) (s : State) : Result :=
  s.onSession i (fun x s =>
    s.forStake "STREAM_READ" i tag.toNat stake [[(n.toNat : Int), (max_.toNat : Int)]] (fun s => s.doStreamRead i tag.toNat n.toNat max_.toNat x))

/-- A stream command of this stake: an unknown stream is error 9, one that another session holds error 11 (R427; log entry 56). -/
def State.onStream (s : State) (i tag n : Nat) (f : Stream → State) : State :=
  if 68 < n then s.answer i tag 9 []
  else
    let st := s.bay.streamOf n
    if st.holder.isSome && st.holder != some i then s.answer i tag 11 [] else f st

/-- A position the rules of R431 allow: from REL to RD, at an item boundary. -/
def Bay.positionOk (b : Bay) (n p : Nat) : Bool := b.streamRel n ≤ p && p ≤ (b.streamOf n).rd && p % itemSize n = 0

/-- A MARK of this stake (R431). -/
def State.doMark (s : State) (i tag n p : Nat) : State :=
  s.onStream i tag n (fun st =>
    if s.bay.positionOk n p then ({ s with bay := (s.bay.setStream n { st with mark := p }).note 211 }).answer i tag 0 []
    else s.answer i tag 10 [])

/-- MARK (R431). -/
def execRimMark (i : Fin 4) (tag : BitVec 32) (stake : Fin 64) (n : BitVec 16) (p : BitVec 64) (s : State) : Result :=
  s.onSession i (fun _ s =>
    s.forStake "MARK" i tag.toNat stake [[(n.toNat : Int), (p.toNat : Int)]] (fun s => s.doMark i tag.toNat n.toNat p.toNat))

/-- A REWIND of this stake (R431). -/
def State.doRewind (s : State) (i tag n : Nat) : State :=
  s.onStream i tag n (fun st => ({ s with bay := (s.bay.setStream n { st with rd := st.mark }).note 211 }).answer i tag 0 [])

/-- REWIND (R431). -/
def execRewind (i : Fin 4) (tag : BitVec 32) (stake : Fin 64) (n : BitVec 16) (s : State) : Result :=
  s.onSession i (fun _ s => s.forStake "REWIND" i tag.toNat stake [[(n.toNat : Int)]] (fun s => s.doRewind i tag.toNat n.toNat))

/-- The captures of a lane that reach beyond position `p`, the first of them standing at `base`. -/
def keepFrom (p : Nat) : Nat → List (Nat × Nat) → List (Nat × Nat)
  | _, [] => []
  | base, c :: r => if base + c.2 ≤ p then keepFrom p (base + c.2) r else c :: r

/-- The source's space up to `p` is free (R22, R159, R263, R431). -/
def Bay.freeSource (b : Bay) (n p : Nat) : Bay :=
  if n < 64 then (b.releaseSlots n (p / 16 - (b.ringOf n).pos)).spaceReturn n
  else if n < 68 then
    let t := b.traceOf (n - 64)
    b.setTrace (n - 64) { t with region := keepFrom p (b.streamWr n - regionBytes t.region) t.region }
  else b.setWeave { b.weave with q68 := b.weave.q68.drop ((p - b.streamRel 68) / 16) }

/-- A RELEASE of this stake (R431). -/
def State.doRelease (s : State) (i tag n p : Nat) (x : Session) : State :=
  s.onStream i tag n (fun st =>
    let b := s.bay
    if b.positionOk n p then
      let last := if b.streamRel n < p then s.streamItem x.cart n (p - itemSize n) else st.last
      let b := (b.freeSource n p).setStream n { st with rel := p, mark := max p st.mark, last := last }
      ({ s with bay := b }).answer i tag 0 []
    else s.answer i tag 10 [])

/-- RELEASE (R431). -/
def execRelease (i : Fin 4) (tag : BitVec 32) (stake : Fin 64) (n : BitVec 16) (p : BitVec 64) (s : State) : Result :=
  s.onSession i (fun x s =>
    s.forStake "RELEASE" i tag.toNat stake [[(n.toNat : Int), (p.toNat : Int)]] (fun s => s.doRelease i tag.toNat n.toNat p.toNat x))

/-! ## PING and what is malformed (R426, R427) -/

/-- PING (R426): answered with PING. -/
def execPing (i : Fin 4) (tag : BitVec 32) (s : State) : Result := s.onSession i (fun _ s => s.answer i tag.toNat 0 [])

/-- RESERVED_RIM_TYPE (R427): error 8. -/
def execReservedRimType (i : Fin 4) (tag : BitVec 32) (s : State) : Result := s.onSession i (fun _ s => s.answer i tag.toNat 8 [])

end Sys2Proof.Machine
end

