-- ==== Sys2Proof/Machine/Dispatch.lean ====
section
/-! DEFINITION. One arm for each command: the direct call of its meaning. -/

namespace Sys2Proof.Machine

def exec (i : Instr) (s : State) : Host.Outcome State Fault Refusal :=
  match i with
  | .registerWrite a v => Sys2Proof.Machine.execRegisterWrite a v s
  | .frameEdge j => Sys2Proof.Machine.execFrameEdge j s
  | .sampleFrameSend => Sys2Proof.Machine.execSampleFrameSend s
  | .sampleFrameExchange ca cb differ => Sys2Proof.Machine.execSampleFrameExchange ca cb differ s
  | .commandFrameSend j => Sys2Proof.Machine.execCommandFrameSend j s
  | .commandFrameReceive n x f => Sys2Proof.Machine.execCommandFrameReceive n x f s
  | .holderMiss n => Sys2Proof.Machine.execHolderMiss n s
  | .computeDeadline e => Sys2Proof.Machine.execComputeDeadline e s
  | .commandFrameTimeout n => Sys2Proof.Machine.execCommandFrameTimeout n s
  | .msTick x60 => Sys2Proof.Machine.execMsTick x60 s
  | .termination c => Sys2Proof.Machine.execTermination c s
  | .safetyTimerExpire c => Sys2Proof.Machine.execSafetyTimerExpire c s
  | .stepTimeExpire c => Sys2Proof.Machine.execStepTimeExpire c s
  | .pulseLevelChange c => Sys2Proof.Machine.execPulseLevelChange c s
  | .zoneChange c => Sys2Proof.Machine.execZoneChange c s
  | .topoffEnd c => Sys2Proof.Machine.execTopoffEnd c s
  | .legacyRecharge c => Sys2Proof.Machine.execLegacyRecharge c s
  | .intervalClose => Sys2Proof.Machine.execIntervalClose s
  | .sealTrigger c => Sys2Proof.Machine.execSealTrigger c s
  | .sealWritten c fail => Sys2Proof.Machine.execSealWritten c fail s
  | .ringNearFull c => Sys2Proof.Machine.execRingNearFull c s
  | .ringFull c => Sys2Proof.Machine.execRingFull c s
  | .ringSpaceReturn c => Sys2Proof.Machine.execRingSpaceReturn c s
  | .cellEnd c => Sys2Proof.Machine.execCellEnd c s
  | .holdClr c => Sys2Proof.Machine.execHoldClr c s
  | .regStatRead c => Sys2Proof.Machine.execRegStatRead c s
  | .temperatureSample x v fault => Sys2Proof.Machine.execTemperatureSample x v fault s
  | .sensorRateSlow x => Sys2Proof.Machine.execSensorRateSlow x s
  | .flowLoss => Sys2Proof.Machine.execFlowLoss s
  | .compensationUpdate => Sys2Proof.Machine.execCompensationUpdate s
  | .tsdRead => Sys2Proof.Machine.execTsdRead s
  | .tsdClr => Sys2Proof.Machine.execTsdClr s
  | .x1Low v => Sys2Proof.Machine.execX1Low v s
  | .plantBusLoss v => Sys2Proof.Machine.execPlantBusLoss v s
  | .x1Overvoltage v => Sys2Proof.Machine.execX1Overvoltage v s
  | .x1Overcurrent j => Sys2Proof.Machine.execX1Overcurrent j s
  | .contactorMismatch => Sys2Proof.Machine.execContactorMismatch s
  | .connect => Sys2Proof.Machine.execConnect s
  | .lockoutExpire => Sys2Proof.Machine.execLockoutExpire s
  | .prechargeDone vNode => Sys2Proof.Machine.execPrechargeDone vNode s
  | .contactorConfirmed => Sys2Proof.Machine.execContactorConfirmed s
  | .prechargeTimeout => Sys2Proof.Machine.execPrechargeTimeout s
  | .openEntry => Sys2Proof.Machine.execOpen s
  | .plannedDisconnectDone => Sys2Proof.Machine.execPlannedDisconnectDone s
  | .nodeOvervoltage v => Sys2Proof.Machine.execNodeOvervoltage v s
  | .sectionBusOvervoltage n v => Sys2Proof.Machine.execSectionBusOvervoltage n v s
  | .overloadBudgetEmpty h => Sys2Proof.Machine.execOverloadBudgetEmpty h s
  | .overloadBudgetRefilled h => Sys2Proof.Machine.execOverloadBudgetRefilled h s
  | .drain n => Sys2Proof.Machine.execDrain n s
  | .drainComplete n => Sys2Proof.Machine.execDrainComplete n s
  | .run n => Sys2Proof.Machine.execRun n s
  | .axisBusReturn v => Sys2Proof.Machine.execAxisBusReturn v s
  | .brakeChopperSwitch v => Sys2Proof.Machine.execBrakeChopperSwitch v s
  | .axisBusOvervoltage v => Sys2Proof.Machine.execAxisBusOvervoltage v s
  | .axisBusUndervoltage v => Sys2Proof.Machine.execAxisBusUndervoltage v s
  | .chopperFault conducts => Sys2Proof.Machine.execChopperFault conducts s
  | .chopperTestStart => Sys2Proof.Machine.execChopperTestStart s
  | .chopperTestPhase j => Sys2Proof.Machine.execChopperTestPhase j s
  | .chopperTestResult j => Sys2Proof.Machine.execChopperTestResult j s
  | .donorLost c => Sys2Proof.Machine.execDonorLost c s
  | .rideThroughTimeout => Sys2Proof.Machine.execRideThroughTimeout s
  | .rideThroughNodeLow v => Sys2Proof.Machine.execRideThroughNodeLow v s
  | .plantBusReturn vNode => Sys2Proof.Machine.execPlantBusReturn vNode s
  | .peakLimit c => Sys2Proof.Machine.execPeakLimit c s
  | .peakLimitPersistent c p => Sys2Proof.Machine.execPeakLimitPersistent c p s
  | .rpathUpdate c x => Sys2Proof.Machine.execRpathUpdate c x s
  | .channelShed c => Sys2Proof.Machine.execChannelShed c s
  | .phaseReinstate c j => Sys2Proof.Machine.execPhaseReinstate c j s
  | .allPhaseFire c => Sys2Proof.Machine.execAllPhaseFire c s
  | .cellSwitchClosed c vNode => Sys2Proof.Machine.execCellSwitchClosed c vNode s
  | .prebiasTimeout c => Sys2Proof.Machine.execPrebiasTimeout c s
  | .softStopComplete c => Sys2Proof.Machine.execSoftStopComplete c s
  | .overvoltageLatch c vNode vSense => Sys2Proof.Machine.execOvervoltageLatch c vNode vSense s
  | .fltRead c => Sys2Proof.Machine.execFltRead c s
  | .ovClr c => Sys2Proof.Machine.execOvClr c s
  | .cellAbsent c slew => Sys2Proof.Machine.execCellAbsent c slew s
  | .crowbarEnd c => Sys2Proof.Machine.execCrowbarEnd c s
  | .absClr c => Sys2Proof.Machine.execAbsClr c s
  | .phaseOutOfService c p isOpen => Sys2Proof.Machine.execPhaseOutOfService c p isOpen s
  | .phClr c => Sys2Proof.Machine.execPhClr c s
  | .fltClr c => Sys2Proof.Machine.execFltClr c s
  | .strokeWord d w => Sys2Proof.Machine.execStrokeWord d w s
  | .strokeKeepalive d => Sys2Proof.Machine.execStrokeKeepalive d s
  | .statusWord d good p0 p1 p2 p3 sw => Sys2Proof.Machine.execStatusWord d good p0 p1 p2 p3 sw s
  | .strokeLinkLost d => Sys2Proof.Machine.execStrokeLinkLost d s
  | .phasePumpTrip c p => Sys2Proof.Machine.execPhasePumpTrip c p s
  | .cellSwitchPumpLow c trip => Sys2Proof.Machine.execCellSwitchPumpLow c trip s
  | .channelSafeOffDrop n => Sys2Proof.Machine.execChannelSafeOffDrop n s
  | .channelSafeOffRelease n => Sys2Proof.Machine.execChannelSafeOffRelease n s
  | .framRecordWritten n => Sys2Proof.Machine.execFramRecordWritten n s
  | .rangeUp c reading => Sys2Proof.Machine.execRangeUp c reading s
  | .rangeDown c => Sys2Proof.Machine.execRangeDown c s
  | .rangeBridgeEnd c => Sys2Proof.Machine.execRangeBridgeEnd c s
  | .spectralBoundary rs => Sys2Proof.Machine.execSpectralBoundary rs s
  | .precisionWindowClose rs => Sys2Proof.Machine.execPrecisionWindowClose rs s
  | .mainsWrite v => Sys2Proof.Machine.execMainsWrite v s
  | .refCtlWrite v => Sys2Proof.Machine.execRefCtlWrite v s
  | .refReady n => Sys2Proof.Machine.execRefReady n s
  | .scalCtlWrite m => Sys2Proof.Machine.execScalCtlWrite m s
  | .selfCalSlot n k rs => Sys2Proof.Machine.execSelfCalSlot n k rs s
  | .selfCalComplete n => Sys2Proof.Machine.execSelfCalComplete n s
  | .ovenReady => Sys2Proof.Machine.execOvenReady s
  | .meterEntry => Sys2Proof.Machine.execMeterEntry s
  | .meterResult m => Sys2Proof.Machine.execMeterResult m s
  | .lowWordRead a => Sys2Proof.Machine.execLowWordRead a s
  | .hcmdGo => Sys2Proof.Machine.execHcmdGo s
  | .hcmdAbort => Sys2Proof.Machine.execHcmdAbort s
  | .sweepEdge => Sys2Proof.Machine.execSweepEdge s
  | .pointStart c => Sys2Proof.Machine.execPointStart c s
  | .settlePeriodEnd c => Sys2Proof.Machine.execSettlePeriodEnd c s
  | .measureWindowClose c => Sys2Proof.Machine.execMeasureWindowClose c s
  | .pointResult c => Sys2Proof.Machine.execPointResult c s
  | .gradingVector c => Sys2Proof.Machine.execGradingVector c s
  | .engineStart c => Sys2Proof.Machine.execEngineStart c s
  | .engineStop c => Sys2Proof.Machine.execEngineStop c s
  | .enginePause c => Sys2Proof.Machine.execEnginePause c s
  | .engineResume c => Sys2Proof.Machine.execEngineResume c s
  | .engineRelease c => Sys2Proof.Machine.execEngineRelease c s
  | .hsig c => Sys2Proof.Machine.execHsig c s
  | .scmdStart => Sys2Proof.Machine.execScmdStart s
  | .scmdStop => Sys2Proof.Machine.execScmdStop s
  | .scmdPause => Sys2Proof.Machine.execScmdPause s
  | .scmdResume => Sys2Proof.Machine.execScmdResume s
  | .engineStartEdge c => Sys2Proof.Machine.execEngineStartEdge c s
  | .frzRead c => Sys2Proof.Machine.execFrzRead c s
  | .skNop c => Sys2Proof.Machine.execSkNop c s
  | .skHalt c => Sys2Proof.Machine.execSkHalt c s
  | .skEnd c => Sys2Proof.Machine.execSkEnd c s
  | .skTrap c => Sys2Proof.Machine.execSkTrap c s
  | .skLdi c => Sys2Proof.Machine.execSkLdi c s
  | .skLdw c => Sys2Proof.Machine.execSkLdw c s
  | .skMov c => Sys2Proof.Machine.execSkMov c s
  | .skAdd c => Sys2Proof.Machine.execSkAdd c s
  | .skSub c => Sys2Proof.Machine.execSkSub c s
  | .skMul c => Sys2Proof.Machine.execSkMul c s
  | .skDiv c => Sys2Proof.Machine.execSkDiv c s
  | .skMin c => Sys2Proof.Machine.execSkMin c s
  | .skMax c => Sys2Proof.Machine.execSkMax c s
  | .skAbs c => Sys2Proof.Machine.execSkAbs c s
  | .skCmp c => Sys2Proof.Machine.execSkCmp c s
  | .skCmpi c => Sys2Proof.Machine.execSkCmpi c s
  | .skBr c => Sys2Proof.Machine.execSkBr c s
  | .skCall c => Sys2Proof.Machine.execSkCall c s
  | .skRet c => Sys2Proof.Machine.execSkRet c s
  | .skLoop c => Sys2Proof.Machine.execSkLoop c s
  | .skSeti c => Sys2Proof.Machine.execSkSeti c s
  | .skSetv c => Sys2Proof.Machine.execSkSetv c s
  | .skSetp c => Sys2Proof.Machine.execSkSetp c s
  | .skMode c => Sys2Proof.Machine.execSkMode c s
  | .skRamp c => Sys2Proof.Machine.execSkRamp c s
  | .skPulse c => Sys2Proof.Machine.execSkPulse c s
  | .skPress c => Sys2Proof.Machine.execSkPress c s
  | .skWait c => Sys2Proof.Machine.execSkWait c s
  | .skWaitt c => Sys2Proof.Machine.execSkWaitt c s
  | .waittTimeout c => Sys2Proof.Machine.execWaittTimeout c s
  | .skGet c => Sys2Proof.Machine.execSkGet c s
  | .skGeta c => Sys2Proof.Machine.execSkGeta c s
  | .skClra c => Sys2Proof.Machine.execSkClra c s
  | .skZone c => Sys2Proof.Machine.execSkZone c s
  | .skStep c => Sys2Proof.Machine.execSkStep c s
  | .skCurve c => Sys2Proof.Machine.execSkCurve c s
  | .skTerm c => Sys2Proof.Machine.execSkTerm c s
  | .skSafet c => Sys2Proof.Machine.execSkSafet c s
  | .skSweep c => Sys2Proof.Machine.execSkSweep c s
  | .skSweepStop c => Sys2Proof.Machine.execSkSweepStop c s
  | .skGrade c => Sys2Proof.Machine.execSkGrade c s
  | .skMark c => Sys2Proof.Machine.execSkMark c s
  | .skLog c => Sys2Proof.Machine.execSkLog c s
  | .skJoin c => Sys2Proof.Machine.execSkJoin c s
  | .skSignal c => Sys2Proof.Machine.execSkSignal c s
  | .skDonate c => Sys2Proof.Machine.execSkDonate c s
  | .skLegacy c => Sys2Proof.Machine.execSkLegacy c s
  | .reservedOpcode c => Sys2Proof.Machine.execReservedOpcode c s
  | .groupArrivalMessage g gen stake chan ts cnt => Sys2Proof.Machine.execGroupArrivalMessage g gen stake chan ts cnt s
  | .groupRelease g => Sys2Proof.Machine.execGroupRelease g s
  | .groupTimeout g => Sys2Proof.Machine.execGroupTimeout g s
  | .groupAbort g => Sys2Proof.Machine.execGroupAbort g s
  | .groupBreak g => Sys2Proof.Machine.execGroupBreak g s
  | .loadGo => Sys2Proof.Machine.execLoadGo s
  | .loadComplete => Sys2Proof.Machine.execLoadComplete s
  | .delete => Sys2Proof.Machine.execDelete s
  | .dlClr => Sys2Proof.Machine.execDlClr s
  | .arm n => Sys2Proof.Machine.execArm n s
  | .force n => Sys2Proof.Machine.execForce n s
  | .traceCaptureEnd n => Sys2Proof.Machine.execTraceCaptureEnd n s
  | .traceCopyDone n => Sys2Proof.Machine.execTraceCopyDone n s
  | .axisStart a => Sys2Proof.Machine.execAxisStart a s
  | .axisStop a => Sys2Proof.Machine.execAxisStop a s
  | .axisStopComplete a => Sys2Proof.Machine.execAxisStopComplete a s
  | .axsFltRead a => Sys2Proof.Machine.execAxsFltRead a s
  | .axsFltClr a => Sys2Proof.Machine.execAxsFltClr a s
  | .stoLineDrop => Sys2Proof.Machine.execStoLineDrop s
  | .catchWindowEnd a => Sys2Proof.Machine.execCatchWindowEnd a s
  | .polarityTest a plus minus => Sys2Proof.Machine.execPolarityTest a plus minus s
  | .torqueEnable a => Sys2Proof.Machine.execTorqueEnable a s
  | .brakeRelease a => Sys2Proof.Machine.execBrakeRelease a s
  | .axisRun a => Sys2Proof.Machine.execAxisRun a s
  | .startTimeout a => Sys2Proof.Machine.execStartTimeout a s
  | .feedbackDisagree a => Sys2Proof.Machine.execFeedbackDisagree a s
  | .i2tEmpty a => Sys2Proof.Machine.execI2tEmpty a s
  | .i2tRecover a => Sys2Proof.Machine.execI2tRecover a s
  | .loadCellRange a => Sys2Proof.Machine.execLoadCellRange a s
  | .pressHoldEntry a => Sys2Proof.Machine.execPressHoldEntry a s
  | .pressHoldRamp a => Sys2Proof.Machine.execPressHoldRamp a s
  | .pressRetrim a => Sys2Proof.Machine.execPressRetrim a s
  | .retrimForce a => Sys2Proof.Machine.execRetrimForce a s
  | .pressReleased a => Sys2Proof.Machine.execPressReleased a s
  | .x60Loss a => Sys2Proof.Machine.execX60Loss a s
  | .x60Restore a => Sys2Proof.Machine.execX60Restore a s
  | .desaturation a => Sys2Proof.Machine.execDesaturation a s
  | .fastOvercurrent a => Sys2Proof.Machine.execFastOvercurrent a s
  | .twoLegShort a1 a2 => Sys2Proof.Machine.execTwoLegShort a1 a2 s
  | .phaseOpen a => Sys2Proof.Machine.execPhaseOpen a s
  | .currentSenseLost a => Sys2Proof.Machine.execCurrentSenseLost a s
  | .toothEdge p fwd onA lead t4 force => Sys2Proof.Machine.execToothEdge p fwd onA lead t4 force s
  | .illegalTransition p t4 => Sys2Proof.Machine.execIllegalTransition p t4 s
  | .lineFault p mask => Sys2Proof.Machine.execLineFault p mask s
  | .speedTimeout p => Sys2Proof.Machine.execSpeedTimeout p s
  | .ssiWord p w timedOut t force => Sys2Proof.Machine.execSsiWord p w timedOut t force s
  | .refClr p => Sys2Proof.Machine.execRefClr p s
  | .cmpArm p => Sys2Proof.Machine.execCmpArm p s
  | .cmpStop p => Sys2Proof.Machine.execCmpStop p s
  | .fifoClr p => Sys2Proof.Machine.execFifoClr p s
  | .hitThiRead p => Sys2Proof.Machine.execHitThiRead p s
  | .passthroughResume => Sys2Proof.Machine.execPassthroughResume s
  | .safetyCycle j => Sys2Proof.Machine.execSafetyCycle j s
  | .discrepancyFault j => Sys2Proof.Machine.execDiscrepancyFault j s
  | .cat1Stop j => Sys2Proof.Machine.execCat1Stop j s
  | .testPulse t => Sys2Proof.Machine.execTestPulse t s
  | .lineTest k pass => Sys2Proof.Machine.execLineTest k pass s
  | .lineTestDue => Sys2Proof.Machine.execLineTestDue s
  | .feedbackTimeout j => Sys2Proof.Machine.execFeedbackTimeout j s
  | .resetPress ms skew => Sys2Proof.Machine.execResetPress ms skew s
  | .resetStuck => Sys2Proof.Machine.execResetStuck s
  | .safetySupplyLost => Sys2Proof.Machine.execSafetySupplyLost s
  | .hoCa => Sys2Proof.Machine.execHoCa s
  | .hoCb => Sys2Proof.Machine.execHoCb s
  | .upsettSilent x selfFault => Sys2Proof.Machine.execUpsettSilent x selfFault s
  | .degradedWarn => Sys2Proof.Machine.execDegradedWarn s
  | .degradedTimeExpire => Sys2Proof.Machine.execDegradedTimeExpire s
  | .upsettSelfTestDone x pass verified resetClosed => Sys2Proof.Machine.execUpsettSelfTestDone x pass verified resetClosed s
  | .upsettRejoin x => Sys2Proof.Machine.execUpsettRejoin x s
  | .activate => Sys2Proof.Machine.execActivate s
  | .pairingLaneLost lane up => Sys2Proof.Machine.execPairingLaneLost lane up s
  | .pairingLinkLost silent => Sys2Proof.Machine.execPairingLinkLost silent s
  | .joinBootDone x equal => Sys2Proof.Machine.execJoinBootDone x equal s
  | .bulkCopyDone => Sys2Proof.Machine.execBulkCopyDone s
  | .stateCopyDone => Sys2Proof.Machine.execStateCopyDone s
  | .provingDone => Sys2Proof.Machine.execProvingDone s
  | .resync => Sys2Proof.Machine.execResync s
  | .swap => Sys2Proof.Machine.execSwap s
  | .redFltRead => Sys2Proof.Machine.execRedFltRead s
  | .fwAlignDone => Sys2Proof.Machine.execFwAlignDone s
  | .strobeMissing n => Sys2Proof.Machine.execStrobeMissing n s
  | .strobeDisagree n => Sys2Proof.Machine.execStrobeDisagree n s
  | .oscillatorFail => Sys2Proof.Machine.execOscillatorFail s
  | .partnerRepair x w => Sys2Proof.Machine.execPartnerRepair x w s
  | .scrGo x => Sys2Proof.Machine.execScrGo x s
  | .scrStop x => Sys2Proof.Machine.execScrStop x s
  | .scrubComplete x => Sys2Proof.Machine.execScrubComplete x s
  | .injGo x => Sys2Proof.Machine.execInjGo x s
  | .cntClr x => Sys2Proof.Machine.execCntClr x s
  | .dmaRst x mask => Sys2Proof.Machine.execDmaRst x mask s
  | .memoryInitDone x record => Sys2Proof.Machine.execMemoryInitDone x record s
  | .powerUp => Sys2Proof.Machine.execPowerUp s
  | .powerDown => Sys2Proof.Machine.execPowerDown s
  | .controlSupplyChange j what => Sys2Proof.Machine.execControlSupplyChange j what s
  | .bootComplete se upsett => Sys2Proof.Machine.execBootComplete se upsett s
  | .attOk => Sys2Proof.Machine.execAttOk s
  | .attRej => Sys2Proof.Machine.execAttRej s
  | .calDone => Sys2Proof.Machine.execCalDone s
  | .calibrate => Sys2Proof.Machine.execCalibrate s
  | .hold => Sys2Proof.Machine.execHold s
  | .resume => Sys2Proof.Machine.execResume s
  | .service => Sys2Proof.Machine.execService s
  | .exitSvc => Sys2Proof.Machine.execExitSvc s
  | .stop => Sys2Proof.Machine.execStop s
  | .recover => Sys2Proof.Machine.execRecover s
  | .stopCauseRead => Sys2Proof.Machine.execStopCauseRead s
  | .eventRelease => Sys2Proof.Machine.execEventRelease s
  | .timeMark => Sys2Proof.Machine.execTimeMark s
  | .rdValRead => Sys2Proof.Machine.execRdValRead s
  | .lostClr => Sys2Proof.Machine.execLostClr s
  | .timeMessage m => Sys2Proof.Machine.execTimeMessage m s
  | .lockTimeout => Sys2Proof.Machine.execLockTimeout s
  | .freeRun => Sys2Proof.Machine.execFreeRun s
  | .ptpLoss => Sys2Proof.Machine.execPtpLoss s
  | .linkHandshake p x => Sys2Proof.Machine.execLinkHandshake p x s
  | .weaveFrameReceive p f => Sys2Proof.Machine.execWeaveFrameReceive p f s
  | .linkKeepalive p => Sys2Proof.Machine.execLinkKeepalive p s
  | .linkTimeout p pcs => Sys2Proof.Machine.execLinkTimeout p pcs s
  | .rekey p => Sys2Proof.Machine.execRekey p s
  | .ackSend => Sys2Proof.Machine.execAckSend s
  | .retransmit acked => Sys2Proof.Machine.execRetransmit acked s
  | .discover => Sys2Proof.Machine.execDiscover s
  | .probe => Sys2Proof.Machine.execProbe s
  | .announce ser stored peers => Sys2Proof.Machine.execAnnounce ser stored peers s
  | .bind a => Sys2Proof.Machine.execBind a s
  | .bindAck a => Sys2Proof.Machine.execBindAck a s
  | .routingTables ta tb rep => Sys2Proof.Machine.execRoutingTables ta tb rep s
  | .unbind a => Sys2Proof.Machine.execUnbind a s
  | .linkDown plane x y => Sys2Proof.Machine.execLinkDown plane x y s
  | .remoteEvent t eng => Sys2Proof.Machine.execRemoteEvent t eng s
  | .heartbeat node ser primary => Sys2Proof.Machine.execHeartbeat node ser primary s
  | .heartbeatTimeout => Sys2Proof.Machine.execHeartbeatTimeout s
  | .rimTake => Sys2Proof.Machine.execRimTake s
  | .sessionOpen cart key chains selfSigned => Sys2Proof.Machine.execSessionOpen cart key chains selfSigned s
  | .sessionClose j => Sys2Proof.Machine.execSessionClose j s
  | .sessionIdleTimeout j => Sys2Proof.Machine.execSessionIdleTimeout j s
  | .read j tag stake a n => Sys2Proof.Machine.execRead j tag stake a n s
  | .write j tag stake a ws => Sys2Proof.Machine.execWrite j tag stake a ws s
  | .bulkRead j tag stake a n => Sys2Proof.Machine.execBulkRead j tag stake a n s
  | .bulkWrite j tag stake a l => Sys2Proof.Machine.execBulkWrite j tag stake a l s
  | .streamRead j tag stake n max_ => Sys2Proof.Machine.execStreamRead j tag stake n max_ s
  | .rimMark j tag stake n p => Sys2Proof.Machine.execRimMark j tag stake n p s
  | .rewind j tag stake n => Sys2Proof.Machine.execRewind j tag stake n s
  | .release j tag stake n p => Sys2Proof.Machine.execRelease j tag stake n p s
  | .ping j tag => Sys2Proof.Machine.execPing j tag s
  | .reservedRimType j tag => Sys2Proof.Machine.execReservedRimType j tag s
  | .canFrameReceive k f => Sys2Proof.Machine.execCanFrameReceive k f s
  | .canTxDone k o ago what => Sys2Proof.Machine.execCanTxDone k o ago what s
  | .canBusError k e => Sys2Proof.Machine.execCanBusError k e s
  | .canRecoveryReady k => Sys2Proof.Machine.execCanRecoveryReady k s
  | .canRecoveryDelay k => Sys2Proof.Machine.execCanRecoveryDelay k s
  | .req k o => Sys2Proof.Machine.execReq k o s
  | .abort k o inTx => Sys2Proof.Machine.execAbort k o inTx s
  | .objTimeout k o inTx => Sys2Proof.Machine.execObjTimeout k o inTx s
  | .clashClr k => Sys2Proof.Machine.execClashClr k s
  | .recReq k => Sys2Proof.Machine.execRecReq k s
  | .canMode k m => Sys2Proof.Machine.execCanMode k m s
  | .rateCandidateTimeout k => Sys2Proof.Machine.execRateCandidateTimeout k s
  | .attGo => Sys2Proof.Machine.execAttGo s
  | .quoteReady => Sys2Proof.Machine.execQuoteReady s
  | .quoteRead x => Sys2Proof.Machine.execQuoteRead x s
  | .enrGo differ => Sys2Proof.Machine.execEnrGo differ s
  | .enrolmentApply => Sys2Proof.Machine.execEnrolmentApply s
  | .commissioningButton ms => Sys2Proof.Machine.execCommissioningButton ms s
  | .commissioningTimeout => Sys2Proof.Machine.execCommissioningTimeout s
  | .rkeyNew => Sys2Proof.Machine.execRkeyNew s
  | .verRebuild => Sys2Proof.Machine.execVerRebuild s
  | .fwPrefA => Sys2Proof.Machine.execFwPrefA s
  | .fwPrefB => Sys2Proof.Machine.execFwPrefB s
  | .qRestart discard => Sys2Proof.Machine.execQRestart discard s
  | .qcauseRead => Sys2Proof.Machine.execQcauseRead s
  | .fwlLastRead => Sys2Proof.Machine.execFwlLastRead s
  | .rel m => Sys2Proof.Machine.execRel m s
  | .chunk => Sys2Proof.Machine.execChunk s
  | .chunkDone => Sys2Proof.Machine.execChunkDone s
  | .verify => Sys2Proof.Machine.execVerify s
  | .verifyDone => Sys2Proof.Machine.execVerifyDone s
  | .restart => Sys2Proof.Machine.execRestart s
  | .latchRelease n => Sys2Proof.Machine.execLatchRelease n s
  | .extractionLockOpen n => Sys2Proof.Machine.execExtractionLockOpen n s
  | .latchLocked n => Sys2Proof.Machine.execLatchLocked n s
  | .lockReclose n => Sys2Proof.Machine.execLockReclose n s
  | .serviceKeyOpen n => Sys2Proof.Machine.execServiceKeyOpen n s
  | .cartridgeRemoved n => Sys2Proof.Machine.execCartridgeRemoved n s
  | .cartridgeInserted n c => Sys2Proof.Machine.execCartridgeInserted n c s
  | .nodeVoltageRecovered v => Sys2Proof.Machine.execNodeVoltageRecovered v s
  | .cartridgePrechargeDone n => Sys2Proof.Machine.execCartridgePrechargeDone n s
  | .ovenLost => Sys2Proof.Machine.execOvenLost s
  | .certDueReached => Sys2Proof.Machine.execCertDueReached s
  | .lineFaultCleared p mask => Sys2Proof.Machine.execLineFaultCleared p mask s
  | .safetySupplyRestored => Sys2Proof.Machine.execSafetySupplyRestored s
  | .linkDelayMeasurement p ns => Sys2Proof.Machine.execLinkDelayMeasurement p ns s
  | .rimTimeSend => Sys2Proof.Machine.execRimTimeSend s
  | .rimHeartbeatSend => Sys2Proof.Machine.execRimHeartbeatSend s
  | .ptpMessage off utc => Sys2Proof.Machine.execPtpMessage off utc s
  | .dataRateTimeout k => Sys2Proof.Machine.execDataRateTimeout k s

end Sys2Proof.Machine
end

