-- ==== Sys2Proof/Machine/Step.lean ====
section
/-! DEFINITION. One step of the bay: the command at the front of the queue, or the passing of time when none waits. -/

namespace Sys2Proof.Machine

/-- One step: the command at the front acts on the state with the rest of the queue; on an empty queue time runs (log entry 57). -/
def step (s : State) : Host.Outcome State Fault Refusal :=
  match s.pending with
  | [] => s.idle
  | c :: rest => exec c { s with pending := rest }

/-- The state with the command a word spells at the front of its queue; no word spells one. -/
def State.withFetchWord (s : State) (nbits w : Nat) : State :=
  match Sys2Proof.decodeTableWord nbits w with
  | some c => { s with pending := c :: s.pending }
  | none => s

end Sys2Proof.Machine
end

