-- ==== Sys2Proof/WellFormed.lean ====
section
/-! DEFINITION. Well-formed commands: what the types of the operands do not already say of them. -/

namespace Sys2Proof

/-- No member twice. -/
def noRepeats {α : Type} [BEq α] : List α → Bool
  | [] => true
  | a :: r => !r.contains a && noRepeats r

/-- No channel twice. -/
def distinctChans (l : List (Fin 64)) : Bool := noRepeats l

/-- A sample frame names each channel, section and axis at most once, with four phase currents to a channel (R24, R72). -/
def FrameIn.wf (i : FrameIn) : Bool :=
  distinctChans (i.chans.map (·.chan)) && i.chans.all (fun x => x.ph.length == 4) && noRepeats (i.secs.map (·.sec)) &&
    noRepeats (i.axes.map (·.axis))

/-- Data bytes of a DLC (ISO 11898-1, R435). -/
def dlcLength (fdf : Bool) (dlc : Nat) : Nat :=
  if dlc ≤ 8 then dlc else if !fdf then 8 else ([12, 16, 20, 24, 32, 48, 64].getD (dlc - 9) 64)

/-- A CAN frame: a base identifier has 11 bits, the data are as long as the DLC says, a remote frame has none and is classical (R435, R441). -/
def CanFrame.wf (f : CanFrame) : Bool :=
  (f.ide || f.id.toNat < 2048) && (if f.remote then f.data.isEmpty && !f.fdf else f.data.length == dlcLength f.fdf f.dlc.toNat) && (f.fdf || !f.brs)

/-- An EHM-1 carries a certificate of 160 bytes (R463). -/
def Cartridge.wf : Cartridge → Bool
  | .blank => true
  | .ehc _ _ _ _ => true
  | .ehs _ _ _ => true
  | .ehx => true
  | .ehm cert _ => cert.length == 160

/-- A well-formed command. -/
def Instr.wellFormed : Instr → Bool
  | .registerWrite _ _ => true
  | .frameEdge j => j.wf
  | .sampleFrameSend => true
  | .sampleFrameExchange _ _ _ => true
  | .commandFrameSend _ => true
  | .commandFrameReceive _ _ _ => true
  | .holderMiss _ => true
  | .computeDeadline e => e.ends.length == 4
  | .commandFrameTimeout _ => true
  | .msTick x60 => noRepeats (x60.map (·.1))
  | .termination _ => true
  | .safetyTimerExpire _ => true
  | .stepTimeExpire _ => true
  | .pulseLevelChange _ => true
  | .zoneChange _ => true
  | .topoffEnd _ => true
  | .legacyRecharge _ => true
  | .intervalClose => true
  | .sealTrigger _ => true
  | .sealWritten _ _ => true
  | .ringNearFull _ => true
  | .ringFull _ => true
  | .ringSpaceReturn _ => true
  | .cellEnd _ => true
  | .holdClr _ => true
  | .regStatRead _ => true
  | .temperatureSample _ _ _ => true
  | .sensorRateSlow _ => true
  | .flowLoss => true
  | .compensationUpdate => true
  | .tsdRead => true
  | .tsdClr => true
  | .x1Low _ => true
  | .plantBusLoss _ => true
  | .x1Overvoltage _ => true
  | .x1Overcurrent _ => true
  | .contactorMismatch => true
  | .connect => true
  | .lockoutExpire => true
  | .prechargeDone _ => true
  | .contactorConfirmed => true
  | .prechargeTimeout => true
  | .openEntry => true
  | .plannedDisconnectDone => true
  | .nodeOvervoltage _ => true
  | .sectionBusOvervoltage _ _ => true
  | .overloadBudgetEmpty _ => true
  | .overloadBudgetRefilled _ => true
  | .drain _ => true
  | .drainComplete _ => true
  | .run _ => true
  | .axisBusReturn _ => true
  | .brakeChopperSwitch _ => true
  | .axisBusOvervoltage _ => true
  | .axisBusUndervoltage _ => true
  | .chopperFault _ => true
  | .chopperTestStart => true
  | .chopperTestPhase _ => true
  | .chopperTestResult _ => true
  | .donorLost _ => true
  | .rideThroughTimeout => true
  | .rideThroughNodeLow _ => true
  | .plantBusReturn _ => true
  | .peakLimit _ => true
  | .peakLimitPersistent _ _ => true
  | .rpathUpdate _ _ => true
  | .channelShed _ => true
  | .phaseReinstate _ _ => true
  | .allPhaseFire _ => true
  | .cellSwitchClosed _ _ => true
  | .prebiasTimeout _ => true
  | .softStopComplete _ => true
  | .overvoltageLatch _ _ _ => true
  | .fltRead _ => true
  | .ovClr _ => true
  | .cellAbsent _ _ => true
  | .crowbarEnd _ => true
  | .absClr _ => true
  | .phaseOutOfService _ _ _ => true
  | .phClr _ => true
  | .fltClr _ => true
  | .strokeWord _ _ => true
  | .strokeKeepalive _ => true
  | .statusWord _ _ _ _ _ _ _ => true
  | .strokeLinkLost _ => true
  | .phasePumpTrip _ _ => true
  | .cellSwitchPumpLow _ _ => true
  | .channelSafeOffDrop _ => true
  | .channelSafeOffRelease _ => true
  | .framRecordWritten _ => true
  | .rangeUp _ _ => true
  | .rangeDown _ => true
  | .rangeBridgeEnd _ => true
  | .spectralBoundary rs => distinctChans (rs.map (·.chan))
  | .precisionWindowClose rs => distinctChans (rs.map (·.chan))
  | .mainsWrite _ => true
  | .refCtlWrite _ => true
  | .refReady _ => true
  | .scalCtlWrite _ => true
  | .selfCalSlot _ _ rs => rs.length == 16
  | .selfCalComplete _ => true
  | .ovenReady => true
  | .meterEntry => true
  | .meterResult _ => true
  | .lowWordRead _ => true
  | .hcmdGo => true
  | .hcmdAbort => true
  | .sweepEdge => true
  | .pointStart _ => true
  | .settlePeriodEnd _ => true
  | .measureWindowClose _ => true
  | .pointResult _ => true
  | .gradingVector _ => true
  | .engineStart _ => true
  | .engineStop _ => true
  | .enginePause _ => true
  | .engineResume _ => true
  | .engineRelease _ => true
  | .hsig _ => true
  | .scmdStart => true
  | .scmdStop => true
  | .scmdPause => true
  | .scmdResume => true
  | .engineStartEdge _ => true
  | .frzRead _ => true
  | .skNop _ => true
  | .skHalt _ => true
  | .skEnd _ => true
  | .skTrap _ => true
  | .skLdi _ => true
  | .skLdw _ => true
  | .skMov _ => true
  | .skAdd _ => true
  | .skSub _ => true
  | .skMul _ => true
  | .skDiv _ => true
  | .skMin _ => true
  | .skMax _ => true
  | .skAbs _ => true
  | .skCmp _ => true
  | .skCmpi _ => true
  | .skBr _ => true
  | .skCall _ => true
  | .skRet _ => true
  | .skLoop _ => true
  | .skSeti _ => true
  | .skSetv _ => true
  | .skSetp _ => true
  | .skMode _ => true
  | .skRamp _ => true
  | .skPulse _ => true
  | .skPress _ => true
  | .skWait _ => true
  | .skWaitt _ => true
  | .waittTimeout _ => true
  | .skGet _ => true
  | .skGeta _ => true
  | .skClra _ => true
  | .skZone _ => true
  | .skStep _ => true
  | .skCurve _ => true
  | .skTerm _ => true
  | .skSafet _ => true
  | .skSweep _ => true
  | .skSweepStop _ => true
  | .skGrade _ => true
  | .skMark _ => true
  | .skLog _ => true
  | .skJoin _ => true
  | .skSignal _ => true
  | .skDonate _ => true
  | .skLegacy _ => true
  | .reservedOpcode _ => true
  | .groupArrivalMessage _ _ stake chan _ _ => stake < 64 && chan < 64
  | .groupRelease _ => true
  | .groupTimeout _ => true
  | .groupAbort _ => true
  | .groupBreak _ => true
  | .loadGo => true
  | .loadComplete => true
  | .delete => true
  | .dlClr => true
  | .arm _ => true
  | .force _ => true
  | .traceCaptureEnd _ => true
  | .traceCopyDone _ => true
  | .axisStart _ => true
  | .axisStop _ => true
  | .axisStopComplete _ => true
  | .axsFltRead _ => true
  | .axsFltClr _ => true
  | .stoLineDrop => true
  | .catchWindowEnd _ => true
  | .polarityTest _ _ _ => true
  | .torqueEnable _ => true
  | .brakeRelease _ => true
  | .axisRun _ => true
  | .startTimeout _ => true
  | .feedbackDisagree _ => true
  | .i2tEmpty _ => true
  | .i2tRecover _ => true
  | .loadCellRange _ => true
  | .pressHoldEntry _ => true
  | .pressHoldRamp _ => true
  | .pressRetrim _ => true
  | .retrimForce _ => true
  | .pressReleased _ => true
  | .x60Loss _ => true
  | .x60Restore _ => true
  | .desaturation _ => true
  | .fastOvercurrent _ => true
  | .twoLegShort _ _ => true
  | .phaseOpen _ => true
  | .currentSenseLost _ => true
  | .toothEdge _ _ _ _ _ _ => true
  | .illegalTransition _ _ => true
  | .lineFault _ _ => true
  | .speedTimeout _ => true
  | .ssiWord _ _ _ _ _ => true
  | .refClr _ => true
  | .cmpArm _ => true
  | .cmpStop _ => true
  | .fifoClr _ => true
  | .hitThiRead _ => true
  | .passthroughResume => true
  | .safetyCycle _ => true
  | .discrepancyFault _ => true
  | .cat1Stop _ => true
  | .testPulse _ => true
  | .lineTest _ _ => true
  | .lineTestDue => true
  | .feedbackTimeout _ => true
  | .resetPress _ _ => true
  | .resetStuck => true
  | .safetySupplyLost => true
  | .hoCa => true
  | .hoCb => true
  | .upsettSilent _ _ => true
  | .degradedWarn => true
  | .degradedTimeExpire => true
  | .upsettSelfTestDone _ _ _ _ => true
  | .upsettRejoin _ => true
  | .activate => true
  | .pairingLaneLost _ _ => true
  | .pairingLinkLost _ => true
  | .joinBootDone _ _ => true
  | .bulkCopyDone => true
  | .stateCopyDone => true
  | .provingDone => true
  | .resync => true
  | .swap => true
  | .redFltRead => true
  | .fwAlignDone => true
  | .strobeMissing _ => true
  | .strobeDisagree _ => true
  | .oscillatorFail => true
  | .partnerRepair _ _ => true
  | .scrGo _ => true
  | .scrStop _ => true
  | .scrubComplete _ => true
  | .injGo _ => true
  | .cntClr _ => true
  | .dmaRst _ _ => true
  | .memoryInitDone _ _ => true
  | .powerUp => true
  | .powerDown => true
  | .controlSupplyChange _ _ => true
  | .bootComplete _ _ => true
  | .attOk => true
  | .attRej => true
  | .calDone => true
  | .calibrate => true
  | .hold => true
  | .resume => true
  | .service => true
  | .exitSvc => true
  | .stop => true
  | .recover => true
  | .stopCauseRead => true
  | .eventRelease => true
  | .timeMark => true
  | .rdValRead => true
  | .lostClr => true
  | .timeMessage _ => true
  | .lockTimeout => true
  | .freeRun => true
  | .ptpLoss => true
  | .linkHandshake _ x => x.all (fun y => y.digest.length == 48)
  | .weaveFrameReceive _ _ => true
  | .linkKeepalive _ => true
  | .linkTimeout _ _ => true
  | .rekey _ => true
  | .ackSend => true
  | .retransmit _ => true
  | .discover => true
  | .probe => true
  | .announce _ _ _ => true
  | .bind _ => true
  | .bindAck _ => true
  | .routingTables ta tb rep => ta.length == 64 && tb.length == 64 && rep.all (fun r => r.entries.length == 64)
  | .unbind _ => true
  | .linkDown _ _ _ => true
  | .remoteEvent _ _ => true
  | .heartbeat _ _ _ => true
  | .heartbeatTimeout => true
  | .rimTake => true
  | .sessionOpen _ key _ _ => key.length == 97
  | .sessionClose _ => true
  | .sessionIdleTimeout _ => true
  | .read _ _ _ _ _ => true
  | .write _ _ _ _ _ => true
  | .bulkRead _ _ _ _ _ => true
  | .bulkWrite _ _ _ _ _ => true
  | .streamRead _ _ _ _ _ => true
  | .rimMark _ _ _ _ _ => true
  | .rewind _ _ _ _ => true
  | .release _ _ _ _ _ => true
  | .ping _ _ => true
  | .reservedRimType _ _ => true
  | .canFrameReceive _ f => f.wf
  | .canTxDone _ _ _ _ => true
  | .canBusError _ _ => true
  | .canRecoveryReady _ => true
  | .canRecoveryDelay _ => true
  | .req _ _ => true
  | .abort _ _ _ => true
  | .objTimeout _ _ _ => true
  | .clashClr _ => true
  | .recReq _ => true
  | .canMode _ _ => true
  | .rateCandidateTimeout _ => true
  | .attGo => true
  | .quoteReady => true
  | .quoteRead _ => true
  | .enrGo _ => true
  | .enrolmentApply => true
  | .commissioningButton _ => true
  | .commissioningTimeout => true
  | .rkeyNew => true
  | .verRebuild => true
  | .fwPrefA => true
  | .fwPrefB => true
  | .qRestart _ => true
  | .qcauseRead => true
  | .fwlLastRead => true
  | .rel _ => true
  | .chunk => true
  | .chunkDone => true
  | .verify => true
  | .verifyDone => true
  | .restart => true
  | .latchRelease _ => true
  | .extractionLockOpen _ => true
  | .latchLocked _ => true
  | .lockReclose _ => true
  | .serviceKeyOpen _ => true
  | .cartridgeRemoved _ => true
  | .cartridgeInserted _ c => c.wf
  | .nodeVoltageRecovered _ => true
  | .cartridgePrechargeDone _ => true
  | .ovenLost => true
  | .certDueReached => true
  | .lineFaultCleared _ _ => true
  | .safetySupplyRestored => true
  | .linkDelayMeasurement _ _ => true
  | .rimTimeSend => true
  | .rimHeartbeatSend => true
  | .ptpMessage _ _ => true
  | .dataRateTimeout _ => true

end Sys2Proof
end

