-- ==== Sys2Proof/Safety.lean ====
section
/-! DEFINITION. What counts as a safe run of the bay, in the terms the statements use. -/

namespace Sys2Proof

open Sys2Proof.Machine

/-- The step answers a next state: no fault, no refusal. -/
def goesOn (r : Host.Outcome State Fault Refusal) : Bool :=
  match r with
  | .next _ => true
  | .fault _ => false
  | .refused _ => false

/-- The memories of both control cartridges stand in their canonical form. -/
def memoriesCanonical (s : State) : Prop := s.mem.wf = true

/-- Every command that waits is well formed. -/
def queueWellFormed (s : State) : Prop := s.pending.all Instr.wellFormed = true

/-- The command answers a next state in which the memories and the queue stand, and the bay holds `P`. -/
def completes (c : Instr) (s : State) (P : Bay → Prop) : Prop :=
  ∃ t, exec c s = .next t ∧ t.mem = s.mem ∧ t.pending = s.pending ∧ P t.bay

/-- Every register field but those listed holds what it held. -/
def keepsRegs (b b' : Bay) (l : List Key) : Prop := ∀ k, k ∉ l → b'.rd k = b.rd k

/-- Every register field outside the listed groups and unlike the listed fields holds what it held. -/
def keepsFields (b b' : Bay) (t : List Grp × List Key) : Prop :=
  ∀ k : Key, k.grp ∉ t.1 → k.loc ∉ t.2.map Key.loc → b'.rd k = b.rd k

/-- Engine c has the next turn and stands on word `w` of opcode `op`, in the last of its turns; where that is also its first, both cartridges read the word without error (R196, R204, R216). -/
def runsOn (s : State) (c op w : Nat) : Prop :=
  s.bay.turnDue c = true ∧ s.bay.fetch c = some w ∧ opOf w = op ∧ (s.bay.engOf c).part + 1 = turnsOf op ∧ s.fetchRead c = (s, false)

/-- Engine c has the next turn and stands on word `w` of opcode `op`, with more of its turns to come (R196). -/
def startsOn (s : State) (c op w : Nat) : Prop :=
  s.bay.turnDue c = true ∧ s.bay.fetch c = some w ∧ opOf w = op ∧ (s.bay.engOf c).part + 1 < turnsOf op ∧ s.fetchRead c = (s, false)

/-- The turn was only taken: the engine stays on its instruction with one turn less to go, and no register changes (R196). -/
def tookTurn (b b' : Bay) (c : Nat) : Prop := (b'.engOf c).part = (b.engOf c).part + 1 ∧ keepsRegs b b' []

/-- The same for an instruction that also reads word `i` of the image, with the access code `acc`. -/
def runsOn2 (s : State) (c op w i acc : Nat) : Prop := runsOn s c op w ∧ s.engRead c i acc = (s, false)

/-- A turn of engine c has moved its PC by `n` words and is counted (R196, R217). -/
def turned (b b' : Bay) (c : Nat) (n : Int) : Prop :=
  b'.rd (F.ENG_PC c) = b.rd (F.ENG_PC c) + n ∧ b'.rd (F.ENG_TURNS c) = (b.rd (F.ENG_TURNS c) + 1) % 4294967296

/-- Engine c is frozen with a cause and DETAIL (R204, R205). -/
def frozenBy (b : Bay) (c : Nat) (cause detail : Int) : Prop :=
  b.engState c = Es.frozen ∧ b.rd (F.ENG_FRZ_CAUSE c) = cause ∧ b.rd (F.ENG_FRZ_DETAIL c) = detail

/-- The registers a freeze of engine c may write (R205): its state, cause and DETAIL, and the donation it ends. -/
def frozenKeys (c : Nat) : List Key :=
  [F.ENG_STAT_STATE c, F.SKN_STAT_ACTIVE, F.ENG_FRZ_CAUSE c, F.ENG_FRZ_DETAIL c, F.ENG_STAT_CLR_ARMED c, F.ENG_DON c]

/-- B is the second operand of a Skein word, where it fits 32 bits (R218). -/
def secondOperand (b : Bay) (c w : Nat) (v : Int) : Prop :=
  (sOf w ≠ dOf w ∧ v = b.k c (sOf w) + sextOf w ∧ -2147483648 ≤ v ∧ v ≤ 2147483647) ∨ (sOf w = dOf w ∧ v = sextOf w)

/-- The flags Z, N and C of engine c (R220). -/
def flagsAre (b : Bay) (c : Nat) (z n carry : Bool) : Prop :=
  b.flag (F.ENG_STAT_Z c) = z ∧ b.flag (F.ENG_STAT_N c) = n ∧ b.flag (F.ENG_STAT_C c) = carry

/-- What a command may change in the register file: whole groups, and fields of the register tables (whichever member; the key names member 0): those its rules name, those of what follows from it in the same command, and EVT.STAT.LOST, which any event may raise. None for the commands that may change any register: a register write, an access of a session by its address, FRAME_EDGE, power-up and power-down, and a cartridge that comes or goes. -/
def touches (i : Instr) : Option (List Grp × List Key) :=
  match i with
  | .registerWrite _ _ => none
  | .frameEdge _ => none
  | .sampleFrameSend => some ([], [F.EVT_STAT_LOST, F.RED_FLT_CAUSE, F.RED_FLT_COUNT, F.RED_FLT_DETAIL, F.RED_FLT_SIDE])
  | .sampleFrameExchange _ _ _ => some ([.axs, .bay, .chn, .eis, .eisCh, .eng, .evt, .loop, .loopAx, .loopCh, .pwr, .red, .sec, .skn], [])
  | .commandFrameSend _ => some ([], [])
  | .commandFrameReceive _ _ _ => some ([], [F.BAY_STAT_CLR_ARMED, F.BAY_STOP_CAUSE_FIRST, F.BAY_STOP_CAUSE_MASK, F.CHN_ILIM 0, F.CHN_NODE_REF 0, F.CHN_REG_STAT_BORDER_OK 0, F.CHN_STG_STAT_CSW 0, F.CHN_STG_STAT_LIM 0, F.CHN_STG_STAT_PH_ACT 0, F.CHN_STG_STAT_SHED 0, F.CHN_STG_STAT_STAGE 0, F.EVT_STAT_LOST, F.RED_CLEAN, F.RED_FLT_CAUSE, F.RED_FLT_COUNT, F.RED_FLT_DETAIL, F.RED_FLT_SIDE, F.RED_SO_CNT, F.RED_SO_T, F.SEC_DON_P 0, F.SEC_GOV_F0 0, F.SEC_GOV_F1 0, F.SEC_GOV_F2 0, F.SEC_GOV_F3 0, F.SEC_STAT_CURT 0, F.SEC_STAT_DONATING 0])
  | .holderMiss _ => some ([], [F.BAY_STAT_CLR_ARMED, F.BAY_STOP_CAUSE_FIRST, F.BAY_STOP_CAUSE_MASK, F.CHN_ILIM 0, F.CHN_NODE_REF 0, F.CHN_REG_STAT_BORDER_OK 0, F.CHN_STG_STAT_CSW 0, F.CHN_STG_STAT_LIM 0, F.CHN_STG_STAT_PH_ACT 0, F.CHN_STG_STAT_SHED 0, F.CHN_STG_STAT_STAGE 0, F.EVT_STAT_LOST, F.RED_FLT_CAUSE, F.RED_FLT_COUNT, F.RED_FLT_DETAIL, F.RED_FLT_SIDE, F.RED_SO_CNT, F.RED_SO_T, F.SEC_DON_P 0, F.SEC_GOV_F0 0, F.SEC_GOV_F1 0, F.SEC_GOV_F2 0, F.SEC_GOV_F3 0, F.SEC_STAT_CURT 0, F.SEC_STAT_DONATING 0])
  | .computeDeadline _ => some ([.axs, .bay, .chn, .loop, .red], [F.EVT_STAT_LOST, F.LPA_XD 0, F.LPA_XQ 0, F.LPA_XS 0, F.LPC_XI 0, F.LPC_XV 0])
  | .commandFrameTimeout _ => some ([], [F.AXS_FLT_CAUSE 0, F.AXS_FLT_COUNT 0, F.AXS_FLT_SECOND 0, F.AXS_STAT_ASRC 0, F.AXS_STAT_BRK_ON 0, F.AXS_STAT_CLR_ARMED 0, F.AXS_STAT_FB_USED 0, F.AXS_STAT_REV_HELD 0, F.AXS_STAT_STATE 0, F.BAY_STAT_CLR_ARMED, F.BAY_STOP_CAUSE_FIRST, F.BAY_STOP_CAUSE_MASK, F.CHN_FLT_CAUSE 0, F.CHN_FLT_COUNT 0, F.CHN_FLT_DETAIL 0, F.CHN_FLT_SECOND 0, F.CHN_REC_FILL 0, F.CHN_REC_STAT_DROPPED 0, F.CHN_REC_STAT_FULL 0, F.CHN_REC_STAT_WARN 0, F.CHN_REG_STAT_CLR_ARMED 0, F.CHN_REG_STAT_HOLD_CAUSE 0, F.CHN_REG_STAT_MODE 0, F.CHN_REG_STAT_WATCH 0, F.CHN_STG_STAT_CLR_ARMED 0, F.EISCH_STAT_END 0, F.EISCH_STAT_PFLAGS 0, F.EISCH_STAT_RUN 0, F.EISCH_STAT_SETTLE 0, F.EIS_STAT_SWEEPING, F.EVT_STAT_LOST, F.SEC_FRAM_STAT_BUSY 0, F.SEC_FRAM_STAT_LOST 0, F.SEC_FRAM_STAT_QUEUED 0])
  | .msTick _ => some ([], [F.AXS_X60_IN 0, F.CHN_LEG_CNT 0, F.CHN_QUAL 0, F.CHN_REC_FILL 0, F.CHN_REC_STAT_DROPPED 0, F.CHN_REC_STAT_FULL 0, F.CHN_REC_STAT_LOST 0, F.CHN_REC_STAT_WARN 0, F.CHN_REG_STAT_CLR_ARMED 0, F.CHN_REG_STAT_HOLD_CAUSE 0, F.CHN_REG_STAT_LIM 0, F.CHN_REG_STAT_MODE 0, F.CHN_REG_STAT_QUALIFYING 0, F.CHN_REG_STAT_TO 0, F.CHN_REG_STAT_TOPOFF 0, F.CHN_REG_STAT_TRM 0, F.CHN_REG_STAT_WATCH 0, F.CHN_SFT 0, F.CHN_SFT_EXT 0, F.CHN_STEP_END_ALSO 0, F.CHN_STEP_END_CAUSE 0, F.CHN_TMR 0, F.EISCH_STAT_END 0, F.EISCH_STAT_PFLAGS 0, F.EISCH_STAT_RUN 0, F.EISCH_STAT_SETTLE 0, F.EIS_STAT_SWEEPING, F.ENG_PC 0, F.ENG_STAT_JOINED 0, F.ENG_STAT_STATE 0, F.ENG_STAT_Z 0, F.EVT_STAT_LOST, F.SKN_STAT_ACTIVE])
  | .termination _ => some ([], [F.CHN_REC_FILL 0, F.CHN_REC_STAT_DROPPED 0, F.CHN_REC_STAT_FULL 0, F.CHN_REC_STAT_WARN 0, F.CHN_REG_STAT_CLR_ARMED 0, F.CHN_REG_STAT_HOLD_CAUSE 0, F.CHN_REG_STAT_MODE 0, F.CHN_REG_STAT_QUALIFYING 0, F.CHN_REG_STAT_TO 0, F.CHN_REG_STAT_TOPOFF 0, F.CHN_REG_STAT_TRM 0, F.CHN_REG_STAT_WATCH 0, F.CHN_STEP_END_ALSO 0, F.CHN_STEP_END_CAUSE 0, F.EISCH_STAT_END 0, F.EISCH_STAT_PFLAGS 0, F.EISCH_STAT_RUN 0, F.EISCH_STAT_SETTLE 0, F.EIS_STAT_SWEEPING, F.EVT_STAT_LOST])
  | .safetyTimerExpire _ => some ([], [F.CHN_REC_FILL 0, F.CHN_REC_STAT_DROPPED 0, F.CHN_REC_STAT_FULL 0, F.CHN_REC_STAT_WARN 0, F.CHN_REG_STAT_CLR_ARMED 0, F.CHN_REG_STAT_HOLD_CAUSE 0, F.CHN_REG_STAT_MODE 0, F.CHN_REG_STAT_QUALIFYING 0, F.CHN_REG_STAT_TO 0, F.CHN_REG_STAT_TOPOFF 0, F.CHN_REG_STAT_TRM 0, F.CHN_REG_STAT_WATCH 0, F.CHN_STEP_END_ALSO 0, F.CHN_STEP_END_CAUSE 0, F.EISCH_STAT_END 0, F.EISCH_STAT_PFLAGS 0, F.EISCH_STAT_RUN 0, F.EISCH_STAT_SETTLE 0, F.EIS_STAT_SWEEPING, F.EVT_STAT_LOST])
  | .stepTimeExpire _ => some ([], [F.CHN_REC_FILL 0, F.CHN_REC_STAT_DROPPED 0, F.CHN_REC_STAT_FULL 0, F.CHN_REC_STAT_WARN 0, F.CHN_REG_STAT_CLR_ARMED 0, F.CHN_REG_STAT_HOLD_CAUSE 0, F.CHN_REG_STAT_MODE 0, F.CHN_REG_STAT_QUALIFYING 0, F.CHN_REG_STAT_TO 0, F.CHN_REG_STAT_TOPOFF 0, F.CHN_REG_STAT_TRM 0, F.CHN_REG_STAT_WATCH 0, F.CHN_STEP_END_ALSO 0, F.CHN_STEP_END_CAUSE 0, F.EISCH_STAT_END 0, F.EISCH_STAT_PFLAGS 0, F.EISCH_STAT_RUN 0, F.EISCH_STAT_SETTLE 0, F.EIS_STAT_SWEEPING, F.EVT_STAT_LOST])
  | .pulseLevelChange _ => some ([], [])
  | .zoneChange _ => some ([], [F.CHN_QUAL 0, F.CHN_REC_FILL 0, F.CHN_REC_STAT_DROPPED 0, F.CHN_REC_STAT_FULL 0, F.CHN_REC_STAT_WARN 0, F.CHN_REG_STAT_CLR_ARMED 0, F.CHN_REG_STAT_HOLD_CAUSE 0, F.CHN_REG_STAT_MODE 0, F.CHN_REG_STAT_QUALIFYING 0, F.CHN_REG_STAT_TO 0, F.CHN_REG_STAT_TOPOFF 0, F.CHN_REG_STAT_TRM 0, F.CHN_REG_STAT_WATCH 0, F.CHN_REG_STAT_ZONE 0, F.CHN_STEP_END_ALSO 0, F.CHN_STEP_END_CAUSE 0, F.EISCH_STAT_END 0, F.EISCH_STAT_PFLAGS 0, F.EISCH_STAT_RUN 0, F.EISCH_STAT_SETTLE 0, F.EIS_STAT_SWEEPING, F.ENG_FRZ_CAUSE 0, F.ENG_FRZ_DETAIL 0, F.ENG_STAT_CLR_ARMED 0, F.ENG_STAT_STATE 0, F.EVT_STAT_LOST, F.SKN_STAT_ACTIVE])
  | .topoffEnd _ => some ([], [F.CHN_REC_FILL 0, F.CHN_REC_STAT_DROPPED 0, F.CHN_REC_STAT_FULL 0, F.CHN_REC_STAT_WARN 0, F.CHN_REG_STAT_CLR_ARMED 0, F.CHN_REG_STAT_HOLD_CAUSE 0, F.CHN_REG_STAT_MODE 0, F.CHN_REG_STAT_QUALIFYING 0, F.CHN_REG_STAT_TOPOFF 0, F.CHN_REG_STAT_WATCH 0, F.CHN_STEP_END_ALSO 0, F.CHN_STEP_END_CAUSE 0, F.EISCH_STAT_END 0, F.EISCH_STAT_PFLAGS 0, F.EISCH_STAT_RUN 0, F.EISCH_STAT_SETTLE 0, F.EIS_STAT_SWEEPING, F.EVT_STAT_LOST])
  | .legacyRecharge _ => some ([], [F.CHN_LEG_CNT 0, F.CHN_QUAL 0, F.CHN_REC_FILL 0, F.CHN_REC_STAT_DROPPED 0, F.CHN_REC_STAT_FULL 0, F.CHN_REC_STAT_LOST 0, F.CHN_REC_STAT_WARN 0, F.CHN_REG_STAT_HOLD_CAUSE 0, F.CHN_REG_STAT_LIM 0, F.CHN_REG_STAT_MODE 0, F.CHN_REG_STAT_TO 0, F.CHN_REG_STAT_TRM 0, F.CHN_REG_STAT_WATCH 0, F.CHN_SFT 0, F.CHN_SFT_EXT 0, F.CHN_TMR 0, F.EVT_STAT_LOST])
  | .intervalClose => some ([], [F.CHN_REC_FILL 0, F.CHN_REC_STAT_DROPPED 0, F.CHN_REC_STAT_FULL 0, F.CHN_REC_STAT_LOST 0, F.CHN_REC_STAT_WARN 0, F.EVT_STAT_LOST])
  | .sealTrigger _ => some ([], [F.CHN_REC_FILL 0, F.CHN_REC_STAT_FULL 0, F.CHN_REC_STAT_WARN 0, F.EVT_STAT_LOST])
  | .sealWritten _ _ => some ([], [F.BAY_STAT_CLR_ARMED, F.BAY_STOP_CAUSE_FIRST, F.BAY_STOP_CAUSE_MASK, F.EVT_STAT_LOST, F.RED_FLT_CAUSE, F.RED_FLT_COUNT, F.RED_FLT_DETAIL, F.RED_FLT_SIDE, F.RED_STAT_ROLE_CA, F.RED_STAT_ROLE_CB, F.RED_STAT_SYNC, F.TRU_QCAUSE_MASK, F.TRU_STAT_CLR_ARMED, F.TRU_STAT_SE_CA_OK, F.TRU_STAT_SE_CB_OK])
  | .ringNearFull _ => some ([], [F.CHN_REC_FILL 0, F.CHN_REC_STAT_DROPPED 0, F.CHN_REC_STAT_FULL 0, F.CHN_REC_STAT_WARN 0, F.CHN_REG_STAT_CLR_ARMED 0, F.CHN_REG_STAT_HOLD_CAUSE 0, F.CHN_REG_STAT_MODE 0, F.CHN_REG_STAT_WATCH 0, F.EISCH_STAT_END 0, F.EISCH_STAT_PFLAGS 0, F.EISCH_STAT_RUN 0, F.EISCH_STAT_SETTLE 0, F.EIS_STAT_SWEEPING, F.EVT_STAT_LOST])
  | .ringFull _ => some ([], [])
  | .ringSpaceReturn _ => some ([], [F.CHN_REC_FILL 0, F.CHN_REC_STAT_DROPPED 0, F.CHN_REC_STAT_FULL 0, F.CHN_REC_STAT_WARN 0, F.CHN_REG_STAT_CLR_ARMED 0, F.CHN_REG_STAT_HOLD_CAUSE 0, F.CHN_REG_STAT_MODE 0, F.CHN_REG_STAT_WATCH 0, F.EISCH_STAT_END 0, F.EISCH_STAT_PFLAGS 0, F.EISCH_STAT_RUN 0, F.EISCH_STAT_SETTLE 0, F.EIS_STAT_SWEEPING, F.EVT_STAT_LOST, F.SEC_STAT_STATE 0])
  | .cellEnd _ => some ([], [F.CHN_CELL_ID 0, F.CHN_REC_FILL 0, F.CHN_REC_STAT_DROPPED 0, F.CHN_REC_STAT_FULL 0, F.CHN_REC_STAT_LOST 0, F.CHN_REC_STAT_WARN 0, F.CHN_REG_STAT_CELL 0, F.EVT_STAT_LOST])
  | .holdClr _ => some ([], [F.CHN_REC_FILL 0, F.CHN_REC_STAT_DROPPED 0, F.CHN_REC_STAT_FULL 0, F.CHN_REC_STAT_WARN 0, F.CHN_REG_STAT_CLR_ARMED 0, F.CHN_REG_STAT_HOLD_CAUSE 0, F.CHN_REG_STAT_MODE 0, F.CHN_REG_STAT_WATCH 0, F.EISCH_STAT_END 0, F.EISCH_STAT_PFLAGS 0, F.EISCH_STAT_RUN 0, F.EISCH_STAT_SETTLE 0, F.EIS_STAT_SWEEPING, F.EVT_STAT_LOST])
  | .regStatRead _ => some ([], [F.CHN_REG_STAT_CLR_ARMED 0])
  | .temperatureSample _ _ _ => some ([.axs, .bay, .chn, .eis, .eisCh, .evt, .pwr, .red, .sec, .thm], [])
  | .sensorRateSlow _ => some ([], [F.THM_STAT_FAST])
  | .flowLoss => some ([], [F.AXS_STAT_STATE 0, F.BAY_STAT_CLR_ARMED, F.BAY_STAT_HOLD_RT, F.BAY_STOP_CAUSE_FIRST, F.BAY_STOP_CAUSE_MASK, F.CHN_REC_FILL 0, F.CHN_REC_STAT_DROPPED 0, F.CHN_REC_STAT_FULL 0, F.CHN_REC_STAT_WARN 0, F.CHN_REG_STAT_CLR_ARMED 0, F.CHN_REG_STAT_HOLD_CAUSE 0, F.CHN_REG_STAT_MODE 0, F.CHN_REG_STAT_WATCH 0, F.EISCH_STAT_END 0, F.EISCH_STAT_PFLAGS 0, F.EISCH_STAT_RUN 0, F.EISCH_STAT_SETTLE 0, F.EIS_STAT_SWEEPING, F.EVT_STAT_LOST, F.PWR_ENTRY_STAT_CAUSE, F.PWR_ENTRY_STAT_STATE, F.PWR_RT_TIME, F.SEC_STAT_DIR 0, F.THM_STAT_CLR_ARMED, F.THM_STAT_NEXT, F.THM_STAT_TSD, F.THM_TSD_CAUSE, F.THM_TSD_SENSOR, F.THM_TSD_SLOT])
  | .compensationUpdate => some ([], [F.EVT_STAT_LOST, F.THM_STAT_COMP_FRZ])
  | .tsdRead => some ([], [F.THM_STAT_CLR_ARMED])
  | .tsdClr => some ([], [F.EVT_STAT_LOST, F.THM_STAT_CLR_ARMED, F.THM_STAT_TSD])
  | .x1Low _ => some ([], [F.EVT_STAT_LOST, F.PWR_ENTRY_STAT_X1_LOW, F.PWR_X1_V])
  | .plantBusLoss _ => some ([], [F.BAY_STAT_CLR_ARMED, F.BAY_STAT_HOLD_RT, F.BAY_STOP_CAUSE_FIRST, F.BAY_STOP_CAUSE_MASK, F.CHN_REC_FILL 0, F.CHN_REC_STAT_DROPPED 0, F.CHN_REC_STAT_FULL 0, F.CHN_REC_STAT_WARN 0, F.CHN_REG_STAT_CLR_ARMED 0, F.CHN_REG_STAT_HOLD_CAUSE 0, F.CHN_REG_STAT_MODE 0, F.CHN_REG_STAT_WATCH 0, F.EISCH_STAT_END 0, F.EISCH_STAT_PFLAGS 0, F.EISCH_STAT_RUN 0, F.EISCH_STAT_SETTLE 0, F.EIS_STAT_SWEEPING, F.ENG_STAT_STATE 0, F.EVT_STAT_LOST, F.PWR_ENTRY_STAT_CAUSE, F.PWR_ENTRY_STAT_STATE, F.PWR_ENTRY_STAT_X1_LOW, F.PWR_RT_TIME, F.PWR_X1_I, F.PWR_X1_V, F.SEC_STAT_DIR 0, F.SKN_STAT_ACTIVE])
  | .x1Overvoltage _ => some ([], [F.BAY_STAT_CLR_ARMED, F.BAY_STAT_HOLD_RT, F.BAY_STOP_CAUSE_FIRST, F.BAY_STOP_CAUSE_MASK, F.CHN_REC_FILL 0, F.CHN_REC_STAT_DROPPED 0, F.CHN_REC_STAT_FULL 0, F.CHN_REC_STAT_WARN 0, F.CHN_REG_STAT_CLR_ARMED 0, F.CHN_REG_STAT_HOLD_CAUSE 0, F.CHN_REG_STAT_MODE 0, F.CHN_REG_STAT_WATCH 0, F.EISCH_STAT_END 0, F.EISCH_STAT_PFLAGS 0, F.EISCH_STAT_RUN 0, F.EISCH_STAT_SETTLE 0, F.EIS_STAT_SWEEPING, F.ENG_STAT_STATE 0, F.EVT_STAT_LOST, F.PWR_ENTRY_STAT_CAUSE, F.PWR_ENTRY_STAT_STATE, F.PWR_RT_TIME, F.PWR_X1_I, F.PWR_X1_V, F.SEC_STAT_DIR 0, F.SKN_STAT_ACTIVE])
  | .x1Overcurrent _ => some ([], [F.BAY_STAT_CLR_ARMED, F.BAY_STAT_HOLD_RT, F.BAY_STOP_CAUSE_FIRST, F.BAY_STOP_CAUSE_MASK, F.CHN_REC_FILL 0, F.CHN_REC_STAT_DROPPED 0, F.CHN_REC_STAT_FULL 0, F.CHN_REC_STAT_WARN 0, F.CHN_REG_STAT_CLR_ARMED 0, F.CHN_REG_STAT_HOLD_CAUSE 0, F.CHN_REG_STAT_MODE 0, F.CHN_REG_STAT_WATCH 0, F.EISCH_STAT_END 0, F.EISCH_STAT_PFLAGS 0, F.EISCH_STAT_RUN 0, F.EISCH_STAT_SETTLE 0, F.EIS_STAT_SWEEPING, F.ENG_STAT_STATE 0, F.EVT_STAT_LOST, F.PWR_ENTRY_STAT_CAUSE, F.PWR_ENTRY_STAT_STATE, F.PWR_RT_TIME, F.PWR_X1_I, F.SEC_STAT_DIR 0, F.SKN_STAT_ACTIVE])
  | .contactorMismatch => some ([], [F.EVT_STAT_LOST, F.PWR_ENTRY_STAT_CAUSE, F.PWR_ENTRY_STAT_STATE])
  | .connect => some ([], [F.EVT_STAT_LOST, F.PWR_ENTRY_STAT_STATE])
  | .lockoutExpire => some ([], [F.PWR_ENTRY_STAT_STATE])
  | .prechargeDone _ => some ([], [F.PWR_NODE_V])
  | .contactorConfirmed => some ([], [F.PWR_ENTRY_STAT_STATE])
  | .prechargeTimeout => some ([], [F.EVT_STAT_LOST, F.PWR_ENTRY_STAT_CAUSE, F.PWR_ENTRY_STAT_STATE])
  | .openEntry => some ([], [F.BAY_STAT_CLR_ARMED, F.BAY_STAT_HOLD_RT, F.BAY_STOP_CAUSE_FIRST, F.BAY_STOP_CAUSE_MASK, F.CHN_REC_FILL 0, F.CHN_REC_STAT_DROPPED 0, F.CHN_REC_STAT_FULL 0, F.CHN_REC_STAT_WARN 0, F.CHN_REG_STAT_CLR_ARMED 0, F.CHN_REG_STAT_HOLD_CAUSE 0, F.CHN_REG_STAT_MODE 0, F.CHN_REG_STAT_QUALIFYING 0, F.CHN_REG_STAT_TOPOFF 0, F.CHN_REG_STAT_WATCH 0, F.CHN_STEP_END_ALSO 0, F.CHN_STEP_END_CAUSE 0, F.EISCH_STAT_END 0, F.EISCH_STAT_PFLAGS 0, F.EISCH_STAT_RUN 0, F.EISCH_STAT_SETTLE 0, F.EIS_STAT_SWEEPING, F.ENG_DON 0, F.ENG_STAT_END 0, F.ENG_STAT_JOINED 0, F.ENG_STAT_STATE 0, F.EVT_STAT_LOST, F.PWR_ENTRY_STAT_CAUSE, F.PWR_ENTRY_STAT_STATE, F.PWR_RT_TIME, F.SEC_STAT_DIR 0, F.SKN_STAT_ACTIVE])
  | .plannedDisconnectDone => some ([], [F.EVT_STAT_LOST, F.PWR_ENTRY_STAT_CAUSE, F.PWR_ENTRY_STAT_STATE])
  | .nodeOvervoltage _ => some ([], [F.EVT_STAT_LOST, F.PWR_AXBUS_RETURN, F.PWR_NODE_V, F.SEC_STAT_DIR 0])
  | .sectionBusOvervoltage _ _ => some ([], [F.EVT_STAT_LOST, F.SEC_BUS_V 0, F.SEC_FRAM_STAT_BUSY 0, F.SEC_FRAM_STAT_LOST 0, F.SEC_FRAM_STAT_QUEUED 0, F.SEC_STAT_STATE 0])
  | .overloadBudgetEmpty _ => some ([], [F.EVT_STAT_LOST, F.SEC_STAT_CAP_CONT 0])
  | .overloadBudgetRefilled _ => some ([], [F.EVT_STAT_LOST, F.SEC_STAT_CAP_CONT 0])
  | .drain _ => some ([], [F.EVT_STAT_LOST, F.SEC_STAT_STATE 0])
  | .drainComplete _ => some ([], [F.EVT_STAT_LOST, F.SEC_STAT_STATE 0])
  | .run _ => some ([], [F.EVT_STAT_LOST])
  | .axisBusReturn _ => some ([], [F.PWR_AXBUS_AXV, F.PWR_AXBUS_RETURN])
  | .brakeChopperSwitch _ => some ([], [F.PWR_AXBUS_AXV, F.PWR_AXBUS_CHOP_ON])
  | .axisBusOvervoltage _ => some ([], [F.AXS_FLT_CAUSE 0, F.AXS_FLT_COUNT 0, F.AXS_FLT_SECOND 0, F.AXS_STAT_ASRC 0, F.AXS_STAT_BRK_ON 0, F.AXS_STAT_CLR_ARMED 0, F.AXS_STAT_FB_USED 0, F.AXS_STAT_REV_HELD 0, F.AXS_STAT_STATE 0, F.EVT_STAT_LOST, F.PWR_AXBUS_AXV])
  | .axisBusUndervoltage _ => some ([], [F.AXS_FLT_CAUSE 0, F.AXS_FLT_COUNT 0, F.AXS_FLT_SECOND 0, F.AXS_STAT_ASRC 0, F.AXS_STAT_BRK_ON 0, F.AXS_STAT_CLR_ARMED 0, F.AXS_STAT_FB_USED 0, F.AXS_STAT_REV_HELD 0, F.AXS_STAT_STATE 0, F.EVT_STAT_LOST, F.PWR_AXBUS_AXV])
  | .chopperFault _ => some ([], [F.AXS_FLT_CAUSE 0, F.AXS_FLT_COUNT 0, F.AXS_FLT_SECOND 0, F.AXS_STAT_ASRC 0, F.AXS_STAT_BRK_ON 0, F.AXS_STAT_CLR_ARMED 0, F.AXS_STAT_FB_USED 0, F.AXS_STAT_REV_HELD 0, F.AXS_STAT_STATE 0, F.EVT_STAT_LOST, F.PWR_AXBUS_CHOP_FLT, F.PWR_AXBUS_CHOP_ON])
  | .chopperTestStart => some ([], [F.PWR_AXBUS_CHOP_ON])
  | .chopperTestPhase _ => some ([], [F.PWR_AXBUS_CHOP_ON])
  | .chopperTestResult _ => some ([], [F.AXS_FLT_CAUSE 0, F.AXS_FLT_COUNT 0, F.AXS_FLT_SECOND 0, F.AXS_STAT_ASRC 0, F.AXS_STAT_BRK_ON 0, F.AXS_STAT_CLR_ARMED 0, F.AXS_STAT_FB_USED 0, F.AXS_STAT_REV_HELD 0, F.AXS_STAT_STATE 0, F.EVT_STAT_LOST, F.PWR_AXBUS_CHOP_FLT, F.PWR_AXBUS_CHOP_ON])
  | .donorLost _ => some ([], [F.BAY_STAT_CLR_ARMED, F.BAY_STAT_HOLD_RT, F.BAY_STOP_CAUSE_FIRST, F.BAY_STOP_CAUSE_MASK, F.CHN_REC_FILL 0, F.CHN_REC_STAT_DROPPED 0, F.CHN_REC_STAT_FULL 0, F.CHN_REC_STAT_WARN 0, F.CHN_REG_STAT_CLR_ARMED 0, F.CHN_REG_STAT_HOLD_CAUSE 0, F.CHN_REG_STAT_MODE 0, F.CHN_REG_STAT_WATCH 0, F.EISCH_STAT_END 0, F.EISCH_STAT_PFLAGS 0, F.EISCH_STAT_RUN 0, F.EISCH_STAT_SETTLE 0, F.EIS_STAT_SWEEPING, F.EVT_STAT_LOST, F.PWR_ENTRY_STAT_CAUSE, F.PWR_ENTRY_STAT_STATE, F.PWR_RT_TIME, F.SEC_STAT_DIR 0])
  | .rideThroughTimeout => some ([], [F.BAY_STAT_CLR_ARMED, F.BAY_STAT_HOLD_RT, F.BAY_STOP_CAUSE_FIRST, F.BAY_STOP_CAUSE_MASK, F.CHN_REC_FILL 0, F.CHN_REC_STAT_DROPPED 0, F.CHN_REC_STAT_FULL 0, F.CHN_REC_STAT_WARN 0, F.CHN_REG_STAT_CLR_ARMED 0, F.CHN_REG_STAT_HOLD_CAUSE 0, F.CHN_REG_STAT_MODE 0, F.CHN_REG_STAT_WATCH 0, F.EISCH_STAT_END 0, F.EISCH_STAT_PFLAGS 0, F.EISCH_STAT_RUN 0, F.EISCH_STAT_SETTLE 0, F.EIS_STAT_SWEEPING, F.EVT_STAT_LOST, F.PWR_ENTRY_STAT_CAUSE, F.PWR_ENTRY_STAT_STATE, F.PWR_RT_TIME, F.SEC_STAT_DIR 0])
  | .rideThroughNodeLow _ => some ([], [F.BAY_STAT_CLR_ARMED, F.BAY_STAT_HOLD_RT, F.BAY_STOP_CAUSE_FIRST, F.BAY_STOP_CAUSE_MASK, F.CHN_REC_FILL 0, F.CHN_REC_STAT_DROPPED 0, F.CHN_REC_STAT_FULL 0, F.CHN_REC_STAT_WARN 0, F.CHN_REG_STAT_CLR_ARMED 0, F.CHN_REG_STAT_HOLD_CAUSE 0, F.CHN_REG_STAT_MODE 0, F.CHN_REG_STAT_WATCH 0, F.EISCH_STAT_END 0, F.EISCH_STAT_PFLAGS 0, F.EISCH_STAT_RUN 0, F.EISCH_STAT_SETTLE 0, F.EIS_STAT_SWEEPING, F.EVT_STAT_LOST, F.PWR_ENTRY_STAT_CAUSE, F.PWR_ENTRY_STAT_STATE, F.PWR_NODE_V, F.PWR_RT_TIME, F.SEC_STAT_DIR 0])
  | .plantBusReturn _ => some ([], [F.BAY_STAT_HOLD_RT, F.CHN_REC_FILL 0, F.CHN_REC_STAT_DROPPED 0, F.CHN_REC_STAT_FULL 0, F.CHN_REC_STAT_WARN 0, F.CHN_REG_STAT_CLR_ARMED 0, F.CHN_REG_STAT_HOLD_CAUSE 0, F.CHN_REG_STAT_MODE 0, F.CHN_REG_STAT_WATCH 0, F.EISCH_STAT_END 0, F.EISCH_STAT_PFLAGS 0, F.EISCH_STAT_RUN 0, F.EISCH_STAT_SETTLE 0, F.EIS_STAT_SWEEPING, F.ENG_EVT_VAL 0, F.ENG_PC 0, F.ENG_STAT_JOINED 0, F.ENG_STAT_STATE 0, F.EVT_STAT_LOST, F.PWR_ENTRY_STAT_STATE, F.PWR_NODE_V, F.PWR_RT_TIME, F.SEC_STAT_DIR 0, F.SKN_STAT_ACTIVE])
  | .peakLimit _ => some ([], [])
  | .peakLimitPersistent _ _ => some ([], [F.CHN_FLT_CAUSE 0, F.CHN_FLT_COUNT 0, F.CHN_FLT_DETAIL 0, F.CHN_FLT_SECOND 0, F.CHN_REC_FILL 0, F.CHN_REC_STAT_DROPPED 0, F.CHN_REC_STAT_FULL 0, F.CHN_REC_STAT_WARN 0, F.CHN_STG_STAT_CLR_ARMED 0, F.EVT_STAT_LOST, F.SEC_FRAM_STAT_BUSY 0, F.SEC_FRAM_STAT_LOST 0, F.SEC_FRAM_STAT_QUEUED 0])
  | .rpathUpdate _ _ => some ([], [F.CHN_FLT_CAUSE 0, F.CHN_FLT_COUNT 0, F.CHN_FLT_DETAIL 0, F.CHN_FLT_SECOND 0, F.CHN_REC_FILL 0, F.CHN_REC_STAT_DROPPED 0, F.CHN_REC_STAT_FULL 0, F.CHN_REC_STAT_WARN 0, F.CHN_RPATH 0, F.CHN_STG_STAT_CLR_ARMED 0, F.EVT_STAT_LOST, F.SEC_FRAM_STAT_BUSY 0, F.SEC_FRAM_STAT_LOST 0, F.SEC_FRAM_STAT_QUEUED 0])
  | .channelShed _ => some ([], [F.CHN_STG_STAT_PH_ACT 0, F.CHN_STG_STAT_SHED 0])
  | .phaseReinstate _ _ => some ([], [F.CHN_STG_STAT_PH_ACT 0, F.CHN_STG_STAT_SHED 0])
  | .allPhaseFire _ => some ([], [F.CHN_AFIRE_CNT 0, F.CHN_NODE_V 0, F.CHN_STG_STAT_PH_ACT 0, F.CHN_STG_STAT_SHED 0])
  | .cellSwitchClosed _ _ => some ([], [F.CHN_NODE_V 0, F.CHN_REC_FILL 0, F.CHN_REC_STAT_DROPPED 0, F.CHN_REC_STAT_FULL 0, F.CHN_REC_STAT_WARN 0, F.CHN_REG_STAT_CELL 0, F.CHN_STG_STAT_CSW 0, F.CHN_STG_STAT_SHED 0, F.CHN_STG_STAT_STAGE 0, F.EVT_STAT_LOST])
  | .prebiasTimeout _ => some ([], [F.CHN_FLT_CAUSE 0, F.CHN_FLT_COUNT 0, F.CHN_FLT_DETAIL 0, F.CHN_FLT_SECOND 0, F.CHN_REC_FILL 0, F.CHN_REC_STAT_DROPPED 0, F.CHN_REC_STAT_FULL 0, F.CHN_REC_STAT_WARN 0, F.CHN_REG_STAT_BORDER_OK 0, F.CHN_STG_STAT_CLR_ARMED 0, F.CHN_STG_STAT_CSW 0, F.CHN_STG_STAT_PH_ACT 0, F.CHN_STG_STAT_SHED 0, F.CHN_STG_STAT_STAGE 0, F.EVT_STAT_LOST, F.SEC_FRAM_STAT_BUSY 0, F.SEC_FRAM_STAT_LOST 0, F.SEC_FRAM_STAT_QUEUED 0])
  | .softStopComplete _ => some ([], [F.CHN_REG_STAT_BORDER_OK 0, F.CHN_STG_STAT_CSW 0, F.CHN_STG_STAT_PH_ACT 0, F.CHN_STG_STAT_SHED 0, F.CHN_STG_STAT_STAGE 0])
  | .overvoltageLatch _ _ _ => some ([], [F.CHN_FLT_CAUSE 0, F.CHN_FLT_COUNT 0, F.CHN_FLT_DETAIL 0, F.CHN_FLT_SECOND 0, F.CHN_NODE_V 0, F.CHN_REC_FILL 0, F.CHN_REC_STAT_DROPPED 0, F.CHN_REC_STAT_FULL 0, F.CHN_REC_STAT_WARN 0, F.CHN_REG_STAT_BORDER_OK 0, F.CHN_STG_STAT_CLR_ARMED 0, F.CHN_STG_STAT_CSW 0, F.CHN_STG_STAT_PH_ACT 0, F.CHN_STG_STAT_SHED 0, F.CHN_STG_STAT_STAGE 0, F.EISCH_STAT_END 0, F.EISCH_STAT_PFLAGS 0, F.EISCH_STAT_RUN 0, F.EISCH_STAT_SETTLE 0, F.EIS_STAT_SWEEPING, F.EVT_STAT_LOST, F.SEC_FRAM_STAT_BUSY 0, F.SEC_FRAM_STAT_LOST 0, F.SEC_FRAM_STAT_QUEUED 0])
  | .fltRead _ => some ([], [F.CHN_STG_STAT_CLR_ARMED 0])
  | .ovClr _ => some ([], [F.CHN_FLT_CAUSE 0, F.CHN_FLT_COUNT 0, F.CHN_FLT_DETAIL 0, F.CHN_FLT_SECOND 0, F.CHN_REC_FILL 0, F.CHN_REC_STAT_DROPPED 0, F.CHN_REC_STAT_FULL 0, F.CHN_REC_STAT_WARN 0, F.CHN_REG_STAT_BORDER_OK 0, F.CHN_STG_STAT_CLR_ARMED 0, F.CHN_STG_STAT_CSW 0, F.CHN_STG_STAT_PH_ACT 0, F.CHN_STG_STAT_PH_OK 0, F.CHN_STG_STAT_SHED 0, F.CHN_STG_STAT_STAGE 0, F.EVT_STAT_LOST, F.SEC_FRAM_STAT_BUSY 0, F.SEC_FRAM_STAT_LOST 0, F.SEC_FRAM_STAT_QUEUED 0])
  | .cellAbsent _ _ => some ([], [F.CHN_FLT_CAUSE 0, F.CHN_FLT_COUNT 0, F.CHN_FLT_DETAIL 0, F.CHN_FLT_SECOND 0, F.CHN_REC_FILL 0, F.CHN_REC_STAT_DROPPED 0, F.CHN_REC_STAT_FULL 0, F.CHN_REC_STAT_WARN 0, F.CHN_REG_STAT_BORDER_OK 0, F.CHN_REG_STAT_TOPOFF 0, F.CHN_REG_STAT_WATCH 0, F.CHN_STG_STAT_CLR_ARMED 0, F.CHN_STG_STAT_CSW 0, F.CHN_STG_STAT_PH_ACT 0, F.CHN_STG_STAT_SHED 0, F.CHN_STG_STAT_STAGE 0, F.EISCH_STAT_END 0, F.EISCH_STAT_PFLAGS 0, F.EISCH_STAT_RUN 0, F.EISCH_STAT_SETTLE 0, F.EIS_STAT_SWEEPING, F.EVT_STAT_LOST, F.SEC_FRAM_STAT_BUSY 0, F.SEC_FRAM_STAT_LOST 0, F.SEC_FRAM_STAT_QUEUED 0])
  | .crowbarEnd _ => some ([], [])
  | .absClr _ => some ([], [F.CHN_FLT_CAUSE 0, F.CHN_FLT_COUNT 0, F.CHN_FLT_DETAIL 0, F.CHN_FLT_SECOND 0, F.CHN_REC_FILL 0, F.CHN_REC_STAT_DROPPED 0, F.CHN_REC_STAT_FULL 0, F.CHN_REC_STAT_WARN 0, F.CHN_REG_STAT_BORDER_OK 0, F.CHN_STG_STAT_CLR_ARMED 0, F.CHN_STG_STAT_CSW 0, F.CHN_STG_STAT_PH_ACT 0, F.CHN_STG_STAT_PH_OK 0, F.CHN_STG_STAT_SHED 0, F.CHN_STG_STAT_STAGE 0, F.EVT_STAT_LOST, F.SEC_FRAM_STAT_BUSY 0, F.SEC_FRAM_STAT_LOST 0, F.SEC_FRAM_STAT_QUEUED 0])
  | .phaseOutOfService _ _ _ => some ([], [F.CHN_FLT_CAUSE 0, F.CHN_FLT_COUNT 0, F.CHN_FLT_DETAIL 0, F.CHN_FLT_SECOND 0, F.CHN_ILIM 0, F.CHN_NODE_REF 0, F.CHN_REC_FILL 0, F.CHN_REC_STAT_DROPPED 0, F.CHN_REC_STAT_FULL 0, F.CHN_REC_STAT_WARN 0, F.CHN_REG_STAT_BORDER_OK 0, F.CHN_STG_STAT_CLR_ARMED 0, F.CHN_STG_STAT_CSW 0, F.CHN_STG_STAT_LIM 0, F.CHN_STG_STAT_PH_ACT 0, F.CHN_STG_STAT_PH_OK 0, F.CHN_STG_STAT_SHED 0, F.CHN_STG_STAT_STAGE 0, F.CHN_TRIM_P0 0, F.CHN_TRIM_P1 0, F.CHN_TRIM_P2 0, F.CHN_TRIM_P3 0, F.EISCH_STAT_END 0, F.EISCH_STAT_PFLAGS 0, F.EISCH_STAT_RUN 0, F.EISCH_STAT_SETTLE 0, F.EIS_STAT_SWEEPING, F.EVT_STAT_LOST, F.SEC_FRAM_STAT_BUSY 0, F.SEC_FRAM_STAT_LOST 0, F.SEC_FRAM_STAT_QUEUED 0])
  | .phClr _ => some ([], [F.CHN_FLT_CAUSE 0, F.CHN_FLT_COUNT 0, F.CHN_FLT_DETAIL 0, F.CHN_FLT_SECOND 0, F.CHN_REC_FILL 0, F.CHN_REC_STAT_DROPPED 0, F.CHN_REC_STAT_FULL 0, F.CHN_REC_STAT_WARN 0, F.CHN_REG_STAT_BORDER_OK 0, F.CHN_STG_STAT_CLR_ARMED 0, F.CHN_STG_STAT_CSW 0, F.CHN_STG_STAT_PH_ACT 0, F.CHN_STG_STAT_PH_OK 0, F.CHN_STG_STAT_SHED 0, F.CHN_STG_STAT_STAGE 0, F.EVT_STAT_LOST, F.SEC_FRAM_STAT_BUSY 0, F.SEC_FRAM_STAT_LOST 0, F.SEC_FRAM_STAT_QUEUED 0])
  | .fltClr _ => some ([], [F.CHN_FLT_CAUSE 0, F.CHN_FLT_COUNT 0, F.CHN_FLT_DETAIL 0, F.CHN_FLT_SECOND 0, F.CHN_REC_FILL 0, F.CHN_REC_STAT_DROPPED 0, F.CHN_REC_STAT_FULL 0, F.CHN_REC_STAT_WARN 0, F.CHN_REG_STAT_BORDER_OK 0, F.CHN_STG_STAT_CLR_ARMED 0, F.CHN_STG_STAT_CSW 0, F.CHN_STG_STAT_PH_ACT 0, F.CHN_STG_STAT_PH_OK 0, F.CHN_STG_STAT_SHED 0, F.CHN_STG_STAT_STAGE 0, F.EVT_STAT_LOST, F.SEC_FRAM_STAT_BUSY 0, F.SEC_FRAM_STAT_LOST 0, F.SEC_FRAM_STAT_QUEUED 0])
  | .strokeWord _ _ => some ([], [F.SEC_LINK_ERR 0])
  | .strokeKeepalive _ => some ([], [])
  | .statusWord _ _ _ _ _ _ _ => some ([], [F.CHN_CP_SW_VAL 0, F.CHN_CP_V_P0 0, F.CHN_CP_V_P1 0, F.CHN_CP_V_P2 0, F.CHN_CP_V_P3 0, F.SEC_LINK_ERR 0, F.SEC_LINK_UP_MASK 0])
  | .strokeLinkLost _ => some ([], [F.AXS_FLT_CAUSE 0, F.AXS_FLT_COUNT 0, F.AXS_FLT_SECOND 0, F.AXS_STAT_ASRC 0, F.AXS_STAT_BRK_ON 0, F.AXS_STAT_CLR_ARMED 0, F.AXS_STAT_FB_USED 0, F.AXS_STAT_REV_HELD 0, F.AXS_STAT_STATE 0, F.CHN_FLT_CAUSE 0, F.CHN_FLT_COUNT 0, F.CHN_FLT_DETAIL 0, F.CHN_FLT_SECOND 0, F.CHN_REC_FILL 0, F.CHN_REC_STAT_DROPPED 0, F.CHN_REC_STAT_FULL 0, F.CHN_REC_STAT_WARN 0, F.CHN_REG_STAT_BORDER_OK 0, F.CHN_STG_STAT_CLR_ARMED 0, F.CHN_STG_STAT_CSW 0, F.CHN_STG_STAT_PH_ACT 0, F.CHN_STG_STAT_SHED 0, F.CHN_STG_STAT_STAGE 0, F.EISCH_STAT_END 0, F.EISCH_STAT_PFLAGS 0, F.EISCH_STAT_RUN 0, F.EISCH_STAT_SETTLE 0, F.EIS_STAT_SWEEPING, F.EVT_STAT_LOST, F.SEC_FRAM_STAT_BUSY 0, F.SEC_FRAM_STAT_LOST 0, F.SEC_FRAM_STAT_QUEUED 0, F.SEC_LINK_UP_MASK 0])
  | .phasePumpTrip _ _ => some ([], [F.CHN_FLT_CAUSE 0, F.CHN_FLT_COUNT 0, F.CHN_FLT_DETAIL 0, F.CHN_FLT_SECOND 0, F.CHN_ILIM 0, F.CHN_NODE_REF 0, F.CHN_REC_FILL 0, F.CHN_REC_STAT_DROPPED 0, F.CHN_REC_STAT_FULL 0, F.CHN_REC_STAT_WARN 0, F.CHN_REG_STAT_BORDER_OK 0, F.CHN_STG_STAT_CLR_ARMED 0, F.CHN_STG_STAT_CSW 0, F.CHN_STG_STAT_LIM 0, F.CHN_STG_STAT_PH_ACT 0, F.CHN_STG_STAT_PH_OK 0, F.CHN_STG_STAT_SHED 0, F.CHN_STG_STAT_STAGE 0, F.CHN_TRIM_P0 0, F.CHN_TRIM_P1 0, F.CHN_TRIM_P2 0, F.CHN_TRIM_P3 0, F.EISCH_STAT_END 0, F.EISCH_STAT_PFLAGS 0, F.EISCH_STAT_RUN 0, F.EISCH_STAT_SETTLE 0, F.EIS_STAT_SWEEPING, F.EVT_STAT_LOST, F.SEC_FRAM_STAT_BUSY 0, F.SEC_FRAM_STAT_LOST 0, F.SEC_FRAM_STAT_QUEUED 0])
  | .cellSwitchPumpLow _ _ => some ([], [F.CHN_FLT_CAUSE 0, F.CHN_FLT_COUNT 0, F.CHN_FLT_DETAIL 0, F.CHN_FLT_SECOND 0, F.CHN_REC_FILL 0, F.CHN_REC_STAT_DROPPED 0, F.CHN_REC_STAT_FULL 0, F.CHN_REC_STAT_WARN 0, F.CHN_REG_STAT_BORDER_OK 0, F.CHN_STG_STAT_CLR_ARMED 0, F.CHN_STG_STAT_CSW 0, F.CHN_STG_STAT_PH_ACT 0, F.CHN_STG_STAT_SHED 0, F.CHN_STG_STAT_STAGE 0, F.EISCH_STAT_END 0, F.EISCH_STAT_PFLAGS 0, F.EISCH_STAT_RUN 0, F.EISCH_STAT_SETTLE 0, F.EIS_STAT_SWEEPING, F.EVT_STAT_LOST, F.SEC_FRAM_STAT_BUSY 0, F.SEC_FRAM_STAT_LOST 0, F.SEC_FRAM_STAT_QUEUED 0])
  | .channelSafeOffDrop _ => some ([], [F.CHN_FLT_CAUSE 0, F.CHN_FLT_COUNT 0, F.CHN_FLT_DETAIL 0, F.CHN_FLT_SECOND 0, F.CHN_REC_FILL 0, F.CHN_REC_STAT_DROPPED 0, F.CHN_REC_STAT_FULL 0, F.CHN_REC_STAT_WARN 0, F.CHN_REG_STAT_BORDER_OK 0, F.CHN_REG_STAT_CLR_ARMED 0, F.CHN_REG_STAT_HOLD_CAUSE 0, F.CHN_REG_STAT_MODE 0, F.CHN_REG_STAT_WATCH 0, F.CHN_STG_STAT_CLR_ARMED 0, F.CHN_STG_STAT_CSW 0, F.CHN_STG_STAT_PH_ACT 0, F.CHN_STG_STAT_SHED 0, F.CHN_STG_STAT_STAGE 0, F.EISCH_STAT_END 0, F.EISCH_STAT_PFLAGS 0, F.EISCH_STAT_RUN 0, F.EISCH_STAT_SETTLE 0, F.EIS_STAT_SWEEPING, F.EVT_STAT_LOST, F.SEC_FRAM_STAT_BUSY 0, F.SEC_FRAM_STAT_LOST 0, F.SEC_FRAM_STAT_QUEUED 0])
  | .channelSafeOffRelease _ => some ([], [F.CHN_REC_FILL 0, F.CHN_REC_STAT_DROPPED 0, F.CHN_REC_STAT_FULL 0, F.CHN_REC_STAT_WARN 0, F.CHN_REG_STAT_CLR_ARMED 0, F.CHN_REG_STAT_HOLD_CAUSE 0, F.CHN_REG_STAT_MODE 0, F.CHN_REG_STAT_WATCH 0, F.CHN_STG_STAT_STAGE 0, F.EISCH_STAT_END 0, F.EISCH_STAT_PFLAGS 0, F.EISCH_STAT_RUN 0, F.EISCH_STAT_SETTLE 0, F.EIS_STAT_SWEEPING, F.EVT_STAT_LOST])
  | .framRecordWritten _ => some ([], [F.SEC_FRAM_SEQ 0, F.SEC_FRAM_STAT_BUSY 0, F.SEC_FRAM_STAT_NEXT 0, F.SEC_FRAM_STAT_QUEUED 0])
  | .rangeUp _ _ => some ([], [])
  | .rangeDown _ => some ([], [])
  | .rangeBridgeEnd _ => some ([], [F.CHN_MEAS_STAT_CONV 0, F.CHN_MEAS_STAT_RANGE 0, F.CHN_RNG_CNT 0])
  | .spectralBoundary _ => some ([], [F.CHN_REC_FILL 0, F.CHN_REC_STAT_DROPPED 0, F.CHN_REC_STAT_FULL 0, F.CHN_REC_STAT_WARN 0, F.CHN_REG_STAT_CLR_ARMED 0, F.CHN_REG_STAT_HOLD_CAUSE 0, F.CHN_REG_STAT_MODE 0, F.CHN_REG_STAT_WATCH 0, F.EISCH_STAT_END 0, F.EISCH_STAT_PFLAGS 0, F.EISCH_STAT_RUN 0, F.EISCH_STAT_SETTLE 0, F.EIS_STAT_SWEEPING, F.EVT_STAT_LOST])
  | .precisionWindowClose _ => some ([], [F.CHN_I_PREC 0, F.CHN_PREC_T 0, F.CHN_V_PREC 0])
  | .mainsWrite _ => some ([], [F.EVT_STAT_LOST])
  | .refCtlWrite _ => some ([], [F.CHN_MEAS_STAT_NREF 0, F.EVT_STAT_LOST, F.MEAS_REF_CTL_EN0, F.MEAS_REF_CTL_EN1, F.MEAS_REF_CTL_EN2, F.MEAS_REF_CTL_EN3, F.MEAS_REF_RDY_RDY0, F.MEAS_REF_RDY_RDY1, F.MEAS_REF_RDY_RDY2, F.MEAS_REF_RDY_RDY3])
  | .refReady _ => some ([], [F.CHN_MEAS_STAT_NREF 0, F.CHN_STG_STAT_PH_ACT 0, F.CHN_STG_STAT_STAGE 0, F.EVT_STAT_LOST, F.MEAS_REF_RDY_RDY0, F.MEAS_REF_RDY_RDY1, F.MEAS_REF_RDY_RDY2, F.MEAS_REF_RDY_RDY3])
  | .scalCtlWrite _ => some ([], [F.EVT_STAT_LOST])
  | .selfCalSlot _ _ _ => some ([], [F.CHN_CAL_IG0 0, F.CHN_CAL_IG1 0, F.CHN_CAL_IG2 0, F.CHN_CAL_IO0 0, F.CHN_CAL_IO1 0, F.CHN_CAL_IO2 0, F.CHN_CAL_VG 0, F.CHN_CAL_VO 0, F.CHN_MEAS_STAT_CAL_FAIL 0, F.CHN_MEAS_STAT_CAL_VALID 0, F.CHN_MEAS_STAT_CONV 0, F.EVT_STAT_LOST])
  | .selfCalComplete _ => some ([], [F.CHN_STG_STAT_PH_ACT 0, F.CHN_STG_STAT_STAGE 0, F.EVT_STAT_LOST, F.MEAS_SCAL_STAT_BUSY0, F.MEAS_SCAL_STAT_BUSY1, F.MEAS_SCAL_STAT_BUSY2, F.MEAS_SCAL_STAT_BUSY3, F.MEAS_SCAL_STAT_FAIL0, F.MEAS_SCAL_STAT_FAIL1, F.MEAS_SCAL_STAT_FAIL2, F.MEAS_SCAL_STAT_FAIL3])
  | .ovenReady => some ([], [F.EVT_STAT_LOST, F.MEAS_STAT_OVEN_RDY])
  | .meterEntry => some ([], [F.MEAS_STAT_ENTRY, F.MEAS_STAT_SWEEP])
  | .meterResult _ => some ([], [F.EVT_STAT_LOST, F.MEAS_STAT_CHECK_FAIL, F.RES_STAT_INPUT 0, F.RES_STAT_KIND 0, F.RES_STAT_NEW 0, F.RES_STAT_RANGE 0, F.RES_STAT_SWEEP 0, F.RES_T 0, F.RES_VAL 0])
  | .lowWordRead _ => some ([], [])
  | .hcmdGo => some ([], [F.EVT_STAT_LOST])
  | .hcmdAbort => some ([], [F.CHN_REC_FILL 0, F.CHN_REC_STAT_DROPPED 0, F.CHN_REC_STAT_FULL 0, F.CHN_REC_STAT_WARN 0, F.EISCH_STAT_END 0, F.EISCH_STAT_PFLAGS 0, F.EISCH_STAT_RUN 0, F.EISCH_STAT_SETTLE 0, F.EIS_STAT_SWEEPING, F.EVT_STAT_LOST])
  | .sweepEdge => some ([], [F.EISCH_STAT_END 0, F.EISCH_STAT_POINT 0, F.EISCH_STAT_RUN 0, F.EIS_STAT_SWEEPING])
  | .pointStart _ => some ([], [F.CHN_REC_FILL 0, F.CHN_REC_STAT_DROPPED 0, F.CHN_REC_STAT_FULL 0, F.CHN_REC_STAT_WARN 0, F.CHN_REG_STAT_CLR_ARMED 0, F.CHN_REG_STAT_HOLD_CAUSE 0, F.CHN_REG_STAT_MODE 0, F.CHN_REG_STAT_WATCH 0, F.EISCH_F 0, F.EISCH_STAT_END 0, F.EISCH_STAT_PFLAGS 0, F.EISCH_STAT_POINT 0, F.EISCH_STAT_RUN 0, F.EISCH_STAT_SETTLE 0, F.EIS_STAT_SWEEPING, F.EVT_STAT_LOST])
  | .settlePeriodEnd _ => some ([], [])
  | .measureWindowClose _ => some ([], [F.EISCH_STAT_POINT 0])
  | .pointResult _ => some ([], [F.EISCH_STAT_END 0, F.EISCH_STAT_PFLAGS 0, F.EISCH_STAT_RUN 0, F.EISCH_ZIM 0, F.EISCH_ZRE 0, F.EIS_STAT_SWEEPING])
  | .gradingVector _ => some ([], [F.CHN_REC_FILL 0, F.CHN_REC_STAT_DROPPED 0, F.CHN_REC_STAT_FULL 0, F.CHN_REC_STAT_WARN 0, F.EVT_STAT_LOST])
  | .engineStart _ => some ([], [F.ENG_STAT_REFUSE 0, F.ENG_STAT_STATE 0, F.EVT_STAT_LOST, F.SKN_STAT_ACTIVE])
  | .engineStop _ => some ([], [F.ENG_STAT_REFUSE 0, F.ENG_STAT_STATE 0, F.EVT_STAT_LOST, F.SKN_STAT_ACTIVE])
  | .enginePause _ => some ([], [F.ENG_STAT_REFUSE 0, F.ENG_STAT_STATE 0, F.EVT_STAT_LOST, F.SKN_STAT_ACTIVE])
  | .engineResume _ => some ([], [F.ENG_STAT_REFUSE 0, F.ENG_STAT_STATE 0, F.EVT_STAT_LOST, F.SKN_STAT_ACTIVE])
  | .engineRelease _ => some ([], [F.ENG_STAT_REFUSE 0, F.ENG_STAT_STATE 0, F.EVT_STAT_LOST, F.SKN_STAT_ACTIVE])
  | .hsig _ => some ([], [F.EVT_STAT_LOST])
  | .scmdStart => some ([], [F.ENG_STAT_REFUSE 0, F.ENG_STAT_STATE 0, F.EVT_STAT_LOST, F.SKN_STAT_ACTIVE])
  | .scmdStop => some ([], [F.ENG_STAT_REFUSE 0, F.ENG_STAT_STATE 0, F.EVT_STAT_LOST, F.SKN_STAT_ACTIVE])
  | .scmdPause => some ([], [F.ENG_STAT_REFUSE 0, F.ENG_STAT_STATE 0, F.EVT_STAT_LOST, F.SKN_STAT_ACTIVE])
  | .scmdResume => some ([], [F.ENG_STAT_REFUSE 0, F.ENG_STAT_STATE 0, F.EVT_STAT_LOST, F.SKN_STAT_ACTIVE])
  | .engineStartEdge _ => some ([.eng, .engScr], [F.CHN_REC_FILL 0, F.CHN_REC_STAT_DROPPED 0, F.CHN_REC_STAT_FULL 0, F.CHN_REC_STAT_WARN 0, F.CHN_REG_STAT_CLR_ARMED 0, F.CHN_REG_STAT_DIRECT 0, F.CHN_REG_STAT_HOLD_CAUSE 0, F.CHN_REG_STAT_MODE 0, F.CHN_REG_STAT_QUALIFYING 0, F.CHN_REG_STAT_TOPOFF 0, F.CHN_REG_STAT_WATCH 0, F.CHN_STEP_END_ALSO 0, F.CHN_STEP_END_CAUSE 0, F.EISCH_STAT_END 0, F.EISCH_STAT_PFLAGS 0, F.EISCH_STAT_RUN 0, F.EISCH_STAT_SETTLE 0, F.EIS_STAT_SWEEPING, F.EVT_STAT_LOST, F.SKN_STAT_ACTIVE])
  | .frzRead _ => some ([], [F.ENG_STAT_CLR_ARMED 0])
  | .skNop _ => some ([.mem], [F.ENG_FRZ_CAUSE 0, F.ENG_FRZ_DETAIL 0, F.ENG_PC 0, F.ENG_STAT_CLR_ARMED 0, F.ENG_STAT_STATE 0, F.ENG_TURNS 0, F.EVT_STAT_LOST, F.SKN_STAT_ACTIVE])
  | .skHalt _ => some ([.mem], [F.ENG_FRZ_CAUSE 0, F.ENG_FRZ_DETAIL 0, F.ENG_PC 0, F.ENG_STAT_CLR_ARMED 0, F.ENG_STAT_STATE 0, F.ENG_TURNS 0, F.EVT_STAT_LOST, F.SKN_STAT_ACTIVE])
  | .skEnd _ => some ([.mem], [F.ENG_FRZ_CAUSE 0, F.ENG_FRZ_DETAIL 0, F.ENG_PC 0, F.ENG_STAT_CLR_ARMED 0, F.ENG_STAT_STATE 0, F.ENG_TURNS 0, F.EVT_STAT_LOST, F.SKN_STAT_ACTIVE])
  | .skTrap _ => some ([.mem], [F.ENG_FRZ_CAUSE 0, F.ENG_FRZ_DETAIL 0, F.ENG_PC 0, F.ENG_STAT_CLR_ARMED 0, F.ENG_STAT_STATE 0, F.ENG_TURNS 0, F.EVT_STAT_LOST, F.SKN_STAT_ACTIVE])
  | .skLdi _ => some ([.eng, .mem], [F.EVT_STAT_LOST, F.SKN_STAT_ACTIVE])
  | .skLdw _ => some ([.eng, .mem], [F.EVT_STAT_LOST, F.SKN_STAT_ACTIVE])
  | .skMov _ => some ([.eng, .engScr, .mem], [F.EVT_STAT_LOST, F.SKN_STAT_ACTIVE])
  | .skAdd _ => some ([.eng, .mem], [F.EVT_STAT_LOST, F.SKN_STAT_ACTIVE])
  | .skSub _ => some ([.eng, .mem], [F.EVT_STAT_LOST, F.SKN_STAT_ACTIVE])
  | .skMul _ => some ([.eng, .mem], [F.EVT_STAT_LOST, F.SKN_STAT_ACTIVE])
  | .skDiv _ => some ([.eng, .mem], [F.EVT_STAT_LOST, F.SKN_STAT_ACTIVE])
  | .skMin _ => some ([.eng, .mem], [F.EVT_STAT_LOST, F.SKN_STAT_ACTIVE])
  | .skMax _ => some ([.eng, .mem], [F.EVT_STAT_LOST, F.SKN_STAT_ACTIVE])
  | .skAbs _ => some ([.eng, .mem], [F.EVT_STAT_LOST, F.SKN_STAT_ACTIVE])
  | .skCmp _ => some ([.mem], [F.ENG_FRZ_CAUSE 0, F.ENG_FRZ_DETAIL 0, F.ENG_PC 0, F.ENG_STAT_C 0, F.ENG_STAT_CLR_ARMED 0, F.ENG_STAT_N 0, F.ENG_STAT_STATE 0, F.ENG_STAT_Z 0, F.ENG_TURNS 0, F.EVT_STAT_LOST, F.SKN_STAT_ACTIVE])
  | .skCmpi _ => some ([.mem], [F.ENG_FRZ_CAUSE 0, F.ENG_FRZ_DETAIL 0, F.ENG_PC 0, F.ENG_STAT_C 0, F.ENG_STAT_CLR_ARMED 0, F.ENG_STAT_N 0, F.ENG_STAT_STATE 0, F.ENG_STAT_Z 0, F.ENG_TURNS 0, F.EVT_STAT_LOST, F.SKN_STAT_ACTIVE])
  | .skBr _ => some ([.mem], [F.ENG_FRZ_CAUSE 0, F.ENG_FRZ_DETAIL 0, F.ENG_PC 0, F.ENG_STAT_CLR_ARMED 0, F.ENG_STAT_STATE 0, F.ENG_TURNS 0, F.EVT_STAT_LOST, F.SKN_STAT_ACTIVE])
  | .skCall _ => some ([.eng, .mem], [F.EVT_STAT_LOST, F.SKN_STAT_ACTIVE])
  | .skRet _ => some ([.eng, .mem], [F.EVT_STAT_LOST, F.SKN_STAT_ACTIVE])
  | .skLoop _ => some ([.eng, .mem], [F.EVT_STAT_LOST, F.SKN_STAT_ACTIVE])
  | .skSeti _ => some ([.mem], [F.ENG_FRZ_CAUSE 0, F.ENG_FRZ_DETAIL 0, F.ENG_PC 0, F.ENG_STAT_CLR_ARMED 0, F.ENG_STAT_STATE 0, F.ENG_TURNS 0, F.EVT_STAT_LOST, F.SKN_STAT_ACTIVE])
  | .skSetv _ => some ([.mem], [F.ENG_FRZ_CAUSE 0, F.ENG_FRZ_DETAIL 0, F.ENG_PC 0, F.ENG_STAT_CLR_ARMED 0, F.ENG_STAT_STATE 0, F.ENG_TURNS 0, F.EVT_STAT_LOST, F.SKN_STAT_ACTIVE])
  | .skSetp _ => some ([.mem], [F.ENG_FRZ_CAUSE 0, F.ENG_FRZ_DETAIL 0, F.ENG_PC 0, F.ENG_STAT_CLR_ARMED 0, F.ENG_STAT_STATE 0, F.ENG_TURNS 0, F.EVT_STAT_LOST, F.SKN_STAT_ACTIVE])
  | .skMode _ => some ([.mem], [F.ENG_FRZ_CAUSE 0, F.ENG_FRZ_DETAIL 0, F.ENG_PC 0, F.ENG_STAT_CLR_ARMED 0, F.ENG_STAT_STATE 0, F.ENG_TURNS 0, F.EVT_STAT_LOST, F.SKN_STAT_ACTIVE])
  | .skRamp _ => some ([.mem], [F.ENG_FRZ_CAUSE 0, F.ENG_FRZ_DETAIL 0, F.ENG_PC 0, F.ENG_STAT_CLR_ARMED 0, F.ENG_STAT_STATE 0, F.ENG_TURNS 0, F.EVT_STAT_LOST, F.SKN_STAT_ACTIVE])
  | .skPulse _ => some ([.mem], [F.ENG_FRZ_CAUSE 0, F.ENG_FRZ_DETAIL 0, F.ENG_PC 0, F.ENG_STAT_CLR_ARMED 0, F.ENG_STAT_STATE 0, F.ENG_TURNS 0, F.EVT_STAT_LOST, F.SKN_STAT_ACTIVE])
  | .skPress _ => some ([.mem], [F.ENG_FRZ_CAUSE 0, F.ENG_FRZ_DETAIL 0, F.ENG_PC 0, F.ENG_STAT_CLR_ARMED 0, F.ENG_STAT_STATE 0, F.ENG_TURNS 0, F.EVT_STAT_LOST, F.SKN_STAT_ACTIVE])
  | .skWait _ => some ([.mem], [F.ENG_FRZ_CAUSE 0, F.ENG_FRZ_DETAIL 0, F.ENG_PC 0, F.ENG_STAT_CLR_ARMED 0, F.ENG_STAT_STATE 0, F.ENG_TURNS 0, F.EVT_STAT_LOST, F.SKN_STAT_ACTIVE])
  | .skWaitt _ => some ([.mem], [F.ENG_FRZ_CAUSE 0, F.ENG_FRZ_DETAIL 0, F.ENG_PC 0, F.ENG_STAT_CLR_ARMED 0, F.ENG_STAT_STATE 0, F.ENG_TURNS 0, F.EVT_STAT_LOST, F.SKN_STAT_ACTIVE])
  | .waittTimeout _ => some ([], [F.ENG_PC 0, F.ENG_STAT_JOINED 0, F.ENG_STAT_STATE 0, F.ENG_STAT_Z 0, F.SKN_STAT_ACTIVE])
  | .skGet _ => some ([.eng, .mem], [F.EVT_STAT_LOST, F.SKN_STAT_ACTIVE])
  | .skGeta _ => some ([.eng, .mem], [F.EVT_STAT_LOST, F.SKN_STAT_ACTIVE])
  | .skClra _ => some ([.mem], [F.ENG_FRZ_CAUSE 0, F.ENG_FRZ_DETAIL 0, F.ENG_PC 0, F.ENG_STAT_CLR_ARMED 0, F.ENG_STAT_STATE 0, F.ENG_TURNS 0, F.EVT_STAT_LOST, F.SKN_STAT_ACTIVE])
  | .skZone _ => some ([.mem], [F.ENG_FRZ_CAUSE 0, F.ENG_FRZ_DETAIL 0, F.ENG_PC 0, F.ENG_STAT_CLR_ARMED 0, F.ENG_STAT_STATE 0, F.ENG_TURNS 0, F.EVT_STAT_LOST, F.SKN_STAT_ACTIVE])
  | .skStep _ => some ([.mem], [F.ENG_FRZ_CAUSE 0, F.ENG_FRZ_DETAIL 0, F.ENG_PC 0, F.ENG_STAT_CLR_ARMED 0, F.ENG_STAT_STATE 0, F.ENG_TURNS 0, F.EVT_STAT_LOST, F.SKN_STAT_ACTIVE])
  | .skCurve _ => some ([.eng, .mem], [F.EVT_STAT_LOST, F.SKN_STAT_ACTIVE])
  | .skTerm _ => some ([.mem], [F.ENG_FRZ_CAUSE 0, F.ENG_FRZ_DETAIL 0, F.ENG_PC 0, F.ENG_STAT_CLR_ARMED 0, F.ENG_STAT_STATE 0, F.ENG_TURNS 0, F.EVT_STAT_LOST, F.SKN_STAT_ACTIVE])
  | .skSafet _ => some ([.mem], [F.ENG_FRZ_CAUSE 0, F.ENG_FRZ_DETAIL 0, F.ENG_PC 0, F.ENG_STAT_CLR_ARMED 0, F.ENG_STAT_STATE 0, F.ENG_TURNS 0, F.EVT_STAT_LOST, F.SKN_STAT_ACTIVE])
  | .skSweep _ => some ([.mem], [F.ENG_FRZ_CAUSE 0, F.ENG_FRZ_DETAIL 0, F.ENG_PC 0, F.ENG_STAT_CLR_ARMED 0, F.ENG_STAT_STATE 0, F.ENG_TURNS 0, F.EVT_STAT_LOST, F.SKN_STAT_ACTIVE])
  | .skSweepStop _ => some ([.mem], [F.ENG_FRZ_CAUSE 0, F.ENG_FRZ_DETAIL 0, F.ENG_PC 0, F.ENG_STAT_CLR_ARMED 0, F.ENG_STAT_STATE 0, F.ENG_TURNS 0, F.EVT_STAT_LOST, F.SKN_STAT_ACTIVE])
  | .skGrade _ => some ([.eng, .mem], [F.EVT_STAT_LOST, F.SKN_STAT_ACTIVE])
  | .skMark _ => some ([.mem], [F.CHN_REC_FILL 0, F.CHN_REC_STAT_DROPPED 0, F.CHN_REC_STAT_FULL 0, F.CHN_REC_STAT_WARN 0, F.ENG_FRZ_CAUSE 0, F.ENG_FRZ_DETAIL 0, F.ENG_PC 0, F.ENG_STAT_CLR_ARMED 0, F.ENG_STAT_STATE 0, F.ENG_TURNS 0, F.EVT_STAT_LOST, F.SKN_STAT_ACTIVE])
  | .skLog _ => some ([.mem], [F.CHN_REC_FILL 0, F.CHN_REC_STAT_DROPPED 0, F.CHN_REC_STAT_FULL 0, F.CHN_REC_STAT_WARN 0, F.ENG_FRZ_CAUSE 0, F.ENG_FRZ_DETAIL 0, F.ENG_PC 0, F.ENG_STAT_CLR_ARMED 0, F.ENG_STAT_STATE 0, F.ENG_TURNS 0, F.EVT_STAT_LOST, F.SKN_STAT_ACTIVE])
  | .skJoin _ => some ([.mem], [F.ENG_FRZ_CAUSE 0, F.ENG_FRZ_DETAIL 0, F.ENG_GRP_G 0, F.ENG_GRP_GEN 0, F.ENG_PC 0, F.ENG_STAT_CLR_ARMED 0, F.ENG_STAT_JOINED 0, F.ENG_STAT_STATE 0, F.ENG_TURNS 0, F.EVT_STAT_LOST, F.GRP_STAT_ARRIVED 0, F.SKN_STAT_ACTIVE])
  | .skSignal _ => some ([.mem], [F.ENG_FRZ_CAUSE 0, F.ENG_FRZ_DETAIL 0, F.ENG_PC 0, F.ENG_STAT_CLR_ARMED 0, F.ENG_STAT_STATE 0, F.ENG_TURNS 0, F.EVT_STAT_LOST, F.GRP_STAT_ARRIVED 0, F.SKN_STAT_ACTIVE])
  | .skDonate _ => some ([.mem], [F.ENG_FRZ_CAUSE 0, F.ENG_FRZ_DETAIL 0, F.ENG_PC 0, F.ENG_STAT_CLR_ARMED 0, F.ENG_STAT_STATE 0, F.ENG_TURNS 0, F.EVT_STAT_LOST, F.SKN_STAT_ACTIVE])
  | .skLegacy _ => some ([.mem], [F.ENG_FRZ_CAUSE 0, F.ENG_FRZ_DETAIL 0, F.ENG_PC 0, F.ENG_STAT_CLR_ARMED 0, F.ENG_STAT_STATE 0, F.ENG_TURNS 0, F.EVT_STAT_LOST, F.SKN_STAT_ACTIVE])
  | .reservedOpcode _ => some ([.mem], [F.ENG_FRZ_CAUSE 0, F.ENG_FRZ_DETAIL 0, F.ENG_PC 0, F.ENG_STAT_CLR_ARMED 0, F.ENG_STAT_STATE 0, F.ENG_TURNS 0, F.EVT_STAT_LOST, F.SKN_STAT_ACTIVE])
  | .groupArrivalMessage _ _ _ _ _ _ => some ([], [F.EVT_STAT_LOST, F.GRP_STAT_ARRIVED 0])
  | .groupRelease _ => some ([], [F.CHN_REG_STAT_TO 0, F.ENG_EVT_VAL 0, F.ENG_PC 0, F.ENG_STAT_JOINED 0, F.ENG_STAT_STATE 0, F.ENG_STAT_Z 0, F.GRP_STAT_ARRIVED 0, F.GRP_STAT_GEN 0, F.GRP_STAT_LAST 0, F.SKN_STAT_ACTIVE])
  | .groupTimeout _ => some ([], [])
  | .groupAbort _ => some ([], [F.EVT_STAT_LOST])
  | .groupBreak _ => some ([], [F.CHN_REG_STAT_TO 0, F.ENG_EVT_VAL 0, F.ENG_PC 0, F.ENG_STAT_JOINED 0, F.ENG_STAT_STATE 0, F.ENG_STAT_Z 0, F.GRP_STAT_ARRIVED 0, F.GRP_STAT_GEN 0, F.GRP_STAT_LAST 0, F.SKN_STAT_ACTIVE])
  | .loadGo => some ([], [F.EVT_STAT_LOST, F.SKN_LOAD_STAT_BUSY])
  | .loadComplete => some ([.mem], [F.EVT_STAT_LOST, F.IMG_ID 0, F.IMG_SIZE 0, F.IMG_STAT_AUTH 0, F.IMG_STAT_STORED 0, F.IMG_VER 0, F.SAFE_PEND_CRC, F.SAFE_PEND_ID, F.SAFE_STAT_PEND_OK, F.SKN_LOAD_ID, F.SKN_LOAD_STAT_BUSY, F.SKN_LOAD_STAT_COUNT, F.SKN_LOAD_STAT_KIND, F.SKN_LOAD_STAT_RESULT, F.SKN_TBL_FREE])
  | .delete => some ([], [F.EVT_STAT_LOST, F.IMG_ID 0, F.IMG_SIZE 0, F.IMG_STAT_AUTH 0, F.IMG_STAT_STORED 0, F.IMG_VER 0, F.SKN_LOAD_STAT_COUNT, F.SKN_LOAD_STAT_RESULT, F.SKN_TBL_FREE])
  | .dlClr => some ([], [F.EVT_STAT_LOST, F.LOOP_DL_LAST_LANE, F.LOOP_DL_LAST_OBJ, F.LOOP_STAT_DL])
  | .arm _ => some ([], [F.EVT_STAT_LOST, F.TR_STAT_ARMED 0, F.TR_STAT_DONE 0, F.TR_STAT_FILL 0, F.TR_STAT_THIN 0, F.TR_STAT_TRIG 0])
  | .force _ => some ([], [F.EVT_STAT_LOST, F.TR_STAT_ARMED 0, F.TR_STAT_TRIG 0])
  | .traceCaptureEnd _ => some ([], [F.TR_STAT_ARMED 0])
  | .traceCopyDone _ => some ([.mem], [F.EVT_STAT_LOST, F.TR_STAT_DONE 0])
  | .axisStart _ => some ([], [F.EVT_STAT_LOST])
  | .axisStop _ => some ([], [F.AXS_STAT_STATE 0, F.EVT_STAT_LOST])
  | .axisStopComplete _ => some ([], [F.AXS_STAT_ASRC 0, F.AXS_STAT_BRK_ON 0, F.AXS_STAT_STATE 0])
  | .axsFltRead _ => some ([], [F.AXS_STAT_CLR_ARMED 0])
  | .axsFltClr _ => some ([], [F.AXS_FLT_CAUSE 0, F.AXS_FLT_SECOND 0, F.AXS_STAT_CLR_ARMED 0, F.AXS_STAT_STATE 0, F.EVT_STAT_LOST, F.POS_FLT_CODE 0, F.POS_FLT_DETAIL 0])
  | .stoLineDrop => some ([], [F.AXS_FLT_CAUSE 0, F.AXS_FLT_COUNT 0, F.AXS_FLT_SECOND 0, F.AXS_STAT_ASRC 0, F.AXS_STAT_BRK_ON 0, F.AXS_STAT_CLR_ARMED 0, F.AXS_STAT_FB_USED 0, F.AXS_STAT_REV_HELD 0, F.AXS_STAT_STATE 0, F.EVT_STAT_LOST])
  | .catchWindowEnd _ => some ([], [F.AXS_STAT_ASRC 0, F.AXS_STAT_BRK_ON 0, F.AXS_STAT_PRS 0, F.AXS_STAT_STATE 0])
  | .polarityTest _ _ _ => some ([], [])
  | .torqueEnable _ => some ([], [F.AXS_FLT_CAUSE 0, F.AXS_FLT_COUNT 0, F.AXS_FLT_SECOND 0, F.AXS_STAT_ASRC 0, F.AXS_STAT_BRK_ON 0, F.AXS_STAT_CLR_ARMED 0, F.AXS_STAT_FB_USED 0, F.AXS_STAT_REV_HELD 0, F.AXS_STAT_STATE 0, F.EVT_STAT_LOST])
  | .brakeRelease _ => some ([], [])
  | .axisRun _ => some ([], [F.AXS_STAT_BRK_ON 0, F.AXS_STAT_PRS 0, F.AXS_STAT_STATE 0])
  | .startTimeout _ => some ([], [F.AXS_FLT_CAUSE 0, F.AXS_FLT_COUNT 0, F.AXS_FLT_SECOND 0, F.AXS_STAT_ASRC 0, F.AXS_STAT_BRK_ON 0, F.AXS_STAT_CLR_ARMED 0, F.AXS_STAT_FB_USED 0, F.AXS_STAT_REV_HELD 0, F.AXS_STAT_STATE 0, F.EVT_STAT_LOST])
  | .feedbackDisagree _ => some ([], [F.AXS_STAT_FB_USED 0, F.EVT_STAT_LOST])
  | .i2tEmpty _ => some ([], [F.AXS_STAT_I2T_LIM 0])
  | .i2tRecover _ => some ([], [F.AXS_STAT_I2T_LIM 0])
  | .loadCellRange _ => some ([], [F.AXS_FLT_CAUSE 0, F.AXS_FLT_COUNT 0, F.AXS_FLT_SECOND 0, F.AXS_STAT_ASRC 0, F.AXS_STAT_BRK_ON 0, F.AXS_STAT_CLR_ARMED 0, F.AXS_STAT_FB_USED 0, F.AXS_STAT_REV_HELD 0, F.AXS_STAT_STATE 0, F.EVT_STAT_LOST])
  | .pressHoldEntry _ => some ([], [])
  | .pressHoldRamp _ => some ([], [F.AXS_STAT_BRK_ON 0, F.AXS_STAT_PRS 0])
  | .pressRetrim _ => some ([], [])
  | .retrimForce _ => some ([], [F.AXS_STAT_BRK_ON 0, F.AXS_STAT_PRS 0])
  | .pressReleased _ => some ([], [])
  | .x60Loss _ => some ([], [F.AXS_STAT_X60_LOSS 0, F.EVT_STAT_LOST])
  | .x60Restore _ => some ([], [F.AXS_STAT_X60_LOSS 0])
  | .desaturation _ => some ([], [F.AXS_FLT_CAUSE 0, F.AXS_FLT_COUNT 0, F.AXS_FLT_SECOND 0, F.AXS_STAT_ASRC 0, F.AXS_STAT_BRK_ON 0, F.AXS_STAT_CLR_ARMED 0, F.AXS_STAT_FB_USED 0, F.AXS_STAT_REV_HELD 0, F.AXS_STAT_STATE 0, F.EVT_STAT_LOST])
  | .fastOvercurrent _ => some ([], [F.AXS_FLT_CAUSE 0, F.AXS_FLT_COUNT 0, F.AXS_FLT_SECOND 0, F.AXS_STAT_ASRC 0, F.AXS_STAT_BRK_ON 0, F.AXS_STAT_CLR_ARMED 0, F.AXS_STAT_FB_USED 0, F.AXS_STAT_REV_HELD 0, F.AXS_STAT_STATE 0, F.EVT_STAT_LOST])
  | .twoLegShort _ _ => some ([], [F.AXS_FLT_CAUSE 0, F.AXS_FLT_COUNT 0, F.AXS_FLT_SECOND 0, F.AXS_STAT_ASRC 0, F.AXS_STAT_BRK_ON 0, F.AXS_STAT_CLR_ARMED 0, F.AXS_STAT_FB_USED 0, F.AXS_STAT_REV_HELD 0, F.AXS_STAT_STATE 0, F.EVT_STAT_LOST])
  | .phaseOpen _ => some ([], [F.AXS_FLT_CAUSE 0, F.AXS_FLT_COUNT 0, F.AXS_FLT_SECOND 0, F.AXS_STAT_ASRC 0, F.AXS_STAT_BRK_ON 0, F.AXS_STAT_CLR_ARMED 0, F.AXS_STAT_FB_USED 0, F.AXS_STAT_REV_HELD 0, F.AXS_STAT_STATE 0, F.EVT_STAT_LOST])
  | .currentSenseLost _ => some ([], [F.AXS_FLT_CAUSE 0, F.AXS_FLT_COUNT 0, F.AXS_FLT_SECOND 0, F.AXS_STAT_ASRC 0, F.AXS_STAT_BRK_ON 0, F.AXS_STAT_CLR_ARMED 0, F.AXS_STAT_FB_USED 0, F.AXS_STAT_REV_HELD 0, F.AXS_STAT_STATE 0, F.EVT_STAT_LOST])
  | .toothEdge _ _ _ _ _ _ => some ([.axs, .pos], [F.EVT_STAT_LOST])
  | .illegalTransition _ _ => some ([], [F.AXS_FLT_CAUSE 0, F.AXS_FLT_COUNT 0, F.AXS_FLT_SECOND 0, F.AXS_STAT_ASRC 0, F.AXS_STAT_BRK_ON 0, F.AXS_STAT_CLR_ARMED 0, F.AXS_STAT_FB_USED 0, F.AXS_STAT_REV_HELD 0, F.AXS_STAT_STATE 0, F.EVT_STAT_LOST, F.POS_FLT_CODE 0, F.POS_FLT_DETAIL 0, F.POS_ILL_CNT 0, F.POS_STAT_CMP_ARMED 0, F.POS_STAT_ILL_WIN 0, F.POS_STAT_REF_FOUND 0])
  | .lineFault _ _ => some ([], [F.AXS_FLT_CAUSE 0, F.AXS_FLT_COUNT 0, F.AXS_FLT_SECOND 0, F.AXS_STAT_ASRC 0, F.AXS_STAT_BRK_ON 0, F.AXS_STAT_CLR_ARMED 0, F.AXS_STAT_FB_USED 0, F.AXS_STAT_REV_HELD 0, F.AXS_STAT_STATE 0, F.EVT_STAT_LOST, F.POS_FLT_CODE 0, F.POS_FLT_DETAIL 0, F.POS_STAT_CMP_ARMED 0, F.POS_STAT_LINE_FLT 0, F.POS_STAT_REF_FOUND 0])
  | .speedTimeout _ => some ([], [F.POS_SPD 0])
  | .ssiWord _ _ _ _ _ => some ([.pos], [F.AXS_FLT_CAUSE 0, F.AXS_FLT_COUNT 0, F.AXS_FLT_SECOND 0, F.AXS_STAT_ASRC 0, F.AXS_STAT_BRK_ON 0, F.AXS_STAT_CLR_ARMED 0, F.AXS_STAT_FB_USED 0, F.AXS_STAT_REV_HELD 0, F.AXS_STAT_STATE 0, F.EVT_STAT_LOST])
  | .refClr _ => some ([], [F.EVT_STAT_LOST, F.POS_STAT_REF_FOUND 0])
  | .cmpArm _ => some ([], [F.EVT_STAT_LOST, F.POS_CMP_LEFT 0, F.POS_STAT_CMP_ARMED 0])
  | .cmpStop _ => some ([], [F.EVT_STAT_LOST, F.POS_STAT_CMP_ARMED 0])
  | .fifoClr _ => some ([], [F.EVT_STAT_LOST, F.POS_FIFO_STAT_FILL 0, F.POS_FIFO_STAT_LOST 0, F.POS_FIFO_STAT_SKIP 0, F.POS_HIT_FRC_FORCE 0, F.POS_HIT_FRC_MULTI 0, F.POS_HIT_FRC_OOS 0, F.POS_HIT_POS 0, F.POS_HIT_T 0])
  | .hitThiRead _ => some ([], [F.POS_FIFO_STAT_FILL 0, F.POS_HIT_FRC_FORCE 0, F.POS_HIT_FRC_MULTI 0, F.POS_HIT_FRC_OOS 0, F.POS_HIT_POS 0, F.POS_HIT_T 0])
  | .passthroughResume => some ([], [])
  | .safetyCycle _ => some ([.axs, .bay, .chn, .eis, .eisCh, .evt, .pwr, .safe, .sec], [])
  | .discrepancyFault _ => some ([.axs, .bay, .chn, .eis, .eisCh, .evt, .pwr, .safe, .sec], [])
  | .cat1Stop _ => some ([], [F.AXS_FLT_CAUSE 0, F.AXS_FLT_COUNT 0, F.AXS_FLT_SECOND 0, F.AXS_STAT_ASRC 0, F.AXS_STAT_BRK_ON 0, F.AXS_STAT_CLR_ARMED 0, F.AXS_STAT_FB_USED 0, F.AXS_STAT_REV_HELD 0, F.AXS_STAT_STATE 0, F.BAY_STAT_CLR_ARMED, F.BAY_STAT_HOLD_RT, F.BAY_STOP_CAUSE_FIRST, F.BAY_STOP_CAUSE_MASK, F.CHN_FLT_CAUSE 0, F.CHN_FLT_COUNT 0, F.CHN_FLT_DETAIL 0, F.CHN_FLT_SECOND 0, F.CHN_REC_FILL 0, F.CHN_REC_STAT_DROPPED 0, F.CHN_REC_STAT_FULL 0, F.CHN_REC_STAT_WARN 0, F.CHN_REG_STAT_BORDER_OK 0, F.CHN_REG_STAT_CLR_ARMED 0, F.CHN_REG_STAT_HOLD_CAUSE 0, F.CHN_REG_STAT_MODE 0, F.CHN_REG_STAT_WATCH 0, F.CHN_STG_STAT_CLR_ARMED 0, F.CHN_STG_STAT_CSW 0, F.CHN_STG_STAT_PH_ACT 0, F.CHN_STG_STAT_SHED 0, F.CHN_STG_STAT_STAGE 0, F.EISCH_STAT_END 0, F.EISCH_STAT_PFLAGS 0, F.EISCH_STAT_RUN 0, F.EISCH_STAT_SETTLE 0, F.EIS_STAT_SWEEPING, F.EVT_STAT_LOST, F.PWR_ENTRY_STAT_CAUSE, F.PWR_ENTRY_STAT_STATE, F.PWR_RT_TIME, F.SAFE_LINES_ON, F.SAFE_LINES_TAKE, F.SAFE_OUT_ON, F.SEC_FRAM_STAT_BUSY 0, F.SEC_FRAM_STAT_LOST 0, F.SEC_FRAM_STAT_QUEUED 0, F.SEC_STAT_DIR 0])
  | .testPulse _ => some ([.axs, .bay, .chn, .eis, .eisCh, .evt, .pwr, .safe, .sec], [])
  | .lineTest _ _ => some ([.axs, .bay, .chn, .eis, .eisCh, .evt, .pwr, .safe, .sec], [])
  | .lineTestDue => some ([], [F.EVT_STAT_LOST, F.SAFE_LTEST_AGE, F.SAFE_STAT_LTEST_DUE])
  | .feedbackTimeout _ => some ([.axs, .bay, .chn, .eis, .eisCh, .evt, .pwr, .safe, .sec], [])
  | .resetPress _ _ => some ([], [F.EVT_STAT_LOST, F.SAFE_FLT_CAUSE, F.SAFE_FLT_CH, F.SAFE_FLT_DETAIL, F.SAFE_RST_COUNT])
  | .resetStuck => some ([], [F.EVT_STAT_LOST, F.SAFE_FLT_CAUSE, F.SAFE_FLT_CH, F.SAFE_FLT_DETAIL, F.SAFE_RST_STUCK])
  | .safetySupplyLost => some ([.axs, .bay, .chn, .eis, .eisCh, .evt, .pwr, .safe, .sec], [])
  | .hoCa => some ([], [F.EVT_STAT_LOST, F.SAFE_STAT_HANDOVER])
  | .hoCb => some ([], [F.EVT_STAT_LOST, F.SAFE_STAT_HANDOVER])
  | .upsettSilent _ _ => some ([.axs, .bay, .chn, .eis, .eisCh, .evt, .pwr, .safe, .sec], [])
  | .degradedWarn => some ([], [F.EVT_STAT_LOST, F.SAFE_STAT_DEGR_WARN])
  | .degradedTimeExpire => some ([], [F.AXS_STAT_STATE 0, F.BAY_STAT_CLR_ARMED, F.BAY_STAT_HOLD_RT, F.BAY_STOP_CAUSE_FIRST, F.BAY_STOP_CAUSE_MASK, F.CHN_REC_FILL 0, F.CHN_REC_STAT_DROPPED 0, F.CHN_REC_STAT_FULL 0, F.CHN_REC_STAT_WARN 0, F.CHN_REG_STAT_CLR_ARMED 0, F.CHN_REG_STAT_HOLD_CAUSE 0, F.CHN_REG_STAT_MODE 0, F.CHN_REG_STAT_WATCH 0, F.EISCH_STAT_END 0, F.EISCH_STAT_PFLAGS 0, F.EISCH_STAT_RUN 0, F.EISCH_STAT_SETTLE 0, F.EIS_STAT_SWEEPING, F.EVT_STAT_LOST, F.PWR_ENTRY_STAT_CAUSE, F.PWR_ENTRY_STAT_STATE, F.PWR_RT_TIME, F.SAFE_DEMAND_DEM, F.SAFE_DEMAND_DISC, F.SAFE_DEMAND_WAIT, F.SAFE_FLT_CAUSE, F.SAFE_FLT_CH, F.SAFE_FLT_DETAIL, F.SEC_STAT_DIR 0])
  | .upsettSelfTestDone _ _ _ _ => some ([.axs, .bay, .chn, .eis, .eisCh, .evt, .pwr, .safe, .sec], [])
  | .upsettRejoin _ => some ([], [F.EVT_STAT_LOST, F.SAFE_DEGR_LEFT, F.SAFE_LINES_TAKE, F.SAFE_STAT_DEGR_WARN, F.SAFE_STAT_MODE])
  | .activate => some ([.axs, .bay, .chn, .eis, .eisCh, .evt, .pwr, .safe, .safeOut, .safePair, .sec], [])
  | .pairingLaneLost _ _ => some ([], [F.EVT_STAT_LOST, F.RED_CLEAN, F.RED_STAT_LANE0, F.RED_STAT_LANE1])
  | .pairingLinkLost _ => some ([], [F.BAY_STAT_CLR_ARMED, F.BAY_STOP_CAUSE_FIRST, F.BAY_STOP_CAUSE_MASK, F.EVT_STAT_LOST, F.RED_FLT_CAUSE, F.RED_FLT_COUNT, F.RED_FLT_DETAIL, F.RED_FLT_SIDE, F.RED_STAT_ROLE_CA, F.RED_STAT_ROLE_CB, F.RED_STAT_SYNC])
  | .joinBootDone _ _ => some ([.mem], [F.EVT_STAT_LOST, F.RED_CLEAN, F.RED_FLT_CAUSE, F.RED_FLT_COUNT, F.RED_FLT_DETAIL, F.RED_FLT_SIDE, F.RED_STAT_ROLE_CA, F.RED_STAT_ROLE_CB, F.RED_STAT_SYNC])
  | .bulkCopyDone => some ([.mem], [F.EVT_STAT_LOST, F.RED_STAT_SYNC, F.TRU_STAT_RKEY_OK])
  | .stateCopyDone => some ([], [F.EVT_STAT_LOST, F.RED_STAT_ROLE_CA, F.RED_STAT_ROLE_CB, F.RED_STAT_SYNC])
  | .provingDone => some ([], [F.EVT_STAT_LOST, F.RED_CLEAN, F.RED_STAT_ROLE_CA, F.RED_STAT_ROLE_CB, F.RED_STAT_SYNC, F.TRU_FW_CA_SVN_MIN, F.TRU_FW_CB_SVN_MIN])
  | .resync => some ([], [F.EVT_STAT_LOST, F.RED_CLEAN, F.RED_STAT_SYNC])
  | .swap => some ([], [F.EVT_STAT_LOST])
  | .redFltRead => some ([], [])
  | .fwAlignDone => some ([], [F.EVT_STAT_LOST, F.RED_CLEAN, F.RED_STAT_ROLE_CA, F.RED_STAT_ROLE_CB, F.RED_STAT_SYNC, F.TRU_FW_CA_A_OK, F.TRU_FW_CA_B_OK, F.TRU_FW_CA_FALLBACK, F.TRU_FW_CA_PREF, F.TRU_FW_CA_RUN, F.TRU_FW_CA_SVN, F.TRU_FW_CA_SVN_MIN, F.TRU_FW_CB_A_OK, F.TRU_FW_CB_B_OK, F.TRU_FW_CB_FALLBACK, F.TRU_FW_CB_PREF, F.TRU_FW_CB_RUN, F.TRU_FW_CB_SVN, F.TRU_FW_CB_SVN_MIN, F.TRU_FW_VER_CA, F.TRU_FW_VER_CB])
  | .strobeMissing _ => some ([], [])
  | .strobeDisagree _ => some ([], [F.EVT_STAT_LOST])
  | .oscillatorFail => some ([], [F.EVT_STAT_LOST, F.TIME_STAT_FREE_RUN, F.TIME_STAT_HOLDOVER])
  | .partnerRepair _ _ => some ([.mem], [F.EVT_STAT_LOST])
  | .scrGo _ => some ([.mem], [F.EVT_STAT_LOST])
  | .scrStop _ => some ([.mem], [F.EVT_STAT_LOST])
  | .scrubComplete _ => some ([.mem], [F.EVT_STAT_LOST])
  | .injGo _ => some ([.mem], [F.EVT_STAT_LOST])
  | .cntClr _ => some ([.mem], [F.EVT_STAT_LOST])
  | .dmaRst _ _ => some ([.mem], [F.EVT_STAT_LOST])
  | .memoryInitDone _ _ => some ([.mem], [F.EVT_STAT_LOST])
  | .powerUp => none
  | .powerDown => none
  | .controlSupplyChange _ _ => some ([], [F.EVT_STAT_LOST])
  | .bootComplete _ _ => some ([], [F.AUTH_ENROLLED 0, F.AUTH_ID 0, F.AUTH_RIGHTS 0, F.BAY_STAT_CLR_ARMED, F.BAY_STOP_CAUSE_FIRST, F.BAY_STOP_CAUSE_MASK, F.EVT_STAT_LOST, F.MEAS_CERT_DUE, F.MEAS_CERT_ID, F.MEAS_STAT_CERT_DUE, F.MEAS_STAT_CERT_OK, F.MEAS_STAT_ENTRY, F.MEAS_STAT_PRESENT, F.RED_FLT_CAUSE, F.RED_FLT_COUNT, F.RED_FLT_DETAIL, F.RED_FLT_SIDE, F.RED_STAT_ROLE_CA, F.RED_STAT_ROLE_CB, F.RED_STAT_SYNC, F.SAFE_STAT_CHA_OK, F.SAFE_STAT_CHB_OK, F.SAFE_STAT_MODE, F.SAFE_STAT_XLINK_OK, F.TRU_FW_CA_A_OK, F.TRU_FW_CA_B_OK, F.TRU_FW_CA_FALLBACK, F.TRU_FW_CA_PREF, F.TRU_FW_CA_RUN, F.TRU_FW_CA_SVN, F.TRU_FW_CA_SVN_MIN, F.TRU_FW_CB_A_OK, F.TRU_FW_CB_B_OK, F.TRU_FW_CB_FALLBACK, F.TRU_FW_CB_PREF, F.TRU_FW_CB_RUN, F.TRU_FW_CB_SVN, F.TRU_FW_CB_SVN_MIN, F.TRU_FW_VER_CA, F.TRU_FW_VER_CB, F.TRU_QCAUSE_MASK, F.TRU_STAT_CLR_ARMED, F.TRU_STAT_HOST_N, F.TRU_STAT_PLANT_N, F.TRU_STAT_RKEY_OK, F.TRU_STAT_SE_CA_OK, F.TRU_STAT_SE_CB_OK])
  | .attOk => some ([], [F.EVT_STAT_LOST])
  | .attRej => some ([], [F.EVT_STAT_LOST])
  | .calDone => some ([], [F.EVT_STAT_LOST])
  | .calibrate => some ([], [F.EVT_STAT_LOST])
  | .hold => some ([], [F.EVT_STAT_LOST])
  | .resume => some ([], [F.EVT_STAT_LOST])
  | .service => some ([], [F.EVT_STAT_LOST])
  | .exitSvc => some ([], [F.EVT_STAT_LOST])
  | .stop => some ([], [F.EVT_STAT_LOST])
  | .recover => some ([], [F.EVT_STAT_LOST])
  | .stopCauseRead => some ([], [F.BAY_STAT_CLR_ARMED])
  | .eventRelease => some ([], [F.SQ_STAT_DROP 0])
  | .timeMark => some ([], [F.SQ_STAT_DROP 0])
  | .rdValRead => some ([], [])
  | .lostClr => some ([], [F.EVT_STAT_LOST])
  | .timeMessage _ => some ([], [F.EVT_STAT_LOST, F.TIME_OFFSET, F.TIME_STAT_EPOCH_TAI, F.TIME_STAT_FREE_RUN, F.TIME_STAT_LOCK, F.TIME_STAT_MASTER, F.TIME_STAT_SRC, F.TIME_STAT_STEPPED, F.TIME_STEER, F.TIME_STEP_LAST, F.TIME_UTC_OFS])
  | .lockTimeout => some ([], [F.EVT_STAT_LOST, F.TIME_STAT_LOCK])
  | .freeRun => some ([], [F.EVT_STAT_LOST, F.TIME_STAT_FREE_RUN])
  | .ptpLoss => some ([], [F.EVT_STAT_LOST, F.TIME_STAT_FREE_RUN])
  | .linkHandshake _ _ => some ([], [F.EVT_STAT_LOST, F.WVE_PORT_P0, F.WVE_PORT_P1, F.WVE_PORT_P2, F.WVE_PORT_P3, F.WVE_PORT_P4, F.WVE_PORT_P5])
  | .weaveFrameReceive _ _ => some ([.rta, .rtb], [F.EVT_STAT_LOST, F.WVE_PORT_P0, F.WVE_PORT_P1, F.WVE_PORT_P2, F.WVE_PORT_P3, F.WVE_PORT_P4, F.WVE_PORT_P5, F.WVE_REPAIR, F.WVE_REPLAY, F.WVE_TAG_ERR])
  | .linkKeepalive _ => some ([], [])
  | .linkTimeout _ _ => some ([.rta, .rtb], [F.EVT_STAT_LOST, F.WVE_PORT_P0, F.WVE_PORT_P1, F.WVE_PORT_P2, F.WVE_PORT_P3, F.WVE_PORT_P4, F.WVE_PORT_P5, F.WVE_REPAIR])
  | .rekey _ => some ([], [])
  | .ackSend => some ([], [])
  | .retransmit _ => some ([], [F.WVE_RETX])
  | .discover => some ([], [F.BIND_BOUND 0, F.BIND_SER 0, F.EVT_STAT_LOST, F.WVE_STAT_DISC_BUSY])
  | .probe => some ([], [])
  | .announce _ _ _ => some ([], [F.BIND_BOUND 0, F.BIND_SER 0, F.EVT_STAT_LOST])
  | .bind _ => some ([], [])
  | .bindAck _ => some ([], [])
  | .routingTables _ _ _ => some ([], [])
  | .unbind _ => some ([], [F.BIND_BOUND 0, F.BIND_SER 0, F.EVT_STAT_LOST])
  | .linkDown _ _ _ => some ([.rta, .rtb], [F.EVT_STAT_LOST, F.WVE_REPAIR])
  | .remoteEvent _ _ => some ([], [F.EVT_STAT_LOST])
  | .heartbeat _ _ _ => some ([], [F.EVT_STAT_LOST, F.WVE_STAT_DISC_BUSY, F.WVE_STAT_RIM, F.WVE_STAT_RIM_NODE])
  | .heartbeatTimeout => some ([], [F.BIND_BOUND 0, F.BIND_SER 0, F.EVT_STAT_LOST, F.TIME_STAT_MASTER, F.WVE_STAT_DISC_BUSY, F.WVE_STAT_RIM, F.WVE_STAT_RIM_NODE])
  | .rimTake => some ([], [F.BIND_BOUND 0, F.BIND_SER 0, F.EVT_STAT_LOST, F.TIME_STAT_MASTER, F.WVE_STAT_DISC_BUSY, F.WVE_STAT_RIM, F.WVE_STAT_RIM_NODE])
  | .sessionOpen _ _ _ _ => some ([], [F.AUTH_ENROLLED 0, F.AUTH_ID 0, F.AUTH_RIGHTS 0, F.EVT_STAT_LOST, F.TRU_STAT_HOST_N, F.TRU_STAT_PLANT_N])
  | .sessionClose _ => some ([], [F.EVT_STAT_LOST])
  | .sessionIdleTimeout _ => some ([], [F.EVT_STAT_LOST])
  | .read _ _ _ _ _ => none
  | .write _ _ _ _ _ => none
  | .bulkRead _ _ _ _ _ => none
  | .bulkWrite _ _ _ _ _ => none
  | .streamRead _ _ _ _ _ => some ([], [F.EVT_STAT_LOST, F.SQ_STAT_UNDERRUN 0])
  | .rimMark _ _ _ _ _ => some ([], [F.EVT_STAT_LOST])
  | .rewind _ _ _ _ => some ([], [F.EVT_STAT_LOST])
  | .release _ _ _ _ _ => some ([], [F.CHN_REC_FILL 0, F.CHN_REC_STAT_DROPPED 0, F.CHN_REC_STAT_FULL 0, F.CHN_REC_STAT_WARN 0, F.CHN_REG_STAT_CLR_ARMED 0, F.CHN_REG_STAT_HOLD_CAUSE 0, F.CHN_REG_STAT_MODE 0, F.CHN_REG_STAT_WATCH 0, F.EISCH_STAT_END 0, F.EISCH_STAT_PFLAGS 0, F.EISCH_STAT_RUN 0, F.EISCH_STAT_SETTLE 0, F.EIS_STAT_SWEEPING, F.EVT_STAT_LOST, F.SEC_STAT_STATE 0])
  | .ping _ _ => some ([], [])
  | .reservedRimType _ _ => some ([], [])
  | .canFrameReceive _ _ => some ([], [F.CFD_AUTO_STAT_CAND 0, F.CFD_AUTO_STAT_DFOUND 0, F.CFD_AUTO_STAT_DONE 0, F.CFD_DBT_DBRP 0, F.CFD_DBT_DSJW 0, F.CFD_DBT_DTSEG1 0, F.CFD_DBT_DTSEG2 0, F.CFD_NBT_NBRP 0, F.CFD_NBT_NSJW 0, F.CFD_NBT_NTSEG1 0, F.CFD_NBT_NTSEG2 0, F.EVT_STAT_LOST])
  | .canTxDone _ _ _ _ => some ([], [F.EVT_STAT_LOST])
  | .canBusError _ _ => some ([], [F.CFD_AUTO_STAT_CAND 0, F.CFD_AUTO_STAT_CYCLES 0, F.EVT_STAT_LOST])
  | .canRecoveryReady _ => some ([], [])
  | .canRecoveryDelay _ => some ([], [])
  | .req _ _ => some ([], [F.EVT_STAT_LOST])
  | .abort _ _ _ => some ([], [F.EVT_STAT_LOST])
  | .objTimeout _ _ _ => some ([], [F.EVT_STAT_LOST])
  | .clashClr _ => some ([], [F.CFD_CLASH_ID_ID 0, F.CFD_CLASH_ID_IDE 0, F.CFD_STAT_CLASH 0, F.EVT_STAT_LOST, F.OBJ_STAT_SUSP 0])
  | .recReq _ => some ([], [F.EVT_STAT_LOST])
  | .canMode _ _ => some ([], [F.CFD_CTL_MODE 0, F.EVT_STAT_LOST])
  | .rateCandidateTimeout _ => some ([], [F.CFD_AUTO_STAT_CAND 0, F.CFD_AUTO_STAT_CYCLES 0])
  | .attGo => some ([], [F.EVT_STAT_LOST, F.TRU_ATT_STAT_BUSY, F.TRU_ATT_STAT_READY, F.TRU_ATT_STAT_READ_CA, F.TRU_ATT_STAT_READ_CB])
  | .quoteReady => some ([], [F.EVT_STAT_LOST, F.TRU_ATT_STAT_BUSY, F.TRU_ATT_STAT_READY])
  | .quoteRead _ => some ([], [F.TRU_ATT_STAT_READ_CA, F.TRU_ATT_STAT_READ_CB])
  | .enrGo _ => some ([], [F.AUTH_ENROLLED 0, F.AUTH_ID 0, F.AUTH_PENDING 0, F.AUTH_RIGHTS 0, F.EVT_STAT_LOST, F.IMG_ID 0, F.IMG_SIZE 0, F.IMG_STAT_AUTH 0, F.IMG_STAT_STORED 0, F.IMG_VER 0, F.SAFE_PEND_CRC, F.SAFE_PEND_ID, F.SAFE_STAT_PEND_OK, F.SKN_LOAD_STAT_COUNT, F.SKN_TBL_FREE, F.TRU_ENR_SEQ, F.TRU_ENR_STAT_RESULT, F.TRU_STAT_HOST_N, F.TRU_STAT_PLANT_N, F.TRU_STAT_RKEY_OK])
  | .enrolmentApply => some ([], [F.AUTH_ENROLLED 0, F.AUTH_ID 0, F.AUTH_PENDING 0, F.AUTH_RIGHTS 0, F.EVT_STAT_LOST, F.IMG_ID 0, F.IMG_SIZE 0, F.IMG_STAT_AUTH 0, F.IMG_STAT_STORED 0, F.IMG_VER 0, F.SAFE_PEND_CRC, F.SAFE_PEND_ID, F.SAFE_STAT_PEND_OK, F.SKN_LOAD_STAT_COUNT, F.SKN_TBL_FREE, F.TRU_STAT_HOST_N, F.TRU_STAT_PLANT_N, F.TRU_STAT_RKEY_OK])
  | .commissioningButton _ => some ([], [F.TRU_ENR_STAT_WINDOW])
  | .commissioningTimeout => some ([], [F.TRU_ENR_STAT_WINDOW])
  | .rkeyNew => some ([], [F.EVT_STAT_LOST, F.TRU_STAT_RKEY_OK])
  | .verRebuild => some ([], [F.EVT_STAT_LOST])
  | .fwPrefA => some ([], [F.EVT_STAT_LOST, F.TRU_FW_CA_PREF, F.TRU_FW_CB_PREF])
  | .fwPrefB => some ([], [F.EVT_STAT_LOST, F.TRU_FW_CA_PREF, F.TRU_FW_CB_PREF])
  | .qRestart _ => some ([], [F.EVT_STAT_LOST])
  | .qcauseRead => some ([], [F.TRU_STAT_CLR_ARMED])
  | .fwlLastRead => some ([], [F.TRU_STAT_REL_ARMED])
  | .rel _ => some ([], [F.EVT_STAT_LOST, F.TRU_FRZ_DMA, F.TRU_FRZ_INGRESS, F.TRU_FRZ_PAIR, F.TRU_STAT_REL_ARMED])
  | .chunk => some ([], [F.EVT_STAT_LOST, F.TRU_FWU_STAT_BUSY, F.TRU_FWU_STAT_VERIFIED])
  | .chunkDone => some ([], [F.TRU_FWU_STAT_BUSY, F.TRU_FWU_STAT_PARTS, F.TRU_FWU_STAT_RESULT, F.TRU_FW_CA_A_OK, F.TRU_FW_CA_B_OK, F.TRU_FW_CB_A_OK, F.TRU_FW_CB_B_OK])
  | .verify => some ([], [F.EVT_STAT_LOST, F.TRU_FWU_STAT_BUSY])
  | .verifyDone => some ([], [F.EVT_STAT_LOST, F.TRU_FWU_STAT_BUSY, F.TRU_FWU_STAT_PARTS, F.TRU_FWU_STAT_RESULT, F.TRU_FWU_STAT_VERIFIED, F.TRU_FW_CA_A_OK, F.TRU_FW_CA_B_OK, F.TRU_FW_CB_A_OK, F.TRU_FW_CB_B_OK])
  | .restart => some ([], [F.EVT_STAT_LOST])
  | .latchRelease _ => some ([], [F.AXS_STAT_STATE 0, F.EVT_STAT_LOST, F.SAFE_STAT_HANDOVER])
  | .extractionLockOpen _ => some ([], [F.EVT_STAT_LOST])
  | .latchLocked _ => some ([], [F.EVT_STAT_LOST, F.SAFE_STAT_HANDOVER])
  | .lockReclose _ => some ([], [])
  | .serviceKeyOpen _ => some ([], [F.EVT_STAT_LOST])
  | .cartridgeRemoved _ => none
  | .cartridgeInserted _ _ => none
  | .nodeVoltageRecovered _ => some ([], [F.PWR_NODE_V])
  | .cartridgePrechargeDone _ => some ([], [F.EVT_STAT_LOST, F.SEC_STAT_STATE 0])
  | .ovenLost => some ([], [F.EVT_STAT_LOST, F.MEAS_STAT_OVEN_RDY, F.MEAS_WARM])
  | .certDueReached => some ([], [F.EVT_STAT_LOST, F.MEAS_STAT_CERT_DUE])
  | .lineFaultCleared _ _ => some ([], [F.POS_STAT_LINE_FLT 0])
  | .safetySupplyRestored => some ([], [F.SAFE_STAT_SUPPLY_OK])
  | .linkDelayMeasurement _ _ => some ([], [])
  | .rimTimeSend => some ([], [])
  | .rimHeartbeatSend => some ([], [])
  | .ptpMessage _ _ => some ([], [F.EVT_STAT_LOST, F.TIME_OFFSET, F.TIME_STAT_EPOCH_TAI, F.TIME_STAT_FREE_RUN, F.TIME_STAT_LOCK, F.TIME_STAT_SRC, F.TIME_STAT_STEPPED, F.TIME_STEER, F.TIME_STEP_LAST, F.TIME_UTC_OFS])
  | .dataRateTimeout _ => some ([], [F.CFD_AUTO_STAT_DONE 0, F.EVT_STAT_LOST])

/-- The commands that may move bay time: the frame edge, the events that stand at a fixed offset in the frame (R24), the turns of the engines, each in its slot (R196), and the messages that step bay time (R402). -/
def movesTime (i : Instr) : Bool :=
  match i with
  | .registerWrite _ _ => false
  | .frameEdge _ => true
  | .sampleFrameSend => true
  | .sampleFrameExchange _ _ _ => true
  | .commandFrameSend _ => true
  | .commandFrameReceive _ _ _ => true
  | .holderMiss _ => true
  | .computeDeadline _ => true
  | .commandFrameTimeout _ => true
  | .msTick _ => false
  | .termination _ => false
  | .safetyTimerExpire _ => false
  | .stepTimeExpire _ => false
  | .pulseLevelChange _ => false
  | .zoneChange _ => false
  | .topoffEnd _ => false
  | .legacyRecharge _ => false
  | .intervalClose => false
  | .sealTrigger _ => false
  | .sealWritten _ _ => false
  | .ringNearFull _ => false
  | .ringFull _ => false
  | .ringSpaceReturn _ => false
  | .cellEnd _ => false
  | .holdClr _ => false
  | .regStatRead _ => false
  | .temperatureSample _ _ _ => false
  | .sensorRateSlow _ => false
  | .flowLoss => false
  | .compensationUpdate => false
  | .tsdRead => false
  | .tsdClr => false
  | .x1Low _ => false
  | .plantBusLoss _ => false
  | .x1Overvoltage _ => false
  | .x1Overcurrent _ => false
  | .contactorMismatch => false
  | .connect => false
  | .lockoutExpire => false
  | .prechargeDone _ => false
  | .contactorConfirmed => false
  | .prechargeTimeout => false
  | .openEntry => false
  | .plannedDisconnectDone => false
  | .nodeOvervoltage _ => false
  | .sectionBusOvervoltage _ _ => false
  | .overloadBudgetEmpty _ => false
  | .overloadBudgetRefilled _ => false
  | .drain _ => false
  | .drainComplete _ => false
  | .run _ => false
  | .axisBusReturn _ => false
  | .brakeChopperSwitch _ => false
  | .axisBusOvervoltage _ => false
  | .axisBusUndervoltage _ => false
  | .chopperFault _ => false
  | .chopperTestStart => false
  | .chopperTestPhase _ => false
  | .chopperTestResult _ => false
  | .donorLost _ => false
  | .rideThroughTimeout => false
  | .rideThroughNodeLow _ => false
  | .plantBusReturn _ => false
  | .peakLimit _ => false
  | .peakLimitPersistent _ _ => false
  | .rpathUpdate _ _ => false
  | .channelShed _ => false
  | .phaseReinstate _ _ => false
  | .allPhaseFire _ => false
  | .cellSwitchClosed _ _ => false
  | .prebiasTimeout _ => false
  | .softStopComplete _ => false
  | .overvoltageLatch _ _ _ => false
  | .fltRead _ => false
  | .ovClr _ => false
  | .cellAbsent _ _ => false
  | .crowbarEnd _ => false
  | .absClr _ => false
  | .phaseOutOfService _ _ _ => false
  | .phClr _ => false
  | .fltClr _ => false
  | .strokeWord _ _ => false
  | .strokeKeepalive _ => false
  | .statusWord _ _ _ _ _ _ _ => false
  | .strokeLinkLost _ => false
  | .phasePumpTrip _ _ => false
  | .cellSwitchPumpLow _ _ => false
  | .channelSafeOffDrop _ => false
  | .channelSafeOffRelease _ => false
  | .framRecordWritten _ => false
  | .rangeUp _ _ => false
  | .rangeDown _ => false
  | .rangeBridgeEnd _ => false
  | .spectralBoundary _ => false
  | .precisionWindowClose _ => false
  | .mainsWrite _ => false
  | .refCtlWrite _ => false
  | .refReady _ => false
  | .scalCtlWrite _ => false
  | .selfCalSlot _ _ _ => false
  | .selfCalComplete _ => false
  | .ovenReady => false
  | .meterEntry => false
  | .meterResult _ => false
  | .lowWordRead _ => false
  | .hcmdGo => false
  | .hcmdAbort => false
  | .sweepEdge => false
  | .pointStart _ => false
  | .settlePeriodEnd _ => false
  | .measureWindowClose _ => false
  | .pointResult _ => false
  | .gradingVector _ => false
  | .engineStart _ => false
  | .engineStop _ => false
  | .enginePause _ => false
  | .engineResume _ => false
  | .engineRelease _ => false
  | .hsig _ => false
  | .scmdStart => false
  | .scmdStop => false
  | .scmdPause => false
  | .scmdResume => false
  | .engineStartEdge _ => false
  | .frzRead _ => false
  | .skNop _ => true
  | .skHalt _ => true
  | .skEnd _ => true
  | .skTrap _ => true
  | .skLdi _ => true
  | .skLdw _ => true
  | .skMov _ => true
  | .skAdd _ => true
  | .skSub _ => true
  | .skMul _ => true
  | .skDiv _ => true
  | .skMin _ => true
  | .skMax _ => true
  | .skAbs _ => true
  | .skCmp _ => true
  | .skCmpi _ => true
  | .skBr _ => true
  | .skCall _ => true
  | .skRet _ => true
  | .skLoop _ => true
  | .skSeti _ => true
  | .skSetv _ => true
  | .skSetp _ => true
  | .skMode _ => true
  | .skRamp _ => true
  | .skPulse _ => true
  | .skPress _ => true
  | .skWait _ => true
  | .skWaitt _ => true
  | .waittTimeout _ => false
  | .skGet _ => true
  | .skGeta _ => true
  | .skClra _ => true
  | .skZone _ => true
  | .skStep _ => true
  | .skCurve _ => true
  | .skTerm _ => true
  | .skSafet _ => true
  | .skSweep _ => true
  | .skSweepStop _ => true
  | .skGrade _ => true
  | .skMark _ => true
  | .skLog _ => true
  | .skJoin _ => true
  | .skSignal _ => true
  | .skDonate _ => true
  | .skLegacy _ => true
  | .reservedOpcode _ => true
  | .groupArrivalMessage _ _ _ _ _ _ => false
  | .groupRelease _ => false
  | .groupTimeout _ => false
  | .groupAbort _ => false
  | .groupBreak _ => false
  | .loadGo => false
  | .loadComplete => false
  | .delete => false
  | .dlClr => false
  | .arm _ => false
  | .force _ => false
  | .traceCaptureEnd _ => false
  | .traceCopyDone _ => false
  | .axisStart _ => false
  | .axisStop _ => false
  | .axisStopComplete _ => false
  | .axsFltRead _ => false
  | .axsFltClr _ => false
  | .stoLineDrop => false
  | .catchWindowEnd _ => false
  | .polarityTest _ _ _ => false
  | .torqueEnable _ => false
  | .brakeRelease _ => false
  | .axisRun _ => false
  | .startTimeout _ => false
  | .feedbackDisagree _ => false
  | .i2tEmpty _ => false
  | .i2tRecover _ => false
  | .loadCellRange _ => false
  | .pressHoldEntry _ => false
  | .pressHoldRamp _ => false
  | .pressRetrim _ => false
  | .retrimForce _ => false
  | .pressReleased _ => false
  | .x60Loss _ => false
  | .x60Restore _ => false
  | .desaturation _ => false
  | .fastOvercurrent _ => false
  | .twoLegShort _ _ => false
  | .phaseOpen _ => false
  | .currentSenseLost _ => false
  | .toothEdge _ _ _ _ _ _ => false
  | .illegalTransition _ _ => false
  | .lineFault _ _ => false
  | .speedTimeout _ => false
  | .ssiWord _ _ _ _ _ => false
  | .refClr _ => false
  | .cmpArm _ => false
  | .cmpStop _ => false
  | .fifoClr _ => false
  | .hitThiRead _ => false
  | .passthroughResume => false
  | .safetyCycle _ => false
  | .discrepancyFault _ => false
  | .cat1Stop _ => false
  | .testPulse _ => false
  | .lineTest _ _ => false
  | .lineTestDue => false
  | .feedbackTimeout _ => false
  | .resetPress _ _ => false
  | .resetStuck => false
  | .safetySupplyLost => false
  | .hoCa => false
  | .hoCb => false
  | .upsettSilent _ _ => false
  | .degradedWarn => false
  | .degradedTimeExpire => false
  | .upsettSelfTestDone _ _ _ _ => false
  | .upsettRejoin _ => false
  | .activate => false
  | .pairingLaneLost _ _ => false
  | .pairingLinkLost _ => false
  | .joinBootDone _ _ => false
  | .bulkCopyDone => false
  | .stateCopyDone => false
  | .provingDone => false
  | .resync => false
  | .swap => false
  | .redFltRead => false
  | .fwAlignDone => false
  | .strobeMissing _ => false
  | .strobeDisagree _ => false
  | .oscillatorFail => false
  | .partnerRepair _ _ => false
  | .scrGo _ => false
  | .scrStop _ => false
  | .scrubComplete _ => false
  | .injGo _ => false
  | .cntClr _ => false
  | .dmaRst _ _ => false
  | .memoryInitDone _ _ => false
  | .powerUp => false
  | .powerDown => false
  | .controlSupplyChange _ _ => false
  | .bootComplete _ _ => false
  | .attOk => false
  | .attRej => false
  | .calDone => false
  | .calibrate => false
  | .hold => false
  | .resume => false
  | .service => false
  | .exitSvc => false
  | .stop => false
  | .recover => false
  | .stopCauseRead => false
  | .eventRelease => false
  | .timeMark => false
  | .rdValRead => false
  | .lostClr => false
  | .timeMessage _ => true
  | .lockTimeout => false
  | .freeRun => false
  | .ptpLoss => false
  | .linkHandshake _ _ => false
  | .weaveFrameReceive _ _ => false
  | .linkKeepalive _ => false
  | .linkTimeout _ _ => false
  | .rekey _ => false
  | .ackSend => false
  | .retransmit _ => false
  | .discover => false
  | .probe => false
  | .announce _ _ _ => false
  | .bind _ => false
  | .bindAck _ => false
  | .routingTables _ _ _ => false
  | .unbind _ => false
  | .linkDown _ _ _ => false
  | .remoteEvent _ _ => false
  | .heartbeat _ _ _ => false
  | .heartbeatTimeout => false
  | .rimTake => false
  | .sessionOpen _ _ _ _ => false
  | .sessionClose _ => false
  | .sessionIdleTimeout _ => false
  | .read _ _ _ _ _ => false
  | .write _ _ _ _ _ => false
  | .bulkRead _ _ _ _ _ => false
  | .bulkWrite _ _ _ _ _ => false
  | .streamRead _ _ _ _ _ => false
  | .rimMark _ _ _ _ _ => false
  | .rewind _ _ _ _ => false
  | .release _ _ _ _ _ => false
  | .ping _ _ => false
  | .reservedRimType _ _ => false
  | .canFrameReceive _ _ => false
  | .canTxDone _ _ _ _ => false
  | .canBusError _ _ => false
  | .canRecoveryReady _ => false
  | .canRecoveryDelay _ => false
  | .req _ _ => false
  | .abort _ _ _ => false
  | .objTimeout _ _ _ => false
  | .clashClr _ => false
  | .recReq _ => false
  | .canMode _ _ => false
  | .rateCandidateTimeout _ => false
  | .attGo => false
  | .quoteReady => false
  | .quoteRead _ => false
  | .enrGo _ => false
  | .enrolmentApply => false
  | .commissioningButton _ => false
  | .commissioningTimeout => false
  | .rkeyNew => false
  | .verRebuild => false
  | .fwPrefA => false
  | .fwPrefB => false
  | .qRestart _ => false
  | .qcauseRead => false
  | .fwlLastRead => false
  | .rel _ => false
  | .chunk => false
  | .chunkDone => false
  | .verify => false
  | .verifyDone => false
  | .restart => false
  | .latchRelease _ => false
  | .extractionLockOpen _ => false
  | .latchLocked _ => false
  | .lockReclose _ => false
  | .serviceKeyOpen _ => false
  | .cartridgeRemoved _ => false
  | .cartridgeInserted _ _ => false
  | .nodeVoltageRecovered _ => false
  | .cartridgePrechargeDone _ => false
  | .ovenLost => false
  | .certDueReached => false
  | .lineFaultCleared _ _ => false
  | .safetySupplyRestored => false
  | .linkDelayMeasurement _ _ => false
  | .rimTimeSend => false
  | .rimHeartbeatSend => false
  | .ptpMessage _ _ => true
  | .dataRateTimeout _ => false

/-- The commands that may change a byte or a mark of a memory: host and session writes, loading, copying, storing a trace, initialising, repairing, scrubbing and injecting; a frame edge lets words fail and scrubbing go on. -/
def touchesMemory (i : Instr) : Bool :=
  match i with
  | .registerWrite _ _ => true
  | .frameEdge _ => true
  | .traceCopyDone _ => true
  | .loadComplete => true
  | .bulkCopyDone => true
  | .joinBootDone _ _ => true
  | .cartridgeRemoved _ => true
  | .memoryInitDone _ _ => true
  | .partnerRepair _ _ => true
  | .scrubComplete _ => true
  | .scrStop _ => true
  | .injGo _ => true
  | .write _ _ _ _ _ => true
  | .bulkWrite _ _ _ _ _ => true
  | _ => false

/-- No entry of the log stands before one that comes earlier in the order of R396. -/
def logInOrder (l : List EvEntry) : Prop := l.Pairwise (fun x y => evBefore y x = false)

/-- The log's entries have their places, one of which is kept for event 251 while no overflow episode runs (R395). -/
def logSized (b : Bay) : Prop := b.log.length ≤ 4096 ∧ (b.episode = false → b.log.length ≤ 4095)

end Sys2Proof
end

