-- ==== Sys2Proof/Certificates/Slice0/Obligations.lean ====
section
/-! DEFINITION. The statements about the bay, one per obligation: rows of one family a statement, each clause a row with what it needs and what it leaves. `completes c s P` says that the command answers a next state with the memories and the queue as they were and a bay that meets `P`. -/

open Sys2Proof Sys2Proof.Machine

/-- Plant-bus entry (R44 to R49, R64): what each line of its state machine leaves. Voltages in mV, currents in mA. A row delivered without its condition has no effect (log entry 58). -/
def Obligations.PlantBusEntry : Prop := ∀ s : State,
  (∀ v : Int, 600000 ≤ v → v < 650000 →
    completes (.x1Low v) s (fun b => b.rd F.PWR_X1_V = v ∧ b.rd F.PWR_ENTRY_STAT_X1_LOW = 1 ∧
      keepsRegs s.bay b [F.PWR_X1_V, F.PWR_ENTRY_STAT_X1_LOW, F.EVT_STAT_LOST])) ∧
  (∀ v : Int, v < 600000 → s.bay.entState = Ent.closed → s.bay.flag F.PWR_RT_CTL_ENABLE = false →
    completes (.plantBusLoss v) s (fun b => b.rd F.PWR_X1_V = v ∧ b.entState = Ent.open_ ∧ b.rd F.PWR_ENTRY_STAT_CAUSE = 3 ∧
      b.plant.entryOn = false ∧ b.plant.relayOn = false ∧ b.plant.contOn = false)) ∧
  (∀ v : Int, 920000 < v → s.bay.entState = Ent.precharging →
    completes (.x1Overvoltage v) s (fun b => b.rd F.PWR_X1_V = v ∧ b.entState = Ent.open_ ∧ b.rd F.PWR_ENTRY_STAT_CAUSE = 4 ∧ b.plant.contOn = false)) ∧
  (∀ i : Int, 150000 < i.natAbs → s.bay.entState = Ent.precharging →
    completes (.x1Overcurrent i) s (fun b => b.rd F.PWR_X1_I = i ∧ b.entState = Ent.open_ ∧ b.rd F.PWR_ENTRY_STAT_CAUSE = 5)) ∧
  (completes .contactorMismatch s (fun b => b.entState = Ent.fault ∧ b.rd F.PWR_ENTRY_STAT_CAUSE = 7 ∧ b.plant.contOn = false ∧
    keepsRegs s.bay b [F.PWR_ENTRY_STAT_STATE, F.PWR_ENTRY_STAT_CAUSE, F.EVT_STAT_LOST])) ∧
  (s.bay.gate F.PWR_ENTRY_CTL_CONNECT = none → s.bay.mode = Mode.standby → s.bay.connectOk = true → (s.bay.plant.recentStarts s.bay.now).length < 3 →
    completes .connect s (fun b => b.entState = Ent.precharging ∧ b.plant.t0 = s.bay.now ∧ b.plant.relayOn = true ∧
      keepsRegs s.bay b [F.PWR_ENTRY_STAT_STATE])) ∧
  (s.bay.gate F.PWR_ENTRY_CTL_CONNECT = none → s.bay.mode = Mode.standby → s.bay.connectOk = true → 3 ≤ (s.bay.plant.recentStarts s.bay.now).length →
    completes .connect s (fun b => b.entState = Ent.lockout ∧ b.plant.lockEnd = s.bay.now + 300 * secTicks)) ∧
  (s.bay.entState = Ent.lockout → s.bay.plant.lockEnd ≤ s.bay.now →
    completes .lockoutExpire s (fun b => b.entState = Ent.open_ ∧ keepsRegs s.bay b [F.PWR_ENTRY_STAT_STATE])) ∧
  (∀ v : Int, s.bay.entState = Ent.precharging → (v - s.bay.rd F.PWR_X1_V).natAbs ≤ 20000 →
    completes (.prechargeDone v) s (fun b => b.rd F.PWR_NODE_V = v ∧ b.plant.contOn = true ∧ keepsRegs s.bay b [F.PWR_NODE_V])) ∧
  (s.bay.entState = Ent.precharging → s.bay.plant.contOn = true →
    completes .contactorConfirmed s (fun b => b.entState = Ent.closed ∧ b.plant.relayOn = false ∧ keepsRegs s.bay b [F.PWR_ENTRY_STAT_STATE])) ∧
  (s.bay.entState = Ent.precharging → s.bay.plant.contOn = false → s.bay.plant.t0 + 2 * secTicks ≤ s.bay.now →
    completes .prechargeTimeout s (fun b => b.entState = Ent.open_ ∧ b.rd F.PWR_ENTRY_STAT_CAUSE = 6 ∧ b.plant.relayOn = false)) ∧
  (s.bay.gate F.PWR_ENTRY_CTL_OPEN = none → s.bay.plant.rtOn = false → s.bay.entState = Ent.closed → s.bay.plant.planned = false →
    completes .openEntry s (fun b => b.plant.planned = true ∧ b.plant.t0 = s.bay.now)) ∧
  (s.bay.plant.planned = true → s.bay.entState = Ent.closed →
    completes .plannedDisconnectDone s (fun b => b.entState = Ent.open_ ∧ b.rd F.PWR_ENTRY_STAT_CAUSE = 1 ∧ b.plant.contOn = false ∧
      b.modeSt.plannedDone = s.bay.energisedMode)) ∧
  (∀ v : Int, v < 600000 → s.bay.plant.rtOn = false → (s.bay.entState = Ent.open_ ∨ s.bay.entState = Ent.lockout ∨ s.bay.entState = Ent.fault) →
    completes (.plantBusLoss v) s (fun b => b.rd F.PWR_X1_V = v ∧ b.entState = s.bay.entState ∧ (s.bay.mode = Mode.energized → 4 ∈ b.modeSt.stops))) ∧
  (∀ (v : Int) (d : Fin 64), v < 600000 → s.bay.plant.rtOn = false → s.bay.entState = Ent.closed → s.bay.flag F.PWR_RT_CTL_ENABLE = true → s.bay.xServes = true →
      (s.bay.mode = Mode.energized ∨ s.bay.mode = Mode.forming ∨ s.bay.mode = Mode.degraded) → d.val ∈ s.bay.rtCandidates →
    completes (.plantBusLoss v) s (fun b => b.rd F.PWR_X1_V = v ∧ b.entState = Ent.rideThrough ∧ b.rd F.PWR_ENTRY_STAT_CAUSE = 3 ∧ b.plant.entryOn = false ∧
      b.plant.rtOn = true ∧ b.plant.rtT0 = s.bay.now ∧ d.val ∈ b.plant.rtDonors ∧ b.rd F.PWR_X1_I = 0 ∧ b.rd F.BAY_STAT_HOLD_RT = 1)) ∧
  (∀ v : Int, 920000 < v → s.bay.plant.rtOn = false → s.bay.entState = Ent.closed → s.bay.flag F.PWR_RT_CTL_ENABLE = false →
    completes (.x1Overvoltage v) s (fun b => b.rd F.PWR_X1_V = v ∧ b.entState = Ent.open_ ∧ b.rd F.PWR_ENTRY_STAT_CAUSE = 4 ∧ b.plant.entryOn = false ∧
      b.plant.contOn = false ∧ (s.bay.mode = Mode.energized → 4 ∈ b.modeSt.stops))) ∧
  (∀ i : Int, 150000 < i.natAbs → s.bay.plant.rtOn = false → s.bay.entState = Ent.closed → s.bay.flag F.PWR_RT_CTL_ENABLE = false →
    completes (.x1Overcurrent i) s (fun b => b.rd F.PWR_X1_I = i ∧ b.entState = Ent.open_ ∧ b.rd F.PWR_ENTRY_STAT_CAUSE = 5 ∧ b.plant.entryOn = false ∧
      b.plant.contOn = false ∧ (s.bay.mode = Mode.energized → 4 ∈ b.modeSt.stops))) ∧
  (s.bay.gate F.PWR_ENTRY_CTL_CONNECT = none → s.bay.mode = Mode.standby → s.bay.connectOk = false →
    completes .connect s (fun b => b = s.bay.raiseD 242 s.bay.connectFails)) ∧
  (s.bay.gate F.PWR_ENTRY_CTL_OPEN = none → s.bay.plant.rtOn = false → s.bay.entState = Ent.precharging →
    completes .openEntry s (fun b => b.entState = Ent.open_ ∧ b.rd F.PWR_ENTRY_STAT_CAUSE = 1 ∧ b.plant.relayOn = false ∧ b.plant.contOn = false)) ∧
  (s.bay.gate F.PWR_ENTRY_CTL_OPEN = none → s.bay.plant.rtOn = false → s.bay.entState = Ent.open_ →
    completes .openEntry s (fun b => b = s.bay.refuse F.PWR_ENTRY_CTL_OPEN 4))

/-- The node and the wales (R50 to R52, R65, R513). Voltages in mV, currents in mA. A row delivered without its condition has no effect (log entry 58). -/
def Obligations.NodeAndWales : Prop := ∀ s : State,
  (∀ v : Int, 980000 < v →
    completes (.nodeOvervoltage v) s (fun b => b.rd F.PWR_NODE_V = v ∧ b.plant.nodeHigh = true ∧ b.rd F.PWR_AXBUS_RETURN = 0 ∧ (∀ n : Fin 4, s.bay.walePresent n = true → s.bay.rd (F.SEC_STAT_DIR n) = 2 → b.rd (F.SEC_STAT_DIR n) = 0) ∧
      keepsRegs s.bay b [F.PWR_NODE_V, F.PWR_AXBUS_RETURN, F.SEC_STAT_DIR 0, F.SEC_STAT_DIR 1, F.SEC_STAT_DIR 2, F.SEC_STAT_DIR 3, F.EVT_STAT_LOST])) ∧
  (∀ v : Int, v < 950000 →
    completes (.nodeVoltageRecovered v) s (fun b => b.rd F.PWR_NODE_V = v ∧ b.plant.nodeHigh = false ∧ keepsRegs s.bay b [F.PWR_NODE_V])) ∧
  (∀ (n : Fin 4) (v : Int), 26500 < v →
    completes (.sectionBusOvervoltage n v) s (fun b => b.rd (F.SEC_BUS_V n) = v ∧ b.rd (F.SEC_STAT_STATE n) = 3)) ∧
  (∀ h : Fin 6, s.bay.budgetOf h ≤ 0 → s.bay.capCont h = false →
    completes (.overloadBudgetEmpty h) s (fun b => b.capCont h = true)) ∧
  (∀ h : Fin 6, 0 < s.bay.budgetOf h → s.bay.capCont h = true →
    completes (.overloadBudgetRefilled h) s (fun b => b.capCont h = false)) ∧
  (∀ n : Fin 4, s.bay.gate (F.SEC_CTL_DRAIN n) = none → s.bay.waleEngines n = false → s.bay.rd (F.SEC_STAT_STATE n) = 0 →
      (s.bay.waleSt n).prechT0 = none →
    completes (.drain n) s (fun b => b.rd (F.SEC_STAT_STATE n) = 1)) ∧
  (∀ n : Fin 4, s.bay.rd (F.SEC_STAT_STATE n) = 1 → s.bay.waleSwitchClosed n = false →
    completes (.drainComplete n) s (fun b => b.rd (F.SEC_STAT_STATE n) = 2 ∧ (b.waleSt n).joined = false ∧ (b.waleSt n).convOn = false ∧
      keepsRegs s.bay b [F.SEC_STAT_STATE n, F.EVT_STAT_LOST])) ∧
  (∀ n : Fin 4, s.bay.gate (F.SEC_CTL_RUN n) = none → s.bay.rd (F.SEC_STAT_STATE n) = 2 → (s.bay.waleSt n).prechT0 = none →
    completes (.run n) s (fun b => (b.waleSt n).prechT0 = some s.bay.now ∧ keepsRegs s.bay b [])) ∧
  (∀ (n : Fin 5) (t : Nat), n.val < 4 → (s.bay.waleSt n).prechT0 = some t → t + 25 * secTicks / 10 ≤ s.bay.now →
    completes (.cartridgePrechargeDone n) s (fun b => (b.waleSt n).joined = true ∧ (b.waleSt n).convOn = true ∧
      b.rd (F.SEC_STAT_STATE n) = 0 ∧ keepsRegs s.bay b [F.SEC_STAT_STATE n, F.EVT_STAT_LOST]))

/-- The axis bus with its brake chopper (R53 to R56, R285) and the end of ride-through (R65 to R67). PWR.AXBUS.AXV counts 10 mV. A row delivered without its condition has no effect (log entry 58). -/
def Obligations.AxisBusAndRideThrough : Prop := ∀ s : State,
  (∀ v : Int,
    completes (.axisBusReturn v) s (fun b => b.rd F.PWR_AXBUS_AXV = v / 10 ∧
      (b.rd F.PWR_AXBUS_RETURN = 1 ↔ 50000 < v ∧ s.bay.plant.axConvOn = true ∧ s.bay.plant.nodeHigh = false) ∧
      keepsRegs s.bay b [F.PWR_AXBUS_AXV, F.PWR_AXBUS_RETURN])) ∧
  (∀ v : Int, 54000 < v → s.bay.plant.chopUnused = false →
    completes (.brakeChopperSwitch v) s (fun b => b.rd F.PWR_AXBUS_AXV = v / 10 ∧ b.rd F.PWR_AXBUS_CHOP_ON = 1 ∧ b.plant.chopPhase = 0 ∧
      keepsRegs s.bay b [F.PWR_AXBUS_AXV, F.PWR_AXBUS_CHOP_ON])) ∧
  (∀ v : Int, v < 52000 → s.bay.plant.chopPhase = 0 →
    completes (.brakeChopperSwitch v) s (fun b => b.rd F.PWR_AXBUS_AXV = v / 10 ∧ b.rd F.PWR_AXBUS_CHOP_ON = 0)) ∧
  (∀ v : Int, 52000 ≤ v → v ≤ 54000 →
    completes (.brakeChopperSwitch v) s (fun b => b.rd F.PWR_AXBUS_AXV = v / 10 ∧ keepsRegs s.bay b [F.PWR_AXBUS_AXV])) ∧
  (∀ v : Int, 58000 < v →
    completes (.axisBusOvervoltage v) s (fun b => b.rd F.PWR_AXBUS_AXV = v / 10 ∧ ∀ a : Fin 6, b.axState a = Ax.sto ∧
      (s.bay.axState a ≠ Ax.sto → b.rd (F.AXS_FLT_CAUSE a) = 9 ∧ b.rd (F.AXS_FLT_SECOND a) = 0))) ∧
  (∀ v : Int, v < 40000 →
    completes (.axisBusUndervoltage v) s (fun b => b.rd F.PWR_AXBUS_AXV = v / 10 ∧ ∀ a : Fin 6, b.axState a = Ax.sto ∧
      (s.bay.axState a ≠ Ax.sto → b.rd (F.AXS_FLT_CAUSE a) = 10 ∧ b.rd (F.AXS_FLT_SECOND a) = 0))) ∧
  (completes (.chopperFault true) s (fun b => b.rd F.PWR_AXBUS_CHOP_FLT = 1 ∧ b.plant.chopConducts = true ∧ b.plant.axConvOn = false ∧
    b.plant.limit17 = true ∧ ∀ a : Fin 6, b.axState a = Ax.sto)) ∧
  (completes (.chopperFault false) s (fun b => b.rd F.PWR_AXBUS_CHOP_FLT = 1 ∧ b.rd F.PWR_AXBUS_CHOP_ON = 0 ∧ b.plant.chopUnused = true)) ∧
  (s.bay.modeSt.chopDue = true → s.bay.xServes = true → s.bay.now % frameTicks = 0 → 4600 ≤ s.bay.rd F.PWR_AXBUS_AXV → s.bay.rd F.PWR_AXBUS_AXV ≤ 5000 →
      (∀ a ∈ allAxes, s.bay.axState a ≠ Ax.stopping) →
    completes .chopperTestStart s (fun b => b.plant.chopPhase = 1 ∧ b.plant.chopT0 = s.bay.now ∧ b.modeSt.chopDue = false ∧ b.rd F.PWR_AXBUS_CHOP_ON = 0)) ∧
  (∀ i : Int, s.bay.plant.chopPhase = 1 → s.bay.plant.chopT0 + 2 * msTicks ≤ s.bay.now →
    completes (.chopperTestPhase i) s (fun b => b.plant.chopPhase = 2 ∧ b.rd F.PWR_AXBUS_CHOP_ON = 1 ∧
      b.plant.chopLeak = (s.bay.plant.chopLeak || decide (100 ≤ i)) ∧ keepsRegs s.bay b [F.PWR_AXBUS_CHOP_ON])) ∧
  (∀ i : Int, s.bay.plant.chopPhase = 3 → s.bay.plant.chopT0 + 6 * msTicks ≤ s.bay.now → s.bay.plant.chopLeak = false → i < 100 → s.bay.plant.chopBad = false →
    completes (.chopperTestResult i) s (fun b => b.plant.chopPhase = 0 ∧ b.rd F.PWR_AXBUS_CHOP_FLT = 0 ∧ b.plant.chopUnused = false ∧
      keepsRegs s.bay b [F.PWR_AXBUS_CHOP_FLT])) ∧
  (∀ (c d : Fin 64), s.bay.plant.rtOn = true → s.bay.plant.rtDonors.contains c.val = true → s.bay.donorGone c = true →
      d.val ∈ s.bay.plant.rtDonors → d ≠ c →
    completes (.donorLost c) s (fun b => c.val ∉ b.plant.rtDonors ∧ d.val ∈ b.plant.rtDonors ∧ b.plant.rtOn = true ∧ keepsRegs s.bay b [])) ∧
  (s.bay.plant.rtOn = true → s.bay.entState = Ent.rideThrough → s.bay.plant.rtT0 + s.bay.rdN F.PWR_RT_CTL_TMAX * 60 * secTicks ≤ s.bay.now →
    completes .rideThroughTimeout s (fun b => b.rd F.PWR_RT_TIME = ((s.bay.now - s.bay.plant.rtT0) / msTicks : Nat) ∧ b.entState = Ent.open_ ∧
      b.plant.rtOn = false ∧ b.rd F.BAY_STAT_HOLD_RT = 0)) ∧
  (∀ v : Int, s.bay.plant.rtOn = true → s.bay.entState = Ent.rideThrough → v < 500000 →
    completes (.rideThroughNodeLow v) s (fun b => b.rd F.PWR_NODE_V = v ∧ b.entState = Ent.open_ ∧ b.plant.rtOn = false ∧ b.rd F.BAY_STAT_HOLD_RT = 0)) ∧
  (∀ (v : Int) (t : Nat), s.bay.plant.rtOn = true → s.bay.entState = Ent.rideThrough → s.bay.plant.okSince = some t → t + 2 * secTicks ≤ s.bay.now →
      (v - s.bay.rd F.PWR_X1_V).natAbs ≤ 20000 → s.bay.flag F.PWR_RT_CTL_AUTORES = false →
    completes (.plantBusReturn v) s (fun b => b.rd F.PWR_NODE_V = v ∧ b.entState = Ent.closed ∧ b.plant.rtOn = false ∧
      b.rd F.PWR_RT_TIME = ((s.bay.now - s.bay.plant.rtT0) / msTicks : Nat) ∧ b.rd F.BAY_STAT_HOLD_RT = 0))

/-- The phases of a channel (R75 to R82, R90, R97), its cell switch (R84, R85) and its latches (R87, R89). Currents in µA, voltages in µV. A row delivered without its condition has no effect (log entry 58). -/
def Obligations.ChannelPhasesAndCellSwitch : Prop := ∀ s : State,
  (∀ (c : Fin 64) (p : Fin 4) (i : Int), s.bay.phasePeak c ≤ i.natAbs →
    completes (.peakLimit ⟨c, p, i⟩) s (fun b => (b.stageOf c).peakNow = true ∧
      (s.bay.switches c = true → (b.driverOf c).legs = (s.bay.driverOf c).legs.set p (if 0 < i then .low else .high)) ∧
      (s.bay.switches c = false → b.driverOf c = s.bay.driverOf c) ∧ keepsRegs s.bay b [])) ∧
  (∀ (c : Fin 64) (p : Fin 4), s.bay.faultStands c = false →
    completes (.peakLimitPersistent c p) s (fun b => b.rd (F.CHN_FLT_CAUSE c) = 9 ∧ b.rd (F.CHN_FLT_SECOND c) = 0 ∧ b.rd (F.CHN_FLT_DETAIL c) = p.val ∧
      (b.stageOf c).peakNow = true ∧ b.rd (F.CHN_FLT_COUNT c) = min 255 (s.bay.rd (F.CHN_FLT_COUNT c) + 1) ∧ b.rd (F.CHN_STG_STAT_CLR_ARMED c) = 0)) ∧
  (∀ (c : Fin 64) (x : PathReading) (est : Int), ((s.bay.rpathSample c x.v x.node x.i).stageOf c).rpN ≠ 0 →
      ((s.bay.rpathSample c x.v x.node x.i).stageOf c).rpFrom + 100 * msTicks ≤ s.bay.now →
      truncR (((s.bay.rpathSample c x.v x.node x.i).stageOf c).rpSum / (((s.bay.rpathSample c x.v x.node x.i).stageOf c).rpN : Nat)) = est → 200 < est → est < 5000 →
    completes (.rpathUpdate c x) s (fun b => b.rd (F.CHN_RPATH c) = est ∧ (b.stageOf c).rpN = 0 ∧ keepsRegs s.bay b [F.CHN_RPATH c])) ∧
  (∀ (c : Fin 64) (t : Nat), (s.bay.stageOf c).lowSince = some t → t + msTicks ≤ s.bay.now → s.bay.flag (F.CHN_STG_CFG_SHED_EN c) = true →
      s.bay.switchClosed c = true → s.bay.flag (F.CHN_STG_STAT_SHED c) = false → (s.bay.stageOf c).iTgt.natAbs < 20000000 → (s.bay.rd (F.CHN_I c)).natAbs < 20000000 →
    completes (.channelShed c) s (fun b => b.rd (F.CHN_STG_STAT_SHED c) = 1 ∧ b.rd (F.CHN_STG_STAT_PH_ACT c) = (2 ^ s.bay.coolest c : Nat) ∧
      keepsRegs s.bay b [F.CHN_STG_STAT_SHED c, F.CHN_STG_STAT_PH_ACT c])) ∧
  (∀ (c : Fin 64) (i : Int), s.bay.flag (F.CHN_STG_STAT_SHED c) = true → 24000000 ≤ i.natAbs →
    completes (.phaseReinstate c i) s (fun b => b.rd (F.CHN_STG_STAT_SHED c) = 0 ∧ b.rd (F.CHN_STG_STAT_PH_ACT c) = s.bay.healthy c ∧
      keepsRegs s.bay b [F.CHN_STG_STAT_SHED c, F.CHN_STG_STAT_PH_ACT c])) ∧
  (∀ (c : Fin 64) (v before : Int), s.bay.switches c = true → 100 * v < 97 * s.bay.rd (F.CHN_NODE_REF c) → 3 * s.bay.rd (F.CHN_NODE_REF c) < 100 * (before - v) →
      ((s.bay.stageOf c).fireAt = 0 ∨ (s.bay.stageOf c).fireAt + 313 ≤ s.bay.now) →
    completes (.allPhaseFire ⟨c, v, before⟩) s (fun b => b.rd (F.CHN_NODE_V c) = v ∧ b.rd (F.CHN_AFIRE_CNT c) = (s.bay.rd (F.CHN_AFIRE_CNT c) + 1) % 4294967296 ∧
      b.rd (F.CHN_STG_STAT_SHED c) = 0 ∧ (b.stageOf c).rotation = 0 ∧ (b.stageOf c).fireAt = s.bay.now ∧
      keepsRegs s.bay b [F.CHN_NODE_V c, F.CHN_AFIRE_CNT c, F.CHN_STG_STAT_SHED c, F.CHN_STG_STAT_PH_ACT c])) ∧
  (∀ (c : Fin 64) (p : Fin 4) (open_ : Bool), (s.bay.rdN (F.CHN_STG_STAT_PH_OK c)).testBit p = true → (s.bay.rdN (F.CHN_STG_STAT_PH_ACT c)).testBit p = true →
    completes (.phaseOutOfService c p open_) s (fun b =>
      b.rd (F.CHN_STG_STAT_PH_OK c) = (clearBitN (s.bay.rdN (F.CHN_STG_STAT_PH_OK c)) p : Nat))) ∧
  (∀ (c : Fin 64) (p : Fin 4), (s.bay.rdN (F.CHN_STG_STAT_PH_OK c)).testBit p = true →
    completes (.phasePumpTrip c p) s (fun b =>
      b.rd (F.CHN_STG_STAT_PH_OK c) = (clearBitN (s.bay.rdN (F.CHN_STG_STAT_PH_OK c)) p : Nat))) ∧
  (∀ (c : Fin 64) (v : Int), s.bay.rd (F.CHN_STG_STAT_STAGE c) = Stg.prebias → (v - s.bay.rd (F.CHN_V c)).natAbs ≤ 20000 →
    completes (.cellSwitchClosed c v) s (fun b => b.rd (F.CHN_STG_STAT_CSW c) = 1 ∧ b.rd (F.CHN_STG_STAT_STAGE c) = Stg.run ∧ b.rd (F.CHN_NODE_V c) = v ∧
      (b.driverOf c).csw = true)) ∧
  (∀ c : Fin 64, s.bay.rd (F.CHN_STG_STAT_STAGE c) = Stg.prebias → (s.bay.stageOf c).prebiasT0 + 2 * msTicks ≤ s.bay.now →
    completes (.prebiasTimeout c) s (fun b => b.rd (F.CHN_STG_STAT_STAGE c) = Stg.off ∧ (b.stageOf c).closeBlocked = true)) ∧
  (∀ c : Fin 64, s.bay.switchClosed c = true → (s.bay.stageOf c).softStop = true → (s.bay.rd (F.CHN_I c)).natAbs < 1000000 → (s.bay.stageOf c).faulted = false →
    completes (.softStopComplete c) s (fun b => b.rd (F.CHN_STG_STAT_CSW c) = 0 ∧ b.rd (F.CHN_STG_STAT_STAGE c) = Stg.off ∧ b.rd (F.CHN_STG_STAT_PH_ACT c) = 0 ∧
      (b.driverOf c).csw = false)) ∧
  (∀ (c : Fin 64) (vn vs : Int), s.bay.vOv c < vn → (s.bay.stageOf c).ov = false →
    completes (.overvoltageLatch c vn vs) s (fun b => (b.stageOf c).ov = true ∧ b.rd (F.CHN_STG_STAT_STAGE c) = Stg.latchedOv ∧
      b.rd (F.CHN_STG_STAT_CSW c) = 0 ∧ b.rd (F.CHN_NODE_V c) = vn)) ∧
  (∀ (c : Fin 64) (slew : Bool), s.bay.switchClosed c = true → (s.bay.stageOf c).ov = false →
    completes (.cellAbsent c slew) s (fun b => (b.stageOf c).absent = true ∧ b.rd (F.CHN_STG_STAT_STAGE c) = Stg.cellAbsent ∧ b.rd (F.CHN_STG_STAT_CSW c) = 0 ∧
      (b.stageOf c).crowbarEnd = s.bay.now + msTicks)) ∧
  (∀ c : Fin 64, (s.bay.stageOf c).absent = true → (s.bay.stageOf c).crowbarEnd ≤ s.bay.now → (s.bay.stageOf c).ov = false →
    completes (.crowbarEnd c) s (fun b => (b.driverOf c).legs = [.off, .off, .off, .off] ∧ keepsRegs s.bay b [])) ∧
  (∀ (c : Fin 64) (trip : Bool),
    completes (.cellSwitchPumpLow c trip) s (fun b => (b.stageOf c).faulted = true ∧
      (trip = true → s.bay.switchClosed c = true → b.rd (F.CHN_STG_STAT_STAGE c) = Stg.fault ∧ b.rd (F.CHN_STG_STAT_CSW c) = 0) ∧
      (trip = false → s.bay.switchClosed c = true → (b.stageOf c).softStop = true ∧ b.rd (F.CHN_STG_STAT_CSW c) = s.bay.rd (F.CHN_STG_STAT_CSW c))))

/-- The armed clears of a channel's latches (R88, R89, R92, R105), the stroke links (R94, R97), safe-off (R98) and the fault memory (R103). A row delivered without its condition has no effect (log entry 58). -/
def Obligations.StrokeLinksSafeOffAndFaultMemory : Prop := ∀ s : State,
  (∀ c : Fin 64, s.bay.faultStands c = true →
    completes (.fltRead c) s (fun b => b.rd (F.CHN_STG_STAT_CLR_ARMED c) = 1 ∧ keepsRegs s.bay b [F.CHN_STG_STAT_CLR_ARMED c])) ∧
  (∀ c : Fin 64, s.bay.gate (F.CHN_STG_CTL_OV_CLR c) = none → s.bay.flag (F.CHN_STG_STAT_CLR_ARMED c) = true → (s.bay.stageOf c).ov = true →
      (s.bay.stageOf c).absent = false → (s.bay.stageOf c).faulted = false → s.bay.rd (F.CHN_STG_STAT_STAGE c) = Stg.latchedOv → s.bay.rd (F.CHN_V c) ≤ s.bay.vOv c →
    completes (.ovClr c) s (fun b => (b.stageOf c).ov = false ∧ b.rd (F.CHN_STG_STAT_STAGE c) = Stg.off ∧ b.rd (F.CHN_STG_STAT_CLR_ARMED c) = 0 ∧
      (b.driverOf c).legs = [.off, .off, .off, .off])) ∧
  (∀ c : Fin 64, s.bay.gate (F.CHN_STG_CTL_ABS_CLR c) = none → s.bay.flag (F.CHN_STG_STAT_CLR_ARMED c) = true → (s.bay.stageOf c).ov = false →
      (s.bay.stageOf c).faulted = false → s.bay.rd (F.CHN_STG_STAT_STAGE c) = Stg.cellAbsent →
    completes (.absClr c) s (fun b => (b.stageOf c).absent = false ∧ b.rd (F.CHN_STG_STAT_STAGE c) = Stg.off ∧ b.rd (F.CHN_STG_STAT_CLR_ARMED c) = 0)) ∧
  (∀ c : Fin 64, s.bay.gate (F.CHN_STG_CTL_PH_CLR c) = none → s.bay.flag (F.CHN_STG_STAT_CLR_ARMED c) = true →
    completes (.phClr c) s (fun b => b.rd (F.CHN_STG_STAT_PH_OK c) = 15 ∧ b.rd (F.CHN_STG_STAT_CLR_ARMED c) = 0)) ∧
  (∀ c : Fin 64, s.bay.gate (F.CHN_STG_CTL_FLT_CLR c) = none → s.bay.flag (F.CHN_STG_STAT_CLR_ARMED c) = true → (s.bay.stageOf c).ov = false →
      (s.bay.stageOf c).absent = false → s.bay.rd (F.CHN_STG_STAT_STAGE c) = Stg.fault →
    completes (.fltClr c) s (fun b => (b.stageOf c).faulted = false ∧ b.rd (F.CHN_STG_STAT_STAGE c) = Stg.off ∧ b.rd (F.CHN_STG_STAT_CLR_ARMED c) = 0)) ∧
  (∀ c : Fin 64, s.bay.gate (F.CHN_STG_CTL_OV_CLR c) = none → s.bay.flag (F.CHN_STG_STAT_CLR_ARMED c) = false →
    completes (.ovClr c) s (fun b => b = s.bay.refuse (F.CHN_STG_CTL_OV_CLR c) 5)) ∧
  (∀ (d : Fin 70) (w : BitVec 16), field w.toNat 0 4 = crc4 w.toNat → field w.toNat 13 3 ≠ 5 → field w.toNat 13 3 ≠ 6 →
      strokeApplies (field w.toNat 13 3) (field w.toNat 10 3) = true → field w.toNat 4 6 = (s.bay.driverOf d).seq →
    completes (.strokeWord d w) s (fun b => (b.driverOf d).seq = ((s.bay.driverOf d).seq + 1) % 64 ∧ (b.driverOf d).lastWord = s.bay.now ∧ keepsRegs s.bay b [])) ∧
  (∀ (c : Fin 64) (w : BitVec 16), field w.toNat 0 4 ≠ crc4 w.toNat →
    completes (.strokeWord ⟨c.val, by omega⟩ w) s (fun b => b.driverOf c = s.bay.driverOf c ∧
      b.rd (F.SEC_LINK_ERR (waleOf c)) = (s.bay.rd (F.SEC_LINK_ERR (waleOf c)) + 1) % 4294967296 ∧ keepsRegs s.bay b [F.SEC_LINK_ERR (waleOf c)])) ∧
  (∀ d : Fin 70, (s.bay.driverOf d).lost = false →
    completes (.strokeKeepalive d) s (fun b => (b.driverOf d).seq = ((s.bay.driverOf d).seq + 1) % 64 ∧ (b.driverOf d).lastWord = s.bay.now ∧
      keepsRegs s.bay b [])) ∧
  (∀ (d : Fin 70) (p0 p1 p2 p3 sw : Nat) (f : BitVec 8), p0 < 256 → p1 < 256 → p2 < 256 → p3 < 256 → sw < 256 →
    completes (.statusWord ⟨d, f⟩ true p0 p1 p2 p3 sw) s (fun b => (b.driverOf d).faults = f.toNat ∧ (b.driverOf d).pumps = [p0, p1, p2, p3, sw] ∧
      (d.val < 64 → b.rd (F.CHN_CP_V_P0 d) = p0 ∧ b.rd (F.CHN_CP_V_P1 d) = p1 ∧ b.rd (F.CHN_CP_V_P2 d) = p2 ∧
        b.rd (F.CHN_CP_V_P3 d) = p3 ∧ b.rd (F.CHN_CP_SW_VAL d) = sw) ∧ (64 ≤ d.val → keepsRegs s.bay b []))) ∧
  (∀ n : Fin 4, completes (.channelSafeOffDrop n) s (fun b =>
    ∀ c ∈ waleChans n, s.bay.rd (F.CHN_STG_STAT_STAGE c) = Stg.run → b.rd (F.CHN_STG_STAT_STAGE c) = Stg.safeOff ∧ b.rd (F.CHN_STG_STAT_CSW c) = 0 ∧
      (b.driverOf c).legs = [.off, .off, .off, .off])) ∧
  (∀ n : Fin 4, completes (.channelSafeOffRelease n) s (fun b =>
    ∀ c ∈ waleChans n, s.bay.rd (F.CHN_STG_STAT_STAGE c) = Stg.safeOff → b.rd (F.CHN_STG_STAT_STAGE c) = Stg.off)) ∧
  (∀ (n : Fin 4) (r : FramRec) (rest : List FramRec), (s.bay.framOf n).queue = r :: rest →
    completes (.framRecordWritten n) s (fun b => (b.framOf n).queue = rest ∧ (b.framOf n).next = ((s.bay.framOf n).next + 1) % 2016 ∧
      b.rd (F.SEC_FRAM_STAT_NEXT n) = (((s.bay.framOf n).next + 1) % 2016 : Nat) ∧ b.rd (F.SEC_FRAM_STAT_QUEUED n) = rest.length ∧
      b.rd (F.SEC_FRAM_SEQ n) = (s.bay.framOf n).seqNext ∧
      keepsRegs s.bay b [F.SEC_FRAM_SEQ n, F.SEC_FRAM_STAT_NEXT n, F.SEC_FRAM_STAT_QUEUED n, F.SEC_FRAM_STAT_BUSY n]))

/-- Channel regulation and the cell record (R138, R148 to R158, R160 to R165). `fastConds ++ slowConds` lists the conditions of R149 that hold, lowest first. A row delivered without its condition has no effect (log entry 58). -/
def Obligations.RegulationAndCellRecord : Prop := ∀ s : State,
  (∀ (x60 : List (Fin 6 × Int)) (c : Fin 64), s.bay.now % msTicks = 0 → (s.bay.chanOf c).live = true → (s.bay.chanOf c).holds = [] →
    completes (.msTick x60) s (fun b => b.rd (F.CHN_TMR c) = s.bay.rd (F.CHN_TMR c) + 1)) ∧
  (∀ c : Fin 64, (s.bay.chanOf c).live = true → s.bay.qualified c = true → s.bay.fastConds c ++ s.bay.slowConds c = [9] →
    completes (.termination c) s (fun b => (b.chanOf c).live = false ∧ b.rd (F.CHN_STEP_END_CAUSE c) = 9 ∧ b.rd (F.CHN_STEP_END_ALSO c) = 256 ∧
      b.rd (F.CHN_REG_STAT_TRM c) = 1)) ∧
  (∀ c : Fin 64, (s.bay.chanOf c).live = true → s.bay.fastConds c ++ s.bay.slowConds c = [6] →
    completes (.safetyTimerExpire c) s (fun b => (b.chanOf c).live = false ∧ b.rd (F.CHN_STEP_END_CAUSE c) = 6 ∧ 8 ∈ (b.chanOf c).holds)) ∧
  (∀ c : Fin 64, (s.bay.chanOf c).live = true → s.bay.fastConds c ++ s.bay.slowConds c = [10] →
    completes (.stepTimeExpire c) s (fun b => (b.chanOf c).live = false ∧ b.rd (F.CHN_STEP_END_CAUSE c) = 10 ∧ b.rd (F.CHN_REG_STAT_TO c) = 1)) ∧
  (∀ c : Fin 64, (s.bay.chanOf c).live = true → (s.bay.chanOf c).par.mode = 7 → (s.bay.chanOf c).holds = [] → s.bay.now % frameTicks = 0 →
      (s.bay.chanOf c).levelT0 + (max 1 (if (s.bay.chanOf c).secondLevel then (s.bay.chanOf c).par.t2 else (s.bay.chanOf c).par.t1)).toNat * msTicks ≤ s.bay.now →
    completes (.pulseLevelChange c) s (fun b => (b.chanOf c).secondLevel = (!(s.bay.chanOf c).secondLevel) ∧ (b.chanOf c).levelT0 = s.bay.now ∧ keepsRegs s.bay b [])) ∧
  (∀ (c : Fin 64) (z id i : Int) (t : Zoned), s.bay.now % frameTicks = 0 → (s.bay.chanOf c).live = true → (s.bay.chanOf c).zonePend = some z →
      (s.bay.chanOf c).src = .table id i → s.bay.zonedOf id = some t → z ≠ s.bay.rd (F.CHN_REG_STAT_ZONE c) → s.bay.failStep c (t.entry z i) = none →
    completes (.zoneChange c) s (fun b => b.rd (F.CHN_REG_STAT_ZONE c) = z ∧ b.rd (F.CHN_QUAL c) = 0 ∧ (b.chanOf c).par = t.entry z i ∧ (b.chanOf c).zonePend = none)) ∧
  (∀ c : Fin 64, s.bay.flag (F.CHN_REG_STAT_TOPOFF c) = true → (s.bay.chanOf c).live = true → (s.bay.chanOf c).leg.tTop ≤ (s.bay.chanOf c).topMs →
    completes (.topoffEnd c) s (fun b => b.rd (F.CHN_STEP_END_CAUSE c) = 9 ∧ b.rd (F.CHN_STEP_END_ALSO c) = 256 ∧ b.rd (F.CHN_REG_STAT_WATCH c) = 1)) ∧
  (∀ c : Fin 64, s.bay.flag (F.CHN_REG_STAT_WATCH c) = true → max 1 (s.bay.chanOf c).leg.tRqual ≤ (s.bay.chanOf c).watchMs → s.bay.rechargeSpent c = false →
    completes (.legacyRecharge c) s (fun b => b.rd (F.CHN_REG_STAT_WATCH c) = 0 ∧ b.rd (F.CHN_LEG_CNT c) = (s.bay.rd (F.CHN_LEG_CNT c) + 1) % 4294967296 ∧
      b.rd (F.CHN_TMR c) = 0 ∧ b.rd (F.CHN_SFT c) = 0 ∧ b.rd (F.CHN_QUAL c) = 0)) ∧
  (∀ c : Fin 64, s.bay.now % secTicks = 0 → s.bay.cellOpen c = true →
    completes .intervalClose s (fun b => (b.ringOf c).ivT0 = s.bay.now ∧ (b.ringOf c).ivMarks = 0 ∧ (b.ringOf c).ivN = 0)) ∧
  (∀ c : Fin 64, sealBlock ≤ (s.bay.ringOf c).sinceSeal → s.bay.cellOpen c = true →
    completes (.sealTrigger c) s (fun b => (b.ringOf c).sinceSeal = 0 ∧ (b.ringOf c).slots.length = (s.bay.ringOf c).slots.length + 10 ∧
      (b.ringOf c).sealDue.length = (s.bay.ringOf c).sealDue.length + 1)) ∧
  (∀ c : Fin 64, ringNearFull ≤ (s.bay.ringOf c).fill → completes (.ringNearFull c) s (fun b => 11 ∈ (b.chanOf c).holds)) ∧
  (∀ c : Fin 64, ringSlots ≤ (s.bay.ringOf c).fill →
    completes (.ringFull c) s (fun b => (b.ringOf c).full = true ∧ (b.stageOf c).stopReq = true ∧ (b.stageOf c).cswReq = false ∧ keepsRegs s.bay b [])) ∧
  (∀ c : Fin 64, (s.bay.ringOf c).full = false → (s.bay.ringOf c).fill < ringWarn →
    completes (.ringSpaceReturn c) s (fun b => 11 ∉ (b.chanOf c).holds)) ∧
  (∀ c : Fin 64, (s.bay.ringOf c).full = true → (s.bay.ringOf c).held = [] → (s.bay.ringOf c).fill + 24 < ringSlots →
    completes (.ringSpaceReturn c) s (fun b => (b.ringOf c).full = false)) ∧
  (∀ c : Fin 64, s.bay.gate (F.CHN_REG_CTL_CELL_END c) = none → s.bay.switchClosed c = false → s.bay.cellOpen c = true →
    completes (.cellEnd c) s (fun b => b.rd (F.CHN_REG_STAT_CELL c) = 0 ∧ b.rd (F.CHN_CELL_ID c) = 0)) ∧
  (∀ (c : Fin 64) (k : Nat), k ∈ s.bay.clearable c → s.bay.causeGone c k = true →
    completes (.regStatRead c) s (fun b => b.rd (F.CHN_REG_STAT_CLR_ARMED c) = 1 ∧ keepsRegs s.bay b [F.CHN_REG_STAT_CLR_ARMED c])) ∧
  (∀ (c : Fin 64) (k : Nat), s.bay.gate (F.CHN_REG_CTL_HOLD_CLR c) = none → s.bay.flag (F.CHN_REG_STAT_CLR_ARMED c) = true →
      k ∈ s.bay.clearable c → s.bay.causeGone c k = true →
    completes (.holdClr c) s (fun b => k ∉ (b.chanOf c).holds ∧ b.rd (F.CHN_REG_STAT_CLR_ARMED c) = 0))

/-- Axis start, stop and faults (R268, R269, R272, R273). A START is held until its frame edge. A row delivered without its condition has no effect (log entry 58). -/
def Obligations.AxisStartStopAndSto : Prop := ∀ s : State,
  (∀ a : Fin 6, s.bay.gate (F.AXS_CTL_START a) = none → s.bay.startOk a = true →
    completes (.axisStart a) s (fun b => (b.axisOf a).startPend = true ∧ keepsRegs s.bay b [])) ∧
  (∀ a : Fin 6, s.bay.gate (F.AXS_CTL_STOP a) = none → s.bay.axState a = Ax.run →
    completes (.axisStop a) s (fun b => b.axState a = Ax.stopping ∧ (b.axisOf a).startPend = false ∧ (b.axisOf a).stopT = (if isPress a && s.bay.flag (F.AXS_STAT_BRK_ON a) then some s.bay.now else none) ∧
      keepsRegs s.bay b [F.AXS_STAT_STATE a])) ∧
  (∀ a : Fin 6, s.bay.gate (F.AXS_CTL_STOP a) = none → s.bay.axState a = Ax.disabled →
    completes (.axisStop a) s (fun b => b = s.bay.refuse (F.AXS_CTL_STOP a) 4)) ∧
  (∀ a : Fin 6, 4 ≤ a.val → s.bay.axState a = Ax.stopping → 10 * (s.bay.axisOf a).w.natAbs ≤ s.bay.rd (F.AXS_N_RATED a) →
    completes (.axisStopComplete a) s (fun b => b.axState a = Ax.disabled ∧ b.rd (F.AXS_STAT_ASRC a) = 0 ∧
      keepsRegs s.bay b [F.AXS_STAT_STATE a, F.AXS_STAT_ASRC a])) ∧
  (∀ (a : Fin 6) (t : Nat), a.val < 4 → s.bay.axState a = Ax.stopping → (s.bay.axisOf a).stopT = some t → t + 20 * msTicks ≤ s.bay.now →
    completes (.axisStopComplete a) s (fun b => b.axState a = Ax.disabled ∧ b.flag (F.AXS_STAT_BRK_ON a) = true ∧ (b.loopAxOf a).iqRef = 0 ∧
      keepsRegs s.bay b [F.AXS_STAT_STATE a, F.AXS_STAT_ASRC a, F.AXS_STAT_BRK_ON a])) ∧
  (∀ a : Fin 6, s.bay.hasLocal a = true →
    completes (.axsFltRead a) s (fun b => b.rd (F.AXS_STAT_CLR_ARMED a) = 1 ∧ keepsRegs s.bay b [F.AXS_STAT_CLR_ARMED a])) ∧
  (∀ a : Fin 6, s.bay.gate (F.AXS_CTL_FLT_CLR a) = none → s.bay.flag (F.AXS_STAT_CLR_ARMED a) = true → s.bay.rd (F.AXS_FLT_CAUSE a) ≠ 17 →
      s.bay.rd (F.AXS_FLT_SECOND a) ≠ 17 →
    completes (.axsFltClr a) s (fun b => (s.bay.lineOn 0 = true → b.axState a = Ax.disabled ∧ b.rd (F.AXS_FLT_CAUSE a) = 0) ∧
      (s.bay.lineOn 0 = false → b.axState a = s.bay.axState a ∧ b.rd (F.AXS_FLT_CAUSE a) = 1) ∧ b.rd (F.AXS_FLT_SECOND a) = 0 ∧
      b.rd (F.AXS_STAT_CLR_ARMED a) = 0 ∧ (a.val < 4 → b.rd (F.POS_FLT_CODE a) = 0))) ∧
  (∀ a : Fin 6, s.bay.gate (F.AXS_CTL_FLT_CLR a) = none → s.bay.flag (F.AXS_STAT_CLR_ARMED a) = false →
    completes (.axsFltClr a) s (fun b => b = s.bay.refuse (F.AXS_CTL_FLT_CLR a) 5)) ∧
  ((∀ a ∈ allAxes, s.bay.axState a = Ax.run) →
    completes .stoLineDrop s (fun b => ∀ a ∈ allAxes, b.axState a = Ax.sto ∧ b.rd (F.AXS_FLT_CAUSE a) = 1 ∧ (b.driverOf (64 + a)).legs = [.off, .off, .off, .off]))

/-- The start sequence (R272) and the comparison of feedbacks (R271). A row delivered without its condition has no effect (log entry 58). -/
def Obligations.AxisStartSequence : Prop := ∀ s : State,
  (∀ a : Fin 6, s.bay.axState a = Ax.starting → (s.bay.axisOf a).seq = 1 → (s.bay.axisOf a).t0 + 5 * msTicks ≤ s.bay.now →
      10 * (s.bay.axisOf a).w.natAbs < 4 * s.bay.rd (F.AXS_N_RATED a) →
    completes (.catchWindowEnd a) s (fun b => b.rd (F.AXS_STAT_ASRC a) = 1 ∧ (b.axisOf a).seq = 2 ∧ keepsRegs s.bay b [F.AXS_STAT_ASRC a])) ∧
  (∀ a : Fin 6, s.bay.axState a = Ax.starting → (s.bay.axisOf a).seq = 1 → (s.bay.axisOf a).t0 + 5 * msTicks ≤ s.bay.now →
      4 * s.bay.rd (F.AXS_N_RATED a) ≤ 10 * (s.bay.axisOf a).w.natAbs →
    completes (.catchWindowEnd a) s (fun b => b.axState a = Ax.run ∧ b.rd (F.AXS_STAT_ASRC a) = 3 ∧ (b.loopAxOf a).xd = 0 ∧
      (b.loopAxOf a).xq = fmul (s.bay.axisOf a).omegaE (mkRat (s.bay.rd (F.AXS_PSI a)) 1000))) ∧
  (∀ (a : Fin 6) (p m : Int), s.bay.axState a = Ax.starting → (s.bay.axisOf a).seq = 2 → (s.bay.axisOf a).t0 + 25 * msTicks ≤ s.bay.now →
      5 * max p.natAbs m.natAbs ≤ 100 * (p - m).natAbs →
    completes (.polarityTest a p m) s (fun b => (b.axisOf a).seq = 3 ∧ (b.axisOf a).t0 = s.bay.now - 25 * msTicks ∧ keepsRegs s.bay b [])) ∧
  (∀ (a : Fin 6) (p m : Int), s.bay.axState a = Ax.starting → (s.bay.axisOf a).seq = 2 → (s.bay.axisOf a).t0 + 25 * msTicks ≤ s.bay.now →
      completes (.polarityTest a p m) s (fun b => (b.axisOf a).seq = 3 ∧ (b.axisOf a).flip = decide (p.natAbs < m.natAbs) ∧
      (b.axisOf a).weak = decide (100 * (p - m).natAbs < 5 * max p.natAbs m.natAbs) ∧ keepsRegs s.bay b [])) ∧
  (∀ a : Fin 6, s.bay.axState a = Ax.starting → (s.bay.axisOf a).seq = 3 → (s.bay.axisOf a).t0 + 29 * msTicks ≤ s.bay.now →
    completes (.torqueEnable a) s (fun b => (b.axisOf a).seq = 4 ∧ (b.loopAxOf a).iqRef = (if isPress a then ((s.bay.axisOf a).iqHeld : Rat) else 0) ∧
      keepsRegs s.bay b [])) ∧
  (∀ a : Fin 6, s.bay.axState a = Ax.starting → (s.bay.axisOf a).seq = 4 → (s.bay.axisOf a).t0 + 30 * msTicks ≤ s.bay.now →
    completes (.brakeRelease a) s (fun b => (b.axisOf a).seq = 5 ∧ (a.val < 4 → (b.axisOf a).brakeAt = some (s.bay.now + 25 * msTicks, false)) ∧
      keepsRegs s.bay b [])) ∧
  (∀ a : Fin 6, s.bay.axState a = Ax.starting → (s.bay.axisOf a).seq = 5 → (s.bay.axisOf a).t0 + 55 * msTicks ≤ s.bay.now →
    completes (.axisRun a) s (fun b => b.axState a = Ax.run ∧ (b.axisOf a).wRamp = mkRat (s.bay.axisOf a).w 10)) ∧
  (∀ a : Fin 6, s.bay.axState a = Ax.starting → (s.bay.axisOf a).seq = 2 → (s.bay.axisOf a).t0 + 100 * msTicks ≤ s.bay.now →
    completes (.startTimeout a) s (fun b => b.axState a = Ax.sto ∧ b.rd (F.AXS_FLT_CAUSE a) = 8)) ∧
  (∀ a : Fin 6, isPress a = true → s.bay.flag (F.AXS_CFG_FB_EN a) = true → s.bay.flag (F.POS_STAT_REF_FOUND a) = true → (s.bay.axisOf a).fbExcl = false →
      heldFor (s.bay.axisOf a).fbApart (10 * msTicks) s.bay.now = true →
    completes (.feedbackDisagree a) s (fun b => b.rd (F.AXS_STAT_FB_USED a) = 0 ∧ (b.axisOf a).fbExcl = true ∧
      keepsRegs s.bay b [F.AXS_STAT_FB_USED a, F.EVT_STAT_LOST]))

/-- Axis current limit, press force, X60 and protection (R275 to R285, R287). Cause codes are those of R269. A row delivered without its condition has no effect (log entry 58). -/
def Obligations.PressForceX60AndAxisProtection : Prop := ∀ s : State,
  (∀ a : Fin 6, s.bay.i2tLeft a ≤ 0 →
    completes (.i2tEmpty a) s (fun b => b.rd (F.AXS_STAT_I2T_LIM a) = 1 ∧ keepsRegs s.bay b [F.AXS_STAT_I2T_LIM a])) ∧
  (∀ a : Fin 6, 0 < s.bay.rd (F.AXS_I2T a) → s.bay.i2tFull a ≤ 10 * s.bay.rd (F.AXS_I2T a) →
    completes (.i2tRecover a) s (fun b => b.rd (F.AXS_STAT_I2T_LIM a) = 0 ∧ keepsRegs s.bay b [F.AXS_STAT_I2T_LIM a])) ∧
  (∀ a : Fin 4, s.bay.axState a ≠ Ax.sto → heldFor (s.bay.axisOf a).cellBad (10 * msTicks) s.bay.now = true →
    completes (.loadCellRange a) s (fun b => b.axState a = Ax.sto ∧ b.rd (F.AXS_FLT_CAUSE a) = 16 ∧ b.rd (F.AXS_FLT_SECOND a) = 0)) ∧
  (∀ (a : Fin 4) (t : Nat), s.bay.axState a = Ax.run → s.bay.rd (F.AXS_CFG_MODE a) = 2 → s.bay.rd (F.AXS_STAT_PRS a) = 2 → (s.bay.axisOf a).prSeq = 0 →
      (s.bay.axisOf a).inBand = some t → t + 200 * msTicks ≤ s.bay.now →
    completes (.pressHoldEntry a) s (fun b => (b.axisOf a).iqHeld = truncR (s.bay.loopAxOf a).iqRef ∧
      (b.axisOf a).brakeAt = some (s.bay.now + 25 * msTicks, true) ∧ (b.axisOf a).prSeq = 1 ∧ keepsRegs s.bay b [])) ∧
  (∀ a : Fin 4, s.bay.axState a = Ax.run → s.bay.rd (F.AXS_CFG_MODE a) = 2 → (s.bay.axisOf a).prSeq = 2 → (s.bay.axisOf a).prT + 20 * msTicks ≤ s.bay.now →
    completes (.pressHoldRamp a) s (fun b => b.rd (F.AXS_STAT_PRS a) = 3 ∧ (b.loopAxOf a).iqRef = 0 ∧ (b.axisOf a).fHeld = s.bay.rd (F.AXS_FORCE a) ∧
      keepsRegs s.bay b [F.AXS_STAT_PRS a])) ∧
  (∀ (a : Fin 4) (t : Nat), s.bay.axState a = Ax.run → s.bay.rd (F.AXS_CFG_MODE a) = 2 → s.bay.rd (F.AXS_STAT_PRS a) = 3 → (s.bay.axisOf a).prSeq = 0 →
      (s.bay.axisOf a).outBand = some t → t + 500 * msTicks ≤ s.bay.now →
    completes (.pressRetrim a) s (fun b => (b.loopAxOf a).iqRef = (s.bay.axisOf a).iqHeld ∧ (b.axisOf a).brakeAt = some (s.bay.now + 25 * msTicks, false) ∧
      keepsRegs s.bay b [])) ∧
  (∀ a : Fin 4, s.bay.axState a = Ax.run → s.bay.rd (F.AXS_CFG_MODE a) = 2 → s.bay.rd (F.AXS_STAT_PRS a) = 3 → (s.bay.axisOf a).prSeq = 3 →
      (s.bay.axisOf a).prT + 25 * msTicks ≤ s.bay.now → s.bay.rd (F.AXS_F_TGT a) ≠ 0 →
    completes (.retrimForce a) s (fun b => b.rd (F.AXS_STAT_PRS a) = 2 ∧ b.flag (F.AXS_STAT_BRK_ON a) = false)) ∧
  (∀ a : Fin 4, s.bay.axState a = Ax.run → s.bay.rd (F.AXS_CFG_MODE a) = 2 → s.bay.rd (F.AXS_STAT_PRS a) = 4 → (s.bay.axisOf a).prSeq = 4 →
    completes (.pressReleased a) s (fun b => (b.axisOf a).prSeq = 1 ∧ (b.axisOf a).prT = s.bay.now ∧
      (b.axisOf a).brakeAt = some (s.bay.now + 25 * msTicks, true) ∧ keepsRegs s.bay b [])) ∧
  (∀ a : Fin 6, 4 ≤ a.val → s.bay.rd (F.AXS_CFG_MODE a) = 1 → s.bay.rd (F.AXS_STAT_X60_LOSS a) = 0 →
      (s.bay.rd (F.AXS_CFG_X60_FORM a) = 1 ∨ heldFor (s.bay.axisOf a).x60Bad (30 * msTicks) s.bay.now = true) →
    completes (.x60Loss a) s (fun b => b.rd (F.AXS_STAT_X60_LOSS a) = 1 ∧ keepsRegs s.bay b [F.AXS_STAT_X60_LOSS a, F.EVT_STAT_LOST])) ∧
  (∀ a : Fin 6,
    completes (.x60Restore a) s (fun b => b.rd (F.AXS_STAT_X60_LOSS a) = 0 ∧ keepsRegs s.bay b [F.AXS_STAT_X60_LOSS a])) ∧
  (∀ a : Fin 6, s.bay.axState a ≠ Ax.sto →
    completes (.desaturation a) s (fun b => b.axState a = Ax.sto ∧ b.rd (F.AXS_FLT_CAUSE a) = 2 ∧ (b.driverOf (64 + a)).legs = [.off, .off, .off, .off])) ∧
  (∀ (a : Fin 6) (i : Int), s.bay.axState a ≠ Ax.sto → fastLimit a ≤ i.natAbs →
    completes (.fastOvercurrent ⟨a, i⟩) s (fun b => b.axState a = Ax.sto ∧ b.rd (F.AXS_FLT_CAUSE a) = 3 ∧ (b.driverOf (64 + a)).legs = [.off, .off, .off, .off])) ∧
  (∀ (a : Fin 6) (i : Int) (r : AxRec), fastLimit a ≤ i.natAbs → s.bay.axState a = Ax.sto → s.bay.rd (F.AXS_FLT_CAUSE a) = 2 → s.bay.rd (F.AXS_FLT_SECOND a) = 0 → s.bay.axRec.getLast? = some r →
      r.time = s.bay.now →
    completes (.fastOvercurrent ⟨a, i⟩) s (fun b => b.rd (F.AXS_FLT_CAUSE a) = 3 ∧ b.rd (F.AXS_FLT_SECOND a) = 2 ∧ keepsRegs s.bay b [F.AXS_FLT_CAUSE a, F.AXS_FLT_SECOND a])) ∧
  (∀ a1 a2 : Fin 6, (∀ a ∈ allAxes, s.bay.axState a = Ax.run) →
    completes (.twoLegShort a1 a2) s (fun b => b.shortReq = true ∧ ∀ a ∈ allAxes, b.axState a = Ax.sto ∧
      b.rd (F.AXS_FLT_CAUSE a) = (if a = a1 ∨ a = a2 then 4 else 15))) ∧
  (∀ a : Fin 6, s.bay.axState a ≠ Ax.sto → s.bay.expectsCurrent a = true →
    completes (.phaseOpen a) s (fun b => b.axState a = Ax.sto ∧ b.rd (F.AXS_FLT_CAUSE a) = 5)) ∧
  (∀ a : Fin 6, s.bay.axState a ≠ Ax.sto →
    completes (.currentSenseLost a) s (fun b => b.axState a = Ax.sto ∧ b.rd (F.AXS_FLT_CAUSE a) = 6)) ∧
  (∀ (a : Fin 6), s.bay.axState a ≠ Ax.sto →
    completes (.strokeLinkLost ⟨64 + a.val, by omega⟩) s (fun b => b.axState a = Ax.sto ∧ b.rd (F.AXS_FLT_CAUSE a) = 7))

/-- Position interfaces (R290 to R306). Edge times count 4 ns, word times ticks. `ssiCheck` gives the data of a word and the type of the fault it shows, 0 for none. A row delivered without its condition has no effect (log entry 58). -/
def Obligations.PositionInterfaces : Prop := ∀ s : State,
  (∀ (p : Fin 4) (onA : Bool) (t4 : Nat) (f : Int), s.bay.posSrc p = 1 → (s.bay.encOf p).lineMask = 0 → s.bay.rd (F.POS_STAT_CMP_ARMED p) = 0 →
      s.bay.rd (F.POS_STAT_REF_FOUND p) = 0 → (s.bay.encOf p).dir = 1 → (s.bay.encOf p).pastExp = none → 0 < s.bay.rd (F.POS_WRAP p) →
    completes (.toothEdge p true onA false t4 f) s (fun b => b.rd (F.POS_COUNT p) = (s.bay.rd (F.POS_COUNT p) + 1) % s.bay.rd (F.POS_WRAP p) ∧
      b.rd (F.POS_TURNS p) = asSigned 32 (s.bay.rd (F.POS_TURNS p) + (s.bay.rd (F.POS_COUNT p) + 1) / s.bay.rd (F.POS_WRAP p)) ∧
      b.rd (F.POS_STAT_DIR p) = 0 ∧ b.rd (F.POS_POS p) = b.posNow p % 4294967296)) ∧
  (∀ (p : Fin 4) (t4 : Nat), s.bay.posSrc p = 1 → (s.bay.encOf p).lineMask = 0 → s.bay.rd (F.POS_STAT_ILL_WIN p) < 2 →
    completes (.illegalTransition p t4) s (fun b => b.rd (F.POS_ILL_CNT p) = (s.bay.rd (F.POS_ILL_CNT p) + 1) % 4294967296 ∧
      b.rd (F.POS_STAT_ILL_WIN p) = s.bay.rd (F.POS_STAT_ILL_WIN p) + 1 ∧ keepsRegs s.bay b [F.POS_ILL_CNT p, F.POS_STAT_ILL_WIN p])) ∧
  (∀ (p : Fin 4) (t4 : Nat), s.bay.posSrc p = 1 → (s.bay.encOf p).lineMask = 0 → s.bay.rd (F.POS_STAT_ILL_WIN p) = 2 → s.bay.rd (F.POS_FLT_CODE p) = 0 →
      s.bay.axState p ≠ Ax.sto →
    completes (.illegalTransition p t4) s (fun b => b.rd (F.POS_FLT_CODE p) = 3 ∧ b.rd (F.POS_STAT_REF_FOUND p) = 0 ∧ b.rd (F.POS_STAT_CMP_ARMED p) = 0 ∧
      b.axState p = Ax.sto ∧ b.rd (F.AXS_FLT_CAUSE p) = 12)) ∧
  (∀ (p mask : Fin 4), (s.bay.encOf p).lineMask = 0 → mask ≠ 0 → s.bay.rd (F.POS_CFG_SRC p) = 1 → s.bay.rd (F.POS_FLT_CODE p) = 0 → s.bay.axState p ≠ Ax.sto →
    completes (.lineFault p mask) s (fun b => (b.encOf p).lineMask = mask.val ∧ b.rd (F.POS_STAT_LINE_FLT p) = 1 ∧ b.rd (F.POS_FLT_CODE p) = 4 ∧
      b.rd (F.POS_STAT_REF_FOUND p) = 0 ∧ b.axState p = Ax.sto)) ∧
  (∀ p mask : Fin 4, (s.bay.encOf p).lineMask = mask.val →
    completes (.lineFaultCleared p mask) s (fun b => (b.encOf p).lineMask = 0 ∧ b.rd (F.POS_STAT_LINE_FLT p) = 0 ∧ keepsRegs s.bay b [F.POS_STAT_LINE_FLT p])) ∧
  (∀ (p : Fin 4) (t : Nat), s.bay.posSrc p = 1 → (s.bay.encOf p).lastEdge = some t → t + 25000000 ≤ t4Of s.bay.now →
    completes (.speedTimeout p) s (fun b => (b.encOf p).speed = 0 ∧ b.rd (F.POS_SPD p) = 0 ∧ keepsRegs s.bay b [F.POS_SPD p])) ∧
  (∀ (p : Fin 4) (w : BitVec 64) (tmo : Bool) (t : Nat) (f : Int) (raw : Nat), s.bay.posSrc p = 2 → s.bay.ssiCheck p w.toNat tmo = (raw, 1) →
      s.bay.rd (F.POS_STAT_SSI_BADRUN p) + 1 ≠ s.bay.rd (F.POS_SSI_CFG_ERR_LIM p) →
    completes (.ssiWord p w tmo t f) s (fun b => b.rd (F.POS_SSI_ERR_CRC p) = min 255 (s.bay.rd (F.POS_SSI_ERR_CRC p) + 1) ∧ b.rd (F.POS_STAT_SSI_BAD p) = 1 ∧
      b.rd (F.POS_STAT_SSI_BADRUN p) = min 255 (s.bay.rd (F.POS_STAT_SSI_BADRUN p) + 1) ∧ b.encOf p = s.bay.encOf p ∧
      keepsRegs s.bay b [F.POS_SSI_ERR_CRC p, F.POS_STAT_SSI_BAD p, F.POS_STAT_SSI_BADRUN p])) ∧
  (∀ (p : Fin 4) (w : BitVec 64) (t : Nat) (f : Int) (raw : Nat), s.bay.posSrc p = 2 → s.bay.ssiCheck p w.toNat false = (raw, 0) → (s.bay.encOf p).ssiPos = none →
      s.bay.rd (F.POS_SSI_CFG_GRAY p) = 0 → s.bay.rdN (F.POS_SSI_CFG_MT p) = 0 →
    completes (.ssiWord p w false t f) s (fun b => b.rd (F.POS_SSI_RAW p) = raw ∧ b.rd (F.POS_COUNT p) = (raw % 2 ^ s.bay.rdN (F.POS_SSI_CFG_ST p) : Nat) ∧
      b.rd (F.POS_TURNS p) = s.bay.rd (F.POS_TURNS p) ∧ b.rd (F.POS_STAT_REF_FOUND p) = 1 ∧ b.rd (F.POS_STAT_SSI_BAD p) = 0 ∧ b.rd (F.POS_STAT_SSI_BADRUN p) = 0)) ∧
  (∀ p : Fin 4, s.bay.gate (F.POS_CTL_REF_CLR p) = none →
    completes (.refClr p) s (fun b => b.rd (F.POS_STAT_REF_FOUND p) = 0 ∧ (b.encOf p).ssiPos = none ∧ keepsRegs s.bay b [F.POS_STAT_REF_FOUND p])) ∧
  (∀ p : Fin 4, s.bay.gate (F.POS_CTL_CMP_ARM p) = none → s.bay.spacingOk p = true →
    completes (.cmpArm p) s (fun b => b.rd (F.POS_STAT_CMP_ARMED p) = 1 ∧ b.rd (F.POS_CMP_LEFT p) = s.bay.rd (F.POS_CMP_N p) ∧
      keepsRegs s.bay b [F.POS_STAT_CMP_ARMED p, F.POS_CMP_LEFT p])) ∧
  (∀ p : Fin 4, s.bay.gate (F.POS_CTL_CMP_STOP p) = none →
    completes (.cmpStop p) s (fun b => b.rd (F.POS_STAT_CMP_ARMED p) = 0 ∧ keepsRegs s.bay b [F.POS_STAT_CMP_ARMED p])) ∧
  (∀ p : Fin 4, s.bay.gate (F.POS_CTL_FIFO_CLR p) = none →
    completes (.fifoClr p) s (fun b => (b.encOf p).fifo = [] ∧ b.rd (F.POS_FIFO_STAT_FILL p) = 0 ∧ b.rd (F.POS_FIFO_STAT_LOST p) = 0 ∧
      b.rd (F.POS_FIFO_STAT_SKIP p) = 0 ∧ b.rd (F.POS_HIT_POS p) = 0 ∧ b.rd (F.POS_HIT_T p) = 0)) ∧
  (∀ (p : Fin 4) (h h' : Hit) (r : List Hit), (s.bay.encOf p).fifo = h :: h' :: r →
    completes (.hitThiRead p) s (fun b => (b.encOf p).fifo = h' :: r ∧ b.rd (F.POS_FIFO_STAT_FILL p) = r.length + 1 ∧ b.rd (F.POS_HIT_POS p) = h'.pos ∧
      b.rd (F.POS_HIT_FRC_FORCE p) = h'.force ∧ b.rd (F.POS_HIT_T p) = h'.time)) ∧
  (∀ t : Nat, (s.bay.encOf 0).ptHold = some t → t ≤ s.bay.now →
    completes .passthroughResume s (fun b => (b.encOf 0).ptHold = none ∧ (b.encOf 0).ptEn = (s.bay.encOf 0).ptEn ∧
      (b.encOf 0).ptSel = (s.bay.encOf 0).ptSel ∧ keepsRegs s.bay b [])) ∧
  (∀ (p : Fin 4) (onA : Bool) (t4 : Nat) (f : Int), s.bay.posSrc p = 1 → (s.bay.encOf p).lineMask = 0 → s.bay.rd (F.POS_STAT_CMP_ARMED p) = 0 →
      s.bay.rd (F.POS_STAT_REF_FOUND p) = 0 → (s.bay.encOf p).dir = -1 → (s.bay.encOf p).pastExp = none → 0 < s.bay.rd (F.POS_WRAP p) →
    completes (.toothEdge p false onA false t4 f) s (fun b => b.rd (F.POS_COUNT p) = (s.bay.rd (F.POS_COUNT p) - 1) % s.bay.rd (F.POS_WRAP p) ∧
      b.rd (F.POS_TURNS p) = asSigned 32 (s.bay.rd (F.POS_TURNS p) + (s.bay.rd (F.POS_COUNT p) - 1) / s.bay.rd (F.POS_WRAP p)) ∧
      b.rd (F.POS_STAT_DIR p) = 1 ∧ b.rd (F.POS_POS p) = b.posNow p % 4294967296)) ∧
  (∀ (p : Fin 4) (onA : Bool) (t4 : Nat) (f : Int), s.bay.posSrc p = 1 → (s.bay.encOf p).lineMask = 0 → s.bay.rd (F.POS_STAT_CMP_ARMED p) = 0 →
      s.bay.rd (F.POS_STAT_REF_FOUND p) = 1 → (s.bay.encOf p).dir = 1 → 0 < s.bay.rd (F.POS_WRAP p) → s.bay.rd (F.POS_COUNT p) + 1 + s.bay.gapCounts p = s.bay.rd (F.POS_WRAP p) →
    completes (.toothEdge p true onA false t4 f) s (fun b => b.rd (F.POS_COUNT p) = 0 ∧ b.rd (F.POS_TURNS p) = asSigned 32 (s.bay.rd (F.POS_TURNS p) + 1) ∧
      b.rd (F.POS_STAT_ILL_WIN p) = 0 ∧ b.rd (F.POS_STAT_REF_FOUND p) = 1)) ∧
  (∀ (p : Fin 4) (fwd onA lead : Bool) (t4 : Nat) (f : Int), s.bay.posSrc p ≠ 1 →
    completes (.toothEdge p fwd onA lead t4 f) s (fun b => keepsRegs s.bay b [])) ∧
  (∀ (p mask : Fin 4), (s.bay.encOf p).lineMask ||| mask.val ≠ (s.bay.encOf p).lineMask → s.bay.posSrc p ≠ 0 → s.bay.rd (F.POS_FLT_CODE p) = 0 →
      s.bay.axState p ≠ Ax.sto →
    completes (.lineFault p mask) s (fun b => (b.encOf p).lineMask = (s.bay.encOf p).lineMask ||| mask.val ∧ b.rd (F.POS_STAT_LINE_FLT p) = 1 ∧
      b.rd (F.POS_FLT_CODE p) = 4 ∧ b.rd (F.POS_STAT_REF_FOUND p) = 0 ∧ b.rd (F.POS_STAT_CMP_ARMED p) = 0 ∧ b.axState p = Ax.sto ∧ b.rd (F.AXS_FLT_CAUSE p) = 12)) ∧
  (∀ (p mask : Fin 4), (s.bay.encOf p).lineMask ||| mask.val ≠ (s.bay.encOf p).lineMask → s.bay.posSrc p = 0 →
    completes (.lineFault p mask) s (fun b => (b.encOf p).lineMask = (s.bay.encOf p).lineMask ||| mask.val ∧ b.rd (F.POS_STAT_LINE_FLT p) = 1 ∧
      keepsRegs s.bay b [F.POS_STAT_LINE_FLT p])) ∧
  (∀ p mask : Fin 4, completes (.lineFaultCleared p mask) s (fun b => (b.encOf p).lineMask = (s.bay.encOf p).lineMask - ((s.bay.encOf p).lineMask &&& mask.val) ∧
      (b.rd (F.POS_STAT_LINE_FLT p) = 1 ↔ (b.encOf p).lineMask ≠ 0) ∧ keepsRegs s.bay b [F.POS_STAT_LINE_FLT p])) ∧
  (∀ (p : Fin 4) (w : BitVec 64) (tmo : Bool) (t : Nat) (f : Int) (raw k : Nat), s.bay.posSrc p = 2 → s.bay.ssiCheck p w.toNat tmo = (raw, k) → (k = 2 ∨ k = 3) →
      s.bay.rd (F.POS_STAT_SSI_BADRUN p) + 1 ≠ s.bay.rd (F.POS_SSI_CFG_ERR_LIM p) →
    completes (.ssiWord p w tmo t f) s (fun b =>
      b.rd (if k = 2 then F.POS_SSI_ERR_ERR p else F.POS_SSI_ERR_TMO p) = min 255 (s.bay.rd (if k = 2 then F.POS_SSI_ERR_ERR p else F.POS_SSI_ERR_TMO p) + 1) ∧
      b.rd (F.POS_STAT_SSI_BAD p) = 1 ∧ b.rd (F.POS_STAT_SSI_BADRUN p) = min 255 (s.bay.rd (F.POS_STAT_SSI_BADRUN p) + 1) ∧ b.encOf p = s.bay.encOf p)) ∧
  (∀ (p : Fin 4) (w : BitVec 64) (tmo : Bool) (t : Nat) (f : Int) (raw k : Nat), s.bay.posSrc p = 2 → s.bay.ssiCheck p w.toNat tmo = (raw, k) → k ≠ 0 →
      s.bay.rd (F.POS_STAT_SSI_BADRUN p) + 1 = s.bay.rd (F.POS_SSI_CFG_ERR_LIM p) → s.bay.rd (F.POS_FLT_CODE p) = 0 → s.bay.axState p ≠ Ax.sto →
    completes (.ssiWord p w tmo t f) s (fun b => b.rd (F.POS_FLT_CODE p) = 5 ∧ b.rd (F.POS_FLT_DETAIL p) = k ∧ b.rd (F.POS_STAT_SSI_BAD p) = 1 ∧
      b.rd (F.POS_STAT_REF_FOUND p) = 0 ∧ (b.encOf p).ssiPos = none ∧ b.axState p = Ax.sto ∧ b.rd (F.AXS_FLT_CAUSE p) = 12)) ∧
  (∀ (p : Fin 4) (w : BitVec 64) (t : Nat) (f : Int) (raw : Nat), s.bay.posSrc p = 2 → s.bay.ssiCheck p w.toNat false = (raw, 0) → (s.bay.encOf p).ssiPos = none →
      s.bay.rd (F.POS_SSI_CFG_GRAY p) = 1 → 0 < s.bay.rdN (F.POS_SSI_CFG_MT p) →
    completes (.ssiWord p w false t f) s (fun b => b.rd (F.POS_SSI_RAW p) = raw ∧
      b.rd (F.POS_COUNT p) = (grayDecode raw (s.bay.rdN (F.POS_SSI_CFG_MT p) + s.bay.rdN (F.POS_SSI_CFG_ST p)) % 2 ^ s.bay.rdN (F.POS_SSI_CFG_ST p) : Nat) ∧
      b.rd (F.POS_TURNS p) = (grayDecode raw (s.bay.rdN (F.POS_SSI_CFG_MT p) + s.bay.rdN (F.POS_SSI_CFG_ST p)) / 2 ^ s.bay.rdN (F.POS_SSI_CFG_ST p) : Nat) ∧
      b.rd (F.POS_STAT_REF_FOUND p) = 1 ∧ b.rd (F.POS_STAT_SSI_BAD p) = 0 ∧ b.rd (F.POS_STAT_SSI_BADRUN p) = 0)) ∧
  (∀ p : Fin 4, s.bay.gate (F.POS_CTL_CMP_ARM p) = none → s.bay.spacingOk p = false →
    completes (.cmpArm p) s (fun b => b = s.bay.refuse (F.POS_CTL_CMP_ARM p) 4)) ∧
  (∀ (p : Fin 4) (h : Hit), (s.bay.encOf p).fifo = [h] →
    completes (.hitThiRead p) s (fun b => (b.encOf p).fifo = [] ∧ b.rd (F.POS_FIFO_STAT_FILL p) = 0))

/-- Ranges, windows and references (R110 to R112, R115, R117). Readings are in 0.1 µV and 0.1 µA, times in ticks; `corrV` and `corrI` clip and correct a reading (R107, R116). A closing waits for no condition but its boundary. A row delivered without its condition has no effect (log entry 58). -/
def Obligations.MeasurementRangesWindowsAndReferences : Prop := ∀ s : State,
  (∀ (c : Fin 64) (i : Int), 0 < s.bay.range c → rangeFs (s.bay.range c) * 105 < i.natAbs * 100 → rangeFs (s.bay.range c) * 12 ≤ i.natAbs * 10 →
      (s.bay.measChOf c).bridgeTo = none →
    completes (.rangeUp c i) s (fun b => (b.measChOf c).bridgeTo = some 0 ∧ (b.measChOf c).bridgeEnd = s.bay.now + 160)) ∧
  (∀ (c : Fin 64) (t : Nat), (s.bay.measChOf c).downSince = some t → t + 10 * msTicks ≤ s.bay.now → s.bay.rd (F.EISCH_STAT_RUN c) = 0 →
      (s.bay.range c : Int) < s.bay.rd (F.CHN_MEAS_CFG_RFLOOR c) → (s.bay.measChOf c).bridgeTo = none →
    completes (.rangeDown c) s (fun b => (b.measChOf c).bridgeTo = some (s.bay.range c + 1) ∧ (b.measChOf c).bridgeEnd = s.bay.now + 160 ∧ keepsRegs s.bay b [])) ∧
  (∀ (c : Fin 64) (r : Nat), (s.bay.measChOf c).bridgeTo = some r → (s.bay.measChOf c).bridgeEnd ≤ s.bay.now → (s.bay.measChOf c).pendRange = none →
    completes (.rangeBridgeEnd c) s (fun b => b.rd (F.CHN_MEAS_STAT_RANGE c) = r ∧ b.rd (F.CHN_RNG_CNT c) = (s.bay.rd (F.CHN_RNG_CNT c) + 1) % 4294967296 ∧
      (b.measChOf c).bridgeTo = none ∧ (b.measChOf c).rangeT = s.bay.now ∧ keepsRegs s.bay b [F.CHN_MEAS_STAT_RANGE c, F.CHN_RNG_CNT c, F.CHN_MEAS_STAT_CONV c])) ∧
  (∀ r : Reading, s.bay.now % specTicks = 0 →
    completes (.spectralBoundary [r]) s (fun b => b = s.bay.specSample r.chan (s.bay.corrV r.chan r.v) (s.bay.corrI r.chan r.i))) ∧
  (∀ r : Reading, s.bay.now % s.bay.precTicks = 0 → s.bay.measSt.precFrom + s.bay.precTicks ≤ s.bay.now → (s.bay.measChOf r.chan).openSince = none → s.bay.sampled r.chan = true →
    completes (.precisionWindowClose [r]) s (fun b => b.rd (F.CHN_V_PREC r.chan) = s.bay.corrV r.chan r.v ∧ b.rd (F.CHN_I_PREC r.chan) = s.bay.corrI r.chan r.i ∧
      b.rd (F.CHN_PREC_T r.chan) = s.bay.now ∧ keepsRegs s.bay b [F.CHN_V_PREC r.chan, F.CHN_I_PREC r.chan, F.CHN_PREC_T r.chan])) ∧
  (∀ v : BitVec 1, s.bay.gate F.MEAS_CTL_MAINS = none → s.bay.measSt.running = false →
    completes (.mainsWrite v) s (fun b => b.measSt.mainsPend = some (v.toNat : Int) ∧ keepsRegs s.bay b [])) ∧
  (∀ v : BitVec 1, s.bay.gate F.MEAS_CTL_MAINS = none → s.bay.measSt.running = true →
    completes (.mainsWrite v) s (fun b => b = s.bay.refuse F.MEAS_CTL_MAINS 1)) ∧
  (s.bay.gate F.MEAS_REF_CTL_EN0 = none → s.bay.walePresent 0 = true → s.bay.rd F.MEAS_REF_CTL_EN0 = 0 → s.bay.rd F.MEAS_REF_CTL_EN1 = 0 →
      s.bay.rd F.MEAS_REF_CTL_EN2 = 0 → s.bay.rd F.MEAS_REF_CTL_EN3 = 0 → s.bay.measSt.refAt.length = 4 → s.bay.measSt.refKept.getD 0 false = false →
    completes (.refCtlWrite 1#4) s (fun b => b.rd F.MEAS_REF_CTL_EN0 = 1 ∧ b.measSt.refAt.getD 0 none = some (s.bay.now + 50 * msTicks) ∧
      keepsRegs s.bay b [F.MEAS_REF_CTL_EN0])) ∧
  (∀ (n : Fin 4) (t : Nat), s.bay.measSt.refAt.getD n none = some t → t ≤ s.bay.now → s.bay.flag (refRdy n) = false →
      (∀ c ∈ waleChans n, (s.bay.stageOf c).cswReq = false) →
    completes (.refReady n) s (fun b => b.flag (refRdy n) = true ∧ ∀ c ∈ waleChans n, b.rd (F.CHN_MEAS_STAT_NREF c) = 0))

/-- Self-calibration, the oven and the meter (R118, R119, R123 to R127). The factor of a self-calibration is log entry 28. A row delivered without its condition has no effect (log entry 58). -/
def Obligations.SelfCalibrationOvenAndMeter : Prop := ∀ s : State,
  (s.bay.gate F.MEAS_SCAL_CTL_GO = none → s.bay.walePresent 0 = true → s.bay.refReady 0 = true → s.bay.calibrating 0 = false →
      ((waleChans 0).all fun c => s.bay.rd (F.CHN_STG_STAT_STAGE c) == Stg.off) = true → s.bay.measSt.scalT0.length = 4 →
    completes (.scalCtlWrite 1#4) s (fun b => b.measSt.scalT0.getD 0 none = some (nextEdge s.bay.now) ∧ keepsRegs s.bay b [])) ∧
  (∀ (n : Fin 4) (k : Fin 7) (t : Nat) (rs : List (Int × Int)), s.bay.measSt.scalT0.getD n none = some t → s.bay.measSt.scalSlots.length = 4 →
      (s.bay.measSt.scalSlots.getD n []).length = k → t + (60 + 40 * (k : Nat)) * msTicks ≤ s.bay.now →
    completes (.selfCalSlot n k rs) s (fun b => b.measSt.scalSlots.getD n [] = s.bay.measSt.scalSlots.getD n [] ++ [rs] ∧
      (k.val < 6 → keepsRegs s.bay b []) ∧
      (k.val = 6 → ∀ l : Nat, l < 16 → b.flag (F.CHN_MEAS_STAT_CAL_VALID (16 * n.val + l)) =
        calPasses (fun k => slotRead (s.bay.measSt.scalSlots.getD n [] ++ [rs]) k l)))) ∧
  (∀ (n : Fin 4) (t : Nat), s.bay.measSt.scalT0.getD n none = some t → s.bay.measSt.scalT0.length = 4 → t + 320 * msTicks ≤ s.bay.now →
      7 ≤ (s.bay.measSt.scalSlots.getD n []).length → (∀ c ∈ waleChans n, (s.bay.stageOf c).cswReq = false) →
    completes (.selfCalComplete n) s (fun b => b.flag (scalBusy n) = false ∧
      (b.flag (scalFail n) = true ↔ failMask (s.bay.measSt.scalSlots.getD n []) ≠ 0) ∧ b.measSt.scalT0.getD n none = none)) ∧
  (∀ t : Nat, s.bay.measSt.ovenSince = some t → s.bay.mPresent = true → s.bay.rd F.MEAS_STAT_OVEN_RDY = 0 → t + 1800 * secTicks ≤ s.bay.now →
    completes .ovenReady s (fun b => b.rd F.MEAS_STAT_OVEN_RDY = 1 ∧ keepsRegs s.bay b [F.MEAS_STAT_OVEN_RDY, F.EVT_STAT_LOST])) ∧
  (s.bay.rd F.MEAS_STAT_OVEN_RDY = 1 →
    completes .ovenLost s (fun b => b.rd F.MEAS_STAT_OVEN_RDY = 0 ∧ b.rd F.MEAS_WARM = 0 ∧ b.measSt.ovenSince = none ∧
      keepsRegs s.bay b [F.MEAS_WARM, F.MEAS_STAT_OVEN_RDY, F.EVT_STAT_LOST])) ∧
  (s.bay.rd F.MEAS_STAT_CERT_OK = 1 → s.bay.rd F.MEAS_STAT_CERT_DUE = 0 →
    completes .certDueReached s (fun b => b.rd F.MEAS_STAT_CERT_DUE = 1 ∧ keepsRegs s.bay b [F.MEAS_STAT_CERT_DUE, F.EVT_STAT_LOST])) ∧
  (∀ i : Nat, s.bay.mPresent = true → s.bay.now % s.bay.precTicks = 0 → s.bay.measSt.cur = none → s.bay.rd F.MEAS_CTL_RUN = 1 → s.bay.seqNext 0 = some i →
    completes .meterEntry s (fun b => b.measSt.cur = some { i := i, kind := s.bay.seqKind i, input := s.bay.rdN (F.SEQ_INPUT i), t0 := s.bay.now, sweep := s.bay.rd F.MEAS_STAT_SWEEP } ∧
      b.rd F.MEAS_STAT_ENTRY = i ∧ keepsRegs s.bay b [F.MEAS_STAT_ENTRY])) ∧
  (∀ (m : Int) (e : MeterEntry), s.bay.measSt.done = some e → e.kind = 0 →
      e.t0 + 2 * s.bay.precTicks + 12500 ≤ s.bay.now →
    completes (.meterResult m) s (fun b => b.rd (F.RES_VAL e.i) = m ∧ b.rd (F.RES_T e.i) = (e.t0 + 2 * s.bay.precTicks : Nat) ∧ b.measSt.post = some (e, m, e.t0 + 2 * s.bay.precTicks) ∧
      b.rd (F.RES_STAT_KIND e.i) = e.kind ∧ b.rd (F.RES_STAT_INPUT e.i) = e.input ∧ b.rd (F.RES_STAT_SWEEP e.i) = e.sweep ∧ b.rd (F.RES_STAT_NEW e.i) = 1 ∧
      b.measSt.done = none)) ∧
  (∀ (m : Int) (e : MeterEntry), s.bay.measSt.done = some e → e.kind = 3 → e.input = 64 → m.natAbs ≤ 20 → e.sweep = s.bay.rd F.MEAS_STAT_SWEEP →
      e.t0 + 2 * s.bay.precTicks + 12500 ≤ s.bay.now →
    completes (.meterResult m) s (fun b => b.rd (F.RES_VAL e.i) = m ∧ b.measSt.post = some (e, m, e.t0 + 2 * s.bay.precTicks) ∧ b.rd (F.RES_STAT_NEW e.i) = 1 ∧
      64 ∈ b.measSt.checks ∧ b.rd F.MEAS_STAT_CHECK_FAIL = s.bay.rd F.MEAS_STAT_CHECK_FAIL))

/-- Impedance sweeps (R168 to R187). `thetaK` and `fitPhasor` use the cosine and sine of Config (log entry 2), the vector its grading fit (log entry 3). Currents in 0.1 µA, voltages in 0.1 µV. A row delivered without its condition has no effect (log entry 58). -/
def Obligations.ImpedanceSweeps : Prop := ∀ s : State,
  (∀ (c : Fin 64) (fl sp rm : Int) (pts : List SweepPt) (p : SweepPt), s.bay.flag (F.EISCH_STAT_RUN c) = true → (s.bay.sweepOf c).phase = .waiting →
      (s.bay.sweepOf c).measured (s.bay.rdN (F.EISCH_STAT_POINT c)) = false →
      s.bay.now % specTicks = 0 → s.bay.sweepTable (s.bay.sweepOf c).table = some (fl, sp, rm, pts) → pts[s.bay.rdN (F.EISCH_STAT_POINT c)]? = some p →
      0 < ceilDiv (p.settle.toNat * windowLen p.measure (s.bay.askedFreq fl p).1) p.measure.toNat →
    completes (.pointStart c) s (fun b => b.rd (F.EISCH_STAT_SETTLE c) = 1 ∧ (b.sweepOf c).phase = .settle ∧ (b.sweepOf c).openAt = s.bay.now ∧
      (b.sweepOf c).l = windowLen p.measure (s.bay.askedFreq fl p).1 ∧ (b.sweepOf c).m = p.measure.toNat ∧
      (b.sweepOf c).freq = mkRat (5000 * p.measure) (windowLen p.measure (s.bay.askedFreq fl p).1) ∧ (b.sweepOf c).smpV = [] ∧
      keepsRegs s.bay b [F.EISCH_STAT_SETTLE c, F.EISCH_STAT_POINT c, F.EISCH_F c])) ∧
  (∀ c : Fin 64, s.bay.gate F.EIS_HCMD_GO = none → s.bay.hmasked = [c.val] → s.bay.engRuns c = false → s.bay.walePresent (waleOf c) = true →
    completes .hcmdGo s (fun b => (b.sweepOf c).req = some ⟨s.bay.rd F.EIS_HTABLE, max (sweepEdgeFor s.bay.now) (ceilTo sweepEdgeTicks (s.bay.rdN F.EIS_T_AT)), true⟩ ∧
      keepsRegs s.bay b [])) ∧
  (∀ c : Fin 64, s.bay.gate F.EIS_HCMD_GO = none → s.bay.hmasked = [c.val] → s.bay.engRuns c = true → s.bay.walePresent (waleOf c) = true →
    completes .hcmdGo s (fun b => b = s.bay.refuse F.EIS_HCMD_GO 4)) ∧
  (∀ (c : Fin 64) (r : SweepReq), s.bay.gate F.EIS_HCMD_ABORT = none → s.bay.hmasked = [c.val] → s.bay.walePresent (waleOf c) = true → s.bay.rd (F.EISCH_STAT_RUN c) = 0 →
      (s.bay.sweepOf c).req = some r → r.host = true →
    completes .hcmdAbort s (fun b => (b.sweepOf c).req = none ∧ keepsRegs s.bay b [])) ∧
  (∀ (c : Fin 64) (r : SweepReq), s.bay.now % sweepEdgeTicks = 0 → (s.bay.sweepOf c).req = some r → r.edge ≤ s.bay.now → s.bay.flag (F.EISCH_STAT_RUN c) = false →
      s.bay.sweepRefused c r = none → (∀ c' ∈ allChans, c' ≠ c.val → (s.bay.sweepOf c').req = none) →
    completes .sweepEdge s (fun b => b.rd (F.EISCH_STAT_RUN c) = 1 ∧ b.rd (F.EISCH_STAT_POINT c) = 0 ∧ b.rd (F.EISCH_STAT_END c) = 0 ∧
      (b.sweepOf c).req = none ∧ (b.sweepOf c).table = r.table ∧ (b.sweepOf c).edge = s.bay.now ∧ b.rd F.EIS_STAT_SWEEPING = s.bay.rd F.EIS_STAT_SWEEPING + 1)) ∧
  (∀ (c : Fin 64) (r : SweepReq) (e : Int), s.bay.now % sweepEdgeTicks = 0 → (s.bay.sweepOf c).req = some r → r.edge ≤ s.bay.now →
      s.bay.flag (F.EISCH_STAT_RUN c) = false → s.bay.sweepRefused c r = some e → (∀ c' ∈ allChans, c' ≠ c.val → (s.bay.sweepOf c').req = none) →
    completes .sweepEdge s (fun b => b.rd (F.EISCH_STAT_END c) = e ∧ (b.sweepOf c).req = none ∧ keepsRegs s.bay b [F.EISCH_STAT_END c])) ∧
  (∀ r : Reading, s.bay.now % specTicks = 0 → s.bay.sampled r.chan = true → s.bay.flag (F.EISCH_STAT_RUN r.chan) = true → (s.bay.sweepOf r.chan).phase = .window →
      (s.bay.sweepOf r.chan).openAt < s.bay.now → (s.bay.sweepOf r.chan).settleN ≤ (s.bay.sweepOf r.chan).k →
    completes (.spectralBoundary [r]) s (fun b => (b.sweepOf r.chan).smpV = (s.bay.sweepOf r.chan).smpV ++ [s.bay.corrV r.chan r.v] ∧
      (b.sweepOf r.chan).smpI = (s.bay.sweepOf r.chan).smpI ++ [s.bay.corrI r.chan r.i] ∧ (b.sweepOf r.chan).k = (s.bay.sweepOf r.chan).k + 1)) ∧
  (∀ c : Fin 64, s.bay.flag (F.EISCH_STAT_RUN c) = true → (s.bay.sweepOf c).phase = .settle →
      ceilDiv (((s.bay.sweepOf c).settlePer + 1) * (s.bay.sweepOf c).l) (s.bay.sweepOf c).m ≤ (s.bay.sweepOf c).k →
      ceilDiv (((s.bay.sweepOf c).settlePer + 1) * (s.bay.sweepOf c).l) (s.bay.sweepOf c).m ≤ (s.bay.sweepOf c).settleN →
    completes (.settlePeriodEnd c) s (fun b => (b.sweepOf c).settlePer = (s.bay.sweepOf c).settlePer + 1 ∧ (b.sweepOf c).av ≤ 200000 ∧
      (b.sweepOf c).fund ≠ none ∧ keepsRegs s.bay b [])) ∧
  (∀ (c : Fin 64) (fl sp rm : Int) (pts : List SweepPt), s.bay.flag (F.EISCH_STAT_RUN c) = true → (s.bay.sweepOf c).full = true → s.bay.now % specTicks = 0 →
      s.bay.sweepTable (s.bay.sweepOf c).table = some (fl, sp, rm, pts) → s.bay.rdN (F.EISCH_STAT_POINT c) + 1 < pts.length →
    completes (.measureWindowClose c) s (fun b => b.rd (F.EISCH_STAT_POINT c) = (s.bay.rdN (F.EISCH_STAT_POINT c) + 1 : Nat) ∧ (b.sweepOf c).phase = .waiting ∧
      (b.sweepOf c).closed.dropLast = (s.bay.sweepOf c).closed ∧
      ((b.sweepOf c).closed.getLast?).map (fun w => (w.closeT, w.idx, w.v)) = some (s.bay.now, s.bay.rdN (F.EISCH_STAT_POINT c),
        ((s.bay.sweepOf c).smpV.drop (s.bay.sweepOf c).settleN).take (s.bay.sweepOf c).l) ∧ keepsRegs s.bay b [F.EISCH_STAT_POINT c])) ∧
  (∀ (c : Fin 64) (w : Window) (later : List Window) (fl sp rm : Int) (pts : List SweepPt), (s.bay.sweepOf c).closed = w :: later → w.closeT + 248700 ≤ s.bay.now →
      s.bay.sweepTable (s.bay.sweepOf c).table = some (fl, sp, rm, pts) → pts.length ≤ w.idx + 1 → s.bay.flag (F.EISCH_STAT_RUN c) = true →
    completes (.pointResult c) s (fun b => b.rd (F.EISCH_STAT_RUN c) = 0 ∧ b.rd (F.EISCH_STAT_END c) = 1 ∧ (b.sweepOf c).closed = later ∧
      b.rd F.EIS_STAT_SWEEPING = s.bay.rd F.EIS_STAT_SWEEPING - 1 ∧ (b.sweepOf c).vecDue.length = (s.bay.sweepOf c).vecDue.length + 1)) ∧
  (∀ (c : Fin 64) (w : Window) (later : List Window) (fl sp rm : Int) (pts : List SweepPt), (s.bay.sweepOf c).closed = w :: later → w.closeT + 248700 ≤ s.bay.now →
      s.bay.sweepTable (s.bay.sweepOf c).table = some (fl, sp, rm, pts) → w.idx + 1 < pts.length →
    completes (.pointResult c) s (fun b => (b.sweepOf c).results.dropLast = (s.bay.sweepOf c).results ∧ (b.sweepOf c).closed = later ∧
      ((b.sweepOf c).results.getLast?).map (fun r => (r.idx, r.zre, r.zim, (r.flags : Int))) =
        some (w.idx, b.rd (F.EISCH_ZRE c), b.rd (F.EISCH_ZIM c), b.rd (F.EISCH_STAT_PFLAGS c)))) ∧
  (∀ (c : Fin 64) (w : VecDue) (later : List VecDue) (fl sp rm : Int) (pts : List SweepPt), (s.bay.sweepOf c).vecDue = w :: later → w.post + 100 * msTicks ≤ s.bay.now →
      s.bay.sweepTable w.table = some (fl, sp, rm, pts) → bitOf fl 1 = true →
    completes (.gradingVector c) s (fun b => (b.sweepOf c).vecDue = later ∧ ∃ g, b.gradeOf c = some g ∧ g.sweepId = w.table))

/-- Engine commands (R193 to R195, R198, R206). A START is judged as it is written; STOP, PAUSE, RESUME and RELEASE wait for their frame edge. A row delivered without its condition has no effect (log entry 58). -/
def Obligations.EngineCommands : Prop := ∀ s : State,
  (∀ c : Fin 64, s.bay.gate (F.ENG_CTL_START c) = none → s.bay.engState c = Es.stopped → s.bay.startRefusal c = 0 →
    completes (.engineStart c) s (fun b => b.engState c = Es.starting ∧ (b.engOf c).startAt = nextEdge s.bay.now ∧ (b.engOf c).image = s.bay.rd (F.ENG_IMAGE c) ∧
      b.rd F.SKN_STAT_ACTIVE = s.bay.rd F.SKN_STAT_ACTIVE + 1 ∧ keepsRegs s.bay b [F.ENG_STAT_STATE c, F.SKN_STAT_ACTIVE])) ∧
  (∀ c : Fin 64, s.bay.gate (F.ENG_CTL_START c) = none → s.bay.engState c = Es.stopped → s.bay.startRefusal c ≠ 0 →
    completes (.engineStart c) s (fun b => b.rd (F.ENG_STAT_REFUSE c) = s.bay.startRefusal c ∧ keepsRegs s.bay b [F.ENG_STAT_REFUSE c])) ∧
  (∀ c : Fin 64, s.bay.gate (F.ENG_CTL_STOP c) = none → s.bay.engState c = Es.running →
    completes (.engineStop c) s (fun b => (b.engOf c).hostCmds = (s.bay.engOf c).hostCmds ++ [.stop] ∧ keepsRegs s.bay b [])) ∧
  (∀ c : Fin 64, s.bay.gate (F.ENG_CTL_STOP c) = none → s.bay.engState c = Es.stopped →
    completes (.engineStop c) s (fun b => b = s.bay.refuse (F.ENG_CTL_STOP c) 4)) ∧
  (∀ c : Fin 64, s.bay.gate (F.ENG_CTL_PAUSE c) = none → s.bay.mode ≠ Mode.hold → s.bay.engState c = Es.running →
    completes (.enginePause c) s (fun b => (b.engOf c).hostCmds = (s.bay.engOf c).hostCmds ++ [.pause] ∧ keepsRegs s.bay b [])) ∧
  (∀ c : Fin 64, s.bay.gate (F.ENG_CTL_PAUSE c) = none → s.bay.mode = Mode.hold →
    completes (.enginePause c) s (fun b => b = s.bay.refuse (F.ENG_CTL_PAUSE c) 6)) ∧
  (∀ c : Fin 64, s.bay.gate (F.ENG_CTL_RESUME c) = none → s.bay.mode ≠ Mode.hold → s.bay.engState c = Es.paused →
    completes (.engineResume c) s (fun b => (b.engOf c).hostCmds = (s.bay.engOf c).hostCmds ++ [.resume] ∧ keepsRegs s.bay b [])) ∧
  (∀ c : Fin 64, s.bay.gate (F.ENG_CTL_RELEASE c) = none → s.bay.engState c = Es.frozen → s.bay.flag (F.ENG_STAT_CLR_ARMED c) = true →
    completes (.engineRelease c) s (fun b => (b.engOf c).hostCmds = (s.bay.engOf c).hostCmds ++ [.release] ∧ keepsRegs s.bay b [])) ∧
  (∀ c : Fin 64, s.bay.gate (F.ENG_CTL_RELEASE c) = none → s.bay.engState c = Es.frozen → s.bay.flag (F.ENG_STAT_CLR_ARMED c) = false →
    completes (.engineRelease c) s (fun b => b = s.bay.refuse (F.ENG_CTL_RELEASE c) 5)) ∧
  (∀ c : Fin 64, s.bay.gate (F.ENG_CTL_HSIG c) = none →
    completes (.hsig c) s (fun b => b.evBits = s.bay.evBits ++ [⟨(s.bay.now / frameTicks + 2) * frameTicks, c, 7⟩] ∧ keepsRegs s.bay b [])) ∧
  (∀ c : Fin 64, s.bay.rd (F.ENG_STAT_STATE c) = Es.frozen →
    completes (.frzRead c) s (fun b => b.rd (F.ENG_STAT_CLR_ARMED c) = 1 ∧ keepsRegs s.bay b [F.ENG_STAT_CLR_ARMED c]))

/-- Commands to many engines (R191, R193) and groups (R200 to R203). A row delivered without its condition has no effect (log entry 58). -/
def Obligations.GroupCommandsAndReleases : Prop := ∀ s : State,
  (∀ c : Fin 64, s.bay.gate F.SKN_SCMD_START = none → s.bay.maskedEngines = [c.val] → s.bay.walePresent (waleOf c) = true → s.bay.engState c = Es.stopped → s.bay.startRefusal c = 0 →
    completes .scmdStart s (fun b => b.engState c = Es.starting ∧ (b.engOf c).startAt = max (nextEdge s.bay.now) (ceilTo frameTicks (s.bay.rdN F.SKN_T_AT)))) ∧
  (∀ c : Fin 64, s.bay.gate F.SKN_SCMD_STOP = none → s.bay.maskedEngines = [c.val] → s.bay.walePresent (waleOf c) = true → s.bay.engState c = Es.running →
    completes .scmdStop s (fun b => (b.engOf c).hostCmds = (s.bay.engOf c).hostCmds ++ [.stop] ∧ keepsRegs s.bay b [])) ∧
  (∀ c : Fin 64, s.bay.gate F.SKN_SCMD_PAUSE = none → s.bay.maskedEngines = [c.val] → s.bay.walePresent (waleOf c) = true → s.bay.mode ≠ Mode.hold → s.bay.engState c = Es.running →
    completes .scmdPause s (fun b => (b.engOf c).hostCmds = (s.bay.engOf c).hostCmds ++ [.pause] ∧ keepsRegs s.bay b [])) ∧
  (∀ c : Fin 64, s.bay.gate F.SKN_SCMD_RESUME = none → s.bay.maskedEngines = [c.val] → s.bay.walePresent (waleOf c) = true → s.bay.mode ≠ Mode.hold → s.bay.engState c = Es.paused →
    completes .scmdResume s (fun b => (b.engOf c).hostCmds = (s.bay.engOf c).hostCmds ++ [.resume] ∧ keepsRegs s.bay b [])) ∧
  (∀ (c : Fin 64) (e : List Int) (code k : List Nat) (r : List Int), s.bay.engState c = Es.starting → (s.bay.engOf c).startAt ≤ s.bay.now →
      s.bay.programOf (s.bay.engOf c).image = some (e, code, k, r) →
    completes (.engineStartEdge c) s (fun b => b.engState c = Es.running ∧ b.rd (F.ENG_PC c) = nth e (s.bay.rdN (F.ENG_ENTRY_VAL c)) ∧
      b.rd (F.ENG_TURNS c) = 0 ∧ b.rd (F.ENG_STAT_DEPTH c) = 0 ∧ (∀ x : Nat, x < 256 → b.rd (scrKey c x) = 0) ∧ b.rd (F.CHN_REG_STAT_DIRECT c) = 0 ∧ 1 ∈ (b.chanOf c).holds)) ∧
  (∀ (g : Fin 16) (t : Nat), (s.bay.groupOf g).releaseAt = some t → t ≤ s.bay.now → s.bay.now % frameTicks = 0 →
    completes (.groupRelease g) s (fun b => b.rd (F.GRP_STAT_GEN g) = (s.bay.rd (F.GRP_STAT_GEN g) + 1) % 65536 ∧ b.rd (F.GRP_STAT_ARRIVED g) = 0 ∧
      b.rd (F.GRP_STAT_LAST g) = 1 ∧ b.groupOf g = {} ∧
      (∀ c ∈ s.bay.localMembers g, s.bay.waitsOn c g = true → b.engState c = Es.running))) ∧
  (∀ g : Fin 16, 0 < s.bay.rdN (F.GRP_TMO g) → (s.bay.groupOf g).arrived ≠ [] → (s.bay.groupOf g).releaseAt = none → (s.bay.groupOf g).breakAt = none →
      (s.bay.groupOf g).firstAt + s.bay.rdN (F.GRP_TMO g) * msTicks ≤ s.bay.now →
    completes (.groupTimeout g) s (fun b => (b.groupOf g).breakAt = some (ceilTo msTicks (frameStart s.bay.now + 50000), false) ∧ keepsRegs s.bay b [])) ∧
  (∀ g : Fin 16, s.bay.gate (F.GRP_CTL_ABORT g) = none → (s.bay.groupOf g).releaseAt = none → (s.bay.groupOf g).breakAt = none →
    completes (.groupAbort g) s (fun b => (b.groupOf g).breakAt = some (ceilTo msTicks (frameStart s.bay.now + 50000), false) ∧ keepsRegs s.bay b [])) ∧
  (∀ (g : Fin 16) (t : Nat) (m : Bool), (s.bay.groupOf g).breakAt = some (t, m) → t ≤ s.bay.now → s.bay.now % frameTicks = 0 →
    completes (.groupBreak ⟨g, none⟩) s (fun b => b.rd (F.GRP_STAT_GEN g) = (s.bay.rd (F.GRP_STAT_GEN g) + 1) % 65536 ∧ b.rd (F.GRP_STAT_ARRIVED g) = 0 ∧
      b.rd (F.GRP_STAT_LAST g) = (if m then 3 else 2) ∧
      (∀ c ∈ s.bay.localMembers g, s.bay.waitsOn c g = true → b.engState c = Es.running ∧ b.rd (F.CHN_REG_STAT_TO c) = 1))) ∧
  (∀ (g : Fin 16) (gen : BitVec 16) (st ch ts : Nat) (cnt : BitVec 13), (gen.toNat : Int) = s.bay.rd (F.GRP_STAT_GEN g) → (cnt.toNat : Int) ≠ s.bay.rd (F.GRP_CNT g) →
      (s.bay.groupOf g).releaseAt = none → (s.bay.groupOf g).breakAt = none →
    completes (.groupArrivalMessage g gen st ch ts cnt) s (fun b => (b.groupOf g).breakAt = some (ceilTo msTicks (ts + 50000), true) ∧
      keepsRegs s.bay b [F.EVT_STAT_LOST])) ∧
  (∀ (g : Fin 16) (gen : BitVec 16) (st ch ts : Nat) (cnt : BitVec 13), (gen.toNat : Int) = s.bay.rd (F.GRP_STAT_GEN g) → (cnt.toNat : Int) = s.bay.rd (F.GRP_CNT g) →
      (s.bay.groupOf g).releaseAt = none → (st, ch) ∉ (s.bay.groupOf g).arrived → (s.bay.groupOf g).arrived.length + 1 < s.bay.rd (F.GRP_CNT g) →
    completes (.groupArrivalMessage g gen st ch ts cnt) s (fun b => (st, ch) ∈ (b.groupOf g).arrived ∧
      b.rd (F.GRP_STAT_ARRIVED g) = (s.bay.groupOf g).arrived.length + 1)) ∧
  (∀ (g : Fin 16) (gen : BitVec 16) (ts : Nat) (m : Bool), (gen.toNat : Int) = s.bay.rd (F.GRP_STAT_GEN g) → (s.bay.groupOf g).releaseAt = none →
      (s.bay.groupOf g).breakAt = none →
    completes (.groupBreak ⟨g, some (gen, ts, m)⟩) s (fun b => (b.groupOf g).breakAt = some (ceilTo msTicks (ts + 50000), m) ∧ keepsRegs s.bay b []))

/-- Skein instructions of R222 on a running engine. `runsOn` gives the word the engine stands on; values are signed 32-bit numbers; `turned` says how the PC moves. A B outside 32 bits is log entry 23. -/
def Obligations.SkeinControlDataAndArithmetic : Prop := ∀ s : State,
  (∀ (c : Fin 64) (w : Nat), runsOn s c 0x00 w → completes (.skNop c) s (fun b => turned s.bay b c 1 ∧ keepsRegs s.bay b [F.ENG_PC c, F.ENG_TURNS c])) ∧
  (∀ (c : Fin 64) (w : Nat), runsOn s c 0x01 w → completes (.skHalt c) s (fun b => b.engState c = Es.halted ∧ turned s.bay b c 0 ∧
      keepsRegs s.bay b [F.ENG_STAT_STATE c, F.SKN_STAT_ACTIVE, F.ENG_PC c, F.ENG_TURNS c])) ∧
  (∀ (c : Fin 64) (w : Nat), runsOn s c 0x02 w → completes (.skEnd c) s (fun b => EngCmd.end_ ∈ (b.engOf c).cmds ∧ turned s.bay b c 0 ∧
      keepsRegs s.bay b [F.ENG_PC c, F.ENG_TURNS c])) ∧
  (∀ (c : Fin 64) (w : Nat), runsOn s c 0x03 w → completes (.skTrap c) s (fun b => frozenBy b c 10 (immOf w % 65536 : Nat) ∧ b.rd (F.ENG_PC c) = s.bay.rd (F.ENG_PC c))) ∧
  (∀ (c : Fin 64) (w : Nat), runsOn s c 0x04 w → sOf w ≤ 9 → completes (.skLdi c) s (fun b => b.k c (dOf w) = sat32 (sextOf w * 10 ^ sOf w) ∧ turned s.bay b c 1 ∧
      keepsRegs s.bay b [kKey c (dOf w), F.ENG_PC c, F.ENG_TURNS c])) ∧
  (∀ (c : Fin 64) (w : Nat), runsOn s c 0x04 w → 9 < sOf w → completes (.skLdi c) s (fun b => frozenBy b c 1 4)) ∧
  (∀ (c : Fin 64) (w v : Nat), runsOn2 s c 0x05 w (s.bay.rdN (F.ENG_PC c) + 1) 2 → (s.bay.codeOf c)[s.bay.rdN (F.ENG_PC c) + 1]? = some v →
    completes (.skLdw c) s (fun b => b.k c (dOf w) = asSigned 32 v ∧ turned s.bay b c 2 ∧ keepsRegs s.bay b [kKey c (dOf w), F.ENG_PC c, F.ENG_TURNS c])) ∧
  (∀ (c : Fin 64) (w : Nat), runsOn s c 0x07 w → completes (.skAdd c) s (fun b =>
      let v := asSigned 32 (s.bay.k c (dOf w) + s.bay.sumB c w)
      b.k c (dOf w) = v ∧ flagsAre b c (v == 0) (v < 0) (4294967296 ≤ s.bay.k c (dOf w) % 4294967296 + (s.bay.operandB c w).1 % 4294967296) ∧ turned s.bay b c 1 ∧
      keepsRegs s.bay b [kKey c (dOf w), F.ENG_STAT_Z c, F.ENG_STAT_N c, F.ENG_STAT_C c, F.ENG_PC c, F.ENG_TURNS c])) ∧
  (∀ (c : Fin 64) (w : Nat), runsOn s c 0x08 w → completes (.skSub c) s (fun b =>
      let v := asSigned 32 (s.bay.k c (dOf w) - s.bay.sumB c w)
      b.k c (dOf w) = v ∧ flagsAre b c (v == 0) (v < 0) (s.bay.k c (dOf w) % 4294967296 < (s.bay.operandB c w).1 % 4294967296) ∧ turned s.bay b c 1 ∧
      keepsRegs s.bay b [kKey c (dOf w), F.ENG_STAT_Z c, F.ENG_STAT_N c, F.ENG_STAT_C c, F.ENG_PC c, F.ENG_TURNS c])) ∧
  (∀ (c : Fin 64) (w : Nat), runsOn s c 0x09 w → field w 0 4 ≤ 9 → completes (.skMul c) s (fun b =>
      let v := (s.bay.k c (dOf w) * s.bay.k c (sOf w)).tdiv (10 ^ field w 0 4)
      b.k c (dOf w) = sat32 v ∧ flagsAre b c (sat32 v == 0) (sat32 v < 0) (sat32 v != v) ∧ turned s.bay b c 1 ∧
      keepsRegs s.bay b [kKey c (dOf w), F.ENG_STAT_Z c, F.ENG_STAT_N c, F.ENG_STAT_C c, F.ENG_PC c, F.ENG_TURNS c])) ∧
  (∀ (c : Fin 64) (w : Nat), runsOn s c 0x0A w → field w 0 4 ≤ 9 → s.bay.k c (sOf w) ≠ 0 → completes (.skDiv c) s (fun b =>
      let v := (s.bay.k c (dOf w) * 10 ^ field w 0 4).tdiv (s.bay.k c (sOf w))
      b.k c (dOf w) = sat32 v ∧ flagsAre b c (sat32 v == 0) (sat32 v < 0) (sat32 v != v) ∧ turned s.bay b c 1 ∧
      keepsRegs s.bay b [kKey c (dOf w), F.ENG_STAT_Z c, F.ENG_STAT_N c, F.ENG_STAT_C c, F.ENG_PC c, F.ENG_TURNS c])) ∧
  (∀ (c : Fin 64) (w : Nat), runsOn s c 0x0A w → field w 0 4 ≤ 9 → s.bay.k c (sOf w) = 0 → 0 < s.bay.k c (dOf w) → completes (.skDiv c) s (fun b =>
      b.k c (dOf w) = 2147483647 ∧ flagsAre b c false false true ∧ turned s.bay b c 1)) ∧
  (∀ (c : Fin 64) (w : Nat), runsOn s c 0x0B w → completes (.skMin c) s (fun b =>
      let v := min (s.bay.k c (dOf w)) (s.bay.operandB c w).1
      b.k c (dOf w) = v ∧ flagsAre b c (v == 0) (v < 0) (s.bay.flag (F.ENG_STAT_C c)) ∧ turned s.bay b c 1 ∧
      keepsRegs s.bay b [kKey c (dOf w), F.ENG_STAT_Z c, F.ENG_STAT_N c, F.ENG_PC c, F.ENG_TURNS c])) ∧
  (∀ (c : Fin 64) (w : Nat), runsOn s c 0x0C w → completes (.skMax c) s (fun b =>
      let v := max (s.bay.k c (dOf w)) (s.bay.operandB c w).1
      b.k c (dOf w) = v ∧ flagsAre b c (v == 0) (v < 0) (s.bay.flag (F.ENG_STAT_C c)) ∧ turned s.bay b c 1 ∧
      keepsRegs s.bay b [kKey c (dOf w), F.ENG_STAT_Z c, F.ENG_STAT_N c, F.ENG_PC c, F.ENG_TURNS c])) ∧
  (∀ (c : Fin 64) (w : Nat), runsOn s c 0x0D w → completes (.skAbs c) s (fun b =>
      let v : Int := (s.bay.k c (sOf w)).natAbs
      b.k c (dOf w) = sat32 v ∧ flagsAre b c (sat32 v == 0) (sat32 v < 0) (sat32 v != v) ∧ turned s.bay b c 1 ∧
      keepsRegs s.bay b [kKey c (dOf w), F.ENG_STAT_Z c, F.ENG_STAT_N c, F.ENG_STAT_C c, F.ENG_PC c, F.ENG_TURNS c])) ∧
  (∀ (c : Fin 64) (w : Nat), runsOn s c 0x0E w → completes (.skCmp c) s (fun b =>
      flagsAre b c (s.bay.k c (dOf w) == (s.bay.operandB c w).1) (s.bay.k c (dOf w) < (s.bay.operandB c w).1)
        (s.bay.k c (dOf w) % 4294967296 < (s.bay.operandB c w).1 % 4294967296) ∧ turned s.bay b c 1 ∧
      keepsRegs s.bay b [F.ENG_STAT_Z c, F.ENG_STAT_N c, F.ENG_STAT_C c, F.ENG_PC c, F.ENG_TURNS c])) ∧
  (∀ (c : Fin 64) (w : Nat), runsOn s c 0x0F w → sOf w ≤ 9 → completes (.skCmpi c) s (fun b =>
      flagsAre b c (s.bay.k c (dOf w) == sextOf w * 10 ^ sOf w) (s.bay.k c (dOf w) < sextOf w * 10 ^ sOf w) false ∧ turned s.bay b c 1 ∧
      keepsRegs s.bay b [F.ENG_STAT_Z c, F.ENG_STAT_N c, F.ENG_STAT_C c, F.ENG_PC c, F.ENG_TURNS c])) ∧
  (∀ (c : Fin 64) (w : Nat), s.bay.engState c = Es.running → EngCmd.end_ ∉ (s.bay.engOf c).cmds → s.bay.fetch c = some w → 0x2D ≤ opOf w →
      s.engRead c (s.bay.rdN (F.ENG_PC c)) 2 = (s, false) → completes (.reservedOpcode c) s (fun b => frozenBy b c 1 (opOf w % 65536 : Nat))) ∧
  (∀ (c : Fin 64) (w : Nat), startsOn s c 0x05 w → completes (.skLdw c) s (fun b => tookTurn s.bay b c)) ∧
  (∀ (c : Fin 64) (w : Nat), startsOn s c 0x0A w → completes (.skDiv c) s (fun b => tookTurn s.bay b c))

/-- Skein instructions of R225 to R229 on a running engine: a direct target stands in the overlay and a command in the frame's list until the next edge (R197). `tested` and `failStep` give the offset of the border field a value fails. `waittTimeout` is the last tick of a timed wait; delivered without that condition it has no effect (log entry 58). -/
def Obligations.SkeinChannelCommandsAndWaits : Prop := ∀ s : State,
  (∀ (c : Fin 64) (w : Nat), runsOn s c 0x14 w → field w 0 2 = 0 → s.bay.tested c (fun d => d.failCurrent (s.bay.k c (dOf w))) = none → s.bay.directRuns c = false →
    completes (.skSeti c) s (fun b => (b.engOf c).overlay = { (s.bay.engOf c).overlay with iSet := s.bay.k c (dOf w) } ∧
      (b.engOf c).cmds = (s.bay.engOf c).cmds ++ [.wrote 0] ∧ turned s.bay b c 1 ∧ keepsRegs s.bay b [F.ENG_PC c, F.ENG_TURNS c])) ∧
  (∀ (c : Fin 64) (w : Nat), runsOn s c 0x14 w → field w 0 2 = 1 → s.bay.tested c (fun d => d.failMagnitude (s.bay.k c (dOf w))) = none → s.bay.directRuns c = false →
    completes (.skSeti c) s (fun b => (b.engOf c).overlay = { (s.bay.engOf c).overlay with iLim := s.bay.k c (dOf w) } ∧ turned s.bay b c 1 ∧
      keepsRegs s.bay b [F.ENG_PC c, F.ENG_TURNS c])) ∧
  (∀ (c : Fin 64) (w off : Nat), runsOn s c 0x14 w → field w 0 2 = 0 → s.bay.tested c (fun d => d.failCurrent (s.bay.k c (dOf w))) = some off →
    completes (.skSeti c) s (fun b => frozenBy b c 7 (off % 65536))) ∧
  (∀ (c : Fin 64) (w : Nat), runsOn s c 0x15 w → s.bay.tested c (fun d => d.failVolt (s.bay.k c (dOf w))) = none → s.bay.directRuns c = false →
    completes (.skSetv c) s (fun b => (b.engOf c).overlay = { (s.bay.engOf c).overlay with vLim := s.bay.k c (dOf w) } ∧ turned s.bay b c 1 ∧
      keepsRegs s.bay b [F.ENG_PC c, F.ENG_TURNS c])) ∧
  (∀ (c : Fin 64) (w : Nat), runsOn s c 0x16 w → s.bay.directRuns c = false →
    completes (.skSetp c) s (fun b => (b.engOf c).overlay = { (s.bay.engOf c).overlay with pSet := s.bay.k c (dOf w) } ∧ turned s.bay b c 1 ∧
      keepsRegs s.bay b [F.ENG_PC c, F.ENG_TURNS c])) ∧
  (∀ (c : Fin 64) (w : Nat), runsOn s c 0x17 w → field w 0 4 < 8 → (s.bay.engOf c).legacyArm = none →
      s.bay.failStep c ((s.bay.engOf c).overlay.params (field w 0 4) false) = none →
    completes (.skMode c) s (fun b => (b.engOf c).cmds = (s.bay.engOf c).cmds ++ [.mode (field w 0 4) none] ∧ turned s.bay b c 1 ∧
      keepsRegs s.bay b [F.ENG_PC c, F.ENG_TURNS c])) ∧
  (∀ (c : Fin 64) (w : Nat), runsOn s c 0x18 w → (s.bay.rampMode c).1 ≤ 1 →
    completes (.skRamp c) s (fun b => (b.engOf c).cmds = (s.bay.engOf c).cmds ++ [.ramp (s.bay.k c (dOf w)) (s.bay.k c (sOf w))] ∧ turned s.bay b c 1 ∧
      keepsRegs s.bay b [F.ENG_PC c, F.ENG_TURNS c])) ∧
  (∀ (c : Fin 64) (w : Nat), runsOn s c 0x18 w → s.bay.rampMode c = (2, true) → s.bay.tested c (fun d => d.failCurrent (s.bay.k c (dOf w))) = none →
      s.bay.testAgain c { (s.bay.engOf c).overlay with iSet := s.bay.k c (dOf w) } = none →
    completes (.skRamp c) s (fun b => (b.engOf c).cmds = (s.bay.engOf c).cmds ++ [.ramp (s.bay.k c (dOf w)) (s.bay.k c (sOf w))] ∧
      (b.engOf c).overlay = (s.bay.engOf c).overlay ∧ turned s.bay b c 1 ∧ keepsRegs s.bay b [F.ENG_PC c, F.ENG_TURNS c])) ∧
  (∀ (c : Fin 64) (w : Nat), runsOn s c 0x19 w → s.bay.tested c (fun d => d.failMagnitude (s.bay.k c (dOf w))) = none → s.bay.directRuns c = false →
    completes (.skPulse c) s (fun b => (b.engOf c).overlay.aux = s.bay.k c (dOf w) ∧
      (b.engOf c).overlay.t1 = max 1 (field (s.bay.k c (sOf w) % 4294967296).toNat 16 16 : Nat) ∧
      (b.engOf c).overlay.t2 = max 1 (field (s.bay.k c (sOf w) % 4294967296).toNat 0 16 : Nat) ∧ turned s.bay b c 1 ∧ keepsRegs s.bay b [F.ENG_PC c, F.ENG_TURNS c])) ∧
  (∀ (c : Fin 64) (w : Nat), runsOn s c 0x1A w → s.bay.k c (dOf w) = 0 →
    completes (.skPress c) s (fun b => (b.engOf c).cmds = (s.bay.engOf c).cmds ++ [.press 0] ∧ turned s.bay b c 1 ∧ keepsRegs s.bay b [F.ENG_PC c, F.ENG_TURNS c])) ∧
  (∀ (c : Fin 64) (w : Nat) (v : Bool), runsOn s c 0x1B w → s.bay.condition c (dOf w) = some v →
    completes (.skWait c) s (fun b => b.engState c = Es.waiting ∧ (b.engOf c).wait = .cond (dOf w) ∧ turned s.bay b c 0 ∧
      keepsRegs s.bay b [F.ENG_STAT_STATE c, F.SKN_STAT_ACTIVE, F.ENG_PC c, F.ENG_TURNS c])) ∧
  (∀ (c : Fin 64) (w : Nat) (v : Bool), runsOn s c 0x1C w → s.bay.condition c (dOf w) = some v →
    completes (.skWaitt c) s (fun b => b.engState c = Es.waiting ∧ (b.engOf c).wait = .timed (dOf w) (max 1 (s.bay.k c (sOf w))) ∧ turned s.bay b c 0 ∧
      keepsRegs s.bay b [F.ENG_STAT_STATE c, F.SKN_STAT_ACTIVE, F.ENG_PC c, F.ENG_TURNS c])) ∧
  (∀ (c : Fin 64) (n : Int), s.bay.engState c = Es.waiting → (s.bay.engOf c).wait = .timed 12 n → n ≤ 1 → s.bay.now % msTicks = 0 →
    completes (.waittTimeout c) s (fun b => b.engState c = Es.running ∧ b.rd (F.ENG_STAT_Z c) = 1 ∧ b.rd (F.ENG_PC c) = s.bay.rd (F.ENG_PC c) + 1 ∧
      (b.engOf c).wait = .none))

/-- Skein instructions of R230 to R232 on a running engine: values into k_D, accumulators that clear at the edge, tables bound to the channel. -/
def Obligations.SkeinReadsAndTables : Prop := ∀ s : State,
  (∀ (c : Fin 64) (w : Nat), runsOn s c 0x1D w → field w 0 8 < 16 → completes (.skGet c) s (fun b =>
      let v := asSigned 32 (s.bay.getSel c (field w 0 8))
      b.k c (dOf w) = v ∧ b.flag (F.ENG_STAT_Z c) = (v == 0) ∧ b.flag (F.ENG_STAT_N c) = decide (v < 0) ∧ turned s.bay b c 1 ∧
      keepsRegs s.bay b [kKey c (dOf w), F.ENG_STAT_Z c, F.ENG_STAT_N c, F.ENG_PC c, F.ENG_TURNS c])) ∧
  (∀ (c : Fin 64) (w : Nat), runsOn s c 0x1D w → field w 0 8 = 24 → completes (.skGet c) s (fun b => b.k c (dOf w) = (s.bay.engOf c).evt ∧ (b.engOf c).evt = 0 ∧ turned s.bay b c 1 ∧
      keepsRegs s.bay b [kKey c (dOf w), F.ENG_STAT_Z c, F.ENG_STAT_N c, F.ENG_PC c, F.ENG_TURNS c])) ∧
  (∀ (c : Fin 64) (w : Nat), runsOn s c 0x1D w → 31 ≤ field w 0 8 → completes (.skGet c) s (fun b => frozenBy b c 1 0x1D)) ∧
  (∀ (c : Fin 64) (w : Nat), runsOn s c 0x1E w → completes (.skGeta c) s (fun b =>
      let v := s.bay.rd (aKey c (sOf w % 4))
      b.k c (dOf w) = sat32 v ∧ flagsAre b c (sat32 v == 0) (sat32 v < 0) (sat32 v != v) ∧ turned s.bay b c 1 ∧
      keepsRegs s.bay b [kKey c (dOf w), F.ENG_STAT_Z c, F.ENG_STAT_N c, F.ENG_STAT_C c, F.ENG_PC c, F.ENG_TURNS c])) ∧
  (∀ (c : Fin 64) (w : Nat), runsOn s c 0x1F w → field w 0 3 < 6 →
    completes (.skClra c) s (fun b => (b.engOf c).cmds = (s.bay.engOf c).cmds ++ [.clra (dOf w % 4) (field w 0 3)] ∧ turned s.bay b c 1 ∧ keepsRegs s.bay b [F.ENG_PC c, F.ENG_TURNS c])) ∧
  (∀ (c : Fin 64) (w : Nat) (m : Image), runsOn s c 0x20 w → s.bay.refOf c (field w 0 6) 2 = some m →
    completes (.skZone c) s (fun b => (b.engOf c).bound = some m.id ∧ turned s.bay b c 1 ∧ keepsRegs s.bay b [F.ENG_PC c, F.ENG_TURNS c])) ∧
  (∀ (c : Fin 64) (w : Nat), runsOn s c 0x20 w → s.bay.refOf c (field w 0 6) 2 = none → completes (.skZone c) s (fun b => frozenBy b c 11 (field w 0 6 % 65536))) ∧
  (∀ (c : Fin 64) (w : Nat) (id : Int) (t : Zoned), runsOn s c 0x21 w → (immOf w).testBit 4 = false → (s.bay.engOf c).bound = some id → s.bay.zonedOf id = some t →
      field w 0 4 < t.nstep → s.bay.failStep c (t.entry (s.bay.zoneFor c id t) (field w 0 4)) = none →
    completes (.skStep c) s (fun b => (b.engOf c).cmds = (s.bay.engOf c).cmds ++ [.step id (field w 0 4)] ∧ turned s.bay b c 1 ∧ keepsRegs s.bay b [F.ENG_PC c, F.ENG_TURNS c])) ∧
  (∀ (c : Fin 64) (w : Nat) (id : Int) (k sz : Nat) (v a sc : Int) (pts : List (Int × Int)), runsOn s c 0x22 w →
      s.bay.refOf c (field w 0 6) 4 = some ⟨id, k, v, a, sc, sz, .curve pts⟩ →
    completes (.skCurve c) s (fun b => b.k c (dOf w) = curveAt (s.bay.k c (sOf w)) pts ∧ turned s.bay b c 1 ∧ keepsRegs s.bay b [kKey c (dOf w), F.ENG_PC c, F.ENG_TURNS c])) ∧
  (∀ (c : Fin 64) (w : Nat), runsOn s c 0x23 w → 4 ≤ field w 0 7 → field w 0 7 ≤ 64 →
    completes (.skTerm c) s (fun b => (b.engOf c).overlay = { (s.bay.engOf c).overlay with termDiv := field w 0 7, tQual := clampI 0 6553500 (s.bay.k c (dOf w)) / 100 } ∧
      turned s.bay b c 1 ∧ keepsRegs s.bay b [F.ENG_PC c, F.ENG_TURNS c])) ∧
  (∀ (c : Fin 64) (w : Nat), runsOn s c 0x24 w → s.bay.directRuns c = false →
    completes (.skSafet c) s (fun b => (b.engOf c).overlay = { (s.bay.engOf c).overlay with tSafe := max 0 (s.bay.k c (dOf w)) } ∧ turned s.bay b c 1 ∧
      keepsRegs s.bay b [F.ENG_PC c, F.ENG_TURNS c])) ∧
  (∀ (c : Fin 64) (w : Nat), startsOn s c 0x21 w → completes (.skStep c) s (fun b => tookTurn s.bay b c)) ∧
  (∀ (c : Fin 64) (w : Nat), startsOn s c 0x22 w → completes (.skCurve c) s (fun b => tookTurn s.bay b c))

/-- Skein instructions of R233 to R235 on a running engine: commands of the frame, marks in the record and arrivals at groups. JOIN and SIGNAL count the arrivals this bay alone can give by its wales (log entry 24). -/
def Obligations.SkeinSweepsMarksAndGroups : Prop := ∀ s : State,
  (∀ (c : Fin 64) (w : Nat) (m : Image), runsOn s c 0x25 w → dOf w = 0 → s.bay.refOf c (field w 0 6) 5 = some m →
    completes (.skSweep c) s (fun b => (b.engOf c).cmds = (s.bay.engOf c).cmds ++ [.sweep m.id] ∧ turned s.bay b c 1 ∧ keepsRegs s.bay b [F.ENG_PC c, F.ENG_TURNS c])) ∧
  (∀ (c : Fin 64) (w : Nat), runsOn s c 0x25 w → dOf w = 1 →
    completes (.skSweepStop c) s (fun b => (b.engOf c).cmds = (s.bay.engOf c).cmds ++ [.sweepStop] ∧ turned s.bay b c 1 ∧ keepsRegs s.bay b [F.ENG_PC c, F.ENG_TURNS c])) ∧
  (∀ (c : Fin 64) (w : Nat) (g : GradeVec), runsOn s c 0x26 w → field w 0 4 < 9 → s.bay.gradeOf c = some g →
    completes (.skGrade c) s (fun b => b.k c (dOf w) = g.sel (field w 0 4) ∧ turned s.bay b c 1 ∧ keepsRegs s.bay b [kKey c (dOf w), F.ENG_PC c, F.ENG_TURNS c])) ∧
  (∀ (c : Fin 64) (w : Nat), runsOn s c 0x26 w → field w 0 4 < 9 → s.bay.gradeOf c = none →
    completes (.skGrade c) s (fun b => b.k c (dOf w) = 0 ∧ b.rd (F.ENG_STAT_Z c) = 1 ∧ turned s.bay b c 1 ∧
      keepsRegs s.bay b [kKey c (dOf w), F.ENG_STAT_Z c, F.ENG_PC c, F.ENG_TURNS c])) ∧
  (∀ (c : Fin 64) (w : Nat), runsOn s c 0x27 w → (s.bay.engOf c).markEdge ≠ some (frameStart s.bay.now) →
    completes (.skMark c) s (fun b => (b.engOf c).markEdge = some (frameStart s.bay.now) ∧ turned s.bay b c 1)) ∧
  (∀ (c : Fin 64) (w : Nat), runsOn s c 0x27 w → (s.bay.engOf c).markEdge = some (frameStart s.bay.now) →
    completes (.skMark c) s (fun b => b.ring = s.bay.ring ∧ (b.engOf c).slots = s.bay.turnsHad c + 1 ∧ keepsRegs s.bay b [])) ∧
  (∀ (c : Fin 64) (w : Nat), runsOn s c 0x28 w → (s.bay.engOf c).markEdge ≠ some (frameStart s.bay.now) →
    completes (.skLog c) s (fun b => (b.engOf c).markEdge = some (frameStart s.bay.now) ∧ turned s.bay b c 1)) ∧
  (∀ (c : Fin 64) (w : Nat), runsOn s c 0x29 w → s.bay.groupHopeless (field w 0 4) = false →
    completes (.skJoin c) s (fun b => b.engState c = Es.waiting ∧ (b.engOf c).wait = .group (field w 0 4) (s.bay.rd (F.GRP_STAT_GEN (field w 0 4))) ∧
      b.rd (F.ENG_STAT_JOINED c) = 1 ∧ b.rd (F.ENG_GRP_G c) = field w 0 4 ∧ (s.bay.rdN F.BAY_NODE_ADDR, c.val) ∈ (b.groupOf (field w 0 4)).arrived ∧ turned s.bay b c 0)) ∧
  (∀ (c : Fin 64) (w : Nat), runsOn s c 0x29 w → s.bay.groupHopeless (field w 0 4) = true → completes (.skJoin c) s (fun b => frozenBy b c 12 (field w 0 4 % 65536))) ∧
  (∀ (c : Fin 64) (w : Nat), runsOn s c 0x2A w → s.bay.groupHopeless (field w 0 4) = false →
    completes (.skSignal c) s (fun b => (s.bay.rdN F.BAY_NODE_ADDR, c.val) ∈ (b.groupOf (field w 0 4)).arrived ∧ turned s.bay b c 1 ∧
      keepsRegs s.bay b [F.GRP_STAT_ARRIVED (field w 0 4), F.ENG_PC c, F.ENG_TURNS c])) ∧
  (∀ (c : Fin 64) (w : Nat), runsOn s c 0x2B w → s.bay.rd (F.CHN_REG_STAT_BORDER_OK c) = 1 → bitOf (s.bay.borderOf c).flags 2 = true →
      s.bay.k c (dOf w) ≤ (s.bay.borderOf c).donQMax →
    completes (.skDonate c) s (fun b => (b.engOf c).cmds = (s.bay.engOf c).cmds ++ [.donate (s.bay.k c (dOf w))] ∧ turned s.bay b c 1 ∧
      keepsRegs s.bay b [F.ENG_PC c, F.ENG_TURNS c])) ∧
  (∀ (c : Fin 64) (w : Nat) (m : Image), runsOn s c 0x2C w → s.bay.refOf c (field w 0 6) 2 = some m →
    completes (.skLegacy c) s (fun b => (b.engOf c).legacyArm = some m.id ∧ turned s.bay b c 1 ∧ keepsRegs s.bay b [F.ENG_PC c, F.ENG_TURNS c]))

/-- The control frame (R24, R25, R30, R244, R338, R341 to R343). A row at a fixed offset of the frame carries bay time there. Slots 0 to 3 are S0 to S3, 4 is X; holder 1 is CA, 2 is CB. Which SEQ a stage expects is log entry 32. -/
def Obligations.FramesHoldersAndDeadline : Prop := ∀ s : State,
  (completes .sampleFrameSend s (fun b => b.now = max s.bay.now (frameStart s.bay.now + 250) ∧
    (∀ n : Nat, n < 6 → s.bay.slotFitted n = true → (b.slotOf n).reported = (s.bay.slotOf n).holder ∧ (b.slotOf n).conflict = false ∧
      (b.slotOf n).strobeMark = false ∧ (b.slotOf n).markSent = (s.bay.slotOf n).strobeMark) ∧
    (∀ n : Nat, n < 6 → s.bay.slotFitted n = false → b.slotOf n = s.bay.slotOf n) ∧
    keepsRegs s.bay b [F.RED_FLT_CAUSE, F.RED_FLT_SIDE, F.RED_FLT_DETAIL, F.RED_FLT_COUNT, F.EVT_STAT_LOST])) ∧
  ((∀ n : Nat, n < 6 → s.bay.slotFitted n = true → (s.bay.slotOf n).conflict = false) →
    completes .sampleFrameSend s (fun b => (∀ n : Nat, n < 6 → s.bay.slotFitted n = true → (b.slotOf n).reported = (s.bay.slotOf n).holder) ∧ keepsRegs s.bay b [])) ∧
  (∀ a c d : BitVec 6, completes (.sampleFrameExchange a c d) s (fun b => b.now = max s.bay.now (frameStart s.bay.now + 375) ∧
    b.rd F.RED_VIEW_RX_CA = (a.toNat % 32 : Nat) ∧ b.rd F.RED_VIEW_RX_CB = (c.toNat % 32 : Nat) ∧
    b.rd F.RED_SMIS_CNT % 4294967296 = (s.bay.rd F.RED_SMIS_CNT +
      (((List.range 6).filter (fun n => s.bay.slotFitted n && !(a.toNat.testBit n && c.toNat.testBit n && !d.toNat.testBit n))).length : Nat)) % 4294967296)) ∧
  (∀ a c d : BitVec 6, (∀ n : Nat, n < 6 → s.bay.slotFitted n = true → a.toNat.testBit n = true ∧ c.toNat.testBit n = true ∧ d.toNat.testBit n = false) →
    completes (.sampleFrameExchange a c d) s (fun b => b.rd F.RED_VIEW_RX_CA = (a.toNat % 32 : Nat) ∧ b.rd F.RED_VIEW_RX_CB = (c.toNat % 32 : Nat) ∧
      (∀ n : Nat, n < 6 → s.bay.slotFitted n = true → (b.slotOf n).miss = 0) ∧ keepsRegs s.bay b [F.RED_VIEW_RX_CA, F.RED_VIEW_RX_CB])) ∧
  (∀ j : Fin 4, completes (.commandFrameSend j) s (fun b => b.now = max s.bay.now (frameStart s.bay.now + (if j = 3 then 4250 else 500 + 1250 * j.val)) ∧
    b.red.sent.map (fun f => (f.cart, f.slot)) = ([0, 1].filter (fun x => s.bay.cPresent x && !s.bay.red.silent.contains x)).flatMap
      (fun x => (List.range 5).filter s.bay.slotFitted |>.map (fun n => (x, n))) ∧
    (∀ f ∈ b.red.sent, f.index = j.val ∧ f.seq = (b.now / frameTicks * 4 + j.val) % 64 ∧ f.role = (s.bay.role f.cart).toNat ∧
      f.suspect = s.bay.red.out.contains f.cart ∧ f.fresh = (j.val == 3) ∧ f.frame = b.now / frameTicks % 4294967296) ∧ keepsRegs s.bay b [])) ∧
  (∀ (n : Fin 5) (x : Fin 2) (f : CmdIn), s.bay.slotFitted n = true → (s.bay.slotOf n).holder = x.val + 1 → (s.bay.slotOf n).cand = none →
      (s.bay.slotOf n).good f (max s.bay.now (frameStart s.bay.now + (if f.index = 3 then 4375 else 625 + 1250 * f.index.val))) = true →
    completes (.commandFrameReceive n x f) s (fun b => (b.slotOf n).holder = x.val + 1 ∧ (b.slotOf n).lastSeq = f.seq.toNat ∧ (b.slotOf n).lastRole = f.role.toNat ∧
      (b.slotOf n).misses = 0 ∧ (b.slotOf n).stopped = false ∧ (b.slotOf n).lastAcc = max s.bay.now (frameStart s.bay.now + (if f.index = 3 then 4375 else 625 + 1250 * f.index.val)) ∧
      b.now = max (b.slotOf n).lastAcc (if f.index = 3 then frameStart (b.slotOf n).lastAcc + 4500 else 0) ∧
      (n.val = 4 → s.bay.joining x = false → keepsRegs s.bay b []))) ∧
  (∀ (n : Fin 5) (x : Fin 2) (f : CmdIn), s.bay.slotFitted n = true → (s.bay.slotOf n).holder = x.val + 1 → (s.bay.slotOf n).cand = none → n.val < 4 →
      (s.bay.waleSt n).stoppedAlone = false → (s.bay.slotOf n).good f (max s.bay.now (frameStart s.bay.now + (if f.index = 3 then 4375 else 625 + 1250 * f.index.val))) = true →
    completes (.commandFrameReceive n x f) s (fun b => ∀ c ∈ waleChans n,
      (f.index ≠ 3 → (b.stageOf c).vRefIn = (s.bay.loopChOf c).vRef0 ∧ (b.stageOf c).iTgt = (s.bay.loopChOf c).iTgt0) ∧
      (f.index = 3 → (b.stageOf c).vRefIn = (s.bay.loopChOf c).vRef ∧ (b.stageOf c).iTgt = (s.bay.loopChOf c).iTgt))) ∧
  (∀ (n : Fin 5) (x : Fin 2) (f : CmdIn), s.bay.slotFitted n = true → (s.bay.slotOf n).holder = 0 →
      (s.bay.slotOf n).good f (max s.bay.now (frameStart s.bay.now + (if f.index = 3 then 4375 else 625 + 1250 * f.index.val))) = true →
    completes (.commandFrameReceive n x f) s (fun b => (b.slotOf n).holder = x.val + 1 ∧ (b.slotOf n).lastSeq = f.seq.toNat ∧ (b.slotOf n).lastRole = f.role.toNat ∧
      (b.slotOf n).misses = 0 ∧ (b.slotOf n).lastAcc = max s.bay.now (frameStart s.bay.now + (if f.index = 3 then 4375 else 625 + 1250 * f.index.val)))) ∧
  (∀ (n : Fin 5) (x : Fin 2) (f : CmdIn), s.bay.slotFitted n = true → f.crc = false → (s.bay.slotOf n).holder ≠ x.val + 1 →
      (s.bay.joining x = true → s.bay.role x ≠ 1) →
    completes (.commandFrameReceive n x f) s (fun b => b.slotOf n = s.bay.slotOf n ∧ keepsRegs s.bay b [])) ∧
  (∀ n : Fin 5, s.bay.slotFitted n = true → (s.bay.slotOf n).holder ≠ 0 → (s.bay.slotOf n).misses = 0 →
      (s.bay.slotOf n).lastAcc + 12 * usTicks ≤ s.bay.now → s.bay.now < (s.bay.slotOf n).lastAcc + 24 * usTicks →
    completes (.holderMiss n) s (fun b => (b.slotOf n).misses = 1 ∧ (b.slotOf n).holder = (s.bay.slotOf n).holder ∧ b.now = s.bay.now ∧
      (s.bay.lockstep = true → b.winOpen 1 = true) ∧ (s.bay.lockstep = false → keepsRegs s.bay b []))) ∧
  (∀ (n : Fin 5) (q : Nat × Nat × Nat), s.bay.slotFitted n = true → ((s.bay.slotOf n).holder = 1 ∨ (s.bay.slotOf n).holder = 2) → (s.bay.slotOf n).misses = 1 →
      (s.bay.slotOf n).lastAcc + 24 * usTicks ≤ s.bay.now → (s.bay.slotOf n).cand = some q → 2 ≤ q.2.1 → s.bay.now - q.1 ≤ 10 * usTicks →
    completes (.holderMiss n) s (fun b => (b.slotOf n).holder = 3 - (s.bay.slotOf n).holder ∧ (b.slotOf n).misses = 0 ∧ (b.slotOf n).lastSeq = q.2.2 ∧
      (b.slotOf n).lastAcc = q.1 ∧ b.rd F.RED_SO_T = s.bay.now)) ∧
  (∀ n : Fin 5, s.bay.slotFitted n = true → (s.bay.slotOf n).holder ≠ 0 → (s.bay.slotOf n).misses = 1 →
      (s.bay.slotOf n).lastAcc + 24 * usTicks ≤ s.bay.now → (s.bay.slotOf n).cand = none →
    completes (.holderMiss n) s (fun b => (b.slotOf n).holder = (s.bay.slotOf n).holder ∧ (b.slotOf n).misses = 2 ∧ keepsRegs s.bay b [])) ∧
  (∀ n : Fin 5, n.val < 4 → s.bay.slotFitted n = true → (s.bay.slotOf n).stopped = false → (s.bay.slotOf n).lastAcc + 100 * usTicks ≤ s.bay.now →
    completes (.commandFrameTimeout n) s (fun b => (b.slotOf n).stopped = true ∧ (b.waleSt n).stoppedAlone = true ∧ (s.bay.mode = Mode.energized → 3 ∈ b.modeSt.stops) ∧
      ∀ c ∈ waleChans n, 10 ∈ (b.chanOf c).holds)) ∧
  (∀ n : Fin 5, n.val = 4 → s.bay.slotFitted n = true → (s.bay.slotOf n).stopped = false → (s.bay.slotOf n).lastAcc + 100 * usTicks ≤ s.bay.now →
    completes (.commandFrameTimeout n) s (fun b => (b.slotOf n).stopped = true ∧ (s.bay.mode = Mode.energized → 3 ∈ b.modeSt.stops) ∧
      ∀ a : Fin 6, b.axState a = Ax.sto ∧ (s.bay.axState a ≠ Ax.sto → b.rd (F.AXS_FLT_CAUSE a) = 14))) ∧
  (∀ e : FrameEnd, e.missed = [] → e.crcDiffer = 0 → e.digestDiffer = false →
    completes (.computeDeadline e) s (fun b => b.now = max s.bay.now (frameStart s.bay.now + 3750) ∧ b.rd F.LOOP_STAT_LANE_OK = 15 ∧
      (∀ o : Nat, o < 64 → s.bay.slotFitted (o / 16) = true → (s.bay.loopChOf o).missAt ≠ some (frameStart b.now) → (b.loopChOf o).misses = 0) ∧
      keepsRegs s.bay b [F.LOOP_STAT_LANE_OK, F.LOOP_LANE0_END, F.LOOP_LANE1_END, F.LOOP_LANE2_END, F.LOOP_LANE3_END])) ∧
  (∀ (e : FrameEnd) (c : Fin 64), e.missed = [(⟨c.val, by omega⟩, 0)] → e.crcDiffer = 0 → e.digestDiffer = false → s.bay.slotFitted (waleOf c) = true →
      (s.bay.loopChOf c).ranAt = some (frameStart (max s.bay.now (frameStart s.bay.now + 3750))) →
      (s.bay.loopChOf c).missAt ≠ some (frameStart (max s.bay.now (frameStart s.bay.now + 3750))) →
    completes (.computeDeadline e) s (fun b => (b.loopChOf c).vRef = (s.bay.loopChOf c).vRef0 ∧ (b.loopChOf c).iTgt = (s.bay.loopChOf c).iTgt0 ∧
      (b.loopChOf c).misses = (s.bay.loopChOf c).misses + 1 ∧ b.rd F.LOOP_STAT_DL = 1 ∧ b.rd F.LOOP_DL_LAST_OBJ = c.val ∧
      b.rd F.LOOP_DL_CNT = (s.bay.rd F.LOOP_DL_CNT + 1) % 4294967296))

/-- Trace (R262, R263), DL_CLR (R264) and the image store (R207, R212, R213). `verifyAll` gives the RESULT of R212 that the cartridges agree on; signature and digest are those of Config (log entry 4). A row delivered without its condition has no effect (log entry 58). -/
def Obligations.TraceImagesAndDeadlineClear : Prop := ∀ s : State,
  (s.bay.gate F.LOOP_CTL_DL_CLR = none →
    completes .dlClr s (fun b => b.rd F.LOOP_STAT_DL = 0 ∧ b.rd F.LOOP_DL_LAST_OBJ = 0 ∧ b.rd F.LOOP_DL_LAST_LANE = 0 ∧ b.rd F.LOOP_DL_CNT = s.bay.rd F.LOOP_DL_CNT ∧
      keepsRegs s.bay b [F.LOOP_STAT_DL, F.LOOP_DL_LAST_OBJ, F.LOOP_DL_LAST_LANE])) ∧
  (∀ n : Fin 4, s.bay.gate (F.TR_CTL_ARM n) = none → s.bay.flag (F.TR_STAT_ARMED n) = false → (s.bay.traceOf n).waitCopy = false → s.bay.traceUsed < traceRoom →
    completes (.arm n) s (fun b => b.rd (F.TR_STAT_ARMED n) = 1 ∧ b.rd (F.TR_STAT_DONE n) = 0 ∧ b.rd (F.TR_STAT_TRIG n) = 0 ∧ b.rd (F.TR_STAT_THIN n) = 0 ∧
      b.rd (F.TR_STAT_FILL n) = 0 ∧ (b.traceOf n).recs = [] ∧
      keepsRegs s.bay b [F.TR_STAT_ARMED n, F.TR_STAT_DONE n, F.TR_STAT_TRIG n, F.TR_STAT_THIN n, F.TR_STAT_FILL n])) ∧
  (∀ n : Fin 4, s.bay.gate (F.TR_CTL_ARM n) = none → s.bay.flag (F.TR_STAT_ARMED n) = true →
    completes (.arm n) s (fun b => b = s.bay.refuse (F.TR_CTL_ARM n) 4)) ∧
  (∀ n : Fin 4, s.bay.gate (F.TR_CTL_FORCE n) = none → s.bay.flag (F.TR_STAT_ARMED n) = true → s.bay.flag (F.TR_CTL_RING n) = false → (s.bay.traceOf n).trigAt = none →
    completes (.force n) s (fun b => b.rd (F.TR_STAT_TRIG n) = 1 ∧ (b.traceOf n).trigAt = some (frameStart s.bay.now) ∧ (b.traceOf n).postLeft = traceLen - s.bay.rdN (F.TR_PRE_VAL n) ∧
      (b.traceOf n).forced = true ∧ keepsRegs s.bay b [F.TR_STAT_TRIG n])) ∧
  (∀ n : Fin 4, s.bay.flag (F.TR_STAT_ARMED n) = true → (s.bay.traceOf n).trigAt ≠ none → (s.bay.traceOf n).postLeft = 0 →
    completes (.traceCaptureEnd n) s (fun b => b.rd (F.TR_STAT_ARMED n) = 0 ∧ (b.traceOf n).waitCopy = true ∧ keepsRegs s.bay b [F.TR_STAT_ARMED n])) ∧
  (∀ (n : Fin 4) (a : Nat), (s.bay.traceOf n).waitCopy = true → s.bay.traceCredit n captureSize = true → s.bay.tracePlace = some a →
    ∃ t, exec (.traceCopyDone n) s = .next t ∧ t.pending = s.pending ∧ t.bay.rd (F.TR_STAT_DONE n) = 1 ∧ (t.bay.traceOf n).waitCopy = false ∧
      (t.bay.traceOf n).region = (s.bay.traceOf n).region ++ [(a, captureSize)] ∧ (t.bay.traceOf n).seq = (s.bay.traceOf n).seq + 1) ∧
  (s.bay.gate F.SKN_LOAD_CTL_GO = none → s.bay.flag F.SKN_LOAD_STAT_BUSY = false → s.bay.flag F.TRU_FWU_STAT_BUSY = false →
    completes .loadGo s (fun b => b.rd F.SKN_LOAD_STAT_BUSY = 1 ∧ b.trust.load = s.bay.rdN F.SKN_LOAD_LEN ∧ keepsRegs s.bay b [F.SKN_LOAD_STAT_BUSY])) ∧
  (s.bay.gate F.SKN_LOAD_CTL_GO = none → s.bay.flag F.SKN_LOAD_STAT_BUSY = true →
    completes .loadGo s (fun b => b = s.bay.refuse F.SKN_LOAD_CTL_GO 4)) ∧
  (s.bay.flag F.SKN_LOAD_STAT_BUSY = true →
    ∃ t, exec .loadComplete s = .next t ∧ t.pending = s.pending ∧ t.bay.rd F.SKN_LOAD_STAT_BUSY = 0 ∧
      t.bay.rd F.SKN_LOAD_STAT_RESULT = ((if (s.verifyAll s.bay.trust.load).2.1 = 99 then 1 else (s.verifyAll s.bay.trust.load).2.1 : Nat) : Int) ∧
      (∀ m, (s.verifyAll s.bay.trust.load).2.2.1 = some m → m.kind ≠ 6 → m ∈ t.bay.images)) ∧
  (∀ m : Image, s.bay.gate F.SKN_LOAD_CTL_DELETE = none → s.bay.flag F.SKN_LOAD_STAT_BUSY = false → s.bay.imageOf (s.bay.rd F.SKN_DEL_ID) = some m →
      s.bay.idInUse (s.bay.rd F.SKN_DEL_ID) = false →
    completes .delete s (fun b => (∀ x ∈ b.images, x.id ≠ s.bay.rd F.SKN_DEL_ID) ∧ b.rd F.SKN_LOAD_STAT_RESULT = 0)) ∧
  (∀ m : Image, s.bay.gate F.SKN_LOAD_CTL_DELETE = none → s.bay.flag F.SKN_LOAD_STAT_BUSY = false → s.bay.imageOf (s.bay.rd F.SKN_DEL_ID) = some m →
      s.bay.idInUse (s.bay.rd F.SKN_DEL_ID) = true →
    completes .delete s (fun b => b.images = s.bay.images ∧ b.rd F.SKN_LOAD_STAT_RESULT = 8))

/-- REGISTER_WRITE for a register of one RW field and of one RWS field, for a word that is refused whole, for a word without a register and for a misaligned one (R9, R11, R12, R398, R399); LOW_WORD_READ (R134); FRAME_EDGE (R24), which a bay in OFF does not have. MEAS.REF_CTL, a receive object's data, the memory halves, and MAINS and its like have rules of their own and are outside the first two clauses. -/
def Obligations.HostWordsAndFrameEdge : Prop := ∀ s : State,
  (∀ a v : BitVec 32, a.toNat % 4 ≠ 0 → exec (.registerWrite a v) s = .next s) ∧
  (∀ a v : BitVec 32, regAt a.toNat = none → exec (.registerWrite a v) s = .next s) ∧
  (∀ (a v : BitVec 32) (r : RegAt) (f : FieldRow), a.toNat % 4 = 0 → s.bay.mode ≠ 0 → regAt a.toNat = some r → r.rows = [f] → f.acc = .rw → r.grp ≠ .meas → r.grp ≠ .cfdObj → r.grp ≠ .mem →
      s.bay.gate ⟨r.grp, r.i, r.off, if r.grp == .chn && r.off == 0x200 then 1 else 0⟩ = none → r.manyBits v.toNat = false →
      s.bay.firstReason r v.toNat = none → s.bay.wordBad r v.toNat = false →
    completes (.registerWrite a v) s (fun b => b.rd (r.key f) = r.given s.bay f v.toNat ∧ keepsRegs s.bay b [r.key f] ∧ b.log = s.bay.log)) ∧
  (∀ (a v : BitVec 32) (r : RegAt) (f : FieldRow), a.toNat % 4 = 0 → s.bay.mode ≠ 0 → regAt a.toNat = some r → r.rows = [f] → f.acc = .rws → r.grp ≠ .src → r.grp ≠ .mem →
      s.bay.gate ⟨r.grp, r.i, r.off, if r.grp == .chn && r.off == 0x200 then 1 else 0⟩ = none → r.manyBits v.toNat = false →
      s.bay.firstReason r v.toNat = none → s.bay.wordBad r v.toNat = false →
    completes (.registerWrite a v) s (fun b => b.rdShadow (r.key f) = r.given s.bay f v.toNat ∧
      (⟨r.key f, r.given s.bay f v.toNat, commitEdge s.bay.now⟩ : Shadow) ∈ b.shadows ∧ keepsRegs s.bay b [])) ∧
  (∀ (a v : BitVec 32) (r : RegAt) (x : Int), a.toNat % 4 = 0 → s.bay.mode ≠ 0 → regAt a.toNat = some r → r.grp ≠ .mem →
      s.bay.gate ⟨r.grp, r.i, r.off, if r.grp == .chn && r.off == 0x200 then 1 else 0⟩ = some x →
    completes (.registerWrite a v) s (fun b => b = s.bay.refuse ⟨r.grp, r.i, r.off, if r.grp == .chn && r.off == 0x200 then 1 else 0⟩ x)) ∧
  (∀ (a v : BitVec 32) (r : RegAt), a.toNat % 4 = 0 → s.bay.mode ≠ 0 → regAt a.toNat = some r → r.grp = .bay → s.bay.gate ⟨r.grp, r.i, r.off, 0⟩ = none → r.manyBits v.toNat = true →
    completes (.registerWrite a v) s (fun b => b = s.bay.refuse ⟨r.grp, r.i, r.off, 0⟩ 4)) ∧
  (∀ (a : BitVec 32) (r : RegAt) (f : FieldRow), regAt a.toNat = some r → s.bay.mode ≠ 0 → s.bay.absentBlock ⟨r.grp, r.i, r.off, 0⟩ = false → r.rows = [f] → f.width = 64 → f.off = r.off →
    completes (.lowWordRead a) s (fun b => b.hiLatch.get 0 (r.key f) = (hiWord (s.bay.seen 0 (r.key f) f.acc) : Nat) ∧ keepsRegs s.bay b [])) ∧
  (∀ i : FrameIn, s.bay.mode ≠ 0 → ∃ t, exec (.frameEdge i) s = .next t ∧ t.pending = s.pending ∧ t.bay.now = nextEdge s.bay.now ∧
      (t.bay.mode ≠ 0 → t.bay.rd F.TIME_FRAME = (t.bay.now / 5000 % 4294967296 : Nat))) ∧
  (∀ i : FrameIn, s.bay.mode = 0 → exec (.frameEdge i) s = .next s)

/-- The latch of a slot asks for a release, the lock opens, closes again and yields to the key, and a cartridge leaves or comes (R477 to R481, R17, R513). The slot that is named holds a cartridge that is not blank where the rule asks it. A row delivered without its condition has no effect (log entry 58); that event 249 of LATCH_LOCKED carries a free happening is log entry 49. -/
def Obligations.LatchesAndCartridges : Prop := ∀ s : State,
  (∀ n : Fin 8, n.val = 7 → s.bay.slotFilledBy n = true → (s.bay.latchOf n).released = false → (s.bay.latchOf n).isOpen = false →
    completes (.latchRelease n) s (fun b => (b.latchOf n).released = true ∧ (b.latchOf n).req = true ∧ b.measSt.cur = none ∧ b.measSt.done = none ∧ keepsRegs s.bay b [F.EVT_STAT_LOST])) ∧
  (∀ n : Fin 8, 2 ≤ n.val → n.val < 6 → s.bay.slotFilledBy n = true → (s.bay.latchOf n).released = false → (s.bay.latchOf n).isOpen = false → s.bay.rd (F.SEC_STAT_STATE (n - 2)) = 2 →
    completes (.latchRelease n) s (fun b => (b.latchOf n).released = true ∧ (b.latchOf n).req = true ∧ (b.latchOf n).refused = false ∧ keepsRegs s.bay b [F.EVT_STAT_LOST])) ∧
  (∀ n : Fin 8, 2 ≤ n.val → n.val < 6 → s.bay.slotFilledBy n = true → (s.bay.latchOf n).released = false → (s.bay.latchOf n).isOpen = false →
      s.bay.rd (F.SEC_STAT_STATE (n - 2)) = 0 →
    completes (.latchRelease n) s (fun b => (b.latchOf n).req = false ∧ (b.latchOf n).refused = true ∧ keepsRegs s.bay b [F.EVT_STAT_LOST])) ∧
  (∀ n : Fin 8, s.bay.slotFilledBy n = true → s.bay.releaseDone n = true →
    completes (.extractionLockOpen n) s (fun b => (b.latchOf n).isOpen = true ∧ (b.latchOf n).req = false ∧ (b.latchOf n).openAt = s.bay.now ∧
      b = (s.bay.setLatch n { s.bay.latchOf n with req := false, isOpen := true, openAt := s.bay.now }).raiseD 249 (256 * (n.val : Int) + 4) ∧ keepsRegs s.bay b [F.EVT_STAT_LOST])) ∧
  (∀ n : Fin 8, (s.bay.latchOf n).released = true → (s.bay.latchOf n).req = false →
    completes (.latchLocked n) s (fun b => (b.latchOf n).released = false ∧ (b.latchOf n).refused = false ∧ (b.latchOf n).isOpen = (s.bay.latchOf n).isOpen ∧ keepsRegs s.bay b [F.EVT_STAT_LOST])) ∧
  (∀ n : Fin 8, n.val < 2 → (s.bay.latchOf n).released = true → (s.bay.latchOf n).req = true → (s.bay.latchOf n).swapAsked = true → (s.bay.latchOf n).hoAsked = false → s.bay.safe.handover = none →
    completes (.latchLocked n) s (fun b => (b.latchOf n).req = false ∧ b.red.swap = false ∧ keepsRegs s.bay b [F.EVT_STAT_LOST])) ∧
  (∀ n : Fin 8, n.val ≠ 6 → (s.bay.latchOf n).isOpen = true → (s.bay.latchOf n).byKey = false → s.bay.slotFilledBy n = true → (s.bay.latchOf n).openAt + 60 * secTicks ≤ s.bay.now →
    completes (.lockReclose n) s (fun b => b = s.bay.setLatch n { s.bay.latchOf n with isOpen := false })) ∧
  (∀ n : Fin 8, completes (.serviceKeyOpen n) s (fun b => (b.latchOf n).isOpen = true ∧ (b.latchOf n).byKey = true ∧ (b.latchOf n).openAt = s.bay.now ∧ keepsRegs s.bay b [F.EVT_STAT_LOST])) ∧
  (∀ n : Fin 8, n.val = 7 → s.bay.rd F.BAY_SLOTS_M = 6 → (s.bay.latchOf n).isOpen = true →
    ∃ t, exec (.cartridgeRemoved n) s = .next t ∧ t.mem = s.mem ∧ t.pending = s.pending ∧ t.bay.rd F.BAY_SLOTS_M = 0 ∧ t.bay.rd F.MEAS_STAT_PRESENT = 0 ∧
      t.bay.rd F.MEAS_WARM = 0 ∧ t.bay.measSt.cur = none ∧ t.bay.latchOf n = {}) ∧
  (∀ n : Fin 8, n.val = 6 → s.bay.rd F.BAY_SLOTS_X = 5 → (s.bay.latchOf n).isOpen = true →
    ∃ t, exec (.cartridgeRemoved n) s = .next t ∧ t.mem = s.mem ∧ t.pending = s.pending ∧ t.bay.rd F.BAY_SLOTS_X = 0 ∧ t.bay.plant.limit17 = true ∧
      t.bay.plant.axConvOn = false ∧ ∀ a ∈ allAxes, t.bay.axState a = Ax.sto) ∧
  (∀ n : Fin 8, n.val < 2 → 2 ≤ s.bay.rd (slotKey n) → (s.bay.latchOf n).isOpen = true →
    ∃ t, exec (.cartridgeRemoved n) s = .next t ∧ t.mem = s.mem.setCart n {} ∧ t.pending = s.pending ∧ t.bay.rd (slotKey n) = 0 ∧ t.bay.rd (F.MEM_STAT_INIT_DONE n) = 0) ∧
  (∀ (n : Fin 8) (c : Cartridge), s.bay.rd (slotKey n) ≠ 0 → completes (.cartridgeInserted n c) s (fun b => b = s.bay)) ∧
  (∀ n : Fin 8, s.bay.rd (slotKey n) = 0 →
    completes (.cartridgeInserted n .blank) s (fun b => b.rd (slotKey n) = 1 ∧ b.latchOf n = {} ∧ keepsRegs s.bay b [slotKey n, F.EVT_STAT_LOST])) ∧
  (∀ (n : Fin 8) (sv : Bool) (next : BitVec 16) (seq : BitVec 32), 2 ≤ n.val → n.val < 6 → s.bay.rd (slotKey n) = 0 →
    completes (.cartridgeInserted n (.ehs sv next seq)) s (fun b => b.rd (slotKey n) = (if sv then 4 else 3) ∧ b.rd (F.SEC_STAT_STATE (n - 2)) = 2 ∧
      b.rd (F.SEC_FRAM_STAT_NEXT (n - 2)) = (next.toNat : Int) ∧ b.rd (F.SEC_FRAM_SEQ (n - 2)) = (seq.toNat : Int) ∧ (b.waleSt (n - 2)).joined = false)) ∧
  (∀ n : Fin 8, n.val = 6 → s.bay.rd (slotKey n) = 0 →
    completes (.cartridgeInserted n .ehx) s (fun b => b.rd F.BAY_SLOTS_X = 5 ∧ (∀ a ∈ allAxes, b.axState a = Ax.disabled) ∧ (b.waleSt 4).joined = false ∧ (b.waleSt 4).convOn = false))

/-- POWER_UP and BOOT_COMPLETE act by R384, POWER_DOWN by R65, the supplies by R520. What restarting keeps is log entry 44. -/
def Obligations.PowerUpSupplyAndBoot : Prop := ∀ s : State,
  (s.bay.mode = 0 → completes .powerUp s (fun b => b.mode = Mode.boot ∧ b.rd F.BAY_STAT_PREV = 0 ∧ b.rd F.BAY_MODE_T = s.bay.now ∧ b.now = s.bay.now ∧ b.modeSt = {} ∧ b.chan = [] ∧ b.eng = [])) ∧
  (s.bay.mode ≠ 0 → s.bay.plant.rtOn = false → completes .powerDown s (fun b => b = s.bay.setModeSt { s.bay.modeSt with powerDown := true })) ∧
  (s.bay.mode ≠ 0 → s.bay.plant.rtOn = true → completes .powerDown s (fun b => b = s.bay.setPlant { s.bay.plant with auxSupply := true })) ∧
  (∀ i : Fin 2, s.bay.mode ≠ 0 → completes (.controlSupplyChange i 0) s (fun b => b.plant.auxSupply = false ∧ keepsRegs s.bay b [F.EVT_STAT_LOST])) ∧
  (∀ (i : Fin 2) (w : Fin 3), s.bay.mode ≠ 0 → w.val ≠ 0 → completes (.controlSupplyChange i w) s (fun b => b = s.bay.raise 250 i.val w.val)) ∧
  (∀ se up : BitVec 2, s.bay.mode = Mode.boot → s.bay.carts = [0, 1] → s.bay.modeSt.bootDone = false → s.bay.flag (F.MEM_STAT_INIT_DONE 0) = true → s.bay.flag (F.MEM_STAT_INIT_DONE 1) = true →
      s.bay.modeSt.mramBad = [] → se = 3 → up = 3 → s.bay.safe.active ≠ none →
    completes (.bootComplete se up) s (fun b => b.modeSt.bootDone = true ∧ b.mode = Mode.boot ∧ b.rd F.SAFE_STAT_MODE = 1 ∧ b.rd F.SAFE_STAT_CHA_OK = 1 ∧ b.rd F.SAFE_STAT_CHB_OK = 1 ∧
      b.rd F.TRU_STAT_SE_CA_OK = 1 ∧ b.rd F.TRU_STAT_SE_CB_OK = 1))

/-- Each bit of BAY.CMD that the mode in force accepts waits for the frame edge, STOP and ATT_REJ in place of what waits; a bit the mode does not accept, or one while another waits, draws its refusal (R383, R404). -/
def Obligations.BayCommands : Prop := ∀ s : State,
  (s.bay.gate F.BAY_CMD_ATT_OK = none → s.bay.mode = Mode.attest → s.bay.quotesRead = true → 1 ≤ s.bay.rd F.TRU_STAT_PLANT_N → s.bay.modeSt.cmd = none →
    completes .attOk s (fun b => b = s.bay.setModeSt { s.bay.modeSt with cmd := some 0 })) ∧
  (s.bay.gate F.BAY_CMD_CAL_DONE = none → s.bay.mode = Mode.calibrate → s.bay.calReady = true → s.bay.modeSt.cmd = none →
    completes .calDone s (fun b => b = s.bay.setModeSt { s.bay.modeSt with cmd := some 1 })) ∧
  (s.bay.gate F.BAY_CMD_CALIBRATE = none → s.bay.mode = Mode.standby → s.bay.modeSt.cmd = none →
    completes .calibrate s (fun b => b = s.bay.setModeSt { s.bay.modeSt with cmd := some 2 })) ∧
  (s.bay.gate F.BAY_CMD_HOLD = none → (s.bay.mode = Mode.energized ∨ s.bay.mode = Mode.forming ∨ s.bay.mode = Mode.degraded) → s.bay.modeSt.cmd = none →
    completes .hold s (fun b => b = s.bay.setModeSt { s.bay.modeSt with cmd := some 3 })) ∧
  (s.bay.gate F.BAY_CMD_RESUME = none → s.bay.mode = Mode.hold → s.bay.flag F.BAY_STAT_HOLD_RT = false → s.bay.modeSt.cmd = none →
    completes .resume s (fun b => b = s.bay.setModeSt { s.bay.modeSt with cmd := some 4 })) ∧
  (s.bay.gate F.BAY_CMD_SERVICE = none → (s.bay.mode = Mode.standby ∨ s.bay.mode = Mode.energized ∨ s.bay.mode = Mode.safeStop) → (∀ c ∈ allChans, s.bay.engRuns c = false) → s.bay.modeSt.cmd = none →
    completes .service s (fun b => b = s.bay.setModeSt { s.bay.modeSt with cmd := some 5 })) ∧
  (s.bay.gate F.BAY_CMD_EXIT_SVC = none → s.bay.mode = Mode.service → s.bay.modeSt.cmd = none →
    completes .exitSvc s (fun b => b = s.bay.setModeSt { s.bay.modeSt with cmd := some 6 })) ∧
  (s.bay.gate F.BAY_CMD_RECOVER = none → s.bay.mode = Mode.safeStop → s.bay.flag F.BAY_STAT_CLR_ARMED = true → s.bay.causesLeft = true → s.bay.modeSt.cmd = none →
    completes .recover s (fun b => b = s.bay.setModeSt { s.bay.modeSt with cmd := some 7 })) ∧
  (s.bay.gate F.BAY_CMD_STOP = none → completes .stop s (fun b => b = s.bay.setModeSt { s.bay.modeSt with cmd := some 8 })) ∧
  (s.bay.gate F.BAY_CMD_ATT_REJ = none → s.bay.mode = Mode.attest → completes .attRej s (fun b => b = s.bay.setModeSt { s.bay.modeSt with cmd := some 9 })) ∧
  (s.bay.gate F.BAY_CMD_RESUME = none → s.bay.mode = Mode.hold → s.bay.flag F.BAY_STAT_HOLD_RT = true → completes .resume s (fun b => b = s.bay.refuse F.BAY_CMD_RESUME 4)) ∧
  (s.bay.gate F.BAY_CMD_RECOVER = none → s.bay.mode = Mode.safeStop → s.bay.flag F.BAY_STAT_CLR_ARMED = false → completes .recover s (fun b => b = s.bay.refuse F.BAY_CMD_RECOVER 5)) ∧
  (∀ n : Nat, s.bay.gate F.BAY_CMD_CALIBRATE = none → s.bay.mode = Mode.standby → s.bay.modeSt.cmd = some n → completes .calibrate s (fun b => b = s.bay.refuse F.BAY_CMD_CALIBRATE 4)) ∧
  (s.bay.mode = Mode.safeStop → completes .stopCauseRead s (fun b => b.rd F.BAY_STAT_CLR_ARMED = 1 ∧ keepsRegs s.bay b [F.BAY_STAT_CLR_ARMED]))

/-- TIME_MARK and EVENT_RELEASE (R394, R397), the read that removes an entry and LOST_CLR (R405), LOCK and FREE_RUN after 2 ms, 1 s and 10 s without a message (R401, R422), the messages of the master and of the grandmaster (R400 to R402, R421). How far the steering moves after a message is free within its limits (log entry 45). A row delivered without its condition has no effect (log entry 58). -/
def Obligations.EventLogReadsAndBayTime : Prop := ∀ s : State,
  (10 * msTicks ≤ s.bay.now - s.bay.weave.notifyAt → (s.bay.streamOf 68).wr - (s.bay.streamOf 68).rel + 16 ≤ 1048576 →
    completes .timeMark s (fun b => b.weave.q68 = s.bay.weave.q68 ++ [(⟨s.bay.now - 80 * usTicks, 255, 0, 0, 0, 0, true⟩ : EvEntry).bytes] ∧ b.weave.notifyAt = s.bay.now ∧
      (b.streamOf 68).wr = (s.bay.streamOf 68).wr + 16 ∧ keepsRegs s.bay b [])) ∧
  (s.bay.now - s.bay.weave.notifyAt < 10 * msTicks → completes .timeMark s (fun b => b = s.bay)) ∧
  ((∀ e : EvEntry, e ∈ s.bay.log → s.bay.now < e.time + 80 * usTicks) → completes .eventRelease s (fun b => b.log = s.bay.log ∧ keepsRegs s.bay b [])) ∧
  ((∀ e : EvEntry, e ∈ s.bay.log → e.time + 80 * usTicks ≤ s.bay.now) → (∀ e : EvEntry, e ∈ s.bay.log → s.bay.rd (F.SRC_CFG_NOTE e.src) = 0) →
    completes .eventRelease s (fun b => b.log = s.bay.log.map (fun e => { e with released := true }) ∧ b.weave.q68 = s.bay.weave.q68)) ∧
  (∀ (e : EvEntry) (l : List EvEntry), s.bay.released = e :: l →
    completes .rdValRead s (fun b => b.log = removeEv e s.bay.log ∧ (b.log.length < logSize - 1 → b.episode = false) ∧ keepsRegs s.bay b [])) ∧
  (s.bay.released = [] → completes .rdValRead s (fun b => b = s.bay)) ∧
  (s.bay.gate F.EVT_CTL_LOST_CLR = none → completes .lostClr s (fun b => b.rd F.EVT_STAT_LOST = 0 ∧ b.log = s.bay.log ∧ keepsRegs s.bay b [F.EVT_STAT_LOST])) ∧
  (∀ t : Nat, s.bay.weave.timeAt = some t → 2 * msTicks ≤ s.bay.now - t → s.bay.activeRim = false → s.bay.flag F.TIME_STAT_LOCK = true →
    completes .lockTimeout s (fun b => b.rd F.TIME_STAT_LOCK = 0 ∧ b.weave.lockFrom = none ∧ b.now = s.bay.now ∧ keepsRegs s.bay b [F.TIME_STAT_LOCK, F.EVT_STAT_LOST])) ∧
  (∀ t : Nat, s.bay.weave.timeAt = some t → s.bay.now - t < 2 * msTicks → completes .lockTimeout s (fun b => b = s.bay)) ∧
  (∀ t : Nat, s.bay.weave.timeAt = some t → secTicks ≤ s.bay.now - t → s.bay.activeRim = false → s.bay.flag F.TIME_STAT_FREE_RUN = false →
    completes .freeRun s (fun b => b.rd F.TIME_STAT_FREE_RUN = 1 ∧ b.weave.steer = s.bay.weave.steer ∧ keepsRegs s.bay b [F.TIME_STAT_FREE_RUN, F.EVT_STAT_LOST])) ∧
  (∀ m : TimeIn, s.bay.mode ≠ 0 → s.bay.activeRim = false → s.bay.ignoresMaster = false → m.plane = 0 → m.ptp = true → ((s.bay.now : Int) * 8 - m.origin - (m.corr + s.bay.linkDelay m.port.val)).natAbs ≤ 60 →
    completes (.timeMessage m) s (fun b => b.now = s.bay.now ∧ b.rd F.TIME_STAT_MASTER = m.master.val ∧ b.rd F.TIME_STAT_SRC = 2 ∧ b.rd F.TIME_STAT_EPOCH_TAI = 1 ∧ b.rd F.TIME_UTC_OFS = m.utc.toNat ∧
      b.rd F.TIME_OFFSET = (s.bay.now : Int) * 8 - m.origin - (m.corr + s.bay.linkDelay m.port.val) ∧ b.rd F.TIME_STAT_FREE_RUN = 0)) ∧
  (∀ m : TimeIn, s.bay.mode ≠ 0 → Mode.attest ≤ s.bay.mode → s.bay.activeRim = false → s.bay.ignoresMaster = false → m.plane = 0 → s.bay.modeSt.engineLeft = false → s.bay.cellHasStarted = false → s.bay.flag F.TIME_STAT_STEPPED = false →
      1000000 < ((s.bay.now : Int) * 8 - m.origin - (m.corr + s.bay.linkDelay m.port.val)).natAbs →
    completes (.timeMessage m) s (fun b => b.now = ((s.bay.now : Int) - ((s.bay.now : Int) * 8 - m.origin - (m.corr + s.bay.linkDelay m.port.val)).tdiv 8).toNat ∧ b.rd F.TIME_STAT_STEPPED = 1 ∧
      b.rd F.TIME_STEP_LAST = -(((s.bay.now : Int) * 8 - m.origin - (m.corr + s.bay.linkDelay m.port.val)).tdiv 1000) ∧ b.rd F.TIME_OFFSET = 0)) ∧
  (∀ m : TimeIn, s.bay.activeRim = true → completes (.timeMessage m) s (fun b => b = s.bay)) ∧
  (∀ (off : Int) (utc : BitVec 8), s.bay.activeRim = true → s.bay.flag F.WVE_PTP_CFG_EN = true → s.bay.ignoresMaster = false → off.natAbs ≤ 60 →
    completes (.ptpMessage off utc) s (fun b => b.weave.ptpAt = some s.bay.now ∧ b.rd F.TIME_STAT_SRC = 2 ∧ b.rd F.TIME_STAT_EPOCH_TAI = 1 ∧ b.rd F.TIME_UTC_OFS = utc.toNat ∧ b.rd F.TIME_OFFSET = off ∧ b.now = s.bay.now)) ∧
  (∀ t : Nat, s.bay.weave.ptpAt = some t → s.bay.activeRim = true → s.bay.flag F.WVE_PTP_CFG_EN = true → 10 * secTicks ≤ s.bay.now - t → s.bay.flag F.TIME_STAT_FREE_RUN = false →
    completes .ptpLoss s (fun b => b.rd F.TIME_STAT_FREE_RUN = 1 ∧ b.weave.steer = s.bay.weave.steer ∧ keepsRegs s.bay b [F.TIME_STAT_FREE_RUN, F.EVT_STAT_LOST]))

/-- A session opens, closes and falls idle (R424, R432, R457, R460, R510); each access to this stake is answered (R426, R427) by the rights of the session's level, one beyond them as a violation (R468, R469). -/
def Obligations.RimSessionsAndAccesses : Prop := ∀ s : State,
  (∀ (cart : Fin 2) (key : List Byte) (h : Fin 4), s.bay.mode ≠ 0 → s.bay.servesRim = true → s.bay.cPresent cart = true → s.bay.keyRefused key = false → s.bay.weave.sessions.length = 4 →
      s.bay.session 0 = none → s.bay.flag (F.AUTH_ENROLLED (4 + h)) = true →
    completes (.sessionOpen cart key (some h) false) s (fun b => b.session 0 = some ⟨cart, s.bay.rd (F.AUTH_RIGHTS (4 + h)), key, s.bay.now⟩ ∧ keepsRegs s.bay b [F.EVT_STAT_LOST])) ∧
  (∀ (cart : Fin 2) (key : List Byte), key ≠ [] → s.bay.mode ≠ 0 → s.bay.servesRim = true → s.bay.cPresent cart = true → s.bay.keyRefused key = false → s.bay.weave.sessions.length = 4 →
      s.bay.session 0 = none → s.bay.windowOpen = true → s.bay.rd F.TRU_STAT_HOST_N = 0 →
    completes (.sessionOpen cart key none true) s (fun b => b.session 0 = some ⟨cart, 2, key, s.bay.now⟩ ∧ b.trust.keys.get [] 4 = key ∧ b.rd (F.AUTH_ENROLLED 4) = 1 ∧ b.rd (F.AUTH_RIGHTS 4) = 2)) ∧
  (∀ (cart : Fin 2) (key : List Byte) (c : Option (Fin 4)) (g : Bool), s.bay.keyRefused key = true → completes (.sessionOpen cart key c g) s (fun b => b = s.bay)) ∧
  (∀ (j : Fin 4) (x : Session), s.bay.session j = some x → s.bay.weave.sessions.length = 4 →
    completes (.sessionClose j) s (fun b => b.session j = none ∧ (∀ n, (s.bay.streamOf n).holder = some j.val → (b.streamOf n).holder = none ∧ (b.streamOf n).rd = (s.bay.streamOf n).mark) ∧
      keepsRegs s.bay b [F.EVT_STAT_LOST])) ∧
  (∀ (j : Fin 4) (x : Session), s.bay.session j = some x → s.bay.weave.sessions.length = 4 → 10 * secTicks ≤ s.bay.now - x.last →
    completes (.sessionIdleTimeout j) s (fun b => b = s.bay.closeSession j ∧ b.session j = none)) ∧
  (∀ (j : Fin 4) (tag : BitVec 32) (stake : Fin 64) (a : BitVec 32) (x : Session) (r : RegAt), s.bay.mode ≠ 0 → s.bay.session j = some x → stake.val = s.bay.node → a.toNat % 4 = 0 →
      inWindow a.toNat = false → inBlock a.toNat = true → s.bay.framWord a.toNat = none → regAt a.toNat = some r → s.bay.absentBlock ⟨r.grp, r.i, r.off, 0⟩ = false →
    ∃ t, exec (.read j tag stake a 1) s = .next t ∧ t.mem = s.mem ∧ t.pending = s.pending ∧
      OutMsg.rim j tag.toNat 0 [((s.bay.heardSession j x).regWord x.cart r : Int)] ∈ t.bay.out) ∧
  (∀ (j : Fin 4) (tag : BitVec 32) (stake : Fin 64) (a : BitVec 32) (x : Session), s.bay.mode ≠ 0 → s.bay.session j = some x → stake.val = s.bay.node → a.toNat % 4 = 0 →
      inWindow a.toNat = false → inBlock a.toNat = true → s.bay.framWord a.toNat = none → regAt a.toNat = none →
    completes (.read j tag stake a 1) s (fun b => b = (s.bay.heardSession j x).send (.rim j tag.toNat 0 [0]))) ∧
  (∀ (j : Fin 4) (tag : BitVec 32) (stake : Fin 64) (a w : BitVec 32) (x : Session), s.bay.mode ≠ 0 → s.bay.session j = some x → stake.val = s.bay.node → a.toNat % 4 = 0 →
      inWindow a.toNat = false → inBlock a.toNat = true → hostRegion a.toNat = 11 → 1 ≤ x.level →
    exec (.write j tag stake a ⟨[w], 0⟩) s = .next ((({ s with bay := s.bay.heardSession j x } : State).hostWrite a.toNat w.toNat).answer j tag.toNat 0 [1])) ∧
  (∀ (j : Fin 4) (tag : BitVec 32) (stake : Fin 64) (a w : BitVec 32) (x : Session), s.bay.mode ≠ 0 → s.bay.session j = some x → s.bay.weave.sessions.length = 4 → stake.val = s.bay.node → a.toNat % 4 = 0 →
      inWindow a.toNat = false → inBlock a.toNat = true → x.level = 0 →
    completes (.write j tag stake a ⟨[w], 0⟩) s (fun b => OutMsg.rim j tag.toNat 5 [] ∈ b.out ∧ b.session j = none ∧ (x.key, s.bay.now + 60 * secTicks) ∈ b.trust.refuseUntil)) ∧
  (∀ (j : Fin 4) (tag : BitVec 32) (stake : Fin 64) (a n : BitVec 32) (x : Session) (l : List Byte), s.bay.mode ≠ 0 → s.bay.session j = some x → stake.val = s.bay.node →
      s.bay.bulkError x.cart a.toNat n.toNat = 0 → windowReadable a.toNat = true → (({ s with bay := s.bay.heardSession j x } : State).windowRead x.cart (40 + j) a.toNat n.toNat).2 = some l →
    ∃ t, exec (.bulkRead j tag stake a n) s = .next t ∧ t.pending = s.pending ∧ OutMsg.rim j tag.toNat 0 ((words32 (n.toNat / 4) l).map Int.ofNat) ∈ t.bay.out) ∧
  (∀ (j : Fin 4) (tag : BitVec 32) (stake : Fin 64) (a : BitVec 32) (l : List Byte) (x : Session), s.bay.mode ≠ 0 → s.bay.session j = some x → stake.val = s.bay.node → l ≠ [] →
      s.bay.bulkError x.cart a.toNat l.length = 0 → 1 ≤ x.level → windowWritable a.toNat = true → windowWritable (a.toNat + l.length - 8) = true → inWindow (a.toNat + l.length - 8) = true →
    exec (.bulkWrite j tag stake a l) s = .next ((({ s with bay := s.bay.heardSession j x } : State).windowWrite x.cart (40 + j) a.toNat l).1.answer j tag.toNat 0 []))

/-- Streams as R430 to R432 say, PING and a reserved type (R426, R427). MARK, REWIND and RELEASE by another session than the holder are log entry 56. -/
def Obligations.RimStreams : Prop := ∀ s : State,
  (∀ (j : Fin 4) (tag : BitVec 32) (stake : Fin 64) (n : BitVec 16) (m : BitVec 32) (x : Session), s.bay.mode ≠ 0 → s.bay.session j = some x → stake.val = s.bay.node → n.toNat ≤ 68 →
      (s.bay.streamOf n.toNat).holder = none → (s.bay.streamOf n.toNat).mark < s.bay.streamWr n.toNat →
    completes (.streamRead j tag stake n m) s (fun b => (b.streamOf n.toNat).holder = some j.val ∧
      (b.streamOf n.toNat).rd = (s.bay.streamOf n.toNat).mark + min (m.toNat / itemSize n.toNat) ((s.bay.streamWr n.toNat - (s.bay.streamOf n.toNat).mark) / itemSize n.toNat) * itemSize n.toNat ∧
      keepsRegs s.bay b [])) ∧
  (∀ (j : Fin 4) (tag : BitVec 32) (stake : Fin 64) (n : BitVec 16) (m : BitVec 32) (x : Session) (i : Nat), s.bay.mode ≠ 0 → s.bay.session j = some x → stake.val = s.bay.node → n.toNat ≤ 68 →
      (s.bay.streamOf n.toNat).holder = some i → i ≠ j.val →
    completes (.streamRead j tag stake n m) s (fun b => b = (s.bay.heardSession j x).send (.rim j tag.toNat 11 []))) ∧
  (∀ (j : Fin 4) (tag : BitVec 32) (stake : Fin 64) (n : BitVec 16) (p : BitVec 64) (x : Session), s.bay.mode ≠ 0 → s.bay.session j = some x → stake.val = s.bay.node → n.toNat ≤ 68 →
      (s.bay.streamOf n.toNat).holder = some j.val → s.bay.positionOk n.toNat p.toNat = true →
    completes (.rimMark j tag stake n p) s (fun b => (b.streamOf n.toNat).mark = p.toNat ∧ (b.streamOf n.toNat).rd = (s.bay.streamOf n.toNat).rd ∧ OutMsg.rim j tag.toNat 0 [] ∈ b.out ∧
      keepsRegs s.bay b [F.EVT_STAT_LOST])) ∧
  (∀ (j : Fin 4) (tag : BitVec 32) (stake : Fin 64) (n : BitVec 16) (p : BitVec 64) (x : Session), s.bay.mode ≠ 0 → s.bay.session j = some x → stake.val = s.bay.node → n.toNat ≤ 68 →
      (s.bay.streamOf n.toNat).holder = some j.val → s.bay.positionOk n.toNat p.toNat = false →
    completes (.rimMark j tag stake n p) s (fun b => b = (s.bay.heardSession j x).send (.rim j tag.toNat 10 []))) ∧
  (∀ (j : Fin 4) (tag : BitVec 32) (stake : Fin 64) (n : BitVec 16) (x : Session), s.bay.mode ≠ 0 → s.bay.session j = some x → stake.val = s.bay.node → n.toNat ≤ 68 →
      (s.bay.streamOf n.toNat).holder = some j.val →
    completes (.rewind j tag stake n) s (fun b => (b.streamOf n.toNat).rd = (s.bay.streamOf n.toNat).mark ∧ (b.streamOf n.toNat).mark = (s.bay.streamOf n.toNat).mark ∧ OutMsg.rim j tag.toNat 0 [] ∈ b.out ∧
      keepsRegs s.bay b [F.EVT_STAT_LOST])) ∧
  (∀ (j : Fin 4) (tag : BitVec 32) (stake : Fin 64) (n : BitVec 16) (p : BitVec 64) (x : Session), s.bay.mode ≠ 0 → s.bay.session j = some x → stake.val = s.bay.node → n.toNat = 68 →
      (s.bay.streamOf n.toNat).holder = some j.val → s.bay.positionOk n.toNat p.toNat = true →
    completes (.release j tag stake n p) s (fun b => (b.streamOf 68).rel = p.toNat ∧ (b.streamOf 68).mark = max p.toNat (s.bay.streamOf 68).mark ∧
      b.weave.q68 = s.bay.weave.q68.drop ((p.toNat - (s.bay.streamOf 68).rel) / 16) ∧ OutMsg.rim j tag.toNat 0 [] ∈ b.out ∧ keepsRegs s.bay b [])) ∧
  (∀ (j : Fin 4) (tag : BitVec 32) (x : Session), s.bay.mode ≠ 0 → s.bay.session j = some x →
    completes (.ping j tag) s (fun b => b = (s.bay.heardSession j x).send (.rim j tag.toNat 0 []))) ∧
  (∀ (j : Fin 4) (tag : BitVec 32) (x : Session), s.bay.mode ≠ 0 → s.bay.session j = some x →
    completes (.reservedRimType j tag) s (fun b => b = (s.bay.heardSession j x).send (.rim j tag.toNat 8 [])))

/-- What each row leaves in the controller, whose results enter the message memories at a frame edge (R436). TEC and REC follow ISO 11898-1 (log entry 47); the events of R444 to R446 carry free values where the spec states none. A row delivered without its condition has no effect (log entry 58). -/
def Obligations.FieldBusFramesErrorsAndRecovery : Prop := ∀ s : State,
  (∀ (k : Fin 2) (f : CanFrame) (o : Nat), (s.bay.canOf k).mode = 1 → (s.bay.canOf k).state = 0 → (s.bay.canOf k).tec = 0 → (s.bay.canOf k).rec_ = 0 → f.active = true → f.standby = true → f.remote = false →
      s.bay.matching k f = some o →
    completes (.canFrameReceive k f) s (fun b => (b.canOf k).due = (s.bay.canOf k).due ++ [(canEdgeOf s.bay.now, .counters 0 0 0),
        (canEdgeOf s.bay.now, .store o f.dlc.toNat f.fdf f.brs f.esi (s.bay.now - f.ago.toNat) (f.data.take (dlcLen f.fdf f.dlc.toNat) ++ List.replicate (64 - (f.data.take (dlcLen f.fdf f.dlc.toNat)).length) 0))] ∧
      b.out = s.bay.out ++ [.canAck k] ∧ keepsRegs s.bay b [])) ∧
  (∀ (k : Fin 2) (f : CanFrame), (s.bay.canOf k).mode = 1 → (s.bay.canOf k).state = 0 → (s.bay.canOf k).tec = 0 → (s.bay.canOf k).rec_ = 0 → f.active = true → f.standby = true → f.remote = false →
      s.bay.matching k f = none →
    completes (.canFrameReceive k f) s (fun b => (b.canOf k).due = (s.bay.canOf k).due ++ [(canEdgeOf s.bay.now, .counters 0 0 0), (canEdgeOf s.bay.now, .unmatched)] ∧ keepsRegs s.bay b [])) ∧
  (∀ (k : Fin 2) (f : CanFrame), (s.bay.canOf k).mode = 0 ∨ (s.bay.canOf k).state = 2 → completes (.canFrameReceive k f) s (fun b => b = s.bay)) ∧
  (∀ (k : Fin 2) (o : Fin 128) (ago : BitVec 24) (sd : CanSend), (s.bay.canOf k).mode = 1 → (s.bay.canOf k).state = 0 → (s.bay.canOf k).owner ≠ 2 → (s.bay.canOf k).tec = 5 → (s.bay.canOf k).rec_ = 0 →
      (s.bay.canOf k).sendOf o = some sd → s.bay.arbFirst k (s.bay.now - ago.toNat) = some o.val →
    completes (.canTxDone k o ago .success) s (fun b => (b.canOf k).sendOf o = none ∧ (b.canOf k).tec = 4 ∧ (canEdgeOf s.bay.now, CanRes.done o (s.bay.now - ago.toNat)) ∈ (b.canOf k).due ∧
      OutMsg.canFrame k o (sd.data.take (dlcLen (s.bay.flag (F.OBJ_CFG_FDF (objNo k o))) (s.bay.rdN (F.OBJ_CFG_DLC (objNo k o))))) ∈ b.out ∧ keepsRegs s.bay b [])) ∧
  (∀ (k : Fin 2) (o : Fin 128) (ago : BitVec 24) (sd : CanSend), (s.bay.canOf k).mode = 1 → (s.bay.canOf k).state = 0 → (s.bay.canOf k).owner ≠ 2 →
      (s.bay.canOf k).sendOf o = some sd → sd.late = false → s.bay.arbFirst k (s.bay.now - ago.toNat) = some o.val → s.bay.flag (F.OBJ_CFG_CLASS (objNo k o)) = true →
    completes (.canTxDone k o ago .noAck) s (fun b => (b.canOf k).sendOf o = none ∧ (canEdgeOf s.bay.now, CanRes.fail o 2) ∈ (b.canOf k).due ∧ keepsRegs s.bay b [F.EVT_STAT_LOST])) ∧
  (∀ (k : Fin 2) (e : CanError), (s.bay.canOf k).mode = 1 → (s.bay.canOf k).state = 0 → (s.bay.canOf k).tec = 0 → (s.bay.canOf k).rec_ = 0 → e.tx = true → e.exempt = false → e.more = 0 → e.clash = none → e.type = .ack →
    completes (.canBusError k e) s (fun b => (b.canOf k).tec = 8 ∧ (b.canOf k).rec_ = 0 ∧ (canEdgeOf s.bay.now, CanRes.count (F.CFD_ERR_CNT_ACK k) 15) ∈ (b.canOf k).due ∧
      (canEdgeOf s.bay.now, CanRes.counters 8 0 0) ∈ (b.canOf k).due ∧ keepsRegs s.bay b [])) ∧
  (∀ (k : Fin 2) (e : CanError), (s.bay.canOf k).mode = 1 → (s.bay.canOf k).state = 1 → (s.bay.canOf k).tec = 248 → (s.bay.canOf k).rec_ = 0 → (s.bay.canOf k).sends = [] → e.tx = true → e.exempt = false → e.more = 0 → e.clash = none →
    completes (.canBusError k e) s (fun b => (b.canOf k).tec = 256 ∧ (b.canOf k).state = 2 ∧ (b.canOf k).rdyAt = none ∧ keepsRegs s.bay b [F.EVT_STAT_LOST])) ∧
  (∀ k : Fin 2, (s.bay.canOf k).mode ≠ 0 → (s.bay.canOf k).state = 2 → (s.bay.canOf k).rdyAt = none →
    completes (.canRecoveryReady k) s (fun b => (b.canOf k).rdyAt = some s.bay.now ∧ (b.canOf k).due = (s.bay.canOf k).due ++ [(canEdgeOf s.bay.now, .ready)] ∧ keepsRegs s.bay b [])) ∧
  (∀ (k : Fin 2) (t : Nat), (s.bay.canOf k).state = 2 → (s.bay.canOf k).rdyAt = some t → s.bay.rd (F.CFD_CTL_REC k) = 1 → t + s.bay.rdN (F.CFD_REC_DLY k) * msTicks ≤ s.bay.now →
    completes (.canRecoveryDelay k) s (fun b => b = s.bay.setCan k { s.bay.canOf k with recReq := true }))

/-- What each host command and each step of rate detection leaves. When a mode takes effect is the frame edge (R436, R448); what detection does with its details is log entry 48. A row delivered without its condition has no effect (log entry 58). -/
def Obligations.FieldBusCommandsAndRates : Prop := ∀ s : State,
  (∀ (k : Fin 2) (o : Fin 128), s.bay.gate (F.OBJ_CTL_REQ (objNo k o)) = none → s.bay.flag (F.OBJ_CFG_EN (objNo k o)) = true → s.bay.flag (F.OBJ_CFG_DIR (objNo k o)) = true →
      s.bay.flag (F.OBJ_STAT_PEND (objNo k o)) = false →
    completes (.req k o) s (fun b => o.val ∈ (b.canOf k).reqs ∧ (b.canOf k).sends = (s.bay.canOf k).sends ∧ keepsRegs s.bay b [])) ∧
  (∀ (k : Fin 2) (o : Fin 128), s.bay.gate (F.OBJ_CTL_REQ (objNo k o)) = none → s.bay.flag (F.OBJ_STAT_PEND (objNo k o)) = true →
    completes (.req k o) s (fun b => b = s.bay.refuse (F.OBJ_CTL_REQ (objNo k o)) 4)) ∧
  (∀ (k : Fin 2) (o : Fin 128), s.bay.gate (F.OBJ_CTL_ABORT (objNo k o)) = none → ((s.bay.canOf k).sendOf o).isSome = true →
    completes (.abort k o false) s (fun b => b = s.bay.setCan k { s.bay.canOf k with aborts := (s.bay.canOf k).aborts ++ [o.val] })) ∧
  (∀ (k : Fin 2) (o : Fin 128) (sd : CanSend), (s.bay.canOf k).sendOf o = some sd → s.bay.flag (F.OBJ_CFG_CLASS (objNo k o)) = true →
      sd.at_ + s.bay.rdN (F.OBJ_TMO_VAL (objNo k o)) * msTicks ≤ s.bay.now →
    completes (.objTimeout k o false) s (fun b => (b.canOf k).sendOf o = none ∧ (canEdgeOf s.bay.now, CanRes.fail o 4) ∈ (b.canOf k).due ∧ keepsRegs s.bay b [F.EVT_STAT_LOST])) ∧
  (∀ k : Fin 2, s.bay.gate (F.CFD_CTL_CLASH_CLR k) = none →
    completes (.clashClr k) s (fun b => (b.canOf k).susp = [] ∧ (b.canOf k).hits = [] ∧ b.rd (F.CFD_STAT_CLASH k) = 0 ∧ b.rd (F.CFD_CLASH_ID_ID k) = 0 ∧ ∀ o < 128, b.rd (F.OBJ_STAT_SUSP (objNo k o)) = 0)) ∧
  (∀ k : Fin 2, s.bay.gate (F.CFD_CTL_REC_REQ k) = none → completes (.recReq k) s (fun b => b = s.bay.setCan k { s.bay.canOf k with recReq := true })) ∧
  (∀ (k : Fin 2) (m : Fin 4), s.bay.gate (F.CFD_CTL_MODE k) = none →
    completes (.canMode k m) s (fun b => b.rd (F.CFD_CTL_MODE k) = m.val ∧ b.can = s.bay.can ∧ keepsRegs s.bay b [F.CFD_CTL_MODE k])) ∧
  (∀ k : Fin 2, s.bay.detecting k = true → s.bay.rd (F.CFD_AUTO_STAT_CAND k) = 1 →
    completes (.rateCandidateTimeout k) s (fun b => b.rd (F.CFD_AUTO_STAT_CAND k) = 2 ∧ (b.canOf k).good = 0 ∧ keepsRegs s.bay b [F.CFD_AUTO_STAT_CAND k])) ∧
  (∀ k : Fin 2, s.bay.detecting k = true → s.bay.rd (F.CFD_AUTO_STAT_CAND k) = 3 →
    completes (.rateCandidateTimeout k) s (fun b => b.rd (F.CFD_AUTO_STAT_CAND k) = 0 ∧ b.rd (F.CFD_AUTO_STAT_CYCLES k) = min 255 (s.bay.rd (F.CFD_AUTO_STAT_CYCLES k) + 1) ∧ (b.canOf k).good = 0)) ∧
  (∀ k : Fin 2, s.bay.detecting k = true → s.bay.dataPhase k = true → (s.bay.canOf k).brsSeen = false →
    completes (.dataRateTimeout k) s (fun b => b.rd (F.CFD_AUTO_STAT_DONE k) = 1 ∧ b.rd (F.CFD_AUTO_STAT_DFOUND k) = s.bay.rd (F.CFD_AUTO_STAT_DFOUND k) ∧ keepsRegs s.bay b [F.CFD_AUTO_STAT_DONE k, F.EVT_STAT_LOST]))

/-- A port comes up by its handshake (R407, R409), accepts, drops and counts frames (R411, R412, R414), keeps its link alive and rekeys it (R411), and measures its delay (R421). A row delivered without its condition has no effect (log entry 58). -/
def Obligations.WeaveHandshakeAndFrames : Prop := ∀ s : State,
  (∀ p : Fin 6, s.bay.portFitted p = true → s.bay.rd (portKey p) = 0 → bitOf (s.bay.rd F.TRU_FRZ_INGRESS) (p.val % 3) = false →
    completes (.linkHandshake p none) s (fun b => b.rd (portKey p) = 1 ∧ keepsRegs s.bay b [portKey p, F.EVT_STAT_LOST])) ∧
  (∀ (p : Fin 6) (x : PeerIn), s.bay.portFitted p = true → s.bay.rd (portKey p) = 1 → x.chainOk = true → x.digest = s.bay.plantDigest → x.plane.val = portPlane p → s.bay.activeRim = false →
    completes (.linkHandshake p (some x)) s (fun b => b.rd (portKey p) = 2 ∧ b.portOf p = { lastRx := s.bay.now, lastTx := s.bay.now, keyAt := s.bay.now, peer := x.serial.toNat } ∧ keepsRegs s.bay b [portKey p, F.EVT_STAT_LOST])) ∧
  (∀ (p : Fin 6) (x : PeerIn), s.bay.portFitted p = true → s.bay.rd (portKey p) = 1 → x.chainOk = false →
    completes (.linkHandshake p (some x)) s (fun b => b.rd (portKey p) = 4 ∧ keepsRegs s.bay b [portKey p, F.EVT_STAT_LOST])) ∧
  (∀ (p : Fin 6) (x : PeerIn), s.bay.portFitted p = true → s.bay.rd (portKey p) = 1 → x.chainOk = true → x.digest ≠ s.bay.plantDigest →
    completes (.linkHandshake p (some x)) s (fun b => b.rd (portKey p) = 5)) ∧
  (∀ (p : Fin 6) (f : WFrame), s.bay.linkUp p = true → f.tagOk = true → f.slot.val = (s.bay.portOf p).slot → (s.bay.portOf p).rxCtr < f.ctr.toNat → f.src.toNat < 64 → s.bay.weave.dup (64 * f.cls.val + f.src.toNat % 64) f.seq.toNat = false →
      s.bay.bound = true → f.dst.toNat = s.bay.node → f.dst.toNat ≠ 0xFE →
    completes (.weaveFrameReceive p f) s (fun b => (b.portOf p).rxCtr = f.ctr.toNat ∧ (b.portOf p).lastRx = s.bay.now ∧
      b.out = s.bay.out ++ [.weave "DELIVERED" [(f.cls.val : Int), (f.type.toNat : Int), (f.src.toNat : Int), (f.seq.toNat : Int)]] ∧ keepsRegs s.bay b [])) ∧
  (∀ (p : Fin 6) (f : WFrame), s.bay.linkUp p = true → f.tagOk = true → f.slot.val = (s.bay.portOf p).slot → f.ctr.toNat ≤ (s.bay.portOf p).rxCtr →
    completes (.weaveFrameReceive p f) s (fun b => b.rd F.WVE_REPLAY = (s.bay.rd F.WVE_REPLAY + 1) % 4294967296 ∧ b.out = s.bay.out ∧ keepsRegs s.bay b [F.WVE_REPLAY])) ∧
  (∀ (p : Fin 6) (f : WFrame), s.bay.linkUp p = true → f.tagOk = false → (s.bay.portOf p).tagT = [] →
    completes (.weaveFrameReceive p f) s (fun b => b.rd F.WVE_TAG_ERR = (s.bay.rd F.WVE_TAG_ERR + 1) % 4294967296 ∧ (b.portOf p).tagT = [s.bay.now] ∧ b.out = s.bay.out ∧ keepsRegs s.bay b [F.WVE_TAG_ERR])) ∧
  (∀ (p : Fin 6) (f : WFrame), s.bay.linkUp p = true → f.tagOk = true → f.slot.val = (s.bay.portOf p).slot → (s.bay.portOf p).rxCtr < f.ctr.toNat → f.src.toNat < 64 →
      s.bay.weave.dup (64 * f.cls.val + f.src.toNat % 64) f.seq.toNat = true →
    completes (.weaveFrameReceive p f) s (fun b => b.out = s.bay.out ∧ b.weave.seen = s.bay.weave.seen ∧ (b.portOf p).rxCtr = f.ctr.toNat ∧ keepsRegs s.bay b [])) ∧
  (∀ p : Fin 6, s.bay.linkUp p = true → 50 * usTicks ≤ s.bay.now - (s.bay.portOf p).lastTx →
    completes (.linkKeepalive p) s (fun b => (b.portOf p).lastTx = s.bay.now ∧ (b.portOf p).txCtr = (s.bay.portOf p).txCtr + 1 ∧ b.out = s.bay.out ++ [.weave "KEEPALIVE" [(p.val : Int)]] ∧ keepsRegs s.bay b [])) ∧
  (∀ p : Fin 6, s.bay.linkUp p = true → 2147483648 ≤ (s.bay.portOf p).txCtr - (s.bay.portOf p).keyCtr →
    completes (.rekey p) s (fun b => (b.portOf p).txSlot = 1 - (s.bay.portOf p).txSlot ∧ (b.portOf p).keyAt = s.bay.now ∧ (b.portOf p).keyCtr = (s.bay.portOf p).txCtr ∧ keepsRegs s.bay b [])) ∧
  (∀ (p : Fin 6) (ns : Nat), s.bay.linkUp p = true → (s.bay.portOf p).delays.length < 16 →
    completes (.linkDelayMeasurement p ns) s (fun b => (b.portOf p).delays = (s.bay.portOf p).delays ++ [(ns : Int)] ∧ b.out = s.bay.out ++ [.weave "DELAY" [(p.val : Int)]] ∧ keepsRegs s.bay b []))

/-- A port goes down with its repair (R411, R418, R419); acknowledgements and retransmissions (R414). A row delivered without its condition has no effect (log entry 58). -/
def Obligations.WeaveLossAndRetransmission : Prop := ∀ s : State,
  (∀ (p : Fin 6), s.bay.linkUp p = true → s.bay.mode ≠ 0 → 200 * usTicks ≤ s.bay.now - (s.bay.portOf p).lastRx →
    completes (.linkTimeout p false) s (fun b => b.rd (portKey p) = 0 ∧ (b.portOf p).rxCtr = 0 ∧ (b.portOf p).peer = (s.bay.portOf p).peer)) ∧
  (∀ (p : Fin 6), s.bay.linkUp p = true → s.bay.now - (s.bay.portOf p).lastRx < 200 * usTicks → completes (.linkTimeout p false) s (fun b => b = s.bay)) ∧
  (∀ (plane : Fin 2) (x y : Fin 64) (r : Repair), s.bay.mode ≠ 0 → s.bay.weave.down = [] → s.bay.repairOf plane x (some y) = some r →
    completes (.linkDown plane x (some y)) s (fun b => (plane.val, x.val, some y.val) ∈ b.weave.down ∧ b.rd F.WVE_REPAIR = (s.bay.rd F.WVE_REPAIR + 1) % 4294967296 ∧
      ∀ w < 32, b.rd (rtKey plane w) = (r.entries.getD (2 * w) 0 + 65536 * r.entries.getD (2 * w + 1) 0 : Nat))) ∧
  (∀ (plane : Fin 2) (x : Fin 64) (y : Option (Fin 64)), s.bay.weave.down.contains (plane.val, x.val, y.map (·.val)) = true → completes (.linkDown plane x y) s (fun b => b = s.bay)) ∧
  (s.bay.weave.acks = [(65, 16, s.bay.now)] →
    completes .ackSend s (fun b => b.weave.acks = [(65, 0, s.bay.now)] ∧ b.out = s.bay.out ++ [.weave "ACK" [1, 1, (((s.bay.weave.seen.get [] 65).foldl max 0 : Nat) : Int)]] ∧ keepsRegs s.bay b [])) ∧
  (∀ u : Unacked, s.bay.weave.unacked = [u] → 2 * msTicks ≤ s.bay.now - u.sentAt → u.tries < 50 →
    completes (.retransmit []) s (fun b => b.weave.unacked = [{ u with sentAt := s.bay.now, tries := u.tries + 1 }] ∧ b.rd F.WVE_RETX = (s.bay.rd F.WVE_RETX + 1) % 4294967296 ∧
      OutMsg.weave "AGAIN" [(u.cls : Int), (u.dst : Int), (u.seq : Int)] ∈ b.out ∧ keepsRegs s.bay b [F.WVE_RETX])) ∧
  (∀ (u : Unacked) (i : Nat) (tag : Int), s.bay.weave.unacked = [u] → 2 * msTicks ≤ s.bay.now - u.sentAt → 50 ≤ u.tries → u.rim = some (i, tag) →
      s.bay.weave.asked.any (fun q => q.2.1 == i && q.2.2.1 == tag) = true →
    completes (.retransmit []) s (fun b => b.weave.unacked = [] ∧ b.out = s.bay.out ++ [.rim i tag 6 []] ∧ keepsRegs s.bay b [])) ∧
  (∀ (u : Unacked) (a : Fin 64 × Fin 3 × BitVec 32), s.bay.weave.unacked = [u] → a.1.val = u.dst → a.2.1.val = u.cls → u.seq ≤ a.2.2.toNat →
    completes (.retransmit [a]) s (fun b => b.weave.unacked = [] ∧ b.out = s.bay.out ∧ keepsRegs s.bay b []))

/-- What each message of discovery and of binding leaves (R415 to R417). A row delivered without its condition has no effect (log entry 58). -/
def Obligations.WeaveDiscoveryAndBinding : Prop := ∀ s : State,
  (s.bay.gate F.WVE_CTL_DISCOVER = none → s.bay.activeRim = true → s.bay.flag F.WVE_STAT_DISC_BUSY = false → s.bay.boundTo (s.bay.rd F.BAY_SERIAL) = some 3 →
    completes .discover s (fun b => b.rd F.WVE_STAT_DISC_BUSY = 1 ∧ b.weave.discT0 = some s.bay.now ∧ b.weave.discDone = true ∧ b.weave.newAddr = some 3 ∧ OutMsg.weave "PROBE" [s.bay.rd F.BAY_SERIAL] ∈ b.out ∧ keepsRegs s.bay b [F.WVE_STAT_DISC_BUSY])) ∧
  (s.bay.gate F.WVE_CTL_DISCOVER = none → s.bay.activeRim = false → completes .discover s (fun b => b = s.bay.refuse F.WVE_CTL_DISCOVER 4)) ∧
  (s.bay.mode ≠ 0 → completes .probe s (fun b => (∃ l, OutMsg.weave "ANNOUNCE" (0 :: 255 :: l) ∈ b.out) ∧ keepsRegs s.bay b [])) ∧
  (∀ (ser : BitVec 64) (l : List PortPeer), s.bay.activeRim = true → s.bay.flag F.WVE_STAT_DISC_BUSY = true → s.bay.bound = true → s.bay.boundTo (ser.toNat : Int) = some 7 →
    completes (.announce ser none l) s (fun b => 7 ∈ b.weave.waitAck ∧ (∃ q, OutMsg.weave "BIND" [0, 255, q, (ser.toNat : Int), 7] ∈ b.out) ∧ (∀ p ∈ l, (⟨(ser.toNat : Int), p.plane.val, p.port.val, (p.peer.toNat : Int)⟩ : LinkEnd) ∈ b.weave.links) ∧
      keepsRegs s.bay b [])) ∧
  (∀ (ser : BitVec 64) (a : Fin 64), s.bay.activeRim = true → s.bay.flag F.WVE_STAT_DISC_BUSY = true → s.bay.boundTo (ser.toNat : Int) = none → s.bay.flag (F.BIND_BOUND a) = false →
    completes (.announce ser (some a) []) s (fun b => b.rd (F.BIND_SER a) = (ser.toNat : Int) ∧ b.rd (F.BIND_BOUND a) = 1 ∧ a.val ∈ b.weave.waitAck ∧ keepsRegs s.bay b [F.BIND_SER a, F.BIND_BOUND a])) ∧
  (∀ a : Fin 64, s.bay.mode ≠ 0 → completes (.bind a) s (fun b => b.weave.addr = some a.val ∧ b.weave.newAddr = some a.val ∧ b.out = s.bay.out ++ [.weave "BIND_ACK" [s.bay.rd F.BAY_SERIAL, (a.val : Int)]] ∧ keepsRegs s.bay b [])) ∧
  (∀ a c : Fin 64, s.bay.activeRim = true → a ≠ c → s.bay.weave.waitAck = [a.val, c.val] → completes (.bindAck a) s (fun b => b.weave.waitAck = [c.val] ∧ b.out = s.bay.out ∧ keepsRegs s.bay b [])) ∧
  (∀ a : Fin 64, s.bay.activeRim = true → s.bay.weave.waitAck = [a.val] → completes (.bindAck a) s (fun b => b.weave.waitAck = [] ∧ b.weave.newTables.isSome = true ∧ keepsRegs s.bay b [])) ∧
  (∀ (ta tb : List (BitVec 16)) (rep : List RepairIn), s.bay.mode ≠ 0 → completes (.routingTables ta tb rep) s (fun b =>
      (∃ r, b.weave.newTables = some (ta.map (·.toNat), tb.map (·.toNat), r) ∧ r.length = rep.length) ∧ keepsRegs s.bay b [])) ∧
  (∀ a : Fin 64, s.bay.gate F.WVE_BIND_CTL_UNBIND = none → s.bay.rimConfigured = true →
    completes (.unbind a) s (fun b => b.rd (F.BIND_SER a) = 0 ∧ b.rd (F.BIND_BOUND a) = 0 ∧ keepsRegs s.bay b [F.BIND_SER a, F.BIND_BOUND a]))

/-- A remote event on its way into the event words (R198, R420), and the rim and time master roles (R421, R423). An event to other stakes goes out at its release (log entry 46). A row delivered without its condition has no effect (log entry 58). -/
def Obligations.WeaveEventsAndRim : Prop := ∀ s : State,
  (∀ (t : Nat) (e : Fin 65), s.bay.mode ≠ 0 → e.val < 64 → s.bay.now < ceilTo frameTicks (t + 400 * usTicks) →
    completes (.remoteEvent t e) s (fun b => b.evBits = s.bay.evBits ++ [⟨ceilTo frameTicks (t + 400 * usTicks), e, 6⟩] ∧ b.log = s.bay.log ∧ keepsRegs s.bay b [])) ∧
  (∀ (t : Nat) (e : Fin 65), s.bay.mode ≠ 0 → e.val < 64 → ceilTo frameTicks (t + 400 * usTicks) ≤ s.bay.now →
    completes (.remoteEvent t e) s (fun b => (⟨nextEdge s.bay.now, e, 6⟩ : EvBit) ∈ b.evBits ∧ b = { s.bay.note 208 with evBits := (s.bay.note 208).evBits ++ [⟨nextEdge s.bay.now, e, 6⟩] })) ∧
  (∀ (n : Fin 64) (ser : BitVec 64) (p : Bool), s.bay.mode ≠ 0 → s.bay.activeRim = false →
    completes (.heartbeat n ser p) s (fun b => b.rd F.WVE_STAT_RIM_NODE = n.val ∧ b.weave.hbAt = some s.bay.now ∧ keepsRegs s.bay b [F.WVE_STAT_RIM_NODE])) ∧
  (∀ (n : Fin 64) (ser : BitVec 64), s.bay.mode ≠ 0 → s.bay.activeRim = true → s.bay.rd F.WVE_RIM_CFG_ROLE = 2 →
    completes (.heartbeat n ser true) s (fun b => b.rd F.WVE_STAT_RIM = 2 ∧ b.rd F.WVE_STAT_RIM_NODE = n.val ∧ b.weave.sessions = [none, none, none, none] ∧ keepsRegs s.bay b [F.WVE_STAT_RIM, F.WVE_STAT_RIM_NODE, F.WVE_STAT_DISC_BUSY, F.EVT_STAT_LOST])) ∧
  (s.bay.rd F.WVE_STAT_RIM = 2 → s.bay.rd F.WVE_RIM_CFG_ROLE = 2 → 50 * msTicks ≤ s.bay.now - s.bay.weave.hbAt.getD 0 →
    completes .heartbeatTimeout s (fun b => b.rd F.WVE_STAT_RIM = 1 ∧ b.rd F.WVE_STAT_RIM_NODE = s.bay.rdN F.WVE_STAT_NODE ∧ b.rd F.TIME_STAT_MASTER = s.bay.rdN F.WVE_STAT_NODE ∧ b.rd F.WVE_STAT_DISC_BUSY = 1)) ∧
  (s.bay.gate F.WVE_CTL_RIM_TAKE = none → s.bay.rd F.WVE_RIM_CFG_ROLE = 1 → s.bay.rd F.WVE_STAT_RIM = 2 →
    completes .rimTake s (fun b => b.rd F.WVE_STAT_RIM = 1 ∧ b.rd F.WVE_STAT_RIM_NODE = s.bay.rdN F.WVE_STAT_NODE ∧ b.rd F.WVE_STAT_DISC_BUSY = 1)) ∧
  (s.bay.gate F.WVE_CTL_RIM_TAKE = none → s.bay.rd F.WVE_RIM_CFG_ROLE = 2 → completes .rimTake s (fun b => b = s.bay.refuse F.WVE_CTL_RIM_TAKE 4)) ∧
  (s.bay.activeRim = true → s.bay.bound = true → completes .rimHeartbeatSend s (fun b => b.out = s.bay.out ++ [.weave "HEARTBEAT" [0, 255, (s.bay.weave.txSeq.getD 0 0 : Nat), s.bay.rd F.BAY_SERIAL, s.bay.rd F.WVE_RIM_CFG_ROLE]] ∧ keepsRegs s.bay b [])) ∧
  (s.bay.activeRim = true → s.bay.bound = true → completes .rimTimeSend s (fun b => b.out = s.bay.out ++ [.weave "TIME" [0, 255, (s.bay.weave.txSeq.getD 0 0 : Nat), (s.bay.now : Int), s.bay.rd F.TIME_UTC_OFS, s.bay.rd F.TIME_STAT_EPOCH_TAI]] ∧
      keepsRegs s.bay b []))

/-- The seal due on a channel (R464, R466) and the quotes (R455, R473). Digests and signatures are those of Config (log entry 4). -/
def Obligations.SealsAndAttestation : Prop := ∀ s : State,
  (∀ (c : Fin 64) (d : SealDue) (l : List SealDue), (s.bay.ringOf c).sealDue = d :: l → (∃ x ∈ s.bay.carts, s.bay.trust.rkeyIn.getD x false = true ∧ s.bay.trust.se.getD x false = true) →
    completes (.sealWritten c 0) s (fun b => (b.ringOf c).sealDue = l ∧ (b.ringOf c).sealSeq = (s.bay.ringOf c).sealSeq + 1 ∧ (b.ringOf c).sealKey = s.bay.trust.rkey ∧
      (b.ringOf c).pos = (s.bay.ringOf c).pos ∧ b.log = s.bay.log ∧ keepsRegs s.bay b [])) ∧
  (∀ (c : Fin 64) (d : SealDue) (l : List SealDue), (s.bay.ringOf c).sealDue = d :: l → (∀ x ∈ s.bay.carts, s.bay.trust.se.getD x false = false) → s.bay.mode = Mode.standby →
    completes (.sealWritten c 0) s (fun b => (b.ringOf c).sealDue = l ∧ (b.ringOf c).sealKey = (s.bay.ringOf c).sealKey ∧ b.modeSt.quarantine = true ∧ 5 ∈ b.trust.causes ∧ keepsRegs s.bay b [F.EVT_STAT_LOST])) ∧
  (s.bay.gate F.TRU_CTL_ATT_GO = none →
    completes .attGo s (fun b => b.rd F.TRU_ATT_STAT_BUSY = 1 ∧ b.rd F.TRU_ATT_STAT_READY = 0 ∧ b.rd F.TRU_ATT_STAT_READ_CA = 0 ∧ b.rd F.TRU_ATT_STAT_READ_CB = 0 ∧ b.trust.quotes = [[], []] ∧
      keepsRegs s.bay b [F.TRU_ATT_STAT_BUSY, F.TRU_ATT_STAT_READY, F.TRU_ATT_STAT_READ_CA, F.TRU_ATT_STAT_READ_CB])) ∧
  (s.bay.flag F.TRU_ATT_STAT_BUSY = true → s.bay.carts = [0, 1] → s.bay.joining 0 = false → s.bay.joining 1 = false → s.bay.trust.quotes = [[], []] →
    completes .quoteReady s (fun b => b.trust.quotes = [s.bay.quote 0, s.bay.quote 1] ∧ b.rd F.TRU_ATT_STAT_READY = 1 ∧ b.rd F.TRU_ATT_STAT_BUSY = 0 ∧
      keepsRegs s.bay b [F.TRU_ATT_STAT_READY, F.TRU_ATT_STAT_BUSY, F.EVT_STAT_LOST])) ∧
  (completes (.quoteRead 0) s (fun b => b.rd F.TRU_ATT_STAT_READ_CA = 1 ∧ keepsRegs s.bay b [F.TRU_ATT_STAT_READ_CA])) ∧
  (completes (.quoteRead 1) s (fun b => b.rd F.TRU_ATT_STAT_READ_CB = 1 ∧ keepsRegs s.bay b [F.TRU_ATT_STAT_READ_CB]))

/-- An authority statement that is accepted, refused or waits (R458 to R461), the commissioning window (R460), RKEY_NEW, VER_REBUILD and Q_RESTART (R470, R472). Signatures are those of Config (log entry 4); a statement is judged with the pending ones applied (log entry 41). -/
def Obligations.EnrolmentRecordKeyAndQuarantine : Prop := ∀ s : State,
  (∀ d : Bool, s.bay.gate F.TRU_CTL_ENR_GO = none → s.bay.judgeEnrol s.bay.enrBytes d = 0 → s.bay.now < u64At s.bay.enrBytes 0x10 →
    completes (.enrGo d) s (fun b => b.rd F.TRU_ENR_STAT_RESULT = 0 ∧ b.rd F.TRU_ENR_SEQ = u32At s.bay.enrBytes 0x18 ∧ b.rd (F.AUTH_PENDING (byteAt s.bay.enrBytes 3)) = 1 ∧
      b.trust.pend.length = s.bay.trust.pend.length + 1 ∧ b.log = s.bay.log ∧ keepsRegs s.bay b [F.TRU_ENR_STAT_RESULT, F.TRU_ENR_SEQ, F.AUTH_PENDING (byteAt s.bay.enrBytes 3)])) ∧
  (∀ d : Bool, s.bay.gate F.TRU_CTL_ENR_GO = none → s.bay.judgeEnrol s.bay.enrBytes d = 0 → u64At s.bay.enrBytes 0x10 ≤ s.bay.now → byteAt s.bay.enrBytes 2 = 1 → byteAt s.bay.enrBytes 3 = 6 →
    completes (.enrGo d) s (fun b => b.rd F.TRU_ENR_STAT_RESULT = 0 ∧ b.rd F.TRU_ENR_SEQ = u32At s.bay.enrBytes 0x18 ∧ b.trust.keys.get [] 6 = (s.bay.enrBytes.drop 0x20).take 97 ∧
      b.rd (F.AUTH_RIGHTS 6) = byteAt s.bay.enrBytes 4 ∧ b.rd (F.AUTH_ENROLLED 6) = 1)) ∧
  (∀ (d : Bool) (r : Nat), s.bay.gate F.TRU_CTL_ENR_GO = none → s.bay.judgeEnrol s.bay.enrBytes d = r → r ≠ 0 →
    completes (.enrGo d) s (fun b => b = (s.bay.wr F.TRU_ENR_STAT_RESULT r).raise 224 (512 + r) (u32At s.bay.enrBytes 0x18 : Nat) ∧ b.trust = s.bay.trust)) ∧
  (∀ e : Enrol, s.bay.trust.pend = [e] → e.effect ≤ s.bay.now → e.op = 1 → e.slot = 5 → e.key ≠ [] →
    completes .enrolmentApply s (fun b => b.trust.pend = [] ∧ b.trust.keys.get [] 5 = e.key ∧ b.rd (F.AUTH_ENROLLED 5) = 1 ∧ b.rd (F.AUTH_RIGHTS 5) = e.rights ∧ b.rd (F.AUTH_PENDING 5) = 0)) ∧
  (∀ e : Enrol, s.bay.trust.pend = [e] → e.effect ≤ s.bay.now → e.op = 2 → e.slot = 5 →
    completes .enrolmentApply s (fun b => b.trust.pend = [] ∧ b.trust.keys.get [] 5 = [] ∧ b.rd (F.AUTH_ENROLLED 5) = 0 ∧ b.rd (F.AUTH_ID 5) = 0)) ∧
  (∀ ms : Nat, (s.bay.mode = Mode.attest ∨ s.bay.mode = Mode.quarantine) → s.bay.windowOpen = false → 3000 ≤ ms →
    completes (.commissioningButton ms) s (fun b => b.windowOpen = true ∧ b.trust.winEnd = some (s.bay.now + 900 * secTicks) ∧ keepsRegs s.bay b [F.TRU_ENR_STAT_WINDOW])) ∧
  (∀ ms : Nat, (s.bay.mode = Mode.attest ∨ s.bay.mode = Mode.quarantine) → s.bay.windowOpen = true → 100 ≤ ms →
    completes (.commissioningButton ms) s (fun b => b.windowOpen = false ∧ b.trust.winEnd = none ∧ keepsRegs s.bay b [F.TRU_ENR_STAT_WINDOW])) ∧
  (∀ t : Nat, s.bay.trust.winEnd = some t → t ≤ s.bay.now → completes .commissioningTimeout s (fun b => b.windowOpen = false ∧ b.trust.winEnd = none ∧ keepsRegs s.bay b [F.TRU_ENR_STAT_WINDOW])) ∧
  (s.bay.gate F.TRU_CTL_RKEY_NEW = none → s.bay.mode = Mode.service → s.bay.anyCell = false → s.bay.carts = [0, 1] →
    completes .rkeyNew s (fun b => b.trust.rkey = s.bay.trust.rkey + 1 ∧ b.rd F.TRU_STAT_RKEY_OK = 1 ∧ 5 ∈ b.trust.fixed ∧ (∀ c < 64, (b.ringOf c).sealSeq = 0) ∧ keepsRegs s.bay b [F.TRU_STAT_RKEY_OK])) ∧
  (s.bay.gate F.TRU_CTL_RKEY_NEW = none → s.bay.mode = Mode.service → s.bay.anyCell = true → completes .rkeyNew s (fun b => b = s.bay.refuse F.TRU_CTL_RKEY_NEW 4)) ∧
  (s.bay.gate F.TRU_CTL_VER_REBUILD = none → s.bay.mode = Mode.quarantine → bitOf (s.bay.rd F.TRU_QCAUSE_MASK) 2 = true →
    completes .verRebuild s (fun b => b.verMax = s.bay.images.map (fun (m : Image) => (m.id, m.ver)) ∧ 3 ∈ b.trust.fixed ∧ keepsRegs s.bay b [])) ∧
  (s.bay.gate F.TRU_CTL_Q_RESTART = none → s.bay.mode = Mode.quarantine → s.bay.flag F.TRU_STAT_CLR_ARMED = true → s.bay.allRemedied = true →
    completes (.qRestart true) s (fun b => b = { s.bay with modeSt := { s.bay.modeSt with restart := true } })) ∧
  (s.bay.gate F.TRU_CTL_Q_RESTART = none → s.bay.mode = Mode.quarantine → s.bay.flag F.TRU_STAT_CLR_ARMED = false →
    completes (.qRestart true) s (fun b => b = s.bay.refuse F.TRU_CTL_Q_RESTART 4)) ∧
  (s.bay.mode = Mode.quarantine → completes .qcauseRead s (fun b => b.rd F.TRU_STAT_CLR_ARMED = 1 ∧ keepsRegs s.bay b [F.TRU_STAT_CLR_ARMED]))

/-- The arming read and TRU.REL (R469), CHUNK, VERIFY and their ends, the preferred bank and RESTART (R453, R517, R518). What a bank contains at first and how its content is judged are Config's (log entry 42). -/
def Obligations.FirewallAndFirmware : Prop := ∀ s : State,
  (completes .fwlLastRead s (fun b => b.rd F.TRU_STAT_REL_ARMED = 1 ∧ keepsRegs s.bay b [F.TRU_STAT_REL_ARMED])) ∧
  (∀ m : BitVec 8, s.bay.gate F.TRU_REL_ID = none → s.bay.flag F.TRU_STAT_REL_ARMED = true → 8 ≤ m.toNat → m.toNat ≤ 23 →
    completes (.rel m) s (fun b => b.rd F.TRU_STAT_REL_ARMED = 0 ∧ b.rd F.TRU_FRZ_DMA = (clearBitN (s.bay.rdN F.TRU_FRZ_DMA) (m.toNat - 8) : Nat) ∧ keepsRegs s.bay b [F.TRU_STAT_REL_ARMED, F.TRU_FRZ_DMA])) ∧
  (∀ m : BitVec 8, s.bay.gate F.TRU_REL_ID = none → s.bay.flag F.TRU_STAT_REL_ARMED = true → m.toNat = 35 →
    completes (.rel m) s (fun b => b.rd F.TRU_STAT_REL_ARMED = 0 ∧ b.rd F.TRU_FRZ_PAIR = 0 ∧ keepsRegs s.bay b [F.TRU_STAT_REL_ARMED, F.TRU_FRZ_PAIR])) ∧
  (∀ m : BitVec 8, s.bay.gate F.TRU_REL_ID = none → s.bay.flag F.TRU_STAT_REL_ARMED = false → completes (.rel m) s (fun b => b = s.bay.refuse F.TRU_REL_ID 5)) ∧
  (s.bay.gate F.TRU_CTL_FW_PREF_A = none → s.bay.mode = Mode.service → s.bay.carts = [0, 1] → s.bay.flag F.TRU_FW_CA_A_OK = true → s.bay.flag F.TRU_FW_CB_A_OK = true → s.bay.trust.pref.length = 2 →
    completes .fwPrefA s (fun b => b.rd F.TRU_FW_CA_PREF = 0 ∧ b.rd F.TRU_FW_CB_PREF = 0 ∧ b.trust.pref = [0, 0] ∧ keepsRegs s.bay b [F.TRU_FW_CA_PREF, F.TRU_FW_CB_PREF])) ∧
  (s.bay.gate F.TRU_CTL_FW_PREF_B = none → s.bay.mode = Mode.service → s.bay.carts = [0, 1] → s.bay.flag F.TRU_FW_CA_B_OK = true → s.bay.flag F.TRU_FW_CB_B_OK = true → s.bay.trust.pref.length = 2 →
    completes .fwPrefB s (fun b => b.rd F.TRU_FW_CA_PREF = 1 ∧ b.rd F.TRU_FW_CB_PREF = 1 ∧ b.trust.pref = [1, 1] ∧ keepsRegs s.bay b [F.TRU_FW_CA_PREF, F.TRU_FW_CB_PREF])) ∧
  (s.bay.gate F.TRU_CTL_FW_PREF_B = none → s.bay.mode = Mode.standby → completes .fwPrefB s (fun b => b = s.bay.refuse F.TRU_CTL_FW_PREF_B 4)) ∧
  (s.bay.gate F.TRU_FWU_CTL_CHUNK = none → s.bay.fwuRefused = none →
    completes .chunk s (fun b => b.rd F.TRU_FWU_STAT_BUSY = 1 ∧ b.rd F.TRU_FWU_STAT_VERIFIED = 0 ∧ b.trust.fwuOp = 1 ∧ keepsRegs s.bay b [F.TRU_FWU_STAT_BUSY, F.TRU_FWU_STAT_VERIFIED])) ∧
  (∀ r : Int, s.bay.gate F.TRU_FWU_CTL_CHUNK = none → s.bay.fwuRefused = some r → completes .chunk s (fun b => b = s.bay.refuse F.TRU_FWU_CTL_CHUNK r)) ∧
  (s.bay.trust.fwuOp = 1 → s.bay.carts = [0] → s.bay.rd F.TRU_FW_CA_RUN = 0 →
    completes .chunkDone s (fun b => b.rd F.TRU_FWU_STAT_BUSY = 0 ∧ b.rd F.TRU_FWU_STAT_RESULT = 0 ∧ b.rd F.TRU_FWU_STAT_PARTS = min 63 (s.bay.rd F.TRU_FWU_STAT_PARTS + 1) ∧ b.rd F.TRU_FW_CA_B_OK = 0 ∧
      (b.bankOf 0 1).parts = (s.bay.bankOf 0 1).parts.put (s.bay.rdN F.TRU_FWU_OFS_VAL) (s.mem.ram 0 0).stagedPart ∧
      keepsRegs s.bay b [F.TRU_FWU_STAT_BUSY, F.TRU_FWU_STAT_RESULT, F.TRU_FWU_STAT_PARTS, F.TRU_FW_CA_B_OK])) ∧
  (s.bay.gate F.TRU_FWU_CTL_VERIFY = none → s.bay.fwuRefused = none → completes .verify s (fun b => b.rd F.TRU_FWU_STAT_BUSY = 1 ∧ b.trust.fwuOp = 2 ∧ keepsRegs s.bay b [F.TRU_FWU_STAT_BUSY])) ∧
  (s.bay.trust.fwuOp = 2 → s.bay.carts = [0] → s.bay.rd F.TRU_FW_CA_RUN = 0 →
    completes .verifyDone s (fun b => b.rd F.TRU_FWU_STAT_BUSY = 0 ∧ b.rd F.TRU_FWU_STAT_RESULT = s.bay.bankResult 0 1 ∧ b.rd F.TRU_FWU_STAT_PARTS = 0 ∧
      (b.rd F.TRU_FWU_STAT_VERIFIED = 1 ↔ s.bay.bankResult 0 1 = 0) ∧ (b.rd F.TRU_FW_CA_B_OK = 1 ↔ s.bay.bankResult 0 1 = 0))) ∧
  (s.bay.gate F.TRU_FWU_CTL_RESTART = none → s.bay.fwuRefused = none → s.bay.mode = Mode.service → s.bay.rd F.PWR_ENTRY_STAT_STATE = 0 → s.bay.flag F.TRU_FWU_STAT_VERIFIED = true → s.bay.carts = [0, 1] → s.bay.trust.pref.length = 2 →
    completes .restart s (fun b => b.modeSt.restart = true ∧ b.trust.pref = [1 - s.bay.rd F.TRU_FW_CA_RUN, 1 - s.bay.rd F.TRU_FW_CB_RUN] ∧ keepsRegs s.bay b [])) ∧
  (s.bay.gate F.TRU_FWU_CTL_RESTART = none → s.bay.fwuRefused = none → s.bay.flag F.TRU_FWU_STAT_VERIFIED = false → completes .restart s (fun b => b = s.bay.refuse F.TRU_FWU_CTL_RESTART 4))

/-- One cycle counts, shows what was read, and leaves no target on that a pair in demand names, its CAT 1 delay apart (R307, R309, R316, R318); the rows of tests and resets leave what R314 to R325 say. A row delivered without its condition has no effect (log entry 58). -/
def Obligations.SafetyCycleTestsAndResets : Prop := ∀ s : State,
  (∀ j : SafeIn, completes (.safetyCycle j) s (fun b => b.safe.cycle = s.bay.safe.cycle + 1 ∧ b.rd F.SAFE_OUT_FB = j.fb.toNat ∧ (b.rd F.SAFE_STAT_XLINK_OK = 1 ↔ j.link = true) ∧
      ∀ k < 7, ∀ i < 8, (b.act i).testBit k = true → (b.safe.pair i).dem = true → (b.safe.pair i).stopAt = none → (b.rdN F.SAFE_LINES_ON).testBit k = false)) ∧
  (∀ i : Fin 8, 2 * s.bay.rdN (F.PAIR_CFG0_T_DISC i) < (s.bay.safe.pair i).discCnt → (s.bay.safe.pair i).disc = false → s.bay.safe.pairs.length = 8 → s.bay.safe.faults = [] →
    completes (.discrepancyFault i) s (fun b => (b.safe.pair i).disc = true ∧ (b.safe.pair i).dem = true ∧ b.rd F.SAFE_FLT_CAUSE = 3 ∧ b.rd F.SAFE_FLT_DETAIL = i.val)) ∧
  (∀ (i : Fin 8) (t : Nat), (s.bay.safe.pair i).stopAt = some t → t ≤ s.bay.safe.cycle → s.bay.safe.pairs.length = 8 →
    completes (.cat1Stop i) s (fun b => (b.safe.pair i).stopAt = none ∧ ∀ k < 7, (s.bay.act i).testBit k = true → (b.rdN F.SAFE_LINES_ON).testBit k = false)) ∧
  (∀ (i : Fin 8) (t : Nat), (s.bay.safe.pair i).stopAt = some t → s.bay.safe.cycle < t → completes (.cat1Stop i) s (fun b => b = s.bay)) ∧
  (completes (.testPulse (.sto true)) s (fun b => b.safe.passed = setBitN s.bay.safe.passed 0 ∧ keepsRegs s.bay b [])) ∧
  (s.bay.safe.faults = [] → completes (.testPulse (.sto false)) s (fun b => b.rd F.SAFE_FLT_CAUSE = 6 ∧ b.rd F.SAFE_FLT_DETAIL = 0 ∧ (b.rdN F.SAFE_LINES_ON).testBit 0 = false)) ∧
  (∀ j : Fin 4, s.bay.rd (F.OUT_CFG_CHECK j) = 2 → s.bay.safe.faults = [] →
    completes (.testPulse (.output j false)) s (fun b => b.rd F.SAFE_FLT_CAUSE = 4 ∧ b.rd F.SAFE_FLT_DETAIL = j.val ∧ (b.rdN F.SAFE_OUT_ON).testBit j = false ∧ (b.rdN F.SAFE_OUT_FLT).testBit j = true)) ∧
  (∀ k : Fin 6, s.bay.lineTestable (k + 1) = true → s.bay.lineTestDue (k + 1) = true → s.bay.safe.lineT.length = 7 →
    completes (.lineTest k true) s (fun b => b.safe.lineT.getD (k + 1) 0 = s.bay.now ∧ b.safe.passed = setBitN s.bay.safe.passed (k + 1) ∧ keepsRegs s.bay b [F.SAFE_LTEST_AGE, F.SAFE_STAT_LTEST_DUE])) ∧
  (∀ k : Fin 6, s.bay.lineTestable (k + 1) = true → s.bay.lineTestDue (k + 1) = true → s.bay.safe.faults = [] →
    completes (.lineTest k false) s (fun b => b.rd F.SAFE_FLT_CAUSE = 6 ∧ b.rd F.SAFE_FLT_DETAIL = k.val + 1 ∧ (b.rdN F.SAFE_LINES_ON).testBit (k + 1) = false)) ∧
  (2592000 * secTicks ≤ s.bay.oldestLine → s.bay.flag F.SAFE_STAT_LTEST_DUE = false →
    completes .lineTestDue s (fun b => b.rd F.SAFE_STAT_LTEST_DUE = 1 ∧ keepsRegs s.bay b [F.SAFE_STAT_LTEST_DUE, F.SAFE_LTEST_AGE, F.EVT_STAT_LOST])) ∧
  (∀ j : Fin 4, s.bay.rd (F.OUT_CFG_CHECK j) = 1 → s.bay.safe.outT.getD j 0 + 2 * s.bay.rdN (F.OUT_CFG_T_FB j) ≤ s.bay.safe.cycle → (s.bay.rdN F.SAFE_OUT_ON).testBit j = bitOf (s.bay.rd F.SAFE_OUT_FB) j → s.bay.safe.faults = [] →
    completes (.feedbackTimeout j) s (fun b => b.rd F.SAFE_FLT_CAUSE = 5 ∧ b.rd F.SAFE_FLT_DETAIL = j.val ∧ (b.rdN F.SAFE_OUT_ON).testBit j = false ∧ (b.rdN F.SAFE_OUT_FLT).testBit j = true)) ∧
  (∀ ms skew : Nat, skew ≤ 20 → 100 ≤ ms → ms ≤ 5000 → s.bay.flag F.SAFE_RST_STUCK = false → s.bay.flag F.SAFE_RST_BLOCKED = false → s.bay.safe.handover = none →
    completes (.resetPress ms skew) s (fun b => b.safe.resetDue = true ∧ b.rd F.SAFE_RST_COUNT = (s.bay.rd F.SAFE_RST_COUNT + 1) % 65536 ∧ keepsRegs s.bay b [F.SAFE_RST_COUNT, F.EVT_STAT_LOST])) ∧
  (∀ ms skew : Nat, skew ≤ 20 → (ms < 100 ∨ 5000 < ms) → completes (.resetPress ms skew) s (fun b => b = s.bay.note 172)) ∧
  (10000 ≤ s.bay.safe.heldCnt → s.bay.flag F.SAFE_RST_STUCK = false → s.bay.safe.faults = [] →
    completes .resetStuck s (fun b => b.rd F.SAFE_RST_STUCK = 1 ∧ b.rd F.SAFE_FLT_CAUSE = 12 ∧ keepsRegs s.bay b [F.SAFE_RST_STUCK, F.SAFE_FLT_CAUSE, F.SAFE_FLT_DETAIL, F.SAFE_FLT_CH, F.EVT_STAT_LOST]))

/-- The rows of supply, handover, silence of a channel, degraded time, self-test, rejoin and ACTIVATE leave what R327 to R336 say. A row delivered without its condition has no effect (log entry 58). -/
def Obligations.SafetySupplyHandoverAndRejoin : Prop := ∀ s : State,
  (s.bay.safe.faults = [] → (∀ i < 8, s.bay.eval i ≠ 0) → s.bay.safe.pairs.length = 8 →
    completes .safetySupplyLost s (fun b => b.rd F.SAFE_STAT_SUPPLY_OK = 0 ∧ b.rd F.SAFE_FLT_CAUSE = 10 ∧ (∀ i < 8, (b.safe.pair i).dem = true) ∧ ∀ j < 4, (b.rdN F.SAFE_OUT_ON).testBit j = false)) ∧
  (completes .safetySupplyRestored s (fun b => b.rd F.SAFE_STAT_SUPPLY_OK = 1 ∧ keepsRegs s.bay b [F.SAFE_STAT_SUPPLY_OK])) ∧
  (s.bay.gate F.SAFE_CTL_HO_CA = none → s.bay.rd F.SAFE_STAT_MODE = 1 → s.bay.safe.handover = none →
    completes .hoCa s (fun b => b.safe.handover = some ⟨0, s.bay.safe.cycle, false, false, false⟩ ∧ b.rd F.SAFE_STAT_HANDOVER = 1 ∧ keepsRegs s.bay b [F.SAFE_STAT_HANDOVER])) ∧
  (s.bay.gate F.SAFE_CTL_HO_CB = none → s.bay.rd F.SAFE_STAT_MODE = 1 → s.bay.safe.handover = none →
    completes .hoCb s (fun b => b.safe.handover = some ⟨1, s.bay.safe.cycle, false, false, false⟩ ∧ b.rd F.SAFE_STAT_HANDOVER = 1 ∧ keepsRegs s.bay b [F.SAFE_STAT_HANDOVER])) ∧
  (s.bay.gate F.SAFE_CTL_HO_CA = none → s.bay.rd F.SAFE_STAT_MODE = 2 → completes .hoCa s (fun b => b = s.bay.refuse F.SAFE_CTL_HO_CA 4)) ∧
  (∀ x : Fin 2, s.bay.rd F.SAFE_STAT_MODE = 1 → s.bay.safe.handover = none → s.bay.safe.faults = [] →
    completes (.upsettSilent x true) s (fun b => b.safe.handover = some ⟨x, s.bay.safe.cycle, false, true, false⟩ ∧ b.rd (chOk x) = 0 ∧ b.rd F.SAFE_FLT_CAUSE = 8 ∧ b.rd F.SAFE_FLT_CH = x.val + 1)) ∧
  (∀ x : Fin 2, s.bay.rd F.SAFE_STAT_MODE = 1 → s.bay.safe.faults = [] →
    completes (.upsettSilent x false) s (fun b => b.safe.stopped = some x.val ∧ b.rd (chOk x) = 0 ∧ b.rd F.SAFE_FLT_CAUSE = 8 ∧ b.rd F.SAFE_LINES_ON = 0 ∧ b.rd F.SAFE_OUT_ON = 0)) ∧
  (s.bay.rd F.SAFE_STAT_MODE = 2 → s.bay.safe.degr ≤ 7200000 → s.bay.flag F.SAFE_STAT_DEGR_WARN = false →
    completes .degradedWarn s (fun b => b.rd F.SAFE_STAT_DEGR_WARN = 1 ∧ keepsRegs s.bay b [F.SAFE_STAT_DEGR_WARN, F.EVT_STAT_LOST])) ∧
  (s.bay.rd F.SAFE_STAT_MODE = 3 → s.bay.safe.degr = 0 → s.bay.safe.expired = false → s.bay.safe.faults = [] → s.bay.mode = Mode.energized → (∀ i < 8, s.bay.eval i ≠ 0) → s.bay.safe.pairs.length = 8 →
    completes .degradedTimeExpire s (fun b => b.safe.expired = true ∧ b.rd F.SAFE_FLT_CAUSE = 11 ∧ 2 ∈ b.modeSt.stops ∧ ∀ i < 8, (b.safe.pair i).dem = true ∧ (b.safe.pair i).wait = true)) ∧
  (∀ x : Fin 2, s.bay.rd F.SAFE_STAT_MODE = 0 → s.bay.safe.active.isSome = true → s.bay.rd F.SAFE_STAT_CHA_OK = 1 → s.bay.rd F.SAFE_STAT_CHB_OK = 1 → s.bay.safe.stopped = none →
    completes (.upsettSelfTestDone x true true false) s (fun b => b.rd F.SAFE_STAT_MODE = 1 ∧ b.rd F.SAFE_DEGR_LEFT = s.bay.rd F.SAFE_GLB_CFG0_T_DEGR * 60 ∧ keepsRegs s.bay b [F.SAFE_STAT_MODE, F.SAFE_DEGR_LEFT])) ∧
  (∀ x : Fin 2, s.bay.safe.faults = [] → completes (.upsettSelfTestDone x false false false) s (fun b => b.rd (chOk x) = 0 ∧ b.rd F.SAFE_FLT_CAUSE = 8 ∧ b.rd F.SAFE_FLT_CH = x.val + 1)) ∧
  (∀ (x : Fin 2) (n : Nat), s.bay.safe.rejoin = some (x.val, n) → 100 ≤ n → s.bay.flag (chOk x) = true →
    completes (.upsettRejoin x) s (fun b => b.rd F.SAFE_STAT_MODE = 1 ∧ b.rd F.SAFE_LINES_TAKE = 0 ∧ b.safe.rejoin = none ∧ b.safe.stopped = none ∧ b.safe.degr = 0 ∧
      keepsRegs s.bay b [F.SAFE_STAT_MODE, F.SAFE_LINES_TAKE, F.SAFE_STAT_DEGR_WARN, F.SAFE_DEGR_LEFT, F.EVT_STAT_LOST])) ∧
  (∀ p : SafeSet, s.bay.gate F.SAFE_CTL_ACTIVATE = none → s.bay.mayActivate = true → s.bay.safe.pend = some p →
    completes .activate s (fun b => b.safe.active = some p ∧ b.safe.pend = none ∧ b.rd F.SAFE_STAT_PEND_OK = 0 ∧ b.rd F.SAFE_STAT_MODE = 1 ∧ b.rd F.SAFE_LINES_ON = 0 ∧ b.rd F.SAFE_OUT_ON = 0 ∧
      b.rd F.SAFE_PAR_ID = u32At p.bytes 4 ∧ ∀ i < 8, (b.safe.pair i).dem = true ∧ (b.safe.pair i).wait = true)) ∧
  (s.bay.gate F.SAFE_CTL_ACTIVATE = none → s.bay.mode ≠ Mode.service → completes .activate s (fun b => b = s.bay.refuse F.SAFE_CTL_ACTIVATE 6))

/-- A reading takes effect where its sensor belongs, an invalid one is replaced by the plate of its cartridge plus 30 K (R356); 2.0 L/min for 5 s and a tripping quantity shut the bay down (R360, R362, R363), TSD_READ and TSD_CLR lead out of it (R364), compensation freezes with its sensor (R357). What a sensor without a plate reads while invalid is free (log entry 1). Numbers of sensors are log entry 38. -/
def Obligations.TemperaturesAndShutdown : Prop := ∀ s : State,
  (∀ v : Int, -4000 ≤ v → v ≤ 20000 → s.bay.therm.invalid = [] →
    completes (.temperatureSample .outlet v false) s (fun b => b.rd F.THM_OUTLET_T = v ∧ b.now = s.bay.now ∧ keepsRegs s.bay b [F.THM_OUTLET_T])) ∧
  (∀ (c : Fin 64), s.bay.walePresent (waleOf c) = true → s.bay.therm.invalid = [] →
    completes (.temperatureSample (.cellSwitch c) 0 true) s (fun b => (b.thermChOf c).tsw = s.bay.rd (plateKey (waleOf c)) + 3000 ∧ b.therm.invalid = [384 + c.val])) ∧
  (∀ (x : Fin 2) (v : Int), s.bay.cPresent x = true → 12000 ≤ v → v ≤ 20000 → s.bay.red.out = [] → s.bay.red.silent = [] → s.bay.red.wins = [] → s.bay.red.joiner = none →
    completes (.temperatureSample (.die x) v false) s (fun b => b.rd (if x.val = 0 then F.THM_DIE_T_CA else F.THM_DIE_T_CB) = v ∧ b.red.out = [x.val] ∧ b.role x = 0 ∧ b.rd F.RED_FLT_CAUSE = 2 ∧ b.rd F.RED_FLT_SIDE = x.val + 1)) ∧
  (∀ n : Fin 6, s.bay.sensorFitted (.plate n) = true → s.bay.therm.tripped = [] → s.bay.flag F.THM_STAT_TSD = false → s.bay.mode = Mode.energized →
    completes (.temperatureSample (.plate n) 9500 false) s (fun b => b.rd (plateKey n) = 9500 ∧ b.rd F.THM_STAT_TSD = 1 ∧ b.rd F.THM_TSD_CAUSE = 2 ∧ b.rd F.THM_TSD_SLOT = n.val ∧ 6 ∈ b.modeSt.stops ∧
      b.therm.seq = s.bay.therm.seq + 1 ∧ b.rd F.THM_STAT_NEXT = ((s.bay.therm.seq + 1) % 16 : Nat))) ∧
  (∀ (x : Sensor) (t : Nat), s.bay.therm.slowSince = [(sensorId x, t)] → s.bay.therm.fast = [sensorId x] → secTicks ≤ s.bay.now - t →
    completes (.sensorRateSlow x) s (fun b => b.therm.fast = [] ∧ b.rd F.THM_STAT_FAST = 0 ∧ keepsRegs s.bay b [F.THM_STAT_FAST])) ∧
  (∀ t : Nat, s.bay.therm.flowLow = some t → 5 * secTicks ≤ s.bay.now - t → s.bay.therm.tripped = [] → s.bay.flag F.THM_STAT_TSD = false → s.bay.mode = Mode.energized →
    completes .flowLoss s (fun b => b.rd F.THM_STAT_TSD = 1 ∧ b.rd F.THM_STAT_CLR_ARMED = 0 ∧ b.rd F.THM_TSD_CAUSE = 3 ∧ b.rd F.THM_TSD_SLOT = 6 ∧ b.therm.tripped = [350] ∧ 6 ∈ b.modeSt.stops)) ∧
  (∀ t : Nat, s.bay.therm.flowLow = some t → s.bay.now - t < 5 * secTicks → completes .flowLoss s (fun b => b = s.bay)) ∧
  (∀ k : Fin 5, s.bay.therm.invalid = [517 + k.val] → s.bay.therm.compFrozen = [] →
    completes .compensationUpdate s (fun b => b.therm.compFrozen = [k.val] ∧ b.rd F.THM_STAT_COMP_FRZ = 1 ∧ keepsRegs s.bay b [F.THM_STAT_COMP_FRZ, F.EVT_STAT_LOST])) ∧
  (s.bay.therm.invalid = [] → completes .compensationUpdate s (fun b => (s.bay.therm.compFrozen = [] → b.therm.compFrozen = []) ∧ keepsRegs s.bay b [F.THM_STAT_COMP_FRZ])) ∧
  (s.bay.flag F.THM_STAT_TSD = true → completes .tsdRead s (fun b => b.rd F.THM_STAT_CLR_ARMED = 1 ∧ keepsRegs s.bay b [F.THM_STAT_CLR_ARMED])) ∧
  (s.bay.gate F.THM_CTL_TSD_CLR = none → s.bay.flag F.THM_STAT_CLR_ARMED = true → s.bay.tripsClear = true →
    completes .tsdClr s (fun b => b.rd F.THM_STAT_TSD = 0 ∧ b.rd F.THM_STAT_CLR_ARMED = 0 ∧ b.therm.tripped = [] ∧ keepsRegs s.bay b [F.THM_STAT_TSD, F.THM_STAT_CLR_ARMED, F.EVT_STAT_LOST])) ∧
  (s.bay.gate F.THM_CTL_TSD_CLR = none → s.bay.flag F.THM_STAT_CLR_ARMED = false → completes .tsdClr s (fun b => b = s.bay.refuse F.THM_CTL_TSD_CLR 5)) ∧
  (s.bay.gate F.THM_CTL_TSD_CLR = none → s.bay.flag F.THM_STAT_CLR_ARMED = true → s.bay.tripsClear = false → completes .tsdClr s (fun b => b = s.bay.refuse F.THM_CTL_TSD_CLR 4))

/-- Lanes and the link (R345, R349) and the joining sequence (R351, R515). A row delivered without its condition has no effect (log entry 58). -/
def Obligations.PairingLossAndJoining : Prop := ∀ s : State,
  (s.bay.flag F.RED_STAT_LANE0 = true → s.bay.anyJoining = false →
    completes (.pairingLaneLost 0 false) s (fun b => b.rd F.RED_STAT_LANE0 = 0 ∧ keepsRegs s.bay b [F.RED_STAT_LANE0, F.EVT_STAT_LOST])) ∧
  (∀ x : Fin 2, s.bay.red.silent = [] → s.bay.red.out = [] → s.bay.red.wins = [] → s.bay.red.joiner = none → s.bay.role (other x) = 2 →
    completes (.pairingLinkLost (some x)) s (fun b => b.red.silent = [x.val] ∧ b.role x = 0 ∧ b.red.lift = some (other x) ∧ b.winOpen 2 = true ∧ b.rd F.RED_FLT_CAUSE = 1 ∧ b.rd F.RED_FLT_SIDE = x.val + 1)) ∧
  (s.bay.anyLane = false → s.bay.role 0 = 3 → s.bay.role 1 = 2 → s.bay.anyJoining = false → s.bay.red.wins = [] → s.bay.red.out = [] →
    completes (.pairingLinkLost none) s (fun b => b.role 0 = 3 ∧ b.role 1 = 0 ∧ b.red.out = [1] ∧ b.rd F.RED_FLT_CAUSE = 5 ∧
      keepsRegs s.bay b [F.RED_STAT_ROLE_CB, F.RED_FLT_CAUSE, F.RED_FLT_SIDE, F.RED_FLT_DETAIL, F.RED_FLT_COUNT, F.EVT_STAT_LOST])) ∧
  (∀ x : Fin 2, s.bay.joining x = true → s.bay.rd F.RED_STAT_SYNC = 1 →
    ∃ t, exec (.joinBootDone x true) s = .next t ∧ t.pending = s.pending ∧ t.bay.rd F.RED_STAT_SYNC = 3 ∧ t.bay.rd (F.MEM_STAT_INIT_DONE x) = 1 ∧ (t.mem.cart x).dram = {} ∧ (t.mem.cart x).sram = {} ∧
      keepsRegs s.bay t.bay [F.RED_STAT_SYNC, F.MEM_STAT_INIT_DONE x, F.EVT_STAT_LOST]) ∧
  (∀ x : Fin 2, s.bay.joining x = true → s.bay.rd F.RED_STAT_SYNC = 1 →
    ∃ t, exec (.joinBootDone x false) s = .next t ∧ t.pending = s.pending ∧ t.bay.rd F.RED_STAT_SYNC = 7 ∧ t.bay.rd F.RED_FLT_CAUSE = 7) ∧
  (∀ x : Nat, x < 2 → s.bay.red.joiner = some x → s.bay.joining x = true → s.bay.rd F.RED_STAT_SYNC = 3 → (s.mem.ram (other x) 0).errs = [] →
    ∃ t, exec .bulkCopyDone s = .next t ∧ t.pending = s.pending ∧ t.mem = s.mem.setRam x 0 ((s.mem.ram x 0).takeHeld (s.mem.ram (other x) 0)) ∧ t.bay.rd F.RED_STAT_SYNC = 4) ∧
  (∀ x : Nat, x < 2 → s.bay.red.joiner = some x → s.bay.joining x = true → s.bay.rd F.RED_STAT_SYNC = 4 →
    completes .stateCopyDone s (fun b => b.role x = 1 ∧ b.rd F.RED_STAT_SYNC = 5 ∧ b.red.cleanT0 = s.bay.now ∧ keepsRegs s.bay b [roleKey x, F.RED_STAT_SYNC, F.EVT_STAT_LOST])) ∧
  (s.bay.red.joiner = some 1 → s.bay.joining 1 = true → s.bay.rd F.RED_STAT_SYNC = 5 → 10000 ≤ (s.bay.now - s.bay.red.cleanT0) / msTicks →
    completes .provingDone s (fun b => b.role 1 = 2 ∧ b.rd F.RED_STAT_SYNC = 6 ∧ b.rd F.RED_CLEAN = 10000 ∧ b.red.joiner = none ∧ b.winOpen 3 = false ∧
      b.rd F.TRU_FW_CA_SVN_MIN = max (s.bay.rd F.TRU_FW_CA_SVN_MIN) (s.bay.rd F.TRU_FW_CA_SVN))) ∧
  (∀ x : Nat, s.bay.red.joiner = some x → s.bay.joining x = true → s.bay.rd F.RED_STAT_SYNC = 5 → (s.bay.now - s.bay.red.cleanT0) / msTicks < 10000 →
    completes .provingDone s (fun b => b = s.bay))

/-- RESYNC and SWAP (R351, R353; log entry 34), the read that cause 7 waits for (R387), strobes and the oscillator (R35, R36, R38), a word rewritten from the partner's copy (R373). A row delivered without its condition has no effect (log entry 58). -/
def Obligations.ResyncSwapStrobesAndRepair : Prop := ∀ s : State,
  (s.bay.gate F.RED_CTL_RESYNC = none → s.bay.anyJoining = true → s.bay.rd F.RED_STAT_SYNC = 5 →
    completes .resync s (fun b => b.rd F.RED_STAT_SYNC = 4 ∧ b.rd F.RED_CLEAN = 0 ∧ keepsRegs s.bay b [F.RED_STAT_SYNC, F.RED_CLEAN])) ∧
  (s.bay.gate F.RED_CTL_RESYNC = none → s.bay.anyJoining = false → completes .resync s (fun b => b = s.bay.refuse F.RED_CTL_RESYNC 4)) ∧
  (s.bay.gate F.RED_CTL_SWAP = none → s.bay.lockstep = true → s.bay.red.wins = [] → completes .swap s (fun b => b = s.bay.setRed { s.bay.red with swap := true })) ∧
  (s.bay.gate F.RED_CTL_SWAP = none → s.bay.lockstep = false → completes .swap s (fun b => b = s.bay.refuse F.RED_CTL_SWAP 4)) ∧
  (completes .redFltRead s (fun b => b = { s.bay with modeSt := { s.bay.modeSt with redRead := true } })) ∧
  (∀ x : Nat, x < 2 → s.bay.red.joiner = some x → s.bay.rd F.RED_STAT_SYNC = 7 → s.bay.rd F.RED_FLT_CAUSE = 7 → s.bay.rd (fwSvnMin x) ≤ s.bay.rd (fwSvn (other x)) → s.bay.role (other x) = 3 → s.bay.rd (fwRun x) = 0 →
    completes .fwAlignDone s (fun b => b.rd F.RED_STAT_SYNC = 1 ∧ b.rd F.RED_CLEAN = 0 ∧ b.red.joiner = some x ∧ b.rd (fwRun x) = 1 ∧ b.bankOf x 1 = s.bay.bankOf (other x) (s.bay.rdN (fwRun (other x))))) ∧
  (∀ n : Fin 6, s.bay.slotFitted n = true → (s.bay.slotOf n).strobe = 1 →
    completes (.strobeMissing n) s (fun b => (b.slotOf n).strobe = 2 ∧ (b.slotOf n).strobeMark = true ∧ (b.slotOf n).holder = (s.bay.slotOf n).holder ∧ keepsRegs s.bay b [])) ∧
  (∀ n : Fin 6, s.bay.slotFitted n = true → completes (.strobeDisagree n) s (fun b => b = s.bay.note 183 ∧ b.slotOf n = s.bay.slotOf n)) ∧
  (s.bay.flag F.TIME_STAT_HOLDOVER = false → s.bay.rd F.TIME_STAT_SRC = 0 → s.bay.flag F.TIME_STAT_FREE_RUN = false →
    completes .oscillatorFail s (fun b => b.rd F.TIME_STAT_HOLDOVER = 1 ∧ b.rd F.TIME_STAT_FREE_RUN = 1 ∧ keepsRegs s.bay b [F.TIME_STAT_HOLDOVER, F.TIME_STAT_FREE_RUN, F.EVT_STAT_LOST])) ∧
  (s.bay.flag F.TIME_STAT_HOLDOVER = false → s.bay.rd F.TIME_STAT_SRC = 2 →
    completes .oscillatorFail s (fun b => b.rd F.TIME_STAT_HOLDOVER = 1 ∧ keepsRegs s.bay b [F.TIME_STAT_HOLDOVER, F.EVT_STAT_LOST])) ∧
  (∀ (x : Fin 2) (w : Nat), s.mem.badAt x 0 w = true → s.partnerHas x w = true → s.bay.anyLane = true →
    ∃ t, exec (.partnerRepair x w) s = .next t ∧ t.pending = s.pending ∧ t.mem = (s.copyFromPartner x w).mem ∧ keepsRegs s.bay t.bay [F.MEM_STAT_POISON x, F.EVT_STAT_LOST])

/-- A scrub pass begins, ends and is stopped (R376), injection stores a word with the supplied check bits (R379), CNT_CLR, DMA_RST (R380, R381) and the end of initialisation (R378). How a pair of data and check bits decodes is Config's (log entry 35). -/
def Obligations.MemoryScrubbingAndInjection : Prop := ∀ s : State,
  (∀ x : Fin 2, s.bay.gate (F.MEM_CTL_SCR_GO x) = none → s.bay.memHalf x = true → s.bay.flag (F.MEM_STAT_SCR_BUSY x) = false → s.bay.rdN (F.MEM_SCR_START x) ≤ s.bay.rdN (F.MEM_SCR_END x) → s.bay.memHid.scrub.length = 2 →
    completes (.scrGo x) s (fun b => b.rd (F.MEM_STAT_SCR_BUSY x) = 1 ∧ b.rd (F.MEM_STAT_SCR_PART x) = 0 ∧ b.rd (F.MEM_SCR_CE x) = 0 ∧ b.rd (F.MEM_SCR_UE x) = 0 ∧ b.rd (F.MEM_SCR_REP x) = 0 ∧
      b.rd (F.MEM_SCR_FIRST x) = 4294967295 ∧ b.rd (F.MEM_SCR_LAST x) = 4294967295 ∧
      b.scrubOf x = some ⟨s.bay.rdN (F.MEM_SCR_CFG_MEMSEL x), s.bay.flag (F.MEM_SCR_CFG_REPAIR x), s.bay.now, s.bay.rdN (F.MEM_SCR_START x), s.bay.rdN (F.MEM_SCR_END x), s.bay.rdN (F.MEM_SCR_START x)⟩)) ∧
  (∀ x : Fin 2, s.bay.gate (F.MEM_CTL_SCR_GO x) = none → s.bay.memHalf x = true → s.bay.flag (F.MEM_STAT_SCR_BUSY x) = true → completes (.scrGo x) s (fun b => b = s.bay.refuse (F.MEM_CTL_SCR_GO x) 4)) ∧
  (∀ x : Fin 2, s.bay.mode ≠ 0 → s.bay.gate (F.MEM_CTL_SCR_GO x) = none → s.bay.memHalf x = false → completes (.scrGo x) s (fun b => b = s.bay.refuse (F.MEM_CTL_SCR_GO x) 7)) ∧
  (∀ (x : Fin 2) (p : Scrub), s.bay.gate (F.MEM_CTL_SCR_STOP x) = none → s.bay.memHalf x = true → s.bay.scrubOf x = some p → s.bay.memHid.scrub.length = 2 → (s.mem.ram x p.memsel).errs = [] →
    ∃ t, exec (.scrStop x) s = .next t ∧ t.pending = s.pending ∧ t.mem = s.mem ∧ t.bay.scrubOf x = none ∧ t.bay.rd (F.MEM_STAT_SCR_BUSY x) = 0 ∧ t.bay.rd (F.MEM_STAT_SCR_PART x) = 1 ∧
      keepsRegs s.bay t.bay [F.MEM_STAT_SCR_BUSY x, F.MEM_STAT_SCR_PART x, F.EVT_STAT_LOST]) ∧
  (∀ (x : Fin 2) (p : Scrub), s.bay.scrubOf x = some p → s.bay.memHid.scrub.length = 2 → (s.mem.ram x p.memsel).errs = [] →
    ∃ t, exec (.scrubComplete x) s = .next t ∧ t.pending = s.pending ∧ t.mem = s.mem ∧ t.bay.scrubOf x = none ∧ t.bay.rd (F.MEM_STAT_SCR_BUSY x) = 0 ∧ t.bay.rd (F.MEM_STAT_SCR_PART x) = 0 ∧
      keepsRegs s.bay t.bay [F.MEM_STAT_SCR_BUSY x, F.MEM_STAT_SCR_PART x, F.EVT_STAT_LOST]) ∧
  (∀ (x : Fin 2) (p : Scrub) (w syn : Nat), s.bay.scrubOf x = some p → s.bay.memHid.scrub.length = 2 → p.memsel = 1 → p.repair = true → p.pos ≤ 4 * w → 4 * w ≤ p.last → (s.mem.ram x 1).errs = [(w, .single syn)] →
    ∃ t, exec (.scrubComplete x) s = .next t ∧ t.pending = s.pending ∧ (t.mem.ram x 1).errs = [] ∧ (t.mem.ram x 1).cells = (s.mem.ram x 1).cells ∧
      t.bay.rd (F.MEM_SCR_CE x) = (s.bay.rd (F.MEM_SCR_CE x) + 1) % 4294967296 ∧ t.bay.rd (F.MEM_SCR_REP x) = (s.bay.rd (F.MEM_SCR_REP x) + 1) % 4294967296 ∧ t.bay.rd (F.MEM_SCR_UE x) = s.bay.rd (F.MEM_SCR_UE x) ∧
      t.bay.rd (F.MEM_SCR_LAST x) = 4 * w) ∧
  (∀ x : Fin 2, s.mem.wf = true → s.bay.gate (F.MEM_CTL_INJ_GO x) = none → s.bay.memHalf x = true → s.bay.mode = Mode.service → injTarget (s.bay.rdN (F.MEM_INJ_CFG_MEMSEL x)) (s.bay.rdN (F.MEM_INJ_ADDR x)) = true → s.bay.rdN (F.MEM_INJ_CFG_MEMSEL x) = 1 →
    ∃ t, exec (.injGo x) s = .next t ∧ t.pending = s.pending ∧
      (let d := s.bay.rdN (F.MEM_INJ_DLO x) % 4294967296
       let chk := s.bay.rdN (F.MEM_INJ_CHK_VAL x) % 128
       (∀ i < 4, (t.mem.ram x 1).cells.get (s.bay.rdN (F.MEM_INJ_ADDR x) + i) = (leBytes 4 (if Config.eccClass 1 d chk = 1 then Config.eccData 1 d chk else d : Nat)).getD i 0) ∧
       t.mem.errAt x 1 (s.bay.rdN (F.MEM_INJ_ADDR x) / 4) =
         (if Config.eccClass 1 d chk = 0 then none else if Config.eccClass 1 d chk = 1 then some (.single (Config.eccSyn 1 d chk)) else if Config.eccClass 1 d chk = 2 then some .poison else some .double))) ∧
  (∀ x : Fin 2, s.bay.gate (F.MEM_CTL_INJ_GO x) = none → s.bay.memHalf x = true → s.bay.mode ≠ Mode.service → completes (.injGo x) s (fun b => b = s.bay.refuse (F.MEM_CTL_INJ_GO x) 6)) ∧
  (∀ x : Fin 2, s.bay.gate (F.MEM_CTL_CNT_CLR x) = none → s.bay.memHalf x = true →
    completes (.cntClr x) s (fun b => (∀ k < 3, b.rd (ceKeys k x).1 = 0 ∧ b.rd (ceKeys k x).2.2.2 = 0) ∧ b.now = s.bay.now ∧ b.log = s.bay.log)) ∧
  (∀ (x : Fin 2) (m : BitVec 16), s.bay.gate (F.MEM_DMA_RST_MASK x) = none → s.bay.memHalf x = true →
    completes (.dmaRst x m) s (fun b => (∀ d < 16, (b.rdN (F.MEM_DMA_HALT_MASK x)).testBit d = ((s.bay.rdN (F.MEM_DMA_HALT_MASK x)).testBit d && !m.toNat.testBit d)) ∧ keepsRegs s.bay b [F.MEM_DMA_HALT_MASK x])) ∧
  (∀ x : Fin 2, s.bay.mode = Mode.boot → s.bay.cPresent x = true → s.bay.flag (F.MEM_STAT_INIT_DONE x) = false → (s.mem.ram x 2).errs = [] →
    ∃ t, exec (.memoryInitDone x 0) s = .next t ∧ t.pending = s.pending ∧ (t.mem.cart x).dram = {} ∧ (t.mem.cart x).sram = {} ∧ t.bay.rd (F.MEM_STAT_INIT_DONE x) = 1 ∧ keepsRegs s.bay t.bay [F.MEM_STAT_INIT_DONE x])

/-- R223. On a running engine (`runsOn`) that stands on MOV. `movIndex` is the index x; `frozenKeys` are the registers a freeze may write, so a frozen MOV transfers nothing and the PC stays (R205). A negative k_S with IMM[12] set reads as 2³¹ or more, above every index. -/
def Obligations.SkeinMovTransfers : Prop := ∀ s : State,
  (∀ (c : Fin 64) (w : Nat), s.bay.movIndex c w = w % 4096 + (if w.testBit 12 then (s.bay.k c (sOf w) % 4294967296).toNat else 0)) ∧
  (∀ (c : Fin 64) (w : Nat), runsOn s c 0x06 w → field w 16 2 = 0 → completes (.skMov c) s (fun b => b.k c (dOf w) = s.bay.k c (sOf w) ∧ turned s.bay b c 1 ∧
      keepsRegs s.bay b [kKey c (dOf w), F.ENG_PC c, F.ENG_TURNS c])) ∧
  (∀ (c : Fin 64) (w : Nat), runsOn s c 0x06 w → field w 16 2 = 1 → s.bay.movIndex c w ≤ 255 →
    completes (.skMov c) s (fun b => b.k c (dOf w) = s.bay.rd (scrKey c (s.bay.movIndex c w)) ∧ turned s.bay b c 1 ∧ keepsRegs s.bay b [kKey c (dOf w), F.ENG_PC c, F.ENG_TURNS c])) ∧
  (∀ (c : Fin 64) (w : Nat), runsOn s c 0x06 w → field w 16 2 = 2 → s.bay.movIndex c w ≤ 255 →
    completes (.skMov c) s (fun b => b.rd (scrKey c (s.bay.movIndex c w)) = s.bay.k c (dOf w) ∧ turned s.bay b c 1 ∧
      keepsRegs s.bay b [scrKey c (s.bay.movIndex c w), F.ENG_PC c, F.ENG_TURNS c])) ∧
  (∀ (c : Fin 64) (w v : Nat), runsOn2 s c 0x06 w ((s.bay.codeOf c).length + s.bay.movIndex c w) 3 → field w 16 2 = 3 → (s.bay.constsOf c)[s.bay.movIndex c w]? = some v →
    completes (.skMov c) s (fun b => b.k c (dOf w) = asSigned 32 v ∧ turned s.bay b c 1 ∧ keepsRegs s.bay b [kKey c (dOf w), F.ENG_PC c, F.ENG_TURNS c])) ∧
  (∀ (c : Fin 64) (w : Nat), runsOn s c 0x06 w → field w 16 2 = 1 → 255 < s.bay.movIndex c w →
    completes (.skMov c) s (fun b => frozenBy b c 4 (s.bay.movIndex c w % 65536 : Nat) ∧ keepsRegs s.bay b (frozenKeys c))) ∧
  (∀ (c : Fin 64) (w : Nat), runsOn s c 0x06 w → field w 16 2 = 2 → 255 < s.bay.movIndex c w →
    completes (.skMov c) s (fun b => frozenBy b c 4 (s.bay.movIndex c w % 65536 : Nat) ∧ keepsRegs s.bay b (frozenKeys c))) ∧
  (∀ (c : Fin 64) (w : Nat), runsOn s c 0x06 w → field w 16 2 = 3 → (s.bay.constsOf c).length ≤ s.bay.movIndex c w →
    completes (.skMov c) s (fun b => frozenBy b c 4 (s.bay.movIndex c w % 65536 : Nat) ∧ keepsRegs s.bay b (frozenKeys c))) ∧
  (∀ (c : Fin 64) (w : Nat), runsOn s c 0x06 w → field w 16 2 ≠ 0 → w.testBit 12 → s.bay.k c (sOf w) < 0 → -2147483648 ≤ s.bay.k c (sOf w) →
      (s.bay.constsOf c).length ≤ 2147483648 →
    completes (.skMov c) s (fun b => frozenBy b c 4 (s.bay.movIndex c w % 65536 : Nat) ∧ keepsRegs s.bay b (frozenKeys c)))

/-- R224. On a running engine (`runsOn`) that stands on the instruction; `condition` is R221's table and `frozenKeys` are the registers a freeze may write, so a frozen instruction moves no PC, pushes and pops nothing and counts nothing down. The loop counter is a 32-bit register. -/
def Obligations.SkeinBranches : Prop := ∀ s : State,
  (∀ (c : Fin 64) (w : Nat), runsOn s c 0x10 w → s.bay.condition c (dOf w) = some false → completes (.skBr c) s (fun b => turned s.bay b c 1 ∧
      keepsRegs s.bay b [F.ENG_PC c, F.ENG_TURNS c])) ∧
  (∀ (c : Fin 64) (w : Nat), runsOn s c 0x10 w → s.bay.condition c (dOf w) = some true → 0 ≤ s.bay.rd (F.ENG_PC c) + sextOf w →
      s.bay.rd (F.ENG_PC c) + sextOf w < (s.bay.codeOf c).length → completes (.skBr c) s (fun b => turned s.bay b c (sextOf w) ∧
      keepsRegs s.bay b [F.ENG_PC c, F.ENG_TURNS c])) ∧
  (∀ (c : Fin 64) (w : Nat), runsOn s c 0x10 w → s.bay.condition c (dOf w) = none → completes (.skBr c) s (fun b => frozenBy b c 2 ((dOf w % 65536)) ∧ keepsRegs s.bay b (frozenKeys c))) ∧
  (∀ (c : Fin 64) (w : Nat), runsOn s c 0x11 w → s.bay.rdN (F.ENG_STAT_DEPTH c) < 4 → 0 ≤ s.bay.rd (F.ENG_PC c) + sextOf w →
      s.bay.rd (F.ENG_PC c) + sextOf w < (s.bay.codeOf c).length → completes (.skCall c) s (fun b => turned s.bay b c (sextOf w) ∧
      b.rd (retKey c (s.bay.rdN (F.ENG_STAT_DEPTH c))) = s.bay.rd (F.ENG_PC c) + 1 ∧ b.rd (F.ENG_STAT_DEPTH c) = s.bay.rdN (F.ENG_STAT_DEPTH c) + 1 ∧
      keepsRegs s.bay b [retKey c (s.bay.rdN (F.ENG_STAT_DEPTH c)), F.ENG_STAT_DEPTH c, F.ENG_PC c, F.ENG_TURNS c])) ∧
  (∀ (c : Fin 64) (w : Nat), runsOn s c 0x11 w → 4 ≤ s.bay.rdN (F.ENG_STAT_DEPTH c) → completes (.skCall c) s (fun b => frozenBy b c 5 (0) ∧ keepsRegs s.bay b (frozenKeys c))) ∧
  (∀ (c : Fin 64) (w d : Nat), runsOn s c 0x12 w → s.bay.rdN (F.ENG_STAT_DEPTH c) = d + 1 → 0 ≤ s.bay.rd (retKey c d) →
      s.bay.rd (retKey c d) < (s.bay.codeOf c).length → completes (.skRet c) s (fun b => b.rd (F.ENG_PC c) = s.bay.rd (retKey c d) ∧ b.rd (F.ENG_STAT_DEPTH c) = d ∧
      keepsRegs s.bay b [retKey c d, F.ENG_STAT_DEPTH c, F.ENG_PC c, F.ENG_TURNS c])) ∧
  (∀ (c : Fin 64) (w : Nat), runsOn s c 0x12 w → s.bay.rdN (F.ENG_STAT_DEPTH c) = 0 → completes (.skRet c) s (fun b => frozenBy b c 6 (0) ∧ keepsRegs s.bay b (frozenKeys c))) ∧
  (∀ (c : Fin 64) (w : Nat), runsOn s c 0x13 w → asSigned 32 (s.bay.k c (dOf w) - 1) = 0 → completes (.skLoop c) s (fun b => b.k c (dOf w) = 0 ∧ turned s.bay b c 1 ∧
      keepsRegs s.bay b [kKey c (dOf w), F.ENG_PC c, F.ENG_TURNS c])) ∧
  (∀ (c : Fin 64) (w : Nat), runsOn s c 0x13 w → asSigned 32 (s.bay.k c (dOf w) - 1) ≠ 0 → 0 ≤ s.bay.rd (F.ENG_PC c) + sextOf w →
      s.bay.rd (F.ENG_PC c) + sextOf w < (s.bay.codeOf c).length → completes (.skLoop c) s (fun b => b.k c (dOf w) = asSigned 32 (s.bay.k c (dOf w) - 1) ∧
      turned s.bay b c (sextOf w) ∧ keepsRegs s.bay b [kKey c (dOf w), F.ENG_PC c, F.ENG_TURNS c])) ∧
  (∀ (c : Fin 64) (w : Nat), runsOn s c 0x10 w → s.bay.condition c (dOf w) = some true → (s.bay.rd (F.ENG_PC c) + sextOf w < 0 ∨ (s.bay.codeOf c).length ≤ s.bay.rd (F.ENG_PC c) + sextOf w) →
    completes (.skBr c) s (fun b => frozenBy b c 3 ((s.bay.rd (F.ENG_PC c) + sextOf w) % 65536) ∧ keepsRegs s.bay b (frozenKeys c))) ∧
  (∀ (c : Fin 64) (w : Nat), runsOn s c 0x11 w → s.bay.rdN (F.ENG_STAT_DEPTH c) < 4 → (s.bay.rd (F.ENG_PC c) + sextOf w < 0 ∨ (s.bay.codeOf c).length ≤ s.bay.rd (F.ENG_PC c) + sextOf w) →
    completes (.skCall c) s (fun b => frozenBy b c 3 ((s.bay.rd (F.ENG_PC c) + sextOf w) % 65536) ∧ keepsRegs s.bay b (frozenKeys c))) ∧
  (∀ (c : Fin 64) (w d : Nat), runsOn s c 0x12 w → s.bay.rdN (F.ENG_STAT_DEPTH c) = d + 1 →
    (s.bay.rd (retKey c d) < 0 ∨ (s.bay.codeOf c).length ≤ s.bay.rd (retKey c d)) →
    completes (.skRet c) s (fun b => frozenBy b c 3 (s.bay.rd (retKey c d) % 65536) ∧ keepsRegs s.bay b (frozenKeys c))) ∧
  (∀ (c : Fin 64) (w : Nat), runsOn s c 0x13 w → asSigned 32 (s.bay.k c (dOf w) - 1) ≠ 0 → (s.bay.rd (F.ENG_PC c) + sextOf w < 0 ∨ (s.bay.codeOf c).length ≤ s.bay.rd (F.ENG_PC c) + sextOf w) →
    completes (.skLoop c) s (fun b => frozenBy b c 3 ((s.bay.rd (F.ENG_PC c) + sextOf w) % 65536) ∧ keepsRegs s.bay b (frozenKeys c)))

/-- R218, as results of the five instructions on a running engine (`runsOn`). `secondOperand` is the rule for a sum that fits 32 bits; what a sum outside 32 bits gives is the model's reading (log entry 23) and is not stated here. -/
def Obligations.SkeinSecondOperand : Prop := ∀ s : State,
  (∀ (c : Fin 64) (w : Nat) (v : Int), runsOn s c 0x07 w → secondOperand s.bay c w v →
    completes (.skAdd c) s (fun b => b.k c (dOf w) = asSigned 32 (s.bay.k c (dOf w) + v))) ∧
  (∀ (c : Fin 64) (w : Nat) (v : Int), runsOn s c 0x08 w → secondOperand s.bay c w v →
    completes (.skSub c) s (fun b => b.k c (dOf w) = asSigned 32 (s.bay.k c (dOf w) - v))) ∧
  (∀ (c : Fin 64) (w : Nat) (v : Int), runsOn s c 0x0B w → secondOperand s.bay c w v →
    completes (.skMin c) s (fun b => b.k c (dOf w) = min (s.bay.k c (dOf w)) v)) ∧
  (∀ (c : Fin 64) (w : Nat) (v : Int), runsOn s c 0x0C w → secondOperand s.bay c w v →
    completes (.skMax c) s (fun b => b.k c (dOf w) = max (s.bay.k c (dOf w)) v)) ∧
  (∀ (c : Fin 64) (w : Nat) (v : Int), runsOn s c 0x0E w → secondOperand s.bay c w v →
    completes (.skCmp c) s (fun b => b.k c (dOf w) = s.bay.k c (dOf w) ∧ b.flag (F.ENG_STAT_Z c) = decide (s.bay.k c (dOf w) = v) ∧ b.flag (F.ENG_STAT_N c) = decide (s.bay.k c (dOf w) < v)))

/-- R364, step by step. The first clause says what the clear of every trip is, in units of 0.01 °C and 0.01 L/min. `refuse` is the configuration-error event with the register's address and a reason (R398); `note 188` is event 188, whose DETAIL and VALUE the spec does not state (free, log entry 1). The clear reaches the block in every mode that takes writes (`gate` answers none, R399). -/
def Obligations.ThermalShutdownIsLeftInSequence : Prop := ∀ s : State,
  (s.bay.tripsClear = true ↔ ((∀ c, c < 64 → ∀ t ∈ (s.bay.thermChOf c).tj, t ≤ 12000) ∧ (∀ t ∈ s.bay.therm.convTj, t ≤ 12000) ∧ (∀ t ∈ s.bay.therm.legTj, t ≤ 12000) ∧
      (∀ n, n < 6 → s.bay.rd (plateKey n) ≤ 8000) ∧ 600 ≤ s.bay.rd F.THM_FLOW)) ∧
  (s.bay.flag F.THM_STAT_TSD = true → completes .tsdRead s (fun b => b.flag F.THM_STAT_CLR_ARMED = true ∧ keepsRegs s.bay b [F.THM_STAT_CLR_ARMED])) ∧
  (s.bay.flag F.THM_STAT_TSD = false → completes .tsdRead s (fun b => b = s.bay)) ∧
  (s.bay.gate F.THM_CTL_TSD_CLR = none → s.bay.flag F.THM_STAT_CLR_ARMED = false →
    completes .tsdClr s (fun b => b = s.bay.refuse F.THM_CTL_TSD_CLR 5 ∧ keepsRegs s.bay b [F.EVT_STAT_LOST])) ∧
  (s.bay.gate F.THM_CTL_TSD_CLR = none → s.bay.flag F.THM_STAT_CLR_ARMED = true → s.bay.tripsClear = false →
    completes .tsdClr s (fun b => b = s.bay.refuse F.THM_CTL_TSD_CLR 4 ∧ keepsRegs s.bay b [F.EVT_STAT_LOST])) ∧
  (s.bay.gate F.THM_CTL_TSD_CLR = none → s.bay.flag F.THM_STAT_CLR_ARMED = true → s.bay.tripsClear = true →
    completes .tsdClr s (fun b => b.flag F.THM_STAT_TSD = false ∧ b.flag F.THM_STAT_CLR_ARMED = false ∧ b.mode = s.bay.mode ∧ (∃ b0 : Bay, b = b0.note 188) ∧
      keepsRegs s.bay b [F.THM_STAT_TSD, F.THM_STAT_CLR_ARMED, F.EVT_STAT_LOST]))

/-- R12 and R13. A frame is 5000 ticks of 8 ns. The set of a channel's TGT registers is tested as a whole at its commit (R166) and has its own rule in the model (`tgtCommit`), so the commit is stated here for the other fields; each field is held once, since a write replaces the one before it (second clause). -/
def Obligations.ShadowedWritesCommitTogether : Prop := ∀ s : State,
  (∀ t n e : Nat, n * frameTicks ≤ t → t < (n + 1) * frameTicks → e = (if (n + 1) * frameTicks - t < usTicks then (n + 2) * frameTicks else (n + 1) * frameTicks) → commitEdge t = e) ∧
  (∀ (f : FieldRow) (k : Key) (v : Int), f.acc = .rws → k.grp ≠ .src → (s.bay.fieldWrite f k v).rdShadow k = v ∧ ⟨k, v, commitEdge s.bay.now⟩ ∈ (s.bay.fieldWrite f k v).shadows ∧
      (∀ x ∈ (s.bay.fieldWrite f k v).shadows, x.key = k → x.val = v) ∧ (∀ q, (s.bay.fieldWrite f k v).rd q = s.bay.rd q)) ∧
  (∀ (k : Key) (v : Int) (e : Nat), (s.bay.shadows.map Shadow.key).Nodup → (∀ x ∈ s.bay.shadows, isTgt x.key = false) → ⟨k, v, e⟩ ∈ s.bay.shadows → e ≤ s.bay.now →
    s.bay.commitEdgeAll.rd k = v) ∧
  (∀ k : Key, (∀ x ∈ s.bay.shadows, isTgt x.key = false) → (∀ x ∈ s.bay.shadows, x.key = k → s.bay.now < x.edge) → s.bay.commitEdgeAll.rd k = s.bay.rd k) ∧
  ((∀ x ∈ s.bay.shadows, isTgt x.key = false) → s.bay.commitEdgeAll.shadows = s.bay.shadows.filter (fun x => s.bay.now < x.edge))

/-- R11, for a host write, and for READ and WRITE of a session to its own stake. A place of the CHN blocks that shows a fault record of FRAM holds a register (`framWord`). The Rim error of R427 for such an address is 2. -/
def Obligations.AddressesWithoutARegister : Prop := ∀ s : State,
  (∀ a w : BitVec 32, regAt a.toNat = none → exec (.registerWrite a w) s = .next s) ∧
  (∀ (j : Fin 4) (tag : BitVec 32) (stake : Fin 64) (a : BitVec 32) (x : Session), s.bay.mode ≠ 0 → s.bay.session j = some x → stake.val = s.bay.node → a.toNat % 4 = 0 →
      inWindow a.toNat = false → inBlock a.toNat = true → s.bay.framWord a.toNat = none → regAt a.toNat = none →
    completes (.read j tag stake a 1) s (fun b => b = (s.bay.heardSession j x).send (.rim j tag.toNat 0 [0]))) ∧
  (∀ (j : Fin 4) (tag : BitVec 32) (stake : Fin 64) (a w : BitVec 32) (x : Session), s.bay.mode ≠ 0 → s.bay.session j = some x → stake.val = s.bay.node → a.toNat % 4 = 0 →
      inWindow a.toNat = false → inBlock a.toNat = true → mayWrite x.level a.toNat = true → regAt a.toNat = none →
    completes (.write j tag stake a ⟨[w], 0⟩) s (fun b => b = (s.bay.heardSession j x).send (.rim j tag.toNat 0 [1]))) ∧
  (∀ (j : Fin 4) (tag : BitVec 32) (stake : Fin 64) (a n : BitVec 32) (x : Session), s.bay.mode ≠ 0 → s.bay.session j = some x → stake.val = s.bay.node → a.toNat % 4 = 0 →
      inWindow a.toNat = false → inBlock a.toNat = false → n.toNat ≠ 0 → n.toNat ≤ 256 →
    completes (.read j tag stake a n) s (fun b => b = (s.bay.heardSession j x).send (.rim j tag.toNat 2 []))) ∧
  (∀ (j : Fin 4) (tag : BitVec 32) (stake : Fin 64) (a w : BitVec 32) (ws : List (BitVec 32)) (x : Session), s.bay.mode ≠ 0 → s.bay.session j = some x → stake.val = s.bay.node → a.toNat % 4 = 0 →
      inWindow a.toNat = false → inBlock a.toNat = false → ws.length < 256 →
    completes (.write j tag stake a ⟨w :: ws, 0⟩) s (fun b => b = (s.bay.heardSession j x).send (.rim j tag.toNat 2 [0]))) ∧
  (∀ (j : Fin 4) (tag : BitVec 32) (stake : Fin 64) (a w : BitVec 32) (part : Fin 4) (x : Session), s.bay.mode ≠ 0 → s.bay.session j = some x → stake.val = s.bay.node →
      a.toNat % 4 = 0 → inWindow a.toNat = false → inBlock a.toNat = true → mayWrite x.level a.toNat = true → regAt a.toNat = none → part.val ≠ 0 →
    completes (.write j tag stake a ⟨[w], part⟩) s (fun b => b = (s.bay.heardSession j x).send (.rim j tag.toNat 1 [1])))

/-- R221: which flags each code reads, and that codes 13 to 15 are reserved. TO, LIM and TRM are the channel's flags; bit 1 and EVMASK are of the engine's event word. -/
def Obligations.ConditionCodes : Prop := ∀ s : State,
  (∀ c : Nat, let z := s.bay.flag (F.ENG_STAT_Z c); let n := s.bay.flag (F.ENG_STAT_N c); let ev := (s.bay.engOf c).evt
    s.bay.condition c 0 = some z ∧ s.bay.condition c 1 = some (!z) ∧ s.bay.condition c 2 = some n ∧ s.bay.condition c 3 = some (!n) ∧
    s.bay.condition c 4 = some (n || z) ∧ s.bay.condition c 5 = some (!n && !z) ∧
    s.bay.condition c 6 = some (s.bay.sees (F.CHN_REG_STAT_TO c) != 0) ∧ s.bay.condition c 7 = some (s.bay.sees (F.CHN_REG_STAT_TO c) == 0) ∧
    s.bay.condition c 8 = some (s.bay.sees (F.CHN_REG_STAT_LIM c) != 0) ∧ s.bay.condition c 9 = some (s.bay.sees (F.CHN_REG_STAT_TRM c) != 0) ∧
    s.bay.condition c 10 = some (ev.testBit 1) ∧ s.bay.condition c 11 = some (ev &&& s.bay.rdN (F.ENG_EVMASK_VAL c) != 0) ∧ s.bay.condition c 12 = some true ∧
    s.bay.condition c 13 = none ∧ s.bay.condition c 14 = none ∧ s.bay.condition c 15 = none)

/-- R394 to R396 on the log of 4,096 entries, one place of which is kept for event 251. `logInOrder` is the order of R396 within one bay, `logSized` what R395 leaves room for. An enabled source (R393) whose time and number stand in fewer than 32 entries (R392) enters. -/
def Obligations.EventLogKeepsItsOrderAndSize : Prop := ∀ s : State,
  (∀ (src : Nat) (d v : Int), logInOrder s.bay.log → logInOrder (s.bay.raise src d v).log) ∧
  (∀ (src : Nat) (d v : Int), logSized s.bay → logSized (s.bay.raise src d v)) ∧
  (∀ (src : Nat) (d v : Int), s.bay.rd (F.SRC_CFG_EN src) ≠ 0 → sameTimeSrc s.bay.log s.bay.now src < 32 → s.bay.log.length < 4095 →
    List.Perm (s.bay.raise src d v).log (⟨s.bay.now, src, sameTimeSrc s.bay.log s.bay.now src, s.bay.rd (F.SRC_CFG_PRIO src), d, v, false⟩ :: s.bay.log)) ∧
  (∀ (src : Nat) (d v : Int), s.bay.rd (F.SRC_CFG_EN src) = 0 → (s.bay.raise src d v).log = s.bay.log) ∧
  (∀ (src : Nat) (d v : Int) (e : EvEntry), e ∈ s.bay.log → (e.released = true ∧ s.bay.log.head? = some e ∨ s.bay.rd (F.SRC_CFG_PRIO src) ≤ e.prio) → e ∈ (s.bay.raise src d v).log)

/-- R426 with R368: the words are written whole, so no read of a merge comes before (R374, R375). `x` is any cartridge, memory 0 the DRAM, 1 SRAM, 2 MRAM; the address stored to is the low 28 bits of the address (R368). What an unlisted byte reads as is log entry 33. -/
def Obligations.BulkWriteStoresItsBytes : Prop := ∀ s : State,
  (∀ (j : Fin 4) (tag : BitVec 32) (stake : Fin 64) (a : BitVec 32) (l : List Byte) (x : Session), s.mem.wf = true → s.bay.mode ≠ 0 → s.bay.session j = some x → stake.val = s.bay.node → l ≠ [] →
      s.bay.bulkError x.cart a.toNat l.length = 0 → 1 ≤ x.level → windowWritable a.toNat = true → windowWritable (a.toNat + l.length - 8) = true → inWindow (a.toNat + l.length - 8) = true →
    ∃ t, exec (.bulkWrite j tag stake a l) s = .next t ∧
      (∀ (y : Fin 2) (k : Nat), s.bay.cPresent y = true → (t.mem.ram y 0).cells.get k =
        (if windowOff a.toNat ≤ k ∧ k < windowOff a.toNat + l.length then l.getD (k - windowOff a.toNat) 0 else (s.mem.ram y 0).cells.get k)) ∧
      (∀ (y : Fin 2) (k : Nat), s.bay.cPresent y = false → (t.mem.ram y 0).cells.get k = (s.mem.ram y 0).cells.get k) ∧
      (∀ (y : Fin 2) (m : Fin 3), m ≠ 0 → t.mem.ram y m = s.mem.ram y m) ∧ OutMsg.rim j tag.toNat 0 [] ∈ t.bay.out)

/-- The block takes its commands one at a time, first in, first out. -/
def Obligations.StepTakesTheFront : Prop := ∀ s : State,
  (∀ (c : Instr) (q : List Instr), s.pending = c :: q → step s = exec c { s with pending := q })

/-- The model's choice, log entry 57: nothing waits, so the step moves bay time by one tick; a frame edge is a command of its own and never passes silently. -/
def Obligations.EmptyQueueLetsTimePass : Prop := ∀ s : State,
  (s.pending = [] → (s.bay.now + 1) % frameTicks ≠ 0 → ∃ t, step s = .next t ∧ t.mem = s.mem ∧ t.pending = [] ∧ t.bay.now = s.bay.now + 1 ∧ keepsRegs s.bay t.bay []) ∧
  (s.pending = [] → (s.bay.now + 1) % frameTicks = 0 → step s = .next s)

/-- Register values their tables state, one group a clause. The clock at 0 is the model's choice (log entry 10). -/
def Obligations.ResetLeavesTheStatedValues : Prop :=
  (State.reset.bay.rd F.BAY_STAT_MODE = 1 ∧ State.reset.bay.rd F.PWR_RT_CTL_AUTORES = 1 ∧ State.reset.bay.rd F.PWR_RT_CTL_TMAX = 30 ∧ State.reset.bay.rd F.PWR_RT_CTL_VSET = 760 ∧ State.reset.bay.rd F.MEAS_CTL_CORR_EN = 1 ∧ State.reset.bay.rd F.MEAS_CTL_RUN = 1 ∧ State.reset.bay.rd F.EIS_CTL_EN = 1 ∧ State.reset.bay.rd F.EIS_CTL_STAGGER = 1 ∧ State.reset.bay.rd F.SKN_CTL_EN = 1 ∧ State.reset.bay.rd F.SKN_TBL_FREE = 16777216 ∧ State.reset.bay.rd F.LOOP_STAT_LANE_OK = 15 ∧ State.reset.bay.rd F.RED_CTL_REVERT_EN = 1 ∧ State.reset.bay.rd F.TIME_STAT_FREE_RUN = 1 ∧ State.reset.bay.rd F.THM_COOL_F_VAL = 200 ∧ State.reset.bay.rd F.THM_PUMP_MIN_VAL = 30 ∧ State.reset.bay.rd F.THM_FAN_MIN_VAL = 20 ∧ State.reset.bay.rd F.WVE_RIM_CREDIT = 256) ∧
  (∀ n : Nat, State.reset.bay.rd (F.SEC_ETA n) = 9750 ∧ State.reset.bay.rd (F.SEC_DON_IMAX n) = 50000 ∧ State.reset.bay.rd (F.SEC_RT_VMIN n) = 3000000 ∧ State.reset.bay.rd (F.SEC_GOV_F0 n) = 200 ∧ State.reset.bay.rd (F.SEC_MOD_CFG_KBAL n) = 20 ∧ State.reset.bay.rd (F.SEC_MOD_CFG_RDC n) = 400 ∧ State.reset.bay.rd (F.SEC_MOD_CFG_RSYN n) = 200) ∧
  (∀ c : Nat, State.reset.bay.rd (F.CHN_STG_STAT_PH_OK c) = 15 ∧ State.reset.bay.rd (F.CHN_STG_CFG_PH_EN c) = 15 ∧ State.reset.bay.rd (F.CHN_STG_CFG_BAL_EN c) = 1 ∧ State.reset.bay.rd (F.CHN_STG_CFG_SHED_EN c) = 1 ∧ State.reset.bay.rd (F.CHN_STG_CFG_OV_MARGIN c) = 10 ∧ State.reset.bay.rd (F.CHN_STG_CFG_T_RAMP c) = 20 ∧ State.reset.bay.rd (F.CHN_RPATH c) = 1000 ∧ State.reset.bay.rd (F.CHN_MEAS_CFG_ANTIC c) = 1 ∧ State.reset.bay.rd (F.CHN_MEAS_CFG_RFLOOR c) = 2 ∧ State.reset.bay.rd (F.ENG_EVMASK_VAL c) = 255 ∧ State.reset.bay.rd (F.LPC_KPI c) = 500000 ∧ State.reset.bay.rd (F.LPC_KII c) = 2500) ∧
  (∀ a : Nat, State.reset.bay.rd (F.AXS_N_RATED a) = 3000 ∧ State.reset.bay.rd (F.AXS_CFG_POLES a) = 4 ∧ State.reset.bay.rd (F.AXS_LD a) = 10000 ∧ State.reset.bay.rd (F.AXS_LQ a) = 13000 ∧ State.reset.bay.rd (F.AXS_PSI a) = 10000 ∧ State.reset.bay.rd (F.LPA_KPC a) = 50 ∧ State.reset.bay.rd (F.LPA_KPS a) = 20 ∧ State.reset.bay.rd (F.POS_WRAP a) = 240 ∧ State.reset.bay.rd (F.POS_CFG_GAP_TMAX a) = 100) ∧
  (∀ n : Nat, State.reset.bay.rd (F.CFD_REC_DLY n) = 1000 ∧ State.reset.bay.rd (F.CFD_NBT_NTSEG1 n) = 159 ∧ State.reset.bay.rd (F.CFD_DBT_DTSEG1 n) = 39 ∧ State.reset.bay.rd (F.MEM_CE_THR n) = 64 ∧ State.reset.bay.rd (F.MEM_SCR_FIRST n) = 4294967295) ∧
  (∀ a : Nat, State.reset.bay.rd (F.AXS_I_CONT a) = (if a < 4 then 25000 else 8000) ∧ State.reset.bay.rd (F.AXS_I_PEAK a) = (if a < 4 then 60000 else 20000)) ∧
  (∀ n : Nat, State.reset.bay.rd (F.SRC_CFG_EN n) = (if reservedSource n then 0 else 1)) ∧
  (State.reset.pending = [] ∧ State.reset.bay.log = [] ∧ State.reset.bay.shadows = [] ∧ State.reset.bay.now = 0)

/-- The base case of StepKeepsMemoriesCanonical. -/
def Obligations.ResetMemoriesCanonical : Prop :=
  (memoriesCanonical State.reset)

/-- The memories are lists of bytes and of words in error, addresses strictly rising, no listed byte 0 (what an unlisted byte reads as is log entry 33). -/
def Obligations.StepKeepsMemoriesCanonical : Prop := ∀ s : State,
  (∀ t : State, memoriesCanonical s → step s = .next t → memoriesCanonical t)

/-- No command stops the machine on any path; only a step takes a command from the queue, one at a time, and no command puts one there. -/
def Obligations.EveryCommandGoesOn : Prop := ∀ s : State,
  (∀ c : Instr, ∃ t, exec c s = .next t ∧ t.pending = s.pending) ∧
  (∀ (c : Instr) (q : List Instr), s.pending = c :: q → ∃ t, step s = .next t ∧ t.pending = q) ∧
  (queueWellFormed s → ∀ t : State, step s = .next t → queueWellFormed t)

/-- Every other command leaves every byte and every mark of the memories of both cartridges as it was. `touchesMemory` lists the rows that may change them. -/
def Obligations.MemoriesStandUnlessNamed : Prop := ∀ s : State,
  (∀ (c : Instr) (t : State), touchesMemory c = false → exec c s = .next t → t.mem = s.mem)

/-- `touches` gives, row by row, the groups and fields a command may write: those of its rules, of what follows from it, and the count of lost events. The command completes, every other register field stands, and bay time stands unless the command moves it (`movesTime`). -/
def Obligations.RegistersStandUnlessNamed : Prop := ∀ s : State,
  (∀ (c : Instr) (l : List Grp × List Key), touches c = some l →
    ∃ t, exec c s = .next t ∧ keepsFields s.bay t.bay l ∧ (movesTime c = false → t.bay.now = s.bay.now))
end

