-- ==== Sys2Proof/Laws/Store.lean ====
section
/-! SUPPORT. The two containers: what a read gives after a write, and the register file read through them. -/

namespace Sys2Proof.Machine

theorem Store.get_put (d : Int) (l : Store) (k k' : Key) (v : Int) :
    (l.put k v).get d k' = if k = k' then v else l.get d k' := by
  induction l with
  | nil => rfl
  | cons e r ih =>
    obtain ⟨k₁, v₁⟩ := e
    by_cases h : k₁ = k
    · subst h; by_cases h' : k₁ = k' <;> simp [Store.put, Store.get, h']
    · by_cases h' : k₁ = k'
      · subst h'; simp [Store.put, Store.get, h, Ne.symm h]
      · simp [Store.put, Store.get, h, h', ih]

theorem Tab.get_put {α : Type} (d : α) (l : Tab α) (n m : Nat) (x : α) :
    (l.put n x).get d m = if n = m then x else l.get d m := by
  induction l with
  | nil => rfl
  | cons e r ih =>
    obtain ⟨n₁, x₁⟩ := e
    by_cases h : n₁ = n
    · subst h; by_cases h' : n₁ = m <;> simp [Tab.put, Tab.get, h']
    · by_cases h' : n₁ = m
      · subst h'; simp [Tab.put, Tab.get, h, Ne.symm h]
      · simp [Tab.put, Tab.get, h, h', ih]

theorem Bay.rd_wr (b : Bay) (k k' : Key) (v : Int) :
    (b.wr k v).rd k' = if k = k' then v else b.rd k' := Store.get_put _ _ _ _ _

@[simp] theorem Bay.rd_wr_same (b : Bay) (k : Key) (v : Int) : (b.wr k v).rd k = v := by simp [Bay.rd_wr]

theorem Bay.rd_wr_ne (b : Bay) {k k' : Key} (v : Int) (h : k ≠ k') : (b.wr k v).rd k' = b.rd k' := by simp [Bay.rd_wr, h]

theorem Bay.rd_setFlag (b : Bay) (k k' : Key) (v : Bool) :
    (b.setFlag k v).rd k' = if k = k' then (if v then 1 else 0) else b.rd k' := Bay.rd_wr _ _ _ _

@[simp] theorem Bay.rd_setFlag_same (b : Bay) (k : Key) (v : Bool) : (b.setFlag k v).rd k = if v then 1 else 0 := Bay.rd_wr_same _ _ _

theorem Bay.rd_bump32 (b : Bay) (k k' : Key) :
    (b.bump32 k).rd k' = if k = k' then (b.rd k + 1) % 4294967296 else b.rd k' := Bay.rd_wr _ _ _ _

theorem Bay.rd_bumpSat (b : Bay) (k k' : Key) (n m : Int) :
    (b.bumpSat k n m).rd k' = if k = k' then min m (b.rd k + n) else b.rd k' := Bay.rd_wr _ _ _ _

/-! Another register. -/

@[simp] theorem Bay.rd_wr_of_ne (b : Bay) {k k' : Key} (v : Int) (h : ¬ k' = k) : (b.wr k v).rd k' = b.rd k' :=
  Bay.rd_wr_ne b v (fun e => h e.symm)

@[simp] theorem Bay.rd_setFlag_of_ne (b : Bay) {k k' : Key} (v : Bool) (h : ¬ k' = k) : (b.setFlag k v).rd k' = b.rd k' :=
  Bay.rd_wr_of_ne b _ h

@[simp] theorem Bay.rd_bump32_of_ne (b : Bay) {k k' : Key} (h : ¬ k' = k) : (b.bump32 k).rd k' = b.rd k' := Bay.rd_wr_of_ne b _ h

@[simp] theorem Bay.rd_bumpSat_of_ne (b : Bay) {k k' : Key} (n m : Int) (h : ¬ k' = k) : (b.bumpSat k n m).rd k' = b.rd k' :=
  Bay.rd_wr_of_ne b _ h

/-! A register of another group. -/

@[simp] theorem Bay.rd_wr_grp (b : Bay) {k k' : Key} (v : Int) (h : ¬ k'.grp = k.grp) : (b.wr k v).rd k' = b.rd k' :=
  Bay.rd_wr_ne b v (fun e => h (e ▸ rfl))

@[simp] theorem Bay.rd_setFlag_grp (b : Bay) {k k' : Key} (v : Bool) (h : ¬ k'.grp = k.grp) : (b.setFlag k v).rd k' = b.rd k' :=
  Bay.rd_wr_grp _ _ h

@[simp] theorem Bay.rd_bump32_grp (b : Bay) {k k' : Key} (h : ¬ k'.grp = k.grp) : (b.bump32 k).rd k' = b.rd k' := Bay.rd_wr_grp _ _ h

@[simp] theorem Bay.rd_bumpSat_grp (b : Bay) {k k' : Key} (n m : Int) (h : ¬ k'.grp = k.grp) : (b.bumpSat k n m).rd k' = b.rd k' :=
  Bay.rd_wr_grp _ _ h

/-! A register of another field of the tables. -/

@[simp] theorem Key.loc_mk (g : Grp) (i o l : Nat) : (Key.mk g i o l).loc = (g, o, l) := rfl

@[simp] theorem Key.loc_ne_of_grp {k : Key} {g : Grp} (o l : Nat) (h : ¬ k.grp = g) : (k.loc = (g, o, l)) = False :=
  eq_false (fun e => h (congrArg Prod.fst e))

@[simp] theorem Bay.rd_wr_loc (b : Bay) {k k' : Key} (v : Int) (h : ¬ k'.loc = k.loc) : (b.wr k v).rd k' = b.rd k' :=
  Bay.rd_wr_ne b v (fun e => h (e ▸ rfl))

@[simp] theorem Bay.rd_setFlag_loc (b : Bay) {k k' : Key} (v : Bool) (h : ¬ k'.loc = k.loc) : (b.setFlag k v).rd k' = b.rd k' :=
  Bay.rd_wr_loc _ _ h

@[simp] theorem Bay.rd_bump32_loc (b : Bay) {k k' : Key} (h : ¬ k'.loc = k.loc) : (b.bump32 k).rd k' = b.rd k' := Bay.rd_wr_loc _ _ h

@[simp] theorem Bay.rd_bumpSat_loc (b : Bay) {k k' : Key} (n m : Int) (h : ¬ k'.loc = k.loc) : (b.bumpSat k n m).rd k' = b.rd k' :=
  Bay.rd_wr_loc _ _ h

/-! The bits that software clears by writing 1 (R14). -/

@[simp] theorem Bay.rd_setSticky_same (b : Bay) (k : Key) : (b.setSticky k).rd k = 1 := Bay.rd_wr_same b k 1

@[simp] theorem Bay.rd_setSticky_of_ne (b : Bay) {k k' : Key} (h : ¬ k' = k) : (b.setSticky k).rd k' = b.rd k' := Bay.rd_wr_of_ne b _ h

@[simp] theorem Bay.rd_setSticky_grp (b : Bay) {k k' : Key} (h : ¬ k'.grp = k.grp) : (b.setSticky k).rd k' = b.rd k' := Bay.rd_wr_grp b _ h

@[simp] theorem Bay.rd_setSticky_loc (b : Bay) {k k' : Key} (h : ¬ k'.loc = k.loc) : (b.setSticky k).rd k' = b.rd k' := Bay.rd_wr_loc b _ h

@[simp] theorem Bay.rd_clearSticky_of_ne (b : Bay) {k k' : Key} (h : ¬ k' = k) : (b.clearSticky k).rd k' = b.rd k' := by
  unfold Bay.clearSticky; split
  · rfl
  · exact Bay.rd_wr_of_ne b _ h

@[simp] theorem Bay.rd_clearSticky_grp (b : Bay) {k k' : Key} (h : ¬ k'.grp = k.grp) : (b.clearSticky k).rd k' = b.rd k' :=
  Bay.rd_clearSticky_of_ne b (fun e => h (e ▸ rfl))

@[simp] theorem Bay.rd_clearSticky_loc (b : Bay) {k k' : Key} (h : ¬ k'.loc = k.loc) : (b.clearSticky k).rd k' = b.rd k' :=
  Bay.rd_clearSticky_of_ne b (fun e => h (e ▸ rfl))

end Sys2Proof.Machine
end

