-- ==== Sys2Proof/Laws/State.lean ====
section
/-! SUPPORT. What each update of the bay leaves alone: one lemma per field and update. A register write changes the register file alone; replacing a member of a unit changes that unit's table alone. -/

namespace Sys2Proof.Machine

section
variable (b : Bay)

/-! Register writes. -/

@[simp] theorem Bay.wr_now (k : Key) (v : Int) : (b.wr k v).now = b.now := rfl
@[simp] theorem Bay.wr_shadows (k : Key) (v : Int) : (b.wr k v).shadows = b.shadows := rfl
@[simp] theorem Bay.wr_hiLatch (k : Key) (v : Int) : (b.wr k v).hiLatch = b.hiLatch := rfl
@[simp] theorem Bay.wr_setT (k : Key) (v : Int) : (b.wr k v).setT = b.setT := rfl
@[simp] theorem Bay.wr_edge (k : Key) (v : Int) : (b.wr k v).edge = b.edge := rfl
@[simp] theorem Bay.wr_log (k : Key) (v : Int) : (b.wr k v).log = b.log := rfl
@[simp] theorem Bay.wr_episode (k : Key) (v : Int) : (b.wr k v).episode = b.episode := rfl
@[simp] theorem Bay.wr_evBits (k : Key) (v : Int) : (b.wr k v).evBits = b.evBits := rfl
@[simp] theorem Bay.wr_stage (k : Key) (v : Int) : (b.wr k v).stage = b.stage := rfl
@[simp] theorem Bay.wr_driver (k : Key) (v : Int) : (b.wr k v).driver = b.driver := rfl
@[simp] theorem Bay.wr_fram (k : Key) (v : Int) : (b.wr k v).fram = b.fram := rfl
@[simp] theorem Bay.wr_border (k : Key) (v : Int) : (b.wr k v).border = b.border := rfl
@[simp] theorem Bay.wr_chan (k : Key) (v : Int) : (b.wr k v).chan = b.chan := rfl
@[simp] theorem Bay.wr_means (k : Key) (v : Int) : (b.wr k v).means = b.means := rfl
@[simp] theorem Bay.wr_ring (k : Key) (v : Int) : (b.wr k v).ring = b.ring := rfl
@[simp] theorem Bay.wr_cellT (k : Key) (v : Int) : (b.wr k v).cellT = b.cellT := rfl
@[simp] theorem Bay.wr_slotv (k : Key) (v : Int) : (b.wr k v).slotv = b.slotv := rfl
@[simp] theorem Bay.wr_measCh (k : Key) (v : Int) : (b.wr k v).measCh = b.measCh := rfl
@[simp] theorem Bay.wr_measSt (k : Key) (v : Int) : (b.wr k v).measSt = b.measSt := rfl
@[simp] theorem Bay.wr_eng (k : Key) (v : Int) : (b.wr k v).eng = b.eng := rfl
@[simp] theorem Bay.wr_images (k : Key) (v : Int) : (b.wr k v).images = b.images := rfl
@[simp] theorem Bay.wr_verMax (k : Key) (v : Int) : (b.wr k v).verMax = b.verMax := rfl
@[simp] theorem Bay.wr_revoked (k : Key) (v : Int) : (b.wr k v).revoked = b.revoked := rfl
@[simp] theorem Bay.wr_groups (k : Key) (v : Int) : (b.wr k v).groups = b.groups := rfl
@[simp] theorem Bay.wr_sweep (k : Key) (v : Int) : (b.wr k v).sweep = b.sweep := rfl
@[simp] theorem Bay.wr_loopCh (k : Key) (v : Int) : (b.wr k v).loopCh = b.loopCh := rfl
@[simp] theorem Bay.wr_loopAx (k : Key) (v : Int) : (b.wr k v).loopAx = b.loopAx := rfl
@[simp] theorem Bay.wr_trace (k : Key) (v : Int) : (b.wr k v).trace = b.trace := rfl
@[simp] theorem Bay.wr_grade (k : Key) (v : Int) : (b.wr k v).grade = b.grade := rfl
@[simp] theorem Bay.wr_modeSt (k : Key) (v : Int) : (b.wr k v).modeSt = b.modeSt := rfl
@[simp] theorem Bay.wr_plant (k : Key) (v : Int) : (b.wr k v).plant = b.plant := rfl
@[simp] theorem Bay.wr_wale (k : Key) (v : Int) : (b.wr k v).wale = b.wale := rfl
@[simp] theorem Bay.wr_axis (k : Key) (v : Int) : (b.wr k v).axis = b.axis := rfl
@[simp] theorem Bay.wr_axRec (k : Key) (v : Int) : (b.wr k v).axRec = b.axRec := rfl
@[simp] theorem Bay.wr_enc (k : Key) (v : Int) : (b.wr k v).enc = b.enc := rfl
@[simp] theorem Bay.wr_thermCh (k : Key) (v : Int) : (b.wr k v).thermCh = b.thermCh := rfl
@[simp] theorem Bay.wr_therm (k : Key) (v : Int) : (b.wr k v).therm = b.therm := rfl
@[simp] theorem Bay.wr_safe (k : Key) (v : Int) : (b.wr k v).safe = b.safe := rfl
@[simp] theorem Bay.wr_red (k : Key) (v : Int) : (b.wr k v).red = b.red := rfl
@[simp] theorem Bay.wr_memHid (k : Key) (v : Int) : (b.wr k v).memHid = b.memHid := rfl
@[simp] theorem Bay.wr_trust (k : Key) (v : Int) : (b.wr k v).trust = b.trust := rfl
@[simp] theorem Bay.wr_weave (k : Key) (v : Int) : (b.wr k v).weave = b.weave := rfl
@[simp] theorem Bay.wr_can (k : Key) (v : Int) : (b.wr k v).can = b.can := rfl
@[simp] theorem Bay.wr_latch (k : Key) (v : Int) : (b.wr k v).latch = b.latch := rfl
@[simp] theorem Bay.wr_shortReq (k : Key) (v : Int) : (b.wr k v).shortReq = b.shortReq := rfl
@[simp] theorem Bay.wr_out (k : Key) (v : Int) : (b.wr k v).out = b.out := rfl
@[simp] theorem Bay.wr_fresh (k : Key) (v : Int) : (b.wr k v).fresh = b.fresh := rfl

@[simp] theorem Bay.setFlag_now (k : Key) (v : Bool) : (b.setFlag k v).now = b.now := rfl
@[simp] theorem Bay.setFlag_shadows (k : Key) (v : Bool) : (b.setFlag k v).shadows = b.shadows := rfl
@[simp] theorem Bay.setFlag_hiLatch (k : Key) (v : Bool) : (b.setFlag k v).hiLatch = b.hiLatch := rfl
@[simp] theorem Bay.setFlag_setT (k : Key) (v : Bool) : (b.setFlag k v).setT = b.setT := rfl
@[simp] theorem Bay.setFlag_edge (k : Key) (v : Bool) : (b.setFlag k v).edge = b.edge := rfl
@[simp] theorem Bay.setFlag_log (k : Key) (v : Bool) : (b.setFlag k v).log = b.log := rfl
@[simp] theorem Bay.setFlag_episode (k : Key) (v : Bool) : (b.setFlag k v).episode = b.episode := rfl
@[simp] theorem Bay.setFlag_evBits (k : Key) (v : Bool) : (b.setFlag k v).evBits = b.evBits := rfl
@[simp] theorem Bay.setFlag_stage (k : Key) (v : Bool) : (b.setFlag k v).stage = b.stage := rfl
@[simp] theorem Bay.setFlag_driver (k : Key) (v : Bool) : (b.setFlag k v).driver = b.driver := rfl
@[simp] theorem Bay.setFlag_fram (k : Key) (v : Bool) : (b.setFlag k v).fram = b.fram := rfl
@[simp] theorem Bay.setFlag_border (k : Key) (v : Bool) : (b.setFlag k v).border = b.border := rfl
@[simp] theorem Bay.setFlag_chan (k : Key) (v : Bool) : (b.setFlag k v).chan = b.chan := rfl
@[simp] theorem Bay.setFlag_means (k : Key) (v : Bool) : (b.setFlag k v).means = b.means := rfl
@[simp] theorem Bay.setFlag_ring (k : Key) (v : Bool) : (b.setFlag k v).ring = b.ring := rfl
@[simp] theorem Bay.setFlag_cellT (k : Key) (v : Bool) : (b.setFlag k v).cellT = b.cellT := rfl
@[simp] theorem Bay.setFlag_slotv (k : Key) (v : Bool) : (b.setFlag k v).slotv = b.slotv := rfl
@[simp] theorem Bay.setFlag_measCh (k : Key) (v : Bool) : (b.setFlag k v).measCh = b.measCh := rfl
@[simp] theorem Bay.setFlag_measSt (k : Key) (v : Bool) : (b.setFlag k v).measSt = b.measSt := rfl
@[simp] theorem Bay.setFlag_eng (k : Key) (v : Bool) : (b.setFlag k v).eng = b.eng := rfl
@[simp] theorem Bay.setFlag_images (k : Key) (v : Bool) : (b.setFlag k v).images = b.images := rfl
@[simp] theorem Bay.setFlag_verMax (k : Key) (v : Bool) : (b.setFlag k v).verMax = b.verMax := rfl
@[simp] theorem Bay.setFlag_revoked (k : Key) (v : Bool) : (b.setFlag k v).revoked = b.revoked := rfl
@[simp] theorem Bay.setFlag_groups (k : Key) (v : Bool) : (b.setFlag k v).groups = b.groups := rfl
@[simp] theorem Bay.setFlag_sweep (k : Key) (v : Bool) : (b.setFlag k v).sweep = b.sweep := rfl
@[simp] theorem Bay.setFlag_loopCh (k : Key) (v : Bool) : (b.setFlag k v).loopCh = b.loopCh := rfl
@[simp] theorem Bay.setFlag_loopAx (k : Key) (v : Bool) : (b.setFlag k v).loopAx = b.loopAx := rfl
@[simp] theorem Bay.setFlag_trace (k : Key) (v : Bool) : (b.setFlag k v).trace = b.trace := rfl
@[simp] theorem Bay.setFlag_grade (k : Key) (v : Bool) : (b.setFlag k v).grade = b.grade := rfl
@[simp] theorem Bay.setFlag_modeSt (k : Key) (v : Bool) : (b.setFlag k v).modeSt = b.modeSt := rfl
@[simp] theorem Bay.setFlag_plant (k : Key) (v : Bool) : (b.setFlag k v).plant = b.plant := rfl
@[simp] theorem Bay.setFlag_wale (k : Key) (v : Bool) : (b.setFlag k v).wale = b.wale := rfl
@[simp] theorem Bay.setFlag_axis (k : Key) (v : Bool) : (b.setFlag k v).axis = b.axis := rfl
@[simp] theorem Bay.setFlag_axRec (k : Key) (v : Bool) : (b.setFlag k v).axRec = b.axRec := rfl
@[simp] theorem Bay.setFlag_enc (k : Key) (v : Bool) : (b.setFlag k v).enc = b.enc := rfl
@[simp] theorem Bay.setFlag_thermCh (k : Key) (v : Bool) : (b.setFlag k v).thermCh = b.thermCh := rfl
@[simp] theorem Bay.setFlag_therm (k : Key) (v : Bool) : (b.setFlag k v).therm = b.therm := rfl
@[simp] theorem Bay.setFlag_safe (k : Key) (v : Bool) : (b.setFlag k v).safe = b.safe := rfl
@[simp] theorem Bay.setFlag_red (k : Key) (v : Bool) : (b.setFlag k v).red = b.red := rfl
@[simp] theorem Bay.setFlag_memHid (k : Key) (v : Bool) : (b.setFlag k v).memHid = b.memHid := rfl
@[simp] theorem Bay.setFlag_trust (k : Key) (v : Bool) : (b.setFlag k v).trust = b.trust := rfl
@[simp] theorem Bay.setFlag_weave (k : Key) (v : Bool) : (b.setFlag k v).weave = b.weave := rfl
@[simp] theorem Bay.setFlag_can (k : Key) (v : Bool) : (b.setFlag k v).can = b.can := rfl
@[simp] theorem Bay.setFlag_latch (k : Key) (v : Bool) : (b.setFlag k v).latch = b.latch := rfl
@[simp] theorem Bay.setFlag_shortReq (k : Key) (v : Bool) : (b.setFlag k v).shortReq = b.shortReq := rfl
@[simp] theorem Bay.setFlag_out (k : Key) (v : Bool) : (b.setFlag k v).out = b.out := rfl
@[simp] theorem Bay.setFlag_fresh (k : Key) (v : Bool) : (b.setFlag k v).fresh = b.fresh := rfl

@[simp] theorem Bay.bump32_now (k : Key) : (b.bump32 k).now = b.now := rfl
@[simp] theorem Bay.bump32_shadows (k : Key) : (b.bump32 k).shadows = b.shadows := rfl
@[simp] theorem Bay.bump32_hiLatch (k : Key) : (b.bump32 k).hiLatch = b.hiLatch := rfl
@[simp] theorem Bay.bump32_setT (k : Key) : (b.bump32 k).setT = b.setT := rfl
@[simp] theorem Bay.bump32_edge (k : Key) : (b.bump32 k).edge = b.edge := rfl
@[simp] theorem Bay.bump32_log (k : Key) : (b.bump32 k).log = b.log := rfl
@[simp] theorem Bay.bump32_episode (k : Key) : (b.bump32 k).episode = b.episode := rfl
@[simp] theorem Bay.bump32_evBits (k : Key) : (b.bump32 k).evBits = b.evBits := rfl
@[simp] theorem Bay.bump32_stage (k : Key) : (b.bump32 k).stage = b.stage := rfl
@[simp] theorem Bay.bump32_driver (k : Key) : (b.bump32 k).driver = b.driver := rfl
@[simp] theorem Bay.bump32_fram (k : Key) : (b.bump32 k).fram = b.fram := rfl
@[simp] theorem Bay.bump32_border (k : Key) : (b.bump32 k).border = b.border := rfl
@[simp] theorem Bay.bump32_chan (k : Key) : (b.bump32 k).chan = b.chan := rfl
@[simp] theorem Bay.bump32_means (k : Key) : (b.bump32 k).means = b.means := rfl
@[simp] theorem Bay.bump32_ring (k : Key) : (b.bump32 k).ring = b.ring := rfl
@[simp] theorem Bay.bump32_cellT (k : Key) : (b.bump32 k).cellT = b.cellT := rfl
@[simp] theorem Bay.bump32_slotv (k : Key) : (b.bump32 k).slotv = b.slotv := rfl
@[simp] theorem Bay.bump32_measCh (k : Key) : (b.bump32 k).measCh = b.measCh := rfl
@[simp] theorem Bay.bump32_measSt (k : Key) : (b.bump32 k).measSt = b.measSt := rfl
@[simp] theorem Bay.bump32_eng (k : Key) : (b.bump32 k).eng = b.eng := rfl
@[simp] theorem Bay.bump32_images (k : Key) : (b.bump32 k).images = b.images := rfl
@[simp] theorem Bay.bump32_verMax (k : Key) : (b.bump32 k).verMax = b.verMax := rfl
@[simp] theorem Bay.bump32_revoked (k : Key) : (b.bump32 k).revoked = b.revoked := rfl
@[simp] theorem Bay.bump32_groups (k : Key) : (b.bump32 k).groups = b.groups := rfl
@[simp] theorem Bay.bump32_sweep (k : Key) : (b.bump32 k).sweep = b.sweep := rfl
@[simp] theorem Bay.bump32_loopCh (k : Key) : (b.bump32 k).loopCh = b.loopCh := rfl
@[simp] theorem Bay.bump32_loopAx (k : Key) : (b.bump32 k).loopAx = b.loopAx := rfl
@[simp] theorem Bay.bump32_trace (k : Key) : (b.bump32 k).trace = b.trace := rfl
@[simp] theorem Bay.bump32_grade (k : Key) : (b.bump32 k).grade = b.grade := rfl
@[simp] theorem Bay.bump32_modeSt (k : Key) : (b.bump32 k).modeSt = b.modeSt := rfl
@[simp] theorem Bay.bump32_plant (k : Key) : (b.bump32 k).plant = b.plant := rfl
@[simp] theorem Bay.bump32_wale (k : Key) : (b.bump32 k).wale = b.wale := rfl
@[simp] theorem Bay.bump32_axis (k : Key) : (b.bump32 k).axis = b.axis := rfl
@[simp] theorem Bay.bump32_axRec (k : Key) : (b.bump32 k).axRec = b.axRec := rfl
@[simp] theorem Bay.bump32_enc (k : Key) : (b.bump32 k).enc = b.enc := rfl
@[simp] theorem Bay.bump32_thermCh (k : Key) : (b.bump32 k).thermCh = b.thermCh := rfl
@[simp] theorem Bay.bump32_therm (k : Key) : (b.bump32 k).therm = b.therm := rfl
@[simp] theorem Bay.bump32_safe (k : Key) : (b.bump32 k).safe = b.safe := rfl
@[simp] theorem Bay.bump32_red (k : Key) : (b.bump32 k).red = b.red := rfl
@[simp] theorem Bay.bump32_memHid (k : Key) : (b.bump32 k).memHid = b.memHid := rfl
@[simp] theorem Bay.bump32_trust (k : Key) : (b.bump32 k).trust = b.trust := rfl
@[simp] theorem Bay.bump32_weave (k : Key) : (b.bump32 k).weave = b.weave := rfl
@[simp] theorem Bay.bump32_can (k : Key) : (b.bump32 k).can = b.can := rfl
@[simp] theorem Bay.bump32_latch (k : Key) : (b.bump32 k).latch = b.latch := rfl
@[simp] theorem Bay.bump32_shortReq (k : Key) : (b.bump32 k).shortReq = b.shortReq := rfl
@[simp] theorem Bay.bump32_out (k : Key) : (b.bump32 k).out = b.out := rfl
@[simp] theorem Bay.bump32_fresh (k : Key) : (b.bump32 k).fresh = b.fresh := rfl

@[simp] theorem Bay.bumpSat_now (k : Key) (n m : Int) : (b.bumpSat k n m).now = b.now := rfl
@[simp] theorem Bay.bumpSat_shadows (k : Key) (n m : Int) : (b.bumpSat k n m).shadows = b.shadows := rfl
@[simp] theorem Bay.bumpSat_hiLatch (k : Key) (n m : Int) : (b.bumpSat k n m).hiLatch = b.hiLatch := rfl
@[simp] theorem Bay.bumpSat_setT (k : Key) (n m : Int) : (b.bumpSat k n m).setT = b.setT := rfl
@[simp] theorem Bay.bumpSat_edge (k : Key) (n m : Int) : (b.bumpSat k n m).edge = b.edge := rfl
@[simp] theorem Bay.bumpSat_log (k : Key) (n m : Int) : (b.bumpSat k n m).log = b.log := rfl
@[simp] theorem Bay.bumpSat_episode (k : Key) (n m : Int) : (b.bumpSat k n m).episode = b.episode := rfl
@[simp] theorem Bay.bumpSat_evBits (k : Key) (n m : Int) : (b.bumpSat k n m).evBits = b.evBits := rfl
@[simp] theorem Bay.bumpSat_stage (k : Key) (n m : Int) : (b.bumpSat k n m).stage = b.stage := rfl
@[simp] theorem Bay.bumpSat_driver (k : Key) (n m : Int) : (b.bumpSat k n m).driver = b.driver := rfl
@[simp] theorem Bay.bumpSat_fram (k : Key) (n m : Int) : (b.bumpSat k n m).fram = b.fram := rfl
@[simp] theorem Bay.bumpSat_border (k : Key) (n m : Int) : (b.bumpSat k n m).border = b.border := rfl
@[simp] theorem Bay.bumpSat_chan (k : Key) (n m : Int) : (b.bumpSat k n m).chan = b.chan := rfl
@[simp] theorem Bay.bumpSat_means (k : Key) (n m : Int) : (b.bumpSat k n m).means = b.means := rfl
@[simp] theorem Bay.bumpSat_ring (k : Key) (n m : Int) : (b.bumpSat k n m).ring = b.ring := rfl
@[simp] theorem Bay.bumpSat_cellT (k : Key) (n m : Int) : (b.bumpSat k n m).cellT = b.cellT := rfl
@[simp] theorem Bay.bumpSat_slotv (k : Key) (n m : Int) : (b.bumpSat k n m).slotv = b.slotv := rfl
@[simp] theorem Bay.bumpSat_measCh (k : Key) (n m : Int) : (b.bumpSat k n m).measCh = b.measCh := rfl
@[simp] theorem Bay.bumpSat_measSt (k : Key) (n m : Int) : (b.bumpSat k n m).measSt = b.measSt := rfl
@[simp] theorem Bay.bumpSat_eng (k : Key) (n m : Int) : (b.bumpSat k n m).eng = b.eng := rfl
@[simp] theorem Bay.bumpSat_images (k : Key) (n m : Int) : (b.bumpSat k n m).images = b.images := rfl
@[simp] theorem Bay.bumpSat_verMax (k : Key) (n m : Int) : (b.bumpSat k n m).verMax = b.verMax := rfl
@[simp] theorem Bay.bumpSat_revoked (k : Key) (n m : Int) : (b.bumpSat k n m).revoked = b.revoked := rfl
@[simp] theorem Bay.bumpSat_groups (k : Key) (n m : Int) : (b.bumpSat k n m).groups = b.groups := rfl
@[simp] theorem Bay.bumpSat_sweep (k : Key) (n m : Int) : (b.bumpSat k n m).sweep = b.sweep := rfl
@[simp] theorem Bay.bumpSat_loopCh (k : Key) (n m : Int) : (b.bumpSat k n m).loopCh = b.loopCh := rfl
@[simp] theorem Bay.bumpSat_loopAx (k : Key) (n m : Int) : (b.bumpSat k n m).loopAx = b.loopAx := rfl
@[simp] theorem Bay.bumpSat_trace (k : Key) (n m : Int) : (b.bumpSat k n m).trace = b.trace := rfl
@[simp] theorem Bay.bumpSat_grade (k : Key) (n m : Int) : (b.bumpSat k n m).grade = b.grade := rfl
@[simp] theorem Bay.bumpSat_modeSt (k : Key) (n m : Int) : (b.bumpSat k n m).modeSt = b.modeSt := rfl
@[simp] theorem Bay.bumpSat_plant (k : Key) (n m : Int) : (b.bumpSat k n m).plant = b.plant := rfl
@[simp] theorem Bay.bumpSat_wale (k : Key) (n m : Int) : (b.bumpSat k n m).wale = b.wale := rfl
@[simp] theorem Bay.bumpSat_axis (k : Key) (n m : Int) : (b.bumpSat k n m).axis = b.axis := rfl
@[simp] theorem Bay.bumpSat_axRec (k : Key) (n m : Int) : (b.bumpSat k n m).axRec = b.axRec := rfl
@[simp] theorem Bay.bumpSat_enc (k : Key) (n m : Int) : (b.bumpSat k n m).enc = b.enc := rfl
@[simp] theorem Bay.bumpSat_thermCh (k : Key) (n m : Int) : (b.bumpSat k n m).thermCh = b.thermCh := rfl
@[simp] theorem Bay.bumpSat_therm (k : Key) (n m : Int) : (b.bumpSat k n m).therm = b.therm := rfl
@[simp] theorem Bay.bumpSat_safe (k : Key) (n m : Int) : (b.bumpSat k n m).safe = b.safe := rfl
@[simp] theorem Bay.bumpSat_red (k : Key) (n m : Int) : (b.bumpSat k n m).red = b.red := rfl
@[simp] theorem Bay.bumpSat_memHid (k : Key) (n m : Int) : (b.bumpSat k n m).memHid = b.memHid := rfl
@[simp] theorem Bay.bumpSat_trust (k : Key) (n m : Int) : (b.bumpSat k n m).trust = b.trust := rfl
@[simp] theorem Bay.bumpSat_weave (k : Key) (n m : Int) : (b.bumpSat k n m).weave = b.weave := rfl
@[simp] theorem Bay.bumpSat_can (k : Key) (n m : Int) : (b.bumpSat k n m).can = b.can := rfl
@[simp] theorem Bay.bumpSat_latch (k : Key) (n m : Int) : (b.bumpSat k n m).latch = b.latch := rfl
@[simp] theorem Bay.bumpSat_shortReq (k : Key) (n m : Int) : (b.bumpSat k n m).shortReq = b.shortReq := rfl
@[simp] theorem Bay.bumpSat_out (k : Key) (n m : Int) : (b.bumpSat k n m).out = b.out := rfl
@[simp] theorem Bay.bumpSat_fresh (k : Key) (n m : Int) : (b.bumpSat k n m).fresh = b.fresh := rfl

@[simp] theorem Bay.setSticky_now (k : Key) : (b.setSticky k).now = b.now := rfl
@[simp] theorem Bay.setSticky_shadows (k : Key) : (b.setSticky k).shadows = b.shadows := rfl
@[simp] theorem Bay.setSticky_hiLatch (k : Key) : (b.setSticky k).hiLatch = b.hiLatch := rfl
@[simp] theorem Bay.setSticky_edge (k : Key) : (b.setSticky k).edge = b.edge := rfl
@[simp] theorem Bay.setSticky_log (k : Key) : (b.setSticky k).log = b.log := rfl
@[simp] theorem Bay.setSticky_episode (k : Key) : (b.setSticky k).episode = b.episode := rfl
@[simp] theorem Bay.setSticky_evBits (k : Key) : (b.setSticky k).evBits = b.evBits := rfl
@[simp] theorem Bay.setSticky_stage (k : Key) : (b.setSticky k).stage = b.stage := rfl
@[simp] theorem Bay.setSticky_driver (k : Key) : (b.setSticky k).driver = b.driver := rfl
@[simp] theorem Bay.setSticky_fram (k : Key) : (b.setSticky k).fram = b.fram := rfl
@[simp] theorem Bay.setSticky_border (k : Key) : (b.setSticky k).border = b.border := rfl
@[simp] theorem Bay.setSticky_chan (k : Key) : (b.setSticky k).chan = b.chan := rfl
@[simp] theorem Bay.setSticky_means (k : Key) : (b.setSticky k).means = b.means := rfl
@[simp] theorem Bay.setSticky_ring (k : Key) : (b.setSticky k).ring = b.ring := rfl
@[simp] theorem Bay.setSticky_cellT (k : Key) : (b.setSticky k).cellT = b.cellT := rfl
@[simp] theorem Bay.setSticky_slotv (k : Key) : (b.setSticky k).slotv = b.slotv := rfl
@[simp] theorem Bay.setSticky_measCh (k : Key) : (b.setSticky k).measCh = b.measCh := rfl
@[simp] theorem Bay.setSticky_measSt (k : Key) : (b.setSticky k).measSt = b.measSt := rfl
@[simp] theorem Bay.setSticky_eng (k : Key) : (b.setSticky k).eng = b.eng := rfl
@[simp] theorem Bay.setSticky_images (k : Key) : (b.setSticky k).images = b.images := rfl
@[simp] theorem Bay.setSticky_verMax (k : Key) : (b.setSticky k).verMax = b.verMax := rfl
@[simp] theorem Bay.setSticky_revoked (k : Key) : (b.setSticky k).revoked = b.revoked := rfl
@[simp] theorem Bay.setSticky_groups (k : Key) : (b.setSticky k).groups = b.groups := rfl
@[simp] theorem Bay.setSticky_sweep (k : Key) : (b.setSticky k).sweep = b.sweep := rfl
@[simp] theorem Bay.setSticky_loopCh (k : Key) : (b.setSticky k).loopCh = b.loopCh := rfl
@[simp] theorem Bay.setSticky_loopAx (k : Key) : (b.setSticky k).loopAx = b.loopAx := rfl
@[simp] theorem Bay.setSticky_trace (k : Key) : (b.setSticky k).trace = b.trace := rfl
@[simp] theorem Bay.setSticky_grade (k : Key) : (b.setSticky k).grade = b.grade := rfl
@[simp] theorem Bay.setSticky_modeSt (k : Key) : (b.setSticky k).modeSt = b.modeSt := rfl
@[simp] theorem Bay.setSticky_plant (k : Key) : (b.setSticky k).plant = b.plant := rfl
@[simp] theorem Bay.setSticky_wale (k : Key) : (b.setSticky k).wale = b.wale := rfl
@[simp] theorem Bay.setSticky_axis (k : Key) : (b.setSticky k).axis = b.axis := rfl
@[simp] theorem Bay.setSticky_axRec (k : Key) : (b.setSticky k).axRec = b.axRec := rfl
@[simp] theorem Bay.setSticky_enc (k : Key) : (b.setSticky k).enc = b.enc := rfl
@[simp] theorem Bay.setSticky_thermCh (k : Key) : (b.setSticky k).thermCh = b.thermCh := rfl
@[simp] theorem Bay.setSticky_therm (k : Key) : (b.setSticky k).therm = b.therm := rfl
@[simp] theorem Bay.setSticky_safe (k : Key) : (b.setSticky k).safe = b.safe := rfl
@[simp] theorem Bay.setSticky_red (k : Key) : (b.setSticky k).red = b.red := rfl
@[simp] theorem Bay.setSticky_memHid (k : Key) : (b.setSticky k).memHid = b.memHid := rfl
@[simp] theorem Bay.setSticky_trust (k : Key) : (b.setSticky k).trust = b.trust := rfl
@[simp] theorem Bay.setSticky_weave (k : Key) : (b.setSticky k).weave = b.weave := rfl
@[simp] theorem Bay.setSticky_can (k : Key) : (b.setSticky k).can = b.can := rfl
@[simp] theorem Bay.setSticky_latch (k : Key) : (b.setSticky k).latch = b.latch := rfl
@[simp] theorem Bay.setSticky_shortReq (k : Key) : (b.setSticky k).shortReq = b.shortReq := rfl
@[simp] theorem Bay.setSticky_out (k : Key) : (b.setSticky k).out = b.out := rfl
@[simp] theorem Bay.setSticky_fresh (k : Key) : (b.setSticky k).fresh = b.fresh := rfl

@[simp] theorem Bay.clearSticky_now (k : Key) : (b.clearSticky k).now = b.now := by unfold Bay.clearSticky; split <;> rfl
@[simp] theorem Bay.clearSticky_shadows (k : Key) : (b.clearSticky k).shadows = b.shadows := by unfold Bay.clearSticky; split <;> rfl
@[simp] theorem Bay.clearSticky_hiLatch (k : Key) : (b.clearSticky k).hiLatch = b.hiLatch := by unfold Bay.clearSticky; split <;> rfl
@[simp] theorem Bay.clearSticky_setT (k : Key) : (b.clearSticky k).setT = b.setT := by unfold Bay.clearSticky; split <;> rfl
@[simp] theorem Bay.clearSticky_edge (k : Key) : (b.clearSticky k).edge = b.edge := by unfold Bay.clearSticky; split <;> rfl
@[simp] theorem Bay.clearSticky_log (k : Key) : (b.clearSticky k).log = b.log := by unfold Bay.clearSticky; split <;> rfl
@[simp] theorem Bay.clearSticky_episode (k : Key) : (b.clearSticky k).episode = b.episode := by unfold Bay.clearSticky; split <;> rfl
@[simp] theorem Bay.clearSticky_evBits (k : Key) : (b.clearSticky k).evBits = b.evBits := by unfold Bay.clearSticky; split <;> rfl
@[simp] theorem Bay.clearSticky_stage (k : Key) : (b.clearSticky k).stage = b.stage := by unfold Bay.clearSticky; split <;> rfl
@[simp] theorem Bay.clearSticky_driver (k : Key) : (b.clearSticky k).driver = b.driver := by unfold Bay.clearSticky; split <;> rfl
@[simp] theorem Bay.clearSticky_fram (k : Key) : (b.clearSticky k).fram = b.fram := by unfold Bay.clearSticky; split <;> rfl
@[simp] theorem Bay.clearSticky_border (k : Key) : (b.clearSticky k).border = b.border := by unfold Bay.clearSticky; split <;> rfl
@[simp] theorem Bay.clearSticky_chan (k : Key) : (b.clearSticky k).chan = b.chan := by unfold Bay.clearSticky; split <;> rfl
@[simp] theorem Bay.clearSticky_means (k : Key) : (b.clearSticky k).means = b.means := by unfold Bay.clearSticky; split <;> rfl
@[simp] theorem Bay.clearSticky_ring (k : Key) : (b.clearSticky k).ring = b.ring := by unfold Bay.clearSticky; split <;> rfl
@[simp] theorem Bay.clearSticky_cellT (k : Key) : (b.clearSticky k).cellT = b.cellT := by unfold Bay.clearSticky; split <;> rfl
@[simp] theorem Bay.clearSticky_slotv (k : Key) : (b.clearSticky k).slotv = b.slotv := by unfold Bay.clearSticky; split <;> rfl
@[simp] theorem Bay.clearSticky_measCh (k : Key) : (b.clearSticky k).measCh = b.measCh := by unfold Bay.clearSticky; split <;> rfl
@[simp] theorem Bay.clearSticky_measSt (k : Key) : (b.clearSticky k).measSt = b.measSt := by unfold Bay.clearSticky; split <;> rfl
@[simp] theorem Bay.clearSticky_eng (k : Key) : (b.clearSticky k).eng = b.eng := by unfold Bay.clearSticky; split <;> rfl
@[simp] theorem Bay.clearSticky_images (k : Key) : (b.clearSticky k).images = b.images := by unfold Bay.clearSticky; split <;> rfl
@[simp] theorem Bay.clearSticky_verMax (k : Key) : (b.clearSticky k).verMax = b.verMax := by unfold Bay.clearSticky; split <;> rfl
@[simp] theorem Bay.clearSticky_revoked (k : Key) : (b.clearSticky k).revoked = b.revoked := by unfold Bay.clearSticky; split <;> rfl
@[simp] theorem Bay.clearSticky_groups (k : Key) : (b.clearSticky k).groups = b.groups := by unfold Bay.clearSticky; split <;> rfl
@[simp] theorem Bay.clearSticky_sweep (k : Key) : (b.clearSticky k).sweep = b.sweep := by unfold Bay.clearSticky; split <;> rfl
@[simp] theorem Bay.clearSticky_loopCh (k : Key) : (b.clearSticky k).loopCh = b.loopCh := by unfold Bay.clearSticky; split <;> rfl
@[simp] theorem Bay.clearSticky_loopAx (k : Key) : (b.clearSticky k).loopAx = b.loopAx := by unfold Bay.clearSticky; split <;> rfl
@[simp] theorem Bay.clearSticky_trace (k : Key) : (b.clearSticky k).trace = b.trace := by unfold Bay.clearSticky; split <;> rfl
@[simp] theorem Bay.clearSticky_grade (k : Key) : (b.clearSticky k).grade = b.grade := by unfold Bay.clearSticky; split <;> rfl
@[simp] theorem Bay.clearSticky_modeSt (k : Key) : (b.clearSticky k).modeSt = b.modeSt := by unfold Bay.clearSticky; split <;> rfl
@[simp] theorem Bay.clearSticky_plant (k : Key) : (b.clearSticky k).plant = b.plant := by unfold Bay.clearSticky; split <;> rfl
@[simp] theorem Bay.clearSticky_wale (k : Key) : (b.clearSticky k).wale = b.wale := by unfold Bay.clearSticky; split <;> rfl
@[simp] theorem Bay.clearSticky_axis (k : Key) : (b.clearSticky k).axis = b.axis := by unfold Bay.clearSticky; split <;> rfl
@[simp] theorem Bay.clearSticky_axRec (k : Key) : (b.clearSticky k).axRec = b.axRec := by unfold Bay.clearSticky; split <;> rfl
@[simp] theorem Bay.clearSticky_enc (k : Key) : (b.clearSticky k).enc = b.enc := by unfold Bay.clearSticky; split <;> rfl
@[simp] theorem Bay.clearSticky_thermCh (k : Key) : (b.clearSticky k).thermCh = b.thermCh := by unfold Bay.clearSticky; split <;> rfl
@[simp] theorem Bay.clearSticky_therm (k : Key) : (b.clearSticky k).therm = b.therm := by unfold Bay.clearSticky; split <;> rfl
@[simp] theorem Bay.clearSticky_safe (k : Key) : (b.clearSticky k).safe = b.safe := by unfold Bay.clearSticky; split <;> rfl
@[simp] theorem Bay.clearSticky_red (k : Key) : (b.clearSticky k).red = b.red := by unfold Bay.clearSticky; split <;> rfl
@[simp] theorem Bay.clearSticky_memHid (k : Key) : (b.clearSticky k).memHid = b.memHid := by unfold Bay.clearSticky; split <;> rfl
@[simp] theorem Bay.clearSticky_trust (k : Key) : (b.clearSticky k).trust = b.trust := by unfold Bay.clearSticky; split <;> rfl
@[simp] theorem Bay.clearSticky_weave (k : Key) : (b.clearSticky k).weave = b.weave := by unfold Bay.clearSticky; split <;> rfl
@[simp] theorem Bay.clearSticky_can (k : Key) : (b.clearSticky k).can = b.can := by unfold Bay.clearSticky; split <;> rfl
@[simp] theorem Bay.clearSticky_latch (k : Key) : (b.clearSticky k).latch = b.latch := by unfold Bay.clearSticky; split <;> rfl
@[simp] theorem Bay.clearSticky_shortReq (k : Key) : (b.clearSticky k).shortReq = b.shortReq := by unfold Bay.clearSticky; split <;> rfl
@[simp] theorem Bay.clearSticky_out (k : Key) : (b.clearSticky k).out = b.out := by unfold Bay.clearSticky; split <;> rfl
@[simp] theorem Bay.clearSticky_fresh (k : Key) : (b.clearSticky k).fresh = b.fresh := by unfold Bay.clearSticky; split <;> rfl

/-! Members of units and whole units. -/

@[simp] theorem Bay.setStage_regs (n : Nat) (x : Stage) : (b.setStage n x).regs = b.regs := rfl
@[simp] theorem Bay.setStage_now (n : Nat) (x : Stage) : (b.setStage n x).now = b.now := rfl
@[simp] theorem Bay.setStage_shadows (n : Nat) (x : Stage) : (b.setStage n x).shadows = b.shadows := rfl
@[simp] theorem Bay.setStage_hiLatch (n : Nat) (x : Stage) : (b.setStage n x).hiLatch = b.hiLatch := rfl
@[simp] theorem Bay.setStage_setT (n : Nat) (x : Stage) : (b.setStage n x).setT = b.setT := rfl
@[simp] theorem Bay.setStage_edge (n : Nat) (x : Stage) : (b.setStage n x).edge = b.edge := rfl
@[simp] theorem Bay.setStage_log (n : Nat) (x : Stage) : (b.setStage n x).log = b.log := rfl
@[simp] theorem Bay.setStage_episode (n : Nat) (x : Stage) : (b.setStage n x).episode = b.episode := rfl
@[simp] theorem Bay.setStage_evBits (n : Nat) (x : Stage) : (b.setStage n x).evBits = b.evBits := rfl
@[simp] theorem Bay.setStage_driver (n : Nat) (x : Stage) : (b.setStage n x).driver = b.driver := rfl
@[simp] theorem Bay.setStage_fram (n : Nat) (x : Stage) : (b.setStage n x).fram = b.fram := rfl
@[simp] theorem Bay.setStage_border (n : Nat) (x : Stage) : (b.setStage n x).border = b.border := rfl
@[simp] theorem Bay.setStage_chan (n : Nat) (x : Stage) : (b.setStage n x).chan = b.chan := rfl
@[simp] theorem Bay.setStage_means (n : Nat) (x : Stage) : (b.setStage n x).means = b.means := rfl
@[simp] theorem Bay.setStage_ring (n : Nat) (x : Stage) : (b.setStage n x).ring = b.ring := rfl
@[simp] theorem Bay.setStage_cellT (n : Nat) (x : Stage) : (b.setStage n x).cellT = b.cellT := rfl
@[simp] theorem Bay.setStage_slotv (n : Nat) (x : Stage) : (b.setStage n x).slotv = b.slotv := rfl
@[simp] theorem Bay.setStage_measCh (n : Nat) (x : Stage) : (b.setStage n x).measCh = b.measCh := rfl
@[simp] theorem Bay.setStage_measSt (n : Nat) (x : Stage) : (b.setStage n x).measSt = b.measSt := rfl
@[simp] theorem Bay.setStage_eng (n : Nat) (x : Stage) : (b.setStage n x).eng = b.eng := rfl
@[simp] theorem Bay.setStage_images (n : Nat) (x : Stage) : (b.setStage n x).images = b.images := rfl
@[simp] theorem Bay.setStage_verMax (n : Nat) (x : Stage) : (b.setStage n x).verMax = b.verMax := rfl
@[simp] theorem Bay.setStage_revoked (n : Nat) (x : Stage) : (b.setStage n x).revoked = b.revoked := rfl
@[simp] theorem Bay.setStage_groups (n : Nat) (x : Stage) : (b.setStage n x).groups = b.groups := rfl
@[simp] theorem Bay.setStage_sweep (n : Nat) (x : Stage) : (b.setStage n x).sweep = b.sweep := rfl
@[simp] theorem Bay.setStage_loopCh (n : Nat) (x : Stage) : (b.setStage n x).loopCh = b.loopCh := rfl
@[simp] theorem Bay.setStage_loopAx (n : Nat) (x : Stage) : (b.setStage n x).loopAx = b.loopAx := rfl
@[simp] theorem Bay.setStage_trace (n : Nat) (x : Stage) : (b.setStage n x).trace = b.trace := rfl
@[simp] theorem Bay.setStage_grade (n : Nat) (x : Stage) : (b.setStage n x).grade = b.grade := rfl
@[simp] theorem Bay.setStage_modeSt (n : Nat) (x : Stage) : (b.setStage n x).modeSt = b.modeSt := rfl
@[simp] theorem Bay.setStage_plant (n : Nat) (x : Stage) : (b.setStage n x).plant = b.plant := rfl
@[simp] theorem Bay.setStage_wale (n : Nat) (x : Stage) : (b.setStage n x).wale = b.wale := rfl
@[simp] theorem Bay.setStage_axis (n : Nat) (x : Stage) : (b.setStage n x).axis = b.axis := rfl
@[simp] theorem Bay.setStage_axRec (n : Nat) (x : Stage) : (b.setStage n x).axRec = b.axRec := rfl
@[simp] theorem Bay.setStage_enc (n : Nat) (x : Stage) : (b.setStage n x).enc = b.enc := rfl
@[simp] theorem Bay.setStage_thermCh (n : Nat) (x : Stage) : (b.setStage n x).thermCh = b.thermCh := rfl
@[simp] theorem Bay.setStage_therm (n : Nat) (x : Stage) : (b.setStage n x).therm = b.therm := rfl
@[simp] theorem Bay.setStage_safe (n : Nat) (x : Stage) : (b.setStage n x).safe = b.safe := rfl
@[simp] theorem Bay.setStage_red (n : Nat) (x : Stage) : (b.setStage n x).red = b.red := rfl
@[simp] theorem Bay.setStage_memHid (n : Nat) (x : Stage) : (b.setStage n x).memHid = b.memHid := rfl
@[simp] theorem Bay.setStage_trust (n : Nat) (x : Stage) : (b.setStage n x).trust = b.trust := rfl
@[simp] theorem Bay.setStage_weave (n : Nat) (x : Stage) : (b.setStage n x).weave = b.weave := rfl
@[simp] theorem Bay.setStage_can (n : Nat) (x : Stage) : (b.setStage n x).can = b.can := rfl
@[simp] theorem Bay.setStage_latch (n : Nat) (x : Stage) : (b.setStage n x).latch = b.latch := rfl
@[simp] theorem Bay.setStage_shortReq (n : Nat) (x : Stage) : (b.setStage n x).shortReq = b.shortReq := rfl
@[simp] theorem Bay.setStage_out (n : Nat) (x : Stage) : (b.setStage n x).out = b.out := rfl
@[simp] theorem Bay.setStage_fresh (n : Nat) (x : Stage) : (b.setStage n x).fresh = b.fresh := rfl
@[simp] theorem Bay.setStage_rd (n : Nat) (x : Stage) (k : Key) : (b.setStage n x).rd k = b.rd k := rfl
@[simp] theorem Bay.setStage_mode (n : Nat) (x : Stage) : (b.setStage n x).mode = b.mode := rfl

@[simp] theorem Bay.setDriver_regs (n : Nat) (x : Driver) : (b.setDriver n x).regs = b.regs := rfl
@[simp] theorem Bay.setDriver_now (n : Nat) (x : Driver) : (b.setDriver n x).now = b.now := rfl
@[simp] theorem Bay.setDriver_shadows (n : Nat) (x : Driver) : (b.setDriver n x).shadows = b.shadows := rfl
@[simp] theorem Bay.setDriver_hiLatch (n : Nat) (x : Driver) : (b.setDriver n x).hiLatch = b.hiLatch := rfl
@[simp] theorem Bay.setDriver_setT (n : Nat) (x : Driver) : (b.setDriver n x).setT = b.setT := rfl
@[simp] theorem Bay.setDriver_edge (n : Nat) (x : Driver) : (b.setDriver n x).edge = b.edge := rfl
@[simp] theorem Bay.setDriver_log (n : Nat) (x : Driver) : (b.setDriver n x).log = b.log := rfl
@[simp] theorem Bay.setDriver_episode (n : Nat) (x : Driver) : (b.setDriver n x).episode = b.episode := rfl
@[simp] theorem Bay.setDriver_evBits (n : Nat) (x : Driver) : (b.setDriver n x).evBits = b.evBits := rfl
@[simp] theorem Bay.setDriver_stage (n : Nat) (x : Driver) : (b.setDriver n x).stage = b.stage := rfl
@[simp] theorem Bay.setDriver_fram (n : Nat) (x : Driver) : (b.setDriver n x).fram = b.fram := rfl
@[simp] theorem Bay.setDriver_border (n : Nat) (x : Driver) : (b.setDriver n x).border = b.border := rfl
@[simp] theorem Bay.setDriver_chan (n : Nat) (x : Driver) : (b.setDriver n x).chan = b.chan := rfl
@[simp] theorem Bay.setDriver_means (n : Nat) (x : Driver) : (b.setDriver n x).means = b.means := rfl
@[simp] theorem Bay.setDriver_ring (n : Nat) (x : Driver) : (b.setDriver n x).ring = b.ring := rfl
@[simp] theorem Bay.setDriver_cellT (n : Nat) (x : Driver) : (b.setDriver n x).cellT = b.cellT := rfl
@[simp] theorem Bay.setDriver_slotv (n : Nat) (x : Driver) : (b.setDriver n x).slotv = b.slotv := rfl
@[simp] theorem Bay.setDriver_measCh (n : Nat) (x : Driver) : (b.setDriver n x).measCh = b.measCh := rfl
@[simp] theorem Bay.setDriver_measSt (n : Nat) (x : Driver) : (b.setDriver n x).measSt = b.measSt := rfl
@[simp] theorem Bay.setDriver_eng (n : Nat) (x : Driver) : (b.setDriver n x).eng = b.eng := rfl
@[simp] theorem Bay.setDriver_images (n : Nat) (x : Driver) : (b.setDriver n x).images = b.images := rfl
@[simp] theorem Bay.setDriver_verMax (n : Nat) (x : Driver) : (b.setDriver n x).verMax = b.verMax := rfl
@[simp] theorem Bay.setDriver_revoked (n : Nat) (x : Driver) : (b.setDriver n x).revoked = b.revoked := rfl
@[simp] theorem Bay.setDriver_groups (n : Nat) (x : Driver) : (b.setDriver n x).groups = b.groups := rfl
@[simp] theorem Bay.setDriver_sweep (n : Nat) (x : Driver) : (b.setDriver n x).sweep = b.sweep := rfl
@[simp] theorem Bay.setDriver_loopCh (n : Nat) (x : Driver) : (b.setDriver n x).loopCh = b.loopCh := rfl
@[simp] theorem Bay.setDriver_loopAx (n : Nat) (x : Driver) : (b.setDriver n x).loopAx = b.loopAx := rfl
@[simp] theorem Bay.setDriver_trace (n : Nat) (x : Driver) : (b.setDriver n x).trace = b.trace := rfl
@[simp] theorem Bay.setDriver_grade (n : Nat) (x : Driver) : (b.setDriver n x).grade = b.grade := rfl
@[simp] theorem Bay.setDriver_modeSt (n : Nat) (x : Driver) : (b.setDriver n x).modeSt = b.modeSt := rfl
@[simp] theorem Bay.setDriver_plant (n : Nat) (x : Driver) : (b.setDriver n x).plant = b.plant := rfl
@[simp] theorem Bay.setDriver_wale (n : Nat) (x : Driver) : (b.setDriver n x).wale = b.wale := rfl
@[simp] theorem Bay.setDriver_axis (n : Nat) (x : Driver) : (b.setDriver n x).axis = b.axis := rfl
@[simp] theorem Bay.setDriver_axRec (n : Nat) (x : Driver) : (b.setDriver n x).axRec = b.axRec := rfl
@[simp] theorem Bay.setDriver_enc (n : Nat) (x : Driver) : (b.setDriver n x).enc = b.enc := rfl
@[simp] theorem Bay.setDriver_thermCh (n : Nat) (x : Driver) : (b.setDriver n x).thermCh = b.thermCh := rfl
@[simp] theorem Bay.setDriver_therm (n : Nat) (x : Driver) : (b.setDriver n x).therm = b.therm := rfl
@[simp] theorem Bay.setDriver_safe (n : Nat) (x : Driver) : (b.setDriver n x).safe = b.safe := rfl
@[simp] theorem Bay.setDriver_red (n : Nat) (x : Driver) : (b.setDriver n x).red = b.red := rfl
@[simp] theorem Bay.setDriver_memHid (n : Nat) (x : Driver) : (b.setDriver n x).memHid = b.memHid := rfl
@[simp] theorem Bay.setDriver_trust (n : Nat) (x : Driver) : (b.setDriver n x).trust = b.trust := rfl
@[simp] theorem Bay.setDriver_weave (n : Nat) (x : Driver) : (b.setDriver n x).weave = b.weave := rfl
@[simp] theorem Bay.setDriver_can (n : Nat) (x : Driver) : (b.setDriver n x).can = b.can := rfl
@[simp] theorem Bay.setDriver_latch (n : Nat) (x : Driver) : (b.setDriver n x).latch = b.latch := rfl
@[simp] theorem Bay.setDriver_shortReq (n : Nat) (x : Driver) : (b.setDriver n x).shortReq = b.shortReq := rfl
@[simp] theorem Bay.setDriver_out (n : Nat) (x : Driver) : (b.setDriver n x).out = b.out := rfl
@[simp] theorem Bay.setDriver_fresh (n : Nat) (x : Driver) : (b.setDriver n x).fresh = b.fresh := rfl
@[simp] theorem Bay.setDriver_rd (n : Nat) (x : Driver) (k : Key) : (b.setDriver n x).rd k = b.rd k := rfl
@[simp] theorem Bay.setDriver_mode (n : Nat) (x : Driver) : (b.setDriver n x).mode = b.mode := rfl

@[simp] theorem Bay.setFram_regs (n : Nat) (x : Fram) : (b.setFram n x).regs = b.regs := rfl
@[simp] theorem Bay.setFram_now (n : Nat) (x : Fram) : (b.setFram n x).now = b.now := rfl
@[simp] theorem Bay.setFram_shadows (n : Nat) (x : Fram) : (b.setFram n x).shadows = b.shadows := rfl
@[simp] theorem Bay.setFram_hiLatch (n : Nat) (x : Fram) : (b.setFram n x).hiLatch = b.hiLatch := rfl
@[simp] theorem Bay.setFram_setT (n : Nat) (x : Fram) : (b.setFram n x).setT = b.setT := rfl
@[simp] theorem Bay.setFram_edge (n : Nat) (x : Fram) : (b.setFram n x).edge = b.edge := rfl
@[simp] theorem Bay.setFram_log (n : Nat) (x : Fram) : (b.setFram n x).log = b.log := rfl
@[simp] theorem Bay.setFram_episode (n : Nat) (x : Fram) : (b.setFram n x).episode = b.episode := rfl
@[simp] theorem Bay.setFram_evBits (n : Nat) (x : Fram) : (b.setFram n x).evBits = b.evBits := rfl
@[simp] theorem Bay.setFram_stage (n : Nat) (x : Fram) : (b.setFram n x).stage = b.stage := rfl
@[simp] theorem Bay.setFram_driver (n : Nat) (x : Fram) : (b.setFram n x).driver = b.driver := rfl
@[simp] theorem Bay.setFram_border (n : Nat) (x : Fram) : (b.setFram n x).border = b.border := rfl
@[simp] theorem Bay.setFram_chan (n : Nat) (x : Fram) : (b.setFram n x).chan = b.chan := rfl
@[simp] theorem Bay.setFram_means (n : Nat) (x : Fram) : (b.setFram n x).means = b.means := rfl
@[simp] theorem Bay.setFram_ring (n : Nat) (x : Fram) : (b.setFram n x).ring = b.ring := rfl
@[simp] theorem Bay.setFram_cellT (n : Nat) (x : Fram) : (b.setFram n x).cellT = b.cellT := rfl
@[simp] theorem Bay.setFram_slotv (n : Nat) (x : Fram) : (b.setFram n x).slotv = b.slotv := rfl
@[simp] theorem Bay.setFram_measCh (n : Nat) (x : Fram) : (b.setFram n x).measCh = b.measCh := rfl
@[simp] theorem Bay.setFram_measSt (n : Nat) (x : Fram) : (b.setFram n x).measSt = b.measSt := rfl
@[simp] theorem Bay.setFram_eng (n : Nat) (x : Fram) : (b.setFram n x).eng = b.eng := rfl
@[simp] theorem Bay.setFram_images (n : Nat) (x : Fram) : (b.setFram n x).images = b.images := rfl
@[simp] theorem Bay.setFram_verMax (n : Nat) (x : Fram) : (b.setFram n x).verMax = b.verMax := rfl
@[simp] theorem Bay.setFram_revoked (n : Nat) (x : Fram) : (b.setFram n x).revoked = b.revoked := rfl
@[simp] theorem Bay.setFram_groups (n : Nat) (x : Fram) : (b.setFram n x).groups = b.groups := rfl
@[simp] theorem Bay.setFram_sweep (n : Nat) (x : Fram) : (b.setFram n x).sweep = b.sweep := rfl
@[simp] theorem Bay.setFram_loopCh (n : Nat) (x : Fram) : (b.setFram n x).loopCh = b.loopCh := rfl
@[simp] theorem Bay.setFram_loopAx (n : Nat) (x : Fram) : (b.setFram n x).loopAx = b.loopAx := rfl
@[simp] theorem Bay.setFram_trace (n : Nat) (x : Fram) : (b.setFram n x).trace = b.trace := rfl
@[simp] theorem Bay.setFram_grade (n : Nat) (x : Fram) : (b.setFram n x).grade = b.grade := rfl
@[simp] theorem Bay.setFram_modeSt (n : Nat) (x : Fram) : (b.setFram n x).modeSt = b.modeSt := rfl
@[simp] theorem Bay.setFram_plant (n : Nat) (x : Fram) : (b.setFram n x).plant = b.plant := rfl
@[simp] theorem Bay.setFram_wale (n : Nat) (x : Fram) : (b.setFram n x).wale = b.wale := rfl
@[simp] theorem Bay.setFram_axis (n : Nat) (x : Fram) : (b.setFram n x).axis = b.axis := rfl
@[simp] theorem Bay.setFram_axRec (n : Nat) (x : Fram) : (b.setFram n x).axRec = b.axRec := rfl
@[simp] theorem Bay.setFram_enc (n : Nat) (x : Fram) : (b.setFram n x).enc = b.enc := rfl
@[simp] theorem Bay.setFram_thermCh (n : Nat) (x : Fram) : (b.setFram n x).thermCh = b.thermCh := rfl
@[simp] theorem Bay.setFram_therm (n : Nat) (x : Fram) : (b.setFram n x).therm = b.therm := rfl
@[simp] theorem Bay.setFram_safe (n : Nat) (x : Fram) : (b.setFram n x).safe = b.safe := rfl
@[simp] theorem Bay.setFram_red (n : Nat) (x : Fram) : (b.setFram n x).red = b.red := rfl
@[simp] theorem Bay.setFram_memHid (n : Nat) (x : Fram) : (b.setFram n x).memHid = b.memHid := rfl
@[simp] theorem Bay.setFram_trust (n : Nat) (x : Fram) : (b.setFram n x).trust = b.trust := rfl
@[simp] theorem Bay.setFram_weave (n : Nat) (x : Fram) : (b.setFram n x).weave = b.weave := rfl
@[simp] theorem Bay.setFram_can (n : Nat) (x : Fram) : (b.setFram n x).can = b.can := rfl
@[simp] theorem Bay.setFram_latch (n : Nat) (x : Fram) : (b.setFram n x).latch = b.latch := rfl
@[simp] theorem Bay.setFram_shortReq (n : Nat) (x : Fram) : (b.setFram n x).shortReq = b.shortReq := rfl
@[simp] theorem Bay.setFram_out (n : Nat) (x : Fram) : (b.setFram n x).out = b.out := rfl
@[simp] theorem Bay.setFram_fresh (n : Nat) (x : Fram) : (b.setFram n x).fresh = b.fresh := rfl
@[simp] theorem Bay.setFram_rd (n : Nat) (x : Fram) (k : Key) : (b.setFram n x).rd k = b.rd k := rfl
@[simp] theorem Bay.setFram_mode (n : Nat) (x : Fram) : (b.setFram n x).mode = b.mode := rfl

@[simp] theorem Bay.setBorder_regs (n : Nat) (x : Border) : (b.setBorder n x).regs = b.regs := rfl
@[simp] theorem Bay.setBorder_now (n : Nat) (x : Border) : (b.setBorder n x).now = b.now := rfl
@[simp] theorem Bay.setBorder_shadows (n : Nat) (x : Border) : (b.setBorder n x).shadows = b.shadows := rfl
@[simp] theorem Bay.setBorder_hiLatch (n : Nat) (x : Border) : (b.setBorder n x).hiLatch = b.hiLatch := rfl
@[simp] theorem Bay.setBorder_setT (n : Nat) (x : Border) : (b.setBorder n x).setT = b.setT := rfl
@[simp] theorem Bay.setBorder_edge (n : Nat) (x : Border) : (b.setBorder n x).edge = b.edge := rfl
@[simp] theorem Bay.setBorder_log (n : Nat) (x : Border) : (b.setBorder n x).log = b.log := rfl
@[simp] theorem Bay.setBorder_episode (n : Nat) (x : Border) : (b.setBorder n x).episode = b.episode := rfl
@[simp] theorem Bay.setBorder_evBits (n : Nat) (x : Border) : (b.setBorder n x).evBits = b.evBits := rfl
@[simp] theorem Bay.setBorder_stage (n : Nat) (x : Border) : (b.setBorder n x).stage = b.stage := rfl
@[simp] theorem Bay.setBorder_driver (n : Nat) (x : Border) : (b.setBorder n x).driver = b.driver := rfl
@[simp] theorem Bay.setBorder_fram (n : Nat) (x : Border) : (b.setBorder n x).fram = b.fram := rfl
@[simp] theorem Bay.setBorder_chan (n : Nat) (x : Border) : (b.setBorder n x).chan = b.chan := rfl
@[simp] theorem Bay.setBorder_means (n : Nat) (x : Border) : (b.setBorder n x).means = b.means := rfl
@[simp] theorem Bay.setBorder_ring (n : Nat) (x : Border) : (b.setBorder n x).ring = b.ring := rfl
@[simp] theorem Bay.setBorder_cellT (n : Nat) (x : Border) : (b.setBorder n x).cellT = b.cellT := rfl
@[simp] theorem Bay.setBorder_slotv (n : Nat) (x : Border) : (b.setBorder n x).slotv = b.slotv := rfl
@[simp] theorem Bay.setBorder_measCh (n : Nat) (x : Border) : (b.setBorder n x).measCh = b.measCh := rfl
@[simp] theorem Bay.setBorder_measSt (n : Nat) (x : Border) : (b.setBorder n x).measSt = b.measSt := rfl
@[simp] theorem Bay.setBorder_eng (n : Nat) (x : Border) : (b.setBorder n x).eng = b.eng := rfl
@[simp] theorem Bay.setBorder_images (n : Nat) (x : Border) : (b.setBorder n x).images = b.images := rfl
@[simp] theorem Bay.setBorder_verMax (n : Nat) (x : Border) : (b.setBorder n x).verMax = b.verMax := rfl
@[simp] theorem Bay.setBorder_revoked (n : Nat) (x : Border) : (b.setBorder n x).revoked = b.revoked := rfl
@[simp] theorem Bay.setBorder_groups (n : Nat) (x : Border) : (b.setBorder n x).groups = b.groups := rfl
@[simp] theorem Bay.setBorder_sweep (n : Nat) (x : Border) : (b.setBorder n x).sweep = b.sweep := rfl
@[simp] theorem Bay.setBorder_loopCh (n : Nat) (x : Border) : (b.setBorder n x).loopCh = b.loopCh := rfl
@[simp] theorem Bay.setBorder_loopAx (n : Nat) (x : Border) : (b.setBorder n x).loopAx = b.loopAx := rfl
@[simp] theorem Bay.setBorder_trace (n : Nat) (x : Border) : (b.setBorder n x).trace = b.trace := rfl
@[simp] theorem Bay.setBorder_grade (n : Nat) (x : Border) : (b.setBorder n x).grade = b.grade := rfl
@[simp] theorem Bay.setBorder_modeSt (n : Nat) (x : Border) : (b.setBorder n x).modeSt = b.modeSt := rfl
@[simp] theorem Bay.setBorder_plant (n : Nat) (x : Border) : (b.setBorder n x).plant = b.plant := rfl
@[simp] theorem Bay.setBorder_wale (n : Nat) (x : Border) : (b.setBorder n x).wale = b.wale := rfl
@[simp] theorem Bay.setBorder_axis (n : Nat) (x : Border) : (b.setBorder n x).axis = b.axis := rfl
@[simp] theorem Bay.setBorder_axRec (n : Nat) (x : Border) : (b.setBorder n x).axRec = b.axRec := rfl
@[simp] theorem Bay.setBorder_enc (n : Nat) (x : Border) : (b.setBorder n x).enc = b.enc := rfl
@[simp] theorem Bay.setBorder_thermCh (n : Nat) (x : Border) : (b.setBorder n x).thermCh = b.thermCh := rfl
@[simp] theorem Bay.setBorder_therm (n : Nat) (x : Border) : (b.setBorder n x).therm = b.therm := rfl
@[simp] theorem Bay.setBorder_safe (n : Nat) (x : Border) : (b.setBorder n x).safe = b.safe := rfl
@[simp] theorem Bay.setBorder_red (n : Nat) (x : Border) : (b.setBorder n x).red = b.red := rfl
@[simp] theorem Bay.setBorder_memHid (n : Nat) (x : Border) : (b.setBorder n x).memHid = b.memHid := rfl
@[simp] theorem Bay.setBorder_trust (n : Nat) (x : Border) : (b.setBorder n x).trust = b.trust := rfl
@[simp] theorem Bay.setBorder_weave (n : Nat) (x : Border) : (b.setBorder n x).weave = b.weave := rfl
@[simp] theorem Bay.setBorder_can (n : Nat) (x : Border) : (b.setBorder n x).can = b.can := rfl
@[simp] theorem Bay.setBorder_latch (n : Nat) (x : Border) : (b.setBorder n x).latch = b.latch := rfl
@[simp] theorem Bay.setBorder_shortReq (n : Nat) (x : Border) : (b.setBorder n x).shortReq = b.shortReq := rfl
@[simp] theorem Bay.setBorder_out (n : Nat) (x : Border) : (b.setBorder n x).out = b.out := rfl
@[simp] theorem Bay.setBorder_fresh (n : Nat) (x : Border) : (b.setBorder n x).fresh = b.fresh := rfl
@[simp] theorem Bay.setBorder_rd (n : Nat) (x : Border) (k : Key) : (b.setBorder n x).rd k = b.rd k := rfl
@[simp] theorem Bay.setBorder_mode (n : Nat) (x : Border) : (b.setBorder n x).mode = b.mode := rfl

@[simp] theorem Bay.setCellT_regs (n : Nat) (x : Int × Int) : (b.setCellT n x).regs = b.regs := rfl
@[simp] theorem Bay.setCellT_now (n : Nat) (x : Int × Int) : (b.setCellT n x).now = b.now := rfl
@[simp] theorem Bay.setCellT_shadows (n : Nat) (x : Int × Int) : (b.setCellT n x).shadows = b.shadows := rfl
@[simp] theorem Bay.setCellT_hiLatch (n : Nat) (x : Int × Int) : (b.setCellT n x).hiLatch = b.hiLatch := rfl
@[simp] theorem Bay.setCellT_setT (n : Nat) (x : Int × Int) : (b.setCellT n x).setT = b.setT := rfl
@[simp] theorem Bay.setCellT_edge (n : Nat) (x : Int × Int) : (b.setCellT n x).edge = b.edge := rfl
@[simp] theorem Bay.setCellT_log (n : Nat) (x : Int × Int) : (b.setCellT n x).log = b.log := rfl
@[simp] theorem Bay.setCellT_episode (n : Nat) (x : Int × Int) : (b.setCellT n x).episode = b.episode := rfl
@[simp] theorem Bay.setCellT_evBits (n : Nat) (x : Int × Int) : (b.setCellT n x).evBits = b.evBits := rfl
@[simp] theorem Bay.setCellT_stage (n : Nat) (x : Int × Int) : (b.setCellT n x).stage = b.stage := rfl
@[simp] theorem Bay.setCellT_driver (n : Nat) (x : Int × Int) : (b.setCellT n x).driver = b.driver := rfl
@[simp] theorem Bay.setCellT_fram (n : Nat) (x : Int × Int) : (b.setCellT n x).fram = b.fram := rfl
@[simp] theorem Bay.setCellT_border (n : Nat) (x : Int × Int) : (b.setCellT n x).border = b.border := rfl
@[simp] theorem Bay.setCellT_chan (n : Nat) (x : Int × Int) : (b.setCellT n x).chan = b.chan := rfl
@[simp] theorem Bay.setCellT_means (n : Nat) (x : Int × Int) : (b.setCellT n x).means = b.means := rfl
@[simp] theorem Bay.setCellT_ring (n : Nat) (x : Int × Int) : (b.setCellT n x).ring = b.ring := rfl
@[simp] theorem Bay.setCellT_slotv (n : Nat) (x : Int × Int) : (b.setCellT n x).slotv = b.slotv := rfl
@[simp] theorem Bay.setCellT_measCh (n : Nat) (x : Int × Int) : (b.setCellT n x).measCh = b.measCh := rfl
@[simp] theorem Bay.setCellT_measSt (n : Nat) (x : Int × Int) : (b.setCellT n x).measSt = b.measSt := rfl
@[simp] theorem Bay.setCellT_eng (n : Nat) (x : Int × Int) : (b.setCellT n x).eng = b.eng := rfl
@[simp] theorem Bay.setCellT_images (n : Nat) (x : Int × Int) : (b.setCellT n x).images = b.images := rfl
@[simp] theorem Bay.setCellT_verMax (n : Nat) (x : Int × Int) : (b.setCellT n x).verMax = b.verMax := rfl
@[simp] theorem Bay.setCellT_revoked (n : Nat) (x : Int × Int) : (b.setCellT n x).revoked = b.revoked := rfl
@[simp] theorem Bay.setCellT_groups (n : Nat) (x : Int × Int) : (b.setCellT n x).groups = b.groups := rfl
@[simp] theorem Bay.setCellT_sweep (n : Nat) (x : Int × Int) : (b.setCellT n x).sweep = b.sweep := rfl
@[simp] theorem Bay.setCellT_loopCh (n : Nat) (x : Int × Int) : (b.setCellT n x).loopCh = b.loopCh := rfl
@[simp] theorem Bay.setCellT_loopAx (n : Nat) (x : Int × Int) : (b.setCellT n x).loopAx = b.loopAx := rfl
@[simp] theorem Bay.setCellT_trace (n : Nat) (x : Int × Int) : (b.setCellT n x).trace = b.trace := rfl
@[simp] theorem Bay.setCellT_grade (n : Nat) (x : Int × Int) : (b.setCellT n x).grade = b.grade := rfl
@[simp] theorem Bay.setCellT_modeSt (n : Nat) (x : Int × Int) : (b.setCellT n x).modeSt = b.modeSt := rfl
@[simp] theorem Bay.setCellT_plant (n : Nat) (x : Int × Int) : (b.setCellT n x).plant = b.plant := rfl
@[simp] theorem Bay.setCellT_wale (n : Nat) (x : Int × Int) : (b.setCellT n x).wale = b.wale := rfl
@[simp] theorem Bay.setCellT_axis (n : Nat) (x : Int × Int) : (b.setCellT n x).axis = b.axis := rfl
@[simp] theorem Bay.setCellT_axRec (n : Nat) (x : Int × Int) : (b.setCellT n x).axRec = b.axRec := rfl
@[simp] theorem Bay.setCellT_enc (n : Nat) (x : Int × Int) : (b.setCellT n x).enc = b.enc := rfl
@[simp] theorem Bay.setCellT_thermCh (n : Nat) (x : Int × Int) : (b.setCellT n x).thermCh = b.thermCh := rfl
@[simp] theorem Bay.setCellT_therm (n : Nat) (x : Int × Int) : (b.setCellT n x).therm = b.therm := rfl
@[simp] theorem Bay.setCellT_safe (n : Nat) (x : Int × Int) : (b.setCellT n x).safe = b.safe := rfl
@[simp] theorem Bay.setCellT_red (n : Nat) (x : Int × Int) : (b.setCellT n x).red = b.red := rfl
@[simp] theorem Bay.setCellT_memHid (n : Nat) (x : Int × Int) : (b.setCellT n x).memHid = b.memHid := rfl
@[simp] theorem Bay.setCellT_trust (n : Nat) (x : Int × Int) : (b.setCellT n x).trust = b.trust := rfl
@[simp] theorem Bay.setCellT_weave (n : Nat) (x : Int × Int) : (b.setCellT n x).weave = b.weave := rfl
@[simp] theorem Bay.setCellT_can (n : Nat) (x : Int × Int) : (b.setCellT n x).can = b.can := rfl
@[simp] theorem Bay.setCellT_latch (n : Nat) (x : Int × Int) : (b.setCellT n x).latch = b.latch := rfl
@[simp] theorem Bay.setCellT_shortReq (n : Nat) (x : Int × Int) : (b.setCellT n x).shortReq = b.shortReq := rfl
@[simp] theorem Bay.setCellT_out (n : Nat) (x : Int × Int) : (b.setCellT n x).out = b.out := rfl
@[simp] theorem Bay.setCellT_fresh (n : Nat) (x : Int × Int) : (b.setCellT n x).fresh = b.fresh := rfl
@[simp] theorem Bay.setCellT_rd (n : Nat) (x : Int × Int) (k : Key) : (b.setCellT n x).rd k = b.rd k := rfl
@[simp] theorem Bay.setCellT_mode (n : Nat) (x : Int × Int) : (b.setCellT n x).mode = b.mode := rfl

@[simp] theorem Bay.setSlot_regs (n : Nat) (x : SlotView) : (b.setSlot n x).regs = b.regs := rfl
@[simp] theorem Bay.setSlot_now (n : Nat) (x : SlotView) : (b.setSlot n x).now = b.now := rfl
@[simp] theorem Bay.setSlot_shadows (n : Nat) (x : SlotView) : (b.setSlot n x).shadows = b.shadows := rfl
@[simp] theorem Bay.setSlot_hiLatch (n : Nat) (x : SlotView) : (b.setSlot n x).hiLatch = b.hiLatch := rfl
@[simp] theorem Bay.setSlot_setT (n : Nat) (x : SlotView) : (b.setSlot n x).setT = b.setT := rfl
@[simp] theorem Bay.setSlot_edge (n : Nat) (x : SlotView) : (b.setSlot n x).edge = b.edge := rfl
@[simp] theorem Bay.setSlot_log (n : Nat) (x : SlotView) : (b.setSlot n x).log = b.log := rfl
@[simp] theorem Bay.setSlot_episode (n : Nat) (x : SlotView) : (b.setSlot n x).episode = b.episode := rfl
@[simp] theorem Bay.setSlot_evBits (n : Nat) (x : SlotView) : (b.setSlot n x).evBits = b.evBits := rfl
@[simp] theorem Bay.setSlot_stage (n : Nat) (x : SlotView) : (b.setSlot n x).stage = b.stage := rfl
@[simp] theorem Bay.setSlot_driver (n : Nat) (x : SlotView) : (b.setSlot n x).driver = b.driver := rfl
@[simp] theorem Bay.setSlot_fram (n : Nat) (x : SlotView) : (b.setSlot n x).fram = b.fram := rfl
@[simp] theorem Bay.setSlot_border (n : Nat) (x : SlotView) : (b.setSlot n x).border = b.border := rfl
@[simp] theorem Bay.setSlot_chan (n : Nat) (x : SlotView) : (b.setSlot n x).chan = b.chan := rfl
@[simp] theorem Bay.setSlot_means (n : Nat) (x : SlotView) : (b.setSlot n x).means = b.means := rfl
@[simp] theorem Bay.setSlot_ring (n : Nat) (x : SlotView) : (b.setSlot n x).ring = b.ring := rfl
@[simp] theorem Bay.setSlot_cellT (n : Nat) (x : SlotView) : (b.setSlot n x).cellT = b.cellT := rfl
@[simp] theorem Bay.setSlot_measCh (n : Nat) (x : SlotView) : (b.setSlot n x).measCh = b.measCh := rfl
@[simp] theorem Bay.setSlot_measSt (n : Nat) (x : SlotView) : (b.setSlot n x).measSt = b.measSt := rfl
@[simp] theorem Bay.setSlot_eng (n : Nat) (x : SlotView) : (b.setSlot n x).eng = b.eng := rfl
@[simp] theorem Bay.setSlot_images (n : Nat) (x : SlotView) : (b.setSlot n x).images = b.images := rfl
@[simp] theorem Bay.setSlot_verMax (n : Nat) (x : SlotView) : (b.setSlot n x).verMax = b.verMax := rfl
@[simp] theorem Bay.setSlot_revoked (n : Nat) (x : SlotView) : (b.setSlot n x).revoked = b.revoked := rfl
@[simp] theorem Bay.setSlot_groups (n : Nat) (x : SlotView) : (b.setSlot n x).groups = b.groups := rfl
@[simp] theorem Bay.setSlot_sweep (n : Nat) (x : SlotView) : (b.setSlot n x).sweep = b.sweep := rfl
@[simp] theorem Bay.setSlot_loopCh (n : Nat) (x : SlotView) : (b.setSlot n x).loopCh = b.loopCh := rfl
@[simp] theorem Bay.setSlot_loopAx (n : Nat) (x : SlotView) : (b.setSlot n x).loopAx = b.loopAx := rfl
@[simp] theorem Bay.setSlot_trace (n : Nat) (x : SlotView) : (b.setSlot n x).trace = b.trace := rfl
@[simp] theorem Bay.setSlot_grade (n : Nat) (x : SlotView) : (b.setSlot n x).grade = b.grade := rfl
@[simp] theorem Bay.setSlot_modeSt (n : Nat) (x : SlotView) : (b.setSlot n x).modeSt = b.modeSt := rfl
@[simp] theorem Bay.setSlot_plant (n : Nat) (x : SlotView) : (b.setSlot n x).plant = b.plant := rfl
@[simp] theorem Bay.setSlot_wale (n : Nat) (x : SlotView) : (b.setSlot n x).wale = b.wale := rfl
@[simp] theorem Bay.setSlot_axis (n : Nat) (x : SlotView) : (b.setSlot n x).axis = b.axis := rfl
@[simp] theorem Bay.setSlot_axRec (n : Nat) (x : SlotView) : (b.setSlot n x).axRec = b.axRec := rfl
@[simp] theorem Bay.setSlot_enc (n : Nat) (x : SlotView) : (b.setSlot n x).enc = b.enc := rfl
@[simp] theorem Bay.setSlot_thermCh (n : Nat) (x : SlotView) : (b.setSlot n x).thermCh = b.thermCh := rfl
@[simp] theorem Bay.setSlot_therm (n : Nat) (x : SlotView) : (b.setSlot n x).therm = b.therm := rfl
@[simp] theorem Bay.setSlot_safe (n : Nat) (x : SlotView) : (b.setSlot n x).safe = b.safe := rfl
@[simp] theorem Bay.setSlot_red (n : Nat) (x : SlotView) : (b.setSlot n x).red = b.red := rfl
@[simp] theorem Bay.setSlot_memHid (n : Nat) (x : SlotView) : (b.setSlot n x).memHid = b.memHid := rfl
@[simp] theorem Bay.setSlot_trust (n : Nat) (x : SlotView) : (b.setSlot n x).trust = b.trust := rfl
@[simp] theorem Bay.setSlot_weave (n : Nat) (x : SlotView) : (b.setSlot n x).weave = b.weave := rfl
@[simp] theorem Bay.setSlot_can (n : Nat) (x : SlotView) : (b.setSlot n x).can = b.can := rfl
@[simp] theorem Bay.setSlot_latch (n : Nat) (x : SlotView) : (b.setSlot n x).latch = b.latch := rfl
@[simp] theorem Bay.setSlot_shortReq (n : Nat) (x : SlotView) : (b.setSlot n x).shortReq = b.shortReq := rfl
@[simp] theorem Bay.setSlot_out (n : Nat) (x : SlotView) : (b.setSlot n x).out = b.out := rfl
@[simp] theorem Bay.setSlot_fresh (n : Nat) (x : SlotView) : (b.setSlot n x).fresh = b.fresh := rfl
@[simp] theorem Bay.setSlot_rd (n : Nat) (x : SlotView) (k : Key) : (b.setSlot n x).rd k = b.rd k := rfl
@[simp] theorem Bay.setSlot_mode (n : Nat) (x : SlotView) : (b.setSlot n x).mode = b.mode := rfl

@[simp] theorem Bay.setChan_regs (n : Nat) (x : Chan) : (b.setChan n x).regs = b.regs := rfl
@[simp] theorem Bay.setChan_now (n : Nat) (x : Chan) : (b.setChan n x).now = b.now := rfl
@[simp] theorem Bay.setChan_shadows (n : Nat) (x : Chan) : (b.setChan n x).shadows = b.shadows := rfl
@[simp] theorem Bay.setChan_hiLatch (n : Nat) (x : Chan) : (b.setChan n x).hiLatch = b.hiLatch := rfl
@[simp] theorem Bay.setChan_setT (n : Nat) (x : Chan) : (b.setChan n x).setT = b.setT := rfl
@[simp] theorem Bay.setChan_edge (n : Nat) (x : Chan) : (b.setChan n x).edge = b.edge := rfl
@[simp] theorem Bay.setChan_log (n : Nat) (x : Chan) : (b.setChan n x).log = b.log := rfl
@[simp] theorem Bay.setChan_episode (n : Nat) (x : Chan) : (b.setChan n x).episode = b.episode := rfl
@[simp] theorem Bay.setChan_evBits (n : Nat) (x : Chan) : (b.setChan n x).evBits = b.evBits := rfl
@[simp] theorem Bay.setChan_stage (n : Nat) (x : Chan) : (b.setChan n x).stage = b.stage := rfl
@[simp] theorem Bay.setChan_driver (n : Nat) (x : Chan) : (b.setChan n x).driver = b.driver := rfl
@[simp] theorem Bay.setChan_fram (n : Nat) (x : Chan) : (b.setChan n x).fram = b.fram := rfl
@[simp] theorem Bay.setChan_border (n : Nat) (x : Chan) : (b.setChan n x).border = b.border := rfl
@[simp] theorem Bay.setChan_means (n : Nat) (x : Chan) : (b.setChan n x).means = b.means := rfl
@[simp] theorem Bay.setChan_ring (n : Nat) (x : Chan) : (b.setChan n x).ring = b.ring := rfl
@[simp] theorem Bay.setChan_cellT (n : Nat) (x : Chan) : (b.setChan n x).cellT = b.cellT := rfl
@[simp] theorem Bay.setChan_slotv (n : Nat) (x : Chan) : (b.setChan n x).slotv = b.slotv := rfl
@[simp] theorem Bay.setChan_measCh (n : Nat) (x : Chan) : (b.setChan n x).measCh = b.measCh := rfl
@[simp] theorem Bay.setChan_measSt (n : Nat) (x : Chan) : (b.setChan n x).measSt = b.measSt := rfl
@[simp] theorem Bay.setChan_eng (n : Nat) (x : Chan) : (b.setChan n x).eng = b.eng := rfl
@[simp] theorem Bay.setChan_images (n : Nat) (x : Chan) : (b.setChan n x).images = b.images := rfl
@[simp] theorem Bay.setChan_verMax (n : Nat) (x : Chan) : (b.setChan n x).verMax = b.verMax := rfl
@[simp] theorem Bay.setChan_revoked (n : Nat) (x : Chan) : (b.setChan n x).revoked = b.revoked := rfl
@[simp] theorem Bay.setChan_groups (n : Nat) (x : Chan) : (b.setChan n x).groups = b.groups := rfl
@[simp] theorem Bay.setChan_sweep (n : Nat) (x : Chan) : (b.setChan n x).sweep = b.sweep := rfl
@[simp] theorem Bay.setChan_loopCh (n : Nat) (x : Chan) : (b.setChan n x).loopCh = b.loopCh := rfl
@[simp] theorem Bay.setChan_loopAx (n : Nat) (x : Chan) : (b.setChan n x).loopAx = b.loopAx := rfl
@[simp] theorem Bay.setChan_trace (n : Nat) (x : Chan) : (b.setChan n x).trace = b.trace := rfl
@[simp] theorem Bay.setChan_grade (n : Nat) (x : Chan) : (b.setChan n x).grade = b.grade := rfl
@[simp] theorem Bay.setChan_modeSt (n : Nat) (x : Chan) : (b.setChan n x).modeSt = b.modeSt := rfl
@[simp] theorem Bay.setChan_plant (n : Nat) (x : Chan) : (b.setChan n x).plant = b.plant := rfl
@[simp] theorem Bay.setChan_wale (n : Nat) (x : Chan) : (b.setChan n x).wale = b.wale := rfl
@[simp] theorem Bay.setChan_axis (n : Nat) (x : Chan) : (b.setChan n x).axis = b.axis := rfl
@[simp] theorem Bay.setChan_axRec (n : Nat) (x : Chan) : (b.setChan n x).axRec = b.axRec := rfl
@[simp] theorem Bay.setChan_enc (n : Nat) (x : Chan) : (b.setChan n x).enc = b.enc := rfl
@[simp] theorem Bay.setChan_thermCh (n : Nat) (x : Chan) : (b.setChan n x).thermCh = b.thermCh := rfl
@[simp] theorem Bay.setChan_therm (n : Nat) (x : Chan) : (b.setChan n x).therm = b.therm := rfl
@[simp] theorem Bay.setChan_safe (n : Nat) (x : Chan) : (b.setChan n x).safe = b.safe := rfl
@[simp] theorem Bay.setChan_red (n : Nat) (x : Chan) : (b.setChan n x).red = b.red := rfl
@[simp] theorem Bay.setChan_memHid (n : Nat) (x : Chan) : (b.setChan n x).memHid = b.memHid := rfl
@[simp] theorem Bay.setChan_trust (n : Nat) (x : Chan) : (b.setChan n x).trust = b.trust := rfl
@[simp] theorem Bay.setChan_weave (n : Nat) (x : Chan) : (b.setChan n x).weave = b.weave := rfl
@[simp] theorem Bay.setChan_can (n : Nat) (x : Chan) : (b.setChan n x).can = b.can := rfl
@[simp] theorem Bay.setChan_latch (n : Nat) (x : Chan) : (b.setChan n x).latch = b.latch := rfl
@[simp] theorem Bay.setChan_shortReq (n : Nat) (x : Chan) : (b.setChan n x).shortReq = b.shortReq := rfl
@[simp] theorem Bay.setChan_out (n : Nat) (x : Chan) : (b.setChan n x).out = b.out := rfl
@[simp] theorem Bay.setChan_fresh (n : Nat) (x : Chan) : (b.setChan n x).fresh = b.fresh := rfl
@[simp] theorem Bay.setChan_rd (n : Nat) (x : Chan) (k : Key) : (b.setChan n x).rd k = b.rd k := rfl
@[simp] theorem Bay.setChan_mode (n : Nat) (x : Chan) : (b.setChan n x).mode = b.mode := rfl

@[simp] theorem Bay.setMeans_regs (n : Nat) (x : Means) : (b.setMeans n x).regs = b.regs := rfl
@[simp] theorem Bay.setMeans_now (n : Nat) (x : Means) : (b.setMeans n x).now = b.now := rfl
@[simp] theorem Bay.setMeans_shadows (n : Nat) (x : Means) : (b.setMeans n x).shadows = b.shadows := rfl
@[simp] theorem Bay.setMeans_hiLatch (n : Nat) (x : Means) : (b.setMeans n x).hiLatch = b.hiLatch := rfl
@[simp] theorem Bay.setMeans_setT (n : Nat) (x : Means) : (b.setMeans n x).setT = b.setT := rfl
@[simp] theorem Bay.setMeans_edge (n : Nat) (x : Means) : (b.setMeans n x).edge = b.edge := rfl
@[simp] theorem Bay.setMeans_log (n : Nat) (x : Means) : (b.setMeans n x).log = b.log := rfl
@[simp] theorem Bay.setMeans_episode (n : Nat) (x : Means) : (b.setMeans n x).episode = b.episode := rfl
@[simp] theorem Bay.setMeans_evBits (n : Nat) (x : Means) : (b.setMeans n x).evBits = b.evBits := rfl
@[simp] theorem Bay.setMeans_stage (n : Nat) (x : Means) : (b.setMeans n x).stage = b.stage := rfl
@[simp] theorem Bay.setMeans_driver (n : Nat) (x : Means) : (b.setMeans n x).driver = b.driver := rfl
@[simp] theorem Bay.setMeans_fram (n : Nat) (x : Means) : (b.setMeans n x).fram = b.fram := rfl
@[simp] theorem Bay.setMeans_border (n : Nat) (x : Means) : (b.setMeans n x).border = b.border := rfl
@[simp] theorem Bay.setMeans_chan (n : Nat) (x : Means) : (b.setMeans n x).chan = b.chan := rfl
@[simp] theorem Bay.setMeans_ring (n : Nat) (x : Means) : (b.setMeans n x).ring = b.ring := rfl
@[simp] theorem Bay.setMeans_cellT (n : Nat) (x : Means) : (b.setMeans n x).cellT = b.cellT := rfl
@[simp] theorem Bay.setMeans_slotv (n : Nat) (x : Means) : (b.setMeans n x).slotv = b.slotv := rfl
@[simp] theorem Bay.setMeans_measCh (n : Nat) (x : Means) : (b.setMeans n x).measCh = b.measCh := rfl
@[simp] theorem Bay.setMeans_measSt (n : Nat) (x : Means) : (b.setMeans n x).measSt = b.measSt := rfl
@[simp] theorem Bay.setMeans_eng (n : Nat) (x : Means) : (b.setMeans n x).eng = b.eng := rfl
@[simp] theorem Bay.setMeans_images (n : Nat) (x : Means) : (b.setMeans n x).images = b.images := rfl
@[simp] theorem Bay.setMeans_verMax (n : Nat) (x : Means) : (b.setMeans n x).verMax = b.verMax := rfl
@[simp] theorem Bay.setMeans_revoked (n : Nat) (x : Means) : (b.setMeans n x).revoked = b.revoked := rfl
@[simp] theorem Bay.setMeans_groups (n : Nat) (x : Means) : (b.setMeans n x).groups = b.groups := rfl
@[simp] theorem Bay.setMeans_sweep (n : Nat) (x : Means) : (b.setMeans n x).sweep = b.sweep := rfl
@[simp] theorem Bay.setMeans_loopCh (n : Nat) (x : Means) : (b.setMeans n x).loopCh = b.loopCh := rfl
@[simp] theorem Bay.setMeans_loopAx (n : Nat) (x : Means) : (b.setMeans n x).loopAx = b.loopAx := rfl
@[simp] theorem Bay.setMeans_trace (n : Nat) (x : Means) : (b.setMeans n x).trace = b.trace := rfl
@[simp] theorem Bay.setMeans_grade (n : Nat) (x : Means) : (b.setMeans n x).grade = b.grade := rfl
@[simp] theorem Bay.setMeans_modeSt (n : Nat) (x : Means) : (b.setMeans n x).modeSt = b.modeSt := rfl
@[simp] theorem Bay.setMeans_plant (n : Nat) (x : Means) : (b.setMeans n x).plant = b.plant := rfl
@[simp] theorem Bay.setMeans_wale (n : Nat) (x : Means) : (b.setMeans n x).wale = b.wale := rfl
@[simp] theorem Bay.setMeans_axis (n : Nat) (x : Means) : (b.setMeans n x).axis = b.axis := rfl
@[simp] theorem Bay.setMeans_axRec (n : Nat) (x : Means) : (b.setMeans n x).axRec = b.axRec := rfl
@[simp] theorem Bay.setMeans_enc (n : Nat) (x : Means) : (b.setMeans n x).enc = b.enc := rfl
@[simp] theorem Bay.setMeans_thermCh (n : Nat) (x : Means) : (b.setMeans n x).thermCh = b.thermCh := rfl
@[simp] theorem Bay.setMeans_therm (n : Nat) (x : Means) : (b.setMeans n x).therm = b.therm := rfl
@[simp] theorem Bay.setMeans_safe (n : Nat) (x : Means) : (b.setMeans n x).safe = b.safe := rfl
@[simp] theorem Bay.setMeans_red (n : Nat) (x : Means) : (b.setMeans n x).red = b.red := rfl
@[simp] theorem Bay.setMeans_memHid (n : Nat) (x : Means) : (b.setMeans n x).memHid = b.memHid := rfl
@[simp] theorem Bay.setMeans_trust (n : Nat) (x : Means) : (b.setMeans n x).trust = b.trust := rfl
@[simp] theorem Bay.setMeans_weave (n : Nat) (x : Means) : (b.setMeans n x).weave = b.weave := rfl
@[simp] theorem Bay.setMeans_can (n : Nat) (x : Means) : (b.setMeans n x).can = b.can := rfl
@[simp] theorem Bay.setMeans_latch (n : Nat) (x : Means) : (b.setMeans n x).latch = b.latch := rfl
@[simp] theorem Bay.setMeans_shortReq (n : Nat) (x : Means) : (b.setMeans n x).shortReq = b.shortReq := rfl
@[simp] theorem Bay.setMeans_out (n : Nat) (x : Means) : (b.setMeans n x).out = b.out := rfl
@[simp] theorem Bay.setMeans_fresh (n : Nat) (x : Means) : (b.setMeans n x).fresh = b.fresh := rfl
@[simp] theorem Bay.setMeans_rd (n : Nat) (x : Means) (k : Key) : (b.setMeans n x).rd k = b.rd k := rfl
@[simp] theorem Bay.setMeans_mode (n : Nat) (x : Means) : (b.setMeans n x).mode = b.mode := rfl

@[simp] theorem Bay.setRing_regs (n : Nat) (x : Ring) : (b.setRing n x).regs = b.regs := rfl
@[simp] theorem Bay.setRing_now (n : Nat) (x : Ring) : (b.setRing n x).now = b.now := rfl
@[simp] theorem Bay.setRing_shadows (n : Nat) (x : Ring) : (b.setRing n x).shadows = b.shadows := rfl
@[simp] theorem Bay.setRing_hiLatch (n : Nat) (x : Ring) : (b.setRing n x).hiLatch = b.hiLatch := rfl
@[simp] theorem Bay.setRing_setT (n : Nat) (x : Ring) : (b.setRing n x).setT = b.setT := rfl
@[simp] theorem Bay.setRing_edge (n : Nat) (x : Ring) : (b.setRing n x).edge = b.edge := rfl
@[simp] theorem Bay.setRing_log (n : Nat) (x : Ring) : (b.setRing n x).log = b.log := rfl
@[simp] theorem Bay.setRing_episode (n : Nat) (x : Ring) : (b.setRing n x).episode = b.episode := rfl
@[simp] theorem Bay.setRing_evBits (n : Nat) (x : Ring) : (b.setRing n x).evBits = b.evBits := rfl
@[simp] theorem Bay.setRing_stage (n : Nat) (x : Ring) : (b.setRing n x).stage = b.stage := rfl
@[simp] theorem Bay.setRing_driver (n : Nat) (x : Ring) : (b.setRing n x).driver = b.driver := rfl
@[simp] theorem Bay.setRing_fram (n : Nat) (x : Ring) : (b.setRing n x).fram = b.fram := rfl
@[simp] theorem Bay.setRing_border (n : Nat) (x : Ring) : (b.setRing n x).border = b.border := rfl
@[simp] theorem Bay.setRing_chan (n : Nat) (x : Ring) : (b.setRing n x).chan = b.chan := rfl
@[simp] theorem Bay.setRing_means (n : Nat) (x : Ring) : (b.setRing n x).means = b.means := rfl
@[simp] theorem Bay.setRing_cellT (n : Nat) (x : Ring) : (b.setRing n x).cellT = b.cellT := rfl
@[simp] theorem Bay.setRing_slotv (n : Nat) (x : Ring) : (b.setRing n x).slotv = b.slotv := rfl
@[simp] theorem Bay.setRing_measCh (n : Nat) (x : Ring) : (b.setRing n x).measCh = b.measCh := rfl
@[simp] theorem Bay.setRing_measSt (n : Nat) (x : Ring) : (b.setRing n x).measSt = b.measSt := rfl
@[simp] theorem Bay.setRing_eng (n : Nat) (x : Ring) : (b.setRing n x).eng = b.eng := rfl
@[simp] theorem Bay.setRing_images (n : Nat) (x : Ring) : (b.setRing n x).images = b.images := rfl
@[simp] theorem Bay.setRing_verMax (n : Nat) (x : Ring) : (b.setRing n x).verMax = b.verMax := rfl
@[simp] theorem Bay.setRing_revoked (n : Nat) (x : Ring) : (b.setRing n x).revoked = b.revoked := rfl
@[simp] theorem Bay.setRing_groups (n : Nat) (x : Ring) : (b.setRing n x).groups = b.groups := rfl
@[simp] theorem Bay.setRing_sweep (n : Nat) (x : Ring) : (b.setRing n x).sweep = b.sweep := rfl
@[simp] theorem Bay.setRing_loopCh (n : Nat) (x : Ring) : (b.setRing n x).loopCh = b.loopCh := rfl
@[simp] theorem Bay.setRing_loopAx (n : Nat) (x : Ring) : (b.setRing n x).loopAx = b.loopAx := rfl
@[simp] theorem Bay.setRing_trace (n : Nat) (x : Ring) : (b.setRing n x).trace = b.trace := rfl
@[simp] theorem Bay.setRing_grade (n : Nat) (x : Ring) : (b.setRing n x).grade = b.grade := rfl
@[simp] theorem Bay.setRing_modeSt (n : Nat) (x : Ring) : (b.setRing n x).modeSt = b.modeSt := rfl
@[simp] theorem Bay.setRing_plant (n : Nat) (x : Ring) : (b.setRing n x).plant = b.plant := rfl
@[simp] theorem Bay.setRing_wale (n : Nat) (x : Ring) : (b.setRing n x).wale = b.wale := rfl
@[simp] theorem Bay.setRing_axis (n : Nat) (x : Ring) : (b.setRing n x).axis = b.axis := rfl
@[simp] theorem Bay.setRing_axRec (n : Nat) (x : Ring) : (b.setRing n x).axRec = b.axRec := rfl
@[simp] theorem Bay.setRing_enc (n : Nat) (x : Ring) : (b.setRing n x).enc = b.enc := rfl
@[simp] theorem Bay.setRing_thermCh (n : Nat) (x : Ring) : (b.setRing n x).thermCh = b.thermCh := rfl
@[simp] theorem Bay.setRing_therm (n : Nat) (x : Ring) : (b.setRing n x).therm = b.therm := rfl
@[simp] theorem Bay.setRing_safe (n : Nat) (x : Ring) : (b.setRing n x).safe = b.safe := rfl
@[simp] theorem Bay.setRing_red (n : Nat) (x : Ring) : (b.setRing n x).red = b.red := rfl
@[simp] theorem Bay.setRing_memHid (n : Nat) (x : Ring) : (b.setRing n x).memHid = b.memHid := rfl
@[simp] theorem Bay.setRing_trust (n : Nat) (x : Ring) : (b.setRing n x).trust = b.trust := rfl
@[simp] theorem Bay.setRing_weave (n : Nat) (x : Ring) : (b.setRing n x).weave = b.weave := rfl
@[simp] theorem Bay.setRing_can (n : Nat) (x : Ring) : (b.setRing n x).can = b.can := rfl
@[simp] theorem Bay.setRing_latch (n : Nat) (x : Ring) : (b.setRing n x).latch = b.latch := rfl
@[simp] theorem Bay.setRing_shortReq (n : Nat) (x : Ring) : (b.setRing n x).shortReq = b.shortReq := rfl
@[simp] theorem Bay.setRing_out (n : Nat) (x : Ring) : (b.setRing n x).out = b.out := rfl
@[simp] theorem Bay.setRing_fresh (n : Nat) (x : Ring) : (b.setRing n x).fresh = b.fresh := rfl
@[simp] theorem Bay.setRing_rd (n : Nat) (x : Ring) (k : Key) : (b.setRing n x).rd k = b.rd k := rfl
@[simp] theorem Bay.setRing_mode (n : Nat) (x : Ring) : (b.setRing n x).mode = b.mode := rfl

@[simp] theorem Bay.setMeasCh_regs (n : Nat) (x : MeasCh) : (b.setMeasCh n x).regs = b.regs := rfl
@[simp] theorem Bay.setMeasCh_now (n : Nat) (x : MeasCh) : (b.setMeasCh n x).now = b.now := rfl
@[simp] theorem Bay.setMeasCh_shadows (n : Nat) (x : MeasCh) : (b.setMeasCh n x).shadows = b.shadows := rfl
@[simp] theorem Bay.setMeasCh_hiLatch (n : Nat) (x : MeasCh) : (b.setMeasCh n x).hiLatch = b.hiLatch := rfl
@[simp] theorem Bay.setMeasCh_setT (n : Nat) (x : MeasCh) : (b.setMeasCh n x).setT = b.setT := rfl
@[simp] theorem Bay.setMeasCh_edge (n : Nat) (x : MeasCh) : (b.setMeasCh n x).edge = b.edge := rfl
@[simp] theorem Bay.setMeasCh_log (n : Nat) (x : MeasCh) : (b.setMeasCh n x).log = b.log := rfl
@[simp] theorem Bay.setMeasCh_episode (n : Nat) (x : MeasCh) : (b.setMeasCh n x).episode = b.episode := rfl
@[simp] theorem Bay.setMeasCh_evBits (n : Nat) (x : MeasCh) : (b.setMeasCh n x).evBits = b.evBits := rfl
@[simp] theorem Bay.setMeasCh_stage (n : Nat) (x : MeasCh) : (b.setMeasCh n x).stage = b.stage := rfl
@[simp] theorem Bay.setMeasCh_driver (n : Nat) (x : MeasCh) : (b.setMeasCh n x).driver = b.driver := rfl
@[simp] theorem Bay.setMeasCh_fram (n : Nat) (x : MeasCh) : (b.setMeasCh n x).fram = b.fram := rfl
@[simp] theorem Bay.setMeasCh_border (n : Nat) (x : MeasCh) : (b.setMeasCh n x).border = b.border := rfl
@[simp] theorem Bay.setMeasCh_chan (n : Nat) (x : MeasCh) : (b.setMeasCh n x).chan = b.chan := rfl
@[simp] theorem Bay.setMeasCh_means (n : Nat) (x : MeasCh) : (b.setMeasCh n x).means = b.means := rfl
@[simp] theorem Bay.setMeasCh_ring (n : Nat) (x : MeasCh) : (b.setMeasCh n x).ring = b.ring := rfl
@[simp] theorem Bay.setMeasCh_cellT (n : Nat) (x : MeasCh) : (b.setMeasCh n x).cellT = b.cellT := rfl
@[simp] theorem Bay.setMeasCh_slotv (n : Nat) (x : MeasCh) : (b.setMeasCh n x).slotv = b.slotv := rfl
@[simp] theorem Bay.setMeasCh_measSt (n : Nat) (x : MeasCh) : (b.setMeasCh n x).measSt = b.measSt := rfl
@[simp] theorem Bay.setMeasCh_eng (n : Nat) (x : MeasCh) : (b.setMeasCh n x).eng = b.eng := rfl
@[simp] theorem Bay.setMeasCh_images (n : Nat) (x : MeasCh) : (b.setMeasCh n x).images = b.images := rfl
@[simp] theorem Bay.setMeasCh_verMax (n : Nat) (x : MeasCh) : (b.setMeasCh n x).verMax = b.verMax := rfl
@[simp] theorem Bay.setMeasCh_revoked (n : Nat) (x : MeasCh) : (b.setMeasCh n x).revoked = b.revoked := rfl
@[simp] theorem Bay.setMeasCh_groups (n : Nat) (x : MeasCh) : (b.setMeasCh n x).groups = b.groups := rfl
@[simp] theorem Bay.setMeasCh_sweep (n : Nat) (x : MeasCh) : (b.setMeasCh n x).sweep = b.sweep := rfl
@[simp] theorem Bay.setMeasCh_loopCh (n : Nat) (x : MeasCh) : (b.setMeasCh n x).loopCh = b.loopCh := rfl
@[simp] theorem Bay.setMeasCh_loopAx (n : Nat) (x : MeasCh) : (b.setMeasCh n x).loopAx = b.loopAx := rfl
@[simp] theorem Bay.setMeasCh_trace (n : Nat) (x : MeasCh) : (b.setMeasCh n x).trace = b.trace := rfl
@[simp] theorem Bay.setMeasCh_grade (n : Nat) (x : MeasCh) : (b.setMeasCh n x).grade = b.grade := rfl
@[simp] theorem Bay.setMeasCh_modeSt (n : Nat) (x : MeasCh) : (b.setMeasCh n x).modeSt = b.modeSt := rfl
@[simp] theorem Bay.setMeasCh_plant (n : Nat) (x : MeasCh) : (b.setMeasCh n x).plant = b.plant := rfl
@[simp] theorem Bay.setMeasCh_wale (n : Nat) (x : MeasCh) : (b.setMeasCh n x).wale = b.wale := rfl
@[simp] theorem Bay.setMeasCh_axis (n : Nat) (x : MeasCh) : (b.setMeasCh n x).axis = b.axis := rfl
@[simp] theorem Bay.setMeasCh_axRec (n : Nat) (x : MeasCh) : (b.setMeasCh n x).axRec = b.axRec := rfl
@[simp] theorem Bay.setMeasCh_enc (n : Nat) (x : MeasCh) : (b.setMeasCh n x).enc = b.enc := rfl
@[simp] theorem Bay.setMeasCh_thermCh (n : Nat) (x : MeasCh) : (b.setMeasCh n x).thermCh = b.thermCh := rfl
@[simp] theorem Bay.setMeasCh_therm (n : Nat) (x : MeasCh) : (b.setMeasCh n x).therm = b.therm := rfl
@[simp] theorem Bay.setMeasCh_safe (n : Nat) (x : MeasCh) : (b.setMeasCh n x).safe = b.safe := rfl
@[simp] theorem Bay.setMeasCh_red (n : Nat) (x : MeasCh) : (b.setMeasCh n x).red = b.red := rfl
@[simp] theorem Bay.setMeasCh_memHid (n : Nat) (x : MeasCh) : (b.setMeasCh n x).memHid = b.memHid := rfl
@[simp] theorem Bay.setMeasCh_trust (n : Nat) (x : MeasCh) : (b.setMeasCh n x).trust = b.trust := rfl
@[simp] theorem Bay.setMeasCh_weave (n : Nat) (x : MeasCh) : (b.setMeasCh n x).weave = b.weave := rfl
@[simp] theorem Bay.setMeasCh_can (n : Nat) (x : MeasCh) : (b.setMeasCh n x).can = b.can := rfl
@[simp] theorem Bay.setMeasCh_latch (n : Nat) (x : MeasCh) : (b.setMeasCh n x).latch = b.latch := rfl
@[simp] theorem Bay.setMeasCh_shortReq (n : Nat) (x : MeasCh) : (b.setMeasCh n x).shortReq = b.shortReq := rfl
@[simp] theorem Bay.setMeasCh_out (n : Nat) (x : MeasCh) : (b.setMeasCh n x).out = b.out := rfl
@[simp] theorem Bay.setMeasCh_fresh (n : Nat) (x : MeasCh) : (b.setMeasCh n x).fresh = b.fresh := rfl
@[simp] theorem Bay.setMeasCh_rd (n : Nat) (x : MeasCh) (k : Key) : (b.setMeasCh n x).rd k = b.rd k := rfl
@[simp] theorem Bay.setMeasCh_mode (n : Nat) (x : MeasCh) : (b.setMeasCh n x).mode = b.mode := rfl

@[simp] theorem Bay.setEng_regs (n : Nat) (x : Eng) : (b.setEng n x).regs = b.regs := rfl
@[simp] theorem Bay.setEng_now (n : Nat) (x : Eng) : (b.setEng n x).now = b.now := rfl
@[simp] theorem Bay.setEng_shadows (n : Nat) (x : Eng) : (b.setEng n x).shadows = b.shadows := rfl
@[simp] theorem Bay.setEng_hiLatch (n : Nat) (x : Eng) : (b.setEng n x).hiLatch = b.hiLatch := rfl
@[simp] theorem Bay.setEng_setT (n : Nat) (x : Eng) : (b.setEng n x).setT = b.setT := rfl
@[simp] theorem Bay.setEng_edge (n : Nat) (x : Eng) : (b.setEng n x).edge = b.edge := rfl
@[simp] theorem Bay.setEng_log (n : Nat) (x : Eng) : (b.setEng n x).log = b.log := rfl
@[simp] theorem Bay.setEng_episode (n : Nat) (x : Eng) : (b.setEng n x).episode = b.episode := rfl
@[simp] theorem Bay.setEng_evBits (n : Nat) (x : Eng) : (b.setEng n x).evBits = b.evBits := rfl
@[simp] theorem Bay.setEng_stage (n : Nat) (x : Eng) : (b.setEng n x).stage = b.stage := rfl
@[simp] theorem Bay.setEng_driver (n : Nat) (x : Eng) : (b.setEng n x).driver = b.driver := rfl
@[simp] theorem Bay.setEng_fram (n : Nat) (x : Eng) : (b.setEng n x).fram = b.fram := rfl
@[simp] theorem Bay.setEng_border (n : Nat) (x : Eng) : (b.setEng n x).border = b.border := rfl
@[simp] theorem Bay.setEng_chan (n : Nat) (x : Eng) : (b.setEng n x).chan = b.chan := rfl
@[simp] theorem Bay.setEng_means (n : Nat) (x : Eng) : (b.setEng n x).means = b.means := rfl
@[simp] theorem Bay.setEng_ring (n : Nat) (x : Eng) : (b.setEng n x).ring = b.ring := rfl
@[simp] theorem Bay.setEng_cellT (n : Nat) (x : Eng) : (b.setEng n x).cellT = b.cellT := rfl
@[simp] theorem Bay.setEng_slotv (n : Nat) (x : Eng) : (b.setEng n x).slotv = b.slotv := rfl
@[simp] theorem Bay.setEng_measCh (n : Nat) (x : Eng) : (b.setEng n x).measCh = b.measCh := rfl
@[simp] theorem Bay.setEng_measSt (n : Nat) (x : Eng) : (b.setEng n x).measSt = b.measSt := rfl
@[simp] theorem Bay.setEng_images (n : Nat) (x : Eng) : (b.setEng n x).images = b.images := rfl
@[simp] theorem Bay.setEng_verMax (n : Nat) (x : Eng) : (b.setEng n x).verMax = b.verMax := rfl
@[simp] theorem Bay.setEng_revoked (n : Nat) (x : Eng) : (b.setEng n x).revoked = b.revoked := rfl
@[simp] theorem Bay.setEng_groups (n : Nat) (x : Eng) : (b.setEng n x).groups = b.groups := rfl
@[simp] theorem Bay.setEng_sweep (n : Nat) (x : Eng) : (b.setEng n x).sweep = b.sweep := rfl
@[simp] theorem Bay.setEng_loopCh (n : Nat) (x : Eng) : (b.setEng n x).loopCh = b.loopCh := rfl
@[simp] theorem Bay.setEng_loopAx (n : Nat) (x : Eng) : (b.setEng n x).loopAx = b.loopAx := rfl
@[simp] theorem Bay.setEng_trace (n : Nat) (x : Eng) : (b.setEng n x).trace = b.trace := rfl
@[simp] theorem Bay.setEng_grade (n : Nat) (x : Eng) : (b.setEng n x).grade = b.grade := rfl
@[simp] theorem Bay.setEng_modeSt (n : Nat) (x : Eng) : (b.setEng n x).modeSt = b.modeSt := rfl
@[simp] theorem Bay.setEng_plant (n : Nat) (x : Eng) : (b.setEng n x).plant = b.plant := rfl
@[simp] theorem Bay.setEng_wale (n : Nat) (x : Eng) : (b.setEng n x).wale = b.wale := rfl
@[simp] theorem Bay.setEng_axis (n : Nat) (x : Eng) : (b.setEng n x).axis = b.axis := rfl
@[simp] theorem Bay.setEng_axRec (n : Nat) (x : Eng) : (b.setEng n x).axRec = b.axRec := rfl
@[simp] theorem Bay.setEng_enc (n : Nat) (x : Eng) : (b.setEng n x).enc = b.enc := rfl
@[simp] theorem Bay.setEng_thermCh (n : Nat) (x : Eng) : (b.setEng n x).thermCh = b.thermCh := rfl
@[simp] theorem Bay.setEng_therm (n : Nat) (x : Eng) : (b.setEng n x).therm = b.therm := rfl
@[simp] theorem Bay.setEng_safe (n : Nat) (x : Eng) : (b.setEng n x).safe = b.safe := rfl
@[simp] theorem Bay.setEng_red (n : Nat) (x : Eng) : (b.setEng n x).red = b.red := rfl
@[simp] theorem Bay.setEng_memHid (n : Nat) (x : Eng) : (b.setEng n x).memHid = b.memHid := rfl
@[simp] theorem Bay.setEng_trust (n : Nat) (x : Eng) : (b.setEng n x).trust = b.trust := rfl
@[simp] theorem Bay.setEng_weave (n : Nat) (x : Eng) : (b.setEng n x).weave = b.weave := rfl
@[simp] theorem Bay.setEng_can (n : Nat) (x : Eng) : (b.setEng n x).can = b.can := rfl
@[simp] theorem Bay.setEng_latch (n : Nat) (x : Eng) : (b.setEng n x).latch = b.latch := rfl
@[simp] theorem Bay.setEng_shortReq (n : Nat) (x : Eng) : (b.setEng n x).shortReq = b.shortReq := rfl
@[simp] theorem Bay.setEng_out (n : Nat) (x : Eng) : (b.setEng n x).out = b.out := rfl
@[simp] theorem Bay.setEng_fresh (n : Nat) (x : Eng) : (b.setEng n x).fresh = b.fresh := rfl
@[simp] theorem Bay.setEng_rd (n : Nat) (x : Eng) (k : Key) : (b.setEng n x).rd k = b.rd k := rfl
@[simp] theorem Bay.setEng_mode (n : Nat) (x : Eng) : (b.setEng n x).mode = b.mode := rfl

@[simp] theorem Bay.setGroup_regs (n : Nat) (x : Group) : (b.setGroup n x).regs = b.regs := rfl
@[simp] theorem Bay.setGroup_now (n : Nat) (x : Group) : (b.setGroup n x).now = b.now := rfl
@[simp] theorem Bay.setGroup_shadows (n : Nat) (x : Group) : (b.setGroup n x).shadows = b.shadows := rfl
@[simp] theorem Bay.setGroup_hiLatch (n : Nat) (x : Group) : (b.setGroup n x).hiLatch = b.hiLatch := rfl
@[simp] theorem Bay.setGroup_setT (n : Nat) (x : Group) : (b.setGroup n x).setT = b.setT := rfl
@[simp] theorem Bay.setGroup_edge (n : Nat) (x : Group) : (b.setGroup n x).edge = b.edge := rfl
@[simp] theorem Bay.setGroup_log (n : Nat) (x : Group) : (b.setGroup n x).log = b.log := rfl
@[simp] theorem Bay.setGroup_episode (n : Nat) (x : Group) : (b.setGroup n x).episode = b.episode := rfl
@[simp] theorem Bay.setGroup_evBits (n : Nat) (x : Group) : (b.setGroup n x).evBits = b.evBits := rfl
@[simp] theorem Bay.setGroup_stage (n : Nat) (x : Group) : (b.setGroup n x).stage = b.stage := rfl
@[simp] theorem Bay.setGroup_driver (n : Nat) (x : Group) : (b.setGroup n x).driver = b.driver := rfl
@[simp] theorem Bay.setGroup_fram (n : Nat) (x : Group) : (b.setGroup n x).fram = b.fram := rfl
@[simp] theorem Bay.setGroup_border (n : Nat) (x : Group) : (b.setGroup n x).border = b.border := rfl
@[simp] theorem Bay.setGroup_chan (n : Nat) (x : Group) : (b.setGroup n x).chan = b.chan := rfl
@[simp] theorem Bay.setGroup_means (n : Nat) (x : Group) : (b.setGroup n x).means = b.means := rfl
@[simp] theorem Bay.setGroup_ring (n : Nat) (x : Group) : (b.setGroup n x).ring = b.ring := rfl
@[simp] theorem Bay.setGroup_cellT (n : Nat) (x : Group) : (b.setGroup n x).cellT = b.cellT := rfl
@[simp] theorem Bay.setGroup_slotv (n : Nat) (x : Group) : (b.setGroup n x).slotv = b.slotv := rfl
@[simp] theorem Bay.setGroup_measCh (n : Nat) (x : Group) : (b.setGroup n x).measCh = b.measCh := rfl
@[simp] theorem Bay.setGroup_measSt (n : Nat) (x : Group) : (b.setGroup n x).measSt = b.measSt := rfl
@[simp] theorem Bay.setGroup_eng (n : Nat) (x : Group) : (b.setGroup n x).eng = b.eng := rfl
@[simp] theorem Bay.setGroup_images (n : Nat) (x : Group) : (b.setGroup n x).images = b.images := rfl
@[simp] theorem Bay.setGroup_verMax (n : Nat) (x : Group) : (b.setGroup n x).verMax = b.verMax := rfl
@[simp] theorem Bay.setGroup_revoked (n : Nat) (x : Group) : (b.setGroup n x).revoked = b.revoked := rfl
@[simp] theorem Bay.setGroup_sweep (n : Nat) (x : Group) : (b.setGroup n x).sweep = b.sweep := rfl
@[simp] theorem Bay.setGroup_loopCh (n : Nat) (x : Group) : (b.setGroup n x).loopCh = b.loopCh := rfl
@[simp] theorem Bay.setGroup_loopAx (n : Nat) (x : Group) : (b.setGroup n x).loopAx = b.loopAx := rfl
@[simp] theorem Bay.setGroup_trace (n : Nat) (x : Group) : (b.setGroup n x).trace = b.trace := rfl
@[simp] theorem Bay.setGroup_grade (n : Nat) (x : Group) : (b.setGroup n x).grade = b.grade := rfl
@[simp] theorem Bay.setGroup_modeSt (n : Nat) (x : Group) : (b.setGroup n x).modeSt = b.modeSt := rfl
@[simp] theorem Bay.setGroup_plant (n : Nat) (x : Group) : (b.setGroup n x).plant = b.plant := rfl
@[simp] theorem Bay.setGroup_wale (n : Nat) (x : Group) : (b.setGroup n x).wale = b.wale := rfl
@[simp] theorem Bay.setGroup_axis (n : Nat) (x : Group) : (b.setGroup n x).axis = b.axis := rfl
@[simp] theorem Bay.setGroup_axRec (n : Nat) (x : Group) : (b.setGroup n x).axRec = b.axRec := rfl
@[simp] theorem Bay.setGroup_enc (n : Nat) (x : Group) : (b.setGroup n x).enc = b.enc := rfl
@[simp] theorem Bay.setGroup_thermCh (n : Nat) (x : Group) : (b.setGroup n x).thermCh = b.thermCh := rfl
@[simp] theorem Bay.setGroup_therm (n : Nat) (x : Group) : (b.setGroup n x).therm = b.therm := rfl
@[simp] theorem Bay.setGroup_safe (n : Nat) (x : Group) : (b.setGroup n x).safe = b.safe := rfl
@[simp] theorem Bay.setGroup_red (n : Nat) (x : Group) : (b.setGroup n x).red = b.red := rfl
@[simp] theorem Bay.setGroup_memHid (n : Nat) (x : Group) : (b.setGroup n x).memHid = b.memHid := rfl
@[simp] theorem Bay.setGroup_trust (n : Nat) (x : Group) : (b.setGroup n x).trust = b.trust := rfl
@[simp] theorem Bay.setGroup_weave (n : Nat) (x : Group) : (b.setGroup n x).weave = b.weave := rfl
@[simp] theorem Bay.setGroup_can (n : Nat) (x : Group) : (b.setGroup n x).can = b.can := rfl
@[simp] theorem Bay.setGroup_latch (n : Nat) (x : Group) : (b.setGroup n x).latch = b.latch := rfl
@[simp] theorem Bay.setGroup_shortReq (n : Nat) (x : Group) : (b.setGroup n x).shortReq = b.shortReq := rfl
@[simp] theorem Bay.setGroup_out (n : Nat) (x : Group) : (b.setGroup n x).out = b.out := rfl
@[simp] theorem Bay.setGroup_fresh (n : Nat) (x : Group) : (b.setGroup n x).fresh = b.fresh := rfl
@[simp] theorem Bay.setGroup_rd (n : Nat) (x : Group) (k : Key) : (b.setGroup n x).rd k = b.rd k := rfl
@[simp] theorem Bay.setGroup_mode (n : Nat) (x : Group) : (b.setGroup n x).mode = b.mode := rfl

@[simp] theorem Bay.setSweep_regs (n : Nat) (x : Sweep) : (b.setSweep n x).regs = b.regs := rfl
@[simp] theorem Bay.setSweep_now (n : Nat) (x : Sweep) : (b.setSweep n x).now = b.now := rfl
@[simp] theorem Bay.setSweep_shadows (n : Nat) (x : Sweep) : (b.setSweep n x).shadows = b.shadows := rfl
@[simp] theorem Bay.setSweep_hiLatch (n : Nat) (x : Sweep) : (b.setSweep n x).hiLatch = b.hiLatch := rfl
@[simp] theorem Bay.setSweep_setT (n : Nat) (x : Sweep) : (b.setSweep n x).setT = b.setT := rfl
@[simp] theorem Bay.setSweep_edge (n : Nat) (x : Sweep) : (b.setSweep n x).edge = b.edge := rfl
@[simp] theorem Bay.setSweep_log (n : Nat) (x : Sweep) : (b.setSweep n x).log = b.log := rfl
@[simp] theorem Bay.setSweep_episode (n : Nat) (x : Sweep) : (b.setSweep n x).episode = b.episode := rfl
@[simp] theorem Bay.setSweep_evBits (n : Nat) (x : Sweep) : (b.setSweep n x).evBits = b.evBits := rfl
@[simp] theorem Bay.setSweep_stage (n : Nat) (x : Sweep) : (b.setSweep n x).stage = b.stage := rfl
@[simp] theorem Bay.setSweep_driver (n : Nat) (x : Sweep) : (b.setSweep n x).driver = b.driver := rfl
@[simp] theorem Bay.setSweep_fram (n : Nat) (x : Sweep) : (b.setSweep n x).fram = b.fram := rfl
@[simp] theorem Bay.setSweep_border (n : Nat) (x : Sweep) : (b.setSweep n x).border = b.border := rfl
@[simp] theorem Bay.setSweep_chan (n : Nat) (x : Sweep) : (b.setSweep n x).chan = b.chan := rfl
@[simp] theorem Bay.setSweep_means (n : Nat) (x : Sweep) : (b.setSweep n x).means = b.means := rfl
@[simp] theorem Bay.setSweep_ring (n : Nat) (x : Sweep) : (b.setSweep n x).ring = b.ring := rfl
@[simp] theorem Bay.setSweep_cellT (n : Nat) (x : Sweep) : (b.setSweep n x).cellT = b.cellT := rfl
@[simp] theorem Bay.setSweep_slotv (n : Nat) (x : Sweep) : (b.setSweep n x).slotv = b.slotv := rfl
@[simp] theorem Bay.setSweep_measCh (n : Nat) (x : Sweep) : (b.setSweep n x).measCh = b.measCh := rfl
@[simp] theorem Bay.setSweep_measSt (n : Nat) (x : Sweep) : (b.setSweep n x).measSt = b.measSt := rfl
@[simp] theorem Bay.setSweep_eng (n : Nat) (x : Sweep) : (b.setSweep n x).eng = b.eng := rfl
@[simp] theorem Bay.setSweep_images (n : Nat) (x : Sweep) : (b.setSweep n x).images = b.images := rfl
@[simp] theorem Bay.setSweep_verMax (n : Nat) (x : Sweep) : (b.setSweep n x).verMax = b.verMax := rfl
@[simp] theorem Bay.setSweep_revoked (n : Nat) (x : Sweep) : (b.setSweep n x).revoked = b.revoked := rfl
@[simp] theorem Bay.setSweep_groups (n : Nat) (x : Sweep) : (b.setSweep n x).groups = b.groups := rfl
@[simp] theorem Bay.setSweep_loopCh (n : Nat) (x : Sweep) : (b.setSweep n x).loopCh = b.loopCh := rfl
@[simp] theorem Bay.setSweep_loopAx (n : Nat) (x : Sweep) : (b.setSweep n x).loopAx = b.loopAx := rfl
@[simp] theorem Bay.setSweep_trace (n : Nat) (x : Sweep) : (b.setSweep n x).trace = b.trace := rfl
@[simp] theorem Bay.setSweep_grade (n : Nat) (x : Sweep) : (b.setSweep n x).grade = b.grade := rfl
@[simp] theorem Bay.setSweep_modeSt (n : Nat) (x : Sweep) : (b.setSweep n x).modeSt = b.modeSt := rfl
@[simp] theorem Bay.setSweep_plant (n : Nat) (x : Sweep) : (b.setSweep n x).plant = b.plant := rfl
@[simp] theorem Bay.setSweep_wale (n : Nat) (x : Sweep) : (b.setSweep n x).wale = b.wale := rfl
@[simp] theorem Bay.setSweep_axis (n : Nat) (x : Sweep) : (b.setSweep n x).axis = b.axis := rfl
@[simp] theorem Bay.setSweep_axRec (n : Nat) (x : Sweep) : (b.setSweep n x).axRec = b.axRec := rfl
@[simp] theorem Bay.setSweep_enc (n : Nat) (x : Sweep) : (b.setSweep n x).enc = b.enc := rfl
@[simp] theorem Bay.setSweep_thermCh (n : Nat) (x : Sweep) : (b.setSweep n x).thermCh = b.thermCh := rfl
@[simp] theorem Bay.setSweep_therm (n : Nat) (x : Sweep) : (b.setSweep n x).therm = b.therm := rfl
@[simp] theorem Bay.setSweep_safe (n : Nat) (x : Sweep) : (b.setSweep n x).safe = b.safe := rfl
@[simp] theorem Bay.setSweep_red (n : Nat) (x : Sweep) : (b.setSweep n x).red = b.red := rfl
@[simp] theorem Bay.setSweep_memHid (n : Nat) (x : Sweep) : (b.setSweep n x).memHid = b.memHid := rfl
@[simp] theorem Bay.setSweep_trust (n : Nat) (x : Sweep) : (b.setSweep n x).trust = b.trust := rfl
@[simp] theorem Bay.setSweep_weave (n : Nat) (x : Sweep) : (b.setSweep n x).weave = b.weave := rfl
@[simp] theorem Bay.setSweep_can (n : Nat) (x : Sweep) : (b.setSweep n x).can = b.can := rfl
@[simp] theorem Bay.setSweep_latch (n : Nat) (x : Sweep) : (b.setSweep n x).latch = b.latch := rfl
@[simp] theorem Bay.setSweep_shortReq (n : Nat) (x : Sweep) : (b.setSweep n x).shortReq = b.shortReq := rfl
@[simp] theorem Bay.setSweep_out (n : Nat) (x : Sweep) : (b.setSweep n x).out = b.out := rfl
@[simp] theorem Bay.setSweep_fresh (n : Nat) (x : Sweep) : (b.setSweep n x).fresh = b.fresh := rfl
@[simp] theorem Bay.setSweep_rd (n : Nat) (x : Sweep) (k : Key) : (b.setSweep n x).rd k = b.rd k := rfl
@[simp] theorem Bay.setSweep_mode (n : Nat) (x : Sweep) : (b.setSweep n x).mode = b.mode := rfl

@[simp] theorem Bay.setLoopCh_regs (n : Nat) (x : LoopCh) : (b.setLoopCh n x).regs = b.regs := rfl
@[simp] theorem Bay.setLoopCh_now (n : Nat) (x : LoopCh) : (b.setLoopCh n x).now = b.now := rfl
@[simp] theorem Bay.setLoopCh_shadows (n : Nat) (x : LoopCh) : (b.setLoopCh n x).shadows = b.shadows := rfl
@[simp] theorem Bay.setLoopCh_hiLatch (n : Nat) (x : LoopCh) : (b.setLoopCh n x).hiLatch = b.hiLatch := rfl
@[simp] theorem Bay.setLoopCh_setT (n : Nat) (x : LoopCh) : (b.setLoopCh n x).setT = b.setT := rfl
@[simp] theorem Bay.setLoopCh_edge (n : Nat) (x : LoopCh) : (b.setLoopCh n x).edge = b.edge := rfl
@[simp] theorem Bay.setLoopCh_log (n : Nat) (x : LoopCh) : (b.setLoopCh n x).log = b.log := rfl
@[simp] theorem Bay.setLoopCh_episode (n : Nat) (x : LoopCh) : (b.setLoopCh n x).episode = b.episode := rfl
@[simp] theorem Bay.setLoopCh_evBits (n : Nat) (x : LoopCh) : (b.setLoopCh n x).evBits = b.evBits := rfl
@[simp] theorem Bay.setLoopCh_stage (n : Nat) (x : LoopCh) : (b.setLoopCh n x).stage = b.stage := rfl
@[simp] theorem Bay.setLoopCh_driver (n : Nat) (x : LoopCh) : (b.setLoopCh n x).driver = b.driver := rfl
@[simp] theorem Bay.setLoopCh_fram (n : Nat) (x : LoopCh) : (b.setLoopCh n x).fram = b.fram := rfl
@[simp] theorem Bay.setLoopCh_border (n : Nat) (x : LoopCh) : (b.setLoopCh n x).border = b.border := rfl
@[simp] theorem Bay.setLoopCh_chan (n : Nat) (x : LoopCh) : (b.setLoopCh n x).chan = b.chan := rfl
@[simp] theorem Bay.setLoopCh_means (n : Nat) (x : LoopCh) : (b.setLoopCh n x).means = b.means := rfl
@[simp] theorem Bay.setLoopCh_ring (n : Nat) (x : LoopCh) : (b.setLoopCh n x).ring = b.ring := rfl
@[simp] theorem Bay.setLoopCh_cellT (n : Nat) (x : LoopCh) : (b.setLoopCh n x).cellT = b.cellT := rfl
@[simp] theorem Bay.setLoopCh_slotv (n : Nat) (x : LoopCh) : (b.setLoopCh n x).slotv = b.slotv := rfl
@[simp] theorem Bay.setLoopCh_measCh (n : Nat) (x : LoopCh) : (b.setLoopCh n x).measCh = b.measCh := rfl
@[simp] theorem Bay.setLoopCh_measSt (n : Nat) (x : LoopCh) : (b.setLoopCh n x).measSt = b.measSt := rfl
@[simp] theorem Bay.setLoopCh_eng (n : Nat) (x : LoopCh) : (b.setLoopCh n x).eng = b.eng := rfl
@[simp] theorem Bay.setLoopCh_images (n : Nat) (x : LoopCh) : (b.setLoopCh n x).images = b.images := rfl
@[simp] theorem Bay.setLoopCh_verMax (n : Nat) (x : LoopCh) : (b.setLoopCh n x).verMax = b.verMax := rfl
@[simp] theorem Bay.setLoopCh_revoked (n : Nat) (x : LoopCh) : (b.setLoopCh n x).revoked = b.revoked := rfl
@[simp] theorem Bay.setLoopCh_groups (n : Nat) (x : LoopCh) : (b.setLoopCh n x).groups = b.groups := rfl
@[simp] theorem Bay.setLoopCh_sweep (n : Nat) (x : LoopCh) : (b.setLoopCh n x).sweep = b.sweep := rfl
@[simp] theorem Bay.setLoopCh_loopAx (n : Nat) (x : LoopCh) : (b.setLoopCh n x).loopAx = b.loopAx := rfl
@[simp] theorem Bay.setLoopCh_trace (n : Nat) (x : LoopCh) : (b.setLoopCh n x).trace = b.trace := rfl
@[simp] theorem Bay.setLoopCh_grade (n : Nat) (x : LoopCh) : (b.setLoopCh n x).grade = b.grade := rfl
@[simp] theorem Bay.setLoopCh_modeSt (n : Nat) (x : LoopCh) : (b.setLoopCh n x).modeSt = b.modeSt := rfl
@[simp] theorem Bay.setLoopCh_plant (n : Nat) (x : LoopCh) : (b.setLoopCh n x).plant = b.plant := rfl
@[simp] theorem Bay.setLoopCh_wale (n : Nat) (x : LoopCh) : (b.setLoopCh n x).wale = b.wale := rfl
@[simp] theorem Bay.setLoopCh_axis (n : Nat) (x : LoopCh) : (b.setLoopCh n x).axis = b.axis := rfl
@[simp] theorem Bay.setLoopCh_axRec (n : Nat) (x : LoopCh) : (b.setLoopCh n x).axRec = b.axRec := rfl
@[simp] theorem Bay.setLoopCh_enc (n : Nat) (x : LoopCh) : (b.setLoopCh n x).enc = b.enc := rfl
@[simp] theorem Bay.setLoopCh_thermCh (n : Nat) (x : LoopCh) : (b.setLoopCh n x).thermCh = b.thermCh := rfl
@[simp] theorem Bay.setLoopCh_therm (n : Nat) (x : LoopCh) : (b.setLoopCh n x).therm = b.therm := rfl
@[simp] theorem Bay.setLoopCh_safe (n : Nat) (x : LoopCh) : (b.setLoopCh n x).safe = b.safe := rfl
@[simp] theorem Bay.setLoopCh_red (n : Nat) (x : LoopCh) : (b.setLoopCh n x).red = b.red := rfl
@[simp] theorem Bay.setLoopCh_memHid (n : Nat) (x : LoopCh) : (b.setLoopCh n x).memHid = b.memHid := rfl
@[simp] theorem Bay.setLoopCh_trust (n : Nat) (x : LoopCh) : (b.setLoopCh n x).trust = b.trust := rfl
@[simp] theorem Bay.setLoopCh_weave (n : Nat) (x : LoopCh) : (b.setLoopCh n x).weave = b.weave := rfl
@[simp] theorem Bay.setLoopCh_can (n : Nat) (x : LoopCh) : (b.setLoopCh n x).can = b.can := rfl
@[simp] theorem Bay.setLoopCh_latch (n : Nat) (x : LoopCh) : (b.setLoopCh n x).latch = b.latch := rfl
@[simp] theorem Bay.setLoopCh_shortReq (n : Nat) (x : LoopCh) : (b.setLoopCh n x).shortReq = b.shortReq := rfl
@[simp] theorem Bay.setLoopCh_out (n : Nat) (x : LoopCh) : (b.setLoopCh n x).out = b.out := rfl
@[simp] theorem Bay.setLoopCh_fresh (n : Nat) (x : LoopCh) : (b.setLoopCh n x).fresh = b.fresh := rfl
@[simp] theorem Bay.setLoopCh_rd (n : Nat) (x : LoopCh) (k : Key) : (b.setLoopCh n x).rd k = b.rd k := rfl
@[simp] theorem Bay.setLoopCh_mode (n : Nat) (x : LoopCh) : (b.setLoopCh n x).mode = b.mode := rfl

@[simp] theorem Bay.setLoopAx_regs (n : Nat) (x : LoopAx) : (b.setLoopAx n x).regs = b.regs := rfl
@[simp] theorem Bay.setLoopAx_now (n : Nat) (x : LoopAx) : (b.setLoopAx n x).now = b.now := rfl
@[simp] theorem Bay.setLoopAx_shadows (n : Nat) (x : LoopAx) : (b.setLoopAx n x).shadows = b.shadows := rfl
@[simp] theorem Bay.setLoopAx_hiLatch (n : Nat) (x : LoopAx) : (b.setLoopAx n x).hiLatch = b.hiLatch := rfl
@[simp] theorem Bay.setLoopAx_setT (n : Nat) (x : LoopAx) : (b.setLoopAx n x).setT = b.setT := rfl
@[simp] theorem Bay.setLoopAx_edge (n : Nat) (x : LoopAx) : (b.setLoopAx n x).edge = b.edge := rfl
@[simp] theorem Bay.setLoopAx_log (n : Nat) (x : LoopAx) : (b.setLoopAx n x).log = b.log := rfl
@[simp] theorem Bay.setLoopAx_episode (n : Nat) (x : LoopAx) : (b.setLoopAx n x).episode = b.episode := rfl
@[simp] theorem Bay.setLoopAx_evBits (n : Nat) (x : LoopAx) : (b.setLoopAx n x).evBits = b.evBits := rfl
@[simp] theorem Bay.setLoopAx_stage (n : Nat) (x : LoopAx) : (b.setLoopAx n x).stage = b.stage := rfl
@[simp] theorem Bay.setLoopAx_driver (n : Nat) (x : LoopAx) : (b.setLoopAx n x).driver = b.driver := rfl
@[simp] theorem Bay.setLoopAx_fram (n : Nat) (x : LoopAx) : (b.setLoopAx n x).fram = b.fram := rfl
@[simp] theorem Bay.setLoopAx_border (n : Nat) (x : LoopAx) : (b.setLoopAx n x).border = b.border := rfl
@[simp] theorem Bay.setLoopAx_chan (n : Nat) (x : LoopAx) : (b.setLoopAx n x).chan = b.chan := rfl
@[simp] theorem Bay.setLoopAx_means (n : Nat) (x : LoopAx) : (b.setLoopAx n x).means = b.means := rfl
@[simp] theorem Bay.setLoopAx_ring (n : Nat) (x : LoopAx) : (b.setLoopAx n x).ring = b.ring := rfl
@[simp] theorem Bay.setLoopAx_cellT (n : Nat) (x : LoopAx) : (b.setLoopAx n x).cellT = b.cellT := rfl
@[simp] theorem Bay.setLoopAx_slotv (n : Nat) (x : LoopAx) : (b.setLoopAx n x).slotv = b.slotv := rfl
@[simp] theorem Bay.setLoopAx_measCh (n : Nat) (x : LoopAx) : (b.setLoopAx n x).measCh = b.measCh := rfl
@[simp] theorem Bay.setLoopAx_measSt (n : Nat) (x : LoopAx) : (b.setLoopAx n x).measSt = b.measSt := rfl
@[simp] theorem Bay.setLoopAx_eng (n : Nat) (x : LoopAx) : (b.setLoopAx n x).eng = b.eng := rfl
@[simp] theorem Bay.setLoopAx_images (n : Nat) (x : LoopAx) : (b.setLoopAx n x).images = b.images := rfl
@[simp] theorem Bay.setLoopAx_verMax (n : Nat) (x : LoopAx) : (b.setLoopAx n x).verMax = b.verMax := rfl
@[simp] theorem Bay.setLoopAx_revoked (n : Nat) (x : LoopAx) : (b.setLoopAx n x).revoked = b.revoked := rfl
@[simp] theorem Bay.setLoopAx_groups (n : Nat) (x : LoopAx) : (b.setLoopAx n x).groups = b.groups := rfl
@[simp] theorem Bay.setLoopAx_sweep (n : Nat) (x : LoopAx) : (b.setLoopAx n x).sweep = b.sweep := rfl
@[simp] theorem Bay.setLoopAx_loopCh (n : Nat) (x : LoopAx) : (b.setLoopAx n x).loopCh = b.loopCh := rfl
@[simp] theorem Bay.setLoopAx_trace (n : Nat) (x : LoopAx) : (b.setLoopAx n x).trace = b.trace := rfl
@[simp] theorem Bay.setLoopAx_grade (n : Nat) (x : LoopAx) : (b.setLoopAx n x).grade = b.grade := rfl
@[simp] theorem Bay.setLoopAx_modeSt (n : Nat) (x : LoopAx) : (b.setLoopAx n x).modeSt = b.modeSt := rfl
@[simp] theorem Bay.setLoopAx_plant (n : Nat) (x : LoopAx) : (b.setLoopAx n x).plant = b.plant := rfl
@[simp] theorem Bay.setLoopAx_wale (n : Nat) (x : LoopAx) : (b.setLoopAx n x).wale = b.wale := rfl
@[simp] theorem Bay.setLoopAx_axis (n : Nat) (x : LoopAx) : (b.setLoopAx n x).axis = b.axis := rfl
@[simp] theorem Bay.setLoopAx_axRec (n : Nat) (x : LoopAx) : (b.setLoopAx n x).axRec = b.axRec := rfl
@[simp] theorem Bay.setLoopAx_enc (n : Nat) (x : LoopAx) : (b.setLoopAx n x).enc = b.enc := rfl
@[simp] theorem Bay.setLoopAx_thermCh (n : Nat) (x : LoopAx) : (b.setLoopAx n x).thermCh = b.thermCh := rfl
@[simp] theorem Bay.setLoopAx_therm (n : Nat) (x : LoopAx) : (b.setLoopAx n x).therm = b.therm := rfl
@[simp] theorem Bay.setLoopAx_safe (n : Nat) (x : LoopAx) : (b.setLoopAx n x).safe = b.safe := rfl
@[simp] theorem Bay.setLoopAx_red (n : Nat) (x : LoopAx) : (b.setLoopAx n x).red = b.red := rfl
@[simp] theorem Bay.setLoopAx_memHid (n : Nat) (x : LoopAx) : (b.setLoopAx n x).memHid = b.memHid := rfl
@[simp] theorem Bay.setLoopAx_trust (n : Nat) (x : LoopAx) : (b.setLoopAx n x).trust = b.trust := rfl
@[simp] theorem Bay.setLoopAx_weave (n : Nat) (x : LoopAx) : (b.setLoopAx n x).weave = b.weave := rfl
@[simp] theorem Bay.setLoopAx_can (n : Nat) (x : LoopAx) : (b.setLoopAx n x).can = b.can := rfl
@[simp] theorem Bay.setLoopAx_latch (n : Nat) (x : LoopAx) : (b.setLoopAx n x).latch = b.latch := rfl
@[simp] theorem Bay.setLoopAx_shortReq (n : Nat) (x : LoopAx) : (b.setLoopAx n x).shortReq = b.shortReq := rfl
@[simp] theorem Bay.setLoopAx_out (n : Nat) (x : LoopAx) : (b.setLoopAx n x).out = b.out := rfl
@[simp] theorem Bay.setLoopAx_fresh (n : Nat) (x : LoopAx) : (b.setLoopAx n x).fresh = b.fresh := rfl
@[simp] theorem Bay.setLoopAx_rd (n : Nat) (x : LoopAx) (k : Key) : (b.setLoopAx n x).rd k = b.rd k := rfl
@[simp] theorem Bay.setLoopAx_mode (n : Nat) (x : LoopAx) : (b.setLoopAx n x).mode = b.mode := rfl

@[simp] theorem Bay.setGrade_regs (n : Nat) (x : Option GradeVec) : (b.setGrade n x).regs = b.regs := rfl
@[simp] theorem Bay.setGrade_now (n : Nat) (x : Option GradeVec) : (b.setGrade n x).now = b.now := rfl
@[simp] theorem Bay.setGrade_shadows (n : Nat) (x : Option GradeVec) : (b.setGrade n x).shadows = b.shadows := rfl
@[simp] theorem Bay.setGrade_hiLatch (n : Nat) (x : Option GradeVec) : (b.setGrade n x).hiLatch = b.hiLatch := rfl
@[simp] theorem Bay.setGrade_setT (n : Nat) (x : Option GradeVec) : (b.setGrade n x).setT = b.setT := rfl
@[simp] theorem Bay.setGrade_edge (n : Nat) (x : Option GradeVec) : (b.setGrade n x).edge = b.edge := rfl
@[simp] theorem Bay.setGrade_log (n : Nat) (x : Option GradeVec) : (b.setGrade n x).log = b.log := rfl
@[simp] theorem Bay.setGrade_episode (n : Nat) (x : Option GradeVec) : (b.setGrade n x).episode = b.episode := rfl
@[simp] theorem Bay.setGrade_evBits (n : Nat) (x : Option GradeVec) : (b.setGrade n x).evBits = b.evBits := rfl
@[simp] theorem Bay.setGrade_stage (n : Nat) (x : Option GradeVec) : (b.setGrade n x).stage = b.stage := rfl
@[simp] theorem Bay.setGrade_driver (n : Nat) (x : Option GradeVec) : (b.setGrade n x).driver = b.driver := rfl
@[simp] theorem Bay.setGrade_fram (n : Nat) (x : Option GradeVec) : (b.setGrade n x).fram = b.fram := rfl
@[simp] theorem Bay.setGrade_border (n : Nat) (x : Option GradeVec) : (b.setGrade n x).border = b.border := rfl
@[simp] theorem Bay.setGrade_chan (n : Nat) (x : Option GradeVec) : (b.setGrade n x).chan = b.chan := rfl
@[simp] theorem Bay.setGrade_means (n : Nat) (x : Option GradeVec) : (b.setGrade n x).means = b.means := rfl
@[simp] theorem Bay.setGrade_ring (n : Nat) (x : Option GradeVec) : (b.setGrade n x).ring = b.ring := rfl
@[simp] theorem Bay.setGrade_cellT (n : Nat) (x : Option GradeVec) : (b.setGrade n x).cellT = b.cellT := rfl
@[simp] theorem Bay.setGrade_slotv (n : Nat) (x : Option GradeVec) : (b.setGrade n x).slotv = b.slotv := rfl
@[simp] theorem Bay.setGrade_measCh (n : Nat) (x : Option GradeVec) : (b.setGrade n x).measCh = b.measCh := rfl
@[simp] theorem Bay.setGrade_measSt (n : Nat) (x : Option GradeVec) : (b.setGrade n x).measSt = b.measSt := rfl
@[simp] theorem Bay.setGrade_eng (n : Nat) (x : Option GradeVec) : (b.setGrade n x).eng = b.eng := rfl
@[simp] theorem Bay.setGrade_images (n : Nat) (x : Option GradeVec) : (b.setGrade n x).images = b.images := rfl
@[simp] theorem Bay.setGrade_verMax (n : Nat) (x : Option GradeVec) : (b.setGrade n x).verMax = b.verMax := rfl
@[simp] theorem Bay.setGrade_revoked (n : Nat) (x : Option GradeVec) : (b.setGrade n x).revoked = b.revoked := rfl
@[simp] theorem Bay.setGrade_groups (n : Nat) (x : Option GradeVec) : (b.setGrade n x).groups = b.groups := rfl
@[simp] theorem Bay.setGrade_sweep (n : Nat) (x : Option GradeVec) : (b.setGrade n x).sweep = b.sweep := rfl
@[simp] theorem Bay.setGrade_loopCh (n : Nat) (x : Option GradeVec) : (b.setGrade n x).loopCh = b.loopCh := rfl
@[simp] theorem Bay.setGrade_loopAx (n : Nat) (x : Option GradeVec) : (b.setGrade n x).loopAx = b.loopAx := rfl
@[simp] theorem Bay.setGrade_trace (n : Nat) (x : Option GradeVec) : (b.setGrade n x).trace = b.trace := rfl
@[simp] theorem Bay.setGrade_modeSt (n : Nat) (x : Option GradeVec) : (b.setGrade n x).modeSt = b.modeSt := rfl
@[simp] theorem Bay.setGrade_plant (n : Nat) (x : Option GradeVec) : (b.setGrade n x).plant = b.plant := rfl
@[simp] theorem Bay.setGrade_wale (n : Nat) (x : Option GradeVec) : (b.setGrade n x).wale = b.wale := rfl
@[simp] theorem Bay.setGrade_axis (n : Nat) (x : Option GradeVec) : (b.setGrade n x).axis = b.axis := rfl
@[simp] theorem Bay.setGrade_axRec (n : Nat) (x : Option GradeVec) : (b.setGrade n x).axRec = b.axRec := rfl
@[simp] theorem Bay.setGrade_enc (n : Nat) (x : Option GradeVec) : (b.setGrade n x).enc = b.enc := rfl
@[simp] theorem Bay.setGrade_thermCh (n : Nat) (x : Option GradeVec) : (b.setGrade n x).thermCh = b.thermCh := rfl
@[simp] theorem Bay.setGrade_therm (n : Nat) (x : Option GradeVec) : (b.setGrade n x).therm = b.therm := rfl
@[simp] theorem Bay.setGrade_safe (n : Nat) (x : Option GradeVec) : (b.setGrade n x).safe = b.safe := rfl
@[simp] theorem Bay.setGrade_red (n : Nat) (x : Option GradeVec) : (b.setGrade n x).red = b.red := rfl
@[simp] theorem Bay.setGrade_memHid (n : Nat) (x : Option GradeVec) : (b.setGrade n x).memHid = b.memHid := rfl
@[simp] theorem Bay.setGrade_trust (n : Nat) (x : Option GradeVec) : (b.setGrade n x).trust = b.trust := rfl
@[simp] theorem Bay.setGrade_weave (n : Nat) (x : Option GradeVec) : (b.setGrade n x).weave = b.weave := rfl
@[simp] theorem Bay.setGrade_can (n : Nat) (x : Option GradeVec) : (b.setGrade n x).can = b.can := rfl
@[simp] theorem Bay.setGrade_latch (n : Nat) (x : Option GradeVec) : (b.setGrade n x).latch = b.latch := rfl
@[simp] theorem Bay.setGrade_shortReq (n : Nat) (x : Option GradeVec) : (b.setGrade n x).shortReq = b.shortReq := rfl
@[simp] theorem Bay.setGrade_out (n : Nat) (x : Option GradeVec) : (b.setGrade n x).out = b.out := rfl
@[simp] theorem Bay.setGrade_fresh (n : Nat) (x : Option GradeVec) : (b.setGrade n x).fresh = b.fresh := rfl
@[simp] theorem Bay.setGrade_rd (n : Nat) (x : Option GradeVec) (k : Key) : (b.setGrade n x).rd k = b.rd k := rfl
@[simp] theorem Bay.setGrade_mode (n : Nat) (x : Option GradeVec) : (b.setGrade n x).mode = b.mode := rfl

@[simp] theorem Bay.setTrace_regs (n : Nat) (x : Trace) : (b.setTrace n x).regs = b.regs := rfl
@[simp] theorem Bay.setTrace_now (n : Nat) (x : Trace) : (b.setTrace n x).now = b.now := rfl
@[simp] theorem Bay.setTrace_shadows (n : Nat) (x : Trace) : (b.setTrace n x).shadows = b.shadows := rfl
@[simp] theorem Bay.setTrace_hiLatch (n : Nat) (x : Trace) : (b.setTrace n x).hiLatch = b.hiLatch := rfl
@[simp] theorem Bay.setTrace_setT (n : Nat) (x : Trace) : (b.setTrace n x).setT = b.setT := rfl
@[simp] theorem Bay.setTrace_edge (n : Nat) (x : Trace) : (b.setTrace n x).edge = b.edge := rfl
@[simp] theorem Bay.setTrace_log (n : Nat) (x : Trace) : (b.setTrace n x).log = b.log := rfl
@[simp] theorem Bay.setTrace_episode (n : Nat) (x : Trace) : (b.setTrace n x).episode = b.episode := rfl
@[simp] theorem Bay.setTrace_evBits (n : Nat) (x : Trace) : (b.setTrace n x).evBits = b.evBits := rfl
@[simp] theorem Bay.setTrace_stage (n : Nat) (x : Trace) : (b.setTrace n x).stage = b.stage := rfl
@[simp] theorem Bay.setTrace_driver (n : Nat) (x : Trace) : (b.setTrace n x).driver = b.driver := rfl
@[simp] theorem Bay.setTrace_fram (n : Nat) (x : Trace) : (b.setTrace n x).fram = b.fram := rfl
@[simp] theorem Bay.setTrace_border (n : Nat) (x : Trace) : (b.setTrace n x).border = b.border := rfl
@[simp] theorem Bay.setTrace_chan (n : Nat) (x : Trace) : (b.setTrace n x).chan = b.chan := rfl
@[simp] theorem Bay.setTrace_means (n : Nat) (x : Trace) : (b.setTrace n x).means = b.means := rfl
@[simp] theorem Bay.setTrace_ring (n : Nat) (x : Trace) : (b.setTrace n x).ring = b.ring := rfl
@[simp] theorem Bay.setTrace_cellT (n : Nat) (x : Trace) : (b.setTrace n x).cellT = b.cellT := rfl
@[simp] theorem Bay.setTrace_slotv (n : Nat) (x : Trace) : (b.setTrace n x).slotv = b.slotv := rfl
@[simp] theorem Bay.setTrace_measCh (n : Nat) (x : Trace) : (b.setTrace n x).measCh = b.measCh := rfl
@[simp] theorem Bay.setTrace_measSt (n : Nat) (x : Trace) : (b.setTrace n x).measSt = b.measSt := rfl
@[simp] theorem Bay.setTrace_eng (n : Nat) (x : Trace) : (b.setTrace n x).eng = b.eng := rfl
@[simp] theorem Bay.setTrace_images (n : Nat) (x : Trace) : (b.setTrace n x).images = b.images := rfl
@[simp] theorem Bay.setTrace_verMax (n : Nat) (x : Trace) : (b.setTrace n x).verMax = b.verMax := rfl
@[simp] theorem Bay.setTrace_revoked (n : Nat) (x : Trace) : (b.setTrace n x).revoked = b.revoked := rfl
@[simp] theorem Bay.setTrace_groups (n : Nat) (x : Trace) : (b.setTrace n x).groups = b.groups := rfl
@[simp] theorem Bay.setTrace_sweep (n : Nat) (x : Trace) : (b.setTrace n x).sweep = b.sweep := rfl
@[simp] theorem Bay.setTrace_loopCh (n : Nat) (x : Trace) : (b.setTrace n x).loopCh = b.loopCh := rfl
@[simp] theorem Bay.setTrace_loopAx (n : Nat) (x : Trace) : (b.setTrace n x).loopAx = b.loopAx := rfl
@[simp] theorem Bay.setTrace_grade (n : Nat) (x : Trace) : (b.setTrace n x).grade = b.grade := rfl
@[simp] theorem Bay.setTrace_modeSt (n : Nat) (x : Trace) : (b.setTrace n x).modeSt = b.modeSt := rfl
@[simp] theorem Bay.setTrace_plant (n : Nat) (x : Trace) : (b.setTrace n x).plant = b.plant := rfl
@[simp] theorem Bay.setTrace_wale (n : Nat) (x : Trace) : (b.setTrace n x).wale = b.wale := rfl
@[simp] theorem Bay.setTrace_axis (n : Nat) (x : Trace) : (b.setTrace n x).axis = b.axis := rfl
@[simp] theorem Bay.setTrace_axRec (n : Nat) (x : Trace) : (b.setTrace n x).axRec = b.axRec := rfl
@[simp] theorem Bay.setTrace_enc (n : Nat) (x : Trace) : (b.setTrace n x).enc = b.enc := rfl
@[simp] theorem Bay.setTrace_thermCh (n : Nat) (x : Trace) : (b.setTrace n x).thermCh = b.thermCh := rfl
@[simp] theorem Bay.setTrace_therm (n : Nat) (x : Trace) : (b.setTrace n x).therm = b.therm := rfl
@[simp] theorem Bay.setTrace_safe (n : Nat) (x : Trace) : (b.setTrace n x).safe = b.safe := rfl
@[simp] theorem Bay.setTrace_red (n : Nat) (x : Trace) : (b.setTrace n x).red = b.red := rfl
@[simp] theorem Bay.setTrace_memHid (n : Nat) (x : Trace) : (b.setTrace n x).memHid = b.memHid := rfl
@[simp] theorem Bay.setTrace_trust (n : Nat) (x : Trace) : (b.setTrace n x).trust = b.trust := rfl
@[simp] theorem Bay.setTrace_weave (n : Nat) (x : Trace) : (b.setTrace n x).weave = b.weave := rfl
@[simp] theorem Bay.setTrace_can (n : Nat) (x : Trace) : (b.setTrace n x).can = b.can := rfl
@[simp] theorem Bay.setTrace_latch (n : Nat) (x : Trace) : (b.setTrace n x).latch = b.latch := rfl
@[simp] theorem Bay.setTrace_shortReq (n : Nat) (x : Trace) : (b.setTrace n x).shortReq = b.shortReq := rfl
@[simp] theorem Bay.setTrace_out (n : Nat) (x : Trace) : (b.setTrace n x).out = b.out := rfl
@[simp] theorem Bay.setTrace_fresh (n : Nat) (x : Trace) : (b.setTrace n x).fresh = b.fresh := rfl
@[simp] theorem Bay.setTrace_rd (n : Nat) (x : Trace) (k : Key) : (b.setTrace n x).rd k = b.rd k := rfl
@[simp] theorem Bay.setTrace_mode (n : Nat) (x : Trace) : (b.setTrace n x).mode = b.mode := rfl

@[simp] theorem Bay.setWale_regs (n : Nat) (x : Wale) : (b.setWale n x).regs = b.regs := rfl
@[simp] theorem Bay.setWale_now (n : Nat) (x : Wale) : (b.setWale n x).now = b.now := rfl
@[simp] theorem Bay.setWale_shadows (n : Nat) (x : Wale) : (b.setWale n x).shadows = b.shadows := rfl
@[simp] theorem Bay.setWale_hiLatch (n : Nat) (x : Wale) : (b.setWale n x).hiLatch = b.hiLatch := rfl
@[simp] theorem Bay.setWale_setT (n : Nat) (x : Wale) : (b.setWale n x).setT = b.setT := rfl
@[simp] theorem Bay.setWale_edge (n : Nat) (x : Wale) : (b.setWale n x).edge = b.edge := rfl
@[simp] theorem Bay.setWale_log (n : Nat) (x : Wale) : (b.setWale n x).log = b.log := rfl
@[simp] theorem Bay.setWale_episode (n : Nat) (x : Wale) : (b.setWale n x).episode = b.episode := rfl
@[simp] theorem Bay.setWale_evBits (n : Nat) (x : Wale) : (b.setWale n x).evBits = b.evBits := rfl
@[simp] theorem Bay.setWale_stage (n : Nat) (x : Wale) : (b.setWale n x).stage = b.stage := rfl
@[simp] theorem Bay.setWale_driver (n : Nat) (x : Wale) : (b.setWale n x).driver = b.driver := rfl
@[simp] theorem Bay.setWale_fram (n : Nat) (x : Wale) : (b.setWale n x).fram = b.fram := rfl
@[simp] theorem Bay.setWale_border (n : Nat) (x : Wale) : (b.setWale n x).border = b.border := rfl
@[simp] theorem Bay.setWale_chan (n : Nat) (x : Wale) : (b.setWale n x).chan = b.chan := rfl
@[simp] theorem Bay.setWale_means (n : Nat) (x : Wale) : (b.setWale n x).means = b.means := rfl
@[simp] theorem Bay.setWale_ring (n : Nat) (x : Wale) : (b.setWale n x).ring = b.ring := rfl
@[simp] theorem Bay.setWale_cellT (n : Nat) (x : Wale) : (b.setWale n x).cellT = b.cellT := rfl
@[simp] theorem Bay.setWale_slotv (n : Nat) (x : Wale) : (b.setWale n x).slotv = b.slotv := rfl
@[simp] theorem Bay.setWale_measCh (n : Nat) (x : Wale) : (b.setWale n x).measCh = b.measCh := rfl
@[simp] theorem Bay.setWale_measSt (n : Nat) (x : Wale) : (b.setWale n x).measSt = b.measSt := rfl
@[simp] theorem Bay.setWale_eng (n : Nat) (x : Wale) : (b.setWale n x).eng = b.eng := rfl
@[simp] theorem Bay.setWale_images (n : Nat) (x : Wale) : (b.setWale n x).images = b.images := rfl
@[simp] theorem Bay.setWale_verMax (n : Nat) (x : Wale) : (b.setWale n x).verMax = b.verMax := rfl
@[simp] theorem Bay.setWale_revoked (n : Nat) (x : Wale) : (b.setWale n x).revoked = b.revoked := rfl
@[simp] theorem Bay.setWale_groups (n : Nat) (x : Wale) : (b.setWale n x).groups = b.groups := rfl
@[simp] theorem Bay.setWale_sweep (n : Nat) (x : Wale) : (b.setWale n x).sweep = b.sweep := rfl
@[simp] theorem Bay.setWale_loopCh (n : Nat) (x : Wale) : (b.setWale n x).loopCh = b.loopCh := rfl
@[simp] theorem Bay.setWale_loopAx (n : Nat) (x : Wale) : (b.setWale n x).loopAx = b.loopAx := rfl
@[simp] theorem Bay.setWale_trace (n : Nat) (x : Wale) : (b.setWale n x).trace = b.trace := rfl
@[simp] theorem Bay.setWale_grade (n : Nat) (x : Wale) : (b.setWale n x).grade = b.grade := rfl
@[simp] theorem Bay.setWale_modeSt (n : Nat) (x : Wale) : (b.setWale n x).modeSt = b.modeSt := rfl
@[simp] theorem Bay.setWale_plant (n : Nat) (x : Wale) : (b.setWale n x).plant = b.plant := rfl
@[simp] theorem Bay.setWale_axis (n : Nat) (x : Wale) : (b.setWale n x).axis = b.axis := rfl
@[simp] theorem Bay.setWale_axRec (n : Nat) (x : Wale) : (b.setWale n x).axRec = b.axRec := rfl
@[simp] theorem Bay.setWale_enc (n : Nat) (x : Wale) : (b.setWale n x).enc = b.enc := rfl
@[simp] theorem Bay.setWale_thermCh (n : Nat) (x : Wale) : (b.setWale n x).thermCh = b.thermCh := rfl
@[simp] theorem Bay.setWale_therm (n : Nat) (x : Wale) : (b.setWale n x).therm = b.therm := rfl
@[simp] theorem Bay.setWale_safe (n : Nat) (x : Wale) : (b.setWale n x).safe = b.safe := rfl
@[simp] theorem Bay.setWale_red (n : Nat) (x : Wale) : (b.setWale n x).red = b.red := rfl
@[simp] theorem Bay.setWale_memHid (n : Nat) (x : Wale) : (b.setWale n x).memHid = b.memHid := rfl
@[simp] theorem Bay.setWale_trust (n : Nat) (x : Wale) : (b.setWale n x).trust = b.trust := rfl
@[simp] theorem Bay.setWale_weave (n : Nat) (x : Wale) : (b.setWale n x).weave = b.weave := rfl
@[simp] theorem Bay.setWale_can (n : Nat) (x : Wale) : (b.setWale n x).can = b.can := rfl
@[simp] theorem Bay.setWale_latch (n : Nat) (x : Wale) : (b.setWale n x).latch = b.latch := rfl
@[simp] theorem Bay.setWale_shortReq (n : Nat) (x : Wale) : (b.setWale n x).shortReq = b.shortReq := rfl
@[simp] theorem Bay.setWale_out (n : Nat) (x : Wale) : (b.setWale n x).out = b.out := rfl
@[simp] theorem Bay.setWale_fresh (n : Nat) (x : Wale) : (b.setWale n x).fresh = b.fresh := rfl
@[simp] theorem Bay.setWale_rd (n : Nat) (x : Wale) (k : Key) : (b.setWale n x).rd k = b.rd k := rfl
@[simp] theorem Bay.setWale_mode (n : Nat) (x : Wale) : (b.setWale n x).mode = b.mode := rfl

@[simp] theorem Bay.setAxis_regs (n : Nat) (x : Axis) : (b.setAxis n x).regs = b.regs := rfl
@[simp] theorem Bay.setAxis_now (n : Nat) (x : Axis) : (b.setAxis n x).now = b.now := rfl
@[simp] theorem Bay.setAxis_shadows (n : Nat) (x : Axis) : (b.setAxis n x).shadows = b.shadows := rfl
@[simp] theorem Bay.setAxis_hiLatch (n : Nat) (x : Axis) : (b.setAxis n x).hiLatch = b.hiLatch := rfl
@[simp] theorem Bay.setAxis_setT (n : Nat) (x : Axis) : (b.setAxis n x).setT = b.setT := rfl
@[simp] theorem Bay.setAxis_edge (n : Nat) (x : Axis) : (b.setAxis n x).edge = b.edge := rfl
@[simp] theorem Bay.setAxis_log (n : Nat) (x : Axis) : (b.setAxis n x).log = b.log := rfl
@[simp] theorem Bay.setAxis_episode (n : Nat) (x : Axis) : (b.setAxis n x).episode = b.episode := rfl
@[simp] theorem Bay.setAxis_evBits (n : Nat) (x : Axis) : (b.setAxis n x).evBits = b.evBits := rfl
@[simp] theorem Bay.setAxis_stage (n : Nat) (x : Axis) : (b.setAxis n x).stage = b.stage := rfl
@[simp] theorem Bay.setAxis_driver (n : Nat) (x : Axis) : (b.setAxis n x).driver = b.driver := rfl
@[simp] theorem Bay.setAxis_fram (n : Nat) (x : Axis) : (b.setAxis n x).fram = b.fram := rfl
@[simp] theorem Bay.setAxis_border (n : Nat) (x : Axis) : (b.setAxis n x).border = b.border := rfl
@[simp] theorem Bay.setAxis_chan (n : Nat) (x : Axis) : (b.setAxis n x).chan = b.chan := rfl
@[simp] theorem Bay.setAxis_means (n : Nat) (x : Axis) : (b.setAxis n x).means = b.means := rfl
@[simp] theorem Bay.setAxis_ring (n : Nat) (x : Axis) : (b.setAxis n x).ring = b.ring := rfl
@[simp] theorem Bay.setAxis_cellT (n : Nat) (x : Axis) : (b.setAxis n x).cellT = b.cellT := rfl
@[simp] theorem Bay.setAxis_slotv (n : Nat) (x : Axis) : (b.setAxis n x).slotv = b.slotv := rfl
@[simp] theorem Bay.setAxis_measCh (n : Nat) (x : Axis) : (b.setAxis n x).measCh = b.measCh := rfl
@[simp] theorem Bay.setAxis_measSt (n : Nat) (x : Axis) : (b.setAxis n x).measSt = b.measSt := rfl
@[simp] theorem Bay.setAxis_eng (n : Nat) (x : Axis) : (b.setAxis n x).eng = b.eng := rfl
@[simp] theorem Bay.setAxis_images (n : Nat) (x : Axis) : (b.setAxis n x).images = b.images := rfl
@[simp] theorem Bay.setAxis_verMax (n : Nat) (x : Axis) : (b.setAxis n x).verMax = b.verMax := rfl
@[simp] theorem Bay.setAxis_revoked (n : Nat) (x : Axis) : (b.setAxis n x).revoked = b.revoked := rfl
@[simp] theorem Bay.setAxis_groups (n : Nat) (x : Axis) : (b.setAxis n x).groups = b.groups := rfl
@[simp] theorem Bay.setAxis_sweep (n : Nat) (x : Axis) : (b.setAxis n x).sweep = b.sweep := rfl
@[simp] theorem Bay.setAxis_loopCh (n : Nat) (x : Axis) : (b.setAxis n x).loopCh = b.loopCh := rfl
@[simp] theorem Bay.setAxis_loopAx (n : Nat) (x : Axis) : (b.setAxis n x).loopAx = b.loopAx := rfl
@[simp] theorem Bay.setAxis_trace (n : Nat) (x : Axis) : (b.setAxis n x).trace = b.trace := rfl
@[simp] theorem Bay.setAxis_grade (n : Nat) (x : Axis) : (b.setAxis n x).grade = b.grade := rfl
@[simp] theorem Bay.setAxis_modeSt (n : Nat) (x : Axis) : (b.setAxis n x).modeSt = b.modeSt := rfl
@[simp] theorem Bay.setAxis_plant (n : Nat) (x : Axis) : (b.setAxis n x).plant = b.plant := rfl
@[simp] theorem Bay.setAxis_wale (n : Nat) (x : Axis) : (b.setAxis n x).wale = b.wale := rfl
@[simp] theorem Bay.setAxis_axRec (n : Nat) (x : Axis) : (b.setAxis n x).axRec = b.axRec := rfl
@[simp] theorem Bay.setAxis_enc (n : Nat) (x : Axis) : (b.setAxis n x).enc = b.enc := rfl
@[simp] theorem Bay.setAxis_thermCh (n : Nat) (x : Axis) : (b.setAxis n x).thermCh = b.thermCh := rfl
@[simp] theorem Bay.setAxis_therm (n : Nat) (x : Axis) : (b.setAxis n x).therm = b.therm := rfl
@[simp] theorem Bay.setAxis_safe (n : Nat) (x : Axis) : (b.setAxis n x).safe = b.safe := rfl
@[simp] theorem Bay.setAxis_red (n : Nat) (x : Axis) : (b.setAxis n x).red = b.red := rfl
@[simp] theorem Bay.setAxis_memHid (n : Nat) (x : Axis) : (b.setAxis n x).memHid = b.memHid := rfl
@[simp] theorem Bay.setAxis_trust (n : Nat) (x : Axis) : (b.setAxis n x).trust = b.trust := rfl
@[simp] theorem Bay.setAxis_weave (n : Nat) (x : Axis) : (b.setAxis n x).weave = b.weave := rfl
@[simp] theorem Bay.setAxis_can (n : Nat) (x : Axis) : (b.setAxis n x).can = b.can := rfl
@[simp] theorem Bay.setAxis_latch (n : Nat) (x : Axis) : (b.setAxis n x).latch = b.latch := rfl
@[simp] theorem Bay.setAxis_shortReq (n : Nat) (x : Axis) : (b.setAxis n x).shortReq = b.shortReq := rfl
@[simp] theorem Bay.setAxis_out (n : Nat) (x : Axis) : (b.setAxis n x).out = b.out := rfl
@[simp] theorem Bay.setAxis_fresh (n : Nat) (x : Axis) : (b.setAxis n x).fresh = b.fresh := rfl
@[simp] theorem Bay.setAxis_rd (n : Nat) (x : Axis) (k : Key) : (b.setAxis n x).rd k = b.rd k := rfl
@[simp] theorem Bay.setAxis_mode (n : Nat) (x : Axis) : (b.setAxis n x).mode = b.mode := rfl

@[simp] theorem Bay.setEnc_regs (n : Nat) (x : Enc) : (b.setEnc n x).regs = b.regs := rfl
@[simp] theorem Bay.setEnc_now (n : Nat) (x : Enc) : (b.setEnc n x).now = b.now := rfl
@[simp] theorem Bay.setEnc_shadows (n : Nat) (x : Enc) : (b.setEnc n x).shadows = b.shadows := rfl
@[simp] theorem Bay.setEnc_hiLatch (n : Nat) (x : Enc) : (b.setEnc n x).hiLatch = b.hiLatch := rfl
@[simp] theorem Bay.setEnc_setT (n : Nat) (x : Enc) : (b.setEnc n x).setT = b.setT := rfl
@[simp] theorem Bay.setEnc_edge (n : Nat) (x : Enc) : (b.setEnc n x).edge = b.edge := rfl
@[simp] theorem Bay.setEnc_log (n : Nat) (x : Enc) : (b.setEnc n x).log = b.log := rfl
@[simp] theorem Bay.setEnc_episode (n : Nat) (x : Enc) : (b.setEnc n x).episode = b.episode := rfl
@[simp] theorem Bay.setEnc_evBits (n : Nat) (x : Enc) : (b.setEnc n x).evBits = b.evBits := rfl
@[simp] theorem Bay.setEnc_stage (n : Nat) (x : Enc) : (b.setEnc n x).stage = b.stage := rfl
@[simp] theorem Bay.setEnc_driver (n : Nat) (x : Enc) : (b.setEnc n x).driver = b.driver := rfl
@[simp] theorem Bay.setEnc_fram (n : Nat) (x : Enc) : (b.setEnc n x).fram = b.fram := rfl
@[simp] theorem Bay.setEnc_border (n : Nat) (x : Enc) : (b.setEnc n x).border = b.border := rfl
@[simp] theorem Bay.setEnc_chan (n : Nat) (x : Enc) : (b.setEnc n x).chan = b.chan := rfl
@[simp] theorem Bay.setEnc_means (n : Nat) (x : Enc) : (b.setEnc n x).means = b.means := rfl
@[simp] theorem Bay.setEnc_ring (n : Nat) (x : Enc) : (b.setEnc n x).ring = b.ring := rfl
@[simp] theorem Bay.setEnc_cellT (n : Nat) (x : Enc) : (b.setEnc n x).cellT = b.cellT := rfl
@[simp] theorem Bay.setEnc_slotv (n : Nat) (x : Enc) : (b.setEnc n x).slotv = b.slotv := rfl
@[simp] theorem Bay.setEnc_measCh (n : Nat) (x : Enc) : (b.setEnc n x).measCh = b.measCh := rfl
@[simp] theorem Bay.setEnc_measSt (n : Nat) (x : Enc) : (b.setEnc n x).measSt = b.measSt := rfl
@[simp] theorem Bay.setEnc_eng (n : Nat) (x : Enc) : (b.setEnc n x).eng = b.eng := rfl
@[simp] theorem Bay.setEnc_images (n : Nat) (x : Enc) : (b.setEnc n x).images = b.images := rfl
@[simp] theorem Bay.setEnc_verMax (n : Nat) (x : Enc) : (b.setEnc n x).verMax = b.verMax := rfl
@[simp] theorem Bay.setEnc_revoked (n : Nat) (x : Enc) : (b.setEnc n x).revoked = b.revoked := rfl
@[simp] theorem Bay.setEnc_groups (n : Nat) (x : Enc) : (b.setEnc n x).groups = b.groups := rfl
@[simp] theorem Bay.setEnc_sweep (n : Nat) (x : Enc) : (b.setEnc n x).sweep = b.sweep := rfl
@[simp] theorem Bay.setEnc_loopCh (n : Nat) (x : Enc) : (b.setEnc n x).loopCh = b.loopCh := rfl
@[simp] theorem Bay.setEnc_loopAx (n : Nat) (x : Enc) : (b.setEnc n x).loopAx = b.loopAx := rfl
@[simp] theorem Bay.setEnc_trace (n : Nat) (x : Enc) : (b.setEnc n x).trace = b.trace := rfl
@[simp] theorem Bay.setEnc_grade (n : Nat) (x : Enc) : (b.setEnc n x).grade = b.grade := rfl
@[simp] theorem Bay.setEnc_modeSt (n : Nat) (x : Enc) : (b.setEnc n x).modeSt = b.modeSt := rfl
@[simp] theorem Bay.setEnc_plant (n : Nat) (x : Enc) : (b.setEnc n x).plant = b.plant := rfl
@[simp] theorem Bay.setEnc_wale (n : Nat) (x : Enc) : (b.setEnc n x).wale = b.wale := rfl
@[simp] theorem Bay.setEnc_axis (n : Nat) (x : Enc) : (b.setEnc n x).axis = b.axis := rfl
@[simp] theorem Bay.setEnc_axRec (n : Nat) (x : Enc) : (b.setEnc n x).axRec = b.axRec := rfl
@[simp] theorem Bay.setEnc_thermCh (n : Nat) (x : Enc) : (b.setEnc n x).thermCh = b.thermCh := rfl
@[simp] theorem Bay.setEnc_therm (n : Nat) (x : Enc) : (b.setEnc n x).therm = b.therm := rfl
@[simp] theorem Bay.setEnc_safe (n : Nat) (x : Enc) : (b.setEnc n x).safe = b.safe := rfl
@[simp] theorem Bay.setEnc_red (n : Nat) (x : Enc) : (b.setEnc n x).red = b.red := rfl
@[simp] theorem Bay.setEnc_memHid (n : Nat) (x : Enc) : (b.setEnc n x).memHid = b.memHid := rfl
@[simp] theorem Bay.setEnc_trust (n : Nat) (x : Enc) : (b.setEnc n x).trust = b.trust := rfl
@[simp] theorem Bay.setEnc_weave (n : Nat) (x : Enc) : (b.setEnc n x).weave = b.weave := rfl
@[simp] theorem Bay.setEnc_can (n : Nat) (x : Enc) : (b.setEnc n x).can = b.can := rfl
@[simp] theorem Bay.setEnc_latch (n : Nat) (x : Enc) : (b.setEnc n x).latch = b.latch := rfl
@[simp] theorem Bay.setEnc_shortReq (n : Nat) (x : Enc) : (b.setEnc n x).shortReq = b.shortReq := rfl
@[simp] theorem Bay.setEnc_out (n : Nat) (x : Enc) : (b.setEnc n x).out = b.out := rfl
@[simp] theorem Bay.setEnc_fresh (n : Nat) (x : Enc) : (b.setEnc n x).fresh = b.fresh := rfl
@[simp] theorem Bay.setEnc_rd (n : Nat) (x : Enc) (k : Key) : (b.setEnc n x).rd k = b.rd k := rfl
@[simp] theorem Bay.setEnc_mode (n : Nat) (x : Enc) : (b.setEnc n x).mode = b.mode := rfl

@[simp] theorem Bay.setThermCh_regs (n : Nat) (x : ThermCh) : (b.setThermCh n x).regs = b.regs := rfl
@[simp] theorem Bay.setThermCh_now (n : Nat) (x : ThermCh) : (b.setThermCh n x).now = b.now := rfl
@[simp] theorem Bay.setThermCh_shadows (n : Nat) (x : ThermCh) : (b.setThermCh n x).shadows = b.shadows := rfl
@[simp] theorem Bay.setThermCh_hiLatch (n : Nat) (x : ThermCh) : (b.setThermCh n x).hiLatch = b.hiLatch := rfl
@[simp] theorem Bay.setThermCh_setT (n : Nat) (x : ThermCh) : (b.setThermCh n x).setT = b.setT := rfl
@[simp] theorem Bay.setThermCh_edge (n : Nat) (x : ThermCh) : (b.setThermCh n x).edge = b.edge := rfl
@[simp] theorem Bay.setThermCh_log (n : Nat) (x : ThermCh) : (b.setThermCh n x).log = b.log := rfl
@[simp] theorem Bay.setThermCh_episode (n : Nat) (x : ThermCh) : (b.setThermCh n x).episode = b.episode := rfl
@[simp] theorem Bay.setThermCh_evBits (n : Nat) (x : ThermCh) : (b.setThermCh n x).evBits = b.evBits := rfl
@[simp] theorem Bay.setThermCh_stage (n : Nat) (x : ThermCh) : (b.setThermCh n x).stage = b.stage := rfl
@[simp] theorem Bay.setThermCh_driver (n : Nat) (x : ThermCh) : (b.setThermCh n x).driver = b.driver := rfl
@[simp] theorem Bay.setThermCh_fram (n : Nat) (x : ThermCh) : (b.setThermCh n x).fram = b.fram := rfl
@[simp] theorem Bay.setThermCh_border (n : Nat) (x : ThermCh) : (b.setThermCh n x).border = b.border := rfl
@[simp] theorem Bay.setThermCh_chan (n : Nat) (x : ThermCh) : (b.setThermCh n x).chan = b.chan := rfl
@[simp] theorem Bay.setThermCh_means (n : Nat) (x : ThermCh) : (b.setThermCh n x).means = b.means := rfl
@[simp] theorem Bay.setThermCh_ring (n : Nat) (x : ThermCh) : (b.setThermCh n x).ring = b.ring := rfl
@[simp] theorem Bay.setThermCh_cellT (n : Nat) (x : ThermCh) : (b.setThermCh n x).cellT = b.cellT := rfl
@[simp] theorem Bay.setThermCh_slotv (n : Nat) (x : ThermCh) : (b.setThermCh n x).slotv = b.slotv := rfl
@[simp] theorem Bay.setThermCh_measCh (n : Nat) (x : ThermCh) : (b.setThermCh n x).measCh = b.measCh := rfl
@[simp] theorem Bay.setThermCh_measSt (n : Nat) (x : ThermCh) : (b.setThermCh n x).measSt = b.measSt := rfl
@[simp] theorem Bay.setThermCh_eng (n : Nat) (x : ThermCh) : (b.setThermCh n x).eng = b.eng := rfl
@[simp] theorem Bay.setThermCh_images (n : Nat) (x : ThermCh) : (b.setThermCh n x).images = b.images := rfl
@[simp] theorem Bay.setThermCh_verMax (n : Nat) (x : ThermCh) : (b.setThermCh n x).verMax = b.verMax := rfl
@[simp] theorem Bay.setThermCh_revoked (n : Nat) (x : ThermCh) : (b.setThermCh n x).revoked = b.revoked := rfl
@[simp] theorem Bay.setThermCh_groups (n : Nat) (x : ThermCh) : (b.setThermCh n x).groups = b.groups := rfl
@[simp] theorem Bay.setThermCh_sweep (n : Nat) (x : ThermCh) : (b.setThermCh n x).sweep = b.sweep := rfl
@[simp] theorem Bay.setThermCh_loopCh (n : Nat) (x : ThermCh) : (b.setThermCh n x).loopCh = b.loopCh := rfl
@[simp] theorem Bay.setThermCh_loopAx (n : Nat) (x : ThermCh) : (b.setThermCh n x).loopAx = b.loopAx := rfl
@[simp] theorem Bay.setThermCh_trace (n : Nat) (x : ThermCh) : (b.setThermCh n x).trace = b.trace := rfl
@[simp] theorem Bay.setThermCh_grade (n : Nat) (x : ThermCh) : (b.setThermCh n x).grade = b.grade := rfl
@[simp] theorem Bay.setThermCh_modeSt (n : Nat) (x : ThermCh) : (b.setThermCh n x).modeSt = b.modeSt := rfl
@[simp] theorem Bay.setThermCh_plant (n : Nat) (x : ThermCh) : (b.setThermCh n x).plant = b.plant := rfl
@[simp] theorem Bay.setThermCh_wale (n : Nat) (x : ThermCh) : (b.setThermCh n x).wale = b.wale := rfl
@[simp] theorem Bay.setThermCh_axis (n : Nat) (x : ThermCh) : (b.setThermCh n x).axis = b.axis := rfl
@[simp] theorem Bay.setThermCh_axRec (n : Nat) (x : ThermCh) : (b.setThermCh n x).axRec = b.axRec := rfl
@[simp] theorem Bay.setThermCh_enc (n : Nat) (x : ThermCh) : (b.setThermCh n x).enc = b.enc := rfl
@[simp] theorem Bay.setThermCh_therm (n : Nat) (x : ThermCh) : (b.setThermCh n x).therm = b.therm := rfl
@[simp] theorem Bay.setThermCh_safe (n : Nat) (x : ThermCh) : (b.setThermCh n x).safe = b.safe := rfl
@[simp] theorem Bay.setThermCh_red (n : Nat) (x : ThermCh) : (b.setThermCh n x).red = b.red := rfl
@[simp] theorem Bay.setThermCh_memHid (n : Nat) (x : ThermCh) : (b.setThermCh n x).memHid = b.memHid := rfl
@[simp] theorem Bay.setThermCh_trust (n : Nat) (x : ThermCh) : (b.setThermCh n x).trust = b.trust := rfl
@[simp] theorem Bay.setThermCh_weave (n : Nat) (x : ThermCh) : (b.setThermCh n x).weave = b.weave := rfl
@[simp] theorem Bay.setThermCh_can (n : Nat) (x : ThermCh) : (b.setThermCh n x).can = b.can := rfl
@[simp] theorem Bay.setThermCh_latch (n : Nat) (x : ThermCh) : (b.setThermCh n x).latch = b.latch := rfl
@[simp] theorem Bay.setThermCh_shortReq (n : Nat) (x : ThermCh) : (b.setThermCh n x).shortReq = b.shortReq := rfl
@[simp] theorem Bay.setThermCh_out (n : Nat) (x : ThermCh) : (b.setThermCh n x).out = b.out := rfl
@[simp] theorem Bay.setThermCh_fresh (n : Nat) (x : ThermCh) : (b.setThermCh n x).fresh = b.fresh := rfl
@[simp] theorem Bay.setThermCh_rd (n : Nat) (x : ThermCh) (k : Key) : (b.setThermCh n x).rd k = b.rd k := rfl
@[simp] theorem Bay.setThermCh_mode (n : Nat) (x : ThermCh) : (b.setThermCh n x).mode = b.mode := rfl

@[simp] theorem Bay.setCan_regs (n : Nat) (x : Can) : (b.setCan n x).regs = b.regs := rfl
@[simp] theorem Bay.setCan_now (n : Nat) (x : Can) : (b.setCan n x).now = b.now := rfl
@[simp] theorem Bay.setCan_shadows (n : Nat) (x : Can) : (b.setCan n x).shadows = b.shadows := rfl
@[simp] theorem Bay.setCan_hiLatch (n : Nat) (x : Can) : (b.setCan n x).hiLatch = b.hiLatch := rfl
@[simp] theorem Bay.setCan_setT (n : Nat) (x : Can) : (b.setCan n x).setT = b.setT := rfl
@[simp] theorem Bay.setCan_edge (n : Nat) (x : Can) : (b.setCan n x).edge = b.edge := rfl
@[simp] theorem Bay.setCan_log (n : Nat) (x : Can) : (b.setCan n x).log = b.log := rfl
@[simp] theorem Bay.setCan_episode (n : Nat) (x : Can) : (b.setCan n x).episode = b.episode := rfl
@[simp] theorem Bay.setCan_evBits (n : Nat) (x : Can) : (b.setCan n x).evBits = b.evBits := rfl
@[simp] theorem Bay.setCan_stage (n : Nat) (x : Can) : (b.setCan n x).stage = b.stage := rfl
@[simp] theorem Bay.setCan_driver (n : Nat) (x : Can) : (b.setCan n x).driver = b.driver := rfl
@[simp] theorem Bay.setCan_fram (n : Nat) (x : Can) : (b.setCan n x).fram = b.fram := rfl
@[simp] theorem Bay.setCan_border (n : Nat) (x : Can) : (b.setCan n x).border = b.border := rfl
@[simp] theorem Bay.setCan_chan (n : Nat) (x : Can) : (b.setCan n x).chan = b.chan := rfl
@[simp] theorem Bay.setCan_means (n : Nat) (x : Can) : (b.setCan n x).means = b.means := rfl
@[simp] theorem Bay.setCan_ring (n : Nat) (x : Can) : (b.setCan n x).ring = b.ring := rfl
@[simp] theorem Bay.setCan_cellT (n : Nat) (x : Can) : (b.setCan n x).cellT = b.cellT := rfl
@[simp] theorem Bay.setCan_slotv (n : Nat) (x : Can) : (b.setCan n x).slotv = b.slotv := rfl
@[simp] theorem Bay.setCan_measCh (n : Nat) (x : Can) : (b.setCan n x).measCh = b.measCh := rfl
@[simp] theorem Bay.setCan_measSt (n : Nat) (x : Can) : (b.setCan n x).measSt = b.measSt := rfl
@[simp] theorem Bay.setCan_eng (n : Nat) (x : Can) : (b.setCan n x).eng = b.eng := rfl
@[simp] theorem Bay.setCan_images (n : Nat) (x : Can) : (b.setCan n x).images = b.images := rfl
@[simp] theorem Bay.setCan_verMax (n : Nat) (x : Can) : (b.setCan n x).verMax = b.verMax := rfl
@[simp] theorem Bay.setCan_revoked (n : Nat) (x : Can) : (b.setCan n x).revoked = b.revoked := rfl
@[simp] theorem Bay.setCan_groups (n : Nat) (x : Can) : (b.setCan n x).groups = b.groups := rfl
@[simp] theorem Bay.setCan_sweep (n : Nat) (x : Can) : (b.setCan n x).sweep = b.sweep := rfl
@[simp] theorem Bay.setCan_loopCh (n : Nat) (x : Can) : (b.setCan n x).loopCh = b.loopCh := rfl
@[simp] theorem Bay.setCan_loopAx (n : Nat) (x : Can) : (b.setCan n x).loopAx = b.loopAx := rfl
@[simp] theorem Bay.setCan_trace (n : Nat) (x : Can) : (b.setCan n x).trace = b.trace := rfl
@[simp] theorem Bay.setCan_grade (n : Nat) (x : Can) : (b.setCan n x).grade = b.grade := rfl
@[simp] theorem Bay.setCan_modeSt (n : Nat) (x : Can) : (b.setCan n x).modeSt = b.modeSt := rfl
@[simp] theorem Bay.setCan_plant (n : Nat) (x : Can) : (b.setCan n x).plant = b.plant := rfl
@[simp] theorem Bay.setCan_wale (n : Nat) (x : Can) : (b.setCan n x).wale = b.wale := rfl
@[simp] theorem Bay.setCan_axis (n : Nat) (x : Can) : (b.setCan n x).axis = b.axis := rfl
@[simp] theorem Bay.setCan_axRec (n : Nat) (x : Can) : (b.setCan n x).axRec = b.axRec := rfl
@[simp] theorem Bay.setCan_enc (n : Nat) (x : Can) : (b.setCan n x).enc = b.enc := rfl
@[simp] theorem Bay.setCan_thermCh (n : Nat) (x : Can) : (b.setCan n x).thermCh = b.thermCh := rfl
@[simp] theorem Bay.setCan_therm (n : Nat) (x : Can) : (b.setCan n x).therm = b.therm := rfl
@[simp] theorem Bay.setCan_safe (n : Nat) (x : Can) : (b.setCan n x).safe = b.safe := rfl
@[simp] theorem Bay.setCan_red (n : Nat) (x : Can) : (b.setCan n x).red = b.red := rfl
@[simp] theorem Bay.setCan_memHid (n : Nat) (x : Can) : (b.setCan n x).memHid = b.memHid := rfl
@[simp] theorem Bay.setCan_trust (n : Nat) (x : Can) : (b.setCan n x).trust = b.trust := rfl
@[simp] theorem Bay.setCan_weave (n : Nat) (x : Can) : (b.setCan n x).weave = b.weave := rfl
@[simp] theorem Bay.setCan_latch (n : Nat) (x : Can) : (b.setCan n x).latch = b.latch := rfl
@[simp] theorem Bay.setCan_shortReq (n : Nat) (x : Can) : (b.setCan n x).shortReq = b.shortReq := rfl
@[simp] theorem Bay.setCan_out (n : Nat) (x : Can) : (b.setCan n x).out = b.out := rfl
@[simp] theorem Bay.setCan_fresh (n : Nat) (x : Can) : (b.setCan n x).fresh = b.fresh := rfl
@[simp] theorem Bay.setCan_rd (n : Nat) (x : Can) (k : Key) : (b.setCan n x).rd k = b.rd k := rfl
@[simp] theorem Bay.setCan_mode (n : Nat) (x : Can) : (b.setCan n x).mode = b.mode := rfl

@[simp] theorem Bay.setLatch_regs (n : Nat) (x : Latch) : (b.setLatch n x).regs = b.regs := rfl
@[simp] theorem Bay.setLatch_now (n : Nat) (x : Latch) : (b.setLatch n x).now = b.now := rfl
@[simp] theorem Bay.setLatch_shadows (n : Nat) (x : Latch) : (b.setLatch n x).shadows = b.shadows := rfl
@[simp] theorem Bay.setLatch_hiLatch (n : Nat) (x : Latch) : (b.setLatch n x).hiLatch = b.hiLatch := rfl
@[simp] theorem Bay.setLatch_setT (n : Nat) (x : Latch) : (b.setLatch n x).setT = b.setT := rfl
@[simp] theorem Bay.setLatch_edge (n : Nat) (x : Latch) : (b.setLatch n x).edge = b.edge := rfl
@[simp] theorem Bay.setLatch_log (n : Nat) (x : Latch) : (b.setLatch n x).log = b.log := rfl
@[simp] theorem Bay.setLatch_episode (n : Nat) (x : Latch) : (b.setLatch n x).episode = b.episode := rfl
@[simp] theorem Bay.setLatch_evBits (n : Nat) (x : Latch) : (b.setLatch n x).evBits = b.evBits := rfl
@[simp] theorem Bay.setLatch_stage (n : Nat) (x : Latch) : (b.setLatch n x).stage = b.stage := rfl
@[simp] theorem Bay.setLatch_driver (n : Nat) (x : Latch) : (b.setLatch n x).driver = b.driver := rfl
@[simp] theorem Bay.setLatch_fram (n : Nat) (x : Latch) : (b.setLatch n x).fram = b.fram := rfl
@[simp] theorem Bay.setLatch_border (n : Nat) (x : Latch) : (b.setLatch n x).border = b.border := rfl
@[simp] theorem Bay.setLatch_chan (n : Nat) (x : Latch) : (b.setLatch n x).chan = b.chan := rfl
@[simp] theorem Bay.setLatch_means (n : Nat) (x : Latch) : (b.setLatch n x).means = b.means := rfl
@[simp] theorem Bay.setLatch_ring (n : Nat) (x : Latch) : (b.setLatch n x).ring = b.ring := rfl
@[simp] theorem Bay.setLatch_cellT (n : Nat) (x : Latch) : (b.setLatch n x).cellT = b.cellT := rfl
@[simp] theorem Bay.setLatch_slotv (n : Nat) (x : Latch) : (b.setLatch n x).slotv = b.slotv := rfl
@[simp] theorem Bay.setLatch_measCh (n : Nat) (x : Latch) : (b.setLatch n x).measCh = b.measCh := rfl
@[simp] theorem Bay.setLatch_measSt (n : Nat) (x : Latch) : (b.setLatch n x).measSt = b.measSt := rfl
@[simp] theorem Bay.setLatch_eng (n : Nat) (x : Latch) : (b.setLatch n x).eng = b.eng := rfl
@[simp] theorem Bay.setLatch_images (n : Nat) (x : Latch) : (b.setLatch n x).images = b.images := rfl
@[simp] theorem Bay.setLatch_verMax (n : Nat) (x : Latch) : (b.setLatch n x).verMax = b.verMax := rfl
@[simp] theorem Bay.setLatch_revoked (n : Nat) (x : Latch) : (b.setLatch n x).revoked = b.revoked := rfl
@[simp] theorem Bay.setLatch_groups (n : Nat) (x : Latch) : (b.setLatch n x).groups = b.groups := rfl
@[simp] theorem Bay.setLatch_sweep (n : Nat) (x : Latch) : (b.setLatch n x).sweep = b.sweep := rfl
@[simp] theorem Bay.setLatch_loopCh (n : Nat) (x : Latch) : (b.setLatch n x).loopCh = b.loopCh := rfl
@[simp] theorem Bay.setLatch_loopAx (n : Nat) (x : Latch) : (b.setLatch n x).loopAx = b.loopAx := rfl
@[simp] theorem Bay.setLatch_trace (n : Nat) (x : Latch) : (b.setLatch n x).trace = b.trace := rfl
@[simp] theorem Bay.setLatch_grade (n : Nat) (x : Latch) : (b.setLatch n x).grade = b.grade := rfl
@[simp] theorem Bay.setLatch_modeSt (n : Nat) (x : Latch) : (b.setLatch n x).modeSt = b.modeSt := rfl
@[simp] theorem Bay.setLatch_plant (n : Nat) (x : Latch) : (b.setLatch n x).plant = b.plant := rfl
@[simp] theorem Bay.setLatch_wale (n : Nat) (x : Latch) : (b.setLatch n x).wale = b.wale := rfl
@[simp] theorem Bay.setLatch_axis (n : Nat) (x : Latch) : (b.setLatch n x).axis = b.axis := rfl
@[simp] theorem Bay.setLatch_axRec (n : Nat) (x : Latch) : (b.setLatch n x).axRec = b.axRec := rfl
@[simp] theorem Bay.setLatch_enc (n : Nat) (x : Latch) : (b.setLatch n x).enc = b.enc := rfl
@[simp] theorem Bay.setLatch_thermCh (n : Nat) (x : Latch) : (b.setLatch n x).thermCh = b.thermCh := rfl
@[simp] theorem Bay.setLatch_therm (n : Nat) (x : Latch) : (b.setLatch n x).therm = b.therm := rfl
@[simp] theorem Bay.setLatch_safe (n : Nat) (x : Latch) : (b.setLatch n x).safe = b.safe := rfl
@[simp] theorem Bay.setLatch_red (n : Nat) (x : Latch) : (b.setLatch n x).red = b.red := rfl
@[simp] theorem Bay.setLatch_memHid (n : Nat) (x : Latch) : (b.setLatch n x).memHid = b.memHid := rfl
@[simp] theorem Bay.setLatch_trust (n : Nat) (x : Latch) : (b.setLatch n x).trust = b.trust := rfl
@[simp] theorem Bay.setLatch_weave (n : Nat) (x : Latch) : (b.setLatch n x).weave = b.weave := rfl
@[simp] theorem Bay.setLatch_can (n : Nat) (x : Latch) : (b.setLatch n x).can = b.can := rfl
@[simp] theorem Bay.setLatch_shortReq (n : Nat) (x : Latch) : (b.setLatch n x).shortReq = b.shortReq := rfl
@[simp] theorem Bay.setLatch_out (n : Nat) (x : Latch) : (b.setLatch n x).out = b.out := rfl
@[simp] theorem Bay.setLatch_fresh (n : Nat) (x : Latch) : (b.setLatch n x).fresh = b.fresh := rfl
@[simp] theorem Bay.setLatch_rd (n : Nat) (x : Latch) (k : Key) : (b.setLatch n x).rd k = b.rd k := rfl
@[simp] theorem Bay.setLatch_mode (n : Nat) (x : Latch) : (b.setLatch n x).mode = b.mode := rfl

@[simp] theorem Bay.send_regs (x : OutMsg) : (b.send x).regs = b.regs := rfl
@[simp] theorem Bay.send_now (x : OutMsg) : (b.send x).now = b.now := rfl
@[simp] theorem Bay.send_shadows (x : OutMsg) : (b.send x).shadows = b.shadows := rfl
@[simp] theorem Bay.send_hiLatch (x : OutMsg) : (b.send x).hiLatch = b.hiLatch := rfl
@[simp] theorem Bay.send_setT (x : OutMsg) : (b.send x).setT = b.setT := rfl
@[simp] theorem Bay.send_edge (x : OutMsg) : (b.send x).edge = b.edge := rfl
@[simp] theorem Bay.send_log (x : OutMsg) : (b.send x).log = b.log := rfl
@[simp] theorem Bay.send_episode (x : OutMsg) : (b.send x).episode = b.episode := rfl
@[simp] theorem Bay.send_evBits (x : OutMsg) : (b.send x).evBits = b.evBits := rfl
@[simp] theorem Bay.send_stage (x : OutMsg) : (b.send x).stage = b.stage := rfl
@[simp] theorem Bay.send_driver (x : OutMsg) : (b.send x).driver = b.driver := rfl
@[simp] theorem Bay.send_fram (x : OutMsg) : (b.send x).fram = b.fram := rfl
@[simp] theorem Bay.send_border (x : OutMsg) : (b.send x).border = b.border := rfl
@[simp] theorem Bay.send_chan (x : OutMsg) : (b.send x).chan = b.chan := rfl
@[simp] theorem Bay.send_means (x : OutMsg) : (b.send x).means = b.means := rfl
@[simp] theorem Bay.send_ring (x : OutMsg) : (b.send x).ring = b.ring := rfl
@[simp] theorem Bay.send_cellT (x : OutMsg) : (b.send x).cellT = b.cellT := rfl
@[simp] theorem Bay.send_slotv (x : OutMsg) : (b.send x).slotv = b.slotv := rfl
@[simp] theorem Bay.send_measCh (x : OutMsg) : (b.send x).measCh = b.measCh := rfl
@[simp] theorem Bay.send_measSt (x : OutMsg) : (b.send x).measSt = b.measSt := rfl
@[simp] theorem Bay.send_eng (x : OutMsg) : (b.send x).eng = b.eng := rfl
@[simp] theorem Bay.send_images (x : OutMsg) : (b.send x).images = b.images := rfl
@[simp] theorem Bay.send_verMax (x : OutMsg) : (b.send x).verMax = b.verMax := rfl
@[simp] theorem Bay.send_revoked (x : OutMsg) : (b.send x).revoked = b.revoked := rfl
@[simp] theorem Bay.send_groups (x : OutMsg) : (b.send x).groups = b.groups := rfl
@[simp] theorem Bay.send_sweep (x : OutMsg) : (b.send x).sweep = b.sweep := rfl
@[simp] theorem Bay.send_loopCh (x : OutMsg) : (b.send x).loopCh = b.loopCh := rfl
@[simp] theorem Bay.send_loopAx (x : OutMsg) : (b.send x).loopAx = b.loopAx := rfl
@[simp] theorem Bay.send_trace (x : OutMsg) : (b.send x).trace = b.trace := rfl
@[simp] theorem Bay.send_grade (x : OutMsg) : (b.send x).grade = b.grade := rfl
@[simp] theorem Bay.send_modeSt (x : OutMsg) : (b.send x).modeSt = b.modeSt := rfl
@[simp] theorem Bay.send_plant (x : OutMsg) : (b.send x).plant = b.plant := rfl
@[simp] theorem Bay.send_wale (x : OutMsg) : (b.send x).wale = b.wale := rfl
@[simp] theorem Bay.send_axis (x : OutMsg) : (b.send x).axis = b.axis := rfl
@[simp] theorem Bay.send_axRec (x : OutMsg) : (b.send x).axRec = b.axRec := rfl
@[simp] theorem Bay.send_enc (x : OutMsg) : (b.send x).enc = b.enc := rfl
@[simp] theorem Bay.send_thermCh (x : OutMsg) : (b.send x).thermCh = b.thermCh := rfl
@[simp] theorem Bay.send_therm (x : OutMsg) : (b.send x).therm = b.therm := rfl
@[simp] theorem Bay.send_safe (x : OutMsg) : (b.send x).safe = b.safe := rfl
@[simp] theorem Bay.send_red (x : OutMsg) : (b.send x).red = b.red := rfl
@[simp] theorem Bay.send_memHid (x : OutMsg) : (b.send x).memHid = b.memHid := rfl
@[simp] theorem Bay.send_trust (x : OutMsg) : (b.send x).trust = b.trust := rfl
@[simp] theorem Bay.send_weave (x : OutMsg) : (b.send x).weave = b.weave := rfl
@[simp] theorem Bay.send_can (x : OutMsg) : (b.send x).can = b.can := rfl
@[simp] theorem Bay.send_latch (x : OutMsg) : (b.send x).latch = b.latch := rfl
@[simp] theorem Bay.send_shortReq (x : OutMsg) : (b.send x).shortReq = b.shortReq := rfl
@[simp] theorem Bay.send_fresh (x : OutMsg) : (b.send x).fresh = b.fresh := rfl
@[simp] theorem Bay.send_rd (x : OutMsg) (k : Key) : (b.send x).rd k = b.rd k := rfl
@[simp] theorem Bay.send_mode (x : OutMsg) : (b.send x).mode = b.mode := rfl

@[simp] theorem Bay.setModeSt_regs (x : ModeSt) : (b.setModeSt x).regs = b.regs := rfl
@[simp] theorem Bay.setModeSt_now (x : ModeSt) : (b.setModeSt x).now = b.now := rfl
@[simp] theorem Bay.setModeSt_shadows (x : ModeSt) : (b.setModeSt x).shadows = b.shadows := rfl
@[simp] theorem Bay.setModeSt_hiLatch (x : ModeSt) : (b.setModeSt x).hiLatch = b.hiLatch := rfl
@[simp] theorem Bay.setModeSt_setT (x : ModeSt) : (b.setModeSt x).setT = b.setT := rfl
@[simp] theorem Bay.setModeSt_edge (x : ModeSt) : (b.setModeSt x).edge = b.edge := rfl
@[simp] theorem Bay.setModeSt_log (x : ModeSt) : (b.setModeSt x).log = b.log := rfl
@[simp] theorem Bay.setModeSt_episode (x : ModeSt) : (b.setModeSt x).episode = b.episode := rfl
@[simp] theorem Bay.setModeSt_evBits (x : ModeSt) : (b.setModeSt x).evBits = b.evBits := rfl
@[simp] theorem Bay.setModeSt_stage (x : ModeSt) : (b.setModeSt x).stage = b.stage := rfl
@[simp] theorem Bay.setModeSt_driver (x : ModeSt) : (b.setModeSt x).driver = b.driver := rfl
@[simp] theorem Bay.setModeSt_fram (x : ModeSt) : (b.setModeSt x).fram = b.fram := rfl
@[simp] theorem Bay.setModeSt_border (x : ModeSt) : (b.setModeSt x).border = b.border := rfl
@[simp] theorem Bay.setModeSt_chan (x : ModeSt) : (b.setModeSt x).chan = b.chan := rfl
@[simp] theorem Bay.setModeSt_means (x : ModeSt) : (b.setModeSt x).means = b.means := rfl
@[simp] theorem Bay.setModeSt_ring (x : ModeSt) : (b.setModeSt x).ring = b.ring := rfl
@[simp] theorem Bay.setModeSt_cellT (x : ModeSt) : (b.setModeSt x).cellT = b.cellT := rfl
@[simp] theorem Bay.setModeSt_slotv (x : ModeSt) : (b.setModeSt x).slotv = b.slotv := rfl
@[simp] theorem Bay.setModeSt_measCh (x : ModeSt) : (b.setModeSt x).measCh = b.measCh := rfl
@[simp] theorem Bay.setModeSt_measSt (x : ModeSt) : (b.setModeSt x).measSt = b.measSt := rfl
@[simp] theorem Bay.setModeSt_eng (x : ModeSt) : (b.setModeSt x).eng = b.eng := rfl
@[simp] theorem Bay.setModeSt_images (x : ModeSt) : (b.setModeSt x).images = b.images := rfl
@[simp] theorem Bay.setModeSt_verMax (x : ModeSt) : (b.setModeSt x).verMax = b.verMax := rfl
@[simp] theorem Bay.setModeSt_revoked (x : ModeSt) : (b.setModeSt x).revoked = b.revoked := rfl
@[simp] theorem Bay.setModeSt_groups (x : ModeSt) : (b.setModeSt x).groups = b.groups := rfl
@[simp] theorem Bay.setModeSt_sweep (x : ModeSt) : (b.setModeSt x).sweep = b.sweep := rfl
@[simp] theorem Bay.setModeSt_loopCh (x : ModeSt) : (b.setModeSt x).loopCh = b.loopCh := rfl
@[simp] theorem Bay.setModeSt_loopAx (x : ModeSt) : (b.setModeSt x).loopAx = b.loopAx := rfl
@[simp] theorem Bay.setModeSt_trace (x : ModeSt) : (b.setModeSt x).trace = b.trace := rfl
@[simp] theorem Bay.setModeSt_grade (x : ModeSt) : (b.setModeSt x).grade = b.grade := rfl
@[simp] theorem Bay.setModeSt_plant (x : ModeSt) : (b.setModeSt x).plant = b.plant := rfl
@[simp] theorem Bay.setModeSt_wale (x : ModeSt) : (b.setModeSt x).wale = b.wale := rfl
@[simp] theorem Bay.setModeSt_axis (x : ModeSt) : (b.setModeSt x).axis = b.axis := rfl
@[simp] theorem Bay.setModeSt_axRec (x : ModeSt) : (b.setModeSt x).axRec = b.axRec := rfl
@[simp] theorem Bay.setModeSt_enc (x : ModeSt) : (b.setModeSt x).enc = b.enc := rfl
@[simp] theorem Bay.setModeSt_thermCh (x : ModeSt) : (b.setModeSt x).thermCh = b.thermCh := rfl
@[simp] theorem Bay.setModeSt_therm (x : ModeSt) : (b.setModeSt x).therm = b.therm := rfl
@[simp] theorem Bay.setModeSt_safe (x : ModeSt) : (b.setModeSt x).safe = b.safe := rfl
@[simp] theorem Bay.setModeSt_red (x : ModeSt) : (b.setModeSt x).red = b.red := rfl
@[simp] theorem Bay.setModeSt_memHid (x : ModeSt) : (b.setModeSt x).memHid = b.memHid := rfl
@[simp] theorem Bay.setModeSt_trust (x : ModeSt) : (b.setModeSt x).trust = b.trust := rfl
@[simp] theorem Bay.setModeSt_weave (x : ModeSt) : (b.setModeSt x).weave = b.weave := rfl
@[simp] theorem Bay.setModeSt_can (x : ModeSt) : (b.setModeSt x).can = b.can := rfl
@[simp] theorem Bay.setModeSt_latch (x : ModeSt) : (b.setModeSt x).latch = b.latch := rfl
@[simp] theorem Bay.setModeSt_shortReq (x : ModeSt) : (b.setModeSt x).shortReq = b.shortReq := rfl
@[simp] theorem Bay.setModeSt_out (x : ModeSt) : (b.setModeSt x).out = b.out := rfl
@[simp] theorem Bay.setModeSt_fresh (x : ModeSt) : (b.setModeSt x).fresh = b.fresh := rfl
@[simp] theorem Bay.setModeSt_rd (x : ModeSt) (k : Key) : (b.setModeSt x).rd k = b.rd k := rfl
@[simp] theorem Bay.setModeSt_mode (x : ModeSt) : (b.setModeSt x).mode = b.mode := rfl

@[simp] theorem Bay.setModeSt_modeSt (x : ModeSt) : (b.setModeSt x).modeSt = x := rfl

@[simp] theorem Bay.setPlant_regs (x : Plant) : (b.setPlant x).regs = b.regs := rfl
@[simp] theorem Bay.setPlant_now (x : Plant) : (b.setPlant x).now = b.now := rfl
@[simp] theorem Bay.setPlant_shadows (x : Plant) : (b.setPlant x).shadows = b.shadows := rfl
@[simp] theorem Bay.setPlant_hiLatch (x : Plant) : (b.setPlant x).hiLatch = b.hiLatch := rfl
@[simp] theorem Bay.setPlant_setT (x : Plant) : (b.setPlant x).setT = b.setT := rfl
@[simp] theorem Bay.setPlant_edge (x : Plant) : (b.setPlant x).edge = b.edge := rfl
@[simp] theorem Bay.setPlant_log (x : Plant) : (b.setPlant x).log = b.log := rfl
@[simp] theorem Bay.setPlant_episode (x : Plant) : (b.setPlant x).episode = b.episode := rfl
@[simp] theorem Bay.setPlant_evBits (x : Plant) : (b.setPlant x).evBits = b.evBits := rfl
@[simp] theorem Bay.setPlant_stage (x : Plant) : (b.setPlant x).stage = b.stage := rfl
@[simp] theorem Bay.setPlant_driver (x : Plant) : (b.setPlant x).driver = b.driver := rfl
@[simp] theorem Bay.setPlant_fram (x : Plant) : (b.setPlant x).fram = b.fram := rfl
@[simp] theorem Bay.setPlant_border (x : Plant) : (b.setPlant x).border = b.border := rfl
@[simp] theorem Bay.setPlant_chan (x : Plant) : (b.setPlant x).chan = b.chan := rfl
@[simp] theorem Bay.setPlant_means (x : Plant) : (b.setPlant x).means = b.means := rfl
@[simp] theorem Bay.setPlant_ring (x : Plant) : (b.setPlant x).ring = b.ring := rfl
@[simp] theorem Bay.setPlant_cellT (x : Plant) : (b.setPlant x).cellT = b.cellT := rfl
@[simp] theorem Bay.setPlant_slotv (x : Plant) : (b.setPlant x).slotv = b.slotv := rfl
@[simp] theorem Bay.setPlant_measCh (x : Plant) : (b.setPlant x).measCh = b.measCh := rfl
@[simp] theorem Bay.setPlant_measSt (x : Plant) : (b.setPlant x).measSt = b.measSt := rfl
@[simp] theorem Bay.setPlant_eng (x : Plant) : (b.setPlant x).eng = b.eng := rfl
@[simp] theorem Bay.setPlant_images (x : Plant) : (b.setPlant x).images = b.images := rfl
@[simp] theorem Bay.setPlant_verMax (x : Plant) : (b.setPlant x).verMax = b.verMax := rfl
@[simp] theorem Bay.setPlant_revoked (x : Plant) : (b.setPlant x).revoked = b.revoked := rfl
@[simp] theorem Bay.setPlant_groups (x : Plant) : (b.setPlant x).groups = b.groups := rfl
@[simp] theorem Bay.setPlant_sweep (x : Plant) : (b.setPlant x).sweep = b.sweep := rfl
@[simp] theorem Bay.setPlant_loopCh (x : Plant) : (b.setPlant x).loopCh = b.loopCh := rfl
@[simp] theorem Bay.setPlant_loopAx (x : Plant) : (b.setPlant x).loopAx = b.loopAx := rfl
@[simp] theorem Bay.setPlant_trace (x : Plant) : (b.setPlant x).trace = b.trace := rfl
@[simp] theorem Bay.setPlant_grade (x : Plant) : (b.setPlant x).grade = b.grade := rfl
@[simp] theorem Bay.setPlant_modeSt (x : Plant) : (b.setPlant x).modeSt = b.modeSt := rfl
@[simp] theorem Bay.setPlant_wale (x : Plant) : (b.setPlant x).wale = b.wale := rfl
@[simp] theorem Bay.setPlant_axis (x : Plant) : (b.setPlant x).axis = b.axis := rfl
@[simp] theorem Bay.setPlant_axRec (x : Plant) : (b.setPlant x).axRec = b.axRec := rfl
@[simp] theorem Bay.setPlant_enc (x : Plant) : (b.setPlant x).enc = b.enc := rfl
@[simp] theorem Bay.setPlant_thermCh (x : Plant) : (b.setPlant x).thermCh = b.thermCh := rfl
@[simp] theorem Bay.setPlant_therm (x : Plant) : (b.setPlant x).therm = b.therm := rfl
@[simp] theorem Bay.setPlant_safe (x : Plant) : (b.setPlant x).safe = b.safe := rfl
@[simp] theorem Bay.setPlant_red (x : Plant) : (b.setPlant x).red = b.red := rfl
@[simp] theorem Bay.setPlant_memHid (x : Plant) : (b.setPlant x).memHid = b.memHid := rfl
@[simp] theorem Bay.setPlant_trust (x : Plant) : (b.setPlant x).trust = b.trust := rfl
@[simp] theorem Bay.setPlant_weave (x : Plant) : (b.setPlant x).weave = b.weave := rfl
@[simp] theorem Bay.setPlant_can (x : Plant) : (b.setPlant x).can = b.can := rfl
@[simp] theorem Bay.setPlant_latch (x : Plant) : (b.setPlant x).latch = b.latch := rfl
@[simp] theorem Bay.setPlant_shortReq (x : Plant) : (b.setPlant x).shortReq = b.shortReq := rfl
@[simp] theorem Bay.setPlant_out (x : Plant) : (b.setPlant x).out = b.out := rfl
@[simp] theorem Bay.setPlant_fresh (x : Plant) : (b.setPlant x).fresh = b.fresh := rfl
@[simp] theorem Bay.setPlant_rd (x : Plant) (k : Key) : (b.setPlant x).rd k = b.rd k := rfl
@[simp] theorem Bay.setPlant_mode (x : Plant) : (b.setPlant x).mode = b.mode := rfl

@[simp] theorem Bay.setPlant_plant (x : Plant) : (b.setPlant x).plant = x := rfl

@[simp] theorem Bay.setSafe_regs (x : Safe) : (b.setSafe x).regs = b.regs := rfl
@[simp] theorem Bay.setSafe_now (x : Safe) : (b.setSafe x).now = b.now := rfl
@[simp] theorem Bay.setSafe_shadows (x : Safe) : (b.setSafe x).shadows = b.shadows := rfl
@[simp] theorem Bay.setSafe_hiLatch (x : Safe) : (b.setSafe x).hiLatch = b.hiLatch := rfl
@[simp] theorem Bay.setSafe_setT (x : Safe) : (b.setSafe x).setT = b.setT := rfl
@[simp] theorem Bay.setSafe_edge (x : Safe) : (b.setSafe x).edge = b.edge := rfl
@[simp] theorem Bay.setSafe_log (x : Safe) : (b.setSafe x).log = b.log := rfl
@[simp] theorem Bay.setSafe_episode (x : Safe) : (b.setSafe x).episode = b.episode := rfl
@[simp] theorem Bay.setSafe_evBits (x : Safe) : (b.setSafe x).evBits = b.evBits := rfl
@[simp] theorem Bay.setSafe_stage (x : Safe) : (b.setSafe x).stage = b.stage := rfl
@[simp] theorem Bay.setSafe_driver (x : Safe) : (b.setSafe x).driver = b.driver := rfl
@[simp] theorem Bay.setSafe_fram (x : Safe) : (b.setSafe x).fram = b.fram := rfl
@[simp] theorem Bay.setSafe_border (x : Safe) : (b.setSafe x).border = b.border := rfl
@[simp] theorem Bay.setSafe_chan (x : Safe) : (b.setSafe x).chan = b.chan := rfl
@[simp] theorem Bay.setSafe_means (x : Safe) : (b.setSafe x).means = b.means := rfl
@[simp] theorem Bay.setSafe_ring (x : Safe) : (b.setSafe x).ring = b.ring := rfl
@[simp] theorem Bay.setSafe_cellT (x : Safe) : (b.setSafe x).cellT = b.cellT := rfl
@[simp] theorem Bay.setSafe_slotv (x : Safe) : (b.setSafe x).slotv = b.slotv := rfl
@[simp] theorem Bay.setSafe_measCh (x : Safe) : (b.setSafe x).measCh = b.measCh := rfl
@[simp] theorem Bay.setSafe_measSt (x : Safe) : (b.setSafe x).measSt = b.measSt := rfl
@[simp] theorem Bay.setSafe_eng (x : Safe) : (b.setSafe x).eng = b.eng := rfl
@[simp] theorem Bay.setSafe_images (x : Safe) : (b.setSafe x).images = b.images := rfl
@[simp] theorem Bay.setSafe_verMax (x : Safe) : (b.setSafe x).verMax = b.verMax := rfl
@[simp] theorem Bay.setSafe_revoked (x : Safe) : (b.setSafe x).revoked = b.revoked := rfl
@[simp] theorem Bay.setSafe_groups (x : Safe) : (b.setSafe x).groups = b.groups := rfl
@[simp] theorem Bay.setSafe_sweep (x : Safe) : (b.setSafe x).sweep = b.sweep := rfl
@[simp] theorem Bay.setSafe_loopCh (x : Safe) : (b.setSafe x).loopCh = b.loopCh := rfl
@[simp] theorem Bay.setSafe_loopAx (x : Safe) : (b.setSafe x).loopAx = b.loopAx := rfl
@[simp] theorem Bay.setSafe_trace (x : Safe) : (b.setSafe x).trace = b.trace := rfl
@[simp] theorem Bay.setSafe_grade (x : Safe) : (b.setSafe x).grade = b.grade := rfl
@[simp] theorem Bay.setSafe_modeSt (x : Safe) : (b.setSafe x).modeSt = b.modeSt := rfl
@[simp] theorem Bay.setSafe_plant (x : Safe) : (b.setSafe x).plant = b.plant := rfl
@[simp] theorem Bay.setSafe_wale (x : Safe) : (b.setSafe x).wale = b.wale := rfl
@[simp] theorem Bay.setSafe_axis (x : Safe) : (b.setSafe x).axis = b.axis := rfl
@[simp] theorem Bay.setSafe_axRec (x : Safe) : (b.setSafe x).axRec = b.axRec := rfl
@[simp] theorem Bay.setSafe_enc (x : Safe) : (b.setSafe x).enc = b.enc := rfl
@[simp] theorem Bay.setSafe_thermCh (x : Safe) : (b.setSafe x).thermCh = b.thermCh := rfl
@[simp] theorem Bay.setSafe_therm (x : Safe) : (b.setSafe x).therm = b.therm := rfl
@[simp] theorem Bay.setSafe_red (x : Safe) : (b.setSafe x).red = b.red := rfl
@[simp] theorem Bay.setSafe_memHid (x : Safe) : (b.setSafe x).memHid = b.memHid := rfl
@[simp] theorem Bay.setSafe_trust (x : Safe) : (b.setSafe x).trust = b.trust := rfl
@[simp] theorem Bay.setSafe_weave (x : Safe) : (b.setSafe x).weave = b.weave := rfl
@[simp] theorem Bay.setSafe_can (x : Safe) : (b.setSafe x).can = b.can := rfl
@[simp] theorem Bay.setSafe_latch (x : Safe) : (b.setSafe x).latch = b.latch := rfl
@[simp] theorem Bay.setSafe_shortReq (x : Safe) : (b.setSafe x).shortReq = b.shortReq := rfl
@[simp] theorem Bay.setSafe_out (x : Safe) : (b.setSafe x).out = b.out := rfl
@[simp] theorem Bay.setSafe_fresh (x : Safe) : (b.setSafe x).fresh = b.fresh := rfl
@[simp] theorem Bay.setSafe_rd (x : Safe) (k : Key) : (b.setSafe x).rd k = b.rd k := rfl
@[simp] theorem Bay.setSafe_mode (x : Safe) : (b.setSafe x).mode = b.mode := rfl

@[simp] theorem Bay.setSafe_safe (x : Safe) : (b.setSafe x).safe = x := rfl

@[simp] theorem Bay.setTherm_regs (x : Therm) : (b.setTherm x).regs = b.regs := rfl
@[simp] theorem Bay.setTherm_now (x : Therm) : (b.setTherm x).now = b.now := rfl
@[simp] theorem Bay.setTherm_shadows (x : Therm) : (b.setTherm x).shadows = b.shadows := rfl
@[simp] theorem Bay.setTherm_hiLatch (x : Therm) : (b.setTherm x).hiLatch = b.hiLatch := rfl
@[simp] theorem Bay.setTherm_setT (x : Therm) : (b.setTherm x).setT = b.setT := rfl
@[simp] theorem Bay.setTherm_edge (x : Therm) : (b.setTherm x).edge = b.edge := rfl
@[simp] theorem Bay.setTherm_log (x : Therm) : (b.setTherm x).log = b.log := rfl
@[simp] theorem Bay.setTherm_episode (x : Therm) : (b.setTherm x).episode = b.episode := rfl
@[simp] theorem Bay.setTherm_evBits (x : Therm) : (b.setTherm x).evBits = b.evBits := rfl
@[simp] theorem Bay.setTherm_stage (x : Therm) : (b.setTherm x).stage = b.stage := rfl
@[simp] theorem Bay.setTherm_driver (x : Therm) : (b.setTherm x).driver = b.driver := rfl
@[simp] theorem Bay.setTherm_fram (x : Therm) : (b.setTherm x).fram = b.fram := rfl
@[simp] theorem Bay.setTherm_border (x : Therm) : (b.setTherm x).border = b.border := rfl
@[simp] theorem Bay.setTherm_chan (x : Therm) : (b.setTherm x).chan = b.chan := rfl
@[simp] theorem Bay.setTherm_means (x : Therm) : (b.setTherm x).means = b.means := rfl
@[simp] theorem Bay.setTherm_ring (x : Therm) : (b.setTherm x).ring = b.ring := rfl
@[simp] theorem Bay.setTherm_cellT (x : Therm) : (b.setTherm x).cellT = b.cellT := rfl
@[simp] theorem Bay.setTherm_slotv (x : Therm) : (b.setTherm x).slotv = b.slotv := rfl
@[simp] theorem Bay.setTherm_measCh (x : Therm) : (b.setTherm x).measCh = b.measCh := rfl
@[simp] theorem Bay.setTherm_measSt (x : Therm) : (b.setTherm x).measSt = b.measSt := rfl
@[simp] theorem Bay.setTherm_eng (x : Therm) : (b.setTherm x).eng = b.eng := rfl
@[simp] theorem Bay.setTherm_images (x : Therm) : (b.setTherm x).images = b.images := rfl
@[simp] theorem Bay.setTherm_verMax (x : Therm) : (b.setTherm x).verMax = b.verMax := rfl
@[simp] theorem Bay.setTherm_revoked (x : Therm) : (b.setTherm x).revoked = b.revoked := rfl
@[simp] theorem Bay.setTherm_groups (x : Therm) : (b.setTherm x).groups = b.groups := rfl
@[simp] theorem Bay.setTherm_sweep (x : Therm) : (b.setTherm x).sweep = b.sweep := rfl
@[simp] theorem Bay.setTherm_loopCh (x : Therm) : (b.setTherm x).loopCh = b.loopCh := rfl
@[simp] theorem Bay.setTherm_loopAx (x : Therm) : (b.setTherm x).loopAx = b.loopAx := rfl
@[simp] theorem Bay.setTherm_trace (x : Therm) : (b.setTherm x).trace = b.trace := rfl
@[simp] theorem Bay.setTherm_grade (x : Therm) : (b.setTherm x).grade = b.grade := rfl
@[simp] theorem Bay.setTherm_modeSt (x : Therm) : (b.setTherm x).modeSt = b.modeSt := rfl
@[simp] theorem Bay.setTherm_plant (x : Therm) : (b.setTherm x).plant = b.plant := rfl
@[simp] theorem Bay.setTherm_wale (x : Therm) : (b.setTherm x).wale = b.wale := rfl
@[simp] theorem Bay.setTherm_axis (x : Therm) : (b.setTherm x).axis = b.axis := rfl
@[simp] theorem Bay.setTherm_axRec (x : Therm) : (b.setTherm x).axRec = b.axRec := rfl
@[simp] theorem Bay.setTherm_enc (x : Therm) : (b.setTherm x).enc = b.enc := rfl
@[simp] theorem Bay.setTherm_thermCh (x : Therm) : (b.setTherm x).thermCh = b.thermCh := rfl
@[simp] theorem Bay.setTherm_safe (x : Therm) : (b.setTherm x).safe = b.safe := rfl
@[simp] theorem Bay.setTherm_red (x : Therm) : (b.setTherm x).red = b.red := rfl
@[simp] theorem Bay.setTherm_memHid (x : Therm) : (b.setTherm x).memHid = b.memHid := rfl
@[simp] theorem Bay.setTherm_trust (x : Therm) : (b.setTherm x).trust = b.trust := rfl
@[simp] theorem Bay.setTherm_weave (x : Therm) : (b.setTherm x).weave = b.weave := rfl
@[simp] theorem Bay.setTherm_can (x : Therm) : (b.setTherm x).can = b.can := rfl
@[simp] theorem Bay.setTherm_latch (x : Therm) : (b.setTherm x).latch = b.latch := rfl
@[simp] theorem Bay.setTherm_shortReq (x : Therm) : (b.setTherm x).shortReq = b.shortReq := rfl
@[simp] theorem Bay.setTherm_out (x : Therm) : (b.setTherm x).out = b.out := rfl
@[simp] theorem Bay.setTherm_fresh (x : Therm) : (b.setTherm x).fresh = b.fresh := rfl
@[simp] theorem Bay.setTherm_rd (x : Therm) (k : Key) : (b.setTherm x).rd k = b.rd k := rfl
@[simp] theorem Bay.setTherm_mode (x : Therm) : (b.setTherm x).mode = b.mode := rfl

@[simp] theorem Bay.setTherm_therm (x : Therm) : (b.setTherm x).therm = x := rfl

@[simp] theorem Bay.setWeave_regs (x : Weave) : (b.setWeave x).regs = b.regs := rfl
@[simp] theorem Bay.setWeave_now (x : Weave) : (b.setWeave x).now = b.now := rfl
@[simp] theorem Bay.setWeave_shadows (x : Weave) : (b.setWeave x).shadows = b.shadows := rfl
@[simp] theorem Bay.setWeave_hiLatch (x : Weave) : (b.setWeave x).hiLatch = b.hiLatch := rfl
@[simp] theorem Bay.setWeave_setT (x : Weave) : (b.setWeave x).setT = b.setT := rfl
@[simp] theorem Bay.setWeave_edge (x : Weave) : (b.setWeave x).edge = b.edge := rfl
@[simp] theorem Bay.setWeave_log (x : Weave) : (b.setWeave x).log = b.log := rfl
@[simp] theorem Bay.setWeave_episode (x : Weave) : (b.setWeave x).episode = b.episode := rfl
@[simp] theorem Bay.setWeave_evBits (x : Weave) : (b.setWeave x).evBits = b.evBits := rfl
@[simp] theorem Bay.setWeave_stage (x : Weave) : (b.setWeave x).stage = b.stage := rfl
@[simp] theorem Bay.setWeave_driver (x : Weave) : (b.setWeave x).driver = b.driver := rfl
@[simp] theorem Bay.setWeave_fram (x : Weave) : (b.setWeave x).fram = b.fram := rfl
@[simp] theorem Bay.setWeave_border (x : Weave) : (b.setWeave x).border = b.border := rfl
@[simp] theorem Bay.setWeave_chan (x : Weave) : (b.setWeave x).chan = b.chan := rfl
@[simp] theorem Bay.setWeave_means (x : Weave) : (b.setWeave x).means = b.means := rfl
@[simp] theorem Bay.setWeave_ring (x : Weave) : (b.setWeave x).ring = b.ring := rfl
@[simp] theorem Bay.setWeave_cellT (x : Weave) : (b.setWeave x).cellT = b.cellT := rfl
@[simp] theorem Bay.setWeave_slotv (x : Weave) : (b.setWeave x).slotv = b.slotv := rfl
@[simp] theorem Bay.setWeave_measCh (x : Weave) : (b.setWeave x).measCh = b.measCh := rfl
@[simp] theorem Bay.setWeave_measSt (x : Weave) : (b.setWeave x).measSt = b.measSt := rfl
@[simp] theorem Bay.setWeave_eng (x : Weave) : (b.setWeave x).eng = b.eng := rfl
@[simp] theorem Bay.setWeave_images (x : Weave) : (b.setWeave x).images = b.images := rfl
@[simp] theorem Bay.setWeave_verMax (x : Weave) : (b.setWeave x).verMax = b.verMax := rfl
@[simp] theorem Bay.setWeave_revoked (x : Weave) : (b.setWeave x).revoked = b.revoked := rfl
@[simp] theorem Bay.setWeave_groups (x : Weave) : (b.setWeave x).groups = b.groups := rfl
@[simp] theorem Bay.setWeave_sweep (x : Weave) : (b.setWeave x).sweep = b.sweep := rfl
@[simp] theorem Bay.setWeave_loopCh (x : Weave) : (b.setWeave x).loopCh = b.loopCh := rfl
@[simp] theorem Bay.setWeave_loopAx (x : Weave) : (b.setWeave x).loopAx = b.loopAx := rfl
@[simp] theorem Bay.setWeave_trace (x : Weave) : (b.setWeave x).trace = b.trace := rfl
@[simp] theorem Bay.setWeave_grade (x : Weave) : (b.setWeave x).grade = b.grade := rfl
@[simp] theorem Bay.setWeave_modeSt (x : Weave) : (b.setWeave x).modeSt = b.modeSt := rfl
@[simp] theorem Bay.setWeave_plant (x : Weave) : (b.setWeave x).plant = b.plant := rfl
@[simp] theorem Bay.setWeave_wale (x : Weave) : (b.setWeave x).wale = b.wale := rfl
@[simp] theorem Bay.setWeave_axis (x : Weave) : (b.setWeave x).axis = b.axis := rfl
@[simp] theorem Bay.setWeave_axRec (x : Weave) : (b.setWeave x).axRec = b.axRec := rfl
@[simp] theorem Bay.setWeave_enc (x : Weave) : (b.setWeave x).enc = b.enc := rfl
@[simp] theorem Bay.setWeave_thermCh (x : Weave) : (b.setWeave x).thermCh = b.thermCh := rfl
@[simp] theorem Bay.setWeave_therm (x : Weave) : (b.setWeave x).therm = b.therm := rfl
@[simp] theorem Bay.setWeave_safe (x : Weave) : (b.setWeave x).safe = b.safe := rfl
@[simp] theorem Bay.setWeave_red (x : Weave) : (b.setWeave x).red = b.red := rfl
@[simp] theorem Bay.setWeave_memHid (x : Weave) : (b.setWeave x).memHid = b.memHid := rfl
@[simp] theorem Bay.setWeave_trust (x : Weave) : (b.setWeave x).trust = b.trust := rfl
@[simp] theorem Bay.setWeave_can (x : Weave) : (b.setWeave x).can = b.can := rfl
@[simp] theorem Bay.setWeave_latch (x : Weave) : (b.setWeave x).latch = b.latch := rfl
@[simp] theorem Bay.setWeave_shortReq (x : Weave) : (b.setWeave x).shortReq = b.shortReq := rfl
@[simp] theorem Bay.setWeave_out (x : Weave) : (b.setWeave x).out = b.out := rfl
@[simp] theorem Bay.setWeave_fresh (x : Weave) : (b.setWeave x).fresh = b.fresh := rfl
@[simp] theorem Bay.setWeave_rd (x : Weave) (k : Key) : (b.setWeave x).rd k = b.rd k := rfl
@[simp] theorem Bay.setWeave_mode (x : Weave) : (b.setWeave x).mode = b.mode := rfl

@[simp] theorem Bay.setWeave_weave (x : Weave) : (b.setWeave x).weave = x := rfl

@[simp] theorem Bay.setTrust_regs (x : Trust) : (b.setTrust x).regs = b.regs := rfl
@[simp] theorem Bay.setTrust_now (x : Trust) : (b.setTrust x).now = b.now := rfl
@[simp] theorem Bay.setTrust_shadows (x : Trust) : (b.setTrust x).shadows = b.shadows := rfl
@[simp] theorem Bay.setTrust_hiLatch (x : Trust) : (b.setTrust x).hiLatch = b.hiLatch := rfl
@[simp] theorem Bay.setTrust_setT (x : Trust) : (b.setTrust x).setT = b.setT := rfl
@[simp] theorem Bay.setTrust_edge (x : Trust) : (b.setTrust x).edge = b.edge := rfl
@[simp] theorem Bay.setTrust_log (x : Trust) : (b.setTrust x).log = b.log := rfl
@[simp] theorem Bay.setTrust_episode (x : Trust) : (b.setTrust x).episode = b.episode := rfl
@[simp] theorem Bay.setTrust_evBits (x : Trust) : (b.setTrust x).evBits = b.evBits := rfl
@[simp] theorem Bay.setTrust_stage (x : Trust) : (b.setTrust x).stage = b.stage := rfl
@[simp] theorem Bay.setTrust_driver (x : Trust) : (b.setTrust x).driver = b.driver := rfl
@[simp] theorem Bay.setTrust_fram (x : Trust) : (b.setTrust x).fram = b.fram := rfl
@[simp] theorem Bay.setTrust_border (x : Trust) : (b.setTrust x).border = b.border := rfl
@[simp] theorem Bay.setTrust_chan (x : Trust) : (b.setTrust x).chan = b.chan := rfl
@[simp] theorem Bay.setTrust_means (x : Trust) : (b.setTrust x).means = b.means := rfl
@[simp] theorem Bay.setTrust_ring (x : Trust) : (b.setTrust x).ring = b.ring := rfl
@[simp] theorem Bay.setTrust_cellT (x : Trust) : (b.setTrust x).cellT = b.cellT := rfl
@[simp] theorem Bay.setTrust_slotv (x : Trust) : (b.setTrust x).slotv = b.slotv := rfl
@[simp] theorem Bay.setTrust_measCh (x : Trust) : (b.setTrust x).measCh = b.measCh := rfl
@[simp] theorem Bay.setTrust_measSt (x : Trust) : (b.setTrust x).measSt = b.measSt := rfl
@[simp] theorem Bay.setTrust_eng (x : Trust) : (b.setTrust x).eng = b.eng := rfl
@[simp] theorem Bay.setTrust_images (x : Trust) : (b.setTrust x).images = b.images := rfl
@[simp] theorem Bay.setTrust_verMax (x : Trust) : (b.setTrust x).verMax = b.verMax := rfl
@[simp] theorem Bay.setTrust_revoked (x : Trust) : (b.setTrust x).revoked = b.revoked := rfl
@[simp] theorem Bay.setTrust_groups (x : Trust) : (b.setTrust x).groups = b.groups := rfl
@[simp] theorem Bay.setTrust_sweep (x : Trust) : (b.setTrust x).sweep = b.sweep := rfl
@[simp] theorem Bay.setTrust_loopCh (x : Trust) : (b.setTrust x).loopCh = b.loopCh := rfl
@[simp] theorem Bay.setTrust_loopAx (x : Trust) : (b.setTrust x).loopAx = b.loopAx := rfl
@[simp] theorem Bay.setTrust_trace (x : Trust) : (b.setTrust x).trace = b.trace := rfl
@[simp] theorem Bay.setTrust_grade (x : Trust) : (b.setTrust x).grade = b.grade := rfl
@[simp] theorem Bay.setTrust_modeSt (x : Trust) : (b.setTrust x).modeSt = b.modeSt := rfl
@[simp] theorem Bay.setTrust_plant (x : Trust) : (b.setTrust x).plant = b.plant := rfl
@[simp] theorem Bay.setTrust_wale (x : Trust) : (b.setTrust x).wale = b.wale := rfl
@[simp] theorem Bay.setTrust_axis (x : Trust) : (b.setTrust x).axis = b.axis := rfl
@[simp] theorem Bay.setTrust_axRec (x : Trust) : (b.setTrust x).axRec = b.axRec := rfl
@[simp] theorem Bay.setTrust_enc (x : Trust) : (b.setTrust x).enc = b.enc := rfl
@[simp] theorem Bay.setTrust_thermCh (x : Trust) : (b.setTrust x).thermCh = b.thermCh := rfl
@[simp] theorem Bay.setTrust_therm (x : Trust) : (b.setTrust x).therm = b.therm := rfl
@[simp] theorem Bay.setTrust_safe (x : Trust) : (b.setTrust x).safe = b.safe := rfl
@[simp] theorem Bay.setTrust_red (x : Trust) : (b.setTrust x).red = b.red := rfl
@[simp] theorem Bay.setTrust_memHid (x : Trust) : (b.setTrust x).memHid = b.memHid := rfl
@[simp] theorem Bay.setTrust_weave (x : Trust) : (b.setTrust x).weave = b.weave := rfl
@[simp] theorem Bay.setTrust_can (x : Trust) : (b.setTrust x).can = b.can := rfl
@[simp] theorem Bay.setTrust_latch (x : Trust) : (b.setTrust x).latch = b.latch := rfl
@[simp] theorem Bay.setTrust_shortReq (x : Trust) : (b.setTrust x).shortReq = b.shortReq := rfl
@[simp] theorem Bay.setTrust_out (x : Trust) : (b.setTrust x).out = b.out := rfl
@[simp] theorem Bay.setTrust_fresh (x : Trust) : (b.setTrust x).fresh = b.fresh := rfl
@[simp] theorem Bay.setTrust_rd (x : Trust) (k : Key) : (b.setTrust x).rd k = b.rd k := rfl
@[simp] theorem Bay.setTrust_mode (x : Trust) : (b.setTrust x).mode = b.mode := rfl

@[simp] theorem Bay.setTrust_trust (x : Trust) : (b.setTrust x).trust = x := rfl

@[simp] theorem Bay.shadowWrite_regs (k : Key) (v : Int) : (b.shadowWrite k v).regs = b.regs := rfl
@[simp] theorem Bay.shadowWrite_now (k : Key) (v : Int) : (b.shadowWrite k v).now = b.now := rfl
@[simp] theorem Bay.shadowWrite_hiLatch (k : Key) (v : Int) : (b.shadowWrite k v).hiLatch = b.hiLatch := rfl
@[simp] theorem Bay.shadowWrite_setT (k : Key) (v : Int) : (b.shadowWrite k v).setT = b.setT := rfl
@[simp] theorem Bay.shadowWrite_edge (k : Key) (v : Int) : (b.shadowWrite k v).edge = b.edge := rfl
@[simp] theorem Bay.shadowWrite_log (k : Key) (v : Int) : (b.shadowWrite k v).log = b.log := rfl
@[simp] theorem Bay.shadowWrite_episode (k : Key) (v : Int) : (b.shadowWrite k v).episode = b.episode := rfl
@[simp] theorem Bay.shadowWrite_evBits (k : Key) (v : Int) : (b.shadowWrite k v).evBits = b.evBits := rfl
@[simp] theorem Bay.shadowWrite_stage (k : Key) (v : Int) : (b.shadowWrite k v).stage = b.stage := rfl
@[simp] theorem Bay.shadowWrite_driver (k : Key) (v : Int) : (b.shadowWrite k v).driver = b.driver := rfl
@[simp] theorem Bay.shadowWrite_fram (k : Key) (v : Int) : (b.shadowWrite k v).fram = b.fram := rfl
@[simp] theorem Bay.shadowWrite_border (k : Key) (v : Int) : (b.shadowWrite k v).border = b.border := rfl
@[simp] theorem Bay.shadowWrite_chan (k : Key) (v : Int) : (b.shadowWrite k v).chan = b.chan := rfl
@[simp] theorem Bay.shadowWrite_means (k : Key) (v : Int) : (b.shadowWrite k v).means = b.means := rfl
@[simp] theorem Bay.shadowWrite_ring (k : Key) (v : Int) : (b.shadowWrite k v).ring = b.ring := rfl
@[simp] theorem Bay.shadowWrite_cellT (k : Key) (v : Int) : (b.shadowWrite k v).cellT = b.cellT := rfl
@[simp] theorem Bay.shadowWrite_slotv (k : Key) (v : Int) : (b.shadowWrite k v).slotv = b.slotv := rfl
@[simp] theorem Bay.shadowWrite_measCh (k : Key) (v : Int) : (b.shadowWrite k v).measCh = b.measCh := rfl
@[simp] theorem Bay.shadowWrite_measSt (k : Key) (v : Int) : (b.shadowWrite k v).measSt = b.measSt := rfl
@[simp] theorem Bay.shadowWrite_eng (k : Key) (v : Int) : (b.shadowWrite k v).eng = b.eng := rfl
@[simp] theorem Bay.shadowWrite_images (k : Key) (v : Int) : (b.shadowWrite k v).images = b.images := rfl
@[simp] theorem Bay.shadowWrite_verMax (k : Key) (v : Int) : (b.shadowWrite k v).verMax = b.verMax := rfl
@[simp] theorem Bay.shadowWrite_revoked (k : Key) (v : Int) : (b.shadowWrite k v).revoked = b.revoked := rfl
@[simp] theorem Bay.shadowWrite_groups (k : Key) (v : Int) : (b.shadowWrite k v).groups = b.groups := rfl
@[simp] theorem Bay.shadowWrite_sweep (k : Key) (v : Int) : (b.shadowWrite k v).sweep = b.sweep := rfl
@[simp] theorem Bay.shadowWrite_loopCh (k : Key) (v : Int) : (b.shadowWrite k v).loopCh = b.loopCh := rfl
@[simp] theorem Bay.shadowWrite_loopAx (k : Key) (v : Int) : (b.shadowWrite k v).loopAx = b.loopAx := rfl
@[simp] theorem Bay.shadowWrite_trace (k : Key) (v : Int) : (b.shadowWrite k v).trace = b.trace := rfl
@[simp] theorem Bay.shadowWrite_grade (k : Key) (v : Int) : (b.shadowWrite k v).grade = b.grade := rfl
@[simp] theorem Bay.shadowWrite_modeSt (k : Key) (v : Int) : (b.shadowWrite k v).modeSt = b.modeSt := rfl
@[simp] theorem Bay.shadowWrite_plant (k : Key) (v : Int) : (b.shadowWrite k v).plant = b.plant := rfl
@[simp] theorem Bay.shadowWrite_wale (k : Key) (v : Int) : (b.shadowWrite k v).wale = b.wale := rfl
@[simp] theorem Bay.shadowWrite_axis (k : Key) (v : Int) : (b.shadowWrite k v).axis = b.axis := rfl
@[simp] theorem Bay.shadowWrite_axRec (k : Key) (v : Int) : (b.shadowWrite k v).axRec = b.axRec := rfl
@[simp] theorem Bay.shadowWrite_enc (k : Key) (v : Int) : (b.shadowWrite k v).enc = b.enc := rfl
@[simp] theorem Bay.shadowWrite_thermCh (k : Key) (v : Int) : (b.shadowWrite k v).thermCh = b.thermCh := rfl
@[simp] theorem Bay.shadowWrite_therm (k : Key) (v : Int) : (b.shadowWrite k v).therm = b.therm := rfl
@[simp] theorem Bay.shadowWrite_safe (k : Key) (v : Int) : (b.shadowWrite k v).safe = b.safe := rfl
@[simp] theorem Bay.shadowWrite_red (k : Key) (v : Int) : (b.shadowWrite k v).red = b.red := rfl
@[simp] theorem Bay.shadowWrite_memHid (k : Key) (v : Int) : (b.shadowWrite k v).memHid = b.memHid := rfl
@[simp] theorem Bay.shadowWrite_trust (k : Key) (v : Int) : (b.shadowWrite k v).trust = b.trust := rfl
@[simp] theorem Bay.shadowWrite_weave (k : Key) (v : Int) : (b.shadowWrite k v).weave = b.weave := rfl
@[simp] theorem Bay.shadowWrite_can (k : Key) (v : Int) : (b.shadowWrite k v).can = b.can := rfl
@[simp] theorem Bay.shadowWrite_latch (k : Key) (v : Int) : (b.shadowWrite k v).latch = b.latch := rfl
@[simp] theorem Bay.shadowWrite_shortReq (k : Key) (v : Int) : (b.shadowWrite k v).shortReq = b.shortReq := rfl
@[simp] theorem Bay.shadowWrite_out (k : Key) (v : Int) : (b.shadowWrite k v).out = b.out := rfl
@[simp] theorem Bay.shadowWrite_fresh (k : Key) (v : Int) : (b.shadowWrite k v).fresh = b.fresh := rfl
@[simp] theorem Bay.shadowWrite_rd (k : Key) (v : Int) (k : Key) : (b.shadowWrite k v).rd k = b.rd k := rfl
@[simp] theorem Bay.shadowWrite_mode (k : Key) (v : Int) : (b.shadowWrite k v).mode = b.mode := rfl

end

end Sys2Proof.Machine
end

