-- ==== Sys2Proof/Laws/Events.lean ====
section
/-! SUPPORT. What raising an event can do: it may enter the log, open an overflow episode, count a lost entry in EVT.STAT.LOST, set bits on their way to engines and wake a trace lane; every other register and every other field stays. -/

namespace Sys2Proof.Machine

/-- A fold keeps what each of its steps keeps. -/
theorem Bay.each_keeps {α : Type} (g : Bay → α) (f : Bay → Nat → Bay) (h : ∀ b n, g (f b n) = g b) (b : Bay) (l : List Nat) :
    g (b.each l f) = g b := by
  unfold Bay.each
  induction l generalizing b with
  | nil => rfl
  | cons n r ih => simp [ih, h]

theorem Bay.onlyIf_keeps {α : Type} (g : Bay → α) (f : Bay → Bay) (h : ∀ b, g (f b) = g b) (b : Bay) (c : Bool) :
    g (b.onlyIf c f) = g b := by
  cases c <;> simp [Bay.onlyIf, h]

section
variable (b : Bay) (t src : Nat) (detail value : Int)

@[simp] theorem Bay.loseEvent_now : (b.loseEvent).now = b.now := by
  simp only [Bay.loseEvent]; split <;> rfl
@[simp] theorem Bay.logEvent_now (prio : Int) : (b.logEvent t src prio detail value).now = b.now := by
  simp only [Bay.logEvent]; repeat' split
  all_goals first | rfl | simp
@[simp] theorem Bay.loseEvent_shadows : (b.loseEvent).shadows = b.shadows := by
  simp only [Bay.loseEvent]; split <;> rfl
@[simp] theorem Bay.logEvent_shadows (prio : Int) : (b.logEvent t src prio detail value).shadows = b.shadows := by
  simp only [Bay.logEvent]; repeat' split
  all_goals first | rfl | simp
@[simp] theorem Bay.loseEvent_hiLatch : (b.loseEvent).hiLatch = b.hiLatch := by
  simp only [Bay.loseEvent]; split <;> rfl
@[simp] theorem Bay.logEvent_hiLatch (prio : Int) : (b.logEvent t src prio detail value).hiLatch = b.hiLatch := by
  simp only [Bay.logEvent]; repeat' split
  all_goals first | rfl | simp
@[simp] theorem Bay.loseEvent_setT : (b.loseEvent).setT = b.setT := by
  simp only [Bay.loseEvent]; split <;> rfl
@[simp] theorem Bay.logEvent_setT (prio : Int) : (b.logEvent t src prio detail value).setT = b.setT := by
  simp only [Bay.logEvent]; repeat' split
  all_goals first | rfl | simp
@[simp] theorem Bay.loseEvent_edge : (b.loseEvent).edge = b.edge := by
  simp only [Bay.loseEvent]; split <;> rfl
@[simp] theorem Bay.logEvent_edge (prio : Int) : (b.logEvent t src prio detail value).edge = b.edge := by
  simp only [Bay.logEvent]; repeat' split
  all_goals first | rfl | simp
@[simp] theorem Bay.loseEvent_stage : (b.loseEvent).stage = b.stage := by
  simp only [Bay.loseEvent]; split <;> rfl
@[simp] theorem Bay.logEvent_stage (prio : Int) : (b.logEvent t src prio detail value).stage = b.stage := by
  simp only [Bay.logEvent]; repeat' split
  all_goals first | rfl | simp
@[simp] theorem Bay.loseEvent_driver : (b.loseEvent).driver = b.driver := by
  simp only [Bay.loseEvent]; split <;> rfl
@[simp] theorem Bay.logEvent_driver (prio : Int) : (b.logEvent t src prio detail value).driver = b.driver := by
  simp only [Bay.logEvent]; repeat' split
  all_goals first | rfl | simp
@[simp] theorem Bay.loseEvent_fram : (b.loseEvent).fram = b.fram := by
  simp only [Bay.loseEvent]; split <;> rfl
@[simp] theorem Bay.logEvent_fram (prio : Int) : (b.logEvent t src prio detail value).fram = b.fram := by
  simp only [Bay.logEvent]; repeat' split
  all_goals first | rfl | simp
@[simp] theorem Bay.loseEvent_border : (b.loseEvent).border = b.border := by
  simp only [Bay.loseEvent]; split <;> rfl
@[simp] theorem Bay.logEvent_border (prio : Int) : (b.logEvent t src prio detail value).border = b.border := by
  simp only [Bay.logEvent]; repeat' split
  all_goals first | rfl | simp
@[simp] theorem Bay.loseEvent_chan : (b.loseEvent).chan = b.chan := by
  simp only [Bay.loseEvent]; split <;> rfl
@[simp] theorem Bay.logEvent_chan (prio : Int) : (b.logEvent t src prio detail value).chan = b.chan := by
  simp only [Bay.logEvent]; repeat' split
  all_goals first | rfl | simp
@[simp] theorem Bay.loseEvent_means : (b.loseEvent).means = b.means := by
  simp only [Bay.loseEvent]; split <;> rfl
@[simp] theorem Bay.logEvent_means (prio : Int) : (b.logEvent t src prio detail value).means = b.means := by
  simp only [Bay.logEvent]; repeat' split
  all_goals first | rfl | simp
@[simp] theorem Bay.loseEvent_ring : (b.loseEvent).ring = b.ring := by
  simp only [Bay.loseEvent]; split <;> rfl
@[simp] theorem Bay.logEvent_ring (prio : Int) : (b.logEvent t src prio detail value).ring = b.ring := by
  simp only [Bay.logEvent]; repeat' split
  all_goals first | rfl | simp
@[simp] theorem Bay.loseEvent_cellT : (b.loseEvent).cellT = b.cellT := by
  simp only [Bay.loseEvent]; split <;> rfl
@[simp] theorem Bay.logEvent_cellT (prio : Int) : (b.logEvent t src prio detail value).cellT = b.cellT := by
  simp only [Bay.logEvent]; repeat' split
  all_goals first | rfl | simp
@[simp] theorem Bay.loseEvent_slotv : (b.loseEvent).slotv = b.slotv := by
  simp only [Bay.loseEvent]; split <;> rfl
@[simp] theorem Bay.logEvent_slotv (prio : Int) : (b.logEvent t src prio detail value).slotv = b.slotv := by
  simp only [Bay.logEvent]; repeat' split
  all_goals first | rfl | simp
@[simp] theorem Bay.loseEvent_measCh : (b.loseEvent).measCh = b.measCh := by
  simp only [Bay.loseEvent]; split <;> rfl
@[simp] theorem Bay.logEvent_measCh (prio : Int) : (b.logEvent t src prio detail value).measCh = b.measCh := by
  simp only [Bay.logEvent]; repeat' split
  all_goals first | rfl | simp
@[simp] theorem Bay.loseEvent_measSt : (b.loseEvent).measSt = b.measSt := by
  simp only [Bay.loseEvent]; split <;> rfl
@[simp] theorem Bay.logEvent_measSt (prio : Int) : (b.logEvent t src prio detail value).measSt = b.measSt := by
  simp only [Bay.logEvent]; repeat' split
  all_goals first | rfl | simp
@[simp] theorem Bay.loseEvent_eng : (b.loseEvent).eng = b.eng := by
  simp only [Bay.loseEvent]; split <;> rfl
@[simp] theorem Bay.logEvent_eng (prio : Int) : (b.logEvent t src prio detail value).eng = b.eng := by
  simp only [Bay.logEvent]; repeat' split
  all_goals first | rfl | simp
@[simp] theorem Bay.loseEvent_images : (b.loseEvent).images = b.images := by
  simp only [Bay.loseEvent]; split <;> rfl
@[simp] theorem Bay.logEvent_images (prio : Int) : (b.logEvent t src prio detail value).images = b.images := by
  simp only [Bay.logEvent]; repeat' split
  all_goals first | rfl | simp
@[simp] theorem Bay.loseEvent_verMax : (b.loseEvent).verMax = b.verMax := by
  simp only [Bay.loseEvent]; split <;> rfl
@[simp] theorem Bay.logEvent_verMax (prio : Int) : (b.logEvent t src prio detail value).verMax = b.verMax := by
  simp only [Bay.logEvent]; repeat' split
  all_goals first | rfl | simp
@[simp] theorem Bay.loseEvent_revoked : (b.loseEvent).revoked = b.revoked := by
  simp only [Bay.loseEvent]; split <;> rfl
@[simp] theorem Bay.logEvent_revoked (prio : Int) : (b.logEvent t src prio detail value).revoked = b.revoked := by
  simp only [Bay.logEvent]; repeat' split
  all_goals first | rfl | simp
@[simp] theorem Bay.loseEvent_groups : (b.loseEvent).groups = b.groups := by
  simp only [Bay.loseEvent]; split <;> rfl
@[simp] theorem Bay.logEvent_groups (prio : Int) : (b.logEvent t src prio detail value).groups = b.groups := by
  simp only [Bay.logEvent]; repeat' split
  all_goals first | rfl | simp
@[simp] theorem Bay.loseEvent_sweep : (b.loseEvent).sweep = b.sweep := by
  simp only [Bay.loseEvent]; split <;> rfl
@[simp] theorem Bay.logEvent_sweep (prio : Int) : (b.logEvent t src prio detail value).sweep = b.sweep := by
  simp only [Bay.logEvent]; repeat' split
  all_goals first | rfl | simp
@[simp] theorem Bay.loseEvent_loopCh : (b.loseEvent).loopCh = b.loopCh := by
  simp only [Bay.loseEvent]; split <;> rfl
@[simp] theorem Bay.logEvent_loopCh (prio : Int) : (b.logEvent t src prio detail value).loopCh = b.loopCh := by
  simp only [Bay.logEvent]; repeat' split
  all_goals first | rfl | simp
@[simp] theorem Bay.loseEvent_loopAx : (b.loseEvent).loopAx = b.loopAx := by
  simp only [Bay.loseEvent]; split <;> rfl
@[simp] theorem Bay.logEvent_loopAx (prio : Int) : (b.logEvent t src prio detail value).loopAx = b.loopAx := by
  simp only [Bay.logEvent]; repeat' split
  all_goals first | rfl | simp
@[simp] theorem Bay.loseEvent_grade : (b.loseEvent).grade = b.grade := by
  simp only [Bay.loseEvent]; split <;> rfl
@[simp] theorem Bay.logEvent_grade (prio : Int) : (b.logEvent t src prio detail value).grade = b.grade := by
  simp only [Bay.logEvent]; repeat' split
  all_goals first | rfl | simp
@[simp] theorem Bay.loseEvent_modeSt : (b.loseEvent).modeSt = b.modeSt := by
  simp only [Bay.loseEvent]; split <;> rfl
@[simp] theorem Bay.logEvent_modeSt (prio : Int) : (b.logEvent t src prio detail value).modeSt = b.modeSt := by
  simp only [Bay.logEvent]; repeat' split
  all_goals first | rfl | simp
@[simp] theorem Bay.loseEvent_plant : (b.loseEvent).plant = b.plant := by
  simp only [Bay.loseEvent]; split <;> rfl
@[simp] theorem Bay.logEvent_plant (prio : Int) : (b.logEvent t src prio detail value).plant = b.plant := by
  simp only [Bay.logEvent]; repeat' split
  all_goals first | rfl | simp
@[simp] theorem Bay.loseEvent_wale : (b.loseEvent).wale = b.wale := by
  simp only [Bay.loseEvent]; split <;> rfl
@[simp] theorem Bay.logEvent_wale (prio : Int) : (b.logEvent t src prio detail value).wale = b.wale := by
  simp only [Bay.logEvent]; repeat' split
  all_goals first | rfl | simp
@[simp] theorem Bay.loseEvent_axis : (b.loseEvent).axis = b.axis := by
  simp only [Bay.loseEvent]; split <;> rfl
@[simp] theorem Bay.logEvent_axis (prio : Int) : (b.logEvent t src prio detail value).axis = b.axis := by
  simp only [Bay.logEvent]; repeat' split
  all_goals first | rfl | simp
@[simp] theorem Bay.loseEvent_axRec : (b.loseEvent).axRec = b.axRec := by
  simp only [Bay.loseEvent]; split <;> rfl
@[simp] theorem Bay.logEvent_axRec (prio : Int) : (b.logEvent t src prio detail value).axRec = b.axRec := by
  simp only [Bay.logEvent]; repeat' split
  all_goals first | rfl | simp
@[simp] theorem Bay.loseEvent_enc : (b.loseEvent).enc = b.enc := by
  simp only [Bay.loseEvent]; split <;> rfl
@[simp] theorem Bay.logEvent_enc (prio : Int) : (b.logEvent t src prio detail value).enc = b.enc := by
  simp only [Bay.logEvent]; repeat' split
  all_goals first | rfl | simp
@[simp] theorem Bay.loseEvent_thermCh : (b.loseEvent).thermCh = b.thermCh := by
  simp only [Bay.loseEvent]; split <;> rfl
@[simp] theorem Bay.logEvent_thermCh (prio : Int) : (b.logEvent t src prio detail value).thermCh = b.thermCh := by
  simp only [Bay.logEvent]; repeat' split
  all_goals first | rfl | simp
@[simp] theorem Bay.loseEvent_therm : (b.loseEvent).therm = b.therm := by
  simp only [Bay.loseEvent]; split <;> rfl
@[simp] theorem Bay.logEvent_therm (prio : Int) : (b.logEvent t src prio detail value).therm = b.therm := by
  simp only [Bay.logEvent]; repeat' split
  all_goals first | rfl | simp
@[simp] theorem Bay.loseEvent_safe : (b.loseEvent).safe = b.safe := by
  simp only [Bay.loseEvent]; split <;> rfl
@[simp] theorem Bay.logEvent_safe (prio : Int) : (b.logEvent t src prio detail value).safe = b.safe := by
  simp only [Bay.logEvent]; repeat' split
  all_goals first | rfl | simp
@[simp] theorem Bay.loseEvent_red : (b.loseEvent).red = b.red := by
  simp only [Bay.loseEvent]; split <;> rfl
@[simp] theorem Bay.logEvent_red (prio : Int) : (b.logEvent t src prio detail value).red = b.red := by
  simp only [Bay.logEvent]; repeat' split
  all_goals first | rfl | simp
@[simp] theorem Bay.loseEvent_memHid : (b.loseEvent).memHid = b.memHid := by
  simp only [Bay.loseEvent]; split <;> rfl
@[simp] theorem Bay.logEvent_memHid (prio : Int) : (b.logEvent t src prio detail value).memHid = b.memHid := by
  simp only [Bay.logEvent]; repeat' split
  all_goals first | rfl | simp
@[simp] theorem Bay.loseEvent_trust : (b.loseEvent).trust = b.trust := by
  simp only [Bay.loseEvent]; split <;> rfl
@[simp] theorem Bay.logEvent_trust (prio : Int) : (b.logEvent t src prio detail value).trust = b.trust := by
  simp only [Bay.logEvent]; repeat' split
  all_goals first | rfl | simp
@[simp] theorem Bay.loseEvent_weave : (b.loseEvent).weave = b.weave := by
  simp only [Bay.loseEvent]; split <;> rfl
@[simp] theorem Bay.logEvent_weave (prio : Int) : (b.logEvent t src prio detail value).weave = b.weave := by
  simp only [Bay.logEvent]; repeat' split
  all_goals first | rfl | simp
@[simp] theorem Bay.loseEvent_can : (b.loseEvent).can = b.can := by
  simp only [Bay.loseEvent]; split <;> rfl
@[simp] theorem Bay.logEvent_can (prio : Int) : (b.logEvent t src prio detail value).can = b.can := by
  simp only [Bay.logEvent]; repeat' split
  all_goals first | rfl | simp
@[simp] theorem Bay.loseEvent_latch : (b.loseEvent).latch = b.latch := by
  simp only [Bay.loseEvent]; split <;> rfl
@[simp] theorem Bay.logEvent_latch (prio : Int) : (b.logEvent t src prio detail value).latch = b.latch := by
  simp only [Bay.logEvent]; repeat' split
  all_goals first | rfl | simp
@[simp] theorem Bay.loseEvent_shortReq : (b.loseEvent).shortReq = b.shortReq := by
  simp only [Bay.loseEvent]; split <;> rfl
@[simp] theorem Bay.logEvent_shortReq (prio : Int) : (b.logEvent t src prio detail value).shortReq = b.shortReq := by
  simp only [Bay.logEvent]; repeat' split
  all_goals first | rfl | simp
@[simp] theorem Bay.loseEvent_out : (b.loseEvent).out = b.out := by
  simp only [Bay.loseEvent]; split <;> rfl
@[simp] theorem Bay.logEvent_out (prio : Int) : (b.logEvent t src prio detail value).out = b.out := by
  simp only [Bay.logEvent]; repeat' split
  all_goals first | rfl | simp
@[simp] theorem Bay.loseEvent_fresh : (b.loseEvent).fresh = b.fresh := by
  simp only [Bay.loseEvent]; split <;> rfl
@[simp] theorem Bay.logEvent_fresh (prio : Int) : (b.logEvent t src prio detail value).fresh = b.fresh := by
  simp only [Bay.logEvent]; repeat' split
  all_goals first | rfl | simp
@[simp] theorem Bay.loseEvent_trace : (b.loseEvent).trace = b.trace := by
  simp only [Bay.loseEvent]; split <;> rfl
@[simp] theorem Bay.logEvent_trace (prio : Int) : (b.logEvent t src prio detail value).trace = b.trace := by
  simp only [Bay.logEvent]; repeat' split
  all_goals first | rfl | simp
@[simp] theorem Bay.routeEngine_now : (b.routeEngine t src).now = b.now := by
  simp only [Bay.routeEngine]; repeat' split
  all_goals first | rfl | (apply Bay.each_keeps Bay.now; intros; rfl)
@[simp] theorem Bay.routeEngine_shadows : (b.routeEngine t src).shadows = b.shadows := by
  simp only [Bay.routeEngine]; repeat' split
  all_goals first | rfl | (apply Bay.each_keeps Bay.shadows; intros; rfl)
@[simp] theorem Bay.routeEngine_hiLatch : (b.routeEngine t src).hiLatch = b.hiLatch := by
  simp only [Bay.routeEngine]; repeat' split
  all_goals first | rfl | (apply Bay.each_keeps Bay.hiLatch; intros; rfl)
@[simp] theorem Bay.routeEngine_setT : (b.routeEngine t src).setT = b.setT := by
  simp only [Bay.routeEngine]; repeat' split
  all_goals first | rfl | (apply Bay.each_keeps Bay.setT; intros; rfl)
@[simp] theorem Bay.routeEngine_edge : (b.routeEngine t src).edge = b.edge := by
  simp only [Bay.routeEngine]; repeat' split
  all_goals first | rfl | (apply Bay.each_keeps Bay.edge; intros; rfl)
@[simp] theorem Bay.routeEngine_stage : (b.routeEngine t src).stage = b.stage := by
  simp only [Bay.routeEngine]; repeat' split
  all_goals first | rfl | (apply Bay.each_keeps Bay.stage; intros; rfl)
@[simp] theorem Bay.routeEngine_driver : (b.routeEngine t src).driver = b.driver := by
  simp only [Bay.routeEngine]; repeat' split
  all_goals first | rfl | (apply Bay.each_keeps Bay.driver; intros; rfl)
@[simp] theorem Bay.routeEngine_fram : (b.routeEngine t src).fram = b.fram := by
  simp only [Bay.routeEngine]; repeat' split
  all_goals first | rfl | (apply Bay.each_keeps Bay.fram; intros; rfl)
@[simp] theorem Bay.routeEngine_border : (b.routeEngine t src).border = b.border := by
  simp only [Bay.routeEngine]; repeat' split
  all_goals first | rfl | (apply Bay.each_keeps Bay.border; intros; rfl)
@[simp] theorem Bay.routeEngine_chan : (b.routeEngine t src).chan = b.chan := by
  simp only [Bay.routeEngine]; repeat' split
  all_goals first | rfl | (apply Bay.each_keeps Bay.chan; intros; rfl)
@[simp] theorem Bay.routeEngine_means : (b.routeEngine t src).means = b.means := by
  simp only [Bay.routeEngine]; repeat' split
  all_goals first | rfl | (apply Bay.each_keeps Bay.means; intros; rfl)
@[simp] theorem Bay.routeEngine_ring : (b.routeEngine t src).ring = b.ring := by
  simp only [Bay.routeEngine]; repeat' split
  all_goals first | rfl | (apply Bay.each_keeps Bay.ring; intros; rfl)
@[simp] theorem Bay.routeEngine_cellT : (b.routeEngine t src).cellT = b.cellT := by
  simp only [Bay.routeEngine]; repeat' split
  all_goals first | rfl | (apply Bay.each_keeps Bay.cellT; intros; rfl)
@[simp] theorem Bay.routeEngine_slotv : (b.routeEngine t src).slotv = b.slotv := by
  simp only [Bay.routeEngine]; repeat' split
  all_goals first | rfl | (apply Bay.each_keeps Bay.slotv; intros; rfl)
@[simp] theorem Bay.routeEngine_measCh : (b.routeEngine t src).measCh = b.measCh := by
  simp only [Bay.routeEngine]; repeat' split
  all_goals first | rfl | (apply Bay.each_keeps Bay.measCh; intros; rfl)
@[simp] theorem Bay.routeEngine_measSt : (b.routeEngine t src).measSt = b.measSt := by
  simp only [Bay.routeEngine]; repeat' split
  all_goals first | rfl | (apply Bay.each_keeps Bay.measSt; intros; rfl)
@[simp] theorem Bay.routeEngine_eng : (b.routeEngine t src).eng = b.eng := by
  simp only [Bay.routeEngine]; repeat' split
  all_goals first | rfl | (apply Bay.each_keeps Bay.eng; intros; rfl)
@[simp] theorem Bay.routeEngine_images : (b.routeEngine t src).images = b.images := by
  simp only [Bay.routeEngine]; repeat' split
  all_goals first | rfl | (apply Bay.each_keeps Bay.images; intros; rfl)
@[simp] theorem Bay.routeEngine_verMax : (b.routeEngine t src).verMax = b.verMax := by
  simp only [Bay.routeEngine]; repeat' split
  all_goals first | rfl | (apply Bay.each_keeps Bay.verMax; intros; rfl)
@[simp] theorem Bay.routeEngine_revoked : (b.routeEngine t src).revoked = b.revoked := by
  simp only [Bay.routeEngine]; repeat' split
  all_goals first | rfl | (apply Bay.each_keeps Bay.revoked; intros; rfl)
@[simp] theorem Bay.routeEngine_groups : (b.routeEngine t src).groups = b.groups := by
  simp only [Bay.routeEngine]; repeat' split
  all_goals first | rfl | (apply Bay.each_keeps Bay.groups; intros; rfl)
@[simp] theorem Bay.routeEngine_sweep : (b.routeEngine t src).sweep = b.sweep := by
  simp only [Bay.routeEngine]; repeat' split
  all_goals first | rfl | (apply Bay.each_keeps Bay.sweep; intros; rfl)
@[simp] theorem Bay.routeEngine_loopCh : (b.routeEngine t src).loopCh = b.loopCh := by
  simp only [Bay.routeEngine]; repeat' split
  all_goals first | rfl | (apply Bay.each_keeps Bay.loopCh; intros; rfl)
@[simp] theorem Bay.routeEngine_loopAx : (b.routeEngine t src).loopAx = b.loopAx := by
  simp only [Bay.routeEngine]; repeat' split
  all_goals first | rfl | (apply Bay.each_keeps Bay.loopAx; intros; rfl)
@[simp] theorem Bay.routeEngine_grade : (b.routeEngine t src).grade = b.grade := by
  simp only [Bay.routeEngine]; repeat' split
  all_goals first | rfl | (apply Bay.each_keeps Bay.grade; intros; rfl)
@[simp] theorem Bay.routeEngine_modeSt : (b.routeEngine t src).modeSt = b.modeSt := by
  simp only [Bay.routeEngine]; repeat' split
  all_goals first | rfl | (apply Bay.each_keeps Bay.modeSt; intros; rfl)
@[simp] theorem Bay.routeEngine_plant : (b.routeEngine t src).plant = b.plant := by
  simp only [Bay.routeEngine]; repeat' split
  all_goals first | rfl | (apply Bay.each_keeps Bay.plant; intros; rfl)
@[simp] theorem Bay.routeEngine_wale : (b.routeEngine t src).wale = b.wale := by
  simp only [Bay.routeEngine]; repeat' split
  all_goals first | rfl | (apply Bay.each_keeps Bay.wale; intros; rfl)
@[simp] theorem Bay.routeEngine_axis : (b.routeEngine t src).axis = b.axis := by
  simp only [Bay.routeEngine]; repeat' split
  all_goals first | rfl | (apply Bay.each_keeps Bay.axis; intros; rfl)
@[simp] theorem Bay.routeEngine_axRec : (b.routeEngine t src).axRec = b.axRec := by
  simp only [Bay.routeEngine]; repeat' split
  all_goals first | rfl | (apply Bay.each_keeps Bay.axRec; intros; rfl)
@[simp] theorem Bay.routeEngine_enc : (b.routeEngine t src).enc = b.enc := by
  simp only [Bay.routeEngine]; repeat' split
  all_goals first | rfl | (apply Bay.each_keeps Bay.enc; intros; rfl)
@[simp] theorem Bay.routeEngine_thermCh : (b.routeEngine t src).thermCh = b.thermCh := by
  simp only [Bay.routeEngine]; repeat' split
  all_goals first | rfl | (apply Bay.each_keeps Bay.thermCh; intros; rfl)
@[simp] theorem Bay.routeEngine_therm : (b.routeEngine t src).therm = b.therm := by
  simp only [Bay.routeEngine]; repeat' split
  all_goals first | rfl | (apply Bay.each_keeps Bay.therm; intros; rfl)
@[simp] theorem Bay.routeEngine_safe : (b.routeEngine t src).safe = b.safe := by
  simp only [Bay.routeEngine]; repeat' split
  all_goals first | rfl | (apply Bay.each_keeps Bay.safe; intros; rfl)
@[simp] theorem Bay.routeEngine_red : (b.routeEngine t src).red = b.red := by
  simp only [Bay.routeEngine]; repeat' split
  all_goals first | rfl | (apply Bay.each_keeps Bay.red; intros; rfl)
@[simp] theorem Bay.routeEngine_memHid : (b.routeEngine t src).memHid = b.memHid := by
  simp only [Bay.routeEngine]; repeat' split
  all_goals first | rfl | (apply Bay.each_keeps Bay.memHid; intros; rfl)
@[simp] theorem Bay.routeEngine_trust : (b.routeEngine t src).trust = b.trust := by
  simp only [Bay.routeEngine]; repeat' split
  all_goals first | rfl | (apply Bay.each_keeps Bay.trust; intros; rfl)
@[simp] theorem Bay.routeEngine_weave : (b.routeEngine t src).weave = b.weave := by
  simp only [Bay.routeEngine]; repeat' split
  all_goals first | rfl | (apply Bay.each_keeps Bay.weave; intros; rfl)
@[simp] theorem Bay.routeEngine_can : (b.routeEngine t src).can = b.can := by
  simp only [Bay.routeEngine]; repeat' split
  all_goals first | rfl | (apply Bay.each_keeps Bay.can; intros; rfl)
@[simp] theorem Bay.routeEngine_latch : (b.routeEngine t src).latch = b.latch := by
  simp only [Bay.routeEngine]; repeat' split
  all_goals first | rfl | (apply Bay.each_keeps Bay.latch; intros; rfl)
@[simp] theorem Bay.routeEngine_shortReq : (b.routeEngine t src).shortReq = b.shortReq := by
  simp only [Bay.routeEngine]; repeat' split
  all_goals first | rfl | (apply Bay.each_keeps Bay.shortReq; intros; rfl)
@[simp] theorem Bay.routeEngine_out : (b.routeEngine t src).out = b.out := by
  simp only [Bay.routeEngine]; repeat' split
  all_goals first | rfl | (apply Bay.each_keeps Bay.out; intros; rfl)
@[simp] theorem Bay.routeEngine_fresh : (b.routeEngine t src).fresh = b.fresh := by
  simp only [Bay.routeEngine]; repeat' split
  all_goals first | rfl | (apply Bay.each_keeps Bay.fresh; intros; rfl)
@[simp] theorem Bay.routeEngine_trace : (b.routeEngine t src).trace = b.trace := by
  simp only [Bay.routeEngine]; repeat' split
  all_goals first | rfl | (apply Bay.each_keeps Bay.trace; intros; rfl)
@[simp] theorem Bay.routeEngine_log : (b.routeEngine t src).log = b.log := by
  simp only [Bay.routeEngine]; repeat' split
  all_goals first | rfl | (apply Bay.each_keeps Bay.log; intros; rfl)
@[simp] theorem Bay.routeEngine_episode : (b.routeEngine t src).episode = b.episode := by
  simp only [Bay.routeEngine]; repeat' split
  all_goals first | rfl | (apply Bay.each_keeps Bay.episode; intros; rfl)
@[simp] theorem Bay.traceEvent_now : (b.traceEvent src).now = b.now := by
  apply Bay.each_keeps Bay.now; intros; dsimp only; split <;> rfl
@[simp] theorem Bay.traceEvent_shadows : (b.traceEvent src).shadows = b.shadows := by
  apply Bay.each_keeps Bay.shadows; intros; dsimp only; split <;> rfl
@[simp] theorem Bay.traceEvent_hiLatch : (b.traceEvent src).hiLatch = b.hiLatch := by
  apply Bay.each_keeps Bay.hiLatch; intros; dsimp only; split <;> rfl
@[simp] theorem Bay.traceEvent_setT : (b.traceEvent src).setT = b.setT := by
  apply Bay.each_keeps Bay.setT; intros; dsimp only; split <;> rfl
@[simp] theorem Bay.traceEvent_edge : (b.traceEvent src).edge = b.edge := by
  apply Bay.each_keeps Bay.edge; intros; dsimp only; split <;> rfl
@[simp] theorem Bay.traceEvent_stage : (b.traceEvent src).stage = b.stage := by
  apply Bay.each_keeps Bay.stage; intros; dsimp only; split <;> rfl
@[simp] theorem Bay.traceEvent_driver : (b.traceEvent src).driver = b.driver := by
  apply Bay.each_keeps Bay.driver; intros; dsimp only; split <;> rfl
@[simp] theorem Bay.traceEvent_fram : (b.traceEvent src).fram = b.fram := by
  apply Bay.each_keeps Bay.fram; intros; dsimp only; split <;> rfl
@[simp] theorem Bay.traceEvent_border : (b.traceEvent src).border = b.border := by
  apply Bay.each_keeps Bay.border; intros; dsimp only; split <;> rfl
@[simp] theorem Bay.traceEvent_chan : (b.traceEvent src).chan = b.chan := by
  apply Bay.each_keeps Bay.chan; intros; dsimp only; split <;> rfl
@[simp] theorem Bay.traceEvent_means : (b.traceEvent src).means = b.means := by
  apply Bay.each_keeps Bay.means; intros; dsimp only; split <;> rfl
@[simp] theorem Bay.traceEvent_ring : (b.traceEvent src).ring = b.ring := by
  apply Bay.each_keeps Bay.ring; intros; dsimp only; split <;> rfl
@[simp] theorem Bay.traceEvent_cellT : (b.traceEvent src).cellT = b.cellT := by
  apply Bay.each_keeps Bay.cellT; intros; dsimp only; split <;> rfl
@[simp] theorem Bay.traceEvent_slotv : (b.traceEvent src).slotv = b.slotv := by
  apply Bay.each_keeps Bay.slotv; intros; dsimp only; split <;> rfl
@[simp] theorem Bay.traceEvent_measCh : (b.traceEvent src).measCh = b.measCh := by
  apply Bay.each_keeps Bay.measCh; intros; dsimp only; split <;> rfl
@[simp] theorem Bay.traceEvent_measSt : (b.traceEvent src).measSt = b.measSt := by
  apply Bay.each_keeps Bay.measSt; intros; dsimp only; split <;> rfl
@[simp] theorem Bay.traceEvent_eng : (b.traceEvent src).eng = b.eng := by
  apply Bay.each_keeps Bay.eng; intros; dsimp only; split <;> rfl
@[simp] theorem Bay.traceEvent_images : (b.traceEvent src).images = b.images := by
  apply Bay.each_keeps Bay.images; intros; dsimp only; split <;> rfl
@[simp] theorem Bay.traceEvent_verMax : (b.traceEvent src).verMax = b.verMax := by
  apply Bay.each_keeps Bay.verMax; intros; dsimp only; split <;> rfl
@[simp] theorem Bay.traceEvent_revoked : (b.traceEvent src).revoked = b.revoked := by
  apply Bay.each_keeps Bay.revoked; intros; dsimp only; split <;> rfl
@[simp] theorem Bay.traceEvent_groups : (b.traceEvent src).groups = b.groups := by
  apply Bay.each_keeps Bay.groups; intros; dsimp only; split <;> rfl
@[simp] theorem Bay.traceEvent_sweep : (b.traceEvent src).sweep = b.sweep := by
  apply Bay.each_keeps Bay.sweep; intros; dsimp only; split <;> rfl
@[simp] theorem Bay.traceEvent_loopCh : (b.traceEvent src).loopCh = b.loopCh := by
  apply Bay.each_keeps Bay.loopCh; intros; dsimp only; split <;> rfl
@[simp] theorem Bay.traceEvent_loopAx : (b.traceEvent src).loopAx = b.loopAx := by
  apply Bay.each_keeps Bay.loopAx; intros; dsimp only; split <;> rfl
@[simp] theorem Bay.traceEvent_grade : (b.traceEvent src).grade = b.grade := by
  apply Bay.each_keeps Bay.grade; intros; dsimp only; split <;> rfl
@[simp] theorem Bay.traceEvent_modeSt : (b.traceEvent src).modeSt = b.modeSt := by
  apply Bay.each_keeps Bay.modeSt; intros; dsimp only; split <;> rfl
@[simp] theorem Bay.traceEvent_plant : (b.traceEvent src).plant = b.plant := by
  apply Bay.each_keeps Bay.plant; intros; dsimp only; split <;> rfl
@[simp] theorem Bay.traceEvent_wale : (b.traceEvent src).wale = b.wale := by
  apply Bay.each_keeps Bay.wale; intros; dsimp only; split <;> rfl
@[simp] theorem Bay.traceEvent_axis : (b.traceEvent src).axis = b.axis := by
  apply Bay.each_keeps Bay.axis; intros; dsimp only; split <;> rfl
@[simp] theorem Bay.traceEvent_axRec : (b.traceEvent src).axRec = b.axRec := by
  apply Bay.each_keeps Bay.axRec; intros; dsimp only; split <;> rfl
@[simp] theorem Bay.traceEvent_enc : (b.traceEvent src).enc = b.enc := by
  apply Bay.each_keeps Bay.enc; intros; dsimp only; split <;> rfl
@[simp] theorem Bay.traceEvent_thermCh : (b.traceEvent src).thermCh = b.thermCh := by
  apply Bay.each_keeps Bay.thermCh; intros; dsimp only; split <;> rfl
@[simp] theorem Bay.traceEvent_therm : (b.traceEvent src).therm = b.therm := by
  apply Bay.each_keeps Bay.therm; intros; dsimp only; split <;> rfl
@[simp] theorem Bay.traceEvent_safe : (b.traceEvent src).safe = b.safe := by
  apply Bay.each_keeps Bay.safe; intros; dsimp only; split <;> rfl
@[simp] theorem Bay.traceEvent_red : (b.traceEvent src).red = b.red := by
  apply Bay.each_keeps Bay.red; intros; dsimp only; split <;> rfl
@[simp] theorem Bay.traceEvent_memHid : (b.traceEvent src).memHid = b.memHid := by
  apply Bay.each_keeps Bay.memHid; intros; dsimp only; split <;> rfl
@[simp] theorem Bay.traceEvent_trust : (b.traceEvent src).trust = b.trust := by
  apply Bay.each_keeps Bay.trust; intros; dsimp only; split <;> rfl
@[simp] theorem Bay.traceEvent_weave : (b.traceEvent src).weave = b.weave := by
  apply Bay.each_keeps Bay.weave; intros; dsimp only; split <;> rfl
@[simp] theorem Bay.traceEvent_can : (b.traceEvent src).can = b.can := by
  apply Bay.each_keeps Bay.can; intros; dsimp only; split <;> rfl
@[simp] theorem Bay.traceEvent_latch : (b.traceEvent src).latch = b.latch := by
  apply Bay.each_keeps Bay.latch; intros; dsimp only; split <;> rfl
@[simp] theorem Bay.traceEvent_shortReq : (b.traceEvent src).shortReq = b.shortReq := by
  apply Bay.each_keeps Bay.shortReq; intros; dsimp only; split <;> rfl
@[simp] theorem Bay.traceEvent_out : (b.traceEvent src).out = b.out := by
  apply Bay.each_keeps Bay.out; intros; dsimp only; split <;> rfl
@[simp] theorem Bay.traceEvent_fresh : (b.traceEvent src).fresh = b.fresh := by
  apply Bay.each_keeps Bay.fresh; intros; dsimp only; split <;> rfl
@[simp] theorem Bay.traceEvent_log : (b.traceEvent src).log = b.log := by
  apply Bay.each_keeps Bay.log; intros; dsimp only; split <;> rfl
@[simp] theorem Bay.traceEvent_episode : (b.traceEvent src).episode = b.episode := by
  apply Bay.each_keeps Bay.episode; intros; dsimp only; split <;> rfl
@[simp] theorem Bay.traceEvent_evBits : (b.traceEvent src).evBits = b.evBits := by
  apply Bay.each_keeps Bay.evBits; intros; dsimp only; split <;> rfl
@[simp] theorem Bay.raiseAt_now : (b.raiseAt t src detail value).now = b.now := by
  simp only [Bay.raiseAt]; repeat' split
  all_goals simp [Bay.sendEvBit, Bay.onlyIf_keeps Bay.now]
@[simp] theorem Bay.raise_now : (b.raise src detail value).now = b.now := Bay.raiseAt_now _ _ _ _ _
@[simp] theorem Bay.cfgErr_now (a : Nat) (r : Int) : (b.cfgErr a r).now = b.now := Bay.raiseAt_now _ _ _ _ _
@[simp] theorem Bay.refuse_now (k : Key) (r : Int) : (b.refuse k r).now = b.now := Bay.raiseAt_now _ _ _ _ _
@[simp] theorem Bay.raiseD_now : (b.raiseD src detail).now = b.now := Bay.raiseAt_now _ _ _ _ _
@[simp] theorem Bay.note_now : (b.note src).now = b.now := Bay.raiseAt_now _ _ _ _ _
@[simp] theorem Bay.raiseAt_shadows : (b.raiseAt t src detail value).shadows = b.shadows := by
  simp only [Bay.raiseAt]; repeat' split
  all_goals simp [Bay.sendEvBit, Bay.onlyIf_keeps Bay.shadows]
@[simp] theorem Bay.raise_shadows : (b.raise src detail value).shadows = b.shadows := Bay.raiseAt_shadows _ _ _ _ _
@[simp] theorem Bay.cfgErr_shadows (a : Nat) (r : Int) : (b.cfgErr a r).shadows = b.shadows := Bay.raiseAt_shadows _ _ _ _ _
@[simp] theorem Bay.refuse_shadows (k : Key) (r : Int) : (b.refuse k r).shadows = b.shadows := Bay.raiseAt_shadows _ _ _ _ _
@[simp] theorem Bay.raiseD_shadows : (b.raiseD src detail).shadows = b.shadows := Bay.raiseAt_shadows _ _ _ _ _
@[simp] theorem Bay.note_shadows : (b.note src).shadows = b.shadows := Bay.raiseAt_shadows _ _ _ _ _
@[simp] theorem Bay.raiseAt_hiLatch : (b.raiseAt t src detail value).hiLatch = b.hiLatch := by
  simp only [Bay.raiseAt]; repeat' split
  all_goals simp [Bay.sendEvBit, Bay.onlyIf_keeps Bay.hiLatch]
@[simp] theorem Bay.raise_hiLatch : (b.raise src detail value).hiLatch = b.hiLatch := Bay.raiseAt_hiLatch _ _ _ _ _
@[simp] theorem Bay.cfgErr_hiLatch (a : Nat) (r : Int) : (b.cfgErr a r).hiLatch = b.hiLatch := Bay.raiseAt_hiLatch _ _ _ _ _
@[simp] theorem Bay.refuse_hiLatch (k : Key) (r : Int) : (b.refuse k r).hiLatch = b.hiLatch := Bay.raiseAt_hiLatch _ _ _ _ _
@[simp] theorem Bay.raiseD_hiLatch : (b.raiseD src detail).hiLatch = b.hiLatch := Bay.raiseAt_hiLatch _ _ _ _ _
@[simp] theorem Bay.note_hiLatch : (b.note src).hiLatch = b.hiLatch := Bay.raiseAt_hiLatch _ _ _ _ _
@[simp] theorem Bay.raiseAt_setT : (b.raiseAt t src detail value).setT = b.setT := by
  simp only [Bay.raiseAt]; repeat' split
  all_goals simp [Bay.sendEvBit, Bay.onlyIf_keeps Bay.setT]
@[simp] theorem Bay.raise_setT : (b.raise src detail value).setT = b.setT := Bay.raiseAt_setT _ _ _ _ _
@[simp] theorem Bay.cfgErr_setT (a : Nat) (r : Int) : (b.cfgErr a r).setT = b.setT := Bay.raiseAt_setT _ _ _ _ _
@[simp] theorem Bay.refuse_setT (k : Key) (r : Int) : (b.refuse k r).setT = b.setT := Bay.raiseAt_setT _ _ _ _ _
@[simp] theorem Bay.raiseD_setT : (b.raiseD src detail).setT = b.setT := Bay.raiseAt_setT _ _ _ _ _
@[simp] theorem Bay.note_setT : (b.note src).setT = b.setT := Bay.raiseAt_setT _ _ _ _ _
@[simp] theorem Bay.raiseAt_edge : (b.raiseAt t src detail value).edge = b.edge := by
  simp only [Bay.raiseAt]; repeat' split
  all_goals simp [Bay.sendEvBit, Bay.onlyIf_keeps Bay.edge]
@[simp] theorem Bay.raise_edge : (b.raise src detail value).edge = b.edge := Bay.raiseAt_edge _ _ _ _ _
@[simp] theorem Bay.cfgErr_edge (a : Nat) (r : Int) : (b.cfgErr a r).edge = b.edge := Bay.raiseAt_edge _ _ _ _ _
@[simp] theorem Bay.refuse_edge (k : Key) (r : Int) : (b.refuse k r).edge = b.edge := Bay.raiseAt_edge _ _ _ _ _
@[simp] theorem Bay.raiseD_edge : (b.raiseD src detail).edge = b.edge := Bay.raiseAt_edge _ _ _ _ _
@[simp] theorem Bay.note_edge : (b.note src).edge = b.edge := Bay.raiseAt_edge _ _ _ _ _
@[simp] theorem Bay.raiseAt_stage : (b.raiseAt t src detail value).stage = b.stage := by
  simp only [Bay.raiseAt]; repeat' split
  all_goals simp [Bay.sendEvBit, Bay.onlyIf_keeps Bay.stage]
@[simp] theorem Bay.raise_stage : (b.raise src detail value).stage = b.stage := Bay.raiseAt_stage _ _ _ _ _
@[simp] theorem Bay.cfgErr_stage (a : Nat) (r : Int) : (b.cfgErr a r).stage = b.stage := Bay.raiseAt_stage _ _ _ _ _
@[simp] theorem Bay.refuse_stage (k : Key) (r : Int) : (b.refuse k r).stage = b.stage := Bay.raiseAt_stage _ _ _ _ _
@[simp] theorem Bay.raiseD_stage : (b.raiseD src detail).stage = b.stage := Bay.raiseAt_stage _ _ _ _ _
@[simp] theorem Bay.note_stage : (b.note src).stage = b.stage := Bay.raiseAt_stage _ _ _ _ _
@[simp] theorem Bay.raiseAt_driver : (b.raiseAt t src detail value).driver = b.driver := by
  simp only [Bay.raiseAt]; repeat' split
  all_goals simp [Bay.sendEvBit, Bay.onlyIf_keeps Bay.driver]
@[simp] theorem Bay.raise_driver : (b.raise src detail value).driver = b.driver := Bay.raiseAt_driver _ _ _ _ _
@[simp] theorem Bay.cfgErr_driver (a : Nat) (r : Int) : (b.cfgErr a r).driver = b.driver := Bay.raiseAt_driver _ _ _ _ _
@[simp] theorem Bay.refuse_driver (k : Key) (r : Int) : (b.refuse k r).driver = b.driver := Bay.raiseAt_driver _ _ _ _ _
@[simp] theorem Bay.raiseD_driver : (b.raiseD src detail).driver = b.driver := Bay.raiseAt_driver _ _ _ _ _
@[simp] theorem Bay.note_driver : (b.note src).driver = b.driver := Bay.raiseAt_driver _ _ _ _ _
@[simp] theorem Bay.raiseAt_fram : (b.raiseAt t src detail value).fram = b.fram := by
  simp only [Bay.raiseAt]; repeat' split
  all_goals simp [Bay.sendEvBit, Bay.onlyIf_keeps Bay.fram]
@[simp] theorem Bay.raise_fram : (b.raise src detail value).fram = b.fram := Bay.raiseAt_fram _ _ _ _ _
@[simp] theorem Bay.cfgErr_fram (a : Nat) (r : Int) : (b.cfgErr a r).fram = b.fram := Bay.raiseAt_fram _ _ _ _ _
@[simp] theorem Bay.refuse_fram (k : Key) (r : Int) : (b.refuse k r).fram = b.fram := Bay.raiseAt_fram _ _ _ _ _
@[simp] theorem Bay.raiseD_fram : (b.raiseD src detail).fram = b.fram := Bay.raiseAt_fram _ _ _ _ _
@[simp] theorem Bay.note_fram : (b.note src).fram = b.fram := Bay.raiseAt_fram _ _ _ _ _
@[simp] theorem Bay.raiseAt_border : (b.raiseAt t src detail value).border = b.border := by
  simp only [Bay.raiseAt]; repeat' split
  all_goals simp [Bay.sendEvBit, Bay.onlyIf_keeps Bay.border]
@[simp] theorem Bay.raise_border : (b.raise src detail value).border = b.border := Bay.raiseAt_border _ _ _ _ _
@[simp] theorem Bay.cfgErr_border (a : Nat) (r : Int) : (b.cfgErr a r).border = b.border := Bay.raiseAt_border _ _ _ _ _
@[simp] theorem Bay.refuse_border (k : Key) (r : Int) : (b.refuse k r).border = b.border := Bay.raiseAt_border _ _ _ _ _
@[simp] theorem Bay.raiseD_border : (b.raiseD src detail).border = b.border := Bay.raiseAt_border _ _ _ _ _
@[simp] theorem Bay.note_border : (b.note src).border = b.border := Bay.raiseAt_border _ _ _ _ _
@[simp] theorem Bay.raiseAt_chan : (b.raiseAt t src detail value).chan = b.chan := by
  simp only [Bay.raiseAt]; repeat' split
  all_goals simp [Bay.sendEvBit, Bay.onlyIf_keeps Bay.chan]
@[simp] theorem Bay.raise_chan : (b.raise src detail value).chan = b.chan := Bay.raiseAt_chan _ _ _ _ _
@[simp] theorem Bay.cfgErr_chan (a : Nat) (r : Int) : (b.cfgErr a r).chan = b.chan := Bay.raiseAt_chan _ _ _ _ _
@[simp] theorem Bay.refuse_chan (k : Key) (r : Int) : (b.refuse k r).chan = b.chan := Bay.raiseAt_chan _ _ _ _ _
@[simp] theorem Bay.raiseD_chan : (b.raiseD src detail).chan = b.chan := Bay.raiseAt_chan _ _ _ _ _
@[simp] theorem Bay.note_chan : (b.note src).chan = b.chan := Bay.raiseAt_chan _ _ _ _ _
@[simp] theorem Bay.raiseAt_means : (b.raiseAt t src detail value).means = b.means := by
  simp only [Bay.raiseAt]; repeat' split
  all_goals simp [Bay.sendEvBit, Bay.onlyIf_keeps Bay.means]
@[simp] theorem Bay.raise_means : (b.raise src detail value).means = b.means := Bay.raiseAt_means _ _ _ _ _
@[simp] theorem Bay.cfgErr_means (a : Nat) (r : Int) : (b.cfgErr a r).means = b.means := Bay.raiseAt_means _ _ _ _ _
@[simp] theorem Bay.refuse_means (k : Key) (r : Int) : (b.refuse k r).means = b.means := Bay.raiseAt_means _ _ _ _ _
@[simp] theorem Bay.raiseD_means : (b.raiseD src detail).means = b.means := Bay.raiseAt_means _ _ _ _ _
@[simp] theorem Bay.note_means : (b.note src).means = b.means := Bay.raiseAt_means _ _ _ _ _
@[simp] theorem Bay.raiseAt_ring : (b.raiseAt t src detail value).ring = b.ring := by
  simp only [Bay.raiseAt]; repeat' split
  all_goals simp [Bay.sendEvBit, Bay.onlyIf_keeps Bay.ring]
@[simp] theorem Bay.raise_ring : (b.raise src detail value).ring = b.ring := Bay.raiseAt_ring _ _ _ _ _
@[simp] theorem Bay.cfgErr_ring (a : Nat) (r : Int) : (b.cfgErr a r).ring = b.ring := Bay.raiseAt_ring _ _ _ _ _
@[simp] theorem Bay.refuse_ring (k : Key) (r : Int) : (b.refuse k r).ring = b.ring := Bay.raiseAt_ring _ _ _ _ _
@[simp] theorem Bay.raiseD_ring : (b.raiseD src detail).ring = b.ring := Bay.raiseAt_ring _ _ _ _ _
@[simp] theorem Bay.note_ring : (b.note src).ring = b.ring := Bay.raiseAt_ring _ _ _ _ _
@[simp] theorem Bay.raiseAt_cellT : (b.raiseAt t src detail value).cellT = b.cellT := by
  simp only [Bay.raiseAt]; repeat' split
  all_goals simp [Bay.sendEvBit, Bay.onlyIf_keeps Bay.cellT]
@[simp] theorem Bay.raise_cellT : (b.raise src detail value).cellT = b.cellT := Bay.raiseAt_cellT _ _ _ _ _
@[simp] theorem Bay.cfgErr_cellT (a : Nat) (r : Int) : (b.cfgErr a r).cellT = b.cellT := Bay.raiseAt_cellT _ _ _ _ _
@[simp] theorem Bay.refuse_cellT (k : Key) (r : Int) : (b.refuse k r).cellT = b.cellT := Bay.raiseAt_cellT _ _ _ _ _
@[simp] theorem Bay.raiseD_cellT : (b.raiseD src detail).cellT = b.cellT := Bay.raiseAt_cellT _ _ _ _ _
@[simp] theorem Bay.note_cellT : (b.note src).cellT = b.cellT := Bay.raiseAt_cellT _ _ _ _ _
@[simp] theorem Bay.raiseAt_slotv : (b.raiseAt t src detail value).slotv = b.slotv := by
  simp only [Bay.raiseAt]; repeat' split
  all_goals simp [Bay.sendEvBit, Bay.onlyIf_keeps Bay.slotv]
@[simp] theorem Bay.raise_slotv : (b.raise src detail value).slotv = b.slotv := Bay.raiseAt_slotv _ _ _ _ _
@[simp] theorem Bay.cfgErr_slotv (a : Nat) (r : Int) : (b.cfgErr a r).slotv = b.slotv := Bay.raiseAt_slotv _ _ _ _ _
@[simp] theorem Bay.refuse_slotv (k : Key) (r : Int) : (b.refuse k r).slotv = b.slotv := Bay.raiseAt_slotv _ _ _ _ _
@[simp] theorem Bay.raiseD_slotv : (b.raiseD src detail).slotv = b.slotv := Bay.raiseAt_slotv _ _ _ _ _
@[simp] theorem Bay.note_slotv : (b.note src).slotv = b.slotv := Bay.raiseAt_slotv _ _ _ _ _
@[simp] theorem Bay.raiseAt_measCh : (b.raiseAt t src detail value).measCh = b.measCh := by
  simp only [Bay.raiseAt]; repeat' split
  all_goals simp [Bay.sendEvBit, Bay.onlyIf_keeps Bay.measCh]
@[simp] theorem Bay.raise_measCh : (b.raise src detail value).measCh = b.measCh := Bay.raiseAt_measCh _ _ _ _ _
@[simp] theorem Bay.cfgErr_measCh (a : Nat) (r : Int) : (b.cfgErr a r).measCh = b.measCh := Bay.raiseAt_measCh _ _ _ _ _
@[simp] theorem Bay.refuse_measCh (k : Key) (r : Int) : (b.refuse k r).measCh = b.measCh := Bay.raiseAt_measCh _ _ _ _ _
@[simp] theorem Bay.raiseD_measCh : (b.raiseD src detail).measCh = b.measCh := Bay.raiseAt_measCh _ _ _ _ _
@[simp] theorem Bay.note_measCh : (b.note src).measCh = b.measCh := Bay.raiseAt_measCh _ _ _ _ _
@[simp] theorem Bay.raiseAt_measSt : (b.raiseAt t src detail value).measSt = b.measSt := by
  simp only [Bay.raiseAt]; repeat' split
  all_goals simp [Bay.sendEvBit, Bay.onlyIf_keeps Bay.measSt]
@[simp] theorem Bay.raise_measSt : (b.raise src detail value).measSt = b.measSt := Bay.raiseAt_measSt _ _ _ _ _
@[simp] theorem Bay.cfgErr_measSt (a : Nat) (r : Int) : (b.cfgErr a r).measSt = b.measSt := Bay.raiseAt_measSt _ _ _ _ _
@[simp] theorem Bay.refuse_measSt (k : Key) (r : Int) : (b.refuse k r).measSt = b.measSt := Bay.raiseAt_measSt _ _ _ _ _
@[simp] theorem Bay.raiseD_measSt : (b.raiseD src detail).measSt = b.measSt := Bay.raiseAt_measSt _ _ _ _ _
@[simp] theorem Bay.note_measSt : (b.note src).measSt = b.measSt := Bay.raiseAt_measSt _ _ _ _ _
@[simp] theorem Bay.raiseAt_eng : (b.raiseAt t src detail value).eng = b.eng := by
  simp only [Bay.raiseAt]; repeat' split
  all_goals simp [Bay.sendEvBit, Bay.onlyIf_keeps Bay.eng]
@[simp] theorem Bay.raise_eng : (b.raise src detail value).eng = b.eng := Bay.raiseAt_eng _ _ _ _ _
@[simp] theorem Bay.cfgErr_eng (a : Nat) (r : Int) : (b.cfgErr a r).eng = b.eng := Bay.raiseAt_eng _ _ _ _ _
@[simp] theorem Bay.refuse_eng (k : Key) (r : Int) : (b.refuse k r).eng = b.eng := Bay.raiseAt_eng _ _ _ _ _
@[simp] theorem Bay.raiseD_eng : (b.raiseD src detail).eng = b.eng := Bay.raiseAt_eng _ _ _ _ _
@[simp] theorem Bay.note_eng : (b.note src).eng = b.eng := Bay.raiseAt_eng _ _ _ _ _
@[simp] theorem Bay.raiseAt_images : (b.raiseAt t src detail value).images = b.images := by
  simp only [Bay.raiseAt]; repeat' split
  all_goals simp [Bay.sendEvBit, Bay.onlyIf_keeps Bay.images]
@[simp] theorem Bay.raise_images : (b.raise src detail value).images = b.images := Bay.raiseAt_images _ _ _ _ _
@[simp] theorem Bay.cfgErr_images (a : Nat) (r : Int) : (b.cfgErr a r).images = b.images := Bay.raiseAt_images _ _ _ _ _
@[simp] theorem Bay.refuse_images (k : Key) (r : Int) : (b.refuse k r).images = b.images := Bay.raiseAt_images _ _ _ _ _
@[simp] theorem Bay.raiseD_images : (b.raiseD src detail).images = b.images := Bay.raiseAt_images _ _ _ _ _
@[simp] theorem Bay.note_images : (b.note src).images = b.images := Bay.raiseAt_images _ _ _ _ _
@[simp] theorem Bay.raiseAt_verMax : (b.raiseAt t src detail value).verMax = b.verMax := by
  simp only [Bay.raiseAt]; repeat' split
  all_goals simp [Bay.sendEvBit, Bay.onlyIf_keeps Bay.verMax]
@[simp] theorem Bay.raise_verMax : (b.raise src detail value).verMax = b.verMax := Bay.raiseAt_verMax _ _ _ _ _
@[simp] theorem Bay.cfgErr_verMax (a : Nat) (r : Int) : (b.cfgErr a r).verMax = b.verMax := Bay.raiseAt_verMax _ _ _ _ _
@[simp] theorem Bay.refuse_verMax (k : Key) (r : Int) : (b.refuse k r).verMax = b.verMax := Bay.raiseAt_verMax _ _ _ _ _
@[simp] theorem Bay.raiseD_verMax : (b.raiseD src detail).verMax = b.verMax := Bay.raiseAt_verMax _ _ _ _ _
@[simp] theorem Bay.note_verMax : (b.note src).verMax = b.verMax := Bay.raiseAt_verMax _ _ _ _ _
@[simp] theorem Bay.raiseAt_revoked : (b.raiseAt t src detail value).revoked = b.revoked := by
  simp only [Bay.raiseAt]; repeat' split
  all_goals simp [Bay.sendEvBit, Bay.onlyIf_keeps Bay.revoked]
@[simp] theorem Bay.raise_revoked : (b.raise src detail value).revoked = b.revoked := Bay.raiseAt_revoked _ _ _ _ _
@[simp] theorem Bay.cfgErr_revoked (a : Nat) (r : Int) : (b.cfgErr a r).revoked = b.revoked := Bay.raiseAt_revoked _ _ _ _ _
@[simp] theorem Bay.refuse_revoked (k : Key) (r : Int) : (b.refuse k r).revoked = b.revoked := Bay.raiseAt_revoked _ _ _ _ _
@[simp] theorem Bay.raiseD_revoked : (b.raiseD src detail).revoked = b.revoked := Bay.raiseAt_revoked _ _ _ _ _
@[simp] theorem Bay.note_revoked : (b.note src).revoked = b.revoked := Bay.raiseAt_revoked _ _ _ _ _
@[simp] theorem Bay.raiseAt_groups : (b.raiseAt t src detail value).groups = b.groups := by
  simp only [Bay.raiseAt]; repeat' split
  all_goals simp [Bay.sendEvBit, Bay.onlyIf_keeps Bay.groups]
@[simp] theorem Bay.raise_groups : (b.raise src detail value).groups = b.groups := Bay.raiseAt_groups _ _ _ _ _
@[simp] theorem Bay.cfgErr_groups (a : Nat) (r : Int) : (b.cfgErr a r).groups = b.groups := Bay.raiseAt_groups _ _ _ _ _
@[simp] theorem Bay.refuse_groups (k : Key) (r : Int) : (b.refuse k r).groups = b.groups := Bay.raiseAt_groups _ _ _ _ _
@[simp] theorem Bay.raiseD_groups : (b.raiseD src detail).groups = b.groups := Bay.raiseAt_groups _ _ _ _ _
@[simp] theorem Bay.note_groups : (b.note src).groups = b.groups := Bay.raiseAt_groups _ _ _ _ _
@[simp] theorem Bay.raiseAt_sweep : (b.raiseAt t src detail value).sweep = b.sweep := by
  simp only [Bay.raiseAt]; repeat' split
  all_goals simp [Bay.sendEvBit, Bay.onlyIf_keeps Bay.sweep]
@[simp] theorem Bay.raise_sweep : (b.raise src detail value).sweep = b.sweep := Bay.raiseAt_sweep _ _ _ _ _
@[simp] theorem Bay.cfgErr_sweep (a : Nat) (r : Int) : (b.cfgErr a r).sweep = b.sweep := Bay.raiseAt_sweep _ _ _ _ _
@[simp] theorem Bay.refuse_sweep (k : Key) (r : Int) : (b.refuse k r).sweep = b.sweep := Bay.raiseAt_sweep _ _ _ _ _
@[simp] theorem Bay.raiseD_sweep : (b.raiseD src detail).sweep = b.sweep := Bay.raiseAt_sweep _ _ _ _ _
@[simp] theorem Bay.note_sweep : (b.note src).sweep = b.sweep := Bay.raiseAt_sweep _ _ _ _ _
@[simp] theorem Bay.raiseAt_loopCh : (b.raiseAt t src detail value).loopCh = b.loopCh := by
  simp only [Bay.raiseAt]; repeat' split
  all_goals simp [Bay.sendEvBit, Bay.onlyIf_keeps Bay.loopCh]
@[simp] theorem Bay.raise_loopCh : (b.raise src detail value).loopCh = b.loopCh := Bay.raiseAt_loopCh _ _ _ _ _
@[simp] theorem Bay.cfgErr_loopCh (a : Nat) (r : Int) : (b.cfgErr a r).loopCh = b.loopCh := Bay.raiseAt_loopCh _ _ _ _ _
@[simp] theorem Bay.refuse_loopCh (k : Key) (r : Int) : (b.refuse k r).loopCh = b.loopCh := Bay.raiseAt_loopCh _ _ _ _ _
@[simp] theorem Bay.raiseD_loopCh : (b.raiseD src detail).loopCh = b.loopCh := Bay.raiseAt_loopCh _ _ _ _ _
@[simp] theorem Bay.note_loopCh : (b.note src).loopCh = b.loopCh := Bay.raiseAt_loopCh _ _ _ _ _
@[simp] theorem Bay.raiseAt_loopAx : (b.raiseAt t src detail value).loopAx = b.loopAx := by
  simp only [Bay.raiseAt]; repeat' split
  all_goals simp [Bay.sendEvBit, Bay.onlyIf_keeps Bay.loopAx]
@[simp] theorem Bay.raise_loopAx : (b.raise src detail value).loopAx = b.loopAx := Bay.raiseAt_loopAx _ _ _ _ _
@[simp] theorem Bay.cfgErr_loopAx (a : Nat) (r : Int) : (b.cfgErr a r).loopAx = b.loopAx := Bay.raiseAt_loopAx _ _ _ _ _
@[simp] theorem Bay.refuse_loopAx (k : Key) (r : Int) : (b.refuse k r).loopAx = b.loopAx := Bay.raiseAt_loopAx _ _ _ _ _
@[simp] theorem Bay.raiseD_loopAx : (b.raiseD src detail).loopAx = b.loopAx := Bay.raiseAt_loopAx _ _ _ _ _
@[simp] theorem Bay.note_loopAx : (b.note src).loopAx = b.loopAx := Bay.raiseAt_loopAx _ _ _ _ _
@[simp] theorem Bay.raiseAt_grade : (b.raiseAt t src detail value).grade = b.grade := by
  simp only [Bay.raiseAt]; repeat' split
  all_goals simp [Bay.sendEvBit, Bay.onlyIf_keeps Bay.grade]
@[simp] theorem Bay.raise_grade : (b.raise src detail value).grade = b.grade := Bay.raiseAt_grade _ _ _ _ _
@[simp] theorem Bay.cfgErr_grade (a : Nat) (r : Int) : (b.cfgErr a r).grade = b.grade := Bay.raiseAt_grade _ _ _ _ _
@[simp] theorem Bay.refuse_grade (k : Key) (r : Int) : (b.refuse k r).grade = b.grade := Bay.raiseAt_grade _ _ _ _ _
@[simp] theorem Bay.raiseD_grade : (b.raiseD src detail).grade = b.grade := Bay.raiseAt_grade _ _ _ _ _
@[simp] theorem Bay.note_grade : (b.note src).grade = b.grade := Bay.raiseAt_grade _ _ _ _ _
@[simp] theorem Bay.raiseAt_modeSt : (b.raiseAt t src detail value).modeSt = b.modeSt := by
  simp only [Bay.raiseAt]; repeat' split
  all_goals simp [Bay.sendEvBit, Bay.onlyIf_keeps Bay.modeSt]
@[simp] theorem Bay.raise_modeSt : (b.raise src detail value).modeSt = b.modeSt := Bay.raiseAt_modeSt _ _ _ _ _
@[simp] theorem Bay.cfgErr_modeSt (a : Nat) (r : Int) : (b.cfgErr a r).modeSt = b.modeSt := Bay.raiseAt_modeSt _ _ _ _ _
@[simp] theorem Bay.refuse_modeSt (k : Key) (r : Int) : (b.refuse k r).modeSt = b.modeSt := Bay.raiseAt_modeSt _ _ _ _ _
@[simp] theorem Bay.raiseD_modeSt : (b.raiseD src detail).modeSt = b.modeSt := Bay.raiseAt_modeSt _ _ _ _ _
@[simp] theorem Bay.note_modeSt : (b.note src).modeSt = b.modeSt := Bay.raiseAt_modeSt _ _ _ _ _
@[simp] theorem Bay.raiseAt_plant : (b.raiseAt t src detail value).plant = b.plant := by
  simp only [Bay.raiseAt]; repeat' split
  all_goals simp [Bay.sendEvBit, Bay.onlyIf_keeps Bay.plant]
@[simp] theorem Bay.raise_plant : (b.raise src detail value).plant = b.plant := Bay.raiseAt_plant _ _ _ _ _
@[simp] theorem Bay.cfgErr_plant (a : Nat) (r : Int) : (b.cfgErr a r).plant = b.plant := Bay.raiseAt_plant _ _ _ _ _
@[simp] theorem Bay.refuse_plant (k : Key) (r : Int) : (b.refuse k r).plant = b.plant := Bay.raiseAt_plant _ _ _ _ _
@[simp] theorem Bay.raiseD_plant : (b.raiseD src detail).plant = b.plant := Bay.raiseAt_plant _ _ _ _ _
@[simp] theorem Bay.note_plant : (b.note src).plant = b.plant := Bay.raiseAt_plant _ _ _ _ _
@[simp] theorem Bay.raiseAt_wale : (b.raiseAt t src detail value).wale = b.wale := by
  simp only [Bay.raiseAt]; repeat' split
  all_goals simp [Bay.sendEvBit, Bay.onlyIf_keeps Bay.wale]
@[simp] theorem Bay.raise_wale : (b.raise src detail value).wale = b.wale := Bay.raiseAt_wale _ _ _ _ _
@[simp] theorem Bay.cfgErr_wale (a : Nat) (r : Int) : (b.cfgErr a r).wale = b.wale := Bay.raiseAt_wale _ _ _ _ _
@[simp] theorem Bay.refuse_wale (k : Key) (r : Int) : (b.refuse k r).wale = b.wale := Bay.raiseAt_wale _ _ _ _ _
@[simp] theorem Bay.raiseD_wale : (b.raiseD src detail).wale = b.wale := Bay.raiseAt_wale _ _ _ _ _
@[simp] theorem Bay.note_wale : (b.note src).wale = b.wale := Bay.raiseAt_wale _ _ _ _ _
@[simp] theorem Bay.raiseAt_axis : (b.raiseAt t src detail value).axis = b.axis := by
  simp only [Bay.raiseAt]; repeat' split
  all_goals simp [Bay.sendEvBit, Bay.onlyIf_keeps Bay.axis]
@[simp] theorem Bay.raise_axis : (b.raise src detail value).axis = b.axis := Bay.raiseAt_axis _ _ _ _ _
@[simp] theorem Bay.cfgErr_axis (a : Nat) (r : Int) : (b.cfgErr a r).axis = b.axis := Bay.raiseAt_axis _ _ _ _ _
@[simp] theorem Bay.refuse_axis (k : Key) (r : Int) : (b.refuse k r).axis = b.axis := Bay.raiseAt_axis _ _ _ _ _
@[simp] theorem Bay.raiseD_axis : (b.raiseD src detail).axis = b.axis := Bay.raiseAt_axis _ _ _ _ _
@[simp] theorem Bay.note_axis : (b.note src).axis = b.axis := Bay.raiseAt_axis _ _ _ _ _
@[simp] theorem Bay.raiseAt_axRec : (b.raiseAt t src detail value).axRec = b.axRec := by
  simp only [Bay.raiseAt]; repeat' split
  all_goals simp [Bay.sendEvBit, Bay.onlyIf_keeps Bay.axRec]
@[simp] theorem Bay.raise_axRec : (b.raise src detail value).axRec = b.axRec := Bay.raiseAt_axRec _ _ _ _ _
@[simp] theorem Bay.cfgErr_axRec (a : Nat) (r : Int) : (b.cfgErr a r).axRec = b.axRec := Bay.raiseAt_axRec _ _ _ _ _
@[simp] theorem Bay.refuse_axRec (k : Key) (r : Int) : (b.refuse k r).axRec = b.axRec := Bay.raiseAt_axRec _ _ _ _ _
@[simp] theorem Bay.raiseD_axRec : (b.raiseD src detail).axRec = b.axRec := Bay.raiseAt_axRec _ _ _ _ _
@[simp] theorem Bay.note_axRec : (b.note src).axRec = b.axRec := Bay.raiseAt_axRec _ _ _ _ _
@[simp] theorem Bay.raiseAt_enc : (b.raiseAt t src detail value).enc = b.enc := by
  simp only [Bay.raiseAt]; repeat' split
  all_goals simp [Bay.sendEvBit, Bay.onlyIf_keeps Bay.enc]
@[simp] theorem Bay.raise_enc : (b.raise src detail value).enc = b.enc := Bay.raiseAt_enc _ _ _ _ _
@[simp] theorem Bay.cfgErr_enc (a : Nat) (r : Int) : (b.cfgErr a r).enc = b.enc := Bay.raiseAt_enc _ _ _ _ _
@[simp] theorem Bay.refuse_enc (k : Key) (r : Int) : (b.refuse k r).enc = b.enc := Bay.raiseAt_enc _ _ _ _ _
@[simp] theorem Bay.raiseD_enc : (b.raiseD src detail).enc = b.enc := Bay.raiseAt_enc _ _ _ _ _
@[simp] theorem Bay.note_enc : (b.note src).enc = b.enc := Bay.raiseAt_enc _ _ _ _ _
@[simp] theorem Bay.raiseAt_thermCh : (b.raiseAt t src detail value).thermCh = b.thermCh := by
  simp only [Bay.raiseAt]; repeat' split
  all_goals simp [Bay.sendEvBit, Bay.onlyIf_keeps Bay.thermCh]
@[simp] theorem Bay.raise_thermCh : (b.raise src detail value).thermCh = b.thermCh := Bay.raiseAt_thermCh _ _ _ _ _
@[simp] theorem Bay.cfgErr_thermCh (a : Nat) (r : Int) : (b.cfgErr a r).thermCh = b.thermCh := Bay.raiseAt_thermCh _ _ _ _ _
@[simp] theorem Bay.refuse_thermCh (k : Key) (r : Int) : (b.refuse k r).thermCh = b.thermCh := Bay.raiseAt_thermCh _ _ _ _ _
@[simp] theorem Bay.raiseD_thermCh : (b.raiseD src detail).thermCh = b.thermCh := Bay.raiseAt_thermCh _ _ _ _ _
@[simp] theorem Bay.note_thermCh : (b.note src).thermCh = b.thermCh := Bay.raiseAt_thermCh _ _ _ _ _
@[simp] theorem Bay.raiseAt_therm : (b.raiseAt t src detail value).therm = b.therm := by
  simp only [Bay.raiseAt]; repeat' split
  all_goals simp [Bay.sendEvBit, Bay.onlyIf_keeps Bay.therm]
@[simp] theorem Bay.raise_therm : (b.raise src detail value).therm = b.therm := Bay.raiseAt_therm _ _ _ _ _
@[simp] theorem Bay.cfgErr_therm (a : Nat) (r : Int) : (b.cfgErr a r).therm = b.therm := Bay.raiseAt_therm _ _ _ _ _
@[simp] theorem Bay.refuse_therm (k : Key) (r : Int) : (b.refuse k r).therm = b.therm := Bay.raiseAt_therm _ _ _ _ _
@[simp] theorem Bay.raiseD_therm : (b.raiseD src detail).therm = b.therm := Bay.raiseAt_therm _ _ _ _ _
@[simp] theorem Bay.note_therm : (b.note src).therm = b.therm := Bay.raiseAt_therm _ _ _ _ _
@[simp] theorem Bay.raiseAt_safe : (b.raiseAt t src detail value).safe = b.safe := by
  simp only [Bay.raiseAt]; repeat' split
  all_goals simp [Bay.sendEvBit, Bay.onlyIf_keeps Bay.safe]
@[simp] theorem Bay.raise_safe : (b.raise src detail value).safe = b.safe := Bay.raiseAt_safe _ _ _ _ _
@[simp] theorem Bay.cfgErr_safe (a : Nat) (r : Int) : (b.cfgErr a r).safe = b.safe := Bay.raiseAt_safe _ _ _ _ _
@[simp] theorem Bay.refuse_safe (k : Key) (r : Int) : (b.refuse k r).safe = b.safe := Bay.raiseAt_safe _ _ _ _ _
@[simp] theorem Bay.raiseD_safe : (b.raiseD src detail).safe = b.safe := Bay.raiseAt_safe _ _ _ _ _
@[simp] theorem Bay.note_safe : (b.note src).safe = b.safe := Bay.raiseAt_safe _ _ _ _ _
@[simp] theorem Bay.raiseAt_red : (b.raiseAt t src detail value).red = b.red := by
  simp only [Bay.raiseAt]; repeat' split
  all_goals simp [Bay.sendEvBit, Bay.onlyIf_keeps Bay.red]
@[simp] theorem Bay.raise_red : (b.raise src detail value).red = b.red := Bay.raiseAt_red _ _ _ _ _
@[simp] theorem Bay.cfgErr_red (a : Nat) (r : Int) : (b.cfgErr a r).red = b.red := Bay.raiseAt_red _ _ _ _ _
@[simp] theorem Bay.refuse_red (k : Key) (r : Int) : (b.refuse k r).red = b.red := Bay.raiseAt_red _ _ _ _ _
@[simp] theorem Bay.raiseD_red : (b.raiseD src detail).red = b.red := Bay.raiseAt_red _ _ _ _ _
@[simp] theorem Bay.note_red : (b.note src).red = b.red := Bay.raiseAt_red _ _ _ _ _
@[simp] theorem Bay.raiseAt_memHid : (b.raiseAt t src detail value).memHid = b.memHid := by
  simp only [Bay.raiseAt]; repeat' split
  all_goals simp [Bay.sendEvBit, Bay.onlyIf_keeps Bay.memHid]
@[simp] theorem Bay.raise_memHid : (b.raise src detail value).memHid = b.memHid := Bay.raiseAt_memHid _ _ _ _ _
@[simp] theorem Bay.cfgErr_memHid (a : Nat) (r : Int) : (b.cfgErr a r).memHid = b.memHid := Bay.raiseAt_memHid _ _ _ _ _
@[simp] theorem Bay.refuse_memHid (k : Key) (r : Int) : (b.refuse k r).memHid = b.memHid := Bay.raiseAt_memHid _ _ _ _ _
@[simp] theorem Bay.raiseD_memHid : (b.raiseD src detail).memHid = b.memHid := Bay.raiseAt_memHid _ _ _ _ _
@[simp] theorem Bay.note_memHid : (b.note src).memHid = b.memHid := Bay.raiseAt_memHid _ _ _ _ _
@[simp] theorem Bay.raiseAt_trust : (b.raiseAt t src detail value).trust = b.trust := by
  simp only [Bay.raiseAt]; repeat' split
  all_goals simp [Bay.sendEvBit, Bay.onlyIf_keeps Bay.trust]
@[simp] theorem Bay.raise_trust : (b.raise src detail value).trust = b.trust := Bay.raiseAt_trust _ _ _ _ _
@[simp] theorem Bay.cfgErr_trust (a : Nat) (r : Int) : (b.cfgErr a r).trust = b.trust := Bay.raiseAt_trust _ _ _ _ _
@[simp] theorem Bay.refuse_trust (k : Key) (r : Int) : (b.refuse k r).trust = b.trust := Bay.raiseAt_trust _ _ _ _ _
@[simp] theorem Bay.raiseD_trust : (b.raiseD src detail).trust = b.trust := Bay.raiseAt_trust _ _ _ _ _
@[simp] theorem Bay.note_trust : (b.note src).trust = b.trust := Bay.raiseAt_trust _ _ _ _ _
@[simp] theorem Bay.raiseAt_weave : (b.raiseAt t src detail value).weave = b.weave := by
  simp only [Bay.raiseAt]; repeat' split
  all_goals simp [Bay.sendEvBit, Bay.onlyIf_keeps Bay.weave]
@[simp] theorem Bay.raise_weave : (b.raise src detail value).weave = b.weave := Bay.raiseAt_weave _ _ _ _ _
@[simp] theorem Bay.cfgErr_weave (a : Nat) (r : Int) : (b.cfgErr a r).weave = b.weave := Bay.raiseAt_weave _ _ _ _ _
@[simp] theorem Bay.refuse_weave (k : Key) (r : Int) : (b.refuse k r).weave = b.weave := Bay.raiseAt_weave _ _ _ _ _
@[simp] theorem Bay.raiseD_weave : (b.raiseD src detail).weave = b.weave := Bay.raiseAt_weave _ _ _ _ _
@[simp] theorem Bay.note_weave : (b.note src).weave = b.weave := Bay.raiseAt_weave _ _ _ _ _
@[simp] theorem Bay.raiseAt_can : (b.raiseAt t src detail value).can = b.can := by
  simp only [Bay.raiseAt]; repeat' split
  all_goals simp [Bay.sendEvBit, Bay.onlyIf_keeps Bay.can]
@[simp] theorem Bay.raise_can : (b.raise src detail value).can = b.can := Bay.raiseAt_can _ _ _ _ _
@[simp] theorem Bay.cfgErr_can (a : Nat) (r : Int) : (b.cfgErr a r).can = b.can := Bay.raiseAt_can _ _ _ _ _
@[simp] theorem Bay.refuse_can (k : Key) (r : Int) : (b.refuse k r).can = b.can := Bay.raiseAt_can _ _ _ _ _
@[simp] theorem Bay.raiseD_can : (b.raiseD src detail).can = b.can := Bay.raiseAt_can _ _ _ _ _
@[simp] theorem Bay.note_can : (b.note src).can = b.can := Bay.raiseAt_can _ _ _ _ _
@[simp] theorem Bay.raiseAt_latch : (b.raiseAt t src detail value).latch = b.latch := by
  simp only [Bay.raiseAt]; repeat' split
  all_goals simp [Bay.sendEvBit, Bay.onlyIf_keeps Bay.latch]
@[simp] theorem Bay.raise_latch : (b.raise src detail value).latch = b.latch := Bay.raiseAt_latch _ _ _ _ _
@[simp] theorem Bay.cfgErr_latch (a : Nat) (r : Int) : (b.cfgErr a r).latch = b.latch := Bay.raiseAt_latch _ _ _ _ _
@[simp] theorem Bay.refuse_latch (k : Key) (r : Int) : (b.refuse k r).latch = b.latch := Bay.raiseAt_latch _ _ _ _ _
@[simp] theorem Bay.raiseD_latch : (b.raiseD src detail).latch = b.latch := Bay.raiseAt_latch _ _ _ _ _
@[simp] theorem Bay.note_latch : (b.note src).latch = b.latch := Bay.raiseAt_latch _ _ _ _ _
@[simp] theorem Bay.raiseAt_shortReq : (b.raiseAt t src detail value).shortReq = b.shortReq := by
  simp only [Bay.raiseAt]; repeat' split
  all_goals simp [Bay.sendEvBit, Bay.onlyIf_keeps Bay.shortReq]
@[simp] theorem Bay.raise_shortReq : (b.raise src detail value).shortReq = b.shortReq := Bay.raiseAt_shortReq _ _ _ _ _
@[simp] theorem Bay.cfgErr_shortReq (a : Nat) (r : Int) : (b.cfgErr a r).shortReq = b.shortReq := Bay.raiseAt_shortReq _ _ _ _ _
@[simp] theorem Bay.refuse_shortReq (k : Key) (r : Int) : (b.refuse k r).shortReq = b.shortReq := Bay.raiseAt_shortReq _ _ _ _ _
@[simp] theorem Bay.raiseD_shortReq : (b.raiseD src detail).shortReq = b.shortReq := Bay.raiseAt_shortReq _ _ _ _ _
@[simp] theorem Bay.note_shortReq : (b.note src).shortReq = b.shortReq := Bay.raiseAt_shortReq _ _ _ _ _
@[simp] theorem Bay.raiseAt_out : (b.raiseAt t src detail value).out = b.out := by
  simp only [Bay.raiseAt]; repeat' split
  all_goals simp [Bay.sendEvBit, Bay.onlyIf_keeps Bay.out]
@[simp] theorem Bay.raise_out : (b.raise src detail value).out = b.out := Bay.raiseAt_out _ _ _ _ _
@[simp] theorem Bay.cfgErr_out (a : Nat) (r : Int) : (b.cfgErr a r).out = b.out := Bay.raiseAt_out _ _ _ _ _
@[simp] theorem Bay.refuse_out (k : Key) (r : Int) : (b.refuse k r).out = b.out := Bay.raiseAt_out _ _ _ _ _
@[simp] theorem Bay.raiseD_out : (b.raiseD src detail).out = b.out := Bay.raiseAt_out _ _ _ _ _
@[simp] theorem Bay.note_out : (b.note src).out = b.out := Bay.raiseAt_out _ _ _ _ _
@[simp] theorem Bay.raiseAt_fresh : (b.raiseAt t src detail value).fresh = b.fresh := by
  simp only [Bay.raiseAt]; repeat' split
  all_goals simp [Bay.sendEvBit, Bay.onlyIf_keeps Bay.fresh]
@[simp] theorem Bay.raise_fresh : (b.raise src detail value).fresh = b.fresh := Bay.raiseAt_fresh _ _ _ _ _
@[simp] theorem Bay.cfgErr_fresh (a : Nat) (r : Int) : (b.cfgErr a r).fresh = b.fresh := Bay.raiseAt_fresh _ _ _ _ _
@[simp] theorem Bay.refuse_fresh (k : Key) (r : Int) : (b.refuse k r).fresh = b.fresh := Bay.raiseAt_fresh _ _ _ _ _

/-! Registers: EVT.STAT.LOST alone can change. -/

@[simp] theorem Bay.sendEvBit_rd (e i : Nat) (k : Key) : (b.sendEvBit t e i).rd k = b.rd k := rfl

theorem Bay.loseEvent_rd {k : Key} (h : ¬ k = F.EVT_STAT_LOST) : b.loseEvent.rd k = b.rd k := by
  simp only [Bay.loseEvent]
  split
  · simp [Bay.rd_bumpSat, Ne.symm h]
  · show (b.bumpSat F.EVT_STAT_LOST 1 65535).rd k = _
    simp [Bay.rd_bumpSat, Ne.symm h]

theorem Bay.logEvent_rd (prio : Int) {k : Key} (h : ¬ k = F.EVT_STAT_LOST) : (b.logEvent t src prio detail value).rd k = b.rd k := by
  simp only [Bay.logEvent]
  split
  · simp [Bay.rd_bumpSat, Ne.symm h]
  · split
    · rfl
    · split
      · split
        · rw [Bay.loseEvent_rd _ h]; rfl
        · exact Bay.loseEvent_rd _ h
      · exact Bay.loseEvent_rd _ h

@[simp] theorem Bay.routeEngine_rd (k : Key) : (b.routeEngine t src).rd k = b.rd k := by
  simp only [Bay.routeEngine]; repeat' split
  all_goals first | rfl | (apply Bay.each_keeps (fun b => b.rd k); intros; rfl)

@[simp] theorem Bay.traceEvent_rd (k : Key) : (b.traceEvent src).rd k = b.rd k :=
  by apply Bay.each_keeps (fun b => b.rd k); intros; dsimp only; split <;> rfl

@[simp] theorem Bay.raiseAt_rd {k : Key} (h : ¬ k = F.EVT_STAT_LOST) : (b.raiseAt t src detail value).rd k = b.rd k := by
  simp only [Bay.raiseAt]; repeat' split
  all_goals simp [Bay.logEvent_rd _ _ _ _ _ _ h, Bay.onlyIf_keeps (fun b => b.rd k)]

@[simp] theorem Bay.raise_rd {k : Key} (h : ¬ k = F.EVT_STAT_LOST) : (b.raise src detail value).rd k = b.rd k := Bay.raiseAt_rd _ _ _ _ _ h
@[simp] theorem Bay.cfgErr_rd (a : Nat) (r : Int) {k : Key} (h : ¬ k = F.EVT_STAT_LOST) : (b.cfgErr a r).rd k = b.rd k := Bay.raiseAt_rd _ _ _ _ _ h
@[simp] theorem Bay.refuse_rd (k' : Key) (r : Int) {k : Key} (h : ¬ k = F.EVT_STAT_LOST) : (b.refuse k' r).rd k = b.rd k := Bay.raiseAt_rd _ _ _ _ _ h
@[simp] theorem Bay.raiseD_rd {k : Key} (h : ¬ k = F.EVT_STAT_LOST) : (b.raiseD src detail).rd k = b.rd k := Bay.raiseAt_rd _ _ _ _ _ h
@[simp] theorem Bay.note_rd {k : Key} (h : ¬ k = F.EVT_STAT_LOST) : (b.note src).rd k = b.rd k := Bay.raiseAt_rd _ _ _ _ _ h

/-- The mode in force does not depend on the log. -/
@[simp] theorem Bay.raiseAt_mode : (b.raiseAt t src detail value).mode = b.mode := Bay.raiseAt_rd _ _ _ _ _ (by decide)
@[simp] theorem Bay.raise_mode : (b.raise src detail value).mode = b.mode := Bay.raise_rd _ _ _ _ (by decide)
@[simp] theorem Bay.note_mode : (b.note src).mode = b.mode := Bay.note_rd _ _ (by decide)
@[simp] theorem Bay.raiseD_mode : (b.raiseD src detail).mode = b.mode := Bay.raiseD_rd _ _ _ (by decide)
@[simp] theorem Bay.refuse_mode (k : Key) (r : Int) : (b.refuse k r).mode = b.mode := Bay.refuse_rd _ _ _ (by decide)

/-- A write is taken only by a bay that is not OFF (R382). -/
theorem Bay.gate_powered {b : Bay} {k : Key} (h : b.gate k = none) : b.mode ≠ 0 := by
  intro h0
  unfold Bay.gate at h
  split at h
  · cases h
  · simp [h0] at h

/-- A write that meets no reason for refusal runs its command (R398, R399). -/
theorem Bay.gated_open {b : Bay} {k : Key} {f : Bay → Bay} (h : b.gate k = none) : b.gated k f = f b := by
  simp [Bay.gated, h, Bay.gate_powered h]

/-- A refused write raises the configuration error and does nothing else (R398). -/
theorem Bay.gated_shut {b : Bay} {k : Key} {f : Bay → Bay} {r : Int} (h0 : b.mode ≠ 0) (h : b.gate k = some r) : b.gated k f = b.refuse k r := by
  simp [Bay.gated, h, h0]

end

end Sys2Proof.Machine
end

