-- ==== Sys2Proof/Laws/Memory.lean ====
section
/-! SUPPORT. The memories of the control cartridges: a read after a write, and that every memory operation keeps the canonical form. -/

namespace Sys2Proof.Machine

/-! ## Cells -/

theorem Cells.wfFrom_mono {lo lo' : Nat} (h : lo' ≤ lo) {l : Cells} (hl : Cells.wfFrom lo l = true) : Cells.wfFrom lo' l = true := by
  cases l with
  | nil => rfl
  | cons e r =>
    obtain ⟨a, v⟩ := e
    simp only [Cells.wfFrom, Bool.and_eq_true, decide_eq_true_eq] at hl ⊢
    exact ⟨⟨by omega, hl.1.2⟩, hl.2⟩

theorem Cells.put_wfFrom {lo k : Nat} (hk : lo ≤ k) (x : Byte) {l : Cells} (hl : Cells.wfFrom lo l = true) :
    Cells.wfFrom lo (l.put k x) = true := by
  induction l generalizing lo with
  | nil => by_cases hx : x = 0#8 <;> simp [Cells.put, Cells.wfFrom, hx, hk]
  | cons e r ih =>
    obtain ⟨a, v⟩ := e
    simp only [Cells.wfFrom, Bool.and_eq_true, decide_eq_true_eq] at hl
    obtain ⟨⟨ha, hv⟩, hr⟩ := hl
    by_cases hak : a = k
    · subst hak
      by_cases hx : x = 0#8
      · simpa [Cells.put, hx] using Cells.wfFrom_mono (by omega) hr
      · simpa [Cells.put, Cells.wfFrom, hx] using ⟨hk, hr⟩
    · by_cases hlt : k < a
      · by_cases hx : x = 0#8
        · rw [show Cells.put ((a, v) :: r) k x = (a, v) :: r from by simp [Cells.put, hak, hlt, hx]]
          simp only [Cells.wfFrom, Bool.and_eq_true, decide_eq_true_eq]
          exact ⟨⟨ha, hv⟩, hr⟩
        · rw [show Cells.put ((a, v) :: r) k x = (k, x) :: (a, v) :: r from by simp [Cells.put, hak, hlt, hx]]
          simp only [Cells.wfFrom, Bool.and_eq_true, decide_eq_true_eq]
          exact ⟨⟨hk, by simpa using hx⟩, ⟨by omega, hv⟩, hr⟩
      · have h : a + 1 ≤ k := by omega
        rw [show Cells.put ((a, v) :: r) k x = (a, v) :: Cells.put r k x from by simp [Cells.put, hak, hlt]]
        simp only [Cells.wfFrom, Bool.and_eq_true, decide_eq_true_eq]
        exact ⟨⟨ha, hv⟩, ih h hr⟩

/-- A store keeps the canonical form. -/
theorem Cells.put_wf (k : Nat) (x : Byte) {l : Cells} (hl : l.wf = true) : (l.put k x).wf = true := Cells.put_wfFrom (Nat.zero_le k) x hl

theorem Cells.get_below {lo k : Nat} (h : k < lo) {l : Cells} (hl : Cells.wfFrom lo l = true) : l.get k = 0 := by
  cases l with
  | nil => rfl
  | cons e r =>
    obtain ⟨a, v⟩ := e
    simp only [Cells.wfFrom, Bool.and_eq_true, decide_eq_true_eq] at hl
    have h1 : ¬ a = k := by omega
    have h2 : k < a := by omega
    simp [Cells.get, h1, h2]

theorem Cells.get_put_from {lo : Nat} (k k' : Nat) (x : Byte) {l : Cells} (hl : Cells.wfFrom lo l = true) :
    (l.put k x).get k' = if k = k' then x else l.get k' := by
  induction l generalizing lo with
  | nil =>
    by_cases hx : x = 0#8 <;> by_cases h : k = k' <;> simp [Cells.put, Cells.get, hx, h]
  | cons e r ih =>
    obtain ⟨a, v⟩ := e
    simp only [Cells.wfFrom, Bool.and_eq_true, decide_eq_true_eq] at hl
    obtain ⟨⟨ha, -⟩, hr⟩ := hl
    by_cases hak : a = k
    · subst hak
      by_cases hx : x = 0#8
      · by_cases h : a = k'
        · subst h; simp [Cells.put, hx, Cells.get_below (Nat.lt_succ_self a) hr]
        · by_cases h' : k' < a
          · simp [Cells.put, hx, h, Cells.get, h', Cells.get_below (show k' < a + 1 by omega) hr]
          · simp [Cells.put, hx, h, Cells.get, h']
      · by_cases h : a = k' <;> simp [Cells.put, hx, h, Cells.get]
    · by_cases hlt : k < a
      · by_cases hx : x = 0#8
        · by_cases h : k = k'
          · subst h; simp [Cells.put, hak, hlt, hx, Cells.get]
          · simp [Cells.put, hak, hlt, hx, h]
        · by_cases h : k = k'
          · subst h; simp [Cells.put, hak, hlt, hx, Cells.get]
          · by_cases h' : k' < k
            · have h1 : ¬ a = k' := by omega
              have h2 : k' < a := by omega
              simp [Cells.put, hak, hlt, hx, h, h', Cells.get, h1, h2]
            · simp [Cells.put, hak, hlt, hx, h, h', Cells.get]
      · by_cases h : k = k'
        · subst h
          simp [Cells.put, hak, hlt, Cells.get, ih hr]
        · simp only [Cells.put, if_neg hak, if_neg hlt, Cells.get, ih hr, if_neg h]

/-- A byte read after a byte stored. -/
theorem Cells.get_put (k k' : Nat) (x : Byte) {l : Cells} (hl : l.wf = true) :
    (l.put k x).get k' = if k = k' then x else l.get k' := Cells.get_put_from k k' x hl

theorem Cells.filter_wfFrom (p : Host.Cell → Bool) {lo : Nat} {l : Cells} (hl : Cells.wfFrom lo l = true) :
    Cells.wfFrom lo (l.filter p) = true := by
  induction l generalizing lo with
  | nil => rfl
  | cons e r ih =>
    obtain ⟨a, v⟩ := e
    simp only [Cells.wfFrom, Bool.and_eq_true, decide_eq_true_eq] at hl
    by_cases h : p (a, v) = true
    · simpa [h, Cells.wfFrom] using ⟨⟨hl.1.1, by simpa using hl.1.2⟩, ih hl.2⟩
    · simpa [h] using Cells.wfFrom_mono (Nat.le_succ_of_le hl.1.1) (ih hl.2)

/-! ## Words in error -/

theorem Errs.wfFrom_mono {lo lo' : Nat} (h : lo' ≤ lo) {l : Errs} (hl : Errs.wfFrom lo l = true) : Errs.wfFrom lo' l = true := by
  cases l with
  | nil => rfl
  | cons e r =>
    obtain ⟨a, v⟩ := e
    simp only [Errs.wfFrom, Bool.and_eq_true, decide_eq_true_eq] at hl ⊢
    exact ⟨by omega, hl.2⟩

theorem Errs.put_wfFrom {lo k : Nat} (hk : lo ≤ k) (x : Option WordErr) {l : Errs} (hl : Errs.wfFrom lo l = true) :
    Errs.wfFrom lo (l.put k x) = true := by
  induction l generalizing lo with
  | nil => cases x <;> simp [Errs.put, Errs.wfFrom, hk]
  | cons e r ih =>
    obtain ⟨a, v⟩ := e
    simp only [Errs.wfFrom, Bool.and_eq_true, decide_eq_true_eq] at hl
    obtain ⟨ha, hr⟩ := hl
    by_cases hak : a = k
    · subst hak
      cases x
      · simpa [Errs.put] using Errs.wfFrom_mono (by omega) hr
      · simpa [Errs.put, Errs.wfFrom] using ⟨hk, hr⟩
    · by_cases hlt : k < a
      · cases x
        · rw [show Errs.put ((a, v) :: r) k none = (a, v) :: r from by simp [Errs.put, hak, hlt]]
          simp only [Errs.wfFrom, Bool.and_eq_true, decide_eq_true_eq]
          exact ⟨ha, hr⟩
        · have h1 : k + 1 ≤ a := by omega
          rename_i x
          rw [show Errs.put ((a, v) :: r) k (some x) = (k, x) :: (a, v) :: r from by simp [Errs.put, hak, hlt]]
          simp only [Errs.wfFrom, Bool.and_eq_true, decide_eq_true_eq]
          exact ⟨hk, h1, hr⟩
      · have h : a + 1 ≤ k := by omega
        simpa [Errs.put, hak, hlt, Errs.wfFrom] using ⟨ha, ih h hr⟩

/-- Marking or clearing a word keeps the marks in rising order. -/
theorem Errs.put_wf (k : Nat) (x : Option WordErr) {l : Errs} (hl : l.wf = true) : (l.put k x).wf = true := Errs.put_wfFrom (Nat.zero_le k) x hl

theorem Errs.filter_wfFrom (p : Nat × WordErr → Bool) {lo : Nat} {l : Errs} (hl : Errs.wfFrom lo l = true) :
    Errs.wfFrom lo (l.filter p) = true := by
  induction l generalizing lo with
  | nil => rfl
  | cons e r ih =>
    obtain ⟨a, v⟩ := e
    simp only [Errs.wfFrom, Bool.and_eq_true, decide_eq_true_eq] at hl
    by_cases h : p (a, v) = true
    · simpa [h, Errs.wfFrom] using ⟨hl.1, ih hl.2⟩
    · simpa [h] using Errs.wfFrom_mono (Nat.le_succ_of_le hl.1) (ih hl.2)

/-! ## One memory, one cartridge, both -/

theorem Ram.wf_iff (r : Ram) : r.wf = true ↔ r.cells.wf = true ∧ r.errs.wf = true := by simp [Ram.wf]

theorem CartMem.wf_iff (c : CartMem) : c.wf = true ↔ (c.dram.wf = true ∧ c.sram.wf = true) ∧ c.mram.wf = true := by simp [CartMem.wf]

theorem MemSys.wf_iff (m : MemSys) : m.wf = true ↔ m.ca.wf = true ∧ m.cb.wf = true := by simp [MemSys.wf]

theorem Ram.store_wf (l : List Byte) (r : Ram) (a : Nat) (h : r.wf = true) : (r.store a l).wf = true := by
  induction l generalizing r a with
  | nil => exact h
  | cons x l ih =>
    have h' := (Ram.wf_iff r).1 h
    exact ih _ _ ((Ram.wf_iff _).2 ⟨Cells.put_wf _ _ h'.1, h'.2⟩)

theorem Ram.mark_wf (n : Nat) (r : Ram) (w : Nat) (e : Option WordErr) (h : r.wf = true) : (r.mark w e n).wf = true := by
  induction n generalizing r w with
  | zero => exact h
  | succ n ih =>
    have h' := (Ram.wf_iff r).1 h
    exact ih _ _ ((Ram.wf_iff _).2 ⟨h'.1, Errs.put_wf _ _ h'.2⟩)

theorem MemSys.cart_wf {m : MemSys} (h : m.wf = true) (x : Nat) : (m.cart x).wf = true := by
  have h' := (MemSys.wf_iff m).1 h
  unfold MemSys.cart; split
  · exact h'.1
  · exact h'.2

theorem CartMem.ram_wf {c : CartMem} (h : c.wf = true) (k : Nat) : (c.ram k).wf = true := by
  have h' := (CartMem.wf_iff c).1 h
  unfold CartMem.ram; split
  · exact h'.1.1
  · split
    · exact h'.1.2
    · exact h'.2

theorem MemSys.ram_wf {m : MemSys} (h : m.wf = true) (x k : Nat) : (m.ram x k).wf = true := CartMem.ram_wf (MemSys.cart_wf h x) k

theorem MemSys.setCart_wf {m : MemSys} (h : m.wf = true) (x : Nat) {c : CartMem} (hc : c.wf = true) : (m.setCart x c).wf = true := by
  have h' := (MemSys.wf_iff m).1 h
  unfold MemSys.setCart; split
  · exact (MemSys.wf_iff _).2 ⟨hc, h'.2⟩
  · exact (MemSys.wf_iff _).2 ⟨h'.1, hc⟩

theorem CartMem.setRam_wf {c : CartMem} (h : c.wf = true) (k : Nat) {r : Ram} (hr : r.wf = true) : (c.setRam k r).wf = true := by
  have h' := (CartMem.wf_iff c).1 h
  unfold CartMem.setRam; split
  · exact (CartMem.wf_iff _).2 ⟨⟨hr, h'.1.2⟩, h'.2⟩
  · split
    · exact (CartMem.wf_iff _).2 ⟨⟨h'.1.1, hr⟩, h'.2⟩
    · exact (CartMem.wf_iff _).2 ⟨h'.1, hr⟩

theorem MemSys.setRam_wf {m : MemSys} (h : m.wf = true) (x k : Nat) {r : Ram} (hr : r.wf = true) : (m.setRam x k r).wf = true :=
  MemSys.setCart_wf h x (CartMem.setRam_wf (MemSys.cart_wf h x) k hr)

/-! ## Operations of the state -/

/-- From `s` to `t` the queue stands and the memories keep their canonical form. -/
def Tame (s t : State) : Prop := t.pending = s.pending ∧ (s.mem.wf = true → t.mem.wf = true)

theorem Tame.refl (s : State) : Tame s s := ⟨rfl, id⟩

theorem Tame.trans {s t u : State} (h : Tame s t) (h' : Tame t u) : Tame s u := ⟨h'.1.trans h.1, fun w => h'.2 (h.2 w)⟩

/-- What changes the bay alone is tame. -/
theorem Tame.bay (s : State) (b : Bay) : Tame s { s with bay := b } := ⟨rfl, id⟩

/-- A fold of tame steps is tame. -/
theorem Tame.foldl {α : Type} (f : State → α → State) (h : ∀ s a, Tame s (f s a)) (l : List α) (s : State) : Tame s (l.foldl f s) := by
  induction l generalizing s with
  | nil => exact Tame.refl s
  | cons a l ih => exact (h s a).trans (ih _)

/-- The same for a fold that carries a result beside the state. -/
theorem Tame.foldl_fst {α β : Type} (f : State × β → α → State × β) (h : ∀ st a, Tame st.1 (f st a).1) (l : List α) (st : State × β) :
    Tame st.1 (l.foldl f st).1 := by
  induction l generalizing st with
  | nil => exact Tame.refl st.1
  | cons a l ih => exact (h st a).trans (ih _)

theorem State.readWord_tame (s : State) (x k w master acc : Nat) : Tame s (s.readWord x k w master acc).1 := Tame.bay s _

/-- A read of a word leaves every byte and every mark. -/
theorem State.readWord_mem (s : State) (x k w master acc : Nat) : (s.readWord x k w master acc).1.mem = s.mem := rfl

theorem State.readWords_mem (n : Nat) (s : State) (x k master acc w : Nat) : (s.readWords x k master acc w n).1.mem = s.mem := by
  induction n generalizing s w with
  | zero => rfl
  | succ n ih =>
    simp only [State.readWords]
    split
    · rw [ih]; rfl
    · rfl

theorem State.readWords_tame (n : Nat) (s : State) (x k master acc w : Nat) : Tame s (s.readWords x k master acc w n).1 := by
  induction n generalizing s w with
  | zero => exact Tame.refl s
  | succ n ih =>
    simp only [State.readWords]
    split
    · exact (State.readWord_tame s x k w master acc).trans (ih _ _)
    · exact State.readWord_tame s x k w master acc

theorem State.lockstepRead_tame (s : State) (k w master acc : Nat) : Tame s (s.lockstepRead k w master acc).1 := by
  refine Tame.foldl_fst _ (fun st x => ?_) _ (s, true)
  exact State.readWord_tame st.1 x k w master acc

theorem State.poisonCount_tame (s : State) (x : Nat) : Tame s (s.poisonCount x) := Tame.bay s _

theorem State.setRam_tame (s : State) (x k : Nat) (f : Ram → Ram) (h : ∀ r, r.wf = true → (f r).wf = true) :
    Tame s { s with mem := s.mem.setRam x k (f (s.mem.ram x k)) } :=
  ⟨rfl, fun w => MemSys.setRam_wf w x k (h _ (MemSys.ram_wf w x k))⟩

theorem State.writeWords_tame (s : State) (x k a : Nat) (l : List Byte) : Tame s (s.writeWords x k a l) := by
  have h := State.setRam_tame s x k (fun r => (r.store a l).mark (a / wordBytes k) none (l.length / wordBytes k))
    (fun r w => Ram.mark_wf _ _ _ _ (Ram.store_wf l r a w))
  simp only [State.writeWords]
  split
  · exact h
  · exact h.trans (State.poisonCount_tame _ _)

theorem State.mergeWrite_tame (s : State) (x k a master acc : Nat) (l : List Byte) : Tame s (s.mergeWrite x k a master acc l).1 := by
  refine Tame.foldl_fst _ (fun st i => ?_) _ (s, true)
  dsimp only
  split
  · exact State.writeWords_tame _ _ _ _ _
  · split
    · refine (State.readWord_tame st.1 x k (a / wordBytes k + i) master acc).trans ?_
      exact State.setRam_tame _ x k (fun r => (r.store _ _).mark _ none 1) (fun r w => Ram.mark_wf _ _ _ _ (Ram.store_wf _ r _ w))
    · exact State.readWord_tame st.1 x k (a / wordBytes k + i) master acc

theorem State.upset_tame (s : State) (u : Upset) : Tame s (s.upset u) := by
  simp only [State.upset]
  split
  · exact Tame.refl s
  · exact State.setRam_tame s _ _ (fun r => r.mark _ _ 1) (fun r w => Ram.mark_wf _ _ _ _ w)

theorem State.copyFromPartner_tame (s : State) (x w : Nat) : Tame s (s.copyFromPartner x w) := State.writeWords_tame _ _ _ _ _

theorem State.clearMark_tame (s : State) (x k w : Nat) (e : Option WordErr) : Tame s (s.clearMark x k w e) :=
  State.setRam_tame s x k (fun r => r.mark w e 1) (fun _ h => Ram.mark_wf _ _ _ _ h)

theorem State.scrubWord_tame (s : State) (x k w : Nat) (repair : Bool) (e : WordErr) : Tame s (s.scrubWord x k w repair e) := by
  simp only [State.scrubWord]
  repeat' split
  · exact ((Tame.bay s _).trans (State.clearMark_tame _ x k w none)).trans (Tame.bay _ _)
  · exact Tame.bay s _
  · exact Tame.bay s _
  · exact ((Tame.bay s _).trans (State.copyFromPartner_tame _ x w)).trans (Tame.bay _ _)
  · exact (((Tame.bay s _).trans (State.clearMark_tame _ x k w _)).trans (Tame.bay _ _)).trans (State.poisonCount_tame _ x)

theorem State.scrubTo_tame (s : State) (x a : Nat) : Tame s (s.scrubTo x a) := by
  simp only [State.scrubTo]
  split
  · exact Tame.refl s
  · exact (Tame.foldl _ (fun s e => State.scrubWord_tame s _ _ _ _ _) _ s).trans (Tame.bay _ _)

theorem State.scrubEnd_tame (s : State) (x : Nat) (part : Bool) : Tame s (s.scrubEnd x part) := Tame.bay s _

theorem State.scrubEdge_tame (s : State) : Tame s s.scrubEdge := by
  apply Tame.foldl
  intro s x
  split
  · exact Tame.refl s
  · dsimp only
    split
    · exact (State.scrubTo_tame _ _ _).trans (State.scrubEnd_tame _ _ _)
    · exact State.scrubTo_tame _ _ _

theorem State.scrubGo_tame (s : State) (x : Nat) : Tame s (s.scrubGo x) := by
  simp only [State.scrubGo]; split <;> exact Tame.bay s _

theorem State.scrubStop_tame (s : State) (x : Nat) : Tame s (s.scrubStop x) := by
  simp only [State.scrubStop]
  split
  · exact Tame.refl s
  · exact (State.scrubTo_tame _ _ _).trans (State.scrubEnd_tame _ _ _)

theorem State.inject_tame (s : State) (x : Nat) : Tame s (s.inject x) := by
  simp only [State.inject]
  split
  · exact Tame.bay s _
  · split
    · exact Tame.bay s _
    · exact ((State.writeWords_tame _ _ _ _ _).trans (State.clearMark_tame _ _ _ _ _)).trans (State.poisonCount_tame _ _)

theorem CartMem.blank_wf {c : CartMem} (h : c.wf = true) : ({ c with dram := {}, sram := {} } : CartMem).wf = true :=
  (CartMem.wf_iff _).2 ⟨⟨rfl, rfl⟩, ((CartMem.wf_iff c).1 h).2⟩

theorem State.initDone_tame (s : State) (x record : Nat) : Tame s (s.initDone x record) := by
  simp only [State.initDone]
  have h : Tame s { s with mem := s.mem.setCart x { s.mem.cart x with dram := {}, sram := {} } } :=
    ⟨rfl, fun w => MemSys.setCart_wf w x (CartMem.blank_wf (MemSys.cart_wf w x))⟩
  exact (h.trans (Tame.foldl _ (fun s e => State.scrubWord_tame s _ _ _ _ _) _ _)).trans (Tame.bay _ _)

/-- The memories after reset stand in their canonical form. -/
theorem State.reset_mem : State.reset.mem.wf = true := rfl

end Sys2Proof.Machine
end

