-- ==== Sys2Proof/Laws/Frames.lean ====
section
/-! SUPPORT. Which registers each operation of the bay can change: one lemma per operation, every other register stands. -/

set_option linter.unusedSimpArgs false
set_option linter.unusedVariables false

namespace Sys2Proof.Machine

@[simp] theorem Bay.each_rd {f : Bay → Nat → Bay} {k : Key} (h : ∀ b n, (f b n).rd k = b.rd k) (b : Bay) (l : List Nat) :
    (b.each l f).rd k = b.rd k := Bay.each_keeps (fun b => b.rd k) f h b l
@[simp] theorem Bay.onlyIf_rd {f : Bay → Bay} {k : Key} (h : ∀ b, (f b).rd k = b.rd k) (b : Bay) (c : Bool) :
    (b.onlyIf c f).rd k = b.rd k := Bay.onlyIf_keeps (fun b => b.rd k) f h b c
@[simp] theorem Bay.foldl_rd {α : Type} {f : Bay → α → Bay} {k : Key} (h : ∀ b x, (f b x).rd k = b.rd k) (b : Bay) (l : List α) :
    (l.foldl f b).rd k = b.rd k := by
  induction l generalizing b with
  | nil => rfl
  | cons x l ih => simp [ih, h]
@[simp] theorem Bay.ite_rd (c : Prop) [Decidable c] (x y : Bay) (k : Key) : (if c then x else y).rd k = if c then x.rd k else y.rd k := by split <;> rfl
theorem Bay.ev_ne {k : Key} (h : ¬ k.loc = F.EVT_STAT_LOST.loc) : k ≠ F.EVT_STAT_LOST := fun e => h (e ▸ rfl)
@[simp] theorem Bay.raise_loc (b : Bay) (src : Nat) (d v : Int) {k : Key} (h : ¬ k.loc = F.EVT_STAT_LOST.loc) : (b.raise src d v).rd k = b.rd k := Bay.raise_rd _ _ _ _ (Bay.ev_ne h)
@[simp] theorem Bay.raiseAt_loc (b : Bay) (t src : Nat) (d v : Int) {k : Key} (h : ¬ k.loc = F.EVT_STAT_LOST.loc) : (b.raiseAt t src d v).rd k = b.rd k := Bay.raiseAt_rd _ _ _ _ _ (Bay.ev_ne h)
@[simp] theorem Bay.raiseD_loc (b : Bay) (src : Nat) (d : Int) {k : Key} (h : ¬ k.loc = F.EVT_STAT_LOST.loc) : (b.raiseD src d).rd k = b.rd k := Bay.raiseD_rd _ _ _ (Bay.ev_ne h)
@[simp] theorem Bay.note_loc (b : Bay) (src : Nat) {k : Key} (h : ¬ k.loc = F.EVT_STAT_LOST.loc) : (b.note src).rd k = b.rd k := Bay.note_rd _ _ (Bay.ev_ne h)
@[simp] theorem Bay.refuse_loc (b : Bay) (k' : Key) (r : Int) {k : Key} (h : ¬ k.loc = F.EVT_STAT_LOST.loc) : (b.refuse k' r).rd k = b.rd k := Bay.refuse_rd _ _ _ (Bay.ev_ne h)
@[simp] theorem Bay.cfgErr_loc (b : Bay) (a : Nat) (r : Int) {k : Key} (h : ¬ k.loc = F.EVT_STAT_LOST.loc) : (b.cfgErr a r).rd k = b.rd k := Bay.cfgErr_rd _ _ _ (Bay.ev_ne h)
@[simp] theorem Bay.gated_rd (b : Bay) (k' : Key) {f : Bay → Bay} {k : Key} (h : ¬ k.loc = F.EVT_STAT_LOST.loc) (hf : (f b).rd k = b.rd k) :
    (b.gated k' f).rd k = b.rd k := by
  unfold Bay.gated; split
  · rfl
  · split
    · exact Bay.refuse_loc _ _ _ h
    · exact hf
@[simp] theorem Bay.free_rd (b : Bay) (k : Key) : b.free.2.rd k = b.rd k := rfl
@[simp] theorem Bay.mk_rd (f_regs : Store) (f_now : Nat) (f_shadows : List Shadow) (f_hiLatch : Store) (f_setT : Store) (f_edge : EdgeView) (f_log : List EvEntry) (f_episode : Bool) (f_evBits : List EvBit) (f_stage : Tab Stage) (f_driver : Tab Driver) (f_fram : Tab Fram) (f_border : Tab Border) (f_chan : Tab Chan) (f_means : Tab Means) (f_ring : Tab Ring) (f_cellT : Tab (Int × Int)) (f_slotv : Tab SlotView) (f_measCh : Tab MeasCh) (f_measSt : MeasSt) (f_eng : Tab Eng) (f_images : List Image) (f_verMax : List (Int × Int)) (f_revoked : List Int) (f_groups : Tab Group) (f_sweep : Tab Sweep) (f_loopCh : Tab LoopCh) (f_loopAx : Tab LoopAx) (f_trace : Tab Trace) (f_grade : Tab (Option GradeVec)) (f_modeSt : ModeSt) (f_plant : Plant) (f_wale : Tab Wale) (f_axis : Tab Axis) (f_axRec : List AxRec) (f_enc : Tab Enc) (f_thermCh : Tab ThermCh) (f_therm : Therm) (f_safe : Safe) (f_red : Red) (f_memHid : MemHid) (f_trust : Trust) (f_weave : Weave) (f_can : Tab Can) (f_latch : Tab Latch) (f_shortReq : Bool) (f_out : List OutMsg) (f_fresh : Nat) (k : Key) : (Bay.mk f_regs f_now f_shadows f_hiLatch f_setT f_edge f_log f_episode f_evBits f_stage f_driver f_fram f_border f_chan f_means f_ring f_cellT f_slotv f_measCh f_measSt f_eng f_images f_verMax f_revoked f_groups f_sweep f_loopCh f_loopAx f_trace f_grade f_modeSt f_plant f_wale f_axis f_axRec f_enc f_thermCh f_therm f_safe f_red f_memHid f_trust f_weave f_can f_latch f_shortReq f_out f_fresh).rd k = f_regs.get (resetOf k) k := rfl
@[simp] theorem Bay.fold_rd (b : Bay) (k : Key) : b.regs.get (resetOf k) k = b.rd k := rfl

/-! The group of a key named by number. -/

@[simp] theorem roleKey_grp (x : Nat) : (roleKey x).grp = .red := by
  unfold roleKey; repeat' split
  all_goals rfl
@[simp] theorem fwRun_grp (x : Nat) : (fwRun x).grp = .tru := by
  unfold fwRun; repeat' split
  all_goals rfl
@[simp] theorem fwPref_grp (x : Nat) : (fwPref x).grp = .tru := by
  unfold fwPref; repeat' split
  all_goals rfl
@[simp] theorem fwSvn_grp (x : Nat) : (fwSvn x).grp = .tru := by
  unfold fwSvn; repeat' split
  all_goals rfl
@[simp] theorem fwSvnMin_grp (x : Nat) : (fwSvnMin x).grp = .tru := by
  unfold fwSvnMin; repeat' split
  all_goals rfl
@[simp] theorem fwFallback_grp (x : Nat) : (fwFallback x).grp = .tru := by
  unfold fwFallback; repeat' split
  all_goals rfl
@[simp] theorem fwVer_grp (x : Nat) : (fwVer x).grp = .tru := by
  unfold fwVer; repeat' split
  all_goals rfl
@[simp] theorem fwOk_grp (x bank : Nat) : (fwOk x bank).grp = .tru := by
  unfold fwOk; repeat' split
  all_goals rfl
@[simp] theorem seOk_grp (x : Nat) : (seOk x).grp = .tru := by
  unfold seOk; repeat' split
  all_goals rfl
@[simp] theorem chOk_grp (x : Nat) : (chOk x).grp = .safe := by
  unfold chOk; repeat' split
  all_goals rfl
@[simp] theorem calIG_grp (c r : Nat) : (calIG c r).grp = .chn := by
  unfold calIG; repeat' split
  all_goals rfl
@[simp] theorem calIO_grp (c r : Nat) : (calIO c r).grp = .chn := by
  unfold calIO; repeat' split
  all_goals rfl
@[simp] theorem corIG_grp (c r : Nat) : (corIG c r).grp = .chn := by
  unfold corIG; repeat' split
  all_goals rfl
@[simp] theorem corIO_grp (c r : Nat) : (corIO c r).grp = .chn := by
  unfold corIO; repeat' split
  all_goals rfl
@[simp] theorem refCtl_grp (n : Nat) : (refCtl n).grp = .meas := by
  unfold refCtl; repeat' split
  all_goals rfl
@[simp] theorem refRdy_grp (n : Nat) : (refRdy n).grp = .meas := by
  unfold refRdy; repeat' split
  all_goals rfl
@[simp] theorem scalBusy_grp (n : Nat) : (scalBusy n).grp = .meas := by
  unfold scalBusy; repeat' split
  all_goals rfl
@[simp] theorem scalFail_grp (n : Nat) : (scalFail n).grp = .meas := by
  unfold scalFail; repeat' split
  all_goals rfl
@[simp] theorem cmdKey_grp (n : Nat) : (cmdKey n).grp = .bay := by
  unfold cmdKey; repeat' split
  all_goals rfl
@[simp] theorem objWord_grp (n w : Nat) : (objWord n w).grp = .cfdObj := by
  unfold objWord; repeat' split
  all_goals rfl
@[simp] theorem portKey_grp (p : Nat) : (portKey p).grp = .wve := by
  unfold portKey; repeat' split
  all_goals rfl
@[simp] theorem slotKey_grp (n : Nat) : (slotKey n).grp = .bay := by
  unfold slotKey; repeat' split
  all_goals rfl
@[simp] theorem laneEndKey_grp (n : Nat) : (laneEndKey n).grp = .loop := by
  unfold laneEndKey; repeat' split
  all_goals rfl
@[simp] theorem kKey_grp (c i : Nat) : (kKey c i).grp = .eng := by
  unfold kKey; repeat' split
  all_goals rfl
@[simp] theorem retKey_grp (c i : Nat) : (retKey c i).grp = .eng := by
  unfold retKey; repeat' split
  all_goals rfl
@[simp] theorem aKey_grp (c i : Nat) : (aKey c i).grp = .eng := by
  unfold aKey; repeat' split
  all_goals rfl
@[simp] theorem scrKey_grp (c x : Nat) : (scrKey c x).grp = .engScr := by
  unfold scrKey; repeat' split
  all_goals rfl
@[simp] theorem trimKey_grp (c p : Nat) : (trimKey c p).grp = .chn := by
  unfold trimKey; repeat' split
  all_goals rfl
@[simp] theorem plateKey_grp (n : Nat) : (plateKey n).grp = .thm := by
  unfold plateKey; repeat' split
  all_goals rfl
@[simp] theorem tjmaxKey_grp (n : Nat) : (tjmaxKey n).grp = .thm := by
  unfold tjmaxKey; repeat' split
  all_goals rfl

@[simp] theorem roleKey_loc (x : Nat) {q : Key} (h : q.loc ∉ [(F.RED_STAT_ROLE_CA).loc, (F.RED_STAT_ROLE_CB).loc]) : ¬ q.loc = (roleKey x).loc := by
  simp at h
  unfold roleKey; repeat' split
  all_goals simp [h]
@[simp] theorem fwRun_loc (x : Nat) {q : Key} (h : q.loc ∉ [(F.TRU_FW_CA_RUN).loc, (F.TRU_FW_CB_RUN).loc]) : ¬ q.loc = (fwRun x).loc := by
  simp at h
  unfold fwRun; repeat' split
  all_goals simp [h]
@[simp] theorem fwPref_loc (x : Nat) {q : Key} (h : q.loc ∉ [(F.TRU_FW_CA_PREF).loc, (F.TRU_FW_CB_PREF).loc]) : ¬ q.loc = (fwPref x).loc := by
  simp at h
  unfold fwPref; repeat' split
  all_goals simp [h]
@[simp] theorem fwSvn_loc (x : Nat) {q : Key} (h : q.loc ∉ [(F.TRU_FW_CA_SVN).loc, (F.TRU_FW_CB_SVN).loc]) : ¬ q.loc = (fwSvn x).loc := by
  simp at h
  unfold fwSvn; repeat' split
  all_goals simp [h]
@[simp] theorem fwSvnMin_loc (x : Nat) {q : Key} (h : q.loc ∉ [(F.TRU_FW_CA_SVN_MIN).loc, (F.TRU_FW_CB_SVN_MIN).loc]) : ¬ q.loc = (fwSvnMin x).loc := by
  simp at h
  unfold fwSvnMin; repeat' split
  all_goals simp [h]
@[simp] theorem fwFallback_loc (x : Nat) {q : Key} (h : q.loc ∉ [(F.TRU_FW_CA_FALLBACK).loc, (F.TRU_FW_CB_FALLBACK).loc]) : ¬ q.loc = (fwFallback x).loc := by
  simp at h
  unfold fwFallback; repeat' split
  all_goals simp [h]
@[simp] theorem fwVer_loc (x : Nat) {q : Key} (h : q.loc ∉ [(F.TRU_FW_VER_CA).loc, (F.TRU_FW_VER_CB).loc]) : ¬ q.loc = (fwVer x).loc := by
  simp at h
  unfold fwVer; repeat' split
  all_goals simp [h]
@[simp] theorem fwOk_loc (x bank : Nat) {q : Key} (h : q.loc ∉ [(F.TRU_FW_CA_A_OK).loc, (F.TRU_FW_CA_B_OK).loc, (F.TRU_FW_CB_A_OK).loc, (F.TRU_FW_CB_B_OK).loc]) : ¬ q.loc = (fwOk x bank).loc := by
  simp at h
  unfold fwOk; repeat' split
  all_goals simp [h]
@[simp] theorem seOk_loc (x : Nat) {q : Key} (h : q.loc ∉ [(F.TRU_STAT_SE_CA_OK).loc, (F.TRU_STAT_SE_CB_OK).loc]) : ¬ q.loc = (seOk x).loc := by
  simp at h
  unfold seOk; repeat' split
  all_goals simp [h]
@[simp] theorem chOk_loc (x : Nat) {q : Key} (h : q.loc ∉ [(F.SAFE_STAT_CHA_OK).loc, (F.SAFE_STAT_CHB_OK).loc]) : ¬ q.loc = (chOk x).loc := by
  simp at h
  unfold chOk; repeat' split
  all_goals simp [h]
@[simp] theorem calIG_loc (c r : Nat) {q : Key} (h : q.loc ∉ [(F.CHN_CAL_IG0 0).loc, (F.CHN_CAL_IG1 0).loc, (F.CHN_CAL_IG2 0).loc]) : ¬ q.loc = (calIG c r).loc := by
  simp at h
  unfold calIG; repeat' split
  all_goals simp [h]
@[simp] theorem calIO_loc (c r : Nat) {q : Key} (h : q.loc ∉ [(F.CHN_CAL_IO0 0).loc, (F.CHN_CAL_IO1 0).loc, (F.CHN_CAL_IO2 0).loc]) : ¬ q.loc = (calIO c r).loc := by
  simp at h
  unfold calIO; repeat' split
  all_goals simp [h]
@[simp] theorem corIG_loc (c r : Nat) {q : Key} (h : q.loc ∉ [(F.CHN_COR_IG0 0).loc, (F.CHN_COR_IG1 0).loc, (F.CHN_COR_IG2 0).loc]) : ¬ q.loc = (corIG c r).loc := by
  simp at h
  unfold corIG; repeat' split
  all_goals simp [h]
@[simp] theorem corIO_loc (c r : Nat) {q : Key} (h : q.loc ∉ [(F.CHN_COR_IO0 0).loc, (F.CHN_COR_IO1 0).loc, (F.CHN_COR_IO2 0).loc]) : ¬ q.loc = (corIO c r).loc := by
  simp at h
  unfold corIO; repeat' split
  all_goals simp [h]
@[simp] theorem refCtl_loc (n : Nat) {q : Key} (h : q.loc ∉ [(F.MEAS_REF_CTL_EN0).loc, (F.MEAS_REF_CTL_EN1).loc, (F.MEAS_REF_CTL_EN2).loc, (F.MEAS_REF_CTL_EN3).loc]) : ¬ q.loc = (refCtl n).loc := by
  simp at h
  unfold refCtl; repeat' split
  all_goals simp [h]
@[simp] theorem refRdy_loc (n : Nat) {q : Key} (h : q.loc ∉ [(F.MEAS_REF_RDY_RDY0).loc, (F.MEAS_REF_RDY_RDY1).loc, (F.MEAS_REF_RDY_RDY2).loc, (F.MEAS_REF_RDY_RDY3).loc]) : ¬ q.loc = (refRdy n).loc := by
  simp at h
  unfold refRdy; repeat' split
  all_goals simp [h]
@[simp] theorem scalBusy_loc (n : Nat) {q : Key} (h : q.loc ∉ [(F.MEAS_SCAL_STAT_BUSY0).loc, (F.MEAS_SCAL_STAT_BUSY1).loc, (F.MEAS_SCAL_STAT_BUSY2).loc, (F.MEAS_SCAL_STAT_BUSY3).loc]) : ¬ q.loc = (scalBusy n).loc := by
  simp at h
  unfold scalBusy; repeat' split
  all_goals simp [h]
@[simp] theorem scalFail_loc (n : Nat) {q : Key} (h : q.loc ∉ [(F.MEAS_SCAL_STAT_FAIL0).loc, (F.MEAS_SCAL_STAT_FAIL1).loc, (F.MEAS_SCAL_STAT_FAIL2).loc, (F.MEAS_SCAL_STAT_FAIL3).loc]) : ¬ q.loc = (scalFail n).loc := by
  simp at h
  unfold scalFail; repeat' split
  all_goals simp [h]
@[simp] theorem portKey_loc (p : Nat) {q : Key} (h : q.loc ∉ [(F.WVE_PORT_P0).loc, (F.WVE_PORT_P1).loc, (F.WVE_PORT_P2).loc, (F.WVE_PORT_P3).loc, (F.WVE_PORT_P4).loc, (F.WVE_PORT_P5).loc]) : ¬ q.loc = (portKey p).loc := by
  simp at h
  unfold portKey; repeat' split
  all_goals simp [h]
@[simp] theorem slotKey_loc (n : Nat) {q : Key} (h : q.loc ∉ [(F.BAY_SLOTS_CA).loc, (F.BAY_SLOTS_CB).loc, (F.BAY_SLOTS_M).loc, (F.BAY_SLOTS_S0).loc, (F.BAY_SLOTS_S1).loc, (F.BAY_SLOTS_S2).loc, (F.BAY_SLOTS_S3).loc, (F.BAY_SLOTS_X).loc]) : ¬ q.loc = (slotKey n).loc := by
  simp at h
  unfold slotKey; repeat' split
  all_goals simp [h]
@[simp] theorem laneEndKey_loc (n : Nat) {q : Key} (h : q.loc ∉ [(F.LOOP_LANE0_END).loc, (F.LOOP_LANE1_END).loc, (F.LOOP_LANE2_END).loc, (F.LOOP_LANE3_END).loc]) : ¬ q.loc = (laneEndKey n).loc := by
  simp at h
  unfold laneEndKey; repeat' split
  all_goals simp [h]
@[simp] theorem trimKey_loc (c p : Nat) {q : Key} (h : q.loc ∉ [(F.CHN_TRIM_P0 0).loc, (F.CHN_TRIM_P1 0).loc, (F.CHN_TRIM_P2 0).loc, (F.CHN_TRIM_P3 0).loc]) : ¬ q.loc = (trimKey c p).loc := by
  simp at h
  unfold trimKey; repeat' split
  all_goals simp [h]
@[simp] theorem plateKey_loc (n : Nat) {q : Key} (h : q.loc ∉ [(F.THM_PLATE0_T).loc, (F.THM_PLATE1_T).loc, (F.THM_PLATE2_T).loc, (F.THM_PLATE3_T).loc, (F.THM_PLATE4_T).loc, (F.THM_PLATE5_T).loc]) : ¬ q.loc = (plateKey n).loc := by
  simp at h
  unfold plateKey; repeat' split
  all_goals simp [h]
@[simp] theorem tjmaxKey_loc (n : Nat) {q : Key} (h : q.loc ∉ [(F.THM_TJMAX0).loc, (F.THM_TJMAX1).loc, (F.THM_TJMAX2).loc, (F.THM_TJMAX3).loc, (F.THM_TJMAX4).loc]) : ¬ q.loc = (tjmaxKey n).loc := by
  simp at h
  unfold tjmaxKey; repeat' split
  all_goals simp [h]
@[simp] theorem Bay.ringStat_rd (b : Bay) (c : Nat) {qq : Key} (hq : qq.loc ∉ [(F.CHN_REC_FILL 0).loc, (F.CHN_REC_STAT_FULL 0).loc, (F.CHN_REC_STAT_WARN 0).loc, (F.EVT_STAT_LOST).loc]) : (b.ringStat c).rd qq = b.rd qq := by
  simp at hq
  simp [Bay.ringStat, hq]

@[simp] theorem Bay.dropEntry_rd (b : Bay) (c : Nat) {qq : Key} (hq : qq.loc ∉ [(F.CHN_REC_STAT_DROPPED 0).loc]) : (b.dropEntry c).rd qq = b.rd qq := by
  simp at hq
  simp [Bay.dropEntry, hq]

@[simp] theorem Bay.putEntry_rd (b : Bay) (c : Nat) (e : RecEntry) {qq : Key} (hq : qq.loc ∉ [(F.CHN_REC_FILL 0).loc, (F.CHN_REC_STAT_DROPPED 0).loc, (F.CHN_REC_STAT_FULL 0).loc, (F.CHN_REC_STAT_WARN 0).loc, (F.EVT_STAT_LOST).loc]) : (b.putEntry c e).rd qq = b.rd qq := by
  simp at hq
  simp [Bay.putEntry, hq]

@[simp] theorem Bay.openInterval_rd (b : Bay) (c t : Nat) {qq : Key} : (b.openInterval c t).rd qq = b.rd qq := by
  simp [Bay.openInterval]

@[simp] theorem Bay.loseTime_rd (b : Bay) (c ticks : Nat) {qq : Key} (hq : qq.loc ∉ [(F.CHN_REC_STAT_LOST 0).loc]) : (b.loseTime c ticks).rd qq = b.rd qq := by
  simp at hq
  unfold Bay.loseTime
  repeat' (first | done | simp [hq] | split | intro _ | refine (Bay.each_rd (fun b n => ?_) _ _).trans ?_ | refine (Bay.onlyIf_rd (fun b => ?_) _ _).trans ?_ | refine (Bay.foldl_rd (fun b n => ?_) _ _).trans ?_ | refine Bay.gated_rd _ _ (by simp [hq]) ?_)

@[simp] theorem Bay.closeInterval_rd (b : Bay) (c : Nat) {qq : Key} (hq : qq.loc ∉ [(F.CHN_REC_FILL 0).loc, (F.CHN_REC_STAT_DROPPED 0).loc, (F.CHN_REC_STAT_FULL 0).loc, (F.CHN_REC_STAT_LOST 0).loc, (F.CHN_REC_STAT_WARN 0).loc, (F.EVT_STAT_LOST).loc]) : (b.closeInterval c).rd qq = b.rd qq := by
  simp at hq
  simp [Bay.closeInterval, hq]

@[simp] theorem Bay.markInterval_rd (b : Bay) (c bit : Nat) {qq : Key} : (b.markInterval c bit).rd qq = b.rd qq := by
  simp [Bay.markInterval]

@[simp] theorem Bay.recEvent_rd (b : Bay) (c : Nat) (kind detail value : Int) {qq : Key} (hq : qq.loc ∉ [(F.CHN_REC_FILL 0).loc, (F.CHN_REC_STAT_DROPPED 0).loc, (F.CHN_REC_STAT_FULL 0).loc, (F.CHN_REC_STAT_WARN 0).loc, (F.EVT_STAT_LOST).loc]) : (b.recEvent c kind detail value).rd qq = b.rd qq := by
  simp at hq
  simp [Bay.recEvent, hq]

@[simp] theorem Bay.sealTrigger_rd (b : Bay) (c : Nat) (cellEnd : Bool) {qq : Key} (hq : qq.loc ∉ [(F.CHN_REC_FILL 0).loc, (F.CHN_REC_STAT_FULL 0).loc, (F.CHN_REC_STAT_WARN 0).loc, (F.EVT_STAT_LOST).loc]) : (b.sealTrigger c cellEnd).rd qq = b.rd qq := by
  simp at hq
  simp [Bay.sealTrigger, hq]

@[simp] theorem Bay.endCell_rd (b : Bay) (c : Nat) (cause : Int) {qq : Key} (hq : qq.loc ∉ [(F.CHN_CELL_ID 0).loc, (F.CHN_REC_FILL 0).loc, (F.CHN_REC_STAT_DROPPED 0).loc, (F.CHN_REC_STAT_FULL 0).loc, (F.CHN_REC_STAT_LOST 0).loc, (F.CHN_REC_STAT_WARN 0).loc, (F.CHN_REG_STAT_CELL 0).loc, (F.EVT_STAT_LOST).loc]) : (b.endCell c cause).rd qq = b.rd qq := by
  simp at hq
  simp [Bay.endCell, hq]

@[simp] theorem Bay.ringSpace_rd (b : Bay) (c : Nat) {qq : Key} (hq : qq.loc ∉ [(F.CHN_REC_FILL 0).loc, (F.CHN_REC_STAT_FULL 0).loc, (F.CHN_REC_STAT_WARN 0).loc, (F.EVT_STAT_LOST).loc, (F.SEC_STAT_STATE 0).loc]) : (b.ringSpace c).rd qq = b.rd qq := by
  simp at hq
  simp [Bay.ringSpace, hq]

@[simp] theorem Bay.releaseSlots_rd (b : Bay) (c n : Nat) {qq : Key} (hq : qq.loc ∉ [(F.CHN_REC_FILL 0).loc, (F.CHN_REC_STAT_FULL 0).loc, (F.CHN_REC_STAT_WARN 0).loc, (F.EVT_STAT_LOST).loc]) : (b.releaseSlots c n).rd qq = b.rd qq := by
  simp at hq
  simp [Bay.releaseSlots, hq]

@[simp] theorem Bay.clampRef_rd (b : Bay) (c : Nat) {qq : Key} (hq : qq.loc ∉ [(F.CHN_ILIM 0).loc, (F.CHN_NODE_REF 0).loc, (F.CHN_STG_STAT_LIM 0).loc]) : (b.clampRef c).rd qq = b.rd qq := by
  simp at hq
  simp [Bay.clampRef, hq]

@[simp] theorem Bay.shedWatch_rd (b : Bay) (c : Nat) {qq : Key} : (b.shedWatch c).rd qq = b.rd qq := by
  unfold Bay.shedWatch
  repeat' (first | done | simp  | split | intro _ | refine (Bay.each_rd (fun b n => ?_) _ _).trans ?_ | refine (Bay.onlyIf_rd (fun b => ?_) _ _).trans ?_ | refine (Bay.foldl_rd (fun b n => ?_) _ _).trans ?_)

@[simp] theorem Bay.onePhase_rd (b : Bay) (c : Nat) {qq : Key} (hq : qq.loc ∉ [(F.CHN_STG_STAT_PH_ACT 0).loc]) : (b.onePhase c).rd qq = b.rd qq := by
  simp at hq
  unfold Bay.onePhase
  repeat' (first | done | simp [hq] | split | intro _ | refine (Bay.each_rd (fun b n => ?_) _ _).trans ?_ | refine (Bay.onlyIf_rd (fun b => ?_) _ _).trans ?_ | refine (Bay.foldl_rd (fun b n => ?_) _ _).trans ?_ | refine Bay.gated_rd _ _ (by simp [hq]) ?_)

@[simp] theorem Bay.reinstate_rd (b : Bay) (c : Nat) {qq : Key} (hq : qq.loc ∉ [(F.CHN_STG_STAT_PH_ACT 0).loc, (F.CHN_STG_STAT_SHED 0).loc]) : (b.reinstate c).rd qq = b.rd qq := by
  simp at hq
  simp [Bay.reinstate, hq]

@[simp] theorem Bay.zeroTrim_rd (b : Bay) (c p : Nat) {qq : Key} (hq : qq.loc ∉ [(F.CHN_TRIM_P0 0).loc, (F.CHN_TRIM_P1 0).loc, (F.CHN_TRIM_P2 0).loc, (F.CHN_TRIM_P3 0).loc]) : (b.zeroTrim c p).rd qq = b.rd qq := by
  simp at hq
  unfold Bay.zeroTrim
  repeat' (first | done | simp [hq] | split | intro _ | refine (Bay.each_rd (fun b n => ?_) _ _).trans ?_ | refine (Bay.onlyIf_rd (fun b => ?_) _ _).trans ?_ | refine (Bay.foldl_rd (fun b n => ?_) _ _).trans ?_ | refine Bay.gated_rd _ _ (by simp [hq]) ?_)

@[simp] theorem Bay.queueRecord_rd (b : Bay) (n : Nat) (r : FramRec) {qq : Key} (hq : qq.loc ∉ [(F.SEC_FRAM_STAT_BUSY 0).loc, (F.SEC_FRAM_STAT_LOST 0).loc, (F.SEC_FRAM_STAT_QUEUED 0).loc]) : (b.queueRecord n r).rd qq = b.rd qq := by
  simp at hq
  simp [Bay.queueRecord, hq]

@[simp] theorem Bay.waleRecord_rd (b : Bay) (n cause : Nat) {qq : Key} (hq : qq.loc ∉ [(F.SEC_FRAM_STAT_BUSY 0).loc, (F.SEC_FRAM_STAT_LOST 0).loc, (F.SEC_FRAM_STAT_QUEUED 0).loc]) : (b.waleRecord n cause).rd qq = b.rd qq := by
  simp at hq
  simp [Bay.waleRecord, hq]

@[simp] theorem Bay.chanFault_rd (b : Bay) (c : Nat) (cause detail : Nat) {qq : Key} (hq : qq.loc ∉ [(F.CHN_FLT_CAUSE 0).loc, (F.CHN_FLT_COUNT 0).loc, (F.CHN_FLT_DETAIL 0).loc, (F.CHN_FLT_SECOND 0).loc, (F.CHN_REC_FILL 0).loc, (F.CHN_REC_STAT_DROPPED 0).loc, (F.CHN_REC_STAT_FULL 0).loc, (F.CHN_REC_STAT_WARN 0).loc, (F.CHN_STG_STAT_CLR_ARMED 0).loc, (F.EVT_STAT_LOST).loc, (F.SEC_FRAM_STAT_BUSY 0).loc, (F.SEC_FRAM_STAT_LOST 0).loc, (F.SEC_FRAM_STAT_QUEUED 0).loc]) : (b.chanFault c cause detail).rd qq = b.rd qq := by
  simp at hq
  simp [Bay.chanFault, hq]

@[simp] theorem Bay.refreshBorder_rd (b : Bay) (c : Nat) {qq : Key} (hq : qq.loc ∉ [(F.CHN_REG_STAT_BORDER_OK 0).loc]) : (b.refreshBorder c).rd qq = b.rd qq := by
  simp at hq
  simp only [Bay.refreshBorder]
  repeat' (first | done | split)
  all_goals simp [hq]

@[simp] theorem Bay.openSwitch_rd (b : Bay) (c : Nat) (stage : Int) {qq : Key} (hq : qq.loc ∉ [(F.CHN_REG_STAT_BORDER_OK 0).loc, (F.CHN_STG_STAT_CSW 0).loc, (F.CHN_STG_STAT_PH_ACT 0).loc, (F.CHN_STG_STAT_SHED 0).loc, (F.CHN_STG_STAT_STAGE 0).loc]) : (b.openSwitch c stage).rd qq = b.rd qq := by
  simp at hq
  simp [Bay.openSwitch, hq]

@[simp] theorem Bay.allLegs_rd (b : Bay) (c : Nat) (x : Leg) {qq : Key} : (b.allLegs c x).rd qq = b.rd qq := by
  simp [Bay.allLegs]

@[simp] theorem Bay.stageRamp_rd (b : Bay) (c : Nat) (ms : Int) {qq : Key} : (b.stageRamp c ms).rd qq = b.rd qq := by
  unfold Bay.stageRamp
  repeat' (first | done | simp  | split | intro _ | refine (Bay.each_rd (fun b n => ?_) _ _).trans ?_ | refine (Bay.onlyIf_rd (fun b => ?_) _ _).trans ?_ | refine (Bay.foldl_rd (fun b n => ?_) _ _).trans ?_)

@[simp] theorem Bay.stageStop_rd (b : Bay) (c : Nat) (ms : Option Int) {qq : Key} (hq : qq.loc ∉ [(F.CHN_REG_STAT_BORDER_OK 0).loc, (F.CHN_STG_STAT_CSW 0).loc, (F.CHN_STG_STAT_PH_ACT 0).loc, (F.CHN_STG_STAT_SHED 0).loc, (F.CHN_STG_STAT_STAGE 0).loc]) : (b.stageStop c ms).rd qq = b.rd qq := by
  simp at hq
  unfold Bay.stageStop
  repeat' (first | done | simp [hq] | split | intro _ | refine (Bay.each_rd (fun b n => ?_) _ _).trans ?_ | refine (Bay.onlyIf_rd (fun b => ?_) _ _).trans ?_ | refine (Bay.foldl_rd (fun b n => ?_) _ _).trans ?_ | refine Bay.gated_rd _ _ (by simp [hq]) ?_)

@[simp] theorem Bay.actRequests_rd (b : Bay) (c : Nat) {qq : Key} (hq : qq.loc ∉ [(F.CHN_REG_STAT_BORDER_OK 0).loc, (F.CHN_STG_STAT_CSW 0).loc, (F.CHN_STG_STAT_PH_ACT 0).loc, (F.CHN_STG_STAT_SHED 0).loc, (F.CHN_STG_STAT_STAGE 0).loc]) : (b.actRequests c).rd qq = b.rd qq := by
  simp at hq
  unfold Bay.actRequests
  repeat' (first | done | simp [hq] | split | intro _ | refine (Bay.each_rd (fun b n => ?_) _ _).trans ?_ | refine (Bay.onlyIf_rd (fun b => ?_) _ _).trans ?_ | refine (Bay.foldl_rd (fun b n => ?_) _ _).trans ?_ | refine Bay.gated_rd _ _ (by simp [hq]) ?_)

@[simp] theorem Bay.rampDown_rd (b : Bay) (c : Nat) (ms : Int) {qq : Key} : (b.rampDown c ms).rd qq = b.rd qq := by
  simp [Bay.rampDown]

@[simp] theorem Bay.softStop_rd (b : Bay) (c : Nat) {qq : Key} : (b.softStop c).rd qq = b.rd qq := by
  unfold Bay.softStop
  repeat' (first | done | simp  | split | intro _ | refine (Bay.each_rd (fun b n => ?_) _ _).trans ?_ | refine (Bay.onlyIf_rd (fun b => ?_) _ _).trans ?_ | refine (Bay.foldl_rd (fun b n => ?_) _ _).trans ?_)

@[simp] theorem Bay.quickStop_rd (b : Bay) (c : Nat) {qq : Key} : (b.quickStop c).rd qq = b.rd qq := by
  unfold Bay.quickStop
  repeat' (first | done | simp  | split | intro _ | refine (Bay.each_rd (fun b n => ?_) _ _).trans ?_ | refine (Bay.onlyIf_rd (fun b => ?_) _ _).trans ?_ | refine (Bay.foldl_rd (fun b n => ?_) _ _).trans ?_)

@[simp] theorem Bay.syncMode_rd (b : Bay) (c : Nat) {qq : Key} (hq : qq.loc ∉ [(F.CHN_REG_STAT_HOLD_CAUSE 0).loc, (F.CHN_REG_STAT_MODE 0).loc]) : (b.syncMode c).rd qq = b.rd qq := by
  simp at hq
  simp [Bay.syncMode, hq]

@[simp] theorem Bay.endWatch_rd (b : Bay) (c : Nat) {qq : Key} (hq : qq.loc ∉ [(F.CHN_REG_STAT_TOPOFF 0).loc, (F.CHN_REG_STAT_WATCH 0).loc]) : (b.endWatch c).rd qq = b.rd qq := by
  simp at hq
  simp [Bay.endWatch, hq]

@[simp] theorem Bay.endSweepEarly_rd (b : Bay) (c : Nat) (code : Int) {qq : Key} (hq : qq.loc ∉ [(F.CHN_REC_FILL 0).loc, (F.CHN_REC_STAT_DROPPED 0).loc, (F.CHN_REC_STAT_FULL 0).loc, (F.CHN_REC_STAT_WARN 0).loc, (F.EISCH_STAT_END 0).loc, (F.EISCH_STAT_PFLAGS 0).loc, (F.EISCH_STAT_RUN 0).loc, (F.EISCH_STAT_SETTLE 0).loc, (F.EIS_STAT_SWEEPING).loc, (F.EVT_STAT_LOST).loc]) : (b.endSweepEarly c code).rd qq = b.rd qq := by
  simp at hq
  simp only [Bay.endSweepEarly]
  repeat' (first | done | split)
  all_goals simp [hq]

@[simp] theorem Bay.endDonation_rd (b : Bay) (c : Nat) {qq : Key} : (b.endDonation c).rd qq = b.rd qq := by
  simp [Bay.endDonation]

@[simp] theorem Bay.hold_rd (b : Bay) (c cause : Nat) {qq : Key} (hq : qq.loc ∉ [(F.CHN_REC_FILL 0).loc, (F.CHN_REC_STAT_DROPPED 0).loc, (F.CHN_REC_STAT_FULL 0).loc, (F.CHN_REC_STAT_WARN 0).loc, (F.CHN_REG_STAT_CLR_ARMED 0).loc, (F.CHN_REG_STAT_HOLD_CAUSE 0).loc, (F.CHN_REG_STAT_MODE 0).loc, (F.CHN_REG_STAT_WATCH 0).loc, (F.EISCH_STAT_END 0).loc, (F.EISCH_STAT_PFLAGS 0).loc, (F.EISCH_STAT_RUN 0).loc, (F.EISCH_STAT_SETTLE 0).loc, (F.EIS_STAT_SWEEPING).loc, (F.EVT_STAT_LOST).loc]) : (b.hold c cause).rd qq = b.rd qq := by
  simp at hq
  simp [Bay.hold, hq]

@[simp] theorem Bay.settle_rd (b : Bay) (c : Nat) {qq : Key} (hq : qq.loc ∉ [(F.CHN_REC_FILL 0).loc, (F.CHN_REC_STAT_DROPPED 0).loc, (F.CHN_REC_STAT_FULL 0).loc, (F.CHN_REC_STAT_WARN 0).loc, (F.CHN_REG_STAT_CLR_ARMED 0).loc, (F.CHN_REG_STAT_HOLD_CAUSE 0).loc, (F.CHN_REG_STAT_MODE 0).loc, (F.CHN_REG_STAT_WATCH 0).loc, (F.EISCH_STAT_END 0).loc, (F.EISCH_STAT_PFLAGS 0).loc, (F.EISCH_STAT_RUN 0).loc, (F.EISCH_STAT_SETTLE 0).loc, (F.EIS_STAT_SWEEPING).loc, (F.EVT_STAT_LOST).loc]) : (b.settle c).rd qq = b.rd qq := by
  simp at hq
  simp [Bay.settle, hq]

@[simp] theorem Bay.leave_rd (b : Bay) (c cause : Nat) {qq : Key} (hq : qq.loc ∉ [(F.CHN_REC_FILL 0).loc, (F.CHN_REC_STAT_DROPPED 0).loc, (F.CHN_REC_STAT_FULL 0).loc, (F.CHN_REC_STAT_WARN 0).loc, (F.CHN_REG_STAT_CLR_ARMED 0).loc, (F.CHN_REG_STAT_HOLD_CAUSE 0).loc, (F.CHN_REG_STAT_MODE 0).loc, (F.CHN_REG_STAT_WATCH 0).loc, (F.EISCH_STAT_END 0).loc, (F.EISCH_STAT_PFLAGS 0).loc, (F.EISCH_STAT_RUN 0).loc, (F.EISCH_STAT_SETTLE 0).loc, (F.EIS_STAT_SWEEPING).loc, (F.EVT_STAT_LOST).loc]) : (b.leave c cause).rd qq = b.rd qq := by
  simp at hq
  unfold Bay.leave
  repeat' (first | done | simp [hq] | split | intro _ | refine (Bay.each_rd (fun b n => ?_) _ _).trans ?_ | refine (Bay.onlyIf_rd (fun b => ?_) _ _).trans ?_ | refine (Bay.foldl_rd (fun b n => ?_) _ _).trans ?_ | refine Bay.gated_rd _ _ (by simp [hq]) ?_)

@[simp] theorem Bay.endStep_rd (b : Bay) (c code : Nat) (also : Int) {qq : Key} (hq : qq.loc ∉ [(F.CHN_REC_FILL 0).loc, (F.CHN_REC_STAT_DROPPED 0).loc, (F.CHN_REC_STAT_FULL 0).loc, (F.CHN_REC_STAT_WARN 0).loc, (F.CHN_REG_STAT_CLR_ARMED 0).loc, (F.CHN_REG_STAT_HOLD_CAUSE 0).loc, (F.CHN_REG_STAT_MODE 0).loc, (F.CHN_REG_STAT_QUALIFYING 0).loc, (F.CHN_REG_STAT_TOPOFF 0).loc, (F.CHN_REG_STAT_WATCH 0).loc, (F.CHN_STEP_END_ALSO 0).loc, (F.CHN_STEP_END_CAUSE 0).loc, (F.EISCH_STAT_END 0).loc, (F.EISCH_STAT_PFLAGS 0).loc, (F.EISCH_STAT_RUN 0).loc, (F.EISCH_STAT_SETTLE 0).loc, (F.EIS_STAT_SWEEPING).loc, (F.EVT_STAT_LOST).loc]) : (b.endStep c code also).rd qq = b.rd qq := by
  simp at hq
  simp [Bay.endStep, hq]

@[simp] theorem Bay.recStepStart_rd (b : Bay) (c : Nat) {qq : Key} (hq : qq.loc ∉ [(F.CHN_REC_FILL 0).loc, (F.CHN_REC_STAT_DROPPED 0).loc, (F.CHN_REC_STAT_FULL 0).loc, (F.CHN_REC_STAT_LOST 0).loc, (F.CHN_REC_STAT_WARN 0).loc, (F.EVT_STAT_LOST).loc]) : (b.recStepStart c).rd qq = b.rd qq := by
  simp at hq
  simp [Bay.recStepStart, hq]

@[simp] theorem Bay.zeroTimers_rd (b : Bay) (c : Nat) {qq : Key} (hq : qq.loc ∉ [(F.CHN_QUAL 0).loc, (F.CHN_REG_STAT_LIM 0).loc, (F.CHN_REG_STAT_TO 0).loc, (F.CHN_REG_STAT_TRM 0).loc, (F.CHN_SFT 0).loc, (F.CHN_SFT_EXT 0).loc, (F.CHN_TMR 0).loc]) : (b.zeroTimers c).rd qq = b.rd qq := by
  simp at hq
  simp [Bay.zeroTimers, hq]

@[simp] theorem Bay.takeStep_rd (b : Bay) (c : Nat) (p : Params) (src : StepSrc) (leg : LegHdr) {qq : Key} (hq : qq.loc ∉ [(F.CHN_LEG_CNT 0).loc, (F.CHN_QUAL 0).loc, (F.CHN_REC_FILL 0).loc, (F.CHN_REC_STAT_DROPPED 0).loc, (F.CHN_REC_STAT_FULL 0).loc, (F.CHN_REC_STAT_LOST 0).loc, (F.CHN_REC_STAT_WARN 0).loc, (F.CHN_REG_STAT_CLR_ARMED 0).loc, (F.CHN_REG_STAT_DIRECT 0).loc, (F.CHN_REG_STAT_HOLD_CAUSE 0).loc, (F.CHN_REG_STAT_LIM 0).loc, (F.CHN_REG_STAT_MODE 0).loc, (F.CHN_REG_STAT_QUALIFYING 0).loc, (F.CHN_REG_STAT_STEP 0).loc, (F.CHN_REG_STAT_TO 0).loc, (F.CHN_REG_STAT_TOPOFF 0).loc, (F.CHN_REG_STAT_TRM 0).loc, (F.CHN_REG_STAT_WATCH 0).loc, (F.CHN_SFT 0).loc, (F.CHN_SFT_EXT 0).loc, (F.CHN_STEP_END_ALSO 0).loc, (F.CHN_STEP_END_CAUSE 0).loc, (F.CHN_TMR 0).loc, (F.EISCH_STAT_END 0).loc, (F.EISCH_STAT_PFLAGS 0).loc, (F.EISCH_STAT_RUN 0).loc, (F.EISCH_STAT_SETTLE 0).loc, (F.EIS_STAT_SWEEPING).loc, (F.EVT_STAT_LOST).loc]) : (b.takeStep c p src leg).rd qq = b.rd qq := by
  simp at hq
  unfold Bay.takeStep
  repeat' (first | done | simp [hq] | split | intro _ | refine (Bay.each_rd (fun b n => ?_) _ _).trans ?_ | refine (Bay.onlyIf_rd (fun b => ?_) _ _).trans ?_ | refine (Bay.foldl_rd (fun b n => ?_) _ _).trans ?_ | refine Bay.gated_rd _ _ (by simp [hq]) ?_)

@[simp] theorem Bay.setEngState_rd (b : Bay) (c : Nat) (st : Int) {qq : Key} (hq : qq.loc ∉ [(F.ENG_STAT_STATE 0).loc, (F.SKN_STAT_ACTIVE).loc]) : (b.setEngState c st).rd qq = b.rd qq := by
  simp at hq
  simp [Bay.setEngState, hq]

@[simp] theorem Bay.seeEdge_rd (b : Bay) {qq : Key} : (b.seeEdge).rd qq = b.rd qq := by
  unfold Bay.seeEdge
  repeat' (first | done | simp  | split | intro _ | refine (Bay.each_rd (fun b n => ?_) _ _).trans ?_ | refine (Bay.onlyIf_rd (fun b => ?_) _ _).trans ?_ | refine (Bay.foldl_rd (fun b n => ?_) _ _).trans ?_)

@[simp] theorem Bay.runsEdge_rd (b : Bay) {qq : Key} : (b.runsEdge).rd qq = b.rd qq := by
  unfold Bay.runsEdge
  repeat' (first | done | simp  | split | intro _ | refine (Bay.each_rd (fun b n => ?_) _ _).trans ?_ | refine (Bay.onlyIf_rd (fun b => ?_) _ _).trans ?_ | refine (Bay.foldl_rd (fun b n => ?_) _ _).trans ?_)

@[simp] theorem Bay.engDrops_rd (b : Bay) (c : Nat) {qq : Key} : (b.engDrops c).rd qq = b.rd qq := by
  unfold Bay.engDrops
  repeat' (first | done | simp  | split | intro _ | refine (Bay.each_rd (fun b n => ?_) _ _).trans ?_ | refine (Bay.onlyIf_rd (fun b => ?_) _ _).trans ?_ | refine (Bay.foldl_rd (fun b n => ?_) _ _).trans ?_)

@[simp] theorem Bay.engAllowanceEnds_rd (b : Bay) (c : Nat) {qq : Key} (hq : qq.loc ∉ [(F.ENG_DON 0).loc]) : (b.engAllowanceEnds c).rd qq = b.rd qq := by
  simp at hq
  unfold Bay.engAllowanceEnds
  repeat' (first | done | simp [hq] | split | intro _ | refine (Bay.each_rd (fun b n => ?_) _ _).trans ?_ | refine (Bay.onlyIf_rd (fun b => ?_) _ _).trans ?_ | refine (Bay.foldl_rd (fun b n => ?_) _ _).trans ?_ | refine Bay.gated_rd _ _ (by simp [hq]) ?_)

@[simp] theorem Bay.engLoses_rd (b : Bay) (c : Nat) {qq : Key} (hq : qq.loc ∉ [(F.ENG_DON 0).loc]) : (b.engLoses c).rd qq = b.rd qq := by
  simp at hq
  simp [Bay.engLoses, hq]

@[simp] theorem Bay.engStopped_rd (b : Bay) (c : Nat) (endCode : Int) {qq : Key} (hq : qq.loc ∉ [(F.ENG_DON 0).loc, (F.ENG_STAT_END 0).loc, (F.ENG_STAT_JOINED 0).loc, (F.ENG_STAT_STATE 0).loc, (F.SKN_STAT_ACTIVE).loc]) : (b.engStopped c endCode).rd qq = b.rd qq := by
  simp at hq
  simp [Bay.engStopped, hq]

@[simp] theorem Bay.leavePause_rd (b : Bay) (c : Nat) {qq : Key} (hq : qq.loc ∉ [(F.CHN_REC_FILL 0).loc, (F.CHN_REC_STAT_DROPPED 0).loc, (F.CHN_REC_STAT_FULL 0).loc, (F.CHN_REC_STAT_WARN 0).loc, (F.CHN_REG_STAT_CLR_ARMED 0).loc, (F.CHN_REG_STAT_HOLD_CAUSE 0).loc, (F.CHN_REG_STAT_MODE 0).loc, (F.CHN_REG_STAT_WATCH 0).loc, (F.EISCH_STAT_END 0).loc, (F.EISCH_STAT_PFLAGS 0).loc, (F.EISCH_STAT_RUN 0).loc, (F.EISCH_STAT_SETTLE 0).loc, (F.EIS_STAT_SWEEPING).loc, (F.EVT_STAT_LOST).loc]) : (b.leavePause c).rd qq = b.rd qq := by
  simp at hq
  unfold Bay.leavePause
  repeat' (first | done | simp [hq] | split | intro _ | refine (Bay.each_rd (fun b n => ?_) _ _).trans ?_ | refine (Bay.onlyIf_rd (fun b => ?_) _ _).trans ?_ | refine (Bay.foldl_rd (fun b n => ?_) _ _).trans ?_ | refine Bay.gated_rd _ _ (by simp [hq]) ?_)

@[simp] theorem Bay.chanAfterStop_rd (b : Bay) (c : Nat) {qq : Key} (hq : qq.loc ∉ [(F.CHN_REC_FILL 0).loc, (F.CHN_REC_STAT_DROPPED 0).loc, (F.CHN_REC_STAT_FULL 0).loc, (F.CHN_REC_STAT_WARN 0).loc, (F.CHN_REG_STAT_CLR_ARMED 0).loc, (F.CHN_REG_STAT_HOLD_CAUSE 0).loc, (F.CHN_REG_STAT_MODE 0).loc, (F.CHN_REG_STAT_QUALIFYING 0).loc, (F.CHN_REG_STAT_TOPOFF 0).loc, (F.CHN_REG_STAT_WATCH 0).loc, (F.CHN_STEP_END_ALSO 0).loc, (F.CHN_STEP_END_CAUSE 0).loc, (F.EISCH_STAT_END 0).loc, (F.EISCH_STAT_PFLAGS 0).loc, (F.EISCH_STAT_RUN 0).loc, (F.EISCH_STAT_SETTLE 0).loc, (F.EIS_STAT_SWEEPING).loc, (F.EVT_STAT_LOST).loc]) : (b.chanAfterStop c).rd qq = b.rd qq := by
  simp at hq
  unfold Bay.chanAfterStop
  repeat' (first | done | simp [hq] | split | intro _ | refine (Bay.each_rd (fun b n => ?_) _ _).trans ?_ | refine (Bay.onlyIf_rd (fun b => ?_) _ _).trans ?_ | refine (Bay.foldl_rd (fun b n => ?_) _ _).trans ?_ | refine Bay.gated_rd _ _ (by simp [hq]) ?_)

@[simp] theorem Bay.engHostStop_rd (b : Bay) (c : Nat) (endCode : Int) {qq : Key} (hq : qq.loc ∉ [(F.CHN_REC_FILL 0).loc, (F.CHN_REC_STAT_DROPPED 0).loc, (F.CHN_REC_STAT_FULL 0).loc, (F.CHN_REC_STAT_WARN 0).loc, (F.CHN_REG_STAT_CLR_ARMED 0).loc, (F.CHN_REG_STAT_HOLD_CAUSE 0).loc, (F.CHN_REG_STAT_MODE 0).loc, (F.CHN_REG_STAT_QUALIFYING 0).loc, (F.CHN_REG_STAT_TOPOFF 0).loc, (F.CHN_REG_STAT_WATCH 0).loc, (F.CHN_STEP_END_ALSO 0).loc, (F.CHN_STEP_END_CAUSE 0).loc, (F.EISCH_STAT_END 0).loc, (F.EISCH_STAT_PFLAGS 0).loc, (F.EISCH_STAT_RUN 0).loc, (F.EISCH_STAT_SETTLE 0).loc, (F.EIS_STAT_SWEEPING).loc, (F.ENG_DON 0).loc, (F.ENG_STAT_END 0).loc, (F.ENG_STAT_JOINED 0).loc, (F.ENG_STAT_STATE 0).loc, (F.EVT_STAT_LOST).loc, (F.SKN_STAT_ACTIVE).loc]) : (b.engHostStop c endCode).rd qq = b.rd qq := by
  simp at hq
  simp [Bay.engHostStop, hq]

@[simp] theorem Bay.engPause_rd (b : Bay) (c cause : Nat) (byMode : Bool) {qq : Key} (hq : qq.loc ∉ [(F.CHN_REC_FILL 0).loc, (F.CHN_REC_STAT_DROPPED 0).loc, (F.CHN_REC_STAT_FULL 0).loc, (F.CHN_REC_STAT_WARN 0).loc, (F.CHN_REG_STAT_CLR_ARMED 0).loc, (F.CHN_REG_STAT_HOLD_CAUSE 0).loc, (F.CHN_REG_STAT_MODE 0).loc, (F.CHN_REG_STAT_WATCH 0).loc, (F.EISCH_STAT_END 0).loc, (F.EISCH_STAT_PFLAGS 0).loc, (F.EISCH_STAT_RUN 0).loc, (F.EISCH_STAT_SETTLE 0).loc, (F.EIS_STAT_SWEEPING).loc, (F.ENG_STAT_STATE 0).loc, (F.EVT_STAT_LOST).loc, (F.SKN_STAT_ACTIVE).loc]) : (b.engPause c cause byMode).rd qq = b.rd qq := by
  simp at hq
  simp [Bay.engPause, hq]

@[simp] theorem Bay.wake_rd (b : Bay) (c : Nat) {qq : Key} (hq : qq.loc ∉ [(F.ENG_PC 0).loc, (F.ENG_STAT_JOINED 0).loc, (F.ENG_STAT_STATE 0).loc, (F.SKN_STAT_ACTIVE).loc]) : (b.wake c).rd qq = b.rd qq := by
  simp at hq
  simp [Bay.wake, hq]

@[simp] theorem Bay.engResume_rd (b : Bay) (c cause : Nat) {qq : Key} (hq : qq.loc ∉ [(F.CHN_REC_FILL 0).loc, (F.CHN_REC_STAT_DROPPED 0).loc, (F.CHN_REC_STAT_FULL 0).loc, (F.CHN_REC_STAT_WARN 0).loc, (F.CHN_REG_STAT_CLR_ARMED 0).loc, (F.CHN_REG_STAT_HOLD_CAUSE 0).loc, (F.CHN_REG_STAT_MODE 0).loc, (F.CHN_REG_STAT_WATCH 0).loc, (F.EISCH_STAT_END 0).loc, (F.EISCH_STAT_PFLAGS 0).loc, (F.EISCH_STAT_RUN 0).loc, (F.EISCH_STAT_SETTLE 0).loc, (F.EIS_STAT_SWEEPING).loc, (F.ENG_EVT_VAL 0).loc, (F.ENG_PC 0).loc, (F.ENG_STAT_JOINED 0).loc, (F.ENG_STAT_STATE 0).loc, (F.EVT_STAT_LOST).loc, (F.SKN_STAT_ACTIVE).loc]) : (b.engResume c cause).rd qq = b.rd qq := by
  simp at hq
  simp [Bay.engResume, hq]

@[simp] theorem Bay.freeze_rd (b : Bay) (c cause : Nat) (detail : Int) {qq : Key} (hq : qq.loc ∉ [(F.ENG_FRZ_CAUSE 0).loc, (F.ENG_FRZ_DETAIL 0).loc, (F.ENG_STAT_CLR_ARMED 0).loc, (F.ENG_STAT_STATE 0).loc, (F.SKN_STAT_ACTIVE).loc]) : (b.freeze c cause detail).rd qq = b.rd qq := by
  simp at hq
  simp [Bay.freeze, hq]

@[simp] theorem Bay.freezeEdge_rd (b : Bay) (c : Nat) {qq : Key} (hq : qq.loc ∉ [(F.CHN_REC_FILL 0).loc, (F.CHN_REC_STAT_DROPPED 0).loc, (F.CHN_REC_STAT_FULL 0).loc, (F.CHN_REC_STAT_WARN 0).loc, (F.CHN_REG_STAT_CLR_ARMED 0).loc, (F.CHN_REG_STAT_HOLD_CAUSE 0).loc, (F.CHN_REG_STAT_MODE 0).loc, (F.CHN_REG_STAT_QUALIFYING 0).loc, (F.CHN_REG_STAT_TOPOFF 0).loc, (F.CHN_REG_STAT_WATCH 0).loc, (F.CHN_STEP_END_ALSO 0).loc, (F.CHN_STEP_END_CAUSE 0).loc, (F.EISCH_STAT_END 0).loc, (F.EISCH_STAT_PFLAGS 0).loc, (F.EISCH_STAT_RUN 0).loc, (F.EISCH_STAT_SETTLE 0).loc, (F.EIS_STAT_SWEEPING).loc, (F.ENG_DON 0).loc, (F.ENG_FRZ_T 0).loc, (F.EVT_STAT_LOST).loc]) : (b.freezeEdge c).rd qq = b.rd qq := by
  simp at hq
  simp [Bay.freezeEdge, hq]

@[simp] theorem Bay.stopAllEngines_rd (b : Bay) (endCode : Int) {qq : Key} (hq : qq.loc ∉ [(F.ENG_DON 0).loc, (F.ENG_STAT_END 0).loc, (F.ENG_STAT_JOINED 0).loc, (F.ENG_STAT_STATE 0).loc, (F.SKN_STAT_ACTIVE).loc]) : (b.stopAllEngines endCode).rd qq = b.rd qq := by
  simp at hq
  simp [Bay.stopAllEngines, hq]

@[simp] theorem Bay.recordStop_rd (b : Bay) (code : Nat) {qq : Key} (hq : qq.loc ∉ [(F.BAY_STOP_CAUSE_FIRST).loc, (F.BAY_STOP_CAUSE_MASK).loc]) : (b.recordStop code).rd qq = b.rd qq := by
  simp at hq
  simp [Bay.recordStop, hq]

@[simp] theorem Bay.stopFor_rd (b : Bay) (code : Nat) {qq : Key} (hq : qq.loc ∉ [(F.BAY_STAT_CLR_ARMED).loc, (F.BAY_STOP_CAUSE_FIRST).loc, (F.BAY_STOP_CAUSE_MASK).loc]) : (b.stopFor code).rd qq = b.rd qq := by
  simp at hq
  simp [Bay.stopFor, hq]

@[simp] theorem Bay.requestSwitch_rd (b : Bay) (c : Nat) (close : Bool) {qq : Key} : (b.requestSwitch c close).rd qq = b.rd qq := by
  simp [Bay.requestSwitch]

@[simp] theorem Bay.brakeNow_rd (b : Bay) (a : Nat) (on : Bool) {qq : Key} (hq : qq.loc ∉ [(F.AXS_STAT_BRK_ON 0).loc]) : (b.brakeNow a on).rd qq = b.rd qq := by
  simp at hq
  simp [Bay.brakeNow, hq]

@[simp] theorem Bay.brakeCmd_rd (b : Bay) (a : Nat) (on : Bool) {qq : Key} : (b.brakeCmd a on).rd qq = b.rd qq := by
  simp [Bay.brakeCmd]

@[simp] theorem Bay.stoAxis_rd (b : Bay) (a cause : Nat) {qq : Key} (hq : qq.loc ∉ [(F.AXS_FLT_CAUSE 0).loc, (F.AXS_FLT_COUNT 0).loc, (F.AXS_FLT_SECOND 0).loc, (F.AXS_STAT_ASRC 0).loc, (F.AXS_STAT_BRK_ON 0).loc, (F.AXS_STAT_CLR_ARMED 0).loc, (F.AXS_STAT_FB_USED 0).loc, (F.AXS_STAT_REV_HELD 0).loc, (F.AXS_STAT_STATE 0).loc, (F.EVT_STAT_LOST).loc]) : (b.stoAxis a cause).rd qq = b.rd qq := by
  simp at hq
  simp [Bay.stoAxis, hq]

@[simp] theorem Bay.stoAll_rd (b : Bay) (cause : Nat) {qq : Key} (hq : qq.loc ∉ [(F.AXS_FLT_CAUSE 0).loc, (F.AXS_FLT_COUNT 0).loc, (F.AXS_FLT_SECOND 0).loc, (F.AXS_STAT_ASRC 0).loc, (F.AXS_STAT_BRK_ON 0).loc, (F.AXS_STAT_CLR_ARMED 0).loc, (F.AXS_STAT_FB_USED 0).loc, (F.AXS_STAT_REV_HELD 0).loc, (F.AXS_STAT_STATE 0).loc, (F.EVT_STAT_LOST).loc]) : (b.stoAll cause).rd qq = b.rd qq := by
  simp at hq
  simp [Bay.stoAll, hq]

@[simp] theorem Bay.stopAxis_rd (b : Bay) (a : Nat) {qq : Key} (hq : qq.loc ∉ [(F.AXS_STAT_STATE 0).loc]) : (b.stopAxis a).rd qq = b.rd qq := by
  simp at hq
  simp [Bay.stopAxis, hq]

@[simp] theorem Bay.stopPresses_rd (b : Bay) {qq : Key} (hq : qq.loc ∉ [(F.AXS_STAT_STATE 0).loc]) : (b.stopPresses).rd qq = b.rd qq := by
  simp at hq
  simp [Bay.stopPresses, hq]

@[simp] theorem Bay.legsOff_rd (b : Bay) (a : Nat) {qq : Key} : (b.legsOff a).rd qq = b.rd qq := by
  unfold Bay.legsOff
  repeat' (first | done | simp  | split | intro _ | refine (Bay.each_rd (fun b n => ?_) _ _).trans ?_ | refine (Bay.onlyIf_rd (fun b => ?_) _ _).trans ?_ | refine (Bay.foldl_rd (fun b n => ?_) _ _).trans ?_)

@[simp] theorem Bay.i2tLimit_rd (b : Bay) (a : Nat) {qq : Key} (hq : qq.loc ∉ [(F.AXS_STAT_I2T_LIM 0).loc]) : (b.i2tLimit a).rd qq = b.rd qq := by
  simp at hq
  simp [Bay.i2tLimit, hq]

@[simp] theorem Bay.startOn_rd (b : Bay) (c p : Nat) {qq : Key} : (b.startOn c p).rd qq = b.rd qq := by
  unfold Bay.startOn
  repeat' (first | done | simp  | split | intro _ | refine (Bay.each_rd (fun b n => ?_) _ _).trans ?_ | refine (Bay.onlyIf_rd (fun b => ?_) _ _).trans ?_ | refine (Bay.foldl_rd (fun b n => ?_) _ _).trans ?_)

@[simp] theorem Bay.endOn_rd (b : Bay) (c p : Nat) {qq : Key} : (b.endOn c p).rd qq = b.rd qq := by
  unfold Bay.endOn
  repeat' (first | done | simp  | split | intro _ | refine (Bay.each_rd (fun b n => ?_) _ _).trans ?_ | refine (Bay.onlyIf_rd (fun b => ?_) _ _).trans ?_ | refine (Bay.foldl_rd (fun b n => ?_) _ _).trans ?_)

@[simp] theorem Bay.takeGen_rd (b : Bay) (c : Nat) {qq : Key} : (b.takeGen c).rd qq = b.rd qq := by
  unfold Bay.takeGen
  repeat' (first | done | simp  | split | intro _ | refine (Bay.each_rd (fun b n => ?_) _ _).trans ?_ | refine (Bay.onlyIf_rd (fun b => ?_) _ _).trans ?_ | refine (Bay.foldl_rd (fun b n => ?_) _ _).trans ?_)

@[simp] theorem Bay.trigger_rd (b : Bay) (c : Nat) {qq : Key} : (b.trigger c).rd qq = b.rd qq := by
  unfold Bay.trigger
  repeat' (first | done | simp  | split | intro _ | refine (Bay.each_rd (fun b n => ?_) _ _).trans ?_ | refine (Bay.onlyIf_rd (fun b => ?_) _ _).trans ?_ | refine (Bay.foldl_rd (fun b n => ?_) _ _).trans ?_)

@[simp] theorem Bay.cotTick_rd (b : Bay) (c : Nat) {qq : Key} : (b.cotTick c).rd qq = b.rd qq := by
  unfold Bay.cotTick
  repeat' (first | done | simp  | split | intro _ | refine (Bay.each_rd (fun b n => ?_) _ _).trans ?_ | refine (Bay.onlyIf_rd (fun b => ?_) _ _).trans ?_ | refine (Bay.foldl_rd (fun b n => ?_) _ _).trans ?_)

@[simp] theorem Bay.runCot_rd (b : Bay) {qq : Key} : (b.runCot).rd qq = b.rd qq := by
  unfold Bay.runCot
  repeat' (first | done | simp  | split | intro _ | refine (Bay.each_rd (fun b n => ?_) _ _).trans ?_ | refine (Bay.onlyIf_rd (fun b => ?_) _ _).trans ?_ | refine (Bay.foldl_rd (fun b n => ?_) _ _).trans ?_)

theorem ceKeys_grp (k x : Nat) : (ceKeys k x).1.grp = .mem ∧ (ceKeys k x).2.1.grp = .mem ∧ (ceKeys k x).2.2.1.grp = .mem ∧ (ceKeys k x).2.2.2.grp = .mem := by
  unfold ceKeys; repeat' split
  all_goals exact ⟨rfl, rfl, rfl, rfl⟩
@[simp] theorem ceKeys_grp1 (k x : Nat) : (ceKeys k x).1.grp = .mem := (ceKeys_grp k x).1
@[simp] theorem ceKeys_grp2 (k x : Nat) : (ceKeys k x).2.1.grp = .mem := (ceKeys_grp k x).2.1
@[simp] theorem ceKeys_grp3 (k x : Nat) : (ceKeys k x).2.2.1.grp = .mem := (ceKeys_grp k x).2.2.1
@[simp] theorem ceKeys_grp4 (k x : Nat) : (ceKeys k x).2.2.2.grp = .mem := (ceKeys_grp k x).2.2.2

@[simp] theorem Bay.correction_rd (b : Bay) (x k w syn : Nat) {qq : Key} (hq : qq.grp ∉ [.mem] ∧ qq.loc ∉ [(F.EVT_STAT_LOST).loc]) : (b.correction x k w syn).rd qq = b.rd qq := by
  simp at hq
  unfold Bay.correction
  repeat' (first | done | simp [hq] | split | intro _ | refine (Bay.each_rd (fun b n => ?_) _ _).trans ?_ | refine (Bay.onlyIf_rd (fun b => ?_) _ _).trans ?_ | refine (Bay.foldl_rd (fun b n => ?_) _ _).trans ?_ | refine Bay.gated_rd _ _ (by simp [hq]) ?_)

@[simp] theorem Bay.uncorrectable_rd (b : Bay) (x k w master acc : Nat) {qq : Key} (hq : qq.grp ∉ [.mem] ∧ qq.loc ∉ [(F.EVT_STAT_LOST).loc]) : (b.uncorrectable x k w master acc).rd qq = b.rd qq := by
  simp at hq
  unfold Bay.uncorrectable
  repeat' (first | done | simp [hq] | split | intro _ | refine (Bay.each_rd (fun b n => ?_) _ _).trans ?_ | refine (Bay.onlyIf_rd (fun b => ?_) _ _).trans ?_ | refine (Bay.foldl_rd (fun b n => ?_) _ _).trans ?_ | refine Bay.gated_rd _ _ (by simp [hq]) ?_)

@[simp] theorem Bay.reportLimits_rd (b : Bay) (c : Nat) (v asks : Rat) {qq : Key} (hq : qq.loc ∉ [(F.CHN_REG_STAT_EXTLIM 0).loc]) : (b.reportLimits c v asks).rd qq = b.rd qq := by
  simp at hq
  unfold Bay.reportLimits
  repeat' (first | done | simp [hq] | split | intro _ | refine (Bay.each_rd (fun b n => ?_) _ _).trans ?_ | refine (Bay.onlyIf_rd (fun b => ?_) _ _).trans ?_ | refine (Bay.foldl_rd (fun b n => ?_) _ _).trans ?_ | refine Bay.gated_rd _ _ (by simp [hq]) ?_)

@[simp] theorem Bay.showLim_rd (b : Bay) (c : Nat) (lim : Bool) {qq : Key} (hq : qq.loc ∉ [(F.CHN_REG_STAT_LIM 0).loc]) : (b.showLim c lim).rd qq = b.rd qq := by
  simp at hq
  unfold Bay.showLim
  repeat' (first | done | simp [hq] | split | intro _ | refine (Bay.each_rd (fun b n => ?_) _ _).trans ?_ | refine (Bay.onlyIf_rd (fun b => ?_) _ _).trans ?_ | refine (Bay.foldl_rd (fun b n => ?_) _ _).trans ?_ | refine Bay.gated_rd _ _ (by simp [hq]) ?_)

@[simp] theorem Bay.chanLoopOpen_rd (b : Bay) (c : Nat) (l : LoopCh) (man : Bool) (v0 : Int) {qq : Key} (hq : qq.loc ∉ [(F.LPC_XI 0).loc]) : (b.chanLoopOpen c l man v0).rd qq = b.rd qq := by
  simp at hq
  unfold Bay.chanLoopOpen
  repeat' (first | done | simp [hq] | split | intro _ | refine (Bay.each_rd (fun b n => ?_) _ _).trans ?_ | refine (Bay.onlyIf_rd (fun b => ?_) _ _).trans ?_ | refine (Bay.foldl_rd (fun b n => ?_) _ _).trans ?_ | refine Bay.gated_rd _ _ (by simp [hq]) ?_)

@[simp] theorem Bay.chanLoopClosed_rd (b : Bay) (c : Nat) (l : LoopCh) (man : Bool) (v i : Rat) {qq : Key} (hq : qq.loc ∉ [(F.CHN_REG_STAT_EXTLIM 0).loc, (F.CHN_REG_STAT_LIM 0).loc, (F.LPC_XI 0).loc, (F.LPC_XV 0).loc]) : (b.chanLoopClosed c l man v i).rd qq = b.rd qq := by
  simp at hq
  unfold Bay.chanLoopClosed
  repeat' (first | done | simp [hq] | split | intro _ | refine (Bay.each_rd (fun b n => ?_) _ _).trans ?_ | refine (Bay.onlyIf_rd (fun b => ?_) _ _).trans ?_ | refine (Bay.foldl_rd (fun b n => ?_) _ _).trans ?_ | refine Bay.gated_rd _ _ (by simp [hq]) ?_)

@[simp] theorem Bay.chanLoop_rd (b : Bay) (c : Nat) (v0 i0 : Int) {qq : Key} (hq : qq.loc ∉ [(F.CHN_REG_STAT_EXTLIM 0).loc, (F.CHN_REG_STAT_LIM 0).loc, (F.LPC_MAN_OUT 0).loc, (F.LPC_XI 0).loc, (F.LPC_XV 0).loc]) : (b.chanLoop c v0 i0).rd qq = b.rd qq := by
  simp at hq
  simp [Bay.chanLoop, hq]

@[simp] theorem Bay.trimOfs_rd (b : Bay) (a : Nat) (thObs : Rat) {qq : Key} (hq : qq.loc ∉ [(F.AXS_FB_OFS 0).loc]) : (b.trimOfs a thObs).rd qq = b.rd qq := by
  simp at hq
  simp [Bay.trimOfs, hq]

@[simp] theorem Bay.watchAngle_rd (b : Bay) (a : Nat) (thInj thObs : Rat) (w : Int) {qq : Key} : (b.watchAngle a thInj thObs w).rd qq = b.rd qq := by
  unfold Bay.watchAngle
  repeat' (first | done | simp  | split | intro _ | refine (Bay.each_rd (fun b n => ?_) _ _).trans ?_ | refine (Bay.onlyIf_rd (fun b => ?_) _ _).trans ?_ | refine (Bay.foldl_rd (fun b n => ?_) _ _).trans ?_)

@[simp] theorem Bay.axisMeasure_rd (b : Bay) (a : Nat) (iu iv iw : Int) (thInj thObs : Rat) (w : Int) {qq : Key} (hq : qq.loc ∉ [(F.AXS_FB_OFS 0).loc, (F.AXS_SPD 0).loc, (F.AXS_STAT_ASRC 0).loc, (F.AXS_STAT_FB_USED 0).loc]) : (b.axisMeasure a iu iv iw thInj thObs w).rd qq = b.rd qq := by
  simp at hq
  unfold Bay.axisMeasure
  repeat' (first | done | simp [hq] | split | intro _ | refine (Bay.each_rd (fun b n => ?_) _ _).trans ?_ | refine (Bay.onlyIf_rd (fun b => ?_) _ _).trans ?_ | refine (Bay.foldl_rd (fun b n => ?_) _ _).trans ?_ | refine Bay.gated_rd _ _ (by simp [hq]) ?_)

@[simp] theorem Bay.i2tStep_rd (b : Bay) (a : Nat) {qq : Key} (hq : qq.loc ∉ [(F.AXS_I2T 0).loc, (F.AXS_STAT_I2T_LIM 0).loc]) : (b.i2tStep a).rd qq = b.rd qq := by
  simp at hq
  simp [Bay.i2tStep, hq]

@[simp] theorem Bay.currentLoop_rd (b : Bay) (a : Nat) (vbus : Int) {qq : Key} (hq : qq.loc ∉ [(F.LPA_XD 0).loc, (F.LPA_XQ 0).loc]) : (b.currentLoop a vbus).rd qq = b.rd qq := by
  simp at hq
  unfold Bay.currentLoop
  repeat' (first | done | simp [hq] | split | intro _ | refine (Bay.each_rd (fun b n => ?_) _ _).trans ?_ | refine (Bay.onlyIf_rd (fun b => ?_) _ _).trans ?_ | refine (Bay.foldl_rd (fun b n => ?_) _ _).trans ?_ | refine Bay.gated_rd _ _ (by simp [hq]) ?_)

@[simp] theorem Bay.reversal_rd (b : Bay) (a : Nat) (w : Int) (r : Rat) {qq : Key} (hq : qq.loc ∉ [(F.AXS_STAT_REV_HELD 0).loc]) :
    (b.reversal a w r).2.rd qq = b.rd qq := by
  simp at hq
  simp only [Bay.reversal]; split <;> simp [hq]

@[simp] theorem Bay.speedLoop_rd (b : Bay) (a : Nat) {qq : Key} (hq : qq.loc ∉ [(F.AXS_STAT_BRK_ON 0).loc, (F.AXS_STAT_REV_HELD 0).loc, (F.LPA_MAN_OUT 0).loc, (F.LPA_XS 0).loc]) : (b.speedLoop a).rd qq = b.rd qq := by
  simp at hq
  unfold Bay.speedLoop
  repeat' (first | done | simp [hq] | split | intro _ | refine (Bay.each_rd (fun b n => ?_) _ _).trans ?_ | refine (Bay.onlyIf_rd (fun b => ?_) _ _).trans ?_ | refine (Bay.foldl_rd (fun b n => ?_) _ _).trans ?_ | refine Bay.gated_rd _ _ (by simp [hq]) ?_)

@[simp] theorem Bay.posLoop_rd (b : Bay) (a : Nat) (pref lim : Rat) {qq : Key} : (b.posLoop a pref lim).rd qq = b.rd qq := by
  simp [Bay.posLoop]

@[simp] theorem Bay.pressRamp_rd (b : Bay) (a : Nat) {qq : Key} (hq : qq.loc ∉ [(F.AXS_STAT_BRK_ON 0).loc, (F.AXS_STAT_PRS 0).loc]) : (b.pressRamp a).rd qq = b.rd qq := by
  simp at hq
  unfold Bay.pressRamp
  repeat' (first | done | simp [hq] | split | intro _ | refine (Bay.each_rd (fun b n => ?_) _ _).trans ?_ | refine (Bay.onlyIf_rd (fun b => ?_) _ _).trans ?_ | refine (Bay.foldl_rd (fun b n => ?_) _ _).trans ?_ | refine Bay.gated_rd _ _ (by simp [hq]) ?_)

@[simp] theorem Bay.pressEdge_rd (b : Bay) (a : Nat) {qq : Key} (hq : qq.loc ∉ [(F.AXS_F_TGT 0).loc, (F.AXS_STAT_BRK_ON 0).loc, (F.AXS_STAT_PRS 0).loc]) : (b.pressEdge a).rd qq = b.rd qq := by
  simp at hq
  simp only [Bay.pressEdge]
  repeat' (first | done | split)
  all_goals simp [hq]

@[simp] theorem Bay.forceLoop_rd (b : Bay) (a : Nat) {qq : Key} : (b.forceLoop a).rd qq = b.rd qq := by
  simp [Bay.forceLoop]

@[simp] theorem Bay.slotLoop_rd (b : Bay) (a : Nat) {qq : Key} : (b.slotLoop a).rd qq = b.rd qq := by
  simp only [Bay.slotLoop]
  repeat' (first | done | split)
  all_goals simp 

@[simp] theorem Bay.dlClear_rd (b : Bay) {qq : Key} (hq : qq.loc ∉ [(F.LOOP_DL_LAST_LANE).loc, (F.LOOP_DL_LAST_OBJ).loc, (F.LOOP_STAT_DL).loc]) : (b.dlClear).rd qq = b.rd qq := by
  simp at hq
  simp [Bay.dlClear, hq]

@[simp] theorem Bay.traceFrame_rd (b : Bay) (n : Nat) {qq : Key} (hq : qq.loc ∉ [(F.TR_STAT_FILL 0).loc, (F.TR_STAT_THIN 0).loc, (F.TR_STAT_TRIG 0).loc]) : (b.traceFrame n).rd qq = b.rd qq := by
  simp at hq
  simp [Bay.traceFrame, hq]

@[simp] theorem Bay.traceArm_rd (b : Bay) (n : Nat) {qq : Key} (hq : qq.loc ∉ [(F.EVT_STAT_LOST).loc, (F.TR_STAT_ARMED 0).loc, (F.TR_STAT_DONE 0).loc, (F.TR_STAT_FILL 0).loc, (F.TR_STAT_THIN 0).loc, (F.TR_STAT_TRIG 0).loc]) : (b.traceArm n).rd qq = b.rd qq := by
  simp at hq
  simp [Bay.traceArm, hq]

@[simp] theorem Bay.traceEnd_rd (b : Bay) (n : Nat) {qq : Key} (hq : qq.loc ∉ [(F.TR_STAT_ARMED 0).loc]) : (b.traceEnd n).rd qq = b.rd qq := by
  simp at hq
  simp [Bay.traceEnd, hq]

@[simp] theorem Bay.traceForce_rd (b : Bay) (n : Nat) {qq : Key} (hq : qq.loc ∉ [(F.EVT_STAT_LOST).loc, (F.TR_STAT_ARMED 0).loc, (F.TR_STAT_TRIG 0).loc]) : (b.traceForce n).rd qq = b.rd qq := by
  simp at hq
  simp [Bay.traceForce, hq]

@[simp] theorem Bay.traceCopied_rd (b : Bay) (n a len : Nat) {qq : Key} (hq : qq.loc ∉ [(F.TR_STAT_DONE 0).loc]) : (b.traceCopied n a len).rd qq = b.rd qq := by
  simp at hq
  simp [Bay.traceCopied, hq]

@[simp] theorem Bay.traceMiss_rd (b : Bay) (n obj : Nat) (k : MissKind) {qq : Key} : (b.traceMiss n obj k).rd qq = b.rd qq := by
  unfold Bay.traceMiss
  repeat' (first | done | simp  | split | intro _ | refine (Bay.each_rd (fun b n => ?_) _ _).trans ?_ | refine (Bay.onlyIf_rd (fun b => ?_) _ _).trans ?_ | refine (Bay.foldl_rd (fun b n => ?_) _ _).trans ?_)

@[simp] theorem Bay.undoChan_rd (b : Bay) (c : Nat) {qq : Key} (hq : qq.loc ∉ [(F.CHN_REG_STAT_EXTLIM 0).loc, (F.CHN_REG_STAT_LIM 0).loc, (F.LPC_XI 0).loc, (F.LPC_XV 0).loc]) : (b.undoChan c).rd qq = b.rd qq := by
  simp at hq
  unfold Bay.undoChan
  repeat' (first | done | simp [hq] | split | intro _ | refine (Bay.each_rd (fun b n => ?_) _ _).trans ?_ | refine (Bay.onlyIf_rd (fun b => ?_) _ _).trans ?_ | refine (Bay.foldl_rd (fun b n => ?_) _ _).trans ?_ | refine Bay.gated_rd _ _ (by simp [hq]) ?_)

@[simp] theorem Bay.undoCurrent_rd (b : Bay) (a : Nat) {qq : Key} (hq : qq.loc ∉ [(F.LPA_XD 0).loc, (F.LPA_XQ 0).loc]) : (b.undoCurrent a).rd qq = b.rd qq := by
  simp at hq
  unfold Bay.undoCurrent
  repeat' (first | done | simp [hq] | split | intro _ | refine (Bay.each_rd (fun b n => ?_) _ _).trans ?_ | refine (Bay.onlyIf_rd (fun b => ?_) _ _).trans ?_ | refine (Bay.foldl_rd (fun b n => ?_) _ _).trans ?_ | refine Bay.gated_rd _ _ (by simp [hq]) ?_)

@[simp] theorem Bay.undoSpeed_rd (b : Bay) (a : Nat) {qq : Key} (hq : qq.loc ∉ [(F.AXS_STAT_BRK_ON 0).loc, (F.AXS_STAT_REV_HELD 0).loc, (F.LPA_XS 0).loc]) : (b.undoSpeed a).rd qq = b.rd qq := by
  simp at hq
  unfold Bay.undoSpeed
  repeat' (first | done | simp [hq] | split | intro _ | refine (Bay.each_rd (fun b n => ?_) _ _).trans ?_ | refine (Bay.onlyIf_rd (fun b => ?_) _ _).trans ?_ | refine (Bay.foldl_rd (fun b n => ?_) _ _).trans ?_ | refine Bay.gated_rd _ _ (by simp [hq]) ?_)

@[simp] theorem Bay.undoPlace_rd (b : Bay) (a : Nat) {qq : Key} : (b.undoPlace a).rd qq = b.rd qq := by
  unfold Bay.undoPlace
  repeat' (first | done | simp  | split | intro _ | refine (Bay.each_rd (fun b n => ?_) _ _).trans ?_ | refine (Bay.onlyIf_rd (fun b => ?_) _ _).trans ?_ | refine (Bay.foldl_rd (fun b n => ?_) _ _).trans ?_)

@[simp] theorem Bay.undoLoop_rd (b : Bay) (obj : Nat) (k : MissKind) (t : Nat) {qq : Key} (hq : qq.loc ∉ [(F.AXS_STAT_BRK_ON 0).loc, (F.AXS_STAT_REV_HELD 0).loc, (F.CHN_REG_STAT_EXTLIM 0).loc, (F.CHN_REG_STAT_LIM 0).loc, (F.LPA_XD 0).loc, (F.LPA_XQ 0).loc, (F.LPA_XS 0).loc, (F.LPC_XI 0).loc, (F.LPC_XV 0).loc]) : (b.undoLoop obj k t).rd qq = b.rd qq := by
  simp at hq
  unfold Bay.undoLoop
  repeat' (first | done | simp [hq] | split | intro _ | refine (Bay.each_rd (fun b n => ?_) _ _).trans ?_ | refine (Bay.onlyIf_rd (fun b => ?_) _ _).trans ?_ | refine (Bay.foldl_rd (fun b n => ?_) _ _).trans ?_ | refine Bay.gated_rd _ _ (by simp [hq]) ?_)

@[simp] theorem Bay.countMisses_rd (b : Bay) (obj : Nat) (k : MissKind) (t : Nat) {qq : Key} (hq : qq.loc ∉ [(F.AXS_FLT_CAUSE 0).loc, (F.AXS_FLT_COUNT 0).loc, (F.AXS_FLT_SECOND 0).loc, (F.AXS_STAT_ASRC 0).loc, (F.AXS_STAT_BRK_ON 0).loc, (F.AXS_STAT_CLR_ARMED 0).loc, (F.AXS_STAT_FB_USED 0).loc, (F.AXS_STAT_REV_HELD 0).loc, (F.AXS_STAT_STATE 0).loc, (F.EVT_STAT_LOST).loc]) : (b.countMisses obj k t).rd qq = b.rd qq := by
  simp at hq
  unfold Bay.countMisses
  repeat' (first | done | simp [hq] | split | intro _ | refine (Bay.each_rd (fun b n => ?_) _ _).trans ?_ | refine (Bay.onlyIf_rd (fun b => ?_) _ _).trans ?_ | refine (Bay.foldl_rd (fun b n => ?_) _ _).trans ?_ | refine Bay.gated_rd _ _ (by simp [hq]) ?_)

@[simp] theorem Bay.missLoop_rd (b : Bay) (obj : Nat) (k : MissKind) {qq : Key} (hq : qq.loc ∉ [(F.AXS_FLT_CAUSE 0).loc, (F.AXS_FLT_COUNT 0).loc, (F.AXS_FLT_SECOND 0).loc, (F.AXS_STAT_ASRC 0).loc, (F.AXS_STAT_BRK_ON 0).loc, (F.AXS_STAT_CLR_ARMED 0).loc, (F.AXS_STAT_FB_USED 0).loc, (F.AXS_STAT_REV_HELD 0).loc, (F.AXS_STAT_STATE 0).loc, (F.CHN_REG_STAT_EXTLIM 0).loc, (F.CHN_REG_STAT_LIM 0).loc, (F.EVT_STAT_LOST).loc, (F.LOOP_DL_CNT).loc, (F.LOOP_DL_LAST_LANE).loc, (F.LOOP_DL_LAST_OBJ).loc, (F.LOOP_STAT_DL).loc, (F.LOOP_STAT_LANE_OK).loc, (F.LPA_XD 0).loc, (F.LPA_XQ 0).loc, (F.LPA_XS 0).loc, (F.LPC_XI 0).loc, (F.LPC_XV 0).loc]) : (b.missLoop obj k).rd qq = b.rd qq := by
  simp at hq
  unfold Bay.missLoop
  repeat' (first | done | simp [hq] | split | intro _ | refine (Bay.each_rd (fun b n => ?_) _ _).trans ?_ | refine (Bay.onlyIf_rd (fun b => ?_) _ _).trans ?_ | refine (Bay.foldl_rd (fun b n => ?_) _ _).trans ?_ | refine Bay.gated_rd _ _ (by simp [hq]) ?_)

@[simp] theorem Bay.peakLimit_rd (b : Bay) (c : Nat) {qq : Key} : (b.peakLimit c).rd qq = b.rd qq := by
  unfold Bay.peakLimit
  repeat' (first | done | simp  | split | intro _ | refine (Bay.each_rd (fun b n => ?_) _ _).trans ?_ | refine (Bay.onlyIf_rd (fun b => ?_) _ _).trans ?_ | refine (Bay.foldl_rd (fun b n => ?_) _ _).trans ?_)

@[simp] theorem Bay.rpathUpdate_rd (b : Bay) (c : Nat) (est : Int) {qq : Key} (hq : qq.loc ∉ [(F.CHN_FLT_CAUSE 0).loc, (F.CHN_FLT_COUNT 0).loc, (F.CHN_FLT_DETAIL 0).loc, (F.CHN_FLT_SECOND 0).loc, (F.CHN_REC_FILL 0).loc, (F.CHN_REC_STAT_DROPPED 0).loc, (F.CHN_REC_STAT_FULL 0).loc, (F.CHN_REC_STAT_WARN 0).loc, (F.CHN_RPATH 0).loc, (F.CHN_STG_STAT_CLR_ARMED 0).loc, (F.EVT_STAT_LOST).loc, (F.SEC_FRAM_STAT_BUSY 0).loc, (F.SEC_FRAM_STAT_LOST 0).loc, (F.SEC_FRAM_STAT_QUEUED 0).loc]) : (b.rpathUpdate c est).rd qq = b.rd qq := by
  simp at hq
  simp [Bay.rpathUpdate, hq]

@[simp] theorem Bay.rpathSample_rd (b : Bay) (c : Nat) (v node i : Int) {qq : Key} : (b.rpathSample c v node i).rd qq = b.rd qq := by
  unfold Bay.rpathSample
  repeat' (first | done | simp  | split | intro _ | refine (Bay.each_rd (fun b n => ?_) _ _).trans ?_ | refine (Bay.onlyIf_rd (fun b => ?_) _ _).trans ?_ | refine (Bay.foldl_rd (fun b n => ?_) _ _).trans ?_)

@[simp] theorem Bay.fewerPhases_rd (b : Bay) (c : Nat) {qq : Key} (hq : qq.loc ∉ [(F.CHN_FLT_CAUSE 0).loc, (F.CHN_FLT_COUNT 0).loc, (F.CHN_FLT_DETAIL 0).loc, (F.CHN_FLT_SECOND 0).loc, (F.CHN_ILIM 0).loc, (F.CHN_NODE_REF 0).loc, (F.CHN_REC_FILL 0).loc, (F.CHN_REC_STAT_DROPPED 0).loc, (F.CHN_REC_STAT_FULL 0).loc, (F.CHN_REC_STAT_WARN 0).loc, (F.CHN_REG_STAT_BORDER_OK 0).loc, (F.CHN_STG_STAT_CLR_ARMED 0).loc, (F.CHN_STG_STAT_CSW 0).loc, (F.CHN_STG_STAT_LIM 0).loc, (F.CHN_STG_STAT_PH_ACT 0).loc, (F.CHN_STG_STAT_SHED 0).loc, (F.CHN_STG_STAT_STAGE 0).loc, (F.EISCH_STAT_END 0).loc, (F.EISCH_STAT_PFLAGS 0).loc, (F.EISCH_STAT_RUN 0).loc, (F.EISCH_STAT_SETTLE 0).loc, (F.EIS_STAT_SWEEPING).loc, (F.EVT_STAT_LOST).loc, (F.SEC_FRAM_STAT_BUSY 0).loc, (F.SEC_FRAM_STAT_LOST 0).loc, (F.SEC_FRAM_STAT_QUEUED 0).loc]) : (b.fewerPhases c).rd qq = b.rd qq := by
  simp at hq
  unfold Bay.fewerPhases
  repeat' (first | done | simp [hq] | split | intro _ | refine (Bay.each_rd (fun b n => ?_) _ _).trans ?_ | refine (Bay.onlyIf_rd (fun b => ?_) _ _).trans ?_ | refine (Bay.foldl_rd (fun b n => ?_) _ _).trans ?_ | refine Bay.gated_rd _ _ (by simp [hq]) ?_)

@[simp] theorem Bay.phaseOut_rd (b : Bay) (c p cause : Nat) {qq : Key} (hq : qq.loc ∉ [(F.CHN_FLT_CAUSE 0).loc, (F.CHN_FLT_COUNT 0).loc, (F.CHN_FLT_DETAIL 0).loc, (F.CHN_FLT_SECOND 0).loc, (F.CHN_ILIM 0).loc, (F.CHN_NODE_REF 0).loc, (F.CHN_REC_FILL 0).loc, (F.CHN_REC_STAT_DROPPED 0).loc, (F.CHN_REC_STAT_FULL 0).loc, (F.CHN_REC_STAT_WARN 0).loc, (F.CHN_REG_STAT_BORDER_OK 0).loc, (F.CHN_STG_STAT_CLR_ARMED 0).loc, (F.CHN_STG_STAT_CSW 0).loc, (F.CHN_STG_STAT_LIM 0).loc, (F.CHN_STG_STAT_PH_ACT 0).loc, (F.CHN_STG_STAT_PH_OK 0).loc, (F.CHN_STG_STAT_SHED 0).loc, (F.CHN_STG_STAT_STAGE 0).loc, (F.CHN_TRIM_P0 0).loc, (F.CHN_TRIM_P1 0).loc, (F.CHN_TRIM_P2 0).loc, (F.CHN_TRIM_P3 0).loc, (F.EISCH_STAT_END 0).loc, (F.EISCH_STAT_PFLAGS 0).loc, (F.EISCH_STAT_RUN 0).loc, (F.EISCH_STAT_SETTLE 0).loc, (F.EIS_STAT_SWEEPING).loc, (F.EVT_STAT_LOST).loc, (F.SEC_FRAM_STAT_BUSY 0).loc, (F.SEC_FRAM_STAT_LOST 0).loc, (F.SEC_FRAM_STAT_QUEUED 0).loc]) : (b.phaseOut c p cause).rd qq = b.rd qq := by
  simp at hq
  unfold Bay.phaseOut
  repeat' (first | done | simp [hq] | split | intro _ | refine (Bay.each_rd (fun b n => ?_) _ _).trans ?_ | refine (Bay.onlyIf_rd (fun b => ?_) _ _).trans ?_ | refine (Bay.foldl_rd (fun b n => ?_) _ _).trans ?_ | refine Bay.gated_rd _ _ (by simp [hq]) ?_)

@[simp] theorem Bay.phaseEnable_rd (b : Bay) (c : Nat) {qq : Key} (hq : qq.loc ∉ [(F.CHN_FLT_CAUSE 0).loc, (F.CHN_FLT_COUNT 0).loc, (F.CHN_FLT_DETAIL 0).loc, (F.CHN_FLT_SECOND 0).loc, (F.CHN_ILIM 0).loc, (F.CHN_NODE_REF 0).loc, (F.CHN_REC_FILL 0).loc, (F.CHN_REC_STAT_DROPPED 0).loc, (F.CHN_REC_STAT_FULL 0).loc, (F.CHN_REC_STAT_WARN 0).loc, (F.CHN_REG_STAT_BORDER_OK 0).loc, (F.CHN_STG_STAT_CLR_ARMED 0).loc, (F.CHN_STG_STAT_CSW 0).loc, (F.CHN_STG_STAT_LIM 0).loc, (F.CHN_STG_STAT_PH_ACT 0).loc, (F.CHN_STG_STAT_SHED 0).loc, (F.CHN_STG_STAT_STAGE 0).loc, (F.CHN_TRIM_P0 0).loc, (F.CHN_TRIM_P1 0).loc, (F.CHN_TRIM_P2 0).loc, (F.CHN_TRIM_P3 0).loc, (F.EISCH_STAT_END 0).loc, (F.EISCH_STAT_PFLAGS 0).loc, (F.EISCH_STAT_RUN 0).loc, (F.EISCH_STAT_SETTLE 0).loc, (F.EIS_STAT_SWEEPING).loc, (F.EVT_STAT_LOST).loc, (F.SEC_FRAM_STAT_BUSY 0).loc, (F.SEC_FRAM_STAT_LOST 0).loc, (F.SEC_FRAM_STAT_QUEUED 0).loc]) : (b.phaseEnable c).rd qq = b.rd qq := by
  simp at hq
  unfold Bay.phaseEnable
  repeat' (first | done | simp [hq] | split | intro _ | refine (Bay.each_rd (fun b n => ?_) _ _).trans ?_ | refine (Bay.onlyIf_rd (fun b => ?_) _ _).trans ?_ | refine (Bay.foldl_rd (fun b n => ?_) _ _).trans ?_ | refine Bay.gated_rd _ _ (by simp [hq]) ?_)

@[simp] theorem Bay.prebiasStart_rd (b : Bay) (c : Nat) {qq : Key} (hq : qq.loc ∉ [(F.CHN_STG_STAT_PH_ACT 0).loc, (F.CHN_STG_STAT_STAGE 0).loc]) : (b.prebiasStart c).rd qq = b.rd qq := by
  simp at hq
  unfold Bay.prebiasStart
  repeat' (first | done | simp [hq] | split | intro _ | refine (Bay.each_rd (fun b n => ?_) _ _).trans ?_ | refine (Bay.onlyIf_rd (fun b => ?_) _ _).trans ?_ | refine (Bay.foldl_rd (fun b n => ?_) _ _).trans ?_ | refine Bay.gated_rd _ _ (by simp [hq]) ?_)

@[simp] theorem Bay.cellStart_rd (b : Bay) (c : Nat) {qq : Key} (hq : qq.loc ∉ [(F.CHN_REC_FILL 0).loc, (F.CHN_REC_STAT_DROPPED 0).loc, (F.CHN_REC_STAT_FULL 0).loc, (F.CHN_REC_STAT_WARN 0).loc, (F.CHN_REG_STAT_CELL 0).loc, (F.EVT_STAT_LOST).loc]) : (b.cellStart c).rd qq = b.rd qq := by
  simp at hq
  simp [Bay.cellStart, hq]

@[simp] theorem Bay.ovLatch_rd (b : Bay) (c : Nat) {qq : Key} (hq : qq.loc ∉ [(F.CHN_FLT_CAUSE 0).loc, (F.CHN_FLT_COUNT 0).loc, (F.CHN_FLT_DETAIL 0).loc, (F.CHN_FLT_SECOND 0).loc, (F.CHN_REC_FILL 0).loc, (F.CHN_REC_STAT_DROPPED 0).loc, (F.CHN_REC_STAT_FULL 0).loc, (F.CHN_REC_STAT_WARN 0).loc, (F.CHN_REG_STAT_BORDER_OK 0).loc, (F.CHN_STG_STAT_CLR_ARMED 0).loc, (F.CHN_STG_STAT_CSW 0).loc, (F.CHN_STG_STAT_PH_ACT 0).loc, (F.CHN_STG_STAT_SHED 0).loc, (F.CHN_STG_STAT_STAGE 0).loc, (F.EVT_STAT_LOST).loc, (F.SEC_FRAM_STAT_BUSY 0).loc, (F.SEC_FRAM_STAT_LOST 0).loc, (F.SEC_FRAM_STAT_QUEUED 0).loc]) : (b.ovLatch c).rd qq = b.rd qq := by
  simp at hq
  simp [Bay.ovLatch, hq]

@[simp] theorem Bay.fltRead_rd (b : Bay) (c : Nat) {qq : Key} (hq : qq.loc ∉ [(F.CHN_STG_STAT_CLR_ARMED 0).loc]) : (b.fltRead c).rd qq = b.rd qq := by
  simp at hq
  simp [Bay.fltRead, hq]

@[simp] theorem Bay.stageAfterClear_rd (b : Bay) (c : Nat) {qq : Key} (hq : qq.loc ∉ [(F.CHN_STG_STAT_STAGE 0).loc]) : (b.stageAfterClear c).rd qq = b.rd qq := by
  simp at hq
  simp [Bay.stageAfterClear, hq]

@[simp] theorem Bay.stgClear_rd (b : Bay) (c m : Nat) {qq : Key} (hq : qq.loc ∉ [(F.CHN_FLT_CAUSE 0).loc, (F.CHN_FLT_COUNT 0).loc, (F.CHN_FLT_DETAIL 0).loc, (F.CHN_FLT_SECOND 0).loc, (F.CHN_REC_FILL 0).loc, (F.CHN_REC_STAT_DROPPED 0).loc, (F.CHN_REC_STAT_FULL 0).loc, (F.CHN_REC_STAT_WARN 0).loc, (F.CHN_REG_STAT_BORDER_OK 0).loc, (F.CHN_STG_STAT_CLR_ARMED 0).loc, (F.CHN_STG_STAT_CSW 0).loc, (F.CHN_STG_STAT_PH_ACT 0).loc, (F.CHN_STG_STAT_PH_OK 0).loc, (F.CHN_STG_STAT_SHED 0).loc, (F.CHN_STG_STAT_STAGE 0).loc, (F.EVT_STAT_LOST).loc, (F.SEC_FRAM_STAT_BUSY 0).loc, (F.SEC_FRAM_STAT_LOST 0).loc, (F.SEC_FRAM_STAT_QUEUED 0).loc]) : (b.stgClear c m).rd qq = b.rd qq := by
  simp at hq
  simp [Bay.stgClear, hq]

@[simp] theorem Bay.linkErr_rd (b : Bay) (d : Nat) {qq : Key} (hq : qq.loc ∉ [(F.SEC_LINK_ERR 0).loc]) : (b.linkErr d).rd qq = b.rd qq := by
  simp at hq
  simp [Bay.linkErr, hq]

@[simp] theorem Bay.strokeWord_rd (b : Bay) (d w : Nat) {qq : Key} (hq : qq.loc ∉ [(F.SEC_LINK_ERR 0).loc]) : (b.strokeWord d w).rd qq = b.rd qq := by
  simp at hq
  simp [Bay.strokeWord, hq]

@[simp] theorem Bay.strokeLost_rd (b : Bay) (c : Nat) {qq : Key} (hq : qq.loc ∉ [(F.CHN_FLT_CAUSE 0).loc, (F.CHN_FLT_COUNT 0).loc, (F.CHN_FLT_DETAIL 0).loc, (F.CHN_FLT_SECOND 0).loc, (F.CHN_REC_FILL 0).loc, (F.CHN_REC_STAT_DROPPED 0).loc, (F.CHN_REC_STAT_FULL 0).loc, (F.CHN_REC_STAT_WARN 0).loc, (F.CHN_REG_STAT_BORDER_OK 0).loc, (F.CHN_STG_STAT_CLR_ARMED 0).loc, (F.CHN_STG_STAT_CSW 0).loc, (F.CHN_STG_STAT_PH_ACT 0).loc, (F.CHN_STG_STAT_SHED 0).loc, (F.CHN_STG_STAT_STAGE 0).loc, (F.EISCH_STAT_END 0).loc, (F.EISCH_STAT_PFLAGS 0).loc, (F.EISCH_STAT_RUN 0).loc, (F.EISCH_STAT_SETTLE 0).loc, (F.EIS_STAT_SWEEPING).loc, (F.EVT_STAT_LOST).loc, (F.SEC_FRAM_STAT_BUSY 0).loc, (F.SEC_FRAM_STAT_LOST 0).loc, (F.SEC_FRAM_STAT_QUEUED 0).loc, (F.SEC_LINK_UP_MASK 0).loc]) : (b.strokeLost c).rd qq = b.rd qq := by
  simp at hq
  simp [Bay.strokeLost, hq]

@[simp] theorem Bay.axisLinkLost_rd (b : Bay) (d : Nat) {qq : Key} : (b.axisLinkLost d).rd qq = b.rd qq := by
  unfold Bay.axisLinkLost
  repeat' (first | done | simp  | split | intro _ | refine (Bay.each_rd (fun b n => ?_) _ _).trans ?_ | refine (Bay.onlyIf_rd (fun b => ?_) _ _).trans ?_ | refine (Bay.foldl_rd (fun b n => ?_) _ _).trans ?_)

@[simp] theorem Bay.safeOffChan_rd (b : Bay) (c : Nat) {qq : Key} (hq : qq.loc ∉ [(F.CHN_FLT_CAUSE 0).loc, (F.CHN_FLT_COUNT 0).loc, (F.CHN_FLT_DETAIL 0).loc, (F.CHN_FLT_SECOND 0).loc, (F.CHN_REC_FILL 0).loc, (F.CHN_REC_STAT_DROPPED 0).loc, (F.CHN_REC_STAT_FULL 0).loc, (F.CHN_REC_STAT_WARN 0).loc, (F.CHN_REG_STAT_BORDER_OK 0).loc, (F.CHN_REG_STAT_CLR_ARMED 0).loc, (F.CHN_REG_STAT_HOLD_CAUSE 0).loc, (F.CHN_REG_STAT_MODE 0).loc, (F.CHN_REG_STAT_WATCH 0).loc, (F.CHN_STG_STAT_CLR_ARMED 0).loc, (F.CHN_STG_STAT_CSW 0).loc, (F.CHN_STG_STAT_PH_ACT 0).loc, (F.CHN_STG_STAT_SHED 0).loc, (F.CHN_STG_STAT_STAGE 0).loc, (F.EISCH_STAT_END 0).loc, (F.EISCH_STAT_PFLAGS 0).loc, (F.EISCH_STAT_RUN 0).loc, (F.EISCH_STAT_SETTLE 0).loc, (F.EIS_STAT_SWEEPING).loc, (F.EVT_STAT_LOST).loc, (F.SEC_FRAM_STAT_BUSY 0).loc, (F.SEC_FRAM_STAT_LOST 0).loc, (F.SEC_FRAM_STAT_QUEUED 0).loc]) : (b.safeOffChan c).rd qq = b.rd qq := by
  simp at hq
  simp [Bay.safeOffChan, hq]

@[simp] theorem Bay.safeOffDrop_rd (b : Bay) (n : Nat) {qq : Key} (hq : qq.loc ∉ [(F.CHN_FLT_CAUSE 0).loc, (F.CHN_FLT_COUNT 0).loc, (F.CHN_FLT_DETAIL 0).loc, (F.CHN_FLT_SECOND 0).loc, (F.CHN_REC_FILL 0).loc, (F.CHN_REC_STAT_DROPPED 0).loc, (F.CHN_REC_STAT_FULL 0).loc, (F.CHN_REC_STAT_WARN 0).loc, (F.CHN_REG_STAT_BORDER_OK 0).loc, (F.CHN_REG_STAT_CLR_ARMED 0).loc, (F.CHN_REG_STAT_HOLD_CAUSE 0).loc, (F.CHN_REG_STAT_MODE 0).loc, (F.CHN_REG_STAT_WATCH 0).loc, (F.CHN_STG_STAT_CLR_ARMED 0).loc, (F.CHN_STG_STAT_CSW 0).loc, (F.CHN_STG_STAT_PH_ACT 0).loc, (F.CHN_STG_STAT_SHED 0).loc, (F.CHN_STG_STAT_STAGE 0).loc, (F.EISCH_STAT_END 0).loc, (F.EISCH_STAT_PFLAGS 0).loc, (F.EISCH_STAT_RUN 0).loc, (F.EISCH_STAT_SETTLE 0).loc, (F.EIS_STAT_SWEEPING).loc, (F.EVT_STAT_LOST).loc, (F.SEC_FRAM_STAT_BUSY 0).loc, (F.SEC_FRAM_STAT_LOST 0).loc, (F.SEC_FRAM_STAT_QUEUED 0).loc]) : (b.safeOffDrop n).rd qq = b.rd qq := by
  simp at hq
  simp [Bay.safeOffDrop, hq]

@[simp] theorem Bay.safeOffRelease_rd (b : Bay) (n : Nat) {qq : Key} (hq : qq.loc ∉ [(F.CHN_REC_FILL 0).loc, (F.CHN_REC_STAT_DROPPED 0).loc, (F.CHN_REC_STAT_FULL 0).loc, (F.CHN_REC_STAT_WARN 0).loc, (F.CHN_REG_STAT_CLR_ARMED 0).loc, (F.CHN_REG_STAT_HOLD_CAUSE 0).loc, (F.CHN_REG_STAT_MODE 0).loc, (F.CHN_REG_STAT_WATCH 0).loc, (F.CHN_STG_STAT_STAGE 0).loc, (F.EISCH_STAT_END 0).loc, (F.EISCH_STAT_PFLAGS 0).loc, (F.EISCH_STAT_RUN 0).loc, (F.EISCH_STAT_SETTLE 0).loc, (F.EIS_STAT_SWEEPING).loc, (F.EVT_STAT_LOST).loc]) : (b.safeOffRelease n).rd qq = b.rd qq := by
  simp at hq
  simp [Bay.safeOffRelease, hq]

@[simp] theorem Bay.framWrite_rd (b : Bay) (n : Nat) {qq : Key} (hq : qq.loc ∉ [(F.SEC_FRAM_SEQ 0).loc, (F.SEC_FRAM_STAT_BUSY 0).loc, (F.SEC_FRAM_STAT_NEXT 0).loc, (F.SEC_FRAM_STAT_QUEUED 0).loc]) : (b.framWrite n).rd qq = b.rd qq := by
  simp at hq
  simp only [Bay.framWrite]
  repeat' (first | done | split)
  all_goals simp [hq]

@[simp] theorem Bay.balance_rd (b : Bay) (c : Nat) (dt : Rat) {qq : Key} (hq : qq.loc ∉ [(F.CHN_TRIM_P0 0).loc, (F.CHN_TRIM_P1 0).loc, (F.CHN_TRIM_P2 0).loc, (F.CHN_TRIM_P3 0).loc]) : (b.balance c dt).rd qq = b.rd qq := by
  simp at hq
  simp [Bay.balance, hq]

@[simp] theorem Bay.startEdge_rd (b : Bay) (a : Nat) {qq : Key} (hq : qq.loc ∉ [(F.AXS_FLT_CAUSE 0).loc, (F.AXS_FLT_SECOND 0).loc, (F.AXS_STAT_STATE 0).loc, (F.EVT_STAT_LOST).loc]) : (b.startEdge a).rd qq = b.rd qq := by
  simp at hq
  simp [Bay.startEdge, hq]

@[simp] theorem Bay.stopDone_rd (b : Bay) (a : Nat) {qq : Key} (hq : qq.loc ∉ [(F.AXS_STAT_ASRC 0).loc, (F.AXS_STAT_BRK_ON 0).loc, (F.AXS_STAT_STATE 0).loc]) : (b.stopDone a).rd qq = b.rd qq := by
  simp at hq
  simp only [Bay.stopDone]
  repeat' (first | done | split)
  all_goals simp [hq]

@[simp] theorem Bay.axsFltRead_rd (b : Bay) (a : Nat) {qq : Key} (hq : qq.loc ∉ [(F.AXS_STAT_CLR_ARMED 0).loc]) : (b.axsFltRead a).rd qq = b.rd qq := by
  simp at hq
  simp [Bay.axsFltRead, hq]

@[simp] theorem Bay.axsFltClr_rd (b : Bay) (a : Nat) {qq : Key} (hq : qq.loc ∉ [(F.AXS_FLT_CAUSE 0).loc, (F.AXS_FLT_SECOND 0).loc, (F.AXS_STAT_CLR_ARMED 0).loc, (F.AXS_STAT_STATE 0).loc, (F.EVT_STAT_LOST).loc, (F.POS_FLT_CODE 0).loc, (F.POS_FLT_DETAIL 0).loc]) : (b.axsFltClr a).rd qq = b.rd qq := by
  simp at hq
  simp [Bay.axsFltClr, hq]

@[simp] theorem Bay.pressEnter_rd (b : Bay) (a : Nat) {qq : Key} (hq : qq.loc ∉ [(F.AXS_STAT_PRS 0).loc]) : (b.pressEnter a).rd qq = b.rd qq := by
  simp at hq
  simp only [Bay.pressEnter]
  repeat' (first | done | split)
  all_goals simp [hq]

@[simp] theorem Bay.enterRun_rd (b : Bay) (a : Nat) {qq : Key} (hq : qq.loc ∉ [(F.AXS_STAT_BRK_ON 0).loc, (F.AXS_STAT_PRS 0).loc, (F.AXS_STAT_STATE 0).loc]) : (b.enterRun a).rd qq = b.rd qq := by
  simp at hq
  simp [Bay.enterRun, hq]

@[simp] theorem Bay.desat_rd (b : Bay) (a : Nat) {qq : Key} (hq : qq.loc ∉ [(F.AXS_FLT_CAUSE 0).loc, (F.AXS_FLT_COUNT 0).loc, (F.AXS_FLT_SECOND 0).loc, (F.AXS_STAT_ASRC 0).loc, (F.AXS_STAT_BRK_ON 0).loc, (F.AXS_STAT_CLR_ARMED 0).loc, (F.AXS_STAT_FB_USED 0).loc, (F.AXS_STAT_REV_HELD 0).loc, (F.AXS_STAT_STATE 0).loc, (F.EVT_STAT_LOST).loc]) : (b.desat a).rd qq = b.rd qq := by
  simp at hq
  simp [Bay.desat, hq]

@[simp] theorem Bay.fastOver_rd (b : Bay) (a : Nat) {qq : Key} (hq : qq.loc ∉ [(F.AXS_FLT_CAUSE 0).loc, (F.AXS_FLT_COUNT 0).loc, (F.AXS_FLT_SECOND 0).loc, (F.AXS_STAT_ASRC 0).loc, (F.AXS_STAT_BRK_ON 0).loc, (F.AXS_STAT_CLR_ARMED 0).loc, (F.AXS_STAT_FB_USED 0).loc, (F.AXS_STAT_REV_HELD 0).loc, (F.AXS_STAT_STATE 0).loc, (F.EVT_STAT_LOST).loc]) : (b.fastOver a).rd qq = b.rd qq := by
  simp at hq
  simp [Bay.fastOver, hq]

@[simp] theorem Bay.shortAxis_rd (b : Bay) (a : Nat) {qq : Key} (hq : qq.loc ∉ [(F.AXS_FLT_CAUSE 0).loc, (F.AXS_FLT_COUNT 0).loc, (F.AXS_FLT_SECOND 0).loc, (F.AXS_STAT_ASRC 0).loc, (F.AXS_STAT_BRK_ON 0).loc, (F.AXS_STAT_CLR_ARMED 0).loc, (F.AXS_STAT_FB_USED 0).loc, (F.AXS_STAT_REV_HELD 0).loc, (F.AXS_STAT_STATE 0).loc, (F.EVT_STAT_LOST).loc]) : (b.shortAxis a).rd qq = b.rd qq := by
  simp at hq
  unfold Bay.shortAxis
  repeat' (first | done | simp [hq] | split | intro _ | refine (Bay.each_rd (fun b n => ?_) _ _).trans ?_ | refine (Bay.onlyIf_rd (fun b => ?_) _ _).trans ?_ | refine (Bay.foldl_rd (fun b n => ?_) _ _).trans ?_ | refine Bay.gated_rd _ _ (by simp [hq]) ?_)

@[simp] theorem Bay.storeRegs_rd (b : Bay) {qq : Key} (hq : qq.loc ∉ [(F.SKN_LOAD_STAT_COUNT).loc, (F.SKN_TBL_FREE).loc]) : (b.storeRegs).rd qq = b.rd qq := by
  simp at hq
  simp [Bay.storeRegs, hq]

@[simp] theorem Bay.dropImage_rd (b : Bay) (id : Int) {qq : Key} (hq : qq.loc ∉ [(F.IMG_ID 0).loc, (F.IMG_SIZE 0).loc, (F.IMG_STAT_AUTH 0).loc, (F.IMG_STAT_STORED 0).loc, (F.IMG_VER 0).loc, (F.SKN_LOAD_STAT_COUNT).loc, (F.SKN_TBL_FREE).loc]) : (b.dropImage id).rd qq = b.rd qq := by
  simp at hq
  simp only [Bay.dropImage]
  repeat' (first | done | split)
  all_goals simp [hq]

@[simp] theorem Bay.keepVersion_rd (b : Bay) (id ver : Int) {qq : Key} : (b.keepVersion id ver).rd qq = b.rd qq := by
  simp [Bay.keepVersion]

@[simp] theorem Bay.storeImage_rd (b : Bay) (m : Image) {qq : Key} (hq : qq.loc ∉ [(F.IMG_ID 0).loc, (F.IMG_SIZE 0).loc, (F.IMG_STAT_AUTH 0).loc, (F.IMG_STAT_STORED 0).loc, (F.IMG_VER 0).loc, (F.SKN_LOAD_STAT_COUNT).loc, (F.SKN_TBL_FREE).loc]) : (b.storeImage m).rd qq = b.rd qq := by
  simp at hq
  simp only [Bay.storeImage]
  repeat' (first | done | split)
  all_goals simp [hq]

@[simp] theorem Bay.pendSafety_rd (b : Bay) (m : Image) (digest : List Byte) {qq : Key} (hq : qq.loc ∉ [(F.EVT_STAT_LOST).loc, (F.SAFE_PEND_CRC).loc, (F.SAFE_PEND_ID).loc, (F.SAFE_STAT_PEND_OK).loc]) : (b.pendSafety m digest).rd qq = b.rd qq := by
  simp at hq
  simp only [Bay.pendSafety]
  repeat' (first | done | split)
  all_goals simp [hq]

@[simp] theorem Bay.loadResult_rd (b : Bay) (k : Key) (r : Nat) (id : Int) {qq : Key} (hq : qq.loc ∉ [(F.EVT_STAT_LOST).loc, (F.SKN_LOAD_STAT_RESULT).loc]) : (b.loadResult k r id).rd qq = b.rd qq := by
  simp at hq
  simp [Bay.loadResult, hq]

@[simp] theorem Bay.loadGo_rd (b : Bay) {qq : Key} (hq : qq.loc ∉ [(F.EVT_STAT_LOST).loc, (F.SKN_LOAD_STAT_BUSY).loc]) : (b.loadGo).rd qq = b.rd qq := by
  simp at hq
  simp [Bay.loadGo, hq]

@[simp] theorem Bay.deleteImage_rd (b : Bay) {qq : Key} (hq : qq.loc ∉ [(F.EVT_STAT_LOST).loc, (F.IMG_ID 0).loc, (F.IMG_SIZE 0).loc, (F.IMG_STAT_AUTH 0).loc, (F.IMG_STAT_STORED 0).loc, (F.IMG_VER 0).loc, (F.SKN_LOAD_STAT_COUNT).loc, (F.SKN_LOAD_STAT_RESULT).loc, (F.SKN_TBL_FREE).loc]) : (b.deleteImage).rd qq = b.rd qq := by
  simp at hq
  simp [Bay.deleteImage, hq]

@[simp] theorem Bay.dropRevoked_rd (b : Bay) {qq : Key} (hq : qq.loc ∉ [(F.IMG_ID 0).loc, (F.IMG_SIZE 0).loc, (F.IMG_STAT_AUTH 0).loc, (F.IMG_STAT_STORED 0).loc, (F.IMG_VER 0).loc, (F.SKN_LOAD_STAT_COUNT).loc, (F.SKN_TBL_FREE).loc]) : (b.dropRevoked).rd qq = b.rd qq := by
  simp at hq
  simp [Bay.dropRevoked, hq]

@[simp] theorem Bay.setRole_rd (b : Bay) (x : Nat) (r : Int) {qq : Key} (hq : qq.loc ∉ [(F.RED_STAT_ROLE_CA).loc, (F.RED_STAT_ROLE_CB).loc]) : (b.setRole x r).rd qq = b.rd qq := by
  simp at hq
  simp [Bay.setRole, hq]

@[simp] theorem Bay.setRed_rd (b : Bay) (r : Red) {qq : Key} : (b.setRed r).rd qq = b.rd qq := by
  simp [Bay.setRed]

@[simp] theorem Bay.redRecord_rd (b : Bay) (cause side detail : Int) {qq : Key} (hq : qq.loc ∉ [(F.RED_FLT_CAUSE).loc, (F.RED_FLT_COUNT).loc, (F.RED_FLT_DETAIL).loc, (F.RED_FLT_SIDE).loc]) : (b.redRecord cause side detail).rd qq = b.rd qq := by
  simp at hq
  simp [Bay.redRecord, hq]

@[simp] theorem Bay.endGroup_rd (b : Bay) (cause side : Int) {qq : Key} (hq : qq.loc ∉ [(F.BAY_STAT_CLR_ARMED).loc, (F.BAY_STOP_CAUSE_FIRST).loc, (F.BAY_STOP_CAUSE_MASK).loc, (F.RED_FLT_CAUSE).loc, (F.RED_FLT_COUNT).loc, (F.RED_FLT_DETAIL).loc, (F.RED_FLT_SIDE).loc]) : (b.endGroup cause side).rd qq = b.rd qq := by
  simp at hq
  simp [Bay.endGroup, hq]

@[simp] theorem Bay.closeWin_rd (b : Bay) (k : Nat) {qq : Key} : (b.closeWin k).rd qq = b.rd qq := by
  simp [Bay.closeWin]

@[simp] theorem Bay.openWin_rd (b : Bay) (k side : Nat) {qq : Key} : (b.openWin k side).rd qq = b.rd qq := by
  simp [Bay.openWin]

@[simp] theorem Bay.pairFault_rd (b : Bay) (side : Nat) {qq : Key} (hq : qq.loc ∉ [(F.BAY_STAT_CLR_ARMED).loc, (F.BAY_STOP_CAUSE_FIRST).loc, (F.BAY_STOP_CAUSE_MASK).loc, (F.RED_FLT_CAUSE).loc, (F.RED_FLT_COUNT).loc, (F.RED_FLT_DETAIL).loc, (F.RED_FLT_SIDE).loc]) : (b.pairFault side).rd qq = b.rd qq := by
  simp at hq
  simp [Bay.pairFault, hq]

@[simp] theorem Bay.stopJoin_rd (b : Bay) (cause x step : Nat) {qq : Key} (hq : qq.loc ∉ [(F.EVT_STAT_LOST).loc, (F.RED_FLT_CAUSE).loc, (F.RED_FLT_COUNT).loc, (F.RED_FLT_DETAIL).loc, (F.RED_FLT_SIDE).loc, (F.RED_STAT_SYNC).loc]) : (b.stopJoin cause x step).rd qq = b.rd qq := by
  simp at hq
  simp [Bay.stopJoin, hq]

@[simp] theorem Bay.uncleanLockstep_rd (b : Bay) {qq : Key} (hq : qq.loc ∉ [(F.RED_CLEAN).loc]) : (b.uncleanLockstep).rd qq = b.rd qq := by
  simp at hq
  simp [Bay.uncleanLockstep, hq]

@[simp] theorem Bay.selfFault_rd (b : Bay) (x cause : Nat) (detail : Nat := 0) {qq : Key} (hq : qq.loc ∉ [(F.BAY_STAT_CLR_ARMED).loc, (F.BAY_STOP_CAUSE_FIRST).loc, (F.BAY_STOP_CAUSE_MASK).loc, (F.EVT_STAT_LOST).loc, (F.RED_FLT_CAUSE).loc, (F.RED_FLT_COUNT).loc, (F.RED_FLT_DETAIL).loc, (F.RED_FLT_SIDE).loc, (F.RED_STAT_ROLE_CA).loc, (F.RED_STAT_ROLE_CB).loc, (F.RED_STAT_SYNC).loc]) : (b.selfFault x cause detail).rd qq = b.rd qq := by
  simp at hq
  unfold Bay.selfFault
  repeat' (first | done | simp [hq] | split | intro _ | refine (Bay.each_rd (fun b n => ?_) _ _).trans ?_ | refine (Bay.onlyIf_rd (fun b => ?_) _ _).trans ?_ | refine (Bay.foldl_rd (fun b n => ?_) _ _).trans ?_ | refine Bay.gated_rd _ _ (by simp [hq]) ?_)

@[simp] theorem Bay.goSilent_rd (b : Bay) (x : Nat) {qq : Key} (hq : qq.loc ∉ [(F.BAY_STAT_CLR_ARMED).loc, (F.BAY_STOP_CAUSE_FIRST).loc, (F.BAY_STOP_CAUSE_MASK).loc, (F.EVT_STAT_LOST).loc, (F.RED_FLT_CAUSE).loc, (F.RED_FLT_COUNT).loc, (F.RED_FLT_DETAIL).loc, (F.RED_FLT_SIDE).loc, (F.RED_STAT_ROLE_CA).loc, (F.RED_STAT_ROLE_CB).loc, (F.RED_STAT_SYNC).loc]) : (b.goSilent x).rd qq = b.rd qq := by
  simp at hq
  simp [Bay.goSilent, hq]

@[simp] theorem Bay.joinStart_rd (b : Bay) (x : Nat) {qq : Key} (hq : qq.loc ∉ [(F.RED_CLEAN).loc, (F.RED_STAT_ROLE_CA).loc, (F.RED_STAT_ROLE_CB).loc, (F.RED_STAT_SYNC).loc]) : (b.joinStart x).rd qq = b.rd qq := by
  simp at hq
  simp [Bay.joinStart, hq]

@[simp] theorem Bay.joinStep4_rd (b : Bay) {qq : Key} (hq : qq.loc ∉ [(F.RED_CLEAN).loc, (F.RED_STAT_SYNC).loc]) : (b.joinStep4).rd qq = b.rd qq := by
  simp at hq
  simp [Bay.joinStep4, hq]

@[simp] theorem Bay.unattributed_rd (b : Bay) (cause detail : Nat) {qq : Key} (hq : qq.loc ∉ [(F.BAY_STAT_CLR_ARMED).loc, (F.BAY_STOP_CAUSE_FIRST).loc, (F.BAY_STOP_CAUSE_MASK).loc, (F.RED_CLEAN).loc, (F.RED_DIV_HOUR).loc, (F.RED_FLT_CAUSE).loc, (F.RED_FLT_COUNT).loc, (F.RED_FLT_DETAIL).loc, (F.RED_FLT_SIDE).loc, (F.RED_STAT_SYNC).loc]) : (b.unattributed cause detail).rd qq = b.rd qq := by
  simp at hq
  unfold Bay.unattributed
  repeat' (first | done | simp [hq] | split | intro _ | refine (Bay.each_rd (fun b n => ?_) _ _).trans ?_ | refine (Bay.onlyIf_rd (fun b => ?_) _ _).trans ?_ | refine (Bay.foldl_rd (fun b n => ?_) _ _).trans ?_ | refine Bay.gated_rd _ _ (by simp [hq]) ?_)

@[simp] theorem Bay.diverge_rd (b : Bay) (blame : Option Nat) (cause detail : Nat) {qq : Key} (hq : qq.loc ∉ [(F.BAY_STAT_CLR_ARMED).loc, (F.BAY_STOP_CAUSE_FIRST).loc, (F.BAY_STOP_CAUSE_MASK).loc, (F.EVT_STAT_LOST).loc, (F.RED_CLEAN).loc, (F.RED_DIV_CNT).loc, (F.RED_DIV_HOUR).loc, (F.RED_FLT_CAUSE).loc, (F.RED_FLT_COUNT).loc, (F.RED_FLT_DETAIL).loc, (F.RED_FLT_SIDE).loc, (F.RED_STAT_ROLE_CA).loc, (F.RED_STAT_ROLE_CB).loc, (F.RED_STAT_SYNC).loc]) : (b.diverge blame cause detail).rd qq = b.rd qq := by
  simp at hq
  unfold Bay.diverge
  repeat' (first | done | simp [hq] | split | intro _ | refine (Bay.each_rd (fun b n => ?_) _ _).trans ?_ | refine (Bay.onlyIf_rd (fun b => ?_) _ _).trans ?_ | refine (Bay.foldl_rd (fun b n => ?_) _ _).trans ?_ | refine Bay.gated_rd _ _ (by simp [hq]) ?_)

@[simp] theorem Bay.onSlot_rd (b : Bay) (n : Nat) (f : SlotView → SlotView) {qq : Key} : (b.onSlot n f).rd qq = b.rd qq := by
  simp [Bay.onSlot]

@[simp] theorem Bay.setHolder_rd (b : Bay) (n new : Nat) {qq : Key} (hq : qq.loc ∉ [(F.EVT_STAT_LOST).loc, (F.RED_SO_CNT).loc, (F.RED_SO_T).loc]) : (b.setHolder n new).rd qq = b.rd qq := by
  simp at hq
  simp [Bay.setHolder, hq]

@[simp] theorem Bay.exchangeRoles_rd (b : Bay) {qq : Key} (hq : qq.loc ∉ [(F.EVT_STAT_LOST).loc, (F.RED_STAT_ROLE_CA).loc, (F.RED_STAT_ROLE_CB).loc]) : (b.exchangeRoles).rd qq = b.rd qq := by
  simp at hq
  simp [Bay.exchangeRoles, hq]

@[simp] theorem Bay.redRegs_rd (b : Bay) {qq : Key} (hq : qq.loc ∉ [(F.RED_CLEAN).loc, (F.RED_DIV_HOUR).loc, (F.RED_STAT_PAIRED).loc, (F.RED_STAT_SPLIT).loc, (F.RED_STAT_WINDOW).loc, (F.RED_VIEW_HOLDER).loc]) : (b.redRegs).rd qq = b.rd qq := by
  simp at hq
  simp [Bay.redRegs, hq]

@[simp] theorem Bay.strobeM_rd (b : Bay) {qq : Key} : (b.strobeM).rd qq = b.rd qq := by
  unfold Bay.strobeM
  split <;> (try split) <;> simp

@[simp] theorem Bay.roleEdge_rd (b : Bay) {qq : Key} (hq : qq.loc ∉ [(F.EVT_STAT_LOST).loc, (F.RED_CLEAN).loc, (F.RED_STAT_LANE0).loc, (F.RED_STAT_LANE1).loc, (F.RED_STAT_ROLE_CA).loc, (F.RED_STAT_ROLE_CB).loc, (F.RED_STAT_SYNC).loc]) : (b.roleEdge).rd qq = b.rd qq := by
  simp at hq
  unfold Bay.roleEdge
  repeat' (first | done | simp [hq] | split | intro _ | refine (Bay.each_rd (fun b n => ?_) _ _).trans ?_ | refine (Bay.onlyIf_rd (fun b => ?_) _ _).trans ?_ | refine (Bay.foldl_rd (fun b n => ?_) _ _).trans ?_ | refine Bay.gated_rd _ _ (by simp [hq]) ?_)

@[simp] theorem Bay.quarantineFor_rd (b : Bay) (code : Nat) {qq : Key} (hq : qq.loc ∉ [(F.TRU_QCAUSE_MASK).loc, (F.TRU_STAT_CLR_ARMED).loc]) : (b.quarantineFor code).rd qq = b.rd qq := by
  simp at hq
  simp [Bay.quarantineFor, hq]

@[simp] theorem Bay.enterCauses_rd (b : Bay) {qq : Key} (hq : qq.loc ∉ [(F.EVT_STAT_LOST).loc, (F.TRU_QCAUSE_FIRST).loc, (F.TRU_QCAUSE_MASK).loc, (F.TRU_STAT_CLR_ARMED).loc]) : (b.enterCauses).rd qq = b.rd qq := by
  simp at hq
  simp [Bay.enterCauses, hq]

@[simp] theorem Bay.remedied_rd (b : Bay) (code : Nat) {qq : Key} : (b.remedied code).rd qq = b.rd qq := by
  simp [Bay.remedied]

@[simp] theorem Bay.showKey_rd (b : Bay) {qq : Key} (hq : qq.loc ∉ [(F.TRU_STAT_RKEY_OK).loc]) : (b.showKey).rd qq = b.rd qq := by
  simp at hq
  simp [Bay.showKey, hq]

@[simp] theorem Bay.newRecordKey_rd (b : Bay) {qq : Key} (hq : qq.loc ∉ [(F.TRU_STAT_RKEY_OK).loc]) : (b.newRecordKey).rd qq = b.rd qq := by
  simp at hq
  unfold Bay.newRecordKey
  repeat' (first | done | simp [hq] | split | intro _ | refine (Bay.each_rd (fun b n => ?_) _ _).trans ?_ | refine (Bay.onlyIf_rd (fun b => ?_) _ _).trans ?_ | refine (Bay.foldl_rd (fun b n => ?_) _ _).trans ?_ | refine Bay.gated_rd _ _ (by simp [hq]) ?_)

@[simp] theorem Bay.rkeyNew_rd (b : Bay) {qq : Key} (hq : qq.loc ∉ [(F.EVT_STAT_LOST).loc, (F.TRU_STAT_RKEY_OK).loc]) : (b.rkeyNew).rd qq = b.rd qq := by
  simp at hq
  simp [Bay.rkeyNew, hq]

@[simp] theorem Bay.sealWrite_rd (b : Bay) (c : Nat) {qq : Key} (hq : qq.loc ∉ [(F.EVT_STAT_LOST).loc, (F.TRU_QCAUSE_MASK).loc, (F.TRU_STAT_CLR_ARMED).loc]) : (b.sealWrite c).rd qq = b.rd qq := by
  simp at hq
  simp only [Bay.sealWrite]
  repeat' (first | done | split)
  all_goals simp [hq]

@[simp] theorem Bay.seFail_rd (b : Bay) (x : Nat) {qq : Key} (hq : qq.loc ∉ [(F.BAY_STAT_CLR_ARMED).loc, (F.BAY_STOP_CAUSE_FIRST).loc, (F.BAY_STOP_CAUSE_MASK).loc, (F.EVT_STAT_LOST).loc, (F.RED_FLT_CAUSE).loc, (F.RED_FLT_COUNT).loc, (F.RED_FLT_DETAIL).loc, (F.RED_FLT_SIDE).loc, (F.RED_STAT_ROLE_CA).loc, (F.RED_STAT_ROLE_CB).loc, (F.RED_STAT_SYNC).loc, (F.TRU_STAT_SE_CA_OK).loc, (F.TRU_STAT_SE_CB_OK).loc]) : (b.seFail x).rd qq = b.rd qq := by
  simp at hq
  simp [Bay.seFail, hq]

@[simp] theorem Bay.attGo_rd (b : Bay) {qq : Key} (hq : qq.loc ∉ [(F.EVT_STAT_LOST).loc, (F.TRU_ATT_STAT_BUSY).loc, (F.TRU_ATT_STAT_READY).loc, (F.TRU_ATT_STAT_READ_CA).loc, (F.TRU_ATT_STAT_READ_CB).loc]) : (b.attGo).rd qq = b.rd qq := by
  simp at hq
  simp [Bay.attGo, hq]

@[simp] theorem Bay.quoteReady_rd (b : Bay) {qq : Key} (hq : qq.loc ∉ [(F.EVT_STAT_LOST).loc, (F.TRU_ATT_STAT_BUSY).loc, (F.TRU_ATT_STAT_READY).loc]) : (b.quoteReady).rd qq = b.rd qq := by
  simp at hq
  simp [Bay.quoteReady, hq]

@[simp] theorem Bay.showAuth_rd (b : Bay) (s : Nat) (key : List Byte) (rights : Int) {qq : Key} (hq : qq.loc ∉ [(F.AUTH_ENROLLED 0).loc, (F.AUTH_ID 0).loc, (F.AUTH_RIGHTS 0).loc, (F.TRU_STAT_HOST_N).loc, (F.TRU_STAT_PLANT_N).loc]) : (b.showAuth s key rights).rd qq = b.rd qq := by
  simp at hq
  simp [Bay.showAuth, hq]

@[simp] theorem Bay.revokeAuth_rd (b : Bay) (s : Nat) {qq : Key} (hq : qq.loc ∉ [(F.IMG_ID 0).loc, (F.IMG_SIZE 0).loc, (F.IMG_STAT_AUTH 0).loc, (F.IMG_STAT_STORED 0).loc, (F.IMG_VER 0).loc, (F.SAFE_PEND_CRC).loc, (F.SAFE_PEND_ID).loc, (F.SAFE_STAT_PEND_OK).loc, (F.SKN_LOAD_STAT_COUNT).loc, (F.SKN_TBL_FREE).loc]) : (b.revokeAuth s).rd qq = b.rd qq := by
  simp at hq
  simp only [Bay.revokeAuth]
  repeat' (first | done | split)
  all_goals simp [hq]

@[simp] theorem Bay.applyEnrol_rd (b : Bay) (e : Enrol) {qq : Key} (hq : qq.loc ∉ [(F.AUTH_ENROLLED 0).loc, (F.AUTH_ID 0).loc, (F.AUTH_PENDING 0).loc, (F.AUTH_RIGHTS 0).loc, (F.EVT_STAT_LOST).loc, (F.IMG_ID 0).loc, (F.IMG_SIZE 0).loc, (F.IMG_STAT_AUTH 0).loc, (F.IMG_STAT_STORED 0).loc, (F.IMG_VER 0).loc, (F.SAFE_PEND_CRC).loc, (F.SAFE_PEND_ID).loc, (F.SAFE_STAT_PEND_OK).loc, (F.SKN_LOAD_STAT_COUNT).loc, (F.SKN_TBL_FREE).loc, (F.TRU_STAT_HOST_N).loc, (F.TRU_STAT_PLANT_N).loc, (F.TRU_STAT_RKEY_OK).loc]) : (b.applyEnrol e).rd qq = b.rd qq := by
  simp at hq
  simp [Bay.applyEnrol, hq]

@[simp] theorem Bay.enrGo_rd (b : Bay) (differ : Bool) {qq : Key} (hq : qq.loc ∉ [(F.AUTH_ENROLLED 0).loc, (F.AUTH_ID 0).loc, (F.AUTH_PENDING 0).loc, (F.AUTH_RIGHTS 0).loc, (F.EVT_STAT_LOST).loc, (F.IMG_ID 0).loc, (F.IMG_SIZE 0).loc, (F.IMG_STAT_AUTH 0).loc, (F.IMG_STAT_STORED 0).loc, (F.IMG_VER 0).loc, (F.SAFE_PEND_CRC).loc, (F.SAFE_PEND_ID).loc, (F.SAFE_STAT_PEND_OK).loc, (F.SKN_LOAD_STAT_COUNT).loc, (F.SKN_TBL_FREE).loc, (F.TRU_ENR_SEQ).loc, (F.TRU_ENR_STAT_RESULT).loc, (F.TRU_STAT_HOST_N).loc, (F.TRU_STAT_PLANT_N).loc, (F.TRU_STAT_RKEY_OK).loc]) : (b.enrGo differ).rd qq = b.rd qq := by
  simp at hq
  unfold Bay.enrGo
  refine Bay.gated_rd _ _ (by simp [hq]) ?_
  extract_lets l r seq b1
  split
  · simp +zetaDelta [hq]
  · split
    · rw [Bay.applyEnrol_rd _ _ (by simp [hq])]; simp +zetaDelta [hq]
    · simp +zetaDelta [hq]

@[simp] theorem Bay.enrolDue_rd (b : Bay) {qq : Key} (hq : qq.loc ∉ [(F.AUTH_ENROLLED 0).loc, (F.AUTH_ID 0).loc, (F.AUTH_PENDING 0).loc, (F.AUTH_RIGHTS 0).loc, (F.EVT_STAT_LOST).loc, (F.IMG_ID 0).loc, (F.IMG_SIZE 0).loc, (F.IMG_STAT_AUTH 0).loc, (F.IMG_STAT_STORED 0).loc, (F.IMG_VER 0).loc, (F.SAFE_PEND_CRC).loc, (F.SAFE_PEND_ID).loc, (F.SAFE_STAT_PEND_OK).loc, (F.SKN_LOAD_STAT_COUNT).loc, (F.SKN_TBL_FREE).loc, (F.TRU_STAT_HOST_N).loc, (F.TRU_STAT_PLANT_N).loc, (F.TRU_STAT_RKEY_OK).loc]) : (b.enrolDue).rd qq = b.rd qq := by
  simp at hq
  simp [Bay.enrolDue, hq]

@[simp] theorem Bay.setWindow_rd (b : Bay) (until_ : Option Nat) {qq : Key} (hq : qq.loc ∉ [(F.TRU_ENR_STAT_WINDOW).loc]) : (b.setWindow until_).rd qq = b.rd qq := by
  simp at hq
  simp [Bay.setWindow, hq]

@[simp] theorem Bay.commButton_rd (b : Bay) (ms : Nat) {qq : Key} (hq : qq.loc ∉ [(F.TRU_ENR_STAT_WINDOW).loc]) : (b.commButton ms).rd qq = b.rd qq := by
  simp at hq
  simp [Bay.commButton, hq]

@[simp] theorem Bay.commTimeout_rd (b : Bay) {qq : Key} (hq : qq.loc ∉ [(F.TRU_ENR_STAT_WINDOW).loc]) : (b.commTimeout).rd qq = b.rd qq := by
  simp at hq
  simp only [Bay.commTimeout]
  repeat' (first | done | split)
  all_goals simp [hq]

@[simp] theorem Bay.verRebuild_rd (b : Bay) {qq : Key} (hq : qq.loc ∉ [(F.EVT_STAT_LOST).loc]) : (b.verRebuild).rd qq = b.rd qq := by
  simp at hq
  simp [Bay.verRebuild, hq]

@[simp] theorem Bay.qRestart_rd (b : Bay) (discard : Bool) {qq : Key} (hq : qq.loc ∉ [(F.EVT_STAT_LOST).loc]) : (b.qRestart discard).rd qq = b.rd qq := by
  simp at hq
  simp [Bay.qRestart, hq]

@[simp] theorem Bay.fwlPut_rd (b : Bay) (e : Nat) (t master region acc addr : Int) {qq : Key} (hq : qq.loc ∉ [(F.FWL_ACC 0).loc, (F.FWL_ADDR 0).loc, (F.FWL_MASTER 0).loc, (F.FWL_REGION 0).loc, (F.FWL_T 0).loc]) : (b.fwlPut e t master region acc addr).rd qq = b.rd qq := by
  simp at hq
  simp [Bay.fwlPut, hq]

@[simp] theorem Bay.fwlShift_rd (b : Bay) {qq : Key} (hq : qq.loc ∉ [(F.FWL_ACC 0).loc, (F.FWL_ADDR 0).loc, (F.FWL_MASTER 0).loc, (F.FWL_REGION 0).loc, (F.FWL_T 0).loc]) : (b.fwlShift).rd qq = b.rd qq := by
  simp at hq
  simp [Bay.fwlShift, hq]

@[simp] theorem Bay.violation_rd (b : Bay) (master region acc addr : Nat) {qq : Key} (hq : qq.loc ∉ [(F.ENG_FRZ_CAUSE 0).loc, (F.ENG_FRZ_DETAIL 0).loc, (F.ENG_STAT_CLR_ARMED 0).loc, (F.ENG_STAT_STATE 0).loc, (F.EVT_STAT_LOST).loc, (F.FWL_ACC 0).loc, (F.FWL_ADDR 0).loc, (F.FWL_MASTER 0).loc, (F.FWL_REGION 0).loc, (F.FWL_T 0).loc, (F.SKN_STAT_ACTIVE).loc, (F.TRU_FWL_CNT).loc, (F.TRU_FWL_LAST_ACC).loc, (F.TRU_FWL_LAST_MASTER).loc, (F.TRU_FWL_LAST_REGION).loc]) : (b.violation master region acc addr).rd qq = b.rd qq := by
  simp at hq
  simp [Bay.violation, hq]

@[simp] theorem Bay.releaseMaster_rd (b : Bay) (m : Nat) {qq : Key} (hq : qq.loc ∉ [(F.TRU_FRZ_DMA).loc, (F.TRU_FRZ_INGRESS).loc, (F.TRU_FRZ_PAIR).loc, (F.TRU_STAT_REL_ARMED).loc]) : (b.releaseMaster m).rd qq = b.rd qq := by
  simp at hq
  simp [Bay.releaseMaster, hq]

@[simp] theorem Bay.relWrite_rd (b : Bay) (m : Nat) {qq : Key} (hq : qq.loc ∉ [(F.EVT_STAT_LOST).loc, (F.TRU_FRZ_DMA).loc, (F.TRU_FRZ_INGRESS).loc, (F.TRU_FRZ_PAIR).loc, (F.TRU_STAT_REL_ARMED).loc]) : (b.relWrite m).rd qq = b.rd qq := by
  simp at hq
  simp [Bay.relWrite, hq]

@[simp] theorem Bay.runBank_rd (b : Bay) (x bank : Nat) (fallback : Bool) {qq : Key} (hq : qq.loc ∉ [(F.TRU_FW_CA_A_OK).loc, (F.TRU_FW_CA_B_OK).loc, (F.TRU_FW_CA_FALLBACK).loc, (F.TRU_FW_CA_PREF).loc, (F.TRU_FW_CA_RUN).loc, (F.TRU_FW_CA_SVN).loc, (F.TRU_FW_CA_SVN_MIN).loc, (F.TRU_FW_CB_A_OK).loc, (F.TRU_FW_CB_B_OK).loc, (F.TRU_FW_CB_FALLBACK).loc, (F.TRU_FW_CB_PREF).loc, (F.TRU_FW_CB_RUN).loc, (F.TRU_FW_CB_SVN).loc, (F.TRU_FW_CB_SVN_MIN).loc, (F.TRU_FW_VER_CA).loc, (F.TRU_FW_VER_CB).loc]) : (b.runBank x bank fallback).rd qq = b.rd qq := by
  simp at hq
  simp [Bay.runBank, hq]

@[simp] theorem Bay.bootCart_rd (b : Bay) (x : Nat) {qq : Key} (hq : qq.loc ∉ [(F.BAY_STAT_CLR_ARMED).loc, (F.BAY_STOP_CAUSE_FIRST).loc, (F.BAY_STOP_CAUSE_MASK).loc, (F.EVT_STAT_LOST).loc, (F.RED_FLT_CAUSE).loc, (F.RED_FLT_COUNT).loc, (F.RED_FLT_DETAIL).loc, (F.RED_FLT_SIDE).loc, (F.RED_STAT_ROLE_CA).loc, (F.RED_STAT_ROLE_CB).loc, (F.RED_STAT_SYNC).loc, (F.TRU_FW_CA_A_OK).loc, (F.TRU_FW_CA_B_OK).loc, (F.TRU_FW_CA_FALLBACK).loc, (F.TRU_FW_CA_PREF).loc, (F.TRU_FW_CA_RUN).loc, (F.TRU_FW_CA_SVN).loc, (F.TRU_FW_CA_SVN_MIN).loc, (F.TRU_FW_CB_A_OK).loc, (F.TRU_FW_CB_B_OK).loc, (F.TRU_FW_CB_FALLBACK).loc, (F.TRU_FW_CB_PREF).loc, (F.TRU_FW_CB_RUN).loc, (F.TRU_FW_CB_SVN).loc, (F.TRU_FW_CB_SVN_MIN).loc, (F.TRU_FW_VER_CA).loc, (F.TRU_FW_VER_CB).loc]) : (b.bootCart x).rd qq = b.rd qq := by
  simp at hq
  simp [Bay.bootCart, hq]

@[simp] theorem Bay.svnKeep_rd (b : Bay) (x : Nat) {qq : Key} (hq : qq.loc ∉ [(F.TRU_FW_CA_SVN_MIN).loc, (F.TRU_FW_CB_SVN_MIN).loc]) : (b.svnKeep x).rd qq = b.rd qq := by
  simp at hq
  simp [Bay.svnKeep, hq]

@[simp] theorem Bay.takeKey_rd (b : Bay) (x : Nat) {qq : Key} (hq : qq.loc ∉ [(F.TRU_STAT_RKEY_OK).loc]) : (b.takeKey x).rd qq = b.rd qq := by
  simp at hq
  simp [Bay.takeKey, hq]

@[simp] theorem Bay.alignBank_rd (b : Bay) (x : Nat) {qq : Key} (hq : qq.loc ∉ [(F.TRU_FW_CA_A_OK).loc, (F.TRU_FW_CA_B_OK).loc, (F.TRU_FW_CA_FALLBACK).loc, (F.TRU_FW_CA_PREF).loc, (F.TRU_FW_CA_RUN).loc, (F.TRU_FW_CA_SVN).loc, (F.TRU_FW_CA_SVN_MIN).loc, (F.TRU_FW_CB_A_OK).loc, (F.TRU_FW_CB_B_OK).loc, (F.TRU_FW_CB_FALLBACK).loc, (F.TRU_FW_CB_PREF).loc, (F.TRU_FW_CB_RUN).loc, (F.TRU_FW_CB_SVN).loc, (F.TRU_FW_CB_SVN_MIN).loc, (F.TRU_FW_VER_CA).loc, (F.TRU_FW_VER_CB).loc]) : (b.alignBank x).rd qq = b.rd qq := by
  simp at hq
  simp [Bay.alignBank, hq]

@[simp] theorem Bay.preferBank_rd (b : Bay) (k : Key) (bank : Nat) {qq : Key} (hq : qq.loc ∉ [(F.EVT_STAT_LOST).loc, (F.TRU_FW_CA_PREF).loc, (F.TRU_FW_CB_PREF).loc]) : (b.preferBank k bank).rd qq = b.rd qq := by
  simp at hq
  unfold Bay.preferBank
  repeat' (first | done | simp [hq] | split | intro _ | refine (Bay.each_rd (fun b n => ?_) _ _).trans ?_ | refine (Bay.onlyIf_rd (fun b => ?_) _ _).trans ?_ | refine (Bay.foldl_rd (fun b n => ?_) _ _).trans ?_ | refine Bay.gated_rd _ _ (by simp [hq]) ?_)

theorem Bay.fwuStart_rd (b : Bay) (k : Key) {f : Bay → Bay} {qq : Key} (hq : ¬ qq.loc = F.EVT_STAT_LOST.loc) (hf : (f b).rd qq = b.rd qq) :
    (b.fwuStart k f).rd qq = b.rd qq := by
  unfold Bay.fwuStart
  refine Bay.gated_rd _ _ hq ?_
  split
  · exact Bay.refuse_loc _ _ _ hq
  · exact hf

@[simp] theorem Bay.writePart_rd (b : Bay) (x ofs : Nat) (l : List (Nat × Byte)) {qq : Key} (hq : qq.loc ∉ [(F.TRU_FW_CA_A_OK).loc, (F.TRU_FW_CA_B_OK).loc, (F.TRU_FW_CB_A_OK).loc, (F.TRU_FW_CB_B_OK).loc]) : (b.writePart x ofs l).rd qq = b.rd qq := by
  simp at hq
  simp [Bay.writePart, hq]

@[simp] theorem Bay.verifyDone_rd (b : Bay) {qq : Key} (hq : qq.loc ∉ [(F.EVT_STAT_LOST).loc, (F.TRU_FWU_STAT_BUSY).loc, (F.TRU_FWU_STAT_PARTS).loc, (F.TRU_FWU_STAT_RESULT).loc, (F.TRU_FWU_STAT_VERIFIED).loc, (F.TRU_FW_CA_A_OK).loc, (F.TRU_FW_CA_B_OK).loc, (F.TRU_FW_CB_A_OK).loc, (F.TRU_FW_CB_B_OK).loc]) : (b.verifyDone).rd qq = b.rd qq := by
  simp at hq
  unfold Bay.verifyDone
  repeat' (first | done | simp [hq] | split | intro _ | refine (Bay.each_rd (fun b n => ?_) _ _).trans ?_ | refine (Bay.onlyIf_rd (fun b => ?_) _ _).trans ?_ | refine (Bay.foldl_rd (fun b n => ?_) _ _).trans ?_ | refine Bay.gated_rd _ _ (by simp [hq]) ?_)

@[simp] theorem Bay.setEnt_rd (b : Bay) (st : Int) {qq : Key} (hq : qq.loc ∉ [(F.PWR_ENTRY_STAT_STATE).loc]) : (b.setEnt st).rd qq = b.rd qq := by
  simp at hq
  simp [Bay.setEnt, hq]

@[simp] theorem Bay.entryOpens_rd (b : Bay) (cause : Int) {qq : Key} (hq : qq.loc ∉ [(F.EVT_STAT_LOST).loc, (F.PWR_ENTRY_STAT_CAUSE).loc, (F.PWR_ENTRY_STAT_STATE).loc]) : (b.entryOpens cause).rd qq = b.rd qq := by
  simp at hq
  simp [Bay.entryOpens, hq]

@[simp] theorem Bay.rtEdge_rd (b : Bay) {qq : Key} (hq : qq.loc ∉ [(F.EVT_STAT_LOST).loc]) : (b.rtEdge).rd qq = b.rd qq := by
  simp at hq
  unfold Bay.rtEdge
  repeat' (first | done | simp [hq] | split | intro _ | refine (Bay.each_rd (fun b n => ?_) _ _).trans ?_ | refine (Bay.onlyIf_rd (fun b => ?_) _ _).trans ?_ | refine (Bay.foldl_rd (fun b n => ?_) _ _).trans ?_ | refine Bay.gated_rd _ _ (by simp [hq]) ?_)

@[simp] theorem Bay.setDirs_rd (b : Bay) (v : Int) {qq : Key} (hq : qq.loc ∉ [(F.SEC_STAT_DIR 0).loc]) : (b.setDirs v).rd qq = b.rd qq := by
  simp at hq
  simp [Bay.setDirs, hq]

@[simp] theorem Bay.rtStop_rd (b : Bay) {qq : Key} (hq : qq.loc ∉ [(F.BAY_STAT_CLR_ARMED).loc, (F.BAY_STAT_HOLD_RT).loc, (F.BAY_STOP_CAUSE_FIRST).loc, (F.BAY_STOP_CAUSE_MASK).loc, (F.CHN_REC_FILL 0).loc, (F.CHN_REC_STAT_DROPPED 0).loc, (F.CHN_REC_STAT_FULL 0).loc, (F.CHN_REC_STAT_WARN 0).loc, (F.CHN_REG_STAT_CLR_ARMED 0).loc, (F.CHN_REG_STAT_HOLD_CAUSE 0).loc, (F.CHN_REG_STAT_MODE 0).loc, (F.CHN_REG_STAT_WATCH 0).loc, (F.EISCH_STAT_END 0).loc, (F.EISCH_STAT_PFLAGS 0).loc, (F.EISCH_STAT_RUN 0).loc, (F.EISCH_STAT_SETTLE 0).loc, (F.EIS_STAT_SWEEPING).loc, (F.EVT_STAT_LOST).loc, (F.PWR_ENTRY_STAT_CAUSE).loc, (F.PWR_ENTRY_STAT_STATE).loc, (F.PWR_RT_TIME).loc, (F.SEC_STAT_DIR 0).loc]) : (b.rtStop).rd qq = b.rd qq := by
  simp at hq
  simp [Bay.rtStop, hq]

@[simp] theorem Bay.rtStart_rd (b : Bay) {qq : Key} (hq : qq.loc ∉ [(F.BAY_STAT_CLR_ARMED).loc, (F.BAY_STAT_HOLD_RT).loc, (F.BAY_STOP_CAUSE_FIRST).loc, (F.BAY_STOP_CAUSE_MASK).loc, (F.CHN_REC_FILL 0).loc, (F.CHN_REC_STAT_DROPPED 0).loc, (F.CHN_REC_STAT_FULL 0).loc, (F.CHN_REC_STAT_WARN 0).loc, (F.CHN_REG_STAT_CLR_ARMED 0).loc, (F.CHN_REG_STAT_HOLD_CAUSE 0).loc, (F.CHN_REG_STAT_MODE 0).loc, (F.CHN_REG_STAT_WATCH 0).loc, (F.EISCH_STAT_END 0).loc, (F.EISCH_STAT_PFLAGS 0).loc, (F.EISCH_STAT_RUN 0).loc, (F.EISCH_STAT_SETTLE 0).loc, (F.EIS_STAT_SWEEPING).loc, (F.ENG_STAT_STATE 0).loc, (F.EVT_STAT_LOST).loc, (F.PWR_ENTRY_STAT_CAUSE).loc, (F.PWR_ENTRY_STAT_STATE).loc, (F.PWR_RT_TIME).loc, (F.PWR_X1_I).loc, (F.SEC_STAT_DIR 0).loc, (F.SKN_STAT_ACTIVE).loc]) : (b.rtStart).rd qq = b.rd qq := by
  simp at hq
  simp [Bay.rtStart, hq]

@[simp] theorem Bay.plantLoss_rd (b : Bay) (cause : Int) {qq : Key} (hq : qq.loc ∉ [(F.BAY_STAT_CLR_ARMED).loc, (F.BAY_STAT_HOLD_RT).loc, (F.BAY_STOP_CAUSE_FIRST).loc, (F.BAY_STOP_CAUSE_MASK).loc, (F.CHN_REC_FILL 0).loc, (F.CHN_REC_STAT_DROPPED 0).loc, (F.CHN_REC_STAT_FULL 0).loc, (F.CHN_REC_STAT_WARN 0).loc, (F.CHN_REG_STAT_CLR_ARMED 0).loc, (F.CHN_REG_STAT_HOLD_CAUSE 0).loc, (F.CHN_REG_STAT_MODE 0).loc, (F.CHN_REG_STAT_WATCH 0).loc, (F.EISCH_STAT_END 0).loc, (F.EISCH_STAT_PFLAGS 0).loc, (F.EISCH_STAT_RUN 0).loc, (F.EISCH_STAT_SETTLE 0).loc, (F.EIS_STAT_SWEEPING).loc, (F.ENG_STAT_STATE 0).loc, (F.EVT_STAT_LOST).loc, (F.PWR_ENTRY_STAT_CAUSE).loc, (F.PWR_ENTRY_STAT_STATE).loc, (F.PWR_RT_TIME).loc, (F.PWR_X1_I).loc, (F.SEC_STAT_DIR 0).loc, (F.SKN_STAT_ACTIVE).loc]) : (b.plantLoss cause).rd qq = b.rd qq := by
  simp at hq
  simp [Bay.plantLoss, hq]

@[simp] theorem Bay.readEntry_rd (b : Bay) {qq : Key} : (b.readEntry).rd qq = b.rd qq := by
  unfold Bay.readEntry
  repeat' (first | done | simp  | split | intro _ | refine (Bay.each_rd (fun b n => ?_) _ _).trans ?_ | refine (Bay.onlyIf_rd (fun b => ?_) _ _).trans ?_ | refine (Bay.foldl_rd (fun b n => ?_) _ _).trans ?_)

@[simp] theorem Bay.connect_rd (b : Bay) {qq : Key} (hq : qq.loc ∉ [(F.EVT_STAT_LOST).loc, (F.PWR_ENTRY_STAT_STATE).loc]) : (b.connect).rd qq = b.rd qq := by
  simp at hq
  simp [Bay.connect, hq]

@[simp] theorem Bay.axConvStart_rd (b : Bay) {qq : Key} : (b.axConvStart).rd qq = b.rd qq := by
  simp [Bay.axConvStart]

@[simp] theorem Bay.openEntry_rd (b : Bay) {qq : Key} (hq : qq.loc ∉ [(F.BAY_STAT_CLR_ARMED).loc, (F.BAY_STAT_HOLD_RT).loc, (F.BAY_STOP_CAUSE_FIRST).loc, (F.BAY_STOP_CAUSE_MASK).loc, (F.CHN_REC_FILL 0).loc, (F.CHN_REC_STAT_DROPPED 0).loc, (F.CHN_REC_STAT_FULL 0).loc, (F.CHN_REC_STAT_WARN 0).loc, (F.CHN_REG_STAT_CLR_ARMED 0).loc, (F.CHN_REG_STAT_HOLD_CAUSE 0).loc, (F.CHN_REG_STAT_MODE 0).loc, (F.CHN_REG_STAT_QUALIFYING 0).loc, (F.CHN_REG_STAT_TOPOFF 0).loc, (F.CHN_REG_STAT_WATCH 0).loc, (F.CHN_STEP_END_ALSO 0).loc, (F.CHN_STEP_END_CAUSE 0).loc, (F.EISCH_STAT_END 0).loc, (F.EISCH_STAT_PFLAGS 0).loc, (F.EISCH_STAT_RUN 0).loc, (F.EISCH_STAT_SETTLE 0).loc, (F.EIS_STAT_SWEEPING).loc, (F.ENG_DON 0).loc, (F.ENG_STAT_END 0).loc, (F.ENG_STAT_JOINED 0).loc, (F.ENG_STAT_STATE 0).loc, (F.EVT_STAT_LOST).loc, (F.PWR_ENTRY_STAT_CAUSE).loc, (F.PWR_ENTRY_STAT_STATE).loc, (F.PWR_RT_TIME).loc, (F.SEC_STAT_DIR 0).loc, (F.SKN_STAT_ACTIVE).loc]) : (b.openEntry).rd qq = b.rd qq := by
  simp at hq
  simp [Bay.openEntry, hq]

@[simp] theorem Bay.contactorDrop_rd (b : Bay) {qq : Key} (hq : qq.loc ∉ [(F.BAY_STAT_CLR_ARMED).loc, (F.BAY_STAT_HOLD_RT).loc, (F.BAY_STOP_CAUSE_FIRST).loc, (F.BAY_STOP_CAUSE_MASK).loc, (F.CHN_REC_FILL 0).loc, (F.CHN_REC_STAT_DROPPED 0).loc, (F.CHN_REC_STAT_FULL 0).loc, (F.CHN_REC_STAT_WARN 0).loc, (F.CHN_REG_STAT_CLR_ARMED 0).loc, (F.CHN_REG_STAT_HOLD_CAUSE 0).loc, (F.CHN_REG_STAT_MODE 0).loc, (F.CHN_REG_STAT_WATCH 0).loc, (F.EISCH_STAT_END 0).loc, (F.EISCH_STAT_PFLAGS 0).loc, (F.EISCH_STAT_RUN 0).loc, (F.EISCH_STAT_SETTLE 0).loc, (F.EIS_STAT_SWEEPING).loc, (F.EVT_STAT_LOST).loc, (F.PWR_ENTRY_STAT_CAUSE).loc, (F.PWR_ENTRY_STAT_STATE).loc, (F.PWR_RT_TIME).loc, (F.SEC_STAT_DIR 0).loc]) : (b.contactorDrop).rd qq = b.rd qq := by
  simp at hq
  simp [Bay.contactorDrop, hq]

@[simp] theorem Bay.setCapCont_rd (b : Bay) (h : Nat) (v : Bool) {qq : Key} (hq : qq.loc ∉ [(F.SEC_STAT_CAP_CONT 0).loc]) : (b.setCapCont h v).rd qq = b.rd qq := by
  simp at hq
  simp [Bay.setCapCont, hq]

@[simp] theorem Bay.drain_rd (b : Bay) (n : Nat) {qq : Key} (hq : qq.loc ∉ [(F.EVT_STAT_LOST).loc, (F.SEC_STAT_STATE 0).loc]) : (b.drain n).rd qq = b.rd qq := by
  simp at hq
  simp [Bay.drain, hq]

@[simp] theorem Bay.runWale_rd (b : Bay) (n : Nat) {qq : Key} (hq : qq.loc ∉ [(F.EVT_STAT_LOST).loc]) : (b.runWale n).rd qq = b.rd qq := by
  simp at hq
  simp [Bay.runWale, hq]

@[simp] theorem Bay.chopFault_rd (b : Bay) (conducts : Bool) {qq : Key} (hq : qq.loc ∉ [(F.AXS_FLT_CAUSE 0).loc, (F.AXS_FLT_COUNT 0).loc, (F.AXS_FLT_SECOND 0).loc, (F.AXS_STAT_ASRC 0).loc, (F.AXS_STAT_BRK_ON 0).loc, (F.AXS_STAT_CLR_ARMED 0).loc, (F.AXS_STAT_FB_USED 0).loc, (F.AXS_STAT_REV_HELD 0).loc, (F.AXS_STAT_STATE 0).loc, (F.EVT_STAT_LOST).loc, (F.PWR_AXBUS_CHOP_FLT).loc, (F.PWR_AXBUS_CHOP_ON).loc]) : (b.chopFault conducts).rd qq = b.rd qq := by
  simp at hq
  simp [Bay.chopFault, hq]

@[simp] theorem Bay.showFault_rd (b : Bay) {qq : Key} (hq : qq.loc ∉ [(F.SAFE_FLT_CAUSE).loc, (F.SAFE_FLT_CH).loc, (F.SAFE_FLT_DETAIL).loc]) : (b.showFault).rd qq = b.rd qq := by
  simp at hq
  simp only [Bay.showFault]
  repeat' (first | done | split)
  all_goals simp [hq]

@[simp] theorem Bay.latchFault_rd (b : Bay) (cause detail ch act : Nat) {qq : Key} (hq : qq.loc ∉ [(F.EVT_STAT_LOST).loc, (F.SAFE_FLT_CAUSE).loc, (F.SAFE_FLT_CH).loc, (F.SAFE_FLT_DETAIL).loc]) : (b.latchFault cause detail ch act).rd qq = b.rd qq := by
  simp at hq
  simp [Bay.latchFault, hq]

@[simp] theorem Bay.linesChanged_rd (b : Bay) (was on : Nat) {qq : Key} (hq : qq.loc ∉ [(F.AXS_FLT_CAUSE 0).loc, (F.AXS_FLT_COUNT 0).loc, (F.AXS_FLT_SECOND 0).loc, (F.AXS_STAT_ASRC 0).loc, (F.AXS_STAT_BRK_ON 0).loc, (F.AXS_STAT_CLR_ARMED 0).loc, (F.AXS_STAT_FB_USED 0).loc, (F.AXS_STAT_REV_HELD 0).loc, (F.AXS_STAT_STATE 0).loc, (F.BAY_STAT_CLR_ARMED).loc, (F.BAY_STAT_HOLD_RT).loc, (F.BAY_STOP_CAUSE_FIRST).loc, (F.BAY_STOP_CAUSE_MASK).loc, (F.CHN_FLT_CAUSE 0).loc, (F.CHN_FLT_COUNT 0).loc, (F.CHN_FLT_DETAIL 0).loc, (F.CHN_FLT_SECOND 0).loc, (F.CHN_REC_FILL 0).loc, (F.CHN_REC_STAT_DROPPED 0).loc, (F.CHN_REC_STAT_FULL 0).loc, (F.CHN_REC_STAT_WARN 0).loc, (F.CHN_REG_STAT_BORDER_OK 0).loc, (F.CHN_REG_STAT_CLR_ARMED 0).loc, (F.CHN_REG_STAT_HOLD_CAUSE 0).loc, (F.CHN_REG_STAT_MODE 0).loc, (F.CHN_REG_STAT_WATCH 0).loc, (F.CHN_STG_STAT_CLR_ARMED 0).loc, (F.CHN_STG_STAT_CSW 0).loc, (F.CHN_STG_STAT_PH_ACT 0).loc, (F.CHN_STG_STAT_SHED 0).loc, (F.CHN_STG_STAT_STAGE 0).loc, (F.EISCH_STAT_END 0).loc, (F.EISCH_STAT_PFLAGS 0).loc, (F.EISCH_STAT_RUN 0).loc, (F.EISCH_STAT_SETTLE 0).loc, (F.EIS_STAT_SWEEPING).loc, (F.EVT_STAT_LOST).loc, (F.PWR_ENTRY_STAT_CAUSE).loc, (F.PWR_ENTRY_STAT_STATE).loc, (F.PWR_RT_TIME).loc, (F.SEC_FRAM_STAT_BUSY 0).loc, (F.SEC_FRAM_STAT_LOST 0).loc, (F.SEC_FRAM_STAT_QUEUED 0).loc, (F.SEC_STAT_DIR 0).loc]) : (b.linesChanged was on).rd qq = b.rd qq := by
  simp at hq
  unfold Bay.linesChanged
  repeat' (first | done | simp [hq] | split | intro _ | refine (Bay.each_rd (fun b n => ?_) _ _).trans ?_ | refine (Bay.onlyIf_rd (fun b => ?_) _ _).trans ?_ | refine (Bay.foldl_rd (fun b n => ?_) _ _).trans ?_ | refine Bay.gated_rd _ _ (by simp [hq]) ?_)

@[simp] theorem Bay.drive_rd (b : Bay) (t : Nat) {qq : Key} (hq : qq.loc ∉ [(F.AXS_FLT_CAUSE 0).loc, (F.AXS_FLT_COUNT 0).loc, (F.AXS_FLT_SECOND 0).loc, (F.AXS_STAT_ASRC 0).loc, (F.AXS_STAT_BRK_ON 0).loc, (F.AXS_STAT_CLR_ARMED 0).loc, (F.AXS_STAT_FB_USED 0).loc, (F.AXS_STAT_REV_HELD 0).loc, (F.AXS_STAT_STATE 0).loc, (F.BAY_STAT_CLR_ARMED).loc, (F.BAY_STAT_HOLD_RT).loc, (F.BAY_STOP_CAUSE_FIRST).loc, (F.BAY_STOP_CAUSE_MASK).loc, (F.CHN_FLT_CAUSE 0).loc, (F.CHN_FLT_COUNT 0).loc, (F.CHN_FLT_DETAIL 0).loc, (F.CHN_FLT_SECOND 0).loc, (F.CHN_REC_FILL 0).loc, (F.CHN_REC_STAT_DROPPED 0).loc, (F.CHN_REC_STAT_FULL 0).loc, (F.CHN_REC_STAT_WARN 0).loc, (F.CHN_REG_STAT_BORDER_OK 0).loc, (F.CHN_REG_STAT_CLR_ARMED 0).loc, (F.CHN_REG_STAT_HOLD_CAUSE 0).loc, (F.CHN_REG_STAT_MODE 0).loc, (F.CHN_REG_STAT_WATCH 0).loc, (F.CHN_STG_STAT_CLR_ARMED 0).loc, (F.CHN_STG_STAT_CSW 0).loc, (F.CHN_STG_STAT_PH_ACT 0).loc, (F.CHN_STG_STAT_SHED 0).loc, (F.CHN_STG_STAT_STAGE 0).loc, (F.EISCH_STAT_END 0).loc, (F.EISCH_STAT_PFLAGS 0).loc, (F.EISCH_STAT_RUN 0).loc, (F.EISCH_STAT_SETTLE 0).loc, (F.EIS_STAT_SWEEPING).loc, (F.EVT_STAT_LOST).loc, (F.PWR_ENTRY_STAT_CAUSE).loc, (F.PWR_ENTRY_STAT_STATE).loc, (F.PWR_RT_TIME).loc, (F.SAFE_LINES_ON).loc, (F.SAFE_LINES_TAKE).loc, (F.SAFE_OUT_ON).loc, (F.SEC_FRAM_STAT_BUSY 0).loc, (F.SEC_FRAM_STAT_LOST 0).loc, (F.SEC_FRAM_STAT_QUEUED 0).loc, (F.SEC_STAT_DIR 0).loc]) : (b.drive t).rd qq = b.rd qq := by
  simp at hq
  simp [Bay.drive, hq]

@[simp] theorem Bay.dropTargets_rd (b : Bay) (m : Nat) {qq : Key} (hq : qq.loc ∉ [(F.AXS_FLT_CAUSE 0).loc, (F.AXS_FLT_COUNT 0).loc, (F.AXS_FLT_SECOND 0).loc, (F.AXS_STAT_ASRC 0).loc, (F.AXS_STAT_BRK_ON 0).loc, (F.AXS_STAT_CLR_ARMED 0).loc, (F.AXS_STAT_FB_USED 0).loc, (F.AXS_STAT_REV_HELD 0).loc, (F.AXS_STAT_STATE 0).loc, (F.BAY_STAT_CLR_ARMED).loc, (F.BAY_STAT_HOLD_RT).loc, (F.BAY_STOP_CAUSE_FIRST).loc, (F.BAY_STOP_CAUSE_MASK).loc, (F.CHN_FLT_CAUSE 0).loc, (F.CHN_FLT_COUNT 0).loc, (F.CHN_FLT_DETAIL 0).loc, (F.CHN_FLT_SECOND 0).loc, (F.CHN_REC_FILL 0).loc, (F.CHN_REC_STAT_DROPPED 0).loc, (F.CHN_REC_STAT_FULL 0).loc, (F.CHN_REC_STAT_WARN 0).loc, (F.CHN_REG_STAT_BORDER_OK 0).loc, (F.CHN_REG_STAT_CLR_ARMED 0).loc, (F.CHN_REG_STAT_HOLD_CAUSE 0).loc, (F.CHN_REG_STAT_MODE 0).loc, (F.CHN_REG_STAT_WATCH 0).loc, (F.CHN_STG_STAT_CLR_ARMED 0).loc, (F.CHN_STG_STAT_CSW 0).loc, (F.CHN_STG_STAT_PH_ACT 0).loc, (F.CHN_STG_STAT_SHED 0).loc, (F.CHN_STG_STAT_STAGE 0).loc, (F.EISCH_STAT_END 0).loc, (F.EISCH_STAT_PFLAGS 0).loc, (F.EISCH_STAT_RUN 0).loc, (F.EISCH_STAT_SETTLE 0).loc, (F.EIS_STAT_SWEEPING).loc, (F.EVT_STAT_LOST).loc, (F.PWR_ENTRY_STAT_CAUSE).loc, (F.PWR_ENTRY_STAT_STATE).loc, (F.PWR_RT_TIME).loc, (F.SAFE_LINES_ON).loc, (F.SAFE_LINES_TAKE).loc, (F.SAFE_OUT_ON).loc, (F.SEC_FRAM_STAT_BUSY 0).loc, (F.SEC_FRAM_STAT_LOST 0).loc, (F.SEC_FRAM_STAT_QUEUED 0).loc, (F.SEC_STAT_DIR 0).loc]) : (b.dropTargets m).rd qq = b.rd qq := by
  simp at hq
  simp [Bay.dropTargets, hq]

@[simp] theorem Bay.demandStop_rd (b : Bay) (act : Nat) {qq : Key} (hq : qq.loc ∉ [(F.BAY_STAT_CLR_ARMED).loc, (F.BAY_STAT_HOLD_RT).loc, (F.BAY_STOP_CAUSE_FIRST).loc, (F.BAY_STOP_CAUSE_MASK).loc, (F.CHN_REC_FILL 0).loc, (F.CHN_REC_STAT_DROPPED 0).loc, (F.CHN_REC_STAT_FULL 0).loc, (F.CHN_REC_STAT_WARN 0).loc, (F.CHN_REG_STAT_CLR_ARMED 0).loc, (F.CHN_REG_STAT_HOLD_CAUSE 0).loc, (F.CHN_REG_STAT_MODE 0).loc, (F.CHN_REG_STAT_WATCH 0).loc, (F.EISCH_STAT_END 0).loc, (F.EISCH_STAT_PFLAGS 0).loc, (F.EISCH_STAT_RUN 0).loc, (F.EISCH_STAT_SETTLE 0).loc, (F.EIS_STAT_SWEEPING).loc, (F.EVT_STAT_LOST).loc, (F.PWR_ENTRY_STAT_CAUSE).loc, (F.PWR_ENTRY_STAT_STATE).loc, (F.PWR_RT_TIME).loc, (F.SEC_STAT_DIR 0).loc]) : (b.demandStop act).rd qq = b.rd qq := by
  simp at hq
  simp [Bay.demandStop, hq]

@[simp] theorem Bay.safetyStop_rd (b : Bay) {qq : Key} (hq : qq.loc ∉ [(F.BAY_STAT_CLR_ARMED).loc, (F.BAY_STOP_CAUSE_FIRST).loc, (F.BAY_STOP_CAUSE_MASK).loc]) : (b.safetyStop).rd qq = b.rd qq := by
  simp at hq
  unfold Bay.safetyStop
  repeat' (first | done | simp [hq] | split | intro _ | refine (Bay.each_rd (fun b n => ?_) _ _).trans ?_ | refine (Bay.onlyIf_rd (fun b => ?_) _ _).trans ?_ | refine (Bay.foldl_rd (fun b n => ?_) _ _).trans ?_ | refine Bay.gated_rd _ _ (by simp [hq]) ?_)

@[simp] theorem Bay.stopRequest_rd (b : Bay) (act : Nat) {qq : Key} (hq : qq.loc ∉ [(F.AXS_STAT_STATE 0).loc, (F.EVT_STAT_LOST).loc]) : (b.stopRequest act).rd qq = b.rd qq := by
  simp at hq
  unfold Bay.stopRequest
  repeat' (first | done | simp [hq] | split | intro _ | refine (Bay.each_rd (fun b n => ?_) _ _).trans ?_ | refine (Bay.onlyIf_rd (fun b => ?_) _ _).trans ?_ | refine (Bay.foldl_rd (fun b n => ?_) _ _).trans ?_ | refine Bay.gated_rd _ _ (by simp [hq]) ?_)

@[simp] theorem Bay.demand_rd (b : Bay) (i : Nat) {qq : Key} (hq : qq.loc ∉ [(F.AXS_FLT_CAUSE 0).loc, (F.AXS_FLT_COUNT 0).loc, (F.AXS_FLT_SECOND 0).loc, (F.AXS_STAT_ASRC 0).loc, (F.AXS_STAT_BRK_ON 0).loc, (F.AXS_STAT_CLR_ARMED 0).loc, (F.AXS_STAT_FB_USED 0).loc, (F.AXS_STAT_REV_HELD 0).loc, (F.AXS_STAT_STATE 0).loc, (F.BAY_STAT_CLR_ARMED).loc, (F.BAY_STAT_HOLD_RT).loc, (F.BAY_STOP_CAUSE_FIRST).loc, (F.BAY_STOP_CAUSE_MASK).loc, (F.CHN_FLT_CAUSE 0).loc, (F.CHN_FLT_COUNT 0).loc, (F.CHN_FLT_DETAIL 0).loc, (F.CHN_FLT_SECOND 0).loc, (F.CHN_REC_FILL 0).loc, (F.CHN_REC_STAT_DROPPED 0).loc, (F.CHN_REC_STAT_FULL 0).loc, (F.CHN_REC_STAT_WARN 0).loc, (F.CHN_REG_STAT_BORDER_OK 0).loc, (F.CHN_REG_STAT_CLR_ARMED 0).loc, (F.CHN_REG_STAT_HOLD_CAUSE 0).loc, (F.CHN_REG_STAT_MODE 0).loc, (F.CHN_REG_STAT_WATCH 0).loc, (F.CHN_STG_STAT_CLR_ARMED 0).loc, (F.CHN_STG_STAT_CSW 0).loc, (F.CHN_STG_STAT_PH_ACT 0).loc, (F.CHN_STG_STAT_SHED 0).loc, (F.CHN_STG_STAT_STAGE 0).loc, (F.EISCH_STAT_END 0).loc, (F.EISCH_STAT_PFLAGS 0).loc, (F.EISCH_STAT_RUN 0).loc, (F.EISCH_STAT_SETTLE 0).loc, (F.EIS_STAT_SWEEPING).loc, (F.EVT_STAT_LOST).loc, (F.PWR_ENTRY_STAT_CAUSE).loc, (F.PWR_ENTRY_STAT_STATE).loc, (F.PWR_RT_TIME).loc, (F.SAFE_LINES_ON).loc, (F.SAFE_LINES_TAKE).loc, (F.SAFE_OUT_ON).loc, (F.SEC_FRAM_STAT_BUSY 0).loc, (F.SEC_FRAM_STAT_LOST 0).loc, (F.SEC_FRAM_STAT_QUEUED 0).loc, (F.SEC_STAT_DIR 0).loc]) : (b.demand i).rd qq = b.rd qq := by
  simp at hq
  simp [Bay.demand, hq]

@[simp] theorem Bay.permit_rd (b : Bay) (i : Nat) {qq : Key} (hq : qq.loc ∉ [(F.EVT_STAT_LOST).loc]) : (b.permit i).rd qq = b.rd qq := by
  simp at hq
  simp [Bay.permit, hq]

@[simp] theorem Bay.showPairs_rd (b : Bay) {qq : Key} (hq : qq.loc ∉ [(F.SAFE_DEMAND_DEM).loc, (F.SAFE_DEMAND_DISC).loc, (F.SAFE_DEMAND_WAIT).loc]) : (b.showPairs).rd qq = b.rd qq := by
  simp at hq
  simp [Bay.showPairs, hq]

@[simp] theorem Bay.takeInput_rd (b : Bay) (k : Nat) {qq : Key} (hq : qq.loc ∉ [(F.EVT_STAT_LOST).loc, (F.SAFE_FLT_CAUSE).loc, (F.SAFE_FLT_CH).loc, (F.SAFE_FLT_DETAIL).loc]) : (b.takeInput k).rd qq = b.rd qq := by
  simp at hq
  simp [Bay.takeInput, hq]

@[simp] theorem Bay.findShorts_rd (b : Bay) (m : Nat) {qq : Key} (hq : qq.loc ∉ [(F.EVT_STAT_LOST).loc, (F.SAFE_FLT_CAUSE).loc, (F.SAFE_FLT_CH).loc, (F.SAFE_FLT_DETAIL).loc]) : (b.findShorts m).rd qq = b.rd qq := by
  simp at hq
  simp [Bay.findShorts, hq]

@[simp] theorem Bay.handCycle_rd (b : Bay) (i : Nat) {qq : Key} : (b.handCycle i).rd qq = b.rd qq := by
  simp [Bay.handCycle]

@[simp] theorem Bay.pairCycle_rd (b : Bay) (i : Nat) {qq : Key} (hq : qq.loc ∉ [(F.AXS_FLT_CAUSE 0).loc, (F.AXS_FLT_COUNT 0).loc, (F.AXS_FLT_SECOND 0).loc, (F.AXS_STAT_ASRC 0).loc, (F.AXS_STAT_BRK_ON 0).loc, (F.AXS_STAT_CLR_ARMED 0).loc, (F.AXS_STAT_FB_USED 0).loc, (F.AXS_STAT_REV_HELD 0).loc, (F.AXS_STAT_STATE 0).loc, (F.BAY_STAT_CLR_ARMED).loc, (F.BAY_STAT_HOLD_RT).loc, (F.BAY_STOP_CAUSE_FIRST).loc, (F.BAY_STOP_CAUSE_MASK).loc, (F.CHN_FLT_CAUSE 0).loc, (F.CHN_FLT_COUNT 0).loc, (F.CHN_FLT_DETAIL 0).loc, (F.CHN_FLT_SECOND 0).loc, (F.CHN_REC_FILL 0).loc, (F.CHN_REC_STAT_DROPPED 0).loc, (F.CHN_REC_STAT_FULL 0).loc, (F.CHN_REC_STAT_WARN 0).loc, (F.CHN_REG_STAT_BORDER_OK 0).loc, (F.CHN_REG_STAT_CLR_ARMED 0).loc, (F.CHN_REG_STAT_HOLD_CAUSE 0).loc, (F.CHN_REG_STAT_MODE 0).loc, (F.CHN_REG_STAT_WATCH 0).loc, (F.CHN_STG_STAT_CLR_ARMED 0).loc, (F.CHN_STG_STAT_CSW 0).loc, (F.CHN_STG_STAT_PH_ACT 0).loc, (F.CHN_STG_STAT_SHED 0).loc, (F.CHN_STG_STAT_STAGE 0).loc, (F.EISCH_STAT_END 0).loc, (F.EISCH_STAT_PFLAGS 0).loc, (F.EISCH_STAT_RUN 0).loc, (F.EISCH_STAT_SETTLE 0).loc, (F.EIS_STAT_SWEEPING).loc, (F.EVT_STAT_LOST).loc, (F.PWR_ENTRY_STAT_CAUSE).loc, (F.PWR_ENTRY_STAT_STATE).loc, (F.PWR_RT_TIME).loc, (F.SAFE_LINES_ON).loc, (F.SAFE_LINES_TAKE).loc, (F.SAFE_OUT_ON).loc, (F.SEC_FRAM_STAT_BUSY 0).loc, (F.SEC_FRAM_STAT_LOST 0).loc, (F.SEC_FRAM_STAT_QUEUED 0).loc, (F.SEC_STAT_DIR 0).loc]) : (b.pairCycle i).rd qq = b.rd qq := by
  simp at hq
  simp [Bay.pairCycle, hq]

@[simp] theorem Bay.applyReset_rd (b : Bay) {qq : Key} (hq : qq.loc ∉ [(F.EVT_STAT_LOST).loc, (F.SAFE_FLT_CAUSE).loc, (F.SAFE_FLT_CH).loc, (F.SAFE_FLT_DETAIL).loc, (F.SAFE_OUT_FLT).loc]) : (b.applyReset).rd qq = b.rd qq := by
  simp at hq
  unfold Bay.applyReset
  repeat' (first | done | simp [hq] | split | intro _ | refine (Bay.each_rd (fun b n => ?_) _ _).trans ?_ | refine (Bay.onlyIf_rd (fun b => ?_) _ _).trans ?_ | refine (Bay.foldl_rd (fun b n => ?_) _ _).trans ?_ | refine Bay.gated_rd _ _ (by simp [hq]) ?_)

@[simp] theorem Bay.safeAllOff_rd (b : Bay) {qq : Key} (hq : qq.loc ∉ [(F.AXS_FLT_CAUSE 0).loc, (F.AXS_FLT_COUNT 0).loc, (F.AXS_FLT_SECOND 0).loc, (F.AXS_STAT_ASRC 0).loc, (F.AXS_STAT_BRK_ON 0).loc, (F.AXS_STAT_CLR_ARMED 0).loc, (F.AXS_STAT_FB_USED 0).loc, (F.AXS_STAT_REV_HELD 0).loc, (F.AXS_STAT_STATE 0).loc, (F.BAY_STAT_CLR_ARMED).loc, (F.BAY_STAT_HOLD_RT).loc, (F.BAY_STOP_CAUSE_FIRST).loc, (F.BAY_STOP_CAUSE_MASK).loc, (F.CHN_FLT_CAUSE 0).loc, (F.CHN_FLT_COUNT 0).loc, (F.CHN_FLT_DETAIL 0).loc, (F.CHN_FLT_SECOND 0).loc, (F.CHN_REC_FILL 0).loc, (F.CHN_REC_STAT_DROPPED 0).loc, (F.CHN_REC_STAT_FULL 0).loc, (F.CHN_REC_STAT_WARN 0).loc, (F.CHN_REG_STAT_BORDER_OK 0).loc, (F.CHN_REG_STAT_CLR_ARMED 0).loc, (F.CHN_REG_STAT_HOLD_CAUSE 0).loc, (F.CHN_REG_STAT_MODE 0).loc, (F.CHN_REG_STAT_WATCH 0).loc, (F.CHN_STG_STAT_CLR_ARMED 0).loc, (F.CHN_STG_STAT_CSW 0).loc, (F.CHN_STG_STAT_PH_ACT 0).loc, (F.CHN_STG_STAT_SHED 0).loc, (F.CHN_STG_STAT_STAGE 0).loc, (F.EISCH_STAT_END 0).loc, (F.EISCH_STAT_PFLAGS 0).loc, (F.EISCH_STAT_RUN 0).loc, (F.EISCH_STAT_SETTLE 0).loc, (F.EIS_STAT_SWEEPING).loc, (F.EVT_STAT_LOST).loc, (F.PWR_ENTRY_STAT_CAUSE).loc, (F.PWR_ENTRY_STAT_STATE).loc, (F.PWR_RT_TIME).loc, (F.SAFE_LINES_ON).loc, (F.SAFE_LINES_TAKE).loc, (F.SAFE_OUT_ON).loc, (F.SEC_FRAM_STAT_BUSY 0).loc, (F.SEC_FRAM_STAT_LOST 0).loc, (F.SEC_FRAM_STAT_QUEUED 0).loc, (F.SEC_STAT_DIR 0).loc]) : (b.safeAllOff).rd qq = b.rd qq := by
  simp at hq
  unfold Bay.safeAllOff
  repeat' (first | done | simp [hq] | split | intro _ | refine (Bay.each_rd (fun b n => ?_) _ _).trans ?_ | refine (Bay.onlyIf_rd (fun b => ?_) _ _).trans ?_ | refine (Bay.foldl_rd (fun b n => ?_) _ _).trans ?_ | refine Bay.gated_rd _ _ (by simp [hq]) ?_)

@[simp] theorem Bay.secondFault_rd (b : Bay) {qq : Key} (hq : qq.loc ∉ [(F.AXS_FLT_CAUSE 0).loc, (F.AXS_FLT_COUNT 0).loc, (F.AXS_FLT_SECOND 0).loc, (F.AXS_STAT_ASRC 0).loc, (F.AXS_STAT_BRK_ON 0).loc, (F.AXS_STAT_CLR_ARMED 0).loc, (F.AXS_STAT_FB_USED 0).loc, (F.AXS_STAT_REV_HELD 0).loc, (F.AXS_STAT_STATE 0).loc, (F.BAY_STAT_CLR_ARMED).loc, (F.BAY_STAT_HOLD_RT).loc, (F.BAY_STOP_CAUSE_FIRST).loc, (F.BAY_STOP_CAUSE_MASK).loc, (F.CHN_FLT_CAUSE 0).loc, (F.CHN_FLT_COUNT 0).loc, (F.CHN_FLT_DETAIL 0).loc, (F.CHN_FLT_SECOND 0).loc, (F.CHN_REC_FILL 0).loc, (F.CHN_REC_STAT_DROPPED 0).loc, (F.CHN_REC_STAT_FULL 0).loc, (F.CHN_REC_STAT_WARN 0).loc, (F.CHN_REG_STAT_BORDER_OK 0).loc, (F.CHN_REG_STAT_CLR_ARMED 0).loc, (F.CHN_REG_STAT_HOLD_CAUSE 0).loc, (F.CHN_REG_STAT_MODE 0).loc, (F.CHN_REG_STAT_WATCH 0).loc, (F.CHN_STG_STAT_CLR_ARMED 0).loc, (F.CHN_STG_STAT_CSW 0).loc, (F.CHN_STG_STAT_PH_ACT 0).loc, (F.CHN_STG_STAT_SHED 0).loc, (F.CHN_STG_STAT_STAGE 0).loc, (F.EISCH_STAT_END 0).loc, (F.EISCH_STAT_PFLAGS 0).loc, (F.EISCH_STAT_RUN 0).loc, (F.EISCH_STAT_SETTLE 0).loc, (F.EIS_STAT_SWEEPING).loc, (F.EVT_STAT_LOST).loc, (F.PWR_ENTRY_STAT_CAUSE).loc, (F.PWR_ENTRY_STAT_STATE).loc, (F.PWR_RT_TIME).loc, (F.SAFE_LINES_ON).loc, (F.SAFE_LINES_TAKE).loc, (F.SAFE_OUT_ON).loc, (F.SEC_FRAM_STAT_BUSY 0).loc, (F.SEC_FRAM_STAT_LOST 0).loc, (F.SEC_FRAM_STAT_QUEUED 0).loc, (F.SEC_STAT_DIR 0).loc]) : (b.secondFault).rd qq = b.rd qq := by
  simp at hq
  unfold Bay.secondFault
  repeat' (first | done | simp [hq] | split | intro _ | refine (Bay.each_rd (fun b n => ?_) _ _).trans ?_ | refine (Bay.onlyIf_rd (fun b => ?_) _ _).trans ?_ | refine (Bay.foldl_rd (fun b n => ?_) _ _).trans ?_ | refine Bay.gated_rd _ _ (by simp [hq]) ?_)

@[simp] theorem Bay.handoverCycle_rd (b : Bay) {qq : Key} (hq : qq.grp ∉ [.axs, .bay, .chn, .eis, .eisCh, .evt, .pwr, .safe, .sec]) : (b.handoverCycle).rd qq = b.rd qq := by
  simp at hq
  unfold Bay.handoverCycle
  repeat' (first | done | simp [hq] | split | intro _ | refine (Bay.each_rd (fun b n => ?_) _ _).trans ?_ | refine (Bay.onlyIf_rd (fun b => ?_) _ _).trans ?_ | refine (Bay.foldl_rd (fun b n => ?_) _ _).trans ?_ | refine Bay.gated_rd _ _ (by simp [hq]) ?_)

@[simp] theorem Bay.degrCycle_rd (b : Bay) {qq : Key} (hq : qq.loc ∉ [(F.SAFE_DEGR_LEFT).loc]) : (b.degrCycle).rd qq = b.rd qq := by
  simp at hq
  simp [Bay.degrCycle, hq]

@[simp] theorem Bay.linkCycle_rd (b : Bay) (i : SafeIn) {qq : Key} (hq : qq.grp ∉ [.axs, .bay, .chn, .eis, .eisCh, .evt, .pwr, .safe, .sec]) : (b.linkCycle i).rd qq = b.rd qq := by
  simp at hq
  unfold Bay.linkCycle
  repeat' (first | done | simp [hq] | split | intro _ | refine (Bay.each_rd (fun b n => ?_) _ _).trans ?_ | refine (Bay.onlyIf_rd (fun b => ?_) _ _).trans ?_ | refine (Bay.foldl_rd (fun b n => ?_) _ _).trans ?_ | refine Bay.gated_rd _ _ (by simp [hq]) ?_)

@[simp] theorem Bay.sresetCycle_rd (b : Bay) {qq : Key} (hq : qq.loc ∉ [(F.SAFE_IN_SRESET).loc, (F.SAFE_RST_BLOCKED).loc, (F.SAFE_RST_HELD).loc, (F.SAFE_RST_STUCK).loc]) : (b.sresetCycle).rd qq = b.rd qq := by
  simp at hq
  simp [Bay.sresetCycle, hq]

@[simp] theorem Bay.shortCycle_rd (b : Bay) {qq : Key} (hq : qq.grp ∉ [.axs, .bay, .chn, .eis, .eisCh, .evt, .pwr, .safe, .sec]) : (b.shortCycle).rd qq = b.rd qq := by
  simp at hq
  simp only [Bay.shortCycle]
  repeat' (first | done | split)
  all_goals simp [hq]

@[simp] theorem Bay.outputCycle_rd (b : Bay) (i : SafeIn) {qq : Key} (hq : qq.loc ∉ [(F.EVT_STAT_LOST).loc, (F.SAFE_FLT_CAUSE).loc, (F.SAFE_FLT_CH).loc, (F.SAFE_FLT_DETAIL).loc, (F.SAFE_OUT_FB).loc, (F.SAFE_OUT_FLT).loc]) : (b.outputCycle i).rd qq = b.rd qq := by
  simp at hq
  simp [Bay.outputCycle, hq]

@[simp] theorem Bay.rejoinCycle_rd (b : Bay) (i : SafeIn) {qq : Key} : (b.rejoinCycle i).rd qq = b.rd qq := by
  simp only [Bay.rejoinCycle]
  repeat' (first | done | split)
  all_goals simp 

@[simp] theorem Bay.outputsPass_rd (b : Bay) (i : SafeIn) {qq : Key} : (b.outputsPass i).rd qq = b.rd qq := by
  unfold Bay.outputsPass
  repeat' (first | done | simp  | split | intro _ | refine (Bay.each_rd (fun b n => ?_) _ _).trans ?_ | refine (Bay.onlyIf_rd (fun b => ?_) _ _).trans ?_ | refine (Bay.foldl_rd (fun b n => ?_) _ _).trans ?_)

@[simp] theorem Bay.showLineAge_rd (b : Bay) {qq : Key} (hq : qq.loc ∉ [(F.SAFE_LTEST_AGE).loc, (F.SAFE_STAT_LTEST_DUE).loc]) : (b.showLineAge).rd qq = b.rd qq := by
  simp at hq
  simp [Bay.showLineAge, hq]

@[simp] theorem Bay.showSafe_rd (b : Bay) {qq : Key} : (b.showSafe).rd qq = b.rd qq := by
  unfold Bay.showSafe
  repeat' (first | done | simp  | split | intro _ | refine (Bay.each_rd (fun b n => ?_) _ _).trans ?_ | refine (Bay.onlyIf_rd (fun b => ?_) _ _).trans ?_ | refine (Bay.foldl_rd (fun b n => ?_) _ _).trans ?_)

@[simp] theorem Bay.safetyCycle_rd (b : Bay) (i : SafeIn) {qq : Key} (hq : qq.grp ∉ [.axs, .bay, .chn, .eis, .eisCh, .evt, .pwr, .safe, .sec]) : (b.safetyCycle i).rd qq = b.rd qq := by
  simp at hq
  unfold Bay.safetyCycle
  repeat' (first | done | simp [hq] | split | intro _ | refine (Bay.each_rd (fun b n => ?_) _ _).trans ?_ | refine (Bay.onlyIf_rd (fun b => ?_) _ _).trans ?_ | refine (Bay.foldl_rd (fun b n => ?_) _ _).trans ?_ | refine Bay.gated_rd _ _ (by simp [hq]) ?_)

@[simp] theorem Bay.cat1Stop_rd (b : Bay) (i : Nat) {qq : Key} (hq : qq.loc ∉ [(F.AXS_FLT_CAUSE 0).loc, (F.AXS_FLT_COUNT 0).loc, (F.AXS_FLT_SECOND 0).loc, (F.AXS_STAT_ASRC 0).loc, (F.AXS_STAT_BRK_ON 0).loc, (F.AXS_STAT_CLR_ARMED 0).loc, (F.AXS_STAT_FB_USED 0).loc, (F.AXS_STAT_REV_HELD 0).loc, (F.AXS_STAT_STATE 0).loc, (F.BAY_STAT_CLR_ARMED).loc, (F.BAY_STAT_HOLD_RT).loc, (F.BAY_STOP_CAUSE_FIRST).loc, (F.BAY_STOP_CAUSE_MASK).loc, (F.CHN_FLT_CAUSE 0).loc, (F.CHN_FLT_COUNT 0).loc, (F.CHN_FLT_DETAIL 0).loc, (F.CHN_FLT_SECOND 0).loc, (F.CHN_REC_FILL 0).loc, (F.CHN_REC_STAT_DROPPED 0).loc, (F.CHN_REC_STAT_FULL 0).loc, (F.CHN_REC_STAT_WARN 0).loc, (F.CHN_REG_STAT_BORDER_OK 0).loc, (F.CHN_REG_STAT_CLR_ARMED 0).loc, (F.CHN_REG_STAT_HOLD_CAUSE 0).loc, (F.CHN_REG_STAT_MODE 0).loc, (F.CHN_REG_STAT_WATCH 0).loc, (F.CHN_STG_STAT_CLR_ARMED 0).loc, (F.CHN_STG_STAT_CSW 0).loc, (F.CHN_STG_STAT_PH_ACT 0).loc, (F.CHN_STG_STAT_SHED 0).loc, (F.CHN_STG_STAT_STAGE 0).loc, (F.EISCH_STAT_END 0).loc, (F.EISCH_STAT_PFLAGS 0).loc, (F.EISCH_STAT_RUN 0).loc, (F.EISCH_STAT_SETTLE 0).loc, (F.EIS_STAT_SWEEPING).loc, (F.EVT_STAT_LOST).loc, (F.PWR_ENTRY_STAT_CAUSE).loc, (F.PWR_ENTRY_STAT_STATE).loc, (F.PWR_RT_TIME).loc, (F.SAFE_LINES_ON).loc, (F.SAFE_LINES_TAKE).loc, (F.SAFE_OUT_ON).loc, (F.SEC_FRAM_STAT_BUSY 0).loc, (F.SEC_FRAM_STAT_LOST 0).loc, (F.SEC_FRAM_STAT_QUEUED 0).loc, (F.SEC_STAT_DIR 0).loc]) : (b.cat1Stop i).rd qq = b.rd qq := by
  simp at hq
  simp only [Bay.cat1Stop]
  repeat' (first | done | split)
  all_goals simp [hq]

@[simp] theorem Bay.testPulse_rd (b : Bay) (t : PulseTest) {qq : Key} (hq : qq.grp ∉ [.axs, .bay, .chn, .eis, .eisCh, .evt, .pwr, .safe, .sec]) : (b.testPulse t).rd qq = b.rd qq := by
  simp at hq
  simp only [Bay.testPulse]
  repeat' (first | done | split)
  all_goals simp [hq]

@[simp] theorem Bay.resetPress_rd (b : Bay) (ms skew : Nat) {qq : Key} (hq : qq.loc ∉ [(F.EVT_STAT_LOST).loc, (F.SAFE_FLT_CAUSE).loc, (F.SAFE_FLT_CH).loc, (F.SAFE_FLT_DETAIL).loc, (F.SAFE_RST_COUNT).loc]) : (b.resetPress ms skew).rd qq = b.rd qq := by
  simp at hq
  simp [Bay.resetPress, hq]

@[simp] theorem Bay.beginHandover_rd (b : Bay) (from_ : Nat) (latch faulted : Bool) {qq : Key} (hq : qq.loc ∉ [(F.SAFE_STAT_HANDOVER).loc]) : (b.beginHandover from_ latch faulted).rd qq = b.rd qq := by
  simp at hq
  simp [Bay.beginHandover, hq]

@[simp] theorem Bay.hostHandover_rd (b : Bay) (k : Key) (from_ : Nat) {qq : Key} (hq : qq.loc ∉ [(F.EVT_STAT_LOST).loc, (F.SAFE_STAT_HANDOVER).loc]) : (b.hostHandover k from_).rd qq = b.rd qq := by
  simp at hq
  simp [Bay.hostHandover, hq]

@[simp] theorem Bay.upsettStops_rd (b : Bay) (x : Nat) {qq : Key} (hq : qq.grp ∉ [.axs, .bay, .chn, .eis, .eisCh, .evt, .pwr, .safe, .sec]) : (b.upsettStops x).rd qq = b.rd qq := by
  simp at hq
  unfold Bay.upsettStops
  repeat' (first | done | simp [hq] | split | intro _ | refine (Bay.each_rd (fun b n => ?_) _ _).trans ?_ | refine (Bay.onlyIf_rd (fun b => ?_) _ _).trans ?_ | refine (Bay.foldl_rd (fun b n => ?_) _ _).trans ?_ | refine Bay.gated_rd _ _ (by simp [hq]) ?_)

@[simp] theorem Bay.upsettFault_rd (b : Bay) (x : Nat) {qq : Key} (hq : qq.grp ∉ [.axs, .bay, .chn, .eis, .eisCh, .evt, .pwr, .safe, .sec]) : (b.upsettFault x).rd qq = b.rd qq := by
  simp at hq
  unfold Bay.upsettFault
  repeat' (first | done | simp [hq] | split | intro _ | refine (Bay.each_rd (fun b n => ?_) _ _).trans ?_ | refine (Bay.onlyIf_rd (fun b => ?_) _ _).trans ?_ | refine (Bay.foldl_rd (fun b n => ?_) _ _).trans ?_ | refine Bay.gated_rd _ _ (by simp [hq]) ?_)

@[simp] theorem Bay.showSet_rd (b : Bay) (l : List Byte) {qq : Key} (hq : qq.loc ∉ [(F.OUT_CFG_CHECK 0).loc, (F.OUT_CFG_T_FB 0).loc, (F.PAIR_CFG0_EVAL 0).loc, (F.PAIR_CFG0_FILT 0).loc, (F.PAIR_CFG0_T_DISC 0).loc, (F.PAIR_CFG1_ACT 0).loc, (F.PAIR_CFG1_CAT 0).loc, (F.PAIR_CFG1_RESET 0).loc, (F.PAIR_CFG1_TYPE 0).loc, (F.SAFE_GLB_CFG0_T_DEGR).loc, (F.SAFE_GLB_CFG0_T_PULSE).loc, (F.SAFE_GLB_CFG0_T_STOP1).loc, (F.SAFE_GLB_CFG1_T_OFFP).loc, (F.SAFE_PAR_CRC).loc, (F.SAFE_PAR_ID).loc]) : (b.showSet l).rd qq = b.rd qq := by
  simp at hq
  simp [Bay.showSet, hq]

@[simp] theorem Bay.activate_rd (b : Bay) {qq : Key} (hq : qq.grp ∉ [.axs, .bay, .chn, .eis, .eisCh, .evt, .pwr, .safe, .safeOut, .safePair, .sec]) : (b.activate).rd qq = b.rd qq := by
  simp at hq
  unfold Bay.activate
  repeat' (first | done | simp [hq] | split | intro _ | refine (Bay.each_rd (fun b n => ?_) _ _).trans ?_ | refine (Bay.onlyIf_rd (fun b => ?_) _ _).trans ?_ | refine (Bay.foldl_rd (fun b n => ?_) _ _).trans ?_ | refine Bay.gated_rd _ _ (by simp [hq]) ?_)

@[simp] theorem Bay.tryClose_rd (b : Bay) (c : Nat) {qq : Key} (hq : qq.loc ∉ [(F.CHN_STG_STAT_PH_ACT 0).loc, (F.CHN_STG_STAT_STAGE 0).loc, (F.EVT_STAT_LOST).loc]) : (b.tryClose c).rd qq = b.rd qq := by
  simp at hq
  simp [Bay.tryClose, hq]

@[simp] theorem Bay.openPoint_rd (b : Bay) (c : Nat) (fl : Int) (idx : Nat) (p : SweepPt) {qq : Key} (hq : qq.loc ∉ [(F.CHN_REC_FILL 0).loc, (F.CHN_REC_STAT_DROPPED 0).loc, (F.CHN_REC_STAT_FULL 0).loc, (F.CHN_REC_STAT_WARN 0).loc, (F.CHN_REG_STAT_CLR_ARMED 0).loc, (F.CHN_REG_STAT_HOLD_CAUSE 0).loc, (F.CHN_REG_STAT_MODE 0).loc, (F.CHN_REG_STAT_WATCH 0).loc, (F.EISCH_F 0).loc, (F.EISCH_STAT_END 0).loc, (F.EISCH_STAT_PFLAGS 0).loc, (F.EISCH_STAT_POINT 0).loc, (F.EISCH_STAT_RUN 0).loc, (F.EISCH_STAT_SETTLE 0).loc, (F.EIS_STAT_SWEEPING).loc, (F.EVT_STAT_LOST).loc]) : (b.openPoint c fl idx p).rd qq = b.rd qq := by
  simp at hq
  simp [Bay.openPoint, hq]

@[simp] theorem Bay.askSweep_rd (b : Bay) (c : Nat) (table : Int) (edge : Nat) (host : Bool) {qq : Key} : (b.askSweep c table edge host).rd qq = b.rd qq := by
  simp [Bay.askSweep]

@[simp] theorem Bay.hcmdGo_rd (b : Bay) {qq : Key} (hq : qq.loc ∉ [(F.EVT_STAT_LOST).loc]) : (b.hcmdGo).rd qq = b.rd qq := by
  simp at hq
  simp [Bay.hcmdGo, hq]

@[simp] theorem Bay.abortSweep_rd (b : Bay) (c : Nat) {qq : Key} (hq : qq.loc ∉ [(F.CHN_REC_FILL 0).loc, (F.CHN_REC_STAT_DROPPED 0).loc, (F.CHN_REC_STAT_FULL 0).loc, (F.CHN_REC_STAT_WARN 0).loc, (F.EISCH_STAT_END 0).loc, (F.EISCH_STAT_PFLAGS 0).loc, (F.EISCH_STAT_RUN 0).loc, (F.EISCH_STAT_SETTLE 0).loc, (F.EIS_STAT_SWEEPING).loc, (F.EVT_STAT_LOST).loc]) : (b.abortSweep c).rd qq = b.rd qq := by
  simp at hq
  unfold Bay.abortSweep
  repeat' (first | done | simp [hq] | split | intro _ | refine (Bay.each_rd (fun b n => ?_) _ _).trans ?_ | refine (Bay.onlyIf_rd (fun b => ?_) _ _).trans ?_ | refine (Bay.foldl_rd (fun b n => ?_) _ _).trans ?_ | refine Bay.gated_rd _ _ (by simp [hq]) ?_)

@[simp] theorem Bay.hcmdAbort_rd (b : Bay) {qq : Key} (hq : qq.loc ∉ [(F.CHN_REC_FILL 0).loc, (F.CHN_REC_STAT_DROPPED 0).loc, (F.CHN_REC_STAT_FULL 0).loc, (F.CHN_REC_STAT_WARN 0).loc, (F.EISCH_STAT_END 0).loc, (F.EISCH_STAT_PFLAGS 0).loc, (F.EISCH_STAT_RUN 0).loc, (F.EISCH_STAT_SETTLE 0).loc, (F.EIS_STAT_SWEEPING).loc, (F.EVT_STAT_LOST).loc]) : (b.hcmdAbort).rd qq = b.rd qq := by
  simp at hq
  unfold Bay.hcmdAbort
  repeat' (first | done | simp [hq] | split | intro _ | refine (Bay.each_rd (fun b n => ?_) _ _).trans ?_ | refine (Bay.onlyIf_rd (fun b => ?_) _ _).trans ?_ | refine (Bay.foldl_rd (fun b n => ?_) _ _).trans ?_ | refine Bay.gated_rd _ _ (by simp [hq]) ?_)

@[simp] theorem Bay.sweepEdge_rd (b : Bay) (c : Nat) {qq : Key} (hq : qq.loc ∉ [(F.EISCH_STAT_END 0).loc, (F.EISCH_STAT_POINT 0).loc, (F.EISCH_STAT_RUN 0).loc, (F.EIS_STAT_SWEEPING).loc]) : (b.sweepEdge c).rd qq = b.rd qq := by
  simp at hq
  simp only [Bay.sweepEdge]
  repeat' (first | done | split)
  all_goals simp [hq]

@[simp] theorem Bay.specSample_rd (b : Bay) (c : Nat) (v i : Int) {qq : Key} (hq : qq.loc ∉ [(F.CHN_REC_FILL 0).loc, (F.CHN_REC_STAT_DROPPED 0).loc, (F.CHN_REC_STAT_FULL 0).loc, (F.CHN_REC_STAT_WARN 0).loc, (F.CHN_REG_STAT_CLR_ARMED 0).loc, (F.CHN_REG_STAT_HOLD_CAUSE 0).loc, (F.CHN_REG_STAT_MODE 0).loc, (F.CHN_REG_STAT_WATCH 0).loc, (F.EISCH_STAT_END 0).loc, (F.EISCH_STAT_PFLAGS 0).loc, (F.EISCH_STAT_RUN 0).loc, (F.EISCH_STAT_SETTLE 0).loc, (F.EIS_STAT_SWEEPING).loc, (F.EVT_STAT_LOST).loc]) : (b.specSample c v i).rd qq = b.rd qq := by
  simp at hq
  simp [Bay.specSample, hq]

@[simp] theorem Bay.disturbSweep_rd (b : Bay) (c : Nat) {qq : Key} : (b.disturbSweep c).rd qq = b.rd qq := by
  simp [Bay.disturbSweep]

@[simp] theorem Bay.flagSweep_rd (b : Bay) (c flag : Nat) {qq : Key} : (b.flagSweep c flag).rd qq = b.rd qq := by
  simp [Bay.flagSweep]

@[simp] theorem Bay.syncConv_rd (b : Bay) (c : Nat) {qq : Key} (hq : qq.loc ∉ [(F.CHN_MEAS_STAT_CONV 0).loc]) : (b.syncConv c).rd qq = b.rd qq := by
  simp at hq
  simp [Bay.syncConv, hq]

@[simp] theorem Bay.changeRange_rd (b : Bay) (c to_ : Nat) {qq : Key} : (b.changeRange c to_).rd qq = b.rd qq := by
  simp [Bay.changeRange]

@[simp] theorem Bay.rangeEdge_rd (b : Bay) (c : Nat) {qq : Key} (hq : qq.loc ∉ [(F.CHN_MEAS_STAT_BRIDGE 0).loc]) : (b.rangeEdge c).rd qq = b.rd qq := by
  simp at hq
  simp [Bay.rangeEdge, hq]

@[simp] theorem Bay.driftLimit_rd (b : Bay) (c : Nat) {qq : Key} (hq : qq.loc ∉ [(F.CHN_MEAS_STAT_DRIFT_LIM 0).loc, (F.EVT_STAT_LOST).loc]) : (b.driftLimit c).rd qq = b.rd qq := by
  simp at hq
  simp [Bay.driftLimit, hq]

@[simp] theorem Bay.driftClear_rd (b : Bay) (c : Nat) {qq : Key} (hq : qq.loc ∉ [(F.CHN_MEAS_STAT_DRIFT_LIM 0).loc]) : (b.driftClear c).rd qq = b.rd qq := by
  simp at hq
  unfold Bay.driftClear
  repeat' (first | done | simp [hq] | split | intro _ | refine (Bay.each_rd (fun b n => ?_) _ _).trans ?_ | refine (Bay.onlyIf_rd (fun b => ?_) _ _).trans ?_ | refine (Bay.foldl_rd (fun b n => ?_) _ _).trans ?_ | refine Bay.gated_rd _ _ (by simp [hq]) ?_)

@[simp] theorem Bay.openZero_rd (b : Bay) (c : Nat) {qq : Key} : (b.openZero c).rd qq = b.rd qq := by
  unfold Bay.openZero
  repeat' (first | done | simp  | split | intro _ | refine (Bay.each_rd (fun b n => ?_) _ _).trans ?_ | refine (Bay.onlyIf_rd (fun b => ?_) _ _).trans ?_ | refine (Bay.foldl_rd (fun b n => ?_) _ _).trans ?_)

@[simp] theorem Bay.precClose_rd (b : Bay) (r : Reading) {qq : Key} (hq : qq.loc ∉ [(F.CHN_I_PREC 0).loc, (F.CHN_PREC_T 0).loc, (F.CHN_V_PREC 0).loc]) : (b.precClose r).rd qq = b.rd qq := by
  simp at hq
  simp [Bay.precClose, hq]

@[simp] theorem Bay.mainsWrite_rd (b : Bay) (v : Int) {qq : Key} (hq : qq.loc ∉ [(F.EVT_STAT_LOST).loc]) : (b.mainsWrite v).rd qq = b.rd qq := by
  simp at hq
  simp [Bay.mainsWrite, hq]

@[simp] theorem Bay.mainsEdge_rd (b : Bay) {qq : Key} (hq : qq.loc ∉ [(F.MEAS_CTL_MAINS).loc]) : (b.mainsEdge).rd qq = b.rd qq := by
  simp at hq
  simp only [Bay.mainsEdge]
  repeat' (first | done | split)
  all_goals simp [hq]

@[simp] theorem Bay.refOff_rd (b : Bay) (n : Nat) {qq : Key} (hq : qq.loc ∉ [(F.CHN_MEAS_STAT_NREF 0).loc, (F.MEAS_REF_CTL_EN0).loc, (F.MEAS_REF_CTL_EN1).loc, (F.MEAS_REF_CTL_EN2).loc, (F.MEAS_REF_CTL_EN3).loc, (F.MEAS_REF_RDY_RDY0).loc, (F.MEAS_REF_RDY_RDY1).loc, (F.MEAS_REF_RDY_RDY2).loc, (F.MEAS_REF_RDY_RDY3).loc]) : (b.refOff n).rd qq = b.rd qq := by
  simp at hq
  simp [Bay.refOff, hq]

@[simp] theorem Bay.refWrite_rd (b : Bay) (n : Nat) (on : Bool) {qq : Key} (hq : qq.loc ∉ [(F.CHN_MEAS_STAT_NREF 0).loc, (F.EVT_STAT_LOST).loc, (F.MEAS_REF_CTL_EN0).loc, (F.MEAS_REF_CTL_EN1).loc, (F.MEAS_REF_CTL_EN2).loc, (F.MEAS_REF_CTL_EN3).loc, (F.MEAS_REF_RDY_RDY0).loc, (F.MEAS_REF_RDY_RDY1).loc, (F.MEAS_REF_RDY_RDY2).loc, (F.MEAS_REF_RDY_RDY3).loc]) : (b.refWrite n on).rd qq = b.rd qq := by
  simp at hq
  simp [Bay.refWrite, hq]

@[simp] theorem Bay.refCtlWrite_rd (b : Bay) (v : Nat) {qq : Key} (hq : qq.loc ∉ [(F.CHN_MEAS_STAT_NREF 0).loc, (F.EVT_STAT_LOST).loc, (F.MEAS_REF_CTL_EN0).loc, (F.MEAS_REF_CTL_EN1).loc, (F.MEAS_REF_CTL_EN2).loc, (F.MEAS_REF_CTL_EN3).loc, (F.MEAS_REF_RDY_RDY0).loc, (F.MEAS_REF_RDY_RDY1).loc, (F.MEAS_REF_RDY_RDY2).loc, (F.MEAS_REF_RDY_RDY3).loc]) : (b.refCtlWrite v).rd qq = b.rd qq := by
  simp at hq
  unfold Bay.refCtlWrite
  repeat' (first | done | simp [hq] | split | intro _ | refine (Bay.each_rd (fun b n => ?_) _ _).trans ?_ | refine (Bay.onlyIf_rd (fun b => ?_) _ _).trans ?_ | refine (Bay.foldl_rd (fun b n => ?_) _ _).trans ?_ | refine Bay.gated_rd _ _ (by simp [hq]) ?_)

@[simp] theorem Bay.scalWrite_rd (b : Bay) (n : Nat) {qq : Key} (hq : qq.loc ∉ [(F.EVT_STAT_LOST).loc]) : (b.scalWrite n).rd qq = b.rd qq := by
  simp at hq
  simp [Bay.scalWrite, hq]

@[simp] theorem Bay.scalCtlWrite_rd (b : Bay) (m : Nat) {qq : Key} (hq : qq.loc ∉ [(F.EVT_STAT_LOST).loc]) : (b.scalCtlWrite m).rd qq = b.rd qq := by
  simp at hq
  unfold Bay.scalCtlWrite
  repeat' (first | done | simp [hq] | split | intro _ | refine (Bay.each_rd (fun b n => ?_) _ _).trans ?_ | refine (Bay.onlyIf_rd (fun b => ?_) _ _).trans ?_ | refine (Bay.foldl_rd (fun b n => ?_) _ _).trans ?_ | refine Bay.gated_rd _ _ (by simp [hq]) ?_)

@[simp] theorem Bay.scalEdge_rd (b : Bay) {qq : Key} (hq : qq.loc ∉ [(F.MEAS_SCAL_STAT_BUSY0).loc, (F.MEAS_SCAL_STAT_BUSY1).loc, (F.MEAS_SCAL_STAT_BUSY2).loc, (F.MEAS_SCAL_STAT_BUSY3).loc]) : (b.scalEdge).rd qq = b.rd qq := by
  simp at hq
  unfold Bay.scalEdge
  repeat' (first | done | simp [hq] | split | intro _ | refine (Bay.each_rd (fun b n => ?_) _ _).trans ?_ | refine (Bay.onlyIf_rd (fun b => ?_) _ _).trans ?_ | refine (Bay.foldl_rd (fun b n => ?_) _ _).trans ?_ | refine Bay.gated_rd _ _ (by simp [hq]) ?_)

@[simp] theorem Bay.calChannel_rd (b : Bay) (slots : List (List (Int × Int))) (n : Nat) (l : Nat) {qq : Key} (hq : qq.loc ∉ [(F.CHN_CAL_IG0 0).loc, (F.CHN_CAL_IG1 0).loc, (F.CHN_CAL_IG2 0).loc, (F.CHN_CAL_IO0 0).loc, (F.CHN_CAL_IO1 0).loc, (F.CHN_CAL_IO2 0).loc, (F.CHN_CAL_VG 0).loc, (F.CHN_CAL_VO 0).loc, (F.CHN_MEAS_STAT_CAL_FAIL 0).loc, (F.CHN_MEAS_STAT_CAL_VALID 0).loc, (F.CHN_MEAS_STAT_CONV 0).loc, (F.EVT_STAT_LOST).loc]) : (b.calChannel slots n l).rd qq = b.rd qq := by
  simp at hq
  unfold Bay.calChannel
  repeat' (first | done | simp [hq] | split | intro _ | refine (Bay.each_rd (fun b n => ?_) _ _).trans ?_ | refine (Bay.onlyIf_rd (fun b => ?_) _ _).trans ?_ | refine (Bay.foldl_rd (fun b n => ?_) _ _).trans ?_ | refine Bay.gated_rd _ _ (by simp [hq]) ?_)

@[simp] theorem Bay.ovenEdge_rd (b : Bay) (t : Int) (inBand : Bool) {qq : Key} (hq : qq.loc ∉ [(F.MEAS_OVEN_T).loc, (F.MEAS_WARM).loc]) : (b.ovenEdge t inBand).rd qq = b.rd qq := by
  simp at hq
  simp [Bay.ovenEdge, hq]

@[simp] theorem Bay.endMeterSweep_rd (b : Bay) {qq : Key} (hq : qq.loc ∉ [(F.MEAS_STAT_SWEEP).loc]) : (b.endMeterSweep).rd qq = b.rd qq := by
  simp at hq
  simp [Bay.endMeterSweep, hq]

@[simp] theorem Bay.checkSweepEnd_rd (b : Bay) (sweep : Int) {qq : Key} (hq : qq.loc ∉ [(F.MEAS_STAT_CHECK_FAIL).loc]) : (b.checkSweepEnd sweep).rd qq = b.rd qq := by
  simp at hq
  unfold Bay.checkSweepEnd
  repeat' (first | done | simp [hq] | split | intro _ | refine (Bay.each_rd (fun b n => ?_) _ _).trans ?_ | refine (Bay.onlyIf_rd (fun b => ?_) _ _).trans ?_ | refine (Bay.foldl_rd (fun b n => ?_) _ _).trans ?_ | refine Bay.gated_rd _ _ (by simp [hq]) ?_)

@[simp] theorem Bay.beginEntry_rd (b : Bay) (i : Nat) {qq : Key} (hq : qq.loc ∉ [(F.MEAS_STAT_ENTRY).loc]) : (b.beginEntry i).rd qq = b.rd qq := by
  simp at hq
  simp [Bay.beginEntry, hq]

@[simp] theorem Bay.noteCheck_rd (b : Bay) (sweep : Int) (k : Nat) {qq : Key} : (b.noteCheck sweep k).rd qq = b.rd qq := by
  unfold Bay.noteCheck
  repeat' (first | done | simp  | split | intro _ | refine (Bay.each_rd (fun b n => ?_) _ _).trans ?_ | refine (Bay.onlyIf_rd (fun b => ?_) _ _).trans ?_ | refine (Bay.foldl_rd (fun b n => ?_) _ _).trans ?_)

@[simp] theorem Bay.internalResult_rd (b : Bay) (input : Nat) (sweep m : Int) {qq : Key} (hq : qq.loc ∉ [(F.EVT_STAT_LOST).loc, (F.MEAS_STAT_CHECK_FAIL).loc]) : (b.internalResult input sweep m).rd qq = b.rd qq := by
  simp at hq
  unfold Bay.internalResult
  repeat' (first | done | simp [hq] | split | intro _ | refine (Bay.each_rd (fun b n => ?_) _ _).trans ?_ | refine (Bay.onlyIf_rd (fun b => ?_) _ _).trans ?_ | refine (Bay.foldl_rd (fun b n => ?_) _ _).trans ?_ | refine Bay.gated_rd _ _ (by simp [hq]) ?_)

@[simp] theorem Bay.offsetUpdate_rd (b : Bay) (c r : Nat) (m p : Int) {qq : Key} (hq : ¬ qq.grp = .chn ∧ ¬ qq.loc = (F.EVT_STAT_LOST).loc) : (b.offsetUpdate c r m p).2.rd qq = b.rd qq := by
  simp at hq
  simp only [Bay.offsetUpdate]; split <;> simp [hq]

@[simp] theorem Bay.gainStepOf_rd (b : Bay) (m p : Int) (k : Key) : (b.gainStepOf m p).2.rd k = b.rd k := by
  unfold Bay.gainStepOf; repeat' split
  all_goals rfl

theorem Bay.gainUpdate_rd (b : Bay) (c : Nat) (k : Key) (slot : Nat) (m p : Int) (hk : k.grp = .chn) {qq : Key} (hq : ¬ qq.grp = .chn ∧ ¬ qq.loc = (F.EVT_STAT_LOST).loc) : (b.gainUpdate c k slot m p).2.rd qq = b.rd qq := by
  simp at hq
  simp only [Bay.gainUpdate]; split <;> simp [hq, hk]

@[simp] theorem Bay.channelResult_rd (b : Bay) (e : MeterEntry) (m : Int) (t : Nat) {qq : Key} (hq : ¬ qq.grp = .chn ∧ ¬ qq.loc = (F.EVT_STAT_LOST).loc) : (b.channelResult e m t).2.rd qq = b.rd qq := by
  simp only [Bay.channelResult]; repeat' split
  all_goals first | rfl | exact Bay.gainUpdate_rd _ _ _ _ _ _ rfl hq | exact Bay.gainUpdate_rd _ _ _ _ _ _ (corIG_grp _ _) hq | exact Bay.offsetUpdate_rd _ _ _ _ _ hq

@[simp] theorem Bay.meterEdge_rd (b : Bay) {qq : Key} (hq : qq.grp ∉ [.chn, .measRes] ∧ qq.loc ∉ [(F.EVT_STAT_LOST).loc]) : (b.meterEdge).rd qq = b.rd qq := by
  simp at hq
  unfold Bay.meterEdge
  repeat' (first | done | simp [hq] | split | intro _ | refine (Bay.each_rd (fun b n => ?_) _ _).trans ?_ | refine (Bay.onlyIf_rd (fun b => ?_) _ _).trans ?_ | refine (Bay.foldl_rd (fun b n => ?_) _ _).trans ?_ | refine Bay.gated_rd _ _ (by simp [hq]) ?_)

@[simp] theorem Bay.bayCmd_rd (b : Bay) (n : Nat) {qq : Key} (hq : qq.loc ∉ [(F.EVT_STAT_LOST).loc]) : (b.bayCmd n).rd qq = b.rd qq := by
  simp at hq
  unfold Bay.bayCmd
  repeat' (first | done | simp [hq] | split | intro _ | refine (Bay.each_rd (fun b n => ?_) _ _).trans ?_ | refine (Bay.onlyIf_rd (fun b => ?_) _ _).trans ?_ | refine (Bay.foldl_rd (fun b n => ?_) _ _).trans ?_ | refine Bay.gated_rd _ _ (by simp [hq]) ?_)

@[simp] theorem Bay.setMode_rd (b : Bay) (m : Int) {qq : Key} (hq : qq.loc ∉ [(F.BAY_MODE_T).loc, (F.BAY_STAT_MODE).loc, (F.BAY_STAT_PREV).loc, (F.EVT_STAT_LOST).loc]) : (b.setMode m).rd qq = b.rd qq := by
  simp at hq
  simp [Bay.setMode, hq]

@[simp] theorem Bay.stopChannels_rd (b : Bay) {qq : Key} (hq : qq.loc ∉ [(F.CHN_REC_FILL 0).loc, (F.CHN_REC_STAT_DROPPED 0).loc, (F.CHN_REC_STAT_FULL 0).loc, (F.CHN_REC_STAT_WARN 0).loc, (F.CHN_REG_STAT_CLR_ARMED 0).loc, (F.CHN_REG_STAT_HOLD_CAUSE 0).loc, (F.CHN_REG_STAT_MODE 0).loc, (F.CHN_REG_STAT_WATCH 0).loc, (F.EISCH_STAT_END 0).loc, (F.EISCH_STAT_PFLAGS 0).loc, (F.EISCH_STAT_RUN 0).loc, (F.EISCH_STAT_SETTLE 0).loc, (F.EIS_STAT_SWEEPING).loc, (F.EVT_STAT_LOST).loc]) : (b.stopChannels).rd qq = b.rd qq := by
  simp at hq
  simp [Bay.stopChannels, hq]

@[simp] theorem Bay.stopEffects_rd (b : Bay) {qq : Key} (hq : qq.loc ∉ [(F.AXS_STAT_STATE 0).loc, (F.BAY_STAT_CLR_ARMED).loc, (F.BAY_STAT_HOLD_RT).loc, (F.BAY_STOP_CAUSE_FIRST).loc, (F.BAY_STOP_CAUSE_MASK).loc, (F.CHN_REC_FILL 0).loc, (F.CHN_REC_STAT_DROPPED 0).loc, (F.CHN_REC_STAT_FULL 0).loc, (F.CHN_REC_STAT_WARN 0).loc, (F.CHN_REG_STAT_CLR_ARMED 0).loc, (F.CHN_REG_STAT_HOLD_CAUSE 0).loc, (F.CHN_REG_STAT_MODE 0).loc, (F.CHN_REG_STAT_WATCH 0).loc, (F.EISCH_STAT_END 0).loc, (F.EISCH_STAT_PFLAGS 0).loc, (F.EISCH_STAT_RUN 0).loc, (F.EISCH_STAT_SETTLE 0).loc, (F.EIS_STAT_SWEEPING).loc, (F.ENG_DON 0).loc, (F.ENG_STAT_END 0).loc, (F.ENG_STAT_JOINED 0).loc, (F.ENG_STAT_STATE 0).loc, (F.EVT_STAT_LOST).loc, (F.PWR_ENTRY_STAT_CAUSE).loc, (F.PWR_ENTRY_STAT_STATE).loc, (F.PWR_RT_TIME).loc, (F.SEC_STAT_DIR 0).loc, (F.SKN_STAT_ACTIVE).loc]) : (b.stopEffects).rd qq = b.rd qq := by
  simp at hq
  simp [Bay.stopEffects, hq]

@[simp] theorem Bay.recordStops_rd (b : Bay) {qq : Key} (hq : qq.loc ∉ [(F.BAY_STOP_CAUSE_FIRST).loc, (F.BAY_STOP_CAUSE_MASK).loc]) : (b.recordStops).rd qq = b.rd qq := by
  simp at hq
  simp [Bay.recordStops, hq]

@[simp] theorem Bay.enterSafeStop_rd (b : Bay) {qq : Key} (hq : qq.loc ∉ [(F.AXS_STAT_STATE 0).loc, (F.BAY_MODE_T).loc, (F.BAY_STAT_CLR_ARMED).loc, (F.BAY_STAT_HOLD_RT).loc, (F.BAY_STAT_MODE).loc, (F.BAY_STAT_PREV).loc, (F.BAY_STOP_CAUSE_FIRST).loc, (F.BAY_STOP_CAUSE_MASK).loc, (F.CHN_REC_FILL 0).loc, (F.CHN_REC_STAT_DROPPED 0).loc, (F.CHN_REC_STAT_FULL 0).loc, (F.CHN_REC_STAT_WARN 0).loc, (F.CHN_REG_STAT_CLR_ARMED 0).loc, (F.CHN_REG_STAT_HOLD_CAUSE 0).loc, (F.CHN_REG_STAT_MODE 0).loc, (F.CHN_REG_STAT_WATCH 0).loc, (F.EISCH_STAT_END 0).loc, (F.EISCH_STAT_PFLAGS 0).loc, (F.EISCH_STAT_RUN 0).loc, (F.EISCH_STAT_SETTLE 0).loc, (F.EIS_STAT_SWEEPING).loc, (F.ENG_DON 0).loc, (F.ENG_STAT_END 0).loc, (F.ENG_STAT_JOINED 0).loc, (F.ENG_STAT_STATE 0).loc, (F.EVT_STAT_LOST).loc, (F.PWR_ENTRY_STAT_CAUSE).loc, (F.PWR_ENTRY_STAT_STATE).loc, (F.PWR_RT_TIME).loc, (F.SEC_STAT_DIR 0).loc, (F.SKN_STAT_ACTIVE).loc]) : (b.enterSafeStop).rd qq = b.rd qq := by
  simp at hq
  simp [Bay.enterSafeStop, hq]

@[simp] theorem Bay.serviceStop_rd (b : Bay) {qq : Key} (hq : qq.loc ∉ [(F.AXS_STAT_STATE 0).loc, (F.BAY_STAT_CLR_ARMED).loc, (F.BAY_STAT_HOLD_RT).loc, (F.BAY_STAT_SVC_STOP).loc, (F.BAY_STOP_CAUSE_FIRST).loc, (F.BAY_STOP_CAUSE_MASK).loc, (F.CHN_REC_FILL 0).loc, (F.CHN_REC_STAT_DROPPED 0).loc, (F.CHN_REC_STAT_FULL 0).loc, (F.CHN_REC_STAT_WARN 0).loc, (F.CHN_REG_STAT_CLR_ARMED 0).loc, (F.CHN_REG_STAT_HOLD_CAUSE 0).loc, (F.CHN_REG_STAT_MODE 0).loc, (F.CHN_REG_STAT_WATCH 0).loc, (F.EISCH_STAT_END 0).loc, (F.EISCH_STAT_PFLAGS 0).loc, (F.EISCH_STAT_RUN 0).loc, (F.EISCH_STAT_SETTLE 0).loc, (F.EIS_STAT_SWEEPING).loc, (F.ENG_DON 0).loc, (F.ENG_STAT_END 0).loc, (F.ENG_STAT_JOINED 0).loc, (F.ENG_STAT_STATE 0).loc, (F.EVT_STAT_LOST).loc, (F.PWR_ENTRY_STAT_CAUSE).loc, (F.PWR_ENTRY_STAT_STATE).loc, (F.PWR_RT_TIME).loc, (F.SEC_STAT_DIR 0).loc, (F.SKN_STAT_ACTIVE).loc]) : (b.serviceStop).rd qq = b.rd qq := by
  simp at hq
  simp [Bay.serviceStop, hq]

@[simp] theorem Bay.enterQuarantine_rd (b : Bay) {qq : Key} (hq : qq.loc ∉ [(F.AXS_STAT_STATE 0).loc, (F.BAY_MODE_T).loc, (F.BAY_STAT_CLR_ARMED).loc, (F.BAY_STAT_HOLD_RT).loc, (F.BAY_STAT_MODE).loc, (F.BAY_STAT_PREV).loc, (F.BAY_STOP_CAUSE_FIRST).loc, (F.BAY_STOP_CAUSE_MASK).loc, (F.CHN_REC_FILL 0).loc, (F.CHN_REC_STAT_DROPPED 0).loc, (F.CHN_REC_STAT_FULL 0).loc, (F.CHN_REC_STAT_WARN 0).loc, (F.CHN_REG_STAT_CLR_ARMED 0).loc, (F.CHN_REG_STAT_HOLD_CAUSE 0).loc, (F.CHN_REG_STAT_MODE 0).loc, (F.CHN_REG_STAT_WATCH 0).loc, (F.EISCH_STAT_END 0).loc, (F.EISCH_STAT_PFLAGS 0).loc, (F.EISCH_STAT_RUN 0).loc, (F.EISCH_STAT_SETTLE 0).loc, (F.EIS_STAT_SWEEPING).loc, (F.ENG_DON 0).loc, (F.ENG_STAT_END 0).loc, (F.ENG_STAT_JOINED 0).loc, (F.ENG_STAT_STATE 0).loc, (F.EVT_STAT_LOST).loc, (F.PWR_ENTRY_STAT_CAUSE).loc, (F.PWR_ENTRY_STAT_STATE).loc, (F.PWR_RT_TIME).loc, (F.SEC_STAT_DIR 0).loc, (F.SKN_STAT_ACTIVE).loc, (F.TRU_QCAUSE_FIRST).loc, (F.TRU_QCAUSE_MASK).loc, (F.TRU_STAT_CLR_ARMED).loc]) : (b.enterQuarantine).rd qq = b.rd qq := by
  simp at hq
  simp [Bay.enterQuarantine, hq]

@[simp] theorem Bay.quarantineEdge_rd (b : Bay) {qq : Key} (hq : qq.loc ∉ [(F.AXS_FLT_CAUSE 0).loc, (F.AXS_FLT_COUNT 0).loc, (F.AXS_FLT_SECOND 0).loc, (F.AXS_STAT_ASRC 0).loc, (F.AXS_STAT_BRK_ON 0).loc, (F.AXS_STAT_CLR_ARMED 0).loc, (F.AXS_STAT_FB_USED 0).loc, (F.AXS_STAT_REV_HELD 0).loc, (F.AXS_STAT_STATE 0).loc, (F.EVT_STAT_LOST).loc]) : (b.quarantineEdge).rd qq = b.rd qq := by
  simp at hq
  simp [Bay.quarantineEdge, hq]

@[simp] theorem Bay.holdByCommand_rd (b : Bay) {qq : Key} (hq : qq.loc ∉ [(F.CHN_REC_FILL 0).loc, (F.CHN_REC_STAT_DROPPED 0).loc, (F.CHN_REC_STAT_FULL 0).loc, (F.CHN_REC_STAT_WARN 0).loc, (F.CHN_REG_STAT_CLR_ARMED 0).loc, (F.CHN_REG_STAT_HOLD_CAUSE 0).loc, (F.CHN_REG_STAT_MODE 0).loc, (F.CHN_REG_STAT_WATCH 0).loc, (F.EISCH_STAT_END 0).loc, (F.EISCH_STAT_PFLAGS 0).loc, (F.EISCH_STAT_RUN 0).loc, (F.EISCH_STAT_SETTLE 0).loc, (F.EIS_STAT_SWEEPING).loc, (F.ENG_STAT_STATE 0).loc, (F.EVT_STAT_LOST).loc, (F.SKN_STAT_ACTIVE).loc]) : (b.holdByCommand).rd qq = b.rd qq := by
  simp at hq
  simp [Bay.holdByCommand, hq]

@[simp] theorem Bay.resumeByCommand_rd (b : Bay) {qq : Key} (hq : qq.loc ∉ [(F.CHN_REC_FILL 0).loc, (F.CHN_REC_STAT_DROPPED 0).loc, (F.CHN_REC_STAT_FULL 0).loc, (F.CHN_REC_STAT_WARN 0).loc, (F.CHN_REG_STAT_CLR_ARMED 0).loc, (F.CHN_REG_STAT_HOLD_CAUSE 0).loc, (F.CHN_REG_STAT_MODE 0).loc, (F.CHN_REG_STAT_WATCH 0).loc, (F.EISCH_STAT_END 0).loc, (F.EISCH_STAT_PFLAGS 0).loc, (F.EISCH_STAT_RUN 0).loc, (F.EISCH_STAT_SETTLE 0).loc, (F.EIS_STAT_SWEEPING).loc, (F.ENG_EVT_VAL 0).loc, (F.ENG_PC 0).loc, (F.ENG_STAT_JOINED 0).loc, (F.ENG_STAT_STATE 0).loc, (F.EVT_STAT_LOST).loc, (F.SKN_STAT_ACTIVE).loc]) : (b.resumeByCommand).rd qq = b.rd qq := by
  simp at hq
  simp [Bay.resumeByCommand, hq]

@[simp] theorem Bay.leaveStop_rd (b : Bay) {qq : Key} (hq : qq.loc ∉ [(F.CHN_REC_FILL 0).loc, (F.CHN_REC_STAT_DROPPED 0).loc, (F.CHN_REC_STAT_FULL 0).loc, (F.CHN_REC_STAT_WARN 0).loc, (F.CHN_REG_STAT_CLR_ARMED 0).loc, (F.CHN_REG_STAT_HOLD_CAUSE 0).loc, (F.CHN_REG_STAT_MODE 0).loc, (F.CHN_REG_STAT_WATCH 0).loc, (F.EISCH_STAT_END 0).loc, (F.EISCH_STAT_PFLAGS 0).loc, (F.EISCH_STAT_RUN 0).loc, (F.EISCH_STAT_SETTLE 0).loc, (F.EIS_STAT_SWEEPING).loc, (F.EVT_STAT_LOST).loc]) : (b.leaveStop).rd qq = b.rd qq := by
  simp at hq
  simp [Bay.leaveStop, hq]

@[simp] theorem Bay.leaveService_rd (b : Bay) {qq : Key} (hq : qq.loc ∉ [(F.AXS_STAT_STATE 0).loc, (F.BAY_STAT_SVC_STOP).loc, (F.LPA_CFG_MAN 0).loc, (F.LPC_CFG_MAN 0).loc, (F.TIME_CTL_FREE).loc]) : (b.leaveService).rd qq = b.rd qq := by
  simp at hq
  simp [Bay.leaveService, hq]

@[simp] theorem Bay.enterEnergized_rd (b : Bay) {qq : Key} (hq : qq.loc ∉ [(F.BAY_MODE_T).loc, (F.BAY_STAT_MODE).loc, (F.BAY_STAT_PREV).loc, (F.EVT_STAT_LOST).loc]) : (b.enterEnergized).rd qq = b.rd qq := by
  simp at hq
  simp [Bay.enterEnergized, hq]

@[simp] theorem Bay.enterStandby_rd (b : Bay) {qq : Key} (hq : qq.loc ∉ [(F.BAY_MODE_T).loc, (F.BAY_STAT_MODE).loc, (F.BAY_STAT_PREV).loc, (F.EVT_STAT_LOST).loc]) : (b.enterStandby).rd qq = b.rd qq := by
  simp at hq
  simp [Bay.enterStandby, hq]

@[simp] theorem Bay.enterRunMode_rd (b : Bay) (m : Int) {qq : Key} (hq : qq.loc ∉ [(F.BAY_MODE_T).loc, (F.BAY_STAT_MODE).loc, (F.BAY_STAT_PREV).loc, (F.EVT_STAT_LOST).loc]) : (b.enterRunMode m).rd qq = b.rd qq := by
  simp at hq
  simp [Bay.enterRunMode, hq]

@[simp] theorem Bay.enterIdle_rd (b : Bay) {qq : Key} (hq : qq.loc ∉ [(F.BAY_MODE_T).loc, (F.BAY_STAT_MODE).loc, (F.BAY_STAT_PREV).loc, (F.EVT_STAT_LOST).loc]) : (b.enterIdle).rd qq = b.rd qq := by
  simp at hq
  simp [Bay.enterIdle, hq]

@[simp] theorem Bay.ownDefaults_rd (b : Bay) (carts : Bool) {qq : Key} (hq : qq.loc ∉ [(F.BAY_FEED_EXP).loc, (F.BAY_FEED_IMP).loc, (F.PWR_X1_OVL).loc, (F.SEC_OVL 0).loc]) : (b.ownDefaults carts).rd qq = b.rd qq := by
  simp at hq
  unfold Bay.ownDefaults
  repeat' (first | done | simp [hq] | split | intro _ | refine (Bay.each_rd (fun b n => ?_) _ _).trans ?_ | refine (Bay.onlyIf_rd (fun b => ?_) _ _).trans ?_ | refine (Bay.foldl_rd (fun b n => ?_) _ _).trans ?_ | refine Bay.gated_rd _ _ (by simp [hq]) ?_)

@[simp] theorem Bay.showSets_rd (b : Bay) {qq : Key} (hq : qq.loc ∉ [(F.OUT_CFG_CHECK 0).loc, (F.OUT_CFG_T_FB 0).loc, (F.PAIR_CFG0_EVAL 0).loc, (F.PAIR_CFG0_FILT 0).loc, (F.PAIR_CFG0_T_DISC 0).loc, (F.PAIR_CFG1_ACT 0).loc, (F.PAIR_CFG1_CAT 0).loc, (F.PAIR_CFG1_RESET 0).loc, (F.PAIR_CFG1_TYPE 0).loc, (F.SAFE_GLB_CFG0_T_DEGR).loc, (F.SAFE_GLB_CFG0_T_PULSE).loc, (F.SAFE_GLB_CFG0_T_STOP1).loc, (F.SAFE_GLB_CFG1_T_OFFP).loc, (F.SAFE_PAR_CRC).loc, (F.SAFE_PAR_ID).loc, (F.SAFE_PEND_CRC).loc, (F.SAFE_PEND_ID).loc, (F.SAFE_STAT_PEND_OK).loc]) : (b.showSets).rd qq = b.rd qq := by
  simp at hq
  unfold Bay.showSets
  repeat' (first | done | simp [hq] | split | intro _ | refine (Bay.each_rd (fun b n => ?_) _ _).trans ?_ | refine (Bay.onlyIf_rd (fun b => ?_) _ _).trans ?_ | refine (Bay.foldl_rd (fun b n => ?_) _ _).trans ?_ | refine Bay.gated_rd _ _ (by simp [hq]) ?_)

@[simp] theorem Bay.bootTrust_rd (b : Bay) (se : Nat) {qq : Key} (hq : qq.loc ∉ [(F.AUTH_ENROLLED 0).loc, (F.AUTH_ID 0).loc, (F.AUTH_RIGHTS 0).loc, (F.BAY_STAT_CLR_ARMED).loc, (F.BAY_STOP_CAUSE_FIRST).loc, (F.BAY_STOP_CAUSE_MASK).loc, (F.EVT_STAT_LOST).loc, (F.RED_FLT_CAUSE).loc, (F.RED_FLT_COUNT).loc, (F.RED_FLT_DETAIL).loc, (F.RED_FLT_SIDE).loc, (F.RED_STAT_ROLE_CA).loc, (F.RED_STAT_ROLE_CB).loc, (F.RED_STAT_SYNC).loc, (F.TRU_QCAUSE_MASK).loc, (F.TRU_STAT_CLR_ARMED).loc, (F.TRU_STAT_HOST_N).loc, (F.TRU_STAT_PLANT_N).loc, (F.TRU_STAT_RKEY_OK).loc, (F.TRU_STAT_SE_CA_OK).loc, (F.TRU_STAT_SE_CB_OK).loc]) : (b.bootTrust se).rd qq = b.rd qq := by
  simp at hq
  simp [Bay.bootTrust, hq]

@[simp] theorem Bay.meterComes_rd (b : Bay) (l : List Byte) (serial : Nat) {qq : Key} (hq : qq.loc ∉ [(F.EVT_STAT_LOST).loc, (F.MEAS_CERT_DUE).loc, (F.MEAS_CERT_ID).loc, (F.MEAS_STAT_CERT_DUE).loc, (F.MEAS_STAT_CERT_OK).loc, (F.MEAS_STAT_ENTRY).loc, (F.MEAS_STAT_PRESENT).loc]) : (b.meterComes l serial).rd qq = b.rd qq := by
  simp at hq
  unfold Bay.meterComes
  repeat' (first | done | simp [hq] | split | intro _ | refine (Bay.each_rd (fun b n => ?_) _ _).trans ?_ | refine (Bay.onlyIf_rd (fun b => ?_) _ _).trans ?_ | refine (Bay.foldl_rd (fun b n => ?_) _ _).trans ?_ | refine Bay.gated_rd _ _ (by simp [hq]) ?_)

@[simp] theorem Bay.bootComplete_rd (b : Bay) (se upsett : Nat) {qq : Key} (hq : qq.loc ∉ [(F.AUTH_ENROLLED 0).loc, (F.AUTH_ID 0).loc, (F.AUTH_RIGHTS 0).loc, (F.BAY_STAT_CLR_ARMED).loc, (F.BAY_STOP_CAUSE_FIRST).loc, (F.BAY_STOP_CAUSE_MASK).loc, (F.EVT_STAT_LOST).loc, (F.MEAS_CERT_DUE).loc, (F.MEAS_CERT_ID).loc, (F.MEAS_STAT_CERT_DUE).loc, (F.MEAS_STAT_CERT_OK).loc, (F.MEAS_STAT_ENTRY).loc, (F.MEAS_STAT_PRESENT).loc, (F.RED_FLT_CAUSE).loc, (F.RED_FLT_COUNT).loc, (F.RED_FLT_DETAIL).loc, (F.RED_FLT_SIDE).loc, (F.RED_STAT_ROLE_CA).loc, (F.RED_STAT_ROLE_CB).loc, (F.RED_STAT_SYNC).loc, (F.SAFE_STAT_CHA_OK).loc, (F.SAFE_STAT_CHB_OK).loc, (F.SAFE_STAT_MODE).loc, (F.SAFE_STAT_XLINK_OK).loc, (F.TRU_FW_CA_A_OK).loc, (F.TRU_FW_CA_B_OK).loc, (F.TRU_FW_CA_FALLBACK).loc, (F.TRU_FW_CA_PREF).loc, (F.TRU_FW_CA_RUN).loc, (F.TRU_FW_CA_SVN).loc, (F.TRU_FW_CA_SVN_MIN).loc, (F.TRU_FW_CB_A_OK).loc, (F.TRU_FW_CB_B_OK).loc, (F.TRU_FW_CB_FALLBACK).loc, (F.TRU_FW_CB_PREF).loc, (F.TRU_FW_CB_RUN).loc, (F.TRU_FW_CB_SVN).loc, (F.TRU_FW_CB_SVN_MIN).loc, (F.TRU_FW_VER_CA).loc, (F.TRU_FW_VER_CB).loc, (F.TRU_QCAUSE_MASK).loc, (F.TRU_STAT_CLR_ARMED).loc, (F.TRU_STAT_HOST_N).loc, (F.TRU_STAT_PLANT_N).loc, (F.TRU_STAT_RKEY_OK).loc, (F.TRU_STAT_SE_CA_OK).loc, (F.TRU_STAT_SE_CB_OK).loc]) : (b.bootComplete se upsett).rd qq = b.rd qq := by
  simp at hq
  simp [Bay.bootComplete, hq]

@[simp] theorem Bay.runEdge_rd (b : Bay) (cmd : Option Nat) {qq : Key} (hq : qq.loc ∉ [(F.BAY_MODE_T).loc, (F.BAY_STAT_MODE).loc, (F.BAY_STAT_PREV).loc, (F.CHN_REC_FILL 0).loc, (F.CHN_REC_STAT_DROPPED 0).loc, (F.CHN_REC_STAT_FULL 0).loc, (F.CHN_REC_STAT_WARN 0).loc, (F.CHN_REG_STAT_CLR_ARMED 0).loc, (F.CHN_REG_STAT_HOLD_CAUSE 0).loc, (F.CHN_REG_STAT_MODE 0).loc, (F.CHN_REG_STAT_WATCH 0).loc, (F.EISCH_STAT_END 0).loc, (F.EISCH_STAT_PFLAGS 0).loc, (F.EISCH_STAT_RUN 0).loc, (F.EISCH_STAT_SETTLE 0).loc, (F.EIS_STAT_SWEEPING).loc, (F.ENG_STAT_STATE 0).loc, (F.EVT_STAT_LOST).loc, (F.SKN_STAT_ACTIVE).loc]) : (b.runEdge cmd).rd qq = b.rd qq := by
  simp at hq
  simp [Bay.runEdge, hq]

@[simp] theorem Bay.holdEdge_rd (b : Bay) (cmd : Option Nat) {qq : Key} (hq : qq.loc ∉ [(F.BAY_MODE_T).loc, (F.BAY_STAT_MODE).loc, (F.BAY_STAT_PREV).loc, (F.CHN_REC_FILL 0).loc, (F.CHN_REC_STAT_DROPPED 0).loc, (F.CHN_REC_STAT_FULL 0).loc, (F.CHN_REC_STAT_WARN 0).loc, (F.CHN_REG_STAT_CLR_ARMED 0).loc, (F.CHN_REG_STAT_HOLD_CAUSE 0).loc, (F.CHN_REG_STAT_MODE 0).loc, (F.CHN_REG_STAT_WATCH 0).loc, (F.EISCH_STAT_END 0).loc, (F.EISCH_STAT_PFLAGS 0).loc, (F.EISCH_STAT_RUN 0).loc, (F.EISCH_STAT_SETTLE 0).loc, (F.EIS_STAT_SWEEPING).loc, (F.ENG_EVT_VAL 0).loc, (F.ENG_PC 0).loc, (F.ENG_STAT_JOINED 0).loc, (F.ENG_STAT_STATE 0).loc, (F.EVT_STAT_LOST).loc, (F.SKN_STAT_ACTIVE).loc]) : (b.holdEdge cmd).rd qq = b.rd qq := by
  simp at hq
  simp [Bay.holdEdge, hq]

@[simp] theorem Bay.setPort_rd (b : Bay) (p : Nat) (x : Port) {qq : Key} : (b.setPort p x).rd qq = b.rd qq := by
  simp [Bay.setPort]

@[simp] theorem Bay.setLink_rd (b : Bay) (p : Nat) (st : Int) {qq : Key} (hq : qq.loc ∉ [(F.EVT_STAT_LOST).loc, (F.WVE_PORT_P0).loc, (F.WVE_PORT_P1).loc, (F.WVE_PORT_P2).loc, (F.WVE_PORT_P3).loc, (F.WVE_PORT_P4).loc, (F.WVE_PORT_P5).loc]) : (b.setLink p st).rd qq = b.rd qq := by
  simp at hq
  simp [Bay.setLink, hq]

@[simp] theorem Bay.countTx_rd (b : Bay) (ps : List Nat) {qq : Key} : (b.countTx ps).rd qq = b.rd qq := by
  unfold Bay.countTx
  repeat' (first | done | simp  | split | intro _ | refine (Bay.each_rd (fun b n => ?_) _ _).trans ?_ | refine (Bay.onlyIf_rd (fun b => ?_) _ _).trans ?_ | refine (Bay.foldl_rd (fun b n => ?_) _ _).trans ?_)

@[simp] theorem Bay.sendWeave_rd (b : Bay) (dst : Nat) (kind : String) (words : List Int) {qq : Key} : (b.sendWeave dst kind words).rd qq = b.rd qq := by
  unfold Bay.sendWeave
  repeat' (first | done | simp  | split | intro _ | refine (Bay.each_rd (fun b n => ?_) _ _).trans ?_ | refine (Bay.onlyIf_rd (fun b => ?_) _ _).trans ?_ | refine (Bay.foldl_rd (fun b n => ?_) _ _).trans ?_)

@[simp] theorem Bay.setStream_rd (b : Bay) (n : Nat) (x : Stream) {qq : Key} : (b.setStream n x).rd qq = b.rd qq := by
  simp [Bay.setStream]

@[simp] theorem Bay.notify_rd (b : Bay) (item : List Byte) {qq : Key} (hq : qq.loc ∉ [(F.SQ_STAT_DROP 0).loc]) : (b.notify item).rd qq = b.rd qq := by
  simp at hq
  simp only [Bay.notify]
  split
  · simp [hq]
  · refine (Bay.ite_rd _ _ _ _).trans ?_
    split
    · refine (Bay.each_rd (fun b n => ?_) _ _).trans ?_ <;> rfl
    · split <;> simp [hq]

@[simp] theorem Bay.releaseEvents_rd (b : Bay) {qq : Key} (hq : qq.loc ∉ [(F.SQ_STAT_DROP 0).loc]) : (b.releaseEvents).rd qq = b.rd qq := by
  simp at hq
  simp [Bay.releaseEvents, hq]

@[simp] theorem Bay.timeMark_rd (b : Bay) {qq : Key} (hq : qq.loc ∉ [(F.SQ_STAT_DROP 0).loc]) : (b.timeMark).rd qq = b.rd qq := by
  simp at hq
  simp [Bay.timeMark, hq]

@[simp] theorem Bay.readEvent_rd (b : Bay) {qq : Key} : (b.readEvent).rd qq = b.rd qq := by
  simp only [Bay.readEvent]
  repeat' (first | done | split)
  all_goals simp 

@[simp] theorem Bay.setLock_rd (b : Bay) (v : Bool) {qq : Key} (hq : qq.loc ∉ [(F.EVT_STAT_LOST).loc, (F.TIME_STAT_LOCK).loc]) : (b.setLock v).rd qq = b.rd qq := by
  simp at hq
  simp [Bay.setLock, hq]

@[simp] theorem Bay.setFree_rd (b : Bay) (v : Bool) {qq : Key} (hq : qq.loc ∉ [(F.EVT_STAT_LOST).loc, (F.TIME_STAT_FREE_RUN).loc]) : (b.setFree v).rd qq = b.rd qq := by
  simp at hq
  simp [Bay.setFree, hq]

@[simp] theorem Bay.lockBy_rd (b : Bay) (off : Int) {qq : Key} (hq : qq.loc ∉ [(F.EVT_STAT_LOST).loc, (F.TIME_STAT_LOCK).loc]) : (b.lockBy off).rd qq = b.rd qq := by
  simp at hq
  simp [Bay.lockBy, hq]

@[simp] theorem Bay.steerBy_rd (b : Bay) (off : Int) (full : Bool) {qq : Key} (hq : qq.loc ∉ [(F.TIME_STEER).loc]) : (b.steerBy off full).rd qq = b.rd qq := by
  simp at hq
  simp [Bay.steerBy, hq]

@[simp] theorem Bay.stepTime_rd (b : Bay) (off : Int) {qq : Key} (hq : qq.loc ∉ [(F.EVT_STAT_LOST).loc, (F.TIME_OFFSET).loc, (F.TIME_STAT_STEPPED).loc, (F.TIME_STEP_LAST).loc]) : (b.stepTime off).rd qq = b.rd qq := by
  simp at hq
  simp [Bay.stepTime, hq]

@[simp] theorem Bay.discipline_rd (b : Bay) (off : Int) {qq : Key} (hq : qq.loc ∉ [(F.EVT_STAT_LOST).loc, (F.TIME_OFFSET).loc, (F.TIME_STAT_FREE_RUN).loc, (F.TIME_STAT_LOCK).loc, (F.TIME_STAT_STEPPED).loc, (F.TIME_STEER).loc, (F.TIME_STEP_LAST).loc]) : (b.discipline off).rd qq = b.rd qq := by
  simp at hq
  simp [Bay.discipline, hq]

@[simp] theorem Bay.timeMessage_rd (b : Bay) (m : TimeIn) {qq : Key} (hq : qq.loc ∉ [(F.EVT_STAT_LOST).loc, (F.TIME_OFFSET).loc, (F.TIME_STAT_EPOCH_TAI).loc, (F.TIME_STAT_FREE_RUN).loc, (F.TIME_STAT_LOCK).loc, (F.TIME_STAT_MASTER).loc, (F.TIME_STAT_SRC).loc, (F.TIME_STAT_STEPPED).loc, (F.TIME_STEER).loc, (F.TIME_STEP_LAST).loc, (F.TIME_UTC_OFS).loc]) : (b.timeMessage m).rd qq = b.rd qq := by
  simp at hq
  simp only [Bay.timeMessage]
  repeat' (first | done | split)
  all_goals simp [hq]

@[simp] theorem Bay.canPost_rd (b : Bay) (k : Nat) (r : CanRes) {qq : Key} : (b.canPost k r).rd qq = b.rd qq := by
  simp [Bay.canPost]

@[simp] theorem Bay.setObjData_rd (b : Bay) (n : Nat) (d : List Byte) {qq : Key} (hq : qq.grp ∉ [.cfdObj]) : (b.setObjData n d).rd qq = b.rd qq := by
  simp at hq
  simp [Bay.setObjData, hq]

@[simp] theorem Bay.canFail_rd (b : Bay) (k o : Nat) (cause : Int) {qq : Key} (hq : qq.loc ∉ [(F.EVT_STAT_LOST).loc]) : (b.canFail k o cause).rd qq = b.rd qq := by
  simp at hq
  simp [Bay.canFail, hq]

@[simp] theorem Bay.canBusOff_rd (b : Bay) (k : Nat) {qq : Key} (hq : qq.loc ∉ [(F.EVT_STAT_LOST).loc]) : (b.canBusOff k).rd qq = b.rd qq := by
  simp at hq
  simp [Bay.canBusOff, hq]

@[simp] theorem Bay.canCount_rd (b : Bay) (k : Nat) (tec rec_ : Int) {qq : Key} (hq : qq.loc ∉ [(F.EVT_STAT_LOST).loc]) : (b.canCount k tec rec_).rd qq = b.rd qq := by
  simp at hq
  simp [Bay.canCount, hq]

@[simp] theorem Bay.canClash_rd (b : Bay) (k : Nat) (ide : Bool) (id : Nat) {qq : Key} (hq : qq.loc ∉ [(F.EVT_STAT_LOST).loc]) : (b.canClash k ide id).rd qq = b.rd qq := by
  simp at hq
  simp [Bay.canClash, hq]

@[simp] theorem Bay.canHit_rd (b : Bay) (k o : Nat) {qq : Key} (hq : qq.loc ∉ [(F.EVT_STAT_LOST).loc]) : (b.canHit k o).rd qq = b.rd qq := by
  simp at hq
  simp [Bay.canHit, hq]

@[simp] theorem Bay.writeNom_rd (b : Bay) (k cand : Nat) {qq : Key} (hq : qq.loc ∉ [(F.CFD_NBT_NBRP 0).loc, (F.CFD_NBT_NSJW 0).loc, (F.CFD_NBT_NTSEG1 0).loc, (F.CFD_NBT_NTSEG2 0).loc]) : (b.writeNom k cand).rd qq = b.rd qq := by
  simp at hq
  simp [Bay.writeNom, hq]

@[simp] theorem Bay.writeData_rd (b : Bay) (k cand : Nat) {qq : Key} (hq : qq.loc ∉ [(F.CFD_DBT_DBRP 0).loc, (F.CFD_DBT_DSJW 0).loc, (F.CFD_DBT_DTSEG1 0).loc, (F.CFD_DBT_DTSEG2 0).loc]) : (b.writeData k cand).rd qq = b.rd qq := by
  simp at hq
  simp [Bay.writeData, hq]

@[simp] theorem Bay.detectStart_rd (b : Bay) (k : Nat) {qq : Key} (hq : qq.loc ∉ [(F.CFD_AUTO_STAT_CAND 0).loc, (F.CFD_AUTO_STAT_CYCLES 0).loc, (F.CFD_AUTO_STAT_DFOUND 0).loc, (F.CFD_AUTO_STAT_DONE 0).loc]) : (b.detectStart k).rd qq = b.rd qq := by
  simp at hq
  simp [Bay.detectStart, hq]

@[simp] theorem Bay.nextCand_rd (b : Bay) (k : Nat) {qq : Key} (hq : qq.loc ∉ [(F.CFD_AUTO_STAT_CAND 0).loc, (F.CFD_AUTO_STAT_CYCLES 0).loc]) : (b.nextCand k).rd qq = b.rd qq := by
  simp at hq
  simp [Bay.nextCand, hq]

@[simp] theorem Bay.detectDone_rd (b : Bay) (k : Nat) {qq : Key} (hq : qq.loc ∉ [(F.CFD_AUTO_STAT_DONE 0).loc, (F.EVT_STAT_LOST).loc]) : (b.detectDone k).rd qq = b.rd qq := by
  simp at hq
  simp [Bay.detectDone, hq]

@[simp] theorem Bay.detectFrame_rd (b : Bay) (k : Nat) (brs : Bool) {qq : Key} (hq : qq.loc ∉ [(F.CFD_AUTO_STAT_CAND 0).loc, (F.CFD_AUTO_STAT_DFOUND 0).loc, (F.CFD_AUTO_STAT_DONE 0).loc, (F.CFD_DBT_DBRP 0).loc, (F.CFD_DBT_DSJW 0).loc, (F.CFD_DBT_DTSEG1 0).loc, (F.CFD_DBT_DTSEG2 0).loc, (F.CFD_NBT_NBRP 0).loc, (F.CFD_NBT_NSJW 0).loc, (F.CFD_NBT_NTSEG1 0).loc, (F.CFD_NBT_NTSEG2 0).loc, (F.EVT_STAT_LOST).loc]) : (b.detectFrame k brs).rd qq = b.rd qq := by
  simp at hq
  simp [Bay.detectFrame, hq]

@[simp] theorem Bay.canStore_rd (b : Bay) (k : Nat) (f : CanFrame) {qq : Key} (hq : qq.loc ∉ [(F.EVT_STAT_LOST).loc]) : (b.canStore k f).rd qq = b.rd qq := by
  simp at hq
  simp only [Bay.canStore]
  repeat' (first | done | split)
  all_goals simp [hq]

@[simp] theorem Bay.canMissed_rd (b : Bay) (k : Nat) (s : CanSend) (what : CanOutcome) {qq : Key} (hq : qq.loc ∉ [(F.EVT_STAT_LOST).loc]) : (b.canMissed k s what).rd qq = b.rd qq := by
  simp at hq
  simp [Bay.canMissed, hq]

@[simp] theorem Bay.canOwnerEdge_rd (b : Bay) (k : Nat) {qq : Key} (hq : qq.loc ∉ [(F.CFD_AUTO_STAT_CAND 0).loc, (F.CFD_AUTO_STAT_CYCLES 0).loc, (F.CFD_AUTO_STAT_DFOUND 0).loc, (F.CFD_AUTO_STAT_DONE 0).loc]) : (b.canOwnerEdge k).rd qq = b.rd qq := by
  simp at hq
  simp [Bay.canOwnerEdge, hq]

@[simp] theorem Bay.linkLost_rd (b : Bay) (silent : Option Nat) {qq : Key} (hq : qq.loc ∉ [(F.BAY_STAT_CLR_ARMED).loc, (F.BAY_STOP_CAUSE_FIRST).loc, (F.BAY_STOP_CAUSE_MASK).loc, (F.EVT_STAT_LOST).loc, (F.RED_FLT_CAUSE).loc, (F.RED_FLT_COUNT).loc, (F.RED_FLT_DETAIL).loc, (F.RED_FLT_SIDE).loc, (F.RED_STAT_ROLE_CA).loc, (F.RED_STAT_ROLE_CB).loc, (F.RED_STAT_SYNC).loc]) : (b.linkLost silent).rd qq = b.rd qq := by
  simp at hq
  simp only [Bay.linkLost]
  repeat' (first | done | split)
  all_goals simp [hq]

@[simp] theorem Bay.joinBooted_rd (b : Bay) (x : Nat) (equal : Bool) {qq : Key} (hq : qq.loc ∉ [(F.EVT_STAT_LOST).loc, (F.RED_FLT_CAUSE).loc, (F.RED_FLT_COUNT).loc, (F.RED_FLT_DETAIL).loc, (F.RED_FLT_SIDE).loc, (F.RED_STAT_SYNC).loc]) : (b.joinBooted x equal).rd qq = b.rd qq := by
  simp at hq
  simp [Bay.joinBooted, hq]

@[simp] theorem Bay.joined_rd (b : Bay) (x : Nat) {qq : Key} (hq : qq.loc ∉ [(F.EVT_STAT_LOST).loc, (F.RED_CLEAN).loc, (F.RED_STAT_ROLE_CA).loc, (F.RED_STAT_ROLE_CB).loc, (F.RED_STAT_SYNC).loc, (F.TRU_FW_CA_SVN_MIN).loc, (F.TRU_FW_CB_SVN_MIN).loc]) : (b.joined x).rd qq = b.rd qq := by
  simp at hq
  simp [Bay.joined, hq]

@[simp] theorem Bay.resync_rd (b : Bay) {qq : Key} (hq : qq.loc ∉ [(F.EVT_STAT_LOST).loc, (F.RED_CLEAN).loc, (F.RED_STAT_SYNC).loc]) : (b.resync).rd qq = b.rd qq := by
  simp at hq
  simp [Bay.resync, hq]

@[simp] theorem Bay.swap_rd (b : Bay) {qq : Key} (hq : qq.loc ∉ [(F.EVT_STAT_LOST).loc]) : (b.swap).rd qq = b.rd qq := by
  simp at hq
  simp [Bay.swap, hq]

@[simp] theorem Bay.fwAlign_rd (b : Bay) (x : Nat) {qq : Key} (hq : qq.loc ∉ [(F.EVT_STAT_LOST).loc, (F.RED_CLEAN).loc, (F.RED_STAT_ROLE_CA).loc, (F.RED_STAT_ROLE_CB).loc, (F.RED_STAT_SYNC).loc, (F.TRU_FW_CA_A_OK).loc, (F.TRU_FW_CA_B_OK).loc, (F.TRU_FW_CA_FALLBACK).loc, (F.TRU_FW_CA_PREF).loc, (F.TRU_FW_CA_RUN).loc, (F.TRU_FW_CA_SVN).loc, (F.TRU_FW_CA_SVN_MIN).loc, (F.TRU_FW_CB_A_OK).loc, (F.TRU_FW_CB_B_OK).loc, (F.TRU_FW_CB_FALLBACK).loc, (F.TRU_FW_CB_PREF).loc, (F.TRU_FW_CB_RUN).loc, (F.TRU_FW_CB_SVN).loc, (F.TRU_FW_CB_SVN_MIN).loc, (F.TRU_FW_VER_CA).loc, (F.TRU_FW_VER_CB).loc]) : (b.fwAlign x).rd qq = b.rd qq := by
  simp at hq
  simp [Bay.fwAlign, hq]

@[simp] theorem Bay.oscFail_rd (b : Bay) {qq : Key} (hq : qq.loc ∉ [(F.EVT_STAT_LOST).loc, (F.TIME_STAT_FREE_RUN).loc, (F.TIME_STAT_HOLDOVER).loc]) : (b.oscFail).rd qq = b.rd qq := by
  simp at hq
  simp [Bay.oscFail, hq]

@[simp] theorem Bay.originate_rd (b : Bay) (kind : String) (cls dst : Nat) (words : List Int) (rim : Option (Nat × Int)) {qq : Key} : (b.originate kind cls dst words rim).rd qq = b.rd qq := by
  unfold Bay.originate
  repeat' (first | done | simp  | split | intro _ | refine (Bay.each_rd (fun b n => ?_) _ _).trans ?_ | refine (Bay.onlyIf_rd (fun b => ?_) _ _).trans ?_ | refine (Bay.foldl_rd (fun b n => ?_) _ _).trans ?_)

@[simp] theorem Bay.handshake_rd (b : Bay) (p : Nat) (x : PeerIn) {qq : Key} (hq : qq.loc ∉ [(F.EVT_STAT_LOST).loc, (F.WVE_PORT_P0).loc, (F.WVE_PORT_P1).loc, (F.WVE_PORT_P2).loc, (F.WVE_PORT_P3).loc, (F.WVE_PORT_P4).loc, (F.WVE_PORT_P5).loc]) : (b.handshake p x).rd qq = b.rd qq := by
  simp at hq
  simp [Bay.handshake, hq]

@[simp] theorem Bay.response_rd (b : Bay) (src : Nat) {qq : Key} : (b.response src).rd qq = b.rd qq := by
  unfold Bay.response
  repeat' (first | done | simp  | split | intro _ | refine (Bay.each_rd (fun b n => ?_) _ _).trans ?_ | refine (Bay.onlyIf_rd (fun b => ?_) _ _).trans ?_ | refine (Bay.foldl_rd (fun b n => ?_) _ _).trans ?_)

@[simp] theorem Bay.askedEdge_rd (b : Bay) {qq : Key} : (b.askedEdge).rd qq = b.rd qq := by
  unfold Bay.askedEdge
  repeat' (first | done | simp  | split | intro _ | refine (Bay.each_rd (fun b n => ?_) _ _).trans ?_ | refine (Bay.onlyIf_rd (fun b => ?_) _ _).trans ?_ | refine (Bay.foldl_rd (fun b n => ?_) _ _).trans ?_)

@[simp] theorem Bay.passFrame_rd (b : Bay) (p : Nat) (f : WFrame) {qq : Key} : (b.passFrame p f).rd qq = b.rd qq := by
  unfold Bay.passFrame
  repeat' (first | done | simp  | split | intro _ | refine (Bay.each_rd (fun b n => ?_) _ _).trans ?_ | refine (Bay.onlyIf_rd (fun b => ?_) _ _).trans ?_ | refine (Bay.foldl_rd (fun b n => ?_) _ _).trans ?_)

@[simp] theorem Bay.portSend_rd (b : Bay) (p : Nat) (kind : String) (words : List Int) {qq : Key} : (b.portSend p kind words).rd qq = b.rd qq := by
  simp [Bay.portSend]

theorem rtKey_grp (plane w : Nat) : (rtKey plane w).grp = .rta ∨ (rtKey plane w).grp = .rtb := by
  unfold rtKey; split
  · exact .inl rfl
  · exact .inr rfl
@[simp] theorem Bay.wr_rtKey_rd (b : Bay) (plane w : Nat) (v : Int) {qq : Key} (h1 : ¬ qq.grp = .rta) (h2 : ¬ qq.grp = .rtb) :
    (b.wr (rtKey plane w) v).rd qq = b.rd qq := by
  apply Bay.rd_wr_grp; intro e
  rcases rtKey_grp plane w with h | h <;> rw [h] at e <;> contradiction

@[simp] theorem Bay.putRoutes_rd (b : Bay) (plane : Nat) (t : List Nat) {qq : Key} (hq : qq.grp ∉ [.rta, .rtb]) : (b.putRoutes plane t).rd qq = b.rd qq := by
  simp at hq
  unfold Bay.putRoutes
  repeat' (first | done | simp [hq] | split | intro _ | refine (Bay.each_rd (fun b n => ?_) _ _).trans ?_ | refine (Bay.onlyIf_rd (fun b => ?_) _ _).trans ?_ | refine (Bay.foldl_rd (fun b n => ?_) _ _).trans ?_ | refine Bay.gated_rd _ _ (by simp [hq]) ?_)

@[simp] theorem Bay.failLink_rd (b : Bay) (plane x : Nat) (y : Option Nat) {qq : Key} (hq : qq.grp ∉ [.rta, .rtb] ∧ qq.loc ∉ [(F.EVT_STAT_LOST).loc, (F.WVE_REPAIR).loc]) : (b.failLink plane x y).rd qq = b.rd qq := by
  simp at hq
  simp only [Bay.failLink]
  repeat' (first | done | split)
  all_goals simp [hq]

@[simp] theorem Bay.linkLoss_rd (b : Bay) (p : Nat) (st : Int) {qq : Key} (hq : qq.grp ∉ [.rta, .rtb] ∧ qq.loc ∉ [(F.EVT_STAT_LOST).loc, (F.WVE_PORT_P0).loc, (F.WVE_PORT_P1).loc, (F.WVE_PORT_P2).loc, (F.WVE_PORT_P3).loc, (F.WVE_PORT_P4).loc, (F.WVE_PORT_P5).loc, (F.WVE_REPAIR).loc]) : (b.linkLoss p st).rd qq = b.rd qq := by
  simp at hq
  simp [Bay.linkLoss, hq]

@[simp] theorem Bay.weaveReceive_rd (b : Bay) (p : Nat) (f : WFrame) {qq : Key} (hq : qq.grp ∉ [.rta, .rtb] ∧ qq.loc ∉ [(F.EVT_STAT_LOST).loc, (F.WVE_PORT_P0).loc, (F.WVE_PORT_P1).loc, (F.WVE_PORT_P2).loc, (F.WVE_PORT_P3).loc, (F.WVE_PORT_P4).loc, (F.WVE_PORT_P5).loc, (F.WVE_REPAIR).loc, (F.WVE_REPLAY).loc, (F.WVE_TAG_ERR).loc]) : (b.weaveReceive p f).rd qq = b.rd qq := by
  simp at hq
  simp [Bay.weaveReceive, hq]

@[simp] theorem Bay.retransmit_rd (b : Bay) (acked : List (Nat × Nat × Nat)) {qq : Key} (hq : qq.loc ∉ [(F.WVE_RETX).loc]) : (b.retransmit acked).rd qq = b.rd qq := by
  simp at hq
  unfold Bay.retransmit
  repeat' (first | done | simp [hq] | split | intro _ | refine (Bay.each_rd (fun b n => ?_) _ _).trans ?_ | refine (Bay.onlyIf_rd (fun b => ?_) _ _).trans ?_ | refine (Bay.foldl_rd (fun b n => ?_) _ _).trans ?_ | refine Bay.gated_rd _ _ (by simp [hq]) ?_)

@[simp] theorem Bay.bindSerial_rd (b : Bay) (ser : Int) (st : Option Nat) {qq : Key} (hq : qq.loc ∉ [(F.BIND_BOUND 0).loc, (F.BIND_SER 0).loc, (F.EVT_STAT_LOST).loc]) :
    (b.bindSerial ser st).1.rd qq = b.rd qq := by
  simp at hq
  simp only [Bay.bindSerial]; repeat' split
  all_goals simp [hq]

@[simp] theorem Bay.discover_rd (b : Bay) {qq : Key} (hq : qq.loc ∉ [(F.BIND_BOUND 0).loc, (F.BIND_SER 0).loc, (F.EVT_STAT_LOST).loc, (F.WVE_STAT_DISC_BUSY).loc]) : (b.discover).rd qq = b.rd qq := by
  simp at hq
  unfold Bay.discover
  repeat' (first | done | simp [hq] | split | intro _ | refine (Bay.each_rd (fun b n => ?_) _ _).trans ?_ | refine (Bay.onlyIf_rd (fun b => ?_) _ _).trans ?_ | refine (Bay.foldl_rd (fun b n => ?_) _ _).trans ?_ | refine Bay.gated_rd _ _ (by simp [hq]) ?_)

@[simp] theorem Bay.announce_rd (b : Bay) (ser : Int) (stored : Option Nat) (peers : List PortPeer) {qq : Key} (hq : qq.loc ∉ [(F.BIND_BOUND 0).loc, (F.BIND_SER 0).loc, (F.EVT_STAT_LOST).loc]) : (b.announce ser stored peers).rd qq = b.rd qq := by
  simp at hq
  unfold Bay.announce
  repeat' (first | done | simp [hq] | split | intro _ | refine (Bay.each_rd (fun b n => ?_) _ _).trans ?_ | refine (Bay.onlyIf_rd (fun b => ?_) _ _).trans ?_ | refine (Bay.foldl_rd (fun b n => ?_) _ _).trans ?_ | refine Bay.gated_rd _ _ (by simp [hq]) ?_)

@[simp] theorem Bay.sendTables_rd (b : Bay) {qq : Key} : (b.sendTables).rd qq = b.rd qq := by
  unfold Bay.sendTables
  repeat' (first | done | simp  | split | intro _ | refine (Bay.each_rd (fun b n => ?_) _ _).trans ?_ | refine (Bay.onlyIf_rd (fun b => ?_) _ _).trans ?_ | refine (Bay.foldl_rd (fun b n => ?_) _ _).trans ?_)

@[simp] theorem Bay.remap_rd (b : Bay) {qq : Key} : (b.remap).rd qq = b.rd qq := by
  unfold Bay.remap
  repeat' (first | done | simp  | split | intro _ | refine (Bay.each_rd (fun b n => ?_) _ _).trans ?_ | refine (Bay.onlyIf_rd (fun b => ?_) _ _).trans ?_ | refine (Bay.foldl_rd (fun b n => ?_) _ _).trans ?_)

@[simp] theorem Bay.discoveryEnd_rd (b : Bay) {qq : Key} (hq : qq.loc ∉ [(F.EVT_STAT_LOST).loc, (F.WVE_DIAM_A).loc, (F.WVE_DIAM_B).loc, (F.WVE_STAT_DIAM_OVER).loc, (F.WVE_STAT_DISC_BUSY).loc]) : (b.discoveryEnd).rd qq = b.rd qq := by
  simp at hq
  simp [Bay.discoveryEnd, hq]

@[simp] theorem Bay.unbind_rd (b : Bay) (a : Nat) {qq : Key} (hq : qq.loc ∉ [(F.BIND_BOUND 0).loc, (F.BIND_SER 0).loc, (F.EVT_STAT_LOST).loc]) : (b.unbind a).rd qq = b.rd qq := by
  simp at hq
  simp [Bay.unbind, hq]

@[simp] theorem Bay.sendRemote_rd (b : Bay) (e : EvEntry) {qq : Key} : (b.sendRemote e).rd qq = b.rd qq := by
  simp [Bay.sendRemote]

@[simp] theorem Bay.unholdAll_rd (b : Bay) {qq : Key} : (b.unholdAll).rd qq = b.rd qq := by
  simp [Bay.unholdAll]

@[simp] theorem Bay.closeSession_rd (b : Bay) (i : Nat) {qq : Key} (hq : qq.loc ∉ [(F.EVT_STAT_LOST).loc]) : (b.closeSession i).rd qq = b.rd qq := by
  simp at hq
  simp [Bay.closeSession, hq]

@[simp] theorem Bay.dropLostSessions_rd (b : Bay) {qq : Key} (hq : qq.loc ∉ [(F.EVT_STAT_LOST).loc]) : (b.dropLostSessions).rd qq = b.rd qq := by
  simp at hq
  unfold Bay.dropLostSessions
  repeat' (first | done | simp [hq] | split | intro _ | refine (Bay.each_rd (fun b n => ?_) _ _).trans ?_ | refine (Bay.onlyIf_rd (fun b => ?_) _ _).trans ?_ | refine (Bay.foldl_rd (fun b n => ?_) _ _).trans ?_ | refine Bay.gated_rd _ _ (by simp [hq]) ?_)

@[simp] theorem Bay.takeRim_rd (b : Bay) {qq : Key} (hq : qq.loc ∉ [(F.BIND_BOUND 0).loc, (F.BIND_SER 0).loc, (F.EVT_STAT_LOST).loc, (F.TIME_STAT_MASTER).loc, (F.WVE_STAT_DISC_BUSY).loc, (F.WVE_STAT_RIM).loc, (F.WVE_STAT_RIM_NODE).loc]) : (b.takeRim).rd qq = b.rd qq := by
  simp at hq
  simp [Bay.takeRim, hq]

@[simp] theorem Bay.dropRim_rd (b : Bay) {qq : Key} (hq : qq.loc ∉ [(F.EVT_STAT_LOST).loc, (F.WVE_STAT_DISC_BUSY).loc, (F.WVE_STAT_RIM).loc]) : (b.dropRim).rd qq = b.rd qq := by
  simp at hq
  simp [Bay.dropRim, hq]

@[simp] theorem Bay.heartbeat_rd (b : Bay) (node : Nat) (ser : Int) (primary : Bool) {qq : Key} (hq : qq.loc ∉ [(F.EVT_STAT_LOST).loc, (F.WVE_STAT_DISC_BUSY).loc, (F.WVE_STAT_RIM).loc, (F.WVE_STAT_RIM_NODE).loc]) : (b.heartbeat node ser primary).rd qq = b.rd qq := by
  simp at hq
  simp only [Bay.heartbeat]
  repeat' (first | done | split)
  all_goals simp [hq]

@[simp] theorem Bay.takeAddr_rd (b : Bay) {qq : Key} (hq : qq.loc ∉ [(F.BAY_NODE_ADDR).loc, (F.EVT_STAT_LOST).loc, (F.WVE_STAT_BOUND).loc, (F.WVE_STAT_NODE).loc]) : (b.takeAddr).rd qq = b.rd qq := by
  simp at hq
  unfold Bay.takeAddr
  repeat' (first | done | simp [hq] | split | intro _ | refine (Bay.each_rd (fun b n => ?_) _ _).trans ?_ | refine (Bay.onlyIf_rd (fun b => ?_) _ _).trans ?_ | refine (Bay.foldl_rd (fun b n => ?_) _ _).trans ?_ | refine Bay.gated_rd _ _ (by simp [hq]) ?_)

@[simp] theorem Bay.takeTables_rd (b : Bay) {qq : Key} (hq : qq.grp ∉ [.rta, .rtb]) : (b.takeTables).rd qq = b.rd qq := by
  simp at hq
  unfold Bay.takeTables
  repeat' (first | done | simp [hq] | split | intro _ | refine (Bay.each_rd (fun b n => ?_) _ _).trans ?_ | refine (Bay.onlyIf_rd (fun b => ?_) _ _).trans ?_ | refine (Bay.foldl_rd (fun b n => ?_) _ _).trans ?_ | refine Bay.gated_rd _ _ (by simp [hq]) ?_)

@[simp] theorem Bay.rimRole_rd (b : Bay) {qq : Key} (hq : qq.loc ∉ [(F.BAY_NODE_BACKUP).loc, (F.BAY_NODE_PRIMARY).loc, (F.EVT_STAT_LOST).loc, (F.WVE_STAT_DISC_BUSY).loc, (F.WVE_STAT_RIM).loc]) : (b.rimRole).rd qq = b.rd qq := by
  simp at hq
  unfold Bay.rimRole
  repeat' (first | done | simp [hq] | split | intro _ | refine (Bay.each_rd (fun b n => ?_) _ _).trans ?_ | refine (Bay.onlyIf_rd (fun b => ?_) _ _).trans ?_ | refine (Bay.foldl_rd (fun b n => ?_) _ _).trans ?_ | refine Bay.gated_rd _ _ (by simp [hq]) ?_)

@[simp] theorem Bay.discoverEdge_rd (b : Bay) {qq : Key} (hq : qq.loc ∉ [(F.BIND_BOUND 0).loc, (F.BIND_SER 0).loc, (F.EVT_STAT_LOST).loc, (F.WVE_DIAM_A).loc, (F.WVE_DIAM_B).loc, (F.WVE_STAT_DIAM_OVER).loc, (F.WVE_STAT_DISC_BUSY).loc]) : (b.discoverEdge).rd qq = b.rd qq := by
  simp at hq
  unfold Bay.discoverEdge
  repeat' (first | done | simp [hq] | split | intro _ | refine (Bay.each_rd (fun b n => ?_) _ _).trans ?_ | refine (Bay.onlyIf_rd (fun b => ?_) _ _).trans ?_ | refine (Bay.foldl_rd (fun b n => ?_) _ _).trans ?_ | refine Bay.gated_rd _ _ (by simp [hq]) ?_)

@[simp] theorem Bay.reachEdge_rd (b : Bay) {qq : Key} (hq : qq.loc ∉ [(F.BIND_REACH_A 0).loc, (F.BIND_REACH_B 0).loc, (F.TIME_STAT_MASTER).loc, (F.WVE_STAT_A_OK).loc, (F.WVE_STAT_B_OK).loc, (F.WVE_STAT_RIM_NODE).loc]) : (b.reachEdge).rd qq = b.rd qq := by
  simp at hq
  unfold Bay.reachEdge
  repeat' (first | done | simp [hq] | split | intro _ | refine (Bay.each_rd (fun b n => ?_) _ _).trans ?_ | refine (Bay.onlyIf_rd (fun b => ?_) _ _).trans ?_ | refine (Bay.foldl_rd (fun b n => ?_) _ _).trans ?_ | refine Bay.gated_rd _ _ (by simp [hq]) ?_)

@[simp] theorem Bay.weaveEdge_rd (b : Bay) {qq : Key} (hq : qq.grp ∉ [.rta, .rtb] ∧ qq.loc ∉ [(F.BAY_NODE_ADDR).loc, (F.BAY_NODE_BACKUP).loc, (F.BAY_NODE_PRIMARY).loc, (F.BIND_BOUND 0).loc, (F.BIND_REACH_A 0).loc, (F.BIND_REACH_B 0).loc, (F.BIND_SER 0).loc, (F.EVT_STAT_LOST).loc, (F.TIME_STAT_MASTER).loc, (F.WVE_DIAM_A).loc, (F.WVE_DIAM_B).loc, (F.WVE_STAT_A_OK).loc, (F.WVE_STAT_BOUND).loc, (F.WVE_STAT_B_OK).loc, (F.WVE_STAT_DIAM_OVER).loc, (F.WVE_STAT_DISC_BUSY).loc, (F.WVE_STAT_NODE).loc, (F.WVE_STAT_RIM).loc, (F.WVE_STAT_RIM_NODE).loc]) : (b.weaveEdge).rd qq = b.rd qq := by
  simp at hq
  unfold Bay.weaveEdge
  repeat' (first | done | simp [hq] | split | intro _ | refine (Bay.each_rd (fun b n => ?_) _ _).trans ?_ | refine (Bay.onlyIf_rd (fun b => ?_) _ _).trans ?_ | refine (Bay.foldl_rd (fun b n => ?_) _ _).trans ?_ | refine Bay.gated_rd _ _ (by simp [hq]) ?_)

@[simp] theorem Bay.setZN_rd (b : Bay) (c : Nat) (v : Int) {qq : Key} (hq : qq.loc ∉ [(F.ENG_STAT_N 0).loc, (F.ENG_STAT_Z 0).loc]) : (b.setZN c v).rd qq = b.rd qq := by
  simp at hq
  simp [Bay.setZN, hq]

@[simp] theorem Bay.setC_rd (b : Bay) (c : Nat) (v : Bool) {qq : Key} (hq : qq.loc ∉ [(F.ENG_STAT_C 0).loc]) : (b.setC c v).rd qq = b.rd qq := by
  simp at hq
  simp [Bay.setC, hq]

@[simp] theorem Bay.setK_rd (b : Bay) (c i : Nat) (v : Int) {qq : Key} (hq : qq.grp ∉ [.eng]) : (b.setK c i v).rd qq = b.rd qq := by
  simp at hq
  simp [Bay.setK, hq]

@[simp] theorem Bay.openTurn_rd (b : Bay) (c : Nat) {qq : Key} : (b.openTurn c).rd qq = b.rd qq := by
  unfold Bay.openTurn
  repeat' (first | done | simp  | split | intro _ | refine (Bay.each_rd (fun b n => ?_) _ _).trans ?_ | refine (Bay.onlyIf_rd (fun b => ?_) _ _).trans ?_ | refine (Bay.foldl_rd (fun b n => ?_) _ _).trans ?_)

@[simp] theorem Bay.command_rd (b : Bay) (c : Nat) (x : EngCmd) {qq : Key} : (b.command c x).rd qq = b.rd qq := by
  simp [Bay.command]

@[simp] theorem Bay.wrote_rd (b : Bay) (c k : Nat) (t : Direct) {qq : Key} : (b.wrote c k t).rd qq = b.rd qq := by
  unfold Bay.wrote
  repeat' (first | done | simp  | split | intro _ | refine (Bay.each_rd (fun b n => ?_) _ _).trans ?_ | refine (Bay.onlyIf_rd (fun b => ?_) _ _).trans ?_ | refine (Bay.foldl_rd (fun b n => ?_) _ _).trans ?_)

@[simp] theorem Bay.waittTick_rd (b : Bay) (c : Nat) {qq : Key} (hq : qq.loc ∉ [(F.ENG_PC 0).loc, (F.ENG_STAT_JOINED 0).loc, (F.ENG_STAT_STATE 0).loc, (F.ENG_STAT_Z 0).loc, (F.SKN_STAT_ACTIVE).loc]) : (b.waittTick c).rd qq = b.rd qq := by
  simp at hq
  simp only [Bay.waittTick]
  repeat' (first | done | split)
  all_goals simp [hq]

@[simp] theorem Bay.waitSeen_rd (b : Bay) (c : Nat) {qq : Key} (hq : qq.loc ∉ [(F.ENG_PC 0).loc, (F.ENG_STAT_JOINED 0).loc, (F.ENG_STAT_STATE 0).loc, (F.ENG_STAT_Z 0).loc, (F.SKN_STAT_ACTIVE).loc]) : (b.waitSeen c).rd qq = b.rd qq := by
  simp at hq
  unfold Bay.waitSeen
  repeat' (first | done | simp [hq] | split | intro _ | refine (Bay.each_rd (fun b n => ?_) _ _).trans ?_ | refine (Bay.onlyIf_rd (fun b => ?_) _ _).trans ?_ | refine (Bay.foldl_rd (fun b n => ?_) _ _).trans ?_ | refine Bay.gated_rd _ _ (by simp [hq]) ?_)

@[simp] theorem Bay.arrive_rd (b : Bay) (g stake chan ts : Nat) {qq : Key} (hq : qq.loc ∉ [(F.GRP_STAT_ARRIVED 0).loc]) : (b.arrive g stake chan ts).rd qq = b.rd qq := by
  simp at hq
  simp [Bay.arrive, hq]

@[simp] theorem Bay.arriveHere_rd (b : Bay) (c g : Nat) {qq : Key} (hq : qq.loc ∉ [(F.GRP_STAT_ARRIVED 0).loc]) : (b.arriveHere c g).rd qq = b.rd qq := by
  simp at hq
  simp [Bay.arriveHere, hq]

@[simp] theorem Bay.endBy_rd (b : Bay) (c : Nat) (l : List Nat) {qq : Key} (hq : qq.loc ∉ [(F.CHN_REC_FILL 0).loc, (F.CHN_REC_STAT_DROPPED 0).loc, (F.CHN_REC_STAT_FULL 0).loc, (F.CHN_REC_STAT_WARN 0).loc, (F.CHN_REG_STAT_CLR_ARMED 0).loc, (F.CHN_REG_STAT_HOLD_CAUSE 0).loc, (F.CHN_REG_STAT_MODE 0).loc, (F.CHN_REG_STAT_QUALIFYING 0).loc, (F.CHN_REG_STAT_TO 0).loc, (F.CHN_REG_STAT_TOPOFF 0).loc, (F.CHN_REG_STAT_TRM 0).loc, (F.CHN_REG_STAT_WATCH 0).loc, (F.CHN_STEP_END_ALSO 0).loc, (F.CHN_STEP_END_CAUSE 0).loc, (F.EISCH_STAT_END 0).loc, (F.EISCH_STAT_PFLAGS 0).loc, (F.EISCH_STAT_RUN 0).loc, (F.EISCH_STAT_SETTLE 0).loc, (F.EIS_STAT_SWEEPING).loc, (F.EVT_STAT_LOST).loc]) : (b.endBy c l).rd qq = b.rd qq := by
  simp at hq
  simp only [Bay.endBy]
  repeat' (first | done | split)
  all_goals simp [hq]

@[simp] theorem Bay.evalStep_rd (b : Bay) (c : Nat) {qq : Key} (hq : qq.loc ∉ [(F.CHN_REC_FILL 0).loc, (F.CHN_REC_STAT_DROPPED 0).loc, (F.CHN_REC_STAT_FULL 0).loc, (F.CHN_REC_STAT_WARN 0).loc, (F.CHN_REG_STAT_CLR_ARMED 0).loc, (F.CHN_REG_STAT_HOLD_CAUSE 0).loc, (F.CHN_REG_STAT_MODE 0).loc, (F.CHN_REG_STAT_QUALIFYING 0).loc, (F.CHN_REG_STAT_TO 0).loc, (F.CHN_REG_STAT_TOPOFF 0).loc, (F.CHN_REG_STAT_TRM 0).loc, (F.CHN_REG_STAT_WATCH 0).loc, (F.CHN_STEP_END_ALSO 0).loc, (F.CHN_STEP_END_CAUSE 0).loc, (F.EISCH_STAT_END 0).loc, (F.EISCH_STAT_PFLAGS 0).loc, (F.EISCH_STAT_RUN 0).loc, (F.EISCH_STAT_SETTLE 0).loc, (F.EIS_STAT_SWEEPING).loc, (F.EVT_STAT_LOST).loc]) : (b.evalStep c).rd qq = b.rd qq := by
  simp at hq
  simp [Bay.evalStep, hq]

@[simp] theorem Bay.evalFast_rd (b : Bay) (c : Nat) {qq : Key} (hq : qq.loc ∉ [(F.CHN_REC_FILL 0).loc, (F.CHN_REC_STAT_DROPPED 0).loc, (F.CHN_REC_STAT_FULL 0).loc, (F.CHN_REC_STAT_WARN 0).loc, (F.CHN_REG_STAT_CLR_ARMED 0).loc, (F.CHN_REG_STAT_HOLD_CAUSE 0).loc, (F.CHN_REG_STAT_MODE 0).loc, (F.CHN_REG_STAT_QUALIFYING 0).loc, (F.CHN_REG_STAT_TO 0).loc, (F.CHN_REG_STAT_TOPOFF 0).loc, (F.CHN_REG_STAT_TRM 0).loc, (F.CHN_REG_STAT_WATCH 0).loc, (F.CHN_STEP_END_ALSO 0).loc, (F.CHN_STEP_END_CAUSE 0).loc, (F.EISCH_STAT_END 0).loc, (F.EISCH_STAT_PFLAGS 0).loc, (F.EISCH_STAT_RUN 0).loc, (F.EISCH_STAT_SETTLE 0).loc, (F.EIS_STAT_SWEEPING).loc, (F.EVT_STAT_LOST).loc]) : (b.evalFast c).rd qq = b.rd qq := by
  simp at hq
  simp [Bay.evalFast, hq]

@[simp] theorem Bay.qualTick_rd (b : Bay) (c : Nat) {qq : Key} (hq : qq.loc ∉ [(F.CHN_QUAL 0).loc, (F.CHN_REG_STAT_QUALIFYING 0).loc]) : (b.qualTick c).rd qq = b.rd qq := by
  simp at hq
  simp [Bay.qualTick, hq]

@[simp] theorem Bay.safeTick_rd (b : Bay) (c : Nat) {qq : Key} (hq : qq.loc ∉ [(F.CHN_SFT 0).loc, (F.CHN_SFT_EXT 0).loc]) : (b.safeTick c).rd qq = b.rd qq := by
  simp at hq
  simp [Bay.safeTick, hq]

@[simp] theorem Bay.topoffStart_rd (b : Bay) (c : Nat) {qq : Key} (hq : qq.loc ∉ [(F.CHN_REC_FILL 0).loc, (F.CHN_REC_STAT_DROPPED 0).loc, (F.CHN_REC_STAT_FULL 0).loc, (F.CHN_REC_STAT_WARN 0).loc, (F.CHN_REG_STAT_TOPOFF 0).loc, (F.CHN_REG_STAT_TRM 0).loc, (F.EVT_STAT_LOST).loc]) : (b.topoffStart c).rd qq = b.rd qq := by
  simp at hq
  simp [Bay.topoffStart, hq]

@[simp] theorem Bay.topoffEnd_rd (b : Bay) (c : Nat) {qq : Key} (hq : qq.loc ∉ [(F.CHN_REC_FILL 0).loc, (F.CHN_REC_STAT_DROPPED 0).loc, (F.CHN_REC_STAT_FULL 0).loc, (F.CHN_REC_STAT_WARN 0).loc, (F.CHN_REG_STAT_CLR_ARMED 0).loc, (F.CHN_REG_STAT_HOLD_CAUSE 0).loc, (F.CHN_REG_STAT_MODE 0).loc, (F.CHN_REG_STAT_QUALIFYING 0).loc, (F.CHN_REG_STAT_TOPOFF 0).loc, (F.CHN_REG_STAT_WATCH 0).loc, (F.CHN_STEP_END_ALSO 0).loc, (F.CHN_STEP_END_CAUSE 0).loc, (F.EISCH_STAT_END 0).loc, (F.EISCH_STAT_PFLAGS 0).loc, (F.EISCH_STAT_RUN 0).loc, (F.EISCH_STAT_SETTLE 0).loc, (F.EIS_STAT_SWEEPING).loc, (F.EVT_STAT_LOST).loc]) : (b.topoffEnd c).rd qq = b.rd qq := by
  simp at hq
  simp [Bay.topoffEnd, hq]

@[simp] theorem Bay.recharge_rd (b : Bay) (c : Nat) {qq : Key} (hq : qq.loc ∉ [(F.CHN_LEG_CNT 0).loc, (F.CHN_QUAL 0).loc, (F.CHN_REC_FILL 0).loc, (F.CHN_REC_STAT_DROPPED 0).loc, (F.CHN_REC_STAT_FULL 0).loc, (F.CHN_REC_STAT_LOST 0).loc, (F.CHN_REC_STAT_WARN 0).loc, (F.CHN_REG_STAT_HOLD_CAUSE 0).loc, (F.CHN_REG_STAT_LIM 0).loc, (F.CHN_REG_STAT_MODE 0).loc, (F.CHN_REG_STAT_TO 0).loc, (F.CHN_REG_STAT_TRM 0).loc, (F.CHN_REG_STAT_WATCH 0).loc, (F.CHN_SFT 0).loc, (F.CHN_SFT_EXT 0).loc, (F.CHN_TMR 0).loc, (F.EVT_STAT_LOST).loc]) : (b.recharge c).rd qq = b.rd qq := by
  simp at hq
  simp [Bay.recharge, hq]

@[simp] theorem Bay.watchTick_rd (b : Bay) (c : Nat) {qq : Key} (hq : qq.loc ∉ [(F.CHN_LEG_CNT 0).loc, (F.CHN_QUAL 0).loc, (F.CHN_REC_FILL 0).loc, (F.CHN_REC_STAT_DROPPED 0).loc, (F.CHN_REC_STAT_FULL 0).loc, (F.CHN_REC_STAT_LOST 0).loc, (F.CHN_REC_STAT_WARN 0).loc, (F.CHN_REG_STAT_HOLD_CAUSE 0).loc, (F.CHN_REG_STAT_LIM 0).loc, (F.CHN_REG_STAT_MODE 0).loc, (F.CHN_REG_STAT_TO 0).loc, (F.CHN_REG_STAT_TRM 0).loc, (F.CHN_REG_STAT_WATCH 0).loc, (F.CHN_SFT 0).loc, (F.CHN_SFT_EXT 0).loc, (F.CHN_TMR 0).loc, (F.EVT_STAT_LOST).loc]) : (b.watchTick c).rd qq = b.rd qq := by
  simp at hq
  simp [Bay.watchTick, hq]

@[simp] theorem Bay.takeMeans_rd (b : Bay) (c : Nat) {qq : Key} : (b.takeMeans c).rd qq = b.rd qq := by
  simp [Bay.takeMeans]

@[simp] theorem Bay.timers_rd (b : Bay) (c : Nat) {qq : Key} (hq : qq.loc ∉ [(F.CHN_LEG_CNT 0).loc, (F.CHN_QUAL 0).loc, (F.CHN_REC_FILL 0).loc, (F.CHN_REC_STAT_DROPPED 0).loc, (F.CHN_REC_STAT_FULL 0).loc, (F.CHN_REC_STAT_LOST 0).loc, (F.CHN_REC_STAT_WARN 0).loc, (F.CHN_REG_STAT_HOLD_CAUSE 0).loc, (F.CHN_REG_STAT_LIM 0).loc, (F.CHN_REG_STAT_MODE 0).loc, (F.CHN_REG_STAT_QUALIFYING 0).loc, (F.CHN_REG_STAT_TO 0).loc, (F.CHN_REG_STAT_TRM 0).loc, (F.CHN_REG_STAT_WATCH 0).loc, (F.CHN_SFT 0).loc, (F.CHN_SFT_EXT 0).loc, (F.CHN_TMR 0).loc, (F.EVT_STAT_LOST).loc]) : (b.timers c).rd qq = b.rd qq := by
  simp at hq
  simp [Bay.timers, hq]

@[simp] theorem Bay.chanTick_rd (b : Bay) (c : Nat) {qq : Key} (hq : qq.loc ∉ [(F.CHN_LEG_CNT 0).loc, (F.CHN_QUAL 0).loc, (F.CHN_REC_FILL 0).loc, (F.CHN_REC_STAT_DROPPED 0).loc, (F.CHN_REC_STAT_FULL 0).loc, (F.CHN_REC_STAT_LOST 0).loc, (F.CHN_REC_STAT_WARN 0).loc, (F.CHN_REG_STAT_CLR_ARMED 0).loc, (F.CHN_REG_STAT_HOLD_CAUSE 0).loc, (F.CHN_REG_STAT_LIM 0).loc, (F.CHN_REG_STAT_MODE 0).loc, (F.CHN_REG_STAT_QUALIFYING 0).loc, (F.CHN_REG_STAT_TO 0).loc, (F.CHN_REG_STAT_TOPOFF 0).loc, (F.CHN_REG_STAT_TRM 0).loc, (F.CHN_REG_STAT_WATCH 0).loc, (F.CHN_SFT 0).loc, (F.CHN_SFT_EXT 0).loc, (F.CHN_STEP_END_ALSO 0).loc, (F.CHN_STEP_END_CAUSE 0).loc, (F.CHN_TMR 0).loc, (F.EISCH_STAT_END 0).loc, (F.EISCH_STAT_PFLAGS 0).loc, (F.EISCH_STAT_RUN 0).loc, (F.EISCH_STAT_SETTLE 0).loc, (F.EIS_STAT_SWEEPING).loc, (F.EVT_STAT_LOST).loc]) : (b.chanTick c).rd qq = b.rd qq := by
  simp at hq
  simp [Bay.chanTick, hq]

@[simp] theorem Bay.waitTick_rd (b : Bay) (c : Nat) {qq : Key} (hq : qq.loc ∉ [(F.ENG_PC 0).loc, (F.ENG_STAT_JOINED 0).loc, (F.ENG_STAT_STATE 0).loc, (F.ENG_STAT_Z 0).loc, (F.SKN_STAT_ACTIVE).loc]) : (b.waitTick c).rd qq = b.rd qq := by
  simp at hq
  simp only [Bay.waitTick]
  repeat' (first | done | split)
  all_goals simp [hq]

@[simp] theorem Bay.x60Tick_rd (b : Bay) (a : Nat) (v : Int) {qq : Key} (hq : qq.loc ∉ [(F.AXS_X60_IN 0).loc]) : (b.x60Tick a v).rd qq = b.rd qq := by
  simp at hq
  unfold Bay.x60Tick
  repeat' (first | done | simp [hq] | split | intro _ | refine (Bay.each_rd (fun b n => ?_) _ _).trans ?_ | refine (Bay.onlyIf_rd (fun b => ?_) _ _).trans ?_ | refine (Bay.foldl_rd (fun b n => ?_) _ _).trans ?_ | refine Bay.gated_rd _ _ (by simp [hq]) ?_)

@[simp] theorem Bay.pulseEdge_rd (b : Bay) (c : Nat) {qq : Key} : (b.pulseEdge c).rd qq = b.rd qq := by
  unfold Bay.pulseEdge
  repeat' (first | done | simp  | split | intro _ | refine (Bay.each_rd (fun b n => ?_) _ _).trans ?_ | refine (Bay.onlyIf_rd (fun b => ?_) _ _).trans ?_ | refine (Bay.foldl_rd (fun b n => ?_) _ _).trans ?_)

@[simp] theorem Bay.enterZone_rd (b : Bay) (c : Nat) (p : Params) {qq : Key} (hq : qq.loc ∉ [(F.CHN_REC_FILL 0).loc, (F.CHN_REC_STAT_DROPPED 0).loc, (F.CHN_REC_STAT_FULL 0).loc, (F.CHN_REC_STAT_WARN 0).loc, (F.CHN_REG_STAT_CLR_ARMED 0).loc, (F.CHN_REG_STAT_HOLD_CAUSE 0).loc, (F.CHN_REG_STAT_MODE 0).loc, (F.CHN_REG_STAT_WATCH 0).loc, (F.EISCH_STAT_END 0).loc, (F.EISCH_STAT_PFLAGS 0).loc, (F.EISCH_STAT_RUN 0).loc, (F.EISCH_STAT_SETTLE 0).loc, (F.EIS_STAT_SWEEPING).loc, (F.EVT_STAT_LOST).loc]) : (b.enterZone c p).rd qq = b.rd qq := by
  simp at hq
  unfold Bay.enterZone
  repeat' (first | done | simp [hq] | split | intro _ | refine (Bay.each_rd (fun b n => ?_) _ _).trans ?_ | refine (Bay.onlyIf_rd (fun b => ?_) _ _).trans ?_ | refine (Bay.foldl_rd (fun b n => ?_) _ _).trans ?_ | refine Bay.gated_rd _ _ (by simp [hq]) ?_)

@[simp] theorem Bay.testZone_rd (b : Bay) (c : Nat) (p : Params) {qq : Key} (hq : qq.loc ∉ [(F.CHN_REC_FILL 0).loc, (F.CHN_REC_STAT_DROPPED 0).loc, (F.CHN_REC_STAT_FULL 0).loc, (F.CHN_REC_STAT_WARN 0).loc, (F.CHN_REG_STAT_CLR_ARMED 0).loc, (F.CHN_REG_STAT_HOLD_CAUSE 0).loc, (F.CHN_REG_STAT_MODE 0).loc, (F.CHN_REG_STAT_QUALIFYING 0).loc, (F.CHN_REG_STAT_TO 0).loc, (F.CHN_REG_STAT_TOPOFF 0).loc, (F.CHN_REG_STAT_TRM 0).loc, (F.CHN_REG_STAT_WATCH 0).loc, (F.CHN_STEP_END_ALSO 0).loc, (F.CHN_STEP_END_CAUSE 0).loc, (F.EISCH_STAT_END 0).loc, (F.EISCH_STAT_PFLAGS 0).loc, (F.EISCH_STAT_RUN 0).loc, (F.EISCH_STAT_SETTLE 0).loc, (F.EIS_STAT_SWEEPING).loc, (F.ENG_FRZ_CAUSE 0).loc, (F.ENG_FRZ_DETAIL 0).loc, (F.ENG_STAT_CLR_ARMED 0).loc, (F.ENG_STAT_STATE 0).loc, (F.EVT_STAT_LOST).loc, (F.SKN_STAT_ACTIVE).loc]) : (b.testZone c p).rd qq = b.rd qq := by
  simp at hq
  unfold Bay.testZone
  repeat' (first | done | simp [hq] | split | intro _ | refine (Bay.each_rd (fun b n => ?_) _ _).trans ?_ | refine (Bay.onlyIf_rd (fun b => ?_) _ _).trans ?_ | refine (Bay.foldl_rd (fun b n => ?_) _ _).trans ?_ | refine Bay.gated_rd _ _ (by simp [hq]) ?_)

@[simp] theorem Bay.zoneChange_rd (b : Bay) (c : Nat) {qq : Key} (hq : qq.loc ∉ [(F.CHN_QUAL 0).loc, (F.CHN_REC_FILL 0).loc, (F.CHN_REC_STAT_DROPPED 0).loc, (F.CHN_REC_STAT_FULL 0).loc, (F.CHN_REC_STAT_WARN 0).loc, (F.CHN_REG_STAT_CLR_ARMED 0).loc, (F.CHN_REG_STAT_HOLD_CAUSE 0).loc, (F.CHN_REG_STAT_MODE 0).loc, (F.CHN_REG_STAT_QUALIFYING 0).loc, (F.CHN_REG_STAT_TO 0).loc, (F.CHN_REG_STAT_TOPOFF 0).loc, (F.CHN_REG_STAT_TRM 0).loc, (F.CHN_REG_STAT_WATCH 0).loc, (F.CHN_REG_STAT_ZONE 0).loc, (F.CHN_STEP_END_ALSO 0).loc, (F.CHN_STEP_END_CAUSE 0).loc, (F.EISCH_STAT_END 0).loc, (F.EISCH_STAT_PFLAGS 0).loc, (F.EISCH_STAT_RUN 0).loc, (F.EISCH_STAT_SETTLE 0).loc, (F.EIS_STAT_SWEEPING).loc, (F.ENG_FRZ_CAUSE 0).loc, (F.ENG_FRZ_DETAIL 0).loc, (F.ENG_STAT_CLR_ARMED 0).loc, (F.ENG_STAT_STATE 0).loc, (F.EVT_STAT_LOST).loc, (F.SKN_STAT_ACTIVE).loc]) : (b.zoneChange c).rd qq = b.rd qq := by
  simp at hq
  simp only [Bay.zoneChange]
  repeat' (first | done | split)
  all_goals simp [hq]

@[simp] theorem Bay.zoneEdge_rd (b : Bay) (c : Nat) {qq : Key} (hq : qq.loc ∉ [(F.CHN_QUAL 0).loc, (F.CHN_REC_FILL 0).loc, (F.CHN_REC_STAT_DROPPED 0).loc, (F.CHN_REC_STAT_FULL 0).loc, (F.CHN_REC_STAT_WARN 0).loc, (F.CHN_REG_STAT_CLR_ARMED 0).loc, (F.CHN_REG_STAT_HOLD_CAUSE 0).loc, (F.CHN_REG_STAT_MODE 0).loc, (F.CHN_REG_STAT_QUALIFYING 0).loc, (F.CHN_REG_STAT_TO 0).loc, (F.CHN_REG_STAT_TOPOFF 0).loc, (F.CHN_REG_STAT_TRM 0).loc, (F.CHN_REG_STAT_WATCH 0).loc, (F.CHN_REG_STAT_ZONE 0).loc, (F.CHN_STEP_END_ALSO 0).loc, (F.CHN_STEP_END_CAUSE 0).loc, (F.EISCH_STAT_END 0).loc, (F.EISCH_STAT_PFLAGS 0).loc, (F.EISCH_STAT_RUN 0).loc, (F.EISCH_STAT_SETTLE 0).loc, (F.EIS_STAT_SWEEPING).loc, (F.ENG_FRZ_CAUSE 0).loc, (F.ENG_FRZ_DETAIL 0).loc, (F.ENG_STAT_CLR_ARMED 0).loc, (F.ENG_STAT_STATE 0).loc, (F.EVT_STAT_LOST).loc, (F.SKN_STAT_ACTIVE).loc]) : (b.zoneEdge c).rd qq = b.rd qq := by
  simp at hq
  unfold Bay.zoneEdge
  repeat' (first | done | simp [hq] | split | intro _ | refine (Bay.each_rd (fun b n => ?_) _ _).trans ?_ | refine (Bay.onlyIf_rd (fun b => ?_) _ _).trans ?_ | refine (Bay.foldl_rd (fun b n => ?_) _ _).trans ?_ | refine Bay.gated_rd _ _ (by simp [hq]) ?_)

@[simp] theorem Bay.cellTempUpdate_rd (b : Bay) (c : Nat) {qq : Key} (hq : qq.loc ∉ [(F.CHN_REC_FILL 0).loc, (F.CHN_REC_STAT_DROPPED 0).loc, (F.CHN_REC_STAT_FULL 0).loc, (F.CHN_REC_STAT_WARN 0).loc, (F.CHN_REG_STAT_CLR_ARMED 0).loc, (F.CHN_REG_STAT_HOLD_CAUSE 0).loc, (F.CHN_REG_STAT_MODE 0).loc, (F.CHN_REG_STAT_WATCH 0).loc, (F.CHN_T_ZONE 0).loc, (F.EISCH_STAT_END 0).loc, (F.EISCH_STAT_PFLAGS 0).loc, (F.EISCH_STAT_RUN 0).loc, (F.EISCH_STAT_SETTLE 0).loc, (F.EIS_STAT_SWEEPING).loc, (F.EVT_STAT_LOST).loc]) : (b.cellTempUpdate c).rd qq = b.rd qq := by
  simp at hq
  simp only [Bay.cellTempUpdate]
  repeat' (first | done | split)
  all_goals simp [hq]

@[simp] theorem Bay.envelopeEdge_rd (b : Bay) (c : Nat) {qq : Key} (hq : qq.loc ∉ [(F.CHN_REC_FILL 0).loc, (F.CHN_REC_STAT_DROPPED 0).loc, (F.CHN_REC_STAT_FULL 0).loc, (F.CHN_REC_STAT_WARN 0).loc, (F.CHN_REG_STAT_CLR_ARMED 0).loc, (F.CHN_REG_STAT_HOLD_CAUSE 0).loc, (F.CHN_REG_STAT_MODE 0).loc, (F.CHN_REG_STAT_WATCH 0).loc, (F.EISCH_STAT_END 0).loc, (F.EISCH_STAT_PFLAGS 0).loc, (F.EISCH_STAT_RUN 0).loc, (F.EISCH_STAT_SETTLE 0).loc, (F.EIS_STAT_SWEEPING).loc, (F.EVT_STAT_LOST).loc]) : (b.envelopeEdge c).rd qq = b.rd qq := by
  simp at hq
  simp [Bay.envelopeEdge, hq]

@[simp] theorem Bay.clampEdge_rd (b : Bay) (c : Nat) {qq : Key} (hq : qq.loc ∉ [(F.CHN_REG_STAT_LIM 0).loc, (F.EVT_STAT_LOST).loc]) : (b.clampEdge c).rd qq = b.rd qq := by
  simp at hq
  simp [Bay.clampEdge, hq]

@[simp] theorem Bay.regStatRead_rd (b : Bay) (c : Nat) {qq : Key} (hq : qq.loc ∉ [(F.CHN_REG_STAT_CLR_ARMED 0).loc]) : (b.regStatRead c).rd qq = b.rd qq := by
  simp at hq
  simp [Bay.regStatRead, hq]

@[simp] theorem Bay.holdClr_rd (b : Bay) (c : Nat) {qq : Key} (hq : qq.loc ∉ [(F.CHN_REC_FILL 0).loc, (F.CHN_REC_STAT_DROPPED 0).loc, (F.CHN_REC_STAT_FULL 0).loc, (F.CHN_REC_STAT_WARN 0).loc, (F.CHN_REG_STAT_CLR_ARMED 0).loc, (F.CHN_REG_STAT_HOLD_CAUSE 0).loc, (F.CHN_REG_STAT_MODE 0).loc, (F.CHN_REG_STAT_WATCH 0).loc, (F.EISCH_STAT_END 0).loc, (F.EISCH_STAT_PFLAGS 0).loc, (F.EISCH_STAT_RUN 0).loc, (F.EISCH_STAT_SETTLE 0).loc, (F.EIS_STAT_SWEEPING).loc, (F.EVT_STAT_LOST).loc]) : (b.holdClr c).rd qq = b.rd qq := by
  simp at hq
  unfold Bay.holdClr
  repeat' (first | done | simp [hq] | split | intro _ | refine (Bay.each_rd (fun b n => ?_) _ _).trans ?_ | refine (Bay.onlyIf_rd (fun b => ?_) _ _).trans ?_ | refine (Bay.foldl_rd (fun b n => ?_) _ _).trans ?_ | refine Bay.gated_rd _ _ (by simp [hq]) ?_)

@[simp] theorem Bay.spaceReturn_rd (b : Bay) (c : Nat) {qq : Key} (hq : qq.loc ∉ [(F.CHN_REC_FILL 0).loc, (F.CHN_REC_STAT_DROPPED 0).loc, (F.CHN_REC_STAT_FULL 0).loc, (F.CHN_REC_STAT_WARN 0).loc, (F.CHN_REG_STAT_CLR_ARMED 0).loc, (F.CHN_REG_STAT_HOLD_CAUSE 0).loc, (F.CHN_REG_STAT_MODE 0).loc, (F.CHN_REG_STAT_WATCH 0).loc, (F.EISCH_STAT_END 0).loc, (F.EISCH_STAT_PFLAGS 0).loc, (F.EISCH_STAT_RUN 0).loc, (F.EISCH_STAT_SETTLE 0).loc, (F.EIS_STAT_SWEEPING).loc, (F.EVT_STAT_LOST).loc, (F.SEC_STAT_STATE 0).loc]) : (b.spaceReturn c).rd qq = b.rd qq := by
  simp at hq
  simp [Bay.spaceReturn, hq]

@[simp] theorem Bay.cellEndCmd_rd (b : Bay) (c : Nat) {qq : Key} (hq : qq.loc ∉ [(F.CHN_CELL_ID 0).loc, (F.CHN_REC_FILL 0).loc, (F.CHN_REC_STAT_DROPPED 0).loc, (F.CHN_REC_STAT_FULL 0).loc, (F.CHN_REC_STAT_LOST 0).loc, (F.CHN_REC_STAT_WARN 0).loc, (F.CHN_REG_STAT_CELL 0).loc, (F.EVT_STAT_LOST).loc]) : (b.cellEndCmd c).rd qq = b.rd qq := by
  simp at hq
  simp [Bay.cellEndCmd, hq]

@[simp] theorem Bay.storedEdge_rd (b : Bay) (c : Nat) {qq : Key} (hq : qq.loc ∉ [(F.CHN_REC_FILL 0).loc, (F.CHN_REC_STAT_DROPPED 0).loc, (F.CHN_REC_STAT_FULL 0).loc, (F.CHN_REC_STAT_WARN 0).loc, (F.CHN_REG_STAT_CLR_ARMED 0).loc, (F.CHN_REG_STAT_HOLD_CAUSE 0).loc, (F.CHN_REG_STAT_MODE 0).loc, (F.CHN_REG_STAT_WATCH 0).loc, (F.EISCH_STAT_END 0).loc, (F.EISCH_STAT_PFLAGS 0).loc, (F.EISCH_STAT_RUN 0).loc, (F.EISCH_STAT_SETTLE 0).loc, (F.EIS_STAT_SWEEPING).loc, (F.EVT_STAT_LOST).loc]) : (b.storedEdge c).rd qq = b.rd qq := by
  simp at hq
  simp [Bay.storedEdge, hq]

@[simp] theorem Bay.absentEdge_rd (b : Bay) (c : Nat) {qq : Key} (hq : qq.loc ∉ [(F.CHN_CELL_ID 0).loc, (F.CHN_REC_FILL 0).loc, (F.CHN_REC_STAT_DROPPED 0).loc, (F.CHN_REC_STAT_FULL 0).loc, (F.CHN_REC_STAT_LOST 0).loc, (F.CHN_REC_STAT_WARN 0).loc, (F.CHN_REG_STAT_CELL 0).loc, (F.CHN_REG_STAT_CLR_ARMED 0).loc, (F.CHN_REG_STAT_HOLD_CAUSE 0).loc, (F.CHN_REG_STAT_MODE 0).loc, (F.CHN_REG_STAT_QUALIFYING 0).loc, (F.CHN_REG_STAT_TO 0).loc, (F.CHN_REG_STAT_TOPOFF 0).loc, (F.CHN_REG_STAT_TRM 0).loc, (F.CHN_REG_STAT_WATCH 0).loc, (F.CHN_STEP_END_ALSO 0).loc, (F.CHN_STEP_END_CAUSE 0).loc, (F.EISCH_STAT_END 0).loc, (F.EISCH_STAT_PFLAGS 0).loc, (F.EISCH_STAT_RUN 0).loc, (F.EISCH_STAT_SETTLE 0).loc, (F.EIS_STAT_SWEEPING).loc, (F.EVT_STAT_LOST).loc]) : (b.absentEdge c).rd qq = b.rd qq := by
  simp at hq
  simp [Bay.absentEdge, hq]

@[simp] theorem Bay.rateSelect_rd (b : Bay) (x : Sensor) (v : Int) {qq : Key} (hq : qq.loc ∉ [(F.THM_STAT_FAST).loc]) : (b.rateSelect x v).rd qq = b.rd qq := by
  simp at hq
  simp only [Bay.rateSelect]
  repeat' (first | done | split)
  all_goals simp [hq]

@[simp] theorem Bay.rateSlow_rd (b : Bay) (x : Sensor) {qq : Key} (hq : qq.loc ∉ [(F.THM_STAT_FAST).loc]) : (b.rateSlow x).rd qq = b.rd qq := by
  simp at hq
  simp only [Bay.rateSlow]
  repeat' (first | done | split)
  all_goals simp [hq]

@[simp] theorem Bay.logTrip_rd (b : Bay) (r : List Byte) {qq : Key} (hq : qq.loc ∉ [(F.THM_STAT_NEXT).loc]) : (b.logTrip r).rd qq = b.rd qq := by
  simp at hq
  simp [Bay.logTrip, hq]

@[simp] theorem Bay.tripAxis_rd (b : Bay) (axis : Option Nat) {qq : Key} (hq : qq.loc ∉ [(F.AXS_STAT_STATE 0).loc]) : (b.tripAxis axis).rd qq = b.rd qq := by
  cases axis with
  | none => rfl
  | some a => exact Bay.stopAxis_rd b a hq

@[simp] theorem Bay.tripStops_rd (b : Bay) (axis : Option Nat) {qq : Key} (hq : qq.loc ∉ [(F.AXS_STAT_STATE 0).loc, (F.BAY_STAT_CLR_ARMED).loc, (F.BAY_STAT_HOLD_RT).loc, (F.BAY_STOP_CAUSE_FIRST).loc, (F.BAY_STOP_CAUSE_MASK).loc, (F.CHN_REC_FILL 0).loc, (F.CHN_REC_STAT_DROPPED 0).loc, (F.CHN_REC_STAT_FULL 0).loc, (F.CHN_REC_STAT_WARN 0).loc, (F.CHN_REG_STAT_CLR_ARMED 0).loc, (F.CHN_REG_STAT_HOLD_CAUSE 0).loc, (F.CHN_REG_STAT_MODE 0).loc, (F.CHN_REG_STAT_WATCH 0).loc, (F.EISCH_STAT_END 0).loc, (F.EISCH_STAT_PFLAGS 0).loc, (F.EISCH_STAT_RUN 0).loc, (F.EISCH_STAT_SETTLE 0).loc, (F.EIS_STAT_SWEEPING).loc, (F.EVT_STAT_LOST).loc, (F.PWR_ENTRY_STAT_CAUSE).loc, (F.PWR_ENTRY_STAT_STATE).loc, (F.PWR_RT_TIME).loc, (F.SEC_STAT_DIR 0).loc]) : (b.tripStops axis).rd qq = b.rd qq := by
  simp at hq
  unfold Bay.tripStops
  repeat' (first | done | simp [hq] | split | intro _ | refine (Bay.each_rd (fun b n => ?_) _ _).trans ?_ | refine (Bay.onlyIf_rd (fun b => ?_) _ _).trans ?_ | refine (Bay.foldl_rd (fun b n => ?_) _ _).trans ?_ | refine Bay.gated_rd _ _ (by simp [hq]) ?_)

@[simp] theorem Bay.trip_rd (b : Bay) (q cause slot : Nat) (sensor value : Int) (axis : Option Nat) {qq : Key} (hq : qq.loc ∉ [(F.AXS_STAT_STATE 0).loc, (F.BAY_STAT_CLR_ARMED).loc, (F.BAY_STAT_HOLD_RT).loc, (F.BAY_STOP_CAUSE_FIRST).loc, (F.BAY_STOP_CAUSE_MASK).loc, (F.CHN_REC_FILL 0).loc, (F.CHN_REC_STAT_DROPPED 0).loc, (F.CHN_REC_STAT_FULL 0).loc, (F.CHN_REC_STAT_WARN 0).loc, (F.CHN_REG_STAT_CLR_ARMED 0).loc, (F.CHN_REG_STAT_HOLD_CAUSE 0).loc, (F.CHN_REG_STAT_MODE 0).loc, (F.CHN_REG_STAT_WATCH 0).loc, (F.EISCH_STAT_END 0).loc, (F.EISCH_STAT_PFLAGS 0).loc, (F.EISCH_STAT_RUN 0).loc, (F.EISCH_STAT_SETTLE 0).loc, (F.EIS_STAT_SWEEPING).loc, (F.EVT_STAT_LOST).loc, (F.PWR_ENTRY_STAT_CAUSE).loc, (F.PWR_ENTRY_STAT_STATE).loc, (F.PWR_RT_TIME).loc, (F.SEC_STAT_DIR 0).loc, (F.THM_STAT_CLR_ARMED).loc, (F.THM_STAT_NEXT).loc, (F.THM_STAT_TSD).loc, (F.THM_TSD_CAUSE).loc, (F.THM_TSD_SENSOR).loc, (F.THM_TSD_SLOT).loc]) : (b.trip q cause slot sensor value axis).rd qq = b.rd qq := by
  simp at hq
  simp [Bay.trip, hq]

@[simp] theorem Bay.untrip_rd (b : Bay) (q : Nat) {qq : Key} : (b.untrip q).rd qq = b.rd qq := by
  simp [Bay.untrip]

@[simp] theorem Bay.tripLevel_rd (b : Bay) (q cause slot : Nat) (sensor value trip clear : Int) (axis : Option Nat) {qq : Key} (hq : qq.loc ∉ [(F.AXS_STAT_STATE 0).loc, (F.BAY_STAT_CLR_ARMED).loc, (F.BAY_STAT_HOLD_RT).loc, (F.BAY_STOP_CAUSE_FIRST).loc, (F.BAY_STOP_CAUSE_MASK).loc, (F.CHN_REC_FILL 0).loc, (F.CHN_REC_STAT_DROPPED 0).loc, (F.CHN_REC_STAT_FULL 0).loc, (F.CHN_REC_STAT_WARN 0).loc, (F.CHN_REG_STAT_CLR_ARMED 0).loc, (F.CHN_REG_STAT_HOLD_CAUSE 0).loc, (F.CHN_REG_STAT_MODE 0).loc, (F.CHN_REG_STAT_WATCH 0).loc, (F.EISCH_STAT_END 0).loc, (F.EISCH_STAT_PFLAGS 0).loc, (F.EISCH_STAT_RUN 0).loc, (F.EISCH_STAT_SETTLE 0).loc, (F.EIS_STAT_SWEEPING).loc, (F.EVT_STAT_LOST).loc, (F.PWR_ENTRY_STAT_CAUSE).loc, (F.PWR_ENTRY_STAT_STATE).loc, (F.PWR_RT_TIME).loc, (F.SEC_STAT_DIR 0).loc, (F.THM_STAT_CLR_ARMED).loc, (F.THM_STAT_NEXT).loc, (F.THM_STAT_TSD).loc, (F.THM_TSD_CAUSE).loc, (F.THM_TSD_SENSOR).loc, (F.THM_TSD_SLOT).loc]) : (b.tripLevel q cause slot sensor value trip clear axis).rd qq = b.rd qq := by
  simp at hq
  simp [Bay.tripLevel, hq]

@[simp] theorem Bay.tsdClear_rd (b : Bay) {qq : Key} (hq : qq.loc ∉ [(F.EVT_STAT_LOST).loc, (F.THM_STAT_CLR_ARMED).loc, (F.THM_STAT_TSD).loc]) : (b.tsdClear).rd qq = b.rd qq := by
  simp at hq
  unfold Bay.tsdClear
  repeat' (first | done | simp [hq] | split | intro _ | refine (Bay.each_rd (fun b n => ?_) _ _).trans ?_ | refine (Bay.onlyIf_rd (fun b => ?_) _ _).trans ?_ | refine (Bay.foldl_rd (fun b n => ?_) _ _).trans ?_ | refine Bay.gated_rd _ _ (by simp [hq]) ?_)

@[simp] theorem Bay.flowLoss_rd (b : Bay) {qq : Key} (hq : qq.loc ∉ [(F.AXS_STAT_STATE 0).loc, (F.BAY_STAT_CLR_ARMED).loc, (F.BAY_STAT_HOLD_RT).loc, (F.BAY_STOP_CAUSE_FIRST).loc, (F.BAY_STOP_CAUSE_MASK).loc, (F.CHN_REC_FILL 0).loc, (F.CHN_REC_STAT_DROPPED 0).loc, (F.CHN_REC_STAT_FULL 0).loc, (F.CHN_REC_STAT_WARN 0).loc, (F.CHN_REG_STAT_CLR_ARMED 0).loc, (F.CHN_REG_STAT_HOLD_CAUSE 0).loc, (F.CHN_REG_STAT_MODE 0).loc, (F.CHN_REG_STAT_WATCH 0).loc, (F.EISCH_STAT_END 0).loc, (F.EISCH_STAT_PFLAGS 0).loc, (F.EISCH_STAT_RUN 0).loc, (F.EISCH_STAT_SETTLE 0).loc, (F.EIS_STAT_SWEEPING).loc, (F.EVT_STAT_LOST).loc, (F.PWR_ENTRY_STAT_CAUSE).loc, (F.PWR_ENTRY_STAT_STATE).loc, (F.PWR_RT_TIME).loc, (F.SEC_STAT_DIR 0).loc, (F.THM_STAT_CLR_ARMED).loc, (F.THM_STAT_NEXT).loc, (F.THM_STAT_TSD).loc, (F.THM_TSD_CAUSE).loc, (F.THM_TSD_SENSOR).loc, (F.THM_TSD_SLOT).loc]) : (b.flowLoss).rd qq = b.rd qq := by
  simp at hq
  simp only [Bay.flowLoss]
  repeat' (first | done | split)
  all_goals simp [hq]

@[simp] theorem Bay.coolUpdate_rd (b : Bay) {qq : Key} (hq : qq.loc ∉ [(F.EVT_STAT_LOST).loc, (F.THM_COOL_F_VAL).loc, (F.THM_STAT_COOL_LIM).loc]) : (b.coolUpdate).rd qq = b.rd qq := by
  simp at hq
  simp [Bay.coolUpdate, hq]

@[simp] theorem Bay.junctionFrame_rd (b : Bay) (c : Nat) {qq : Key} : (b.junctionFrame c).rd qq = b.rd qq := by
  simp [Bay.junctionFrame]

@[simp] theorem Bay.derateMark_rd (b : Bay) (o : Nat) (f : Int) {qq : Key} (hq : qq.loc ∉ [(F.EVT_STAT_LOST).loc]) : (b.derateMark o f).rd qq = b.rd qq := by
  simp at hq
  simp [Bay.derateMark, hq]

@[simp] theorem Bay.thermalFrame_rd (b : Bay) {qq : Key} (hq : qq.loc ∉ [(F.AXS_STAT_STATE 0).loc, (F.BAY_STAT_CLR_ARMED).loc, (F.BAY_STAT_HOLD_RT).loc, (F.BAY_STOP_CAUSE_FIRST).loc, (F.BAY_STOP_CAUSE_MASK).loc, (F.CHN_REC_FILL 0).loc, (F.CHN_REC_STAT_DROPPED 0).loc, (F.CHN_REC_STAT_FULL 0).loc, (F.CHN_REC_STAT_WARN 0).loc, (F.CHN_REG_STAT_CLR_ARMED 0).loc, (F.CHN_REG_STAT_HOLD_CAUSE 0).loc, (F.CHN_REG_STAT_MODE 0).loc, (F.CHN_REG_STAT_WATCH 0).loc, (F.EISCH_STAT_END 0).loc, (F.EISCH_STAT_PFLAGS 0).loc, (F.EISCH_STAT_RUN 0).loc, (F.EISCH_STAT_SETTLE 0).loc, (F.EIS_STAT_SWEEPING).loc, (F.EVT_STAT_LOST).loc, (F.PWR_ENTRY_STAT_CAUSE).loc, (F.PWR_ENTRY_STAT_STATE).loc, (F.PWR_RT_TIME).loc, (F.SEC_STAT_DIR 0).loc, (F.THM_STAT_CLR_ARMED).loc, (F.THM_STAT_DERATE).loc, (F.THM_STAT_NEXT).loc, (F.THM_STAT_TSD).loc, (F.THM_TJMAX0).loc, (F.THM_TJMAX1).loc, (F.THM_TJMAX2).loc, (F.THM_TJMAX3).loc, (F.THM_TJMAX4).loc, (F.THM_TSD_CAUSE).loc, (F.THM_TSD_SENSOR).loc, (F.THM_TSD_SLOT).loc]) : (b.thermalFrame).rd qq = b.rd qq := by
  simp at hq
  unfold Bay.thermalFrame
  repeat' (first | done | simp [hq] | split | intro _ | refine (Bay.each_rd (fun b n => ?_) _ _).trans ?_ | refine (Bay.onlyIf_rd (fun b => ?_) _ _).trans ?_ | refine (Bay.foldl_rd (fun b n => ?_) _ _).trans ?_ | refine Bay.gated_rd _ _ (by simp [hq]) ?_)

@[simp] theorem Bay.throttleEdge_rd (b : Bay) {qq : Key} (hq : qq.loc ∉ [(F.EVT_STAT_LOST).loc, (F.LOOP_STAT_THR).loc, (F.SKN_STAT_THR).loc, (F.THM_STAT_THR).loc]) : (b.throttleEdge).rd qq = b.rd qq := by
  simp at hq
  simp [Bay.throttleEdge, hq]

@[simp] theorem Bay.sensorMark_rd (b : Bay) (x : Sensor) (ok : Bool) {qq : Key} (hq : qq.loc ∉ [(F.EVT_STAT_LOST).loc]) : (b.sensorMark x ok).rd qq = b.rd qq := by
  simp at hq
  simp [Bay.sensorMark, hq]

@[simp] theorem Bay.compensate_rd (b : Bay) {qq : Key} (hq : qq.loc ∉ [(F.EVT_STAT_LOST).loc, (F.THM_STAT_COMP_FRZ).loc]) : (b.compensate).rd qq = b.rd qq := by
  simp at hq
  simp [Bay.compensate, hq]

@[simp] theorem Bay.slotEvent_rd (b : Bay) (n : Nat) (what : Int) {qq : Key} (hq : qq.loc ∉ [(F.EVT_STAT_LOST).loc]) : (b.slotEvent n what).rd qq = b.rd qq := by
  simp at hq
  simp [Bay.slotEvent, hq]

@[simp] theorem Bay.refuseRelease_rd (b : Bay) (n : Nat) {qq : Key} (hq : qq.loc ∉ [(F.EVT_STAT_LOST).loc]) : (b.refuseRelease n).rd qq = b.rd qq := by
  simp at hq
  simp [Bay.refuseRelease, hq]

@[simp] theorem Bay.askHandover_rd (b : Bay) (x : Nat) {qq : Key} (hq : qq.loc ∉ [(F.SAFE_STAT_HANDOVER).loc]) : (b.askHandover x).rd qq = b.rd qq := by
  simp at hq
  simp [Bay.askHandover, hq]

@[simp] theorem Bay.dropMeterEntry_rd (b : Bay) {qq : Key} : (b.dropMeterEntry).rd qq = b.rd qq := by
  simp [Bay.dropMeterEntry]

@[simp] theorem Bay.startRelease_rd (b : Bay) (n : Nat) {qq : Key} (hq : qq.loc ∉ [(F.AXS_STAT_STATE 0).loc, (F.EVT_STAT_LOST).loc, (F.SAFE_STAT_HANDOVER).loc]) : (b.startRelease n).rd qq = b.rd qq := by
  simp at hq
  simp [Bay.startRelease, hq]

@[simp] theorem Bay.releaseEdge_rd (b : Bay) (n : Nat) {qq : Key} (hq : qq.loc ∉ [(F.EVT_STAT_LOST).loc, (F.SAFE_STAT_HANDOVER).loc]) : (b.releaseEdge n).rd qq = b.rd qq := by
  simp at hq
  simp [Bay.releaseEdge, hq]

@[simp] theorem Bay.afterRelease_rd (b : Bay) (n : Nat) {qq : Key} : (b.afterRelease n).rd qq = b.rd qq := by
  simp [Bay.afterRelease]

@[simp] theorem Bay.thermGone_rd (b : Bay) (n : Nat) {qq : Key} (hq : qq.loc ∉ [(F.THM_PLATE0_T).loc, (F.THM_PLATE1_T).loc, (F.THM_PLATE2_T).loc, (F.THM_PLATE3_T).loc, (F.THM_PLATE4_T).loc, (F.THM_PLATE5_T).loc, (F.THM_TJMAX0).loc, (F.THM_TJMAX1).loc, (F.THM_TJMAX2).loc, (F.THM_TJMAX3).loc, (F.THM_TJMAX4).loc]) : (b.thermGone n).rd qq = b.rd qq := by
  simp at hq
  unfold Bay.thermGone
  repeat' (first | done | simp [hq] | split | intro _ | refine (Bay.each_rd (fun b n => ?_) _ _).trans ?_ | refine (Bay.onlyIf_rd (fun b => ?_) _ _).trans ?_ | refine (Bay.foldl_rd (fun b n => ?_) _ _).trans ?_ | refine Bay.gated_rd _ _ (by simp [hq]) ?_)

@[simp] theorem Bay.removeEhm_rd (b : Bay) {qq : Key} (hq : qq.loc ∉ [(F.MEAS_STAT_CERT_DUE).loc, (F.MEAS_STAT_CERT_OK).loc, (F.MEAS_STAT_OVEN_RDY).loc, (F.MEAS_STAT_PRESENT).loc, (F.MEAS_WARM).loc]) : (b.removeEhm).rd qq = b.rd qq := by
  simp at hq
  simp [Bay.removeEhm, hq]

@[simp] theorem Bay.insertEhm_rd (b : Bay) (l : List Byte) (serial : Nat) {qq : Key} (hq : qq.loc ∉ [(F.EVT_STAT_LOST).loc, (F.MEAS_CERT_DUE).loc, (F.MEAS_CERT_ID).loc, (F.MEAS_STAT_CERT_DUE).loc, (F.MEAS_STAT_CERT_OK).loc, (F.MEAS_STAT_ENTRY).loc, (F.MEAS_STAT_PRESENT).loc]) : (b.insertEhm l serial).rd qq = b.rd qq := by
  simp at hq
  simp [Bay.insertEhm, hq]

@[simp] theorem Bay.limitEdge_rd (b : Bay) {qq : Key} : (b.limitEdge).rd qq = b.rd qq := by
  simp [Bay.limitEdge]

@[simp] theorem Bay.chassisEdge_rd (b : Bay) {qq : Key} (hq : qq.loc ∉ [(F.EVT_STAT_LOST).loc, (F.SAFE_STAT_HANDOVER).loc]) : (b.chassisEdge).rd qq = b.rd qq := by
  simp at hq
  simp [Bay.chassisEdge, hq]

@[simp] theorem Bay.feedEvent_rd (b : Bay) (binding : Bool) {qq : Key} (hq : qq.loc ∉ [(F.EVT_STAT_LOST).loc]) : (b.feedEvent binding).rd qq = b.rd qq := by
  simp at hq
  simp [Bay.feedEvent, hq]

@[simp] theorem Bay.allocate_rd (b : Bay) {qq : Key} (hq : qq.loc ∉ [(F.EVT_STAT_LOST).loc]) : b.allocate.rd qq = b.rd qq := by
  simp at hq
  unfold Bay.allocate
  extract_lets b1 _ _ _ _ _ _ _ _ b2
  refine (Bay.foldl_rd (fun b n => ?_) _ _).trans ?_
  · rfl
  · have h2 : b2.rd qq = b1.rd qq := Bay.feedEvent_rd _ _ (by simp [hq])
    have h1 : b1.rd qq = b.rd qq := Bay.each_rd (fun b n => by dsimp only; split <;> rfl) _ _
    exact h2.trans h1

@[simp] theorem Bay.waleGovern_rd (b : Bay) (n : Nat) {qq : Key} (hq : qq.loc ∉ [(F.EVT_STAT_LOST).loc, (F.SEC_DON_P 0).loc, (F.SEC_GOV_F0 0).loc, (F.SEC_GOV_F1 0).loc, (F.SEC_GOV_F2 0).loc, (F.SEC_GOV_F3 0).loc, (F.SEC_STAT_CURT 0).loc, (F.SEC_STAT_DONATING 0).loc]) : (b.waleGovern n).rd qq = b.rd qq := by
  simp at hq
  simp [Bay.waleGovern, hq]

@[simp] theorem Bay.spendDonation_rd (b : Bay) (c : Nat) (nC : Int) {qq : Key} (hq : qq.loc ∉ [(F.ENG_DON 0).loc]) : (b.spendDonation c nC).rd qq = b.rd qq := by
  simp at hq
  simp [Bay.spendDonation, hq]

@[simp] theorem Bay.capFollows_rd (b : Bay) (h : Nat) (bud : Int) {qq : Key} (hq : qq.loc ∉ [(F.EVT_STAT_LOST).loc, (F.SEC_STAT_CAP_CONT 0).loc]) : (b.capFollows h bud).rd qq = b.rd qq := by
  simp at hq
  simp [Bay.capFollows, hq]

@[simp] theorem Bay.budgets_rd (b : Bay) {qq : Key} (hq : qq.loc ∉ [(F.EVT_STAT_LOST).loc, (F.PWR_X1_OVL).loc, (F.SEC_OVL 0).loc, (F.SEC_STAT_CAP_CONT 0).loc]) : (b.budgets).rd qq = b.rd qq := by
  simp at hq
  simp [Bay.budgets, hq]

@[simp] theorem Bay.atOffset_rd (b : Bay) (off : Nat) {qq : Key} : (b.atOffset off).rd qq = b.rd qq := by
  simp [Bay.atOffset]

@[simp] theorem Bay.sampleSend_rd (b : Bay) {qq : Key} (hq : qq.loc ∉ [(F.EVT_STAT_LOST).loc, (F.RED_FLT_CAUSE).loc, (F.RED_FLT_COUNT).loc, (F.RED_FLT_DETAIL).loc, (F.RED_FLT_SIDE).loc]) : (b.sampleSend).rd qq = b.rd qq := by
  simp at hq
  simp [Bay.sampleSend, hq]

@[simp] theorem Bay.sampleLost_rd (b : Bay) (n : Nat) (unequal : Bool) {qq : Key} (hq : qq.loc ∉ [(F.AXS_FLT_CAUSE 0).loc, (F.AXS_FLT_COUNT 0).loc, (F.AXS_FLT_SECOND 0).loc, (F.AXS_STAT_ASRC 0).loc, (F.AXS_STAT_BRK_ON 0).loc, (F.AXS_STAT_CLR_ARMED 0).loc, (F.AXS_STAT_FB_USED 0).loc, (F.AXS_STAT_REV_HELD 0).loc, (F.AXS_STAT_STATE 0).loc, (F.CHN_REG_STAT_EXTLIM 0).loc, (F.CHN_REG_STAT_LIM 0).loc, (F.EVT_STAT_LOST).loc, (F.LOOP_DL_CNT).loc, (F.LOOP_DL_LAST_LANE).loc, (F.LOOP_DL_LAST_OBJ).loc, (F.LOOP_STAT_DL).loc, (F.LOOP_STAT_LANE_OK).loc, (F.LPA_XD 0).loc, (F.LPA_XQ 0).loc, (F.LPA_XS 0).loc, (F.LPC_XI 0).loc, (F.LPC_XV 0).loc, (F.RED_FLT_CAUSE).loc, (F.RED_FLT_COUNT).loc, (F.RED_FLT_DETAIL).loc, (F.RED_FLT_SIDE).loc]) : (b.sampleLost n unequal).rd qq = b.rd qq := by
  simp at hq
  unfold Bay.sampleLost
  repeat' (first | done | simp [hq] | split | intro _ | refine (Bay.each_rd (fun b n => ?_) _ _).trans ?_ | refine (Bay.onlyIf_rd (fun b => ?_) _ _).trans ?_ | refine (Bay.foldl_rd (fun b n => ?_) _ _).trans ?_ | refine Bay.gated_rd _ _ (by simp [hq]) ?_)

@[simp] theorem Bay.fallSilent_rd (b : Bay) (n : Nat) {qq : Key} (hq : qq.loc ∉ [(F.AXS_FLT_CAUSE 0).loc, (F.AXS_FLT_COUNT 0).loc, (F.AXS_FLT_SECOND 0).loc, (F.AXS_STAT_ASRC 0).loc, (F.AXS_STAT_BRK_ON 0).loc, (F.AXS_STAT_CLR_ARMED 0).loc, (F.AXS_STAT_FB_USED 0).loc, (F.AXS_STAT_REV_HELD 0).loc, (F.AXS_STAT_STATE 0).loc, (F.BAY_STAT_CLR_ARMED).loc, (F.BAY_STAT_HOLD_RT).loc, (F.BAY_STOP_CAUSE_FIRST).loc, (F.BAY_STOP_CAUSE_MASK).loc, (F.CHN_REC_FILL 0).loc, (F.CHN_REC_STAT_DROPPED 0).loc, (F.CHN_REC_STAT_FULL 0).loc, (F.CHN_REC_STAT_WARN 0).loc, (F.CHN_REG_STAT_CLR_ARMED 0).loc, (F.CHN_REG_STAT_HOLD_CAUSE 0).loc, (F.CHN_REG_STAT_MODE 0).loc, (F.CHN_REG_STAT_QUALIFYING 0).loc, (F.CHN_REG_STAT_TOPOFF 0).loc, (F.CHN_REG_STAT_WATCH 0).loc, (F.CHN_STEP_END_ALSO 0).loc, (F.CHN_STEP_END_CAUSE 0).loc, (F.EISCH_STAT_END 0).loc, (F.EISCH_STAT_PFLAGS 0).loc, (F.EISCH_STAT_RUN 0).loc, (F.EISCH_STAT_SETTLE 0).loc, (F.EIS_STAT_SWEEPING).loc, (F.ENG_DON 0).loc, (F.ENG_STAT_END 0).loc, (F.ENG_STAT_JOINED 0).loc, (F.ENG_STAT_STATE 0).loc, (F.EVT_STAT_LOST).loc, (F.PWR_ENTRY_STAT_CAUSE).loc, (F.PWR_ENTRY_STAT_STATE).loc, (F.PWR_RT_TIME).loc, (F.SEC_STAT_DIR 0).loc, (F.SKN_STAT_ACTIVE).loc]) : (b.fallSilent n).rd qq = b.rd qq := by
  simp at hq
  unfold Bay.fallSilent
  repeat' (first | done | simp [hq] | split | intro _ | refine (Bay.each_rd (fun b n => ?_) _ _).trans ?_ | refine (Bay.onlyIf_rd (fun b => ?_) _ _).trans ?_ | refine (Bay.foldl_rd (fun b n => ?_) _ _).trans ?_ | refine Bay.gated_rd _ _ (by simp [hq]) ?_)

@[simp] theorem Bay.countMiss_rd (b : Bay) (n : Nat) (missed : Bool) {qq : Key} (hq : qq.loc ∉ [(F.AXS_FLT_CAUSE 0).loc, (F.AXS_FLT_COUNT 0).loc, (F.AXS_FLT_SECOND 0).loc, (F.AXS_STAT_ASRC 0).loc, (F.AXS_STAT_BRK_ON 0).loc, (F.AXS_STAT_CLR_ARMED 0).loc, (F.AXS_STAT_FB_USED 0).loc, (F.AXS_STAT_REV_HELD 0).loc, (F.AXS_STAT_STATE 0).loc, (F.BAY_STAT_CLR_ARMED).loc, (F.BAY_STAT_HOLD_RT).loc, (F.BAY_STOP_CAUSE_FIRST).loc, (F.BAY_STOP_CAUSE_MASK).loc, (F.CHN_REC_FILL 0).loc, (F.CHN_REC_STAT_DROPPED 0).loc, (F.CHN_REC_STAT_FULL 0).loc, (F.CHN_REC_STAT_WARN 0).loc, (F.CHN_REG_STAT_CLR_ARMED 0).loc, (F.CHN_REG_STAT_HOLD_CAUSE 0).loc, (F.CHN_REG_STAT_MODE 0).loc, (F.CHN_REG_STAT_QUALIFYING 0).loc, (F.CHN_REG_STAT_TOPOFF 0).loc, (F.CHN_REG_STAT_WATCH 0).loc, (F.CHN_STEP_END_ALSO 0).loc, (F.CHN_STEP_END_CAUSE 0).loc, (F.EISCH_STAT_END 0).loc, (F.EISCH_STAT_PFLAGS 0).loc, (F.EISCH_STAT_RUN 0).loc, (F.EISCH_STAT_SETTLE 0).loc, (F.EIS_STAT_SWEEPING).loc, (F.ENG_DON 0).loc, (F.ENG_STAT_END 0).loc, (F.ENG_STAT_JOINED 0).loc, (F.ENG_STAT_STATE 0).loc, (F.EVT_STAT_LOST).loc, (F.PWR_ENTRY_STAT_CAUSE).loc, (F.PWR_ENTRY_STAT_STATE).loc, (F.PWR_RT_TIME).loc, (F.SEC_STAT_DIR 0).loc, (F.SKN_STAT_ACTIVE).loc]) : (b.countMiss n missed).rd qq = b.rd qq := by
  simp at hq
  unfold Bay.countMiss
  repeat' (first | done | simp [hq] | split | intro _ | refine (Bay.each_rd (fun b n => ?_) _ _).trans ?_ | refine (Bay.onlyIf_rd (fun b => ?_) _ _).trans ?_ | refine (Bay.foldl_rd (fun b n => ?_) _ _).trans ?_ | refine Bay.gated_rd _ _ (by simp [hq]) ?_)

@[simp] theorem Bay.sampleExchange_rd (b : Bay) (ca cb differ : Nat) {qq : Key} (hq : qq.grp ∉ [.axs, .bay, .chn, .eis, .eisCh, .eng, .evt, .loop, .loopAx, .loopCh, .pwr, .red, .sec, .skn]) : (b.sampleExchange ca cb differ).rd qq = b.rd qq := by
  simp at hq
  unfold Bay.sampleExchange
  repeat' (first | done | simp [hq] | split | intro _ | refine (Bay.each_rd (fun b n => ?_) _ _).trans ?_ | refine (Bay.onlyIf_rd (fun b => ?_) _ _).trans ?_ | refine (Bay.foldl_rd (fun b n => ?_) _ _).trans ?_ | refine Bay.gated_rd _ _ (by simp [hq]) ?_)

@[simp] theorem Bay.commandSend_rd (b : Bay) (j : Nat) {qq : Key} : (b.commandSend j).rd qq = b.rd qq := by
  simp [Bay.commandSend]

@[simp] theorem Bay.applyWale_rd (b : Bay) (n : Nat) {qq : Key} (hq : qq.loc ∉ [(F.CHN_ILIM 0).loc, (F.CHN_NODE_REF 0).loc, (F.CHN_REG_STAT_BORDER_OK 0).loc, (F.CHN_STG_STAT_CSW 0).loc, (F.CHN_STG_STAT_LIM 0).loc, (F.CHN_STG_STAT_PH_ACT 0).loc, (F.CHN_STG_STAT_SHED 0).loc, (F.CHN_STG_STAT_STAGE 0).loc, (F.EVT_STAT_LOST).loc, (F.SEC_DON_P 0).loc, (F.SEC_GOV_F0 0).loc, (F.SEC_GOV_F1 0).loc, (F.SEC_GOV_F2 0).loc, (F.SEC_GOV_F3 0).loc, (F.SEC_STAT_CURT 0).loc, (F.SEC_STAT_DONATING 0).loc]) : (b.applyWale n).rd qq = b.rd qq := by
  simp at hq
  unfold Bay.applyWale
  repeat' (first | done | simp [hq] | split | intro _ | refine (Bay.each_rd (fun b n => ?_) _ _).trans ?_ | refine (Bay.onlyIf_rd (fun b => ?_) _ _).trans ?_ | refine (Bay.foldl_rd (fun b n => ?_) _ _).trans ?_ | refine Bay.gated_rd _ _ (by simp [hq]) ?_)

@[simp] theorem Bay.repeatWale_rd (b : Bay) (n : Nat) {qq : Key} (hq : qq.loc ∉ [(F.CHN_ILIM 0).loc, (F.CHN_NODE_REF 0).loc, (F.CHN_STG_STAT_LIM 0).loc]) : (b.repeatWale n).rd qq = b.rd qq := by
  simp at hq
  unfold Bay.repeatWale
  repeat' (first | done | simp [hq] | split | intro _ | refine (Bay.each_rd (fun b n => ?_) _ _).trans ?_ | refine (Bay.onlyIf_rd (fun b => ?_) _ _).trans ?_ | refine (Bay.foldl_rd (fun b n => ?_) _ _).trans ?_ | refine Bay.gated_rd _ _ (by simp [hq]) ?_)

@[simp] theorem Bay.applyAxes_rd (b : Bay) {qq : Key} : (b.applyAxes).rd qq = b.rd qq := by
  unfold Bay.applyAxes
  repeat' (first | done | simp  | split | intro _ | refine (Bay.each_rd (fun b n => ?_) _ _).trans ?_ | refine (Bay.onlyIf_rd (fun b => ?_) _ _).trans ?_ | refine (Bay.foldl_rd (fun b n => ?_) _ _).trans ?_)

@[simp] theorem Bay.acceptFrame_rd (b : Bay) (n role seq t j : Nat) {qq : Key} (hq : qq.loc ∉ [(F.CHN_ILIM 0).loc, (F.CHN_NODE_REF 0).loc, (F.CHN_REG_STAT_BORDER_OK 0).loc, (F.CHN_STG_STAT_CSW 0).loc, (F.CHN_STG_STAT_LIM 0).loc, (F.CHN_STG_STAT_PH_ACT 0).loc, (F.CHN_STG_STAT_SHED 0).loc, (F.CHN_STG_STAT_STAGE 0).loc, (F.EVT_STAT_LOST).loc, (F.SEC_DON_P 0).loc, (F.SEC_GOV_F0 0).loc, (F.SEC_GOV_F1 0).loc, (F.SEC_GOV_F2 0).loc, (F.SEC_GOV_F3 0).loc, (F.SEC_STAT_CURT 0).loc, (F.SEC_STAT_DONATING 0).loc]) : (b.acceptFrame n role seq t j).rd qq = b.rd qq := by
  simp at hq
  unfold Bay.acceptFrame
  repeat' (first | done | simp [hq] | split | intro _ | refine (Bay.each_rd (fun b n => ?_) _ _).trans ?_ | refine (Bay.onlyIf_rd (fun b => ?_) _ _).trans ?_ | refine (Bay.foldl_rd (fun b n => ?_) _ _).trans ?_ | refine Bay.gated_rd _ _ (by simp [hq]) ?_)

@[simp] theorem Bay.takeFrame_rd (b : Bay) (n role seq j : Nat) {qq : Key} (hq : qq.loc ∉ [(F.CHN_ILIM 0).loc, (F.CHN_NODE_REF 0).loc, (F.CHN_REG_STAT_BORDER_OK 0).loc, (F.CHN_STG_STAT_CSW 0).loc, (F.CHN_STG_STAT_LIM 0).loc, (F.CHN_STG_STAT_PH_ACT 0).loc, (F.CHN_STG_STAT_SHED 0).loc, (F.CHN_STG_STAT_STAGE 0).loc, (F.EVT_STAT_LOST).loc, (F.SEC_DON_P 0).loc, (F.SEC_GOV_F0 0).loc, (F.SEC_GOV_F1 0).loc, (F.SEC_GOV_F2 0).loc, (F.SEC_GOV_F3 0).loc, (F.SEC_STAT_CURT 0).loc, (F.SEC_STAT_DONATING 0).loc]) : (b.takeFrame n role seq j).rd qq = b.rd qq := by
  simp at hq
  simp [Bay.takeFrame, hq]

@[simp] theorem Bay.secondMiss_rd (b : Bay) (n : Nat) (suspect : Bool) {qq : Key} (hq : qq.loc ∉ [(F.CHN_ILIM 0).loc, (F.CHN_NODE_REF 0).loc, (F.CHN_REG_STAT_BORDER_OK 0).loc, (F.CHN_STG_STAT_CSW 0).loc, (F.CHN_STG_STAT_LIM 0).loc, (F.CHN_STG_STAT_PH_ACT 0).loc, (F.CHN_STG_STAT_SHED 0).loc, (F.CHN_STG_STAT_STAGE 0).loc, (F.EVT_STAT_LOST).loc, (F.RED_FLT_CAUSE).loc, (F.RED_FLT_COUNT).loc, (F.RED_FLT_DETAIL).loc, (F.RED_FLT_SIDE).loc, (F.RED_SO_CNT).loc, (F.RED_SO_T).loc, (F.SEC_DON_P 0).loc, (F.SEC_GOV_F0 0).loc, (F.SEC_GOV_F1 0).loc, (F.SEC_GOV_F2 0).loc, (F.SEC_GOV_F3 0).loc, (F.SEC_STAT_CURT 0).loc, (F.SEC_STAT_DONATING 0).loc]) : (b.secondMiss n suspect).rd qq = b.rd qq := by
  simp at hq
  unfold Bay.secondMiss
  repeat' (first | done | simp [hq] | split | intro _ | refine (Bay.each_rd (fun b n => ?_) _ _).trans ?_ | refine (Bay.onlyIf_rd (fun b => ?_) _ _).trans ?_ | refine (Bay.foldl_rd (fun b n => ?_) _ _).trans ?_ | refine Bay.gated_rd _ _ (by simp [hq]) ?_)

@[simp] theorem Bay.holderMissed_rd (b : Bay) (n count : Nat) (suspect : Bool) {qq : Key} (hq : qq.loc ∉ [(F.BAY_STAT_CLR_ARMED).loc, (F.BAY_STOP_CAUSE_FIRST).loc, (F.BAY_STOP_CAUSE_MASK).loc, (F.CHN_ILIM 0).loc, (F.CHN_NODE_REF 0).loc, (F.CHN_REG_STAT_BORDER_OK 0).loc, (F.CHN_STG_STAT_CSW 0).loc, (F.CHN_STG_STAT_LIM 0).loc, (F.CHN_STG_STAT_PH_ACT 0).loc, (F.CHN_STG_STAT_SHED 0).loc, (F.CHN_STG_STAT_STAGE 0).loc, (F.EVT_STAT_LOST).loc, (F.RED_FLT_CAUSE).loc, (F.RED_FLT_COUNT).loc, (F.RED_FLT_DETAIL).loc, (F.RED_FLT_SIDE).loc, (F.RED_SO_CNT).loc, (F.RED_SO_T).loc, (F.SEC_DON_P 0).loc, (F.SEC_GOV_F0 0).loc, (F.SEC_GOV_F1 0).loc, (F.SEC_GOV_F2 0).loc, (F.SEC_GOV_F3 0).loc, (F.SEC_STAT_CURT 0).loc, (F.SEC_STAT_DONATING 0).loc]) : (b.holderMissed n count suspect).rd qq = b.rd qq := by
  simp at hq
  simp [Bay.holderMissed, hq]

@[simp] theorem Bay.candRules_rd (b : Bay) (n role seq : Nat) {qq : Key} (hq : qq.loc ∉ [(F.CHN_ILIM 0).loc, (F.CHN_NODE_REF 0).loc, (F.CHN_REG_STAT_BORDER_OK 0).loc, (F.CHN_STG_STAT_CSW 0).loc, (F.CHN_STG_STAT_LIM 0).loc, (F.CHN_STG_STAT_PH_ACT 0).loc, (F.CHN_STG_STAT_SHED 0).loc, (F.CHN_STG_STAT_STAGE 0).loc, (F.EVT_STAT_LOST).loc, (F.RED_SO_CNT).loc, (F.RED_SO_T).loc, (F.SEC_DON_P 0).loc, (F.SEC_GOV_F0 0).loc, (F.SEC_GOV_F1 0).loc, (F.SEC_GOV_F2 0).loc, (F.SEC_GOV_F3 0).loc, (F.SEC_STAT_CURT 0).loc, (F.SEC_STAT_DONATING 0).loc]) : (b.candRules n role seq).rd qq = b.rd qq := by
  simp at hq
  unfold Bay.candRules
  repeat' (first | done | simp [hq] | split | intro _ | refine (Bay.each_rd (fun b n => ?_) _ _).trans ?_ | refine (Bay.onlyIf_rd (fun b => ?_) _ _).trans ?_ | refine (Bay.foldl_rd (fun b n => ?_) _ _).trans ?_ | refine Bay.gated_rd _ _ (by simp [hq]) ?_)

@[simp] theorem Bay.commandReceive_rd (b : Bay) (n x : Nat) (f : CmdIn) {qq : Key} (hq : qq.loc ∉ [(F.BAY_STAT_CLR_ARMED).loc, (F.BAY_STOP_CAUSE_FIRST).loc, (F.BAY_STOP_CAUSE_MASK).loc, (F.CHN_ILIM 0).loc, (F.CHN_NODE_REF 0).loc, (F.CHN_REG_STAT_BORDER_OK 0).loc, (F.CHN_STG_STAT_CSW 0).loc, (F.CHN_STG_STAT_LIM 0).loc, (F.CHN_STG_STAT_PH_ACT 0).loc, (F.CHN_STG_STAT_SHED 0).loc, (F.CHN_STG_STAT_STAGE 0).loc, (F.EVT_STAT_LOST).loc, (F.RED_CLEAN).loc, (F.RED_FLT_CAUSE).loc, (F.RED_FLT_COUNT).loc, (F.RED_FLT_DETAIL).loc, (F.RED_FLT_SIDE).loc, (F.RED_SO_CNT).loc, (F.RED_SO_T).loc, (F.SEC_DON_P 0).loc, (F.SEC_GOV_F0 0).loc, (F.SEC_GOV_F1 0).loc, (F.SEC_GOV_F2 0).loc, (F.SEC_GOV_F3 0).loc, (F.SEC_STAT_CURT 0).loc, (F.SEC_STAT_DONATING 0).loc]) : (b.commandReceive n x f).rd qq = b.rd qq := by
  simp at hq
  simp [Bay.commandReceive, hq]

@[simp] theorem Bay.holderMiss_rd (b : Bay) (n : Nat) {qq : Key} (hq : qq.loc ∉ [(F.BAY_STAT_CLR_ARMED).loc, (F.BAY_STOP_CAUSE_FIRST).loc, (F.BAY_STOP_CAUSE_MASK).loc, (F.CHN_ILIM 0).loc, (F.CHN_NODE_REF 0).loc, (F.CHN_REG_STAT_BORDER_OK 0).loc, (F.CHN_STG_STAT_CSW 0).loc, (F.CHN_STG_STAT_LIM 0).loc, (F.CHN_STG_STAT_PH_ACT 0).loc, (F.CHN_STG_STAT_SHED 0).loc, (F.CHN_STG_STAT_STAGE 0).loc, (F.EVT_STAT_LOST).loc, (F.RED_FLT_CAUSE).loc, (F.RED_FLT_COUNT).loc, (F.RED_FLT_DETAIL).loc, (F.RED_FLT_SIDE).loc, (F.RED_SO_CNT).loc, (F.RED_SO_T).loc, (F.SEC_DON_P 0).loc, (F.SEC_GOV_F0 0).loc, (F.SEC_GOV_F1 0).loc, (F.SEC_GOV_F2 0).loc, (F.SEC_GOV_F3 0).loc, (F.SEC_STAT_CURT 0).loc, (F.SEC_STAT_DONATING 0).loc]) : (b.holderMiss n).rd qq = b.rd qq := by
  simp at hq
  simp [Bay.holderMiss, hq]

@[simp] theorem Bay.stageStops_rd (b : Bay) (n : Nat) {qq : Key} (hq : qq.loc ∉ [(F.AXS_FLT_CAUSE 0).loc, (F.AXS_FLT_COUNT 0).loc, (F.AXS_FLT_SECOND 0).loc, (F.AXS_STAT_ASRC 0).loc, (F.AXS_STAT_BRK_ON 0).loc, (F.AXS_STAT_CLR_ARMED 0).loc, (F.AXS_STAT_FB_USED 0).loc, (F.AXS_STAT_REV_HELD 0).loc, (F.AXS_STAT_STATE 0).loc, (F.BAY_STAT_CLR_ARMED).loc, (F.BAY_STOP_CAUSE_FIRST).loc, (F.BAY_STOP_CAUSE_MASK).loc, (F.CHN_FLT_CAUSE 0).loc, (F.CHN_FLT_COUNT 0).loc, (F.CHN_FLT_DETAIL 0).loc, (F.CHN_FLT_SECOND 0).loc, (F.CHN_REC_FILL 0).loc, (F.CHN_REC_STAT_DROPPED 0).loc, (F.CHN_REC_STAT_FULL 0).loc, (F.CHN_REC_STAT_WARN 0).loc, (F.CHN_REG_STAT_CLR_ARMED 0).loc, (F.CHN_REG_STAT_HOLD_CAUSE 0).loc, (F.CHN_REG_STAT_MODE 0).loc, (F.CHN_REG_STAT_WATCH 0).loc, (F.CHN_STG_STAT_CLR_ARMED 0).loc, (F.EISCH_STAT_END 0).loc, (F.EISCH_STAT_PFLAGS 0).loc, (F.EISCH_STAT_RUN 0).loc, (F.EISCH_STAT_SETTLE 0).loc, (F.EIS_STAT_SWEEPING).loc, (F.EVT_STAT_LOST).loc, (F.SEC_FRAM_STAT_BUSY 0).loc, (F.SEC_FRAM_STAT_LOST 0).loc, (F.SEC_FRAM_STAT_QUEUED 0).loc]) : (b.stageStops n).rd qq = b.rd qq := by
  simp at hq
  simp [Bay.stageStops, hq]

@[simp] theorem Bay.loopDone_rd (b : Bay) (o : Nat) (k : MissKind) {qq : Key} : (b.loopDone o k).rd qq = b.rd qq := by
  unfold Bay.loopDone
  repeat' (first | done | simp  | split | intro _ | refine (Bay.each_rd (fun b n => ?_) _ _).trans ?_ | refine (Bay.onlyIf_rd (fun b => ?_) _ _).trans ?_ | refine (Bay.foldl_rd (fun b n => ?_) _ _).trans ?_)

@[simp] theorem Bay.closeLoops_rd (b : Bay) (missed : List (Nat × MissKind)) {qq : Key} (hq : qq.loc ∉ [(F.AXS_FLT_CAUSE 0).loc, (F.AXS_FLT_COUNT 0).loc, (F.AXS_FLT_SECOND 0).loc, (F.AXS_STAT_ASRC 0).loc, (F.AXS_STAT_BRK_ON 0).loc, (F.AXS_STAT_CLR_ARMED 0).loc, (F.AXS_STAT_FB_USED 0).loc, (F.AXS_STAT_REV_HELD 0).loc, (F.AXS_STAT_STATE 0).loc, (F.CHN_REG_STAT_EXTLIM 0).loc, (F.CHN_REG_STAT_LIM 0).loc, (F.EVT_STAT_LOST).loc, (F.LOOP_DL_CNT).loc, (F.LOOP_DL_LAST_LANE).loc, (F.LOOP_DL_LAST_OBJ).loc, (F.LOOP_STAT_DL).loc, (F.LOOP_STAT_LANE_OK).loc, (F.LPA_XD 0).loc, (F.LPA_XQ 0).loc, (F.LPA_XS 0).loc, (F.LPC_XI 0).loc, (F.LPC_XV 0).loc]) : (b.closeLoops missed).rd qq = b.rd qq := by
  simp at hq
  unfold Bay.closeLoops
  repeat' (first | done | simp [hq] | split | intro _ | refine (Bay.each_rd (fun b n => ?_) _ _).trans ?_ | refine (Bay.onlyIf_rd (fun b => ?_) _ _).trans ?_ | refine (Bay.foldl_rd (fun b n => ?_) _ _).trans ?_ | refine Bay.gated_rd _ _ (by simp [hq]) ?_)

@[simp] theorem Bay.computeDeadline_rd (b : Bay) (e : FrameEnd) {qq : Key} (hq : qq.grp ∉ [.axs, .bay, .chn, .loop, .red] ∧ qq.loc ∉ [(F.EVT_STAT_LOST).loc, (F.LPA_XD 0).loc, (F.LPA_XQ 0).loc, (F.LPA_XS 0).loc, (F.LPC_XI 0).loc, (F.LPC_XV 0).loc]) : (b.computeDeadline e).rd qq = b.rd qq := by
  simp at hq
  unfold Bay.computeDeadline
  repeat' (first | done | simp [hq] | split | intro _ | refine (Bay.each_rd (fun b n => ?_) _ _).trans ?_ | refine (Bay.onlyIf_rd (fun b => ?_) _ _).trans ?_ | refine (Bay.foldl_rd (fun b n => ?_) _ _).trans ?_ | refine Bay.gated_rd _ _ (by simp [hq]) ?_)

@[simp] theorem Bay.engStart_rd (b : Bay) (c at_ : Nat) {qq : Key} (hq : qq.loc ∉ [(F.ENG_STAT_REFUSE 0).loc, (F.ENG_STAT_STATE 0).loc, (F.SKN_STAT_ACTIVE).loc]) : (b.engStart c at_).rd qq = b.rd qq := by
  simp at hq
  simp only [Bay.engStart]
  repeat' (first | done | split)
  all_goals simp [hq]

@[simp] theorem Bay.giveCommand_rd (b : Bay) (c t : Nat) (x : HostEng) {qq : Key} (hq : qq.loc ∉ [(F.ENG_STAT_REFUSE 0).loc, (F.ENG_STAT_STATE 0).loc, (F.SKN_STAT_ACTIVE).loc]) :
    (b.giveCommand c t x).rd qq = b.rd qq := by
  simp at hq
  cases x <;> simp [Bay.giveCommand, hq]

@[simp] theorem Bay.engCtl_rd (b : Bay) (c : Nat) (k : Key) (x : HostEng) {qq : Key} (hq : qq.loc ∉ [(F.ENG_STAT_REFUSE 0).loc, (F.ENG_STAT_STATE 0).loc, (F.EVT_STAT_LOST).loc, (F.SKN_STAT_ACTIVE).loc]) : (b.engCtl c k x).rd qq = b.rd qq := by
  simp at hq
  unfold Bay.engCtl
  repeat' (first | done | simp [hq] | split | intro _ | refine (Bay.each_rd (fun b n => ?_) _ _).trans ?_ | refine (Bay.onlyIf_rd (fun b => ?_) _ _).trans ?_ | refine (Bay.foldl_rd (fun b n => ?_) _ _).trans ?_ | refine Bay.gated_rd _ _ (by simp [hq]) ?_)

@[simp] theorem Bay.hsig_rd (b : Bay) (c : Nat) {qq : Key} (hq : qq.loc ∉ [(F.EVT_STAT_LOST).loc]) : (b.hsig c).rd qq = b.rd qq := by
  simp at hq
  unfold Bay.hsig
  repeat' (first | done | simp [hq] | split | intro _ | refine (Bay.each_rd (fun b n => ?_) _ _).trans ?_ | refine (Bay.onlyIf_rd (fun b => ?_) _ _).trans ?_ | refine (Bay.foldl_rd (fun b n => ?_) _ _).trans ?_ | refine Bay.gated_rd _ _ (by simp [hq]) ?_)

@[simp] theorem Bay.frzRead_rd (b : Bay) (c : Nat) {qq : Key} (hq : qq.loc ∉ [(F.ENG_STAT_CLR_ARMED 0).loc]) : (b.frzRead c).rd qq = b.rd qq := by
  simp at hq
  simp [Bay.frzRead, hq]

@[simp] theorem Bay.scmd_rd (b : Bay) (k : Key) (x : HostEng) {qq : Key} (hq : qq.loc ∉ [(F.ENG_STAT_REFUSE 0).loc, (F.ENG_STAT_STATE 0).loc, (F.EVT_STAT_LOST).loc, (F.SKN_STAT_ACTIVE).loc]) : (b.scmd k x).rd qq = b.rd qq := by
  simp at hq
  unfold Bay.scmd
  repeat' (first | done | simp [hq] | split | intro _ | refine (Bay.each_rd (fun b n => ?_) _ _).trans ?_ | refine (Bay.onlyIf_rd (fun b => ?_) _ _).trans ?_ | refine (Bay.foldl_rd (fun b n => ?_) _ _).trans ?_ | refine Bay.gated_rd _ _ (by simp [hq]) ?_)

@[simp] theorem Bay.hostCommand_rd (b : Bay) (c : Nat) (x : HostEng) {qq : Key} (hq : qq.loc ∉ [(F.CHN_REC_FILL 0).loc, (F.CHN_REC_STAT_DROPPED 0).loc, (F.CHN_REC_STAT_FULL 0).loc, (F.CHN_REC_STAT_WARN 0).loc, (F.CHN_REG_STAT_CLR_ARMED 0).loc, (F.CHN_REG_STAT_HOLD_CAUSE 0).loc, (F.CHN_REG_STAT_MODE 0).loc, (F.CHN_REG_STAT_QUALIFYING 0).loc, (F.CHN_REG_STAT_TOPOFF 0).loc, (F.CHN_REG_STAT_WATCH 0).loc, (F.CHN_STEP_END_ALSO 0).loc, (F.CHN_STEP_END_CAUSE 0).loc, (F.EISCH_STAT_END 0).loc, (F.EISCH_STAT_PFLAGS 0).loc, (F.EISCH_STAT_RUN 0).loc, (F.EISCH_STAT_SETTLE 0).loc, (F.EIS_STAT_SWEEPING).loc, (F.ENG_DON 0).loc, (F.ENG_EVT_VAL 0).loc, (F.ENG_PC 0).loc, (F.ENG_STAT_END 0).loc, (F.ENG_STAT_JOINED 0).loc, (F.ENG_STAT_STATE 0).loc, (F.EVT_STAT_LOST).loc, (F.SKN_STAT_ACTIVE).loc]) : (b.hostCommand c x).rd qq = b.rd qq := by
  simp at hq
  unfold Bay.hostCommand
  repeat' (first | done | simp [hq] | split | intro _ | refine (Bay.each_rd (fun b n => ?_) _ _).trans ?_ | refine (Bay.onlyIf_rd (fun b => ?_) _ _).trans ?_ | refine (Bay.foldl_rd (fun b n => ?_) _ _).trans ?_ | refine Bay.gated_rd _ _ (by simp [hq]) ?_)

@[simp] theorem Bay.hostEngEdge_rd (b : Bay) (c : Nat) {qq : Key} (hq : qq.loc ∉ [(F.CHN_REC_FILL 0).loc, (F.CHN_REC_STAT_DROPPED 0).loc, (F.CHN_REC_STAT_FULL 0).loc, (F.CHN_REC_STAT_WARN 0).loc, (F.CHN_REG_STAT_CLR_ARMED 0).loc, (F.CHN_REG_STAT_HOLD_CAUSE 0).loc, (F.CHN_REG_STAT_MODE 0).loc, (F.CHN_REG_STAT_QUALIFYING 0).loc, (F.CHN_REG_STAT_TOPOFF 0).loc, (F.CHN_REG_STAT_WATCH 0).loc, (F.CHN_STEP_END_ALSO 0).loc, (F.CHN_STEP_END_CAUSE 0).loc, (F.EISCH_STAT_END 0).loc, (F.EISCH_STAT_PFLAGS 0).loc, (F.EISCH_STAT_RUN 0).loc, (F.EISCH_STAT_SETTLE 0).loc, (F.EIS_STAT_SWEEPING).loc, (F.ENG_DON 0).loc, (F.ENG_EVT_VAL 0).loc, (F.ENG_PC 0).loc, (F.ENG_STAT_END 0).loc, (F.ENG_STAT_JOINED 0).loc, (F.ENG_STAT_STATE 0).loc, (F.EVT_STAT_LOST).loc, (F.SKN_STAT_ACTIVE).loc]) : (b.hostEngEdge c).rd qq = b.rd qq := by
  simp at hq
  unfold Bay.hostEngEdge
  repeat' (first | done | simp [hq] | split | intro _ | refine (Bay.each_rd (fun b n => ?_) _ _).trans ?_ | refine (Bay.onlyIf_rd (fun b => ?_) _ _).trans ?_ | refine (Bay.foldl_rd (fun b n => ?_) _ _).trans ?_ | refine Bay.gated_rd _ _ (by simp [hq]) ?_)

@[simp] theorem Bay.clearEngine_rd (b : Bay) (c : Nat) {qq : Key} (hq : qq.grp ∉ [.eng, .engScr]) : (b.clearEngine c).rd qq = b.rd qq := by
  simp at hq
  simp [Bay.clearEngine, hq]

@[simp] theorem Bay.groupBit_rd (b : Bay) (c : Nat) {qq : Key} (hq : qq.loc ∉ [(F.ENG_EVT_VAL 0).loc]) : (b.groupBit c).rd qq = b.rd qq := by
  simp at hq
  simp [Bay.groupBit, hq]

@[simp] theorem Bay.endGeneration_rd (b : Bay) (g : Nat) (last : Int) {qq : Key} (hq : qq.loc ∉ [(F.CHN_REG_STAT_TO 0).loc, (F.ENG_EVT_VAL 0).loc, (F.ENG_PC 0).loc, (F.ENG_STAT_JOINED 0).loc, (F.ENG_STAT_STATE 0).loc, (F.ENG_STAT_Z 0).loc, (F.GRP_STAT_ARRIVED 0).loc, (F.GRP_STAT_GEN 0).loc, (F.GRP_STAT_LAST 0).loc, (F.SKN_STAT_ACTIVE).loc]) : (b.endGeneration g last).rd qq = b.rd qq := by
  simp at hq
  unfold Bay.endGeneration
  repeat' (first | done | simp [hq] | split | intro _ | refine (Bay.each_rd (fun b n => ?_) _ _).trans ?_ | refine (Bay.onlyIf_rd (fun b => ?_) _ _).trans ?_ | refine (Bay.foldl_rd (fun b n => ?_) _ _).trans ?_ | refine Bay.gated_rd _ _ (by simp [hq]) ?_)

@[simp] theorem Bay.breakGroup_rd (b : Bay) (g ts : Nat) (mismatch : Bool) {qq : Key} : (b.breakGroup g ts mismatch).rd qq = b.rd qq := by
  simp [Bay.breakGroup]

@[simp] theorem Bay.breakHere_rd (b : Bay) (g : Nat) (mismatch : Bool) {qq : Key} : (b.breakHere g mismatch).rd qq = b.rd qq := by
  simp [Bay.breakHere]

@[simp] theorem Bay.groupAbort_rd (b : Bay) (g : Nat) {qq : Key} (hq : qq.loc ∉ [(F.EVT_STAT_LOST).loc]) : (b.groupAbort g).rd qq = b.rd qq := by
  simp at hq
  simp [Bay.groupAbort, hq]

@[simp] theorem Bay.breakEdge_rd (b : Bay) (g : Nat) {qq : Key} (hq : qq.loc ∉ [(F.CHN_REG_STAT_TO 0).loc, (F.ENG_EVT_VAL 0).loc, (F.ENG_PC 0).loc, (F.ENG_STAT_JOINED 0).loc, (F.ENG_STAT_STATE 0).loc, (F.ENG_STAT_Z 0).loc, (F.GRP_STAT_ARRIVED 0).loc, (F.GRP_STAT_GEN 0).loc, (F.GRP_STAT_LAST 0).loc, (F.SKN_STAT_ACTIVE).loc]) : (b.breakEdge g).rd qq = b.rd qq := by
  simp at hq
  unfold Bay.breakEdge
  repeat' (first | done | simp [hq] | split | intro _ | refine (Bay.each_rd (fun b n => ?_) _ _).trans ?_ | refine (Bay.onlyIf_rd (fun b => ?_) _ _).trans ?_ | refine (Bay.foldl_rd (fun b n => ?_) _ _).trans ?_ | refine Bay.gated_rd _ _ (by simp [hq]) ?_)

@[simp] theorem Bay.remoteArrival_rd (b : Bay) (g : Nat) (gen : Int) (stake chan ts : Nat) (cnt : Int) {qq : Key} (hq : qq.loc ∉ [(F.EVT_STAT_LOST).loc, (F.GRP_STAT_ARRIVED 0).loc]) : (b.remoteArrival g gen stake chan ts cnt).rd qq = b.rd qq := by
  simp at hq
  simp only [Bay.remoteArrival]
  repeat' (first | done | split)
  all_goals simp [hq]

@[simp] theorem Bay.hostStep_rd (b : Bay) (c : Nat) (p : Params) (modeWritten modeChanged : Bool) {qq : Key} (hq : qq.loc ∉ [(F.CHN_LEG_CNT 0).loc, (F.CHN_QUAL 0).loc, (F.CHN_REC_FILL 0).loc, (F.CHN_REC_STAT_DROPPED 0).loc, (F.CHN_REC_STAT_FULL 0).loc, (F.CHN_REC_STAT_LOST 0).loc, (F.CHN_REC_STAT_WARN 0).loc, (F.CHN_REG_STAT_CLR_ARMED 0).loc, (F.CHN_REG_STAT_DIRECT 0).loc, (F.CHN_REG_STAT_HOLD_CAUSE 0).loc, (F.CHN_REG_STAT_LIM 0).loc, (F.CHN_REG_STAT_MODE 0).loc, (F.CHN_REG_STAT_QUALIFYING 0).loc, (F.CHN_REG_STAT_STEP 0).loc, (F.CHN_REG_STAT_TO 0).loc, (F.CHN_REG_STAT_TOPOFF 0).loc, (F.CHN_REG_STAT_TRM 0).loc, (F.CHN_REG_STAT_WATCH 0).loc, (F.CHN_SFT 0).loc, (F.CHN_SFT_EXT 0).loc, (F.CHN_STEP_END_ALSO 0).loc, (F.CHN_STEP_END_CAUSE 0).loc, (F.CHN_TMR 0).loc, (F.EISCH_STAT_END 0).loc, (F.EISCH_STAT_PFLAGS 0).loc, (F.EISCH_STAT_RUN 0).loc, (F.EISCH_STAT_SETTLE 0).loc, (F.EIS_STAT_SWEEPING).loc, (F.EVT_STAT_LOST).loc]) : (b.hostStep c p modeWritten modeChanged).rd qq = b.rd qq := by
  simp at hq
  simp [Bay.hostStep, hq]

@[simp] theorem Bay.hostCeases_rd (b : Bay) (c : Nat) {qq : Key} (hq : qq.loc ∉ [(F.CHN_REC_FILL 0).loc, (F.CHN_REC_STAT_DROPPED 0).loc, (F.CHN_REC_STAT_FULL 0).loc, (F.CHN_REC_STAT_WARN 0).loc, (F.CHN_REG_STAT_CLR_ARMED 0).loc, (F.CHN_REG_STAT_DIRECT 0).loc, (F.CHN_REG_STAT_HOLD_CAUSE 0).loc, (F.CHN_REG_STAT_MODE 0).loc, (F.CHN_REG_STAT_WATCH 0).loc, (F.EISCH_STAT_END 0).loc, (F.EISCH_STAT_PFLAGS 0).loc, (F.EISCH_STAT_RUN 0).loc, (F.EISCH_STAT_SETTLE 0).loc, (F.EIS_STAT_SWEEPING).loc, (F.EVT_STAT_LOST).loc]) : (b.hostCeases c).rd qq = b.rd qq := by
  simp at hq
  simp [Bay.hostCeases, hq]

@[simp] theorem Bay.latchMode_rd (b : Bay) (c : Nat) (m : Int) (leg : Option Int) {qq : Key} (hq : qq.loc ∉ [(F.CHN_LEG_CNT 0).loc, (F.CHN_QUAL 0).loc, (F.CHN_REC_FILL 0).loc, (F.CHN_REC_STAT_DROPPED 0).loc, (F.CHN_REC_STAT_FULL 0).loc, (F.CHN_REC_STAT_LOST 0).loc, (F.CHN_REC_STAT_WARN 0).loc, (F.CHN_REG_STAT_CLR_ARMED 0).loc, (F.CHN_REG_STAT_DIRECT 0).loc, (F.CHN_REG_STAT_HOLD_CAUSE 0).loc, (F.CHN_REG_STAT_LIM 0).loc, (F.CHN_REG_STAT_MODE 0).loc, (F.CHN_REG_STAT_QUALIFYING 0).loc, (F.CHN_REG_STAT_STEP 0).loc, (F.CHN_REG_STAT_TO 0).loc, (F.CHN_REG_STAT_TOPOFF 0).loc, (F.CHN_REG_STAT_TRM 0).loc, (F.CHN_REG_STAT_WATCH 0).loc, (F.CHN_SFT 0).loc, (F.CHN_SFT_EXT 0).loc, (F.CHN_STEP_END_ALSO 0).loc, (F.CHN_STEP_END_CAUSE 0).loc, (F.CHN_TMR 0).loc, (F.EISCH_STAT_END 0).loc, (F.EISCH_STAT_PFLAGS 0).loc, (F.EISCH_STAT_RUN 0).loc, (F.EISCH_STAT_SETTLE 0).loc, (F.EIS_STAT_SWEEPING).loc, (F.EVT_STAT_LOST).loc]) : (b.latchMode c m leg).rd qq = b.rd qq := by
  simp at hq
  simp [Bay.latchMode, hq]

@[simp] theorem Bay.latchStep_rd (b : Bay) (c : Nat) (id i : Int) {qq : Key} (hq : qq.loc ∉ [(F.CHN_LEG_CNT 0).loc, (F.CHN_QUAL 0).loc, (F.CHN_REC_FILL 0).loc, (F.CHN_REC_STAT_DROPPED 0).loc, (F.CHN_REC_STAT_FULL 0).loc, (F.CHN_REC_STAT_LOST 0).loc, (F.CHN_REC_STAT_WARN 0).loc, (F.CHN_REG_STAT_CLR_ARMED 0).loc, (F.CHN_REG_STAT_DIRECT 0).loc, (F.CHN_REG_STAT_HOLD_CAUSE 0).loc, (F.CHN_REG_STAT_LIM 0).loc, (F.CHN_REG_STAT_MODE 0).loc, (F.CHN_REG_STAT_QUALIFYING 0).loc, (F.CHN_REG_STAT_STEP 0).loc, (F.CHN_REG_STAT_TO 0).loc, (F.CHN_REG_STAT_TOPOFF 0).loc, (F.CHN_REG_STAT_TRM 0).loc, (F.CHN_REG_STAT_WATCH 0).loc, (F.CHN_REG_STAT_ZONE 0).loc, (F.CHN_SFT 0).loc, (F.CHN_SFT_EXT 0).loc, (F.CHN_STEP_END_ALSO 0).loc, (F.CHN_STEP_END_CAUSE 0).loc, (F.CHN_TMR 0).loc, (F.EISCH_STAT_END 0).loc, (F.EISCH_STAT_PFLAGS 0).loc, (F.EISCH_STAT_RUN 0).loc, (F.EISCH_STAT_SETTLE 0).loc, (F.EIS_STAT_SWEEPING).loc, (F.ENG_FRZ_CAUSE 0).loc, (F.ENG_FRZ_DETAIL 0).loc, (F.ENG_STAT_CLR_ARMED 0).loc, (F.ENG_STAT_STATE 0).loc, (F.EVT_STAT_LOST).loc, (F.SKN_STAT_ACTIVE).loc]) : (b.latchStep c id i).rd qq = b.rd qq := by
  simp at hq
  simp only [Bay.latchStep]
  repeat' (first | done | split)
  all_goals simp [hq]

@[simp] theorem Bay.latchTargets_rd (b : Bay) (c : Nat) (cmds : List EngCmd) {qq : Key} : (b.latchTargets c cmds).rd qq = b.rd qq := by
  simp [Bay.latchTargets]

@[simp] theorem Bay.latchRamp_rd (b : Bay) (c : Nat) (cmds : List EngCmd) (was : Int) (fresh : Bool) {qq : Key} : (b.latchRamp c cmds was fresh).rd qq = b.rd qq := by
  simp only [Bay.latchRamp]
  repeat' (first | done | split)
  all_goals simp 

@[simp] theorem Bay.latchOther_rd (b : Bay) (c : Nat) (x : EngCmd) {qq : Key} (hq : qq.loc ∉ [(F.CHN_REC_FILL 0).loc, (F.CHN_REC_STAT_DROPPED 0).loc, (F.CHN_REC_STAT_FULL 0).loc, (F.CHN_REC_STAT_WARN 0).loc, (F.EISCH_STAT_END 0).loc, (F.EISCH_STAT_PFLAGS 0).loc, (F.EISCH_STAT_RUN 0).loc, (F.EISCH_STAT_SETTLE 0).loc, (F.EIS_STAT_SWEEPING).loc, (F.ENG_DON 0).loc, (F.EVT_STAT_LOST).loc]) :
    (b.latchOther c x).rd qq = b.rd qq := by
  simp at hq
  cases x <;> simp [Bay.latchOther, hq]
  split <;> simp [hq]

@[simp] theorem Bay.latchEngine_rd (b : Bay) (c : Nat) {qq : Key} (hq : qq.loc ∉ [(F.CHN_LEG_CNT 0).loc, (F.CHN_QUAL 0).loc, (F.CHN_REC_FILL 0).loc, (F.CHN_REC_STAT_DROPPED 0).loc, (F.CHN_REC_STAT_FULL 0).loc, (F.CHN_REC_STAT_LOST 0).loc, (F.CHN_REC_STAT_WARN 0).loc, (F.CHN_REG_STAT_CLR_ARMED 0).loc, (F.CHN_REG_STAT_DIRECT 0).loc, (F.CHN_REG_STAT_HOLD_CAUSE 0).loc, (F.CHN_REG_STAT_LIM 0).loc, (F.CHN_REG_STAT_MODE 0).loc, (F.CHN_REG_STAT_QUALIFYING 0).loc, (F.CHN_REG_STAT_STEP 0).loc, (F.CHN_REG_STAT_TO 0).loc, (F.CHN_REG_STAT_TOPOFF 0).loc, (F.CHN_REG_STAT_TRM 0).loc, (F.CHN_REG_STAT_WATCH 0).loc, (F.CHN_REG_STAT_ZONE 0).loc, (F.CHN_SFT 0).loc, (F.CHN_SFT_EXT 0).loc, (F.CHN_STEP_END_ALSO 0).loc, (F.CHN_STEP_END_CAUSE 0).loc, (F.CHN_TMR 0).loc, (F.EISCH_STAT_END 0).loc, (F.EISCH_STAT_PFLAGS 0).loc, (F.EISCH_STAT_RUN 0).loc, (F.EISCH_STAT_SETTLE 0).loc, (F.EIS_STAT_SWEEPING).loc, (F.ENG_DON 0).loc, (F.ENG_FRZ_CAUSE 0).loc, (F.ENG_FRZ_DETAIL 0).loc, (F.ENG_STAT_CLR_ARMED 0).loc, (F.ENG_STAT_END 0).loc, (F.ENG_STAT_JOINED 0).loc, (F.ENG_STAT_STATE 0).loc, (F.EVT_STAT_LOST).loc, (F.SKN_STAT_ACTIVE).loc]) : (b.latchEngine c).rd qq = b.rd qq := by
  simp at hq
  unfold Bay.latchEngine
  repeat' (first | done | simp [hq] | split | intro _ | refine (Bay.each_rd (fun b n => ?_) _ _).trans ?_ | refine (Bay.onlyIf_rd (fun b => ?_) _ _).trans ?_ | refine (Bay.foldl_rd (fun b n => ?_) _ _).trans ?_ | refine Bay.gated_rd _ _ (by simp [hq]) ?_)

@[simp] theorem Bay.accEdge_rd (b : Bay) (c : Nat) {qq : Key} (hq : qq.grp ∉ [.eng]) : (b.accEdge c).rd qq = b.rd qq := by
  simp at hq
  simp [Bay.accEdge, hq]

@[simp] theorem Bay.evBitsEdge_rd (b : Bay) {qq : Key} (hq : qq.loc ∉ [(F.ENG_PC 0).loc, (F.ENG_STAT_JOINED 0).loc, (F.ENG_STAT_STATE 0).loc, (F.ENG_STAT_Z 0).loc, (F.SKN_STAT_ACTIVE).loc]) : (b.evBitsEdge).rd qq = b.rd qq := by
  simp at hq
  unfold Bay.evBitsEdge
  repeat' (first | done | simp [hq] | split | intro _ | refine (Bay.each_rd (fun b n => ?_) _ _).trans ?_ | refine (Bay.onlyIf_rd (fun b => ?_) _ _).trans ?_ | refine (Bay.foldl_rd (fun b n => ?_) _ _).trans ?_ | refine Bay.gated_rd _ _ (by simp [hq]) ?_)

@[simp] theorem Bay.evtReg_rd (b : Bay) (c : Nat) {qq : Key} (hq : qq.loc ∉ [(F.ENG_EVT_VAL 0).loc]) : (b.evtReg c).rd qq = b.rd qq := by
  simp at hq
  simp [Bay.evtReg, hq]

@[simp] theorem Bay.engineEdge_rd (b : Bay) (c : Nat) {qq : Key} (hq : qq.loc ∉ [(F.CHN_LEG_CNT 0).loc, (F.CHN_QUAL 0).loc, (F.CHN_REC_FILL 0).loc, (F.CHN_REC_STAT_DROPPED 0).loc, (F.CHN_REC_STAT_FULL 0).loc, (F.CHN_REC_STAT_LOST 0).loc, (F.CHN_REC_STAT_WARN 0).loc, (F.CHN_REG_STAT_CLR_ARMED 0).loc, (F.CHN_REG_STAT_DIRECT 0).loc, (F.CHN_REG_STAT_HOLD_CAUSE 0).loc, (F.CHN_REG_STAT_LIM 0).loc, (F.CHN_REG_STAT_MODE 0).loc, (F.CHN_REG_STAT_QUALIFYING 0).loc, (F.CHN_REG_STAT_STEP 0).loc, (F.CHN_REG_STAT_TO 0).loc, (F.CHN_REG_STAT_TOPOFF 0).loc, (F.CHN_REG_STAT_TRM 0).loc, (F.CHN_REG_STAT_WATCH 0).loc, (F.CHN_REG_STAT_ZONE 0).loc, (F.CHN_SFT 0).loc, (F.CHN_SFT_EXT 0).loc, (F.CHN_STEP_END_ALSO 0).loc, (F.CHN_STEP_END_CAUSE 0).loc, (F.CHN_TMR 0).loc, (F.EISCH_STAT_END 0).loc, (F.EISCH_STAT_PFLAGS 0).loc, (F.EISCH_STAT_RUN 0).loc, (F.EISCH_STAT_SETTLE 0).loc, (F.EIS_STAT_SWEEPING).loc, (F.ENG_DON 0).loc, (F.ENG_EVT_VAL 0).loc, (F.ENG_FRZ_CAUSE 0).loc, (F.ENG_FRZ_DETAIL 0).loc, (F.ENG_FRZ_T 0).loc, (F.ENG_PC 0).loc, (F.ENG_STAT_CLR_ARMED 0).loc, (F.ENG_STAT_END 0).loc, (F.ENG_STAT_JOINED 0).loc, (F.ENG_STAT_STATE 0).loc, (F.EVT_STAT_LOST).loc, (F.SKN_STAT_ACTIVE).loc]) : (b.engineEdge c).rd qq = b.rd qq := by
  simp at hq
  simp [Bay.engineEdge, hq]

@[simp] theorem Bay.setScrub_rd (b : Bay) (x : Nat) (p : Option Scrub) {qq : Key} : (b.setScrub x p).rd qq = b.rd qq := by
  simp [Bay.setScrub]

@[simp] theorem Bay.scrubSeen_rd (b : Bay) (x a : Nat) {qq : Key} (hq : qq.loc ∉ [(F.MEM_SCR_FIRST 0).loc, (F.MEM_SCR_LAST 0).loc]) : (b.scrubSeen x a).rd qq = b.rd qq := by
  simp at hq
  simp [Bay.scrubSeen, hq]

@[simp] theorem Bay.scrubRep_rd (b : Bay) (x : Nat) {qq : Key} (hq : qq.loc ∉ [(F.MEM_SCR_REP 0).loc]) : (b.scrubRep x).rd qq = b.rd qq := by
  simp at hq
  simp [Bay.scrubRep, hq]

@[simp] theorem Bay.cntClear_rd (b : Bay) (x : Nat) {qq : Key} (hq : qq.grp ∉ [.mem]) : (b.cntClear x).rd qq = b.rd qq := by
  simp at hq
  unfold Bay.cntClear
  repeat' (first | done | simp [hq] | split | intro _ | refine (Bay.each_rd (fun b n => ?_) _ _).trans ?_ | refine (Bay.onlyIf_rd (fun b => ?_) _ _).trans ?_ | refine (Bay.foldl_rd (fun b n => ?_) _ _).trans ?_ | refine Bay.gated_rd _ _ (by simp [hq]) ?_)

@[simp] theorem Bay.dmaRestart_rd (b : Bay) (x mask : Nat) {qq : Key} (hq : qq.loc ∉ [(F.MEM_DMA_HALT_MASK 0).loc]) : (b.dmaRestart x mask).rd qq = b.rd qq := by
  simp at hq
  simp [Bay.dmaRestart, hq]

@[simp] theorem Bay.posReg_rd (b : Bay) (p : Nat) {qq : Key} (hq : qq.loc ∉ [(F.POS_POS 0).loc]) : (b.posReg p).rd qq = b.rd qq := by
  simp at hq
  simp [Bay.posReg, hq]

@[simp] theorem Bay.posFault_rd (b : Bay) (p code : Nat) (detail : Int) {qq : Key} (hq : qq.loc ∉ [(F.AXS_FLT_CAUSE 0).loc, (F.AXS_FLT_COUNT 0).loc, (F.AXS_FLT_SECOND 0).loc, (F.AXS_STAT_ASRC 0).loc, (F.AXS_STAT_BRK_ON 0).loc, (F.AXS_STAT_CLR_ARMED 0).loc, (F.AXS_STAT_FB_USED 0).loc, (F.AXS_STAT_REV_HELD 0).loc, (F.AXS_STAT_STATE 0).loc, (F.EVT_STAT_LOST).loc, (F.POS_FLT_CODE 0).loc, (F.POS_FLT_DETAIL 0).loc, (F.POS_STAT_CMP_ARMED 0).loc, (F.POS_STAT_REF_FOUND 0).loc]) : (b.posFault p code detail).rd qq = b.rd qq := by
  simp at hq
  simp [Bay.posFault, hq]

@[simp] theorem Bay.fifoRegs_rd (b : Bay) (p : Nat) {qq : Key} (hq : qq.loc ∉ [(F.POS_FIFO_STAT_FILL 0).loc, (F.POS_HIT_FRC_FORCE 0).loc, (F.POS_HIT_FRC_MULTI 0).loc, (F.POS_HIT_FRC_OOS 0).loc, (F.POS_HIT_POS 0).loc, (F.POS_HIT_T 0).loc]) : (b.fifoRegs p).rd qq = b.rd qq := by
  simp at hq
  simp only [Bay.fifoRegs]
  repeat' (first | done | split)
  all_goals simp [hq]

@[simp] theorem Bay.takeHits_rd (n : Nat) (b : Bay) (p : Nat) (old new : Int) (t : Nat) (force : Int) (multi : Bool) {qq : Key} (hq : qq.loc ∉ [(F.EVT_STAT_LOST).loc, (F.POS_CMP_LEFT 0).loc, (F.POS_CMP_POS 0).loc, (F.POS_FIFO_STAT_LOST 0).loc, (F.POS_STAT_CMP_ARMED 0).loc]) :
    (b.takeHits p old new t force multi n).rd qq = b.rd qq := by
  simp at hq
  induction n generalizing b with
  | zero => rfl
  | succ n ih =>
    simp only [Bay.takeHits]; split
    · rw [ih]; repeat' (first | done | simp [hq] | split)
    · rfl

@[simp] theorem Bay.compareMove_rd (b : Bay) (p : Nat) (old new : Int) (t : Nat) (force : Int) {qq : Key} (hq : qq.loc ∉ [(F.EVT_STAT_LOST).loc, (F.POS_CMP_LEFT 0).loc, (F.POS_CMP_POS 0).loc, (F.POS_FIFO_STAT_FILL 0).loc, (F.POS_FIFO_STAT_LOST 0).loc, (F.POS_HIT_FRC_FORCE 0).loc, (F.POS_HIT_FRC_MULTI 0).loc, (F.POS_HIT_FRC_OOS 0).loc, (F.POS_HIT_POS 0).loc, (F.POS_HIT_T 0).loc, (F.POS_STAT_CMP_ARMED 0).loc]) : (b.compareMove p old new t force).rd qq = b.rd qq := by
  simp at hq
  unfold Bay.compareMove
  repeat' (first | done | simp [hq] | split | intro _ | refine (Bay.each_rd (fun b n => ?_) _ _).trans ?_ | refine (Bay.onlyIf_rd (fun b => ?_) _ _).trans ?_ | refine (Bay.foldl_rd (fun b n => ?_) _ _).trans ?_ | refine Bay.gated_rd _ _ (by simp [hq]) ?_)

@[simp] theorem Bay.skipMove_rd (b : Bay) (p : Nat) (old new : Int) {qq : Key} (hq : qq.loc ∉ [(F.POS_CMP_POS 0).loc, (F.POS_FIFO_STAT_SKIP 0).loc]) : (b.skipMove p old new).rd qq = b.rd qq := by
  simp at hq
  simp [Bay.skipMove, hq]

@[simp] theorem Bay.moveCount_rd (b : Bay) (p : Nat) (k : Int) {qq : Key} (hq : qq.loc ∉ [(F.POS_COUNT 0).loc, (F.POS_TURNS 0).loc]) : (b.moveCount p k).rd qq = b.rd qq := by
  simp at hq
  simp [Bay.moveCount, hq]

@[simp] theorem Bay.clearWin_rd (b : Bay) (p : Nat) {qq : Key} (hq : qq.loc ∉ [(F.POS_STAT_ILL_WIN 0).loc]) : (b.clearWin p).rd qq = b.rd qq := by
  simp at hq
  simp [Bay.clearWin, hq]

@[simp] theorem Bay.countEdge_rd (b : Bay) (p : Nat) (d : Int) {qq : Key} (hq : qq.loc ∉ [(F.POS_COUNT 0).loc, (F.POS_STAT_DIR 0).loc, (F.POS_STAT_ILL_WIN 0).loc, (F.POS_TURNS 0).loc]) : (b.countEdge p d).rd qq = b.rd qq := by
  simp at hq
  simp [Bay.countEdge, hq]

@[simp] theorem Bay.gapPassage_rd (b : Bay) (p : Nat) (d : Int) {qq : Key} (hq : qq.loc ∉ [(F.AXS_FLT_CAUSE 0).loc, (F.AXS_FLT_COUNT 0).loc, (F.AXS_FLT_SECOND 0).loc, (F.AXS_STAT_ASRC 0).loc, (F.AXS_STAT_BRK_ON 0).loc, (F.AXS_STAT_CLR_ARMED 0).loc, (F.AXS_STAT_FB_USED 0).loc, (F.AXS_STAT_REV_HELD 0).loc, (F.AXS_STAT_STATE 0).loc, (F.EVT_STAT_LOST).loc, (F.POS_CMP_POS 0).loc, (F.POS_COUNT 0).loc, (F.POS_FIFO_STAT_SKIP 0).loc, (F.POS_FLT_CODE 0).loc, (F.POS_FLT_DETAIL 0).loc, (F.POS_IDX_CNT 0).loc, (F.POS_IDX_ERR 0).loc, (F.POS_STAT_CMP_ARMED 0).loc, (F.POS_STAT_IDX_CORR 0).loc, (F.POS_STAT_ILL_WIN 0).loc, (F.POS_STAT_REF_FOUND 0).loc, (F.POS_TURNS 0).loc]) : (b.gapPassage p d).rd qq = b.rd qq := by
  simp at hq
  simp [Bay.gapPassage, hq]

@[simp] theorem Bay.leadEdge_rd (b : Bay) (p t4 : Nat) (d : Int) (turned : Bool) {qq : Key} (hq : qq.loc ∉ [(F.AXS_FLT_CAUSE 0).loc, (F.AXS_FLT_COUNT 0).loc, (F.AXS_FLT_SECOND 0).loc, (F.AXS_STAT_ASRC 0).loc, (F.AXS_STAT_BRK_ON 0).loc, (F.AXS_STAT_CLR_ARMED 0).loc, (F.AXS_STAT_FB_USED 0).loc, (F.AXS_STAT_REV_HELD 0).loc, (F.AXS_STAT_STATE 0).loc, (F.EVT_STAT_LOST).loc, (F.POS_CMP_POS 0).loc, (F.POS_COUNT 0).loc, (F.POS_FIFO_STAT_SKIP 0).loc, (F.POS_FLT_CODE 0).loc, (F.POS_FLT_DETAIL 0).loc, (F.POS_IDX_CNT 0).loc, (F.POS_IDX_ERR 0).loc, (F.POS_STAT_CMP_ARMED 0).loc, (F.POS_STAT_IDX_CORR 0).loc, (F.POS_STAT_ILL_WIN 0).loc, (F.POS_STAT_REF_FOUND 0).loc, (F.POS_TURNS 0).loc]) : (b.leadEdge p t4 d turned).rd qq = b.rd qq := by
  simp at hq
  simp only [Bay.leadEdge]
  repeat' (first | done | split)
  all_goals simp [hq]

@[simp] theorem Bay.spdReg_rd (b : Bay) (p : Nat) {qq : Key} (hq : qq.loc ∉ [(F.POS_SPD 0).loc]) : (b.spdReg p).rd qq = b.rd qq := by
  simp at hq
  simp [Bay.spdReg, hq]

@[simp] theorem Bay.edgeSpeed_rd (b : Bay) (p t4 : Nat) (turned : Bool) {qq : Key} (hq : qq.loc ∉ [(F.POS_SPD 0).loc]) : (b.edgeSpeed p t4 turned).rd qq = b.rd qq := by
  simp at hq
  simp only [Bay.edgeSpeed]
  repeat' (first | done | split)
  all_goals simp [hq]

@[simp] theorem Bay.showX34_rd (b : Bay) {qq : Key} : (b.showX34).rd qq = b.rd qq := by
  unfold Bay.showX34
  repeat' (first | done | simp  | split | intro _ | refine (Bay.each_rd (fun b n => ?_) _ _).trans ?_ | refine (Bay.onlyIf_rd (fun b => ?_) _ _).trans ?_ | refine (Bay.foldl_rd (fun b n => ?_) _ _).trans ?_)

@[simp] theorem Bay.lineMove_rd (b : Bay) (p : Nat) (onA onB : Bool) {qq : Key} : (b.lineMove p onA onB).rd qq = b.rd qq := by
  unfold Bay.lineMove
  repeat' (first | done | simp  | split | intro _ | refine (Bay.each_rd (fun b n => ?_) _ _).trans ?_ | refine (Bay.onlyIf_rd (fun b => ?_) _ _).trans ?_ | refine (Bay.foldl_rd (fun b n => ?_) _ _).trans ?_)

@[simp] theorem Bay.toothEdge_rd (b : Bay) (p : Nat) (fwd onA lead : Bool) (t4 : Nat) (force : Int) {qq : Key} (hq : qq.grp ∉ [.axs, .pos] ∧ qq.loc ∉ [(F.EVT_STAT_LOST).loc]) : (b.toothEdge p fwd onA lead t4 force).rd qq = b.rd qq := by
  simp at hq
  unfold Bay.toothEdge
  repeat' (first | done | simp [hq] | split | intro _ | refine (Bay.each_rd (fun b n => ?_) _ _).trans ?_ | refine (Bay.onlyIf_rd (fun b => ?_) _ _).trans ?_ | refine (Bay.foldl_rd (fun b n => ?_) _ _).trans ?_ | refine Bay.gated_rd _ _ (by simp [hq]) ?_)

@[simp] theorem Bay.ssiGood_rd (b : Bay) (p : Nat) (turns st : Int) (t : Nat) (force : Int) {qq : Key} (hq : qq.loc ∉ [(F.EVT_STAT_LOST).loc, (F.POS_CMP_LEFT 0).loc, (F.POS_CMP_POS 0).loc, (F.POS_COUNT 0).loc, (F.POS_FIFO_STAT_FILL 0).loc, (F.POS_FIFO_STAT_LOST 0).loc, (F.POS_HIT_FRC_FORCE 0).loc, (F.POS_HIT_FRC_MULTI 0).loc, (F.POS_HIT_FRC_OOS 0).loc, (F.POS_HIT_POS 0).loc, (F.POS_HIT_T 0).loc, (F.POS_POS 0).loc, (F.POS_SPD 0).loc, (F.POS_SSI_RAW 0).loc, (F.POS_STAT_CMP_ARMED 0).loc, (F.POS_STAT_DIR 0).loc, (F.POS_STAT_REF_FOUND 0).loc, (F.POS_STAT_SSI_BAD 0).loc, (F.POS_STAT_SSI_BADRUN 0).loc, (F.POS_TURNS 0).loc]) :
    (b.ssiGood p turns st t force).rd qq = b.rd qq := by
  simp at hq
  unfold Bay.ssiGood
  extract_lets x old first b1 b2 new hist v b3 b4
  have h4 : b4.rd qq = b.rd qq := by simp [b4, b3, b2, b1, hq]
  split
  · simp [hq, h4]
  · simp [hq, h4]

@[simp] theorem Bay.hitRead_rd (b : Bay) (p : Nat) {qq : Key} (hq : qq.loc ∉ [(F.POS_FIFO_STAT_FILL 0).loc, (F.POS_HIT_FRC_FORCE 0).loc, (F.POS_HIT_FRC_MULTI 0).loc, (F.POS_HIT_FRC_OOS 0).loc, (F.POS_HIT_POS 0).loc, (F.POS_HIT_T 0).loc]) : (b.hitRead p).rd qq = b.rd qq := by
  simp at hq
  simp [Bay.hitRead, hq]

@[simp] theorem Bay.ptEdge_rd (b : Bay) {qq : Key} : (b.ptEdge).rd qq = b.rd qq := by
  simp [Bay.ptEdge]

@[simp] theorem Bay.posReport_rd (b : Bay) (p : Nat) {qq : Key} (hq : qq.loc ∉ [(F.POS_SPD 0).loc, (F.POS_STAT_REF_FOUND 0).loc]) : (b.posReport p).rd qq = b.rd qq := by
  simp at hq
  unfold Bay.posReport
  repeat' (first | done | simp [hq] | split | intro _ | refine (Bay.each_rd (fun b n => ?_) _ _).trans ?_ | refine (Bay.onlyIf_rd (fun b => ?_) _ _).trans ?_ | refine (Bay.foldl_rd (fun b n => ?_) _ _).trans ?_ | refine Bay.gated_rd _ _ (by simp [hq]) ?_)

@[simp] theorem Bay.overSpan_rd (b : Bay) (c : Nat) (v i : Int) {qq : Key} (hq : qq.loc ∉ [(F.CHN_MEAS_STAT_OVR_I 0).loc, (F.CHN_MEAS_STAT_OVR_V 0).loc]) : (b.overSpan c v i).rd qq = b.rd qq := by
  simp at hq
  simp [Bay.overSpan, hq]

@[simp] theorem Bay.showOnTime_rd (b : Bay) (c : Nat) {qq : Key} (hq : qq.loc ∉ [(F.CHN_ON_T_VAL 0).loc]) : (b.showOnTime c).rd qq = b.rd qq := by
  simp at hq
  unfold Bay.showOnTime
  repeat' (first | done | simp [hq] | split | intro _ | refine (Bay.each_rd (fun b n => ?_) _ _).trans ?_ | refine (Bay.onlyIf_rd (fun b => ?_) _ _).trans ?_ | refine (Bay.foldl_rd (fun b n => ?_) _ _).trans ?_ | refine Bay.gated_rd _ _ (by simp [hq]) ?_)

@[simp] theorem Bay.sampleRegs_rd (b : Bay) (c : Nat) (x : ChanSample) (v i : Int) {qq : Key} (hq : qq.loc ∉ [(F.CHN_I 0).loc, (F.CHN_NODE_V 0).loc, (F.CHN_ON_T_VAL 0).loc, (F.CHN_PH_I01_P0 0).loc, (F.CHN_PH_I01_P1 0).loc, (F.CHN_PH_I23_P2 0).loc, (F.CHN_PH_I23_P3 0).loc, (F.CHN_V 0).loc]) : (b.sampleRegs c x v i).rd qq = b.rd qq := by
  simp at hq
  simp [Bay.sampleRegs, hq]

@[simp] theorem Bay.keepHistory_rd (b : Bay) (c : Nat) (v i : Int) {qq : Key} : (b.keepHistory c v i).rd qq = b.rd qq := by
  simp [Bay.keepHistory]

@[simp] theorem Bay.takeSums_rd (b : Bay) (c : Nat) {qq : Key} (hq : qq.loc ∉ [(F.CHN_E_IN 0).loc, (F.CHN_E_OUT 0).loc, (F.CHN_Q_IN 0).loc, (F.CHN_Q_OUT 0).loc, (F.ENG_DON 0).loc]) : (b.takeSums c).rd qq = b.rd qq := by
  simp at hq
  unfold Bay.takeSums
  repeat' (first | done | simp [hq] | split | intro _ | refine (Bay.each_rd (fun b n => ?_) _ _).trans ?_ | refine (Bay.onlyIf_rd (fun b => ?_) _ _).trans ?_ | refine (Bay.foldl_rd (fun b n => ?_) _ _).trans ?_ | refine Bay.gated_rd _ _ (by simp [hq]) ?_)

@[simp] theorem Bay.sumsArrive_rd (b : Bay) (c : Nat) {qq : Key} (hq : qq.loc ∉ [(F.CHN_E_IN 0).loc, (F.CHN_E_OUT 0).loc, (F.CHN_Q_IN 0).loc, (F.CHN_Q_OUT 0).loc, (F.ENG_DON 0).loc]) : (b.sumsArrive c).rd qq = b.rd qq := by
  simp at hq
  unfold Bay.sumsArrive
  repeat' (first | done | simp [hq] | split | intro _ | refine (Bay.each_rd (fun b n => ?_) _ _).trans ?_ | refine (Bay.onlyIf_rd (fun b => ?_) _ _).trans ?_ | refine (Bay.foldl_rd (fun b n => ?_) _ _).trans ?_ | refine Bay.gated_rd _ _ (by simp [hq]) ?_)

@[simp] theorem Bay.accumulate_rd (b : Bay) (c : Nat) (v i : Int) {qq : Key} (hq : qq.loc ∉ [(F.CHN_E_IN 0).loc, (F.CHN_E_OUT 0).loc, (F.CHN_Q_IN 0).loc, (F.CHN_Q_OUT 0).loc, (F.ENG_DON 0).loc]) : (b.accumulate c v i).rd qq = b.rd qq := by
  simp at hq
  simp [Bay.accumulate, hq]

@[simp] theorem Bay.addMeans_rd (b : Bay) (c : Nat) (v i : Int) {qq : Key} : (b.addMeans c v i).rd qq = b.rd qq := by
  unfold Bay.addMeans
  repeat' (first | done | simp  | split | intro _ | refine (Bay.each_rd (fun b n => ?_) _ _).trans ?_ | refine (Bay.onlyIf_rd (fun b => ?_) _ _).trans ?_ | refine (Bay.foldl_rd (fun b n => ?_) _ _).trans ?_)

@[simp] theorem Bay.takeSample_rd (b : Bay) (x : ChanSample) {qq : Key} (hq : qq.loc ∉ [(F.CHN_E_IN 0).loc, (F.CHN_E_OUT 0).loc, (F.CHN_I 0).loc, (F.CHN_MEAS_STAT_OVR_I 0).loc, (F.CHN_MEAS_STAT_OVR_V 0).loc, (F.CHN_NODE_V 0).loc, (F.CHN_ON_T_VAL 0).loc, (F.CHN_PH_I01_P0 0).loc, (F.CHN_PH_I01_P1 0).loc, (F.CHN_PH_I23_P2 0).loc, (F.CHN_PH_I23_P3 0).loc, (F.CHN_Q_IN 0).loc, (F.CHN_Q_OUT 0).loc, (F.CHN_V 0).loc, (F.ENG_DON 0).loc]) : (b.takeSample x).rd qq = b.rd qq := by
  simp at hq
  unfold Bay.takeSample
  repeat' (first | done | simp [hq] | split | intro _ | refine (Bay.each_rd (fun b n => ?_) _ _).trans ?_ | refine (Bay.onlyIf_rd (fun b => ?_) _ _).trans ?_ | refine (Bay.foldl_rd (fun b n => ?_) _ _).trans ?_ | refine Bay.gated_rd _ _ (by simp [hq]) ?_)

@[simp] theorem Bay.takeSection_rd (b : Bay) (x : SecSample) {qq : Key} (hq : qq.loc ∉ [(F.SEC_BUS_V 0).loc, (F.SEC_CONV_P 0).loc, (F.SEC_LOSS 0).loc, (F.SEC_STAT_DIR 0).loc]) : (b.takeSection x).rd qq = b.rd qq := by
  simp at hq
  simp [Bay.takeSection, hq]

@[simp] theorem Bay.takeForce_rd (b : Bay) (a : Nat) (f : Int) {qq : Key} (hq : qq.loc ∉ [(F.AXS_FORCE 0).loc]) : (b.takeForce a f).rd qq = b.rd qq := by
  simp at hq
  unfold Bay.takeForce
  repeat' (first | done | simp [hq] | split | intro _ | refine (Bay.each_rd (fun b n => ?_) _ _).trans ?_ | refine (Bay.onlyIf_rd (fun b => ?_) _ _).trans ?_ | refine (Bay.foldl_rd (fun b n => ?_) _ _).trans ?_ | refine Bay.gated_rd _ _ (by simp [hq]) ?_)

@[simp] theorem Bay.takeAxis_rd (b : Bay) (x : AxisSample) {qq : Key} (hq : qq.loc ∉ [(F.AXS_FORCE 0).loc]) : (b.takeAxis x).rd qq = b.rd qq := by
  simp at hq
  simp [Bay.takeAxis, hq]

@[simp] theorem Bay.takePlant_rd (b : Bay) (i : FrameIn) {qq : Key} (hq : qq.loc ∉ [(F.PWR_AXBUS_AXV).loc, (F.PWR_AXBUS_RETURN).loc, (F.PWR_ENTRY_STAT_X1_LOW).loc, (F.PWR_NODE_V).loc, (F.PWR_X1_I).loc, (F.PWR_X1_V).loc]) : (b.takePlant i).rd qq = b.rd qq := by
  simp at hq
  simp [Bay.takePlant, hq]

@[simp] theorem Bay.takeOven_rd (b : Bay) (o : Option (Int × Bool)) {qq : Key} (hq : qq.loc ∉ [(F.MEAS_OVEN_T).loc, (F.MEAS_WARM).loc]) : (b.takeOven o).rd qq = b.rd qq := by
  simp at hq
  simp only [Bay.takeOven]
  repeat' (first | done | split)
  all_goals simp [hq]

@[simp] theorem Bay.takeSamples_rd (b : Bay) (i : FrameIn) {qq : Key} (hq : qq.loc ∉ [(F.AXS_FORCE 0).loc, (F.CHN_E_IN 0).loc, (F.CHN_E_OUT 0).loc, (F.CHN_I 0).loc, (F.CHN_MEAS_STAT_OVR_I 0).loc, (F.CHN_MEAS_STAT_OVR_V 0).loc, (F.CHN_NODE_V 0).loc, (F.CHN_ON_T_VAL 0).loc, (F.CHN_PH_I01_P0 0).loc, (F.CHN_PH_I01_P1 0).loc, (F.CHN_PH_I23_P2 0).loc, (F.CHN_PH_I23_P3 0).loc, (F.CHN_Q_IN 0).loc, (F.CHN_Q_OUT 0).loc, (F.CHN_V 0).loc, (F.ENG_DON 0).loc, (F.MEAS_OVEN_T).loc, (F.MEAS_WARM).loc, (F.PWR_AXBUS_AXV).loc, (F.PWR_AXBUS_RETURN).loc, (F.PWR_ENTRY_STAT_X1_LOW).loc, (F.PWR_NODE_V).loc, (F.PWR_X1_I).loc, (F.PWR_X1_V).loc, (F.SEC_BUS_V 0).loc, (F.SEC_CONV_P 0).loc, (F.SEC_LOSS 0).loc, (F.SEC_STAT_DIR 0).loc]) : (b.takeSamples i).rd qq = b.rd qq := by
  simp at hq
  simp [Bay.takeSamples, hq]

@[simp] theorem Bay.marksEdge_rd (b : Bay) (c : Nat) {qq : Key} : (b.marksEdge c).rd qq = b.rd qq := by
  simp [Bay.marksEdge]

@[simp] theorem Bay.sweepLimits_rd (b : Bay) (c : Nat) {qq : Key} : (b.sweepLimits c).rd qq = b.rd qq := by
  simp [Bay.sweepLimits]

@[simp] theorem Bay.rwlEdge_rd (b : Bay) {qq : Key} : (b.rwlEdge).rd qq = b.rd qq := by
  unfold Bay.rwlEdge
  repeat' (first | done | simp  | split | intro _ | refine (Bay.each_rd (fun b n => ?_) _ _).trans ?_ | refine (Bay.onlyIf_rd (fun b => ?_) _ _).trans ?_ | refine (Bay.foldl_rd (fun b n => ?_) _ _).trans ?_)

@[simp] theorem Bay.latchPhase_rd (b : Bay) {qq : Key} (hq : qq.grp ∉ [.chn, .eis, .eisCh, .eng, .evt, .red, .skn]) : (b.latchPhase).rd qq = b.rd qq := by
  simp at hq
  unfold Bay.latchPhase
  repeat' (first | done | simp [hq] | split | intro _ | refine (Bay.each_rd (fun b n => ?_) _ _).trans ?_ | refine (Bay.onlyIf_rd (fun b => ?_) _ _).trans ?_ | refine (Bay.foldl_rd (fun b n => ?_) _ _).trans ?_ | refine Bay.gated_rd _ _ (by simp [hq]) ?_)

@[simp] theorem Bay.restEdge_rd (b : Bay) (c : Nat) {qq : Key} (hq : qq.loc ∉ [(F.CHN_REC_FILL 0).loc, (F.CHN_REC_STAT_DROPPED 0).loc, (F.CHN_REC_STAT_FULL 0).loc, (F.CHN_REC_STAT_WARN 0).loc, (F.CHN_REG_STAT_CLR_ARMED 0).loc, (F.CHN_REG_STAT_HOLD_CAUSE 0).loc, (F.CHN_REG_STAT_MODE 0).loc, (F.CHN_REG_STAT_WATCH 0).loc, (F.EISCH_STAT_END 0).loc, (F.EISCH_STAT_PFLAGS 0).loc, (F.EISCH_STAT_RUN 0).loc, (F.EISCH_STAT_SETTLE 0).loc, (F.EIS_STAT_SWEEPING).loc, (F.EVT_STAT_LOST).loc]) : (b.restEdge c).rd qq = b.rd qq := by
  simp at hq
  simp [Bay.restEdge, hq]

@[simp] theorem Bay.peakEdge_rd (b : Bay) (c : Nat) {qq : Key} (hq : qq.loc ∉ [(F.CHN_STG_STAT_PEAK 0).loc]) : (b.peakEdge c).rd qq = b.rd qq := by
  simp at hq
  unfold Bay.peakEdge
  repeat' (first | done | simp [hq] | split | intro _ | refine (Bay.each_rd (fun b n => ?_) _ _).trans ?_ | refine (Bay.onlyIf_rd (fun b => ?_) _ _).trans ?_ | refine (Bay.foldl_rd (fun b n => ?_) _ _).trans ?_ | refine Bay.gated_rd _ _ (by simp [hq]) ?_)

@[simp] theorem Bay.chanEdge_rd (b : Bay) (c : Nat) {qq : Key} (hq : qq.grp ∉ [.eng] ∧ qq.loc ∉ [(F.CHN_MEAS_STAT_BRIDGE 0).loc, (F.CHN_REC_FILL 0).loc, (F.CHN_REC_STAT_DROPPED 0).loc, (F.CHN_REC_STAT_FULL 0).loc, (F.CHN_REC_STAT_WARN 0).loc, (F.CHN_REG_STAT_BORDER_OK 0).loc, (F.CHN_REG_STAT_CLR_ARMED 0).loc, (F.CHN_REG_STAT_HOLD_CAUSE 0).loc, (F.CHN_REG_STAT_LIM 0).loc, (F.CHN_REG_STAT_MODE 0).loc, (F.CHN_REG_STAT_WATCH 0).loc, (F.CHN_STG_STAT_PEAK 0).loc, (F.EISCH_STAT_END 0).loc, (F.EISCH_STAT_PFLAGS 0).loc, (F.EISCH_STAT_RUN 0).loc, (F.EISCH_STAT_SETTLE 0).loc, (F.EIS_STAT_SWEEPING).loc, (F.EVT_STAT_LOST).loc]) : (b.chanEdge c).rd qq = b.rd qq := by
  simp at hq
  simp [Bay.chanEdge, hq]

@[simp] theorem Bay.brakeEdge_rd (b : Bay) (a : Nat) {qq : Key} (hq : qq.loc ∉ [(F.AXS_STAT_BRK_ON 0).loc]) : (b.brakeEdge a).rd qq = b.rd qq := by
  simp at hq
  simp only [Bay.brakeEdge]
  repeat' (first | done | split)
  all_goals simp [hq]

@[simp] theorem Bay.modulate_rd (b : Bay) (a : Nat) {qq : Key} : (b.modulate a).rd qq = b.rd qq := by
  unfold Bay.modulate
  repeat' (first | done | simp  | split | intro _ | refine (Bay.each_rd (fun b n => ?_) _ _).trans ?_ | refine (Bay.onlyIf_rd (fun b => ?_) _ _).trans ?_ | refine (Bay.foldl_rd (fun b n => ?_) _ _).trans ?_)

@[simp] theorem Bay.axisPhase_rd (b : Bay) {qq : Key} (hq : qq.loc ∉ [(F.AXS_FLT_CAUSE 0).loc, (F.AXS_FLT_SECOND 0).loc, (F.AXS_F_TGT 0).loc, (F.AXS_STAT_BRK_ON 0).loc, (F.AXS_STAT_PRS 0).loc, (F.AXS_STAT_STATE 0).loc, (F.EVT_STAT_LOST).loc, (F.POS_SPD 0).loc, (F.POS_STAT_REF_FOUND 0).loc]) : (b.axisPhase).rd qq = b.rd qq := by
  simp at hq
  simp [Bay.axisPhase, hq]

@[simp] theorem Bay.axisLoop_rd (b : Bay) (vbus : Int) (x : AxisSample) {qq : Key} (hq : qq.loc ∉ [(F.AXS_FB_OFS 0).loc, (F.AXS_I2T 0).loc, (F.AXS_SPD 0).loc, (F.AXS_STAT_ASRC 0).loc, (F.AXS_STAT_FB_USED 0).loc, (F.AXS_STAT_I2T_LIM 0).loc, (F.LPA_XD 0).loc, (F.LPA_XQ 0).loc]) : (b.axisLoop vbus x).rd qq = b.rd qq := by
  simp at hq
  simp [Bay.axisLoop, hq]

@[simp] theorem Bay.loopPhase_rd (b : Bay) (i : FrameIn) {qq : Key} (hq : qq.loc ∉ [(F.AXS_FB_OFS 0).loc, (F.AXS_I2T 0).loc, (F.AXS_SPD 0).loc, (F.AXS_STAT_ASRC 0).loc, (F.AXS_STAT_BRK_ON 0).loc, (F.AXS_STAT_FB_USED 0).loc, (F.AXS_STAT_I2T_LIM 0).loc, (F.AXS_STAT_REV_HELD 0).loc, (F.CHN_REG_STAT_EXTLIM 0).loc, (F.CHN_REG_STAT_LIM 0).loc, (F.LPA_MAN_OUT 0).loc, (F.LPA_XD 0).loc, (F.LPA_XQ 0).loc, (F.LPA_XS 0).loc, (F.LPC_MAN_OUT 0).loc, (F.LPC_XI 0).loc, (F.LPC_XV 0).loc, (F.TR_STAT_FILL 0).loc, (F.TR_STAT_THIN 0).loc, (F.TR_STAT_TRIG 0).loc]) : (b.loopPhase i).rd qq = b.rd qq := by
  simp at hq
  unfold Bay.loopPhase
  repeat' (first | done | simp [hq] | split | intro _ | refine (Bay.each_rd (fun b n => ?_) _ _).trans ?_ | refine (Bay.onlyIf_rd (fun b => ?_) _ _).trans ?_ | refine (Bay.foldl_rd (fun b n => ?_) _ _).trans ?_ | refine Bay.gated_rd _ _ (by simp [hq]) ?_)

@[simp] theorem Bay.showEdge_rd (b : Bay) {qq : Key} : (b.showEdge).rd qq = b.rd qq := by
  unfold Bay.showEdge
  repeat' (first | done | simp  | split | intro _ | refine (Bay.each_rd (fun b n => ?_) _ _).trans ?_ | refine (Bay.onlyIf_rd (fun b => ?_) _ _).trans ?_ | refine (Bay.foldl_rd (fun b n => ?_) _ _).trans ?_)

@[simp] theorem Bay.latchHigh_rd (b : Bay) (cart : Nat) (r : RegAt) {qq : Key} : (b.latchHigh cart r).rd qq = b.rd qq := by
  simp only [Bay.latchHigh]
  repeat' (first | done | split)
  all_goals simp 

@[simp] theorem Bay.dropLatch_rd (b : Bay) (f : FieldRow) (k : Key) {qq : Key} : (b.dropLatch f k).rd qq = b.rd qq := by
  unfold Bay.dropLatch
  repeat' (first | done | simp  | split | intro _ | refine (Bay.each_rd (fun b n => ?_) _ _).trans ?_ | refine (Bay.onlyIf_rd (fun b => ?_) _ _).trans ?_ | refine (Bay.foldl_rd (fun b n => ?_) _ _).trans ?_)

@[simp] theorem Bay.openSession_rd (b : Bay) (i cart : Nat) (key : List Byte) (chained : Bool) (level : Int) {qq : Key} (hq : qq.loc ∉ [(F.AUTH_ENROLLED 0).loc, (F.AUTH_ID 0).loc, (F.AUTH_RIGHTS 0).loc, (F.EVT_STAT_LOST).loc, (F.TRU_STAT_HOST_N).loc, (F.TRU_STAT_PLANT_N).loc]) : (b.openSession i cart key chained level).rd qq = b.rd qq := by
  simp at hq
  simp [Bay.openSession, hq]

@[simp] theorem Bay.heardSession_rd (b : Bay) (i : Nat) (x : Session) {qq : Key} : (b.heardSession i x).rd qq = b.rd qq := by
  simp [Bay.heardSession]

@[simp] theorem Bay.freeSource_rd (b : Bay) (n p : Nat) {qq : Key} (hq : qq.loc ∉ [(F.CHN_REC_FILL 0).loc, (F.CHN_REC_STAT_DROPPED 0).loc, (F.CHN_REC_STAT_FULL 0).loc, (F.CHN_REC_STAT_WARN 0).loc, (F.CHN_REG_STAT_CLR_ARMED 0).loc, (F.CHN_REG_STAT_HOLD_CAUSE 0).loc, (F.CHN_REG_STAT_MODE 0).loc, (F.CHN_REG_STAT_WATCH 0).loc, (F.EISCH_STAT_END 0).loc, (F.EISCH_STAT_PFLAGS 0).loc, (F.EISCH_STAT_RUN 0).loc, (F.EISCH_STAT_SETTLE 0).loc, (F.EIS_STAT_SWEEPING).loc, (F.EVT_STAT_LOST).loc, (F.SEC_STAT_STATE 0).loc]) : (b.freeSource n p).rd qq = b.rd qq := by
  simp at hq
  simp [Bay.freeSource, hq]

/-! Bay time: every operation but those of the clock leaves it. -/

@[simp] theorem Bay.each_now {f : Bay → Nat → Bay} (h : ∀ b n, (f b n).now = b.now) (b : Bay) (l : List Nat) : (b.each l f).now = b.now :=
  Bay.each_keeps Bay.now f h b l
@[simp] theorem Bay.onlyIf_now {f : Bay → Bay} (h : ∀ b, (f b).now = b.now) (b : Bay) (c : Bool) : (b.onlyIf c f).now = b.now :=
  Bay.onlyIf_keeps Bay.now f h b c
@[simp] theorem Bay.foldl_now {α : Type} {f : Bay → α → Bay} (h : ∀ b x, (f b x).now = b.now) (b : Bay) (l : List α) :
    (l.foldl f b).now = b.now := by
  induction l generalizing b with
  | nil => rfl
  | cons x l ih => simp [ih, h]
@[simp] theorem Bay.ite_now (c : Prop) [Decidable c] (x y : Bay) : (if c then x else y).now = if c then x.now else y.now := by split <;> rfl
@[simp] theorem Bay.gated_now (b : Bay) (k' : Key) {f : Bay → Bay} (hf : (f b).now = b.now) : (b.gated k' f).now = b.now := by
  unfold Bay.gated; split
  · rfl
  · split
    · exact Bay.refuse_now _ _ _
    · exact hf
@[simp] theorem Bay.sendEvBit_now (b : Bay) (t e i : Nat) : (b.sendEvBit t e i).now = b.now := rfl
@[simp] theorem Bay.free_now (b : Bay) : b.free.2.now = b.now := rfl

@[simp] theorem Bay.ringStat_now (b : Bay) (c : Nat) : (b.ringStat c).now = b.now := by
  simp [Bay.ringStat]

@[simp] theorem Bay.dropEntry_now (b : Bay) (c : Nat) : (b.dropEntry c).now = b.now := by
  simp [Bay.dropEntry]

@[simp] theorem Bay.putEntry_now (b : Bay) (c : Nat) (e : RecEntry) : (b.putEntry c e).now = b.now := by
  simp [Bay.putEntry]

@[simp] theorem Bay.openInterval_now (b : Bay) (c t : Nat) : (b.openInterval c t).now = b.now := by
  simp [Bay.openInterval]

@[simp] theorem Bay.loseTime_now (b : Bay) (c ticks : Nat) : (b.loseTime c ticks).now = b.now := by
  unfold Bay.loseTime
  repeat' (first | done | simp  | split | intro _ | refine (Bay.each_now (fun b n => ?_) _ _).trans ?_ | refine (Bay.onlyIf_now (fun b => ?_) _ _).trans ?_ | refine (Bay.foldl_now (fun b n => ?_) _ _).trans ?_ | refine Bay.gated_now _ _ ?_)

@[simp] theorem Bay.closeInterval_now (b : Bay) (c : Nat) : (b.closeInterval c).now = b.now := by
  simp [Bay.closeInterval]

@[simp] theorem Bay.markInterval_now (b : Bay) (c bit : Nat) : (b.markInterval c bit).now = b.now := by
  simp [Bay.markInterval]

@[simp] theorem Bay.recEvent_now (b : Bay) (c : Nat) (kind detail value : Int) : (b.recEvent c kind detail value).now = b.now := by
  simp [Bay.recEvent]

@[simp] theorem Bay.sealTrigger_now (b : Bay) (c : Nat) (cellEnd : Bool) : (b.sealTrigger c cellEnd).now = b.now := by
  simp [Bay.sealTrigger]

@[simp] theorem Bay.endCell_now (b : Bay) (c : Nat) (cause : Int) : (b.endCell c cause).now = b.now := by
  simp [Bay.endCell]

@[simp] theorem Bay.ringSpace_now (b : Bay) (c : Nat) : (b.ringSpace c).now = b.now := by
  simp [Bay.ringSpace]

@[simp] theorem Bay.releaseSlots_now (b : Bay) (c n : Nat) : (b.releaseSlots c n).now = b.now := by
  simp [Bay.releaseSlots]

@[simp] theorem Bay.clampRef_now (b : Bay) (c : Nat) : (b.clampRef c).now = b.now := by
  simp [Bay.clampRef]

@[simp] theorem Bay.shedWatch_now (b : Bay) (c : Nat) : (b.shedWatch c).now = b.now := by
  unfold Bay.shedWatch
  repeat' (first | done | simp  | split | intro _ | refine (Bay.each_now (fun b n => ?_) _ _).trans ?_ | refine (Bay.onlyIf_now (fun b => ?_) _ _).trans ?_ | refine (Bay.foldl_now (fun b n => ?_) _ _).trans ?_ | refine Bay.gated_now _ _ ?_)

@[simp] theorem Bay.onePhase_now (b : Bay) (c : Nat) : (b.onePhase c).now = b.now := by
  unfold Bay.onePhase
  repeat' (first | done | simp  | split | intro _ | refine (Bay.each_now (fun b n => ?_) _ _).trans ?_ | refine (Bay.onlyIf_now (fun b => ?_) _ _).trans ?_ | refine (Bay.foldl_now (fun b n => ?_) _ _).trans ?_ | refine Bay.gated_now _ _ ?_)

@[simp] theorem Bay.reinstate_now (b : Bay) (c : Nat) : (b.reinstate c).now = b.now := by
  simp [Bay.reinstate]

@[simp] theorem Bay.zeroTrim_now (b : Bay) (c p : Nat) : (b.zeroTrim c p).now = b.now := by
  unfold Bay.zeroTrim
  repeat' (first | done | simp  | split | intro _ | refine (Bay.each_now (fun b n => ?_) _ _).trans ?_ | refine (Bay.onlyIf_now (fun b => ?_) _ _).trans ?_ | refine (Bay.foldl_now (fun b n => ?_) _ _).trans ?_ | refine Bay.gated_now _ _ ?_)

@[simp] theorem Bay.queueRecord_now (b : Bay) (n : Nat) (r : FramRec) : (b.queueRecord n r).now = b.now := by
  simp [Bay.queueRecord]

@[simp] theorem Bay.waleRecord_now (b : Bay) (n cause : Nat) : (b.waleRecord n cause).now = b.now := by
  simp [Bay.waleRecord]

@[simp] theorem Bay.chanFault_now (b : Bay) (c : Nat) (cause detail : Nat) : (b.chanFault c cause detail).now = b.now := by
  simp [Bay.chanFault]

@[simp] theorem Bay.refreshBorder_now (b : Bay) (c : Nat) : (b.refreshBorder c).now = b.now := by
  simp only [Bay.refreshBorder]
  repeat' (first | done | split)
  all_goals simp 

@[simp] theorem Bay.openSwitch_now (b : Bay) (c : Nat) (stage : Int) : (b.openSwitch c stage).now = b.now := by
  simp [Bay.openSwitch]

@[simp] theorem Bay.allLegs_now (b : Bay) (c : Nat) (x : Leg) : (b.allLegs c x).now = b.now := by
  simp [Bay.allLegs]

@[simp] theorem Bay.stageRamp_now (b : Bay) (c : Nat) (ms : Int) : (b.stageRamp c ms).now = b.now := by
  unfold Bay.stageRamp
  repeat' (first | done | simp  | split | intro _ | refine (Bay.each_now (fun b n => ?_) _ _).trans ?_ | refine (Bay.onlyIf_now (fun b => ?_) _ _).trans ?_ | refine (Bay.foldl_now (fun b n => ?_) _ _).trans ?_ | refine Bay.gated_now _ _ ?_)

@[simp] theorem Bay.stageStop_now (b : Bay) (c : Nat) (ms : Option Int) : (b.stageStop c ms).now = b.now := by
  unfold Bay.stageStop
  repeat' (first | done | simp  | split | intro _ | refine (Bay.each_now (fun b n => ?_) _ _).trans ?_ | refine (Bay.onlyIf_now (fun b => ?_) _ _).trans ?_ | refine (Bay.foldl_now (fun b n => ?_) _ _).trans ?_ | refine Bay.gated_now _ _ ?_)

@[simp] theorem Bay.actRequests_now (b : Bay) (c : Nat) : (b.actRequests c).now = b.now := by
  unfold Bay.actRequests
  repeat' (first | done | simp  | split | intro _ | refine (Bay.each_now (fun b n => ?_) _ _).trans ?_ | refine (Bay.onlyIf_now (fun b => ?_) _ _).trans ?_ | refine (Bay.foldl_now (fun b n => ?_) _ _).trans ?_ | refine Bay.gated_now _ _ ?_)

@[simp] theorem Bay.rampDown_now (b : Bay) (c : Nat) (ms : Int) : (b.rampDown c ms).now = b.now := by
  simp [Bay.rampDown]

@[simp] theorem Bay.softStop_now (b : Bay) (c : Nat) : (b.softStop c).now = b.now := by
  simp [Bay.softStop]

@[simp] theorem Bay.quickStop_now (b : Bay) (c : Nat) : (b.quickStop c).now = b.now := by
  simp [Bay.quickStop]

@[simp] theorem Bay.syncMode_now (b : Bay) (c : Nat) : (b.syncMode c).now = b.now := by
  simp [Bay.syncMode]

@[simp] theorem Bay.endWatch_now (b : Bay) (c : Nat) : (b.endWatch c).now = b.now := by
  simp [Bay.endWatch]

@[simp] theorem Bay.endSweepEarly_now (b : Bay) (c : Nat) (code : Int) : (b.endSweepEarly c code).now = b.now := by
  unfold Bay.endSweepEarly
  repeat' (first | done | simp  | split | intro _ | refine (Bay.each_now (fun b n => ?_) _ _).trans ?_ | refine (Bay.onlyIf_now (fun b => ?_) _ _).trans ?_ | refine (Bay.foldl_now (fun b n => ?_) _ _).trans ?_ | refine Bay.gated_now _ _ ?_)

@[simp] theorem Bay.endDonation_now (b : Bay) (c : Nat) : (b.endDonation c).now = b.now := by
  simp [Bay.endDonation]

@[simp] theorem Bay.hold_now (b : Bay) (c cause : Nat) : (b.hold c cause).now = b.now := by
  unfold Bay.hold
  repeat' (first | done | simp  | split | intro _ | refine (Bay.each_now (fun b n => ?_) _ _).trans ?_ | refine (Bay.onlyIf_now (fun b => ?_) _ _).trans ?_ | refine (Bay.foldl_now (fun b n => ?_) _ _).trans ?_ | refine Bay.gated_now _ _ ?_)

@[simp] theorem Bay.settle_now (b : Bay) (c : Nat) : (b.settle c).now = b.now := by
  simp [Bay.settle]

@[simp] theorem Bay.leave_now (b : Bay) (c cause : Nat) : (b.leave c cause).now = b.now := by
  unfold Bay.leave
  repeat' (first | done | simp  | split | intro _ | refine (Bay.each_now (fun b n => ?_) _ _).trans ?_ | refine (Bay.onlyIf_now (fun b => ?_) _ _).trans ?_ | refine (Bay.foldl_now (fun b n => ?_) _ _).trans ?_ | refine Bay.gated_now _ _ ?_)

@[simp] theorem Bay.endStep_now (b : Bay) (c code : Nat) (also : Int) : (b.endStep c code also).now = b.now := by
  unfold Bay.endStep
  repeat' (first | done | simp  | split | intro _ | refine (Bay.each_now (fun b n => ?_) _ _).trans ?_ | refine (Bay.onlyIf_now (fun b => ?_) _ _).trans ?_ | refine (Bay.foldl_now (fun b n => ?_) _ _).trans ?_ | refine Bay.gated_now _ _ ?_)

@[simp] theorem Bay.recStepStart_now (b : Bay) (c : Nat) : (b.recStepStart c).now = b.now := by
  simp [Bay.recStepStart]

@[simp] theorem Bay.zeroTimers_now (b : Bay) (c : Nat) : (b.zeroTimers c).now = b.now := by
  simp [Bay.zeroTimers]

@[simp] theorem Bay.takeStep_now (b : Bay) (c : Nat) (p : Params) (src : StepSrc) (leg : LegHdr) : (b.takeStep c p src leg).now = b.now := by
  unfold Bay.takeStep
  repeat' (first | done | simp  | split | intro _ | refine (Bay.each_now (fun b n => ?_) _ _).trans ?_ | refine (Bay.onlyIf_now (fun b => ?_) _ _).trans ?_ | refine (Bay.foldl_now (fun b n => ?_) _ _).trans ?_ | refine Bay.gated_now _ _ ?_)

@[simp] theorem Bay.setEngState_now (b : Bay) (c : Nat) (st : Int) : (b.setEngState c st).now = b.now := by
  simp [Bay.setEngState]

@[simp] theorem Bay.seeEdge_now (b : Bay) : (b.seeEdge).now = b.now := by
  unfold Bay.seeEdge
  repeat' (first | done | simp  | split | intro _ | refine (Bay.each_now (fun b n => ?_) _ _).trans ?_ | refine (Bay.onlyIf_now (fun b => ?_) _ _).trans ?_ | refine (Bay.foldl_now (fun b n => ?_) _ _).trans ?_ | refine Bay.gated_now _ _ ?_)

@[simp] theorem Bay.runsEdge_now (b : Bay) : (b.runsEdge).now = b.now := by
  unfold Bay.runsEdge
  repeat' (first | done | simp  | split | intro _ | refine (Bay.each_now (fun b n => ?_) _ _).trans ?_ | refine (Bay.onlyIf_now (fun b => ?_) _ _).trans ?_ | refine (Bay.foldl_now (fun b n => ?_) _ _).trans ?_ | refine Bay.gated_now _ _ ?_)

@[simp] theorem Bay.engDrops_now (b : Bay) (c : Nat) : (b.engDrops c).now = b.now := by
  unfold Bay.engDrops
  repeat' (first | done | simp  | split | intro _ | refine (Bay.each_now (fun b n => ?_) _ _).trans ?_ | refine (Bay.onlyIf_now (fun b => ?_) _ _).trans ?_ | refine (Bay.foldl_now (fun b n => ?_) _ _).trans ?_ | refine Bay.gated_now _ _ ?_)

@[simp] theorem Bay.engAllowanceEnds_now (b : Bay) (c : Nat) : (b.engAllowanceEnds c).now = b.now := by
  unfold Bay.engAllowanceEnds
  repeat' (first | done | simp  | split | intro _ | refine (Bay.each_now (fun b n => ?_) _ _).trans ?_ | refine (Bay.onlyIf_now (fun b => ?_) _ _).trans ?_ | refine (Bay.foldl_now (fun b n => ?_) _ _).trans ?_ | refine Bay.gated_now _ _ ?_)

@[simp] theorem Bay.engLoses_now (b : Bay) (c : Nat) : (b.engLoses c).now = b.now := by
  simp [Bay.engLoses]

@[simp] theorem Bay.engStopped_now (b : Bay) (c : Nat) (endCode : Int) : (b.engStopped c endCode).now = b.now := by
  simp [Bay.engStopped]

@[simp] theorem Bay.leavePause_now (b : Bay) (c : Nat) : (b.leavePause c).now = b.now := by
  unfold Bay.leavePause
  repeat' (first | done | simp  | split | intro _ | refine (Bay.each_now (fun b n => ?_) _ _).trans ?_ | refine (Bay.onlyIf_now (fun b => ?_) _ _).trans ?_ | refine (Bay.foldl_now (fun b n => ?_) _ _).trans ?_ | refine Bay.gated_now _ _ ?_)

@[simp] theorem Bay.chanAfterStop_now (b : Bay) (c : Nat) : (b.chanAfterStop c).now = b.now := by
  unfold Bay.chanAfterStop
  repeat' (first | done | simp  | split | intro _ | refine (Bay.each_now (fun b n => ?_) _ _).trans ?_ | refine (Bay.onlyIf_now (fun b => ?_) _ _).trans ?_ | refine (Bay.foldl_now (fun b n => ?_) _ _).trans ?_ | refine Bay.gated_now _ _ ?_)

@[simp] theorem Bay.engHostStop_now (b : Bay) (c : Nat) (endCode : Int) : (b.engHostStop c endCode).now = b.now := by
  simp [Bay.engHostStop]

@[simp] theorem Bay.engPause_now (b : Bay) (c cause : Nat) (byMode : Bool) : (b.engPause c cause byMode).now = b.now := by
  simp [Bay.engPause]

@[simp] theorem Bay.wake_now (b : Bay) (c : Nat) : (b.wake c).now = b.now := by
  simp [Bay.wake]

@[simp] theorem Bay.engResume_now (b : Bay) (c cause : Nat) : (b.engResume c cause).now = b.now := by
  simp [Bay.engResume]

@[simp] theorem Bay.freeze_now (b : Bay) (c cause : Nat) (detail : Int) : (b.freeze c cause detail).now = b.now := by
  simp [Bay.freeze]

@[simp] theorem Bay.freezeEdge_now (b : Bay) (c : Nat) : (b.freezeEdge c).now = b.now := by
  simp [Bay.freezeEdge]

@[simp] theorem Bay.stopAllEngines_now (b : Bay) (endCode : Int) : (b.stopAllEngines endCode).now = b.now := by
  simp [Bay.stopAllEngines]

@[simp] theorem Bay.recordStop_now (b : Bay) (code : Nat) : (b.recordStop code).now = b.now := by
  simp [Bay.recordStop]

@[simp] theorem Bay.stopFor_now (b : Bay) (code : Nat) : (b.stopFor code).now = b.now := by
  simp [Bay.stopFor]

@[simp] theorem Bay.requestSwitch_now (b : Bay) (c : Nat) (close : Bool) : (b.requestSwitch c close).now = b.now := by
  simp [Bay.requestSwitch]

@[simp] theorem Bay.brakeNow_now (b : Bay) (a : Nat) (on : Bool) : (b.brakeNow a on).now = b.now := by
  simp [Bay.brakeNow]

@[simp] theorem Bay.brakeCmd_now (b : Bay) (a : Nat) (on : Bool) : (b.brakeCmd a on).now = b.now := by
  simp [Bay.brakeCmd]

@[simp] theorem Bay.stoAxis_now (b : Bay) (a cause : Nat) : (b.stoAxis a cause).now = b.now := by
  simp [Bay.stoAxis]

@[simp] theorem Bay.stoAll_now (b : Bay) (cause : Nat) : (b.stoAll cause).now = b.now := by
  simp [Bay.stoAll]

@[simp] theorem Bay.stopAxis_now (b : Bay) (a : Nat) : (b.stopAxis a).now = b.now := by
  simp [Bay.stopAxis]

@[simp] theorem Bay.stopPresses_now (b : Bay) : (b.stopPresses).now = b.now := by
  simp [Bay.stopPresses]

@[simp] theorem Bay.legsOff_now (b : Bay) (a : Nat) : (b.legsOff a).now = b.now := by
  unfold Bay.legsOff
  repeat' (first | done | simp  | split | intro _ | refine (Bay.each_now (fun b n => ?_) _ _).trans ?_ | refine (Bay.onlyIf_now (fun b => ?_) _ _).trans ?_ | refine (Bay.foldl_now (fun b n => ?_) _ _).trans ?_ | refine Bay.gated_now _ _ ?_)

@[simp] theorem Bay.i2tLimit_now (b : Bay) (a : Nat) : (b.i2tLimit a).now = b.now := by
  simp [Bay.i2tLimit]

@[simp] theorem Bay.startOn_now (b : Bay) (c p : Nat) : (b.startOn c p).now = b.now := by
  unfold Bay.startOn
  repeat' (first | done | simp  | split | intro _ | refine (Bay.each_now (fun b n => ?_) _ _).trans ?_ | refine (Bay.onlyIf_now (fun b => ?_) _ _).trans ?_ | refine (Bay.foldl_now (fun b n => ?_) _ _).trans ?_ | refine Bay.gated_now _ _ ?_)

@[simp] theorem Bay.endOn_now (b : Bay) (c p : Nat) : (b.endOn c p).now = b.now := by
  unfold Bay.endOn
  repeat' (first | done | simp  | split | intro _ | refine (Bay.each_now (fun b n => ?_) _ _).trans ?_ | refine (Bay.onlyIf_now (fun b => ?_) _ _).trans ?_ | refine (Bay.foldl_now (fun b n => ?_) _ _).trans ?_ | refine Bay.gated_now _ _ ?_)

@[simp] theorem Bay.takeGen_now (b : Bay) (c : Nat) : (b.takeGen c).now = b.now := by
  unfold Bay.takeGen
  repeat' (first | done | simp  | split | intro _ | refine (Bay.each_now (fun b n => ?_) _ _).trans ?_ | refine (Bay.onlyIf_now (fun b => ?_) _ _).trans ?_ | refine (Bay.foldl_now (fun b n => ?_) _ _).trans ?_ | refine Bay.gated_now _ _ ?_)

@[simp] theorem Bay.trigger_now (b : Bay) (c : Nat) : (b.trigger c).now = b.now := by
  unfold Bay.trigger
  repeat' (first | done | simp  | split | intro _ | refine (Bay.each_now (fun b n => ?_) _ _).trans ?_ | refine (Bay.onlyIf_now (fun b => ?_) _ _).trans ?_ | refine (Bay.foldl_now (fun b n => ?_) _ _).trans ?_ | refine Bay.gated_now _ _ ?_)

@[simp] theorem Bay.cotTick_now (b : Bay) (c : Nat) : (b.cotTick c).now = b.now := by
  unfold Bay.cotTick
  repeat' (first | done | simp  | split | intro _ | refine (Bay.each_now (fun b n => ?_) _ _).trans ?_ | refine (Bay.onlyIf_now (fun b => ?_) _ _).trans ?_ | refine (Bay.foldl_now (fun b n => ?_) _ _).trans ?_ | refine Bay.gated_now _ _ ?_)

@[simp] theorem Bay.runCot_now (b : Bay) : (b.runCot).now = b.now := by
  unfold Bay.runCot
  repeat' (first | done | simp  | split | intro _ | refine (Bay.each_now (fun b n => ?_) _ _).trans ?_ | refine (Bay.onlyIf_now (fun b => ?_) _ _).trans ?_ | refine (Bay.foldl_now (fun b n => ?_) _ _).trans ?_ | refine Bay.gated_now _ _ ?_)

@[simp] theorem Bay.correction_now (b : Bay) (x k w syn : Nat) : (b.correction x k w syn).now = b.now := by
  simp [Bay.correction]

@[simp] theorem Bay.uncorrectable_now (b : Bay) (x k w master acc : Nat) : (b.uncorrectable x k w master acc).now = b.now := by
  simp [Bay.uncorrectable]

@[simp] theorem Bay.reportLimits_now (b : Bay) (c : Nat) (v asks : Rat) : (b.reportLimits c v asks).now = b.now := by
  unfold Bay.reportLimits
  repeat' (first | done | simp  | split | intro _ | refine (Bay.each_now (fun b n => ?_) _ _).trans ?_ | refine (Bay.onlyIf_now (fun b => ?_) _ _).trans ?_ | refine (Bay.foldl_now (fun b n => ?_) _ _).trans ?_ | refine Bay.gated_now _ _ ?_)

@[simp] theorem Bay.showLim_now (b : Bay) (c : Nat) (lim : Bool) : (b.showLim c lim).now = b.now := by
  unfold Bay.showLim
  repeat' (first | done | simp  | split | intro _ | refine (Bay.each_now (fun b n => ?_) _ _).trans ?_ | refine (Bay.onlyIf_now (fun b => ?_) _ _).trans ?_ | refine (Bay.foldl_now (fun b n => ?_) _ _).trans ?_ | refine Bay.gated_now _ _ ?_)

@[simp] theorem Bay.chanLoopOpen_now (b : Bay) (c : Nat) (l : LoopCh) (man : Bool) (v0 : Int) : (b.chanLoopOpen c l man v0).now = b.now := by
  unfold Bay.chanLoopOpen
  repeat' (first | done | simp  | split | intro _ | refine (Bay.each_now (fun b n => ?_) _ _).trans ?_ | refine (Bay.onlyIf_now (fun b => ?_) _ _).trans ?_ | refine (Bay.foldl_now (fun b n => ?_) _ _).trans ?_ | refine Bay.gated_now _ _ ?_)

@[simp] theorem Bay.chanLoopClosed_now (b : Bay) (c : Nat) (l : LoopCh) (man : Bool) (v i : Rat) : (b.chanLoopClosed c l man v i).now = b.now := by
  unfold Bay.chanLoopClosed
  repeat' (first | done | simp  | split | intro _ | refine (Bay.each_now (fun b n => ?_) _ _).trans ?_ | refine (Bay.onlyIf_now (fun b => ?_) _ _).trans ?_ | refine (Bay.foldl_now (fun b n => ?_) _ _).trans ?_ | refine Bay.gated_now _ _ ?_)

@[simp] theorem Bay.chanLoop_now (b : Bay) (c : Nat) (v0 i0 : Int) : (b.chanLoop c v0 i0).now = b.now := by
  simp [Bay.chanLoop]

@[simp] theorem Bay.trimOfs_now (b : Bay) (a : Nat) (thObs : Rat) : (b.trimOfs a thObs).now = b.now := by
  simp [Bay.trimOfs]

@[simp] theorem Bay.watchAngle_now (b : Bay) (a : Nat) (thInj thObs : Rat) (w : Int) : (b.watchAngle a thInj thObs w).now = b.now := by
  unfold Bay.watchAngle
  repeat' (first | done | simp  | split | intro _ | refine (Bay.each_now (fun b n => ?_) _ _).trans ?_ | refine (Bay.onlyIf_now (fun b => ?_) _ _).trans ?_ | refine (Bay.foldl_now (fun b n => ?_) _ _).trans ?_ | refine Bay.gated_now _ _ ?_)

@[simp] theorem Bay.axisMeasure_now (b : Bay) (a : Nat) (iu iv iw : Int) (thInj thObs : Rat) (w : Int) : (b.axisMeasure a iu iv iw thInj thObs w).now = b.now := by
  unfold Bay.axisMeasure
  repeat' (first | done | simp  | split | intro _ | refine (Bay.each_now (fun b n => ?_) _ _).trans ?_ | refine (Bay.onlyIf_now (fun b => ?_) _ _).trans ?_ | refine (Bay.foldl_now (fun b n => ?_) _ _).trans ?_ | refine Bay.gated_now _ _ ?_)

@[simp] theorem Bay.i2tStep_now (b : Bay) (a : Nat) : (b.i2tStep a).now = b.now := by
  simp [Bay.i2tStep]

@[simp] theorem Bay.currentLoop_now (b : Bay) (a : Nat) (vbus : Int) : (b.currentLoop a vbus).now = b.now := by
  unfold Bay.currentLoop
  repeat' (first | done | simp  | split | intro _ | refine (Bay.each_now (fun b n => ?_) _ _).trans ?_ | refine (Bay.onlyIf_now (fun b => ?_) _ _).trans ?_ | refine (Bay.foldl_now (fun b n => ?_) _ _).trans ?_ | refine Bay.gated_now _ _ ?_)

@[simp] theorem Bay.reversal_now (b : Bay) (a : Nat) (w : Int) (r : Rat) : (b.reversal a w r).2.now = b.now := by
  simp only [Bay.reversal]; split <;> simp

@[simp] theorem Bay.speedLoop_now (b : Bay) (a : Nat) : (b.speedLoop a).now = b.now := by
  unfold Bay.speedLoop
  repeat' (first | done | simp  | split | intro _ | refine (Bay.each_now (fun b n => ?_) _ _).trans ?_ | refine (Bay.onlyIf_now (fun b => ?_) _ _).trans ?_ | refine (Bay.foldl_now (fun b n => ?_) _ _).trans ?_ | refine Bay.gated_now _ _ ?_)

@[simp] theorem Bay.posLoop_now (b : Bay) (a : Nat) (pref lim : Rat) : (b.posLoop a pref lim).now = b.now := by
  simp [Bay.posLoop]

@[simp] theorem Bay.pressRamp_now (b : Bay) (a : Nat) : (b.pressRamp a).now = b.now := by
  unfold Bay.pressRamp
  repeat' (first | done | simp  | split | intro _ | refine (Bay.each_now (fun b n => ?_) _ _).trans ?_ | refine (Bay.onlyIf_now (fun b => ?_) _ _).trans ?_ | refine (Bay.foldl_now (fun b n => ?_) _ _).trans ?_ | refine Bay.gated_now _ _ ?_)

@[simp] theorem Bay.pressEdge_now (b : Bay) (a : Nat) : (b.pressEdge a).now = b.now := by
  simp only [Bay.pressEdge]
  repeat' (first | done | split)
  all_goals simp 

@[simp] theorem Bay.forceLoop_now (b : Bay) (a : Nat) : (b.forceLoop a).now = b.now := by
  simp [Bay.forceLoop]

@[simp] theorem Bay.slotLoop_now (b : Bay) (a : Nat) : (b.slotLoop a).now = b.now := by
  simp only [Bay.slotLoop]
  repeat' (first | done | split)
  all_goals simp 

@[simp] theorem Bay.dlClear_now (b : Bay) : (b.dlClear).now = b.now := by
  simp [Bay.dlClear]

@[simp] theorem Bay.traceFrame_now (b : Bay) (n : Nat) : (b.traceFrame n).now = b.now := by
  simp [Bay.traceFrame]

@[simp] theorem Bay.traceArm_now (b : Bay) (n : Nat) : (b.traceArm n).now = b.now := by
  simp [Bay.traceArm]

@[simp] theorem Bay.traceEnd_now (b : Bay) (n : Nat) : (b.traceEnd n).now = b.now := by
  simp [Bay.traceEnd]

@[simp] theorem Bay.traceForce_now (b : Bay) (n : Nat) : (b.traceForce n).now = b.now := by
  simp [Bay.traceForce]

@[simp] theorem Bay.traceCopied_now (b : Bay) (n a len : Nat) : (b.traceCopied n a len).now = b.now := by
  simp [Bay.traceCopied]

@[simp] theorem Bay.traceMiss_now (b : Bay) (n obj : Nat) (k : MissKind) : (b.traceMiss n obj k).now = b.now := by
  unfold Bay.traceMiss
  repeat' (first | done | simp  | split | intro _ | refine (Bay.each_now (fun b n => ?_) _ _).trans ?_ | refine (Bay.onlyIf_now (fun b => ?_) _ _).trans ?_ | refine (Bay.foldl_now (fun b n => ?_) _ _).trans ?_ | refine Bay.gated_now _ _ ?_)

@[simp] theorem Bay.undoChan_now (b : Bay) (c : Nat) : (b.undoChan c).now = b.now := by
  unfold Bay.undoChan
  repeat' (first | done | simp  | split | intro _ | refine (Bay.each_now (fun b n => ?_) _ _).trans ?_ | refine (Bay.onlyIf_now (fun b => ?_) _ _).trans ?_ | refine (Bay.foldl_now (fun b n => ?_) _ _).trans ?_ | refine Bay.gated_now _ _ ?_)

@[simp] theorem Bay.undoCurrent_now (b : Bay) (a : Nat) : (b.undoCurrent a).now = b.now := by
  unfold Bay.undoCurrent
  repeat' (first | done | simp  | split | intro _ | refine (Bay.each_now (fun b n => ?_) _ _).trans ?_ | refine (Bay.onlyIf_now (fun b => ?_) _ _).trans ?_ | refine (Bay.foldl_now (fun b n => ?_) _ _).trans ?_ | refine Bay.gated_now _ _ ?_)

@[simp] theorem Bay.undoSpeed_now (b : Bay) (a : Nat) : (b.undoSpeed a).now = b.now := by
  unfold Bay.undoSpeed
  repeat' (first | done | simp  | split | intro _ | refine (Bay.each_now (fun b n => ?_) _ _).trans ?_ | refine (Bay.onlyIf_now (fun b => ?_) _ _).trans ?_ | refine (Bay.foldl_now (fun b n => ?_) _ _).trans ?_ | refine Bay.gated_now _ _ ?_)

@[simp] theorem Bay.undoPlace_now (b : Bay) (a : Nat) : (b.undoPlace a).now = b.now := by
  unfold Bay.undoPlace
  repeat' (first | done | simp  | split | intro _ | refine (Bay.each_now (fun b n => ?_) _ _).trans ?_ | refine (Bay.onlyIf_now (fun b => ?_) _ _).trans ?_ | refine (Bay.foldl_now (fun b n => ?_) _ _).trans ?_ | refine Bay.gated_now _ _ ?_)

@[simp] theorem Bay.undoLoop_now (b : Bay) (obj : Nat) (k : MissKind) (t : Nat) : (b.undoLoop obj k t).now = b.now := by
  unfold Bay.undoLoop
  repeat' (first | done | simp  | split | intro _ | refine (Bay.each_now (fun b n => ?_) _ _).trans ?_ | refine (Bay.onlyIf_now (fun b => ?_) _ _).trans ?_ | refine (Bay.foldl_now (fun b n => ?_) _ _).trans ?_ | refine Bay.gated_now _ _ ?_)

@[simp] theorem Bay.countMisses_now (b : Bay) (obj : Nat) (k : MissKind) (t : Nat) : (b.countMisses obj k t).now = b.now := by
  unfold Bay.countMisses
  repeat' (first | done | simp  | split | intro _ | refine (Bay.each_now (fun b n => ?_) _ _).trans ?_ | refine (Bay.onlyIf_now (fun b => ?_) _ _).trans ?_ | refine (Bay.foldl_now (fun b n => ?_) _ _).trans ?_ | refine Bay.gated_now _ _ ?_)

@[simp] theorem Bay.missLoop_now (b : Bay) (obj : Nat) (k : MissKind) : (b.missLoop obj k).now = b.now := by
  unfold Bay.missLoop
  repeat' (first | done | simp  | split | intro _ | refine (Bay.each_now (fun b n => ?_) _ _).trans ?_ | refine (Bay.onlyIf_now (fun b => ?_) _ _).trans ?_ | refine (Bay.foldl_now (fun b n => ?_) _ _).trans ?_ | refine Bay.gated_now _ _ ?_)

@[simp] theorem Bay.peakLimit_now (b : Bay) (c : Nat) : (b.peakLimit c).now = b.now := by
  simp [Bay.peakLimit]

@[simp] theorem Bay.rpathUpdate_now (b : Bay) (c : Nat) (est : Int) : (b.rpathUpdate c est).now = b.now := by
  simp [Bay.rpathUpdate]

@[simp] theorem Bay.rpathSample_now (b : Bay) (c : Nat) (v node i : Int) : (b.rpathSample c v node i).now = b.now := by
  unfold Bay.rpathSample
  repeat' (first | done | simp  | split | intro _ | refine (Bay.each_now (fun b n => ?_) _ _).trans ?_ | refine (Bay.onlyIf_now (fun b => ?_) _ _).trans ?_ | refine (Bay.foldl_now (fun b n => ?_) _ _).trans ?_ | refine Bay.gated_now _ _ ?_)

@[simp] theorem Bay.fewerPhases_now (b : Bay) (c : Nat) : (b.fewerPhases c).now = b.now := by
  unfold Bay.fewerPhases
  repeat' (first | done | simp  | split | intro _ | refine (Bay.each_now (fun b n => ?_) _ _).trans ?_ | refine (Bay.onlyIf_now (fun b => ?_) _ _).trans ?_ | refine (Bay.foldl_now (fun b n => ?_) _ _).trans ?_ | refine Bay.gated_now _ _ ?_)

@[simp] theorem Bay.phaseOut_now (b : Bay) (c p cause : Nat) : (b.phaseOut c p cause).now = b.now := by
  unfold Bay.phaseOut
  repeat' (first | done | simp  | split | intro _ | refine (Bay.each_now (fun b n => ?_) _ _).trans ?_ | refine (Bay.onlyIf_now (fun b => ?_) _ _).trans ?_ | refine (Bay.foldl_now (fun b n => ?_) _ _).trans ?_ | refine Bay.gated_now _ _ ?_)

@[simp] theorem Bay.phaseEnable_now (b : Bay) (c : Nat) : (b.phaseEnable c).now = b.now := by
  unfold Bay.phaseEnable
  repeat' (first | done | simp  | split | intro _ | refine (Bay.each_now (fun b n => ?_) _ _).trans ?_ | refine (Bay.onlyIf_now (fun b => ?_) _ _).trans ?_ | refine (Bay.foldl_now (fun b n => ?_) _ _).trans ?_ | refine Bay.gated_now _ _ ?_)

@[simp] theorem Bay.prebiasStart_now (b : Bay) (c : Nat) : (b.prebiasStart c).now = b.now := by
  unfold Bay.prebiasStart
  repeat' (first | done | simp  | split | intro _ | refine (Bay.each_now (fun b n => ?_) _ _).trans ?_ | refine (Bay.onlyIf_now (fun b => ?_) _ _).trans ?_ | refine (Bay.foldl_now (fun b n => ?_) _ _).trans ?_ | refine Bay.gated_now _ _ ?_)

@[simp] theorem Bay.cellStart_now (b : Bay) (c : Nat) : (b.cellStart c).now = b.now := by
  simp [Bay.cellStart]

@[simp] theorem Bay.ovLatch_now (b : Bay) (c : Nat) : (b.ovLatch c).now = b.now := by
  simp [Bay.ovLatch]

@[simp] theorem Bay.fltRead_now (b : Bay) (c : Nat) : (b.fltRead c).now = b.now := by
  simp [Bay.fltRead]

@[simp] theorem Bay.stageAfterClear_now (b : Bay) (c : Nat) : (b.stageAfterClear c).now = b.now := by
  simp [Bay.stageAfterClear]

@[simp] theorem Bay.stgClear_now (b : Bay) (c m : Nat) : (b.stgClear c m).now = b.now := by
  simp [Bay.stgClear]

@[simp] theorem Bay.linkErr_now (b : Bay) (d : Nat) : (b.linkErr d).now = b.now := by
  simp [Bay.linkErr]

@[simp] theorem Bay.strokeWord_now (b : Bay) (d w : Nat) : (b.strokeWord d w).now = b.now := by
  simp [Bay.strokeWord]

@[simp] theorem Bay.strokeLost_now (b : Bay) (c : Nat) : (b.strokeLost c).now = b.now := by
  simp [Bay.strokeLost]

@[simp] theorem Bay.axisLinkLost_now (b : Bay) (d : Nat) : (b.axisLinkLost d).now = b.now := by
  unfold Bay.axisLinkLost
  repeat' (first | done | simp  | split | intro _ | refine (Bay.each_now (fun b n => ?_) _ _).trans ?_ | refine (Bay.onlyIf_now (fun b => ?_) _ _).trans ?_ | refine (Bay.foldl_now (fun b n => ?_) _ _).trans ?_ | refine Bay.gated_now _ _ ?_)

@[simp] theorem Bay.safeOffChan_now (b : Bay) (c : Nat) : (b.safeOffChan c).now = b.now := by
  simp [Bay.safeOffChan]

@[simp] theorem Bay.safeOffDrop_now (b : Bay) (n : Nat) : (b.safeOffDrop n).now = b.now := by
  simp [Bay.safeOffDrop]

@[simp] theorem Bay.safeOffRelease_now (b : Bay) (n : Nat) : (b.safeOffRelease n).now = b.now := by
  simp [Bay.safeOffRelease]

@[simp] theorem Bay.framWrite_now (b : Bay) (n : Nat) : (b.framWrite n).now = b.now := by
  simp only [Bay.framWrite]
  repeat' (first | done | split)
  all_goals simp 

@[simp] theorem Bay.balance_now (b : Bay) (c : Nat) (dt : Rat) : (b.balance c dt).now = b.now := by
  simp [Bay.balance]

@[simp] theorem Bay.startEdge_now (b : Bay) (a : Nat) : (b.startEdge a).now = b.now := by
  simp [Bay.startEdge]

@[simp] theorem Bay.stopDone_now (b : Bay) (a : Nat) : (b.stopDone a).now = b.now := by
  simp only [Bay.stopDone]
  repeat' (first | done | split)
  all_goals simp 

@[simp] theorem Bay.axsFltRead_now (b : Bay) (a : Nat) : (b.axsFltRead a).now = b.now := by
  simp [Bay.axsFltRead]

@[simp] theorem Bay.axsFltClr_now (b : Bay) (a : Nat) : (b.axsFltClr a).now = b.now := by
  simp [Bay.axsFltClr]

@[simp] theorem Bay.pressEnter_now (b : Bay) (a : Nat) : (b.pressEnter a).now = b.now := by
  simp only [Bay.pressEnter]
  repeat' (first | done | split)
  all_goals simp 

@[simp] theorem Bay.enterRun_now (b : Bay) (a : Nat) : (b.enterRun a).now = b.now := by
  simp [Bay.enterRun]

@[simp] theorem Bay.desat_now (b : Bay) (a : Nat) : (b.desat a).now = b.now := by
  simp [Bay.desat]

@[simp] theorem Bay.fastOver_now (b : Bay) (a : Nat) : (b.fastOver a).now = b.now := by
  simp [Bay.fastOver]

@[simp] theorem Bay.shortAxis_now (b : Bay) (a : Nat) : (b.shortAxis a).now = b.now := by
  unfold Bay.shortAxis
  repeat' (first | done | simp  | split | intro _ | refine (Bay.each_now (fun b n => ?_) _ _).trans ?_ | refine (Bay.onlyIf_now (fun b => ?_) _ _).trans ?_ | refine (Bay.foldl_now (fun b n => ?_) _ _).trans ?_ | refine Bay.gated_now _ _ ?_)

@[simp] theorem Bay.storeRegs_now (b : Bay) : (b.storeRegs).now = b.now := by
  simp [Bay.storeRegs]

@[simp] theorem Bay.dropImage_now (b : Bay) (id : Int) : (b.dropImage id).now = b.now := by
  simp only [Bay.dropImage]
  repeat' (first | done | split)
  all_goals simp 

@[simp] theorem Bay.keepVersion_now (b : Bay) (id ver : Int) : (b.keepVersion id ver).now = b.now := by
  simp [Bay.keepVersion]

@[simp] theorem Bay.storeImage_now (b : Bay) (m : Image) : (b.storeImage m).now = b.now := by
  simp only [Bay.storeImage]
  repeat' (first | done | split)
  all_goals simp 

@[simp] theorem Bay.pendSafety_now (b : Bay) (m : Image) (digest : List Byte) : (b.pendSafety m digest).now = b.now := by
  simp only [Bay.pendSafety]
  repeat' (first | done | split)
  all_goals simp 

@[simp] theorem Bay.loadResult_now (b : Bay) (k : Key) (r : Nat) (id : Int) : (b.loadResult k r id).now = b.now := by
  simp [Bay.loadResult]

@[simp] theorem Bay.loadGo_now (b : Bay) : (b.loadGo).now = b.now := by
  simp [Bay.loadGo]

@[simp] theorem Bay.deleteImage_now (b : Bay) : (b.deleteImage).now = b.now := by
  simp [Bay.deleteImage]

@[simp] theorem Bay.dropRevoked_now (b : Bay) : (b.dropRevoked).now = b.now := by
  simp [Bay.dropRevoked]

@[simp] theorem Bay.setRole_now (b : Bay) (x : Nat) (r : Int) : (b.setRole x r).now = b.now := by
  simp [Bay.setRole]

@[simp] theorem Bay.setRed_now (b : Bay) (r : Red) : (b.setRed r).now = b.now := by
  simp [Bay.setRed]

@[simp] theorem Bay.redRecord_now (b : Bay) (cause side detail : Int) : (b.redRecord cause side detail).now = b.now := by
  simp [Bay.redRecord]

@[simp] theorem Bay.endGroup_now (b : Bay) (cause side : Int) : (b.endGroup cause side).now = b.now := by
  simp [Bay.endGroup]

@[simp] theorem Bay.closeWin_now (b : Bay) (k : Nat) : (b.closeWin k).now = b.now := by
  simp [Bay.closeWin]

@[simp] theorem Bay.openWin_now (b : Bay) (k side : Nat) : (b.openWin k side).now = b.now := by
  simp [Bay.openWin]

@[simp] theorem Bay.pairFault_now (b : Bay) (side : Nat) : (b.pairFault side).now = b.now := by
  simp [Bay.pairFault]

@[simp] theorem Bay.stopJoin_now (b : Bay) (cause x step : Nat) : (b.stopJoin cause x step).now = b.now := by
  simp [Bay.stopJoin]

@[simp] theorem Bay.uncleanLockstep_now (b : Bay) : (b.uncleanLockstep).now = b.now := by
  simp [Bay.uncleanLockstep]

@[simp] theorem Bay.selfFault_now (b : Bay) (x cause : Nat) (detail : Nat := 0) : (b.selfFault x cause detail).now = b.now := by
  unfold Bay.selfFault
  repeat' (first | done | simp  | split | intro _ | refine (Bay.each_now (fun b n => ?_) _ _).trans ?_ | refine (Bay.onlyIf_now (fun b => ?_) _ _).trans ?_ | refine (Bay.foldl_now (fun b n => ?_) _ _).trans ?_ | refine Bay.gated_now _ _ ?_)

@[simp] theorem Bay.goSilent_now (b : Bay) (x : Nat) : (b.goSilent x).now = b.now := by
  simp [Bay.goSilent]

@[simp] theorem Bay.joinStart_now (b : Bay) (x : Nat) : (b.joinStart x).now = b.now := by
  simp [Bay.joinStart]

@[simp] theorem Bay.joinStep4_now (b : Bay) : (b.joinStep4).now = b.now := by
  simp [Bay.joinStep4]

@[simp] theorem Bay.unattributed_now (b : Bay) (cause detail : Nat) : (b.unattributed cause detail).now = b.now := by
  unfold Bay.unattributed
  repeat' (first | done | simp  | split | intro _ | refine (Bay.each_now (fun b n => ?_) _ _).trans ?_ | refine (Bay.onlyIf_now (fun b => ?_) _ _).trans ?_ | refine (Bay.foldl_now (fun b n => ?_) _ _).trans ?_ | refine Bay.gated_now _ _ ?_)

@[simp] theorem Bay.diverge_now (b : Bay) (blame : Option Nat) (cause detail : Nat) : (b.diverge blame cause detail).now = b.now := by
  unfold Bay.diverge
  repeat' (first | done | simp  | split | intro _ | refine (Bay.each_now (fun b n => ?_) _ _).trans ?_ | refine (Bay.onlyIf_now (fun b => ?_) _ _).trans ?_ | refine (Bay.foldl_now (fun b n => ?_) _ _).trans ?_ | refine Bay.gated_now _ _ ?_)

@[simp] theorem Bay.onSlot_now (b : Bay) (n : Nat) (f : SlotView → SlotView) : (b.onSlot n f).now = b.now := by
  simp [Bay.onSlot]

@[simp] theorem Bay.setHolder_now (b : Bay) (n new : Nat) : (b.setHolder n new).now = b.now := by
  simp [Bay.setHolder]

@[simp] theorem Bay.exchangeRoles_now (b : Bay) : (b.exchangeRoles).now = b.now := by
  simp [Bay.exchangeRoles]

@[simp] theorem Bay.redRegs_now (b : Bay) : (b.redRegs).now = b.now := by
  simp [Bay.redRegs]

@[simp] theorem Bay.strobeM_now (b : Bay) : (b.strobeM).now = b.now := by
  unfold Bay.strobeM
  split <;> (try split) <;> simp

@[simp] theorem Bay.roleEdge_now (b : Bay) : (b.roleEdge).now = b.now := by
  unfold Bay.roleEdge
  repeat' (first | done | simp  | split | intro _ | refine (Bay.each_now (fun b n => ?_) _ _).trans ?_ | refine (Bay.onlyIf_now (fun b => ?_) _ _).trans ?_ | refine (Bay.foldl_now (fun b n => ?_) _ _).trans ?_ | refine Bay.gated_now _ _ ?_)

@[simp] theorem Bay.quarantineFor_now (b : Bay) (code : Nat) : (b.quarantineFor code).now = b.now := by
  simp [Bay.quarantineFor]

@[simp] theorem Bay.enterCauses_now (b : Bay) : (b.enterCauses).now = b.now := by
  simp [Bay.enterCauses]

@[simp] theorem Bay.remedied_now (b : Bay) (code : Nat) : (b.remedied code).now = b.now := by
  simp [Bay.remedied]

@[simp] theorem Bay.showKey_now (b : Bay) : (b.showKey).now = b.now := by
  simp [Bay.showKey]

@[simp] theorem Bay.newRecordKey_now (b : Bay) : (b.newRecordKey).now = b.now := by
  unfold Bay.newRecordKey
  repeat' (first | done | simp  | split | intro _ | refine (Bay.each_now (fun b n => ?_) _ _).trans ?_ | refine (Bay.onlyIf_now (fun b => ?_) _ _).trans ?_ | refine (Bay.foldl_now (fun b n => ?_) _ _).trans ?_ | refine Bay.gated_now _ _ ?_)

@[simp] theorem Bay.rkeyNew_now (b : Bay) : (b.rkeyNew).now = b.now := by
  simp [Bay.rkeyNew]

@[simp] theorem Bay.sealWrite_now (b : Bay) (c : Nat) : (b.sealWrite c).now = b.now := by
  simp only [Bay.sealWrite]
  repeat' (first | done | split)
  all_goals simp 

@[simp] theorem Bay.seFail_now (b : Bay) (x : Nat) : (b.seFail x).now = b.now := by
  simp [Bay.seFail]

@[simp] theorem Bay.attGo_now (b : Bay) : (b.attGo).now = b.now := by
  unfold Bay.attGo
  repeat' (first | done | simp  | split | intro _ | refine (Bay.each_now (fun b n => ?_) _ _).trans ?_ | refine (Bay.onlyIf_now (fun b => ?_) _ _).trans ?_ | refine (Bay.foldl_now (fun b n => ?_) _ _).trans ?_ | refine Bay.gated_now _ _ ?_)

@[simp] theorem Bay.quoteReady_now (b : Bay) : (b.quoteReady).now = b.now := by
  simp [Bay.quoteReady]

@[simp] theorem Bay.showAuth_now (b : Bay) (s : Nat) (key : List Byte) (rights : Int) : (b.showAuth s key rights).now = b.now := by
  simp [Bay.showAuth]

@[simp] theorem Bay.revokeAuth_now (b : Bay) (s : Nat) : (b.revokeAuth s).now = b.now := by
  simp only [Bay.revokeAuth]
  repeat' (first | done | split)
  all_goals simp 

@[simp] theorem Bay.applyEnrol_now (b : Bay) (e : Enrol) : (b.applyEnrol e).now = b.now := by
  simp [Bay.applyEnrol]

@[simp] theorem Bay.enrGo_now (b : Bay) (differ : Bool) : (b.enrGo differ).now = b.now := by
  unfold Bay.enrGo
  refine Bay.gated_now _ _ ?_
  extract_lets l r seq b1
  split
  · simp +zetaDelta
  · split
    · rw [Bay.applyEnrol_now]; simp +zetaDelta
    · simp +zetaDelta

@[simp] theorem Bay.enrolDue_now (b : Bay) : (b.enrolDue).now = b.now := by
  simp [Bay.enrolDue]

@[simp] theorem Bay.setWindow_now (b : Bay) (until_ : Option Nat) : (b.setWindow until_).now = b.now := by
  simp [Bay.setWindow]

@[simp] theorem Bay.commButton_now (b : Bay) (ms : Nat) : (b.commButton ms).now = b.now := by
  simp [Bay.commButton]

@[simp] theorem Bay.commTimeout_now (b : Bay) : (b.commTimeout).now = b.now := by
  simp only [Bay.commTimeout]
  repeat' (first | done | split)
  all_goals simp 

@[simp] theorem Bay.verRebuild_now (b : Bay) : (b.verRebuild).now = b.now := by
  simp [Bay.verRebuild]

@[simp] theorem Bay.qRestart_now (b : Bay) (discard : Bool) : (b.qRestart discard).now = b.now := by
  simp [Bay.qRestart]

@[simp] theorem Bay.fwlPut_now (b : Bay) (e : Nat) (t master region acc addr : Int) : (b.fwlPut e t master region acc addr).now = b.now := by
  simp [Bay.fwlPut]

@[simp] theorem Bay.fwlShift_now (b : Bay) : (b.fwlShift).now = b.now := by
  simp [Bay.fwlShift]

@[simp] theorem Bay.violation_now (b : Bay) (master region acc addr : Nat) : (b.violation master region acc addr).now = b.now := by
  simp [Bay.violation]

@[simp] theorem Bay.releaseMaster_now (b : Bay) (m : Nat) : (b.releaseMaster m).now = b.now := by
  simp [Bay.releaseMaster]

@[simp] theorem Bay.relWrite_now (b : Bay) (m : Nat) : (b.relWrite m).now = b.now := by
  simp [Bay.relWrite]

@[simp] theorem Bay.runBank_now (b : Bay) (x bank : Nat) (fallback : Bool) : (b.runBank x bank fallback).now = b.now := by
  simp [Bay.runBank]

@[simp] theorem Bay.bootCart_now (b : Bay) (x : Nat) : (b.bootCart x).now = b.now := by
  simp [Bay.bootCart]

@[simp] theorem Bay.svnKeep_now (b : Bay) (x : Nat) : (b.svnKeep x).now = b.now := by
  simp [Bay.svnKeep]

@[simp] theorem Bay.takeKey_now (b : Bay) (x : Nat) : (b.takeKey x).now = b.now := by
  simp [Bay.takeKey]

@[simp] theorem Bay.alignBank_now (b : Bay) (x : Nat) : (b.alignBank x).now = b.now := by
  simp [Bay.alignBank]

@[simp] theorem Bay.preferBank_now (b : Bay) (k : Key) (bank : Nat) : (b.preferBank k bank).now = b.now := by
  unfold Bay.preferBank
  repeat' (first | done | simp  | split | intro _ | refine (Bay.each_now (fun b n => ?_) _ _).trans ?_ | refine (Bay.onlyIf_now (fun b => ?_) _ _).trans ?_ | refine (Bay.foldl_now (fun b n => ?_) _ _).trans ?_ | refine Bay.gated_now _ _ ?_)

theorem Bay.fwuStart_now (b : Bay) (k : Key) {f : Bay → Bay} (hf : (f b).now = b.now) : (b.fwuStart k f).now = b.now := by
  unfold Bay.fwuStart
  refine Bay.gated_now _ _ ?_
  split
  · simp
  · exact hf

@[simp] theorem Bay.writePart_now (b : Bay) (x ofs : Nat) (l : List (Nat × Byte)) : (b.writePart x ofs l).now = b.now := by
  simp [Bay.writePart]

@[simp] theorem Bay.verifyDone_now (b : Bay) : (b.verifyDone).now = b.now := by
  unfold Bay.verifyDone
  repeat' (first | done | simp  | split | intro _ | refine (Bay.each_now (fun b n => ?_) _ _).trans ?_ | refine (Bay.onlyIf_now (fun b => ?_) _ _).trans ?_ | refine (Bay.foldl_now (fun b n => ?_) _ _).trans ?_ | refine Bay.gated_now _ _ ?_)

@[simp] theorem Bay.setEnt_now (b : Bay) (st : Int) : (b.setEnt st).now = b.now := by
  simp [Bay.setEnt]

@[simp] theorem Bay.entryOpens_now (b : Bay) (cause : Int) : (b.entryOpens cause).now = b.now := by
  simp [Bay.entryOpens]

@[simp] theorem Bay.rtEdge_now (b : Bay) : (b.rtEdge).now = b.now := by
  unfold Bay.rtEdge
  repeat' (first | done | simp  | split | intro _ | refine (Bay.each_now (fun b n => ?_) _ _).trans ?_ | refine (Bay.onlyIf_now (fun b => ?_) _ _).trans ?_ | refine (Bay.foldl_now (fun b n => ?_) _ _).trans ?_ | refine Bay.gated_now _ _ ?_)

@[simp] theorem Bay.setDirs_now (b : Bay) (v : Int) : (b.setDirs v).now = b.now := by
  unfold Bay.setDirs
  repeat' (first | done | simp  | split | intro _ | refine (Bay.each_now (fun b n => ?_) _ _).trans ?_ | refine (Bay.onlyIf_now (fun b => ?_) _ _).trans ?_ | refine (Bay.foldl_now (fun b n => ?_) _ _).trans ?_ | refine Bay.gated_now _ _ ?_)

@[simp] theorem Bay.rtStop_now (b : Bay) : (b.rtStop).now = b.now := by
  simp [Bay.rtStop]

@[simp] theorem Bay.rtStart_now (b : Bay) : (b.rtStart).now = b.now := by
  simp [Bay.rtStart]

@[simp] theorem Bay.plantLoss_now (b : Bay) (cause : Int) : (b.plantLoss cause).now = b.now := by
  simp [Bay.plantLoss]

@[simp] theorem Bay.readEntry_now (b : Bay) : (b.readEntry).now = b.now := by
  unfold Bay.readEntry
  repeat' (first | done | simp  | split | intro _ | refine (Bay.each_now (fun b n => ?_) _ _).trans ?_ | refine (Bay.onlyIf_now (fun b => ?_) _ _).trans ?_ | refine (Bay.foldl_now (fun b n => ?_) _ _).trans ?_ | refine Bay.gated_now _ _ ?_)

@[simp] theorem Bay.connect_now (b : Bay) : (b.connect).now = b.now := by
  simp [Bay.connect]

@[simp] theorem Bay.axConvStart_now (b : Bay) : (b.axConvStart).now = b.now := by
  simp [Bay.axConvStart]

@[simp] theorem Bay.openEntry_now (b : Bay) : (b.openEntry).now = b.now := by
  simp [Bay.openEntry]

@[simp] theorem Bay.contactorDrop_now (b : Bay) : (b.contactorDrop).now = b.now := by
  simp [Bay.contactorDrop]

@[simp] theorem Bay.setCapCont_now (b : Bay) (h : Nat) (v : Bool) : (b.setCapCont h v).now = b.now := by
  simp [Bay.setCapCont]

@[simp] theorem Bay.drain_now (b : Bay) (n : Nat) : (b.drain n).now = b.now := by
  simp [Bay.drain]

@[simp] theorem Bay.runWale_now (b : Bay) (n : Nat) : (b.runWale n).now = b.now := by
  simp [Bay.runWale]

@[simp] theorem Bay.chopFault_now (b : Bay) (conducts : Bool) : (b.chopFault conducts).now = b.now := by
  simp [Bay.chopFault]

@[simp] theorem Bay.showFault_now (b : Bay) : (b.showFault).now = b.now := by
  simp only [Bay.showFault]
  repeat' (first | done | split)
  all_goals simp 

@[simp] theorem Bay.latchFault_now (b : Bay) (cause detail ch act : Nat) : (b.latchFault cause detail ch act).now = b.now := by
  simp [Bay.latchFault]

@[simp] theorem Bay.linesChanged_now (b : Bay) (was on : Nat) : (b.linesChanged was on).now = b.now := by
  unfold Bay.linesChanged
  repeat' (first | done | simp  | split | intro _ | refine (Bay.each_now (fun b n => ?_) _ _).trans ?_ | refine (Bay.onlyIf_now (fun b => ?_) _ _).trans ?_ | refine (Bay.foldl_now (fun b n => ?_) _ _).trans ?_ | refine Bay.gated_now _ _ ?_)

@[simp] theorem Bay.drive_now (b : Bay) (t : Nat) : (b.drive t).now = b.now := by
  simp [Bay.drive]

@[simp] theorem Bay.dropTargets_now (b : Bay) (m : Nat) : (b.dropTargets m).now = b.now := by
  simp [Bay.dropTargets]

@[simp] theorem Bay.demandStop_now (b : Bay) (act : Nat) : (b.demandStop act).now = b.now := by
  simp [Bay.demandStop]

@[simp] theorem Bay.safetyStop_now (b : Bay) : (b.safetyStop).now = b.now := by
  unfold Bay.safetyStop
  repeat' (first | done | simp  | split | intro _ | refine (Bay.each_now (fun b n => ?_) _ _).trans ?_ | refine (Bay.onlyIf_now (fun b => ?_) _ _).trans ?_ | refine (Bay.foldl_now (fun b n => ?_) _ _).trans ?_ | refine Bay.gated_now _ _ ?_)

@[simp] theorem Bay.stopRequest_now (b : Bay) (act : Nat) : (b.stopRequest act).now = b.now := by
  simp [Bay.stopRequest]

@[simp] theorem Bay.demand_now (b : Bay) (i : Nat) : (b.demand i).now = b.now := by
  simp [Bay.demand]

@[simp] theorem Bay.permit_now (b : Bay) (i : Nat) : (b.permit i).now = b.now := by
  simp [Bay.permit]

@[simp] theorem Bay.showPairs_now (b : Bay) : (b.showPairs).now = b.now := by
  simp [Bay.showPairs]

@[simp] theorem Bay.takeInput_now (b : Bay) (k : Nat) : (b.takeInput k).now = b.now := by
  simp [Bay.takeInput]

@[simp] theorem Bay.findShorts_now (b : Bay) (m : Nat) : (b.findShorts m).now = b.now := by
  simp [Bay.findShorts]

@[simp] theorem Bay.handCycle_now (b : Bay) (i : Nat) : (b.handCycle i).now = b.now := by
  simp [Bay.handCycle]

@[simp] theorem Bay.pairCycle_now (b : Bay) (i : Nat) : (b.pairCycle i).now = b.now := by
  simp [Bay.pairCycle]

@[simp] theorem Bay.applyReset_now (b : Bay) : (b.applyReset).now = b.now := by
  simp [Bay.applyReset]

@[simp] theorem Bay.safeAllOff_now (b : Bay) : (b.safeAllOff).now = b.now := by
  unfold Bay.safeAllOff
  repeat' (first | done | simp  | split | intro _ | refine (Bay.each_now (fun b n => ?_) _ _).trans ?_ | refine (Bay.onlyIf_now (fun b => ?_) _ _).trans ?_ | refine (Bay.foldl_now (fun b n => ?_) _ _).trans ?_ | refine Bay.gated_now _ _ ?_)

@[simp] theorem Bay.secondFault_now (b : Bay) : (b.secondFault).now = b.now := by
  unfold Bay.secondFault
  repeat' (first | done | simp  | split | intro _ | refine (Bay.each_now (fun b n => ?_) _ _).trans ?_ | refine (Bay.onlyIf_now (fun b => ?_) _ _).trans ?_ | refine (Bay.foldl_now (fun b n => ?_) _ _).trans ?_ | refine Bay.gated_now _ _ ?_)

@[simp] theorem Bay.handoverCycle_now (b : Bay) : (b.handoverCycle).now = b.now := by
  simp only [Bay.handoverCycle]
  repeat' (first | done | split)
  all_goals simp 

@[simp] theorem Bay.degrCycle_now (b : Bay) : (b.degrCycle).now = b.now := by
  simp [Bay.degrCycle]

@[simp] theorem Bay.linkCycle_now (b : Bay) (i : SafeIn) : (b.linkCycle i).now = b.now := by
  simp [Bay.linkCycle]

@[simp] theorem Bay.sresetCycle_now (b : Bay) : (b.sresetCycle).now = b.now := by
  unfold Bay.sresetCycle
  repeat' (first | done | simp  | split | intro _ | refine (Bay.each_now (fun b n => ?_) _ _).trans ?_ | refine (Bay.onlyIf_now (fun b => ?_) _ _).trans ?_ | refine (Bay.foldl_now (fun b n => ?_) _ _).trans ?_ | refine Bay.gated_now _ _ ?_)

@[simp] theorem Bay.shortCycle_now (b : Bay) : (b.shortCycle).now = b.now := by
  simp only [Bay.shortCycle]
  repeat' (first | done | split)
  all_goals simp 

@[simp] theorem Bay.outputCycle_now (b : Bay) (i : SafeIn) : (b.outputCycle i).now = b.now := by
  simp [Bay.outputCycle]

@[simp] theorem Bay.rejoinCycle_now (b : Bay) (i : SafeIn) : (b.rejoinCycle i).now = b.now := by
  simp only [Bay.rejoinCycle]
  repeat' (first | done | split)
  all_goals simp 

@[simp] theorem Bay.outputsPass_now (b : Bay) (i : SafeIn) : (b.outputsPass i).now = b.now := by
  unfold Bay.outputsPass
  repeat' (first | done | simp  | split | intro _ | refine (Bay.each_now (fun b n => ?_) _ _).trans ?_ | refine (Bay.onlyIf_now (fun b => ?_) _ _).trans ?_ | refine (Bay.foldl_now (fun b n => ?_) _ _).trans ?_ | refine Bay.gated_now _ _ ?_)

@[simp] theorem Bay.showLineAge_now (b : Bay) : (b.showLineAge).now = b.now := by
  unfold Bay.showLineAge
  repeat' (first | done | simp  | split | intro _ | refine (Bay.each_now (fun b n => ?_) _ _).trans ?_ | refine (Bay.onlyIf_now (fun b => ?_) _ _).trans ?_ | refine (Bay.foldl_now (fun b n => ?_) _ _).trans ?_ | refine Bay.gated_now _ _ ?_)

@[simp] theorem Bay.showSafe_now (b : Bay) : (b.showSafe).now = b.now := by
  unfold Bay.showSafe
  repeat' (first | done | simp  | split | intro _ | refine (Bay.each_now (fun b n => ?_) _ _).trans ?_ | refine (Bay.onlyIf_now (fun b => ?_) _ _).trans ?_ | refine (Bay.foldl_now (fun b n => ?_) _ _).trans ?_ | refine Bay.gated_now _ _ ?_)

@[simp] theorem Bay.safetyCycle_now (b : Bay) (i : SafeIn) : (b.safetyCycle i).now = b.now := by
  unfold Bay.safetyCycle
  repeat' (first | done | simp  | split | intro _ | refine (Bay.each_now (fun b n => ?_) _ _).trans ?_ | refine (Bay.onlyIf_now (fun b => ?_) _ _).trans ?_ | refine (Bay.foldl_now (fun b n => ?_) _ _).trans ?_ | refine Bay.gated_now _ _ ?_)

@[simp] theorem Bay.cat1Stop_now (b : Bay) (i : Nat) : (b.cat1Stop i).now = b.now := by
  simp only [Bay.cat1Stop]
  repeat' (first | done | split)
  all_goals simp 

@[simp] theorem Bay.testPulse_now (b : Bay) (t : PulseTest) : (b.testPulse t).now = b.now := by
  simp only [Bay.testPulse]
  repeat' (first | done | split)
  all_goals simp 

@[simp] theorem Bay.resetPress_now (b : Bay) (ms skew : Nat) : (b.resetPress ms skew).now = b.now := by
  simp [Bay.resetPress]

@[simp] theorem Bay.beginHandover_now (b : Bay) (from_ : Nat) (latch faulted : Bool) : (b.beginHandover from_ latch faulted).now = b.now := by
  simp [Bay.beginHandover]

@[simp] theorem Bay.hostHandover_now (b : Bay) (k : Key) (from_ : Nat) : (b.hostHandover k from_).now = b.now := by
  simp [Bay.hostHandover]

@[simp] theorem Bay.upsettStops_now (b : Bay) (x : Nat) : (b.upsettStops x).now = b.now := by
  simp [Bay.upsettStops]

@[simp] theorem Bay.upsettFault_now (b : Bay) (x : Nat) : (b.upsettFault x).now = b.now := by
  unfold Bay.upsettFault
  repeat' (first | done | simp  | split | intro _ | refine (Bay.each_now (fun b n => ?_) _ _).trans ?_ | refine (Bay.onlyIf_now (fun b => ?_) _ _).trans ?_ | refine (Bay.foldl_now (fun b n => ?_) _ _).trans ?_ | refine Bay.gated_now _ _ ?_)

@[simp] theorem Bay.showSet_now (b : Bay) (l : List Byte) : (b.showSet l).now = b.now := by
  unfold Bay.showSet
  repeat' (first | done | simp  | split | intro _ | refine (Bay.each_now (fun b n => ?_) _ _).trans ?_ | refine (Bay.onlyIf_now (fun b => ?_) _ _).trans ?_ | refine (Bay.foldl_now (fun b n => ?_) _ _).trans ?_ | refine Bay.gated_now _ _ ?_)

@[simp] theorem Bay.activate_now (b : Bay) : (b.activate).now = b.now := by
  unfold Bay.activate
  repeat' (first | done | simp  | split | intro _ | refine (Bay.each_now (fun b n => ?_) _ _).trans ?_ | refine (Bay.onlyIf_now (fun b => ?_) _ _).trans ?_ | refine (Bay.foldl_now (fun b n => ?_) _ _).trans ?_ | refine Bay.gated_now _ _ ?_)

@[simp] theorem Bay.tryClose_now (b : Bay) (c : Nat) : (b.tryClose c).now = b.now := by
  simp [Bay.tryClose]

@[simp] theorem Bay.openPoint_now (b : Bay) (c : Nat) (fl : Int) (idx : Nat) (p : SweepPt) : (b.openPoint c fl idx p).now = b.now := by
  simp [Bay.openPoint]

@[simp] theorem Bay.askSweep_now (b : Bay) (c : Nat) (table : Int) (edge : Nat) (host : Bool) : (b.askSweep c table edge host).now = b.now := by
  simp [Bay.askSweep]

@[simp] theorem Bay.hcmdGo_now (b : Bay) : (b.hcmdGo).now = b.now := by
  simp [Bay.hcmdGo]

@[simp] theorem Bay.abortSweep_now (b : Bay) (c : Nat) : (b.abortSweep c).now = b.now := by
  unfold Bay.abortSweep
  repeat' (first | done | simp  | split | intro _ | refine (Bay.each_now (fun b n => ?_) _ _).trans ?_ | refine (Bay.onlyIf_now (fun b => ?_) _ _).trans ?_ | refine (Bay.foldl_now (fun b n => ?_) _ _).trans ?_ | refine Bay.gated_now _ _ ?_)

@[simp] theorem Bay.hcmdAbort_now (b : Bay) : (b.hcmdAbort).now = b.now := by
  unfold Bay.hcmdAbort
  repeat' (first | done | simp  | split | intro _ | refine (Bay.each_now (fun b n => ?_) _ _).trans ?_ | refine (Bay.onlyIf_now (fun b => ?_) _ _).trans ?_ | refine (Bay.foldl_now (fun b n => ?_) _ _).trans ?_ | refine Bay.gated_now _ _ ?_)

@[simp] theorem Bay.sweepEdge_now (b : Bay) (c : Nat) : (b.sweepEdge c).now = b.now := by
  simp only [Bay.sweepEdge]
  repeat' (first | done | split)
  all_goals simp 

@[simp] theorem Bay.specSample_now (b : Bay) (c : Nat) (v i : Int) : (b.specSample c v i).now = b.now := by
  unfold Bay.specSample
  repeat' (first | done | simp  | split | intro _ | refine (Bay.each_now (fun b n => ?_) _ _).trans ?_ | refine (Bay.onlyIf_now (fun b => ?_) _ _).trans ?_ | refine (Bay.foldl_now (fun b n => ?_) _ _).trans ?_ | refine Bay.gated_now _ _ ?_)

@[simp] theorem Bay.disturbSweep_now (b : Bay) (c : Nat) : (b.disturbSweep c).now = b.now := by
  simp [Bay.disturbSweep]

@[simp] theorem Bay.flagSweep_now (b : Bay) (c flag : Nat) : (b.flagSweep c flag).now = b.now := by
  simp [Bay.flagSweep]

@[simp] theorem Bay.postPoint_now (b : Bay) (c : Nat) (win : Window) : (b.postPoint c win).now = b.now := by
  simp [Bay.postPoint]

@[simp] theorem Bay.syncConv_now (b : Bay) (c : Nat) : (b.syncConv c).now = b.now := by
  simp [Bay.syncConv]

@[simp] theorem Bay.changeRange_now (b : Bay) (c to_ : Nat) : (b.changeRange c to_).now = b.now := by
  simp [Bay.changeRange]

@[simp] theorem Bay.rangeEdge_now (b : Bay) (c : Nat) : (b.rangeEdge c).now = b.now := by
  simp [Bay.rangeEdge]

@[simp] theorem Bay.driftLimit_now (b : Bay) (c : Nat) : (b.driftLimit c).now = b.now := by
  simp [Bay.driftLimit]

@[simp] theorem Bay.driftClear_now (b : Bay) (c : Nat) : (b.driftClear c).now = b.now := by
  unfold Bay.driftClear
  repeat' (first | done | simp  | split | intro _ | refine (Bay.each_now (fun b n => ?_) _ _).trans ?_ | refine (Bay.onlyIf_now (fun b => ?_) _ _).trans ?_ | refine (Bay.foldl_now (fun b n => ?_) _ _).trans ?_ | refine Bay.gated_now _ _ ?_)

@[simp] theorem Bay.offsetUpdate_now (b : Bay) (c r : Nat) (m p : Int) : (b.offsetUpdate c r m p).2.now = b.now := by
  simp only [Bay.offsetUpdate]; split <;> simp

@[simp] theorem Bay.gainStepOf_now (b : Bay) (m p : Int) : (b.gainStepOf m p).2.now = b.now := by
  unfold Bay.gainStepOf; repeat' split
  all_goals rfl

@[simp] theorem Bay.gainUpdate_now (b : Bay) (c : Nat) (k : Key) (slot : Nat) (m p : Int) : (b.gainUpdate c k slot m p).2.now = b.now := by
  simp only [Bay.gainUpdate]; split <;> simp

@[simp] theorem Bay.channelResult_now (b : Bay) (e : MeterEntry) (m : Int) (t : Nat) : (b.channelResult e m t).2.now = b.now := by
  simp only [Bay.channelResult]; repeat' split
  all_goals simp

@[simp] theorem Bay.openZero_now (b : Bay) (c : Nat) : (b.openZero c).now = b.now := by
  unfold Bay.openZero
  repeat' (first | done | simp  | split | intro _ | refine (Bay.each_now (fun b n => ?_) _ _).trans ?_ | refine (Bay.onlyIf_now (fun b => ?_) _ _).trans ?_ | refine (Bay.foldl_now (fun b n => ?_) _ _).trans ?_ | refine Bay.gated_now _ _ ?_)

@[simp] theorem Bay.precClose_now (b : Bay) (r : Reading) : (b.precClose r).now = b.now := by
  simp [Bay.precClose]

@[simp] theorem Bay.mainsWrite_now (b : Bay) (v : Int) : (b.mainsWrite v).now = b.now := by
  simp [Bay.mainsWrite]

@[simp] theorem Bay.mainsEdge_now (b : Bay) : (b.mainsEdge).now = b.now := by
  simp only [Bay.mainsEdge]
  repeat' (first | done | split)
  all_goals simp 

@[simp] theorem Bay.refOff_now (b : Bay) (n : Nat) : (b.refOff n).now = b.now := by
  unfold Bay.refOff
  repeat' (first | done | simp  | split | intro _ | refine (Bay.each_now (fun b n => ?_) _ _).trans ?_ | refine (Bay.onlyIf_now (fun b => ?_) _ _).trans ?_ | refine (Bay.foldl_now (fun b n => ?_) _ _).trans ?_ | refine Bay.gated_now _ _ ?_)

@[simp] theorem Bay.refWrite_now (b : Bay) (n : Nat) (on : Bool) : (b.refWrite n on).now = b.now := by
  simp [Bay.refWrite]

@[simp] theorem Bay.refCtlWrite_now (b : Bay) (v : Nat) : (b.refCtlWrite v).now = b.now := by
  simp [Bay.refCtlWrite]

@[simp] theorem Bay.scalWrite_now (b : Bay) (n : Nat) : (b.scalWrite n).now = b.now := by
  simp [Bay.scalWrite]

@[simp] theorem Bay.scalCtlWrite_now (b : Bay) (m : Nat) : (b.scalCtlWrite m).now = b.now := by
  simp [Bay.scalCtlWrite]

@[simp] theorem Bay.scalEdge_now (b : Bay) : (b.scalEdge).now = b.now := by
  unfold Bay.scalEdge
  repeat' (first | done | simp  | split | intro _ | refine (Bay.each_now (fun b n => ?_) _ _).trans ?_ | refine (Bay.onlyIf_now (fun b => ?_) _ _).trans ?_ | refine (Bay.foldl_now (fun b n => ?_) _ _).trans ?_ | refine Bay.gated_now _ _ ?_)

@[simp] theorem Bay.calChannel_now (b : Bay) (slots : List (List (Int × Int))) (n : Nat) (l : Nat) : (b.calChannel slots n l).now = b.now := by
  unfold Bay.calChannel
  repeat' (first | done | simp  | split | intro _ | refine (Bay.each_now (fun b n => ?_) _ _).trans ?_ | refine (Bay.onlyIf_now (fun b => ?_) _ _).trans ?_ | refine (Bay.foldl_now (fun b n => ?_) _ _).trans ?_ | refine Bay.gated_now _ _ ?_)

@[simp] theorem Bay.ovenEdge_now (b : Bay) (t : Int) (inBand : Bool) : (b.ovenEdge t inBand).now = b.now := by
  simp [Bay.ovenEdge]

@[simp] theorem Bay.endMeterSweep_now (b : Bay) : (b.endMeterSweep).now = b.now := by
  unfold Bay.endMeterSweep
  repeat' (first | done | simp  | split | intro _ | refine (Bay.each_now (fun b n => ?_) _ _).trans ?_ | refine (Bay.onlyIf_now (fun b => ?_) _ _).trans ?_ | refine (Bay.foldl_now (fun b n => ?_) _ _).trans ?_ | refine Bay.gated_now _ _ ?_)

@[simp] theorem Bay.checkSweepEnd_now (b : Bay) (sweep : Int) : (b.checkSweepEnd sweep).now = b.now := by
  unfold Bay.checkSweepEnd
  repeat' (first | done | simp  | split | intro _ | refine (Bay.each_now (fun b n => ?_) _ _).trans ?_ | refine (Bay.onlyIf_now (fun b => ?_) _ _).trans ?_ | refine (Bay.foldl_now (fun b n => ?_) _ _).trans ?_ | refine Bay.gated_now _ _ ?_)

@[simp] theorem Bay.beginEntry_now (b : Bay) (i : Nat) : (b.beginEntry i).now = b.now := by
  simp [Bay.beginEntry]

@[simp] theorem Bay.noteCheck_now (b : Bay) (sweep : Int) (k : Nat) : (b.noteCheck sweep k).now = b.now := by
  unfold Bay.noteCheck
  repeat' (first | done | simp  | split | intro _ | refine (Bay.each_now (fun b n => ?_) _ _).trans ?_ | refine (Bay.onlyIf_now (fun b => ?_) _ _).trans ?_ | refine (Bay.foldl_now (fun b n => ?_) _ _).trans ?_ | refine Bay.gated_now _ _ ?_)

@[simp] theorem Bay.internalResult_now (b : Bay) (input : Nat) (sweep m : Int) : (b.internalResult input sweep m).now = b.now := by
  unfold Bay.internalResult
  repeat' (first | done | simp  | split | intro _ | refine (Bay.each_now (fun b n => ?_) _ _).trans ?_ | refine (Bay.onlyIf_now (fun b => ?_) _ _).trans ?_ | refine (Bay.foldl_now (fun b n => ?_) _ _).trans ?_ | refine Bay.gated_now _ _ ?_)

@[simp] theorem Bay.meterEdge_now (b : Bay) : (b.meterEdge).now = b.now := by
  unfold Bay.meterEdge
  repeat' (first | done | simp  | split | intro _ | refine (Bay.each_now (fun b n => ?_) _ _).trans ?_ | refine (Bay.onlyIf_now (fun b => ?_) _ _).trans ?_ | refine (Bay.foldl_now (fun b n => ?_) _ _).trans ?_ | refine Bay.gated_now _ _ ?_)

@[simp] theorem Bay.bayCmd_now (b : Bay) (n : Nat) : (b.bayCmd n).now = b.now := by
  unfold Bay.bayCmd
  repeat' (first | done | simp  | split | intro _ | refine (Bay.each_now (fun b n => ?_) _ _).trans ?_ | refine (Bay.onlyIf_now (fun b => ?_) _ _).trans ?_ | refine (Bay.foldl_now (fun b n => ?_) _ _).trans ?_ | refine Bay.gated_now _ _ ?_)

@[simp] theorem Bay.setMode_now (b : Bay) (m : Int) : (b.setMode m).now = b.now := by
  simp [Bay.setMode]

@[simp] theorem Bay.stopChannels_now (b : Bay) : (b.stopChannels).now = b.now := by
  simp [Bay.stopChannels]

@[simp] theorem Bay.stopEffects_now (b : Bay) : (b.stopEffects).now = b.now := by
  simp [Bay.stopEffects]

@[simp] theorem Bay.recordStops_now (b : Bay) : (b.recordStops).now = b.now := by
  simp [Bay.recordStops]

@[simp] theorem Bay.enterSafeStop_now (b : Bay) : (b.enterSafeStop).now = b.now := by
  unfold Bay.enterSafeStop
  repeat' (first | done | simp  | split | intro _ | refine (Bay.each_now (fun b n => ?_) _ _).trans ?_ | refine (Bay.onlyIf_now (fun b => ?_) _ _).trans ?_ | refine (Bay.foldl_now (fun b n => ?_) _ _).trans ?_ | refine Bay.gated_now _ _ ?_)

@[simp] theorem Bay.serviceStop_now (b : Bay) : (b.serviceStop).now = b.now := by
  unfold Bay.serviceStop
  repeat' (first | done | simp  | split | intro _ | refine (Bay.each_now (fun b n => ?_) _ _).trans ?_ | refine (Bay.onlyIf_now (fun b => ?_) _ _).trans ?_ | refine (Bay.foldl_now (fun b n => ?_) _ _).trans ?_ | refine Bay.gated_now _ _ ?_)

@[simp] theorem Bay.enterQuarantine_now (b : Bay) : (b.enterQuarantine).now = b.now := by
  simp [Bay.enterQuarantine]

@[simp] theorem Bay.quarantineEdge_now (b : Bay) : (b.quarantineEdge).now = b.now := by
  simp [Bay.quarantineEdge]

@[simp] theorem Bay.holdByCommand_now (b : Bay) : (b.holdByCommand).now = b.now := by
  simp [Bay.holdByCommand]

@[simp] theorem Bay.resumeByCommand_now (b : Bay) : (b.resumeByCommand).now = b.now := by
  simp [Bay.resumeByCommand]

@[simp] theorem Bay.leaveStop_now (b : Bay) : (b.leaveStop).now = b.now := by
  simp [Bay.leaveStop]

@[simp] theorem Bay.leaveService_now (b : Bay) : (b.leaveService).now = b.now := by
  simp [Bay.leaveService]

@[simp] theorem Bay.enterEnergized_now (b : Bay) : (b.enterEnergized).now = b.now := by
  simp [Bay.enterEnergized]

@[simp] theorem Bay.enterStandby_now (b : Bay) : (b.enterStandby).now = b.now := by
  simp [Bay.enterStandby]

@[simp] theorem Bay.enterRunMode_now (b : Bay) (m : Int) : (b.enterRunMode m).now = b.now := by
  simp [Bay.enterRunMode]

@[simp] theorem Bay.enterIdle_now (b : Bay) : (b.enterIdle).now = b.now := by
  simp [Bay.enterIdle]

@[simp] theorem Bay.ownDefaults_now (b : Bay) (carts : Bool) : (b.ownDefaults carts).now = b.now := by
  unfold Bay.ownDefaults
  repeat' (first | done | simp  | split | intro _ | refine (Bay.each_now (fun b n => ?_) _ _).trans ?_ | refine (Bay.onlyIf_now (fun b => ?_) _ _).trans ?_ | refine (Bay.foldl_now (fun b n => ?_) _ _).trans ?_ | refine Bay.gated_now _ _ ?_)

@[simp] theorem Bay.showSets_now (b : Bay) : (b.showSets).now = b.now := by
  unfold Bay.showSets
  repeat' (first | done | simp  | split | intro _ | refine (Bay.each_now (fun b n => ?_) _ _).trans ?_ | refine (Bay.onlyIf_now (fun b => ?_) _ _).trans ?_ | refine (Bay.foldl_now (fun b n => ?_) _ _).trans ?_ | refine Bay.gated_now _ _ ?_)

@[simp] theorem Bay.contactorFault_now (z b : Bay) (carts : Bool) : (z.contactorFault b carts).now = z.now := by
  unfold Bay.contactorFault; split <;> rfl

@[simp] theorem Bay.rebooted_now (b : Bay) (carts : Bool) : (b.rebooted carts).now = b.now := by
  unfold Bay.rebooted
  exact (Bay.contactorFault_now _ _ _).trans ((Bay.ownDefaults_now _ _).trans (Bay.showSets_now _))

@[simp] theorem Bay.powerOff_now (b : Bay) : b.powerOff.now = b.now := by
  simp [Bay.powerOff]

@[simp] theorem Bay.startBoot_now (b : Bay) (carts : Bool) : (b.startBoot carts).now = b.now := by
  simp [Bay.startBoot]

@[simp] theorem Bay.bootTrust_now (b : Bay) (se : Nat) : (b.bootTrust se).now = b.now := by
  simp [Bay.bootTrust]

@[simp] theorem Bay.meterComes_now (b : Bay) (l : List Byte) (serial : Nat) : (b.meterComes l serial).now = b.now := by
  unfold Bay.meterComes
  repeat' (first | done | simp  | split | intro _ | refine (Bay.each_now (fun b n => ?_) _ _).trans ?_ | refine (Bay.onlyIf_now (fun b => ?_) _ _).trans ?_ | refine (Bay.foldl_now (fun b n => ?_) _ _).trans ?_ | refine Bay.gated_now _ _ ?_)

@[simp] theorem Bay.bootComplete_now (b : Bay) (se upsett : Nat) : (b.bootComplete se upsett).now = b.now := by
  simp [Bay.bootComplete]

@[simp] theorem Bay.runEdge_now (b : Bay) (cmd : Option Nat) : (b.runEdge cmd).now = b.now := by
  simp [Bay.runEdge]

@[simp] theorem Bay.holdEdge_now (b : Bay) (cmd : Option Nat) : (b.holdEdge cmd).now = b.now := by
  simp [Bay.holdEdge]

@[simp] theorem Bay.modeStep_now (b : Bay) (cmd : Option Nat) : (b.modeStep cmd).now = b.now := by
  unfold Bay.modeStep
  split
  case h_7 =>
    split
    · simp
    · split
      · extract_lets stopped b1
        split
        · exact (Bay.enterSafeStop_now _).trans (Bay.leaveService_now b)
        · exact (Bay.enterIdle_now _).trans ((Bay.leaveStop_now _).trans (Bay.leaveService_now b))
      · rfl
  all_goals repeat' (first | done | simp | split)

@[simp] theorem Bay.takeCmd_now (b : Bay) : b.takeCmd.1.now = b.now := by
  unfold Bay.takeCmd
  repeat' (first | done | simp | split)
@[simp] theorem Bay.modeEdge_now (b : Bay) : b.modeEdge.now = b.now := by
  unfold Bay.modeEdge
  extract_lets b1 r b2
  have h : b2.now = b.now := (Bay.takeCmd_now _).trans rfl
  repeat' split
  · exact (Bay.powerOff_now _).trans h
  · exact (Bay.enterQuarantine_now _).trans ((Bay.onlyIf_now (fun b => Bay.leaveService_now b) _ _).trans h)
  · exact (Bay.enterSafeStop_now _).trans h
  · exact (Bay.modeStep_now _ _).trans ((Bay.serviceStop_now _).trans h)
  · exact (Bay.modeStep_now _ _).trans h

@[simp] theorem Bay.setPort_now (b : Bay) (p : Nat) (x : Port) : (b.setPort p x).now = b.now := by
  simp [Bay.setPort]

@[simp] theorem Bay.setLink_now (b : Bay) (p : Nat) (st : Int) : (b.setLink p st).now = b.now := by
  simp [Bay.setLink]

@[simp] theorem Bay.countTx_now (b : Bay) (ps : List Nat) : (b.countTx ps).now = b.now := by
  unfold Bay.countTx
  repeat' (first | done | simp  | split | intro _ | refine (Bay.each_now (fun b n => ?_) _ _).trans ?_ | refine (Bay.onlyIf_now (fun b => ?_) _ _).trans ?_ | refine (Bay.foldl_now (fun b n => ?_) _ _).trans ?_ | refine Bay.gated_now _ _ ?_)

@[simp] theorem Bay.sendWeave_now (b : Bay) (dst : Nat) (kind : String) (words : List Int) : (b.sendWeave dst kind words).now = b.now := by
  unfold Bay.sendWeave
  repeat' (first | done | simp  | split | intro _ | refine (Bay.each_now (fun b n => ?_) _ _).trans ?_ | refine (Bay.onlyIf_now (fun b => ?_) _ _).trans ?_ | refine (Bay.foldl_now (fun b n => ?_) _ _).trans ?_ | refine Bay.gated_now _ _ ?_)

@[simp] theorem Bay.setStream_now (b : Bay) (n : Nat) (x : Stream) : (b.setStream n x).now = b.now := by
  simp [Bay.setStream]

@[simp] theorem Bay.notify_now (b : Bay) (item : List Byte) : (b.notify item).now = b.now := by
  simp only [Bay.notify]
  split
  · simp
  · refine (Bay.ite_now _ _ _).trans ?_
    split
    · refine (Bay.each_now (fun b n => ?_) _ _).trans ?_ <;> rfl
    · split <;> simp

@[simp] theorem Bay.releaseEvents_now (b : Bay) : (b.releaseEvents).now = b.now := by
  simp [Bay.releaseEvents]

@[simp] theorem Bay.timeMark_now (b : Bay) : (b.timeMark).now = b.now := by
  simp [Bay.timeMark]

@[simp] theorem Bay.readEvent_now (b : Bay) : (b.readEvent).now = b.now := by
  simp only [Bay.readEvent]
  repeat' (first | done | split)
  all_goals simp 

@[simp] theorem Bay.setLock_now (b : Bay) (v : Bool) : (b.setLock v).now = b.now := by
  simp [Bay.setLock]

@[simp] theorem Bay.setFree_now (b : Bay) (v : Bool) : (b.setFree v).now = b.now := by
  simp [Bay.setFree]

@[simp] theorem Bay.lockBy_now (b : Bay) (off : Int) : (b.lockBy off).now = b.now := by
  simp [Bay.lockBy]

@[simp] theorem Bay.steerBy_now (b : Bay) (off : Int) (full : Bool) : (b.steerBy off full).now = b.now := by
  simp [Bay.steerBy]

@[simp] theorem Bay.canPost_now (b : Bay) (k : Nat) (r : CanRes) : (b.canPost k r).now = b.now := by
  simp [Bay.canPost]

@[simp] theorem Bay.setObjData_now (b : Bay) (n : Nat) (d : List Byte) : (b.setObjData n d).now = b.now := by
  unfold Bay.setObjData
  repeat' (first | done | simp  | split | intro _ | refine (Bay.each_now (fun b n => ?_) _ _).trans ?_ | refine (Bay.onlyIf_now (fun b => ?_) _ _).trans ?_ | refine (Bay.foldl_now (fun b n => ?_) _ _).trans ?_ | refine Bay.gated_now _ _ ?_)

@[simp] theorem Bay.canFail_now (b : Bay) (k o : Nat) (cause : Int) : (b.canFail k o cause).now = b.now := by
  simp [Bay.canFail]

@[simp] theorem Bay.canBusOff_now (b : Bay) (k : Nat) : (b.canBusOff k).now = b.now := by
  simp [Bay.canBusOff]

@[simp] theorem Bay.canCount_now (b : Bay) (k : Nat) (tec rec_ : Int) : (b.canCount k tec rec_).now = b.now := by
  simp [Bay.canCount]

@[simp] theorem Bay.canClash_now (b : Bay) (k : Nat) (ide : Bool) (id : Nat) : (b.canClash k ide id).now = b.now := by
  simp [Bay.canClash]

@[simp] theorem Bay.canHit_now (b : Bay) (k o : Nat) : (b.canHit k o).now = b.now := by
  simp [Bay.canHit]

@[simp] theorem Bay.writeNom_now (b : Bay) (k cand : Nat) : (b.writeNom k cand).now = b.now := by
  simp [Bay.writeNom]

@[simp] theorem Bay.writeData_now (b : Bay) (k cand : Nat) : (b.writeData k cand).now = b.now := by
  simp [Bay.writeData]

@[simp] theorem Bay.detectStart_now (b : Bay) (k : Nat) : (b.detectStart k).now = b.now := by
  simp [Bay.detectStart]

@[simp] theorem Bay.nextCand_now (b : Bay) (k : Nat) : (b.nextCand k).now = b.now := by
  simp [Bay.nextCand]

@[simp] theorem Bay.detectDone_now (b : Bay) (k : Nat) : (b.detectDone k).now = b.now := by
  simp [Bay.detectDone]

@[simp] theorem Bay.detectFrame_now (b : Bay) (k : Nat) (brs : Bool) : (b.detectFrame k brs).now = b.now := by
  simp [Bay.detectFrame]

@[simp] theorem Bay.canStore_now (b : Bay) (k : Nat) (f : CanFrame) : (b.canStore k f).now = b.now := by
  simp only [Bay.canStore]
  repeat' (first | done | split)
  all_goals simp 

@[simp] theorem Bay.canMissed_now (b : Bay) (k : Nat) (s : CanSend) (what : CanOutcome) : (b.canMissed k s what).now = b.now := by
  simp [Bay.canMissed]

@[simp] theorem Bay.canEnter_now (b : Bay) (k : Nat) (r : CanRes) : (b.canEnter k r).now = b.now := by
  unfold Bay.canEnter
  repeat' (first | done | simp  | split | intro _ | refine (Bay.each_now (fun b n => ?_) _ _).trans ?_ | refine (Bay.onlyIf_now (fun b => ?_) _ _).trans ?_ | refine (Bay.foldl_now (fun b n => ?_) _ _).trans ?_ | refine Bay.gated_now _ _ ?_)

@[simp] theorem Bay.canResults_now (b : Bay) (k : Nat) : (b.canResults k).now = b.now := by
  simp [Bay.canResults]

@[simp] theorem Bay.canClear_now (b : Bay) (k : Nat) : (b.canClear k).now = b.now := by
  simp [Bay.canClear]

@[simp] theorem Bay.canRecover_now (b : Bay) (k : Nat) : (b.canRecover k).now = b.now := by
  simp [Bay.canRecover]

@[simp] theorem Bay.canOwnerEdge_now (b : Bay) (k : Nat) : (b.canOwnerEdge k).now = b.now := by
  simp [Bay.canOwnerEdge]

@[simp] theorem Bay.canModeEdge_now (b : Bay) (k : Nat) : (b.canModeEdge k).now = b.now := by
  simp [Bay.canModeEdge]

@[simp] theorem Bay.canCommit_now (b : Bay) (k : Nat) : (b.canCommit k).now = b.now := by
  unfold Bay.canCommit
  repeat' (first | done | simp  | split | intro _ | refine (Bay.each_now (fun b n => ?_) _ _).trans ?_ | refine (Bay.onlyIf_now (fun b => ?_) _ _).trans ?_ | refine (Bay.foldl_now (fun b n => ?_) _ _).trans ?_ | refine Bay.gated_now _ _ ?_)

@[simp] theorem Bay.canEdge1_now (b : Bay) (k : Nat) : (b.canEdge1 k).now = b.now := by
  simp [Bay.canEdge1]

@[simp] theorem Bay.canEdge_now (b : Bay) : (b.canEdge).now = b.now := by
  simp [Bay.canEdge]

@[simp] theorem Bay.laneChange_now (b : Bay) (lane : Nat) (up : Bool) : (b.laneChange lane up).now = b.now := by
  simp [Bay.laneChange]

@[simp] theorem Bay.linkLost_now (b : Bay) (silent : Option Nat) : (b.linkLost silent).now = b.now := by
  simp only [Bay.linkLost]
  repeat' (first | done | split)
  all_goals simp 

@[simp] theorem Bay.joinBooted_now (b : Bay) (x : Nat) (equal : Bool) : (b.joinBooted x equal).now = b.now := by
  simp [Bay.joinBooted]

@[simp] theorem Bay.joined_now (b : Bay) (x : Nat) : (b.joined x).now = b.now := by
  simp [Bay.joined]

@[simp] theorem Bay.resync_now (b : Bay) : (b.resync).now = b.now := by
  simp [Bay.resync]

@[simp] theorem Bay.swap_now (b : Bay) : (b.swap).now = b.now := by
  simp [Bay.swap]

@[simp] theorem Bay.fwAlign_now (b : Bay) (x : Nat) : (b.fwAlign x).now = b.now := by
  simp [Bay.fwAlign]

@[simp] theorem Bay.oscFail_now (b : Bay) : (b.oscFail).now = b.now := by
  simp [Bay.oscFail]

@[simp] theorem Bay.originate_now (b : Bay) (kind : String) (cls dst : Nat) (words : List Int) (rim : Option (Nat × Int)) : (b.originate kind cls dst words rim).now = b.now := by
  unfold Bay.originate
  repeat' (first | done | simp  | split | intro _ | refine (Bay.each_now (fun b n => ?_) _ _).trans ?_ | refine (Bay.onlyIf_now (fun b => ?_) _ _).trans ?_ | refine (Bay.foldl_now (fun b n => ?_) _ _).trans ?_ | refine Bay.gated_now _ _ ?_)

@[simp] theorem Bay.handshake_now (b : Bay) (p : Nat) (x : PeerIn) : (b.handshake p x).now = b.now := by
  simp [Bay.handshake]

@[simp] theorem Bay.response_now (b : Bay) (src : Nat) : (b.response src).now = b.now := by
  unfold Bay.response
  repeat' (first | done | simp  | split | intro _ | refine (Bay.each_now (fun b n => ?_) _ _).trans ?_ | refine (Bay.onlyIf_now (fun b => ?_) _ _).trans ?_ | refine (Bay.foldl_now (fun b n => ?_) _ _).trans ?_ | refine Bay.gated_now _ _ ?_)

@[simp] theorem Bay.askedEdge_now (b : Bay) : (b.askedEdge).now = b.now := by
  unfold Bay.askedEdge
  repeat' (first | done | simp  | split | intro _ | refine (Bay.each_now (fun b n => ?_) _ _).trans ?_ | refine (Bay.onlyIf_now (fun b => ?_) _ _).trans ?_ | refine (Bay.foldl_now (fun b n => ?_) _ _).trans ?_ | refine Bay.gated_now _ _ ?_)

@[simp] theorem Bay.passFrame_now (b : Bay) (p : Nat) (f : WFrame) : (b.passFrame p f).now = b.now := by
  unfold Bay.passFrame
  repeat' (first | done | simp  | split | intro _ | refine (Bay.each_now (fun b n => ?_) _ _).trans ?_ | refine (Bay.onlyIf_now (fun b => ?_) _ _).trans ?_ | refine (Bay.foldl_now (fun b n => ?_) _ _).trans ?_ | refine Bay.gated_now _ _ ?_)

@[simp] theorem Bay.portSend_now (b : Bay) (p : Nat) (kind : String) (words : List Int) : (b.portSend p kind words).now = b.now := by
  simp [Bay.portSend]

@[simp] theorem Bay.putRoutes_now (b : Bay) (plane : Nat) (t : List Nat) : (b.putRoutes plane t).now = b.now := by
  unfold Bay.putRoutes
  repeat' (first | done | simp  | split | intro _ | refine (Bay.each_now (fun b n => ?_) _ _).trans ?_ | refine (Bay.onlyIf_now (fun b => ?_) _ _).trans ?_ | refine (Bay.foldl_now (fun b n => ?_) _ _).trans ?_ | refine Bay.gated_now _ _ ?_)

@[simp] theorem Bay.failLink_now (b : Bay) (plane x : Nat) (y : Option Nat) : (b.failLink plane x y).now = b.now := by
  simp only [Bay.failLink]
  repeat' (first | done | split)
  all_goals simp 

@[simp] theorem Bay.linkLoss_now (b : Bay) (p : Nat) (st : Int) : (b.linkLoss p st).now = b.now := by
  simp [Bay.linkLoss]

@[simp] theorem Bay.weaveReceive_now (b : Bay) (p : Nat) (f : WFrame) : (b.weaveReceive p f).now = b.now := by
  simp [Bay.weaveReceive]

@[simp] theorem Bay.retransmit_now (b : Bay) (acked : List (Nat × Nat × Nat)) : (b.retransmit acked).now = b.now := by
  unfold Bay.retransmit
  repeat' (first | done | simp  | split | intro _ | refine (Bay.each_now (fun b n => ?_) _ _).trans ?_ | refine (Bay.onlyIf_now (fun b => ?_) _ _).trans ?_ | refine (Bay.foldl_now (fun b n => ?_) _ _).trans ?_ | refine Bay.gated_now _ _ ?_)

@[simp] theorem Bay.bindSerial_now (b : Bay) (ser : Int) (st : Option Nat) : (b.bindSerial ser st).1.now = b.now := by
  simp only [Bay.bindSerial]; repeat' split
  all_goals simp

@[simp] theorem Bay.discover_now (b : Bay) : (b.discover).now = b.now := by
  unfold Bay.discover
  repeat' (first | done | simp  | split | intro _ | refine (Bay.each_now (fun b n => ?_) _ _).trans ?_ | refine (Bay.onlyIf_now (fun b => ?_) _ _).trans ?_ | refine (Bay.foldl_now (fun b n => ?_) _ _).trans ?_ | refine Bay.gated_now _ _ ?_)

@[simp] theorem Bay.announce_now (b : Bay) (ser : Int) (stored : Option Nat) (peers : List PortPeer) : (b.announce ser stored peers).now = b.now := by
  unfold Bay.announce
  repeat' (first | done | simp  | split | intro _ | refine (Bay.each_now (fun b n => ?_) _ _).trans ?_ | refine (Bay.onlyIf_now (fun b => ?_) _ _).trans ?_ | refine (Bay.foldl_now (fun b n => ?_) _ _).trans ?_ | refine Bay.gated_now _ _ ?_)

@[simp] theorem Bay.sendTables_now (b : Bay) : (b.sendTables).now = b.now := by
  unfold Bay.sendTables
  repeat' (first | done | simp  | split | intro _ | refine (Bay.each_now (fun b n => ?_) _ _).trans ?_ | refine (Bay.onlyIf_now (fun b => ?_) _ _).trans ?_ | refine (Bay.foldl_now (fun b n => ?_) _ _).trans ?_ | refine Bay.gated_now _ _ ?_)

@[simp] theorem Bay.remap_now (b : Bay) : (b.remap).now = b.now := by
  unfold Bay.remap
  repeat' (first | done | simp  | split | intro _ | refine (Bay.each_now (fun b n => ?_) _ _).trans ?_ | refine (Bay.onlyIf_now (fun b => ?_) _ _).trans ?_ | refine (Bay.foldl_now (fun b n => ?_) _ _).trans ?_ | refine Bay.gated_now _ _ ?_)

@[simp] theorem Bay.discoveryEnd_now (b : Bay) : (b.discoveryEnd).now = b.now := by
  simp [Bay.discoveryEnd]

@[simp] theorem Bay.unbind_now (b : Bay) (a : Nat) : (b.unbind a).now = b.now := by
  simp [Bay.unbind]

@[simp] theorem Bay.remoteEvent_now (b : Bay) (t eng : Nat) : (b.remoteEvent t eng).now = b.now := by
  simp [Bay.remoteEvent]

@[simp] theorem Bay.sendRemote_now (b : Bay) (e : EvEntry) : (b.sendRemote e).now = b.now := by
  simp [Bay.sendRemote]

@[simp] theorem Bay.unholdAll_now (b : Bay) : (b.unholdAll).now = b.now := by
  simp [Bay.unholdAll]

@[simp] theorem Bay.closeSession_now (b : Bay) (i : Nat) : (b.closeSession i).now = b.now := by
  simp [Bay.closeSession]

@[simp] theorem Bay.dropLostSessions_now (b : Bay) : (b.dropLostSessions).now = b.now := by
  unfold Bay.dropLostSessions
  repeat' (first | done | simp  | split | intro _ | refine (Bay.each_now (fun b n => ?_) _ _).trans ?_ | refine (Bay.onlyIf_now (fun b => ?_) _ _).trans ?_ | refine (Bay.foldl_now (fun b n => ?_) _ _).trans ?_ | refine Bay.gated_now _ _ ?_)

@[simp] theorem Bay.takeRim_now (b : Bay) : (b.takeRim).now = b.now := by
  simp [Bay.takeRim]

@[simp] theorem Bay.dropRim_now (b : Bay) : (b.dropRim).now = b.now := by
  simp [Bay.dropRim]

@[simp] theorem Bay.heartbeat_now (b : Bay) (node : Nat) (ser : Int) (primary : Bool) : (b.heartbeat node ser primary).now = b.now := by
  simp only [Bay.heartbeat]
  repeat' (first | done | split)
  all_goals simp 

@[simp] theorem Bay.takeAddr_now (b : Bay) : (b.takeAddr).now = b.now := by
  unfold Bay.takeAddr
  repeat' (first | done | simp  | split | intro _ | refine (Bay.each_now (fun b n => ?_) _ _).trans ?_ | refine (Bay.onlyIf_now (fun b => ?_) _ _).trans ?_ | refine (Bay.foldl_now (fun b n => ?_) _ _).trans ?_ | refine Bay.gated_now _ _ ?_)

@[simp] theorem Bay.takeTables_now (b : Bay) : (b.takeTables).now = b.now := by
  unfold Bay.takeTables
  repeat' (first | done | simp  | split | intro _ | refine (Bay.each_now (fun b n => ?_) _ _).trans ?_ | refine (Bay.onlyIf_now (fun b => ?_) _ _).trans ?_ | refine (Bay.foldl_now (fun b n => ?_) _ _).trans ?_ | refine Bay.gated_now _ _ ?_)

@[simp] theorem Bay.rimRole_now (b : Bay) : (b.rimRole).now = b.now := by
  unfold Bay.rimRole
  repeat' (first | done | simp  | split | intro _ | refine (Bay.each_now (fun b n => ?_) _ _).trans ?_ | refine (Bay.onlyIf_now (fun b => ?_) _ _).trans ?_ | refine (Bay.foldl_now (fun b n => ?_) _ _).trans ?_ | refine Bay.gated_now _ _ ?_)

@[simp] theorem Bay.discoverEdge_now (b : Bay) : (b.discoverEdge).now = b.now := by
  unfold Bay.discoverEdge
  repeat' (first | done | simp  | split | intro _ | refine (Bay.each_now (fun b n => ?_) _ _).trans ?_ | refine (Bay.onlyIf_now (fun b => ?_) _ _).trans ?_ | refine (Bay.foldl_now (fun b n => ?_) _ _).trans ?_ | refine Bay.gated_now _ _ ?_)

@[simp] theorem Bay.reachEdge_now (b : Bay) : (b.reachEdge).now = b.now := by
  unfold Bay.reachEdge
  repeat' (first | done | simp  | split | intro _ | refine (Bay.each_now (fun b n => ?_) _ _).trans ?_ | refine (Bay.onlyIf_now (fun b => ?_) _ _).trans ?_ | refine (Bay.foldl_now (fun b n => ?_) _ _).trans ?_ | refine Bay.gated_now _ _ ?_)

@[simp] theorem Bay.weaveEdge_now (b : Bay) : (b.weaveEdge).now = b.now := by
  simp [Bay.weaveEdge]

@[simp] theorem Bay.setZN_now (b : Bay) (c : Nat) (v : Int) : (b.setZN c v).now = b.now := by
  simp [Bay.setZN]

@[simp] theorem Bay.setC_now (b : Bay) (c : Nat) (v : Bool) : (b.setC c v).now = b.now := by
  simp [Bay.setC]

@[simp] theorem Bay.setK_now (b : Bay) (c i : Nat) (v : Int) : (b.setK c i v).now = b.now := by
  simp [Bay.setK]

@[simp] theorem Bay.command_now (b : Bay) (c : Nat) (x : EngCmd) : (b.command c x).now = b.now := by
  simp [Bay.command]

@[simp] theorem Bay.wrote_now (b : Bay) (c k : Nat) (t : Direct) : (b.wrote c k t).now = b.now := by
  unfold Bay.wrote
  repeat' (first | done | simp  | split | intro _ | refine (Bay.each_now (fun b n => ?_) _ _).trans ?_ | refine (Bay.onlyIf_now (fun b => ?_) _ _).trans ?_ | refine (Bay.foldl_now (fun b n => ?_) _ _).trans ?_ | refine Bay.gated_now _ _ ?_)

@[simp] theorem Bay.waittTick_now (b : Bay) (c : Nat) : (b.waittTick c).now = b.now := by
  simp only [Bay.waittTick]
  repeat' (first | done | split)
  all_goals simp 

@[simp] theorem Bay.waitSeen_now (b : Bay) (c : Nat) : (b.waitSeen c).now = b.now := by
  unfold Bay.waitSeen
  repeat' (first | done | simp  | split | intro _ | refine (Bay.each_now (fun b n => ?_) _ _).trans ?_ | refine (Bay.onlyIf_now (fun b => ?_) _ _).trans ?_ | refine (Bay.foldl_now (fun b n => ?_) _ _).trans ?_ | refine Bay.gated_now _ _ ?_)

@[simp] theorem Bay.arrive_now (b : Bay) (g stake chan ts : Nat) : (b.arrive g stake chan ts).now = b.now := by
  simp [Bay.arrive]

@[simp] theorem Bay.arriveHere_now (b : Bay) (c g : Nat) : (b.arriveHere c g).now = b.now := by
  simp [Bay.arriveHere]

@[simp] theorem Bay.endBy_now (b : Bay) (c : Nat) (l : List Nat) : (b.endBy c l).now = b.now := by
  unfold Bay.endBy
  repeat' (first | done | simp  | split | intro _ | refine (Bay.each_now (fun b n => ?_) _ _).trans ?_ | refine (Bay.onlyIf_now (fun b => ?_) _ _).trans ?_ | refine (Bay.foldl_now (fun b n => ?_) _ _).trans ?_ | refine Bay.gated_now _ _ ?_)

@[simp] theorem Bay.evalStep_now (b : Bay) (c : Nat) : (b.evalStep c).now = b.now := by
  simp [Bay.evalStep]

@[simp] theorem Bay.evalFast_now (b : Bay) (c : Nat) : (b.evalFast c).now = b.now := by
  simp [Bay.evalFast]

@[simp] theorem Bay.qualTick_now (b : Bay) (c : Nat) : (b.qualTick c).now = b.now := by
  simp [Bay.qualTick]

@[simp] theorem Bay.safeTick_now (b : Bay) (c : Nat) : (b.safeTick c).now = b.now := by
  simp [Bay.safeTick]

@[simp] theorem Bay.topoffStart_now (b : Bay) (c : Nat) : (b.topoffStart c).now = b.now := by
  simp [Bay.topoffStart]

@[simp] theorem Bay.topoffEnd_now (b : Bay) (c : Nat) : (b.topoffEnd c).now = b.now := by
  simp [Bay.topoffEnd]

@[simp] theorem Bay.recharge_now (b : Bay) (c : Nat) : (b.recharge c).now = b.now := by
  simp [Bay.recharge]

@[simp] theorem Bay.watchTick_now (b : Bay) (c : Nat) : (b.watchTick c).now = b.now := by
  simp [Bay.watchTick]

@[simp] theorem Bay.takeMeans_now (b : Bay) (c : Nat) : (b.takeMeans c).now = b.now := by
  simp [Bay.takeMeans]

@[simp] theorem Bay.timers_now (b : Bay) (c : Nat) : (b.timers c).now = b.now := by
  simp [Bay.timers]

@[simp] theorem Bay.chanTick_now (b : Bay) (c : Nat) : (b.chanTick c).now = b.now := by
  simp [Bay.chanTick]

@[simp] theorem Bay.waitTick_now (b : Bay) (c : Nat) : (b.waitTick c).now = b.now := by
  simp only [Bay.waitTick]
  repeat' (first | done | split)
  all_goals simp 

@[simp] theorem Bay.x60Tick_now (b : Bay) (a : Nat) (v : Int) : (b.x60Tick a v).now = b.now := by
  simp [Bay.x60Tick]

@[simp] theorem Bay.pulseEdge_now (b : Bay) (c : Nat) : (b.pulseEdge c).now = b.now := by
  unfold Bay.pulseEdge
  repeat' (first | done | simp  | split | intro _ | refine (Bay.each_now (fun b n => ?_) _ _).trans ?_ | refine (Bay.onlyIf_now (fun b => ?_) _ _).trans ?_ | refine (Bay.foldl_now (fun b n => ?_) _ _).trans ?_ | refine Bay.gated_now _ _ ?_)

@[simp] theorem Bay.enterZone_now (b : Bay) (c : Nat) (p : Params) : (b.enterZone c p).now = b.now := by
  unfold Bay.enterZone
  repeat' (first | done | simp  | split | intro _ | refine (Bay.each_now (fun b n => ?_) _ _).trans ?_ | refine (Bay.onlyIf_now (fun b => ?_) _ _).trans ?_ | refine (Bay.foldl_now (fun b n => ?_) _ _).trans ?_ | refine Bay.gated_now _ _ ?_)

@[simp] theorem Bay.testZone_now (b : Bay) (c : Nat) (p : Params) : (b.testZone c p).now = b.now := by
  unfold Bay.testZone
  repeat' (first | done | simp  | split | intro _ | refine (Bay.each_now (fun b n => ?_) _ _).trans ?_ | refine (Bay.onlyIf_now (fun b => ?_) _ _).trans ?_ | refine (Bay.foldl_now (fun b n => ?_) _ _).trans ?_ | refine Bay.gated_now _ _ ?_)

@[simp] theorem Bay.zoneChange_now (b : Bay) (c : Nat) : (b.zoneChange c).now = b.now := by
  unfold Bay.zoneChange
  repeat' (first | done | simp  | split | intro _ | refine (Bay.each_now (fun b n => ?_) _ _).trans ?_ | refine (Bay.onlyIf_now (fun b => ?_) _ _).trans ?_ | refine (Bay.foldl_now (fun b n => ?_) _ _).trans ?_ | refine Bay.gated_now _ _ ?_)

@[simp] theorem Bay.zoneEdge_now (b : Bay) (c : Nat) : (b.zoneEdge c).now = b.now := by
  unfold Bay.zoneEdge
  repeat' (first | done | simp  | split | intro _ | refine (Bay.each_now (fun b n => ?_) _ _).trans ?_ | refine (Bay.onlyIf_now (fun b => ?_) _ _).trans ?_ | refine (Bay.foldl_now (fun b n => ?_) _ _).trans ?_ | refine Bay.gated_now _ _ ?_)

@[simp] theorem Bay.cellTempUpdate_now (b : Bay) (c : Nat) : (b.cellTempUpdate c).now = b.now := by
  simp only [Bay.cellTempUpdate]
  repeat' (first | done | split)
  all_goals simp 

@[simp] theorem Bay.envelopeEdge_now (b : Bay) (c : Nat) : (b.envelopeEdge c).now = b.now := by
  simp [Bay.envelopeEdge]

@[simp] theorem Bay.clampEdge_now (b : Bay) (c : Nat) : (b.clampEdge c).now = b.now := by
  unfold Bay.clampEdge
  repeat' (first | done | simp  | split | intro _ | refine (Bay.each_now (fun b n => ?_) _ _).trans ?_ | refine (Bay.onlyIf_now (fun b => ?_) _ _).trans ?_ | refine (Bay.foldl_now (fun b n => ?_) _ _).trans ?_ | refine Bay.gated_now _ _ ?_)

@[simp] theorem Bay.regStatRead_now (b : Bay) (c : Nat) : (b.regStatRead c).now = b.now := by
  unfold Bay.regStatRead
  repeat' (first | done | simp  | split | intro _ | refine (Bay.each_now (fun b n => ?_) _ _).trans ?_ | refine (Bay.onlyIf_now (fun b => ?_) _ _).trans ?_ | refine (Bay.foldl_now (fun b n => ?_) _ _).trans ?_ | refine Bay.gated_now _ _ ?_)

@[simp] theorem Bay.holdClr_now (b : Bay) (c : Nat) : (b.holdClr c).now = b.now := by
  unfold Bay.holdClr
  repeat' (first | done | simp  | split | intro _ | refine (Bay.each_now (fun b n => ?_) _ _).trans ?_ | refine (Bay.onlyIf_now (fun b => ?_) _ _).trans ?_ | refine (Bay.foldl_now (fun b n => ?_) _ _).trans ?_ | refine Bay.gated_now _ _ ?_)

@[simp] theorem Bay.spaceReturn_now (b : Bay) (c : Nat) : (b.spaceReturn c).now = b.now := by
  simp [Bay.spaceReturn]

@[simp] theorem Bay.cellEndCmd_now (b : Bay) (c : Nat) : (b.cellEndCmd c).now = b.now := by
  simp [Bay.cellEndCmd]

@[simp] theorem Bay.storedEdge_now (b : Bay) (c : Nat) : (b.storedEdge c).now = b.now := by
  simp [Bay.storedEdge]

@[simp] theorem Bay.absentEdge_now (b : Bay) (c : Nat) : (b.absentEdge c).now = b.now := by
  simp [Bay.absentEdge]

@[simp] theorem Bay.rateSelect_now (b : Bay) (x : Sensor) (v : Int) : (b.rateSelect x v).now = b.now := by
  simp only [Bay.rateSelect]
  repeat' (first | done | split)
  all_goals simp 

@[simp] theorem Bay.rateSlow_now (b : Bay) (x : Sensor) : (b.rateSlow x).now = b.now := by
  simp only [Bay.rateSlow]
  repeat' (first | done | split)
  all_goals simp 

@[simp] theorem Bay.logTrip_now (b : Bay) (r : List Byte) : (b.logTrip r).now = b.now := by
  simp [Bay.logTrip]

@[simp] theorem Bay.tripAxis_now (b : Bay) (axis : Option Nat) : (b.tripAxis axis).now = b.now := by
  cases axis with
  | none => rfl
  | some a => exact Bay.stopAxis_now b a

@[simp] theorem Bay.tripStops_now (b : Bay) (axis : Option Nat) : (b.tripStops axis).now = b.now := by
  unfold Bay.tripStops
  repeat' (first | done | simp  | split | intro _ | refine (Bay.each_now (fun b n => ?_) _ _).trans ?_ | refine (Bay.onlyIf_now (fun b => ?_) _ _).trans ?_ | refine (Bay.foldl_now (fun b n => ?_) _ _).trans ?_ | refine Bay.gated_now _ _ ?_)

@[simp] theorem Bay.trip_now (b : Bay) (q cause slot : Nat) (sensor value : Int) (axis : Option Nat) : (b.trip q cause slot sensor value axis).now = b.now := by
  simp [Bay.trip]

@[simp] theorem Bay.untrip_now (b : Bay) (q : Nat) : (b.untrip q).now = b.now := by
  simp [Bay.untrip]

@[simp] theorem Bay.tripLevel_now (b : Bay) (q cause slot : Nat) (sensor value trip clear : Int) (axis : Option Nat) : (b.tripLevel q cause slot sensor value trip clear axis).now = b.now := by
  simp [Bay.tripLevel]

@[simp] theorem Bay.tsdClear_now (b : Bay) : (b.tsdClear).now = b.now := by
  unfold Bay.tsdClear
  repeat' (first | done | simp  | split | intro _ | refine (Bay.each_now (fun b n => ?_) _ _).trans ?_ | refine (Bay.onlyIf_now (fun b => ?_) _ _).trans ?_ | refine (Bay.foldl_now (fun b n => ?_) _ _).trans ?_ | refine Bay.gated_now _ _ ?_)

@[simp] theorem Bay.flowLoss_now (b : Bay) : (b.flowLoss).now = b.now := by
  simp only [Bay.flowLoss]
  repeat' (first | done | split)
  all_goals simp 

@[simp] theorem Bay.coolUpdate_now (b : Bay) : (b.coolUpdate).now = b.now := by
  simp [Bay.coolUpdate]

@[simp] theorem Bay.junctionFrame_now (b : Bay) (c : Nat) : (b.junctionFrame c).now = b.now := by
  simp [Bay.junctionFrame]

@[simp] theorem Bay.derateMark_now (b : Bay) (o : Nat) (f : Int) : (b.derateMark o f).now = b.now := by
  simp [Bay.derateMark]

@[simp] theorem Bay.thermalFrame_now (b : Bay) : (b.thermalFrame).now = b.now := by
  unfold Bay.thermalFrame
  repeat' (first | done | simp  | split | intro _ | refine (Bay.each_now (fun b n => ?_) _ _).trans ?_ | refine (Bay.onlyIf_now (fun b => ?_) _ _).trans ?_ | refine (Bay.foldl_now (fun b n => ?_) _ _).trans ?_ | refine Bay.gated_now _ _ ?_)

@[simp] theorem Bay.throttleEdge_now (b : Bay) : (b.throttleEdge).now = b.now := by
  simp [Bay.throttleEdge]

@[simp] theorem Bay.sensorMark_now (b : Bay) (x : Sensor) (ok : Bool) : (b.sensorMark x ok).now = b.now := by
  simp [Bay.sensorMark]

@[simp] theorem Bay.applyReading_now (b : Bay) (x : Sensor) (v : Int) : (b.applyReading x v).now = b.now := by
  simp only [Bay.applyReading]
  repeat' (first | done | split)
  all_goals simp 

@[simp] theorem Bay.cellReading_now (b : Bay) (c w : Nat) (v : Int) (ok : Bool) : (b.cellReading c w v ok).now = b.now := by
  simp [Bay.cellReading]

@[simp] theorem Bay.readingUsed_now (b : Bay) (x : Sensor) (v : Int) (ok : Bool) : (b.readingUsed x v ok).2.now = b.now := by
  simp only [Bay.readingUsed]; repeat' split
  all_goals simp

@[simp] theorem Bay.tempSample_now (b : Bay) (x : Sensor) (v : Int) (fault : Bool) : (b.tempSample x v fault).now = b.now := by
  unfold Bay.tempSample
  repeat' (first | done | simp  | split | intro _ | refine (Bay.each_now (fun b n => ?_) _ _).trans ?_ | refine (Bay.onlyIf_now (fun b => ?_) _ _).trans ?_ | refine (Bay.foldl_now (fun b n => ?_) _ _).trans ?_ | refine Bay.gated_now _ _ ?_)

@[simp] theorem Bay.compensate_now (b : Bay) : (b.compensate).now = b.now := by
  simp [Bay.compensate]

@[simp] theorem Bay.slotEvent_now (b : Bay) (n : Nat) (what : Int) : (b.slotEvent n what).now = b.now := by
  simp [Bay.slotEvent]

@[simp] theorem Bay.refuseRelease_now (b : Bay) (n : Nat) : (b.refuseRelease n).now = b.now := by
  simp [Bay.refuseRelease]

@[simp] theorem Bay.askHandover_now (b : Bay) (x : Nat) : (b.askHandover x).now = b.now := by
  simp [Bay.askHandover]

@[simp] theorem Bay.dropMeterEntry_now (b : Bay) : (b.dropMeterEntry).now = b.now := by
  simp [Bay.dropMeterEntry]

@[simp] theorem Bay.startRelease_now (b : Bay) (n : Nat) : (b.startRelease n).now = b.now := by
  simp [Bay.startRelease]

@[simp] theorem Bay.releaseEdge_now (b : Bay) (n : Nat) : (b.releaseEdge n).now = b.now := by
  simp [Bay.releaseEdge]

@[simp] theorem Bay.afterRelease_now (b : Bay) (n : Nat) : (b.afterRelease n).now = b.now := by
  simp [Bay.afterRelease]

@[simp] theorem Bay.removeEhc_now (b : Bay) (x : Nat) (key : Bool) : (b.removeEhc x key).now = b.now := by
  simp [Bay.removeEhc]

@[simp] theorem Bay.thermGone_now (b : Bay) (n : Nat) : (b.thermGone n).now = b.now := by
  unfold Bay.thermGone
  repeat' (first | done | simp  | split | intro _ | refine (Bay.each_now (fun b n => ?_) _ _).trans ?_ | refine (Bay.onlyIf_now (fun b => ?_) _ _).trans ?_ | refine (Bay.foldl_now (fun b n => ?_) _ _).trans ?_ | refine Bay.gated_now _ _ ?_)

@[simp] theorem Bay.freshWale_now (b : Bay) (n : Nat) : (b.freshWale n).now = b.now := by
  unfold Bay.freshWale
  repeat' (first | done | simp  | split | intro _ | refine (Bay.each_now (fun b n => ?_) _ _).trans ?_ | refine (Bay.onlyIf_now (fun b => ?_) _ _).trans ?_ | refine (Bay.foldl_now (fun b n => ?_) _ _).trans ?_ | refine Bay.gated_now _ _ ?_)

@[simp] theorem Bay.removeWale_now (b : Bay) (n : Nat) : (b.removeWale n).now = b.now := by
  simp [Bay.removeWale]

@[simp] theorem Bay.freshAxes_now (b : Bay) (st : Int) : (b.freshAxes st).now = b.now := by
  simp [Bay.freshAxes]

@[simp] theorem Bay.removeEhx_now (b : Bay) : (b.removeEhx).now = b.now := by
  simp [Bay.removeEhx]

@[simp] theorem Bay.removeEhm_now (b : Bay) : (b.removeEhm).now = b.now := by
  simp [Bay.removeEhm]

@[simp] theorem Bay.removeFrom_now (b : Bay) (n : Nat) : (b.removeFrom n).now = b.now := by
  simp [Bay.removeFrom]

@[simp] theorem Bay.insertEhc_now (b : Bay) (x : Nat) (ours se : Bool) (svnMin pref : Nat) : (b.insertEhc x ours se svnMin pref).now = b.now := by
  unfold Bay.insertEhc
  extract_lets t b1 b2 bj src b3 b4
  have h2 : b2.now = b.now := by simp [b2, b1]
  split
  · refine (Bay.onlyIf_now (fun b => Bay.selfFault_now b _ _) _ _).trans ?_
    simp [bj, h2]
  · have hs : src.now = b2.now := Bay.each_now (fun b n => by simp) _ _
    have h3 : b3.now = b2.now := by
      simp only [b3, Bay.ite_now, hs, ite_self]
    have h4 : b4.now = b3.now := Bay.onlyIf_now (fun b => Bay.setTrust_now b _) _ _
    exact (Bay.onlyIf_now (fun b => Bay.startBoot_now b _) _ _).trans (h4.trans (h3.trans h2))

@[simp] theorem Bay.insertEhm_now (b : Bay) (l : List Byte) (serial : Nat) : (b.insertEhm l serial).now = b.now := by
  simp [Bay.insertEhm]

@[simp] theorem Bay.insertEhs_now (b : Bay) (w next seq : Nat) : (b.insertEhs w next seq).now = b.now := by
  simp [Bay.insertEhs]

@[simp] theorem Bay.insertEhx_now (b : Bay) : b.insertEhx.now = b.now := by
  simp [Bay.insertEhx]

@[simp] theorem Bay.insertInto_now (b : Bay) (n : Nat) (c : Cartridge) (code : Int) : (b.insertInto n c code).now = b.now := by
  have h : (((b.setLatch n {}).wr (slotKey n) code).onlyIf (b.mode != 0) (fun b => b.slotEvent n 1)).now = b.now :=
    (Bay.onlyIf_now (fun b => Bay.slotEvent_now b _ _) _ _).trans rfl
  cases c with
  | blank => exact h
  | ehc ours se svn pref => exact (Bay.insertEhc_now _ _ _ _ _ _).trans h
  | ehs _ next seq => exact (Bay.insertEhs_now _ _ _ _).trans h
  | ehx => exact (Bay.insertEhx_now _).trans h
  | ehm cert serial => exact (Bay.insertEhm_now _ _ _).trans h

@[simp] theorem Bay.limitEdge_now (b : Bay) : (b.limitEdge).now = b.now := by
  simp [Bay.limitEdge]

@[simp] theorem Bay.chassisEdge_now (b : Bay) : (b.chassisEdge).now = b.now := by
  simp [Bay.chassisEdge]

@[simp] theorem Bay.feedEvent_now (b : Bay) (binding : Bool) : (b.feedEvent binding).now = b.now := by
  simp [Bay.feedEvent]

@[simp] theorem Bay.allocate_now (b : Bay) : b.allocate.now = b.now := by
  unfold Bay.allocate
  extract_lets b1 _ _ _ _ _ _ _ _ b2
  refine (Bay.foldl_now (fun b n => ?_) _ _).trans ?_
  · rfl
  · have h2 : b2.now = b1.now := Bay.feedEvent_now _ _
    have h1 : b1.now = b.now := Bay.each_now (fun b n => by dsimp only; split <;> rfl) _ _
    exact h2.trans h1

@[simp] theorem Bay.waleGovern_now (b : Bay) (n : Nat) : (b.waleGovern n).now = b.now := by
  simp [Bay.waleGovern]

@[simp] theorem Bay.spendDonation_now (b : Bay) (c : Nat) (nC : Int) : (b.spendDonation c nC).now = b.now := by
  simp [Bay.spendDonation]

@[simp] theorem Bay.capFollows_now (b : Bay) (h : Nat) (bud : Int) : (b.capFollows h bud).now = b.now := by
  simp [Bay.capFollows]

@[simp] theorem Bay.budgets_now (b : Bay) : (b.budgets).now = b.now := by
  simp [Bay.budgets]

@[simp] theorem Bay.sampleLost_now (b : Bay) (n : Nat) (unequal : Bool) : (b.sampleLost n unequal).now = b.now := by
  simp [Bay.sampleLost]

@[simp] theorem Bay.fallSilent_now (b : Bay) (n : Nat) : (b.fallSilent n).now = b.now := by
  unfold Bay.fallSilent
  repeat' (first | done | simp  | split | intro _ | refine (Bay.each_now (fun b n => ?_) _ _).trans ?_ | refine (Bay.onlyIf_now (fun b => ?_) _ _).trans ?_ | refine (Bay.foldl_now (fun b n => ?_) _ _).trans ?_ | refine Bay.gated_now _ _ ?_)

@[simp] theorem Bay.countMiss_now (b : Bay) (n : Nat) (missed : Bool) : (b.countMiss n missed).now = b.now := by
  unfold Bay.countMiss
  repeat' (first | done | simp  | split | intro _ | refine (Bay.each_now (fun b n => ?_) _ _).trans ?_ | refine (Bay.onlyIf_now (fun b => ?_) _ _).trans ?_ | refine (Bay.foldl_now (fun b n => ?_) _ _).trans ?_ | refine Bay.gated_now _ _ ?_)

@[simp] theorem Bay.applyWale_now (b : Bay) (n : Nat) : (b.applyWale n).now = b.now := by
  unfold Bay.applyWale
  repeat' (first | done | simp  | split | intro _ | refine (Bay.each_now (fun b n => ?_) _ _).trans ?_ | refine (Bay.onlyIf_now (fun b => ?_) _ _).trans ?_ | refine (Bay.foldl_now (fun b n => ?_) _ _).trans ?_ | refine Bay.gated_now _ _ ?_)

@[simp] theorem Bay.repeatWale_now (b : Bay) (n : Nat) : (b.repeatWale n).now = b.now := by
  unfold Bay.repeatWale
  repeat' (first | done | simp  | split | intro _ | refine (Bay.each_now (fun b n => ?_) _ _).trans ?_ | refine (Bay.onlyIf_now (fun b => ?_) _ _).trans ?_ | refine (Bay.foldl_now (fun b n => ?_) _ _).trans ?_ | refine Bay.gated_now _ _ ?_)

@[simp] theorem Bay.applyAxes_now (b : Bay) : (b.applyAxes).now = b.now := by
  unfold Bay.applyAxes
  repeat' (first | done | simp  | split | intro _ | refine (Bay.each_now (fun b n => ?_) _ _).trans ?_ | refine (Bay.onlyIf_now (fun b => ?_) _ _).trans ?_ | refine (Bay.foldl_now (fun b n => ?_) _ _).trans ?_ | refine Bay.gated_now _ _ ?_)

@[simp] theorem Bay.acceptFrame_now (b : Bay) (n role seq t j : Nat) : (b.acceptFrame n role seq t j).now = b.now := by
  unfold Bay.acceptFrame
  repeat' (first | done | simp  | split | intro _ | refine (Bay.each_now (fun b n => ?_) _ _).trans ?_ | refine (Bay.onlyIf_now (fun b => ?_) _ _).trans ?_ | refine (Bay.foldl_now (fun b n => ?_) _ _).trans ?_ | refine Bay.gated_now _ _ ?_)

@[simp] theorem Bay.secondMiss_now (b : Bay) (n : Nat) (suspect : Bool) : (b.secondMiss n suspect).now = b.now := by
  unfold Bay.secondMiss
  repeat' (first | done | simp  | split | intro _ | refine (Bay.each_now (fun b n => ?_) _ _).trans ?_ | refine (Bay.onlyIf_now (fun b => ?_) _ _).trans ?_ | refine (Bay.foldl_now (fun b n => ?_) _ _).trans ?_ | refine Bay.gated_now _ _ ?_)

@[simp] theorem Bay.holderMissed_now (b : Bay) (n count : Nat) (suspect : Bool) : (b.holderMissed n count suspect).now = b.now := by
  simp [Bay.holderMissed]

@[simp] theorem Bay.candRules_now (b : Bay) (n role seq : Nat) : (b.candRules n role seq).now = b.now := by
  unfold Bay.candRules
  repeat' (first | done | simp  | split | intro _ | refine (Bay.each_now (fun b n => ?_) _ _).trans ?_ | refine (Bay.onlyIf_now (fun b => ?_) _ _).trans ?_ | refine (Bay.foldl_now (fun b n => ?_) _ _).trans ?_ | refine Bay.gated_now _ _ ?_)

@[simp] theorem Bay.stageStops_now (b : Bay) (n : Nat) : (b.stageStops n).now = b.now := by
  simp [Bay.stageStops]

@[simp] theorem Bay.loopDone_now (b : Bay) (o : Nat) (k : MissKind) : (b.loopDone o k).now = b.now := by
  unfold Bay.loopDone
  repeat' (first | done | simp  | split | intro _ | refine (Bay.each_now (fun b n => ?_) _ _).trans ?_ | refine (Bay.onlyIf_now (fun b => ?_) _ _).trans ?_ | refine (Bay.foldl_now (fun b n => ?_) _ _).trans ?_ | refine Bay.gated_now _ _ ?_)

@[simp] theorem Bay.closeLoops_now (b : Bay) (missed : List (Nat × MissKind)) : (b.closeLoops missed).now = b.now := by
  unfold Bay.closeLoops
  repeat' (first | done | simp  | split | intro _ | refine (Bay.each_now (fun b n => ?_) _ _).trans ?_ | refine (Bay.onlyIf_now (fun b => ?_) _ _).trans ?_ | refine (Bay.foldl_now (fun b n => ?_) _ _).trans ?_ | refine Bay.gated_now _ _ ?_)

@[simp] theorem Bay.engStart_now (b : Bay) (c at_ : Nat) : (b.engStart c at_).now = b.now := by
  simp only [Bay.engStart]
  repeat' (first | done | split)
  all_goals simp 

@[simp] theorem Bay.giveCommand_now (b : Bay) (c t : Nat) (x : HostEng) : (b.giveCommand c t x).now = b.now := by
  cases x <;> simp [Bay.giveCommand]

@[simp] theorem Bay.engCtl_now (b : Bay) (c : Nat) (k : Key) (x : HostEng) : (b.engCtl c k x).now = b.now := by
  unfold Bay.engCtl
  repeat' (first | done | simp  | split | intro _ | refine (Bay.each_now (fun b n => ?_) _ _).trans ?_ | refine (Bay.onlyIf_now (fun b => ?_) _ _).trans ?_ | refine (Bay.foldl_now (fun b n => ?_) _ _).trans ?_ | refine Bay.gated_now _ _ ?_)

@[simp] theorem Bay.hsig_now (b : Bay) (c : Nat) : (b.hsig c).now = b.now := by
  unfold Bay.hsig
  repeat' (first | done | simp  | split | intro _ | refine (Bay.each_now (fun b n => ?_) _ _).trans ?_ | refine (Bay.onlyIf_now (fun b => ?_) _ _).trans ?_ | refine (Bay.foldl_now (fun b n => ?_) _ _).trans ?_ | refine Bay.gated_now _ _ ?_)

@[simp] theorem Bay.frzRead_now (b : Bay) (c : Nat) : (b.frzRead c).now = b.now := by
  simp [Bay.frzRead]

@[simp] theorem Bay.scmd_now (b : Bay) (k : Key) (x : HostEng) : (b.scmd k x).now = b.now := by
  unfold Bay.scmd
  repeat' (first | done | simp  | split | intro _ | refine (Bay.each_now (fun b n => ?_) _ _).trans ?_ | refine (Bay.onlyIf_now (fun b => ?_) _ _).trans ?_ | refine (Bay.foldl_now (fun b n => ?_) _ _).trans ?_ | refine Bay.gated_now _ _ ?_)

@[simp] theorem Bay.hostCommand_now (b : Bay) (c : Nat) (x : HostEng) : (b.hostCommand c x).now = b.now := by
  unfold Bay.hostCommand
  repeat' (first | done | simp  | split | intro _ | refine (Bay.each_now (fun b n => ?_) _ _).trans ?_ | refine (Bay.onlyIf_now (fun b => ?_) _ _).trans ?_ | refine (Bay.foldl_now (fun b n => ?_) _ _).trans ?_ | refine Bay.gated_now _ _ ?_)

@[simp] theorem Bay.hostEngEdge_now (b : Bay) (c : Nat) : (b.hostEngEdge c).now = b.now := by
  unfold Bay.hostEngEdge
  repeat' (first | done | simp  | split | intro _ | refine (Bay.each_now (fun b n => ?_) _ _).trans ?_ | refine (Bay.onlyIf_now (fun b => ?_) _ _).trans ?_ | refine (Bay.foldl_now (fun b n => ?_) _ _).trans ?_ | refine Bay.gated_now _ _ ?_)

@[simp] theorem Bay.clearEngine_now (b : Bay) (c : Nat) : (b.clearEngine c).now = b.now := by
  unfold Bay.clearEngine
  repeat' (first | done | simp  | split | intro _ | refine (Bay.each_now (fun b n => ?_) _ _).trans ?_ | refine (Bay.onlyIf_now (fun b => ?_) _ _).trans ?_ | refine (Bay.foldl_now (fun b n => ?_) _ _).trans ?_ | refine Bay.gated_now _ _ ?_)

@[simp] theorem Bay.groupBit_now (b : Bay) (c : Nat) : (b.groupBit c).now = b.now := by
  simp [Bay.groupBit]

@[simp] theorem Bay.endGeneration_now (b : Bay) (g : Nat) (last : Int) : (b.endGeneration g last).now = b.now := by
  unfold Bay.endGeneration
  repeat' (first | done | simp  | split | intro _ | refine (Bay.each_now (fun b n => ?_) _ _).trans ?_ | refine (Bay.onlyIf_now (fun b => ?_) _ _).trans ?_ | refine (Bay.foldl_now (fun b n => ?_) _ _).trans ?_ | refine Bay.gated_now _ _ ?_)

@[simp] theorem Bay.breakGroup_now (b : Bay) (g ts : Nat) (mismatch : Bool) : (b.breakGroup g ts mismatch).now = b.now := by
  simp [Bay.breakGroup]

@[simp] theorem Bay.breakHere_now (b : Bay) (g : Nat) (mismatch : Bool) : (b.breakHere g mismatch).now = b.now := by
  simp [Bay.breakHere]

@[simp] theorem Bay.groupAbort_now (b : Bay) (g : Nat) : (b.groupAbort g).now = b.now := by
  simp [Bay.groupAbort]

@[simp] theorem Bay.breakEdge_now (b : Bay) (g : Nat) : (b.breakEdge g).now = b.now := by
  unfold Bay.breakEdge
  repeat' (first | done | simp  | split | intro _ | refine (Bay.each_now (fun b n => ?_) _ _).trans ?_ | refine (Bay.onlyIf_now (fun b => ?_) _ _).trans ?_ | refine (Bay.foldl_now (fun b n => ?_) _ _).trans ?_ | refine Bay.gated_now _ _ ?_)

@[simp] theorem Bay.remoteArrival_now (b : Bay) (g : Nat) (gen : Int) (stake chan ts : Nat) (cnt : Int) : (b.remoteArrival g gen stake chan ts cnt).now = b.now := by
  simp only [Bay.remoteArrival]
  repeat' (first | done | split)
  all_goals simp 

@[simp] theorem Bay.hostStep_now (b : Bay) (c : Nat) (p : Params) (modeWritten modeChanged : Bool) : (b.hostStep c p modeWritten modeChanged).now = b.now := by
  simp [Bay.hostStep]

@[simp] theorem Bay.tgtCommit_now (b : Bay) (due : List Shadow) (c : Nat) : (b.tgtCommit due c).now = b.now := by
  unfold Bay.tgtCommit
  repeat' (first | done | simp  | split | intro _ | refine (Bay.each_now (fun b n => ?_) _ _).trans ?_ | refine (Bay.onlyIf_now (fun b => ?_) _ _).trans ?_ | refine (Bay.foldl_now (fun b n => ?_) _ _).trans ?_ | refine Bay.gated_now _ _ ?_)

@[simp] theorem Bay.commitEdgeAll_now (b : Bay) : (b.commitEdgeAll).now = b.now := by
  unfold Bay.commitEdgeAll
  repeat' (first | done | simp  | split | intro _ | refine (Bay.each_now (fun b n => ?_) _ _).trans ?_ | refine (Bay.onlyIf_now (fun b => ?_) _ _).trans ?_ | refine (Bay.foldl_now (fun b n => ?_) _ _).trans ?_ | refine Bay.gated_now _ _ ?_)

@[simp] theorem Bay.hostCeases_now (b : Bay) (c : Nat) : (b.hostCeases c).now = b.now := by
  simp [Bay.hostCeases]

@[simp] theorem Bay.latchMode_now (b : Bay) (c : Nat) (m : Int) (leg : Option Int) : (b.latchMode c m leg).now = b.now := by
  simp [Bay.latchMode]

@[simp] theorem Bay.latchStep_now (b : Bay) (c : Nat) (id i : Int) : (b.latchStep c id i).now = b.now := by
  simp only [Bay.latchStep]
  repeat' (first | done | split)
  all_goals simp 

@[simp] theorem Bay.latchTargets_now (b : Bay) (c : Nat) (cmds : List EngCmd) : (b.latchTargets c cmds).now = b.now := by
  simp [Bay.latchTargets]

@[simp] theorem Bay.latchRamp_now (b : Bay) (c : Nat) (cmds : List EngCmd) (was : Int) (fresh : Bool) : (b.latchRamp c cmds was fresh).now = b.now := by
  simp only [Bay.latchRamp]
  repeat' (first | done | split)
  all_goals simp 

@[simp] theorem Bay.latchOther_now (b : Bay) (c : Nat) (x : EngCmd) : (b.latchOther c x).now = b.now := by
  cases x <;> simp [Bay.latchOther]
  split <;> simp

@[simp] theorem Bay.latchEngine_now (b : Bay) (c : Nat) : (b.latchEngine c).now = b.now := by
  unfold Bay.latchEngine
  repeat' (first | done | simp  | split | intro _ | refine (Bay.each_now (fun b n => ?_) _ _).trans ?_ | refine (Bay.onlyIf_now (fun b => ?_) _ _).trans ?_ | refine (Bay.foldl_now (fun b n => ?_) _ _).trans ?_ | refine Bay.gated_now _ _ ?_)

@[simp] theorem Bay.accEdge_now (b : Bay) (c : Nat) : (b.accEdge c).now = b.now := by
  simp [Bay.accEdge]

@[simp] theorem Bay.evBitsEdge_now (b : Bay) : (b.evBitsEdge).now = b.now := by
  unfold Bay.evBitsEdge
  repeat' (first | done | simp  | split | intro _ | refine (Bay.each_now (fun b n => ?_) _ _).trans ?_ | refine (Bay.onlyIf_now (fun b => ?_) _ _).trans ?_ | refine (Bay.foldl_now (fun b n => ?_) _ _).trans ?_ | refine Bay.gated_now _ _ ?_)

@[simp] theorem Bay.evtReg_now (b : Bay) (c : Nat) : (b.evtReg c).now = b.now := by
  simp [Bay.evtReg]

@[simp] theorem Bay.engineEdge_now (b : Bay) (c : Nat) : (b.engineEdge c).now = b.now := by
  simp [Bay.engineEdge]

@[simp] theorem Bay.setScrub_now (b : Bay) (x : Nat) (p : Option Scrub) : (b.setScrub x p).now = b.now := by
  simp [Bay.setScrub]

@[simp] theorem Bay.scrubSeen_now (b : Bay) (x a : Nat) : (b.scrubSeen x a).now = b.now := by
  simp [Bay.scrubSeen]

@[simp] theorem Bay.scrubRep_now (b : Bay) (x : Nat) : (b.scrubRep x).now = b.now := by
  simp [Bay.scrubRep]

@[simp] theorem Bay.cntClear_now (b : Bay) (x : Nat) : (b.cntClear x).now = b.now := by
  unfold Bay.cntClear
  repeat' (first | done | simp  | split | intro _ | refine (Bay.each_now (fun b n => ?_) _ _).trans ?_ | refine (Bay.onlyIf_now (fun b => ?_) _ _).trans ?_ | refine (Bay.foldl_now (fun b n => ?_) _ _).trans ?_ | refine Bay.gated_now _ _ ?_)

@[simp] theorem Bay.dmaRestart_now (b : Bay) (x mask : Nat) : (b.dmaRestart x mask).now = b.now := by
  simp [Bay.dmaRestart]

@[simp] theorem Bay.posReg_now (b : Bay) (p : Nat) : (b.posReg p).now = b.now := by
  simp [Bay.posReg]

@[simp] theorem Bay.posFault_now (b : Bay) (p code : Nat) (detail : Int) : (b.posFault p code detail).now = b.now := by
  simp [Bay.posFault]

@[simp] theorem Bay.fifoRegs_now (b : Bay) (p : Nat) : (b.fifoRegs p).now = b.now := by
  simp only [Bay.fifoRegs]
  repeat' (first | done | split)
  all_goals simp 

@[simp] theorem Bay.takeHits_now (n : Nat) (b : Bay) (p : Nat) (old new : Int) (t : Nat) (force : Int) (multi : Bool) :
    (b.takeHits p old new t force multi n).now = b.now := by
  induction n generalizing b with
  | zero => rfl
  | succ n ih =>
    simp only [Bay.takeHits]; split
    · rw [ih]; repeat' (first | done | simp | split)
    · rfl

@[simp] theorem Bay.compareMove_now (b : Bay) (p : Nat) (old new : Int) (t : Nat) (force : Int) : (b.compareMove p old new t force).now = b.now := by
  unfold Bay.compareMove
  repeat' (first | done | simp  | split | intro _ | refine (Bay.each_now (fun b n => ?_) _ _).trans ?_ | refine (Bay.onlyIf_now (fun b => ?_) _ _).trans ?_ | refine (Bay.foldl_now (fun b n => ?_) _ _).trans ?_ | refine Bay.gated_now _ _ ?_)

@[simp] theorem Bay.skipMove_now (b : Bay) (p : Nat) (old new : Int) : (b.skipMove p old new).now = b.now := by
  simp [Bay.skipMove]

@[simp] theorem Bay.moveCount_now (b : Bay) (p : Nat) (k : Int) : (b.moveCount p k).now = b.now := by
  simp [Bay.moveCount]

@[simp] theorem Bay.clearWin_now (b : Bay) (p : Nat) : (b.clearWin p).now = b.now := by
  simp [Bay.clearWin]

@[simp] theorem Bay.countEdge_now (b : Bay) (p : Nat) (d : Int) : (b.countEdge p d).now = b.now := by
  simp [Bay.countEdge]

@[simp] theorem Bay.gapPassage_now (b : Bay) (p : Nat) (d : Int) : (b.gapPassage p d).now = b.now := by
  simp [Bay.gapPassage]

@[simp] theorem Bay.leadEdge_now (b : Bay) (p t4 : Nat) (d : Int) (turned : Bool) : (b.leadEdge p t4 d turned).now = b.now := by
  simp only [Bay.leadEdge]
  repeat' (first | done | split)
  all_goals simp 

@[simp] theorem Bay.spdReg_now (b : Bay) (p : Nat) : (b.spdReg p).now = b.now := by
  simp [Bay.spdReg]

@[simp] theorem Bay.edgeSpeed_now (b : Bay) (p t4 : Nat) (turned : Bool) : (b.edgeSpeed p t4 turned).now = b.now := by
  simp only [Bay.edgeSpeed]
  repeat' (first | done | split)
  all_goals simp 

@[simp] theorem Bay.showX34_now (b : Bay) : (b.showX34).now = b.now := by
  unfold Bay.showX34
  repeat' (first | done | simp  | split | intro _ | refine (Bay.each_now (fun b n => ?_) _ _).trans ?_ | refine (Bay.onlyIf_now (fun b => ?_) _ _).trans ?_ | refine (Bay.foldl_now (fun b n => ?_) _ _).trans ?_ | refine Bay.gated_now _ _ ?_)

@[simp] theorem Bay.lineMove_now (b : Bay) (p : Nat) (onA onB : Bool) : (b.lineMove p onA onB).now = b.now := by
  unfold Bay.lineMove
  repeat' (first | done | simp  | split | intro _ | refine (Bay.each_now (fun b n => ?_) _ _).trans ?_ | refine (Bay.onlyIf_now (fun b => ?_) _ _).trans ?_ | refine (Bay.foldl_now (fun b n => ?_) _ _).trans ?_ | refine Bay.gated_now _ _ ?_)

@[simp] theorem Bay.toothEdge_now (b : Bay) (p : Nat) (fwd onA lead : Bool) (t4 : Nat) (force : Int) : (b.toothEdge p fwd onA lead t4 force).now = b.now := by
  simp only [Bay.toothEdge]
  repeat' (first | done | split)
  all_goals simp 

@[simp] theorem Bay.ssiBad_now (b : Bay) (p ty : Nat) : (b.ssiBad p ty).now = b.now := by
  simp [Bay.ssiBad]

@[simp] theorem Bay.ssiGood_now (b : Bay) (p : Nat) (turns st : Int) (t : Nat) (force : Int) : (b.ssiGood p turns st t force).now = b.now := by
  unfold Bay.ssiGood
  repeat' (first | done | simp  | split | intro _ | refine (Bay.each_now (fun b n => ?_) _ _).trans ?_ | refine (Bay.onlyIf_now (fun b => ?_) _ _).trans ?_ | refine (Bay.foldl_now (fun b n => ?_) _ _).trans ?_ | refine Bay.gated_now _ _ ?_)

@[simp] theorem Bay.ssiWord_now (b : Bay) (p w : Nat) (timedOut : Bool) (t : Nat) (force : Int) : (b.ssiWord p w timedOut t force).now = b.now := by
  unfold Bay.ssiWord
  repeat' (first | done | simp  | split | intro _ | refine (Bay.each_now (fun b n => ?_) _ _).trans ?_ | refine (Bay.onlyIf_now (fun b => ?_) _ _).trans ?_ | refine (Bay.foldl_now (fun b n => ?_) _ _).trans ?_ | refine Bay.gated_now _ _ ?_)

@[simp] theorem Bay.hitRead_now (b : Bay) (p : Nat) : (b.hitRead p).now = b.now := by
  simp [Bay.hitRead]

@[simp] theorem Bay.ptEdge_now (b : Bay) : (b.ptEdge).now = b.now := by
  simp [Bay.ptEdge]

@[simp] theorem Bay.posReport_now (b : Bay) (p : Nat) : (b.posReport p).now = b.now := by
  unfold Bay.posReport
  repeat' (first | done | simp  | split | intro _ | refine (Bay.each_now (fun b n => ?_) _ _).trans ?_ | refine (Bay.onlyIf_now (fun b => ?_) _ _).trans ?_ | refine (Bay.foldl_now (fun b n => ?_) _ _).trans ?_ | refine Bay.gated_now _ _ ?_)

@[simp] theorem Bay.overSpan_now (b : Bay) (c : Nat) (v i : Int) : (b.overSpan c v i).now = b.now := by
  simp [Bay.overSpan]

@[simp] theorem Bay.showOnTime_now (b : Bay) (c : Nat) : (b.showOnTime c).now = b.now := by
  unfold Bay.showOnTime
  repeat' (first | done | simp  | split | intro _ | refine (Bay.each_now (fun b n => ?_) _ _).trans ?_ | refine (Bay.onlyIf_now (fun b => ?_) _ _).trans ?_ | refine (Bay.foldl_now (fun b n => ?_) _ _).trans ?_ | refine Bay.gated_now _ _ ?_)

@[simp] theorem Bay.sampleRegs_now (b : Bay) (c : Nat) (x : ChanSample) (v i : Int) : (b.sampleRegs c x v i).now = b.now := by
  simp [Bay.sampleRegs]

@[simp] theorem Bay.keepHistory_now (b : Bay) (c : Nat) (v i : Int) : (b.keepHistory c v i).now = b.now := by
  simp [Bay.keepHistory]

@[simp] theorem Bay.takeSums_now (b : Bay) (c : Nat) : (b.takeSums c).now = b.now := by
  unfold Bay.takeSums
  repeat' (first | done | simp  | split | intro _ | refine (Bay.each_now (fun b n => ?_) _ _).trans ?_ | refine (Bay.onlyIf_now (fun b => ?_) _ _).trans ?_ | refine (Bay.foldl_now (fun b n => ?_) _ _).trans ?_ | refine Bay.gated_now _ _ ?_)

@[simp] theorem Bay.sumsArrive_now (b : Bay) (c : Nat) : (b.sumsArrive c).now = b.now := by
  unfold Bay.sumsArrive
  repeat' (first | done | simp  | split | intro _ | refine (Bay.each_now (fun b n => ?_) _ _).trans ?_ | refine (Bay.onlyIf_now (fun b => ?_) _ _).trans ?_ | refine (Bay.foldl_now (fun b n => ?_) _ _).trans ?_ | refine Bay.gated_now _ _ ?_)

@[simp] theorem Bay.accumulate_now (b : Bay) (c : Nat) (v i : Int) : (b.accumulate c v i).now = b.now := by
  simp [Bay.accumulate]

@[simp] theorem Bay.addMeans_now (b : Bay) (c : Nat) (v i : Int) : (b.addMeans c v i).now = b.now := by
  unfold Bay.addMeans
  repeat' (first | done | simp  | split | intro _ | refine (Bay.each_now (fun b n => ?_) _ _).trans ?_ | refine (Bay.onlyIf_now (fun b => ?_) _ _).trans ?_ | refine (Bay.foldl_now (fun b n => ?_) _ _).trans ?_ | refine Bay.gated_now _ _ ?_)

@[simp] theorem Bay.takeSample_now (b : Bay) (x : ChanSample) : (b.takeSample x).now = b.now := by
  unfold Bay.takeSample
  repeat' (first | done | simp  | split | intro _ | refine (Bay.each_now (fun b n => ?_) _ _).trans ?_ | refine (Bay.onlyIf_now (fun b => ?_) _ _).trans ?_ | refine (Bay.foldl_now (fun b n => ?_) _ _).trans ?_ | refine Bay.gated_now _ _ ?_)

@[simp] theorem Bay.takeSection_now (b : Bay) (x : SecSample) : (b.takeSection x).now = b.now := by
  simp [Bay.takeSection]

@[simp] theorem Bay.takeForce_now (b : Bay) (a : Nat) (f : Int) : (b.takeForce a f).now = b.now := by
  unfold Bay.takeForce
  repeat' (first | done | simp  | split | intro _ | refine (Bay.each_now (fun b n => ?_) _ _).trans ?_ | refine (Bay.onlyIf_now (fun b => ?_) _ _).trans ?_ | refine (Bay.foldl_now (fun b n => ?_) _ _).trans ?_ | refine Bay.gated_now _ _ ?_)

@[simp] theorem Bay.takeAxis_now (b : Bay) (x : AxisSample) : (b.takeAxis x).now = b.now := by
  unfold Bay.takeAxis
  repeat' (first | done | simp  | split | intro _ | refine (Bay.each_now (fun b n => ?_) _ _).trans ?_ | refine (Bay.onlyIf_now (fun b => ?_) _ _).trans ?_ | refine (Bay.foldl_now (fun b n => ?_) _ _).trans ?_ | refine Bay.gated_now _ _ ?_)

@[simp] theorem Bay.takePlant_now (b : Bay) (i : FrameIn) : (b.takePlant i).now = b.now := by
  unfold Bay.takePlant
  repeat' (first | done | simp  | split | intro _ | refine (Bay.each_now (fun b n => ?_) _ _).trans ?_ | refine (Bay.onlyIf_now (fun b => ?_) _ _).trans ?_ | refine (Bay.foldl_now (fun b n => ?_) _ _).trans ?_ | refine Bay.gated_now _ _ ?_)

@[simp] theorem Bay.takeOven_now (b : Bay) (o : Option (Int × Bool)) : (b.takeOven o).now = b.now := by
  simp only [Bay.takeOven]
  repeat' (first | done | split)
  all_goals simp 

@[simp] theorem Bay.takeSamples_now (b : Bay) (i : FrameIn) : (b.takeSamples i).now = b.now := by
  simp [Bay.takeSamples]

@[simp] theorem Bay.marksEdge_now (b : Bay) (c : Nat) : (b.marksEdge c).now = b.now := by
  simp [Bay.marksEdge]

@[simp] theorem Bay.sweepLimits_now (b : Bay) (c : Nat) : (b.sweepLimits c).now = b.now := by
  simp [Bay.sweepLimits]

@[simp] theorem Bay.rwlEdge_now (b : Bay) : (b.rwlEdge).now = b.now := by
  unfold Bay.rwlEdge
  repeat' (first | done | simp  | split | intro _ | refine (Bay.each_now (fun b n => ?_) _ _).trans ?_ | refine (Bay.onlyIf_now (fun b => ?_) _ _).trans ?_ | refine (Bay.foldl_now (fun b n => ?_) _ _).trans ?_ | refine Bay.gated_now _ _ ?_)

@[simp] theorem Bay.commitPhase_now (b : Bay) : (b.commitPhase).now = b.now := by
  simp [Bay.commitPhase]

@[simp] theorem Bay.latchPhase_now (b : Bay) : (b.latchPhase).now = b.now := by
  simp [Bay.latchPhase]

@[simp] theorem Bay.modePhase_now (b : Bay) : b.modePhase.now = b.now := by
  unfold Bay.modePhase
  extract_lets b1 b2 b3
  have h1 : b1.now = b.now := (Bay.quarantineEdge_now _).trans (Bay.modeEdge_now _)
  have h2 : b2.now = b1.now := Bay.onlyIf_now (fun b => Bay.setFree_now b _) _ _
  have h3 : b3.now = b2.now := Bay.each_now (fun b n => Bay.hostCeases_now b n) _ _
  exact (Bay.runsEdge_now _).trans ((Bay.onlyIf_now (fun b => Bay.setModeSt_now b _) _ _).trans (h3.trans (h2.trans h1)))

@[simp] theorem Bay.restEdge_now (b : Bay) (c : Nat) : (b.restEdge c).now = b.now := by
  simp [Bay.restEdge]

@[simp] theorem Bay.peakEdge_now (b : Bay) (c : Nat) : (b.peakEdge c).now = b.now := by
  unfold Bay.peakEdge
  repeat' (first | done | simp  | split | intro _ | refine (Bay.each_now (fun b n => ?_) _ _).trans ?_ | refine (Bay.onlyIf_now (fun b => ?_) _ _).trans ?_ | refine (Bay.foldl_now (fun b n => ?_) _ _).trans ?_ | refine Bay.gated_now _ _ ?_)

@[simp] theorem Bay.chanEdge_now (b : Bay) (c : Nat) : (b.chanEdge c).now = b.now := by
  simp [Bay.chanEdge]

@[simp] theorem Bay.brakeEdge_now (b : Bay) (a : Nat) : (b.brakeEdge a).now = b.now := by
  simp only [Bay.brakeEdge]
  repeat' (first | done | split)
  all_goals simp 

@[simp] theorem Bay.modulate_now (b : Bay) (a : Nat) : (b.modulate a).now = b.now := by
  unfold Bay.modulate
  repeat' (first | done | simp  | split | intro _ | refine (Bay.each_now (fun b n => ?_) _ _).trans ?_ | refine (Bay.onlyIf_now (fun b => ?_) _ _).trans ?_ | refine (Bay.foldl_now (fun b n => ?_) _ _).trans ?_ | refine Bay.gated_now _ _ ?_)

@[simp] theorem Bay.axisPhase_now (b : Bay) : (b.axisPhase).now = b.now := by
  simp [Bay.axisPhase]

@[simp] theorem Bay.axisLoop_now (b : Bay) (vbus : Int) (x : AxisSample) : (b.axisLoop vbus x).now = b.now := by
  simp [Bay.axisLoop]

@[simp] theorem Bay.loopPhase_now (b : Bay) (i : FrameIn) : (b.loopPhase i).now = b.now := by
  simp [Bay.loopPhase]

@[simp] theorem Bay.outerPhase_now (b : Bay) : (b.outerPhase).now = b.now := by
  simp [Bay.outerPhase]

@[simp] theorem Bay.showEdge_now (b : Bay) : (b.showEdge).now = b.now := by
  unfold Bay.showEdge
  repeat' (first | done | simp  | split | intro _ | refine (Bay.each_now (fun b n => ?_) _ _).trans ?_ | refine (Bay.onlyIf_now (fun b => ?_) _ _).trans ?_ | refine (Bay.foldl_now (fun b n => ?_) _ _).trans ?_ | refine Bay.gated_now _ _ ?_)

@[simp] theorem Bay.frameEdge_now (b : Bay) (i : FrameIn) : (b.frameEdge i).now = b.now := by
  unfold Bay.frameEdge
  repeat' (first | done | simp  | split | intro _ | refine (Bay.each_now (fun b n => ?_) _ _).trans ?_ | refine (Bay.onlyIf_now (fun b => ?_) _ _).trans ?_ | refine (Bay.foldl_now (fun b n => ?_) _ _).trans ?_ | refine Bay.gated_now _ _ ?_)

@[simp] theorem Bay.latchHigh_now (b : Bay) (cart : Nat) (r : RegAt) : (b.latchHigh cart r).now = b.now := by
  simp only [Bay.latchHigh]
  repeat' (first | done | split)
  all_goals simp 

@[simp] theorem Bay.fieldWrite_now (b : Bay) (f : FieldRow) (k : Key) (v : Int) : (b.fieldWrite f k v).now = b.now := by
  unfold Bay.fieldWrite
  repeat' (first | done | simp  | split | intro _ | refine (Bay.each_now (fun b n => ?_) _ _).trans ?_ | refine (Bay.onlyIf_now (fun b => ?_) _ _).trans ?_ | refine (Bay.foldl_now (fun b n => ?_) _ _).trans ?_ | refine Bay.gated_now _ _ ?_)

@[simp] theorem Bay.dropLatch_now (b : Bay) (f : FieldRow) (k : Key) : (b.dropLatch f k).now = b.now := by
  unfold Bay.dropLatch
  repeat' (first | done | simp  | split | intro _ | refine (Bay.each_now (fun b n => ?_) _ _).trans ?_ | refine (Bay.onlyIf_now (fun b => ?_) _ _).trans ?_ | refine (Bay.foldl_now (fun b n => ?_) _ _).trans ?_ | refine Bay.gated_now _ _ ?_)

@[simp] theorem Bay.openSession_now (b : Bay) (i cart : Nat) (key : List Byte) (chained : Bool) (level : Int) : (b.openSession i cart key chained level).now = b.now := by
  simp [Bay.openSession]

@[simp] theorem Bay.heardSession_now (b : Bay) (i : Nat) (x : Session) : (b.heardSession i x).now = b.now := by
  simp [Bay.heardSession]

@[simp] theorem Bay.freeSource_now (b : Bay) (n p : Nat) : (b.freeSource n p).now = b.now := by
  simp [Bay.freeSource]

end Sys2Proof.Machine
end

