-- ==== Sys2Proof/Laws/Completes.lean ====
section
/-! SUPPORT. How a statement about a command's next state is shown: what each way of answering gives. -/

namespace Sys2Proof

open Sys2Proof.Machine

/-- A command that acts on the bay alone. -/
theorem completes_onBay {c : Instr} {s : State} {f : Bay → Bay} {P : Bay → Prop} (he : exec c s = s.onBay f) (hp : P (f s.bay)) :
    completes c s P := ⟨_, he, rfl, rfl, hp⟩

/-- A command that leaves the state as it is. -/
theorem completes_stay {c : Instr} {s : State} {P : Bay → Prop} (he : exec c s = .next s) (hp : P s.bay) : completes c s P :=
  ⟨s, he, rfl, rfl, hp⟩

theorem keepsRegs_refl (b : Bay) (l : List Key) : keepsRegs b b l := fun _ _ => rfl

theorem keepsFields_refl (b : Bay) (l : List Grp × List Key) : keepsFields b b l := fun _ _ _ => rfl

theorem keepsRegs_trans {b b' b'' : Bay} {l : List Key} (h : keepsRegs b b' l) (h' : keepsRegs b' b'' l) : keepsRegs b b'' l :=
  fun k hk => (h' k hk).trans (h k hk)

theorem keepsFields_trans {b b' b'' : Bay} {l : List Grp × List Key} (h : keepsFields b b' l) (h' : keepsFields b' b'' l) : keepsFields b b'' l :=
  fun k hg hk => (h' k hg hk).trans (h k hg hk)

end Sys2Proof
end

