-- ==== Sys2Proof/Laws/Goes.lean ====
section
/-! SUPPORT. A command goes on: it answers a next state in which the queue stands and the memories keep their canonical form. One lemma per way in which meanings answer. -/

namespace Sys2Proof.Machine

/-- The answer is a next state, with the queue as it was and the memories still canonical. -/
def Goes (s : State) (r : Result) : Prop := ∃ t, r = .next t ∧ Tame s t

theorem Goes.next {s t : State} (h : Tame s t) : Goes s (.next t) := ⟨t, rfl, h⟩

theorem Goes.stay (s : State) : Goes s (.next s) := .next (Tame.refl s)

theorem Goes.after {s t : State} {r : Result} (h : Tame s t) (h' : Goes t r) : Goes s r := by
  obtain ⟨u, e, k⟩ := h'
  exact ⟨u, e, h.trans k⟩

/-- A command on the bay alone goes on. -/
theorem State.onBay_goes (s : State) (f : Bay → Bay) : Goes s (s.onBay f) := .next (Tame.bay s _)

theorem State.idle_goes (s : State) : Goes s s.idle := State.onBay_goes _ _

/-- The state a carried command leaves is reached tamely. -/
theorem State.run_tame {s : State} {f : State → Result} (h : Goes s (f s)) : Tame s (s.run f) := by
  obtain ⟨t, e, k⟩ := h
  simpa [State.run, e] using k

/-! ## Memory commands -/

theorem State.onMemory_goes (s : State) (x : Nat) (k : Key) {f : State → State} (h : Tame s (f s)) : Goes s (s.onMemory x k f) := by
  unfold State.onMemory
  split
  · exact .next (Tame.refl s)
  · split
    · exact State.onBay_goes _ _
    · split
      · exact .next h
      · exact State.onBay_goes _ _

theorem execScrGo_goes (x : Fin 2) (s : State) : Goes s (execScrGo x s) := State.onMemory_goes _ _ _ (State.scrubGo_tame _ _)
theorem execScrStop_goes (x : Fin 2) (s : State) : Goes s (execScrStop x s) := State.onMemory_goes _ _ _ (State.scrubStop_tame _ _)
theorem execInjGo_goes (x : Fin 2) (s : State) : Goes s (execInjGo x s) := State.onMemory_goes _ _ _ (State.inject_tame _ _)
theorem execCntClr_goes (x : Fin 2) (s : State) : Goes s (execCntClr x s) := State.onMemory_goes _ _ _ (Tame.bay s _)
theorem execDmaRst_goes (x : Fin 2) (m : BitVec 16) (s : State) : Goes s (execDmaRst x m s) := State.onMemory_goes _ _ _ (Tame.bay s _)

theorem execScrubComplete_goes (x : Fin 2) (s : State) : Goes s (execScrubComplete x s) := by
  unfold execScrubComplete; split
  · exact .stay s
  · exact .next ((State.scrubTo_tame _ _ _).trans (State.scrubEnd_tame _ _ _))

theorem execMemoryInitDone_goes (x : Fin 2) (r : Fin 3) (s : State) : Goes s (execMemoryInitDone x r s) := by
  unfold execMemoryInitDone; split
  · exact .next (State.initDone_tame _ _ _)
  · exact .stay s

theorem execPartnerRepair_goes (x : Fin 2) (w : Nat) (s : State) : Goes s (execPartnerRepair x w s) := by
  unfold execPartnerRepair; split
  · exact Goes.after (State.copyFromPartner_tame _ _ _) (State.onBay_goes _ _)
  · exact .stay s

theorem execFrameEdge_goes (i : FrameIn) (s : State) : Goes s (execFrameEdge i s) := by
  unfold execFrameEdge; split
  · exact .stay s
  · refine Goes.after ?_ (State.onBay_goes _ _)
    exact ((Tame.bay s _).trans (Tame.foldl _ State.upset_tame _ _)).trans (State.scrubEdge_tame _)

theorem execTraceCopyDone_goes (n : Fin 4) (s : State) : Goes s (execTraceCopyDone n s) := by
  unfold execTraceCopyDone; dsimp only; split
  · exact .stay s
  · exact Goes.after (Tame.foldl _ (fun s x => State.writeWords_tame s x 0 _ _) _ s) (State.onBay_goes _ _)

/-! ## Images -/

theorem State.placeImage_tame (s : State) (m : Image) (l : List Byte) : Tame s (s.placeImage m l) :=
  Tame.foldl _ (fun s x => State.mergeWrite_tame s x 0 _ 0 2 l) _ s

theorem State.verifyAll_tame (s : State) (len : Nat) : Tame s (s.verifyAll len).1 := by
  refine Tame.foldl_fst _ (fun st x => ?_) _ (s, 99, none, [])
  have h : Tame st.1 (st.1.staged x len).1 := State.readWords_tame _ _ _ _ _ _ _
  dsimp only
  repeat' split
  all_goals exact h

theorem execLoadComplete_goes (s : State) : Goes s (execLoadComplete s) := by
  unfold execLoadComplete; split
  · exact .stay s
  · have h := State.verifyAll_tame s s.bay.trust.load
    dsimp only
    split
    · split
      · exact .next (h.trans (Tame.bay _ _))
      · exact .next ((h.trans (Tame.bay _ _)).trans (State.placeImage_tame _ _ _))
    · exact .next (h.trans (Tame.bay _ _))

/-! ## Joining -/

theorem State.initMemory_tame (s : State) (x : Nat) : Tame s (s.initMemory x) :=
  ⟨rfl, fun w => MemSys.setCart_wf w x (CartMem.blank_wf (MemSys.cart_wf w x))⟩

theorem Ram.takeHeld_wf {r src : Ram} (h : r.wf = true) : (r.takeHeld src).wf = true := by
  have h' := (Ram.wf_iff r).1 h
  have fold : ∀ {α : Type} (f : Ram → α → Ram) (_ : ∀ r a, r.wf = true → (f r a).wf = true) (l : List α) (r : Ram), r.wf = true → (l.foldl f r).wf = true := by
    intro α f hf l
    induction l with
    | nil => exact fun _ h => h
    | cons a l ih => exact fun r h => ih _ (hf r a h)
  refine fold _ (fun r e h => ?_) _ _ (fold _ (fun r c h => ?_) _ _ ?_)
  · exact (Ram.wf_iff _).2 ⟨((Ram.wf_iff r).1 h).1, Errs.put_wf _ _ ((Ram.wf_iff r).1 h).2⟩
  · exact (Ram.wf_iff _).2 ⟨Cells.put_wf _ _ ((Ram.wf_iff r).1 h).1, ((Ram.wf_iff r).1 h).2⟩
  · exact (Ram.wf_iff _).2 ⟨Cells.filter_wfFrom _ h'.1, Errs.filter_wfFrom _ h'.2⟩

theorem State.bulkCopy_tame (s : State) (x : Nat) : Tame s (s.bulkCopy x) := by
  refine Tame.trans ?_ (State.poisonCount_tame _ x)
  exact ⟨rfl, fun w => MemSys.setRam_wf w x 0 (Ram.takeHeld_wf (MemSys.ram_wf w x 0))⟩

theorem execBulkCopyDone_goes (s : State) : Goes s (execBulkCopyDone s) := by
  unfold execBulkCopyDone; split
  · split
    · exact Goes.after (State.bulkCopy_tame _ _) (State.onBay_goes _ _)
    · exact .stay s
  · exact .stay s

theorem execJoinBootDone_goes (x : Fin 2) (equal : Bool) (s : State) : Goes s (execJoinBootDone x equal s) := by
  unfold execJoinBootDone; split
  · exact .stay s
  · exact Goes.after ((Tame.bay s _).trans (State.initMemory_tame _ _)) (State.onBay_goes _ _)

theorem execCartridgeRemoved_goes (n : Fin 8) (s : State) : Goes s (execCartridgeRemoved n s) := by
  unfold execCartridgeRemoved; split
  · exact .stay s
  · refine Goes.after ?_ (State.onBay_goes _ _)
    split
    · exact ⟨rfl, fun w => MemSys.setCart_wf w _ rfl⟩
    · exact Tame.refl s

/-! ## Turns of the engines -/

theorem State.engRead_tame (s : State) (c i acc : Nat) : Tame s (s.engRead c i acc).1 := by
  unfold State.engRead; split
  · exact Tame.refl s
  · exact State.lockstepRead_tame _ _ _ _ _

theorem State.fetchRead_tame (s : State) (c : Nat) : Tame s (s.fetchRead c).1 := by
  unfold State.fetchRead; split
  · exact State.engRead_tame _ _ _ _
  · exact Tame.refl s

theorem State.onTurn_goes (s : State) (c op : Nat) (f : Bay → Nat → TurnEnd) : Goes s (s.onTurn c op f) := by
  unfold State.onTurn; dsimp only
  exact Goes.after (State.fetchRead_tame _ _) (State.onBay_goes _ _)

theorem State.onTurn2_goes (s : State) (c op : Nat) (i : Option Nat) (acc : Nat) (f : Bay → Nat → TurnEnd) : Goes s (s.onTurn2 c op i acc f) := by
  unfold State.onTurn2
  have h := State.fetchRead_tame s c
  dsimp only
  refine Goes.after ?_ (State.onBay_goes _ _)
  split
  · split
    · exact h
    · exact h.trans (State.engRead_tame _ _ _ _)
  · exact h

/-! ## Host words and the window -/

theorem State.windowRead_tame (s : State) (x master a n : Nat) : Tame s (s.windowRead x master a n).1 := by
  unfold State.windowRead; dsimp only
  exact State.readWords_tame _ _ _ _ _ _ _

theorem State.windowWrite_tame (s : State) (cart master a : Nat) (l : List Byte) : Tame s (s.windowWrite cart master a l).1 := by
  unfold State.windowWrite; dsimp only
  refine Tame.foldl_fst _ (fun st x => ?_) _ (s, true)
  apply State.mergeWrite_tame

theorem State.onSession_goes (s : State) (i : Nat) {f : Session → State → State} (h : ∀ x t, Tame t (f x t)) : Goes s (s.onSession i f) := by
  unfold State.onSession; split
  · exact .stay s
  · split
    · exact .next ((Tame.bay s _).trans (h _ _))
    · exact .stay s

theorem State.answer_tame (s : State) (i tag : Nat) (st : Int) (l : List Int) : Tame s (s.answer i tag st l) := Tame.bay s _

theorem State.forStake_tame (s : State) (kind : String) (i tag stake : Nat) (l : List (List Int)) {f : State → State} (h : Tame s (f s)) :
    Tame s (s.forStake kind i tag stake l f) := by
  unfold State.forStake; dsimp only; split
  · exact h
  · split <;> exact Tame.bay s _

theorem State.sessionViolation_tame (s : State) (i tag region acc a : Nat) (key : List Byte) : Tame s (s.sessionViolation i tag region acc a key) := Tame.bay s _

theorem State.onStream_tame (s : State) (i tag n : Nat) {f : Stream → State} (h : ∀ x, Tame s (f x)) : Tame s (s.onStream i tag n f) := by
  unfold State.onStream; split
  · exact Tame.bay s _
  · dsimp only; split
    · exact Tame.bay s _
    · exact h _

theorem State.readEffect_tame (s : State) (r : RegAt) : Tame s (s.readEffect r) := by
  unfold State.readEffect
  repeat' split
  all_goals first
    | exact Tame.refl s
    | exact State.run_tame (State.onBay_goes _ _)

theorem State.regRead_tame (s : State) (cart : Nat) (r : RegAt) : Tame s (s.regRead cart r).1 := by
  unfold State.regRead; split
  · exact Tame.refl s
  · exact (Tame.bay s _).trans (State.readEffect_tame _ _)

theorem State.hostRead_tame (s : State) (cart a : Nat) : Tame s (s.hostRead cart a).1 := by
  unfold State.hostRead; split
  · exact Tame.refl s
  · split
    · exact State.regRead_tame _ _ _
    · exact Tame.refl s

/-- A command that a written word carries. -/
theorem State.command_tame (s : State) (k : Key) (v w : Nat) : Tame s (s.command k v w) := by
  obtain ⟨g, i, off, lo⟩ := k
  have run : ∀ {f : State → Result}, Goes s (f s) → Tame s (s.run f) := State.run_tame
  cases g
  case mem =>
    dsimp only [State.command]
    split
    · split
      · exact run (execCntClr_goes _ s)
      · exact run (execScrGo_goes _ s)
      · exact run (execScrStop_goes _ s)
      · exact run (execInjGo_goes _ s)
    · exact run (execDmaRst_goes _ _ s)
  all_goals
    dsimp only [State.command]
    repeat' split
  all_goals first
    | exact run (State.onBay_goes s _)
    | exact Tame.refl s

theorem State.fieldEffect_tame (b : Bay) (r : RegAt) (w : Nat) (s : State) (f : FieldRow) : Tame s (State.fieldEffect b r w s f) := by
  unfold State.fieldEffect; dsimp only
  split
  · split
    · exact Tame.refl s
    · exact State.command_tame _ _ _ _
  · split
    · exact Tame.refl s
    · exact Tame.bay s _
  · split
    · exact Tame.refl s
    · exact Tame.bay s _

theorem State.regWrite_tame (s : State) (r : RegAt) (w : Nat) : Tame s (s.regWrite r w) := by
  have h : ∀ t, Tame t (r.rows.foldl (fun t f => State.fieldEffect s.bay r w t f) t) :=
    fun t => Tame.foldl _ (fun t f => State.fieldEffect_tame s.bay r w t f) _ t
  unfold State.regWrite; dsimp only
  repeat' split
  all_goals first
    | exact Tame.bay s _
    | exact (h s).trans (Tame.bay _ _)
    | exact h s

theorem State.hostWrite_tame (s : State) (a w : Nat) : Tame s (s.hostWrite a w) := by
  unfold State.hostWrite; split
  · split
    · exact Tame.refl s
    · exact State.regWrite_tame _ _ _
  · exact Tame.refl s

/-! ## Rim messages -/

theorem State.readLoop_tame (cart master : Nat) (n : Nat) (a : Nat) (s : State) : Tame s (State.readLoop cart master n a s).1 := by
  induction n generalizing a s with
  | zero => exact Tame.refl s
  | succ n ih =>
    simp only [State.readLoop]
    repeat' split
    all_goals first
      | exact Tame.refl s
      | exact State.windowRead_tame _ _ _ _ _
      | exact (State.windowRead_tame _ _ _ _ _).trans (ih _ _)
      | exact (State.hostRead_tame _ _ _).trans (ih _ _)

theorem State.writeLoop_tame (cart master : Nat) (level : Int) (part : Nat) (l : List (BitVec 32)) (a : Nat) (s : State) :
    Tame s (State.writeLoop cart master level part l a s).1 := by
  induction l generalizing a s with
  | nil => exact Tame.refl s
  | cons w l ih =>
    simp only [State.writeLoop]
    repeat' split
    all_goals first
      | exact Tame.refl s
      | exact State.windowWrite_tame _ _ _ _ _
      | exact (State.windowWrite_tame _ _ _ _ _).trans (ih _ _)
      | exact (State.hostWrite_tame _ _ _).trans (ih _ _)

theorem State.doRead_tame (s : State) (i tag a n : Nat) (x : Session) : Tame s (s.doRead i tag a n x) := by
  have h := State.readLoop_tame x.cart (40 + i) n a s
  unfold State.doRead; dsimp only; split
  · exact h.trans (State.sessionViolation_tame _ _ _ _ _ _ _)
  · exact h.trans (State.answer_tame _ _ _ _ _)

theorem State.doWrite_tame (s : State) (i tag a : Nat) (l : List (BitVec 32)) (part : Nat) (x : Session) : Tame s (s.doWrite i tag a l part x) := by
  have h := State.writeLoop_tame x.cart (40 + i) x.level part l a s
  unfold State.doWrite; dsimp only; split
  · exact h.trans (State.sessionViolation_tame _ _ _ _ _ _ _)
  · exact h.trans (State.answer_tame _ _ _ _ _)

theorem State.doBulkRead_tame (s : State) (i tag a n : Nat) (x : Session) : Tame s (s.doBulkRead i tag a n x) := by
  have h := State.windowRead_tame s x.cart (40 + i) a n
  unfold State.doBulkRead; dsimp only
  repeat' split
  · exact State.answer_tame _ _ _ _ _
  · exact State.sessionViolation_tame _ _ _ _ _ _ _
  · exact h.trans (State.answer_tame _ _ _ _ _)
  · exact h.trans (State.answer_tame _ _ _ _ _)

theorem State.doBulkWrite_tame (s : State) (i tag a : Nat) (l : List Byte) (x : Session) : Tame s (s.doBulkWrite i tag a l x) := by
  unfold State.doBulkWrite; dsimp only
  repeat' split
  · exact State.answer_tame _ _ _ _ _
  · exact State.sessionViolation_tame _ _ _ _ _ _ _
  · exact State.sessionViolation_tame _ _ _ _ _ _ _
  · exact (State.windowWrite_tame _ _ _ _ _).trans (State.answer_tame _ _ _ _ _)

theorem State.streamFrom_tame (s : State) (i tag n max_ : Nat) (x : Session) : Tame s (s.streamFrom i tag n max_ x) := by
  unfold State.streamFrom; dsimp only; split
  · exact Tame.bay s _
  · exact Tame.bay s _

theorem State.doStreamRead_tame (s : State) (i tag n max_ : Nat) (x : Session) : Tame s (s.doStreamRead i tag n max_ x) := by
  unfold State.doStreamRead; dsimp only
  repeat' split
  · exact State.answer_tame _ _ _ _ _
  · exact State.streamFrom_tame _ _ _ _ _ _
  · exact State.answer_tame _ _ _ _ _
  · exact (Tame.bay s _).trans (State.streamFrom_tame _ _ _ _ _ _)

theorem State.doMark_tame (s : State) (i tag n p : Nat) : Tame s (s.doMark i tag n p) :=
  State.onStream_tame _ _ _ _ (fun x => by split <;> exact Tame.bay s _)

theorem State.doRewind_tame (s : State) (i tag n : Nat) : Tame s (s.doRewind i tag n) :=
  State.onStream_tame _ _ _ _ (fun _ => Tame.bay s _)

theorem State.doRelease_tame (s : State) (i tag n p : Nat) (x : Session) : Tame s (s.doRelease i tag n p x) :=
  State.onStream_tame _ _ _ _ (fun x => by dsimp only; split <;> exact Tame.bay s _)

end Sys2Proof.Machine
end

