-- ==== Sys2Proof/Laws/Members.lean ====
section
/-! SUPPORT. The members of units: what replacing one member leaves of it and of the others, and that a register write, an event and a member of another unit leave them. -/

namespace Sys2Proof.Machine

section
variable (b : Bay)

@[simp] theorem Bay.stageOf_setStage_same (n : Nat) (x : Stage) : (b.setStage n x).stageOf n = x := by simp [Bay.stageOf, Bay.setStage, Tab.get_put]
@[simp] theorem Bay.stageOf_setStage_of_ne {n m : Nat} (x : Stage) (h : ¬ n = m) : (b.setStage n x).stageOf m = b.stageOf m := by simp [Bay.stageOf, Bay.setStage, Tab.get_put, h]
@[simp] theorem Bay.stageOf_wr (k : Key) (v : Int) (n : Nat) : (b.wr k v).stageOf n = b.stageOf n := rfl
@[simp] theorem Bay.stageOf_setFlag (k : Key) (v : Bool) (n : Nat) : (b.setFlag k v).stageOf n = b.stageOf n := rfl
@[simp] theorem Bay.stageOf_bump32 (k : Key) (n : Nat) : (b.bump32 k).stageOf n = b.stageOf n := rfl
@[simp] theorem Bay.stageOf_setSticky (k : Key) (n : Nat) : (b.setSticky k).stageOf n = b.stageOf n := rfl
@[simp] theorem Bay.stageOf_clearSticky (k : Key) (n : Nat) : (b.clearSticky k).stageOf n = b.stageOf n := by unfold Bay.clearSticky; split <;> rfl
@[simp] theorem Bay.stageOf_bumpSat (k : Key) (p m : Int) (n : Nat) : (b.bumpSat k p m).stageOf n = b.stageOf n := rfl
@[simp] theorem Bay.stageOf_note (src : Nat) (n : Nat) : (b.note src).stageOf n = b.stageOf n := by simp [Bay.stageOf]
@[simp] theorem Bay.stageOf_raise (src : Nat) (d v : Int) (n : Nat) : (b.raise src d v).stageOf n = b.stageOf n := by simp [Bay.stageOf]
@[simp] theorem Bay.stageOf_raiseD (src : Nat) (d : Int) (n : Nat) : (b.raiseD src d).stageOf n = b.stageOf n := by simp [Bay.stageOf]
@[simp] theorem Bay.stageOf_raiseAt (t src : Nat) (d v : Int) (n : Nat) : (b.raiseAt t src d v).stageOf n = b.stageOf n := by simp [Bay.stageOf]
@[simp] theorem Bay.stageOf_refuse (k : Key) (r : Int) (n : Nat) : (b.refuse k r).stageOf n = b.stageOf n := by simp [Bay.stageOf]
@[simp] theorem Bay.stageOf_cfgErr (a : Nat) (r : Int) (n : Nat) : (b.cfgErr a r).stageOf n = b.stageOf n := by simp [Bay.stageOf]
@[simp] theorem Bay.stageOf_sendEvBit (t e i : Nat) (n : Nat) : (b.sendEvBit t e i).stageOf n = b.stageOf n := rfl
@[simp] theorem Bay.stageOf_setDriver (m : Nat) (x : Driver) (n : Nat) : (b.setDriver m x).stageOf n = b.stageOf n := rfl
@[simp] theorem Bay.stageOf_setFram (m : Nat) (x : Fram) (n : Nat) : (b.setFram m x).stageOf n = b.stageOf n := rfl
@[simp] theorem Bay.stageOf_setBorder (m : Nat) (x : Border) (n : Nat) : (b.setBorder m x).stageOf n = b.stageOf n := rfl
@[simp] theorem Bay.stageOf_setCellT (m : Nat) (x : Int × Int) (n : Nat) : (b.setCellT m x).stageOf n = b.stageOf n := rfl
@[simp] theorem Bay.stageOf_setSlot (m : Nat) (x : SlotView) (n : Nat) : (b.setSlot m x).stageOf n = b.stageOf n := rfl
@[simp] theorem Bay.stageOf_setChan (m : Nat) (x : Chan) (n : Nat) : (b.setChan m x).stageOf n = b.stageOf n := rfl
@[simp] theorem Bay.stageOf_setMeans (m : Nat) (x : Means) (n : Nat) : (b.setMeans m x).stageOf n = b.stageOf n := rfl
@[simp] theorem Bay.stageOf_setRing (m : Nat) (x : Ring) (n : Nat) : (b.setRing m x).stageOf n = b.stageOf n := rfl
@[simp] theorem Bay.stageOf_setMeasCh (m : Nat) (x : MeasCh) (n : Nat) : (b.setMeasCh m x).stageOf n = b.stageOf n := rfl
@[simp] theorem Bay.stageOf_setEng (m : Nat) (x : Eng) (n : Nat) : (b.setEng m x).stageOf n = b.stageOf n := rfl
@[simp] theorem Bay.stageOf_setGroup (m : Nat) (x : Group) (n : Nat) : (b.setGroup m x).stageOf n = b.stageOf n := rfl
@[simp] theorem Bay.stageOf_setSweep (m : Nat) (x : Sweep) (n : Nat) : (b.setSweep m x).stageOf n = b.stageOf n := rfl
@[simp] theorem Bay.stageOf_setLoopCh (m : Nat) (x : LoopCh) (n : Nat) : (b.setLoopCh m x).stageOf n = b.stageOf n := rfl
@[simp] theorem Bay.stageOf_setLoopAx (m : Nat) (x : LoopAx) (n : Nat) : (b.setLoopAx m x).stageOf n = b.stageOf n := rfl
@[simp] theorem Bay.stageOf_setGrade (m : Nat) (x : Option GradeVec) (n : Nat) : (b.setGrade m x).stageOf n = b.stageOf n := rfl
@[simp] theorem Bay.stageOf_setTrace (m : Nat) (x : Trace) (n : Nat) : (b.setTrace m x).stageOf n = b.stageOf n := rfl
@[simp] theorem Bay.stageOf_setWale (m : Nat) (x : Wale) (n : Nat) : (b.setWale m x).stageOf n = b.stageOf n := rfl
@[simp] theorem Bay.stageOf_setAxis (m : Nat) (x : Axis) (n : Nat) : (b.setAxis m x).stageOf n = b.stageOf n := rfl
@[simp] theorem Bay.stageOf_setEnc (m : Nat) (x : Enc) (n : Nat) : (b.setEnc m x).stageOf n = b.stageOf n := rfl
@[simp] theorem Bay.stageOf_setThermCh (m : Nat) (x : ThermCh) (n : Nat) : (b.setThermCh m x).stageOf n = b.stageOf n := rfl
@[simp] theorem Bay.stageOf_setCan (m : Nat) (x : Can) (n : Nat) : (b.setCan m x).stageOf n = b.stageOf n := rfl
@[simp] theorem Bay.stageOf_setLatch (m : Nat) (x : Latch) (n : Nat) : (b.setLatch m x).stageOf n = b.stageOf n := rfl
@[simp] theorem Bay.stageOf_send (x : OutMsg) (n : Nat) : (b.send x).stageOf n = b.stageOf n := rfl
@[simp] theorem Bay.stageOf_setModeSt (x : ModeSt) (n : Nat) : (b.setModeSt x).stageOf n = b.stageOf n := rfl
@[simp] theorem Bay.stageOf_setPlant (x : Plant) (n : Nat) : (b.setPlant x).stageOf n = b.stageOf n := rfl
@[simp] theorem Bay.stageOf_setSafe (x : Safe) (n : Nat) : (b.setSafe x).stageOf n = b.stageOf n := rfl
@[simp] theorem Bay.stageOf_setTherm (x : Therm) (n : Nat) : (b.setTherm x).stageOf n = b.stageOf n := rfl
@[simp] theorem Bay.stageOf_setWeave (x : Weave) (n : Nat) : (b.setWeave x).stageOf n = b.stageOf n := rfl
@[simp] theorem Bay.stageOf_setTrust (x : Trust) (n : Nat) : (b.setTrust x).stageOf n = b.stageOf n := rfl
@[simp] theorem Bay.stageOf_shadowWrite (k : Key) (v : Int) (n : Nat) : (b.shadowWrite k v).stageOf n = b.stageOf n := rfl
@[simp] theorem Bay.mk_stageOf (f_regs : Store) (f_now : Nat) (f_shadows : List Shadow) (f_hiLatch : Store) (f_setT : Store) (f_edge : EdgeView) (f_log : List EvEntry) (f_episode : Bool) (f_evBits : List EvBit) (f_stage : Tab Stage) (f_driver : Tab Driver) (f_fram : Tab Fram) (f_border : Tab Border) (f_chan : Tab Chan) (f_means : Tab Means) (f_ring : Tab Ring) (f_cellT : Tab (Int × Int)) (f_slotv : Tab SlotView) (f_measCh : Tab MeasCh) (f_measSt : MeasSt) (f_eng : Tab Eng) (f_images : List Image) (f_verMax : List (Int × Int)) (f_revoked : List Int) (f_groups : Tab Group) (f_sweep : Tab Sweep) (f_loopCh : Tab LoopCh) (f_loopAx : Tab LoopAx) (f_trace : Tab Trace) (f_grade : Tab (Option GradeVec)) (f_modeSt : ModeSt) (f_plant : Plant) (f_wale : Tab Wale) (f_axis : Tab Axis) (f_axRec : List AxRec) (f_enc : Tab Enc) (f_thermCh : Tab ThermCh) (f_therm : Therm) (f_safe : Safe) (f_red : Red) (f_memHid : MemHid) (f_trust : Trust) (f_weave : Weave) (f_can : Tab Can) (f_latch : Tab Latch) (f_shortReq : Bool) (f_out : List OutMsg) (f_fresh : Nat) (n : Nat) : (Bay.mk f_regs f_now f_shadows f_hiLatch f_setT f_edge f_log f_episode f_evBits f_stage f_driver f_fram f_border f_chan f_means f_ring f_cellT f_slotv f_measCh f_measSt f_eng f_images f_verMax f_revoked f_groups f_sweep f_loopCh f_loopAx f_trace f_grade f_modeSt f_plant f_wale f_axis f_axRec f_enc f_thermCh f_therm f_safe f_red f_memHid f_trust f_weave f_can f_latch f_shortReq f_out f_fresh).stageOf n = Tab.get {} f_stage n := rfl
@[simp] theorem Bay.fold_stageOf (n : Nat) : Tab.get {} b.stage n = b.stageOf n := rfl
@[simp] theorem Bay.driverOf_setDriver_same (n : Nat) (x : Driver) : (b.setDriver n x).driverOf n = x := by simp [Bay.driverOf, Bay.setDriver, Tab.get_put]
@[simp] theorem Bay.driverOf_setDriver_of_ne {n m : Nat} (x : Driver) (h : ¬ n = m) : (b.setDriver n x).driverOf m = b.driverOf m := by simp [Bay.driverOf, Bay.setDriver, Tab.get_put, h]
@[simp] theorem Bay.driverOf_wr (k : Key) (v : Int) (n : Nat) : (b.wr k v).driverOf n = b.driverOf n := rfl
@[simp] theorem Bay.driverOf_setFlag (k : Key) (v : Bool) (n : Nat) : (b.setFlag k v).driverOf n = b.driverOf n := rfl
@[simp] theorem Bay.driverOf_bump32 (k : Key) (n : Nat) : (b.bump32 k).driverOf n = b.driverOf n := rfl
@[simp] theorem Bay.driverOf_setSticky (k : Key) (n : Nat) : (b.setSticky k).driverOf n = b.driverOf n := rfl
@[simp] theorem Bay.driverOf_clearSticky (k : Key) (n : Nat) : (b.clearSticky k).driverOf n = b.driverOf n := by unfold Bay.clearSticky; split <;> rfl
@[simp] theorem Bay.driverOf_bumpSat (k : Key) (p m : Int) (n : Nat) : (b.bumpSat k p m).driverOf n = b.driverOf n := rfl
@[simp] theorem Bay.driverOf_note (src : Nat) (n : Nat) : (b.note src).driverOf n = b.driverOf n := by simp [Bay.driverOf]
@[simp] theorem Bay.driverOf_raise (src : Nat) (d v : Int) (n : Nat) : (b.raise src d v).driverOf n = b.driverOf n := by simp [Bay.driverOf]
@[simp] theorem Bay.driverOf_raiseD (src : Nat) (d : Int) (n : Nat) : (b.raiseD src d).driverOf n = b.driverOf n := by simp [Bay.driverOf]
@[simp] theorem Bay.driverOf_raiseAt (t src : Nat) (d v : Int) (n : Nat) : (b.raiseAt t src d v).driverOf n = b.driverOf n := by simp [Bay.driverOf]
@[simp] theorem Bay.driverOf_refuse (k : Key) (r : Int) (n : Nat) : (b.refuse k r).driverOf n = b.driverOf n := by simp [Bay.driverOf]
@[simp] theorem Bay.driverOf_cfgErr (a : Nat) (r : Int) (n : Nat) : (b.cfgErr a r).driverOf n = b.driverOf n := by simp [Bay.driverOf]
@[simp] theorem Bay.driverOf_sendEvBit (t e i : Nat) (n : Nat) : (b.sendEvBit t e i).driverOf n = b.driverOf n := rfl
@[simp] theorem Bay.driverOf_setStage (m : Nat) (x : Stage) (n : Nat) : (b.setStage m x).driverOf n = b.driverOf n := rfl
@[simp] theorem Bay.driverOf_setFram (m : Nat) (x : Fram) (n : Nat) : (b.setFram m x).driverOf n = b.driverOf n := rfl
@[simp] theorem Bay.driverOf_setBorder (m : Nat) (x : Border) (n : Nat) : (b.setBorder m x).driverOf n = b.driverOf n := rfl
@[simp] theorem Bay.driverOf_setCellT (m : Nat) (x : Int × Int) (n : Nat) : (b.setCellT m x).driverOf n = b.driverOf n := rfl
@[simp] theorem Bay.driverOf_setSlot (m : Nat) (x : SlotView) (n : Nat) : (b.setSlot m x).driverOf n = b.driverOf n := rfl
@[simp] theorem Bay.driverOf_setChan (m : Nat) (x : Chan) (n : Nat) : (b.setChan m x).driverOf n = b.driverOf n := rfl
@[simp] theorem Bay.driverOf_setMeans (m : Nat) (x : Means) (n : Nat) : (b.setMeans m x).driverOf n = b.driverOf n := rfl
@[simp] theorem Bay.driverOf_setRing (m : Nat) (x : Ring) (n : Nat) : (b.setRing m x).driverOf n = b.driverOf n := rfl
@[simp] theorem Bay.driverOf_setMeasCh (m : Nat) (x : MeasCh) (n : Nat) : (b.setMeasCh m x).driverOf n = b.driverOf n := rfl
@[simp] theorem Bay.driverOf_setEng (m : Nat) (x : Eng) (n : Nat) : (b.setEng m x).driverOf n = b.driverOf n := rfl
@[simp] theorem Bay.driverOf_setGroup (m : Nat) (x : Group) (n : Nat) : (b.setGroup m x).driverOf n = b.driverOf n := rfl
@[simp] theorem Bay.driverOf_setSweep (m : Nat) (x : Sweep) (n : Nat) : (b.setSweep m x).driverOf n = b.driverOf n := rfl
@[simp] theorem Bay.driverOf_setLoopCh (m : Nat) (x : LoopCh) (n : Nat) : (b.setLoopCh m x).driverOf n = b.driverOf n := rfl
@[simp] theorem Bay.driverOf_setLoopAx (m : Nat) (x : LoopAx) (n : Nat) : (b.setLoopAx m x).driverOf n = b.driverOf n := rfl
@[simp] theorem Bay.driverOf_setGrade (m : Nat) (x : Option GradeVec) (n : Nat) : (b.setGrade m x).driverOf n = b.driverOf n := rfl
@[simp] theorem Bay.driverOf_setTrace (m : Nat) (x : Trace) (n : Nat) : (b.setTrace m x).driverOf n = b.driverOf n := rfl
@[simp] theorem Bay.driverOf_setWale (m : Nat) (x : Wale) (n : Nat) : (b.setWale m x).driverOf n = b.driverOf n := rfl
@[simp] theorem Bay.driverOf_setAxis (m : Nat) (x : Axis) (n : Nat) : (b.setAxis m x).driverOf n = b.driverOf n := rfl
@[simp] theorem Bay.driverOf_setEnc (m : Nat) (x : Enc) (n : Nat) : (b.setEnc m x).driverOf n = b.driverOf n := rfl
@[simp] theorem Bay.driverOf_setThermCh (m : Nat) (x : ThermCh) (n : Nat) : (b.setThermCh m x).driverOf n = b.driverOf n := rfl
@[simp] theorem Bay.driverOf_setCan (m : Nat) (x : Can) (n : Nat) : (b.setCan m x).driverOf n = b.driverOf n := rfl
@[simp] theorem Bay.driverOf_setLatch (m : Nat) (x : Latch) (n : Nat) : (b.setLatch m x).driverOf n = b.driverOf n := rfl
@[simp] theorem Bay.driverOf_send (x : OutMsg) (n : Nat) : (b.send x).driverOf n = b.driverOf n := rfl
@[simp] theorem Bay.driverOf_setModeSt (x : ModeSt) (n : Nat) : (b.setModeSt x).driverOf n = b.driverOf n := rfl
@[simp] theorem Bay.driverOf_setPlant (x : Plant) (n : Nat) : (b.setPlant x).driverOf n = b.driverOf n := rfl
@[simp] theorem Bay.driverOf_setSafe (x : Safe) (n : Nat) : (b.setSafe x).driverOf n = b.driverOf n := rfl
@[simp] theorem Bay.driverOf_setTherm (x : Therm) (n : Nat) : (b.setTherm x).driverOf n = b.driverOf n := rfl
@[simp] theorem Bay.driverOf_setWeave (x : Weave) (n : Nat) : (b.setWeave x).driverOf n = b.driverOf n := rfl
@[simp] theorem Bay.driverOf_setTrust (x : Trust) (n : Nat) : (b.setTrust x).driverOf n = b.driverOf n := rfl
@[simp] theorem Bay.driverOf_shadowWrite (k : Key) (v : Int) (n : Nat) : (b.shadowWrite k v).driverOf n = b.driverOf n := rfl
@[simp] theorem Bay.mk_driverOf (f_regs : Store) (f_now : Nat) (f_shadows : List Shadow) (f_hiLatch : Store) (f_setT : Store) (f_edge : EdgeView) (f_log : List EvEntry) (f_episode : Bool) (f_evBits : List EvBit) (f_stage : Tab Stage) (f_driver : Tab Driver) (f_fram : Tab Fram) (f_border : Tab Border) (f_chan : Tab Chan) (f_means : Tab Means) (f_ring : Tab Ring) (f_cellT : Tab (Int × Int)) (f_slotv : Tab SlotView) (f_measCh : Tab MeasCh) (f_measSt : MeasSt) (f_eng : Tab Eng) (f_images : List Image) (f_verMax : List (Int × Int)) (f_revoked : List Int) (f_groups : Tab Group) (f_sweep : Tab Sweep) (f_loopCh : Tab LoopCh) (f_loopAx : Tab LoopAx) (f_trace : Tab Trace) (f_grade : Tab (Option GradeVec)) (f_modeSt : ModeSt) (f_plant : Plant) (f_wale : Tab Wale) (f_axis : Tab Axis) (f_axRec : List AxRec) (f_enc : Tab Enc) (f_thermCh : Tab ThermCh) (f_therm : Therm) (f_safe : Safe) (f_red : Red) (f_memHid : MemHid) (f_trust : Trust) (f_weave : Weave) (f_can : Tab Can) (f_latch : Tab Latch) (f_shortReq : Bool) (f_out : List OutMsg) (f_fresh : Nat) (n : Nat) : (Bay.mk f_regs f_now f_shadows f_hiLatch f_setT f_edge f_log f_episode f_evBits f_stage f_driver f_fram f_border f_chan f_means f_ring f_cellT f_slotv f_measCh f_measSt f_eng f_images f_verMax f_revoked f_groups f_sweep f_loopCh f_loopAx f_trace f_grade f_modeSt f_plant f_wale f_axis f_axRec f_enc f_thermCh f_therm f_safe f_red f_memHid f_trust f_weave f_can f_latch f_shortReq f_out f_fresh).driverOf n = Tab.get {} f_driver n := rfl
@[simp] theorem Bay.fold_driverOf (n : Nat) : Tab.get {} b.driver n = b.driverOf n := rfl
@[simp] theorem Bay.framOf_setFram_same (n : Nat) (x : Fram) : (b.setFram n x).framOf n = x := by simp [Bay.framOf, Bay.setFram, Tab.get_put]
@[simp] theorem Bay.framOf_setFram_of_ne {n m : Nat} (x : Fram) (h : ¬ n = m) : (b.setFram n x).framOf m = b.framOf m := by simp [Bay.framOf, Bay.setFram, Tab.get_put, h]
@[simp] theorem Bay.framOf_wr (k : Key) (v : Int) (n : Nat) : (b.wr k v).framOf n = b.framOf n := rfl
@[simp] theorem Bay.framOf_setFlag (k : Key) (v : Bool) (n : Nat) : (b.setFlag k v).framOf n = b.framOf n := rfl
@[simp] theorem Bay.framOf_bump32 (k : Key) (n : Nat) : (b.bump32 k).framOf n = b.framOf n := rfl
@[simp] theorem Bay.framOf_setSticky (k : Key) (n : Nat) : (b.setSticky k).framOf n = b.framOf n := rfl
@[simp] theorem Bay.framOf_clearSticky (k : Key) (n : Nat) : (b.clearSticky k).framOf n = b.framOf n := by unfold Bay.clearSticky; split <;> rfl
@[simp] theorem Bay.framOf_bumpSat (k : Key) (p m : Int) (n : Nat) : (b.bumpSat k p m).framOf n = b.framOf n := rfl
@[simp] theorem Bay.framOf_note (src : Nat) (n : Nat) : (b.note src).framOf n = b.framOf n := by simp [Bay.framOf]
@[simp] theorem Bay.framOf_raise (src : Nat) (d v : Int) (n : Nat) : (b.raise src d v).framOf n = b.framOf n := by simp [Bay.framOf]
@[simp] theorem Bay.framOf_raiseD (src : Nat) (d : Int) (n : Nat) : (b.raiseD src d).framOf n = b.framOf n := by simp [Bay.framOf]
@[simp] theorem Bay.framOf_raiseAt (t src : Nat) (d v : Int) (n : Nat) : (b.raiseAt t src d v).framOf n = b.framOf n := by simp [Bay.framOf]
@[simp] theorem Bay.framOf_refuse (k : Key) (r : Int) (n : Nat) : (b.refuse k r).framOf n = b.framOf n := by simp [Bay.framOf]
@[simp] theorem Bay.framOf_cfgErr (a : Nat) (r : Int) (n : Nat) : (b.cfgErr a r).framOf n = b.framOf n := by simp [Bay.framOf]
@[simp] theorem Bay.framOf_sendEvBit (t e i : Nat) (n : Nat) : (b.sendEvBit t e i).framOf n = b.framOf n := rfl
@[simp] theorem Bay.framOf_setStage (m : Nat) (x : Stage) (n : Nat) : (b.setStage m x).framOf n = b.framOf n := rfl
@[simp] theorem Bay.framOf_setDriver (m : Nat) (x : Driver) (n : Nat) : (b.setDriver m x).framOf n = b.framOf n := rfl
@[simp] theorem Bay.framOf_setBorder (m : Nat) (x : Border) (n : Nat) : (b.setBorder m x).framOf n = b.framOf n := rfl
@[simp] theorem Bay.framOf_setCellT (m : Nat) (x : Int × Int) (n : Nat) : (b.setCellT m x).framOf n = b.framOf n := rfl
@[simp] theorem Bay.framOf_setSlot (m : Nat) (x : SlotView) (n : Nat) : (b.setSlot m x).framOf n = b.framOf n := rfl
@[simp] theorem Bay.framOf_setChan (m : Nat) (x : Chan) (n : Nat) : (b.setChan m x).framOf n = b.framOf n := rfl
@[simp] theorem Bay.framOf_setMeans (m : Nat) (x : Means) (n : Nat) : (b.setMeans m x).framOf n = b.framOf n := rfl
@[simp] theorem Bay.framOf_setRing (m : Nat) (x : Ring) (n : Nat) : (b.setRing m x).framOf n = b.framOf n := rfl
@[simp] theorem Bay.framOf_setMeasCh (m : Nat) (x : MeasCh) (n : Nat) : (b.setMeasCh m x).framOf n = b.framOf n := rfl
@[simp] theorem Bay.framOf_setEng (m : Nat) (x : Eng) (n : Nat) : (b.setEng m x).framOf n = b.framOf n := rfl
@[simp] theorem Bay.framOf_setGroup (m : Nat) (x : Group) (n : Nat) : (b.setGroup m x).framOf n = b.framOf n := rfl
@[simp] theorem Bay.framOf_setSweep (m : Nat) (x : Sweep) (n : Nat) : (b.setSweep m x).framOf n = b.framOf n := rfl
@[simp] theorem Bay.framOf_setLoopCh (m : Nat) (x : LoopCh) (n : Nat) : (b.setLoopCh m x).framOf n = b.framOf n := rfl
@[simp] theorem Bay.framOf_setLoopAx (m : Nat) (x : LoopAx) (n : Nat) : (b.setLoopAx m x).framOf n = b.framOf n := rfl
@[simp] theorem Bay.framOf_setGrade (m : Nat) (x : Option GradeVec) (n : Nat) : (b.setGrade m x).framOf n = b.framOf n := rfl
@[simp] theorem Bay.framOf_setTrace (m : Nat) (x : Trace) (n : Nat) : (b.setTrace m x).framOf n = b.framOf n := rfl
@[simp] theorem Bay.framOf_setWale (m : Nat) (x : Wale) (n : Nat) : (b.setWale m x).framOf n = b.framOf n := rfl
@[simp] theorem Bay.framOf_setAxis (m : Nat) (x : Axis) (n : Nat) : (b.setAxis m x).framOf n = b.framOf n := rfl
@[simp] theorem Bay.framOf_setEnc (m : Nat) (x : Enc) (n : Nat) : (b.setEnc m x).framOf n = b.framOf n := rfl
@[simp] theorem Bay.framOf_setThermCh (m : Nat) (x : ThermCh) (n : Nat) : (b.setThermCh m x).framOf n = b.framOf n := rfl
@[simp] theorem Bay.framOf_setCan (m : Nat) (x : Can) (n : Nat) : (b.setCan m x).framOf n = b.framOf n := rfl
@[simp] theorem Bay.framOf_setLatch (m : Nat) (x : Latch) (n : Nat) : (b.setLatch m x).framOf n = b.framOf n := rfl
@[simp] theorem Bay.framOf_send (x : OutMsg) (n : Nat) : (b.send x).framOf n = b.framOf n := rfl
@[simp] theorem Bay.framOf_setModeSt (x : ModeSt) (n : Nat) : (b.setModeSt x).framOf n = b.framOf n := rfl
@[simp] theorem Bay.framOf_setPlant (x : Plant) (n : Nat) : (b.setPlant x).framOf n = b.framOf n := rfl
@[simp] theorem Bay.framOf_setSafe (x : Safe) (n : Nat) : (b.setSafe x).framOf n = b.framOf n := rfl
@[simp] theorem Bay.framOf_setTherm (x : Therm) (n : Nat) : (b.setTherm x).framOf n = b.framOf n := rfl
@[simp] theorem Bay.framOf_setWeave (x : Weave) (n : Nat) : (b.setWeave x).framOf n = b.framOf n := rfl
@[simp] theorem Bay.framOf_setTrust (x : Trust) (n : Nat) : (b.setTrust x).framOf n = b.framOf n := rfl
@[simp] theorem Bay.framOf_shadowWrite (k : Key) (v : Int) (n : Nat) : (b.shadowWrite k v).framOf n = b.framOf n := rfl
@[simp] theorem Bay.mk_framOf (f_regs : Store) (f_now : Nat) (f_shadows : List Shadow) (f_hiLatch : Store) (f_setT : Store) (f_edge : EdgeView) (f_log : List EvEntry) (f_episode : Bool) (f_evBits : List EvBit) (f_stage : Tab Stage) (f_driver : Tab Driver) (f_fram : Tab Fram) (f_border : Tab Border) (f_chan : Tab Chan) (f_means : Tab Means) (f_ring : Tab Ring) (f_cellT : Tab (Int × Int)) (f_slotv : Tab SlotView) (f_measCh : Tab MeasCh) (f_measSt : MeasSt) (f_eng : Tab Eng) (f_images : List Image) (f_verMax : List (Int × Int)) (f_revoked : List Int) (f_groups : Tab Group) (f_sweep : Tab Sweep) (f_loopCh : Tab LoopCh) (f_loopAx : Tab LoopAx) (f_trace : Tab Trace) (f_grade : Tab (Option GradeVec)) (f_modeSt : ModeSt) (f_plant : Plant) (f_wale : Tab Wale) (f_axis : Tab Axis) (f_axRec : List AxRec) (f_enc : Tab Enc) (f_thermCh : Tab ThermCh) (f_therm : Therm) (f_safe : Safe) (f_red : Red) (f_memHid : MemHid) (f_trust : Trust) (f_weave : Weave) (f_can : Tab Can) (f_latch : Tab Latch) (f_shortReq : Bool) (f_out : List OutMsg) (f_fresh : Nat) (n : Nat) : (Bay.mk f_regs f_now f_shadows f_hiLatch f_setT f_edge f_log f_episode f_evBits f_stage f_driver f_fram f_border f_chan f_means f_ring f_cellT f_slotv f_measCh f_measSt f_eng f_images f_verMax f_revoked f_groups f_sweep f_loopCh f_loopAx f_trace f_grade f_modeSt f_plant f_wale f_axis f_axRec f_enc f_thermCh f_therm f_safe f_red f_memHid f_trust f_weave f_can f_latch f_shortReq f_out f_fresh).framOf n = Tab.get {} f_fram n := rfl
@[simp] theorem Bay.fold_framOf (n : Nat) : Tab.get {} b.fram n = b.framOf n := rfl
@[simp] theorem Bay.borderOf_setBorder_same (n : Nat) (x : Border) : (b.setBorder n x).borderOf n = x := by simp [Bay.borderOf, Bay.setBorder, Tab.get_put]
@[simp] theorem Bay.borderOf_setBorder_of_ne {n m : Nat} (x : Border) (h : ¬ n = m) : (b.setBorder n x).borderOf m = b.borderOf m := by simp [Bay.borderOf, Bay.setBorder, Tab.get_put, h]
@[simp] theorem Bay.borderOf_wr (k : Key) (v : Int) (n : Nat) : (b.wr k v).borderOf n = b.borderOf n := rfl
@[simp] theorem Bay.borderOf_setFlag (k : Key) (v : Bool) (n : Nat) : (b.setFlag k v).borderOf n = b.borderOf n := rfl
@[simp] theorem Bay.borderOf_bump32 (k : Key) (n : Nat) : (b.bump32 k).borderOf n = b.borderOf n := rfl
@[simp] theorem Bay.borderOf_setSticky (k : Key) (n : Nat) : (b.setSticky k).borderOf n = b.borderOf n := rfl
@[simp] theorem Bay.borderOf_clearSticky (k : Key) (n : Nat) : (b.clearSticky k).borderOf n = b.borderOf n := by unfold Bay.clearSticky; split <;> rfl
@[simp] theorem Bay.borderOf_bumpSat (k : Key) (p m : Int) (n : Nat) : (b.bumpSat k p m).borderOf n = b.borderOf n := rfl
@[simp] theorem Bay.borderOf_note (src : Nat) (n : Nat) : (b.note src).borderOf n = b.borderOf n := by simp [Bay.borderOf]
@[simp] theorem Bay.borderOf_raise (src : Nat) (d v : Int) (n : Nat) : (b.raise src d v).borderOf n = b.borderOf n := by simp [Bay.borderOf]
@[simp] theorem Bay.borderOf_raiseD (src : Nat) (d : Int) (n : Nat) : (b.raiseD src d).borderOf n = b.borderOf n := by simp [Bay.borderOf]
@[simp] theorem Bay.borderOf_raiseAt (t src : Nat) (d v : Int) (n : Nat) : (b.raiseAt t src d v).borderOf n = b.borderOf n := by simp [Bay.borderOf]
@[simp] theorem Bay.borderOf_refuse (k : Key) (r : Int) (n : Nat) : (b.refuse k r).borderOf n = b.borderOf n := by simp [Bay.borderOf]
@[simp] theorem Bay.borderOf_cfgErr (a : Nat) (r : Int) (n : Nat) : (b.cfgErr a r).borderOf n = b.borderOf n := by simp [Bay.borderOf]
@[simp] theorem Bay.borderOf_sendEvBit (t e i : Nat) (n : Nat) : (b.sendEvBit t e i).borderOf n = b.borderOf n := rfl
@[simp] theorem Bay.borderOf_setStage (m : Nat) (x : Stage) (n : Nat) : (b.setStage m x).borderOf n = b.borderOf n := rfl
@[simp] theorem Bay.borderOf_setDriver (m : Nat) (x : Driver) (n : Nat) : (b.setDriver m x).borderOf n = b.borderOf n := rfl
@[simp] theorem Bay.borderOf_setFram (m : Nat) (x : Fram) (n : Nat) : (b.setFram m x).borderOf n = b.borderOf n := rfl
@[simp] theorem Bay.borderOf_setCellT (m : Nat) (x : Int × Int) (n : Nat) : (b.setCellT m x).borderOf n = b.borderOf n := rfl
@[simp] theorem Bay.borderOf_setSlot (m : Nat) (x : SlotView) (n : Nat) : (b.setSlot m x).borderOf n = b.borderOf n := rfl
@[simp] theorem Bay.borderOf_setChan (m : Nat) (x : Chan) (n : Nat) : (b.setChan m x).borderOf n = b.borderOf n := rfl
@[simp] theorem Bay.borderOf_setMeans (m : Nat) (x : Means) (n : Nat) : (b.setMeans m x).borderOf n = b.borderOf n := rfl
@[simp] theorem Bay.borderOf_setRing (m : Nat) (x : Ring) (n : Nat) : (b.setRing m x).borderOf n = b.borderOf n := rfl
@[simp] theorem Bay.borderOf_setMeasCh (m : Nat) (x : MeasCh) (n : Nat) : (b.setMeasCh m x).borderOf n = b.borderOf n := rfl
@[simp] theorem Bay.borderOf_setEng (m : Nat) (x : Eng) (n : Nat) : (b.setEng m x).borderOf n = b.borderOf n := rfl
@[simp] theorem Bay.borderOf_setGroup (m : Nat) (x : Group) (n : Nat) : (b.setGroup m x).borderOf n = b.borderOf n := rfl
@[simp] theorem Bay.borderOf_setSweep (m : Nat) (x : Sweep) (n : Nat) : (b.setSweep m x).borderOf n = b.borderOf n := rfl
@[simp] theorem Bay.borderOf_setLoopCh (m : Nat) (x : LoopCh) (n : Nat) : (b.setLoopCh m x).borderOf n = b.borderOf n := rfl
@[simp] theorem Bay.borderOf_setLoopAx (m : Nat) (x : LoopAx) (n : Nat) : (b.setLoopAx m x).borderOf n = b.borderOf n := rfl
@[simp] theorem Bay.borderOf_setGrade (m : Nat) (x : Option GradeVec) (n : Nat) : (b.setGrade m x).borderOf n = b.borderOf n := rfl
@[simp] theorem Bay.borderOf_setTrace (m : Nat) (x : Trace) (n : Nat) : (b.setTrace m x).borderOf n = b.borderOf n := rfl
@[simp] theorem Bay.borderOf_setWale (m : Nat) (x : Wale) (n : Nat) : (b.setWale m x).borderOf n = b.borderOf n := rfl
@[simp] theorem Bay.borderOf_setAxis (m : Nat) (x : Axis) (n : Nat) : (b.setAxis m x).borderOf n = b.borderOf n := rfl
@[simp] theorem Bay.borderOf_setEnc (m : Nat) (x : Enc) (n : Nat) : (b.setEnc m x).borderOf n = b.borderOf n := rfl
@[simp] theorem Bay.borderOf_setThermCh (m : Nat) (x : ThermCh) (n : Nat) : (b.setThermCh m x).borderOf n = b.borderOf n := rfl
@[simp] theorem Bay.borderOf_setCan (m : Nat) (x : Can) (n : Nat) : (b.setCan m x).borderOf n = b.borderOf n := rfl
@[simp] theorem Bay.borderOf_setLatch (m : Nat) (x : Latch) (n : Nat) : (b.setLatch m x).borderOf n = b.borderOf n := rfl
@[simp] theorem Bay.borderOf_send (x : OutMsg) (n : Nat) : (b.send x).borderOf n = b.borderOf n := rfl
@[simp] theorem Bay.borderOf_setModeSt (x : ModeSt) (n : Nat) : (b.setModeSt x).borderOf n = b.borderOf n := rfl
@[simp] theorem Bay.borderOf_setPlant (x : Plant) (n : Nat) : (b.setPlant x).borderOf n = b.borderOf n := rfl
@[simp] theorem Bay.borderOf_setSafe (x : Safe) (n : Nat) : (b.setSafe x).borderOf n = b.borderOf n := rfl
@[simp] theorem Bay.borderOf_setTherm (x : Therm) (n : Nat) : (b.setTherm x).borderOf n = b.borderOf n := rfl
@[simp] theorem Bay.borderOf_setWeave (x : Weave) (n : Nat) : (b.setWeave x).borderOf n = b.borderOf n := rfl
@[simp] theorem Bay.borderOf_setTrust (x : Trust) (n : Nat) : (b.setTrust x).borderOf n = b.borderOf n := rfl
@[simp] theorem Bay.borderOf_shadowWrite (k : Key) (v : Int) (n : Nat) : (b.shadowWrite k v).borderOf n = b.borderOf n := rfl
@[simp] theorem Bay.mk_borderOf (f_regs : Store) (f_now : Nat) (f_shadows : List Shadow) (f_hiLatch : Store) (f_setT : Store) (f_edge : EdgeView) (f_log : List EvEntry) (f_episode : Bool) (f_evBits : List EvBit) (f_stage : Tab Stage) (f_driver : Tab Driver) (f_fram : Tab Fram) (f_border : Tab Border) (f_chan : Tab Chan) (f_means : Tab Means) (f_ring : Tab Ring) (f_cellT : Tab (Int × Int)) (f_slotv : Tab SlotView) (f_measCh : Tab MeasCh) (f_measSt : MeasSt) (f_eng : Tab Eng) (f_images : List Image) (f_verMax : List (Int × Int)) (f_revoked : List Int) (f_groups : Tab Group) (f_sweep : Tab Sweep) (f_loopCh : Tab LoopCh) (f_loopAx : Tab LoopAx) (f_trace : Tab Trace) (f_grade : Tab (Option GradeVec)) (f_modeSt : ModeSt) (f_plant : Plant) (f_wale : Tab Wale) (f_axis : Tab Axis) (f_axRec : List AxRec) (f_enc : Tab Enc) (f_thermCh : Tab ThermCh) (f_therm : Therm) (f_safe : Safe) (f_red : Red) (f_memHid : MemHid) (f_trust : Trust) (f_weave : Weave) (f_can : Tab Can) (f_latch : Tab Latch) (f_shortReq : Bool) (f_out : List OutMsg) (f_fresh : Nat) (n : Nat) : (Bay.mk f_regs f_now f_shadows f_hiLatch f_setT f_edge f_log f_episode f_evBits f_stage f_driver f_fram f_border f_chan f_means f_ring f_cellT f_slotv f_measCh f_measSt f_eng f_images f_verMax f_revoked f_groups f_sweep f_loopCh f_loopAx f_trace f_grade f_modeSt f_plant f_wale f_axis f_axRec f_enc f_thermCh f_therm f_safe f_red f_memHid f_trust f_weave f_can f_latch f_shortReq f_out f_fresh).borderOf n = Tab.get {} f_border n := rfl
@[simp] theorem Bay.fold_borderOf (n : Nat) : Tab.get {} b.border n = b.borderOf n := rfl
@[simp] theorem Bay.cellTOf_setCellT_same (n : Nat) (x : Int × Int) : (b.setCellT n x).cellTOf n = x := by simp [Bay.cellTOf, Bay.setCellT, Tab.get_put]
@[simp] theorem Bay.cellTOf_setCellT_of_ne {n m : Nat} (x : Int × Int) (h : ¬ n = m) : (b.setCellT n x).cellTOf m = b.cellTOf m := by simp [Bay.cellTOf, Bay.setCellT, Tab.get_put, h]
@[simp] theorem Bay.cellTOf_wr (k : Key) (v : Int) (n : Nat) : (b.wr k v).cellTOf n = b.cellTOf n := rfl
@[simp] theorem Bay.cellTOf_setFlag (k : Key) (v : Bool) (n : Nat) : (b.setFlag k v).cellTOf n = b.cellTOf n := rfl
@[simp] theorem Bay.cellTOf_bump32 (k : Key) (n : Nat) : (b.bump32 k).cellTOf n = b.cellTOf n := rfl
@[simp] theorem Bay.cellTOf_setSticky (k : Key) (n : Nat) : (b.setSticky k).cellTOf n = b.cellTOf n := rfl
@[simp] theorem Bay.cellTOf_clearSticky (k : Key) (n : Nat) : (b.clearSticky k).cellTOf n = b.cellTOf n := by unfold Bay.clearSticky; split <;> rfl
@[simp] theorem Bay.cellTOf_bumpSat (k : Key) (p m : Int) (n : Nat) : (b.bumpSat k p m).cellTOf n = b.cellTOf n := rfl
@[simp] theorem Bay.cellTOf_note (src : Nat) (n : Nat) : (b.note src).cellTOf n = b.cellTOf n := by simp [Bay.cellTOf]
@[simp] theorem Bay.cellTOf_raise (src : Nat) (d v : Int) (n : Nat) : (b.raise src d v).cellTOf n = b.cellTOf n := by simp [Bay.cellTOf]
@[simp] theorem Bay.cellTOf_raiseD (src : Nat) (d : Int) (n : Nat) : (b.raiseD src d).cellTOf n = b.cellTOf n := by simp [Bay.cellTOf]
@[simp] theorem Bay.cellTOf_raiseAt (t src : Nat) (d v : Int) (n : Nat) : (b.raiseAt t src d v).cellTOf n = b.cellTOf n := by simp [Bay.cellTOf]
@[simp] theorem Bay.cellTOf_refuse (k : Key) (r : Int) (n : Nat) : (b.refuse k r).cellTOf n = b.cellTOf n := by simp [Bay.cellTOf]
@[simp] theorem Bay.cellTOf_cfgErr (a : Nat) (r : Int) (n : Nat) : (b.cfgErr a r).cellTOf n = b.cellTOf n := by simp [Bay.cellTOf]
@[simp] theorem Bay.cellTOf_sendEvBit (t e i : Nat) (n : Nat) : (b.sendEvBit t e i).cellTOf n = b.cellTOf n := rfl
@[simp] theorem Bay.cellTOf_setStage (m : Nat) (x : Stage) (n : Nat) : (b.setStage m x).cellTOf n = b.cellTOf n := rfl
@[simp] theorem Bay.cellTOf_setDriver (m : Nat) (x : Driver) (n : Nat) : (b.setDriver m x).cellTOf n = b.cellTOf n := rfl
@[simp] theorem Bay.cellTOf_setFram (m : Nat) (x : Fram) (n : Nat) : (b.setFram m x).cellTOf n = b.cellTOf n := rfl
@[simp] theorem Bay.cellTOf_setBorder (m : Nat) (x : Border) (n : Nat) : (b.setBorder m x).cellTOf n = b.cellTOf n := rfl
@[simp] theorem Bay.cellTOf_setSlot (m : Nat) (x : SlotView) (n : Nat) : (b.setSlot m x).cellTOf n = b.cellTOf n := rfl
@[simp] theorem Bay.cellTOf_setChan (m : Nat) (x : Chan) (n : Nat) : (b.setChan m x).cellTOf n = b.cellTOf n := rfl
@[simp] theorem Bay.cellTOf_setMeans (m : Nat) (x : Means) (n : Nat) : (b.setMeans m x).cellTOf n = b.cellTOf n := rfl
@[simp] theorem Bay.cellTOf_setRing (m : Nat) (x : Ring) (n : Nat) : (b.setRing m x).cellTOf n = b.cellTOf n := rfl
@[simp] theorem Bay.cellTOf_setMeasCh (m : Nat) (x : MeasCh) (n : Nat) : (b.setMeasCh m x).cellTOf n = b.cellTOf n := rfl
@[simp] theorem Bay.cellTOf_setEng (m : Nat) (x : Eng) (n : Nat) : (b.setEng m x).cellTOf n = b.cellTOf n := rfl
@[simp] theorem Bay.cellTOf_setGroup (m : Nat) (x : Group) (n : Nat) : (b.setGroup m x).cellTOf n = b.cellTOf n := rfl
@[simp] theorem Bay.cellTOf_setSweep (m : Nat) (x : Sweep) (n : Nat) : (b.setSweep m x).cellTOf n = b.cellTOf n := rfl
@[simp] theorem Bay.cellTOf_setLoopCh (m : Nat) (x : LoopCh) (n : Nat) : (b.setLoopCh m x).cellTOf n = b.cellTOf n := rfl
@[simp] theorem Bay.cellTOf_setLoopAx (m : Nat) (x : LoopAx) (n : Nat) : (b.setLoopAx m x).cellTOf n = b.cellTOf n := rfl
@[simp] theorem Bay.cellTOf_setGrade (m : Nat) (x : Option GradeVec) (n : Nat) : (b.setGrade m x).cellTOf n = b.cellTOf n := rfl
@[simp] theorem Bay.cellTOf_setTrace (m : Nat) (x : Trace) (n : Nat) : (b.setTrace m x).cellTOf n = b.cellTOf n := rfl
@[simp] theorem Bay.cellTOf_setWale (m : Nat) (x : Wale) (n : Nat) : (b.setWale m x).cellTOf n = b.cellTOf n := rfl
@[simp] theorem Bay.cellTOf_setAxis (m : Nat) (x : Axis) (n : Nat) : (b.setAxis m x).cellTOf n = b.cellTOf n := rfl
@[simp] theorem Bay.cellTOf_setEnc (m : Nat) (x : Enc) (n : Nat) : (b.setEnc m x).cellTOf n = b.cellTOf n := rfl
@[simp] theorem Bay.cellTOf_setThermCh (m : Nat) (x : ThermCh) (n : Nat) : (b.setThermCh m x).cellTOf n = b.cellTOf n := rfl
@[simp] theorem Bay.cellTOf_setCan (m : Nat) (x : Can) (n : Nat) : (b.setCan m x).cellTOf n = b.cellTOf n := rfl
@[simp] theorem Bay.cellTOf_setLatch (m : Nat) (x : Latch) (n : Nat) : (b.setLatch m x).cellTOf n = b.cellTOf n := rfl
@[simp] theorem Bay.cellTOf_send (x : OutMsg) (n : Nat) : (b.send x).cellTOf n = b.cellTOf n := rfl
@[simp] theorem Bay.cellTOf_setModeSt (x : ModeSt) (n : Nat) : (b.setModeSt x).cellTOf n = b.cellTOf n := rfl
@[simp] theorem Bay.cellTOf_setPlant (x : Plant) (n : Nat) : (b.setPlant x).cellTOf n = b.cellTOf n := rfl
@[simp] theorem Bay.cellTOf_setSafe (x : Safe) (n : Nat) : (b.setSafe x).cellTOf n = b.cellTOf n := rfl
@[simp] theorem Bay.cellTOf_setTherm (x : Therm) (n : Nat) : (b.setTherm x).cellTOf n = b.cellTOf n := rfl
@[simp] theorem Bay.cellTOf_setWeave (x : Weave) (n : Nat) : (b.setWeave x).cellTOf n = b.cellTOf n := rfl
@[simp] theorem Bay.cellTOf_setTrust (x : Trust) (n : Nat) : (b.setTrust x).cellTOf n = b.cellTOf n := rfl
@[simp] theorem Bay.cellTOf_shadowWrite (k : Key) (v : Int) (n : Nat) : (b.shadowWrite k v).cellTOf n = b.cellTOf n := rfl
@[simp] theorem Bay.mk_cellTOf (f_regs : Store) (f_now : Nat) (f_shadows : List Shadow) (f_hiLatch : Store) (f_setT : Store) (f_edge : EdgeView) (f_log : List EvEntry) (f_episode : Bool) (f_evBits : List EvBit) (f_stage : Tab Stage) (f_driver : Tab Driver) (f_fram : Tab Fram) (f_border : Tab Border) (f_chan : Tab Chan) (f_means : Tab Means) (f_ring : Tab Ring) (f_cellT : Tab (Int × Int)) (f_slotv : Tab SlotView) (f_measCh : Tab MeasCh) (f_measSt : MeasSt) (f_eng : Tab Eng) (f_images : List Image) (f_verMax : List (Int × Int)) (f_revoked : List Int) (f_groups : Tab Group) (f_sweep : Tab Sweep) (f_loopCh : Tab LoopCh) (f_loopAx : Tab LoopAx) (f_trace : Tab Trace) (f_grade : Tab (Option GradeVec)) (f_modeSt : ModeSt) (f_plant : Plant) (f_wale : Tab Wale) (f_axis : Tab Axis) (f_axRec : List AxRec) (f_enc : Tab Enc) (f_thermCh : Tab ThermCh) (f_therm : Therm) (f_safe : Safe) (f_red : Red) (f_memHid : MemHid) (f_trust : Trust) (f_weave : Weave) (f_can : Tab Can) (f_latch : Tab Latch) (f_shortReq : Bool) (f_out : List OutMsg) (f_fresh : Nat) (n : Nat) : (Bay.mk f_regs f_now f_shadows f_hiLatch f_setT f_edge f_log f_episode f_evBits f_stage f_driver f_fram f_border f_chan f_means f_ring f_cellT f_slotv f_measCh f_measSt f_eng f_images f_verMax f_revoked f_groups f_sweep f_loopCh f_loopAx f_trace f_grade f_modeSt f_plant f_wale f_axis f_axRec f_enc f_thermCh f_therm f_safe f_red f_memHid f_trust f_weave f_can f_latch f_shortReq f_out f_fresh).cellTOf n = Tab.get (0, 0) f_cellT n := rfl
@[simp] theorem Bay.fold_cellTOf (n : Nat) : Tab.get (0, 0) b.cellT n = b.cellTOf n := rfl
@[simp] theorem Bay.slotOf_setSlot_same (n : Nat) (x : SlotView) : (b.setSlot n x).slotOf n = x := by simp [Bay.slotOf, Bay.setSlot, Tab.get_put]
@[simp] theorem Bay.slotOf_setSlot_of_ne {n m : Nat} (x : SlotView) (h : ¬ n = m) : (b.setSlot n x).slotOf m = b.slotOf m := by simp [Bay.slotOf, Bay.setSlot, Tab.get_put, h]
@[simp] theorem Bay.slotOf_wr (k : Key) (v : Int) (n : Nat) : (b.wr k v).slotOf n = b.slotOf n := rfl
@[simp] theorem Bay.slotOf_setFlag (k : Key) (v : Bool) (n : Nat) : (b.setFlag k v).slotOf n = b.slotOf n := rfl
@[simp] theorem Bay.slotOf_bump32 (k : Key) (n : Nat) : (b.bump32 k).slotOf n = b.slotOf n := rfl
@[simp] theorem Bay.slotOf_setSticky (k : Key) (n : Nat) : (b.setSticky k).slotOf n = b.slotOf n := rfl
@[simp] theorem Bay.slotOf_clearSticky (k : Key) (n : Nat) : (b.clearSticky k).slotOf n = b.slotOf n := by unfold Bay.clearSticky; split <;> rfl
@[simp] theorem Bay.slotOf_bumpSat (k : Key) (p m : Int) (n : Nat) : (b.bumpSat k p m).slotOf n = b.slotOf n := rfl
@[simp] theorem Bay.slotOf_note (src : Nat) (n : Nat) : (b.note src).slotOf n = b.slotOf n := by simp [Bay.slotOf]
@[simp] theorem Bay.slotOf_raise (src : Nat) (d v : Int) (n : Nat) : (b.raise src d v).slotOf n = b.slotOf n := by simp [Bay.slotOf]
@[simp] theorem Bay.slotOf_raiseD (src : Nat) (d : Int) (n : Nat) : (b.raiseD src d).slotOf n = b.slotOf n := by simp [Bay.slotOf]
@[simp] theorem Bay.slotOf_raiseAt (t src : Nat) (d v : Int) (n : Nat) : (b.raiseAt t src d v).slotOf n = b.slotOf n := by simp [Bay.slotOf]
@[simp] theorem Bay.slotOf_refuse (k : Key) (r : Int) (n : Nat) : (b.refuse k r).slotOf n = b.slotOf n := by simp [Bay.slotOf]
@[simp] theorem Bay.slotOf_cfgErr (a : Nat) (r : Int) (n : Nat) : (b.cfgErr a r).slotOf n = b.slotOf n := by simp [Bay.slotOf]
@[simp] theorem Bay.slotOf_sendEvBit (t e i : Nat) (n : Nat) : (b.sendEvBit t e i).slotOf n = b.slotOf n := rfl
@[simp] theorem Bay.slotOf_setStage (m : Nat) (x : Stage) (n : Nat) : (b.setStage m x).slotOf n = b.slotOf n := rfl
@[simp] theorem Bay.slotOf_setDriver (m : Nat) (x : Driver) (n : Nat) : (b.setDriver m x).slotOf n = b.slotOf n := rfl
@[simp] theorem Bay.slotOf_setFram (m : Nat) (x : Fram) (n : Nat) : (b.setFram m x).slotOf n = b.slotOf n := rfl
@[simp] theorem Bay.slotOf_setBorder (m : Nat) (x : Border) (n : Nat) : (b.setBorder m x).slotOf n = b.slotOf n := rfl
@[simp] theorem Bay.slotOf_setCellT (m : Nat) (x : Int × Int) (n : Nat) : (b.setCellT m x).slotOf n = b.slotOf n := rfl
@[simp] theorem Bay.slotOf_setChan (m : Nat) (x : Chan) (n : Nat) : (b.setChan m x).slotOf n = b.slotOf n := rfl
@[simp] theorem Bay.slotOf_setMeans (m : Nat) (x : Means) (n : Nat) : (b.setMeans m x).slotOf n = b.slotOf n := rfl
@[simp] theorem Bay.slotOf_setRing (m : Nat) (x : Ring) (n : Nat) : (b.setRing m x).slotOf n = b.slotOf n := rfl
@[simp] theorem Bay.slotOf_setMeasCh (m : Nat) (x : MeasCh) (n : Nat) : (b.setMeasCh m x).slotOf n = b.slotOf n := rfl
@[simp] theorem Bay.slotOf_setEng (m : Nat) (x : Eng) (n : Nat) : (b.setEng m x).slotOf n = b.slotOf n := rfl
@[simp] theorem Bay.slotOf_setGroup (m : Nat) (x : Group) (n : Nat) : (b.setGroup m x).slotOf n = b.slotOf n := rfl
@[simp] theorem Bay.slotOf_setSweep (m : Nat) (x : Sweep) (n : Nat) : (b.setSweep m x).slotOf n = b.slotOf n := rfl
@[simp] theorem Bay.slotOf_setLoopCh (m : Nat) (x : LoopCh) (n : Nat) : (b.setLoopCh m x).slotOf n = b.slotOf n := rfl
@[simp] theorem Bay.slotOf_setLoopAx (m : Nat) (x : LoopAx) (n : Nat) : (b.setLoopAx m x).slotOf n = b.slotOf n := rfl
@[simp] theorem Bay.slotOf_setGrade (m : Nat) (x : Option GradeVec) (n : Nat) : (b.setGrade m x).slotOf n = b.slotOf n := rfl
@[simp] theorem Bay.slotOf_setTrace (m : Nat) (x : Trace) (n : Nat) : (b.setTrace m x).slotOf n = b.slotOf n := rfl
@[simp] theorem Bay.slotOf_setWale (m : Nat) (x : Wale) (n : Nat) : (b.setWale m x).slotOf n = b.slotOf n := rfl
@[simp] theorem Bay.slotOf_setAxis (m : Nat) (x : Axis) (n : Nat) : (b.setAxis m x).slotOf n = b.slotOf n := rfl
@[simp] theorem Bay.slotOf_setEnc (m : Nat) (x : Enc) (n : Nat) : (b.setEnc m x).slotOf n = b.slotOf n := rfl
@[simp] theorem Bay.slotOf_setThermCh (m : Nat) (x : ThermCh) (n : Nat) : (b.setThermCh m x).slotOf n = b.slotOf n := rfl
@[simp] theorem Bay.slotOf_setCan (m : Nat) (x : Can) (n : Nat) : (b.setCan m x).slotOf n = b.slotOf n := rfl
@[simp] theorem Bay.slotOf_setLatch (m : Nat) (x : Latch) (n : Nat) : (b.setLatch m x).slotOf n = b.slotOf n := rfl
@[simp] theorem Bay.slotOf_send (x : OutMsg) (n : Nat) : (b.send x).slotOf n = b.slotOf n := rfl
@[simp] theorem Bay.slotOf_setModeSt (x : ModeSt) (n : Nat) : (b.setModeSt x).slotOf n = b.slotOf n := rfl
@[simp] theorem Bay.slotOf_setPlant (x : Plant) (n : Nat) : (b.setPlant x).slotOf n = b.slotOf n := rfl
@[simp] theorem Bay.slotOf_setSafe (x : Safe) (n : Nat) : (b.setSafe x).slotOf n = b.slotOf n := rfl
@[simp] theorem Bay.slotOf_setTherm (x : Therm) (n : Nat) : (b.setTherm x).slotOf n = b.slotOf n := rfl
@[simp] theorem Bay.slotOf_setWeave (x : Weave) (n : Nat) : (b.setWeave x).slotOf n = b.slotOf n := rfl
@[simp] theorem Bay.slotOf_setTrust (x : Trust) (n : Nat) : (b.setTrust x).slotOf n = b.slotOf n := rfl
@[simp] theorem Bay.slotOf_shadowWrite (k : Key) (v : Int) (n : Nat) : (b.shadowWrite k v).slotOf n = b.slotOf n := rfl
@[simp] theorem Bay.mk_slotOf (f_regs : Store) (f_now : Nat) (f_shadows : List Shadow) (f_hiLatch : Store) (f_setT : Store) (f_edge : EdgeView) (f_log : List EvEntry) (f_episode : Bool) (f_evBits : List EvBit) (f_stage : Tab Stage) (f_driver : Tab Driver) (f_fram : Tab Fram) (f_border : Tab Border) (f_chan : Tab Chan) (f_means : Tab Means) (f_ring : Tab Ring) (f_cellT : Tab (Int × Int)) (f_slotv : Tab SlotView) (f_measCh : Tab MeasCh) (f_measSt : MeasSt) (f_eng : Tab Eng) (f_images : List Image) (f_verMax : List (Int × Int)) (f_revoked : List Int) (f_groups : Tab Group) (f_sweep : Tab Sweep) (f_loopCh : Tab LoopCh) (f_loopAx : Tab LoopAx) (f_trace : Tab Trace) (f_grade : Tab (Option GradeVec)) (f_modeSt : ModeSt) (f_plant : Plant) (f_wale : Tab Wale) (f_axis : Tab Axis) (f_axRec : List AxRec) (f_enc : Tab Enc) (f_thermCh : Tab ThermCh) (f_therm : Therm) (f_safe : Safe) (f_red : Red) (f_memHid : MemHid) (f_trust : Trust) (f_weave : Weave) (f_can : Tab Can) (f_latch : Tab Latch) (f_shortReq : Bool) (f_out : List OutMsg) (f_fresh : Nat) (n : Nat) : (Bay.mk f_regs f_now f_shadows f_hiLatch f_setT f_edge f_log f_episode f_evBits f_stage f_driver f_fram f_border f_chan f_means f_ring f_cellT f_slotv f_measCh f_measSt f_eng f_images f_verMax f_revoked f_groups f_sweep f_loopCh f_loopAx f_trace f_grade f_modeSt f_plant f_wale f_axis f_axRec f_enc f_thermCh f_therm f_safe f_red f_memHid f_trust f_weave f_can f_latch f_shortReq f_out f_fresh).slotOf n = Tab.get {} f_slotv n := rfl
@[simp] theorem Bay.fold_slotOf (n : Nat) : Tab.get {} b.slotv n = b.slotOf n := rfl
@[simp] theorem Bay.chanOf_setChan_same (n : Nat) (x : Chan) : (b.setChan n x).chanOf n = x := by simp [Bay.chanOf, Bay.setChan, Tab.get_put]
@[simp] theorem Bay.chanOf_setChan_of_ne {n m : Nat} (x : Chan) (h : ¬ n = m) : (b.setChan n x).chanOf m = b.chanOf m := by simp [Bay.chanOf, Bay.setChan, Tab.get_put, h]
@[simp] theorem Bay.chanOf_wr (k : Key) (v : Int) (n : Nat) : (b.wr k v).chanOf n = b.chanOf n := rfl
@[simp] theorem Bay.chanOf_setFlag (k : Key) (v : Bool) (n : Nat) : (b.setFlag k v).chanOf n = b.chanOf n := rfl
@[simp] theorem Bay.chanOf_bump32 (k : Key) (n : Nat) : (b.bump32 k).chanOf n = b.chanOf n := rfl
@[simp] theorem Bay.chanOf_setSticky (k : Key) (n : Nat) : (b.setSticky k).chanOf n = b.chanOf n := rfl
@[simp] theorem Bay.chanOf_clearSticky (k : Key) (n : Nat) : (b.clearSticky k).chanOf n = b.chanOf n := by unfold Bay.clearSticky; split <;> rfl
@[simp] theorem Bay.chanOf_bumpSat (k : Key) (p m : Int) (n : Nat) : (b.bumpSat k p m).chanOf n = b.chanOf n := rfl
@[simp] theorem Bay.chanOf_note (src : Nat) (n : Nat) : (b.note src).chanOf n = b.chanOf n := by simp [Bay.chanOf]
@[simp] theorem Bay.chanOf_raise (src : Nat) (d v : Int) (n : Nat) : (b.raise src d v).chanOf n = b.chanOf n := by simp [Bay.chanOf]
@[simp] theorem Bay.chanOf_raiseD (src : Nat) (d : Int) (n : Nat) : (b.raiseD src d).chanOf n = b.chanOf n := by simp [Bay.chanOf]
@[simp] theorem Bay.chanOf_raiseAt (t src : Nat) (d v : Int) (n : Nat) : (b.raiseAt t src d v).chanOf n = b.chanOf n := by simp [Bay.chanOf]
@[simp] theorem Bay.chanOf_refuse (k : Key) (r : Int) (n : Nat) : (b.refuse k r).chanOf n = b.chanOf n := by simp [Bay.chanOf]
@[simp] theorem Bay.chanOf_cfgErr (a : Nat) (r : Int) (n : Nat) : (b.cfgErr a r).chanOf n = b.chanOf n := by simp [Bay.chanOf]
@[simp] theorem Bay.chanOf_sendEvBit (t e i : Nat) (n : Nat) : (b.sendEvBit t e i).chanOf n = b.chanOf n := rfl
@[simp] theorem Bay.chanOf_setStage (m : Nat) (x : Stage) (n : Nat) : (b.setStage m x).chanOf n = b.chanOf n := rfl
@[simp] theorem Bay.chanOf_setDriver (m : Nat) (x : Driver) (n : Nat) : (b.setDriver m x).chanOf n = b.chanOf n := rfl
@[simp] theorem Bay.chanOf_setFram (m : Nat) (x : Fram) (n : Nat) : (b.setFram m x).chanOf n = b.chanOf n := rfl
@[simp] theorem Bay.chanOf_setBorder (m : Nat) (x : Border) (n : Nat) : (b.setBorder m x).chanOf n = b.chanOf n := rfl
@[simp] theorem Bay.chanOf_setCellT (m : Nat) (x : Int × Int) (n : Nat) : (b.setCellT m x).chanOf n = b.chanOf n := rfl
@[simp] theorem Bay.chanOf_setSlot (m : Nat) (x : SlotView) (n : Nat) : (b.setSlot m x).chanOf n = b.chanOf n := rfl
@[simp] theorem Bay.chanOf_setMeans (m : Nat) (x : Means) (n : Nat) : (b.setMeans m x).chanOf n = b.chanOf n := rfl
@[simp] theorem Bay.chanOf_setRing (m : Nat) (x : Ring) (n : Nat) : (b.setRing m x).chanOf n = b.chanOf n := rfl
@[simp] theorem Bay.chanOf_setMeasCh (m : Nat) (x : MeasCh) (n : Nat) : (b.setMeasCh m x).chanOf n = b.chanOf n := rfl
@[simp] theorem Bay.chanOf_setEng (m : Nat) (x : Eng) (n : Nat) : (b.setEng m x).chanOf n = b.chanOf n := rfl
@[simp] theorem Bay.chanOf_setGroup (m : Nat) (x : Group) (n : Nat) : (b.setGroup m x).chanOf n = b.chanOf n := rfl
@[simp] theorem Bay.chanOf_setSweep (m : Nat) (x : Sweep) (n : Nat) : (b.setSweep m x).chanOf n = b.chanOf n := rfl
@[simp] theorem Bay.chanOf_setLoopCh (m : Nat) (x : LoopCh) (n : Nat) : (b.setLoopCh m x).chanOf n = b.chanOf n := rfl
@[simp] theorem Bay.chanOf_setLoopAx (m : Nat) (x : LoopAx) (n : Nat) : (b.setLoopAx m x).chanOf n = b.chanOf n := rfl
@[simp] theorem Bay.chanOf_setGrade (m : Nat) (x : Option GradeVec) (n : Nat) : (b.setGrade m x).chanOf n = b.chanOf n := rfl
@[simp] theorem Bay.chanOf_setTrace (m : Nat) (x : Trace) (n : Nat) : (b.setTrace m x).chanOf n = b.chanOf n := rfl
@[simp] theorem Bay.chanOf_setWale (m : Nat) (x : Wale) (n : Nat) : (b.setWale m x).chanOf n = b.chanOf n := rfl
@[simp] theorem Bay.chanOf_setAxis (m : Nat) (x : Axis) (n : Nat) : (b.setAxis m x).chanOf n = b.chanOf n := rfl
@[simp] theorem Bay.chanOf_setEnc (m : Nat) (x : Enc) (n : Nat) : (b.setEnc m x).chanOf n = b.chanOf n := rfl
@[simp] theorem Bay.chanOf_setThermCh (m : Nat) (x : ThermCh) (n : Nat) : (b.setThermCh m x).chanOf n = b.chanOf n := rfl
@[simp] theorem Bay.chanOf_setCan (m : Nat) (x : Can) (n : Nat) : (b.setCan m x).chanOf n = b.chanOf n := rfl
@[simp] theorem Bay.chanOf_setLatch (m : Nat) (x : Latch) (n : Nat) : (b.setLatch m x).chanOf n = b.chanOf n := rfl
@[simp] theorem Bay.chanOf_send (x : OutMsg) (n : Nat) : (b.send x).chanOf n = b.chanOf n := rfl
@[simp] theorem Bay.chanOf_setModeSt (x : ModeSt) (n : Nat) : (b.setModeSt x).chanOf n = b.chanOf n := rfl
@[simp] theorem Bay.chanOf_setPlant (x : Plant) (n : Nat) : (b.setPlant x).chanOf n = b.chanOf n := rfl
@[simp] theorem Bay.chanOf_setSafe (x : Safe) (n : Nat) : (b.setSafe x).chanOf n = b.chanOf n := rfl
@[simp] theorem Bay.chanOf_setTherm (x : Therm) (n : Nat) : (b.setTherm x).chanOf n = b.chanOf n := rfl
@[simp] theorem Bay.chanOf_setWeave (x : Weave) (n : Nat) : (b.setWeave x).chanOf n = b.chanOf n := rfl
@[simp] theorem Bay.chanOf_setTrust (x : Trust) (n : Nat) : (b.setTrust x).chanOf n = b.chanOf n := rfl
@[simp] theorem Bay.chanOf_shadowWrite (k : Key) (v : Int) (n : Nat) : (b.shadowWrite k v).chanOf n = b.chanOf n := rfl
@[simp] theorem Bay.mk_chanOf (f_regs : Store) (f_now : Nat) (f_shadows : List Shadow) (f_hiLatch : Store) (f_setT : Store) (f_edge : EdgeView) (f_log : List EvEntry) (f_episode : Bool) (f_evBits : List EvBit) (f_stage : Tab Stage) (f_driver : Tab Driver) (f_fram : Tab Fram) (f_border : Tab Border) (f_chan : Tab Chan) (f_means : Tab Means) (f_ring : Tab Ring) (f_cellT : Tab (Int × Int)) (f_slotv : Tab SlotView) (f_measCh : Tab MeasCh) (f_measSt : MeasSt) (f_eng : Tab Eng) (f_images : List Image) (f_verMax : List (Int × Int)) (f_revoked : List Int) (f_groups : Tab Group) (f_sweep : Tab Sweep) (f_loopCh : Tab LoopCh) (f_loopAx : Tab LoopAx) (f_trace : Tab Trace) (f_grade : Tab (Option GradeVec)) (f_modeSt : ModeSt) (f_plant : Plant) (f_wale : Tab Wale) (f_axis : Tab Axis) (f_axRec : List AxRec) (f_enc : Tab Enc) (f_thermCh : Tab ThermCh) (f_therm : Therm) (f_safe : Safe) (f_red : Red) (f_memHid : MemHid) (f_trust : Trust) (f_weave : Weave) (f_can : Tab Can) (f_latch : Tab Latch) (f_shortReq : Bool) (f_out : List OutMsg) (f_fresh : Nat) (n : Nat) : (Bay.mk f_regs f_now f_shadows f_hiLatch f_setT f_edge f_log f_episode f_evBits f_stage f_driver f_fram f_border f_chan f_means f_ring f_cellT f_slotv f_measCh f_measSt f_eng f_images f_verMax f_revoked f_groups f_sweep f_loopCh f_loopAx f_trace f_grade f_modeSt f_plant f_wale f_axis f_axRec f_enc f_thermCh f_therm f_safe f_red f_memHid f_trust f_weave f_can f_latch f_shortReq f_out f_fresh).chanOf n = Tab.get {} f_chan n := rfl
@[simp] theorem Bay.fold_chanOf (n : Nat) : Tab.get {} b.chan n = b.chanOf n := rfl
@[simp] theorem Bay.meansOf_setMeans_same (n : Nat) (x : Means) : (b.setMeans n x).meansOf n = x := by simp [Bay.meansOf, Bay.setMeans, Tab.get_put]
@[simp] theorem Bay.meansOf_setMeans_of_ne {n m : Nat} (x : Means) (h : ¬ n = m) : (b.setMeans n x).meansOf m = b.meansOf m := by simp [Bay.meansOf, Bay.setMeans, Tab.get_put, h]
@[simp] theorem Bay.meansOf_wr (k : Key) (v : Int) (n : Nat) : (b.wr k v).meansOf n = b.meansOf n := rfl
@[simp] theorem Bay.meansOf_setFlag (k : Key) (v : Bool) (n : Nat) : (b.setFlag k v).meansOf n = b.meansOf n := rfl
@[simp] theorem Bay.meansOf_bump32 (k : Key) (n : Nat) : (b.bump32 k).meansOf n = b.meansOf n := rfl
@[simp] theorem Bay.meansOf_setSticky (k : Key) (n : Nat) : (b.setSticky k).meansOf n = b.meansOf n := rfl
@[simp] theorem Bay.meansOf_clearSticky (k : Key) (n : Nat) : (b.clearSticky k).meansOf n = b.meansOf n := by unfold Bay.clearSticky; split <;> rfl
@[simp] theorem Bay.meansOf_bumpSat (k : Key) (p m : Int) (n : Nat) : (b.bumpSat k p m).meansOf n = b.meansOf n := rfl
@[simp] theorem Bay.meansOf_note (src : Nat) (n : Nat) : (b.note src).meansOf n = b.meansOf n := by simp [Bay.meansOf]
@[simp] theorem Bay.meansOf_raise (src : Nat) (d v : Int) (n : Nat) : (b.raise src d v).meansOf n = b.meansOf n := by simp [Bay.meansOf]
@[simp] theorem Bay.meansOf_raiseD (src : Nat) (d : Int) (n : Nat) : (b.raiseD src d).meansOf n = b.meansOf n := by simp [Bay.meansOf]
@[simp] theorem Bay.meansOf_raiseAt (t src : Nat) (d v : Int) (n : Nat) : (b.raiseAt t src d v).meansOf n = b.meansOf n := by simp [Bay.meansOf]
@[simp] theorem Bay.meansOf_refuse (k : Key) (r : Int) (n : Nat) : (b.refuse k r).meansOf n = b.meansOf n := by simp [Bay.meansOf]
@[simp] theorem Bay.meansOf_cfgErr (a : Nat) (r : Int) (n : Nat) : (b.cfgErr a r).meansOf n = b.meansOf n := by simp [Bay.meansOf]
@[simp] theorem Bay.meansOf_sendEvBit (t e i : Nat) (n : Nat) : (b.sendEvBit t e i).meansOf n = b.meansOf n := rfl
@[simp] theorem Bay.meansOf_setStage (m : Nat) (x : Stage) (n : Nat) : (b.setStage m x).meansOf n = b.meansOf n := rfl
@[simp] theorem Bay.meansOf_setDriver (m : Nat) (x : Driver) (n : Nat) : (b.setDriver m x).meansOf n = b.meansOf n := rfl
@[simp] theorem Bay.meansOf_setFram (m : Nat) (x : Fram) (n : Nat) : (b.setFram m x).meansOf n = b.meansOf n := rfl
@[simp] theorem Bay.meansOf_setBorder (m : Nat) (x : Border) (n : Nat) : (b.setBorder m x).meansOf n = b.meansOf n := rfl
@[simp] theorem Bay.meansOf_setCellT (m : Nat) (x : Int × Int) (n : Nat) : (b.setCellT m x).meansOf n = b.meansOf n := rfl
@[simp] theorem Bay.meansOf_setSlot (m : Nat) (x : SlotView) (n : Nat) : (b.setSlot m x).meansOf n = b.meansOf n := rfl
@[simp] theorem Bay.meansOf_setChan (m : Nat) (x : Chan) (n : Nat) : (b.setChan m x).meansOf n = b.meansOf n := rfl
@[simp] theorem Bay.meansOf_setRing (m : Nat) (x : Ring) (n : Nat) : (b.setRing m x).meansOf n = b.meansOf n := rfl
@[simp] theorem Bay.meansOf_setMeasCh (m : Nat) (x : MeasCh) (n : Nat) : (b.setMeasCh m x).meansOf n = b.meansOf n := rfl
@[simp] theorem Bay.meansOf_setEng (m : Nat) (x : Eng) (n : Nat) : (b.setEng m x).meansOf n = b.meansOf n := rfl
@[simp] theorem Bay.meansOf_setGroup (m : Nat) (x : Group) (n : Nat) : (b.setGroup m x).meansOf n = b.meansOf n := rfl
@[simp] theorem Bay.meansOf_setSweep (m : Nat) (x : Sweep) (n : Nat) : (b.setSweep m x).meansOf n = b.meansOf n := rfl
@[simp] theorem Bay.meansOf_setLoopCh (m : Nat) (x : LoopCh) (n : Nat) : (b.setLoopCh m x).meansOf n = b.meansOf n := rfl
@[simp] theorem Bay.meansOf_setLoopAx (m : Nat) (x : LoopAx) (n : Nat) : (b.setLoopAx m x).meansOf n = b.meansOf n := rfl
@[simp] theorem Bay.meansOf_setGrade (m : Nat) (x : Option GradeVec) (n : Nat) : (b.setGrade m x).meansOf n = b.meansOf n := rfl
@[simp] theorem Bay.meansOf_setTrace (m : Nat) (x : Trace) (n : Nat) : (b.setTrace m x).meansOf n = b.meansOf n := rfl
@[simp] theorem Bay.meansOf_setWale (m : Nat) (x : Wale) (n : Nat) : (b.setWale m x).meansOf n = b.meansOf n := rfl
@[simp] theorem Bay.meansOf_setAxis (m : Nat) (x : Axis) (n : Nat) : (b.setAxis m x).meansOf n = b.meansOf n := rfl
@[simp] theorem Bay.meansOf_setEnc (m : Nat) (x : Enc) (n : Nat) : (b.setEnc m x).meansOf n = b.meansOf n := rfl
@[simp] theorem Bay.meansOf_setThermCh (m : Nat) (x : ThermCh) (n : Nat) : (b.setThermCh m x).meansOf n = b.meansOf n := rfl
@[simp] theorem Bay.meansOf_setCan (m : Nat) (x : Can) (n : Nat) : (b.setCan m x).meansOf n = b.meansOf n := rfl
@[simp] theorem Bay.meansOf_setLatch (m : Nat) (x : Latch) (n : Nat) : (b.setLatch m x).meansOf n = b.meansOf n := rfl
@[simp] theorem Bay.meansOf_send (x : OutMsg) (n : Nat) : (b.send x).meansOf n = b.meansOf n := rfl
@[simp] theorem Bay.meansOf_setModeSt (x : ModeSt) (n : Nat) : (b.setModeSt x).meansOf n = b.meansOf n := rfl
@[simp] theorem Bay.meansOf_setPlant (x : Plant) (n : Nat) : (b.setPlant x).meansOf n = b.meansOf n := rfl
@[simp] theorem Bay.meansOf_setSafe (x : Safe) (n : Nat) : (b.setSafe x).meansOf n = b.meansOf n := rfl
@[simp] theorem Bay.meansOf_setTherm (x : Therm) (n : Nat) : (b.setTherm x).meansOf n = b.meansOf n := rfl
@[simp] theorem Bay.meansOf_setWeave (x : Weave) (n : Nat) : (b.setWeave x).meansOf n = b.meansOf n := rfl
@[simp] theorem Bay.meansOf_setTrust (x : Trust) (n : Nat) : (b.setTrust x).meansOf n = b.meansOf n := rfl
@[simp] theorem Bay.meansOf_shadowWrite (k : Key) (v : Int) (n : Nat) : (b.shadowWrite k v).meansOf n = b.meansOf n := rfl
@[simp] theorem Bay.mk_meansOf (f_regs : Store) (f_now : Nat) (f_shadows : List Shadow) (f_hiLatch : Store) (f_setT : Store) (f_edge : EdgeView) (f_log : List EvEntry) (f_episode : Bool) (f_evBits : List EvBit) (f_stage : Tab Stage) (f_driver : Tab Driver) (f_fram : Tab Fram) (f_border : Tab Border) (f_chan : Tab Chan) (f_means : Tab Means) (f_ring : Tab Ring) (f_cellT : Tab (Int × Int)) (f_slotv : Tab SlotView) (f_measCh : Tab MeasCh) (f_measSt : MeasSt) (f_eng : Tab Eng) (f_images : List Image) (f_verMax : List (Int × Int)) (f_revoked : List Int) (f_groups : Tab Group) (f_sweep : Tab Sweep) (f_loopCh : Tab LoopCh) (f_loopAx : Tab LoopAx) (f_trace : Tab Trace) (f_grade : Tab (Option GradeVec)) (f_modeSt : ModeSt) (f_plant : Plant) (f_wale : Tab Wale) (f_axis : Tab Axis) (f_axRec : List AxRec) (f_enc : Tab Enc) (f_thermCh : Tab ThermCh) (f_therm : Therm) (f_safe : Safe) (f_red : Red) (f_memHid : MemHid) (f_trust : Trust) (f_weave : Weave) (f_can : Tab Can) (f_latch : Tab Latch) (f_shortReq : Bool) (f_out : List OutMsg) (f_fresh : Nat) (n : Nat) : (Bay.mk f_regs f_now f_shadows f_hiLatch f_setT f_edge f_log f_episode f_evBits f_stage f_driver f_fram f_border f_chan f_means f_ring f_cellT f_slotv f_measCh f_measSt f_eng f_images f_verMax f_revoked f_groups f_sweep f_loopCh f_loopAx f_trace f_grade f_modeSt f_plant f_wale f_axis f_axRec f_enc f_thermCh f_therm f_safe f_red f_memHid f_trust f_weave f_can f_latch f_shortReq f_out f_fresh).meansOf n = Tab.get {} f_means n := rfl
@[simp] theorem Bay.fold_meansOf (n : Nat) : Tab.get {} b.means n = b.meansOf n := rfl
@[simp] theorem Bay.ringOf_setRing_same (n : Nat) (x : Ring) : (b.setRing n x).ringOf n = x := by simp [Bay.ringOf, Bay.setRing, Tab.get_put]
@[simp] theorem Bay.ringOf_setRing_of_ne {n m : Nat} (x : Ring) (h : ¬ n = m) : (b.setRing n x).ringOf m = b.ringOf m := by simp [Bay.ringOf, Bay.setRing, Tab.get_put, h]
@[simp] theorem Bay.ringOf_wr (k : Key) (v : Int) (n : Nat) : (b.wr k v).ringOf n = b.ringOf n := rfl
@[simp] theorem Bay.ringOf_setFlag (k : Key) (v : Bool) (n : Nat) : (b.setFlag k v).ringOf n = b.ringOf n := rfl
@[simp] theorem Bay.ringOf_bump32 (k : Key) (n : Nat) : (b.bump32 k).ringOf n = b.ringOf n := rfl
@[simp] theorem Bay.ringOf_setSticky (k : Key) (n : Nat) : (b.setSticky k).ringOf n = b.ringOf n := rfl
@[simp] theorem Bay.ringOf_clearSticky (k : Key) (n : Nat) : (b.clearSticky k).ringOf n = b.ringOf n := by unfold Bay.clearSticky; split <;> rfl
@[simp] theorem Bay.ringOf_bumpSat (k : Key) (p m : Int) (n : Nat) : (b.bumpSat k p m).ringOf n = b.ringOf n := rfl
@[simp] theorem Bay.ringOf_note (src : Nat) (n : Nat) : (b.note src).ringOf n = b.ringOf n := by simp [Bay.ringOf]
@[simp] theorem Bay.ringOf_raise (src : Nat) (d v : Int) (n : Nat) : (b.raise src d v).ringOf n = b.ringOf n := by simp [Bay.ringOf]
@[simp] theorem Bay.ringOf_raiseD (src : Nat) (d : Int) (n : Nat) : (b.raiseD src d).ringOf n = b.ringOf n := by simp [Bay.ringOf]
@[simp] theorem Bay.ringOf_raiseAt (t src : Nat) (d v : Int) (n : Nat) : (b.raiseAt t src d v).ringOf n = b.ringOf n := by simp [Bay.ringOf]
@[simp] theorem Bay.ringOf_refuse (k : Key) (r : Int) (n : Nat) : (b.refuse k r).ringOf n = b.ringOf n := by simp [Bay.ringOf]
@[simp] theorem Bay.ringOf_cfgErr (a : Nat) (r : Int) (n : Nat) : (b.cfgErr a r).ringOf n = b.ringOf n := by simp [Bay.ringOf]
@[simp] theorem Bay.ringOf_sendEvBit (t e i : Nat) (n : Nat) : (b.sendEvBit t e i).ringOf n = b.ringOf n := rfl
@[simp] theorem Bay.ringOf_setStage (m : Nat) (x : Stage) (n : Nat) : (b.setStage m x).ringOf n = b.ringOf n := rfl
@[simp] theorem Bay.ringOf_setDriver (m : Nat) (x : Driver) (n : Nat) : (b.setDriver m x).ringOf n = b.ringOf n := rfl
@[simp] theorem Bay.ringOf_setFram (m : Nat) (x : Fram) (n : Nat) : (b.setFram m x).ringOf n = b.ringOf n := rfl
@[simp] theorem Bay.ringOf_setBorder (m : Nat) (x : Border) (n : Nat) : (b.setBorder m x).ringOf n = b.ringOf n := rfl
@[simp] theorem Bay.ringOf_setCellT (m : Nat) (x : Int × Int) (n : Nat) : (b.setCellT m x).ringOf n = b.ringOf n := rfl
@[simp] theorem Bay.ringOf_setSlot (m : Nat) (x : SlotView) (n : Nat) : (b.setSlot m x).ringOf n = b.ringOf n := rfl
@[simp] theorem Bay.ringOf_setChan (m : Nat) (x : Chan) (n : Nat) : (b.setChan m x).ringOf n = b.ringOf n := rfl
@[simp] theorem Bay.ringOf_setMeans (m : Nat) (x : Means) (n : Nat) : (b.setMeans m x).ringOf n = b.ringOf n := rfl
@[simp] theorem Bay.ringOf_setMeasCh (m : Nat) (x : MeasCh) (n : Nat) : (b.setMeasCh m x).ringOf n = b.ringOf n := rfl
@[simp] theorem Bay.ringOf_setEng (m : Nat) (x : Eng) (n : Nat) : (b.setEng m x).ringOf n = b.ringOf n := rfl
@[simp] theorem Bay.ringOf_setGroup (m : Nat) (x : Group) (n : Nat) : (b.setGroup m x).ringOf n = b.ringOf n := rfl
@[simp] theorem Bay.ringOf_setSweep (m : Nat) (x : Sweep) (n : Nat) : (b.setSweep m x).ringOf n = b.ringOf n := rfl
@[simp] theorem Bay.ringOf_setLoopCh (m : Nat) (x : LoopCh) (n : Nat) : (b.setLoopCh m x).ringOf n = b.ringOf n := rfl
@[simp] theorem Bay.ringOf_setLoopAx (m : Nat) (x : LoopAx) (n : Nat) : (b.setLoopAx m x).ringOf n = b.ringOf n := rfl
@[simp] theorem Bay.ringOf_setGrade (m : Nat) (x : Option GradeVec) (n : Nat) : (b.setGrade m x).ringOf n = b.ringOf n := rfl
@[simp] theorem Bay.ringOf_setTrace (m : Nat) (x : Trace) (n : Nat) : (b.setTrace m x).ringOf n = b.ringOf n := rfl
@[simp] theorem Bay.ringOf_setWale (m : Nat) (x : Wale) (n : Nat) : (b.setWale m x).ringOf n = b.ringOf n := rfl
@[simp] theorem Bay.ringOf_setAxis (m : Nat) (x : Axis) (n : Nat) : (b.setAxis m x).ringOf n = b.ringOf n := rfl
@[simp] theorem Bay.ringOf_setEnc (m : Nat) (x : Enc) (n : Nat) : (b.setEnc m x).ringOf n = b.ringOf n := rfl
@[simp] theorem Bay.ringOf_setThermCh (m : Nat) (x : ThermCh) (n : Nat) : (b.setThermCh m x).ringOf n = b.ringOf n := rfl
@[simp] theorem Bay.ringOf_setCan (m : Nat) (x : Can) (n : Nat) : (b.setCan m x).ringOf n = b.ringOf n := rfl
@[simp] theorem Bay.ringOf_setLatch (m : Nat) (x : Latch) (n : Nat) : (b.setLatch m x).ringOf n = b.ringOf n := rfl
@[simp] theorem Bay.ringOf_send (x : OutMsg) (n : Nat) : (b.send x).ringOf n = b.ringOf n := rfl
@[simp] theorem Bay.ringOf_setModeSt (x : ModeSt) (n : Nat) : (b.setModeSt x).ringOf n = b.ringOf n := rfl
@[simp] theorem Bay.ringOf_setPlant (x : Plant) (n : Nat) : (b.setPlant x).ringOf n = b.ringOf n := rfl
@[simp] theorem Bay.ringOf_setSafe (x : Safe) (n : Nat) : (b.setSafe x).ringOf n = b.ringOf n := rfl
@[simp] theorem Bay.ringOf_setTherm (x : Therm) (n : Nat) : (b.setTherm x).ringOf n = b.ringOf n := rfl
@[simp] theorem Bay.ringOf_setWeave (x : Weave) (n : Nat) : (b.setWeave x).ringOf n = b.ringOf n := rfl
@[simp] theorem Bay.ringOf_setTrust (x : Trust) (n : Nat) : (b.setTrust x).ringOf n = b.ringOf n := rfl
@[simp] theorem Bay.ringOf_shadowWrite (k : Key) (v : Int) (n : Nat) : (b.shadowWrite k v).ringOf n = b.ringOf n := rfl
@[simp] theorem Bay.mk_ringOf (f_regs : Store) (f_now : Nat) (f_shadows : List Shadow) (f_hiLatch : Store) (f_setT : Store) (f_edge : EdgeView) (f_log : List EvEntry) (f_episode : Bool) (f_evBits : List EvBit) (f_stage : Tab Stage) (f_driver : Tab Driver) (f_fram : Tab Fram) (f_border : Tab Border) (f_chan : Tab Chan) (f_means : Tab Means) (f_ring : Tab Ring) (f_cellT : Tab (Int × Int)) (f_slotv : Tab SlotView) (f_measCh : Tab MeasCh) (f_measSt : MeasSt) (f_eng : Tab Eng) (f_images : List Image) (f_verMax : List (Int × Int)) (f_revoked : List Int) (f_groups : Tab Group) (f_sweep : Tab Sweep) (f_loopCh : Tab LoopCh) (f_loopAx : Tab LoopAx) (f_trace : Tab Trace) (f_grade : Tab (Option GradeVec)) (f_modeSt : ModeSt) (f_plant : Plant) (f_wale : Tab Wale) (f_axis : Tab Axis) (f_axRec : List AxRec) (f_enc : Tab Enc) (f_thermCh : Tab ThermCh) (f_therm : Therm) (f_safe : Safe) (f_red : Red) (f_memHid : MemHid) (f_trust : Trust) (f_weave : Weave) (f_can : Tab Can) (f_latch : Tab Latch) (f_shortReq : Bool) (f_out : List OutMsg) (f_fresh : Nat) (n : Nat) : (Bay.mk f_regs f_now f_shadows f_hiLatch f_setT f_edge f_log f_episode f_evBits f_stage f_driver f_fram f_border f_chan f_means f_ring f_cellT f_slotv f_measCh f_measSt f_eng f_images f_verMax f_revoked f_groups f_sweep f_loopCh f_loopAx f_trace f_grade f_modeSt f_plant f_wale f_axis f_axRec f_enc f_thermCh f_therm f_safe f_red f_memHid f_trust f_weave f_can f_latch f_shortReq f_out f_fresh).ringOf n = Tab.get {} f_ring n := rfl
@[simp] theorem Bay.fold_ringOf (n : Nat) : Tab.get {} b.ring n = b.ringOf n := rfl
@[simp] theorem Bay.measChOf_setMeasCh_same (n : Nat) (x : MeasCh) : (b.setMeasCh n x).measChOf n = x := by simp [Bay.measChOf, Bay.setMeasCh, Tab.get_put]
@[simp] theorem Bay.measChOf_setMeasCh_of_ne {n m : Nat} (x : MeasCh) (h : ¬ n = m) : (b.setMeasCh n x).measChOf m = b.measChOf m := by simp [Bay.measChOf, Bay.setMeasCh, Tab.get_put, h]
@[simp] theorem Bay.measChOf_wr (k : Key) (v : Int) (n : Nat) : (b.wr k v).measChOf n = b.measChOf n := rfl
@[simp] theorem Bay.measChOf_setFlag (k : Key) (v : Bool) (n : Nat) : (b.setFlag k v).measChOf n = b.measChOf n := rfl
@[simp] theorem Bay.measChOf_bump32 (k : Key) (n : Nat) : (b.bump32 k).measChOf n = b.measChOf n := rfl
@[simp] theorem Bay.measChOf_setSticky (k : Key) (n : Nat) : (b.setSticky k).measChOf n = b.measChOf n := rfl
@[simp] theorem Bay.measChOf_clearSticky (k : Key) (n : Nat) : (b.clearSticky k).measChOf n = b.measChOf n := by unfold Bay.clearSticky; split <;> rfl
@[simp] theorem Bay.measChOf_bumpSat (k : Key) (p m : Int) (n : Nat) : (b.bumpSat k p m).measChOf n = b.measChOf n := rfl
@[simp] theorem Bay.measChOf_note (src : Nat) (n : Nat) : (b.note src).measChOf n = b.measChOf n := by simp [Bay.measChOf]
@[simp] theorem Bay.measChOf_raise (src : Nat) (d v : Int) (n : Nat) : (b.raise src d v).measChOf n = b.measChOf n := by simp [Bay.measChOf]
@[simp] theorem Bay.measChOf_raiseD (src : Nat) (d : Int) (n : Nat) : (b.raiseD src d).measChOf n = b.measChOf n := by simp [Bay.measChOf]
@[simp] theorem Bay.measChOf_raiseAt (t src : Nat) (d v : Int) (n : Nat) : (b.raiseAt t src d v).measChOf n = b.measChOf n := by simp [Bay.measChOf]
@[simp] theorem Bay.measChOf_refuse (k : Key) (r : Int) (n : Nat) : (b.refuse k r).measChOf n = b.measChOf n := by simp [Bay.measChOf]
@[simp] theorem Bay.measChOf_cfgErr (a : Nat) (r : Int) (n : Nat) : (b.cfgErr a r).measChOf n = b.measChOf n := by simp [Bay.measChOf]
@[simp] theorem Bay.measChOf_sendEvBit (t e i : Nat) (n : Nat) : (b.sendEvBit t e i).measChOf n = b.measChOf n := rfl
@[simp] theorem Bay.measChOf_setStage (m : Nat) (x : Stage) (n : Nat) : (b.setStage m x).measChOf n = b.measChOf n := rfl
@[simp] theorem Bay.measChOf_setDriver (m : Nat) (x : Driver) (n : Nat) : (b.setDriver m x).measChOf n = b.measChOf n := rfl
@[simp] theorem Bay.measChOf_setFram (m : Nat) (x : Fram) (n : Nat) : (b.setFram m x).measChOf n = b.measChOf n := rfl
@[simp] theorem Bay.measChOf_setBorder (m : Nat) (x : Border) (n : Nat) : (b.setBorder m x).measChOf n = b.measChOf n := rfl
@[simp] theorem Bay.measChOf_setCellT (m : Nat) (x : Int × Int) (n : Nat) : (b.setCellT m x).measChOf n = b.measChOf n := rfl
@[simp] theorem Bay.measChOf_setSlot (m : Nat) (x : SlotView) (n : Nat) : (b.setSlot m x).measChOf n = b.measChOf n := rfl
@[simp] theorem Bay.measChOf_setChan (m : Nat) (x : Chan) (n : Nat) : (b.setChan m x).measChOf n = b.measChOf n := rfl
@[simp] theorem Bay.measChOf_setMeans (m : Nat) (x : Means) (n : Nat) : (b.setMeans m x).measChOf n = b.measChOf n := rfl
@[simp] theorem Bay.measChOf_setRing (m : Nat) (x : Ring) (n : Nat) : (b.setRing m x).measChOf n = b.measChOf n := rfl
@[simp] theorem Bay.measChOf_setEng (m : Nat) (x : Eng) (n : Nat) : (b.setEng m x).measChOf n = b.measChOf n := rfl
@[simp] theorem Bay.measChOf_setGroup (m : Nat) (x : Group) (n : Nat) : (b.setGroup m x).measChOf n = b.measChOf n := rfl
@[simp] theorem Bay.measChOf_setSweep (m : Nat) (x : Sweep) (n : Nat) : (b.setSweep m x).measChOf n = b.measChOf n := rfl
@[simp] theorem Bay.measChOf_setLoopCh (m : Nat) (x : LoopCh) (n : Nat) : (b.setLoopCh m x).measChOf n = b.measChOf n := rfl
@[simp] theorem Bay.measChOf_setLoopAx (m : Nat) (x : LoopAx) (n : Nat) : (b.setLoopAx m x).measChOf n = b.measChOf n := rfl
@[simp] theorem Bay.measChOf_setGrade (m : Nat) (x : Option GradeVec) (n : Nat) : (b.setGrade m x).measChOf n = b.measChOf n := rfl
@[simp] theorem Bay.measChOf_setTrace (m : Nat) (x : Trace) (n : Nat) : (b.setTrace m x).measChOf n = b.measChOf n := rfl
@[simp] theorem Bay.measChOf_setWale (m : Nat) (x : Wale) (n : Nat) : (b.setWale m x).measChOf n = b.measChOf n := rfl
@[simp] theorem Bay.measChOf_setAxis (m : Nat) (x : Axis) (n : Nat) : (b.setAxis m x).measChOf n = b.measChOf n := rfl
@[simp] theorem Bay.measChOf_setEnc (m : Nat) (x : Enc) (n : Nat) : (b.setEnc m x).measChOf n = b.measChOf n := rfl
@[simp] theorem Bay.measChOf_setThermCh (m : Nat) (x : ThermCh) (n : Nat) : (b.setThermCh m x).measChOf n = b.measChOf n := rfl
@[simp] theorem Bay.measChOf_setCan (m : Nat) (x : Can) (n : Nat) : (b.setCan m x).measChOf n = b.measChOf n := rfl
@[simp] theorem Bay.measChOf_setLatch (m : Nat) (x : Latch) (n : Nat) : (b.setLatch m x).measChOf n = b.measChOf n := rfl
@[simp] theorem Bay.measChOf_send (x : OutMsg) (n : Nat) : (b.send x).measChOf n = b.measChOf n := rfl
@[simp] theorem Bay.measChOf_setModeSt (x : ModeSt) (n : Nat) : (b.setModeSt x).measChOf n = b.measChOf n := rfl
@[simp] theorem Bay.measChOf_setPlant (x : Plant) (n : Nat) : (b.setPlant x).measChOf n = b.measChOf n := rfl
@[simp] theorem Bay.measChOf_setSafe (x : Safe) (n : Nat) : (b.setSafe x).measChOf n = b.measChOf n := rfl
@[simp] theorem Bay.measChOf_setTherm (x : Therm) (n : Nat) : (b.setTherm x).measChOf n = b.measChOf n := rfl
@[simp] theorem Bay.measChOf_setWeave (x : Weave) (n : Nat) : (b.setWeave x).measChOf n = b.measChOf n := rfl
@[simp] theorem Bay.measChOf_setTrust (x : Trust) (n : Nat) : (b.setTrust x).measChOf n = b.measChOf n := rfl
@[simp] theorem Bay.measChOf_shadowWrite (k : Key) (v : Int) (n : Nat) : (b.shadowWrite k v).measChOf n = b.measChOf n := rfl
@[simp] theorem Bay.mk_measChOf (f_regs : Store) (f_now : Nat) (f_shadows : List Shadow) (f_hiLatch : Store) (f_setT : Store) (f_edge : EdgeView) (f_log : List EvEntry) (f_episode : Bool) (f_evBits : List EvBit) (f_stage : Tab Stage) (f_driver : Tab Driver) (f_fram : Tab Fram) (f_border : Tab Border) (f_chan : Tab Chan) (f_means : Tab Means) (f_ring : Tab Ring) (f_cellT : Tab (Int × Int)) (f_slotv : Tab SlotView) (f_measCh : Tab MeasCh) (f_measSt : MeasSt) (f_eng : Tab Eng) (f_images : List Image) (f_verMax : List (Int × Int)) (f_revoked : List Int) (f_groups : Tab Group) (f_sweep : Tab Sweep) (f_loopCh : Tab LoopCh) (f_loopAx : Tab LoopAx) (f_trace : Tab Trace) (f_grade : Tab (Option GradeVec)) (f_modeSt : ModeSt) (f_plant : Plant) (f_wale : Tab Wale) (f_axis : Tab Axis) (f_axRec : List AxRec) (f_enc : Tab Enc) (f_thermCh : Tab ThermCh) (f_therm : Therm) (f_safe : Safe) (f_red : Red) (f_memHid : MemHid) (f_trust : Trust) (f_weave : Weave) (f_can : Tab Can) (f_latch : Tab Latch) (f_shortReq : Bool) (f_out : List OutMsg) (f_fresh : Nat) (n : Nat) : (Bay.mk f_regs f_now f_shadows f_hiLatch f_setT f_edge f_log f_episode f_evBits f_stage f_driver f_fram f_border f_chan f_means f_ring f_cellT f_slotv f_measCh f_measSt f_eng f_images f_verMax f_revoked f_groups f_sweep f_loopCh f_loopAx f_trace f_grade f_modeSt f_plant f_wale f_axis f_axRec f_enc f_thermCh f_therm f_safe f_red f_memHid f_trust f_weave f_can f_latch f_shortReq f_out f_fresh).measChOf n = Tab.get {} f_measCh n := rfl
@[simp] theorem Bay.fold_measChOf (n : Nat) : Tab.get {} b.measCh n = b.measChOf n := rfl
@[simp] theorem Bay.engOf_setEng_same (n : Nat) (x : Eng) : (b.setEng n x).engOf n = x := by simp [Bay.engOf, Bay.setEng, Tab.get_put]
@[simp] theorem Bay.engOf_setEng_of_ne {n m : Nat} (x : Eng) (h : ¬ n = m) : (b.setEng n x).engOf m = b.engOf m := by simp [Bay.engOf, Bay.setEng, Tab.get_put, h]
@[simp] theorem Bay.engOf_wr (k : Key) (v : Int) (n : Nat) : (b.wr k v).engOf n = b.engOf n := rfl
@[simp] theorem Bay.engOf_setFlag (k : Key) (v : Bool) (n : Nat) : (b.setFlag k v).engOf n = b.engOf n := rfl
@[simp] theorem Bay.engOf_bump32 (k : Key) (n : Nat) : (b.bump32 k).engOf n = b.engOf n := rfl
@[simp] theorem Bay.engOf_setSticky (k : Key) (n : Nat) : (b.setSticky k).engOf n = b.engOf n := rfl
@[simp] theorem Bay.engOf_clearSticky (k : Key) (n : Nat) : (b.clearSticky k).engOf n = b.engOf n := by unfold Bay.clearSticky; split <;> rfl
@[simp] theorem Bay.engOf_bumpSat (k : Key) (p m : Int) (n : Nat) : (b.bumpSat k p m).engOf n = b.engOf n := rfl
@[simp] theorem Bay.engOf_note (src : Nat) (n : Nat) : (b.note src).engOf n = b.engOf n := by simp [Bay.engOf]
@[simp] theorem Bay.engOf_raise (src : Nat) (d v : Int) (n : Nat) : (b.raise src d v).engOf n = b.engOf n := by simp [Bay.engOf]
@[simp] theorem Bay.engOf_raiseD (src : Nat) (d : Int) (n : Nat) : (b.raiseD src d).engOf n = b.engOf n := by simp [Bay.engOf]
@[simp] theorem Bay.engOf_raiseAt (t src : Nat) (d v : Int) (n : Nat) : (b.raiseAt t src d v).engOf n = b.engOf n := by simp [Bay.engOf]
@[simp] theorem Bay.engOf_refuse (k : Key) (r : Int) (n : Nat) : (b.refuse k r).engOf n = b.engOf n := by simp [Bay.engOf]
@[simp] theorem Bay.engOf_cfgErr (a : Nat) (r : Int) (n : Nat) : (b.cfgErr a r).engOf n = b.engOf n := by simp [Bay.engOf]
@[simp] theorem Bay.engOf_sendEvBit (t e i : Nat) (n : Nat) : (b.sendEvBit t e i).engOf n = b.engOf n := rfl
@[simp] theorem Bay.engOf_setStage (m : Nat) (x : Stage) (n : Nat) : (b.setStage m x).engOf n = b.engOf n := rfl
@[simp] theorem Bay.engOf_setDriver (m : Nat) (x : Driver) (n : Nat) : (b.setDriver m x).engOf n = b.engOf n := rfl
@[simp] theorem Bay.engOf_setFram (m : Nat) (x : Fram) (n : Nat) : (b.setFram m x).engOf n = b.engOf n := rfl
@[simp] theorem Bay.engOf_setBorder (m : Nat) (x : Border) (n : Nat) : (b.setBorder m x).engOf n = b.engOf n := rfl
@[simp] theorem Bay.engOf_setCellT (m : Nat) (x : Int × Int) (n : Nat) : (b.setCellT m x).engOf n = b.engOf n := rfl
@[simp] theorem Bay.engOf_setSlot (m : Nat) (x : SlotView) (n : Nat) : (b.setSlot m x).engOf n = b.engOf n := rfl
@[simp] theorem Bay.engOf_setChan (m : Nat) (x : Chan) (n : Nat) : (b.setChan m x).engOf n = b.engOf n := rfl
@[simp] theorem Bay.engOf_setMeans (m : Nat) (x : Means) (n : Nat) : (b.setMeans m x).engOf n = b.engOf n := rfl
@[simp] theorem Bay.engOf_setRing (m : Nat) (x : Ring) (n : Nat) : (b.setRing m x).engOf n = b.engOf n := rfl
@[simp] theorem Bay.engOf_setMeasCh (m : Nat) (x : MeasCh) (n : Nat) : (b.setMeasCh m x).engOf n = b.engOf n := rfl
@[simp] theorem Bay.engOf_setGroup (m : Nat) (x : Group) (n : Nat) : (b.setGroup m x).engOf n = b.engOf n := rfl
@[simp] theorem Bay.engOf_setSweep (m : Nat) (x : Sweep) (n : Nat) : (b.setSweep m x).engOf n = b.engOf n := rfl
@[simp] theorem Bay.engOf_setLoopCh (m : Nat) (x : LoopCh) (n : Nat) : (b.setLoopCh m x).engOf n = b.engOf n := rfl
@[simp] theorem Bay.engOf_setLoopAx (m : Nat) (x : LoopAx) (n : Nat) : (b.setLoopAx m x).engOf n = b.engOf n := rfl
@[simp] theorem Bay.engOf_setGrade (m : Nat) (x : Option GradeVec) (n : Nat) : (b.setGrade m x).engOf n = b.engOf n := rfl
@[simp] theorem Bay.engOf_setTrace (m : Nat) (x : Trace) (n : Nat) : (b.setTrace m x).engOf n = b.engOf n := rfl
@[simp] theorem Bay.engOf_setWale (m : Nat) (x : Wale) (n : Nat) : (b.setWale m x).engOf n = b.engOf n := rfl
@[simp] theorem Bay.engOf_setAxis (m : Nat) (x : Axis) (n : Nat) : (b.setAxis m x).engOf n = b.engOf n := rfl
@[simp] theorem Bay.engOf_setEnc (m : Nat) (x : Enc) (n : Nat) : (b.setEnc m x).engOf n = b.engOf n := rfl
@[simp] theorem Bay.engOf_setThermCh (m : Nat) (x : ThermCh) (n : Nat) : (b.setThermCh m x).engOf n = b.engOf n := rfl
@[simp] theorem Bay.engOf_setCan (m : Nat) (x : Can) (n : Nat) : (b.setCan m x).engOf n = b.engOf n := rfl
@[simp] theorem Bay.engOf_setLatch (m : Nat) (x : Latch) (n : Nat) : (b.setLatch m x).engOf n = b.engOf n := rfl
@[simp] theorem Bay.engOf_send (x : OutMsg) (n : Nat) : (b.send x).engOf n = b.engOf n := rfl
@[simp] theorem Bay.engOf_setModeSt (x : ModeSt) (n : Nat) : (b.setModeSt x).engOf n = b.engOf n := rfl
@[simp] theorem Bay.engOf_setPlant (x : Plant) (n : Nat) : (b.setPlant x).engOf n = b.engOf n := rfl
@[simp] theorem Bay.engOf_setSafe (x : Safe) (n : Nat) : (b.setSafe x).engOf n = b.engOf n := rfl
@[simp] theorem Bay.engOf_setTherm (x : Therm) (n : Nat) : (b.setTherm x).engOf n = b.engOf n := rfl
@[simp] theorem Bay.engOf_setWeave (x : Weave) (n : Nat) : (b.setWeave x).engOf n = b.engOf n := rfl
@[simp] theorem Bay.engOf_setTrust (x : Trust) (n : Nat) : (b.setTrust x).engOf n = b.engOf n := rfl
@[simp] theorem Bay.engOf_shadowWrite (k : Key) (v : Int) (n : Nat) : (b.shadowWrite k v).engOf n = b.engOf n := rfl
@[simp] theorem Bay.mk_engOf (f_regs : Store) (f_now : Nat) (f_shadows : List Shadow) (f_hiLatch : Store) (f_setT : Store) (f_edge : EdgeView) (f_log : List EvEntry) (f_episode : Bool) (f_evBits : List EvBit) (f_stage : Tab Stage) (f_driver : Tab Driver) (f_fram : Tab Fram) (f_border : Tab Border) (f_chan : Tab Chan) (f_means : Tab Means) (f_ring : Tab Ring) (f_cellT : Tab (Int × Int)) (f_slotv : Tab SlotView) (f_measCh : Tab MeasCh) (f_measSt : MeasSt) (f_eng : Tab Eng) (f_images : List Image) (f_verMax : List (Int × Int)) (f_revoked : List Int) (f_groups : Tab Group) (f_sweep : Tab Sweep) (f_loopCh : Tab LoopCh) (f_loopAx : Tab LoopAx) (f_trace : Tab Trace) (f_grade : Tab (Option GradeVec)) (f_modeSt : ModeSt) (f_plant : Plant) (f_wale : Tab Wale) (f_axis : Tab Axis) (f_axRec : List AxRec) (f_enc : Tab Enc) (f_thermCh : Tab ThermCh) (f_therm : Therm) (f_safe : Safe) (f_red : Red) (f_memHid : MemHid) (f_trust : Trust) (f_weave : Weave) (f_can : Tab Can) (f_latch : Tab Latch) (f_shortReq : Bool) (f_out : List OutMsg) (f_fresh : Nat) (n : Nat) : (Bay.mk f_regs f_now f_shadows f_hiLatch f_setT f_edge f_log f_episode f_evBits f_stage f_driver f_fram f_border f_chan f_means f_ring f_cellT f_slotv f_measCh f_measSt f_eng f_images f_verMax f_revoked f_groups f_sweep f_loopCh f_loopAx f_trace f_grade f_modeSt f_plant f_wale f_axis f_axRec f_enc f_thermCh f_therm f_safe f_red f_memHid f_trust f_weave f_can f_latch f_shortReq f_out f_fresh).engOf n = Tab.get {} f_eng n := rfl
@[simp] theorem Bay.fold_engOf (n : Nat) : Tab.get {} b.eng n = b.engOf n := rfl
@[simp] theorem Bay.groupOf_setGroup_same (n : Nat) (x : Group) : (b.setGroup n x).groupOf n = x := by simp [Bay.groupOf, Bay.setGroup, Tab.get_put]
@[simp] theorem Bay.groupOf_setGroup_of_ne {n m : Nat} (x : Group) (h : ¬ n = m) : (b.setGroup n x).groupOf m = b.groupOf m := by simp [Bay.groupOf, Bay.setGroup, Tab.get_put, h]
@[simp] theorem Bay.groupOf_wr (k : Key) (v : Int) (n : Nat) : (b.wr k v).groupOf n = b.groupOf n := rfl
@[simp] theorem Bay.groupOf_setFlag (k : Key) (v : Bool) (n : Nat) : (b.setFlag k v).groupOf n = b.groupOf n := rfl
@[simp] theorem Bay.groupOf_bump32 (k : Key) (n : Nat) : (b.bump32 k).groupOf n = b.groupOf n := rfl
@[simp] theorem Bay.groupOf_setSticky (k : Key) (n : Nat) : (b.setSticky k).groupOf n = b.groupOf n := rfl
@[simp] theorem Bay.groupOf_clearSticky (k : Key) (n : Nat) : (b.clearSticky k).groupOf n = b.groupOf n := by unfold Bay.clearSticky; split <;> rfl
@[simp] theorem Bay.groupOf_bumpSat (k : Key) (p m : Int) (n : Nat) : (b.bumpSat k p m).groupOf n = b.groupOf n := rfl
@[simp] theorem Bay.groupOf_note (src : Nat) (n : Nat) : (b.note src).groupOf n = b.groupOf n := by simp [Bay.groupOf]
@[simp] theorem Bay.groupOf_raise (src : Nat) (d v : Int) (n : Nat) : (b.raise src d v).groupOf n = b.groupOf n := by simp [Bay.groupOf]
@[simp] theorem Bay.groupOf_raiseD (src : Nat) (d : Int) (n : Nat) : (b.raiseD src d).groupOf n = b.groupOf n := by simp [Bay.groupOf]
@[simp] theorem Bay.groupOf_raiseAt (t src : Nat) (d v : Int) (n : Nat) : (b.raiseAt t src d v).groupOf n = b.groupOf n := by simp [Bay.groupOf]
@[simp] theorem Bay.groupOf_refuse (k : Key) (r : Int) (n : Nat) : (b.refuse k r).groupOf n = b.groupOf n := by simp [Bay.groupOf]
@[simp] theorem Bay.groupOf_cfgErr (a : Nat) (r : Int) (n : Nat) : (b.cfgErr a r).groupOf n = b.groupOf n := by simp [Bay.groupOf]
@[simp] theorem Bay.groupOf_sendEvBit (t e i : Nat) (n : Nat) : (b.sendEvBit t e i).groupOf n = b.groupOf n := rfl
@[simp] theorem Bay.groupOf_setStage (m : Nat) (x : Stage) (n : Nat) : (b.setStage m x).groupOf n = b.groupOf n := rfl
@[simp] theorem Bay.groupOf_setDriver (m : Nat) (x : Driver) (n : Nat) : (b.setDriver m x).groupOf n = b.groupOf n := rfl
@[simp] theorem Bay.groupOf_setFram (m : Nat) (x : Fram) (n : Nat) : (b.setFram m x).groupOf n = b.groupOf n := rfl
@[simp] theorem Bay.groupOf_setBorder (m : Nat) (x : Border) (n : Nat) : (b.setBorder m x).groupOf n = b.groupOf n := rfl
@[simp] theorem Bay.groupOf_setCellT (m : Nat) (x : Int × Int) (n : Nat) : (b.setCellT m x).groupOf n = b.groupOf n := rfl
@[simp] theorem Bay.groupOf_setSlot (m : Nat) (x : SlotView) (n : Nat) : (b.setSlot m x).groupOf n = b.groupOf n := rfl
@[simp] theorem Bay.groupOf_setChan (m : Nat) (x : Chan) (n : Nat) : (b.setChan m x).groupOf n = b.groupOf n := rfl
@[simp] theorem Bay.groupOf_setMeans (m : Nat) (x : Means) (n : Nat) : (b.setMeans m x).groupOf n = b.groupOf n := rfl
@[simp] theorem Bay.groupOf_setRing (m : Nat) (x : Ring) (n : Nat) : (b.setRing m x).groupOf n = b.groupOf n := rfl
@[simp] theorem Bay.groupOf_setMeasCh (m : Nat) (x : MeasCh) (n : Nat) : (b.setMeasCh m x).groupOf n = b.groupOf n := rfl
@[simp] theorem Bay.groupOf_setEng (m : Nat) (x : Eng) (n : Nat) : (b.setEng m x).groupOf n = b.groupOf n := rfl
@[simp] theorem Bay.groupOf_setSweep (m : Nat) (x : Sweep) (n : Nat) : (b.setSweep m x).groupOf n = b.groupOf n := rfl
@[simp] theorem Bay.groupOf_setLoopCh (m : Nat) (x : LoopCh) (n : Nat) : (b.setLoopCh m x).groupOf n = b.groupOf n := rfl
@[simp] theorem Bay.groupOf_setLoopAx (m : Nat) (x : LoopAx) (n : Nat) : (b.setLoopAx m x).groupOf n = b.groupOf n := rfl
@[simp] theorem Bay.groupOf_setGrade (m : Nat) (x : Option GradeVec) (n : Nat) : (b.setGrade m x).groupOf n = b.groupOf n := rfl
@[simp] theorem Bay.groupOf_setTrace (m : Nat) (x : Trace) (n : Nat) : (b.setTrace m x).groupOf n = b.groupOf n := rfl
@[simp] theorem Bay.groupOf_setWale (m : Nat) (x : Wale) (n : Nat) : (b.setWale m x).groupOf n = b.groupOf n := rfl
@[simp] theorem Bay.groupOf_setAxis (m : Nat) (x : Axis) (n : Nat) : (b.setAxis m x).groupOf n = b.groupOf n := rfl
@[simp] theorem Bay.groupOf_setEnc (m : Nat) (x : Enc) (n : Nat) : (b.setEnc m x).groupOf n = b.groupOf n := rfl
@[simp] theorem Bay.groupOf_setThermCh (m : Nat) (x : ThermCh) (n : Nat) : (b.setThermCh m x).groupOf n = b.groupOf n := rfl
@[simp] theorem Bay.groupOf_setCan (m : Nat) (x : Can) (n : Nat) : (b.setCan m x).groupOf n = b.groupOf n := rfl
@[simp] theorem Bay.groupOf_setLatch (m : Nat) (x : Latch) (n : Nat) : (b.setLatch m x).groupOf n = b.groupOf n := rfl
@[simp] theorem Bay.groupOf_send (x : OutMsg) (n : Nat) : (b.send x).groupOf n = b.groupOf n := rfl
@[simp] theorem Bay.groupOf_setModeSt (x : ModeSt) (n : Nat) : (b.setModeSt x).groupOf n = b.groupOf n := rfl
@[simp] theorem Bay.groupOf_setPlant (x : Plant) (n : Nat) : (b.setPlant x).groupOf n = b.groupOf n := rfl
@[simp] theorem Bay.groupOf_setSafe (x : Safe) (n : Nat) : (b.setSafe x).groupOf n = b.groupOf n := rfl
@[simp] theorem Bay.groupOf_setTherm (x : Therm) (n : Nat) : (b.setTherm x).groupOf n = b.groupOf n := rfl
@[simp] theorem Bay.groupOf_setWeave (x : Weave) (n : Nat) : (b.setWeave x).groupOf n = b.groupOf n := rfl
@[simp] theorem Bay.groupOf_setTrust (x : Trust) (n : Nat) : (b.setTrust x).groupOf n = b.groupOf n := rfl
@[simp] theorem Bay.groupOf_shadowWrite (k : Key) (v : Int) (n : Nat) : (b.shadowWrite k v).groupOf n = b.groupOf n := rfl
@[simp] theorem Bay.mk_groupOf (f_regs : Store) (f_now : Nat) (f_shadows : List Shadow) (f_hiLatch : Store) (f_setT : Store) (f_edge : EdgeView) (f_log : List EvEntry) (f_episode : Bool) (f_evBits : List EvBit) (f_stage : Tab Stage) (f_driver : Tab Driver) (f_fram : Tab Fram) (f_border : Tab Border) (f_chan : Tab Chan) (f_means : Tab Means) (f_ring : Tab Ring) (f_cellT : Tab (Int × Int)) (f_slotv : Tab SlotView) (f_measCh : Tab MeasCh) (f_measSt : MeasSt) (f_eng : Tab Eng) (f_images : List Image) (f_verMax : List (Int × Int)) (f_revoked : List Int) (f_groups : Tab Group) (f_sweep : Tab Sweep) (f_loopCh : Tab LoopCh) (f_loopAx : Tab LoopAx) (f_trace : Tab Trace) (f_grade : Tab (Option GradeVec)) (f_modeSt : ModeSt) (f_plant : Plant) (f_wale : Tab Wale) (f_axis : Tab Axis) (f_axRec : List AxRec) (f_enc : Tab Enc) (f_thermCh : Tab ThermCh) (f_therm : Therm) (f_safe : Safe) (f_red : Red) (f_memHid : MemHid) (f_trust : Trust) (f_weave : Weave) (f_can : Tab Can) (f_latch : Tab Latch) (f_shortReq : Bool) (f_out : List OutMsg) (f_fresh : Nat) (n : Nat) : (Bay.mk f_regs f_now f_shadows f_hiLatch f_setT f_edge f_log f_episode f_evBits f_stage f_driver f_fram f_border f_chan f_means f_ring f_cellT f_slotv f_measCh f_measSt f_eng f_images f_verMax f_revoked f_groups f_sweep f_loopCh f_loopAx f_trace f_grade f_modeSt f_plant f_wale f_axis f_axRec f_enc f_thermCh f_therm f_safe f_red f_memHid f_trust f_weave f_can f_latch f_shortReq f_out f_fresh).groupOf n = Tab.get {} f_groups n := rfl
@[simp] theorem Bay.fold_groupOf (n : Nat) : Tab.get {} b.groups n = b.groupOf n := rfl
@[simp] theorem Bay.sweepOf_setSweep_same (n : Nat) (x : Sweep) : (b.setSweep n x).sweepOf n = x := by simp [Bay.sweepOf, Bay.setSweep, Tab.get_put]
@[simp] theorem Bay.sweepOf_setSweep_of_ne {n m : Nat} (x : Sweep) (h : ¬ n = m) : (b.setSweep n x).sweepOf m = b.sweepOf m := by simp [Bay.sweepOf, Bay.setSweep, Tab.get_put, h]
@[simp] theorem Bay.sweepOf_wr (k : Key) (v : Int) (n : Nat) : (b.wr k v).sweepOf n = b.sweepOf n := rfl
@[simp] theorem Bay.sweepOf_setFlag (k : Key) (v : Bool) (n : Nat) : (b.setFlag k v).sweepOf n = b.sweepOf n := rfl
@[simp] theorem Bay.sweepOf_bump32 (k : Key) (n : Nat) : (b.bump32 k).sweepOf n = b.sweepOf n := rfl
@[simp] theorem Bay.sweepOf_setSticky (k : Key) (n : Nat) : (b.setSticky k).sweepOf n = b.sweepOf n := rfl
@[simp] theorem Bay.sweepOf_clearSticky (k : Key) (n : Nat) : (b.clearSticky k).sweepOf n = b.sweepOf n := by unfold Bay.clearSticky; split <;> rfl
@[simp] theorem Bay.sweepOf_bumpSat (k : Key) (p m : Int) (n : Nat) : (b.bumpSat k p m).sweepOf n = b.sweepOf n := rfl
@[simp] theorem Bay.sweepOf_note (src : Nat) (n : Nat) : (b.note src).sweepOf n = b.sweepOf n := by simp [Bay.sweepOf]
@[simp] theorem Bay.sweepOf_raise (src : Nat) (d v : Int) (n : Nat) : (b.raise src d v).sweepOf n = b.sweepOf n := by simp [Bay.sweepOf]
@[simp] theorem Bay.sweepOf_raiseD (src : Nat) (d : Int) (n : Nat) : (b.raiseD src d).sweepOf n = b.sweepOf n := by simp [Bay.sweepOf]
@[simp] theorem Bay.sweepOf_raiseAt (t src : Nat) (d v : Int) (n : Nat) : (b.raiseAt t src d v).sweepOf n = b.sweepOf n := by simp [Bay.sweepOf]
@[simp] theorem Bay.sweepOf_refuse (k : Key) (r : Int) (n : Nat) : (b.refuse k r).sweepOf n = b.sweepOf n := by simp [Bay.sweepOf]
@[simp] theorem Bay.sweepOf_cfgErr (a : Nat) (r : Int) (n : Nat) : (b.cfgErr a r).sweepOf n = b.sweepOf n := by simp [Bay.sweepOf]
@[simp] theorem Bay.sweepOf_sendEvBit (t e i : Nat) (n : Nat) : (b.sendEvBit t e i).sweepOf n = b.sweepOf n := rfl
@[simp] theorem Bay.sweepOf_setStage (m : Nat) (x : Stage) (n : Nat) : (b.setStage m x).sweepOf n = b.sweepOf n := rfl
@[simp] theorem Bay.sweepOf_setDriver (m : Nat) (x : Driver) (n : Nat) : (b.setDriver m x).sweepOf n = b.sweepOf n := rfl
@[simp] theorem Bay.sweepOf_setFram (m : Nat) (x : Fram) (n : Nat) : (b.setFram m x).sweepOf n = b.sweepOf n := rfl
@[simp] theorem Bay.sweepOf_setBorder (m : Nat) (x : Border) (n : Nat) : (b.setBorder m x).sweepOf n = b.sweepOf n := rfl
@[simp] theorem Bay.sweepOf_setCellT (m : Nat) (x : Int × Int) (n : Nat) : (b.setCellT m x).sweepOf n = b.sweepOf n := rfl
@[simp] theorem Bay.sweepOf_setSlot (m : Nat) (x : SlotView) (n : Nat) : (b.setSlot m x).sweepOf n = b.sweepOf n := rfl
@[simp] theorem Bay.sweepOf_setChan (m : Nat) (x : Chan) (n : Nat) : (b.setChan m x).sweepOf n = b.sweepOf n := rfl
@[simp] theorem Bay.sweepOf_setMeans (m : Nat) (x : Means) (n : Nat) : (b.setMeans m x).sweepOf n = b.sweepOf n := rfl
@[simp] theorem Bay.sweepOf_setRing (m : Nat) (x : Ring) (n : Nat) : (b.setRing m x).sweepOf n = b.sweepOf n := rfl
@[simp] theorem Bay.sweepOf_setMeasCh (m : Nat) (x : MeasCh) (n : Nat) : (b.setMeasCh m x).sweepOf n = b.sweepOf n := rfl
@[simp] theorem Bay.sweepOf_setEng (m : Nat) (x : Eng) (n : Nat) : (b.setEng m x).sweepOf n = b.sweepOf n := rfl
@[simp] theorem Bay.sweepOf_setGroup (m : Nat) (x : Group) (n : Nat) : (b.setGroup m x).sweepOf n = b.sweepOf n := rfl
@[simp] theorem Bay.sweepOf_setLoopCh (m : Nat) (x : LoopCh) (n : Nat) : (b.setLoopCh m x).sweepOf n = b.sweepOf n := rfl
@[simp] theorem Bay.sweepOf_setLoopAx (m : Nat) (x : LoopAx) (n : Nat) : (b.setLoopAx m x).sweepOf n = b.sweepOf n := rfl
@[simp] theorem Bay.sweepOf_setGrade (m : Nat) (x : Option GradeVec) (n : Nat) : (b.setGrade m x).sweepOf n = b.sweepOf n := rfl
@[simp] theorem Bay.sweepOf_setTrace (m : Nat) (x : Trace) (n : Nat) : (b.setTrace m x).sweepOf n = b.sweepOf n := rfl
@[simp] theorem Bay.sweepOf_setWale (m : Nat) (x : Wale) (n : Nat) : (b.setWale m x).sweepOf n = b.sweepOf n := rfl
@[simp] theorem Bay.sweepOf_setAxis (m : Nat) (x : Axis) (n : Nat) : (b.setAxis m x).sweepOf n = b.sweepOf n := rfl
@[simp] theorem Bay.sweepOf_setEnc (m : Nat) (x : Enc) (n : Nat) : (b.setEnc m x).sweepOf n = b.sweepOf n := rfl
@[simp] theorem Bay.sweepOf_setThermCh (m : Nat) (x : ThermCh) (n : Nat) : (b.setThermCh m x).sweepOf n = b.sweepOf n := rfl
@[simp] theorem Bay.sweepOf_setCan (m : Nat) (x : Can) (n : Nat) : (b.setCan m x).sweepOf n = b.sweepOf n := rfl
@[simp] theorem Bay.sweepOf_setLatch (m : Nat) (x : Latch) (n : Nat) : (b.setLatch m x).sweepOf n = b.sweepOf n := rfl
@[simp] theorem Bay.sweepOf_send (x : OutMsg) (n : Nat) : (b.send x).sweepOf n = b.sweepOf n := rfl
@[simp] theorem Bay.sweepOf_setModeSt (x : ModeSt) (n : Nat) : (b.setModeSt x).sweepOf n = b.sweepOf n := rfl
@[simp] theorem Bay.sweepOf_setPlant (x : Plant) (n : Nat) : (b.setPlant x).sweepOf n = b.sweepOf n := rfl
@[simp] theorem Bay.sweepOf_setSafe (x : Safe) (n : Nat) : (b.setSafe x).sweepOf n = b.sweepOf n := rfl
@[simp] theorem Bay.sweepOf_setTherm (x : Therm) (n : Nat) : (b.setTherm x).sweepOf n = b.sweepOf n := rfl
@[simp] theorem Bay.sweepOf_setWeave (x : Weave) (n : Nat) : (b.setWeave x).sweepOf n = b.sweepOf n := rfl
@[simp] theorem Bay.sweepOf_setTrust (x : Trust) (n : Nat) : (b.setTrust x).sweepOf n = b.sweepOf n := rfl
@[simp] theorem Bay.sweepOf_shadowWrite (k : Key) (v : Int) (n : Nat) : (b.shadowWrite k v).sweepOf n = b.sweepOf n := rfl
@[simp] theorem Bay.mk_sweepOf (f_regs : Store) (f_now : Nat) (f_shadows : List Shadow) (f_hiLatch : Store) (f_setT : Store) (f_edge : EdgeView) (f_log : List EvEntry) (f_episode : Bool) (f_evBits : List EvBit) (f_stage : Tab Stage) (f_driver : Tab Driver) (f_fram : Tab Fram) (f_border : Tab Border) (f_chan : Tab Chan) (f_means : Tab Means) (f_ring : Tab Ring) (f_cellT : Tab (Int × Int)) (f_slotv : Tab SlotView) (f_measCh : Tab MeasCh) (f_measSt : MeasSt) (f_eng : Tab Eng) (f_images : List Image) (f_verMax : List (Int × Int)) (f_revoked : List Int) (f_groups : Tab Group) (f_sweep : Tab Sweep) (f_loopCh : Tab LoopCh) (f_loopAx : Tab LoopAx) (f_trace : Tab Trace) (f_grade : Tab (Option GradeVec)) (f_modeSt : ModeSt) (f_plant : Plant) (f_wale : Tab Wale) (f_axis : Tab Axis) (f_axRec : List AxRec) (f_enc : Tab Enc) (f_thermCh : Tab ThermCh) (f_therm : Therm) (f_safe : Safe) (f_red : Red) (f_memHid : MemHid) (f_trust : Trust) (f_weave : Weave) (f_can : Tab Can) (f_latch : Tab Latch) (f_shortReq : Bool) (f_out : List OutMsg) (f_fresh : Nat) (n : Nat) : (Bay.mk f_regs f_now f_shadows f_hiLatch f_setT f_edge f_log f_episode f_evBits f_stage f_driver f_fram f_border f_chan f_means f_ring f_cellT f_slotv f_measCh f_measSt f_eng f_images f_verMax f_revoked f_groups f_sweep f_loopCh f_loopAx f_trace f_grade f_modeSt f_plant f_wale f_axis f_axRec f_enc f_thermCh f_therm f_safe f_red f_memHid f_trust f_weave f_can f_latch f_shortReq f_out f_fresh).sweepOf n = Tab.get {} f_sweep n := rfl
@[simp] theorem Bay.fold_sweepOf (n : Nat) : Tab.get {} b.sweep n = b.sweepOf n := rfl
@[simp] theorem Bay.loopChOf_setLoopCh_same (n : Nat) (x : LoopCh) : (b.setLoopCh n x).loopChOf n = x := by simp [Bay.loopChOf, Bay.setLoopCh, Tab.get_put]
@[simp] theorem Bay.loopChOf_setLoopCh_of_ne {n m : Nat} (x : LoopCh) (h : ¬ n = m) : (b.setLoopCh n x).loopChOf m = b.loopChOf m := by simp [Bay.loopChOf, Bay.setLoopCh, Tab.get_put, h]
@[simp] theorem Bay.loopChOf_wr (k : Key) (v : Int) (n : Nat) : (b.wr k v).loopChOf n = b.loopChOf n := rfl
@[simp] theorem Bay.loopChOf_setFlag (k : Key) (v : Bool) (n : Nat) : (b.setFlag k v).loopChOf n = b.loopChOf n := rfl
@[simp] theorem Bay.loopChOf_bump32 (k : Key) (n : Nat) : (b.bump32 k).loopChOf n = b.loopChOf n := rfl
@[simp] theorem Bay.loopChOf_setSticky (k : Key) (n : Nat) : (b.setSticky k).loopChOf n = b.loopChOf n := rfl
@[simp] theorem Bay.loopChOf_clearSticky (k : Key) (n : Nat) : (b.clearSticky k).loopChOf n = b.loopChOf n := by unfold Bay.clearSticky; split <;> rfl
@[simp] theorem Bay.loopChOf_bumpSat (k : Key) (p m : Int) (n : Nat) : (b.bumpSat k p m).loopChOf n = b.loopChOf n := rfl
@[simp] theorem Bay.loopChOf_note (src : Nat) (n : Nat) : (b.note src).loopChOf n = b.loopChOf n := by simp [Bay.loopChOf]
@[simp] theorem Bay.loopChOf_raise (src : Nat) (d v : Int) (n : Nat) : (b.raise src d v).loopChOf n = b.loopChOf n := by simp [Bay.loopChOf]
@[simp] theorem Bay.loopChOf_raiseD (src : Nat) (d : Int) (n : Nat) : (b.raiseD src d).loopChOf n = b.loopChOf n := by simp [Bay.loopChOf]
@[simp] theorem Bay.loopChOf_raiseAt (t src : Nat) (d v : Int) (n : Nat) : (b.raiseAt t src d v).loopChOf n = b.loopChOf n := by simp [Bay.loopChOf]
@[simp] theorem Bay.loopChOf_refuse (k : Key) (r : Int) (n : Nat) : (b.refuse k r).loopChOf n = b.loopChOf n := by simp [Bay.loopChOf]
@[simp] theorem Bay.loopChOf_cfgErr (a : Nat) (r : Int) (n : Nat) : (b.cfgErr a r).loopChOf n = b.loopChOf n := by simp [Bay.loopChOf]
@[simp] theorem Bay.loopChOf_sendEvBit (t e i : Nat) (n : Nat) : (b.sendEvBit t e i).loopChOf n = b.loopChOf n := rfl
@[simp] theorem Bay.loopChOf_setStage (m : Nat) (x : Stage) (n : Nat) : (b.setStage m x).loopChOf n = b.loopChOf n := rfl
@[simp] theorem Bay.loopChOf_setDriver (m : Nat) (x : Driver) (n : Nat) : (b.setDriver m x).loopChOf n = b.loopChOf n := rfl
@[simp] theorem Bay.loopChOf_setFram (m : Nat) (x : Fram) (n : Nat) : (b.setFram m x).loopChOf n = b.loopChOf n := rfl
@[simp] theorem Bay.loopChOf_setBorder (m : Nat) (x : Border) (n : Nat) : (b.setBorder m x).loopChOf n = b.loopChOf n := rfl
@[simp] theorem Bay.loopChOf_setCellT (m : Nat) (x : Int × Int) (n : Nat) : (b.setCellT m x).loopChOf n = b.loopChOf n := rfl
@[simp] theorem Bay.loopChOf_setSlot (m : Nat) (x : SlotView) (n : Nat) : (b.setSlot m x).loopChOf n = b.loopChOf n := rfl
@[simp] theorem Bay.loopChOf_setChan (m : Nat) (x : Chan) (n : Nat) : (b.setChan m x).loopChOf n = b.loopChOf n := rfl
@[simp] theorem Bay.loopChOf_setMeans (m : Nat) (x : Means) (n : Nat) : (b.setMeans m x).loopChOf n = b.loopChOf n := rfl
@[simp] theorem Bay.loopChOf_setRing (m : Nat) (x : Ring) (n : Nat) : (b.setRing m x).loopChOf n = b.loopChOf n := rfl
@[simp] theorem Bay.loopChOf_setMeasCh (m : Nat) (x : MeasCh) (n : Nat) : (b.setMeasCh m x).loopChOf n = b.loopChOf n := rfl
@[simp] theorem Bay.loopChOf_setEng (m : Nat) (x : Eng) (n : Nat) : (b.setEng m x).loopChOf n = b.loopChOf n := rfl
@[simp] theorem Bay.loopChOf_setGroup (m : Nat) (x : Group) (n : Nat) : (b.setGroup m x).loopChOf n = b.loopChOf n := rfl
@[simp] theorem Bay.loopChOf_setSweep (m : Nat) (x : Sweep) (n : Nat) : (b.setSweep m x).loopChOf n = b.loopChOf n := rfl
@[simp] theorem Bay.loopChOf_setLoopAx (m : Nat) (x : LoopAx) (n : Nat) : (b.setLoopAx m x).loopChOf n = b.loopChOf n := rfl
@[simp] theorem Bay.loopChOf_setGrade (m : Nat) (x : Option GradeVec) (n : Nat) : (b.setGrade m x).loopChOf n = b.loopChOf n := rfl
@[simp] theorem Bay.loopChOf_setTrace (m : Nat) (x : Trace) (n : Nat) : (b.setTrace m x).loopChOf n = b.loopChOf n := rfl
@[simp] theorem Bay.loopChOf_setWale (m : Nat) (x : Wale) (n : Nat) : (b.setWale m x).loopChOf n = b.loopChOf n := rfl
@[simp] theorem Bay.loopChOf_setAxis (m : Nat) (x : Axis) (n : Nat) : (b.setAxis m x).loopChOf n = b.loopChOf n := rfl
@[simp] theorem Bay.loopChOf_setEnc (m : Nat) (x : Enc) (n : Nat) : (b.setEnc m x).loopChOf n = b.loopChOf n := rfl
@[simp] theorem Bay.loopChOf_setThermCh (m : Nat) (x : ThermCh) (n : Nat) : (b.setThermCh m x).loopChOf n = b.loopChOf n := rfl
@[simp] theorem Bay.loopChOf_setCan (m : Nat) (x : Can) (n : Nat) : (b.setCan m x).loopChOf n = b.loopChOf n := rfl
@[simp] theorem Bay.loopChOf_setLatch (m : Nat) (x : Latch) (n : Nat) : (b.setLatch m x).loopChOf n = b.loopChOf n := rfl
@[simp] theorem Bay.loopChOf_send (x : OutMsg) (n : Nat) : (b.send x).loopChOf n = b.loopChOf n := rfl
@[simp] theorem Bay.loopChOf_setModeSt (x : ModeSt) (n : Nat) : (b.setModeSt x).loopChOf n = b.loopChOf n := rfl
@[simp] theorem Bay.loopChOf_setPlant (x : Plant) (n : Nat) : (b.setPlant x).loopChOf n = b.loopChOf n := rfl
@[simp] theorem Bay.loopChOf_setSafe (x : Safe) (n : Nat) : (b.setSafe x).loopChOf n = b.loopChOf n := rfl
@[simp] theorem Bay.loopChOf_setTherm (x : Therm) (n : Nat) : (b.setTherm x).loopChOf n = b.loopChOf n := rfl
@[simp] theorem Bay.loopChOf_setWeave (x : Weave) (n : Nat) : (b.setWeave x).loopChOf n = b.loopChOf n := rfl
@[simp] theorem Bay.loopChOf_setTrust (x : Trust) (n : Nat) : (b.setTrust x).loopChOf n = b.loopChOf n := rfl
@[simp] theorem Bay.loopChOf_shadowWrite (k : Key) (v : Int) (n : Nat) : (b.shadowWrite k v).loopChOf n = b.loopChOf n := rfl
@[simp] theorem Bay.mk_loopChOf (f_regs : Store) (f_now : Nat) (f_shadows : List Shadow) (f_hiLatch : Store) (f_setT : Store) (f_edge : EdgeView) (f_log : List EvEntry) (f_episode : Bool) (f_evBits : List EvBit) (f_stage : Tab Stage) (f_driver : Tab Driver) (f_fram : Tab Fram) (f_border : Tab Border) (f_chan : Tab Chan) (f_means : Tab Means) (f_ring : Tab Ring) (f_cellT : Tab (Int × Int)) (f_slotv : Tab SlotView) (f_measCh : Tab MeasCh) (f_measSt : MeasSt) (f_eng : Tab Eng) (f_images : List Image) (f_verMax : List (Int × Int)) (f_revoked : List Int) (f_groups : Tab Group) (f_sweep : Tab Sweep) (f_loopCh : Tab LoopCh) (f_loopAx : Tab LoopAx) (f_trace : Tab Trace) (f_grade : Tab (Option GradeVec)) (f_modeSt : ModeSt) (f_plant : Plant) (f_wale : Tab Wale) (f_axis : Tab Axis) (f_axRec : List AxRec) (f_enc : Tab Enc) (f_thermCh : Tab ThermCh) (f_therm : Therm) (f_safe : Safe) (f_red : Red) (f_memHid : MemHid) (f_trust : Trust) (f_weave : Weave) (f_can : Tab Can) (f_latch : Tab Latch) (f_shortReq : Bool) (f_out : List OutMsg) (f_fresh : Nat) (n : Nat) : (Bay.mk f_regs f_now f_shadows f_hiLatch f_setT f_edge f_log f_episode f_evBits f_stage f_driver f_fram f_border f_chan f_means f_ring f_cellT f_slotv f_measCh f_measSt f_eng f_images f_verMax f_revoked f_groups f_sweep f_loopCh f_loopAx f_trace f_grade f_modeSt f_plant f_wale f_axis f_axRec f_enc f_thermCh f_therm f_safe f_red f_memHid f_trust f_weave f_can f_latch f_shortReq f_out f_fresh).loopChOf n = Tab.get {} f_loopCh n := rfl
@[simp] theorem Bay.fold_loopChOf (n : Nat) : Tab.get {} b.loopCh n = b.loopChOf n := rfl
@[simp] theorem Bay.loopAxOf_setLoopAx_same (n : Nat) (x : LoopAx) : (b.setLoopAx n x).loopAxOf n = x := by simp [Bay.loopAxOf, Bay.setLoopAx, Tab.get_put]
@[simp] theorem Bay.loopAxOf_setLoopAx_of_ne {n m : Nat} (x : LoopAx) (h : ¬ n = m) : (b.setLoopAx n x).loopAxOf m = b.loopAxOf m := by simp [Bay.loopAxOf, Bay.setLoopAx, Tab.get_put, h]
@[simp] theorem Bay.loopAxOf_wr (k : Key) (v : Int) (n : Nat) : (b.wr k v).loopAxOf n = b.loopAxOf n := rfl
@[simp] theorem Bay.loopAxOf_setFlag (k : Key) (v : Bool) (n : Nat) : (b.setFlag k v).loopAxOf n = b.loopAxOf n := rfl
@[simp] theorem Bay.loopAxOf_bump32 (k : Key) (n : Nat) : (b.bump32 k).loopAxOf n = b.loopAxOf n := rfl
@[simp] theorem Bay.loopAxOf_setSticky (k : Key) (n : Nat) : (b.setSticky k).loopAxOf n = b.loopAxOf n := rfl
@[simp] theorem Bay.loopAxOf_clearSticky (k : Key) (n : Nat) : (b.clearSticky k).loopAxOf n = b.loopAxOf n := by unfold Bay.clearSticky; split <;> rfl
@[simp] theorem Bay.loopAxOf_bumpSat (k : Key) (p m : Int) (n : Nat) : (b.bumpSat k p m).loopAxOf n = b.loopAxOf n := rfl
@[simp] theorem Bay.loopAxOf_note (src : Nat) (n : Nat) : (b.note src).loopAxOf n = b.loopAxOf n := by simp [Bay.loopAxOf]
@[simp] theorem Bay.loopAxOf_raise (src : Nat) (d v : Int) (n : Nat) : (b.raise src d v).loopAxOf n = b.loopAxOf n := by simp [Bay.loopAxOf]
@[simp] theorem Bay.loopAxOf_raiseD (src : Nat) (d : Int) (n : Nat) : (b.raiseD src d).loopAxOf n = b.loopAxOf n := by simp [Bay.loopAxOf]
@[simp] theorem Bay.loopAxOf_raiseAt (t src : Nat) (d v : Int) (n : Nat) : (b.raiseAt t src d v).loopAxOf n = b.loopAxOf n := by simp [Bay.loopAxOf]
@[simp] theorem Bay.loopAxOf_refuse (k : Key) (r : Int) (n : Nat) : (b.refuse k r).loopAxOf n = b.loopAxOf n := by simp [Bay.loopAxOf]
@[simp] theorem Bay.loopAxOf_cfgErr (a : Nat) (r : Int) (n : Nat) : (b.cfgErr a r).loopAxOf n = b.loopAxOf n := by simp [Bay.loopAxOf]
@[simp] theorem Bay.loopAxOf_sendEvBit (t e i : Nat) (n : Nat) : (b.sendEvBit t e i).loopAxOf n = b.loopAxOf n := rfl
@[simp] theorem Bay.loopAxOf_setStage (m : Nat) (x : Stage) (n : Nat) : (b.setStage m x).loopAxOf n = b.loopAxOf n := rfl
@[simp] theorem Bay.loopAxOf_setDriver (m : Nat) (x : Driver) (n : Nat) : (b.setDriver m x).loopAxOf n = b.loopAxOf n := rfl
@[simp] theorem Bay.loopAxOf_setFram (m : Nat) (x : Fram) (n : Nat) : (b.setFram m x).loopAxOf n = b.loopAxOf n := rfl
@[simp] theorem Bay.loopAxOf_setBorder (m : Nat) (x : Border) (n : Nat) : (b.setBorder m x).loopAxOf n = b.loopAxOf n := rfl
@[simp] theorem Bay.loopAxOf_setCellT (m : Nat) (x : Int × Int) (n : Nat) : (b.setCellT m x).loopAxOf n = b.loopAxOf n := rfl
@[simp] theorem Bay.loopAxOf_setSlot (m : Nat) (x : SlotView) (n : Nat) : (b.setSlot m x).loopAxOf n = b.loopAxOf n := rfl
@[simp] theorem Bay.loopAxOf_setChan (m : Nat) (x : Chan) (n : Nat) : (b.setChan m x).loopAxOf n = b.loopAxOf n := rfl
@[simp] theorem Bay.loopAxOf_setMeans (m : Nat) (x : Means) (n : Nat) : (b.setMeans m x).loopAxOf n = b.loopAxOf n := rfl
@[simp] theorem Bay.loopAxOf_setRing (m : Nat) (x : Ring) (n : Nat) : (b.setRing m x).loopAxOf n = b.loopAxOf n := rfl
@[simp] theorem Bay.loopAxOf_setMeasCh (m : Nat) (x : MeasCh) (n : Nat) : (b.setMeasCh m x).loopAxOf n = b.loopAxOf n := rfl
@[simp] theorem Bay.loopAxOf_setEng (m : Nat) (x : Eng) (n : Nat) : (b.setEng m x).loopAxOf n = b.loopAxOf n := rfl
@[simp] theorem Bay.loopAxOf_setGroup (m : Nat) (x : Group) (n : Nat) : (b.setGroup m x).loopAxOf n = b.loopAxOf n := rfl
@[simp] theorem Bay.loopAxOf_setSweep (m : Nat) (x : Sweep) (n : Nat) : (b.setSweep m x).loopAxOf n = b.loopAxOf n := rfl
@[simp] theorem Bay.loopAxOf_setLoopCh (m : Nat) (x : LoopCh) (n : Nat) : (b.setLoopCh m x).loopAxOf n = b.loopAxOf n := rfl
@[simp] theorem Bay.loopAxOf_setGrade (m : Nat) (x : Option GradeVec) (n : Nat) : (b.setGrade m x).loopAxOf n = b.loopAxOf n := rfl
@[simp] theorem Bay.loopAxOf_setTrace (m : Nat) (x : Trace) (n : Nat) : (b.setTrace m x).loopAxOf n = b.loopAxOf n := rfl
@[simp] theorem Bay.loopAxOf_setWale (m : Nat) (x : Wale) (n : Nat) : (b.setWale m x).loopAxOf n = b.loopAxOf n := rfl
@[simp] theorem Bay.loopAxOf_setAxis (m : Nat) (x : Axis) (n : Nat) : (b.setAxis m x).loopAxOf n = b.loopAxOf n := rfl
@[simp] theorem Bay.loopAxOf_setEnc (m : Nat) (x : Enc) (n : Nat) : (b.setEnc m x).loopAxOf n = b.loopAxOf n := rfl
@[simp] theorem Bay.loopAxOf_setThermCh (m : Nat) (x : ThermCh) (n : Nat) : (b.setThermCh m x).loopAxOf n = b.loopAxOf n := rfl
@[simp] theorem Bay.loopAxOf_setCan (m : Nat) (x : Can) (n : Nat) : (b.setCan m x).loopAxOf n = b.loopAxOf n := rfl
@[simp] theorem Bay.loopAxOf_setLatch (m : Nat) (x : Latch) (n : Nat) : (b.setLatch m x).loopAxOf n = b.loopAxOf n := rfl
@[simp] theorem Bay.loopAxOf_send (x : OutMsg) (n : Nat) : (b.send x).loopAxOf n = b.loopAxOf n := rfl
@[simp] theorem Bay.loopAxOf_setModeSt (x : ModeSt) (n : Nat) : (b.setModeSt x).loopAxOf n = b.loopAxOf n := rfl
@[simp] theorem Bay.loopAxOf_setPlant (x : Plant) (n : Nat) : (b.setPlant x).loopAxOf n = b.loopAxOf n := rfl
@[simp] theorem Bay.loopAxOf_setSafe (x : Safe) (n : Nat) : (b.setSafe x).loopAxOf n = b.loopAxOf n := rfl
@[simp] theorem Bay.loopAxOf_setTherm (x : Therm) (n : Nat) : (b.setTherm x).loopAxOf n = b.loopAxOf n := rfl
@[simp] theorem Bay.loopAxOf_setWeave (x : Weave) (n : Nat) : (b.setWeave x).loopAxOf n = b.loopAxOf n := rfl
@[simp] theorem Bay.loopAxOf_setTrust (x : Trust) (n : Nat) : (b.setTrust x).loopAxOf n = b.loopAxOf n := rfl
@[simp] theorem Bay.loopAxOf_shadowWrite (k : Key) (v : Int) (n : Nat) : (b.shadowWrite k v).loopAxOf n = b.loopAxOf n := rfl
@[simp] theorem Bay.mk_loopAxOf (f_regs : Store) (f_now : Nat) (f_shadows : List Shadow) (f_hiLatch : Store) (f_setT : Store) (f_edge : EdgeView) (f_log : List EvEntry) (f_episode : Bool) (f_evBits : List EvBit) (f_stage : Tab Stage) (f_driver : Tab Driver) (f_fram : Tab Fram) (f_border : Tab Border) (f_chan : Tab Chan) (f_means : Tab Means) (f_ring : Tab Ring) (f_cellT : Tab (Int × Int)) (f_slotv : Tab SlotView) (f_measCh : Tab MeasCh) (f_measSt : MeasSt) (f_eng : Tab Eng) (f_images : List Image) (f_verMax : List (Int × Int)) (f_revoked : List Int) (f_groups : Tab Group) (f_sweep : Tab Sweep) (f_loopCh : Tab LoopCh) (f_loopAx : Tab LoopAx) (f_trace : Tab Trace) (f_grade : Tab (Option GradeVec)) (f_modeSt : ModeSt) (f_plant : Plant) (f_wale : Tab Wale) (f_axis : Tab Axis) (f_axRec : List AxRec) (f_enc : Tab Enc) (f_thermCh : Tab ThermCh) (f_therm : Therm) (f_safe : Safe) (f_red : Red) (f_memHid : MemHid) (f_trust : Trust) (f_weave : Weave) (f_can : Tab Can) (f_latch : Tab Latch) (f_shortReq : Bool) (f_out : List OutMsg) (f_fresh : Nat) (n : Nat) : (Bay.mk f_regs f_now f_shadows f_hiLatch f_setT f_edge f_log f_episode f_evBits f_stage f_driver f_fram f_border f_chan f_means f_ring f_cellT f_slotv f_measCh f_measSt f_eng f_images f_verMax f_revoked f_groups f_sweep f_loopCh f_loopAx f_trace f_grade f_modeSt f_plant f_wale f_axis f_axRec f_enc f_thermCh f_therm f_safe f_red f_memHid f_trust f_weave f_can f_latch f_shortReq f_out f_fresh).loopAxOf n = Tab.get {} f_loopAx n := rfl
@[simp] theorem Bay.fold_loopAxOf (n : Nat) : Tab.get {} b.loopAx n = b.loopAxOf n := rfl
@[simp] theorem Bay.gradeOf_setGrade_same (n : Nat) (x : Option GradeVec) : (b.setGrade n x).gradeOf n = x := by simp [Bay.gradeOf, Bay.setGrade, Tab.get_put]
@[simp] theorem Bay.gradeOf_setGrade_of_ne {n m : Nat} (x : Option GradeVec) (h : ¬ n = m) : (b.setGrade n x).gradeOf m = b.gradeOf m := by simp [Bay.gradeOf, Bay.setGrade, Tab.get_put, h]
@[simp] theorem Bay.gradeOf_wr (k : Key) (v : Int) (n : Nat) : (b.wr k v).gradeOf n = b.gradeOf n := rfl
@[simp] theorem Bay.gradeOf_setFlag (k : Key) (v : Bool) (n : Nat) : (b.setFlag k v).gradeOf n = b.gradeOf n := rfl
@[simp] theorem Bay.gradeOf_bump32 (k : Key) (n : Nat) : (b.bump32 k).gradeOf n = b.gradeOf n := rfl
@[simp] theorem Bay.gradeOf_setSticky (k : Key) (n : Nat) : (b.setSticky k).gradeOf n = b.gradeOf n := rfl
@[simp] theorem Bay.gradeOf_clearSticky (k : Key) (n : Nat) : (b.clearSticky k).gradeOf n = b.gradeOf n := by unfold Bay.clearSticky; split <;> rfl
@[simp] theorem Bay.gradeOf_bumpSat (k : Key) (p m : Int) (n : Nat) : (b.bumpSat k p m).gradeOf n = b.gradeOf n := rfl
@[simp] theorem Bay.gradeOf_note (src : Nat) (n : Nat) : (b.note src).gradeOf n = b.gradeOf n := by simp [Bay.gradeOf]
@[simp] theorem Bay.gradeOf_raise (src : Nat) (d v : Int) (n : Nat) : (b.raise src d v).gradeOf n = b.gradeOf n := by simp [Bay.gradeOf]
@[simp] theorem Bay.gradeOf_raiseD (src : Nat) (d : Int) (n : Nat) : (b.raiseD src d).gradeOf n = b.gradeOf n := by simp [Bay.gradeOf]
@[simp] theorem Bay.gradeOf_raiseAt (t src : Nat) (d v : Int) (n : Nat) : (b.raiseAt t src d v).gradeOf n = b.gradeOf n := by simp [Bay.gradeOf]
@[simp] theorem Bay.gradeOf_refuse (k : Key) (r : Int) (n : Nat) : (b.refuse k r).gradeOf n = b.gradeOf n := by simp [Bay.gradeOf]
@[simp] theorem Bay.gradeOf_cfgErr (a : Nat) (r : Int) (n : Nat) : (b.cfgErr a r).gradeOf n = b.gradeOf n := by simp [Bay.gradeOf]
@[simp] theorem Bay.gradeOf_sendEvBit (t e i : Nat) (n : Nat) : (b.sendEvBit t e i).gradeOf n = b.gradeOf n := rfl
@[simp] theorem Bay.gradeOf_setStage (m : Nat) (x : Stage) (n : Nat) : (b.setStage m x).gradeOf n = b.gradeOf n := rfl
@[simp] theorem Bay.gradeOf_setDriver (m : Nat) (x : Driver) (n : Nat) : (b.setDriver m x).gradeOf n = b.gradeOf n := rfl
@[simp] theorem Bay.gradeOf_setFram (m : Nat) (x : Fram) (n : Nat) : (b.setFram m x).gradeOf n = b.gradeOf n := rfl
@[simp] theorem Bay.gradeOf_setBorder (m : Nat) (x : Border) (n : Nat) : (b.setBorder m x).gradeOf n = b.gradeOf n := rfl
@[simp] theorem Bay.gradeOf_setCellT (m : Nat) (x : Int × Int) (n : Nat) : (b.setCellT m x).gradeOf n = b.gradeOf n := rfl
@[simp] theorem Bay.gradeOf_setSlot (m : Nat) (x : SlotView) (n : Nat) : (b.setSlot m x).gradeOf n = b.gradeOf n := rfl
@[simp] theorem Bay.gradeOf_setChan (m : Nat) (x : Chan) (n : Nat) : (b.setChan m x).gradeOf n = b.gradeOf n := rfl
@[simp] theorem Bay.gradeOf_setMeans (m : Nat) (x : Means) (n : Nat) : (b.setMeans m x).gradeOf n = b.gradeOf n := rfl
@[simp] theorem Bay.gradeOf_setRing (m : Nat) (x : Ring) (n : Nat) : (b.setRing m x).gradeOf n = b.gradeOf n := rfl
@[simp] theorem Bay.gradeOf_setMeasCh (m : Nat) (x : MeasCh) (n : Nat) : (b.setMeasCh m x).gradeOf n = b.gradeOf n := rfl
@[simp] theorem Bay.gradeOf_setEng (m : Nat) (x : Eng) (n : Nat) : (b.setEng m x).gradeOf n = b.gradeOf n := rfl
@[simp] theorem Bay.gradeOf_setGroup (m : Nat) (x : Group) (n : Nat) : (b.setGroup m x).gradeOf n = b.gradeOf n := rfl
@[simp] theorem Bay.gradeOf_setSweep (m : Nat) (x : Sweep) (n : Nat) : (b.setSweep m x).gradeOf n = b.gradeOf n := rfl
@[simp] theorem Bay.gradeOf_setLoopCh (m : Nat) (x : LoopCh) (n : Nat) : (b.setLoopCh m x).gradeOf n = b.gradeOf n := rfl
@[simp] theorem Bay.gradeOf_setLoopAx (m : Nat) (x : LoopAx) (n : Nat) : (b.setLoopAx m x).gradeOf n = b.gradeOf n := rfl
@[simp] theorem Bay.gradeOf_setTrace (m : Nat) (x : Trace) (n : Nat) : (b.setTrace m x).gradeOf n = b.gradeOf n := rfl
@[simp] theorem Bay.gradeOf_setWale (m : Nat) (x : Wale) (n : Nat) : (b.setWale m x).gradeOf n = b.gradeOf n := rfl
@[simp] theorem Bay.gradeOf_setAxis (m : Nat) (x : Axis) (n : Nat) : (b.setAxis m x).gradeOf n = b.gradeOf n := rfl
@[simp] theorem Bay.gradeOf_setEnc (m : Nat) (x : Enc) (n : Nat) : (b.setEnc m x).gradeOf n = b.gradeOf n := rfl
@[simp] theorem Bay.gradeOf_setThermCh (m : Nat) (x : ThermCh) (n : Nat) : (b.setThermCh m x).gradeOf n = b.gradeOf n := rfl
@[simp] theorem Bay.gradeOf_setCan (m : Nat) (x : Can) (n : Nat) : (b.setCan m x).gradeOf n = b.gradeOf n := rfl
@[simp] theorem Bay.gradeOf_setLatch (m : Nat) (x : Latch) (n : Nat) : (b.setLatch m x).gradeOf n = b.gradeOf n := rfl
@[simp] theorem Bay.gradeOf_send (x : OutMsg) (n : Nat) : (b.send x).gradeOf n = b.gradeOf n := rfl
@[simp] theorem Bay.gradeOf_setModeSt (x : ModeSt) (n : Nat) : (b.setModeSt x).gradeOf n = b.gradeOf n := rfl
@[simp] theorem Bay.gradeOf_setPlant (x : Plant) (n : Nat) : (b.setPlant x).gradeOf n = b.gradeOf n := rfl
@[simp] theorem Bay.gradeOf_setSafe (x : Safe) (n : Nat) : (b.setSafe x).gradeOf n = b.gradeOf n := rfl
@[simp] theorem Bay.gradeOf_setTherm (x : Therm) (n : Nat) : (b.setTherm x).gradeOf n = b.gradeOf n := rfl
@[simp] theorem Bay.gradeOf_setWeave (x : Weave) (n : Nat) : (b.setWeave x).gradeOf n = b.gradeOf n := rfl
@[simp] theorem Bay.gradeOf_setTrust (x : Trust) (n : Nat) : (b.setTrust x).gradeOf n = b.gradeOf n := rfl
@[simp] theorem Bay.gradeOf_shadowWrite (k : Key) (v : Int) (n : Nat) : (b.shadowWrite k v).gradeOf n = b.gradeOf n := rfl
@[simp] theorem Bay.mk_gradeOf (f_regs : Store) (f_now : Nat) (f_shadows : List Shadow) (f_hiLatch : Store) (f_setT : Store) (f_edge : EdgeView) (f_log : List EvEntry) (f_episode : Bool) (f_evBits : List EvBit) (f_stage : Tab Stage) (f_driver : Tab Driver) (f_fram : Tab Fram) (f_border : Tab Border) (f_chan : Tab Chan) (f_means : Tab Means) (f_ring : Tab Ring) (f_cellT : Tab (Int × Int)) (f_slotv : Tab SlotView) (f_measCh : Tab MeasCh) (f_measSt : MeasSt) (f_eng : Tab Eng) (f_images : List Image) (f_verMax : List (Int × Int)) (f_revoked : List Int) (f_groups : Tab Group) (f_sweep : Tab Sweep) (f_loopCh : Tab LoopCh) (f_loopAx : Tab LoopAx) (f_trace : Tab Trace) (f_grade : Tab (Option GradeVec)) (f_modeSt : ModeSt) (f_plant : Plant) (f_wale : Tab Wale) (f_axis : Tab Axis) (f_axRec : List AxRec) (f_enc : Tab Enc) (f_thermCh : Tab ThermCh) (f_therm : Therm) (f_safe : Safe) (f_red : Red) (f_memHid : MemHid) (f_trust : Trust) (f_weave : Weave) (f_can : Tab Can) (f_latch : Tab Latch) (f_shortReq : Bool) (f_out : List OutMsg) (f_fresh : Nat) (n : Nat) : (Bay.mk f_regs f_now f_shadows f_hiLatch f_setT f_edge f_log f_episode f_evBits f_stage f_driver f_fram f_border f_chan f_means f_ring f_cellT f_slotv f_measCh f_measSt f_eng f_images f_verMax f_revoked f_groups f_sweep f_loopCh f_loopAx f_trace f_grade f_modeSt f_plant f_wale f_axis f_axRec f_enc f_thermCh f_therm f_safe f_red f_memHid f_trust f_weave f_can f_latch f_shortReq f_out f_fresh).gradeOf n = Tab.get none f_grade n := rfl
@[simp] theorem Bay.fold_gradeOf (n : Nat) : Tab.get none b.grade n = b.gradeOf n := rfl
@[simp] theorem Bay.traceOf_setTrace_same (n : Nat) (x : Trace) : (b.setTrace n x).traceOf n = x := by simp [Bay.traceOf, Bay.setTrace, Tab.get_put]
@[simp] theorem Bay.traceOf_setTrace_of_ne {n m : Nat} (x : Trace) (h : ¬ n = m) : (b.setTrace n x).traceOf m = b.traceOf m := by simp [Bay.traceOf, Bay.setTrace, Tab.get_put, h]
@[simp] theorem Bay.traceOf_wr (k : Key) (v : Int) (n : Nat) : (b.wr k v).traceOf n = b.traceOf n := rfl
@[simp] theorem Bay.traceOf_setFlag (k : Key) (v : Bool) (n : Nat) : (b.setFlag k v).traceOf n = b.traceOf n := rfl
@[simp] theorem Bay.traceOf_bump32 (k : Key) (n : Nat) : (b.bump32 k).traceOf n = b.traceOf n := rfl
@[simp] theorem Bay.traceOf_setSticky (k : Key) (n : Nat) : (b.setSticky k).traceOf n = b.traceOf n := rfl
@[simp] theorem Bay.traceOf_clearSticky (k : Key) (n : Nat) : (b.clearSticky k).traceOf n = b.traceOf n := by unfold Bay.clearSticky; split <;> rfl
@[simp] theorem Bay.traceOf_bumpSat (k : Key) (p m : Int) (n : Nat) : (b.bumpSat k p m).traceOf n = b.traceOf n := rfl
@[simp] theorem Bay.traceOf_sendEvBit (t e i : Nat) (n : Nat) : (b.sendEvBit t e i).traceOf n = b.traceOf n := rfl
@[simp] theorem Bay.traceOf_setStage (m : Nat) (x : Stage) (n : Nat) : (b.setStage m x).traceOf n = b.traceOf n := rfl
@[simp] theorem Bay.traceOf_setDriver (m : Nat) (x : Driver) (n : Nat) : (b.setDriver m x).traceOf n = b.traceOf n := rfl
@[simp] theorem Bay.traceOf_setFram (m : Nat) (x : Fram) (n : Nat) : (b.setFram m x).traceOf n = b.traceOf n := rfl
@[simp] theorem Bay.traceOf_setBorder (m : Nat) (x : Border) (n : Nat) : (b.setBorder m x).traceOf n = b.traceOf n := rfl
@[simp] theorem Bay.traceOf_setCellT (m : Nat) (x : Int × Int) (n : Nat) : (b.setCellT m x).traceOf n = b.traceOf n := rfl
@[simp] theorem Bay.traceOf_setSlot (m : Nat) (x : SlotView) (n : Nat) : (b.setSlot m x).traceOf n = b.traceOf n := rfl
@[simp] theorem Bay.traceOf_setChan (m : Nat) (x : Chan) (n : Nat) : (b.setChan m x).traceOf n = b.traceOf n := rfl
@[simp] theorem Bay.traceOf_setMeans (m : Nat) (x : Means) (n : Nat) : (b.setMeans m x).traceOf n = b.traceOf n := rfl
@[simp] theorem Bay.traceOf_setRing (m : Nat) (x : Ring) (n : Nat) : (b.setRing m x).traceOf n = b.traceOf n := rfl
@[simp] theorem Bay.traceOf_setMeasCh (m : Nat) (x : MeasCh) (n : Nat) : (b.setMeasCh m x).traceOf n = b.traceOf n := rfl
@[simp] theorem Bay.traceOf_setEng (m : Nat) (x : Eng) (n : Nat) : (b.setEng m x).traceOf n = b.traceOf n := rfl
@[simp] theorem Bay.traceOf_setGroup (m : Nat) (x : Group) (n : Nat) : (b.setGroup m x).traceOf n = b.traceOf n := rfl
@[simp] theorem Bay.traceOf_setSweep (m : Nat) (x : Sweep) (n : Nat) : (b.setSweep m x).traceOf n = b.traceOf n := rfl
@[simp] theorem Bay.traceOf_setLoopCh (m : Nat) (x : LoopCh) (n : Nat) : (b.setLoopCh m x).traceOf n = b.traceOf n := rfl
@[simp] theorem Bay.traceOf_setLoopAx (m : Nat) (x : LoopAx) (n : Nat) : (b.setLoopAx m x).traceOf n = b.traceOf n := rfl
@[simp] theorem Bay.traceOf_setGrade (m : Nat) (x : Option GradeVec) (n : Nat) : (b.setGrade m x).traceOf n = b.traceOf n := rfl
@[simp] theorem Bay.traceOf_setWale (m : Nat) (x : Wale) (n : Nat) : (b.setWale m x).traceOf n = b.traceOf n := rfl
@[simp] theorem Bay.traceOf_setAxis (m : Nat) (x : Axis) (n : Nat) : (b.setAxis m x).traceOf n = b.traceOf n := rfl
@[simp] theorem Bay.traceOf_setEnc (m : Nat) (x : Enc) (n : Nat) : (b.setEnc m x).traceOf n = b.traceOf n := rfl
@[simp] theorem Bay.traceOf_setThermCh (m : Nat) (x : ThermCh) (n : Nat) : (b.setThermCh m x).traceOf n = b.traceOf n := rfl
@[simp] theorem Bay.traceOf_setCan (m : Nat) (x : Can) (n : Nat) : (b.setCan m x).traceOf n = b.traceOf n := rfl
@[simp] theorem Bay.traceOf_setLatch (m : Nat) (x : Latch) (n : Nat) : (b.setLatch m x).traceOf n = b.traceOf n := rfl
@[simp] theorem Bay.traceOf_send (x : OutMsg) (n : Nat) : (b.send x).traceOf n = b.traceOf n := rfl
@[simp] theorem Bay.traceOf_setModeSt (x : ModeSt) (n : Nat) : (b.setModeSt x).traceOf n = b.traceOf n := rfl
@[simp] theorem Bay.traceOf_setPlant (x : Plant) (n : Nat) : (b.setPlant x).traceOf n = b.traceOf n := rfl
@[simp] theorem Bay.traceOf_setSafe (x : Safe) (n : Nat) : (b.setSafe x).traceOf n = b.traceOf n := rfl
@[simp] theorem Bay.traceOf_setTherm (x : Therm) (n : Nat) : (b.setTherm x).traceOf n = b.traceOf n := rfl
@[simp] theorem Bay.traceOf_setWeave (x : Weave) (n : Nat) : (b.setWeave x).traceOf n = b.traceOf n := rfl
@[simp] theorem Bay.traceOf_setTrust (x : Trust) (n : Nat) : (b.setTrust x).traceOf n = b.traceOf n := rfl
@[simp] theorem Bay.traceOf_shadowWrite (k : Key) (v : Int) (n : Nat) : (b.shadowWrite k v).traceOf n = b.traceOf n := rfl
@[simp] theorem Bay.mk_traceOf (f_regs : Store) (f_now : Nat) (f_shadows : List Shadow) (f_hiLatch : Store) (f_setT : Store) (f_edge : EdgeView) (f_log : List EvEntry) (f_episode : Bool) (f_evBits : List EvBit) (f_stage : Tab Stage) (f_driver : Tab Driver) (f_fram : Tab Fram) (f_border : Tab Border) (f_chan : Tab Chan) (f_means : Tab Means) (f_ring : Tab Ring) (f_cellT : Tab (Int × Int)) (f_slotv : Tab SlotView) (f_measCh : Tab MeasCh) (f_measSt : MeasSt) (f_eng : Tab Eng) (f_images : List Image) (f_verMax : List (Int × Int)) (f_revoked : List Int) (f_groups : Tab Group) (f_sweep : Tab Sweep) (f_loopCh : Tab LoopCh) (f_loopAx : Tab LoopAx) (f_trace : Tab Trace) (f_grade : Tab (Option GradeVec)) (f_modeSt : ModeSt) (f_plant : Plant) (f_wale : Tab Wale) (f_axis : Tab Axis) (f_axRec : List AxRec) (f_enc : Tab Enc) (f_thermCh : Tab ThermCh) (f_therm : Therm) (f_safe : Safe) (f_red : Red) (f_memHid : MemHid) (f_trust : Trust) (f_weave : Weave) (f_can : Tab Can) (f_latch : Tab Latch) (f_shortReq : Bool) (f_out : List OutMsg) (f_fresh : Nat) (n : Nat) : (Bay.mk f_regs f_now f_shadows f_hiLatch f_setT f_edge f_log f_episode f_evBits f_stage f_driver f_fram f_border f_chan f_means f_ring f_cellT f_slotv f_measCh f_measSt f_eng f_images f_verMax f_revoked f_groups f_sweep f_loopCh f_loopAx f_trace f_grade f_modeSt f_plant f_wale f_axis f_axRec f_enc f_thermCh f_therm f_safe f_red f_memHid f_trust f_weave f_can f_latch f_shortReq f_out f_fresh).traceOf n = Tab.get {} f_trace n := rfl
@[simp] theorem Bay.fold_traceOf (n : Nat) : Tab.get {} b.trace n = b.traceOf n := rfl
@[simp] theorem Bay.waleSt_setWale_same (n : Nat) (x : Wale) : (b.setWale n x).waleSt n = x := by simp [Bay.waleSt, Bay.setWale, Tab.get_put]
@[simp] theorem Bay.waleSt_setWale_of_ne {n m : Nat} (x : Wale) (h : ¬ n = m) : (b.setWale n x).waleSt m = b.waleSt m := by simp [Bay.waleSt, Bay.setWale, Tab.get_put, h]
@[simp] theorem Bay.waleSt_wr (k : Key) (v : Int) (n : Nat) : (b.wr k v).waleSt n = b.waleSt n := rfl
@[simp] theorem Bay.waleSt_setFlag (k : Key) (v : Bool) (n : Nat) : (b.setFlag k v).waleSt n = b.waleSt n := rfl
@[simp] theorem Bay.waleSt_bump32 (k : Key) (n : Nat) : (b.bump32 k).waleSt n = b.waleSt n := rfl
@[simp] theorem Bay.waleSt_setSticky (k : Key) (n : Nat) : (b.setSticky k).waleSt n = b.waleSt n := rfl
@[simp] theorem Bay.waleSt_clearSticky (k : Key) (n : Nat) : (b.clearSticky k).waleSt n = b.waleSt n := by unfold Bay.clearSticky; split <;> rfl
@[simp] theorem Bay.waleSt_bumpSat (k : Key) (p m : Int) (n : Nat) : (b.bumpSat k p m).waleSt n = b.waleSt n := rfl
@[simp] theorem Bay.waleSt_note (src : Nat) (n : Nat) : (b.note src).waleSt n = b.waleSt n := by simp [Bay.waleSt]
@[simp] theorem Bay.waleSt_raise (src : Nat) (d v : Int) (n : Nat) : (b.raise src d v).waleSt n = b.waleSt n := by simp [Bay.waleSt]
@[simp] theorem Bay.waleSt_raiseD (src : Nat) (d : Int) (n : Nat) : (b.raiseD src d).waleSt n = b.waleSt n := by simp [Bay.waleSt]
@[simp] theorem Bay.waleSt_raiseAt (t src : Nat) (d v : Int) (n : Nat) : (b.raiseAt t src d v).waleSt n = b.waleSt n := by simp [Bay.waleSt]
@[simp] theorem Bay.waleSt_refuse (k : Key) (r : Int) (n : Nat) : (b.refuse k r).waleSt n = b.waleSt n := by simp [Bay.waleSt]
@[simp] theorem Bay.waleSt_cfgErr (a : Nat) (r : Int) (n : Nat) : (b.cfgErr a r).waleSt n = b.waleSt n := by simp [Bay.waleSt]
@[simp] theorem Bay.waleSt_sendEvBit (t e i : Nat) (n : Nat) : (b.sendEvBit t e i).waleSt n = b.waleSt n := rfl
@[simp] theorem Bay.waleSt_setStage (m : Nat) (x : Stage) (n : Nat) : (b.setStage m x).waleSt n = b.waleSt n := rfl
@[simp] theorem Bay.waleSt_setDriver (m : Nat) (x : Driver) (n : Nat) : (b.setDriver m x).waleSt n = b.waleSt n := rfl
@[simp] theorem Bay.waleSt_setFram (m : Nat) (x : Fram) (n : Nat) : (b.setFram m x).waleSt n = b.waleSt n := rfl
@[simp] theorem Bay.waleSt_setBorder (m : Nat) (x : Border) (n : Nat) : (b.setBorder m x).waleSt n = b.waleSt n := rfl
@[simp] theorem Bay.waleSt_setCellT (m : Nat) (x : Int × Int) (n : Nat) : (b.setCellT m x).waleSt n = b.waleSt n := rfl
@[simp] theorem Bay.waleSt_setSlot (m : Nat) (x : SlotView) (n : Nat) : (b.setSlot m x).waleSt n = b.waleSt n := rfl
@[simp] theorem Bay.waleSt_setChan (m : Nat) (x : Chan) (n : Nat) : (b.setChan m x).waleSt n = b.waleSt n := rfl
@[simp] theorem Bay.waleSt_setMeans (m : Nat) (x : Means) (n : Nat) : (b.setMeans m x).waleSt n = b.waleSt n := rfl
@[simp] theorem Bay.waleSt_setRing (m : Nat) (x : Ring) (n : Nat) : (b.setRing m x).waleSt n = b.waleSt n := rfl
@[simp] theorem Bay.waleSt_setMeasCh (m : Nat) (x : MeasCh) (n : Nat) : (b.setMeasCh m x).waleSt n = b.waleSt n := rfl
@[simp] theorem Bay.waleSt_setEng (m : Nat) (x : Eng) (n : Nat) : (b.setEng m x).waleSt n = b.waleSt n := rfl
@[simp] theorem Bay.waleSt_setGroup (m : Nat) (x : Group) (n : Nat) : (b.setGroup m x).waleSt n = b.waleSt n := rfl
@[simp] theorem Bay.waleSt_setSweep (m : Nat) (x : Sweep) (n : Nat) : (b.setSweep m x).waleSt n = b.waleSt n := rfl
@[simp] theorem Bay.waleSt_setLoopCh (m : Nat) (x : LoopCh) (n : Nat) : (b.setLoopCh m x).waleSt n = b.waleSt n := rfl
@[simp] theorem Bay.waleSt_setLoopAx (m : Nat) (x : LoopAx) (n : Nat) : (b.setLoopAx m x).waleSt n = b.waleSt n := rfl
@[simp] theorem Bay.waleSt_setGrade (m : Nat) (x : Option GradeVec) (n : Nat) : (b.setGrade m x).waleSt n = b.waleSt n := rfl
@[simp] theorem Bay.waleSt_setTrace (m : Nat) (x : Trace) (n : Nat) : (b.setTrace m x).waleSt n = b.waleSt n := rfl
@[simp] theorem Bay.waleSt_setAxis (m : Nat) (x : Axis) (n : Nat) : (b.setAxis m x).waleSt n = b.waleSt n := rfl
@[simp] theorem Bay.waleSt_setEnc (m : Nat) (x : Enc) (n : Nat) : (b.setEnc m x).waleSt n = b.waleSt n := rfl
@[simp] theorem Bay.waleSt_setThermCh (m : Nat) (x : ThermCh) (n : Nat) : (b.setThermCh m x).waleSt n = b.waleSt n := rfl
@[simp] theorem Bay.waleSt_setCan (m : Nat) (x : Can) (n : Nat) : (b.setCan m x).waleSt n = b.waleSt n := rfl
@[simp] theorem Bay.waleSt_setLatch (m : Nat) (x : Latch) (n : Nat) : (b.setLatch m x).waleSt n = b.waleSt n := rfl
@[simp] theorem Bay.waleSt_send (x : OutMsg) (n : Nat) : (b.send x).waleSt n = b.waleSt n := rfl
@[simp] theorem Bay.waleSt_setModeSt (x : ModeSt) (n : Nat) : (b.setModeSt x).waleSt n = b.waleSt n := rfl
@[simp] theorem Bay.waleSt_setPlant (x : Plant) (n : Nat) : (b.setPlant x).waleSt n = b.waleSt n := rfl
@[simp] theorem Bay.waleSt_setSafe (x : Safe) (n : Nat) : (b.setSafe x).waleSt n = b.waleSt n := rfl
@[simp] theorem Bay.waleSt_setTherm (x : Therm) (n : Nat) : (b.setTherm x).waleSt n = b.waleSt n := rfl
@[simp] theorem Bay.waleSt_setWeave (x : Weave) (n : Nat) : (b.setWeave x).waleSt n = b.waleSt n := rfl
@[simp] theorem Bay.waleSt_setTrust (x : Trust) (n : Nat) : (b.setTrust x).waleSt n = b.waleSt n := rfl
@[simp] theorem Bay.waleSt_shadowWrite (k : Key) (v : Int) (n : Nat) : (b.shadowWrite k v).waleSt n = b.waleSt n := rfl
@[simp] theorem Bay.mk_waleSt (f_regs : Store) (f_now : Nat) (f_shadows : List Shadow) (f_hiLatch : Store) (f_setT : Store) (f_edge : EdgeView) (f_log : List EvEntry) (f_episode : Bool) (f_evBits : List EvBit) (f_stage : Tab Stage) (f_driver : Tab Driver) (f_fram : Tab Fram) (f_border : Tab Border) (f_chan : Tab Chan) (f_means : Tab Means) (f_ring : Tab Ring) (f_cellT : Tab (Int × Int)) (f_slotv : Tab SlotView) (f_measCh : Tab MeasCh) (f_measSt : MeasSt) (f_eng : Tab Eng) (f_images : List Image) (f_verMax : List (Int × Int)) (f_revoked : List Int) (f_groups : Tab Group) (f_sweep : Tab Sweep) (f_loopCh : Tab LoopCh) (f_loopAx : Tab LoopAx) (f_trace : Tab Trace) (f_grade : Tab (Option GradeVec)) (f_modeSt : ModeSt) (f_plant : Plant) (f_wale : Tab Wale) (f_axis : Tab Axis) (f_axRec : List AxRec) (f_enc : Tab Enc) (f_thermCh : Tab ThermCh) (f_therm : Therm) (f_safe : Safe) (f_red : Red) (f_memHid : MemHid) (f_trust : Trust) (f_weave : Weave) (f_can : Tab Can) (f_latch : Tab Latch) (f_shortReq : Bool) (f_out : List OutMsg) (f_fresh : Nat) (n : Nat) : (Bay.mk f_regs f_now f_shadows f_hiLatch f_setT f_edge f_log f_episode f_evBits f_stage f_driver f_fram f_border f_chan f_means f_ring f_cellT f_slotv f_measCh f_measSt f_eng f_images f_verMax f_revoked f_groups f_sweep f_loopCh f_loopAx f_trace f_grade f_modeSt f_plant f_wale f_axis f_axRec f_enc f_thermCh f_therm f_safe f_red f_memHid f_trust f_weave f_can f_latch f_shortReq f_out f_fresh).waleSt n = Tab.get {} f_wale n := rfl
@[simp] theorem Bay.fold_waleSt (n : Nat) : Tab.get {} b.wale n = b.waleSt n := rfl
@[simp] theorem Bay.axisOf_setAxis_same (n : Nat) (x : Axis) : (b.setAxis n x).axisOf n = x := by simp [Bay.axisOf, Bay.setAxis, Tab.get_put]
@[simp] theorem Bay.axisOf_setAxis_of_ne {n m : Nat} (x : Axis) (h : ¬ n = m) : (b.setAxis n x).axisOf m = b.axisOf m := by simp [Bay.axisOf, Bay.setAxis, Tab.get_put, h]
@[simp] theorem Bay.axisOf_wr (k : Key) (v : Int) (n : Nat) : (b.wr k v).axisOf n = b.axisOf n := rfl
@[simp] theorem Bay.axisOf_setFlag (k : Key) (v : Bool) (n : Nat) : (b.setFlag k v).axisOf n = b.axisOf n := rfl
@[simp] theorem Bay.axisOf_bump32 (k : Key) (n : Nat) : (b.bump32 k).axisOf n = b.axisOf n := rfl
@[simp] theorem Bay.axisOf_setSticky (k : Key) (n : Nat) : (b.setSticky k).axisOf n = b.axisOf n := rfl
@[simp] theorem Bay.axisOf_clearSticky (k : Key) (n : Nat) : (b.clearSticky k).axisOf n = b.axisOf n := by unfold Bay.clearSticky; split <;> rfl
@[simp] theorem Bay.axisOf_bumpSat (k : Key) (p m : Int) (n : Nat) : (b.bumpSat k p m).axisOf n = b.axisOf n := rfl
@[simp] theorem Bay.axisOf_note (src : Nat) (n : Nat) : (b.note src).axisOf n = b.axisOf n := by simp [Bay.axisOf]
@[simp] theorem Bay.axisOf_raise (src : Nat) (d v : Int) (n : Nat) : (b.raise src d v).axisOf n = b.axisOf n := by simp [Bay.axisOf]
@[simp] theorem Bay.axisOf_raiseD (src : Nat) (d : Int) (n : Nat) : (b.raiseD src d).axisOf n = b.axisOf n := by simp [Bay.axisOf]
@[simp] theorem Bay.axisOf_raiseAt (t src : Nat) (d v : Int) (n : Nat) : (b.raiseAt t src d v).axisOf n = b.axisOf n := by simp [Bay.axisOf]
@[simp] theorem Bay.axisOf_refuse (k : Key) (r : Int) (n : Nat) : (b.refuse k r).axisOf n = b.axisOf n := by simp [Bay.axisOf]
@[simp] theorem Bay.axisOf_cfgErr (a : Nat) (r : Int) (n : Nat) : (b.cfgErr a r).axisOf n = b.axisOf n := by simp [Bay.axisOf]
@[simp] theorem Bay.axisOf_sendEvBit (t e i : Nat) (n : Nat) : (b.sendEvBit t e i).axisOf n = b.axisOf n := rfl
@[simp] theorem Bay.axisOf_setStage (m : Nat) (x : Stage) (n : Nat) : (b.setStage m x).axisOf n = b.axisOf n := rfl
@[simp] theorem Bay.axisOf_setDriver (m : Nat) (x : Driver) (n : Nat) : (b.setDriver m x).axisOf n = b.axisOf n := rfl
@[simp] theorem Bay.axisOf_setFram (m : Nat) (x : Fram) (n : Nat) : (b.setFram m x).axisOf n = b.axisOf n := rfl
@[simp] theorem Bay.axisOf_setBorder (m : Nat) (x : Border) (n : Nat) : (b.setBorder m x).axisOf n = b.axisOf n := rfl
@[simp] theorem Bay.axisOf_setCellT (m : Nat) (x : Int × Int) (n : Nat) : (b.setCellT m x).axisOf n = b.axisOf n := rfl
@[simp] theorem Bay.axisOf_setSlot (m : Nat) (x : SlotView) (n : Nat) : (b.setSlot m x).axisOf n = b.axisOf n := rfl
@[simp] theorem Bay.axisOf_setChan (m : Nat) (x : Chan) (n : Nat) : (b.setChan m x).axisOf n = b.axisOf n := rfl
@[simp] theorem Bay.axisOf_setMeans (m : Nat) (x : Means) (n : Nat) : (b.setMeans m x).axisOf n = b.axisOf n := rfl
@[simp] theorem Bay.axisOf_setRing (m : Nat) (x : Ring) (n : Nat) : (b.setRing m x).axisOf n = b.axisOf n := rfl
@[simp] theorem Bay.axisOf_setMeasCh (m : Nat) (x : MeasCh) (n : Nat) : (b.setMeasCh m x).axisOf n = b.axisOf n := rfl
@[simp] theorem Bay.axisOf_setEng (m : Nat) (x : Eng) (n : Nat) : (b.setEng m x).axisOf n = b.axisOf n := rfl
@[simp] theorem Bay.axisOf_setGroup (m : Nat) (x : Group) (n : Nat) : (b.setGroup m x).axisOf n = b.axisOf n := rfl
@[simp] theorem Bay.axisOf_setSweep (m : Nat) (x : Sweep) (n : Nat) : (b.setSweep m x).axisOf n = b.axisOf n := rfl
@[simp] theorem Bay.axisOf_setLoopCh (m : Nat) (x : LoopCh) (n : Nat) : (b.setLoopCh m x).axisOf n = b.axisOf n := rfl
@[simp] theorem Bay.axisOf_setLoopAx (m : Nat) (x : LoopAx) (n : Nat) : (b.setLoopAx m x).axisOf n = b.axisOf n := rfl
@[simp] theorem Bay.axisOf_setGrade (m : Nat) (x : Option GradeVec) (n : Nat) : (b.setGrade m x).axisOf n = b.axisOf n := rfl
@[simp] theorem Bay.axisOf_setTrace (m : Nat) (x : Trace) (n : Nat) : (b.setTrace m x).axisOf n = b.axisOf n := rfl
@[simp] theorem Bay.axisOf_setWale (m : Nat) (x : Wale) (n : Nat) : (b.setWale m x).axisOf n = b.axisOf n := rfl
@[simp] theorem Bay.axisOf_setEnc (m : Nat) (x : Enc) (n : Nat) : (b.setEnc m x).axisOf n = b.axisOf n := rfl
@[simp] theorem Bay.axisOf_setThermCh (m : Nat) (x : ThermCh) (n : Nat) : (b.setThermCh m x).axisOf n = b.axisOf n := rfl
@[simp] theorem Bay.axisOf_setCan (m : Nat) (x : Can) (n : Nat) : (b.setCan m x).axisOf n = b.axisOf n := rfl
@[simp] theorem Bay.axisOf_setLatch (m : Nat) (x : Latch) (n : Nat) : (b.setLatch m x).axisOf n = b.axisOf n := rfl
@[simp] theorem Bay.axisOf_send (x : OutMsg) (n : Nat) : (b.send x).axisOf n = b.axisOf n := rfl
@[simp] theorem Bay.axisOf_setModeSt (x : ModeSt) (n : Nat) : (b.setModeSt x).axisOf n = b.axisOf n := rfl
@[simp] theorem Bay.axisOf_setPlant (x : Plant) (n : Nat) : (b.setPlant x).axisOf n = b.axisOf n := rfl
@[simp] theorem Bay.axisOf_setSafe (x : Safe) (n : Nat) : (b.setSafe x).axisOf n = b.axisOf n := rfl
@[simp] theorem Bay.axisOf_setTherm (x : Therm) (n : Nat) : (b.setTherm x).axisOf n = b.axisOf n := rfl
@[simp] theorem Bay.axisOf_setWeave (x : Weave) (n : Nat) : (b.setWeave x).axisOf n = b.axisOf n := rfl
@[simp] theorem Bay.axisOf_setTrust (x : Trust) (n : Nat) : (b.setTrust x).axisOf n = b.axisOf n := rfl
@[simp] theorem Bay.axisOf_shadowWrite (k : Key) (v : Int) (n : Nat) : (b.shadowWrite k v).axisOf n = b.axisOf n := rfl
@[simp] theorem Bay.mk_axisOf (f_regs : Store) (f_now : Nat) (f_shadows : List Shadow) (f_hiLatch : Store) (f_setT : Store) (f_edge : EdgeView) (f_log : List EvEntry) (f_episode : Bool) (f_evBits : List EvBit) (f_stage : Tab Stage) (f_driver : Tab Driver) (f_fram : Tab Fram) (f_border : Tab Border) (f_chan : Tab Chan) (f_means : Tab Means) (f_ring : Tab Ring) (f_cellT : Tab (Int × Int)) (f_slotv : Tab SlotView) (f_measCh : Tab MeasCh) (f_measSt : MeasSt) (f_eng : Tab Eng) (f_images : List Image) (f_verMax : List (Int × Int)) (f_revoked : List Int) (f_groups : Tab Group) (f_sweep : Tab Sweep) (f_loopCh : Tab LoopCh) (f_loopAx : Tab LoopAx) (f_trace : Tab Trace) (f_grade : Tab (Option GradeVec)) (f_modeSt : ModeSt) (f_plant : Plant) (f_wale : Tab Wale) (f_axis : Tab Axis) (f_axRec : List AxRec) (f_enc : Tab Enc) (f_thermCh : Tab ThermCh) (f_therm : Therm) (f_safe : Safe) (f_red : Red) (f_memHid : MemHid) (f_trust : Trust) (f_weave : Weave) (f_can : Tab Can) (f_latch : Tab Latch) (f_shortReq : Bool) (f_out : List OutMsg) (f_fresh : Nat) (n : Nat) : (Bay.mk f_regs f_now f_shadows f_hiLatch f_setT f_edge f_log f_episode f_evBits f_stage f_driver f_fram f_border f_chan f_means f_ring f_cellT f_slotv f_measCh f_measSt f_eng f_images f_verMax f_revoked f_groups f_sweep f_loopCh f_loopAx f_trace f_grade f_modeSt f_plant f_wale f_axis f_axRec f_enc f_thermCh f_therm f_safe f_red f_memHid f_trust f_weave f_can f_latch f_shortReq f_out f_fresh).axisOf n = Tab.get {} f_axis n := rfl
@[simp] theorem Bay.fold_axisOf (n : Nat) : Tab.get {} b.axis n = b.axisOf n := rfl
@[simp] theorem Bay.encOf_setEnc_same (n : Nat) (x : Enc) : (b.setEnc n x).encOf n = x := by simp [Bay.encOf, Bay.setEnc, Tab.get_put]
@[simp] theorem Bay.encOf_setEnc_of_ne {n m : Nat} (x : Enc) (h : ¬ n = m) : (b.setEnc n x).encOf m = b.encOf m := by simp [Bay.encOf, Bay.setEnc, Tab.get_put, h]
@[simp] theorem Bay.encOf_wr (k : Key) (v : Int) (n : Nat) : (b.wr k v).encOf n = b.encOf n := rfl
@[simp] theorem Bay.encOf_setFlag (k : Key) (v : Bool) (n : Nat) : (b.setFlag k v).encOf n = b.encOf n := rfl
@[simp] theorem Bay.encOf_bump32 (k : Key) (n : Nat) : (b.bump32 k).encOf n = b.encOf n := rfl
@[simp] theorem Bay.encOf_setSticky (k : Key) (n : Nat) : (b.setSticky k).encOf n = b.encOf n := rfl
@[simp] theorem Bay.encOf_clearSticky (k : Key) (n : Nat) : (b.clearSticky k).encOf n = b.encOf n := by unfold Bay.clearSticky; split <;> rfl
@[simp] theorem Bay.encOf_bumpSat (k : Key) (p m : Int) (n : Nat) : (b.bumpSat k p m).encOf n = b.encOf n := rfl
@[simp] theorem Bay.encOf_note (src : Nat) (n : Nat) : (b.note src).encOf n = b.encOf n := by simp [Bay.encOf]
@[simp] theorem Bay.encOf_raise (src : Nat) (d v : Int) (n : Nat) : (b.raise src d v).encOf n = b.encOf n := by simp [Bay.encOf]
@[simp] theorem Bay.encOf_raiseD (src : Nat) (d : Int) (n : Nat) : (b.raiseD src d).encOf n = b.encOf n := by simp [Bay.encOf]
@[simp] theorem Bay.encOf_raiseAt (t src : Nat) (d v : Int) (n : Nat) : (b.raiseAt t src d v).encOf n = b.encOf n := by simp [Bay.encOf]
@[simp] theorem Bay.encOf_refuse (k : Key) (r : Int) (n : Nat) : (b.refuse k r).encOf n = b.encOf n := by simp [Bay.encOf]
@[simp] theorem Bay.encOf_cfgErr (a : Nat) (r : Int) (n : Nat) : (b.cfgErr a r).encOf n = b.encOf n := by simp [Bay.encOf]
@[simp] theorem Bay.encOf_sendEvBit (t e i : Nat) (n : Nat) : (b.sendEvBit t e i).encOf n = b.encOf n := rfl
@[simp] theorem Bay.encOf_setStage (m : Nat) (x : Stage) (n : Nat) : (b.setStage m x).encOf n = b.encOf n := rfl
@[simp] theorem Bay.encOf_setDriver (m : Nat) (x : Driver) (n : Nat) : (b.setDriver m x).encOf n = b.encOf n := rfl
@[simp] theorem Bay.encOf_setFram (m : Nat) (x : Fram) (n : Nat) : (b.setFram m x).encOf n = b.encOf n := rfl
@[simp] theorem Bay.encOf_setBorder (m : Nat) (x : Border) (n : Nat) : (b.setBorder m x).encOf n = b.encOf n := rfl
@[simp] theorem Bay.encOf_setCellT (m : Nat) (x : Int × Int) (n : Nat) : (b.setCellT m x).encOf n = b.encOf n := rfl
@[simp] theorem Bay.encOf_setSlot (m : Nat) (x : SlotView) (n : Nat) : (b.setSlot m x).encOf n = b.encOf n := rfl
@[simp] theorem Bay.encOf_setChan (m : Nat) (x : Chan) (n : Nat) : (b.setChan m x).encOf n = b.encOf n := rfl
@[simp] theorem Bay.encOf_setMeans (m : Nat) (x : Means) (n : Nat) : (b.setMeans m x).encOf n = b.encOf n := rfl
@[simp] theorem Bay.encOf_setRing (m : Nat) (x : Ring) (n : Nat) : (b.setRing m x).encOf n = b.encOf n := rfl
@[simp] theorem Bay.encOf_setMeasCh (m : Nat) (x : MeasCh) (n : Nat) : (b.setMeasCh m x).encOf n = b.encOf n := rfl
@[simp] theorem Bay.encOf_setEng (m : Nat) (x : Eng) (n : Nat) : (b.setEng m x).encOf n = b.encOf n := rfl
@[simp] theorem Bay.encOf_setGroup (m : Nat) (x : Group) (n : Nat) : (b.setGroup m x).encOf n = b.encOf n := rfl
@[simp] theorem Bay.encOf_setSweep (m : Nat) (x : Sweep) (n : Nat) : (b.setSweep m x).encOf n = b.encOf n := rfl
@[simp] theorem Bay.encOf_setLoopCh (m : Nat) (x : LoopCh) (n : Nat) : (b.setLoopCh m x).encOf n = b.encOf n := rfl
@[simp] theorem Bay.encOf_setLoopAx (m : Nat) (x : LoopAx) (n : Nat) : (b.setLoopAx m x).encOf n = b.encOf n := rfl
@[simp] theorem Bay.encOf_setGrade (m : Nat) (x : Option GradeVec) (n : Nat) : (b.setGrade m x).encOf n = b.encOf n := rfl
@[simp] theorem Bay.encOf_setTrace (m : Nat) (x : Trace) (n : Nat) : (b.setTrace m x).encOf n = b.encOf n := rfl
@[simp] theorem Bay.encOf_setWale (m : Nat) (x : Wale) (n : Nat) : (b.setWale m x).encOf n = b.encOf n := rfl
@[simp] theorem Bay.encOf_setAxis (m : Nat) (x : Axis) (n : Nat) : (b.setAxis m x).encOf n = b.encOf n := rfl
@[simp] theorem Bay.encOf_setThermCh (m : Nat) (x : ThermCh) (n : Nat) : (b.setThermCh m x).encOf n = b.encOf n := rfl
@[simp] theorem Bay.encOf_setCan (m : Nat) (x : Can) (n : Nat) : (b.setCan m x).encOf n = b.encOf n := rfl
@[simp] theorem Bay.encOf_setLatch (m : Nat) (x : Latch) (n : Nat) : (b.setLatch m x).encOf n = b.encOf n := rfl
@[simp] theorem Bay.encOf_send (x : OutMsg) (n : Nat) : (b.send x).encOf n = b.encOf n := rfl
@[simp] theorem Bay.encOf_setModeSt (x : ModeSt) (n : Nat) : (b.setModeSt x).encOf n = b.encOf n := rfl
@[simp] theorem Bay.encOf_setPlant (x : Plant) (n : Nat) : (b.setPlant x).encOf n = b.encOf n := rfl
@[simp] theorem Bay.encOf_setSafe (x : Safe) (n : Nat) : (b.setSafe x).encOf n = b.encOf n := rfl
@[simp] theorem Bay.encOf_setTherm (x : Therm) (n : Nat) : (b.setTherm x).encOf n = b.encOf n := rfl
@[simp] theorem Bay.encOf_setWeave (x : Weave) (n : Nat) : (b.setWeave x).encOf n = b.encOf n := rfl
@[simp] theorem Bay.encOf_setTrust (x : Trust) (n : Nat) : (b.setTrust x).encOf n = b.encOf n := rfl
@[simp] theorem Bay.encOf_shadowWrite (k : Key) (v : Int) (n : Nat) : (b.shadowWrite k v).encOf n = b.encOf n := rfl
@[simp] theorem Bay.mk_encOf (f_regs : Store) (f_now : Nat) (f_shadows : List Shadow) (f_hiLatch : Store) (f_setT : Store) (f_edge : EdgeView) (f_log : List EvEntry) (f_episode : Bool) (f_evBits : List EvBit) (f_stage : Tab Stage) (f_driver : Tab Driver) (f_fram : Tab Fram) (f_border : Tab Border) (f_chan : Tab Chan) (f_means : Tab Means) (f_ring : Tab Ring) (f_cellT : Tab (Int × Int)) (f_slotv : Tab SlotView) (f_measCh : Tab MeasCh) (f_measSt : MeasSt) (f_eng : Tab Eng) (f_images : List Image) (f_verMax : List (Int × Int)) (f_revoked : List Int) (f_groups : Tab Group) (f_sweep : Tab Sweep) (f_loopCh : Tab LoopCh) (f_loopAx : Tab LoopAx) (f_trace : Tab Trace) (f_grade : Tab (Option GradeVec)) (f_modeSt : ModeSt) (f_plant : Plant) (f_wale : Tab Wale) (f_axis : Tab Axis) (f_axRec : List AxRec) (f_enc : Tab Enc) (f_thermCh : Tab ThermCh) (f_therm : Therm) (f_safe : Safe) (f_red : Red) (f_memHid : MemHid) (f_trust : Trust) (f_weave : Weave) (f_can : Tab Can) (f_latch : Tab Latch) (f_shortReq : Bool) (f_out : List OutMsg) (f_fresh : Nat) (n : Nat) : (Bay.mk f_regs f_now f_shadows f_hiLatch f_setT f_edge f_log f_episode f_evBits f_stage f_driver f_fram f_border f_chan f_means f_ring f_cellT f_slotv f_measCh f_measSt f_eng f_images f_verMax f_revoked f_groups f_sweep f_loopCh f_loopAx f_trace f_grade f_modeSt f_plant f_wale f_axis f_axRec f_enc f_thermCh f_therm f_safe f_red f_memHid f_trust f_weave f_can f_latch f_shortReq f_out f_fresh).encOf n = Tab.get {} f_enc n := rfl
@[simp] theorem Bay.fold_encOf (n : Nat) : Tab.get {} b.enc n = b.encOf n := rfl
@[simp] theorem Bay.thermChOf_setThermCh_same (n : Nat) (x : ThermCh) : (b.setThermCh n x).thermChOf n = x := by simp [Bay.thermChOf, Bay.setThermCh, Tab.get_put]
@[simp] theorem Bay.thermChOf_setThermCh_of_ne {n m : Nat} (x : ThermCh) (h : ¬ n = m) : (b.setThermCh n x).thermChOf m = b.thermChOf m := by simp [Bay.thermChOf, Bay.setThermCh, Tab.get_put, h]
@[simp] theorem Bay.thermChOf_wr (k : Key) (v : Int) (n : Nat) : (b.wr k v).thermChOf n = b.thermChOf n := rfl
@[simp] theorem Bay.thermChOf_setFlag (k : Key) (v : Bool) (n : Nat) : (b.setFlag k v).thermChOf n = b.thermChOf n := rfl
@[simp] theorem Bay.thermChOf_bump32 (k : Key) (n : Nat) : (b.bump32 k).thermChOf n = b.thermChOf n := rfl
@[simp] theorem Bay.thermChOf_setSticky (k : Key) (n : Nat) : (b.setSticky k).thermChOf n = b.thermChOf n := rfl
@[simp] theorem Bay.thermChOf_clearSticky (k : Key) (n : Nat) : (b.clearSticky k).thermChOf n = b.thermChOf n := by unfold Bay.clearSticky; split <;> rfl
@[simp] theorem Bay.thermChOf_bumpSat (k : Key) (p m : Int) (n : Nat) : (b.bumpSat k p m).thermChOf n = b.thermChOf n := rfl
@[simp] theorem Bay.thermChOf_note (src : Nat) (n : Nat) : (b.note src).thermChOf n = b.thermChOf n := by simp [Bay.thermChOf]
@[simp] theorem Bay.thermChOf_raise (src : Nat) (d v : Int) (n : Nat) : (b.raise src d v).thermChOf n = b.thermChOf n := by simp [Bay.thermChOf]
@[simp] theorem Bay.thermChOf_raiseD (src : Nat) (d : Int) (n : Nat) : (b.raiseD src d).thermChOf n = b.thermChOf n := by simp [Bay.thermChOf]
@[simp] theorem Bay.thermChOf_raiseAt (t src : Nat) (d v : Int) (n : Nat) : (b.raiseAt t src d v).thermChOf n = b.thermChOf n := by simp [Bay.thermChOf]
@[simp] theorem Bay.thermChOf_refuse (k : Key) (r : Int) (n : Nat) : (b.refuse k r).thermChOf n = b.thermChOf n := by simp [Bay.thermChOf]
@[simp] theorem Bay.thermChOf_cfgErr (a : Nat) (r : Int) (n : Nat) : (b.cfgErr a r).thermChOf n = b.thermChOf n := by simp [Bay.thermChOf]
@[simp] theorem Bay.thermChOf_sendEvBit (t e i : Nat) (n : Nat) : (b.sendEvBit t e i).thermChOf n = b.thermChOf n := rfl
@[simp] theorem Bay.thermChOf_setStage (m : Nat) (x : Stage) (n : Nat) : (b.setStage m x).thermChOf n = b.thermChOf n := rfl
@[simp] theorem Bay.thermChOf_setDriver (m : Nat) (x : Driver) (n : Nat) : (b.setDriver m x).thermChOf n = b.thermChOf n := rfl
@[simp] theorem Bay.thermChOf_setFram (m : Nat) (x : Fram) (n : Nat) : (b.setFram m x).thermChOf n = b.thermChOf n := rfl
@[simp] theorem Bay.thermChOf_setBorder (m : Nat) (x : Border) (n : Nat) : (b.setBorder m x).thermChOf n = b.thermChOf n := rfl
@[simp] theorem Bay.thermChOf_setCellT (m : Nat) (x : Int × Int) (n : Nat) : (b.setCellT m x).thermChOf n = b.thermChOf n := rfl
@[simp] theorem Bay.thermChOf_setSlot (m : Nat) (x : SlotView) (n : Nat) : (b.setSlot m x).thermChOf n = b.thermChOf n := rfl
@[simp] theorem Bay.thermChOf_setChan (m : Nat) (x : Chan) (n : Nat) : (b.setChan m x).thermChOf n = b.thermChOf n := rfl
@[simp] theorem Bay.thermChOf_setMeans (m : Nat) (x : Means) (n : Nat) : (b.setMeans m x).thermChOf n = b.thermChOf n := rfl
@[simp] theorem Bay.thermChOf_setRing (m : Nat) (x : Ring) (n : Nat) : (b.setRing m x).thermChOf n = b.thermChOf n := rfl
@[simp] theorem Bay.thermChOf_setMeasCh (m : Nat) (x : MeasCh) (n : Nat) : (b.setMeasCh m x).thermChOf n = b.thermChOf n := rfl
@[simp] theorem Bay.thermChOf_setEng (m : Nat) (x : Eng) (n : Nat) : (b.setEng m x).thermChOf n = b.thermChOf n := rfl
@[simp] theorem Bay.thermChOf_setGroup (m : Nat) (x : Group) (n : Nat) : (b.setGroup m x).thermChOf n = b.thermChOf n := rfl
@[simp] theorem Bay.thermChOf_setSweep (m : Nat) (x : Sweep) (n : Nat) : (b.setSweep m x).thermChOf n = b.thermChOf n := rfl
@[simp] theorem Bay.thermChOf_setLoopCh (m : Nat) (x : LoopCh) (n : Nat) : (b.setLoopCh m x).thermChOf n = b.thermChOf n := rfl
@[simp] theorem Bay.thermChOf_setLoopAx (m : Nat) (x : LoopAx) (n : Nat) : (b.setLoopAx m x).thermChOf n = b.thermChOf n := rfl
@[simp] theorem Bay.thermChOf_setGrade (m : Nat) (x : Option GradeVec) (n : Nat) : (b.setGrade m x).thermChOf n = b.thermChOf n := rfl
@[simp] theorem Bay.thermChOf_setTrace (m : Nat) (x : Trace) (n : Nat) : (b.setTrace m x).thermChOf n = b.thermChOf n := rfl
@[simp] theorem Bay.thermChOf_setWale (m : Nat) (x : Wale) (n : Nat) : (b.setWale m x).thermChOf n = b.thermChOf n := rfl
@[simp] theorem Bay.thermChOf_setAxis (m : Nat) (x : Axis) (n : Nat) : (b.setAxis m x).thermChOf n = b.thermChOf n := rfl
@[simp] theorem Bay.thermChOf_setEnc (m : Nat) (x : Enc) (n : Nat) : (b.setEnc m x).thermChOf n = b.thermChOf n := rfl
@[simp] theorem Bay.thermChOf_setCan (m : Nat) (x : Can) (n : Nat) : (b.setCan m x).thermChOf n = b.thermChOf n := rfl
@[simp] theorem Bay.thermChOf_setLatch (m : Nat) (x : Latch) (n : Nat) : (b.setLatch m x).thermChOf n = b.thermChOf n := rfl
@[simp] theorem Bay.thermChOf_send (x : OutMsg) (n : Nat) : (b.send x).thermChOf n = b.thermChOf n := rfl
@[simp] theorem Bay.thermChOf_setModeSt (x : ModeSt) (n : Nat) : (b.setModeSt x).thermChOf n = b.thermChOf n := rfl
@[simp] theorem Bay.thermChOf_setPlant (x : Plant) (n : Nat) : (b.setPlant x).thermChOf n = b.thermChOf n := rfl
@[simp] theorem Bay.thermChOf_setSafe (x : Safe) (n : Nat) : (b.setSafe x).thermChOf n = b.thermChOf n := rfl
@[simp] theorem Bay.thermChOf_setTherm (x : Therm) (n : Nat) : (b.setTherm x).thermChOf n = b.thermChOf n := rfl
@[simp] theorem Bay.thermChOf_setWeave (x : Weave) (n : Nat) : (b.setWeave x).thermChOf n = b.thermChOf n := rfl
@[simp] theorem Bay.thermChOf_setTrust (x : Trust) (n : Nat) : (b.setTrust x).thermChOf n = b.thermChOf n := rfl
@[simp] theorem Bay.thermChOf_shadowWrite (k : Key) (v : Int) (n : Nat) : (b.shadowWrite k v).thermChOf n = b.thermChOf n := rfl
@[simp] theorem Bay.mk_thermChOf (f_regs : Store) (f_now : Nat) (f_shadows : List Shadow) (f_hiLatch : Store) (f_setT : Store) (f_edge : EdgeView) (f_log : List EvEntry) (f_episode : Bool) (f_evBits : List EvBit) (f_stage : Tab Stage) (f_driver : Tab Driver) (f_fram : Tab Fram) (f_border : Tab Border) (f_chan : Tab Chan) (f_means : Tab Means) (f_ring : Tab Ring) (f_cellT : Tab (Int × Int)) (f_slotv : Tab SlotView) (f_measCh : Tab MeasCh) (f_measSt : MeasSt) (f_eng : Tab Eng) (f_images : List Image) (f_verMax : List (Int × Int)) (f_revoked : List Int) (f_groups : Tab Group) (f_sweep : Tab Sweep) (f_loopCh : Tab LoopCh) (f_loopAx : Tab LoopAx) (f_trace : Tab Trace) (f_grade : Tab (Option GradeVec)) (f_modeSt : ModeSt) (f_plant : Plant) (f_wale : Tab Wale) (f_axis : Tab Axis) (f_axRec : List AxRec) (f_enc : Tab Enc) (f_thermCh : Tab ThermCh) (f_therm : Therm) (f_safe : Safe) (f_red : Red) (f_memHid : MemHid) (f_trust : Trust) (f_weave : Weave) (f_can : Tab Can) (f_latch : Tab Latch) (f_shortReq : Bool) (f_out : List OutMsg) (f_fresh : Nat) (n : Nat) : (Bay.mk f_regs f_now f_shadows f_hiLatch f_setT f_edge f_log f_episode f_evBits f_stage f_driver f_fram f_border f_chan f_means f_ring f_cellT f_slotv f_measCh f_measSt f_eng f_images f_verMax f_revoked f_groups f_sweep f_loopCh f_loopAx f_trace f_grade f_modeSt f_plant f_wale f_axis f_axRec f_enc f_thermCh f_therm f_safe f_red f_memHid f_trust f_weave f_can f_latch f_shortReq f_out f_fresh).thermChOf n = Tab.get {} f_thermCh n := rfl
@[simp] theorem Bay.fold_thermChOf (n : Nat) : Tab.get {} b.thermCh n = b.thermChOf n := rfl
@[simp] theorem Bay.canOf_setCan_same (n : Nat) (x : Can) : (b.setCan n x).canOf n = x := by simp [Bay.canOf, Bay.setCan, Tab.get_put]
@[simp] theorem Bay.canOf_setCan_of_ne {n m : Nat} (x : Can) (h : ¬ n = m) : (b.setCan n x).canOf m = b.canOf m := by simp [Bay.canOf, Bay.setCan, Tab.get_put, h]
@[simp] theorem Bay.canOf_wr (k : Key) (v : Int) (n : Nat) : (b.wr k v).canOf n = b.canOf n := rfl
@[simp] theorem Bay.canOf_setFlag (k : Key) (v : Bool) (n : Nat) : (b.setFlag k v).canOf n = b.canOf n := rfl
@[simp] theorem Bay.canOf_bump32 (k : Key) (n : Nat) : (b.bump32 k).canOf n = b.canOf n := rfl
@[simp] theorem Bay.canOf_setSticky (k : Key) (n : Nat) : (b.setSticky k).canOf n = b.canOf n := rfl
@[simp] theorem Bay.canOf_clearSticky (k : Key) (n : Nat) : (b.clearSticky k).canOf n = b.canOf n := by unfold Bay.clearSticky; split <;> rfl
@[simp] theorem Bay.canOf_bumpSat (k : Key) (p m : Int) (n : Nat) : (b.bumpSat k p m).canOf n = b.canOf n := rfl
@[simp] theorem Bay.canOf_note (src : Nat) (n : Nat) : (b.note src).canOf n = b.canOf n := by simp [Bay.canOf]
@[simp] theorem Bay.canOf_raise (src : Nat) (d v : Int) (n : Nat) : (b.raise src d v).canOf n = b.canOf n := by simp [Bay.canOf]
@[simp] theorem Bay.canOf_raiseD (src : Nat) (d : Int) (n : Nat) : (b.raiseD src d).canOf n = b.canOf n := by simp [Bay.canOf]
@[simp] theorem Bay.canOf_raiseAt (t src : Nat) (d v : Int) (n : Nat) : (b.raiseAt t src d v).canOf n = b.canOf n := by simp [Bay.canOf]
@[simp] theorem Bay.canOf_refuse (k : Key) (r : Int) (n : Nat) : (b.refuse k r).canOf n = b.canOf n := by simp [Bay.canOf]
@[simp] theorem Bay.canOf_cfgErr (a : Nat) (r : Int) (n : Nat) : (b.cfgErr a r).canOf n = b.canOf n := by simp [Bay.canOf]
@[simp] theorem Bay.canOf_sendEvBit (t e i : Nat) (n : Nat) : (b.sendEvBit t e i).canOf n = b.canOf n := rfl
@[simp] theorem Bay.canOf_setStage (m : Nat) (x : Stage) (n : Nat) : (b.setStage m x).canOf n = b.canOf n := rfl
@[simp] theorem Bay.canOf_setDriver (m : Nat) (x : Driver) (n : Nat) : (b.setDriver m x).canOf n = b.canOf n := rfl
@[simp] theorem Bay.canOf_setFram (m : Nat) (x : Fram) (n : Nat) : (b.setFram m x).canOf n = b.canOf n := rfl
@[simp] theorem Bay.canOf_setBorder (m : Nat) (x : Border) (n : Nat) : (b.setBorder m x).canOf n = b.canOf n := rfl
@[simp] theorem Bay.canOf_setCellT (m : Nat) (x : Int × Int) (n : Nat) : (b.setCellT m x).canOf n = b.canOf n := rfl
@[simp] theorem Bay.canOf_setSlot (m : Nat) (x : SlotView) (n : Nat) : (b.setSlot m x).canOf n = b.canOf n := rfl
@[simp] theorem Bay.canOf_setChan (m : Nat) (x : Chan) (n : Nat) : (b.setChan m x).canOf n = b.canOf n := rfl
@[simp] theorem Bay.canOf_setMeans (m : Nat) (x : Means) (n : Nat) : (b.setMeans m x).canOf n = b.canOf n := rfl
@[simp] theorem Bay.canOf_setRing (m : Nat) (x : Ring) (n : Nat) : (b.setRing m x).canOf n = b.canOf n := rfl
@[simp] theorem Bay.canOf_setMeasCh (m : Nat) (x : MeasCh) (n : Nat) : (b.setMeasCh m x).canOf n = b.canOf n := rfl
@[simp] theorem Bay.canOf_setEng (m : Nat) (x : Eng) (n : Nat) : (b.setEng m x).canOf n = b.canOf n := rfl
@[simp] theorem Bay.canOf_setGroup (m : Nat) (x : Group) (n : Nat) : (b.setGroup m x).canOf n = b.canOf n := rfl
@[simp] theorem Bay.canOf_setSweep (m : Nat) (x : Sweep) (n : Nat) : (b.setSweep m x).canOf n = b.canOf n := rfl
@[simp] theorem Bay.canOf_setLoopCh (m : Nat) (x : LoopCh) (n : Nat) : (b.setLoopCh m x).canOf n = b.canOf n := rfl
@[simp] theorem Bay.canOf_setLoopAx (m : Nat) (x : LoopAx) (n : Nat) : (b.setLoopAx m x).canOf n = b.canOf n := rfl
@[simp] theorem Bay.canOf_setGrade (m : Nat) (x : Option GradeVec) (n : Nat) : (b.setGrade m x).canOf n = b.canOf n := rfl
@[simp] theorem Bay.canOf_setTrace (m : Nat) (x : Trace) (n : Nat) : (b.setTrace m x).canOf n = b.canOf n := rfl
@[simp] theorem Bay.canOf_setWale (m : Nat) (x : Wale) (n : Nat) : (b.setWale m x).canOf n = b.canOf n := rfl
@[simp] theorem Bay.canOf_setAxis (m : Nat) (x : Axis) (n : Nat) : (b.setAxis m x).canOf n = b.canOf n := rfl
@[simp] theorem Bay.canOf_setEnc (m : Nat) (x : Enc) (n : Nat) : (b.setEnc m x).canOf n = b.canOf n := rfl
@[simp] theorem Bay.canOf_setThermCh (m : Nat) (x : ThermCh) (n : Nat) : (b.setThermCh m x).canOf n = b.canOf n := rfl
@[simp] theorem Bay.canOf_setLatch (m : Nat) (x : Latch) (n : Nat) : (b.setLatch m x).canOf n = b.canOf n := rfl
@[simp] theorem Bay.canOf_send (x : OutMsg) (n : Nat) : (b.send x).canOf n = b.canOf n := rfl
@[simp] theorem Bay.canOf_setModeSt (x : ModeSt) (n : Nat) : (b.setModeSt x).canOf n = b.canOf n := rfl
@[simp] theorem Bay.canOf_setPlant (x : Plant) (n : Nat) : (b.setPlant x).canOf n = b.canOf n := rfl
@[simp] theorem Bay.canOf_setSafe (x : Safe) (n : Nat) : (b.setSafe x).canOf n = b.canOf n := rfl
@[simp] theorem Bay.canOf_setTherm (x : Therm) (n : Nat) : (b.setTherm x).canOf n = b.canOf n := rfl
@[simp] theorem Bay.canOf_setWeave (x : Weave) (n : Nat) : (b.setWeave x).canOf n = b.canOf n := rfl
@[simp] theorem Bay.canOf_setTrust (x : Trust) (n : Nat) : (b.setTrust x).canOf n = b.canOf n := rfl
@[simp] theorem Bay.canOf_shadowWrite (k : Key) (v : Int) (n : Nat) : (b.shadowWrite k v).canOf n = b.canOf n := rfl
@[simp] theorem Bay.mk_canOf (f_regs : Store) (f_now : Nat) (f_shadows : List Shadow) (f_hiLatch : Store) (f_setT : Store) (f_edge : EdgeView) (f_log : List EvEntry) (f_episode : Bool) (f_evBits : List EvBit) (f_stage : Tab Stage) (f_driver : Tab Driver) (f_fram : Tab Fram) (f_border : Tab Border) (f_chan : Tab Chan) (f_means : Tab Means) (f_ring : Tab Ring) (f_cellT : Tab (Int × Int)) (f_slotv : Tab SlotView) (f_measCh : Tab MeasCh) (f_measSt : MeasSt) (f_eng : Tab Eng) (f_images : List Image) (f_verMax : List (Int × Int)) (f_revoked : List Int) (f_groups : Tab Group) (f_sweep : Tab Sweep) (f_loopCh : Tab LoopCh) (f_loopAx : Tab LoopAx) (f_trace : Tab Trace) (f_grade : Tab (Option GradeVec)) (f_modeSt : ModeSt) (f_plant : Plant) (f_wale : Tab Wale) (f_axis : Tab Axis) (f_axRec : List AxRec) (f_enc : Tab Enc) (f_thermCh : Tab ThermCh) (f_therm : Therm) (f_safe : Safe) (f_red : Red) (f_memHid : MemHid) (f_trust : Trust) (f_weave : Weave) (f_can : Tab Can) (f_latch : Tab Latch) (f_shortReq : Bool) (f_out : List OutMsg) (f_fresh : Nat) (n : Nat) : (Bay.mk f_regs f_now f_shadows f_hiLatch f_setT f_edge f_log f_episode f_evBits f_stage f_driver f_fram f_border f_chan f_means f_ring f_cellT f_slotv f_measCh f_measSt f_eng f_images f_verMax f_revoked f_groups f_sweep f_loopCh f_loopAx f_trace f_grade f_modeSt f_plant f_wale f_axis f_axRec f_enc f_thermCh f_therm f_safe f_red f_memHid f_trust f_weave f_can f_latch f_shortReq f_out f_fresh).canOf n = Tab.get {} f_can n := rfl
@[simp] theorem Bay.fold_canOf (n : Nat) : Tab.get {} b.can n = b.canOf n := rfl
@[simp] theorem Bay.latchOf_setLatch_same (n : Nat) (x : Latch) : (b.setLatch n x).latchOf n = x := by simp [Bay.latchOf, Bay.setLatch, Tab.get_put]
@[simp] theorem Bay.latchOf_setLatch_of_ne {n m : Nat} (x : Latch) (h : ¬ n = m) : (b.setLatch n x).latchOf m = b.latchOf m := by simp [Bay.latchOf, Bay.setLatch, Tab.get_put, h]
@[simp] theorem Bay.latchOf_wr (k : Key) (v : Int) (n : Nat) : (b.wr k v).latchOf n = b.latchOf n := rfl
@[simp] theorem Bay.latchOf_setFlag (k : Key) (v : Bool) (n : Nat) : (b.setFlag k v).latchOf n = b.latchOf n := rfl
@[simp] theorem Bay.latchOf_bump32 (k : Key) (n : Nat) : (b.bump32 k).latchOf n = b.latchOf n := rfl
@[simp] theorem Bay.latchOf_setSticky (k : Key) (n : Nat) : (b.setSticky k).latchOf n = b.latchOf n := rfl
@[simp] theorem Bay.latchOf_clearSticky (k : Key) (n : Nat) : (b.clearSticky k).latchOf n = b.latchOf n := by unfold Bay.clearSticky; split <;> rfl
@[simp] theorem Bay.latchOf_bumpSat (k : Key) (p m : Int) (n : Nat) : (b.bumpSat k p m).latchOf n = b.latchOf n := rfl
@[simp] theorem Bay.latchOf_note (src : Nat) (n : Nat) : (b.note src).latchOf n = b.latchOf n := by simp [Bay.latchOf]
@[simp] theorem Bay.latchOf_raise (src : Nat) (d v : Int) (n : Nat) : (b.raise src d v).latchOf n = b.latchOf n := by simp [Bay.latchOf]
@[simp] theorem Bay.latchOf_raiseD (src : Nat) (d : Int) (n : Nat) : (b.raiseD src d).latchOf n = b.latchOf n := by simp [Bay.latchOf]
@[simp] theorem Bay.latchOf_raiseAt (t src : Nat) (d v : Int) (n : Nat) : (b.raiseAt t src d v).latchOf n = b.latchOf n := by simp [Bay.latchOf]
@[simp] theorem Bay.latchOf_refuse (k : Key) (r : Int) (n : Nat) : (b.refuse k r).latchOf n = b.latchOf n := by simp [Bay.latchOf]
@[simp] theorem Bay.latchOf_cfgErr (a : Nat) (r : Int) (n : Nat) : (b.cfgErr a r).latchOf n = b.latchOf n := by simp [Bay.latchOf]
@[simp] theorem Bay.latchOf_sendEvBit (t e i : Nat) (n : Nat) : (b.sendEvBit t e i).latchOf n = b.latchOf n := rfl
@[simp] theorem Bay.latchOf_setStage (m : Nat) (x : Stage) (n : Nat) : (b.setStage m x).latchOf n = b.latchOf n := rfl
@[simp] theorem Bay.latchOf_setDriver (m : Nat) (x : Driver) (n : Nat) : (b.setDriver m x).latchOf n = b.latchOf n := rfl
@[simp] theorem Bay.latchOf_setFram (m : Nat) (x : Fram) (n : Nat) : (b.setFram m x).latchOf n = b.latchOf n := rfl
@[simp] theorem Bay.latchOf_setBorder (m : Nat) (x : Border) (n : Nat) : (b.setBorder m x).latchOf n = b.latchOf n := rfl
@[simp] theorem Bay.latchOf_setCellT (m : Nat) (x : Int × Int) (n : Nat) : (b.setCellT m x).latchOf n = b.latchOf n := rfl
@[simp] theorem Bay.latchOf_setSlot (m : Nat) (x : SlotView) (n : Nat) : (b.setSlot m x).latchOf n = b.latchOf n := rfl
@[simp] theorem Bay.latchOf_setChan (m : Nat) (x : Chan) (n : Nat) : (b.setChan m x).latchOf n = b.latchOf n := rfl
@[simp] theorem Bay.latchOf_setMeans (m : Nat) (x : Means) (n : Nat) : (b.setMeans m x).latchOf n = b.latchOf n := rfl
@[simp] theorem Bay.latchOf_setRing (m : Nat) (x : Ring) (n : Nat) : (b.setRing m x).latchOf n = b.latchOf n := rfl
@[simp] theorem Bay.latchOf_setMeasCh (m : Nat) (x : MeasCh) (n : Nat) : (b.setMeasCh m x).latchOf n = b.latchOf n := rfl
@[simp] theorem Bay.latchOf_setEng (m : Nat) (x : Eng) (n : Nat) : (b.setEng m x).latchOf n = b.latchOf n := rfl
@[simp] theorem Bay.latchOf_setGroup (m : Nat) (x : Group) (n : Nat) : (b.setGroup m x).latchOf n = b.latchOf n := rfl
@[simp] theorem Bay.latchOf_setSweep (m : Nat) (x : Sweep) (n : Nat) : (b.setSweep m x).latchOf n = b.latchOf n := rfl
@[simp] theorem Bay.latchOf_setLoopCh (m : Nat) (x : LoopCh) (n : Nat) : (b.setLoopCh m x).latchOf n = b.latchOf n := rfl
@[simp] theorem Bay.latchOf_setLoopAx (m : Nat) (x : LoopAx) (n : Nat) : (b.setLoopAx m x).latchOf n = b.latchOf n := rfl
@[simp] theorem Bay.latchOf_setGrade (m : Nat) (x : Option GradeVec) (n : Nat) : (b.setGrade m x).latchOf n = b.latchOf n := rfl
@[simp] theorem Bay.latchOf_setTrace (m : Nat) (x : Trace) (n : Nat) : (b.setTrace m x).latchOf n = b.latchOf n := rfl
@[simp] theorem Bay.latchOf_setWale (m : Nat) (x : Wale) (n : Nat) : (b.setWale m x).latchOf n = b.latchOf n := rfl
@[simp] theorem Bay.latchOf_setAxis (m : Nat) (x : Axis) (n : Nat) : (b.setAxis m x).latchOf n = b.latchOf n := rfl
@[simp] theorem Bay.latchOf_setEnc (m : Nat) (x : Enc) (n : Nat) : (b.setEnc m x).latchOf n = b.latchOf n := rfl
@[simp] theorem Bay.latchOf_setThermCh (m : Nat) (x : ThermCh) (n : Nat) : (b.setThermCh m x).latchOf n = b.latchOf n := rfl
@[simp] theorem Bay.latchOf_setCan (m : Nat) (x : Can) (n : Nat) : (b.setCan m x).latchOf n = b.latchOf n := rfl
@[simp] theorem Bay.latchOf_send (x : OutMsg) (n : Nat) : (b.send x).latchOf n = b.latchOf n := rfl
@[simp] theorem Bay.latchOf_setModeSt (x : ModeSt) (n : Nat) : (b.setModeSt x).latchOf n = b.latchOf n := rfl
@[simp] theorem Bay.latchOf_setPlant (x : Plant) (n : Nat) : (b.setPlant x).latchOf n = b.latchOf n := rfl
@[simp] theorem Bay.latchOf_setSafe (x : Safe) (n : Nat) : (b.setSafe x).latchOf n = b.latchOf n := rfl
@[simp] theorem Bay.latchOf_setTherm (x : Therm) (n : Nat) : (b.setTherm x).latchOf n = b.latchOf n := rfl
@[simp] theorem Bay.latchOf_setWeave (x : Weave) (n : Nat) : (b.setWeave x).latchOf n = b.latchOf n := rfl
@[simp] theorem Bay.latchOf_setTrust (x : Trust) (n : Nat) : (b.setTrust x).latchOf n = b.latchOf n := rfl
@[simp] theorem Bay.latchOf_shadowWrite (k : Key) (v : Int) (n : Nat) : (b.shadowWrite k v).latchOf n = b.latchOf n := rfl
@[simp] theorem Bay.mk_latchOf (f_regs : Store) (f_now : Nat) (f_shadows : List Shadow) (f_hiLatch : Store) (f_setT : Store) (f_edge : EdgeView) (f_log : List EvEntry) (f_episode : Bool) (f_evBits : List EvBit) (f_stage : Tab Stage) (f_driver : Tab Driver) (f_fram : Tab Fram) (f_border : Tab Border) (f_chan : Tab Chan) (f_means : Tab Means) (f_ring : Tab Ring) (f_cellT : Tab (Int × Int)) (f_slotv : Tab SlotView) (f_measCh : Tab MeasCh) (f_measSt : MeasSt) (f_eng : Tab Eng) (f_images : List Image) (f_verMax : List (Int × Int)) (f_revoked : List Int) (f_groups : Tab Group) (f_sweep : Tab Sweep) (f_loopCh : Tab LoopCh) (f_loopAx : Tab LoopAx) (f_trace : Tab Trace) (f_grade : Tab (Option GradeVec)) (f_modeSt : ModeSt) (f_plant : Plant) (f_wale : Tab Wale) (f_axis : Tab Axis) (f_axRec : List AxRec) (f_enc : Tab Enc) (f_thermCh : Tab ThermCh) (f_therm : Therm) (f_safe : Safe) (f_red : Red) (f_memHid : MemHid) (f_trust : Trust) (f_weave : Weave) (f_can : Tab Can) (f_latch : Tab Latch) (f_shortReq : Bool) (f_out : List OutMsg) (f_fresh : Nat) (n : Nat) : (Bay.mk f_regs f_now f_shadows f_hiLatch f_setT f_edge f_log f_episode f_evBits f_stage f_driver f_fram f_border f_chan f_means f_ring f_cellT f_slotv f_measCh f_measSt f_eng f_images f_verMax f_revoked f_groups f_sweep f_loopCh f_loopAx f_trace f_grade f_modeSt f_plant f_wale f_axis f_axRec f_enc f_thermCh f_therm f_safe f_red f_memHid f_trust f_weave f_can f_latch f_shortReq f_out f_fresh).latchOf n = Tab.get {} f_latch n := rfl
@[simp] theorem Bay.fold_latchOf (n : Nat) : Tab.get {} b.latch n = b.latchOf n := rfl
end

end Sys2Proof.Machine
end

