-- ==== Sys2Proof/Laws/Turns.lean ====
section
/-! SUPPORT. The registers that a turn of an engine, a memory command and a session's request leave, and the result of a turn where the engine runs on a word of its opcode. -/

namespace Sys2Proof.Machine

/-! ## Reading memory leaves every register outside MEM and EVT.STAT.LOST -/

theorem Bay.seeErr_rd (b : Bay) (x k w master acc : Nat) (e : Option WordErr) {q : Key} (hq : q.grp ∉ [.mem] ∧ q.loc ∉ [F.EVT_STAT_LOST.loc]) :
    (b.seeErr x k w master acc e).rd q = b.rd q := by
  simp at hq
  cases e with
  | none => rfl
  | some e => cases e <;> simp [Bay.seeErr, hq]

theorem State.readWord_rd (s : State) (x k w master acc : Nat) {q : Key} (hq : q.grp ∉ [.mem] ∧ q.loc ∉ [F.EVT_STAT_LOST.loc]) :
    (s.readWord x k w master acc).1.bay.rd q = s.bay.rd q := Bay.seeErr_rd _ _ _ _ _ _ _ hq

theorem State.lockstepRead_rd (s : State) (k w master acc : Nat) {q : Key} (hq : q.grp ∉ [.mem] ∧ q.loc ∉ [F.EVT_STAT_LOST.loc]) :
    (s.lockstepRead k w master acc).1.bay.rd q = s.bay.rd q := by
  unfold State.lockstepRead
  generalize s.bay.carts = l
  suffices h : ∀ (l : List Nat) (st : State × Bool), (l.foldl (fun st x =>
      let r := st.1.readWord x k w master acc
      (r.1, st.2 && r.2)) st).1.bay.rd q = st.1.bay.rd q from h l (s, true)
  intro l
  induction l with
  | nil => intro _; rfl
  | cons x l ih => intro st; rw [List.foldl_cons, ih]; exact State.readWord_rd _ _ _ _ _ _ hq

theorem State.engRead_rd (s : State) (c i acc : Nat) {q : Key} (hq : q.grp ∉ [.mem] ∧ q.loc ∉ [F.EVT_STAT_LOST.loc]) :
    (s.engRead c i acc).1.bay.rd q = s.bay.rd q := by
  unfold State.engRead; split
  · rfl
  · exact State.lockstepRead_rd _ _ _ _ _ hq

theorem State.fetchRead_rd (s : State) (c : Nat) {q : Key} (hq : q.grp ∉ [.mem] ∧ q.loc ∉ [F.EVT_STAT_LOST.loc]) :
    (s.fetchRead c).1.bay.rd q = s.bay.rd q := by
  unfold State.fetchRead; split
  · exact State.engRead_rd _ _ _ _ hq
  · rfl

theorem State.readWords_rd (s : State) (x k master acc w n : Nat) {q : Key} (hq : q.grp ∉ [.mem] ∧ q.loc ∉ [F.EVT_STAT_LOST.loc]) :
    (s.readWords x k master acc w n).1.bay.rd q = s.bay.rd q := by
  induction n generalizing s w with
  | zero => rfl
  | succ n ih =>
    simp only [State.readWords]; split
    · rw [ih]; exact State.readWord_rd _ _ _ _ _ _ hq
    · exact State.readWord_rd _ _ _ _ _ _ hq

theorem State.poisonCount_rd (s : State) (x : Nat) {q : Key} (hq : ¬ q.grp = .mem) : (s.poisonCount x).bay.rd q = s.bay.rd q := by
  simp [State.poisonCount, hq]

theorem State.writeWords_rd (s : State) (x k a : Nat) (l : List Byte) {q : Key} (hq : ¬ q.grp = .mem) :
    (s.writeWords x k a l).bay.rd q = s.bay.rd q := by
  unfold State.writeWords; dsimp only; split
  · rfl
  · rw [State.poisonCount_rd _ _ hq]

theorem State.copyFromPartner_rd (s : State) (x w : Nat) {q : Key} (hq : q.grp ∉ [.mem] ∧ q.loc ∉ [F.EVT_STAT_LOST.loc]) :
    (s.copyFromPartner x w).bay.rd q = s.bay.rd q :=
  (State.writeWords_rd _ _ _ _ _ (by simpa using hq.1)).trans (State.readWord_rd _ _ _ _ _ _ hq)

/-- A fold of steps that each leave a register leaves it. -/
theorem State.foldl_rd {α : Type} (f : State → α → State) {q : Key} (h : ∀ s a, (f s a).bay.rd q = s.bay.rd q) (l : List α) (s : State) :
    (l.foldl f s).bay.rd q = s.bay.rd q := by
  induction l generalizing s with
  | nil => rfl
  | cons a l ih => rw [List.foldl_cons, ih, h]

theorem State.foldl_fst_rd {α β : Type} (f : State × β → α → State × β) {q : Key} (h : ∀ s a, (f s a).1.bay.rd q = s.1.bay.rd q) (l : List α) (s : State × β) :
    (l.foldl f s).1.bay.rd q = s.1.bay.rd q := by
  induction l generalizing s with
  | nil => rfl
  | cons a l ih => rw [List.foldl_cons, ih, h]

theorem State.mergeWrite_rd (s : State) (x k a master acc : Nat) (l : List Byte) {q : Key} (hq : q.grp ∉ [.mem] ∧ q.loc ∉ [F.EVT_STAT_LOST.loc]) :
    (s.mergeWrite x k a master acc l).1.bay.rd q = s.bay.rd q := by
  refine State.foldl_fst_rd _ (fun st i => ?_) _ (s, true)
  simp at hq
  have hr : ∀ w, (st.1.readWord x k w master acc).1.bay.rd q = st.1.bay.rd q := fun w => State.readWord_rd _ _ _ _ _ _ (by simp [hq])
  dsimp only
  repeat' split
  · exact State.writeWords_rd _ _ _ _ _ hq.1
  · exact hr _
  · exact hr _

theorem State.scrubWord_rd (s : State) (x k w : Nat) (rep : Bool) (e : WordErr) {q : Key} (hq : q.grp ∉ [.mem] ∧ q.loc ∉ [F.EVT_STAT_LOST.loc]) :
    (s.scrubWord x k w rep e).bay.rd q = s.bay.rd q := by
  simp at hq
  have h0 : ((s.bay.seeErr x k w 0 7 (some e)).scrubSeen x (w * wordBytes k)).rd q = s.bay.rd q := by
    rw [Bay.scrubSeen_rd _ _ _ (by simp [hq]), Bay.seeErr_rd _ _ _ _ _ _ _ (by simp [hq])]
  unfold State.scrubWord State.clearMark
  dsimp only
  repeat' split
  · simp [hq, h0]
  · simp [hq, h0]
  · simp [hq, h0]
  · have h1 := fun s : State => State.copyFromPartner_rd s x w (by simp; exact hq)
    simp [hq, h1, h0]
  · rw [State.poisonCount_rd _ _ hq.1]; simp [hq, h0]

theorem State.scrubTo_rd (s : State) (x a : Nat) {q : Key} (hq : q.grp ∉ [.mem] ∧ q.loc ∉ [F.EVT_STAT_LOST.loc]) : (s.scrubTo x a).bay.rd q = s.bay.rd q := by
  unfold State.scrubTo; split
  · rfl
  · exact State.foldl_rd _ (fun s e => State.scrubWord_rd _ _ _ _ _ _ hq) _ _

theorem State.scrubEnd_rd (s : State) (x : Nat) (part : Bool) {q : Key} (hq : q.grp ∉ [.mem] ∧ q.loc ∉ [F.EVT_STAT_LOST.loc]) : (s.scrubEnd x part).bay.rd q = s.bay.rd q := by
  simp at hq; simp [State.scrubEnd, hq]

theorem State.scrubGo_rd (s : State) (x : Nat) {q : Key} (hq : q.grp ∉ [.mem] ∧ q.loc ∉ [F.EVT_STAT_LOST.loc]) : (s.scrubGo x).bay.rd q = s.bay.rd q := by
  simp at hq; unfold State.scrubGo; dsimp only; split <;> simp [hq]

theorem State.scrubStop_rd (s : State) (x : Nat) {q : Key} (hq : q.grp ∉ [.mem] ∧ q.loc ∉ [F.EVT_STAT_LOST.loc]) : (s.scrubStop x).bay.rd q = s.bay.rd q := by
  unfold State.scrubStop; split
  · rfl
  · rw [State.scrubEnd_rd _ _ _ hq, State.scrubTo_rd _ _ _ hq]

theorem State.inject_rd (s : State) (x : Nat) {q : Key} (hq : q.grp ∉ [.mem] ∧ q.loc ∉ [F.EVT_STAT_LOST.loc]) : (s.inject x).bay.rd q = s.bay.rd q := by
  simp at hq
  unfold State.inject; dsimp only; split
  · simp [hq]
  · split
    · simp [hq]
    · rw [State.poisonCount_rd _ _ hq.1]; exact State.writeWords_rd _ _ _ _ _ hq.1

theorem State.initDone_rd (s : State) (x r : Nat) {q : Key} (hq : q.grp ∉ [.mem] ∧ q.loc ∉ [F.EVT_STAT_LOST.loc]) : (s.initDone x r).bay.rd q = s.bay.rd q := by
  simp at hq
  have hf : ∀ (l : List (Nat × WordErr)) (s : State), (l.foldl (fun s e => s.scrubWord x 2 e.1 true e.2) s).bay.rd q = s.bay.rd q :=
    fun l s => State.foldl_rd _ (fun s e => State.scrubWord_rd _ _ _ _ _ _ (by simp [hq])) l s
  unfold State.initDone; dsimp only; split
  · exact (Bay.rd_setFlag_grp _ _ (by simpa using hq.1)).trans (hf _ _)
  · exact (Bay.rd_setFlag_grp _ _ (by simpa using hq.1)).trans (hf _ _)

/-- A memory command that goes through leaves the registers its step leaves. -/
theorem State.onMemory_keeps (s : State) (x : Nat) (k : Key) (f : State → State) (hf : ∀ q : Key, q.grp ∉ [.mem] ∧ q.loc ∉ [F.EVT_STAT_LOST.loc] → (f s).bay.rd q = s.bay.rd q) :
    ∃ t, s.onMemory x k f = .next t ∧ keepsFields s.bay t.bay ([.mem], [F.EVT_STAT_LOST]) := by
  unfold State.onMemory
  split
  · exact ⟨_, rfl, fun _ _ _ => rfl⟩
  · split
    · exact ⟨_, rfl, fun q hg hq => by simp at hq; simp [hq]⟩
    · split
      · exact ⟨_, rfl, fun q hg hq => hf q ⟨hg, hq⟩⟩
      · exact ⟨_, rfl, fun q hg hq => by simp at hq; simp [hq]⟩

/-! ## Sessions -/

/-- A message of a session leaves the registers its request leaves. -/
theorem State.onSession_keeps (s : State) (i : Nat) (f : Session → State → State) (l : List Grp × List Key)
    (hf : ∀ q : Key, q.grp ∉ l.1 → q.loc ∉ l.2.map Key.loc → ∀ x t, (f x t).bay.rd q = t.bay.rd q) :
    ∃ t, s.onSession i f = .next t ∧ keepsFields s.bay t.bay l := by
  unfold State.onSession
  split
  · exact ⟨_, rfl, fun _ _ _ => rfl⟩
  · split
    · exact ⟨_, rfl, fun q hg hq => hf q hg hq _ _⟩
    · exact ⟨_, rfl, fun _ _ _ => rfl⟩

theorem State.forStake_rd (s : State) (kind : String) (i tag stake : Nat) (frames : List (List Int)) (f : State → State) {q : Key}
    (hf : ∀ s, (f s).bay.rd q = s.bay.rd q) : (s.forStake kind i tag stake frames f).bay.rd q = s.bay.rd q := by
  unfold State.forStake; dsimp only; repeat' split
  · exact hf s
  · rfl
  · exact (Bay.foldl_rd (fun b n => Bay.originate_rd _ _ _ _ _ _) _ _).trans rfl

theorem State.underrun_rd (s : State) (i tag n : Nat) (x : Session) {q : Key} (hq : q.loc ∉ [F.EVT_STAT_LOST.loc, (F.SQ_STAT_UNDERRUN 0).loc]) : (s.underrun i tag n x).bay.rd q = s.bay.rd q := by
  simp at hq; unfold State.underrun; dsimp only [Bay.send]; split <;> simp [hq]

theorem State.streamFrom_rd (s : State) (i tag n m : Nat) (x : Session) {q : Key} (hq : q.loc ∉ [F.EVT_STAT_LOST.loc, (F.SQ_STAT_UNDERRUN 0).loc]) : (s.streamFrom i tag n m x).bay.rd q = s.bay.rd q := by
  unfold State.streamFrom; dsimp only; split
  · exact State.underrun_rd _ _ _ _ _ hq
  · rfl

theorem State.doStreamRead_rd (s : State) (i tag n m : Nat) (x : Session) {q : Key} (hq : q.loc ∉ [F.EVT_STAT_LOST.loc, (F.SQ_STAT_UNDERRUN 0).loc]) : (s.doStreamRead i tag n m x).bay.rd q = s.bay.rd q := by
  unfold State.doStreamRead; dsimp only; repeat' split
  · rfl
  · exact State.streamFrom_rd _ _ _ _ _ _ hq
  · rfl
  · rw [State.streamFrom_rd _ _ _ _ _ _ hq]; exact Bay.setStream_rd _ _ _

theorem State.onStream_rd (s : State) (i tag n : Nat) (f : Stream → State) {q : Key} (hf : ∀ x, (f x).bay.rd q = s.bay.rd q) :
    (s.onStream i tag n f).bay.rd q = s.bay.rd q := by
  unfold State.onStream; dsimp only; repeat' split
  · rfl
  · rfl
  · exact hf _

/-! ## A turn -/

/-- The registers that a turn leaves whatever its instruction: all but those of the freeze, the PC, the count of turns, and those that the read of its word counts in. -/
def turnLeaves (q : Key) : Prop :=
  q.grp ∉ [.mem] ∧ q.loc ∉ [(F.ENG_FRZ_CAUSE 0).loc, (F.ENG_FRZ_DETAIL 0).loc, (F.ENG_STAT_CLR_ARMED 0).loc,
    (F.ENG_STAT_STATE 0).loc, F.SKN_STAT_ACTIVE.loc, (F.ENG_PC 0).loc, (F.ENG_TURNS 0).loc, F.EVT_STAT_LOST.loc]

@[simp] theorem Bay.lastTurn_rd (b : Bay) (c : Nat) {q : Key} : (b.lastTurn c).rd q = b.rd q := by simp [Bay.lastTurn]
@[simp] theorem Bay.partTurn_rd (b : Bay) (c : Nat) {q : Key} : (b.partTurn c).rd q = b.rd q := by simp [Bay.partTurn]

/-- A turn changes what its ending changes, and what its instruction changes. -/
theorem Bay.turn_rd (b : Bay) (bad : Bool) (c : Nat) (isOp : Nat → Bool) (f : Bay → Nat → TurnEnd) {q : Key} (hq : turnLeaves q)
    (hf : ∀ w b' b'' pc, b'.rd q = b.rd q → f b' w = .done b'' pc → b''.rd q = b.rd q) : (b.turn bad c isOp f).rd q = b.rd q := by
  simp [turnLeaves] at hq
  unfold Bay.turn
  repeat' split
  all_goals first | rfl | simp [hq]
  rename_i b' pc e
  exact hf _ _ _ _ (Bay.lastTurn_rd _ _) e

/-- A turn command changes what a turn changes, and what its instruction changes. -/
theorem State.onTurn_keeps (s : State) (c op : Nat) (f : Bay → Nat → TurnEnd) (l : List Grp × List Key)
    (hl : ∀ q : Key, q.grp ∉ l.1 → q.loc ∉ l.2.map Key.loc → turnLeaves q)
    (hf : ∀ q : Key, q.grp ∉ l.1 → q.loc ∉ l.2.map Key.loc → ∀ b w b' pc, f b w = .done b' pc → b'.rd q = b.rd q) :
    ∃ t, s.onTurn c op f = .next t ∧ keepsFields s.bay t.bay l :=
  ⟨_, rfl, fun q hg hq => (Bay.turn_rd _ _ _ _ _ (hl q hg hq) (fun _ _ _ _ h e => (hf q hg hq _ _ _ _ e).trans h)).trans
    (State.fetchRead_rd _ _ ⟨(hl q hg hq).1, by have := (hl q hg hq).2; simp at this ⊢; exact this.2.2.2.2.2.2.2⟩)⟩

/-- The same for a turn that reads a second word. -/
theorem State.onTurn2_keeps (s : State) (c op : Nat) (i : Option Nat) (acc : Nat) (f : Bay → Nat → TurnEnd) (l : List Grp × List Key)
    (hl : ∀ q : Key, q.grp ∉ l.1 → q.loc ∉ l.2.map Key.loc → turnLeaves q)
    (hf : ∀ q : Key, q.grp ∉ l.1 → q.loc ∉ l.2.map Key.loc → ∀ b w b' pc, f b w = .done b' pc → b'.rd q = b.rd q) :
    ∃ t, s.onTurn2 c op i acc f = .next t ∧ keepsFields s.bay t.bay l := by
  refine ⟨_, rfl, fun q hg hq => ?_⟩
  have ht := hl q hg hq
  have hm : q.grp ∉ [.mem] ∧ q.loc ∉ [F.EVT_STAT_LOST.loc] := ⟨ht.1, by have := ht.2; simp at this ⊢; exact this.2.2.2.2.2.2.2⟩
  have h1 : (s.fetchRead c).1.bay.rd q = s.bay.rd q := State.fetchRead_rd _ _ hm
  refine (Bay.turn_rd _ _ _ _ _ ht ?_).trans ?_
  · intro w b1 b' pc h e
    generalize Prod.snd _ = z at e
    cases z
    · exact (hf _ hg hq _ _ _ _ e).trans h
    · cases e
  · cases i with
    | none => exact h1
    | some i =>
      dsimp only; split
      · exact h1
      · exact (State.engRead_rd _ _ _ _ hm).trans h1

/-- What an instruction makes of the turn in which it acts. -/
def Bay.acted (b : Bay) (c : Nat) : TurnEnd → Bay
  | .freeze cause d => (b.lastTurn c).freeze c cause d
  | .stay => b.lastTurn c
  | .done b' pc => (b'.wr (F.ENG_PC c) pc).bump32 (F.ENG_TURNS c)
  | .other => b

/-- An engine that has the next turn, on a word of the opcode read without error: the turn is what its instruction makes of it. -/
theorem Bay.turn_runs {b : Bay} {c w op : Nat} (f : Bay → Nat → TurnEnd) (hr : b.turnDue c = true) (hw : b.fetch c = some w) (ho : opOf w = op)
    (hp : (b.engOf c).part + 1 = turnsOf op) : b.turn false c (fun o => o == op) f = b.acted c (f (b.lastTurn c) w) := by
  simp [Bay.turn, hr, hw, ho, hp, Bay.acted] <;> rfl

/-- A turn that is not yet the instruction's last. -/
theorem Bay.turn_takes {b : Bay} {c w op : Nat} (f : Bay → Nat → TurnEnd) (hr : b.turnDue c = true) (hw : b.fetch c = some w) (ho : opOf w = op)
    (hp : (b.engOf c).part + 1 < turnsOf op) : b.turn false c (fun o => o == op) f = b.partTurn c := by
  simp [Bay.turn, hr, hw, ho, hp]

/-- A turn of an engine on a word of the opcode, in the last of the instruction's turns. -/
theorem completes_onTurn {cmd : Instr} {s : State} {c op w : Nat} {f : Bay → Nat → TurnEnd} {P : Bay → Prop} (he : exec cmd s = s.onTurn c op f)
    (h : runsOn s c op w) (hp : P (s.bay.acted c (f (s.bay.lastTurn c) w))) : completes cmd s P := by
  obtain ⟨h1, h2, h3, h4, h5⟩ := h
  refine ⟨_, he, ?_, ?_, ?_⟩ <;> simp only [h5]
  rw [Bay.turn_runs f h1 h2 h3 h4]; exact hp

/-- The same where a second word of the image is read. -/
theorem completes_onTurn2 {cmd : Instr} {s : State} {c op w i acc : Nat} {f : Bay → Nat → TurnEnd} {P : Bay → Prop}
    {oi : Option Nat} (he : exec cmd s = s.onTurn2 c op oi acc f) (hi : oi = some i) (h : runsOn2 s c op w i acc)
    (hp : P (s.bay.acted c (f (s.bay.lastTurn c) w))) : completes cmd s P := by
  obtain ⟨⟨h1, h2, h3, h4, h5⟩, h6⟩ := h
  subst hi
  refine ⟨_, he, ?_, ?_, ?_⟩ <;> simp [h5, h6]
  rw [Bay.turn_runs f h1 h2 h3 h4]; exact hp

/-- The same for an instruction that might, but does not, read a second word. -/
theorem completes_onTurn2_none {cmd : Instr} {s : State} {c op w acc : Nat} {f : Bay → Nat → TurnEnd} {P : Bay → Prop}
    {oi : Option Nat} (he : exec cmd s = s.onTurn2 c op oi acc f) (hi : oi = none) (h : runsOn s c op w)
    (hp : P (s.bay.acted c (f (s.bay.lastTurn c) w))) : completes cmd s P := by
  obtain ⟨h1, h2, h3, h4, h5⟩ := h
  subst hi
  refine ⟨_, he, ?_, ?_, ?_⟩ <;> simp [h5]
  rw [Bay.turn_runs f h1 h2 h3 h4]; exact hp

/-- What a turn that an instruction only takes leaves. -/
theorem Bay.partTurn_took (b : Bay) (c : Nat) : tookTurn b (b.partTurn c) c := ⟨by simp only [Bay.partTurn, Bay.engOf, Bay.setEng, Tab.get_put, if_true], fun _ _ => Bay.partTurn_rd b c⟩

/-- A turn that an instruction of several only takes. -/
theorem completes_onTurn_part {cmd : Instr} {s : State} {c op w : Nat} {f : Bay → Nat → TurnEnd} (he : exec cmd s = s.onTurn c op f)
    (h : startsOn s c op w) : completes cmd s (fun b => tookTurn s.bay b c) := by
  obtain ⟨h1, h2, h3, h4, h5⟩ := h
  refine ⟨_, he, ?_, ?_, ?_⟩ <;> simp only [h5]
  rw [Bay.turn_takes f h1 h2 h3 h4]; exact Bay.partTurn_took _ _

/-- The same for an instruction that reads no second word yet. -/
theorem completes_onTurn2_part {cmd : Instr} {s : State} {c op w acc : Nat} {f : Bay → Nat → TurnEnd}
    {oi : Option Nat} (he : exec cmd s = s.onTurn2 c op oi acc f) (hi : oi = none) (h : startsOn s c op w) : completes cmd s (fun b => tookTurn s.bay b c) := by
  obtain ⟨h1, h2, h3, h4, h5⟩ := h
  subst hi
  refine ⟨_, he, ?_, ?_, ?_⟩ <;> simp [h5]
  rw [Bay.turn_takes _ h1 h2 h3 h4]; exact Bay.partTurn_took _ _

/-! ## The registers k0 to k15, the call stack and the accumulators stand apart from the others of an engine -/

theorem dOf_lt (w : Nat) : dOf w < 16 := Nat.mod_lt _ (by decide)
theorem sOf_lt (w : Nat) : sOf w < 16 := Nat.mod_lt _ (by decide)

@[simp] theorem dOff_ne (w n : Nat) (h : 124 < n) : (64 + 4 * dOf w = n) = False := eq_false (by have := dOf_lt w; omega)
@[simp] theorem ne_dOff (w n : Nat) (h : 124 < n) : (n = 64 + 4 * dOf w) = False := eq_false (by have := dOf_lt w; omega)
@[simp] theorem sOff_ne (w n : Nat) (h : 124 < n) : (64 + 4 * sOf w = n) = False := eq_false (by have := sOf_lt w; omega)
@[simp] theorem kOff_ne (d n : Nat) (h : n < 64) : (64 + 4 * d = n) = False := eq_false (by omega)
@[simp] theorem ne_kOff (d n : Nat) (h : n < 64) : (n = 64 + 4 * d) = False := eq_false (by omega)
@[simp] theorem retOff_ne (d n : Nat) (h : n < 48) : (48 + 4 * d = n) = False := eq_false (by omega)
@[simp] theorem ne_retOff (d n : Nat) (h : n < 48) : (n = 48 + 4 * d) = False := eq_false (by omega)

end Sys2Proof.Machine
end

