-- ==== Sys2Proof/Tests/Slice0.lean ====
section
/-! SUPPORT. The model's own tests: the checks of well-formed commands refuse an ill-formed one each, results of the manual's worked examples, and for each statement with hypotheses a state and operands that meet them. -/

open Sys2Proof Sys2Proof.Machine

namespace Sys2Proof.Tests

-- Each of these theorems evaluates in the kernel: one after the other, so that they share one stack.
set_option Elab.async false

/-! ## Small states -/

/-- A state with this bay and nothing else. -/
abbrev on (b : Bay) : State := { bay := b }
/-- An ENERGIZED bay at a frame edge, with these registers. -/
def at5 (r : Store) : Bay := { regs := r ++ [(F.BAY_STAT_MODE, 5)], now := 1000000000000 }
/-- A program image with ID 1. -/
abbrev prog (w : List Nat) (k : List Nat := []) (refs : List Int := []) : Image := ⟨1, 1, 1, 0, 0, 0, .program [0] w k refs⟩
/-- A Skein word from its opcode, D, S and IMM (R218). -/
abbrev wd (op d s imm : Nat) : Nat := op * 2 ^ 26 + d * 2 ^ 22 + s * 2 ^ 18 + imm
/-- Engine 0 RUNNING at the start of a program, with these registers. -/
def runsP (w : List Nat) (r : Store) : State :=
  on { (at5 ((F.ENG_STAT_STATE 0, 1) :: r)) with images := [prog w], eng := [(0, { image := 1 })] }
/-- What a register reads after a command, -1 where it does not answer a next state. -/
def reads (r : Result) (k : Key) : Int :=
  match r with
  | .next t => t.bay.rd k
  | _ => -1
/-- A bay edge that brings no sample. -/
def quiet : FrameIn := ⟨[], [], [], 0, 0, 0, 0, 0, none, []⟩
/-- One channel's sample. -/
def smp (c : Fin 64) (ph : List Int) : ChanSample := ⟨c, 0, 0, 0, ph⟩

/-! ## Well-formed commands: one ill-formed term for each check -/

theorem test_wf_frame_channel_twice :
    (Instr.frameEdge { quiet with chans := [smp 3 [0, 0, 0, 0], smp 3 [0, 0, 0, 0]] }).wellFormed = false := by decide +kernel
theorem test_wf_frame_three_phases : (Instr.frameEdge { quiet with chans := [smp 3 [0, 0, 0]] }).wellFormed = false := by decide +kernel
theorem test_wf_frame_section_twice :
    (Instr.frameEdge { quiet with secs := [⟨1, 0, 0, 0, 0⟩, ⟨1, 0, 0, 0, 0⟩] }).wellFormed = false := by decide +kernel
theorem test_wf_frame_axis_twice :
    (Instr.frameEdge { quiet with axes := [⟨2, 0, 0, 0, 0, 0, 0, 0, 0⟩, ⟨2, 0, 0, 0, 0, 0, 0, 0, 0⟩] }).wellFormed = false := by decide +kernel
theorem test_wf_frame_ok : (Instr.frameEdge { quiet with chans := [smp 3 [0, 0, 0, 0]] }).wellFormed = true := by decide +kernel
theorem test_wf_deadline_three_ends : (Instr.computeDeadline ⟨[], [0, 0, 0], 0, false, none⟩).wellFormed = false := by decide +kernel
theorem test_wf_ms_axis_twice : (Instr.msTick [(4, 1), (4, 2)]).wellFormed = false := by decide +kernel
theorem test_wf_spectral_channel_twice : (Instr.spectralBoundary [⟨3, 0, 0⟩, ⟨3, 1, 1⟩]).wellFormed = false := by decide +kernel
theorem test_wf_precision_channel_twice : (Instr.precisionWindowClose [⟨3, 0, 0⟩, ⟨3, 1, 1⟩]).wellFormed = false := by decide +kernel
theorem test_wf_selfcal_one_reading : (Instr.selfCalSlot 0 0 [(0, 0)]).wellFormed = false := by decide +kernel
theorem test_wf_arrival_stake : (Instr.groupArrivalMessage 0 6 64 3 0 2).wellFormed = false := by decide +kernel
theorem test_wf_arrival_channel : (Instr.groupArrivalMessage 0 6 3 64 0 2).wellFormed = false := by decide +kernel
theorem test_wf_handshake_digest : (Instr.linkHandshake 0 (some ⟨0, 0, true, [1]⟩)).wellFormed = false := by decide +kernel
theorem test_wf_tables_short : (Instr.routingTables [0] (List.replicate 64 0) []).wellFormed = false := by decide +kernel
theorem test_wf_tables_short_b : (Instr.routingTables (List.replicate 64 0) [0] []).wellFormed = false := by decide +kernel
theorem test_wf_repair_short :
    (Instr.routingTables (List.replicate 64 0) (List.replicate 64 0) [⟨0, 0, none, [1]⟩]).wellFormed = false := by decide +kernel
theorem test_wf_session_key : (Instr.sessionOpen 0 [4] none false).wellFormed = false := by decide +kernel
theorem test_wf_can_base_id :
    (Instr.canFrameReceive 0 ⟨false, 2048, false, false, false, false, 0, [], 0, true, true⟩).wellFormed = false := by decide +kernel
theorem test_wf_can_length :
    (Instr.canFrameReceive 0 ⟨false, 5, false, false, false, false, 2, [1], 0, true, true⟩).wellFormed = false := by decide +kernel
theorem test_wf_can_remote_data :
    (Instr.canFrameReceive 0 ⟨false, 5, true, false, false, false, 1, [1], 0, true, true⟩).wellFormed = false := by decide +kernel
theorem test_wf_can_remote_fd :
    (Instr.canFrameReceive 0 ⟨false, 5, true, true, false, false, 0, [], 0, true, true⟩).wellFormed = false := by decide +kernel
theorem test_wf_can_classic_brs :
    (Instr.canFrameReceive 0 ⟨false, 5, false, false, true, false, 0, [], 0, true, true⟩).wellFormed = false := by decide +kernel
theorem test_wf_certificate : (Instr.cartridgeInserted 7 (.ehm [1] 5)).wellFormed = false := by decide +kernel

/-! ## The manual's worked examples -/

/-- R426: a WRITE of 100 words travels as 96 words and 4 words, 384 bytes further on. -/
theorem test_write_travels_in_two_frames :
    (writeFrames 0x13000000 7 (List.replicate 100 1) 0).map (fun l => (l.take 3, l.length)) =
      [([0x13000000, 7, 96], 99), ([0x13000180, 7, 4], 7)] := by decide +kernel

/-- Chapter 08, the three encoded instructions of example program 3: OP, D, S and IMM. -/
theorem test_words_of_example_3 :
    ([0x105C000A, 0x8CC00014, 0x4003FFFE].map (fun w => (opOf w, dOf w, sOf w)) = [(0x04, 1, 7), (0x23, 3, 0), (0x10, 0, 0)]) ∧
    ([0x105C000A, 0x8CC00014, 0x4003FFFE].map sextOf = [10, 20, -2]) := by decide +kernel
/-- Chapter 08: LDI k1, #10e7 loads 100,000,000. -/
theorem test_ldi_example : reads (execSkLdi 0 (runsP [0x105C000A] [])) (kKey 0 1) = 100000000 := by decide +kernel
/-- Chapter 08: BR.EQ from PC 13 with IMM -2 goes to PC 11 with Z, and on to PC 14 without. -/
theorem test_branch_example_taken :
    reads (execSkBr 0 (runsP (List.replicate 13 0 ++ [0x4003FFFE]) [(F.ENG_PC 0, 13), (F.ENG_STAT_Z 0, 1)])) (F.ENG_PC 0) = 11 ∧
    reads (execSkBr 0 (runsP (List.replicate 13 0 ++ [0x4003FFFE, 0]) [(F.ENG_PC 0, 13), (F.ENG_STAT_Z 0, 0)])) (F.ENG_PC 0) = 14 := by
  decide +kernel
/-- Chapter 08, under MUL: 150,000,000 µA × 3,650,000 µV / 10^9 is 547,500 mW. -/
theorem test_mul_example :
    reads (execSkMul 0 (runsP [wd 0x09 1 2 9] [(kKey 0 1, 150000000), (kKey 0 2, 3650000)])) (kKey 0 1) = 547500 := by decide +kernel
/-- Chapter 04: the ratio error of 30.000 ppm steps the gain from +112.00 to +115.75 ppm. -/
theorem test_gain_step_example :
    steppedGain 11200 (gainStep 1500030000 1499985000).1 = 11575 ∧ (gainStep 1500030000 1499985000).2 = false := by decide +kernel
/-- Chapter 03: the untrimmed on-time 380.208 ns is 1521 steps of 250 ps, and phase 0 with its trim of +0.26 % has 1525. -/
theorem test_on_time_example :
    onTimeLaw 3500000 37500000 400 24000 0 = 1521 ∧ onTimeLaw 3500000 37500000 400 24000 (mkRat 26 10000) = 1525 := by decide +kernel
/-- Chapter 06: 150 Hz on 50 Hz mains is asked at 152.25 Hz, 985 samples for M = 30, and S = 4 settles 132 samples. -/
theorem test_sweep_point_example :
    (at5 []).askedFreq 4 { freq := 150000 } = (152250, true) ∧ windowLen 30 152250 = 985 ∧ ceilDiv (4 * 985) 30 = 132 := by
  decide +kernel
/-- Chapter 07: the last arrival of 2 at bay time 7,000,085,000 releases the group at 7,000,250,000. -/
theorem test_group_release_example :
    ((({ (at5 [(F.GRP_CNT 3, 2)]) with groups := [(3, { arrived := [(0, 1)] })] } : Bay).arrive 3 18 40 7000085000).groupOf 3).releaseAt
      = some 7000250000 := by decide +kernel
/-- Log entry 37's CRC-32 over the digits 1 to 9, the value published for it. -/
theorem test_crc32_check : crc32 [0x31, 0x32, 0x33, 0x34, 0x35, 0x36, 0x37, 0x38, 0x39] = 0xCBF43926 := by decide +kernel
/-- R11: a reserved address of a block has no register. -/
theorem test_no_register : regAt 0xFF00 = none := by decide +kernel
/-- No row of the table gives bits, so no word spells a command. -/
theorem test_no_words : decodeTableWord 32 0x105C000A = none := rfl

/-! ## Inputs that meet the hypotheses of each statement -/

theorem test_StepTakesTheFront_inputs : ∃ (s : State) (c : Instr) (q : List Instr), s.pending = c :: q :=
  ⟨{ bay := at5 [], pending := [.tsdRead, .probe] }, .tsdRead, [.probe], rfl⟩
theorem test_StepKeepsMemoriesCanonical_inputs : ∃ s t : State, memoriesCanonical s ∧ s.mem ≠ {} ∧ step s = .next t :=
  ⟨{ bay := at5 [], mem := { ca := { dram := { cells := [(8, 5)], errs := [(16, .double)] } } }, pending := [.tsdRead] }, _,
    rfl, by decide, rfl⟩
theorem test_EveryCommandGoesOn_inputs : ∃ (s t : State) (c : Instr), queueWellFormed s ∧ s.pending = [c] ∧ step s = .next t :=
  ⟨{ bay := at5 [], pending := [.tsdRead] }, _, .tsdRead, rfl, rfl, rfl⟩
theorem test_MemoriesStandUnlessNamed_inputs : ∃ (s t : State) (c : Instr), touchesMemory c = false ∧ exec c s = .next t :=
  ⟨on (at5 []), _, .tsdRead, rfl, rfl⟩
theorem test_RegistersStandUnlessNamed_inputs : ∃ (c : Instr) (l : List Grp × List Key), touches c = some l := ⟨.tsdRead, _, rfl⟩

theorem test_PlantBusEntry_inputs :
    ((fun (v : Int) => 600000 ≤ v ∧ v < 650000)
        610000) ∧
    ((fun (s : State) (v : Int) => v < 600000 ∧ s.bay.entState = Ent.closed ∧ s.bay.flag F.PWR_RT_CTL_ENABLE = false)
        (on (at5 [(F.PWR_ENTRY_STAT_STATE, Ent.closed), (F.PWR_RT_CTL_ENABLE, 0)])) 0) ∧
    ((fun (s : State) (v : Int) => 920000 < v ∧ s.bay.entState = Ent.precharging)
        (on (at5 [(F.PWR_ENTRY_STAT_STATE, Ent.precharging)])) 920001) ∧
    ((fun (s : State) (i : Int) => 150000 < i.natAbs ∧ s.bay.entState = Ent.precharging)
        (on (at5 [(F.PWR_ENTRY_STAT_STATE, Ent.precharging)])) 150001) ∧
    ((fun (s : State) => s.bay.gate F.PWR_ENTRY_CTL_CONNECT = none ∧ s.bay.mode = Mode.standby ∧ s.bay.connectOk = true ∧ (s.bay.plant.recentStarts
      s.bay.now).length < 3)
        (on ({ (at5 [(F.BAY_STAT_MODE, Mode.standby), (F.SAFE_LINES_ON, 127), (F.PWR_ENTRY_STAT_STATE, Ent.open_)]) with plant := { okSince := some 0 } }))) ∧
    ((fun (s : State) => s.bay.gate F.PWR_ENTRY_CTL_CONNECT = none ∧ s.bay.mode = Mode.standby ∧ s.bay.connectOk = true ∧ 3 ≤
      (s.bay.plant.recentStarts s.bay.now).length)
        (on ({ (at5 [(F.BAY_STAT_MODE, Mode.standby), (F.SAFE_LINES_ON, 127), (F.PWR_ENTRY_STAT_STATE, Ent.open_)]) with plant := { okSince := some 0, starts := [1000000000000, 1000000000000, 1000000000000] } }))) ∧
    ((fun (s : State) => s.bay.entState = Ent.lockout ∧ s.bay.plant.lockEnd ≤ s.bay.now)
        (on (at5 [(F.PWR_ENTRY_STAT_STATE, Ent.lockout)]))) ∧
    ((fun (s : State) (v : Int) => s.bay.entState = Ent.precharging ∧ (v - s.bay.rd F.PWR_X1_V).natAbs ≤ 20000)
        (on (at5 [(F.PWR_ENTRY_STAT_STATE, Ent.precharging)])) 0) ∧
    ((fun (s : State) => s.bay.entState = Ent.precharging ∧ s.bay.plant.contOn = true)
        (on ({ (at5 [(F.PWR_ENTRY_STAT_STATE, Ent.precharging)]) with plant := { contOn := true } }))) ∧
    ((fun (s : State) => s.bay.entState = Ent.precharging ∧ s.bay.plant.contOn = false ∧ s.bay.plant.t0 + 2 * secTicks ≤ s.bay.now)
        (on ({ (at5 [(F.PWR_ENTRY_STAT_STATE, Ent.precharging)]) with plant := { contOn := false } }))) ∧
    ((fun (s : State) => s.bay.gate F.PWR_ENTRY_CTL_OPEN = none ∧ s.bay.plant.rtOn = false ∧ s.bay.entState = Ent.closed ∧ s.bay.plant.planned =
      false)
        (on ({ (at5 [(F.PWR_ENTRY_STAT_STATE, Ent.closed)]) with plant := { rtOn := false, planned := false } }))) ∧
    ((fun (s : State) => s.bay.plant.planned = true ∧ s.bay.entState = Ent.closed)
        (on ({ (at5 [(F.PWR_ENTRY_STAT_STATE, Ent.closed)]) with plant := { planned := true } }))) ∧
    ((fun (s : State) (v : Int) => v < 600000 ∧ s.bay.plant.rtOn = false ∧ ((s.bay.entState = Ent.open_ ∨ s.bay.entState = Ent.lockout ∨
      s.bay.entState = Ent.fault)))
        (on ({ (at5 []) with plant := { rtOn := false } })) 0) ∧
    ((fun (s : State) (v : Int) (d : Fin 64) => v < 600000 ∧ s.bay.plant.rtOn = false ∧ s.bay.entState = Ent.closed ∧ s.bay.flag F.PWR_RT_CTL_ENABLE =
      true ∧ s.bay.xServes = true ∧ ((s.bay.mode = Mode.energized ∨ s.bay.mode = Mode.forming ∨ s.bay.mode = Mode.degraded)) ∧ d.val ∈
      s.bay.rtCandidates)
        (on ({ (at5 [(F.PWR_ENTRY_STAT_STATE, Ent.closed), (F.PWR_RT_CTL_ENABLE, 1), (F.SEC_RT_DONORS_MASK 0, 1), (F.CHN_STG_STAT_CSW 0, 1)]) with plant := { rtOn := false } })) 599999 0) ∧
    ((fun (s : State) (v : Int) => 920000 < v ∧ s.bay.plant.rtOn = false ∧ s.bay.entState = Ent.closed ∧ s.bay.flag F.PWR_RT_CTL_ENABLE = false)
        (on ({ (at5 [(F.PWR_ENTRY_STAT_STATE, Ent.closed), (F.PWR_RT_CTL_ENABLE, 0)]) with plant := { rtOn := false } })) 920001) ∧
    ((fun (s : State) (i : Int) => 150000 < i.natAbs ∧ s.bay.plant.rtOn = false ∧ s.bay.entState = Ent.closed ∧ s.bay.flag F.PWR_RT_CTL_ENABLE =
      false)
        (on ({ (at5 [(F.PWR_ENTRY_STAT_STATE, Ent.closed), (F.PWR_RT_CTL_ENABLE, 0)]) with plant := { rtOn := false } })) 150001) ∧
    ((fun (s : State) => s.bay.gate F.PWR_ENTRY_CTL_CONNECT = none ∧ s.bay.mode = Mode.standby ∧ s.bay.connectOk = false)
        (on (at5 [(F.BAY_STAT_MODE, Mode.standby)]))) ∧
    ((fun (s : State) => s.bay.gate F.PWR_ENTRY_CTL_OPEN = none ∧ s.bay.plant.rtOn = false ∧ s.bay.entState = Ent.precharging)
        (on ({ (at5 [(F.PWR_ENTRY_STAT_STATE, Ent.precharging)]) with plant := { rtOn := false } }))) ∧
    ((fun (s : State) => s.bay.gate F.PWR_ENTRY_CTL_OPEN = none ∧ s.bay.plant.rtOn = false ∧ s.bay.entState = Ent.open_)
        (on ({ (at5 [(F.PWR_ENTRY_STAT_STATE, Ent.open_)]) with plant := { rtOn := false } }))) :=
by refine ⟨?_, ?_, ?_, ?_, ?_, ?_, ?_, ?_, ?_, ?_, ?_, ?_, ?_, ?_, ?_, ?_, ?_, ?_, ?_⟩ <;> decide +kernel

theorem test_NodeAndWales_inputs :
    ((fun (v : Int) => 980000 < v)
        980001) ∧
    ((fun (v : Int) => v < 950000)
        0) ∧
    ((fun (v : Int) => 26500 < v)
        26501) ∧
    ((fun (s : State) (h : Fin 6) => s.bay.budgetOf h ≤ 0 ∧ s.bay.capCont h = false)
        (on ({ (at5 []) with wale := [(0, { budget := 0 })] })) 0) ∧
    ((fun (s : State) (h : Fin 6) => 0 < s.bay.budgetOf h ∧ s.bay.capCont h = true)
        (on (at5 [(F.SEC_STAT_CAP_CONT 0, 1)])) 0) ∧
    ((fun (s : State) (n : Fin 4) => s.bay.gate (F.SEC_CTL_DRAIN n) = none ∧ s.bay.waleEngines n = false ∧ s.bay.rd (F.SEC_STAT_STATE n) = 0 ∧
      (s.bay.waleSt n).prechT0 = none)
        (on ({ (at5 [(F.SEC_STAT_STATE 0, 0)]) with wale := [(0, { prechT0 := none })] })) 0) ∧
    ((fun (s : State) (n : Fin 4) => s.bay.rd (F.SEC_STAT_STATE n) = 1 ∧ s.bay.waleSwitchClosed n = false)
        (on (at5 [(F.SEC_STAT_STATE 0, 1)])) 0) ∧
    ((fun (s : State) (n : Fin 4) => s.bay.gate (F.SEC_CTL_RUN n) = none ∧ s.bay.rd (F.SEC_STAT_STATE n) = 2 ∧ (s.bay.waleSt n).prechT0 = none)
        (on ({ (at5 [(F.SEC_STAT_STATE 0, 2)]) with wale := [(0, { prechT0 := none })] })) 0) ∧
    ((fun (s : State) (n : Fin 5) (t : Nat) => n.val < 4 ∧ (s.bay.waleSt n).prechT0 = some t ∧ t + 25 * secTicks / 10 ≤ s.bay.now)
        (on ({ (at5 []) with wale := [(0, { prechT0 := some 0 })] })) 0 0) :=
by refine ⟨?_, ?_, ?_, ?_, ?_, ?_, ?_, ?_, ?_⟩ <;> decide +kernel

theorem test_AxisBusAndRideThrough_inputs :
    ((fun (s : State) (v : Int) => 54000 < v ∧ s.bay.plant.chopUnused = false)
        (on ({ (at5 []) with plant := { chopUnused := false } })) 54001) ∧
    ((fun (s : State) (v : Int) => v < 52000 ∧ s.bay.plant.chopPhase = 0)
        (on ({ (at5 []) with plant := { chopPhase := 0 } })) 0) ∧
    ((fun (v : Int) => 52000 ≤ v ∧ v ≤ 54000)
        53000) ∧
    ((fun (v : Int) => 58000 < v)
        58001) ∧
    ((fun (v : Int) => v < 40000)
        0) ∧
    ((fun (s : State) => s.bay.modeSt.chopDue = true ∧ s.bay.xServes = true ∧ s.bay.now % frameTicks = 0 ∧ 4600 ≤ s.bay.rd F.PWR_AXBUS_AXV ∧ s.bay.rd
      F.PWR_AXBUS_AXV ≤ 5000 ∧ (∀ a ∈ allAxes, s.bay.axState a ≠ Ax.stopping))
        (on ({ (at5 [(F.PWR_AXBUS_AXV, 4800)]) with modeSt := { chopDue := true } }))) ∧
    ((fun (s : State) => s.bay.plant.chopPhase = 1 ∧ s.bay.plant.chopT0 + 2 * msTicks ≤ s.bay.now)
        (on ({ (at5 []) with plant := { chopPhase := 1 } }))) ∧
    ((fun (s : State) (i : Int) => s.bay.plant.chopPhase = 3 ∧ s.bay.plant.chopT0 + 6 * msTicks ≤ s.bay.now ∧ s.bay.plant.chopLeak = false ∧ i < 100 ∧
      s.bay.plant.chopBad = false)
        (on ({ (at5 []) with plant := { chopPhase := 3, chopLeak := false, chopBad := false } })) 0) ∧
    ((fun (s : State) (c : Fin 64) (d : Fin 64) => s.bay.plant.rtOn = true ∧ s.bay.plant.rtDonors.contains c.val = true ∧ s.bay.donorGone c = true ∧
      d.val ∈ s.bay.plant.rtDonors ∧ d ≠ c)
        (on ({ (at5 []) with plant := { rtOn := true, rtDonors := [0, 1] } })) 0 1) ∧
    ((fun (s : State) => s.bay.plant.rtOn = true ∧ s.bay.entState = Ent.rideThrough ∧ s.bay.plant.rtT0 + s.bay.rdN F.PWR_RT_CTL_TMAX * 60 * secTicks ≤
      s.bay.now)
        (on ({ (at5 [(F.PWR_ENTRY_STAT_STATE, Ent.rideThrough)]) with plant := { rtOn := true } }))) ∧
    ((fun (s : State) (v : Int) => s.bay.plant.rtOn = true ∧ s.bay.entState = Ent.rideThrough ∧ v < 500000)
        (on ({ (at5 [(F.PWR_ENTRY_STAT_STATE, Ent.rideThrough)]) with plant := { rtOn := true } })) 0) ∧
    ((fun (s : State) (v : Int) (t : Nat) => s.bay.plant.rtOn = true ∧ s.bay.entState = Ent.rideThrough ∧ s.bay.plant.okSince = some t ∧ t + 2 *
      secTicks ≤ s.bay.now ∧ (v - s.bay.rd F.PWR_X1_V).natAbs ≤ 20000 ∧ s.bay.flag F.PWR_RT_CTL_AUTORES = false)
        (on ({ (at5 [(F.PWR_ENTRY_STAT_STATE, Ent.rideThrough), (F.PWR_RT_CTL_AUTORES, 0)]) with plant := { rtOn := true, okSince := some 0 } })) 0 0) :=
by refine ⟨?_, ?_, ?_, ?_, ?_, ?_, ?_, ?_, ?_, ?_, ?_, ?_⟩ <;> decide +kernel

theorem test_ChannelPhasesAndCellSwitch_inputs :
    ((fun (s : State) (c : Fin 64) (i : Int) => s.bay.phasePeak c ≤ i.natAbs)
        (on ({ (at5 [(F.CHN_STG_STAT_STAGE 0, Stg.run), (F.SAFE_LINES_ON, 127)]) with driver := [(0, { lost := false })] })) 0 55000000) ∧
    ((fun (s : State) (c : Fin 64) => s.bay.faultStands c = false)
        (on (at5 [])) 0) ∧
    ((fun (s : State) (c : Fin 64) (x : PathReading) (est : Int) => ((s.bay.rpathSample c x.v x.node x.i).stageOf c).rpN ≠ 0 ∧ ((s.bay.rpathSample c
      x.v x.node x.i).stageOf c).rpFrom + 100 * msTicks ≤ s.bay.now ∧ truncR (((s.bay.rpathSample c x.v x.node x.i).stageOf c).rpSum /
      (((s.bay.rpathSample c x.v x.node x.i).stageOf c).rpN : Nat)) = est ∧ 200 < est ∧ est < 5000)
        (on ({ (at5 []) with stage := [(0, { rpN := 2, rpSum := 2000 })] })) 0 (⟨0, 0, 0⟩) 1000) ∧
    ((fun (s : State) (c : Fin 64) (t : Nat) => (s.bay.stageOf c).lowSince = some t ∧ t + msTicks ≤ s.bay.now ∧ s.bay.flag (F.CHN_STG_CFG_SHED_EN c) =
      true ∧ s.bay.switchClosed c = true ∧ s.bay.flag (F.CHN_STG_STAT_SHED c) = false ∧ (s.bay.stageOf c).iTgt.natAbs < 20000000 ∧ (s.bay.rd (F.CHN_I
      c)).natAbs < 20000000)
        (on ({ (at5 [(F.CHN_STG_CFG_SHED_EN 0, 1), (F.CHN_STG_STAT_CSW 0, 1), (F.CHN_STG_STAT_SHED 0, 0)]) with stage := [(0, { lowSince := some 0 })] })) 0 0) ∧
    ((fun (s : State) (c : Fin 64) (i : Int) => s.bay.flag (F.CHN_STG_STAT_SHED c) = true ∧ 24000000 ≤ i.natAbs)
        (on (at5 [(F.CHN_STG_STAT_SHED 0, 1)])) 0 24000000) ∧
    ((fun (s : State) (c : Fin 64) (v : Int) (before : Int) => s.bay.switches c = true ∧ 100 * v < 97 * s.bay.rd (F.CHN_NODE_REF c) ∧ 3 * s.bay.rd
      (F.CHN_NODE_REF c) < 100 * (before - v) ∧ (((s.bay.stageOf c).fireAt = 0 ∨ (s.bay.stageOf c).fireAt + 313 ≤ s.bay.now)))
        (on (at5 [(F.CHN_STG_STAT_STAGE 0, Stg.run), (F.SAFE_LINES_ON, 127), (F.CHN_NODE_REF 0, 4000000)])) 0 3800000 4000000) ∧
    ((fun (s : State) (c : Fin 64) (p : Fin 4) => (s.bay.rdN (F.CHN_STG_STAT_PH_OK c)).testBit p = true ∧ (s.bay.rdN (F.CHN_STG_STAT_PH_ACT
      c)).testBit p = true)
        (on (at5 [(F.CHN_STG_STAT_PH_ACT 0, 15)])) 0 0) ∧
    ((fun (s : State) (c : Fin 64) (p : Fin 4) => (s.bay.rdN (F.CHN_STG_STAT_PH_OK c)).testBit p = true)
        (on (at5 [])) 0 0) ∧
    ((fun (s : State) (c : Fin 64) (v : Int) => s.bay.rd (F.CHN_STG_STAT_STAGE c) = Stg.prebias ∧ (v - s.bay.rd (F.CHN_V c)).natAbs ≤ 20000)
        (on (at5 [(F.CHN_STG_STAT_STAGE 0, Stg.prebias)])) 0 0) ∧
    ((fun (s : State) (c : Fin 64) => s.bay.rd (F.CHN_STG_STAT_STAGE c) = Stg.prebias ∧ (s.bay.stageOf c).prebiasT0 + 2 * msTicks ≤ s.bay.now)
        (on (at5 [(F.CHN_STG_STAT_STAGE 0, Stg.prebias)])) 0) ∧
    ((fun (s : State) (c : Fin 64) => s.bay.switchClosed c = true ∧ (s.bay.stageOf c).softStop = true ∧ (s.bay.rd (F.CHN_I c)).natAbs < 1000000 ∧
      (s.bay.stageOf c).faulted = false)
        (on ({ (at5 [(F.CHN_STG_STAT_CSW 0, 1)]) with stage := [(0, { softStop := true, faulted := false })] })) 0) ∧
    ((fun (s : State) (c : Fin 64) (vn : Int) => s.bay.vOv c < vn ∧ (s.bay.stageOf c).ov = false)
        (on ({ (at5 []) with stage := [(0, { ov := false })] })) 0 5500001) ∧
    ((fun (s : State) (c : Fin 64) => s.bay.switchClosed c = true ∧ (s.bay.stageOf c).ov = false)
        (on ({ (at5 [(F.CHN_STG_STAT_CSW 0, 1)]) with stage := [(0, { ov := false })] })) 0) ∧
    ((fun (s : State) (c : Fin 64) => (s.bay.stageOf c).absent = true ∧ (s.bay.stageOf c).crowbarEnd ≤ s.bay.now ∧ (s.bay.stageOf c).ov = false)
        (on ({ (at5 []) with stage := [(0, { absent := true, ov := false })] })) 0) :=
by refine ⟨?_, ?_, ?_, ?_, ?_, ?_, ?_, ?_, ?_, ?_, ?_, ?_, ?_, ?_⟩ <;> decide +kernel

theorem test_StrokeLinksSafeOffAndFaultMemory_inputs :
    ((fun (s : State) (c : Fin 64) => s.bay.faultStands c = true)
        (on ({ (at5 []) with stage := [(0, { ov := true })] })) 0) ∧
    ((fun (s : State) (c : Fin 64) => s.bay.gate (F.CHN_STG_CTL_OV_CLR c) = none ∧ s.bay.flag (F.CHN_STG_STAT_CLR_ARMED c) = true ∧ (s.bay.stageOf
      c).ov = true ∧ (s.bay.stageOf c).absent = false ∧ (s.bay.stageOf c).faulted = false ∧ s.bay.rd (F.CHN_STG_STAT_STAGE c) = Stg.latchedOv ∧
      s.bay.rd (F.CHN_V c) ≤ s.bay.vOv c)
        (on ({ (at5 [(F.CHN_STG_STAT_CLR_ARMED 0, 1), (F.CHN_STG_STAT_STAGE 0, Stg.latchedOv)]) with stage := [(0, { ov := true, absent := false, faulted := false })] })) 0) ∧
    ((fun (s : State) (c : Fin 64) => s.bay.gate (F.CHN_STG_CTL_ABS_CLR c) = none ∧ s.bay.flag (F.CHN_STG_STAT_CLR_ARMED c) = true ∧ (s.bay.stageOf
      c).ov = false ∧ (s.bay.stageOf c).faulted = false ∧ s.bay.rd (F.CHN_STG_STAT_STAGE c) = Stg.cellAbsent)
        (on ({ (at5 [(F.CHN_STG_STAT_CLR_ARMED 0, 1), (F.CHN_STG_STAT_STAGE 0, Stg.cellAbsent)]) with stage := [(0, { ov := false, faulted := false })] })) 0) ∧
    ((fun (s : State) (c : Fin 64) => s.bay.gate (F.CHN_STG_CTL_PH_CLR c) = none ∧ s.bay.flag (F.CHN_STG_STAT_CLR_ARMED c) = true)
        (on (at5 [(F.CHN_STG_STAT_CLR_ARMED 0, 1)])) 0) ∧
    ((fun (s : State) (c : Fin 64) => s.bay.gate (F.CHN_STG_CTL_FLT_CLR c) = none ∧ s.bay.flag (F.CHN_STG_STAT_CLR_ARMED c) = true ∧ (s.bay.stageOf
      c).ov = false ∧ (s.bay.stageOf c).absent = false ∧ s.bay.rd (F.CHN_STG_STAT_STAGE c) = Stg.fault)
        (on ({ (at5 [(F.CHN_STG_STAT_CLR_ARMED 0, 1), (F.CHN_STG_STAT_STAGE 0, Stg.fault)]) with stage := [(0, { ov := false, absent := false })] })) 0) ∧
    ((fun (s : State) (c : Fin 64) => s.bay.gate (F.CHN_STG_CTL_OV_CLR c) = none ∧ s.bay.flag (F.CHN_STG_STAT_CLR_ARMED c) = false)
        (on (at5 [(F.CHN_STG_STAT_CLR_ARMED 0, 0)])) 0) ∧
    ((fun (s : State) (d : Fin 70) (w : BitVec 16) => field w.toNat 0 4 = crc4 w.toNat ∧ field w.toNat 13 3 ≠ 5 ∧ field w.toNat 13 3 ≠ 6 ∧
      strokeApplies (field w.toNat 13 3) (field w.toNat 10 3) = true ∧ field w.toNat 4 6 = (s.bay.driverOf d).seq)
        (on (at5 [])) 0 0) ∧
    ((fun (w : BitVec 16) => field w.toNat 0 4 ≠ crc4 w.toNat)
        1) ∧
    ((fun (s : State) (d : Fin 70) => (s.bay.driverOf d).lost = false)
        (on ({ (at5 []) with driver := [(0, { lost := false })] })) 0) ∧
    ((fun (p0 : Nat) (p1 : Nat) (p2 : Nat) (p3 : Nat) (sw : Nat) => p0 < 256 ∧ p1 < 256 ∧ p2 < 256 ∧ p3 < 256 ∧ sw < 256)
        0 0 0 0 0) ∧
    ((fun (s : State) (n : Fin 4) (r : FramRec) (rest : List FramRec) => (s.bay.framOf n).queue = r :: rest)
        (on ({ (at5 []) with fram := [(0, { queue := [⟨0,0,0,0,0,0,0,0,0,0,0,0,[],[],[],[],[],0,0,0,[],[],false⟩] })] })) 0 (⟨0,0,0,0,0,0,0,0,0,0,0,0,[],[],[],[],[],0,0,0,[],[],false⟩) ([])) :=
by refine ⟨?_, ?_, ?_, ?_, ?_, ?_, ?_, ?_, ?_, ?_, ?_⟩ <;> decide +kernel

theorem test_RegulationAndCellRecord_inputs :
    ((fun (s : State) (c : Fin 64) => s.bay.now % msTicks = 0 ∧ (s.bay.chanOf c).live = true ∧ (s.bay.chanOf c).holds = [])
        (on ({ (at5 []) with chan := [(0, { live := true, holds := [] })] })) 0) ∧
    ((fun (s : State) (c : Fin 64) => (s.bay.chanOf c).live = true ∧ s.bay.qualified c = true ∧ s.bay.fastConds c ++ s.bay.slowConds c = [9])
        (on ({ (at5 [(F.CHN_QUAL 0, 1), (F.SAFE_LINES_ON, 127)]) with chan := [(0, { live := true, par := { mode := 3, termDiv := 10 } })] })) 0) ∧
    ((fun (s : State) (c : Fin 64) => (s.bay.chanOf c).live = true ∧ s.bay.fastConds c ++ s.bay.slowConds c = [6])
        (on ({ (at5 [(F.CHN_SFT 0, 1), (F.SAFE_LINES_ON, 127)]) with chan := [(0, { live := true, par := { tsafe := 1 } })] })) 0) ∧
    ((fun (s : State) (c : Fin 64) => (s.bay.chanOf c).live = true ∧ s.bay.fastConds c ++ s.bay.slowConds c = [10])
        (on ({ (at5 [(F.CHN_TMR 0, 1), (F.SAFE_LINES_ON, 127)]) with chan := [(0, { live := true, par := { tstep := 1 } })] })) 0) ∧
    ((fun (s : State) (c : Fin 64) => (s.bay.chanOf c).live = true ∧ (s.bay.chanOf c).par.mode = 7 ∧ (s.bay.chanOf c).holds = [] ∧ s.bay.now %
      frameTicks = 0 ∧ (s.bay.chanOf c).levelT0 + (max 1 (if (s.bay.chanOf c).secondLevel then (s.bay.chanOf c).par.t2 else (s.bay.chanOf
      c).par.t1)).toNat * msTicks ≤ s.bay.now)
        (on ({ (at5 []) with chan := [(0, { live := true, par.mode := 7, holds := [] })] })) 0) ∧
    ((fun (s : State) (c : Fin 64) (z : Int) (id : Int) (i : Int) (t : Zoned) => s.bay.now % frameTicks = 0 ∧ (s.bay.chanOf c).live = true ∧
      (s.bay.chanOf c).zonePend = some z ∧ (s.bay.chanOf c).src = .table id i ∧ s.bay.zonedOf id = some t ∧ z ≠ s.bay.rd (F.CHN_REG_STAT_ZONE c) ∧
      s.bay.failStep c (t.entry z i) = none)
        (on ({ (at5 []) with images := [⟨5, 2, 1, 0, 0, 0, .zoned {}⟩], chan := [(0, { live := true, zonePend := some 1, src := .table 5 0 })] })) 0 1 5 0 ({})) ∧
    ((fun (s : State) (c : Fin 64) => s.bay.flag (F.CHN_REG_STAT_TOPOFF c) = true ∧ (s.bay.chanOf c).live = true ∧ (s.bay.chanOf c).leg.tTop ≤
      (s.bay.chanOf c).topMs)
        (on ({ (at5 [(F.CHN_REG_STAT_TOPOFF 0, 1)]) with chan := [(0, { live := true })] })) 0) ∧
    ((fun (s : State) (c : Fin 64) => s.bay.flag (F.CHN_REG_STAT_WATCH c) = true ∧ max 1 (s.bay.chanOf c).leg.tRqual ≤ (s.bay.chanOf c).watchMs ∧
      s.bay.rechargeSpent c = false)
        (on ({ (at5 [(F.CHN_REG_STAT_WATCH 0, 1)]) with chan := [(0, { watchMs := 5 })] })) 0) ∧
    ((fun (s : State) (c : Fin 64) => s.bay.now % secTicks = 0 ∧ s.bay.cellOpen c = true)
        (on (at5 [(F.CHN_REG_STAT_CELL 0, 1)])) 0) ∧
    ((fun (s : State) (c : Fin 64) => sealBlock ≤ (s.bay.ringOf c).sinceSeal ∧ s.bay.cellOpen c = true)
        (on ({ (at5 [(F.CHN_REG_STAT_CELL 0, 1)]) with ring := [(0, { sinceSeal := 1014 })] })) 0) ∧
    ((fun (s : State) (c : Fin 64) => ringNearFull ≤ (s.bay.ringOf c).fill)
        (on ({ (at5 []) with ring := [(0, { slots := List.replicate 130048 [] })] })) 0) ∧
    ((fun (s : State) (c : Fin 64) => ringSlots ≤ (s.bay.ringOf c).fill)
        (on ({ (at5 []) with ring := [(0, { slots := List.replicate 131072 [] })] })) 0) ∧
    ((fun (s : State) (c : Fin 64) => (s.bay.ringOf c).full = false ∧ (s.bay.ringOf c).fill < ringWarn)
        (on (at5 [])) 0) ∧
    ((fun (s : State) (c : Fin 64) => (s.bay.ringOf c).full = true ∧ (s.bay.ringOf c).held = [] ∧ (s.bay.ringOf c).fill + 24 < ringSlots)
        (on ({ (at5 []) with ring := [(0, { held := [], full := true })] })) 0) ∧
    ((fun (s : State) (c : Fin 64) => s.bay.gate (F.CHN_REG_CTL_CELL_END c) = none ∧ s.bay.switchClosed c = false ∧ s.bay.cellOpen c = true)
        (on (at5 [(F.CHN_STG_STAT_CSW 0, 0), (F.CHN_REG_STAT_CELL 0, 1)])) 0) ∧
    ((fun (s : State) (c : Fin 64) (k : Nat) => k ∈ s.bay.clearable c ∧ s.bay.causeGone c k = true)
        (on ({ (at5 []) with chan := [(0, { holds := [7] })] })) 0 7) ∧
    ((fun (s : State) (c : Fin 64) (k : Nat) => s.bay.gate (F.CHN_REG_CTL_HOLD_CLR c) = none ∧ s.bay.flag (F.CHN_REG_STAT_CLR_ARMED c) = true ∧ k ∈
      s.bay.clearable c ∧ s.bay.causeGone c k = true)
        (on ({ (at5 [(F.CHN_REG_STAT_CLR_ARMED 0, 1)]) with chan := [(0, { holds := [7] })] })) 0 7) :=
by refine ⟨?_, ?_, ?_, ?_, ?_, ?_, ?_, ?_, ?_, ?_, ?_, ?_, ?_, ?_, ?_, ?_, ?_⟩ <;> decide +kernel

theorem test_AxisStartStopAndSto_inputs :
    ((fun (s : State) (a : Fin 6) => s.bay.gate (F.AXS_CTL_START a) = none ∧ s.bay.startOk a = true)
        (on (at5 [(F.SAFE_LINES_ON, 127)])) 0) ∧
    ((fun (s : State) (a : Fin 6) => s.bay.gate (F.AXS_CTL_STOP a) = none ∧ s.bay.axState a = Ax.run)
        (on (at5 [(F.AXS_STAT_STATE 0, Ax.run)])) 0) ∧
    ((fun (s : State) (a : Fin 6) => s.bay.gate (F.AXS_CTL_STOP a) = none ∧ s.bay.axState a = Ax.disabled)
        (on (at5 [(F.AXS_STAT_STATE 0, Ax.disabled)])) 0) ∧
    ((fun (s : State) (a : Fin 6) => 4 ≤ a.val ∧ s.bay.axState a = Ax.stopping ∧ 10 * (s.bay.axisOf a).w.natAbs ≤ s.bay.rd (F.AXS_N_RATED a))
        (on (at5 [(F.AXS_STAT_STATE 4, Ax.stopping)])) 4) ∧
    ((fun (s : State) (a : Fin 6) (t : Nat) => a.val < 4 ∧ s.bay.axState a = Ax.stopping ∧ (s.bay.axisOf a).stopT = some t ∧ t + 20 * msTicks ≤
      s.bay.now)
        (on ({ (at5 [(F.AXS_STAT_STATE 0, Ax.stopping)]) with axis := [(0, { stopT := some 0 })] })) 0 0) ∧
    ((fun (s : State) (a : Fin 6) => s.bay.hasLocal a = true)
        (on (at5 [(F.AXS_STAT_STATE 0, Ax.sto), (F.AXS_FLT_CAUSE 0, 2)])) 0) ∧
    ((fun (s : State) (a : Fin 6) => s.bay.gate (F.AXS_CTL_FLT_CLR a) = none ∧ s.bay.flag (F.AXS_STAT_CLR_ARMED a) = true ∧ s.bay.rd (F.AXS_FLT_CAUSE
      a) ≠ 17 ∧ s.bay.rd (F.AXS_FLT_SECOND a) ≠ 17)
        (on (at5 [(F.AXS_STAT_CLR_ARMED 0, 1), (F.AXS_STAT_STATE 0, Ax.sto), (F.SAFE_LINES_ON, 127), (F.AXS_FLT_CAUSE 0, 3)])) 0) ∧
    ((fun (s : State) (a : Fin 6) => s.bay.gate (F.AXS_CTL_FLT_CLR a) = none ∧ s.bay.flag (F.AXS_STAT_CLR_ARMED a) = false)
        (on (at5 [(F.AXS_STAT_CLR_ARMED 0, 0)])) 0) ∧
    ((fun (s : State) => (∀ a ∈ allAxes, s.bay.axState a = Ax.run))
        (on (at5 [(F.AXS_STAT_STATE 0, Ax.run), (F.AXS_STAT_STATE 1, Ax.run), (F.AXS_STAT_STATE 2, Ax.run), (F.AXS_STAT_STATE 3, Ax.run), (F.AXS_STAT_STATE 4, Ax.run), (F.AXS_STAT_STATE 5, Ax.run)]))) :=
by refine ⟨?_, ?_, ?_, ?_, ?_, ?_, ?_, ?_, ?_⟩ <;> decide +kernel

theorem test_AxisStartSequence_inputs :
    ((fun (s : State) (a : Fin 6) => s.bay.axState a = Ax.starting ∧ (s.bay.axisOf a).seq = 1 ∧ (s.bay.axisOf a).t0 + 5 * msTicks ≤ s.bay.now ∧ 10 *
      (s.bay.axisOf a).w.natAbs < 4 * s.bay.rd (F.AXS_N_RATED a))
        (on ({ (at5 [(F.AXS_STAT_STATE 0, Ax.starting)]) with axis := [(0, { seq := 1 })] })) 0) ∧
    ((fun (s : State) (a : Fin 6) => s.bay.axState a = Ax.starting ∧ (s.bay.axisOf a).seq = 1 ∧ (s.bay.axisOf a).t0 + 5 * msTicks ≤ s.bay.now ∧ 4 *
      s.bay.rd (F.AXS_N_RATED a) ≤ 10 * (s.bay.axisOf a).w.natAbs)
        (on ({ (at5 [(F.AXS_STAT_STATE 0, Ax.starting)]) with axis := [(0, { seq := 1, w := 30000 })] })) 0) ∧
    ((fun (s : State) (a : Fin 6) (p : Int) (m : Int) => s.bay.axState a = Ax.starting ∧ (s.bay.axisOf a).seq = 2 ∧ (s.bay.axisOf a).t0 + 25 * msTicks
      ≤ s.bay.now ∧ 5 * max p.natAbs m.natAbs ≤ 100 * (p - m).natAbs)
        (on ({ (at5 [(F.AXS_STAT_STATE 0, Ax.starting)]) with axis := [(0, { seq := 2 })] })) 0 0 0) ∧
    ((fun (s : State) (a : Fin 6) => s.bay.axState a = Ax.starting ∧ (s.bay.axisOf a).seq = 2 ∧ (s.bay.axisOf a).t0 + 25 * msTicks ≤ s.bay.now)
        (on ({ (at5 [(F.AXS_STAT_STATE 0, Ax.starting)]) with axis := [(0, { seq := 2 })] })) 0) ∧
    ((fun (s : State) (a : Fin 6) => s.bay.axState a = Ax.starting ∧ (s.bay.axisOf a).seq = 3 ∧ (s.bay.axisOf a).t0 + 29 * msTicks ≤ s.bay.now)
        (on ({ (at5 [(F.AXS_STAT_STATE 0, Ax.starting)]) with axis := [(0, { seq := 3 })] })) 0) ∧
    ((fun (s : State) (a : Fin 6) => s.bay.axState a = Ax.starting ∧ (s.bay.axisOf a).seq = 4 ∧ (s.bay.axisOf a).t0 + 30 * msTicks ≤ s.bay.now)
        (on ({ (at5 [(F.AXS_STAT_STATE 0, Ax.starting)]) with axis := [(0, { seq := 4 })] })) 0) ∧
    ((fun (s : State) (a : Fin 6) => s.bay.axState a = Ax.starting ∧ (s.bay.axisOf a).seq = 5 ∧ (s.bay.axisOf a).t0 + 55 * msTicks ≤ s.bay.now)
        (on ({ (at5 [(F.AXS_STAT_STATE 0, Ax.starting)]) with axis := [(0, { seq := 5 })] })) 0) ∧
    ((fun (s : State) (a : Fin 6) => s.bay.axState a = Ax.starting ∧ (s.bay.axisOf a).seq = 2 ∧ (s.bay.axisOf a).t0 + 100 * msTicks ≤ s.bay.now)
        (on ({ (at5 [(F.AXS_STAT_STATE 0, Ax.starting)]) with axis := [(0, { seq := 2 })] })) 0) ∧
    ((fun (s : State) (a : Fin 6) => isPress a = true ∧ s.bay.flag (F.AXS_CFG_FB_EN a) = true ∧ s.bay.flag (F.POS_STAT_REF_FOUND a) = true ∧
      (s.bay.axisOf a).fbExcl = false ∧ heldFor (s.bay.axisOf a).fbApart (10 * msTicks) s.bay.now = true)
        (on ({ (at5 [(F.AXS_CFG_FB_EN 0, 1), (F.POS_STAT_REF_FOUND 0, 1)]) with axis := [(0, { fbExcl := false, fbApart := some 0 })] })) 0) :=
by refine ⟨?_, ?_, ?_, ?_, ?_, ?_, ?_, ?_, ?_⟩ <;> decide +kernel

theorem test_PressForceX60AndAxisProtection_inputs :
    ((fun (s : State) (a : Fin 6) => s.bay.i2tLeft a ≤ 0)
        (on ({ (at5 []) with axis := [(0, { budgetSet := true })] })) 0) ∧
    ((fun (s : State) (a : Fin 6) => 0 < s.bay.rd (F.AXS_I2T a) ∧ s.bay.i2tFull a ≤ 10 * s.bay.rd (F.AXS_I2T a))
        (on (at5 [(F.AXS_I2T 0, 100000)])) 0) ∧
    ((fun (s : State) (a : Fin 4) => s.bay.axState a ≠ Ax.sto ∧ heldFor (s.bay.axisOf a).cellBad (10 * msTicks) s.bay.now = true)
        (on ({ (at5 []) with axis := [(0, { cellBad := some 0 })] })) 0) ∧
    ((fun (s : State) (a : Fin 4) (t : Nat) => s.bay.axState a = Ax.run ∧ s.bay.rd (F.AXS_CFG_MODE a) = 2 ∧ s.bay.rd (F.AXS_STAT_PRS a) = 2 ∧
      (s.bay.axisOf a).prSeq = 0 ∧ (s.bay.axisOf a).inBand = some t ∧ t + 200 * msTicks ≤ s.bay.now)
        (on ({ (at5 [(F.AXS_STAT_STATE 0, Ax.run), (F.AXS_CFG_MODE 0, 2), (F.AXS_STAT_PRS 0, 2)]) with axis := [(0, { prSeq := 0, inBand := some 0 })] })) 0 0) ∧
    ((fun (s : State) (a : Fin 4) => s.bay.axState a = Ax.run ∧ s.bay.rd (F.AXS_CFG_MODE a) = 2 ∧ (s.bay.axisOf a).prSeq = 2 ∧ (s.bay.axisOf a).prT +
      20 * msTicks ≤ s.bay.now)
        (on ({ (at5 [(F.AXS_STAT_STATE 0, Ax.run), (F.AXS_CFG_MODE 0, 2)]) with axis := [(0, { prSeq := 2 })] })) 0) ∧
    ((fun (s : State) (a : Fin 4) (t : Nat) => s.bay.axState a = Ax.run ∧ s.bay.rd (F.AXS_CFG_MODE a) = 2 ∧ s.bay.rd (F.AXS_STAT_PRS a) = 3 ∧
      (s.bay.axisOf a).prSeq = 0 ∧ (s.bay.axisOf a).outBand = some t ∧ t + 500 * msTicks ≤ s.bay.now)
        (on ({ (at5 [(F.AXS_STAT_STATE 0, Ax.run), (F.AXS_CFG_MODE 0, 2), (F.AXS_STAT_PRS 0, 3)]) with axis := [(0, { prSeq := 0, outBand := some 0 })] })) 0 0) ∧
    ((fun (s : State) (a : Fin 4) => s.bay.axState a = Ax.run ∧ s.bay.rd (F.AXS_CFG_MODE a) = 2 ∧ s.bay.rd (F.AXS_STAT_PRS a) = 3 ∧ (s.bay.axisOf
      a).prSeq = 3 ∧ (s.bay.axisOf a).prT + 25 * msTicks ≤ s.bay.now ∧ s.bay.rd (F.AXS_F_TGT a) ≠ 0)
        (on ({ (at5 [(F.AXS_STAT_STATE 0, Ax.run), (F.AXS_CFG_MODE 0, 2), (F.AXS_STAT_PRS 0, 3), (F.AXS_F_TGT 0, 1)]) with axis := [(0, { prSeq := 3 })] })) 0) ∧
    ((fun (s : State) (a : Fin 4) => s.bay.axState a = Ax.run ∧ s.bay.rd (F.AXS_CFG_MODE a) = 2 ∧ s.bay.rd (F.AXS_STAT_PRS a) = 4 ∧ (s.bay.axisOf
      a).prSeq = 4)
        (on ({ (at5 [(F.AXS_STAT_STATE 0, Ax.run), (F.AXS_CFG_MODE 0, 2), (F.AXS_STAT_PRS 0, 4)]) with axis := [(0, { prSeq := 4 })] })) 0) ∧
    ((fun (s : State) (a : Fin 6) => 4 ≤ a.val ∧ s.bay.rd (F.AXS_CFG_MODE a) = 1 ∧ s.bay.rd (F.AXS_STAT_X60_LOSS a) = 0 ∧ ((s.bay.rd
      (F.AXS_CFG_X60_FORM a) = 1 ∨ heldFor (s.bay.axisOf a).x60Bad (30 * msTicks) s.bay.now = true)))
        (on ({ (at5 [(F.AXS_CFG_MODE 4, 1), (F.AXS_STAT_X60_LOSS 4, 0)]) with axis := [(4, { x60Bad := some 0 })] })) 4) ∧
    ((fun (s : State) (a : Fin 6) => s.bay.axState a ≠ Ax.sto)
        (on (at5 [])) 0) ∧
    ((fun (s : State) (a : Fin 6) (i : Int) => s.bay.axState a ≠ Ax.sto ∧ fastLimit a ≤ i.natAbs)
        (on (at5 [])) 0 90000) ∧
    ((fun (s : State) (a : Fin 6) (i : Int) (r : AxRec) => fastLimit a ≤ i.natAbs ∧ s.bay.axState a = Ax.sto ∧ s.bay.rd (F.AXS_FLT_CAUSE a) = 2 ∧
      s.bay.rd (F.AXS_FLT_SECOND a) = 0 ∧ s.bay.axRec.getLast? = some r ∧ r.time = s.bay.now)
        (on ({ (at5 [(F.AXS_STAT_STATE 0, Ax.sto), (F.AXS_FLT_CAUSE 0, 2), (F.AXS_FLT_SECOND 0, 0)]) with axRec := [⟨0, 2, 0, 0, 0, 0, 0, 1000000000000⟩] })) 0 (-90000) (⟨0, 2, 0, 0, 0, 0, 0, 1000000000000⟩)) ∧
    ((fun (s : State) => (∀ a ∈ allAxes, s.bay.axState a = Ax.run))
        (on (at5 [(F.AXS_STAT_STATE 0, Ax.run), (F.AXS_STAT_STATE 1, Ax.run), (F.AXS_STAT_STATE 2, Ax.run), (F.AXS_STAT_STATE 3, Ax.run), (F.AXS_STAT_STATE 4, Ax.run), (F.AXS_STAT_STATE 5, Ax.run)]))) ∧
    ((fun (s : State) (a : Fin 6) => s.bay.axState a ≠ Ax.sto ∧ s.bay.expectsCurrent a = true)
        (on ({ (at5 [(F.AXS_STAT_STATE 0, Ax.run)]) with loopAx := [(0, { iqSum := 6000 })] })) 0) :=
by refine ⟨?_, ?_, ?_, ?_, ?_, ?_, ?_, ?_, ?_, ?_, ?_, ?_, ?_, ?_⟩ <;> decide +kernel

theorem test_PositionInterfaces_inputs :
    ((fun (s : State) (p : Fin 4) => s.bay.posSrc p = 1 ∧ (s.bay.encOf p).lineMask = 0 ∧ s.bay.rd (F.POS_STAT_CMP_ARMED p) = 0 ∧ s.bay.rd
      (F.POS_STAT_REF_FOUND p) = 0 ∧ (s.bay.encOf p).dir = 1 ∧ (s.bay.encOf p).pastExp = none ∧ 0 < s.bay.rd (F.POS_WRAP p))
        (on ({ (at5 [(F.POS_CFG_SRC 0, 1), (F.POS_STAT_CMP_ARMED 0, 0), (F.POS_STAT_REF_FOUND 0, 0)]) with enc := [(0, { lineMask := 0, dir := 1, pastExp := none })] })) 0) ∧
    ((fun (s : State) (p : Fin 4) => s.bay.posSrc p = 1 ∧ (s.bay.encOf p).lineMask = 0 ∧ s.bay.rd (F.POS_STAT_ILL_WIN p) < 2)
        (on ({ (at5 [(F.POS_CFG_SRC 0, 1)]) with enc := [(0, { lineMask := 0 })] })) 0) ∧
    ((fun (s : State) (p : Fin 4) => s.bay.posSrc p = 1 ∧ (s.bay.encOf p).lineMask = 0 ∧ s.bay.rd (F.POS_STAT_ILL_WIN p) = 2 ∧ s.bay.rd
      (F.POS_FLT_CODE p) = 0 ∧ s.bay.axState p ≠ Ax.sto)
        (on ({ (at5 [(F.POS_CFG_SRC 0, 1), (F.POS_STAT_ILL_WIN 0, 2), (F.POS_FLT_CODE 0, 0)]) with enc := [(0, { lineMask := 0 })] })) 0) ∧
    ((fun (s : State) (p : Fin 4) (mask : Fin 4) => (s.bay.encOf p).lineMask = 0 ∧ mask ≠ 0 ∧ s.bay.rd (F.POS_CFG_SRC p) = 1 ∧ s.bay.rd
      (F.POS_FLT_CODE p) = 0 ∧ s.bay.axState p ≠ Ax.sto)
        (on ({ (at5 [(F.POS_CFG_SRC 0, 1), (F.POS_FLT_CODE 0, 0)]) with enc := [(0, { lineMask := 0 })] })) 0 1) ∧
    ((fun (s : State) (p : Fin 4) (mask : Fin 4) => (s.bay.encOf p).lineMask = mask.val)
        (on ({ (at5 []) with enc := [(0, { lineMask := 0 })] })) 0 0) ∧
    ((fun (s : State) (p : Fin 4) (t : Nat) => s.bay.posSrc p = 1 ∧ (s.bay.encOf p).lastEdge = some t ∧ t + 25000000 ≤ t4Of s.bay.now)
        (on ({ (at5 [(F.POS_CFG_SRC 0, 1)]) with enc := [(0, { lastEdge := some 0 })] })) 0 0) ∧
    ((fun (s : State) (p : Fin 4) (w : BitVec 64) (tmo : Bool) (raw : Nat) => s.bay.posSrc p = 2 ∧ s.bay.ssiCheck p w.toNat tmo = (raw, 1) ∧ s.bay.rd
      (F.POS_STAT_SSI_BADRUN p) + 1 ≠ s.bay.rd (F.POS_SSI_CFG_ERR_LIM p))
        (on (at5 [(F.POS_CFG_SRC 0, 2), (F.POS_SSI_CFG_CRC_LEN 0, 6)])) 0 1 false 0) ∧
    ((fun (s : State) (p : Fin 4) (w : BitVec 64) (raw : Nat) => s.bay.posSrc p = 2 ∧ s.bay.ssiCheck p w.toNat false = (raw, 0) ∧ (s.bay.encOf
      p).ssiPos = none ∧ s.bay.rd (F.POS_SSI_CFG_GRAY p) = 0 ∧ s.bay.rdN (F.POS_SSI_CFG_MT p) = 0)
        (on ({ (at5 [(F.POS_CFG_SRC 0, 2), (F.POS_SSI_CFG_GRAY 0, 0), (F.POS_SSI_CFG_MT 0, 0)]) with enc := [(0, { ssiPos := none })] })) 0 0 0) ∧
    ((fun (s : State) (p : Fin 4) => s.bay.gate (F.POS_CTL_REF_CLR p) = none)
        (on (at5 [])) 0) ∧
    ((fun (s : State) (p : Fin 4) => s.bay.gate (F.POS_CTL_CMP_ARM p) = none ∧ s.bay.spacingOk p = true)
        (on (at5 [(F.POS_CMP_SPC 0, 1000)])) 0) ∧
    ((fun (s : State) (p : Fin 4) => s.bay.gate (F.POS_CTL_CMP_STOP p) = none)
        (on (at5 [])) 0) ∧
    ((fun (s : State) (p : Fin 4) => s.bay.gate (F.POS_CTL_FIFO_CLR p) = none)
        (on (at5 [])) 0) ∧
    ((fun (s : State) (p : Fin 4) (h : Hit) (h' : Hit) (r : List Hit) => (s.bay.encOf p).fifo = h :: h' :: r)
        (on ({ (at5 []) with enc := [(0, { fifo := (⟨3, 5, 0, false, false⟩) :: (⟨4, 6, 0, false, false⟩) :: ([]) })] })) 0 (⟨3, 5, 0, false, false⟩) (⟨4, 6, 0, false, false⟩) ([])) ∧
    ((fun (s : State) (t : Nat) => (s.bay.encOf 0).ptHold = some t ∧ t ≤ s.bay.now)
        (on ({ (at5 []) with enc := [(0, { ptHold := some 0 })] })) 0) ∧
    ((fun (s : State) (p : Fin 4) => s.bay.posSrc p = 1 ∧ (s.bay.encOf p).lineMask = 0 ∧ s.bay.rd (F.POS_STAT_CMP_ARMED p) = 0 ∧ s.bay.rd
      (F.POS_STAT_REF_FOUND p) = 0 ∧ (s.bay.encOf p).dir = -1 ∧ (s.bay.encOf p).pastExp = none ∧ 0 < s.bay.rd (F.POS_WRAP p))
        (on ({ (at5 [(F.POS_CFG_SRC 0, 1), (F.POS_STAT_CMP_ARMED 0, 0), (F.POS_STAT_REF_FOUND 0, 0)]) with enc := [(0, { lineMask := 0, dir := -1, pastExp := none })] })) 0) ∧
    ((fun (s : State) (p : Fin 4) => s.bay.posSrc p = 1 ∧ (s.bay.encOf p).lineMask = 0 ∧ s.bay.rd (F.POS_STAT_CMP_ARMED p) = 0 ∧ s.bay.rd
      (F.POS_STAT_REF_FOUND p) = 1 ∧ (s.bay.encOf p).dir = 1 ∧ 0 < s.bay.rd (F.POS_WRAP p) ∧ s.bay.rd (F.POS_COUNT p) + 1 + s.bay.gapCounts p =
      s.bay.rd (F.POS_WRAP p))
        (on ({ (at5 [(F.POS_CFG_SRC 0, 1), (F.POS_STAT_CMP_ARMED 0, 0), (F.POS_STAT_REF_FOUND 0, 1), (F.POS_WRAP 0, 240), (F.POS_COUNT 0, 231), (F.POS_CFG_MISS 0, 2)]) with enc := [(0, { lineMask := 0, dir := 1 })] })) 0) ∧
    ((fun (s : State) (p : Fin 4) => s.bay.posSrc p ≠ 1)
        (on (at5 [(F.POS_CFG_SRC 0, 0)])) 0) ∧
    ((fun (s : State) (p : Fin 4) (mask : Fin 4) => (s.bay.encOf p).lineMask ||| mask.val ≠ (s.bay.encOf p).lineMask ∧ s.bay.posSrc p ≠ 0 ∧ s.bay.rd
      (F.POS_FLT_CODE p) = 0 ∧ s.bay.axState p ≠ Ax.sto)
        (on (at5 [(F.POS_FLT_CODE 0, 0), (F.POS_CFG_SRC 0, 1)])) 0 1) ∧
    ((fun (s : State) (p : Fin 4) (mask : Fin 4) => (s.bay.encOf p).lineMask ||| mask.val ≠ (s.bay.encOf p).lineMask ∧ s.bay.posSrc p = 0)
        (on (at5 [(F.POS_CFG_SRC 0, 0)])) 0 1) ∧
    ((fun (s : State) (p : Fin 4) (w : BitVec 64) (tmo : Bool) (raw : Nat) (k : Nat) => s.bay.posSrc p = 2 ∧ s.bay.ssiCheck p w.toNat tmo = (raw, k) ∧
      ((k = 2 ∨ k = 3)) ∧ s.bay.rd (F.POS_STAT_SSI_BADRUN p) + 1 ≠ s.bay.rd (F.POS_SSI_CFG_ERR_LIM p))
        (on (at5 [(F.POS_CFG_SRC 0, 2)])) 0 0 true 0 3) ∧
    ((fun (s : State) (p : Fin 4) (w : BitVec 64) (tmo : Bool) (raw : Nat) (k : Nat) => s.bay.posSrc p = 2 ∧ s.bay.ssiCheck p w.toNat tmo = (raw, k) ∧
      k ≠ 0 ∧ s.bay.rd (F.POS_STAT_SSI_BADRUN p) + 1 = s.bay.rd (F.POS_SSI_CFG_ERR_LIM p) ∧ s.bay.rd (F.POS_FLT_CODE p) = 0 ∧ s.bay.axState p ≠
      Ax.sto)
        (on (at5 [(F.POS_CFG_SRC 0, 2), (F.POS_FLT_CODE 0, 0), (F.POS_SSI_CFG_ERR_LIM 0, 1)])) 0 0 true 0 3) ∧
    ((fun (s : State) (p : Fin 4) (w : BitVec 64) (raw : Nat) => s.bay.posSrc p = 2 ∧ s.bay.ssiCheck p w.toNat false = (raw, 0) ∧ (s.bay.encOf
      p).ssiPos = none ∧ s.bay.rd (F.POS_SSI_CFG_GRAY p) = 1 ∧ 0 < s.bay.rdN (F.POS_SSI_CFG_MT p))
        (on ({ (at5 [(F.POS_CFG_SRC 0, 2), (F.POS_SSI_CFG_GRAY 0, 1)]) with enc := [(0, { ssiPos := none })] })) 0 0 0) ∧
    ((fun (s : State) (p : Fin 4) => s.bay.gate (F.POS_CTL_CMP_ARM p) = none ∧ s.bay.spacingOk p = false)
        (on (at5 [])) 0) ∧
    ((fun (s : State) (p : Fin 4) (h : Hit) => (s.bay.encOf p).fifo = [h])
        (on ({ (at5 []) with enc := [(0, { fifo := [(⟨3, 5, 0, false, false⟩)] })] })) 0 (⟨3, 5, 0, false, false⟩)) :=
by refine ⟨?_, ?_, ?_, ?_, ?_, ?_, ?_, ?_, ?_, ?_, ?_, ?_, ?_, ?_, ?_, ?_, ?_, ?_, ?_, ?_, ?_, ?_, ?_, ?_⟩ <;> decide +kernel

theorem test_MeasurementRangesWindowsAndReferences_inputs :
    ((fun (s : State) (c : Fin 64) (i : Int) => 0 < s.bay.range c ∧ rangeFs (s.bay.range c) * 105 < i.natAbs * 100 ∧ rangeFs (s.bay.range c) * 12 ≤
      i.natAbs * 10 ∧ (s.bay.measChOf c).bridgeTo = none)
        (on ({ (at5 [(F.CHN_MEAS_STAT_RANGE 0, 2)]) with measCh := [(0, { bridgeTo := none })] })) 0 2000000) ∧
    ((fun (s : State) (c : Fin 64) (t : Nat) => (s.bay.measChOf c).downSince = some t ∧ t + 10 * msTicks ≤ s.bay.now ∧ s.bay.rd (F.EISCH_STAT_RUN c) =
      0 ∧ (s.bay.range c : Int) < s.bay.rd (F.CHN_MEAS_CFG_RFLOOR c) ∧ (s.bay.measChOf c).bridgeTo = none)
        (on ({ (at5 [(F.EISCH_STAT_RUN 0, 0)]) with measCh := [(0, { downSince := some 0, bridgeTo := none })] })) 0 0) ∧
    ((fun (s : State) (c : Fin 64) (r : Nat) => (s.bay.measChOf c).bridgeTo = some r ∧ (s.bay.measChOf c).bridgeEnd ≤ s.bay.now ∧ (s.bay.measChOf
      c).pendRange = none)
        (on ({ (at5 []) with measCh := [(0, { bridgeTo := some 0, pendRange := none })] })) 0 0) ∧
    ((fun (s : State) => s.bay.now % specTicks = 0)
        (on (at5 []))) ∧
    ((fun (s : State) (r : Reading) => s.bay.now % s.bay.precTicks = 0 ∧ s.bay.measSt.precFrom + s.bay.precTicks ≤ s.bay.now ∧ (s.bay.measChOf
      r.chan).openSince = none ∧ s.bay.sampled r.chan = true)
        (on ({ (at5 []) with measCh := [(0, { openSince := none })] })) (⟨0, 0, 0⟩)) ∧
    ((fun (s : State) => s.bay.gate F.MEAS_CTL_MAINS = none ∧ s.bay.measSt.running = false)
        (on ({ (at5 []) with measSt := { running := false } }))) ∧
    ((fun (s : State) => s.bay.gate F.MEAS_CTL_MAINS = none ∧ s.bay.measSt.running = true)
        (on ({ (at5 []) with measSt := { running := true } }))) ∧
    ((fun (s : State) => s.bay.gate F.MEAS_REF_CTL_EN0 = none ∧ s.bay.walePresent 0 = true ∧ s.bay.rd F.MEAS_REF_CTL_EN0 = 0 ∧ s.bay.rd
      F.MEAS_REF_CTL_EN1 = 0 ∧ s.bay.rd F.MEAS_REF_CTL_EN2 = 0 ∧ s.bay.rd F.MEAS_REF_CTL_EN3 = 0 ∧ s.bay.measSt.refAt.length = 4 ∧
      s.bay.measSt.refKept.getD 0 false = false)
        (on (at5 [(F.MEAS_REF_CTL_EN0, 0), (F.MEAS_REF_CTL_EN1, 0), (F.MEAS_REF_CTL_EN2, 0), (F.MEAS_REF_CTL_EN3, 0)]))) ∧
    ((fun (s : State) (n : Fin 4) (t : Nat) => s.bay.measSt.refAt.getD n none = some t ∧ t ≤ s.bay.now ∧ s.bay.flag (refRdy n) = false ∧ (∀ c ∈
      waleChans n, (s.bay.stageOf c).cswReq = false))
        (on ({ (at5 [(refRdy 0, 0)]) with measSt := { refAt := [some 0, none, none, none] } })) 0 0) :=
by refine ⟨?_, ?_, ?_, ?_, ?_, ?_, ?_, ?_, ?_⟩ <;> decide +kernel

theorem test_SelfCalibrationOvenAndMeter_inputs :
    ((fun (s : State) => s.bay.gate F.MEAS_SCAL_CTL_GO = none ∧ s.bay.walePresent 0 = true ∧ s.bay.refReady 0 = true ∧ s.bay.calibrating 0 = false ∧
      ((waleChans 0).all fun c => s.bay.rd (F.CHN_STG_STAT_STAGE c) == Stg.off) = true ∧ s.bay.measSt.scalT0.length = 4)
        (on (at5 [(F.MEAS_REF_RDY_RDY0, 1)]))) ∧
    ((fun (s : State) (n : Fin 4) (k : Fin 7) (t : Nat) => s.bay.measSt.scalT0.getD n none = some t ∧ s.bay.measSt.scalSlots.length = 4 ∧
      (s.bay.measSt.scalSlots.getD n []).length = k ∧ t + (60 + 40 * (k : Nat)) * msTicks ≤ s.bay.now)
        (on ({ (at5 []) with measSt := { scalT0 := [some 0, none, none, none] } })) 0 0 0) ∧
    ((fun (s : State) (n : Fin 4) (t : Nat) => s.bay.measSt.scalT0.getD n none = some t ∧ s.bay.measSt.scalT0.length = 4 ∧ t + 320 * msTicks ≤
      s.bay.now ∧ 7 ≤ (s.bay.measSt.scalSlots.getD n []).length ∧ (∀ c ∈ waleChans n, (s.bay.stageOf c).cswReq = false))
        (on ({ (at5 []) with measSt := { scalT0 := [some 0, none, none, none], scalSlots := [[[], [], [], [], [], [], []], [], [], []] } })) 0 0) ∧
    ((fun (s : State) (t : Nat) => s.bay.measSt.ovenSince = some t ∧ s.bay.mPresent = true ∧ s.bay.rd F.MEAS_STAT_OVEN_RDY = 0 ∧ t + 1800 * secTicks ≤
      s.bay.now)
        (on ({ (at5 [(F.MEAS_STAT_OVEN_RDY, 0)]) with measSt := { ovenSince := some 0 } })) 0) ∧
    ((fun (s : State) => s.bay.rd F.MEAS_STAT_OVEN_RDY = 1)
        (on (at5 [(F.MEAS_STAT_OVEN_RDY, 1)]))) ∧
    ((fun (s : State) => s.bay.rd F.MEAS_STAT_CERT_OK = 1 ∧ s.bay.rd F.MEAS_STAT_CERT_DUE = 0)
        (on (at5 [(F.MEAS_STAT_CERT_OK, 1), (F.MEAS_STAT_CERT_DUE, 0)]))) ∧
    ((fun (s : State) (i : Nat) => s.bay.mPresent = true ∧ s.bay.now % s.bay.precTicks = 0 ∧ s.bay.measSt.cur = none ∧ s.bay.rd F.MEAS_CTL_RUN = 1 ∧
      s.bay.seqNext 0 = some i)
        (on ({ (at5 [(F.MEAS_CTL_RUN, 1)]) with measSt := { cur := none } })) 0) ∧
    ((fun (s : State) (e : MeterEntry) => s.bay.measSt.done = some e ∧ e.kind = 0 ∧ e.t0 + 2 * s.bay.precTicks + 12500 ≤ s.bay.now)
        (on ({ (at5 []) with measSt := { done := some (⟨0, 0, 64, 0, 0, 0, false, false⟩) } })) (⟨0, 0, 64, 0, 0, 0, false, false⟩)) ∧
    ((fun (s : State) (m : Int) (e : MeterEntry) => s.bay.measSt.done = some e ∧ e.kind = 3 ∧ e.input = 64 ∧ m.natAbs ≤ 20 ∧ e.sweep = s.bay.rd
      F.MEAS_STAT_SWEEP ∧ e.t0 + 2 * s.bay.precTicks + 12500 ≤ s.bay.now)
        (on ({ (at5 []) with measSt := { done := some (⟨0, 3, 64, 0, 0, 0, false, false⟩) } })) 3 (⟨0, 3, 64, 0, 0, 0, false, false⟩)) :=
by refine ⟨?_, ?_, ?_, ?_, ?_, ?_, ?_, ?_, ?_⟩ <;> decide +kernel

theorem test_ImpedanceSweeps_inputs :
    ((fun (s : State) (c : Fin 64) (fl : Int) (sp : Int) (rm : Int) (pts : List SweepPt) (p : SweepPt) => s.bay.flag (F.EISCH_STAT_RUN c) = true ∧
      (s.bay.sweepOf c).phase = .waiting ∧ (s.bay.sweepOf c).measured (s.bay.rdN (F.EISCH_STAT_POINT c)) = false ∧ s.bay.now % specTicks = 0 ∧
      s.bay.sweepTable (s.bay.sweepOf c).table = some (fl, sp, rm, pts) ∧ pts[s.bay.rdN (F.EISCH_STAT_POINT c)]? = some p ∧ 0 < ceilDiv
      (p.settle.toNat * windowLen p.measure (s.bay.askedFreq fl p).1) p.measure.toNat)
        (on ({ (at5 [(F.EISCH_STAT_RUN 0, 1)]) with images := [⟨0, 5, 1, 0, 0, 0, .sweep 0 0 0 [{ freq := 1000000, measure := 1, settle := 1 }]⟩], sweep := [(0, { phase := .waiting })] })) 0 0 0 0 ([{ freq := 1000000, measure := 1, settle := 1 }]) ({ freq := 1000000, measure := 1, settle := 1 })) ∧
    ((fun (s : State) (c : Fin 64) => s.bay.gate F.EIS_HCMD_GO = none ∧ s.bay.hmasked = [c.val] ∧ s.bay.engRuns c = false ∧ s.bay.walePresent (waleOf
      c) = true)
        (on (at5 [(F.EIS_HMASK, 1)])) 0) ∧
    ((fun (s : State) (c : Fin 64) => s.bay.gate F.EIS_HCMD_GO = none ∧ s.bay.hmasked = [c.val] ∧ s.bay.engRuns c = true ∧ s.bay.walePresent (waleOf
      c) = true)
        (on (at5 [(F.EIS_HMASK, 1), (F.ENG_STAT_STATE 0, 1)])) 0) ∧
    ((fun (s : State) (c : Fin 64) (r : SweepReq) => s.bay.gate F.EIS_HCMD_ABORT = none ∧ s.bay.hmasked = [c.val] ∧ s.bay.walePresent (waleOf c) =
      true ∧ s.bay.rd (F.EISCH_STAT_RUN c) = 0 ∧ (s.bay.sweepOf c).req = some r ∧ r.host = true)
        (on ({ (at5 [(F.EIS_HMASK, 1), (F.EISCH_STAT_RUN 0, 0)]) with sweep := [(0, { req := some (⟨0, 1000000000000, true⟩) })] })) 0 (⟨0, 1000000000000, true⟩)) ∧
    ((fun (s : State) (c : Fin 64) (r : SweepReq) => s.bay.now % sweepEdgeTicks = 0 ∧ (s.bay.sweepOf c).req = some r ∧ r.edge ≤ s.bay.now ∧ s.bay.flag
      (F.EISCH_STAT_RUN c) = false ∧ s.bay.sweepRefused c r = none ∧ (∀ c' ∈ allChans, c' ≠ c.val → (s.bay.sweepOf c').req = none))
        (on ({ (at5 [(F.EISCH_STAT_RUN 0, 0), (F.EIS_CTL_EN, 1), (F.CHN_REG_STAT_BORDER_OK 0, 1)]) with images := [⟨5, 5, 1, 0, 0, 0, .sweep 0 0 0 [{}]⟩], sweep := [(0, { req := some (⟨5, 1000000000000, false⟩) })], border := [(0, { flags := 3 })] })) 0 (⟨5, 1000000000000, false⟩)) ∧
    ((fun (s : State) (c : Fin 64) (r : SweepReq) (e : Int) => s.bay.now % sweepEdgeTicks = 0 ∧ (s.bay.sweepOf c).req = some r ∧ r.edge ≤ s.bay.now ∧
      s.bay.flag (F.EISCH_STAT_RUN c) = false ∧ s.bay.sweepRefused c r = some e ∧ (∀ c' ∈ allChans, c' ≠ c.val → (s.bay.sweepOf c').req = none))
        (on ({ (at5 [(F.EISCH_STAT_RUN 0, 0), (F.EIS_CTL_EN, 0)]) with sweep := [(0, { req := some (⟨5, 1000000000000, false⟩) })] })) 0 (⟨5, 1000000000000, false⟩) 4) ∧
    ((fun (s : State) (r : Reading) => s.bay.now % specTicks = 0 ∧ s.bay.sampled r.chan = true ∧ s.bay.flag (F.EISCH_STAT_RUN r.chan) = true ∧
      (s.bay.sweepOf r.chan).phase = .window ∧ (s.bay.sweepOf r.chan).openAt < s.bay.now ∧ (s.bay.sweepOf r.chan).settleN ≤ (s.bay.sweepOf r.chan).k)
        (on ({ (at5 [(F.EISCH_STAT_RUN 0, 1)]) with sweep := [(0, { phase := .window })] })) (⟨0, 0, 0⟩)) ∧
    ((fun (s : State) (c : Fin 64) => s.bay.flag (F.EISCH_STAT_RUN c) = true ∧ (s.bay.sweepOf c).phase = .settle ∧ ceilDiv (((s.bay.sweepOf
      c).settlePer + 1) * (s.bay.sweepOf c).l) (s.bay.sweepOf c).m ≤ (s.bay.sweepOf c).k ∧ ceilDiv (((s.bay.sweepOf c).settlePer + 1) * (s.bay.sweepOf
      c).l) (s.bay.sweepOf c).m ≤ (s.bay.sweepOf c).settleN)
        (on ({ (at5 [(F.EISCH_STAT_RUN 0, 1)]) with sweep := [(0, { phase := .settle, k := 1, settleN := 1 })] })) 0) ∧
    ((fun (s : State) (c : Fin 64) (fl : Int) (sp : Int) (rm : Int) (pts : List SweepPt) => s.bay.flag (F.EISCH_STAT_RUN c) = true ∧ (s.bay.sweepOf
      c).full = true ∧ s.bay.now % specTicks = 0 ∧ s.bay.sweepTable (s.bay.sweepOf c).table = some (fl, sp, rm, pts) ∧ s.bay.rdN (F.EISCH_STAT_POINT
      c) + 1 < pts.length)
        (on ({ (at5 [(F.EISCH_STAT_RUN 0, 1)]) with images := [⟨0, 5, 1, 0, 0, 0, .sweep 0 0 0 [{}, {}]⟩], sweep := [(0, { phase := .window, k := 1 })] })) 0 0 0 0 ([{}, {}])) ∧
    ((fun (s : State) (c : Fin 64) (w : Window) (later : List Window) (fl : Int) (sp : Int) (rm : Int) (pts : List SweepPt) => (s.bay.sweepOf
      c).closed = w :: later ∧ w.closeT + 248700 ≤ s.bay.now ∧ s.bay.sweepTable (s.bay.sweepOf c).table = some (fl, sp, rm, pts) ∧ pts.length ≤ w.idx
      + 1 ∧ s.bay.flag (F.EISCH_STAT_RUN c) = true)
        (on ({ (at5 [(F.EISCH_STAT_RUN 0, 1)]) with images := [⟨0, 5, 1, 0, 0, 0, .sweep 0 0 0 [{}]⟩], sweep := [(0, { closed := [⟨0, 0, 3, 1, 1, 0, 0, [], []⟩] })] })) 0 (⟨0, 0, 3, 1, 1, 0, 0, [], []⟩) ([]) 0 0 0 ([{}])) ∧
    ((fun (s : State) (c : Fin 64) (w : Window) (later : List Window) (fl : Int) (sp : Int) (rm : Int) (pts : List SweepPt) => (s.bay.sweepOf
      c).closed = w :: later ∧ w.closeT + 248700 ≤ s.bay.now ∧ s.bay.sweepTable (s.bay.sweepOf c).table = some (fl, sp, rm, pts) ∧ w.idx + 1 <
      pts.length)
        (on ({ (at5 []) with images := [⟨0, 5, 1, 0, 0, 0, .sweep 0 0 0 [{}, {}]⟩], sweep := [(0, { closed := [⟨0, 0, 3, 1, 1, 0, 0, [], []⟩] })] })) 0 (⟨0, 0, 3, 1, 1, 0, 0, [], []⟩) ([]) 0 0 0 ([{}, {}])) ∧
    ((fun (s : State) (c : Fin 64) (w : VecDue) (later : List VecDue) (fl : Int) (sp : Int) (rm : Int) (pts : List SweepPt) => (s.bay.sweepOf
      c).vecDue = w :: later ∧ w.post + 100 * msTicks ≤ s.bay.now ∧ s.bay.sweepTable w.table = some (fl, sp, rm, pts) ∧ bitOf fl 1 = true)
        (on ({ (at5 []) with images := [⟨0, 5, 1, 0, 0, 0, .sweep 2 0 0 [{}]⟩], sweep := [(0, { vecDue := [⟨0, 0, 0, 0, 0, 0, false, []⟩] })] })) 0 (⟨0, 0, 0, 0, 0, 0, false, []⟩) ([]) 2 0 0 ([{}])) :=
by refine ⟨?_, ?_, ?_, ?_, ?_, ?_, ?_, ?_, ?_, ?_, ?_, ?_⟩ <;> decide +kernel

theorem test_EngineCommands_inputs :
    ((fun (s : State) (c : Fin 64) => s.bay.gate (F.ENG_CTL_START c) = none ∧ s.bay.engState c = Es.stopped ∧ s.bay.startRefusal c = 0)
        (on ({ (at5 [(F.ENG_STAT_STATE 0, Es.stopped), (F.ENG_IMAGE 0, 1), (F.CHN_REG_STAT_BORDER_OK 0, 1)]) with images := [prog [0]] })) 0) ∧
    ((fun (s : State) (c : Fin 64) => s.bay.gate (F.ENG_CTL_START c) = none ∧ s.bay.engState c = Es.stopped ∧ s.bay.startRefusal c ≠ 0)
        (on (at5 [(F.ENG_STAT_STATE 0, Es.stopped)])) 0) ∧
    ((fun (s : State) (c : Fin 64) => s.bay.gate (F.ENG_CTL_STOP c) = none ∧ s.bay.engState c = Es.running)
        (on (at5 [(F.ENG_STAT_STATE 0, Es.running)])) 0) ∧
    ((fun (s : State) (c : Fin 64) => s.bay.gate (F.ENG_CTL_STOP c) = none ∧ s.bay.engState c = Es.stopped)
        (on (at5 [(F.ENG_STAT_STATE 0, Es.stopped)])) 0) ∧
    ((fun (s : State) (c : Fin 64) => s.bay.gate (F.ENG_CTL_PAUSE c) = none ∧ s.bay.mode ≠ Mode.hold ∧ s.bay.engState c = Es.running)
        (on (at5 [(F.ENG_STAT_STATE 0, Es.running)])) 0) ∧
    ((fun (s : State) (c : Fin 64) => s.bay.gate (F.ENG_CTL_PAUSE c) = none ∧ s.bay.mode = Mode.hold)
        (on (at5 [(F.BAY_STAT_MODE, Mode.hold)])) 0) ∧
    ((fun (s : State) (c : Fin 64) => s.bay.gate (F.ENG_CTL_RESUME c) = none ∧ s.bay.mode ≠ Mode.hold ∧ s.bay.engState c = Es.paused)
        (on (at5 [(F.ENG_STAT_STATE 0, Es.paused)])) 0) ∧
    ((fun (s : State) (c : Fin 64) => s.bay.gate (F.ENG_CTL_RELEASE c) = none ∧ s.bay.engState c = Es.frozen ∧ s.bay.flag (F.ENG_STAT_CLR_ARMED c) =
      true)
        (on (at5 [(F.ENG_STAT_STATE 0, Es.frozen), (F.ENG_STAT_CLR_ARMED 0, 1)])) 0) ∧
    ((fun (s : State) (c : Fin 64) => s.bay.gate (F.ENG_CTL_RELEASE c) = none ∧ s.bay.engState c = Es.frozen ∧ s.bay.flag (F.ENG_STAT_CLR_ARMED c) =
      false)
        (on (at5 [(F.ENG_STAT_STATE 0, Es.frozen), (F.ENG_STAT_CLR_ARMED 0, 0)])) 0) ∧
    ((fun (s : State) (c : Fin 64) => s.bay.gate (F.ENG_CTL_HSIG c) = none)
        (on (at5 [])) 0) ∧
    ((fun (s : State) (c : Fin 64) => s.bay.rd (F.ENG_STAT_STATE c) = Es.frozen)
        (on (at5 [(F.ENG_STAT_STATE 0, Es.frozen)])) 0) :=
by refine ⟨?_, ?_, ?_, ?_, ?_, ?_, ?_, ?_, ?_, ?_, ?_⟩ <;> decide +kernel

theorem test_GroupCommandsAndReleases_inputs :
    ((fun (s : State) (c : Fin 64) => s.bay.gate F.SKN_SCMD_START = none ∧ s.bay.maskedEngines = [c.val] ∧ s.bay.walePresent (waleOf c) = true ∧
      s.bay.engState c = Es.stopped ∧ s.bay.startRefusal c = 0)
        (on ({ (at5 [(F.SKN_MASK, 1), (F.ENG_STAT_STATE 0, Es.stopped), (F.ENG_IMAGE 0, 1), (F.CHN_REG_STAT_BORDER_OK 0, 1)]) with images := [prog [0]] })) 0) ∧
    ((fun (s : State) (c : Fin 64) => s.bay.gate F.SKN_SCMD_STOP = none ∧ s.bay.maskedEngines = [c.val] ∧ s.bay.walePresent (waleOf c) = true ∧
      s.bay.engState c = Es.running)
        (on (at5 [(F.SKN_MASK, 1), (F.ENG_STAT_STATE 0, Es.running)])) 0) ∧
    ((fun (s : State) (c : Fin 64) => s.bay.gate F.SKN_SCMD_PAUSE = none ∧ s.bay.maskedEngines = [c.val] ∧ s.bay.walePresent (waleOf c) = true ∧
      s.bay.mode ≠ Mode.hold ∧ s.bay.engState c = Es.running)
        (on (at5 [(F.SKN_MASK, 1), (F.ENG_STAT_STATE 0, Es.running)])) 0) ∧
    ((fun (s : State) (c : Fin 64) => s.bay.gate F.SKN_SCMD_RESUME = none ∧ s.bay.maskedEngines = [c.val] ∧ s.bay.walePresent (waleOf c) = true ∧
      s.bay.mode ≠ Mode.hold ∧ s.bay.engState c = Es.paused)
        (on (at5 [(F.SKN_MASK, 1), (F.ENG_STAT_STATE 0, Es.paused)])) 0) ∧
    ((fun (s : State) (c : Fin 64) (e : List Int) (code : List Nat) (k : List Nat) (r : List Int) => s.bay.engState c = Es.starting ∧ (s.bay.engOf
      c).startAt ≤ s.bay.now ∧ s.bay.programOf (s.bay.engOf c).image = some (e, code, k, r))
        (on ({ (at5 [(F.ENG_STAT_STATE 0, Es.starting)]) with images := [prog [0]], eng := [(0, { image := 1 })] })) 0 ([0]) ([0]) ([]) ([])) ∧
    ((fun (s : State) (g : Fin 16) (t : Nat) => (s.bay.groupOf g).releaseAt = some t ∧ t ≤ s.bay.now ∧ s.bay.now % frameTicks = 0)
        (on ({ (at5 []) with groups := [(0, { releaseAt := some 0 })] })) 0 0) ∧
    ((fun (s : State) (g : Fin 16) => 0 < s.bay.rdN (F.GRP_TMO g) ∧ (s.bay.groupOf g).arrived ≠ [] ∧ (s.bay.groupOf g).releaseAt = none ∧
      (s.bay.groupOf g).breakAt = none ∧ (s.bay.groupOf g).firstAt + s.bay.rdN (F.GRP_TMO g) * msTicks ≤ s.bay.now)
        (on ({ (at5 [(F.GRP_TMO 0, 1)]) with groups := [(0, { releaseAt := none, breakAt := none, arrived := [(0, 0)] })] })) 0) ∧
    ((fun (s : State) (g : Fin 16) => s.bay.gate (F.GRP_CTL_ABORT g) = none ∧ (s.bay.groupOf g).releaseAt = none ∧ (s.bay.groupOf g).breakAt = none)
        (on ({ (at5 []) with groups := [(0, { releaseAt := none, breakAt := none })] })) 0) ∧
    ((fun (s : State) (g : Fin 16) (t : Nat) (m : Bool) => (s.bay.groupOf g).breakAt = some (t, m) ∧ t ≤ s.bay.now ∧ s.bay.now % frameTicks = 0)
        (on ({ (at5 []) with groups := [(0, { breakAt := some (0, false) })] })) 0 0 false) ∧
    ((fun (s : State) (g : Fin 16) (gen : BitVec 16) (cnt : BitVec 13) => (gen.toNat : Int) = s.bay.rd (F.GRP_STAT_GEN g) ∧ (cnt.toNat : Int) ≠
      s.bay.rd (F.GRP_CNT g) ∧ (s.bay.groupOf g).releaseAt = none ∧ (s.bay.groupOf g).breakAt = none)
        (on ({ (at5 []) with groups := [(0, { releaseAt := none, breakAt := none })] })) 0 0 0) ∧
    ((fun (s : State) (g : Fin 16) (gen : BitVec 16) (st : Nat) (ch : Nat) (cnt : BitVec 13) => (gen.toNat : Int) = s.bay.rd (F.GRP_STAT_GEN g) ∧
      (cnt.toNat : Int) = s.bay.rd (F.GRP_CNT g) ∧ (s.bay.groupOf g).releaseAt = none ∧ (st, ch) ∉ (s.bay.groupOf g).arrived ∧ (s.bay.groupOf
      g).arrived.length + 1 < s.bay.rd (F.GRP_CNT g))
        (on ({ (at5 [(F.GRP_CNT 0, 2)]) with groups := [(0, { releaseAt := none })] })) 0 0 0 0 2) ∧
    ((fun (s : State) (g : Fin 16) (gen : BitVec 16) => (gen.toNat : Int) = s.bay.rd (F.GRP_STAT_GEN g) ∧ (s.bay.groupOf g).releaseAt = none ∧
      (s.bay.groupOf g).breakAt = none)
        (on ({ (at5 []) with groups := [(0, { releaseAt := none, breakAt := none })] })) 0 0) :=
by refine ⟨?_, ?_, ?_, ?_, ?_, ?_, ?_, ?_, ?_, ?_, ?_, ?_⟩ <;> decide +kernel

theorem test_SkeinControlDataAndArithmetic_inputs :
    ((fun (s : State) (c : Fin 64) (w : Nat) => runsOn s c 0x00 w)
        (on ({ (at5 [(F.ENG_STAT_STATE 0, 1)]) with images := [prog [8650752, 7, 8, 9] [3, 4]], eng := [(0, { image := 1 })] })) 0 8650752) ∧
    ((fun (s : State) (c : Fin 64) (w : Nat) => runsOn s c 0x01 w)
        (on ({ (at5 [(F.ENG_STAT_STATE 0, 1)]) with images := [prog [75759616, 7, 8, 9] [3, 4]], eng := [(0, { image := 1 })] })) 0 75759616) ∧
    ((fun (s : State) (c : Fin 64) (w : Nat) => runsOn s c 0x02 w)
        (on ({ (at5 [(F.ENG_STAT_STATE 0, 1)]) with images := [prog [142868480, 7, 8, 9] [3, 4]], eng := [(0, { image := 1 })] })) 0 142868480) ∧
    ((fun (s : State) (c : Fin 64) (w : Nat) => runsOn s c 0x03 w)
        (on ({ (at5 [(F.ENG_STAT_STATE 0, 1)]) with images := [prog [209977344, 7, 8, 9] [3, 4]], eng := [(0, { image := 1 })] })) 0 209977344) ∧
    ((fun (s : State) (c : Fin 64) (w : Nat) => runsOn s c 0x04 w ∧ sOf w ≤ 9)
        (on ({ (at5 [(F.ENG_STAT_STATE 0, 1)]) with images := [prog [277086208, 7, 8, 9] [3, 4]], eng := [(0, { image := 1 })] })) 0 277086208) ∧
    ((fun (s : State) (c : Fin 64) (w : Nat) => runsOn s c 0x04 w ∧ 9 < sOf w)
        (on ({ (at5 [(F.ENG_STAT_STATE 0, 1)]) with images := [prog [(wd 0x04 2 10 1), 7, 8, 9] [3, 4]], eng := [(0, { image := 1 })] })) 0 (wd 0x04 2 10 1)) ∧
    ((fun (s : State) (c : Fin 64) (w : Nat) (v : Nat) => runsOn2 s c 0x05 w (s.bay.rdN (F.ENG_PC c) + 1) 2 ∧ (s.bay.codeOf c)[s.bay.rdN (F.ENG_PC c)
      + 1]? = some v)
        (on ({ (at5 [(F.ENG_STAT_STATE 0, 1)]) with images := [prog [344195072, 7, 8, 9] [3, 4]], eng := [(0, { image := 1, part := 1 })] })) 0 344195072 7) ∧
    ((fun (s : State) (c : Fin 64) (w : Nat) => runsOn s c 0x07 w)
        (on ({ (at5 [(F.ENG_STAT_STATE 0, 1)]) with images := [prog [478412800, 7, 8, 9] [3, 4]], eng := [(0, { image := 1 })] })) 0 478412800) ∧
    ((fun (s : State) (c : Fin 64) (w : Nat) => runsOn s c 0x08 w)
        (on ({ (at5 [(F.ENG_STAT_STATE 0, 1)]) with images := [prog [545521664, 7, 8, 9] [3, 4]], eng := [(0, { image := 1 })] })) 0 545521664) ∧
    ((fun (s : State) (c : Fin 64) (w : Nat) => runsOn s c 0x09 w ∧ field w 0 4 ≤ 9)
        (on ({ (at5 [(F.ENG_STAT_STATE 0, 1)]) with images := [prog [612630528, 7, 8, 9] [3, 4]], eng := [(0, { image := 1 })] })) 0 612630528) ∧
    ((fun (s : State) (c : Fin 64) (w : Nat) => runsOn s c 0x0A w ∧ field w 0 4 ≤ 9 ∧ s.bay.k c (sOf w) ≠ 0)
        (on ({ (at5 [(F.ENG_STAT_STATE 0, 1), (kKey 0 1, 3), (kKey 0 2, 100)]) with images := [prog [679739392, 7, 8, 9] [3, 4]], eng := [(0, { image := 1, part := 2 })] })) 0 679739392) ∧
    ((fun (s : State) (c : Fin 64) (w : Nat) => runsOn s c 0x0A w ∧ field w 0 4 ≤ 9 ∧ s.bay.k c (sOf w) = 0 ∧ 0 < s.bay.k c (dOf w))
        (on ({ (at5 [(F.ENG_STAT_STATE 0, 1), (kKey 0 2, 100)]) with images := [prog [679739392, 7, 8, 9] [3, 4]], eng := [(0, { image := 1, part := 2 })] })) 0 679739392) ∧
    ((fun (s : State) (c : Fin 64) (w : Nat) => runsOn s c 0x0B w)
        (on ({ (at5 [(F.ENG_STAT_STATE 0, 1)]) with images := [prog [746848256, 7, 8, 9] [3, 4]], eng := [(0, { image := 1 })] })) 0 746848256) ∧
    ((fun (s : State) (c : Fin 64) (w : Nat) => runsOn s c 0x0C w)
        (on ({ (at5 [(F.ENG_STAT_STATE 0, 1)]) with images := [prog [813957120, 7, 8, 9] [3, 4]], eng := [(0, { image := 1 })] })) 0 813957120) ∧
    ((fun (s : State) (c : Fin 64) (w : Nat) => runsOn s c 0x0D w)
        (on ({ (at5 [(F.ENG_STAT_STATE 0, 1)]) with images := [prog [881065984, 7, 8, 9] [3, 4]], eng := [(0, { image := 1 })] })) 0 881065984) ∧
    ((fun (s : State) (c : Fin 64) (w : Nat) => runsOn s c 0x0E w)
        (on ({ (at5 [(F.ENG_STAT_STATE 0, 1)]) with images := [prog [948174848, 7, 8, 9] [3, 4]], eng := [(0, { image := 1 })] })) 0 948174848) ∧
    ((fun (s : State) (c : Fin 64) (w : Nat) => runsOn s c 0x0F w ∧ sOf w ≤ 9)
        (on ({ (at5 [(F.ENG_STAT_STATE 0, 1)]) with images := [prog [1015283712, 7, 8, 9] [3, 4]], eng := [(0, { image := 1 })] })) 0 1015283712) ∧
    ((fun (s : State) (c : Fin 64) (w : Nat) => s.bay.engState c = Es.running ∧ EngCmd.end_ ∉ (s.bay.engOf c).cmds ∧ s.bay.fetch c = some w ∧ 0x2D ≤
      opOf w ∧ s.engRead c (s.bay.rdN (F.ENG_PC c)) 2 = (s, false))
        (on ({ (at5 [(F.ENG_STAT_STATE 0, Es.running)]) with images := [prog [wd 0x2D 0 0 0]], eng := [(0, { image := 1 })] })) 0 (wd 0x2D 0 0 0)) ∧
    ((fun (s : State) (c : Fin 64) (w : Nat) => startsOn s c 0x05 w)
        (on ({ (at5 [(F.ENG_STAT_STATE 0, 1)]) with images := [prog [344195072, 7, 8, 9] [3, 4]], eng := [(0, { image := 1 })] })) 0 344195072) ∧
    ((fun (s : State) (c : Fin 64) (w : Nat) => startsOn s c 0x0A w)
        (on ({ (at5 [(F.ENG_STAT_STATE 0, 1)]) with images := [prog [679739392, 7, 8, 9] [3, 4]], eng := [(0, { image := 1 })] })) 0 679739392) :=
  by refine ⟨?_, ?_, ?_, ?_, ?_, ?_, ?_, ?_, ?_, ?_, ?_, ?_, ?_, ?_, ?_, ?_, ?_, ?_, ?_, ?_⟩ <;>
    first
    | decide +kernel
    | (unfold runsOn; decide +kernel)
    | (unfold startsOn; decide +kernel)
    | (unfold runsOn2 runsOn; decide +kernel)

theorem test_SkeinChannelCommandsAndWaits_inputs :
    ((fun (s : State) (c : Fin 64) (w : Nat) => runsOn s c 0x14 w ∧ field w 0 2 = 0 ∧ s.bay.tested c (fun d => d.failCurrent (s.bay.k c (dOf w))) =
      none ∧ s.bay.directRuns c = false)
        (on ({ (at5 [(F.ENG_STAT_STATE 0, 1), (F.CHN_REG_STAT_BORDER_OK 0, 1), (kKey 0 2, 100)]) with images := [prog [1350828032, 7, 8, 9] [3, 4]], eng := [(0, { image := 1 })], border := [(0, { flags := 3, iChg := 1000, iDis := 1000 })] })) 0 1350828032) ∧
    ((fun (s : State) (c : Fin 64) (w : Nat) => runsOn s c 0x14 w ∧ field w 0 2 = 1 ∧ s.bay.tested c (fun d => d.failMagnitude (s.bay.k c (dOf w))) =
      none ∧ s.bay.directRuns c = false)
        (on ({ (at5 [(F.ENG_STAT_STATE 0, 1), (F.CHN_REG_STAT_BORDER_OK 0, 1), (kKey 0 2, 100)]) with images := [prog [(wd 0x14 2 0 1), 7, 8, 9] [3, 4]], eng := [(0, { image := 1 })], border := [(0, { flags := 3, iChg := 1000, iDis := 1000 })] })) 0 (wd 0x14 2 0 1)) ∧
    ((fun (s : State) (c : Fin 64) (w : Nat) (off : Nat) => runsOn s c 0x14 w ∧ field w 0 2 = 0 ∧ s.bay.tested c (fun d => d.failCurrent (s.bay.k c
      (dOf w))) = some off)
        (on ({ (at5 [(F.ENG_STAT_STATE 0, 1)]) with images := [prog [1350828032, 7, 8, 9] [3, 4]], eng := [(0, { image := 1 })] })) 0 1350828032 65535) ∧
    ((fun (s : State) (c : Fin 64) (w : Nat) => runsOn s c 0x15 w ∧ s.bay.tested c (fun d => d.failVolt (s.bay.k c (dOf w))) = none ∧ s.bay.directRuns
      c = false)
        (on ({ (at5 [(F.ENG_STAT_STATE 0, 1), (F.CHN_REG_STAT_BORDER_OK 0, 1), (kKey 0 2, 3000000)]) with images := [prog [1417936896, 7, 8, 9] [3, 4]], eng := [(0, { image := 1 })], border := [(0, { vMax := 4200000, vMin := 2500000 })] })) 0 1417936896) ∧
    ((fun (s : State) (c : Fin 64) (w : Nat) => runsOn s c 0x16 w ∧ s.bay.directRuns c = false)
        (on ({ (at5 [(F.ENG_STAT_STATE 0, 1)]) with images := [prog [1485045760, 7, 8, 9] [3, 4]], eng := [(0, { image := 1 })] })) 0 1485045760) ∧
    ((fun (s : State) (c : Fin 64) (w : Nat) => runsOn s c 0x17 w ∧ field w 0 4 < 8 ∧ (s.bay.engOf c).legacyArm = none ∧ s.bay.failStep c
      ((s.bay.engOf c).overlay.params (field w 0 4) false) = none)
        (on ({ (at5 [(F.ENG_STAT_STATE 0, 1)]) with images := [prog [1552154624, 7, 8, 9] [3, 4]], eng := [(0, { image := 1, legacyArm := none })] })) 0 1552154624) ∧
    ((fun (s : State) (c : Fin 64) (w : Nat) => runsOn s c 0x18 w ∧ (s.bay.rampMode c).1 ≤ 1)
        (on ({ (at5 [(F.ENG_STAT_STATE 0, 1)]) with images := [prog [1619263488, 7, 8, 9] [3, 4]], eng := [(0, { image := 1 })] })) 0 1619263488) ∧
    ((fun (s : State) (c : Fin 64) (w : Nat) => runsOn s c 0x18 w ∧ s.bay.rampMode c = (2, true) ∧ s.bay.tested c (fun d => d.failCurrent (s.bay.k c
      (dOf w))) = none ∧ s.bay.testAgain c { (s.bay.engOf c).overlay with iSet := s.bay.k c (dOf w) } = none)
        (on ({ (at5 [(F.ENG_STAT_STATE 0, 1), (F.CHN_REG_STAT_BORDER_OK 0, 1)]) with images := [prog [1619263488, 7, 8, 9] [3, 4]], eng := [(0, { image := 1, cmds := [.mode 2 none] })] })) 0 1619263488) ∧
    ((fun (s : State) (c : Fin 64) (w : Nat) => runsOn s c 0x19 w ∧ s.bay.tested c (fun d => d.failMagnitude (s.bay.k c (dOf w))) = none ∧
      s.bay.directRuns c = false)
        (on ({ (at5 [(F.ENG_STAT_STATE 0, 1), (F.CHN_REG_STAT_BORDER_OK 0, 1), (kKey 0 2, 100)]) with images := [prog [1686372352, 7, 8, 9] [3, 4]], eng := [(0, { image := 1 })], border := [(0, { flags := 3, iChg := 1000, iDis := 1000 })] })) 0 1686372352) ∧
    ((fun (s : State) (c : Fin 64) (w : Nat) => runsOn s c 0x1A w ∧ s.bay.k c (dOf w) = 0)
        (on ({ (at5 [(F.ENG_STAT_STATE 0, 1)]) with images := [prog [1753481216, 7, 8, 9] [3, 4]], eng := [(0, { image := 1 })] })) 0 1753481216) ∧
    ((fun (s : State) (c : Fin 64) (w : Nat) (v : Bool) => runsOn s c 0x1B w ∧ s.bay.condition c (dOf w) = some v)
        (on ({ (at5 [(F.ENG_STAT_STATE 0, 1)]) with images := [prog [1820590080, 7, 8, 9] [3, 4]], eng := [(0, { image := 1 })] })) 0 1820590080 false) ∧
    ((fun (s : State) (c : Fin 64) (w : Nat) (v : Bool) => runsOn s c 0x1C w ∧ s.bay.condition c (dOf w) = some v)
        (on ({ (at5 [(F.ENG_STAT_STATE 0, 1)]) with images := [prog [1887698944, 7, 8, 9] [3, 4]], eng := [(0, { image := 1 })] })) 0 1887698944 false) ∧
    ((fun (s : State) (c : Fin 64) (n : Int) => s.bay.engState c = Es.waiting ∧ (s.bay.engOf c).wait = .timed 12 n ∧ n ≤ 1 ∧ s.bay.now % msTicks = 0)
        (on ({ (at5 [(F.ENG_STAT_STATE 0, Es.waiting)]) with eng := [(0, { wait := .timed 12 0 })] })) 0 0) :=
  by refine ⟨?_, ?_, ?_, ?_, ?_, ?_, ?_, ?_, ?_, ?_, ?_, ?_, ?_⟩ <;>
    first
    | decide +kernel
    | (unfold runsOn; decide +kernel)

theorem test_SkeinReadsAndTables_inputs :
    ((fun (s : State) (c : Fin 64) (w : Nat) => runsOn s c 0x1D w ∧ field w 0 8 < 16)
        (on ({ (at5 [(F.ENG_STAT_STATE 0, 1)]) with images := [prog [1954807808, 7, 8, 9] [3, 4]], eng := [(0, { image := 1 })] })) 0 1954807808) ∧
    ((fun (s : State) (c : Fin 64) (w : Nat) => runsOn s c 0x1D w ∧ field w 0 8 = 24)
        (on ({ (at5 [(F.ENG_STAT_STATE 0, 1)]) with images := [prog [(wd 0x1D 2 0 24), 7, 8, 9] [3, 4]], eng := [(0, { image := 1 })] })) 0 (wd 0x1D 2 0 24)) ∧
    ((fun (s : State) (c : Fin 64) (w : Nat) => runsOn s c 0x1D w ∧ 31 ≤ field w 0 8)
        (on ({ (at5 [(F.ENG_STAT_STATE 0, 1)]) with images := [prog [(wd 0x1D 2 0 31), 7, 8, 9] [3, 4]], eng := [(0, { image := 1 })] })) 0 (wd 0x1D 2 0 31)) ∧
    ((fun (s : State) (c : Fin 64) (w : Nat) => runsOn s c 0x1E w)
        (on ({ (at5 [(F.ENG_STAT_STATE 0, 1)]) with images := [prog [2021916672, 7, 8, 9] [3, 4]], eng := [(0, { image := 1 })] })) 0 2021916672) ∧
    ((fun (s : State) (c : Fin 64) (w : Nat) => runsOn s c 0x1F w ∧ field w 0 3 < 6)
        (on ({ (at5 [(F.ENG_STAT_STATE 0, 1)]) with images := [prog [2089025536, 7, 8, 9] [3, 4]], eng := [(0, { image := 1 })] })) 0 2089025536) ∧
    ((fun (s : State) (c : Fin 64) (w : Nat) (m : Image) => runsOn s c 0x20 w ∧ s.bay.refOf c (field w 0 6) 2 = some m)
        (on ({ (at5 [(F.ENG_STAT_STATE 0, 1)]) with images := [⟨1, 1, 1, 0, 0, 0, .program [0] [wd 0x20 0 0 0] [] [5]⟩, ⟨5, 2, 1, 0, 0, 0, .zoned {}⟩], eng := [(0, { image := 1 })] })) 0 (wd 0x20 0 0 0) (⟨5, 2, 1, 0, 0, 0, .zoned {}⟩)) ∧
    ((fun (s : State) (c : Fin 64) (w : Nat) => runsOn s c 0x20 w ∧ s.bay.refOf c (field w 0 6) 2 = none)
        (on ({ (at5 [(F.ENG_STAT_STATE 0, 1)]) with images := [prog [2156134400, 7, 8, 9] [3, 4]], eng := [(0, { image := 1 })] })) 0 2156134400) ∧
    ((fun (s : State) (c : Fin 64) (w : Nat) (id : Int) (t : Zoned) => runsOn s c 0x21 w ∧ (immOf w).testBit 4 = false ∧ (s.bay.engOf c).bound = some
      id ∧ s.bay.zonedOf id = some t ∧ field w 0 4 < t.nstep ∧ s.bay.failStep c (t.entry (s.bay.zoneFor c id t) (field w 0 4)) = none)
        (on ({ (at5 [(F.ENG_STAT_STATE 0, 1)]) with images := [⟨1, 1, 1, 0, 0, 0, .program [0] [wd 0x21 0 0 0] [] [5]⟩, ⟨5, 2, 1, 0, 0, 0, .zoned {}⟩], eng := [(0, { image := 1, bound := some 5, part := 1 })] })) 0 (wd 0x21 0 0 0) 5 ({})) ∧
    ((fun (s : State) (c : Fin 64) (w : Nat) (id : Int) (k : Nat) (sz : Nat) (v : Int) (a : Int) (sc : Int) (pts : List (Int × Int)) => runsOn s c
      0x22 w ∧ s.bay.refOf c (field w 0 6) 4 = some ⟨id, k, v, a, sc, sz, .curve pts⟩)
        (on ({ (at5 [(F.ENG_STAT_STATE 0, 1)]) with images := [⟨1, 1, 1, 0, 0, 0, .program [0] [wd 0x22 0 0 0] [] [5]⟩, ⟨5, 4, 1, 0, 0, 0, .curve [(0, 0)]⟩], eng := [(0, { image := 1, part := 1 })] })) 0 (wd 0x22 0 0 0) 5 4 0 1 0 0 ([(0, 0)])) ∧
    ((fun (s : State) (c : Fin 64) (w : Nat) => runsOn s c 0x23 w ∧ 4 ≤ field w 0 7 ∧ field w 0 7 ≤ 64)
        (on ({ (at5 [(F.ENG_STAT_STATE 0, 1)]) with images := [prog [(wd 0x23 0 0 20), 7, 8, 9] [3, 4]], eng := [(0, { image := 1 })] })) 0 (wd 0x23 0 0 20)) ∧
    ((fun (s : State) (c : Fin 64) (w : Nat) => runsOn s c 0x24 w ∧ s.bay.directRuns c = false)
        (on ({ (at5 [(F.ENG_STAT_STATE 0, 1)]) with images := [prog [2424569856, 7, 8, 9] [3, 4]], eng := [(0, { image := 1 })] })) 0 2424569856) ∧
    ((fun (s : State) (c : Fin 64) (w : Nat) => startsOn s c 0x21 w)
        (on ({ (at5 [(F.ENG_STAT_STATE 0, 1)]) with images := [prog [2223243264, 7, 8, 9] [3, 4]], eng := [(0, { image := 1 })] })) 0 2223243264) ∧
    ((fun (s : State) (c : Fin 64) (w : Nat) => startsOn s c 0x22 w)
        (on ({ (at5 [(F.ENG_STAT_STATE 0, 1)]) with images := [prog [2290352128, 7, 8, 9] [3, 4]], eng := [(0, { image := 1 })] })) 0 2290352128) :=
  by refine ⟨?_, ?_, ?_, ?_, ?_, ?_, ?_, ?_, ?_, ?_, ?_, ?_, ?_⟩ <;>
    first
    | (unfold runsOn; decide +kernel)
    | (unfold startsOn; decide +kernel)

theorem test_SkeinSweepsMarksAndGroups_inputs :
    ((fun (s : State) (c : Fin 64) (w : Nat) (m : Image) => runsOn s c 0x25 w ∧ dOf w = 0 ∧ s.bay.refOf c (field w 0 6) 5 = some m)
        (on ({ (at5 [(F.ENG_STAT_STATE 0, 1)]) with images := [⟨1, 1, 1, 0, 0, 0, .program [0] [wd 0x25 0 0 0] [] [5]⟩, ⟨5, 5, 1, 0, 0, 0, .sweep 0 0 0 []⟩], eng := [(0, { image := 1 })] })) 0 (wd 0x25 0 0 0) (⟨5, 5, 1, 0, 0, 0, .sweep 0 0 0 []⟩)) ∧
    ((fun (s : State) (c : Fin 64) (w : Nat) => runsOn s c 0x25 w ∧ dOf w = 1)
        (on ({ (at5 [(F.ENG_STAT_STATE 0, 1)]) with images := [prog [(wd 0x25 1 0 0), 7, 8, 9] [3, 4]], eng := [(0, { image := 1 })] })) 0 (wd 0x25 1 0 0)) ∧
    ((fun (s : State) (c : Fin 64) (w : Nat) (g : GradeVec) => runsOn s c 0x26 w ∧ field w 0 4 < 9 ∧ s.bay.gradeOf c = some g)
        (on ({ (at5 [(F.ENG_STAT_STATE 0, 1)]) with images := [prog [(wd 0x26 2 0 3), 7, 8, 9] [3, 4]], grade := [(0, some ⟨0, 0, 1, 2, 3, 4, 5, 6, 7, 8⟩)], eng := [(0, { image := 1 })] })) 0 (wd 0x26 2 0 3) (⟨0, 0, 1, 2, 3, 4, 5, 6, 7, 8⟩)) ∧
    ((fun (s : State) (c : Fin 64) (w : Nat) => runsOn s c 0x26 w ∧ field w 0 4 < 9 ∧ s.bay.gradeOf c = none)
        (on ({ (at5 [(F.ENG_STAT_STATE 0, 1)]) with images := [prog [2558787584, 7, 8, 9] [3, 4]], eng := [(0, { image := 1 })] })) 0 2558787584) ∧
    ((fun (s : State) (c : Fin 64) (w : Nat) => runsOn s c 0x27 w ∧ (s.bay.engOf c).markEdge ≠ some (frameStart s.bay.now))
        (on ({ (at5 [(F.ENG_STAT_STATE 0, 1)]) with images := [prog [2625896448, 7, 8, 9] [3, 4]], eng := [(0, { image := 1 })] })) 0 2625896448) ∧
    ((fun (s : State) (c : Fin 64) (w : Nat) => runsOn s c 0x27 w ∧ (s.bay.engOf c).markEdge = some (frameStart s.bay.now))
        (on ({ (at5 [(F.ENG_STAT_STATE 0, 1)]) with images := [prog [2625896448, 7, 8, 9] [3, 4]], eng := [(0, { image := 1, markEdge := some 1000000000000 })] })) 0 2625896448) ∧
    ((fun (s : State) (c : Fin 64) (w : Nat) => runsOn s c 0x28 w ∧ (s.bay.engOf c).markEdge ≠ some (frameStart s.bay.now))
        (on ({ (at5 [(F.ENG_STAT_STATE 0, 1)]) with images := [prog [2693005312, 7, 8, 9] [3, 4]], eng := [(0, { image := 1 })] })) 0 2693005312) ∧
    ((fun (s : State) (c : Fin 64) (w : Nat) => runsOn s c 0x29 w ∧ s.bay.groupHopeless (field w 0 4) = false)
        (on ({ (at5 [(F.ENG_STAT_STATE 0, 1)]) with images := [prog [2760114176, 7, 8, 9] [3, 4]], eng := [(0, { image := 1 })] })) 0 2760114176) ∧
    ((fun (s : State) (c : Fin 64) (w : Nat) => runsOn s c 0x29 w ∧ s.bay.groupHopeless (field w 0 4) = true)
        (on ({ (at5 [(F.ENG_STAT_STATE 0, 1), (F.GRP_CNT 0, 100)]) with images := [prog [2760114176, 7, 8, 9] [3, 4]], eng := [(0, { image := 1 })] })) 0 2760114176) ∧
    ((fun (s : State) (c : Fin 64) (w : Nat) => runsOn s c 0x2A w ∧ s.bay.groupHopeless (field w 0 4) = false)
        (on ({ (at5 [(F.ENG_STAT_STATE 0, 1)]) with images := [prog [2827223040, 7, 8, 9] [3, 4]], eng := [(0, { image := 1 })] })) 0 2827223040) ∧
    ((fun (s : State) (c : Fin 64) (w : Nat) => runsOn s c 0x2B w ∧ s.bay.rd (F.CHN_REG_STAT_BORDER_OK c) = 1 ∧ bitOf (s.bay.borderOf c).flags 2 =
      true ∧ s.bay.k c (dOf w) ≤ (s.bay.borderOf c).donQMax)
        (on ({ (at5 [(F.ENG_STAT_STATE 0, 1), (F.CHN_REG_STAT_BORDER_OK 0, 1)]) with images := [prog [2894331904, 7, 8, 9] [3, 4]], eng := [(0, { image := 1 })], border := [(0, { flags := 4, donQMax := 0 })] })) 0 2894331904) ∧
    ((fun (s : State) (c : Fin 64) (w : Nat) (m : Image) => runsOn s c 0x2C w ∧ s.bay.refOf c (field w 0 6) 2 = some m)
        (on ({ (at5 [(F.ENG_STAT_STATE 0, 1)]) with images := [⟨1, 1, 1, 0, 0, 0, .program [0] [wd 0x2C 0 0 0] [] [5]⟩, ⟨5, 2, 1, 0, 0, 0, .zoned {}⟩], eng := [(0, { image := 1 })] })) 0 (wd 0x2C 0 0 0) (⟨5, 2, 1, 0, 0, 0, .zoned {}⟩)) :=
by refine ⟨?_, ?_, ?_, ?_, ?_, ?_, ?_, ?_, ?_, ?_, ?_, ?_⟩ <;> (unfold runsOn; decide +kernel)

theorem test_FramesHoldersAndDeadline_inputs :
    ((fun (s : State) => (∀ n : Nat, n < 6 → s.bay.slotFitted n = true → (s.bay.slotOf n).conflict = false))
        (on ({ (at5 []) with slotv := [(0, { holder := 1 })] }))) ∧
    ((fun (s : State) (a : BitVec 6) (c : BitVec 6) (d : BitVec 6) => (∀ n : Nat, n < 6 → s.bay.slotFitted n = true → a.toNat.testBit n = true ∧
      c.toNat.testBit n = true ∧ d.toNat.testBit n = false))
        (on (at5 [])) 63 63 0) ∧
    ((fun (s : State) (n : Fin 5) (x : Fin 2) (f : CmdIn) => s.bay.slotFitted n = true ∧ (s.bay.slotOf n).holder = x.val + 1 ∧ (s.bay.slotOf n).cand =
      none ∧ (s.bay.slotOf n).good f (max s.bay.now (frameStart s.bay.now + (if f.index = 3 then 4375 else 625 + 1250 * f.index.val))) = true)
        (on ({ (at5 []) with slotv := [(0, { holder := 1, cand := none, lastAcc := 1000000000000 })] })) 0 0 (⟨true, 2, 4, false, false, 3⟩)) ∧
    ((fun (s : State) (n : Fin 5) (x : Fin 2) (f : CmdIn) => s.bay.slotFitted n = true ∧ (s.bay.slotOf n).holder = x.val + 1 ∧ (s.bay.slotOf n).cand =
      none ∧ n.val < 4 ∧ (s.bay.waleSt n).stoppedAlone = false ∧ (s.bay.slotOf n).good f (max s.bay.now (frameStart s.bay.now + (if f.index = 3 then
      4375 else 625 + 1250 * f.index.val))) = true)
        (on ({ (at5 []) with slotv := [(0, { holder := 1, cand := none, lastAcc := 1000000000000 })], wale := [(0, { stoppedAlone := false })] })) 0 0 (⟨true, 2, 4, false, false, 3⟩)) ∧
    ((fun (s : State) (n : Fin 5) (f : CmdIn) => s.bay.slotFitted n = true ∧ (s.bay.slotOf n).holder = 0 ∧ (s.bay.slotOf n).good f (max s.bay.now
      (frameStart s.bay.now + (if f.index = 3 then 4375 else 625 + 1250 * f.index.val))) = true)
        (on ({ (at5 []) with slotv := [(0, { holder := 0 })] })) 0 (⟨true, 2, 0, false, false, 0⟩)) ∧
    ((fun (s : State) (n : Fin 5) (x : Fin 2) (f : CmdIn) => s.bay.slotFitted n = true ∧ f.crc = false ∧ (s.bay.slotOf n).holder ≠ x.val + 1 ∧
      (s.bay.joining x = true → s.bay.role x ≠ 1))
        (on ({ (at5 []) with slotv := [(0, { holder := 1 })] })) 0 1 (⟨false, 2, 0, false, false, 0⟩)) ∧
    ((fun (s : State) (n : Fin 5) => s.bay.slotFitted n = true ∧ (s.bay.slotOf n).holder ≠ 0 ∧ (s.bay.slotOf n).misses = 0 ∧ (s.bay.slotOf n).lastAcc
      + 12 * usTicks ≤ s.bay.now ∧ s.bay.now < (s.bay.slotOf n).lastAcc + 24 * usTicks)
        (on ({ (at5 []) with slotv := [(0, { holder := 1, lastAcc := 999999997500 })] })) 0) ∧
    ((fun (s : State) (n : Fin 5) (q : Nat × Nat × Nat) => s.bay.slotFitted n = true ∧ (((s.bay.slotOf n).holder = 1 ∨ (s.bay.slotOf n).holder = 2)) ∧
      (s.bay.slotOf n).misses = 1 ∧ (s.bay.slotOf n).lastAcc + 24 * usTicks ≤ s.bay.now ∧ (s.bay.slotOf n).cand = some q ∧ 2 ≤ q.2.1 ∧ s.bay.now - q.1
      ≤ 10 * usTicks)
        (on ({ (at5 []) with slotv := [(0, { holder := 1, misses := 1, cand := some (999999999000, 2, 0) })] })) 0 ((999999999000, 2, 0))) ∧
    ((fun (s : State) (n : Fin 5) => s.bay.slotFitted n = true ∧ (s.bay.slotOf n).holder ≠ 0 ∧ (s.bay.slotOf n).misses = 1 ∧ (s.bay.slotOf n).lastAcc
      + 24 * usTicks ≤ s.bay.now ∧ (s.bay.slotOf n).cand = none)
        (on ({ (at5 []) with slotv := [(0, { holder := 1, misses := 1 })] })) 0) ∧
    ((fun (s : State) (n : Fin 5) => n.val < 4 ∧ s.bay.slotFitted n = true ∧ (s.bay.slotOf n).stopped = false ∧ (s.bay.slotOf n).lastAcc + 100 *
      usTicks ≤ s.bay.now)
        (on ({ (at5 []) with slotv := [(0, { stopped := false })] })) 0) ∧
    ((fun (s : State) (n : Fin 5) => n.val = 4 ∧ s.bay.slotFitted n = true ∧ (s.bay.slotOf n).stopped = false ∧ (s.bay.slotOf n).lastAcc + 100 *
      usTicks ≤ s.bay.now)
        (on ({ (at5 [(F.AXS_STAT_STATE 0, Ax.run), (F.AXS_STAT_STATE 1, Ax.run)]) with slotv := [(4, { stopped := false })] })) 4) ∧
    ((fun (e : FrameEnd) => e.missed = [] ∧ e.crcDiffer = 0 ∧ e.digestDiffer = false)
        (⟨[], [], 0, false, none⟩)) ∧
    ((fun (s : State) (e : FrameEnd) (c : Fin 64) => e.missed = [(⟨c.val, by omega⟩, 0)] ∧ e.crcDiffer = 0 ∧ e.digestDiffer = false ∧ s.bay.slotFitted
      (waleOf c) = true ∧ (s.bay.loopChOf c).ranAt = some (frameStart (max s.bay.now (frameStart s.bay.now + 3750))) ∧ (s.bay.loopChOf c).missAt ≠
      some (frameStart (max s.bay.now (frameStart s.bay.now + 3750))))
        (on ({ (at5 []) with loopCh := [(0, { ranAt := some 1000000000000, vRef := 5, vRef0 := 3 })] })) (⟨[(0, 0)], [], 0, false, none⟩) 0) :=
by refine ⟨?_, ?_, ?_, ?_, ?_, ?_, ?_, ?_, ?_, ?_, ?_, ?_, ?_⟩ <;> decide +kernel

theorem test_TraceImagesAndDeadlineClear_inputs :
    ((fun (s : State) => s.bay.gate F.LOOP_CTL_DL_CLR = none)
        (on (at5 []))) ∧
    ((fun (s : State) (n : Fin 4) => s.bay.gate (F.TR_CTL_ARM n) = none ∧ s.bay.flag (F.TR_STAT_ARMED n) = false ∧ (s.bay.traceOf n).waitCopy = false
      ∧ s.bay.traceUsed < traceRoom)
        (on ({ (at5 [(F.TR_STAT_ARMED 0, 0)]) with trace := [(0, { waitCopy := false })] })) 0) ∧
    ((fun (s : State) (n : Fin 4) => s.bay.gate (F.TR_CTL_ARM n) = none ∧ s.bay.flag (F.TR_STAT_ARMED n) = true)
        (on (at5 [(F.TR_STAT_ARMED 0, 1)])) 0) ∧
    ((fun (s : State) (n : Fin 4) => s.bay.gate (F.TR_CTL_FORCE n) = none ∧ s.bay.flag (F.TR_STAT_ARMED n) = true ∧ s.bay.flag (F.TR_CTL_RING n) =
      false ∧ (s.bay.traceOf n).trigAt = none)
        (on ({ (at5 [(F.TR_STAT_ARMED 0, 1), (F.TR_CTL_RING 0, 0)]) with trace := [(0, { trigAt := none })] })) 0) :=
by refine ⟨?_, ?_, ?_, ?_⟩ <;> decide +kernel

theorem test_TraceImagesAndDeadlineClear_inputs_2 :
    ((fun (s : State) (n : Fin 4) => s.bay.flag (F.TR_STAT_ARMED n) = true ∧ (s.bay.traceOf n).trigAt ≠ none ∧ (s.bay.traceOf n).postLeft = 0)
        (on ({ (at5 [(F.TR_STAT_ARMED 0, 1)]) with trace := [(0, { postLeft := 0, trigAt := some 0 })] })) 0) ∧
    ((fun (s : State) (n : Fin 4) (a : Nat) => (s.bay.traceOf n).waitCopy = true ∧ s.bay.traceCredit n captureSize = true ∧ s.bay.tracePlace = some a)
        (on ({ (at5 []) with trace := [(0, { waitCopy := true })] })) 0 traceAt) ∧
    ((fun (s : State) => s.bay.gate F.SKN_LOAD_CTL_GO = none ∧ s.bay.flag F.SKN_LOAD_STAT_BUSY = false ∧ s.bay.flag F.TRU_FWU_STAT_BUSY = false)
        (on (at5 [(F.SKN_LOAD_STAT_BUSY, 0), (F.TRU_FWU_STAT_BUSY, 0)]))) ∧
    ((fun (s : State) => s.bay.gate F.SKN_LOAD_CTL_GO = none ∧ s.bay.flag F.SKN_LOAD_STAT_BUSY = true)
        (on (at5 [(F.SKN_LOAD_STAT_BUSY, 1)]))) :=
by refine ⟨?_, ?_, ?_, ?_⟩ <;> decide +kernel

theorem test_TraceImagesAndDeadlineClear_inputs_3 :
    ((fun (s : State) => s.bay.flag F.SKN_LOAD_STAT_BUSY = true)
        (on (at5 [(F.SKN_LOAD_STAT_BUSY, 1)]))) ∧
    ((fun (s : State) (m : Image) => s.bay.gate F.SKN_LOAD_CTL_DELETE = none ∧ s.bay.flag F.SKN_LOAD_STAT_BUSY = false ∧ s.bay.imageOf (s.bay.rd
      F.SKN_DEL_ID) = some m ∧ s.bay.idInUse (s.bay.rd F.SKN_DEL_ID) = false)
        (on ({ (at5 [(F.SKN_LOAD_STAT_BUSY, 0), (F.SKN_DEL_ID, 5)]) with images := [⟨5, 2, 1, 0, 0, 0, .zoned {}⟩] })) (⟨5, 2, 1, 0, 0, 0, .zoned {}⟩)) ∧
    ((fun (s : State) (m : Image) => s.bay.gate F.SKN_LOAD_CTL_DELETE = none ∧ s.bay.flag F.SKN_LOAD_STAT_BUSY = false ∧ s.bay.imageOf (s.bay.rd
      F.SKN_DEL_ID) = some m ∧ s.bay.idInUse (s.bay.rd F.SKN_DEL_ID) = true)
        (on ({ (at5 [(F.SKN_LOAD_STAT_BUSY, 0), (F.SKN_DEL_ID, 5), (F.CHN_REG_STAT_CELL 0, 1), (F.CHN_STG_STAT_CSW 0, 1), (F.CHN_BORDER 0, 5)]) with images := [⟨5, 2, 1, 0, 0, 0, .zoned {}⟩] })) (⟨5, 2, 1, 0, 0, 0, .zoned {}⟩)) :=
by refine ⟨?_, ?_, ?_⟩ <;> decide +kernel

theorem test_HostWordsAndFrameEdge_inputs :
    ((fun (a : BitVec 32) => a.toNat % 4 ≠ 0)
        2) ∧
    ((fun (a : BitVec 32) => regAt a.toNat = none)
        0xFF00) ∧
    ((fun (s : State) (a : BitVec 32) (v : BitVec 32) (r : RegAt) (f : FieldRow) => a.toNat % 4 = 0 ∧ s.bay.mode ≠ 0 ∧ regAt a.toNat = some r ∧ r.rows
      = [f] ∧ f.acc = .rw ∧ r.grp ≠ .meas ∧ r.grp ≠ .cfdObj ∧ r.grp ≠ .mem ∧ s.bay.gate ⟨r.grp, r.i, r.off, if r.grp == .chn && r.off == 0x200 then 1
      else 0⟩ = none ∧ r.manyBits v.toNat = false ∧ s.bay.firstReason r v.toNat = none ∧ s.bay.wordBad r v.toNat = false)
        (on (at5 [])) 266256 0 ((regAt 266256).getD ⟨.bay, 0, 0, []⟩) (((regAt 266256).getD ⟨.bay, 0, 0, []⟩).rows.headD ⟨0, 0, 0, .ro, 0, none, false⟩)) ∧
    ((fun (s : State) (a : BitVec 32) (v : BitVec 32) (r : RegAt) (f : FieldRow) => a.toNat % 4 = 0 ∧ s.bay.mode ≠ 0 ∧ regAt a.toNat = some r ∧ r.rows
      = [f] ∧ f.acc = .rws ∧ r.grp ≠ .src ∧ r.grp ≠ .mem ∧ s.bay.gate ⟨r.grp, r.i, r.off, if r.grp == .chn && r.off == 0x200 then 1 else 0⟩ = none ∧
      r.manyBits v.toNat = false ∧ s.bay.firstReason r v.toNat = none ∧ s.bay.wordBad r v.toNat = false)
        (on (at5 [])) 28 7 ((regAt 28).getD ⟨.bay, 0, 0, []⟩) (((regAt 28).getD ⟨.bay, 0, 0, []⟩).rows.headD ⟨0, 0, 0, .ro, 0, none, false⟩)) ∧
    ((fun (s : State) (a : BitVec 32) (r : RegAt) (x : Int) => a.toNat % 4 = 0 ∧ s.bay.mode ≠ 0 ∧ regAt a.toNat = some r ∧ r.grp ≠ .mem ∧ s.bay.gate
      ⟨r.grp, r.i, r.off, if r.grp == .chn && r.off == 0x200 then 1 else 0⟩ = some x)
        (on (at5 [(F.BAY_STAT_MODE, 1)])) 28 ((regAt 28).getD ⟨.bay, 0, 0, []⟩) 6) ∧
    ((fun (s : State) (a : BitVec 32) (v : BitVec 32) (r : RegAt) => a.toNat % 4 = 0 ∧ s.bay.mode ≠ 0 ∧ regAt a.toNat = some r ∧ r.grp = .bay ∧
      s.bay.gate ⟨r.grp, r.i, r.off, 0⟩ = none ∧ r.manyBits v.toNat = true)
        (on (at5 [])) 16 3 ((regAt 16).getD ⟨.bay, 0, 0, []⟩)) ∧
    ((fun (s : State) (a : BitVec 32) (r : RegAt) (f : FieldRow) => regAt a.toNat = some r ∧ s.bay.mode ≠ 0 ∧ s.bay.absentBlock ⟨r.grp, r.i, r.off, 0⟩
      = false ∧ r.rows = [f] ∧ f.width = 64 ∧ f.off = r.off)
        (on (at5 [])) 4 ((regAt 4).getD ⟨.bay, 0, 0, []⟩) (((regAt 4).getD ⟨.bay, 0, 0, []⟩).rows.headD ⟨0, 0, 0, .ro, 0, none, false⟩)) ∧
    ((fun (s : State) => s.bay.mode ≠ 0)
        (on (at5 []))) ∧
    ((fun (s : State) => s.bay.mode = 0)
        (on (at5 [(F.BAY_STAT_MODE, 0)]))) :=
by refine ⟨?_, ?_, ?_, ?_, ?_, ?_, ?_, ?_, ?_⟩ <;> decide +kernel

theorem test_LatchesAndCartridges_inputs :
    ((fun (s : State) (n : Fin 8) => n.val = 7 ∧ s.bay.slotFilledBy n = true ∧ (s.bay.latchOf n).released = false ∧ (s.bay.latchOf n).isOpen = false)
        (on ({ (at5 []) with latch := [(7, { released := false, isOpen := false })] })) 7) ∧
    ((fun (s : State) (n : Fin 8) => 2 ≤ n.val ∧ n.val < 6 ∧ s.bay.slotFilledBy n = true ∧ (s.bay.latchOf n).released = false ∧ (s.bay.latchOf
      n).isOpen = false ∧ s.bay.rd (F.SEC_STAT_STATE (n - 2)) = 2)
        (on ({ (at5 [(F.SEC_STAT_STATE (2 - 2), 2)]) with latch := [(2, { released := false, isOpen := false })] })) 2) ∧
    ((fun (s : State) (n : Fin 8) => 2 ≤ n.val ∧ n.val < 6 ∧ s.bay.slotFilledBy n = true ∧ (s.bay.latchOf n).released = false ∧ (s.bay.latchOf
      n).isOpen = false ∧ s.bay.rd (F.SEC_STAT_STATE (n - 2)) = 0)
        (on ({ (at5 [(F.SEC_STAT_STATE (2 - 2), 0)]) with latch := [(2, { released := false, isOpen := false })] })) 2) ∧
    ((fun (s : State) (n : Fin 8) => s.bay.slotFilledBy n = true ∧ s.bay.releaseDone n = true)
        (on ({ (at5 []) with latch := [(7, { req := true })] })) 7) ∧
    ((fun (s : State) (n : Fin 8) => (s.bay.latchOf n).released = true ∧ (s.bay.latchOf n).req = false)
        (on ({ (at5 []) with latch := [(0, { released := true, req := false })] })) 0) ∧
    ((fun (s : State) (n : Fin 8) => n.val < 2 ∧ (s.bay.latchOf n).released = true ∧ (s.bay.latchOf n).req = true ∧ (s.bay.latchOf n).swapAsked = true
      ∧ (s.bay.latchOf n).hoAsked = false ∧ s.bay.safe.handover = none)
        (on ({ (at5 []) with safe := { handover := none }, latch := [(0, { released := true, req := true, swapAsked := true, hoAsked := false })] })) 0) ∧
    ((fun (s : State) (n : Fin 8) => n.val ≠ 6 ∧ (s.bay.latchOf n).isOpen = true ∧ (s.bay.latchOf n).byKey = false ∧ s.bay.slotFilledBy n = true ∧
      (s.bay.latchOf n).openAt + 60 * secTicks ≤ s.bay.now)
        (on ({ (at5 []) with latch := [(0, { isOpen := true, byKey := false })] })) 0) ∧
    ((fun (s : State) (n : Fin 8) => n.val = 7 ∧ s.bay.rd F.BAY_SLOTS_M = 6 ∧ (s.bay.latchOf n).isOpen = true)
        (on ({ (at5 [(F.BAY_SLOTS_M, 6)]) with latch := [(7, { isOpen := true })] })) 7) ∧
    ((fun (s : State) (n : Fin 8) => n.val = 6 ∧ s.bay.rd F.BAY_SLOTS_X = 5 ∧ (s.bay.latchOf n).isOpen = true)
        (on ({ (at5 [(F.BAY_SLOTS_X, 5)]) with latch := [(6, { isOpen := true })] })) 6) ∧
    ((fun (s : State) (n : Fin 8) => n.val < 2 ∧ 2 ≤ s.bay.rd (slotKey n) ∧ (s.bay.latchOf n).isOpen = true)
        (on ({ (at5 []) with latch := [(0, { isOpen := true })] })) 0) ∧
    ((fun (s : State) (n : Fin 8) => s.bay.rd (slotKey n) ≠ 0)
        (on (at5 [])) 6) ∧
    ((fun (s : State) (n : Fin 8) => s.bay.rd (slotKey n) = 0)
        (on (at5 [(slotKey 0, 0)])) 0) ∧
    ((fun (s : State) (n : Fin 8) => 2 ≤ n.val ∧ n.val < 6 ∧ s.bay.rd (slotKey n) = 0)
        (on (at5 [(slotKey 2, 0)])) 2) ∧
    ((fun (s : State) (n : Fin 8) => n.val = 6 ∧ s.bay.rd (slotKey n) = 0)
        (on (at5 [(slotKey 6, 0)])) 6) :=
by refine ⟨?_, ?_, ?_, ?_, ?_, ?_, ?_, ?_, ?_, ?_, ?_, ?_, ?_, ?_⟩ <;> decide +kernel

theorem test_PowerUpSupplyAndBoot_inputs :
    ((fun (s : State) => s.bay.mode = 0)
        (on (at5 [(F.BAY_STAT_MODE, 0)]))) ∧
    ((fun (s : State) => s.bay.mode ≠ 0 ∧ s.bay.plant.rtOn = false)
        (on ({ (at5 []) with plant := { rtOn := false } }))) ∧
    ((fun (s : State) => s.bay.mode ≠ 0 ∧ s.bay.plant.rtOn = true)
        (on ({ (at5 []) with plant := { rtOn := true } }))) ∧
    ((fun (s : State) => s.bay.mode ≠ 0)
        (on (at5 []))) ∧
    ((fun (s : State) (w : Fin 3) => s.bay.mode ≠ 0 ∧ w.val ≠ 0)
        (on (at5 [])) 1) ∧
    ((fun (s : State) (se : BitVec 2) (up : BitVec 2) => s.bay.mode = Mode.boot ∧ s.bay.carts = [0, 1] ∧ s.bay.modeSt.bootDone = false ∧ s.bay.flag
      (F.MEM_STAT_INIT_DONE 0) = true ∧ s.bay.flag (F.MEM_STAT_INIT_DONE 1) = true ∧ s.bay.modeSt.mramBad = [] ∧ se = 3 ∧ up = 3 ∧ s.bay.safe.active ≠
      none)
        (on ({ (at5 [(F.BAY_STAT_MODE, Mode.boot), (F.MEM_STAT_INIT_DONE 0, 1), (F.MEM_STAT_INIT_DONE 1, 1)]) with modeSt := { bootDone := false, mramBad := [] }, safe := { active := some ⟨[], 0, []⟩ } })) 3 3) :=
by refine ⟨?_, ?_, ?_, ?_, ?_, ?_⟩ <;> decide +kernel

theorem test_BayCommands_inputs :
    ((fun (s : State) => s.bay.gate F.BAY_CMD_ATT_OK = none ∧ s.bay.mode = Mode.attest ∧ s.bay.quotesRead = true ∧ 1 ≤ s.bay.rd F.TRU_STAT_PLANT_N ∧
      s.bay.modeSt.cmd = none)
        (on ({ (at5 [(F.BAY_STAT_MODE, Mode.attest), (F.TRU_ATT_STAT_READ_CA, 1), (F.TRU_ATT_STAT_READ_CB, 1), (F.TRU_STAT_PLANT_N, 1)]) with modeSt := { cmd := none } }))) ∧
    ((fun (s : State) => s.bay.gate F.BAY_CMD_CAL_DONE = none ∧ s.bay.mode = Mode.calibrate ∧ s.bay.calReady = true ∧ s.bay.modeSt.cmd = none)
        (on ({ (at5 [(F.BAY_STAT_MODE, Mode.calibrate), (F.MEAS_REF_RDY_RDY0, 1), (F.MEAS_REF_RDY_RDY1, 1), (F.MEAS_REF_RDY_RDY2, 1), (F.MEAS_REF_RDY_RDY3, 1)]) with modeSt := { cmd := none } }))) ∧
    ((fun (s : State) => s.bay.gate F.BAY_CMD_CALIBRATE = none ∧ s.bay.mode = Mode.standby ∧ s.bay.modeSt.cmd = none)
        (on ({ (at5 [(F.BAY_STAT_MODE, Mode.standby)]) with modeSt := { cmd := none } }))) ∧
    ((fun (s : State) => s.bay.gate F.BAY_CMD_HOLD = none ∧ ((s.bay.mode = Mode.energized ∨ s.bay.mode = Mode.forming ∨ s.bay.mode = Mode.degraded)) ∧
      s.bay.modeSt.cmd = none)
        (on ({ (at5 []) with modeSt := { cmd := none } }))) ∧
    ((fun (s : State) => s.bay.gate F.BAY_CMD_RESUME = none ∧ s.bay.mode = Mode.hold ∧ s.bay.flag F.BAY_STAT_HOLD_RT = false ∧ s.bay.modeSt.cmd =
      none)
        (on ({ (at5 [(F.BAY_STAT_MODE, Mode.hold), (F.BAY_STAT_HOLD_RT, 0)]) with modeSt := { cmd := none } }))) ∧
    ((fun (s : State) => s.bay.gate F.BAY_CMD_SERVICE = none ∧ ((s.bay.mode = Mode.standby ∨ s.bay.mode = Mode.energized ∨ s.bay.mode =
      Mode.safeStop)) ∧ (∀ c ∈ allChans, s.bay.engRuns c = false) ∧ s.bay.modeSt.cmd = none)
        (on ({ (at5 []) with modeSt := { cmd := none } }))) ∧
    ((fun (s : State) => s.bay.gate F.BAY_CMD_EXIT_SVC = none ∧ s.bay.mode = Mode.service ∧ s.bay.modeSt.cmd = none)
        (on ({ (at5 [(F.BAY_STAT_MODE, Mode.service)]) with modeSt := { cmd := none } }))) ∧
    ((fun (s : State) => s.bay.gate F.BAY_CMD_RECOVER = none ∧ s.bay.mode = Mode.safeStop ∧ s.bay.flag F.BAY_STAT_CLR_ARMED = true ∧ s.bay.causesLeft
      = true ∧ s.bay.modeSt.cmd = none)
        (on ({ (at5 [(F.BAY_STAT_MODE, Mode.safeStop), (F.BAY_STAT_CLR_ARMED, 1)]) with modeSt := { cmd := none } }))) ∧
    ((fun (s : State) => s.bay.gate F.BAY_CMD_STOP = none)
        (on (at5 []))) ∧
    ((fun (s : State) => s.bay.gate F.BAY_CMD_ATT_REJ = none ∧ s.bay.mode = Mode.attest)
        (on (at5 [(F.BAY_STAT_MODE, Mode.attest)]))) ∧
    ((fun (s : State) => s.bay.gate F.BAY_CMD_RESUME = none ∧ s.bay.mode = Mode.hold ∧ s.bay.flag F.BAY_STAT_HOLD_RT = true)
        (on (at5 [(F.BAY_STAT_MODE, Mode.hold), (F.BAY_STAT_HOLD_RT, 1)]))) ∧
    ((fun (s : State) => s.bay.gate F.BAY_CMD_RECOVER = none ∧ s.bay.mode = Mode.safeStop ∧ s.bay.flag F.BAY_STAT_CLR_ARMED = false)
        (on (at5 [(F.BAY_STAT_MODE, Mode.safeStop), (F.BAY_STAT_CLR_ARMED, 0)]))) ∧
    ((fun (s : State) (n : Nat) => s.bay.gate F.BAY_CMD_CALIBRATE = none ∧ s.bay.mode = Mode.standby ∧ s.bay.modeSt.cmd = some n)
        (on ({ (at5 [(F.BAY_STAT_MODE, Mode.standby)]) with modeSt := { cmd := some 0 } })) 0) ∧
    ((fun (s : State) => s.bay.mode = Mode.safeStop)
        (on (at5 [(F.BAY_STAT_MODE, Mode.safeStop)]))) :=
by refine ⟨?_, ?_, ?_, ?_, ?_, ?_, ?_, ?_, ?_, ?_, ?_, ?_, ?_, ?_⟩ <;> decide +kernel

theorem test_EventLogReadsAndBayTime_inputs :
    ((fun (s : State) => 10 * msTicks ≤ s.bay.now - s.bay.weave.notifyAt ∧ (s.bay.streamOf 68).wr - (s.bay.streamOf 68).rel + 16 ≤ 1048576)
        (on (at5 []))) ∧
    ((fun (s : State) => s.bay.now - s.bay.weave.notifyAt < 10 * msTicks)
        (on ({ (at5 []) with weave := { notifyAt := 999999999999 } }))) ∧
    ((fun (s : State) => (∀ e : EvEntry, e ∈ s.bay.log → s.bay.now < e.time + 80 * usTicks))
        (on (at5 []))) ∧
    ((fun (s : State) => (∀ e : EvEntry, e ∈ s.bay.log → e.time + 80 * usTicks ≤ s.bay.now) ∧ (∀ e : EvEntry, e ∈ s.bay.log → s.bay.rd (F.SRC_CFG_NOTE
      e.src) = 0))
        (on ({ (at5 [(F.SRC_CFG_NOTE 0, 0)]) with log := [⟨0, 0, 0, 0, 0, 0, false⟩] }))) ∧
    ((fun (s : State) (e : EvEntry) (l : List EvEntry) => s.bay.released = e :: l)
        (on ({ (at5 []) with log := [⟨0, 0, 0, 0, 0, 0, true⟩] })) (⟨0, 0, 0, 0, 0, 0, true⟩) ([])) ∧
    ((fun (s : State) => s.bay.released = [])
        (on (at5 []))) ∧
    ((fun (s : State) => s.bay.gate F.EVT_CTL_LOST_CLR = none)
        (on (at5 []))) ∧
    ((fun (s : State) (t : Nat) => s.bay.weave.timeAt = some t ∧ 2 * msTicks ≤ s.bay.now - t ∧ s.bay.activeRim = false ∧ s.bay.flag F.TIME_STAT_LOCK =
      true)
        (on ({ (at5 [(F.WVE_STAT_RIM, 0), (F.TIME_STAT_LOCK, 1)]) with weave := { timeAt := some 0 } })) 0) ∧
    ((fun (s : State) (t : Nat) => s.bay.weave.timeAt = some t ∧ s.bay.now - t < 2 * msTicks)
        (on ({ (at5 []) with weave := { timeAt := some 999999999999 } })) 999999999999) ∧
    ((fun (s : State) (t : Nat) => s.bay.weave.timeAt = some t ∧ secTicks ≤ s.bay.now - t ∧ s.bay.activeRim = false ∧ s.bay.flag F.TIME_STAT_FREE_RUN
      = false)
        (on ({ (at5 [(F.WVE_STAT_RIM, 0), (F.TIME_STAT_FREE_RUN, 0)]) with weave := { timeAt := some 0 } })) 0) ∧
    ((fun (s : State) (m : TimeIn) => s.bay.mode ≠ 0 ∧ s.bay.activeRim = false ∧ s.bay.ignoresMaster = false ∧ m.plane = 0 ∧ m.ptp = true ∧
      ((s.bay.now : Int) * 8 - m.origin - (m.corr + s.bay.linkDelay m.port.val)).natAbs ≤ 60)
        (on (at5 [(F.WVE_STAT_RIM, 0), (F.WVE_STAT_NODE, 1)])) (⟨0, 0, 0, 8000000000000, 0, true, 0⟩)) ∧
    ((fun (s : State) (m : TimeIn) => s.bay.mode ≠ 0 ∧ Mode.attest ≤ s.bay.mode ∧ s.bay.activeRim = false ∧ s.bay.ignoresMaster = false ∧ m.plane = 0
      ∧ s.bay.modeSt.engineLeft = false ∧ s.bay.cellHasStarted = false ∧ s.bay.flag F.TIME_STAT_STEPPED = false ∧ 1000000 < ((s.bay.now : Int) * 8 -
      m.origin - (m.corr + s.bay.linkDelay m.port.val)).natAbs)
        (on ({ (at5 [(F.WVE_STAT_RIM, 0), (F.TIME_STAT_STEPPED, 0)]) with modeSt := { engineLeft := false } })) (⟨0, 0, 0, 0, 0, true, 0⟩)) ∧
    ((fun (s : State) => s.bay.activeRim = true)
        (on (at5 [(F.WVE_STAT_RIM, 1)]))) ∧
    ((fun (s : State) (off : Int) => s.bay.activeRim = true ∧ s.bay.flag F.WVE_PTP_CFG_EN = true ∧ s.bay.ignoresMaster = false ∧ off.natAbs ≤ 60)
        (on (at5 [(F.WVE_STAT_RIM, 1), (F.WVE_PTP_CFG_EN, 1)])) 0) ∧
    ((fun (s : State) (t : Nat) => s.bay.weave.ptpAt = some t ∧ s.bay.activeRim = true ∧ s.bay.flag F.WVE_PTP_CFG_EN = true ∧ 10 * secTicks ≤
      s.bay.now - t ∧ s.bay.flag F.TIME_STAT_FREE_RUN = false)
        (on ({ (at5 [(F.WVE_STAT_RIM, 1), (F.WVE_PTP_CFG_EN, 1), (F.TIME_STAT_FREE_RUN, 0)]) with weave := { ptpAt := some 0 } })) 0) :=
by refine ⟨?_, ?_, ?_, ?_, ?_, ?_, ?_, ?_, ?_, ?_, ?_, ?_, ?_, ?_, ?_⟩ <;> decide +kernel

theorem test_RimSessionsAndAccesses_inputs :
    ((fun (s : State) (cart : Fin 2) (key : List Byte) (h : Fin 4) => s.bay.mode ≠ 0 ∧ s.bay.servesRim = true ∧ s.bay.cPresent cart = true ∧
      s.bay.keyRefused key = false ∧ s.bay.weave.sessions.length = 4 ∧ s.bay.session 0 = none ∧ s.bay.flag (F.AUTH_ENROLLED (4 + h)) = true)
        (on (at5 [(F.AUTH_ENROLLED (4 + 0), 1)])) 0 ([]) 0) ∧
    ((fun (s : State) (cart : Fin 2) (key : List Byte) => key ≠ [] ∧ s.bay.mode ≠ 0 ∧ s.bay.servesRim = true ∧ s.bay.cPresent cart = true ∧
      s.bay.keyRefused key = false ∧ s.bay.weave.sessions.length = 4 ∧ s.bay.session 0 = none ∧ s.bay.windowOpen = true ∧ s.bay.rd F.TRU_STAT_HOST_N =
      0)
        (on (at5 [(F.TRU_STAT_HOST_N, 0), (F.TRU_ENR_STAT_WINDOW, 1)])) 0 ([1])) ∧
    ((fun (s : State) (key : List Byte) => s.bay.keyRefused key = true)
        (on ({ (at5 []) with trust := { refuseUntil := [([], 1000000000001)] } })) ([])) ∧
    ((fun (s : State) (j : Fin 4) (x : Session) => s.bay.session j = some x ∧ s.bay.weave.sessions.length = 4)
        (on ({ (at5 []) with weave := { sessions := [some (⟨0, 2, [], 0⟩), none, none, none] } })) 0 (⟨0, 2, [], 0⟩)) ∧
    ((fun (s : State) (j : Fin 4) (x : Session) => s.bay.session j = some x ∧ s.bay.weave.sessions.length = 4 ∧ 10 * secTicks ≤ s.bay.now - x.last)
        (on ({ (at5 []) with weave := { sessions := [some (⟨0, 2, [], 0⟩), none, none, none] } })) 0 (⟨0, 2, [], 0⟩)) ∧
    ((fun (s : State) (j : Fin 4) (stake : Fin 64) (a : BitVec 32) (x : Session) (r : RegAt) => s.bay.mode ≠ 0 ∧ s.bay.session j = some x ∧ stake.val
      = s.bay.node ∧ a.toNat % 4 = 0 ∧ inWindow a.toNat = false ∧ inBlock a.toNat = true ∧ s.bay.framWord a.toNat = none ∧ regAt a.toNat = some r ∧
      s.bay.absentBlock ⟨r.grp, r.i, r.off, 0⟩ = false)
        (on ({ (at5 [(F.WVE_STAT_NODE, 0)]) with weave := { sessions := [some (⟨0, 2, [], 0⟩), none, none, none] } })) 0 0 28 (⟨0, 2, [], 0⟩) ((regAt 28).getD ⟨.bay, 0, 0, []⟩)) ∧
    ((fun (s : State) (j : Fin 4) (stake : Fin 64) (a : BitVec 32) (x : Session) => s.bay.mode ≠ 0 ∧ s.bay.session j = some x ∧ stake.val = s.bay.node
      ∧ a.toNat % 4 = 0 ∧ inWindow a.toNat = false ∧ inBlock a.toNat = true ∧ s.bay.framWord a.toNat = none ∧ regAt a.toNat = none)
        (on ({ (at5 [(F.WVE_STAT_NODE, 0)]) with weave := { sessions := [some (⟨0, 2, [], 0⟩), none, none, none] } })) 0 0 0xFF00 (⟨0, 2, [], 0⟩)) ∧
    ((fun (s : State) (j : Fin 4) (stake : Fin 64) (a : BitVec 32) (x : Session) => s.bay.mode ≠ 0 ∧ s.bay.session j = some x ∧ stake.val = s.bay.node
      ∧ a.toNat % 4 = 0 ∧ inWindow a.toNat = false ∧ inBlock a.toNat = true ∧ hostRegion a.toNat = 11 ∧ 1 ≤ x.level)
        (on ({ (at5 [(F.WVE_STAT_NODE, 0)]) with weave := { sessions := [some (⟨0, 2, [], 0⟩), none, none, none] } })) 0 0 0 (⟨0, 2, [], 0⟩)) ∧
    ((fun (s : State) (j : Fin 4) (stake : Fin 64) (a : BitVec 32) (x : Session) => s.bay.mode ≠ 0 ∧ s.bay.session j = some x ∧
      s.bay.weave.sessions.length = 4 ∧ stake.val = s.bay.node ∧ a.toNat % 4 = 0 ∧ inWindow a.toNat = false ∧ inBlock a.toNat = true ∧ x.level = 0)
        (on ({ (at5 [(F.WVE_STAT_NODE, 0)]) with weave := { sessions := [some (⟨0, 0, [], 0⟩), none, none, none] } })) 0 0 0 (⟨0, 0, [], 0⟩)) ∧
    ((fun (s : State) (j : Fin 4) (stake : Fin 64) (a : BitVec 32) (n : BitVec 32) (x : Session) (l : List Byte) => s.bay.mode ≠ 0 ∧ s.bay.session j =
      some x ∧ stake.val = s.bay.node ∧ s.bay.bulkError x.cart a.toNat n.toNat = 0 ∧ windowReadable a.toNat = true ∧
      (({ s with bay := s.bay.heardSession j x } : State).windowRead x.cart (40 + j) a.toNat n.toNat).2 = some l)
        (on ({ (at5 [(F.WVE_STAT_NODE, 0), (F.MEM_STAT_INIT_DONE 0, 1)]) with weave := { sessions := [some (⟨0, 2, [], 0⟩), none, none, none] } })) 0 0 0x12000000 0 (⟨0, 2, [], 0⟩) ([])) ∧
    ((fun (s : State) (j : Fin 4) (stake : Fin 64) (a : BitVec 32) (l : List Byte) (x : Session) => s.bay.mode ≠ 0 ∧ s.bay.session j = some x ∧
      stake.val = s.bay.node ∧ l ≠ [] ∧ s.bay.bulkError x.cart a.toNat l.length = 0 ∧ 1 ≤ x.level ∧ windowWritable a.toNat = true ∧ windowWritable
      (a.toNat + l.length - 8) = true ∧ inWindow (a.toNat + l.length - 8) = true)
        (on ({ (at5 [(F.WVE_STAT_NODE, 0), (F.MEM_STAT_INIT_DONE 0, 1)]) with weave := { sessions := [some (⟨0, 2, [], 0⟩), none, none, none] } })) 0 0 0x12000000 ([1, 2, 3, 4, 5, 6, 7, 8]) (⟨0, 2, [], 0⟩)) :=
by refine ⟨?_, ?_, ?_, ?_, ?_, ?_, ?_, ?_, ?_, ?_, ?_⟩ <;> decide +kernel

theorem test_RimStreams_inputs :
    ((fun (s : State) (j : Fin 4) (stake : Fin 64) (n : BitVec 16) (x : Session) => s.bay.mode ≠ 0 ∧ s.bay.session j = some x ∧ stake.val = s.bay.node
      ∧ n.toNat ≤ 68 ∧ (s.bay.streamOf n.toNat).holder = none ∧ (s.bay.streamOf n.toNat).mark < s.bay.streamWr n.toNat)
        (on ({ (at5 [(F.WVE_STAT_NODE, 0)]) with weave := { sessions := [some (⟨0, 2, [], 0⟩), none, none, none], streams := [(68, { wr := 32 })], q68 := [[1], [2]] } })) 0 0 68 (⟨0, 2, [], 0⟩)) ∧
    ((fun (s : State) (j : Fin 4) (stake : Fin 64) (n : BitVec 16) (x : Session) (i : Nat) => s.bay.mode ≠ 0 ∧ s.bay.session j = some x ∧ stake.val =
      s.bay.node ∧ n.toNat ≤ 68 ∧ (s.bay.streamOf n.toNat).holder = some i ∧ i ≠ j.val)
        (on ({ (at5 [(F.WVE_STAT_NODE, 0)]) with weave := { sessions := [some (⟨0, 2, [], 0⟩), none, none, none], streams := [(0, { holder := some 1 })] } })) 0 0 0 (⟨0, 2, [], 0⟩) 1) ∧
    ((fun (s : State) (j : Fin 4) (stake : Fin 64) (n : BitVec 16) (p : BitVec 64) (x : Session) => s.bay.mode ≠ 0 ∧ s.bay.session j = some x ∧
      stake.val = s.bay.node ∧ n.toNat ≤ 68 ∧ (s.bay.streamOf n.toNat).holder = some j.val ∧ s.bay.positionOk n.toNat p.toNat = true)
        (on ({ (at5 [(F.WVE_STAT_NODE, 0)]) with weave := { sessions := [some (⟨0, 2, [], 0⟩), none, none, none], streams := [(0, { holder := some 0 })] } })) 0 0 0 0 (⟨0, 2, [], 0⟩)) ∧
    ((fun (s : State) (j : Fin 4) (stake : Fin 64) (n : BitVec 16) (p : BitVec 64) (x : Session) => s.bay.mode ≠ 0 ∧ s.bay.session j = some x ∧
      stake.val = s.bay.node ∧ n.toNat ≤ 68 ∧ (s.bay.streamOf n.toNat).holder = some j.val ∧ s.bay.positionOk n.toNat p.toNat = false)
        (on ({ (at5 [(F.WVE_STAT_NODE, 0)]) with weave := { sessions := [some (⟨0, 2, [], 0⟩), none, none, none], streams := [(0, { holder := some 0 })] } })) 0 0 0 1 (⟨0, 2, [], 0⟩)) ∧
    ((fun (s : State) (j : Fin 4) (stake : Fin 64) (n : BitVec 16) (x : Session) => s.bay.mode ≠ 0 ∧ s.bay.session j = some x ∧ stake.val = s.bay.node
      ∧ n.toNat ≤ 68 ∧ (s.bay.streamOf n.toNat).holder = some j.val)
        (on ({ (at5 [(F.WVE_STAT_NODE, 0)]) with weave := { sessions := [some (⟨0, 2, [], 0⟩), none, none, none], streams := [(0, { holder := some 0, mark := 16, rd := 32 })] } })) 0 0 0 (⟨0, 2, [], 0⟩)) ∧
    ((fun (s : State) (j : Fin 4) (stake : Fin 64) (n : BitVec 16) (p : BitVec 64) (x : Session) => s.bay.mode ≠ 0 ∧ s.bay.session j = some x ∧
      stake.val = s.bay.node ∧ n.toNat = 68 ∧ (s.bay.streamOf n.toNat).holder = some j.val ∧ s.bay.positionOk n.toNat p.toNat = true)
        (on ({ (at5 [(F.WVE_STAT_NODE, 0)]) with weave := { sessions := [some (⟨0, 2, [], 0⟩), none, none, none], streams := [(68, { wr := 32, rd := 32, holder := some 0 })], q68 := [[1], [2]] } })) 0 0 68 16 (⟨0, 2, [], 0⟩)) ∧
    ((fun (s : State) (j : Fin 4) (x : Session) => s.bay.mode ≠ 0 ∧ s.bay.session j = some x)
        (on ({ (at5 []) with weave := { sessions := [some (⟨0, 2, [], 0⟩), none, none, none] } })) 0 (⟨0, 2, [], 0⟩)) :=
by refine ⟨?_, ?_, ?_, ?_, ?_, ?_, ?_⟩ <;> decide +kernel

theorem test_FieldBusFramesErrorsAndRecovery_inputs :
    ((fun (s : State) (k : Fin 2) (f : CanFrame) (o : Nat) => (s.bay.canOf k).mode = 1 ∧ (s.bay.canOf k).state = 0 ∧ (s.bay.canOf k).tec = 0 ∧
      (s.bay.canOf k).rec_ = 0 ∧ f.active = true ∧ f.standby = true ∧ f.remote = false ∧ s.bay.matching k f = some o)
        (on ({ (at5 [(F.OBJ_ID_VAL 0, 5)]) with can := [(0, { mode := 1, state := 0, tec := 0, rec_ := 0, enabled := [0] })] })) 0 (⟨false, 5, false, false, false, false, 2, [1, 2], 0, true, true⟩) 0) ∧
    ((fun (s : State) (k : Fin 2) (f : CanFrame) => (s.bay.canOf k).mode = 1 ∧ (s.bay.canOf k).state = 0 ∧ (s.bay.canOf k).tec = 0 ∧ (s.bay.canOf
      k).rec_ = 0 ∧ f.active = true ∧ f.standby = true ∧ f.remote = false ∧ s.bay.matching k f = none)
        (on ({ (at5 []) with can := [(0, { mode := 1, state := 0, tec := 0, rec_ := 0 })] })) 0 (⟨false, 5, false, false, false, false, 2, [1, 2], 0, true, true⟩)) ∧
    ((fun (s : State) (k : Fin 2) => ((s.bay.canOf k).mode = 0 ∨ (s.bay.canOf k).state = 2))
        (on ({ (at5 []) with can := [(0, { mode := 0 })] })) 0) ∧
    ((fun (s : State) (k : Fin 2) (o : Fin 128) (ago : BitVec 24) (sd : CanSend) => (s.bay.canOf k).mode = 1 ∧ (s.bay.canOf k).state = 0 ∧
      (s.bay.canOf k).owner ≠ 2 ∧ (s.bay.canOf k).tec = 5 ∧ (s.bay.canOf k).rec_ = 0 ∧ (s.bay.canOf k).sendOf o = some sd ∧ s.bay.arbFirst k
      (s.bay.now - ago.toNat) = some o.val)
        (on ({ (at5 []) with can := [(0, { mode := 1, state := 0, tec := 5, rec_ := 0, sends := [⟨0, 5, [], false, false⟩], owner := 0, enabled := [0] })] })) 0 0 0 (⟨0, 5, [], false, false⟩)) ∧
    ((fun (s : State) (k : Fin 2) (o : Fin 128) (ago : BitVec 24) (sd : CanSend) => (s.bay.canOf k).mode = 1 ∧ (s.bay.canOf k).state = 0 ∧
      (s.bay.canOf k).owner ≠ 2 ∧ (s.bay.canOf k).sendOf o = some sd ∧ sd.late = false ∧ s.bay.arbFirst k (s.bay.now - ago.toNat) = some o.val ∧
      s.bay.flag (F.OBJ_CFG_CLASS (objNo k o)) = true)
        (on ({ (at5 [(F.OBJ_CFG_CLASS (objNo 0 0), 1)]) with can := [(0, { mode := 1, state := 0, sends := [⟨0, 5, [], false, false⟩], owner := 0, enabled := [0] })] })) 0 0 0 (⟨0, 5, [], false, false⟩)) ∧
    ((fun (s : State) (k : Fin 2) (e : CanError) => (s.bay.canOf k).mode = 1 ∧ (s.bay.canOf k).state = 0 ∧ (s.bay.canOf k).tec = 0 ∧ (s.bay.canOf
      k).rec_ = 0 ∧ e.tx = true ∧ e.exempt = false ∧ e.more = 0 ∧ e.clash = none ∧ e.type = .ack)
        (on ({ (at5 []) with can := [(0, { mode := 1, state := 0, tec := 0, rec_ := 0 })] })) 0 (⟨.ack, true, false, 0, none⟩)) ∧
    ((fun (s : State) (k : Fin 2) (e : CanError) => (s.bay.canOf k).mode = 1 ∧ (s.bay.canOf k).state = 1 ∧ (s.bay.canOf k).tec = 248 ∧ (s.bay.canOf
      k).rec_ = 0 ∧ (s.bay.canOf k).sends = [] ∧ e.tx = true ∧ e.exempt = false ∧ e.more = 0 ∧ e.clash = none)
        (on ({ (at5 []) with can := [(0, { mode := 1, state := 1, tec := 248, rec_ := 0, sends := [] })] })) 0 (⟨.bit, true, false, 0, none⟩)) ∧
    ((fun (s : State) (k : Fin 2) => (s.bay.canOf k).mode ≠ 0 ∧ (s.bay.canOf k).state = 2 ∧ (s.bay.canOf k).rdyAt = none)
        (on ({ (at5 []) with can := [(0, { state := 2, rdyAt := none, mode := 1 })] })) 0) ∧
    ((fun (s : State) (k : Fin 2) (t : Nat) => (s.bay.canOf k).state = 2 ∧ (s.bay.canOf k).rdyAt = some t ∧ s.bay.rd (F.CFD_CTL_REC k) = 1 ∧ t +
      s.bay.rdN (F.CFD_REC_DLY k) * msTicks ≤ s.bay.now)
        (on ({ (at5 [(F.CFD_CTL_REC 0, 1)]) with can := [(0, { state := 2, rdyAt := some 0 })] })) 0 0) :=
by refine ⟨?_, ?_, ?_, ?_, ?_, ?_, ?_, ?_, ?_⟩ <;> decide +kernel

theorem test_FieldBusCommandsAndRates_inputs :
    ((fun (s : State) (k : Fin 2) (o : Fin 128) => s.bay.gate (F.OBJ_CTL_REQ (objNo k o)) = none ∧ s.bay.flag (F.OBJ_CFG_EN (objNo k o)) = true ∧
      s.bay.flag (F.OBJ_CFG_DIR (objNo k o)) = true ∧ s.bay.flag (F.OBJ_STAT_PEND (objNo k o)) = false)
        (on (at5 [(F.OBJ_CFG_EN (objNo 0 0), 1), (F.OBJ_CFG_DIR (objNo 0 0), 1), (F.OBJ_STAT_PEND (objNo 0 0), 0)])) 0 0) ∧
    ((fun (s : State) (k : Fin 2) (o : Fin 128) => s.bay.gate (F.OBJ_CTL_REQ (objNo k o)) = none ∧ s.bay.flag (F.OBJ_STAT_PEND (objNo k o)) = true)
        (on (at5 [(F.OBJ_STAT_PEND (objNo 0 0), 1)])) 0 0) ∧
    ((fun (s : State) (k : Fin 2) (o : Fin 128) => s.bay.gate (F.OBJ_CTL_ABORT (objNo k o)) = none ∧ ((s.bay.canOf k).sendOf o).isSome = true)
        (on ({ (at5 []) with can := [(0, { sends := [⟨0, 0, [], false, false⟩] })] })) 0 0) ∧
    ((fun (s : State) (k : Fin 2) (o : Fin 128) (sd : CanSend) => (s.bay.canOf k).sendOf o = some sd ∧ s.bay.flag (F.OBJ_CFG_CLASS (objNo k o)) = true
      ∧ sd.at_ + s.bay.rdN (F.OBJ_TMO_VAL (objNo k o)) * msTicks ≤ s.bay.now)
        (on ({ (at5 [(F.OBJ_CFG_CLASS (objNo 0 0), 1)]) with can := [(0, { sends := [⟨0, 5, [], false, false⟩] })] })) 0 0 (⟨0, 5, [], false, false⟩)) ∧
    ((fun (s : State) (k : Fin 2) => s.bay.gate (F.CFD_CTL_CLASH_CLR k) = none)
        (on (at5 [])) 0) ∧
    ((fun (s : State) (k : Fin 2) => s.bay.gate (F.CFD_CTL_REC_REQ k) = none)
        (on (at5 [])) 0) ∧
    ((fun (s : State) (k : Fin 2) => s.bay.gate (F.CFD_CTL_MODE k) = none)
        (on (at5 [])) 0) ∧
    ((fun (s : State) (k : Fin 2) => s.bay.detecting k = true ∧ s.bay.rd (F.CFD_AUTO_STAT_CAND k) = 1)
        (on ({ (at5 [(F.CFD_AUTO_STAT_CAND 0, 1)]) with can := [(0, { mode := 3 })] })) 0) ∧
    ((fun (s : State) (k : Fin 2) => s.bay.detecting k = true ∧ s.bay.rd (F.CFD_AUTO_STAT_CAND k) = 3)
        (on ({ (at5 [(F.CFD_AUTO_STAT_CAND 0, 3)]) with can := [(0, { mode := 3 })] })) 0) ∧
    ((fun (s : State) (k : Fin 2) => s.bay.detecting k = true ∧ s.bay.dataPhase k = true ∧ (s.bay.canOf k).brsSeen = false)
        (on ({ (at5 [(F.CFD_AUTO_STAT_CAND 0, 4)]) with can := [(0, { brsSeen := false, mode := 3 })] })) 0) :=
by refine ⟨?_, ?_, ?_, ?_, ?_, ?_, ?_, ?_, ?_, ?_⟩ <;> decide +kernel

theorem test_WeaveHandshakeAndFrames_inputs :
    ((fun (s : State) (p : Fin 6) => s.bay.portFitted p = true ∧ s.bay.rd (portKey p) = 0 ∧ bitOf (s.bay.rd F.TRU_FRZ_INGRESS) (p.val % 3) = false)
        (on (at5 [(portKey 0, 0)])) 0) ∧
    ((fun (s : State) (p : Fin 6) (x : PeerIn) => s.bay.portFitted p = true ∧ s.bay.rd (portKey p) = 1 ∧ x.chainOk = true ∧ x.digest =
      s.bay.plantDigest ∧ x.plane.val = portPlane p ∧ s.bay.activeRim = false)
        (on (at5 [(portKey 0, 1), (F.WVE_STAT_RIM, 0)])) 0 (⟨0, 9, true, Bay.plantDigest {}⟩)) ∧
    ((fun (s : State) (p : Fin 6) (x : PeerIn) => s.bay.portFitted p = true ∧ s.bay.rd (portKey p) = 1 ∧ x.chainOk = false)
        (on (at5 [(portKey 0, 1)])) 0 (⟨0, 9, false, []⟩)) ∧
    ((fun (s : State) (p : Fin 6) (x : PeerIn) => s.bay.portFitted p = true ∧ s.bay.rd (portKey p) = 1 ∧ x.chainOk = true ∧ x.digest ≠
      s.bay.plantDigest)
        (on (at5 [(portKey 0, 1)])) 0 (⟨0, 9, true, 0 :: Bay.plantDigest {}⟩)) ∧
    ((fun (s : State) (p : Fin 6) (f : WFrame) => s.bay.linkUp p = true ∧ f.tagOk = true ∧ f.slot.val = (s.bay.portOf p).slot ∧ (s.bay.portOf p).rxCtr
      < f.ctr.toNat ∧ f.src.toNat < 64 ∧ s.bay.weave.dup (64 * f.cls.val + f.src.toNat % 64) f.seq.toNat = false ∧ s.bay.bound = true ∧ f.dst.toNat =
      s.bay.node ∧ f.dst.toNat ≠ 0xFE)
        (on (at5 [(portKey 0, 2), (F.WVE_STAT_BOUND, 1), (F.WVE_STAT_NODE, 3)])) 0 (⟨true, 0, 5, 1, 0, 3, 2, 4, 9, 10⟩)) ∧
    ((fun (s : State) (p : Fin 6) (f : WFrame) => s.bay.linkUp p = true ∧ f.tagOk = true ∧ f.slot.val = (s.bay.portOf p).slot ∧ f.ctr.toNat ≤
      (s.bay.portOf p).rxCtr)
        (on (at5 [(portKey 0, 2)])) 0 (⟨true, 0, 0, 1, 0, 3, 2, 4, 9, 10⟩)) ∧
    ((fun (s : State) (p : Fin 6) (f : WFrame) => s.bay.linkUp p = true ∧ f.tagOk = false ∧ (s.bay.portOf p).tagT = [])
        (on (at5 [(portKey 0, 2)])) 0 (⟨false, 0, 0, 1, 0, 3, 2, 4, 9, 10⟩)) ∧
    ((fun (s : State) (p : Fin 6) (f : WFrame) => s.bay.linkUp p = true ∧ f.tagOk = true ∧ f.slot.val = (s.bay.portOf p).slot ∧ (s.bay.portOf p).rxCtr
      < f.ctr.toNat ∧ f.src.toNat < 64 ∧ s.bay.weave.dup (64 * f.cls.val + f.src.toNat % 64) f.seq.toNat = true)
        (on ({ (at5 [(portKey 0, 2)]) with weave := { seen := [(66, [9])] } })) 0 (⟨true, 0, 5, 1, 0, 3, 2, 4, 9, 10⟩)) ∧
    ((fun (s : State) (p : Fin 6) => s.bay.linkUp p = true ∧ 50 * usTicks ≤ s.bay.now - (s.bay.portOf p).lastTx)
        (on (at5 [(portKey 0, 2)])) 0) ∧
    ((fun (s : State) (p : Fin 6) => s.bay.linkUp p = true ∧ 2147483648 ≤ (s.bay.portOf p).txCtr - (s.bay.portOf p).keyCtr)
        (on ({ (at5 [(portKey 0, 2)]) with weave := { ports := [(0, { txCtr := 2147483648 })] } })) 0) ∧
    ((fun (s : State) (p : Fin 6) => s.bay.linkUp p = true ∧ (s.bay.portOf p).delays.length < 16)
        (on (at5 [(portKey 0, 2)])) 0) :=
⟨by decide +kernel, ⟨rfl, rfl, rfl, rfl, rfl, rfl⟩, by decide +kernel, ⟨rfl, rfl, rfl, (List.cons_ne_self _ _ : 0 :: Bay.plantDigest {} ≠
      Bay.plantDigest {})⟩, by decide +kernel, by decide +kernel, by decide +kernel, by decide +kernel, by decide +kernel, by decide +kernel, by
      decide +kernel⟩

theorem test_WeaveLossAndRetransmission_inputs :
    ((fun (s : State) (p : Fin 6) => s.bay.linkUp p = true ∧ s.bay.mode ≠ 0 ∧ 200 * usTicks ≤ s.bay.now - (s.bay.portOf p).lastRx)
        (on (at5 [(portKey 0, 2)])) 0) ∧
    ((fun (s : State) (p : Fin 6) => s.bay.linkUp p = true ∧ s.bay.now - (s.bay.portOf p).lastRx < 200 * usTicks)
        (on ({ (at5 [(portKey 0, 2)]) with weave := { ports := [(0, { lastRx := 999999999999 })] } })) 0) ∧
    ((fun (s : State) (plane : Fin 2) (x : Fin 64) (y : Fin 64) (r : Repair) => s.bay.mode ≠ 0 ∧ s.bay.weave.down = [] ∧ s.bay.repairOf plane x (some
      y) = some r)
        (on ({ (at5 []) with weave := { down := [], repair := [⟨0, 0, some 0, []⟩] } })) 0 0 0 (⟨0, 0, some 0, []⟩)) ∧
    ((fun (s : State) (plane : Fin 2) (x : Fin 64) (y : Option (Fin 64)) => s.bay.weave.down.contains (plane.val, x.val, y.map (·.val)) = true)
        (on ({ (at5 []) with weave := { down := [(0, 0, none)] } })) 0 0 default) ∧
    ((fun (s : State) => s.bay.weave.acks = [(65, 16, s.bay.now)])
        (on ({ (at5 []) with weave := { acks := [(65, 16, 1000000000000)] } }))) ∧
    ((fun (s : State) (u : Unacked) => s.bay.weave.unacked = [u] ∧ 2 * msTicks ≤ s.bay.now - u.sentAt ∧ u.tries < 50)
        (on ({ (at5 []) with weave := { unacked := [(⟨1, 1, 5, 0, 3, none⟩)] } })) (⟨1, 1, 5, 0, 3, none⟩)) ∧
    ((fun (s : State) (u : Unacked) (i : Nat) (tag : Int) => s.bay.weave.unacked = [u] ∧ 2 * msTicks ≤ s.bay.now - u.sentAt ∧ 50 ≤ u.tries ∧ u.rim =
      some (i, tag) ∧ s.bay.weave.asked.any (fun q => q.2.1 == i && q.2.2.1 == tag) = true)
        (on ({ (at5 []) with weave := { unacked := [(⟨1, 1, 5, 0, 50, some (0, 7)⟩)], asked := [(1, 0, 7, 0)] } })) (⟨1, 1, 5, 0, 50, some (0, 7)⟩) 0 7) ∧
    ((fun (s : State) (u : Unacked) (a : Fin 64 × Fin 3 × BitVec 32) => s.bay.weave.unacked = [u] ∧ a.1.val = u.dst ∧ a.2.1.val = u.cls ∧ u.seq ≤
      a.2.2.toNat)
        (on ({ (at5 []) with weave := { unacked := [(⟨1, 1, 5, 0, 3, none⟩)] } })) (⟨1, 1, 5, 0, 3, none⟩) ((1, 1, 6))) :=
by refine ⟨?_, ?_, ?_, ?_, ?_, ?_, ?_, ?_⟩ <;> decide +kernel

theorem test_WeaveDiscoveryAndBinding_inputs :
    ((fun (s : State) => s.bay.gate F.WVE_CTL_DISCOVER = none ∧ s.bay.activeRim = true ∧ s.bay.flag F.WVE_STAT_DISC_BUSY = false ∧ s.bay.boundTo
      (s.bay.rd F.BAY_SERIAL) = some 3)
        (on (at5 [(F.WVE_STAT_RIM, 1), (F.WVE_STAT_DISC_BUSY, 0), (F.BIND_BOUND 3, 1)]))) ∧
    ((fun (s : State) => s.bay.gate F.WVE_CTL_DISCOVER = none ∧ s.bay.activeRim = false)
        (on (at5 [(F.WVE_STAT_RIM, 0)]))) ∧
    ((fun (s : State) => s.bay.mode ≠ 0)
        (on (at5 []))) ∧
    ((fun (s : State) (ser : BitVec 64) => s.bay.activeRim = true ∧ s.bay.flag F.WVE_STAT_DISC_BUSY = true ∧ s.bay.bound = true ∧ s.bay.boundTo
      (ser.toNat : Int) = some 7)
        (on (at5 [(F.WVE_STAT_RIM, 1), (F.WVE_STAT_DISC_BUSY, 1), (F.WVE_STAT_BOUND, 1), (F.BIND_BOUND 7, 1)])) 0) ∧
    ((fun (s : State) (ser : BitVec 64) (a : Fin 64) => s.bay.activeRim = true ∧ s.bay.flag F.WVE_STAT_DISC_BUSY = true ∧ s.bay.boundTo (ser.toNat :
      Int) = none ∧ s.bay.flag (F.BIND_BOUND a) = false)
        (on (at5 [(F.WVE_STAT_RIM, 1), (F.WVE_STAT_DISC_BUSY, 1), (F.BIND_BOUND 0, 0)])) 0 0) ∧
    ((fun (s : State) (a : Fin 64) (c : Fin 64) => s.bay.activeRim = true ∧ a ≠ c ∧ s.bay.weave.waitAck = [a.val, c.val])
        (on ({ (at5 [(F.WVE_STAT_RIM, 1)]) with weave := { waitAck := [0, 1] } })) 0 1) ∧
    ((fun (s : State) (a : Fin 64) => s.bay.activeRim = true ∧ s.bay.weave.waitAck = [a.val])
        (on ({ (at5 [(F.WVE_STAT_RIM, 1)]) with weave := { waitAck := [0] } })) 0) ∧
    ((fun (s : State) => s.bay.gate F.WVE_BIND_CTL_UNBIND = none ∧ s.bay.rimConfigured = true)
        (on (at5 [(F.WVE_RIM_CFG_ROLE, 1)]))) :=
by refine ⟨?_, ?_, ?_, ?_, ?_, ?_, ?_, ?_⟩ <;> decide +kernel

theorem test_WeaveEventsAndRim_inputs :
    ((fun (s : State) (t : Nat) (e : Fin 65) => s.bay.mode ≠ 0 ∧ e.val < 64 ∧ s.bay.now < ceilTo frameTicks (t + 400 * usTicks))
        (on (at5 [])) 1000000000000 0) ∧
    ((fun (s : State) (t : Nat) (e : Fin 65) => s.bay.mode ≠ 0 ∧ e.val < 64 ∧ ceilTo frameTicks (t + 400 * usTicks) ≤ s.bay.now)
        (on (at5 [])) 0 0) ∧
    ((fun (s : State) => s.bay.mode ≠ 0 ∧ s.bay.activeRim = false)
        (on (at5 [(F.WVE_STAT_RIM, 0)]))) ∧
    ((fun (s : State) => s.bay.mode ≠ 0 ∧ s.bay.activeRim = true ∧ s.bay.rd F.WVE_RIM_CFG_ROLE = 2)
        (on (at5 [(F.WVE_STAT_RIM, 1), (F.WVE_RIM_CFG_ROLE, 2)]))) ∧
    ((fun (s : State) => s.bay.rd F.WVE_STAT_RIM = 2 ∧ s.bay.rd F.WVE_RIM_CFG_ROLE = 2 ∧ 50 * msTicks ≤ s.bay.now - s.bay.weave.hbAt.getD 0)
        (on (at5 [(F.WVE_STAT_RIM, 2), (F.WVE_RIM_CFG_ROLE, 2)]))) ∧
    ((fun (s : State) => s.bay.gate F.WVE_CTL_RIM_TAKE = none ∧ s.bay.rd F.WVE_RIM_CFG_ROLE = 1 ∧ s.bay.rd F.WVE_STAT_RIM = 2)
        (on (at5 [(F.WVE_RIM_CFG_ROLE, 1), (F.WVE_STAT_RIM, 2)]))) ∧
    ((fun (s : State) => s.bay.gate F.WVE_CTL_RIM_TAKE = none ∧ s.bay.rd F.WVE_RIM_CFG_ROLE = 2)
        (on (at5 [(F.WVE_RIM_CFG_ROLE, 2)]))) ∧
    ((fun (s : State) => s.bay.activeRim = true ∧ s.bay.bound = true)
        (on (at5 [(F.WVE_STAT_RIM, 1), (F.WVE_STAT_BOUND, 1)]))) :=
by refine ⟨?_, ?_, ?_, ?_, ?_, ?_, ?_, ?_⟩ <;> decide +kernel

theorem test_SealsAndAttestation_inputs :
    ((fun (s : State) (c : Fin 64) (d : SealDue) (l : List SealDue) => (s.bay.ringOf c).sealDue = d :: l ∧ (∃ x ∈ s.bay.carts, s.bay.trust.rkeyIn.getD
      x false = true ∧ s.bay.trust.se.getD x false = true))
        (on ({ (at5 []) with trust := { rkeyIn := [true, true] }, ring := [(0, { sealDue := (⟨5, 10, 0, 0, []⟩) :: ([]) })] })) 0 (⟨5, 10, 0, 0, []⟩) ([])) ∧
    ((fun (s : State) (c : Fin 64) (d : SealDue) (l : List SealDue) => (s.bay.ringOf c).sealDue = d :: l ∧ (∀ x ∈ s.bay.carts, s.bay.trust.se.getD x
      false = false) ∧ s.bay.mode = Mode.standby)
        (on ({ (at5 [(F.BAY_STAT_MODE, Mode.standby)]) with trust := { se := [false, false] }, ring := [(0, { sealDue := (⟨5, 10, 0, 0, []⟩) :: ([]) })] })) 0 (⟨5, 10, 0, 0, []⟩) ([])) ∧
    ((fun (s : State) => s.bay.gate F.TRU_CTL_ATT_GO = none)
        (on (at5 []))) ∧
    ((fun (s : State) => s.bay.flag F.TRU_ATT_STAT_BUSY = true ∧ s.bay.carts = [0, 1] ∧ s.bay.joining 0 = false ∧ s.bay.joining 1 = false ∧
      s.bay.trust.quotes = [[], []])
        (on ({ (at5 [(F.TRU_ATT_STAT_BUSY, 1)]) with trust := { quotes := [[], []] } }))) :=
by refine ⟨?_, ?_, ?_, ?_⟩ <;> decide +kernel

theorem test_EnrolmentRecordKeyAndQuarantine_inputs :
    ((fun (s : State) (d : Bool) => s.bay.gate F.TRU_CTL_ENR_GO = none ∧ s.bay.judgeEnrol s.bay.enrBytes d = 0 ∧ s.bay.now < u64At s.bay.enrBytes
      0x10)
        (on (at5 [(F.BAY_STAT_MODE, 2), (F.TRU_ENR_LEN, 232), (F.ENRBUF 0, 0x00011303), (F.ENRBUF 1, 0xFF00), (F.ENRBUF 5, 1000), (F.ENRBUF 6, 1), (F.TRU_ENR_STAT_WINDOW, 1)])) false) ∧
    ((fun (s : State) (d : Bool) => s.bay.gate F.TRU_CTL_ENR_GO = none ∧ s.bay.judgeEnrol s.bay.enrBytes d = 0 ∧ u64At s.bay.enrBytes 0x10 ≤ s.bay.now
      ∧ byteAt s.bay.enrBytes 2 = 1 ∧ byteAt s.bay.enrBytes 3 = 6)
        (on (at5 [(F.BAY_STAT_MODE, 2), (F.TRU_ENR_LEN, 232), (F.ENRBUF 0, 0x06011303), (F.ENRBUF 1, 0xFF00), (F.ENRBUF 6, 1), (F.TRU_ENR_STAT_WINDOW, 1), (F.ENRBUF 8, 1)])) false) ∧
    ((fun (s : State) (d : Bool) (r : Nat) => s.bay.gate F.TRU_CTL_ENR_GO = none ∧ s.bay.judgeEnrol s.bay.enrBytes d = r ∧ r ≠ 0)
        (on (at5 [])) false 1) ∧
    ((fun (s : State) (e : Enrol) => s.bay.trust.pend = [e] ∧ e.effect ≤ s.bay.now ∧ e.op = 1 ∧ e.slot = 5 ∧ e.key ≠ [])
        (on ({ (at5 []) with trust := { pend := [⟨1, 5, 15, 0, 1, [4]⟩] } })) (⟨1, 5, 15, 0, 1, [4]⟩)) ∧
    ((fun (s : State) (e : Enrol) => s.bay.trust.pend = [e] ∧ e.effect ≤ s.bay.now ∧ e.op = 2 ∧ e.slot = 5)
        (on ({ (at5 []) with trust := { pend := [⟨2, 5, 15, 0, 1, [4]⟩] } })) (⟨2, 5, 15, 0, 1, [4]⟩)) ∧
    ((fun (s : State) (ms : Nat) => ((s.bay.mode = Mode.attest ∨ s.bay.mode = Mode.quarantine)) ∧ s.bay.windowOpen = false ∧ 3000 ≤ ms)
        (on (at5 [(F.BAY_STAT_MODE, 2)])) 3000) ∧
    ((fun (s : State) (ms : Nat) => ((s.bay.mode = Mode.attest ∨ s.bay.mode = Mode.quarantine)) ∧ s.bay.windowOpen = true ∧ 100 ≤ ms)
        (on (at5 [(F.BAY_STAT_MODE, 2), (F.TRU_ENR_STAT_WINDOW, 1)])) 100) ∧
    ((fun (s : State) (t : Nat) => s.bay.trust.winEnd = some t ∧ t ≤ s.bay.now)
        (on ({ (at5 []) with trust := { winEnd := some 0 } })) 0) ∧
    ((fun (s : State) => s.bay.gate F.TRU_CTL_RKEY_NEW = none ∧ s.bay.mode = Mode.service ∧ s.bay.anyCell = false ∧ s.bay.carts = [0, 1])
        (on (at5 [(F.BAY_STAT_MODE, Mode.service)]))) ∧
    ((fun (s : State) => s.bay.gate F.TRU_CTL_RKEY_NEW = none ∧ s.bay.mode = Mode.service ∧ s.bay.anyCell = true)
        (on (at5 [(F.BAY_STAT_MODE, Mode.service), (F.CHN_REG_STAT_CELL 0, 1)]))) ∧
    ((fun (s : State) => s.bay.gate F.TRU_CTL_VER_REBUILD = none ∧ s.bay.mode = Mode.quarantine ∧ bitOf (s.bay.rd F.TRU_QCAUSE_MASK) 2 = true)
        (on (at5 [(F.BAY_STAT_MODE, Mode.quarantine), (F.TRU_QCAUSE_MASK, 4)]))) ∧
    ((fun (s : State) => s.bay.gate F.TRU_CTL_Q_RESTART = none ∧ s.bay.mode = Mode.quarantine ∧ s.bay.flag F.TRU_STAT_CLR_ARMED = true ∧
      s.bay.allRemedied = true)
        (on (at5 [(F.BAY_STAT_MODE, Mode.quarantine), (F.TRU_STAT_CLR_ARMED, 1)]))) ∧
    ((fun (s : State) => s.bay.gate F.TRU_CTL_Q_RESTART = none ∧ s.bay.mode = Mode.quarantine ∧ s.bay.flag F.TRU_STAT_CLR_ARMED = false)
        (on (at5 [(F.BAY_STAT_MODE, Mode.quarantine), (F.TRU_STAT_CLR_ARMED, 0)]))) ∧
    ((fun (s : State) => s.bay.mode = Mode.quarantine)
        (on (at5 [(F.BAY_STAT_MODE, Mode.quarantine)]))) :=
by refine ⟨?_, ?_, ?_, ?_, ?_, ?_, ?_, ?_, ?_, ?_, ?_, ?_, ?_, ?_⟩ <;> decide +kernel

theorem test_FirewallAndFirmware_inputs :
    ((fun (s : State) (m : BitVec 8) => s.bay.gate F.TRU_REL_ID = none ∧ s.bay.flag F.TRU_STAT_REL_ARMED = true ∧ 8 ≤ m.toNat ∧ m.toNat ≤ 23)
        (on (at5 [(F.TRU_STAT_REL_ARMED, 1)])) 8) ∧
    ((fun (s : State) (m : BitVec 8) => s.bay.gate F.TRU_REL_ID = none ∧ s.bay.flag F.TRU_STAT_REL_ARMED = true ∧ m.toNat = 35)
        (on (at5 [(F.TRU_STAT_REL_ARMED, 1)])) 35) ∧
    ((fun (s : State) => s.bay.gate F.TRU_REL_ID = none ∧ s.bay.flag F.TRU_STAT_REL_ARMED = false)
        (on (at5 [(F.TRU_STAT_REL_ARMED, 0)]))) ∧
    ((fun (s : State) => s.bay.gate F.TRU_CTL_FW_PREF_A = none ∧ s.bay.mode = Mode.service ∧ s.bay.carts = [0, 1] ∧ s.bay.flag F.TRU_FW_CA_A_OK = true
      ∧ s.bay.flag F.TRU_FW_CB_A_OK = true ∧ s.bay.trust.pref.length = 2)
        (on (at5 [(F.BAY_STAT_MODE, Mode.service), (F.TRU_FW_CA_A_OK, 1), (F.TRU_FW_CB_A_OK, 1)]))) ∧
    ((fun (s : State) => s.bay.gate F.TRU_CTL_FW_PREF_B = none ∧ s.bay.mode = Mode.service ∧ s.bay.carts = [0, 1] ∧ s.bay.flag F.TRU_FW_CA_B_OK = true
      ∧ s.bay.flag F.TRU_FW_CB_B_OK = true ∧ s.bay.trust.pref.length = 2)
        (on (at5 [(F.BAY_STAT_MODE, Mode.service), (F.TRU_FW_CA_B_OK, 1), (F.TRU_FW_CB_B_OK, 1)]))) ∧
    ((fun (s : State) => s.bay.gate F.TRU_CTL_FW_PREF_B = none ∧ s.bay.mode = Mode.standby)
        (on (at5 [(F.BAY_STAT_MODE, Mode.standby)]))) ∧
    ((fun (s : State) => s.bay.gate F.TRU_FWU_CTL_CHUNK = none ∧ s.bay.fwuRefused = none)
        (on (at5 []))) ∧
    ((fun (s : State) (r : Int) => s.bay.gate F.TRU_FWU_CTL_CHUNK = none ∧ s.bay.fwuRefused = some r)
        (on (at5 [(F.TRU_FWU_STAT_BUSY, 1)])) 4) ∧
    ((fun (s : State) => s.bay.trust.fwuOp = 1 ∧ s.bay.carts = [0] ∧ s.bay.rd F.TRU_FW_CA_RUN = 0)
        (on ({ (at5 [(F.TRU_FW_CA_RUN, 0), (F.BAY_SLOTS_CB, 0)]) with trust := { fwuOp := 1 } }))) ∧
    ((fun (s : State) => s.bay.gate F.TRU_FWU_CTL_VERIFY = none ∧ s.bay.fwuRefused = none)
        (on (at5 []))) ∧
    ((fun (s : State) => s.bay.trust.fwuOp = 2 ∧ s.bay.carts = [0] ∧ s.bay.rd F.TRU_FW_CA_RUN = 0)
        (on ({ (at5 [(F.TRU_FW_CA_RUN, 0), (F.BAY_SLOTS_CB, 0)]) with trust := { fwuOp := 2 } }))) ∧
    ((fun (s : State) => s.bay.gate F.TRU_FWU_CTL_RESTART = none ∧ s.bay.fwuRefused = none ∧ s.bay.mode = Mode.service ∧ s.bay.rd
      F.PWR_ENTRY_STAT_STATE = 0 ∧ s.bay.flag F.TRU_FWU_STAT_VERIFIED = true ∧ s.bay.carts = [0, 1] ∧ s.bay.trust.pref.length = 2)
        (on (at5 [(F.BAY_STAT_MODE, Mode.service), (F.PWR_ENTRY_STAT_STATE, 0), (F.TRU_FWU_STAT_VERIFIED, 1)]))) ∧
    ((fun (s : State) => s.bay.gate F.TRU_FWU_CTL_RESTART = none ∧ s.bay.fwuRefused = none ∧ s.bay.flag F.TRU_FWU_STAT_VERIFIED = false)
        (on (at5 [(F.TRU_FWU_STAT_VERIFIED, 0)]))) :=
by refine ⟨?_, ?_, ?_, ?_, ?_, ?_, ?_, ?_, ?_, ?_, ?_, ?_, ?_⟩ <;> decide +kernel

theorem test_SafetyCycleTestsAndResets_inputs :
    ((fun (s : State) (i : Fin 8) => 2 * s.bay.rdN (F.PAIR_CFG0_T_DISC i) < (s.bay.safe.pair i).discCnt ∧ (s.bay.safe.pair i).disc = false ∧
      s.bay.safe.pairs.length = 8 ∧ s.bay.safe.faults = [])
        (on ({ (at5 []) with safe := { faults := [], pairs := [{ discCnt := 10 }, {}, {}, {}, {}, {}, {}, {}] } })) 0) ∧
    ((fun (s : State) (i : Fin 8) (t : Nat) => (s.bay.safe.pair i).stopAt = some t ∧ t ≤ s.bay.safe.cycle ∧ s.bay.safe.pairs.length = 8)
        (on ({ (at5 []) with safe := { pairs := [{ stopAt := some 0 }, {}, {}, {}, {}, {}, {}, {}] } })) 0 0) ∧
    ((fun (s : State) (i : Fin 8) (t : Nat) => (s.bay.safe.pair i).stopAt = some t ∧ s.bay.safe.cycle < t)
        (on ({ (at5 []) with safe := { pairs := [{ stopAt := some 5 }, {}, {}, {}, {}, {}, {}, {}] } })) 0 5) ∧
    ((fun (s : State) => s.bay.safe.faults = [])
        (on ({ (at5 []) with safe := { faults := [] } }))) ∧
    ((fun (s : State) (j : Fin 4) => s.bay.rd (F.OUT_CFG_CHECK j) = 2 ∧ s.bay.safe.faults = [])
        (on ({ (at5 [(F.OUT_CFG_CHECK 0, 2)]) with safe := { faults := [] } })) 0) ∧
    ((fun (s : State) (k : Fin 6) => s.bay.lineTestable (k + 1) = true ∧ s.bay.lineTestDue (k + 1) = true ∧ s.bay.safe.lineT.length = 7)
        (on ({ (at5 []) with safe := { lineDue := 2 } })) 0) ∧
    ((fun (s : State) (k : Fin 6) => s.bay.lineTestable (k + 1) = true ∧ s.bay.lineTestDue (k + 1) = true ∧ s.bay.safe.faults = [])
        (on ({ (at5 []) with safe := { faults := [], lineDue := 2 } })) 0) ∧
    ((fun (s : State) => 2592000 * secTicks ≤ s.bay.oldestLine ∧ s.bay.flag F.SAFE_STAT_LTEST_DUE = false)
        (on ({ (at5 [(F.SAFE_STAT_LTEST_DUE, 0)]) with now := 500000000000000 }))) ∧
    ((fun (s : State) (j : Fin 4) => s.bay.rd (F.OUT_CFG_CHECK j) = 1 ∧ s.bay.safe.outT.getD j 0 + 2 * s.bay.rdN (F.OUT_CFG_T_FB j) ≤ s.bay.safe.cycle
      ∧ (s.bay.rdN F.SAFE_OUT_ON).testBit j = bitOf (s.bay.rd F.SAFE_OUT_FB) j ∧ s.bay.safe.faults = [])
        (on ({ (at5 [(F.OUT_CFG_CHECK 0, 1)]) with safe := { faults := [] } })) 0) ∧
    ((fun (s : State) (ms : Nat) (skew : Nat) => skew ≤ 20 ∧ 100 ≤ ms ∧ ms ≤ 5000 ∧ s.bay.flag F.SAFE_RST_STUCK = false ∧ s.bay.flag
      F.SAFE_RST_BLOCKED = false ∧ s.bay.safe.handover = none)
        (on ({ (at5 [(F.SAFE_RST_STUCK, 0), (F.SAFE_RST_BLOCKED, 0)]) with safe := { handover := none } })) 100 0) ∧
    ((fun (ms : Nat) (skew : Nat) => skew ≤ 20 ∧ ((ms < 100 ∨ 5000 < ms)))
        0 0) ∧
    ((fun (s : State) => 10000 ≤ s.bay.safe.heldCnt ∧ s.bay.flag F.SAFE_RST_STUCK = false ∧ s.bay.safe.faults = [])
        (on ({ (at5 [(F.SAFE_RST_STUCK, 0)]) with safe := { faults := [], heldCnt := 10000 } }))) :=
by refine ⟨?_, ?_, ?_, ?_, ?_, ?_, ?_, ?_, ?_, ?_, ?_, ?_⟩ <;> decide +kernel

theorem test_SafetySupplyHandoverAndRejoin_inputs :
    ((fun (s : State) => s.bay.safe.faults = [] ∧ (∀ i < 8, s.bay.eval i ≠ 0) ∧ s.bay.safe.pairs.length = 8)
        (on ({ (at5 [(F.SAFE_LINES_ON, 127), (F.PAIR_CFG0_EVAL 0, 1), (F.PAIR_CFG0_EVAL 1, 1), (F.PAIR_CFG0_EVAL 2, 1), (F.PAIR_CFG0_EVAL 3, 1), (F.PAIR_CFG0_EVAL 4, 1), (F.PAIR_CFG0_EVAL 5, 1), (F.PAIR_CFG0_EVAL 6, 1), (F.PAIR_CFG0_EVAL 7, 1)]) with safe := { faults := [] } }))) ∧
    ((fun (s : State) => s.bay.gate F.SAFE_CTL_HO_CA = none ∧ s.bay.rd F.SAFE_STAT_MODE = 1 ∧ s.bay.safe.handover = none)
        (on ({ (at5 [(F.SAFE_STAT_MODE, 1)]) with safe := { handover := none } }))) ∧
    ((fun (s : State) => s.bay.gate F.SAFE_CTL_HO_CB = none ∧ s.bay.rd F.SAFE_STAT_MODE = 1 ∧ s.bay.safe.handover = none)
        (on ({ (at5 [(F.SAFE_STAT_MODE, 1)]) with safe := { handover := none } }))) ∧
    ((fun (s : State) => s.bay.gate F.SAFE_CTL_HO_CA = none ∧ s.bay.rd F.SAFE_STAT_MODE = 2)
        (on (at5 [(F.SAFE_STAT_MODE, 2)]))) ∧
    ((fun (s : State) => s.bay.rd F.SAFE_STAT_MODE = 1 ∧ s.bay.safe.handover = none ∧ s.bay.safe.faults = [])
        (on ({ (at5 [(F.SAFE_STAT_MODE, 1)]) with safe := { handover := none, faults := [] } }))) ∧
    ((fun (s : State) => s.bay.rd F.SAFE_STAT_MODE = 1 ∧ s.bay.safe.faults = [])
        (on ({ (at5 [(F.SAFE_STAT_MODE, 1)]) with safe := { faults := [] } }))) ∧
    ((fun (s : State) => s.bay.rd F.SAFE_STAT_MODE = 2 ∧ s.bay.safe.degr ≤ 7200000 ∧ s.bay.flag F.SAFE_STAT_DEGR_WARN = false)
        (on (at5 [(F.SAFE_STAT_MODE, 2), (F.SAFE_STAT_DEGR_WARN, 0)]))) ∧
    ((fun (s : State) => s.bay.rd F.SAFE_STAT_MODE = 3 ∧ s.bay.safe.degr = 0 ∧ s.bay.safe.expired = false ∧ s.bay.safe.faults = [] ∧ s.bay.mode =
      Mode.energized ∧ (∀ i < 8, s.bay.eval i ≠ 0) ∧ s.bay.safe.pairs.length = 8)
        (on ({ (at5 [(F.BAY_STAT_MODE, Mode.energized), (F.SAFE_STAT_MODE, 3), (F.SAFE_LINES_ON, 127), (F.PAIR_CFG0_EVAL 0, 1), (F.PAIR_CFG0_EVAL 1, 1), (F.PAIR_CFG0_EVAL 2, 1), (F.PAIR_CFG0_EVAL 3, 1), (F.PAIR_CFG0_EVAL 4, 1), (F.PAIR_CFG0_EVAL 5, 1), (F.PAIR_CFG0_EVAL 6, 1), (F.PAIR_CFG0_EVAL 7, 1)]) with safe := { degr := 0, expired := false, faults := [] } }))) ∧
    ((fun (s : State) => s.bay.rd F.SAFE_STAT_MODE = 0 ∧ s.bay.safe.active.isSome = true ∧ s.bay.rd F.SAFE_STAT_CHA_OK = 1 ∧ s.bay.rd
      F.SAFE_STAT_CHB_OK = 1 ∧ s.bay.safe.stopped = none)
        (on ({ (at5 [(F.SAFE_STAT_MODE, 0), (F.SAFE_STAT_CHA_OK, 1), (F.SAFE_STAT_CHB_OK, 1)]) with safe := { stopped := none, active := some ⟨[], 0, []⟩ } }))) ∧
    ((fun (s : State) => s.bay.safe.faults = [])
        (on ({ (at5 []) with safe := { faults := [] } }))) ∧
    ((fun (s : State) (x : Fin 2) (n : Nat) => s.bay.safe.rejoin = some (x.val, n) ∧ 100 ≤ n ∧ s.bay.flag (chOk x) = true)
        (on ({ (at5 [(chOk 0, 1)]) with safe := { rejoin := some (0, 100) } })) 0 100) ∧
    ((fun (s : State) (p : SafeSet) => s.bay.gate F.SAFE_CTL_ACTIVATE = none ∧ s.bay.mayActivate = true ∧ s.bay.safe.pend = some p)
        (on ({ (at5 [(F.BAY_STAT_MODE, 10), (F.SAFE_STAT_PEND_OK, 1), (F.SAFE_STAT_CHA_OK, 1), (F.SAFE_STAT_CHB_OK, 1), (F.SAFE_STAT_XLINK_OK, 1)]) with safe := { pend := some ⟨[], 3, []⟩ } })) (⟨[], 3, []⟩)) ∧
    ((fun (s : State) => s.bay.gate F.SAFE_CTL_ACTIVATE = none ∧ s.bay.mode ≠ Mode.service)
        (on (at5 []))) :=
by refine ⟨?_, ?_, ?_, ?_, ?_, ?_, ?_, ?_, ?_, ?_, ?_, ?_, ?_⟩ <;> decide +kernel

theorem test_TemperaturesAndShutdown_inputs :
    ((fun (s : State) (v : Int) => -4000 ≤ v ∧ v ≤ 20000 ∧ s.bay.therm.invalid = [])
        (on ({ (at5 []) with therm := { invalid := [] } })) 0) ∧
    ((fun (s : State) (c : Fin 64) => s.bay.walePresent (waleOf c) = true ∧ s.bay.therm.invalid = [])
        (on ({ (at5 []) with therm := { invalid := [] } })) 0) ∧
    ((fun (s : State) (x : Fin 2) (v : Int) => s.bay.cPresent x = true ∧ 12000 ≤ v ∧ v ≤ 20000 ∧ s.bay.red.out = [] ∧ s.bay.red.silent = [] ∧
      s.bay.red.wins = [] ∧ s.bay.red.joiner = none)
        (on ({ (at5 []) with red := { out := [], silent := [], wins := [], joiner := none } })) 0 12000) ∧
    ((fun (s : State) (n : Fin 6) => s.bay.sensorFitted (.plate n) = true ∧ s.bay.therm.tripped = [] ∧ s.bay.flag F.THM_STAT_TSD = false ∧ s.bay.mode
      = Mode.energized)
        (on ({ (at5 [(F.BAY_STAT_MODE, Mode.energized), (F.THM_STAT_TSD, 0)]) with therm := { tripped := [] } })) 0) ∧
    ((fun (s : State) (x : Sensor) (t : Nat) => s.bay.therm.slowSince = [(sensorId x, t)] ∧ s.bay.therm.fast = [sensorId x] ∧ secTicks ≤ s.bay.now -
      t)
        (on ({ (at5 []) with therm := { slowSince := [(sensorId (.cell 0 0), 0)], fast := [sensorId (.cell 0 0)] } })) (.cell 0 0) 0) ∧
    ((fun (s : State) (t : Nat) => s.bay.therm.flowLow = some t ∧ 5 * secTicks ≤ s.bay.now - t ∧ s.bay.therm.tripped = [] ∧ s.bay.flag F.THM_STAT_TSD
      = false ∧ s.bay.mode = Mode.energized)
        (on ({ (at5 [(F.BAY_STAT_MODE, Mode.energized), (F.THM_STAT_TSD, 0)]) with therm := { flowLow := some 0, tripped := [] } })) 0) ∧
    ((fun (s : State) (t : Nat) => s.bay.therm.flowLow = some t ∧ s.bay.now - t < 5 * secTicks)
        (on ({ (at5 []) with therm := { flowLow := some 999999999999 } })) 999999999999) ∧
    ((fun (s : State) (k : Fin 5) => s.bay.therm.invalid = [517 + k.val] ∧ s.bay.therm.compFrozen = [])
        (on ({ (at5 []) with therm := { invalid := [517 + 0], compFrozen := [] } })) 0) ∧
    ((fun (s : State) => s.bay.therm.invalid = [])
        (on ({ (at5 []) with therm := { invalid := [] } }))) ∧
    ((fun (s : State) => s.bay.flag F.THM_STAT_TSD = true)
        (on (at5 [(F.THM_STAT_TSD, 1)]))) ∧
    ((fun (s : State) => s.bay.gate F.THM_CTL_TSD_CLR = none ∧ s.bay.flag F.THM_STAT_CLR_ARMED = true ∧ s.bay.tripsClear = true)
        (on (at5 [(F.THM_STAT_CLR_ARMED, 1), (F.THM_FLOW, 600)]))) ∧
    ((fun (s : State) => s.bay.gate F.THM_CTL_TSD_CLR = none ∧ s.bay.flag F.THM_STAT_CLR_ARMED = false)
        (on (at5 [(F.THM_STAT_CLR_ARMED, 0)]))) ∧
    ((fun (s : State) => s.bay.gate F.THM_CTL_TSD_CLR = none ∧ s.bay.flag F.THM_STAT_CLR_ARMED = true ∧ s.bay.tripsClear = false)
        (on (at5 [(F.THM_STAT_CLR_ARMED, 1)]))) :=
by refine ⟨?_, ?_, ?_, ?_, ?_, ?_, ?_, ?_, ?_, ?_, ?_, ?_, ?_⟩ <;> decide +kernel

theorem test_PairingLossAndJoining_inputs :
    ((fun (s : State) => s.bay.flag F.RED_STAT_LANE0 = true ∧ s.bay.anyJoining = false)
        (on (at5 [(F.RED_STAT_LANE0, 1)]))) ∧
    ((fun (s : State) (x : Fin 2) => s.bay.red.silent = [] ∧ s.bay.red.out = [] ∧ s.bay.red.wins = [] ∧ s.bay.red.joiner = none ∧ s.bay.role (other x)
      = 2)
        (on ({ (at5 [(roleKey (other 0), 2)]) with red := { silent := [], out := [], wins := [], joiner := none } })) 0) ∧
    ((fun (s : State) => s.bay.anyLane = false ∧ s.bay.role 0 = 3 ∧ s.bay.role 1 = 2 ∧ s.bay.anyJoining = false ∧ s.bay.red.wins = [] ∧ s.bay.red.out
      = [])
        (on ({ (at5 [(roleKey 0, 3), (roleKey 1, 2)]) with red := { wins := [], out := [] } }))) ∧
    ((fun (s : State) (x : Fin 2) => s.bay.joining x = true ∧ s.bay.rd F.RED_STAT_SYNC = 1)
        (on ({ (at5 [(F.RED_STAT_SYNC, 1)]) with red := { joiner := some 0 } })) 0) ∧
    ((fun (s : State) (x : Nat) => x < 2 ∧ s.bay.red.joiner = some x ∧ s.bay.joining x = true ∧ s.bay.rd F.RED_STAT_SYNC = 3 ∧ (s.mem.ram (other x)
      0).errs = [])
        (on ({ (at5 [(F.RED_STAT_SYNC, 3)]) with red := { joiner := some 0 } })) 0) ∧
    ((fun (s : State) (x : Nat) => x < 2 ∧ s.bay.red.joiner = some x ∧ s.bay.joining x = true ∧ s.bay.rd F.RED_STAT_SYNC = 4)
        (on ({ (at5 [(F.RED_STAT_SYNC, 4)]) with red := { joiner := some 0 } })) 0) ∧
    ((fun (s : State) => s.bay.red.joiner = some 1 ∧ s.bay.joining 1 = true ∧ s.bay.rd F.RED_STAT_SYNC = 5 ∧ 10000 ≤ (s.bay.now - s.bay.red.cleanT0) /
      msTicks)
        (on ({ (at5 [(F.RED_STAT_SYNC, 5)]) with red := { joiner := some 1 } }))) ∧
    ((fun (s : State) (x : Nat) => s.bay.red.joiner = some x ∧ s.bay.joining x = true ∧ s.bay.rd F.RED_STAT_SYNC = 5 ∧ (s.bay.now - s.bay.red.cleanT0)
      / msTicks < 10000)
        (on ({ (at5 [(F.RED_STAT_SYNC, 5)]) with red := { joiner := some 0, cleanT0 := 1000000000000 } })) 0) :=
by refine ⟨?_, ?_, ?_, ?_, ?_, ?_, ?_, ?_⟩ <;> decide +kernel

theorem test_ResyncSwapStrobesAndRepair_inputs :
    ((fun (s : State) => s.bay.gate F.RED_CTL_RESYNC = none ∧ s.bay.anyJoining = true ∧ s.bay.rd F.RED_STAT_SYNC = 5)
        (on ({ (at5 [(F.RED_STAT_SYNC, 5)]) with red := { joiner := some 0 } }))) ∧
    ((fun (s : State) => s.bay.gate F.RED_CTL_RESYNC = none ∧ s.bay.anyJoining = false)
        (on (at5 []))) ∧
    ((fun (s : State) => s.bay.gate F.RED_CTL_SWAP = none ∧ s.bay.lockstep = true ∧ s.bay.red.wins = [])
        (on ({ (at5 [(roleKey 0, 3), (roleKey 1, 2), (F.RED_STAT_LANE0, 1)]) with red := { wins := [] } }))) ∧
    ((fun (s : State) => s.bay.gate F.RED_CTL_SWAP = none ∧ s.bay.lockstep = false)
        (on (at5 []))) ∧
    ((fun (s : State) (x : Nat) => x < 2 ∧ s.bay.red.joiner = some x ∧ s.bay.rd F.RED_STAT_SYNC = 7 ∧ s.bay.rd F.RED_FLT_CAUSE = 7 ∧ s.bay.rd
      (fwSvnMin x) ≤ s.bay.rd (fwSvn (other x)) ∧ s.bay.role (other x) = 3 ∧ s.bay.rd (fwRun x) = 0)
        (on ({ (at5 [(F.RED_STAT_SYNC, 7), (F.RED_FLT_CAUSE, 7), (roleKey (other 0), 3), (fwRun 0, 0)]) with red := { joiner := some 0 } })) 0) ∧
    ((fun (s : State) (n : Fin 6) => s.bay.slotFitted n = true ∧ (s.bay.slotOf n).strobe = 1)
        (on ({ (at5 []) with slotv := [(0, { strobe := 1 })] })) 0) ∧
    ((fun (s : State) (n : Fin 6) => s.bay.slotFitted n = true)
        (on (at5 [])) 0) ∧
    ((fun (s : State) => s.bay.flag F.TIME_STAT_HOLDOVER = false ∧ s.bay.rd F.TIME_STAT_SRC = 0 ∧ s.bay.flag F.TIME_STAT_FREE_RUN = false)
        (on (at5 [(F.TIME_STAT_HOLDOVER, 0), (F.TIME_STAT_SRC, 0), (F.TIME_STAT_FREE_RUN, 0)]))) ∧
    ((fun (s : State) => s.bay.flag F.TIME_STAT_HOLDOVER = false ∧ s.bay.rd F.TIME_STAT_SRC = 2)
        (on (at5 [(F.TIME_STAT_HOLDOVER, 0), (F.TIME_STAT_SRC, 2)]))) ∧
    ((fun (s : State) (x : Fin 2) (w : Nat) => s.mem.badAt x 0 w = true ∧ s.partnerHas x w = true ∧ s.bay.anyLane = true)
        { bay := (at5 [(F.RED_STAT_LANE0, 1)]), mem := { ca := { dram := { errs := [(0x400000, .double)] } } } } 0 0x400000) :=
by refine ⟨?_, ?_, ?_, ?_, ?_, ?_, ?_, ?_, ?_, ?_⟩ <;> decide +kernel

theorem test_MemoryScrubbingAndInjection_inputs :
    ((fun (s : State) (x : Fin 2) => s.bay.gate (F.MEM_CTL_SCR_GO x) = none ∧ s.bay.memHalf x = true ∧ s.bay.flag (F.MEM_STAT_SCR_BUSY x) = false ∧
      s.bay.rdN (F.MEM_SCR_START x) ≤ s.bay.rdN (F.MEM_SCR_END x) ∧ s.bay.memHid.scrub.length = 2)
        (on (at5 [(F.MEM_STAT_SCR_BUSY 0, 0)])) 0) ∧
    ((fun (s : State) (x : Fin 2) => s.bay.gate (F.MEM_CTL_SCR_GO x) = none ∧ s.bay.memHalf x = true ∧ s.bay.flag (F.MEM_STAT_SCR_BUSY x) = true)
        (on (at5 [(F.MEM_STAT_SCR_BUSY 0, 1)])) 0) ∧
    ((fun (s : State) (x : Fin 2) => s.bay.mode ≠ 0 ∧ s.bay.gate (F.MEM_CTL_SCR_GO x) = none ∧ s.bay.memHalf x = false)
        (on (at5 [(F.BAY_SLOTS_CA, 0)])) 0) ∧
    ((fun (s : State) (x : Fin 2) (p : Scrub) => s.bay.gate (F.MEM_CTL_SCR_STOP x) = none ∧ s.bay.memHalf x = true ∧ s.bay.scrubOf x = some p ∧
      s.bay.memHid.scrub.length = 2 ∧ (s.mem.ram x p.memsel).errs = [])
        (on ({ (at5 []) with memHid := { scrub := [some ⟨1, true, 0, 0, 1000, 0⟩, none] } })) 0 (⟨1, true, 0, 0, 1000, 0⟩)) ∧
    ((fun (s : State) (x : Fin 2) (p : Scrub) => s.bay.scrubOf x = some p ∧ s.bay.memHid.scrub.length = 2 ∧ (s.mem.ram x p.memsel).errs = [])
        (on ({ (at5 []) with memHid := { scrub := [some ⟨1, true, 0, 0, 1000, 0⟩, none] } })) 0 (⟨1, true, 0, 0, 1000, 0⟩)) ∧
    ((fun (s : State) (x : Fin 2) (p : Scrub) (w : Nat) (syn : Nat) => s.bay.scrubOf x = some p ∧ s.bay.memHid.scrub.length = 2 ∧ p.memsel = 1 ∧
      p.repair = true ∧ p.pos ≤ 4 * w ∧ 4 * w ≤ p.last ∧ (s.mem.ram x 1).errs = [(w, .single syn)])
        { bay := ({ (at5 []) with memHid := { scrub := [some ⟨1, true, 0, 0, 1000, 0⟩, none] } }), mem := { ca := { sram := { errs := [(8, .single 3)] } } } } 0 (⟨1, true, 0, 0, 1000, 0⟩) 8 3) ∧
    ((fun (s : State) (x : Fin 2) => s.mem.wf = true ∧ s.bay.gate (F.MEM_CTL_INJ_GO x) = none ∧ s.bay.memHalf x = true ∧ s.bay.mode = Mode.service ∧
      injTarget (s.bay.rdN (F.MEM_INJ_CFG_MEMSEL x)) (s.bay.rdN (F.MEM_INJ_ADDR x)) = true ∧ s.bay.rdN (F.MEM_INJ_CFG_MEMSEL x) = 1)
        (on (at5 [(F.BAY_STAT_MODE, Mode.service), (F.MEM_INJ_CFG_MEMSEL 0, 1), (F.MEM_INJ_ADDR 0, 0x3FF000)])) 0) ∧
    ((fun (s : State) (x : Fin 2) => s.bay.gate (F.MEM_CTL_INJ_GO x) = none ∧ s.bay.memHalf x = true ∧ s.bay.mode ≠ Mode.service)
        (on (at5 [])) 0) ∧
    ((fun (s : State) (x : Fin 2) => s.bay.gate (F.MEM_CTL_CNT_CLR x) = none ∧ s.bay.memHalf x = true)
        (on (at5 [])) 0) ∧
    ((fun (s : State) (x : Fin 2) => s.bay.gate (F.MEM_DMA_RST_MASK x) = none ∧ s.bay.memHalf x = true)
        (on (at5 [])) 0) ∧
    ((fun (s : State) (x : Fin 2) => s.bay.mode = Mode.boot ∧ s.bay.cPresent x = true ∧ s.bay.flag (F.MEM_STAT_INIT_DONE x) = false ∧ (s.mem.ram x
      2).errs = [])
        (on (at5 [(F.BAY_STAT_MODE, Mode.boot), (F.MEM_STAT_INIT_DONE 0, 0)])) 0) :=
by refine ⟨?_, ?_, ?_, ?_, ?_, ?_, ?_, ?_, ?_, ?_, ?_⟩ <;> decide +kernel

theorem test_SkeinMovTransfers_inputs :
    ((fun (s : State) (c : Fin 64) (w : Nat) => runsOn s c 0x06 w ∧ field w 16 2 = 0)
        (on ({ (at5 [(F.ENG_STAT_STATE 0, 1)]) with images := [prog [411303936, 7, 8, 9] [3, 4]], eng := [(0, { image := 1 })] })) 0 411303936) ∧
    ((fun (s : State) (c : Fin 64) (w : Nat) => runsOn s c 0x06 w ∧ field w 16 2 = 1 ∧ s.bay.movIndex c w ≤ 255)
        (on ({ (at5 [(F.ENG_STAT_STATE 0, 1), (scrKey 0 5, 77)]) with images := [prog [(wd 6 2 1 0x10005), 7, 8, 9] [3, 4]], eng := [(0, { image := 1 })] })) 0 (wd 6 2 1 0x10005)) ∧
    ((fun (s : State) (c : Fin 64) (w : Nat) => runsOn s c 0x06 w ∧ field w 16 2 = 2 ∧ s.bay.movIndex c w ≤ 255)
        (on ({ (at5 [(F.ENG_STAT_STATE 0, 1), (kKey 0 2, 77)]) with images := [prog [(wd 6 2 1 0x20005), 7, 8, 9] [3, 4]], eng := [(0, { image := 1 })] })) 0 (wd 6 2 1 0x20005)) ∧
    ((fun (s : State) (c : Fin 64) (w : Nat) (v : Nat) => runsOn2 s c 0x06 w ((s.bay.codeOf c).length + s.bay.movIndex c w) 3 ∧ field w 16 2 = 3 ∧
      (s.bay.constsOf c)[s.bay.movIndex c w]? = some v)
        (on ({ (at5 [(F.ENG_STAT_STATE 0, 1)]) with images := [prog [(wd 6 2 1 0x30001), 7, 8, 9] [3, 4]], eng := [(0, { image := 1 })] })) 0 (wd 6 2 1 0x30001) 4) ∧
    ((fun (s : State) (c : Fin 64) (w : Nat) => runsOn s c 0x06 w ∧ field w 16 2 = 1 ∧ 255 < s.bay.movIndex c w)
        (on ({ (at5 [(F.ENG_STAT_STATE 0, 1)]) with images := [prog [(wd 6 2 1 0x10100), 7, 8, 9] [3, 4]], eng := [(0, { image := 1 })] })) 0 (wd 6 2 1 0x10100)) ∧
    ((fun (s : State) (c : Fin 64) (w : Nat) => runsOn s c 0x06 w ∧ field w 16 2 = 2 ∧ 255 < s.bay.movIndex c w)
        (on ({ (at5 [(F.ENG_STAT_STATE 0, 1)]) with images := [prog [(wd 6 2 1 0x20100), 7, 8, 9] [3, 4]], eng := [(0, { image := 1 })] })) 0 (wd 6 2 1 0x20100)) ∧
    ((fun (s : State) (c : Fin 64) (w : Nat) => runsOn s c 0x06 w ∧ field w 16 2 = 3 ∧ (s.bay.constsOf c).length ≤ s.bay.movIndex c w)
        (on ({ (at5 [(F.ENG_STAT_STATE 0, 1)]) with images := [prog [(wd 6 2 1 0x30002), 7, 8, 9] [3, 4]], eng := [(0, { image := 1 })] })) 0 (wd 6 2 1 0x30002)) ∧
    ((fun (s : State) (c : Fin 64) (w : Nat) => runsOn s c 0x06 w ∧ field w 16 2 ≠ 0 ∧ w.testBit 12 ∧ s.bay.k c (sOf w) < 0 ∧ -2147483648 ≤ s.bay.k c
      (sOf w) ∧ (s.bay.constsOf c).length ≤ 2147483648)
        (on ({ (at5 [(F.ENG_STAT_STATE 0, 1), (kKey 0 1, -1)]) with images := [prog [(wd 6 2 1 0x31000), 7, 8, 9] [3, 4]], eng := [(0, { image := 1 })] })) 0 (wd 6 2 1 0x31000)) :=
  by refine ⟨?_, ?_, ?_, ?_, ?_, ?_, ?_, ?_⟩ <;>
    first
    | (unfold runsOn; decide +kernel)
    | (unfold runsOn2 runsOn; decide +kernel)

theorem test_SkeinBranches_inputs :
    ((fun (s : State) (c : Fin 64) (w : Nat) => runsOn s c 0x10 w ∧ s.bay.condition c (dOf w) = some false)
        (on ({ (at5 [(F.ENG_STAT_STATE 0, 1)]) with images := [prog [1082392576, 7, 8, 9] [3, 4]], eng := [(0, { image := 1 })] })) 0 1082392576) ∧
    ((fun (s : State) (c : Fin 64) (w : Nat) => runsOn s c 0x10 w ∧ s.bay.condition c (dOf w) = some true ∧ 0 ≤ s.bay.rd (F.ENG_PC c) + sextOf w ∧
      s.bay.rd (F.ENG_PC c) + sextOf w < (s.bay.codeOf c).length)
        (on ({ (at5 [(F.ENG_STAT_STATE 0, 1)]) with images := [prog [(wd 0x10 12 0 2), 7, 8, 9] [3, 4]], eng := [(0, { image := 1 })] })) 0 (wd 0x10 12 0 2)) ∧
    ((fun (s : State) (c : Fin 64) (w : Nat) => runsOn s c 0x10 w ∧ s.bay.condition c (dOf w) = none)
        (on ({ (at5 [(F.ENG_STAT_STATE 0, 1)]) with images := [prog [(wd 0x10 13 0 2), 7, 8, 9] [3, 4]], eng := [(0, { image := 1 })] })) 0 (wd 0x10 13 0 2)) ∧
    ((fun (s : State) (c : Fin 64) (w : Nat) => runsOn s c 0x11 w ∧ s.bay.rdN (F.ENG_STAT_DEPTH c) < 4 ∧ 0 ≤ s.bay.rd (F.ENG_PC c) + sextOf w ∧
      s.bay.rd (F.ENG_PC c) + sextOf w < (s.bay.codeOf c).length)
        (on ({ (at5 [(F.ENG_STAT_STATE 0, 1)]) with images := [prog [1149501440, 7, 8, 9] [3, 4]], eng := [(0, { image := 1 })] })) 0 1149501440) ∧
    ((fun (s : State) (c : Fin 64) (w : Nat) => runsOn s c 0x11 w ∧ 4 ≤ s.bay.rdN (F.ENG_STAT_DEPTH c))
        (on ({ (at5 [(F.ENG_STAT_STATE 0, 1), (F.ENG_STAT_DEPTH 0, 4)]) with images := [prog [1149501440, 7, 8, 9] [3, 4]], eng := [(0, { image := 1 })] })) 0 1149501440) ∧
    ((fun (s : State) (c : Fin 64) (w : Nat) (d : Nat) => runsOn s c 0x12 w ∧ s.bay.rdN (F.ENG_STAT_DEPTH c) = d + 1 ∧ 0 ≤ s.bay.rd (retKey c d) ∧
      s.bay.rd (retKey c d) < (s.bay.codeOf c).length)
        (on ({ (at5 [(F.ENG_STAT_STATE 0, 1), (F.ENG_STAT_DEPTH 0, 0 + 1)]) with images := [prog [1216610304, 7, 8, 9] [3, 4]], eng := [(0, { image := 1 })] })) 0 1216610304 0) ∧
    ((fun (s : State) (c : Fin 64) (w : Nat) => runsOn s c 0x12 w ∧ s.bay.rdN (F.ENG_STAT_DEPTH c) = 0)
        (on ({ (at5 [(F.ENG_STAT_STATE 0, 1), (F.ENG_STAT_DEPTH 0, 0)]) with images := [prog [1216610304, 7, 8, 9] [3, 4]], eng := [(0, { image := 1 })] })) 0 1216610304) ∧
    ((fun (s : State) (c : Fin 64) (w : Nat) => runsOn s c 0x13 w ∧ asSigned 32 (s.bay.k c (dOf w) - 1) = 0)
        (on ({ (at5 [(F.ENG_STAT_STATE 0, 1), (kKey 0 2, 1)]) with images := [prog [1283719168, 7, 8, 9] [3, 4]], eng := [(0, { image := 1 })] })) 0 1283719168) ∧
    ((fun (s : State) (c : Fin 64) (w : Nat) => runsOn s c 0x13 w ∧ asSigned 32 (s.bay.k c (dOf w) - 1) ≠ 0 ∧ 0 ≤ s.bay.rd (F.ENG_PC c) + sextOf w ∧
      s.bay.rd (F.ENG_PC c) + sextOf w < (s.bay.codeOf c).length)
        (on ({ (at5 [(F.ENG_STAT_STATE 0, 1)]) with images := [prog [1283719168, 7, 8, 9] [3, 4]], eng := [(0, { image := 1 })] })) 0 1283719168) ∧
    ((fun (s : State) (c : Fin 64) (w : Nat) => runsOn s c 0x10 w ∧ s.bay.condition c (dOf w) = some true ∧ ((s.bay.rd (F.ENG_PC c) + sextOf w < 0 ∨
      (s.bay.codeOf c).length ≤ s.bay.rd (F.ENG_PC c) + sextOf w)))
        (on ({ (at5 [(F.ENG_STAT_STATE 0, 1)]) with images := [prog [(wd 0x10 12 0 9), 7, 8, 9] [3, 4]], eng := [(0, { image := 1 })] })) 0 (wd 0x10 12 0 9)) ∧
    ((fun (s : State) (c : Fin 64) (w : Nat) => runsOn s c 0x11 w ∧ s.bay.rdN (F.ENG_STAT_DEPTH c) < 4 ∧ ((s.bay.rd (F.ENG_PC c) + sextOf w < 0 ∨
      (s.bay.codeOf c).length ≤ s.bay.rd (F.ENG_PC c) + sextOf w)))
        (on ({ (at5 [(F.ENG_STAT_STATE 0, 1)]) with images := [prog [(wd 0x11 0 0 9), 7, 8, 9] [3, 4]], eng := [(0, { image := 1 })] })) 0 (wd 0x11 0 0 9)) ∧
    ((fun (s : State) (c : Fin 64) (w : Nat) (d : Nat) => runsOn s c 0x12 w ∧ s.bay.rdN (F.ENG_STAT_DEPTH c) = d + 1 ∧ ((s.bay.rd (retKey c d) < 0 ∨
      (s.bay.codeOf c).length ≤ s.bay.rd (retKey c d))))
        (on ({ (at5 [(F.ENG_STAT_STATE 0, 1), (F.ENG_STAT_DEPTH 0, 0 + 1), (retKey 0 0, 9)]) with images := [prog [1216610304, 7, 8, 9] [3, 4]], eng := [(0, { image := 1 })] })) 0 1216610304 0) ∧
    ((fun (s : State) (c : Fin 64) (w : Nat) => runsOn s c 0x13 w ∧ asSigned 32 (s.bay.k c (dOf w) - 1) ≠ 0 ∧ ((s.bay.rd (F.ENG_PC c) + sextOf w < 0 ∨
      (s.bay.codeOf c).length ≤ s.bay.rd (F.ENG_PC c) + sextOf w)))
        (on ({ (at5 [(F.ENG_STAT_STATE 0, 1)]) with images := [prog [(wd 0x13 2 0 9), 7, 8, 9] [3, 4]], eng := [(0, { image := 1 })] })) 0 (wd 0x13 2 0 9)) :=
by refine ⟨?_, ?_, ?_, ?_, ?_, ?_, ?_, ?_, ?_, ?_, ?_, ?_, ?_⟩ <;> (unfold runsOn; decide +kernel)

theorem test_SkeinSecondOperand_inputs :
    ((fun (s : State) (c : Fin 64) (w : Nat) (v : Int) => runsOn s c 0x07 w ∧ secondOperand s.bay c w v)
        (on ({ (at5 [(F.ENG_STAT_STATE 0, 1)]) with images := [prog [478412800, 7, 8, 9] [3, 4]], eng := [(0, { image := 1 })] })) 0 478412800 0) ∧
    ((fun (s : State) (c : Fin 64) (w : Nat) (v : Int) => runsOn s c 0x08 w ∧ secondOperand s.bay c w v)
        (on ({ (at5 [(F.ENG_STAT_STATE 0, 1)]) with images := [prog [545521664, 7, 8, 9] [3, 4]], eng := [(0, { image := 1 })] })) 0 545521664 0) ∧
    ((fun (s : State) (c : Fin 64) (w : Nat) (v : Int) => runsOn s c 0x0B w ∧ secondOperand s.bay c w v)
        (on ({ (at5 [(F.ENG_STAT_STATE 0, 1)]) with images := [prog [746848256, 7, 8, 9] [3, 4]], eng := [(0, { image := 1 })] })) 0 746848256 0) ∧
    ((fun (s : State) (c : Fin 64) (w : Nat) (v : Int) => runsOn s c 0x0C w ∧ secondOperand s.bay c w v)
        (on ({ (at5 [(F.ENG_STAT_STATE 0, 1)]) with images := [prog [813957120, 7, 8, 9] [3, 4]], eng := [(0, { image := 1 })] })) 0 813957120 0) ∧
    ((fun (s : State) (c : Fin 64) (w : Nat) (v : Int) => runsOn s c 0x0E w ∧ secondOperand s.bay c w v)
        (on ({ (at5 [(F.ENG_STAT_STATE 0, 1)]) with images := [prog [948174848, 7, 8, 9] [3, 4]], eng := [(0, { image := 1 })] })) 0 948174848 0) :=
by refine ⟨?_, ?_, ?_, ?_, ?_⟩ <;> (unfold runsOn secondOperand; decide +kernel)

theorem test_ThermalShutdownIsLeftInSequence_inputs :
    ((fun (s : State) => s.bay.flag F.THM_STAT_TSD = true)
        (on (at5 [(F.THM_STAT_TSD, 1)]))) ∧
    ((fun (s : State) => s.bay.flag F.THM_STAT_TSD = false)
        (on (at5 [(F.THM_STAT_TSD, 0)]))) ∧
    ((fun (s : State) => s.bay.gate F.THM_CTL_TSD_CLR = none ∧ s.bay.flag F.THM_STAT_CLR_ARMED = false)
        (on (at5 [(F.THM_STAT_CLR_ARMED, 0)]))) ∧
    ((fun (s : State) => s.bay.gate F.THM_CTL_TSD_CLR = none ∧ s.bay.flag F.THM_STAT_CLR_ARMED = true ∧ s.bay.tripsClear = false)
        (on (at5 [(F.THM_STAT_CLR_ARMED, 1)]))) ∧
    ((fun (s : State) => s.bay.gate F.THM_CTL_TSD_CLR = none ∧ s.bay.flag F.THM_STAT_CLR_ARMED = true ∧ s.bay.tripsClear = true)
        (on (at5 [(F.THM_STAT_CLR_ARMED, 1), (F.THM_FLOW, 600)]))) :=
by refine ⟨?_, ?_, ?_, ?_, ?_⟩ <;> decide +kernel

theorem test_ShadowedWritesCommitTogether_inputs :
    ((fun (t : Nat) (n : Nat) (e : Nat) => n * frameTicks ≤ t ∧ t < (n + 1) * frameTicks ∧ e = (if (n + 1) * frameTicks - t < usTicks then (n + 2) *
      frameTicks else (n + 1) * frameTicks))
        0 0 5000) ∧
    ((fun (f : FieldRow) (k : Key) => f.acc = .rws ∧ k.grp ≠ .src)
        (⟨28, 0, 32, .rws, 0, none, false⟩) F.THM_FLOW) ∧
    ((fun (s : State) (k : Key) (v : Int) (e : Nat) => (s.bay.shadows.map Shadow.key).Nodup ∧ (∀ x ∈ s.bay.shadows, isTgt x.key = false) ∧ ⟨k, v, e⟩ ∈
      s.bay.shadows ∧ e ≤ s.bay.now)
        (on ({ (at5 []) with shadows := [⟨F.THM_FLOW, 4, 5000⟩] })) F.THM_FLOW 4 5000) ∧
    ((fun (s : State) (k : Key) => (∀ x ∈ s.bay.shadows, isTgt x.key = false) ∧ (∀ x ∈ s.bay.shadows, x.key = k → s.bay.now < x.edge))
        (on ({ (at5 []) with now := 100, shadows := [⟨F.THM_FLOW, 4, 5000⟩] })) F.THM_FLOW) ∧
    ((fun (s : State) => (∀ x ∈ s.bay.shadows, isTgt x.key = false))
        (on (at5 []))) :=
by refine ⟨?_, ?_, ?_, ?_, ?_⟩ <;> decide +kernel

theorem test_AddressesWithoutARegister_inputs :
    ((fun (a : BitVec 32) => regAt a.toNat = none)
        0xFF00) ∧
    ((fun (s : State) (j : Fin 4) (stake : Fin 64) (a : BitVec 32) (x : Session) => s.bay.mode ≠ 0 ∧ s.bay.session j = some x ∧ stake.val = s.bay.node
      ∧ a.toNat % 4 = 0 ∧ inWindow a.toNat = false ∧ inBlock a.toNat = true ∧ s.bay.framWord a.toNat = none ∧ regAt a.toNat = none)
        (on ({ (at5 [(F.WVE_STAT_NODE, 0)]) with weave := { sessions := [some (⟨0, 2, [], 0⟩), none, none, none] } })) 0 0 0xFF00 (⟨0, 2, [], 0⟩)) ∧
    ((fun (s : State) (j : Fin 4) (stake : Fin 64) (a : BitVec 32) (x : Session) => s.bay.mode ≠ 0 ∧ s.bay.session j = some x ∧ stake.val = s.bay.node
      ∧ a.toNat % 4 = 0 ∧ inWindow a.toNat = false ∧ inBlock a.toNat = true ∧ mayWrite x.level a.toNat = true ∧ regAt a.toNat = none)
        (on ({ (at5 [(F.WVE_STAT_NODE, 0)]) with weave := { sessions := [some (⟨0, 2, [], 0⟩), none, none, none] } })) 0 0 0xFF00 (⟨0, 2, [], 0⟩)) ∧
    ((fun (s : State) (j : Fin 4) (stake : Fin 64) (a : BitVec 32) (n : BitVec 32) (x : Session) => s.bay.mode ≠ 0 ∧ s.bay.session j = some x ∧
      stake.val = s.bay.node ∧ a.toNat % 4 = 0 ∧ inWindow a.toNat = false ∧ inBlock a.toNat = false ∧ n.toNat ≠ 0 ∧ n.toNat ≤ 256)
        (on ({ (at5 [(F.WVE_STAT_NODE, 0)]) with weave := { sessions := [some (⟨0, 2, [], 0⟩), none, none, none] } })) 0 0 0x30000 1 (⟨0, 2, [], 0⟩)) ∧
    ((fun (s : State) (j : Fin 4) (stake : Fin 64) (a : BitVec 32) (ws : List (BitVec 32)) (x : Session) => s.bay.mode ≠ 0 ∧ s.bay.session j = some x
      ∧ stake.val = s.bay.node ∧ a.toNat % 4 = 0 ∧ inWindow a.toNat = false ∧ inBlock a.toNat = false ∧ ws.length < 256)
        (on ({ (at5 [(F.WVE_STAT_NODE, 0)]) with weave := { sessions := [some (⟨0, 2, [], 0⟩), none, none, none] } })) 0 0 0x30000 ([]) (⟨0, 2, [], 0⟩)) ∧
    ((fun (s : State) (j : Fin 4) (stake : Fin 64) (a : BitVec 32) (part : Fin 4) (x : Session) => s.bay.mode ≠ 0 ∧ s.bay.session j = some x ∧
      stake.val = s.bay.node ∧ a.toNat % 4 = 0 ∧ inWindow a.toNat = false ∧ inBlock a.toNat = true ∧ mayWrite x.level a.toNat = true ∧ regAt a.toNat =
      none ∧ part.val ≠ 0)
        (on ({ (at5 [(F.WVE_STAT_NODE, 0)]) with weave := { sessions := [some (⟨0, 2, [], 0⟩), none, none, none] } })) 0 0 0xFF00 1 (⟨0, 2, [], 0⟩)) :=
by refine ⟨?_, ?_, ?_, ?_, ?_, ?_⟩ <;> decide +kernel

theorem test_EventLogKeepsItsOrderAndSize_inputs :
    ((fun (s : State) => logInOrder s.bay.log)
        (on (at5 []))) ∧
    ((fun (s : State) => logSized s.bay)
        (on (at5 []))) ∧
    ((fun (s : State) (src : Nat) => s.bay.rd (F.SRC_CFG_EN src) ≠ 0 ∧ sameTimeSrc s.bay.log s.bay.now src < 32 ∧ s.bay.log.length < 4095)
        (on (at5 [])) 0) ∧
    ((fun (s : State) (src : Nat) => s.bay.rd (F.SRC_CFG_EN src) = 0)
        (on (at5 [(F.SRC_CFG_EN 0, 0)])) 0) ∧
    ((fun (s : State) (src : Nat) (e : EvEntry) => e ∈ s.bay.log ∧ ((e.released = true ∧ s.bay.log.head? = some e ∨ s.bay.rd (F.SRC_CFG_PRIO src) ≤
      e.prio)))
        (on ({ (at5 []) with log := [⟨0, 0, 0, 0, 0, 0, true⟩] })) 0 (⟨0, 0, 0, 0, 0, 0, true⟩)) :=
  by refine ⟨?_, ?_, ?_, ?_, ?_⟩ <;>
    first
    | decide +kernel
    | (unfold logSized; decide +kernel)
    | (unfold logInOrder; decide +kernel)

theorem test_BulkWriteStoresItsBytes_inputs :
    ((fun (s : State) (j : Fin 4) (stake : Fin 64) (a : BitVec 32) (l : List Byte) (x : Session) => s.mem.wf = true ∧ s.bay.mode ≠ 0 ∧ s.bay.session j
      = some x ∧ stake.val = s.bay.node ∧ l ≠ [] ∧ s.bay.bulkError x.cart a.toNat l.length = 0 ∧ 1 ≤ x.level ∧ windowWritable a.toNat = true ∧
      windowWritable (a.toNat + l.length - 8) = true ∧ inWindow (a.toNat + l.length - 8) = true)
        (on ({ (at5 [(F.WVE_STAT_NODE, 0), (F.MEM_STAT_INIT_DONE 0, 1)]) with weave := { sessions := [some (⟨0, 2, [], 0⟩), none, none, none] } })) 0 0 0x12000000 ([1, 2, 3, 4, 5, 6, 7, 8]) (⟨0, 2, [], 0⟩)) :=
by decide +kernel

theorem test_EmptyQueueLetsTimePass_inputs :
    ((fun (s : State) => s.pending = [] ∧ (s.bay.now + 1) % frameTicks ≠ 0)
        (on (at5 []))) ∧
    ((fun (s : State) => s.pending = [] ∧ (s.bay.now + 1) % frameTicks = 0)
        (on ({ (at5 []) with now := 4999 }))) :=
by refine ⟨?_, ?_⟩ <;> decide +kernel

end Sys2Proof.Tests
end

section
/-! PROOFS. Writes that wait for a frame edge, and their commit (R12, R13). -/

namespace Sys2Proof.Machine

/-! ## Held writes -/

theorem Bay.mem_shadowWrite (b : Bay) (k : Key) (v : Int) (x : Shadow) :
    x ∈ (b.shadowWrite k v).shadows ↔ (x ∈ b.shadows ∧ x.key ≠ k) ∨ x = ⟨k, v, commitEdge b.now⟩ := by
  simp [Bay.shadowWrite]

@[simp] theorem Bay.rdShadow_shadowWrite_same (b : Bay) (k : Key) (v : Int) : (b.shadowWrite k v).rdShadow k = v := by
  have noneLeft : (b.shadows.filter (fun s => !(s.key = k))).find? (fun s => s.key = k) = none := by simp
  simp [Bay.rdShadow, Bay.shadowWrite, List.find?_append, noneLeft]

theorem Bay.fieldWrite_rws (b : Bay) {f : FieldRow} {k : Key} (v : Int) (hf : f.acc = .rws) (hk : k.grp ≠ .src) :
    b.fieldWrite f k v = b.shadowWrite k v := by
  simp [Bay.fieldWrite, hf, hk]

/-- MEAS.REF_CTL and the data of message objects apart, an RW field takes its value at once. -/
theorem Bay.fieldWrite_rw (b : Bay) {f : FieldRow} {k : Key} (v : Int) (hf : f.acc = .rw) (hm : k.grp ≠ .meas) (ho : k.grp ≠ .cfdObj) :
    b.fieldWrite f k v = b.wr k v := by
  simp [Bay.fieldWrite, Bay.objDataLocked, hf, hm, ho]

/-- The edge of R13 from the frame `n` in which the write completes. -/
theorem commitEdge_of_frame {t n : Nat} (hn : n * frameTicks ≤ t) (ht : t < (n + 1) * frameTicks) :
    commitEdge t = if (n + 1) * frameTicks - t < usTicks then (n + 2) * frameTicks else (n + 1) * frameTicks := by
  have frame : t / frameTicks = n := Nat.div_eq_of_lt_le hn ht
  have next : (n + 1) * frameTicks + frameTicks = (n + 2) * frameTicks := (Nat.succ_mul (n + 1) frameTicks).symm
  rw [commitEdge, nextEdge, frame, next]

/-! ## The commit -/

/-- The values of held writes go into their registers, one after the other. -/
def Bay.commitAll (b : Bay) (l : List Shadow) : Bay := l.foldl (fun b s => b.wr s.key s.val) b

theorem Bay.commitAll_shadows (b : Bay) (l : List Shadow) : (b.commitAll l).shadows = b.shadows := by
  induction l generalizing b with
  | nil => rfl
  | cons x l ih => exact ih _

theorem Bay.rd_commitAll_of_not_mem (b : Bay) {l : List Shadow} {k : Key} (h : ∀ x ∈ l, x.key ≠ k) : (b.commitAll l).rd k = b.rd k := by
  induction l generalizing b with
  | nil => rfl
  | cons x l ih =>
    have hx : x.key ≠ k := h x List.mem_cons_self
    calc (b.commitAll (x :: l)).rd k = (b.wr x.key x.val).rd k := ih _ (fun y hy => h y (List.mem_cons_of_mem _ hy))
      _ = b.rd k := Bay.rd_wr_ne _ _ hx

theorem Bay.rd_commitAll_of_mem (b : Bay) {l : List Shadow} {s : Shadow} (hl : (l.map Shadow.key).Nodup) (hs : s ∈ l) :
    (b.commitAll l).rd s.key = s.val := by
  induction l generalizing b with
  | nil => cases hs
  | cons x l ih =>
    obtain ⟨hx, hl⟩ := List.nodup_cons.1 hl
    rcases List.mem_cons.1 hs with rfl | hs
    · calc (b.commitAll (s :: l)).rd s.key = (b.wr s.key s.val).rd s.key :=
            Bay.rd_commitAll_of_not_mem _ (fun y hy e => hx (List.mem_map.2 ⟨y, hy, e⟩))
        _ = s.val := Bay.rd_wr_same _ _ _
    · exact ih _ hl hs

/-- Where no target of a channel is held, the commit writes what is due and holds the rest. -/
theorem Bay.commitEdgeAll_of_noTgt {b : Bay} (h : ∀ x ∈ b.shadows, isTgt x.key = false) :
    b.commitEdgeAll = { b with shadows := b.shadows.filter (fun s => !(s.edge ≤ b.now)) }.commitAll (b.dueKeys b.now) := by
  have due : ∀ x ∈ b.dueKeys b.now, isTgt x.key = false := fun x hx => h x (List.mem_filter.1 hx).1
  have others : (b.dueKeys b.now).filter (fun s => !isTgt s.key) = b.dueKeys b.now :=
    List.filter_eq_self.2 (fun x hx => by simp [due x hx])
  have channels : allChans.filter (fun c => (b.dueKeys b.now).any (fun s => isTgt s.key && s.key.i == c)) = [] :=
    List.filter_eq_nil_iff.2 (fun c _ => by simpa using fun x hx ht => by simp [due x hx] at ht)
  unfold Bay.commitEdgeAll
  dsimp only
  rw [others, channels]
  rfl

/-- A write that is held and due gives its register its value. -/
theorem Bay.rd_commitEdgeAll_of_due {b : Bay} {s : Shadow} (hd : (b.shadows.map Shadow.key).Nodup) (h : ∀ x ∈ b.shadows, isTgt x.key = false)
    (hs : s ∈ b.shadows) (he : s.edge ≤ b.now) : b.commitEdgeAll.rd s.key = s.val := by
  rw [Bay.commitEdgeAll_of_noTgt h]
  exact Bay.rd_commitAll_of_mem _ (hd.sublist (List.filter_sublist.map _)) (List.mem_filter.2 ⟨hs, by simpa using he⟩)

/-- A register without a held write that is due stands. -/
theorem Bay.rd_commitEdgeAll_of_not_due {b : Bay} {k : Key} (h : ∀ x ∈ b.shadows, isTgt x.key = false)
    (hk : ∀ x ∈ b.shadows, x.key = k → b.now < x.edge) : b.commitEdgeAll.rd k = b.rd k := by
  rw [Bay.commitEdgeAll_of_noTgt h]
  refine Bay.rd_commitAll_of_not_mem _ (fun x hx e => ?_)
  obtain ⟨hx, due⟩ := List.mem_filter.1 hx
  exact absurd (hk x hx e) (by simpa using due)

theorem Bay.commitEdgeAll_shadows {b : Bay} (h : ∀ x ∈ b.shadows, isTgt x.key = false) :
    b.commitEdgeAll.shadows = b.shadows.filter (fun x => b.now < x.edge) := by
  rw [Bay.commitEdgeAll_of_noTgt h, Bay.commitAll_shadows]
  simp [← decide_not]

end Sys2Proof.Machine

namespace Sys2Proof

open Sys2Proof.Machine

/-- Settles O48: a held write is replaced by a later one of its field, and the frame edge writes exactly what is due. -/
theorem shadowedWritesCommitTogether : Obligations.ShadowedWritesCommitTogether := by
  unfold Obligations.ShadowedWritesCommitTogether
  intro s
  refine ⟨?edge, ?write, ?due, ?stands, ?held⟩
  case edge => exact fun t n e hn ht he => (commitEdge_of_frame hn ht).trans he.symm
  case write =>
    intro f k v hf hk
    rw [Bay.fieldWrite_rws _ v hf hk]
    refine ⟨Bay.rdShadow_shadowWrite_same _ _ _, (Bay.mem_shadowWrite _ _ _ _).2 (.inr rfl), fun x hx e => ?_, fun q => rfl⟩
    rcases (Bay.mem_shadowWrite _ _ _ _).1 hx with ⟨_, hne⟩ | rfl
    · exact absurd e hne
    · rfl
  case due => exact fun k v e hd h hs he => Bay.rd_commitEdgeAll_of_due hd h hs he
  case stands => exact fun k h hk => Bay.rd_commitEdgeAll_of_not_due h hk
  case held => exact Bay.commitEdgeAll_shadows

end Sys2Proof
end

section
/-! PROOFS. A host word, the latch of a 64-bit pair, and FRAME_EDGE (R9 to R12, R24, R134, R398, R399). -/

namespace Sys2Proof.Machine

/-! ## The judgement of a word (R398, R399) -/

@[simp] theorem Bay.dropLatch_log (b : Bay) (f : FieldRow) (k : Key) : (b.dropLatch f k).log = b.log := by
  unfold Bay.dropLatch; split <;> rfl

/-- The reasons for which a field is refused are those that the order of R398 looks for. -/
theorem Bay.judge_reason {b : Bay} {multi : Bool} {f : FieldRow} {k : Key} {v x : Int} (h : b.judge multi f k v = some x) :
    x ∈ [2, 1, 8, 3, 6, 4] := by
  unfold Bay.judge at h
  repeat' split at h
  all_goals cases h
  all_goals decide

/-- A word without a first reason is refused in none of its fields. -/
theorem Bay.judge_of_firstReason {b : Bay} {r : RegAt} {w : Nat} (h : b.firstReason r w = none) {f : FieldRow} (hf : f ∈ r.rows) :
    b.judge (1 < r.rows.length) f (r.key f) (r.given b f w) = none := by
  cases hj : b.judge (1 < r.rows.length) f (r.key f) (r.given b f w) with
  | none => rfl
  | some x =>
    have listed : x ∈ r.rows.filterMap (fun f => b.judge (1 < r.rows.length) f (r.key f) (r.given b f w)) := List.mem_filterMap.2 ⟨f, hf, hj⟩
    exact absurd (List.contains_iff_mem.2 listed) (List.find?_eq_none.1 h x (Bay.judge_reason hj))

/-- The field in whose name a word of this register meets the gate, and a refusal of the whole word is reported. -/
def RegAt.wordKey (r : RegAt) : Key := ⟨r.grp, r.i, r.off, if r.grp == .chn && r.off == 0x200 then 1 else 0⟩

theorem RegAt.wordKey_eq (r : RegAt) : r.wordKey = ⟨r.grp, r.i, r.off, if r.grp = .chn ∧ r.off = 0x200 then 1 else 0⟩ := by simp [RegAt.wordKey]

section
variable {s : State} {r : RegAt} {w : Nat}

theorem State.regWrite_of_gate {x : Int} (hm : r.grp ≠ .mem) (hg : s.bay.gate r.wordKey = some x) :
    s.regWrite r w = { s with bay := s.bay.refuse r.wordKey x } := by
  rw [RegAt.wordKey_eq] at hg ⊢
  simp [State.regWrite, hm, hg]

theorem State.regWrite_of_manyBits (hm : r.grp ≠ .mem) (hg : s.bay.gate r.wordKey = none) (hb : r.manyBits w = true) :
    s.regWrite r w = { s with bay := s.bay.refuse r.wordKey 4 } := by
  rw [RegAt.wordKey_eq] at hg ⊢
  simp [State.regWrite, hm, hg, hb]

/-- A word that nothing refuses takes its effect field by field. -/
theorem State.regWrite_of_taken (hm : r.grp ≠ .mem) (hg : s.bay.gate r.wordKey = none) (hb : r.manyBits w = false)
    (hf : s.bay.firstReason r w = none) (hw : s.bay.wordBad r w = false) :
    s.regWrite r w = r.rows.foldl (fun t f => t.fieldEffect s.bay r w f) s := by
  rw [RegAt.wordKey_eq] at hg
  simp [State.regWrite, hm, hg, hb, hf, hw]

/-- A word of one RW or RWS field that nothing refuses stores the value it gives the field. -/
theorem State.regWrite_of_field {f : FieldRow} (hr : r.rows = [f]) (ha : f.acc = .rw ∨ f.acc = .rws) (hm : r.grp ≠ .mem)
    (hg : s.bay.gate r.wordKey = none) (hb : r.manyBits w = false) (hf : s.bay.firstReason r w = none) (hw : s.bay.wordBad r w = false) :
    s.regWrite r w = { s with bay := (s.bay.dropLatch f (r.key f)).fieldWrite f (r.key f) (r.given s.bay f w) } := by
  have accepted : s.bay.judge (1 < r.rows.length) f (r.key f) (r.given s.bay f w) = none := Bay.judge_of_firstReason hf (by simp [hr])
  rw [State.regWrite_of_taken hm hg hb hf hw, hr, List.foldl_cons, List.foldl_nil]
  rcases ha with ha | ha <;> simp [State.fieldEffect, ha, accepted]

end

/-! ## REGISTER_WRITE and LOW_WORD_READ (R9, R11, R134) -/

theorem exec_registerWrite_of_misaligned {s : State} {a v : BitVec 32} (ha : a.toNat % 4 ≠ 0) : exec (.registerWrite a v) s = .next s :=
  if_neg ha

theorem State.hostWrite_of_noReg {s : State} {a w : Nat} (ha : regAt a = none) : s.hostWrite a w = s := by
  simp [State.hostWrite, ha]

theorem exec_registerWrite_of_noReg {s : State} {a v : BitVec 32} (ha : regAt a.toNat = none) : exec (.registerWrite a v) s = .next s := by
  change execRegisterWrite a v s = .next s
  rw [execRegisterWrite, State.hostWrite_of_noReg ha, ite_self]

theorem exec_registerWrite_of_reg {s : State} {a v : BitVec 32} {r : RegAt} (ha : a.toNat % 4 = 0) (h0 : s.bay.mode ≠ 0) (hr : regAt a.toNat = some r) :
    exec (.registerWrite a v) s = .next (s.regWrite r v.toNat) := by
  change execRegisterWrite a v s = _
  simp [execRegisterWrite, State.hostWrite, ha, h0, hr]

/-- A read of the low word of a 64-bit field latches its high word. -/
theorem Bay.latchHigh_of_low (b : Bay) (cart : Nat) {r : RegAt} {f : FieldRow} (hr : r.rows = [f]) (hw : f.width = 64) (ho : f.off = r.off) :
    b.latchHigh cart r = { b with hiLatch := b.hiLatch.put (r.key f) (hiWord (b.seen cart (r.key f) f.acc) : Nat) } := by
  simp [Bay.latchHigh, hr, hw, ho]

theorem exec_lowWordRead_of_reg {s : State} {a : BitVec 32} {r : RegAt} (hr : regAt a.toNat = some r) (h0 : s.bay.mode ≠ 0)
    (hp : s.bay.absentBlock ⟨r.grp, r.i, r.off, 0⟩ = false) : exec (.lowWordRead a) s = s.onBay (fun b => b.latchHigh 0 r) := by
  change execLowWordRead a s = _
  simp [execLowWordRead, hr, h0, hp]

/-! ## FRAME_EDGE (R24) -/

@[simp] theorem Bay.seeErr_now (b : Bay) (x k w master acc : Nat) (e : Option WordErr) : (b.seeErr x k w master acc e).now = b.now := by
  match e with
  | none => rfl
  | some (.single _) => exact Bay.correction_now _ _ _ _ _
  | some .double => exact Bay.uncorrectable_now _ _ _ _ _ _
  | some .poison => exact Bay.uncorrectable_now _ _ _ _ _ _

theorem State.writeWords_now (s : State) (x k a : Nat) (l : List Byte) : (s.writeWords x k a l).bay.now = s.bay.now := by
  unfold State.writeWords; dsimp only; split <;> rfl

@[simp] theorem State.copyFromPartner_now (s : State) (x w : Nat) : (s.copyFromPartner x w).bay.now = s.bay.now :=
  (State.writeWords_now _ _ _ _ _).trans (Bay.seeErr_now _ _ _ _ _ _ _)

/-- A fold of steps that each keep bay time keeps it. -/
theorem State.foldl_now {α : Type} {f : State → α → State} (h : ∀ s a, (f s a).bay.now = s.bay.now) (l : List α) (s : State) :
    (l.foldl f s).bay.now = s.bay.now := by
  induction l generalizing s with
  | nil => rfl
  | cons a l ih => exact (ih _).trans (h s a)

theorem State.scrubWord_now (s : State) (x k w : Nat) (rep : Bool) (e : WordErr) : (s.scrubWord x k w rep e).bay.now = s.bay.now := by
  unfold State.scrubWord; dsimp only
  repeat' split
  · simp
  · simp
  · simp
  · simp
  · simp [State.poisonCount, State.clearMark]

theorem State.scrubTo_now (s : State) (x a : Nat) : (s.scrubTo x a).bay.now = s.bay.now := by
  unfold State.scrubTo; split
  · rfl
  · exact State.foldl_now (fun s e => State.scrubWord_now _ _ _ _ _ _) _ _

theorem State.scrubEnd_now (s : State) (x : Nat) (part : Bool) : (s.scrubEnd x part).bay.now = s.bay.now := by simp [State.scrubEnd]

theorem State.scrubEdge_now (s : State) : s.scrubEdge.bay.now = s.bay.now := by
  refine State.foldl_now (fun s x => ?_) _ _
  split
  · rfl
  · dsimp only; split
    · exact (State.scrubEnd_now _ _ _).trans (State.scrubTo_now _ _ _)
    · exact State.scrubTo_now _ _ _

theorem State.upset_bay (s : State) (u : Upset) : (s.upset u).bay = s.bay := by
  unfold State.upset; dsimp only; split <;> rfl

/-- What happens in the memories before the edge keeps bay time. -/
theorem State.upsets_scrubEdge_now (s : State) (l : List Upset) : (l.foldl State.upset s).scrubEdge.bay.now = s.bay.now :=
  (State.scrubEdge_now _).trans (State.foldl_now (fun s u => congrArg Bay.now (State.upset_bay s u)) _ _)

theorem Bay.outerPhase_frame (b : Bay) : b.outerPhase.rd F.TIME_FRAME = (b.now / frameTicks % 4294967296 : Nat) := by
  simp [Bay.outerPhase]

/-- An edge that leaves the bay powered counts the frame of its bay time. -/
theorem Bay.frameEdge_frame {b : Bay} {i : FrameIn} (h : (b.frameEdge i).mode ≠ 0) :
    (b.frameEdge i).rd F.TIME_FRAME = ((b.frameEdge i).now / frameTicks % 4294967296 : Nat) := by
  rw [Bay.frameEdge_now]
  unfold Bay.frameEdge at h ⊢
  dsimp only at h ⊢
  split at h
  next off => exact absurd off h
  next on =>
    rw [if_neg on, Bay.seeEdge_rd, Bay.showEdge_rd, Bay.outerPhase_frame]
    simp

theorem exec_frameEdge_of_off {s : State} (i : FrameIn) (h : s.bay.mode = 0) : exec (.frameEdge i) s = .next s := if_pos h

/-- The bay that a frame edge finds: its time at the edge, and what upsets and scrubbers did to the memories. -/
def State.atEdge (s : State) (i : FrameIn) : State :=
  (i.upsets.foldl State.upset { s with bay := { s.bay with now := nextEdge s.bay.now } }).scrubEdge

theorem State.atEdge_now (s : State) (i : FrameIn) : (s.atEdge i).bay.now = nextEdge s.bay.now := State.upsets_scrubEdge_now _ _

theorem State.atEdge_pending (s : State) (i : FrameIn) : (s.atEdge i).pending = s.pending :=
  (((Tame.bay s _).trans (Tame.foldl _ State.upset_tame _ _)).trans (State.scrubEdge_tame _)).1

theorem State.onBay_next (s : State) (f : Bay → Bay) : ∃ t, s.onBay f = .next t ∧ t.pending = s.pending ∧ t.bay = f s.bay := ⟨_, rfl, rfl, rfl⟩

theorem exec_frameEdge_of_on {s : State} (i : FrameIn) (h : s.bay.mode ≠ 0) :
    ∃ t, exec (.frameEdge i) s = .next t ∧ t.pending = s.pending ∧ t.bay = (s.atEdge i).bay.frameEdge i := by
  obtain ⟨t, next, queue, bay⟩ := (s.atEdge i).onBay_next (fun b => b.frameEdge i)
  exact ⟨t, (if_neg h).trans next, queue.trans (State.atEdge_pending s i), bay⟩

end Sys2Proof.Machine

namespace Sys2Proof

open Sys2Proof.Machine

/-- Settles O22: a word that nothing refuses stores its field at once or behind its shadow, any other only reports its refusal; a frame edge counts its frame. -/
theorem hostWordsAndFrameEdge : Obligations.HostWordsAndFrameEdge := by
  unfold Obligations.HostWordsAndFrameEdge
  intro s
  refine ⟨?misaligned, ?noReg, ?rw, ?rws, ?gate, ?manyBits, ?lowWord, ?edge, ?off⟩
  case misaligned => exact fun a v => exec_registerWrite_of_misaligned
  case noReg => exact fun a v => exec_registerWrite_of_noReg
  case rw =>
    intro a v r f ha h0 hr hrows hacc hmeas hobj hmem hg hb hf hw
    refine ⟨_, exec_registerWrite_of_reg ha h0 hr, ?_⟩
    rw [State.regWrite_of_field hrows (.inl hacc) hmem hg hb hf hw, Bay.fieldWrite_rw _ _ hacc hmeas hobj]
    refine ⟨rfl, rfl, Bay.rd_wr_same _ _ _, fun k hk => ?_, Bay.dropLatch_log _ _ _⟩
    exact (Bay.rd_wr_of_ne _ _ (by simpa using hk)).trans (Bay.dropLatch_rd _ _ _)
  case rws =>
    intro a v r f ha h0 hr hrows hacc hsrc hmem hg hb hf hw
    refine ⟨_, exec_registerWrite_of_reg ha h0 hr, ?_⟩
    rw [State.regWrite_of_field hrows (.inr hacc) hmem hg hb hf hw, Bay.fieldWrite_rws _ _ hacc hsrc]
    refine ⟨rfl, rfl, Bay.rdShadow_shadowWrite_same _ _ _, (Bay.mem_shadowWrite _ _ _ _).2 (.inr ?_), fun k _ => Bay.dropLatch_rd _ _ _⟩
    rw [Bay.dropLatch_now]
  case gate =>
    intro a v r x ha h0 hr hmem hg
    refine ⟨_, exec_registerWrite_of_reg ha h0 hr, ?_⟩
    rw [State.regWrite_of_gate hmem hg]
    exact ⟨rfl, rfl, rfl⟩
  case manyBits =>
    intro a v r ha h0 hr hbay hg hb
    have hk : r.wordKey = ⟨r.grp, r.i, r.off, 0⟩ := by simp [RegAt.wordKey, hbay]
    refine ⟨_, exec_registerWrite_of_reg ha h0 hr, ?_⟩
    rw [State.regWrite_of_manyBits (by simp [hbay]) (hk ▸ hg) hb, hk]
    exact ⟨rfl, rfl, rfl⟩
  case lowWord =>
    intro a r f hr h0 hp hrows hwidth hoff
    refine completes_onBay (exec_lowWordRead_of_reg hr h0 hp) ⟨?_, fun k _ => Bay.latchHigh_rd _ _ _⟩
    rw [Bay.latchHigh_of_low _ _ hrows hwidth hoff]
    exact (Store.get_put _ _ _ _ _).trans (if_pos rfl)
  case edge =>
    intro i h0
    obtain ⟨t, next, queue, bay⟩ := exec_frameEdge_of_on i h0
    refine ⟨t, next, queue, ?_, ?_⟩ <;> rw [bay]
    · exact (Bay.frameEdge_now _ _).trans (State.atEdge_now s i)
    · exact Bay.frameEdge_frame
  case off => exact fun i => exec_frameEdge_of_off i

end Sys2Proof
end

section
/-! PROOFS. READ and WRITE of a session to its own stake, at addresses without a register (R9, R11, R426, R427). -/

namespace Sys2Proof.Machine

/-- The state in which a message of session `j` is done: the session has been heard. -/
def State.heard (s : State) (j : Nat) (x : Session) : State := { s with bay := s.bay.heardSession j x }

theorem State.heard_node (s : State) (j : Nat) (x : Session) : (s.heard j x).bay.node = s.bay.node := by
  simp [State.heard, Bay.node, Bay.rdN]

/-- Whether an address shows a word of FRAM does not depend on the state (R106). -/
theorem Bay.framWord_none_of {b : Bay} {a : Nat} (h : b.framWord a = none) (b' : Bay) : b'.framWord a = none := by
  unfold Bay.framWord at h ⊢
  dsimp only at h ⊢
  split at h
  next shown => split at h <;> cases h
  next notShown => exact if_neg notShown

theorem Bay.hostError_of_block (b : Bay) (cart : Nat) {a : Nat} (ha : a % 4 = 0) (hw : inWindow a = false) (hb : inBlock a = true) :
    b.hostError cart a = 0 := by
  simp [Bay.hostError, ha, hw, hb]

theorem Bay.hostError_of_outside (b : Bay) (cart : Nat) {a : Nat} (ha : a % 4 = 0) (hw : inWindow a = false) (hb : inBlock a = false) :
    b.hostError cart a = 2 := by
  simp [Bay.hostError, ha, hw, hb]

section
variable {s : State} {j : Fin 4} {tag : BitVec 32} {stake : Fin 64} {a : BitVec 32} {x : Session}
  (h0 : s.bay.mode ≠ 0) (hx : s.bay.session j = some x) (hs : stake.val = s.bay.node)
include h0 hx hs

theorem exec_read_of_here {n : BitVec 32} (hn : n.toNat ≠ 0) (hn' : n.toNat ≤ 256) :
    exec (.read j tag stake a n) s = .next ((s.heard j x).doRead j tag.toNat a.toNat n.toNat x) := by
  have here : stake.val = (s.heard j x).bay.node := hs.trans (State.heard_node s j x).symm
  change execRead j tag stake a n s = _
  simp only [execRead, State.onSession, if_neg h0, hx]
  rw [if_neg (by simp [hn, hn'])]
  exact congrArg _ (if_pos here)

theorem exec_write_of_here {w : BitVec 32} {l : List (BitVec 32)} {part : Fin 4} (hl : l.length < 256) :
    exec (.write j tag stake a ⟨w :: l, part⟩) s = .next ((s.heard j x).doWrite j tag.toNat a.toNat (w :: l) part x) := by
  have here : stake.val = (s.heard j x).bay.node := hs.trans (State.heard_node s j x).symm
  change execWrite j tag stake a ⟨w :: l, part⟩ s = _
  simp only [execWrite, State.onSession, if_neg h0, hx]
  rw [if_neg (by simp; omega)]
  exact congrArg _ (if_pos here)

end

section
variable (s : State) (i tag : Nat) {a : Nat} (x : Session) (ha : a % 4 = 0) (hw : inWindow a = false)
include ha hw

theorem State.doRead_of_noReg (hb : inBlock a = true) (hf : s.bay.framWord a = none) (hr : regAt a = none) :
    s.doRead i tag a 1 x = s.answer i tag 0 [0] := by
  simp [State.doRead, State.readLoop, Bay.hostError_of_block _ _ ha hw hb, mayRead, hw, State.hostRead, hf, hr]

theorem State.doRead_of_outside {n : Nat} (hb : inBlock a = false) (hn : n ≠ 0) : s.doRead i tag a n x = s.answer i tag 2 [] := by
  obtain ⟨n, rfl⟩ := Nat.exists_eq_succ_of_ne_zero hn
  simp [State.doRead, State.readLoop, Bay.hostError_of_outside _ _ ha hw hb]

/-- The word that no register takes counts as done; bytes of a further word are error 1 (R9). -/
theorem State.doWrite_of_noReg (w : BitVec 32) (part : Nat) (hb : inBlock a = true) (hm : mayWrite x.level a = true) (hr : regAt a = none) :
    s.doWrite i tag a [w] part x = s.answer i tag (if part = 0 then 0 else 1) [1] := by
  have no5 : ¬ (if part = 0 then (0 : Int) else 1) = 5 := by split <;> decide
  simp [State.doWrite, State.writeLoop, Bay.hostError_of_block _ _ ha hw hb, hw, hm, State.hostWrite_of_noReg hr, no5]

theorem State.doWrite_of_outside (w : BitVec 32) (l : List (BitVec 32)) (part : Nat) (hb : inBlock a = false) :
    s.doWrite i tag a (w :: l) part x = s.answer i tag 2 [0] := by
  simp [State.doWrite, State.writeLoop, Bay.hostError_of_outside _ _ ha hw hb]

end

end Sys2Proof.Machine

namespace Sys2Proof

open Sys2Proof.Machine

/-- A message that is only answered leaves the memories and the queue, and sends its answer. -/
theorem completes_answer {c : Instr} {s : State} {j tag : Nat} {x : Session} {status : Int} {words : List Int}
    (he : exec c s = .next ((s.heard j x).answer j tag status words)) :
    completes c s (fun b => b = (s.bay.heardSession j x).send (.rim j tag status words)) := ⟨_, he, rfl, rfl, rfl⟩

/-- Settles O49: the loops of READ and WRITE pass over a word without a register, and stop at one outside every block. -/
theorem addressesWithoutARegister : Obligations.AddressesWithoutARegister := by
  unfold Obligations.AddressesWithoutARegister
  intro s
  refine ⟨?hostWrite, ?read, ?write, ?readOutside, ?writeOutside, ?writePart⟩
  case hostWrite => exact fun a w => exec_registerWrite_of_noReg
  case read =>
    intro j tag stake a x h0 hx hs ha hw hb hf hr
    apply completes_answer
    rw [exec_read_of_here h0 hx hs (by decide) (by decide)]
    exact congrArg _ (State.doRead_of_noReg _ _ _ _ ha hw hb (Bay.framWord_none_of hf _) hr)
  case write =>
    intro j tag stake a w x h0 hx hs ha hw hb hm hr
    apply completes_answer
    rw [exec_write_of_here h0 hx hs (by decide), State.doWrite_of_noReg _ _ _ _ ha hw _ _ hb hm hr]
    rfl
  case readOutside =>
    intro j tag stake a n x h0 hx hs ha hw hb hn hn'
    apply completes_answer
    rw [exec_read_of_here h0 hx hs hn hn', State.doRead_of_outside _ _ _ _ ha hw hb hn]
  case writeOutside =>
    intro j tag stake a w ws x h0 hx hs ha hw hb hl
    apply completes_answer
    rw [exec_write_of_here h0 hx hs hl, State.doWrite_of_outside _ _ _ _ ha hw _ _ _ hb]
  case writePart =>
    intro j tag stake a w part x h0 hx hs ha hw hb hm hr hp
    apply completes_answer
    rw [exec_write_of_here h0 hx hs (by decide), State.doWrite_of_noReg _ _ _ _ ha hw _ _ hb hm hr, if_neg hp]

end Sys2Proof
end

section
/-! PROOFS. The power node and the wales (R50 to R52, R65, R513). -/

namespace Sys2Proof.Machine

/-! ## The meaning each row runs -/

section
variable (s : State)

theorem exec_nodeOvervoltage (v : Int) : exec (.nodeOvervoltage v) s = execNodeOvervoltage v s := rfl
theorem exec_nodeVoltageRecovered (v : Int) : exec (.nodeVoltageRecovered v) s = execNodeVoltageRecovered v s := rfl
theorem exec_sectionBusOvervoltage (n : Fin 4) (v : Int) : exec (.sectionBusOvervoltage n v) s = execSectionBusOvervoltage n v s := rfl
theorem exec_overloadBudgetEmpty (h : Fin 6) : exec (.overloadBudgetEmpty h) s = execOverloadBudgetEmpty h s := rfl
theorem exec_overloadBudgetRefilled (h : Fin 6) : exec (.overloadBudgetRefilled h) s = execOverloadBudgetRefilled h s := rfl
theorem exec_drain (n : Fin 4) : exec (.drain n) s = execDrain n s := rfl
theorem exec_drainComplete (n : Fin 4) : exec (.drainComplete n) s = execDrainComplete n s := rfl
theorem exec_run (n : Fin 4) : exec (.run n) s = execRun n s := rfl
theorem exec_cartridgePrechargeDone (n : Fin 5) : exec (.cartridgePrechargeDone n) s = execCartridgePrechargeDone n s := rfl

end

/-! ## The wales fitted -/

theorem Bay.mem_wales {b : Bay} {n : Nat} : n ∈ b.wales ↔ n < 4 ∧ b.walePresent n = true := by simp [Bay.wales]

/-- Which wales are fitted is a matter of the bay's own registers (R403). -/
theorem Bay.walePresent_congr {b b' : Bay} (h : ∀ k : Key, k.grp = .bay → b'.rd k = b.rd k) (n : Nat) :
    b'.walePresent n = b.walePresent n := by
  have slot : b'.waleSlot n = b.waleSlot n := by
    unfold Bay.waleSlot
    split <;> exact h _ rfl
  simp [Bay.walePresent, slot]

/-- One value written to a field of each member of a list: what a register then holds. -/
theorem Bay.rd_each_wr (b : Bay) (l : List Nat) (f : Nat → Key) (v : Int) (k : Key) :
    (b.each l (fun b n => b.wr (f n) v)).rd k = if k ∈ l.map f then v else b.rd k := by
  unfold Bay.each
  induction l generalizing b with
  | nil => simp
  | cons n l ih =>
    rw [List.foldl_cons, ih, Bay.rd_wr]
    by_cases h : f n = k
    · simp [h]
    · simp [h, Ne.symm h]

/-! ## The node above its limit (R50) -/

/-- The node voltage shown, the axis converter's return ended, the power event (R50). -/
def Bay.nodeAlarm (b : Bay) (v : Int) : Bay :=
  (((b.wr F.PWR_NODE_V v).setFlag F.PWR_AXBUS_RETURN false).setPlant { b.plant with nodeHigh := true }).note 243

/-- No section converter sends energy into the node (R50). -/
def Bay.stopFeeding (b : Bay) : Bay :=
  b.each (b.wales.filter (fun n => b.rd (F.SEC_STAT_DIR n) == 2)) (fun b n => b.wr (F.SEC_STAT_DIR n) 0)

theorem exec_nodeOvervoltage_of_high {s : State} {v : Int} (h : 980000 < v) :
    exec (.nodeOvervoltage v) s = s.onBay (fun b => (b.nodeAlarm v).stopFeeding) := by
  rw [exec_nodeOvervoltage, execNodeOvervoltage]
  simp only [h, if_true]
  rfl

theorem Bay.nodeAlarm_rd (b : Bay) (v : Int) {k : Key} (hv : ¬ k = F.PWR_NODE_V) (hr : ¬ k = F.PWR_AXBUS_RETURN)
    (he : ¬ k = F.EVT_STAT_LOST) : (b.nodeAlarm v).rd k = b.rd k := by
  simp [Bay.nodeAlarm, Bay.note_rd _ _ he, hv, hr]

@[simp] theorem Bay.nodeAlarm_wales (b : Bay) (v : Int) : (b.nodeAlarm v).wales = b.wales :=
  List.filter_congr (fun n _ => Bay.walePresent_congr (fun k hk => by simp [Bay.nodeAlarm, hk]) n)

theorem Bay.stopFeeding_rd (b : Bay) (k : Key) :
    b.stopFeeding.rd k = if ∃ n ∈ b.wales, b.rd (F.SEC_STAT_DIR n) = 2 ∧ F.SEC_STAT_DIR n = k then 0 else b.rd k := by
  simp [Bay.stopFeeding, Bay.rd_each_wr, and_assoc]

@[simp] theorem Bay.stopFeeding_rd_of_grp (b : Bay) {k : Key} (h : ¬ k.grp = .sec) : b.stopFeeding.rd k = b.rd k := by
  rw [Bay.stopFeeding_rd, if_neg]
  rintro ⟨n, -, -, rfl⟩
  exact h rfl

@[simp] theorem Bay.stopFeeding_plant (b : Bay) : b.stopFeeding.plant = b.plant :=
  Bay.each_keeps Bay.plant (fun b n => b.wr (F.SEC_STAT_DIR n) 0) (fun _ _ => rfl) b _

/-! ## Overload budgets (R51) -/

@[simp] theorem Bay.note_capCont (b : Bay) (src h : Nat) : (b.note src).capCont h = b.capCont h := by
  simp [Bay.capCont, Bay.flag]

@[simp] theorem Bay.setCapCont_capCont (b : Bay) (h : Nat) (v : Bool) : (b.setCapCont h v).capCont h = v := by
  unfold Bay.setCapCont Bay.capCont
  split
  · cases v <;> simp [Bay.flag]
  · split <;> rfl

end Sys2Proof.Machine

namespace Sys2Proof

open Sys2Proof.Machine

/-- Settles O2: each row's condition selects its branch, and the frames of what it runs leave the fields it names. -/
theorem nodeAndWales : Obligations.NodeAndWales := by
  unfold Obligations.NodeAndWales
  intro s
  refine ⟨?nodeHigh, ?nodeRecovered, ?sectionHigh, ?budgetEmpty, ?budgetRefilled, ?drain, ?drained, ?run, ?precharged⟩
  case nodeHigh =>
    intro v h
    refine completes_onBay (exec_nodeOvervoltage_of_high h) ⟨?_, ?_, ?_, ?_, ?_⟩
    · simp [Bay.nodeAlarm]
    · simp [Bay.nodeAlarm]
    · simp [Bay.nodeAlarm]
    · intro n hn hd
      rw [Bay.stopFeeding_rd, if_pos]
      exact ⟨n, by simp [Bay.mem_wales, hn], by simp [Bay.nodeAlarm_rd, hd], rfl⟩
    · intro k hk
      simp only [List.mem_cons, List.not_mem_nil, or_false, not_or] at hk
      obtain ⟨hv, hr, h0, h1, h2, h3, he⟩ := hk
      rw [Bay.stopFeeding_rd, if_neg, Bay.nodeAlarm_rd _ _ hv hr he]
      rintro ⟨n, hn, -, rfl⟩
      have four : n < 4 := (Bay.mem_wales.1 hn).1
      obtain rfl | rfl | rfl | rfl : n = 0 ∨ n = 1 ∨ n = 2 ∨ n = 3 := by omega
      · exact h0 rfl
      · exact h1 rfl
      · exact h2 rfl
      · exact h3 rfl
  case nodeRecovered =>
    intro v h
    apply completes_onBay (exec_nodeVoltageRecovered _ _)
    simp +contextual [h, keepsRegs]
  case sectionHigh =>
    intro n v h
    apply completes_onBay (exec_sectionBusOvervoltage _ _ _)
    simp [h]
  case budgetEmpty =>
    intro h hb hc
    apply completes_onBay (exec_overloadBudgetEmpty _ _)
    simp [hb, hc]
  case budgetRefilled =>
    intro h hb hc
    apply completes_onBay (exec_overloadBudgetRefilled _ _)
    simp [hb, hc]
  case drain =>
    intro n hg he hs _
    apply completes_onBay (exec_drain _ _)
    rw [Bay.gated_open hg]
    simp [Bay.drain, he, hs]
  case drained =>
    intro n hs hw
    apply completes_onBay (exec_drainComplete _ _)
    simp +contextual [hs, hw, keepsRegs, Bay.note_rd]
  case run =>
    intro n hg hs hp
    apply completes_onBay (exec_run _ _)
    rw [Bay.gated_open hg]
    simp [Bay.runWale, hs, hp, keepsRegs]
  case precharged =>
    intro n t hn hp ht
    apply completes_onBay (exec_cartridgePrechargeDone _ _)
    simp +contextual [hp, ht, hn, keepsRegs, Bay.note_rd]

end Sys2Proof
end

section
/-! PROOFS. The axis bus with its brake chopper (R53 to R56, R285) and the end of ride-through (R65 to R67). -/

namespace Sys2Proof.Machine

/-! ## The meaning each row runs -/

section
variable (s : State)

theorem exec_axisBusReturn (v : Int) : exec (.axisBusReturn v) s = execAxisBusReturn v s := rfl
theorem exec_brakeChopperSwitch (v : Int) : exec (.brakeChopperSwitch v) s = execBrakeChopperSwitch v s := rfl
theorem exec_axisBusOvervoltage (v : Int) : exec (.axisBusOvervoltage v) s = execAxisBusOvervoltage v s := rfl
theorem exec_axisBusUndervoltage (v : Int) : exec (.axisBusUndervoltage v) s = execAxisBusUndervoltage v s := rfl
theorem exec_chopperFault (conducts : Bool) : exec (.chopperFault conducts) s = execChopperFault conducts s := rfl
theorem exec_chopperTestStart : exec .chopperTestStart s = execChopperTestStart s := rfl
theorem exec_chopperTestPhase (i : Int) : exec (.chopperTestPhase i) s = execChopperTestPhase i s := rfl
theorem exec_chopperTestResult (i : Int) : exec (.chopperTestResult i) s = execChopperTestResult i s := rfl
theorem exec_donorLost (c : Fin 64) : exec (.donorLost c) s = execDonorLost c s := rfl
theorem exec_rideThroughTimeout : exec .rideThroughTimeout s = execRideThroughTimeout s := rfl
theorem exec_rideThroughNodeLow (v : Int) : exec (.rideThroughNodeLow v) s = execRideThroughNodeLow v s := rfl
theorem exec_plantBusReturn (v : Int) : exec (.plantBusReturn v) s = execPlantBusReturn v s := rfl

end

/-! ## What leaves the plant's hidden state alone -/

theorem Bay.each_plant {f : Bay → Nat → Bay} (h : ∀ b n, (f b n).plant = b.plant) (b : Bay) (l : List Nat) :
    (b.each l f).plant = b.plant := Bay.each_keeps Bay.plant f h b l

@[simp] theorem Bay.sendEvBit_plant (b : Bay) (t e i : Nat) : (b.sendEvBit t e i).plant = b.plant := rfl

@[simp] theorem Bay.ringStat_plant (b : Bay) (c : Nat) : (b.ringStat c).plant = b.plant := by
  simp only [Bay.ringStat]; split <;> simp

@[simp] theorem Bay.putEntry_plant (b : Bay) (c : Nat) (e : RecEntry) : (b.putEntry c e).plant = b.plant := by
  simp only [Bay.putEntry]
  repeat' split
  all_goals simp [Bay.dropEntry]

@[simp] theorem Bay.syncMode_plant (b : Bay) (c : Nat) : (b.syncMode c).plant = b.plant := rfl

@[simp] theorem Bay.endSweepEarly_plant (b : Bay) (c : Nat) (code : Int) : (b.endSweepEarly c code).plant = b.plant := by
  simp only [Bay.endSweepEarly]
  repeat' split
  all_goals simp

@[simp] theorem Bay.hold_plant (b : Bay) (c cause : Nat) : (b.hold c cause).plant = b.plant := by
  simp only [Bay.hold]
  repeat' split
  all_goals simp [Bay.recEvent, Bay.markInterval, Bay.endDonation]

@[simp] theorem Bay.settle_plant (b : Bay) (c : Nat) : (b.settle c).plant = b.plant := by
  simp only [Bay.settle]
  repeat' split
  all_goals simp

@[simp] theorem Bay.leave_plant (b : Bay) (c cause : Nat) : (b.leave c cause).plant = b.plant := by
  simp only [Bay.leave, Bay.onlyIf]
  repeat' split
  all_goals simp [Bay.recEvent]

@[simp] theorem Bay.stopFor_plant (b : Bay) (code : Nat) : (b.stopFor code).plant = b.plant := by
  simp only [Bay.stopFor, Bay.recordStop]
  repeat' split
  all_goals simp

@[simp] theorem Bay.setDirs_plant (b : Bay) (v : Int) : (b.setDirs v).plant = b.plant :=
  Bay.each_plant (f := fun b n => b.wr (F.SEC_STAT_DIR n) v) (fun _ _ => rfl) b b.wales

@[simp] theorem Bay.stoAxis_plant (b : Bay) (a cause : Nat) : (b.stoAxis a cause).plant = b.plant := by
  simp only [Bay.stoAxis, Bay.brakeNow]
  repeat' split
  all_goals simp

@[simp] theorem Bay.stoAll_plant (b : Bay) (cause : Nat) : (b.stoAll cause).plant = b.plant :=
  Bay.each_plant (fun b a => Bay.stoAxis_plant b a cause) b allAxes

/-! ## All axes in STO (R269) -/

theorem Bay.each_of_not_mem {α : Type} {g : Bay → α} {f : Bay → Nat → Bay} {a : Nat} (h : ∀ b n, n ≠ a → g (f b n) = g b)
    (b : Bay) {l : List Nat} (ha : a ∉ l) : g (b.each l f) = g b := by
  unfold Bay.each
  induction l generalizing b with
  | nil => rfl
  | cons n l ih =>
    obtain ⟨hn, hl⟩ := List.ne_and_not_mem_of_not_mem_cons ha
    exact (ih _ hl).trans (h b n (Ne.symm hn))

/-- An operation that leaves what concerns the other members, done to each of a list, does to a member what it does to it alone. -/
theorem Bay.each_of_mem {α : Type} {g : Bay → α} {f : Bay → Nat → Bay} {a : Nat} (h : ∀ b n, n ≠ a → g (f b n) = g b)
    (b : Bay) {l : List Nat} (hl : l.Nodup) (ha : a ∈ l) : ∃ b', g b' = g b ∧ g (b.each l f) = g (f b' a) := by
  obtain ⟨l₁, l₂, rfl⟩ := List.append_of_mem ha
  obtain ⟨-, tail, apart⟩ := List.nodup_append.1 hl
  have before : a ∉ l₁ := fun ha => apart a ha a List.mem_cons_self rfl
  have after : a ∉ l₂ := (List.nodup_cons.1 tail).1
  refine ⟨b.each l₁ f, Bay.each_of_not_mem h b before, ?_⟩
  rw [Bay.each, List.foldl_append]
  exact Bay.each_of_not_mem h _ after

theorem Bay.stoAxis_other (b : Bay) {a n : Nat} (cause o lo : Nat) (h : n ≠ a) :
    (b.stoAxis n cause).rd ⟨.axs, a, o, lo⟩ = b.rd ⟨.axs, a, o, lo⟩ := by
  simp only [Bay.stoAxis, Bay.brakeNow]
  repeat' split
  all_goals simp [Ne.symm h]

theorem Bay.stoAxis_axState (b : Bay) (a cause : Nat) : (b.stoAxis a cause).axState a = Ax.sto := by
  by_cases h : b.axState a = Ax.sto
  · unfold Bay.stoAxis
    rw [if_pos h]
    split
    · exact h
    · simpa [Bay.axState] using h
  · simp [Bay.stoAxis, Bay.axState, Bay.brakeNow]

theorem Bay.stoAxis_cause {b : Bay} {a : Nat} (cause : Nat) (h : b.axState a ≠ Ax.sto) :
    (b.stoAxis a cause).rd (F.AXS_FLT_CAUSE a) = cause ∧ (b.stoAxis a cause).rd (F.AXS_FLT_SECOND a) = 0 := by
  simp [Bay.stoAxis, h, Bay.brakeNow]

/-- State, CAUSE and SECOND of an axis (R268, R269). -/
def Bay.axisFlt (b : Bay) (a : Nat) : Int × Int × Int := (b.axState a, b.rd (F.AXS_FLT_CAUSE a), b.rd (F.AXS_FLT_SECOND a))

theorem Bay.stoAll_axis (b : Bay) {a : Nat} (cause : Nat) (ha : a < 6) :
    (b.stoAll cause).axState a = Ax.sto ∧
      (b.axState a ≠ Ax.sto → (b.stoAll cause).rd (F.AXS_FLT_CAUSE a) = cause ∧ (b.stoAll cause).rd (F.AXS_FLT_SECOND a) = 0) := by
  have others : ∀ b n, n ≠ a → (Bay.stoAxis b n cause).axisFlt a = b.axisFlt a := fun b n hn => by
    simp [Bay.axisFlt, Bay.axState, Bay.stoAxis_other b cause _ _ hn]
  obtain ⟨b', before, after⟩ := Bay.each_of_mem (g := fun b => b.axisFlt a) others b (l := allAxes) List.nodup_range (List.mem_range.2 ha)
  simp only [Bay.axisFlt, Prod.mk.injEq] at before after
  obtain ⟨state, first, second⟩ := after
  rw [show b.stoAll cause = b.each allAxes (fun b a => b.stoAxis a cause) from rfl, state, first, second, ← before.1]
  exact ⟨Bay.stoAxis_axState _ _ _, Bay.stoAxis_cause cause⟩

/-- A chopper that conducts while off (R54). -/
theorem Bay.chopFault_conducts (b : Bay) :
    (b.chopFault true).rd F.PWR_AXBUS_CHOP_FLT = 1 ∧ (b.chopFault true).plant.chopConducts = true ∧ (b.chopFault true).plant.axConvOn = false ∧
      (b.chopFault true).plant.limit17 = true ∧ ∀ a : Fin 6, (b.chopFault true).axState a = Ax.sto := by
  unfold Bay.chopFault
  rw [if_pos rfl]
  exact ⟨by simp, by simp, by simp, by simp, fun a => (Bay.stoAll_axis _ 13 a.isLt).1⟩

/-! ## The end of ride-through in SAFE-STOP (R66) -/

theorem Bay.rtStop_ends {b : Bay} (hon : b.plant.rtOn = true) (he : b.entState ≠ Ent.fault) :
    b.rtStop.entState = Ent.open_ ∧ b.rtStop.plant.rtOn = false ∧ b.rtStop.rd F.BAY_STAT_HOLD_RT = 0 ∧
      b.rtStop.rd F.PWR_RT_TIME = ((b.now - b.plant.rtT0) / msTicks : Nat) := by
  have noFault : ¬ b.rd F.PWR_ENTRY_STAT_STATE = 6 := he
  simp [Bay.rtStop, hon, Bay.entState, Bay.entryOpens, Bay.setEnt, noFault, Bay.each_plant]

end Sys2Proof.Machine

namespace Sys2Proof

open Sys2Proof.Machine

/-- Settles O3: each row's condition selects its branch; STO reaches each axis once, and a ride-through that ends opens the entry. -/
theorem axisBusAndRideThrough : Obligations.AxisBusAndRideThrough := by
  unfold Obligations.AxisBusAndRideThrough
  intro s
  refine ⟨?returns, ?chopOn, ?chopOff, ?chopBand, ?overvoltage, ?undervoltage, ?conducts, ?fails, ?testStart, ?testPhase, ?testResult,
    ?donorLost, ?timeout, ?nodeLow, ?busReturn⟩
  case returns =>
    intro v
    apply completes_onBay (exec_axisBusReturn _ _)
    exact ⟨by simp, by simp [and_assoc], by simp +contextual [keepsRegs]⟩
  case chopOn =>
    intro v hv hc
    apply completes_onBay (exec_brakeChopperSwitch _ _)
    simp +contextual [hv, hc, keepsRegs]
  case chopOff =>
    intro v hv hc
    have low : ¬ 54000 < v := by omega
    apply completes_onBay (exec_brakeChopperSwitch _ _)
    simp [low, hv, hc]
  case chopBand =>
    intro v hv hv'
    have low : ¬ 54000 < v := by omega
    have high : ¬ v < 52000 := by omega
    apply completes_onBay (exec_brakeChopperSwitch _ _)
    simp +contextual [low, high, keepsRegs]
  case overvoltage =>
    intro v hv
    apply completes_onBay (exec_axisBusOvervoltage _ _)
    rw [if_pos hv]
    exact ⟨by simp, fun a => by simpa [Bay.axState] using Bay.stoAll_axis (s.bay.wr F.PWR_AXBUS_AXV (v / 10)) 9 a.isLt⟩
  case undervoltage =>
    intro v hv
    apply completes_onBay (exec_axisBusUndervoltage _ _)
    rw [if_pos hv]
    exact ⟨by simp, fun a => by simpa [Bay.axState] using Bay.stoAll_axis (s.bay.wr F.PWR_AXBUS_AXV (v / 10)) 10 a.isLt⟩
  case conducts => exact completes_onBay (exec_chopperFault _ _) s.bay.chopFault_conducts
  case fails =>
    apply completes_onBay (exec_chopperFault _ _)
    simp [Bay.chopFault]
  case testStart =>
    intro hdue hx ht hlow hhigh hax
    have steady : allAxes.all (fun a => s.bay.axState a != Ax.stopping) = true := by simpa using hax
    apply completes_onBay (exec_chopperTestStart _)
    simp [hdue, hx, ht, hlow, hhigh, steady]
  case testPhase =>
    intro i hp ht
    apply completes_onBay (exec_chopperTestPhase _ _)
    simp +contextual [hp, ht, keepsRegs]
  case testResult =>
    intro i hp ht hleak hi hbad
    have noLeak : ¬ 100 ≤ i := by omega
    apply completes_onBay (exec_chopperTestResult _ _)
    simp +contextual [hp, ht, hleak, noLeak, hbad, keepsRegs]
  case donorLost =>
    intro c d hon hc hgone hd hne
    have left : d.val ∈ s.bay.plant.rtDonors.filter (fun x => x != c.val) := by simp [hd, Fin.val_ne_of_ne hne]
    apply completes_onBay (exec_donorLost _ _)
    simp only [hon, hc, hgone, Bool.and_self, if_true, Bay.setPlant_plant, List.isEmpty_eq_false_iff_exists_mem.2 ⟨_, left⟩]
    exact ⟨by simp, left, rfl, fun _ _ => rfl⟩
  case timeout =>
    intro hon hst ht
    obtain ⟨hent, hoff, hhold, htime⟩ := Bay.rtStop_ends hon (by rw [hst]; decide)
    apply completes_onBay (exec_rideThroughTimeout _)
    simp only [hon, ht]
    exact ⟨htime, hent, hoff, hhold⟩
  case nodeLow =>
    intro v hon hst hv
    have state : (s.bay.wr F.PWR_NODE_V v).entState = Ent.rideThrough := (Bay.rd_wr_of_ne _ _ (by decide)).trans hst
    obtain ⟨hent, hoff, hhold, -⟩ := Bay.rtStop_ends (b := s.bay.wr F.PWR_NODE_V v) hon (by rw [state]; decide)
    apply completes_onBay (exec_rideThroughNodeLow _ _)
    simp only [hon, hv]
    exact ⟨by simp, hent, hoff, hhold⟩
  case busReturn =>
    intro v t hon hst hok ht hv hres
    have near : ¬ 20000 < (v - s.bay.rd F.PWR_X1_V).natAbs := by omega
    have noFault : ¬ s.bay.rd F.PWR_ENTRY_STAT_STATE = Ent.fault := fun e => absurd (hst.symm.trans e) (by decide)
    have stays : s.bay.rd F.PWR_RT_CTL_AUTORES = 0 := by simpa [Bay.flag] using hres
    apply completes_onBay (exec_plantBusReturn _ _)
    simp [hon, noFault, hok, ht, near, stays, Bay.flag, Bay.setEnt, Bay.entState]

end Sys2Proof
end

section
/-! PROOFS. Power-up, power-down, the control supplies and the end of boot (R65, R384, R520). -/

namespace Sys2Proof.Machine

/-! ## The meaning each row runs -/

section
variable (s : State)

theorem exec_powerUp : exec .powerUp s = execPowerUp s := rfl
theorem exec_powerDown : exec .powerDown s = execPowerDown s := rfl
theorem exec_controlSupplyChange (i : Fin 2) (what : Fin 3) : exec (.controlSupplyChange i what) s = execControlSupplyChange i what s := rfl
theorem exec_bootComplete (se up : BitVec 2) : exec (.bootComplete se up) s = execBootComplete se up s := rfl

end

/-! ## Power-up (R384) -/

/-- What a restart begins anew: the mode's hidden state, the channels and the engines (R384; log entry 44). -/
def Bay.restarted (b : Bay) : ModeSt × Tab Chan × Tab Eng := (b.modeSt, b.chan, b.eng)

@[simp] theorem Bay.wr_restarted (b : Bay) (k : Key) (v : Int) : (b.wr k v).restarted = b.restarted := rfl
@[simp] theorem Bay.setFlag_restarted (b : Bay) (k : Key) (v : Bool) : (b.setFlag k v).restarted = b.restarted := rfl

theorem Bay.each_restarted {f : Bay → Nat → Bay} (h : ∀ b n, (f b n).restarted = b.restarted) (b : Bay) (l : List Nat) :
    (b.each l f).restarted = b.restarted := Bay.each_keeps Bay.restarted f h b l

@[simp] theorem Bay.showSet_restarted (b : Bay) (l : List Byte) : (b.showSet l).restarted = b.restarted := by
  simp only [Bay.showSet, Bay.wr_restarted]
  rw [Bay.each_restarted, Bay.each_restarted] <;> intros <;> rfl

theorem Bay.showSets_restarted (b : Bay) : b.showSets.restarted = b.restarted := by
  cases active : b.safe.active <;> simp only [Bay.showSets, active] <;> split <;> simp

theorem Bay.ownDefaults_restarted (b : Bay) (carts : Bool) : (b.ownDefaults carts).restarted = b.restarted := by
  unfold Bay.ownDefaults
  refine (Bay.each_restarted (fun b n => ?_) _ _).trans rfl
  cases carts <;> rfl

theorem Bay.contactorFault_restarted (z b : Bay) (carts : Bool) : (z.contactorFault b carts).restarted = z.restarted := by
  unfold Bay.contactorFault
  split <;> rfl

theorem Bay.rebooted_restarted (b : Bay) (carts : Bool) : (b.rebooted carts).restarted = ({}, [], []) := by
  refine Eq.trans (b := Bay.restarted (Bay.contactorFault _ b carts)) rfl ?_
  rw [Bay.contactorFault_restarted, Bay.ownDefaults_restarted, Bay.showSets_restarted]
  rfl

theorem Bay.startBoot_boots (b : Bay) :
    (b.startBoot false).mode = Mode.boot ∧ (b.startBoot false).rd F.BAY_STAT_PREV = b.mode ∧ (b.startBoot false).rd F.BAY_MODE_T = b.now ∧
      (b.startBoot false).modeSt = {} ∧ (b.startBoot false).chan = [] ∧ (b.startBoot false).eng = [] := by
  have h := b.rebooted_restarted false
  simp only [Bay.restarted, Prod.mk.injEq] at h
  obtain ⟨hm, hc, he⟩ := h
  simp [Bay.startBoot, Bay.onlyIf, Bay.mode, hm, hc, he]

/-! ## The control cartridges fitted -/

theorem Bay.cPresent_congr {b b' : Bay} (ha : b'.rd F.BAY_SLOTS_CA = b.rd F.BAY_SLOTS_CA) (hb : b'.rd F.BAY_SLOTS_CB = b.rd F.BAY_SLOTS_CB) (x : Nat) :
    b'.cPresent x = b.cPresent x := by simp [Bay.cPresent, ha, hb]

theorem Bay.carts_congr {b b' : Bay} (ha : b'.rd F.BAY_SLOTS_CA = b.rd F.BAY_SLOTS_CA) (hb : b'.rd F.BAY_SLOTS_CB = b.rd F.BAY_SLOTS_CB) :
    b'.carts = b.carts := List.filter_congr (fun x _ => Bay.cPresent_congr ha hb x)

theorem Bay.carts_both {b : Bay} : b.carts = [0, 1] ↔ b.cPresent 0 = true ∧ b.cPresent 1 = true := by
  cases h0 : b.cPresent 0 <;> cases h1 : b.cPresent 1 <;> simp [Bay.carts, h0, h1]

/-! ## BOOT_COMPLETE (R330, R384, R451, R452) -/

/-- What the end of boot judges that a cartridge's own boot leaves alone: the safety controller's hidden state and the MRAM records found bad (R330, R451). -/
def Bay.bootFinds (b : Bay) : Safe × List (Nat × Nat) := (b.safe, b.modeSt.mramBad)

@[simp] theorem Bay.wr_bootFinds (b : Bay) (k : Key) (v : Int) : (b.wr k v).bootFinds = b.bootFinds := rfl
@[simp] theorem Bay.setFlag_bootFinds (b : Bay) (k : Key) (v : Bool) : (b.setFlag k v).bootFinds = b.bootFinds := rfl
@[simp] theorem Bay.setRed_bootFinds (b : Bay) (r : Red) : (b.setRed r).bootFinds = b.bootFinds := rfl
@[simp] theorem Bay.setTrust_bootFinds (b : Bay) (t : Trust) : (b.setTrust t).bootFinds = b.bootFinds := rfl
@[simp] theorem Bay.note_bootFinds (b : Bay) (src : Nat) : (b.note src).bootFinds = b.bootFinds := by simp [Bay.bootFinds]

@[simp] theorem Bay.stopFor_bootFinds (b : Bay) (code : Nat) : (b.stopFor code).bootFinds = b.bootFinds := by
  unfold Bay.stopFor Bay.recordStop
  repeat' split
  all_goals rfl

@[simp] theorem Bay.redRecord_bootFinds (b : Bay) (cause side detail : Int) : (b.redRecord cause side detail).bootFinds = b.bootFinds := rfl

@[simp] theorem Bay.pairFault_bootFinds (b : Bay) (side : Nat) : (b.pairFault side).bootFinds = b.bootFinds := by
  unfold Bay.pairFault
  split
  · exact Bay.stopFor_bootFinds _ 7
  · rfl

@[simp] theorem Bay.openWin_bootFinds (b : Bay) (k side : Nat) : (b.openWin k side).bootFinds = b.bootFinds := by
  unfold Bay.openWin
  split <;> rfl

theorem Bay.goSilent_bootFinds (b : Bay) (x : Nat) : (b.goSilent x).bootFinds = b.bootFinds := by
  simp only [Bay.goSilent, Bay.setRole, Bay.closeWin, Bay.stopJoin, Bay.onlyIf]
  repeat' split
  all_goals simp

@[simp] theorem Bay.bootCart_bootFinds (b : Bay) (x : Nat) : (b.bootCart x).bootFinds = b.bootFinds := by
  simp only [Bay.bootCart]
  repeat' split
  · rfl
  · exact Bay.note_bootFinds _ _
  · exact Bay.goSilent_bootFinds b x

@[simp] theorem Bay.quarantineFor_bootFinds (b : Bay) (code : Nat) : (b.quarantineFor code).bootFinds = b.bootFinds := by
  simp only [Bay.quarantineFor]
  split <;> rfl

@[simp] theorem Bay.quarantineFor_mramBad (b : Bay) (code : Nat) : (b.quarantineFor code).modeSt.mramBad = b.modeSt.mramBad :=
  congrArg Prod.snd (b.quarantineFor_bootFinds code)

@[simp] theorem Bay.showKey_bootFinds (b : Bay) : b.showKey.bootFinds = b.bootFinds := rfl

@[simp] theorem Bay.onlyIf_bootFinds {f : Bay → Bay} (h : ∀ b, (f b).bootFinds = b.bootFinds) (b : Bay) (c : Bool) :
    (b.onlyIf c f).bootFinds = b.bootFinds := Bay.onlyIf_keeps Bay.bootFinds f h b c

@[simp] theorem Bay.onlyIf_mramBad {f : Bay → Bay} (h : ∀ b, (f b).modeSt.mramBad = b.modeSt.mramBad) (b : Bay) (c : Bool) :
    (b.onlyIf c f).modeSt.mramBad = b.modeSt.mramBad := Bay.onlyIf_keeps (fun b => b.modeSt.mramBad) f h b c

/-- `3` names both cartridges. -/
theorem testBit_both : Nat.testBit 3 1 = true := by decide

theorem Bay.each_nil (b : Bay) (f : Bay → Nat → Bay) : b.each [] f = b := rfl

theorem Bay.each_filter_false (b : Bay) (l : List Nat) (f : Bay → Nat → Bay) : b.each (l.filter (fun _ => false)) f = b := by
  rw [List.filter_eq_nil_iff.2 (fun _ _ => Bool.false_ne_true), Bay.each_nil]

/-- Working secure elements and sound records in both cartridges: neither is faulty, and only the lost record key is left to find (R451, R452). -/
theorem Bay.bootTrust_of_sound {b : Bay} (hc : b.carts = [0, 1]) (hm : b.modeSt.mramBad = []) :
    (b.bootTrust 3).rd F.TRU_STAT_SE_CA_OK = 1 ∧ (b.bootTrust 3).rd F.TRU_STAT_SE_CB_OK = 1 ∧
      (b.bootTrust 3).bootFinds = b.bootFinds := by
  obtain ⟨h0, h1⟩ := Bay.carts_both.1 hc
  have carts : ∀ t u v, (((b.setTrust t).setFlag F.TRU_STAT_SE_CA_OK u).setFlag F.TRU_STAT_SE_CB_OK v).carts = [0, 1] :=
    fun t u v => (Bay.carts_congr (by simp) (by simp)).trans hc
  simp [Bay.bootTrust, carts, h0, h1, hm, testBit_both, Bay.each_nil, Bay.each_filter_false]

theorem Bay.bootComplete_of_sound {b : Bay} (hm : b.mode = Mode.boot) (hc : b.carts = [0, 1]) (hd : b.modeSt.bootDone = false)
    (h0 : b.flag (F.MEM_STAT_INIT_DONE 0) = true) (h1 : b.flag (F.MEM_STAT_INIT_DONE 1) = true) (hb : b.modeSt.mramBad = [])
    (ha : b.safe.active ≠ none) :
    (b.bootComplete 3 3).modeSt.bootDone = true ∧ (b.bootComplete 3 3).rd F.SAFE_STAT_MODE = 1 ∧
      (b.bootComplete 3 3).rd F.SAFE_STAT_CHA_OK = 1 ∧ (b.bootComplete 3 3).rd F.SAFE_STAT_CHB_OK = 1 ∧
      (b.bootComplete 3 3).rd F.TRU_STAT_SE_CA_OK = 1 ∧ (b.bootComplete 3 3).rd F.TRU_STAT_SE_CB_OK = 1 := by
  have booted : (b.each b.carts Bay.bootCart).carts = [0, 1] := (Bay.carts_congr (by simp) (by simp)).trans hc
  have finds : (b.each b.carts Bay.bootCart).bootFinds = b.bootFinds := Bay.each_keeps Bay.bootFinds _ Bay.bootCart_bootFinds _ _
  have bad : (b.each b.carts Bay.bootCart).modeSt.mramBad = [] := (congrArg Prod.snd finds).trans hb
  obtain ⟨seA, seB, trust⟩ := Bay.bootTrust_of_sound booted bad
  have active : ((b.each b.carts Bay.bootCart).bootTrust 3).safe.active = b.safe.active :=
    congrArg (fun x => x.1.active) (trust.trans finds)
  have fitted : ∀ x, ((b.each b.carts Bay.bootCart).bootTrust 3).cPresent x = b.cPresent x := fun x =>
    Bay.cPresent_congr (by simp) (by simp) x
  obtain ⟨p0, p1⟩ := Bay.carts_both.1 hc
  unfold Bay.bootComplete
  rw [if_neg (by simp [hm, hc, hd, h0, h1])]
  generalize (b.each b.carts Bay.bootCart).bootTrust 3 = t at seA seB active fitted ⊢
  simp [seA, seB, active, ha, fitted, p0, p1, testBit_both]

end Sys2Proof.Machine

namespace Sys2Proof

open Sys2Proof.Machine

/-- Settles O24: a restart begins mode, channels and engines anew; a boot that finds both cartridges sound ends with both channels and both secure elements good. -/
theorem powerUpSupplyAndBoot : Obligations.PowerUpSupplyAndBoot := by
  unfold Obligations.PowerUpSupplyAndBoot
  intro s
  refine ⟨?powerUp, ?powerDown, ?rideThrough, ?restored, ?changed, ?booted⟩
  case powerUp =>
    intro h
    obtain ⟨mode, prev, time, modeSt, chan, eng⟩ := s.bay.startBoot_boots
    apply completes_onBay (exec_powerUp _)
    simp only [h, Bay.onlyIf, beq_self_eq_true, if_true]
    exact ⟨mode, prev.trans h, time, Bay.startBoot_now _ _, modeSt, chan, eng⟩
  case powerDown =>
    intro h hr
    apply completes_onBay (exec_powerDown _)
    simp [h, hr]
  case rideThrough =>
    intro h hr
    apply completes_onBay (exec_powerDown _)
    simp [h, hr]
  case restored =>
    intro i h
    apply completes_onBay (exec_controlSupplyChange _ _ _)
    simp +contextual [h, Bay.onlyIf, keepsRegs, Bay.raise_rd]
  case changed =>
    intro i w h hw
    apply completes_onBay (exec_controlSupplyChange _ _ _)
    simp [h, hw, Bay.onlyIf]
  case booted =>
    intro se up hm hc hd h0 h1 hb hse hup ha
    subst hse hup
    obtain ⟨done, mode, chA, chB, seA, seB⟩ := Bay.bootComplete_of_sound hm hc hd h0 h1 hb ha
    exact completes_onBay (exec_bootComplete _ _ _) ⟨done, (Bay.bootComplete_rd _ _ _ (by decide)).trans hm, mode, chA, chB, seA, seB⟩

end Sys2Proof
end

section
/-! PROOFS. What reset leaves (R70 to R448, as each register table states it). -/

namespace Sys2Proof.Machine

/-- After reset a field without a value of its own holds what its register table states. -/
theorem State.reset_rd_of_row {k : Key} {v : Int} (hs : resetSpecial k = none) (hr : (rowOf k).map (·.reset) = some v) :
    State.reset.bay.rd k = v := by
  show resetOf k = v
  simp [resetOf, hs, hr]

/-- After reset a field that has a value of its own holds it. -/
theorem State.reset_rd_of_special {k : Key} {v : Int} (hs : resetSpecial k = some v) : State.reset.bay.rd k = v := by
  show resetOf k = v
  simp [resetOf, hs]

end Sys2Proof.Machine

namespace Sys2Proof

open Sys2Proof.Machine

/-- Settles O55: the register file is empty after reset, so each field reads the value of its table or its own. -/
theorem resetLeavesTheStatedValues : Obligations.ResetLeavesTheStatedValues := by
  unfold Obligations.ResetLeavesTheStatedValues
  refine ⟨?bay, ?wale, ?chan, ?axis, ?canMem, ?axisRating, ?source, rfl, rfl, rfl, rfl⟩
  case bay => decide
  case wale =>
    intro n
    and_intros <;> exact State.reset_rd_of_row (by simp [resetSpecial]) rfl
  case chan =>
    intro n
    and_intros <;> exact State.reset_rd_of_row rfl rfl
  case axis =>
    intro a
    and_intros <;> exact State.reset_rd_of_row (by simp [resetSpecial]) rfl
  case canMem =>
    intro n
    and_intros <;> exact State.reset_rd_of_row rfl rfl
  case axisRating =>
    intro a
    exact ⟨State.reset_rd_of_special (by simp [resetSpecial]), State.reset_rd_of_special (by simp [resetSpecial])⟩
  case source =>
    intro n
    split
    next h => exact State.reset_rd_of_special (by simp [resetSpecial, h])
    next h => exact State.reset_rd_of_row (by simp [resetSpecial, h]) rfl

end Sys2Proof
end

section
/-! PROOFS. Shedding a channel that has no healthy phase (R79, R91). -/

namespace Sys2Proof.Machine

/-! ## The phase kept (R79) -/

theorem Bay.healthy_congr {b b' : Bay} {c : Nat} (hok : b'.rd (F.CHN_STG_STAT_PH_OK c) = b.rd (F.CHN_STG_STAT_PH_OK c))
    (hen : b'.rd (F.CHN_STG_CFG_PH_EN c) = b.rd (F.CHN_STG_CFG_PH_EN c)) : b'.healthy c = b.healthy c := by
  simp [Bay.healthy, Bay.rdN, hok, hen]

/-- Where no phase is healthy there is none to keep, and the rotation is empty (log entry 81). -/
theorem Bay.onePhase_phAct_of_noHealthy {b : Bay} {c : Nat} (h : b.healthy c = 0) :
    (b.onePhase c).rd (F.CHN_STG_STAT_PH_ACT c) = 0 := by
  simp [Bay.onePhase, h]

/-! ## CHANNEL_SHED (R79) -/

theorem exec_channelShed (c : Fin 64) (s : State) : exec (.channelShed c) s = execChannelShed c s := rfl

section
variable {s : State} {c : Fin 64} {t : Nat} (hlow : (s.bay.stageOf c).lowSince = some t) (hdue : t + msTicks ≤ s.bay.now)
  (hen : s.bay.flag (F.CHN_STG_CFG_SHED_EN c) = true) (hcsw : s.bay.switchClosed c = true) (hshed : s.bay.flag (F.CHN_STG_STAT_SHED c) = false)
  (htgt : (s.bay.stageOf c).iTgt.natAbs < 20000000) (hi : (s.bay.rd (F.CHN_I c)).natAbs < 20000000)
include hlow hdue hen hcsw hshed htgt hi

theorem exec_channelShed_of_due :
    exec (.channelShed c) s = s.onBay (fun b => (b.setFlag (F.CHN_STG_STAT_SHED c) true).onePhase c) := by
  simp [exec_channelShed, execChannelShed, State.onBay, hlow, hdue, hen, hcsw, hshed, htgt, hi]

/-- A channel without a healthy phase sheds to no phase at all. -/
theorem completes_channelShed_of_noHealthy (hh : s.bay.healthy c = 0) :
    completes (.channelShed c) s (fun b => b.rd (F.CHN_STG_STAT_PH_ACT c) = 0) :=
  completes_onBay (exec_channelShed_of_due hlow hdue hen hcsw hshed htgt hi)
    (Bay.onePhase_phAct_of_noHealthy ((Bay.healthy_congr (by simp) (by simp)).trans hh))

end

end Sys2Proof.Machine

namespace Sys2Proof

open Sys2Proof.Machine

/-- A command has one answer: what two statements say of it, they say of one bay. -/
theorem completes_both {c : Instr} {s : State} {P Q : Bay → Prop} (hp : completes c s P) (hq : completes c s Q) : ∃ b, P b ∧ Q b := by
  obtain ⟨t, ht, -, -, p⟩ := hp
  obtain ⟨u, hu, -, -, q⟩ := hq
  have same : t = u := Host.Outcome.next.inj (ht.symm.trans hu)
  exact ⟨t.bay, p, same ▸ q⟩

/-- Refutes O4: its clause on CHANNEL_SHED (R79) shows the mask of the coolest phase in PH_ACT without asking that a phase is healthy. Channel 0 below has its switch closed and every phase out of service, a state in which R91 would have opened the switch: none is left for the rotation (log entry 81), so that PH_ACT is 0, the mask of no phase. -/
theorem not_channelPhasesAndCellSwitch : ¬ Obligations.ChannelPhasesAndCellSwitch := by
  unfold Obligations.ChannelPhasesAndCellSwitch
  intro h
  let s : State := { bay := {
    regs := [(F.CHN_STG_STAT_STAGE 0, Stg.run), (F.CHN_STG_STAT_CSW 0, 1), (F.CHN_STG_CFG_SHED_EN 0, 1), (F.CHN_STG_STAT_PH_OK 0, 0)]
    now := msTicks
    stage := [(0, { lowSince := some 0 })] } }
  have due : (s.bay.stageOf 0).lowSince = some 0 := rfl
  obtain ⟨-, -, -, shed, -⟩ := h s
  obtain ⟨b, ⟨-, coolest, -⟩, empty⟩ := completes_both
    (shed 0 0 due (by decide) (by decide) (by decide) (by decide) (by decide) (by decide))
    (completes_channelShed_of_noHealthy (c := 0) due (by decide) (by decide) (by decide) (by decide) (by decide) (by decide) (by decide))
  have mask : ((2 ^ s.bay.coolest 0 : Nat) : Int) ≠ 0 := Int.natCast_ne_zero.2 (Nat.ne_of_gt (Nat.two_pow_pos _))
  exact mask (coolest.symm.trans empty)

end Sys2Proof
end

section
/-! PROOFS. A spectral boundary at a wale that delivers no samples (R108, R115, R118). -/

namespace Sys2Proof.Machine

/-- A wale that is not fitted or in self-calibration leaves the boundary nothing to add (R108, R118). -/
theorem exec_spectralBoundary_of_notSampled {s : State} {r : Reading} (h : s.bay.sampled r.chan = false) :
    exec (.spectralBoundary [r]) s = .next s := by
  change execSpectralBoundary [r] s = _
  simp [execSpectralBoundary, State.onBay, h]

/-- A sweep past the opening of its point counts each sample it is given (R179). -/
theorem Bay.specSample_k {b : Bay} {c : Nat} (v i : Int) (hrun : b.flag (F.EISCH_STAT_RUN c) = true)
    (hphase : (b.sweepOf c).phase ≠ .waiting) (hopen : (b.sweepOf c).openAt < b.now) :
    ((b.specSample c v i).sweepOf c).k = (b.sweepOf c).k + 1 := by
  have kept (x : Bay) (due : Bool) : (x.onlyIf due (fun x => x.setFlag (F.EISCH_STAT_SETTLE c) false)).sweepOf c = x.sweepOf c :=
    Bay.onlyIf_keeps (fun x => x.sweepOf c) (fun x => x.setFlag (F.EISCH_STAT_SETTLE c) false) (fun _ => rfl) _ _
  simp [Bay.specSample, hrun, hphase, hopen, kept]

end Sys2Proof.Machine

namespace Sys2Proof

open Sys2Proof.Machine

/-- Refutes O11: its clause on SPECTRAL_BOUNDARY (R115) does not ask that the channel's wale delivers samples. Below a sweep runs on channel 0 while wale 0 is in self-calibration, which disconnects its inputs (R108, R118): the boundary adds nothing to the sweep, where the clause says that it adds the reading. -/
theorem not_measurementRangesWindowsAndReferences : ¬ Obligations.MeasurementRangesWindowsAndReferences := by
  unfold Obligations.MeasurementRangesWindowsAndReferences
  intro h
  let s : State := { bay := {
    regs := [(F.EISCH_STAT_RUN 0, 1)]
    now := specTicks
    sweep := [(0, { phase := .settle })]
    measSt := { scalT0 := [some 0, none, none, none] } } }
  let r : Reading := ⟨0, 0, 0⟩
  obtain ⟨-, -, -, spectral, -⟩ := h s
  obtain ⟨b, added, stays⟩ := completes_both (spectral r (by decide))
    (completes_stay (P := (· = s.bay)) (exec_spectralBoundary_of_notSampled (r := r) (by decide)) rfl)
  have counted : (s.bay.sweepOf 0).k = (s.bay.sweepOf 0).k + 1 :=
    (congrArg (fun b => (b.sweepOf 0).k) (stays.symm.trans added)).trans
      (Bay.specSample_k _ _ (by decide) (by decide) (by decide))
  omega

end Sys2Proof
end

section
/-! PROOFS. Self-calibration, the oven, the certificate and the meter's entries and results (R118, R119, R123 to R127). -/

namespace Sys2Proof.Machine

/-! ## The meaning each row runs -/

section
variable (s : State)

theorem exec_scalCtlWrite (m : BitVec 4) : exec (.scalCtlWrite m) s = execScalCtlWrite m s := rfl
theorem exec_selfCalSlot (n : Fin 4) (k : Fin 7) (rs : List (Int × Int)) : exec (.selfCalSlot n k rs) s = execSelfCalSlot n k rs s := rfl
theorem exec_selfCalComplete (n : Fin 4) : exec (.selfCalComplete n) s = execSelfCalComplete n s := rfl
theorem exec_ovenReady : exec .ovenReady s = execOvenReady s := rfl
theorem exec_ovenLost : exec .ovenLost s = execOvenLost s := rfl
theorem exec_certDueReached : exec .certDueReached s = execCertDueReached s := rfl
theorem exec_meterEntry : exec .meterEntry s = execMeterEntry s := rfl
theorem exec_meterResult (m : Int) : exec (.meterResult m) s = execMeterResult m s := rfl

end

/-! ## A closure that is acted on leaves the measurement state (R84) -/

@[simp] theorem Bay.onePhase_measSt (b : Bay) (c : Nat) : (b.onePhase c).measSt = b.measSt := by
  unfold Bay.onePhase
  rfl

@[simp] theorem Bay.tryClose_measSt (b : Bay) (c : Nat) : (b.tryClose c).measSt = b.measSt := by
  simp only [Bay.tryClose]
  repeat' split
  all_goals simp [Bay.prebiasStart]

/-! ## Self-calibration of a wale (R118) -/

/-- A wale that meets the conditions of R118 starts at the next frame edge, with no slot read. -/
theorem Bay.scalWrite_of_ready {b : Bay} {n : Nat} (hp : b.walePresent n = true) (hr : b.refReady n = true) (hc : b.calibrating n = false)
    (hoff : ((waleChans n).all fun c => b.rd (F.CHN_STG_STAT_STAGE c) == Stg.off) = true) :
    b.scalWrite n = { b with measSt := { b.measSt with
      scalT0 := b.measSt.scalT0.set n (some (nextEdge b.now)), scalSlots := b.measSt.scalSlots.set n [] } } := by
  rw [Bay.scalWrite, if_neg (by simp [hp]), if_pos (by simp only [hr, hc, hoff]; rfl)]

/-! ## A channel's self-calibration (R119) -/

theorem calIG_i (c r : Nat) : (calIG c r).i = c := by
  unfold calIG
  repeat' split
  all_goals rfl

theorem calIO_i (c r : Nat) : (calIO c r).i = c := by
  unfold calIO
  repeat' split
  all_goals rfl

/-- Whatever is not of the channel's registers, its measurement state or its event stands. -/
theorem Bay.calChannel_keeps {α : Type} {g : Bay → α} {n l : Nat}
    (hwr : ∀ (b : Bay) (k : Key) (v : Int), k.grp = .chn → k.i = 16 * n + l → g (b.wr k v) = g b)
    (hmeas : ∀ (b : Bay) (x : MeasCh), g (b.setMeasCh (16 * n + l) x) = g b) (hnote : ∀ b : Bay, g (b.note (16 * n + l)) = g b)
    (b : Bay) (slots : List (List (Int × Int))) : g (b.calChannel slots n l) = g b := by
  have flag (b : Bay) (k : Key) (v : Bool) (hg : k.grp = .chn) (hi : k.i = 16 * n + l) : g (b.setFlag k v) = g b := hwr _ _ _ hg hi
  have factors (b : Bay) (f : Nat → Int × Int) :
      g (b.each (List.range 3) (fun b r => (b.wr (calIG (16 * n + l) r) (f r).1).wr (calIO (16 * n + l) r) (f r).2)) = g b := by
    refine Bay.each_keeps g _ (fun b r => ?_) _ _
    rw [hwr _ _ _ (calIO_grp _ _) (calIO_i _ _), hwr _ _ _ (calIG_grp _ _) (calIG_i _ _)]
  simp only [Bay.calChannel]
  split
  · rw [Bay.syncConv, flag _ _ _ rfl rfl, flag _ _ _ rfl rfl, flag _ _ _ rfl rfl, Bay.onlyIf_keeps g _ (fun b => hmeas b _), factors,
      hwr _ _ _ rfl rfl, hwr _ _ _ rfl rfl]
  · rw [hnote, flag _ _ _ rfl rfl, flag _ _ _ rfl rfl]

@[simp] theorem Bay.calChannel_measSt (b : Bay) (slots : List (List (Int × Int))) (n l : Nat) :
    (b.calChannel slots n l).measSt = b.measSt :=
  Bay.calChannel_keeps (g := Bay.measSt) (fun _ _ _ _ _ => rfl) (fun _ _ => rfl) (fun _ => Bay.note_measSt _ _) b slots

theorem Bay.calChannel_calValid_of_ne (b : Bay) (slots : List (List (Int × Int))) {n l c : Nat} (h : c ≠ 16 * n + l) :
    (b.calChannel slots n l).flag (F.CHN_MEAS_STAT_CAL_VALID c) = b.flag (F.CHN_MEAS_STAT_CAL_VALID c) := by
  refine Bay.calChannel_keeps (g := fun b => b.flag (F.CHN_MEAS_STAT_CAL_VALID c)) (fun b k v _ hi => ?_) (fun _ _ => rfl) (fun b => ?_) b slots
  · have other : F.CHN_MEAS_STAT_CAL_VALID c ≠ k := fun e => h ((congrArg Key.i e).trans hi)
    simp [Bay.flag, other]
  · simp [Bay.flag]

/-- A channel is valid after its self-calibration where all its checks hold. -/
theorem Bay.calChannel_calValid (b : Bay) (slots : List (List (Int × Int))) (n l : Nat) :
    (b.calChannel slots n l).flag (F.CHN_MEAS_STAT_CAL_VALID (16 * n + l)) = calPasses (fun k => slotRead slots k l) := by
  simp only [Bay.calChannel]
  split
  next pass => simp [Bay.flag, pass]
  next fail => simp [Bay.flag, fail]

/-- The channels of a wale that are valid once the seven slots are judged. -/
theorem Bay.each_calChannel_calValid (b : Bay) (slots : List (List (Int × Int))) (n : Nat) {l : Nat} (hl : l < 16) :
    (b.each (List.range 16) (fun b l => b.calChannel slots n l)).flag (F.CHN_MEAS_STAT_CAL_VALID (16 * n + l)) =
      calPasses (fun k => slotRead slots k l) := by
  have others (b : Bay) (l' : Nat) (hne : l' ≠ l) : (b.calChannel slots n l').flag (F.CHN_MEAS_STAT_CAL_VALID (16 * n + l)) =
      b.flag (F.CHN_MEAS_STAT_CAL_VALID (16 * n + l)) := Bay.calChannel_calValid_of_ne b slots (by omega)
  obtain ⟨b', -, own⟩ := Bay.each_of_mem (g := fun b => b.flag (F.CHN_MEAS_STAT_CAL_VALID (16 * n + l))) others b
    (List.nodup_range (n := 16)) (List.mem_range.2 hl)
  exact own.trans (Bay.calChannel_calValid _ _ _ _)

/-! ## The end of a self-calibration (R118) -/

/-- The wale shows that it has ended and which way, and waits for another start. -/
def Bay.calibrated (b : Bay) (n : Nat) : Bay :=
  { (b.setFlag (scalBusy n) false).setFlag (scalFail n) (failMask (b.measSt.scalSlots.getD n []) != 0) with measSt := { b.measSt with
    scalT0 := b.measSt.scalT0.set n none, scalSlots := b.measSt.scalSlots.set n [], scalEnd := b.measSt.scalEnd.set n b.now } }

theorem exec_selfCalComplete_of_due {s : State} {n : Fin 4} {t : Nat} (ht : s.bay.measSt.scalT0.getD n none = some t)
    (hdue : t + 320 * msTicks ≤ s.bay.now) (hslots : 7 ≤ (s.bay.measSt.scalSlots.getD n []).length) :
    exec (.selfCalComplete n) s = s.onBay (fun b =>
      ((b.calibrated n).raise 233 (n : Nat) (failMask (b.measSt.scalSlots.getD n []))).each (waleChans n) Bay.tryClose) := by
  have due : ¬ s.bay.now < t + 320 * msTicks := Nat.not_lt.2 hdue
  have judged : ¬ (s.bay.measSt.scalSlots.getD n []).length < 7 := Nat.not_lt.2 hslots
  rw [exec_selfCalComplete, execSelfCalComplete]
  simp only [State.onBay, ht, due, judged]
  rfl

theorem scalBusy_ne_scalFail (n : Nat) : scalBusy n ≠ scalFail n := by
  unfold scalBusy scalFail
  repeat' split
  all_goals decide

theorem Bay.calibrated_busy (b : Bay) (n : Nat) : (b.calibrated n).flag (scalBusy n) = false := by
  have busy : (b.calibrated n).rd (scalBusy n) = (b.setFlag (scalBusy n) false).rd (scalBusy n) :=
    Bay.rd_setFlag_of_ne _ _ (scalBusy_ne_scalFail n)
  simp [Bay.flag, busy]

theorem Bay.calibrated_fail (b : Bay) (n : Nat) :
    (b.calibrated n).flag (scalFail n) = true ↔ failMask (b.measSt.scalSlots.getD n []) ≠ 0 := by
  have fail : (b.calibrated n).rd (scalFail n) = if failMask (b.measSt.scalSlots.getD n []) != 0 then 1 else 0 := Bay.rd_setFlag_same _ _ _
  simp [Bay.flag, fail]

theorem Bay.calibrated_scalT0 (b : Bay) (n : Nat) : (b.calibrated n).measSt.scalT0.getD n none = none := by
  simp only [Bay.calibrated, List.getD_eq_getElem?_getD, List.getElem?_set_self']
  cases b.measSt.scalT0[n]? <;> rfl

/-- The event of a calibration's end and the closures then acted on leave the measurement registers. -/
theorem Bay.raise_tryCloses_flag (b : Bay) (src : Nat) (d v : Int) (l : List Nat) {k : Key} (h : k.grp = .meas) :
    ((b.raise src d v).each l Bay.tryClose).flag k = b.flag k := by
  have closures : ((b.raise src d v).each l Bay.tryClose).rd k = (b.raise src d v).rd k := Bay.each_rd (fun b c => by simp [h]) _ _
  simp [Bay.flag, closures, h]

theorem Bay.raise_tryCloses_measSt (b : Bay) (src : Nat) (d v : Int) (l : List Nat) :
    ((b.raise src d v).each l Bay.tryClose).measSt = b.measSt :=
  (Bay.each_keeps Bay.measSt Bay.tryClose Bay.tryClose_measSt _ _).trans (Bay.raise_measSt _ _ _ _)

/-! ## What a meter result leaves (R124 to R127) -/

/-- The entry that ended has its result, whose outcome is due. -/
def Bay.takeResult (b : Bay) (e : MeterEntry) (m : Int) : Bay :=
  { b with measSt := { b.measSt with done := none, post := some (e, m, e.t0 + 2 * b.precTicks) } }

/-- The result as its registers show it. -/
def Bay.showResult (b : Bay) (e : MeterEntry) (m : Int) (tEnd : Nat) : Bay :=
  ((((((b.wr (F.RES_VAL e.i) m).wr (F.RES_T e.i) tEnd).wr (F.RES_STAT_KIND e.i) e.kind).wr (F.RES_STAT_INPUT e.i) e.input).wr
    (F.RES_STAT_RANGE e.i) e.range).wr (F.RES_STAT_SWEEP e.i) e.sweep).setSticky (F.RES_STAT_NEW e.i)

@[simp] theorem Bay.takeResult_rd (b : Bay) (e : MeterEntry) (m : Int) (k : Key) : (b.takeResult e m).rd k = b.rd k := rfl

@[simp] theorem Bay.showResult_rd_of_grp (b : Bay) (e : MeterEntry) (m : Int) (tEnd : Nat) {k : Key} (h : ¬ k.grp = .measRes) :
    (b.showResult e m tEnd).rd k = b.rd k := by simp [Bay.showResult, h]

theorem Bay.showResult_shows (b : Bay) (e : MeterEntry) (m : Int) (tEnd : Nat) :
    (b.showResult e m tEnd).rd (F.RES_VAL e.i) = m ∧ (b.showResult e m tEnd).rd (F.RES_T e.i) = tEnd ∧
      (b.showResult e m tEnd).rd (F.RES_STAT_KIND e.i) = e.kind ∧ (b.showResult e m tEnd).rd (F.RES_STAT_INPUT e.i) = e.input ∧
      (b.showResult e m tEnd).rd (F.RES_STAT_SWEEP e.i) = e.sweep ∧ (b.showResult e m tEnd).rd (F.RES_STAT_NEW e.i) = 1 := by
  simp [Bay.showResult]

/-- A sweep's end clears the list of its checks alone. -/
theorem Bay.checkSweepEnd_results (b : Bay) (sweep : Int) :
    (b.checkSweepEnd sweep).measSt.post = b.measSt.post ∧ (b.checkSweepEnd sweep).measSt.done = b.measSt.done := by
  unfold Bay.checkSweepEnd
  dsimp only
  split <;> exact ⟨rfl, rfl⟩

/-- The running sweep has not ended (R127). -/
theorem Bay.checkSweepEnd_of_running {b : Bay} {sweep : Int} (h : sweep = b.rd F.MEAS_STAT_SWEEP) : b.checkSweepEnd sweep = b := by
  simp [Bay.checkSweepEnd, h]

/-- The zero input passes within 2 µV (R127). -/
theorem Bay.internalResult_of_zero (b : Bay) (sweep : Int) {m : Int} (h : m.natAbs ≤ 20) :
    b.internalResult 64 sweep m = b.noteCheck sweep 64 := by
  simp [Bay.internalResult, Bay.internalOk, h]

theorem Bay.mem_noteCheck (b : Bay) (sweep : Int) (k : Nat) : k ∈ (b.noteCheck sweep k).measSt.checks := by simp [Bay.noteCheck]

/-- The result of a voltage or an internal entry, 0.1 ms after its window (R124, R126). -/
theorem exec_meterResult_of_due {s : State} {e : MeterEntry} (m : Int) (hdone : s.bay.measSt.done = some e)
    (hdue : e.t0 + 2 * s.bay.precTicks + 12500 ≤ s.bay.now) (hkind : e.kind ≠ 1) :
    exec (.meterResult m) s = s.onBay (fun b =>
      ((if e.kind = 3 then (b.takeResult e m).internalResult e.input e.sweep m else b.takeResult e m).checkSweepEnd e.sweep).showResult
        e m (e.t0 + 2 * b.precTicks)) := by
  have due : ¬ s.bay.now < e.t0 + 2 * s.bay.precTicks + 12500 := Nat.not_lt.2 hdue
  rw [exec_meterResult, execMeterResult]
  simp only [State.onBay, hdone, due, hkind, if_false]
  rfl

end Sys2Proof.Machine

namespace Sys2Proof

open Sys2Proof.Machine

/-- Settles O12: each row's condition selects its branch; each channel of a wale is judged once, and the end of a meter sweep touches no result. -/
theorem selfCalibrationOvenAndMeter : Obligations.SelfCalibrationOvenAndMeter := by
  unfold Obligations.SelfCalibrationOvenAndMeter
  intro s
  refine ⟨?start, ?slot, ?calibrated, ?ovenReady, ?ovenLost, ?certDue, ?entry, ?result, ?check⟩
  case start =>
    intro hg hp hr hc hoff hlen
    have named : (List.range 4).filter (fun n => (1#4 : BitVec 4).toNat.testBit n) = [0] := by decide
    apply completes_onBay (exec_scalCtlWrite _ _)
    rw [Bay.scalCtlWrite, Bay.gated_open hg, named, Bay.each, List.foldl_cons, List.foldl_nil, Bay.scalWrite_of_ready hp hr hc hoff]
    exact ⟨by simp [hlen], keepsRegs_refl _ _⟩
  case slot =>
    intro n k t rs ht hlen hk hdue
    apply completes_onBay (exec_selfCalSlot _ _ _ _)
    simp only [ht, hk, hdue, decide_true, Bool.and_self, if_true]
    refine ⟨?_, fun h => ?_, fun h l hl => ?_⟩
    · rw [Bay.onlyIf_keeps Bay.measSt _ (fun b => Bay.each_keeps Bay.measSt _ (fun b l => Bay.calChannel_measSt b _ _ l) _ _)]
      simp [hlen]
    · have early : (k.val == 6) = false := by simpa using Nat.ne_of_lt h
      simp [Bay.onlyIf, early, keepsRegs]
    · simp only [Bay.onlyIf, h, beq_self_eq_true, if_true]
      exact Bay.each_calChannel_calValid _ _ _ hl
  case calibrated =>
    intro n t ht _ hdue hslots _
    apply completes_onBay (exec_selfCalComplete_of_due ht hdue hslots)
    rw [Bay.raise_tryCloses_flag _ _ _ _ _ (scalBusy_grp n), Bay.raise_tryCloses_flag _ _ _ _ _ (scalFail_grp n), Bay.raise_tryCloses_measSt]
    exact ⟨Bay.calibrated_busy _ _, Bay.calibrated_fail _ _, Bay.calibrated_scalT0 _ _⟩
  case ovenReady =>
    intro t ht hp hr hdue
    apply completes_onBay (exec_ovenReady _)
    simp +contextual [ht, hp, hr, hdue, Bay.flag, keepsRegs]
  case ovenLost =>
    intro hr
    apply completes_onBay (exec_ovenLost _)
    simp +contextual [hr, Bay.flag, keepsRegs]
  case certDue =>
    intro hok hdue
    apply completes_onBay (exec_certDueReached _)
    simp +contextual [hok, hdue, Bay.flag, keepsRegs]
  case entry =>
    intro i hp hnow hcur hrun hnext
    apply completes_onBay (exec_meterEntry _)
    simp +contextual [hp, hnow, hcur, hrun, hnext, Bay.flag, Bay.beginEntry, keepsRegs]
  case result =>
    intro m e hdone hkind hdue
    obtain ⟨post, done⟩ := (s.bay.takeResult e m).checkSweepEnd_results e.sweep
    obtain ⟨val, time, kind, input, sweep, new⟩ :=
      ((s.bay.takeResult e m).checkSweepEnd e.sweep).showResult_shows e m (e.t0 + 2 * s.bay.precTicks)
    apply completes_onBay (exec_meterResult_of_due m hdone hdue (by simp [hkind]))
    rw [if_neg (by simp [hkind])]
    exact ⟨val, time, post, kind, input, sweep, new, done⟩
  case check =>
    intro m e hdone hkind hin hm hsweep hdue
    have running : ((s.bay.takeResult e m).noteCheck e.sweep 64).checkSweepEnd e.sweep = (s.bay.takeResult e m).noteCheck e.sweep 64 :=
      Bay.checkSweepEnd_of_running (by simpa using hsweep)
    obtain ⟨val, -, -, -, -, new⟩ := ((s.bay.takeResult e m).noteCheck e.sweep 64).showResult_shows e m (e.t0 + 2 * s.bay.precTicks)
    apply completes_onBay (exec_meterResult_of_due m hdone hdue (by simp [hkind]))
    rw [if_pos hkind, hin, Bay.internalResult_of_zero _ _ hm, running]
    exact ⟨val, rfl, new, Bay.mem_noteCheck _ _ _, by simp⟩

end Sys2Proof
end

section
/-! PROOFS. Impedance sweeps: requests, sweep edges, points, windows, results and the grading vector (R168 to R187). -/

namespace Sys2Proof.Machine

/-! ## The meaning each row runs -/

section
variable (s : State)

theorem exec_pointStart (c : Fin 64) : exec (.pointStart c) s = execPointStart c s := rfl
theorem exec_hcmdGo : exec .hcmdGo s = execHcmdGo s := rfl
theorem exec_hcmdAbort : exec .hcmdAbort s = execHcmdAbort s := rfl
theorem exec_sweepEdge : exec .sweepEdge s = execSweepEdge s := rfl
theorem exec_spectralBoundary (rs : List Reading) : exec (.spectralBoundary rs) s = execSpectralBoundary rs s := rfl
theorem exec_settlePeriodEnd (c : Fin 64) : exec (.settlePeriodEnd c) s = execSettlePeriodEnd c s := rfl
theorem exec_measureWindowClose (c : Fin 64) : exec (.measureWindowClose c) s = execMeasureWindowClose c s := rfl
theorem exec_pointResult (c : Fin 64) : exec (.pointResult c) s = execPointResult c s := rfl
theorem exec_gradingVector (c : Fin 64) : exec (.gradingVector c) s = execGradingVector c s := rfl

end

/-! ## The opening of a point (R168, R174, R178) -/

theorem Bay.openPoint_rd_of_ne (b : Bay) (c : Nat) (fl : Int) (idx : Nat) (p : SweepPt) {k : Key} (hs : ¬ k = F.EISCH_STAT_SETTLE c)
    (hp : ¬ k = F.EISCH_STAT_POINT c) (hf : ¬ k = F.EISCH_F c) : (b.openPoint c fl idx p).rd k = b.rd k := by
  simp [Bay.openPoint, hs, hp, hf]

/-- A point with settle samples opens in settle (R178). -/
theorem Bay.openPoint_settles (b : Bay) (c : Nat) (fl : Int) (idx : Nat) (p : SweepPt)
    (h : 0 < ceilDiv (p.settle.toNat * windowLen p.measure (b.askedFreq fl p).1) p.measure.toNat) :
    (b.openPoint c fl idx p).rd (F.EISCH_STAT_SETTLE c) = 1 ∧ ((b.openPoint c fl idx p).sweepOf c).phase = .settle := by
  simp [Bay.openPoint, h]

theorem Bay.openPoint_window (b : Bay) (c : Nat) (fl : Int) (idx : Nat) (p : SweepPt) :
    ((b.openPoint c fl idx p).sweepOf c).openAt = b.now ∧
      ((b.openPoint c fl idx p).sweepOf c).l = windowLen p.measure (b.askedFreq fl p).1 ∧
      ((b.openPoint c fl idx p).sweepOf c).m = p.measure.toNat ∧
      ((b.openPoint c fl idx p).sweepOf c).freq = mkRat (5000 * p.measure) (windowLen p.measure (b.askedFreq fl p).1) ∧
      ((b.openPoint c fl idx p).sweepOf c).smpV = [] := by
  simp [Bay.openPoint]

/-! ## Requests and aborts (R176, R181) -/

/-- A request for one channel without a running engine waits for its sweep edge (R176; log entries 12 and 14). -/
theorem Bay.hcmdGo_of_free {b : Bay} {c : Nat} (hg : b.gate F.EIS_HCMD_GO = none) (hm : b.hmasked = [c]) (he : b.engRuns c = false)
    (hp : b.walePresent (waleOf c) = true) :
    b.hcmdGo = b.askSweep c (b.rd F.EIS_HTABLE) (max (sweepEdgeFor b.now) (ceilTo sweepEdgeTicks (b.rdN F.EIS_T_AT))) true := by
  simp [Bay.hcmdGo, Bay.gated_open hg, hm, he, hp, Bay.each]

theorem Bay.hcmdGo_of_engRuns {b : Bay} {c : Nat} (hg : b.gate F.EIS_HCMD_GO = none) (hm : b.hmasked = [c]) (he : b.engRuns c = true)
    (hp : b.walePresent (waleOf c) = true) : b.hcmdGo = b.refuse F.EIS_HCMD_GO 4 := by
  simp [Bay.hcmdGo, Bay.gated_open hg, hm, he, hp, Bay.each]

theorem Bay.hcmdAbort_of_masked {b : Bay} {c : Nat} (hg : b.gate F.EIS_HCMD_ABORT = none) (hm : b.hmasked = [c])
    (hp : b.walePresent (waleOf c) = true) : b.hcmdAbort = b.abortSweep c := by
  simp [Bay.hcmdAbort, Bay.gated_open hg, hm, hp, Bay.each]

/-- Where no sweep runs, an abort drops the host's request alone (R181). -/
theorem Bay.abortSweep_of_request {b : Bay} {c : Nat} {r : SweepReq} (hrun : b.rd (F.EISCH_STAT_RUN c) = 0)
    (hreq : (b.sweepOf c).req = some r) (hhost : r.host = true) : b.abortSweep c = b.setSweep c { b.sweepOf c with req := none } := by
  simp [Bay.abortSweep, Bay.onlyIf, Bay.flag, hrun, hreq, hhost]

/-! ## The sweep edge (R176, R177) -/

/-- A fold whose steps leave this bay as it is leaves it so. -/
theorem Bay.each_idle {f : Bay → Nat → Bay} {b : Bay} {l : List Nat} (h : ∀ n ∈ l, f b n = b) : b.each l f = b := by
  unfold Bay.each
  induction l with
  | nil => rfl
  | cons n l ih => rw [List.foldl_cons, h n List.mem_cons_self, ih fun m hm => h m (List.mem_cons_of_mem _ hm)]

theorem Bay.sweepEdge_of_noRequest {b : Bay} {c : Nat} (h : (b.sweepOf c).req = none) : b.sweepEdge c = b := by
  simp [Bay.sweepEdge, h]

theorem Bay.sweepEdge_sweepOf_of_ne (b : Bay) {c n : Nat} (h : ¬ c = n) : (b.sweepEdge c).sweepOf n = b.sweepOf n := by
  simp only [Bay.sweepEdge, Bay.endDonation]
  repeat' split
  all_goals simp [h]

/-- Where one channel alone has a request, the sweep edge is that channel's. -/
theorem Bay.each_sweepEdge_of_only {b : Bay} {c : Nat} (hc : c < 64) (h : ∀ n ∈ allChans, n ≠ c → (b.sweepOf n).req = none) :
    b.each allChans (fun b c => b.sweepEdge c) = b.sweepEdge c := by
  have once : allChans.Nodup := List.nodup_range
  obtain ⟨l₁, l₂, hl⟩ : ∃ l₁ l₂, allChans = l₁ ++ c :: l₂ := List.append_of_mem (List.mem_range.2 hc)
  rw [hl] at h once ⊢
  obtain ⟨-, tail, apart⟩ := List.nodup_append.1 once
  have before : b.each l₁ (fun b c => b.sweepEdge c) = b :=
    Bay.each_idle fun n hn => Bay.sweepEdge_of_noRequest (h n (List.mem_append_left _ hn) (apart n hn c List.mem_cons_self))
  have after : (b.sweepEdge c).each l₂ (fun b c => b.sweepEdge c) = b.sweepEdge c :=
    Bay.each_idle fun n hn => by
      have other : n ≠ c := fun e => (List.nodup_cons.1 tail).1 (e ▸ hn)
      apply Bay.sweepEdge_of_noRequest
      rw [Bay.sweepEdge_sweepOf_of_ne _ (Ne.symm other)]
      exact h n (List.mem_append_right _ (List.mem_cons_of_mem _ hn)) other
  unfold Bay.each at before after ⊢
  rw [List.foldl_append, before, List.foldl_cons, after]

section
variable {b : Bay} {c : Nat} {r : SweepReq} (hreq : (b.sweepOf c).req = some r) (hedge : r.edge ≤ b.now)
  (hrun : b.flag (F.EISCH_STAT_RUN c) = false)
include hreq hedge hrun

/-- A refused request ends with its code and bit 4 of the event word (R177, R233). -/
theorem Bay.sweepEdge_of_refused {e : Int} (hr : b.sweepRefused c r = some e) :
    b.sweepEdge c = ((b.setSweep c { b.sweepOf c with req := none }).wr (F.EISCH_STAT_END c) e).sendEvBit b.now c 4 := by
  simp [Bay.sweepEdge, hreq, Nat.not_lt.2 hedge, hrun, hr]

/-- A request that nothing refuses starts its sweep at point 0 (R176, R177). -/
theorem Bay.sweepEdge_of_accepted (hr : b.sweepRefused c r = none) :
    (b.sweepEdge c).rd (F.EISCH_STAT_RUN c) = 1 ∧ (b.sweepEdge c).rd (F.EISCH_STAT_POINT c) = 0 ∧
      (b.sweepEdge c).rd (F.EISCH_STAT_END c) = 0 ∧ ((b.sweepEdge c).sweepOf c).req = none ∧
      ((b.sweepEdge c).sweepOf c).table = r.table ∧ ((b.sweepEdge c).sweepOf c).edge = b.now ∧
      (b.sweepEdge c).rd F.EIS_STAT_SWEEPING = b.rd F.EIS_STAT_SWEEPING + 1 := by
  simp [Bay.sweepEdge, hreq, Nat.not_lt.2 hedge, hrun, hr]

end

/-! ## Samples, settle periods and windows (R168, R178, R179) -/

theorem exec_spectralBoundary_of_sampled {s : State} {r : Reading} (ht : s.bay.now % specTicks = 0) (hs : s.bay.sampled r.chan = true) :
    exec (.spectralBoundary [r]) s = s.onBay (fun b => b.specSample r.chan (b.corrV r.chan r.v) (b.corrI r.chan r.i)) := by
  simp [exec_spectralBoundary, execSpectralBoundary, State.onBay, ht, hs]

/-- A sweep past the opening of its point keeps the samples it is given (R179). -/
theorem Bay.specSample_samples {b : Bay} {c : Nat} (v i : Int) (hrun : b.flag (F.EISCH_STAT_RUN c) = true)
    (hphase : (b.sweepOf c).phase ≠ .waiting) (hopen : (b.sweepOf c).openAt < b.now) :
    ((b.specSample c v i).sweepOf c).smpV = (b.sweepOf c).smpV ++ [v] ∧
      ((b.specSample c v i).sweepOf c).smpI = (b.sweepOf c).smpI ++ [i] := by
  have kept (x : Bay) (due : Bool) : (x.onlyIf due (fun x => x.setFlag (F.EISCH_STAT_SETTLE c) false)).sweepOf c = x.sweepOf c :=
    Bay.onlyIf_keeps (fun x => x.sweepOf c) (fun x => x.setFlag (F.EISCH_STAT_SETTLE c) false) (fun _ => rfl) _ _
  simp [Bay.specSample, hrun, hphase, hopen, kept]

/-- The limit of A_v, 200 mV (R168). The minimum is unfolded, as the order it comes from depends on what is imported. -/
theorem min_limit_le (x : Rat) : min 200000 x ≤ 200000 := by
  have least : min (200000 : Rat) x = if 200000 ≤ x then 200000 else x := rfl
  rw [least]
  split
  case isTrue => exact Rat.le_refl
  case isFalse h => exact Rat.le_of_lt (Rat.not_le.1 h)

/-- A settle period with all its samples sets A_v anew, at most 200 mV, and gives its phasors (R168, R259). -/
theorem exec_settlePeriodEnd_of_due {s : State} {c : Fin 64} (hrun : s.bay.flag (F.EISCH_STAT_RUN c) = true)
    (hphase : (s.bay.sweepOf c).phase = .settle)
    (hk : ceilDiv (((s.bay.sweepOf c).settlePer + 1) * (s.bay.sweepOf c).l) (s.bay.sweepOf c).m ≤ (s.bay.sweepOf c).k)
    (hn : ceilDiv (((s.bay.sweepOf c).settlePer + 1) * (s.bay.sweepOf c).l) (s.bay.sweepOf c).m ≤ (s.bay.sweepOf c).settleN) :
    ∃ (av : Rat) (fund : Rat × Rat × Rat × Rat), av ≤ 200000 ∧ exec (.settlePeriodEnd c) s = s.onBay (fun b =>
      b.setSweep c { b.sweepOf c with settlePer := (b.sweepOf c).settlePer + 1, av := av, fund := some fund }) := by
  simp only [exec_settlePeriodEnd, execSettlePeriodEnd, State.onBay, hrun, hphase, hk, hn, reduceCtorEq, not_false_eq_true, ne_eq, decide_true,
    Bool.and_self, if_true]
  exact ⟨_, _, min_limit_le _, rfl⟩

/-- The window that closes now (R178). -/
def Bay.closedWindow (b : Bay) (c : Nat) : Window :=
  let w := b.sweepOf c
  ⟨b.now, b.rdN (F.EISCH_STAT_POINT c), w.l, w.m, w.freq, w.ampReq,
    w.flags ||| (if 50 < (b.rd (F.CHN_T_ZONE c) - w.tzOpen).natAbs then 32 else 0), (w.smpV.drop w.settleN).take w.l, (w.smpI.drop w.settleN).take w.l⟩

/-- A full window closes, and a point that is not the last gives way to the next (R178). -/
theorem exec_measureWindowClose_of_full {s : State} {c : Fin 64} {fl sp rm : Int} {pts : List SweepPt}
    (hrun : s.bay.flag (F.EISCH_STAT_RUN c) = true) (hfull : (s.bay.sweepOf c).full = true) (ht : s.bay.now % specTicks = 0)
    (htab : s.bay.sweepTable (s.bay.sweepOf c).table = some (fl, sp, rm, pts)) (hnext : s.bay.rdN (F.EISCH_STAT_POINT c) + 1 < pts.length) :
    exec (.measureWindowClose c) s = s.onBay (fun b =>
      (b.setSweep c { b.sweepOf c with
        closed := (b.sweepOf c).closed ++ [b.closedWindow c], phase := .waiting, restarted := false, flags := 0, smpV := [], smpI := [], k := 0, fund := none }).wr
        (F.EISCH_STAT_POINT c) (b.rdN (F.EISCH_STAT_POINT c) + 1 : Nat)) := by
  have more : ¬ pts.length ≤ s.bay.rdN (F.EISCH_STAT_POINT c) + 1 := Nat.not_le.2 hnext
  simp [exec_measureWindowClose, execMeasureWindowClose, State.onBay, hrun, hfull, ht, htab, more, Bay.closedWindow]

/-! ## The result of a point (R178, R179) -/

/-- A point with the values of Z and the flags in its registers joins the results, and its window waits no longer (R178, R179). -/
theorem Bay.postPoint_eq (b : Bay) (c : Nat) (win : Window) :
    ∃ (b' : Bay) (f zre zim amp : Int) (flags : Nat) (out : Bool), (∀ k, b'.rd k = b.rd k) ∧
      b.postPoint c win = (((b'.wr (F.EISCH_ZRE c) zre).wr (F.EISCH_ZIM c) zim).wr (F.EISCH_STAT_PFLAGS c) flags).setSweep c
        { b.sweepOf c with
          closed := (b.sweepOf c).closed.drop 1, results := (b.sweepOf c).results ++ [⟨f, zre, zim, amp, win.idx, flags⟩], outside := out } := by
  refine ⟨_, _, _, _, _, _, _, ?stands, rfl⟩
  case stands =>
    intro k
    split <;> rfl

theorem Bay.postPoint_rd_of_ne (b : Bay) (c : Nat) (win : Window) {k : Key} (hre : ¬ k = F.EISCH_ZRE c) (him : ¬ k = F.EISCH_ZIM c)
    (hf : ¬ k = F.EISCH_STAT_PFLAGS c) : (b.postPoint c win).rd k = b.rd k := by
  obtain ⟨b', _, _, _, _, _, _, stands, post⟩ := b.postPoint_eq c win
  simp [post, stands, hre, him, hf]

/-- What the posted point is, as the registers show it. -/
theorem Bay.postPoint_posts (b : Bay) (c : Nat) (win : Window) :
    ∃ pt : PointRes, ((b.postPoint c win).sweepOf c).results = (b.sweepOf c).results ++ [pt] ∧ pt.idx = win.idx ∧
      pt.zre = (b.postPoint c win).rd (F.EISCH_ZRE c) ∧ pt.zim = (b.postPoint c win).rd (F.EISCH_ZIM c) ∧
      (pt.flags : Int) = (b.postPoint c win).rd (F.EISCH_STAT_PFLAGS c) := by
  obtain ⟨b', f, zre, zim, amp, flags, out, -, post⟩ := b.postPoint_eq c win
  exact ⟨⟨f, zre, zim, amp, win.idx, flags⟩, by simp [post]⟩

theorem Bay.postPoint_waits (b : Bay) (c : Nat) (win : Window) :
    ((b.postPoint c win).sweepOf c).closed = (b.sweepOf c).closed.drop 1 ∧ ((b.postPoint c win).sweepOf c).vecDue = (b.sweepOf c).vecDue := by
  obtain ⟨b', f, zre, zim, amp, flags, out, -, post⟩ := b.postPoint_eq c win
  simp [post]

/-- A sweep completes with END = 1, and its grading vector is due (R178). -/
def Bay.completeSweep (b : Bay) (c : Nat) : Bay :=
  let b := ((b.setFlag (F.EISCH_STAT_RUN c) false).wr (F.EISCH_STAT_END c) 1).wr F.EIS_STAT_SWEEPING (b.rd F.EIS_STAT_SWEEPING - 1)
  let w := b.sweepOf c
  b.setSweep c { w with vecDue := w.vecDue ++ [⟨b.now, w.table, w.edge, w.tzEdge, w.iSum, w.iN, w.outside, w.results⟩], results := [] }

theorem Bay.completeSweep_completes (b : Bay) (c : Nat) :
    (b.completeSweep c).rd (F.EISCH_STAT_RUN c) = 0 ∧ (b.completeSweep c).rd (F.EISCH_STAT_END c) = 1 ∧
      ((b.completeSweep c).sweepOf c).closed = (b.sweepOf c).closed ∧
      (b.completeSweep c).rd F.EIS_STAT_SWEEPING = b.rd F.EIS_STAT_SWEEPING - 1 ∧
      ((b.completeSweep c).sweepOf c).vecDue.length = (b.sweepOf c).vecDue.length + 1 := by
  simp [Bay.completeSweep]

section
variable {s : State} {c : Fin 64} {w : Window} {later : List Window} {fl sp rm : Int} {pts : List SweepPt}
  (hw : (s.bay.sweepOf c).closed = w :: later) (hdue : w.closeT + 248700 ≤ s.bay.now)
  (htab : s.bay.sweepTable (s.bay.sweepOf c).table = some (fl, sp, rm, pts))
include hw hdue htab

theorem exec_pointResult_of_more (hmore : w.idx + 1 < pts.length) :
    exec (.pointResult c) s = s.onBay (fun b => b.postPoint c w) := by
  simp [exec_pointResult, execPointResult, State.onBay, hw, Nat.not_lt.2 hdue, htab, Nat.not_le.2 hmore]

theorem exec_pointResult_of_last (hlast : pts.length ≤ w.idx + 1) (hrun : s.bay.flag (F.EISCH_STAT_RUN c) = true) :
    exec (.pointResult c) s = s.onBay (fun b => (b.postPoint c w).completeSweep c) := by
  have ends : (decide (pts.length ≤ w.idx + 1) && (s.bay.postPoint c w).flag (F.EISCH_STAT_RUN c)) = true := by
    rw [Bay.flag, Bay.postPoint_rd_of_ne _ _ _ (by simp) (by simp) (by simp), decide_eq_true hlast]
    exact hrun
  simp only [exec_pointResult, execPointResult, State.onBay, hw, Nat.not_lt.2 hdue, htab, if_false]
  rw [if_pos ends]
  simp only [Bay.completeSweep]

end

/-! ## The grading vector (R184 to R187) -/

/-- An entry of the record leaves the sweeps and the vectors. -/
theorem Bay.putEntry_sweeps (b : Bay) (c : Nat) (e : RecEntry) : (b.putEntry c e).sweep = b.sweep ∧ (b.putEntry c e).grade = b.grade := by
  simp only [Bay.putEntry, Bay.ringStat, Bay.dropEntry]
  repeat' split
  all_goals simp

@[simp] theorem Bay.putEntry_sweepOf (b : Bay) (c : Nat) (e : RecEntry) (n : Nat) : (b.putEntry c e).sweepOf n = b.sweepOf n :=
  congrArg (fun t : Tab Sweep => Tab.get ({} : Sweep) t n) (b.putEntry_sweeps c e).1

@[simp] theorem Bay.putEntry_gradeOf (b : Bay) (c : Nat) (e : RecEntry) (n : Nat) : (b.putEntry c e).gradeOf n = b.gradeOf n :=
  congrArg (fun t : Tab (Option GradeVec) => Tab.get none t n) (b.putEntry_sweeps c e).2

theorem Bay.fit16_sweep (b : Bay) (v : Option Int) : (b.fit16 v).2.sweep = b.sweep := by
  simp only [Bay.fit16]
  repeat' split
  all_goals rfl

theorem Bay.vector_sweep (b : Bay) (c : Nat) (w : VecDue) (split residMax : Int) : (b.vector c w split residMax).2.sweep = b.sweep := by
  simp only [Bay.vector]
  repeat' split
  all_goals simp [Bay.fit16_sweep]

/-- The sweep at the head of those due, taken, with its spectrum entry where its table asks for one (R187). -/
def Bay.takeDue (b : Bay) (c : Nat) (fl : Int) (w : VecDue) (later : List VecDue) : Bay :=
  (b.setSweep c { b.sweepOf c with vecDue := later }).onlyIf (bitOf fl 0)
    (fun b => b.putEntry c (.spectrum (spectrumBytes w.table w.edge w.results)))

theorem Bay.takeDue_sweep (b : Bay) (c : Nat) (fl : Int) (w : VecDue) (later : List VecDue) :
    (b.takeDue c fl w later).sweep = (b.setSweep c { b.sweepOf c with vecDue := later }).sweep :=
  Bay.onlyIf_keeps Bay.sweep _ (fun b => (b.putEntry_sweeps c _).1) _ _

theorem Bay.takeDue_vector_sweepOf (b : Bay) (c : Nat) (fl : Int) (w : VecDue) (later : List VecDue) (split residMax : Int) :
    ((b.takeDue c fl w later).vector c w split residMax).2.sweepOf c = { b.sweepOf c with vecDue := later } := by
  rw [Bay.sweepOf, Bay.vector_sweep, Bay.takeDue_sweep]
  exact Bay.sweepOf_setSweep_same _ _ _

/-- A vector that is due and asked for by its table becomes the channel's (R184 to R186); its entry, event and event bit follow. -/
theorem exec_gradingVector_of_due {s : State} {c : Fin 64} {w : VecDue} {later : List VecDue} {fl sp rm : Int} {pts : List SweepPt}
    (hw : (s.bay.sweepOf c).vecDue = w :: later) (hdue : w.post + 100 * msTicks ≤ s.bay.now)
    (htab : s.bay.sweepTable w.table = some (fl, sp, rm, pts)) (hvec : bitOf fl 1 = true) :
    ∃ (e : RecEntry) (t : Nat), exec (.gradingVector c) s = s.onBay (fun b =>
      (((((b.takeDue c fl w later).vector c w sp rm).2.setGrade c (some ((b.takeDue c fl w later).vector c w sp rm).1)).putEntry c e).note 235).sendEvBit t c 4) := by
  have table : (s.bay.setSweep c { s.bay.sweepOf c with vecDue := later }).sweepTable w.table = some (fl, sp, rm, pts) := htab
  simp only [exec_gradingVector, execGradingVector, State.onBay, hw, Nat.not_lt.2 hdue, table, Bay.takeDue, Bay.onlyIf, hvec, if_true, if_false]
  exact ⟨_, _, rfl⟩

end Sys2Proof.Machine

namespace Sys2Proof

open Sys2Proof.Machine

/-- Settles O13: each row's condition selects its branch; at a sweep edge the channels without a request stand, and what a point's fit and the grading fit compute goes to the results and the vector alone. -/
theorem impedanceSweeps : Obligations.ImpedanceSweeps := by
  unfold Obligations.ImpedanceSweeps
  intro s
  refine ⟨?opens, ?asked, ?engine, ?aborted, ?starts, ?refused, ?sampled, ?settled, ?closes, ?completed, ?posted, ?graded⟩
  case opens =>
    intro c fl sp rm pts p hrun hphase hnew ht htab hpt hsettle
    obtain ⟨settle, phase⟩ := s.bay.openPoint_settles c fl (s.bay.rdN (F.EISCH_STAT_POINT c)) p hsettle
    obtain ⟨openAt, l, m, freq, smpV⟩ := s.bay.openPoint_window c fl (s.bay.rdN (F.EISCH_STAT_POINT c)) p
    apply completes_onBay (exec_pointStart _ _)
    simp only [hrun, hphase, hnew, ht, htab, hpt, decide_true, Bool.not_false, Bool.and_self, if_true]
    refine ⟨settle, phase, openAt, l, m, freq, smpV, fun k hk => ?_⟩
    simp only [List.mem_cons, List.not_mem_nil, or_false, not_or] at hk
    obtain ⟨notSettle, notPoint, notF⟩ := hk
    exact Bay.openPoint_rd_of_ne _ _ _ _ _ notSettle notPoint notF
  case asked =>
    intro c hg hm he hp
    apply completes_onBay (exec_hcmdGo s)
    rw [Bay.hcmdGo_of_free hg hm he hp]
    exact ⟨by simp [Bay.askSweep], fun k _ => Bay.askSweep_rd _ _ _ _ _⟩
  case engine =>
    intro c hg hm he hp
    exact completes_onBay (exec_hcmdGo s) (Bay.hcmdGo_of_engRuns hg hm he hp)
  case aborted =>
    intro c r hg hm hp hrun hreq hhost
    apply completes_onBay (exec_hcmdAbort s)
    rw [Bay.hcmdAbort_of_masked hg hm hp, Bay.abortSweep_of_request hrun hreq hhost]
    exact ⟨by simp, fun _ _ => rfl⟩
  case starts =>
    intro c r ht hreq hedge hrun hok hothers
    apply completes_onBay (exec_sweepEdge s)
    rw [if_pos ht, Bay.each_sweepEdge_of_only c.isLt hothers]
    exact Bay.sweepEdge_of_accepted hreq hedge hrun hok
  case refused =>
    intro c r e ht hreq hedge hrun he hothers
    apply completes_onBay (exec_sweepEdge s)
    rw [if_pos ht, Bay.each_sweepEdge_of_only c.isLt hothers, Bay.sweepEdge_of_refused hreq hedge hrun he]
    simp +contextual [keepsRegs]
  case sampled =>
    intro r ht hs hrun hphase hopen _
    have begun : (s.bay.sweepOf r.chan).phase ≠ .waiting := by simp [hphase]
    obtain ⟨voltage, current⟩ := Bay.specSample_samples (s.bay.corrV r.chan r.v) (s.bay.corrI r.chan r.i) hrun begun hopen
    exact completes_onBay (exec_spectralBoundary_of_sampled ht hs) ⟨voltage, current, Bay.specSample_k _ _ hrun begun hopen⟩
  case settled =>
    intro c hrun hphase hk hn
    obtain ⟨av, fund, limit, run⟩ := exec_settlePeriodEnd_of_due hrun hphase hk hn
    exact completes_onBay run ⟨by simp, by simpa using limit, by simp, fun _ _ => rfl⟩
  case closes =>
    intro c fl sp rm pts hrun hfull ht htab hnext
    apply completes_onBay (exec_measureWindowClose_of_full hrun hfull ht htab hnext)
    simp +contextual [Bay.closedWindow, keepsRegs]
  case completed =>
    intro c w later fl sp rm pts hw hdue htab hlast hrun
    obtain ⟨run, done, closed, count, vecDue⟩ := (s.bay.postPoint c w).completeSweep_completes c
    obtain ⟨left, due⟩ := s.bay.postPoint_waits c w
    rw [left, hw] at closed
    rw [due] at vecDue
    rw [Bay.postPoint_rd_of_ne _ _ _ (by simp) (by simp) (by simp)] at count
    exact completes_onBay (exec_pointResult_of_last hw hdue htab hlast hrun) ⟨run, done, closed, count, vecDue⟩
  case posted =>
    intro c w later fl sp rm pts hw hdue htab hmore
    obtain ⟨pt, results, idx, zre, zim, flags⟩ := s.bay.postPoint_posts c w
    apply completes_onBay (exec_pointResult_of_more hw hdue htab hmore)
    simp [results, (s.bay.postPoint_waits c w).1, hw, idx, zre, zim, flags]
  case graded =>
    intro c w later fl sp rm pts hw hdue htab hvec
    obtain ⟨e, t, run⟩ := exec_gradingVector_of_due hw hdue htab hvec
    refine completes_onBay run ⟨?_, ((s.bay.takeDue c fl w later).vector c w sp rm).1, ?_, rfl⟩
    · simp [Bay.takeDue_vector_sweepOf]
    · simp

end Sys2Proof
end

section
/-! PROOFS. Engine commands, the signal of the host and the read of a freeze (R193, R194, R198, R206). -/

namespace Sys2Proof.Machine

/-! ## The meaning each row runs -/

section
variable (s : State) (c : Fin 64)

theorem exec_engineStart : exec (.engineStart c) s = s.onBay (·.engCtl c (F.ENG_CTL_START c) .start) := rfl
theorem exec_engineStop : exec (.engineStop c) s = s.onBay (·.engCtl c (F.ENG_CTL_STOP c) .stop) := rfl
theorem exec_enginePause : exec (.enginePause c) s = s.onBay (·.engCtl c (F.ENG_CTL_PAUSE c) .pause) := rfl
theorem exec_engineResume : exec (.engineResume c) s = s.onBay (·.engCtl c (F.ENG_CTL_RESUME c) .resume) := rfl
theorem exec_engineRelease : exec (.engineRelease c) s = s.onBay (·.engCtl c (F.ENG_CTL_RELEASE c) .release) := rfl
theorem exec_hsig : exec (.hsig c) s = s.onBay (·.hsig c) := rfl
theorem exec_frzRead : exec (.frzRead c) s = s.onBay (·.frzRead c) := rfl

end

/-! ## Engine states (R192) -/

theorem Bay.setEngState_state (b : Bay) (c : Nat) (st : Int) : (b.setEngState c st).rd (F.ENG_STAT_STATE c) = st := by
  simp [Bay.setEngState]

/-- An engine that leaves STOPPED counts as active. -/
theorem Bay.setEngState_active_of_stopped {b : Bay} {c : Nat} {st : Int} (h : b.engState c = Es.stopped) (hst : st ≠ Es.stopped) :
    (b.setEngState c st).rd F.SKN_STAT_ACTIVE = b.rd F.SKN_STAT_ACTIVE + 1 := by
  simp [Bay.setEngState, h, hst]

theorem Bay.setEngState_rd_of_ne (b : Bay) (c : Nat) (st : Int) {k : Key} (hs : k ≠ F.ENG_STAT_STATE c) (ha : k ≠ F.SKN_STAT_ACTIVE) :
    (b.setEngState c st).rd k = b.rd k := by
  simp [Bay.setEngState, hs, ha]

/-! ## What a command to an engine draws at its write (R193) -/

/-- A field of an engine whose write nothing refuses belongs to a wale that is fitted (R3). -/
theorem Bay.walePresent_of_engGate {b : Bay} {k : Key} (h : b.gate k = none) (hk : k.grp = .eng) : b.walePresent (waleOf k.i) = true := by
  cases present : b.walePresent (waleOf k.i) with
  | true => rfl
  | false => simp [Bay.gate, Bay.absentBlock, hk, present] at h

/-- A running engine can be stopped. -/
theorem Bay.cmdApplies_stop_of_running {b : Bay} {c : Nat} (h : b.engState c = Es.running) : b.cmdApplies c .stop = true := by
  simp only [Bay.cmdApplies, h]
  decide

section
variable {b : Bay} {c : Nat} {x : HostEng} (hw : b.walePresent (waleOf c) = true)
include hw

theorem Bay.cmdReason_none (hm : b.mode = Mode.hold → x ≠ .pause ∧ x ≠ .resume) (ha : b.cmdApplies c x = true)
    (hr : x = .release → b.flag (F.ENG_STAT_CLR_ARMED c) = true) : b.cmdReason c x = none := by
  have taken : ¬ (b.mode = Mode.hold ∧ (x = .pause ∨ x = .resume)) := fun ⟨h, hx⟩ => hx.elim (hm h).1 (hm h).2
  have read : ¬ (x = .release ∧ (!b.flag (F.ENG_STAT_CLR_ARMED c)) = true) := fun ⟨h, hx⟩ => by simp [hr h] at hx
  simp only [Bay.cmdReason, hw, ha, taken, read, Bool.not_true, if_false, Bool.false_eq_true]

theorem Bay.cmdReason_of_hold (hm : b.mode = Mode.hold) (hx : x = .pause ∨ x = .resume) : b.cmdReason c x = some 6 := by
  simp [Bay.cmdReason, hw, hm, hx]

theorem Bay.cmdReason_of_state (hx : x ≠ .pause ∧ x ≠ .resume) (ha : b.cmdApplies c x = false) : b.cmdReason c x = some 4 := by
  simp [Bay.cmdReason, hw, ha, hx]

theorem Bay.cmdReason_of_unread (ha : b.cmdApplies c .release = true) (hr : b.flag (F.ENG_STAT_CLR_ARMED c) = false) :
    b.cmdReason c .release = some 5 := by
  simp [Bay.cmdReason, hw, ha, hr]

end

/-! ## A command in ENGcc_CTL whose write nothing refuses -/

section
variable {b : Bay} {c : Nat} {k : Key} {x : HostEng} (hg : b.gate k = none)
include hg

theorem Bay.engCtl_of_reason {r : Int} (hr : b.cmdReason c x = some r) : b.engCtl c k x = b.refuse k r := by
  simp [Bay.engCtl, Bay.gated_open hg, hr]

theorem Bay.engCtl_of_accepted (hr : b.cmdReason c x = none) : b.engCtl c k x = b.giveCommand c (nextEdge b.now) x := by
  simp [Bay.engCtl, Bay.gated_open hg, hr]

end

/-- Every command but START waits for its frame edge (R193). -/
theorem Bay.giveCommand_waits (b : Bay) (c at_ : Nat) {x : HostEng} (hx : x ≠ .start) :
    b.giveCommand c at_ x = b.setEng c { b.engOf c with hostCmds := (b.engOf c).hostCmds ++ [x] } := by
  cases x with
  | start => exact absurd rfl hx
  | _ => rfl

theorem Bay.engStart_of_accepted {b : Bay} {c : Nat} (at_ : Nat) (h : b.startRefusal c = 0) :
    b.engStart c at_ = (b.setEngState c Es.starting).setEng c { b.engOf c with startAt := at_, image := b.rd (F.ENG_IMAGE c) } := by
  simp only [Bay.engStart, h]

theorem Bay.engStart_of_refused {b : Bay} {c : Nat} (at_ : Nat) (h : b.startRefusal c ≠ 0) :
    b.engStart c at_ = b.wr (F.ENG_STAT_REFUSE c) (b.startRefusal c) := by
  unfold Bay.engStart
  split
  · contradiction
  · rfl

/-- What an accepted START leaves (R193, R194). -/
theorem Bay.engStart_starts {b : Bay} {c : Nat} (at_ : Nat) (h : b.startRefusal c = 0) :
    (b.engStart c at_).engState c = Es.starting ∧ ((b.engStart c at_).engOf c).startAt = at_ ∧
      ((b.engStart c at_).engOf c).image = b.rd (F.ENG_IMAGE c) := by
  rw [Bay.engStart_of_accepted at_ h]
  exact ⟨Bay.setEngState_state b c Es.starting, by simp, by simp⟩

end Sys2Proof.Machine

namespace Sys2Proof

open Sys2Proof.Machine

/-- An engine command that is accepted and waits for its frame edge. -/
theorem completes_engCtl_waits {cmd : Instr} {s : State} {c : Nat} {k : Key} {x : HostEng} (he : exec cmd s = s.onBay (·.engCtl c k x))
    (hg : s.bay.gate k = none) (hr : s.bay.cmdReason c x = none) (hx : x ≠ .start) :
    completes cmd s (fun b => (b.engOf c).hostCmds = (s.bay.engOf c).hostCmds ++ [x] ∧ keepsRegs s.bay b []) := by
  apply completes_onBay he
  rw [Bay.engCtl_of_accepted hg hr, Bay.giveCommand_waits _ _ _ hx]
  exact ⟨by simp, fun _ _ => rfl⟩

/-- Settles O14: the reason that a command draws at its write decides between its effect and the refusal. -/
theorem engineCommands : Obligations.EngineCommands := by
  unfold Obligations.EngineCommands
  intro s
  refine ⟨?start, ?startRefused, ?stop, ?stopStopped, ?pause, ?pauseInHold, ?resume, ?release, ?releaseUnread, ?hsig, ?frzRead⟩
  case start =>
    intro c hg hst h0
    have given : s.bay.cmdReason c .start = none :=
      Bay.cmdReason_none (Bay.walePresent_of_engGate hg rfl) (fun _ => ⟨by simp, by simp⟩) (by simp [Bay.cmdApplies, hst]) (by simp)
    obtain ⟨state, startAt, image⟩ := Bay.engStart_starts (nextEdge s.bay.now) h0
    apply completes_onBay (exec_engineStart s c)
    rw [Bay.engCtl_of_accepted hg given]
    refine ⟨state, startAt, image, ?_, ?_⟩
    · rw [Bay.giveCommand, Bay.engStart_of_accepted _ h0]
      exact Bay.setEngState_active_of_stopped hst (by decide)
    · intro k hk
      simp only [List.mem_cons, List.not_mem_nil, or_false, not_or] at hk
      rw [Bay.giveCommand, Bay.engStart_of_accepted _ h0]
      exact Bay.setEngState_rd_of_ne _ _ _ hk.1 hk.2
  case startRefused =>
    intro c hg hst h0
    have given : s.bay.cmdReason c .start = none :=
      Bay.cmdReason_none (Bay.walePresent_of_engGate hg rfl) (fun _ => ⟨by simp, by simp⟩) (by simp [Bay.cmdApplies, hst]) (by simp)
    apply completes_onBay (exec_engineStart s c)
    rw [Bay.engCtl_of_accepted hg given, Bay.giveCommand, Bay.engStart_of_refused _ h0]
    simp +contextual [keepsRegs]
  case stop =>
    intro c hg hst
    exact completes_engCtl_waits (exec_engineStop s c) hg
      (Bay.cmdReason_none (Bay.walePresent_of_engGate hg rfl) (fun _ => ⟨by simp, by simp⟩) (Bay.cmdApplies_stop_of_running hst) (by simp)) (by simp)
  case stopStopped =>
    intro c hg hst
    exact completes_onBay (exec_engineStop s c) (Bay.engCtl_of_reason hg
      (Bay.cmdReason_of_state (Bay.walePresent_of_engGate hg rfl) (by simp) (by simp [Bay.cmdApplies, hst])))
  case pause =>
    intro c hg hm hst
    exact completes_engCtl_waits (exec_enginePause s c) hg
      (Bay.cmdReason_none (Bay.walePresent_of_engGate hg rfl) (fun h => absurd h hm) (by simp [Bay.cmdApplies, hst]) (by simp)) (by simp)
  case pauseInHold =>
    intro c hg hm
    exact completes_onBay (exec_enginePause s c) (Bay.engCtl_of_reason hg
      (Bay.cmdReason_of_hold (Bay.walePresent_of_engGate hg rfl) hm (.inl rfl)))
  case resume =>
    intro c hg hm hst
    exact completes_engCtl_waits (exec_engineResume s c) hg
      (Bay.cmdReason_none (Bay.walePresent_of_engGate hg rfl) (fun h => absurd h hm) (by simp [Bay.cmdApplies, hst]) (by simp)) (by simp)
  case release =>
    intro c hg hst ha
    exact completes_engCtl_waits (exec_engineRelease s c) hg
      (Bay.cmdReason_none (Bay.walePresent_of_engGate hg rfl) (fun _ => ⟨by simp, by simp⟩) (by simp [Bay.cmdApplies, hst]) (fun _ => ha)) (by simp)
  case releaseUnread =>
    intro c hg hst ha
    exact completes_onBay (exec_engineRelease s c) (Bay.engCtl_of_reason hg
      (Bay.cmdReason_of_unread (Bay.walePresent_of_engGate hg rfl) (by simp [Bay.cmdApplies, hst]) ha))
  case hsig =>
    intro c hg
    apply completes_onBay (exec_hsig s c)
    rw [Bay.hsig, Bay.gated_open hg]
    exact ⟨rfl, fun _ _ => rfl⟩
  case frzRead =>
    intro c hst
    have frozen : s.bay.engState c = Es.frozen := hst
    apply completes_onBay (exec_frzRead s c)
    simp +contextual [Bay.frzRead, frozen, keepsRegs]

end Sys2Proof
end

section
/-! PROOFS. Commands to many engines, the start edge, and the releases, timeouts, aborts and breaks of groups (R191, R193, R200 to R203). -/

namespace Sys2Proof.Machine

/-! ## The meaning each row runs -/

section
variable (s : State)

theorem exec_scmdStart : exec .scmdStart s = s.onBay (·.scmd F.SKN_SCMD_START .start) := rfl
theorem exec_scmdStop : exec .scmdStop s = s.onBay (·.scmd F.SKN_SCMD_STOP .stop) := rfl
theorem exec_scmdPause : exec .scmdPause s = s.onBay (·.scmd F.SKN_SCMD_PAUSE .pause) := rfl
theorem exec_scmdResume : exec .scmdResume s = s.onBay (·.scmd F.SKN_SCMD_RESUME .resume) := rfl
theorem exec_engineStartEdge (c : Fin 64) : exec (.engineStartEdge c) s = execEngineStartEdge c s := rfl
theorem exec_groupRelease (g : Fin 16) : exec (.groupRelease g) s = execGroupRelease g s := rfl
theorem exec_groupTimeout (g : Fin 16) : exec (.groupTimeout g) s = execGroupTimeout g s := rfl
theorem exec_groupAbort (g : Fin 16) : exec (.groupAbort g) s = s.onBay (·.groupAbort g) := rfl
theorem exec_groupBreak (x : BreakIn) : exec (.groupBreak x) s = execGroupBreak x s := rfl
theorem exec_groupArrivalMessage (g : Fin 16) (gen : BitVec 16) (st ch ts : Nat) (cnt : BitVec 13) :
    exec (.groupArrivalMessage g gen st ch ts cnt) s = s.onBay (·.remoteArrival g gen.toNat st ch ts cnt.toNat) := rfl

end

/-! ## Commands to the masked engines (R193) -/

/-- A command to one masked engine that takes it. -/
theorem Bay.scmd_of_single {b : Bay} {k : Key} {x : HostEng} {c : Nat} (hg : b.gate k = none) (hm : b.maskedEngines = [c])
    (hr : b.cmdReason c x = none) : b.scmd k x = b.giveCommand c b.maskedEdge x := by
  simp [Bay.scmd, Bay.gated_open hg, hm, hr, Bay.each]

/-! ## The start edge (R191, R193) -/

/-- A cleared engine begins at the entry point its ENTRY register names. -/
theorem Bay.clearEngine_pc {b : Bay} {c : Nat} {e : List Int} {code k : List Nat} {r : List Int}
    (h : b.programOf (b.engOf c).image = some (e, code, k, r)) : (b.clearEngine c).rd (F.ENG_PC c) = nth e (b.rdN (F.ENG_ENTRY_VAL c)) := by
  have regs (x : Bay) : (x.each (List.range 4) (fun b i => (b.wr (retKey c i) 0).wr (aKey c i) 0)).rd (F.ENG_PC c) = x.rd (F.ENG_PC c) := by
    refine Bay.each_rd (fun b i => ?_) _ _
    have ret : F.ENG_PC c ≠ retKey c i := by simp
    have acc : F.ENG_PC c ≠ aKey c i := fun e => absurd (congrArg Key.off e) (by simp; omega)
    simp [ret, acc]
  simp [Bay.clearEngine, h, regs]

theorem Bay.clearEngine_clears (b : Bay) (c : Nat) :
    (b.clearEngine c).rd (F.ENG_TURNS c) = 0 ∧ (b.clearEngine c).rd (F.ENG_STAT_DEPTH c) = 0 ∧
      ∀ x : Nat, x < 256 → (b.clearEngine c).rd (scrKey c x) = 0 := by
  refine ⟨by simp [Bay.clearEngine], by simp [Bay.clearEngine], fun x hx => ?_⟩
  simp [Bay.clearEngine, Bay.each_rd, Bay.rd_each_wr, hx]

@[simp] theorem Bay.putEntry_chanOf (b : Bay) (c : Nat) (e : RecEntry) (n : Nat) : (b.putEntry c e).chanOf n = b.chanOf n := by
  simp only [Bay.putEntry, Bay.ringStat, Bay.dropEntry]
  repeat' split
  all_goals simp

@[simp] theorem Bay.endSweepEarly_chanOf (b : Bay) (c : Nat) (code : Int) (n : Nat) : (b.endSweepEarly c code).chanOf n = b.chanOf n := by
  simp only [Bay.endSweepEarly]
  repeat' split
  all_goals simp

/-- A cause that holds a channel stands among its HOLD causes (R153). -/
theorem Bay.hold_holds (b : Bay) (c cause : Nat) : cause ∈ ((b.hold c cause).chanOf c).holds := by
  by_cases held : cause ∈ (b.chanOf c).holds
  · simp [Bay.hold, held]
  · simp only [Bay.hold, List.contains_iff_mem, held, if_false, Bay.recEvent, Bay.markInterval, Bay.endDonation, Bay.syncMode]
    repeat' split
    all_goals simp

/-- The channel of an engine that starts: its step ends, host targets cease, it holds with cause 1 (R191, R193). -/
def Bay.chanAtStart (b : Bay) (c : Nat) : Bay :=
  let b := (b.endStep c 11 1024).endWatch c
  let b := b.setChan c { b.chanOf c with src := .none, toRest := false }
  ((b.setFlag (F.CHN_REG_STAT_DIRECT c) false).hold c 1).seeEdge

theorem exec_engineStartEdge_of_due {s : State} {c : Fin 64} (hst : s.bay.engState c = Es.starting) (ht : (s.bay.engOf c).startAt ≤ s.bay.now) :
    exec (.engineStartEdge c) s = s.onBay (fun b => ((b.clearEngine c).setEngState c Es.running).chanAtStart c) := by
  simp [exec_engineStartEdge, execEngineStartEdge, State.onBay, hst, ht, Bay.chanAtStart]

/-- What the start of an engine does to its channel leaves the engines. -/
theorem Bay.chanAtStart_rd (b : Bay) (c : Nat) {k : Key} (hk : k.grp = .eng ∨ k.grp = .engScr) : (b.chanAtStart c).rd k = b.rd k := by
  rcases hk with hk | hk <;> simp [Bay.chanAtStart, hk]

theorem Bay.chanAtStart_direct (b : Bay) (c : Nat) : (b.chanAtStart c).rd (F.CHN_REG_STAT_DIRECT c) = 0 := by
  simp [Bay.chanAtStart]

theorem Bay.chanAtStart_holds (b : Bay) (c : Nat) : 1 ∈ ((b.chanAtStart c).chanOf c).holds := Bay.hold_holds _ c 1

/-! ## Each member of a list (R201, R202) -/

/-- What holds before a member's own turn, and what holds from then on. -/
theorem Bay.each_reaches {P Q : Bay → Prop} {f : Bay → Nat → Bay} {c : Nat} (before : ∀ b n, n ≠ c → P b → P (f b n))
    (turn : ∀ b, P b → Q (f b c)) (after : ∀ b n, Q b → Q (f b n)) {l : List Nat} (hc : c ∈ l) {b : Bay} (h : P b) : Q (b.each l f) := by
  have stays (l : List Nat) : ∀ b, Q b → Q (b.each l f) := by
    induction l with
    | nil => exact fun _ h => h
    | cons n l ih => exact fun b h => ih _ (after b n h)
  induction l generalizing b with
  | nil => cases hc
  | cons n l ih =>
    by_cases own : n = c
    · subst own
      exact stays l _ (turn b h)
    · exact ih ((List.mem_cons.1 hc).resolve_left (Ne.symm own)) (before b n own h)

/-! ## The end of a generation (R201, R202) -/

/-- What the end of a generation does to one member. -/
def Bay.endMember (b : Bay) (g : Nat) (last : Int) (c : Nat) : Bay :=
  let w := b.waitsOn c g
  let b := b.groupBit c
  let b := if w then b.wake c else b.waitSeen c
  b.onlyIf (w && last != 1) (fun b => b.setFlag (F.CHN_REG_STAT_TO c) true)

/-- The bay once the members of a group have been told that its generation ends. -/
def Bay.endMembers (b : Bay) (g : Nat) (last : Int) : Bay := b.each (b.localMembers g) (fun b c => b.endMember g last c)

theorem Bay.endGeneration_eq (b : Bay) (g : Nat) (last : Int) :
    b.endGeneration g last = ((((b.endMembers g last).seeEdge.setGroup g {}).wr (F.GRP_STAT_GEN g)
      (((b.endMembers g last).rd (F.GRP_STAT_GEN g) + 1) % 65536)).wr (F.GRP_STAT_ARRIVED g) 0).wr (F.GRP_STAT_LAST g) last := rfl

theorem Bay.endMember_rd_grp (b : Bay) (g : Nat) (last : Int) (n : Nat) {k : Key} (hk : k.grp = .grp) : (b.endMember g last n).rd k = b.rd k := by
  simp only [Bay.endMember]
  split <;> simp [hk]

/-- A member leaves the registers of other engines and channels. -/
theorem Bay.endMember_rd_of_ne (b : Bay) (g : Nat) (last : Int) {n : Nat} {k : Key} (hi : k.i ≠ n) (hk : k.grp ≠ .skn) :
    (b.endMember g last n).rd k = b.rd k := by
  have other (gr : Grp) (o lo : Nat) : ¬ k = ⟨gr, n, o, lo⟩ := fun e => hi (e ▸ rfl)
  simp only [Bay.endMember, Bay.groupBit, Bay.wake, Bay.waitSeen, Bay.setEngState]
  repeat' split
  all_goals simp [other, hk]

theorem Bay.endMember_engOf_of_ne (b : Bay) (g : Nat) (last : Int) {n c : Nat} (h : n ≠ c) : (b.endMember g last n).engOf c = b.engOf c := by
  have marked (x : Bay) (due : Bool) : (x.onlyIf due (fun x => x.setFlag (F.CHN_REG_STAT_TO n) true)).engOf c = x.engOf c :=
    Bay.onlyIf_keeps (fun x => x.engOf c) (fun x => x.setFlag (F.CHN_REG_STAT_TO n) true) (fun _ => rfl) _ _
  simp only [Bay.endMember, marked, Bay.groupBit, Bay.wake, Bay.waitSeen, Bay.setEngState]
  repeat' split
  all_goals simp [h]

/-- The turn of another member leaves an engine waiting on the group. -/
theorem Bay.endMember_waitsOn_of_ne (b : Bay) (g : Nat) (last : Int) {n c : Nat} (h : n ≠ c) : (b.endMember g last n).waitsOn c g = b.waitsOn c g := by
  have state : (b.endMember g last n).engState c = b.engState c := Bay.endMember_rd_of_ne b g last (k := F.ENG_STAT_STATE c) (Ne.symm h) (by simp)
  simp only [Bay.waitsOn, state, Bay.endMember_engOf_of_ne b g last h, Bay.endMember_rd_grp b g last n (k := F.GRP_STAT_GEN g) rfl]

/-- An engine that runs waits for nothing. -/
theorem Bay.waitSeen_of_running {b : Bay} {c : Nat} (h : b.engState c = Es.running) : b.waitSeen c = b := by
  unfold Bay.waitSeen
  exact if_pos (h ▸ by decide)

/-- An engine that waited on the generation that ended runs, with TO set after a break. -/
def Bay.goesOn (b : Bay) (last : Int) (c : Nat) : Prop := b.engState c = Es.running ∧ (last ≠ 1 → b.rd (F.CHN_REG_STAT_TO c) = 1)

theorem Bay.endMember_releases {b : Bay} {g : Nat} {last : Int} {c : Nat} (hw : b.waitsOn c g = true) : (b.endMember g last c).goesOn last c := by
  have state : ((b.groupBit c).wake c).rd (F.ENG_STAT_STATE c) = Es.running := by simp [Bay.wake, Bay.setEngState]
  refine ⟨?_, fun broken => ?_⟩
  · simpa [Bay.endMember, hw, Bay.engState] using state
  · simp [Bay.endMember, hw, Bay.onlyIf, broken]

theorem Bay.endMember_keeps_goesOn {b : Bay} {g : Nat} {last : Int} {c : Nat} (n : Nat) (h : b.goesOn last c) :
    (b.endMember g last n).goesOn last c := by
  obtain ⟨running, marked⟩ := h
  by_cases own : n = c
  · subst own
    have away : (Es.running == Es.waiting) = false := by decide
    have idle : b.waitsOn n g = false := by simp only [Bay.waitsOn, running, away, Bool.false_and]
    have state : (b.groupBit n).engState n = Es.running := (Bay.groupBit_rd b n (by simp)).trans running
    have stands : b.endMember g last n = b.groupBit n := by
      simp only [Bay.endMember, idle, Bay.onlyIf, Bool.false_and, Bool.false_eq_true, if_false, Bay.waitSeen_of_running state]
    rw [stands]
    exact ⟨state, fun broken => (Bay.groupBit_rd b n (by simp)).trans (marked broken)⟩
  · have apart : c ≠ n := Ne.symm own
    exact ⟨(Bay.endMember_rd_of_ne b g last (k := F.ENG_STAT_STATE c) apart (by simp)).trans running,
      fun broken => (Bay.endMember_rd_of_ne b g last (k := F.CHN_REG_STAT_TO c) apart (by simp)).trans (marked broken)⟩

theorem Bay.endMembers_release {b : Bay} {g : Nat} {last : Int} {c : Nat} (hc : c ∈ b.localMembers g) (hw : b.waitsOn c g = true) :
    (b.endMembers g last).goesOn last c :=
  Bay.each_reaches (P := fun b => b.waitsOn c g = true) (Q := fun b => b.goesOn last c) (fun b _ h hw => (Bay.endMember_waitsOn_of_ne b g last h).trans hw)
    (fun _ => Bay.endMember_releases) (fun _ n => Bay.endMember_keeps_goesOn n) hc hw

/-- The end of a generation releases the engines that wait on it. -/
theorem Bay.endGeneration_releases {b : Bay} {g : Nat} {last : Int} {c : Nat} (hc : c ∈ b.localMembers g) (hw : b.waitsOn c g = true) :
    (b.endGeneration g last).goesOn last c := by
  have told : (b.endMembers g last).goesOn last c := Bay.endMembers_release hc hw
  simpa [Bay.endGeneration_eq, Bay.goesOn, Bay.engState] using told

/-- The registers and the arrivals of a group whose generation ended. -/
theorem Bay.endGeneration_ends (b : Bay) (g : Nat) (last : Int) :
    (b.endGeneration g last).rd (F.GRP_STAT_GEN g) = (b.rd (F.GRP_STAT_GEN g) + 1) % 65536 ∧
      (b.endGeneration g last).rd (F.GRP_STAT_ARRIVED g) = 0 ∧ (b.endGeneration g last).rd (F.GRP_STAT_LAST g) = last ∧
      (b.endGeneration g last).groupOf g = {} := by
  have gen : (b.endMembers g last).rd (F.GRP_STAT_GEN g) = b.rd (F.GRP_STAT_GEN g) :=
    Bay.each_rd (fun b n => Bay.endMember_rd_grp b g last n rfl) _ _
  rw [Bay.endGeneration_eq]
  simp [gen]

theorem exec_groupRelease_of_due {s : State} {g : Fin 16} {t : Nat} (hr : (s.bay.groupOf g).releaseAt = some t) (ht : t ≤ s.bay.now)
    (he : s.bay.now % frameTicks = 0) : exec (.groupRelease g) s = s.onBay (·.endGeneration g 1) := by
  simp [exec_groupRelease, execGroupRelease, State.onBay, hr, ht, he]

theorem exec_groupBreak_of_due {s : State} {g : Fin 16} {t : Nat} {m : Bool} (hb : (s.bay.groupOf g).breakAt = some (t, m)) (ht : t ≤ s.bay.now)
    (he : s.bay.now % frameTicks = 0) : exec (.groupBreak ⟨g, none⟩) s = s.onBay (·.endGeneration g (if m then 3 else 2)) := by
  simp [exec_groupBreak, execGroupBreak, State.onBay, Bay.breakEdge, hb, ht, he]

/-! ## Breaks and arrivals (R200 to R202) -/

/-- A group without a release or a break is to break 400 µs after the timestamp, at the next millisecond (R202). -/
theorem Bay.breakGroup_of_open {b : Bay} {g : Nat} (ts : Nat) (m : Bool) (hr : (b.groupOf g).releaseAt = none) (hb : (b.groupOf g).breakAt = none) :
    b.breakGroup g ts m = b.setGroup g { b.groupOf g with breakAt := some (ceilTo msTicks (ts + 50000), m) } := by
  simp [Bay.breakGroup, hr, hb]

/-- A break that starts in this bay carries the start of the present frame. -/
theorem Bay.breakHere_of_open {b : Bay} {g : Nat} (m : Bool) (hr : (b.groupOf g).releaseAt = none) (hb : (b.groupOf g).breakAt = none) :
    ((b.breakHere g m).groupOf g).breakAt = some (ceilTo msTicks (frameStart b.now + 50000), m) ∧ keepsRegs b (b.breakHere g m) [] :=
  ⟨by simp [Bay.breakHere, Bay.breakGroup_of_open _ _ hr hb], fun _ _ => Bay.breakHere_rd b g m⟩

theorem exec_groupTimeout_of_due {s : State} {g : Fin 16} (htmo : 0 < s.bay.rdN (F.GRP_TMO g)) (ha : (s.bay.groupOf g).arrived ≠ [])
    (hr : (s.bay.groupOf g).releaseAt = none) (hb : (s.bay.groupOf g).breakAt = none)
    (ht : (s.bay.groupOf g).firstAt + s.bay.rdN (F.GRP_TMO g) * msTicks ≤ s.bay.now) :
    exec (.groupTimeout g) s = s.onBay (·.breakHere g false) := by
  simp [exec_groupTimeout, execGroupTimeout, State.onBay, htmo, ha, hr, hb, ht]

/-- An arrival that expects another count breaks the group (R202). -/
theorem Bay.remoteArrival_of_mismatch {b : Bay} {g : Nat} {gen cnt : Int} (st ch ts : Nat) (hgen : gen = b.rd (F.GRP_STAT_GEN g))
    (hcnt : cnt ≠ b.rd (F.GRP_CNT g)) (hr : (b.groupOf g).releaseAt = none) (hb : (b.groupOf g).breakAt = none) :
    b.remoteArrival g gen st ch ts cnt = ((b.note 209).breakGroup g ts true).send (.groupBreak g gen ts true) := by
  simp [Bay.remoteArrival, ← hgen, hcnt, hr, hb]

/-- A first arrival that does not fill the group is counted (R200). -/
theorem Bay.arrive_of_short {b : Bay} {g st ch : Nat} (ts : Nat) (hr : (b.groupOf g).releaseAt = none) (hn : (st, ch) ∉ (b.groupOf g).arrived)
    (hs : (b.groupOf g).arrived.length + 1 < b.rd (F.GRP_CNT g)) :
    (st, ch) ∈ ((b.arrive g st ch ts).groupOf g).arrived ∧ ((b.arrive g st ch ts).groupOf g).releaseAt = none ∧
      (b.arrive g st ch ts).rd (F.GRP_STAT_ARRIVED g) = (b.groupOf g).arrived.length + 1 := by
  have short : ¬ ((b.groupOf g).arrived.length + 1 : Int) = b.rd (F.GRP_CNT g) := Int.ne_of_lt hs
  simp [Bay.arrive, hn, hr, short]

theorem Bay.remoteArrival_of_unfilled {b : Bay} {g : Nat} {gen cnt : Int} {st ch ts : Nat} (hgen : gen = b.rd (F.GRP_STAT_GEN g))
    (hcnt : cnt = b.rd (F.GRP_CNT g)) (hu : ((b.arrive g st ch ts).groupOf g).releaseAt = none) :
    b.remoteArrival g gen st ch ts cnt = b.arrive g st ch ts := by
  simp [Bay.remoteArrival, hgen, hcnt, hu]

end Sys2Proof.Machine

namespace Sys2Proof

open Sys2Proof.Machine

/-- A command to one masked engine that is accepted and waits for its frame edge. -/
theorem completes_scmd_waits {cmd : Instr} {s : State} {c : Nat} {k : Key} {x : HostEng} (he : exec cmd s = s.onBay (·.scmd k x))
    (hg : s.bay.gate k = none) (hm : s.bay.maskedEngines = [c]) (hr : s.bay.cmdReason c x = none) (hx : x ≠ .start) :
    completes cmd s (fun b => (b.engOf c).hostCmds = (s.bay.engOf c).hostCmds ++ [x] ∧ keepsRegs s.bay b []) := by
  apply completes_onBay he
  rw [Bay.scmd_of_single hg hm hr, Bay.giveCommand_waits _ _ _ hx]
  exact ⟨by simp, fun _ _ => rfl⟩

/-- Settles O15: a masked command is the engine's own; at the end of a generation each member is released in its turn and no later turn undoes it. -/
theorem groupCommandsAndReleases : Obligations.GroupCommandsAndReleases := by
  unfold Obligations.GroupCommandsAndReleases
  intro s
  refine ⟨?start, ?stop, ?pause, ?resume, ?startEdge, ?release, ?timeout, ?abort, ?break_, ?mismatch, ?arrival, ?breakMessage⟩
  case start =>
    intro c hg hm hp hst h0
    have given : s.bay.cmdReason c .start = none :=
      Bay.cmdReason_none hp (fun _ => ⟨by simp, by simp⟩) (by simp [Bay.cmdApplies, hst]) (by simp)
    obtain ⟨state, startAt, -⟩ := Bay.engStart_starts s.bay.maskedEdge h0
    apply completes_onBay (exec_scmdStart s)
    rw [Bay.scmd_of_single hg hm given]
    exact ⟨state, startAt⟩
  case stop =>
    intro c hg hm hp hst
    exact completes_scmd_waits (exec_scmdStop s) hg hm
      (Bay.cmdReason_none hp (fun _ => ⟨by simp, by simp⟩) (Bay.cmdApplies_stop_of_running hst) (by simp)) (by simp)
  case pause =>
    intro c hg hm hp hmode hst
    exact completes_scmd_waits (exec_scmdPause s) hg hm
      (Bay.cmdReason_none hp (fun h => absurd h hmode) (by simp [Bay.cmdApplies, hst]) (by simp)) (by simp)
  case resume =>
    intro c hg hm hp hmode hst
    exact completes_scmd_waits (exec_scmdResume s) hg hm
      (Bay.cmdReason_none hp (fun h => absurd h hmode) (by simp [Bay.cmdApplies, hst]) (by simp)) (by simp)
  case startEdge =>
    intro c e code k r hst ht hp
    obtain ⟨turns, depth, scratch⟩ := s.bay.clearEngine_clears c
    have kept {k : Key} (hk : k.grp = .eng ∨ k.grp = .engScr) (hs : k ≠ F.ENG_STAT_STATE c) :
        (((s.bay.clearEngine c).setEngState c Es.running).chanAtStart c).rd k = (s.bay.clearEngine c).rd k :=
      (Bay.chanAtStart_rd _ _ hk).trans (Bay.setEngState_rd_of_ne _ _ _ hs (by rintro rfl; simp at hk))
    refine completes_onBay (exec_engineStartEdge_of_due hst ht) ⟨?_, ?_, ?_, ?_, ?_, Bay.chanAtStart_direct _ _, Bay.chanAtStart_holds _ _⟩
    · exact (Bay.chanAtStart_rd _ _ (.inl rfl)).trans (Bay.setEngState_state _ _ _)
    · exact (kept (.inl rfl) (by simp)).trans (Bay.clearEngine_pc hp)
    · exact (kept (.inl rfl) (by simp)).trans turns
    · exact (kept (.inl rfl) (by simp)).trans depth
    · exact fun x hx => (kept (.inr rfl) (by simp)).trans (scratch x hx)
  case release =>
    intro g t hr ht he
    obtain ⟨gen, arrived, last, group⟩ := s.bay.endGeneration_ends g 1
    refine completes_onBay (exec_groupRelease_of_due hr ht he) ⟨gen, arrived, last, group, fun c hc hw => ?_⟩
    exact (Bay.endGeneration_releases hc hw).1
  case timeout =>
    intro g htmo ha hr hb ht
    exact completes_onBay (exec_groupTimeout_of_due htmo ha hr hb ht) (Bay.breakHere_of_open false hr hb)
  case abort =>
    intro g hg hr hb
    apply completes_onBay (exec_groupAbort s g)
    rw [Bay.groupAbort, Bay.gated_open hg]
    exact Bay.breakHere_of_open false hr hb
  case break_ =>
    intro g t m hb ht he
    obtain ⟨gen, arrived, last, -⟩ := s.bay.endGeneration_ends g (if m then 3 else 2)
    refine completes_onBay (exec_groupBreak_of_due hb ht he) ⟨gen, arrived, last, fun c hc hw => ?_⟩
    obtain ⟨running, marked⟩ := Bay.endGeneration_releases (last := if m then 3 else 2) hc hw
    exact ⟨running, marked (by cases m <;> decide)⟩
  case mismatch =>
    intro g gen st ch ts cnt hgen hcnt hr hb
    apply completes_onBay (exec_groupArrivalMessage s g gen st ch ts cnt)
    rw [Bay.remoteArrival_of_mismatch st ch ts hgen hcnt hr hb]
    refine ⟨?_, fun k hk => ?_⟩
    · rw [Bay.breakGroup_of_open _ _ (by simpa using hr) (by simpa using hb)]
      simp
    · simp only [List.mem_singleton] at hk
      simp [Bay.note_rd, hk]
  case arrival =>
    intro g gen st ch ts cnt hgen hcnt hr hn hs
    obtain ⟨arrived, unfilled, count⟩ := Bay.arrive_of_short ts hr hn hs
    apply completes_onBay (exec_groupArrivalMessage s g gen st ch ts cnt)
    rw [Bay.remoteArrival_of_unfilled hgen hcnt unfilled]
    exact ⟨arrived, count⟩
  case breakMessage =>
    intro g gen ts m hgen hr hb
    apply completes_onBay (exec_groupBreak s ⟨g, some (gen, ts, m)⟩)
    simp only [hgen, if_true]
    rw [Bay.breakGroup_of_open ts m hr hb]
    exact ⟨by simp, fun _ _ => rfl⟩

end Sys2Proof
end

section
/-! PROOFS. What the instruction of a turn leaves the engine with, and where a direct target that a step of the same frame will use is tested again (R196, R204, R217, R227). -/

namespace Sys2Proof.Machine

/-! ## The bay an instruction acts on (R196) -/

/-- An instruction acts on its engine as it was, but for the turns it has had. -/
theorem Bay.lastTurn_engOf (b : Bay) (c : Nat) : (b.lastTurn c).engOf c =
    { b.engOf c with slotFrame := max b.now (frameStart b.now + 8 * usTicks * b.turnsHad c) / frameTicks, slots := b.turnsHad c + 1, part := 0 } := by
  simp [Bay.lastTurn, Bay.openTurn]

@[simp] theorem Bay.lastTurn_cmds (b : Bay) (c : Nat) : ((b.lastTurn c).engOf c).cmds = (b.engOf c).cmds := by rw [Bay.lastTurn_engOf]
@[simp] theorem Bay.lastTurn_image (b : Bay) (c : Nat) : ((b.lastTurn c).engOf c).image = (b.engOf c).image := by rw [Bay.lastTurn_engOf]
@[simp] theorem Bay.lastTurn_markEdge (b : Bay) (c : Nat) : ((b.lastTurn c).engOf c).markEdge = (b.engOf c).markEdge := by rw [Bay.lastTurn_engOf]
@[simp] theorem Bay.lastTurn_slots (b : Bay) (c : Nat) : ((b.lastTurn c).engOf c).slots = b.turnsHad c + 1 := by rw [Bay.lastTurn_engOf]

@[simp] theorem Bay.lastTurn_k (b : Bay) (c n : Nat) : (b.lastTurn c).k c n = b.k c n := Bay.lastTurn_rd b c

@[simp] theorem Bay.lastTurn_refOf (b : Bay) (c ref kind : Nat) : (b.lastTurn c).refOf c ref kind = b.refOf c ref kind := by
  simp only [Bay.refOf, Bay.lastTurn_image]
  rfl

@[simp] theorem Bay.lastTurn_tested (b : Bay) (c : Nat) (f : Border → Option Nat) : (b.lastTurn c).tested c f = b.tested c f := by
  simp only [Bay.tested, Bay.flag, Bay.lastTurn_rd]
  rfl

/-- The slots of a frame lie within it: at its turn an engine is still in the frame. -/
theorem Bay.lastTurn_frameStart {b : Bay} {c : Nat} (h : b.turnDue c = true) : frameStart (b.lastTurn c).now = frameStart b.now := by
  have few : b.turnsHad c < 5 := by
    simp only [Bay.turnDue, Bool.and_eq_true, decide_eq_true_eq] at h
    exact h.1.2
  have opens : (b.lastTurn c).now = max b.now (frameStart b.now + 8 * usTicks * b.turnsHad c) := rfl
  rw [opens]
  simp only [frameStart, frameTicks, usTicks]
  omega

/-! ## How the turn ends (R204, R217) -/

section
variable {b b' : Bay} {c : Nat}

/-- The turn is counted and the PC moves on. -/
theorem Bay.acted_done_turned {n pc : Int} (hpc : pc = b.rd (F.ENG_PC c) + n) (ht : b'.rd (F.ENG_TURNS c) = b.rd (F.ENG_TURNS c)) :
    turned b (b.acted c (.done b' pc)) c n := by
  simp [turned, Bay.acted, Bay.bump32, hpc, ht]

/-- Beside the PC and the count of turns a turn changes what its instruction changes. -/
theorem Bay.acted_done_keeps {pc : Int} {l : List Key} (h : keepsRegs b b' l) :
    keepsRegs b (b.acted c (.done b' pc)) (l ++ [F.ENG_PC c, F.ENG_TURNS c]) := by
  intro k hk
  simp only [List.mem_append, List.mem_cons, List.not_mem_nil, or_false, not_or] at hk
  obtain ⟨instr, pc, turns⟩ := hk
  simp [Bay.acted, pc, turns, h k instr]

@[simp] theorem Bay.acted_done_engOf (pc : Int) (n : Nat) : (b.acted c (.done b' pc)).engOf n = b'.engOf n := rfl

/-- A freeze shows its cause and DETAIL and leaves the PC on the instruction. -/
theorem Bay.acted_freeze (cause : Nat) (detail : Int) :
    frozenBy (b.acted c (.freeze cause detail)) c cause (detail % 65536) ∧ (b.acted c (.freeze cause detail)).rd (F.ENG_PC c) = b.rd (F.ENG_PC c) := by
  simp [frozenBy, Bay.acted, Bay.freeze, Bay.engState, Bay.setEngState, Bay.engDrops]

end

/-! ## Direct targets and the steps of the frame that use them (R227) -/

theorem exec_skSetp (s : State) (c : Fin 64) :
    exec (.skSetp c) s = s.onTurn c 0x16 (fun b w => b.setTargets c 2 { (b.engOf c).overlay with pSet := b.k c (dOf w) } none) := rfl
theorem exec_skSafet (s : State) (c : Fin 64) :
    exec (.skSafet c) s = s.onTurn c 0x24 (fun b w => b.setTargets c 3 { (b.engOf c).overlay with tSafe := max 0 (b.k c (dOf w)) } none) := rfl

/-- A write that fails the test of a step it will act on freezes the engine with cause 7, in place of the write. -/
theorem Bay.setTargets_of_failing {b : Bay} {c k : Nat} {t : Direct} {off : Nat} (h : b.testAgain c t = some off) :
    b.setTargets c k t none = .freeze 7 off := by
  simp [Bay.setTargets, h]

end Sys2Proof.Machine

namespace Sys2Proof

open Sys2Proof.Machine

/-- A turn in which the engine freezes leaves the PC where it stands. -/
theorem completes_onTurn_freeze {cmd : Instr} {s : State} {c op w cause : Nat} {detail : Int} {f : Bay → Nat → TurnEnd}
    (he : exec cmd s = s.onTurn c op f) (h : runsOn s c op w) (hf : f (s.bay.lastTurn c) w = .freeze cause detail) :
    completes cmd s (fun b => frozenBy b c cause (detail % 65536) ∧ b.rd (F.ENG_PC c) = s.bay.rd (F.ENG_PC c)) :=
  completes_onTurn he h (hf ▸ Bay.acted_freeze cause detail)

/-- Refutes O17: its clause on SETP (R225) asks only that no direct step runs, where R227 (log entry 82) tests the target with a direct step that a MODE of the same frame starts too. Below a MODE 5 (CP), whose P_SET of 0 the border permits, waits for the frame edge, and a SETP of 2000 exceeds the P_MAX of 1000: the engine freezes with cause 7 and its PC stands. -/
theorem not_skeinChannelCommandsAndWaits : ¬ Obligations.SkeinChannelCommandsAndWaits := by
  unfold Obligations.SkeinChannelCommandsAndWaits
  intro h
  let w := 0x16 * 2 ^ 26 + 2 * 2 ^ 22
  let s : State := { bay := {
    regs := [(F.BAY_STAT_MODE, Mode.forming), (F.ENG_STAT_STATE 0, Es.running), (F.CHN_REG_STAT_BORDER_OK 0, 1), (kKey 0 2, 2000)]
    border := [(0, { flags := 3, pMax := 1000 })]
    images := [⟨1, 1, 1, 0, 0, 0, .program [0] [w] [] []⟩]
    eng := [(0, { image := 1, cmds := [.mode 5 none] })] } }
  have runs : runsOn s 0 0x16 w := by
    unfold runsOn
    decide +kernel
  have fails : (s.bay.lastTurn 0).testAgain 0 { ((s.bay.lastTurn 0).engOf 0).overlay with pSet := (s.bay.lastTurn 0).k 0 (dOf w) } = some 0x14 := by
    decide +kernel
  obtain ⟨-, -, -, -, setp, -⟩ := h s
  obtain ⟨b, ⟨-, ⟨moved, -⟩, -⟩, -, stands⟩ := completes_both
    (setp 0 w runs (by decide +kernel)) (completes_onTurn_freeze (exec_skSetp s 0) runs (Bay.setTargets_of_failing fails))
  exact absurd (moved.symm.trans stands) (Int.ne_of_lt (Int.lt_add_one_of_le (Int.le_refl _))).symm

/-- Refutes O18: its clause on SAFET (R232) asks only that no direct step runs, where R227 (log entry 82) tests the target with a direct step that a MODE of the same frame starts too. Below a MODE 2 (CC) that charges with a safety time the border permits waits for the frame edge, and SAFET takes the time to 0, which no charging step may have (R142): the engine freezes with cause 7 and its PC stands. -/
theorem not_skeinReadsAndTables : ¬ Obligations.SkeinReadsAndTables := by
  unfold Obligations.SkeinReadsAndTables
  intro h
  let w := 0x24 * 2 ^ 26 + 2 * 2 ^ 22
  let s : State := { bay := {
    regs := [(F.BAY_STAT_MODE, Mode.forming), (F.ENG_STAT_STATE 0, Es.running), (F.CHN_REG_STAT_BORDER_OK 0, 1)]
    border := [(0, { flags := 1, iChg := 1000, sftMax := 60 })]
    images := [⟨1, 1, 1, 0, 0, 0, .program [0] [w] [] []⟩]
    eng := [(0, { image := 1, cmds := [.mode 2 none], overlay := { iSet := 1000, tSafe := 60 } })] } }
  have runs : runsOn s 0 0x24 w := by
    unfold runsOn
    decide +kernel
  have fails : (s.bay.lastTurn 0).testAgain 0 { ((s.bay.lastTurn 0).engOf 0).overlay with tSafe := max 0 ((s.bay.lastTurn 0).k 0 (dOf w)) } = some 0x20 := by
    decide +kernel
  obtain ⟨-, -, -, -, -, -, -, -, -, -, safet, -⟩ := h s
  obtain ⟨b, ⟨-, ⟨moved, -⟩, -⟩, -, stands⟩ := completes_both
    (safet 0 w runs (by decide +kernel)) (completes_onTurn_freeze (exec_skSafet s 0) runs (Bay.setTargets_of_failing fails))
  exact absurd (moved.symm.trans stands) (Int.ne_of_lt (Int.lt_add_one_of_le (Int.le_refl _))).symm

end Sys2Proof
end

section
/-! PROOFS. Sweeps, grades, marks, groups, donation and legacy charging: what a turn asks for (R200, R233 to R235). -/

namespace Sys2Proof.Machine

/-! ## The meaning each row runs -/

section
variable (s : State) (c : Fin 64)

theorem exec_skSweep : exec (.skSweep c) s = execSkSweep c s := rfl
theorem exec_skSweepStop : exec (.skSweepStop c) s = execSkSweepStop c s := rfl
theorem exec_skGrade : exec (.skGrade c) s = execSkGrade c s := rfl
theorem exec_skMark : exec (.skMark c) s = s.onTurn c 0x27 (fun b w => b.markOnce c w (field w 0 15 : Nat) false) := rfl
theorem exec_skLog : exec (.skLog c) s = s.onTurn c 0x28 (fun b w => b.markOnce c w (0x8000 + field w 0 15 : Nat) true) := rfl
theorem exec_skSignal : exec (.skSignal c) s = execSkSignal c s := rfl
theorem exec_skDonate : exec (.skDonate c) s = execSkDonate c s := rfl
theorem exec_skLegacy : exec (.skLegacy c) s = execSkLegacy c s := rfl

end

/-! ## Commands of the frame (R197) -/

@[simp] theorem Bay.command_cmds (b : Bay) (c : Nat) (x : EngCmd) : ((b.command c x).engOf c).cmds = (b.engOf c).cmds ++ [x] := by
  simp [Bay.command]

/-- The budget of a DONATE the border permits. -/
theorem Bay.tested_donate {b : Bay} {c : Nat} {v : Int} (hok : b.rd (F.CHN_REG_STAT_BORDER_OK c) = 1) (hf : bitOf (b.borderOf c).flags 2 = true)
    (hq : v ≤ (b.borderOf c).donQMax) :
    b.tested c (fun t => if !bitOf t.flags 2 then some 0x02 else if t.donQMax < v then some 0x2C else none) = none := by
  simp [Bay.tested, Bay.flag, hok, hf, Int.not_lt.2 hq]

/-! ## Marks (R234) -/

@[simp] theorem Bay.putEntry_engOf (b : Bay) (c : Nat) (e : RecEntry) (n : Nat) : (b.putEntry c e).engOf n = b.engOf n := by
  simp only [Bay.putEntry, Bay.ringStat, Bay.dropEntry]
  repeat' split
  all_goals simp

/-- The bay with the frame's mark of engine c in the record, and with LOG its event. -/
def Bay.marked (b : Bay) (c : Nat) (tag v : Int) (log : Bool) : Bay :=
  let b' := (b.setEng c { b.engOf c with markEdge := some (frameStart b.now) }).putEntry c (.mark tag v (frameStart b.now))
  if log then b'.raise (64 + c) tag v else b'

theorem Bay.markOnce_first {b : Bay} {c w : Nat} {tag : Int} {log : Bool} (h : (b.engOf c).markEdge ≠ some (frameStart b.now)) :
    b.markOnce c w tag log = (b.marked c tag (b.k c (dOf w)) log).step1 c := by
  simp only [Bay.markOnce, h, if_false]
  rfl

theorem Bay.markOnce_second {b : Bay} {c w : Nat} {tag : Int} {log : Bool} (h : (b.engOf c).markEdge = some (frameStart b.now)) :
    b.markOnce c w tag log = .stay := by
  simp [Bay.markOnce, h]

theorem Bay.marked_markEdge (b : Bay) (c : Nat) (tag v : Int) (log : Bool) : ((b.marked c tag v log).engOf c).markEdge = some (frameStart b.now) := by
  cases log <;> simp [Bay.marked]

/-- A mark leaves the registers of the engines. -/
theorem Bay.marked_rd (b : Bay) (c : Nat) (tag v : Int) (log : Bool) {k : Key} (hk : k.grp = .eng) : (b.marked c tag v log).rd k = b.rd k := by
  cases log <;> simp [Bay.marked, hk]

/-! ## Arrivals (R200) -/

theorem Bay.arrive_arrived (b : Bay) (g st ch ts : Nat) : (st, ch) ∈ ((b.arrive g st ch ts).groupOf g).arrived := by
  by_cases h : (st, ch) ∈ (b.groupOf g).arrived <;> simp [Bay.arrive, h]

theorem Bay.arrive_rd_of_ne (b : Bay) (g st ch ts : Nat) {k : Key} (hk : k ≠ F.GRP_STAT_ARRIVED g) : (b.arrive g st ch ts).rd k = b.rd k := by
  by_cases h : (st, ch) ∈ (b.groupOf g).arrived <;> simp [Bay.arrive, h, hk]

theorem Bay.arriveHere_arrived (b : Bay) (c g : Nat) : (b.rdN F.BAY_NODE_ADDR, c) ∈ ((b.arriveHere c g).groupOf g).arrived :=
  Bay.arrive_arrived b g _ _ _

theorem Bay.arriveHere_rd_of_ne (b : Bay) (c g : Nat) {k : Key} (hk : k ≠ F.GRP_STAT_ARRIVED g) : (b.arriveHere c g).rd k = b.rd k :=
  Bay.arrive_rd_of_ne b g _ _ _ hk

@[simp] theorem Bay.lastTurn_groupHopeless (b : Bay) (c g : Nat) : (b.lastTurn c).groupHopeless g = b.groupHopeless g := rfl

/-- Engine c, arrived at group g, waits for its present generation. -/
def Bay.atGroup (b : Bay) (c g : Nat) : Bay :=
  ((b.arriveHere c g).setEngState c Es.waiting).setEng c
    { (b.arriveHere c g).engOf c with wait := .group g (b.rd (F.GRP_STAT_GEN g)) }

/-- The bay after a JOIN: the engine's registers name the group and its generation. -/
def Bay.joinsGroup (b : Bay) (c g : Nat) : Bay :=
  (((b.atGroup c g).setFlag (F.ENG_STAT_JOINED c) true).wr (F.ENG_GRP_G c) g).wr (F.ENG_GRP_GEN c) (b.rd (F.GRP_STAT_GEN g))

theorem exec_skJoin (s : State) (c : Fin 64) : exec (.skJoin c) s = s.onTurn c 0x29 (fun b w =>
    if b.groupHopeless (field w 0 4) then .freeze 12 (field w 0 4 : Nat)
    else .done (b.joinsGroup c (field w 0 4)) ((b.atGroup c (field w 0 4)).rd (F.ENG_PC c))) := rfl

theorem Bay.atGroup_rd_eng (b : Bay) (c g : Nat) {k : Key} (hk : k.grp = .eng) (hs : k ≠ F.ENG_STAT_STATE c) : (b.atGroup c g).rd k = b.rd k := by
  have active : k ≠ F.SKN_STAT_ACTIVE := fun e => by simp [e] at hk
  have arrivals : k ≠ F.GRP_STAT_ARRIVED g := fun e => by simp [e] at hk
  exact (Bay.setEngState_rd_of_ne _ _ _ hs active).trans (Bay.arriveHere_rd_of_ne _ _ _ arrivals)

theorem Bay.joinsGroup_waits (b : Bay) (c g : Nat) :
    (b.joinsGroup c g).rd (F.ENG_STAT_STATE c) = Es.waiting ∧ ((b.joinsGroup c g).engOf c).wait = .group g (b.rd (F.GRP_STAT_GEN g)) := by
  simp [Bay.joinsGroup, Bay.atGroup, Bay.setEngState]

theorem Bay.joinsGroup_names (b : Bay) (c g : Nat) :
    (b.joinsGroup c g).rd (F.ENG_STAT_JOINED c) = 1 ∧ (b.joinsGroup c g).rd (F.ENG_GRP_G c) = g := by
  simp [Bay.joinsGroup]

theorem Bay.joinsGroup_arrived (b : Bay) (c g : Nat) : (b.rdN F.BAY_NODE_ADDR, c) ∈ ((b.joinsGroup c g).groupOf g).arrived :=
  Bay.arriveHere_arrived b c g

end Sys2Proof.Machine

namespace Sys2Proof

open Sys2Proof.Machine

/-- A turn that leaves the engine with one more command for the next edge. -/
theorem completes_onTurn_command {cmd : Instr} {s : State} {c op w : Nat} {x : EngCmd} {f : Bay → Nat → TurnEnd} (he : exec cmd s = s.onTurn c op f)
    (h : runsOn s c op w) (hf : f (s.bay.lastTurn c) w = ((s.bay.lastTurn c).command c x).step1 c) :
    completes cmd s (fun b => (b.engOf c).cmds = (s.bay.engOf c).cmds ++ [x] ∧ turned s.bay b c 1 ∧ keepsRegs s.bay b [F.ENG_PC c, F.ENG_TURNS c]) := by
  apply completes_onTurn he h
  rw [hf]
  exact ⟨by simp [Bay.step1], Bay.acted_done_turned (by simp) (by simp), Bay.acted_done_keeps (l := []) (fun _ _ => by simp)⟩

/-- A turn that writes the first mark of its frame. -/
theorem completes_onTurn_mark {cmd : Instr} {s : State} {c op w : Nat} {tag : Nat → Int} {log : Bool}
    (he : exec cmd s = s.onTurn c op (fun b w => b.markOnce c w (tag w) log)) (h : runsOn s c op w)
    (hm : (s.bay.engOf c).markEdge ≠ some (frameStart s.bay.now)) :
    completes cmd s (fun b => (b.engOf c).markEdge = some (frameStart s.bay.now) ∧ turned s.bay b c 1) := by
  have edge : frameStart (s.bay.lastTurn c).now = frameStart s.bay.now := Bay.lastTurn_frameStart h.1
  apply completes_onTurn he h
  rw [Bay.markOnce_first (by simpa [edge] using hm)]
  refine ⟨(Bay.marked_markEdge _ _ _ _ _).trans (congrArg some edge), Bay.acted_done_turned ?_ ?_⟩
  · simp [Bay.marked_rd]
  · simp [Bay.marked_rd]

/-- Settles O19: each instruction leaves a command, a mark or an arrival, and the turn ends one word on; only a second mark and JOIN stay. -/
theorem skeinSweepsMarksAndGroups : Obligations.SkeinSweepsMarksAndGroups := by
  unfold Obligations.SkeinSweepsMarksAndGroups
  intro s
  refine ⟨?sweep, ?sweepStop, ?grade, ?ungraded, ?mark, ?second, ?log, ?join, ?hopeless, ?signal, ?donate, ?legacy⟩
  case sweep =>
    intro c w m h hd hr
    exact completes_onTurn_command (exec_skSweep s c) h (by simp [hd, hr])
  case sweepStop =>
    intro c w h hd
    exact completes_onTurn_command (exec_skSweepStop s c) h (by simp [hd])
  case grade =>
    intro c w g h hn hg
    have graded : (s.bay.lastTurn c).gradeOf c = some g := hg
    apply completes_onTurn (exec_skGrade s c) h
    simp only [Nat.not_le.2 hn, if_false, graded]
    refine ⟨by simp [Bay.acted, Bay.step1, Bay.k, Bay.setK], Bay.acted_done_turned ?_ ?_, Bay.acted_done_keeps (l := [kKey c (dOf w)]) fun k hk => ?_⟩
    · simp [Bay.setK]
    · simp [Bay.setK]
    · simp only [List.mem_singleton] at hk
      simp [Bay.setK, hk]
  case ungraded =>
    intro c w h hn hg
    have ungraded : (s.bay.lastTurn c).gradeOf c = none := hg
    apply completes_onTurn (exec_skGrade s c) h
    simp only [Nat.not_le.2 hn, if_false, ungraded]
    refine ⟨by simp [Bay.acted, Bay.step1, Bay.k, Bay.setK], by simp [Bay.acted, Bay.step1, Bay.setK], Bay.acted_done_turned ?_ ?_,
      Bay.acted_done_keeps (l := [kKey c (dOf w), F.ENG_STAT_Z c]) fun k hk => ?_⟩
    · simp [Bay.setK]
    · simp [Bay.setK]
    · simp only [List.mem_cons, List.not_mem_nil, or_false, not_or] at hk
      obtain ⟨value, zero⟩ := hk
      simp [Bay.setK, value, zero]
  case mark =>
    intro c w h hm
    exact completes_onTurn_mark (exec_skMark s c) h hm
  case second =>
    intro c w h hm
    have edge : frameStart (s.bay.lastTurn c).now = frameStart s.bay.now := Bay.lastTurn_frameStart h.1
    apply completes_onTurn (exec_skMark s c) h
    rw [Bay.markOnce_second (by simpa [edge] using hm)]
    exact ⟨rfl, Bay.lastTurn_slots _ _, fun _ _ => Bay.lastTurn_rd _ _⟩
  case log =>
    intro c w h hm
    exact completes_onTurn_mark (exec_skLog s c) h hm
  case join =>
    intro c w h hg
    obtain ⟨state, wait⟩ := (s.bay.lastTurn c).joinsGroup_waits c (field w 0 4)
    obtain ⟨flag, group⟩ := (s.bay.lastTurn c).joinsGroup_names c (field w 0 4)
    have arrived := (s.bay.lastTurn c).joinsGroup_arrived c (field w 0 4)
    have node : (s.bay.lastTurn c).rdN F.BAY_NODE_ADDR = s.bay.rdN F.BAY_NODE_ADDR := congrArg Int.toNat (Bay.lastTurn_rd _ _)
    apply completes_onTurn (exec_skJoin s c) h
    simp only [Bay.lastTurn_groupHopeless, hg, if_false, Bool.false_eq_true]
    refine ⟨?_, ?_, ?_, ?_, ?_, Bay.acted_done_turned ?_ ?_⟩
    · simpa [Bay.acted, Bay.engState] using state
    · simpa using wait
    · simpa [Bay.acted] using flag
    · simpa [Bay.acted] using group
    · rw [← node]
      exact arrived
    · rw [Bay.atGroup_rd_eng _ _ _ rfl (by simp), Bay.lastTurn_rd, Int.add_zero]
    · simp [Bay.joinsGroup, Bay.atGroup_rd_eng]
  case hopeless =>
    intro c w h hg
    apply completes_onTurn (exec_skJoin s c) h
    simp only [Bay.lastTurn_groupHopeless, hg, if_true]
    exact (Bay.acted_freeze _ _).1
  case signal =>
    intro c w h hg
    have arrived := (s.bay.lastTurn c).arriveHere_arrived c (field w 0 4)
    have node : (s.bay.lastTurn c).rdN F.BAY_NODE_ADDR = s.bay.rdN F.BAY_NODE_ADDR := congrArg Int.toNat (Bay.lastTurn_rd _ _)
    apply completes_onTurn (exec_skSignal s c) h
    simp only [Bay.lastTurn_groupHopeless, hg, if_false, Bool.false_eq_true]
    refine ⟨?_, Bay.acted_done_turned (by simp) (by simp), Bay.acted_done_keeps (l := [F.GRP_STAT_ARRIVED (field w 0 4)]) fun k hk => ?_⟩
    · rw [← node]
      exact arrived
    · simp only [List.mem_singleton] at hk
      exact (Bay.arriveHere_rd_of_ne _ _ _ hk).trans (Bay.lastTurn_rd _ _)
  case donate =>
    intro c w h hok hf hq
    have permitted := Bay.tested_donate hok hf hq
    exact completes_onTurn_command (exec_skDonate s c) h (by simp only [Bay.lastTurn_tested, Bay.lastTurn_k, permitted])
  case legacy =>
    intro c w m h hr
    apply completes_onTurn (exec_skLegacy s c) h
    simp only [Bay.lastTurn_refOf, hr]
    exact ⟨by simp [Bay.step1], Bay.acted_done_turned (by simp) (by simp), Bay.acted_done_keeps (l := []) (fun _ _ => by simp)⟩

end Sys2Proof
end

section
/-! PROOFS. Trace lanes, the deadline clear, image loads and deletions: what each command leaves (R207, R212, R213, R262 to R264). -/

namespace Sys2Proof.Machine

/-! ## The meaning each row runs -/

section
variable (s : State) (n : Fin 4)

theorem exec_dlClr : exec .dlClr s = s.onBay (fun b => b.gated F.LOOP_CTL_DL_CLR Bay.dlClear) := rfl
theorem exec_arm : exec (.arm n) s = s.onBay (fun b => b.gated (F.TR_CTL_ARM n) (fun b => b.traceArm n)) := rfl
theorem exec_force : exec (.force n) s = s.onBay (fun b => b.gated (F.TR_CTL_FORCE n) (fun b => b.traceForce n)) := rfl
theorem exec_traceCaptureEnd : exec (.traceCaptureEnd n) s = execTraceCaptureEnd n s := rfl
theorem exec_traceCopyDone : exec (.traceCopyDone n) s = execTraceCopyDone n s := rfl
theorem exec_loadGo : exec .loadGo s = s.onBay Bay.loadGo := rfl
theorem exec_loadComplete : exec .loadComplete s = execLoadComplete s := rfl
theorem exec_delete : exec .delete s = s.onBay Bay.deleteImage := rfl

end

/-! ## The deadline clear (R264) -/

theorem Bay.dlClear_rd_of_ne (b : Bay) {k : Key} (hk : k ∉ [F.LOOP_STAT_DL, F.LOOP_DL_LAST_OBJ, F.LOOP_DL_LAST_LANE]) : b.dlClear.rd k = b.rd k := by
  simp only [List.mem_cons, List.not_mem_nil, or_false, not_or] at hk
  obtain ⟨missed, obj, lane⟩ := hk
  simp [Bay.dlClear, missed, obj, lane]

/-! ## Trace lanes (R262, R263) -/

/-- A lane that arms begins empty. -/
def Bay.armed (b : Bay) (n : Nat) : Bay :=
  (((((b.setFlag (F.TR_STAT_ARMED n) true).setFlag (F.TR_STAT_DONE n) false).setFlag (F.TR_STAT_TRIG n) false).setFlag (F.TR_STAT_THIN n) false).wr
    (F.TR_STAT_FILL n) 0).setTrace n { seq := (b.traceOf n).seq, region := (b.traceOf n).region }

section
variable {b : Bay} {n : Nat}

theorem Bay.traceArm_of_free (ha : b.flag (F.TR_STAT_ARMED n) = false) (hw : (b.traceOf n).waitCopy = false) (hu : b.traceUsed < traceRoom) :
    b.traceArm n = b.armed n := by
  simp [Bay.traceArm, ha, hw, Nat.not_le.2 hu, Bay.armed]

theorem Bay.traceArm_of_armed (ha : b.flag (F.TR_STAT_ARMED n) = true) : b.traceArm n = b.refuse (F.TR_CTL_ARM n) 4 := by
  simp [Bay.traceArm, ha]

theorem Bay.armed_rd_of_ne {k : Key}
    (hk : k ∉ [F.TR_STAT_ARMED n, F.TR_STAT_DONE n, F.TR_STAT_TRIG n, F.TR_STAT_THIN n, F.TR_STAT_FILL n]) : (b.armed n).rd k = b.rd k := by
  simp only [List.mem_cons, List.not_mem_nil, or_false, not_or] at hk
  obtain ⟨armed, done, trig, thin, fill⟩ := hk
  simp [Bay.armed, armed, done, trig, thin, fill]

/-- A lane that waits for its trigger is triggered at the start of the frame. -/
theorem Bay.traceForce_triggers (ha : b.flag (F.TR_STAT_ARMED n) = true) (hr : b.flag (F.TR_CTL_RING n) = false)
    (ht : (b.traceOf n).trigAt = none) :
    (b.traceForce n).rd (F.TR_STAT_TRIG n) = 1 ∧ ((b.traceForce n).traceOf n).trigAt = some (frameStart b.now) ∧
      ((b.traceForce n).traceOf n).postLeft = traceLen - b.rdN (F.TR_PRE_VAL n) ∧ ((b.traceForce n).traceOf n).forced = true ∧
      keepsRegs b (b.traceForce n) [F.TR_STAT_TRIG n] := by
  simp only [Bay.traceForce, ha, hr, ht, Bool.not_true, Bool.false_eq_true, if_false, if_true, Option.isNone_none]
  refine ⟨by simp, by simp, by simp, by simp, fun k hk => ?_⟩
  simp only [List.mem_singleton] at hk
  simp [hk]

theorem Bay.traceEnd_rd_of_ne {k : Key} (hk : k ≠ F.TR_STAT_ARMED n) : (b.traceEnd n).rd k = b.rd k := by
  simp [Bay.traceEnd, hk]

end

theorem exec_traceCaptureEnd_of_due {s : State} {n : Fin 4} (ha : s.bay.flag (F.TR_STAT_ARMED n) = true) (ht : (s.bay.traceOf n).trigAt ≠ none)
    (hp : (s.bay.traceOf n).postLeft = 0) : exec (.traceCaptureEnd n) s = s.onBay (·.traceEnd n) := by
  simp [exec_traceCaptureEnd, execTraceCaptureEnd, State.onBay, ha, hp, Option.isSome_iff_ne_none.2 ht]

/-- What every step of a fold leaves of the bay, the fold leaves. -/
theorem State.foldl_keeps {α β : Type} (g : Bay → β) {f : State → α → State} (h : ∀ s a, g (f s a).bay = g s.bay) (l : List α) (s : State) :
    g (l.foldl f s).bay = g s.bay := by
  induction l generalizing s with
  | nil => rfl
  | cons a l ih => exact (ih _).trans (h s a)

theorem State.foldl_fst_keeps {α β γ : Type} (g : Bay → β) {f : State × γ → α → State × γ} (h : ∀ s a, g (f s a).1.bay = g s.1.bay) (l : List α)
    (s : State × γ) : g (l.foldl f s).1.bay = g s.1.bay := by
  induction l generalizing s with
  | nil => rfl
  | cons a l ih => exact (ih _).trans (h s a)

theorem State.writeWords_traceOf (s : State) (x k a : Nat) (l : List Byte) (n : Nat) : (s.writeWords x k a l).bay.traceOf n = s.bay.traceOf n := by
  unfold State.writeWords
  dsimp only
  split <;> rfl

/-- The state with the capture of lane n in the trace region of every cartridge. -/
def State.copyCapture (s : State) (n a : Nat) : State := s.bay.carts.foldl (fun t x => t.writeWords x 0 a (s.bay.captureBytes n)) s

theorem State.copyCapture_traceOf (s : State) (n a : Nat) : (s.copyCapture n a).bay.traceOf n = s.bay.traceOf n :=
  State.foldl_keeps (·.traceOf n) (fun t x => State.writeWords_traceOf t x 0 a (s.bay.captureBytes n) n) _ s

theorem State.copyCapture_tame (s : State) (n a : Nat) : Tame s (s.copyCapture n a) :=
  Tame.foldl _ (fun t x => State.writeWords_tame t x 0 a _) _ s

theorem exec_traceCopyDone_of_room {s : State} {n : Fin 4} {a : Nat} (hw : (s.bay.traceOf n).waitCopy = true)
    (hc : s.bay.traceCredit n captureSize = true) (hp : s.bay.tracePlace = some a) :
    exec (.traceCopyDone n) s = (s.copyCapture n a).onBay (·.traceCopied n a captureSize) := by
  simp only [exec_traceCopyDone, execTraceCopyDone, hw, hc, hp, Bool.and_self, if_true]
  rfl

theorem Bay.traceCopied_done (b : Bay) (n a len : Nat) : (b.traceCopied n a len).rd (F.TR_STAT_DONE n) = 1 := by
  simp [Bay.traceCopied]

theorem Bay.traceCopied_traceOf (b : Bay) (n a len : Nat) : (b.traceCopied n a len).traceOf n =
    { b.traceOf n with waitCopy := false, recs := [], header := [], seq := (b.traceOf n).seq + 1, region := (b.traceOf n).region ++ [(a, len)] } := by
  simp [Bay.traceCopied]

/-! ## Loads (R207, R212) -/

section
variable {b : Bay} (hg : b.gate F.SKN_LOAD_CTL_GO = none)
include hg

theorem Bay.loadGo_of_idle (hb : b.flag F.SKN_LOAD_STAT_BUSY = false) (hf : b.flag F.TRU_FWU_STAT_BUSY = false) :
    b.loadGo = { b.setFlag F.SKN_LOAD_STAT_BUSY true with trust := { b.trust with load := b.rdN F.SKN_LOAD_LEN } } := by
  rw [Bay.loadGo, Bay.gated_open hg]
  simp [hb, hf]

theorem Bay.loadGo_of_busy (hb : b.flag F.SKN_LOAD_STAT_BUSY = true) : b.loadGo = b.refuse F.SKN_LOAD_CTL_GO 4 := by
  rw [Bay.loadGo, Bay.gated_open hg]
  simp [hb]

end

theorem Bay.loadResult_result (b : Bay) (k : Key) (r : Nat) (id : Int) : (b.loadResult k r id).rd F.SKN_LOAD_STAT_RESULT = r := by
  simp only [Bay.loadResult]
  repeat' split
  all_goals simp

@[simp] theorem Bay.loadResult_images (b : Bay) (k : Key) (r : Nat) (id : Int) : (b.loadResult k r id).images = b.images := by
  simp only [Bay.loadResult]
  repeat' split
  all_goals simp

/-- An image that is stored is in the store. -/
theorem Bay.mem_storeImage (b : Bay) (m : Image) : m ∈ (b.storeImage m).images := by
  simp only [Bay.storeImage, Bay.storeRegs]
  repeat' split
  all_goals simp

theorem Bay.correction_images (b : Bay) (x k w syn : Nat) : (b.correction x k w syn).images = b.images := by
  simp only [Bay.correction]
  repeat' split
  all_goals simp

theorem Bay.seeErr_images (b : Bay) (x k w master acc : Nat) (e : Option WordErr) : (b.seeErr x k w master acc e).images = b.images := by
  match e with
  | none => rfl
  | some (.single syn) => exact Bay.correction_images b x k w syn
  | some .double => simp [Bay.seeErr, Bay.uncorrectable]
  | some .poison => simp [Bay.seeErr, Bay.uncorrectable]

theorem State.writeWords_images (s : State) (x k a : Nat) (l : List Byte) : (s.writeWords x k a l).bay.images = s.bay.images := by
  unfold State.writeWords
  dsimp only
  split <;> rfl

theorem State.mergeWrite_images (s : State) (x k a master acc : Nat) (l : List Byte) : (s.mergeWrite x k a master acc l).1.bay.images = s.bay.images := by
  refine State.foldl_fst_keeps Bay.images (fun st i => ?_) _ (s, true)
  dsimp only
  repeat' split
  · exact State.writeWords_images _ _ _ _ _
  · exact Bay.seeErr_images _ _ _ _ _ _ _
  · exact Bay.seeErr_images _ _ _ _ _ _ _

theorem State.placeImage_images (s : State) (m : Image) (l : List Byte) : (s.placeImage m l).bay.images = s.bay.images :=
  State.foldl_keeps Bay.images (fun s x => State.mergeWrite_images s x _ _ _ _ _) _ s

theorem State.placeImage_rd (s : State) (m : Image) (l : List Byte) {k : Key} (hk : k.grp ∉ [.mem] ∧ k.loc ∉ [F.EVT_STAT_LOST.loc]) :
    (s.placeImage m l).bay.rd k = s.bay.rd k :=
  State.foldl_rd _ (fun s x => State.mergeWrite_rd s x _ _ _ _ _ hk) _ s

/-- A load of result `r` has ended, with the image `i` stored if it is a program or a table. -/
def Bay.loadEnded (b : Bay) (r : Nat) (i : Option Image) : Prop :=
  b.rd F.SKN_LOAD_STAT_BUSY = 0 ∧ b.rd F.SKN_LOAD_STAT_RESULT = r ∧ ∀ m, i = some m → m.kind ≠ 6 → m ∈ b.images

/-- The bay as verification ends, before its result is shown (R212). -/
def Bay.loadNamed (b : Bay) (l : List Byte) : Bay :=
  ((b.setFlag F.SKN_LOAD_STAT_BUSY false).wr F.SKN_LOAD_ID (u32At l 4 : Nat)).wr F.SKN_LOAD_STAT_KIND (byteAt l 2 % 8 : Nat)

theorem Bay.loadNamed_idle (b : Bay) (l : List Byte) : (b.loadNamed l).rd F.SKN_LOAD_STAT_BUSY = 0 := by
  simp [Bay.loadNamed]

section
variable {b : Bay} (hb : b.rd F.SKN_LOAD_STAT_BUSY = 0) (r : Nat) (id : Int)
include hb

theorem Bay.loadEnded_of_refused : (b.loadResult F.SKN_LOAD_CTL_GO r id).loadEnded r none :=
  ⟨by simp [hb], Bay.loadResult_result _ _ _ _, by simp⟩

theorem Bay.loadEnded_of_safety {m : Image} (digest : List Byte) (hm : m.kind = 6) :
    ((b.pendSafety m digest).loadResult F.SKN_LOAD_CTL_GO r id).loadEnded r (some m) :=
  ⟨by simp [hb], Bay.loadResult_result _ _ _ _, fun _ e h => absurd (Option.some.inj e ▸ hm) h⟩

theorem State.loadEnded_of_stored (s : State) (m : Image) (l : List Byte) :
    ({ s with bay := (b.storeImage m).loadResult F.SKN_LOAD_CTL_GO r id }.placeImage m l).bay.loadEnded r (some m) := by
  refine ⟨?_, ?_, fun x e _ => ?_⟩
  · rw [State.placeImage_rd _ _ _ (by decide)]
    simp [hb]
  · rw [State.placeImage_rd _ _ _ (by decide)]
    exact Bay.loadResult_result _ _ _ _
  · rw [State.placeImage_images, ← Option.some.inj e, Bay.loadResult_images]
    exact Bay.mem_storeImage _ _

end

theorem exec_loadComplete_ends {s t : State} (hb : s.bay.flag F.SKN_LOAD_STAT_BUSY = true) (ht : exec .loadComplete s = .next t) :
    t.bay.loadEnded (if (s.verifyAll s.bay.trust.load).2.1 = 99 then 1 else (s.verifyAll s.bay.trust.load).2.1) (s.verifyAll s.bay.trust.load).2.2.1 := by
  simp only [exec_loadComplete, execLoadComplete, hb, Bool.not_true, Bool.false_eq_true, if_false] at ht
  generalize s.verifyAll s.bay.trust.load = v at ht ⊢
  obtain ⟨u, res, image, l⟩ := v
  have idle := u.bay.loadNamed_idle l
  cases image with
  | none =>
    obtain rfl := Host.Outcome.next.inj ht
    exact Bay.loadEnded_of_refused idle _ _
  | some m =>
    by_cases safety : m.kind = 6
    · simp only [safety, if_true] at ht
      obtain rfl := Host.Outcome.next.inj ht
      exact Bay.loadEnded_of_safety idle _ _ _ safety
    · simp only [safety, if_false] at ht
      obtain rfl := Host.Outcome.next.inj ht
      exact State.loadEnded_of_stored idle _ _ u m _

/-! ## Deletions (R213) -/

section
variable {b : Bay} {m : Image} (hg : b.gate F.SKN_LOAD_CTL_DELETE = none) (hb : b.flag F.SKN_LOAD_STAT_BUSY = false)
  (hm : b.imageOf (b.rd F.SKN_DEL_ID) = some m)
include hg hb hm

theorem Bay.deleteImage_of_unused (hu : b.idInUse (b.rd F.SKN_DEL_ID) = false) :
    b.deleteImage = (b.dropImage (b.rd F.SKN_DEL_ID)).loadResult F.SKN_LOAD_CTL_DELETE 0 (b.rd F.SKN_DEL_ID) := by
  rw [Bay.deleteImage, Bay.gated_open hg]
  simp [hb, hm, hu]

theorem Bay.deleteImage_of_used (hu : b.idInUse (b.rd F.SKN_DEL_ID) = true) :
    b.deleteImage = b.loadResult F.SKN_LOAD_CTL_DELETE 8 (b.rd F.SKN_DEL_ID) := by
  rw [Bay.deleteImage, Bay.gated_open hg]
  simp [hb, hm, hu]

end

theorem Bay.dropImage_drops (b : Bay) (id : Int) : ∀ x ∈ (b.dropImage id).images, x.id ≠ id := by
  intro x hx
  simp only [Bay.dropImage, Bay.storeRegs, Bay.wr_images] at hx
  split at hx <;> simpa using (List.mem_filter.1 hx).2

end Sys2Proof.Machine

namespace Sys2Proof

open Sys2Proof.Machine

/-- Settles O21: an open gate gives each command its own effect, and neither the copies to the cartridges nor their reads change the lane, the directory or the result. -/
theorem traceImagesAndDeadlineClear : Obligations.TraceImagesAndDeadlineClear := by
  unfold Obligations.TraceImagesAndDeadlineClear
  intro s
  refine ⟨?clear, ?arm, ?armRefused, ?force, ?captureEnd, ?copyDone, ?load, ?loadBusy, ?loadComplete, ?delete, ?deleteUsed⟩
  case clear =>
    intro hg
    apply completes_onBay (exec_dlClr s)
    rw [Bay.gated_open hg]
    exact ⟨by simp [Bay.dlClear], by simp [Bay.dlClear], by simp [Bay.dlClear], Bay.dlClear_rd_of_ne _ (by decide), fun _ => Bay.dlClear_rd_of_ne _⟩
  case arm =>
    intro n hg ha hw hu
    apply completes_onBay (exec_arm s n)
    rw [Bay.gated_open hg, Bay.traceArm_of_free ha hw hu]
    exact ⟨by simp [Bay.armed], by simp [Bay.armed], by simp [Bay.armed], by simp [Bay.armed], by simp [Bay.armed], by simp [Bay.armed],
      fun _ => Bay.armed_rd_of_ne⟩
  case armRefused =>
    intro n hg ha
    apply completes_onBay (exec_arm s n)
    rw [Bay.gated_open hg, Bay.traceArm_of_armed ha]
  case force =>
    intro n hg ha hr ht
    apply completes_onBay (exec_force s n)
    rw [Bay.gated_open hg]
    exact Bay.traceForce_triggers ha hr ht
  case captureEnd =>
    intro n ha ht hp
    refine completes_onBay (exec_traceCaptureEnd_of_due ha ht hp) ⟨by simp [Bay.traceEnd], by simp [Bay.traceEnd], fun k hk => ?_⟩
    exact Bay.traceEnd_rd_of_ne (by simpa using hk)
  case copyDone =>
    intro n a hw hc hp
    refine ⟨_, exec_traceCopyDone_of_room hw hc hp, (s.copyCapture_tame n a).1, Bay.traceCopied_done _ _ _ _, ?_⟩
    have lane := (s.copyCapture n a).bay.traceCopied_traceOf n a captureSize
    rw [s.copyCapture_traceOf n a] at lane
    simp [lane]
  case load =>
    intro hg hb hf
    apply completes_onBay (exec_loadGo s)
    rw [Bay.loadGo_of_idle hg hb hf]
    refine ⟨by simp, rfl, fun k hk => ?_⟩
    simp only [List.mem_singleton] at hk
    simp [hk]
  case loadBusy =>
    intro hg hb
    exact completes_onBay (exec_loadGo s) (Bay.loadGo_of_busy hg hb)
  case loadComplete =>
    intro hb
    obtain ⟨t, ht, tame⟩ := execLoadComplete_goes s
    obtain ⟨idle, result, stored⟩ := exec_loadComplete_ends hb ht
    exact ⟨t, ht, tame.1, idle, result, stored⟩
  case delete =>
    intro m hg hb hm hu
    apply completes_onBay (exec_delete s)
    rw [Bay.deleteImage_of_unused hg hb hm hu, Bay.loadResult_images]
    exact ⟨Bay.dropImage_drops _ _, Bay.loadResult_result _ _ _ _⟩
  case deleteUsed =>
    intro m hg hb hm hu
    apply completes_onBay (exec_delete s)
    rw [Bay.deleteImage_of_used hg hb hm hu, Bay.loadResult_images]
    exact ⟨rfl, Bay.loadResult_result _ _ _ _⟩

end Sys2Proof
end

section
/-! PROOFS. The heartbeat of a rim in QUARANTINE (R423, R471). -/

namespace Sys2Proof.Machine

theorem exec_rimHeartbeatSend (s : State) : exec .rimHeartbeatSend s =
    s.onBay (fun b => if b.activeRim then b.originate "HEARTBEAT" 0 0xFF [b.rd F.BAY_SERIAL, b.rd F.WVE_RIM_CFG_ROLE] none else b) := rfl

/-- A stake in QUARANTINE originates no heartbeat (R471). -/
theorem Bay.originate_heartbeat_of_quarantine {b : Bay} (hm : b.mode = Mode.quarantine) (cls dst : Nat) (words : List Int) (rim : Option (Nat × Int)) :
    b.originate "HEARTBEAT" cls dst words rim = b := by
  simp [Bay.originate, hm]

end Sys2Proof.Machine

namespace Sys2Proof

open Sys2Proof.Machine

/-- A rim in QUARANTINE stays silent. -/
theorem completes_rimHeartbeatSend_of_quarantine {s : State} (hm : s.bay.mode = Mode.quarantine) :
    completes .rimHeartbeatSend s (fun b => b.out = s.bay.out) := by
  apply completes_onBay (exec_rimHeartbeatSend s)
  rw [Bay.originate_heartbeat_of_quarantine hm, ite_self]

/-- Refutes O34: its clause on RIM_HEARTBEAT_SEND (R423) asks only for an active rim that is bound, where R471 (log entry 85) lets a stake in QUARANTINE originate no heartbeats. The rim below is active, bound and in QUARANTINE, and sends nothing. -/
theorem not_weaveEventsAndRim : ¬ Obligations.WeaveEventsAndRim := by
  unfold Obligations.WeaveEventsAndRim
  intro h
  let s : State := { bay := { regs := [(F.BAY_STAT_MODE, Mode.quarantine), (F.WVE_STAT_RIM, 1), (F.WVE_STAT_BOUND, 1)] } }
  obtain ⟨-, -, -, -, -, -, -, heartbeat, -⟩ := h s
  obtain ⟨b, ⟨sent, -⟩, silent⟩ := completes_both
    (heartbeat (by decide) (by decide)) (completes_rimHeartbeatSend_of_quarantine (s := s) (by decide))
  exact absurd (sent.symm.trans silent) (by simp)

end Sys2Proof
end

section
/-! PROOFS. The ten bits of BAY.CMD and the read of STOP_CAUSE (R383, R389, R404). -/

namespace Sys2Proof.Machine

/-! ## The meaning each row runs -/

section
variable (s : State)

theorem exec_attOk : exec .attOk s = s.onBay (·.bayCmd 0) := rfl
theorem exec_calDone : exec .calDone s = s.onBay (·.bayCmd 1) := rfl
theorem exec_calibrate : exec .calibrate s = s.onBay (·.bayCmd 2) := rfl
theorem exec_hold : exec .hold s = s.onBay (·.bayCmd 3) := rfl
theorem exec_resume : exec .resume s = s.onBay (·.bayCmd 4) := rfl
theorem exec_service : exec .service s = s.onBay (·.bayCmd 5) := rfl
theorem exec_exitSvc : exec .exitSvc s = s.onBay (·.bayCmd 6) := rfl
theorem exec_recover : exec .recover s = s.onBay (·.bayCmd 7) := rfl
theorem exec_stop : exec .stop s = s.onBay (·.bayCmd 8) := rfl
theorem exec_attRej : exec .attRej s = s.onBay (·.bayCmd 9) := rfl
theorem exec_stopCauseRead : exec .stopCauseRead s = execStopCauseRead s := rfl

end

/-! ## A bit of BAY.CMD whose write nothing refuses (R383, R404) -/

section
variable {b : Bay} {n : Nat} (hg : b.gate (cmdKey n) = none)
include hg

/-- A command that the mode in force does not accept. -/
theorem Bay.bayCmd_of_refusal {r : Int} (hr : b.cmdRefusal n = some r) : b.bayCmd n = b.refuse (cmdKey n) r := by
  simp [Bay.bayCmd, Bay.gated_open hg, hr]

/-- A command other than STOP and ATT_REJ while another waits. -/
theorem Bay.bayCmd_of_waiting {m : Nat} (hr : b.cmdRefusal n = none) (hn : n < 8) (hw : b.modeSt.cmd = some m) :
    b.bayCmd n = b.refuse (cmdKey n) 4 := by
  simp [Bay.bayCmd, Bay.gated_open hg, hr, hw, hn]

/-- A command that is accepted waits for the frame edge. -/
theorem Bay.bayCmd_of_accepted (hr : b.cmdRefusal n = none) (hw : b.modeSt.cmd = none ∨ 8 ≤ n) :
    b.bayCmd n = b.setModeSt { b.modeSt with cmd := some n } := by
  rcases hw with idle | replaces
  · simp [Bay.bayCmd, Bay.gated_open hg, hr, idle]
  · simp [Bay.bayCmd, Bay.gated_open hg, hr, Nat.not_lt.2 replaces]

end

end Sys2Proof.Machine

namespace Sys2Proof

open Sys2Proof.Machine

/-- Settles O25: what `cmdRefusal` says of each bit in the mode at hand decides between the command that waits and the refusal. -/
theorem bayCommands : Obligations.BayCommands := by
  unfold Obligations.BayCommands
  intro s
  refine ⟨?attOk, ?calDone, ?calibrate, ?hold, ?resume, ?service, ?exitSvc, ?recover, ?stop, ?attRej, ?resumeRideThrough, ?recoverUnread,
    ?second, ?causeRead⟩
  case attOk =>
    intro hg hm hq hp hc
    have accepted : s.bay.cmdRefusal 0 = none := by simp [Bay.cmdRefusal, hm, hq, hp]
    exact completes_onBay (exec_attOk s) (Bay.bayCmd_of_accepted hg accepted (.inl hc))
  case calDone =>
    intro hg hm hr hc
    have accepted : s.bay.cmdRefusal 1 = none := by simp [Bay.cmdRefusal, hm, hr]
    exact completes_onBay (exec_calDone s) (Bay.bayCmd_of_accepted hg accepted (.inl hc))
  case calibrate =>
    intro hg hm hc
    have accepted : s.bay.cmdRefusal 2 = none := by simp [Bay.cmdRefusal, hm]
    exact completes_onBay (exec_calibrate s) (Bay.bayCmd_of_accepted hg accepted (.inl hc))
  case hold =>
    intro hg hm hc
    have accepted : s.bay.cmdRefusal 3 = none := by rcases hm with hm | hm | hm <;> simp [Bay.cmdRefusal, hm]
    exact completes_onBay (exec_hold s) (Bay.bayCmd_of_accepted hg accepted (.inl hc))
  case resume =>
    intro hg hm hrt hc
    have accepted : s.bay.cmdRefusal 4 = none := by simp [Bay.cmdRefusal, hm, hrt]
    exact completes_onBay (exec_resume s) (Bay.bayCmd_of_accepted hg accepted (.inl hc))
  case service =>
    intro hg hm he hc
    have accepted : s.bay.cmdRefusal 5 = none := by
      have stopped : (allChans.all fun c => !s.bay.engRuns c) = true := by simpa using he
      rcases hm with hm | hm | hm <;> simp [Bay.cmdRefusal, hm, stopped]
    exact completes_onBay (exec_service s) (Bay.bayCmd_of_accepted hg accepted (.inl hc))
  case exitSvc =>
    intro hg hm hc
    have accepted : s.bay.cmdRefusal 6 = none := by simp [Bay.cmdRefusal, hm]
    exact completes_onBay (exec_exitSvc s) (Bay.bayCmd_of_accepted hg accepted (.inl hc))
  case recover =>
    intro hg hm ha hl hc
    have accepted : s.bay.cmdRefusal 7 = none := by simp [Bay.cmdRefusal, hm, ha, hl]
    exact completes_onBay (exec_recover s) (Bay.bayCmd_of_accepted hg accepted (.inl hc))
  case stop =>
    exact fun hg => completes_onBay (exec_stop s) (Bay.bayCmd_of_accepted hg rfl (.inr (Nat.le_refl 8)))
  case attRej =>
    intro hg hm
    have accepted : s.bay.cmdRefusal 9 = none := by simp [Bay.cmdRefusal, hm]
    exact completes_onBay (exec_attRej s) (Bay.bayCmd_of_accepted hg accepted (.inr (by decide)))
  case resumeRideThrough =>
    intro hg hm hrt
    have refused : s.bay.cmdRefusal 4 = some 4 := by simp [Bay.cmdRefusal, hrt]
    exact completes_onBay (exec_resume s) (Bay.bayCmd_of_refusal hg refused)
  case recoverUnread =>
    intro hg hm ha
    have refused : s.bay.cmdRefusal 7 = some 5 := by simp [Bay.cmdRefusal, hm, ha]
    exact completes_onBay (exec_recover s) (Bay.bayCmd_of_refusal hg refused)
  case second =>
    intro n hg hm hc
    have accepted : s.bay.cmdRefusal 2 = none := by simp [Bay.cmdRefusal, hm]
    exact completes_onBay (exec_calibrate s) (Bay.bayCmd_of_waiting hg accepted (by decide) hc)
  case causeRead =>
    intro hm
    apply completes_onBay (exec_stopCauseRead s)
    simp +contextual [Bay.onlyIf, hm, keepsRegs]

end Sys2Proof
end

section
/-! PROOFS. Skein instructions: the condition codes (R221), the second operand (R218), MOV (R223), the instructions that move the PC (R224), and a reserved opcode outside its turn (R196, R222). -/

namespace Sys2Proof.Machine

/-! ## The meaning each row runs -/

section
variable (s : State) (c : Fin 64)

theorem exec_skMov : exec (.skMov c) s = execSkMov c s := rfl
theorem exec_skAdd : exec (.skAdd c) s = execSkAdd c s := rfl
theorem exec_skSub : exec (.skSub c) s = execSkSub c s := rfl
theorem exec_skMin : exec (.skMin c) s = execSkMin c s := rfl
theorem exec_skMax : exec (.skMax c) s = execSkMax c s := rfl
theorem exec_skCmp : exec (.skCmp c) s = execSkCmp c s := rfl
theorem exec_skBr : exec (.skBr c) s = execSkBr c s := rfl
theorem exec_skCall : exec (.skCall c) s = execSkCall c s := rfl
theorem exec_skRet : exec (.skRet c) s = execSkRet c s := rfl
theorem exec_skLoop : exec (.skLoop c) s = execSkLoop c s := rfl
theorem exec_reservedOpcode : exec (.reservedOpcode c) s = execReservedOpcode c s := rfl

end

/-! ## What an instruction reads in its turn is what stood before it (R196) -/

section
variable (b : Bay) (c w : Nat)

@[simp] theorem Bay.lastTurn_rdN (k : Key) : (b.lastTurn c).rdN k = b.rdN k := congrArg Int.toNat (Bay.lastTurn_rd b c)
@[simp] theorem Bay.lastTurn_flag (k : Key) : (b.lastTurn c).flag k = b.flag k := congrArg (· != 0) (Bay.lastTurn_rd b c)
@[simp] theorem Bay.lastTurn_evt : ((b.lastTurn c).engOf c).evt = (b.engOf c).evt := by rw [Bay.lastTurn_engOf]
@[simp] theorem Bay.lastTurn_sees (k : Key) : (b.lastTurn c).sees k = b.sees k := rfl

@[simp] theorem Bay.lastTurn_codeOf : (b.lastTurn c).codeOf c = b.codeOf c := by
  simp only [Bay.codeOf, Bay.lastTurn_image]
  rfl

@[simp] theorem Bay.lastTurn_constsOf : (b.lastTurn c).constsOf c = b.constsOf c := by
  simp only [Bay.constsOf, Bay.lastTurn_image]
  rfl

@[simp] theorem Bay.lastTurn_condition (cc : Nat) : (b.lastTurn c).condition c cc = b.condition c cc := by
  simp only [Bay.condition, Bay.lastTurn_flag, Bay.lastTurn_sees, Bay.lastTurn_evt, Bay.lastTurn_rdN]

@[simp] theorem Bay.lastTurn_movIndex : (b.lastTurn c).movIndex c w = b.movIndex c w := by
  simp only [Bay.movIndex, Bay.lastTurn_k]

theorem Bay.lastTurn_secondOperand {v : Int} : secondOperand (b.lastTurn c) c w v ↔ secondOperand b c w v := by
  simp only [secondOperand, Bay.lastTurn_k]

end

/-! ## How the turn ends (R205, R217) -/

section
variable {b : Bay} {c : Nat}

/-- A freeze shows its cause and DETAIL, and writes no register but its own. -/
theorem Bay.acted_freeze_only (cause : Nat) (detail : Int) :
    frozenBy (b.acted c (.freeze cause detail)) c cause (detail % 65536) ∧ keepsRegs b (b.acted c (.freeze cause detail)) (frozenKeys c) := by
  refine ⟨(Bay.acted_freeze cause detail).1, fun k hk => ?_⟩
  simp only [frozenKeys, List.mem_cons, List.not_mem_nil, or_false, not_or] at hk
  obtain ⟨state, active, cause, detail, armed, -⟩ := hk
  simp [Bay.acted, Bay.freeze, Bay.setEngState, state, active, cause, detail, armed]

/-- A turn that only moves the PC. -/
theorem Bay.acted_moves {pc n : Int} (hpc : pc = b.rd (F.ENG_PC c) + n) :
    turned b (b.acted c (.done (b.lastTurn c) pc)) c n ∧ keepsRegs b (b.acted c (.done (b.lastTurn c) pc)) [F.ENG_PC c, F.ENG_TURNS c] :=
  ⟨Bay.acted_done_turned hpc (Bay.lastTurn_rd _ _), Bay.acted_done_keeps (l := []) fun _ _ => Bay.lastTurn_rd _ _⟩

/-- A turn that writes k_D and moves the PC. -/
theorem Bay.acted_setK (w : Nat) (v : Int) {pc n : Int} (hpc : pc = b.rd (F.ENG_PC c) + n) :
    (b.acted c (.done ((b.lastTurn c).setK c (dOf w) v) pc)).k c (dOf w) = v ∧
      turned b (b.acted c (.done ((b.lastTurn c).setK c (dOf w) v) pc)) c n ∧
      keepsRegs b (b.acted c (.done ((b.lastTurn c).setK c (dOf w) v) pc)) [kKey c (dOf w), F.ENG_PC c, F.ENG_TURNS c] := by
  refine ⟨by simp [Bay.acted, Bay.k, Bay.setK], Bay.acted_done_turned hpc (by simp [Bay.setK]), Bay.acted_done_keeps (l := [kKey c (dOf w)]) fun k hk => ?_⟩
  simp only [List.mem_singleton] at hk
  simp [Bay.setK, hk]

/-- The same at the end of an instruction of one word. -/
theorem Bay.acted_setK_step1 (w : Nat) (v : Int) :
    (b.acted c (((b.lastTurn c).setK c (dOf w) v).step1 c)).k c (dOf w) = v ∧
      turned b (b.acted c (((b.lastTurn c).setK c (dOf w) v).step1 c)) c 1 ∧
      keepsRegs b (b.acted c (((b.lastTurn c).setK c (dOf w) v).step1 c)) [kKey c (dOf w), F.ENG_PC c, F.ENG_TURNS c] :=
  Bay.acted_setK w v (by simp [Bay.setK])

/-! A branch target within the code section, and one outside it. -/

theorem Bay.branchTo_of_within {w : Nat} {b' : Bay} (h0 : 0 ≤ b.rd (F.ENG_PC c) + sextOf w)
    (h1 : b.rd (F.ENG_PC c) + sextOf w < (b.codeOf c).length) :
    (b.lastTurn c).branchTo c w b' = .done b' (b.rd (F.ENG_PC c) + sextOf w) := by
  simp [Bay.branchTo, h0, h1]

theorem Bay.branchTo_of_outside {w : Nat} {b' : Bay}
    (h : b.rd (F.ENG_PC c) + sextOf w < 0 ∨ (b.codeOf c).length ≤ b.rd (F.ENG_PC c) + sextOf w) :
    (b.lastTurn c).branchTo c w b' = .freeze 3 (b.rd (F.ENG_PC c) + sextOf w) := by
  have outside : ¬ (0 ≤ b.rd (F.ENG_PC c) + sextOf w ∧ b.rd (F.ENG_PC c) + sextOf w < (b.codeOf c).length) := by omega
  simp only [Bay.branchTo, Bay.lastTurn_rd, Bay.lastTurn_codeOf, outside, if_false]

end

/-! ## The second operand (R218) -/

/-- A number read with a sign of 18 bits fits 32. -/
theorem sextOf_bounds (w : Nat) : -2147483648 ≤ sextOf w ∧ sextOf w ≤ 2147483647 := by
  simp only [sextOf, asSigned]
  omega

theorem Bay.sumB_of_secondOperand {b : Bay} {c w : Nat} {v : Int} (h : secondOperand b c w v) : b.sumB c w = v := by
  rcases h with ⟨two, sum, -⟩ | ⟨one, sum⟩
  · simp [Bay.sumB, two, sum]
  · simp [Bay.sumB, one, sum]

theorem Bay.operandB_of_secondOperand {b : Bay} {c w : Nat} {v : Int} (h : secondOperand b c w v) : b.operandB c w = (v, b) := by
  have fits : -2147483648 ≤ v ∧ v ≤ 2147483647 := by
    rcases h with ⟨-, -, bounds⟩ | ⟨-, immediate⟩
    · exact bounds
    · exact immediate ▸ sextOf_bounds w
  simp [Bay.operandB, Bay.sumB_of_secondOperand h, fits]

section
variable (b b' : Bay) (c w : Nat)

theorem Bay.acted_result_k (v : Int) (carry : Bool) : (b.acted c (b'.result c w v carry)).k c (dOf w) = v := by
  simp [Bay.acted, Bay.result, Bay.step1, Bay.k, Bay.setK, Bay.setZN, Bay.setC]

theorem Bay.acted_resultZN_k (v : Int) : (b.acted c (b'.resultZN c w v)).k c (dOf w) = v := by
  simp [Bay.acted, Bay.resultZN, Bay.step1, Bay.k, Bay.setK, Bay.setZN]

/-- A compare leaves the registers k0 to k15 and shows equal in Z and signed less in N. -/
theorem Bay.acted_compare (x y : Int) (carry : Bool) :
    (b.acted c (b'.compare c x y carry)).k c (dOf w) = b'.k c (dOf w) ∧
      (b.acted c (b'.compare c x y carry)).flag (F.ENG_STAT_Z c) = decide (x = y) ∧
      (b.acted c (b'.compare c x y carry)).flag (F.ENG_STAT_N c) = decide (x < y) := by
  refine ⟨?_, ?_, ?_⟩
  · simp [Bay.acted, Bay.compare, Bay.step1, Bay.k, Bay.setC]
  · by_cases equal : x = y <;> simp [Bay.acted, Bay.compare, Bay.step1, Bay.flag, Bay.setC, equal]
  · by_cases less : x < y <;> simp [Bay.acted, Bay.compare, Bay.step1, Bay.flag, Bay.setC, less]

end

/-! ## MOV (R223) -/

theorem Bay.movIndex_eq (b : Bay) (c w : Nat) :
    b.movIndex c w = w % 4096 + (if w.testBit 12 then (b.k c (sOf w) % 4294967296).toNat else 0) := by
  have indexed : (immOf w).testBit 12 = w.testBit 12 := by
    rw [immOf, field, Nat.pow_zero, Nat.div_one, Nat.testBit_mod_two_pow]
    simp
  simp [Bay.movIndex, indexed, field]

/-- A negative index register reads as 2³¹ or more. -/
theorem Bay.movIndex_of_negative {b : Bay} {c w : Nat} (hi : w.testBit 12) (hn : b.k c (sOf w) < 0) (hl : -2147483648 ≤ b.k c (sOf w)) :
    2147483648 ≤ b.movIndex c w := by
  rw [Bay.movIndex_eq, if_pos hi]
  omega

/-- The index is past what the MOV's selector addresses: the scratch memory, or the constants. -/
def Bay.movBeyond (b : Bay) (c w : Nat) : Prop :=
  (field w 16 2 = 1 ∨ field w 16 2 = 2) ∧ 255 < b.movIndex c w ∨ field w 16 2 = 3 ∧ (b.constsOf c).length ≤ b.movIndex c w

section
variable {b : Bay} {c w : Nat} (hw : b.fetch c = some w)
include hw

/-- Only a MOV from the constants reads a second word. -/
theorem Bay.movWord_of_selector (hf : field w 16 2 ≠ 3) : b.movWord c = none := by simp [Bay.movWord, hw, hf]

theorem Bay.movWord_of_beyond (hx : b.movBeyond c w) : b.movWord c = none := by
  rcases hx with ⟨scratch, -⟩ | ⟨-, past⟩
  · exact Bay.movWord_of_selector hw (by omega)
  · simp [Bay.movWord, hw, past]

theorem Bay.movWord_of_const (ho : opOf w = 0x06) (hf : field w 16 2 = 3) {v : Nat} (hv : (b.constsOf c)[b.movIndex c w]? = some v) :
    b.movWord c = some ((b.codeOf c).length + b.movIndex c w) := by
  obtain ⟨within, -⟩ := List.getElem?_eq_some_iff.1 hv
  simp [Bay.movWord, hw, ho, hf, within]

end

/-! ## A turn that is not due (R196) -/

theorem State.engRead_of_not_due {s : State} {c : Nat} (h : s.bay.turnDue c = false) (i acc : Nat) : s.engRead c i acc = (s, false) := by
  simp [State.engRead, h]

theorem State.fetchRead_of_not_due {s : State} {c : Nat} (h : s.bay.turnDue c = false) : s.fetchRead c = (s, false) := by
  simp [State.fetchRead, State.engRead_of_not_due h]

theorem exec_reservedOpcode_of_not_due {s : State} {c : Fin 64} (h : s.bay.turnDue c = false) : exec (.reservedOpcode c) s = .next s := by
  rw [exec_reservedOpcode]
  simp [execReservedOpcode, State.fetchRead_of_not_due h, State.onBay, Bay.turn, h]

end Sys2Proof.Machine

namespace Sys2Proof

open Sys2Proof.Machine

/-- Settles O50: each code of the table reads the flags it names. -/
theorem conditionCodes : Obligations.ConditionCodes := by
  unfold Obligations.ConditionCodes
  intro s c
  simp only [Bay.condition, and_self]

/-- Settles O46: where the sum fits 32 bits B is that sum, and each of the five instructions takes it. -/
theorem skeinSecondOperand : Obligations.SkeinSecondOperand := by
  unfold Obligations.SkeinSecondOperand
  intro s
  have operand : ∀ {c w : Nat} {v : Int}, secondOperand s.bay c w v → (s.bay.lastTurn c).operandB c w = (v, s.bay.lastTurn c) :=
    fun hB => Bay.operandB_of_secondOperand ((Bay.lastTurn_secondOperand _ _ _).2 hB)
  have sum : ∀ {c w : Nat} {v : Int}, secondOperand s.bay c w v → (s.bay.lastTurn c).sumB c w = v :=
    fun hB => Bay.sumB_of_secondOperand ((Bay.lastTurn_secondOperand _ _ _).2 hB)
  refine ⟨?add, ?sub, ?min, ?max, ?cmp⟩
  case add =>
    intro c w v h hB
    apply completes_onTurn (exec_skAdd s c) h
    simp only [Bay.acted_result_k, sum hB, Bay.lastTurn_k]
  case sub =>
    intro c w v h hB
    apply completes_onTurn (exec_skSub s c) h
    simp only [Bay.acted_result_k, sum hB, Bay.lastTurn_k]
  case min =>
    intro c w v h hB
    apply completes_onTurn (exec_skMin s c) h
    simp only [Bay.acted_resultZN_k, operand hB, Bay.lastTurn_k]
  case max =>
    intro c w v h hB
    apply completes_onTurn (exec_skMax s c) h
    simp only [Bay.acted_resultZN_k, operand hB, Bay.lastTurn_k]
  case cmp =>
    intro c w v h hB
    apply completes_onTurn (exec_skCmp s c) h
    simp only [operand hB, Bay.lastTurn_k]
    simpa using Bay.acted_compare s.bay (s.bay.lastTurn c) c w (s.bay.k c (dOf w)) v _

/-- A turn in which the engine freezes writes the registers of the freeze alone. -/
theorem completes_onTurn_frozen {cmd : Instr} {s : State} {c op w cause : Nat} {detail : Int} {f : Bay → Nat → TurnEnd}
    (he : exec cmd s = s.onTurn c op f) (h : runsOn s c op w) (hf : f (s.bay.lastTurn c) w = .freeze cause detail) :
    completes cmd s (fun b => frozenBy b c cause (detail % 65536) ∧ keepsRegs s.bay b (frozenKeys c)) :=
  completes_onTurn he h (hf ▸ Bay.acted_freeze_only cause detail)

/-- Settles O45: a target within the code section is taken with what the instruction wrote, one outside it freezes the engine in place of that. -/
theorem skeinBranches : Obligations.SkeinBranches := by
  unfold Obligations.SkeinBranches
  intro s
  refine ⟨?fails, ?holds, ?reserved, ?call, ?full, ?ret, ?empty, ?loopEnd, ?loop, ?holdsOut, ?callOut, ?retOut, ?loopOut⟩
  case fails =>
    intro c w h hc
    apply completes_onTurn (exec_skBr s c) h
    simp only [Bay.lastTurn_condition, hc]
    exact Bay.acted_moves (by simp)
  case holds =>
    intro c w h hc h0 h1
    apply completes_onTurn (exec_skBr s c) h
    simp only [Bay.lastTurn_condition, hc, Bay.branchTo_of_within h0 h1]
    exact Bay.acted_moves rfl
  case reserved =>
    intro c w h hc
    exact completes_onTurn_frozen (exec_skBr s c) h (by simp only [Bay.lastTurn_condition, hc])
  case call =>
    intro c w h hd h0 h1
    apply completes_onTurn (exec_skCall s c) h
    simp only [Bay.lastTurn_rdN, Nat.not_le.2 hd, if_false, Bay.branchTo_of_within h0 h1]
    refine ⟨Bay.acted_done_turned rfl ?_, ?_, ?_,
      Bay.acted_done_keeps (l := [retKey c (s.bay.rdN (F.ENG_STAT_DEPTH c)), F.ENG_STAT_DEPTH c]) fun k hk => ?_⟩
    · have below : ¬ F.ENG_TURNS c = retKey c (s.bay.rdN (F.ENG_STAT_DEPTH c)) := by
        simp only [Key.mk.injEq]
        omega
      simp [below]
    · have below : ¬ retKey c (s.bay.rdN (F.ENG_STAT_DEPTH c)) = F.ENG_TURNS c := by
        simp only [Key.mk.injEq]
        omega
      simp [Bay.acted, below]
    · simp [Bay.acted]
    · simp only [List.mem_cons, List.not_mem_nil, or_false, not_or] at hk
      obtain ⟨pushed, depth⟩ := hk
      simp [pushed, depth]
  case full =>
    intro c w h hd
    exact completes_onTurn_frozen (detail := 0) (exec_skCall s c) h (by simp only [Bay.lastTurn_rdN, hd, if_true])
  case ret =>
    intro c w d h hd h0 h1
    apply completes_onTurn (exec_skRet s c) h
    simp only [Bay.lastTurn_rdN, hd, Nat.succ_ne_zero, if_false, Nat.add_sub_cancel, Bay.lastTurn_rd, Bay.lastTurn_codeOf, h0, h1, and_self, if_true]
    refine ⟨by simp [Bay.acted], by simp [Bay.acted], Bay.acted_done_keeps (l := [retKey c d, F.ENG_STAT_DEPTH c]) fun k hk => ?_⟩
    simp only [List.mem_cons, List.not_mem_nil, or_false, not_or] at hk
    obtain ⟨popped, depth⟩ := hk
    simp [popped, depth]
  case empty =>
    intro c w h hd
    exact completes_onTurn_frozen (detail := 0) (exec_skRet s c) h (by simp only [Bay.lastTurn_rdN, hd, if_true])
  case loopEnd =>
    intro c w h hv
    apply completes_onTurn (exec_skLoop s c) h
    simp only [Bay.lastTurn_k, hv, ne_eq, not_true_eq_false, if_false]
    exact Bay.acted_setK_step1 w 0
  case loop =>
    intro c w h hv h0 h1
    apply completes_onTurn (exec_skLoop s c) h
    simp only [Bay.lastTurn_k, ne_eq, hv, not_false_eq_true, if_true, Bay.branchTo_of_within h0 h1]
    exact Bay.acted_setK w _ rfl
  case holdsOut =>
    intro c w h hc ht
    exact completes_onTurn_frozen (exec_skBr s c) h (by simp only [Bay.lastTurn_condition, hc, Bay.branchTo_of_outside ht])
  case callOut =>
    intro c w h hd ht
    exact completes_onTurn_frozen (exec_skCall s c) h
      (by simp only [Bay.lastTurn_rdN, Nat.not_le.2 hd, if_false, Bay.branchTo_of_outside ht])
  case retOut =>
    intro c w d h hd ht
    have outside : ¬ (0 ≤ s.bay.rd (retKey c d) ∧ s.bay.rd (retKey c d) < (s.bay.codeOf c).length) := by omega
    exact completes_onTurn_frozen (exec_skRet s c) h
      (by simp only [Bay.lastTurn_rdN, hd, Nat.succ_ne_zero, if_false, Nat.add_sub_cancel, Bay.lastTurn_rd, Bay.lastTurn_codeOf, outside])
  case loopOut =>
    intro c w h hv ht
    exact completes_onTurn_frozen (exec_skLoop s c) h
      (by simp only [Bay.lastTurn_k, ne_eq, hv, not_false_eq_true, if_true, Bay.branchTo_of_outside ht])

/-- A MOV whose index is past what it addresses freezes and transfers nothing. -/
theorem completes_skMov_of_beyond {s : State} {c : Fin 64} {w : Nat} (h : runsOn s c 0x06 w) (hx : s.bay.movBeyond c w) :
    completes (.skMov c) s (fun b => frozenBy b c 4 (s.bay.movIndex c w % 65536 : Nat) ∧ keepsRegs s.bay b (frozenKeys c)) := by
  have ⟨_, word, _⟩ := h
  apply completes_onTurn2_none (exec_skMov s c) (Bay.movWord_of_beyond word hx) h
  have frozen : frozenBy (s.bay.acted c (.freeze 4 (s.bay.movIndex c w))) c 4 (s.bay.movIndex c w % 65536 : Nat) ∧
      keepsRegs s.bay (s.bay.acted c (.freeze 4 (s.bay.movIndex c w))) (frozenKeys c) := Bay.acted_freeze_only 4 (s.bay.movIndex c w)
  rcases hx with ⟨scratch | scratch, past⟩ | ⟨consts, past⟩
  · simpa only [scratch, Bay.lastTurn_movIndex, past, if_true] using frozen
  · simpa only [scratch, Bay.lastTurn_movIndex, past, if_true] using frozen
  · simpa only [consts, Bay.lastTurn_movIndex, Bay.lastTurn_constsOf, List.getElem?_eq_none past] using frozen

/-- Settles O44: each selector moves one word, and an index past what it addresses freezes. -/
theorem skeinMovTransfers : Obligations.SkeinMovTransfers := by
  unfold Obligations.SkeinMovTransfers
  intro s
  refine ⟨fun c w => s.bay.movIndex_eq c w, ?register, ?load, ?store, ?constant, ?loadBeyond, ?storeBeyond, ?constantBeyond, ?negative⟩
  case register =>
    intro c w h hf
    have ⟨_, word, _⟩ := h
    apply completes_onTurn2_none (exec_skMov s c) (Bay.movWord_of_selector word (by simp [hf])) h
    simp only [hf, Bay.lastTurn_k]
    exact Bay.acted_setK_step1 w _
  case load =>
    intro c w h hf hx
    have ⟨_, word, _⟩ := h
    apply completes_onTurn2_none (exec_skMov s c) (Bay.movWord_of_selector word (by simp [hf])) h
    simp only [hf, Bay.lastTurn_movIndex, Nat.not_lt.2 hx, if_false, Bay.lastTurn_rd]
    exact Bay.acted_setK_step1 w _
  case store =>
    intro c w h hf hx
    have ⟨_, word, _⟩ := h
    apply completes_onTurn2_none (exec_skMov s c) (Bay.movWord_of_selector word (by simp [hf])) h
    simp only [hf, Bay.lastTurn_movIndex, Nat.not_lt.2 hx, if_false, Bay.lastTurn_k]
    refine ⟨by simp [Bay.acted, Bay.step1], Bay.acted_done_turned (by simp) (by simp), Bay.acted_done_keeps (l := [scrKey c (s.bay.movIndex c w)]) fun k hk => ?_⟩
    simp only [List.mem_singleton] at hk
    simp [hk]
  case constant =>
    intro c w v h hf hv
    have ⟨⟨_, word, op, _⟩, _⟩ := h
    apply completes_onTurn2 (exec_skMov s c) (Bay.movWord_of_const word op hf hv) h
    simp only [hf, Bay.lastTurn_movIndex, Bay.lastTurn_constsOf, hv]
    exact Bay.acted_setK_step1 w _
  case loadBeyond => exact fun c w h hf hx => completes_skMov_of_beyond h (.inl ⟨.inl hf, hx⟩)
  case storeBeyond => exact fun c w h hf hx => completes_skMov_of_beyond h (.inl ⟨.inr hf, hx⟩)
  case constantBeyond => exact fun c w h hf hx => completes_skMov_of_beyond h (.inr ⟨hf, hx⟩)
  case negative =>
    intro c w h hf hi hn hl hc
    have high := Bay.movIndex_of_negative hi hn hl
    have selector : field w 16 2 < 4 := Nat.mod_lt _ (by decide)
    have beyond : s.bay.movBeyond c w := by
      unfold Bay.movBeyond
      omega
    exact completes_skMov_of_beyond h beyond

/-- Refutes O16: its clause on a reserved opcode (R222) asks only that the engine takes turns, where R196 gives an engine five of them in a frame. The engine below has had its five in the present frame and stands on opcode 0x2D: its turn is not due, and it goes on RUNNING. -/
theorem not_skeinControlDataAndArithmetic : ¬ Obligations.SkeinControlDataAndArithmetic := by
  unfold Obligations.SkeinControlDataAndArithmetic
  intro h
  let w := 0x2D * 2 ^ 26
  let s : State := { bay := {
    regs := [(F.BAY_STAT_MODE, Mode.forming), (F.ENG_STAT_STATE 0, Es.running)]
    images := [⟨1, 1, 1, 0, 0, 0, .program [0] [w] [] []⟩]
    eng := [(0, { image := 1, slots := 5 })] } }
  have spent : s.bay.turnDue (0 : Fin 64) = false := by decide +kernel
  obtain ⟨-, -, -, -, -, -, -, -, -, -, -, -, -, -, -, -, -, reserved, -⟩ := h s
  obtain ⟨b, ⟨frozen, -⟩, running⟩ := completes_both
    (reserved 0 w (by decide) (by decide) (by decide +kernel) (by decide +kernel) (State.engRead_of_not_due spent _ _))
    (completes_stay (P := fun b => b.engState 0 = Es.running) (exec_reservedOpcode_of_not_due spent) (by decide))
  exact absurd (frozen.symm.trans running) (by decide)

end Sys2Proof
end

section
/-! PROOFS. The start and stop of an axis, the read and clear of its faults and the STO line (R268, R269, R272, R273). -/

namespace Sys2Proof.Machine

/-! ## The meaning each row runs -/

section
variable (a : Fin 6) (s : State)

theorem exec_axisStart : exec (.axisStart a) s = execAxisStart a s := rfl
theorem exec_axisStop : exec (.axisStop a) s = execAxisStop a s := rfl
theorem exec_axisStopComplete : exec (.axisStopComplete a) s = execAxisStopComplete a s := rfl
theorem exec_axsFltRead : exec (.axsFltRead a) s = execAxsFltRead a s := rfl
theorem exec_axsFltClr : exec (.axsFltClr a) s = execAxsFltClr a s := rfl
theorem exec_stoLineDrop : exec .stoLineDrop s = execStoLineDrop s := rfl

end

/-- The presses are AX0 to AX3 (R265). -/
theorem isPress_iff {a : Nat} : isPress a = true ↔ a < 4 := decide_eq_true_iff

/-! ## A stop begins and ends (R268) -/

section
variable {b : Bay} {a : Nat}

/-- A stop in RUN: a press that stands on its brake counts its ramp from now, any other axis decelerates (log entry 7). -/
theorem Bay.stopAxis_of_run (h : b.axState a = Ax.run) :
    (b.stopAxis a).axState a = Ax.stopping ∧ ((b.stopAxis a).axisOf a).startPend = false ∧
      ((b.stopAxis a).axisOf a).stopT = (if isPress a && b.flag (F.AXS_STAT_BRK_ON a) then some b.now else none) ∧
      keepsRegs b (b.stopAxis a) [F.AXS_STAT_STATE a] := by
  have state : b.rd (F.AXS_STAT_STATE a) = 3 := h
  cases braked : isPress a && b.flag (F.AXS_STAT_BRK_ON a) with
  | true => simp +contextual [Bay.stopAxis, Bay.axState, state, braked, keepsRegs]
  | false => simp +contextual [Bay.stopAxis, Bay.axState, state, braked, keepsRegs]

/-- A pump or fan has come down to 1 % of its rated speed. -/
theorem Bay.stopDone_of_slow (hp : isPress a = false) (h : b.axState a = Ax.stopping) (hw : 10 * (b.axisOf a).w.natAbs ≤ b.rd (F.AXS_N_RATED a)) :
    b.stopDone a = (((b.wr (F.AXS_STAT_STATE a) Ax.disabled).wr (F.AXS_STAT_ASRC a) 0).legsOff a).setLoopAx a { b.loopAxOf a with iqRef := 0 } := by
  unfold Bay.stopDone
  rw [if_neg (fun moving => moving h), if_neg (by simp [hp]), if_pos hw]

/-- The current of a braked press has ramped for 20 ms. -/
theorem Bay.stopDone_of_ramped {t : Nat} (hp : isPress a = true) (h : b.axState a = Ax.stopping) (ht : (b.axisOf a).stopT = some t)
    (hn : t + 20 * msTicks ≤ b.now) :
    (b.stopDone a).axState a = Ax.disabled ∧ (b.stopDone a).flag (F.AXS_STAT_BRK_ON a) = true ∧ ((b.stopDone a).loopAxOf a).iqRef = 0 ∧
      keepsRegs b (b.stopDone a) [F.AXS_STAT_STATE a, F.AXS_STAT_ASRC a, F.AXS_STAT_BRK_ON a] := by
  have state : b.rd (F.AXS_STAT_STATE a) = 4 := h
  simp +contextual [Bay.stopDone, Bay.axState, state, hp, ht, hn, Bay.brakeNow, Bay.legsOff, Bay.flag, keepsRegs]

/-! ## The clear of a local cause (R269, R301) -/

/-- A clear that the read has armed, of any cause but 0x11, ends the fault; with a line of the STO pair down the axis stays in STO with cause 0x01 (log entry 7). -/
theorem Bay.axsFltClr_of_armed (harm : b.flag (F.AXS_STAT_CLR_ARMED a) = true) (h : b.rd (F.AXS_FLT_CAUSE a) ≠ 17) (h' : b.rd (F.AXS_FLT_SECOND a) ≠ 17) :
    (b.lineOn 0 = true → (b.axsFltClr a).axState a = Ax.disabled ∧ (b.axsFltClr a).rd (F.AXS_FLT_CAUSE a) = 0) ∧
      (b.lineOn 0 = false → (b.axsFltClr a).axState a = b.axState a ∧ (b.axsFltClr a).rd (F.AXS_FLT_CAUSE a) = 1) ∧
      (b.axsFltClr a).rd (F.AXS_FLT_SECOND a) = 0 ∧ (b.axsFltClr a).rd (F.AXS_STAT_CLR_ARMED a) = 0 ∧
      (a < 4 → (b.axsFltClr a).rd (F.POS_FLT_CODE a) = 0) := by
  have line : (b.setFlag (F.AXS_STAT_CLR_ARMED a) false).lineOn 0 = b.lineOn 0 := by simp [Bay.lineOn]
  rw [← isPress_iff]
  -- The line decides state and cause, the kind of axis whether a position interface is cleared with it.
  cases up : b.lineOn 0 <;> cases press : isPress a <;>
    simp [Bay.axsFltClr, harm, h, h', line, up, press, Bay.axState]

theorem Bay.axsFltClr_of_not_armed (harm : b.flag (F.AXS_STAT_CLR_ARMED a) = false) : b.axsFltClr a = b.refuse (F.AXS_CTL_FLT_CLR a) 5 := by
  simp [Bay.axsFltClr, harm]

end

/-! ## The STO line switches every leg off (R269) -/

theorem Bay.stoAxis_driverOf_other (b : Bay) {a n : Nat} (cause : Nat) (h : n ≠ a) : (b.stoAxis n cause).driverOf (64 + a) = b.driverOf (64 + a) := by
  simp only [Bay.stoAxis, Bay.brakeNow]
  repeat' split
  all_goals simp [h]

theorem Bay.stoAxis_legs {b : Bay} {a : Nat} (cause : Nat) (h : b.axState a ≠ Ax.sto) :
    ((b.stoAxis a cause).driverOf (64 + a)).legs = [.off, .off, .off, .off] := by
  simp [Bay.stoAxis, h]

/-- What decides whether STO reaches the driver of an axis, and that driver. -/
def Bay.axisDriver (b : Bay) (a : Nat) : Int × Driver := (b.axState a, b.driverOf (64 + a))

theorem Bay.stoAll_legs {b : Bay} {a : Nat} (cause : Nat) (ha : a ∈ allAxes) (h : b.axState a ≠ Ax.sto) :
    ((b.stoAll cause).driverOf (64 + a)).legs = [.off, .off, .off, .off] := by
  have others : ∀ b n, n ≠ a → (Bay.stoAxis b n cause).axisDriver a = b.axisDriver a := fun b n hn => by
    simp [Bay.axisDriver, Bay.axState, Bay.stoAxis_other b cause _ _ hn, Bay.stoAxis_driverOf_other b cause hn]
  obtain ⟨b', before, after⟩ := Bay.each_of_mem (g := fun b => b.axisDriver a) others b (l := allAxes) List.nodup_range ha
  have state : b'.axState a = b.axState a := congrArg Prod.fst before
  have driver : (b.stoAll cause).driverOf (64 + a) = (b'.stoAxis a cause).driverOf (64 + a) := congrArg Prod.snd after
  rw [driver]
  exact Bay.stoAxis_legs cause (state ▸ h)

end Sys2Proof.Machine

namespace Sys2Proof

open Sys2Proof.Machine

/-- Settles O7: each row's condition selects its branch, and STO reaches each axis once. -/
theorem axisStartStopAndSto : Obligations.AxisStartStopAndSto := by
  unfold Obligations.AxisStartStopAndSto
  intro s
  refine ⟨?start, ?stop, ?stopRefused, ?slow, ?ramped, ?read, ?clear, ?clearRefused, ?line⟩
  case start =>
    intro a hg hok
    apply completes_onBay (exec_axisStart a s)
    rw [Bay.gated_open hg, if_pos hok]
    exact ⟨by simp, fun _ _ => rfl⟩
  case stop =>
    intro a hg hrun
    apply completes_onBay (exec_axisStop a s)
    rw [Bay.gated_open hg, if_pos (by simp [hrun])]
    exact Bay.stopAxis_of_run hrun
  case stopRefused =>
    intro a hg hdis
    apply completes_onBay (exec_axisStop a s)
    rw [Bay.gated_open hg, if_neg (by rw [hdis]; decide)]
  case slow =>
    intro a ha hst hw
    have aux : isPress a = false := by simpa [isPress] using ha
    apply completes_onBay (exec_axisStopComplete a s)
    rw [Bay.stopDone_of_slow aux hst hw]
    simp +contextual [Bay.legsOff, Bay.axState, keepsRegs]
  case ramped =>
    intro a t ha hst ht hn
    exact completes_onBay (exec_axisStopComplete a s) (Bay.stopDone_of_ramped (isPress_iff.2 ha) hst ht hn)
  case read =>
    intro a hloc
    apply completes_onBay (exec_axsFltRead a s)
    simp +contextual [Bay.axsFltRead, hloc, keepsRegs]
  case clear =>
    intro a hg harm hc hs
    apply completes_onBay (exec_axsFltClr a s)
    rw [Bay.gated_open hg]
    exact Bay.axsFltClr_of_armed harm hc hs
  case clearRefused =>
    intro a hg harm
    apply completes_onBay (exec_axsFltClr a s)
    rw [Bay.gated_open hg, Bay.axsFltClr_of_not_armed harm]
  case line =>
    intro hrun
    refine completes_onBay (exec_stoLineDrop s) fun a ha => ?_
    have moving : s.bay.axState a ≠ Ax.sto := by rw [hrun a ha]; decide
    have ⟨state, causes⟩ := Bay.stoAll_axis s.bay 1 (List.mem_range.1 ha)
    exact ⟨state, (causes moving).1, Bay.stoAll_legs 1 ha moving⟩

end Sys2Proof
end

section
/-! PROOFS. The safety controller's shared laws: what the receiving stages leave of its hidden state, driving and dropping targets, latched faults, pairs and demands (R308, R311, R313, R316 to R318). -/

namespace Sys2Proof.Machine

/-! ## What the receiving stages do leaves the safety controller's hidden state alone -/

@[simp] theorem Bay.each_safe {f : Bay → Nat → Bay} (h : ∀ b n, (f b n).safe = b.safe) (b : Bay) (l : List Nat) :
    (b.each l f).safe = b.safe := Bay.each_keeps Bay.safe f h b l

@[simp] theorem Bay.onlyIf_safe {f : Bay → Bay} (h : ∀ b, (f b).safe = b.safe) (b : Bay) (c : Bool) :
    (b.onlyIf c f).safe = b.safe := Bay.onlyIf_keeps Bay.safe f h b c

@[simp] theorem Bay.sendEvBit_safe (b : Bay) (t e i : Nat) : (b.sendEvBit t e i).safe = b.safe := rfl

@[simp] theorem Bay.ringStat_safe (b : Bay) (c : Nat) : (b.ringStat c).safe = b.safe := by
  simp only [Bay.ringStat]; split <;> simp

@[simp] theorem Bay.putEntry_safe (b : Bay) (c : Nat) (e : RecEntry) : (b.putEntry c e).safe = b.safe := by
  simp only [Bay.putEntry]
  repeat' split
  all_goals simp [Bay.dropEntry]

@[simp] theorem Bay.recEvent_safe (b : Bay) (c : Nat) (kind detail value : Int) : (b.recEvent c kind detail value).safe = b.safe :=
  Bay.putEntry_safe ..

@[simp] theorem Bay.syncMode_safe (b : Bay) (c : Nat) : (b.syncMode c).safe = b.safe := rfl

@[simp] theorem Bay.endSweepEarly_safe (b : Bay) (c : Nat) (code : Int) : (b.endSweepEarly c code).safe = b.safe := by
  simp only [Bay.endSweepEarly]
  repeat' split
  all_goals simp

@[simp] theorem Bay.hold_safe (b : Bay) (c cause : Nat) : (b.hold c cause).safe = b.safe := by
  simp only [Bay.hold]
  repeat' split
  all_goals simp [Bay.markInterval, Bay.endDonation]

@[simp] theorem Bay.settle_safe (b : Bay) (c : Nat) : (b.settle c).safe = b.safe := by
  simp only [Bay.settle]
  repeat' split
  all_goals simp

@[simp] theorem Bay.leave_safe (b : Bay) (c cause : Nat) : (b.leave c cause).safe = b.safe := by
  simp only [Bay.leave, Bay.onlyIf]
  repeat' split
  all_goals simp

@[simp] theorem Bay.stopFor_safe (b : Bay) (code : Nat) : (b.stopFor code).safe = b.safe :=
  congrArg Prod.fst (b.stopFor_bootFinds code)

@[simp] theorem Bay.entryOpens_safe (b : Bay) (cause : Int) : (b.entryOpens cause).safe = b.safe := by
  simp [Bay.entryOpens, Bay.setEnt]

@[simp] theorem Bay.setDirs_safe (b : Bay) (v : Int) : (b.setDirs v).safe = b.safe :=
  Bay.each_safe (f := fun b n => b.wr (F.SEC_STAT_DIR n) v) (fun _ _ => rfl) b b.wales

@[simp] theorem Bay.rtStop_safe (b : Bay) : b.rtStop.safe = b.safe := by
  simp only [Bay.rtStop]
  split <;> simp

@[simp] theorem Bay.rampDown_safe (b : Bay) (c : Nat) (ms : Int) : (b.rampDown c ms).safe = b.safe := by
  simp [Bay.rampDown]

@[simp] theorem Bay.contactorDrop_safe (b : Bay) : b.contactorDrop.safe = b.safe := by
  simp only [Bay.contactorDrop]
  split <;> simp

@[simp] theorem Bay.stoAxis_safe (b : Bay) (a cause : Nat) : (b.stoAxis a cause).safe = b.safe := by
  simp only [Bay.stoAxis, Bay.brakeNow]
  repeat' split
  all_goals simp

@[simp] theorem Bay.stoAll_safe (b : Bay) (cause : Nat) : (b.stoAll cause).safe = b.safe :=
  Bay.each_safe (fun b a => Bay.stoAxis_safe b a cause) b allAxes

@[simp] theorem Bay.stopAxis_safe (b : Bay) (a : Nat) : (b.stopAxis a).safe = b.safe := by
  simp only [Bay.stopAxis]
  repeat' split
  all_goals simp

@[simp] theorem Bay.queueRecord_safe (b : Bay) (n : Nat) (r : FramRec) : (b.queueRecord n r).safe = b.safe := by
  simp only [Bay.queueRecord]
  split <;> simp

@[simp] theorem Bay.refreshBorder_safe (b : Bay) (c : Nat) : (b.refreshBorder c).safe = b.safe := by
  simp only [Bay.refreshBorder]
  repeat' split
  all_goals simp

@[simp] theorem Bay.chanFault_safe (b : Bay) (c cause detail : Nat) : (b.chanFault c cause detail).safe = b.safe := by
  simp only [Bay.chanFault]
  split <;> simp

@[simp] theorem Bay.safeOffChan_safe (b : Bay) (c : Nat) : (b.safeOffChan c).safe = b.safe := by
  simp only [Bay.safeOffChan]
  repeat' split
  all_goals simp [Bay.allLegs, Bay.openSwitch]

@[simp] theorem Bay.safeOffDrop_safe (b : Bay) (n : Nat) : (b.safeOffDrop n).safe = b.safe := by
  simp only [Bay.safeOffDrop]
  split <;> simp [Bay.waleRecord]

@[simp] theorem Bay.linesChanged_safe (b : Bay) (was on : Nat) : (b.linesChanged was on).safe = b.safe := by
  simp only [Bay.linesChanged, Bay.setPlant_safe]
  refine (Bay.onlyIf_safe (fun b => ?_) _ _).trans ?_
  · rfl
  · simp

@[simp] theorem Bay.stopRequest_safe (b : Bay) (act : Nat) : (b.stopRequest act).safe = b.safe := by
  simp [Bay.stopRequest]

/-! ## Masks of targets -/

theorem testBit_sub_and (a m k : Nat) : (a - (a &&& m)).testBit k = (a.testBit k && !m.testBit k) := by
  induction k generalizing a m with
  | zero =>
    have le : a &&& m ≤ a := Nat.and_le_left
    have low : (a &&& m) % 2 = 1 ↔ a % 2 = 1 ∧ m % 2 = 1 := Nat.and_mod_two_eq_one
    rw [Bool.eq_iff_iff]
    simp only [Nat.testBit_zero, Bool.and_eq_true, Bool.not_eq_true', decide_eq_true_eq, decide_eq_false_iff_not]
    omega
  | succ k ih =>
    have le : a &&& m ≤ a := Nat.and_le_left
    have low : (a &&& m) % 2 = 1 → a % 2 = 1 := fun h => (Nat.and_mod_two_eq_one.1 h).1
    have half : (a - (a &&& m)) / 2 = a / 2 - (a / 2 &&& m / 2) := by rw [← Nat.and_div_two]; omega
    rw [Nat.testBit_succ, half, ih, Nat.testBit_succ, Nat.testBit_succ]

theorem testBit_setBitN (v n k : Nat) : (setBitN v n).testBit k = (v.testBit k || decide (n = k)) := by
  simp [setBitN, Nat.testBit_two_pow]

theorem testBit_foldl_setBitN (l : List Nat) (v k : Nat) : (l.foldl (fun m n => setBitN m n) v).testBit k = (v.testBit k || decide (k ∈ l)) := by
  induction l generalizing v with
  | nil => simp
  | cons n l ih => simp [ih, testBit_setBitN, Bool.or_assoc, eq_comm]

theorem testBit_lines (t k : Nat) : (t &&& 127).testBit k = (t.testBit k && decide (k < 7)) := by
  rw [show 127 = 2 ^ 7 - 1 from rfl, Nat.testBit_and, Nat.testBit_two_pow_sub_one]

theorem testBit_outs (t j : Nat) : ((t / 256) &&& 15).testBit j = (t.testBit (8 + j) && decide (j < 4)) := by
  rw [show 15 = 2 ^ 4 - 1 from rfl, show 256 = 2 ^ 8 from rfl, Nat.testBit_and, Nat.testBit_two_pow_sub_one, Nat.testBit_div_two_pow, Nat.add_comm]

theorem testBit_allTargets {k : Nat} (h : k < 7 ∨ 8 ≤ k ∧ k < 12) : Nat.testBit allTargets k = true := by
  have set : ∀ k ∈ [0, 1, 2, 3, 4, 5, 6, 8, 9, 10, 11], Nat.testBit allTargets k = true := by decide
  exact set k (by simp; omega)

/-! ## Driving and dropping targets (R308, R316) -/

section
variable (b : Bay) (m : Nat)

@[simp] theorem Bay.drive_linesOn (t : Nat) : (b.drive t).rd F.SAFE_LINES_ON = (t &&& 127 : Nat) := by
  simp [Bay.drive]

@[simp] theorem Bay.drive_outOn (t : Nat) : (b.drive t).rd F.SAFE_OUT_ON = (t / 256 &&& 15 : Nat) := by
  simp [Bay.drive]

theorem Bay.dropTargets_line (k : Nat) :
    ((b.dropTargets m).rdN F.SAFE_LINES_ON).testBit k = (b.targetsOn.testBit k && !m.testBit k && decide (k < 7)) := by
  rw [Bay.dropTargets, Bay.rdN, Bay.drive_linesOn, Int.toNat_natCast, testBit_lines, testBit_sub_and]

theorem Bay.dropTargets_out (j : Nat) :
    ((b.dropTargets m).rdN F.SAFE_OUT_ON).testBit j = (b.targetsOn.testBit (8 + j) && !m.testBit (8 + j) && decide (j < 4)) := by
  rw [Bay.dropTargets, Bay.rdN, Bay.drive_outOn, Int.toNat_natCast, testBit_outs, testBit_sub_and]

/-- A line of the mask goes off. -/
theorem Bay.dropTargets_lineOff {k : Nat} (h : m.testBit k = true) : ((b.dropTargets m).rdN F.SAFE_LINES_ON).testBit k = false := by
  simp [Bay.dropTargets_line, h]

/-- An output of the mask goes off. -/
theorem Bay.dropTargets_outOff {j : Nat} (h : m.testBit (8 + j) = true) : ((b.dropTargets m).rdN F.SAFE_OUT_ON).testBit j = false := by
  simp [Bay.dropTargets_out, h]

/-- Dropping every target leaves none on. -/
theorem dropped_all (t : Nat) : t - (t &&& allTargets) &&& 127 = 0 ∧ (t - (t &&& allTargets)) / 256 &&& 15 = 0 := by
  refine ⟨Nat.eq_of_testBit_eq fun k => ?lines, Nat.eq_of_testBit_eq fun j => ?outs⟩
  case lines =>
    rw [testBit_lines, testBit_sub_and, Nat.zero_testBit]
    by_cases h : k < 7
    · simp [testBit_allTargets (.inl h)]
    · simp [h]
  case outs =>
    rw [testBit_outs, testBit_sub_and, Nat.zero_testBit]
    by_cases h : j < 4
    · simp [testBit_allTargets (k := 8 + j) (.inr (by omega))]
    · simp [h]

@[simp] theorem Bay.dropTargets_all_linesOn : (b.dropTargets allTargets).rd F.SAFE_LINES_ON = 0 := by
  rw [Bay.dropTargets, Bay.drive_linesOn, (dropped_all _).1]; rfl

@[simp] theorem Bay.dropTargets_all_outOn : (b.dropTargets allTargets).rd F.SAFE_OUT_ON = 0 := by
  rw [Bay.dropTargets, Bay.drive_outOn, (dropped_all _).2]; rfl

@[simp] theorem Bay.safeAllOff_linesOn : b.safeAllOff.rd F.SAFE_LINES_ON = 0 := by
  simp [Bay.safeAllOff]

@[simp] theorem Bay.safeAllOff_outOn : b.safeAllOff.rd F.SAFE_OUT_ON = 0 := by
  simp [Bay.safeAllOff]

end

/-- What is off stays off when a second fault is acted on (R329). -/
theorem Bay.secondFault_off {b : Bay} {k : Nat} {key : Key} (hk : key = F.SAFE_LINES_ON ∨ key = F.SAFE_OUT_ON)
    (h : (b.rdN key).testBit k = false) : (b.secondFault.rdN key).testBit k = false := by
  cases second : b.safe.second && b.targetsOn != 0 with
  | false => simpa [Bay.secondFault, Bay.onlyIf, second] using h
  | true => obtain rfl | rfl := hk <;> simp [Bay.secondFault, Bay.onlyIf, second, Bay.rdN]

/-- What drives the lines in a cycle (R316). -/
theorem Bay.mayEnergise_of_wanted {b : Bay} {k : Nat} (hk : k < 7) (h : b.wanted.testBit k = true) : b.mayEnergise k = true := by
  simp only [Bay.wanted, testBit_foldl_setBitN, Nat.zero_testBit, Bool.false_or, decide_eq_true_eq, List.mem_append, List.mem_filter, List.mem_map] at h
  obtain ⟨-, may⟩ | ⟨j, -, rfl⟩ := h
  · exact may
  · omega

/-! ## What latched faults, dropped targets and a stop leave of the hidden state -/

/-- The hidden state without what a latched fault, dropped targets and a stop of the bay write in it. -/
def Safe.apart (x : Safe) : Safe := { x with faults := [], second := false, outT := [], stopLines := 0, resetSince := false }

theorem Safe.congr_of_apart {α : Type} {g : Safe → α} (hg : ∀ x, g x.apart = g x) {x y : Safe} (h : x.apart = y.apart) : g x = g y := by
  rw [← hg x, h, hg y]

section
variable (b : Bay)

@[simp] theorem Bay.showFault_safe : b.showFault.safe = b.safe := by
  unfold Bay.showFault
  split <;> rfl

@[simp] theorem Bay.showPairs_safe : b.showPairs.safe = b.safe := rfl

@[simp] theorem Bay.showPairs_modeSt : b.showPairs.modeSt = b.modeSt := rfl

@[simp] theorem Bay.showLineAge_safe : b.showLineAge.safe = b.safe := by
  simp only [Bay.showLineAge, Bay.onlyIf]
  split <;> rfl

@[simp] theorem Bay.showSafe_safe : b.showSafe.safe = b.safe := rfl

@[simp] theorem Bay.drive_apart (t : Nat) : (b.drive t).safe.apart = b.safe.apart := by
  simp [Bay.drive, Safe.apart]

@[simp] theorem Bay.dropTargets_apart (m : Nat) : (b.dropTargets m).safe.apart = b.safe.apart := Bay.drive_apart ..

@[simp] theorem Bay.demandStop_apart (act : Nat) : (b.demandStop act).safe.apart = b.safe.apart := by
  simp only [Bay.demandStop]
  split <;> simp [Safe.apart]

@[simp] theorem Bay.safetyStop_apart : b.safetyStop.safe.apart = b.safe.apart := by
  simp [Bay.safetyStop, Safe.apart]

@[simp] theorem Bay.safeAllOff_apart : b.safeAllOff.safe.apart = b.safe.apart := by
  simp [Bay.safeAllOff]

@[simp] theorem Bay.secondFault_apart : b.secondFault.safe.apart = b.safe.apart :=
  Bay.onlyIf_keeps (fun b => b.safe.apart) _ Bay.safeAllOff_apart b _

@[simp] theorem Bay.latchFault_apart (cause detail ch act : Nat) : (b.latchFault cause detail ch act).safe.apart = b.safe.apart := by
  simp only [Bay.latchFault]
  split <;> simp [Safe.apart]

@[simp] theorem Bay.latchFault_cycle (cause detail ch act : Nat) : (b.latchFault cause detail ch act).safe.cycle = b.safe.cycle :=
  Safe.congr_of_apart (g := Safe.cycle) (fun _ => rfl) (b.latchFault_apart ..)

@[simp] theorem Bay.latchFault_stopped (cause detail ch act : Nat) : (b.latchFault cause detail ch act).safe.stopped = b.safe.stopped :=
  Safe.congr_of_apart (g := Safe.stopped) (fun _ => rfl) (b.latchFault_apart ..)

@[simp] theorem Bay.latchFault_expired (cause detail ch act : Nat) : (b.latchFault cause detail ch act).safe.expired = b.safe.expired :=
  Safe.congr_of_apart (g := Safe.expired) (fun _ => rfl) (b.latchFault_apart ..)

@[simp] theorem Bay.latchFault_pairs (cause detail ch act : Nat) : (b.latchFault cause detail ch act).safe.pairs = b.safe.pairs :=
  Safe.congr_of_apart (g := Safe.pairs) (fun _ => rfl) (b.latchFault_apart ..)

@[simp] theorem Bay.safeAllOff_stopped : b.safeAllOff.safe.stopped = b.safe.stopped :=
  Safe.congr_of_apart (g := Safe.stopped) (fun _ => rfl) b.safeAllOff_apart

end

/-! ## The first fault latched is the one shown (R311) -/

theorem Bay.latchFault_of_none {b : Bay} (h : b.safe.faults = []) (cause detail ch act : Nat) :
    (b.latchFault cause detail ch act).rd F.SAFE_FLT_CAUSE = cause ∧ (b.latchFault cause detail ch act).rd F.SAFE_FLT_DETAIL = detail ∧
      (b.latchFault cause detail ch act).rd F.SAFE_FLT_CH = ch := by
  simp [Bay.latchFault, Bay.showFault, h]

/-! ## Pairs -/

theorem Safe.pair_setPair_same {x : Safe} {i : Nat} (p : SafePairSt) (hi : i < x.pairs.length) : (x.setPair i p).pair i = p := by
  simp [Safe.pair, Safe.setPair, hi]

theorem Safe.pair_setPair_ne (x : Safe) {i j : Nat} (p : SafePairSt) (h : i ≠ j) : (x.setPair i p).pair j = x.pair j := by
  simp [Safe.pair, Safe.setPair, List.getD_eq_getElem?_getD, List.getElem?_set_ne h]

@[simp] theorem Safe.setPair_length (x : Safe) (i : Nat) (p : SafePairSt) : (x.setPair i p).pairs.length = x.pairs.length := by
  simp [Safe.setPair]

theorem Safe.pair_congr {x y : Safe} (h : x.apart = y.apart) (i : Nat) : x.pair i = y.pair i :=
  Safe.congr_of_apart (g := fun z => z.pair i) (fun _ => rfl) h

/-! ## Demand (R313, R316, R318) -/

/-- Pair i as its demand leaves it. -/
def Bay.demanded (b : Bay) (i : Nat) : SafePairSt :=
  { b.safe.pair i with
    dem := true, wait := (b.safe.pair i).wait || (b.rd (F.PAIR_CFG1_RESET i) = 0 && b.eval i ≠ 4)
    stopAt := if b.flag (F.PAIR_CFG1_CAT i) then some (b.safe.cycle + 2 * b.rdN F.SAFE_GLB_CFG0_T_STOP1) else none }

section
variable {b : Bay} {i : Nat}

theorem Bay.demand_of_dem (h : (b.safe.pair i).dem = true) : b.demand i = b := by
  simp [Bay.demand, h]

theorem Bay.demand_apart (h : (b.safe.pair i).dem = false) : (b.demand i).safe.apart = (b.safe.setPair i (b.demanded i)).apart := by
  cases cat1 : b.flag (F.PAIR_CFG1_CAT i) <;> simp [Bay.demand, Bay.demanded, h, cat1]

theorem Bay.demand_dem (hi : i < b.safe.pairs.length) : ((b.demand i).safe.pair i).dem = true := by
  cases h : (b.safe.pair i).dem with
  | true => rwa [Bay.demand_of_dem h]
  | false =>
    rw [Safe.pair_congr (Bay.demand_apart h), Safe.pair_setPair_same _ hi]
    rfl

/-- A pair in demand stays in demand when another one goes into it. -/
theorem Bay.demand_keeps_dem {j : Nat} (h : (b.safe.pair j).dem = true) : ((b.demand i).safe.pair j).dem = true := by
  cases own : (b.safe.pair i).dem with
  | true => rwa [Bay.demand_of_dem own]
  | false =>
    have other : i ≠ j := fun e => by simp [e, h] at own
    rwa [Safe.pair_congr (Bay.demand_apart own), Safe.pair_setPair_ne _ _ other]

theorem Bay.demand_keeps_disc (hi : i < b.safe.pairs.length) : ((b.demand i).safe.pair i).disc = (b.safe.pair i).disc := by
  cases h : (b.safe.pair i).dem with
  | true => rw [Bay.demand_of_dem h]
  | false =>
    rw [Safe.pair_congr (Bay.demand_apart h), Safe.pair_setPair_same _ hi]
    rfl

end

section
variable (b : Bay) (i : Nat)

/-- What a demand leaves of the hidden state: it changes its pair, and what a stop writes. -/
theorem Bay.demand_keeps {α : Type} {g : Safe → α} (hstop : ∀ x : Safe, g x.apart = g x) (hpair : ∀ x i p, g (Safe.setPair x i p) = g x) :
    g (b.demand i).safe = g b.safe := by
  cases h : (b.safe.pair i).dem with
  | true => rw [Bay.demand_of_dem h]
  | false => rw [← hstop, Bay.demand_apart h, hstop, hpair]

@[simp] theorem Bay.demand_cycle : (b.demand i).safe.cycle = b.safe.cycle :=
  b.demand_keeps i (g := Safe.cycle) (fun _ => rfl) (fun _ _ _ => rfl)

@[simp] theorem Bay.demand_stopped : (b.demand i).safe.stopped = b.safe.stopped :=
  b.demand_keeps i (g := Safe.stopped) (fun _ => rfl) (fun _ _ _ => rfl)

@[simp] theorem Bay.demand_length : (b.demand i).safe.pairs.length = b.safe.pairs.length :=
  b.demand_keeps i (g := fun x => x.pairs.length) (fun _ => rfl) Safe.setPair_length

@[simp] theorem Bay.dropTargets_faults (m : Nat) : (b.dropTargets m).safe.faults = b.safe.faults := by
  simp [Bay.dropTargets, Bay.drive]

@[simp] theorem Bay.demandStop_faults (act : Nat) : (b.demandStop act).safe.faults = b.safe.faults := by
  simp only [Bay.demandStop]
  split <;> simp

@[simp] theorem Bay.demand_faults : (b.demand i).safe.faults = b.safe.faults := by
  simp only [Bay.demand]
  repeat' split
  all_goals simp [Safe.setPair]

end

/-- The pairs that a set uses all go into demand. -/
theorem Bay.each_demand {b : Bay} {l : List Nat} {i : Nat} (hi : i ∈ l) (h : i < b.safe.pairs.length) :
    ((b.each l (fun b i => b.demand i)).safe.pair i).dem = true :=
  Bay.each_reaches (P := fun b => i < b.safe.pairs.length) (Q := fun b => (b.safe.pair i).dem = true)
    (fun b n _ h => by rwa [Bay.demand_length]) (fun _ h => Bay.demand_dem h) (fun _ _ h => Bay.demand_keeps_dem h) hi h

theorem mem_pairsUsed {b : Bay} {i : Nat} (hi : i < 8) (h : b.eval i ≠ 0) : i ∈ (List.range 8).filter (fun i => b.eval i != 0) := by
  simp [hi, h]

/-! ## The stop of the bay (R387) -/

theorem Bay.safetyStop_stops {b : Bay} (hs : b.mode ≠ Mode.safeStop) (hq : b.mode ≠ Mode.quarantine) : 2 ∈ b.safetyStop.modeSt.stops := by
  have mode : (b.setSafe { b.safe with resetSince := false }).mode = b.mode := rfl
  rw [Bay.safetyStop, Bay.stopFor, mode, if_neg hs, if_neg hq]
  by_cases there : 2 ∈ b.modeSt.stops <;> simp [there]

end Sys2Proof.Machine
end

section
/-! PROOFS. The safety controller: supply, handover, silence of a channel, degraded time, self-test, rejoin and ACTIVATE (R327 to R336). -/

namespace Sys2Proof.Machine

/-! ## The meaning each row runs -/

section
variable (s : State)

theorem exec_safetySupplyRestored : exec .safetySupplyRestored s = execSafetySupplyRestored s := rfl
theorem exec_hoCa : exec .hoCa s = execHoCa s := rfl
theorem exec_hoCb : exec .hoCb s = execHoCb s := rfl
theorem exec_upsettSilent (x : Fin 2) (selfFault : Bool) : exec (.upsettSilent x selfFault) s = execUpsettSilent x selfFault s := rfl
theorem exec_degradedWarn : exec .degradedWarn s = execDegradedWarn s := rfl
theorem exec_upsettSelfTestDone (x : Fin 2) (pass verified closed : Bool) :
    exec (.upsettSelfTestDone x pass verified closed) s = execUpsettSelfTestDone x pass verified closed s := rfl
theorem exec_upsettRejoin (x : Fin 2) : exec (.upsettRejoin x) s = execUpsettRejoin x s := rfl
theorem exec_activate : exec .activate s = execActivate s := rfl

end

/-! ## A channel's OK bit -/

theorem chOk_cases (x : Fin 2) : chOk x = F.SAFE_STAT_CHA_OK ∨ chOk x = F.SAFE_STAT_CHB_OK := by
  unfold chOk
  split
  · exact .inl rfl
  · exact .inr rfl

/-! ## Handover (R327, R328) -/

section
variable {b : Bay}

theorem Bay.hostHandover_begins {k : Key} {n : Nat} (hg : b.gate k = none) (hm : b.rd F.SAFE_STAT_MODE = 1) (hh : b.safe.handover = none) :
    (b.hostHandover k n).safe.handover = some ⟨n, b.safe.cycle, false, false, false⟩ ∧ (b.hostHandover k n).rd F.SAFE_STAT_HANDOVER = 1 ∧
      keepsRegs b (b.hostHandover k n) [F.SAFE_STAT_HANDOVER] := by
  rw [Bay.hostHandover, Bay.gated_open hg, if_pos (by simp [hm, hh])]
  simp +contextual [Bay.beginHandover, keepsRegs]

theorem Bay.upsettFault_asks (x : Fin 2) (hm : b.rd F.SAFE_STAT_MODE = 1) (hh : b.safe.handover = none) (hf : b.safe.faults = []) :
    (b.upsettFault x).safe.handover = some ⟨x, b.safe.cycle, false, true, false⟩ ∧ (b.upsettFault x).rd (chOk x) = 0 ∧
      (b.upsettFault x).rd F.SAFE_FLT_CAUSE = 8 ∧ (b.upsettFault x).rd F.SAFE_FLT_CH = x.val + 1 := by
  obtain ⟨cause, -, ch⟩ := Bay.latchFault_of_none (b := b.setFlag (chOk x) false) hf 8 0 (x + 1) 0
  rw [Bay.upsettFault, if_pos (by simp [hm, hh])]
  refine ⟨by simp [Bay.beginHandover], ?_, by simpa using cause, by simpa using ch⟩
  obtain ok | ok := chOk_cases x <;> simp [ok]

/-- What a stop of channel x notes before it latches the fault (R328). -/
def Bay.silence (b : Bay) (x : Nat) : Bay :=
  ((b.setFlag (chOk x) false).setSafe { b.safe with stopped := some x, handover := none }).setFlag F.SAFE_STAT_HANDOVER false

/-- Every pair that the active set uses goes into demand. -/
def Bay.demandUsed (b : Bay) : Bay := b.each ((List.range 8).filter (fun i => b.eval i != 0)) (fun b i => b.demand i)

theorem Bay.upsettStops_eq (x : Fin 2) (hr : b.reads x = true) (ha : b.setActive = true) :
    b.upsettStops x = ((b.silence x).latchFault 8 0 (x + 1) 0).demandUsed.safeAllOff.showPairs := by
  have inDrive : (b.setFlag (chOk x) false).reads x = true ∧ (b.setFlag (chOk x) false).setActive = true := by
    obtain ok | ok := chOk_cases x <;> simpa [Bay.reads, Bay.setActive, ok] using And.intro hr ha
  rw [Bay.upsettStops, if_neg (by simp [inDrive])]
  rfl

/-- A channel in drive that stops takes every target with it. -/
theorem Bay.upsettStops_of_drive (x : Fin 2) (hr : b.reads x = true) (ha : b.setActive = true) (hf : b.safe.faults = []) :
    (b.upsettStops x).safe.stopped = some x.val ∧ (b.upsettStops x).rd (chOk x) = 0 ∧ (b.upsettStops x).rd F.SAFE_FLT_CAUSE = 8 ∧
      (b.upsettStops x).rd F.SAFE_FLT_CH = x.val + 1 ∧ (b.upsettStops x).rd F.SAFE_LINES_ON = 0 ∧ (b.upsettStops x).rd F.SAFE_OUT_ON = 0 := by
  obtain ⟨cause, -, ch⟩ := Bay.latchFault_of_none (b := b.silence x) hf 8 0 (x + 1) 0
  rw [Bay.upsettStops_eq x hr ha, Bay.demandUsed]
  refine ⟨?stopped, ?ok, by simpa using cause, by simpa using ch, by simp, by simp⟩
  case stopped => simp [Bay.each_keeps (fun b => b.safe.stopped) _ Bay.demand_stopped, Bay.silence]
  case ok => obtain ok | ok := chOk_cases x <;> simp [ok, Bay.silence]

theorem Bay.demandUsed_dem {i : Nat} (hi : i < 8) (hu : b.eval i ≠ 0) (hl : b.safe.pairs.length = 8) : (b.demandUsed.safe.pair i).dem = true :=
  Bay.each_demand (mem_pairsUsed hi hu) (hl ▸ hi)

/-- A self-test that fails leaves the channel's OK bit at 0 and cause 8 with its number, whatever it drives (R330). -/
theorem Bay.upsettFault_latches (x : Fin 2) (hr : b.reads x = true) (ha : b.setActive = true) (hf : b.safe.faults = []) :
    (b.upsettFault x).rd (chOk x) = 0 ∧ (b.upsettFault x).rd F.SAFE_FLT_CAUSE = 8 ∧ (b.upsettFault x).rd F.SAFE_FLT_CH = x.val + 1 := by
  by_cases asks : b.rd F.SAFE_STAT_MODE = 1 ∧ b.safe.handover = none
  · exact (Bay.upsettFault_asks x asks.1 asks.2 hf).2
  · obtain ⟨-, ok, cause, ch, -, -⟩ := Bay.upsettStops_of_drive x hr ha hf
    rw [Bay.upsettFault, if_neg (by simpa using asks)]
    exact ⟨ok, cause, ch⟩

/-! ## The safety 24 V lost (R336) -/

/-- The loss of the safety 24 V: cause 10, every pair in demand, every output off. -/
def Bay.supplyLost (b : Bay) : Bay :=
  (((b.setFlag F.SAFE_STAT_SUPPLY_OK false).latchFault 10 0 3 0).demandUsed.dropTargets 0xF00).showPairs

theorem exec_safetySupplyLost (s : State) : exec .safetySupplyLost s = s.onBay Bay.supplyLost := rfl

theorem Bay.supplyLost_leaves (hf : b.safe.faults = []) (hu : ∀ i < 8, b.eval i ≠ 0) (hl : b.safe.pairs.length = 8) :
    b.supplyLost.rd F.SAFE_STAT_SUPPLY_OK = 0 ∧ b.supplyLost.rd F.SAFE_FLT_CAUSE = 10 ∧ (∀ i < 8, (b.supplyLost.safe.pair i).dem = true) ∧
      ∀ j < 4, (b.supplyLost.rdN F.SAFE_OUT_ON).testBit j = false := by
  obtain ⟨cause, -, -⟩ := Bay.latchFault_of_none (b := b.setFlag F.SAFE_STAT_SUPPLY_OK false) hf 10 0 3 0
  refine ⟨?ok, ?cause, fun i hi => ?dem, fun j hj => ?outs⟩
  case ok => simp [Bay.supplyLost, Bay.demandUsed]
  case cause => simpa [Bay.supplyLost, Bay.demandUsed] using cause
  case dem =>
    rw [Bay.supplyLost, Bay.showPairs_safe, Safe.pair_congr (Bay.dropTargets_apart _ _)]
    exact Bay.demandUsed_dem hi (by simpa [Bay.eval, Bay.rdN] using hu i hi) (by simpa using hl)
  case outs =>
    have out : Nat.testBit 0xF00 (8 + j) = true := (by decide : ∀ j < 4, Nat.testBit 0xF00 (8 + j) = true) j hj
    simpa [Bay.supplyLost, Bay.rdN] using Bay.dropTargets_outOff _ _ out

/-! ## The end of the degraded time (R329) -/

/-- Pair i goes into demand and waits for reset, its targets off at cycle `at_`. -/
def Bay.expirePair (at_ : Nat) (b : Bay) (i : Nat) : Bay :=
  let p := b.safe.pair i
  (b.setSafe (b.safe.setPair i { p with dem := true, wait := true, stopAt := if p.dem then p.stopAt else some at_ })).note (160 + i)

/-- The bay once every pair that the active set uses has gone into demand at the end of the degraded time. -/
def Bay.expirePairs (b : Bay) (at_ : Nat) : Bay := b.each ((List.range 8).filter (fun i => b.eval i != 0)) (Bay.expirePair at_)

@[simp] theorem Bay.expirePairs_rd (at_ : Nat) {k : Key} (hk : k.loc ∉ [(F.EVT_STAT_LOST).loc]) : (b.expirePairs at_).rd k = b.rd k := by
  simp at hk
  exact Bay.each_rd (fun b i => by simp [Bay.expirePair, hk]) b _

@[simp] theorem Bay.expirePairs_expired (at_ : Nat) : (b.expirePairs at_).safe.expired = b.safe.expired :=
  Bay.each_keeps (fun b => b.safe.expired) _ (fun b i => by simp [Bay.expirePair, Safe.setPair]) b _

theorem Bay.expirePairs_pair {i : Nat} (at_ : Nat) (hi : i < 8) (hu : b.eval i ≠ 0) (hl : b.safe.pairs.length = 8) :
    ((b.expirePairs at_).safe.pair i).dem = true ∧ ((b.expirePairs at_).safe.pair i).wait = true := by
  refine Bay.each_reaches (P := fun b => b.safe.pairs.length = 8) (Q := fun b => b.safe.pairs.length = 8 ∧ (b.safe.pair i).dem = true ∧ (b.safe.pair i).wait = true)
    (fun b n _ h => ?before) (fun b h => ?turn) (fun b n h => ?after) (mem_pairsUsed hi hu) hl |>.2
  case before => simpa [Bay.expirePair] using h
  case turn => simp [Bay.expirePair, Safe.pair_setPair_same _ (h ▸ hi), h]
  case after =>
    by_cases own : n = i
    · subst own
      simp [Bay.expirePair, Safe.pair_setPair_same _ (h.1 ▸ hi), h.1]
    · simpa [Bay.expirePair, Safe.pair_setPair_ne _ _ own] using h

/-- The end of the degraded time is latched, and every pair goes into demand. -/
def Bay.degradedSpent (b : Bay) : Bay :=
  ((b.setSafe { b.safe with expired := true }).latchFault 11 0 0 0).expirePairs (b.safe.cycle + 2 * b.rdN F.SAFE_GLB_CFG0_T_STOP1)

/-- Then the bay stops. -/
def Bay.degradedEnds (b : Bay) : Bay := (((b.degradedSpent.stopRequest allTargets).rtStop).safetyStop).showPairs

theorem exec_degradedTimeExpire (s : State) : exec .degradedTimeExpire s = s.onBay (fun b =>
    if (b.rd F.SAFE_STAT_MODE = 2 || b.rd F.SAFE_STAT_MODE = 3) && b.safe.degr = 0 && !b.safe.expired then b.degradedEnds else b) := rfl

theorem Bay.degradedSpent_pair (hu : ∀ i < 8, b.eval i ≠ 0) (hl : b.safe.pairs.length = 8) {i : Nat} (hi : i < 8) :
    (b.degradedSpent.safe.pair i).dem = true ∧ (b.degradedSpent.safe.pair i).wait = true :=
  Bay.expirePairs_pair _ hi (by simpa [Bay.eval, Bay.rdN] using hu i hi) (by simpa using hl)

theorem Bay.degradedSpent_cause (hf : b.safe.faults = []) : b.degradedSpent.rd F.SAFE_FLT_CAUSE = 11 := by
  obtain ⟨cause, -, -⟩ := Bay.latchFault_of_none (b := b.setSafe { b.safe with expired := true }) hf 11 0 0 0
  simpa [Bay.degradedSpent] using cause

@[simp] theorem Bay.degradedSpent_expired : b.degradedSpent.safe.expired = true := by
  simp [Bay.degradedSpent]

@[simp] theorem Bay.degradedSpent_mode : b.degradedSpent.mode = b.mode := by
  simp [Bay.degradedSpent, Bay.mode]

theorem Bay.degradedEnds_apart : b.degradedEnds.safe.apart = b.degradedSpent.safe.apart := by
  simp [Bay.degradedEnds]

theorem Bay.degradedEnds_stops (hm : b.mode = Mode.energized) : 2 ∈ b.degradedEnds.modeSt.stops := by
  have mode : ((b.degradedSpent.stopRequest allTargets).rtStop).mode = Mode.energized := calc
    _ = b.degradedSpent.mode := by simp [Bay.mode]
    _ = Mode.energized := Bay.degradedSpent_mode.trans hm
  rw [Bay.degradedEnds, Bay.showPairs_modeSt]
  exact Bay.safetyStop_stops (by rw [mode]; decide) (by rw [mode]; decide)

theorem Bay.degradedEnds_leaves (hf : b.safe.faults = []) (hm : b.mode = Mode.energized) (hu : ∀ i < 8, b.eval i ≠ 0) (hl : b.safe.pairs.length = 8) :
    b.degradedEnds.safe.expired = true ∧ b.degradedEnds.rd F.SAFE_FLT_CAUSE = 11 ∧ 2 ∈ b.degradedEnds.modeSt.stops ∧
      ∀ i < 8, (b.degradedEnds.safe.pair i).dem = true ∧ (b.degradedEnds.safe.pair i).wait = true := by
  refine ⟨?expired, ?cause, Bay.degradedEnds_stops hm, fun i hi => ?pair⟩
  case expired => exact (Safe.congr_of_apart (g := Safe.expired) (fun _ => rfl) Bay.degradedEnds_apart).trans Bay.degradedSpent_expired
  case cause => simpa [Bay.degradedEnds] using Bay.degradedSpent_cause hf
  case pair =>
    rw [Safe.pair_congr Bay.degradedEnds_apart]
    exact Bay.degradedSpent_pair hu hl hi

/-! ## ACTIVATE (R333) -/

/-- The bay with set `p` in force. -/
def Bay.activated (b : Bay) (p : SafeSet) : Bay :=
  let b := (b.dropTargets allTargets).showSet p.bytes
  let b := b.setSafe { b.safe with pend := none, active := some p, pairs := List.replicate 8 { dem := true, wait := true }, hands := List.replicate 4 {} }
  let b := ((b.setFlag F.SAFE_STAT_PEND_OK false).wr F.SAFE_PEND_ID 0).wr F.SAFE_PEND_CRC 0
  let b := (b.wr F.SAFE_STAT_MODE 1).wr F.SAFE_DEGR_LEFT (b.rd F.SAFE_GLB_CFG0_T_DEGR * 60)
  (b.showPairs).note 175

theorem Bay.activate_of_may {p : SafeSet} (hg : b.gate F.SAFE_CTL_ACTIVATE = none) (hm : b.mayActivate = true) (hp : b.safe.pend = some p) :
    b.activate = b.activated p := by
  have service : b.mode = Mode.service := Decidable.byContradiction fun other => by
    simp [Bay.mayActivate, other] at hm
  rw [Bay.activate, Bay.gated_open hg, if_neg (by simp [service]), if_neg (by simp [hm]), hp]
  rfl

theorem Bay.activated_pair (p : SafeSet) {i : Nat} (hi : i < 8) : (b.activated p).safe.pair i = { dem := true, wait := true } := by
  have pairs : (b.activated p).safe.pairs = List.replicate 8 { dem := true, wait := true } := by simp [Bay.activated]
  rw [Safe.pair, pairs, List.getD_eq_getElem?_getD, List.getElem?_replicate_of_lt hi]
  rfl

theorem Bay.activated_rd (p : SafeSet) :
    (b.activated p).rd F.SAFE_STAT_PEND_OK = 0 ∧ (b.activated p).rd F.SAFE_STAT_MODE = 1 ∧ (b.activated p).rd F.SAFE_LINES_ON = 0 ∧
      (b.activated p).rd F.SAFE_OUT_ON = 0 ∧ (b.activated p).rd F.SAFE_PAR_ID = u32At p.bytes 4 := by
  refine ⟨by simp [Bay.activated], by simp [Bay.activated], by simp [Bay.activated], by simp [Bay.activated], ?_⟩
  simp [Bay.activated, Bay.showSet]

end
end Sys2Proof.Machine

namespace Sys2Proof

open Sys2Proof.Machine

/-- Settles O39: the first fault latched is the one shown, demands leave it and each other, and dropping every target leaves none on. -/
theorem safetySupplyHandoverAndRejoin : Obligations.SafetySupplyHandoverAndRejoin := by
  unfold Obligations.SafetySupplyHandoverAndRejoin
  intro s
  refine ⟨?lost, ?restored, ?hoCa, ?hoCb, ?hoRefused, ?asks, ?silent, ?warn, ?expire, ?tested, ?failed, ?rejoin, ?activate, ?notService⟩
  case lost =>
    intro hf hu hl
    exact completes_onBay (exec_safetySupplyLost s) (Bay.supplyLost_leaves hf hu hl)
  case restored =>
    apply completes_onBay (exec_safetySupplyRestored s)
    simp +contextual [keepsRegs]
  case hoCa =>
    intro hg hm hh
    exact completes_onBay (exec_hoCa s) (Bay.hostHandover_begins hg hm hh)
  case hoCb =>
    intro hg hm hh
    exact completes_onBay (exec_hoCb s) (Bay.hostHandover_begins hg hm hh)
  case hoRefused =>
    intro hg hm
    apply completes_onBay (exec_hoCa s)
    rw [Bay.hostHandover, Bay.gated_open hg, if_neg (by simp [hm])]
  case asks =>
    intro x hm hh hf
    exact completes_onBay (exec_upsettSilent s x true) (Bay.upsettFault_asks x hm hh hf)
  case silent =>
    intro x hm hf
    obtain ⟨stopped, ok, cause, -, lines, outs⟩ := Bay.upsettStops_of_drive (b := s.bay) x (by simp [Bay.reads, hm]) (by simp [Bay.setActive, hm]) hf
    exact completes_onBay (exec_upsettSilent s x false) ⟨stopped, ok, cause, lines, outs⟩
  case warn =>
    intro hm hd hw
    apply completes_onBay (exec_degradedWarn s)
    rw [if_pos (by simp [hm, hd, hw])]
    simp +contextual [keepsRegs]
  case expire =>
    intro hm hd he hf hs hu hl
    apply completes_onBay (exec_degradedTimeExpire s)
    rw [if_pos (by simp [hm, hd, he])]
    exact Bay.degradedEnds_leaves hf hs hu hl
  case tested =>
    intro x hm ha hca hcb hst
    apply completes_onBay (exec_upsettSelfTestDone s x true true false)
    have ok : s.bay.rd (chOk x) = 1 := by obtain ok | ok := chOk_cases x <;> simp [ok, hca, hcb]
    have same : ∀ k, (s.bay.setFlag (chOk x) true).rd k = s.bay.rd k := fun k => by
      by_cases own : k = chOk x
      · subst own; simp [ok]
      · simp [own]
    simp +contextual [same, hm, ha, hca, hcb, hst, Bay.flag, keepsRegs, Bay.onlyIf]
  case failed =>
    intro x hf
    apply completes_onBay (exec_upsettSelfTestDone s x false false false)
    by_cases inDrive : s.bay.setActive = true ∧ s.bay.reads x = true
    · simpa [inDrive] using Bay.upsettFault_latches x inDrive.2 inDrive.1 hf
    · obtain ⟨cause, -, ch⟩ := Bay.latchFault_of_none (b := s.bay.setFlag (chOk x) false) hf 8 0 (x + 1) 0
      simp only [Bool.not_false, if_true, Bool.and_eq_true, inDrive, if_false]
      refine ⟨?_, cause, by simpa using ch⟩
      obtain ok | ok := chOk_cases x <;> simp [ok]
  case rejoin =>
    intro x n hr hn hok
    apply completes_onBay (exec_upsettRejoin s x)
    simp +contextual [hr, hn, hok, keepsRegs]
  case activate =>
    intro p hg hm hp
    obtain ⟨pendOk, mode, lines, outs, parId⟩ := Bay.activated_rd (b := s.bay) p
    apply completes_onBay (exec_activate s)
    rw [Bay.activate_of_may hg hm hp]
    exact ⟨by simp [Bay.activated], by simp [Bay.activated], pendOk, mode, lines, outs, parId, fun i hi => by simp [Bay.activated_pair p hi]⟩
  case notService =>
    intro hg hm
    apply completes_onBay (exec_activate s)
    rw [Bay.activate, Bay.gated_open hg, if_pos hm]

end Sys2Proof
end

section
/-! PROOFS. The safety controller: its cycle, discrepancies, CAT 1 stops, test pulses, line tests and resets (R307 to R326). -/

namespace Sys2Proof.Machine

/-! ## The meaning each row runs -/

section
variable (s : State)

theorem exec_safetyCycle (j : SafeIn) : exec (.safetyCycle j) s = execSafetyCycle j s := rfl
theorem exec_cat1Stop (i : Fin 8) : exec (.cat1Stop i) s = execCat1Stop i s := rfl
theorem exec_testPulse (t : PulseTest) : exec (.testPulse t) s = execTestPulse t s := rfl
theorem exec_lineTestDue : exec .lineTestDue s = execLineTestDue s := rfl
theorem exec_feedbackTimeout (j : Fin 4) : exec (.feedbackTimeout j) s = execFeedbackTimeout j s := rfl
theorem exec_resetPress (ms skew : Nat) : exec (.resetPress ms skew) s = execResetPress ms skew s := rfl
theorem exec_resetStuck : exec .resetStuck s = execResetStuck s := rfl

end

/-! ## Every part of a cycle leaves the count of cycles (R307) -/

theorem Bay.each_cycle {f : Bay → Nat → Bay} (h : ∀ b n, (f b n).safe.cycle = b.safe.cycle) (b : Bay) (l : List Nat) :
    (b.each l f).safe.cycle = b.safe.cycle := Bay.each_keeps (fun b => b.safe.cycle) f h b l

theorem Bay.onlyIf_cycle {f : Bay → Bay} (h : ∀ b, (f b).safe.cycle = b.safe.cycle) (b : Bay) (c : Bool) :
    (b.onlyIf c f).safe.cycle = b.safe.cycle := Bay.onlyIf_keeps (fun b => b.safe.cycle) f h b c

section
variable (b : Bay)

@[simp] theorem Bay.ite_cycle (c : Prop) [Decidable c] (x y : Bay) :
    (if c then x else y).safe.cycle = if c then x.safe.cycle else y.safe.cycle := by split <;> rfl

theorem Bay.cycle_congr {b b' : Bay} (h : b.safe.apart = b'.safe.apart) : b.safe.cycle = b'.safe.cycle :=
  Safe.congr_of_apart (g := Safe.cycle) (fun _ => rfl) h

@[simp] theorem Bay.drive_cycle (t : Nat) : (b.drive t).safe.cycle = b.safe.cycle := Bay.cycle_congr (b.drive_apart t)
@[simp] theorem Bay.dropTargets_cycle (m : Nat) : (b.dropTargets m).safe.cycle = b.safe.cycle := Bay.cycle_congr (b.dropTargets_apart m)
@[simp] theorem Bay.safeAllOff_cycle : b.safeAllOff.safe.cycle = b.safe.cycle := Bay.cycle_congr b.safeAllOff_apart
@[simp] theorem Bay.secondFault_cycle : b.secondFault.safe.cycle = b.safe.cycle := Bay.cycle_congr b.secondFault_apart

@[simp] theorem Safe.setPair_cycle (x : Safe) (i : Nat) (p : SafePairSt) : (x.setPair i p).cycle = x.cycle := rfl

@[simp] theorem Bay.permit_cycle (i : Nat) : (b.permit i).safe.cycle = b.safe.cycle := by
  simp [Bay.permit]

@[simp] theorem Bay.takeInput_cycle (k : Nat) : (b.takeInput k).safe.cycle = b.safe.cycle := by
  simp [Bay.takeInput]

@[simp] theorem Bay.findShorts_cycle (m : Nat) : (b.findShorts m).safe.cycle = b.safe.cycle :=
  Bay.each_cycle (fun b k => b.latchFault_cycle 1 k 3 0) _ _

@[simp] theorem Bay.handCycle_cycle (i : Nat) : (b.handCycle i).safe.cycle = b.safe.cycle := by
  simp [Bay.handCycle]

@[simp] theorem Bay.pairCycle_cycle (i : Nat) : (b.pairCycle i).safe.cycle = b.safe.cycle := by
  simp [Bay.pairCycle, Bay.onlyIf_cycle (fun b => b.handCycle_cycle i) b]

@[simp] theorem Bay.applyReset_cycle : b.applyReset.safe.cycle = b.safe.cycle := by
  simp only [Bay.applyReset]
  split
  · rfl
  · refine (Bay.onlyIf_cycle (fun b => by simp) _ _).trans ?_
    simp only [Bay.showFault_safe, Bay.wr_safe, Bay.setSafe_safe]
    exact Bay.each_cycle (fun b i => Bay.onlyIf_cycle (fun b => by simp) b _) b _

@[simp] theorem Bay.handoverCycle_cycle : b.handoverCycle.safe.cycle = b.safe.cycle := by
  simp only [Bay.handoverCycle, Bay.onlyIf]
  repeat' split
  all_goals simp

@[simp] theorem Bay.degrCycle_cycle : b.degrCycle.safe.cycle = b.safe.cycle := by
  simp [Bay.degrCycle]

@[simp] theorem Bay.linkCycle_cycle (j : SafeIn) : (b.linkCycle j).safe.cycle = b.safe.cycle := by
  simp [Bay.linkCycle, Bay.onlyIf]

@[simp] theorem Bay.sresetCycle_cycle : b.sresetCycle.safe.cycle = b.safe.cycle := by
  simp [Bay.sresetCycle, Bay.onlyIf]

@[simp] theorem Bay.shortCycle_cycle : b.shortCycle.safe.cycle = b.safe.cycle := by
  simp only [Bay.shortCycle]
  split <;> simp

@[simp] theorem Bay.outputCycle_cycle (j : SafeIn) : (b.outputCycle j).safe.cycle = b.safe.cycle :=
  Bay.each_cycle (fun b k => by simp) _ _

@[simp] theorem Bay.rejoinCycle_cycle (j : SafeIn) : (b.rejoinCycle j).safe.cycle = b.safe.cycle := by
  simp only [Bay.rejoinCycle]
  split <;> simp

@[simp] theorem Bay.outputsPass_cycle (j : SafeIn) : (b.outputsPass j).safe.cycle = b.safe.cycle :=
  Bay.each_cycle (f := fun b j => b.setSafe { b.safe with passed := setBitN b.safe.passed (8 + j) }) (fun _ _ => rfl) _ _

end

/-! ## What a cycle shows of its inputs (R309, R321) -/

section
variable (b : Bay)

theorem Bay.handoverCycle_shown {k : Key} (hk : k = F.SAFE_OUT_FB ∨ k = F.SAFE_STAT_XLINK_OK) : b.handoverCycle.rd k = b.rd k := by
  simp only [Bay.handoverCycle, Bay.onlyIf]
  obtain rfl | rfl := hk
  all_goals
    repeat' split
    all_goals simp

@[simp] theorem Bay.handoverCycle_outFb : b.handoverCycle.rd F.SAFE_OUT_FB = b.rd F.SAFE_OUT_FB := b.handoverCycle_shown (.inl rfl)
@[simp] theorem Bay.handoverCycle_xlink : b.handoverCycle.rd F.SAFE_STAT_XLINK_OK = b.rd F.SAFE_STAT_XLINK_OK := b.handoverCycle_shown (.inr rfl)

@[simp] theorem Bay.shortCycle_xlink : b.shortCycle.rd F.SAFE_STAT_XLINK_OK = b.rd F.SAFE_STAT_XLINK_OK := by
  simp only [Bay.shortCycle]
  split <;> simp

@[simp] theorem Bay.linkCycle_xlink (j : SafeIn) : (b.linkCycle j).rd F.SAFE_STAT_XLINK_OK = if j.link then 1 else 0 := by
  simp [Bay.linkCycle]

@[simp] theorem Bay.outputCycle_outFb (j : SafeIn) : (b.outputCycle j).rd F.SAFE_OUT_FB = j.fb.toNat := by
  simp [Bay.outputCycle]

/-- A cycle up to the word it drives. -/
def Bay.cycleDecides (b : Bay) (i : SafeIn) : Bay :=
  let x := b.safe
  let b := b.setSafe { x with cycle := x.cycle + 1, fa := b.runFilter x.fa i.a.toNat i.ua.toNat, fb := b.runFilter x.fb i.b.toNat i.ub.toNat }
  let b := (b.linkCycle i).each (List.range 16) (fun b k => b.takeInput k)
  let b := ((b.findShorts i.shorts.toNat).sresetCycle).shortCycle
  let b := ((b.outputsPass i).outputCycle i).rejoinCycle i
  let b := b.wr F.SAFE_IN_SI (b.safe.taken : Nat)
  let b := b.each (List.range 8) (fun b k => b.pairCycle k)
  (((b.applyReset).handoverCycle).degrCycle).secondFault

theorem Bay.safetyCycle_eq (j : SafeIn) : b.safetyCycle j = ((((b.cycleDecides j).drive (b.cycleDecides j).wanted).showPairs).showLineAge).showSafe := rfl

theorem Bay.cycleDecides_cycle (j : SafeIn) : (b.cycleDecides j).safe.cycle = b.safe.cycle + 1 := by
  simp [Bay.cycleDecides, Bay.each_cycle Bay.takeInput_cycle, Bay.each_cycle Bay.pairCycle_cycle]

theorem Bay.cycleDecides_outFb (j : SafeIn) : (b.cycleDecides j).rd F.SAFE_OUT_FB = j.fb.toNat := by
  simp [Bay.cycleDecides]

theorem Bay.cycleDecides_xlink (j : SafeIn) : (b.cycleDecides j).rd F.SAFE_STAT_XLINK_OK = if j.link then 1 else 0 := by
  simp [Bay.cycleDecides]

end

/-! ## The lines a cycle drives (R316, R318) -/

/-- A line that a pair in demand names is not wanted, that pair's CAT 1 delay apart. -/
theorem Bay.not_wanted_of_dem {b : Bay} {k i : Nat} (hk : k < 7) (hi : i < 8) (names : (b.act i).testBit k = true)
    (dem : (b.safe.pair i).dem = true) (noDelay : (b.safe.pair i).stopAt = none) : b.wanted.testBit k = false := by
  refine Bool.eq_false_iff.2 fun wanted => ?_
  have may := Bay.mayEnergise_of_wanted hk wanted
  simp only [Bay.mayEnergise, Bool.and_eq_true, List.all_eq_true, List.mem_range] at may
  simpa [names, SafePairSt.ok, dem, noDelay] using may.2 i hi

theorem Bay.safetyCycle_line {b : Bay} {j : SafeIn} {k i : Nat} (hk : k < 7) (hi : i < 8) (names : ((b.safetyCycle j).act i).testBit k = true)
    (dem : ((b.safetyCycle j).safe.pair i).dem = true) (noDelay : ((b.safetyCycle j).safe.pair i).stopAt = none) :
    ((b.safetyCycle j).rdN F.SAFE_LINES_ON).testBit k = false := by
  rw [Bay.safetyCycle_eq] at names dem noDelay ⊢
  generalize b.cycleDecides j = d at names dem noDelay ⊢
  have same : ((((d.drive d.wanted).showPairs).showLineAge).showSafe).safe.pair i = d.safe.pair i := by
    simpa using Safe.pair_congr (d.drive_apart d.wanted) i
  rw [same] at dem noDelay
  have off := Bay.not_wanted_of_dem hk hi (by simpa [Bay.act, Bay.rdN] using names) dem noDelay
  simp [Bay.rdN, off]

/-! ## A discrepancy (R314) -/

/-- Pair i with its discrepancy noted. -/
def Bay.noteDisc (b : Bay) (i : Nat) : Bay := (b.setSafe (b.safe.setPair i { b.safe.pair i with disc := true, discSeen := 0 })).note (160 + i)

/-- A discrepancy puts the pair in demand and is latched. -/
def Bay.discrepant (b : Bay) (i : Nat) : Bay :=
  ((((b.noteDisc i).demand i).latchFault 3 i 3 ((b.noteDisc i).act i)).secondFault).showPairs

theorem exec_discrepancyFault (i : Fin 8) (s : State) : exec (.discrepancyFault i) s = s.onBay (fun b =>
    if 2 * b.rdN (F.PAIR_CFG0_T_DISC i) < (b.safe.pair i).discCnt && !(b.safe.pair i).disc then b.discrepant i else b) := rfl

theorem Bay.discrepant_pair {b : Bay} {i : Nat} (hi : i < b.safe.pairs.length) :
    ((b.discrepant i).safe.pair i).disc = true ∧ ((b.discrepant i).safe.pair i).dem = true := by
  have noted : (b.noteDisc i).safe = b.safe.setPair i { b.safe.pair i with disc := true, discSeen := 0 } := by simp [Bay.noteDisc]
  have there : i < (b.noteDisc i).safe.pairs.length := by simpa [noted] using hi
  have tail : (b.discrepant i).safe.pair i = ((b.noteDisc i).demand i).safe.pair i := Safe.pair_congr (by simp [Bay.discrepant]) i
  rw [tail]
  refine ⟨?disc, Bay.demand_dem there⟩
  rw [Bay.demand_keeps_disc there, noted, Safe.pair_setPair_same _ hi]

theorem Bay.discrepant_fault {b : Bay} (i : Nat) (hf : b.safe.faults = []) :
    (b.discrepant i).rd F.SAFE_FLT_CAUSE = 3 ∧ (b.discrepant i).rd F.SAFE_FLT_DETAIL = i := by
  have none : ((b.noteDisc i).demand i).safe.faults = [] := by simpa [Bay.noteDisc, Safe.setPair] using hf
  obtain ⟨cause, detail, -⟩ := Bay.latchFault_of_none none 3 i 3 ((b.noteDisc i).act i)
  exact ⟨by simpa [Bay.discrepant] using cause, by simpa [Bay.discrepant] using detail⟩

/-! ## CAT 1 stops (R318) -/

theorem Bay.cat1Stop_of_due {b : Bay} {i t : Nat} (hs : (b.safe.pair i).stopAt = some t) (ht : t ≤ b.safe.cycle) :
    b.cat1Stop i = (b.setSafe (b.safe.setPair i { b.safe.pair i with stopAt := none })).dropTargets (b.act i) := by
  simp [Bay.cat1Stop, hs, Nat.not_lt.2 ht]

theorem Bay.cat1Stop_of_early {b : Bay} {i t : Nat} (hs : (b.safe.pair i).stopAt = some t) (ht : b.safe.cycle < t) : b.cat1Stop i = b := by
  simp [Bay.cat1Stop, hs, ht]

/-! ## Lines and outputs whose test fails (R319, R321, R322) -/

section
variable {b : Bay}

/-- A fault is latched and the targets of a mask drop. -/
def Bay.failDrop (b : Bay) (cause detail m : Nat) : Bay := ((b.latchFault cause detail 3 m).dropTargets m).secondFault

theorem Bay.failDrop_leaves (hf : b.safe.faults = []) (cause detail m : Nat) :
    (b.failDrop cause detail m).rd F.SAFE_FLT_CAUSE = cause ∧ (b.failDrop cause detail m).rd F.SAFE_FLT_DETAIL = detail ∧
      ∀ k, m.testBit k = true → ((b.failDrop cause detail m).rdN F.SAFE_LINES_ON).testBit k = false := by
  obtain ⟨first, second, -⟩ := Bay.latchFault_of_none hf cause detail 3 m
  exact ⟨by simpa [Bay.failDrop] using first, by simpa [Bay.failDrop] using second,
    fun k hk => Bay.secondFault_off (.inl rfl) (Bay.dropTargets_lineOff _ _ hk)⟩

/-- Static line l has been tested now. -/
def Bay.lineTested (b : Bay) (l : Nat) (pass : Bool) : Bay :=
  let x := b.safe
  (b.setSafe { x with
    lineT := x.lineT.set l b.now, lineDue := clearBitN x.lineDue l
    passed := if pass then setBitN x.passed l else clearBitN x.passed l }).showLineAge

theorem exec_lineTest (k : Fin 6) (pass : Bool) (s : State) : exec (.lineTest k pass) s = s.onBay (fun b =>
    if !(b.lineTestable (k + 1) && b.lineTestDue (k + 1)) then b
    else if pass then b.lineTested (k + 1) pass
    else (b.lineTested (k + 1) pass).failDrop 6 (k + 1) (2 ^ ((k : Nat) + 1))) := rfl

theorem Bay.showLineAge_keepsRegs (b : Bay) : keepsRegs b b.showLineAge [F.SAFE_LTEST_AGE, F.SAFE_STAT_LTEST_DUE] := by
  simp only [Bay.showLineAge, Bay.onlyIf]
  split <;> simp +contextual [keepsRegs]

theorem Bay.lineTested_pass {l : Nat} (hl : l < b.safe.lineT.length) :
    (b.lineTested l true).safe.lineT.getD l 0 = b.now ∧ (b.lineTested l true).safe.passed = setBitN b.safe.passed l ∧
      keepsRegs b (b.lineTested l true) [F.SAFE_LTEST_AGE, F.SAFE_STAT_LTEST_DUE] :=
  ⟨by simp [Bay.lineTested, hl], by simp [Bay.lineTested], Bay.showLineAge_keepsRegs _⟩

theorem Bay.latchFault_keepsRegs (b : Bay) (cause detail ch act : Nat) :
    keepsRegs b (b.latchFault cause detail ch act) [F.SAFE_FLT_CAUSE, F.SAFE_FLT_DETAIL, F.SAFE_FLT_CH, F.EVT_STAT_LOST] := by
  simp only [Bay.latchFault, Bay.showFault]
  repeat' split
  all_goals simp +contextual [keepsRegs]

/-- Output j has failed: OUT_FLT shows it, its fault is latched with event 168 and it drops. -/
def Bay.outputFails (b : Bay) (cause : Nat) (j : Nat) : Bay :=
  ((((b.wr F.SAFE_OUT_FLT b.safe.outBad).latchFault cause j 3 (2 ^ (8 + j))).note 168).dropTargets (2 ^ (8 + j))).secondFault

theorem Bay.outputFails_leaves (hf : b.safe.faults = []) {j : Nat} (hj : b.safe.outBad.testBit j = true) (cause : Nat) :
    (b.outputFails cause j).rd F.SAFE_FLT_CAUSE = cause ∧ (b.outputFails cause j).rd F.SAFE_FLT_DETAIL = j ∧
      ((b.outputFails cause j).rdN F.SAFE_OUT_ON).testBit j = false ∧ ((b.outputFails cause j).rdN F.SAFE_OUT_FLT).testBit j = true := by
  obtain ⟨first, second, -⟩ := Bay.latchFault_of_none (b := b.wr F.SAFE_OUT_FLT b.safe.outBad) hf cause j 3 (2 ^ (8 + j))
  refine ⟨by simpa [Bay.outputFails] using first, by simpa [Bay.outputFails] using second, ?_, by simpa [Bay.outputFails, Bay.rdN] using hj⟩
  exact Bay.secondFault_off (.inr rfl) (Bay.dropTargets_outOff _ _ (Nat.testBit_two_pow_self ..))

end

end Sys2Proof.Machine

namespace Sys2Proof

open Sys2Proof.Machine

/-- Settles O38: the last thing a cycle does is to drive what every pair lets on, and each fault drops its own targets when it is latched. -/
theorem safetyCycleTestsAndResets : Obligations.SafetyCycleTestsAndResets := by
  unfold Obligations.SafetyCycleTestsAndResets
  intro s
  refine ⟨?cycle, ?disc, ?cat1, ?cat1Early, ?stoPass, ?stoFail, ?outputFail, ?linePass, ?lineFail, ?lineDue, ?feedback, ?reset, ?refused, ?stuck⟩
  case cycle =>
    intro j
    apply completes_onBay (exec_safetyCycle s j)
    refine ⟨?count, ?fb, ?link, fun k hk i hi => Bay.safetyCycle_line hk hi⟩
    case count =>
      rw [Bay.safetyCycle_eq]
      simp [Bay.cycleDecides_cycle]
    case fb => simp [Bay.safetyCycle_eq, Bay.cycleDecides_outFb]
    case link => cases link : j.link <;> simp [Bay.safetyCycle_eq, Bay.cycleDecides_xlink, link]
  case disc =>
    intro i hd hn hl hf
    apply completes_onBay (exec_discrepancyFault i s)
    rw [if_pos (by simp [hd, hn])]
    obtain ⟨disc, dem⟩ := Bay.discrepant_pair (b := s.bay) (i := i) (by omega)
    exact ⟨disc, dem, Bay.discrepant_fault i hf⟩
  case cat1 =>
    intro i t hs ht hl
    have there : (i : Nat) < s.bay.safe.pairs.length := by omega
    apply completes_onBay (exec_cat1Stop s i)
    rw [Bay.cat1Stop_of_due hs ht]
    refine ⟨?_, fun k _ names => Bay.dropTargets_lineOff _ _ names⟩
    rw [Safe.pair_congr (Bay.dropTargets_apart _ _), Bay.setSafe_safe, Safe.pair_setPair_same _ there]
  case cat1Early =>
    intro i t hs ht
    exact completes_onBay (exec_cat1Stop s i) (Bay.cat1Stop_of_early hs ht)
  case stoPass =>
    apply completes_onBay (exec_testPulse s (.sto true))
    simp [Bay.testPulse, keepsRegs]
  case stoFail =>
    intro hf
    obtain ⟨cause, detail, lines⟩ := Bay.failDrop_leaves (b := s.bay.setSafe { s.bay.safe with passed := clearBitN s.bay.safe.passed 0 }) hf 6 0 1
    exact completes_onBay (exec_testPulse s (.sto false)) ⟨cause, detail, lines 0 rfl⟩
  case outputFail =>
    intro j hc hf
    apply completes_onBay (exec_testPulse s (.output j false))
    rw [Bay.testPulse, if_neg (by simp [hc])]
    exact Bay.outputFails_leaves (b := s.bay.setSafe { s.bay.safe with passed := clearBitN s.bay.safe.passed (8 + j), outBad := setBitN s.bay.safe.outBad j })
      hf (by simp [testBit_setBitN]) 4
  case linePass =>
    intro k ht hd hl
    apply completes_onBay (exec_lineTest k true s)
    rw [if_neg (by simp [ht, hd]), if_pos rfl]
    exact Bay.lineTested_pass (by omega)
  case lineFail =>
    intro k ht hd hf
    obtain ⟨cause, detail, lines⟩ := Bay.failDrop_leaves (b := s.bay.lineTested (k + 1) false) (by simpa [Bay.lineTested] using hf) 6 (k + 1) (2 ^ ((k : Nat) + 1))
    apply completes_onBay (exec_lineTest k false s)
    rw [if_neg (by simp [ht, hd]), if_neg Bool.false_ne_true]
    exact ⟨cause, by simpa using detail, lines _ (Nat.testBit_two_pow_self ..)⟩
  case lineDue =>
    intro ho hd
    apply completes_onBay (exec_lineTestDue s)
    rw [if_pos (by simp [hd]; exact ho)]
    refine ⟨by simp, fun k hk => ?_⟩
    have age := s.bay.showLineAge_keepsRegs k
    simp at hk age
    simp [hk, age]
  case feedback =>
    intro j hc ht heq hf
    apply completes_onBay (exec_feedbackTimeout s j)
    rw [if_pos (by simp only [hc, ht, heq, decide_true, Bool.and_true])]
    exact Bay.outputFails_leaves (b := s.bay.setSafe { s.bay.safe with outBad := setBitN s.bay.safe.outBad j }) hf (by simp [testBit_setBitN]) 5
  case reset =>
    intro ms skew hk hlo hhi hst hbl hh
    apply completes_onBay (exec_resetPress s ms skew)
    simp +contextual [Bay.resetPress, Nat.not_lt.2 hk, Nat.not_lt.2 hlo, Nat.not_lt.2 hhi, hst, hbl, hh, keepsRegs]
  case refused =>
    intro ms skew hk hms
    apply completes_onBay (exec_resetPress s ms skew)
    simp [Bay.resetPress, Nat.not_lt.2 hk, hms]
  case stuck =>
    intro hc hs hf
    apply completes_onBay (exec_resetStuck s)
    rw [if_pos (by simp [hc, hs])]
    obtain ⟨cause, -, -⟩ := Bay.latchFault_of_none (b := s.bay.setFlag F.SAFE_RST_STUCK true) hf 12 0 3 0
    refine ⟨by simp, by simpa using cause, fun k hk => ?_⟩
    obtain ⟨stuck, fault⟩ := List.ne_and_not_mem_of_not_mem_cons hk
    exact (Bay.latchFault_keepsRegs _ 12 0 3 0 k fault).trans (Bay.rd_setFlag_of_ne _ _ stuck)

end Sys2Proof
end

section
/-! PROOFS. The pairing of the control cartridges: a lane or the link lost (R345, R349), and the joining sequence (R351, R352). -/

namespace Sys2Proof.Machine

section
variable (s : State)

theorem exec_pairingLaneLost (lane : Fin 2) (up : Bool) : exec (.pairingLaneLost lane up) s = execPairingLaneLost lane up s := rfl
theorem exec_pairingLinkLost (silent : Option (Fin 2)) : exec (.pairingLinkLost silent) s = execPairingLinkLost silent s := rfl
theorem exec_joinBootDone (x : Fin 2) (equal : Bool) : exec (.joinBootDone x equal) s = execJoinBootDone x equal s := rfl
theorem exec_bulkCopyDone : exec .bulkCopyDone s = execBulkCopyDone s := rfl
theorem exec_provingDone : exec .provingDone s = execProvingDone s := rfl

end

/-! ## Claims and the pairing's hidden state -/

section
variable (b : Bay)

theorem roleKey_cases (x : Nat) : roleKey x = F.RED_STAT_ROLE_CA ∨ roleKey x = F.RED_STAT_ROLE_CB := by
  unfold roleKey
  split
  · exact .inl rfl
  · exact .inr rfl

theorem roleKey_other_ne {x : Nat} (hx : x < 2) : ¬ roleKey (other x) = roleKey x := by
  obtain rfl | rfl : x = 0 ∨ x = 1 := by omega
  · decide
  · decide

@[simp] theorem Bay.setRed_red (r : Red) : (b.setRed r).red = r := rfl
@[simp] theorem Bay.setRed_setRed (r r' : Red) : (b.setRed r).setRed r' = b.setRed r' := rfl
@[simp] theorem Bay.setRole_red (x : Nat) (r : Int) : (b.setRole x r).red = b.red := rfl
@[simp] theorem Bay.redRecord_red (cause side detail : Int) : (b.redRecord cause side detail).red = b.red := rfl
@[simp] theorem Bay.svnKeep_red (x : Nat) : (b.svnKeep x).red = b.red := rfl

@[simp] theorem Bay.setRole_role_same (x : Nat) (r : Int) : (b.setRole x r).role x = r := Bay.rd_wr_same ..

theorem Bay.setRole_role_other {x : Nat} (hx : x < 2) (r : Int) : (b.setRole x r).role (other x) = b.role (other x) :=
  Bay.rd_wr_of_ne _ _ (roleKey_other_ne hx)

@[simp] theorem Bay.setRed_role (r : Red) (x : Nat) : (b.setRed r).role x = b.role x := rfl

@[simp] theorem Bay.note_role (src x : Nat) : (b.note src).role x = b.role x := by
  obtain key | key := roleKey_cases x <;> simp [Bay.role, key]

@[simp] theorem Bay.redRecord_role (cause side detail : Int) (x : Nat) : (b.redRecord cause side detail).role x = b.role x := by
  obtain key | key := roleKey_cases x <;> simp [Bay.role, key]

@[simp] theorem Bay.svnKeep_role (y x : Nat) : (b.svnKeep y).role x = b.role x := by
  obtain key | key := roleKey_cases x <;> simp [Bay.role, key]

@[simp] theorem Bay.redRecord_cause (cause side detail : Int) : (b.redRecord cause side detail).rd F.RED_FLT_CAUSE = cause := by
  simp [Bay.redRecord]

@[simp] theorem Bay.redRecord_side (cause side detail : Int) : (b.redRecord cause side detail).rd F.RED_FLT_SIDE = side := by
  simp [Bay.redRecord]

end

/-! ## A lane or the link lost (R345, R349) -/

section
variable {b : Bay}

theorem Bay.uncleanLockstep_of_noJoiner (h : b.anyJoining = false) : b.uncleanLockstep = b := by simp [Bay.uncleanLockstep, h]

theorem Bay.anyJoining_congr {b' : Bay} (hr : b'.red = b.red) (hs : b'.rd F.RED_STAT_SYNC = b.rd F.RED_STAT_SYNC) : b'.anyJoining = b.anyJoining := by
  simp [Bay.anyJoining, Bay.joining, hr, hs]

theorem Bay.laneChange_lane0_down (hl : b.flag F.RED_STAT_LANE0 = true) (hj : b.anyJoining = false) :
    b.laneChange 0 false = (b.setFlag F.RED_STAT_LANE0 false).note 179 := by
  have noJoiner : ((b.setFlag F.RED_STAT_LANE0 false).note 179).anyJoining = false := (Bay.anyJoining_congr (by simp) (by simp)).trans hj
  simp [Bay.laneChange, hl, Bay.onlyIf, Bay.uncleanLockstep_of_noJoiner noJoiner]

theorem Bay.pairFault_of_noWindow (h : b.red.wins = []) (side : Nat) : b.pairFault side = b := by simp [Bay.pairFault, h]

/-- With no window open a silent cartridge ends no group and stops no joining: it is recorded, claims nothing and opens the swap window (R350). -/
theorem Bay.goSilent_of_noWindow (x : Nat) (hs : b.red.silent = []) (hw : b.red.wins = []) :
    b.goSilent x = ((b.redRecord 1 (x + 1) 0).setRole x 0).setRed
      { b.red with silent := [x], out := b.red.out.filter (· != x), wins := [⟨2, x, b.now⟩] } := by
  simp [Bay.goSilent, Bay.pairFault_of_noWindow, Bay.openWin, Bay.winOpen, hs, hw]

theorem Bay.linkLost_of_silent {x : Nat} (hx : x < 2) (hs : b.red.silent = []) (hw : b.red.wins = []) (hr : b.role (other x) = 2) :
    b.linkLost (some x) = ((b.redRecord 1 (x + 1) 0).setRole x 0).setRed
      { b.red with silent := [x], out := b.red.out.filter (· != x), wins := [⟨2, x, b.now⟩], lift := some (other x) } := by
  have standby : (b.goSilent x).role (other x) = 2 := by
    rw [Bay.goSilent_of_noWindow x hs hw, Bay.setRed_role, Bay.setRole_role_other _ hx, Bay.redRecord_role, hr]
  rw [Bay.linkLost, if_pos standby, Bay.goSilent_of_noWindow x hs hw]
  rfl

/-- Both alive and no lane left: CB, the standby, lowers itself (R349). -/
theorem Bay.linkLost_of_standbyCB (hl : b.anyLane = false) (ha : b.role 0 = 3) (hb : b.role 1 = 2) (hj : b.anyJoining = false)
    (hw : b.red.wins = []) (ho : b.red.out = []) :
    b.linkLost none = (((b.redRecord 5 3 2).setRole 1 0).note 179).setRed { b.red with out := [1], wins := [⟨2, 1, b.now⟩] } := by
  obtain ⟨-, apart⟩ : b.joining 0 = false ∧ b.joining 1 = false := by simpa [Bay.anyJoining] using hj
  simp [Bay.linkLost, hl, ha, hb, apart, Bay.pairFault_of_noWindow, Bay.openWin, Bay.winOpen, hw, ho]

end

/-! ## The joining sequence (R351, R352) -/

theorem MemSys.cart_setCart_same (m : MemSys) (x : Nat) (c : CartMem) : (m.setCart x c).cart x = c := by
  by_cases h : x = 0 <;> simp [MemSys.cart, MemSys.setCart, h]

section
variable {s : State}

/-- A joiner at step 1 that has booted initialises its memories and compares the digests. -/
theorem exec_joinBootDone_of_step1 {x : Fin 2} (equal : Bool) (hj : s.bay.joining x = true) (hy : s.bay.rd F.RED_STAT_SYNC = 1) :
    exec (.joinBootDone x equal) s = (s.initMemory x).onBay (fun b => b.joinBooted x equal) := by
  rw [exec_joinBootDone, execJoinBootDone, if_neg (by simp [Bay.mayBoot, hj, hy]), if_pos hj]

theorem State.bulkCopy_of_noErrs {x : Nat} (he : (s.mem.ram (other x) 0).errs = []) :
    s.bulkCopy x = ({ s with mem := s.mem.setRam x 0 ((s.mem.ram x 0).takeHeld (s.mem.ram (other x) 0)) } : State).poisonCount x := by
  simp [State.bulkCopy, he]

theorem exec_bulkCopyDone_of_step3 {x : Nat} (hx : s.bay.red.joiner = some x) (hj : s.bay.joining x = true) (hy : s.bay.rd F.RED_STAT_SYNC = 3) :
    exec .bulkCopyDone s = (s.bulkCopy x).onBay (fun b => ((b.takeKey x).wr F.RED_STAT_SYNC 4).note 180) := by
  simp [exec_bulkCopyDone, execBulkCopyDone, hx, hj, hy]

end

/-- The state copy of a joiner is done: it claims 0b01 and lockstep starts to count (R351 step 4). -/
def Bay.stateCopied (b : Bay) (x : Nat) : Bay := (((b.setRole x 1).wr F.RED_STAT_SYNC 5).setRed { b.red with cleanT0 := b.now }).note 180

/-- The proving time is over: the joiner stands by, its window closes, and the SVN minima advance (R351 step 6, R453). -/
def Bay.proved (b : Bay) (x : Nat) : Bay :=
  let b := (((b.wr F.RED_CLEAN 10000).wr F.RED_STAT_SYNC 6).closeWin 3).setRole x 2
  (((b.setRed { b.red with joiner := none }).note 180).svnKeep 0).svnKeep 1

section
variable {b : Bay}

theorem exec_stateCopyDone (s : State) : exec .stateCopyDone s = s.onBay (fun b =>
    match b.red.joiner with
    | some x => if b.joining x && b.rd F.RED_STAT_SYNC = 4 then b.stateCopied x else b
    | none => b) := rfl

theorem Bay.stateCopied_leaves (x : Nat) :
    (b.stateCopied x).role x = 1 ∧ (b.stateCopied x).rd F.RED_STAT_SYNC = 5 ∧ (b.stateCopied x).red.cleanT0 = b.now ∧
      keepsRegs b (b.stateCopied x) [roleKey x, F.RED_STAT_SYNC, F.EVT_STAT_LOST] := by
  refine ⟨?role, by simp [Bay.stateCopied], by simp [Bay.stateCopied], ?regs⟩
  case role => obtain key | key := roleKey_cases x <;> simp [Bay.stateCopied, Bay.setRole, Bay.role, key]
  case regs =>
    intro k hk
    simp at hk
    simp [Bay.stateCopied, Bay.setRole, hk]

theorem Bay.svnKeep_CA_svnMin : (b.svnKeep 0).rd F.TRU_FW_CA_SVN_MIN = max (b.rd F.TRU_FW_CA_SVN_MIN) (b.rd F.TRU_FW_CA_SVN) := Bay.rd_wr_same ..

theorem Bay.svnKeep_CB_svnMin_CA : (b.svnKeep 1).rd F.TRU_FW_CA_SVN_MIN = b.rd F.TRU_FW_CA_SVN_MIN := Bay.rd_wr_of_ne _ _ (by decide)

/-- Only CA may return home with the end of its proving time (R352). -/
theorem Bay.joined_CB : b.joined 1 = b.proved 1 := by simp [Bay.joined, Bay.proved]

theorem Bay.joined_CB_leaves :
    (b.joined 1).role 1 = 2 ∧ (b.joined 1).rd F.RED_STAT_SYNC = 6 ∧ (b.joined 1).rd F.RED_CLEAN = 10000 ∧ (b.joined 1).red.joiner = none ∧
      (b.joined 1).winOpen 3 = false ∧ (b.joined 1).rd F.TRU_FW_CA_SVN_MIN = max (b.rd F.TRU_FW_CA_SVN_MIN) (b.rd F.TRU_FW_CA_SVN) := by
  rw [Bay.joined_CB, Bay.proved]
  refine ⟨by simp, by simp, by simp, by simp, ?closed, ?svn⟩
  case closed => simp [Bay.winOpen, Bay.closeWin]
  case svn => simp [Bay.svnKeep_CB_svnMin_CA, Bay.svnKeep_CA_svnMin]

end

end Sys2Proof.Machine

namespace Sys2Proof

open Sys2Proof.Machine

/-- Settles O41: with no window open a lost partner or link ends no group, so it only records the fault, lowers the claim and opens the swap window; each joining step follows from its own condition on SYNC. -/
theorem pairingLossAndJoining : Obligations.PairingLossAndJoining := by
  unfold Obligations.PairingLossAndJoining
  intro s
  refine ⟨?lane, ?silent, ?link, ?booted, ?unequal, ?bulk, ?copied, ?proved, ?early⟩
  case lane =>
    intro hl hj
    apply completes_onBay (exec_pairingLaneLost s 0 false)
    simp +contextual [Bay.laneChange_lane0_down hl hj, keepsRegs]
  case silent =>
    intro x hs _ hw _ hr
    apply completes_onBay (exec_pairingLinkLost s (some x))
    rw [Option.map_some, Bay.linkLost_of_silent x.isLt hs hw hr]
    simp [Bay.winOpen]
  case link =>
    intro hl ha hb hj hw ho
    apply completes_onBay (exec_pairingLinkLost s none)
    rw [Option.map_none, Bay.linkLost_of_standbyCB hl ha hb hj hw ho]
    refine ⟨?active, by simp, rfl, by simp, ?regs⟩
    case active => exact (Bay.note_role ..).trans ((Bay.setRole_role_other _ (x := 1) (by omega) 0).trans ((Bay.redRecord_role ..).trans ha))
    case regs =>
      intro k hk
      simp at hk
      simp [Bay.redRecord, Bay.setRole, roleKey, hk]
  case booted =>
    intro x hj hy
    refine ⟨_, exec_joinBootDone_of_step1 true hj hy, rfl, by simp [Bay.joinBooted], by simp [Bay.joinBooted, State.initMemory], ?dram, ?sram, ?regs⟩
    case dram => exact congrArg CartMem.dram (MemSys.cart_setCart_same ..)
    case sram => exact congrArg CartMem.sram (MemSys.cart_setCart_same ..)
    case regs =>
      intro k hk
      simp at hk
      simp [Bay.joinBooted, State.initMemory, hk]
  case unequal =>
    intro x hj hy
    exact ⟨_, exec_joinBootDone_of_step1 false hj hy, rfl, by simp [Bay.joinBooted, Bay.stopJoin], by simp [Bay.joinBooted, Bay.stopJoin]⟩
  case bulk =>
    intro x _ hx hj hy he
    refine ⟨_, exec_bulkCopyDone_of_step3 hx hj hy, ?_⟩
    rw [State.bulkCopy_of_noErrs he]
    exact ⟨rfl, rfl, by simp⟩
  case copied =>
    intro x _ hx hj hy
    apply completes_onBay (exec_stateCopyDone s)
    have due : (s.bay.joining x && s.bay.rd F.RED_STAT_SYNC = 4) = true := by simp [hj, hy]
    simp only [hx, due, if_true]
    exact Bay.stateCopied_leaves x
  case proved =>
    intro hx hj hy ht
    apply completes_onBay (exec_provingDone s)
    have due : (s.bay.joining 1 && s.bay.rd F.RED_STAT_SYNC = 5 && 10000 ≤ (s.bay.now - s.bay.red.cleanT0) / msTicks) = true := by simp [hj, hy, ht]
    simp only [hx, due, if_true]
    exact Bay.joined_CB_leaves
  case early =>
    intro x hx _ _ ht
    apply completes_onBay (exec_provingDone s)
    simp [hx, Nat.not_le.2 ht]

end Sys2Proof
end

section
/-! PROOFS. What every command leaves of the queue and of the memories, and what a step does with the queue (R24; log entry 57). -/

namespace Sys2Proof.Machine

/-! ## The commands that act on the bay alone -/

/-- The answer is a next state whose memories and queue stand. -/
def OnBayAlone (s : State) (r : Result) : Prop := ∃ b : Bay, r = .next { s with bay := b }

/-- From `s` to `t` only the bay changes. -/
def SameBut (s t : State) : Prop := ∃ b : Bay, t = { s with bay := b }

theorem SameBut.refl (s : State) : SameBut s s := ⟨s.bay, rfl⟩

theorem SameBut.bay (s : State) (b : Bay) : SameBut s { s with bay := b } := ⟨b, rfl⟩

theorem SameBut.trans {s t u : State} (h : SameBut s t) (h' : SameBut t u) : SameBut s u := by
  obtain ⟨b, rfl⟩ := h
  obtain ⟨b', rfl⟩ := h'
  exact ⟨b', rfl⟩

theorem SameBut.mem {s t : State} (h : SameBut s t) : t.mem = s.mem := by
  obtain ⟨b, rfl⟩ := h
  rfl

theorem SameBut.tame {s t : State} (h : SameBut s t) : Tame s t := by
  obtain ⟨b, rfl⟩ := h
  exact Tame.bay s b

theorem SameBut.foldl_fst {α β : Type} (f : State × β → α → State × β) (h : ∀ st a, SameBut st.1 (f st a).1) (l : List α) (st : State × β) :
    SameBut st.1 (l.foldl f st).1 := by
  induction l generalizing st with
  | nil => exact .refl st.1
  | cons a l ih => exact (h st a).trans (ih _)

theorem SameBut.answers {s t : State} (h : SameBut s t) : OnBayAlone s (.next t) := by
  obtain ⟨b, rfl⟩ := h
  exact ⟨b, rfl⟩

theorem SameBut.answers_onBay {s t : State} (h : SameBut s t) (f : Bay → Bay) : OnBayAlone s (t.onBay f) :=
  (h.trans (.bay t _)).answers

theorem OnBayAlone.stay (s : State) : OnBayAlone s (.next s) := (SameBut.refl s).answers

theorem State.onBay_onBayAlone (s : State) (f : Bay → Bay) : OnBayAlone s (s.onBay f) := ⟨_, rfl⟩

theorem State.run_sameBut {s : State} {f : State → Result} (h : OnBayAlone s (f s)) : SameBut s (s.run f) := by
  obtain ⟨b, e⟩ := h
  exact ⟨b, by simp [State.run, e]⟩

/-! ## Reads of the memories only count (R370, R372) -/

theorem State.readWord_sameBut (s : State) (x k w master acc : Nat) : SameBut s (s.readWord x k w master acc).1 := .bay s _

theorem State.readWords_sameBut (n : Nat) (s : State) (x k master acc w : Nat) : SameBut s (s.readWords x k master acc w n).1 := by
  induction n generalizing s w with
  | zero => exact .refl s
  | succ n ih =>
    simp only [State.readWords]
    split
    · exact (State.readWord_sameBut ..).trans (ih ..)
    · exact State.readWord_sameBut ..

theorem State.lockstepRead_sameBut (s : State) (k w master acc : Nat) : SameBut s (s.lockstepRead k w master acc).1 := by
  refine SameBut.foldl_fst _ (fun st x => ?_) _ (s, true)
  exact State.readWord_sameBut st.1 x k w master acc

theorem State.engRead_sameBut (s : State) (c i acc : Nat) : SameBut s (s.engRead c i acc).1 := by
  unfold State.engRead
  split
  · exact .refl s
  · exact State.lockstepRead_sameBut ..

theorem State.fetchRead_sameBut (s : State) (c : Nat) : SameBut s (s.fetchRead c).1 := by
  unfold State.fetchRead
  split
  · exact State.engRead_sameBut ..
  · exact .refl s

theorem State.windowRead_sameBut (s : State) (x master a n : Nat) : SameBut s (s.windowRead x master a n).1 :=
  State.readWords_sameBut ..

/-! ## Turns of the engines -/

theorem State.onTurn_onBayAlone (s : State) (c op : Nat) (f : Bay → Nat → TurnEnd) : OnBayAlone s (s.onTurn c op f) := by
  unfold State.onTurn
  exact (State.fetchRead_sameBut s c).answers_onBay _

theorem State.onTurn2_onBayAlone (s : State) (c op : Nat) (i : Option Nat) (acc : Nat) (f : Bay → Nat → TurnEnd) :
    OnBayAlone s (s.onTurn2 c op i acc f) := by
  unfold State.onTurn2
  refine SameBut.answers_onBay ?_ _
  have fetched := State.fetchRead_sameBut s c
  cases i with
  | none => exact fetched
  | some i =>
    dsimp only
    split
    · exact fetched
    · exact fetched.trans (State.engRead_sameBut ..)

/-! ## Requests of sessions that write no memory -/

theorem State.onSession_onBayAlone (s : State) (i : Nat) {f : Session → State → State} (h : ∀ x t, SameBut t (f x t)) :
    OnBayAlone s (s.onSession i f) := by
  unfold State.onSession
  split
  · exact .stay s
  · split
    · exact ((SameBut.bay s _).trans (h _ _)).answers
    · exact .stay s

theorem State.forStake_sameBut (s : State) (kind : String) (i tag stake : Nat) (l : List (List Int)) {f : State → State} (h : SameBut s (f s)) :
    SameBut s (s.forStake kind i tag stake l f) := by
  unfold State.forStake
  dsimp only
  split
  · exact h
  · split <;> exact .bay s _

theorem State.onStream_sameBut (s : State) (i tag n : Nat) {f : Stream → State} (h : ∀ x, SameBut s (f x)) : SameBut s (s.onStream i tag n f) := by
  unfold State.onStream
  split
  · exact .bay s _
  · dsimp only
    split
    · exact .bay s _
    · exact h _

theorem State.readEffect_sameBut (s : State) (r : RegAt) : SameBut s (s.readEffect r) := by
  unfold State.readEffect
  repeat' split
  all_goals first
    | exact .refl s
    | exact State.run_sameBut (State.onBay_onBayAlone _ _)

theorem State.hostRead_sameBut (s : State) (cart a : Nat) : SameBut s (s.hostRead cart a).1 := by
  unfold State.hostRead State.regRead
  repeat' split
  · exact .refl s
  · exact .refl s
  · exact (SameBut.bay s _).trans (State.readEffect_sameBut ..)
  · exact .refl s

theorem State.readLoop_sameBut (cart master n a : Nat) (s : State) : SameBut s (State.readLoop cart master n a s).1 := by
  induction n generalizing a s with
  | zero => exact .refl s
  | succ n ih =>
    simp only [State.readLoop]
    repeat' split
    · exact .refl s
    · exact .refl s
    · exact State.windowRead_sameBut ..
    · exact (State.windowRead_sameBut ..).trans (ih ..)
    · exact (State.hostRead_sameBut ..).trans (ih ..)

theorem State.doRead_sameBut (s : State) (i tag a n : Nat) (x : Session) : SameBut s (s.doRead i tag a n x) := by
  have looped := State.readLoop_sameBut x.cart (40 + i) n a s
  unfold State.doRead
  dsimp only
  split <;> exact looped.trans (.bay _ _)

theorem State.doBulkRead_sameBut (s : State) (i tag a n : Nat) (x : Session) : SameBut s (s.doBulkRead i tag a n x) := by
  have window := State.windowRead_sameBut s x.cart (40 + i) a n
  unfold State.doBulkRead
  dsimp only
  repeat' split
  · exact .bay s _
  · exact .bay s _
  · exact window.trans (.bay _ _)
  · exact window.trans (.bay _ _)

theorem State.streamFrom_sameBut (s : State) (i tag n m : Nat) (x : Session) : SameBut s (s.streamFrom i tag n m x) := by
  unfold State.streamFrom
  dsimp only
  split <;> exact .bay s _

theorem State.doStreamRead_sameBut (s : State) (i tag n m : Nat) (x : Session) : SameBut s (s.doStreamRead i tag n m x) := by
  unfold State.doStreamRead
  dsimp only
  repeat' split
  · exact .bay s _
  · exact State.streamFrom_sameBut ..
  · exact .bay s _
  · exact (SameBut.bay s _).trans (State.streamFrom_sameBut ..)

theorem State.doMark_sameBut (s : State) (i tag n p : Nat) : SameBut s (s.doMark i tag n p) :=
  State.onStream_sameBut _ _ _ _ (fun _ => by split <;> exact .bay s _)

theorem State.doRewind_sameBut (s : State) (i tag n : Nat) : SameBut s (s.doRewind i tag n) :=
  State.onStream_sameBut _ _ _ _ (fun _ => .bay s _)

theorem State.doRelease_sameBut (s : State) (i tag n p : Nat) (x : Session) : SameBut s (s.doRelease i tag n p x) :=
  State.onStream_sameBut _ _ _ _ (fun _ => by dsimp only; split <;> exact .bay s _)

/-! ## Every command -/

theorem execLowWordRead_onBayAlone (a : BitVec 32) (s : State) : OnBayAlone s (execLowWordRead a s) := by
  unfold execLowWordRead
  split
  · split
    · exact .stay s
    · exact State.onBay_onBayAlone _ _
  · exact .stay s

theorem execRead_onBayAlone (i : Fin 4) (tag : BitVec 32) (stake : Fin 64) (a n : BitVec 32) (s : State) : OnBayAlone s (execRead i tag stake a n s) := by
  refine State.onSession_onBayAlone _ _ (fun x t => ?_)
  split
  · exact .bay t _
  · exact State.forStake_sameBut _ _ _ _ _ _ (State.doRead_sameBut ..)

/-- A memory command that changes the bay alone. -/
theorem State.onMemory_onBayAlone (s : State) (x : Nat) (k : Key) {f : State → State} (h : SameBut s (f s)) : OnBayAlone s (s.onMemory x k f) := by
  unfold State.onMemory
  split
  · exact .stay s
  · split
    · exact State.onBay_onBayAlone _ _
    · split
      · exact h.answers
      · exact State.onBay_onBayAlone _ _

theorem State.scrubGo_sameBut (s : State) (x : Nat) : SameBut s (s.scrubGo x) := by
  unfold State.scrubGo
  dsimp only
  split <;> exact .bay s _

theorem execScrGo_onBayAlone (x : Fin 2) (s : State) : OnBayAlone s (execScrGo x s) :=
  State.onMemory_onBayAlone _ _ _ (State.scrubGo_sameBut _ _)

theorem execCntClr_onBayAlone (x : Fin 2) (s : State) : OnBayAlone s (execCntClr x s) :=
  State.onMemory_onBayAlone _ _ _ (.bay s _)

theorem execDmaRst_onBayAlone (x : Fin 2) (m : BitVec 16) (s : State) : OnBayAlone s (execDmaRst x m s) :=
  State.onMemory_onBayAlone _ _ _ (.bay s _)

theorem execReservedOpcode_onBayAlone (c : Fin 64) (s : State) : OnBayAlone s (execReservedOpcode c s) := by
  unfold execReservedOpcode
  exact (State.fetchRead_sameBut s c).answers_onBay _

/-- Every command that `touchesMemory` does not name acts on the bay alone. -/
theorem exec_onBayAlone {c : Instr} (h : touchesMemory c = false) (s : State) : OnBayAlone s (exec c s) := by
  cases c with
  | registerWrite | frameEdge | traceCopyDone | loadComplete | bulkCopyDone | joinBootDone | cartridgeRemoved | memoryInitDone | partnerRepair
  | scrubComplete | scrStop | injGo | write | bulkWrite => cases h
  | skNop | skHalt | skEnd | skTrap | skLdi | skAdd | skSub | skMul | skDiv | skMin | skMax | skAbs | skCmp | skCmpi | skBr | skCall | skRet
  | skLoop | skSeti | skSetv | skSetp | skMode | skRamp | skPulse | skPress | skWait | skWaitt | skGet | skGeta | skClra | skZone
  | skStep | skCurve | skTerm | skSafet | skSweep | skSweepStop | skGrade | skMark | skLog | skJoin | skSignal | skDonate | skLegacy =>
    exact State.onTurn_onBayAlone ..
  | skLdw | skMov => exact State.onTurn2_onBayAlone ..
  | reservedOpcode c => exact execReservedOpcode_onBayAlone c s
  | lowWordRead a => exact execLowWordRead_onBayAlone a s
  | scrGo x => exact execScrGo_onBayAlone x s
  | cntClr x => exact execCntClr_onBayAlone x s
  | dmaRst x m => exact execDmaRst_onBayAlone x m s
  | read j tag stake a n => exact execRead_onBayAlone j tag stake a n s
  | bulkRead => exact State.onSession_onBayAlone _ _ (fun _ _ => State.forStake_sameBut _ _ _ _ _ _ (State.doBulkRead_sameBut ..))
  | streamRead => exact State.onSession_onBayAlone _ _ (fun _ _ => State.forStake_sameBut _ _ _ _ _ _ (State.doStreamRead_sameBut ..))
  | rimMark => exact State.onSession_onBayAlone _ _ (fun _ _ => State.forStake_sameBut _ _ _ _ _ _ (State.doMark_sameBut ..))
  | rewind => exact State.onSession_onBayAlone _ _ (fun _ _ => State.forStake_sameBut _ _ _ _ _ _ (State.doRewind_sameBut ..))
  | release => exact State.onSession_onBayAlone _ _ (fun _ _ => State.forStake_sameBut _ _ _ _ _ _ (State.doRelease_sameBut ..))
  | ping | reservedRimType => exact State.onSession_onBayAlone _ _ (fun _ _ => .bay ..)
  | _ => exact ⟨_, rfl⟩

theorem OnBayAlone.goes {s : State} {r : Result} (h : OnBayAlone s r) : Goes s r := by
  obtain ⟨b, rfl⟩ := h
  exact .next (Tame.bay s b)

theorem execRegisterWrite_goes (a v : BitVec 32) (s : State) : Goes s (execRegisterWrite a v s) := by
  unfold execRegisterWrite
  split
  · exact .next (State.hostWrite_tame ..)
  · exact .stay s

theorem execWrite_goes (i : Fin 4) (tag : BitVec 32) (stake : Fin 64) (a : BitVec 32) (l : WriteData) (s : State) :
    Goes s (execWrite i tag stake a l s) := by
  refine State.onSession_goes _ _ (fun x t => ?_)
  split
  · exact State.answer_tame ..
  · exact State.forStake_tame _ _ _ _ _ _ (State.doWrite_tame ..)

/-- Every command goes on: the queue stands, and the memories keep their canonical form. -/
theorem exec_goes (c : Instr) (s : State) : Goes s (exec c s) := by
  by_cases h : touchesMemory c = false
  · exact (exec_onBayAlone h s).goes
  · cases c with
    | registerWrite a v => exact execRegisterWrite_goes a v s
    | frameEdge i => exact execFrameEdge_goes i s
    | traceCopyDone n => exact execTraceCopyDone_goes n s
    | loadComplete => exact execLoadComplete_goes s
    | bulkCopyDone => exact execBulkCopyDone_goes s
    | joinBootDone x equal => exact execJoinBootDone_goes x equal s
    | cartridgeRemoved n => exact execCartridgeRemoved_goes n s
    | memoryInitDone x r => exact execMemoryInitDone_goes x r s
    | partnerRepair x w => exact execPartnerRepair_goes x w s
    | scrubComplete x => exact execScrubComplete_goes x s
    | scrStop x => exact execScrStop_goes x s
    | injGo x => exact execInjGo_goes x s
    | write i tag stake a l => exact execWrite_goes i tag stake a l s
    | bulkWrite => exact State.onSession_goes _ _ (fun _ _ => State.forStake_tame _ _ _ _ _ _ (State.doBulkWrite_tame ..))
    | _ => exact absurd rfl h

/-! ## A step -/

theorem step_nil {s : State} (h : s.pending = []) : step s = s.idle := by rw [step, h]

theorem step_cons {s : State} {c : Instr} {q : List Instr} (h : s.pending = c :: q) : step s = exec c { s with pending := q } := by rw [step, h]

/-- A step goes on with what its command leaves waiting: the queue without its front. -/
theorem step_goes (s : State) : Goes { s with pending := s.pending.tail } (step s) := by
  cases h : s.pending with
  | nil =>
    rw [step_nil h, List.tail_nil, ← h]
    exact State.idle_goes s
  | cons c q =>
    rw [step_cons h]
    exact exec_goes c _

/-- A step on an empty queue short of a frame edge: bay time runs one tick with the section modulators. -/
theorem State.idle_of_noEdge {s : State} (h : (s.bay.now + 1) % frameTicks ≠ 0) :
    s.idle = .next { s with bay := { s.bay.runCot with now := s.bay.now + 1 } } := by simp [State.idle, State.onBay, h]

theorem State.idle_of_edge {s : State} (h : (s.bay.now + 1) % frameTicks = 0) : s.idle = .next s := by simp [State.idle, State.onBay, h]

end Sys2Proof.Machine

namespace Sys2Proof

open Sys2Proof.Machine

/-- Settles O53: a step is by definition the front command on the rest of the queue. -/
theorem stepTakesTheFront : Obligations.StepTakesTheFront := by
  unfold Obligations.StepTakesTheFront
  exact fun s c q h => step_cons h

/-- Settles O54: the empty queue leaves the step to `State.idle`, whose modulators write no register. -/
theorem emptyQueueLetsTimePass : Obligations.EmptyQueueLetsTimePass := by
  unfold Obligations.EmptyQueueLetsTimePass
  intro s
  refine ⟨fun hq ht => ?tick, fun hq ht => ?edge⟩
  case tick => exact ⟨_, (step_nil hq).trans (State.idle_of_noEdge ht), rfl, hq, rfl, fun _ _ => Bay.runCot_rd _⟩
  case edge => rw [step_nil hq, State.idle_of_edge ht]

/-- Settles O59: a command that `touchesMemory` does not name acts on the bay alone. -/
theorem memoriesStandUnlessNamed : Obligations.MemoriesStandUnlessNamed := by
  unfold Obligations.MemoriesStandUnlessNamed
  intro s c t hc ht
  obtain ⟨b, e⟩ := exec_onBayAlone hc s
  cases e.symm.trans ht
  rfl

/-- Settles O57: the command of a step, or the idle step, keeps the canonical form. -/
theorem stepKeepsMemoriesCanonical : Obligations.StepKeepsMemoriesCanonical := by
  unfold Obligations.StepKeepsMemoriesCanonical
  intro s t hs ht
  obtain ⟨u, e, -, canonical⟩ := step_goes s
  cases e.symm.trans ht
  exact canonical hs

/-- Settles O58: every command goes on with the queue as it was, so a step leaves what stood behind its front. -/
theorem everyCommandGoesOn : Obligations.EveryCommandGoesOn := by
  unfold Obligations.EveryCommandGoesOn
  intro s
  refine ⟨fun c => ?command, fun c q hq => ?step, fun hw t ht => ?queue⟩
  case command =>
    obtain ⟨t, e, pending, -⟩ := exec_goes c s
    exact ⟨t, e, pending⟩
  case step =>
    obtain ⟨t, e, pending, -⟩ := step_goes s
    exact ⟨t, e, by rw [pending, hq, List.tail_cons]⟩
  case queue =>
    obtain ⟨u, e, pending, -⟩ := step_goes s
    cases e.symm.trans ht
    rw [queueWellFormed, List.all_eq_true] at hw ⊢
    rw [pending]
    exact fun c hc => hw c (List.mem_of_mem_tail hc)

end Sys2Proof
end

section
/-! PROOFS. What every command may change in the register file, and that bay time moves by the commands of a frame and of time alone (R24, R196, R402). -/

namespace Sys2Proof.Machine

/-- The answer is a next state that leaves the registers outside `l`, and bay time unless the command moves it. -/
def Stands (s : State) (l : List Grp × List Key) (moves : Bool) (r : Result) : Prop :=
  ∃ t, r = .next t ∧ keepsFields s.bay t.bay l ∧ (moves = false → t.bay.now = s.bay.now)

/-- The command stands by what `touches` and `movesTime` say of it. -/
def standsBy (c : Instr) (s : State) : Prop := ∀ l, touches c = some l → Stands s l (movesTime c) (exec c s)

section
variable {s : State} {l : List Grp × List Key} {m : Bool}

theorem Stands.stay : Stands s l m (.next s) := ⟨s, rfl, fun _ _ _ => rfl, fun _ => rfl⟩

theorem Stands.next {t : State} (hr : ∀ q : Key, q.grp ∉ l.1 → q.loc ∉ l.2.map Key.loc → t.bay.rd q = s.bay.rd q) (hn : t.bay.now = s.bay.now) :
    Stands s l m (.next t) := ⟨t, rfl, hr, fun _ => hn⟩

theorem Stands.onBay {f : Bay → Bay} (hr : ∀ q : Key, q.grp ∉ l.1 → q.loc ∉ l.2.map Key.loc → (f s.bay).rd q = s.bay.rd q)
    (hn : (f s.bay).now = s.bay.now) : Stands s l m (s.onBay f) := .next hr hn

/-- A command of a turn moves bay time to its slot. -/
theorem Stands.turn {r : Result} (h : ∃ t, r = .next t ∧ keepsFields s.bay t.bay l) : Stands s l true r := by
  obtain ⟨t, e, k⟩ := h
  exact ⟨t, e, k, fun h => nomatch h⟩

end

/-! ## Operations of the bay whose frames the laws do not state -/

section
variable {q : Key}

theorem Bay.laneChange_rd (b : Bay) (lane : Nat) (up : Bool)
    (hq : q.loc ∉ [F.EVT_STAT_LOST.loc, F.RED_CLEAN.loc, F.RED_STAT_LANE0.loc, F.RED_STAT_LANE1.loc]) : (b.laneChange lane up).rd q = b.rd q := by
  simp at hq
  unfold Bay.laneChange
  by_cases h : lane = 0 <;> simp [h, hq]

/-- A remote event changes the list of event bits, and notes event 208 where it comes late. -/
theorem Bay.remoteEvent_eq (b : Bay) (t eng : Nat) :
    ∃ (late : Bool) (l : List EvBit), b.remoteEvent t eng = { b.onlyIf late (fun b => b.note 208) with evBits := l } := ⟨_, _, rfl⟩

theorem Bay.remoteEvent_rd (b : Bay) (t eng : Nat) (hq : q.loc ∉ [F.EVT_STAT_LOST.loc]) : (b.remoteEvent t eng).rd q = b.rd q := by
  simp at hq
  obtain ⟨late, l, e⟩ := Bay.remoteEvent_eq b t eng
  rw [e]
  exact Bay.onlyIf_rd (fun b => Bay.note_loc b 208 hq) b late

theorem Bay.ssiBad_rd (b : Bay) (p ty : Nat) (hg : q.grp ∉ [.pos]) (hq : q.loc ∉ [(F.AXS_FLT_CAUSE 0).loc, (F.AXS_FLT_COUNT 0).loc, (F.AXS_FLT_SECOND 0).loc, (F.AXS_STAT_ASRC 0).loc, (F.AXS_STAT_BRK_ON 0).loc, (F.AXS_STAT_CLR_ARMED 0).loc, (F.AXS_STAT_FB_USED 0).loc, (F.AXS_STAT_REV_HELD 0).loc, (F.AXS_STAT_STATE 0).loc, F.EVT_STAT_LOST.loc]) :
    (b.ssiBad p ty).rd q = b.rd q := by
  simp at hg hq
  unfold Bay.ssiBad
  dsimp only
  split <;> split <;> simp [hg, hq]

theorem Bay.cellReading_rd (b : Bay) (c w : Nat) (v : Int) (ok : Bool) (hg : q.grp ∉ [.chn, .eis, .eisCh, .evt]) : (b.cellReading c w v ok).rd q = b.rd q := by
  simp at hg
  unfold Bay.cellReading
  dsimp only
  rw [Bay.cellTempUpdate_rd _ _ (by simp [hg])]
  by_cases h : w = 0 <;> simp [h, hg]

theorem Bay.readingUsed_rd (b : Bay) (x : Sensor) (v : Int) (ok : Bool) : (b.readingUsed x v ok).2.rd q = b.rd q := by
  unfold Bay.readingUsed
  split
  · rfl
  · split <;> rfl

theorem Bay.applyReading_rd (b : Bay) (x : Sensor) (v : Int) (hg : q.grp ∉ [.axs, .bay, .chn, .eis, .eisCh, .evt, .pwr, .red, .sec, .thm]) :
    (b.applyReading x v).rd q = b.rd q := by
  simp at hg
  cases x with
  | phase c p =>
    unfold Bay.applyReading
    dsimp only
    have hw : ∀ k : Key, k.grp = .chn → (b.wr k v).rd q = b.rd q := fun k hk => Bay.rd_wr_grp b v (by simp [hk, hg])
    have hp : (b.wr (match p.val with
      | 0 => F.CHN_PH_T01_P0 c | 1 => F.CHN_PH_T01_P1 c | 2 => F.CHN_PH_T23_P2 c | _ => F.CHN_PH_T23_P3 c) v).rd q = b.rd q :=
      hw _ (by split <;> rfl)
    split
    · rw [Bay.balance_rd _ _ _ (by simp [hg])]; exact hp
    · exact hp
  | plate n => simp [Bay.applyReading, hg]
  | flow => 
    unfold Bay.applyReading
    dsimp only
    split <;> simp [hg]
  | die x =>
    unfold Bay.applyReading
    dsimp only
    repeat' split
    all_goals simp [hg]
  | _ => simp [Bay.applyReading, hg]

theorem Bay.tempSample_rd (b : Bay) (x : Sensor) (v : Int) (fault : Bool) (hg : q.grp ∉ [.axs, .bay, .chn, .eis, .eisCh, .evt, .pwr, .red, .sec, .thm]) :
    (b.tempSample x v fault).rd q = b.rd q := by
  have hs := Bay.sensorMark_rd b x (sensorValid x v fault) (qq := q) (by simp at hg; simp [hg])
  have hr : ∀ (b : Bay) (w : Int), (b.rateSelect x w).rd q = b.rd q := fun b w => Bay.rateSelect_rd b x w (by simp at hg; simp [hg])
  have hu : ∀ (b : Bay) w, (b.readingUsed x v w).2.rd q = b.rd q := fun b w => Bay.readingUsed_rd b x v w
  have ha : ∀ (b : Bay) (w : Int), (b.applyReading x w).rd q = b.rd q := fun b w => Bay.applyReading_rd b x w hg
  have hc : ∀ (b : Bay) (c w : Nat) (ok : Bool), (b.cellReading c w v ok).rd q = b.rd q := fun b c w ok => Bay.cellReading_rd b c w v ok (by simp at hg; simp [hg])
  unfold Bay.tempSample
  cases x with
  | cell c w => exact (Bay.onlyIf_rd (fun b => hr b v) _ _).trans ((hc _ _ _ _).trans hs)
  | comp k => exact (Bay.onlyIf_rd (fun b => Bay.setTherm_rd b _ _) _ _).trans hs
  | plate n => exact (hr _ _).trans ((ha _ _).trans ((hu _ _).trans ((Bay.onlyIf_rd (fun b => Bay.setTherm_rd b _ _) _ _).trans hs)))
  | _ => exact (hr _ _).trans ((ha _ _).trans ((hu _ _).trans hs))

theorem Bay.ssiWord_rd (b : Bay) (p w : Nat) (timedOut : Bool) (t : Nat) (force : Int) (hg : q.grp ∉ [.pos])
    (hq : q.loc ∉ [(F.AXS_FLT_CAUSE 0).loc, (F.AXS_FLT_COUNT 0).loc, (F.AXS_FLT_SECOND 0).loc, (F.AXS_STAT_ASRC 0).loc, (F.AXS_STAT_BRK_ON 0).loc, (F.AXS_STAT_CLR_ARMED 0).loc, (F.AXS_STAT_FB_USED 0).loc, (F.AXS_STAT_REV_HELD 0).loc, (F.AXS_STAT_STATE 0).loc, F.EVT_STAT_LOST.loc]) :
    (b.ssiWord p w timedOut t force).rd q = b.rd q := by
  have hbad : ∀ b n, (Bay.ssiBad b p n).rd q = b.rd q := fun b n => Bay.ssiBad_rd b p n hg hq
  have hgood : ∀ b m n, (Bay.ssiGood b p m n t force).rd q = b.rd q := fun b m n => Bay.ssiGood_rd b p m n t force (by simp at hg hq; simp [hg, hq])
  have hraw : ∀ raw : Int, (b.wr (F.POS_SSI_RAW p) raw).rd q = b.rd q := fun raw => Bay.rd_wr_grp b raw (by simpa using hg)
  have hite : ∀ (c : Prop) [Decidable c] (x y : Bay), (if c then x else y).rd q = if c then x.rd q else y.rd q :=
    fun c _ x y => apply_ite (fun b : Bay => b.rd q) c x y
  simp only [Bay.ssiWord, hite, hbad, hgood, hraw, ite_self]

theorem Bay.postPoint_rd (b : Bay) (c : Nat) (w : Window) (hq : q.loc ∉ [(F.EISCH_STAT_PFLAGS 0).loc, (F.EISCH_ZIM 0).loc, (F.EISCH_ZRE 0).loc]) :
    (b.postPoint c w).rd q = b.rd q := by
  have h : ∀ k : Key, k.loc ∈ [(F.EISCH_STAT_PFLAGS 0).loc, (F.EISCH_ZIM 0).loc, (F.EISCH_ZRE 0).loc] → ¬ q = k := fun k hk e => hq (e ▸ hk)
  exact Bay.postPoint_rd_of_ne _ _ _ (h _ (by simp)) (h _ (by simp)) (h _ (by simp))

theorem Bay.vector_rd (b : Bay) (c : Nat) (w : VecDue) (split r : Int) : (b.vector c w split r).2.rd q = b.rd q := by
  have hf : ∀ (b : Bay) (o : Option Int), (b.fit16 o).2.rd q = b.rd q := fun b o => by
    cases o with
    | none => rfl
    | some v => 
      simp only [Bay.fit16]
      split <;> rfl
  unfold Bay.vector
  dsimp only
  repeat' split
  all_goals simp [hf]

theorem Bay.vector_now (b : Bay) (c : Nat) (w : VecDue) (split r : Int) : (b.vector c w split r).2.now = b.now := by
  have hf : ∀ (b : Bay) (o : Option Int), (b.fit16 o).2.now = b.now := fun b o => by
    cases o with
    | none => rfl
    | some v => 
      simp only [Bay.fit16]
      split <;> rfl
  unfold Bay.vector
  dsimp only
  repeat' split
  all_goals simp [hf]

end

end Sys2Proof.Machine
end

section
/-! PROOFS. The rows of memory and of sessions: what they leave of the register file, and bay time (R374 to R381, R426 to R432). -/

namespace Sys2Proof.Machine

section
variable (s : State)

theorem State.readWord_now (x k w master acc : Nat) : (s.readWord x k w master acc).1.bay.now = s.bay.now := Bay.seeErr_now ..

theorem State.mergeWrite_now (x k a master acc : Nat) (l : List Byte) : (s.mergeWrite x k a master acc l).1.bay.now = s.bay.now := by
  refine State.foldl_fst_keeps Bay.now (fun st i => ?_) _ (s, true)
  dsimp only
  repeat' split
  · exact State.writeWords_now _ _ _ _ _
  · exact State.readWord_now _ _ _ _ _ _
  · exact State.readWord_now _ _ _ _ _ _

theorem State.placeImage_now (m : Image) (l : List Byte) : (s.placeImage m l).bay.now = s.bay.now :=
  State.foldl_now (fun s x => State.mergeWrite_now s x _ _ _ _ _) _ s

theorem State.readWords_now (n x k master acc w : Nat) : (s.readWords x k master acc w n).1.bay.now = s.bay.now := by
  induction n generalizing s w with
  | zero => rfl
  | succ n ih =>
    simp only [State.readWords]
    split
    · exact (ih _ _).trans (State.readWord_now _ _ _ _ _ _)
    · exact State.readWord_now _ _ _ _ _ _

theorem State.staged_rd (x len : Nat) {q : Key} (hq : q.grp ∉ [.mem] ∧ q.loc ∉ [F.EVT_STAT_LOST.loc]) : (s.staged x len).1.bay.rd q = s.bay.rd q :=
  State.readWords_rd _ _ _ _ _ _ _ hq

theorem State.staged_now (x len : Nat) : (s.staged x len).1.bay.now = s.bay.now := State.readWords_now _ _ _ _ _ _ _

theorem State.verifyAll_rd (len : Nat) {q : Key} (hq : q.grp ∉ [.mem] ∧ q.loc ∉ [F.EVT_STAT_LOST.loc]) : (s.verifyAll len).1.bay.rd q = s.bay.rd q := by
  refine State.foldl_fst_rd _ (fun st x => ?_) _ (s, _)
  have h := State.staged_rd st.1 x len hq
  dsimp only
  repeat' split
  all_goals exact h

theorem State.verifyAll_now (len : Nat) : (s.verifyAll len).1.bay.now = s.bay.now := by
  refine State.foldl_fst_keeps Bay.now (fun st x => ?_) _ (s, _)
  have h := State.staged_now st.1 x len
  dsimp only
  repeat' split
  all_goals exact h

theorem State.initDone_now (x r : Nat) : (s.initDone x r).bay.now = s.bay.now := by
  have hf : ∀ (l : List (Nat × WordErr)) (s : State), (l.foldl (fun s e => s.scrubWord x 2 e.1 true e.2) s).bay.now = s.bay.now :=
    fun l s => State.foldl_now (fun s e => State.scrubWord_now _ _ _ _ _ _) l s
  unfold State.initDone
  dsimp only
  split <;> exact hf _ _

theorem State.scrubGo_now (x : Nat) : (s.scrubGo x).bay.now = s.bay.now := by
  unfold State.scrubGo
  dsimp only
  split <;> simp

theorem State.scrubStop_now (x : Nat) : (s.scrubStop x).bay.now = s.bay.now := by
  unfold State.scrubStop
  split
  · rfl
  · exact (State.scrubEnd_now _ _ _).trans (State.scrubTo_now _ _ _)

theorem State.inject_now (x : Nat) : (s.inject x).bay.now = s.bay.now := by
  unfold State.inject
  dsimp only
  split
  · simp
  · split
    · simp
    · exact State.writeWords_now _ _ _ _ _

theorem State.bulkCopy_rd (x : Nat) {q : Key} (hq : q.grp ∉ [.mem] ∧ q.loc ∉ [F.EVT_STAT_LOST.loc]) : (s.bulkCopy x).bay.rd q = s.bay.rd q :=
  (State.poisonCount_rd _ _ (by simpa using hq.1)).trans (Bay.foldl_rd (fun _ _ => Bay.seeErr_rd _ _ _ _ _ _ _ hq) _ _)

theorem State.bulkCopy_now (x : Nat) : (s.bulkCopy x).bay.now = s.bay.now :=
  Bay.foldl_now (fun _ _ => Bay.seeErr_now _ _ _ _ _ _ _) s.bay _

theorem State.initMemory_rd (x : Nat) {q : Key} (hq : ¬ q.grp = .mem) : (s.initMemory x).bay.rd q = s.bay.rd q := Bay.rd_setFlag_grp _ _ (by simpa using hq)

end

/-- A command on a half of the memory stands by what its effect leaves. -/
theorem Stands.onMemory {s : State} (x : Nat) (k : Key) {f : State → State}
    (hr : ∀ q : Key, q.grp ∉ [.mem] ∧ q.loc ∉ [F.EVT_STAT_LOST.loc] → (f s).bay.rd q = s.bay.rd q) (hn : (f s).bay.now = s.bay.now) :
    Stands s ([.mem], [F.EVT_STAT_LOST]) false (s.onMemory x k f) := by
  have hrefuse : ∀ r, Stands s ([.mem], [F.EVT_STAT_LOST]) false (s.onBay (fun b => b.refuse k r)) := fun r =>
    ⟨_, rfl, fun q hg hq => by simp at hq; simp [hq], fun _ => Bay.refuse_now _ _ _⟩
  unfold State.onMemory
  split
  · exact .stay
  · split
    · exact hrefuse _
    · split
      · exact .next (fun q hg hq => hr q ⟨hg, hq⟩) hn
      · exact hrefuse 7

/-- A message of a session stands by what its request leaves. -/
theorem Stands.onSession {s : State} {l : List Grp × List Key} (i : Nat) {f : Session → State → State}
    (hr : ∀ q : Key, q.grp ∉ l.1 → q.loc ∉ l.2.map Key.loc → ∀ x t, (f x t).bay.rd q = t.bay.rd q) (hn : ∀ x t, (f x t).bay.now = t.bay.now) :
    Stands s l false (s.onSession i f) := by
  unfold State.onSession
  split
  · exact .stay
  · split
    · exact .next (fun q hg hq => (hr q hg hq _ _).trans (Bay.heardSession_rd _ _ _)) ((hn _ _).trans (Bay.heardSession_now _ _ _))
    · exact .stay

section
variable (s : State) (i tag n : Nat)

theorem State.forStake_now (kind : String) (stake : Nat) (frames : List (List Int)) {f : State → State} (hf : ∀ s, (f s).bay.now = s.bay.now) :
    (s.forStake kind i tag stake frames f).bay.now = s.bay.now := by
  unfold State.forStake
  dsimp only
  repeat' split
  · exact hf s
  · rfl
  · exact (Bay.foldl_now (fun b n => Bay.originate_now _ _ _ _ _ _) _ _).trans rfl

theorem State.onStream_now {f : Stream → State} (hf : ∀ x, (f x).bay.now = s.bay.now) : (s.onStream i tag n f).bay.now = s.bay.now := by
  unfold State.onStream
  dsimp only
  repeat' split
  · rfl
  · rfl
  · exact hf _

theorem State.streamFrom_now (m : Nat) (x : Session) : (s.streamFrom i tag n m x).bay.now = s.bay.now := by
  unfold State.streamFrom
  dsimp only
  split
  · unfold State.underrun
    dsimp only [Bay.send]
    split <;> simp
  · rfl

theorem State.doStreamRead_now (m : Nat) (x : Session) : (s.doStreamRead i tag n m x).bay.now = s.bay.now := by
  unfold State.doStreamRead
  dsimp only
  repeat' split
  · rfl
  · exact State.streamFrom_now _ _ _ _ _ _
  · rfl
  · exact State.streamFrom_now _ _ _ _ _ _

theorem State.doMark_rd (p : Nat) {q : Key} (hq : q.loc ∉ [F.EVT_STAT_LOST.loc]) : (s.doMark i tag n p).bay.rd q = s.bay.rd q := by
  simp at hq
  refine State.onStream_rd _ _ _ _ _ (fun x => ?_)
  split
  · exact (Bay.note_loc _ _ hq).trans (Bay.setStream_rd _ _ _)
  · rfl

theorem State.doMark_now (p : Nat) : (s.doMark i tag n p).bay.now = s.bay.now := by
  refine State.onStream_now _ _ _ _ (fun x => ?_)
  split
  · exact Bay.note_now _ _
  · rfl

theorem State.doRewind_rd {q : Key} (hq : q.loc ∉ [F.EVT_STAT_LOST.loc]) : (s.doRewind i tag n).bay.rd q = s.bay.rd q := by
  simp at hq
  exact State.onStream_rd _ _ _ _ _ (fun x => (Bay.note_loc _ _ hq).trans (Bay.setStream_rd _ _ _))

theorem State.doRewind_now : (s.doRewind i tag n).bay.now = s.bay.now :=
  State.onStream_now _ _ _ _ (fun _ => Bay.note_now _ _)

theorem State.doRelease_rd (p : Nat) (x : Session) {q : Key} (hf : ∀ b : Bay, (b.freeSource n p).rd q = b.rd q) :
    (s.doRelease i tag n p x).bay.rd q = s.bay.rd q := by
  refine State.onStream_rd _ _ _ _ _ (fun x => ?_)
  dsimp only
  split
  · exact hf s.bay
  · rfl

theorem State.doRelease_now (p : Nat) (x : Session) : (s.doRelease i tag n p x).bay.now = s.bay.now := by
  refine State.onStream_now _ _ _ _ (fun x => ?_)
  dsimp only
  split
  · exact Bay.freeSource_now s.bay n p
  · rfl

end

end Sys2Proof.Machine
end

section
/-! PROOFS. The rows of `touches` that want a lemma of their own. -/

namespace Sys2Proof.Machine

section
variable (s : State)

/-! ## Firmware, temperatures, sweeps -/

theorem standsBy_chunk : standsBy .chunk s := by
  intro l h
  cases h
  exact ⟨_, rfl, fun q hg hq => Bay.fwuStart_rd _ _ (by simp at hq; simp [hq]) (by simp at hq; simp [hq]), fun _ => Bay.fwuStart_now _ _ rfl⟩

theorem standsBy_verify : standsBy .verify s := by
  intro l h
  cases h
  exact ⟨_, rfl, fun q hg hq => Bay.fwuStart_rd _ _ (by simp at hq; simp [hq]) (by simp at hq; simp [hq]), fun _ => Bay.fwuStart_now _ _ rfl⟩

theorem standsBy_restart : standsBy .restart s := by
  intro l h
  cases h
  refine ⟨_, rfl, fun q hg hq => ?regs, fun _ => ?time⟩
  case regs =>
    simp at hq
    refine Bay.fwuStart_rd _ _ hq ?_
    split
    · simp [hq]
    · exact Bay.each_rd (fun b x => Bay.setTrust_rd b _ q) _ _
  case time =>
    refine Bay.fwuStart_now _ _ ?_
    split
    · simp
    · exact Bay.each_now (fun b x => Bay.setTrust_now b _) _ _

theorem standsBy_temperatureSample (x : Sensor) (v : Int) (fault : Bool) : standsBy (.temperatureSample x v fault) s := by
  intro l h
  cases h
  refine ⟨_, rfl, fun q hg hq => ?regs, fun _ => ?time⟩
  case regs =>
    dsimp only
    split
    · exact Bay.tempSample_rd _ _ _ _ hg
    · rfl
  case time =>
    dsimp only
    split <;> simp

theorem standsBy_ssiWord (p : Fin 4) (w : BitVec 64) (timedOut : Bool) (t : Nat) (force : Int) : standsBy (.ssiWord p w timedOut t force) s := by
  intro l h
  cases h
  exact ⟨_, rfl, fun q hg hq => Bay.ssiWord_rd _ _ _ _ _ _ hg hq, fun _ => Bay.ssiWord_now _ _ _ _ _ _⟩

theorem standsBy_remoteEvent (t : Nat) (eng : Fin 65) : standsBy (.remoteEvent t eng) s := by
  intro l h
  cases h
  refine ⟨_, rfl, fun q hg hq => ?regs, fun _ => ?time⟩
  case regs =>
    dsimp only
    split
    · rfl
    · exact Bay.remoteEvent_rd _ _ _ hq
  case time =>
    dsimp only
    split <;> simp

theorem standsBy_pairingLaneLost (lane : Fin 2) (up : Bool) : standsBy (.pairingLaneLost lane up) s := by
  intro l h
  cases h
  exact ⟨_, rfl, fun q hg hq => Bay.laneChange_rd _ _ _ hq, fun _ => Bay.laneChange_now _ _ _⟩

/-- A point's result changes nothing, or is posted, or is posted and completes its sweep (R178, R182). -/
theorem execPointResult_cases (c : Fin 64) :
    execPointResult c s = .next s ∨ ∃ w, execPointResult c s = s.onBay (fun b => b.postPoint c w) ∨
      execPointResult c s = s.onBay (fun b => (b.postPoint c w).completeSweep c) := by
  unfold execPointResult State.onBay
  dsimp only
  generalize 248700 = wait
  split
  · exact .inl rfl
  · rename_i win _ _
    split
    · exact .inl rfl
    · refine .inr ⟨win, ?_⟩
      split
      iterate 2
        split
        · exact .inr rfl
        · exact .inl rfl

theorem Bay.completeSweep_rd (b : Bay) (c : Nat) {q : Key} (hq : q.loc ∉ [(F.EISCH_STAT_RUN 0).loc, (F.EISCH_STAT_END 0).loc, F.EIS_STAT_SWEEPING.loc]) :
    (b.completeSweep c).rd q = b.rd q := by
  simp at hq
  simp [Bay.completeSweep, hq]

theorem Bay.completeSweep_now (b : Bay) (c : Nat) : (b.completeSweep c).now = b.now := by simp [Bay.completeSweep]

theorem standsBy_pointResult (c : Fin 64) : standsBy (.pointResult c) s := by
  intro l h
  cases h
  show Stands s _ false (execPointResult c s)
  obtain e | ⟨w, e | e⟩ := execPointResult_cases s c <;> rw [e]
  · exact .stay
  · exact .next (fun q hg hq => Bay.postPoint_rd _ _ _ (by simp at hq; simp [hq])) (Bay.postPoint_now _ _ _)
  · exact .next (fun q hg hq => (Bay.completeSweep_rd _ _ (by simp at hq; simp [hq])).trans (Bay.postPoint_rd _ _ _ (by simp at hq; simp [hq])))
      ((Bay.completeSweep_now _ _).trans (Bay.postPoint_now _ _ _))

theorem standsBy_gradingVector (c : Fin 64) : standsBy (.gradingVector c) s := by
  intro l h
  cases h
  refine ⟨_, rfl, fun q hg hq => ?regs, fun _ => ?time⟩
  case regs =>
    dsimp only
    simp at hq
    repeat' split
    all_goals simp [hq, Bay.vector_rd]
  case time =>
    dsimp only
    repeat' split
    all_goals simp [Bay.vector_now]

theorem standsBy_refReady (n : Fin 4) : standsBy (.refReady n) s := by
  intro l h
  cases h
  refine ⟨_, rfl, fun q hg hq => ?_, fun _ => ?_⟩
  · simp at hq
    dsimp only
    repeat' split
    · rfl
    · rfl
    · simp [hq]
  · dsimp only
    repeat' split
    · rfl
    · rfl
    · exact (Bay.each_now (fun b c => Bay.tryClose_now b c) _ _).trans ((Bay.raise_now _ _ _ _).trans (Bay.each_now (fun b c => Bay.setFlag_now b _ _) _ _))

theorem standsBy_nodeOvervoltage (v : Int) : standsBy (.nodeOvervoltage v) s := by
  intro l h
  cases h
  refine ⟨_, rfl, fun q hg hq => ?regs, fun _ => ?time⟩
  case regs =>
    dsimp only
    simp at hq
    split <;> simp [hq]
  case time =>
    dsimp only
    split
    · exact (Bay.each_now (fun b n => Bay.wr_now b _ _) _ _).trans (Bay.note_now _ _)
    · rfl

theorem standsBy_safetySupplyLost : standsBy .safetySupplyLost s := by
  intro l h
  cases h
  refine ⟨_, rfl, fun q hg hq => ?regs, fun _ => ?time⟩
  case regs =>
    simp at hg
    have hd : ∀ (b : Bay) (i : Nat), (b.demand i).rd q = b.rd q := fun b i => Bay.demand_rd _ _ (by simp [hg])
    simp [hg, hd]
  case time => simp

theorem standsBy_reservedOpcode (c : Fin 64) : standsBy (.reservedOpcode c) s := by
  intro l h
  cases h
  refine ⟨_, rfl, fun q hg hq => ?_, fun e => nomatch e⟩
  have hl : turnLeaves q := by simp at hg hq; simp [turnLeaves, hg, hq]
  exact (Bay.turn_rd _ _ _ _ _ hl (fun _ _ _ _ _ e => TurnEnd.noConfusion e)).trans (State.fetchRead_rd _ _ (by simp at hg hq; simp [hg, hq]))

/-! ## Reads, loads and traces -/

theorem standsBy_lowWordRead (a : BitVec 32) : standsBy (.lowWordRead a) s := by
  intro l h
  cases h
  show Stands s _ _ (execLowWordRead a s)
  unfold execLowWordRead
  split
  · split
    · exact .stay
    · exact .next (fun q _ _ => Bay.latchHigh_rd _ _ _) (Bay.latchHigh_now _ _ _)
  · exact .stay

/-- The bay as verification ends stands but for the three fields of the load that it shows. -/
theorem Bay.loadNamed_rd (b : Bay) (l : List Byte) {q : Key}
    (hq : q.loc ∉ [F.SKN_LOAD_ID.loc, F.SKN_LOAD_STAT_BUSY.loc, F.SKN_LOAD_STAT_KIND.loc]) : (b.loadNamed l).rd q = b.rd q := by
  simp at hq
  simp [Bay.loadNamed, hq]

theorem standsBy_loadComplete : standsBy .loadComplete s := by
  intro l h
  cases h
  show Stands s _ _ (execLoadComplete s)
  unfold execLoadComplete
  dsimp only
  split
  · exact .stay
  · generalize hv : s.verifyAll s.bay.trust.load = r
    have hn : r.1.bay.now = s.bay.now := hv ▸ State.verifyAll_now s _
    have hr : ∀ {q : Key}, q.grp ∉ [.mem] ∧ q.loc ∉ [F.EVT_STAT_LOST.loc] → r.1.bay.rd q = s.bay.rd q := fun hq => hv ▸ State.verifyAll_rd s _ hq
    split
    · split
      · refine .next (fun q hg hq => ?_) ((Bay.loadResult_now _ _ _ _).trans ((Bay.pendSafety_now _ _ _).trans hn))
        have hm := hr (q := q) (by simp at hg hq; simp [hg, hq])
        refine (Bay.loadResult_rd _ _ _ _ ?_).trans ((Bay.pendSafety_rd _ _ _ ?_).trans ((Bay.loadNamed_rd _ r.2.2.2 ?_).trans hm)) <;> simp at hq <;> simp [hq]
      · refine .next (fun q hg hq => ?_) ((State.placeImage_now _ _ _).trans ((Bay.loadResult_now _ _ _ _).trans ((Bay.storeImage_now _ _).trans hn)))
        have hm := hr (q := q) (by simp at hg hq; simp [hg, hq])
        refine (State.placeImage_rd _ _ _ (by simp at hg hq; simp [hg, hq])).trans ((Bay.loadResult_rd _ _ _ _ ?_).trans
          ((Bay.storeImage_rd _ _ ?_).trans ((Bay.loadNamed_rd _ r.2.2.2 ?_).trans hm))) <;> simp at hq <;> simp [hq]
    · refine .next (fun q hg hq => ?_) ((Bay.loadResult_now _ _ _ _).trans hn)
      have hm := hr (q := q) (by simp at hg hq; simp [hg, hq])
      refine (Bay.loadResult_rd _ _ _ _ ?_).trans ((Bay.loadNamed_rd _ r.2.2.2 ?_).trans hm) <;> simp at hq <;> simp [hq]

theorem standsBy_traceCopyDone (n : Fin 4) : standsBy (.traceCopyDone n) s := by
  intro l h
  cases h
  show Stands s _ _ (execTraceCopyDone n s)
  unfold execTraceCopyDone
  dsimp only
  split
  · exact .stay
  · refine .next (fun q hg hq => ?_) ?_
    · refine (Bay.traceCopied_rd _ _ _ _ (by simp at hq; simp [hq])).trans (State.foldl_rd _ (fun s x => ?_) _ _)
      exact State.writeWords_rd _ _ _ _ _ (by simpa using hg)
    · exact (Bay.traceCopied_now _ _ _ _).trans (State.foldl_now (fun s x => State.writeWords_now _ _ _ _ _) _ _)

/-! ## Memory -/

theorem standsBy_joinBootDone (x : Fin 2) (equal : Bool) : standsBy (.joinBootDone x equal) s := by
  intro l h
  cases h
  show Stands s _ _ (execJoinBootDone x equal s)
  unfold execJoinBootDone
  split
  · exact .stay
  · refine .next (fun q hg hq => ?_) ?_
    · have hj : (if s.bay.joining x then s.bay else s.bay.joinStart x).rd q = s.bay.rd q := by
        simp at hq
        split <;> simp [hq]
      refine (Bay.joinBooted_rd _ _ _ (by simp at hq; simp [hq])).trans ((State.initMemory_rd _ _ (by simpa using hg)).trans hj)
    · have hj : (if s.bay.joining x then s.bay else s.bay.joinStart x).now = s.bay.now := by split <;> simp
      exact (Bay.joinBooted_now _ _ _).trans hj

theorem standsBy_bulkCopyDone : standsBy .bulkCopyDone s := by
  intro l h
  cases h
  show Stands s _ _ (execBulkCopyDone s)
  unfold execBulkCopyDone
  split
  · rename_i x _
    split
    · refine .next (fun q hg hq => ?_) ?_
      · have hb : (s.bulkCopy x).bay.rd q = s.bay.rd q := State.bulkCopy_rd _ _ (by simp at hg hq; simp [hg, hq])
        simp at hq
        simp [hq, hb]
      · simp [State.bulkCopy_now]
    · exact .stay
  · exact .stay

theorem standsBy_partnerRepair (x : Fin 2) (w : Nat) : standsBy (.partnerRepair x w) s := by
  intro l h
  cases h
  show Stands s _ _ (execPartnerRepair x w s)
  unfold execPartnerRepair
  split
  · exact .next (fun q hg hq => (Bay.note_loc _ _ (by simpa using hq)).trans (State.copyFromPartner_rd _ _ _ ⟨hg, hq⟩))
      ((Bay.note_now _ _).trans (State.copyFromPartner_now _ _ _))
  · exact .stay

theorem standsBy_scrGo (x : Fin 2) : standsBy (.scrGo x) s := by
  intro l h
  cases h
  show Stands s _ false (execScrGo x s)
  exact .onMemory x _ (fun q hq => State.scrubGo_rd _ _ hq) (State.scrubGo_now _ _)

theorem standsBy_scrStop (x : Fin 2) : standsBy (.scrStop x) s := by
  intro l h
  cases h
  show Stands s _ false (execScrStop x s)
  exact .onMemory x _ (fun q hq => State.scrubStop_rd _ _ hq) (State.scrubStop_now _ _)

theorem standsBy_injGo (x : Fin 2) : standsBy (.injGo x) s := by
  intro l h
  cases h
  show Stands s _ false (execInjGo x s)
  exact .onMemory x _ (fun q hq => State.inject_rd _ _ hq) (State.inject_now _ _)

theorem standsBy_cntClr (x : Fin 2) : standsBy (.cntClr x) s := by
  intro l h
  cases h
  show Stands s _ false (execCntClr x s)
  exact .onMemory x _ (fun q hq => Bay.cntClear_rd _ _ hq.1) (Bay.cntClear_now _ _)

theorem standsBy_dmaRst (x : Fin 2) (mask : BitVec 16) : standsBy (.dmaRst x mask) s := by
  intro l h
  cases h
  show Stands s _ false (execDmaRst x mask s)
  refine .onMemory x _ (fun q hq => Bay.dmaRestart_rd _ _ _ (fun hl => ?_)) (Bay.dmaRestart_now _ _ _)
  have hg := congrArg (·.1) (List.mem_singleton.1 hl)
  exact hq.1 (List.mem_singleton.2 hg)

theorem standsBy_scrubComplete (x : Fin 2) : standsBy (.scrubComplete x) s := by
  intro l h
  cases h
  show Stands s _ _ (execScrubComplete x s)
  unfold execScrubComplete
  split
  · exact .stay
  · exact .next (fun q hg hq => (State.scrubEnd_rd _ _ _ ⟨hg, hq⟩).trans (State.scrubTo_rd _ _ _ ⟨hg, hq⟩))
      ((State.scrubEnd_now _ _ _).trans (State.scrubTo_now _ _ _))

theorem standsBy_memoryInitDone (x : Fin 2) (record : Fin 3) : standsBy (.memoryInitDone x record) s := by
  intro l h
  cases h
  show Stands s _ _ (execMemoryInitDone x record s)
  unfold execMemoryInitDone
  split
  · exact .next (fun q hg hq => State.initDone_rd _ _ _ ⟨hg, hq⟩) (State.initDone_now _ _ _)
  · exact .stay

/-! ## Sessions -/

theorem standsBy_ping (i : Fin 4) (tag : BitVec 32) : standsBy (.ping i tag) s := by
  intro l h
  cases h
  show Stands s _ false (execPing i tag s)
  exact .onSession i (fun q _ _ x t => rfl) (fun x t => rfl)

theorem standsBy_reservedRimType (i : Fin 4) (tag : BitVec 32) : standsBy (.reservedRimType i tag) s := by
  intro l h
  cases h
  show Stands s _ false (execReservedRimType i tag s)
  exact .onSession i (fun q _ _ x t => rfl) (fun x t => rfl)

theorem standsBy_streamRead (i : Fin 4) (tag : BitVec 32) (stake : Fin 64) (n : BitVec 16) (max_ : BitVec 32) :
    standsBy (.streamRead i tag stake n max_) s := by
  intro l h
  cases h
  show Stands s _ false (execStreamRead i tag stake n max_ s)
  exact .onSession i (fun q _ hq x t => State.forStake_rd _ _ _ _ _ _ _ (fun s => State.doStreamRead_rd _ _ _ _ _ _ hq))
    (fun x t => State.forStake_now _ _ _ _ _ _ (fun s => State.doStreamRead_now _ _ _ _ _ _))

theorem standsBy_rimMark (i : Fin 4) (tag : BitVec 32) (stake : Fin 64) (n : BitVec 16) (p : BitVec 64) : standsBy (.rimMark i tag stake n p) s := by
  intro l h
  cases h
  show Stands s _ false (execRimMark i tag stake n p s)
  exact .onSession i (fun q _ hq x t => State.forStake_rd _ _ _ _ _ _ _ (fun s => State.doMark_rd _ _ _ _ _ hq))
    (fun x t => State.forStake_now _ _ _ _ _ _ (fun s => State.doMark_now _ _ _ _ _))

theorem standsBy_rewind (i : Fin 4) (tag : BitVec 32) (stake : Fin 64) (n : BitVec 16) : standsBy (.rewind i tag stake n) s := by
  intro l h
  cases h
  show Stands s _ false (execRewind i tag stake n s)
  exact .onSession i (fun q _ hq x t => State.forStake_rd _ _ _ _ _ _ _ (fun s => State.doRewind_rd _ _ _ _ hq))
    (fun x t => State.forStake_now _ _ _ _ _ _ (fun s => State.doRewind_now _ _ _ _))

theorem standsBy_release (i : Fin 4) (tag : BitVec 32) (stake : Fin 64) (n : BitVec 16) (p : BitVec 64) : standsBy (.release i tag stake n p) s := by
  intro l h
  cases h
  show Stands s _ false (execRelease i tag stake n p s)
  refine .onSession i (fun q _ hq x t => State.forStake_rd _ _ _ _ _ _ _ (fun s => State.doRelease_rd _ _ _ _ _ _ (fun b => Bay.freeSource_rd _ _ _ ?_)))
    (fun x t => State.forStake_now _ _ _ _ _ _ (fun s => State.doRelease_now _ _ _ _ _ _))
  simp at hq
  simp [hq]

end

end Sys2Proof.Machine
end

section
/-! PROOFS. What each Skein instruction may change in the register file (R196, R216 to R236). -/

namespace Sys2Proof.Machine

/-- What a register holds after an instruction that ends its turn so, from a bay `b`. -/
def TurnEnd.rd (b : Bay) (q : Key) : TurnEnd → Int
  | .done b' _ => b'.rd q
  | _ => b.rd q

section
variable (b : Bay) (q : Key)

@[simp] theorem TurnEnd.rd_freeze (cause : Nat) (d : Int) : (TurnEnd.freeze cause d).rd b q = b.rd q := rfl
@[simp] theorem TurnEnd.rd_stay : TurnEnd.stay.rd b q = b.rd q := rfl
@[simp] theorem TurnEnd.rd_other : TurnEnd.other.rd b q = b.rd q := rfl
@[simp] theorem TurnEnd.rd_done (b' : Bay) (pc : Int) : (TurnEnd.done b' pc).rd b q = b'.rd q := rfl
@[simp] theorem TurnEnd.rd_step1 (b' : Bay) (c : Nat) : (b'.step1 c).rd b q = b'.rd q := rfl

@[simp] theorem TurnEnd.rd_ite (p : Prop) [Decidable p] (x y : TurnEnd) : (if p then x else y).rd b q = if p then x.rd b q else y.rd b q := by
  split <;> rfl

@[simp] theorem TurnEnd.rd_branchTo (c w : Nat) (b' : Bay) (h : b'.rd q = b.rd q) : (b.branchTo c w b').rd b q = b.rd q := by
  simp [Bay.branchTo, h]

@[simp] theorem Bay.operandB_rd (c w : Nat) : (b.operandB c w).2.rd q = b.rd q := by
  unfold Bay.operandB
  split
  · rfl
  · exact Bay.free_rd ..

@[simp] theorem TurnEnd.rd_result (b' : Bay) (c w : Nat) (v : Int) (carry : Bool) :
    (b'.result c w v carry).rd b q = (((b'.setK c (dOf w) v).setZN c v).setC c carry).rd q := rfl

@[simp] theorem TurnEnd.rd_resultZN (b' : Bay) (c w : Nat) (v : Int) : (b'.resultZN c w v).rd b q = ((b'.setK c (dOf w) v).setZN c v).rd q := rfl

@[simp] theorem TurnEnd.rd_compare (b' : Bay) (c : Nat) (x y : Int) (carry : Bool) :
    (b'.compare c x y carry).rd b q = (((b'.setFlag (F.ENG_STAT_Z c) (x == y)).setFlag (F.ENG_STAT_N c) (x < y)).setC c carry).rd q := rfl

@[simp] theorem TurnEnd.rd_setTargets (c k : Nat) (t : Direct) (fail : Option Nat) : (b.setTargets c k t fail).rd b q = b.rd q := by
  unfold Bay.setTargets
  split
  · rfl
  · simp [Bay.wrote]

end

/-- A turn leaves what its instruction leaves, of the registers outside those every turn may change. -/
theorem State.onTurn_stands (s : State) (c op : Nat) (f : Bay → Nat → TurnEnd) (l : List Grp × List Key)
    (hl : ∀ q : Key, q.grp ∉ l.1 → q.loc ∉ l.2.map Key.loc → turnLeaves q)
    (hf : ∀ q : Key, q.grp ∉ l.1 → q.loc ∉ l.2.map Key.loc → ∀ b w, (f b w).rd b q = b.rd q) :
    ∃ t, s.onTurn c op f = .next t ∧ keepsFields s.bay t.bay l :=
  State.onTurn_keeps s c op f l hl (fun q hg hq b w b' pc e => by simpa [e] using hf q hg hq b w)

/-- The same for a turn that reads a second word. -/
theorem State.onTurn2_stands (s : State) (c op : Nat) (i : Option Nat) (acc : Nat) (f : Bay → Nat → TurnEnd) (l : List Grp × List Key)
    (hl : ∀ q : Key, q.grp ∉ l.1 → q.loc ∉ l.2.map Key.loc → turnLeaves q)
    (hf : ∀ q : Key, q.grp ∉ l.1 → q.loc ∉ l.2.map Key.loc → ∀ b w, (f b w).rd b q = b.rd q) :
    ∃ t, s.onTurn2 c op i acc f = .next t ∧ keepsFields s.bay t.bay l :=
  State.onTurn2_keeps s c op i acc f l hl (fun q hg hq b w b' pc e => by simpa [e] using hf q hg hq b w)
theorem standsBy_of_ctorIdx_lt_63 {c : Instr} (hc : c.ctorIdx < 63) (s : State) : standsBy c s := by
  intro l h
  cases c with
  | registerWrite | frameEdge => cases h
  | temperatureSample a b c => exact standsBy_temperatureSample s a b c l h
  | nodeOvervoltage a => exact standsBy_nodeOvervoltage s a l h
  | sampleFrameSend | sampleFrameExchange | commandFrameSend | commandFrameReceive | holderMiss | computeDeadline | commandFrameTimeout =>
    cases h
    refine ⟨_, rfl, fun q hg hq => ?_, fun e => nomatch e⟩
    simp at hg hq
    simp [hg, hq]
  | brakeChopperSwitch =>
    cases h
    refine ⟨_, rfl, fun q hg hq => ?_, fun _ => ?_⟩
    · simp at hg hq
      dsimp only [Bay.onlyIf, Bay.gated]
      repeat' split
      all_goals simp [hg, hq]
    · dsimp only [Bay.onlyIf, Bay.gated]
      repeat' split
      all_goals simp
  | _ =>
    first
    | exact absurd hc (of_decide_eq_true rfl)
    | cases h
      refine ⟨_, rfl, fun q hg hq => ?_, fun _ => ?_⟩
      · simp at hg hq
        simp [hg, hq]
      · simp

theorem standsBy_of_ctorIdx_lt_125 {c : Instr} (hc : 63 ≤ c.ctorIdx ∧ c.ctorIdx < 125) (s : State) : standsBy c s := by
  intro l h
  cases c with
  | refReady a => exact standsBy_refReady s a l h
  | lowWordRead a => exact standsBy_lowWordRead s a l h
  | pointResult a => exact standsBy_pointResult s a l h
  | gradingVector a => exact standsBy_gradingVector s a l h
  | rangeDown | rangeBridgeEnd | selfCalSlot | selfCalComplete | ovenReady | meterEntry | meterResult | pointStart =>
    cases h
    refine ⟨_, rfl, fun q hg hq => ?_, fun _ => ?_⟩
    · simp at hg hq
      dsimp only [Bay.onlyIf, Bay.gated]
      repeat' split
      all_goals simp [hg, hq]
    · dsimp only [Bay.onlyIf, Bay.gated]
      repeat' split
      all_goals simp
  | _ =>
    first
    | exact absurd hc (of_decide_eq_true rfl)
    | cases h
      refine ⟨_, rfl, fun q hg hq => ?_, fun _ => ?_⟩
      · simp at hg hq
        simp [hg, hq]
      · simp


theorem standsBy_of_ctorIdx_lt_173 {c : Instr} (hc : 125 ≤ c.ctorIdx ∧ c.ctorIdx < 173) (s : State) : standsBy c s := by
  intro l h
  cases c with
  | reservedOpcode c => exact standsBy_reservedOpcode s c l h
  | waittTimeout =>
    cases h
    refine ⟨_, rfl, fun q hg hq => ?_, fun _ => ?_⟩
    · simp at hg hq
      dsimp only
      repeat' split
      all_goals simp [hg, hq]
    · dsimp only
      repeat' split
      all_goals simp
  | skNop | skHalt | skEnd | skTrap | skLdi | skAdd | skSub | skMul | skDiv | skMin | skMax | skAbs | skCmp | skCmpi | skCall | skRet | skLoop | skSetv | skSetp | skGeta | skClra | skTerm | skSafet | skJoin | skSignal =>
    cases h
    refine .turn (State.onTurn_stands _ _ _ _ _ (fun q hg hq => ?_) (fun q hg hq b w => ?_))
    · simp at hg hq
      simp [turnLeaves, hg, hq]
    · simp at hg hq
      simp [hg, hq]
  | skBr | skSweep | skSweepStop =>
    cases h
    refine .turn (State.onTurn_stands _ _ _ _ _ (fun q hg hq => ?_) (fun q hg hq b w => ?_))
    · simp at hg hq
      simp [turnLeaves, hg, hq]
    · simp at hg hq
      repeat' split
      all_goals simp [hg, hq]
  | skLdw =>
    cases h
    refine .turn (State.onTurn2_stands _ _ _ _ _ _ _ (fun q hg hq => ?_) (fun q hg hq b w => ?_))
    · simp at hg hq
      simp [turnLeaves, hg, hq]
    · simp at hg hq
      repeat' split
      all_goals simp [hg, hq]
  | skMov =>
    cases h
    refine .turn (State.onTurn2_stands _ _ _ _ _ _ _ (fun q hg hq => ?_) (fun q hg hq b w => ?_))
    · simp at hg hq
      simp [turnLeaves, hg, hq]
    · simp at hg hq
      dsimp only
      repeat' split
      all_goals simp [hg, hq]
  | skSeti | skMode | skRamp | skPulse | skPress | skWait | skWaitt | skGet | skZone | skStep | skCurve | skGrade | skMark | skLog | skDonate | skLegacy =>
    cases h
    refine .turn (State.onTurn_stands _ _ _ _ _ (fun q hg hq => ?_) (fun q hg hq b w => ?_))
    · simp at hg hq
      simp [turnLeaves, hg, hq]
    · simp at hg hq
      dsimp only [Bay.markOnce]
      repeat' split
      all_goals simp [hg, hq]
  | _ => exact absurd hc (of_decide_eq_true rfl)

theorem standsBy_of_ctorIdx_lt_243 {c : Instr} (hc : 173 ≤ c.ctorIdx ∧ c.ctorIdx < 243) (s : State) : standsBy c s := by
  intro l h
  cases c with
  | loadComplete => exact standsBy_loadComplete s l h
  | traceCopyDone a => exact standsBy_traceCopyDone s a l h
  | ssiWord a b c d e => exact standsBy_ssiWord s a b c d e l h
  | safetySupplyLost => exact standsBy_safetySupplyLost s l h
  | groupRelease | groupBreak | refClr | cmpStop | passthroughResume | upsettSelfTestDone | upsettRejoin =>
    cases h
    refine ⟨_, rfl, fun q hg hq => ?_, fun _ => ?_⟩
    · simp at hg hq
      dsimp only [Bay.onlyIf, Bay.gated]
      repeat' split
      all_goals simp [hg, hq]
    · dsimp only [Bay.onlyIf, Bay.gated]
      repeat' split
      all_goals simp
  | _ =>
    first
    | exact absurd hc (of_decide_eq_true rfl)
    | cases h
      refine ⟨_, rfl, fun q hg hq => ?_, fun _ => ?_⟩
      · simp at hg hq
        simp [hg, hq]
      · simp

theorem standsBy_of_ctorIdx_lt_319 {c : Instr} (hc : 243 ≤ c.ctorIdx ∧ c.ctorIdx < 319) (s : State) : standsBy c s := by
  intro l h
  cases c with
  | powerUp | powerDown | read | write | bulkRead | bulkWrite => cases h
  | pairingLaneLost a b => exact standsBy_pairingLaneLost s a b l h
  | joinBootDone a b => exact standsBy_joinBootDone s a b l h
  | bulkCopyDone => exact standsBy_bulkCopyDone s l h
  | partnerRepair a b => exact standsBy_partnerRepair s a b l h
  | scrGo a => exact standsBy_scrGo s a l h
  | scrStop a => exact standsBy_scrStop s a l h
  | scrubComplete a => exact standsBy_scrubComplete s a l h
  | injGo a => exact standsBy_injGo s a l h
  | cntClr a => exact standsBy_cntClr s a l h
  | dmaRst a b => exact standsBy_dmaRst s a b l h
  | memoryInitDone a b => exact standsBy_memoryInitDone s a b l h
  | remoteEvent a b => exact standsBy_remoteEvent s a b l h
  | streamRead a b c d e => exact standsBy_streamRead s a b c d e l h
  | rimMark a b c d e => exact standsBy_rimMark s a b c d e l h
  | rewind a b c d => exact standsBy_rewind s a b c d l h
  | release a b c d e => exact standsBy_release s a b c d e l h
  | ping a b => exact standsBy_ping s a b l h
  | reservedRimType a b => exact standsBy_reservedRimType s a b l h
  | timeMessage =>
    cases h
    refine ⟨_, rfl, fun q hg hq => ?_, fun e => nomatch e⟩
    simp at hg hq
    simp [hg, hq]
  | stateCopyDone | provingDone | fwAlignDone | controlSupplyChange | stopCauseRead | lostClr | lockTimeout | freeRun | ptpLoss | linkHandshake | sessionOpen | sessionIdleTimeout =>
    cases h
    refine ⟨_, rfl, fun q hg hq => ?_, fun _ => ?_⟩
    · simp at hg hq
      dsimp only [Bay.onlyIf, Bay.gated]
      repeat' split
      all_goals simp [hg, hq]
    · dsimp only [Bay.onlyIf, Bay.gated]
      repeat' split
      all_goals simp
  | _ =>
    first
    | exact absurd hc (of_decide_eq_true rfl)
    | cases h
      refine ⟨_, rfl, fun q hg hq => ?_, fun _ => ?_⟩
      · simp at hg hq
        simp [hg, hq]
      · simp

theorem standsBy_of_ctorIdx_lt_369 {c : Instr} (hc : 319 ≤ c.ctorIdx ∧ c.ctorIdx < 369) (s : State) : standsBy c s := by
  intro l h
  cases c with
  | cartridgeRemoved | cartridgeInserted => cases h
  | chunk => exact standsBy_chunk s l h
  | verify => exact standsBy_verify s l h
  | restart => exact standsBy_restart s l h
  | ptpMessage =>
    cases h
    refine ⟨_, rfl, fun q hg hq => ?_, fun e => nomatch e⟩
    simp at hg hq
    simp [hg, hq]
  | canTxDone | canBusError | canRecoveryDelay | objTimeout | clashClr | recReq | canMode | quoteRead | qcauseRead | latchLocked | cartridgePrechargeDone | ovenLost =>
    cases h
    refine ⟨_, rfl, fun q hg hq => ?_, fun _ => ?_⟩
    · simp at hg hq
      dsimp only [Bay.onlyIf, Bay.gated]
      repeat' split
      all_goals simp [hg, hq]
    · dsimp only [Bay.onlyIf, Bay.gated]
      repeat' split
      all_goals simp
  | _ =>
    first
    | exact absurd hc (of_decide_eq_true rfl)
    | cases h
      refine ⟨_, rfl, fun q hg hq => ?_, fun _ => ?_⟩
      · simp at hg hq
        simp [hg, hq]
      · simp


theorem standsBy_all (c : Instr) (s : State) : standsBy c s := by
  have all : c.ctorIdx < 369 := by cases c <;> exact of_decide_eq_true rfl
  rcases Nat.lt_or_ge c.ctorIdx 63 with h | h₁
  · exact standsBy_of_ctorIdx_lt_63 h s
  rcases Nat.lt_or_ge c.ctorIdx 125 with h | h₂
  · exact standsBy_of_ctorIdx_lt_125 ⟨h₁, h⟩ s
  rcases Nat.lt_or_ge c.ctorIdx 173 with h | h₃
  · exact standsBy_of_ctorIdx_lt_173 ⟨h₂, h⟩ s
  rcases Nat.lt_or_ge c.ctorIdx 243 with h | h₄
  · exact standsBy_of_ctorIdx_lt_243 ⟨h₃, h⟩ s
  rcases Nat.lt_or_ge c.ctorIdx 319 with h | h₅
  · exact standsBy_of_ctorIdx_lt_319 ⟨h₄, h⟩ s
  · exact standsBy_of_ctorIdx_lt_369 ⟨h₅, all⟩ s

end Sys2Proof.Machine

namespace Sys2Proof

open Sys2Proof.Machine

/-- Settles O60: row by row, the registers outside `touches` stand, and bay time with them unless `movesTime`. -/
theorem registersStandUnlessNamed : Obligations.RegistersStandUnlessNamed :=
  fun s c l h => standsBy_all c s l h

end Sys2Proof
end

section
/-! PROOFS. Temperatures: what a sample leaves, the trips, the thermal shutdown and its clear, compensation (R356 to R364). -/

namespace Sys2Proof.Machine

/-! ## What a trip stops leaves the hidden state of temperatures alone -/

section
variable (b : Bay)

@[simp] theorem Bay.each_therm {f : Bay → Nat → Bay} (h : ∀ b n, (f b n).therm = b.therm) (l : List Nat) :
    (b.each l f).therm = b.therm := Bay.each_keeps Bay.therm f h b l

@[simp] theorem Bay.onlyIf_therm {f : Bay → Bay} (h : ∀ b, (f b).therm = b.therm) (c : Bool) :
    (b.onlyIf c f).therm = b.therm := Bay.onlyIf_keeps Bay.therm f h b c

@[simp] theorem Bay.sendEvBit_therm (t e i : Nat) : (b.sendEvBit t e i).therm = b.therm := rfl

@[simp] theorem Bay.syncMode_therm (c : Nat) : (b.syncMode c).therm = b.therm := rfl

@[simp] theorem Bay.putEntry_therm (c : Nat) (e : RecEntry) : (b.putEntry c e).therm = b.therm := by
  simp only [Bay.putEntry, Bay.ringStat]
  repeat' split
  all_goals simp [Bay.dropEntry]

@[simp] theorem Bay.recEvent_therm (c : Nat) (kind detail value : Int) : (b.recEvent c kind detail value).therm = b.therm :=
  Bay.putEntry_therm ..

@[simp] theorem Bay.endSweepEarly_therm (c : Nat) (code : Int) : (b.endSweepEarly c code).therm = b.therm := by
  simp only [Bay.endSweepEarly]
  repeat' split
  all_goals simp

@[simp] theorem Bay.hold_therm (c cause : Nat) : (b.hold c cause).therm = b.therm := by
  simp only [Bay.hold]
  repeat' split
  all_goals simp [Bay.markInterval, Bay.endDonation]

@[simp] theorem Bay.leave_therm (c cause : Nat) : (b.leave c cause).therm = b.therm := by
  have settle : ∀ b : Bay, (b.settle c).therm = b.therm := fun b => by
    simp only [Bay.settle]
    repeat' split
    all_goals simp
  simp only [Bay.leave, Bay.onlyIf]
  repeat' split
  all_goals simp [settle]

@[simp] theorem Bay.stopFor_therm (code : Nat) : (b.stopFor code).therm = b.therm := by
  simp only [Bay.stopFor, Bay.recordStop]
  repeat' split
  all_goals simp

@[simp] theorem Bay.setDirs_therm (v : Int) : (b.setDirs v).therm = b.therm :=
  Bay.each_therm (f := fun b n => b.wr (F.SEC_STAT_DIR n) v) b (fun _ _ => rfl) b.wales

@[simp] theorem Bay.rtStop_therm : b.rtStop.therm = b.therm := by
  simp only [Bay.rtStop, Bay.entryOpens, Bay.setEnt]
  split <;> simp

@[simp] theorem Bay.stopPresses_therm : b.stopPresses.therm = b.therm := by
  refine Bay.each_therm _ (fun b a => ?_) _
  simp only [Bay.stopAxis]
  repeat' split
  all_goals simp

theorem Bay.tripStops_therm : (b.tripStops none).therm = b.therm := by
  have chans : ∀ b : Bay, (b.each allChans (fun b c => ((b.endSweepEarly c 6).quickStop c).hold c 10)).therm = b.therm := fun b =>
    Bay.each_therm b (fun b c => by simp [Bay.quickStop, Bay.softStop, Bay.rampDown]) allChans
  have convs : ∀ b : Bay, (b.each b.wales (fun b n => b.setWale n { b.waleSt n with convOn := false })).therm = b.therm := fun b =>
    Bay.each_therm b (fun b n => Bay.setWale_therm b n _) b.wales
  simp only [Bay.tripStops, Bay.tripAxis, Bay.rtStop_therm, Bay.stopPresses_therm, convs, chans]

end

/-! ## A trip (R362, R363) -/

section
variable {b : Bay}

theorem Bay.mem_stops_stopFor (hs : b.mode ≠ Mode.safeStop) (hq : b.mode ≠ Mode.quarantine) (code : Nat) : code ∈ (b.stopFor code).modeSt.stops := by
  simp only [Bay.stopFor, hs, hq, if_false]
  split
  · rename_i h
    simpa using h
  · simp

/-- The bay as a first trip shows it, before what it stops. -/
def Bay.tripShown (b : Bay) (q cause slot : Nat) (sensor value : Int) : Bay :=
  let b := b.setTherm { b.therm with tripped := b.therm.tripped ++ [q] }
  let b := b.logTrip (b.tripRecord cause slot sensor value)
  let b := ((b.setFlag F.THM_STAT_TSD true).setFlag F.THM_STAT_CLR_ARMED false).wr F.THM_TSD_CAUSE cause
  (b.wr F.THM_TSD_SLOT slot).wr F.THM_TSD_SENSOR sensor

/-- A trip is the first: no quantity stands beyond its trip, the shutdown is not in force, and the bay runs. -/
def Bay.tripsFirst (b : Bay) : Prop := b.therm.tripped = [] ∧ b.flag F.THM_STAT_TSD = false ∧ b.mode = Mode.energized

theorem Bay.trip_of_first (h : b.tripsFirst) (q cause slot : Nat) (sensor value : Int) :
    b.trip q cause slot sensor value none = (((b.tripShown q cause slot sensor value).tripStops none).note 187).stopFor 6 := by
  obtain ⟨htripped, htsd, -⟩ := h
  have off : (((b.setTherm { b.therm with tripped := b.therm.tripped ++ [q] }).logTrip
      ((b.setTherm { b.therm with tripped := b.therm.tripped ++ [q] }).tripRecord cause slot sensor value)).flag F.THM_STAT_TSD) = false :=
    (congrArg (· != (0 : Int)) (Bay.logTrip_rd _ _ (by simp))).trans htsd
  rw [Bay.trip, htripped, List.contains_nil, if_neg Bool.false_ne_true]
  rw [htripped] at off
  dsimp only
  rw [off]
  simp only [Bay.tripShown, htripped, Bool.false_eq_true, if_false]

section
variable (h : b.tripsFirst) (q cause slot : Nat) (sensor value : Int)
include h

/-- What the registers show after the first trip. -/
theorem Bay.trip_shows :
    (b.trip q cause slot sensor value none).rd F.THM_STAT_TSD = 1 ∧ (b.trip q cause slot sensor value none).rd F.THM_STAT_CLR_ARMED = 0 ∧
      (b.trip q cause slot sensor value none).rd F.THM_TSD_CAUSE = cause ∧ (b.trip q cause slot sensor value none).rd F.THM_TSD_SLOT = slot ∧
      (b.trip q cause slot sensor value none).rd F.THM_STAT_NEXT = ((b.therm.seq + 1) % 16 : Nat) := by
  rw [Bay.trip_of_first h]
  simp [Bay.tripShown, Bay.logTrip]

theorem Bay.trip_therm : (b.trip q cause slot sensor value none).therm = (b.tripShown q cause slot sensor value).therm := by
  rw [Bay.trip_of_first h]
  simp [Bay.tripStops_therm]

theorem Bay.trip_tripped : (b.trip q cause slot sensor value none).therm.tripped = [q] := by
  rw [Bay.trip_therm h]
  simp [Bay.tripShown, Bay.logTrip, h.1]

theorem Bay.trip_seq : (b.trip q cause slot sensor value none).therm.seq = b.therm.seq + 1 := by
  rw [Bay.trip_therm h]
  simp [Bay.tripShown, Bay.logTrip]

theorem Bay.trip_stops : 6 ∈ (b.trip q cause slot sensor value none).modeSt.stops := by
  have hm : (((b.tripShown q cause slot sensor value).tripStops none).note 187).mode = Mode.energized := by
    rw [← h.2.2]
    simp [Bay.mode, Bay.tripShown]
  rw [Bay.trip_of_first h]
  exact Bay.mem_stops_stopFor (by rw [hm]; decide) (by rw [hm]; decide) 6

end
end

/-! ## A sample (R356) -/

section
variable (b : Bay) (x : Sensor)

theorem Bay.sensorMark_of_noInvalid (h : b.therm.invalid = []) : b.sensorMark x true = b := by simp [Bay.sensorMark, h]

theorem Bay.sensorMark_valid_tripped : (b.sensorMark x true).therm.tripped = b.therm.tripped ∧ (b.sensorMark x true).therm.seq = b.therm.seq := by
  simp only [Bay.sensorMark]
  repeat' split
  all_goals simp

theorem Bay.rateSelect_seq (v : Int) : (b.rateSelect x v).therm.seq = b.therm.seq := by
  simp only [Bay.rateSelect]
  split <;> simp

theorem Bay.rateSelect_modeSt (v : Int) : (b.rateSelect x v).modeSt = b.modeSt := by
  simp only [Bay.rateSelect]
  split <;> simp

theorem Bay.rateSelect_red (v : Int) : (b.rateSelect x v).red = b.red := by
  simp only [Bay.rateSelect]
  split <;> simp

theorem Bay.rateSelect_thermChOf (v : Int) (n : Nat) : (b.rateSelect x v).thermChOf n = b.thermChOf n := by
  simp only [Bay.rateSelect]
  split <;> simp

theorem Bay.rateSelect_invalid (v : Int) : (b.rateSelect x v).therm.invalid = b.therm.invalid := by
  simp only [Bay.rateSelect]
  split <;> simp

end

section
variable {s : State}

theorem exec_temperatureSample_of_fitted {x : Sensor} (hx : s.bay.sensorFitted x = true) (v : Int) (fault : Bool) :
    exec (.temperatureSample x v fault) s = s.onBay (fun b => b.tempSample x v fault) := by
  change execTemperatureSample x v fault s = _
  simp [execTemperatureSample, State.onBay, hx]

theorem exec_tsdRead : exec .tsdRead s = s.onBay (fun b => if b.flag F.THM_STAT_TSD then b.setFlag F.THM_STAT_CLR_ARMED true else b) := rfl
theorem exec_tsdClr : exec .tsdClr s = s.onBay (fun b => b.gated F.THM_CTL_TSD_CLR Bay.tsdClear) := rfl
theorem exec_flowLoss : exec .flowLoss s = s.onBay Bay.flowLoss := rfl
theorem exec_sensorRateSlow (x : Sensor) : exec (.sensorRateSlow x) s = s.onBay (fun b => b.rateSlow x) := rfl
theorem exec_compensationUpdate : exec .compensationUpdate s = s.onBay Bay.compensate := rfl

/-- The outlet's reading is its register's (R356). -/
theorem outlet_sampled {v : Int} (low : -4000 ≤ v) (high : v ≤ 20000) (hi : s.bay.therm.invalid = []) :
    completes (.temperatureSample .outlet v false) s (fun b => b.rd F.THM_OUTLET_T = v ∧ b.now = s.bay.now ∧ keepsRegs s.bay b [F.THM_OUTLET_T]) := by
  refine completes_onBay (exec_temperatureSample_of_fitted rfl v false) ?_
  have valid : sensorValid .outlet v false = true := by simp [sensorValid, low, high]
  have sampled : s.bay.tempSample .outlet v false = s.bay.wr F.THM_OUTLET_T v := by
    simp [Bay.tempSample, valid, Bay.sensorMark_of_noInvalid _ _ hi, Bay.readingUsed, Bay.applyReading, Bay.rateSelect, Bay.sensorLimit]
  rw [sampled]
  refine ⟨by simp, rfl, fun k hk => ?_⟩
  simp at hk
  simp [hk]

/-- An invalid reading of a cell switch is replaced by the plate of its wale plus 30 K (R356). -/
theorem cellSwitch_replaced {c : Fin 64} (hc : s.bay.walePresent (waleOf c) = true) (hi : s.bay.therm.invalid = []) :
    completes (.temperatureSample (.cellSwitch c) 0 true) s
      (fun b => (b.thermChOf c).tsw = s.bay.rd (plateKey (waleOf c)) + 3000 ∧ b.therm.invalid = [384 + c.val]) := by
  have fitted : s.bay.sensorFitted (.cellSwitch c) = true := hc
  refine completes_onBay (exec_temperatureSample_of_fitted fitted 0 true) ?_
  have invalid : sensorValid (.cellSwitch c) 0 true = false := rfl
  have marked : s.bay.sensorMark (.cellSwitch c) false = (s.bay.setTherm { s.bay.therm with invalid := [384 + c.val] }).note 190 := by
    simp [Bay.sensorMark, hi, sensorId]
  simp only [Bay.tempSample, invalid, marked, Bay.readingUsed, sensorPlate, Bay.applyReading, Bay.rateSelect_thermChOf, Bay.rateSelect_invalid]
  simp

/-- With no window open and no joining, a fault of its own takes a cartridge's role and opens the swap window (R347, R350). -/
theorem Bay.selfFault_of_noWindow {b : Bay} (x cause : Nat) (ho : b.red.out = []) (hs : b.red.silent = []) (hw : b.red.wins = []) (hj : b.red.joiner = none) :
    b.selfFault x cause = (((b.redRecord cause (x + 1) 0).setRole x 0).setRed
      { b.red with out := [x], lower := if b.red.lower = some x then none else b.red.lower }).openWin 2 x := by
  simp [Bay.selfFault, ho, hs, hj, Bay.pairFault_of_noWindow, hw]

@[simp] theorem Bay.openWin_out (b : Bay) (k x : Nat) : (b.openWin k x).red.out = b.red.out := by
  unfold Bay.openWin
  split <;> rfl

/-- A die at 120 °C takes its cartridge out (R361, R347; log entry 59). -/
theorem die_fails {x : Fin 2} {v : Int} (hx : s.bay.cPresent x = true) (hot : 12000 ≤ v) (high : v ≤ 20000) (ho : s.bay.red.out = [])
    (hs : s.bay.red.silent = []) (hw : s.bay.red.wins = []) (hj : s.bay.red.joiner = none) :
    completes (.temperatureSample (.die x) v false) s (fun b => b.rd (if x.val = 0 then F.THM_DIE_T_CA else F.THM_DIE_T_CB) = v ∧ b.red.out = [x.val] ∧
      b.role x = 0 ∧ b.rd F.RED_FLT_CAUSE = 2 ∧ b.rd F.RED_FLT_SIDE = x.val + 1) := by
  have fitted : s.bay.sensorFitted (.die x) = true := hx
  refine completes_onBay (exec_temperatureSample_of_fitted fitted v false) ?_
  have valid : sensorValid (.die x) v false = true := by simp [sensorValid, high]; omega
  generalize hk : (if x.val = 0 then F.THM_DIE_T_CA else F.THM_DIE_T_CB) = k
  have hkey : k = F.THM_DIE_T_CA ∨ k = F.THM_DIE_T_CB := by
    rw [← hk]
    split <;> simp
  have marked : (s.bay.sensorMark (.die x) true).red = s.bay.red := by
    simp only [Bay.sensorMark]
    repeat' split
    all_goals simp
  generalize hb : ((s.bay.sensorMark (.die x) true).wr k v).note 191 = b
  have red : b.red = s.bay.red := by simp [← hb, marked]
  have shown : b.rd k = v := by obtain rfl | rfl := hkey <;> simp [← hb]
  have fault := Bay.selfFault_of_noWindow (b := b) x 2 (red ▸ ho) (red ▸ hs) (red ▸ hw) (red ▸ hj)
  have sampled : s.bay.tempSample (.die x) v false = (b.selfFault x 2).rateSelect (.die x) v := by
    have free : ((s.bay.sensorMark (.die x) true).wr k v).red = s.bay.red := by simp [marked]
    simp only [Bay.tempSample, valid, Bay.readingUsed, if_true, Bay.applyReading, hk, hot, Bay.rateValue, free, ho, hs, List.contains_nil, Bool.or_self, hb]
    simp
  rw [sampled, fault]
  refine ⟨?shown, by simp [Bay.rateSelect_red], ?role, by simp, by simp⟩
  case shown => obtain rfl | rfl := hkey <;> simp [shown]
  case role => obtain key | key := roleKey_cases x <;> simp [Bay.role, Bay.setRole, key]

/-- A plate at its trip level shuts the bay down (R362, R363). -/
theorem plate_trips {n : Fin 6} (hx : s.bay.sensorFitted (.plate n) = true) (ht : s.bay.therm.tripped = []) (htsd : s.bay.flag F.THM_STAT_TSD = false)
    (hm : s.bay.mode = Mode.energized) :
    completes (.temperatureSample (.plate n) 9500 false) s (fun b => b.rd (plateKey n) = 9500 ∧ b.rd F.THM_STAT_TSD = 1 ∧ b.rd F.THM_TSD_CAUSE = 2 ∧
      b.rd F.THM_TSD_SLOT = n.val ∧ 6 ∈ b.modeSt.stops ∧ b.therm.seq = s.bay.therm.seq + 1 ∧ b.rd F.THM_STAT_NEXT = ((s.bay.therm.seq + 1) % 16 : Nat)) := by
  refine completes_onBay (exec_temperatureSample_of_fitted hx 9500 false) ?_
  obtain ⟨marked, counted⟩ := Bay.sensorMark_valid_tripped s.bay (.plate n)
  generalize hk : plateKey n = k
  have key : k ∈ [F.THM_PLATE0_T, F.THM_PLATE1_T, F.THM_PLATE2_T, F.THM_PLATE3_T, F.THM_PLATE4_T, F.THM_PLATE5_T] := by
    rw [← hk]
    unfold plateKey
    split <;> simp
  have stands : ∀ q : Key, q.loc ∉ [F.THM_PLATE0_T.loc, F.THM_PLATE1_T.loc, F.THM_PLATE2_T.loc, F.THM_PLATE3_T.loc, F.THM_PLATE4_T.loc, F.THM_PLATE5_T.loc] →
      ∀ b : Bay, (b.wr k 9500).rd q = b.rd q := fun q hq b =>
    Bay.rd_wr_ne _ _ (fun e => hq (List.mem_map_of_mem (f := Key.loc) (e ▸ key)))
  generalize hb : ((s.bay.sensorMark (.plate n) true).setTherm { (s.bay.sensorMark (.plate n) true).therm with
    plateOk := (s.bay.sensorMark (.plate n) true).therm.plateOk.set n 9500 }).wr k 9500 = b
  have first : b.tripsFirst := by
    refine ⟨by simp [← hb, marked, ht], ?tsd, ?mode⟩
    case tsd => simpa [Bay.flag, ← hb, stands] using htsd
    case mode => simpa [Bay.mode, ← hb, stands] using hm
  have seq : b.therm.seq = s.bay.therm.seq := by simp [← hb, counted]
  have sampled : s.bay.tempSample (.plate n) 9500 false =
      (b.trip (340 + n) 2 n (Config.sensorNumber (506 + n)) 9500 none).rateSelect (.plate n) 9500 := by
    have valid : sensorValid (.plate n) 9500 false = true := by simp [sensorValid]
    simp only [Bay.tempSample, valid, Bay.onlyIf, Bay.readingUsed, if_true, Bay.applyReading, Bay.rateValue, Bay.tripLevel, hk, hb]
    simp
  obtain ⟨tsd, -, cause, slot, next⟩ := Bay.trip_shows first (340 + n) 2 n (Config.sensorNumber (506 + n)) 9500
  rw [sampled, Bay.rateSelect_modeSt, Bay.rateSelect_seq, Bay.trip_seq first, seq]
  refine ⟨?plate, by simp [tsd], by simp [cause], by simp [slot], Bay.trip_stops first .., rfl, by simp [next, seq]⟩
  have trips : (b.trip (340 + n) 2 n (Config.sensorNumber (506 + n)) 9500 none).rd k = b.rd k := by
    simp at key
    rcases key with rfl | rfl | rfl | rfl | rfl | rfl <;> simp
  have rates : ¬ k.loc = F.THM_STAT_FAST.loc := by
    simp at key
    rcases key with rfl | rfl | rfl | rfl | rfl | rfl <;> simp
  rw [Bay.rateSelect_rd _ _ _ (by simpa using rates), trips, ← hb]
  simp

/-! ## The rate of a sensor, loss of flow, compensation -/

theorem rateSlow_ends {x : Sensor} {t : Nat} (hslow : s.bay.therm.slowSince = [(sensorId x, t)]) (hfast : s.bay.therm.fast = [sensorId x])
    (ht : secTicks ≤ s.bay.now - t) :
    completes (.sensorRateSlow x) s (fun b => b.therm.fast = [] ∧ b.rd F.THM_STAT_FAST = 0 ∧ keepsRegs s.bay b [F.THM_STAT_FAST]) := by
  refine completes_onBay (exec_sensorRateSlow x) ?_
  have ended : s.bay.rateSlow x = (s.bay.setTherm { s.bay.therm with fast := [] }).wr F.THM_STAT_FAST 0 := by
    simp [Bay.rateSlow, hslow, hfast, ht]
  rw [ended]
  refine ⟨rfl, by simp, fun k hk => ?_⟩
  simp at hk
  simp [hk]

theorem flowLoss_trips {t : Nat} (hlow : s.bay.therm.flowLow = some t) (hdue : 5 * secTicks ≤ s.bay.now - t) (ht : s.bay.therm.tripped = [])
    (htsd : s.bay.flag F.THM_STAT_TSD = false) (hm : s.bay.mode = Mode.energized) :
    completes .flowLoss s (fun b => b.rd F.THM_STAT_TSD = 1 ∧ b.rd F.THM_STAT_CLR_ARMED = 0 ∧ b.rd F.THM_TSD_CAUSE = 3 ∧ b.rd F.THM_TSD_SLOT = 6 ∧
      b.therm.tripped = [350] ∧ 6 ∈ b.modeSt.stops) := by
  refine completes_onBay exec_flowLoss ?_
  have first : s.bay.tripsFirst := ⟨ht, htsd, hm⟩
  have lost : s.bay.flowLoss = s.bay.trip 350 3 6 (Config.sensorNumber 514) (s.bay.rd F.THM_FLOW) none := by
    simp only [Bay.flowLoss, hlow, hdue, if_true]
  obtain ⟨tsd, armed, cause, slot, -⟩ := Bay.trip_shows first 350 3 6 (Config.sensorNumber 514) (s.bay.rd F.THM_FLOW)
  rw [lost]
  exact ⟨tsd, armed, cause, slot, Bay.trip_tripped first .., Bay.trip_stops first ..⟩

theorem flowLoss_waits {t : Nat} (hlow : s.bay.therm.flowLow = some t) (hdue : s.bay.now - t < 5 * secTicks) : completes .flowLoss s (fun b => b = s.bay) :=
  completes_onBay exec_flowLoss (by simp only [Bay.flowLoss, hlow, Nat.not_le.2 hdue, if_false])

/-! ## Compensation (R357) -/

/-- One part of the compensation: frozen where its sensor is invalid, else the value of its polynomial. -/
def Bay.compensatePart (b : Bay) (k : Nat) : Bay :=
  let t := b.therm
  let bad := t.invalid.contains (517 + k)
  if bad && !t.compFrozen.contains k then (b.setTherm { t with compFrozen := t.compFrozen ++ [k] }).note 189
  else if bad then b
  else
    let x := match t.compT.getD k none with
      | some v => polyAt (Config.compPoly k) v
      | none => t.comp.getD k 0
    b.setTherm { t with compFrozen := t.compFrozen.filter (· != k), comp := t.comp.set k x }

theorem Bay.compensate_eq (b : Bay) : b.compensate =
    (b.each (List.range 5) Bay.compensatePart).setFlag F.THM_STAT_COMP_FRZ (!(b.each (List.range 5) Bay.compensatePart).therm.compFrozen.isEmpty) := rfl

theorem Bay.compensatePart_valid {b : Bay} {k : Nat} (h : b.therm.invalid.contains (517 + k) = false) :
    ∃ x, b.compensatePart k = b.setTherm { b.therm with compFrozen := b.therm.compFrozen.filter (· != k), comp := b.therm.comp.set k x } := by
  unfold Bay.compensatePart
  dsimp only
  rw [h]
  exact ⟨_, rfl⟩

theorem Bay.compensatePart_invalid {b : Bay} {k : Nat} (h : b.therm.invalid = [517 + k]) (hf : b.therm.compFrozen = []) :
    b.compensatePart k = (b.setTherm { b.therm with compFrozen := [k] }).note 189 := by
  simp [Bay.compensatePart, h, hf]

/-- The parts taken in turn freeze the one part whose sensor is invalid, and leave the registers but the count of lost events. -/
theorem Bay.compensateParts_freeze {k : Nat} {l : List Nat} (hl : l.Nodup) {b : Bay} (hi : b.therm.invalid = [517 + k])
    (hf : b.therm.compFrozen = [] ∧ k ∈ l ∨ b.therm.compFrozen = [k] ∧ k ∉ l) :
    (b.each l Bay.compensatePart).therm.compFrozen = [k] ∧ ∀ q, ¬ q = F.EVT_STAT_LOST → (b.each l Bay.compensatePart).rd q = b.rd q := by
  induction l generalizing b with
  | nil => exact ⟨by simpa [Bay.each] using hf, fun _ _ => rfl⟩
  | cons j l ih =>
    obtain ⟨hj, hl⟩ := List.nodup_cons.1 hl
    change ((b.compensatePart j).each l Bay.compensatePart).therm.compFrozen = [k] ∧ ∀ q, ¬ q = F.EVT_STAT_LOST → ((b.compensatePart j).each l Bay.compensatePart).rd q = b.rd q
    by_cases e : j = k
    · subst e
      obtain ⟨hf, -⟩ : b.therm.compFrozen = [] ∧ j ∈ j :: l := by simpa using hf
      rw [Bay.compensatePart_invalid hi hf]
      obtain ⟨frozen, stands⟩ := ih hl (b := (b.setTherm { b.therm with compFrozen := [j] }).note 189) (by simp [hi]) (.inr ⟨by simp, hj⟩)
      exact ⟨frozen, fun q hq => (stands q hq).trans (by simp [hq])⟩
    · obtain ⟨x, part⟩ := Bay.compensatePart_valid (b := b) (k := j) (by simp [hi]; omega)
      have same : b.therm.compFrozen.filter (· != j) = b.therm.compFrozen := by
        obtain ⟨hf, -⟩ | ⟨hf, -⟩ := hf <;> simp [hf, Ne.symm e]
      rw [same] at part
      rw [part]
      obtain ⟨frozen, stands⟩ := ih hl (b := b.setTherm { b.therm with comp := b.therm.comp.set j x }) hi (by simpa [Ne.symm e] using hf)
      exact ⟨frozen, fun q hq => (stands q hq).trans rfl⟩

/-- Where every sensor is valid the parts change no register, and freeze nothing. -/
theorem Bay.compensateParts_valid {l : List Nat} {b : Bay} (hi : b.therm.invalid = []) :
    (b.therm.compFrozen = [] → (b.each l Bay.compensatePart).therm.compFrozen = []) ∧ ∀ q, (b.each l Bay.compensatePart).rd q = b.rd q := by
  induction l generalizing b with
  | nil => exact ⟨id, fun _ => rfl⟩
  | cons j l ih =>
    change (b.therm.compFrozen = [] → ((b.compensatePart j).each l Bay.compensatePart).therm.compFrozen = []) ∧
      ∀ q, ((b.compensatePart j).each l Bay.compensatePart).rd q = b.rd q
    obtain ⟨x, part⟩ := Bay.compensatePart_valid (b := b) (k := j) (by simp [hi])
    rw [part]
    obtain ⟨frozen, stands⟩ := ih (b := b.setTherm { b.therm with compFrozen := b.therm.compFrozen.filter (· != j), comp := b.therm.comp.set j x }) hi
    exact ⟨fun hf => frozen (by simp [hf]), fun q => (stands q).trans rfl⟩

theorem compensation_freezes {k : Fin 5} (hi : s.bay.therm.invalid = [517 + k.val]) (hf : s.bay.therm.compFrozen = []) :
    completes .compensationUpdate s (fun b => b.therm.compFrozen = [k.val] ∧ b.rd F.THM_STAT_COMP_FRZ = 1 ∧
      keepsRegs s.bay b [F.THM_STAT_COMP_FRZ, F.EVT_STAT_LOST]) := by
  refine completes_onBay exec_compensationUpdate ?_
  obtain ⟨frozen, stands⟩ := Bay.compensateParts_freeze (l := List.range 5) List.nodup_range hi (.inl ⟨hf, List.mem_range.2 k.isLt⟩)
  rw [Bay.compensate_eq]
  refine ⟨frozen, by simp [frozen], fun q hq => ?_⟩
  simp at hq
  simp [hq, stands]

theorem compensation_runs (hi : s.bay.therm.invalid = []) :
    completes .compensationUpdate s (fun b => (s.bay.therm.compFrozen = [] → b.therm.compFrozen = []) ∧ keepsRegs s.bay b [F.THM_STAT_COMP_FRZ]) := by
  refine completes_onBay exec_compensationUpdate ?_
  obtain ⟨frozen, stands⟩ := Bay.compensateParts_valid (l := List.range 5) hi
  rw [Bay.compensate_eq]
  refine ⟨frozen, fun q hq => ?_⟩
  simp at hq
  simp [hq, stands]

/-! ## The way out of the shutdown (R364) -/

theorem tsdRead_arms (h : s.bay.flag F.THM_STAT_TSD = true) : exec .tsdRead s = s.onBay (fun b => b.setFlag F.THM_STAT_CLR_ARMED true) := by
  simp [exec_tsdRead, State.onBay, h]

theorem tsdRead_idle (h : s.bay.flag F.THM_STAT_TSD = false) : completes .tsdRead s (fun b => b = s.bay) :=
  completes_onBay exec_tsdRead (by simp [h])

/-- A write of TSD_CLR that the block takes clears the shutdown as R364 says. -/
theorem exec_tsdClr_of_open (hg : s.bay.gate F.THM_CTL_TSD_CLR = none) : exec .tsdClr s = s.onBay (fun b => b.tsdClear) := by
  simp [exec_tsdClr, State.onBay, Bay.gated_open hg]

theorem Bay.refuse_keepsRegs (b : Bay) (k : Key) (r : Int) : keepsRegs b (b.refuse k r) [F.EVT_STAT_LOST] := fun q hq => by
  simp at hq
  simp [hq]

/-- The clear takes the shutdown and its arming down, no quantity stands tripped, and event 188 follows. -/
theorem Bay.tsdClear_clears {b : Bay} (ha : b.flag F.THM_STAT_CLR_ARMED = true) (hc : b.tripsClear = true) :
    ∃ b0 : Bay, b.tsdClear = b0.note 188 ∧ b0.therm.tripped = [] ∧ b0.rd F.THM_STAT_TSD = 0 ∧ b0.rd F.THM_STAT_CLR_ARMED = 0 ∧
      keepsRegs b b0 [F.THM_STAT_TSD, F.THM_STAT_CLR_ARMED] := by
  have convs : ∀ (b : Bay) (q : Key), (b.each b.wales (fun b n => b.setWale n { b.waleSt n with convOn := b.rd (F.SEC_STAT_STATE n) == 0 })).rd q = b.rd q :=
    fun b q => Bay.each_rd (fun b n => Bay.setWale_rd b n _ q) b b.wales
  refine ⟨_, by simp only [Bay.tsdClear, ha, hc, Bool.not_true, Bool.false_eq_true, if_false]; rfl, ?tripped, ?tsd, ?armed, fun q hq => ?stands⟩
  case tripped =>
    rw [Bay.each_therm _ (fun b n => Bay.setWale_therm b n _) _]
    rfl
  case tsd =>
    rw [convs]
    simp
  case armed =>
    rw [convs]
    simp
  case stands =>
    rw [convs]
    simp at hq
    simp [hq]

theorem tripsClear_iff (b : Bay) : b.tripsClear = true ↔ ((∀ c, c < 64 → ∀ t ∈ (b.thermChOf c).tj, t ≤ 12000) ∧ (∀ t ∈ b.therm.convTj, t ≤ 12000) ∧
    (∀ t ∈ b.therm.legTj, t ≤ 12000) ∧ (∀ n, n < 6 → b.rd (plateKey n) ≤ 8000) ∧ 600 ≤ b.rd F.THM_FLOW) := by
  simp [Bay.tripsClear, allChans, and_assoc]

section
variable (hg : s.bay.gate F.THM_CTL_TSD_CLR = none)
include hg

theorem tsdClr_unarmed (ha : s.bay.flag F.THM_STAT_CLR_ARMED = false) : completes .tsdClr s (fun b => b = s.bay.refuse F.THM_CTL_TSD_CLR 5) :=
  completes_onBay (exec_tsdClr_of_open hg) (by simp [Bay.tsdClear, ha])

theorem tsdClr_unclear (ha : s.bay.flag F.THM_STAT_CLR_ARMED = true) (hc : s.bay.tripsClear = false) :
    completes .tsdClr s (fun b => b = s.bay.refuse F.THM_CTL_TSD_CLR 4) :=
  completes_onBay (exec_tsdClr_of_open hg) (by simp [Bay.tsdClear, ha, hc])

end

theorem completes_mono {c : Instr} {P Q : Bay → Prop} (h : completes c s P) (hpq : ∀ b, P b → Q b) : completes c s Q := by
  obtain ⟨t, he, hm, hp, h⟩ := h
  exact ⟨t, he, hm, hp, hpq _ h⟩

end

end Sys2Proof.Machine

namespace Sys2Proof

open Sys2Proof.Machine

/-- Settles O40: a sample takes effect where its sensor belongs, and the first trip, whatever its quantity, shows itself the same. -/
theorem temperaturesAndShutdown : Obligations.TemperaturesAndShutdown := by
  intro s
  refine ⟨?outlet, ?switch, ?die, ?plate, ?slow, ?flow, ?flowWaits, ?freeze, ?runs, ?read, ?clear, ?unarmed, ?unclear⟩
  case outlet => exact fun v low high hi => outlet_sampled low high hi
  case switch => exact fun c hc hi => cellSwitch_replaced hc hi
  case die => exact fun x v hx hot high ho hs hw hj => die_fails hx hot high ho hs hw hj
  case plate => exact fun n hx ht htsd hm => plate_trips hx ht htsd hm
  case slow => exact fun x t hslow hfast ht => rateSlow_ends hslow hfast ht
  case flow => exact fun t hlow hdue ht htsd hm => flowLoss_trips hlow hdue ht htsd hm
  case flowWaits => exact fun t hlow hdue => flowLoss_waits hlow hdue
  case freeze => exact fun k hi hf => compensation_freezes hi hf
  case runs => exact fun hi => compensation_runs hi
  case read =>
    refine fun h => completes_onBay (tsdRead_arms h) ⟨by simp, fun k hk => ?_⟩
    simp at hk
    simp [hk]
  case clear =>
    intro hg ha hc
    obtain ⟨b0, clears, tripped, tsd, armed, stands⟩ := Bay.tsdClear_clears ha hc
    refine completes_onBay (exec_tsdClr_of_open hg) ?_
    rw [clears]
    refine ⟨by simp [tsd], by simp [armed], by simp [tripped], fun k hk => ?_⟩
    simp at hk
    simp [hk, stands k (by simp [hk])]
  case unarmed => exact fun hg ha => tsdClr_unarmed hg ha
  case unclear => exact fun hg ha hc => tsdClr_unclear hg ha hc

/-- Settles O47: the write of TSD_CLR is judged by the arming first, by the quantities second. -/
theorem thermalShutdownIsLeftInSequence : Obligations.ThermalShutdownIsLeftInSequence := by
  intro s
  refine ⟨tripsClear_iff s.bay, ?read, fun h => tsdRead_idle h, ?unarmed, ?unclear, ?clear⟩
  case read =>
    refine fun h => completes_onBay (tsdRead_arms h) ⟨by simp [Bay.flag], fun k hk => ?_⟩
    simp at hk
    simp [hk]
  case unarmed => exact fun hg ha => completes_mono (tsdClr_unarmed hg ha) fun b e => ⟨e, e ▸ Bay.refuse_keepsRegs _ _ _⟩
  case unclear => exact fun hg ha hc => completes_mono (tsdClr_unclear hg ha hc) fun b e => ⟨e, e ▸ Bay.refuse_keepsRegs _ _ _⟩
  case clear =>
    intro hg ha hc
    obtain ⟨b0, clears, tripped, tsd, armed, stands⟩ := Bay.tsdClear_clears ha hc
    refine completes_onBay (exec_tsdClr_of_open hg) ?_
    rw [clears]
    refine ⟨by simp [Bay.flag, tsd], by simp [Bay.flag, armed], ?mode, ⟨b0, rfl⟩, fun k hk => ?_⟩
    case mode => exact (Bay.note_mode b0 188).trans (stands F.BAY_STAT_MODE (by simp))
    simp at hk
    simp [hk, stands k (by simp [hk])]

/-- Settles O56: no byte is listed after reset. -/
theorem resetMemoriesCanonical : Obligations.ResetMemoriesCanonical := State.reset_mem

end Sys2Proof
end

section
/-! PROOFS. The event log: an entry enters at its place, and a full log gives up an entry of lower priority (R394 to R396). -/

namespace Sys2Proof.Machine

/-! ## The order of R396 -/

theorem evBefore_iff (x y : EvEntry) :
    evBefore x y = true ↔ x.time < y.time ∨ x.time = y.time ∧ (x.src < y.src ∨ x.src = y.src ∧ x.sub < y.sub) := by
  simp [evBefore]

theorem evBefore_asymm {x y : EvEntry} (h : evBefore x y = true) : evBefore y x = false := by
  rw [Bool.eq_false_iff, ne_eq, evBefore_iff]
  rw [evBefore_iff] at h
  omega

theorem not_evBefore_trans {x y z : EvEntry} (hxy : evBefore y x = false) (hyz : evBefore z y = false) : evBefore z x = false := by
  rw [Bool.eq_false_iff, ne_eq, evBefore_iff] at *
  omega

/-! ## An entry enters, an entry leaves -/

theorem insertEv_perm (e : EvEntry) (l : List EvEntry) : (insertEv e l).Perm (e :: l) := by
  induction l with
  | nil => exact .refl _
  | cons x r ih =>
    rw [insertEv]
    split
    · exact .refl _
    · exact (ih.cons x).trans (.swap e x r)

theorem mem_insertEv {e x : EvEntry} {l : List EvEntry} : x ∈ insertEv e l ↔ x = e ∨ x ∈ l := by
  rw [(insertEv_perm e l).mem_iff, List.mem_cons]

theorem length_insertEv (e : EvEntry) (l : List EvEntry) : (insertEv e l).length = l.length + 1 := (insertEv_perm e l).length_eq

theorem insertEv_inOrder {e : EvEntry} {l : List EvEntry} (h : logInOrder l) : logInOrder (insertEv e l) := by
  induction l with
  | nil => exact List.pairwise_singleton _ _
  | cons x r ih =>
    obtain ⟨hx, hr⟩ := List.pairwise_cons.1 h
    rw [insertEv]
    split
    · rename_i before
      refine List.pairwise_cons.2 ⟨fun y hy => ?_, h⟩
      obtain rfl | hy := List.mem_cons.1 hy
      · exact evBefore_asymm before
      · exact not_evBefore_trans (evBefore_asymm before) (hx y hy)
    · rename_i after
      refine List.pairwise_cons.2 ⟨fun y hy => ?_, ih hr⟩
      obtain rfl | hy := mem_insertEv.1 hy
      · simpa using after
      · exact hx y hy

theorem removeEv_eq_erase (e : EvEntry) (l : List EvEntry) : removeEv e l = l.erase e := by
  induction l with
  | nil => rfl
  | cons x r ih => by_cases h : x = e <;> simp [removeEv, h, ih]

theorem removeEv_inOrder {e : EvEntry} {l : List EvEntry} (h : logInOrder l) : logInOrder (removeEv e l) := by
  rw [removeEv_eq_erase]
  exact h.sublist List.erase_sublist

theorem length_removeEv {e : EvEntry} {l : List EvEntry} (h : e ∈ l) : (removeEv e l).length = l.length - 1 := by
  rw [removeEv_eq_erase, List.length_erase_of_mem h]

/-! ## The victim of a full log (R395) -/

/-- The entries among which the victim is: all but the oldest where it is released. -/
def victimPool : List EvEntry → List EvEntry
  | [] => []
  | e :: r => if e.released then r else e :: r

/-- The later of two entries that has no higher priority than the other. -/
def lowerOf (acc : Option EvEntry) (e : EvEntry) : Option EvEntry :=
  match acc with
  | none => some e
  | some v => if e.prio ≤ v.prio then some e else some v

theorem victimOf_eq (l : List EvEntry) : victimOf l = (victimPool l).foldl lowerOf none := by
  cases l <;> rfl

theorem mem_of_foldl_lowerOf {l : List EvEntry} {acc : Option EvEntry} {v : EvEntry} (h : l.foldl lowerOf acc = some v) : acc = some v ∨ v ∈ l := by
  induction l generalizing acc with
  | nil => exact .inl h
  | cons e r ih =>
    obtain h | h := ih h
    · cases acc with
      | none => exact .inr (by simp [lowerOf] at h; simp [h])
      | some a =>
        simp only [lowerOf] at h
        split at h
        · exact .inr (by simp at h; simp [h])
        · exact .inl h
    · exact .inr (List.mem_cons_of_mem _ h)

theorem mem_victimPool {l : List EvEntry} {v : EvEntry} (h : victimOf l = some v) : v ∈ victimPool l := by
  rw [victimOf_eq] at h
  simpa using mem_of_foldl_lowerOf h

theorem victimPool_sublist (l : List EvEntry) : (victimPool l).Sublist l := by
  cases l with
  | nil => exact .slnil
  | cons e r =>
    rw [victimPool]
    split
    · exact List.sublist_cons_self _ _
    · exact .refl _

theorem mem_of_victimOf {l : List EvEntry} {v : EvEntry} (h : victimOf l = some v) : v ∈ l := (victimPool_sublist l).subset (mem_victimPool h)

/-- The released oldest entry stays when the victim leaves. -/
theorem mem_removeEv_of_released {l : List EvEntry} {v e : EvEntry} (h : victimOf l = some v) (hr : e.released = true) (he : l.head? = some e) :
    e ∈ removeEv v l := by
  cases l with
  | nil => simp at he
  | cons x r =>
    obtain rfl : x = e := by simpa using he
    have inTail : v ∈ r := by simpa [victimPool, hr] using mem_victimPool h
    rw [removeEv_eq_erase]
    by_cases e : x = v
    · simpa [e] using inTail
    · simp [e]

/-! ## The log after an event -/

/-- A property of a log that survives the entry of an event survives its loss, which may enter event 251. -/
theorem Bay.loseEvent_log (b : Bay) {P : List EvEntry → Prop} (h : P b.log) (hi : ∀ e, P (insertEv e b.log)) : P b.loseEvent.log := by
  unfold Bay.loseEvent
  dsimp only
  split
  · exact h
  · exact hi _

section
variable (b : Bay) (t src : Nat) (prio d v : Int)

/-- An event is lost to the count of its source, enters, replaces the victim of lower priority, or is lost. -/
theorem Bay.logEvent_cases : (b.logEvent t src prio d v).log = b.log ∧ (b.logEvent t src prio d v).episode = b.episode ∨
    ∃ e : EvEntry, b.log.length < 4095 ∧ (b.logEvent t src prio d v) = { b with log := insertEv e b.log } ∨
    ¬ b.log.length < 4095 ∧ (b.logEvent t src prio d v = b.loseEvent ∨
      ∃ x, victimOf b.log = some x ∧ x.prio < prio ∧ b.logEvent t src prio d v = ({ b with log := insertEv e (removeEv x b.log) }).loseEvent) := by
  unfold Bay.logEvent
  dsimp only
  split
  · exact .inl ⟨rfl, rfl⟩
  · refine .inr ⟨⟨t, src, sameTimeSrc b.log t src, prio, d, v, false⟩, ?_⟩
    split
    · exact .inl ⟨‹_›, rfl⟩
    · refine .inr ⟨‹_›, ?_⟩
      split
      · rename_i x hx
        split
        · exact .inr ⟨x, hx, ‹_›, rfl⟩
        · exact .inl rfl
      · exact .inl rfl

theorem Bay.logEvent_enters (hsub : sameTimeSrc b.log t src < 32) (hlen : b.log.length < 4095) :
    (b.logEvent t src prio d v).log = insertEv ⟨t, src, sameTimeSrc b.log t src, prio, d, v, false⟩ b.log := by
  simp [Bay.logEvent, Nat.not_le.2 hsub, hlen]

theorem Bay.logEvent_inOrder (h : logInOrder b.log) : logInOrder (b.logEvent t src prio d v).log := by
  obtain ⟨same, -⟩ | ⟨e, ⟨-, enters⟩ | ⟨-, lost | ⟨x, -, -, replaces⟩⟩⟩ := b.logEvent_cases t src prio d v
  · rw [same]
    exact h
  · rw [enters]
    exact insertEv_inOrder h
  · rw [lost]
    exact b.loseEvent_log h (fun e => insertEv_inOrder h)
  · rw [replaces]
    have placed : logInOrder (insertEv e (removeEv x b.log)) := insertEv_inOrder (removeEv_inOrder h)
    exact Bay.loseEvent_log _ placed (fun e => insertEv_inOrder placed)

/-- A lost event opens the overflow episode, whose event 251 takes the place kept for it. -/
theorem Bay.loseEvent_sized {b b' : Bay} (h : logSized b) (he : b'.episode = b.episode) (hl : b'.log.length = b.log.length) : logSized b'.loseEvent := by
  obtain ⟨size, kept⟩ := h
  unfold Bay.loseEvent
  dsimp only
  cases episode : b.episode with
  | true => exact ⟨by simp [he, episode, hl, size], by simp [he, episode]⟩
  | false =>
    have room := kept episode
    exact ⟨by simp [he, episode, length_insertEv, hl]; omega, by simp [he, episode]⟩

theorem Bay.logEvent_sized (h : logSized b) : logSized (b.logEvent t src prio d v) := by
  obtain ⟨same, episode⟩ | ⟨e, ⟨room, enters⟩ | ⟨full, lost | ⟨x, victim, -, replaces⟩⟩⟩ := b.logEvent_cases t src prio d v
  · unfold logSized
    rw [same, episode]
    exact h
  · rw [enters]
    exact ⟨by simp [length_insertEv]; omega, fun _ => by simp [length_insertEv]; omega⟩
  · rw [lost]
    exact Bay.loseEvent_sized h rfl rfl
  · rw [replaces]
    refine Bay.loseEvent_sized h rfl ?_
    simp only [length_insertEv, length_removeEv (mem_of_victimOf victim)]
    omega

theorem Bay.mem_logEvent {e : EvEntry} (h : e ∈ b.log) (hk : e.released = true ∧ b.log.head? = some e ∨ prio ≤ e.prio) :
    e ∈ (b.logEvent t src prio d v).log := by
  obtain ⟨same, -⟩ | ⟨n, ⟨-, enters⟩ | ⟨-, lost | ⟨x, victim, lower, replaces⟩⟩⟩ := b.logEvent_cases t src prio d v
  · rw [same]
    exact h
  · rw [enters]
    exact mem_insertEv.2 (.inr h)
  · rw [lost]
    exact b.loseEvent_log h (fun _ => mem_insertEv.2 (.inr h))
  · rw [replaces]
    have stays : e ∈ removeEv x b.log := by
      obtain ⟨released, oldest⟩ | prior := hk
      · exact mem_removeEv_of_released victim released oldest
      · rw [removeEv_eq_erase]
        exact (List.mem_erase_of_ne (fun same => absurd lower (by subst same; omega))).2 h
    exact Bay.loseEvent_log _ (mem_insertEv.2 (.inr stays)) (fun _ => mem_insertEv.2 (.inr (mem_insertEv.2 (.inr stays))))

end

/-! ## A source detects an event (R393) -/

section
variable (b : Bay) (src : Nat) (d v : Int)

theorem Bay.raise_off (h : b.rd (F.SRC_CFG_EN src) = 0) : (b.raise src d v).log = b.log ∧ (b.raise src d v).episode = b.episode := by
  simp only [Bay.raise, Bay.raiseAt]
  repeat' split
  all_goals simp_all [Bay.sendEvBit]

/-- An event of an enabled source leaves the log as its entry does: engine words and traces do not touch it. -/
theorem Bay.loseEvent_episode : b.loseEvent.episode = true := by
  unfold Bay.loseEvent
  dsimp only
  split
  · assumption
  · rfl

theorem Bay.loseEvent_enters : b.loseEvent.log =
    if b.episode then b.log else insertEv ⟨b.now, 251, sameTimeSrc b.log b.now 251, b.rd (F.SRC_CFG_PRIO 251), 0, 0, false⟩ b.log := by
  unfold Bay.loseEvent
  dsimp only
  split <;> simp_all

/-- An event bit on its way changes nothing of how an entry enters. -/
theorem Bay.logEvent_sendEvBit (t e i : Nat) (prio : Int) :
    ((b.sendEvBit t e i).logEvent b.now src prio d v).log = (b.logEvent b.now src prio d v).log ∧
      ((b.sendEvBit t e i).logEvent b.now src prio d v).episode = (b.logEvent b.now src prio d v).episode := by
  unfold Bay.logEvent Bay.sendEvBit
  dsimp only
  repeat' split
  iterate 2 exact ⟨rfl, rfl⟩
  iterate 3
    rw [Bay.loseEvent_episode, Bay.loseEvent_episode, Bay.loseEvent_enters, Bay.loseEvent_enters]
    exact ⟨rfl, rfl⟩

theorem Bay.raise_on (h : b.rd (F.SRC_CFG_EN src) ≠ 0) :
    (b.raise src d v).log = (b.logEvent b.now src (b.rd (F.SRC_CFG_PRIO src)) d v).log ∧
      (b.raise src d v).episode = (b.logEvent b.now src (b.rd (F.SRC_CFG_PRIO src)) d v).episode := by
  have routed : ∀ (b : Bay) (t s : Nat), ((b.routeEngine t s).traceEvent s).log = b.log ∧ ((b.routeEngine t s).traceEvent s).episode = b.episode :=
    fun b t s => by simp
  by_cases hs : src < 64
  · have hb : (b.sendEvBit b.now src 0).rd (F.SRC_CFG_EN src) ≠ 0 := h
    simp only [Bay.raise, Bay.raiseAt, hs, hb, if_true, if_false, Bay.onlyIf]
    split
    iterate 2
      simp only [routed]
      exact Bay.logEvent_sendEvBit b src d v _ _ _ _
  · simp only [Bay.raise, Bay.raiseAt, hs, h, if_false, Bay.onlyIf]
    split <;> simp only [routed, and_self]

theorem logSized_congr {b b' : Bay} (h : b'.log = b.log ∧ b'.episode = b.episode) : logSized b' ↔ logSized b := by
  unfold logSized
  rw [h.1, h.2]

end

end Sys2Proof.Machine

namespace Sys2Proof

open Sys2Proof.Machine

/-- Settles O51: an entry enters at its place, and where the log is full a removal of a lower entry comes before. -/
theorem eventLogKeepsItsOrderAndSize : Obligations.EventLogKeepsItsOrderAndSize := by
  intro s
  refine ⟨?order, ?size, ?enters, ?off, ?kept⟩
  case order =>
    intro src d v h
    by_cases en : s.bay.rd (F.SRC_CFG_EN src) = 0
    · rw [(s.bay.raise_off src d v en).1]
      exact h
    · rw [(s.bay.raise_on src d v en).1]
      exact Bay.logEvent_inOrder _ _ _ _ _ _ h
  case size =>
    intro src d v h
    by_cases en : s.bay.rd (F.SRC_CFG_EN src) = 0
    · exact (logSized_congr (s.bay.raise_off src d v en)).2 h
    · exact (logSized_congr (s.bay.raise_on src d v en)).2 (Bay.logEvent_sized _ _ _ _ _ _ h)
  case enters =>
    intro src d v en hsub hlen
    rw [(s.bay.raise_on src d v en).1, Bay.logEvent_enters _ _ _ _ _ _ hsub hlen]
    exact insertEv_perm _ _
  case off => exact fun src d v en => (s.bay.raise_off src d v en).1
  case kept =>
    intro src d v e he hk
    by_cases en : s.bay.rd (F.SRC_CFG_EN src) = 0
    · rw [(s.bay.raise_off src d v en).1]
      exact he
    · rw [(s.bay.raise_on src d v en).1]
      exact Bay.mem_logEvent _ _ _ _ _ _ he hk

end Sys2Proof
end

section
/-! PROOFS. What the operations of a memory store, word by word and range by range (R367, R368, R374, R375). -/

namespace Sys2Proof.Machine

/-! ## One memory of one cartridge -/

@[simp] theorem CartMem.ram_setRam_dram (c : CartMem) (r : Ram) (k : Nat) : (c.setRam 0 r).ram k = if k = 0 then r else c.ram k := by
  by_cases h : k = 0 <;> simp [CartMem.ram, CartMem.setRam, h]

theorem MemSys.ram_setRam_dram {m : MemSys} {x y : Nat} (hx : x < 2) (hy : y < 2) (r : Ram) (k : Nat) :
    (m.setRam x 0 r).ram y k = if y = x ∧ k = 0 then r else m.ram y k := by
  by_cases h : y = x
  · subst h
    simp [MemSys.ram, MemSys.setRam, MemSys.cart_setCart_same]
  · have other : (m.setRam x 0 r).cart y = m.cart y := by
      obtain ⟨rfl, rfl⟩ | ⟨rfl, rfl⟩ : x = 0 ∧ y = 1 ∨ x = 1 ∧ y = 0 := by omega
      · rfl
      · rfl
    simp [MemSys.ram, other, h]

@[simp] theorem Ram.mark_cells (n : Nat) (r : Ram) (w : Nat) (e : Option WordErr) : (r.mark w e n).cells = r.cells := by
  induction n generalizing r w with
  | zero => rfl
  | succ n ih => exact ih _ _

/-- The bytes of a range hold what was stored there, and no other byte changes. -/
theorem Ram.get_store {l : List Byte} {r : Ram} (h : r.wf = true) (a k : Nat) :
    (r.store a l).cells.get k = if a ≤ k ∧ k < a + l.length then l.getD (k - a) 0 else r.cells.get k := by
  induction l generalizing r a with
  | nil => simp [Ram.store]
  | cons x l ih =>
    have hc := ((Ram.wf_iff r).1 h).1
    have hp : ({ r with cells := r.cells.put a x } : Ram).wf = true := (Ram.wf_iff _).2 ⟨Cells.put_wf _ _ hc, ((Ram.wf_iff r).1 h).2⟩
    rw [Ram.store, ih hp, Cells.get_put _ _ _ hc]
    obtain rfl | hk := eq_or_ne k a
    · simp
    · by_cases inside : a + 1 ≤ k ∧ k < a + 1 + l.length
      · obtain ⟨i, rfl⟩ : ∃ i, k = a + 1 + i := ⟨k - (a + 1), by omega⟩
        rw [if_pos inside, if_pos (by simp; omega), show a + 1 + i - (a + 1) = i by omega, show a + 1 + i - a = i + 1 by omega, List.getD_cons_succ]
      · rw [if_neg inside, if_neg (Ne.symm hk), if_neg (by simp; omega)]

theorem State.writeWords_mem (s : State) (x k a : Nat) (l : List Byte) :
    (s.writeWords x k a l).mem = s.mem.setRam x k (((s.mem.ram x k).store a l).mark (a / wordBytes k) none (l.length / wordBytes k)) := by
  unfold State.writeWords
  dsimp only
  split <;> rfl

/-! ## A write of whole words, to one cartridge and to every fitted one -/

/-- From `m` to `m'` the bytes `l` stand at `a` in the DRAM of cartridge `x`, and no other byte of a memory has changed. -/
def storedAt (m m' : MemSys) (x a : Nat) (l : List Byte) : Prop :=
  (∀ k, (m'.ram x 0).cells.get k = if a ≤ k ∧ k < a + l.length then l.getD (k - a) 0 else (m.ram x 0).cells.get k) ∧
    ∀ y k, y < 2 → ¬ (y = x ∧ k = 0) → m'.ram y k = m.ram y k

theorem State.writeWords_stored {s : State} (h : s.mem.wf = true) {x : Nat} (hx : x < 2) (a : Nat) (l : List Byte) :
    storedAt s.mem (s.writeWords x 0 a l).mem x a l := by
  rw [State.writeWords_mem]
  refine ⟨fun k => ?_, fun y k hy hne => ?_⟩
  · rw [MemSys.ram_setRam_dram hx hx, if_pos ⟨rfl, rfl⟩, Ram.mark_cells, Ram.get_store (MemSys.ram_wf h x 0)]
  · rw [MemSys.ram_setRam_dram hx hy, if_neg hne]

theorem storedAt_append {m m' m'' : MemSys} {x a : Nat} {l l' : List Byte} (h : storedAt m m' x a l) (h' : storedAt m' m'' x (a + l.length) l') :
    storedAt m m'' x a (l ++ l') := by
  refine ⟨fun k => ?_, fun y k hy hne => (h'.2 y k hy hne).trans (h.2 y k hy hne)⟩
  rw [h'.1, h.1]
  by_cases first : a ≤ k ∧ k < a + l.length
  · rw [if_neg (by omega), if_pos first, if_pos (by simp; omega), List.getD_append _ _ _ _ (by omega)]
  · by_cases second : a + l.length ≤ k ∧ k < a + l.length + l'.length
    · rw [if_pos second, if_pos (by simp; omega), List.getD_append_right _ _ _ _ (by omega), show k - a - l.length = k - (a + l.length) by omega]
    · rw [if_neg second, if_neg first, if_neg (by simp; omega)]

theorem State.writeWords_wf {s : State} (h : s.mem.wf = true) (x k a : Nat) (l : List Byte) : (s.writeWords x k a l).mem.wf = true :=
  (State.writeWords_tame s x k a l).2 h

/-- The `n` whole words of `l` written in turn. -/
def State.writeEach (s : State) (x a : Nat) (l : List Byte) (n : Nat) : State :=
  (List.range n).foldl (fun s i => s.writeWords x 0 (a + 8 * i) ((l.drop (8 * i)).take 8)) s

theorem State.writeEach_succ (s : State) (x a : Nat) (l : List Byte) (n : Nat) :
    s.writeEach x a l (n + 1) = (s.writeEach x a l n).writeWords x 0 (a + 8 * n) ((l.drop (8 * n)).take 8) := by
  simp [State.writeEach, List.range_succ]

theorem State.writeEach_stored {s : State} (h : s.mem.wf = true) {x : Nat} (hx : x < 2) (a : Nat) {l : List Byte} {n : Nat} (hn : 8 * n ≤ l.length) :
    (s.writeEach x a l n).mem.wf = true ∧ storedAt s.mem (s.writeEach x a l n).mem x a (l.take (8 * n)) := by
  induction n with
  | zero => exact ⟨h, fun k => by simp [State.writeEach], fun _ _ _ _ => rfl⟩
  | succ n ih =>
    obtain ⟨wf, stored⟩ := ih (by omega)
    rw [State.writeEach_succ]
    refine ⟨State.writeWords_wf wf _ _ _ _, ?_⟩
    have placed := State.writeWords_stored wf hx (a + 8 * n) ((l.drop (8 * n)).take 8)
    have split : l.take (8 * (n + 1)) = l.take (8 * n) ++ (l.drop (8 * n)).take 8 := by rw [Nat.mul_succ, List.take_add]
    rw [split]
    refine storedAt_append stored ?_
    rwa [show a + (l.take (8 * n)).length = a + 8 * n by simp; omega]

theorem State.mergeWrite_of_words (s : State) (x a master acc : Nat) (l : List Byte) {n : Nat} (ha : a % 8 = 0) (hl : l.length = 8 * n) :
    s.mergeWrite x 0 a master acc l = (s.writeEach x a l n, true) := by
  have words : ∀ (m : Nat) (hm : m ≤ n), (List.range m).foldl (fun (st : State × Bool) i =>
      (st.1.writeWords x 0 (a + 8 * i) ((l.drop (8 * i)).take 8), st.2)) (s, true) = (s.writeEach x a l m, true) := fun m hm => by
    induction m with
    | zero => rfl
    | succ m ih => rw [List.range_succ, List.foldl_append, ih (by omega), State.writeEach_succ]; rfl
  rw [← words n (Nat.le_refl n)]
  unfold State.mergeWrite
  have count : (a + l.length + wordBytes 0 - 1) / wordBytes 0 - a / wordBytes 0 = n := by simp [wordBytes]; omega
  dsimp only
  rw [count]
  refine List.foldl_ext _ _ _ (fun st i hi => ?_)
  have hi := List.mem_range.1 hi
  have lo : max a ((a / wordBytes 0 + i) * wordBytes 0) = a + 8 * i := by simp [wordBytes]; omega
  have hi : min (a + l.length) ((a / wordBytes 0 + i + 1) * wordBytes 0) = a + 8 * i + 8 := by simp [wordBytes]; omega
  rw [lo, hi, if_pos (by simp [wordBytes]), show a + 8 * i - a = 8 * i by omega, show a + 8 * i + 8 - (a + 8 * i) = 8 by omega]

theorem State.mergeWrite_stored {s : State} (h : s.mem.wf = true) {x : Nat} (hx : x < 2) {a : Nat} (master acc : Nat) {l : List Byte} (ha : a % 8 = 0)
    (hl : l.length % 8 = 0) : storedAt s.mem (s.mergeWrite x 0 a master acc l).1.mem x a l := by
  obtain ⟨n, hn⟩ : ∃ n, l.length = 8 * n := ⟨l.length / 8, by omega⟩
  rw [State.mergeWrite_of_words s x a master acc l ha hn]
  have stored := (State.writeEach_stored h hx a (l := l) (n := n) (by omega)).2
  rwa [List.take_of_length_le (by omega)] at stored

/-- A write of whole words to the window goes to the DRAM of every fitted cartridge, and to no other memory. -/
theorem State.windowFold_stored {a : Nat} (master cart : Nat) {l : List Byte} (ha : a % 8 = 0) (hl : l.length % 8 = 0) {carts : List Nat} (hc : ∀ x ∈ carts, x < 2)
    {s : State} (h : s.mem.wf = true) (ok : Bool) :
    let t := (carts.foldl (fun (st : State × Bool) x =>
      let r := st.1.mergeWrite x 0 a master 2 l
      (r.1, st.2 && (r.2 || x != cart))) (s, ok)).1
    (∀ y k, y < 2 → (t.mem.ram y 0).cells.get k =
      if y ∈ carts ∧ a ≤ k ∧ k < a + l.length then l.getD (k - a) 0 else (s.mem.ram y 0).cells.get k) ∧
    ∀ y k, y < 2 → k ≠ 0 → t.mem.ram y k = s.mem.ram y k := by
  induction carts generalizing s ok with
  | nil => exact ⟨fun y k _ => by simp, fun _ _ _ _ => rfl⟩
  | cons x carts ih =>
    obtain ⟨hx, hc⟩ := List.forall_mem_cons.1 hc
    have wf : (s.mergeWrite x 0 a master 2 l).1.mem.wf = true := (State.mergeWrite_tame s x 0 a master 2 l).2 h
    obtain ⟨bytes, others⟩ := State.mergeWrite_stored h hx master 2 ha hl
    obtain ⟨bytes', others'⟩ := ih hc wf (ok && ((s.mergeWrite x 0 a master 2 l).2 || x != cart))
    refine ⟨fun y k hy => (bytes' y k hy).trans ?_, fun y k hy hk => (others' y k hy hk).trans (others y k hy (fun e => hk e.2))⟩
    by_cases inside : a ≤ k ∧ k < a + l.length
    · by_cases later : y ∈ carts
      · rw [if_pos ⟨later, inside⟩, if_pos ⟨List.mem_cons_of_mem _ later, inside⟩]
      · rw [if_neg (fun e => later e.1)]
        by_cases here : y = x
        · subst here
          rw [bytes, if_pos inside, if_pos ⟨List.mem_cons_self .., inside⟩]
        · rw [others y 0 hy (fun e => here e.1), if_neg (by simp [here, later])]
    · rw [if_neg (fun e => inside e.2), if_neg (fun e => inside e.2)]
      by_cases here : y = x
      · subst here
        rw [bytes, if_neg inside]
      · rw [others y 0 hy (fun e => here e.1)]

theorem Bay.mem_carts {b : Bay} {y : Nat} : y ∈ b.carts ↔ y < 2 ∧ b.cPresent y = true := by
  have two : y = 0 ∨ y = 1 ↔ y < 2 := by omega
  simp [Bay.carts, two]

theorem State.windowWrite_stored {s : State} (h : s.mem.wf = true) (cart master : Nat) {a : Nat} {l : List Byte} (ha : windowOff a % 8 = 0) (hl : l.length % 8 = 0) :
    (∀ y k, y < 2 → ((s.windowWrite cart master a l).1.mem.ram y 0).cells.get k =
      if s.bay.cPresent y = true ∧ windowOff a ≤ k ∧ k < windowOff a + l.length then l.getD (k - windowOff a) 0 else (s.mem.ram y 0).cells.get k) ∧
    ∀ y k, y < 2 → k ≠ 0 → (s.windowWrite cart master a l).1.mem.ram y k = s.mem.ram y k := by
  obtain ⟨bytes, others⟩ := State.windowFold_stored master cart ha hl (carts := s.bay.carts) (fun x hx => (Bay.mem_carts.1 hx).1) h true
  exact ⟨fun y k hy => by simpa [State.windowWrite, Bay.mem_carts, hy] using bytes y k hy, others⟩

/-! ## BULK_WRITE of a session to its own stake (R426) -/

section
variable {s : State} {j : Fin 4} {tag : BitVec 32} {stake : Fin 64} {a : BitVec 32} {x : Session}
  (h0 : s.bay.mode ≠ 0) (hx : s.bay.session j = some x) (hs : stake.val = s.bay.node)
include h0 hx hs

theorem exec_bulkWrite_of_here (l : List Byte) :
    exec (.bulkWrite j tag stake a l) s = .next ((s.heard j x).doBulkWrite j tag.toNat a.toNat l x) := by
  have here : stake.val = (s.heard j x).bay.node := hs.trans (State.heard_node s j x).symm
  change execBulkWrite j tag stake a l s = _
  simp only [execBulkWrite, State.onSession, if_neg h0, hx]
  exact congrArg _ (if_pos here)

end

/-- A bulk access that nothing stops before the firewall is of whole words inside the window. -/
theorem Bay.bulkError_none {b : Bay} {cart a n : Nat} (h : b.bulkError cart a n = 0) : n % 8 = 0 ∧ a % 8 = 0 ∧ inWindow a = true := by
  unfold Bay.bulkError at h
  split at h
  · cases h
  · rename_i hn
    split at h
    · cases h
    · split at h
      · cases h
      · rename_i ha hw
        simp at hn hw
        exact ⟨hn.1, by omega, hw.1⟩

theorem mayWrite_window {level : Int} {a : Nat} (hw : inWindow a = true) (hl : 1 ≤ level) (hs : windowWritable a = true) : mayWrite level a = true := by
  simp [mayWrite, hw, hl, hs]

theorem State.doBulkWrite_of_staging {s : State} {i tag a : Nat} {l : List Byte} {x : Session} (he : s.bay.bulkError x.cart a l.length = 0) (hl : 1 ≤ x.level)
    (hs : windowWritable a = true) (hs' : windowWritable (a + l.length - 8) = true) (hw : inWindow (a + l.length - 8) = true) :
    s.doBulkWrite i tag a l x = (s.windowWrite x.cart (40 + i) a l).1.answer i tag 0 [] := by
  obtain ⟨-, -, hwa⟩ := Bay.bulkError_none he
  simp [State.doBulkWrite, he, mayWrite_window hwa hl hs, mayWrite_window hw hl hs']

end Sys2Proof.Machine

namespace Sys2Proof

open Sys2Proof.Machine

/-- Settles O52: the words are whole, so each fitted cartridge stores them in turn and no other byte moves. -/
theorem bulkWriteStoresItsBytes : Obligations.BulkWriteStoresItsBytes := by
  intro s j tag stake a l x wf h0 hx hs hne he hl ha ha' hw
  obtain ⟨whole, aligned, hwa⟩ := Bay.bulkError_none he
  have off : windowOff a.toNat % 8 = 0 := by unfold windowOff; omega
  have wf' : (s.heard j x).mem.wf = true := wf
  have present : ∀ y, (s.heard j x).bay.cPresent y = s.bay.cPresent y := fun y => by simp [Bay.cPresent, State.heard]
  have he' : (s.heard j x).bay.bulkError x.cart a.toNat l.length = 0 := by
    rw [← he]
    simp [Bay.bulkError, State.heard, Bay.flag]
  obtain ⟨bytes, others⟩ := State.windowWrite_stored wf' x.cart (40 + j) off whole
  refine ⟨_, exec_bulkWrite_of_here h0 hx hs l, ?_⟩
  rw [State.doBulkWrite_of_staging he' hl ha ha' hw]
  refine ⟨fun y k hy => ?fitted, fun y k hy => ?absent, fun y m hm => others y m y.isLt (fun e => hm (Fin.ext e)), ?answer⟩
  case fitted =>
    refine (bytes y k y.isLt).trans ?_
    simp only [present, hy, true_and]
    rfl
  case absent =>
    refine (bytes y k y.isLt).trans ?_
    simp only [present, hy, Bool.false_eq_true, false_and, if_false]
    rfl
  case answer => simp [State.answer, Bay.send]

end Sys2Proof
end

section
/-! PROOFS. The memory commands: scrub passes, injection, counters, DMA restart, initialisation (R376 to R381). -/

namespace Sys2Proof.Machine

theorem CartMem.ram_setRam_same (c : CartMem) (k : Nat) (r : Ram) : (c.setRam k r).ram k = r := by
  unfold CartMem.ram CartMem.setRam
  split
  · rfl
  · split <;> rfl

theorem MemSys.ram_setRam_same (m : MemSys) (x k : Nat) (r : Ram) : (m.setRam x k r).ram x k = r := by
  rw [MemSys.ram, MemSys.setRam, MemSys.cart_setCart_same, CartMem.ram_setRam_same]

theorem Errs.get_below {lo k : Nat} (h : k < lo) {l : Errs} (hl : Errs.wfFrom lo l = true) : l.get k = none := by
  cases l with
  | nil => rfl
  | cons p r =>
    obtain ⟨a, v⟩ := p
    simp only [Errs.wfFrom, Bool.and_eq_true, decide_eq_true_eq] at hl
    rw [Errs.get, if_neg (by omega), if_pos (by omega)]

theorem Errs.get_put_from {lo : Nat} (k : Nat) (e : Option WordErr) {l : Errs} (hl : Errs.wfFrom lo l = true) : (l.put k e).get k = e := by
  induction l generalizing lo with
  | nil => cases e <;> simp [Errs.put, Errs.get]
  | cons p r ih =>
    obtain ⟨a, v⟩ := p
    simp only [Errs.wfFrom, Bool.and_eq_true, decide_eq_true_eq] at hl
    obtain ⟨-, hr⟩ := hl
    by_cases same : a = k
    · subst same
      cases e with
      | none => simpa [Errs.put] using Errs.get_below (Nat.lt_succ_self a) hr
      | some e => simp [Errs.put, Errs.get]
    · by_cases before : k < a
      · cases e <;> simp [Errs.put, Errs.get, same, before]
      · simp only [Errs.put, if_neg same, if_neg before, Errs.get, ih hr]

theorem Errs.get_put_same (k : Nat) (e : Option WordErr) {l : Errs} (hl : l.wf = true) : (l.put k e).get k = e := Errs.get_put_from k e hl

section
variable {s : State} {x : Fin 2}

/-- A memory command that the gate and the cartridge take does its effect. -/
theorem State.onMemory_of_open {k : Key} (hg : s.bay.gate k = none) (hh : s.bay.memHalf x = true) (f : State → State) : s.onMemory x k f = .next (f s) := by
  simp [State.onMemory, Bay.gate_powered hg, hg, hh]

theorem State.onMemory_of_absent {k : Key} (h0 : s.bay.mode ≠ 0) (hg : s.bay.gate k = none) (hh : s.bay.memHalf x = false) (f : State → State) :
    s.onMemory x k f = s.onBay (fun b => b.refuse k 7) := by
  simp [State.onMemory, h0, hg, hh]

theorem exec_scrGo (x : Fin 2) : exec (.scrGo x) s = s.onMemory x (F.MEM_CTL_SCR_GO x) (fun s => s.scrubGo x) := rfl
theorem exec_scrStop (x : Fin 2) : exec (.scrStop x) s = s.onMemory x (F.MEM_CTL_SCR_STOP x) (fun s => s.scrubStop x) := rfl
theorem exec_injGo (x : Fin 2) : exec (.injGo x) s = s.onMemory x (F.MEM_CTL_INJ_GO x) (fun s => s.inject x) := rfl
theorem exec_cntClr (x : Fin 2) : exec (.cntClr x) s = s.onMemory x (F.MEM_CTL_CNT_CLR x) (fun s => { s with bay := s.bay.cntClear x }) := rfl
theorem exec_dmaRst (x : Fin 2) (m : BitVec 16) :
    exec (.dmaRst x m) s = s.onMemory x (F.MEM_DMA_RST_MASK x) (fun s => { s with bay := s.bay.dmaRestart x m.toNat }) := rfl

theorem exec_scrubComplete_of_pass {p : Scrub} (hp : s.bay.scrubOf x = some p) :
    exec (.scrubComplete x) s = .next ((s.scrubTo x (p.last + 1)).scrubEnd x false) := by
  change execScrubComplete x s = _
  simp [execScrubComplete, hp]

theorem exec_memoryInitDone_of_boot (record : Fin 3) (hm : s.bay.mode = Mode.boot) (hc : s.bay.cPresent x = true) (hd : s.bay.flag (F.MEM_STAT_INIT_DONE x) = false) :
    exec (.memoryInitDone x record) s = .next (s.initDone x record) := by
  change execMemoryInitDone x record s = _
  simp [execMemoryInitDone, hm, hc, hd]

end

/-! ## The scrub pass (R376) -/

/-- A pass that finds no word in error moves on and changes nothing else. -/
theorem State.scrubTo_of_clean {s : State} {x : Nat} {p : Scrub} (hp : s.bay.scrubOf x = some p) (he : (s.mem.ram x p.memsel).errs = []) (a : Nat) :
    s.scrubTo x a = { s with bay := s.bay.setScrub x (some { p with pos := max p.pos a }) } := by
  simp [State.scrubTo, hp, he]

/-- The end of a clean pass: no pass stands, and its summary says whether it ended early. -/
theorem clean_pass_ends {s : State} {x : Fin 2} {p : Scrub} (hp : s.bay.scrubOf x = some p) (hl : s.bay.memHid.scrub.length = 2)
    (he : (s.mem.ram x p.memsel).errs = []) (a : Nat) (part : Bool) :
    let t := (s.scrubTo x a).scrubEnd x part
    t.pending = s.pending ∧ t.mem = s.mem ∧ t.bay.scrubOf x = none ∧ t.bay.rd (F.MEM_STAT_SCR_BUSY x) = 0 ∧
      t.bay.rd (F.MEM_STAT_SCR_PART x) = (if part then 1 else 0) ∧ keepsRegs s.bay t.bay [F.MEM_STAT_SCR_BUSY x, F.MEM_STAT_SCR_PART x, F.EVT_STAT_LOST] := by
  rw [State.scrubTo_of_clean hp he]
  dsimp only
  refine ⟨rfl, rfl, ?gone, by simp [State.scrubEnd, Bay.setScrub], by simp [State.scrubEnd], fun q hq => ?stands⟩
  case gone =>
    have inside : x.val < 2 := x.isLt
    simp [State.scrubEnd, Bay.scrubOf, Bay.setScrub, hl, inside]
  case stands =>
    simp at hq
    simp [State.scrubEnd, hq]

/-- What a single error of a word counts in the registers of corrections, and nothing else but the count of lost events. -/
theorem Bay.correction_stands (b : Bay) (x k w syn : Nat) {q : Key} (hq : q.loc ∉ [F.EVT_STAT_LOST.loc, (ceKeys k x).1.loc, (ceKeys k x).2.1.loc, (ceKeys k x).2.2.1.loc]) :
    (b.correction x k w syn).rd q = b.rd q := by
  simp only [List.mem_cons, List.not_mem_nil, or_false, not_or] at hq
  obtain ⟨lost, cnt, addr, synd⟩ := hq
  have ne : ∀ {k : Key}, ¬ q.loc = k.loc → ¬ k = q := fun h e => h (e ▸ rfl)
  have regs : (((b.bump32 (ceKeys k x).1).wr (ceKeys k x).2.1 (w * wordBytes k : Nat)).wr (ceKeys k x).2.2.1 (syn : Nat)).rd q = b.rd q := by
    simp [Bay.rd_wr, Bay.rd_bump32, ne cnt, ne addr, ne synd]
  unfold Bay.correction
  dsimp only
  split
  · exact (Bay.note_loc _ _ lost).trans regs
  · exact regs

/-- The scrubber finds a word of SRAM with a single error and writes it back (R374, R376). -/
theorem State.scrubWord_single (s : State) (x w syn : Nat) : s.scrubWord x 1 w true (.single syn) =
    { s.clearMark x 1 w none with bay := (((s.bay.correction x 1 w syn).scrubSeen x (w * 4)).bump32 (F.MEM_SCR_CE x)).scrubRep x } := rfl

theorem Bay.scrubSeen_last (b : Bay) (x a : Nat) : (b.scrubSeen x a).rd (F.MEM_SCR_LAST x) = a := by simp [Bay.scrubSeen]

theorem single_error_scrubbed {s : State} {x : Fin 2} {p : Scrub} {w syn : Nat} (hp : s.bay.scrubOf x = some p) (hk : p.memsel = 1) (hr : p.repair = true)
    (first : p.pos ≤ 4 * w) (last : 4 * w ≤ p.last) (he : (s.mem.ram x 1).errs = [(w, .single syn)]) :
    ∃ t, exec (.scrubComplete x) s = .next t ∧ t.pending = s.pending ∧ (t.mem.ram x 1).errs = [] ∧ (t.mem.ram x 1).cells = (s.mem.ram x 1).cells ∧
      t.bay.rd (F.MEM_SCR_CE x) = (s.bay.rd (F.MEM_SCR_CE x) + 1) % 4294967296 ∧ t.bay.rd (F.MEM_SCR_REP x) = (s.bay.rd (F.MEM_SCR_REP x) + 1) % 4294967296 ∧
      t.bay.rd (F.MEM_SCR_UE x) = s.bay.rd (F.MEM_SCR_UE x) ∧ t.bay.rd (F.MEM_SCR_LAST x) = 4 * w := by
  have passed : s.scrubTo x (p.last + 1) =
      { s.scrubWord x 1 w true (.single syn) with bay := (s.scrubWord x 1 w true (.single syn)).bay.setScrub x (some { p with pos := max p.pos (p.last + 1) }) } := by
    have due : p.pos ≤ w * 4 ∧ w * 4 < p.last + 1 ∧ w * 4 ≤ p.last := by omega
    simp [State.scrubTo, hp, hk, he, wordBytes, hr, due]
  refine ⟨_, exec_scrubComplete_of_pass hp, ?_⟩
  rw [passed, State.scrubWord_single]
  have ce : (s.bay.correction x 1 w syn).rd (F.MEM_SCR_CE x) = s.bay.rd (F.MEM_SCR_CE x) := Bay.correction_stands _ _ _ _ _ (by simp [ceKeys])
  have ue : (s.bay.correction x 1 w syn).rd (F.MEM_SCR_UE x) = s.bay.rd (F.MEM_SCR_UE x) := Bay.correction_stands _ _ _ _ _ (by simp [ceKeys])
  have rep : (s.bay.correction x 1 w syn).rd (F.MEM_SCR_REP x) = s.bay.rd (F.MEM_SCR_REP x) := Bay.correction_stands _ _ _ _ _ (by simp [ceKeys])
  refine ⟨rfl, ?errs, ?cells, ?_, ?_, ?_, ?_⟩
  case errs => simp [State.scrubEnd, State.clearMark, MemSys.ram_setRam_same, Ram.mark, he, Errs.put]
  case cells => simp [State.scrubEnd, State.clearMark, MemSys.ram_setRam_same]
  · simp [State.scrubEnd, Bay.scrubRep, Bay.rd_bump32, ce]
  · simp [State.scrubEnd, Bay.scrubRep, Bay.rd_bump32, rep]
  · simp [State.scrubEnd, Bay.scrubRep, ue]
  · simp [State.scrubEnd, Bay.scrubRep, Bay.scrubSeen_last]
    omega

/-! ## Injection (R379) -/

/-- What an injected word of SRAM carries. -/
def injectedErr (d chk : Nat) : Option WordErr :=
  match Config.eccClass 1 d chk with
  | 0 => none
  | 1 => some (.single (Config.eccSyn 1 d chk))
  | 2 => some .poison
  | _ => some .double

theorem injectedErr_eq (d chk : Nat) : injectedErr d chk =
    if Config.eccClass 1 d chk = 0 then none else if Config.eccClass 1 d chk = 1 then some (.single (Config.eccSyn 1 d chk))
    else if Config.eccClass 1 d chk = 2 then some .poison else some .double := by
  unfold injectedErr
  split <;> simp_all

/-- The data an injected word of SRAM reads as. -/
def injectedData (d chk : Nat) : Int :=
  match injectedErr d chk with
  | some (.single _) => Config.eccData 1 d chk
  | _ => d

theorem injectedData_eq (d chk : Nat) : injectedData d chk = (if Config.eccClass 1 d chk = 1 then Config.eccData 1 d chk else d : Nat) := by
  unfold injectedData injectedErr
  generalize Config.eccClass 1 d chk = n
  match n with
  | 0 | 1 | 2 => rfl
  | n + 3 => exact congrArg Int.ofNat (if_neg (by omega)).symm

/-- An accepted injection into SRAM stores its data, then marks the word. -/
theorem State.inject_sram {s : State} {x : Nat} (hm : s.bay.mode = Mode.service) (ht : injTarget (s.bay.rdN (F.MEM_INJ_CFG_MEMSEL x)) (s.bay.rdN (F.MEM_INJ_ADDR x)) = true)
    (hk : s.bay.rdN (F.MEM_INJ_CFG_MEMSEL x) = 1) :
    let d := s.bay.rdN (F.MEM_INJ_DLO x) % 4294967296
    let chk := s.bay.rdN (F.MEM_INJ_CHK_VAL x) % 128
    s.inject x = ((s.writeWords x 1 (s.bay.rdN (F.MEM_INJ_ADDR x)) (leBytes 4 (injectedData d chk))).clearMark x 1 (s.bay.rdN (F.MEM_INJ_ADDR x) / 4)
      (injectedErr d chk)).poisonCount x := by
  unfold State.inject
  rw [hk] at ht
  simp only [hm, hk, ht, wordBytes, ne_eq, not_true_eq_false, if_false, Bool.not_true, Bool.false_eq_true, one_ne_zero]
  rfl

theorem length_leBytes (n : Nat) (v : Int) : (leBytes n v).length = n := by
  induction n generalizing v with
  | zero => rfl
  | succ n ih => rw [leBytes, List.length_cons, ih]

theorem injection_stores {s : State} {x : Fin 2} (wf : s.mem.wf = true) (hg : s.bay.gate (F.MEM_CTL_INJ_GO x) = none) (hh : s.bay.memHalf x = true)
    (hm : s.bay.mode = Mode.service) (ht : injTarget (s.bay.rdN (F.MEM_INJ_CFG_MEMSEL x)) (s.bay.rdN (F.MEM_INJ_ADDR x)) = true)
    (hk : s.bay.rdN (F.MEM_INJ_CFG_MEMSEL x) = 1) :
    ∃ t, exec (.injGo x) s = .next t ∧ t.pending = s.pending ∧
      (let d := s.bay.rdN (F.MEM_INJ_DLO x) % 4294967296
       let chk := s.bay.rdN (F.MEM_INJ_CHK_VAL x) % 128
       (∀ i < 4, (t.mem.ram x 1).cells.get (s.bay.rdN (F.MEM_INJ_ADDR x) + i) = (leBytes 4 (if Config.eccClass 1 d chk = 1 then Config.eccData 1 d chk else d : Nat)).getD i 0) ∧
       t.mem.errAt x 1 (s.bay.rdN (F.MEM_INJ_ADDR x) / 4) =
         (if Config.eccClass 1 d chk = 0 then none else if Config.eccClass 1 d chk = 1 then some (.single (Config.eccSyn 1 d chk)) else if Config.eccClass 1 d chk = 2 then some .poison else some .double)) := by
  refine ⟨_, (exec_injGo x).trans (State.onMemory_of_open hg hh _), ?_⟩
  rw [State.inject_sram hm ht hk]
  generalize s.bay.rdN (F.MEM_INJ_DLO x) % 4294967296 = d
  generalize s.bay.rdN (F.MEM_INJ_CHK_VAL x) % 128 = chk
  generalize s.bay.rdN (F.MEM_INJ_ADDR x) = a
  have stored : (s.writeWords x 1 a (leBytes 4 (injectedData d chk))).mem.ram x 1 = ((s.mem.ram x 1).store a (leBytes 4 (injectedData d chk))).mark (a / 4) none 1 := by
    rw [State.writeWords_mem, MemSys.ram_setRam_same, length_leBytes]
    rfl
  have ramWf := MemSys.ram_wf wf x 1
  have marked : ((((s.writeWords x 1 a (leBytes 4 (injectedData d chk))).clearMark x 1 (a / 4) (injectedErr d chk)).poisonCount x).mem.ram x 1) =
      (((s.mem.ram x 1).store a (leBytes 4 (injectedData d chk))).mark (a / 4) none 1).mark (a / 4) (injectedErr d chk) 1 := by
    simp only [State.poisonCount, State.clearMark, MemSys.ram_setRam_same, stored]
  refine ⟨?pending, fun i hi => ?bytes, ?err⟩
  case pending => exact (State.writeWords_tame s x 1 a _).1
  case bytes =>
    rw [marked, Ram.mark_cells, Ram.mark_cells, Ram.get_store ramWf, length_leBytes, if_pos (by omega), show a + i - a = i by omega, injectedData_eq]
  case err =>
    rw [MemSys.errAt, marked, ← injectedErr_eq]
    have errsWf := ((Ram.wf_iff _).1 (Ram.mark_wf 1 _ (a / 4) none (Ram.store_wf (leBytes 4 (injectedData d chk)) _ a ramWf))).2
    exact Errs.get_put_same _ _ errsWf

/-! ## Counters, DMA, initialisation (R378, R380, R381) -/

theorem testBit_clearBitN (v n k : Nat) : (clearBitN v n).testBit k = (v.testBit k && !decide (n = k)) := by
  have parts : v = 2 ^ n * (v / 2 ^ n) + v % 2 ^ n := (Nat.div_add_mod v (2 ^ n)).symm
  have low : v % 2 ^ n < 2 ^ n := Nat.mod_lt _ (Nat.two_pow_pos n)
  generalize v / 2 ^ n = a at parts
  generalize v % 2 ^ n = r at parts low
  subst parts
  have bit : (2 ^ n * a + r).testBit n = a.testBit 0 := by rw [Nat.testBit_two_pow_mul_add _ low, if_neg (Nat.lt_irrefl n), Nat.sub_self]
  unfold clearBitN
  rw [bit]
  by_cases odd : a.testBit 0 = true
  · obtain ⟨q, rfl⟩ : ∃ q, a = 2 * q + 1 := ⟨a / 2, by simp [Nat.testBit_zero] at odd; omega⟩
    have less : 2 ^ n * (2 * q + 1) + r - 2 ^ n = 2 ^ n * (2 * q) + r := by
      have twice : 2 ^ n * (2 * q + 1) = 2 ^ n * (2 * q) + 2 ^ n := Nat.mul_add_one _ _
      omega
    rw [if_pos odd, less, Nat.testBit_two_pow_mul_add _ low, Nat.testBit_two_pow_mul_add _ low]
    split
    · rename_i below
      simp [Nat.ne_of_gt below]
    · rename_i above
      obtain ⟨j, rfl⟩ : ∃ j, k = n + j := ⟨k - n, by omega⟩
      cases j with
      | zero => simp [Nat.testBit_zero]
      | succ j => simp [Nat.testBit_succ, show n + (j + 1) - n = j + 1 by omega, show (2 * q + 1) / 2 = q by omega]
  · rw [if_neg odd]
    by_cases same : n = k
    · subst same
      simp [bit, odd]
    · simp [same]

/-- The bits that the mask names are cleared, one after the other. -/
theorem testBit_foldl_clearBitN (mask : Nat) (l : List Nat) (v k : Nat) :
    (l.foldl (fun m d => if mask.testBit d then clearBitN m d else m) v).testBit k = (v.testBit k && !(decide (k ∈ l) && mask.testBit k)) := by
  induction l generalizing v with
  | nil => simp
  | cons d l ih =>
    rw [List.foldl_cons, ih]
    by_cases named : mask.testBit d = true
    · rw [if_pos named, testBit_clearBitN]
      by_cases same : d = k
      · subst same
        simp [named]
      · simp [same, Ne.symm same]
    · rw [if_neg named]
      by_cases same : d = k
      · subst same
        simp [named]
      · simp [Ne.symm same]

section
variable {s : State} {x : Fin 2}

theorem counters_clear (hg : s.bay.gate (F.MEM_CTL_CNT_CLR x) = none) (hh : s.bay.memHalf x = true) :
    completes (.cntClr x) s (fun b => (∀ k < 3, b.rd (ceKeys k x).1 = 0 ∧ b.rd (ceKeys k x).2.2.2 = 0) ∧ b.now = s.bay.now ∧ b.log = s.bay.log) := by
  refine ⟨_, (exec_cntClr x).trans (State.onMemory_of_open hg hh _), rfl, rfl, fun k hk => ?_, rfl, rfl⟩
  obtain rfl | rfl | rfl : k = 0 ∨ k = 1 ∨ k = 2 := by omega
  all_goals simp [Bay.cntClear, Bay.each, ceKeys]

theorem dma_restarts (m : BitVec 16) (hg : s.bay.gate (F.MEM_DMA_RST_MASK x) = none) (hh : s.bay.memHalf x = true) :
    completes (.dmaRst x m) s (fun b => (∀ d < 16, (b.rdN (F.MEM_DMA_HALT_MASK x)).testBit d = ((s.bay.rdN (F.MEM_DMA_HALT_MASK x)).testBit d && !m.toNat.testBit d)) ∧
      keepsRegs s.bay b [F.MEM_DMA_HALT_MASK x]) := by
  refine ⟨_, (exec_dmaRst x m).trans (State.onMemory_of_open hg hh _), rfl, rfl, fun d hd => ?bits, fun q hq => ?stands⟩
  case bits => simp [Bay.dmaRestart, Bay.rdN, testBit_foldl_clearBitN, hd]
  case stands =>
    simp at hq
    simp [Bay.dmaRestart, hq]

theorem memory_initialised (hm : s.bay.mode = Mode.boot) (hc : s.bay.cPresent x = true) (hd : s.bay.flag (F.MEM_STAT_INIT_DONE x) = false)
    (he : (s.mem.ram x 2).errs = []) :
    ∃ t, exec (.memoryInitDone x 0) s = .next t ∧ t.pending = s.pending ∧ (t.mem.cart x).dram = {} ∧ (t.mem.cart x).sram = {} ∧
      t.bay.rd (F.MEM_STAT_INIT_DONE x) = 1 ∧ keepsRegs s.bay t.bay [F.MEM_STAT_INIT_DONE x] := by
  have emptied : s.initDone x 0 =
      { s with mem := s.mem.setCart x { s.mem.cart x with dram := {}, sram := {} }, bay := s.bay.setFlag (F.MEM_STAT_INIT_DONE x) true } := by
    have none : ((s.mem.setCart x { s.mem.cart x with dram := {}, sram := {} }).ram x 2).errs = [] := by
      rw [MemSys.ram, MemSys.cart_setCart_same]
      exact he
    simp [State.initDone, none]
  refine ⟨_, exec_memoryInitDone_of_boot 0 hm hc hd, ?_⟩
  have first : (0 : Fin 3).val = 0 := rfl
  rw [first, emptied]
  refine ⟨rfl, by rw [MemSys.cart_setCart_same], by rw [MemSys.cart_setCart_same], by simp, fun q hq => ?_⟩
  simp at hq
  simp [hq]

theorem pass_begins (hg : s.bay.gate (F.MEM_CTL_SCR_GO x) = none) (hh : s.bay.memHalf x = true) (hb : s.bay.flag (F.MEM_STAT_SCR_BUSY x) = false)
    (hr : s.bay.rdN (F.MEM_SCR_START x) ≤ s.bay.rdN (F.MEM_SCR_END x)) (hl : s.bay.memHid.scrub.length = 2) :
    completes (.scrGo x) s (fun b => b.rd (F.MEM_STAT_SCR_BUSY x) = 1 ∧ b.rd (F.MEM_STAT_SCR_PART x) = 0 ∧ b.rd (F.MEM_SCR_CE x) = 0 ∧ b.rd (F.MEM_SCR_UE x) = 0 ∧
      b.rd (F.MEM_SCR_REP x) = 0 ∧ b.rd (F.MEM_SCR_FIRST x) = 4294967295 ∧ b.rd (F.MEM_SCR_LAST x) = 4294967295 ∧
      b.scrubOf x = some ⟨s.bay.rdN (F.MEM_SCR_CFG_MEMSEL x), s.bay.flag (F.MEM_SCR_CFG_REPAIR x), s.bay.now, s.bay.rdN (F.MEM_SCR_START x), s.bay.rdN (F.MEM_SCR_END x),
        s.bay.rdN (F.MEM_SCR_START x)⟩) := by
  have inside : x.val < 2 := x.isLt
  have idle : s.bay.rd (F.MEM_STAT_SCR_BUSY x) = 0 := by simpa [Bay.flag] using hb
  refine ⟨_, (exec_scrGo x).trans (State.onMemory_of_open hg hh _), ?_⟩
  simp [State.scrubGo, idle, Nat.not_lt.2 hr, Bay.setScrub, Bay.scrubOf, hl, inside, Bay.flag]

theorem pass_refused (hg : s.bay.gate (F.MEM_CTL_SCR_GO x) = none) (hh : s.bay.memHalf x = true) (hb : s.bay.flag (F.MEM_STAT_SCR_BUSY x) = true) :
    completes (.scrGo x) s (fun b => b = s.bay.refuse (F.MEM_CTL_SCR_GO x) 4) := by
  refine ⟨_, (exec_scrGo x).trans (State.onMemory_of_open hg hh _), ?_⟩
  simp [State.scrubGo, hb]

theorem injection_refused (hg : s.bay.gate (F.MEM_CTL_INJ_GO x) = none) (hh : s.bay.memHalf x = true) (hm : s.bay.mode ≠ Mode.service) :
    completes (.injGo x) s (fun b => b = s.bay.refuse (F.MEM_CTL_INJ_GO x) 6) := by
  refine ⟨_, (exec_injGo x).trans (State.onMemory_of_open hg hh _), ?_⟩
  simp [State.inject, hm]

end

end Sys2Proof.Machine

namespace Sys2Proof

open Sys2Proof.Machine

/-- Settles O43: each command goes through its gate, and a pass touches the words in error of its range alone. -/
theorem memoryScrubbingAndInjection : Obligations.MemoryScrubbingAndInjection := by
  intro s
  refine ⟨?begins, ?busy, ?absent, ?stop, ?complete, ?single, ?inject, ?noService, ?counters, ?dma, ?init⟩
  case begins => exact fun x hg hh hb hr hl => pass_begins hg hh hb hr hl
  case busy => exact fun x hg hh hb => pass_refused hg hh hb
  case absent => exact fun x h0 hg hh => completes_onBay ((exec_scrGo x).trans (State.onMemory_of_absent h0 hg hh _)) rfl
  case stop => exact fun x p hg hh hp hl he =>
    ⟨_, (exec_scrStop x).trans (State.onMemory_of_open hg hh _), by simpa [State.scrubStop, hp] using clean_pass_ends hp hl he (p.reached s.bay.now) true⟩
  case complete => exact fun x p hp hl he => ⟨_, exec_scrubComplete_of_pass hp, clean_pass_ends hp hl he (p.last + 1) false⟩
  case single => exact fun x p w syn hp _ hk hr first last he => single_error_scrubbed hp hk hr first last he
  case inject => exact fun x wf hg hh hm ht hk => injection_stores wf hg hh hm ht hk
  case noService => exact fun x hg hh hm => injection_refused hg hh hm
  case counters => exact fun x hg hh => counters_clear hg hh
  case dma => exact fun x m hg hh => dma_restarts m hg hh
  case init => exact fun x hm hc hd he => memory_initialised hm hc hd he

end Sys2Proof
end

section
/-! PROOFS. The release of a frozen master, and the firmware banks (R452, R453, R469, R517, R518). -/

namespace Sys2Proof.Machine

section
variable {s : State}

theorem exec_fwlLastRead : exec .fwlLastRead s = s.onBay (fun b => b.setFlag F.TRU_STAT_REL_ARMED true) := rfl
theorem exec_rel (m : BitVec 8) : exec (.rel m) s = s.onBay (fun b => b.relWrite m.toNat) := rfl
theorem exec_fwPrefA : exec .fwPrefA s = s.onBay (fun b => b.preferBank F.TRU_CTL_FW_PREF_A 0) := rfl
theorem exec_fwPrefB : exec .fwPrefB s = s.onBay (fun b => b.preferBank F.TRU_CTL_FW_PREF_B 1) := rfl
theorem exec_verifyDone : exec .verifyDone s = s.onBay Bay.verifyDone := rfl

theorem exec_chunk : exec .chunk s = s.onBay (fun b => b.fwuStart F.TRU_FWU_CTL_CHUNK (fun b =>
    ((b.setTrust { b.trust with fwuOp := 1 }).setFlag F.TRU_FWU_STAT_BUSY true).setFlag F.TRU_FWU_STAT_VERIFIED false)) := rfl

theorem exec_verify : exec .verify s = s.onBay (fun b => b.fwuStart F.TRU_FWU_CTL_VERIFY (fun b =>
    (b.setTrust { b.trust with fwuOp := 2 }).setFlag F.TRU_FWU_STAT_BUSY true)) := rfl

/-- What a restart that the unit takes leaves (R518). -/
def Bay.restartBanks (b : Bay) : Bay :=
  if b.mode ≠ Mode.service || b.rd F.PWR_ENTRY_STAT_STATE ≠ 0 || !b.flag F.TRU_FWU_STAT_VERIFIED then b.refuse F.TRU_FWU_CTL_RESTART 4
  else
    let b := b.each b.carts (fun b x => b.setTrust { b.trust with pref := b.trust.pref.set x (1 - b.rd (fwRun x)) })
    { b with modeSt := { b.modeSt with restart := true } }

theorem exec_restart : exec .restart s = s.onBay (fun b => b.fwuStart F.TRU_FWU_CTL_RESTART Bay.restartBanks) := rfl

end

section
variable {b : Bay}

/-- A firmware command begins where neither its gate nor the unit refuses it. -/
theorem Bay.fwuStart_of_free {k : Key} (hg : b.gate k = none) (hf : b.fwuRefused = none) (f : Bay → Bay) : b.fwuStart k f = f b := by
  rw [Bay.fwuStart, Bay.gated_open hg, hf]

theorem Bay.fwuStart_of_refused {k : Key} {r : Int} (hg : b.gate k = none) (hf : b.fwuRefused = some r) (f : Bay → Bay) : b.fwuStart k f = b.refuse k r := by
  rw [Bay.fwuStart, Bay.gated_open hg, hf]

/-- An armed write of TRU.REL for a DMA master or the pairing frees it. -/
theorem Bay.relWrite_of_armed {m : Nat} (hg : b.gate F.TRU_REL_ID = none) (ha : b.flag F.TRU_STAT_REL_ARMED = true) (hm : 8 ≤ m ∧ m ≤ 23 ∨ m = 35) :
    b.relWrite m = b.releaseMaster m := by
  have named : (((decide (8 ≤ m) && decide (m ≤ 23)) || (decide (32 ≤ m) && decide (m ≤ 35))) = true) := by
    simp
    omega
  rw [Bay.relWrite, Bay.gated_open hg, ha, named]
  rfl

theorem Bay.relWrite_of_unarmed {m : Nat} (hg : b.gate F.TRU_REL_ID = none) (ha : b.flag F.TRU_STAT_REL_ARMED = false) : b.relWrite m = b.refuse F.TRU_REL_ID 5 := by
  rw [Bay.relWrite, Bay.gated_open hg, ha]
  rfl

/-- The preferred bank written where both cartridges have verified it (R453). -/
theorem Bay.preferBank_of_verified {k : Key} {bank : Nat} (hg : b.gate k = none) (hm : b.mode = Mode.service) (hc : b.carts = [0, 1])
    (ha : b.flag (fwOk 0 bank) = true) (hb : b.flag (fwOk 1 bank) = true) :
    b.preferBank k bank = (((b.setTrust { b.trust with pref := (b.trust.pref.set 0 (bank : Int)).set 1 (bank : Int) }).wr F.TRU_FW_CA_PREF bank).wr F.TRU_FW_CB_PREF bank) := by
  rw [Bay.preferBank, Bay.gated_open hg, hm, hc]
  simp only [List.all_cons, ha, hb, List.all_nil]
  rfl

theorem set_both {l : List Int} (h : l.length = 2) (u v : Int) : (l.set 0 u).set 1 v = [u, v] := by
  obtain ⟨a, b, rfl⟩ := List.length_eq_two.1 h
  rfl

theorem bank_preferred {k : Key} {bank : Nat} (hg : b.gate k = none) (hm : b.mode = Mode.service) (hc : b.carts = [0, 1])
    (ha : b.flag (fwOk 0 bank) = true) (hb : b.flag (fwOk 1 bank) = true) (hl : b.trust.pref.length = 2) :
    (b.preferBank k bank).rd F.TRU_FW_CA_PREF = bank ∧ (b.preferBank k bank).rd F.TRU_FW_CB_PREF = bank ∧ (b.preferBank k bank).trust.pref = [(bank : Int), (bank : Int)] ∧
      keepsRegs b (b.preferBank k bank) [F.TRU_FW_CA_PREF, F.TRU_FW_CB_PREF] := by
  rw [Bay.preferBank_of_verified hg hm hc ha hb, set_both hl]
  refine ⟨by simp, by simp, rfl, fun q hq => ?_⟩
  simp at hq
  simp [hq]

theorem Bay.preferBank_of_otherMode {k : Key} (hg : b.gate k = none) (hm : b.mode ≠ Mode.service) (bank : Nat) : b.preferBank k bank = b.refuse k 4 := by
  rw [Bay.preferBank, Bay.gated_open hg]
  simp [hm]

/-- Where CA alone is fitted and runs bank A, its idle bank is judged and shown (R517). -/
theorem Bay.verifyDone_of_single (ho : b.trust.fwuOp = 2) (hc : b.carts = [0]) (hr : b.rd F.TRU_FW_CA_RUN = 0) :
    b.verifyDone = (((((((b.setFlag F.TRU_FW_CA_B_OK (b.bankResult 0 1 == 0)).setTrust { b.trust with fwuOp := 0 }).setFlag F.TRU_FWU_STAT_BUSY false).wr F.TRU_FWU_STAT_RESULT
      (b.bankResult 0 1)).setFlag F.TRU_FWU_STAT_VERIFIED ((b.bankResult 0 1 : Int) == 0)).wr F.TRU_FWU_STAT_PARTS 0).note 229) := by
  have idle : 1 - b.rdN (fwRun 0) = 1 := by simp [Bay.rdN, fwRun, hr]
  simp only [Bay.verifyDone, ho, hc, Bay.each, List.map_cons, List.map_nil, List.foldl_cons, List.foldl_nil, idle]
  rfl

end

section
variable {s : State}

theorem master_released {m : BitVec 8} (hg : s.bay.gate F.TRU_REL_ID = none) (ha : s.bay.flag F.TRU_STAT_REL_ARMED = true) (low : 8 ≤ m.toNat) (high : m.toNat ≤ 23) :
    completes (.rel m) s (fun b => b.rd F.TRU_STAT_REL_ARMED = 0 ∧ b.rd F.TRU_FRZ_DMA = (clearBitN (s.bay.rdN F.TRU_FRZ_DMA) (m.toNat - 8) : Nat) ∧
      keepsRegs s.bay b [F.TRU_STAT_REL_ARMED, F.TRU_FRZ_DMA]) := by
  refine completes_onBay (exec_rel m) ?_
  have freed : s.bay.releaseMaster m.toNat = (s.bay.setFlag F.TRU_STAT_REL_ARMED false).wr F.TRU_FRZ_DMA (clearBitN (s.bay.rdN F.TRU_FRZ_DMA) (m.toNat - 8) : Nat) := by
    simp [Bay.releaseMaster, low, high, Bay.rdN]
  rw [Bay.relWrite_of_armed hg ha (.inl ⟨low, high⟩), freed]
  refine ⟨by simp, by simp, fun q hq => ?_⟩
  simp at hq
  simp [hq]

theorem pairing_released {m : BitVec 8} (hg : s.bay.gate F.TRU_REL_ID = none) (ha : s.bay.flag F.TRU_STAT_REL_ARMED = true) (hm : m.toNat = 35) :
    completes (.rel m) s (fun b => b.rd F.TRU_STAT_REL_ARMED = 0 ∧ b.rd F.TRU_FRZ_PAIR = 0 ∧ keepsRegs s.bay b [F.TRU_STAT_REL_ARMED, F.TRU_FRZ_PAIR]) := by
  refine completes_onBay (exec_rel m) ?_
  rw [Bay.relWrite_of_armed hg ha (.inr hm), hm]
  refine ⟨by simp [Bay.releaseMaster], by simp [Bay.releaseMaster], fun q hq => ?_⟩
  simp at hq
  simp [Bay.releaseMaster, hq]

theorem part_written (ho : s.bay.trust.fwuOp = 1) (hc : s.bay.carts = [0]) (hr : s.bay.rd F.TRU_FW_CA_RUN = 0) :
    completes .chunkDone s (fun b => b.rd F.TRU_FWU_STAT_BUSY = 0 ∧ b.rd F.TRU_FWU_STAT_RESULT = 0 ∧ b.rd F.TRU_FWU_STAT_PARTS = min 63 (s.bay.rd F.TRU_FWU_STAT_PARTS + 1) ∧
      b.rd F.TRU_FW_CA_B_OK = 0 ∧ (b.bankOf 0 1).parts = (s.bay.bankOf 0 1).parts.put (s.bay.rdN F.TRU_FWU_OFS_VAL) (s.mem.ram 0 0).stagedPart ∧
      keepsRegs s.bay b [F.TRU_FWU_STAT_BUSY, F.TRU_FWU_STAT_RESULT, F.TRU_FWU_STAT_PARTS, F.TRU_FW_CA_B_OK]) := by
  have idle : 1 - s.bay.rdN (fwRun 0) = 1 := by simp [Bay.rdN, fwRun, hr]
  have written : exec .chunkDone s = s.onBay (fun b => (((((b.writePart 0 (b.rdN F.TRU_FWU_OFS_VAL) (s.mem.ram 0 0).stagedPart)).setTrust
      { (b.writePart 0 (b.rdN F.TRU_FWU_OFS_VAL) (s.mem.ram 0 0).stagedPart).trust with fwuOp := 0 }).setFlag F.TRU_FWU_STAT_BUSY false).wr F.TRU_FWU_STAT_RESULT 0).bumpSat
        F.TRU_FWU_STAT_PARTS 1 63) := by
    change execChunkDone s = _
    simp only [execChunkDone, State.onBay, ho, hc, Bay.each, List.foldl_cons, List.foldl_nil]
    rfl
  refine completes_onBay written ?_
  simp only [Bay.writePart, idle]
  refine ⟨by simp, by simp, by simp [Bay.rd_bumpSat, fwOk], by simp [fwOk], by simp [Bay.bankOf, Tab.get_put], fun q hq => ?_⟩
  simp at hq
  simp [fwOk, hq]

theorem bank_verified (ho : s.bay.trust.fwuOp = 2) (hc : s.bay.carts = [0]) (hr : s.bay.rd F.TRU_FW_CA_RUN = 0) :
    completes .verifyDone s (fun b => b.rd F.TRU_FWU_STAT_BUSY = 0 ∧ b.rd F.TRU_FWU_STAT_RESULT = s.bay.bankResult 0 1 ∧ b.rd F.TRU_FWU_STAT_PARTS = 0 ∧
      (b.rd F.TRU_FWU_STAT_VERIFIED = 1 ↔ s.bay.bankResult 0 1 = 0) ∧ (b.rd F.TRU_FW_CA_B_OK = 1 ↔ s.bay.bankResult 0 1 = 0)) := by
  refine completes_onBay exec_verifyDone ?_
  rw [Bay.verifyDone_of_single ho hc hr]
  by_cases h : s.bay.bankResult 0 1 = 0 <;> simp [h]

theorem restarts (hg : s.bay.gate F.TRU_FWU_CTL_RESTART = none) (hf : s.bay.fwuRefused = none) (hm : s.bay.mode = Mode.service) (he : s.bay.rd F.PWR_ENTRY_STAT_STATE = 0)
    (hv : s.bay.flag F.TRU_FWU_STAT_VERIFIED = true) (hc : s.bay.carts = [0, 1]) (hl : s.bay.trust.pref.length = 2) :
    completes .restart s (fun b => b.modeSt.restart = true ∧ b.trust.pref = [1 - s.bay.rd F.TRU_FW_CA_RUN, 1 - s.bay.rd F.TRU_FW_CB_RUN] ∧ keepsRegs s.bay b []) := by
  refine completes_onBay exec_restart ?_
  rw [Bay.fwuStart_of_free hg hf]
  have open_ : (decide (s.bay.mode ≠ Mode.service) || decide (s.bay.rd F.PWR_ENTRY_STAT_STATE ≠ 0) || !s.bay.flag F.TRU_FWU_STAT_VERIFIED) = false := by simp [hm, he, hv]
  simp only [Bay.restartBanks, open_, hc]
  exact ⟨rfl, set_both hl _ _, fun q _ => rfl⟩

end

end Sys2Proof.Machine

namespace Sys2Proof

open Sys2Proof.Machine

/-- Settles O37: each command does its effect where neither its gate nor the firmware unit refuses it. -/
theorem firewallAndFirmware : Obligations.FirewallAndFirmware := by
  intro s
  refine ⟨?armed, ?dma, ?pair, ?unarmed, ?prefA, ?prefB, ?standby, ?chunk, ?chunkRefused, ?part, ?verify, ?verified, ?restart, ?unverified⟩
  case armed =>
    refine completes_onBay exec_fwlLastRead ⟨by simp, fun q hq => ?_⟩
    simp at hq
    simp [hq]
  case dma => exact fun m hg ha low high => master_released hg ha low high
  case pair => exact fun m hg ha hm => pairing_released hg ha hm
  case unarmed => exact fun m hg ha => completes_onBay (exec_rel m) (Bay.relWrite_of_unarmed hg ha)
  case prefA => exact fun hg hm hc ha hb hl => completes_onBay exec_fwPrefA (bank_preferred (bank := 0) hg hm hc ha hb hl)
  case prefB => exact fun hg hm hc ha hb hl => completes_onBay exec_fwPrefB (bank_preferred (bank := 1) hg hm hc ha hb hl)
  case standby => exact fun hg hm => completes_onBay exec_fwPrefB (Bay.preferBank_of_otherMode hg (by rw [hm]; decide) 1)
  case chunk =>
    refine fun hg hf => completes_onBay exec_chunk ?_
    rw [Bay.fwuStart_of_free hg hf]
    refine ⟨by simp, by simp, rfl, fun q hq => ?_⟩
    simp at hq
    simp [hq]
  case chunkRefused => exact fun r hg hf => completes_onBay exec_chunk (Bay.fwuStart_of_refused hg hf _)
  case part => exact fun ho hc hr => part_written ho hc hr
  case verify =>
    refine fun hg hf => completes_onBay exec_verify ?_
    rw [Bay.fwuStart_of_free hg hf]
    refine ⟨by simp, rfl, fun q hq => ?_⟩
    simp at hq
    simp [hq]
  case verified => exact fun ho hc hr => bank_verified ho hc hr
  case restart => exact fun hg hf hm he hv hc hl => restarts hg hf hm he hv hc hl
  case unverified =>
    refine fun hg hf hv => completes_onBay exec_restart ?_
    rw [Bay.fwuStart_of_free hg hf]
    simp [Bay.restartBanks, hv]

end Sys2Proof
end

section
/-! PROOFS. Rim sessions and the accesses they make to this stake (R424 to R427, R432, R457, R460, R468, R469). -/

namespace Sys2Proof.Machine

/-! ## A table of streams -/

/-- A change made to each member that stands in a table: what member `n` holds. -/
theorem Tab.get_map {α : Type} {d : α} {f : Nat × α → Nat × α} {g : α → α} (hf : ∀ p, f p = (p.1, g p.2)) (hd : g d = d) (t : Tab α) (n : Nat) :
    Tab.get d (t.map f) n = g (t.get d n) := by
  induction t with
  | nil => exact hd.symm
  | cons p t ih =>
    obtain ⟨m, x⟩ := p
    simp only [List.map_cons, hf, Tab.get]
    split
    · rfl
    · exact ih

/-- A stream whose holder ends its session: no session holds it and RD stands at MARK (R432). -/
def Stream.unheldBy (i : Nat) (x : Stream) : Stream := if x.holder = some i then { x with holder := none, rd := x.mark } else x

section
variable {b : Bay} {j : Nat} {x : Session}

theorem Bay.closeSession_of_open (h : b.session j = some x) :
    b.closeSession j = (b.setWeave { b.weave with
      sessions := b.weave.sessions.set j none
      asked := b.weave.asked.filter (fun q => q.2.1 != j)
      streams := b.weave.streams.map (fun p => if p.2.holder = some j then (p.1, { p.2 with holder := none, rd := p.2.mark }) else p) }).note 213 := by
  have h : b.weave.sessions.getD j none = some x := h
  rw [Bay.closeSession, h]
  rfl

theorem Bay.closeSession_session (h : b.session j = some x) : (b.closeSession j).session j = none := by
  rw [Bay.closeSession_of_open h]
  simp [Bay.session, List.getElem?_set]
  split <;> simp

theorem Bay.closeSession_streamOf (h : b.session j = some x) (n : Nat) : (b.closeSession j).streamOf n = (b.streamOf n).unheldBy j := by
  rw [Bay.closeSession_of_open h, Bay.streamOf, Bay.note_weave]
  refine Tab.get_map (g := Stream.unheldBy j) (fun p => ?_) rfl _ _
  unfold Stream.unheldBy
  split <;> rfl

theorem Bay.closeSession_trust (b : Bay) (j : Nat) : (b.closeSession j).trust = b.trust := by
  unfold Bay.closeSession
  split
  · rfl
  · simp

theorem Bay.closeSession_out (b : Bay) (j : Nat) : (b.closeSession j).out = b.out := by
  unfold Bay.closeSession
  split
  · rfl
  · simp

theorem Bay.closeSession_keepsRegs (b : Bay) (j : Nat) : keepsRegs b (b.closeSession j) [F.EVT_STAT_LOST] := by
  intro k hk
  unfold Bay.closeSession
  split
  · rfl
  · rw [Bay.note_rd _ _ (mt List.mem_singleton.2 hk), Bay.setWeave_rd]

theorem Bay.heardSession_session (hj : j < b.weave.sessions.length) : (b.heardSession j x).session j = some { x with last := b.now } := by
  simp [Bay.heardSession, Bay.session, hj]

end

/-! ## Opening a session -/

section
variable {b : Bay} {cart : Fin 2} {key : List Byte}

/-- The place and the level of a client that opens a session while place 0 is free (R424, R457). -/
theorem execSessionOpen_of_free {s : State} {chains : Option (Fin 4)} {own : Bool} {level : Int} (h0 : s.bay.mode ≠ 0) (hs : s.bay.servesRim = true)
    (hc : s.bay.cPresent cart = true) (hk : s.bay.keyRefused key = false) (free : s.bay.session 0 = none)
    (hl : s.bay.clientLevel (chains.map (·.val)) own = some level) :
    exec (.sessionOpen cart key chains own) s = .next { s with bay := s.bay.openSession 0 cart key chains.isSome level } := by
  change execSessionOpen cart key chains own s = _
  have first : (List.range 4).find? (fun i => (s.bay.session i).isNone) = some 0 := by
    simp [List.range_succ_eq_map, free]
  simp [execSessionOpen, State.onBay, h0, hs, hc, hk, first, hl]

theorem execSessionOpen_of_refusedKey {s : State} {chains : Option (Fin 4)} {own : Bool} (hk : s.bay.keyRefused key = true) :
    exec (.sessionOpen cart key chains own) s = .next s := by
  change execSessionOpen cart key chains own s = _
  simp [execSessionOpen, State.onBay, hk]

theorem Bay.openSession_session {i level} {chained : Bool} (hi : i < b.weave.sessions.length) :
    (b.openSession i cart key chained level).session i = some ⟨cart, level, key, b.now⟩ := by
  cases chained <;> simp [Bay.openSession, Bay.onlyIf, Bay.session, Bay.remedied, Bay.showAuth, hi]

theorem Bay.openSession_chained_keepsRegs (i : Nat) (level : Int) : keepsRegs b (b.openSession i cart key true level) [F.EVT_STAT_LOST] := fun _ hk =>
  Bay.note_rd _ _ (mt List.mem_singleton.2 hk)

theorem Bay.openSession_own_key (i : Nat) (level : Int) : (b.openSession i cart key false level).trust.keys.get [] 4 = key := by
  simp [Bay.openSession, Bay.onlyIf, Bay.remedied, Bay.showAuth, Tab.get_put]

theorem Bay.openSession_own_enrolled (i : Nat) (level : Int) (hk : key ≠ []) : (b.openSession i cart key false level).rd (F.AUTH_ENROLLED 4) = 1 := by
  simp [Bay.openSession, Bay.onlyIf, Bay.showAuth, hk]

theorem Bay.openSession_own_rights (i : Nat) (level : Int) : (b.openSession i cart key false level).rd (F.AUTH_RIGHTS 4) = 2 := by
  simp [Bay.openSession, Bay.onlyIf, Bay.showAuth]

end

/-! ## An access beyond the rights of a session -/

section
variable (b : Bay)


/-- The violation of a master that is no Skein engine moves the firewall's registers and log alone. -/
theorem Bay.violation_frame {α : Type} (g : Bay → α) (hp : ∀ b e t m r acc a, g (Bay.fwlPut b e t m r acc a) = g b) (hw : ∀ b k v, g (Bay.wr b k v) = g b)
    (hr : ∀ b src d v, g (Bay.raise b src d v) = g b) {master : Nat} (hm : master < 64) (region acc a : Nat) : g (b.violation master region acc a) = g b := by
  have notEngine : (decide (64 ≤ master) && decide (master < 128)) = false := by simp; omega
  have shift (b : Bay) : g b.fwlShift = g b := Bay.each_keeps g _ (fun _ _ => hp ..) _ _
  simp [Bay.violation, notEngine, Bay.onlyIf, hr, hw, hp, shift, Bay.bump32]

variable {b}

theorem Bay.violation_weave {master : Nat} (hm : master < 64) (region acc a : Nat) : (b.violation master region acc a).weave = b.weave :=
  Bay.violation_frame b Bay.weave (fun _ _ _ _ _ _ _ => rfl) (fun _ _ _ => rfl) (fun _ _ _ _ => Bay.raise_weave ..) hm region acc a

theorem Bay.violation_trust {master : Nat} (hm : master < 64) (region acc a : Nat) : (b.violation master region acc a).trust = b.trust :=
  Bay.violation_frame b Bay.trust (fun _ _ _ _ _ _ _ => rfl) (fun _ _ _ => rfl) (fun _ _ _ _ => Bay.raise_trust ..) hm region acc a

theorem Bay.violation_out {master : Nat} (hm : master < 64) (region acc a : Nat) : (b.violation master region acc a).out = b.out :=
  Bay.violation_frame b Bay.out (fun _ _ _ _ _ _ _ => rfl) (fun _ _ _ => rfl) (fun _ _ _ _ => Bay.raise_out ..) hm region acc a

end

/-- A violation answers error 5, ends the session and shuts its key out for 60 s (R469). -/
theorem State.sessionViolation_bay {s : State} {j : Nat} (hj : j < 4) (tag region acc a : Nat) (key : List Byte) {x : Session} (hx : s.bay.session j = some x) :
    let b := (s.sessionViolation j tag region acc a key).bay
    OutMsg.rim j tag 5 [] ∈ b.out ∧ b.session j = none ∧ (key, s.bay.now + 60 * secTicks) ∈ b.trust.refuseUntil := by
  have host : 40 + j < 64 := by omega
  refine ⟨?answer, ?closed, ?refused⟩
  case answer => simp [State.sessionViolation, State.answer, Bay.closeSession_out, Bay.violation_out host, Bay.send]
  case closed =>
    refine Bay.closeSession_session (x := x) ?_
    rw [← hx]
    simp [Bay.session, State.answer, Bay.violation_weave host]
  case refused => simp [State.sessionViolation, State.answer, Bay.closeSession_trust, Bay.violation_trust host]

/-! ## Words and ranges -/

section
variable (s : State) (i tag : Nat) {a : Nat} (x : Session)

/-- READ of a register answers its word; what the read itself does beside comes first. -/
theorem State.doRead_of_reg {r : RegAt} (ha : a % 4 = 0) (hw : inWindow a = false) (hb : inBlock a = true) (hf : s.bay.framWord a = none) (hr : regAt a = some r)
    (hp : s.bay.absentBlock ⟨r.grp, r.i, r.off, 0⟩ = false) :
    s.doRead i tag a 1 x = (s.regRead x.cart r).1.answer i tag 0 [(s.bay.regWord x.cart r : Int)] := by
  simp [State.doRead, State.readLoop, Bay.hostError_of_block _ _ ha hw hb, mayRead, hw, State.hostRead, hf, hr, State.regRead, hp]

theorem State.doWrite_of_block (w : BitVec 32) (ha : a % 4 = 0) (hw : inWindow a = false) (hb : inBlock a = true) (hm : mayWrite x.level a = true) :
    s.doWrite i tag a [w] 0 x = (s.hostWrite a w.toNat).answer i tag 0 [1] := by
  simp [State.doWrite, State.writeLoop, Bay.hostError_of_block _ _ ha hw hb, hw, hm]

theorem State.doWrite_of_violation (w : BitVec 32) (ha : a % 4 = 0) (hw : inWindow a = false) (hb : inBlock a = true) (hm : mayWrite x.level a = false) :
    s.doWrite i tag a [w] 0 x = s.sessionViolation i tag (hostRegion a) 2 a x.key := by
  simp [State.doWrite, State.writeLoop, Bay.hostError_of_block _ _ ha hw hb, hm]

theorem State.doBulkRead_of_readable {n : Nat} {l : List Byte} (he : s.bay.bulkError x.cart a n = 0) (hr : windowReadable a = true)
    (hl : (s.windowRead x.cart (40 + i) a n).2 = some l) :
    s.doBulkRead i tag a n x = (s.windowRead x.cart (40 + i) a n).1.answer i tag 0 ((words32 (n / 4) l).map Int.ofNat) := by
  simp [State.doBulkRead, he, hr, hl]

end

theorem mayWrite_of_level_zero {level : Int} (hl : level = 0) (a : Nat) : mayWrite level a = false := by
  simp [mayWrite, hl]

theorem mayWrite_block {level : Int} {a : Nat} (hw : inWindow a = false) (hr : hostRegion a = 11) (hl : 1 ≤ level) : mayWrite level a = true := by
  simp [mayWrite, hw, hr, hl]

theorem Bay.heardSession_bulkError (b : Bay) (j : Nat) (y : Session) (cart a n : Nat) : (b.heardSession j y).bulkError cart a n = b.bulkError cart a n := rfl

theorem Bay.absentBlock_heardSession (b : Bay) (j : Nat) (y : Session) (k : Key) : (b.heardSession j y).absentBlock k = b.absentBlock k := by
  have slots : (b.heardSession j y).waleSlot = b.waleSlot := funext fun w => by simp [Bay.waleSlot]
  simp [Bay.absentBlock, Bay.absentSource, Bay.walePresent, Bay.xPresent, slots]

/-- A bulk read of this stake is done in the state in which the session has been heard. -/
theorem exec_bulkRead_of_here {s : State} {j : Fin 4} {tag : BitVec 32} {stake : Fin 64} {a n : BitVec 32} {x : Session} (h0 : s.bay.mode ≠ 0)
    (hx : s.bay.session j = some x) (hs : stake.val = s.bay.node) :
    exec (.bulkRead j tag stake a n) s = .next ((s.heard j x).doBulkRead j tag.toNat a.toNat n.toNat x) := by
  have here : stake.val = (s.heard j x).bay.node := hs.trans (State.heard_node s j x).symm
  change execBulkRead j tag stake a n s = _
  simp only [execBulkRead, State.onSession, if_neg h0, hx]
  exact congrArg _ (if_pos here)

end Sys2Proof.Machine

namespace Sys2Proof

open Sys2Proof.Machine

/-- Settles O27: a session opens in the first free place, and each access to this stake ends in its answer or as a violation. -/
theorem rimSessionsAndAccesses : Obligations.RimSessionsAndAccesses := by
  unfold Obligations.RimSessionsAndAccesses
  intro s
  refine ⟨?openChained, ?openOwn, ?openRefused, ?close, ?idle, ?readRegister, ?readNothing, ?write, ?writeViolation, ?bulkRead, ?bulkWrite⟩
  case openChained =>
    intro cart key h h0 hs hc hk len free enrolled
    have level : s.bay.clientLevel (Option.map (·.val) (some h)) false = some (s.bay.rd (F.AUTH_RIGHTS (4 + h))) := by simp [Bay.clientLevel, enrolled]
    exact ⟨_, execSessionOpen_of_free h0 hs hc hk free level, rfl, rfl, Bay.openSession_session (by omega), Bay.openSession_chained_keepsRegs _ _⟩
  case openOwn =>
    intro cart key ne h0 hs hc hk len free window first
    have level : s.bay.clientLevel (Option.map (fun h : Fin 4 => h.val) none) true = some 2 := by simp [Bay.clientLevel, window, first]
    exact ⟨_, execSessionOpen_of_free h0 hs hc hk free level, rfl, rfl, Bay.openSession_session (by omega), Bay.openSession_own_key _ _,
      Bay.openSession_own_enrolled _ _ ne, Bay.openSession_own_rights _ _⟩
  case openRefused => exact fun cart key c own hk => ⟨_, execSessionOpen_of_refusedKey hk, rfl, rfl, rfl⟩
  case close =>
    intro j x hx _
    refine ⟨_, rfl, rfl, rfl, Bay.closeSession_session hx, fun n held => ?_, Bay.closeSession_keepsRegs _ _⟩
    dsimp only
    rw [Bay.closeSession_streamOf hx, Stream.unheldBy, if_pos held]
    exact ⟨rfl, rfl⟩
  case idle =>
    intro j x hx _ silent
    have ends : exec (.sessionIdleTimeout j) s = .next { s with bay := s.bay.closeSession j } := by
      change execSessionIdleTimeout j s = _
      simp only [execSessionIdleTimeout, State.onBay, hx, if_pos silent]
    exact ⟨_, ends, rfl, rfl, rfl, Bay.closeSession_session hx⟩
  case readRegister =>
    intro j tag stake a x r h0 hx hs ha hw hb hf hr hp
    refine ⟨_, exec_read_of_here h0 hx hs (by decide) (by decide), (State.doRead_sameBut _ _ _ _ _ _).mem, (State.doRead_sameBut _ _ _ _ _ _).tame.1, ?_⟩
    have present : (s.heard j x).bay.absentBlock ⟨r.grp, r.i, r.off, 0⟩ = false := (Bay.absentBlock_heardSession _ _ _ _).trans hp
    change OutMsg.rim _ _ _ _ ∈ ((s.heard j x).doRead j tag.toNat a.toNat 1 x).bay.out
    rw [State.doRead_of_reg _ _ _ _ ha hw hb (Bay.framWord_none_of hf _) hr present]
    simp [State.answer, Bay.send, State.heard]
  case readNothing =>
    intro j tag stake a x h0 hx hs ha hw hb hf hr
    apply completes_answer
    rw [exec_read_of_here h0 hx hs (by decide) (by decide)]
    exact congrArg _ (State.doRead_of_noReg _ _ _ _ ha hw hb (Bay.framWord_none_of hf _) hr)
  case write =>
    intro j tag stake a w x h0 hx hs ha hw hb region level
    rw [exec_write_of_here h0 hx hs (by decide)]
    exact congrArg _ (State.doWrite_of_block _ _ _ _ _ ha hw hb (mayWrite_block hw region level))
  case writeViolation =>
    intro j tag stake a w x h0 hx len hs ha hw hb level
    refine ⟨_, exec_write_of_here h0 hx hs (by decide), ?_⟩
    have beyond := State.doWrite_of_violation (s.heard j x) j tag.toNat x w ha hw hb (mayWrite_of_level_zero level _)
    have still : (s.heard j x).bay.session j = some { x with last := s.bay.now } := Bay.heardSession_session (by omega)
    exact beyond ▸ ⟨rfl, rfl, State.sessionViolation_bay j.isLt tag.toNat _ _ _ _ still⟩
  case bulkRead =>
    intro j tag stake a n x l h0 hx hs he readable hl
    refine ⟨_, exec_bulkRead_of_here h0 hx hs, (State.doBulkRead_sameBut _ _ _ _ _ _).tame.1, ?_⟩
    rw [State.doBulkRead_of_readable (s.heard j x) _ _ _ ((Bay.heardSession_bulkError _ _ _ _ _ _).trans he) readable hl]
    simp [State.answer, Bay.send]
  case bulkWrite =>
    intro j tag stake a l x h0 hx hs _ he level first last inside
    have he : (s.heard j x).bay.bulkError x.cart a.toNat l.length = 0 := (Bay.heardSession_bulkError _ _ _ _ _ _).trans he
    rw [exec_bulkWrite_of_here h0 hx hs l, State.doBulkWrite_of_staging he level first last inside]
    rfl

end Sys2Proof
end

section
/-! PROOFS. The stream commands of a session, PING and a reserved type (R426 to R432). -/

namespace Sys2Proof.Machine

/-! ## A message of an open session to this stake -/

section
variable {s : State} {j : Fin 4} {tag : BitVec 32} {stake : Fin 64} {n : BitVec 16} {x : Session}

theorem State.onSession_of_open (h0 : s.bay.mode ≠ 0) (hx : s.bay.session j = some x) (f : Session → State → State) :
    s.onSession j f = .next (f x (s.heard j x)) := by
  simp only [State.onSession, if_neg h0, hx]
  rfl

theorem State.forStake_of_here (hs : stake.val = s.bay.node) (kind : String) (i tag : Nat) (frames : List (List Int)) (f : State → State) :
    (s.heard j x).forStake kind i tag stake frames f = f (s.heard j x) := if_pos (hs.trans (State.heard_node s j x).symm)

theorem exec_ping_of_open (h0 : s.bay.mode ≠ 0) (hx : s.bay.session j = some x) : exec (.ping j tag) s = .next ((s.heard j x).answer j tag.toNat 0 []) := by
  change execPing j tag s = _
  exact State.onSession_of_open h0 hx _

theorem exec_reservedRimType_of_open (h0 : s.bay.mode ≠ 0) (hx : s.bay.session j = some x) :
    exec (.reservedRimType j tag) s = .next ((s.heard j x).answer j tag.toNat 8 []) := by
  change execReservedRimType j tag s = _
  exact State.onSession_of_open h0 hx _

section
variable (h0 : s.bay.mode ≠ 0) (hx : s.bay.session j = some x) (hs : stake.val = s.bay.node)
include h0 hx hs

theorem exec_streamRead_of_here (m : BitVec 32) :
    exec (.streamRead j tag stake n m) s = .next ((s.heard j x).doStreamRead j tag.toNat n.toNat m.toNat x) := by
  change execStreamRead j tag stake n m s = _
  rw [execStreamRead, State.onSession_of_open h0 hx, State.forStake_of_here hs]

theorem exec_rimMark_of_here (p : BitVec 64) : exec (.rimMark j tag stake n p) s = .next ((s.heard j x).doMark j tag.toNat n.toNat p.toNat) := by
  change execRimMark j tag stake n p s = _
  rw [execRimMark, State.onSession_of_open h0 hx, State.forStake_of_here hs]

theorem exec_rewind_of_here : exec (.rewind j tag stake n) s = .next ((s.heard j x).doRewind j tag.toNat n.toNat) := by
  change execRewind j tag stake n s = _
  rw [execRewind, State.onSession_of_open h0 hx, State.forStake_of_here hs]

theorem exec_release_of_here (p : BitVec 64) : exec (.release j tag stake n p) s = .next ((s.heard j x).doRelease j tag.toNat n.toNat p.toNat x) := by
  change execRelease j tag stake n p s = _
  rw [execRelease, State.onSession_of_open h0 hx, State.forStake_of_here hs]

end

end

/-! ## What hearing a session leaves of the streams -/

section
variable (b : Bay) (j : Nat) (x : Session) (n : Nat)

@[simp] theorem Bay.heardSession_streamOf : (b.heardSession j x).streamOf n = b.streamOf n := rfl
@[simp] theorem Bay.heardSession_q68 : (b.heardSession j x).weave.q68 = b.weave.q68 := rfl

end

/-! ## One stream -/

section
variable (b : Bay) (n : Nat) (x : Stream)

@[simp] theorem Bay.setStream_streamOf : (b.setStream n x).streamOf n = x := by simp [Bay.setStream, Bay.streamOf, Tab.get_put]
@[simp] theorem Bay.note_streamOf (src m : Nat) : (b.note src).streamOf m = b.streamOf m := by simp [Bay.streamOf]
@[simp] theorem Bay.send_streamOf (o : OutMsg) (m : Nat) : (b.send o).streamOf m = b.streamOf m := rfl
@[simp] theorem Bay.setStream_q68 : (b.setStream n x).weave.q68 = b.weave.q68 := rfl

/-- The end of the producer does not lie with the session that reads. -/
theorem Bay.setStream_streamWr (hw : x.wr = (b.streamOf n).wr) : (b.setStream n x).streamWr n = b.streamWr n := by
  unfold Bay.streamWr
  rw [Bay.setStream_streamOf, hw]
  rfl

end

section
variable {s : State} {i tag n : Nat} {x : Session}

/-- Items stand between RD and WR: they go out, and RD moves behind them (R430). -/
theorem State.streamFrom_of_items (m : Nat) (h : (s.bay.streamOf n).rd < s.bay.streamWr n) :
    (s.streamFrom i tag n m x).bay = (s.bay.setStream n { s.bay.streamOf n with
      rd := (s.bay.streamOf n).rd + min (m / itemSize n) ((s.bay.streamWr n - (s.bay.streamOf n).rd) / itemSize n) * itemSize n }).send
        (.stream i tag (s.bay.streamOf n).rd 0
          (s.streamBytes x.cart n (s.bay.streamOf n).rd (min (m / itemSize n) ((s.bay.streamWr n - (s.bay.streamOf n).rd) / itemSize n)))) := by
  rw [State.streamFrom, if_neg (Nat.not_le.2 h)]

theorem State.doStreamRead_of_unheld (m : Nat) (hn : n ≤ 68) (h : (s.bay.streamOf n).holder = none) :
    s.doStreamRead i tag n m x =
      ({ s with bay := s.bay.setStream n { s.bay.streamOf n with holder := some i, rd := (s.bay.streamOf n).mark } } : State).streamFrom i tag n m x := by
  simp only [State.doStreamRead, if_neg (Nat.not_lt.2 hn), h]

theorem State.doStreamRead_of_other {k : Nat} (m : Nat) (hn : n ≤ 68) (h : (s.bay.streamOf n).holder = some k) (hk : k ≠ i) :
    s.doStreamRead i tag n m x = s.answer i tag 11 [] := by
  simp only [State.doStreamRead, if_neg (Nat.not_lt.2 hn), h, if_neg hk]

/-- A session that takes a stream reads it from MARK on (R432). -/
theorem State.doStreamRead_takes {m : Nat} (hn : n ≤ 68) (h : (s.bay.streamOf n).holder = none) (more : (s.bay.streamOf n).mark < s.bay.streamWr n) :
    ((s.doStreamRead i tag n m x).bay.streamOf n).holder = some i ∧
    ((s.doStreamRead i tag n m x).bay.streamOf n).rd = (s.bay.streamOf n).mark +
      min (m / itemSize n) ((s.bay.streamWr n - (s.bay.streamOf n).mark) / itemSize n) * itemSize n ∧
    keepsRegs s.bay (s.doStreamRead i tag n m x).bay [] := by
  have wr := Bay.setStream_streamWr s.bay n { s.bay.streamOf n with holder := some i, rd := (s.bay.streamOf n).mark } rfl
  rw [State.doStreamRead_of_unheld m hn h, State.streamFrom_of_items m (by simpa [wr] using more)]
  refine ⟨by simp, by simp [wr], fun k _ => by simp⟩

theorem State.onStream_of_holder (hn : n ≤ 68) (h : (s.bay.streamOf n).holder = some i) (f : Stream → State) :
    s.onStream i tag n f = f (s.bay.streamOf n) := by
  simp [State.onStream, Nat.not_lt.2 hn, h]

theorem State.doMark_of_holder {p : Nat} (hn : n ≤ 68) (h : (s.bay.streamOf n).holder = some i) :
    s.doMark i tag n p = if s.bay.positionOk n p then
      ({ s with bay := (s.bay.setStream n { s.bay.streamOf n with mark := p }).note 211 } : State).answer i tag 0 [] else s.answer i tag 10 [] :=
  State.onStream_of_holder hn h _

theorem State.doRewind_of_holder (hn : n ≤ 68) (h : (s.bay.streamOf n).holder = some i) :
    s.doRewind i tag n = ({ s with bay := (s.bay.setStream n { s.bay.streamOf n with rd := (s.bay.streamOf n).mark }).note 211 } : State).answer i tag 0 [] :=
  State.onStream_of_holder hn h _

/-- A RELEASE of stream 68 drops the items up to its position (R431). -/
theorem State.doRelease_of_q68 {p : Nat} (h : (s.bay.streamOf 68).holder = some i) (hp : s.bay.positionOk 68 p = true) :
    ∃ last, s.doRelease i tag 68 p x =
      ({ s with bay := (s.bay.setWeave { s.bay.weave with q68 := s.bay.weave.q68.drop ((p - (s.bay.streamOf 68).rel) / 16) }).setStream 68 { s.bay.streamOf 68 with rel := p, mark := max p (s.bay.streamOf 68).mark, last := last } } : State).answer i tag 0 [] := by
  refine ⟨if s.bay.streamRel 68 < p then s.streamItem x.cart 68 (p - itemSize 68) else (s.bay.streamOf 68).last, ?_⟩
  rw [State.doRelease, State.onStream_of_holder (Nat.le_refl 68) h]
  exact if_pos hp

theorem OutMsg.mem_answer (s : State) (i tag : Nat) (status : Int) (words : List Int) : OutMsg.rim i tag status words ∈ (s.answer i tag status words).bay.out := by
  simp [State.answer, Bay.send]

end

end Sys2Proof.Machine

namespace Sys2Proof

open Sys2Proof.Machine

/-- Settles O28: each message of an open session is done in the state in which it has been heard. -/
theorem rimStreams : Obligations.RimStreams := by
  unfold Obligations.RimStreams
  intro s
  refine ⟨?take, ?heldRead, ?mark, ?badMark, ?rewind, ?release, ?ping, ?reserved⟩
  case take =>
    intro j tag stake n m x h0 hx hs hn held more
    have same := State.doStreamRead_sameBut (s.heard j x) j tag.toNat n.toNat m.toNat x
    obtain ⟨holder, rd, regs⟩ := State.doStreamRead_takes (s := s.heard j x) (i := j) (tag := tag.toNat) (m := m.toNat) (x := x) hn held more
    exact ⟨_, exec_streamRead_of_here h0 hx hs m, same.mem, same.tame.1, holder, rd, fun k hk => (regs k hk).trans (Bay.heardSession_rd ..)⟩
  case heldRead =>
    intro j tag stake n m x i h0 hx hs hn held other
    apply completes_answer
    rw [exec_streamRead_of_here h0 hx hs m, State.doStreamRead_of_other (s := s.heard j x) m.toNat hn held other]
  case mark =>
    intro j tag stake n p x h0 hx hs hn held ok
    have marked := (State.doMark_of_holder (s := s.heard j x) (tag := tag.toNat) hn held).trans (if_pos ok)
    refine ⟨_, (exec_rimMark_of_here h0 hx hs p).trans (congrArg _ marked), rfl, rfl, ?_⟩
    refine ⟨by simp [State.answer], by simp [State.answer, State.heard], OutMsg.mem_answer .., fun k hk => ?_⟩
    simp [State.answer, State.heard, Bay.note_rd _ _ (mt List.mem_singleton.2 hk)]
  case badMark =>
    intro j tag stake n p x h0 hx hs hn held bad
    apply completes_answer
    have refused := (State.doMark_of_holder (s := s.heard j x) (tag := tag.toNat) hn held).trans (if_neg (Bool.eq_false_iff.1 bad))
    rw [exec_rimMark_of_here h0 hx hs p, refused]
  case rewind =>
    intro j tag stake n x h0 hx hs hn held
    have rewound := State.doRewind_of_holder (s := s.heard j x) (tag := tag.toNat) hn held
    refine ⟨_, (exec_rewind_of_here h0 hx hs).trans (congrArg _ rewound), rfl, rfl, ?_⟩
    refine ⟨by simp [State.answer, State.heard], by simp [State.answer, State.heard], OutMsg.mem_answer .., fun k hk => ?_⟩
    simp [State.answer, State.heard, Bay.note_rd _ _ (mt List.mem_singleton.2 hk)]
  case release =>
    intro j tag stake n p x h0 hx hs hn held ok
    rw [hn] at held ok
    obtain ⟨last, released⟩ := State.doRelease_of_q68 (s := s.heard j x) (tag := tag.toNat) (x := x) held ok
    have same := State.doRelease_sameBut (s.heard j x) j tag.toNat n.toNat p.toNat x
    refine ⟨_, exec_release_of_here h0 hx hs p, same.mem, same.tame.1, ?_⟩
    rw [hn, released]
    refine ⟨by simp [State.answer], by simp [State.answer, State.heard], by simp [State.answer, State.heard], OutMsg.mem_answer .., fun k _ => ?_⟩
    simp [State.answer, State.heard]
  case ping => exact fun j tag x h0 hx => completes_answer (exec_ping_of_open h0 hx)
  case reserved => exact fun j tag x h0 hx => completes_answer (exec_reservedRimType_of_open h0 hx)

end Sys2Proof
end

section
/-! PROOFS. Seals and quotes (R455, R464, R466, R473). -/

namespace Sys2Proof.Machine

section
variable {s : State}

theorem exec_attGo : exec .attGo s = s.onBay Bay.attGo := rfl
theorem exec_quoteReady : exec .quoteReady s = s.onBay Bay.quoteReady := rfl
theorem exec_quoteRead_CA : exec (.quoteRead 0) s = s.onBay (fun b => b.setFlag F.TRU_ATT_STAT_READ_CA true) := rfl
theorem exec_quoteRead_CB : exec (.quoteRead 1) s = s.onBay (fun b => b.setFlag F.TRU_ATT_STAT_READ_CB true) := rfl
theorem exec_sealWritten_of_noFailure (c : Fin 64) : exec (.sealWritten c 0) s = s.onBay (fun b => b.sealWrite c) := rfl

end

section
variable {b : Bay} {c : Nat} {d : SealDue} {l : List SealDue}

/-- A cartridge that holds the record key can sign (R465, R466). -/
def Bay.canSign (b : Bay) : Bool := b.carts.any (fun x => b.trust.rkeyIn.getD x false && b.trust.se.getD x false)

/-- A seal that some cartridge can sign is written to the ring and to nothing else. -/
theorem Bay.sealWrite_of_signer (h : (b.ringOf c).sealDue = d :: l) (can : b.canSign = true) :
    ∃ r : Ring, b.sealWrite c = b.setRing c r ∧ r.sealDue = l ∧ r.sealSeq = (b.ringOf c).sealSeq + 1 ∧ r.sealKey = b.trust.rkey ∧ r.pos = (b.ringOf c).pos := by
  have can : (b.carts.any (fun x => b.trust.rkeyIn.getD x false && b.trust.se.getD x false)) = true := can
  simp only [Bay.sealWrite, h, can, if_true]
  exact ⟨_, rfl, rfl, rfl, rfl, rfl⟩

/-- A seal that none can sign stands unsigned, with event 231 and cause 5 of QUARANTINE (R466). -/
theorem Bay.sealWrite_of_noSigner (h : (b.ringOf c).sealDue = d :: l) (can : b.canSign = false) :
    ∃ r : Ring, b.sealWrite c = ((b.setRing c r).raise 231 c (b.ringOf c).sealSeq).quarantineFor 5 ∧ r.sealDue = l ∧ r.sealKey = (b.ringOf c).sealKey := by
  have can : (b.carts.any (fun x => b.trust.rkeyIn.getD x false && b.trust.se.getD x false)) = false := can
  simp only [Bay.sealWrite, h, can, Bool.false_eq_true, if_false]
  exact ⟨_, rfl, rfl, rfl⟩

/-- Outside QUARANTINE a cause asks for the entry at the next frame edge (R470). -/
theorem Bay.quarantineFor_of_outside (code : Nat) (hm : b.mode ≠ Mode.quarantine) :
    ∃ t : Trust, b.quarantineFor code = { b with trust := t, modeSt := { b.modeSt with quarantine := true } } ∧ code ∈ t.causes := by
  have hm' : (b.setTrust { b.trust with fixed := b.trust.fixed.filter (· != code) }).mode ≠ Mode.quarantine := hm
  refine ⟨_, if_neg hm', ?_⟩
  by_cases known : code ∈ b.trust.causes
  · simp [Bay.setTrust, known]
  · simp [Bay.setTrust, known]

theorem Bay.quoteReady_of_busy (busy : b.flag F.TRU_ATT_STAT_BUSY = true) (hc : b.carts = [0, 1]) (ha : b.joining 0 = false) (hb : b.joining 1 = false)
    (hq : b.trust.quotes = [[], []]) :
    b.quoteReady = (((b.setTrust { b.trust with quotes := [b.quote 0, b.quote 1] }).setFlag F.TRU_ATT_STAT_READY true).setFlag F.TRU_ATT_STAT_BUSY false).note 225 := by
  simp [Bay.quoteReady, busy, hc, ha, hb, hq]

end

end Sys2Proof.Machine

namespace Sys2Proof

open Sys2Proof.Machine

/-- Settles O35: whether a seal is signed turns on a cartridge that holds the record key and has a working secure element. -/
theorem sealsAndAttestation : Obligations.SealsAndAttestation := by
  unfold Obligations.SealsAndAttestation
  intro s
  refine ⟨?signed, ?unsigned, ?attGo, ?quoteReady, ?quoteReadCA, ?quoteReadCB⟩
  case signed =>
    intro c d l due ⟨x, hx, key, se⟩
    have can : s.bay.canSign = true := List.any_eq_true.2 ⟨x, hx, by simp only [key, se, Bool.and_self]⟩
    obtain ⟨r, written, rest, seq, by_, pos⟩ := Bay.sealWrite_of_signer due can
    apply completes_onBay (exec_sealWritten_of_noFailure c)
    rw [written]
    exact ⟨by simp [rest], by simp [seq], by simp [by_], by simp [pos], rfl, fun k _ => rfl⟩
  case unsigned =>
    intro c d l due failed mode
    have can : s.bay.canSign = false := List.any_eq_false.2 fun x hx => by simp only [failed x hx, Bool.and_false, Bool.false_eq_true, not_false_eq_true]
    obtain ⟨r, written, rest, key⟩ := Bay.sealWrite_of_noSigner due can
    obtain ⟨t, quarantined, cause⟩ := Bay.quarantineFor_of_outside (b := (s.bay.setRing c r).raise 231 c (s.bay.ringOf c).sealSeq) 5 (by simp [mode, Mode.standby, Mode.quarantine])
    apply completes_onBay (exec_sealWritten_of_noFailure c)
    rw [written, quarantined]
    have ring : ((s.bay.setRing c r).raise 231 c (s.bay.ringOf c).sealSeq).ringOf c = r := by simp
    refine ⟨(congrArg Ring.sealDue ring).trans rest, (congrArg Ring.sealKey ring).trans key, rfl, cause, fun k hk => ?_⟩
    exact (Bay.raise_rd _ _ _ _ (mt List.mem_singleton.2 hk)).trans (Bay.setRing_rd ..)
  case attGo =>
    intro hg
    apply completes_onBay exec_attGo
    rw [Bay.attGo, Bay.gated_open hg]
    refine ⟨by simp, by simp, by simp, by simp, rfl, fun k hk => ?_⟩
    simp at hk
    simp [hk]
  case quoteReady =>
    intro busy hc ha hb hq
    apply completes_onBay exec_quoteReady
    rw [Bay.quoteReady_of_busy busy hc ha hb hq]
    refine ⟨by simp, by simp, by simp, fun k hk => ?_⟩
    simp at hk
    simp [hk]
  case quoteReadCA =>
    apply completes_onBay exec_quoteRead_CA
    exact ⟨by simp, fun k hk => Bay.rd_setFlag_of_ne _ _ (mt List.mem_singleton.2 hk)⟩
  case quoteReadCB =>
    apply completes_onBay exec_quoteRead_CB
    exact ⟨by simp, fun k hk => Bay.rd_setFlag_of_ne _ _ (mt List.mem_singleton.2 hk)⟩

end Sys2Proof
end

section
/-! PROOFS. Enrolment, the commissioning window, the record key and the way out of QUARANTINE (R457 to R461, R470, R472). -/

namespace Sys2Proof.Machine

section
variable {s : State}

theorem exec_enrGo (d : Bool) : exec (.enrGo d) s = s.onBay (fun b => b.enrGo d) := rfl
theorem exec_enrolmentApply : exec .enrolmentApply s = s.onBay Bay.enrolDue := rfl
theorem exec_commissioningButton (ms : Nat) : exec (.commissioningButton ms) s = s.onBay (fun b => b.commButton ms) := rfl
theorem exec_commissioningTimeout : exec .commissioningTimeout s = s.onBay Bay.commTimeout := rfl
theorem exec_rkeyNew : exec .rkeyNew s = s.onBay Bay.rkeyNew := rfl
theorem exec_verRebuild : exec .verRebuild s = s.onBay Bay.verRebuild := rfl
theorem exec_qRestart (discard : Bool) : exec (.qRestart discard) s = s.onBay (fun b => b.qRestart discard) := rfl
theorem exec_qcauseRead : exec .qcauseRead s = s.onBay (fun b => b.onlyIf (b.mode == Mode.quarantine) (fun b => b.setFlag F.TRU_STAT_CLR_ARMED true)) := rfl

end

/-! ## Authority statements -/

/-- The statement of the staging buffer as it is kept once accepted (R459). -/
def Bay.enrolled (b : Bay) : Enrol :=
  let l := b.enrBytes
  { op := byteAt l 2, slot := byteAt l 3, rights := byteAt l 4, effect := u64At l 0x10, seq := u32At l 0x18, key := (l.drop 0x20).take 97 }

theorem Bay.enrBytes_length (b : Bay) : b.enrBytes.length = 232 := by
  simp [Bay.enrBytes, List.length_flatten, Function.comp_def, length_leBytes]

/-- The staged key is 97 bytes long, so it is not the empty key of a free slot. -/
theorem Bay.enrolled_key_ne (b : Bay) : b.enrolled.key ≠ [] := by
  intro e
  have len : b.enrolled.key.length = 97 := by simp [Bay.enrolled, Bay.enrBytes_length]
  simp [e] at len

section
variable {b : Bay} {d : Bool} (hg : b.gate F.TRU_CTL_ENR_GO = none)
include hg

theorem Bay.enrGo_of_refused {r : Nat} (hr : b.judgeEnrol b.enrBytes d = r) (ne : r ≠ 0) :
    b.enrGo d = (b.wr F.TRU_ENR_STAT_RESULT r).raise 224 (512 + r) (u32At b.enrBytes 0x18 : Nat) := by
  rw [Bay.enrGo, Bay.gated_open hg]
  simp only [hr]
  exact if_pos ne

section
variable (ok : b.judgeEnrol b.enrBytes d = 0)
include ok

/-- A statement that is accepted waits for its time, or applies where that has come (R459, R461). -/
theorem Bay.enrGo_of_accepted :
    b.enrGo d = if b.enrolled.effect ≤ b.now then ((b.wr F.TRU_ENR_STAT_RESULT 0).wr F.TRU_ENR_SEQ b.enrolled.seq).applyEnrol b.enrolled
      else ((((b.wr F.TRU_ENR_STAT_RESULT 0).wr F.TRU_ENR_SEQ b.enrolled.seq).setTrust { b.trust with pend := b.trust.pend ++ [b.enrolled] }).setFlag
        (F.AUTH_PENDING b.enrolled.slot) true) := by
  rw [Bay.enrGo, Bay.gated_open hg]
  simp only [ok, ne_eq, not_true_eq_false, if_false]
  rfl

end

end

/-- What a statement about a host's slot leaves of it: its key and its rights (R457, R461, R474). -/
theorem Bay.applyEnrol_host {b : Bay} {e : Enrol} (host : 4 ≤ e.slot) :
    let key := if e.op = 2 then [] else e.key
    let b' := b.applyEnrol e
    b'.trust.keys.get [] e.slot = key ∧ b'.trust.pend = b.trust.pend.filter (fun p => p != e) ∧ b'.rd (F.AUTH_ENROLLED e.slot) = (if key.isEmpty then 0 else 1) ∧
      b'.rd (F.AUTH_RIGHTS e.slot) = e.rights ∧ b'.rd (F.AUTH_ID e.slot) = (if key.isEmpty then 0 else (leNum ((Config.sha384 key).take 8) : Int)) ∧
      b'.rd (F.AUTH_PENDING e.slot) = (if (b.trust.pend.filter (fun p => p != e)).any (fun p => p.slot == e.slot) then 1 else 0) ∧
      b'.rd F.TRU_ENR_STAT_RESULT = b.rd F.TRU_ENR_STAT_RESULT ∧ b'.rd F.TRU_ENR_SEQ = b.rd F.TRU_ENR_SEQ := by
  have notPlant : decide (e.slot < 4) = false := by simp; omega
  intro key b'
  have applied : b' = (((((b.setTrust { b.trust with keys := b.trust.keys.put e.slot key, pend := b.trust.pend.filter (fun p => p != e) }).showAuth e.slot key e.rights).setFlag
      (F.AUTH_PENDING e.slot) ((b.trust.pend.filter (fun p => p != e)).any (fun p => p.slot == e.slot))).raise 228 (e.slot * 256 + e.op) e.seq).remedied 2) := by
    have still (b : Bay) (s : Nat) (key : List Byte) (rights : Int) : (b.showAuth s key rights).trust = b.trust := by simp [Bay.showAuth]
    simp [b', Bay.applyEnrol, notPlant, Bay.onlyIf, key, still]
  rw [applied]
  refine ⟨?key, ?pend, ?enrolled, ?rights, ?id, ?pending, ?result, ?seq⟩
  case key => simp [Bay.remedied, Bay.showAuth, Tab.get_put]
  case pend => simp [Bay.remedied, Bay.showAuth]
  case enrolled => cases h : key.isEmpty <;> simp [Bay.showAuth, h]
  case rights => simp [Bay.showAuth]
  case id => cases h : key.isEmpty <;> simp [Bay.showAuth, h]
  case pending => simp
  case result => simp
  case seq => simp

/-! ## The record key -/

/-- The seals of channel `c` begin anew with a record key, its chain with the first of all (R464, R465). -/
def Bay.restartSeal (first : Bool) (b : Bay) (c : Nat) : Bay :=
  b.setRing c { b.ringOf c with sealSeq := 0, chain := if first then Config.sha384 (b.serialBytes ++ leBytes 1 (c : Int)) else (b.ringOf c).chain }

theorem Bay.restartSeals_trust (b : Bay) (first : Bool) : (b.each allChans (Bay.restartSeal first)).trust = b.trust :=
  Bay.each_keeps Bay.trust (Bay.restartSeal first) (fun _ _ => rfl) b allChans

theorem Bay.restartSeals_rd (b : Bay) (first : Bool) (k : Key) : (b.each allChans (Bay.restartSeal first)).rd k = b.rd k :=
  Bay.each_keeps (fun b => b.rd k) (Bay.restartSeal first) (fun _ _ => rfl) b allChans

theorem Bay.restartSeals_sealSeq (b : Bay) (first : Bool) {c : Nat} (hc : c < 64) : ((b.each allChans (Bay.restartSeal first)).ringOf c).sealSeq = 0 := by
  refine Bay.each_reaches (P := fun _ => True) (Q := fun b => (b.ringOf c).sealSeq = 0) (fun _ _ _ _ => trivial) (fun b _ => by simp [Bay.restartSeal]) (fun b n h => ?_)
    (List.mem_range.2 hc) trivial
  by_cases same : n = c
  · simp [Bay.restartSeal, same]
  · simp [Bay.restartSeal, same, h]

theorem Bay.newRecordKey_eq (b : Bay) :
    b.newRecordKey = (((b.setTrust { b.trust with rkey := b.trust.rkey + 1, rkeyIn := [b.cPresent 0, b.cPresent 1], rkeyBy := if b.cPresent 0 then 0 else 1 }).each allChans
      (Bay.restartSeal (b.trust.rkey = 0))).remedied 5).showKey := by
  unfold Bay.newRecordKey Bay.restartSeal
  simp only [decide_eq_true_eq]

theorem Bay.mem_fixed_remedied (b : Bay) (code : Nat) : code ∈ (b.remedied code).trust.fixed := by
  simp only [Bay.remedied, Bay.setTrust_trust]
  split
  next known => simpa using known
  next => simp

/-- A new record key: it is counted, remedies cause 5, and the seals of every channel begin at 0 (R450, R464, R470). -/
theorem Bay.newRecordKey_leaves (b : Bay) :
    b.newRecordKey.trust.rkey = b.trust.rkey + 1 ∧ 5 ∈ b.newRecordKey.trust.fixed ∧ (∀ c < 64, (b.newRecordKey.ringOf c).sealSeq = 0) := by
  rw [Bay.newRecordKey_eq]
  refine ⟨?key, ?remedy, fun c hc => ?seals⟩
  case seals => simp [Bay.showKey, Bay.remedied, Bay.restartSeals_sealSeq _ _ hc]
  case key => simp [Bay.showKey, Bay.remedied, Bay.restartSeals_trust]
  case remedy => exact Bay.mem_fixed_remedied _ 5

/-- Both fitted cartridges hold a new record key. -/
theorem Bay.newRecordKey_shown {b : Bay} (hc : b.carts = [0, 1]) : b.newRecordKey.rd F.TRU_STAT_RKEY_OK = 1 := by
  have ca : b.cPresent 0 = true := (Bay.mem_carts.1 (by simp [hc])).2
  have cb : b.cPresent 1 = true := (Bay.mem_carts.1 (by simp [hc])).2
  have still (b' : Bay) (h : ∀ k, b'.rd k = b.rd k) : b'.carts = [0, 1] := by
    have same : b'.cPresent = b.cPresent := funext fun x => by simp [Bay.cPresent, h]
    rw [← hc, Bay.carts, same, Bay.carts]
  rw [Bay.newRecordKey_eq, Bay.showKey, still _ (fun k => by simp [Bay.restartSeals_rd])]
  simp [Bay.remedied, Bay.restartSeals_trust, ca, cb]

theorem Bay.newRecordKey_keepsRegs (b : Bay) : keepsRegs b b.newRecordKey [F.TRU_STAT_RKEY_OK] := by
  intro k hk
  rw [Bay.newRecordKey_eq, Bay.showKey, Bay.rd_setFlag_of_ne _ _ (mt List.mem_singleton.2 hk), Bay.remedied_rd, Bay.restartSeals_rd, Bay.setTrust_rd]

section
variable {b : Bay}

theorem Bay.rkeyNew_of_service (hg : b.gate F.TRU_CTL_RKEY_NEW = none) (hm : b.mode = Mode.service) :
    b.rkeyNew = if b.anyCell then b.refuse F.TRU_CTL_RKEY_NEW 4 else b.newRecordKey := by
  rw [Bay.rkeyNew, Bay.gated_open hg, if_neg (by simp [hm])]

/-! ## The window and the way out of QUARANTINE -/

theorem Bay.setWindow_leaves (b : Bay) (t : Option Nat) :
    (b.setWindow t).windowOpen = t.isSome ∧ (b.setWindow t).trust.winEnd = t ∧ keepsRegs b (b.setWindow t) [F.TRU_ENR_STAT_WINDOW] := by
  refine ⟨?_, rfl, fun k hk => (Bay.rd_setFlag_of_ne _ _ (mt List.mem_singleton.2 hk) :)⟩
  cases t <;> simp [Bay.setWindow, Bay.windowOpen, Bay.flag]

theorem Bay.commButton_of_window {ms : Nat} (hm : b.mode = Mode.attest ∨ b.mode = Mode.quarantine) :
    b.commButton ms = if b.windowOpen then (if 100 ≤ ms then b.setWindow none else b) else if 3000 ≤ ms then b.setWindow (some (b.now + 900 * secTicks)) else b :=
  if_neg (by simpa [or_iff_not_imp_left] using hm)

theorem Bay.verRebuild_of_cause (hg : b.gate F.TRU_CTL_VER_REBUILD = none) (hm : b.mode = Mode.quarantine) (hc : bitOf (b.rd F.TRU_QCAUSE_MASK) 2 = true) :
    b.verRebuild = ({ b with verMax := b.images.map (fun (m : Image) => (m.id, m.ver)) } : Bay).remedied 3 := by
  rw [Bay.verRebuild, Bay.gated_open hg, if_neg (not_not_intro hm), hc]
  rfl

/-- A restart out of QUARANTINE that discards what the rings keep is taken where the read has armed it and every cause has its remedy (R472). -/
theorem Bay.qRestart_discard (hg : b.gate F.TRU_CTL_Q_RESTART = none) (hm : b.mode = Mode.quarantine) :
    b.qRestart true = if b.flag F.TRU_STAT_CLR_ARMED && b.allRemedied then { b with modeSt := { b.modeSt with restart := true } } else b.refuse F.TRU_CTL_Q_RESTART 4 := by
  rw [Bay.qRestart, Bay.gated_open hg]
  simp [hm]

end

end Sys2Proof.Machine

namespace Sys2Proof

open Sys2Proof.Machine

/-- Settles O36: each row is one function of the bay, told apart by its guards. -/
theorem enrolmentRecordKeyAndQuarantine : Obligations.EnrolmentRecordKeyAndQuarantine := by
  unfold Obligations.EnrolmentRecordKeyAndQuarantine
  intro s
  refine ⟨?waits, ?applies, ?refused, ?replaced, ?removed, ?opens, ?closes, ?expires, ?newKey, ?noNewKey, ?rebuild, ?restart, ?unarmed, ?armed⟩
  case waits =>
    intro d hg ok later
    have waits : ¬ s.bay.enrolled.effect ≤ s.bay.now := Nat.not_le.2 later
    apply completes_onBay (exec_enrGo d)
    rw [Bay.enrGo_of_accepted hg ok, if_neg waits]
    refine ⟨by simp, by simp [Bay.enrolled], by simp [Bay.enrolled], by simp, by simp, fun k hk => ?_⟩
    simp at hk
    simp [Bay.enrolled, hk]
  case applies =>
    intro d hg ok due install slot
    have due : s.bay.enrolled.effect ≤ s.bay.now := due
    apply completes_onBay (exec_enrGo d)
    rw [Bay.enrGo_of_accepted hg ok, if_pos due]
    have install : s.bay.enrolled.op = 1 := install
    have slot : s.bay.enrolled.slot = 6 := slot
    obtain ⟨key, -, enrolled, rights, -, -, result, seq⟩ :=
      Bay.applyEnrol_host (b := (s.bay.wr F.TRU_ENR_STAT_RESULT 0).wr F.TRU_ENR_SEQ s.bay.enrolled.seq) (e := s.bay.enrolled) (by omega)
    simp only [install, slot, OfNat.one_ne_ofNat, if_false, List.isEmpty_iff, Bay.enrolled_key_ne] at key enrolled rights
    exact ⟨by simp [result], seq.trans (Bay.rd_wr_same _ _ _), key, rights, enrolled⟩
  case refused =>
    intro d r hg hr ne
    apply completes_onBay (exec_enrGo d)
    rw [Bay.enrGo_of_refused hg hr ne]
    exact ⟨rfl, by simp⟩
  case replaced =>
    intro e hp due install slot ne
    apply completes_onBay exec_enrolmentApply
    have one : s.bay.enrolDue = s.bay.applyEnrol e := by simp [Bay.enrolDue, hp, due]
    rw [one]
    obtain ⟨key, pend, enrolled, rights, -, pending, -, -⟩ := Bay.applyEnrol_host (b := s.bay) (e := e) (by omega)
    simp only [install, slot, hp, OfNat.one_ne_ofNat, if_false, List.isEmpty_iff, ne] at key pend enrolled rights pending
    exact ⟨by simpa using pend, key, enrolled, rights, by simpa using pending⟩
  case removed =>
    intro e hp due remove slot
    apply completes_onBay exec_enrolmentApply
    have one : s.bay.enrolDue = s.bay.applyEnrol e := by simp [Bay.enrolDue, hp, due]
    rw [one]
    obtain ⟨key, pend, enrolled, -, id, -, -, -⟩ := Bay.applyEnrol_host (b := s.bay) (e := e) (by omega)
    simp only [remove, slot, hp, if_true, List.isEmpty_nil] at key pend enrolled id
    exact ⟨by simpa using pend, key, enrolled, id⟩
  case opens =>
    intro ms hm shut long
    apply completes_onBay (exec_commissioningButton ms)
    rw [Bay.commButton_of_window hm, shut, if_neg Bool.false_ne_true, if_pos long]
    exact Bay.setWindow_leaves _ _
  case closes =>
    intro ms hm opened long
    apply completes_onBay (exec_commissioningButton ms)
    rw [Bay.commButton_of_window hm, opened, if_pos rfl, if_pos long]
    exact Bay.setWindow_leaves _ _
  case expires =>
    intro t ends due
    apply completes_onBay exec_commissioningTimeout
    have ended : s.bay.commTimeout = s.bay.setWindow none := by simp [Bay.commTimeout, ends, due]
    rw [ended]
    exact Bay.setWindow_leaves _ _
  case newKey =>
    intro hg hm cells hc
    apply completes_onBay exec_rkeyNew
    rw [Bay.rkeyNew_of_service hg hm, cells, if_neg Bool.false_ne_true]
    obtain ⟨key, remedy, seals⟩ := Bay.newRecordKey_leaves s.bay
    refine ⟨key, Bay.newRecordKey_shown hc, remedy, seals, Bay.newRecordKey_keepsRegs _⟩
  case noNewKey =>
    intro hg hm cells
    apply completes_onBay exec_rkeyNew
    rw [Bay.rkeyNew_of_service hg hm, cells, if_pos rfl]
  case rebuild =>
    intro hg hm cause
    apply completes_onBay exec_verRebuild
    rw [Bay.verRebuild_of_cause hg hm cause]
    exact ⟨rfl, Bay.mem_fixed_remedied _ _, fun k _ => rfl⟩
  case restart =>
    intro hg hm armed remedies
    apply completes_onBay (exec_qRestart true)
    rw [Bay.qRestart_discard hg hm, armed, remedies]
    rfl
  case unarmed =>
    intro hg hm unarmed
    apply completes_onBay (exec_qRestart true)
    rw [Bay.qRestart_discard hg hm, unarmed]
    rfl
  case armed =>
    intro hm
    apply completes_onBay exec_qcauseRead
    simp only [hm, beq_self_eq_true, Bay.onlyIf, if_true]
    exact ⟨by simp, fun k hk => Bay.rd_setFlag_of_ne _ _ (mt List.mem_singleton.2 hk)⟩

end Sys2Proof
end

section
/-! PROOFS. Frames, bus errors and recovery of the CAN FD controllers (R436, R441 to R446). -/

namespace Sys2Proof.Machine

section
variable (b : Bay) (k : Nat) (r : CanRes)

/-- A result on its way stands last among those of its controller (R436). -/
@[simp] theorem Bay.canPost_canOf : (b.canPost k r).canOf k = { b.canOf k with due := (b.canOf k).due ++ [(canEdgeOf b.now, r)] } := Bay.canOf_setCan_same ..
@[simp] theorem Bay.canPost_out : (b.canPost k r).out = b.out := rfl

theorem Can.drop_sendOf (x : Can) (o : Nat) : (x.drop o).sendOf o = none := by
  simp [Can.drop, Can.sendOf]

end

section
variable {b : Bay} {k : Nat}

/-- Counter values that leave the state of the controller are kept and reported, with no event (R444). -/
theorem Bay.canCount_of_sameState {tec rec_ : Int} (h : canStateOf (b.canOf k).state tec rec_ = (b.canOf k).state) :
    b.canCount k tec rec_ = (b.setCan k { b.canOf k with tec := min 511 tec, rec_ := min 511 rec_ }).canPost k (.counters (min 511 tec) (min 511 rec_) (b.canOf k).state) := by
  simp only [Bay.canCount, h, if_true]

/-- Without sends in progress bus-off ends no object (R446). -/
theorem Bay.canBusOff_of_idle (h : (b.canOf k).sends = []) :
    b.canBusOff k = (b.note (218 + k)).setCan k { b.canOf k with rdyAt := none } := by
  simp [Bay.canBusOff, h, Bay.each]

theorem Bay.canCount_to_busOff {tec rec_ : Int} (h : canStateOf (b.canOf k).state tec rec_ = 2) (h' : (b.canOf k).state ≠ 2) :
    b.canCount k tec rec_ = ((((b.setCan k { b.canOf k with tec := min 511 tec, rec_ := min 511 rec_, state := 2 }).canPost k
      (.counters (min 511 tec) (min 511 rec_) 2)).raiseD (216 + k) 2).canBusOff k) := by
  simp only [Bay.canCount, h, if_neg h'.symm, if_true]

theorem Bay.canFail_canOf (o : Nat) (cause : Int) :
    (b.canFail k o cause).canOf k = { (b.canOf k).drop o with due := (b.canOf k).due ++ [(canEdgeOf b.now, .fail o cause)] } := by
  unfold Bay.canFail
  dsimp only
  split
  · rw [Bay.canOf_note, Bay.canPost_canOf, Bay.canOf_setCan_same]
    rfl
  · rw [Bay.canPost_canOf, Bay.canOf_setCan_same]
    rfl

theorem Bay.canFail_keepsRegs (o : Nat) (cause : Int) : keepsRegs b (b.canFail k o cause) [F.EVT_STAT_LOST] := by
  intro q hq
  unfold Bay.canFail
  dsimp only
  split
  · rw [Bay.note_rd _ _ (mt List.mem_singleton.2 hq), Bay.canPost_rd, Bay.setCan_rd]
  · rw [Bay.canPost_rd, Bay.setCan_rd]

end

/-! ## Reception -/

section
variable {b : Bay} {k : Nat} {f : CanFrame}

/-- A controller that is error-active with both counters 0. -/
structure Can.Clean (x : Can) : Prop where
  mode : x.mode = 1
  state : x.state = 0
  tec : x.tec = 0
  rec_ : x.rec_ = 0

/-- What a clean controller has done when it has acknowledged a frame: its counters stay 0 and are reported (R444). -/
def Bay.canAcked (b : Bay) (k : Nat) : Bay := ((b.send (.canAck k)).setCan k { b.canOf k with tec := 0, rec_ := 0 }).canPost k (.counters 0 0 0)

theorem Bay.canAcked_canOf (h : (b.canOf k).Clean) :
    (b.canAcked k).canOf k = { b.canOf k with due := (b.canOf k).due ++ [(canEdgeOf b.now, .counters 0 0 0)] } := by
  obtain ⟨-, -, tec, rec_⟩ := h
  simp [Bay.canAcked, tec, rec_]

theorem Bay.canAcked_rd (k : Nat) (q : Key) : (b.canAcked k).rd q = b.rd q := by simp [Bay.canAcked]

theorem Bay.canAcked_matching (h : (b.canOf k).Clean) : (b.canAcked k).matching k f = b.matching k f := by
  unfold Bay.matching
  rw [Bay.canAcked_canOf h]
  simp only [Bay.flag, Bay.objId, Bay.rdN, Bay.canAcked_rd]

/-- A data frame at a clean controller is acknowledged, and stored in the object it matches. -/
theorem Bay.canStore_of_clean (h : (b.canOf k).Clean) (data : f.remote = false) :
    b.canStore k f = match b.matching k f with
      | none => (b.canAcked k).canPost k .unmatched
      | some o => (b.canAcked k).canPost k (.store o f.dlc.toNat f.fdf f.brs f.esi (b.now - f.ago.toNat)
          (f.data.take (dlcLen f.fdf f.dlc.toNat) ++ List.replicate (64 - (f.data.take (dlcLen f.fdf f.dlc.toNat)).length) 0)) := by
  have still : canStateOf ((b.send (.canAck k)).canOf k).state 0 0 = ((b.send (.canAck k)).canOf k).state := by simp [canStateOf, h.state]
  have acked : (b.send (.canAck k)).canCount k 0 0 = b.canAcked k := by
    rw [Bay.canCount_of_sameState still, Bay.canOf_send, h.state]
    rfl
  have noErrors : recGood 0 = 0 := rfl
  unfold Bay.canStore
  simp only [h.mode, if_true, Bay.canOf_send, h.tec, h.rec_, noErrors, acked, data, Bool.false_eq_true, if_false, Bay.canAcked_matching h]
  rfl

theorem exec_canFrameReceive_of_clean {s : State} {k : Fin 2} (h : (s.bay.canOf k).Clean) (active : f.active = true) (standby : f.standby = true) :
    exec (.canFrameReceive k f) s = .next { s with bay := s.bay.canStore k f } := by
  change execCanFrameReceive k f s = _
  simp [execCanFrameReceive, State.onBay, h.mode, h.state, Bay.detecting, active, standby, Bay.onlyIf]

end

/-! ## The end of an attempt and errors -/

section
variable {s : State} {k : Fin 2}

theorem exec_canTxDone_of_first {o : Fin 128} {ago : BitVec 24} {sd : CanSend} {what : CanOutcome} (mode : (s.bay.canOf k).mode = 1) (state : (s.bay.canOf k).state = 0)
    (owner : (s.bay.canOf k).owner ≠ 2) (hs : (s.bay.canOf k).sendOf o = some sd) (first : s.bay.arbFirst k (s.bay.now - ago.toNat) = some o.val) :
    exec (.canTxDone k o ago what) s = s.onBay (fun b => if what = .success then
        (((b.setCan k ((b.canOf k).drop o)).canCount k (max 0 ((b.canOf k).tec - 1)) (b.canOf k).rec_).canPost k (.done o (b.now - ago.toNat))).send
          (.canFrame k o (sd.data.take (dlcLen (b.flag (F.OBJ_CFG_FDF (objNo k o))) (b.rdN (F.OBJ_CFG_DLC (objNo k o))))))
      else b.canMissed k sd what) := by
  change execCanTxDone k o ago what s = _
  simp [execCanTxDone, State.onBay, hs, mode, state, owner, first]

/-- A timely object whose frame was not acknowledged fails with cause 2 (R443). -/
theorem Bay.canMissed_of_noAck {b : Bay} {k : Nat} {sd : CanSend} (late : sd.late = false) (timely : b.flag (F.OBJ_CFG_CLASS (objNo k sd.obj)) = true) :
    b.canMissed k sd .noAck = b.canFail k sd.obj 2 := by
  simp [Bay.canMissed, late, timely]

theorem Can.sendOf_obj {x : Can} {o : Nat} {sd : CanSend} (h : x.sendOf o = some sd) : sd.obj = o := by
  simpa using List.find?_some h

/-- An error of an own frame counts 8 on TEC (R444, log entry 47). -/
theorem exec_canBusError_of_own {e : CanError} (mode : (s.bay.canOf k).mode = 1) (state : (s.bay.canOf k).state ≠ 2) (tx : e.tx = true) (counts : e.exempt = false)
    (once : e.more = 0) (clean : e.clash = none) :
    exec (.canBusError k e) s = s.onBay (fun b =>
      (b.canPost k (.count (canErrKey k e.type).1 (canErrKey k e.type).2)).canCount k ((b.canOf k).tec + 8) (b.canOf k).rec_) := by
  change execCanBusError k e s = _
  simp [execCanBusError, State.onBay, mode, state, tx, counts, once, clean]

theorem exec_canRecoveryReady_of_busOff (mode : (s.bay.canOf k).mode ≠ 0) (state : (s.bay.canOf k).state = 2) (ready : (s.bay.canOf k).rdyAt = none) :
    exec (.canRecoveryReady k) s = s.onBay (fun b => (b.setCan k { b.canOf k with rdyAt := some b.now }).canPost k .ready) := by
  change execCanRecoveryReady k s = _
  simp [execCanRecoveryReady, State.onBay, mode, state, ready, Bay.onlyIf]

theorem exec_canRecoveryDelay_of_ready {t : Nat} (state : (s.bay.canOf k).state = 2) (ready : (s.bay.canOf k).rdyAt = some t) (auto : s.bay.rd (F.CFD_CTL_REC k) = 1)
    (due : t + s.bay.rdN (F.CFD_REC_DLY k) * msTicks ≤ s.bay.now) :
    exec (.canRecoveryDelay k) s = s.onBay (fun b => b.setCan k { b.canOf k with recReq := true }) := by
  change execCanRecoveryDelay k s = _
  simp [execCanRecoveryDelay, State.onBay, state, ready, auto, due, Bay.onlyIf]

end

end Sys2Proof.Machine

namespace Sys2Proof

open Sys2Proof.Machine

/-- Settles O29: each row counts on the controller and posts its results for the edge at which they enter. -/
theorem fieldBusFramesErrorsAndRecovery : Obligations.FieldBusFramesErrorsAndRecovery := by
  unfold Obligations.FieldBusFramesErrorsAndRecovery
  intro s
  refine ⟨?stored, ?unmatched, ?deaf, ?sent, ?noAck, ?ackError, ?busOff, ?ready, ?delay⟩
  case stored =>
    intro k f o mode state tec rec_ active standby data found
    have clean : (s.bay.canOf k).Clean := ⟨mode, state, tec, rec_⟩
    refine ⟨_, exec_canFrameReceive_of_clean clean active standby, rfl, rfl, ?_⟩
    rw [Bay.canStore_of_clean clean data, found]
    refine ⟨?_, by simp [Bay.canAcked, Bay.send], fun q _ => by simp [Bay.canAcked_rd]⟩
    simp [Bay.canAcked]
  case unmatched =>
    intro k f mode state tec rec_ active standby data found
    have clean : (s.bay.canOf k).Clean := ⟨mode, state, tec, rec_⟩
    refine ⟨_, exec_canFrameReceive_of_clean clean active standby, rfl, rfl, ?_⟩
    rw [Bay.canStore_of_clean clean data, found]
    refine ⟨?_, fun q _ => by simp [Bay.canAcked_rd]⟩
    simp [Bay.canAcked]
  case deaf =>
    intro k f off
    refine ⟨s, ?_, rfl, rfl, rfl⟩
    change execCanFrameReceive k f s = _
    simp [execCanFrameReceive, State.onBay, off]
  case sent =>
    intro k o ago sd mode state owner tec rec_ hs first
    apply completes_onBay (exec_canTxDone_of_first mode state owner hs first)
    have still : canStateOf ((s.bay.setCan k ((s.bay.canOf k).drop o)).canOf k).state 4 0 = ((s.bay.setCan k ((s.bay.canOf k).drop o)).canOf k).state := by
      simp [Can.drop, canStateOf, state]
    simp only [if_true, tec, rec_, show max (0 : Int) (5 - 1) = 4 from rfl, Bay.canCount_of_sameState still]
    refine ⟨?_, by simp, by simp, by simp [Bay.send], fun q _ => by simp⟩
    simpa [Can.sendOf] using Can.drop_sendOf (s.bay.canOf k) o
  case noAck =>
    intro k o ago sd mode state owner hs late first timely
    have obj := Can.sendOf_obj hs
    apply completes_onBay (exec_canTxDone_of_first mode state owner hs first)
    simp only [reduceCtorEq, if_false, Bay.canMissed_of_noAck late (obj ▸ timely), obj]
    rw [Bay.canFail_canOf]
    exact ⟨Can.drop_sendOf (s.bay.canOf k) o, by simp, Bay.canFail_keepsRegs _ _⟩
  case ackError =>
    intro k e mode state tec rec_ tx counts once clean type
    apply completes_onBay (exec_canBusError_of_own mode (by simp [state]) tx counts once clean)
    have still : canStateOf ((s.bay.canPost k (.count (canErrKey k e.type).1 (canErrKey k e.type).2)).canOf k).state 8 0 =
        ((s.bay.canPost k (.count (canErrKey k e.type).1 (canErrKey k e.type).2)).canOf k).state := by
      simp [canStateOf, state]
    simp only [tec, rec_, Int.zero_add, Bay.canCount_of_sameState still]
    refine ⟨by simp, by simp, by simp [type, canErrKey], by simp [state], fun q _ => by simp⟩
  case busOff =>
    intro k e mode state tec rec_ idle tx counts once clean
    apply completes_onBay (exec_canBusError_of_own mode (by simp [state]) tx counts once clean)
    have off : canStateOf ((s.bay.canPost k (.count (canErrKey k e.type).1 (canErrKey k e.type).2)).canOf k).state 256 0 = 2 := by simp [canStateOf, state]
    simp only [tec, rec_, show (248 + 8 : Int) = 256 from rfl]
    rw [Bay.canCount_to_busOff off (by simp [state]), Bay.canBusOff_of_idle (by simp [idle])]
    refine ⟨by simp, by simp, by simp, fun q hq => ?_⟩
    simp at hq
    simp [hq]
  case ready =>
    intro k mode state ready
    apply completes_onBay (exec_canRecoveryReady_of_busOff mode state ready)
    exact ⟨by simp, by simp, fun q _ => by simp⟩
  case delay =>
    intro k t state ready auto due
    exact completes_onBay (exec_canRecoveryDelay_of_ready state ready auto due) rfl

end Sys2Proof
end

section
/-! PROOFS. The response that a delivered management frame brings (R412, R426). -/

namespace Sys2Proof.Machine

/-- A bay with one link up, bound to address 0, whose Rim session 0 has asked stake 1. -/
def askedBay : Bay := { regs := [(F.WVE_PORT_P0, 2), (F.WVE_STAT_BOUND, 1)], weave := { asked := [(1, 0, 7, 0)] } }

/-- The frame of class 1 by which stake 1 answers. -/
def responseFrame : WFrame := { tagOk := true, slot := 0, ctr := 1, cls := 1, type := 0, dst := 0, src := 1, ttl := 1, seq := 0, len := 0 }

/-- The frame goes out as delivered, and its response to the session that asked (R426, log entry 93). -/
theorem askedBay_receives : (askedBay.weaveReceive 0 responseFrame).out = [.rim 0 7 0 [], .weave "DELIVERED" [1, 0, 1, 0]] := by decide

end Sys2Proof.Machine

namespace Sys2Proof

open Sys2Proof.Machine

/-- Refutes O31: its clause on a delivered frame has DELIVERED go out and nothing else, for a frame of any class. A management frame of a stake that a Rim session has asked also brings the response to that request (R426, log entry 93), which goes out to the session first. -/
theorem not_weaveHandshakeAndFrames : ¬ Obligations.WeaveHandshakeAndFrames := by
  unfold Obligations.WeaveHandshakeAndFrames
  intro h
  let s : State := { bay := askedBay }
  obtain ⟨-, -, -, -, delivered, -⟩ := h s
  obtain ⟨b, ⟨-, -, alone, -⟩, both⟩ := completes_both
    (delivered 0 responseFrame (by decide) (by decide) (by decide) (by decide) (by decide) (by decide) (by decide) (by decide) (by decide))
    (completes_onBay (P := (· = askedBay.weaveReceive 0 responseFrame)) (f := fun b => b.weaveReceive 0 responseFrame) rfl rfl)
  have sent := alone.symm.trans ((congrArg Bay.out both).trans askedBay_receives)
  exact absurd (congrArg List.length sent) (by decide)

end Sys2Proof
end

section
/-! PROOFS. Frames that leave a stake, the loss of a link with its repair, acknowledgement and retransmission (R411, R412, R414, R418, R419). -/

namespace Sys2Proof.Machine

/-! ## A frame of this stake on its way -/

section
variable (b : Bay) (dst : Nat) (kind : String) (words : List Int)

@[simp] theorem Bay.sendWeave_out : (b.sendWeave dst kind words).out = b.out ++ [.weave kind words] := rfl

/-- Sending moves the ports' counters and nothing else of the Weave (R410). -/
theorem Bay.sendWeave_weave : (b.sendWeave dst kind words).weave = { b.weave with ports := (b.countTx (b.txPorts dst none)).weave.ports } := rfl

/-- What does not speak of a port's counter or idle time stands when frames go out (R410, R411). -/
theorem Bay.countTx_portOf {α : Type} {g : Port → α} (hg : ∀ x t n, g { x with txCtr := n, lastTx := t } = g x) (ps : List Nat) (p : Nat) :
    g ((b.countTx ps).portOf p) = g (b.portOf p) := by
  have ports : ∀ t : Tab Port, g ((ps.foldl (fun t p => t.put p { t.get {} p with txCtr := (t.get {} p).txCtr + 1, lastTx := b.now }) t).get {} p) = g (t.get {} p) := by
    induction ps with
    | nil => exact fun _ => rfl
    | cons q ps ih =>
      intro t
      rw [List.foldl_cons, ih, Tab.get_put]
      split
      next same => rw [hg, same]
      next => rfl
  exact ports b.weave.ports

variable (cls : Nat) (rim : Option (Nat × Int))

/-- Originating takes a SEQ, may leave a frame to be acknowledged and moves the ports' counters; the rest of the Weave stands (R412, R414). -/
theorem Bay.originate_keeps {α : Type} {g : Weave → α} (hg : ∀ w q u t, g { w with txSeq := q, unacked := u, ports := t } = g w) :
    g (b.originate kind cls dst words rim).weave = g b.weave := by
  unfold Bay.originate
  dsimp only
  split
  · rfl
  · rw [Bay.sendWeave_weave]
    split
    · exact hg b.weave _ b.weave.unacked _
    · exact hg b.weave _ _ _

theorem Bay.originate_portOf {α : Type} {g : Port → α} (hg : ∀ x t n, g { x with txCtr := n, lastTx := t } = g x) (p : Nat) :
    g ((b.originate kind cls dst words rim).portOf p) = g (b.portOf p) := by
  unfold Bay.originate
  dsimp only
  split
  · rfl
  · refine (Bay.countTx_portOf _ hg _ p).trans ?_
    split
    · rfl
    · rfl

end

/-! ## Routing entries and the loss of a link -/

theorem rtKey_inj {plane w w' : Nat} (h : rtKey plane w = rtKey plane w') : w = w' := by
  unfold rtKey at h
  split at h
  · exact congrArg Key.i h
  · exact congrArg Key.i h

/-- One routing word of a plane. -/
def Bay.putRoute (plane : Nat) (v : Nat → Int) (b : Bay) (w : Nat) : Bay := b.wr (rtKey plane w) (v w)

theorem Bay.each_putRoute (b : Bay) (plane : Nat) (v : Nat → Int) {l : List Nat} {w : Nat} (hw : w ∈ l) :
    (b.each l (Bay.putRoute plane v)).rd (rtKey plane w) = v w := by
  have turn (b : Bay) (n : Nat) (h : n = w ∨ b.rd (rtKey plane w) = v w) : (Bay.putRoute plane v b n).rd (rtKey plane w) = v w := by
    obtain rfl | other := eq_or_ne n w
    · exact Bay.rd_wr_same _ _ _
    · exact (Bay.rd_wr_of_ne _ _ (fun e => other (rtKey_inj e).symm)).trans (h.resolve_left other)
  exact Bay.each_reaches (P := fun _ => True) (Q := fun b => b.rd (rtKey plane w) = v w) (f := Bay.putRoute plane v) (fun _ _ _ _ => trivial)
    (fun b _ => turn b w (.inl rfl)) (fun b n h => turn b n (.inr h)) hw trivial

/-- The entries put in force stand in the routing words of their plane (R417, R434). -/
theorem Bay.putRoutes_rtKey (b : Bay) (plane : Nat) (t : List Nat) {w : Nat} (hw : w < 32) :
    (b.putRoutes plane t).rd (rtKey plane w) = (t.getD (2 * w) 0 + 65536 * t.getD (2 * w + 1) 0 : Nat) :=
  Bay.each_putRoute b plane (fun w => (t.getD (2 * w) 0 + 65536 * t.getD (2 * w + 1) 0 : Nat)) (List.mem_range.2 hw)

theorem Bay.putRoutes_weave (b : Bay) (plane : Nat) (t : List Nat) : (b.putRoutes plane t).weave = b.weave := by
  exact Bay.each_keeps Bay.weave (Bay.putRoute plane (fun w => (t.getD (2 * w) 0 + 65536 * t.getD (2 * w + 1) 0 : Nat))) (fun _ _ => rfl) b _

/-- A first failure on a plane takes the table that leaves it out (R418). -/
theorem Bay.failLink_of_first {b : Bay} {plane x : Nat} {y : Option Nat} {r : Repair} (none_ : b.weave.down = []) (h : b.repairOf plane x y = some r) :
    b.failLink plane x y = ((((b.setWeave { b.weave with down := [(plane, x, y)] }).putRoutes plane r.entries).bump32 F.WVE_REPAIR).note 206) := by
  have h' : (b.setWeave { b.weave with down := [(plane, x, y)] }).repairOf plane x y = some r := h
  simp [Bay.failLink, none_, h']

theorem Bay.failLink_of_known {b : Bay} {plane x : Nat} {y : Option Nat} (h : b.weave.down.contains (plane, x, y) = true) : b.failLink plane x y = b := if_pos h

/-- A failure moves what is lost and the routing words, but no port. -/
theorem Bay.failLink_ports (b : Bay) (plane x : Nat) (y : Option Nat) : (b.failLink plane x y).weave.ports = b.weave.ports := by
  simp only [Bay.failLink]
  split
  · rfl
  · split
    · simp [Bay.putRoutes_weave]
    · split
      · simp
      · simp

theorem portKey_ne {p : Nat} {q : Key} (h : q.loc ∉ [(F.WVE_PORT_P0).loc, (F.WVE_PORT_P1).loc, (F.WVE_PORT_P2).loc, (F.WVE_PORT_P3).loc, (F.WVE_PORT_P4).loc, (F.WVE_PORT_P5).loc]) :
    (portKey p).loc ≠ q.loc := fun e => portKey_loc p h e.symm

theorem Bay.setLink_rd_portKey (b : Bay) (p : Nat) (st : Int) : (b.setLink p st).rd (portKey p) = st := by
  unfold Bay.setLink
  split
  next same => exact same
  next =>
    have apart : portKey p ≠ F.EVT_STAT_LOST := fun e => portKey_ne (by decide) (congrArg Key.loc e)
    rw [Bay.note_rd _ _ apart, Bay.rd_wr_same]

/-- A link that goes down keeps its peer and begins its counters anew (R411, R418). -/
theorem Bay.linkLoss_leaves (b : Bay) (p : Nat) (st : Int) :
    (b.linkLoss p st).rd (portKey p) = st ∧ ((b.linkLoss p st).portOf p).rxCtr = 0 ∧ ((b.linkLoss p st).portOf p).peer = (b.portOf p).peer := by
  have port (g : Port → Int) (hg : ∀ x t n, g { x with txCtr := n, lastTx := t } = g x) : g ((b.linkLoss p st).portOf p) = g { peer := (b.portOf p).peer } := by
    unfold Bay.linkLoss
    dsimp only
    rw [Bay.portOf, Bay.failLink_ports]
    refine (Bay.originate_portOf _ _ _ _ _ _ hg p).trans ?_
    simp [Bay.setPort, Bay.portOf, Tab.get_put]
  refine ⟨?state, ?counter, port Port.peer (fun _ _ _ => rfl)⟩
  case state =>
    have apart : (portKey p).loc ∉ [F.EVT_STAT_LOST.loc, F.WVE_REPAIR.loc] := by
      rw [List.mem_pair]
      exact not_or.2 ⟨portKey_ne (q := F.EVT_STAT_LOST) (by decide), portKey_ne (q := F.WVE_REPAIR) (by decide)⟩
    unfold Bay.linkLoss
    dsimp only
    rw [Bay.failLink_rd _ _ _ _ ⟨by simp, apart⟩, Bay.originate_rd, Bay.setPort_rd, Bay.setLink_rd_portKey]
  case counter =>
    have zero := port (fun x => (x.rxCtr : Int)) (fun _ _ _ => rfl)
    simpa using zero

/-! ## The rows -/

section
variable {s : State}

theorem exec_linkTimeout (p : Fin 6) : exec (.linkTimeout p false) s = s.onBay (fun b =>
    if b.linkUp p then (if false || 200 * usTicks ≤ b.now - (b.portOf p).lastRx then b.linkLoss p 0 else b) else if false then b.setLink p 0 else b) := rfl

theorem exec_linkDown (plane : Fin 2) (x : Fin 64) (y : Option (Fin 64)) :
    exec (.linkDown plane x y) s = s.onBay (fun b => if b.mode = 0 then b else b.failLink plane x (y.map (·.val))) := rfl

theorem exec_retransmit (l : List (Fin 64 × Fin 3 × BitVec 32)) :
    exec (.retransmit l) s = s.onBay (fun b => b.retransmit (l.map (fun a => (a.1.val, a.2.1.val, a.2.2.toNat)))) := rfl

/-- Sixteen frames of source 1 in class 1 wait: their acknowledgement goes out (R414). -/
theorem exec_ackSend_of_sixteen (h : s.bay.weave.acks = [(65, 16, s.bay.now)]) :
    exec .ackSend s = s.onBay (fun b => (b.setWeave { b.weave with acks := [(65, 0, b.now)] }).sendWeave 1 "ACK" [1, 1, (((b.weave.seen.get [] 65).foldl max 0 : Nat) : Int)]) := by
  change execAckSend s = _
  simp [execAckSend, State.onBay, h]

end

section
variable {b : Bay} {u : Unacked}

/-- A frame unacknowledged for 2 ms goes out again (R414). -/
theorem Bay.retransmit_again (h : b.weave.unacked = [u]) (due : 2 * msTicks ≤ b.now - u.sentAt) (few : u.tries < 50) :
    b.retransmit [] = ((b.setWeave { b.weave with unacked := [{ u with sentAt := b.now, tries := u.tries + 1 }] }).bump32 F.WVE_RETX).sendWeave u.dst "AGAIN"
      [(u.cls : Int), (u.dst : Int), (u.seq : Int)] := by
  simp [Bay.retransmit, h, due, few, Nat.not_le.2 few]

/-- After 50 retransmissions the destination is unreachable, and the request that the frame carried ends with error 6 (R414, R427). -/
theorem Bay.retransmit_gives_up {i : Nat} {tag : Int} (h : b.weave.unacked = [u]) (due : 2 * msTicks ≤ b.now - u.sentAt) (many : 50 ≤ u.tries) (hr : u.rim = some (i, tag))
    (ha : b.weave.asked.any (fun q => q.2.1 == i && q.2.2.1 == tag) = true) :
    b.retransmit [] = (b.setWeave { b.weave with unacked := [], asked := b.weave.asked.filter (fun q => !(q.2.1 == i && q.2.2.1 == tag)) }).send (.rim i tag 6 []) := by
  simp only [Bay.retransmit, h, List.any_nil, Bool.not_false, List.filter_cons, due, many, Nat.not_lt.2 many, decide_true, decide_false, Bool.and_true, Bool.and_false,
    Bool.not_true, if_true, Bool.false_eq_true, if_false, List.filter_nil, List.map_nil, List.foldl_nil, List.foldl_cons, hr, Bay.setWeave_weave, ha]
  rfl

/-- An acknowledged frame waits no longer (R414). -/
theorem Bay.retransmit_acked {a : Nat × Nat × Nat} (h : b.weave.unacked = [u]) (hd : a.1 = u.dst) (hc : a.2.1 = u.cls) (hs : u.seq ≤ a.2.2) :
    b.retransmit [a] = b.setWeave { b.weave with unacked := [] } := by
  simp [Bay.retransmit, h, hd, hc, hs]

end

end Sys2Proof.Machine

namespace Sys2Proof

open Sys2Proof.Machine

/-- Settles O32: a link goes down in `Bay.linkLoss` alone, and one frame that waits is acknowledged, sent again or given up. -/
theorem weaveLossAndRetransmission : Obligations.WeaveLossAndRetransmission := by
  unfold Obligations.WeaveLossAndRetransmission
  intro s
  refine ⟨?timeout, ?alive, ?linkDown, ?known, ?ack, ?again, ?givesUp, ?acked⟩
  case timeout =>
    intro p up _ silent
    apply completes_onBay (exec_linkTimeout p)
    rw [if_pos up, if_pos (by simp [silent])]
    exact Bay.linkLoss_leaves _ _ _
  case alive =>
    intro p up heard
    apply completes_onBay (exec_linkTimeout p)
    rw [if_pos up, if_neg (by simpa using heard)]
  case linkDown =>
    intro plane x y r h0 none_ repair
    apply completes_onBay (exec_linkDown plane x (some y))
    rw [if_neg h0, Option.map_some, Bay.failLink_of_first none_ repair]
    refine ⟨by simp [Bay.putRoutes_weave], ?count, fun w hw => ?entries⟩
    case count => simp [Bay.rd_bump32]
    case entries =>
      have apart : rtKey plane w ≠ F.EVT_STAT_LOST ∧ rtKey plane w ≠ F.WVE_REPAIR := by
        constructor <;> intro e <;> rcases rtKey_grp plane w with h | h <;> rw [e] at h <;> cases h
      rw [Bay.note_rd _ _ apart.1, Bay.rd_bump32_of_ne _ apart.2, Bay.putRoutes_rtKey _ _ _ hw]
  case known =>
    intro plane x y h
    apply completes_onBay (exec_linkDown plane x y)
    rw [Bay.failLink_of_known h, ite_self]
  case ack =>
    intro h
    apply completes_onBay (exec_ackSend_of_sixteen h)
    exact ⟨rfl, rfl, fun k _ => Bay.sendWeave_rd ..⟩
  case again =>
    intro u h due few
    apply completes_onBay (exec_retransmit [])
    rw [List.map_nil, Bay.retransmit_again h due few]
    refine ⟨rfl, by simp [Bay.rd_bump32], by simp, fun k hk => ?_⟩
    simp at hk
    simp [hk]
  case givesUp =>
    intro u i tag h due many hr ha
    apply completes_onBay (exec_retransmit [])
    rw [List.map_nil, Bay.retransmit_gives_up h due many hr ha]
    exact ⟨rfl, rfl, fun k _ => rfl⟩
  case acked =>
    intro u a h hd hc hs
    apply completes_onBay (exec_retransmit [a])
    rw [List.map_singleton, Bay.retransmit_acked h hd hc hs]
    exact ⟨rfl, rfl, fun k _ => rfl⟩

end Sys2Proof
end

section
/-! PROOFS. Discovery, announcements, binding and routing tables (R415 to R417). -/

namespace Sys2Proof.Machine

theorem Bay.foldl_keeps {α β : Type} (g : Bay → β) {f : Bay → α → Bay} (h : ∀ b x, g (f b x) = g b) (l : List α) (b : Bay) : g (l.foldl f b) = g b := by
  induction l generalizing b with
  | nil => rfl
  | cons x l ih => exact (ih _).trans (h b x)

/-- A stake that may originate sends its frame under the next SEQ of its class (R412, R416, R471). -/
theorem Bay.originate_out {b : Bay} {kind : String} (hb : b.bound = true ∨ kind = "ANNOUNCE") (hk : kind ∉ ["EVENT", "HEARTBEAT", "TIME"]) (cls dst : Nat) (words : List Int)
    (rim : Option (Nat × Int)) :
    (b.originate kind cls dst words rim).out = b.out ++ [.weave kind ([(cls : Int), (dst : Int), (b.weave.txSeq.getD cls 0 : Int)] ++ words)] := by
  simp only [List.mem_cons, List.not_mem_nil, or_false, not_or] at hk
  obtain ⟨event, heartbeat, time⟩ := hk
  have may : ((!b.bound && kind != "ANNOUNCE") || (b.mode == Mode.quarantine && (kind == "EVENT" || kind == "HEARTBEAT" || kind == "TIME"))) = false := by
    obtain bound | announce := hb
    · simp [bound, event, heartbeat, time]
    · simp [announce]
  unfold Bay.originate
  rw [may]
  rfl

section
variable {s : State}

theorem exec_discover : exec .discover s = s.onBay (fun b => b.gated F.WVE_CTL_DISCOVER (fun b =>
    if b.activeRim && !b.flag F.WVE_STAT_DISC_BUSY then b.discover else b.refuse F.WVE_CTL_DISCOVER 4)) := rfl

/-- What PROBE asks for: the stake's serial number, its stored address and the peers at its ports (R415). -/
def Bay.announcement (b : Bay) : List Int :=
  [b.rd F.BAY_SERIAL, (b.weave.addr.getD 0xFF : Nat)] ++ (List.range 6).map (fun p => if b.linkUp p then (b.portOf p).peer else 0)

theorem exec_probe_of_powered (h0 : s.bay.mode ≠ 0) : exec .probe s = s.onBay (fun b => b.originate "ANNOUNCE" 0 0xFF b.announcement none) :=
  congrArg Host.Outcome.next (congrArg (fun b => ({ s with bay := b } : State)) (if_neg h0))

theorem exec_announce (ser : BitVec 64) (stored : Option (Fin 64)) (l : List PortPeer) :
    exec (.announce ser stored l) s = s.onBay (fun b => b.announce ser.toNat (stored.map (·.val)) l) := rfl

theorem exec_bind_of_powered (a : Fin 64) (h0 : s.bay.mode ≠ 0) : exec (.bind a) s = s.onBay (fun b =>
    (b.setWeave { b.weave with addr := some a.val, newAddr := some a.val }).sendWeave (b.rdN F.WVE_STAT_RIM_NODE) "BIND_ACK" [b.rd F.BAY_SERIAL, (a.val : Int)]) :=
  congrArg Host.Outcome.next (congrArg (fun b => ({ s with bay := b } : State)) (if_neg h0))

theorem exec_bindAck (a : Fin 64) : exec (.bindAck a) s = s.onBay (fun b =>
    if b.activeRim && b.weave.waitAck.contains a.val then
      (b.setWeave { b.weave with waitAck := b.weave.waitAck.filter (· != a.val) }).onlyIf (b.weave.waitAck.filter (· != a.val)).isEmpty Bay.sendTables
    else b) := rfl

/-- A repair table as it comes, as the stake keeps it (R417). -/
def RepairIn.kept (x : RepairIn) : Repair := ⟨x.plane.val, x.a.val, x.b.map (·.val), x.entries.map (·.toNat)⟩

theorem exec_routingTables_of_powered (ta tb : List (BitVec 16)) (rep : List RepairIn) (h0 : s.bay.mode ≠ 0) :
    exec (.routingTables ta tb rep) s = s.onBay (fun b =>
      (b.setWeave { b.weave with newTables := some (ta.map (·.toNat), tb.map (·.toNat), rep.map RepairIn.kept) }).originate "TABLES_ACK" 1 (b.rdN F.WVE_STAT_RIM_NODE) [] none) :=
  congrArg Host.Outcome.next (congrArg (fun b => ({ s with bay := b } : State)) (if_neg h0))

theorem exec_unbind (a : Fin 64) : exec (.unbind a) s = s.onBay (fun b => b.unbind a) := rfl

end

section
variable {b : Bay} {ser : Int}

/-- A bound serial number keeps its address (R416). -/
theorem Bay.bindSerial_of_bound {a : Nat} (h : b.boundTo ser = some a) (stored : Option Nat) : b.bindSerial ser stored = (b, some a) := by
  simp only [Bay.bindSerial, h]

/-- A stored address that is free is bound (R416). -/
theorem Bay.bindSerial_of_stored {a : Nat} (h : b.boundTo ser = none) (free : b.flag (F.BIND_BOUND a) = false) :
    b.bindSerial ser (some a) = ((b.wr (F.BIND_SER a) ser).setFlag (F.BIND_BOUND a) true, some a) := by
  have kept : Option.filter (fun a => !b.flag (F.BIND_BOUND a)) (some a) = some a := by simp [Option.filter, free]
  simp only [Bay.bindSerial, h, kept]

/-- The links that an announcement names stand for those its stake had (R415). -/
def Bay.announced (b : Bay) (ser : Int) (l : List PortPeer) : Bay :=
  b.setWeave { b.weave with links := b.weave.links.filter (fun l => l.serial != ser) ++ l.map (fun p => (⟨ser, p.plane.val, p.port.val, (p.peer.toNat : Int)⟩ : LinkEnd)) }

@[simp] theorem Bay.announced_rd (b : Bay) (ser : Int) (l : List PortPeer) (k : Key) : (b.announced ser l).rd k = b.rd k := rfl

/-- What the rim of a running discovery does with an announcement that it binds (R415, R416). -/
theorem Bay.announce_of_bound {stored : Option Nat} {l : List PortPeer} {b' : Bay} {a : Nat} (rim : b.activeRim = true) (busy : b.flag F.WVE_STAT_DISC_BUSY = true)
    (h : (b.announced ser l).bindSerial ser stored = (b', some a)) :
    b.announce ser stored l =
      (b'.setWeave { b'.weave with waitAck := b'.weave.waitAck.filter (· != a) ++ [a] }).originate "BIND" 0 0xFF [ser, (a : Int)] none := by
  unfold Bay.announced at h
  simp only [Bay.announce, rim, busy, Bool.not_true, Bool.or_self, Bool.false_eq_true, if_false, h]

/-- The tables go to every bound stake but this one (R417). -/
def Bay.tableTo (b : Bay) (f : Nat → List Int) (a : Nat) : Bay := if b.bound && a = b.node then b else b.originate "TABLES" 1 a (f a) none

theorem Bay.tableTo_waitAck (b : Bay) (f : Nat → List Int) (a : Nat) : (b.tableTo f a).weave.waitAck = b.weave.waitAck := by
  unfold Bay.tableTo
  split
  · rfl
  · exact Bay.originate_keeps _ _ _ _ _ _ (fun _ _ _ _ => rfl)

/-- The tables are sent and kept for the next frame edge, and nothing is waited for that was not before (R417). -/
theorem Bay.sendTables_leaves (b : Bay) : b.sendTables.weave.newTables.isSome = true ∧ b.sendTables.weave.waitAck = b.weave.waitAck := by
  have sent (f : Nat → List Int) (l : List Nat) : (l.foldl (fun b a => b.tableTo f a) b).weave.waitAck = b.weave.waitAck :=
    Bay.foldl_keeps (fun b => b.weave.waitAck) (fun b => b.tableTo_waitAck f) l b
  unfold Bay.sendTables
  dsimp only [Bay.setWeave_weave, Bay.sendWeave_weave]
  exact ⟨rfl, sent _ _⟩

end

end Sys2Proof.Machine

namespace Sys2Proof

open Sys2Proof.Machine

/-- Settles O33: each message is one change of the Weave and one frame that goes out. -/
theorem weaveDiscoveryAndBinding : Obligations.WeaveDiscoveryAndBinding := by
  unfold Obligations.WeaveDiscoveryAndBinding
  intro s
  refine ⟨?discover, ?discoverRefused, ?probe, ?announceBound, ?announceStored, ?bind, ?ackOne, ?ackLast, ?tables, ?unbind⟩
  case discover =>
    intro hg rim idle bound
    apply completes_onBay exec_discover
    rw [Bay.gated_open hg, rim, idle]
    simp only [Bool.not_false, Bool.and_self, if_true, Bay.discover, Bay.bindSerial_of_bound bound]
    refine ⟨by simp, rfl, rfl, rfl, by simp, fun k hk => ?_⟩
    simp at hk
    simp [hk]
  case discoverRefused =>
    intro hg rim
    apply completes_onBay exec_discover
    rw [Bay.gated_open hg, rim]
    rfl
  case probe =>
    intro h0
    apply completes_onBay (exec_probe_of_powered h0)
    refine ⟨⟨(s.bay.weave.txSeq.getD 0 0 : Int) :: s.bay.announcement, ?_⟩, fun k _ => Bay.originate_rd ..⟩
    rw [Bay.originate_out (.inr rfl) (by decide)]
    exact List.mem_append_right _ (List.mem_singleton.2 rfl)
  case announceBound =>
    intro ser l rim busy bound known
    have bindSerial : (s.bay.announced (ser.toNat : Int) l).bindSerial (ser.toNat : Int) none = (s.bay.announced (ser.toNat : Int) l, some 7) :=
      Bay.bindSerial_of_bound (b := s.bay.announced (ser.toNat : Int) l) known none
    apply completes_onBay (exec_announce ser none l)
    rw [Option.map_none, Bay.announce_of_bound rim busy bindSerial]
    refine ⟨?wait, ⟨(s.bay.weave.txSeq.getD 0 0 : Int), ?sent⟩, fun p hp => ?link, fun k _ => by simp⟩
    case wait =>
      rw [Bay.originate_keeps _ _ _ _ _ _ (g := Weave.waitAck) (fun _ _ _ _ => rfl)]
      simp
    case sent =>
      rw [Bay.originate_out (.inl (by exact bound)) (by decide)]
      exact List.mem_append_right _ (List.mem_singleton.2 rfl)
    case link =>
      rw [Bay.originate_keeps _ _ _ _ _ _ (g := Weave.links) (fun _ _ _ _ => rfl)]
      exact List.mem_append_right _ (List.mem_map.2 ⟨p, hp, rfl⟩)
  case announceStored =>
    intro ser a rim busy unknown free
    have bindSerial := Bay.bindSerial_of_stored (b := s.bay.announced (ser.toNat : Int) []) (ser := (ser.toNat : Int)) (a := a) unknown free
    apply completes_onBay (exec_announce ser (some a) [])
    rw [Option.map_some, Bay.announce_of_bound rim busy bindSerial]
    refine ⟨by simp, by simp, ?address, ?regs⟩
    case address =>
      rw [Bay.originate_keeps _ _ _ _ _ _ (g := Weave.waitAck) (fun _ _ _ _ => rfl)]
      simp
    case regs =>
      intro k hk
      simp at hk
      simp [hk]
  case bind =>
    intro a h0
    apply completes_onBay (exec_bind_of_powered a h0)
    exact ⟨rfl, rfl, rfl, fun k _ => by simp⟩
  case ackOne =>
    intro a c rim ne wait
    apply completes_onBay (exec_bindAck a)
    have left : [a.val, c.val].filter (· != a.val) = [c.val] := by simp [Fin.val_ne_of_ne ne.symm]
    simp only [rim, wait, left, List.contains_cons, beq_self_eq_true, Bool.true_or, Bool.and_self, if_true, List.isEmpty_cons, Bay.onlyIf, Bool.false_eq_true, if_false]
    exact ⟨rfl, rfl, fun k _ => rfl⟩
  case ackLast =>
    intro a rim wait
    apply completes_onBay (exec_bindAck a)
    have left : [a.val].filter (· != a.val) = [] := by simp
    simp only [rim, wait, left, List.contains_cons, beq_self_eq_true, Bool.true_or, Bool.and_self, if_true, List.isEmpty_nil, Bay.onlyIf]
    obtain ⟨tables, waits⟩ := Bay.sendTables_leaves (s.bay.setWeave { s.bay.weave with waitAck := [] })
    exact ⟨waits, tables, fun k _ => by simp⟩
  case tables =>
    intro ta tb rep h0
    apply completes_onBay (exec_routingTables_of_powered ta tb rep h0)
    refine ⟨⟨rep.map RepairIn.kept, ?_, by simp⟩, fun k _ => by simp⟩
    exact Bay.originate_keeps _ _ _ _ _ _ (g := Weave.newTables) (fun _ _ _ _ => rfl)
  case unbind =>
    intro a hg rim
    apply completes_onBay (exec_unbind a)
    rw [Bay.unbind, Bay.gated_open hg, if_pos rim]
    refine ⟨by simp, by simp, fun k hk => ?_⟩
    simp at hk
    simp [hk]

end Sys2Proof
end

section
/-! PROOFS. A time mark behind entries that are due (R397). -/

namespace Sys2Proof.Machine

theorem exec_timeMark (s : State) : exec .timeMark s = s.onBay Bay.timeMark := rfl

/-- While an entry is due and not released, no time mark goes out (R397). -/
theorem Bay.timeMark_of_due {b : Bay} {e : EvEntry} (he : e ∈ b.log) (hr : e.released = false) (ht : e.time + 80 * usTicks ≤ b.now) :
    b.timeMark = b := by
  have due : b.log.any (fun e => !e.released && e.time + 80 * usTicks ≤ b.now) = true :=
    List.any_eq_true.2 ⟨e, he, by simp [hr, ht]⟩
  rw [Bay.timeMark, due, Bool.or_true, if_pos rfl]

end Sys2Proof.Machine

namespace Sys2Proof

open Sys2Proof.Machine

/-- With an entry that is due the row leaves the bay as it is (log entry 58). -/
theorem completes_timeMark_of_due {s : State} {e : EvEntry} (he : e ∈ s.bay.log) (hr : e.released = false)
    (ht : e.time + 80 * usTicks ≤ s.bay.now) : completes .timeMark s (· = s.bay) :=
  completes_onBay (exec_timeMark s) (Bay.timeMark_of_due he hr ht)

/-- Refutes O26: its clause on TIME_MARK (R397) asks only that nothing was sent for 10 ms and that stream 68 has room, where a time mark also waits for every entry that is due, so that none sent later has an earlier TIME. The log below holds an entry of bay time 0 that EVENT_RELEASE has not released by 10 ms, and no mark goes out. -/
theorem not_eventLogReadsAndBayTime : ¬ Obligations.EventLogReadsAndBayTime := by
  unfold Obligations.EventLogReadsAndBayTime
  intro h
  let e : EvEntry := ⟨0, 0, 0, 0, 0, 0, false⟩
  let s : State := { bay := { now := 10 * msTicks, log := [e] } }
  obtain ⟨mark, -⟩ := h s
  obtain ⟨b, ⟨sent, -⟩, same⟩ := completes_both (mark (by decide) (by decide))
    (completes_timeMark_of_due (s := s) (e := e) List.mem_cons_self rfl (by decide))
  rw [same] at sent
  exact absurd (congrArg List.length sent) (by simp)

end Sys2Proof
end

section
/-! PROOFS. The loss of a strobe that a slot no longer uses (R38). -/

namespace Sys2Proof.Machine

theorem exec_strobeMissing (n : Fin 6) (s : State) : exec (.strobeMissing n) s = s.onBay (fun b =>
    if b.slotFitted n && (b.slotOf n).strobeNow = max 1 (b.slotOf n).holder then
      b.setSlot n { b.slotOf n with strobe := 3 - (b.slotOf n).strobeNow, strobeMark := true }
    else b) := rfl

end Sys2Proof.Machine

namespace Sys2Proof

open Sys2Proof.Machine

/-- A slot that does not sample on its holder's strobe does not miss it (R38, log entry 58). -/
theorem completes_strobeMissing_of_unused {s : State} {n : Fin 6} (h : (s.bay.slotOf n).strobeNow ≠ max 1 (s.bay.slotOf n).holder) :
    completes (.strobeMissing n) s (· = s.bay) := by
  apply completes_onBay (exec_strobeMissing n s)
  simp [h]

/-- Refutes O42: its clause on STROBE_MISSING (R38) asks only that the slot samples on the strobe of CA, where the row is the loss of the holder's strobe. Slot S0 below is held by CB and has changed to the strobe of CA when that of CB went missing: it uses the holder's strobe no more, so the row has no effect (log entry 58). -/
theorem not_resyncSwapStrobesAndRepair : ¬ Obligations.ResyncSwapStrobesAndRepair := by
  unfold Obligations.ResyncSwapStrobesAndRepair
  intro h
  let s : State := { bay := { slotv := [(0, { holder := 2, strobe := 1 })] } }
  obtain ⟨-, -, -, -, -, -, missing, -⟩ := h s
  obtain ⟨b, ⟨changed, -⟩, same⟩ := completes_both (missing 0 (by decide) (by decide))
    (completes_strobeMissing_of_unused (s := s) (n := 0) (by decide))
  rw [same] at changed
  exact absurd changed (by decide)

end Sys2Proof
end

section
/-! PROOFS. What the operations of a channel leave of the slots' views and of the wales' hidden state. -/

namespace Sys2Proof.Machine

/-- The views of the slots and the hidden state of the wales stand. -/
def keepsUnits (b b' : Bay) : Prop := b'.slotv = b.slotv ∧ b'.wale = b.wale

section
variable {b b' b'' : Bay}

theorem keepsUnits_refl (b : Bay) : keepsUnits b b := ⟨rfl, rfl⟩

theorem keepsUnits.trans (h : keepsUnits b b') (h' : keepsUnits b' b'') : keepsUnits b b'' := ⟨h'.1.trans h.1, h'.2.trans h.2⟩

theorem keepsUnits.slotOf (h : keepsUnits b b') (n : Nat) : b'.slotOf n = b.slotOf n := by rw [Bay.slotOf, h.1, Bay.slotOf]

theorem keepsUnits.waleSt (h : keepsUnits b b') (n : Nat) : b'.waleSt n = b.waleSt n := by rw [Bay.waleSt, h.2, Bay.waleSt]

theorem keepsUnits_each {f : Bay → Nat → Bay} (h : ∀ b n, keepsUnits b (f b n)) (b : Bay) (l : List Nat) : keepsUnits b (b.each l f) :=
  ⟨Bay.each_keeps Bay.slotv f (fun b n => (h b n).1) b l, Bay.each_keeps Bay.wale f (fun b n => (h b n).2) b l⟩

end

section
variable (b : Bay) (c : Nat)

theorem Bay.raiseD_keepsUnits (src : Nat) (detail : Int) : keepsUnits b (b.raiseD src detail) := by simp [keepsUnits]

theorem Bay.putEntry_keepsUnits (e : RecEntry) : keepsUnits b (b.putEntry c e) := by
  simp only [Bay.putEntry, Bay.ringStat, Bay.dropEntry]
  repeat' split
  all_goals simp [keepsUnits]

theorem Bay.queueRecord_keepsUnits (r : FramRec) : keepsUnits b (b.queueRecord c r) := by
  simp only [Bay.queueRecord]
  split <;> simp [keepsUnits]

theorem Bay.chanFault_keepsUnits (cause detail : Nat) : keepsUnits b (b.chanFault c cause detail) := by
  simp only [Bay.chanFault]
  refine keepsUnits.trans ?_ (Bay.putEntry_keepsUnits _ _ _)
  refine keepsUnits.trans (keepsUnits.trans ?_ (Bay.queueRecord_keepsUnits _ _ _)) (Bay.raiseD_keepsUnits _ _ _)
  split <;> simp [keepsUnits]

theorem Bay.endSweepEarly_keepsUnits (code : Int) : keepsUnits b (b.endSweepEarly c code) := by
  have entry (b : Bay) (e : RecEntry) := Bay.putEntry_keepsUnits b c e
  simp only [keepsUnits] at entry
  simp only [Bay.endSweepEarly, Bay.sendEvBit]
  repeat' split
  all_goals simp [keepsUnits, entry]

theorem Bay.hold_keepsUnits (cause : Nat) : keepsUnits b (b.hold c cause) := by
  have entry (b : Bay) (e : RecEntry) := Bay.putEntry_keepsUnits b c e
  have sweep (b : Bay) (code : Int) := Bay.endSweepEarly_keepsUnits b c code
  simp only [keepsUnits] at entry sweep
  simp only [Bay.hold, Bay.sendEvBit, Bay.recEvent, Bay.markInterval, Bay.endDonation, Bay.syncMode]
  repeat' split
  all_goals simp [keepsUnits, entry, sweep]

theorem Bay.stageRamp_keepsUnits (ms : Int) : keepsUnits b (b.stageRamp c ms) := by
  simp only [Bay.stageRamp]
  split <;> simp [keepsUnits]

theorem Bay.refreshBorder_keepsUnits : keepsUnits b (b.refreshBorder c) := by
  simp only [Bay.refreshBorder]
  repeat' split
  all_goals simp [keepsUnits]

theorem Bay.openSwitch_keepsUnits (stage : Int) : keepsUnits b (b.openSwitch c stage) :=
  keepsUnits.trans ⟨rfl, rfl⟩ (Bay.refreshBorder_keepsUnits _ c)

theorem Bay.safeOffChan_keepsUnits : keepsUnits b (b.safeOffChan c) := by
  simp only [Bay.safeOffChan]
  refine keepsUnits.trans (b' := b.allLegs c .off) ⟨rfl, rfl⟩ ?_
  split
  · refine keepsUnits.trans ?_ (Bay.hold_keepsUnits _ c 12)
    refine keepsUnits.trans ?_ (Bay.endSweepEarly_keepsUnits _ c 6)
    refine keepsUnits.trans (keepsUnits.trans ?_ ⟨rfl, rfl⟩) (Bay.openSwitch_keepsUnits _ c _)
    split
    · exact Bay.chanFault_keepsUnits ..
    · exact keepsUnits_refl _
  · exact keepsUnits_refl _

theorem Bay.waleRecord_keepsUnits (n cause : Nat) : keepsUnits b (b.waleRecord n cause) := Bay.queueRecord_keepsUnits ..

end

end Sys2Proof.Machine
end

section
/-! PROOFS. Latches and extraction locks (R477 to R480). -/

namespace Sys2Proof.Machine

section
variable (s : State) (n : Fin 8)

theorem exec_latchRelease : exec (.latchRelease n) s = execLatchRelease n s := rfl
theorem exec_extractionLockOpen : exec (.extractionLockOpen n) s = execExtractionLockOpen n s := rfl
theorem exec_latchLocked : exec (.latchLocked n) s = execLatchLocked n s := rfl
theorem exec_lockReclose : exec (.lockReclose n) s = execLockReclose n s := rfl

end

section
variable (b : Bay) (n : Nat) (what : Int)

@[simp] theorem Bay.slotEvent_latchOf (m : Nat) : (b.slotEvent n what).latchOf m = b.latchOf m := by simp [Bay.slotEvent]
@[simp] theorem Bay.slotEvent_safe : (b.slotEvent n what).safe = b.safe := by simp [Bay.slotEvent]

theorem Bay.slotEvent_keepsRegs : keepsRegs b (b.slotEvent n what) [F.EVT_STAT_LOST] := by
  intro k hk
  simp at hk
  simp [Bay.slotEvent, hk]

theorem Bay.setLatch_keepsRegs (x : Latch) (l : List Key) : keepsRegs b (b.setLatch n x) l := fun _ _ => rfl

/-- A latch that is written around an event leaves the registers but the count of lost events. -/
theorem Bay.setLatch_slotEvent_keepsRegs (x : Latch) : keepsRegs b ((b.slotEvent n what).setLatch n x) [F.EVT_STAT_LOST] :=
  keepsRegs_trans (Bay.slotEvent_keepsRegs _ _ _) (Bay.setLatch_keepsRegs _ _ _ _)

end

/-! ## The latch at RELEASE (R477) -/

/-- The latch has come to RELEASE with the lock shut: its request stands (R477). -/
def Bay.askRelease (b : Bay) (n : Nat) : Bay :=
  (b.slotEvent n 3).setLatch n { b.latchOf n with released := true, req := true, refused := false, swapAsked := false, hoAsked := false }

section
variable {b : Bay} {n : Nat}

theorem exec_latchRelease_of_shut {s : State} {n : Fin 8} (hf : s.bay.slotFilledBy n = true) (hr : (s.bay.latchOf n).released = false)
    (ho : (s.bay.latchOf n).isOpen = false) : exec (.latchRelease n) s = s.onBay (fun b => (b.askRelease n).startRelease n) := by
  simp [exec_latchRelease, execLatchRelease, State.onBay, hf, hr, ho, Bay.onlyIf, Bay.askRelease]

theorem Bay.askRelease_keepsRegs : keepsRegs b (b.askRelease n) [F.EVT_STAT_LOST] := Bay.setLatch_slotEvent_keepsRegs _ _ _ _

theorem Bay.startRelease_meter : b.startRelease 7 = b.dropMeterEntry := rfl

theorem Bay.startRelease_of_drained (h2 : 2 ≤ n) (h6 : n < 6) (hs : b.rd (F.SEC_STAT_STATE (n - 2)) = 2) : b.startRelease n = b := by
  simp [Bay.startRelease, h6, hs, Nat.not_lt.2 h2]

theorem Bay.startRelease_of_running (h2 : 2 ≤ n) (h6 : n < 6) (hs : b.rd (F.SEC_STAT_STATE (n - 2)) = 0) : b.startRelease n = b.refuseRelease n := by
  simp [Bay.startRelease, h6, hs, Nat.not_lt.2 h2]

theorem Bay.askRelease_secState : (b.askRelease n).rd (F.SEC_STAT_STATE (n - 2)) = b.rd (F.SEC_STAT_STATE (n - 2)) :=
  Bay.askRelease_keepsRegs _ (by simp)

theorem Bay.refuseRelease_leaves : ((b.refuseRelease n).latchOf n).req = false ∧ ((b.refuseRelease n).latchOf n).refused = true ∧
    keepsRegs b (b.refuseRelease n) [F.EVT_STAT_LOST] := by
  refine ⟨by simp [Bay.refuseRelease], by simp [Bay.refuseRelease], ?_⟩
  exact keepsRegs_trans (Bay.setLatch_keepsRegs b n _ _) (Bay.slotEvent_keepsRegs _ _ _)

end

/-! ## The latch back at LOCKED (R477, R497) -/

/-- The latch is back: an event without a stated happening, and the request is withdrawn (log entry 49). -/
def Bay.latchBack (b : Bay) (n : Nat) : Bay :=
  (b.free.2.slotEvent n (b.free.1 % 256)).setLatch n
    { b.latchOf n with released := false, req := false, refused := false, swapAsked := false, hoAsked := false }

section
variable {b : Bay} {n : Nat}

theorem Bay.latchBack_keepsRegs : keepsRegs b (b.latchBack n) [F.EVT_STAT_LOST] :=
  keepsRegs_trans (b := b) (b' := b.free.2) (fun _ _ => rfl) (Bay.setLatch_slotEvent_keepsRegs _ _ _ _)

theorem Bay.latchBack_latchOf : (b.latchBack n).latchOf n =
    { b.latchOf n with released := false, req := false, refused := false, swapAsked := false, hoAsked := false } := by
  simp [Bay.latchBack]

end

/-- What the return of a latch takes back of its request: a SWAP that waits, a handover that is not accepted, the stop of the axis converter (R477; log entry 49). -/
def Bay.withdraw (b : Bay) (n : Nat) (l : Latch) : Bay :=
  let b := b.onlyIf (l.req && l.swapAsked && !l.hoAsked) (fun b => b.setRed { b.red with swap := false })
  let b := match b.safe.handover with
    | some h => b.onlyIf (l.req && h.latch && !h.accepted) (fun b => (b.setSafe { b.safe with handover := none }).setFlag F.SAFE_STAT_HANDOVER false)
    | none => b
  b.onlyIf l.req (fun b => b.afterRelease n)

section
variable {b : Bay} {n : Nat} {l : Latch}

theorem exec_latchLocked_of_released {s : State} {n : Fin 8} (hr : (s.bay.latchOf n).released = true) :
    exec (.latchLocked n) s = s.onBay (fun b => (b.latchBack n).withdraw n (b.latchOf n)) := by
  simp only [exec_latchLocked, execLatchLocked, State.onBay, hr, Bool.not_true, Bool.false_eq_true, if_false]
  rfl

/-- Where no request is pending there is nothing to take back. -/
theorem Bay.withdraw_of_idle (hq : l.req = false) : b.withdraw n l = b := by
  simp only [Bay.withdraw, hq, Bool.false_and, Bay.onlyIf, Bool.false_eq_true, if_false]
  split <;> rfl

/-- A request of an EHC-2 that waits for its SWAP is withdrawn with the SWAP. -/
theorem Bay.withdraw_of_swap (hn : n < 2) (hq : l.req = true) (hw : l.swapAsked = true) (hh : l.hoAsked = false) (hs : b.safe.handover = none) :
    b.withdraw n l = b.setRed { b.red with swap := false } := by
  have notX : (n == 6) = false := by simp; omega
  have apart : (b.setRed { b.red with swap := false }).safe.handover = none := hs
  simp only [Bay.withdraw, hq, hw, hh, Bool.and_true, Bool.not_false, Bay.onlyIf, if_true, apart, Bay.afterRelease, notX, Bool.false_and,
    Bool.false_eq_true, if_false]

end

/-! ## The extraction lock (R477, R478, R480) -/

theorem exec_extractionLockOpen_of_done {s : State} {n : Fin 8} (hf : s.bay.slotFilledBy n = true) (hd : s.bay.releaseDone n = true) :
    exec (.extractionLockOpen n) s =
      s.onBay (fun b => (b.setLatch n { b.latchOf n with req := false, isOpen := true, openAt := b.now }).slotEvent n 4) := by
  simp [exec_extractionLockOpen, execExtractionLockOpen, State.onBay, hf, hd]

theorem exec_lockReclose_of_due {s : State} {n : Fin 8} (hn : n.val ≠ 6) (ho : (s.bay.latchOf n).isOpen = true) (hk : (s.bay.latchOf n).byKey = false)
    (hf : s.bay.slotFilledBy n = true) (ht : (s.bay.latchOf n).openAt + 60 * secTicks ≤ s.bay.now) :
    exec (.lockReclose n) s = s.onBay (fun b => b.setLatch n { b.latchOf n with isOpen := false }) := by
  simp [exec_lockReclose, execLockReclose, State.onBay, ho, hk, hf, ht, Bay.afterRelease, Bay.onlyIf, hn]

/-- The lock yields to the key (R480). -/
def Bay.keyOpen (b : Bay) (n : Nat) : Bay :=
  (b.setLatch n { b.latchOf n with isOpen := true, openAt := b.now, byKey := true }).onlyIf (b.mode != 0) (fun b => b.slotEvent n 6)

theorem exec_serviceKeyOpen (s : State) (n : Fin 8) : exec (.serviceKeyOpen n) s = s.onBay (fun b => b.keyOpen n) := rfl

theorem Bay.keyOpen_leaves (b : Bay) (n : Nat) : ((b.keyOpen n).latchOf n).isOpen = true ∧ ((b.keyOpen n).latchOf n).byKey = true ∧
    ((b.keyOpen n).latchOf n).openAt = b.now ∧ keepsRegs b (b.keyOpen n) [F.EVT_STAT_LOST] := by
  cases hm : b.mode != 0
  · simp [Bay.keyOpen, Bay.onlyIf, hm, Bay.setLatch_keepsRegs]
  · simp only [Bay.keyOpen, Bay.onlyIf, hm, if_true]
    exact ⟨by simp, by simp, by simp, keepsRegs_trans (Bay.setLatch_keepsRegs b n _ _) (Bay.slotEvent_keepsRegs _ _ _)⟩

end Sys2Proof.Machine
end

section
/-! PROOFS. Cartridges that leave and come (R17, R127, R305, R481, R513). -/

namespace Sys2Proof.Machine

section
variable (s : State) (n : Fin 8)

theorem exec_cartridgeRemoved : exec (.cartridgeRemoved n) s = execCartridgeRemoved n s := rfl
theorem exec_cartridgeInserted (c : Cartridge) : exec (.cartridgeInserted n c) s = s.onBay (fun b =>
    if b.rd (slotKey n) ≠ 0 then b
    else match cartCode c n with
      | some code => b.insertInto n c code
      | none => b) := rfl

end

/-! ## The slot itself (R403, R478, R481) -/

/-- The fields of BAY.SLOTS stand in one register (R403). -/
@[simp] theorem slotKey_loc_eq (n : Nat) : (slotKey n).loc = (.bay, 12, (slotKey n).lo) := by
  unfold slotKey
  split <;> rfl

/-- The slot's lock and code are new and, while the bay has power, event 249 says why (R478, R481). -/
def Bay.slotNow (b : Bay) (n : Nat) (code what : Int) : Bay :=
  ((b.setLatch n {}).wr (slotKey n) code).onlyIf (b.mode != 0) (fun b => b.slotEvent n what)

section
variable (b : Bay) (n : Nat) (code what : Int)

theorem Bay.slotNow_slotKey : (b.slotNow n code what).rd (slotKey n) = code :=
  (Bay.onlyIf_rd (fun b => by simp [Bay.slotEvent]) _ _).trans (Bay.rd_wr_same ..)

theorem Bay.slotNow_latchOf : (b.slotNow n code what).latchOf n = {} :=
  (Bay.onlyIf_keeps (fun b => b.latchOf n) _ (fun b => Bay.slotEvent_latchOf b n what n) _ _).trans (by simp)

theorem Bay.slotNow_keepsRegs : keepsRegs b (b.slotNow n code what) [slotKey n, F.EVT_STAT_LOST] := by
  intro k hk
  simp at hk
  refine (Bay.onlyIf_rd (fun b => ?_) _ _).trans ?_
  · simp [Bay.slotEvent, hk]
  · simp [hk]

end

section
variable {s : State} {n : Fin 8} (hc : 2 ≤ s.bay.rd (slotKey n)) (ho : (s.bay.latchOf n).isOpen = true)
include hc ho

theorem exec_cartridgeRemoved_of_ehc (hn : n.val < 2) :
    exec (.cartridgeRemoved n) s = .next { s with mem := s.mem.setCart n {}, bay := s.bay.removeFrom n } := by
  have fitted : s.bay.rd (slotKey n) ≠ 0 := by omega
  simp [exec_cartridgeRemoved, execCartridgeRemoved, State.onBay, fitted, ho, hn]

theorem exec_cartridgeRemoved_of_other (hn : ¬ n.val < 2) : exec (.cartridgeRemoved n) s = .next { s with bay := s.bay.removeFrom n } := by
  have fitted : s.bay.rd (slotKey n) ≠ 0 := by omega
  simp [exec_cartridgeRemoved, execCartridgeRemoved, State.onBay, fitted, ho, hn]

end

theorem exec_cartridgeInserted_of_empty {s : State} {n : Fin 8} {c : Cartridge} {code : Int} (he : s.bay.rd (slotKey n) = 0)
    (hc : cartCode c n = some code) : exec (.cartridgeInserted n c) s = s.onBay (fun b => b.insertInto n c code) := by
  simp [exec_cartridgeInserted, State.onBay, he, hc]

section
variable {b : Bay} {n : Nat}

/-- A cartridge that is not blank goes by the rule of its slot (R17). -/
theorem Bay.removeFrom_ehc (hn : n < 2) (hc : 2 ≤ b.rd (slotKey n)) : b.removeFrom n = (b.slotNow n 0 2).removeEhc n (b.latchOf n).byKey := by
  simp [Bay.removeFrom, Bay.slotNow, hn, not_lt.2 hc]

theorem Bay.removeFrom_ehx (hn : n = 6) (hc : 2 ≤ b.rd (slotKey n)) : b.removeFrom n = (b.slotNow n 0 2).removeEhx := by
  subst hn
  simp [Bay.removeFrom, Bay.slotNow, not_lt.2 hc]

theorem Bay.removeFrom_ehm (hn : n = 7) (hc : 2 ≤ b.rd (slotKey n)) : b.removeFrom n = (b.slotNow n 0 2).removeEhm := by
  subst hn
  simp [Bay.removeFrom, Bay.slotNow, not_lt.2 hc]

end

/-! ## A control cartridge leaves (R17, R480) -/

@[simp] theorem Bay.upsettStops_slotKey (b : Bay) (x n : Nat) : (b.upsettStops x).rd (slotKey n) = b.rd (slotKey n) := by
  unfold Bay.upsettStops
  dsimp only
  split
  · simp
  · simp

/-- The claim of a cartridge that leaves drops; one that comes out by key falls silent (R17, R480). -/
def Bay.ehcSilent (b : Bay) (x : Nat) (key : Bool) : Bay :=
  if key then b.goSilent x
  else ((b.setRole x 0).setRed { b.red with silent := b.red.silent.filter (· != x) ++ [x], out := b.red.out.filter (· != x) }).openWin 2 x

/-- The links of its plane go down with it. -/
def Bay.planeDown (b : Bay) (x : Nat) : Bay :=
  b.each ((List.range 6).filter (fun p => portPlane p == x)) (fun b p => (b.setLink p 0).setPort p {})

/-- So do its secure element and its share of the record key. -/
def Bay.trustGone (b : Bay) (x : Nat) : Bay :=
  (b.setTrust { b.trust with rkeyIn := b.trust.rkeyIn.set x false, se := b.trust.se.set x false }).setFlag (seOk x) false

theorem Bay.removeEhc_eq (b : Bay) (x : Nat) (key : Bool) :
    b.removeEhc x key = ((((b.ehcSilent x key).upsettStops x).planeDown x).trustGone x).setFlag (F.MEM_STAT_INIT_DONE x) false := rfl

theorem Bay.removeEhc_slotKey (b : Bay) (x : Nat) (key : Bool) (n : Nat) : (b.removeEhc x key).rd (slotKey n) = b.rd (slotKey n) := by
  have silent : (b.ehcSilent x key).rd (slotKey n) = b.rd (slotKey n) := by cases key <;> simp [Bay.ehcSilent]
  have plane (b : Bay) : (b.planeDown x).rd (slotKey n) = b.rd (slotKey n) := by simp [Bay.planeDown]
  have trust (b : Bay) : (b.trustGone x).rd (slotKey n) = b.rd (slotKey n) := Bay.rd_setFlag_grp _ _ (by simp)
  simp [Bay.removeEhc_eq, silent, plane, trust]

theorem Bay.removeEhc_initDone (b : Bay) (x : Nat) (key : Bool) : (b.removeEhc x key).rd (F.MEM_STAT_INIT_DONE x) = 0 :=
  Bay.rd_setFlag_same ..

/-! ## The EHM-1 leaves (R127) -/

theorem Bay.removeEhm_leaves (b : Bay) : b.removeEhm.rd F.MEAS_STAT_PRESENT = 0 ∧ b.removeEhm.rd F.MEAS_WARM = 0 ∧ b.removeEhm.measSt.cur = none ∧
    b.removeEhm.rd F.BAY_SLOTS_M = b.rd F.BAY_SLOTS_M ∧ ∀ n, b.removeEhm.latchOf n = b.latchOf n := by
  simp [Bay.removeEhm, Bay.dropMeterEntry]

/-! ## The registers of a cartridge that leaves or comes without charge -/

theorem Store.get_filter_of_kept {d : Int} {l : Store} {keep : Key × Int → Bool} {k : Key} (hk : ∀ v, keep (k, v) = true) :
    Store.get d (l.filter keep) k = l.get d k := by
  induction l with
  | nil => rfl
  | cons e l ih =>
    obtain ⟨k', v⟩ := e
    by_cases same : k' = k
    · subst same; simp [hk, Store.get]
    · by_cases kept : keep (k', v) = true <;> simp [kept, Store.get, same, ih]

theorem Bay.rd_filter_of_kept (b : Bay) {keep : Key × Int → Bool} {k : Key} (hk : ∀ v, keep (k, v) = true) :
    ({ b with regs := b.regs.filter keep } : Bay).rd k = b.rd k := Store.get_filter_of_kept hk

/-! ## The EHX-6 leaves or comes (R17, R305, R513) -/

/-- Axis a as a fresh EHX-6 has it. -/
def Bay.freshAxis (st : Int) (b : Bay) (a : Nat) : Bay :=
  let b := { b with regs := b.regs.filter (fun p => !(ehxField p.1 && p.1.i == a)) }
  let b := (((b.setAxis a {}).setEnc a {}).setDriver (64 + a) {}).setLoopAx a { b.loopAxOf a with xd := 0, xq := 0, xs := 0, xf := 0, iqRef := 0, idRef := 0, iqSum := 0 }
  (b.wr (F.AXS_STAT_STATE a) st).brakeNow a true

theorem Bay.freshAxes_eq (b : Bay) (st : Int) : b.freshAxes st = b.each allAxes (Bay.freshAxis st) := rfl

/-- What an axis made fresh leaves alone: the plant, and the registers that another axis or another block holds. -/
theorem Bay.freshAxis_plant (st : Int) (b : Bay) (a : Nat) : (b.freshAxis st a).plant = b.plant := by
  simp only [Bay.freshAxis, Bay.brakeNow]
  split <;> rfl

theorem Bay.freshAxis_rd (st : Int) (b : Bay) {a : Nat} {k : Key} (hk : (ehxField k && k.i == a) = false) (hs : k ≠ F.AXS_STAT_STATE a)
    (hb : k ≠ F.AXS_STAT_BRK_ON a) : (b.freshAxis st a).rd k = b.rd k := by
  have kept : ({ b with regs := b.regs.filter (fun p => !(ehxField p.1 && p.1.i == a)) } : Bay).rd k = b.rd k :=
    Bay.rd_filter_of_kept b (fun _ => by simp [hk])
  rw [← kept]
  simp only [Bay.freshAxis, Bay.brakeNow]
  split <;> simp [hs, hb]

theorem Bay.freshAxis_axState_other (st : Int) (b : Bay) {a n : Nat} (h : n ≠ a) : (b.freshAxis st n).axState a = b.axState a :=
  Bay.freshAxis_rd st b (by simp [Ne.symm h]) (by simp [Ne.symm h]) (by simp)

theorem Bay.freshAxis_axState (st : Int) (b : Bay) (a : Nat) : (b.freshAxis st a).axState a = st := by
  simp only [Bay.freshAxis, Bay.brakeNow, Bay.axState]
  split <;> simp

theorem Bay.freshAxes_axState (b : Bay) (st : Int) {a : Nat} (ha : a ∈ allAxes) : (b.freshAxes st).axState a = st := by
  obtain ⟨b', -, after⟩ := Bay.each_of_mem (g := fun b => b.axState a) (fun b n hn => Bay.freshAxis_axState_other st b hn) b (List.nodup_range) ha
  rw [Bay.freshAxes_eq]
  exact after.trans (Bay.freshAxis_axState st b' a)

theorem Bay.freshAxes_plant (b : Bay) (st : Int) : (b.freshAxes st).plant = b.plant := Bay.each_keeps Bay.plant _ (Bay.freshAxis_plant st) b _

theorem Bay.freshAxes_slotX (b : Bay) (st : Int) : (b.freshAxes st).rd F.BAY_SLOTS_X = b.rd F.BAY_SLOTS_X :=
  Bay.each_rd (fun b a => Bay.freshAxis_rd st b rfl (by simp) (by simp)) b _

theorem Bay.thermGone_axState (b : Bay) (n a : Nat) : (b.thermGone n).axState a = b.axState a := Bay.thermGone_rd b n (by simp)

theorem Bay.thermGone_ehx_plant (b : Bay) : (b.thermGone 4).plant = b.plant := rfl

/-- The bay as the EHX-6 leaves it to its slot: ride-through ends, the axis converter stops, channels are limited (R17). -/
def Bay.ehxStops (b : Bay) : Bay := { (b.rtStop).setPlant { b.plant with axConvOn := false, limit17 := true } with axRec := [] }

theorem Bay.removeEhx_eq (b : Bay) : b.removeEhx = ((b.ehxStops.freshAxes Ax.sto).thermGone 4).setSlot 4 {} := rfl

theorem Bay.ehxStops_slotX (b : Bay) : b.ehxStops.rd F.BAY_SLOTS_X = b.rd F.BAY_SLOTS_X := by simp [Bay.ehxStops]

theorem Bay.removeEhx_plant (b : Bay) : b.removeEhx.plant = { b.plant with axConvOn := false, limit17 := true } := by
  rw [Bay.removeEhx_eq, Bay.setSlot_plant, Bay.thermGone_ehx_plant, Bay.freshAxes_plant]
  rfl

theorem Bay.removeEhx_slotX (b : Bay) : b.removeEhx.rd F.BAY_SLOTS_X = b.rd F.BAY_SLOTS_X := by
  rw [Bay.removeEhx_eq, Bay.setSlot_rd, Bay.thermGone_rd _ _ (by decide), Bay.freshAxes_slotX, Bay.ehxStops_slotX]

theorem Bay.removeEhx_axState (b : Bay) {a : Nat} (ha : a ∈ allAxes) : b.removeEhx.axState a = Ax.sto := by
  rw [Bay.removeEhx_eq, Bay.axState, Bay.setSlot_rd, ← Bay.axState, Bay.thermGone_axState, Bay.freshAxes_axState _ _ ha]

theorem Bay.insertEhx_slotX (b : Bay) : b.insertEhx.rd F.BAY_SLOTS_X = b.rd F.BAY_SLOTS_X := by
  rw [Bay.insertEhx, Bay.setWale_rd, Bay.freshAxes_slotX]

theorem Bay.insertEhx_axState (b : Bay) {a : Nat} (ha : a ∈ allAxes) : b.insertEhx.axState a = Ax.disabled := by
  rw [Bay.insertEhx, Bay.axState, Bay.setWale_rd, ← Bay.axState, Bay.freshAxes_axState _ _ ha]

theorem Bay.insertEhx_waleSt (b : Bay) : b.insertEhx.waleSt 4 = { joined := false, convOn := false, prechT0 := some b.now } := Bay.waleSt_setWale_same ..

/-! ## A section cartridge comes (R98, R513) -/

theorem waleField_slotKey (w n : Nat) : waleField w (slotKey n) = false := by simp [waleField]

/-- The registers that live in the cartridge of wale n read as after reset, and its references are off. -/
def Bay.waleRegsGone (b : Bay) (n : Nat) : Bay := { b.refOff n with regs := b.regs.filter (fun p => !waleField n p.1) }

/-- The stages, drivers and inputs of a wale start anew. -/
def Bay.chansFresh (b : Bay) (n : Nat) : Bay :=
  b.each (waleChans n) (fun b c => ((b.setStage c {}).setDriver c {}).setMeasCh c { openSince := some b.now, switchT := b.now })

/-- A self-calibration in progress ends with the cartridge (R118). -/
def Bay.scalGone (b : Bay) (n : Nat) : Bay :=
  { b with measSt := { b.measSt with
    scalT0 := b.measSt.scalT0.set n none, scalSlots := b.measSt.scalSlots.set n [], zeros := b.measSt.zeros.filter (fun z => waleOf z.2.1 != n) } }

theorem Bay.freshWale_eq (b : Bay) (n : Nat) : b.freshWale n =
    let b := ((b.waleRegsGone n).chansFresh n).scalGone n
    (((b.setFlag (scalBusy n) false).setFlag (scalFail n) false).refOff n).setFram n { fit := (b.framOf n).fit } := rfl

@[simp] theorem Bay.freshWale_slotKey (b : Bay) (w n : Nat) : (b.freshWale w).rd (slotKey n) = b.rd (slotKey n) := by
  have regs (b : Bay) : (b.waleRegsGone w).rd (slotKey n) = b.rd (slotKey n) := Store.get_filter_of_kept (fun _ => by simp [waleField_slotKey])
  have chans (b : Bay) : (b.chansFresh w).rd (slotKey n) = b.rd (slotKey n) :=
    Bay.each_rd (k := slotKey n) (fun b c => by simp) b (waleChans w)
  have scal (b : Bay) : (b.scalGone w).rd (slotKey n) = b.rd (slotKey n) := rfl
  simp [Bay.freshWale_eq, regs, chans, scal]

theorem Bay.safeOffDrop_joined (b : Bay) (w : Nat) : ((b.safeOffDrop w).waleSt w).joined = (b.waleSt w).joined := by
  unfold Bay.safeOffDrop
  split
  · rfl
  · have chans (b : Bay) := keepsUnits_each (fun b c => Bay.safeOffChan_keepsUnits b c) b (waleChans w)
    have record (b : Bay) := (Bay.waleRecord_keepsUnits b w 12).trans (Bay.raiseD_keepsUnits _ (128 + w) 12)
    simp [((record _).trans (chans _)).waleSt]

/-- The wale has come: nothing of the one before is left, and its pre-charge begins (R50, R513). -/
def Bay.ehsFitted (b : Bay) (w next seq : Nat) : Bay :=
  let full := fullBudget (b.convRating w)
  let b := (b.freshWale w).setWale w { joined := false, convOn := false, prechT0 := some b.now, budget := full }
  (b.setFram w { seqNext := seq, next := next, fit := (b.framOf w).fit + 1 }).wr (F.SEC_OVL w) (full / 1000000)

/-- Its stage acts on a safe-off pair that is dropped (R98). -/
def Bay.ehsSafeOff (b : Bay) (w : Nat) : Bay := b.onlyIf (b.mode != 0 && !b.lineOn (1 + w)) (fun b => b.safeOffDrop w)

theorem Bay.insertEhs_eq (b : Bay) (w next seq : Nat) : b.insertEhs w next seq =
    ((((b.ehsFitted w next seq).ehsSafeOff w).wr (F.SEC_STAT_STATE w) 2).wr (F.SEC_FRAM_STAT_NEXT w) next).wr (F.SEC_FRAM_SEQ w) seq := rfl

theorem Bay.ehsSafeOff_joined (b : Bay) (w : Nat) : ((b.ehsSafeOff w).waleSt w).joined = (b.waleSt w).joined :=
  Bay.onlyIf_keeps (fun b => (b.waleSt w).joined) _ (fun b => Bay.safeOffDrop_joined b w) b _

theorem Bay.insertEhs_leaves (b : Bay) (w next seq n : Nat) : (b.insertEhs w next seq).rd (slotKey n) = b.rd (slotKey n) ∧
    (b.insertEhs w next seq).rd (F.SEC_STAT_STATE w) = 2 ∧ (b.insertEhs w next seq).rd (F.SEC_FRAM_STAT_NEXT w) = next ∧
    (b.insertEhs w next seq).rd (F.SEC_FRAM_SEQ w) = seq ∧ ((b.insertEhs w next seq).waleSt w).joined = false := by
  rw [Bay.insertEhs_eq]
  refine ⟨?code, by simp, by simp, by simp, ?joined⟩
  case code =>
    have safeOff (b : Bay) : (b.ehsSafeOff w).rd (slotKey n) = b.rd (slotKey n) := Bay.onlyIf_rd (fun b => by simp) _ _
    simp [safeOff, Bay.ehsFitted]
  case joined =>
    simp [Bay.ehsSafeOff_joined, Bay.ehsFitted]

end Sys2Proof.Machine

namespace Sys2Proof

open Sys2Proof.Machine

/-- Settles O23: each row's guard selects one change of the latch or the lock; what a cartridge takes along or brings leaves the code of its slot. -/
theorem latchesAndCartridges : Obligations.LatchesAndCartridges := by
  unfold Obligations.LatchesAndCartridges
  intro s
  refine ⟨?meter, ?drained, ?running, ?lockOpen, ?back, ?swap, ?reclose, ?key, ?ehmGone, ?ehxGone, ?ehcGone, ?taken, ?blank, ?ehs, ?ehx⟩
  case meter =>
    rintro ⟨n, hn⟩ rfl hf hr ho
    apply completes_onBay (exec_latchRelease_of_shut hf hr ho)
    refine ⟨?released, ?req, rfl, rfl, ?regs⟩
    case released => simp [Bay.startRelease_meter, Bay.askRelease, Bay.dropMeterEntry]
    case req => simp [Bay.startRelease_meter, Bay.askRelease, Bay.dropMeterEntry]
    case regs => exact keepsRegs_trans Bay.askRelease_keepsRegs (fun _ _ => rfl)
  case drained =>
    intro n h2 h6 hf hr ho hs
    apply completes_onBay (exec_latchRelease_of_shut hf hr ho)
    rw [Bay.startRelease_of_drained h2 h6 (Bay.askRelease_secState.trans hs)]
    exact ⟨by simp [Bay.askRelease], by simp [Bay.askRelease], by simp [Bay.askRelease], Bay.askRelease_keepsRegs⟩
  case running =>
    intro n h2 h6 hf hr ho hs
    apply completes_onBay (exec_latchRelease_of_shut hf hr ho)
    rw [Bay.startRelease_of_running h2 h6 (Bay.askRelease_secState.trans hs)]
    obtain ⟨shut, refused, regs⟩ := Bay.refuseRelease_leaves (b := s.bay.askRelease n) (n := n)
    exact ⟨shut, refused, keepsRegs_trans Bay.askRelease_keepsRegs regs⟩
  case lockOpen =>
    intro n hf hd
    apply completes_onBay (exec_extractionLockOpen_of_done hf hd)
    refine ⟨by simp, by simp, by simp, rfl, ?_⟩
    exact keepsRegs_trans (Bay.setLatch_keepsRegs s.bay n _ _) (Bay.slotEvent_keepsRegs _ _ _)
  case back =>
    intro n hr hq
    apply completes_onBay (exec_latchLocked_of_released hr)
    rw [Bay.withdraw_of_idle hq, Bay.latchBack_latchOf]
    exact ⟨rfl, rfl, rfl, Bay.latchBack_keepsRegs⟩
  case swap =>
    intro n hn hr hq hw hh hs
    apply completes_onBay (exec_latchLocked_of_released hr)
    rw [Bay.withdraw_of_swap hn hq hw hh (by simpa [Bay.latchBack, Bay.free] using hs)]
    exact ⟨congrArg Latch.req Bay.latchBack_latchOf, rfl, Bay.latchBack_keepsRegs⟩
  case reclose => exact fun n hn ho hk hf ht => completes_onBay (exec_lockReclose_of_due hn ho hk hf ht) rfl
  case key => exact fun n => completes_onBay (exec_serviceKeyOpen s n) (Bay.keyOpen_leaves s.bay n)
  case ehmGone =>
    intro n hn hc ho
    have key : slotKey n = F.BAY_SLOTS_M := by rw [hn]; rfl
    have fitted : 2 ≤ s.bay.rd (slotKey n) := by rw [key, hc]; decide
    refine ⟨_, exec_cartridgeRemoved_of_other fitted ho (by omega), rfl, rfl, ?_⟩
    dsimp only
    rw [Bay.removeFrom_ehm hn fitted]
    obtain ⟨present, warm, cur, code, latch⟩ := Bay.removeEhm_leaves (s.bay.slotNow n 0 2)
    exact ⟨code.trans (key ▸ Bay.slotNow_slotKey ..), present, warm, cur, (latch n).trans (Bay.slotNow_latchOf ..)⟩
  case ehxGone =>
    intro n hn hc ho
    have key : slotKey n = F.BAY_SLOTS_X := by rw [hn]; rfl
    have fitted : 2 ≤ s.bay.rd (slotKey n) := by rw [key, hc]; decide
    refine ⟨_, exec_cartridgeRemoved_of_other fitted ho (by omega), rfl, rfl, ?_⟩
    dsimp only
    rw [Bay.removeFrom_ehx hn fitted]
    have plant := Bay.removeEhx_plant (s.bay.slotNow n 0 2)
    exact ⟨(Bay.removeEhx_slotX _).trans (key ▸ Bay.slotNow_slotKey ..), congrArg Plant.limit17 plant, congrArg Plant.axConvOn plant,
      fun _ ha => Bay.removeEhx_axState _ ha⟩
  case ehcGone =>
    intro n hn hc ho
    refine ⟨_, exec_cartridgeRemoved_of_ehc hc ho hn, rfl, rfl, ?_⟩
    dsimp only
    rw [Bay.removeFrom_ehc hn hc]
    exact ⟨(Bay.removeEhc_slotKey ..).trans (Bay.slotNow_slotKey ..), Bay.removeEhc_initDone ..⟩
  case taken =>
    intro n c hc
    apply completes_onBay (exec_cartridgeInserted s n c)
    rw [if_pos hc]
  case blank =>
    intro n he
    apply completes_onBay (exec_cartridgeInserted_of_empty he (code := 1) rfl)
    exact ⟨Bay.slotNow_slotKey .., Bay.slotNow_latchOf .., Bay.slotNow_keepsRegs _ _ _ _⟩
  case ehs =>
    intro n sv next seq h2 h6 he
    apply completes_onBay (exec_cartridgeInserted_of_empty he (code := if sv then 4 else 3) (by simp [cartCode, h2, h6]))
    obtain ⟨code, state, hnext, hseq, joined⟩ := Bay.insertEhs_leaves (s.bay.slotNow n (if sv then 4 else 3) 1) (n - 2) next.toNat seq.toNat n
    exact ⟨code.trans (Bay.slotNow_slotKey ..), state, hnext, hseq, joined⟩
  case ehx =>
    rintro ⟨n, hn⟩ rfl he
    apply completes_onBay (exec_cartridgeInserted_of_empty he (code := 5) rfl)
    have wale := Bay.insertEhx_waleSt (s.bay.slotNow 6 5 1)
    refine ⟨(Bay.insertEhx_slotX _).trans (Bay.slotNow_slotKey s.bay 6 5 1), fun _ ha => Bay.insertEhx_axState _ ha, congrArg Wale.joined wale, congrArg Wale.convOn wale⟩

end Sys2Proof
end

section
/-! PROOFS. The sample frames of a control frame: what each slot reports (R24, R38, R343). -/

namespace Sys2Proof.Machine

/-- What a fitted slot reports in its sample frame. -/
def Bay.sampleReport (b : Bay) (n : Nat) : Bay :=
  let s := b.slotOf n
  let b := b.setSlot n { s with reported := s.holder, conflict := false, strobeMark := false, markSent := s.strobeMark }
  if s.conflict then (b.redRecord 8 3 n).note 182 else b

/-- The slots that take part in the exchange of sample frames. -/
def Bay.fittedSlots (b : Bay) : List Nat := (List.range 6).filter b.slotFitted

theorem exec_sampleFrameSend (s : State) :
    exec .sampleFrameSend s = s.onBay (fun b => (b.atOffset 250).each b.fittedSlots Bay.sampleReport) := rfl

section
variable (b : Bay)

theorem Bay.mem_fittedSlots {n : Nat} : n ∈ b.fittedSlots ↔ n < 6 ∧ b.slotFitted n = true := by simp [Bay.fittedSlots]

theorem Bay.fittedSlots_nodup : b.fittedSlots.Nodup := List.nodup_range.filter _

@[simp] theorem Bay.atOffset_slotOf (off n : Nat) : (b.atOffset off).slotOf n = b.slotOf n := rfl
@[simp] theorem Bay.atOffset_now (off : Nat) : (b.atOffset off).now = max b.now (frameStart b.now + off) := rfl

@[simp] theorem Bay.redRecord_slotOf (cause side detail : Int) (n : Nat) : (b.redRecord cause side detail).slotOf n = b.slotOf n := rfl

theorem Bay.redRecord_rd_of_ne (cause side detail : Int) {k : Key} (h : k ∉ [F.RED_FLT_CAUSE, F.RED_FLT_SIDE, F.RED_FLT_DETAIL, F.RED_FLT_COUNT]) :
    (b.redRecord cause side detail).rd k = b.rd k := by
  simp only [List.mem_cons, List.not_mem_nil, or_false, not_or] at h
  simp [Bay.redRecord, Bay.bumpSat, h]

@[simp] theorem Bay.sampleReport_now (n : Nat) : (b.sampleReport n).now = b.now := by
  simp only [Bay.sampleReport]
  split <;> simp

theorem Bay.sampleReport_slotOf (n : Nat) : (b.sampleReport n).slotOf n =
    { b.slotOf n with reported := (b.slotOf n).holder, conflict := false, strobeMark := false, markSent := (b.slotOf n).strobeMark } := by
  simp only [Bay.sampleReport]
  split <;> simp

theorem Bay.sampleReport_slotOf_of_ne {n m : Nat} (h : n ≠ m) : (b.sampleReport n).slotOf m = b.slotOf m := by
  simp only [Bay.sampleReport]
  split <;> simp [h]

theorem Bay.sampleReport_rd (n : Nat) {k : Key} (h : k ∉ [F.RED_FLT_CAUSE, F.RED_FLT_SIDE, F.RED_FLT_DETAIL, F.RED_FLT_COUNT, F.EVT_STAT_LOST]) :
    (b.sampleReport n).rd k = b.rd k := by
  simp only [List.mem_cons, List.not_mem_nil, or_false, not_or] at h
  simp only [Bay.sampleReport]
  split
  · rw [Bay.note_rd _ _ h.2.2.2.2, Bay.redRecord_rd_of_ne _ _ _ _ (by simp [h]), Bay.setSlot_rd]
  · rfl

theorem Bay.sampleReport_rd_of_noConflict {n : Nat} (h : (b.slotOf n).conflict = false) (k : Key) : (b.sampleReport n).rd k = b.rd k := by
  simp [Bay.sampleReport, h]

/-- A row of reports touches the view of no other slot, and that of its own slots once. -/
theorem Bay.each_sampleReport_slotOf {l : List Nat} (hl : l.Nodup) {n : Nat} (hn : n ∈ l) : (b.each l Bay.sampleReport).slotOf n =
    { b.slotOf n with reported := (b.slotOf n).holder, conflict := false, strobeMark := false, markSent := (b.slotOf n).strobeMark } := by
  obtain ⟨b', before, own⟩ := Bay.each_of_mem (g := fun b => b.slotOf n) (f := Bay.sampleReport)
    (fun b m h => Bay.sampleReport_slotOf_of_ne b h) b hl hn
  rw [own, Bay.sampleReport_slotOf, before]

theorem Bay.each_sampleReport_rd_of_noConflict {l : List Nat} (h : ∀ n ∈ l, (b.slotOf n).conflict = false) (k : Key) :
    (b.each l Bay.sampleReport).rd k = b.rd k := by
  unfold Bay.each
  induction l generalizing b with
  | nil => rfl
  | cons n l ih =>
    rw [List.foldl_cons, ih, Bay.sampleReport_rd_of_noConflict b (h n List.mem_cons_self)]
    intro m hm
    by_cases own : n = m
    · rw [← own, Bay.sampleReport_slotOf]
    · rw [Bay.sampleReport_slotOf_of_ne b own]
      exact h m (List.mem_cons_of_mem _ hm)

end

section
variable (s : State)

theorem completes_sampleFrameSend : completes .sampleFrameSend s (fun b => b.now = max s.bay.now (frameStart s.bay.now + 250) ∧
    (∀ n : Nat, n < 6 → s.bay.slotFitted n = true → (b.slotOf n).reported = (s.bay.slotOf n).holder ∧ (b.slotOf n).conflict = false ∧
      (b.slotOf n).strobeMark = false ∧ (b.slotOf n).markSent = (s.bay.slotOf n).strobeMark) ∧
    (∀ n : Nat, n < 6 → s.bay.slotFitted n = false → b.slotOf n = s.bay.slotOf n) ∧
    keepsRegs s.bay b [F.RED_FLT_CAUSE, F.RED_FLT_SIDE, F.RED_FLT_DETAIL, F.RED_FLT_COUNT, F.EVT_STAT_LOST]) := by
  refine completes_onBay (exec_sampleFrameSend s) ⟨Bay.each_now (fun b n => Bay.sampleReport_now b n) _ _, fun n hn fit => ?_, fun n _ empty => ?_, fun k hk => ?_⟩
  · rw [Bay.each_sampleReport_slotOf _ (Bay.fittedSlots_nodup _) ((Bay.mem_fittedSlots _).2 ⟨hn, fit⟩)]
    exact ⟨rfl, rfl, rfl, rfl⟩
  · exact Bay.each_of_not_mem (g := fun b => b.slotOf n) (fun b m h => Bay.sampleReport_slotOf_of_ne b h) _
      (fun hm => by simp [((Bay.mem_fittedSlots _).1 hm).2] at empty)
  · exact Bay.each_rd (fun b n => Bay.sampleReport_rd b n hk) _ _

theorem completes_sampleFrameSend_of_noConflict (h : ∀ n : Nat, n < 6 → s.bay.slotFitted n = true → (s.bay.slotOf n).conflict = false) :
    completes .sampleFrameSend s (fun b => (∀ n : Nat, n < 6 → s.bay.slotFitted n = true → (b.slotOf n).reported = (s.bay.slotOf n).holder) ∧ keepsRegs s.bay b []) := by
  refine completes_onBay (exec_sampleFrameSend s) ⟨fun n hn fit => ?_, fun k _ => ?_⟩
  · rw [Bay.each_sampleReport_slotOf _ (Bay.fittedSlots_nodup _) ((Bay.mem_fittedSlots _).2 ⟨hn, fit⟩)]
    rfl
  · refine Bay.each_sampleReport_rd_of_noConflict _ (fun n hn => ?_) k
    obtain ⟨lt, fit⟩ := (Bay.mem_fittedSlots _).1 hn
    exact h n lt fit

end

end Sys2Proof.Machine
end

section
/-! PROOFS. The exchange of sample frames: what both cartridges saw, and the count of frames that one of them missed (R338). -/

namespace Sys2Proof.Machine

/-- The exchange of the sample frame of one slot. -/
def Bay.exchangeSlot (ca cb differ : Nat) (b : Bay) (n : Nat) : Bay :=
  let a := ca.testBit n
  let c := cb.testBit n
  let b := b.countMiss n (!a && !c)
  if a && c && !differ.testBit n then b
  else
    let b := b.bump32 F.RED_SMIS_CNT
    if a && c then b.sampleLost n true
    else if !a && !c then b.sampleLost n false
    else if b.joining (if a then 1 else 0) then b.uncleanLockstep
    else b

/-- The exchange shows which slots' frames reached each cartridge. -/
def Bay.showReceived (b : Bay) (ca cb : Nat) : Bay := (b.wr F.RED_VIEW_RX_CA (ca % 32 : Nat)).wr F.RED_VIEW_RX_CB (cb % 32 : Nat)

theorem Bay.sampleExchange_eq (b : Bay) (ca cb differ : Nat) : b.sampleExchange ca cb differ =
    ((b.atOffset 375).showReceived ca cb).each ((b.atOffset 375).showReceived ca cb).fittedSlots (Bay.exchangeSlot ca cb differ) := rfl

theorem Bay.showReceived_fittedSlots (b : Bay) (ca cb : Nat) : (b.showReceived ca cb).fittedSlots = b.fittedSlots := by
  have same : (b.showReceived ca cb).slotFitted = b.slotFitted := by
    funext n
    simp [Bay.showReceived, Bay.slotFitted, Bay.walePresent, Bay.xPresent, Bay.mPresent, Bay.waleSlot]
  rw [Bay.fittedSlots, same, Bay.fittedSlots]

theorem exec_sampleFrameExchange (a c d : BitVec 6) (s : State) : exec (.sampleFrameExchange a c d) s = s.onBay (fun b =>
    ((b.atOffset 375).showReceived a.toNat c.toNat).each b.fittedSlots (Bay.exchangeSlot a.toNat c.toNat d.toNat)) := by
  change s.onBay (fun b => b.sampleExchange a.toNat c.toNat d.toNat) = _
  simp only [Bay.sampleExchange_eq, Bay.showReceived_fittedSlots]
  rfl

section
variable (ca cb differ : Nat) (b : Bay) (n : Nat)

@[simp] theorem Bay.exchangeSlot_now : (b.exchangeSlot ca cb differ n).now = b.now := by
  simp only [Bay.exchangeSlot]
  repeat' split
  all_goals simp

theorem Bay.exchangeSlot_received {k : Key} (hk : k = F.RED_VIEW_RX_CA ∨ k = F.RED_VIEW_RX_CB) :
    (b.exchangeSlot ca cb differ n).rd k = b.rd k := by
  simp only [Bay.exchangeSlot, Bay.bump32]
  repeat' split
  all_goals obtain rfl | rfl := hk <;> simp

/-- A sample frame counts as missed where a cartridge lacks it or the copies differ. -/
theorem Bay.exchangeSlot_missed : (b.exchangeSlot ca cb differ n).rd F.RED_SMIS_CNT =
    if ca.testBit n && cb.testBit n && !differ.testBit n then b.rd F.RED_SMIS_CNT else (b.rd F.RED_SMIS_CNT + 1) % 4294967296 := by
  simp only [Bay.exchangeSlot, Bay.bump32]
  repeat' split
  all_goals simp

theorem Bay.each_exchangeSlot_missed (l : List Nat) : (b.each l (Bay.exchangeSlot ca cb differ)).rd F.RED_SMIS_CNT % 4294967296 =
    (b.rd F.RED_SMIS_CNT + ((l.filter (fun n => !(ca.testBit n && cb.testBit n && !differ.testBit n))).length : Nat)) % 4294967296 := by
  unfold Bay.each
  induction l generalizing b with
  | nil => simp
  | cons n l ih =>
    rw [List.foldl_cons, ih, Bay.exchangeSlot_missed]
    cases seen : (ca.testBit n && cb.testBit n && !differ.testBit n) with
    | true => simp only [List.filter_cons, seen, Bool.not_true, if_true, Bool.false_eq_true, if_false]
    | false =>
      simp only [List.filter_cons, seen, Bool.not_false, if_true, List.length_cons, Bool.false_eq_true, if_false]
      omega

theorem Bay.exchangeSlot_of_seen (ha : ca.testBit n = true) (hc : cb.testBit n = true) (hd : differ.testBit n = false) :
    b.exchangeSlot ca cb differ n = b.countMiss n false := by
  simp [Bay.exchangeSlot, ha, hc, hd]

theorem Bay.countMiss_false_rd (k : Key) : (b.countMiss n false).rd k = b.rd k := by
  simp only [Bay.countMiss]
  split
  · contradiction
  · split <;> simp

theorem Bay.countMiss_false_miss : ((b.countMiss n false).slotOf n).miss = 0 := by
  simp only [Bay.countMiss]
  split
  · contradiction
  · split <;> simp [*]

theorem Bay.countMiss_false_slotOf_of_ne {m : Nat} (h : n ≠ m) : (b.countMiss n false).slotOf m = b.slotOf m := by
  simp only [Bay.countMiss]
  split
  · contradiction
  · split <;> simp [h]

theorem Bay.each_exchangeSlot_of_seen {l : List Nat} (h : ∀ n ∈ l, ca.testBit n = true ∧ cb.testBit n = true ∧ differ.testBit n = false) :
    b.each l (Bay.exchangeSlot ca cb differ) = b.each l (fun b n => b.countMiss n false) :=
  List.foldl_ext _ _ _ (fun b n hn => Bay.exchangeSlot_of_seen ca cb differ b n (h n hn).1 (h n hn).2.1 (h n hn).2.2)

theorem Bay.showReceived_a : (b.showReceived ca cb).rd F.RED_VIEW_RX_CA = (ca % 32 : Nat) := by simp [Bay.showReceived]

theorem Bay.showReceived_b : (b.showReceived ca cb).rd F.RED_VIEW_RX_CB = (cb % 32 : Nat) := by simp [Bay.showReceived]

theorem Bay.showReceived_rd {k : Key} (h : k ∉ [F.RED_VIEW_RX_CA, F.RED_VIEW_RX_CB]) : (b.showReceived ca cb).rd k = b.rd k := by
  simp only [List.mem_cons, List.not_mem_nil, or_false, not_or] at h
  simp [Bay.showReceived, h]

end

section
variable (s : State) (a c d : BitVec 6)

theorem completes_sampleFrameExchange : completes (.sampleFrameExchange a c d) s (fun b => b.now = max s.bay.now (frameStart s.bay.now + 375) ∧
    b.rd F.RED_VIEW_RX_CA = (a.toNat % 32 : Nat) ∧ b.rd F.RED_VIEW_RX_CB = (c.toNat % 32 : Nat) ∧
    b.rd F.RED_SMIS_CNT % 4294967296 = (s.bay.rd F.RED_SMIS_CNT +
      (((List.range 6).filter (fun n => s.bay.slotFitted n && !(a.toNat.testBit n && c.toNat.testBit n && !d.toNat.testBit n))).length : Nat)) % 4294967296) := by
  have received {k : Key} (hk : k = F.RED_VIEW_RX_CA ∨ k = F.RED_VIEW_RX_CB) (b : Bay) (l : List Nat) :=
    Bay.each_rd (fun b n => Bay.exchangeSlot_received a.toNat c.toNat d.toNat b n hk) b l
  refine completes_onBay (exec_sampleFrameExchange a c d s) ⟨?_, ?_, ?_, ?_⟩
  · exact Bay.each_now (fun b n => Bay.exchangeSlot_now _ _ _ b n) _ _
  · exact (received (.inl rfl) _ _).trans (Bay.showReceived_a _ _ _)
  · exact (received (.inr rfl) _ _).trans (Bay.showReceived_b _ _ _)
  · rw [Bay.each_exchangeSlot_missed, Bay.fittedSlots, List.filter_filter, Bay.showReceived_rd _ _ _ (by decide), Bay.atOffset_rd]
    simp only [Bool.and_comm (s.bay.slotFitted _)]

theorem completes_sampleFrameExchange_of_seen (h : ∀ n : Nat, n < 6 → s.bay.slotFitted n = true →
      a.toNat.testBit n = true ∧ c.toNat.testBit n = true ∧ d.toNat.testBit n = false) :
    completes (.sampleFrameExchange a c d) s (fun b => b.rd F.RED_VIEW_RX_CA = (a.toNat % 32 : Nat) ∧ b.rd F.RED_VIEW_RX_CB = (c.toNat % 32 : Nat) ∧
      (∀ n : Nat, n < 6 → s.bay.slotFitted n = true → (b.slotOf n).miss = 0) ∧ keepsRegs s.bay b [F.RED_VIEW_RX_CA, F.RED_VIEW_RX_CB]) := by
  have kept (b : Bay) (l : List Nat) (k : Key) := Bay.each_rd (fun b n => Bay.countMiss_false_rd b n k) b l
  refine completes_onBay (exec_sampleFrameExchange a c d s) ?_
  rw [Bay.each_exchangeSlot_of_seen _ _ _ _ (fun n hn => h n ((Bay.mem_fittedSlots _).1 hn).1 ((Bay.mem_fittedSlots _).1 hn).2)]
  refine ⟨?_, ?_, fun n hn fit => ?_, fun k hk => ?_⟩
  · rw [kept, Bay.showReceived_a]
  · rw [kept, Bay.showReceived_b]
  · obtain ⟨b', -, own⟩ := Bay.each_of_mem (g := fun b => b.slotOf n) (f := fun b n => b.countMiss n false)
      (fun b m h => Bay.countMiss_false_slotOf_of_ne b m h) ((s.bay.atOffset 375).showReceived a.toNat c.toNat) (Bay.fittedSlots_nodup s.bay)
      ((Bay.mem_fittedSlots _).2 ⟨hn, fit⟩)
    rw [own, Bay.countMiss_false_miss]
  · rw [kept, Bay.showReceived_rd _ _ _ hk, Bay.atOffset_rd]

end

end Sys2Proof.Machine
end

section
/-! PROOFS. The command frames that both cartridges send (R24, R25, R341). -/

namespace Sys2Proof.Machine

/-- The offset at which command frame `j` is sent (R24). -/
def sendOffset (j : Nat) : Nat := if j = 3 then 4250 else 500 + 1250 * j

/-- The cartridges that send command frames. -/
def Bay.senders (b : Bay) : List Nat := [0, 1].filter (fun x => b.cPresent x && !b.red.silent.contains x)

/-- Command frame `j` of cartridge x to slot n. -/
def Bay.frameOf (b : Bay) (j x n : Nat) : CmdFrame :=
  ⟨x, n, (b.role x).toNat, seqOf b.now j, b.red.out.contains x, j == 3, j, b.now / frameTicks % 4294967296⟩

theorem exec_commandFrameSend (j : Fin 4) (s : State) : exec (.commandFrameSend j) s = s.onBay (fun b => (b.atOffset (sendOffset j)).setRed
    { b.red with sent := b.senders.flatMap (fun x => b.cmdSlots.map ((b.atOffset (sendOffset j)).frameOf j x)) }) := rfl

theorem completes_commandFrameSend (j : Fin 4) (s : State) :
    completes (.commandFrameSend j) s (fun b => b.now = max s.bay.now (frameStart s.bay.now + (if j = 3 then 4250 else 500 + 1250 * j.val)) ∧
    b.red.sent.map (fun f => (f.cart, f.slot)) = ([0, 1].filter (fun x => s.bay.cPresent x && !s.bay.red.silent.contains x)).flatMap
      (fun x => (List.range 5).filter s.bay.slotFitted |>.map (fun n => (x, n))) ∧
    (∀ f ∈ b.red.sent, f.index = j.val ∧ f.seq = (b.now / frameTicks * 4 + j.val) % 64 ∧ f.role = (s.bay.role f.cart).toNat ∧
      f.suspect = s.bay.red.out.contains f.cart ∧ f.fresh = (j.val == 3) ∧ f.frame = b.now / frameTicks % 4294967296) ∧ keepsRegs s.bay b []) := by
  refine completes_onBay (exec_commandFrameSend j s) ⟨?_, ?_, fun f hf => ?_, fun _ _ => rfl⟩
  · simp [sendOffset, Fin.ext_iff]
  · simp only [Bay.setRed_red, List.map_flatMap, List.map_map]
    rfl
  · simp only [Bay.setRed_red, List.mem_flatMap, List.mem_map] at hf
    obtain ⟨x, -, n, -, rfl⟩ := hf
    exact ⟨rfl, rfl, rfl, rfl, rfl, rfl⟩

end Sys2Proof.Machine
end

section
/-! PROOFS. The targets that a command frame carries reach the section modulators: what their acting leaves of the slots' views and of the channels' references (R24, R25, R30, R72). -/

namespace Sys2Proof.Machine

/-- The targets a channel's modulator uses, and those its loop gives for this frame and gave for the frame before. -/
structure Refs where
  used : Int × Int
  next : Int × Int
  last : Int × Int

/-- The targets of channel c at its modulator and its loop. -/
def Bay.refsOf (b : Bay) (c : Nat) : Refs :=
  ⟨((b.stageOf c).vRefIn, (b.stageOf c).iTgt), ((b.loopChOf c).vRef, (b.loopChOf c).iTgt), ((b.loopChOf c).vRef0, (b.loopChOf c).iTgt0)⟩

/-- The views of the slots and the targets of the channels stand. -/
def keepsRefs (b b' : Bay) : Prop := b'.slotv = b.slotv ∧ ∀ c, b'.refsOf c = b.refsOf c

section
variable {b b' b'' : Bay}

theorem keepsRefs_refl (b : Bay) : keepsRefs b b := ⟨rfl, fun _ => rfl⟩

theorem keepsRefs.trans (h : keepsRefs b b') (h' : keepsRefs b' b'') : keepsRefs b b'' :=
  ⟨h'.1.trans h.1, fun c => (h'.2 c).trans (h.2 c)⟩

theorem keepsRefs.slotOf (h : keepsRefs b b') (n : Nat) : b'.slotOf n = b.slotOf n := by rw [Bay.slotOf, h.1, Bay.slotOf]

theorem keepsRefs_each {f : Bay → Nat → Bay} (h : ∀ b n, keepsRefs b (f b n)) (b : Bay) (l : List Nat) : keepsRefs b (b.each l f) :=
  ⟨Bay.each_keeps Bay.slotv f (fun b n => (h b n).1) b l, fun c => Bay.each_keeps (fun b => b.refsOf c) f (fun b n => (h b n).2 c) b l⟩

theorem keepsRefs_of_fields (slots : b'.slotv = b.slotv) (stage : b'.stage = b.stage) (loop : b'.loopCh = b.loopCh) : keepsRefs b b' :=
  ⟨slots, fun c => by simp only [Bay.refsOf, Bay.stageOf, Bay.loopChOf, stage, loop]⟩

/-- The hidden state of a channel's stage may change in all but the targets. -/
theorem keepsRefs_of_stage (c : Nat) {x : Stage} (slots : b'.slotv = b.slotv) (stage : b'.stage = b.stage.put c x) (loop : b'.loopCh = b.loopCh)
    (hv : x.vRefIn = (b.stageOf c).vRefIn) (hi : x.iTgt = (b.stageOf c).iTgt) : keepsRefs b b' := by
  refine ⟨slots, fun d => ?_⟩
  simp only [Bay.refsOf, Bay.stageOf, Bay.loopChOf, stage, loop]
  by_cases own : c = d
  · subst own
    simp only [Tab.get_put, if_true, hv, hi, Bay.stageOf]
  · simp [Tab.get_put, own]

/-- The hidden state of a channel's loop may change in all but the targets. -/
theorem keepsRefs_of_loop (c : Nat) {x : LoopCh} (slots : b'.slotv = b.slotv) (stage : b'.stage = b.stage) (loop : b'.loopCh = b.loopCh.put c x)
    (hn : (x.vRef, x.iTgt) = ((b.loopChOf c).vRef, (b.loopChOf c).iTgt)) (hl : (x.vRef0, x.iTgt0) = ((b.loopChOf c).vRef0, (b.loopChOf c).iTgt0)) :
    keepsRefs b b' := by
  refine ⟨slots, fun d => ?_⟩
  simp only [Bay.refsOf, Bay.stageOf, Bay.loopChOf, stage, loop]
  by_cases own : c = d
  · subst own
    simp only [Tab.get_put, if_true, hn, hl, Bay.loopChOf]
  · simp [Tab.get_put, own]

end

section
variable (b : Bay) (c : Nat)

theorem Bay.note_keepsRefs (src : Nat) : keepsRefs b (b.note src) :=
  keepsRefs_of_fields (Bay.note_slotv _ _) (Bay.note_stage _ _) (Bay.note_loopCh _ _)

theorem Bay.stageRamp_keepsRefs (ms : Int) : keepsRefs b (b.stageRamp c ms) := by
  simp only [Bay.stageRamp]
  split
  · exact keepsRefs_refl _
  · exact keepsRefs_of_stage c rfl rfl rfl rfl rfl

theorem Bay.refreshBorder_keepsRefs : keepsRefs b (b.refreshBorder c) := by
  simp only [Bay.refreshBorder]
  repeat' split
  all_goals exact ⟨rfl, fun _ => rfl⟩

theorem Bay.openSwitch_keepsRefs (stage : Int) : keepsRefs b (b.openSwitch c stage) := by
  simp only [Bay.openSwitch]
  refine keepsRefs.trans ?_ (Bay.refreshBorder_keepsRefs _ c)
  exact keepsRefs_of_stage c rfl rfl rfl rfl rfl

theorem Bay.stageStop_keepsRefs (ms : Option Int) : keepsRefs b (b.stageStop c ms) := by
  simp only [Bay.stageStop]
  split
  · exact Bay.openSwitch_keepsRefs ..
  · split
    · refine keepsRefs.trans ?_ (Bay.stageRamp_keepsRefs ..)
      exact keepsRefs_of_stage c rfl rfl rfl rfl rfl
    · exact keepsRefs_refl _

theorem Bay.actRequests_keepsRefs : keepsRefs b (b.actRequests c) := by
  simp only [Bay.actRequests]
  have taken : keepsRefs b (if (b.stageOf c).stopReq || (b.stageOf c).rampReq.isSome then
      b.setStage c { b.stageOf c with stopReq := false, rampReq := none } else b) := by
    split
    · exact keepsRefs_of_stage c rfl rfl rfl rfl rfl
    · exact keepsRefs_refl _
  split
  · exact taken.trans (Bay.stageStop_keepsRefs ..)
  · split
    · exact taken.trans (Bay.stageRamp_keepsRefs ..)
    · exact taken

theorem Bay.onePhase_keepsRefs : keepsRefs b (b.onePhase c) := by
  simp only [Bay.onePhase]
  exact keepsRefs_of_stage c rfl rfl rfl rfl rfl

theorem Bay.prebiasStart_keepsRefs : keepsRefs b (b.prebiasStart c) := by
  simp only [Bay.prebiasStart]
  refine keepsRefs.trans ?_ (Bay.onePhase_keepsRefs _ c)
  exact keepsRefs_of_stage c rfl rfl rfl rfl rfl

theorem Bay.setChan_keepsRefs (x : Chan) : keepsRefs b (b.setChan c x) := ⟨rfl, fun _ => rfl⟩

theorem Bay.tryClose_keepsRefs : keepsRefs b (b.tryClose c) := by
  simp only [Bay.tryClose]
  split
  · exact keepsRefs_of_stage c rfl rfl rfl rfl rfl
  · split
    · split
      · exact Bay.setChan_keepsRefs ..
      · exact keepsRefs_refl _
    · split
      · exact keepsRefs_refl _
      · split
        · split
          · exact keepsRefs_refl _
          · exact keepsRefs.trans (Bay.setChan_keepsRefs b c _) (Bay.note_keepsRefs _ c)
        · split
          · exact keepsRefs_refl _
          · exact keepsRefs.trans (Bay.setChan_keepsRefs b c _) (Bay.prebiasStart_keepsRefs _ c)

theorem Bay.shedWatch_keepsRefs : keepsRefs b (b.shedWatch c) := keepsRefs_of_stage c rfl rfl rfl rfl rfl

theorem Bay.clampRef_keepsRefs : keepsRefs b (b.clampRef c) := by
  simp only [Bay.clampRef]
  exact keepsRefs_of_loop c rfl rfl rfl rfl rfl

theorem Bay.takeGen_keepsRefs : keepsRefs b (b.takeGen c) := by
  unfold Bay.takeGen
  extract_lets w was g
  split
  · exact keepsRefs_refl _
  · exact keepsRefs_of_stage c rfl rfl rfl rfl rfl

theorem Bay.softStop_keepsRefs : keepsRefs b (b.softStop c) := keepsRefs_of_stage c rfl rfl rfl rfl rfl

end

/-! ## A wale's governor, and what the stages take over -/

/-- The governor's call and curtailment of one channel (R60, R61). -/
def Bay.callDonor (fr : Rat) (b : Bay) (c : Nat) : Bay :=
  let m := b.meansOf c
  let call := (fr * (m.offer : Rat)).floor
  let b := if call = m.donCall then b else b.setMeans c { m with donCall := call }
  let d := b.demandOf c
  let curt := d ≠ 0 && call = 0 && b.classFactor c (0 < d) < 200
  if curt = m.curtailed then b else (b.setMeans c { b.meansOf c with curtailed := curt }).note c

/-- What a wale that is not governed withdraws of one channel (R60, R61). -/
def Bay.uncallDonor (b : Bay) (c : Nat) : Bay :=
  let b := if (b.meansOf c).donCall = 0 then b else b.endDonation c
  if (b.meansOf c).curtailed then (b.setMeans c { b.meansOf c with curtailed := false }).note c else b

section
variable (b : Bay) (c n : Nat)

theorem Bay.wr_keepsRefs (k : Key) (v : Int) : keepsRefs b (b.wr k v) := ⟨rfl, fun _ => rfl⟩

theorem Bay.setMeans_keepsRefs (x : Means) : keepsRefs b (b.setMeans c x) := ⟨rfl, fun _ => rfl⟩

theorem Bay.callDonor_keepsRefs (fr : Rat) : keepsRefs b (Bay.callDonor fr b c) := by
  unfold Bay.callDonor
  extract_lets m call b₁ d curt
  have called : keepsRefs b b₁ := by
    unfold b₁
    split
    · exact keepsRefs_refl _
    · exact Bay.setMeans_keepsRefs ..
  split
  · exact called
  · exact called.trans (keepsRefs.trans (Bay.setMeans_keepsRefs b₁ c _) (Bay.note_keepsRefs _ c))

theorem Bay.uncallDonor_keepsRefs : keepsRefs b (b.uncallDonor c) := by
  unfold Bay.uncallDonor
  extract_lets b₁
  have ended : keepsRefs b b₁ := by
    unfold b₁
    split
    · exact keepsRefs_refl _
    · exact Bay.setMeans_keepsRefs ..
  split
  · exact ended.trans (keepsRefs.trans (Bay.setMeans_keepsRefs b₁ c _) (Bay.note_keepsRefs _ c))
  · exact ended

theorem Bay.waleGovern_keepsRefs : keepsRefs b (b.waleGovern n) := by
  unfold Bay.waleGovern
  extract_lets w b₀ net cap eta chans credit over_ under one call ownF cut ownD b₁ fr b₂ g b₃ b₄ don b₅
  split
  · have reset : keepsRefs b b₀ := ⟨rfl, fun _ => rfl⟩
    exact reset.trans (keepsRefs_each Bay.uncallDonor_keepsRefs b₀ (waleChans n))
  · have set : keepsRefs b b₁ := ⟨rfl, fun _ => rfl⟩
    have called : keepsRefs b₁ b₂ := keepsRefs_each (Bay.callDonor_keepsRefs (fr := fr)) b₁ chans
    have factors : keepsRefs b₂ b₃ := by
      refine keepsRefs.trans (keepsRefs.trans (keepsRefs.trans ?_ (Bay.wr_keepsRefs _ _ _)) (Bay.wr_keepsRefs _ _ _)) (Bay.wr_keepsRefs _ _ _)
      exact Bay.wr_keepsRefs _ _ _
    have flags : keepsRefs b₃ b₅ := keepsRefs.trans (b' := b₄) (Bay.wr_keepsRefs _ _ _) (Bay.wr_keepsRefs _ _ _)
    exact (((set.trans called).trans factors).trans flags).trans (Bay.wr_keepsRefs b₅ _ _)

end

end Sys2Proof.Machine
end

section
/-! PROOFS. A stage accepts a command frame: the view of its slot, and the targets that act (R24, R25, R30, R343). -/

namespace Sys2Proof.Machine

/-- Channel c's modulator takes the targets that its loop gives. -/
def Bay.takeNext (b : Bay) (c : Nat) : Bay := b.setStage c { b.stageOf c with vRefIn := (b.loopChOf c).vRef, iTgt := (b.loopChOf c).iTgt }

/-- Channel c's modulator takes the targets of the frame before. -/
def Bay.takeLast (b : Bay) (c : Nat) : Bay := b.setStage c { b.stageOf c with vRefIn := (b.loopChOf c).vRef0, iTgt := (b.loopChOf c).iTgt0 }

/-- Command frame 3 acts in the modulator of channel c. -/
def Bay.applyChannel (b : Bay) (c : Nat) : Bay := (((((b.takeNext c).actRequests c).tryClose c).shedWatch c).clampRef c).takeGen c

/-- Command frames 0 to 2 act in the modulator of channel c. -/
def Bay.repeatChannel (b : Bay) (c : Nat) : Bay := (b.takeLast c).clampRef c

/-- Command frame 3 acts in the modulator of axis a. -/
def Bay.applyAxis (b : Bay) (a : Nat) : Bay :=
  let l := b.loopAxOf a
  let x := b.axisOf a
  let w := fdiv x.omegaE (fmul 2 piR)
  b.setAxis a { x with modD := fadd l.vd (b.injection a), modQ := l.vq, modAngle := fadd x.theta (fmul w (dec 36 1000000)), modOmega := w }

/-- The view of a slot that has accepted a frame. -/
def SlotView.accepted (v : SlotView) (role seq t : Nat) : SlotView := { v with lastRole := role, lastSeq := seq, lastAcc := t, misses := 0, stopped := false }

section
variable (b : Bay) (c n : Nat)

theorem Bay.applyWale_of_running (h : (b.waleSt n).stoppedAlone = false) : b.applyWale n = (b.waleGovern n).each (waleChans n) Bay.applyChannel := by
  rw [Bay.applyWale]
  simp only [h, Bool.false_eq_true, if_false]
  rfl

theorem Bay.applyWale_of_stopped (h : (b.waleSt n).stoppedAlone = true) : b.applyWale n =
    ((b.waleGovern n).setWale n { (b.waleGovern n).waleSt n with stoppedAlone := false }).each (waleChans n) (fun b c => (b.softStop c).actRequests c) := by
  rw [Bay.applyWale]
  simp only [h, if_true]

theorem Bay.repeatWale_of_running (h : (b.waleSt n).stoppedAlone = false) : b.repeatWale n = b.each (waleChans n) Bay.repeatChannel := by
  rw [Bay.repeatWale]
  simp only [h, Bool.false_eq_true, if_false]
  rfl

theorem Bay.takeNext_refsOf : (b.takeNext c).refsOf c = { b.refsOf c with used := (b.refsOf c).next } := by simp [Bay.takeNext, Bay.refsOf]

theorem Bay.takeNext_refsOf_of_ne {d : Nat} (h : c ≠ d) : (b.takeNext c).refsOf d = b.refsOf d := by simp [Bay.takeNext, Bay.refsOf, h]

theorem Bay.takeLast_refsOf : (b.takeLast c).refsOf c = { b.refsOf c with used := (b.refsOf c).last } := by simp [Bay.takeLast, Bay.refsOf]

theorem Bay.takeLast_refsOf_of_ne {d : Nat} (h : c ≠ d) : (b.takeLast c).refsOf d = b.refsOf d := by simp [Bay.takeLast, Bay.refsOf, h]

theorem waleChans_nodup (n : Nat) : (waleChans n).Nodup := List.nodup_range.map (fun a b h => by simpa using h)

/-- Past the targets, nothing of command frame 3 changes a channel's references. -/
theorem Bay.applyChannel_keepsRefs : keepsRefs (b.takeNext c) (b.applyChannel c) :=
  ((((Bay.actRequests_keepsRefs _ c).trans (Bay.tryClose_keepsRefs _ c)).trans (Bay.shedWatch_keepsRefs _ c)).trans (Bay.clampRef_keepsRefs _ c)).trans
    (Bay.takeGen_keepsRefs _ c)

theorem Bay.repeatChannel_keepsRefs : keepsRefs (b.takeLast c) (b.repeatChannel c) := Bay.clampRef_keepsRefs _ c

theorem Bay.applyChannel_slotv : (b.applyChannel c).slotv = b.slotv := (Bay.applyChannel_keepsRefs b c).1

theorem Bay.repeatChannel_slotv : (b.repeatChannel c).slotv = b.slotv := (Bay.repeatChannel_keepsRefs b c).1

theorem Bay.applyWale_slotv : (b.applyWale n).slotv = b.slotv := by
  cases h : (b.waleSt n).stoppedAlone with
  | false =>
    rw [Bay.applyWale_of_running b n h, Bay.each_keeps Bay.slotv _ Bay.applyChannel_slotv, (Bay.waleGovern_keepsRefs b n).1]
  | true =>
    have opened (b : Bay) (c : Nat) := ((Bay.softStop_keepsRefs b c).trans (Bay.actRequests_keepsRefs _ c)).1
    rw [Bay.applyWale_of_stopped b n h, Bay.each_keeps Bay.slotv _ opened, Bay.setWale_slotv, (Bay.waleGovern_keepsRefs b n).1]

theorem Bay.repeatWale_slotv : (b.repeatWale n).slotv = b.slotv := by
  cases h : (b.waleSt n).stoppedAlone with
  | false => rw [Bay.repeatWale_of_running b n h, Bay.each_keeps Bay.slotv _ Bay.repeatChannel_slotv]
  | true => simp [Bay.repeatWale, h]

theorem Bay.applyAxes_slotv : b.applyAxes.slotv = b.slotv := Bay.each_keeps Bay.slotv Bay.applyAxis (fun _ _ => rfl) b allAxes

/-- Each channel of a wale uses what its loop gives from command frame 3 on. -/
theorem Bay.applyWale_used (h : (b.waleSt n).stoppedAlone = false) (hc : c ∈ waleChans n) : ((b.applyWale n).refsOf c).used = (b.refsOf c).next := by
  rw [Bay.applyWale_of_running b n h]
  obtain ⟨b', before, own⟩ := Bay.each_of_mem (g := fun b => b.refsOf c) (f := Bay.applyChannel)
    (fun b m h => ((Bay.applyChannel_keepsRefs b m).2 c).trans (Bay.takeNext_refsOf_of_ne b m h)) (b.waleGovern n) (waleChans_nodup n) hc
  rw [own, (Bay.applyChannel_keepsRefs b' c).2, Bay.takeNext_refsOf, before, (Bay.waleGovern_keepsRefs b n).2]

/-- Each channel of a wale uses what its loop gave for the frame before until then. -/
theorem Bay.repeatWale_used (h : (b.waleSt n).stoppedAlone = false) (hc : c ∈ waleChans n) : ((b.repeatWale n).refsOf c).used = (b.refsOf c).last := by
  rw [Bay.repeatWale_of_running b n h]
  obtain ⟨b', before, own⟩ := Bay.each_of_mem (g := fun b => b.refsOf c) (f := Bay.repeatChannel)
    (fun b m h => ((Bay.repeatChannel_keepsRefs b m).2 c).trans (Bay.takeLast_refsOf_of_ne b m h)) b (waleChans_nodup n) hc
  rw [own, (Bay.repeatChannel_keepsRefs b' c).2, Bay.takeLast_refsOf, before]

/-- Beside the view of its slot, an accepted frame changes no slot's view. -/
theorem Bay.acceptFrame_slotv (role seq t j : Nat) : (b.acceptFrame n role seq t j).slotv = (b.onSlot n (·.accepted role seq t)).slotv := by
  simp only [Bay.acceptFrame]
  split
  · split
    · exact Bay.applyWale_slotv ..
    · exact Bay.repeatWale_slotv ..
  · split
    · exact Bay.applyAxes_slotv ..
    · rfl

theorem Bay.acceptFrame_slotOf (role seq t j : Nat) : (b.acceptFrame n role seq t j).slotOf n = (b.slotOf n).accepted role seq t := by
  rw [Bay.slotOf, Bay.acceptFrame_slotv]
  exact Bay.slotOf_setSlot_same ..

theorem Bay.acceptFrame_of_wale (hn : n < 4) (role seq t j : Nat) : b.acceptFrame n role seq t j =
    if j = 3 then (b.onSlot n (·.accepted role seq t)).applyWale n else (b.onSlot n (·.accepted role seq t)).repeatWale n := by
  simp only [Bay.acceptFrame, hn, if_true]
  rfl

theorem Bay.takeFrame_slotOf (role seq j : Nat) : (b.takeFrame n role seq j).slotOf n = (b.slotOf n).accepted role seq b.now := by
  simp only [Bay.takeFrame]
  split
  · rw [Bay.acceptFrame_slotOf, Bay.atOffset_slotOf]
  · rw [Bay.acceptFrame_slotOf]

theorem Bay.takeFrame_now (role seq j : Nat) : (b.takeFrame n role seq j).now = max b.now (if j = 3 then frameStart b.now + 4500 else 0) := by
  simp only [Bay.takeFrame]
  split <;> simp

section
variable {b c n} {role seq j : Nat} (hn : n < 4) (hw : (b.waleSt n).stoppedAlone = false) (hc : c ∈ waleChans n)
include hn hw hc

theorem Bay.takeFrame_used_of_last (hj : j = 3) : ((b.takeFrame n role seq j).refsOf c).used = (b.refsOf c).next := by
  simp only [Bay.takeFrame, Bay.acceptFrame_of_wale _ _ hn, hj, if_true]
  exact Bay.applyWale_used _ c n hw hc

theorem Bay.takeFrame_used_of_early (hj : j ≠ 3) : ((b.takeFrame n role seq j).refsOf c).used = (b.refsOf c).last := by
  simp only [Bay.takeFrame, Bay.acceptFrame_of_wale _ _ hn, hj, if_false]
  exact Bay.repeatWale_used _ c n hw hc

end

/-- Slot X takes targets for the axes alone, which no register shows. -/
theorem Bay.takeFrame_rd_of_x (role seq j : Nat) (hn : n = 4) (k : Key) : (b.takeFrame n role seq j).rd k = b.rd k := by
  subst hn
  simp only [Bay.takeFrame, Bay.acceptFrame]
  repeat' split
  all_goals simp_all [Bay.onSlot]

end

end Sys2Proof.Machine
end

section
/-! PROOFS. A stage receives a command frame (R342, R343). -/

namespace Sys2Proof.Machine

/-- The offset at which command frame `j` arrives (R24). -/
def receiveOffset (j : Fin 4) : Nat := if j = 3 then 4375 else 625 + 1250 * j.val

/-- When command frame `j` arrives. -/
def Bay.receivedAt (b : Bay) (j : Fin 4) : Nat := max b.now (frameStart b.now + receiveOffset j)

/-- A stage has heard a frame of cartridge x: bay time, and the count of clean lockstep of a joining cartridge (R351). -/
def Bay.heard (b : Bay) (x : Nat) (f : CmdIn) : Bay :=
  let b := b.atOffset (receiveOffset f.index)
  if b.joining x && b.role x = 1 && (!f.crc || f.suspect || f.seq.toNat ≠ seqOf b.now f.index.val) then b.uncleanLockstep else b

section
variable (b : Bay) (n x : Nat) (f : CmdIn)

@[simp] theorem Bay.uncleanLockstep_slotOf (m : Nat) : b.uncleanLockstep.slotOf m = b.slotOf m := by
  simp only [Bay.uncleanLockstep]
  split <;> rfl

theorem Bay.uncleanLockstep_waleSt (m : Nat) : b.uncleanLockstep.waleSt m = b.waleSt m := by
  simp only [Bay.uncleanLockstep]
  split <;> rfl

theorem Bay.uncleanLockstep_refsOf (c : Nat) : b.uncleanLockstep.refsOf c = b.refsOf c := by
  simp only [Bay.uncleanLockstep]
  split <;> rfl

/-- What a frame heard may change: nothing that the lockstep count does not. -/
theorem Bay.heard_of {P : Bay → Prop} (same : P (b.atOffset (receiveOffset f.index))) (unclean : P (b.atOffset (receiveOffset f.index)).uncleanLockstep) :
    P (b.heard x f) := by
  simp only [Bay.heard]
  split
  · exact unclean
  · exact same

theorem Bay.heard_now : (b.heard x f).now = b.receivedAt f.index :=
  Bay.heard_of (P := fun h => h.now = _) b x f rfl (Bay.uncleanLockstep_now _)

theorem Bay.heard_slotOf : (b.heard x f).slotOf n = b.slotOf n :=
  Bay.heard_of (P := fun h => h.slotOf n = _) b x f rfl (Bay.uncleanLockstep_slotOf _ n)

theorem Bay.heard_waleSt : (b.heard x f).waleSt n = b.waleSt n :=
  Bay.heard_of (P := fun h => h.waleSt n = _) b x f rfl (Bay.uncleanLockstep_waleSt _ n)

theorem Bay.heard_refsOf (c : Nat) : (b.heard x f).refsOf c = b.refsOf c :=
  Bay.heard_of (P := fun h => h.refsOf c = _) b x f rfl (Bay.uncleanLockstep_refsOf _ c)

theorem Bay.heard_of_synced (h : b.joining x = true → b.role x ≠ 1) : b.heard x f = b.atOffset (receiveOffset f.index) := by
  have idle : ((b.atOffset (receiveOffset f.index)).joining x && (b.atOffset (receiveOffset f.index)).role x = 1) = false := by
    rw [Bool.and_eq_false_imp]
    exact fun hj => decide_eq_false (h hj)
  simp only [Bay.heard, idle, Bool.false_and, Bool.false_eq_true, if_false]

theorem receiveOffset_eq (j : Fin 4) : receiveOffset j = if j.val = 3 then 4375 else 625 + 1250 * j.val := by simp [receiveOffset, Fin.ext_iff]

/-- A good frame of the holder is taken. -/
theorem Bay.commandReceive_of_holder (hh : (b.slotOf n).holder = x + 1) (hg : (b.slotOf n).good f (b.receivedAt f.index) = true) :
    b.commandReceive n x f = ((b.heard x f).takeFrame n f.role.toNat f.seq.toNat f.index.val).candRules n f.role.toNat f.seq.toNat := by
  rw [Bay.commandReceive, ← receiveOffset_eq]
  simp only [Bay.atOffset_slotOf, hh, if_true, (show (b.slotOf n).good f (b.atOffset (receiveOffset f.index)).now = true from hg)]
  rfl

/-- A slot without a holder takes the cartridge of a good frame for its holder. -/
theorem Bay.commandReceive_of_free (hh : (b.slotOf n).holder = 0) (hg : (b.slotOf n).good f (b.receivedAt f.index) = true) :
    b.commandReceive n x f = ((b.heard x f).setHolder n (x + 1)).takeFrame n f.role.toNat f.seq.toNat f.index.val := by
  rw [Bay.commandReceive, ← receiveOffset_eq]
  simp only [Bay.atOffset_slotOf, hh, if_true, (show (b.slotOf n).good f (b.atOffset (receiveOffset f.index)).now = true from hg)]
  rfl

/-- A bad frame of a cartridge that is not the holder is ignored. -/
theorem Bay.commandReceive_of_stray (hh : (b.slotOf n).holder ≠ x + 1) (hg : (b.slotOf n).good f (b.receivedAt f.index) = false) :
    b.commandReceive n x f = b.heard x f := by
  rw [Bay.commandReceive, ← receiveOffset_eq]
  simp only [Bay.atOffset_slotOf, hh, if_false, (show (b.slotOf n).good f (b.atOffset (receiveOffset f.index)).now = false from hg)]
  rfl

theorem Bay.candRules_of_none (role seq : Nat) (h : (b.slotOf n).cand = none) : b.candRules n role seq = b := by
  simp [Bay.candRules, h]

theorem SlotView.not_good_of_crc (v : SlotView) {f : CmdIn} (h : f.crc = false) (now : Nat) : v.good f now = false := by
  simp [SlotView.good, h]

/-- Without a candidate, a good frame of the holder is taken and nothing more. -/
theorem Bay.commandReceive_of_alone (hh : (b.slotOf n).holder = x + 1) (hc : (b.slotOf n).cand = none)
    (hg : (b.slotOf n).good f (b.receivedAt f.index) = true) :
    b.commandReceive n x f = (b.heard x f).takeFrame n f.role.toNat f.seq.toNat f.index.val := by
  rw [Bay.commandReceive_of_holder b n x f hh hg, Bay.candRules_of_none]
  rw [Bay.takeFrame_slotOf, Bay.heard_slotOf]
  exact hc

@[simp] theorem Bay.slotOf_setRed (r : Red) : (b.setRed r).slotOf n = b.slotOf n := rfl

theorem Bay.setHolder_slotOf (new : Nat) : (b.setHolder n new).slotOf n = { b.slotOf n with holder := new, misses := 0, strobe := new } := by
  simp only [Bay.setHolder]
  split <;> simp [Bay.onSlot]

end

theorem exec_commandFrameReceive (n : Fin 5) (x : Fin 2) (f : CmdIn) (s : State) :
    exec (.commandFrameReceive n x f) s = s.onBay (fun b => if b.slotFitted n then b.commandReceive n x f else b) := rfl

section
variable {s : State} {n : Fin 5} {x : Fin 2} {f : CmdIn} (fit : s.bay.slotFitted n = true)
include fit

theorem completes_commandFrameReceive {P : Bay → Prop} (h : P (s.bay.commandReceive n x f)) : completes (.commandFrameReceive n x f) s P := by
  refine completes_onBay (exec_commandFrameReceive n x f s) ?_
  simpa only [fit, if_true] using h

theorem completes_commandFrameReceive_of_alone (hh : (s.bay.slotOf n).holder = x.val + 1) (hc : (s.bay.slotOf n).cand = none)
    (hg : (s.bay.slotOf n).good f (s.bay.receivedAt f.index) = true) :
    completes (.commandFrameReceive n x f) s (fun b => (b.slotOf n).holder = x.val + 1 ∧ (b.slotOf n).lastSeq = f.seq.toNat ∧ (b.slotOf n).lastRole = f.role.toNat ∧
      (b.slotOf n).misses = 0 ∧ (b.slotOf n).stopped = false ∧ (b.slotOf n).lastAcc = s.bay.receivedAt f.index ∧
      b.now = max (b.slotOf n).lastAcc (if f.index = 3 then frameStart (b.slotOf n).lastAcc + 4500 else 0) ∧
      (n.val = 4 → s.bay.joining x = false → keepsRegs s.bay b [])) := by
  refine completes_commandFrameReceive fit ?_
  rw [Bay.commandReceive_of_alone _ _ _ _ hh hc hg, Bay.takeFrame_slotOf, Bay.heard_slotOf, Bay.takeFrame_now, Bay.heard_now]
  refine ⟨hh, rfl, rfl, rfl, rfl, rfl, ?_, fun hn hj k _ => ?_⟩
  · simp only [SlotView.accepted, Fin.ext_iff]
    rfl
  · rw [Bay.takeFrame_rd_of_x _ _ _ _ _ hn, Bay.heard_of_synced _ _ _ (by simp [hj]), Bay.atOffset_rd]

theorem completes_commandFrameReceive_targets (hh : (s.bay.slotOf n).holder = x.val + 1) (hc : (s.bay.slotOf n).cand = none) (hn : n.val < 4)
    (hw : (s.bay.waleSt n).stoppedAlone = false) (hg : (s.bay.slotOf n).good f (s.bay.receivedAt f.index) = true) :
    completes (.commandFrameReceive n x f) s (fun b => ∀ c ∈ waleChans n,
      (f.index ≠ 3 → (b.stageOf c).vRefIn = (s.bay.loopChOf c).vRef0 ∧ (b.stageOf c).iTgt = (s.bay.loopChOf c).iTgt0) ∧
      (f.index = 3 → (b.stageOf c).vRefIn = (s.bay.loopChOf c).vRef ∧ (b.stageOf c).iTgt = (s.bay.loopChOf c).iTgt)) := by
  refine completes_commandFrameReceive fit fun c hcn => ?_
  have wale : ((s.bay.heard x f).waleSt n).stoppedAlone = false := by rw [Bay.heard_waleSt, hw]
  rw [Bay.commandReceive_of_alone _ _ _ _ hh hc hg]
  refine ⟨fun hj => ?_, fun hj => ?_⟩
  · have used := Bay.takeFrame_used_of_early (role := f.role.toNat) (seq := f.seq.toNat) (j := f.index) hn wale hcn (fun h => hj (Fin.ext h))
    rw [Bay.heard_refsOf] at used
    exact Prod.ext_iff.1 used
  · have used := Bay.takeFrame_used_of_last (role := f.role.toNat) (seq := f.seq.toNat) (j := f.index) hn wale hcn (Fin.ext_iff.1 hj)
    rw [Bay.heard_refsOf] at used
    exact Prod.ext_iff.1 used

theorem completes_commandFrameReceive_of_free (hh : (s.bay.slotOf n).holder = 0) (hg : (s.bay.slotOf n).good f (s.bay.receivedAt f.index) = true) :
    completes (.commandFrameReceive n x f) s (fun b => (b.slotOf n).holder = x.val + 1 ∧ (b.slotOf n).lastSeq = f.seq.toNat ∧ (b.slotOf n).lastRole = f.role.toNat ∧
      (b.slotOf n).misses = 0 ∧ (b.slotOf n).lastAcc = s.bay.receivedAt f.index) := by
  refine completes_commandFrameReceive fit ?_
  rw [Bay.commandReceive_of_free _ _ _ _ hh hg, Bay.takeFrame_slotOf, Bay.setHolder_slotOf, Bay.setHolder_now, Bay.heard_now]
  exact ⟨rfl, rfl, rfl, rfl, rfl⟩

theorem completes_commandFrameReceive_of_stray (hcrc : f.crc = false) (hh : (s.bay.slotOf n).holder ≠ x.val + 1)
    (hj : s.bay.joining x = true → s.bay.role x ≠ 1) :
    completes (.commandFrameReceive n x f) s (fun b => b.slotOf n = s.bay.slotOf n ∧ keepsRegs s.bay b []) := by
  refine completes_commandFrameReceive fit ?_
  rw [Bay.commandReceive_of_stray _ _ _ _ hh (SlotView.not_good_of_crc _ hcrc _), Bay.heard_of_synced _ _ _ hj]
  exact ⟨rfl, fun _ _ => rfl⟩

end

end Sys2Proof.Machine
end

section
/-! PROOFS. A stage misses frames of its holder (R343, R350). -/

namespace Sys2Proof.Machine

section
variable (b : Bay) (n : Nat)

/-- A miss is due once 12 µs have passed for each miss already counted. -/
theorem Bay.holderMiss_of_due (hh : (b.slotOf n).holder ≠ 0) (ht : (b.slotOf n).lastAcc + 12 * usTicks * ((b.slotOf n).misses + 1) ≤ b.now) :
    b.holderMiss n = b.holderMissed n (min 2 ((b.now - (b.slotOf n).lastAcc) / (12 * usTicks))) false := by
  have late := Nat.not_lt.2 ht
  simp only [Bay.holderMiss, hh, late, decide_false, Bool.false_and, Bool.false_eq_true, if_false, Bool.or_self]

theorem Bay.stopFor_keepsUnits (code : Nat) : keepsUnits b (b.stopFor code) := by
  simp only [Bay.stopFor, Bay.recordStop]
  repeat' split
  all_goals exact ⟨rfl, rfl⟩

theorem Bay.pairFault_slotOf (side : Nat) : (b.pairFault side).slotOf n = b.slotOf n := by
  simp only [Bay.pairFault, Bay.endGroup]
  split
  · exact (Bay.stopFor_keepsUnits _ 7).slotOf n
  · rfl

theorem Bay.openWin_slotOf (k side : Nat) : (b.openWin k side).slotOf n = b.slotOf n := by
  simp only [Bay.openWin]
  split <;> rfl

theorem Bay.openWin_winOpen (k side : Nat) : (b.openWin k side).winOpen k = true := by
  unfold Bay.openWin
  split
  · assumption
  · simp [Bay.winOpen]

/-- What the first miss of a holder does to the pairing group (R350). -/
def Bay.openSwitchOver (b : Bay) (side : Nat) : Bay := if b.lockstep then (b.pairFault side).openWin 1 side else b

/-- The first miss opens the switch-over window and is counted. -/
theorem Bay.holderMissed_first (hh : (b.slotOf n).holder ≠ 0) (hm : (b.slotOf n).misses = 0) (suspect : Bool) :
    b.holderMissed n 1 suspect = (b.openSwitchOver ((b.slotOf n).holder - 1)).onSlot n (fun v => { v with misses := 1 }) := by
  simp [Bay.holderMissed, Bay.openSwitchOver, hh, hm]

/-- The second miss is counted and asks for the other cartridge. -/
theorem Bay.holderMissed_second (hh : (b.slotOf n).holder ≠ 0) (hm : (b.slotOf n).misses = 1) (suspect : Bool) :
    b.holderMissed n 2 suspect = (b.onSlot n (fun v => { v with misses := 2 })).secondMiss n suspect := by
  simp [Bay.holderMissed, hh, hm]

theorem Bay.secondMiss_of_none (h : (b.slotOf n).cand = none) (suspect : Bool) : b.secondMiss n suspect = b := by simp [Bay.secondMiss, h]

/-- The second miss recorded, once in a frame. -/
def Bay.recordSwitchOver (b : Bay) (n : Nat) (suspect : Bool) : Bay :=
  if b.red.soEdge != some (frameStart b.now) then b.redRecord (if suspect then 2 else 1) (b.slotOf n).holder n else b

theorem Bay.secondMiss_of_some {q : Nat × Nat × Nat} (h : (b.slotOf n).cand = some q) (hr : 2 ≤ q.2.1) (ht : b.now - q.1 ≤ 10 * usTicks) (suspect : Bool) :
    b.secondMiss n suspect = ((b.recordSwitchOver n suspect).setHolder n (other ((b.slotOf n).holder - 1) + 1)).acceptFrame n q.2.1 q.2.2 q.1 (q.2.2 % 4) := by
  simp [Bay.secondMiss, h, hr, ht, Bay.recordSwitchOver, Option.filter]

theorem Bay.recordSwitchOver_now (suspect : Bool) : (b.recordSwitchOver n suspect).now = b.now := by
  simp only [Bay.recordSwitchOver]
  split <;> rfl

theorem Bay.setHolder_time (new : Nat) : (b.setHolder n new).rd F.RED_SO_T = b.now := by
  simp only [Bay.setHolder]
  split <;> simp [Bay.onSlot]

theorem other_succ {h : Nat} (hh : h = 1 ∨ h = 2) : other (h - 1) + 1 = 3 - h := by
  obtain rfl | rfl := hh <;> rfl

end

section
variable {s : State} {n : Fin 5} (fit : s.bay.slotFitted n = true) (hh : (s.bay.slotOf n).holder ≠ 0)

theorem exec_holderMiss (n : Fin 5) (s : State) : exec (.holderMiss n) s = s.onBay (fun b => if b.slotFitted n then b.holderMiss n else b) := rfl

include fit hh

theorem completes_holderMiss {P : Bay → Prop} {count : Nat}
    (ht : (s.bay.slotOf n).lastAcc + 12 * usTicks * ((s.bay.slotOf n).misses + 1) ≤ s.bay.now)
    (hc : min 2 ((s.bay.now - (s.bay.slotOf n).lastAcc) / (12 * usTicks)) = count)
    (h : P (s.bay.holderMissed n count false)) : completes (.holderMiss n) s P := by
  refine completes_onBay (exec_holderMiss n s) ?_
  rw [← hc] at h
  simpa only [fit, if_true, Bay.holderMiss_of_due s.bay n hh ht] using h

theorem completes_holderMiss_first (hm : (s.bay.slotOf n).misses = 0) (ht : (s.bay.slotOf n).lastAcc + 12 * usTicks ≤ s.bay.now)
    (hl : s.bay.now < (s.bay.slotOf n).lastAcc + 24 * usTicks) :
    completes (.holderMiss n) s (fun b => (b.slotOf n).misses = 1 ∧ (b.slotOf n).holder = (s.bay.slotOf n).holder ∧ b.now = s.bay.now ∧
      (s.bay.lockstep = true → b.winOpen 1 = true) ∧ (s.bay.lockstep = false → keepsRegs s.bay b [])) := by
  refine completes_holderMiss fit hh (count := 1) (by simpa [hm] using ht) (by simp only [usTicks] at *; omega) ?_
  rw [Bay.holderMissed_first _ _ hh hm]
  have view : (s.bay.openSwitchOver ((s.bay.slotOf n).holder - 1)).slotOf n = s.bay.slotOf n := by
    unfold Bay.openSwitchOver
    split
    · rw [Bay.openWin_slotOf, Bay.pairFault_slotOf]
    · rfl
  refine ⟨?_, ?_, ?_, fun hk => ?_, fun hk => ?_⟩
  · simp [Bay.onSlot]
  · simp [Bay.onSlot, view]
  · unfold Bay.openSwitchOver
    split <;> simp [Bay.onSlot]
  · simp only [Bay.openSwitchOver, hk, if_true]
    exact Bay.openWin_winOpen ..
  · simp only [Bay.openSwitchOver, hk, Bool.false_eq_true, if_false]
    exact keepsRegs_refl _ _

theorem completes_holderMiss_second {P : Bay → Prop} (hm : (s.bay.slotOf n).misses = 1) (ht : (s.bay.slotOf n).lastAcc + 24 * usTicks ≤ s.bay.now)
    (h : P ((s.bay.onSlot n (fun v => { v with misses := 2 })).secondMiss n false)) : completes (.holderMiss n) s P := by
  refine completes_holderMiss fit hh (count := 2) (by simp only [usTicks, hm] at *; omega) (by simp only [usTicks] at *; omega) ?_
  rwa [Bay.holderMissed_second _ _ hh hm]

theorem completes_holderMiss_waits (hm : (s.bay.slotOf n).misses = 1) (ht : (s.bay.slotOf n).lastAcc + 24 * usTicks ≤ s.bay.now)
    (hc : (s.bay.slotOf n).cand = none) :
    completes (.holderMiss n) s (fun b => (b.slotOf n).holder = (s.bay.slotOf n).holder ∧ (b.slotOf n).misses = 2 ∧ keepsRegs s.bay b []) := by
  refine completes_holderMiss_second fit hh hm ht ?_
  rw [Bay.secondMiss_of_none _ _ (by simpa [Bay.onSlot] using hc)]
  exact ⟨by simp [Bay.onSlot], by simp [Bay.onSlot], fun _ _ => rfl⟩

end

theorem completes_holderMiss_moves {s : State} {n : Fin 5} (fit : s.bay.slotFitted n = true) {q : Nat × Nat × Nat}
    (hh : (s.bay.slotOf n).holder = 1 ∨ (s.bay.slotOf n).holder = 2) (hm : (s.bay.slotOf n).misses = 1)
    (ht : (s.bay.slotOf n).lastAcc + 24 * usTicks ≤ s.bay.now) (hc : (s.bay.slotOf n).cand = some q) (hr : 2 ≤ q.2.1) (hq : s.bay.now - q.1 ≤ 10 * usTicks) :
    completes (.holderMiss n) s (fun b => (b.slotOf n).holder = 3 - (s.bay.slotOf n).holder ∧ (b.slotOf n).misses = 0 ∧ (b.slotOf n).lastSeq = q.2.2 ∧
      (b.slotOf n).lastAcc = q.1 ∧ b.rd F.RED_SO_T = s.bay.now) := by
  refine completes_holderMiss_second fit (by omega) hm ht ?_
  rw [Bay.secondMiss_of_some (s.bay.onSlot n (fun v => { v with misses := 2 })) _ (q := q) (by simpa [Bay.onSlot] using hc) hr hq, Bay.acceptFrame_slotOf, Bay.setHolder_slotOf,
    Bay.acceptFrame_rd _ _ _ _ _ _ (by decide), Bay.setHolder_time, Bay.recordSwitchOver_now]
  refine ⟨?_, rfl, rfl, rfl, rfl⟩
  simpa [SlotView.accepted, Bay.onSlot] using other_succ hh

end Sys2Proof.Machine
end

section
/-! PROOFS. A stage without an accepted frame for 100 µs stops on its own (R30, R102, R387). -/

namespace Sys2Proof.Machine

/-- What the stop of a wale's stage does to one channel. -/
def Bay.stopChannel (b : Bay) (c : Nat) : Bay := ((if b.switchClosed c then b.chanFault c 11 255 else b).stageRamp c 2).hold c 10

/-- The view of a stage that has stopped. -/
def SlotView.halted (v : SlotView) : SlotView := { v with stopped := true }

/-- A wale's stage is marked as stopped. -/
def Bay.markStopped (b : Bay) (n : Nat) : Bay :=
  (b.onSlot n SlotView.halted).setWale n { (b.onSlot n SlotView.halted).waleSt n with stoppedAlone := true }

/-- What the stop of wale n's stage does before the bay's own stop. -/
def Bay.stopWale (b : Bay) (n : Nat) : Bay := (((b.markStopped n).each (waleChans n) Bay.stopChannel).waleRecord n 11).raiseD (128 + n) 11

section
variable (b : Bay) (c n : Nat)

theorem Bay.stageStops_of_wale (hn : n < 4) : b.stageStops n = (b.stopWale n).stopFor 3 := by
  rw [Bay.stageStops]
  simp only [hn, if_true]
  rfl

theorem Bay.stageStops_of_x (hn : n = 4) : b.stageStops n = ((b.onSlot n SlotView.halted).stoAll 14).stopFor 3 := by
  subst hn
  rfl

theorem Bay.markStopped_slotOf : (b.markStopped n).slotOf n = (b.slotOf n).halted := Bay.slotOf_setSlot_same ..

theorem Bay.markStopped_waleSt : ((b.markStopped n).waleSt n).stoppedAlone = true := by rw [Bay.markStopped, Bay.waleSt_setWale_same]

theorem Bay.stopChannel_keepsUnits : keepsUnits b (b.stopChannel c) := by
  refine keepsUnits.trans ?_ (Bay.hold_keepsUnits _ c 10)
  refine keepsUnits.trans ?_ (Bay.stageRamp_keepsUnits _ c 2)
  split
  · exact Bay.chanFault_keepsUnits ..
  · exact keepsUnits_refl _

theorem Bay.stopChannel_mode : (b.stopChannel c).mode = b.mode := by
  simp only [Bay.stopChannel, Bay.mode]
  split <;> simp

theorem Bay.stopWale_keepsUnits : keepsUnits (b.markStopped n) (b.stopWale n) :=
  ((keepsUnits_each Bay.stopChannel_keepsUnits _ _).trans (Bay.waleRecord_keepsUnits _ n 11)).trans (Bay.raiseD_keepsUnits _ _ _)

theorem Bay.stopWale_mode : (b.stopWale n).mode = b.mode := by
  have chans : ((b.markStopped n).each (waleChans n) Bay.stopChannel).mode = (b.markStopped n).mode :=
    Bay.each_keeps Bay.mode _ Bay.stopChannel_mode _ _
  rw [Bay.mode, Bay.stopWale, Bay.raiseD_rd _ _ _ (by decide), Bay.waleRecord_rd _ _ _ (by decide)]
  exact chans

theorem Bay.queueRecord_chanOf (r : FramRec) (d : Nat) : (b.queueRecord c r).chanOf d = b.chanOf d := by
  simp only [Bay.queueRecord]
  split <;> simp

theorem Bay.chanFault_chanOf (cause detail d : Nat) : (b.chanFault c cause detail).chanOf d = b.chanOf d := by
  simp only [Bay.chanFault, Bay.recEvent, Bay.putEntry_chanOf, Bay.chanOf_raiseD, Bay.queueRecord_chanOf]
  split <;> simp

theorem Bay.stageRamp_chanOf (ms : Int) (d : Nat) : (b.stageRamp c ms).chanOf d = b.chanOf d := by
  simp only [Bay.stageRamp]
  split <;> simp

theorem Bay.hold_chanOf_of_ne (cause : Nat) {d : Nat} (h : c ≠ d) : (b.hold c cause).chanOf d = b.chanOf d := by
  simp only [Bay.hold, Bay.recEvent, Bay.markInterval, Bay.endDonation, Bay.syncMode]
  repeat' split
  all_goals simp [h]

theorem Bay.stopChannel_chanOf_of_ne {d : Nat} (h : c ≠ d) : (b.stopChannel c).chanOf d = b.chanOf d := by
  rw [Bay.stopChannel, Bay.hold_chanOf_of_ne _ _ _ h, Bay.stageRamp_chanOf]
  split
  · rw [Bay.chanFault_chanOf]
  · rfl

theorem Bay.stopChannel_holds : 10 ∈ ((b.stopChannel c).chanOf c).holds := by
  rw [Bay.stopChannel]
  exact Bay.hold_holds ..

/-- Each channel of a wale that has stopped holds with cause 10 (R30). -/
theorem Bay.stopWale_holds (hc : c ∈ waleChans n) : 10 ∈ ((b.stopWale n).chanOf c).holds := by
  have held : 10 ∈ (((b.markStopped n).each (waleChans n) Bay.stopChannel).chanOf c).holds := by
    refine Bay.each_reaches (P := fun _ => True) (Q := fun b => 10 ∈ (b.chanOf c).holds) (f := Bay.stopChannel) (c := c) (fun _ _ _ _ => trivial)
      (fun b _ => Bay.stopChannel_holds b c) (fun b d hb => ?_) hc trivial
    by_cases own : d = c
    · subst own
      exact Bay.stopChannel_holds b d
    · rwa [Bay.stopChannel_chanOf_of_ne b d own]
  rwa [Bay.stopWale, Bay.chanOf_raiseD, Bay.waleRecord, Bay.queueRecord_chanOf]

theorem Bay.stopFor_chan (code : Nat) : (b.stopFor code).chan = b.chan := by
  simp only [Bay.stopFor, Bay.recordStop]
  repeat' split
  all_goals rfl

/-- In ENERGIZED a cause of SAFE-STOP waits for the frame edge (R383). -/
theorem Bay.stopFor_stops (h : b.mode = Mode.energized) (code : Nat) : code ∈ (b.stopFor code).modeSt.stops := by
  simp only [Bay.stopFor, h]
  by_cases held : code ∈ b.modeSt.stops
  · simp [held]
  · simp [held]

theorem Bay.stoAll_slotv (cause : Nat) : (b.stoAll cause).slotv = b.slotv := by
  refine Bay.each_keeps Bay.slotv _ (fun b a => ?_) b allAxes
  simp only [Bay.stoAxis, Bay.brakeNow]
  repeat' split
  all_goals simp

end

theorem exec_commandFrameTimeout_of_due {s : State} {n : Fin 5} (fit : s.bay.slotFitted n = true) (hs : (s.bay.slotOf n).stopped = false)
    (ht : (s.bay.slotOf n).lastAcc + 100 * usTicks ≤ s.bay.now) : exec (.commandFrameTimeout n) s = s.onBay (fun b => b.stageStops n) := by
  change execCommandFrameTimeout n s = _
  have late := Nat.not_lt.2 ht
  simp only [execCommandFrameTimeout, State.onBay, fit, hs, ht, late, decide_false, decide_true, Bool.false_and, Bool.not_false, Bool.and_self,
    Bool.false_eq_true, if_false, if_true]

section
variable {s : State} {n : Fin 5} (fit : s.bay.slotFitted n = true) (hs : (s.bay.slotOf n).stopped = false)
  (ht : (s.bay.slotOf n).lastAcc + 100 * usTicks ≤ s.bay.now)
include fit hs ht

theorem completes_commandFrameTimeout_of_wale (hn : n.val < 4) :
    completes (.commandFrameTimeout n) s (fun b => (b.slotOf n).stopped = true ∧ (b.waleSt n).stoppedAlone = true ∧
      (s.bay.mode = Mode.energized → 3 ∈ b.modeSt.stops) ∧ ∀ c ∈ waleChans n, 10 ∈ (b.chanOf c).holds) := by
  refine completes_onBay (exec_commandFrameTimeout_of_due fit hs ht) ?_
  have units := (Bay.stopWale_keepsUnits s.bay n).trans (Bay.stopFor_keepsUnits _ 3)
  rw [Bay.stageStops_of_wale _ _ hn]
  refine ⟨?_, ?_, fun hm => Bay.stopFor_stops _ ((Bay.stopWale_mode _ _).trans hm) 3, fun c hc => ?_⟩
  · rw [units.slotOf, Bay.markStopped_slotOf]
    rfl
  · rw [units.waleSt, Bay.markStopped_waleSt]
  · rw [Bay.chanOf, Bay.stopFor_chan]
    exact Bay.stopWale_holds _ _ _ hc

theorem completes_commandFrameTimeout_of_x (hn : n.val = 4) :
    completes (.commandFrameTimeout n) s (fun b => (b.slotOf n).stopped = true ∧ (s.bay.mode = Mode.energized → 3 ∈ b.modeSt.stops) ∧
      ∀ a : Fin 6, b.axState a = Ax.sto ∧ (s.bay.axState a ≠ Ax.sto → b.rd (F.AXS_FLT_CAUSE a) = 14)) := by
  refine completes_onBay (exec_commandFrameTimeout_of_due fit hs ht) ?_
  rw [Bay.stageStops_of_x _ _ hn]
  refine ⟨?_, fun hm => Bay.stopFor_stops _ ?_ 3, fun a => ?_⟩
  · rw [(Bay.stopFor_keepsUnits _ 3).slotOf, Bay.slotOf, Bay.stoAll_slotv]
    exact congrArg SlotView.stopped (Bay.slotOf_setSlot_same ..)
  · rw [Bay.mode, Bay.stoAll_rd _ _ (by decide)]
    exact hm
  · obtain ⟨state, cause⟩ := Bay.stoAll_axis (s.bay.onSlot n SlotView.halted) 14 a.isLt
    refine ⟨?_, fun h => ?_⟩
    · rw [Bay.axState, Bay.stopFor_rd _ _ (by simp)]
      exact state
    · rw [Bay.stopFor_rd _ _ (by simp)]
      exact (cause h).1

end

end Sys2Proof.Machine
end

section
/-! PROOFS. The compute deadline: loops that completed, and a channel's loop that missed (R244, R245, R264). -/

namespace Sys2Proof.Machine

/-- At the deadline a loop of an object that did not miss ends its count, unless its samples were missing in this frame. -/
def Bay.endLoop (t o : Nat) (b : Bay) (k : MissKind) : Bay := if b.missedAt o k t then b else b.loopDone o k

/-- At the deadline the loops of an object all completed. -/
def Bay.endLoops (t : Nat) (b : Bay) (o : Nat) : Bay := (loopsDue o t).foldl (Bay.endLoop t o) b

/-- At the deadline of the frame that opened at `t` the loops of one object miss or end their counts. -/
def Bay.closeLoop (missed : List (Nat × MissKind)) (t : Nat) (b : Bay) (o : Nat) : Bay :=
  (loopsDue o t).foldl (fun b k => if missed.contains (o, k) then b.missLoop o k else b.endLoop t o k) b

/-- The objects whose loops run: the channels of fitted wales and the axes of slot X. -/
def Bay.loopObjects (b : Bay) : List Nat := (List.range 70).filter (fun o => b.slotFitted (if o < 64 then o / 16 else 4))

/-- The bay at the deadline of its frame, every lane reading as complete. -/
def Bay.atDeadline (b : Bay) : Bay := (b.atOffset 3750).wr F.LOOP_STAT_LANE_OK 15

/-- The completion time of lane n in the frame that opened at `t`. -/
def Bay.keepEnd (ends : List Nat) (t : Nat) (b : Bay) (n : Nat) : Bay :=
  let v : Int := (ends.getD n 0 : Nat)
  b.wr (laneEndKey n) (if t % secTicks = 0 then v else max v (b.rd (laneEndKey n)))

/-- The completion times of the lanes in the frame that opened at `t`. -/
def Bay.keepEnds (b : Bay) (ends : List Nat) (t : Nat) : Bay := b.each (List.range 4) (Bay.keepEnd ends t)

/-- The loops that the deadline names as missed. -/
def missedLoops (e : FrameEnd) : List (Nat × MissKind) := e.missed.map (fun m => (m.1.val, itemKind m.1.val m.2.val))

section
variable (b : Bay) (missed : List (Nat × MissKind)) (t o : Nat)

theorem Bay.closeLoops_eq : b.closeLoops missed = b.each b.loopObjects (Bay.closeLoop missed (frameStart b.now)) := rfl

theorem Bay.atDeadline_loopObjects : b.atDeadline.loopObjects = b.loopObjects := by
  have same : b.atDeadline.slotFitted = b.slotFitted := by
    funext n
    simp [Bay.atDeadline, Bay.slotFitted, Bay.walePresent, Bay.xPresent, Bay.mPresent, Bay.waleSlot]
  rw [Bay.loopObjects, same, Bay.loopObjects]

/-- Without a CRC or a digest that differs, the deadline closes the loops and keeps the lanes' times. -/
theorem exec_computeDeadline_of_equal {e : FrameEnd} (hc : e.crcDiffer = 0) (hd : e.digestDiffer = false) (s : State) :
    exec (.computeDeadline e) s = s.onBay (fun b => (b.atDeadline.closeLoops (missedLoops e)).keepEnds e.ends (frameStart b.atDeadline.now)) := by
  change s.onBay (fun b => b.computeDeadline e) = _
  simp only [State.onBay, Bay.computeDeadline, hc, hd, ne_eq, not_true_eq_false, decide_false, Bool.and_false, Bool.false_and, Bool.false_eq_true, if_false]
  rfl

theorem Bay.endLoop_rd (k : MissKind) (q : Key) : (Bay.endLoop t o b k).rd q = b.rd q := by
  unfold Bay.endLoop
  split
  · rfl
  · exact Bay.loopDone_rd ..

theorem Bay.endLoop_now (k : MissKind) : (Bay.endLoop t o b k).now = b.now := by
  unfold Bay.endLoop
  split
  · rfl
  · exact Bay.loopDone_now ..

theorem Bay.loopDone_loopChOf_of_ne (k : MissKind) {d : Nat} (h : o ≠ d) : (b.loopDone o k).loopChOf d = b.loopChOf d := by
  cases k <;> simp only [Bay.loopDone]
  all_goals split <;> simp [h]

theorem Bay.loopDone_chan_loopChOf : (b.loopDone o .chan).loopChOf o = { b.loopChOf o with misses := 0 } := by
  simp only [Bay.loopDone]
  split
  · rename_i h
    rw [← h]
  · simp

theorem Bay.endLoop_loopChOf_of_ne (k : MissKind) {d : Nat} (h : o ≠ d) : (Bay.endLoop t o b k).loopChOf d = b.loopChOf d := by
  unfold Bay.endLoop
  split
  · rfl
  · exact Bay.loopDone_loopChOf_of_ne b o k h

theorem Bay.endLoops_rd (q : Key) : (Bay.endLoops t b o).rd q = b.rd q := Bay.foldl_rd (fun b k => Bay.endLoop_rd b t o k q) b _

theorem Bay.endLoops_now : (Bay.endLoops t b o).now = b.now := Bay.foldl_keeps Bay.now (fun b k => Bay.endLoop_now b t o k) _ b

theorem Bay.endLoops_loopChOf_of_ne {d : Nat} (h : o ≠ d) : (Bay.endLoops t b o).loopChOf d = b.loopChOf d :=
  Bay.foldl_keeps (fun b => b.loopChOf d) (fun b k => Bay.endLoop_loopChOf_of_ne b t o k h) _ b

theorem loopsDue_of_chan (h : o < 64) : loopsDue o t = [.chan] := by simp [loopsDue, h]

/-- A channel's loop that completed counts no miss in a row. -/
theorem Bay.endLoops_misses (h : o < 64) (hm : (b.loopChOf o).missAt ≠ some t) : ((Bay.endLoops t b o).loopChOf o).misses = 0 := by
  have fresh : b.missedAt o .chan t = false := by simpa [Bay.missedAt] using hm
  simp only [Bay.endLoops, loopsDue_of_chan t o h, List.foldl_cons, List.foldl_nil, Bay.endLoop, fresh, Bool.false_eq_true, if_false,
    Bay.loopDone_chan_loopChOf]

theorem Bay.closeLoop_of_noMiss (h : ∀ k, (o, k) ∉ missed) : b.closeLoop missed t o = Bay.endLoops t b o := by
  simp [Bay.closeLoop, Bay.endLoops, h]

theorem Bay.closeLoop_of_miss (h : o < 64) (hm : (o, .chan) ∈ missed) : b.closeLoop missed t o = b.missLoop o .chan := by
  simp [Bay.closeLoop, loopsDue_of_chan t o h, hm]

theorem Bay.closeLoops_of_noMiss : b.closeLoops [] = b.each b.loopObjects (Bay.endLoops (frameStart b.now)) := by
  rw [Bay.closeLoops_eq]
  exact List.foldl_ext _ _ _ (fun b o _ => Bay.closeLoop_of_noMiss b [] _ o (by simp))

theorem Bay.keepEnds_rd (ends : List Nat) {q : Key} (h : q ∉ [F.LOOP_LANE0_END, F.LOOP_LANE1_END, F.LOOP_LANE2_END, F.LOOP_LANE3_END]) :
    (b.keepEnds ends t).rd q = b.rd q := by
  simp only [List.mem_cons, List.not_mem_nil, or_false, not_or] at h
  refine Bay.each_rd (fun b n => Bay.rd_wr_of_ne _ _ ?_) b _
  unfold laneEndKey
  split <;> simp [h]

theorem Bay.keepEnds_now (ends : List Nat) : (b.keepEnds ends t).now = b.now := Bay.each_now (f := Bay.keepEnd ends t) (fun _ _ => rfl) b _

theorem Bay.keepEnds_loopChOf (ends : List Nat) (d : Nat) : (b.keepEnds ends t).loopChOf d = b.loopChOf d :=
  Bay.each_keeps (fun b => b.loopChOf d) (Bay.keepEnd ends t) (fun _ _ => rfl) b _

theorem Bay.atDeadline_rd {q : Key} (h : q ≠ F.LOOP_STAT_LANE_OK) : b.atDeadline.rd q = b.rd q := by simp [Bay.atDeadline, h]

theorem Bay.mem_loopObjects_of_chan (h : o < 64) : o ∈ b.loopObjects ↔ b.slotFitted (o / 16) = true := by
  simp [Bay.loopObjects, h, show o < 70 by omega]

theorem Bay.loopObjects_nodup : b.loopObjects.Nodup := List.nodup_range.filter _

end

theorem completes_computeDeadline {e : FrameEnd} (hm : e.missed = []) (hc : e.crcDiffer = 0) (hd : e.digestDiffer = false) (s : State) :
    completes (.computeDeadline e) s (fun b => b.now = max s.bay.now (frameStart s.bay.now + 3750) ∧ b.rd F.LOOP_STAT_LANE_OK = 15 ∧
      (∀ o : Nat, o < 64 → s.bay.slotFitted (o / 16) = true → (s.bay.loopChOf o).missAt ≠ some (frameStart b.now) → (b.loopChOf o).misses = 0) ∧
      keepsRegs s.bay b [F.LOOP_STAT_LANE_OK, F.LOOP_LANE0_END, F.LOOP_LANE1_END, F.LOOP_LANE2_END, F.LOOP_LANE3_END]) := by
  refine completes_onBay (exec_computeDeadline_of_equal hc hd s) ?_
  rw [show missedLoops e = [] by rw [missedLoops, hm]; rfl, Bay.closeLoops_of_noMiss, Bay.atDeadline_loopObjects]
  have clock (t : Nat) (l : List Nat) : (s.bay.atDeadline.each l (Bay.endLoops t)).now = s.bay.atDeadline.now :=
    Bay.each_now (fun b o => Bay.endLoops_now b t o) _ _
  have regs (t : Nat) (l : List Nat) (q : Key) : (s.bay.atDeadline.each l (Bay.endLoops t)).rd q = s.bay.atDeadline.rd q :=
    Bay.each_rd (fun b o => Bay.endLoops_rd b t o q) _ _
  rw [Bay.keepEnds_now, clock]
  refine ⟨rfl, ?_, fun o ho fit fresh => ?_, fun q hq => ?_⟩
  · rw [Bay.keepEnds_rd _ _ _ (by decide), regs, Bay.atDeadline, Bay.rd_wr_same]
  · obtain ⟨b', before, own⟩ := Bay.each_of_mem (g := fun b => b.loopChOf o) (f := Bay.endLoops (frameStart s.bay.atDeadline.now))
      (fun b m h => Bay.endLoops_loopChOf_of_ne b _ m h) s.bay.atDeadline (Bay.loopObjects_nodup s.bay) ((Bay.mem_loopObjects_of_chan _ _ ho).2 fit)
    rw [Bay.keepEnds_loopChOf, own]
    exact Bay.endLoops_misses b' _ o ho (by rw [before]; exact fresh)
  · obtain ⟨lane, ends⟩ := List.ne_and_not_mem_of_not_mem_cons hq
    rw [Bay.keepEnds_rd _ _ _ ends, regs, Bay.atDeadline_rd _ lane]

/-! ## A channel's loop that misses (R244, R245) -/

/-- What concerns a missed loop of channel c. -/
def Bay.missView (b : Bay) (c : Nat) : LoopCh × Int × Int × Int × Nat :=
  (b.loopChOf c, b.rd F.LOOP_STAT_DL, b.rd F.LOOP_DL_LAST_OBJ, b.rd F.LOOP_DL_CNT, b.now)

section
variable (b : Bay) (c t : Nat)

theorem Bay.traceMiss_loopChOf (n obj : Nat) (k : MissKind) (d : Nat) : (b.traceMiss n obj k).loopChOf d = b.loopChOf d := by
  simp only [Bay.traceMiss]
  repeat' split
  all_goals rfl

theorem Bay.endLoops_missView {o : Nat} (h : o ≠ c) : (Bay.endLoops t b o).missView c = b.missView c := by
  simp only [Bay.missView, Bay.endLoops_loopChOf_of_ne b t o h, Bay.endLoops_rd, Bay.endLoops_now]

/-- The registers of a missed loop of channel c (R264). -/
def Bay.showMiss (b : Bay) (c : Nat) : Bay :=
  let b := ((b.setFlag F.LOOP_STAT_DL true).bump32 F.LOOP_DL_CNT).wr F.LOOP_DL_LAST_OBJ c
  let b := b.wr F.LOOP_DL_LAST_LANE (laneOf c)
  b.wr F.LOOP_STAT_LANE_OK (clearBitN (b.rdN F.LOOP_STAT_LANE_OK) (laneOf c))

theorem Bay.missLoop_of_ran (h : c < 64) (ran : (b.loopChOf c).ranAt = some (frameStart b.now)) (fresh : (b.loopChOf c).missAt ≠ some (frameStart b.now)) :
    b.missLoop c .chan = (((b.showMiss c).traceMiss (laneOf c) c .chan).undoChan c).countMisses c .chan (frameStart b.now) := by
  have first : b.missedAt c .chan (frameStart b.now) = false := by simpa [Bay.missedAt] using fresh
  have again : (((b.showMiss c).traceMiss (laneOf c) c .chan).loopChOf c).ranAt = some (frameStart b.now) := by
    rw [Bay.traceMiss_loopChOf]
    exact ran
  rw [Bay.missLoop]
  simp only [first, Bool.false_eq_true, if_false]
  change (((b.showMiss c).traceMiss (laneOf c) c .chan).undoLoop c .chan (frameStart b.now)).countMisses c .chan (frameStart b.now) = _
  simp only [Bay.undoLoop, h, again, if_true, beq_self_eq_true, Bay.onlyIf]

theorem Bay.undoChan_loopChOf : ((b.undoChan c).loopChOf c).vRef = (b.loopChOf c).vRef0 ∧ ((b.undoChan c).loopChOf c).iTgt = (b.loopChOf c).iTgt0 ∧
    ((b.undoChan c).loopChOf c).misses = (b.loopChOf c).misses := by
  simp [Bay.undoChan]

theorem Bay.countMisses_chan_loopChOf : (b.countMisses c .chan t).loopChOf c = { b.loopChOf c with misses := (b.loopChOf c).misses + 1, missAt := some t } := by
  simp only [Bay.countMisses, Bay.onlyIf]
  split <;> simp

theorem Bay.showMiss_rd : (b.showMiss c).rd F.LOOP_STAT_DL = 1 ∧ (b.showMiss c).rd F.LOOP_DL_LAST_OBJ = c ∧
    (b.showMiss c).rd F.LOOP_DL_CNT = (b.rd F.LOOP_DL_CNT + 1) % 4294967296 := by
  simp [Bay.showMiss, Bay.bump32]

/-- A channel's loop that ran and misses goes back to the start of its frame, and the miss is counted. -/
theorem Bay.missLoop_shows (h : c < 64) (ran : (b.loopChOf c).ranAt = some (frameStart b.now)) (fresh : (b.loopChOf c).missAt ≠ some (frameStart b.now)) :
    ((b.missLoop c .chan).loopChOf c).vRef = (b.loopChOf c).vRef0 ∧ ((b.missLoop c .chan).loopChOf c).iTgt = (b.loopChOf c).iTgt0 ∧
      ((b.missLoop c .chan).loopChOf c).misses = (b.loopChOf c).misses + 1 ∧ (b.missLoop c .chan).rd F.LOOP_STAT_DL = 1 ∧
      (b.missLoop c .chan).rd F.LOOP_DL_LAST_OBJ = c ∧ (b.missLoop c .chan).rd F.LOOP_DL_CNT = (b.rd F.LOOP_DL_CNT + 1) % 4294967296 := by
  have shown {q : Key} (hq : q = F.LOOP_STAT_DL ∨ q = F.LOOP_DL_LAST_OBJ ∨ q = F.LOOP_DL_CNT) :
      ((((b.showMiss c).traceMiss (laneOf c) c .chan).undoChan c).countMisses c .chan (frameStart b.now)).rd q = (b.showMiss c).rd q := by
    obtain rfl | rfl | rfl := hq <;> rw [Bay.countMisses_rd _ _ _ _ (by decide), Bay.undoChan_rd _ _ (by decide), Bay.traceMiss_rd]
  obtain ⟨vRef, iTgt, misses⟩ := Bay.undoChan_loopChOf ((b.showMiss c).traceMiss (laneOf c) c .chan) c
  obtain ⟨deadline, object, count⟩ := Bay.showMiss_rd b c
  rw [Bay.traceMiss_loopChOf] at vRef iTgt misses
  rw [Bay.missLoop_of_ran b c h ran fresh, Bay.countMisses_chan_loopChOf, shown (.inl rfl), shown (.inr (.inl rfl)), shown (.inr (.inr rfl))]
  exact ⟨vRef, iTgt, congrArg (· + 1) misses, deadline, object, count⟩

end

theorem completes_computeDeadline_of_miss {e : FrameEnd} {c : Fin 64} (hm : e.missed = [(⟨c.val, by omega⟩, 0)]) (hc : e.crcDiffer = 0)
    (hd : e.digestDiffer = false) {s : State} (fit : s.bay.slotFitted (waleOf c) = true) (ran : (s.bay.loopChOf c).ranAt = some (frameStart s.bay.atDeadline.now))
    (fresh : (s.bay.loopChOf c).missAt ≠ some (frameStart s.bay.atDeadline.now)) :
    completes (.computeDeadline e) s (fun b => (b.loopChOf c).vRef = (s.bay.loopChOf c).vRef0 ∧ (b.loopChOf c).iTgt = (s.bay.loopChOf c).iTgt0 ∧
      (b.loopChOf c).misses = (s.bay.loopChOf c).misses + 1 ∧ b.rd F.LOOP_STAT_DL = 1 ∧ b.rd F.LOOP_DL_LAST_OBJ = c.val ∧
      b.rd F.LOOP_DL_CNT = (s.bay.rd F.LOOP_DL_CNT + 1) % 4294967296) := by
  have named : missedLoops e = [(c.val, .chan)] := by simp [missedLoops, hm, itemKind]
  refine completes_onBay (exec_computeDeadline_of_equal hc hd s) ?_
  simp only [Bay.keepEnds_loopChOf, Bay.keepEnds_rd _ _ _ (show F.LOOP_STAT_DL ∉ _ by decide), Bay.keepEnds_rd _ _ _ (show F.LOOP_DL_LAST_OBJ ∉ _ by decide),
    Bay.keepEnds_rd _ _ _ (show F.LOOP_DL_CNT ∉ _ by decide), named]
  rw [Bay.closeLoops_eq, Bay.atDeadline_loopObjects]
  obtain ⟨b', before, own⟩ := Bay.each_of_mem (g := fun b => b.missView c) (f := Bay.closeLoop [(c.val, .chan)] (frameStart s.bay.atDeadline.now))
    (fun b o h => by rw [Bay.closeLoop_of_noMiss b _ _ o (by simp [h])]; exact Bay.endLoops_missView b c _ h)
    s.bay.atDeadline (Bay.loopObjects_nodup s.bay) ((Bay.mem_loopObjects_of_chan _ _ c.isLt).2 fit)
  rw [Bay.closeLoop_of_miss _ _ _ _ c.isLt (by simp)] at own
  simp only [Bay.missView, Prod.mk.injEq] at before own
  obtain ⟨loop, -, -, count, clock⟩ := before
  obtain ⟨loop', deadline', object', count', -⟩ := own
  have shows := Bay.missLoop_shows b' c c.isLt (by rw [loop, clock]; exact ran) (by rw [loop, clock]; exact fresh)
  rw [loop, count, Bay.atDeadline_rd _ (by decide)] at shows
  rw [loop', deadline', object', count']
  exact shows

end Sys2Proof.Machine

namespace Sys2Proof

open Sys2Proof.Machine

/-- Settles O20: sample frames slot by slot, a command frame from its arrival to the modulators it reaches, the misses of a holder, the stop of a stage and the close of the loops at the deadline, each by its own lemma above. -/
theorem framesHoldersAndDeadline : Obligations.FramesHoldersAndDeadline := by
  unfold Obligations.FramesHoldersAndDeadline
  intro s
  refine ⟨completes_sampleFrameSend s, completes_sampleFrameSend_of_noConflict s, completes_sampleFrameExchange s,
    completes_sampleFrameExchange_of_seen s, fun j => completes_commandFrameSend j s, ?_, ?_, ?_, ?_, ?_, ?_, ?_, ?_, ?_, ?_, ?_⟩
  · exact fun n x f fit hh hc hg => completes_commandFrameReceive_of_alone fit hh hc hg
  · exact fun n x f fit hh hc hn hw hg => completes_commandFrameReceive_targets fit hh hc hn hw hg
  · exact fun n x f fit hh hg => completes_commandFrameReceive_of_free fit hh hg
  · exact fun n x f fit hcrc hh hj => completes_commandFrameReceive_of_stray fit hcrc hh hj
  · exact fun n fit hh hm ht hl => completes_holderMiss_first fit hh hm ht hl
  · exact fun n q fit hh hm ht hc hr hq => completes_holderMiss_moves fit hh hm ht hc hr hq
  · exact fun n fit hh hm ht hc => completes_holderMiss_waits fit hh hm ht hc
  · exact fun n hn fit hs ht => completes_commandFrameTimeout_of_wale fit hs ht hn
  · exact fun n hn fit hs ht => completes_commandFrameTimeout_of_x fit hs ht hn
  · exact fun e hm hc hd => completes_computeDeadline hm hc hd s
  · exact fun e c hm hc hd fit ran fresh => completes_computeDeadline_of_miss hm hc hd fit ran fresh

end Sys2Proof
end
